-- ==== Sys2Proof/Word.lean ====
section
/-! DEFINITION. The word types of the module and their plainest arithmetic (R17, R18). -/

namespace Sys2Proof

/-- A byte of memory. -/
abbrev Byte := BitVec 8
/-- A 32-bit word: a register, an FP32 element. -/
abbrev Word := BitVec 32
/-- A 64-bit word: a scalar register, a system address. -/
abbrev DWord := BitVec 64
/-- A vector register, 128 lanes of 32 bits (R125). -/
abbrev VWord := BitVec 4096

/-- `v` kept in `w` bits. -/
def wrap (w v : Nat) : Nat := v % 2 ^ w

/-- The bits `[lo + w - 1 : lo]` of `v`. -/
def bits (v lo w : Nat) : Nat := v / 2 ^ lo % 2 ^ w

/-- The `w`-bit pattern `v` read as two's complement. -/
def sint (w v : Nat) : Int := if v % 2 ^ w < 2 ^ (w - 1) then (v % 2 ^ w : Nat) else (v % 2 ^ w : Nat) - (2 ^ w : Nat)

/-- The `w`-bit two's complement pattern of `i`, wrapping. -/
def uint (w : Nat) (i : Int) : Nat := (i % (2 ^ w : Nat)).toNat

/-- `v` held at the top of `w` bits. -/
def sat (w v : Nat) : Nat := if v < 2 ^ w then v else 2 ^ w - 1

/-- Bit `k` of `v`. -/
def bit (v k : Nat) : Bool := v / 2 ^ k % 2 == 1

/-- `v` with bit `k` set to `b`. -/
def setBit (v k : Nat) (b : Bool) : Nat := v - v / 2 ^ k % 2 * 2 ^ k + cond b (2 ^ k) 0

/-- `v` with field `[lo + w - 1 : lo]` replaced by `x`. -/
def setBits (v lo w x : Nat) : Nat := v - bits v lo w * 2 ^ lo + x % 2 ^ w * 2 ^ lo

/-- Number of bits set among the low `w` bits of `v`. -/
def popCount (w v : Nat) : Nat := ((List.range w).filter (bit v)).length

/-- The `n` low bytes of `v`, byte 0 first (little-endian, R17). -/
def leBytes : Nat → Nat → List Byte
  | 0, _ => []
  | n + 1, v => BitVec.ofNat 8 v :: leBytes n (v / 256)

/-- The value of a list of bytes, byte 0 first. -/
def ofLeBytes : List Byte → Nat
  | [] => 0
  | b :: bs => b.toNat + 256 * ofLeBytes bs

/-- A division that rounds up. -/
def ceilDiv (a b : Nat) : Nat := (a + b - 1) / b

end Sys2Proof
end

