-- ==== Sys2Proof/Syntax.lean ====
section
/-! DEFINITION. The commands of the block, with the operands each carries. The operands are the model's (log entry 9):
what the environment decides is in the command, everything else is in State. -/

namespace Sys2Proof

/-- Who makes a register access and in which space its address lies (R10, R73, R171, R406, R486): the host driver through BAR0 or BAR2; the
firmware of SH-A or SH-B at a module address, at an offset of BAR0's layout, or in its Shepherd's own address space. -/
inductive Requester where
  | hostBar0 | hostBar2 | shepherdA | shepherdB | bar0A | bar0B | localA | localB
deriving DecidableEq, Repr

/-- One slot of a bundle issued by station `st` (die * 64 + physical position): the 64 bits of the slot, and whether it
is the last slot of its bundle that holds an operation (log entry 4). -/
structure Slot where
  st : Nat
  w : Nat
  last : Bool
deriving DecidableEq, Repr

/-- One direction of a UCIe module: the receiving die and edge (0 north, 1 east, 2 south, 3 west) and the module; link die n is
die 16 + n, with edge 0. -/
structure UcieLink where
  die : Nat
  edge : Nat
  lane : Nat
deriving DecidableEq, Repr

/-- A clock island (R44). -/
inductive Island where
  | station (st : Nat)
  | segment (die edge : Nat)
  | controller (stack : Nat)
  | linkDie (n : Nat)
deriving DecidableEq, Repr

/-- A telegram header (R230) with the outcome of the receiver's CRC check; `nbr` is the tree neighbour that sent it. -/
structure TelHead where
  level : Nat
  sender : Nat
  flock : Nat
  stroke : Nat
  alive : Nat
  combined : Bool
  crcOk : Bool
  nbr : Nat
deriving DecidableEq, Repr

/-- The START body (R234). -/
structure StartBody where
  periodUs : Nat
  warnDelayUs : Nat
  leadUs : Nat
  kind : Nat
  first : Bool
  last : Bool
  replay : Bool
  arm : Bool
  replayClass : Nat
  inbound : List Nat
deriving DecidableEq, Repr

/-- The HEADROOM body (R235). -/
structure HeadroomBody where
  periodUs : Nat
  startDelayUs : Nat
  lateUs : Nat
  headroomMj : Nat
  decision : Nat
  capActive : Bool
  atReserve : Bool
  count : Nat
  missing : Nat
  setter : Nat
deriving DecidableEq, Repr

/-- The TALLY body (R237): a station (die * 64 + logical number) or the flock of the header. -/
structure TallyBody where
  tally : Nat
  toFlock : Bool
  target : Nat
  value : Nat
  dest : Nat
deriving DecidableEq, Repr

/-- The LOSS body (R237). -/
structure LossBody where
  lost : Nat
  reason : Nat
  detector : Nat
deriving DecidableEq, Repr

/-- The ECHO body (R237). -/
structure EchoBody where
  originator : Nat
  reply : Bool
  seq : Nat
  t1 : Nat
  t2 : Nat
  t3 : Nat
deriving DecidableEq, Repr


/-- The kinds of fabric flit (R56). -/
inductive FlitKind where
  | readRequest | readResponse | write | writeAck | tallySignal | strokeStart | droverBulk | telegram | errorResponse
deriving DecidableEq, Repr

/-- A fabric flit (R56). `src` and `dst` are endpoints: station die * 64 + position, controller 1024 + stack, link die
2048 + n. A tally signal carries its tally in `tag` and its value in `len`. `drv` names the drover (station * 2 + k) and
`tag` the transfer of a bulk flit; `isRead` marks a bulk read request and `dest` the system address its data goes to;
`payload` holds the bytes, none where a byte is not written. `origin` is the other module a request came from. `pos` is the die it has
reached on its route (R52), link die n as 16 + n, none at its source's; `via` is the module, virtual channel and port of a flit that leaves
the module (R281). -/
structure Flit where
  kind : FlitKind
  src : Nat
  dst : Nat
  addr : Nat
  len : Nat
  tag : Nat
  cause : Nat
  stroke : Nat
  payload : List (Option Byte)
  drv : Option Nat
  piece : Nat
  isRead : Bool
  staged : Bool
  dest : Nat
  origin : Option Nat
  pos : Option Nat
  via : Option (Nat × Nat × Nat)
deriving DecidableEq, Repr

/-- A flit with every field at 0. -/
def Flit.blank (k : FlitKind) : Flit :=
  { kind := k, src := 0, dst := 0, addr := 0, len := 0, tag := 0, cause := 0, stroke := 0, payload := [], drv := none
    piece := 0, isRead := false, staged := false, dest := 0, origin := none, pos := none, via := none }

/-- A Korrel flit (R264): its type, virtual channel, sequence number, the modules, the fabric flit it carries (ftype 1)
or the words of its body. -/
structure KFlit where
  ftype : Nat
  vc : Nat
  seq : Nat
  destModule : Nat
  srcModule : Nat
  flit : Option Flit
  body : List Nat
deriving DecidableEq, Repr

/-- A Korrel flit as it arrives at a port (R264): the outcome of its CRC check, its acknowledgements and credit fields, and the FEC
codewords corrected and not correctable since the flit before it (R296). -/
structure KRecv where
  k : KFlit
  crcOk : Bool
  ack0 : Nat
  ack1 : Nat
  credits : List Nat
  fecFixed : Nat
  fecBad : Nat
deriving DecidableEq, Repr

/-- The body of a TRAIN_ID (R266). -/
structure TrainBody where
  peerKind : Nat
  peerId : Nat
  peerPort : Nat
  levelLo : Nat
  levelHi : Nat
  credits : List Nat
deriving DecidableEq, Repr

/-- What a loop's converters deliver in one period (R372, R373, R400, R402-R405): BF words for the primary sense (one for
each member of a balance loop), the fallback sense, the input quantity and the disturbance input; whether the conversion
counts have advanced; the output delay in units of 2 ns; whether the two datapaths disagree. -/
structure LoopSample where
  primary : List Nat
  fallback : Nat
  fresh : Bool
  fallbackFresh : Bool
  inputQ : Nat
  dist : Nat
  delay : Nat
  mismatch : Bool
deriving DecidableEq, Repr

/-- The window of a telemetry channel that ends (R407): channel, average, lowest, highest and latest sample, two's
complement of 32 bits. -/
structure TlmWindow where
  channel : Nat
  avg : Nat
  lo : Nat
  hi : Nat
  last : Nat
deriving DecidableEq, Repr

/-- What a cell monitor samples in its conversion window (R460-R462, R472): eight cell voltages in 100 µV, two temperatures
in 0.01 °C (two's complement), its die temperature, the bleed switches found closed, its self-check. -/
structure CellSample where
  v : List Nat
  t0 : Nat
  t1 : Nat
  dieC : Nat
  closed : Nat
  ok : Bool
deriving DecidableEq, Repr

/-- An access at the debug port (R570): a session of a level opens or closes; `n` bytes of the SRAM or the flash of a Shepherd are
read, inside or outside its key slots, or written; control space is read or written; a Shepherd is halted, stepped or resumed. -/
inductive DebugAccess where
  | openSession (level : Nat)
  | closeSession
  | readShepherd (w : Nat) (keySlot : Bool) (n : Nat)
  | writeShepherd (w : Nat) (data : List Byte)
  | readControl (addr n : Nat)
  | writeControl (addr : Nat) (data : List Byte)
  | halt (w : Nat)
  | step (w : Nat)
  | resume (w : Nat)
deriving DecidableEq, Repr

/-- The commands: one constructor per row of the opcode table, in its order. -/
inductive Instr where
  /-- REGISTER_WRITE (R12): A write to a register that has no row of its own takes effect field by field; reserved encodings and narrow writes are discarded. -/
  | registerWrite (who : Requester) (addr : Nat) (data : List Byte)
  /-- NOP (R128): A slot with opcode 0x00 does nothing; an all-zero bundle takes one issue cycle. -/
  | nop (ix : Nat) (sl : Slot)
  /-- MMUL (R136): Issues a matrix multiply of nblk blocks into an accumulator tile, checked at issue and queued in the matrix engine. -/
  | mmul (sl : Slot)
  /-- MZERO (R136): Sets every element of an accumulator tile to +0 in one engine cycle. -/
  | mzero (sl : Slot)
  /-- MATRIX_OP_START (R137): A queued matrix operation starts in the engine once the operation ahead nears its last update. -/
  | matrixOpStart (st : Nat)
  /-- MATRIX_OP_COMPLETE (R137): A matrix operation's tile becomes complete after its last rank-1 update and its flags are set. -/
  | matrixOpComplete (st : Nat)
  /-- VLD (R140): Loads 512 bytes from a station window into a V register. -/
  | vld (sl : Slot)
  /-- VST (R140): Stores the selected lanes of a V register to a station window. -/
  | vst (sl : Slot)
  /-- SLD (R140): Loads 8 bytes from a station window into an S register. -/
  | sld (sl : Slot)
  /-- SST (R140): Stores an S register in 8 bytes of a station window. -/
  | sst (sl : Slot)
  /-- VADD_F32 (R102): FP32 lane addition rounded to nearest-even. -/
  | vaddF32 (sl : Slot)
  /-- VSUB_F32 (R102): FP32 lane subtraction rounded to nearest-even. -/
  | vsubF32 (sl : Slot)
  /-- VMUL_F32 (R102): FP32 lane multiplication rounded to nearest-even. -/
  | vmulF32 (sl : Slot)
  /-- VFMA_F32 (R103): FP32 fused multiply-add with one rounding. -/
  | vfmaF32 (sl : Slot)
  /-- VMIN_F32 (R104): IEEE 754-2019 minimum per lane. -/
  | vminF32 (sl : Slot)
  /-- VMAX_F32 (R104): IEEE 754-2019 maximum per lane. -/
  | vmaxF32 (sl : Slot)
  /-- VRCP_F32 (R106): Correctly rounded reciprocal per lane. -/
  | vrcpF32 (sl : Slot)
  /-- VSQRT_F32 (R106): Correctly rounded square root per lane. -/
  | vsqrtF32 (sl : Slot)
  /-- VRSQRT_F32 (R106): Correctly rounded reciprocal square root per lane. -/
  | vrsqrtF32 (sl : Slot)
  /-- VEXP2_F32 (R106): Correctly rounded base-2 exponential per lane. -/
  | vexp2F32 (sl : Slot)
  /-- VLOG2_F32 (R106): Correctly rounded base-2 logarithm per lane. -/
  | vlog2F32 (sl : Slot)
  /-- VRED_ADD_F32 (R105): Pairwise sum of the 128 lanes written to every lane. -/
  | vredAddF32 (sl : Slot)
  /-- VRED_MAX_F32 (R139): Maximum over the pairwise lane tree written to every lane. -/
  | vredMaxF32 (sl : Slot)
  /-- VCMP_F32 (R139): Lane comparison by the condition in mode, written to a predicate. -/
  | vcmpF32 (sl : Slot)
  /-- VSEL (R139): Selects each lane from Va or Vb by the predicate. -/
  | vsel (sl : Slot)
  /-- VMOV (R139): Copies a V register. -/
  | vmov (sl : Slot)
  /-- VBCAST (R139): Broadcasts the low 32 bits of an S register to selected lanes. -/
  | vbcast (sl : Slot)
  /-- VEXT (R139): Extracts one lane into an S register, zero-extended. -/
  | vext (sl : Slot)
  /-- VADD_I32 (R139): Wrapping 32-bit integer lane addition. -/
  | vaddI32 (sl : Slot)
  /-- VSUB_I32 (R139): Wrapping 32-bit integer lane subtraction. -/
  | vsubI32 (sl : Slot)
  /-- VAND (R139): Bitwise AND of lanes. -/
  | vand (sl : Slot)
  /-- VOR (R139): Bitwise OR of lanes. -/
  | vor (sl : Slot)
  /-- VXOR (R139): Bitwise XOR of lanes. -/
  | vxor (sl : Slot)
  /-- VSHL (R139): Lane shift left by Vb[4:0]. -/
  | vshl (sl : Slot)
  /-- VSHR (R139): Lane logical shift right by Vb[4:0]. -/
  | vshr (sl : Slot)
  /-- VSRA (R139): Lane arithmetic shift right by Vb[4:0]. -/
  | vsra (sl : Slot)
  /-- PAND (R139): Bitwise AND of predicates. -/
  | pand (sl : Slot)
  /-- POR (R139): Bitwise OR of predicates. -/
  | por (sl : Slot)
  /-- PXOR (R139): Bitwise XOR of predicates. -/
  | pxor (sl : Slot)
  /-- PNOT (R139): Bitwise complement of a predicate. -/
  | pnot (sl : Slot)
  /-- PSET (R139): Sets a predicate to all zeros or all ones. -/
  | pset (sl : Slot)
  /-- VCVT_NARROW (R141): Converts 128 FP32 lanes to a narrower format into one group of Vd, with block scales to an S register. -/
  | vcvtNarrow (sl : Slot)
  /-- VCVT_WIDEN (R142): Converts one group of a narrow format to 128 FP32 lanes. -/
  | vcvtWiden (sl : Slot)
  /-- VTRD (R139): Reads one row of an accumulator tile into a V register. -/
  | vtrd (sl : Slot)
  /-- VTWR (R139): Writes a V register into one row of an accumulator tile. -/
  | vtwr (sl : Slot)
  /-- DMOV_G2S (R144): Queues a COPY descriptor from stack memory to a station window on a drover. -/
  | dmovG2s (sl : Slot)
  /-- DMOV_S2G (R144): Queues a COPY descriptor from a station window to stack memory, optionally staged. -/
  | dmovS2g (sl : Slot)
  /-- DMOV_S2S (R144): Queues a COPY descriptor between station windows. -/
  | dmovS2s (sl : Slot)
  /-- DLIST (R186): Queues an entry that runs a descriptor list held in own SRAM. -/
  | dlist (sl : Slot)
  /-- ADD (R147): 64-bit wrapping scalar add. -/
  | addI (sl : Slot)
  /-- SUB (R147): 64-bit wrapping scalar subtract. -/
  | subI (sl : Slot)
  /-- AND (R147): Scalar bitwise AND. -/
  | andI (sl : Slot)
  /-- OR (R147): Scalar bitwise OR. -/
  | orI (sl : Slot)
  /-- XOR (R147): Scalar bitwise XOR. -/
  | xorI (sl : Slot)
  /-- SHL (R147): Scalar shift left. -/
  | shl (sl : Slot)
  /-- SHR (R147): Scalar logical shift right. -/
  | shr (sl : Slot)
  /-- SRA (R147): Scalar arithmetic shift right. -/
  | sra (sl : Slot)
  /-- MUL (R147): Low 64 bits of a scalar product. -/
  | mulI (sl : Slot)
  /-- SLT (R147): Signed set-less-than. -/
  | slt (sl : Slot)
  /-- SLTU (R147): Unsigned set-less-than. -/
  | sltu (sl : Slot)
  /-- LI (R147): Loads a sign-extended immediate. -/
  | li (sl : Slot)
  /-- LIH (R147): Loads the upper 32 bits of an S register. -/
  | lih (sl : Slot)
  /-- BEQ (R148): Branches if equal. -/
  | beq (sl : Slot)
  /-- BNE (R148): Branches if not equal. -/
  | bne (sl : Slot)
  /-- BLT (R148): Branches if signed less. -/
  | blt (sl : Slot)
  /-- BGE (R148): Branches if signed greater or equal. -/
  | bge (sl : Slot)
  /-- BLTU (R148): Branches if unsigned less. -/
  | bltu (sl : Slot)
  /-- BGEU (R148): Branches if unsigned greater or equal. -/
  | bgeu (sl : Slot)
  /-- JMP (R148): Jumps to pc + imm. -/
  | jmp (sl : Slot)
  /-- JAL (R147): Jumps and links pc + 1. -/
  | jal (sl : Slot)
  /-- JR (R148): Jumps to the bundle in Sa. -/
  | jr (sl : Slot)
  /-- LOOP (R149): Pushes a hardware loop entry or skips the body when the count is 0. -/
  | loop (sl : Slot)
  /-- TALLY_SIG (R150): Sends a tally signal to a station or flock, as a release or at issue. -/
  | tallySig (sl : Slot)
  /-- TALLY_WAIT (R151): Holds its bundle until own tally is satisfied, then issues. -/
  | tallyWait (sl : Slot)
  /-- TALLY_SET (R217): Sets an own tally to a value. -/
  | tallySet (sl : Slot)
  /-- TALLY_RD (R147): Reads an own tally into an S register. -/
  | tallyRd (sl : Slot)
  /-- BAR_ARRIVE (R223): Increments the station's arrive generation on a barrier channel. -/
  | barArrive (sl : Slot)
  /-- BAR_WAIT (R223): Holds its bundle until the barrier last arrived at is released. -/
  | barWait (sl : Slot)
  /-- BAR_SYNC (R223): Arrives and waits on a barrier channel. -/
  | barSync (sl : Slot)
  /-- STROKE_END (R153): Fences, arrives at the stroke barrier and waits for the next stroke start. -/
  | strokeEnd (sl : Slot)
  /-- SYS_RD (R154): Reads a system value into an S register. -/
  | sysRd (sl : Slot)
  /-- FENCE (R155): Holds until every earlier operation of the station is complete. -/
  | fence (sl : Slot)
  /-- MBX_RD (R147): Reads a station mailbox word. -/
  | mbxRd (sl : Slot)
  /-- MBX_WR (R227): Writes the working copy of an outbound mailbox word. -/
  | mbxWr (sl : Slot)
  /-- TRAP (R160): Raises cause trap with the immediate in STN_EXC_INFO. -/
  | trap (sl : Slot)
  /-- FLIT_READ_REQUEST (R42): A remote read request flit is served by the destination bank's side read port. -/
  | flitReadRequest (src dst : Nat)
  /-- FLIT_READ_RESPONSE (R156): A read response flit delivers data to the requesting station. -/
  | flitReadResponse (src dst : Nat)
  /-- FLIT_WRITE (R42): A remote write flit is written through the destination bank's write port and acknowledged. -/
  | flitWrite (src dst : Nat)
  /-- FLIT_WRITE_ACK (R150): A write acknowledgement completes an outstanding remote write. -/
  | flitWriteAck (src dst : Nat)
  /-- FLIT_ERROR_RESPONSE (R160): An error response raises an imprecise exception at the requesting station or a drover fault. -/
  | flitErrorResponse (src dst : Nat)
  /-- FLIT_TALLY_SIGNAL (R219): A tally signal arriving at a station is applied, deferred or counted late by its stroke tag. -/
  | flitTallySignal (src dst : Nat)
  /-- FLIT_DROVER_BULK (R190): A drover bulk flit is written at its destination. -/
  | flitDroverBulk (src dst : Nat)
  /-- UCIE_FLIT_RECEIVE (R58): A receiver checks a die-to-die flit's CRC and sequence, discarding bad flits and asking for retry. -/
  | ucieFlitReceive (lk : UcieLink) (seq ack : Nat) (crcOk : Bool)
  /-- UCIE_RETRY_REQUEST (R58): The sender resends from its retry buffer in order from the first missing sequence number. -/
  | ucieRetryRequest (lk : UcieLink) (first : Nat)
  /-- UCIE_MODULE_DISABLE (R59): After three failed retries a UCIe module is disabled and its flows re-hashed without loss. -/
  | ucieModuleDisable (lk : UcieLink)
  /-- STN_CLK_TARGET_WRITE (R46): COXn writes a station or segment target code, taking effect at the generator within 50 ns. -/
  | stnClkTargetWrite (isl : Island) (code : Nat)
  /-- DROOP_CLOCK_STOP (R47): The generator stops its clock while the replica delay exceeds twice the target period. -/
  | droopClockStop (isl : Island)
  /-- DROOP_CLOCK_RESUME (R47): The island resumes without loss when the replica delay falls below twice the target. -/
  | droopClockResume (isl : Island) (cycles effCode : Nat)
  /-- DROOP_HALT (R47): A clock stop longer than halt_limit sets STN_FAULT.droop_halt. -/
  | droopHalt (isl : Island)
  /-- STN_RUN (R127): Writing STN_CTRL.run starts the sequencer at STN_SEQ_PC or stops it after the bundle in issue. -/
  | stnRun (st : Nat) (v : Bool)
  /-- STN_FENCE (R67): Writing STN_CTRL.fence makes the station answer remote requests with cause 0x01. -/
  | stnFence (st : Nat) (v : Bool)
  /-- STN_POWER_GATE (R75): Writing STN_CTRL.power_gate gates or powers up a station. -/
  | stnPowerGate (st : Nat) (v : Bool)
  /-- SPARE_SELF_TEST_COMPLETE (R67): A spare powered up completes its quick self-test. -/
  | spareSelfTestComplete (st : Nat) (pass : Bool)
  /-- STN_SRAM_INIT (R75): Writing STN_CTRL.sram_init starts a fill of SRAM with valid zero units. -/
  | stnSramInit (st : Nat)
  /-- SRAM_INIT_COMPLETE (R75): The SRAM fill completes after 6 144 cycles. -/
  | sramInitComplete (st : Nat)
  /-- STN_SEQ_PC_WRITE (R162): Firmware writes the next bundle to issue; discarded while run is 1. -/
  | stnSeqPcWrite (st pc : Nat)
  /-- ISTORE_WRITE (R127): Firmware writes the instruction store while run is 0. -/
  | istoreWrite (st bundle word : Nat)
  /-- EXC_CAUSE_CLEAR (R163): Writing 1 to STN_EXC_CAUSE.valid clears the exception record registers. -/
  | excCauseClear (st : Nat)
  /-- DIE_QUIESCE (R67): Writing STN_DIE_CTRL.quiesce stops new class 1-3 requests and drains the die fabric. -/
  | dieQuiesce (die : Nat) (v : Bool)
  /-- QUIESCE_COMPLETE (R67): Draining completes and STN_DIE_STATUS.quiesced is set. -/
  | quiesceComplete (die : Nat)
  /-- STN_MAP_WRITE (R66): A die map write is accepted while quiesced, or discarded with map_write_refused. -/
  | stnMapWrite (die k word : Nat)
  /-- MAP_COMMIT (R67): Writing map_commit applies the die map from the next flit and empties the die barrier tree. -/
  | mapCommit (die : Nat)
  /-- SRAM_CORRECTION_WRITEBACK (R183): A queued write-back of a corrected SRAM unit completes unless a write reached the unit first. -/
  | sramCorrectionWriteback (st unit : Nat)
  /-- SRAM_SCRUB_READ (R184): A station scrubber reads a unit in an unclaimed side-read cycle and rewrites it if corrected. -/
  | sramScrubRead (st : Nat) (store : Bool) (unit : Nat) (upset : List Nat)
  /-- STACK_SCRUB_READ (R184): A stack controller scrubs a unit and rewrites it if corrected. -/
  | stackScrubRead (unit : Nat) (upset : List Nat)
  /-- BAR2_READ (R168): A host BAR2 read of a module address returns data, all ones, poisoned data or Unsupported Request. -/
  | bar2Read (addr len : Nat)
  /-- BAR2_WRITE (R172): A host BAR2 write to a module address is applied or discarded by the access rules. -/
  | bar2Write (addr : Nat) (data : List Byte)
  /-- STACK_REQUEST (R175): A request arrives at a memory controller and is served in unit and pseudo-channel order. -/
  | stackRequest (src dst : Nat)
  /-- STACK_ACCESS_COMPLETE (R175): A stack access completes and its response is returned after decoding. -/
  | stackAccessComplete (stack pc : Nat) (upset : List Nat)
  /-- STACK_RECALIBRATION (R177): Periodic recalibration of a pseudo-channel runs while no request for it is queued. -/
  | stackRecalibration (stack pc : Nat)
  /-- STACK_REFRESH (R177): Per-bank refresh runs as the stack requests it. -/
  | stackRefresh (stack bank : Nat)
  /-- SELF_REFRESH_ENTER (R177): The controller enters self-refresh once self_refresh is set and it holds no request. -/
  | selfRefreshEnter (stack : Nat)
  /-- STACK_TRAINING_COMPLETE (R177): Interface training of a stack completes at start-up, or fails into a stack loss. -/
  | stackTrainingComplete (stack : Nat) (pcUp : Nat) (pass : Bool)
  /-- STACK_LOSS (R178): A pseudo-channel fails in operation and MEM_STATUS.state reads failed. -/
  | stackLoss (stack pc : Nat)
  /-- DROVER_ENTRY_START (R190): A drover starts its next queue entry or list descriptor once the previous has issued all reads. -/
  | droverEntryStart (dr : Nat)
  /-- DESC_COPY (R188): A COPY descriptor moves length bytes from src to dst. -/
  | descCopy (dr : Nat)
  /-- DESC_STRIDED (R188): A STRIDED descriptor moves count rows with source and destination strides. -/
  | descStrided (dr : Nat)
  /-- DESC_GATHER (R188): A GATHER descriptor moves elements from indexed source positions. -/
  | descGather (dr : Nat)
  /-- DESC_SCATTER (R188): A SCATTER descriptor moves elements to indexed destination positions. -/
  | descScatter (dr : Nat)
  /-- DESC_SIGNAL (R188): A SIGNAL descriptor signals an own tally once earlier descriptors are visible. -/
  | descSignal (dr : Nat)
  /-- DESC_WAIT (R188): A WAIT descriptor holds later descriptors of its list until its tally is satisfied. -/
  | descWait (dr : Nat)
  /-- DESC_WAIT_SATISFIED (R188): The tally of a waiting WAIT descriptor becomes satisfied and the list continues. -/
  | descWaitSatisfied (dr : Nat)
  /-- DROVER_TRANSFER_VISIBLE (R145): Every byte of a transfer is visible and the drover sends its completion tally signal in order. -/
  | droverTransferVisible (dr : Nat)
  /-- DRV_RESUME (R191): Writing DRV_CTRL.resume restarts a stopped drover at the next entry. -/
  | drvResume (dr : Nat)
  /-- DRV_FLUSH (R191): Writing DRV_CTRL.flush discards every queued entry without signalling. -/
  | drvFlush (dr : Nat)
  /-- DRV_HQ_TAIL_WRITE (R192): The host driver advances a host drover ring tail, or the write is refused with tail_refused. -/
  | drvHqTailWrite (h tail : Nat)
  /-- HOST_DESCRIPTOR_RUN (R192): A host drover runs the next ring slot and increments DRV_HQ_DONE. -/
  | hostDescriptorRun (h : Nat) (data : List Byte)
  /-- DRV_HQ_FAULT_CLEAR (R210): Writing 1 to DRV_HQ_STATUS.valid clears the fault and resumes at the next slot. -/
  | drvHqFaultClear (h : Nat)
  /-- STAGED_ENTRY_APPEND (R194): A staged write flit becomes a tail entry at its controller, or is refused when the tail is full. -/
  | stagedEntryAppend (stack : Nat)
  /-- MIRROR_ENTRY_RECEIVE (R198): A partner controller appends a forwarded staging entry to its mirror tail. -/
  | mirrorEntryReceive (stack home stroke : Nat) (payload : List Byte)
  /-- COMMIT_START (R199): When the stroke barrier completes with hold 0, every controller seals its tail and the die copies tallies to the shadow. -/
  | commitStart
  /-- TAIL_APPLY_COMPLETE (R199): A controller finishes copying its tail to home units and reports to the commit block. -/
  | tailApplyComplete (stack : Nat)
  /-- COMMIT_COMPLETE (R199): All 12 controllers have reported; MEM_COMMIT_STROKE is written and commit is complete. -/
  | commitComplete
  /-- COMMIT_HOLD (R199): Writing MEM_COMMIT_CTRL.hold holds or releases the start of commit. -/
  | commitHold (v : Bool)
  /-- COMMIT_DISCARD (R200): Writing discard empties every open tail, or is refused after a seal. -/
  | commitDiscard
  /-- COMMIT_RETRY_APPLY (R200): Writing retry_apply re-applies every sealed tail. -/
  | commitRetryApply
  /-- CHK_INIT (R203): Writing CHK_CTRL.init loads the algorithm's initial value. -/
  | chkInit (unit : Nat)
  /-- CHK_FEED (R204): Writing CHK_FEED feeds bytes and, at a frame end, runs the alive check. -/
  | chkFeed (unit n : Nat) (frameEnd : Bool)
  /-- TELEGRAM_START (R244): A START telegram is received, checked and forwarded; the member schedules its catch warning. -/
  | telegramStart (h : TelHead) (b : StartBody)
  /-- ARM_START (R248): A START with arm set opens a run and the member answers with HEADROOM carrying start_delay_us. -/
  | armStart (h : TelHead) (b : StartBody)
  /-- REPLAY_START (R307): A replay START cancels pending warnings and catches, schedules the replayed catch and starts preparation. -/
  | replayStart (h : TelHead) (b : StartBody)
  /-- TELEGRAM_HEADROOM (R235): A leader receives a HEADROOM telegram and combines it, forwarding once every live child has reported. -/
  | telegramHeadroom (h : TelHead) (b : HeadroomBody)
  /-- TELEGRAM_ARRIVE (R225): A leader receives an ARRIVE and forwards one when every live module of its group has arrived. -/
  | telegramArrive (h : TelHead) (gen count : Nat)
  /-- TELEGRAM_RELEASE (R225): A RELEASE telegram releases the flock barrier at its member stations and travels down the tree. -/
  | telegramRelease (h : TelHead) (gen : Nat)
  /-- TELEGRAM_TALLY (R238): A TALLY telegram is delivered to a station or forwarded up and down the tree for a flock. -/
  | telegramTally (h : TelHead) (b : TallyBody)
  /-- TELEGRAM_LOSS (R288): A LOSS telegram declares its module lost, or is absorbed if already held lost. -/
  | telegramLoss (h : TelHead) (b : LossBody)
  /-- TELEGRAM_ECHO (R243): An ECHO request is answered by the seat, or a reply completes a seat delay measurement. -/
  | telegramEcho (h : TelHead) (b : EchoBody) (t4 : Nat)
  /-- HEADROOM_DEADLINE (R236): A leader's deadline expires and it forwards HEADROOM counting missing children; the root fixes TLY_COMBINED. -/
  | headroomDeadline (level : Nat)
  /-- HEADROOM_PUBLISH (R432): At catch plus headroom_offset_us the stroke block sends HEADROOM from the ledger registers. -/
  | headroomPublish
  /-- STROKE_TIMER_SEND (R241): At catch plus start_offset_us the seat's stroke timer sends START with the armed or computed period. -/
  | strokeTimerSend
  /-- SEAT_SILENCE (R242): No START arrives by catch plus start_offset_us plus 100 µs and the member declares the seat gone. -/
  | seatSilence
  /-- SEAT_DELAY_MEASURE (R243): A module starts an ECHO measurement of its seat delay every 4 096 strokes or after a seat change. -/
  | seatDelayMeasure
  /-- CATCH_WARNING (R244): The catch warning is raised to all Cox engines at the later of the scheduled instant and commit completion. -/
  | catchWarning
  /-- CATCH (R246): At the catch stations reset registers, clear flags, latch inbound words, apply deferred signals and drive rises. -/
  | catch
  /-- DRIVE_END (R246): Drive ends at its scaled length and feather is asserted; feedforward moves to COX_FF_FEATHER. -/
  | driveEnd
  /-- BARRIER_RELEASE (R223): A barrier channel's release generation reaches a station's arrival and waiting bundles proceed. -/
  | barrierRelease (st ch : Nat)
  /-- STROKE_ENABLE_WRITE (R255): Writing TLY_STROKE_CTRL.enable enters or leaves stroke participation and returns the stroke block to idle. -/
  | strokeEnableWrite (v : Bool)
  /-- KORREL_FLIT_RECEIVE (R272): A port accepts an in-order good flit, discards duplicates or gaps and asks for retry, and reads credits. -/
  | korrelFlitReceive (p : Nat) (r : KRecv)
  /-- KORREL_RETRY_REQUEST (R273): A sender resends the named stream from the named seq, or only the named flit under selective retry. -/
  | korrelRetryRequest (p stream seq : Nat)
  /-- KORREL_RETRY_TIMEOUT (R274): A retry not satisfied within 2 µs is asked again; the third failure loses the port. -/
  | korrelRetryTimeout (p stream : Nat)
  /-- KORREL_IDLE_SEND (R276): A port sends an idle flit after 1 µs without a flit, or to return freed credits. -/
  | korrelIdleSend (p : Nat)
  /-- KORREL_CREDIT_SYNC_SEND (R270): A port sends CREDIT_SYNC at least every 1 µs and on a retry request. -/
  | korrelCreditSyncSend (p : Nat)
  /-- CREDIT_SYNC (R270): A received CREDIT_SYNC resets the sender-side credits of each VC. -/
  | creditSync (p : Nat) (counts : List Nat)
  /-- KORREL_PORT_SILENCE (R276): No good flit for 8 µs loses the port with cause silence. -/
  | korrelPortSilence (p : Nat)
  /-- KORREL_LOSS_OF_LOCK (R262): The PHY loses alignment or FEC lock and the port is lost at once with cause phy. -/
  | korrelLossOfLock (p : Nat)
  /-- CAGE_CABLE_INSERT (R263): A cable inserted in a cage starts its presence hold-off and training. -/
  | cageCableInsert (p : Nat)
  /-- CAGE_CABLE_REMOVE (R263): A cable removed is a port loss of cause phy. -/
  | cageCableRemove (p : Nat)
  /-- CAGE_PRESENCE_STABLE (R263): After 100 ms of stable presence the cable is released from reset and its identity and power class read. -/
  | cagePresenceStable (p cable watts : Nat)
  /-- TRAIN_ID (R278): A TRAIN_ID control flit records the far end's identity, levels and credits and checks cabling. -/
  | trainId (p : Nat) (t : TrainBody)
  /-- TRAIN_DONE (R278): A TRAIN_DONE resets sequence numbers and credits and brings the port up. -/
  | trainDone (p : Nat)
  /-- TRAIN_ID_REPEAT (R278): A training port repeats TRAIN_ID every 10 µs until the far end's arrives. -/
  | trainIdRepeat (p : Nat)
  /-- PORT_RETRAIN_TIMER (R279): A lost port retrains after 10 ms down. -/
  | portRetrainTimer (p : Nat)
  /-- PORT_TRAFFIC_ENABLE (R279): A port that came up carries traffic after 100 ms without a CRC failure. -/
  | portTrafficEnable (p : Nat)
  /-- KLK_PORT_RETRAIN (R296): Writing KLK_PORT_CTRL.retrain trains the port again from any state. -/
  | klkPortRetrain (p : Nat)
  /-- KORREL_PROBE (R266): A probe flit is answered with a probe reply. -/
  | korrelProbe (p m seq : Nat)
  /-- KORREL_PROBE_REPLY (R285): A probe reply within 4 µs cancels a pending declaration; a late one is discarded. -/
  | korrelProbeReply (m seq : Nat)
  /-- PROBE_TIMEOUT (R285): A probe unanswered within 4 µs after both direct ports are lost declares the module lost. -/
  | probeTimeout (m : Nat)
  /-- KORREL_NOTICE (R286): A switch-tray notice is kept as latest; all state 0 notices declare the module lost. -/
  | korrelNotice (tray m : Nat) (up : Bool)
  /-- KLK_ISOLATE (R289): Writing KLK_DIE_CTRL.isolate isolates the module. -/
  | klkIsolate
  /-- KLK_REJOIN (R295): Writing KLK_DIE_CTRL.rejoin ends isolation of a link die and its ports train again. -/
  | klkRejoin (n : Nat)
  /-- ROUTE_WRITE (R297): A firmware write of a route entry is applied to every copy within 1 µs. -/
  | routeWrite (m kind pair : Nat) (clearLost : Bool)
  /-- FAULT_REPORT (R298): Firmware receives a fault report, classifies it and decides replay, isolation or abort. -/
  | faultReport (copy : List Byte)
  /-- REPLAY_REQUEST (R304): The seat receives REPLAY_REQUEST, fixes the replayed stroke and sends a replay START. -/
  | replayRequest (m stroke g cls : Nat) (inPrep : Bool)
  /-- ABORT (R328): On ABORT or an unpaired loss every member aborts the run and returns its stroke block to idle. -/
  | abortI (stroke cls origin : Nat)
  /-- PAIR_NOTE (R319): A PAIR_NOTE updates the pair map or advances arming. -/
  | pairNote (m partner st : Nat)
  /-- PAIR_RANGE_COPY_COMPLETE (R318): A module finishes copying its ranges to the partner half and sends PAIR_NOTE pushed. -/
  | pairRangeCopyComplete
  /-- FILL_ORDER (R325): The stand-in and hot spare receive FILL_ORDER and begin the fill. -/
  | fillOrder (lost standin spare : Nat)
  /-- FILL_COPY_COMPLETE (R325): The stand-in finishes copying the lost ranges to the hot spare and sends FILL_COPIED. -/
  | fillCopyComplete (ranges : List (Nat × Nat))
  /-- FILL_COPIED (R325): The hot spare receives FILL_COPIED, releases hold and loads the lost image as stand-in. -/
  | fillCopied (lost : Nat)
  /-- STANDIN_LOAD_COMPLETE (R325): The hot spare completes the stand-in load and sends FILL_DONE. -/
  | standinLoadComplete (addr len : Nat)
  /-- FILL_DONE (R325): The seat receives FILL_DONE and sends STANDIN for stroke s. -/
  | fillDone (lost : Nat)
  /-- STANDIN (R325): A member receives STANDIN and answers STANDIN_ACK. -/
  | standin (stroke lost standin kind : Nat)
  /-- STANDIN_ACK (R325): The seat collects STANDIN_ACK and sends the START of s once all have answered. -/
  | standinAck (stroke m : Nat)
  /-- RETURN (R330): A receiver of RETURN clears the lost bit or refuses, and answers RETURN_ACK. -/
  | returnI (m role flock crc : Nat)
  /-- RETURN_ACK (R330): The returning module records each answer to its RETURN. -/
  | returnAck (m result : Nat)
  /-- RETURN_REPEAT (R330): RETURN is repeated every 10 ms to modules that have not answered. -/
  | returnRepeat
  /-- RETURN_TIMEOUT (R330): After 1 s without an answer the returning module logs a korrel record of kind 5. -/
  | returnTimeout
  /-- PRESENCE_CLOSE (R335): The presence contact closes and the pre-charge hold-off begins. -/
  | presenceClose
  /-- PRECHARGE_START (R335): After presence and input have held 100 ms the input switch limits at 4.0 A. -/
  | prechargeStart
  /-- PRECHARGE_COMPLETE (R335): The bulk capacitance reaches within 10 V of the input and the switch closes fully. -/
  | prechargeComplete
  /-- PRECHARGE_FAIL (R335): Pre-charge not complete within 200 ms opens the switch and raises trip precharge_fail. -/
  | prechargeFail (mv : Int)
  /-- INPUT_RETURN (R338): The input has stayed in range 100 ms, pre-charge repeats and the converter cells restart. -/
  | inputReturn
  /-- INPUT_OV (R360): Input above the threshold for 20 µs acts input_off. -/
  | inputOv (mv : Int)
  /-- INPUT_UV (R360): Input below the threshold for 1 ms acts input_off. -/
  | inputUv (mv : Int)
  /-- INPUT_OC (R360): Input current above the threshold for 10 µs acts input_off. -/
  | inputOc (ma : Int)
  /-- CONVERTER_CELL (R342): A faulty or unbalanced converter cell is removed and the rest take its share. -/
  | converterCell (cell : Nat) (value : Int)
  /-- BUS_OV (R360): Bus above the threshold for 5 µs acts module_stop. -/
  | busOv (mv : Int)
  /-- BUS_UV (R360): Bus below the threshold for 50 µs acts module_stop. -/
  | busUv (mv : Int)
  /-- PORT_OC (R360): Pack current above the threshold for 100 µs acts pack_off. -/
  | portOc (ma : Int)
  /-- PORT_OT (R360): Storage port temperature above the threshold for 1 s acts pack_off. -/
  | portOt (mc : Int)
  /-- RATIO_FAULT (R360): A ratio stage output low or capacitor imbalance for 10 µs acts block_off. -/
  | ratioFault (die : Nat) (value : Int)
  /-- RATIO_OC (R360): A ratio stage output current above the threshold acts block_off. -/
  | ratioOc (die : Nat) (ma : Int)
  /-- RAIL_OV (R360): A rail above its reference plus offset for 2 µs acts block_off. -/
  | railOv (e l : Nat) (mv : Int)
  /-- RAIL_UV (R360): A rail below its reference minus offset for 20 µs acts block_off. -/
  | railUv (e l : Nat) (mv : Int)
  /-- PHASE_LOSS (R348): A second phase removed from one rail acts block_off. -/
  | phaseLoss (e l : Nat) (value : Int)
  /-- DIE_OT (R360): A die temperature above the threshold for 1 ms acts block_off. -/
  | dieOt (die : Nat) (mc : Int)
  /-- PACK_INSULATION (R360): Ten consecutive low insulation measurements act pack_off. -/
  | packInsulation (kohm : Nat)
  /-- CONTACTOR_WELD (R355): A contactor still reporting closed 15 ms after release acts pack_off and records a pack fault. -/
  | contactorWeld (pos neg : Bool)
  /-- PHASE_REMOVE (R348): A Cox engine removes a phase whose switch or current sense fails. -/
  | phaseRemove (e l ph : Nat)
  /-- BUS_CELL_STOP (R344): The bus rising above 58.0 V stops the converter cells, which resume below 56.5 V. -/
  | busCellStop (mv : Nat)
  /-- BUS_LOW_ASSERT (R345): The bus below 50.0 V asserts bus-low to every engine. -/
  | busLowAssert
  /-- BUS_LOW_RELEASE (R345): The bus above 51.0 V releases bus-low and ceilings lift. -/
  | busLowRelease
  /-- PACK_CHECK (R352): Firmware runs the pack check on entering pack_check and records a pack fault or retries. -/
  | packCheck
  /-- PACK_CHECK_RETRY (R352): A failed ring or temperature item is retried once after 1 s. -/
  | packCheckRetry
  /-- STP_CLOSE (R354): Writing STP_CTRL.close to 1 connects the pack: boost, close contactors, confirm. -/
  | stpClose
  /-- CONTACTOR_CLOSE_CONFIRM (R354): Within 30 ms firmware confirms both contactors closed, or opens them and records a pack fault. -/
  | contactorCloseConfirm (pos neg : Bool) (mv : Nat)
  /-- STP_OPEN (R355): Writing STP_CTRL.close to 0 opens the pack: current to zero, coils released, capacitance discharged. -/
  | stpOpen
  /-- STP_DISCHARGE_CAP (R355): Writing discharge_cap discharges the pack-side capacitance. -/
  | stpDischargeCap
  /-- RECOVERY_CHARGE_COMPLETE (R353): Every cell reaches 2.5 V and the recovery charge ends. -/
  | recoveryChargeComplete
  /-- PRESENCE_LOST (R364): Presence open for 20 µs starts the hardware pull sequence. -/
  | presenceLost (ma : Int)
  /-- HOUSEKEEPING_SUPPLY_STOP (R349): The housekeeping supply stops 30 ms after both feeds are lost and the power path reaches off. -/
  | housekeepingSupplyStop
  /-- LOOP_PERIOD (R372): A feedback sample arrives and the loop computes and applies its output. -/
  | loopPeriod (e l : Nat) (x : LoopSample)
  /-- SAT_TIME_EVENT (R399): The saturation count reaches sat_time and the loop takes its supervision action. -/
  | satTimeEvent (e l : Nat)
  /-- PLAUS_EVENT (R400): The residual exceeds its threshold for plaus_time periods and the loop takes its action. -/
  | plausEvent (e l : Nat)
  /-- FROZEN_SAMPLE (R402): A sample frozen for 3 periods moves the loop to fallback or holds its output. -/
  | frozenSample (e l m : Nat) (fallbackFresh : Bool)
  /-- FROZEN_HOLD_EXPIRE (R402): No fresh sense within frozen_hold makes the loop take its supervision action. -/
  | frozenHoldExpire (e l : Nat)
  /-- PG_TICK (R377): A profile generator advances its position toward its target under V, A and J and applies ceilings. -/
  | pgTick (e k : Nat)
  /-- SOFTSTART_DONE (R380): A rail or bus held within tolerance for its time sets done and releases the clamp. -/
  | softstartDone (e k : Nat)
  /-- PG_TARGET_WRITE (R378): A new generator target takes effect at the next tick from the present state. -/
  | pgTargetWrite (who : Requester) (e k x : Nat)
  /-- PG_LIMIT_WRITE (R378): A write of V, A or J is held until the generator is at rest. -/
  | pgLimitWrite (who : Requester) (e k v a j : Nat)
  /-- PG_PRESET (R378): Writing COX_PG_CTRL.preset sets position to COX_PG_PRESET with zero velocity and acceleration. -/
  | pgPreset (who : Requester) (e k : Nat)
  /-- PG_OWNER_WRITE (R379): A claim or release of a generator, refused with claim_refused unless through free. -/
  | pgOwnerWrite (who : Requester) (e k owner : Nat)
  /-- LOOP_MODE_WRITE (R397): Writing a loop mode transfers it bumplessly between off, manual and auto or moves an actuator owner. -/
  | loopModeWrite (who : Requester) (e l m : Nat)
  /-- WARN_TIMEOUT (R383): No drive edge within warn_timeout_us lapses the inhibition and disarms feedforward. -/
  | warnTimeout (e : Nat)
  /-- SHED_HOLDOFF_EXPIRE (R383): holdoff_us after feather rises the catch-warning inhibition lapses. -/
  | shedHoldoffExpire (e : Nat)
  /-- SHED_START (R385): Current below shed_pct for dwell_us starts ramping down the highest running phase. -/
  | shedStart (e ma : Nat)
  /-- SHED_COMPLETE (R385): The shed phase stops switching and the running phases are re-spaced. -/
  | shedComplete (e : Nat)
  /-- PHASE_READD (R385): Current above add_pct re-adds the lowest stopped phase. -/
  | phaseReadd (e ma : Nat)
  /-- STEP_DETECTED (R387): A voltage or current step aborts shedding and starts every stopped phase. -/
  | stepDetected (e : Nat)
  /-- CLK_FORCE_WRITE (R389): Writing COX_CLK_CEIL.force sets the forced clock ceiling. -/
  | clkForceWrite (who : Requester) (e code : Nat)
  /-- CAP_WRITE (R394): Writing COX_CAP.cap_w clamps the input to the cap within 1 ms, or lifts it. -/
  | capWrite (who : Requester) (w : Nat)
  /-- TLM_WINDOW_END (R407): A telemetry averaging window of 1 ms, 100 ms or 1 s ends and its register updates. -/
  | tlmWindowEnd (e window : Nat) (xs : List TlmWindow)
  /-- LEDGER_DECISION (R434): 1 ms before the HEADROOM instant the ledger chooses a period and writes its request. -/
  | ledgerDecision
  /-- LEDGER_SWEEP_UPDATE (R421): The ledger replaces e0 from a valid sweep and adds the difference to the drift. -/
  | ledgerSweepUpdate
  /-- LEDGER_STALE_SWEEP (R421): No valid sweep for 100 ms sets stale_sweep and lowers the decision e0 over time. -/
  | ledgerStaleSweep
  /-- RESERVE_REACHED (R442): e0 at or below the reserve forces clocks to the lowest point. -/
  | reserveReached
  /-- FLOOR_REGAINED (R442): e0 reaching e_floor restores the forced ceiling to 380. -/
  | floorRegained
  /-- ENERGY_EXHAUSTED (R443): e0 at e_stop isolates a joined module with a class 0x24 record. -/
  | energyExhausted
  /-- SWEEP_START (R461): Every period_ms the ring master sends CONVERT at F to start a sweep. -/
  | sweepStart
  /-- CM_CONVERT (R462): A monitor takes the first good CONVERT of a sweep, opens its bleed switches and schedules its window. -/
  | cmConvert (k : Nat) (frame : List Nat) (reverse : Bool)
  /-- CM_CONVERSION_WINDOW (R462): A monitor's conversion window begins, checks bleed switches and samples cells and temperatures. -/
  | cmConversionWindow (k : Nat) (x : CellSample)
  /-- CM_WINDOW_END (R471): The conversion window ends and a held BALANCE applies. -/
  | cmWindowEnd (k : Nat)
  /-- CM_READ (R458): A monitor answers READ with its DATA frame. -/
  | cmRead (k : Nat) (frame : List Nat) (fromR : Bool)
  /-- CM_DATA (R460): The ring master receives a monitor's DATA frame. -/
  | cmData (k : Nat) (fromR : Bool) (frame : List Nat)
  /-- CM_BALANCE (R471): A monitor accepts or refuses a BALANCE mask for the interval. -/
  | cmBalance (k : Nat) (frame : List Nat)
  /-- CM_ENUM (R458): A monitor writes its entry into a passing ENUM frame. -/
  | cmEnum (k : Nat) (frame : List Nat) (fromR : Bool)
  /-- CM_ALERT (R481): The ring master receives an ALERT and acts monitor_fault. -/
  | cmAlert (k : Nat) (frame : List Nat)
  /-- CM_CELL_LIMIT_CROSS (R481): A cell crossing 3.820 V or 2.180 V makes its monitor send ALERT both ways. -/
  | cmCellLimitCross (k cell : Nat) (above : Bool)
  /-- CM_STRAP_CHANGE (R454): A monitor's strap value changes while awake, raising monitor_fault. -/
  | cmStrapChange (k pins : Nat)
  /-- CM_SLEEP (R455): A monitor sleeps after 2 s without a frame. -/
  | cmSleep (k : Nat)
  /-- CM_CONVERT_TIMEOUT (R471): A monitor receiving no CONVERT for 50 ms opens every bleed switch. -/
  | cmConvertTimeout (k : Nat)
  /-- RING_CONVERT_TIMEOUT (R475): CONVERT not back at R within 40 µs switches to split mode and sends a reverse CONVERT. -/
  | ringConvertTimeout
  /-- RING_READ_TIMEOUT (R474): A DATA frame not complete within 155 µs fails its READ slot; reads move to split mode. -/
  | ringReadTimeout
  /-- SWEEP_END (R463): The master evaluates validity, writes readings, drives stop lines, evaluates pack trips and sends BALANCE. -/
  | sweepEnd (ma : Int) (dur : Nat)
  /-- RING_LOST (R480): No valid sweep for 500 ms acts pack_off. -/
  | ringLost
  /-- SWEEP_STALE (R464): No valid sweep for 100 ms sets stale and the stale stop-line rules apply. -/
  | sweepStale
  /-- RING_ENUM_PROBE (R478): Once per 100 sweeps in split mode the master sends ENUM and resumes ring mode if it returns. -/
  | ringEnumProbe (ret : List Nat)
  /-- CMN_ENUM (R482): Writing CMN_CTRL.enum sends ENUM between sweeps and sets addr_ok on return. -/
  | cmnEnum (who : Requester) (ret : List Nat)
  /-- SHEPHERD_HEARTBEAT (R489): A Shepherd writes a heartbeat and the active one sends a state record. -/
  | shepherdHeartbeat (w counter : Nat)
  /-- STATE_RECORD (R490): The standby receives and acknowledges a state record. -/
  | stateRecord
  /-- HEARTBEAT_MISSED (R489): 75 µs without a good heartbeat from the active Shepherd starts a takeover. -/
  | heartbeatMissed (us : Nat)
  /-- LOCKSTEP_MISMATCH (R492): A lockstep comparator mismatch in the active Shepherd starts a takeover. -/
  | lockstepMismatch (us : Nat)
  /-- TAKEOVER_REQUEST (R492): The active Shepherd's firmware requests a takeover on a fault it cannot continue through. -/
  | takeoverRequest (us : Nat)
  /-- SHEPHERD_RESTART (R494): The arbiter restarts a failed Shepherd from its own flash. -/
  | shepherdRestart (w : Nat)
  /-- SHEPHERD_SELF_TEST_PASS (R494): A restarted Shepherd passes self-test and enters standby, or active if none is. -/
  | shepherdSelfTestPass (w : Nat)
  /-- NO_SHEPHERD (R495): No active Shepherd for 100 ms isolates the module, forces clocks and restarts both. -/
  | noShepherd
  /-- HANDBACK_PENDING (R496): SH-A healthy in standby for 10 s sets handback_pending. -/
  | handbackPending
  /-- HANDBACK_SWITCH (R497): At a qualifying heartbeat or stroke boundary the writer returns to SH-A. -/
  | handbackSwitch
  /-- SHEPHERD_FRAME_RECEIVE (R499): A link die checks a Shepherd frame and queues it in the inbox for the active Shepherd. -/
  | shepherdFrameReceive (frame : List Byte)
  /-- PCIE_FUNCTION_RESET (R502): A function-level reset returns host-facing state to reset. -/
  | pcieFunctionReset
  /-- PCIE_CONVENTIONAL_RESET (R502): PERST_N resets the host-facing state. -/
  | pcieConventionalReset
  /-- PCIE_LINK_LOSS (R502): Loss of the PCIe link has the effects of a function-level reset. -/
  | pcieLinkLoss
  /-- IRQ_CAUSE_CLEAR (R504): Writing 1 clears an IRQ_CAUSE bit and its pending bit. -/
  | irqCauseClear (mask : Nat)
  /-- IRQ_MASK_WRITE (R504): Unmasking a set cause sends one message at once. -/
  | irqMaskWrite (mask : Nat)
  /-- IRQ_TEST (R518): Writing IRQ_TEST sets a cause bit as if its event occurred. -/
  | irqTest (mask : Nat)
  /-- MSIX_UNMASK (R504): Unmasking an MSI-X entry sends its pending message if the cause is still set. -/
  | msixUnmask (v : Nat)
  /-- MBX_DOORBELL (R509): Writing the doorbell makes a mailbox pending, or is discarded with overrun. -/
  | mbxDoorbell (m : Nat)
  /-- MAILBOX_TAKE (R508): Firmware takes a pending request, checks it in order and dispatches it. -/
  | mailboxTake (m : Nat)
  /-- SYNC_AUX_EDGE (R513): A rising edge on SYNC_AUX is time-stamped and may release the seat's START send. -/
  | syncAuxEdge
  /-- SYNC_AUX_WAIT_TIMEOUT (R513): No edge within 40 µs sends START anyway and counts missed. -/
  | syncAuxWaitTimeout
  /-- IDENTIFY (R527): Returns identity, levels, slot and presence of dies, stacks and ports. -/
  | identify (m : Nat)
  /-- STATUS (R528): Returns module power, run, stroke, ledger and trip status. -/
  | status (m : Nat)
  /-- TIME_SET (R529): Sets calendar time and writes a privileged record. -/
  | timeSet (m : Nat)
  /-- PLAN_LOAD (R251): Checks a plan image and loads it into stores, tallies, staging and the ledger. -/
  | planLoad (m : Nat)
  /-- FLOCK_JOIN (R533): Joins the module to a stroke flock as member or hot spare and announces it. -/
  | flockJoin (m : Nat)
  /-- FLOCK_LEAVE (R534): Leaves the stroke flock and clears routes of kind 1 and 2. -/
  | flockLeave (m : Nat)
  /-- STROKE_START_RUN (R537): STROKE_START action 1 opens a run at the seat. -/
  | strokeStartRun (m : Nat)
  /-- STROKE_START_STOP (R537): STROKE_START action 2 marks the next START last. -/
  | strokeStartStop (m : Nat)
  /-- STROKE_START_INBOUND (R537): STROKE_START action 3 sets the inbound words of later STARTs. -/
  | strokeStartInbound (m : Nat)
  /-- CONTRACT_SET (R424): A provider-signed level and trim point retarget COX16 PG0. -/
  | contractSet (m : Nat)
  /-- CAP_EMERGENCY (R428): A signed cap is placed, lowered, raised or lifted and written to COX_CAP within 300 µs. -/
  | capEmergency (m : Nat)
  /-- LEDGER_READ (R540): Returns the ledger accounts, contract and accumulators. -/
  | ledgerRead (m : Nat)
  /-- COX_LOOP_READ (R541): Returns one loop's registers, gains and generator within one period. -/
  | coxLoopRead (m : Nat)
  /-- COX_MODE_SET_SUP_SEL (R544): COX_MODE_SET action 1 sets a loop's supervision selection. -/
  | coxModeSetSupSel (m : Nat)
  /-- COX_MODE_SET_SUP_TIMES (R544): COX_MODE_SET action 2 sets supervision times and plausibility threshold. -/
  | coxModeSetSupTimes (m : Nat)
  /-- COX_MODE_SET_GROUP (R544): COX_MODE_SET action 3 stores a competition group for the next start-up. -/
  | coxModeSetGroup (m : Nat)
  /-- STORAGE_STATUS (R545): Returns pack, ring and cell readings of one sweep. -/
  | storageStatus (m : Nat)
  /-- BALANCE_POLICY (R546): Writes and stores the balancing policy. -/
  | balancePolicy (m : Nat)
  /-- LOGBOOK_OPEN_CURSOR (R548): Opens a mailbox cursor on the logbook areas. -/
  | logbookOpenCursor (m : Nat)
  /-- LOGBOOK_READ (R549): Returns whole records from a cursor and advances it. -/
  | logbookRead (m : Nat)
  /-- LOGBOOK_CLEAR (R594): An accord clears logbook areas by erasing their sectors. -/
  | logbookClear (m : Nat)
  /-- COUNTERS_GRANT (R606): Grants user access to station counter pages. -/
  | countersGrant (m : Nat)
  /-- COUNTERS_REVOKE (R606): Revokes user access to station counter pages. -/
  | countersRevoke (m : Nat)
  /-- ACCORD_SUBMIT (R567): Checks an accord or single-party request and applies its items. -/
  | accordSubmit (m : Nat)
  /-- ACCORD_NONCE (R562): Issues a new nonce for a party. -/
  | accordNonce (m : Nat)
  /-- NONCE_EXPIRE (R562): A nonce becomes invalid 600 000 ms after issue. -/
  | nonceExpire
  /-- FW_STAGE (R573): Checks a firmware image and writes it into the inactive slot of both Shepherds. -/
  | fwStage (m : Nat)
  /-- FW_ACTIVATE_DEFERRED (R575): FW_ACTIVATE when 0 sets a trial slot for the next power-on reset. -/
  | fwActivateDeferred (m : Nat)
  /-- FW_ACTIVATE_NOW (R636): FW_ACTIVATE when 1 starts a trial by restarting the standby onto the staged slot. -/
  | fwActivateNow (m : Nat)
  /-- FW_TRIAL_SWITCH (R636): A restarted trial Shepherd in standby for 10 s becomes writer and the other restarts. -/
  | fwTrialSwitch
  /-- FW_TRIAL_CONFIRM (R575): After 600 s on the trial image the slot is confirmed, svn raised and keys revoked. -/
  | fwTrialConfirm
  /-- FW_TRIAL_FAIL (R575): A trial Shepherd failing returns both to the confirmed slot. -/
  | fwTrialFail (w : Nat)
  /-- SHEPHERD_BOOT (R574): The boot ROM checks and boots the trial or confirmed slot, falling back on failure. -/
  | shepherdBoot (w failA failB : Nat)
  /-- PAIR_SET (R318): PAIR_SET with enable 1 starts arming a seat pair. -/
  | pairSet (m : Nat)
  /-- PAIR_SET_UNPAIR (R318): PAIR_SET with enable 0 clears mirroring and sends PAIR_NOTE unpaired. -/
  | pairSetUnpair (m : Nat)
  /-- FAILOVER_STATUS (R331): Returns the failover summary and records. -/
  | failoverStatus (m : Nat)
  /-- DRAIN_BEGIN (R625): Starts a drain and its refusals. -/
  | drainBegin (m : Nat)
  /-- DRAIN_CANCEL (R630): Cancels a drain and restores the trim goal. -/
  | drainCancel (m : Nat)
  /-- DRAIN_STATE_CHANGE (R629): Pull-ready conditions begin or stop holding and the drain state changes. -/
  | drainStateChange
  /-- SPDM_GET_VERSION (R577): Answers SPDM GET_VERSION with version 1.2. -/
  | spdmGetVersion (t : Nat)
  /-- SPDM_GET_CAPABILITIES (R577): Answers SPDM GET_CAPABILITIES. -/
  | spdmGetCapabilities (t : Nat)
  /-- SPDM_NEGOTIATE_ALGORITHMS (R577): Answers SPDM NEGOTIATE_ALGORITHMS with P-384 and SHA-384. -/
  | spdmNegotiateAlgorithms (t spec asym hash : Nat)
  /-- SPDM_GET_DIGESTS (R577): Answers SPDM GET_DIGESTS for slot 0. -/
  | spdmGetDigests (t : Nat)
  /-- SPDM_GET_CERTIFICATE (R577): Returns the slot 0 certificate chain. -/
  | spdmGetCertificate (t slot off len : Nat)
  /-- SPDM_CHALLENGE (R577): Signs a CHALLENGE with the device identity key. -/
  | spdmChallenge (t slot kind : Nat) (nonce : List Byte)
  /-- SPDM_GET_MEASUREMENTS (R578): Returns measurement blocks, signed or unsigned. -/
  | spdmGetMeasurements (t op : Nat) (withSig : Bool) (nonce : List Byte)
  /-- DEBUG_PORT_ACCESS (R570): A debug port access is served within the rights of the debug level. -/
  | debugPortAccess (a : DebugAccess)
  /-- LOST_RECORD (R589): When room returns firmware queues a LOST record for dropped numbers. -/
  | lostRecord
  /-- LOGBOOK_FLASH_WRITE (R588): The active Shepherd writes a queued record to flash with its valid mark last. -/
  | logbookFlashWrite
  /-- LOGBOOK_SECTOR_ERASE (R587): The oldest last-area sector is erased to keep two erased sectors ahead. -/
  | logbookSectorErase
  /-- LOGBOOK_SCAN (R590): At start-up firmware scans both areas and decides which records are held. -/
  | logbookScan (bad : List Nat) (tornFirst tornLast settingsOk : Bool)
  /-- LOGBOOK_MIRROR_COMPLETE (R588): A returning standby finishes copying missing records and mirror_behind clears. -/
  | logbookMirrorComplete
  /-- HOUR_STAMP_SAVE (R583): Every 1 s firmware saves operating milliseconds to the settings area. -/
  | hourStampSave
  /-- LGB_LOAD (R592): Writing LGB_CTRL.load starts filling the window from the cursor. -/
  | lgbLoad
  /-- LGB_ADVANCE (R592): Writing LGB_CTRL.advance moves the cursor past the window and loads again. -/
  | lgbAdvance
  /-- LGB_WINDOW_READY (R592): The window holds whole records, state becomes ready and vector 25 is raised. -/
  | lgbWindowReady
  /-- PMC_EVENT_COUNT (R601): A counter counts an event by its mode, reloading or interrupting on overflow. -/
  | pmcEventCount (page k occ cycles : Nat) (excess : Bool)
  /-- PMC_CNT_WRITE (R614): A host write of a counter takes precedence over a same-cycle event. -/
  | pmcCntWrite (page k v : Nat)
  /-- PMC_INTERVAL_TICK (R610): An interval timer tick writes interval records or a trace time marker. -/
  | pmcIntervalTick (die t : Nat)
  /-- PMC_BUF_CFG_WRITE (R607): A buffer configuration write claims or releases units, or is refused whole. -/
  | pmcBufCfgWrite (die word : Nat)
  /-- PMC_TIMER_WRITE (R607): An interval timer write claims or releases the timer. -/
  | pmcTimerWrite (die t word : Nat)
  /-- PMC_TRIG_WRITE (R611): A trigger write claims SYNC_AUX as trace trigger, releases it or is refused. -/
  | pmcTrigWrite (word : Nat)
  /-- PMC_RING_TAIL_WRITE (R608): The host advances a ring tail to consume records. -/
  | pmcRingTailWrite (die ring tail : Nat)
  /-- MAILBOX_EXCHANGE (R621): A PLDM MAILBOX_EXCHANGE carries a request on M0 or M1 to the mailbox service. -/
  | mailboxExchange (ch : Nat) (req : List Byte)
  /-- SET_ENDPOINT_ID (R620): MCTP Set Endpoint ID assigns the module's endpoint ID. -/
  | setEndpointId (op eid : Nat)
  /-- GET_ENDPOINT_ID (R620): MCTP Get Endpoint ID returns the endpoint ID. -/
  | getEndpointId
  /-- GET_ENDPOINT_UUID (R620): MCTP Get Endpoint UUID returns the UUID. -/
  | getEndpointUuid
  /-- GET_MCTP_VERSION_SUPPORT (R620): Returns supported MCTP versions. -/
  | getMctpVersionSupport (type : Nat)
  /-- GET_MESSAGE_TYPE_SUPPORT (R620): Returns supported MCTP message types. -/
  | getMessageTypeSupport
  /-- SETDASA (R619): I3C SETDASA assigns a dynamic address from the static address. -/
  | setdasa (static new : Nat)
  /-- ENTDAA (R619): I3C ENTDAA assigns a dynamic address. -/
  | entdaa (new : Nat)
  /-- GETTID (R622): PLDM GetTID returns the terminus ID. -/
  | gettid
  /-- SETTID (R622): PLDM SetTID sets the terminus ID. -/
  | settid (tid : Nat)
  /-- GETPLDMVERSION (R622): PLDM GetPLDMVersion for a supported type. -/
  | getpldmversion (type : Nat)
  /-- GETPLDMTYPES (R622): PLDM GetPLDMTypes. -/
  | getpldmtypes
  /-- GETPLDMCOMMANDS (R622): PLDM GetPLDMCommands for a type. -/
  | getpldmcommands (type : Nat)
  /-- GETPDRREPOSITORYINFO (R622): Returns PDR repository information. -/
  | getpdrrepositoryinfo
  /-- GETPDR (R622): Returns a PDR of the fixed repository. -/
  | getpdr (handle : Nat)
  /-- GETSENSORREADING (R622): Returns a numeric sensor reading. -/
  | getsensorreading (id : Nat)
  /-- GETSTATESENSORREADINGS (R622): Returns a state sensor reading as code plus 1. -/
  | getstatesensorreadings (id : Nat)
  /-- SETEVENTRECEIVER (R622): Sets the PLDM event receiver. -/
  | seteventreceiver (enable eid : Nat)
  /-- PLATFORM_EVENT_ACK (R622): The event receiver acknowledges a PlatformEventMessage and ALERT_N is released. -/
  | platformEventAck
  /-- PLDM_EVENT_HOLDOFF (R622): The 100 ms per-sensor holdoff ends and the latest state change is sent. -/
  | pldmEventHoldoff (id : Nat)
  /-- QUERYDEVICEIDENTIFIERS (R623): PLDM firmware update QueryDeviceIdentifiers. -/
  | querydeviceidentifiers
  /-- GETFIRMWAREPARAMETERS (R623): PLDM firmware update GetFirmwareParameters. -/
  | getfirmwareparameters
  /-- REQUESTUPDATE (R623): Enters update mode, or returns RETRY_REQUEST_UPDATE during FW_STAGE or FW_ACTIVATE. -/
  | requestupdate
  /-- PASSCOMPONENTTABLE (R623): Accepts the component table for component 0x6180. -/
  | passcomponenttable (comp : Nat)
  /-- UPDATECOMPONENT (R623): Starts transfer of the firmware component in 512-byte requests. -/
  | updatecomponent (comp size : Nat)
  /-- FIRMWARE_DATA_RECEIVE (R623): A RequestFirmwareData response arrives; when complete the image is verified and applied. -/
  | firmwareDataReceive (data : List Byte)
  /-- ACTIVATEFIRMWARE (R623): Activates the staged image as FW_ACTIVATE now or deferred. -/
  | activatefirmware (self : Bool)
  /-- GETSTATUS (R623): Returns the firmware update status. -/
  | getstatus
  /-- CANCELUPDATECOMPONENT (R623): Cancels the component transfer. -/
  | cancelupdatecomponent
  /-- CANCELUPDATE (R623): Cancels the update. -/
  | cancelupdate
  /-- POWER_ON_RESET (R654): The housekeeping supply rising resets everything and raises the power-cycle count. -/
  | powerOnReset
  /-- MODULE_RESET (R655): MOD_RESET_N low for 10 µs stops clocks, isolates, stops power and holds the Shepherds in reset. -/
  | moduleReset
  /-- MODULE_RESET_RELEASE (R657): MOD_RESET_N rising resumes start-up at step 1 as the latches in force allow. -/
  | moduleResetRelease
  /-- BUS_START (R358): Firmware starts the bus soft-start through COX16. -/
  | busStart
  /-- RAILS_START_HANDOVER (R392): On entry to rails_start COX17 takes the bus and COX16 moves to power mode. -/
  | railsStartHandover
  /-- DIE_EDGE_INIT_COMPLETE (R54): Die-to-die edges finish UCIe initialisation and lane repair at start-up. -/
  | dieEdgeInitComplete (up : List Nat)
  /-- STATION_SELF_TEST_COMPLETE (R651): The start-up self-test completes and firmware builds each die map. -/
  | stationSelfTestComplete (failed : List Nat)
  /-- REGISTER_READ (R10): A read of a register with RC fields returns the value and clears those fields in the same access, a narrow read included. -/
  | registerRead (who : Requester) (addr n : Nat)
  /-- INPUT_ABNORMAL (R334): The input voltage enters the abnormal range of 260-360 V or 400-410 V and the entry is logged. -/
  | inputAbnormal (mv : Nat)
  /-- CONTROLLER_RESTART (R200): A memory controller restarts holding a tail in state sealed or applying, so that firmware must write retry_apply. -/
  | controllerRestart (stack : Nat)
  /-- KORREL_LANE_LOCK (R278): A port receiver reaches FEC lock and lane alignment, settling polarity and reversal, or fails training when no permitted order aligns. -/
  | korrelLaneLock (p polarity : Nat) (reversed ok : Bool)
  /-- CAGE_INTERRUPT (R263): A cage's OSFP interrupt signal is asserted and reported to firmware. -/
  | cageInterrupt (p : Nat)
  /-- PCIE_LINK_UP (R500): The PCIe link trains and reaches L0 in Flit mode, or fails to negotiate Flit mode and sets GBL_PCIE.no_flit. -/
  | pcieLinkUp (rate width : Nat) (flit : Bool)
  /-- ENUM_REPEAT (R482): 2 ms after the first ENUM has woken the monitors, the ring master repeats the ENUM. -/
  | enumRepeat (ret : List Nat)
  /-- MONITOR_RESET (R479): A cell monitor resets and then answers READ with converted 0, so that the sweep is not valid. -/
  | monitorReset (k : Nat)
deriving DecidableEq, Repr

end Sys2Proof
end

