-- ==== Sys2Proof/Decode.lean ====
section
/-! DEFINITION. The command a table word spells. No row of the opcode table gives bits: the block is driven by commands
with operands, not by encoded words, so no word spells a command (log entry 9). -/

namespace Sys2Proof

/-- The command that a word of the opcode table's bits spells: none, since no row of the table gives bits. -/
def decodeTableWord (_nbits _w : Nat) : Option Instr := none

end Sys2Proof
end

