-- ==== Sys2Proof/Machine/Bf.lean ====
section
/-! DEFINITION. BF words and their arithmetic (R370, R371, R377, R378). -/

namespace Sys2Proof.Machine

/-- The mantissa of a BF word (R370). -/
def bfM (w : Nat) : Int := sint 24 (w % 2 ^ 24)
/-- The exponent of a BF word (R370). -/
def bfE (w : Nat) : Nat := w / 2 ^ 24 % 256
/-- A BF word from mantissa and exponent. -/
def bfPack (m : Int) (e : Nat) : Nat := uint 24 m + e % 256 * 2 ^ 24

/-- The value of a BF word in units of 2^-150, exactly. -/
def bfZ (w : Nat) : Int := bfM w * 2 ^ bfE w

/-- A quotient rounded to nearest-even; the divisor is positive. -/
def rneDiv (n : Int) (d : Nat) : Int :=
  let q := n / d
  let r := n % d
  if 2 * r < d ∨ (2 * r = d ∧ q % 2 = 0) then q else q + 1

/-- An integer square root, the largest whose square is at most `n`, by bisection on bits. -/
def isqrtBits (n : Nat) : Nat → Nat → Nat
  | 0, acc => acc
  | k + 1, acc => if (acc + 2 ^ k) * (acc + 2 ^ k) ≤ n then isqrtBits n k (acc + 2 ^ k) else isqrtBits n k acc

/-- An integer cube root, the largest whose cube is at most `n`. -/
def icbrtBits (n : Nat) : Nat → Nat → Nat
  | 0, acc => acc
  | k + 1, acc => if (acc + 2 ^ k) ^ 3 ≤ n then icbrtBits n k (acc + 2 ^ k) else icbrtBits n k acc

/-- Mantissa `m` at exponent `src` brought to exponent `dst`, a right shift rounding to nearest-even (R371). -/
def bfShift (m : Int) (src dst : Int) : Int :=
  if src ≤ dst then rneDiv m (2 ^ (dst - src).toNat) else m * 2 ^ (src - dst).toNat

/-- The largest mantissa (R371). -/
def bfMax : Int := 2 ^ 23 - 1

/-- A mantissa held in the range of a stage, with whether it fell outside (R371). -/
def stageFit (e : Nat) (m : Int) : Nat × Bool :=
  if bfMax < m then (bfPack bfMax e, true) else if m < -bfMax then (bfPack (-bfMax) e, true) else (bfPack m e, false)

/-- A word aligned to the exponent of a stage (R371). -/
def stageOf (e w : Nat) : Int := bfShift (bfM w) (bfE w) e

/-- The sum of two words in a stage (R371). -/
def sAdd (e a b : Nat) : Nat × Bool := stageFit e (stageOf e a + stageOf e b)
/-- The difference of two words in a stage. -/
def sSub (e a b : Nat) : Nat × Bool := stageFit e (stageOf e a - stageOf e b)
/-- The product of two words in a stage: formed exactly, then aligned (R371). -/
def sMul (e a b : Nat) : Nat × Bool := stageFit e (bfShift (bfM a * bfM b) ((bfE a : Int) + bfE b - 150) e)

/-- An exact rational `n / d` in units of 2^-150, in a stage. -/
def sRat (e : Nat) (n : Int) (d : Nat) : Nat := (stageFit e (rneDiv n (d * 2 ^ e))).1

/-- The magnitude of the exponent a positive value needs for a 24-bit mantissa: value in units of 2^-150 is `z`. -/
def bfExpFor (z : Nat) : Nat := if z < 2 ^ 23 then 0 else Nat.log2 z - 22

/-- A value `n / d` in units of 2^-150 as a BF word with a full mantissa, rounded to nearest-even: each operation of a
profile generator rounds so (log entry 31). -/
def bfOf (n : Int) (d : Nat) : Nat :=
  let e := bfExpFor (n.natAbs / d)
  let m := rneDiv n (d * 2 ^ e)
  if m.natAbs = 2 ^ 23 then bfPack (m / 2) (e + 1) else if 255 < e then bfPack (if n < 0 then -bfMax else bfMax) 255 else bfPack m e

/-- The value `n / d` as a BF word. -/
def bfRat (n : Int) (d : Nat) : Nat := bfOf (n * 2 ^ 150) d

/-- The sum of two words. -/
def bfAdd (a b : Nat) : Nat := bfOf (bfZ a + bfZ b) 1
/-- The difference of two words. -/
def bfSub (a b : Nat) : Nat := bfOf (bfZ a - bfZ b) 1
/-- The product of two words. -/
def bfMul (a b : Nat) : Nat := bfOf (bfZ a * bfZ b) (2 ^ 150)
/-- The quotient of two words; the divisor is not zero. -/
def bfDiv (a b : Nat) : Nat := if bfZ b = 0 then bfPack bfMax 255 else bfOf (bfZ a * 2 ^ 150 * (bfZ b).sign) (bfZ b).natAbs
/-- The negated word. -/
def bfNeg (a : Nat) : Nat := bfPack (-bfM a) (bfE a)
/-- The magnitude of a word. -/
def bfAbs (a : Nat) : Nat := if bfM a < 0 then bfNeg a else a
/-- Is one value below or equal to another? -/
def bfLe (a b : Nat) : Bool := decide (bfZ a ≤ bfZ b)
/-- Is one value below another? -/
def bfLt (a b : Nat) : Bool := decide (bfZ a < bfZ b)
/-- The lower of two words. -/
def bfMin (a b : Nat) : Nat := if bfLe a b then a else b
/-- The higher of two words. -/
def bfMax2 (a b : Nat) : Nat := if bfLe a b then b else a
/-- A word clamped to a range. -/
def bfClamp (x lo hi : Nat) : Nat := if bfLt hi x then hi else if bfLt x lo then lo else x
/-- The sign of a word: -1, 0 or 1. -/
def bfSign (a : Nat) : Int := (bfM a).sign
/-- A word times a sign. -/
def bfSigned (s : Int) (a : Nat) : Nat := if s < 0 then bfNeg a else if s = 0 then bfPack 0 (bfE a) else a

/-- The square root of a word that is not negative (R371): a 24-bit mantissa, rounded to nearest. -/
def bfSqrt (a : Nat) : Nat :=
  -- the root of z * 2^150 in units of 2^-150, with 40 bits to spare
  let z := (bfZ a).toNat * 2 ^ 150 * 2 ^ 80
  bfOf (isqrtBits z 280 0) (2 ^ 40)

/-- The cube root of a word that is not negative (R371). -/
def bfCbrt (a : Nat) : Nat :=
  let z := (bfZ a).toNat * 2 ^ 300 * 2 ^ 120
  bfOf (icbrtBits z 260 0) (2 ^ 40)

end Sys2Proof.Machine
end

