-- ==== Sys2Proof/Machine/Crypto.lean ====
section
/-! DEFINITION. SHA-384 (FIPS 180-4) and the verification of ECDSA signatures over P-384 (FIPS 186-5), the standards R18 and R560
name. What these standards state is taken from outside the spec (log entry 42). -/

namespace Sys2Proof.Machine

/-- A list of bytes, most significant first, as a number (R9). -/
def ofBeBytes (bs : List Byte) : Nat := bs.foldl (fun a x => a * 256 + x.toNat) 0

/-- The bytes of a number, most significant first. -/
def beBytes (n v : Nat) : List Byte := (leBytes n v).reverse

/-- The first eighty primes. -/
def shaPrimes : List Nat := ((List.range 410).filter (fun n => 2 ≤ n && ((List.range (n - 2)).all (fun d => n % (d + 2) != 0))))

/-- The round constants: the first 64 bits of the fractional parts of the cube roots of the primes. -/
def shaK : List Nat := shaPrimes.map (fun p => icbrtBits (p * 2 ^ 192) 68 0 % 2 ^ 64)

/-- The initial hash value: the first 64 bits of the fractional parts of the square roots of the ninth to sixteenth primes. -/
def shaH0 : List Nat := ((shaPrimes.drop 8).take 8).map (fun p => isqrtBits (p * 2 ^ 128) 68 0 % 2 ^ 64)

/-- Rotate a 64-bit word right. -/
def rotr (n x : Nat) : Nat := x / 2 ^ n + x % 2 ^ n * 2 ^ (64 - n)

/-- The small sigma functions. -/
def shaSig0 (x : Nat) : Nat := (rotr 1 x).xor ((rotr 8 x).xor (x / 128))
/-- The second small sigma. -/
def shaSig1 (x : Nat) : Nat := (rotr 19 x).xor ((rotr 61 x).xor (x / 64))

/-- Extend the message schedule, newest word first. -/
def shaSchedule : Nat → List Nat → List Nat
  | 0, w => w
  | n + 1, w => shaSchedule n (((shaSig1 (w.getD 1 0) + w.getD 6 0 + shaSig0 (w.getD 14 0) + w.getD 15 0) % 2 ^ 64) :: w)

/-- One round: the eight working words with a round constant and a schedule word. -/
def shaRound (h : List Nat) (kw : Nat × Nat) : List Nat :=
  match h with
  | [a, b, c, d, e, f, g, x] =>
    let s1 := (rotr 14 e).xor ((rotr 18 e).xor (rotr 41 e))
    let ch := (e.land f).xor ((2 ^ 64 - 1 - e).land g)
    let t1 := x + s1 + ch + kw.1 + kw.2
    let s0 := (rotr 28 a).xor ((rotr 34 a).xor (rotr 39 a))
    let maj := (a.land b).xor ((a.land c).xor (b.land c))
    [(t1 + s0 + maj) % 2 ^ 64, a, b, c, (d + t1) % 2 ^ 64, e, f, g]
  | _ => h

/-- Compress one block of sixteen words. -/
def shaBlock (h blk : List Nat) : List Nat :=
  let w := (shaSchedule 64 blk.reverse).reverse
  let r := (shaK.zip w).foldl shaRound h
  (h.zip r).map (fun p => (p.1 + p.2) % 2 ^ 64)

/-- The words of a padded message, a block of sixteen at a time. -/
def shaBlocks : Nat → List Nat → List Nat → List Nat
  | 0, _, h => h
  | n + 1, ws, h => shaBlocks n (ws.drop 16) (shaBlock h (ws.take 16))

/-- Bytes as 64-bit words, most significant byte first. -/
def beWords : Nat → List Byte → List Nat
  | 0, _ => []
  | n + 1, bs => ofBeBytes (bs.take 8) :: beWords n (bs.drop 8)

/-- SHA-384 of a message. -/
def sha384 (msg : List Byte) : List Byte :=
  let n := (msg.length + 17 + 127) / 128
  let padded := msg ++ [0x80] ++ List.replicate (128 * n - msg.length - 17) 0 ++ beBytes 16 (8 * msg.length)
  ((shaBlocks n (beWords (16 * n) padded) shaH0).take 6).flatMap (beBytes 8)

/-- The prime of the field of P-384. -/
def p384P : Nat := 2 ^ 384 - 2 ^ 128 - 2 ^ 96 + 2 ^ 32 - 1
/-- The coefficient b of the curve. -/
def p384B : Nat := 0xb3312fa7e23ee7e4988e056be3f82d19181d9c6efe8141120314088f5013875ac656398d8a2ed19d2a85c8edd3ec2aef
/-- The order of the base point. -/
def p384N : Nat := 0xffffffffffffffffffffffffffffffffffffffffffffffffc7634d81f4372ddf581a0db248b0a77aecec196accc52973
/-- The base point. -/
def p384G : Nat × Nat :=
  (0xaa87ca22be8b05378eb1c71ef320ad746e1d3b628ba79b9859f741e082542a385502f25dbf55296c3a545e3872760ab7,
   0x3617de4a96262c6f5d9e98bf9292dc29f8f41dbd289a147ce9da3113b5f0b8c00a60b1ce1d7e819d7a431d7c90ea0e5f)

/-- A difference modulo a modulus, of numbers below it. -/
def subMod (m a b : Nat) : Nat := (a + m - b % m) % m

/-- Powers modulo a modulus, over the bits of the exponent. -/
def powMod (m : Nat) : Nat → Nat → Nat → Nat
  | 0, _, _ => 1 % m
  | k + 1, a, e => let r := powMod m k (a * a % m) (e / 2); if e % 2 = 1 then r * a % m else r

/-- The inverse modulo a prime. -/
def invMod (m a : Nat) : Nat := powMod m 384 (a % m) (m - 2)

/-- A point in Jacobian coordinates; z = 0 is the point at infinity. -/
structure JPoint where
  x : Nat
  y : Nat
  z : Nat
deriving DecidableEq, Repr

/-- The double of a point (a = -3). -/
def jDouble (q : JPoint) : JPoint :=
  let p := p384P
  let z2 := q.z * q.z % p
  let y2 := q.y * q.y % p
  let s := 4 * q.x * y2 % p
  let m := 3 * (subMod p q.x z2 * (q.x + z2)) % p
  let x := subMod p (m * m % p) (2 * s)
  ⟨x, subMod p (m * subMod p s x % p) (8 * y2 * y2), 2 * q.y * q.z % p⟩

/-- The sum of two points. -/
def jAdd (q r : JPoint) : JPoint :=
  let p := p384P
  if q.z = 0 then r else if r.z = 0 then q
  else
    let z1 := q.z * q.z % p
    let z2 := r.z * r.z % p
    let u1 := q.x * z2 % p
    let u2 := r.x * z1 % p
    let s1 := q.y * z2 % p * r.z % p
    let s2 := r.y * z1 % p * q.z % p
    let h := subMod p u2 u1
    let t := subMod p s2 s1
    if h = 0 then (if t = 0 then jDouble q else ⟨1, 1, 0⟩)
    else
      let h2 := h * h % p
      let h3 := h2 * h % p
      let v := u1 * h2 % p
      let x := subMod p (t * t % p) (h3 + 2 * v)
      ⟨x, subMod p (t * subMod p v x % p) (s1 * h3), h * (q.z * r.z % p) % p⟩

/-- u G + v Q, over the bits of both scalars from the top. -/
def jMul2 (q1 q2 sum : JPoint) (u v : Nat) : Nat → JPoint
  | 0 => ⟨1, 1, 0⟩
  | k + 1 =>
    let hi := jDouble (jMul2 q1 q2 sum (u / 2) (v / 2) k)
    if u % 2 = 1 ∧ v % 2 = 1 then jAdd hi sum else if u % 2 = 1 then jAdd hi q1 else if v % 2 = 1 then jAdd hi q2 else hi

/-- Is a 96-byte key a point on the curve (R561, R569)? -/
def onCurve (key : List Byte) : Bool :=
  let x := ofBeBytes (key.take 48)
  let y := ofBeBytes (key.drop 48)
  key.length == 96 && decide (x < p384P) && decide (y < p384P)
    && y * y % p384P == (x * x % p384P * x + (p384P - 3) * x + p384B) % p384P

/-- Does an ECDSA signature, r then s in 48 bytes each, verify over the SHA-384 of a message (R525, R560, R564)? -/
def verifySig (key msg sig : List Byte) : Bool :=
  let r := ofBeBytes (sig.take 48)
  let s := ofBeBytes (sig.drop 48)
  if key.length ≠ 96 ∨ sig.length ≠ 96 ∨ r = 0 ∨ p384N ≤ r ∨ s = 0 ∨ p384N ≤ s then false
  else
    let e := ofBeBytes (sha384 msg)
    let w := invMod p384N s
    let g : JPoint := ⟨p384G.1, p384G.2, 1⟩
    let q : JPoint := ⟨ofBeBytes (key.take 48), ofBeBytes (key.drop 48), 1⟩
    let t := jMul2 g q (jAdd g q) (e * w % p384N) (r * w % p384N) 384
    if t.z = 0 then false
    else
      let zi := invMod p384P t.z
      t.x * (zi * zi % p384P) % p384P % p384N == r

end Sys2Proof.Machine
end

