-- ==== Sys2Proof/Machine/Crc.lean ====
section
/-! DEFINITION. The check values of the module (R202): CRC-16, CRC-32C and CRC-64. -/

namespace Sys2Proof.Machine

/-- One step of a reflected CRC (R202). -/
def crcReflByte (poly run x : Nat) : Nat :=
  (List.range 8).foldl (fun r _ => if r % 2 = 1 then Nat.xor (r / 2) poly else r / 2) (Nat.xor run x)

/-- CRC-32C of bytes (R202). -/
def crc32c (bs : List Byte) : Nat :=
  Nat.xor (bs.foldl (fun r x => crcReflByte 0x82F63B78 r x.toNat) 0xFFFFFFFF) 0xFFFFFFFF

/-- CRC-64 of bytes (R202). -/
def crc64 (bs : List Byte) : Nat :=
  Nat.xor (bs.foldl (fun r x => crcReflByte 0xC96C5795D7870F42 r x.toNat) (2 ^ 64 - 1)) (2 ^ 64 - 1)

/-- One step of CRC-16, 0x1021 unreflected (R202). -/
def crc16Byte (run : Nat) (x : Nat) : Nat :=
  (List.range 8).foldl (fun r _ => if bit r 15 then Nat.xor (r * 2 % 65536) 0x1021 else r * 2 % 65536)
    (Nat.xor run (x * 256) % 65536)

/-- CRC-16 over bytes (R202). -/
def crc16 (bs : List Nat) : Nat := bs.foldl crc16Byte 0xFFFF

/-- The product with α = 2 in GF(2⁸) by 0x11D (R180). -/
def gfDouble (x : Nat) : Nat := if bit x 7 then Nat.xor (x * 2 % 256) 0x1D else x * 2

/-- The product in GF(2⁸) (R180). -/
def gfMul (x y : Nat) : Nat :=
  ((List.range 8).foldl (fun (p : Nat × Nat) i => (if bit y i then Nat.xor p.1 p.2 else p.1, gfDouble p.2)) (0, x)).1

/-- One data symbol enters the remainder r3, r2, r1, r0 by g(x) = x⁴ + 0x0F x³ + 0x36 x² + 0x78 x + 0x40 (R180). -/
def rsStep (r : Nat × Nat × Nat × Nat) (d : Nat) : Nat × Nat × Nat × Nat :=
  let f := Nat.xor d r.1
  (Nat.xor r.2.1 (gfMul f 0x0F), Nat.xor r.2.2.1 (gfMul f 0x36), Nat.xor r.2.2.2 (gfMul f 0x78), gfMul f 0x40)

/-- rs_check (R180): the four check symbols of a unit. -/
def rsCheck (ds : List Byte) : List Byte :=
  let r := (ds.map BitVec.toNat).foldl rsStep (0, 0, 0, 0)
  [r.1, r.2.1, r.2.2.1, r.2.2.2].map (BitVec.ofNat 8)

/-- The 36 symbols of a unit by their reported positions (R180, R181). -/
def codeword (ds : List Byte) : List Byte := ds ++ rsCheck ds

end Sys2Proof.Machine
end

