-- ==== Sys2Proof/Machine/Wire.lean ====
section
/-! DEFINITION. The layouts of what travels on wires, byte by byte: fabric flits (R56), telegrams (R230, R231, R234, R235, R237), Korrel
flits (R264-R266), Shepherd frames and their messages (R305, R330, R498). Reserved bytes and bits are sent as 0. -/

namespace Sys2Proof

open Machine

/-- The host die of each stack (R173). -/
def stackHost (k : Nat) : Nat := ([0, 1, 2, 3, 7, 11, 15, 14, 13, 12, 8, 4] : List Nat).getD k 0

/-- The corner die that link die `n` joins (R21). -/
def cornerDie (n : Nat) : Nat := ([0, 3, 12, 15] : List Nat).getD n 0

/-- The endpoint field of an endpoint code (R56, R174). -/
def epField (e : Nat) : Nat :=
  if e < 1024 then e / 64 + e % 64 * 16
  else if e < 2048 then stackHost (e - 1024) + (e - 1024) * 16 + 1024
  else if e < 3072 then cornerDie (e - 2048) + 2 * 1024
  else (e - 3072) % 16 + 3 * 1024

/-- The type of a flit (R56). -/
def FlitKind.code : FlitKind → Nat
  | .readRequest => 0x1
  | .readResponse => 0x2
  | .write => 0x3
  | .writeAck => 0x4
  | .tallySignal => 0x5
  | .strokeStart => 0x6
  | .droverBulk => 0x7
  | .telegram => 0x8
  | .errorResponse => 0x9

/-- The traffic class of a flit (R51). -/
def FlitKind.cls : FlitKind → Nat
  | .readRequest => 2
  | .readResponse => 1
  | .write => 2
  | .writeAck => 1
  | .tallySignal => 0
  | .strokeStart => 0
  | .droverBulk => 3
  | .telegram => 0
  | .errorResponse => 1

/-- Bytes cut or filled with zeros to a length. -/
def fitBytes (n : Nat) (bs : List Byte) : List Byte := (bs ++ List.replicate n 0).take n

/-- Bytes closed by their CRC-32C (R202). -/
def withCrc (bs : List Byte) : List Byte := bs ++ leBytes 4 (crc32c bs)

/-- The payload of a flit (R56): seven units; byte 28 of an error response holds the cause. -/
def Flit.payloadBytes (f : Flit) : List Byte :=
  fitBytes 224 (if f.kind = .errorResponse then leBytes 1 f.cause else f.payload.map (fun x => x.getD 0))

/-- The number of valid units of a flit's payload (R56). -/
def Flit.units (f : Flit) : Nat := min 7 ((f.payload.length + 31) / 32)

/-- A fabric flit on a UCIe module (R56), with its link-level number, the number it acknowledges and no credits returned. -/
def Flit.bytes (f : Flit) (seq ack : Nat) : List Byte :=
  withCrc (leBytes 1 (f.kind.code + f.kind.cls * 16) ++ leBytes 2 (epField f.dst) ++ leBytes 2 (epField f.src) ++ leBytes 6 (f.addr % 2 ^ 48)
    ++ leBytes 1 f.units ++ leBytes 2 f.tag ++ leBytes 2 (seq % 4096) ++ leBytes 2 (ack % 4096) ++ leBytes 4 0 ++ leBytes 6 0 ++ f.payloadBytes)

/-- The type and length of a telegram (R231). -/
def telLength (ttype : Nat) : Nat :=
  match ttype with
  | 1 => 164
  | 2 => 44
  | 3 => 24
  | 4 => 24
  | 5 => 32
  | 6 => 28
  | 7 => 48
  | _ => 0

/-- The flit type that carries a telegram (R229). -/
def telKind (ttype : Nat) : FlitKind := if ttype = 1 then .strokeStart else if ttype = 5 then .tallySignal else .telegram

/-- A telegram (R230): header, body, CRC. -/
def telBytes (ttype : Nat) (h : TelHead) (body : List Byte) : List Byte :=
  withCrc (leBytes 1 ttype ++ leBytes 1 h.level ++ leBytes 2 (telLength ttype) ++ leBytes 2 (h.sender % 16384) ++ leBytes 2 (h.flock % 16384)
    ++ leBytes 6 (h.stroke % 2 ^ 48) ++ leBytes 1 h.alive ++ leBytes 1 (cond h.combined 1 0) ++ fitBytes (telLength ttype - 20) body)

/-- One bit of a byte. -/
def flagBit (k : Nat) (v : Bool) : Nat := cond v (2 ^ k) 0

/-- The body of a START (R234). -/
def StartBody.bytes (x : StartBody) : List Byte :=
  leBytes 4 x.periodUs ++ leBytes 4 x.warnDelayUs ++ leBytes 2 x.leadUs ++ leBytes 2 x.kind
    ++ leBytes 1 (flagBit 0 x.first + flagBit 1 x.last + flagBit 2 x.replay + flagBit 3 x.arm) ++ leBytes 1 x.replayClass ++ leBytes 2 0
    ++ (List.range 16).flatMap (fun i => leBytes 8 (x.inbound.getD i 0))

/-- The body of a HEADROOM (R235). -/
def HeadroomBody.bytes (x : HeadroomBody) : List Byte :=
  leBytes 4 x.periodUs ++ leBytes 4 x.startDelayUs ++ leBytes 4 x.lateUs ++ leBytes 4 x.headroomMj ++ leBytes 1 x.decision
    ++ leBytes 1 (flagBit 0 x.capActive + flagBit 1 x.atReserve) ++ leBytes 2 x.count ++ leBytes 2 x.missing ++ leBytes 2 (x.setter % 16384)

/-- The body of an ARRIVE or a RELEASE (R237). -/
def barrierBytes (gen count : Nat) : List Byte := leBytes 2 gen ++ leBytes 2 count

/-- The body of a TALLY (R237): the target names the die above the logical station. -/
def TallyBody.bytes (x : TallyBody) : List Byte :=
  leBytes 2 (x.tally % 4096 + flagBit 12 x.toFlock) ++ leBytes 2 (if x.toFlock then 0 else x.target % 64 + x.target / 64 % 16 * 64)
    ++ leBytes 4 x.value ++ leBytes 2 (if x.toFlock then 0 else x.dest % 16384) ++ leBytes 2 0

/-- The body of a LOSS (R237). -/
def LossBody.bytes (x : LossBody) : List Byte :=
  leBytes 2 (x.lost % 16384) ++ leBytes 1 x.reason ++ leBytes 1 0 ++ leBytes 2 (x.detector % 16384) ++ leBytes 2 0

/-- The body of an ECHO (R237). -/
def EchoBody.bytes (x : EchoBody) : List Byte :=
  leBytes 2 (x.originator % 16384) ++ leBytes 1 (cond x.reply 1 0) ++ leBytes 1 x.seq ++ leBytes 8 x.t1 ++ leBytes 8 x.t2 ++ leBytes 8 x.t3

/-- The body of a control flit (R266): ctl, peer_kind 0 for a module, peer_id, peer_port, levels, eight words of credits, retry_depth. -/
def ctlBytes (ctl me port lo hi : Nat) (credits : List Nat) (depth : Nat) : List Byte :=
  leBytes 1 ctl ++ leBytes 1 0 ++ leBytes 2 (me % 16384) ++ leBytes 1 port ++ leBytes 1 (lo % 16 + hi % 16 * 16)
    ++ (List.range 8).flatMap (fun v => leBytes 2 (credits.getD v 0)) ++ leBytes 2 depth

/-- The payload of a Korrel flit (R264, R266): that of the fabric flit it carries, or the body of its type. -/
def KFlit.payloadBytes (k : KFlit) : List Byte :=
  match k.ftype, k.flit with
  | 1, some f => f.payloadBytes
  | 3, _ => fitBytes 224 (ctlBytes (k.body.getD 0 0) k.srcModule (k.body.getD 3 0) (k.body.getD 4 0) (k.body.getD 5 0) ((k.body.drop 6).take 8) (k.body.getD 14 0))
  | _, _ => fitBytes 224 (leBytes 1 (k.body.getD 0 0))

/-- A Korrel flit on a port (R264). -/
def KFlit.bytes (k : KFlit) (ack0 ack1 : Nat) (credits : List Nat) : List Byte :=
  let ctype := (k.flit.map (fun f => f.kind.code)).getD 0
  let units := (k.flit.map Flit.units).getD 0
  withCrc (leBytes 1 (k.ftype % 8 + k.vc % 8 * 8)
    ++ leBytes 1 (ctype + units * 16 + (if k.ftype = 2 then k.body.getD 0 0 % 2 * 128 else 0))
    ++ leBytes 2 ((if k.ftype = 2 then k.body.getD 1 0 else k.seq) % 4096) ++ leBytes 2 (ack0 % 4096) ++ leBytes 2 (ack1 % 4096)
    ++ leBytes 2 (k.destModule % 16384) ++ leBytes 2 (k.srcModule % 16384)
    ++ leBytes 2 ((k.flit.map (fun f => epField f.dst)).getD 0) ++ leBytes 2 ((k.flit.map (fun f => epField f.src)).getD 0)
    ++ leBytes 6 ((k.flit.map (fun f => f.addr % 2 ^ 48)).getD 0) ++ leBytes 2 ((k.flit.map Flit.tag).getD 0)
    ++ leBytes 4 (((List.range 8).map (fun v => credits.getD v 0 % 16 * 16 ^ v)).sum) ++ k.payloadBytes)

/-- A Shepherd frame (R498): seven units. -/
def frameBytes (cls src dest alive : Nat) (body : List Byte) : List Byte :=
  withCrc (leBytes 2 cls ++ leBytes 2 body.length ++ leBytes 2 (src % 16384) ++ leBytes 2 (dest % 16384) ++ leBytes 2 alive ++ leBytes 6 0
    ++ fitBytes 204 body)

/-- The body of a failover message (R305), from its fields as the model lists them: the code, then the fields in the order of the table. -/
def failBytes (ws : List Nat) : List Byte :=
  let f := fun i => ws.getD i 0
  let head := leBytes 1 (f 0) ++ leBytes 1 0
  match f 0 with
  | 1 => head ++ leBytes 6 (f 1) ++ leBytes 6 (f 2) ++ leBytes 1 (f 3) ++ leBytes 1 (f 4) ++ leBytes 2 (f 5)
  | 2 => head ++ leBytes 6 (f 1) ++ leBytes 6 0 ++ leBytes 1 (f 2) ++ leBytes 1 0 ++ leBytes 2 (f 3)
  | 3 => head ++ leBytes 14 0 ++ leBytes 2 (f 1) ++ leBytes 2 (f 2) ++ leBytes 1 (f 3)
  | 4 => head ++ leBytes 14 0 ++ leBytes 2 (f 1) ++ leBytes 2 (f 2) ++ leBytes 2 (f 3)
  | 5 => head ++ leBytes 14 0 ++ leBytes 2 (f 1)
  | 6 => head ++ leBytes 14 0 ++ leBytes 2 (f 1)
  | 7 => head ++ leBytes 6 (f 1) ++ leBytes 8 0 ++ leBytes 2 (f 2) ++ leBytes 2 (f 3) ++ leBytes 1 (f 4)
  | _ => head ++ leBytes 6 (f 1) ++ leBytes 8 0 ++ leBytes 2 (f 2)

/-- The body of a RETURN or a RETURN_ACK (R330): code, role, flock, list_crc, module, result. -/
def returnBytes (ws : List Nat) : List Byte :=
  let f := fun i => ws.getD i 0
  leBytes 1 (f 0) ++ leBytes 1 (f 1) ++ leBytes 2 (f 2 % 16384) ++ leBytes 4 (f 3) ++ leBytes 2 (f 4 % 16384) ++ leBytes 1 (f 5) ++ leBytes 1 0

end Sys2Proof
end

