-- ==== Sys2Proof/Machine/Mesh.lean ====
section
/-! DEFINITION. The panel's topology: dies and their edges (R21, R50), the fixed routes of flits (R52) and what R60 counts on them. -/

namespace Sys2Proof

open Machine

/-- The link-die edge of a corner die (R173). -/
def linkEdge (d : Nat) : Nat := if d = 0 ∨ d = 12 then 3 else 1

/-- The link die that joins a corner die (R21). -/
def linkOf (d : Nat) : Nat := if d = 0 then 0 else if d = 3 then 1 else if d = 12 then 2 else 3

/-- The node of the panel where an endpoint stands (R56): dies are nodes 0 to 15, link die n is node 16 + n. -/
def epNode (e : Nat) : Nat :=
  if e < 1024 then e / 64 else if e < 2048 then stackHost (e - 1024) else if e < 3072 then 16 + (e - 2048) else (e - 3072) % 16

/-- The node where a flit now is: the one it has reached, or its source's. -/
def Flit.node (f : Flit) : Nat := f.pos.getD (epNode f.src)

/-- The node a flit goes to: its destination's, or the link die that serves its port (R281). -/
def Flit.goal (f : Flit) : Nat :=
  match f.via with
  | some (_, _, p) => 16 + (if p ≤ 4 then 0 else if p ≤ 8 then 1 else if p ≤ 13 then 2 else 3)
  | none => epNode f.dst

/-- The edge by which a route leaves a node on its way to another (R52): along the die row, then along the die column; the attachment of a
link die first or last. -/
def nextEdge (n goal : Nat) : Option Nat :=
  if n = goal then none
  else if 16 ≤ n then some 0
  else
    let t := if 16 ≤ goal then cornerDie (goal - 16) else goal
    if n % 4 < t % 4 then some 1
    else if t % 4 < n % 4 then some 3
    else if n / 4 < t / 4 then some 2
    else if t / 4 < n / 4 then some 0
    else some (linkEdge n)

/-- The edge a flit crosses next; none once it has arrived. -/
def Flit.nextEdge (f : Flit) : Option Nat := Sys2Proof.nextEdge f.node f.goal

/-- The node across an edge (R21, R50). -/
def across (n edge : Nat) : Nat :=
  if 16 ≤ n then cornerDie (n - 16)
  else if n ∈ [0, 3, 12, 15] ∧ edge = linkEdge n then 16 + linkOf n
  else match edge with
    | 0 => n - 4
    | 1 => n + 1
    | 2 => n + 4
    | _ => n - 1

/-- The edge of the node across an edge that faces it. -/
def facing (n edge : Nat) : Nat := if 16 ≤ n then linkEdge (across n edge) else if 16 ≤ across n edge then 0 else (edge + 2) % 4

/-- The STN_EDGE register of an edge (R81): a link die's attachment is shown by its corner die. -/
def edgeIx (n edge : Nat) : Nat := if 16 ≤ n then cornerDie (n - 16) * 4 + linkEdge (cornerDie (n - 16)) else n * 4 + edge

/-- The island that serves an edge of a node (R44). -/
def edgeIsland (n edge : Nat) : Island := if 16 ≤ n then .linkDie (n - 16) else .segment n edge

/-- One move of a flit (R50, R52): between two routers of a die, between a router and an edge segment, by a pass-through channel from one
segment of a die to another, over a die edge. -/
inductive Hop where
  | mesh (die position next : Nat)
  | attach (die position edge : Nat)
  | pass (die entry exit : Nat)
  | edge (node edge : Nat)
deriving DecidableEq, Repr

/-- Moves along a row of routers from one column to another (R52). -/
def rowHops (die row : Nat) : Nat → Nat → Nat → List Hop
  | 0, _, _ => []
  | fuel + 1, c, c' =>
    if c < c' then .mesh die (row * 13 + c) (row * 13 + c + 1) :: rowHops die row fuel (c + 1) c'
    else if c' < c then .mesh die (row * 13 + c) (row * 13 + c - 1) :: rowHops die row fuel (c - 1) c'
    else []

/-- Moves along a column of routers from one row to another (R52). -/
def columnHops (die column : Nat) : Nat → Nat → Nat → List Hop
  | 0, _, _ => []
  | fuel + 1, r, r' =>
    if r < r' then .mesh die (r * 13 + column) ((r + 1) * 13 + column) :: columnHops die column fuel (r + 1) r'
    else if r' < r then .mesh die (r * 13 + column) ((r - 1) * 13 + column) :: columnHops die column fuel (r - 1) r'
    else []

/-- The router of an edge segment's attachment for a station (R50, R52): in its row for a west or east segment, in its column for a north or
south one. -/
def attachPosition (p edge : Nat) : Nat :=
  match edge with
  | 0 => p % 13
  | 1 => p / 13 * 13 + 12
  | 2 => 39 + p % 13
  | _ => p / 13 * 13

/-- The moves of a flit within one die, between two routers (R52). -/
def withinDie (die p q : Nat) : List Hop :=
  rowHops die (p / 13) 12 (p % 13) (q % 13) ++ columnHops die (q % 13) 3 (p / 13) (q / 13)

/-- The moves of a flit that has entered a node by an edge, up to its goal (R52). -/
def enterHops : Nat → Nat → Nat → Nat → Nat → List Hop
  | 0, _, _, _, _ => []
  | fuel + 1, n, entry, goal, q =>
    match nextEdge n goal with
    | none => if 16 ≤ n then [] else .attach n (attachPosition q entry) entry :: withinDie n (attachPosition q entry) q
    | some e => .pass n entry e :: .edge n e :: enterHops fuel (across n e) (facing n e) goal q

/-- The route of R52 from a station to a station, at their physical positions. -/
def route (src dst : Nat) : List Hop :=
  match nextEdge (src / 64) (dst / 64) with
  | none => withinDie (src / 64) (src % 64) (dst % 64)
  | some e =>
    let a := attachPosition (src % 64) e
    withinDie (src / 64) (src % 64) a ++ .attach (src / 64) a e :: .edge (src / 64) e
      :: enterHops 6 (across (src / 64) e) (facing (src / 64) e) (dst / 64) (dst % 64)

/-- m of R60: mesh hops. -/
def meshHops (r : List Hop) : Nat := (r.filter (fun | .mesh _ _ _ => true | .attach _ _ _ => true | _ => false)).length
/-- h of R60: die edges crossed. -/
def edgeHops (r : List Hop) : Nat := (r.filter (fun | .edge _ _ => true | _ => false)).length
/-- q of R60: pass-through channels used. -/
def passHops (r : List Hop) : Nat := (r.filter (fun | .pass _ _ _ => true | _ => false)).length

/-- The latency of a read from station `src` of the SRAM of `dst`, in cycles at equal frequencies (R60). -/
def readCycles (src dst : Nat) : Nat :=
  3 + 2 * meshHops (route src dst) + 6 * edgeHops (route src dst) + 4 * passHops (route src dst)

/-- The latency of a write or a tally signal from one station to another (R60). -/
def writeCycles (src dst : Nat) : Nat :=
  if src = dst then 1
  else 2 + meshHops (route src dst) + 3 * edgeHops (route src dst) + 2 * passHops (route src dst)

end Sys2Proof
end

