-- ==== Sys2Proof/Machine/Fp.lean ====
section
/-! DEFINITION. Number formats and exact arithmetic with one rounding (R82-R115): every operation is computed exactly
and rounded once. Flags are the bit mask of R115. -/

namespace Sys2Proof.Machine

/-- The flags of R115 as masks. -/
def Fl.invalid : Nat := 1
def Fl.divByZero : Nat := 2
def Fl.overflow : Nat := 4
def Fl.underflow : Nat := 8
def Fl.inexact : Nat := 16
def Fl.saturated : Nat := 32
def Fl.nanScale : Nat := 64

/-- A value with the flags its computation raised. -/
structure Flagged (α : Type) where
  val : α
  fl : Nat
deriving DecidableEq, Repr

/-- The rounding modes of R107; `sr` carries its 16-bit random value (R108). -/
inductive RMode where
  | rne | rtz | rup | rdn
  | sr (rnd : Nat)
deriving DecidableEq, Repr

/-- A binary floating-point format (R83): the exponent and mantissa bits, the bias, the largest finite magnitude code
and whether the format has infinities (the code after the largest finite one). -/
structure Fmt where
  ebits : Nat
  mbits : Nat
  bias : Nat
  maxCode : Nat
  hasInf : Bool
  hasNan : Bool
deriving DecidableEq, Repr

/-- R83. -/
def Fmt.fp32 : Fmt := ⟨8, 23, 127, 0x7F7FFFFF, true, true⟩
/-- R83. -/
def Fmt.bf16 : Fmt := ⟨8, 7, 127, 0x7F7F, true, true⟩
/-- R83. -/
def Fmt.fp16 : Fmt := ⟨5, 10, 15, 0x7BFF, true, true⟩
/-- R83. -/
def Fmt.e4m3 : Fmt := ⟨4, 3, 7, 0x7E, false, true⟩
/-- R83. -/
def Fmt.e5m2 : Fmt := ⟨5, 2, 15, 0x7B, true, true⟩
/-- R83. -/
def Fmt.e3m2 : Fmt := ⟨3, 2, 3, 0x1F, false, false⟩
/-- R83. -/
def Fmt.e2m3 : Fmt := ⟨2, 3, 1, 0x1F, false, false⟩
/-- R83. -/
def Fmt.e2m1 : Fmt := ⟨2, 1, 1, 0x7, false, false⟩

/-- Width of a format in bits, sign included. -/
def Fmt.width (f : Fmt) : Nat := 1 + f.ebits + f.mbits
/-- The exponent of the smallest subnormal. -/
def Fmt.qmin (f : Fmt) : Int := 1 - (f.bias : Int) - f.mbits
/-- The canonical NaN of the format (R84). -/
def Fmt.nan (f : Fmt) : Nat :=
  if f.hasInf && f.mbits > 2 then (2 ^ f.ebits - 1) * 2 ^ f.mbits + 2 ^ (f.mbits - 1) else 2 ^ (f.ebits + f.mbits) - 1

/-- A decoded number: NaN (signalling or quiet), an infinity, or a finite value `(-1)^neg * m * 2^e`. -/
inductive FVal where
  | nan (signalling : Bool)
  | inf (neg : Bool)
  | fin (neg : Bool) (m : Nat) (e : Int)
deriving DecidableEq, Repr

/-- Decode an encoding of the format (R83). The NaN encodings of E4M3 and E5M2 count as quiet (R103). -/
def Fmt.decode (f : Fmt) (code : Nat) : FVal :=
  let mag := code % 2 ^ (f.ebits + f.mbits)
  let neg := bit code (f.ebits + f.mbits)
  if f.maxCode < mag then
    if f.hasInf && mag == f.maxCode + 1 then .inf neg
    else .nan (decide (7 ≤ f.mbits) && !bit mag (f.mbits - 1))
  else
    let ex := mag / 2 ^ f.mbits
    let man := mag % 2 ^ f.mbits
    if ex = 0 then .fin neg man f.qmin else .fin neg (man + 2 ^ f.mbits) (f.qmin + ex - 1)

/-- Round `m / 2^d` to an integer by the mode; `neg` is the sign of the value (R107, R108). -/
def roundShift (mode : RMode) (neg : Bool) (m d : Nat) : Nat :=
  let lo := m / 2 ^ d
  let r := m % 2 ^ d
  if r = 0 then lo
  else
    match mode with
    | .rne => if 2 * r < 2 ^ d then lo else if 2 ^ d < 2 * r then lo + 1 else lo + lo % 2
    | .rtz => lo
    | .rup => if neg then lo else lo + 1
    | .rdn => if neg then lo + 1 else lo
    | .sr rnd => if rnd < r * 65536 / 2 ^ d then lo + 1 else lo

/-- The magnitude code of `n * 2^q`, `q` at or above the format's `qmin` and `n` at most `2^(mbits + 1)`. -/
def Fmt.code (f : Fmt) (n : Nat) (q : Int) : Nat :=
  if n < 2 ^ f.mbits then n
  else ((q - f.qmin).toNat) * 2 ^ f.mbits + n

/-- The result of rounding a finite value to a format with the exponent unbounded above: the magnitude code (which may
exceed the format's largest), whether it was inexact, whether it was tiny after rounding (R115). -/
structure Rounded where
  code : Nat
  inexact : Bool
  tiny : Bool
deriving DecidableEq, Repr

/-- `m * 2^e` as the integer `m` scaled by `2^(e - q)` and rounded by the mode: the integer and whether it was inexact. -/
def scaleRound (mode : RMode) (neg : Bool) (m : Nat) (e q : Int) : Nat × Bool :=
  if q ≤ e then (m * 2 ^ (e - q).toNat, false)
  else (roundShift mode neg m (q - e).toNat, m % 2 ^ (q - e).toNat != 0)

/-- Round the magnitude `m * 2^e` to the precision of the format. -/
def Fmt.roundMag (f : Fmt) (mode : RMode) (neg : Bool) (m : Nat) (e : Int) : Rounded :=
  if m = 0 then ⟨0, false, false⟩
  else
    let top : Int := (Nat.log2 m : Int) + e
    let qn : Int := top - f.mbits
    let q : Int := if qn < f.qmin then f.qmin else qn
    let r := scaleRound mode neg m e q
    let u := scaleRound mode neg m e qn
    let tiny := decide (qn < f.qmin) && !(decide (qn = f.qmin - 1) && decide (2 ^ (f.mbits + 1) ≤ u.1))
    ⟨f.code r.1 q, r.2, tiny⟩

/-- Attach a sign to a magnitude code. -/
def Fmt.signed (f : Fmt) (neg : Bool) (mag : Nat) : Nat := cond neg (2 ^ (f.ebits + f.mbits)) 0 + mag

/-- What IEEE 754 delivers on overflow for the mode: the infinity code or the largest finite code (R109, R110). -/
def overflowToInf (mode : RMode) (neg : Bool) : Bool :=
  match mode with
  | .rne => true
  | .rtz => false
  | .rup => !neg
  | .rdn => neg
  | .sr _ => false

/-- The mode in which a value is rounded: a value beyond the largest finite value rounds in mode sr as in rtz (R108). -/
def Fmt.modeFor (f : Fmt) (mode : RMode) (neg : Bool) (m : Nat) (e : Int) : RMode :=
  match mode with
  | .sr _ =>
    let t := f.roundMag .rtz neg m e
    if f.maxCode < t.code || (t.code == f.maxCode && t.inexact) then .rtz else mode
  | _ => mode

/-- Round a finite value to a format with infinities as IEEE 754 states (R94, R102, R107, R110). -/
def Fmt.round (f : Fmt) (mode : RMode) (neg : Bool) (m : Nat) (e : Int) : Flagged Nat :=
  let md := f.modeFor mode neg m e
  let r := f.roundMag md neg m e
  if f.maxCode < r.code then
    ⟨f.signed neg (if overflowToInf md neg then f.maxCode + 1 else f.maxCode), Fl.overflow + Fl.inexact⟩
  else ⟨f.signed neg r.code, cond r.inexact Fl.inexact 0 + cond (r.inexact && r.tiny) Fl.underflow 0⟩

/-- Union of flag masks. -/
def Fl.or (a b : Nat) : Nat := a ||| b

/-- FP32 decode. -/
def f32dec (w : Nat) : FVal := Fmt.fp32.decode w
/-- FP32 rounding to nearest-even (R102). -/
def f32rne (neg : Bool) (m : Nat) (e : Int) : Flagged Nat := Fmt.fp32.round .rne neg m e
/-- The canonical NaN of FP32 (R84). -/
def f32nan : Nat := 0x7FC00000
/-- An FP32 infinity. -/
def f32inf (neg : Bool) : Nat := cond neg 0xFF800000 0x7F800000
/-- An FP32 zero. -/
def f32zero (neg : Bool) : Nat := cond neg 0x80000000 0

/-- The signed integer `(-1)^neg * m`. -/
def signedInt (neg : Bool) (m : Nat) : Int := if neg then -(m : Int) else m

/-- The exact sum of two finite values, sign of an exact zero by R102. -/
def addFin (n1 : Bool) (m1 : Nat) (e1 : Int) (n2 : Bool) (m2 : Nat) (e2 : Int) : FVal :=
  let e := min e1 e2
  let s := signedInt n1 m1 * (2 ^ (e1 - e).toNat : Nat) + signedInt n2 m2 * (2 ^ (e2 - e).toNat : Nat)
  if s = 0 then .fin (n1 && n2) 0 e else .fin (decide (s < 0)) s.natAbs e

/-- True for a signalling NaN. -/
def FVal.isSnan : FVal → Bool
  | .nan b => b
  | _ => false

/-- True for any NaN. -/
def FVal.isNan : FVal → Bool
  | .nan _ => true
  | _ => false

/-- Deliver a value as FP32, rounding to nearest-even once; `fl` are flags already raised (R84, R102, R103). -/
def f32deliver (v : FVal) (fl : Nat) : Flagged Nat :=
  match v with
  | .nan _ => ⟨f32nan, fl⟩
  | .inf n => ⟨f32inf n, fl⟩
  | .fin n m e => if m = 0 then ⟨f32zero n, fl⟩ else
    let r := f32rne n m e
    ⟨r.val, fl ||| r.fl⟩

/-- The sum of two values before rounding, with the invalid flag where IEEE 754 sets it. -/
def addVal (a b : FVal) : FVal × Nat :=
  let sn := cond (a.isSnan || b.isSnan) Fl.invalid 0
  match a, b with
  | .nan _, _ => (.nan false, sn)
  | _, .nan _ => (.nan false, sn)
  | .inf x, .inf y => if x = y then (.inf x, 0) else (.nan false, Fl.invalid)
  | .inf x, _ => (.inf x, 0)
  | _, .inf y => (.inf y, 0)
  | .fin n1 m1 e1, .fin n2 m2 e2 => (addFin n1 m1 e1 n2 m2 e2, 0)

/-- The product of two values before rounding. -/
def mulVal (a b : FVal) : FVal × Nat :=
  let sn := cond (a.isSnan || b.isSnan) Fl.invalid 0
  match a, b with
  | .nan _, _ => (.nan false, sn)
  | _, .nan _ => (.nan false, sn)
  | .inf x, .inf y => (.inf (x != y), 0)
  | .inf x, .fin y m _ => if m = 0 then (.nan false, Fl.invalid) else (.inf (x != y), 0)
  | .fin x m _, .inf y => if m = 0 then (.nan false, Fl.invalid) else (.inf (x != y), 0)
  | .fin n1 m1 e1, .fin n2 m2 e2 => (.fin (n1 != n2) (m1 * m2) (e1 + e2), 0)

/-- The negation of a value. -/
def FVal.negate : FVal → FVal
  | .nan s => .nan s
  | .inf n => .inf (!n)
  | .fin n m e => .fin (!n) m e

/-- FP32 addition (R102). -/
def f32add (a b : Nat) : Flagged Nat := let r := addVal (f32dec a) (f32dec b); f32deliver r.1 r.2
/-- FP32 subtraction (R102). -/
def f32sub (a b : Nat) : Flagged Nat := let r := addVal (f32dec a) (f32dec b).negate; f32deliver r.1 r.2
/-- FP32 multiplication (R102). -/
def f32mul (a b : Nat) : Flagged Nat := let r := mulVal (f32dec a) (f32dec b); f32deliver r.1 r.2
/-- FP32 fused multiply-add with one rounding; zero times infinity is invalid even with a quiet NaN addend (R103). -/
def f32fma (a b c : Nat) : Flagged Nat :=
  let p := mulVal (f32dec a) (f32dec b)
  let r := addVal p.1 (f32dec c)
  f32deliver r.1 (p.2 ||| r.2)

/-- The order of FP32 values as integers, -0 just below +0; for operands that are not NaN (R104). -/
def f32key (w : Nat) : Int := if bit w 31 then -((w % 2 ^ 31 : Nat) : Int) - 1 else (w % 2 ^ 31 : Nat)

/-- minimum or maximum of IEEE 754-2019 (R104). -/
def f32minmax (isMax : Bool) (a b : Nat) : Flagged Nat :=
  let x := f32dec a
  let y := f32dec b
  if x.isNan || y.isNan then ⟨f32nan, cond (x.isSnan || y.isSnan) Fl.invalid 0⟩
  else ⟨if decide (f32key a < f32key b) != isMax then a else b, 0⟩

/-- The comparison conditions of vcmp.f32 (R139): unordered is false except for ne (R104). -/
def f32cmp (cond8 : Nat) (a b : Nat) : Bool × Nat :=
  let x := f32dec a
  let y := f32dec b
  let fl := cond (x.isSnan || y.isSnan) Fl.invalid 0
  if x.isNan || y.isNan then (cond8 == 1 || cond8 == 6, fl)
  else
    let zero := a % 2 ^ 31 == 0 && b % 2 ^ 31 == 0
    let eq := zero || a == b
    let lt := !zero && decide (f32key a < f32key b)
    (match cond8 with
     | 0 => eq
     | 1 => !eq
     | 2 => lt
     | 3 => lt || eq
     | 4 => !(lt || eq)
     | 5 => !lt
     | _ => false, fl)

/-- The integer square root, one bit of the root at a time from bit `n - 1` down. -/
def isqrtAux (x : Nat) : Nat → Nat → Nat
  | 0, r => r
  | n + 1, r => if (r + 2 ^ n) * (r + 2 ^ n) ≤ x then isqrtAux x n (r + 2 ^ n) else isqrtAux x n r

/-- The integer square root. -/
def isqrt (x : Nat) : Nat := isqrtAux x (Nat.log2 x / 2 + 1) 0

/-- `n` with a sticky unit appended when the computation it came from was not exact. -/
def sticky (n : Nat) (exact : Bool) : Nat := 2 * n + cond exact 0 1

/-- Reciprocal (R106). -/
def f32rcp (a : Nat) : Flagged Nat :=
  match f32dec a with
  | .nan s => ⟨f32nan, cond s Fl.invalid 0⟩
  | .inf n => ⟨f32zero n, 0⟩
  | .fin n m e =>
    if m = 0 then ⟨f32inf n, Fl.divByZero⟩
    else f32deliver (.fin n (sticky (2 ^ 80 / m) (2 ^ 80 % m == 0)) (-81 - e)) 0

/-- Square root (R106). -/
def f32sqrt (a : Nat) : Flagged Nat :=
  match f32dec a with
  | .nan s => ⟨f32nan, cond s Fl.invalid 0⟩
  | .inf n => if n then ⟨f32nan, Fl.invalid⟩ else ⟨f32inf false, 0⟩
  | .fin n m e =>
    if m = 0 then ⟨f32zero n, 0⟩
    else if n then ⟨f32nan, Fl.invalid⟩
    else
      let par : Int := e % 2
      let x := m * 2 ^ par.toNat * 2 ^ 80
      let r := isqrt x
      f32deliver (.fin false (sticky r (r * r == x)) ((e - par) / 2 - 41)) 0

/-- Reciprocal square root (R106). -/
def f32rsqrt (a : Nat) : Flagged Nat :=
  match f32dec a with
  | .nan s => ⟨f32nan, cond s Fl.invalid 0⟩
  | .inf n => if n then ⟨f32nan, Fl.invalid⟩ else ⟨f32zero false, 0⟩
  | .fin n m e =>
    if m = 0 then ⟨f32inf n, Fl.divByZero⟩
    else if n then ⟨f32nan, Fl.invalid⟩
    else
      let par : Int := e % 2
      let d := m * 2 ^ par.toNat
      let r := isqrt (2 ^ 160 / d)
      f32deliver (.fin false (sticky r (r * r * d == 2 ^ 160)) (-81 - (e - par) / 2)) 0

/-- floor(ln 2 * 2^256). -/
def ln2Fixed : Nat := 80260960185991308862233904206310070533990667611589946606122867505419956976171

/-- The Taylor sum of exp for the fixed-point argument `z / 2^256`, `k` from the last term down (Horner). -/
def expTaylor (z : Nat) : Nat → Nat → Nat
  | 0, acc => acc
  | k + 1, acc => expTaylor z k (2 ^ 256 + z * acc / 2 ^ 256 / (k + 1))

/-- 2^(f / 2^256) in fixed point with 256 fraction bits, f below 2^256. -/
def exp2Fixed (f : Nat) : Nat := expTaylor (f * ln2Fixed / 2 ^ 256) 64 (2 ^ 256)

/-- Base-2 exponential (R106). The fixed-point evaluation keeps more than 200 correct bits; the result of a
non-integer argument is irrational, so a sticky unit stands for the rest (DEDUCED, log entry 12). -/
def f32exp2 (a : Nat) : Flagged Nat :=
  match f32dec a with
  | .nan s => ⟨f32nan, cond s Fl.invalid 0⟩
  | .inf n => if n then ⟨f32zero false, 0⟩ else ⟨f32inf false, 0⟩
  | .fin n m e =>
    if m = 0 then ⟨0x3F800000, 0⟩
    else if (9 : Int) < (Nat.log2 m : Int) + e then
      f32deliver (.fin false 3 (if n then -1000 else 1000)) 0
    else
      let x : Int := signedInt n m * (2 ^ (256 + e).toNat : Nat)
      let i : Int := x / (2 ^ 256 : Nat)
      let f : Nat := (x % (2 ^ 256 : Nat)).toNat
      if f = 0 then f32deliver (.fin false 1 i) 0
      else f32deliver (.fin false (sticky (exp2Fixed f) false) (i - 257)) 0

/-- The sum z + z^3/3 + z^5/5 + ... in fixed point with 256 fraction bits: `p` is the current power, `k` the odd
divisor. -/
def atanhSum (z2 : Nat) : Nat → Nat → Nat → Nat → Nat
  | 0, _, _, acc => acc
  | n + 1, p, k, acc => atanhSum z2 n (p * z2 / 2 ^ 256) (k + 2) (acc + p / k)

/-- log2 of `m / 2^l` (between 1 and 2) in fixed point with 200 fraction bits. -/
def log2Fixed (m l : Nat) : Nat :=
  let z := (m - 2 ^ l) * 2 ^ 256 / (m + 2 ^ l)
  let s := atanhSum (z * z / 2 ^ 256) 90 z 1 0
  2 * s * 2 ^ 200 / ln2Fixed

/-- Base-2 logarithm (R106); the result is irrational unless the argument is a power of two (DEDUCED, log entry 12). -/
def f32log2 (a : Nat) : Flagged Nat :=
  match f32dec a with
  | .nan s => ⟨f32nan, cond s Fl.invalid 0⟩
  | .inf n => if n then ⟨f32nan, Fl.invalid⟩ else ⟨f32inf false, 0⟩
  | .fin n m e =>
    if m = 0 then ⟨f32inf true, Fl.divByZero⟩
    else if n then ⟨f32nan, Fl.invalid⟩
    else
      let l := Nat.log2 m
      let i : Int := l + e
      if m = 2 ^ l then (if i = 0 then ⟨0, 0⟩ else f32deliver (.fin (decide (i < 0)) i.natAbs 0) 0)
      else
        let v : Int := i * (2 ^ 200 : Nat) + log2Fixed m l
        f32deliver (.fin (decide (v < 0)) (sticky v.natAbs false) (-201)) 0

end Sys2Proof.Machine
end

