-- ==== Sys2Proof/Machine/Convert.lean ====
section
/-! DEFINITION. The narrow formats of R133, their conversions (R107-R114) and the leaves of the matrix engine
(R91-R98). -/

namespace Sys2Proof.Machine

/-- The elements of a narrow format (R133): a floating-point element, a two's complement integer of `w` bits with
quantum `2^q`. -/
inductive Elem where
  | flt (f : Fmt)
  | int (w : Nat) (q : Int)
deriving DecidableEq, Repr

/-- How a format scales its blocks of 32 (R82): not at all, one E8M0 exponent, or a Q4T scale word. -/
inductive Scaling where
  | none | mx | q4t
deriving DecidableEq, Repr

/-- A format code of R133. -/
structure NFmt where
  elem : Elem
  scaling : Scaling
  /-- `emax` of R112 and R113. -/
  emax : Nat
  /-- Cycles per rank-1 update: the rate class of R91 (1, 2 or 4). -/
  rate : Nat
deriving DecidableEq, Repr

/-- R133: the format of a code; none for 0xD-0xF. -/
def NFmt.ofCode (c : Nat) : Option NFmt :=
  match c with
  | 0 => some ⟨.flt .bf16, .none, 0, 4⟩
  | 1 => some ⟨.flt .fp16, .none, 0, 4⟩
  | 2 => some ⟨.flt .e4m3, .none, 8, 2⟩
  | 3 => some ⟨.flt .e5m2, .none, 15, 2⟩
  | 4 => some ⟨.flt .e4m3, .mx, 8, 2⟩
  | 5 => some ⟨.flt .e5m2, .mx, 15, 2⟩
  | 6 => some ⟨.flt .e3m2, .mx, 4, 2⟩
  | 7 => some ⟨.flt .e2m3, .mx, 2, 2⟩
  | 8 => some ⟨.flt .e2m1, .mx, 2, 1⟩
  | 9 => some ⟨.int 8 (-6), .mx, 0, 2⟩
  | 10 => some ⟨.int 8 0, .none, 0, 2⟩
  | 11 => some ⟨.int 4 0, .none, 0, 1⟩
  | 12 => some ⟨.flt .e2m1, .q4t, 2, 1⟩
  | _ => Option.none

/-- Width of one element in bits. -/
def NFmt.width (f : NFmt) : Nat :=
  match f.elem with
  | .flt g => g.width
  | .int w _ => w

/-- Bytes of scales per panel of 128 rows (R133). -/
def NFmt.scaleBytes (f : NFmt) : Nat :=
  match f.scaling with
  | .none => 0
  | .mx => 128
  | .q4t => 256

/-- True for the FP8 and MXFP8 formats, which take nosat (R141). -/
def NFmt.isFp8 (f : NFmt) : Bool := f.elem == .flt .e4m3 || f.elem == .flt .e5m2

/-- True where the format is BF16 or FP16. -/
def NFmt.is16 (f : NFmt) : Bool := f.rate == 4

/-- Round to a format without infinities on overflow: saturate at the largest finite value, or deliver what IEEE 754
delivers with the NaN encoding where it delivers an infinity (R109, R112 step 4). -/
def roundNarrow (f : Fmt) (mode : RMode) (nosat : Bool) (neg : Bool) (m : Nat) (e : Int) : Flagged Nat :=
  let md := f.modeFor mode neg m e
  let r := f.roundMag md neg m e
  if f.maxCode < r.code then
    if nosat then
      if overflowToInf md neg then
        (if f.hasInf then ⟨f.signed neg (f.maxCode + 1), Fl.overflow + Fl.inexact⟩ else ⟨f.nan, Fl.overflow + Fl.inexact⟩)
      else ⟨f.signed neg f.maxCode, Fl.overflow + Fl.inexact⟩
    else ⟨f.signed neg f.maxCode, Fl.saturated + Fl.inexact⟩
  else ⟨f.signed neg r.code, cond r.inexact Fl.inexact 0 + cond (r.inexact && r.tiny) Fl.underflow 0⟩

/-- Conversion of one value to a floating-point element of 8 bits or less (R109, R112 step 4, R113 step 5). -/
def convFp8 (f : Fmt) (mode : RMode) (nosat : Bool) (v : FVal) : Flagged Nat :=
  match v with
  | .nan s => ⟨f.nan, cond s Fl.invalid 0⟩
  | .inf n =>
    if nosat then (if f.hasInf then ⟨f.signed n (f.maxCode + 1), 0⟩ else ⟨f.nan, Fl.invalid⟩)
    else ⟨f.signed n f.maxCode, Fl.saturated⟩
  | .fin n m e => roundNarrow f mode nosat n m e

/-- Conversion of one value to BF16 or FP16 (R110). -/
def convHalf (f : Fmt) (mode : RMode) (v : FVal) : Flagged Nat :=
  match v with
  | .nan s => ⟨f.nan, cond s Fl.invalid 0⟩
  | .inf n => ⟨f.signed n (f.maxCode + 1), 0⟩
  | .fin n m e => if m = 0 then ⟨f.signed n 0, 0⟩ else f.round mode n m e

/-- Conversion of one value to a two's complement integer of `w` bits and quantum `2^q` (R111). -/
def convInt (w : Nat) (q : Int) (mode : RMode) (v : FVal) : Flagged Nat :=
  let lo : Int := -(2 ^ (w - 1) : Nat)
  let hi : Int := (2 ^ (w - 1) : Nat) - 1
  match v with
  | .nan _ => ⟨0, Fl.invalid⟩
  | .inf n => ⟨uint w (if n then lo else hi), Fl.saturated⟩
  | .fin n m e =>
    let t := scaleRound .rtz n m e q
    let beyond := decide (signedInt n t.1 < lo) || decide (hi < signedInt n t.1)
      || (t.2 && (decide (signedInt n t.1 = lo) && n || decide (signedInt n t.1 = hi) && !n))
    let md := match mode with
      | .sr _ => if beyond then RMode.rtz else mode
      | _ => mode
    let r := scaleRound md n m e q
    let x := signedInt n r.1
    let fl := cond r.2 Fl.inexact 0
    if x < lo then ⟨uint w lo, fl + Fl.saturated⟩
    else if hi < x then ⟨uint w hi, fl + Fl.saturated⟩
    else ⟨uint w x, fl⟩

/-- Conversion of one value to an element of a format. -/
def convElem (f : NFmt) (mode : RMode) (nosat : Bool) (v : FVal) : Flagged Nat :=
  match f.elem with
  | .int w q => convInt w q mode v
  | .flt g => if f.is16 then convHalf g mode v else convFp8 g mode nosat v

/-- floor(log2 |v|) of a finite non-zero value. -/
def FVal.log2 : FVal → Option Int
  | .fin _ m e => if m = 0 then Option.none else some ((Nat.log2 m : Int) + e)
  | _ => Option.none

/-- The largest of some optional integers. -/
def maxLog : List (Option Int) → Option Int
  | [] => Option.none
  | Option.none :: t => maxLog t
  | some a :: t => match maxLog t with
    | Option.none => some a
    | some b => some (max a b)

/-- A finite value divided by `2^k`. -/
def FVal.shiftDown (v : FVal) (k : Int) : FVal :=
  match v with
  | .fin n m e => .fin n m (e - k)
  | w => w

/-- Convert a list of values with a list of modes (one random value per lane in mode sr). -/
def convAll (f : NFmt) (nosat : Bool) : List (FVal × RMode) → Flagged (List Nat)
  | [] => ⟨[], 0⟩
  | p :: t =>
    let r := convElem f p.2 nosat p.1
    let rest := convAll f nosat t
    ⟨r.val :: rest.val, r.fl ||| rest.fl⟩

/-- The micro-shift of a sub-block of 8 (R113 step 4). -/
def microShift (top : Int) (sub : List FVal) : Nat :=
  match maxLog (sub.map FVal.log2) with
  | Option.none => 3
  | some a => if top - a < 0 then 0 else if 3 < top - a then 3 else (top - a).toNat

/-- True for a finite value. -/
def FVal.isFin : FVal → Bool
  | .fin .. => true
  | _ => false

/-- Conversion of 32 values to one scaled block (R112, R113): the scale (an E8M0 byte or a Q4T scale word) and the 32
element codes. -/
def convBlock (f : NFmt) (nosat : Bool) (xs : List (FVal × RMode)) : Flagged (Nat × List Nat) :=
  let vs := xs.map (·.1)
  if vs.any (fun v => !v.isFin) then
    ⟨(0xFF, List.replicate 32 0), Fl.nanScale ||| cond (vs.any FVal.isSnan) Fl.invalid 0⟩
  else
    match maxLog (vs.map FVal.log2) with
    | Option.none => ⟨(if f.scaling == .q4t then 0xFF00 else 0, List.replicate 32 0), 0⟩
    | some top =>
      let v0 : Int := top - f.emax + 127
      let sc : Nat := if v0 < 0 then 0 else if 254 < v0 then 254 else v0.toNat
      let sfl := if v0 < 0 then Fl.underflow else if 254 < v0 then Fl.overflow else 0
      let sh : Nat → Nat := fun s => if f.scaling == .q4t then microShift top ((vs.drop (8 * s)).take 8) else 0
      let scaled := xs.zipIdx.map (fun p => (p.1.1.shiftDown ((sc : Int) - 127 - sh (p.2 / 8)), p.1.2))
      let r := convAll f nosat scaled
      let word := if f.scaling == .q4t then sc + sh 0 * 256 + sh 1 * 1024 + sh 2 * 4096 + sh 3 * 16384 else sc
      ⟨(word, r.val), sfl ||| r.fl⟩

/-- Pack elements of `w` bits without gaps, element 0 lowest (R85). -/
def pack (w : Nat) : List Nat → Nat
  | [] => 0
  | x :: t => x % 2 ^ w + 2 ^ w * pack w t

/-- The `n` elements of `w` bits of a packed array (R85). -/
def unpack (w : Nat) (v : Nat) : Nat → List Nat
  | 0 => []
  | n + 1 => v % 2 ^ w :: unpack w (v / 2 ^ w) n

/-- Cut a list into pieces of `n`, at most `k` of them. -/
def chunksOf {α : Type} (n : Nat) : Nat → List α → List (List α)
  | 0, _ => []
  | k + 1, l => if l.isEmpty then [] else l.take n :: chunksOf n k (l.drop n)

/-- Narrow 128 values by R141: the packed elements and the scale register (0 for a format without scales). -/
def narrow128 (f : NFmt) (nosat : Bool) (xs : List (FVal × RMode)) : Flagged (Nat × Nat) :=
  match f.scaling with
  | .none => let r := convAll f nosat xs; ⟨(pack f.width r.val, 0), r.fl⟩
  | s =>
    let bs := (chunksOf 32 4 xs).map (convBlock f nosat)
    let step := if s == .q4t then 16 else 8
    ⟨(pack f.width (bs.flatMap (·.val.2)), pack step (bs.map (·.val.1))), bs.foldl (fun a b => a ||| b.fl) 0⟩

/-- The exact value of an element code, before any block scale (R83, R90, R92). -/
def elemVal (f : NFmt) (code : Nat) : FVal :=
  match f.elem with
  | .flt g => g.decode code
  | .int w q => .fin (decide (sint w code < 0)) (sint w code).natAbs q

/-- The exponent of the block scale of lane `i` within its block: none for a NaN scale (R86, R88, R89). -/
def scaleExp (f : NFmt) (scale : Nat) (i : Nat) : Option Int :=
  match f.scaling with
  | .none => some 0
  | .mx => if scale % 256 = 255 then Option.none else some ((scale % 256 : Nat) - 127)
  | .q4t => if scale % 256 = 255 then Option.none else some (((scale % 256 : Nat) : Int) - 127 - bits scale (8 + 2 * (i / 8)) 2)

/-- Widen one element to FP32 (R114). -/
def widenElem (f : NFmt) (scale i code : Nat) : Flagged Nat :=
  match scaleExp f scale i with
  | Option.none => ⟨f32nan, 0⟩
  | some k => f32deliver (match elemVal f code with
      | .fin n m e => .fin n m (e + k)
      | v => v) (cond (elemVal f code).isSnan Fl.invalid 0)

/-- The pairings of formats of R91, by rate class and format. -/
def pairingRate (a b : NFmt) : Option Nat :=
  if a.is16 || b.is16 then (if a = b then some 4 else Option.none)
  else if a.rate = 1 ∧ b.rate = 1 then some 1 else some 2

/-- One operand row of a block: its format, its 32 element codes and its scale. -/
structure Row where
  fmt : NFmt
  codes : List Nat
  scale : Nat
deriving DecidableEq, Repr

/-- The quantum exponent of R92 (for Q4T the micro-shift is folded into the integer). -/
def NFmt.quantum (f : NFmt) : Int :=
  match f.elem with
  | .flt g => if f.scaling == .q4t then g.qmin - 3 else g.qmin
  | .int _ q => q

/-- The integer `n` of R92 of element `i` of a row, or a non-finite value. -/
def Row.int (r : Row) (i code : Nat) : Option Int :=
  match elemVal r.fmt code with
  | .fin n m e =>
    let base := signedInt n m * (2 ^ (e - (match r.fmt.elem with
      | .flt g => g.qmin
      | .int _ q => q)).toNat : Nat)
    some (if r.fmt.scaling == .q4t then base * (2 ^ (3 - bits r.scale (8 + 2 * (i / 8)) 2) : Nat) else base)
  | _ => Option.none

/-- The block exponent of a row for R94: the exponent minus 127, 0 for a format without scales. -/
def Row.blockExp (r : Row) : Int :=
  match r.fmt.scaling with
  | .none => 0
  | _ => ((r.scale % 256 : Nat) : Int) - 127

/-- True for a row whose block scale is NaN (R86). -/
def Row.nanScale (r : Row) : Bool :=
  match r.fmt.scaling with
  | .none => false
  | _ => r.scale % 256 == 255

/-- The product of two element values of a block of formats of 8 bits or less, for the non-finite rules of R95. -/
inductive Prod where
  | nan | bad | inf (neg : Bool) | fin (n : Int)
deriving DecidableEq, Repr

/-- One product of R95 and R93. -/
def prodOf (a b : Row) (i : Nat) (ca cb : Nat) : Prod :=
  let x := elemVal a.fmt ca
  let y := elemVal b.fmt cb
  if x.isNan || y.isNan then .nan
  else match mulVal x y with
    | (.nan _, _) => .bad
    | (.inf n, _) => .inf n
    | (.fin .., _) => match a.int i ca, b.int i cb with
      | some p, some q => .fin (p * q)
      | _, _ => .bad

/-- The sum of the finite products. -/
def sumProds : List Prod → Int
  | [] => 0
  | .fin n :: t => n + sumProds t
  | _ :: t => sumProds t

/-- The leaf of a block of formats of 8 bits or less (R93-R95). -/
def leaf8 (a b : Row) : Flagged Nat :=
  let ps := ((a.codes.zip b.codes).zipIdx).map (fun p => prodOf a b p.2 p.1.1 p.1.2)
  let ns := cond (a.nanScale || b.nanScale) Fl.nanScale 0
  if a.nanScale || b.nanScale || ps.contains .nan then ⟨f32nan, ns⟩
  else if ps.contains .bad || (ps.contains (.inf true) && ps.contains (.inf false)) then ⟨f32nan, Fl.invalid⟩
  else if ps.contains (.inf true) then ⟨f32inf true, 0⟩
  else if ps.contains (.inf false) then ⟨f32inf false, 0⟩
  else
    let s := sumProds ps
    f32deliver (.fin (decide (s < 0)) s.natAbs (a.fmt.quantum + b.fmt.quantum + a.blockExp + b.blockExp)) 0

/-- The largest power of two strictly less than `f`, for `f` at least 2 (R98). -/
def pow2Below (f : Nat) : Nat := 2 ^ Nat.log2 (f - 1)

/-- pairwise of R98 by recursion on fuel (the depth of the tree). -/
def pairwiseFuel : Nat → List Nat → Flagged Nat
  | 0, l => ⟨l.headD 0, 0⟩
  | n + 1, l =>
    if l.length ≤ 1 then ⟨l.headD 0, 0⟩
    else
      let h := pow2Below l.length
      let x := pairwiseFuel n (l.take h)
      let y := pairwiseFuel n (l.drop h)
      let r := f32add x.val y.val
      ⟨r.val, x.fl ||| y.fl ||| r.fl⟩

/-- pairwise of R98 over at most 2^16 values. -/
def pairwise (l : List Nat) : Flagged Nat := pairwiseFuel 16 l

/-- The leaf of a 16-bit block: products rounded to FP32, summed pairwise (R96). -/
def leaf16 (a b : Row) : Flagged Nat :=
  let ps := (a.codes.zip b.codes).map (fun p =>
    let m := mulVal (elemVal a.fmt p.1) (elemVal b.fmt p.2); f32deliver m.1 m.2)
  let r := pairwise (ps.map (·.val))
  ⟨r.val, ps.foldl (fun acc p => acc ||| p.fl) r.fl⟩

/-- The leaf of a block (R94-R96). -/
def leaf (a b : Row) : Flagged Nat := if a.fmt.is16 then leaf16 a b else leaf8 a b

/-- The 16 random bits of mode sr (R108). -/
def srRandom (seed stroke elem : Nat) : Nat :=
  let m := 2 ^ 64
  let x0 := Nat.xor (Nat.xor (seed % m) (stroke * 0x9E3779B97F4A7C15 % m)) (elem * 0xC2B2AE3D27D4EB4F % m)
  let x1 := Nat.xor x0 (x0 / 2 ^ 33)
  let x2 := x1 * 0xFF51AFD7ED558CCD % m
  let x3 := Nat.xor x2 (x2 / 2 ^ 33)
  let x4 := x3 * 0xC4CEB9FE1A85EC53 % m
  let x5 := Nat.xor x4 (x4 / 2 ^ 33)
  x5 % 65536

end Sys2Proof.Machine
end

