-- ==== Sys2Proof/Config.lean ====
section
/-! DEFINITION. What an implementation fixes and the values the spec leaves open. Each constant is opaque: nothing
can be proved of its value, so a statement that mentions one holds whatever the value is. -/

namespace Sys2Proof.Config

/-- The value of a free choice: the counter of State says which choice it is (log entry 3). -/
opaque freeValue : Nat → Nat

/-- The fixed hash by which an edge segment assigns the flits of a source and destination pair to a UCIe module (R57),
which the spec does not state (log entry 10). -/
opaque ucieHash : Nat → Nat → Nat

/-- The rack a module index stands in (R324), which the spec does not state (log entry 28). -/
opaque rackOf : Nat → Nat

/-- The capacitance at 25 °C of a cell in mF, measured at manufacture (R419; log entry 7). -/
opaque cellCapacitance : Nat → Nat

/-- The resistance of a cell in µΩ, measured at manufacture (R466; log entry 7). -/
opaque cellResistance : Nat → Nat

/-- The entries of a die's voltage-frequency table, measured at manufacture (R661; log entry 7): for die * 16 + entry, the
register word. -/
opaque vfEntry : Nat → Nat

/-- The SHA-384 hashes of the four firmware keys, fused at manufacture (R572; log entry 7). -/
opaque fwKeyHash : Nat → List Byte

/-- The signature of the device identity key, made at manufacture inside the module, over a message (R577; log entry 41): the bytes of
r then s. The second argument tells one signature from another. -/
opaque deviceSignature : List Byte → Nat → List Byte

/-- The certificate chain of slot 0 (R577; log entry 41). -/
opaque certificateChain : List Byte

/-- The SHA-384 of the boot ROM (R578; log entry 7). -/
opaque bootRomHash : List Byte

/-- The UUID of the MCTP endpoint (R620; log entry 41). -/
opaque endpointUuid : List Byte

/-- Words of rack answers that the spec leaves to the standards it names (R577, R620, R622, R623; log entry 41): which answer, which
word. -/
opaque rackWord : Nat → Nat → Nat

end Sys2Proof.Config
end

