-- ==== Sys2Proof/Machine/SMap.lean ====
section
/-! DEFINITION. Sparse maps: a list of (key, value) pairs in one canonical form, keys strictly rising and no
entry equal to the default of its key, so that equal maps are equal data. -/

namespace Sys2Proof.Machine

/-- A sparse map from keys to values. -/
abbrev SMap (α : Type) := List (Nat × α)

/-- The value at key `k`; `d` where nothing is listed. -/
def SMap.get {α : Type} (m : SMap α) (d : α) (k : Nat) : α :=
  match m with
  | [] => d
  | e :: t => if e.1 = k then e.2 else SMap.get t d k

/-- Insert before the first greater key. -/
def SMap.insert {α : Type} (m : SMap α) (k : Nat) (v : α) : SMap α :=
  match m with
  | [] => [(k, v)]
  | e :: t => if k < e.1 then (k, v) :: e :: t else e :: SMap.insert t k v

/-- The map without key `k`. -/
def SMap.erase {α : Type} (m : SMap α) (k : Nat) : SMap α := m.filter (fun e => e.1 != k)

/-- The map with key `k` at `v`; a value equal to the default `d` of the key is not listed. -/
def SMap.put {α : Type} [DecidableEq α] (m : SMap α) (d : α) (k : Nat) (v : α) : SMap α :=
  if v = d then SMap.erase m k else SMap.insert (SMap.erase m k) k v

/-- Change the value at key `k`. -/
def SMap.upd {α : Type} [DecidableEq α] (m : SMap α) (d : α) (k : Nat) (f : α → α) : SMap α :=
  SMap.put m d k (f (SMap.get m d k))

/-- The keys strictly rise from above `lo` and no value is the default of its key. -/
def SMap.wfFrom {α : Type} [DecidableEq α] (d : Nat → α) (lo : Nat) (m : SMap α) : Bool :=
  match m with
  | [] => true
  | e :: t => decide (lo ≤ e.1) && decide (e.2 ≠ d e.1) && SMap.wfFrom d (e.1 + 1) t

/-- Canonical form. -/
def SMap.wf {α : Type} [DecidableEq α] (d : Nat → α) (m : SMap α) : Bool := SMap.wfFrom d 0 m

end Sys2Proof.Machine
end

