-- ==== Sys2Proof/Machine/CellTypes.lean ====
section
/-! DEFINITION. The state of the cell monitors and of the ring master beside its registers (chapter 12), as plain data. -/

namespace Sys2Proof.Machine

/-- A cell monitor (R453-R462, R470-R472): its strap pins and the strap it sampled, whether it is awake, the alive counters it
last received on the stream to all and on its own, and its own counter; the sweep of the CONVERT it last used and how that came,
whether its values are converted and its window runs, its readings, its closed bleed switches, a BALANCE it holds. -/
structure Monitor where
  pins : Nat
  strap : Nat
  awake : Bool
  rxAll : Option Nat
  rxOwn : Option Nat
  tx : Nat
  used : Option Nat
  viaReverse : Bool
  converted : Bool
  inWindow : Bool
  sample : CellSample
  alert : Bool
  switches : Nat
  heldMask : Option Nat
deriving DecidableEq, Repr

/-- No reading. -/
def CellSample.blank : CellSample := { v := List.replicate 8 0, t0 := 0, t1 := 0, dieC := 0, closed := 0, ok := true }

/-- Monitor k, asleep, its strap as R453 gives it. -/
def Monitor.reset (k : Nat) : Monitor :=
  { pins := k, strap := k, awake := false, rxAll := none, rxOwn := none, tx := 0, used := none, viaReverse := false, converted := false
    inWindow := false, sample := CellSample.blank, alert := false, switches := 0, heldMask := none }

/-- The ring master beside its registers (R461-R484): whether a sweep runs and its byte, the DATA payloads received, the READ in
progress (monitor and whether from R), failures in a row, whether the second CONVERT went out, alive counters, counts of trip
conditions, whether trips are evaluated, sweeps since the last ENUM probe, a requested ENUM, the last valid extremes. -/
structure RingMaster where
  sweeping : Bool
  byte : Nat
  data : SMap (List Nat)
  reading : Option (Nat × Bool)
  fails : Nat
  second : Bool
  txAll : Nat
  txOwn : SMap Nat
  rx : SMap (Option Nat)
  counts : SMap Nat
  evaluating : Bool
  sinceProbe : Nat
  enumAsked : Bool
  enumRepeat : Bool
  maxUpper : Nat
  minLower : Nat
deriving DecidableEq, Repr

/-- The four monitors and the master. -/
structure CellSide where
  monitors : SMap Monitor
  ring : RingMaster
deriving DecidableEq, Repr

/-- Nothing enumerated, no sweep. -/
def RingMaster.reset : RingMaster :=
  { sweeping := false, byte := 0, data := [], reading := none, fails := 0, second := false, txAll := 0, txOwn := [], rx := [], counts := []
    evaluating := false, sinceProbe := 0, enumAsked := false, enumRepeat := false, maxUpper := 0, minLower := 0 }

/-- Four sleeping monitors. -/
def CellSide.reset : CellSide := { monitors := [], ring := RingMaster.reset }

end Sys2Proof.Machine
end

