-- ==== Sys2Proof/Machine/CoxTypes.lean ====
section
/-! DEFINITION. The state of the Cox engines beside their registers (chapter 10) and of the power path (chapter 9), as plain
data. Values are BF words (R370) unless a name says otherwise. -/

namespace Sys2Proof.Machine

/-- A loop beside its registers (R372-R375, R384, R396-R402): the previous feedback, the derivative term, the residue, the
model, the last 16 outputs, the periods without a fresh primary sample, whether it holds its output, the applied value from
which its integrator is preset, the feedforward move, the bands, the periods in which the clamp returns after soft-start, the
latest clamped output, a self-check mismatch in the last period, the member states of a balance loop, the slot from which the loop
takes its actuator at its next period, whether its preset comes from another loop (R397), and the periods it has held its output. -/
structure CoxLoop where
  fbPrev : Nat
  d : Nat
  residue : Nat
  yModel : Nat
  hist : List Nat
  stale : Nat
  held : Option Nat
  preset : Option Nat
  ffNow : Nat
  ffFrom : Nat
  ffTo : Nat
  ffLeft : Nat
  ffLen : Nat
  inBand : Nat
  loadBand : Nat
  release : Nat
  latest : Nat
  mismatch : Bool
  good : Nat
  integs : List Nat
  ds : List Nat
  fbs : List Nat
  trims : List Nat
  residues : List Nat
  taking : Option Nat
  handover : Bool
  heldFor : Nat
deriving DecidableEq, Repr

/-- A loop at rest. -/
def CoxLoop.reset : CoxLoop :=
  { fbPrev := 0, d := 0, residue := 0, yModel := 0, hist := [], stale := 0, held := none, preset := none, ffNow := 0, ffFrom := 0
    ffTo := 0, ffLeft := 0, ffLen := 0, inBand := 0, loadBand := 0, release := 0, latest := 0, mismatch := false, good := 0
    integs := [], ds := [], fbs := [], trims := [], residues := [], taking := none, handover := false, heldFor := 0 }

/-- The limits of a generator in force (R378). -/
structure CoxPg where
  v : Nat
  a : Nat
  j : Nat
deriving DecidableEq, Repr

/-- A generator that stands still. -/
def CoxPg.reset : CoxPg := { v := 0, a := 0, j := 0 }

/-- An engine beside its registers: the last catch warning, the rising edge of feather, the last step, the phase being shed,
the phases removed of each rail (slot * 16 + phase), whether a frozen or implausible thermal feedback limits it. -/
structure CoxEngine where
  warnAt : Option Nat
  featherAt : Option Nat
  stepAt : Option Nat
  shedPhase : Option Nat
  removed : List Nat
  thermalFrozen : Bool
  segCode : Nat
deriving DecidableEq, Repr

/-- An engine after reset. -/
def CoxEngine.reset : CoxEngine :=
  { warnAt := none, featherAt := none, stepAt := none, shedPhase := none, removed := [], thermalFrozen := false, segCode := 80 }

/-- A block of block_off (R359). -/
inductive PowerBlock where
  | ratio (die : Nat)
  | die (d : Nat)
  | stack (k : Nat)
  | link (n : Nat)
  | cage (n : Nat)
deriving DecidableEq, Repr

/-- The power path beside its registers (R334-R366): contacts, switch (0 open, 1 limiting, 2 closed), cells, housekeeping,
latches, the settings of the trip thresholds that differ from their defaults, counts; whether a die or stack was lost during
start-up, whether the pack check failed twice (R352), the dies lost by their stations or edges (R651, R653), since when start-up runs (R652), who placed the cap in force (R539), whether start-up follows a module reset
(R591), and a bit for each trip code of R360 that is latched (R362, R528). -/
structure PowerPath where
  presence : Bool
  inputAbsent : Bool
  abnormal : Bool
  switch : Nat
  cellsRun : Bool
  cellsHalted : Bool
  removedCells : List Nat
  housekeeping : Bool
  ocTimes : List Nat
  ocLatched : Bool
  selfCap : Bool
  busLow : Bool
  moduleStop : Bool
  packOff : Bool
  blocks : List PowerBlock
  checkFailed : Bool
  diesLost : List Nat
  lowInsulation : Nat
  checkTried : Bool
  recovery : Bool
  pulled : Bool
  heldReset : Bool
  thresholds : SMap Nat
  startLoss : Bool
  elapsedFrom : Nat
  capBy : Nat
  afterReset : Bool
  tripped : Nat
deriving DecidableEq, Repr

/-- The power path of a module that stands in no slot. -/
def PowerPath.reset : PowerPath :=
  { presence := false, inputAbsent := false, abnormal := false, switch := 0, cellsRun := false, cellsHalted := false, removedCells := []
    housekeeping := false, ocTimes := [], ocLatched := false, selfCap := false, busLow := false, moduleStop := false, packOff := false
    blocks := [], checkFailed := false, diesLost := [], lowInsulation := 0, checkTried := false, recovery := false, pulled := false, heldReset := false
    thresholds := [], startLoss := false, elapsedFrom := 0, capBy := 0, afterReset := false, tripped := 0 }

/-- The engines: loops at engine * 16 + slot, generators at engine * 8 + k. -/
structure CoxSide where
  loops : SMap CoxLoop
  pgs : SMap CoxPg
  engines : SMap CoxEngine
  path : PowerPath
deriving DecidableEq, Repr

/-- Every loop and generator at rest. -/
def CoxSide.reset : CoxSide := { loops := [], pgs := [], engines := [], path := PowerPath.reset }

end Sys2Proof.Machine
end

