-- ==== Sys2Proof/Machine/FlockTypes.lean ====
section
/-! DEFINITION. The loaded plan (R245, R213, R249, R250, R429) and the state of flocks, telegrams and strokes
(chapter 6), as plain data. -/

namespace Sys2Proof.Machine

/-- An entry of the stroke table (R245). -/
structure StrokeKind where
  leadUs : Nat
  nominalUs : Nat
  driveUs : Nat
  headroomOff : Nat
  startOff : Nat
  profile : Nat
deriving DecidableEq, Repr

/-- An entry of the flock table (R213) with its member list. -/
structure FlockEntry where
  id : Nat
  kind : Nat
  log2w : Nat
  parent : Nat
  moduleIx : Nat
  die : Nat
  members : List Nat
deriving DecidableEq, Repr

/-- The stream of a station (section 0x0004): die, logical station and its bundles. -/
structure Stream where
  die : Nat
  lst : Nat
  bundles : List Nat
deriving DecidableEq, Repr

/-- The parameters of a station (section 0x0005). -/
structure StnParam where
  die : Nat
  lst : Nat
  trapMask : Nat
  entry : Nat
  seed : Nat
deriving DecidableEq, Repr

/-- A resident region (section 0x0006). -/
structure Region where
  die : Nat
  lst : Nat
  off : Nat
  length : Nat
  addr : Nat
deriving DecidableEq, Repr

/-- An operating point of an energy profile (R429). -/
structure OpPoint where
  code : Nat
  coreMv : Nat
  pDrive : Nat
  pWait : Nat
  coreA : Nat
deriving DecidableEq, Repr

/-- An energy profile (R429). -/
structure EnergyProfile where
  eFeather : Nat
  coreAFeather : Nat
  points : List OpPoint
deriving DecidableEq, Repr

/-- A variant for a die with one logical station absent (section 0x0009, R312). -/
structure Variant where
  die : Nat
  absent : Nat
  streams : List Stream
  params : List StnParam
  regions : List Region
deriving DecidableEq, Repr

/-- A loaded plan. -/
structure Plan where
  planId : Nat
  level : Nat
  moduleIx : Nat
  kinds : List StrokeKind
  flocks : List FlockEntry
  /-- The shapes of the reduction-shape table (R99): per shape its block count and its levels, kind * 4096 + factor. -/
  shapes : List (Nat × List Nat)
  streams : List Stream
  params : List StnParam
  regions : List Region
  staging : List (Nat × Nat)
  energy : List EnergyProfile
  variants : List Variant
  /-- Where the image stands in stack memory (R249), and its check value (R578). -/
  addr : Nat
  length : Nat
  crc : Nat
deriving DecidableEq, Repr

/-- A message or report that leaves the part it arose in; every message the module sends is kept in State.sent, the
latest first (log entry 5). -/
inductive Sent where
  | telStart (nbr : Nat) (h : TelHead) (b : StartBody)
  | telHeadroom (nbr : Nat) (h : TelHead) (b : HeadroomBody)
  | telArrive (nbr : Nat) (h : TelHead) (gen count : Nat)
  | telRelease (nbr : Nat) (h : TelHead) (gen : Nat)
  | telTally (nbr : Nat) (h : TelHead) (b : TallyBody)
  | telLoss (nbr : Nat) (h : TelHead) (b : LossBody)
  | telEcho (nbr : Nat) (h : TelHead) (b : EchoBody)
  | flit (dest : Nat) (words : List Nat)
  | korrel (port : Nat) (k : KFlit) (ack0 ack1 : Nat) (credits : List Nat)
  | msix (vector : Nat)
  | shepherdFrame (dest cls : Nat) (words : List Nat)
  | response (what : String) (words : List Nat)
  | ring (port : Nat) (frame : String) (words : List Nat)
  | ucieRetry (die edge lane first : Nat)
  /-- A flit put on a UCIe module, byte by byte (R56). -/
  | ucieFlit (die edge lane : Nat) (bytes : List Byte)
  | pin (name : String) (level : Nat)
  /-- A bulk copy over VC6 (R314, R318, R325): destination module, source address here, address there, length. -/
  | copy (dest src dst len : Nat)
deriving DecidableEq, Repr

/-- The pending catch warning of a stroke (R244): its START, the scheduled instant in ns of the time base. -/
structure Warning where
  body : StartBody
  stroke : Nat
  scheduled : Nat
deriving DecidableEq, Repr

/-- What a child reported of the HEADROOM combination (R235, R236): the values last received and whether they are of the
stroke in combination. -/
structure ChildReport where
  body : HeadroomBody
  fresh : Bool
deriving DecidableEq, Repr

/-- The state of the module's part in its stroke flock that the stroke block's registers do not hold. -/
structure Flock where
  plan : Option Plan
  flockId : Nat
  members : List Nat
  spares : List Nat
  role : Nat
  telLevel : Nat
  korLevel : Nat
  planLevel : Nat
  runOpen : Bool
  armed : Bool
  startSeen : Option Warning
  inFlight : Option StartBody
  strokeInFlight : Nat
  commitDone : Bool
  lastStart : Option (Nat × StartBody)
  prevStart : Option (Nat × StartBody)
  inboundNext : List Nat
  runKind : Nat
  runLeft : Option Nat
  stopAsked : Bool
  children : SMap (Option ChildReport)
  sentUp : List Nat
  ownReport : Option HeadroomBody
  startDelay : Nat
  rxAlive : SMap (Option Nat)
  txAlive : SMap Nat
  arrives : SMap Nat
  echoSeq : Nat
  strokesSinceEcho : Nat
  warnRaised : Bool
  drive : Bool
  feather : Bool
  catchAt : Nat
  listCrc : Nat
  /-- Modules that have returned and whose rank stays vacant until the next arm START (R330). -/
  vacant : List Nat
  /-- ARRIVE telegrams of the next stroke, held until this module's catch (R224): flock, child, generation, count. -/
  heldArrives : List (Nat × Nat × Nat × Nat)
  /-- The last good stroke g (R304). -/
  good : Nat
  /-- The stroke that the next commit completes; none for an empty commit (R304, R308). -/
  commitFor : Option Nat
  /-- A preparation that waits for a commit already sealed (R308 step 1, R310). -/
  prepAfter : Bool
  /-- A replay START has arrived whose catch has not occurred (R305). -/
  inReplay : Bool
  /-- The seat holds the START of this stroke until these members have acknowledged STANDIN (R325). -/
  seatWait : Option (Nat × List Nat)
  nextStroke : Nat
  /-- The stroke timer has expired while the seat holds the START (R325). -/
  timerDue : Bool
  /-- The kind of the run, kept while the flock runs in pair kinds (R322, R325). -/
  origKind : Nat
  /-- This module is a hot spare that is being filled: its commits are held (R325). -/
  filling : Bool
  /-- The module has isolated itself and takes part in no stroke until FLOCK_JOIN succeeds (R289). -/
  barred : Bool
  /-- The lateness of the last catch in µs, as the next HEADROOM carries it (R235, R247). -/
  lateUs : Nat
deriving DecidableEq, Repr

/-- A module that has joined no flock. -/
def Flock.reset : Flock :=
  { plan := none, flockId := 0, members := [], spares := [], role := 0, telLevel := 1, korLevel := 1, planLevel := 1
    runOpen := false, armed := false, startSeen := none, inFlight := none, strokeInFlight := 0, commitDone := true
    lastStart := none, prevStart := none, inboundNext := [], runKind := 0, runLeft := none, stopAsked := false
    children := [], sentUp := [], ownReport := none, startDelay := 0, rxAlive := [], txAlive := [], arrives := []
    echoSeq := 0, strokesSinceEcho := 0, warnRaised := false, drive := false, feather := false, catchAt := 0
    listCrc := 0, vacant := [], heldArrives := [], good := 0, commitFor := none, prepAfter := false, inReplay := false
    seatWait := none, nextStroke := 0, timerDue := false, origKind := 0, filling := false, barred := false, lateUs := 0 }

end Sys2Proof.Machine
end

