-- ==== Sys2Proof/Machine/FailTypes.lean ====
section
/-! DEFINITION. The state of failover, pairing and filling (chapter 8), as plain data. -/

namespace Sys2Proof.Machine

/-- A failover record (R332). -/
structure FailRecord where
  seq : Nat
  cls : Nat
  action : Nat
  replayed : Bool
  paired : Bool
  within : Bool
  consequential : Bool
  moduleIx : Nat
  die : Nat
  station : Nat
  stroke : Nat
  decideUs : Nat
  rerouteUs : Nat
  catchUs : Nat
  detail : Nat
deriving DecidableEq, Repr

/-- The pairing record (R317). -/
structure PairRec where
  partner : Nat
  kindBase : Nat
  ranges : List (Nat × Nat)
deriving DecidableEq, Repr

/-- A repair that step 5 of R308 makes: a spare for a failed physical station (R311), a variant of a die without a logical
station (R312), the entry of a station that nothing replaces marked invalid (R72), a stand-in of kind pair (R322). -/
inductive Repair where
  | substitute (st lst : Nat)
  | variant (die lst : Nat)
  | absent (die lst : Nat)
  | standin (lost by_ : Nat)
deriving DecidableEq, Repr

/-- What firmware does once the repairs that wait for a die to drain are made (R67, R308, R328): the end of a replay's preparation, with the
open tails kept or not; parking after an abort; waiting for a run; nothing more. -/
inductive RepairTail where
  | replay (keep : Bool)
  | park
  | idle
  | left
deriving DecidableEq, Repr

/-- A fill (R325): the lost module, the stand-in, the hot spare. -/
structure Fill where
  lost : Nat
  standin : Nat
  spare : Nat
deriving DecidableEq, Repr

/-- A stand-in that is switched at the commit before a stroke (R325 step 7): the stroke, the lost module, the new stand-in
and the kind. -/
structure Switch where
  stroke : Nat
  lost : Nat
  by_ : Nat
  kind : Nat
deriving DecidableEq, Repr

/-- A return under way (R330): role, flock, list check value, the modules that have not answered. -/
structure Return where
  role : Nat
  flock : Nat
  crc : Nat
  left : List Nat
deriving DecidableEq, Repr

/-- The failover state that firmware keeps (R304-R332). `notes` are the armed pairs of the pair map (R319), `opens` the
records whose replayed catch has not come with the instant of their report, `variants` the dies that run a variant, `repairWait` what
follows repairs that wait for quiesced dies, `held` the ranges received from a partner (base, length; R318), `w6` the weights of VC6 that a
fill has replaced (R325). -/
structure Failover where
  records : List FailRecord
  opens : List (FailRecord × Nat)
  lastSeq : Nat
  pair : Option PairRec
  pairState : Nat
  sentPushed : Bool
  gotPushed : Bool
  notes : List (Nat × Nat)
  variants : List Nat
  repairs : List Repair
  mustReset : Bool
  aborted : Bool
  usedSpares : List Nat
  fill : Option Fill
  mirroring : Bool
  standPlan : Option Plan
  switch : Option Switch
  returning : Option Return
  repairWait : Option RepairTail
  held : List (Nat × Nat)
  w6 : List Nat
deriving DecidableEq, Repr

/-- No fault, no pair. -/
def Failover.reset : Failover :=
  { records := [], opens := [], lastSeq := 0, pair := none, pairState := 0, sentPushed := false, gotPushed := false, notes := []
    variants := [], repairs := [], mustReset := false, aborted := false, usedSpares := [], fill := none, mirroring := false
    standPlan := none, switch := none, returning := none, repairWait := none, held := [], w6 := [] }

end Sys2Proof.Machine
end

