-- ==== Sys2Proof/Machine/HostTypes.lean ====
section
/-! DEFINITION. The state of the host interface, of the mailboxes and of the logbook (chapters 13, 14 and 16), as plain
data. -/

namespace Sys2Proof.Machine

/-- A logbook record (R581): number, class, payload, who it names as origin and writer, and its hour stamp. -/
structure LogRec where
  seq : Nat
  cls : Nat
  payload : List Byte
  origin : Nat
  writer : Nat
  opMs : Nat
  cycles : Nat
deriving DecidableEq, Repr

/-- Where a written record is held (R586): area 0 first or 1 last, and its sector. -/
structure HeldRec where
  entry : LogRec
  area : Nat
  sector : Nat
deriving DecidableEq, Repr

/-- A mailbox cursor (R547): the origin that opened it, its handle, its areas and where it stands; `used` orders the uses. -/
structure Cursor where
  origin : Nat
  handle : Nat
  area : Nat
  seq : Nat
  used : Nat
deriving DecidableEq, Repr

/-- A clear in progress (R594): the areas by their code of R565, the sectors of each still to erase, the mailbox whose command it is
and the number of the clear record. -/
structure Clearing where
  areas : Nat
  left : List (Nat × Nat)
  mailbox : Nat
  record : Nat
deriving DecidableEq, Repr

/-- The logbook beside its registers (R581-R595): the queue of unwritten records, the held records, the write point of each
area, the numbering, the dropped numbers not yet named by a LOST record. -/
structure Logbook where
  queue : List LogRec
  held : List HeldRec
  firstSector : Nat
  firstUsed : Nat
  lastSector : Nat
  lastUsed : Nat
  lastErased : Nat
  nextSeq : Nat
  ceiling : Nat
  dropped : Option (Nat × Nat × Nat)
  cursors : List Cursor
  uses : Nat
  clearing : Option Clearing
  windowSeqs : List LogRec
  behind : List Nat
  /-- Records that the other Shepherd's flash holds and the active one's lacks (R588). -/
  extra : List HeldRec
  /-- First number of the ceiling gap of the last power-on reset (R584, R591). -/
  gapFirst : Nat
  /-- The queue as the standby last received it (R490, R596). -/
  copied : List LogRec
deriving DecidableEq, Repr

/-- An entry of the MSI-X table: address, data and its mask bit (R500, R504). -/
structure MsixEntry where
  addr : Nat
  data : Nat
  masked : Bool
deriving DecidableEq, Repr

/-- A request that firmware has taken and dispatched (R506, R508, R509). -/
structure Taken where
  opcode : Nat
  alive : Nat
  noIrq : Bool
  tag : Nat
  body : List Byte
  at_ : Nat
deriving DecidableEq, Repr

/-- A mailbox or management channel beside its registers (R505-R509): the request area, the response, the request in
execution. -/
structure Mailbox where
  request : SMap Byte
  response : List Byte
  taken : Option Taken
deriving DecidableEq, Repr

/-- An empty mailbox. -/
def Mailbox.reset : Mailbox := { request := [], response := [], taken := none }

/-- A Shepherd beside SHP_STATUS (R488-R497): its heartbeat counter and the instant it last beat, the instants of its failures,
since when it has been healthy in standby, the state records in a row it has not acknowledged, the firmware slot it runs,
whether the debug port has halted it (R570). -/
structure Shepherd where
  beat : Option Nat
  lastBeat : Nat
  failures : List Nat
  standbySince : Nat
  unacked : Nat
  slot : Nat
  halted : Bool
deriving DecidableEq, Repr

/-- A Shepherd held in reset. -/
def Shepherd.reset : Shepherd := { beat := none, lastBeat := 0, failures := [], standbySince := 0, unacked := 0, slot := 0, halted := false }

/-- The host-facing state and the Shepherds: MSI-X, mailboxes (0-15, and 16 and 17 for M0 and M1), the order of doorbells,
the hour stamp (R583), calendar time, the two Shepherds, the alive counters of Shepherd frames, the inbox, the stroke
reference's waiting START (R513), the operating milliseconds of the last power-on reset (R561). -/
structure HostSide where
  msix : SMap MsixEntry
  msixPending : Nat
  fnMask : Bool
  linkUp : Bool
  mailboxes : SMap Mailbox
  doorbells : List Nat
  opBase : Nat
  opSince : Nat
  opSaved : Nat
  cycles : Nat
  calBase : Nat
  calAt : Nat
  calValid : Bool
  shA : Shepherd
  shB : Shepherd
  rxFrames : SMap (Option Nat)
  txFrames : SMap Nat
  inbox : List (List Byte)
  noActiveSince : Option Nat
  auxWait : Bool
  opReset : Nat
deriving DecidableEq, Repr

/-- An MSI-X entry after reset: masked, as the PCIe base specification has it (log entry 23). -/
def MsixEntry.reset : MsixEntry := { addr := 0, data := 0, masked := true }

/-- The host side as delivered: the counters that manufacture leaves are 1 (log entry 7). -/
def HostSide.reset : HostSide :=
  { msix := [], msixPending := 0, fnMask := false, linkUp := false, mailboxes := [], doorbells := [], opBase := 1, opSince := 0, opSaved := 1
    cycles := 1, calBase := 0, calAt := 0, calValid := false, shA := Shepherd.reset, shB := Shepherd.reset, rxFrames := []
    txFrames := [], inbox := [], noActiveSince := none, auxWait := false, opReset := 0 }

/-- The logbook as delivered: empty, its numbering at 1 (log entry 7). -/
def Logbook.reset : Logbook :=
  { queue := [], held := [], firstSector := 0, firstUsed := 0, lastSector := 0, lastUsed := 0, lastErased := 479, nextSeq := 1, ceiling := 4097
    dropped := none, cursors := [], uses := 0, clearing := none, windowSeqs := [], behind := [], extra := [], gapFirst := 0, copied := [] }

end Sys2Proof.Machine
end

