-- ==== Sys2Proof/Machine/KorrelTypes.lean ====
section
/-! DEFINITION. The state of the Korrel ports and of the module's view of the others (chapter 7), as plain data. -/

namespace Sys2Proof.Machine

/-- One direction pair of a stream of a port (R271-R275): the sender's next sequence number and unacknowledged flits, the
receiver's next expected number, the numbers a retry was asked for, oldest request first, each with how often that failed, and the flits
kept behind a gap at feature level 2. -/
structure KStream where
  next : Nat
  unacked : List KFlit
  expected : Nat
  asked : List (Nat × Nat)
  kept : List KFlit
deriving DecidableEq, Repr

/-- A stream after training (R278 step 6). -/
def KStream.reset : KStream := { next := 0, unacked := [], expected := 0, asked := [], kept := [] }

/-- A Korrel port beside its registers: its streams, the flits that wait for a credit or a buffer, per VC the counts of
R270, whether it carries traffic (R279), the instants of its losses, the training exchange with the feature level it settles (R278) and the
cable (R263). -/
structure KorPort where
  s0 : KStream
  s1 : KStream
  waiting : List KFlit
  sent : SMap Nat
  freed : SMap Nat
  lastField : SMap Nat
  turn : Nat
  quota : Nat
  traffic : Bool
  upBefore : Bool
  cleanSince : Nat
  lostAt : Nat
  losses : List Nat
  insertedAt : Nat
  released : Bool
  locked : Bool
  idSent : Bool
  idSeen : Bool
  doneSent : Bool
  doneSeen : Bool
  level : Nat
deriving DecidableEq, Repr

/-- An empty cage. -/
def KorPort.reset : KorPort :=
  { s0 := KStream.reset, s1 := KStream.reset, waiting := [], sent := [], freed := [], lastField := [], turn := 0, quota := 0
    traffic := false, upBefore := false, cleanSince := 0, lostAt := 0, losses := [], insertedAt := 0, released := false, locked := false
    idSent := false, idSeen := false, doneSent := false, doneSeen := false, level := 0 }

/-- A probe in flight (R285): the module, its sequence number, the reason it would carry. -/
structure Probe where
  moduleIx : Nat
  seq : Nat
  reason : Nat
deriving DecidableEq, Repr

/-- The module's link state beside the port registers: ports, the latest notices (tray * 16384 + module to 1 + state,
R286), probes, whether a switch port has come up since start-up or rejoin (R289). -/
structure Korrel where
  ports : SMap KorPort
  notices : SMap Nat
  probes : List Probe
  probeSeq : Nat
  everUp : Bool
deriving DecidableEq, Repr

/-- No cable, no notice. -/
def Korrel.reset : Korrel := { ports := [], notices := [], probes := [], probeSeq := 0, everUp := false }

end Sys2Proof.Machine
end

