-- ==== Sys2Proof/Machine/LedgerTypes.lean ====
section
/-! DEFINITION. The state of the energy ledger beside its registers (chapter 11), as plain data. -/

namespace Sys2Proof.Machine

/-- The ledger: the instant of the last valid sweep, the pack and input accumulators as last read, whether the window tolerance
holds (R425) and PG0 has rested since start-up (R427), whether exhaustion is logged (R443), the operating point that waits for
the catch warning (R439; index, code, core mV), whether the next stroke disposes of a surplus (R446), the ballast in W (R447),
whether a drain steers to the floor (R449). -/
structure Ledger where
  sweepAt : Nat
  markDis : Nat
  markChg : Nat
  markSeg : Nat
  tolerant : Bool
  rested : Bool
  exhausted : Bool
  next : Option (Nat × Nat × Nat)
  surplusNext : Bool
  ballast : Nat
deriving DecidableEq, Repr

/-- A ledger that has read nothing. -/
def Ledger.reset : Ledger :=
  { sweepAt := 0, markDis := 0, markChg := 0, markSeg := 0, tolerant := false, rested := false, exhausted := false, next := none
    surplusNext := false, ballast := 0 }

end Sys2Proof.Machine
end

