-- ==== Sys2Proof/Machine/PmcTypes.lean ====
section
/-! DEFINITION. The state of the performance counters beside their registers (chapter 17), as plain data. -/

namespace Sys2Proof.Machine

/-- The buffers of the dies (die * 262144 + byte, R607) and the records of each ring that were dropped and not yet named by a lost
record (die * 2 + ring, ring 0 trace and 1 samples, R608). -/
structure PmcSide where
  buffer : SMap Byte
  lost : SMap Nat
deriving DecidableEq, Repr

/-- Empty buffers. -/
def PmcSide.reset : PmcSide := { buffer := [], lost := [] }

end Sys2Proof.Machine
end

