-- ==== Sys2Proof/Machine/RackTypes.lean ====
section
/-! DEFINITION. The state of the rack interfaces: drain, I3C, MCTP, PLDM (chapter 18), as plain data. -/

namespace Sys2Proof.Machine

/-- A state sensor (R622): the code it had before its last change, whether its 100 ms hold-off runs, the code that waits. -/
structure SensorSide where
  previous : Nat
  holding : Bool
  waiting : Option Nat
deriving DecidableEq, Repr

/-- A state sensor that has sent no event. -/
def SensorSide.reset : SensorSide := { previous := 0, holding := false, waiting := none }

/-- The states of a firmware device in an update (R623). -/
inductive UpdateState where
  | idle | learn | ready | download | verify | apply | activate
deriving DecidableEq, Repr

/-- The rack side: the drain state of R626 and whether the module has handed off (R627); the I3C dynamic address (R619); the
endpoint ID, 0 while none is assigned (R620); the terminus ID and the event receiver (R622); the state sensors; the
PlatformEventMessages that wait for acknowledgement, which assert the ALERT pin; the firmware update (R623): its state and the
one before, the size of the image, the bytes received so far, whether an image was applied; how far SPDM has come on each transport,
0 DOE and 1 MCTP (R577): 1 version, 2 capabilities, 3 algorithms. -/
structure Rack where
  drain : Nat
  handedOff : Bool
  i3c : Option Nat
  eid : Nat
  tid : Nat
  receiver : Option Nat
  sensors : SMap SensorSide
  events : Nat
  update : UpdateState
  updateWas : UpdateState
  size : Nat
  image : List Byte
  applied : Bool
  spdm : SMap Nat
deriving DecidableEq, Repr

/-- No drain, no address, no update. -/
def Rack.reset : Rack :=
  { drain := 0, handedOff := false, i3c := none, eid := 0, tid := 0, receiver := none, sensors := [], events := 0, update := .idle
    updateWas := .idle, size := 0, image := [], applied := false, spdm := [] }

end Sys2Proof.Machine
end

