-- ==== Sys2Proof/Machine/RegMap.lean ====
section
/-! DEFINITION. The register maps of the spec: every register, its fields, their access codes (R10) and the value each
has after reset (R11). A field is one entry of the field file of State, whatever its register; a register's word is
composed from its fields and its reserved bits read 0 (R12). -/

namespace Sys2Proof.Machine

/-- A field of a register: its number in the maps and its width. -/
structure Field where
  idx : Nat
  width : Nat
deriving DecidableEq, Repr

/-- The access codes of R10. -/
inductive Acc where
  | ro | rw | wo | w1c | w1s | rc | rwa
deriving DecidableEq, Repr

/-- Where a register lies: the block whose base its offset counts from. -/
inductive Block where
  | stn | die | mem | cmt | drv | hq | chk | tly | klkd | klkp | klkr | cox | ldg | stp | cmn | gbl | mbx | irq | shp | lgb | pmcs | pmcd | pmcm
deriving DecidableEq, Repr

/-- A field in its register: place, access, reset value by instance, whether its write is a command of its own, and
the range of values that are not reserved (R12). -/
structure FieldSpec where
  field : Field
  lo : Nat
  acc : Acc
  rst : Nat → Nat
  ownRow : Bool
  legalLo : Nat
  legalHi : Nat

/-- A register: number, block, offset, how many instances its block holds and their distance, whether it is 64 bits
wide, its fields. -/
structure RegSpec where
  reg : Nat
  block : Block
  off : Nat
  count : Nat
  stride : Nat
  wide : Bool
  fields : List FieldSpec

/-- The physical position that serves logical station `l` at delivery (R36). -/
def deliveryPhys (l : Nat) : Nat := 13 * (l / 12) + (if l % 12 < 6 then l % 12 else l % 12 + 1)

/-- The logical station at physical position `p` at delivery; 63 for the spare column (R36, R74). -/
def deliveryLogical (p : Nat) : Nat :=
  if p % 13 = 6 then 63 else 12 * (p / 13) + (if p % 13 < 6 then p % 13 else p % 13 - 1)

/-- The kind of edge `k` of a die (R21, R81, R173): 0 outer, 1 compute die, 2 memory stack, 3 link die. -/
def edgeKind (d k : Nat) : Nat :=
  if k = 0 then (if d < 4 then 2 else 1)
  else if k = 2 then (if 12 ≤ d then 2 else 1)
  else if k = 1 then (if d = 7 ∨ d = 11 then 2 else if d = 3 ∨ d = 15 then 3 else 1)
  else (if d = 4 ∨ d = 8 then 2 else if d = 0 ∨ d = 12 then 3 else 1)

/-- Telemetry channels of an engine (R408): is channel `c` assigned. -/
def tlmPresent (e c : Nat) : Bool :=
  if e < 16 then c < 12 else if e = 16 then c < 10 else if e = 17 then c < 5 else c < 56

/-- The quantity of a channel: 0 voltage, 1 current, 2 power, 3 temperature (R408). -/
def tlmQuantity (e c : Nat) : Nat :=
  if e < 16 then (if 9 ≤ c then 3 else c % 3)
  else if e = 16 then (if c < 3 then c else if c = 3 then 0 else if c < 9 then 1 else 3)
  else if e = 17 then ([0, 0, 1, 2, 3] : List Nat).getD c 0
  else if c < 48 then c % 3 else 3


/-- STN_ID (R74). -/
def R.STN_ID : Nat := 0
def R.STN_ID.phys_pos : Field := ⟨0, 6⟩
def R.STN_ID.logical : Field := ⟨1, 6⟩
def R.STN_ID.die : Field := ⟨2, 4⟩
def R.STN_ID.role : Field := ⟨3, 2⟩

/-- STN_CTRL (R75). -/
def R.STN_CTRL : Nat := 1
def R.STN_CTRL.run : Field := ⟨4, 1⟩
def R.STN_CTRL.fence : Field := ⟨5, 1⟩
def R.STN_CTRL.power_gate : Field := ⟨6, 1⟩
def R.STN_CTRL.sram_init : Field := ⟨7, 1⟩

/-- STN_STATUS (R76). -/
def R.STN_STATUS : Nat := 2
def R.STN_STATUS.state : Field := ⟨8, 3⟩
def R.STN_STATUS.sram_init_busy : Field := ⟨9, 1⟩
def R.STN_STATUS.stretching : Field := ⟨10, 1⟩

/-- STN_FAULT (R77). -/
def R.STN_FAULT : Nat := 3
def R.STN_FAULT.sram_uncorrectable : Field := ⟨11, 1⟩
def R.STN_FAULT.istore_uncorrectable : Field := ⟨12, 1⟩
def R.STN_FAULT.sequencer_check : Field := ⟨13, 1⟩
def R.STN_FAULT.droop_halt : Field := ⟨14, 1⟩
def R.STN_FAULT.crossing_error : Field := ⟨15, 1⟩
def R.STN_FAULT.tally_store : Field := ⟨16, 1⟩
def R.STN_FAULT.remote_error : Field := ⟨17, 1⟩
def R.STN_FAULT.self_test_fail : Field := ⟨18, 1⟩

/-- STN_CLK_TARGET (R78). -/
def R.STN_CLK_TARGET : Nat := 4
def R.STN_CLK_TARGET.target_code : Field := ⟨19, 9⟩

/-- STN_CLK_STATUS (R78). -/
def R.STN_CLK_STATUS : Nat := 5
def R.STN_CLK_STATUS.current_code : Field := ⟨20, 9⟩
def R.STN_CLK_STATUS.min_eff_code : Field := ⟨21, 9⟩

/-- STN_DROOP_CFG (R78). -/
def R.STN_DROOP_CFG : Nat := 6
def R.STN_DROOP_CFG.replica_margin : Field := ⟨22, 4⟩
def R.STN_DROOP_CFG.halt_limit : Field := ⟨23, 8⟩

/-- STN_STRETCH_CYCLES (R78). -/
def R.STN_STRETCH_CYCLES : Nat := 7
def R.STN_STRETCH_CYCLES.count : Field := ⟨24, 48⟩

/-- STN_SRAM_CORR (R78). -/
def R.STN_SRAM_CORR : Nat := 8
def R.STN_SRAM_CORR.corrected : Field := ⟨25, 16⟩
def R.STN_SRAM_CORR.last_bank : Field := ⟨26, 5⟩

/-- STN_DIE_CTRL (R79). -/
def R.STN_DIE_CTRL : Nat := 9
def R.STN_DIE_CTRL.quiesce : Field := ⟨27, 1⟩
def R.STN_DIE_CTRL.map_commit : Field := ⟨28, 1⟩

/-- STN_DIE_STATUS (R79). -/
def R.STN_DIE_STATUS : Nat := 10
def R.STN_DIE_STATUS.quiesced : Field := ⟨29, 1⟩
def R.STN_DIE_STATUS.map_write_refused : Field := ⟨30, 1⟩
def R.STN_DIE_STATUS.active_count : Field := ⟨31, 6⟩
def R.STN_DIE_STATUS.spares_free : Field := ⟨32, 3⟩
def R.STN_DIE_STATUS.degraded : Field := ⟨33, 1⟩

/-- STN_SEG_CLK (R79). -/
def R.STN_SEG_CLK : Nat := 11
def R.STN_SEG_CLK.target_code : Field := ⟨34, 9⟩

/-- STN_MAP (R80). -/
def R.STN_MAP : Nat := 12
def R.STN_MAP.phys_0 : Field := ⟨35, 6⟩
def R.STN_MAP.valid_0 : Field := ⟨36, 1⟩
def R.STN_MAP.phys_1 : Field := ⟨37, 6⟩
def R.STN_MAP.valid_1 : Field := ⟨38, 1⟩
def R.STN_MAP.phys_2 : Field := ⟨39, 6⟩
def R.STN_MAP.valid_2 : Field := ⟨40, 1⟩
def R.STN_MAP.phys_3 : Field := ⟨41, 6⟩
def R.STN_MAP.valid_3 : Field := ⟨42, 1⟩

/-- STN_EDGE (R81). -/
def R.STN_EDGE : Nat := 13
def R.STN_EDGE.module_up : Field := ⟨43, 16⟩
def R.STN_EDGE.kind : Field := ⟨44, 4⟩
def R.STN_EDGE.retries : Field := ⟨45, 8⟩

/-- STN_ARITH_CTRL (R116). -/
def R.STN_ARITH_CTRL : Nat := 14
def R.STN_ARITH_CTRL.trap_mask : Field := ⟨46, 7⟩

/-- STN_ARITH_FLAGS (R117). -/
def R.STN_ARITH_FLAGS : Nat := 15
def R.STN_ARITH_FLAGS.flags : Field := ⟨47, 7⟩

/-- STN_ARITH_SEED (R118). -/
def R.STN_ARITH_SEED : Nat := 16
def R.STN_ARITH_SEED.seed : Field := ⟨48, 64⟩

/-- STN_DIE_ARITH_FLAGS (R119). -/
def R.STN_DIE_ARITH_FLAGS : Nat := 17
def R.STN_DIE_ARITH_FLAGS.flags : Field := ⟨49, 7⟩

/-- STN_SEQ_PC (R162). -/
def R.STN_SEQ_PC : Nat := 18
def R.STN_SEQ_PC.pc : Field := ⟨50, 12⟩

/-- STN_EXC_CAUSE (R163). -/
def R.STN_EXC_CAUSE : Nat := 19
def R.STN_EXC_CAUSE.cause : Field := ⟨51, 5⟩
def R.STN_EXC_CAUSE.slot : Field := ⟨52, 2⟩
def R.STN_EXC_CAUSE.precise : Field := ⟨53, 1⟩
def R.STN_EXC_CAUSE.more : Field := ⟨54, 1⟩
def R.STN_EXC_CAUSE.trapped_flags : Field := ⟨55, 7⟩
def R.STN_EXC_CAUSE.valid : Field := ⟨56, 1⟩

/-- STN_EXC_PC (R164). -/
def R.STN_EXC_PC : Nat := 20
def R.STN_EXC_PC.pc : Field := ⟨57, 12⟩

/-- STN_EXC_INFO (R164). -/
def R.STN_EXC_INFO : Nat := 21
def R.STN_EXC_INFO.info : Field := ⟨58, 64⟩

/-- STN_SEQ_STATUS (R165). -/
def R.STN_SEQ_STATUS : Nat := 22
def R.STN_SEQ_STATUS.loop_depth : Field := ⟨59, 3⟩
def R.STN_SEQ_STATUS.matrix_ops : Field := ⟨60, 2⟩
def R.STN_SEQ_STATUS.drover0_queue : Field := ⟨61, 5⟩
def R.STN_SEQ_STATUS.drover1_queue : Field := ⟨62, 5⟩
def R.STN_SEQ_STATUS.fence_wait : Field := ⟨63, 1⟩
def R.STN_SEQ_STATUS.wait_tally : Field := ⟨64, 12⟩
def R.STN_SEQ_STATUS.tally_wait : Field := ⟨65, 1⟩
def R.STN_SEQ_STATUS.barrier_wait : Field := ⟨66, 1⟩

/-- MEM_ID (R207). -/
def R.MEM_ID : Nat := 23
def R.MEM_ID.stack : Field := ⟨67, 4⟩
def R.MEM_ID.host_die : Field := ⟨68, 4⟩
def R.MEM_ID.edge : Field := ⟨69, 2⟩
def R.MEM_ID.capacity_gib : Field := ⟨70, 10⟩

/-- MEM_CTRL (R207). -/
def R.MEM_CTRL : Nat := 24
def R.MEM_CTRL.scrub_en : Field := ⟨71, 1⟩
def R.MEM_CTRL.self_refresh : Field := ⟨72, 1⟩

/-- MEM_STATUS (R207). -/
def R.MEM_STATUS : Nat := 25
def R.MEM_STATUS.state : Field := ⟨73, 3⟩

/-- MEM_PC_UP (R207). -/
def R.MEM_PC_UP : Nat := 26
def R.MEM_PC_UP.pc_up : Field := ⟨74, 64⟩

/-- MEM_ERR_COUNT (R207). -/
def R.MEM_ERR_COUNT : Nat := 27
def R.MEM_ERR_COUNT.corrected : Field := ⟨75, 24⟩
def R.MEM_ERR_COUNT.uncorrectable : Field := ⟨76, 8⟩

/-- MEM_ERR_ADDR (R207). -/
def R.MEM_ERR_ADDR : Nat := 28
def R.MEM_ERR_ADDR.addr : Field := ⟨77, 48⟩

/-- MEM_ERR_INFO (R207). -/
def R.MEM_ERR_INFO : Nat := 29
def R.MEM_ERR_INFO.pos0 : Field := ⟨78, 6⟩
def R.MEM_ERR_INFO.pos1 : Field := ⟨79, 6⟩
def R.MEM_ERR_INFO.kind : Field := ⟨80, 2⟩
def R.MEM_ERR_INFO.more : Field := ⟨81, 1⟩
def R.MEM_ERR_INFO.valid : Field := ⟨82, 1⟩

/-- MEM_SCRUB_CFG (R207). -/
def R.MEM_SCRUB_CFG : Nat := 30
def R.MEM_SCRUB_CFG.period_h : Field := ⟨83, 8⟩

/-- MEM_SCRUB_STATUS (R207). -/
def R.MEM_SCRUB_STATUS : Nat := 31
def R.MEM_SCRUB_STATUS.progress : Field := ⟨84, 10⟩
def R.MEM_SCRUB_STATUS.passes : Field := ⟨85, 16⟩

/-- MEM_STG_BASE (R207). -/
def R.MEM_STG_BASE : Nat := 32
def R.MEM_STG_BASE.base : Field := ⟨86, 48⟩

/-- MEM_STG_SIZE (R207). -/
def R.MEM_STG_SIZE : Nat := 33
def R.MEM_STG_SIZE.size_mib : Field := ⟨87, 9⟩

/-- MEM_STG_STATUS (R207). -/
def R.MEM_STG_STATUS : Nat := 34
def R.MEM_STG_STATUS.state : Field := ⟨88, 3⟩
def R.MEM_STG_STATUS.full : Field := ⟨89, 1⟩
def R.MEM_STG_STATUS.entries : Field := ⟨90, 20⟩

/-- MEM_MIR_CFG (R207). -/
def R.MEM_MIR_CFG : Nat := 35
def R.MEM_MIR_CFG.partner : Field := ⟨91, 14⟩
def R.MEM_MIR_CFG.enable : Field := ⟨92, 1⟩

/-- MEM_MIR_OFFSET (R207). -/
def R.MEM_MIR_OFFSET : Nat := 36
def R.MEM_MIR_OFFSET.offset : Field := ⟨93, 64⟩

/-- MEM_COMMIT_CTRL (R208). -/
def R.MEM_COMMIT_CTRL : Nat := 37
def R.MEM_COMMIT_CTRL.hold : Field := ⟨94, 1⟩
def R.MEM_COMMIT_CTRL.discard : Field := ⟨95, 1⟩
def R.MEM_COMMIT_CTRL.retry_apply : Field := ⟨96, 1⟩

/-- MEM_COMMIT_STATUS (R208). -/
def R.MEM_COMMIT_STATUS : Nat := 38
def R.MEM_COMMIT_STATUS.applied : Field := ⟨97, 12⟩
def R.MEM_COMMIT_STATUS.state : Field := ⟨98, 3⟩
def R.MEM_COMMIT_STATUS.discard_refused : Field := ⟨99, 1⟩

/-- MEM_COMMIT_STROKE (R208). -/
def R.MEM_COMMIT_STROKE : Nat := 39
def R.MEM_COMMIT_STROKE.stroke : Field := ⟨100, 32⟩

/-- DRV_CTRL (R209). -/
def R.DRV_CTRL : Nat := 40
def R.DRV_CTRL.resume : Field := ⟨101, 1⟩
def R.DRV_CTRL.flush : Field := ⟨102, 1⟩

/-- DRV_STATUS (R209). -/
def R.DRV_STATUS : Nat := 41
def R.DRV_STATUS.state : Field := ⟨103, 3⟩
def R.DRV_STATUS.queue : Field := ⟨104, 5⟩
def R.DRV_STATUS.list_index : Field := ⟨105, 12⟩

/-- DRV_FAULT (R209). -/
def R.DRV_FAULT : Nat := 42
def R.DRV_FAULT.cause : Field := ⟨106, 4⟩
def R.DRV_FAULT.detail : Field := ⟨107, 8⟩
def R.DRV_FAULT.pc : Field := ⟨108, 12⟩
def R.DRV_FAULT.fromList : Field := ⟨109, 1⟩
def R.DRV_FAULT.mirror_lost : Field := ⟨110, 1⟩
def R.DRV_FAULT.valid : Field := ⟨111, 1⟩

/-- DRV_FAULT_ADDR (R209). -/
def R.DRV_FAULT_ADDR : Nat := 43
def R.DRV_FAULT_ADDR.addr : Field := ⟨112, 64⟩

/-- DRV_BYTES (R209). -/
def R.DRV_BYTES : Nat := 44
def R.DRV_BYTES.bytes : Field := ⟨113, 48⟩

/-- DRV_HQ_TAIL (R210). -/
def R.DRV_HQ_TAIL : Nat := 45
def R.DRV_HQ_TAIL.tail : Field := ⟨114, 6⟩

/-- DRV_HQ_HEAD (R210). -/
def R.DRV_HQ_HEAD : Nat := 46
def R.DRV_HQ_HEAD.head : Field := ⟨115, 6⟩

/-- DRV_HQ_DONE (R210). -/
def R.DRV_HQ_DONE : Nat := 47
def R.DRV_HQ_DONE.done : Field := ⟨116, 32⟩

/-- DRV_HQ_STATUS (R210). -/
def R.DRV_HQ_STATUS : Nat := 48
def R.DRV_HQ_STATUS.cause : Field := ⟨117, 4⟩
def R.DRV_HQ_STATUS.slot : Field := ⟨118, 6⟩
def R.DRV_HQ_STATUS.tail_refused : Field := ⟨119, 1⟩
def R.DRV_HQ_STATUS.valid : Field := ⟨120, 1⟩

/-- CHK_CTRL (R211). -/
def R.CHK_CTRL : Nat := 49
def R.CHK_CTRL.algo : Field := ⟨121, 2⟩
def R.CHK_CTRL.initialise : Field := ⟨122, 1⟩
def R.CHK_CTRL.alive_en : Field := ⟨123, 1⟩
def R.CHK_CTRL.alive_width : Field := ⟨124, 2⟩
def R.CHK_CTRL.alive_hi : Field := ⟨125, 1⟩
def R.CHK_CTRL.alive_offset : Field := ⟨126, 8⟩

/-- CHK_RUN (R211). -/
def R.CHK_RUN : Nat := 50
def R.CHK_RUN.run : Field := ⟨127, 64⟩

/-- CHK_RESULT (R211). -/
def R.CHK_RESULT : Nat := 51
def R.CHK_RESULT.result : Field := ⟨128, 64⟩

/-- CHK_DATA (R211). -/
def R.CHK_DATA : Nat := 52
def R.CHK_DATA.dataWord : Field := ⟨129, 64⟩

/-- CHK_FEED (R211). -/
def R.CHK_FEED : Nat := 53
def R.CHK_FEED.n : Field := ⟨130, 4⟩
def R.CHK_FEED.frame_end : Field := ⟨131, 1⟩

/-- CHK_ALIVE_LAST (R211). -/
def R.CHK_ALIVE_LAST : Nat := 54
def R.CHK_ALIVE_LAST.last : Field := ⟨132, 16⟩
def R.CHK_ALIVE_LAST.seen : Field := ⟨133, 1⟩

/-- CHK_STATUS (R211). -/
def R.CHK_STATUS : Nat := 55
def R.CHK_STATUS.repeats : Field := ⟨134, 1⟩
def R.CHK_STATUS.skip : Field := ⟨135, 1⟩
def R.CHK_STATUS.backward : Field := ⟨136, 1⟩
def R.CHK_STATUS.write_refused : Field := ⟨137, 1⟩
def R.CHK_STATUS.frames : Field := ⟨138, 16⟩

/-- TLY_STN_STATUS (R254). -/
def R.TLY_STN_STATUS : Nat := 56
def R.TLY_STN_STATUS.deferred : Field := ⟨139, 9⟩
def R.TLY_STN_STATUS.defer_overflow : Field := ⟨140, 1⟩
def R.TLY_STN_STATUS.tag : Field := ⟨141, 2⟩
def R.TLY_STN_STATUS.late : Field := ⟨142, 16⟩

/-- TLY_MBX (R254). -/
def R.TLY_MBX : Nat := 57
def R.TLY_MBX.word : Field := ⟨143, 64⟩

/-- TLY_STROKE_CTRL (R255). -/
def R.TLY_STROKE_CTRL : Nat := 58
def R.TLY_STROKE_CTRL.enable : Field := ⟨144, 1⟩

/-- TLY_STROKE_STATUS (R255). -/
def R.TLY_STROKE_STATUS : Nat := 59
def R.TLY_STROKE_STATUS.state : Field := ⟨145, 3⟩
def R.TLY_STROKE_STATUS.seat : Field := ⟨146, 1⟩
def R.TLY_STROKE_STATUS.first : Field := ⟨147, 1⟩
def R.TLY_STROKE_STATUS.last : Field := ⟨148, 1⟩
def R.TLY_STROKE_STATUS.replay : Field := ⟨149, 1⟩
def R.TLY_STROKE_STATUS.out_of_step : Field := ⟨150, 1⟩
def R.TLY_STROKE_STATUS.kind : Field := ⟨151, 8⟩
def R.TLY_STROKE_STATUS.unarmed_sends : Field := ⟨152, 8⟩

/-- TLY_STROKE_NUM (R255). -/
def R.TLY_STROKE_NUM : Nat := 60
def R.TLY_STROKE_NUM.stroke : Field := ⟨153, 48⟩

/-- TLY_PERIOD (R255). -/
def R.TLY_PERIOD : Nat := 61
def R.TLY_PERIOD.period_us : Field := ⟨154, 32⟩

/-- TLY_NEXT_PERIOD (R255). -/
def R.TLY_NEXT_PERIOD : Nat := 62
def R.TLY_NEXT_PERIOD.period_us : Field := ⟨155, 31⟩
def R.TLY_NEXT_PERIOD.armed : Field := ⟨156, 1⟩

/-- TLY_COMBINED (R255). -/
def R.TLY_COMBINED : Nat := 63
def R.TLY_COMBINED.period_us : Field := ⟨157, 32⟩

/-- TLY_COMBINED_LATE (R255). -/
def R.TLY_COMBINED_LATE : Nat := 64
def R.TLY_COMBINED_LATE.late_us : Field := ⟨158, 16⟩
def R.TLY_COMBINED_LATE.missing : Field := ⟨159, 16⟩

/-- TLY_SEAT (R255). -/
def R.TLY_SEAT : Nat := 65
def R.TLY_SEAT.seat : Field := ⟨160, 14⟩
def R.TLY_SEAT.rank : Field := ⟨161, 14⟩
def R.TLY_SEAT.valid : Field := ⟨162, 1⟩

/-- TLY_SEAT_DELAY (R255). -/
def R.TLY_SEAT_DELAY : Nat := 66
def R.TLY_SEAT_DELAY.d_ns : Field := ⟨163, 20⟩

/-- TLY_LATE (R255). -/
def R.TLY_LATE : Nat := 67
def R.TLY_LATE.last_us : Field := ⟨164, 16⟩
def R.TLY_LATE.max_us : Field := ⟨165, 16⟩

/-- TLY_TELEGRAM_ERR (R255). -/
def R.TLY_TELEGRAM_ERR : Nat := 68
def R.TLY_TELEGRAM_ERR.crc : Field := ⟨166, 8⟩
def R.TLY_TELEGRAM_ERR.repeats : Field := ⟨167, 8⟩
def R.TLY_TELEGRAM_ERR.skip : Field := ⟨168, 8⟩
def R.TLY_TELEGRAM_ERR.backward : Field := ⟨169, 8⟩

/-- TLY_TELEGRAM_ERR2 (R255). -/
def R.TLY_TELEGRAM_ERR2 : Nat := 69
def R.TLY_TELEGRAM_ERR2.level : Field := ⟨170, 8⟩
def R.TLY_TELEGRAM_ERR2.rank : Field := ⟨171, 8⟩
def R.TLY_TELEGRAM_ERR2.bad_kind : Field := ⟨172, 8⟩

/-- KLK_DIE_ID (R295). -/
def R.KLK_DIE_ID : Nat := 70
def R.KLK_DIE_ID.link_die : Field := ⟨173, 2⟩
def R.KLK_DIE_ID.first_port : Field := ⟨174, 5⟩
def R.KLK_DIE_ID.port_count : Field := ⟨175, 3⟩
def R.KLK_DIE_ID.level_min : Field := ⟨176, 4⟩
def R.KLK_DIE_ID.level_max : Field := ⟨177, 4⟩

/-- KLK_DIE_CTRL (R295). -/
def R.KLK_DIE_CTRL : Nat := 71
def R.KLK_DIE_CTRL.isolate : Field := ⟨178, 1⟩
def R.KLK_DIE_CTRL.rejoin : Field := ⟨179, 1⟩

/-- KLK_DIE_STATUS (R295). -/
def R.KLK_DIE_STATUS : Nat := 72
def R.KLK_DIE_STATUS.isolated : Field := ⟨180, 1⟩
def R.KLK_DIE_STATUS.false_declared : Field := ⟨181, 1⟩
def R.KLK_DIE_STATUS.switch_up : Field := ⟨182, 4⟩

/-- KLK_VC_WEIGHT (R295). -/
def R.KLK_VC_WEIGHT : Nat := 73
def R.KLK_VC_WEIGHT.w2 : Field := ⟨183, 4⟩
def R.KLK_VC_WEIGHT.w4 : Field := ⟨184, 4⟩
def R.KLK_VC_WEIGHT.w5 : Field := ⟨185, 4⟩
def R.KLK_VC_WEIGHT.w6 : Field := ⟨186, 4⟩
def R.KLK_VC_WEIGHT.w7 : Field := ⟨187, 4⟩

/-- KLK_LOSS_LOG (R295). -/
def R.KLK_LOSS_LOG : Nat := 74
def R.KLK_LOSS_LOG.moduleIx : Field := ⟨188, 14⟩
def R.KLK_LOSS_LOG.reason : Field := ⟨189, 2⟩
def R.KLK_LOSS_LOG.detector : Field := ⟨190, 14⟩
def R.KLK_LOSS_LOG.from_telegram : Field := ⟨191, 1⟩
def R.KLK_LOSS_LOG.valid : Field := ⟨192, 1⟩
def R.KLK_LOSS_LOG.dropped : Field := ⟨193, 16⟩
def R.KLK_LOSS_LOG.declarations : Field := ⟨194, 16⟩

/-- KLK_PORT_CTRL (R296). -/
def R.KLK_PORT_CTRL : Nat := 75
def R.KLK_PORT_CTRL.enable : Field := ⟨195, 1⟩
def R.KLK_PORT_CTRL.retrain : Field := ⟨196, 1⟩

/-- KLK_PORT_STATUS (R296). -/
def R.KLK_PORT_STATUS : Nat := 76
def R.KLK_PORT_STATUS.state : Field := ⟨197, 3⟩
def R.KLK_PORT_STATUS.present : Field := ⟨198, 1⟩
def R.KLK_PORT_STATUS.polarity : Field := ⟨199, 4⟩
def R.KLK_PORT_STATUS.reversed : Field := ⟨200, 1⟩
def R.KLK_PORT_STATUS.cable : Field := ⟨201, 2⟩
def R.KLK_PORT_STATUS.power_refused : Field := ⟨202, 1⟩
def R.KLK_PORT_STATUS.level : Field := ⟨203, 4⟩
def R.KLK_PORT_STATUS.role : Field := ⟨204, 1⟩

/-- KLK_PORT_PEER (R296). -/
def R.KLK_PORT_PEER : Nat := 77
def R.KLK_PORT_PEER.peer_id : Field := ⟨205, 14⟩
def R.KLK_PORT_PEER.peer_kind : Field := ⟨206, 1⟩
def R.KLK_PORT_PEER.peer_port : Field := ⟨207, 8⟩
def R.KLK_PORT_PEER.valid : Field := ⟨208, 1⟩

/-- KLK_PORT_ERR (R296). -/
def R.KLK_PORT_ERR : Nat := 78
def R.KLK_PORT_ERR.crc_fail : Field := ⟨209, 16⟩
def R.KLK_PORT_ERR.retries : Field := ⟨210, 16⟩

/-- KLK_PORT_FEC (R296). -/
def R.KLK_PORT_FEC : Nat := 79
def R.KLK_PORT_FEC.corrected : Field := ⟨211, 32⟩
def R.KLK_PORT_FEC.uncorrectable : Field := ⟨212, 16⟩

/-- KLK_PORT_LOSS (R296). -/
def R.KLK_PORT_LOSS : Nat := 80
def R.KLK_PORT_LOSS.cause : Field := ⟨213, 2⟩
def R.KLK_PORT_LOSS.count : Field := ⟨214, 8⟩

/-- KLK_PORT_FLITS (R296). -/
def R.KLK_PORT_FLITS : Nat := 81
def R.KLK_PORT_FLITS.sent : Field := ⟨215, 48⟩

/-- KLK_PORT_CREDIT (R296). -/
def R.KLK_PORT_CREDIT : Nat := 82
def R.KLK_PORT_CREDIT.held : Field := ⟨216, 11⟩
def R.KLK_PORT_CREDIT.announced : Field := ⟨217, 11⟩

/-- KLK_ROUTE (R297). -/
def R.KLK_ROUTE : Nat := 83
def R.KLK_ROUTE.kind : Field := ⟨218, 2⟩
def R.KLK_ROUTE.pair : Field := ⟨219, 2⟩
def R.KLK_ROUTE.lost : Field := ⟨220, 1⟩

/-- TLY_STANDIN (R320). -/
def R.TLY_STANDIN : Nat := 84
def R.TLY_STANDIN.lost : Field := ⟨221, 14⟩
def R.TLY_STANDIN.standin : Field := ⟨222, 14⟩
def R.TLY_STANDIN.kind : Field := ⟨223, 2⟩
def R.TLY_STANDIN.valid : Field := ⟨224, 1⟩

/-- COX_ID (R412). -/
def R.COX_ID : Nat := 85
def R.COX_ID.engine : Field := ⟨225, 5⟩
def R.COX_ID.kind : Field := ⟨226, 2⟩
def R.COX_ID.loops_present : Field := ⟨227, 16⟩

/-- COX_CTRL (R412). -/
def R.COX_CTRL : Nat := 86
def R.COX_CTRL.engine_en : Field := ⟨228, 1⟩
def R.COX_CTRL.shed_en : Field := ⟨229, 1⟩
def R.COX_CTRL.ff_en : Field := ⟨230, 1⟩

/-- COX_STATUS (R412). -/
def R.COX_STATUS : Nat := 87
def R.COX_STATUS.running : Field := ⟨231, 1⟩
def R.COX_STATUS.inhibit : Field := ⟨232, 1⟩
def R.COX_STATUS.warn : Field := ⟨233, 1⟩
def R.COX_STATUS.drive : Field := ⟨234, 1⟩
def R.COX_STATUS.feather : Field := ⟨235, 1⟩
def R.COX_STATUS.bus_low : Field := ⟨236, 1⟩
def R.COX_STATUS.writer : Field := ⟨237, 1⟩
def R.COX_STATUS.self_check : Field := ⟨238, 1⟩

/-- COX_EVENTS (R412). -/
def R.COX_EVENTS : Nat := 88
def R.COX_EVENTS.warn_missing : Field := ⟨239, 1⟩
def R.COX_EVENTS.warn_expired : Field := ⟨240, 1⟩
def R.COX_EVENTS.shed_abort : Field := ⟨241, 1⟩
def R.COX_EVENTS.write_refused : Field := ⟨242, 1⟩
def R.COX_EVENTS.claim_refused : Field := ⟨243, 1⟩
def R.COX_EVENTS.self_check_mismatch : Field := ⟨244, 1⟩
def R.COX_EVENTS.loop_flags : Field := ⟨245, 16⟩

/-- COX_WARN_CFG (R412). -/
def R.COX_WARN_CFG : Nat := 89
def R.COX_WARN_CFG.warn_timeout_us : Field := ⟨246, 11⟩

/-- COX_CAP (R412). -/
def R.COX_CAP : Nat := 90
def R.COX_CAP.cap_w : Field := ⟨247, 14⟩
def R.COX_CAP.reached : Field := ⟨248, 1⟩

/-- COX_CLK_CEIL (R412). -/
def R.COX_CLK_CEIL : Nat := 91
def R.COX_CLK_CEIL.applied : Field := ⟨249, 9⟩
def R.COX_CLK_CEIL.force : Field := ⟨250, 9⟩

/-- COX_CLK_CFG (R412). -/
def R.COX_CLK_CFG : Nat := 92
def R.COX_CLK_CFG.bus_low_code : Field := ⟨251, 9⟩
def R.COX_CLK_CFG.frozen_code : Field := ⟨252, 9⟩
def R.COX_CLK_CFG.vf_order : Field := ⟨253, 1⟩

/-- COX_VF (R412). -/
def R.COX_VF : Nat := 93
def R.COX_VF.max_code : Field := ⟨254, 9⟩
def R.COX_VF.core_mv : Field := ⟨255, 11⟩
def R.COX_VF.valid : Field := ⟨256, 1⟩

/-- COX_LOOP_CFG (R413). -/
def R.COX_LOOP_CFG : Nat := 94
def R.COX_LOOP_CFG.present : Field := ⟨257, 1⟩
def R.COX_LOOP_CFG.kind : Field := ⟨258, 3⟩
def R.COX_LOOP_CFG.ff_en : Field := ⟨259, 1⟩
def R.COX_LOOP_CFG.sense_fallback : Field := ⟨260, 1⟩
def R.COX_LOOP_CFG.sup_sel : Field := ⟨261, 2⟩
def R.COX_LOOP_CFG.group : Field := ⟨262, 3⟩
def R.COX_LOOP_CFG.pg : Field := ⟨263, 4⟩

/-- COX_LOOP_MODE (R413). -/
def R.COX_LOOP_MODE : Nat := 95
def R.COX_LOOP_MODE.mode : Field := ⟨264, 2⟩
def R.COX_LOOP_MODE.state : Field := ⟨265, 3⟩

/-- COX_LOOP_REF (R413). -/
def R.COX_LOOP_REF : Nat := 96
def R.COX_LOOP_REF.ref : Field := ⟨266, 32⟩

/-- COX_LOOP_REF_STATIC (R413). -/
def R.COX_LOOP_REF_STATIC : Nat := 97
def R.COX_LOOP_REF_STATIC.ref : Field := ⟨267, 32⟩

/-- COX_LOOP_SCALE (R413). -/
def R.COX_LOOP_SCALE : Nat := 98
def R.COX_LOOP_SCALE.scale : Field := ⟨268, 32⟩

/-- COX_LOOP_MANUAL (R413). -/
def R.COX_LOOP_MANUAL : Nat := 99
def R.COX_LOOP_MANUAL.manual : Field := ⟨269, 32⟩

/-- COX_LOOP_OUT (R413). -/
def R.COX_LOOP_OUT : Nat := 100
def R.COX_LOOP_OUT.out : Field := ⟨270, 32⟩

/-- COX_LOOP_FB (R413). -/
def R.COX_LOOP_FB : Nat := 101
def R.COX_LOOP_FB.fb : Field := ⟨271, 32⟩

/-- COX_LOOP_INT (R413). -/
def R.COX_LOOP_INT : Nat := 102
def R.COX_LOOP_INT.integ : Field := ⟨272, 32⟩

/-- COX_LOOP_CLAMP_HI (R413). -/
def R.COX_LOOP_CLAMP_HI : Nat := 103
def R.COX_LOOP_CLAMP_HI.hi : Field := ⟨273, 32⟩

/-- COX_LOOP_CLAMP_LO (R413). -/
def R.COX_LOOP_CLAMP_LO : Nat := 104
def R.COX_LOOP_CLAMP_LO.lo : Field := ⟨274, 32⟩

/-- COX_LOOP_INT_HI (R413). -/
def R.COX_LOOP_INT_HI : Nat := 105
def R.COX_LOOP_INT_HI.int_hi : Field := ⟨275, 32⟩

/-- COX_LOOP_INT_LO (R413). -/
def R.COX_LOOP_INT_LO : Nat := 106
def R.COX_LOOP_INT_LO.int_lo : Field := ⟨276, 32⟩

/-- COX_LOOP_EXP (R413). -/
def R.COX_LOOP_EXP : Nat := 107
def R.COX_LOOP_EXP.exp_err : Field := ⟨277, 8⟩
def R.COX_LOOP_EXP.exp_int : Field := ⟨278, 8⟩
def R.COX_LOOP_EXP.exp_der : Field := ⟨279, 8⟩
def R.COX_LOOP_EXP.exp_out : Field := ⟨280, 8⟩

/-- COX_LOOP_FF (R413). -/
def R.COX_LOOP_FF : Nat := 108
def R.COX_LOOP_FF.ff : Field := ⟨281, 32⟩

/-- COX_FF_DRIVE (R413). -/
def R.COX_FF_DRIVE : Nat := 109
def R.COX_FF_DRIVE.ff_drive : Field := ⟨282, 32⟩

/-- COX_FF_FEATHER (R413). -/
def R.COX_FF_FEATHER : Nat := 110
def R.COX_FF_FEATHER.ff_feather : Field := ⟨283, 32⟩

/-- COX_FF_CFG (R413). -/
def R.COX_FF_CFG : Nat := 111
def R.COX_FF_CFG.ramp : Field := ⟨284, 8⟩

/-- COX_BAND_LOAD_0 (R413). -/
def R.COX_BAND_LOAD_0 : Nat := 112
def R.COX_BAND_LOAD_0.threshold : Field := ⟨285, 32⟩

/-- COX_BAND_LOAD_1 (R413). -/
def R.COX_BAND_LOAD_1 : Nat := 113
def R.COX_BAND_LOAD_1.threshold : Field := ⟨286, 32⟩

/-- COX_BAND_LOAD_2 (R413). -/
def R.COX_BAND_LOAD_2 : Nat := 114
def R.COX_BAND_LOAD_2.threshold : Field := ⟨287, 32⟩

/-- COX_BAND_IN_0 (R413). -/
def R.COX_BAND_IN_0 : Nat := 115
def R.COX_BAND_IN_0.threshold : Field := ⟨288, 32⟩

/-- COX_BAND_IN_1 (R413). -/
def R.COX_BAND_IN_1 : Nat := 116
def R.COX_BAND_IN_1.threshold : Field := ⟨289, 32⟩

/-- COX_BAND_IN_2 (R413). -/
def R.COX_BAND_IN_2 : Nat := 117
def R.COX_BAND_IN_2.threshold : Field := ⟨290, 32⟩

/-- COX_BAND_HYST (R413). -/
def R.COX_BAND_HYST : Nat := 118
def R.COX_BAND_HYST.load_hyst : Field := ⟨291, 8⟩
def R.COX_BAND_HYST.in_hyst : Field := ⟨292, 8⟩

/-- COX_REGION (R413). -/
def R.COX_REGION : Nat := 119
def R.COX_REGION.region : Field := ⟨293, 4⟩

/-- COX_LOOP_FLAGS (R413). -/
def R.COX_LOOP_FLAGS : Nat := 120
def R.COX_LOOP_FLAGS.sat_err : Field := ⟨294, 1⟩
def R.COX_LOOP_FLAGS.sat_int : Field := ⟨295, 1⟩
def R.COX_LOOP_FLAGS.sat_der : Field := ⟨296, 1⟩
def R.COX_LOOP_FLAGS.sat_out : Field := ⟨297, 1⟩
def R.COX_LOOP_FLAGS.clamp_hi : Field := ⟨298, 1⟩
def R.COX_LOOP_FLAGS.clamp_lo : Field := ⟨299, 1⟩
def R.COX_LOOP_FLAGS.frozen : Field := ⟨300, 1⟩
def R.COX_LOOP_FLAGS.fallback_sense : Field := ⟨301, 1⟩
def R.COX_LOOP_FLAGS.sat_time : Field := ⟨302, 1⟩
def R.COX_LOOP_FLAGS.plaus : Field := ⟨303, 1⟩
def R.COX_LOOP_FLAGS.handover_clamp : Field := ⟨304, 1⟩
def R.COX_LOOP_FLAGS.softstart_abort : Field := ⟨305, 1⟩
def R.COX_LOOP_FLAGS.delay_over : Field := ⟨306, 1⟩
def R.COX_LOOP_FLAGS.shed_abort : Field := ⟨307, 1⟩

/-- COX_LOOP_DELAY (R413). -/
def R.COX_LOOP_DELAY : Nat := 121
def R.COX_LOOP_DELAY.last : Field := ⟨308, 10⟩
def R.COX_LOOP_DELAY.min : Field := ⟨309, 10⟩
def R.COX_LOOP_DELAY.max : Field := ⟨310, 10⟩

/-- COX_SUP_CFG (R413). -/
def R.COX_SUP_CFG : Nat := 122
def R.COX_SUP_CFG.sat_time : Field := ⟨311, 16⟩
def R.COX_SUP_CFG.action : Field := ⟨312, 2⟩

/-- COX_SUP_CFG2 (R413). -/
def R.COX_SUP_CFG2 : Nat := 123
def R.COX_SUP_CFG2.plaus_time : Field := ⟨313, 16⟩
def R.COX_SUP_CFG2.frozen_hold : Field := ⟨314, 16⟩

/-- COX_PLAUS_THR (R413). -/
def R.COX_PLAUS_THR : Nat := 124
def R.COX_PLAUS_THR.thr : Field := ⟨315, 32⟩

/-- COX_PLAUS_RES (R413). -/
def R.COX_PLAUS_RES : Nat := 125
def R.COX_PLAUS_RES.res : Field := ⟨316, 32⟩

/-- COX_SOFT_ILIM (R413). -/
def R.COX_SOFT_ILIM : Nat := 126
def R.COX_SOFT_ILIM.ilim : Field := ⟨317, 32⟩

/-- COX_SUP_STATUS (R413). -/
def R.COX_SUP_STATUS : Nat := 127
def R.COX_SUP_STATUS.sat_count : Field := ⟨318, 16⟩
def R.COX_SUP_STATUS.plaus_count : Field := ⟨319, 16⟩

/-- COX_LOOP_SLEW (R413). -/
def R.COX_LOOP_SLEW : Nat := 128
def R.COX_LOOP_SLEW.slew : Field := ⟨320, 32⟩

/-- COX_LOOP_RPATH (R413). -/
def R.COX_LOOP_RPATH : Nat := 129
def R.COX_LOOP_RPATH.rpath : Field := ⟨321, 32⟩

/-- COX_GAIN_KP (R414). -/
def R.COX_GAIN_KP : Nat := 130
def R.COX_GAIN_KP.kp : Field := ⟨322, 32⟩

/-- COX_GAIN_KI (R414). -/
def R.COX_GAIN_KI : Nat := 131
def R.COX_GAIN_KI.ki : Field := ⟨323, 32⟩

/-- COX_GAIN_KD (R414). -/
def R.COX_GAIN_KD : Nat := 132
def R.COX_GAIN_KD.kd : Field := ⟨324, 32⟩

/-- COX_GAIN_DF (R414). -/
def R.COX_GAIN_DF : Nat := 133
def R.COX_GAIN_DF.df : Field := ⟨325, 32⟩

/-- COX_MODEL_A (R414). -/
def R.COX_MODEL_A : Nat := 134
def R.COX_MODEL_A.a : Field := ⟨326, 32⟩

/-- COX_MODEL_B (R414). -/
def R.COX_MODEL_B : Nat := 135
def R.COX_MODEL_B.b : Field := ⟨327, 32⟩

/-- COX_MODEL_C (R414). -/
def R.COX_MODEL_C : Nat := 136
def R.COX_MODEL_C.c : Field := ⟨328, 32⟩

/-- COX_PG_TARGET (R415). -/
def R.COX_PG_TARGET : Nat := 137
def R.COX_PG_TARGET.target : Field := ⟨329, 32⟩

/-- COX_PG_VLIM (R415). -/
def R.COX_PG_VLIM : Nat := 138
def R.COX_PG_VLIM.v : Field := ⟨330, 32⟩

/-- COX_PG_ALIM (R415). -/
def R.COX_PG_ALIM : Nat := 139
def R.COX_PG_ALIM.a : Field := ⟨331, 32⟩

/-- COX_PG_JLIM (R415). -/
def R.COX_PG_JLIM : Nat := 140
def R.COX_PG_JLIM.j : Field := ⟨332, 32⟩

/-- COX_PG_POS (R415). -/
def R.COX_PG_POS : Nat := 141
def R.COX_PG_POS.x : Field := ⟨333, 32⟩

/-- COX_PG_VEL (R415). -/
def R.COX_PG_VEL : Nat := 142
def R.COX_PG_VEL.v : Field := ⟨334, 32⟩

/-- COX_PG_ACC (R415). -/
def R.COX_PG_ACC : Nat := 143
def R.COX_PG_ACC.a : Field := ⟨335, 32⟩

/-- COX_PG_CTRL (R415). -/
def R.COX_PG_CTRL : Nat := 144
def R.COX_PG_CTRL.owner : Field := ⟨336, 3⟩
def R.COX_PG_CTRL.preset : Field := ⟨337, 1⟩
def R.COX_PG_CTRL.hold : Field := ⟨338, 1⟩
def R.COX_PG_CTRL.moving : Field := ⟨339, 1⟩
def R.COX_PG_CTRL.done : Field := ⟨340, 1⟩
def R.COX_PG_CTRL.tick_us : Field := ⟨341, 16⟩

/-- COX_PG_PRESET (R415). -/
def R.COX_PG_PRESET : Nat := 145
def R.COX_PG_PRESET.preset : Field := ⟨342, 32⟩

/-- COX_SHED_CFG (R416). -/
def R.COX_SHED_CFG : Nat := 146
def R.COX_SHED_CFG.min_phases : Field := ⟨343, 4⟩
def R.COX_SHED_CFG.holdoff_us : Field := ⟨344, 12⟩
def R.COX_SHED_CFG.en : Field := ⟨345, 1⟩

/-- COX_SHED_THR (R416). -/
def R.COX_SHED_THR : Nat := 147
def R.COX_SHED_THR.shed_pct : Field := ⟨346, 8⟩
def R.COX_SHED_THR.add_pct : Field := ⟨347, 8⟩
def R.COX_SHED_THR.step_mv : Field := ⟨348, 8⟩
def R.COX_SHED_THR.step_pct : Field := ⟨349, 8⟩

/-- COX_SHED_DWELL (R416). -/
def R.COX_SHED_DWELL : Nat := 148
def R.COX_SHED_DWELL.dwell_us : Field := ⟨350, 16⟩

/-- COX_SHED_STATUS (R416). -/
def R.COX_SHED_STATUS : Nat := 149
def R.COX_SHED_STATUS.running : Field := ⟨351, 12⟩
def R.COX_SHED_STATUS.count : Field := ⟨352, 4⟩
def R.COX_SHED_STATUS.inhibited : Field := ⟨353, 1⟩
def R.COX_SHED_STATUS.shedding : Field := ⟨354, 1⟩

/-- COX_SHED_COUNT (R416). -/
def R.COX_SHED_COUNT : Nat := 150
def R.COX_SHED_COUNT.sheds : Field := ⟨355, 16⟩
def R.COX_SHED_COUNT.aborts : Field := ⟨356, 16⟩

/-- COX_TLM_ID (R417). -/
def R.COX_TLM_ID : Nat := 151
def R.COX_TLM_ID.quantity : Field := ⟨357, 2⟩
def R.COX_TLM_ID.present : Field := ⟨358, 1⟩

/-- COX_TLM_AVG1MS (R417). -/
def R.COX_TLM_AVG1MS : Nat := 152
def R.COX_TLM_AVG1MS.avg : Field := ⟨359, 32⟩

/-- COX_TLM_AVG100MS (R417). -/
def R.COX_TLM_AVG100MS : Nat := 153
def R.COX_TLM_AVG100MS.avg : Field := ⟨360, 32⟩

/-- COX_TLM_AVG1S (R417). -/
def R.COX_TLM_AVG1S : Nat := 154
def R.COX_TLM_AVG1S.avg : Field := ⟨361, 32⟩

/-- COX_TLM_MIN (R417). -/
def R.COX_TLM_MIN : Nat := 155
def R.COX_TLM_MIN.min : Field := ⟨362, 32⟩

/-- COX_TLM_MAX (R417). -/
def R.COX_TLM_MAX : Nat := 156
def R.COX_TLM_MAX.max : Field := ⟨363, 32⟩

/-- COX_TLM_LAST (R417). -/
def R.COX_TLM_LAST : Nat := 157
def R.COX_TLM_LAST.last : Field := ⟨364, 32⟩

/-- LDG_STATUS (R451). -/
def R.LDG_STATUS : Nat := 158
def R.LDG_STATUS.decision : Field := ⟨365, 2⟩
def R.LDG_STATUS.at_reserve : Field := ⟨366, 1⟩
def R.LDG_STATUS.forced : Field := ⟨367, 1⟩
def R.LDG_STATUS.cap_active : Field := ⟨368, 1⟩
def R.LDG_STATUS.surplus : Field := ⟨369, 1⟩
def R.LDG_STATUS.absent : Field := ⟨370, 1⟩
def R.LDG_STATUS.stale_sweep : Field := ⟨371, 1⟩
def R.LDG_STATUS.stage_limit : Field := ⟨372, 1⟩
def R.LDG_STATUS.trim_steering : Field := ⟨373, 1⟩
def R.LDG_STATUS.point : Field := ⟨374, 3⟩
def R.LDG_STATUS.window_lapses : Field := ⟨375, 16⟩

/-- LDG_E0 (R451). -/
def R.LDG_E0 : Nat := 159
def R.LDG_E0.e0_mj : Field := ⟨376, 48⟩

/-- LDG_EROOM (R451). -/
def R.LDG_EROOM : Nat := 160
def R.LDG_EROOM.eroom_mj : Field := ⟨377, 48⟩

/-- LDG_ECAP (R451). -/
def R.LDG_ECAP : Nat := 161
def R.LDG_ECAP.ecap_mj : Field := ⟨378, 48⟩

/-- LDG_RESERVE (R451). -/
def R.LDG_RESERVE : Nat := 162
def R.LDG_RESERVE.reserve_mj : Field := ⟨379, 32⟩

/-- LDG_ENVELOPE (R451). -/
def R.LDG_ENVELOPE : Nat := 163
def R.LDG_ENVELOPE.level_max_w : Field := ⟨380, 14⟩

/-- LDG_LIMITS (R451). -/
def R.LDG_LIMITS : Nat := 164
def R.LDG_LIMITS.v_lim : Field := ⟨381, 11⟩
def R.LDG_LIMITS.a_lim : Field := ⟨382, 10⟩
def R.LDG_LIMITS.j_lim : Field := ⟨383, 10⟩

/-- LDG_LEVEL (R451). -/
def R.LDG_LEVEL : Nat := 165
def R.LDG_LEVEL.level_w : Field := ⟨384, 14⟩
def R.LDG_LEVEL.trim_pct : Field := ⟨385, 7⟩

/-- LDG_CFG (R451). -/
def R.LDG_CFG : Nat := 166
def R.LDG_CFG.horizon_ms : Field := ⟨386, 12⟩
def R.LDG_CFG.trim_tau_s : Field := ⟨387, 8⟩
def R.LDG_CFG.band_kj : Field := ⟨388, 5⟩
def R.LDG_CFG.margin_kj : Field := ⟨389, 5⟩

/-- LDG_CFG2 (R451). -/
def R.LDG_CFG2 : Nat := 167
def R.LDG_CFG2.stop_kj : Field := ⟨390, 5⟩
def R.LDG_CFG2.full_margin_kj : Field := ⟨391, 5⟩
def R.LDG_CFG2.period_step_us : Field := ⟨392, 14⟩

/-- LDG_CFG3 (R451). -/
def R.LDG_CFG3 : Nat := 168
def R.LDG_CFG3.eta_in : Field := ⟨393, 10⟩
def R.LDG_CFG3.eta_port : Field := ⟨394, 10⟩
def R.LDG_CFG3.port_w : Field := ⟨395, 12⟩

/-- LDG_REQUEST (R451). -/
def R.LDG_REQUEST : Nat := 169
def R.LDG_REQUEST.period_us : Field := ⟨396, 31⟩
def R.LDG_REQUEST.fresh : Field := ⟨397, 1⟩

/-- LDG_START_DELAY (R451). -/
def R.LDG_START_DELAY : Nat := 170
def R.LDG_START_DELAY.start_delay_us : Field := ⟨398, 32⟩

/-- LDG_HEADROOM (R451). -/
def R.LDG_HEADROOM : Nat := 171
def R.LDG_HEADROOM.headroom_mj : Field := ⟨399, 32⟩

/-- LDG_LEVEL_WANTED (R451). -/
def R.LDG_LEVEL_WANTED : Nat := 172
def R.LDG_LEVEL_WANTED.level_w : Field := ⟨400, 14⟩

/-- LDG_FLOOR (R451). -/
def R.LDG_FLOOR : Nat := 173
def R.LDG_FLOOR.floor_w : Field := ⟨401, 14⟩

/-- LDG_TELEGRAM (R451). -/
def R.LDG_TELEGRAM : Nat := 174
def R.LDG_TELEGRAM.stale : Field := ⟨402, 16⟩

/-- LDG_DRIFT (R451). -/
def R.LDG_DRIFT : Nat := 175
def R.LDG_DRIFT.drift_mj : Field := ⟨403, 32⟩

/-- LDG_ACC_IN (R451). -/
def R.LDG_ACC_IN : Nat := 176
def R.LDG_ACC_IN.uj : Field := ⟨404, 64⟩

/-- LDG_ACC_PACK_DIS (R451). -/
def R.LDG_ACC_PACK_DIS : Nat := 177
def R.LDG_ACC_PACK_DIS.uj : Field := ⟨405, 64⟩

/-- LDG_ACC_PACK_CHG (R451). -/
def R.LDG_ACC_PACK_CHG : Nat := 178
def R.LDG_ACC_PACK_CHG.uj : Field := ⟨406, 64⟩

/-- LDG_ACC_DRIVE (R451). -/
def R.LDG_ACC_DRIVE : Nat := 179
def R.LDG_ACC_DRIVE.uj : Field := ⟨407, 64⟩

/-- LDG_ACC_FEATHER (R451). -/
def R.LDG_ACC_FEATHER : Nat := 180
def R.LDG_ACC_FEATHER.uj : Field := ⟨408, 64⟩

/-- STP_CTRL (R452). -/
def R.STP_CTRL : Nat := 181
def R.STP_CTRL.close : Field := ⟨409, 1⟩
def R.STP_CTRL.port_en : Field := ⟨410, 1⟩
def R.STP_CTRL.discharge_cap : Field := ⟨411, 1⟩

/-- STP_STATUS (R452). -/
def R.STP_STATUS : Nat := 182
def R.STP_STATUS.aux_pos : Field := ⟨412, 1⟩
def R.STP_STATUS.aux_neg : Field := ⟨413, 1⟩
def R.STP_STATUS.state : Field := ⟨414, 3⟩
def R.STP_STATUS.chg_limit : Field := ⟨415, 1⟩
def R.STP_STATUS.dis_limit : Field := ⟨416, 1⟩
def R.STP_STATUS.pack_fault : Field := ⟨417, 1⟩

/-- STP_PACK_V (R452). -/
def R.STP_PACK_V : Nat := 183
def R.STP_PACK_V.mv : Field := ⟨418, 18⟩

/-- STP_PACK_I (R452). -/
def R.STP_PACK_I : Nat := 184
def R.STP_PACK_I.ma : Field := ⟨419, 32⟩

/-- STP_BUS_P (R452). -/
def R.STP_BUS_P : Nat := 185
def R.STP_BUS_P.mw : Field := ⟨420, 32⟩

/-- STP_BREAKS (R452). -/
def R.STP_BREAKS : Nat := 186
def R.STP_BREAKS.breaks : Field := ⟨421, 8⟩

/-- STP_INSULATION (R452). -/
def R.STP_INSULATION : Nat := 187
def R.STP_INSULATION.kohm : Field := ⟨422, 16⟩

/-- STP_TEMP (R452). -/
def R.STP_TEMP : Nat := 188
def R.STP_TEMP.centi_c : Field := ⟨423, 16⟩

/-- CMN_CTRL (R485). -/
def R.CMN_CTRL : Nat := 189
def R.CMN_CTRL.sweep_en : Field := ⟨424, 1⟩
def R.CMN_CTRL.period_ms : Field := ⟨425, 7⟩
def R.CMN_CTRL.enumerate : Field := ⟨426, 1⟩

/-- CMN_RING_STATUS (R485). -/
def R.CMN_RING_STATUS : Nat := 190
def R.CMN_RING_STATUS.mode : Field := ⟨427, 2⟩
def R.CMN_RING_STATUS.break_seg : Field := ⟨428, 3⟩
def R.CMN_RING_STATUS.reach_f : Field := ⟨429, 4⟩
def R.CMN_RING_STATUS.reach_r : Field := ⟨430, 4⟩
def R.CMN_RING_STATUS.addr_ok : Field := ⟨431, 1⟩

/-- CMN_SWEEP_STATUS (R485). -/
def R.CMN_SWEEP_STATUS : Nat := 191
def R.CMN_SWEEP_STATUS.sweep : Field := ⟨432, 16⟩
def R.CMN_SWEEP_STATUS.valid : Field := ⟨433, 1⟩
def R.CMN_SWEEP_STATUS.stale : Field := ⟨434, 1⟩
def R.CMN_SWEEP_STATUS.skewed : Field := ⟨435, 1⟩
def R.CMN_SWEEP_STATUS.duration : Field := ⟨436, 12⟩

/-- CMN_SWEEP_SKEW (R485). -/
def R.CMN_SWEEP_SKEW : Nat := 192
def R.CMN_SWEEP_SKEW.skew_0 : Field := ⟨437, 8⟩
def R.CMN_SWEEP_SKEW.skew_1 : Field := ⟨438, 8⟩
def R.CMN_SWEEP_SKEW.skew_2 : Field := ⟨439, 8⟩
def R.CMN_SWEEP_SKEW.skew_3 : Field := ⟨440, 8⟩

/-- CMN_CELL_V (R485). -/
def R.CMN_CELL_V : Nat := 193
def R.CMN_CELL_V.v : Field := ⟨441, 16⟩
def R.CMN_CELL_V.v_raw : Field := ⟨442, 16⟩

/-- CMN_TEMP (R485). -/
def R.CMN_TEMP : Nat := 194
def R.CMN_TEMP.t : Field := ⟨443, 16⟩
def R.CMN_TEMP.fault : Field := ⟨444, 1⟩

/-- CMN_MON (R485). -/
def R.CMN_MON : Nat := 195
def R.CMN_MON.die_c : Field := ⟨445, 8⟩
def R.CMN_MON.bleed_on : Field := ⟨446, 8⟩
def R.CMN_MON.self_check_ok : Field := ⟨447, 1⟩
def R.CMN_MON.via_reverse : Field := ⟨448, 1⟩
def R.CMN_MON.alert : Field := ⟨449, 1⟩
def R.CMN_MON.strap : Field := ⟨450, 2⟩

/-- CMN_PACK (R485). -/
def R.CMN_PACK : Nat := 196
def R.CMN_PACK.sum_mv : Field := ⟨451, 18⟩

/-- CMN_PACK_I (R485). -/
def R.CMN_PACK_I : Nat := 197
def R.CMN_PACK_I.ma : Field := ⟨452, 32⟩

/-- CMN_EXTREMES (R485). -/
def R.CMN_EXTREMES : Nat := 198
def R.CMN_EXTREMES.max_cell : Field := ⟨453, 5⟩
def R.CMN_EXTREMES.min_cell : Field := ⟨454, 5⟩
def R.CMN_EXTREMES.spread : Field := ⟨455, 16⟩

/-- CMN_LIMITS (R485). -/
def R.CMN_LIMITS : Nat := 199
def R.CMN_LIMITS.chg_stop : Field := ⟨456, 1⟩
def R.CMN_LIMITS.dis_stop : Field := ⟨457, 1⟩
def R.CMN_LIMITS.stale_inhibit : Field := ⟨458, 1⟩

/-- CMN_BAL_POLICY (R485). -/
def R.CMN_BAL_POLICY : Nat := 200
def R.CMN_BAL_POLICY.mode : Field := ⟨459, 2⟩
def R.CMN_BAL_POLICY.threshold_mv : Field := ⟨460, 8⟩
def R.CMN_BAL_POLICY.hyst_mv : Field := ⟨461, 4⟩
def R.CMN_BAL_POLICY.min_mv : Field := ⟨462, 12⟩
def R.CMN_BAL_POLICY.temp_max_c : Field := ⟨463, 6⟩

/-- CMN_BAL_MASK (R485). -/
def R.CMN_BAL_MASK : Nat := 201
def R.CMN_BAL_MASK.mask : Field := ⟨464, 32⟩

/-- CMN_BAL_FAULT (R485). -/
def R.CMN_BAL_FAULT : Nat := 202
def R.CMN_BAL_FAULT.stuck : Field := ⟨465, 32⟩

/-- CMN_TRIP_CFG0 (R485). -/
def R.CMN_TRIP_CFG0 : Nat := 203
def R.CMN_TRIP_CFG0.cell_ov_mv : Field := ⟨466, 12⟩
def R.CMN_TRIP_CFG0.cell_uv_mv : Field := ⟨467, 12⟩

/-- CMN_TRIP_CFG1 (R485). -/
def R.CMN_TRIP_CFG1 : Nat := 204
def R.CMN_TRIP_CFG1.cell_ot_c : Field := ⟨468, 8⟩
def R.CMN_TRIP_CFG1.cell_ut_c : Field := ⟨469, 8⟩
def R.CMN_TRIP_CFG1.spread_mv : Field := ⟨470, 8⟩

/-- CMN_TRIP_STATUS (R485). -/
def R.CMN_TRIP_STATUS : Nat := 205
def R.CMN_TRIP_STATUS.tripped : Field := ⟨471, 9⟩
def R.CMN_TRIP_STATUS.item : Field := ⟨472, 5⟩

/-- CMN_FRAME_ERR (R485). -/
def R.CMN_FRAME_ERR : Nat := 206
def R.CMN_FRAME_ERR.crc : Field := ⟨473, 8⟩
def R.CMN_FRAME_ERR.repeats : Field := ⟨474, 8⟩
def R.CMN_FRAME_ERR.skip : Field := ⟨475, 8⟩
def R.CMN_FRAME_ERR.backward : Field := ⟨476, 8⟩

/-- CMN_FRAME_ERR2 (R485). -/
def R.CMN_FRAME_ERR2 : Nat := 207
def R.CMN_FRAME_ERR2.timeout : Field := ⟨477, 8⟩
def R.CMN_FRAME_ERR2.breaks : Field := ⟨478, 8⟩
def R.CMN_FRAME_ERR2.reverse_converts : Field := ⟨479, 8⟩

/-- CMN_RCELL (R485). -/
def R.CMN_RCELL : Nat := 208
def R.CMN_RCELL.r_uohm : Field := ⟨480, 16⟩

/-- GBL_ID (R516). -/
def R.GBL_ID : Nat := 209
def R.GBL_ID.part : Field := ⟨481, 16⟩
def R.GBL_ID.silicon_step : Field := ⟨482, 8⟩
def R.GBL_ID.board_step : Field := ⟨483, 8⟩

/-- GBL_SERIAL (R516). -/
def R.GBL_SERIAL : Nat := 210
def R.GBL_SERIAL.serial : Field := ⟨484, 64⟩

/-- GBL_FW (R516). -/
def R.GBL_FW : Nat := 211
def R.GBL_FW.build : Field := ⟨485, 16⟩
def R.GBL_FW.minor : Field := ⟨486, 8⟩
def R.GBL_FW.major : Field := ⟨487, 7⟩
def R.GBL_FW.slot : Field := ⟨488, 1⟩

/-- GBL_LEVELS (R516). -/
def R.GBL_LEVELS : Nat := 212
def R.GBL_LEVELS.plan_level_max : Field := ⟨489, 4⟩
def R.GBL_LEVELS.korrel_level_min : Field := ⟨490, 4⟩
def R.GBL_LEVELS.korrel_level_max : Field := ⟨491, 4⟩
def R.GBL_LEVELS.telegram_level_max : Field := ⟨492, 4⟩

/-- GBL_STATUS (R516). -/
def R.GBL_STATUS : Nat := 213
def R.GBL_STATUS.power_state : Field := ⟨493, 4⟩
def R.GBL_STATUS.run_state : Field := ⟨494, 3⟩
def R.GBL_STATUS.joined : Field := ⟨495, 1⟩
def R.GBL_STATUS.seat : Field := ⟨496, 1⟩
def R.GBL_STATUS.paired : Field := ⟨497, 1⟩
def R.GBL_STATUS.shepherd : Field := ⟨498, 1⟩
def R.GBL_STATUS.protected : Field := ⟨499, 1⟩
def R.GBL_STATUS.draining : Field := ⟨500, 1⟩
def R.GBL_STATUS.pull_ready : Field := ⟨501, 1⟩
def R.GBL_STATUS.cap_active : Field := ⟨502, 1⟩
def R.GBL_STATUS.degraded : Field := ⟨503, 1⟩

/-- GBL_SLOT (R516). -/
def R.GBL_SLOT : Nat := 214
def R.GBL_SLOT.slot : Field := ⟨504, 3⟩
def R.GBL_SLOT.present : Field := ⟨505, 1⟩

/-- GBL_MODULE (R516). -/
def R.GBL_MODULE : Nat := 215
def R.GBL_MODULE.index : Field := ⟨506, 14⟩
def R.GBL_MODULE.valid : Field := ⟨507, 1⟩

/-- GBL_PCIE (R516). -/
def R.GBL_PCIE : Nat := 216
def R.GBL_PCIE.rate : Field := ⟨508, 3⟩
def R.GBL_PCIE.width : Field := ⟨509, 5⟩
def R.GBL_PCIE.no_flit : Field := ⟨510, 1⟩

/-- GBL_CLAIM_AUX (R516). -/
def R.GBL_CLAIM_AUX : Nat := 217
def R.GBL_CLAIM_AUX.holder : Field := ⟨511, 2⟩

/-- GBL_BUF_CLAIM (R516). -/
def R.GBL_BUF_CLAIM : Nat := 218
def R.GBL_BUF_CLAIM.trace_units : Field := ⟨512, 4⟩
def R.GBL_BUF_CLAIM.sample_units : Field := ⟨513, 4⟩
def R.GBL_BUF_CLAIM.trace_timers : Field := ⟨514, 4⟩
def R.GBL_BUF_CLAIM.sample_timers : Field := ⟨515, 4⟩

/-- GBL_SCRATCH (R516). -/
def R.GBL_SCRATCH : Nat := 219
def R.GBL_SCRATCH.scratch : Field := ⟨516, 32⟩

/-- MBX_DOORBELL (R517). -/
def R.MBX_DOORBELL : Nat := 220
def R.MBX_DOORBELL.ring : Field := ⟨517, 1⟩

/-- MBX_STATUS (R517). -/
def R.MBX_STATUS : Nat := 221
def R.MBX_STATUS.state : Field := ⟨518, 2⟩
def R.MBX_STATUS.overrun : Field := ⟨519, 1⟩
def R.MBX_STATUS.skipped : Field := ⟨520, 16⟩

/-- MBX_ALIVE (R517). -/
def R.MBX_ALIVE : Nat := 222
def R.MBX_ALIVE.last : Field := ⟨521, 16⟩
def R.MBX_ALIVE.seen : Field := ⟨522, 1⟩

/-- MBX_TIME (R517). -/
def R.MBX_TIME : Nat := 223
def R.MBX_TIME.last_us : Field := ⟨523, 32⟩

/-- IRQ_CAUSE (R518). -/
def R.IRQ_CAUSE : Nat := 224
def R.IRQ_CAUSE.cause : Field := ⟨524, 30⟩

/-- IRQ_MASK (R518). -/
def R.IRQ_MASK : Nat := 225
def R.IRQ_MASK.mask : Field := ⟨525, 30⟩

/-- IRQ_TEST (R518). -/
def R.IRQ_TEST : Nat := 226
def R.IRQ_TEST.set : Field := ⟨526, 30⟩

/-- SHP_STATUS (R519). -/
def R.SHP_STATUS : Nat := 227
def R.SHP_STATUS.active : Field := ⟨527, 1⟩
def R.SHP_STATUS.a_state : Field := ⟨528, 3⟩
def R.SHP_STATUS.b_state : Field := ⟨529, 3⟩
def R.SHP_STATUS.protected : Field := ⟨530, 1⟩
def R.SHP_STATUS.handback_pending : Field := ⟨531, 1⟩
def R.SHP_STATUS.no_shepherd : Field := ⟨532, 1⟩

/-- SHP_EVENTS (R519). -/
def R.SHP_EVENTS : Nat := 228
def R.SHP_EVENTS.takeover : Field := ⟨533, 1⟩
def R.SHP_EVENTS.handback : Field := ⟨534, 1⟩
def R.SHP_EVENTS.a_failed : Field := ⟨535, 1⟩
def R.SHP_EVENTS.b_failed : Field := ⟨536, 1⟩
def R.SHP_EVENTS.journal_busy : Field := ⟨537, 1⟩
def R.SHP_EVENTS.isolated : Field := ⟨538, 1⟩

/-- SHP_COUNTS (R519). -/
def R.SHP_COUNTS : Nat := 229
def R.SHP_COUNTS.takeovers : Field := ⟨539, 8⟩
def R.SHP_COUNTS.handbacks : Field := ⟨540, 8⟩
def R.SHP_COUNTS.restarts : Field := ⟨541, 8⟩
def R.SHP_COUNTS.alive_errors : Field := ⟨542, 8⟩

/-- SHP_LAST_TAKEOVER (R519). -/
def R.SHP_LAST_TAKEOVER : Nat := 230
def R.SHP_LAST_TAKEOVER.op_ms : Field := ⟨543, 40⟩
def R.SHP_LAST_TAKEOVER.cause : Field := ⟨544, 8⟩
def R.SHP_LAST_TAKEOVER.takeover_us : Field := ⟨545, 16⟩

/-- SHP_SYNCAUX (R519). -/
def R.SHP_SYNCAUX : Nat := 231
def R.SHP_SYNCAUX.mode : Field := ⟨546, 2⟩
def R.SHP_SYNCAUX.missed : Field := ⟨547, 8⟩

/-- SHP_SYNCAUX_TS (R519). -/
def R.SHP_SYNCAUX_TS : Nat := 232
def R.SHP_SYNCAUX_TS.ns : Field := ⟨548, 64⟩

/-- SHP_TRUST (R580). -/
def R.SHP_TRUST : Nat := 233
def R.SHP_TRUST.provider_key : Field := ⟨549, 1⟩
def R.SHP_TRUST.tenant_key : Field := ⟨550, 1⟩
def R.SHP_TRUST.debug_level : Field := ⟨551, 2⟩
def R.SHP_TRUST.provider_nonces : Field := ⟨552, 4⟩
def R.SHP_TRUST.tenant_nonces : Field := ⟨553, 4⟩

/-- SHP_FW_SLOTS (R580). -/
def R.SHP_FW_SLOTS : Nat := 234
def R.SHP_FW_SLOTS.running_slot : Field := ⟨554, 1⟩
def R.SHP_FW_SLOTS.trial : Field := ⟨555, 1⟩
def R.SHP_FW_SLOTS.trial_slot : Field := ⟨556, 1⟩
def R.SHP_FW_SLOTS.other_valid : Field := ⟨557, 1⟩
def R.SHP_FW_SLOTS.trial_resets : Field := ⟨558, 2⟩
def R.SHP_FW_SLOTS.svn_min : Field := ⟨559, 16⟩

/-- LGB_CTRL (R597). -/
def R.LGB_CTRL : Nat := 235
def R.LGB_CTRL.area : Field := ⟨560, 2⟩
def R.LGB_CTRL.load : Field := ⟨561, 1⟩
def R.LGB_CTRL.advance : Field := ⟨562, 1⟩
def R.LGB_CTRL.follow : Field := ⟨563, 1⟩

/-- LGB_CURSOR (R597). -/
def R.LGB_CURSOR : Nat := 236
def R.LGB_CURSOR.seq : Field := ⟨564, 64⟩

/-- LGB_WIN_STATUS (R597). -/
def R.LGB_WIN_STATUS : Nat := 237
def R.LGB_WIN_STATUS.state : Field := ⟨565, 2⟩
def R.LGB_WIN_STATUS.atEnd : Field := ⟨566, 1⟩
def R.LGB_WIN_STATUS.skipped : Field := ⟨567, 1⟩
def R.LGB_WIN_STATUS.count : Field := ⟨568, 8⟩
def R.LGB_WIN_STATUS.bytes : Field := ⟨569, 13⟩

/-- LGB_FIRST_OLDEST (R597). -/
def R.LGB_FIRST_OLDEST : Nat := 238
def R.LGB_FIRST_OLDEST.seq : Field := ⟨570, 64⟩

/-- LGB_FIRST_NEWEST (R597). -/
def R.LGB_FIRST_NEWEST : Nat := 239
def R.LGB_FIRST_NEWEST.seq : Field := ⟨571, 64⟩

/-- LGB_LAST_OLDEST (R597). -/
def R.LGB_LAST_OLDEST : Nat := 240
def R.LGB_LAST_OLDEST.seq : Field := ⟨572, 64⟩

/-- LGB_LAST_NEWEST (R597). -/
def R.LGB_LAST_NEWEST : Nat := 241
def R.LGB_LAST_NEWEST.seq : Field := ⟨573, 64⟩

/-- LGB_STATUS (R597). -/
def R.LGB_STATUS : Nat := 242
def R.LGB_STATUS.first_full : Field := ⟨574, 1⟩
def R.LGB_STATUS.mirror_behind : Field := ⟨575, 1⟩
def R.LGB_STATUS.clearing : Field := ⟨576, 1⟩
def R.LGB_STATUS.bad : Field := ⟨577, 8⟩
def R.LGB_STATUS.lost : Field := ⟨578, 16⟩

/-- LGB_FILL (R597). -/
def R.LGB_FILL : Nat := 243
def R.LGB_FILL.first_kib : Field := ⟨579, 12⟩
def R.LGB_FILL.erased : Field := ⟨580, 16⟩

/-- PMC_S_SEL (R615). -/
def R.PMC_S_SEL : Nat := 244
def R.PMC_S_SEL.event : Field := ⟨581, 8⟩
def R.PMC_S_SEL.mode : Field := ⟨582, 2⟩
def R.PMC_S_SEL.irq : Field := ⟨583, 1⟩
def R.PMC_S_SEL.interval : Field := ⟨584, 1⟩
def R.PMC_S_SEL.threshold : Field := ⟨585, 8⟩
def R.PMC_S_SEL.unit : Field := ⟨586, 8⟩

/-- PMC_S_CNT (R615). -/
def R.PMC_S_CNT : Nat := 245
def R.PMC_S_CNT.count : Field := ⟨587, 48⟩

/-- PMC_S_RELOAD (R615). -/
def R.PMC_S_RELOAD : Nat := 246
def R.PMC_S_RELOAD.reload : Field := ⟨588, 48⟩

/-- PMC_S_SNAP (R615). -/
def R.PMC_S_SNAP : Nat := 247
def R.PMC_S_SNAP.snap : Field := ⟨589, 48⟩

/-- PMC_S_SNAP_STROKE (R615). -/
def R.PMC_S_SNAP_STROKE : Nat := 248
def R.PMC_S_SNAP_STROKE.stroke : Field := ⟨590, 48⟩

/-- PMC_STN_CFG (R615). -/
def R.PMC_STN_CFG : Nat := 249
def R.PMC_STN_CFG.timer : Field := ⟨591, 2⟩
def R.PMC_STN_CFG.interval_en : Field := ⟨592, 1⟩

/-- PMC_STN_STATUS (R615). -/
def R.PMC_STN_STATUS : Nat := 250
def R.PMC_STN_STATUS.overflow : Field := ⟨593, 8⟩
def R.PMC_STN_STATUS.granted : Field := ⟨594, 1⟩
def R.PMC_STN_STATUS.dropped : Field := ⟨595, 16⟩

/-- PMC_D_SEL (R616). -/
def R.PMC_D_SEL : Nat := 251
def R.PMC_D_SEL.event : Field := ⟨596, 8⟩
def R.PMC_D_SEL.mode : Field := ⟨597, 2⟩
def R.PMC_D_SEL.irq : Field := ⟨598, 1⟩
def R.PMC_D_SEL.interval : Field := ⟨599, 1⟩
def R.PMC_D_SEL.threshold : Field := ⟨600, 8⟩
def R.PMC_D_SEL.unit : Field := ⟨601, 8⟩

/-- PMC_D_CNT (R616). -/
def R.PMC_D_CNT : Nat := 252
def R.PMC_D_CNT.count : Field := ⟨602, 48⟩

/-- PMC_D_RELOAD (R616). -/
def R.PMC_D_RELOAD : Nat := 253
def R.PMC_D_RELOAD.reload : Field := ⟨603, 48⟩

/-- PMC_D_SNAP (R616). -/
def R.PMC_D_SNAP : Nat := 254
def R.PMC_D_SNAP.snap : Field := ⟨604, 48⟩

/-- PMC_D_SNAP_STROKE (R616). -/
def R.PMC_D_SNAP_STROKE : Nat := 255
def R.PMC_D_SNAP_STROKE.stroke : Field := ⟨605, 48⟩

/-- PMC_DIE_STATUS (R616). -/
def R.PMC_DIE_STATUS : Nat := 256
def R.PMC_DIE_STATUS.overflow : Field := ⟨606, 16⟩
def R.PMC_DIE_STATUS.dropped : Field := ⟨607, 16⟩

/-- PMC_AGG (R616). -/
def R.PMC_AGG : Nat := 257
def R.PMC_AGG.sum : Field := ⟨608, 48⟩
def R.PMC_AGG.event : Field := ⟨609, 8⟩

/-- PMC_BUF_CFG (R616). -/
def R.PMC_BUF_CFG : Nat := 258
def R.PMC_BUF_CFG.trace_units : Field := ⟨610, 4⟩
def R.PMC_BUF_CFG.sample_units : Field := ⟨611, 4⟩
def R.PMC_BUF_CFG.wrap : Field := ⟨612, 1⟩
def R.PMC_BUF_CFG.trace_en : Field := ⟨613, 1⟩
def R.PMC_BUF_CFG.watermark : Field := ⟨614, 4⟩

/-- PMC_BUF_STATUS (R616). -/
def R.PMC_BUF_STATUS : Nat := 259
def R.PMC_BUF_STATUS.refused : Field := ⟨615, 8⟩
def R.PMC_BUF_STATUS.overwrote : Field := ⟨616, 1⟩
def R.PMC_BUF_STATUS.full : Field := ⟨617, 1⟩

/-- PMC_TRC_HEAD (R616). -/
def R.PMC_TRC_HEAD : Nat := 260
def R.PMC_TRC_HEAD.head : Field := ⟨618, 18⟩

/-- PMC_SMP_HEAD (R616). -/
def R.PMC_SMP_HEAD : Nat := 261
def R.PMC_SMP_HEAD.head : Field := ⟨619, 18⟩

/-- PMC_TRC_TAIL (R616). -/
def R.PMC_TRC_TAIL : Nat := 262
def R.PMC_TRC_TAIL.tail : Field := ⟨620, 18⟩

/-- PMC_SMP_TAIL (R616). -/
def R.PMC_SMP_TAIL : Nat := 263
def R.PMC_SMP_TAIL.tail : Field := ⟨621, 18⟩

/-- PMC_TIMER (R616). -/
def R.PMC_TIMER : Nat := 264
def R.PMC_TIMER.period_us : Field := ⟨622, 20⟩
def R.PMC_TIMER.owner : Field := ⟨623, 2⟩

/-- PMC_M_SEL (R616). -/
def R.PMC_M_SEL : Nat := 265
def R.PMC_M_SEL.event : Field := ⟨624, 8⟩
def R.PMC_M_SEL.mode : Field := ⟨625, 2⟩
def R.PMC_M_SEL.irq : Field := ⟨626, 1⟩
def R.PMC_M_SEL.interval : Field := ⟨627, 1⟩
def R.PMC_M_SEL.threshold : Field := ⟨628, 8⟩
def R.PMC_M_SEL.unit : Field := ⟨629, 8⟩

/-- PMC_M_CNT (R616). -/
def R.PMC_M_CNT : Nat := 266
def R.PMC_M_CNT.count : Field := ⟨630, 48⟩

/-- PMC_M_SNAP (R616). -/
def R.PMC_M_SNAP : Nat := 267
def R.PMC_M_SNAP.snap : Field := ⟨631, 48⟩

/-- PMC_M_SNAP_STROKE (R616). -/
def R.PMC_M_SNAP_STROKE : Nat := 268
def R.PMC_M_SNAP_STROKE.stroke : Field := ⟨632, 48⟩

/-- PMC_MOD_STATUS (R616). -/
def R.PMC_MOD_STATUS : Nat := 269
def R.PMC_MOD_STATUS.overflow : Field := ⟨633, 32⟩

/-- PMC_MAGG (R616). -/
def R.PMC_MAGG : Nat := 270
def R.PMC_MAGG.sum : Field := ⟨634, 48⟩
def R.PMC_MAGG.event : Field := ⟨635, 8⟩

/-- PMC_TRIG (R616). -/
def R.PMC_TRIG : Nat := 271
def R.PMC_TRIG.source : Field := ⟨636, 2⟩
def R.PMC_TRIG.die : Field := ⟨637, 4⟩
def R.PMC_TRIG.station : Field := ⟨638, 6⟩
def R.PMC_TRIG.counter : Field := ⟨639, 5⟩
def R.PMC_TRIG.refused : Field := ⟨640, 1⟩

/-- SHP_STARTUP (R652). -/
def R.SHP_STARTUP : Nat := 272
def R.SHP_STARTUP.done : Field := ⟨641, 10⟩
def R.SHP_STARTUP.ready : Field := ⟨642, 1⟩
def R.SHP_STARTUP.failed : Field := ⟨643, 1⟩
def R.SHP_STARTUP.failed_step : Field := ⟨644, 4⟩
def R.SHP_STARTUP.elapsed_s : Field := ⟨645, 12⟩

/-- Registers 0 to 24 of the maps. -/
def regTable0 : List RegSpec := [
  ⟨R.STN_ID, .stn, 0, 1, 0, false, [
    ⟨R.STN_ID.phys_pos, 0, .ro, fun i => i % 64, false, 0, 63⟩,
    ⟨R.STN_ID.logical, 6, .ro, fun i => deliveryLogical (i % 64), false, 0, 63⟩,
    ⟨R.STN_ID.die, 12, .ro, fun i => i / 64, false, 0, 15⟩,
    ⟨R.STN_ID.role, 16, .ro, fun i => if deliveryLogical (i % 64) = 63 then 1 else 0, false, 0, 3⟩]⟩,
  ⟨R.STN_CTRL, .stn, 4, 1, 0, false, [
    ⟨R.STN_CTRL.run, 0, .rw, fun _ => 0, true, 0, 1⟩,
    ⟨R.STN_CTRL.fence, 1, .rw, fun _ => 0, true, 0, 1⟩,
    ⟨R.STN_CTRL.power_gate, 2, .rw, fun _ => 1, true, 0, 1⟩,
    ⟨R.STN_CTRL.sram_init, 3, .wo, fun _ => 0, true, 0, 1⟩]⟩,
  ⟨R.STN_STATUS, .stn, 8, 1, 0, false, [
    ⟨R.STN_STATUS.state, 0, .ro, fun _ => 0, false, 0, 7⟩,
    ⟨R.STN_STATUS.sram_init_busy, 3, .ro, fun _ => 0, false, 0, 1⟩,
    ⟨R.STN_STATUS.stretching, 4, .ro, fun _ => 0, false, 0, 1⟩]⟩,
  ⟨R.STN_FAULT, .stn, 12, 1, 0, false, [
    ⟨R.STN_FAULT.sram_uncorrectable, 0, .w1c, fun _ => 0, false, 0, 1⟩,
    ⟨R.STN_FAULT.istore_uncorrectable, 1, .w1c, fun _ => 0, false, 0, 1⟩,
    ⟨R.STN_FAULT.sequencer_check, 2, .w1c, fun _ => 0, false, 0, 1⟩,
    ⟨R.STN_FAULT.droop_halt, 3, .w1c, fun _ => 0, false, 0, 1⟩,
    ⟨R.STN_FAULT.crossing_error, 4, .w1c, fun _ => 0, false, 0, 1⟩,
    ⟨R.STN_FAULT.tally_store, 5, .w1c, fun _ => 0, false, 0, 1⟩,
    ⟨R.STN_FAULT.remote_error, 6, .w1c, fun _ => 0, false, 0, 1⟩,
    ⟨R.STN_FAULT.self_test_fail, 7, .w1c, fun _ => 0, false, 0, 1⟩]⟩,
  ⟨R.STN_CLK_TARGET, .stn, 16, 1, 0, false, [
    ⟨R.STN_CLK_TARGET.target_code, 0, .ro, fun _ => 320, false, 0, 511⟩]⟩,
  ⟨R.STN_CLK_STATUS, .stn, 20, 1, 0, false, [
    ⟨R.STN_CLK_STATUS.current_code, 0, .ro, fun _ => 320, false, 0, 511⟩,
    ⟨R.STN_CLK_STATUS.min_eff_code, 16, .rc, fun _ => 511, false, 0, 511⟩]⟩,
  ⟨R.STN_DROOP_CFG, .stn, 24, 1, 0, false, [
    ⟨R.STN_DROOP_CFG.replica_margin, 0, .rw, fun _ => 4, false, 0, 15⟩,
    ⟨R.STN_DROOP_CFG.halt_limit, 8, .rw, fun _ => 8, false, 1, 255⟩]⟩,
  ⟨R.STN_STRETCH_CYCLES, .stn, 32, 1, 0, true, [
    ⟨R.STN_STRETCH_CYCLES.count, 0, .rc, fun _ => 0, false, 0, 281474976710655⟩]⟩,
  ⟨R.STN_SRAM_CORR, .stn, 40, 1, 0, false, [
    ⟨R.STN_SRAM_CORR.corrected, 0, .rc, fun _ => 0, false, 0, 65535⟩,
    ⟨R.STN_SRAM_CORR.last_bank, 16, .rc, fun _ => 0, false, 0, 31⟩]⟩,
  ⟨R.STN_DIE_CTRL, .die, 0, 1, 0, false, [
    ⟨R.STN_DIE_CTRL.quiesce, 0, .rw, fun _ => 0, true, 0, 1⟩,
    ⟨R.STN_DIE_CTRL.map_commit, 1, .wo, fun _ => 0, true, 0, 1⟩]⟩,
  ⟨R.STN_DIE_STATUS, .die, 4, 1, 0, false, [
    ⟨R.STN_DIE_STATUS.quiesced, 0, .ro, fun _ => 0, false, 0, 1⟩,
    ⟨R.STN_DIE_STATUS.map_write_refused, 1, .w1c, fun _ => 0, false, 0, 1⟩,
    ⟨R.STN_DIE_STATUS.active_count, 2, .ro, fun _ => 48, false, 0, 63⟩,
    ⟨R.STN_DIE_STATUS.spares_free, 8, .ro, fun _ => 4, false, 0, 7⟩,
    ⟨R.STN_DIE_STATUS.degraded, 11, .ro, fun _ => 0, false, 0, 1⟩]⟩,
  ⟨R.STN_SEG_CLK, .die, 8, 1, 0, false, [
    ⟨R.STN_SEG_CLK.target_code, 0, .ro, fun _ => 320, false, 0, 511⟩]⟩,
  ⟨R.STN_MAP, .die, 64, 12, 4, false, [
    ⟨R.STN_MAP.phys_0, 0, .rw, fun i => deliveryPhys (i % 12 * 4 + 0), true, 0, 63⟩,
    ⟨R.STN_MAP.valid_0, 7, .rw, fun _ => 1, true, 0, 1⟩,
    ⟨R.STN_MAP.phys_1, 8, .rw, fun i => deliveryPhys (i % 12 * 4 + 1), true, 0, 63⟩,
    ⟨R.STN_MAP.valid_1, 15, .rw, fun _ => 1, true, 0, 1⟩,
    ⟨R.STN_MAP.phys_2, 16, .rw, fun i => deliveryPhys (i % 12 * 4 + 2), true, 0, 63⟩,
    ⟨R.STN_MAP.valid_2, 23, .rw, fun _ => 1, true, 0, 1⟩,
    ⟨R.STN_MAP.phys_3, 24, .rw, fun i => deliveryPhys (i % 12 * 4 + 3), true, 0, 63⟩,
    ⟨R.STN_MAP.valid_3, 31, .rw, fun _ => 1, true, 0, 1⟩]⟩,
  ⟨R.STN_EDGE, .die, 16, 4, 4, false, [
    ⟨R.STN_EDGE.module_up, 0, .ro, fun _ => 0, false, 0, 65535⟩,
    ⟨R.STN_EDGE.kind, 16, .ro, fun i => edgeKind (i / 4) (i % 4), false, 0, 15⟩,
    ⟨R.STN_EDGE.retries, 24, .rc, fun _ => 0, false, 0, 255⟩]⟩,
  ⟨R.STN_ARITH_CTRL, .stn, 48, 1, 0, false, [
    ⟨R.STN_ARITH_CTRL.trap_mask, 0, .rw, fun _ => 0, false, 0, 127⟩]⟩,
  ⟨R.STN_ARITH_FLAGS, .stn, 52, 1, 0, false, [
    ⟨R.STN_ARITH_FLAGS.flags, 0, .w1c, fun _ => 0, false, 0, 127⟩]⟩,
  ⟨R.STN_ARITH_SEED, .stn, 56, 1, 0, true, [
    ⟨R.STN_ARITH_SEED.seed, 0, .rw, fun _ => 0, false, 0, 18446744073709551615⟩]⟩,
  ⟨R.STN_DIE_ARITH_FLAGS, .die, 32, 1, 0, false, [
    ⟨R.STN_DIE_ARITH_FLAGS.flags, 0, .w1c, fun _ => 0, false, 0, 127⟩]⟩,
  ⟨R.STN_SEQ_PC, .stn, 64, 1, 0, false, [
    ⟨R.STN_SEQ_PC.pc, 0, .rw, fun _ => 0, true, 0, 4095⟩]⟩,
  ⟨R.STN_EXC_CAUSE, .stn, 68, 1, 0, false, [
    ⟨R.STN_EXC_CAUSE.cause, 0, .ro, fun _ => 0, false, 0, 31⟩,
    ⟨R.STN_EXC_CAUSE.slot, 5, .ro, fun _ => 0, false, 0, 3⟩,
    ⟨R.STN_EXC_CAUSE.precise, 7, .ro, fun _ => 0, false, 0, 1⟩,
    ⟨R.STN_EXC_CAUSE.more, 8, .ro, fun _ => 0, false, 0, 1⟩,
    ⟨R.STN_EXC_CAUSE.trapped_flags, 16, .ro, fun _ => 0, false, 0, 127⟩,
    ⟨R.STN_EXC_CAUSE.valid, 31, .w1c, fun _ => 0, true, 0, 1⟩]⟩,
  ⟨R.STN_EXC_PC, .stn, 72, 1, 0, false, [
    ⟨R.STN_EXC_PC.pc, 0, .ro, fun _ => 0, false, 0, 4095⟩]⟩,
  ⟨R.STN_EXC_INFO, .stn, 80, 1, 0, true, [
    ⟨R.STN_EXC_INFO.info, 0, .ro, fun _ => 0, false, 0, 18446744073709551615⟩]⟩,
  ⟨R.STN_SEQ_STATUS, .stn, 88, 1, 0, false, [
    ⟨R.STN_SEQ_STATUS.loop_depth, 0, .ro, fun _ => 0, false, 0, 7⟩,
    ⟨R.STN_SEQ_STATUS.matrix_ops, 3, .ro, fun _ => 0, false, 0, 3⟩,
    ⟨R.STN_SEQ_STATUS.drover0_queue, 5, .ro, fun _ => 0, false, 0, 31⟩,
    ⟨R.STN_SEQ_STATUS.drover1_queue, 10, .ro, fun _ => 0, false, 0, 31⟩,
    ⟨R.STN_SEQ_STATUS.fence_wait, 15, .ro, fun _ => 0, false, 0, 1⟩,
    ⟨R.STN_SEQ_STATUS.wait_tally, 16, .ro, fun _ => 0, false, 0, 4095⟩,
    ⟨R.STN_SEQ_STATUS.tally_wait, 28, .ro, fun _ => 0, false, 0, 1⟩,
    ⟨R.STN_SEQ_STATUS.barrier_wait, 29, .ro, fun _ => 0, false, 0, 1⟩]⟩,
  ⟨R.MEM_ID, .mem, 0, 1, 0, false, [
    ⟨R.MEM_ID.stack, 0, .ro, fun i => i, false, 0, 15⟩,
    ⟨R.MEM_ID.host_die, 4, .ro, fun i => ([0, 1, 2, 3, 7, 11, 15, 14, 13, 12, 8, 4] : List Nat).getD i 0, false, 0, 15⟩,
    ⟨R.MEM_ID.edge, 8, .ro, fun i => ([0, 0, 0, 0, 1, 1, 2, 2, 2, 2, 3, 3] : List Nat).getD i 0, false, 0, 3⟩,
    ⟨R.MEM_ID.capacity_gib, 10, .ro, fun _ => 80, false, 0, 1023⟩]⟩,
  ⟨R.MEM_CTRL, .mem, 4, 1, 0, false, [
    ⟨R.MEM_CTRL.scrub_en, 0, .rw, fun _ => 1, false, 0, 1⟩,
    ⟨R.MEM_CTRL.self_refresh, 1, .rw, fun _ => 0, false, 0, 1⟩]⟩]

/-- Registers 25 to 49 of the maps. -/
def regTable1 : List RegSpec := [
  ⟨R.MEM_STATUS, .mem, 8, 1, 0, false, [
    ⟨R.MEM_STATUS.state, 0, .ro, fun _ => 0, false, 0, 7⟩]⟩,
  ⟨R.MEM_PC_UP, .mem, 16, 1, 0, true, [
    ⟨R.MEM_PC_UP.pc_up, 0, .ro, fun _ => 0, false, 0, 18446744073709551615⟩]⟩,
  ⟨R.MEM_ERR_COUNT, .mem, 24, 1, 0, false, [
    ⟨R.MEM_ERR_COUNT.corrected, 0, .rc, fun _ => 0, false, 0, 16777215⟩,
    ⟨R.MEM_ERR_COUNT.uncorrectable, 24, .rc, fun _ => 0, false, 0, 255⟩]⟩,
  ⟨R.MEM_ERR_ADDR, .mem, 32, 1, 0, true, [
    ⟨R.MEM_ERR_ADDR.addr, 0, .ro, fun _ => 0, false, 0, 281474976710655⟩]⟩,
  ⟨R.MEM_ERR_INFO, .mem, 40, 1, 0, false, [
    ⟨R.MEM_ERR_INFO.pos0, 0, .ro, fun _ => 0, false, 0, 63⟩,
    ⟨R.MEM_ERR_INFO.pos1, 8, .ro, fun _ => 0, false, 0, 63⟩,
    ⟨R.MEM_ERR_INFO.kind, 16, .ro, fun _ => 0, false, 0, 3⟩,
    ⟨R.MEM_ERR_INFO.more, 30, .ro, fun _ => 0, false, 0, 1⟩,
    ⟨R.MEM_ERR_INFO.valid, 31, .w1c, fun _ => 0, false, 0, 1⟩]⟩,
  ⟨R.MEM_SCRUB_CFG, .mem, 48, 1, 0, false, [
    ⟨R.MEM_SCRUB_CFG.period_h, 0, .rw, fun _ => 12, false, 1, 72⟩]⟩,
  ⟨R.MEM_SCRUB_STATUS, .mem, 52, 1, 0, false, [
    ⟨R.MEM_SCRUB_STATUS.progress, 0, .ro, fun _ => 0, false, 0, 1023⟩,
    ⟨R.MEM_SCRUB_STATUS.passes, 16, .rc, fun _ => 0, false, 0, 65535⟩]⟩,
  ⟨R.MEM_STG_BASE, .mem, 64, 1, 0, true, [
    ⟨R.MEM_STG_BASE.base, 0, .rw, fun _ => 0, false, 0, 281474976710655⟩]⟩,
  ⟨R.MEM_STG_SIZE, .mem, 72, 1, 0, false, [
    ⟨R.MEM_STG_SIZE.size_mib, 0, .rw, fun _ => 0, false, 0, 256⟩]⟩,
  ⟨R.MEM_STG_STATUS, .mem, 76, 1, 0, false, [
    ⟨R.MEM_STG_STATUS.state, 0, .ro, fun _ => 0, false, 0, 7⟩,
    ⟨R.MEM_STG_STATUS.full, 3, .w1c, fun _ => 0, false, 0, 1⟩,
    ⟨R.MEM_STG_STATUS.entries, 8, .ro, fun _ => 0, false, 0, 1048575⟩]⟩,
  ⟨R.MEM_MIR_CFG, .mem, 80, 1, 0, false, [
    ⟨R.MEM_MIR_CFG.partner, 0, .rw, fun _ => 0, false, 0, 16383⟩,
    ⟨R.MEM_MIR_CFG.enable, 15, .rw, fun _ => 0, false, 0, 1⟩]⟩,
  ⟨R.MEM_MIR_OFFSET, .mem, 88, 1, 0, true, [
    ⟨R.MEM_MIR_OFFSET.offset, 0, .rw, fun _ => 0, false, 0, 18446744073709551615⟩]⟩,
  ⟨R.MEM_COMMIT_CTRL, .cmt, 0, 1, 0, false, [
    ⟨R.MEM_COMMIT_CTRL.hold, 0, .rw, fun _ => 0, true, 0, 1⟩,
    ⟨R.MEM_COMMIT_CTRL.discard, 1, .wo, fun _ => 0, true, 0, 1⟩,
    ⟨R.MEM_COMMIT_CTRL.retry_apply, 2, .wo, fun _ => 0, true, 0, 1⟩]⟩,
  ⟨R.MEM_COMMIT_STATUS, .cmt, 4, 1, 0, false, [
    ⟨R.MEM_COMMIT_STATUS.applied, 0, .ro, fun _ => 0, false, 0, 4095⟩,
    ⟨R.MEM_COMMIT_STATUS.state, 12, .ro, fun _ => 0, false, 0, 7⟩,
    ⟨R.MEM_COMMIT_STATUS.discard_refused, 15, .w1c, fun _ => 0, false, 0, 1⟩]⟩,
  ⟨R.MEM_COMMIT_STROKE, .cmt, 8, 1, 0, false, [
    ⟨R.MEM_COMMIT_STROKE.stroke, 0, .ro, fun _ => 0, false, 0, 4294967295⟩]⟩,
  ⟨R.DRV_CTRL, .drv, 0, 1, 0, false, [
    ⟨R.DRV_CTRL.resume, 0, .wo, fun _ => 0, true, 0, 1⟩,
    ⟨R.DRV_CTRL.flush, 1, .wo, fun _ => 0, true, 0, 1⟩]⟩,
  ⟨R.DRV_STATUS, .drv, 4, 1, 0, false, [
    ⟨R.DRV_STATUS.state, 0, .ro, fun _ => 0, false, 0, 7⟩,
    ⟨R.DRV_STATUS.queue, 3, .ro, fun _ => 0, false, 0, 31⟩,
    ⟨R.DRV_STATUS.list_index, 8, .ro, fun _ => 0, false, 0, 4095⟩]⟩,
  ⟨R.DRV_FAULT, .drv, 8, 1, 0, false, [
    ⟨R.DRV_FAULT.cause, 0, .ro, fun _ => 0, false, 0, 15⟩,
    ⟨R.DRV_FAULT.detail, 4, .ro, fun _ => 0, false, 0, 255⟩,
    ⟨R.DRV_FAULT.pc, 12, .ro, fun _ => 0, false, 0, 4095⟩,
    ⟨R.DRV_FAULT.fromList, 24, .ro, fun _ => 0, false, 0, 1⟩,
    ⟨R.DRV_FAULT.mirror_lost, 30, .w1c, fun _ => 0, false, 0, 1⟩,
    ⟨R.DRV_FAULT.valid, 31, .w1c, fun _ => 0, false, 0, 1⟩]⟩,
  ⟨R.DRV_FAULT_ADDR, .drv, 16, 1, 0, true, [
    ⟨R.DRV_FAULT_ADDR.addr, 0, .ro, fun _ => 0, false, 0, 18446744073709551615⟩]⟩,
  ⟨R.DRV_BYTES, .drv, 24, 1, 0, true, [
    ⟨R.DRV_BYTES.bytes, 0, .rc, fun _ => 0, false, 0, 281474976710655⟩]⟩,
  ⟨R.DRV_HQ_TAIL, .hq, 0, 1, 0, false, [
    ⟨R.DRV_HQ_TAIL.tail, 0, .rw, fun _ => 0, true, 0, 63⟩]⟩,
  ⟨R.DRV_HQ_HEAD, .hq, 4, 1, 0, false, [
    ⟨R.DRV_HQ_HEAD.head, 0, .ro, fun _ => 0, false, 0, 63⟩]⟩,
  ⟨R.DRV_HQ_DONE, .hq, 8, 1, 0, false, [
    ⟨R.DRV_HQ_DONE.done, 0, .ro, fun _ => 0, false, 0, 4294967295⟩]⟩,
  ⟨R.DRV_HQ_STATUS, .hq, 12, 1, 0, false, [
    ⟨R.DRV_HQ_STATUS.cause, 0, .ro, fun _ => 0, false, 0, 15⟩,
    ⟨R.DRV_HQ_STATUS.slot, 4, .ro, fun _ => 0, false, 0, 63⟩,
    ⟨R.DRV_HQ_STATUS.tail_refused, 10, .w1c, fun _ => 0, false, 0, 1⟩,
    ⟨R.DRV_HQ_STATUS.valid, 31, .w1c, fun _ => 0, true, 0, 1⟩]⟩,
  ⟨R.CHK_CTRL, .chk, 0, 1, 0, false, [
    ⟨R.CHK_CTRL.algo, 0, .rw, fun _ => 0, false, 0, 3⟩,
    ⟨R.CHK_CTRL.initialise, 2, .wo, fun _ => 0, true, 0, 1⟩,
    ⟨R.CHK_CTRL.alive_en, 3, .rw, fun _ => 0, false, 0, 1⟩,
    ⟨R.CHK_CTRL.alive_width, 4, .rw, fun _ => 0, false, 0, 2⟩,
    ⟨R.CHK_CTRL.alive_hi, 6, .rw, fun _ => 0, false, 0, 1⟩,
    ⟨R.CHK_CTRL.alive_offset, 8, .rw, fun _ => 0, false, 0, 255⟩]⟩]

/-- Registers 50 to 74 of the maps. -/
def regTable2 : List RegSpec := [
  ⟨R.CHK_RUN, .chk, 8, 1, 0, true, [
    ⟨R.CHK_RUN.run, 0, .rw, fun _ => 0, false, 0, 18446744073709551615⟩]⟩,
  ⟨R.CHK_RESULT, .chk, 16, 1, 0, true, [
    ⟨R.CHK_RESULT.result, 0, .ro, fun _ => 0, false, 0, 18446744073709551615⟩]⟩,
  ⟨R.CHK_DATA, .chk, 24, 1, 0, true, [
    ⟨R.CHK_DATA.dataWord, 0, .rw, fun _ => 0, false, 0, 18446744073709551615⟩]⟩,
  ⟨R.CHK_FEED, .chk, 32, 1, 0, false, [
    ⟨R.CHK_FEED.n, 0, .wo, fun _ => 0, true, 0, 15⟩,
    ⟨R.CHK_FEED.frame_end, 4, .wo, fun _ => 0, true, 0, 1⟩]⟩,
  ⟨R.CHK_ALIVE_LAST, .chk, 40, 1, 0, false, [
    ⟨R.CHK_ALIVE_LAST.last, 0, .ro, fun _ => 0, false, 0, 65535⟩,
    ⟨R.CHK_ALIVE_LAST.seen, 16, .ro, fun _ => 0, false, 0, 1⟩]⟩,
  ⟨R.CHK_STATUS, .chk, 44, 1, 0, false, [
    ⟨R.CHK_STATUS.repeats, 0, .w1c, fun _ => 0, false, 0, 1⟩,
    ⟨R.CHK_STATUS.skip, 1, .w1c, fun _ => 0, false, 0, 1⟩,
    ⟨R.CHK_STATUS.backward, 2, .w1c, fun _ => 0, false, 0, 1⟩,
    ⟨R.CHK_STATUS.write_refused, 3, .w1c, fun _ => 0, false, 0, 1⟩,
    ⟨R.CHK_STATUS.frames, 16, .rc, fun _ => 0, false, 0, 65535⟩]⟩,
  ⟨R.TLY_STN_STATUS, .stn, 256, 1, 0, false, [
    ⟨R.TLY_STN_STATUS.deferred, 0, .ro, fun _ => 0, false, 0, 511⟩,
    ⟨R.TLY_STN_STATUS.defer_overflow, 9, .w1c, fun _ => 0, false, 0, 1⟩,
    ⟨R.TLY_STN_STATUS.tag, 10, .ro, fun _ => 0, false, 0, 3⟩,
    ⟨R.TLY_STN_STATUS.late, 16, .rc, fun _ => 0, false, 0, 65535⟩]⟩,
  ⟨R.TLY_MBX, .stn, 512, 32, 8, true, [
    ⟨R.TLY_MBX.word, 0, .ro, fun _ => 0, false, 0, 18446744073709551615⟩]⟩,
  ⟨R.TLY_STROKE_CTRL, .tly, 0, 1, 0, false, [
    ⟨R.TLY_STROKE_CTRL.enable, 0, .rw, fun _ => 0, true, 0, 1⟩]⟩,
  ⟨R.TLY_STROKE_STATUS, .tly, 4, 1, 0, false, [
    ⟨R.TLY_STROKE_STATUS.state, 0, .ro, fun _ => 0, false, 0, 7⟩,
    ⟨R.TLY_STROKE_STATUS.seat, 3, .ro, fun _ => 0, false, 0, 1⟩,
    ⟨R.TLY_STROKE_STATUS.first, 4, .ro, fun _ => 0, false, 0, 1⟩,
    ⟨R.TLY_STROKE_STATUS.last, 5, .ro, fun _ => 0, false, 0, 1⟩,
    ⟨R.TLY_STROKE_STATUS.replay, 6, .ro, fun _ => 0, false, 0, 1⟩,
    ⟨R.TLY_STROKE_STATUS.out_of_step, 7, .w1c, fun _ => 0, false, 0, 1⟩,
    ⟨R.TLY_STROKE_STATUS.kind, 8, .ro, fun _ => 0, false, 0, 255⟩,
    ⟨R.TLY_STROKE_STATUS.unarmed_sends, 16, .rc, fun _ => 0, false, 0, 255⟩]⟩,
  ⟨R.TLY_STROKE_NUM, .tly, 8, 1, 0, true, [
    ⟨R.TLY_STROKE_NUM.stroke, 0, .ro, fun _ => 0, false, 0, 281474976710655⟩]⟩,
  ⟨R.TLY_PERIOD, .tly, 16, 1, 0, false, [
    ⟨R.TLY_PERIOD.period_us, 0, .ro, fun _ => 0, false, 0, 4294967295⟩]⟩,
  ⟨R.TLY_NEXT_PERIOD, .tly, 20, 1, 0, false, [
    ⟨R.TLY_NEXT_PERIOD.period_us, 0, .rw, fun _ => 0, false, 500, 2000000⟩,
    ⟨R.TLY_NEXT_PERIOD.armed, 31, .rw, fun _ => 0, false, 0, 1⟩]⟩,
  ⟨R.TLY_COMBINED, .tly, 24, 1, 0, false, [
    ⟨R.TLY_COMBINED.period_us, 0, .ro, fun _ => 0, false, 0, 4294967295⟩]⟩,
  ⟨R.TLY_COMBINED_LATE, .tly, 28, 1, 0, false, [
    ⟨R.TLY_COMBINED_LATE.late_us, 0, .ro, fun _ => 0, false, 0, 65535⟩,
    ⟨R.TLY_COMBINED_LATE.missing, 16, .ro, fun _ => 0, false, 0, 65535⟩]⟩,
  ⟨R.TLY_SEAT, .tly, 32, 1, 0, false, [
    ⟨R.TLY_SEAT.seat, 0, .ro, fun _ => 0, false, 0, 16383⟩,
    ⟨R.TLY_SEAT.rank, 16, .ro, fun _ => 0, false, 0, 16383⟩,
    ⟨R.TLY_SEAT.valid, 31, .ro, fun _ => 0, false, 0, 1⟩]⟩,
  ⟨R.TLY_SEAT_DELAY, .tly, 36, 1, 0, false, [
    ⟨R.TLY_SEAT_DELAY.d_ns, 0, .ro, fun _ => 0, false, 0, 1048575⟩]⟩,
  ⟨R.TLY_LATE, .tly, 40, 1, 0, false, [
    ⟨R.TLY_LATE.last_us, 0, .ro, fun _ => 0, false, 0, 65535⟩,
    ⟨R.TLY_LATE.max_us, 16, .rc, fun _ => 0, false, 0, 65535⟩]⟩,
  ⟨R.TLY_TELEGRAM_ERR, .tly, 44, 1, 0, false, [
    ⟨R.TLY_TELEGRAM_ERR.crc, 0, .rc, fun _ => 0, false, 0, 255⟩,
    ⟨R.TLY_TELEGRAM_ERR.repeats, 8, .rc, fun _ => 0, false, 0, 255⟩,
    ⟨R.TLY_TELEGRAM_ERR.skip, 16, .rc, fun _ => 0, false, 0, 255⟩,
    ⟨R.TLY_TELEGRAM_ERR.backward, 24, .rc, fun _ => 0, false, 0, 255⟩]⟩,
  ⟨R.TLY_TELEGRAM_ERR2, .tly, 48, 1, 0, false, [
    ⟨R.TLY_TELEGRAM_ERR2.level, 0, .rc, fun _ => 0, false, 0, 255⟩,
    ⟨R.TLY_TELEGRAM_ERR2.rank, 8, .rc, fun _ => 0, false, 0, 255⟩,
    ⟨R.TLY_TELEGRAM_ERR2.bad_kind, 16, .rc, fun _ => 0, false, 0, 255⟩]⟩,
  ⟨R.KLK_DIE_ID, .klkd, 0, 1, 0, false, [
    ⟨R.KLK_DIE_ID.link_die, 0, .ro, fun i => i, false, 0, 3⟩,
    ⟨R.KLK_DIE_ID.first_port, 2, .ro, fun i => ([0, 5, 9, 14] : List Nat).getD i 0, false, 0, 31⟩,
    ⟨R.KLK_DIE_ID.port_count, 7, .ro, fun i => ([5, 4, 5, 4] : List Nat).getD i 0, false, 0, 7⟩,
    ⟨R.KLK_DIE_ID.level_min, 10, .ro, fun _ => 1, false, 0, 15⟩,
    ⟨R.KLK_DIE_ID.level_max, 14, .ro, fun _ => 2, false, 0, 15⟩]⟩,
  ⟨R.KLK_DIE_CTRL, .klkd, 4, 1, 0, false, [
    ⟨R.KLK_DIE_CTRL.isolate, 0, .wo, fun _ => 0, true, 0, 1⟩,
    ⟨R.KLK_DIE_CTRL.rejoin, 1, .wo, fun _ => 0, true, 0, 1⟩]⟩,
  ⟨R.KLK_DIE_STATUS, .klkd, 8, 1, 0, false, [
    ⟨R.KLK_DIE_STATUS.isolated, 0, .ro, fun _ => 0, false, 0, 1⟩,
    ⟨R.KLK_DIE_STATUS.false_declared, 1, .w1c, fun _ => 0, false, 0, 1⟩,
    ⟨R.KLK_DIE_STATUS.switch_up, 2, .ro, fun _ => 0, false, 0, 15⟩]⟩,
  ⟨R.KLK_VC_WEIGHT, .klkd, 16, 1, 0, false, [
    ⟨R.KLK_VC_WEIGHT.w2, 0, .rw, fun _ => 2, false, 1, 15⟩,
    ⟨R.KLK_VC_WEIGHT.w4, 4, .rw, fun _ => 8, false, 1, 15⟩,
    ⟨R.KLK_VC_WEIGHT.w5, 8, .rw, fun _ => 4, false, 1, 15⟩,
    ⟨R.KLK_VC_WEIGHT.w6, 12, .rw, fun _ => 1, false, 1, 15⟩,
    ⟨R.KLK_VC_WEIGHT.w7, 16, .rw, fun _ => 1, false, 1, 15⟩]⟩,
  ⟨R.KLK_LOSS_LOG, .klkd, 32, 1, 0, true, [
    ⟨R.KLK_LOSS_LOG.moduleIx, 0, .ro, fun _ => 0, false, 0, 16383⟩,
    ⟨R.KLK_LOSS_LOG.reason, 14, .ro, fun _ => 0, false, 0, 3⟩,
    ⟨R.KLK_LOSS_LOG.detector, 16, .ro, fun _ => 0, false, 0, 16383⟩,
    ⟨R.KLK_LOSS_LOG.from_telegram, 30, .ro, fun _ => 0, false, 0, 1⟩,
    ⟨R.KLK_LOSS_LOG.valid, 31, .w1c, fun _ => 0, false, 0, 1⟩,
    ⟨R.KLK_LOSS_LOG.dropped, 32, .ro, fun _ => 0, false, 0, 65535⟩,
    ⟨R.KLK_LOSS_LOG.declarations, 48, .rc, fun _ => 0, false, 0, 65535⟩]⟩]

/-- Registers 75 to 99 of the maps. -/
def regTable3 : List RegSpec := [
  ⟨R.KLK_PORT_CTRL, .klkp, 0, 1, 0, false, [
    ⟨R.KLK_PORT_CTRL.enable, 0, .rw, fun _ => 1, false, 0, 1⟩,
    ⟨R.KLK_PORT_CTRL.retrain, 1, .wo, fun _ => 0, true, 0, 1⟩]⟩,
  ⟨R.KLK_PORT_STATUS, .klkp, 4, 1, 0, false, [
    ⟨R.KLK_PORT_STATUS.state, 0, .ro, fun _ => 0, false, 0, 7⟩,
    ⟨R.KLK_PORT_STATUS.present, 3, .ro, fun _ => 0, false, 0, 1⟩,
    ⟨R.KLK_PORT_STATUS.polarity, 4, .ro, fun _ => 0, false, 0, 15⟩,
    ⟨R.KLK_PORT_STATUS.reversed, 8, .ro, fun _ => 0, false, 0, 1⟩,
    ⟨R.KLK_PORT_STATUS.cable, 9, .ro, fun _ => 0, false, 0, 3⟩,
    ⟨R.KLK_PORT_STATUS.power_refused, 11, .ro, fun _ => 0, false, 0, 1⟩,
    ⟨R.KLK_PORT_STATUS.level, 12, .ro, fun _ => 0, false, 0, 15⟩,
    ⟨R.KLK_PORT_STATUS.role, 16, .ro, fun i => if ([3, 4, 8, 12, 13, 17] : List Nat).contains i then 1 else 0, false, 0, 1⟩]⟩,
  ⟨R.KLK_PORT_PEER, .klkp, 8, 1, 0, false, [
    ⟨R.KLK_PORT_PEER.peer_id, 0, .ro, fun _ => 0, false, 0, 16383⟩,
    ⟨R.KLK_PORT_PEER.peer_kind, 14, .ro, fun _ => 0, false, 0, 1⟩,
    ⟨R.KLK_PORT_PEER.peer_port, 16, .ro, fun _ => 0, false, 0, 255⟩,
    ⟨R.KLK_PORT_PEER.valid, 31, .ro, fun _ => 0, false, 0, 1⟩]⟩,
  ⟨R.KLK_PORT_ERR, .klkp, 12, 1, 0, false, [
    ⟨R.KLK_PORT_ERR.crc_fail, 0, .rc, fun _ => 0, false, 0, 65535⟩,
    ⟨R.KLK_PORT_ERR.retries, 16, .rc, fun _ => 0, false, 0, 65535⟩]⟩,
  ⟨R.KLK_PORT_FEC, .klkp, 16, 1, 0, true, [
    ⟨R.KLK_PORT_FEC.corrected, 0, .rc, fun _ => 0, false, 0, 4294967295⟩,
    ⟨R.KLK_PORT_FEC.uncorrectable, 32, .rc, fun _ => 0, false, 0, 65535⟩]⟩,
  ⟨R.KLK_PORT_LOSS, .klkp, 24, 1, 0, false, [
    ⟨R.KLK_PORT_LOSS.cause, 0, .ro, fun _ => 0, false, 0, 3⟩,
    ⟨R.KLK_PORT_LOSS.count, 8, .rc, fun _ => 0, false, 0, 255⟩]⟩,
  ⟨R.KLK_PORT_FLITS, .klkp, 32, 1, 0, true, [
    ⟨R.KLK_PORT_FLITS.sent, 0, .rc, fun _ => 0, false, 0, 281474976710655⟩]⟩,
  ⟨R.KLK_PORT_CREDIT, .klkp, 64, 8, 4, false, [
    ⟨R.KLK_PORT_CREDIT.held, 0, .ro, fun _ => 0, false, 0, 2047⟩,
    ⟨R.KLK_PORT_CREDIT.announced, 16, .ro, fun _ => 0, false, 0, 2047⟩]⟩,
  ⟨R.KLK_ROUTE, .klkr, 524288, 16384, 4, false, [
    ⟨R.KLK_ROUTE.kind, 0, .rw, fun _ => 0, true, 0, 3⟩,
    ⟨R.KLK_ROUTE.pair, 2, .rw, fun _ => 0, true, 0, 3⟩,
    ⟨R.KLK_ROUTE.lost, 4, .w1c, fun _ => 0, true, 0, 1⟩]⟩,
  ⟨R.TLY_STANDIN, .tly, 64, 1, 0, true, [
    ⟨R.TLY_STANDIN.lost, 0, .rw, fun _ => 0, false, 0, 16383⟩,
    ⟨R.TLY_STANDIN.standin, 16, .rw, fun _ => 0, false, 0, 16383⟩,
    ⟨R.TLY_STANDIN.kind, 30, .rw, fun _ => 0, false, 0, 2⟩,
    ⟨R.TLY_STANDIN.valid, 63, .rw, fun _ => 0, false, 0, 1⟩]⟩,
  ⟨R.COX_ID, .cox, 0, 1, 0, false, [
    ⟨R.COX_ID.engine, 0, .ro, fun i => i, false, 0, 31⟩,
    ⟨R.COX_ID.kind, 5, .ro, fun i => if i < 16 then 0 else if i = 16 then 1 else if i = 17 then 2 else 3, false, 0, 3⟩,
    ⟨R.COX_ID.loops_present, 8, .ro, fun i => if i < 16 then 31 else if i = 16 then 7 else if i = 17 then 31 else 65535, false, 0, 65535⟩]⟩,
  ⟨R.COX_CTRL, .cox, 4, 1, 0, false, [
    ⟨R.COX_CTRL.engine_en, 0, .rw, fun _ => 0, false, 0, 1⟩,
    ⟨R.COX_CTRL.shed_en, 1, .rw, fun _ => 1, false, 0, 1⟩,
    ⟨R.COX_CTRL.ff_en, 2, .rw, fun _ => 1, false, 0, 1⟩]⟩,
  ⟨R.COX_STATUS, .cox, 8, 1, 0, false, [
    ⟨R.COX_STATUS.running, 0, .ro, fun _ => 0, false, 0, 1⟩,
    ⟨R.COX_STATUS.inhibit, 1, .ro, fun _ => 0, false, 0, 1⟩,
    ⟨R.COX_STATUS.warn, 2, .ro, fun _ => 0, false, 0, 1⟩,
    ⟨R.COX_STATUS.drive, 3, .ro, fun _ => 0, false, 0, 1⟩,
    ⟨R.COX_STATUS.feather, 4, .ro, fun _ => 0, false, 0, 1⟩,
    ⟨R.COX_STATUS.bus_low, 5, .ro, fun _ => 0, false, 0, 1⟩,
    ⟨R.COX_STATUS.writer, 6, .ro, fun _ => 0, false, 0, 1⟩,
    ⟨R.COX_STATUS.self_check, 7, .ro, fun _ => 0, false, 0, 1⟩]⟩,
  ⟨R.COX_EVENTS, .cox, 12, 1, 0, false, [
    ⟨R.COX_EVENTS.warn_missing, 0, .w1c, fun _ => 0, false, 0, 1⟩,
    ⟨R.COX_EVENTS.warn_expired, 1, .w1c, fun _ => 0, false, 0, 1⟩,
    ⟨R.COX_EVENTS.shed_abort, 2, .w1c, fun _ => 0, false, 0, 1⟩,
    ⟨R.COX_EVENTS.write_refused, 3, .w1c, fun _ => 0, false, 0, 1⟩,
    ⟨R.COX_EVENTS.claim_refused, 4, .w1c, fun _ => 0, false, 0, 1⟩,
    ⟨R.COX_EVENTS.self_check_mismatch, 5, .w1c, fun _ => 0, false, 0, 1⟩,
    ⟨R.COX_EVENTS.loop_flags, 16, .ro, fun _ => 0, false, 0, 65535⟩]⟩,
  ⟨R.COX_WARN_CFG, .cox, 16, 1, 0, false, [
    ⟨R.COX_WARN_CFG.warn_timeout_us, 0, .rw, fun _ => 1200, false, 1020, 2000⟩]⟩,
  ⟨R.COX_CAP, .cox, 48, 1, 0, false, [
    ⟨R.COX_CAP.cap_w, 0, .rw, fun _ => 0, true, 0, 16383⟩,
    ⟨R.COX_CAP.reached, 30, .ro, fun _ => 0, false, 0, 1⟩]⟩,
  ⟨R.COX_CLK_CEIL, .cox, 32, 1, 0, false, [
    ⟨R.COX_CLK_CEIL.applied, 0, .ro, fun _ => 80, false, 0, 511⟩,
    ⟨R.COX_CLK_CEIL.force, 16, .rw, fun _ => 380, true, 0, 511⟩]⟩,
  ⟨R.COX_CLK_CFG, .cox, 36, 1, 0, false, [
    ⟨R.COX_CLK_CFG.bus_low_code, 0, .rw, fun _ => 160, false, 80, 380⟩,
    ⟨R.COX_CLK_CFG.frozen_code, 9, .rw, fun _ => 80, false, 80, 380⟩,
    ⟨R.COX_CLK_CFG.vf_order, 18, .rw, fun _ => 1, false, 0, 1⟩]⟩,
  ⟨R.COX_VF, .cox, 64, 16, 4, false, [
    ⟨R.COX_VF.max_code, 0, .rw, fun _ => 0, false, 0, 511⟩,
    ⟨R.COX_VF.core_mv, 16, .rw, fun _ => 0, false, 0, 2047⟩,
    ⟨R.COX_VF.valid, 31, .rw, fun _ => 0, false, 0, 1⟩]⟩,
  ⟨R.COX_LOOP_CFG, .cox, 4096, 16, 256, false, [
    ⟨R.COX_LOOP_CFG.present, 0, .ro, fun i => if i < 256 then ([1, 1, 1, 1, 1] : List Nat).getD (i % 16) 0 else if i < 272 then ([1, 1, 1] : List Nat).getD (i % 16) 0 else if i < 288 then ([1, 1, 1, 1, 1] : List Nat).getD (i % 16) 0 else 1, false, 0, 1⟩,
    ⟨R.COX_LOOP_CFG.kind, 1, .ro, fun i => if i < 256 then ([0, 1, 0, 1, 2] : List Nat).getD (i % 16) 0 else if i < 272 then ([3, 1, 4] : List Nat).getD (i % 16) 0 else if i < 288 then ([4, 5, 1, 6, 2] : List Nat).getD (i % 16) 0 else 0, false, 0, 7⟩,
    ⟨R.COX_LOOP_CFG.ff_en, 4, .rw, fun _ => 0, false, 0, 1⟩,
    ⟨R.COX_LOOP_CFG.sense_fallback, 5, .ro, fun _ => 0, false, 0, 1⟩,
    ⟨R.COX_LOOP_CFG.sup_sel, 6, .rw, fun i => if i < 256 then ([3, 1, 3, 1, 2] : List Nat).getD (i % 16) 0 else if i < 272 then ([3, 1, 3] : List Nat).getD (i % 16) 0 else if i < 288 then ([3, 3, 1, 2, 2] : List Nat).getD (i % 16) 0 else 3, false, 1, 3⟩,
    ⟨R.COX_LOOP_CFG.group, 8, .rw, fun _ => 0, false, 0, 4⟩,
    ⟨R.COX_LOOP_CFG.pg, 12, .rw, fun i => if i < 256 then ([0, 15, 1, 15, 15] : List Nat).getD (i % 16) 15 else if i < 272 then ([15, 15, 0] : List Nat).getD (i % 16) 15 else if i < 288 then ([15, 1, 15, 0, 15] : List Nat).getD (i % 16) 15 else ([0, 1, 0, 1, 0, 1, 0, 1, 0, 1, 0, 1, 2, 3, 2, 3] : List Nat).getD (i % 16) 15, false, 0, 15⟩]⟩,
  ⟨R.COX_LOOP_MODE, .cox, 4100, 16, 256, false, [
    ⟨R.COX_LOOP_MODE.mode, 0, .rw, fun _ => 0, true, 0, 3⟩,
    ⟨R.COX_LOOP_MODE.state, 4, .ro, fun _ => 0, false, 0, 7⟩]⟩,
  ⟨R.COX_LOOP_REF, .cox, 4104, 16, 256, false, [
    ⟨R.COX_LOOP_REF.ref, 0, .ro, fun _ => 0, false, 0, 4294967295⟩]⟩,
  ⟨R.COX_LOOP_REF_STATIC, .cox, 4108, 16, 256, false, [
    ⟨R.COX_LOOP_REF_STATIC.ref, 0, .rw, fun _ => 0, false, 0, 4294967295⟩]⟩,
  ⟨R.COX_LOOP_SCALE, .cox, 4112, 16, 256, false, [
    ⟨R.COX_LOOP_SCALE.scale, 0, .rw, fun _ => 2151677952, false, 0, 4294967295⟩]⟩,
  ⟨R.COX_LOOP_MANUAL, .cox, 4116, 16, 256, false, [
    ⟨R.COX_LOOP_MANUAL.manual, 0, .rw, fun _ => 0, false, 0, 4294967295⟩]⟩]

/-- Registers 100 to 124 of the maps. -/
def regTable4 : List RegSpec := [
  ⟨R.COX_LOOP_OUT, .cox, 4120, 16, 256, false, [
    ⟨R.COX_LOOP_OUT.out, 0, .ro, fun _ => 0, false, 0, 4294967295⟩]⟩,
  ⟨R.COX_LOOP_FB, .cox, 4124, 16, 256, false, [
    ⟨R.COX_LOOP_FB.fb, 0, .ro, fun _ => 0, false, 0, 4294967295⟩]⟩,
  ⟨R.COX_LOOP_INT, .cox, 4128, 16, 256, false, [
    ⟨R.COX_LOOP_INT.integ, 0, .ro, fun _ => 0, false, 0, 4294967295⟩]⟩,
  ⟨R.COX_LOOP_CLAMP_HI, .cox, 4132, 16, 256, false, [
    ⟨R.COX_LOOP_CLAMP_HI.hi, 0, .rw, fun _ => 0, false, 0, 4294967295⟩]⟩,
  ⟨R.COX_LOOP_CLAMP_LO, .cox, 4136, 16, 256, false, [
    ⟨R.COX_LOOP_CLAMP_LO.lo, 0, .rw, fun _ => 0, false, 0, 4294967295⟩]⟩,
  ⟨R.COX_LOOP_INT_HI, .cox, 4140, 16, 256, false, [
    ⟨R.COX_LOOP_INT_HI.int_hi, 0, .rw, fun _ => 0, false, 0, 4294967295⟩]⟩,
  ⟨R.COX_LOOP_INT_LO, .cox, 4144, 16, 256, false, [
    ⟨R.COX_LOOP_INT_LO.int_lo, 0, .rw, fun _ => 0, false, 0, 4294967295⟩]⟩,
  ⟨R.COX_LOOP_EXP, .cox, 4148, 16, 256, false, [
    ⟨R.COX_LOOP_EXP.exp_err, 0, .rw, fun _ => 0, false, 0, 255⟩,
    ⟨R.COX_LOOP_EXP.exp_int, 8, .rw, fun _ => 0, false, 0, 255⟩,
    ⟨R.COX_LOOP_EXP.exp_der, 16, .rw, fun _ => 0, false, 0, 255⟩,
    ⟨R.COX_LOOP_EXP.exp_out, 24, .rw, fun _ => 0, false, 0, 255⟩]⟩,
  ⟨R.COX_LOOP_FF, .cox, 4152, 16, 256, false, [
    ⟨R.COX_LOOP_FF.ff, 0, .rw, fun _ => 0, false, 0, 4294967295⟩]⟩,
  ⟨R.COX_FF_DRIVE, .cox, 4156, 16, 256, false, [
    ⟨R.COX_FF_DRIVE.ff_drive, 0, .rw, fun _ => 0, false, 0, 4294967295⟩]⟩,
  ⟨R.COX_FF_FEATHER, .cox, 4160, 16, 256, false, [
    ⟨R.COX_FF_FEATHER.ff_feather, 0, .rw, fun _ => 0, false, 0, 4294967295⟩]⟩,
  ⟨R.COX_FF_CFG, .cox, 4164, 16, 256, false, [
    ⟨R.COX_FF_CFG.ramp, 0, .rw, fun _ => 2, false, 0, 255⟩]⟩,
  ⟨R.COX_BAND_LOAD_0, .cox, 4168, 16, 256, false, [
    ⟨R.COX_BAND_LOAD_0.threshold, 0, .rw, fun _ => 0, false, 0, 4294967295⟩]⟩,
  ⟨R.COX_BAND_LOAD_1, .cox, 4172, 16, 256, false, [
    ⟨R.COX_BAND_LOAD_1.threshold, 0, .rw, fun _ => 0, false, 0, 4294967295⟩]⟩,
  ⟨R.COX_BAND_LOAD_2, .cox, 4176, 16, 256, false, [
    ⟨R.COX_BAND_LOAD_2.threshold, 0, .rw, fun _ => 0, false, 0, 4294967295⟩]⟩,
  ⟨R.COX_BAND_IN_0, .cox, 4180, 16, 256, false, [
    ⟨R.COX_BAND_IN_0.threshold, 0, .rw, fun _ => 0, false, 0, 4294967295⟩]⟩,
  ⟨R.COX_BAND_IN_1, .cox, 4184, 16, 256, false, [
    ⟨R.COX_BAND_IN_1.threshold, 0, .rw, fun _ => 0, false, 0, 4294967295⟩]⟩,
  ⟨R.COX_BAND_IN_2, .cox, 4188, 16, 256, false, [
    ⟨R.COX_BAND_IN_2.threshold, 0, .rw, fun _ => 0, false, 0, 4294967295⟩]⟩,
  ⟨R.COX_BAND_HYST, .cox, 4192, 16, 256, false, [
    ⟨R.COX_BAND_HYST.load_hyst, 0, .rw, fun _ => 20, false, 0, 255⟩,
    ⟨R.COX_BAND_HYST.in_hyst, 8, .rw, fun _ => 10, false, 0, 255⟩]⟩,
  ⟨R.COX_REGION, .cox, 4196, 16, 256, false, [
    ⟨R.COX_REGION.region, 0, .ro, fun _ => 0, false, 0, 15⟩]⟩,
  ⟨R.COX_LOOP_FLAGS, .cox, 4200, 16, 256, false, [
    ⟨R.COX_LOOP_FLAGS.sat_err, 0, .w1c, fun _ => 0, false, 0, 1⟩,
    ⟨R.COX_LOOP_FLAGS.sat_int, 1, .w1c, fun _ => 0, false, 0, 1⟩,
    ⟨R.COX_LOOP_FLAGS.sat_der, 2, .w1c, fun _ => 0, false, 0, 1⟩,
    ⟨R.COX_LOOP_FLAGS.sat_out, 3, .w1c, fun _ => 0, false, 0, 1⟩,
    ⟨R.COX_LOOP_FLAGS.clamp_hi, 4, .w1c, fun _ => 0, false, 0, 1⟩,
    ⟨R.COX_LOOP_FLAGS.clamp_lo, 5, .w1c, fun _ => 0, false, 0, 1⟩,
    ⟨R.COX_LOOP_FLAGS.frozen, 6, .w1c, fun _ => 0, false, 0, 1⟩,
    ⟨R.COX_LOOP_FLAGS.fallback_sense, 7, .w1c, fun _ => 0, false, 0, 1⟩,
    ⟨R.COX_LOOP_FLAGS.sat_time, 8, .w1c, fun _ => 0, false, 0, 1⟩,
    ⟨R.COX_LOOP_FLAGS.plaus, 9, .w1c, fun _ => 0, false, 0, 1⟩,
    ⟨R.COX_LOOP_FLAGS.handover_clamp, 10, .w1c, fun _ => 0, false, 0, 1⟩,
    ⟨R.COX_LOOP_FLAGS.softstart_abort, 11, .w1c, fun _ => 0, false, 0, 1⟩,
    ⟨R.COX_LOOP_FLAGS.delay_over, 12, .w1c, fun _ => 0, false, 0, 1⟩,
    ⟨R.COX_LOOP_FLAGS.shed_abort, 13, .w1c, fun _ => 0, false, 0, 1⟩]⟩,
  ⟨R.COX_LOOP_DELAY, .cox, 4204, 16, 256, false, [
    ⟨R.COX_LOOP_DELAY.last, 0, .ro, fun _ => 0, false, 0, 1023⟩,
    ⟨R.COX_LOOP_DELAY.min, 10, .rc, fun _ => 1023, false, 0, 1023⟩,
    ⟨R.COX_LOOP_DELAY.max, 20, .rc, fun _ => 0, false, 0, 1023⟩]⟩,
  ⟨R.COX_SUP_CFG, .cox, 4208, 16, 256, false, [
    ⟨R.COX_SUP_CFG.sat_time, 0, .rw, fun i => if i < 256 then ([100, 100, 100, 100, 1] : List Nat).getD (i % 16) 1 else if i < 272 then ([50, 20, 25] : List Nat).getD (i % 16) 1 else if i < 288 then ([25, 20, 100, 1, 1] : List Nat).getD (i % 16) 1 else 100, false, 1, 65535⟩,
    ⟨R.COX_SUP_CFG.action, 16, .ro, fun i => if i < 256 then ([2, 0, 2, 0, 3] : List Nat).getD (i % 16) 0 else if i < 272 then ([0, 0, 2] : List Nat).getD (i % 16) 0 else if i < 288 then ([2, 2, 0, 2, 3] : List Nat).getD (i % 16) 0 else 2, false, 0, 3⟩]⟩,
  ⟨R.COX_SUP_CFG2, .cox, 4212, 16, 256, false, [
    ⟨R.COX_SUP_CFG2.plaus_time, 0, .rw, fun i => if i < 256 then ([10, 1, 10, 1, 100] : List Nat).getD (i % 16) 1 else if i < 272 then ([50, 1, 10] : List Nat).getD (i % 16) 1 else if i < 288 then ([10, 20, 1, 20, 100] : List Nat).getD (i % 16) 1 else 10, false, 1, 65535⟩,
    ⟨R.COX_SUP_CFG2.frozen_hold, 16, .rw, fun i => if i < 256 then ([10, 1, 10, 1, 500] : List Nat).getD (i % 16) 1 else if i < 272 then ([50, 1, 5] : List Nat).getD (i % 16) 1 else if i < 288 then ([5, 20, 1, 20, 500] : List Nat).getD (i % 16) 1 else 10, false, 1, 65535⟩]⟩,
  ⟨R.COX_PLAUS_THR, .cox, 4216, 16, 256, false, [
    ⟨R.COX_PLAUS_THR.thr, 0, .rw, fun i => if i < 256 then ([2068966277, 0, 2068966277, 0, 2186280960] : List Nat).getD (i % 16) 0 else if i < 272 then ([2052189061, 0, 2151677952] : List Nat).getD (i % 16) 0 else if i < 288 then ([2151677952, 2170552320, 0, 2168455168, 2186280960] : List Nat).getD (i % 16) 0 else 2068966277, false, 0, 4294967295⟩]⟩]

/-- Registers 125 to 149 of the maps. -/
def regTable5 : List RegSpec := [
  ⟨R.COX_PLAUS_RES, .cox, 4220, 16, 256, false, [
    ⟨R.COX_PLAUS_RES.res, 0, .ro, fun _ => 0, false, 0, 4294967295⟩]⟩,
  ⟨R.COX_SOFT_ILIM, .cox, 4224, 16, 256, false, [
    ⟨R.COX_SOFT_ILIM.ilim, 0, .rw, fun i => if i < 256 then ([2270822400, 0, 2219835392, 0, 0] : List Nat).getD (i % 16) 0 else if i < 272 then ([0, 0, 2236612608] : List Nat).getD (i % 16) 0 else if i < 288 then ([0, 0, 0, 2187329536, 0] : List Nat).getD (i % 16) 0 else if i % 16 < 12 then 2202009600 else if i % 2 = 0 then 2205679616 else 2202009600, false, 0, 4294967295⟩]⟩,
  ⟨R.COX_SUP_STATUS, .cox, 4228, 16, 256, false, [
    ⟨R.COX_SUP_STATUS.sat_count, 0, .ro, fun _ => 0, false, 0, 65535⟩,
    ⟨R.COX_SUP_STATUS.plaus_count, 16, .ro, fun _ => 0, false, 0, 65535⟩]⟩,
  ⟨R.COX_LOOP_SLEW, .cox, 4232, 16, 256, false, [
    ⟨R.COX_LOOP_SLEW.slew, 0, .rw, fun _ => 0, false, 0, 4294967295⟩]⟩,
  ⟨R.COX_LOOP_RPATH, .cox, 4236, 16, 256, false, [
    ⟨R.COX_LOOP_RPATH.rpath, 0, .rw, fun _ => 0, false, 0, 4294967295⟩]⟩,
  ⟨R.COX_GAIN_KP, .cox, 16384, 256, 32, false, [
    ⟨R.COX_GAIN_KP.kp, 0, .rw, fun _ => 0, false, 0, 4294967295⟩]⟩,
  ⟨R.COX_GAIN_KI, .cox, 16388, 256, 32, false, [
    ⟨R.COX_GAIN_KI.ki, 0, .rw, fun _ => 0, false, 0, 4294967295⟩]⟩,
  ⟨R.COX_GAIN_KD, .cox, 16392, 256, 32, false, [
    ⟨R.COX_GAIN_KD.kd, 0, .rw, fun _ => 0, false, 0, 4294967295⟩]⟩,
  ⟨R.COX_GAIN_DF, .cox, 16396, 256, 32, false, [
    ⟨R.COX_GAIN_DF.df, 0, .rw, fun _ => 0, false, 0, 4294967295⟩]⟩,
  ⟨R.COX_MODEL_A, .cox, 16400, 256, 32, false, [
    ⟨R.COX_MODEL_A.a, 0, .rw, fun _ => 0, false, 0, 4294967295⟩]⟩,
  ⟨R.COX_MODEL_B, .cox, 16404, 256, 32, false, [
    ⟨R.COX_MODEL_B.b, 0, .rw, fun _ => 0, false, 0, 4294967295⟩]⟩,
  ⟨R.COX_MODEL_C, .cox, 16408, 256, 32, false, [
    ⟨R.COX_MODEL_C.c, 0, .rw, fun _ => 0, false, 0, 4294967295⟩]⟩,
  ⟨R.COX_PG_TARGET, .cox, 32768, 8, 64, false, [
    ⟨R.COX_PG_TARGET.target, 0, .rw, fun _ => 0, true, 0, 4294967295⟩]⟩,
  ⟨R.COX_PG_VLIM, .cox, 32772, 8, 64, false, [
    ⟨R.COX_PG_VLIM.v, 0, .rw, fun _ => 0, true, 0, 4294967295⟩]⟩,
  ⟨R.COX_PG_ALIM, .cox, 32776, 8, 64, false, [
    ⟨R.COX_PG_ALIM.a, 0, .rw, fun _ => 0, true, 0, 4294967295⟩]⟩,
  ⟨R.COX_PG_JLIM, .cox, 32780, 8, 64, false, [
    ⟨R.COX_PG_JLIM.j, 0, .rw, fun _ => 0, true, 0, 4294967295⟩]⟩,
  ⟨R.COX_PG_POS, .cox, 32784, 8, 64, false, [
    ⟨R.COX_PG_POS.x, 0, .ro, fun _ => 0, false, 0, 4294967295⟩]⟩,
  ⟨R.COX_PG_VEL, .cox, 32788, 8, 64, false, [
    ⟨R.COX_PG_VEL.v, 0, .ro, fun _ => 0, false, 0, 4294967295⟩]⟩,
  ⟨R.COX_PG_ACC, .cox, 32792, 8, 64, false, [
    ⟨R.COX_PG_ACC.a, 0, .ro, fun _ => 0, false, 0, 4294967295⟩]⟩,
  ⟨R.COX_PG_CTRL, .cox, 32796, 8, 64, false, [
    ⟨R.COX_PG_CTRL.owner, 0, .rw, fun _ => 0, true, 0, 7⟩,
    ⟨R.COX_PG_CTRL.preset, 3, .wo, fun _ => 0, true, 0, 1⟩,
    ⟨R.COX_PG_CTRL.hold, 4, .rw, fun _ => 0, false, 0, 1⟩,
    ⟨R.COX_PG_CTRL.moving, 8, .ro, fun _ => 0, false, 0, 1⟩,
    ⟨R.COX_PG_CTRL.done, 9, .ro, fun _ => 0, false, 0, 1⟩,
    ⟨R.COX_PG_CTRL.tick_us, 16, .ro, fun i => if i < 128 then (if i % 8 = 2 ∨ i % 8 = 3 then 1 else 2) else if i < 136 then 200 else if i < 144 then 50 else 2, false, 0, 65535⟩]⟩,
  ⟨R.COX_PG_PRESET, .cox, 32800, 8, 64, false, [
    ⟨R.COX_PG_PRESET.preset, 0, .rw, fun _ => 0, false, 0, 4294967295⟩]⟩,
  ⟨R.COX_SHED_CFG, .cox, 36864, 1, 0, false, [
    ⟨R.COX_SHED_CFG.min_phases, 0, .rw, fun i => if i = 17 then 1 else 4, false, 1, 12⟩,
    ⟨R.COX_SHED_CFG.holdoff_us, 8, .rw, fun _ => 200, false, 0, 4095⟩,
    ⟨R.COX_SHED_CFG.en, 20, .rw, fun _ => 1, false, 0, 1⟩]⟩,
  ⟨R.COX_SHED_THR, .cox, 36868, 1, 0, false, [
    ⟨R.COX_SHED_THR.shed_pct, 0, .rw, fun _ => 50, false, 0, 255⟩,
    ⟨R.COX_SHED_THR.add_pct, 8, .rw, fun _ => 70, false, 0, 255⟩,
    ⟨R.COX_SHED_THR.step_mv, 16, .rw, fun _ => 15, false, 0, 255⟩,
    ⟨R.COX_SHED_THR.step_pct, 24, .rw, fun _ => 10, false, 0, 255⟩]⟩,
  ⟨R.COX_SHED_DWELL, .cox, 36872, 1, 0, false, [
    ⟨R.COX_SHED_DWELL.dwell_us, 0, .rw, fun _ => 50, false, 0, 65535⟩]⟩,
  ⟨R.COX_SHED_STATUS, .cox, 36876, 1, 0, false, [
    ⟨R.COX_SHED_STATUS.running, 0, .ro, fun i => if i = 17 then 15 else if i < 16 then 4095 else 0, false, 0, 4095⟩,
    ⟨R.COX_SHED_STATUS.count, 12, .ro, fun i => if i = 17 then 4 else if i < 16 then 12 else 0, false, 0, 15⟩,
    ⟨R.COX_SHED_STATUS.inhibited, 16, .ro, fun _ => 0, false, 0, 1⟩,
    ⟨R.COX_SHED_STATUS.shedding, 17, .ro, fun _ => 0, false, 0, 1⟩]⟩]

/-- Registers 150 to 174 of the maps. -/
def regTable6 : List RegSpec := [
  ⟨R.COX_SHED_COUNT, .cox, 36880, 1, 0, false, [
    ⟨R.COX_SHED_COUNT.sheds, 0, .rc, fun _ => 0, false, 0, 65535⟩,
    ⟨R.COX_SHED_COUNT.aborts, 16, .rc, fun _ => 0, false, 0, 65535⟩]⟩,
  ⟨R.COX_TLM_ID, .cox, 40960, 64, 32, false, [
    ⟨R.COX_TLM_ID.quantity, 0, .ro, fun i => tlmQuantity (i / 64) (i % 64), false, 0, 3⟩,
    ⟨R.COX_TLM_ID.present, 2, .ro, fun i => if tlmPresent (i / 64) (i % 64) then 1 else 0, false, 0, 1⟩]⟩,
  ⟨R.COX_TLM_AVG1MS, .cox, 40964, 64, 32, false, [
    ⟨R.COX_TLM_AVG1MS.avg, 0, .ro, fun _ => 0, false, 0, 4294967295⟩]⟩,
  ⟨R.COX_TLM_AVG100MS, .cox, 40968, 64, 32, false, [
    ⟨R.COX_TLM_AVG100MS.avg, 0, .ro, fun _ => 0, false, 0, 4294967295⟩]⟩,
  ⟨R.COX_TLM_AVG1S, .cox, 40972, 64, 32, false, [
    ⟨R.COX_TLM_AVG1S.avg, 0, .ro, fun _ => 0, false, 0, 4294967295⟩]⟩,
  ⟨R.COX_TLM_MIN, .cox, 40976, 64, 32, false, [
    ⟨R.COX_TLM_MIN.min, 0, .rc, fun _ => 2147483647, false, 0, 4294967295⟩]⟩,
  ⟨R.COX_TLM_MAX, .cox, 40980, 64, 32, false, [
    ⟨R.COX_TLM_MAX.max, 0, .rc, fun _ => 2147483648, false, 0, 4294967295⟩]⟩,
  ⟨R.COX_TLM_LAST, .cox, 40984, 64, 32, false, [
    ⟨R.COX_TLM_LAST.last, 0, .ro, fun _ => 0, false, 0, 4294967295⟩]⟩,
  ⟨R.LDG_STATUS, .ldg, 0, 1, 0, false, [
    ⟨R.LDG_STATUS.decision, 0, .rw, fun _ => 0, false, 0, 3⟩,
    ⟨R.LDG_STATUS.at_reserve, 2, .rw, fun _ => 0, false, 0, 1⟩,
    ⟨R.LDG_STATUS.forced, 3, .rw, fun _ => 0, false, 0, 1⟩,
    ⟨R.LDG_STATUS.cap_active, 4, .rw, fun _ => 0, false, 0, 1⟩,
    ⟨R.LDG_STATUS.surplus, 5, .rw, fun _ => 0, false, 0, 1⟩,
    ⟨R.LDG_STATUS.absent, 6, .rw, fun _ => 0, false, 0, 1⟩,
    ⟨R.LDG_STATUS.stale_sweep, 7, .rw, fun _ => 0, false, 0, 1⟩,
    ⟨R.LDG_STATUS.stage_limit, 8, .rw, fun _ => 0, false, 0, 1⟩,
    ⟨R.LDG_STATUS.trim_steering, 9, .rw, fun _ => 0, false, 0, 1⟩,
    ⟨R.LDG_STATUS.point, 10, .rw, fun _ => 0, false, 0, 7⟩,
    ⟨R.LDG_STATUS.window_lapses, 16, .rc, fun _ => 0, false, 0, 65535⟩]⟩,
  ⟨R.LDG_E0, .ldg, 8, 1, 0, true, [
    ⟨R.LDG_E0.e0_mj, 0, .rw, fun _ => 0, false, 0, 281474976710655⟩]⟩,
  ⟨R.LDG_EROOM, .ldg, 16, 1, 0, true, [
    ⟨R.LDG_EROOM.eroom_mj, 0, .rw, fun _ => 0, false, 0, 281474976710655⟩]⟩,
  ⟨R.LDG_ECAP, .ldg, 24, 1, 0, true, [
    ⟨R.LDG_ECAP.ecap_mj, 0, .rw, fun _ => 0, false, 0, 281474976710655⟩]⟩,
  ⟨R.LDG_RESERVE, .ldg, 32, 1, 0, false, [
    ⟨R.LDG_RESERVE.reserve_mj, 0, .rwa, fun _ => 35000000, false, 0, 4294967295⟩]⟩,
  ⟨R.LDG_ENVELOPE, .ldg, 36, 1, 0, false, [
    ⟨R.LDG_ENVELOPE.level_max_w, 0, .rwa, fun _ => 10500, false, 0, 16383⟩]⟩,
  ⟨R.LDG_LIMITS, .ldg, 40, 1, 0, false, [
    ⟨R.LDG_LIMITS.v_lim, 0, .rwa, fun _ => 200, false, 0, 2047⟩,
    ⟨R.LDG_LIMITS.a_lim, 11, .rwa, fun _ => 100, false, 0, 1023⟩,
    ⟨R.LDG_LIMITS.j_lim, 21, .rwa, fun _ => 100, false, 0, 1023⟩]⟩,
  ⟨R.LDG_LEVEL, .ldg, 44, 1, 0, false, [
    ⟨R.LDG_LEVEL.level_w, 0, .rw, fun _ => 1200, false, 0, 16383⟩,
    ⟨R.LDG_LEVEL.trim_pct, 14, .rw, fun _ => 60, false, 30, 80⟩]⟩,
  ⟨R.LDG_CFG, .ldg, 48, 1, 0, false, [
    ⟨R.LDG_CFG.horizon_ms, 0, .rw, fun _ => 1000, false, 100, 4000⟩,
    ⟨R.LDG_CFG.trim_tau_s, 12, .rw, fun _ => 60, false, 5, 255⟩,
    ⟨R.LDG_CFG.band_kj, 20, .rw, fun _ => 2, false, 0, 20⟩,
    ⟨R.LDG_CFG.margin_kj, 25, .rw, fun _ => 5, false, 1, 20⟩]⟩,
  ⟨R.LDG_CFG2, .ldg, 52, 1, 0, false, [
    ⟨R.LDG_CFG2.stop_kj, 0, .rw, fun _ => 5, false, 2, 20⟩,
    ⟨R.LDG_CFG2.full_margin_kj, 5, .rw, fun _ => 2, false, 1, 20⟩,
    ⟨R.LDG_CFG2.period_step_us, 10, .rw, fun _ => 1000, false, 100, 10000⟩]⟩,
  ⟨R.LDG_CFG3, .ldg, 56, 1, 0, false, [
    ⟨R.LDG_CFG3.eta_in, 0, .rw, fun _ => 972, false, 0, 1023⟩,
    ⟨R.LDG_CFG3.eta_port, 10, .rw, fun _ => 980, false, 0, 1023⟩,
    ⟨R.LDG_CFG3.port_w, 20, .rw, fun _ => 580, false, 100, 600⟩]⟩,
  ⟨R.LDG_REQUEST, .ldg, 64, 1, 0, false, [
    ⟨R.LDG_REQUEST.period_us, 0, .rw, fun _ => 0, false, 0, 2147483647⟩,
    ⟨R.LDG_REQUEST.fresh, 31, .rw, fun _ => 0, false, 0, 1⟩]⟩,
  ⟨R.LDG_START_DELAY, .ldg, 68, 1, 0, false, [
    ⟨R.LDG_START_DELAY.start_delay_us, 0, .rw, fun _ => 0, false, 0, 4294967295⟩]⟩,
  ⟨R.LDG_HEADROOM, .ldg, 72, 1, 0, false, [
    ⟨R.LDG_HEADROOM.headroom_mj, 0, .rw, fun _ => 0, false, 0, 4294967295⟩]⟩,
  ⟨R.LDG_LEVEL_WANTED, .ldg, 76, 1, 0, false, [
    ⟨R.LDG_LEVEL_WANTED.level_w, 0, .rw, fun _ => 0, false, 0, 16383⟩]⟩,
  ⟨R.LDG_FLOOR, .ldg, 80, 1, 0, false, [
    ⟨R.LDG_FLOOR.floor_w, 0, .rw, fun _ => 0, false, 0, 16383⟩]⟩,
  ⟨R.LDG_TELEGRAM, .ldg, 84, 1, 0, false, [
    ⟨R.LDG_TELEGRAM.stale, 0, .rc, fun _ => 0, false, 0, 65535⟩]⟩]

/-- Registers 175 to 199 of the maps. -/
def regTable7 : List RegSpec := [
  ⟨R.LDG_DRIFT, .ldg, 88, 1, 0, false, [
    ⟨R.LDG_DRIFT.drift_mj, 0, .rw, fun _ => 0, false, 0, 4294967295⟩]⟩,
  ⟨R.LDG_ACC_IN, .ldg, 128, 1, 0, true, [
    ⟨R.LDG_ACC_IN.uj, 0, .ro, fun _ => 0, false, 0, 18446744073709551615⟩]⟩,
  ⟨R.LDG_ACC_PACK_DIS, .ldg, 136, 1, 0, true, [
    ⟨R.LDG_ACC_PACK_DIS.uj, 0, .ro, fun _ => 0, false, 0, 18446744073709551615⟩]⟩,
  ⟨R.LDG_ACC_PACK_CHG, .ldg, 144, 1, 0, true, [
    ⟨R.LDG_ACC_PACK_CHG.uj, 0, .ro, fun _ => 0, false, 0, 18446744073709551615⟩]⟩,
  ⟨R.LDG_ACC_DRIVE, .ldg, 152, 1, 0, true, [
    ⟨R.LDG_ACC_DRIVE.uj, 0, .ro, fun _ => 0, false, 0, 18446744073709551615⟩]⟩,
  ⟨R.LDG_ACC_FEATHER, .ldg, 160, 1, 0, true, [
    ⟨R.LDG_ACC_FEATHER.uj, 0, .ro, fun _ => 0, false, 0, 18446744073709551615⟩]⟩,
  ⟨R.STP_CTRL, .stp, 0, 1, 0, false, [
    ⟨R.STP_CTRL.close, 0, .rw, fun _ => 0, true, 0, 1⟩,
    ⟨R.STP_CTRL.port_en, 1, .rw, fun _ => 0, false, 0, 1⟩,
    ⟨R.STP_CTRL.discharge_cap, 2, .wo, fun _ => 0, true, 0, 1⟩]⟩,
  ⟨R.STP_STATUS, .stp, 4, 1, 0, false, [
    ⟨R.STP_STATUS.aux_pos, 0, .ro, fun _ => 0, false, 0, 1⟩,
    ⟨R.STP_STATUS.aux_neg, 1, .ro, fun _ => 0, false, 0, 1⟩,
    ⟨R.STP_STATUS.state, 2, .ro, fun _ => 0, false, 0, 7⟩,
    ⟨R.STP_STATUS.chg_limit, 5, .ro, fun _ => 0, false, 0, 1⟩,
    ⟨R.STP_STATUS.dis_limit, 6, .ro, fun _ => 0, false, 0, 1⟩,
    ⟨R.STP_STATUS.pack_fault, 7, .ro, fun _ => 0, false, 0, 1⟩]⟩,
  ⟨R.STP_PACK_V, .stp, 8, 1, 0, false, [
    ⟨R.STP_PACK_V.mv, 0, .ro, fun _ => 0, false, 0, 262143⟩]⟩,
  ⟨R.STP_PACK_I, .stp, 12, 1, 0, false, [
    ⟨R.STP_PACK_I.ma, 0, .ro, fun _ => 0, false, 0, 4294967295⟩]⟩,
  ⟨R.STP_BUS_P, .stp, 16, 1, 0, false, [
    ⟨R.STP_BUS_P.mw, 0, .ro, fun _ => 0, false, 0, 4294967295⟩]⟩,
  ⟨R.STP_BREAKS, .stp, 20, 1, 0, false, [
    ⟨R.STP_BREAKS.breaks, 0, .ro, fun _ => 0, false, 0, 255⟩]⟩,
  ⟨R.STP_INSULATION, .stp, 24, 1, 0, false, [
    ⟨R.STP_INSULATION.kohm, 0, .ro, fun _ => 0, false, 0, 65535⟩]⟩,
  ⟨R.STP_TEMP, .stp, 28, 1, 0, false, [
    ⟨R.STP_TEMP.centi_c, 0, .ro, fun _ => 0, false, 0, 65535⟩]⟩,
  ⟨R.CMN_CTRL, .cmn, 0, 1, 0, false, [
    ⟨R.CMN_CTRL.sweep_en, 0, .rw, fun _ => 0, false, 0, 1⟩,
    ⟨R.CMN_CTRL.period_ms, 1, .rw, fun _ => 10, false, 5, 20⟩,
    ⟨R.CMN_CTRL.enumerate, 8, .wo, fun _ => 0, true, 0, 1⟩]⟩,
  ⟨R.CMN_RING_STATUS, .cmn, 4, 1, 0, false, [
    ⟨R.CMN_RING_STATUS.mode, 0, .ro, fun _ => 0, false, 0, 3⟩,
    ⟨R.CMN_RING_STATUS.break_seg, 2, .ro, fun _ => 7, false, 0, 7⟩,
    ⟨R.CMN_RING_STATUS.reach_f, 5, .ro, fun _ => 0, false, 0, 15⟩,
    ⟨R.CMN_RING_STATUS.reach_r, 9, .ro, fun _ => 0, false, 0, 15⟩,
    ⟨R.CMN_RING_STATUS.addr_ok, 13, .ro, fun _ => 0, false, 0, 1⟩]⟩,
  ⟨R.CMN_SWEEP_STATUS, .cmn, 8, 1, 0, false, [
    ⟨R.CMN_SWEEP_STATUS.sweep, 0, .ro, fun _ => 0, false, 0, 65535⟩,
    ⟨R.CMN_SWEEP_STATUS.valid, 16, .ro, fun _ => 0, false, 0, 1⟩,
    ⟨R.CMN_SWEEP_STATUS.stale, 17, .ro, fun _ => 0, false, 0, 1⟩,
    ⟨R.CMN_SWEEP_STATUS.skewed, 18, .ro, fun _ => 0, false, 0, 1⟩,
    ⟨R.CMN_SWEEP_STATUS.duration, 20, .ro, fun _ => 0, false, 0, 4095⟩]⟩,
  ⟨R.CMN_SWEEP_SKEW, .cmn, 12, 1, 0, false, [
    ⟨R.CMN_SWEEP_SKEW.skew_0, 0, .ro, fun _ => 255, false, 0, 255⟩,
    ⟨R.CMN_SWEEP_SKEW.skew_1, 8, .ro, fun _ => 255, false, 0, 255⟩,
    ⟨R.CMN_SWEEP_SKEW.skew_2, 16, .ro, fun _ => 255, false, 0, 255⟩,
    ⟨R.CMN_SWEEP_SKEW.skew_3, 24, .ro, fun _ => 255, false, 0, 255⟩]⟩,
  ⟨R.CMN_CELL_V, .cmn, 256, 32, 4, false, [
    ⟨R.CMN_CELL_V.v, 0, .ro, fun _ => 0, false, 0, 65535⟩,
    ⟨R.CMN_CELL_V.v_raw, 16, .ro, fun _ => 0, false, 0, 65535⟩]⟩,
  ⟨R.CMN_TEMP, .cmn, 384, 8, 4, false, [
    ⟨R.CMN_TEMP.t, 0, .ro, fun _ => 0, false, 0, 65535⟩,
    ⟨R.CMN_TEMP.fault, 16, .ro, fun _ => 0, false, 0, 1⟩]⟩,
  ⟨R.CMN_MON, .cmn, 416, 4, 4, false, [
    ⟨R.CMN_MON.die_c, 0, .ro, fun _ => 0, false, 0, 255⟩,
    ⟨R.CMN_MON.bleed_on, 8, .ro, fun _ => 0, false, 0, 255⟩,
    ⟨R.CMN_MON.self_check_ok, 16, .ro, fun _ => 0, false, 0, 1⟩,
    ⟨R.CMN_MON.via_reverse, 17, .ro, fun _ => 0, false, 0, 1⟩,
    ⟨R.CMN_MON.alert, 18, .ro, fun _ => 0, false, 0, 1⟩,
    ⟨R.CMN_MON.strap, 19, .ro, fun _ => 0, false, 0, 3⟩]⟩,
  ⟨R.CMN_PACK, .cmn, 448, 1, 0, false, [
    ⟨R.CMN_PACK.sum_mv, 0, .ro, fun _ => 0, false, 0, 262143⟩]⟩,
  ⟨R.CMN_PACK_I, .cmn, 452, 1, 0, false, [
    ⟨R.CMN_PACK_I.ma, 0, .ro, fun _ => 0, false, 0, 4294967295⟩]⟩,
  ⟨R.CMN_EXTREMES, .cmn, 456, 1, 0, false, [
    ⟨R.CMN_EXTREMES.max_cell, 0, .ro, fun _ => 0, false, 0, 31⟩,
    ⟨R.CMN_EXTREMES.min_cell, 5, .ro, fun _ => 0, false, 0, 31⟩,
    ⟨R.CMN_EXTREMES.spread, 10, .ro, fun _ => 0, false, 0, 65535⟩]⟩,
  ⟨R.CMN_LIMITS, .cmn, 460, 1, 0, false, [
    ⟨R.CMN_LIMITS.chg_stop, 0, .ro, fun _ => 0, false, 0, 1⟩,
    ⟨R.CMN_LIMITS.dis_stop, 1, .ro, fun _ => 0, false, 0, 1⟩,
    ⟨R.CMN_LIMITS.stale_inhibit, 2, .ro, fun _ => 0, false, 0, 1⟩]⟩]

/-- Registers 200 to 224 of the maps. -/
def regTable8 : List RegSpec := [
  ⟨R.CMN_BAL_POLICY, .cmn, 512, 1, 0, false, [
    ⟨R.CMN_BAL_POLICY.mode, 0, .rw, fun _ => 1, false, 0, 1⟩,
    ⟨R.CMN_BAL_POLICY.threshold_mv, 2, .rw, fun _ => 8, false, 4, 100⟩,
    ⟨R.CMN_BAL_POLICY.hyst_mv, 10, .rw, fun _ => 3, false, 1, 15⟩,
    ⟨R.CMN_BAL_POLICY.min_mv, 14, .rw, fun _ => 3000, false, 2500, 3800⟩,
    ⟨R.CMN_BAL_POLICY.temp_max_c, 26, .rw, fun _ => 55, false, 30, 63⟩]⟩,
  ⟨R.CMN_BAL_MASK, .cmn, 516, 1, 0, false, [
    ⟨R.CMN_BAL_MASK.mask, 0, .ro, fun _ => 0, false, 0, 4294967295⟩]⟩,
  ⟨R.CMN_BAL_FAULT, .cmn, 520, 1, 0, false, [
    ⟨R.CMN_BAL_FAULT.stuck, 0, .w1c, fun _ => 0, false, 0, 4294967295⟩]⟩,
  ⟨R.CMN_TRIP_CFG0, .cmn, 768, 1, 0, false, [
    ⟨R.CMN_TRIP_CFG0.cell_ov_mv, 0, .rwa, fun _ => 3800, false, 0, 4095⟩,
    ⟨R.CMN_TRIP_CFG0.cell_uv_mv, 12, .rwa, fun _ => 2400, false, 0, 4095⟩]⟩,
  ⟨R.CMN_TRIP_CFG1, .cmn, 772, 1, 0, false, [
    ⟨R.CMN_TRIP_CFG1.cell_ot_c, 0, .rwa, fun _ => 65, false, 0, 255⟩,
    ⟨R.CMN_TRIP_CFG1.cell_ut_c, 8, .rwa, fun _ => 231, false, 0, 255⟩,
    ⟨R.CMN_TRIP_CFG1.spread_mv, 16, .rwa, fun _ => 150, false, 0, 255⟩]⟩,
  ⟨R.CMN_TRIP_STATUS, .cmn, 776, 1, 0, false, [
    ⟨R.CMN_TRIP_STATUS.tripped, 0, .ro, fun _ => 0, false, 0, 511⟩,
    ⟨R.CMN_TRIP_STATUS.item, 16, .ro, fun _ => 0, false, 0, 31⟩]⟩,
  ⟨R.CMN_FRAME_ERR, .cmn, 784, 1, 0, false, [
    ⟨R.CMN_FRAME_ERR.crc, 0, .rc, fun _ => 0, false, 0, 255⟩,
    ⟨R.CMN_FRAME_ERR.repeats, 8, .rc, fun _ => 0, false, 0, 255⟩,
    ⟨R.CMN_FRAME_ERR.skip, 16, .rc, fun _ => 0, false, 0, 255⟩,
    ⟨R.CMN_FRAME_ERR.backward, 24, .rc, fun _ => 0, false, 0, 255⟩]⟩,
  ⟨R.CMN_FRAME_ERR2, .cmn, 788, 1, 0, false, [
    ⟨R.CMN_FRAME_ERR2.timeout, 0, .rc, fun _ => 0, false, 0, 255⟩,
    ⟨R.CMN_FRAME_ERR2.breaks, 8, .rc, fun _ => 0, false, 0, 255⟩,
    ⟨R.CMN_FRAME_ERR2.reverse_converts, 16, .rc, fun _ => 0, false, 0, 255⟩]⟩,
  ⟨R.CMN_RCELL, .cmn, 1024, 32, 4, false, [
    ⟨R.CMN_RCELL.r_uohm, 0, .rw, fun _ => 800, false, 0, 65535⟩]⟩,
  ⟨R.GBL_ID, .gbl, 0, 1, 0, false, [
    ⟨R.GBL_ID.part, 0, .ro, fun _ => 24960, false, 0, 65535⟩,
    ⟨R.GBL_ID.silicon_step, 16, .ro, fun _ => 0, false, 0, 255⟩,
    ⟨R.GBL_ID.board_step, 24, .ro, fun _ => 0, false, 0, 255⟩]⟩,
  ⟨R.GBL_SERIAL, .gbl, 8, 1, 0, true, [
    ⟨R.GBL_SERIAL.serial, 0, .ro, fun _ => 0, false, 0, 18446744073709551615⟩]⟩,
  ⟨R.GBL_FW, .gbl, 16, 1, 0, false, [
    ⟨R.GBL_FW.build, 0, .ro, fun _ => 0, false, 0, 65535⟩,
    ⟨R.GBL_FW.minor, 16, .ro, fun _ => 0, false, 0, 255⟩,
    ⟨R.GBL_FW.major, 24, .ro, fun _ => 0, false, 0, 127⟩,
    ⟨R.GBL_FW.slot, 31, .ro, fun _ => 0, false, 0, 1⟩]⟩,
  ⟨R.GBL_LEVELS, .gbl, 20, 1, 0, false, [
    ⟨R.GBL_LEVELS.plan_level_max, 0, .ro, fun _ => 1, false, 0, 15⟩,
    ⟨R.GBL_LEVELS.korrel_level_min, 4, .ro, fun _ => 1, false, 0, 15⟩,
    ⟨R.GBL_LEVELS.korrel_level_max, 8, .ro, fun _ => 2, false, 0, 15⟩,
    ⟨R.GBL_LEVELS.telegram_level_max, 12, .ro, fun _ => 1, false, 0, 15⟩]⟩,
  ⟨R.GBL_STATUS, .gbl, 24, 1, 0, false, [
    ⟨R.GBL_STATUS.power_state, 0, .ro, fun _ => 0, false, 0, 15⟩,
    ⟨R.GBL_STATUS.run_state, 4, .ro, fun _ => 0, false, 0, 7⟩,
    ⟨R.GBL_STATUS.joined, 7, .ro, fun _ => 0, false, 0, 1⟩,
    ⟨R.GBL_STATUS.seat, 8, .ro, fun _ => 0, false, 0, 1⟩,
    ⟨R.GBL_STATUS.paired, 9, .ro, fun _ => 0, false, 0, 1⟩,
    ⟨R.GBL_STATUS.shepherd, 10, .ro, fun _ => 0, false, 0, 1⟩,
    ⟨R.GBL_STATUS.protected, 11, .ro, fun _ => 0, false, 0, 1⟩,
    ⟨R.GBL_STATUS.draining, 12, .ro, fun _ => 0, false, 0, 1⟩,
    ⟨R.GBL_STATUS.pull_ready, 13, .ro, fun _ => 0, false, 0, 1⟩,
    ⟨R.GBL_STATUS.cap_active, 14, .ro, fun _ => 0, false, 0, 1⟩,
    ⟨R.GBL_STATUS.degraded, 15, .ro, fun _ => 0, false, 0, 1⟩]⟩,
  ⟨R.GBL_SLOT, .gbl, 28, 1, 0, false, [
    ⟨R.GBL_SLOT.slot, 0, .ro, fun _ => 0, false, 0, 7⟩,
    ⟨R.GBL_SLOT.present, 3, .ro, fun _ => 0, false, 0, 1⟩]⟩,
  ⟨R.GBL_MODULE, .gbl, 32, 1, 0, false, [
    ⟨R.GBL_MODULE.index, 0, .ro, fun _ => 0, false, 0, 16383⟩,
    ⟨R.GBL_MODULE.valid, 31, .ro, fun _ => 0, false, 0, 1⟩]⟩,
  ⟨R.GBL_PCIE, .gbl, 36, 1, 0, false, [
    ⟨R.GBL_PCIE.rate, 0, .ro, fun _ => 0, false, 0, 7⟩,
    ⟨R.GBL_PCIE.width, 3, .ro, fun _ => 0, false, 0, 31⟩,
    ⟨R.GBL_PCIE.no_flit, 8, .ro, fun _ => 0, false, 0, 1⟩]⟩,
  ⟨R.GBL_CLAIM_AUX, .gbl, 48, 1, 0, false, [
    ⟨R.GBL_CLAIM_AUX.holder, 0, .ro, fun _ => 0, false, 0, 3⟩]⟩,
  ⟨R.GBL_BUF_CLAIM, .gbl, 64, 16, 4, false, [
    ⟨R.GBL_BUF_CLAIM.trace_units, 0, .ro, fun _ => 0, false, 0, 15⟩,
    ⟨R.GBL_BUF_CLAIM.sample_units, 4, .ro, fun _ => 0, false, 0, 15⟩,
    ⟨R.GBL_BUF_CLAIM.trace_timers, 8, .ro, fun _ => 0, false, 0, 15⟩,
    ⟨R.GBL_BUF_CLAIM.sample_timers, 12, .ro, fun _ => 0, false, 0, 15⟩]⟩,
  ⟨R.GBL_SCRATCH, .gbl, 1008, 1, 0, false, [
    ⟨R.GBL_SCRATCH.scratch, 0, .rw, fun _ => 0, false, 0, 4294967295⟩]⟩,
  ⟨R.MBX_DOORBELL, .mbx, 0, 1, 0, false, [
    ⟨R.MBX_DOORBELL.ring, 0, .wo, fun _ => 0, true, 0, 1⟩]⟩,
  ⟨R.MBX_STATUS, .mbx, 4, 1, 0, false, [
    ⟨R.MBX_STATUS.state, 0, .ro, fun _ => 0, false, 0, 3⟩,
    ⟨R.MBX_STATUS.overrun, 2, .w1c, fun _ => 0, false, 0, 1⟩,
    ⟨R.MBX_STATUS.skipped, 16, .rc, fun _ => 0, false, 0, 65535⟩]⟩,
  ⟨R.MBX_ALIVE, .mbx, 8, 1, 0, false, [
    ⟨R.MBX_ALIVE.last, 0, .ro, fun _ => 0, false, 0, 65535⟩,
    ⟨R.MBX_ALIVE.seen, 16, .ro, fun _ => 0, false, 0, 1⟩]⟩,
  ⟨R.MBX_TIME, .mbx, 12, 1, 0, false, [
    ⟨R.MBX_TIME.last_us, 0, .ro, fun _ => 0, false, 0, 4294967295⟩]⟩,
  ⟨R.IRQ_CAUSE, .irq, 0, 1, 0, true, [
    ⟨R.IRQ_CAUSE.cause, 0, .w1c, fun _ => 0, true, 0, 1073741823⟩]⟩]

/-- Registers 225 to 249 of the maps. -/
def regTable9 : List RegSpec := [
  ⟨R.IRQ_MASK, .irq, 8, 1, 0, true, [
    ⟨R.IRQ_MASK.mask, 0, .rw, fun _ => 1073741823, true, 0, 1073741823⟩]⟩,
  ⟨R.IRQ_TEST, .irq, 16, 1, 0, true, [
    ⟨R.IRQ_TEST.set, 0, .wo, fun _ => 0, true, 0, 1073741823⟩]⟩,
  ⟨R.SHP_STATUS, .shp, 0, 1, 0, false, [
    ⟨R.SHP_STATUS.active, 0, .ro, fun _ => 0, false, 0, 1⟩,
    ⟨R.SHP_STATUS.a_state, 1, .ro, fun _ => 0, false, 0, 7⟩,
    ⟨R.SHP_STATUS.b_state, 4, .ro, fun _ => 0, false, 0, 7⟩,
    ⟨R.SHP_STATUS.protected, 7, .ro, fun _ => 0, false, 0, 1⟩,
    ⟨R.SHP_STATUS.handback_pending, 8, .ro, fun _ => 0, false, 0, 1⟩,
    ⟨R.SHP_STATUS.no_shepherd, 9, .ro, fun _ => 0, false, 0, 1⟩]⟩,
  ⟨R.SHP_EVENTS, .shp, 4, 1, 0, false, [
    ⟨R.SHP_EVENTS.takeover, 0, .w1c, fun _ => 0, false, 0, 1⟩,
    ⟨R.SHP_EVENTS.handback, 1, .w1c, fun _ => 0, false, 0, 1⟩,
    ⟨R.SHP_EVENTS.a_failed, 2, .w1c, fun _ => 0, false, 0, 1⟩,
    ⟨R.SHP_EVENTS.b_failed, 3, .w1c, fun _ => 0, false, 0, 1⟩,
    ⟨R.SHP_EVENTS.journal_busy, 4, .w1c, fun _ => 0, false, 0, 1⟩,
    ⟨R.SHP_EVENTS.isolated, 5, .w1c, fun _ => 0, false, 0, 1⟩]⟩,
  ⟨R.SHP_COUNTS, .shp, 8, 1, 0, false, [
    ⟨R.SHP_COUNTS.takeovers, 0, .rc, fun _ => 0, false, 0, 255⟩,
    ⟨R.SHP_COUNTS.handbacks, 8, .rc, fun _ => 0, false, 0, 255⟩,
    ⟨R.SHP_COUNTS.restarts, 16, .rc, fun _ => 0, false, 0, 255⟩,
    ⟨R.SHP_COUNTS.alive_errors, 24, .rc, fun _ => 0, false, 0, 255⟩]⟩,
  ⟨R.SHP_LAST_TAKEOVER, .shp, 16, 1, 0, true, [
    ⟨R.SHP_LAST_TAKEOVER.op_ms, 0, .ro, fun _ => 0, false, 0, 1099511627775⟩,
    ⟨R.SHP_LAST_TAKEOVER.cause, 40, .ro, fun _ => 0, false, 0, 255⟩,
    ⟨R.SHP_LAST_TAKEOVER.takeover_us, 48, .ro, fun _ => 0, false, 0, 65535⟩]⟩,
  ⟨R.SHP_SYNCAUX, .shp, 32, 1, 0, false, [
    ⟨R.SHP_SYNCAUX.mode, 0, .ro, fun _ => 0, false, 0, 3⟩,
    ⟨R.SHP_SYNCAUX.missed, 8, .rc, fun _ => 0, false, 0, 255⟩]⟩,
  ⟨R.SHP_SYNCAUX_TS, .shp, 40, 1, 0, true, [
    ⟨R.SHP_SYNCAUX_TS.ns, 0, .ro, fun _ => 0, false, 0, 18446744073709551615⟩]⟩,
  ⟨R.SHP_TRUST, .shp, 48, 1, 0, false, [
    ⟨R.SHP_TRUST.provider_key, 0, .ro, fun _ => 0, false, 0, 1⟩,
    ⟨R.SHP_TRUST.tenant_key, 1, .ro, fun _ => 0, false, 0, 1⟩,
    ⟨R.SHP_TRUST.debug_level, 2, .ro, fun _ => 0, false, 0, 3⟩,
    ⟨R.SHP_TRUST.provider_nonces, 8, .ro, fun _ => 0, false, 0, 15⟩,
    ⟨R.SHP_TRUST.tenant_nonces, 12, .ro, fun _ => 0, false, 0, 15⟩]⟩,
  ⟨R.SHP_FW_SLOTS, .shp, 52, 1, 0, false, [
    ⟨R.SHP_FW_SLOTS.running_slot, 0, .ro, fun _ => 0, false, 0, 1⟩,
    ⟨R.SHP_FW_SLOTS.trial, 1, .ro, fun _ => 0, false, 0, 1⟩,
    ⟨R.SHP_FW_SLOTS.trial_slot, 2, .ro, fun _ => 0, false, 0, 1⟩,
    ⟨R.SHP_FW_SLOTS.other_valid, 3, .ro, fun _ => 0, false, 0, 1⟩,
    ⟨R.SHP_FW_SLOTS.trial_resets, 4, .ro, fun _ => 0, false, 0, 3⟩,
    ⟨R.SHP_FW_SLOTS.svn_min, 16, .ro, fun _ => 0, false, 0, 65535⟩]⟩,
  ⟨R.LGB_CTRL, .lgb, 0, 1, 0, false, [
    ⟨R.LGB_CTRL.area, 0, .rw, fun _ => 2, false, 0, 2⟩,
    ⟨R.LGB_CTRL.load, 2, .wo, fun _ => 0, true, 0, 1⟩,
    ⟨R.LGB_CTRL.advance, 3, .wo, fun _ => 0, true, 0, 1⟩,
    ⟨R.LGB_CTRL.follow, 4, .rw, fun _ => 0, false, 0, 1⟩]⟩,
  ⟨R.LGB_CURSOR, .lgb, 8, 1, 0, true, [
    ⟨R.LGB_CURSOR.seq, 0, .rw, fun _ => 0, false, 0, 18446744073709551615⟩]⟩,
  ⟨R.LGB_WIN_STATUS, .lgb, 16, 1, 0, false, [
    ⟨R.LGB_WIN_STATUS.state, 0, .ro, fun _ => 0, false, 0, 3⟩,
    ⟨R.LGB_WIN_STATUS.atEnd, 2, .ro, fun _ => 0, false, 0, 1⟩,
    ⟨R.LGB_WIN_STATUS.skipped, 3, .ro, fun _ => 0, false, 0, 1⟩,
    ⟨R.LGB_WIN_STATUS.count, 8, .ro, fun _ => 0, false, 0, 255⟩,
    ⟨R.LGB_WIN_STATUS.bytes, 16, .ro, fun _ => 0, false, 0, 8191⟩]⟩,
  ⟨R.LGB_FIRST_OLDEST, .lgb, 32, 1, 0, true, [
    ⟨R.LGB_FIRST_OLDEST.seq, 0, .ro, fun _ => 0, false, 0, 18446744073709551615⟩]⟩,
  ⟨R.LGB_FIRST_NEWEST, .lgb, 40, 1, 0, true, [
    ⟨R.LGB_FIRST_NEWEST.seq, 0, .ro, fun _ => 0, false, 0, 18446744073709551615⟩]⟩,
  ⟨R.LGB_LAST_OLDEST, .lgb, 48, 1, 0, true, [
    ⟨R.LGB_LAST_OLDEST.seq, 0, .ro, fun _ => 0, false, 0, 18446744073709551615⟩]⟩,
  ⟨R.LGB_LAST_NEWEST, .lgb, 56, 1, 0, true, [
    ⟨R.LGB_LAST_NEWEST.seq, 0, .ro, fun _ => 0, false, 0, 18446744073709551615⟩]⟩,
  ⟨R.LGB_STATUS, .lgb, 64, 1, 0, false, [
    ⟨R.LGB_STATUS.first_full, 0, .ro, fun _ => 0, false, 0, 1⟩,
    ⟨R.LGB_STATUS.mirror_behind, 1, .ro, fun _ => 0, false, 0, 1⟩,
    ⟨R.LGB_STATUS.clearing, 2, .ro, fun _ => 0, false, 0, 1⟩,
    ⟨R.LGB_STATUS.bad, 8, .rc, fun _ => 0, false, 0, 255⟩,
    ⟨R.LGB_STATUS.lost, 16, .rc, fun _ => 0, false, 0, 65535⟩]⟩,
  ⟨R.LGB_FILL, .lgb, 68, 1, 0, false, [
    ⟨R.LGB_FILL.first_kib, 0, .ro, fun _ => 0, false, 0, 4095⟩,
    ⟨R.LGB_FILL.erased, 16, .rc, fun _ => 0, false, 0, 65535⟩]⟩,
  ⟨R.PMC_S_SEL, .pmcs, 0, 8, 4, false, [
    ⟨R.PMC_S_SEL.event, 0, .rw, fun _ => 0, false, 0, 255⟩,
    ⟨R.PMC_S_SEL.mode, 8, .rw, fun _ => 0, false, 0, 3⟩,
    ⟨R.PMC_S_SEL.irq, 10, .rw, fun _ => 0, false, 0, 1⟩,
    ⟨R.PMC_S_SEL.interval, 11, .rw, fun _ => 0, false, 0, 1⟩,
    ⟨R.PMC_S_SEL.threshold, 16, .rw, fun _ => 0, false, 0, 255⟩,
    ⟨R.PMC_S_SEL.unit, 24, .rw, fun _ => 0, false, 0, 255⟩]⟩,
  ⟨R.PMC_S_CNT, .pmcs, 64, 8, 8, true, [
    ⟨R.PMC_S_CNT.count, 0, .rw, fun _ => 0, true, 0, 281474976710655⟩]⟩,
  ⟨R.PMC_S_RELOAD, .pmcs, 128, 8, 8, true, [
    ⟨R.PMC_S_RELOAD.reload, 0, .rw, fun _ => 0, false, 0, 281474976710655⟩]⟩,
  ⟨R.PMC_S_SNAP, .pmcs, 192, 8, 8, true, [
    ⟨R.PMC_S_SNAP.snap, 0, .ro, fun _ => 0, false, 0, 281474976710655⟩]⟩,
  ⟨R.PMC_S_SNAP_STROKE, .pmcs, 256, 1, 0, true, [
    ⟨R.PMC_S_SNAP_STROKE.stroke, 0, .ro, fun _ => 0, false, 0, 281474976710655⟩]⟩,
  ⟨R.PMC_STN_CFG, .pmcs, 264, 1, 0, false, [
    ⟨R.PMC_STN_CFG.timer, 0, .rw, fun _ => 0, false, 0, 3⟩,
    ⟨R.PMC_STN_CFG.interval_en, 2, .rw, fun _ => 0, false, 0, 1⟩]⟩]

/-- Registers 250 to 272 of the maps. -/
def regTable10 : List RegSpec := [
  ⟨R.PMC_STN_STATUS, .pmcs, 268, 1, 0, false, [
    ⟨R.PMC_STN_STATUS.overflow, 0, .w1c, fun _ => 0, false, 0, 255⟩,
    ⟨R.PMC_STN_STATUS.granted, 8, .ro, fun _ => 0, false, 0, 1⟩,
    ⟨R.PMC_STN_STATUS.dropped, 16, .rc, fun _ => 0, false, 0, 65535⟩]⟩,
  ⟨R.PMC_D_SEL, .pmcd, 0, 16, 4, false, [
    ⟨R.PMC_D_SEL.event, 0, .rw, fun _ => 0, false, 0, 255⟩,
    ⟨R.PMC_D_SEL.mode, 8, .rw, fun _ => 0, false, 0, 3⟩,
    ⟨R.PMC_D_SEL.irq, 10, .rw, fun _ => 0, false, 0, 1⟩,
    ⟨R.PMC_D_SEL.interval, 11, .rw, fun _ => 0, false, 0, 1⟩,
    ⟨R.PMC_D_SEL.threshold, 16, .rw, fun _ => 0, false, 0, 255⟩,
    ⟨R.PMC_D_SEL.unit, 24, .rw, fun _ => 0, false, 0, 255⟩]⟩,
  ⟨R.PMC_D_CNT, .pmcd, 64, 16, 8, true, [
    ⟨R.PMC_D_CNT.count, 0, .rw, fun _ => 0, true, 0, 281474976710655⟩]⟩,
  ⟨R.PMC_D_RELOAD, .pmcd, 192, 16, 8, true, [
    ⟨R.PMC_D_RELOAD.reload, 0, .rw, fun _ => 0, false, 0, 281474976710655⟩]⟩,
  ⟨R.PMC_D_SNAP, .pmcd, 320, 16, 8, true, [
    ⟨R.PMC_D_SNAP.snap, 0, .ro, fun _ => 0, false, 0, 281474976710655⟩]⟩,
  ⟨R.PMC_D_SNAP_STROKE, .pmcd, 448, 1, 0, true, [
    ⟨R.PMC_D_SNAP_STROKE.stroke, 0, .ro, fun _ => 0, false, 0, 281474976710655⟩]⟩,
  ⟨R.PMC_DIE_STATUS, .pmcd, 456, 1, 0, false, [
    ⟨R.PMC_DIE_STATUS.overflow, 0, .w1c, fun _ => 0, false, 0, 65535⟩,
    ⟨R.PMC_DIE_STATUS.dropped, 16, .rc, fun _ => 0, false, 0, 65535⟩]⟩,
  ⟨R.PMC_AGG, .pmcd, 512, 8, 8, true, [
    ⟨R.PMC_AGG.sum, 0, .ro, fun _ => 0, false, 0, 281474976710655⟩,
    ⟨R.PMC_AGG.event, 48, .ro, fun _ => 0, false, 0, 255⟩]⟩,
  ⟨R.PMC_BUF_CFG, .pmcd, 768, 1, 0, false, [
    ⟨R.PMC_BUF_CFG.trace_units, 0, .rw, fun _ => 0, true, 0, 15⟩,
    ⟨R.PMC_BUF_CFG.sample_units, 4, .rw, fun _ => 0, true, 0, 15⟩,
    ⟨R.PMC_BUF_CFG.wrap, 8, .rw, fun _ => 0, true, 0, 1⟩,
    ⟨R.PMC_BUF_CFG.trace_en, 9, .rw, fun _ => 0, true, 0, 1⟩,
    ⟨R.PMC_BUF_CFG.watermark, 12, .rw, fun _ => 8, true, 0, 15⟩]⟩,
  ⟨R.PMC_BUF_STATUS, .pmcd, 772, 1, 0, false, [
    ⟨R.PMC_BUF_STATUS.refused, 0, .w1c, fun _ => 0, false, 0, 255⟩,
    ⟨R.PMC_BUF_STATUS.overwrote, 8, .w1c, fun _ => 0, false, 0, 1⟩,
    ⟨R.PMC_BUF_STATUS.full, 9, .ro, fun _ => 0, false, 0, 1⟩]⟩,
  ⟨R.PMC_TRC_HEAD, .pmcd, 776, 1, 0, false, [
    ⟨R.PMC_TRC_HEAD.head, 0, .ro, fun _ => 0, false, 0, 262143⟩]⟩,
  ⟨R.PMC_SMP_HEAD, .pmcd, 784, 1, 0, false, [
    ⟨R.PMC_SMP_HEAD.head, 0, .ro, fun _ => 0, false, 0, 262143⟩]⟩,
  ⟨R.PMC_TRC_TAIL, .pmcd, 780, 1, 0, false, [
    ⟨R.PMC_TRC_TAIL.tail, 0, .rw, fun _ => 0, true, 0, 262143⟩]⟩,
  ⟨R.PMC_SMP_TAIL, .pmcd, 788, 1, 0, false, [
    ⟨R.PMC_SMP_TAIL.tail, 0, .rw, fun _ => 0, true, 0, 262143⟩]⟩,
  ⟨R.PMC_TIMER, .pmcd, 800, 4, 4, false, [
    ⟨R.PMC_TIMER.period_us, 0, .rw, fun _ => 0, true, 0, 1048575⟩,
    ⟨R.PMC_TIMER.owner, 20, .rw, fun _ => 0, true, 0, 3⟩]⟩,
  ⟨R.PMC_M_SEL, .pmcm, 0, 32, 4, false, [
    ⟨R.PMC_M_SEL.event, 0, .rw, fun _ => 0, false, 0, 255⟩,
    ⟨R.PMC_M_SEL.mode, 8, .rw, fun _ => 0, false, 0, 3⟩,
    ⟨R.PMC_M_SEL.irq, 10, .rw, fun _ => 0, false, 0, 1⟩,
    ⟨R.PMC_M_SEL.interval, 11, .rw, fun _ => 0, false, 0, 1⟩,
    ⟨R.PMC_M_SEL.threshold, 16, .rw, fun _ => 0, false, 0, 255⟩,
    ⟨R.PMC_M_SEL.unit, 24, .rw, fun _ => 0, false, 0, 255⟩]⟩,
  ⟨R.PMC_M_CNT, .pmcm, 128, 32, 8, true, [
    ⟨R.PMC_M_CNT.count, 0, .rw, fun _ => 0, true, 0, 281474976710655⟩]⟩,
  ⟨R.PMC_M_SNAP, .pmcm, 384, 32, 8, true, [
    ⟨R.PMC_M_SNAP.snap, 0, .ro, fun _ => 0, false, 0, 281474976710655⟩]⟩,
  ⟨R.PMC_M_SNAP_STROKE, .pmcm, 640, 1, 0, true, [
    ⟨R.PMC_M_SNAP_STROKE.stroke, 0, .ro, fun _ => 0, false, 0, 281474976710655⟩]⟩,
  ⟨R.PMC_MOD_STATUS, .pmcm, 648, 1, 0, false, [
    ⟨R.PMC_MOD_STATUS.overflow, 0, .w1c, fun _ => 0, false, 0, 4294967295⟩]⟩,
  ⟨R.PMC_MAGG, .pmcm, 768, 8, 8, true, [
    ⟨R.PMC_MAGG.sum, 0, .ro, fun _ => 0, false, 0, 281474976710655⟩,
    ⟨R.PMC_MAGG.event, 48, .ro, fun _ => 0, false, 0, 255⟩]⟩,
  ⟨R.PMC_TRIG, .pmcm, 896, 1, 0, false, [
    ⟨R.PMC_TRIG.source, 0, .rw, fun _ => 0, true, 0, 3⟩,
    ⟨R.PMC_TRIG.die, 2, .rw, fun _ => 0, true, 0, 15⟩,
    ⟨R.PMC_TRIG.station, 6, .rw, fun _ => 0, true, 0, 63⟩,
    ⟨R.PMC_TRIG.counter, 12, .rw, fun _ => 0, true, 0, 31⟩,
    ⟨R.PMC_TRIG.refused, 31, .w1c, fun _ => 0, false, 0, 1⟩]⟩,
  ⟨R.SHP_STARTUP, .shp, 64, 1, 0, false, [
    ⟨R.SHP_STARTUP.done, 0, .ro, fun _ => 0, false, 0, 1023⟩,
    ⟨R.SHP_STARTUP.ready, 10, .ro, fun _ => 0, false, 0, 1⟩,
    ⟨R.SHP_STARTUP.failed, 11, .ro, fun _ => 0, false, 0, 1⟩,
    ⟨R.SHP_STARTUP.failed_step, 12, .ro, fun _ => 0, false, 0, 15⟩,
    ⟨R.SHP_STARTUP.elapsed_s, 16, .ro, fun _ => 0, false, 0, 4095⟩]⟩]

/-- The register maps. -/
def regTable : List RegSpec :=
  regTable0 ++ regTable1 ++ regTable2 ++ regTable3 ++ regTable4 ++ regTable5 ++ regTable6 ++ regTable7 ++ regTable8 ++ regTable9 ++ regTable10

/-- The reset value of a field by its number, in table order (R11). -/
def fieldRsts : List (Nat → Nat) := regTable.flatMap (fun r => r.fields.map (fun f => f.rst))

/-- The value of field `idx` of instance `inst` after reset. -/
def fieldReset (idx inst : Nat) : Nat := (fieldRsts.getD idx (fun _ => 0)) inst

/-- The map entry of a register. -/
def regSpec (reg : Nat) : Option RegSpec := regTable[reg]?

end Sys2Proof.Machine
end

