-- ==== Sys2Proof/Machine/StationTypes.lean ====
section
/-! DEFINITION. The state of a station, of its drovers, of the fabric between stations and of the memory side
(chapters 2 to 5), as plain data. -/

namespace Sys2Proof.Machine

/-- An entry of the hardware loop stack (R149). -/
structure LoopEntry where
  start : Nat
  stop : Nat
  count : Nat
deriving DecidableEq, Repr

/-- A matrix operation running or queued (R136, R137); `pa` and `pb` are the operand pointers of R135; `saved` are the bytes of own SRAM
that a store of its own bundle has overwritten, as they stood before (R130). -/
structure MatOp where
  isMul : Bool
  fa : Nat
  fb : Nat
  acc : Nat
  chainStart : Bool
  pa : Nat
  pb : Nat
  nblk : Nat
  pc : Nat
  seq : Nat
  saved : SMap Byte
deriving DecidableEq, Repr

/-- A remote access of a station that has not completed (R140, R155): a load gathers its bytes in `buf`; `left` counts
the flits still to come. -/
structure Outstanding where
  tag : Nat
  isLoad : Bool
  toV : Bool
  reg : Nat
  base : Nat
  buf : Nat
  left : Nat
  pc : Nat
deriving DecidableEq, Repr

/-- The destination of a tally signal (R150): the own station, a station by its window, a flock. -/
inductive SigDest where
  | own
  | station (mod die lst : Nat)
  | flock (f : Nat)
deriving DecidableEq, Repr

/-- A tally signal waiting to be sent as a release (R150): the writes and the matrix operations it waits for. -/
structure Release where
  dest : SigDest
  tally : Nat
  value : Nat
  tag : Nat
  pc : Nat
  writes : List Nat
  matrix : List Nat
deriving DecidableEq, Repr

/-- A drover descriptor (R186). -/
structure Desc where
  kind : Nat
  dir : Nat
  staged : Bool
  last : Bool
  notally : Bool
  chk : Bool
  frame : Bool
  tally : Nat
  length : Nat
  src : Nat
  dst : Nat
  count : Nat
  value : Nat
  srcStride : Nat
  dstStride : Nat
  index : Nat
  reservedZero : Bool
deriving DecidableEq, Repr

/-- A descriptor of zeros. -/
def Desc.blank : Desc :=
  { kind := 0, dir := 0, staged := false, last := false, notally := false, chk := false, frame := false, tally := 0, length := 0, src := 0
    dst := 0, count := 0, value := 0, srcStride := 0, dstStride := 0, index := 0, reservedZero := true }

/-- A queue entry of a drover (R144): one descriptor, or a list at an own-SRAM offset; `pc` is the bundle that queued
it. -/
structure DrvEntry where
  isList : Bool
  desc : Desc
  listOff : Nat
  pc : Nat
deriving DecidableEq, Repr

/-- What a slot does when its bundle issues. -/
inductive Eff where
  | setS (r v : Nat)
  | setV (r v : Nat)
  | setP (r v : Nat)
  | setRow (tile row v : Nat)
  | flags (n : Nat)
  | store (addr : Nat) (data : List (Option Byte))
  | load (toV : Bool) (reg addr len : Nat)
  | matrix (op : MatOp)
  | drover (k : Nat) (e : DrvEntry)
  | branch (target : Nat)
  | skipTo (target : Nat)
  | pushLoop (e : LoopEntry)
  | tallySig (dest : SigDest) (n v : Nat) (release : Bool)
  | tallySet (n v : Nat)
  | arrive (ch : Nat)
  | syncEnd
  | mbxWr (w v : Nat)
  | strokeEnd (entry : Nat)
deriving DecidableEq, Repr

/-- Why a bundle is held (R157). -/
inductive Hold where
  | source | engineFull | queueFull | tileBusy | rangeBusy
  | tally (n : Nat)
  | barrier
  | sync (ch : Nat)
  | fence
  | quiesced
deriving DecidableEq, Repr

/-- An exception raised by a slot (R160). -/
structure Exc where
  cause : Nat
  slot : Nat
  info : Nat
deriving DecidableEq, Repr

/-- What a presented slot will do: its effects, its exceptions, its hold conditions. -/
structure SlotRes where
  effs : List Eff
  excs : List Exc
  holds : List Hold
deriving DecidableEq, Repr

/-- A slot of the open bundle. -/
structure OpenSlot where
  ix : Nat
  w : Nat
  res : SlotRes
deriving DecidableEq, Repr

/-- The state of one station that its control page does not hold (R125, R216-R227). -/
structure Station where
  s : SMap (BitVec 64)
  v : SMap (BitVec 4096)
  p : SMap (BitVec 128)
  tiles : SMap (BitVec 4096)
  tallies : SMap (BitVec 32)
  deferred : SMap (BitVec 32)
  loops : List LoopEntry
  sram : SMap Byte
  istore : SMap (BitVec 256)
  badSram : SMap (List Nat)
  badIstore : SMap (List Nat)
  writeBack : SMap (List Byte)
  matQ : List MatOp
  matStarted : Nat
  matSeq : Nat
  outst : List Outstanding
  nextTag : Nat
  releases : List Release
  opened : List OpenSlot
  arriveGen : SMap Nat
  relGen : SMap Nat
  outbound : SMap (BitVec 64)
  ended : Bool
  syncDone : Bool
  entry : Nat
  selfTestFailed : Bool
deriving DecidableEq, Repr

/-- A station with nothing in it. -/
def Station.reset : Station :=
  { s := [], v := [], p := [], tiles := [], tallies := [], deferred := [], loops := [], sram := [], istore := []
    badSram := [], badIstore := [], writeBack := [], matQ := [], matStarted := 0, matSeq := 0, outst := []
    nextTag := 0, releases := [], opened := [], arriveGen := [], relGen := [], outbound := [], ended := false, syncDone := false
    entry := 0, selfTestFailed := false }

/-- One move of a descriptor (R188): source, destination, length; none of an address that carries out of bit 47. -/
structure Move where
  src : Option Nat
  dst : Option Nat
  len : Nat
deriving DecidableEq, Repr

/-- A flit of a transfer that its destination has not acknowledged: its number in the transfer and the bytes it writes, by module and module
address (R190). -/
structure Flying where
  piece : Nat
  moduleIx : Nat
  addr : Nat
  len : Nat
deriving DecidableEq, Repr

/-- The moves of the descriptor in progress that are still to be issued (R190): the first from an offset on, and the number of the next
flit. -/
structure Moving where
  tid : Nat
  moves : List Move
  off : Nat
  piece : Nat
deriving DecidableEq, Repr

/-- A transfer of a drover that is not yet visible (R190, R191): one descriptor. `flying` are its flits not yet
acknowledged, `signal` is the value its completion signal adds (none: no signal), `modules` lists the other modules
its flits go to, `pieces` keeps the bytes moved, by piece, where the descriptor feeds the check-value unit; `desc` is its descriptor and `since`
the instant it started (R612). -/
structure Transfer where
  id : Nat
  flying : List Flying
  tally : Nat
  signal : Option Nat
  chk : Bool
  frame : Bool
  bytes : Nat
  pieces : SMap (List Byte)
  count : Nat
  entry : DrvEntry
  entryIx : Nat
  modules : List Nat
  desc : Desc
  since : Nat
deriving DecidableEq, Repr

/-- One of the two drovers of a station (R190). `current` is the entry started and not finished, `moving` what is left of its descriptor; the list index is in
DRV_STATUS; `waiting` is the tally and value of a WAIT in progress; `entryIx` numbers the entries started;
`replayed` holds the entries that DRV_CTRL.resume runs again (R191); `running` is the descriptor last begun. -/
structure Drover where
  queue : List DrvEntry
  current : Option DrvEntry
  waiting : Option (Nat × Nat)
  moving : Option Moving
  transfers : List Transfer
  replayed : List DrvEntry
  nextId : Nat
  entryIx : Nat
  fed : Bool
  running : Desc
deriving DecidableEq, Repr

/-- An idle drover. -/
def Drover.reset : Drover :=
  { queue := [], current := none, waiting := none, moving := none, transfers := [], replayed := []
    nextId := 0, entryIx := 0, fed := false, running := Desc.blank }

/-- The link-level state of a UCIe module at one die edge (R57, R58): the next sequence number expected, the number whose
flit failed last and how often its retries failed, the next number to send, the flits sent and not acknowledged, with their numbers: the
retry buffer. -/
structure Ucie where
  expected : Nat
  failing : Option Nat
  fails : Nat
  next : Nat
  unacked : List (Nat × Flit)
deriving DecidableEq, Repr

/-- A link at the start of its sequence. -/
def Ucie.reset : Ucie := { expected := 0, failing := none, fails := 0, next := 0, unacked := [] }

/-- A tail entry (R194). -/
structure TailEntry where
  home : Nat
  stroke : Nat
  payload : List Byte
deriving DecidableEq, Repr

/-- A staged write waiting at its controller or on the mirror (R194, R198). -/
structure StagedWrite where
  home : Nat
  payload : List Byte
  drv : Nat
  transfer : Nat
  piece : Nat
deriving DecidableEq, Repr

/-- A memory controller and its stack, beside the MEM_ registers (R175, R193-R200): `restarted` says that it restarted with its tail
sealed or applying and awaits retry_apply. -/
structure Stack where
  requests : List Flit
  staged : List StagedWrite
  mirrorWait : List StagedWrite
  tail : List TailEntry
  mirrorTail : List TailEntry
  sealCrc : Nat
  tailStroke : Nat
  recalibrating : List Nat
  restarted : Bool
deriving DecidableEq, Repr

/-- A controller with nothing held. -/
def Stack.reset : Stack :=
  { requests := [], staged := [], mirrorWait := [], tail := [], mirrorTail := [], sealCrc := 0, tailStroke := 0
    recalibrating := [], restarted := false }

/-- A host drover beside its registers (R192): the 64 slots of its ring as bytes. -/
structure HostDrover where
  ring : SMap Byte
deriving DecidableEq, Repr

/-- An empty ring. -/
def HostDrover.reset : HostDrover := { ring := [] }

end Sys2Proof.Machine
end

