-- ==== Sys2Proof/Machine/TrustTypes.lean ====
section
/-! DEFINITION. The state of accords, keys, firmware and debug (chapter 15) and the settings in flash, as plain data. -/

namespace Sys2Proof.Machine

/-- A nonce that was issued and not used (R562): the party, its 32 bytes, the operating milliseconds of its issue. -/
structure Nonce where
  party : Nat
  value : List Byte
  issued : Nat
deriving DecidableEq, Repr

/-- A verified firmware image in a slot (R572). -/
structure FwImage where
  build : Nat
  minor : Nat
  major : Nat
  svn : Nat
  key : Nat
  revoke : Nat
  digest : List Byte
deriving DecidableEq, Repr

/-- What the flash settings area, the fuses and the debug port hold beside their registers (R560-R576): the party keys (empty while
not provisioned), last sequences, nonces, the image of each slot, the confirmed slot, whether the staged slot goes on trial at
the next power-on reset, since when both Shepherds run the trial image, whether a trial waits for the module to leave its flock and whether the Shepherds return to the confirmed slot (R575, R636), the
revoked firmware keys, the level of an open debug session, the stored competition groups (engine * 16 + slot, R544) and the
stored balancing policy (R546). -/
structure Trust where
  provider : List Byte
  tenant : List Byte
  seqP : Nat
  seqT : Nat
  nonces : List Nonce
  slotA : Option FwImage
  slotB : Option FwImage
  confirmed : Nat
  nextTrial : Bool
  trialSince : Option Nat
  deferred : Bool
  returning : Bool
  revoked : Nat
  session : Nat
  groups : SMap Nat
  balance : Option (List Nat)
deriving DecidableEq, Repr

/-- The module as delivered (R560, R571): no party key, slot A confirmed, slot B empty; the version of the shipped image is a
value of manufacture (log entry 7). -/
def Trust.reset : Trust :=
  { provider := [], tenant := [], seqP := 0, seqT := 0, nonces := []
    slotA := some { build := 1, minor := 0, major := 1, svn := 0, key := 0, revoke := 0, digest := List.replicate 48 0 }
    slotB := none, confirmed := 0, nextTrial := false, trialSince := none, deferred := false, returning := false, revoked := 0, session := 0
    groups := [], balance := none }

end Sys2Proof.Machine
end

