-- ==== Sys2Proof/Machine/State.lean ====
section
/-! DEFINITION. The state of the module, as plain data, and its reset. -/

namespace Sys2Proof.Machine

/-- Why the machine stops. -/
inductive Fault where
  /-- Raised by a command that names a unit the module does not have (a station position above 51, a die above 15, a
  stack above 11, a port above 17 and so on; R20, R35, R173, R256). Safe: no such command can reach the hardware. -/
  | noSuchUnit
deriving DecidableEq, Repr

/-- Why a command has no meaning. -/
inductive Refusal where
  /-- Raised by an arm of exec whose command has no meaning yet. Safe. -/
  | notModelled (mnemonic : String)
  /-- Raised by a slot command whose 64 bits spell the opcode of another command, or stand in another slot (R128). Safe:
  the sequencer never presents such a slot under that name. -/
  | wrongSlot
deriving DecidableEq, Repr

/-- What raises a fault report to firmware (R77, R161, R191, R182, R178, R298). -/
inductive Source where
  | stationFault (st : Nat)
  | stationExc (st : Nat)
  | selfTest (st : Nat)
  | drover (dr : Nat)
  | stackUnit (stack : Nat) (addr : Nat) (scrub : Bool)
  | stackLoss (stack : Nat)
  | deferOverflow (st : Nat)
  | edgeModule (die edge : Nat)
  | outOfStep
  | seatGone
  | stagingFull (stack : Nat)
  | port (p : Nat)
  | miscabled (p : Nat)
  | moduleLost (m : Nat)
  | isolated
  | falseDeclared
  | badKind
  | power (trip : Nat) (unit : Nat)
  | cage (p : Nat)
deriving DecidableEq, Repr

/-- Everything the module holds but the queue of commands and the bytes of the stacks. -/
structure Body where
  /-- The field file: every field of every register of the maps, at inst * 1024 + the field's number. -/
  regs : SMap Nat
  stations : SMap Station
  /-- The die map in force (R66, R67): at die * 64 + logical the physical position + 1, or 0 for an absent station. -/
  dieMap : SMap Nat
  drovers : SMap Drover
  fabric : List Flit
  ucie : SMap Ucie
  /-- The tally shadow (R220), at die * 64 + logical. -/
  shadow : SMap (SMap (BitVec 32))
  /-- Islands whose generator has stopped their clock (R47). -/
  stopped : List Island
  /-- Erroneous symbol positions of stack units, by unit number (R181). -/
  badStack : SMap (List Nat)
  memStacks : SMap Stack
  /-- The bytes of the frame in progress of each check-value unit (R204). -/
  chkFrame : SMap (List Byte)
  hostDrovers : SMap HostDrover
  flock : Flock
  korrel : Korrel
  host : HostSide
  logbook : Logbook
  fail : Failover
  cox : CoxSide
  ledger : Ledger
  cells : CellSide
  trust : Trust
  pmc : PmcSide
  rack : Rack
  reports : List Source
  sent : List Sent
  /-- The module's time base in ns (log entry 1). -/
  now : Nat
  /-- How many free values have been drawn (log entry 3). -/
  free : Nat
deriving DecidableEq, Repr

/-- The state of the block: the commands that wait, the bytes of the twelve stacks, and the rest. -/
structure State where
  pending : List Instr
  mem : List Host.Cell
  body : Body
deriving DecidableEq, Repr

/-- The module after power-on reset. -/
def Body.reset : Body :=
  { regs := [], stations := [], dieMap := [], drovers := [], fabric := [], ucie := [], shadow := [], stopped := []
    badStack := [], memStacks := [], chkFrame := [], hostDrovers := [], flock := Flock.reset, korrel := Korrel.reset, host := HostSide.reset, logbook := Logbook.reset, fail := Failover.reset, cox := CoxSide.reset, ledger := Ledger.reset, cells := CellSide.reset, trust := Trust.reset, pmc := PmcSide.reset, rack := Rack.reset, reports := [], sent := []
    now := 0, free := 0 }

/-- The state right after reset: no command waits, no byte of a stack is listed. -/
def State.reset : State := { pending := [], mem := [], body := Body.reset }

end Sys2Proof.Machine
end

