-- ==== Sys2Proof/Machine/Ops.lean ====
section
/-! DEFINITION. The named operations over the state: register fields, stations, messages, free values, and the lifts
that turn an effect into an outcome. -/

namespace Sys2Proof.Machine

/-- The outcome of an effect that touches neither the queue nor the stacks. -/
def lift (f : Body → Body) (s : State) : Host.Outcome State Fault Refusal := .next { s with body := f s.body }

/-- The outcome of an effect on a unit the module has; a fault where it has none of that number. -/
def onUnit (ok : Bool) (f : Body → Body) (s : State) : Host.Outcome State Fault Refusal :=
  if ok then lift f s else .fault .noSuchUnit

/-- The outcome of an effect that may touch the stacks. -/
def onUnitS (ok : Bool) (f : State → State) (s : State) : Host.Outcome State Fault Refusal :=
  if ok then .next (f s) else .fault .noSuchUnit

/-- A physical station of the module (R20, R35): die * 64 + position. -/
def isStation (st : Nat) : Bool := decide (st < 1024) && decide (st % 64 < 52)
/-- A compute die. -/
def isDie (d : Nat) : Bool := decide (d < 16)
/-- A stack. -/
def isStack (k : Nat) : Bool := decide (k < 12)
/-- A drover: station * 2 + k. -/
def isDrover (dr : Nat) : Bool := isStation (dr / 2)

/-- The value of a register field of an instance. -/
def getF (b : Body) (f : Field) (i : Nat) : Nat := SMap.get b.regs (fieldReset f.idx i) (i * 1024 + f.idx)

/-- Set a register field of an instance; the value is kept in the field's width. -/
def setF (b : Body) (f : Field) (i v : Nat) : Body :=
  { b with regs := SMap.put b.regs (fieldReset f.idx i) (i * 1024 + f.idx) (v % 2 ^ f.width) }

/-- Add to a field that saturates at all ones. -/
def addSat (b : Body) (f : Field) (i n : Nat) : Body := setF b f i (min (getF b f i + n) (2 ^ f.width - 1))

/-- A one-bit field. -/
def flagF (b : Body) (f : Field) (i : Nat) : Bool := getF b f i == 1

/-- Set a one-bit field. -/
def setFlag (b : Body) (f : Field) (i : Nat) (v : Bool) : Body := setF b f i (cond v 1 0)

/-- Apply an effect under a condition. -/
def whenB (c : Bool) (f : Body → Body) (b : Body) : Body := if c then f b else b

/-- Apply an effect for each element of a list. -/
def forEach {α : Type} (l : List α) (f : α → Body → Body) (b : Body) : Body := l.foldl (fun acc x => f x acc) b

/-- Draw a free value (log entry 3). -/
def drawFree (b : Body) : Nat × Body := (Config.freeValue b.free, { b with free := b.free + 1 })

/-- A station. -/
def stn (b : Body) (st : Nat) : Station := SMap.get b.stations Station.reset st

/-- Change a station. -/
def setStn (b : Body) (st : Nat) (t : Station) : Body := { b with stations := SMap.put b.stations Station.reset st t }

/-- Update a station. -/
def updStn (b : Body) (st : Nat) (f : Station → Station) : Body := setStn b st (f (stn b st))

/-- A drover. -/
def drv (b : Body) (dr : Nat) : Drover := SMap.get b.drovers Drover.reset dr

/-- Update a drover. -/
def updDrv (b : Body) (dr : Nat) (f : Drover → Drover) : Body :=
  { b with drovers := SMap.put b.drovers Drover.reset dr (f (drv b dr)) }

/-- Does a drover still hold work of its station (R155)? -/
def Drover.busy (d : Drover) : Bool :=
  !d.queue.isEmpty || d.current.isSome || !d.transfers.isEmpty || !d.replayed.isEmpty

/-- A memory controller. -/
def stk (b : Body) (k : Nat) : Stack := SMap.get b.memStacks Stack.reset k

/-- Update a memory controller. -/
def updStk (b : Body) (k : Nat) (f : Stack → Stack) : Body :=
  { b with memStacks := SMap.put b.memStacks Stack.reset k (f (stk b k)) }

/-- Report to firmware. -/
def report (r : Source) (b : Body) : Body := { b with reports := b.reports ++ [r] }

/-- Put a message out. -/
def emit (m : Sent) (b : Body) : Body := { b with sent := m :: b.sent }

/-- Put a flit on the panel. -/
def sendFlit (f : Flit) (b : Body) : Body := { b with fabric := b.fabric ++ [f] }

/-- Does a station's logic run: it is powered and its clock is not stopped (R47, R75)? -/
def clocked (b : Body) (st : Nat) : Bool := !flagF b R.STN_CTRL.power_gate st && !b.stopped.contains (.station st)

/-- The physical station that serves logical station `l` of a die by the map in force (R66); none if absent (R72). -/
def physOf (b : Body) (d l : Nat) : Option Nat :=
  if l < 48 then
    match SMap.get b.dieMap (deliveryPhys l + 1) (d * 64 + l) with
    | 0 => none
    | p + 1 => some (d * 64 + p)
  else none

/-- The logical number a physical station serves; 63 if none (R74). -/
def logicalOf (b : Body) (st : Nat) : Nat :=
  ((List.range 48).find? (fun l => physOf b (st / 64) l == some st)).getD 63

/-- The active stations of a die. -/
def dieStations (b : Body) (d : Nat) : List Nat := (List.range 48).filterMap (physOf b d)

/-- The active stations of the module. -/
def liveStations (b : Body) : List Nat := (List.range 16).flatMap (dieStations b)

/-- This module's index (R252). -/
def moduleIndex (b : Body) : Nat := getF b R.GBL_MODULE.index 0

/-- The stroke number of the stroke in flight (R255). -/
def strokeNum (b : Body) : Nat := getF b R.TLY_STROKE_NUM.stroke 0

/-- A step of start-up completes (R649, R652). -/
def stepDone (n : Nat) (b : Body) : Body := setF b R.SHP_STARTUP.done 0 (setBit (getF b R.SHP_STARTUP.done 0) (n - 1) true)

/-- Has a step of start-up completed? -/
def stepIsDone (b : Body) (n : Nat) : Bool := bit (getF b R.SHP_STARTUP.done 0) (n - 1)

/-- Is a compute die lost (R359, R651, R653)? -/
def dieLost (b : Body) (d : Nat) : Bool :=
  b.cox.path.blocks.contains (.die d) || b.cox.path.blocks.contains (.ratio d) || b.cox.path.diesLost.contains d

/-- A tick of the time base: 1 000 ns pass (log entry 1). -/
def tick (s : State) : State := { s with body := { s.body with now := s.body.now + 1000 } }

end Sys2Proof.Machine
end

