-- ==== Sys2Proof/Machine/Operands.lean ====
section
/-! DEFINITION. Operand forms: the slot fields (R132, R138, R143, R146), the module address map (R166-R171), the
station's registers, and reads and writes of station SRAM under the two-symbol code (R180-R185). -/

namespace Sys2Proof.Machine

/-- A scalar register; S0 reads 0 (R125). -/
def sreg (t : Station) (r : Nat) : Nat := if r = 0 then 0 else (SMap.get t.s 0 r).toNat
/-- A vector register. -/
def vreg (t : Station) (r : Nat) : Nat := (SMap.get t.v 0 r).toNat
/-- A predicate register; P0 reads all ones (R125). -/
def preg (t : Station) (r : Nat) : Nat := if r = 0 then 2 ^ 128 - 1 else (SMap.get t.p 0 r).toNat
/-- Row `row` of tile `a`. -/
def tileRow (t : Station) (a row : Nat) : Nat := (SMap.get t.tiles 0 (a * 128 + row)).toNat
/-- Write a scalar register; a write to S0 is discarded. -/
def setS (t : Station) (r v : Nat) : Station :=
  if r = 0 then t else { t with s := SMap.put t.s 0 r (BitVec.ofNat 64 v) }
/-- Write a vector register. -/
def setV (t : Station) (r v : Nat) : Station := { t with v := SMap.put t.v 0 r (BitVec.ofNat 4096 v) }
/-- Write a predicate register; a write to P0 is discarded. -/
def setP (t : Station) (r v : Nat) : Station :=
  if r = 0 then t else { t with p := SMap.put t.p 0 r (BitVec.ofNat 128 v) }
/-- Write a row of a tile. -/
def setRow (t : Station) (a row v : Nat) : Station :=
  { t with tiles := SMap.put t.tiles 0 (a * 128 + row) (BitVec.ofNat 4096 v) }
/-- A tally of the station (R216). -/
def tally (t : Station) (n : Nat) : Nat := (SMap.get t.tallies 0 n).toNat
/-- Set a tally; the value wraps at 32 bits (R216). -/
def setTally (t : Station) (n v : Nat) : Station := { t with tallies := SMap.put t.tallies 0 n (BitVec.ofNat 32 v) }
/-- tally_satisfied (R216). -/
def tallySatisfied (t : Station) (n v : Nat) : Bool := decide ((tally t n + 2 ^ 32 - v % 2 ^ 32) % 2 ^ 32 < 2 ^ 31)

/-- Are the bits of a slot outside the listed fields (place, width) zero? -/
def onlyFields (w : Nat) (used : List (Nat × Nat)) : Bool := used.foldl (fun a f => setBits a f.1 f.2 0) w == 0

/-- The 32-bit lanes of a vector value. -/
def lanes (v : Nat) : List Nat := unpack 32 v 128

/-- The lanes `new` where the predicate selects, `old` elsewhere (R139). -/
def selectLanes (p : Nat) (new old : List Nat) : List Nat :=
  (new.zip old).zipIdx.map (fun x => if bit p x.2 then x.1.1 else x.1.2)

/-- A place in a station window: die, logical station, offset below 6 MiB (R169). -/
structure WinAddr where
  die : Nat
  lst : Nat
  off : Nat
deriving DecidableEq, Repr

/-- The station window a module address lies in (R168, R169); none outside the 48 windows of a die or past 6 MiB. -/
def winOf (a : Nat) : Option WinAddr :=
  if 0xF000000000 ≤ a ∧ a < 0xF200000000 then
    let o := a - 0xF000000000
    let d := o / 0x20000000
    let l := o % 0x20000000 / 0x800000
    let x := o % 0x800000
    if l < 48 ∧ x < 0x600000 then some ⟨d, l, x⟩ else none
  else none

/-- The base of the window of a logical station (R169). -/
def winBase (d l : Nat) : Nat := 0xF000000000 + d * 0x20000000 + l * 0x800000

/-- The window a whole access of `len` bytes lies in. -/
def winAccess (a len : Nat) : Option WinAddr :=
  match winOf a with
  | none => none
  | some w => if w.off + len ≤ 0x600000 then some w else none

/-- Bytes of one stack: 80 GiB (R168). -/
def stackBytes : Nat := 0x1400000000

/-- The stack a module address lies in (R168). -/
def stackOf (a : Nat) : Option Nat := if a < 12 * stackBytes then some (a / stackBytes) else none

/-- The endpoint code of a memory controller, and of a link die. -/
def ctlEp (k : Nat) : Nat := 1024 + k
/-- The endpoint code of a link die. -/
def lnkEp (n : Nat) : Nat := 2048 + n
/-- The endpoint code of the edge segments of a die. -/
def segEp (d : Nat) : Nat := 3072 + d

/-- The pseudo-channel of a stack address (R176). -/
def pseudoChannel (a : Nat) : Nat := Nat.xor (bits (a % stackBytes) 8 6) (bits (a % stackBytes) 20 6)

/-- What a decoder makes of a unit (R181): its bytes (none: uncorrectable) and the positions it reports corrected. -/
structure Decoded where
  bytes : Option (List Byte)
  corrected : List Nat
deriving DecidableEq, Repr

/-- Decode a stored unit whose erroneous symbols are `bad` (R181); with four or more, which of the three outcomes
appears, the bytes and the positions are free values (log entry 3), drawn from `fr` on. -/
def decodeUnit (stored : List Byte) (bad : List Nat) (fr : Nat) : Decoded :=
  if bad.length = 0 then ⟨some stored, []⟩
  else if bad.length ≤ 2 then ⟨some stored, bad⟩
  else if bad.length = 3 then ⟨none, []⟩
  else
    match Config.freeValue fr % 3 with
    | 0 => ⟨some (leBytes 32 (Config.freeValue (fr + 1))), []⟩
    | 1 => ⟨some (leBytes 32 (Config.freeValue (fr + 1))), [Config.freeValue (fr + 2) % 36, Config.freeValue (fr + 3) % 36]⟩
    | _ => ⟨none, []⟩

/-- The stored bytes of a map of bytes. -/
def bytesAt (m : SMap Byte) (off n : Nat) : List Byte := (List.range n).map (fun i => SMap.get m 0 (off + i))

/-- Store bytes; a missing byte is not written. -/
def storeBytes (m : SMap Byte) (off : Nat) (data : List (Option Byte)) : SMap Byte :=
  data.zipIdx.foldl (fun acc p => match p.1 with
    | some x => SMap.put acc 0 (off + p.2) x
    | none => acc) m

/-- Read one unit of a station's SRAM (R181, R182, R183): a correction is counted in STN_SRAM_CORR and its write-back
queued; an uncorrectable unit sets STN_FAULT.sram_uncorrectable and is reported. -/
def readSramUnit (b : Body) (st u : Nat) : Option (List Byte) × Body :=
  let t := stn b st
  let bad := SMap.get t.badSram [] u
  let d := decodeUnit (bytesAt t.sram (u * 32) 32) bad b.free
  let b := { b with free := b.free + 4 }
  match d.bytes with
  | none => (none, report (.stationFault st) (setFlag b R.STN_FAULT.sram_uncorrectable st true))
  | some bs =>
    if d.corrected = [] then (some bs, b)
    else
      let b := addSat b R.STN_SRAM_CORR.corrected st 1
      let b := setF b R.STN_SRAM_CORR.last_bank st (u % 32)
      (some bs, updStn b st (fun t => { t with writeBack := SMap.put t.writeBack [] u bs }))

/-- Read units of SRAM in order: the bytes (free where uncorrectable) and the uncorrectable units. -/
def readSramUnits (st : Nat) : List Nat → Body → (List Byte × List Nat) × Body
  | [], b => (([], []), b)
  | u :: us, b =>
    let r := readSramUnit b st u
    let bs := r.1.getD (leBytes 32 (Config.freeValue r.2.free))
    let b := { r.2 with free := r.2.free + 1 }
    let rest := readSramUnits st us b
    ((bs ++ rest.1.1, if r.1.isNone then u :: rest.1.2 else rest.1.2), rest.2)

/-- The units that `len` bytes at `off` touch. -/
def unitsOf (off len : Nat) : List Nat :=
  if len = 0 then [] else (List.range ((off + len - 1) / 32 - off / 32 + 1)).map (· + off / 32)

/-- Read `len` bytes of a station's SRAM: the bytes, the uncorrectable units, the state after. -/
def readSram (b : Body) (st off len : Nat) : (List Byte × List Nat) × Body :=
  let r := readSramUnits st (unitsOf off len) b
  (((r.1.1.drop (off % 32)).take len, r.1.2), r.2)

/-- Write part of one unit of SRAM, `data` its 32 bytes with none for a byte that is not written (R185): a whole unit
replaces the stored one; a part is merged unless the stored unit is uncorrectable (then false). -/
def writeSramUnit (b : Body) (st u : Nat) (data : List (Option Byte)) : Bool × Body :=
  if data.all Option.isNone then (true, b)
  else
    let whole := data.all Option.isSome
    let r := if whole then (some [], b) else readSramUnit b st u
    match r.1 with
    | none => (false, r.2)
    | some bs =>
      let base := if (SMap.get (stn r.2 st).badSram [] u).length < 4 then (stn r.2 st).sram
        else storeBytes (stn r.2 st).sram (u * 32) (bs.map some)
      (true, updStn r.2 st (fun t => { t with sram := storeBytes base (u * 32) data, badSram := SMap.erase t.badSram u
                                              writeBack := SMap.erase t.writeBack u }))

/-- Write units in order; the units whose merge was not performed. -/
def writeSramUnits (st : Nat) : List (Nat × List (Option Byte)) → Body → List Nat × Body
  | [], b => ([], b)
  | p :: ps, b =>
    let r := writeSramUnit b st p.1 p.2
    let rest := writeSramUnits st ps r.2
    (if r.1 then rest.1 else p.1 :: rest.1, rest.2)

/-- Cut a write at `off` into units. -/
def splitUnits (off : Nat) (data : List (Option Byte)) : List (Nat × List (Option Byte)) :=
  let padded := List.replicate (off % 32) none ++ data
  let full := padded ++ List.replicate ((32 - padded.length % 32) % 32) none
  (chunksOf 32 (full.length / 32) full).zipIdx.map (fun p => (off / 32 + p.2, p.1))

/-- Write bytes of a station's SRAM; the units whose merge was not performed. -/
def writeSram (b : Body) (st off : Nat) (data : List (Option Byte)) : List Nat × Body :=
  writeSramUnits st (splitUnits off data) b

/-- A system address (R166): space, module index or flock, module address. -/
structure SysAddr where
  space : Nat
  ix : Nat
  addr : Nat
deriving DecidableEq, Repr

/-- The fields of a system address. -/
def sysAddr (a : Nat) : SysAddr := ⟨bits a 62 2, bits a 48 14, bits a 0 48⟩

/-- The system address of fields. -/
def SysAddr.pack (a : SysAddr) : Nat := a.space * 2 ^ 62 + a.ix * 2 ^ 48 + a.addr

/-- Cut a range into flits of at most 224 bytes: offset and length of each (R190). -/
def pieces (len : Nat) : List (Nat × Nat) :=
  (List.range (ceilDiv len 224)).map (fun i => (i * 224, min 224 (len - i * 224)))

end Sys2Proof.Machine
end

