-- ==== Sys2Proof/Machine/Route.lean ====
section
/-! DEFINITION. Routing between modules (R256, R280, R281): ports and route sets. -/

namespace Sys2Proof.Machine

/-- A port. -/
def kport (b : Body) (p : Nat) : KorPort := SMap.get b.korrel.ports KorPort.reset p

/-- Update a port. -/
def updPort (b : Body) (p : Nat) (f : KorPort → KorPort) : Body :=
  { b with korrel := { b.korrel with ports := SMap.put b.korrel.ports KorPort.reset p (f (kport b p)) } }

/-- The direct ports of each pair (R256). -/
def directPair (k : Nat) : List Nat :=
  match k with
  | 0 => [3, 12]
  | 1 => [4, 13]
  | 2 => [8, 17]
  | _ => []

/-- The pair a direct port belongs to (R256). -/
def pairOfPort (p : Nat) : Option Nat := (List.range 3).find? (fun k => (directPair k).contains p)

/-- The switch ports (R256). -/
def switchPorts : List Nat := [0, 1, 2, 5, 6, 7, 9, 10, 11, 14, 15, 16]

/-- The switch tray a switch port goes to (R256). -/
def trayOf (p : Nat) : Nat := if p ≤ 2 then p else if p ≤ 7 then p - 2 else if p ≤ 11 then p - 9 else p - 11

/-- The link die that serves a port (R256). -/
def portDie (p : Nat) : Nat := if p ≤ 4 then 0 else if p ≤ 8 then 1 else if p ≤ 13 then 2 else 3

/-- Is a port up (R296)? -/
def portUp (b : Body) (p : Nat) : Bool := getF b R.KLK_PORT_STATUS.state p == 2

/-- Does a port carry traffic: up, and past the wait of R279? -/
def portLive (b : Body) (p : Nat) : Bool := portUp b p && (kport b p).traffic

/-- The live ports of the route set of a module, in port order (R280). -/
def routeSet (b : Body) (m : Nat) : List Nat :=
  let sw := switchPorts.filter (portLive b)
  match getF b R.KLK_ROUTE.kind m with
  | 1 => sw
  | 2 =>
    let d := (directPair (getF b R.KLK_ROUTE.pair m)).filter (portLive b)
    if d.isEmpty then sw else d
  | _ => []

/-- choose_port (R281). -/
def choosePort (b : Body) (m srcEp dstEp : Nat) : Option Nat :=
  let set := routeSet b m
  if set.isEmpty then none
  else
    let f : Nat → List Nat := fun x => [x % 256, x / 256 % 256]
    set[crc16 (f m ++ f (epField srcEp) ++ f (epField dstEp)) % set.length]?

/-- Is a module reachable (R280, R287)? -/
def reachable (b : Body) (m : Nat) : Bool := !flagF b R.KLK_ROUTE.lost m && !(routeSet b m).isEmpty

end Sys2Proof.Machine
end

