-- ==== Sys2Proof/Machine/KorrelOps.lean ====
section
/-! DEFINITION. Routing between modules and the sending side of a Korrel port (R264-R283). -/

namespace Sys2Proof.Machine

/-- Is a VC of stream 0 (R268)? -/
def KorPort.stream (p : KorPort) (vc : Nat) : KStream := if vc = 0 then p.s0 else p.s1

/-- Replace the stream of a VC. -/
def KorPort.setStream (p : KorPort) (vc : Nat) (s : KStream) : KorPort :=
  if vc = 0 then { p with s0 := s } else { p with s1 := s }

/-- Flits a retry buffer holds (R271). -/
def bufferDepth (vc : Nat) : Nat := if vc = 0 then 64 else 512

/-- The credit register instance of a port and VC. -/
def creditIx (p vc : Nat) : Nat := p * 8 + vc

/-- May the port send a flit of a VC now (R269, R270, R273)? -/
def maySend (b : Body) (p vc : Nat) : Bool :=
  portLive b p && decide (0 < getF b R.KLK_PORT_CREDIT.held (creditIx p vc))
    && decide (((kport b p).stream vc).unacked.length < bufferDepth vc)

/-- Put a flit on a port with the acknowledgements and credit counts that every flit carries (R264, R270, R272). -/
def putFlit (p : Nat) (k : KFlit) (b : Body) : Body :=
  let pt := kport b p
  emit (.korrel p k ((pt.s0.expected + 4095) % 4096) ((pt.s1.expected + 4095) % 4096)
    ((List.range 8).map (fun v => SMap.get pt.freed 0 v % 16))) b

/-- Send a sequenced flit on a port: number it, spend a credit, keep it for retry (R270-R273). -/
def transmit (p : Nat) (k : KFlit) (b : Body) : Body :=
  let pt := kport b p
  let st := pt.stream k.vc
  let k := { k with seq := st.next }
  let b := updPort b p (fun pt => { (pt.setStream k.vc { st with next := (st.next + 1) % 4096, unacked := st.unacked ++ [k] })
    with sent := SMap.upd pt.sent 0 k.vc (fun n => (n + 1) % 65536) })
  let b := setF b R.KLK_PORT_CREDIT.held (creditIx p k.vc) (getF b R.KLK_PORT_CREDIT.held (creditIx p k.vc) - 1)
  putFlit p k (addSat b R.KLK_PORT_FLITS.sent p 1)

/-- The order in which VCs are served (R269): 0, 1, 3, then the weighted ones from the VC whose turn it is. -/
def serviceOrder (turn : Nat) : List Nat :=
  let w : List Nat := [2, 4, 5, 6, 7]
  [0, 1, 3] ++ w.drop turn ++ w.take turn

/-- The weight of a VC (R295). -/
def vcWeight (b : Body) (p vc : Nat) : Nat :=
  let d := portDie p
  match vc with
  | 2 => getF b R.KLK_VC_WEIGHT.w2 d
  | 4 => getF b R.KLK_VC_WEIGHT.w4 d
  | 5 => getF b R.KLK_VC_WEIGHT.w5 d
  | 6 => getF b R.KLK_VC_WEIGHT.w6 d
  | _ => getF b R.KLK_VC_WEIGHT.w7 d

/-- The next flit a port may send of those that wait (R269). -/
def nextWaiting (b : Body) (p : Nat) : Option KFlit :=
  let pt := kport b p
  ((serviceOrder pt.turn).filter (maySend b p)).findSome? (fun vc => pt.waiting.find? (fun k => k.vc == vc))

/-- Advance the weighted round robin after a flit of `vc` (R269 item 4). -/
def takeTurn (b : Body) (p vc : Nat) : Body :=
  match ([2, 4, 5, 6, 7] : List Nat).findIdx? (· == vc) with
  | none => b
  | some i => updPort b p (fun pt =>
      let q := if pt.turn = i then pt.quota + 1 else 1
      if vcWeight b p vc ≤ q then { pt with turn := (i + 1) % 5, quota := 0 } else { pt with turn := i, quota := q })

/-- Remove the first element that satisfies a test. -/
def eraseFirst {α : Type} (f : α → Bool) : List α → List α
  | [] => []
  | x :: t => if f x then t else x :: eraseFirst f t

/-- Send what may be sent of the flits that wait; `fuel` bounds their number. -/
def drainPort (p : Nat) : Nat → Body → Body
  | 0, b => b
  | fuel + 1, b =>
    match nextWaiting b p with
    | none => b
    | some k =>
      let b := updPort b p (fun pt => { pt with waiting := eraseFirst (fun x => x == k) pt.waiting })
      drainPort p fuel (takeTurn (transmit p k b) p k.vc)

/-- Hand a flit to a port. -/
def portSend (p : Nat) (k : KFlit) (b : Body) : Body :=
  let b := updPort b p (fun pt => { pt with waiting := pt.waiting ++ [k] })
  drainPort p ((kport b p).waiting.length) b

/-- The Korrel flit a link die forms from a fabric flit (R267). -/
def korrelData (b : Body) (m vc : Nat) (f : Flit) : KFlit :=
  { ftype := 1, vc := vc, seq := 0, destModule := m, srcModule := moduleIndex b, flit := some { f with pos := none, via := none }, body := [] }

/-- Send a fabric flit towards a module (R267, R281): the port is chosen now and the flit travels on the panel to the link die that serves
it; false where no port reaches the module. -/
def sendVia (m : Nat) (vc : Nat) (f : Flit) (b : Body) : Bool × Body :=
  match choosePort b m f.src f.dst with
  | none => (false, b)
  | some p =>
    let f := { f with via := some (m, vc, p) }
    (true, if f.nextEdge = none then portSend p (korrelData b m vc f) b else sendFlit f b)

/-- Send a fabric flit to another module that is not held lost (R287 step 1). -/
def sendModule (m : Nat) (vc : Nat) (f : Flit) (b : Body) : Bool × Body :=
  if flagF b R.KLK_ROUTE.lost m then (false, b) else sendVia m vc f b

/-- The endpoint of the stroke block, which forms and takes telegrams (log entry 58): an edge segment of DIE5, where the module root of the
barrier tree stands (R64). -/
def strokeEp : Nat := segEp 5

/-- Hand a telegram to the panel, for Korrel VC0 (R229, R268). -/
def sendTel (nbr ttype : Nat) (bytes : List Byte) (b : Body) : Body :=
  (sendModule nbr 0 { Flit.blank (telKind ttype) with src := strokeEp, dst := strokeEp, len := bytes.length, payload := bytes.map some } b).2

end Sys2Proof.Machine
end

