-- ==== Sys2Proof/Machine/CheckUnit.lean ====
section
/-! DEFINITION. The check-value units (R202-R205, R211). -/

namespace Sys2Proof.Machine

/-- The initial value of an algorithm (R202). -/
def crcInit (algo : Nat) : Nat :=
  match algo with
  | 1 => 0xFFFF
  | 2 => 0xFFFFFFFF
  | 3 => 2 ^ 64 - 1
  | _ => 0

/-- The final XOR of an algorithm (R202). -/
def crcFinal (algo : Nat) : Nat :=
  match algo with
  | 2 => 0xFFFFFFFF
  | 3 => 2 ^ 64 - 1
  | _ => 0

/-- Feed one byte (R202, R203); a unit that is off keeps its value. -/
def crcStep (algo run x : Nat) : Nat :=
  match algo with
  | 1 => crc16Byte run x
  | 2 => crcReflByte 0x82F63B78 run x
  | 3 => crcReflByte 0xC96C5795D7870F42 run x
  | _ => run

/-- Feed bytes to a check-value unit; the bytes also join the frame in progress (R203, R204). -/
def chkFeed (i : Nat) (bs : List Byte) (b : Body) : Body :=
  let algo := getF b R.CHK_CTRL.algo i
  let b := setF b R.CHK_RUN.run i (bs.foldl (fun r x => crcStep algo r x.toNat) (getF b R.CHK_RUN.run i))
  { b with chkFrame := SMap.put b.chkFrame [] i (SMap.get b.chkFrame [] i ++ bs) }

/-- The width of the alive counter in bits (R211). -/
def aliveWidth (code : Nat) : Nat := if code = 0 then 4 else if code = 1 then 8 else 16

/-- The counter of a frame (R204); a frame too short to hold it gives a free value (log entry 3). -/
def aliveCounter (b : Body) (i : Nat) : Nat :=
  let fr := SMap.get b.chkFrame [] i
  let off := getF b R.CHK_CTRL.alive_offset i
  let w := aliveWidth (getF b R.CHK_CTRL.alive_width i)
  let n := ceilDiv w 8
  let raw := if off + n ≤ fr.length then ofLeBytes ((fr.drop off).take n) else Config.freeValue b.free
  if w = 4 ∧ flagF b R.CHK_CTRL.alive_hi i then bits raw 4 4 else raw % 2 ^ w

/-- The outcome of an alive check (R204): in order, repeat, skip, backward. -/
inductive Alive where
  | inOrder | repeated | skip | backward
deriving DecidableEq, Repr

/-- Compare a counter of width `w` with the last one (R204). -/
def aliveCheck (w last new : Nat) : Alive :=
  let d := (new + 2 ^ w - last) % 2 ^ w
  if d = 1 then .inOrder else if d = 0 then .repeated else if d ≤ 2 ^ (w - 1) then .skip else .backward

/-- A frame ends (R204). -/
def chkFrameEnd (i : Nat) (b : Body) : Body :=
  let b := addSat b R.CHK_STATUS.frames i 1
  let b := if flagF b R.CHK_CTRL.alive_en i then
      let c := aliveCounter b i
      let w := aliveWidth (getF b R.CHK_CTRL.alive_width i)
      let b := { b with free := b.free + 1 }
      let b := if flagF b R.CHK_ALIVE_LAST.seen i then
          match aliveCheck w (getF b R.CHK_ALIVE_LAST.last i) c with
          | .inOrder => b
          | .repeated => setFlag b R.CHK_STATUS.repeats i true
          | .skip => setFlag b R.CHK_STATUS.skip i true
          | .backward => setFlag b R.CHK_STATUS.backward i true
        else b
      setFlag (setF b R.CHK_ALIVE_LAST.last i c) R.CHK_ALIVE_LAST.seen i true
    else b
  { b with chkFrame := SMap.erase b.chkFrame i }

/-- Is the drover of a station's unit feeding it (R205)? -/
def chkBusy (b : Body) (i : Nat) : Bool := decide (i < 2048) && (drv b i).transfers.any (·.chk)

/-- A write of CHK_CTRL.init (R203, R205). -/
def chkInit (i : Nat) (b : Body) : Body :=
  if chkBusy b i then setFlag b R.CHK_STATUS.write_refused i true
  else
    let b := setF b R.CHK_RUN.run i (crcInit (getF b R.CHK_CTRL.algo i))
    let b := setFlag b R.CHK_ALIVE_LAST.seen i false
    { b with chkFrame := SMap.erase b.chkFrame i }

/-- A write of CHK_FEED (R203-R205, R211). -/
def chkWriteFeed (i n : Nat) (frameEnd : Bool) (b : Body) : Body :=
  if chkBusy b i then setFlag b R.CHK_STATUS.write_refused i true
  else
    let b := if 1 ≤ n ∧ n ≤ 8 then chkFeed i (leBytes n (getF b R.CHK_DATA.dataWord i)) b else b
    if frameEnd then chkFrameEnd i b else b

/-- A check-value unit of the module (R171, R205, R210, R211): 2 048 of the drovers, 4 of the host drovers, 2 of each
Shepherd, 4 of the link dies. -/
def isChk (i : Nat) : Bool := if i < 2048 then isDrover i else decide (i < 2056) || (decide (2060 ≤ i) && decide (i < 2064))

/-- CHK_INIT (R203, R205). -/
def execChkInit (unit : Nat) (s : State) : Host.Outcome State Fault Refusal := onUnit (isChk unit) (chkInit unit) s

/-- CHK_FEED (R203-R205). -/
def execChkFeed (unit n : Nat) (frameEnd : Bool) (s : State) : Host.Outcome State Fault Refusal :=
  onUnit (isChk unit) (chkWriteFeed unit n frameEnd) s

end Sys2Proof.Machine
end

