-- ==== Sys2Proof/Machine/Flags.lean ====
section
/-! DEFINITION. The arithmetic flags (R115-R120), exceptions (R160-R164) and tally signals (R216-R219). -/

namespace Sys2Proof.Machine

/-- The STN_FAULT field an exception cause also sets (R160), and whether it sets one. -/
def excFault (cause : Nat) : Option Field :=
  match cause with
  | 0x01 => some R.STN_FAULT.istore_uncorrectable
  | 0x0A => some R.STN_FAULT.sram_uncorrectable
  | 0x0B => some R.STN_FAULT.remote_error
  | 0x0C => some R.STN_FAULT.remote_error
  | 0x0D => some R.STN_FAULT.remote_error
  | _ => none

/-- The exception recorded among several (R160, R161): the lowest cause, then the lowest slot. -/
def firstExc : List Exc → Option Exc
  | [] => none
  | e :: t => match firstExc t with
    | none => some e
    | some f => if f.cause < e.cause ∨ (f.cause = e.cause ∧ f.slot < e.slot) then some f else some e

/-- Record an exception in the registers (R161 step 2, R163, R164). -/
def recordExc (st pc : Nat) (e : Exc) (others : Bool) (b : Body) : Body :=
  let b := setF b R.STN_EXC_CAUSE.cause st e.cause
  let b := setF b R.STN_EXC_CAUSE.slot st e.slot
  let b := setF b R.STN_EXC_CAUSE.precise st (if e.cause ≤ 9 then 1 else 0)
  let b := setF b R.STN_EXC_CAUSE.more st (cond others 1 0)
  let b := setF b R.STN_EXC_CAUSE.trapped_flags st (if e.cause = 0x0E then e.info else 0)
  let b := setF b R.STN_EXC_CAUSE.valid st 1
  let b := setF b R.STN_EXC_PC.pc st pc
  setF b R.STN_EXC_INFO.info st (if e.cause = 0x0E then 0 else e.info)

/-- The held bundle waits on nothing any more (R165): none of it is left once a station stops or takes an exception. -/
def clearWaits (st : Nat) (b : Body) : Body :=
  setFlag (setF (setFlag (setFlag b R.STN_SEQ_STATUS.fence_wait st false) R.STN_SEQ_STATUS.tally_wait st false)
    R.STN_SEQ_STATUS.wait_tally st 0) R.STN_SEQ_STATUS.barrier_wait st false

/-- The STN_FAULT bits of a list of exceptions. -/
def excFaults (st : Nat) (es : List Exc) (b : Body) : Body :=
  forEach es (fun e b => match excFault e.cause with
    | some f => report (.stationFault st) (setFlag b f st true)
    | none => b) b

/-- A station takes exceptions that arise in one cycle (R161): the first is recorded, or STN_EXC_CAUSE.more is set where
one is recorded already; the held bundle waits on nothing (R165), the state becomes 6 and firmware is told. -/
def takeExc (st pc : Nat) (es : List Exc) (b : Body) : Body :=
  match firstExc es with
  | none => b
  | some e =>
    let b := excFaults st es b
    let b := if getF b R.STN_EXC_CAUSE.valid st = 1 then setF b R.STN_EXC_CAUSE.more st 1
      else recordExc st pc e (es.any (fun x => x.cause != e.cause)) b
    report (.stationExc st) (setF (clearWaits st b) R.STN_STATUS.state st 6)

/-- Set live flags (R115) and raise the arithmetic exception for those the trap mask names (R116). -/
def raiseFlags (st pc slot fl : Nat) (b : Body) : Body :=
  let b := setF b R.STN_ARITH_FLAGS.flags st (getF b R.STN_ARITH_FLAGS.flags st ||| fl)
  let tr := fl &&& getF b R.STN_ARITH_CTRL.trap_mask st
  if tr = 0 then b else takeExc st pc [⟨0x0E, slot, tr⟩] b

/-- Add to a tally of a station (R216). -/
def addTally (st n v : Nat) (b : Body) : Body := updStn b st (fun t => setTally t n (tally t n + v))

/-- A tally signal with stroke tag `tag` arrives at a station (R219). -/
def tallyArrive (st n v tag : Nat) (b : Body) : Body :=
  let own := getF b R.TLY_STN_STATUS.tag st
  if tag % 4 = own then addTally st n v b
  else if tag % 4 = (own + 1) % 4 then
    let t := stn b st
    let held := (t.deferred.map (·.1)).contains n
    if !held && 256 ≤ t.deferred.length then
      report (.deferOverflow st) (setFlag b R.TLY_STN_STATUS.defer_overflow st true)
    else
      let m := if held then SMap.erase t.deferred n else t.deferred
      let cur := (SMap.get t.deferred 0 n).toNat
      let b := updStn b st (fun t => { t with deferred := SMap.insert m n (BitVec.ofNat 32 (cur + v)) })
      setF b R.TLY_STN_STATUS.deferred st (stn b st).deferred.length
  else addSat (addTally st n v b) R.TLY_STN_STATUS.late st 1

/-- The entry of a flock in the loaded plan (R213). -/
def flockEntry (b : Body) (f : Nat) : Option FlockEntry :=
  match b.flock.plan with
  | none => none
  | some p => p.flocks.find? (fun e => e.id == f)

/-- Does an identifier name a flock (R212)? -/
def flockNamed (b : Body) (f : Nat) : Bool := decide (f ≤ 16) || (flockEntry b f).isSome

/-- Is a module live: not declared lost (R215)? This module always is. -/
def moduleLive (b : Body) (m : Nat) : Bool := m == moduleIndex b || (!flagF b R.KLK_ROUTE.lost m && !b.flock.vacant.contains m)

/-- The module that serves a rank: a spare that stands in takes the rank of the lost module (R320). -/
def rankServer (b : Body) (m : Nat) : Nat :=
  if flagF b R.TLY_STANDIN.valid 0 ∧ getF b R.TLY_STANDIN.kind 0 = 2 ∧ getF b R.TLY_STANDIN.lost 0 = m then getF b R.TLY_STANDIN.standin 0
  else m

/-- Does this module stand in for another as its pair (R320)? -/
def pairStandin (b : Body) : Bool :=
  flagF b R.TLY_STANDIN.valid 0 && getF b R.TLY_STANDIN.kind 0 == 1 && getF b R.TLY_STANDIN.standin 0 == moduleIndex b

/-- The module that answers for what names a module by its window or its tallies: the stand-in of either kind in the place of the lost
module (R320). -/
def standServer (b : Body) (m : Nat) : Nat :=
  if flagF b R.TLY_STANDIN.valid 0 ∧ getF b R.TLY_STANDIN.lost 0 = m ∧ (getF b R.TLY_STANDIN.kind 0 = 1 ∨ getF b R.TLY_STANDIN.kind 0 = 2)
  then getF b R.TLY_STANDIN.standin 0 else m

/-- The modules a flock covers, in depth-first member order (R215); `fuel` bounds the depth of R27. -/
def flockModules (b : Body) : Nat → Nat → List Nat
  | 0, _ => []
  | fuel + 1, f =>
    if f ≤ 16 then [moduleIndex b]
    else match flockEntry b f with
      | none => []
      | some e => match e.kind with
        | 0 => [standServer b e.moduleIx]
        | 1 => [standServer b e.moduleIx]
        | 2 => e.members.map (rankServer b)
        | _ => e.members.flatMap (flockModules b fuel)

/-- The live stations of this module that belong to a flock (R215, R216). -/
def flockStations (b : Body) : Nat → Nat → List Nat
  | 0, _ => []
  | fuel + 1, f =>
    if f < 16 then dieStations b f
    else if f = 16 then liveStations b
    else match flockEntry b f with
      | none => []
      | some e => match e.kind with
        | 0 => if standServer b e.moduleIx = moduleIndex b then e.members.filterMap (physOf b e.die) else []
        | 1 => if standServer b e.moduleIx = moduleIndex b then e.members.flatMap (dieStations b) else []
        | 2 => if (e.members.map (rankServer b)).contains (moduleIndex b) then liveStations b else []
        | _ => e.members.flatMap (flockStations b fuel)

/-- The flocks of a path have at most 8 levels (R27). -/
def flockDepth : Nat := 8

/-- The plan-defined flock, if any, of which flock `f` is a direct member, and so on upwards. -/
def parentChain (b : Body) : Nat → Nat → List Nat
  | 0, _ => []
  | fuel + 1, f => match flockEntry b f with
    | none => []
    | some e => if e.parent = 0xFFFF then [] else e.parent :: parentChain b fuel e.parent

/-- The plan-defined flocks with a direct member of a kind and code in the module whose rank this one serves, then their parents. -/
def chainFrom (b : Body) (kind code : Nat) (die : Option Nat) : List Nat :=
  match b.flock.plan with
  | none => []
  | some p => match p.flocks.find? (fun e => e.id != 17 && e.kind == kind
        && (if kind = 2 then (e.members.map (rankServer b)).contains code else e.members.contains code && rankServer b e.moduleIx == moduleIndex b) && (die == none || die == some e.die)) with
    | none => []
    | some e => e.id :: parentChain b flockDepth e.id

/-- The plan-defined flocks that contain a station, innermost first, the system flock last (R222). -/
def scope2Flocks (b : Body) (st : Nat) : List Nat :=
  chainFrom b 0 (logicalOf b st) (some (st / 64)) ++ chainFrom b 1 (st / 64) none
    ++ chainFrom b 2 (moduleIndex b) none ++ (if (flockModules b flockDepth 17).contains (moduleIndex b) then [17] else [])

/-- The barrier channel of a scope (R152, R222): none for a reserved scope or a flock that does not contain the station. -/
def barrierChannel (b : Body) (st scope f : Nat) : Option Nat :=
  match scope with
  | 0 => some 0
  | 1 => some 1
  | 2 => match (scope2Flocks b st).findIdx? (· == f) with
    | some i => if i < 5 then some (2 + i) else none
    | none => none
  | _ => none

/-- The stations that share a barrier channel with a station (R222, R223). -/
def channelStations (b : Body) (st ch : Nat) : List Nat :=
  match ch with
  | 0 => dieStations b (st / 64)
  | 1 => liveStations b
  | 7 => liveStations b
  | _ => match (scope2Flocks b st)[ch - 2]? with
    | some f => flockStations b flockDepth f
    | none => []

/-- bar_released (R223). -/
def barReleased (t : Station) (ch : Nat) : Bool :=
  decide ((SMap.get t.relGen 0 ch + 65536 - SMap.get t.arriveGen 0 ch) % 65536 < 32768)

/-- The wrap-aware minimum of two generations (R223). -/
def wrapMin (a c : Nat) : Nat := if (a + 65536 - c) % 65536 < 32768 then c else a

/-- The channel of a station that serves what a channel of another station serves (R222): that of the same flock. -/
def sameChannel (b : Body) (st ch x : Nat) : Nat :=
  if ch < 2 ∨ ch = 7 then ch
  else match (scope2Flocks b st)[ch - 2]? with
    | some f => (barrierChannel b x 2 f).getD ch
    | none => ch

/-- The release generation of a channel: the wrap-aware minimum over its stations (R223). -/
def releaseGen (b : Body) (st ch : Nat) : Nat :=
  match (channelStations b st ch).map (fun x => SMap.get (stn b x).arriveGen 0 (sameChannel b st ch x)) with
  | [] => SMap.get (stn b st).arriveGen 0 ch
  | g :: gs => gs.foldl wrapMin g

/-- The forwarding tree of a list of modules (R233): the leader of the level `lv` group of a rank, its lowest-rank live
module. -/
def groupLeader (b : Body) (ms : List Nat) (lv rank : Nat) : Option Nat :=
  let w := 32 ^ lv
  let lo := rank / w * w
  (((ms.zipIdx.filter (fun p => decide (lo ≤ p.2) && decide (p.2 < lo + w))).map (·.1)).find? (moduleLive b))

/-- The root of a list of modules: its lowest-rank live module (R233, R239). -/
def rootOf (b : Body) (ms : List Nat) : Option Nat := ms.find? (moduleLive b)

/-- The parent of this module on the forwarding tree, none at the root (R233). -/
def treeParent (b : Body) (ms : List Nat) : Option Nat :=
  let me := moduleIndex b
  let rank := (ms.findIdx? (· == me)).getD 0
  let up := [groupLeader b ms 1 rank, groupLeader b ms 2 rank, rootOf b ms].filterMap id
  up.find? (· != me)

/-- The highest level at which this module leads: 0 none, 3 root (R233). -/
def leaderLevel (b : Body) (ms : List Nat) : Nat :=
  let me := moduleIndex b
  let rank := (ms.findIdx? (· == me)).getD 0
  if rootOf b ms == some me then 3
  else if groupLeader b ms 2 rank == some me then 2
  else if groupLeader b ms 1 rank == some me then 1 else 0

/-- The live children of this module on the forwarding tree (R233): at level 1 the other modules of its group, at level 2
and 3 the leaders of the groups below. -/
def treeChildren (b : Body) (ms : List Nat) : List Nat :=
  let me := moduleIndex b
  let rank := (ms.findIdx? (· == me)).getD 0
  let live := ms.zipIdx.filter (fun p => moduleLive b p.1 && p.1 != me)
  let lv := leaderLevel b ms
  let l1 := if 1 ≤ lv then live.filter (fun p => p.2 / 32 == rank / 32) else []
  let l2 := if 2 ≤ lv then live.filter (fun p => p.2 / 1024 == rank / 1024 && p.2 / 32 != rank / 32
    && groupLeader b ms 1 p.2 == some p.1) else []
  let l3 := if 3 ≤ lv then live.filter (fun p => p.2 / 1024 != rank / 1024 && groupLeader b ms 2 p.2 == some p.1) else []
  (l1 ++ l2 ++ l3).map (·.1)

/-- A header of this module's own telegrams (R230, R232): the alive counter of the type and neighbour advances. -/
def telHead (b : Body) (ttype nbr flock stroke : Nat) (combined : Bool) : TelHead × Body :=
  let key := ttype * 16384 + nbr
  let a := SMap.get b.flock.txAlive 0 key
  let alive := if ttype = 5 then 0 else (a + 1) % 256
  ({ level := b.flock.telLevel, sender := moduleIndex b, flock := flock, stroke := stroke, alive := alive,
     combined := combined, crcOk := true, nbr := nbr },
   if ttype = 5 then b else { b with flock := { b.flock with txAlive := SMap.put b.flock.txAlive 0 key alive } })

/-- Send a START (R229, R231, R234). -/
def sendStart (nbr : Nat) (h : TelHead) (x : StartBody) (b : Body) : Body := sendTel nbr 1 (telBytes 1 h x.bytes) (emit (.telStart nbr h x) b)

/-- Send a HEADROOM (R229, R231, R235). -/
def sendHeadroom (nbr : Nat) (h : TelHead) (x : HeadroomBody) (b : Body) : Body :=
  sendTel nbr 2 (telBytes 2 h x.bytes) (emit (.telHeadroom nbr h x) b)

/-- Send an ARRIVE (R229, R231, R237). -/
def sendArrive (nbr : Nat) (h : TelHead) (gen count : Nat) (b : Body) : Body :=
  sendTel nbr 3 (telBytes 3 h (barrierBytes gen count)) (emit (.telArrive nbr h gen count) b)

/-- Send a RELEASE (R229, R231, R237). -/
def sendRelease (nbr : Nat) (h : TelHead) (gen : Nat) (b : Body) : Body :=
  sendTel nbr 4 (telBytes 4 h (barrierBytes gen 0)) (emit (.telRelease nbr h gen) b)

/-- Send an ECHO (R229, R231, R237). -/
def sendEcho (nbr : Nat) (h : TelHead) (x : EchoBody) (b : Body) : Body := sendTel nbr 7 (telBytes 7 h x.bytes) (emit (.telEcho nbr h x) b)

/-- Send a TALLY telegram (R237, R238). -/
def sendTallyTel (nbr flock : Nat) (body : TallyBody) (stroke : Nat) (b : Body) : Body :=
  let h := telHead b 5 nbr flock stroke false
  sendTel nbr 5 (telBytes 5 h.1 body.bytes) (emit (.telTally nbr h.1 body) h.2)

/-- A tally signal sent by a station towards a station of this module (R150, R219): applied at once at the sender
itself, else a flit; an absent destination is answered with cause 0x03 (R72). -/
def signalStation (src dst pc : Nat) (n v : Nat) (b : Body) : Body :=
  if src = dst then addTally dst n v b
  else sendFlit { Flit.blank .tallySignal with src := src, dst := dst, tag := n, len := v, stroke := getF b R.TLY_STN_STATUS.tag src
                                               dest := pc, addr := winBase (dst / 64) (logicalOf b dst) } b

/-- A signal to a flock that travels down the tree (R238): to the live member stations of this module, twice at a stand-in
of kind pair (R320), and to every live child. -/
def flockDown (src f n v stroke : Nat) (b : Body) : Body :=
  let deliver := fun (k : Nat) (b : Body) => forEach (flockStations b flockDepth f) (fun x b => sendFlit { Flit.blank .tallySignal with
    src := src, dst := x, tag := k, len := v, stroke := stroke % 4 } b) b
  let b := deliver n b
  let b := if pairStandin b then deliver (n + 2048) b else b
  forEach (treeChildren b (flockModules b flockDepth f)) (fun c b => sendTallyTel c f ⟨n, true, 0, v, 0⟩ stroke b) b

/-- A signal to a flock (R216, R238): up the forwarding tree to the root, and from the root down. -/
def flockSignal (src f n v stroke : Nat) (b : Body) : Body :=
  match treeParent b (flockModules b flockDepth f) with
  | some p => sendTallyTel p f ⟨n, true, 0, v, 0⟩ stroke b
  | none => flockDown src f n v stroke b

/-- The stand-in in force for a module, with its kind (R320). -/
def standFor (b : Body) (m : Nat) : Option (Nat × Nat) :=
  if flagF b R.TLY_STANDIN.valid 0 ∧ getF b R.TLY_STANDIN.lost 0 = m ∧ (getF b R.TLY_STANDIN.kind 0 = 1 ∨ getF b R.TLY_STANDIN.kind 0 = 2)
  then some (getF b R.TLY_STANDIN.standin 0, getF b R.TLY_STANDIN.kind 0) else none

/-- The module and tally that a signal to a station of module `m` goes to (R320). -/
def standTally (b : Body) (m n : Nat) : Nat × Nat :=
  match standFor b m with
  | some (x, 1) => (x, (n + 2048) % 4096)
  | some (x, _) => (x, n)
  | none => (m, n)

/-- Perform tally_signal for a station (R150, R216, R238); `pc` is the bundle that sends it. The error response to an
absent destination carries that bundle in `tag`, marked `staged` to tell it from an access (R72). -/
def tallySignal (src pc : Nat) (d : SigDest) (n v : Nat) (b : Body) : Body :=
  match d with
  | .own => addTally src n v b
  | .station m0 die l =>
    let m := (standTally b m0 n).1
    let n := (standTally b m0 n).2
    if m = moduleIndex b then
      match physOf b die l with
      | some x => signalStation src x pc n v b
      | none => sendFlit { Flit.blank .errorResponse with src := segEp die, dst := src, cause := 3, addr := winBase die l,
                                                          tag := pc, isRead := false, staged := true } b
    else if flagF b R.KLK_ROUTE.lost m then b
    else sendTallyTel m 0 ⟨n, false, die * 64 + l, v, m⟩ (strokeNum b) b
  | .flock f => flockSignal src f n v (getF b R.TLY_STN_STATUS.tag src + strokeNum b / 4 * 4) b

/-- Send every release of a station whose earlier writes and matrix operations are done (R150). -/
def sendReleases (st : Nat) (b : Body) : Body :=
  let t := stn b st
  let ready := t.releases.filter (fun r => r.writes.isEmpty && r.matrix.isEmpty)
  let b := updStn b st (fun t => { t with releases := t.releases.filter (fun r => !(r.writes.isEmpty && r.matrix.isEmpty)) })
  forEach ready (fun r b => tallySignal st r.pc r.dest r.tally r.value b) b

end Sys2Proof.Machine
end

