-- ==== Sys2Proof/Machine/HostOps.lean ====
section
/-! DEFINITION. Interrupts and the queueing of logbook records (R503, R504, R581-R584, R589). -/

namespace Sys2Proof.Machine

/-- Change the host side. -/
def updHost (f : HostSide → HostSide) (b : Body) : Body := { b with host := f b.host }

/-- Change the logbook. -/
def updLog (f : Logbook → Logbook) (b : Body) : Body := { b with logbook := f b.logbook }

/-- The operating milliseconds of the hour stamp (R583). -/
def hourMs (b : Body) : Nat := b.host.opBase + (if getF b R.GBL_STATUS.power_state 0 = 0 then 0 else (b.now - b.host.opSince) / 1000000)

/-- The hour stamp (R528): operating milliseconds and power-cycle count. -/
def hourStamp (b : Body) : List Byte := leBytes 5 (hourMs b) ++ leBytes 3 b.host.cycles

/-- Calendar time in ms (R583). -/
def calendar (b : Body) : Nat := if b.host.calValid then b.host.calBase + (b.now - b.host.calAt) / 1000000 else 0

/-- The MSI-X entry of a vector. -/
def msixEntry (b : Body) (v : Nat) : MsixEntry := SMap.get b.host.msix MsixEntry.reset v

/-- Send the message of a vector, or keep it pending while its entry or the function is masked (R504). -/
def sendVector (v : Nat) (b : Body) : Body :=
  if b.host.fnMask ∨ (msixEntry b v).masked then updHost (fun h => { h with msixPending := setBit h.msixPending v true }) b
  else emit (.msix v) b

/-- An interrupt cause arises (R504). -/
def raiseVec (v : Nat) (b : Body) : Body :=
  let c := getF b R.IRQ_CAUSE.cause 0
  if bit c v then b
  else
    let b := setF b R.IRQ_CAUSE.cause 0 (setBit c v true)
    if bit (getF b R.IRQ_MASK.mask 0) v then b else sendVector v b

/-- The length of a record with a payload of so many bytes (R581). -/
def recLength (n : Nat) : Nat := 32 + 8 * ceilDiv n 8

/-- The length of a record. -/
def LogRec.length (r : LogRec) : Nat := recLength r.payload.length

/-- Is a class privileged (R591)? -/
def privClass (cls : Nat) : Bool := decide (0x100 ≤ cls)

/-- Bytes of the queue in use (R588). -/
def queueBytes (q : List LogRec) : Nat := (q.map LogRec.length).foldl (· + ·) 0

/-- The size of the queue (R588). -/
def queueSize : Nat := 262144

/-- Pad a payload to a multiple of 8 (R591). -/
def pad8 (bs : List Byte) : List Byte := bs ++ List.replicate ((8 - bs.length % 8) % 8) 0

/-- A number was given to a record that is then dropped (R589). -/
def dropNumber (n : Nat) (l : Logbook) : Logbook :=
  { l with dropped := match l.dropped with
      | none => some (n, n, 1)
      | some (a, z, k) => some (min a n, max z n, k + 1) }

/-- Do the Shepherds run: their supply holds and they are not held in reset (R349, R655)? -/
def powered (b : Body) : Bool := b.cox.path.housekeeping && !b.cox.path.heldReset

/-- Queue a record (R582-R584, R589, R596), where firmware runs: it takes the next number and the stamps of this instant; the ceiling moves
before its number is issued; a full queue drops it, or for a privileged record the oldest one that is not privileged. While no Shepherd is
active the record is queued and numbered all the same (log entry 76). -/
def logFrom (origin cls : Nat) (payload : List Byte) (b : Body) : Body :=
  if !powered b then b else
  let cal := leBytes 6 (calendar b) ++ leBytes 2 (cond b.host.calValid 1 0)
  let body := pad8 (if privClass cls then cal ++ payload else payload)
  let r : LogRec := { seq := b.logbook.nextSeq, cls := cls, payload := body.take 1000, origin := origin
                      writer := getF b R.SHP_STATUS.active 0, opMs := hourMs b, cycles := b.host.cycles }
  updLog (fun l =>
    let l := { l with ceiling := if l.nextSeq = l.ceiling then l.ceiling + 4096 else l.ceiling, nextSeq := l.nextSeq + 1 }
    if queueBytes l.queue + r.length ≤ queueSize then { l with queue := l.queue ++ [r] }
    else if privClass cls then
      match l.queue.find? (fun x => !privClass x.cls) with
      | some x => dropNumber x.seq { l with queue := l.queue.filter (fun y => y.seq != x.seq) ++ [r] }
      | none => dropNumber r.seq l
    else dropNumber r.seq l) b

/-- Queue a record of the module itself. -/
def logRec (cls : Nat) (payload : List Byte) (b : Body) : Body := logFrom 0 cls payload b

/-- The state of the power path (R358). -/
def power (b : Body) : Nat := getF b R.GBL_STATUS.power_state 0

/-- A state sensor. -/
def sensor (b : Body) (id : Nat) : SensorSide := SMap.get b.rack.sensors SensorSide.reset id

/-- Change the rack side. -/
def updRack (f : Rack → Rack) (b : Body) : Body := { b with rack := f b.rack }

/-- Change a state sensor. -/
def updSensor (id : Nat) (f : SensorSide → SensorSide) (b : Body) : Body :=
  updRack (fun r => { r with sensors := SMap.upd r.sensors SensorSide.reset id f }) b

/-- Is a Shepherd active (R488)? -/
def shepherdActive (b : Body) : Bool := getF b R.SHP_STATUS.a_state 0 == 4 || getF b R.SHP_STATUS.b_state 0 == 4

/-- A state sensor changes (R622): an event goes to the event receiver, at most one per 100 ms; in the hold-off the last change
waits. The ALERT pin is asserted until the receiver acknowledges. -/
def sensorEvent (id old code : Nat) (b : Body) : Body :=
  if !shepherdActive b then b else
  let b := updSensor id (fun x => { x with previous := old }) b
  match b.rack.receiver with
  | none => b
  | some eid =>
    if (sensor b id).holding then updSensor id (fun x => { x with waiting := some code }) b
    else emit (.response "PLATFORM_EVENT_MESSAGE" [eid, id, code + 1, old + 1])
      (updRack (fun r => { r with events := r.events + 1 }) (updSensor id (fun x => { x with holding := true }) b))

/-- The power path changes state (R358, R503, R583, R591): time in state off does not count as operation. -/
def setPower (n : Nat) (b : Body) : Body :=
  let old := power b
  if old = n then b
  else
    let ms := hourMs b
    let b := updHost (fun h => { h with opBase := ms, opSince := b.now }) b
    let b := setF b R.GBL_STATUS.power_state 0 n
    if powered b then sensorEvent 9 old n (raiseVec 22 (logRec 0x20 [BitVec.ofNat 8 old, BitVec.ofNat 8 n] b)) else b

/-- Is the module isolated (R289)? -/
def isolated (b : Body) : Bool := (List.range 4).any (fun n => flagF b R.KLK_DIE_STATUS.isolated n)

/-- Has this module joined a stroke flock (R516, R533)? -/
def joined (b : Body) : Bool := flagF b R.TLY_SEAT.valid 0

/-- Run state of FAILOVER_STATUS and of GBL_STATUS (R331, R516). -/
def runState (b : Body) : Nat :=
  if isolated b then 4
  else if b.flock.role = 1 ∧ joined b ∧ !flagF b R.TLY_STROKE_CTRL.enable 0 then 5
  else if b.flock.filling then 6
  else if b.flock.inReplay then 1
  else if flagF b R.TLY_STANDIN.valid 0 ∧ getF b R.TLY_STANDIN.kind 0 = 1 then 2
  else if b.fail.aborted then 3
  else 0

/-- A change of the run state since `old` is an event of sensor 10 (R622). -/
def noteRun (old : Body) (b : Body) : Body :=
  if runState old = runState b then b else sensorEvent 10 (runState old) (runState b) b

end Sys2Proof.Machine
end

