-- ==== Sys2Proof/Machine/PmcOps.lean ====
section
/-! DEFINITION. Performance counters: rings and their records, counting, snapshots (R598-R616). Station counters are numbered by the
logical station they belong to, die * 48 + l (R599). -/

namespace Sys2Proof.Machine

/-- Change the counters' side. -/
def updPmc (f : PmcSide → PmcSide) (b : Body) : Body := { b with pmc := f b.pmc }

/-- Vector 26 (R613). -/
def pmcVector (b : Body) : Body := raiseVec 26 b

/-- The units a ring of a die spans, in ascending order (R607): ring 0 trace, 1 samples. -/
def ringUnits (b : Body) (d ring : Nat) : List Nat :=
  (List.range 4).filter (bit (getF b (if ring = 0 then R.PMC_BUF_CFG.trace_units else R.PMC_BUF_CFG.sample_units) d))

/-- The size of a ring in bytes. -/
def ringSize (b : Body) (d ring : Nat) : Nat := 65536 * (ringUnits b d ring).length

/-- The head and tail registers of a ring. -/
def ringHead (ring : Nat) : Field := if ring = 0 then R.PMC_TRC_HEAD.head else R.PMC_SMP_HEAD.head
/-- The tail register of a ring. -/
def ringTail (ring : Nat) : Field := if ring = 0 then R.PMC_TRC_TAIL.tail else R.PMC_SMP_TAIL.tail

/-- Store bytes in a die's buffer at an offset of a ring. -/
def ringStore (d ring off : Nat) (bs : List Byte) (b : Body) : Body :=
  let at_ := d * 262144 + (ringUnits b d ring).getD (off / 65536) 0 * 65536 + off % 65536
  updPmc (fun p => { p with buffer := bs.zipIdx.foldl (fun m x => SMap.put m 0 (at_ + x.2) x.1) p.buffer }) b

/-- A record of 64 bytes (R612). -/
def pmcRecord (kind lst unit pc ns : Nat) (body : List Byte) : List Byte :=
  leBytes 1 kind ++ leBytes 1 lst ++ leBytes 1 unit ++ [0] ++ leBytes 2 (pc % 4096) ++ leBytes 2 0 ++ leBytes 8 ns
    ++ body ++ List.replicate (48 - body.length) 0

/-- A record is dropped and counted for its station, or for the die (R608). -/
def dropRecord (d ring lst : Nat) (b : Body) : Body :=
  let b := updPmc (fun p => { p with lost := SMap.upd p.lost 0 (d * 2 + ring) (· + 1) }) b
  if lst < 48 then addSat b R.PMC_STN_STATUS.dropped (d * 48 + lst) 1 else addSat b R.PMC_DIE_STATUS.dropped d 1

/-- A record is written at the head of a ring (R608, R613). -/
def ringWrite (d ring lst : Nat) (rec_ : List Byte) (b : Body) : Body :=
  let size := ringSize b d ring
  let head := getF b (ringHead ring) d
  let tail := getF b (ringTail ring) d
  let next := (head + 64) % size
  let wrap := flagF b R.PMC_BUF_CFG.wrap d
  if size = 0 ∨ (next = tail ∧ !wrap) then dropRecord d ring lst b
  else
    let b := setF (ringStore d ring head rec_ b) (ringHead ring) d next
    let b := if next = tail then setFlag (setF b (ringTail ring) d ((tail + 64) % size)) R.PMC_BUF_STATUS.overwrote d true else b
    let used := (next + size - getF b (ringTail ring) d) % size
    let mark := getF b R.PMC_BUF_CFG.watermark d * size / 16
    let b := if used - 64 < mark ∧ mark ≤ used then pmcVector b else b
    if !wrap ∧ (next + 64) % size = getF b (ringTail ring) d then pmcVector (setFlag b R.PMC_BUF_STATUS.full d true) else b

/-- The drover trace record of a descriptor that completes or faults (R609, R612). -/
def traceDesc (dr : Nat) (e : Desc) (cause since pc : Nat) (b : Body) : Body :=
  let st := dr / 2
  let d := st / 64
  if flagF b R.PMC_BUF_CFG.trace_en d ∧ 0 < ringSize b d 0 then
    ringWrite d 0 (logicalOf b st)
      (pmcRecord 3 (logicalOf b st) (dr % 2) pc b.now ([BitVec.ofNat 8 (e.kind % 16 + dr % 2 * 16), BitVec.ofNat 8 cause] ++ leBytes 2 0
        ++ leBytes 4 e.length ++ leBytes 8 e.src ++ leBytes 8 e.dst ++ leBytes 8 since ++ leBytes 6 (strokeNum b))) b
  else b

/-- The fields of a counter page: a station's, a die's or the module's, with the count of its counters. -/
structure PmcPage where
  event : Field
  mode : Field
  irq : Field
  threshold : Field
  interval : Field
  count : Field
  snap : Field
  stroke : Field
  overflow : Field
  n : Nat

/-- A station page (R615). -/
def stationPage : PmcPage :=
  { event := R.PMC_S_SEL.event, mode := R.PMC_S_SEL.mode, irq := R.PMC_S_SEL.irq, threshold := R.PMC_S_SEL.threshold
    interval := R.PMC_S_SEL.interval, count := R.PMC_S_CNT.count, snap := R.PMC_S_SNAP.snap, stroke := R.PMC_S_SNAP_STROKE.stroke
    overflow := R.PMC_STN_STATUS.overflow, n := 8 }

/-- A die page (R616). -/
def diePage : PmcPage :=
  { event := R.PMC_D_SEL.event, mode := R.PMC_D_SEL.mode, irq := R.PMC_D_SEL.irq, threshold := R.PMC_D_SEL.threshold
    interval := R.PMC_D_SEL.interval, count := R.PMC_D_CNT.count, snap := R.PMC_D_SNAP.snap, stroke := R.PMC_D_SNAP_STROKE.stroke
    overflow := R.PMC_DIE_STATUS.overflow, n := 16 }

/-- The module page (R616). -/
def modulePage : PmcPage :=
  { event := R.PMC_M_SEL.event, mode := R.PMC_M_SEL.mode, irq := R.PMC_M_SEL.irq, threshold := R.PMC_M_SEL.threshold
    interval := R.PMC_M_SEL.interval, count := R.PMC_M_CNT.count, snap := R.PMC_M_SNAP.snap, stroke := R.PMC_M_SNAP_STROKE.stroke
    overflow := R.PMC_MOD_STATUS.overflow, n := 32 }

/-- The page of a number: 0-767 station die * 48 + l, 768-783 die, 784 module; with the instance of its page. -/
def pageOf (p : Nat) : PmcPage × Nat := if p < 768 then (stationPage, p) else if p < 784 then (diePage, p - 768) else (modulePage, 0)

/-- Does the overflow of a counter pulse SYNC_AUX (R611)? -/
def triggers (b : Body) (p k : Nat) : Bool :=
  let src := getF b R.PMC_TRIG.source 0
  let here := if p < 768 then src == 1 && getF b R.PMC_TRIG.die 0 * 48 + getF b R.PMC_TRIG.station 0 == p
    else if p < 784 then src == 2 && getF b R.PMC_TRIG.die 0 == p - 768 else src == 3
  here && getF b R.PMC_TRIG.counter 0 == k && getF b R.SHP_SYNCAUX.mode 0 == 2

/-- The overflow record of a counter (R605, R612); `cycles` since the catch, `excess` where the ring's rate limit is passed. -/
def overflowRecord (p k cycles : Nat) (excess : Bool) (b : Body) : Body :=
  let d := if p < 768 then p / 48 else p - 768
  let lst := if p < 768 then p % 48 else 0xFF
  let pc := match (if lst < 48 then physOf b d lst else none) with
    | some st => getF b R.STN_SEQ_PC.pc st
    | none => 0
  let pg := pageOf p
  let body := leBytes 6 (strokeNum b) ++ leBytes 2 0 ++ leBytes 8 cycles ++ leBytes 1 (getF b pg.1.event (pg.2 * pg.1.n + k))
  if excess then dropRecord d 1 lst b else ringWrite d 1 lst (pmcRecord 1 lst k pc b.now body) b

/-- An event occurs at a counter, or in mode 2 a counted unit ends with an occupancy (R601, R613). -/
def countEvent (p k occ cycles : Nat) (excess : Bool) (b : Body) : Body :=
  let pg := pageOf p
  let i := pg.2 * pg.1.n + k
  let mode := getF b pg.1.mode i
  let adds := mode = 1 ∨ mode = 3 ∨ (mode = 2 ∧ getF b pg.1.threshold i < occ)
  let idle := decide (p < 768) && (physOf b (p / 48) (p % 48)).isNone
  if getF b pg.1.event i = 0 ∨ !adds ∨ idle then b
  else
    let c := getF b pg.1.count i + 1
    if c < 2 ^ 48 then setF b pg.1.count i c
    else
      let reload := if p < 768 then R.PMC_S_RELOAD.reload else R.PMC_D_RELOAD.reload
      let b := setF b pg.1.count i (if mode = 3 then getF b reload i else 0)
      let b := setF b pg.1.overflow pg.2 (setBit (getF b pg.1.overflow pg.2) k true)
      let b := if flagF b pg.1.irq i then pmcVector b else b
      let b := if triggers b p k then emit (.pin "SYNC_AUX" 1) b else b
      if mode = 3 then overflowRecord p k cycles excess b else b

/-- The common event of counters, 0xFF where they differ (R600). -/
def commonEvent (es : List Nat) : Nat :=
  match es with
  | [] => 0
  | e :: rest => if rest.all (· == e) then e else 0xFF

/-- The snapshot of every counter at a commit, and the aggregates (R600). -/
def pmcSnapshot (b : Body) : Body :=
  let n := strokeNum b
  let pages := [stationPage, diePage, modulePage]
  let is := fun (f : PmcPage → Field) (e : Nat × Nat) => pages.any (fun p => e.1 % 1024 == (f p).idx)
  let counts := b.regs.filter (is (·.count))
  let b := { b with regs := b.regs.filter (fun e => !is (·.snap) e) }
  let b := forEach counts (fun e b => forEach pages (fun p b => if e.1 % 1024 = p.count.idx then setF b p.snap (e.1 / 1024) e.2 else b) b) b
  let b := forEach (List.range 785) (fun p b => let g := pageOf p; setF b g.1.stroke g.2 n) b
  let agg := fun (d k : Nat) (b : Body) =>
    let ls := (List.range 48).filter (fun l => (physOf b d l).isSome)
    let b := setF b R.PMC_AGG.sum (d * 8 + k) ((ls.map (fun l => getF b R.PMC_S_SNAP.snap ((d * 48 + l) * 8 + k))).foldl (· + ·) 0)
    setF b R.PMC_AGG.event (d * 8 + k) (commonEvent (ls.map (fun l => getF b R.PMC_S_SEL.event ((d * 48 + l) * 8 + k))))
  let b := forEach (List.range 16) (fun d b => forEach (List.range 8) (agg d) b) b
  forEach (List.range 8) (fun k b =>
    let b := setF b R.PMC_MAGG.sum k (((List.range 16).map (fun d => getF b R.PMC_AGG.sum (d * 8 + k))).foldl (· + ·) 0)
    setF b R.PMC_MAGG.event k (commonEvent ((List.range 16).map (fun d => getF b R.PMC_AGG.event (d * 8 + k))))) b

/-- The counters of a substituted logical station go on from its snapshot (R599). -/
def pmcSubstitute (d l : Nat) (b : Body) : Body :=
  forEach (List.range 8) (fun k b => setF b R.PMC_S_CNT.count ((d * 48 + l) * 8 + k) (getF b R.PMC_S_SNAP.snap ((d * 48 + l) * 8 + k))) b

/-- The claims of a die's buffer and timers show in GBL_BUF_CLAIM (R511, R516). -/
def showClaims (d : Nat) (b : Body) : Body :=
  let owned := fun (o : Nat) => ((List.range 4).filter (fun t => getF b R.PMC_TIMER.owner (d * 4 + t) == o)).foldl (fun m t => m + 2 ^ t) 0
  let b := setF (setF b R.GBL_BUF_CLAIM.trace_units d (getF b R.PMC_BUF_CFG.trace_units d)) R.GBL_BUF_CLAIM.sample_units d (getF b R.PMC_BUF_CFG.sample_units d)
  setF (setF b R.GBL_BUF_CLAIM.trace_timers d (owned 1)) R.GBL_BUF_CLAIM.sample_timers d (owned 2)

/-- PLAN_LOAD releases every trace unit and timer and stops the trace (R609). -/
def pmcPlanRelease (b : Body) : Body :=
  forEach (List.range 16) (fun d b =>
    let b := setFlag (setF b R.PMC_BUF_CFG.trace_units d 0) R.PMC_BUF_CFG.trace_en d false
    let b := forEach (List.range 4) (fun t b =>
      if getF b R.PMC_TIMER.owner (d * 4 + t) = 1 then setF (setF b R.PMC_TIMER.owner (d * 4 + t) 0) R.PMC_TIMER.period_us (d * 4 + t) 0 else b) b
    showClaims d b) b

end Sys2Proof.Machine
end

