-- ==== Sys2Proof/Machine/DroverOps.lean ====
section
/-! DEFINITION. What drovers do: descriptors, their checks, the flits of a move, faults (R186-R191). -/

namespace Sys2Proof.Machine

/-- A field of a descriptor's bytes. -/
def dfield (bs : List Byte) (off len : Nat) : Nat := ofLeBytes ((bs.drop off).take len)

/-- The descriptor in 64 bytes (R186). -/
def descOf (bs : List Byte) : Desc :=
  let b0 := dfield bs 0 1
  let b1 := dfield bs 1 1
  { kind := bits b0 0 4, dir := bits b0 4 2, staged := bit b0 6, last := bit b0 7, notally := bit b1 0, chk := bit b1 1,
    frame := bit b1 2, tally := bits (dfield bs 2 2) 0 12, length := dfield bs 4 4, src := dfield bs 8 8,
    dst := dfield bs 16 8, count := dfield bs 24 4, value := dfield bs 28 4, srcStride := dfield bs 32 8,
    dstStride := dfield bs 40 8, index := dfield bs 48 4,
    reservedZero := bits b1 3 5 == 0 && bits (dfield bs 2 2) 12 4 == 0 && dfield bs 52 12 == 0 }

/-- A kind that moves data. -/
def Desc.moves (d : Desc) : Bool := 1 ≤ d.kind && d.kind ≤ 4

/-- The faults of the fields alone (R186, R187, R191), lowest cause first: encoding 1, misaligned 3, length 4. -/
def fieldFault (d : Desc) (host : Bool) : Option Nat :=
  let enc := d.kind = 0 ∨ 6 < d.kind ∨ !d.reservedZero ∨ (d.staged ∧ d.dir ≠ 2)
    ∨ (d.moves ∧ (if host then d.dir ≠ 0 else d.dir = 0)) ∨ (host ∧ 3 ≤ d.kind)
    ∨ (host ∧ (d.tally ≠ 0 ∨ !d.notally))
    ∨ (!d.moves ∧ (d.src ≠ 0 ∨ d.dst ≠ 0)) ∨ (d.kind = 5 ∧ (d.value = 0 ∨ 2 ^ 20 ≤ d.value)) ∨ (d.moves ∧ d.value ≠ 0)
  let mis := d.moves ∧ (d.src % 32 ≠ 0 ∨ d.dst % 32 ≠ 0 ∨ (d.kind = 2 ∧ (d.srcStride % 32 ≠ 0 ∨ d.dstStride % 32 ≠ 0))
    ∨ ((d.kind = 3 ∨ d.kind = 4) ∧ d.index % 32 ≠ 0))
  let len := (d.moves ∧ (d.length < 32 ∨ 16777216 < d.length ∨ d.length % 32 ≠ 0))
    ∨ (d.kind ≠ 2 ∧ d.kind ≠ 3 ∧ d.kind ≠ 4 ∧ d.count ≠ 0)
    ∨ ((d.kind = 2 ∨ d.kind = 3 ∨ d.kind = 4) ∧ (d.count = 0 ∨ 65536 < d.count))
  if enc then some 1 else if mis then some 3 else if len then some 4 else none

/-- Where an address of a move lies once resolved: a station window of a module, stack memory of a module, host memory. -/
inductive Place where
  | station (m : Nat) (w : WinAddr)
  | stack (m : Nat) (addr : Nat)
  | host (addr : Nat)
deriving DecidableEq, Repr

/-- An address in a flock's window resolved to a module and a module address (R170). -/
def resolveFlock (b : Body) : Nat → Nat → Nat → Option (Nat × Nat)
  | 0, _, _ => none
  | fuel + 1, f, o =>
    if f < 16 then (if o < 0x20000000 then some (moduleIndex b, 0xF000000000 + f * 0x20000000 + o) else none)
    else if f = 16 then (if o < 0x200000000 then some (moduleIndex b, 0xF000000000 + o) else none)
    else match flockEntry b f with
      | none => none
      | some e =>
        let w := 2 ^ e.log2w
        match e.members[o / w]? with
        | none => none
        | some c => match e.kind with
          | 0 => if o % w < 0x800000 then some (e.moduleIx, winBase e.die c + o % w) else none
          | 1 => if o % w < 0x20000000 then some (e.moduleIx, winBase c 0 + o % w) else none
          | 2 => if o % w < 0x200000000 then some (c, 0xF000000000 + o % w) else none
          | _ => resolveFlock b fuel c (o % w)

/-- A named module and address with the stand-in in force applied (R320), for a range of `len` bytes. -/
def standResolve (b : Body) (len : Nat) (p : Nat × Nat) : Option (Nat × Nat) :=
  match standFor b p.1 with
  | some (x, 1) =>
    if 0xF000000000 ≤ p.2 then (if (p.2 - 0xF000000000) % 0x800000 + len ≤ 0x300000 then some (x, p.2 + 0x300000) else none)
    else some (x, p.2 + 0xA00000000)
  | some (x, _) => some (x, p.2)
  | none => some p

/-- A module and a module address named by a system address of a drover (R166, R167, R170, R320). -/
def sysTarget (b : Body) (a len : Nat) (flockOk : Bool) : Option (Nat × Nat) :=
  let x := sysAddr a
  match x.space with
  | 0 => if x.ix = 0 then some (moduleIndex b, x.addr) else none
  | 1 => standResolve b len (x.ix, x.addr)
  | 2 => if flockOk then (resolveFlock b flockDepth x.ix x.addr).bind (standResolve b len) else none
  | _ => none

/-- Does a stack range touch a staging region (R189, R193)? A stack of size 0 has none. -/
def touchesStaging (b : Body) (a len : Nat) : Bool :=
  (List.range 12).any (fun k =>
    let base := getF b R.MEM_STG_BASE.base k
    let size := getF b R.MEM_STG_SIZE.size_mib k * 1048576
    decide (0 < size) && decide (a < base + size) && decide (base < a + len))

/-- A station-window end of a move, in this module unless `any` (R187, R189). -/
def stationEnd (b : Body) (a len : Nat) (any flockOk : Bool) : Option Place :=
  match sysTarget b a len flockOk with
  | none => none
  | some (m, x) => if m = moduleIndex b ∨ any then (winAccess x len).map (Place.station m) else none

/-- A stack-memory end of a move (R187, R189, R193). -/
def stackEnd (b : Body) (a len : Nat) (any : Bool) : Option Place :=
  match sysTarget b a len false with
  | none => none
  | some (m, x) =>
    if x + len ≤ 12 * stackBytes ∧ (m = moduleIndex b ∨ any) ∧ !(m = moduleIndex b ∧ touchesStaging b x len) then
      some (.stack m x) else none

/-- An address advanced by a distance within bits [47:0] (R188). -/
def advance (a n : Nat) : Option Nat :=
  let x := sysAddr a
  if x.addr + n < 2 ^ 48 then some { x with addr := x.addr + n }.pack else none

/-- The moves of a descriptor in the loop order of R188. -/
def movesOf (d : Desc) (idx : List Nat) : List Move :=
  match d.kind with
  | 1 => [⟨some d.src, some d.dst, d.length⟩]
  | 2 => (List.range d.count).map (fun r => ⟨advance d.src (r * d.srcStride), advance d.dst (r * d.dstStride), d.length⟩)
  | 3 => idx.zipIdx.map (fun p => ⟨advance d.src (p.1 * d.length), advance d.dst (p.2 * d.length), d.length⟩)
  | 4 => idx.zipIdx.map (fun p => ⟨advance d.src (p.2 * d.length), advance d.dst (p.1 * d.length), d.length⟩)
  | _ => []

/-- The source end of a move by its direction (R187). -/
def moveSrc (b : Body) (d : Desc) (m : Move) : Option Place :=
  m.src.bind (fun a => match d.dir with
    | 1 => stackEnd b a m.len true
    | 2 => stationEnd b a m.len false false
    | 3 => stationEnd b a m.len false false
    | _ => none)

/-- The destination end of a move by its direction (R187). -/
def moveDst (b : Body) (d : Desc) (m : Move) : Option Place :=
  m.dst.bind (fun a => match d.dir with
    | 1 => stationEnd b a m.len false false
    | 2 => stackEnd b a m.len (!d.staged)
    | 3 => stationEnd b a m.len true true
    | _ => none)

/-- The ends of a move by its direction (R187). -/
def moveEnds (b : Body) (d : Desc) (m : Move) : Option (Place × Place) :=
  (moveSrc b d m).bind (fun p => (moveDst b d m).map (fun q => (p, q)))

/-- Do two places overlap over a length? -/
def Place.overlaps (p q : Place) (n k : Nat) : Bool :=
  match p, q with
  | .station m w, .station m' w' => m == m' && w.die == w'.die && w.lst == w'.lst && decide (w.off < w'.off + k) && decide (w'.off < w.off + n)
  | .stack m a, .stack m' a' => m == m' && decide (a < a' + k) && decide (a' < a + n)
  | _, _ => false

/-- Show whether a drover runs (R209); a stopped one stays stopped. -/
def showDrover (dr : Nat) (b : Body) : Body :=
  if getF b R.DRV_STATUS.state dr = 2 then b
  else setF b R.DRV_STATUS.state dr (if (drv b dr).busy then 1 else 0)

/-- Record a drover fault and stop the drover (R191, R209): entries and descriptors after the faulting one end at once
and are kept for a resume; `tid` is the first transfer that ends, `eix` the faulting entry. -/
def drvFault (dr cause detail addr pc : Nat) (fromList : Bool) (tid eix : Nat) (b : Body) : Body :=
  if getF b R.DRV_STATUS.state dr = 2 then b
  else
    let d := drv b dr
    let later := (d.transfers.filter (fun t => decide (eix < t.entryIx))).map (fun t => (t.entryIx, t.entry))
    let cur := match d.current with
      | some e => if eix < d.entryIx then [(d.entryIx, e)] else []
      | none => []
    let again := ((later ++ cur).foldl (fun acc p => if (acc.map (·.1)).contains p.1 then acc else acc ++ [p]) []).map (·.2)
    let b := updDrv b dr (fun d => { d with current := none, waiting := none, moving := none, replayed := again ++ d.replayed,
                                            transfers := d.transfers.filter (fun t => decide (t.id < tid)) })
    let t := d.transfers.find? (fun t => t.id == tid)
    let b := traceDesc dr ((t.map (·.desc)).getD d.running) cause ((t.map (·.since)).getD b.now) pc b
    let b := setF b R.DRV_FAULT.cause dr cause
    let b := setF b R.DRV_FAULT.detail dr detail
    let b := setF b R.DRV_FAULT.pc dr pc
    let b := setFlag b R.DRV_FAULT.fromList dr fromList
    let b := setF b R.DRV_FAULT.valid dr 1
    let b := setF b R.DRV_FAULT_ADDR.addr dr addr
    report (.drover dr) (setF b R.DRV_STATUS.state dr 2)

/-- A fault of a transfer already started, found by its number (R191). -/
def transferFault (dr tid cause detail addr : Nat) (b : Body) : Body :=
  match (drv b dr).transfers.find? (fun t => t.id == tid) with
  | none => b
  | some t => drvFault dr cause detail addr t.entry.pc t.entry.isList tid t.entryIx b

/-- Update one transfer of a drover. -/
def updTransfer (dr tid : Nat) (f : Transfer → Transfer) (b : Body) : Body :=
  updDrv b dr (fun d => { d with transfers := d.transfers.map (fun t => if t.id = tid then f t else t) })

/-- Keep the bytes of a piece for the check-value unit (R190). -/
def keepPiece (dr tid piece : Nat) (bs : List Byte) (b : Body) : Body :=
  updTransfer dr tid (fun t => if t.chk then { t with pieces := SMap.put t.pieces [] piece bs } else t) b

/-- The endpoint that serves a station of a module by its logical number: the physical one in this module, the logical one in another, whose
die map is its own (R56, R66; log entry 59). -/
def stationEp (b : Body) (m : Nat) (w : WinAddr) : Option Nat :=
  if m = moduleIndex b then physOf b w.die w.lst else some (w.die * 64 + w.lst)

/-- A place moved on by some bytes. -/
def Place.plus (p : Place) (n : Nat) : Place :=
  match p with
  | .station m w => .station m { w with off := w.off + n }
  | .stack m a => .stack m (a + n)
  | .host a => .host (a + n)

/-- The module address of a place. -/
def Place.addr (p : Place) : Nat :=
  match p with
  | .station _ w => winBase w.die w.lst + w.off
  | .stack _ a => a
  | .host a => a

/-- The module of a place. -/
def Place.moduleOf (p : Place) (me : Nat) : Nat :=
  match p with
  | .station m _ => m
  | .stack m _ => m
  | .host _ => me

/-- The system address of a place. -/
def Place.sys (p : Place) (me : Nat) : Nat :=
  if p.moduleOf me = me then p.addr else (⟨1, p.moduleOf me, p.addr⟩ : SysAddr).pack

/-- The place a system address of a flit's destination names (R166). -/
def placeOf (b : Body) (a : Nat) : Option Place :=
  let x := sysAddr a
  let m := if x.space = 1 then x.ix else moduleIndex b
  if x.addr < 12 * stackBytes then some (.stack m x.addr) else (winOf x.addr).map (Place.station m)

/-- Send one flit of a drover towards its destination from the endpoint that holds its bytes (R174, R190, R267); the fault cause where the
destination is absent or its module cannot be reached. -/
def bulkWrite (src dr tid piece : Nat) (staged : Bool) (dst : Place) (payload : List Byte) (b : Body) : Option Nat × Body :=
  let base := { Flit.blank .droverBulk with src := src, tag := tid, piece := piece, drv := some dr, staged := staged, addr := dst.addr,
                                            payload := payload.map some, len := payload.length }
  let send := fun (m : Nat) (f : Flit) =>
    if m = moduleIndex b then (none, sendFlit f b)
    else
      let r := sendModule m 4 { f with origin := some (moduleIndex b) } b
      (if r.1 then none else some 8, r.2)
  match dst with
  | .station m w =>
    match stationEp b m w with
    | none => (some 7, b)
    | some x => send m { base with dst := x }
  | .stack m a => send m { base with dst := ctlEp (a / stackBytes) }
  | .host _ => (some 2, b)

/-- The bytes a drover asked for go on to their destination (R190). -/
def forwardRead (src dr tid piece : Nat) (staged : Bool) (dest : Nat) (bs : List Byte) (b : Body) : Body :=
  let b := keepPiece dr tid piece bs b
  match placeOf b dest with
  | none => transferFault dr tid 7 3 dest b
  | some q =>
    let r := bulkWrite src dr tid piece staged q bs b
    match r.1 with
    | none => r.2
    | some c => transferFault dr tid c (if c = 7 then 3 else 0) dest r.2

/-- Issue one piece of a move (R190): own SRAM is read at once and its bytes sent on; another station or a controller is asked. Answers the
fault cause, its detail and its address, if any. -/
def issuePiece (dr tid piece : Nat) (staged : Bool) (src dst : Place) (len : Nat) (b : Body) : Option (Nat × Nat × Nat) × Body :=
  let me := moduleIndex b
  let ask := { Flit.blank .droverBulk with src := dr / 2, addr := src.addr, len := len, tag := tid, piece := piece, drv := some dr
                                           isRead := true, staged := staged, dest := dst.sys me }
  match src with
  | .station _ w =>
    match physOf b w.die w.lst with
    | none => (some (7, 3, src.sys me), b)
    | some st =>
      if st ≠ dr / 2 then (none, sendFlit { ask with dst := st } b)
      else
        let r := readSram b st w.off len
        match r.1.2 with
        | u :: _ => (some (6, 0, winBase w.die w.lst + u * 32), r.2)
        | [] =>
          let b := keepPiece dr tid piece r.1.1 r.2
          let s := bulkWrite (dr / 2) dr tid piece staged dst r.1.1 b
          (s.1.map (fun c => (c, if c = 7 then 3 else 0, dst.sys me)), s.2)
  | .stack m a =>
    let f := { ask with dst := ctlEp (a / stackBytes) }
    if m = me then (none, sendFlit f b)
    else
      let r := sendModule m 2 { f with origin := some me } b
      (if r.1 then none else some (8, 0, src.sys me), r.2)
  | .host _ => (some (2, 0, src.addr), b)

/-- The bytes left in its stack from an address on; a station window ends with its range (R189). -/
def Place.room (p : Place) : Nat :=
  match p with
  | .stack _ a => stackBytes - a % stackBytes
  | _ => 2 ^ 48

/-- The length of the next flit of a move (R190): up to 224 bytes, within one stack (R189); a staged flit may reach past its first home
unit's stack (R194). -/
def pieceLen (staged : Bool) (src dst : Place) (left : Nat) : Nat :=
  min (min 224 left) (min src.room (if staged then 2 ^ 48 else dst.room))

/-- The system address concerned in a move whose spaces are not allowed (R209): the source where it breaks the rule, else the destination. -/
def spaceAddr (b : Body) (d : Desc) (m : Move) : Nat :=
  if (moveSrc b d m).isNone then m.src.getD d.src else m.dst.getD d.dst

/-- The fault of one move, lowest cause first: space 2, overlap 5 (R187, R189, R191). -/
def moveFault (b : Body) (d : Desc) (st : Nat) (m : Move) : Option (Nat × Nat) :=
  match moveEnds b d m with
  | none => some (2, spaceAddr b d m)
  | some (p, q) =>
    let ix := d.kind = 3 ∨ d.kind = 4
    let idxPlace := Place.station (moduleIndex b) ⟨st / 64, logicalOf b st, d.index⟩
    if p.overlaps q m.len m.len ∨ (ix ∧ q.overlaps idxPlace m.len (4 * d.count)) then some (5, m.dst.getD d.dst)
    else none

/-- Flits of a drover that are outstanding (R190). -/
def Drover.outstanding (d : Drover) : Nat := (d.transfers.map (fun t => t.flying.length)).foldl (· + ·) 0

/-- Does a flit still in flight of a transfer write bytes of a range (R188)? -/
def writesInto (d : Drover) (tid m a n : Nat) : Bool :=
  d.transfers.any (fun t => t.id == tid && t.flying.any (fun x => x.moduleIx == m && decide (a < x.addr + x.len) && decide (x.addr < a + n)))

/-- The end of an entry: a list's own completion signal joins the order of signals (R145, R190). -/
def entryEnd (dr : Nat) (e : DrvEntry) (b : Body) : Body :=
  updDrv b dr (fun d =>
    let t : Transfer := { id := d.nextId, flying := [], tally := e.desc.tally, signal := if e.desc.notally then none else some 1,
                          chk := false, frame := false, bytes := 0, pieces := [], count := 0, entry := e, entryIx := d.entryIx,
                          modules := [], desc := Desc.blank, since := b.now }
    if e.isList then { d with current := none, waiting := none, moving := none, transfers := d.transfers ++ [t], nextId := d.nextId + 1 }
    else { d with current := none, waiting := none, moving := none })

/-- The descriptor in progress has issued all its reads: the next of the list, or the end of the entry (R190). -/
def descDone (dr : Nat) (e : DrvEntry) (last : Bool) (b : Body) : Body :=
  let b := updDrv b dr (fun d => { d with moving := none })
  if e.isList ∧ !last then
    let i := getF b R.DRV_STATUS.list_index dr + 1
    if 4096 ≤ i then drvFault dr 0xA 0 (e.listOff + 64 * 4095) e.pc true (drv b dr).nextId (drv b dr).entryIx b
    else setF b R.DRV_STATUS.list_index dr i
  else entryEnd dr e b

/-- Issue the next flit of the move in progress, `m` its move and `p`, `q` its ends (R190); a die that is quiesced accepts none (R67). -/
def issueNext (dr : Nat) (e : DrvEntry) (mv : Moving) (m : Move) (rest : List Move) (p q : Place) (b : Body) : Body × Bool :=
  let d := drv b dr
  let me := moduleIndex b
  let p := p.plus mv.off
  let q := q.plus mv.off
  let n := pieceLen d.running.staged p q (m.len - mv.off)
  if 64 ≤ d.outstanding ∨ flagF b R.STN_DIE_CTRL.quiesce (dr / 128) ∨ writesInto d mv.tid (q.moduleOf me) q.addr n then (b, false)
  else
    let b := updTransfer dr mv.tid (fun t => { t with flying := t.flying ++ [⟨mv.piece, q.moduleOf me, q.addr, n⟩], count := t.count + 1 }) b
    let b := updDrv b dr (fun d => { d with moving := some (if mv.off + n < m.len then { mv with off := mv.off + n, piece := mv.piece + 1 }
                                                            else { mv with moves := rest, off := 0, piece := mv.piece + 1 }) })
    let r := issuePiece dr mv.tid mv.piece d.running.staged p q n b
    match r.1 with
    | some f => (drvFault dr f.1 f.2.1 f.2.2 e.pc e.isList mv.tid d.entryIx r.2, false)
    | none => (r.2, true)

/-- The drover issues what the limit of 64 outstanding flits allows of the descriptor in progress (R190): each move is checked before any of
its reads (R189), and a flit that would write bytes an earlier one of its descriptor still writes waits for it (R188). -/
def pump (dr : Nat) : Nat → Body → Body
  | 0, b => b
  | fuel + 1, b =>
    let d := drv b dr
    match d.moving, d.current with
    | some mv, some e =>
      match mv.moves with
      | [] => descDone dr e d.running.last b
      | m :: rest =>
        match (if mv.off = 0 then moveFault b d.running (dr / 2) m else none), moveEnds b d.running m with
        | some f, _ => drvFault dr f.1 0 f.2 e.pc e.isList mv.tid d.entryIx b
        | none, none => drvFault dr 2 0 (spaceAddr b d.running m) e.pc e.isList mv.tid d.entryIx b
        | none, some (p, q) =>
          let r := issueNext dr e mv m rest p q b
          if r.2 then pump dr fuel r.1 else r.1
    | _, _ => b

/-- One pump issues at most the 64 flits of R190 and ends the descriptor. -/
def pumpFuel : Nat := 65

/-- One flit of a transfer is acknowledged at its destination (R191): the drover issues what now fits. -/
def droverAck (dr tid piece : Nat) (b : Body) : Body :=
  showDrover dr (pump dr pumpFuel (updTransfer dr tid (fun t => { t with flying := t.flying.filter (fun x => x.piece != piece) }) b))

/-- The modules other than this one that a descriptor's moves reach. -/
def descModules (b : Body) (d : Desc) (ms : List Move) : List Nat :=
  (ms.flatMap (fun m => match moveEnds b d m with
    | some (p, q) => [p.moduleOf (moduleIndex b), q.moduleOf (moduleIndex b)]
    | none => [])).filter (· != moduleIndex b) |>.eraseDups

end Sys2Proof.Machine
end

