-- ==== Sys2Proof/Machine/Fabric.lean ====
section
/-! DEFINITION. The panel fabric: delivery of flits (R42, R51-R53, R56, R67, R72, R219) and the die-to-die links (R54-R59). -/

namespace Sys2Proof.Machine

/-- The die of an endpoint (R56). -/
def epDie (e : Nat) : Nat :=
  if e < 1024 then e / 64 else if e < 2048 then stackHost (e - 1024) else if e < 3072 then cornerDie (e - 2048) else (e - 3072) % 16

/-- The UCIe modules of an edge that run (R81). -/
def lanesUp (b : Body) (n edge : Nat) : List Nat :=
  (List.range 16).filter (fun k => bit (getF b R.STN_EDGE.module_up (edgeIx n edge)) k)

/-- The module an edge assigns a pair's flits to (R57, R59). -/
def laneOf (b : Body) (n edge src dst : Nat) : Option Nat :=
  match lanesUp b n edge with
  | [] => none
  | [k] => some k
  | k :: ks => (k :: ks)[Config.ucieHash (epField src) (epField dst) % (ks.length + 1)]?

/-- The key of a link's state. -/
def ucieKey (l : UcieLink) : Nat := (l.die * 4 + l.edge) * 16 + l.lane

/-- The state of a link. -/
def link (b : Body) (l : UcieLink) : Ucie := SMap.get b.ucie Ucie.reset (ucieKey l)

/-- Update a link. -/
def updLink (b : Body) (l : UcieLink) (f : Ucie → Ucie) : Body :=
  { b with ucie := SMap.put b.ucie Ucie.reset (ucieKey l) (f (link b l)) }

/-- The far side of a UCIe module. -/
def farSide (l : UcieLink) : UcieLink := ⟨across l.die l.edge, facing l.die l.edge, l.lane⟩

/-- Put a numbered flit on a UCIe module (R56): with the highest number received in order from the other side. -/
def putUcie (l : UcieLink) (x : Nat × Flit) (b : Body) : Body :=
  emit (.ucieFlit l.die l.edge l.lane (x.2.bytes x.1 ((link b l).expected + 4095))) b

/-- May an edge pass a flit on: its segment's clock runs (R47), its module has room in the retry buffer (R57; a flit
behind a full buffer waits, log entry 72), and the die beyond accepts the class (R67 step 2)? -/
def mayCross (b : Body) (n edge lane : Nat) (f : Flit) : Bool :=
  !b.stopped.contains (edgeIsland n edge) && decide ((link b ⟨n, edge, lane⟩).unacked.length < 64)
    && (f.kind.cls == 0 || !(decide (across n edge < 16) && flagF b R.STN_DIE_CTRL.quiesce (across n edge)))

/-- An edge sends the flits of a class that wait for it, in order (R51, R53, R57): each is numbered and kept for retry. Answers the flits
that stay on the panel. -/
def sendClass (n edge cls : Nat) : List Flit → Body → List Flit × Body
  | [], b => ([], b)
  | f :: fs, b =>
    let stay := fun (b : Body) => let r := sendClass n edge cls fs b; (f :: r.1, r.2)
    if f.kind.cls = cls ∧ f.node = n ∧ f.nextEdge = some edge then
      match laneOf b n edge f.src f.dst with
      | none => stay b
      | some k =>
        if mayCross b n edge k f then
          let l : UcieLink := ⟨n, edge, k⟩
          let x := ((link b l).next, f)
          sendClass n edge cls fs (putUcie l x (updLink b l (fun u => { u with next := (u.next + 1) % 4096, unacked := u.unacked ++ [x] })))
        else stay b
    else stay b

/-- An edge sends what it may, class 0 first (R51). -/
def sendEdge (n edge : Nat) (b : Body) : Body :=
  forEach (List.range 4) (fun c b => let r := sendClass n edge c b.fabric b; { r.2 with fabric := r.1 }) b

/-- Has a flit arrived where its destination takes it? -/
def atGoal (f : Flit) : Bool := f.via.isNone && f.nextEdge.isNone

/-- Is a flit of the class of `k` from one endpoint to another? -/
def ofPair (f : Flit) (k : FlitKind) (src dst : Nat) : Bool := f.kind.cls == k.cls && f.src == src && f.dst == dst && f.via.isNone

/-- The next flit of a class from one endpoint to another, taken off the panel where it has arrived and is of the kind asked for (R53). -/
def takeFlit (k : FlitKind) (src dst : Nat) (b : Body) : Option (Flit × Body) :=
  match b.fabric.find? (fun x => atGoal x && ofPair x k src dst) with
  | none => none
  | some x => if x.kind = k then some (x, { b with fabric := eraseFirst (fun x => atGoal x && ofPair x k src dst) b.fabric }) else none

/-- Deliver the next flit of a kind, if there is one. -/
def deliver (k : FlitKind) (src dst : Nat) (f : Flit → Body → Body) (b : Body) : Body :=
  match takeFlit k src dst b with
  | none => b
  | some p => f p.1 p.2

/-- Deliver the next flit of a kind to a station whose logic runs (R47, R75); it waits at any other. -/
def deliverStn (k : FlitKind) (src dst : Nat) (f : Flit → Body → Body) (b : Body) : Body :=
  whenB (clocked b dst) (deliver k src dst f) b

/-- Answer a request: on the panel, or to the module it came from (R267). -/
def respond (req : Flit) (vc : Nat) (f : Flit) (b : Body) : Body :=
  match req.origin with
  | none => sendFlit f b
  | some m => (sendModule m vc { f with origin := some (moduleIndex b) } b).2

/-- Where the answer to a request goes: to the station of the drover that asked, else to the requester. -/
def asker (f : Flit) : Nat := (f.drv.map (· / 2)).getD f.src

/-- The error response to a request (R56). -/
def errorFor (req : Flit) (cause addr : Nat) : Flit :=
  { Flit.blank .errorResponse with src := req.dst, dst := asker req, tag := req.tag, cause := cause, addr := addr,
                                   drv := req.drv, piece := req.piece }

/-- The acknowledgement of a request. -/
def ackFor (req : Flit) : Flit :=
  { Flit.blank .writeAck with src := req.dst, dst := asker req, tag := req.tag, drv := req.drv, piece := req.piece }

/-- The die map's station for an address, at the endpoint that was asked (R66, R72): none where the entry is invalid. -/
def mapServes (b : Body) (w : WinAddr) (st : Nat) : Bool := physOf b w.die w.lst == some st

/-- A read request reaches its station (R42, R67, R182). -/
def serveRead (f : Flit) (b : Body) : Body :=
  if flagF b R.STN_CTRL.fence f.dst then respond f 1 (errorFor f 1 f.addr) b
  else match winOf f.addr with
    | none => respond f 1 (errorFor f 3 f.addr) b
    | some w =>
      let r := readSram b f.dst w.off f.len
      match r.1.2 with
      | u :: _ => respond f 1 (errorFor f 2 (winBase w.die w.lst + u * 32)) r.2
      | [] => respond f 3 { ackFor f with kind := .readResponse, payload := r.1.1.map some, addr := f.addr, len := f.len } r.2

/-- A write reaches its station (R42, R67, R185). -/
def serveWrite (f : Flit) (b : Body) : Body :=
  if flagF b R.STN_CTRL.fence f.dst then respond f 1 (errorFor f 1 f.addr) b
  else match winOf f.addr with
    | none => respond f 1 (errorFor f 3 f.addr) b
    | some w =>
      let r := writeSram b f.dst w.off f.payload
      match r.1 with
      | u :: _ => respond f 1 (errorFor f 2 (winBase w.die w.lst + u * 32)) r.2
      | [] => respond f 1 (ackFor f) r.2

/-- A read response reaches the station (R140, R156): the last one writes the register. -/
def acceptResponse (f : Flit) (b : Body) : Body :=
  let t := stn b f.dst
  match t.outst.find? (fun o => o.tag == f.tag && o.isLoad) with
  | none => b
  | some o =>
    let v := ofLeBytes (f.payload.map (fun x => x.getD 0))
    let o' := { o with buf := o.buf + v * 256 ^ f.piece, left := o.left - 1 }
    if o'.left = 0 then
      let t := { t with outst := t.outst.filter (fun x => x.tag != f.tag) }
      setStn b f.dst (if o.toV then setV t o.reg o'.buf else setS t o.reg o'.buf)
    else setStn b f.dst { t with outst := t.outst.map (fun x => if x.tag = f.tag then o' else x) }

/-- One flit of a store is done: the last one completes the store and lets releases go (R150). -/
def finishWrite (st tag : Nat) (b : Body) : Body :=
  let t := stn b st
  match t.outst.find? (fun o => o.tag == tag) with
  | none => b
  | some o =>
    if o.left ≤ 1 then
      sendReleases st (setStn b st { t with outst := t.outst.filter (fun x => x.tag != tag),
                                            releases := t.releases.map (fun r => { r with writes := r.writes.filter (· != tag) }) })
    else setStn b st { t with outst := t.outst.map (fun x => if x.tag = tag then { x with left := x.left - 1 } else x) }

/-- A write acknowledgement arrives (R150, R191). -/
def acceptAck (f : Flit) (b : Body) : Body :=
  match f.drv with
  | some dr => droverAck dr f.tag f.piece b
  | none => finishWrite f.dst f.tag b

/-- The station exception of an error response (R160). -/
def remoteCause (c : Nat) : Nat := if c = 1 then 0x0B else if c = 2 then 0x0C else 0x0D

/-- An error response arrives (R72, R77, R160, R182, R191): at a drover's station it is a fault of that drover, and sets remote_error. -/
def acceptError (f : Flit) (b : Body) : Body :=
  match f.drv with
  | some dr =>
    let b := report (.stationFault (dr / 2)) (setFlag b R.STN_FAULT.remote_error (dr / 2) true)
    if f.cause = 2 then transferFault dr f.tag 6 0 f.addr b else transferFault dr f.tag 7 f.cause f.addr b
  | none =>
    if f.staged then takeExc f.dst f.tag [⟨remoteCause f.cause, 3, f.addr⟩] b
    else
      let pc := match (stn b f.dst).outst.find? (fun o => o.tag == f.tag) with
        | some o => o.pc
        | none => 0
      finishWrite f.dst f.tag (takeExc f.dst pc [⟨remoteCause f.cause, 1, f.addr⟩] b)

/-- The system address of a range in this module as a flit names it to its requester (R166, R209). -/
def ownSys (b : Body) (f : Flit) (a : Nat) : Nat := if f.origin.isNone then a else (⟨1, moduleIndex b, a⟩ : SysAddr).pack

/-- The bytes of a read return to the drover that asked (R174, R190): on the panel they go on to their destination. -/
def returnRead (f : Flit) (bs : List Byte) (b : Body) : Body :=
  match f.origin, f.drv with
  | none, some dr => forwardRead f.dst dr f.tag f.piece f.staged f.dest bs b
  | _, _ => respond f 3 { ackFor f with kind := .readResponse, payload := bs.map some, addr := f.addr, len := f.len, dest := f.dest,
                                        staged := f.staged } b

/-- The answer to a drover's request: at once where the drover is the station's own, else a flit (R191). -/
def answerBulk (f g : Flit) (b : Body) : Body :=
  if f.origin.isNone ∧ asker f = f.dst then (if g.kind = .writeAck then acceptAck g b else acceptError g b) else respond f 1 g b

/-- A drover's flit reaches its station (R67, R72, R190, R191): a read is answered, a write is made and acknowledged. -/
def acceptBulk (f : Flit) (b : Body) : Body :=
  let bad := fun (c a : Nat) (b : Body) => answerBulk f (errorFor f c (ownSys b f a)) b
  match winOf f.addr with
  | none => bad 3 f.addr b
  | some w =>
    if !mapServes b w f.dst then bad 3 f.addr b
    else if flagF b R.STN_CTRL.fence f.dst ∧ (f.drv.map (· / 2)) ≠ some f.dst then bad 1 f.addr b
    else if f.isRead then
      let r := readSram b f.dst w.off f.len
      match r.1.2 with
      | u :: _ => bad 2 (winBase w.die w.lst + u * 32) r.2
      | [] => returnRead f r.1.1 r.2
    else answerBulk f (ackFor f) (writeSram b f.dst w.off f.payload).2

/-- A tally signal reaches its station (R67, R72, R219): a fenced one answers it with cause 0x01, as it answers reads and writes (log
entry 61); only a station that sent it is told. -/
def acceptSignal (f : Flit) (b : Body) : Body :=
  if flagF b R.STN_CTRL.fence f.dst then
    if f.src < 1024 then sendFlit { errorFor f 1 f.addr with tag := f.dest, staged := true } b else b
  else tallyArrive f.dst f.tag f.len f.stroke b

/-- FLIT_READ_REQUEST (R42, R51, R182). -/
def execFlitReadRequest (src dst : Nat) (s : State) : Host.Outcome State Fault Refusal :=
  onUnit (isStation dst) (deliverStn .readRequest src dst serveRead) s

/-- FLIT_READ_RESPONSE (R156). -/
def execFlitReadResponse (src dst : Nat) (s : State) : Host.Outcome State Fault Refusal :=
  onUnit (isStation dst) (deliverStn .readResponse src dst acceptResponse) s

/-- FLIT_WRITE (R42, R51, R185). -/
def execFlitWrite (src dst : Nat) (s : State) : Host.Outcome State Fault Refusal :=
  onUnit (isStation dst) (deliverStn .write src dst serveWrite) s

/-- FLIT_WRITE_ACK (R150). -/
def execFlitWriteAck (src dst : Nat) (s : State) : Host.Outcome State Fault Refusal :=
  onUnit (isStation dst) (deliverStn .writeAck src dst acceptAck) s

/-- FLIT_ERROR_RESPONSE (R160, R191). -/
def execFlitErrorResponse (src dst : Nat) (s : State) : Host.Outcome State Fault Refusal :=
  onUnit (isStation dst) (deliverStn .errorResponse src dst acceptError) s

/-- FLIT_TALLY_SIGNAL (R218, R219). -/
def execFlitTallySignal (src dst : Nat) (s : State) : Host.Outcome State Fault Refusal :=
  onUnit (isStation dst) (deliverStn .tallySignal src dst acceptSignal) s

/-- FLIT_DROVER_BULK (R190, R191). -/
def execFlitDroverBulk (src dst : Nat) (s : State) : Host.Outcome State Fault Refusal :=
  onUnit (isStation dst) (deliverStn .droverBulk src dst acceptBulk) s

/-- Does the module have this die-to-die link (R54, R81)? -/
def isLink (l : UcieLink) : Bool :=
  if l.die < 16 then
    decide (l.edge < 4)
      && (if edgeKind l.die l.edge = 1 then decide (l.lane < 16) else if edgeKind l.die l.edge = 3 then decide (l.lane < 4) else false)
  else decide (l.die < 20) && decide (l.edge = 0) && decide (l.lane < 4)

/-- The STN_EDGE register of a link. -/
def edgeReg (l : UcieLink) : Nat := edgeIx l.die l.edge

/-- Ask the other side to resend from the expected number; the retry is counted (R58, R81). -/
def askUcieRetry (l : UcieLink) (b : Body) : Body :=
  emit (.ucieRetry l.die l.edge l.lane (link b l).expected) (addSat b R.STN_EDGE.retries (edgeReg l) 1)

/-- The numbers an acknowledgement covers (R56, R57): those at most half the range behind it. -/
def ackCovers (ack seq : Nat) : Bool := decide ((ack + 4096 - seq) % 4096 < 2048)

/-- Is a flit a Shepherd frame of class 0x0002, which a lost module still gets (R287 step 1, R498)? -/
def returnFrame (vc : Nat) (f : Flit) : Bool := vc == 7 && ((f.payload.headD none).getD 0) == 2

/-- A flit that leaves the module has reached the link die of its port (R267, R281, R283): it joins the port's queue, or where the port has
left the route set that of the port its flow now uses; where none is left its request ends with fault unreachable (R191). -/
def leavePort (f : Flit) (b : Body) : Body :=
  match f.via with
  | none => sendFlit f b
  | some (m, vc, p) =>
    if flagF b R.KLK_ROUTE.lost m ∧ !returnFrame vc f then
      match f.drv with
      | some dr => if f.origin = some (moduleIndex b) then transferFault dr f.tag 8 0 (⟨1, m, f.addr⟩ : SysAddr).pack b else b
      | none => b
    else if portLive b p then portSend p (korrelData b m vc f) b
    else
      let r := sendVia m vc f b
      if r.1 then r.2
      else match f.drv with
        | some dr => if f.origin = some (moduleIndex b) then transferFault dr f.tag 8 0 (⟨1, m, f.addr⟩ : SysAddr).pack b else b
        | none => b

/-- A flit comes out of a link: it is now at the link's die, and leaves the panel there where its port is (R267). -/
def stepFlit (n : Nat) (f : Flit) (b : Body) : Body :=
  let f := { f with pos := some n }
  if f.nextEdge.isNone then leavePort f b else sendFlit f b

/-- The flit that the far side keeps under a number. -/
def onWire (b : Body) (l : UcieLink) (seq : Nat) : Option Flit := ((link b (farSide l)).unacked.find? (fun x => x.1 == seq)).map (·.2)

/-- A flit arrives on a UCIe module (R57, R58): the far side has sent what it may. A good flit in order goes on from this die; a failed one
is discarded and asked for again, as is one behind a gap; a good flit whose number has already been received only acknowledges (log
entry 71), like an idle flit. -/
def ucieReceive (l : UcieLink) (seq ack : Nat) (crcOk : Bool) (b : Body) : Body :=
  if !bit (getF b R.STN_EDGE.module_up (edgeReg l)) l.lane || b.stopped.contains (edgeIsland l.die l.edge) then b
  else
    let b := sendEdge (farSide l).die (farSide l).edge b
    let u := link b l
    if !crcOk then
      let n := if u.failing = some u.expected then u.fails + 1 else 0
      askUcieRetry l (updLink b l (fun u => { u with failing := some u.expected, fails := n }))
    else
      let b := updLink b l (fun u => { u with unacked := u.unacked.filter (fun x => !ackCovers ack x.1) })
      if seq = u.expected then
        match onWire b l seq with
        | none => b
        | some f => stepFlit l.die f (updLink b l (fun u => { u with expected := (u.expected + 1) % 4096, failing := none, fails := 0 }))
      else if ackCovers ((u.expected + 4095) % 4096) seq then b
      else askUcieRetry l b

/-- The sender resends, in order, from the first missing number (R58). -/
def ucieResend (l : UcieLink) (first : Nat) (b : Body) : Body :=
  forEach ((link b l).unacked.dropWhile (fun x => x.1 != first % 4096)) (putUcie l) b

/-- The flits of one side of a module that the other has not received in order. -/
def notReceived (b : Body) (l : UcieLink) : List Flit :=
  ((link b l).unacked.dropWhile (fun x => x.1 != (link b (farSide l)).expected)).map (·.2)

/-- A UCIe module is disabled (R59) once three consecutive retries of a flit have failed on it (R58): its bit is cleared and reported, the
flits of both directions that were not received go back to their edges, before newer flits, to the modules the new hash selects. -/
def ucieDisable (l : UcieLink) (b : Body) : Body :=
  if (link b l).fails < 3 ∧ (link b (farSide l)).fails < 3 then b
  else
    let clear := fun (l : UcieLink) (b : Body) =>
      setF b R.STN_EDGE.module_up (edgeReg l) (setBit (getF b R.STN_EDGE.module_up (edgeReg l)) l.lane false)
    let back := notReceived b l ++ notReceived b (farSide l)
    let b := { b with fabric := back ++ b.fabric }
    let b := updLink (updLink b l (fun _ => Ucie.reset)) (farSide l) (fun _ => Ucie.reset)
    let b := sendEdge (farSide l).die (farSide l).edge (sendEdge l.die l.edge (clear (farSide l) (clear l b)))
    report (.edgeModule ((edgeReg l) / 4) ((edgeReg l) % 4)) (if (edgeReg l) = edgeReg (farSide l) then b else report (.edgeModule (edgeReg (farSide l) / 4) (edgeReg (farSide l) % 4)) b)

/-- UCIE_FLIT_RECEIVE (R57, R58). -/
def execUcieFlitReceive (lk : UcieLink) (seq ack : Nat) (crcOk : Bool) (s : State) : Host.Outcome State Fault Refusal :=
  onUnit (isLink lk) (ucieReceive lk seq ack crcOk) s

/-- UCIE_RETRY_REQUEST (R58). -/
def execUcieRetryRequest (lk : UcieLink) (first : Nat) (s : State) : Host.Outcome State Fault Refusal :=
  onUnit (isLink lk) (ucieResend lk first) s

/-- UCIE_MODULE_DISABLE (R59). -/
def execUcieModuleDisable (lk : UcieLink) (s : State) : Host.Outcome State Fault Refusal :=
  onUnit (isLink lk) (ucieDisable lk) s

end Sys2Proof.Machine
end

