-- ==== Sys2Proof/Machine/Memory.lean ====
section
/-! DEFINITION. Stack memory, its controllers, the two-symbol code at stacks and in station SRAM, scrubbing (R173-R185). -/

namespace Sys2Proof.Machine

/-- What a byte of a stack that nothing has written reads as (log entry 8). -/
def unwritten : Byte := 0

/-- Read one byte of stack memory. -/
def memGet (m : List Host.Cell) (a : Nat) : Byte := SMap.get m unwritten a

/-- Write one byte of stack memory, in canonical form. -/
def memPut (m : List Host.Cell) (a : Nat) (v : Byte) : List Host.Cell := SMap.put m unwritten a v

/-- Write bytes from an address on; a missing byte is not written. -/
def memStore (m : List Host.Cell) (a : Nat) : List (Option Byte) → List Host.Cell
  | [] => m
  | some v :: t => memStore (memPut m a v) (a + 1) t
  | none :: t => memStore m (a + 1) t

/-- Bytes of stack memory. -/
def memBytes (m : List Host.Cell) (a n : Nat) : List Byte := (List.range n).map (fun i => memGet m (a + i))

/-- The canonical form of stack memory. -/
def Memory.wf (m : List Host.Cell) : Bool := SMap.wf (fun _ => unwritten) m

/-- Record an event of a stack unit (R207): a recorded uncorrectable event stays until cleared, a recorded corrected one
gives way to an uncorrectable one. -/
def recordMemErr (k addr kind : Nat) (pos : List Nat) (b : Body) : Body :=
  let set := fun b =>
    let b := setF b R.MEM_ERR_INFO.pos0 k (pos.headD 0)
    let b := setF b R.MEM_ERR_INFO.pos1 k (pos.getD 1 (pos.headD 0))
    let b := setF b R.MEM_ERR_INFO.kind k kind
    let b := setF b R.MEM_ERR_INFO.valid k 1
    setF b R.MEM_ERR_ADDR.addr k addr
  if !flagF b R.MEM_ERR_INFO.valid k then set b
  else
    let b := setFlag b R.MEM_ERR_INFO.more k true
    if 2 ≤ kind ∧ getF b R.MEM_ERR_INFO.kind k < 2 then set b else b

/-- Account for a decode of a stack unit, by a read or by the scrubber (R182, R207). -/
def noteDecode (u : Nat) (scrub : Bool) (d : Decoded) (b : Body) : Body :=
  let a := u * 32
  let k := a / stackBytes
  match d.bytes with
  | none => report (.stackUnit k a scrub) (recordMemErr k a (if scrub then 3 else 2) [] (addSat b R.MEM_ERR_COUNT.uncorrectable k 1))
  | some _ => if d.corrected = [] then b
      else recordMemErr k a (if scrub then 1 else 0) d.corrected (addSat b R.MEM_ERR_COUNT.corrected k 1)

/-- Read one unit of stack memory (R181, R182). -/
def readStackUnit (u : Nat) (s : State) : Option (List Byte) × State :=
  let d := decodeUnit (memBytes s.mem (u * 32) 32) (SMap.get s.body.badStack [] u) s.body.free
  let b := noteDecode u false d { s.body with free := s.body.free + 4 }
  (d.bytes, { s with body := b })

/-- Read units of stack memory: the bytes (free where uncorrectable) and the uncorrectable units. -/
def readStackUnits : List Nat → State → (List Byte × List Nat) × State
  | [], s => (([], []), s)
  | u :: us, s =>
    let r := readStackUnit u s
    let bs := r.1.getD (leBytes 32 (Config.freeValue r.2.body.free))
    let s := { r.2 with body := { r.2.body with free := r.2.body.free + 1 } }
    let rest := readStackUnits us s
    ((bs ++ rest.1.1, if r.1.isNone then u :: rest.1.2 else rest.1.2), rest.2)

/-- Read bytes of stack memory. -/
def readStack (a n : Nat) (s : State) : (List Byte × List Nat) × State :=
  let r := readStackUnits (unitsOf a n) s
  (((r.1.1.drop (a % 32)).take n, r.1.2), r.2)

/-- Write one unit of stack memory, `data` its 32 bytes with none for a byte not written (R185); false where the merge was
not performed. -/
def writeStackUnit (u : Nat) (data : List (Option Byte)) (s : State) : Bool × State :=
  if data.all Option.isNone then (true, s)
  else
    let r := if data.all Option.isSome then (some [], s) else readStackUnit u s
    match r.1 with
    | none => (false, r.2)
    | some bs =>
      let base := if (SMap.get r.2.body.badStack [] u).length < 4 then r.2.mem else memStore r.2.mem (u * 32) (bs.map some)
      (true, { r.2 with mem := memStore base (u * 32) data,
                        body := { r.2.body with badStack := SMap.erase r.2.body.badStack u } })

/-- Write units; those whose merge was not performed. -/
def writeStackUnits : List (Nat × List (Option Byte)) → State → List Nat × State
  | [], s => ([], s)
  | p :: ps, s =>
    let r := writeStackUnit p.1 p.2 s
    let rest := writeStackUnits ps r.2
    (if r.1 then rest.1 else p.1 :: rest.1, rest.2)

/-- Write bytes of stack memory. -/
def writeStack (a : Nat) (data : List (Option Byte)) (s : State) : List Nat × State :=
  writeStackUnits (splitUnits a data) s

/-- Whole bytes written without a merge (an applied tail, a restored region). -/
def writeStackBytes (a : Nat) (bs : List Byte) (s : State) : State := (writeStack a (bs.map some) s).2

/-- Change the part of the state beside the stacks. -/
def onBody (f : Body → Body) (s : State) : State := { s with body := f s.body }

/-- Does an address lie in a staging region (R193)? -/
def inStaging (b : Body) (a len : Nat) : Bool := touchesStaging b a len

/-- Is a home unit of a range named in a tail that is sealed or being applied (R199 step 3)? A tail may name units of the next stack too
(R194). -/
def heldBySeal (b : Body) (a len : Nat) : Bool :=
  (List.range 12).any (fun k =>
    let st := getF b R.MEM_STG_STATUS.state k
    (st == 2 || st == 3) && (stk b k).tail.any (fun e => decide (e.home < a + len) && decide (a < e.home + e.payload.length)))

/-- Does a controller serve requests (R47, R177, R178, R207)? -/
def ctlReady (b : Body) (k : Nat) : Bool := getF b R.MEM_STATUS.state k == 2 && !b.stopped.contains (.controller k)

/-- A request reaches a controller (R174, R175, R193): a staged write waits for its tail, any other access for its
pseudo-channel; a request to a staging region, or while in self-refresh, is answered with cause 0x03. -/
def stackRequest (src dst : Nat) (b : Body) : Body :=
  if b.stopped.contains (.controller (dst - 1024)) then b else deliver .droverBulk src dst (fun f b =>
    let k := dst - 1024
    let bad := fun (b : Body) => respond f 1 (errorFor f 3 (ownSys b f f.addr)) b
    if flagF b R.MEM_CTRL.self_refresh k ∨ getF b R.MEM_STATUS.state k = 3 then bad b
    else if inStaging b f.addr f.len then bad b
    else if f.staged then updStk b k (fun s => { s with staged := s.staged ++
        [⟨f.addr, f.payload.map (fun x => x.getD 0), f.drv.getD 0, f.tag, f.piece⟩] })
    else updStk b k (fun s => { s with requests := s.requests ++ [f] })) b

/-- The positions of an upset added to a unit (R181). -/
def upsetUnit (u : Nat) (upset : List Nat) (b : Body) : Body :=
  if upset = [] then b
  else { b with badStack := SMap.put b.badStack [] u ((SMap.get b.badStack [] u ++ upset.filter (· < 36)).eraseDups) }

/-- Perform an access of a controller (R175, R182, R185, R190, R191). -/
def stackAccess (f : Flit) (s : State) : State :=
  let bad := fun (u : Nat) (b : Body) => respond f 1 (errorFor f 2 (ownSys b f (u * 32))) b
  if f.isRead then
    let r := readStack f.addr f.len s
    match r.1.2 with
    | u :: _ => onBody (bad u) r.2
    | [] => onBody (returnRead f r.1.1) r.2
  else
    let r := writeStack f.addr f.payload s
    match r.1 with
    | u :: _ => onBody (bad u) r.2
    | [] => onBody (respond f 1 (ackFor f)) r.2

/-- Do two requests touch one unit (R175)? -/
def sameUnit (f g : Flit) : Bool := decide (f.addr / 32 * 32 < g.addr + g.len) && decide (g.addr / 32 * 32 < f.addr + f.len)

/-- The first request of a pseudo-channel that may be served (R175): in arrival order, none before an earlier one to the same unit; a read
of a unit named in a sealed tail waits (R199 step 3). `earlier` are those passed over. -/
def pickRequest (b : Body) (k pc : Nat) (earlier : List Flit) : List Flit → Option Flit
  | [] => none
  | f :: fs =>
    if pseudoChannel f.addr = pc ∧ !(f.isRead && heldBySeal b f.addr f.len) ∧ !earlier.any (sameUnit f) then some f
    else pickRequest b k pc (f :: earlier) fs

/-- The request of a pseudo-channel to be served next. -/
def nextRequest (b : Body) (k pc : Nat) : Option Flit := pickRequest b k pc [] (stk b k).requests

/-- A stack access completes (R175): the upset positions strike its first unit before it is read. -/
def accessComplete (k pc : Nat) (upset : List Nat) (s : State) : State :=
  if ctlReady s.body k && bit (getF s.body R.MEM_PC_UP.pc_up k) pc then
    match nextRequest s.body k pc with
    | none => s
    | some f =>
      let b := updStk s.body k (fun t => { t with requests := eraseFirst (fun x => x == f) t.requests })
      stackAccess f { s with body := upsetUnit (f.addr / 32) upset b }
  else s

/-- Recalibration of a pseudo-channel (R177): it runs while no request for it is queued and changes no state that a
command can read. -/
def recalibrate (k pc : Nat) (b : Body) : Body :=
  let busy := (stk b k).requests.any (fun f => pseudoChannel f.addr == pc)
  updStk b k (fun t => { t with recalibrating := if busy then t.recalibrating
    else if t.recalibrating.contains pc then t.recalibrating.filter (· != pc) else t.recalibrating ++ [pc] })

/-- The controller enters self-refresh (R177): once asked and holding no request. -/
def enterSelfRefresh (k : Nat) (b : Body) : Body :=
  if flagF b R.MEM_CTRL.self_refresh k && (stk b k).requests.isEmpty && (stk b k).staged.isEmpty && ctlReady b k then
    setF b R.MEM_STATUS.state k 3 else b

/-- Step 8 of start-up completes when every stack is trained or lost (R649, R653). -/
def noteStacks (b : Body) : Body :=
  if stepIsDone b 6 ∧ !stepIsDone b 8 ∧ (List.range 12).all (fun k => decide (2 ≤ getF b R.MEM_STATUS.state k)) then stepDone 8 b else b

/-- Training ends (R177, R178): the working pseudo-channels are known; a failed training is a stack loss. -/
def trainingDone (k pcUp : Nat) (pass : Bool) (b : Body) : Body :=
  let b := setF b R.MEM_PC_UP.pc_up k pcUp
  if pass && getF b R.MEM_PC_UP.pc_up k == 2 ^ 64 - 1 then noteStacks (setF b R.MEM_STATUS.state k 2)
  else
    let b := if stepIsDone b 8 then b else { b with cox := { b.cox with path := { b.cox.path with startLoss := true } } }
    noteStacks (report (.stackLoss k) (setF b R.MEM_STATUS.state k 4))

/-- A pseudo-channel fails in operation (R178). -/
def stackLost (k pc : Nat) (b : Body) : Body :=
  let b := setF b R.MEM_PC_UP.pc_up k (setBit (getF b R.MEM_PC_UP.pc_up k) pc false)
  report (.stackLoss k) (setF b R.MEM_STATUS.state k 4)

/-- A queued write-back of a corrected unit completes (R183); a write that reached the unit first has dropped it. -/
def writeBackDone (st u : Nat) (b : Body) : Body :=
  let bs := SMap.get (stn b st).writeBack [] u
  if bs = [] ∨ !clocked b st then b
  else updStn b st (fun t => { t with sram := storeBytes t.sram (u * 32) (bs.map some), badSram := SMap.erase t.badSram u,
                                      writeBack := SMap.erase t.writeBack u })

/-- A station's scrubber reads a unit (R182, R184); `store` names the instruction store. -/
def stationScrub (st : Nat) (store : Bool) (u : Nat) (upset : List Nat) (b : Body) : Body :=
  if !clocked b st then b else
  let hit := fun (m : SMap (List Nat)) => SMap.put m [] u ((SMap.get m [] u ++ upset.filter (· < 36)).eraseDups)
  if store then
    let b := updStn b st (fun t => { t with badIstore := hit t.badIstore })
    let t := stn b st
    let d := decodeUnit (leBytes 32 (SMap.get t.istore 0 u).toNat) (SMap.get t.badIstore [] u) b.free
    let b := { b with free := b.free + 4 }
    match d.bytes with
    | none => report (.stationFault st) (setFlag b R.STN_FAULT.istore_uncorrectable st true)
    | some bs => if d.corrected = [] then b
      else addSat (updStn b st (fun t => { t with istore := SMap.put t.istore 0 u (BitVec.ofNat 256 (ofLeBytes bs)),
                                                  badIstore := SMap.erase t.badIstore u })) R.STN_SRAM_CORR.corrected st 1
  else (readSramUnit (updStn b st (fun t => { t with badSram := hit t.badSram })) st u).2

/-- Units of one stack. -/
def stackUnits : Nat := 2684354560

/-- A controller scrubs a unit (R184, R207): a corrected unit is rewritten at once, an uncorrectable one left as it is. -/
def stackScrub (u : Nat) (upset : List Nat) (s : State) : State :=
  let k := u * 32 / stackBytes
  if !flagF s.body R.MEM_CTRL.scrub_en k ∨ !ctlReady s.body k then s
  else
    let b := upsetUnit u upset s.body
    let d := decodeUnit (memBytes s.mem (u * 32) 32) (SMap.get b.badStack [] u) b.free
    let b := noteDecode u true d { b with free := b.free + 4 }
    let ix := u % stackUnits
    let b := setF b R.MEM_SCRUB_STATUS.progress k (ix * 1000 / stackUnits)
    let b := if ix + 1 = stackUnits then addSat (setF b R.MEM_SCRUB_STATUS.progress k 1000) R.MEM_SCRUB_STATUS.passes k 1 else b
    match d.bytes with
    | none => { s with body := b }
    | some bs =>
      if d.corrected = [] then { s with body := b }
      else { s with mem := memStore s.mem (u * 32) (bs.map some), body := { b with badStack := SMap.erase b.badStack u } }

/-- SRAM_CORRECTION_WRITEBACK (R183). -/
def execSramCorrectionWriteback (st unit : Nat) (s : State) : Host.Outcome State Fault Refusal :=
  onUnit (isStation st) (writeBackDone st unit) s

/-- SRAM_SCRUB_READ (R182, R184). -/
def execSramScrubRead (st : Nat) (store : Bool) (unit : Nat) (upset : List Nat) (s : State) : Host.Outcome State Fault Refusal :=
  onUnit (isStation st && decide (unit < (if store then 4096 else 196608))) (stationScrub st store unit upset) s

/-- STACK_SCRUB_READ (R182, R184). -/
def execStackScrubRead (unit : Nat) (upset : List Nat) (s : State) : Host.Outcome State Fault Refusal :=
  onUnitS (decide (unit < 12 * stackUnits)) (stackScrub unit upset) s

/-- STACK_REQUEST (R174, R175, R193, R194). -/
def execStackRequest (src dst : Nat) (s : State) : Host.Outcome State Fault Refusal :=
  onUnit (decide (1024 ≤ dst) && isStack (dst - 1024)) (stackRequest src dst) s

/-- STACK_ACCESS_COMPLETE (R175, R182, R185). -/
def execStackAccessComplete (stack pc : Nat) (upset : List Nat) (s : State) : Host.Outcome State Fault Refusal :=
  onUnitS (isStack stack && decide (pc < 64)) (accessComplete stack pc upset) s

/-- STACK_RECALIBRATION (R177). -/
def execStackRecalibration (stack pc : Nat) (s : State) : Host.Outcome State Fault Refusal :=
  onUnit (isStack stack && decide (pc < 64)) (recalibrate stack pc) s

/-- STACK_REFRESH (R177): the stored data stay as they are. -/
def execStackRefresh (stack bank : Nat) (s : State) : Host.Outcome State Fault Refusal :=
  onUnit (isStack stack && decide (bank < 2 ^ 16)) (fun b => b) s

/-- SELF_REFRESH_ENTER (R177). -/
def execSelfRefreshEnter (stack : Nat) (s : State) : Host.Outcome State Fault Refusal := onUnit (isStack stack) (enterSelfRefresh stack) s

/-- STACK_TRAINING_COMPLETE (R177, R178). -/
def execStackTrainingComplete (stack pcUp : Nat) (pass : Bool) (s : State) : Host.Outcome State Fault Refusal :=
  onUnit (isStack stack) (trainingDone stack pcUp pass) s

/-- STACK_LOSS (R178). -/
def execStackLoss (stack pc : Nat) (s : State) : Host.Outcome State Fault Refusal :=
  onUnit (isStack stack && decide (pc < 64)) (stackLost stack pc) s

end Sys2Proof.Machine
end

