-- ==== Sys2Proof/Machine/Issue.lean ====
section
/-! DEFINITION. The presentation of slots and the issue of a bundle (R128-R131, R157, R160): a slot command computes what
its slot will do from the state before the bundle; with the last slot the bundle issues whole, is held, raises an
exception or, where the sequencer does not issue, is dropped (log entry 4). -/

namespace Sys2Proof.Machine

/-- A slot that takes effect. -/
def SlotRes.ok (effs : List Eff) : SlotRes := { effs := effs, excs := [], holds := [] }

/-- A slot that raises one exception. -/
def SlotRes.exc (cause slot info : Nat) : SlotRes := { effs := [], excs := [⟨cause, slot, info⟩], holds := [] }

/-- A slot with an illegal encoding (R160, cause 0x02): its information is the 64 bits of the slot (R164). -/
def SlotRes.illegal (slot w : Nat) : SlotRes := SlotRes.exc 0x02 slot w

/-- A slot that also waits for its condition. -/
def SlotRes.hold (r : SlotRes) (hs : List Hold) : SlotRes := { r with holds := r.holds ++ hs }

/-- Does a remote load still write scalar register `r` (R157 items 1 and 2)? -/
def pendingS (t : Station) (r : Nat) : Bool := t.outst.any (fun o => o.isLoad && !o.toV && o.reg == r && r != 0)
/-- Does a remote load still write vector register `r`? -/
def pendingV (t : Station) (r : Nat) : Bool := t.outst.any (fun o => o.isLoad && o.toV && o.reg == r)
/-- Has a matrix operation on tile `a` not completed (R157 item 7)? -/
def pendingTile (t : Station) (a : Nat) : Bool := t.matQ.any (fun o => o.acc == a)

/-- The hold of registers still being written: scalar registers, vector registers, tiles. -/
def sourceHolds (t : Station) (ss vs tiles : List Nat) : List Hold :=
  (if ss.any (pendingS t) || vs.any (pendingV t) then [Hold.source] else [])
    ++ (if tiles.any (pendingTile t) then [Hold.tileBusy] else [])

/-- The scalar registers an effect writes. -/
def Eff.writesS : Eff → List Nat
  | .setS r _ => [r]
  | .load false r _ _ => [r]
  | _ => []

/-- The scalar registers a slot's effects write. -/
def OpenSlot.writesS (o : OpenSlot) : List Nat := o.res.effs.flatMap Eff.writesS

/-- The opcode of a slot. -/
def OpenSlot.op (o : OpenSlot) : Nat := bits o.w 0 8

/-- The tile a slot names: an M operation's, a vtrd's, a vtwr's. -/
def OpenSlot.tile (o : OpenSlot) : Option Nat :=
  if o.ix = 0 ∧ o.op ≠ 0 then some (bits o.w 16 4)
  else if o.ix = 1 ∧ o.op = 0x50 then some (bits o.w 14 4)
  else if o.ix = 1 ∧ o.op = 0x51 then some (bits o.w 8 4) else none

/-- The slots concerned in an illegal bundle (R131). -/
def illegalSlots (os : List OpenSlot) : List OpenSlot :=
  os.filter (fun o => os.any (fun p => p.ix != o.ix &&
    (o.writesS.any (fun r => p.writesS.contains r)
      || (((o.ix == 0 && p.ix == 1) || (o.ix == 1 && p.ix == 0)) && o.tile != none && o.tile == p.tile)
      || (o.ix == 3 && o.op == 0x3C && p.op != 0) || (p.ix == 3 && p.op == 0x3C && o.op != 0))))

/-- The precise exceptions of a bundle (R160). -/
def bundleExcs (os : List OpenSlot) : List Exc :=
  os.flatMap (fun o => o.res.excs) ++ (illegalSlots os).map (fun o => ⟨0x03, o.ix, o.w⟩)

/-- The tally a held bundle waits on. -/
def waitTally : List Hold → Option Nat
  | [] => none
  | .tally n :: _ => some n
  | _ :: t => waitTally t

/-- Does a hold wait on a barrier? -/
def Hold.onBarrier : Hold → Bool
  | .barrier => true
  | .sync _ => true
  | _ => false

/-- The channel of a bar.sync that has not arrived yet, where nothing else holds its bundle (R152, R223). -/
def syncArrival : List Hold → Option Nat
  | [.sync ch] => some ch
  | _ => none

/-- Show why a bundle is held (R76, R151, R165). -/
def showHold (st : Nat) (hs : List Hold) (b : Body) : Body :=
  let tal := waitTally hs
  let bar := hs.any Hold.onBarrier
  let b := setFlag b R.STN_SEQ_STATUS.fence_wait st (hs.contains .fence)
  let b := setFlag b R.STN_SEQ_STATUS.tally_wait st tal.isSome
  let b := setF b R.STN_SEQ_STATUS.wait_tally st (tal.getD 0)
  let b := setFlag b R.STN_SEQ_STATUS.barrier_wait st bar
  if getF b R.STN_STATUS.state st = 6 then b
  else setF b R.STN_STATUS.state st (if tal.isSome || bar then 4 else 3)

/-- Does the station issue bundles (R75, R157 item 9, R161, R47, R153)? -/
def issuing (b : Body) (st : Nat) : Bool :=
  flagF b R.STN_CTRL.run st && !flagF b R.STN_CTRL.power_gate st && getF b R.STN_STATUS.state st != 6
    && !b.stopped.contains (.station st) && !(stn b st).ended

/-- The fetch of the bundle at the pc (R128, R156, R182): false where its unit is uncorrectable. -/
def fetch (st : Nat) (b : Body) : Bool × Body :=
  let pc := getF b R.STN_SEQ_PC.pc st
  let bad := SMap.get (stn b st).badIstore [] pc
  let d := decodeUnit (leBytes 32 (SMap.get (stn b st).istore 0 pc).toNat) bad b.free
  let b := { b with free := b.free + 4 }
  match d.bytes with
  | none => (false, b)
  | some _ => (true, if d.corrected = [] then b else addSat b R.STN_SRAM_CORR.corrected st 1)

/-- Split a store into the flits of a remote write. -/
def writeFlits (st dst addr tag : Nat) (data : List (Option Byte)) : List Flit :=
  (pieces data.length).map (fun p =>
    { Flit.blank .write with src := st, dst := dst, addr := addr + p.1, len := p.2, tag := tag,
                             payload := (data.drop p.1).take p.2, piece := p.1 })

/-- A load or store of a station outside its own window becomes request flits (R140); an absent destination is answered
with cause 0x03 (R72), from an edge segment of the die it names (log entry 73). -/
def remoteAccess (st pc : Nat) (w : WinAddr) (addr : Nat) (isLoad toV : Bool) (reg len : Nat) (data : List (Option Byte))
    (b : Body) : Body :=
  let t := stn b st
  let fl : List Flit := match physOf b w.die w.lst with
    | some dst => if isLoad then (pieces len).map (fun p => { Flit.blank .readRequest with
          src := st, dst := dst, addr := addr + p.1, len := p.2, tag := t.nextTag, piece := p.1 })
        else writeFlits st dst addr t.nextTag data
    | none => [{ Flit.blank .errorResponse with src := segEp w.die, dst := st, cause := 3, addr := addr, tag := t.nextTag }]
  let o : Outstanding := { tag := t.nextTag, isLoad := isLoad, toV := toV, reg := reg, base := addr, buf := 0,
                           left := fl.length, pc := pc }
  forEach fl sendFlit (setStn b st { t with outst := t.outst ++ [o], nextTag := (t.nextTag + 1) % 65536 })

/-- The exceptions of uncorrectable units of own SRAM (R160 cause 0x0A). -/
def sramExc (slot : Nat) (us : List Nat) : List Exc := us.map (fun u => ⟨0x0A, slot, u * 32⟩)

/-- Take one branch: loops whose body does not hold the target end (R149). -/
def branchTo (st target : Nat) (b : Body) : Body :=
  let b := updStn b st (fun t => { t with loops := t.loops.filter (fun e => decide (e.start ≤ target) && decide (target ≤ e.stop)) })
  setF b R.STN_SEQ_PC.pc st target

/-- bar_arrive (R223). -/
def arrive (st ch : Nat) (b : Body) : Body :=
  updStn b st (fun t => { t with arriveGen := SMap.put t.arriveGen 0 ch ((SMap.get t.arriveGen 0 ch + 1) % 65536) })

/-- Apply one effect of a slot at the issue of its bundle. -/
def applyEff (st pc slot : Nat) (e : Eff) (b : Body) : Body :=
  match e with
  | .setS r v => updStn b st (fun t => setS t r v)
  | .setV r v => updStn b st (fun t => setV t r v)
  | .setP r v => updStn b st (fun t => setP t r v)
  | .setRow a row v => updStn b st (fun t => setRow t a row v)
  | .flags n => raiseFlags st pc slot n b
  | .store addr data =>
    match winOf addr with
    | none => b
    | some w =>
      if physOf b w.die w.lst = some st then
        let r := writeSram b st w.off data
        takeExc st pc (sramExc slot r.1) r.2
      else remoteAccess st pc w addr false false 0 data.length data b
  | .load toV reg addr len =>
    match winOf addr with
    | none => b
    | some w =>
      if physOf b w.die w.lst = some st then
        let r := readSram b st w.off len
        let v := ofLeBytes r.1.1
        takeExc st pc (sramExc slot r.1.2) (updStn r.2 st (fun t => if toV then setV t reg v else setS t reg v))
      else remoteAccess st pc w addr true toV reg len [] b
  | .matrix op => updStn b st (fun t => { t with matQ := t.matQ ++ [{ op with seq := t.matSeq, pc := pc }],
                                                 matSeq := t.matSeq + 1 })
  | .drover k d => updDrv b (st * 2 + k) (fun x => { x with queue := x.queue ++ [{ d with pc := pc }] })
  | .branch target => branchTo st target b
  | .skipTo target => setF b R.STN_SEQ_PC.pc st target
  | .pushLoop l => updStn b st (fun t => { t with loops := l :: t.loops })
  | .tallySet n v => updStn b st (fun t => setTally t n v)
  | .tallySig d n v rel =>
    if rel then
      let t := stn b st
      let r : Release := { dest := d, tally := n, value := v, tag := 0, pc := pc,
                           writes := (t.outst.filter (fun o => !o.isLoad)).map (·.tag),
                           matrix := (t.matQ.filter (·.isMul)).map (·.seq) }
      sendReleases st (setStn b st { t with releases := t.releases ++ [r] })
    else tallySignal st pc d n v b
  | .arrive ch => arrive st ch b
  | .syncEnd => updStn b st (fun t => { t with syncDone := false })
  | .mbxWr w v => updStn b st (fun t => { t with outbound := SMap.put t.outbound 0 w (BitVec.ofNat 64 v) })
  | .strokeEnd entry =>
    let b := updStn (arrive st 7 b) st (fun t => { t with ended := true, entry := entry })
    let b := setFlag b R.STN_SEQ_STATUS.barrier_wait st true
    setF b R.STN_STATUS.state st 4

/-- The next bundle where no slot names one (R149): the back-edge of the innermost loop, or the next in order; bundle 0 follows bundle 4 095
(log entry 75). -/
def advancePc (st pc : Nat) (loops : List LoopEntry) (b : Body) : Body :=
  match loops with
  | e :: rest =>
    if e.stop = pc then
      if 1 < e.count then
        setF (updStn b st (fun t => { t with loops := { e with count := e.count - 1 } :: rest })) R.STN_SEQ_PC.pc st e.start
      else setF (updStn b st (fun t => { t with loops := rest })) R.STN_SEQ_PC.pc st ((pc + 1) % 4096)
    else setF b R.STN_SEQ_PC.pc st ((pc + 1) % 4096)
  | [] => setF b R.STN_SEQ_PC.pc st ((pc + 1) % 4096)

/-- The slots of a bundle in the order M, V, D, C. -/
def inOrder (os : List OpenSlot) : List OpenSlot := (List.range 4).flatMap (fun k => os.filter (fun o => o.ix == k))

/-- The bytes of own SRAM that an effect of a slot overwrites, as they stand (R130). -/
def Eff.overwrites (b : Body) (st : Nat) : Eff → List (Nat × Byte)
  | .store addr data => match winOf addr with
    | none => []
    | some w => if physOf b w.die w.lst = some st then
        (List.range data.length).map (fun i => (w.off + i, SMap.get (stn b st).sram 0 (w.off + i)))
      else []
  | _ => []

/-- A matrix operation keeps the bytes that a store of its own bundle overwrites (R130). -/
def Eff.keeping (m : List (Nat × Byte)) : Eff → Eff
  | .matrix op => .matrix { op with saved := m }
  | e => e

/-- The slots of a bundle, the operation of its M slot with the bytes that the store of its V slot overwrites (R130). -/
def withSaved (b : Body) (st : Nat) (os : List OpenSlot) : List OpenSlot :=
  match os.find? (fun o => o.ix == 1), os.find? (fun o => o.ix == 0) with
  | some v, some _ =>
    let m := v.res.effs.flatMap (Eff.overwrites b st)
    os.map (fun o => { o with res := { o.res with effs := o.res.effs.map (Eff.keeping m) } })
  | _, _ => os

/-- Apply every effect of a bundle (R129, R130); the pc advances first, so that a branch has the last word. -/
def applyBundle (st : Nat) (os : List OpenSlot) (b : Body) : Body :=
  let pc := getF b R.STN_SEQ_PC.pc st
  let os := withSaved b st os
  let b := showHold st [] b
  let b := advancePc st pc (if os.any (fun o => o.res.effs.any (fun e => match e with
      | .branch _ => true
      | .skipTo _ => true
      | _ => false)) then [] else (stn b st).loops) b
  forEach (inOrder os) (fun o b => forEach o.res.effs (applyEff st pc o.ix) b) b

/-- Issue the open bundle of a station (R129, R157, R160). -/
def issueBundle (st : Nat) (b : Body) : Body :=
  let os := (stn b st).opened
  let b := updStn b st (fun t => { t with opened := [] })
  if issuing b st then
    let f := fetch st b
    let pc := getF b R.STN_SEQ_PC.pc st
    if !f.1 then takeExc st pc [⟨0x01, 0, 0⟩] f.2
    else
      let hs := os.flatMap (fun o => if o.res.excs.any (fun e => e.cause == 2) then [] else o.res.holds)
      if hs.isEmpty then
        let es := bundleExcs os
        if es.isEmpty then applyBundle st os f.2 else takeExc st pc es f.2
      else match syncArrival hs with
        | some ch => updStn (arrive st ch (showHold st hs f.2)) st (fun t => { t with syncDone := true })
        | none => showHold st hs f.2
  else b

/-- Present one slot: compute what it does, and issue the bundle with its last slot. -/
def presentSlot (ix : Nat) (f : Body → Station → SlotRes) (sl : Slot) (b : Body) : Body :=
  let o : OpenSlot := ⟨ix, sl.w, f b (stn b sl.st)⟩
  let b := updStn { b with free := b.free + 1 } sl.st (fun t => { t with opened := t.opened.filter (fun p => p.ix != ix) ++ [o] })
  if sl.last then issueBundle sl.st b else b

/-- The opcodes of a slot (R132, R139, R143, R147); every other one is reserved. -/
def assignedOps (ix : Nat) : List Nat :=
  match ix with
  | 0 => [0x00, 0x10, 0x20]
  | 1 => [0x00, 0x01, 0x02, 0x03, 0x04, 0x10, 0x11, 0x12, 0x13, 0x14, 0x15, 0x18, 0x19, 0x1A, 0x1B, 0x1C, 0x1D, 0x1E, 0x20, 0x21, 0x22, 0x23,
          0x24, 0x28, 0x29, 0x2A, 0x2B, 0x2C, 0x2D, 0x2E, 0x2F, 0x30, 0x31, 0x32, 0x33, 0x34, 0x40, 0x41, 0x50, 0x51]
  | 2 => [0x00, 0x01, 0x02, 0x03, 0x04]
  | _ => [0x00, 0x01, 0x02, 0x03, 0x04, 0x05, 0x06, 0x07, 0x08, 0x09, 0x0A, 0x0B, 0x0C, 0x0D, 0x20, 0x21, 0x22, 0x23, 0x24, 0x25, 0x26, 0x27,
          0x28, 0x29, 0x30, 0x31, 0x32, 0x33, 0x38, 0x39, 0x3A, 0x3C, 0x40, 0x41, 0x48, 0x49, 0x50]

/-- The outcome of a slot command: the station must exist and the slot must spell the opcode. A slot of a reserved opcode spells no command of
its own: presented under any command of its slot, it is an illegal encoding (R160). -/
def onSlot (ix op : Nat) (f : Body → Station → SlotRes) (sl : Slot) (s : State) : Host.Outcome State Fault Refusal :=
  if !isStation sl.st then .fault .noSuchUnit
  else if bits sl.w 0 8 = op then lift (presentSlot ix f sl) s
  else if (assignedOps ix).contains (bits sl.w 0 8) then .refused .wrongSlot
  else lift (presentSlot ix (fun _ _ => SlotRes.illegal ix sl.w) sl) s

end Sys2Proof.Machine
end

