-- ==== Sys2Proof/Machine/Scalar.lean ====
section
/-! DEFINITION. The C slot: scalar arithmetic, control flow, tallies, barriers, strokes, mailbox (R146-R155). -/

namespace Sys2Proof.Machine

/-- Field sd. -/
def csd (w : Nat) : Nat := bits w 8 5
/-- Field sa. -/
def csa (w : Nat) : Nat := bits w 13 5
/-- Field sb. -/
def csb (w : Nat) : Nat := bits w 18 5
/-- Field ib. -/
def cib (w : Nat) : Bool := bit w 23
/-- The immediate, sign-extended. -/
def cimm (w : Nat) : Int := sint 32 (bits w 32 32)
/-- The tally number. -/
def ctally (w : Nat) : Nat := bits w 32 12
/-- The 20-bit value. -/
def cvalue (w : Nat) : Nat := bits w 44 20

/-- The fields an operand b uses (R147): sb, or the immediate when ib is 1. -/
def bFields (w : Nat) : List (Nat × Nat) := if cib w then [(23, 1), (32, 32)] else [(18, 5)]

/-- The fields of a tally form's number and value (R146, R150, R217). -/
def tvFields (w : Nat) : List (Nat × Nat) := if cib w then [(23, 1), (32, 32)] else [(18, 5), (32, 12)]

/-- Operand b (R147). -/
def cOperand (w : Nat) (t : Station) : Nat := if cib w then uint 64 (cimm w) else sreg t (csb w)

/-- The value of a tally form (R150, R217). -/
def tallyValue (w : Nat) (t : Station) : Nat := if cib w then cvalue w else sreg t (csb w) % 2 ^ 32

/-- A slot of scalar sources: legal fields, or illegal encoding. -/
def cSlot (w : Nat) (t : Station) (fields : List (Nat × Nat)) (srcs : List Nat) (r : SlotRes) : SlotRes :=
  if !onlyFields w ((0, 8) :: fields) then SlotRes.illegal 3 w else r.hold (sourceHolds t srcs [] [])

/-- A scalar operation Sd = Sa op b (R147). -/
def aluSlot (w : Nat) (t : Station) (f : Nat → Nat → Nat) : SlotRes :=
  cSlot w t ([(8, 5), (13, 5)] ++ bFields w) [csd w, csa w, csb w]
    (SlotRes.ok [.setS (csd w) (f (sreg t (csa w)) (cOperand w t) % 2 ^ 64)])

/-- A target of a branch or jump: 0-4095 before any wrap (R148). A bundle that raises keeps what its slots would write, which decides whether it
is also illegal (R131). -/
def targetSlot (target : Int) (effs : List Eff) : SlotRes :=
  if target < 0 ∨ 4095 < target then { SlotRes.exc 0x06 3 (uint 64 target) with effs := effs } else SlotRes.ok effs

/-- A conditional branch (R147, R148): the target is checked whether or not the branch is taken. -/
def branchSlot (w st : Nat) (b : Body) (t : Station) (c : Nat → Nat → Bool) : SlotRes :=
  let target := (getF b R.STN_SEQ_PC.pc st : Int) + cimm w
  cSlot w t [(13, 5), (18, 5), (32, 32)] [csa w, csb w]
    (targetSlot target (if c (sreg t (csa w)) (sreg t (csb w)) then [.branch target.toNat] else []))

/-- The destination of tally.sig (R150, R167, R170, R172): none where the address names neither a station nor a flock. -/
def sigDest (b : Body) (a : Nat) : Option SigDest :=
  let x := sysAddr a
  let win := if 0xF000000000 ≤ x.addr ∧ x.addr < 0xF200000000 then
      let o := x.addr - 0xF000000000
      if o % 0x20000000 / 0x800000 < 48 then some (o / 0x20000000, o % 0x20000000 / 0x800000) else none
    else none
  if a = 0 then some .own
  else match x.space with
    | 0 => if x.ix = 0 then win.map (fun p => .station (moduleIndex b) p.1 p.2) else none
    | 1 => win.map (fun p => .station x.ix p.1 p.2)
    | 2 => if x.addr = 0 ∧ flockNamed b x.ix then some (.flock x.ix) else none
    | _ => none

/-- A signal to a station of a lost module that a pair stands in for names a tally of the upper half (R320): the
stations' form of a fault of cause space is address_space (log entry 20). -/
def standTallyFault (b : Body) (d : SigDest) (n : Nat) : Bool :=
  match d with
  | .station m _ _ => match standFor b m with
    | some (_, 1) => decide (2048 ≤ n)
    | _ => false
  | _ => false

/-- tally.sig (R150, R320). -/
def tallySigSlot (w : Nat) (b : Body) (t : Station) : SlotRes :=
  let a := sreg t (csa w)
  cSlot w t ([(13, 5), (24, 1)] ++ tvFields w) [csa w, csb w]
    (match sigDest b a with
     | none => SlotRes.exc 0x07 3 a
     | some d => if standTallyFault b d (ctally w) then SlotRes.exc 0x07 3 a
         else SlotRes.ok [.tallySig d (ctally w) (tallyValue w t) (!bit w 24)])

/-- tally.wait (R151). -/
def tallyWaitSlot (w : Nat) (t : Station) : SlotRes :=
  cSlot w t (tvFields w) [csb w]
    ((SlotRes.ok []).hold (if tallySatisfied t (ctally w) (tallyValue w t) then [] else [.tally (ctally w)]))

/-- The barrier channel a slot names, with the legality of its fields (R152, R212, R222). -/
def barSlot (w st : Nat) (b : Body) (t : Station) (k : Nat → SlotRes) : SlotRes :=
  let scope := bits w 8 3
  cSlot w t ([(8, 3)] ++ (if scope = 2 then [(32, 16)] else [])) []
    (match barrierChannel b st scope (bits w 32 16) with
     | none => SlotRes.illegal 3 w
     | some ch => k ch)

/-- Is every earlier operation of the station complete (R155)? -/
def fenceMet (b : Body) (st : Nat) (t : Station) : Bool :=
  t.matQ.isEmpty && t.outst.isEmpty && !(drv b (st * 2)).busy && !(drv b (st * 2 + 1)).busy

/-- The hold of fence and of stroke.end. -/
def fenceHold (b : Body) (st : Nat) (t : Station) : List Hold := if fenceMet b st t then [] else [.fence]

/-- A system value (R154); id 4, the cycles since the catch, is a free value (log entry 3). -/
def sysValue (b : Body) (st : Nat) : Nat → Option Nat
  | 0 => some (logicalOf b st)
  | 1 => some (st / 64)
  | 2 => some (moduleIndex b)
  | 3 => some (strokeNum b)
  | 4 => some (Config.freeValue b.free % 2 ^ 64)
  | 5 => some (getF b R.STN_ARITH_FLAGS.flags st)
  | 6 => some (winBase (st / 64) (logicalOf b st))
  | _ => none

/-- sys.rd (R154). -/
def sysRdSlot (w st : Nat) (b : Body) (t : Station) : SlotRes :=
  match sysValue b st (bits w 32 8) with
  | none => SlotRes.illegal 3 w
  | some v => cSlot w t [(8, 5), (32, 8)] [csd w] (SlotRes.ok [.setS (csd w) v])

/-- The mailbox word index Sa + imm, modulo 2^64 (R147). -/
def mbxIndex (w : Nat) (t : Station) : Nat := uint 64 ((sreg t (csa w) : Int) + cimm w)

/-- mbx.rd (R147, R227): an inbound word as latched, an outbound word from the working copy. -/
def mbxRdSlot (w st : Nat) (b : Body) (t : Station) : SlotRes :=
  let k := mbxIndex w t
  cSlot w t [(8, 5), (13, 5), (32, 32)] [csd w, csa w]
    (if 32 ≤ k then { SlotRes.exc 0x07 3 k with effs := [.setS (csd w) 0] }
     else SlotRes.ok [.setS (csd w) (if k < 16 then getF b R.TLY_MBX.word (st * 32 + k) else (SMap.get t.outbound 0 k).toNat)])

/-- mbx.wr (R147, R227): a write to an inbound word is discarded. -/
def mbxWrSlot (w : Nat) (t : Station) : SlotRes :=
  let k := mbxIndex w t
  cSlot w t [(13, 5), (18, 5), (32, 32)] [csa w, csb w]
    (if 32 ≤ k then SlotRes.exc 0x07 3 k else SlotRes.ok (if k < 16 then [] else [.mbxWr k (sreg t (csb w))]))

/-- loop (R149). The stack is tested as it stands before the bundle (R130); an end beyond bundle 4 095 is never reached (log entry 75). -/
def loopSlot (w st : Nat) (b : Body) (t : Station) : SlotRes :=
  let pc := getF b R.STN_SEQ_PC.pc st
  let n := cimm w
  if n < 1 ∨ 4095 < n then SlotRes.illegal 3 w
  else cSlot w t [(13, 5), (32, 32)] [csa w]
    (if sreg t (csa w) = 0 then SlotRes.ok [.skipTo ((pc + n.toNat + 1) % 4096)]
     else if 4 ≤ t.loops.length then SlotRes.exc 0x05 3 0
     else SlotRes.ok [.pushLoop ⟨pc + 1, pc + n.toNat, sreg t (csa w)⟩])

/-- ADD (R147). -/
def execAdd (sl : Slot) (s : State) : Host.Outcome State Fault Refusal :=
  onSlot 3 0x01 (fun _ t => aluSlot sl.w t (fun a c => a + c)) sl s

/-- SUB (R147). -/
def execSub (sl : Slot) (s : State) : Host.Outcome State Fault Refusal :=
  onSlot 3 0x02 (fun _ t => aluSlot sl.w t (fun a c => a + 2 ^ 64 - c)) sl s

/-- AND (R147). -/
def execAnd (sl : Slot) (s : State) : Host.Outcome State Fault Refusal :=
  onSlot 3 0x03 (fun _ t => aluSlot sl.w t (Nat.land)) sl s

/-- OR (R147). -/
def execOr (sl : Slot) (s : State) : Host.Outcome State Fault Refusal :=
  onSlot 3 0x04 (fun _ t => aluSlot sl.w t (Nat.lor)) sl s

/-- XOR (R147). -/
def execXor (sl : Slot) (s : State) : Host.Outcome State Fault Refusal :=
  onSlot 3 0x05 (fun _ t => aluSlot sl.w t (Nat.xor)) sl s

/-- SHL (R147). -/
def execShl (sl : Slot) (s : State) : Host.Outcome State Fault Refusal :=
  onSlot 3 0x06 (fun _ t => aluSlot sl.w t (fun a c => a * 2 ^ (c % 64))) sl s

/-- SHR (R147). -/
def execShr (sl : Slot) (s : State) : Host.Outcome State Fault Refusal :=
  onSlot 3 0x07 (fun _ t => aluSlot sl.w t (fun a c => a / 2 ^ (c % 64))) sl s

/-- SRA (R147). -/
def execSra (sl : Slot) (s : State) : Host.Outcome State Fault Refusal :=
  onSlot 3 0x08 (fun _ t => aluSlot sl.w t (fun a c => uint 64 (sint 64 a / (2 ^ (c % 64) : Nat)))) sl s

/-- MUL (R147). -/
def execMul (sl : Slot) (s : State) : Host.Outcome State Fault Refusal :=
  onSlot 3 0x09 (fun _ t => aluSlot sl.w t (fun a c => a * c)) sl s

/-- SLT (R147). -/
def execSlt (sl : Slot) (s : State) : Host.Outcome State Fault Refusal :=
  onSlot 3 0x0A (fun _ t => aluSlot sl.w t (fun a c => if sint 64 a < sint 64 c then 1 else 0)) sl s

/-- SLTU (R147). -/
def execSltu (sl : Slot) (s : State) : Host.Outcome State Fault Refusal :=
  onSlot 3 0x0B (fun _ t => aluSlot sl.w t (fun a c => if a < c then 1 else 0)) sl s

/-- LI (R147). -/
def execLi (sl : Slot) (s : State) : Host.Outcome State Fault Refusal :=
  onSlot 3 0x0C (fun _ t => cSlot sl.w t [(8, 5), (32, 32)] [csd sl.w] (SlotRes.ok [.setS (csd sl.w) (uint 64 (cimm sl.w))])) sl s

/-- LIH (R147). -/
def execLih (sl : Slot) (s : State) : Host.Outcome State Fault Refusal :=
  onSlot 3 0x0D (fun _ t => cSlot sl.w t [(8, 5), (32, 32)] [csd sl.w]
    (SlotRes.ok [.setS (csd sl.w) (setBits (sreg t (csd sl.w)) 32 32 (bits sl.w 32 32))])) sl s

/-- BEQ (R147, R148). -/
def execBeq (sl : Slot) (s : State) : Host.Outcome State Fault Refusal :=
  onSlot 3 0x20 (fun b t => branchSlot sl.w sl.st b t (fun a c => a == c)) sl s

/-- BNE (R147, R148). -/
def execBne (sl : Slot) (s : State) : Host.Outcome State Fault Refusal :=
  onSlot 3 0x21 (fun b t => branchSlot sl.w sl.st b t (fun a c => a != c)) sl s

/-- BLT (R147, R148). -/
def execBlt (sl : Slot) (s : State) : Host.Outcome State Fault Refusal :=
  onSlot 3 0x22 (fun b t => branchSlot sl.w sl.st b t (fun a c => decide (sint 64 a < sint 64 c))) sl s

/-- BGE (R147, R148). -/
def execBge (sl : Slot) (s : State) : Host.Outcome State Fault Refusal :=
  onSlot 3 0x23 (fun b t => branchSlot sl.w sl.st b t (fun a c => decide (sint 64 c ≤ sint 64 a))) sl s

/-- BLTU (R147, R148). -/
def execBltu (sl : Slot) (s : State) : Host.Outcome State Fault Refusal :=
  onSlot 3 0x24 (fun b t => branchSlot sl.w sl.st b t (fun a c => decide (a < c))) sl s

/-- BGEU (R147, R148). -/
def execBgeu (sl : Slot) (s : State) : Host.Outcome State Fault Refusal :=
  onSlot 3 0x25 (fun b t => branchSlot sl.w sl.st b t (fun a c => decide (c ≤ a))) sl s

/-- JMP (R147, R148). -/
def execJmp (sl : Slot) (s : State) : Host.Outcome State Fault Refusal :=
  onSlot 3 0x26 (fun b t =>
    let target := (getF b R.STN_SEQ_PC.pc sl.st : Int) + cimm sl.w
    cSlot sl.w t [(32, 32)] [] (targetSlot target [.branch target.toNat])) sl s

/-- JAL (R147, R148). -/
def execJal (sl : Slot) (s : State) : Host.Outcome State Fault Refusal :=
  onSlot 3 0x27 (fun b t =>
    let target := (getF b R.STN_SEQ_PC.pc sl.st : Int) + cimm sl.w
    cSlot sl.w t [(8, 5), (32, 32)] [csd sl.w]
      (targetSlot target [.setS (csd sl.w) (getF b R.STN_SEQ_PC.pc sl.st + 1), .branch target.toNat])) sl s

/-- JR (R147, R148). -/
def execJr (sl : Slot) (s : State) : Host.Outcome State Fault Refusal :=
  onSlot 3 0x28 (fun _ t => cSlot sl.w t [(13, 5)] [csa sl.w]
    (targetSlot (sreg t (csa sl.w)) [.branch (sreg t (csa sl.w))])) sl s

/-- LOOP (R149). -/
def execLoop (sl : Slot) (s : State) : Host.Outcome State Fault Refusal :=
  onSlot 3 0x29 (fun b t => loopSlot sl.w sl.st b t) sl s

/-- TALLY_SIG (R150). -/
def execTallySig (sl : Slot) (s : State) : Host.Outcome State Fault Refusal :=
  onSlot 3 0x30 (fun b t => tallySigSlot sl.w b t) sl s

/-- TALLY_WAIT (R151). -/
def execTallyWait (sl : Slot) (s : State) : Host.Outcome State Fault Refusal :=
  onSlot 3 0x31 (fun _ t => tallyWaitSlot sl.w t) sl s

/-- TALLY_SET (R147, R217). -/
def execTallySet (sl : Slot) (s : State) : Host.Outcome State Fault Refusal :=
  onSlot 3 0x32 (fun _ t => cSlot sl.w t (tvFields sl.w) [csb sl.w]
    (SlotRes.ok [.tallySet (ctally sl.w) (tallyValue sl.w t)])) sl s

/-- TALLY_RD (R147). -/
def execTallyRd (sl : Slot) (s : State) : Host.Outcome State Fault Refusal :=
  onSlot 3 0x33 (fun _ t => cSlot sl.w t [(8, 5), (32, 12)] [csd sl.w]
    (SlotRes.ok [.setS (csd sl.w) (tally t (ctally sl.w))])) sl s

/-- BAR_ARRIVE (R152, R223). -/
def execBarArrive (sl : Slot) (s : State) : Host.Outcome State Fault Refusal :=
  onSlot 3 0x38 (fun b t => barSlot sl.w sl.st b t (fun ch => SlotRes.ok [.arrive ch])) sl s

/-- BAR_WAIT (R152, R223). -/
def execBarWait (sl : Slot) (s : State) : Host.Outcome State Fault Refusal :=
  onSlot 3 0x39 (fun b t => barSlot sl.w sl.st b t
    (fun ch => (SlotRes.ok []).hold (if barReleased t ch then [] else [.barrier]))) sl s

/-- BAR_SYNC (R152, R223). -/
def execBarSync (sl : Slot) (s : State) : Host.Outcome State Fault Refusal :=
  onSlot 3 0x3A (fun b t => barSlot sl.w sl.st b t
    (fun ch => (SlotRes.ok [.syncEnd]).hold (if !t.syncDone then [.sync ch] else if barReleased t ch then [] else [.barrier]))) sl s

/-- STROKE_END (R153). -/
def execStrokeEnd (sl : Slot) (s : State) : Host.Outcome State Fault Refusal :=
  onSlot 3 0x3C (fun b t => cSlot sl.w t [(32, 12)] []
    ((SlotRes.ok [.strokeEnd (ctally sl.w)]).hold (fenceHold b sl.st t))) sl s

/-- SYS_RD (R154); a free value is drawn for id 4. -/
def execSysRd (sl : Slot) (s : State) : Host.Outcome State Fault Refusal :=
  onSlot 3 0x40 (fun b t => sysRdSlot sl.w sl.st b t) sl s

/-- FENCE (R155). -/
def execFence (sl : Slot) (s : State) : Host.Outcome State Fault Refusal :=
  onSlot 3 0x41 (fun b t => cSlot sl.w t [] [] ((SlotRes.ok []).hold (fenceHold b sl.st t))) sl s

/-- MBX_RD (R147, R227). -/
def execMbxRd (sl : Slot) (s : State) : Host.Outcome State Fault Refusal :=
  onSlot 3 0x48 (fun b t => mbxRdSlot sl.w sl.st b t) sl s

/-- MBX_WR (R147, R227). -/
def execMbxWr (sl : Slot) (s : State) : Host.Outcome State Fault Refusal :=
  onSlot 3 0x49 (fun _ t => mbxWrSlot sl.w t) sl s

/-- TRAP (R147, R160). -/
def execTrap (sl : Slot) (s : State) : Host.Outcome State Fault Refusal :=
  onSlot 3 0x50 (fun _ t => cSlot sl.w t [(32, 32)] [] (SlotRes.exc 0x09 3 (uint 64 (cimm sl.w)))) sl s

end Sys2Proof.Machine
end

