-- ==== Sys2Proof/Machine/Drovers.lean ====
section
/-! DEFINITION. The station drovers: queue entries, lists, descriptors, completion (R186-R191, R145). -/

namespace Sys2Proof.Machine

/-- A drover starts its next entry (R190): once the entry before has issued all its reads; the entries that a resume runs again come
first (R191). -/
def entryStart (dr : Nat) (b : Body) : Body :=
  let d := drv b dr
  if !clocked b (dr / 2) ∨ getF b R.DRV_STATUS.state dr = 2 ∨ d.current.isSome then b
  else match d.replayed ++ d.queue with
    | [] => b
    | e :: _ =>
      let b := updDrv b dr (fun d => { d with replayed := d.replayed.drop 1, queue := if d.replayed.isEmpty then d.queue.drop 1 else d.queue
                                              current := some e, entryIx := d.entryIx + 1 })
      let b := setF b R.DRV_STATUS.list_index dr 0
      if e.isList ∧ 0x600000 < e.listOff + 64 then drvFault dr 2 0 e.listOff e.pc true d.nextId (d.entryIx + 1) b
      else if e.isList ∧ e.listOff % 64 ≠ 0 then drvFault dr 3 0 e.listOff e.pc true d.nextId (d.entryIx + 1) b
      else showDrover dr b

/-- Own-SRAM bytes a drover reads for itself: the bytes or the offset of an uncorrectable unit. -/
def ownRead (dr off len : Nat) (b : Body) : (List Byte × Option Nat) × Body :=
  let r := readSram b (dr / 2) off len
  ((r.1.1, (r.1.2.head?).map (· * 32)), r.2)

/-- The first move of a descriptor, for the checks made before any read (R191): a gathered or scattered one by the first index. -/
def firstMove (b : Body) (st : Nat) (d : Desc) : Option Move :=
  (movesOf { d with count := min d.count 1 } (unpack 32 (ofLeBytes (bytesAt (stn b st).sram d.index 4)) 1)).head?

/-- The lowest-numbered fault of a descriptor before its first read (R191): encoding 1, space 2, misaligned 3, length 4. -/
def descFault (b : Body) (st : Nat) (d : Desc) : Option (Nat × Nat) :=
  let space : Option Nat :=
    if (d.kind = 3 ∨ d.kind = 4) ∧ 0x600000 < d.index + 4 * d.count then some d.index
    else (firstMove b st d).bind (fun m => if (moveEnds b d m).isNone then some (spaceAddr b d m) else none)
  match fieldFault d false, space with
  | some 1, _ => some (1, 0)
  | _, some a => some (2, a)
  | some c, none => some (c, if d.src % 32 ≠ 0 then d.src else d.dst)
  | none, none => none

/-- Start a transfer: its record precedes its flits. -/
def openTransfer (dr : Nat) (e : DrvEntry) (d : Desc) (signal : Option Nat) (bytes : Nat) (mods : List Nat) (b : Body) : Body :=
  updDrv b dr (fun x => { x with nextId := x.nextId + 1, transfers := x.transfers ++ [
    { id := x.nextId, flying := [], tally := d.tally, signal := signal, chk := d.chk, frame := d.frame, bytes := bytes, pieces := []
      count := 0, entry := e, entryIx := x.entryIx, modules := mods, desc := d, since := b.now }] })

/-- Run a descriptor that moves data (R188-R191): its indices are read, then its moves are issued as R190 allows. -/
def runMoving (dr : Nat) (e : DrvEntry) (d : Desc) (b : Body) : Body :=
  let x := drv b dr
  let n := if d.kind = 3 ∨ d.kind = 4 then 4 * d.count else 0
  let ix := ownRead dr d.index n b
  match ix.1.2 with
  | some off => drvFault dr 6 0 off e.pc e.isList x.nextId x.entryIx ix.2
  | none =>
    let ms := movesOf d (unpack 32 (ofLeBytes ix.1.1) (n / 4))
    let b := openTransfer dr e d (if d.notally then none else some 1) (d.length * ms.length) (descModules b d ms) ix.2
    pump dr pumpFuel (updDrv b dr (fun y => { y with moving := some ⟨x.nextId, ms, 0, 0⟩ }))

/-- Run one descriptor (R188). -/
def runDesc (dr : Nat) (e : DrvEntry) (d : Desc) (off : Nat) (b : Body) : Body :=
  let b := updDrv b dr (fun y => { y with running := d })
  let x := drv b dr
  match descFault b (dr / 2) d with
  | some f => drvFault dr f.1 0 (if f.1 = 1 then off else f.2) e.pc e.isList x.nextId x.entryIx b
  | none =>
    if d.moves then runMoving dr e d b
    else if d.kind = 5 then descDone dr e d.last (openTransfer dr e d (some d.value) 0 [] b)
    else if tallySatisfied (stn b (dr / 2)) d.tally d.value then descDone dr e d.last b
    else updDrv b dr (fun y => { y with waiting := some (d.tally, d.value) })

/-- The descriptor in progress is run under the command of its kind; a reserved kind under any (R186, R191). -/
def descCommand (dr kind : Nat) (b : Body) : Body :=
  let x := drv b dr
  if !clocked b (dr / 2) ∨ getF b R.DRV_STATUS.state dr = 2 ∨ x.waiting.isSome ∨ x.moving.isSome then b
  else match x.current with
    | none => b
    | some e =>
      if !e.isList then (if e.desc.kind = kind then showDrover dr (runDesc dr e e.desc 0 b) else b)
      else
        let off := e.listOff + 64 * getF b R.DRV_STATUS.list_index dr
        if 0x600000 < off + 64 then drvFault dr 2 0 off e.pc true x.nextId x.entryIx b
        else
          let r := ownRead dr off 64 b
          match r.1.2 with
          | some u => drvFault dr 6 0 u e.pc true x.nextId x.entryIx r.2
          | none =>
            let d := descOf r.1.1
            if d.kind = kind ∨ d.kind = 0 ∨ 6 < d.kind then showDrover dr (runDesc dr e d off r.2) else b

/-- A WAIT's tally is satisfied and the list goes on (R188). -/
def waitDone (dr : Nat) (b : Body) : Body :=
  let x := drv b dr
  match x.waiting, x.current with
  | some w, some e =>
    if clocked b (dr / 2) ∧ tallySatisfied (stn b (dr / 2)) w.1 w.2 ∧ getF b R.DRV_STATUS.state dr ≠ 2 then
      let b := updDrv b dr (fun y => { y with waiting := none })
      let last := e.isList ∧ (descOf (bytesAt (stn b (dr / 2)).sram (e.listOff + 64 * getF b R.DRV_STATUS.list_index dr) 64)).last
      descDone dr e last b
    else b
  | _, _ => b

/-- The first transfer of a drover is visible (R145, R190, R191): its bytes are counted, the check-value unit is fed in
logical order, its completion signal is sent. -/
def transferVisible (dr : Nat) (b : Body) : Body :=
  match (drv b dr).transfers with
  | [] => b
  | t :: rest =>
    if !clocked b (dr / 2) ∨ t.flying ≠ [] ∨ (drv b dr).moving.any (fun m => m.tid == t.id) then b
    else
      let b := updDrv b dr (fun d => { d with transfers := rest })
      let b := addSat b R.DRV_BYTES.bytes dr t.bytes
      let b := if t.desc.kind = 0 then b else traceDesc dr t.desc 0 t.since t.entry.pc b
      let b := if t.chk then forEach t.pieces (fun p b => chkFeed dr p.2 b) b else b
      let b := if t.frame then chkFrameEnd dr b else b
      let b := match t.signal with
        | some v => addTally (dr / 2) t.tally v b
        | none => b
      showDrover dr b

/-- Firmware writes DRV_CTRL.resume (R191): a stopped drover goes on at the next entry. -/
def droverResume (dr : Nat) (b : Body) : Body :=
  if getF b R.DRV_STATUS.state dr = 2 then setF b R.DRV_STATUS.state dr (if (drv b dr).busy then 1 else 0) else b

/-- Firmware writes DRV_CTRL.flush (R191, R209): the queued entries, and those a resume would run again, are discarded without a signal; a
stopped drover is free again, an entry in progress goes on. -/
def droverFlush (dr : Nat) (b : Body) : Body :=
  let b := updDrv b dr (fun d => { d with queue := [], replayed := [] })
  setF b R.DRV_STATUS.state dr (if (drv b dr).busy then 1 else 0)

/-- DROVER_ENTRY_START (R190). -/
def execDroverEntryStart (dr : Nat) (s : State) : Host.Outcome State Fault Refusal := onUnit (isDrover dr) (entryStart dr) s

/-- DESC_COPY (R188). -/
def execDescCopy (dr : Nat) (s : State) : Host.Outcome State Fault Refusal := onUnit (isDrover dr) (descCommand dr 1) s

/-- DESC_STRIDED (R188). -/
def execDescStrided (dr : Nat) (s : State) : Host.Outcome State Fault Refusal := onUnit (isDrover dr) (descCommand dr 2) s

/-- DESC_GATHER (R188). -/
def execDescGather (dr : Nat) (s : State) : Host.Outcome State Fault Refusal := onUnit (isDrover dr) (descCommand dr 3) s

/-- DESC_SCATTER (R188). -/
def execDescScatter (dr : Nat) (s : State) : Host.Outcome State Fault Refusal := onUnit (isDrover dr) (descCommand dr 4) s

/-- DESC_SIGNAL (R188). -/
def execDescSignal (dr : Nat) (s : State) : Host.Outcome State Fault Refusal := onUnit (isDrover dr) (descCommand dr 5) s

/-- DESC_WAIT (R188). -/
def execDescWait (dr : Nat) (s : State) : Host.Outcome State Fault Refusal := onUnit (isDrover dr) (descCommand dr 6) s

/-- DESC_WAIT_SATISFIED (R188). -/
def execDescWaitSatisfied (dr : Nat) (s : State) : Host.Outcome State Fault Refusal := onUnit (isDrover dr) (waitDone dr) s

/-- DROVER_TRANSFER_VISIBLE (R145, R190, R191). -/
def execDroverTransferVisible (dr : Nat) (s : State) : Host.Outcome State Fault Refusal := onUnit (isDrover dr) (transferVisible dr) s

/-- DRV_RESUME (R191, R209). -/
def execDrvResume (dr : Nat) (s : State) : Host.Outcome State Fault Refusal := onUnit (isDrover dr) (droverResume dr) s

/-- DRV_FLUSH (R191, R209). -/
def execDrvFlush (dr : Nat) (s : State) : Host.Outcome State Fault Refusal := onUnit (isDrover dr) (droverFlush dr) s

end Sys2Proof.Machine
end

