-- ==== Sys2Proof/Machine/Commit.lean ====
section
/-! DEFINITION. Staging tails, mirroring and stroke commit (R193-R201, R220). -/

namespace Sys2Proof.Machine

/-- The bytes of a tail entry (R194). -/
def entryBytes (e : TailEntry) (seq : Nat) : List Byte :=
  leBytes 8 e.home ++ [BitVec.ofNat 8 (e.payload.length / 32)] ++ leBytes 3 0 ++ leBytes 4 e.stroke ++ leBytes 4 seq ++ leBytes 12 0
    ++ (e.payload ++ List.replicate (224 - e.payload.length) 0)

/-- CRC-64 over all entries in tail order (R195, R199). -/
def sealCrcOf (es : List TailEntry) : Nat := crc64 (es.zipIdx.flatMap (fun p => entryBytes p.1 p.2))

/-- Entries a staging region holds behind its header of 256 bytes (R193, R195). -/
def tailCapacity (b : Body) (k : Nat) : Nat := getF b R.MEM_STG_SIZE.size_mib k * 4096 - 1

/-- Report mirror_lost for a write that waited on the mirror (R191 cause 0xB, R198): the drover does not stop. -/
def reportMirrorLost (w : StagedWrite) (b : Body) : Body :=
  report (.drover w.drv) (setFlag (droverAck w.drv w.transfer w.piece b) R.DRV_FAULT.mirror_lost w.drv true)

/-- The partner is declared lost (R198). -/
def mirrorLost (k : Nat) (b : Body) : Body :=
  let ws := (stk b k).mirrorWait
  let b := updStk (setFlag b R.MEM_MIR_CFG.enable k false) k (fun t => { t with mirrorWait := [] })
  forEach ws reportMirrorLost b

/-- The controller writes in its own staging region (R193, R194): where it has one. -/
def writeRegion (k off : Nat) (bs : List Byte) (s : State) : State :=
  if getF s.body R.MEM_STG_SIZE.size_mib k = 0 then s else writeStackBytes (getF s.body R.MEM_STG_BASE.base k + off) bs s

/-- The tail header (R195). -/
def headerBytes (state stroke entries crc : Nat) : List Byte :=
  leBytes 4 state ++ leBytes 4 stroke ++ leBytes 4 entries ++ leBytes 4 0 ++ leBytes 8 crc ++ leBytes 232 0

/-- Set the state of a tail, in MEM_STG_STATUS and in its header (R195, R207). -/
def setTailState (k st : Nat) (s : State) : State :=
  let t := stk s.body k
  writeRegion k 0 (headerBytes st t.tailStroke t.tail.length t.sealCrc) { s with body := setF s.body R.MEM_STG_STATUS.state k st }

/-- A refused entry (R197): staging_full is recorded by the drover and by the controller. -/
def refuseStaged (k : Nat) (w : StagedWrite) (b : Body) : Body :=
  report (.stagingFull k) (transferFault w.drv w.transfer 9 0 w.home (setFlag b R.MEM_STG_STATUS.full k true))

/-- An entry that has joined its tail goes to the mirror (R198 step 1), or is acknowledged. -/
def mirrorEntry (k : Nat) (w : StagedWrite) (stroke : Nat) (b : Body) : Body :=
  if flagF b R.MEM_MIR_CFG.enable k then
    let f := { Flit.blank .droverBulk with src := ctlEp k, dst := ctlEp k, addr := w.home, staged := true, tag := w.transfer, piece := w.piece
                                           payload := w.payload.map some, len := w.payload.length, stroke := stroke
                                           origin := some (moduleIndex b) }
    let r := sendModule (getF b R.MEM_MIR_CFG.partner k) 5 f b
    let b := updStk r.2 k (fun t => { t with mirrorWait := t.mirrorWait ++ [w] })
    if r.1 then b else mirrorLost k b
  else droverAck w.drv w.transfer w.piece b

/-- An entry joins the tail of its controller (R194, R197, R198). -/
def appendStaged (k : Nat) (s : State) : State :=
  if s.body.stopped.contains (.controller k) then s
  else match (stk s.body k).staged with
  | [] => s
  | w :: rest =>
    let s := onBody (fun b => updStk b k (fun t => { t with staged := rest })) s
    let t := stk s.body k
    if tailCapacity s.body k ≤ t.tail.length then onBody (refuseStaged k w) s
    else
      let e : TailEntry := { home := w.home, stroke := strokeNum s.body % 2 ^ 32, payload := w.payload }
      let s := writeRegion k (256 * (t.tail.length + 1)) (entryBytes e t.tail.length) s
      let s := onBody (fun b =>
        let b := updStk b k (fun t => { t with tail := t.tail ++ [e], tailStroke := e.stroke })
        setF b R.MEM_STG_STATUS.entries k (stk b k).tail.length) s
      let s := if getF s.body R.MEM_STG_STATUS.state k = 0 then setTailState k 1 s else s
      onBody (mirrorEntry k w e.stroke) s

/-- The next entry that the partner's controller has forwarded is this one. -/
def nextMirror (b : Body) (k home stroke : Nat) (payload : List Byte) : Bool :=
  ((b.fabric.find? (fun x => atGoal x && ofPair x .droverBulk (ctlEp k) (ctlEp k))).map
    (fun f => f.kind == .droverBulk && f.addr == home && f.stroke == stroke && f.payload == payload.map some)).getD false

/-- A forwarded entry joins the mirror tail and is acknowledged to the module it came from (R198); a full mirror tail refuses it (R197; log
entry 62), and a controller in self-refresh answers cause 0x03 (R207). The command names the entry; another one stays where it is. -/
def mirrorReceive (k home stroke : Nat) (payload : List Byte) (b : Body) : Body :=
  if b.stopped.contains (.controller k) || !nextMirror b k home stroke payload then b
  else deliver .droverBulk (ctlEp k) (ctlEp k) (fun f b =>
    if flagF b R.MEM_CTRL.self_refresh k ∨ getF b R.MEM_STATUS.state k = 3 then respond f 1 (errorFor f 3 f.addr) b
    else if tailCapacity b k ≤ (stk b k).mirrorTail.length then
      respond f 1 (errorFor f 3 f.addr) (report (.stagingFull k) (setFlag b R.MEM_STG_STATUS.full k true))
    else
      let b := updStk b k (fun t => { t with mirrorTail := t.mirrorTail
        ++ [{ home := f.addr, stroke := f.stroke, payload := f.payload.map (fun x => x.getD 0) }] })
      respond f 1 { ackFor f with addr := f.addr } b) b

/-- The write that waits on the mirror with this home address, taken off. -/
def takeMirrorWait (k home : Nat) (b : Body) : Option StagedWrite × Body :=
  match (stk b k).mirrorWait.find? (fun w => w.home == home) with
  | none => (none, b)
  | some w => (some w, updStk b k (fun t => { t with mirrorWait := eraseFirst (fun x => x == w) t.mirrorWait }))

/-- The mirror has acknowledged an entry (R198): the write becomes visible. -/
def mirrorAck (k home : Nat) (b : Body) : Body :=
  match takeMirrorWait k home b with
  | (some w, b) => droverAck w.drv w.transfer w.piece b
  | (none, b) => b

/-- The mirror has refused an entry (R197; log entry 62). -/
def mirrorRefused (k home : Nat) (b : Body) : Body :=
  match takeMirrorWait k home b with
  | (some w, b) => report (.stagingFull k) (transferFault w.drv w.transfer 9 0 w.home b)
  | (none, b) => b

/-- Has the module-wide stroke barrier completed: every active station has executed stroke.end (R31, R153, R223)? -/
def strokeBarrierDone (b : Body) : Bool := (liveStations b).all (fun st => (stn b st).ended)

/-- Copy the tallies of every active station to the shadow (R220). -/
def copyShadow (b : Body) : Body :=
  { b with shadow := ((List.range 16).flatMap (fun d => (List.range 48).map (fun l => d * 64 + l))).foldl (fun m x =>
      match physOf b (x / 64) (x % 64) with
      | some st => SMap.put m [] x (stn b st).tallies
      | none => m) b.shadow }

/-- A controller seals its tail (R199 step 2): entries, stroke and seal_crc are written and the state becomes 2; copying, state 3, follows at
once (log entry 64). -/
def sealTail (k : Nat) (s : State) : State :=
  let s := onBody (fun b =>
    let b := updStk b k (fun t => { t with sealCrc := sealCrcOf t.tail, tailStroke := strokeNum b % 2 ^ 32 })
    setF b R.MEM_STG_STATUS.entries k (stk b k).tail.length) s
  setTailState k 3 (setTailState k 2 s)

/-- Is a commit sealing or applying (R200)? -/
def commitRuns (b : Body) : Bool := getF b R.MEM_COMMIT_STATUS.state 0 == 1 || getF b R.MEM_COMMIT_STATUS.state 0 == 2

/-- Commit starts (R199): the barrier has completed and hold is 0; else it is held. In a run the stroke block is committing (R255). -/
def commitStart (s : State) : State :=
  let b := s.body
  if !strokeBarrierDone b ∨ b.flock.commitDone then s
  else if flagF b R.MEM_COMMIT_CTRL.hold 0 then onBody (fun b => setF b R.MEM_COMMIT_STATUS.state 0 4) s
  else if commitRuns b then s
  else
    let s := onBody (fun b => setF (setF (copyShadow b) R.MEM_COMMIT_STATUS.applied 0 0) R.MEM_COMMIT_STATUS.state 0 1) s
    let s := (List.range 12).foldl (fun s k => sealTail k s) s
    onBody (fun b => whenB b.flock.runOpen (fun b => setF b R.TLY_STROKE_STATUS.state 0 5) (setF b R.MEM_COMMIT_STATUS.state 0 2)) s

/-- The signed mirror offset of a controller (R207). -/
def mirrorOffset (b : Body) (k : Nat) : Int := sint 64 (getF b R.MEM_MIR_OFFSET.offset k)

/-- Apply entries in tail order (R196, R199 step 4), those of a mirror tail at their home moved by the offset; a mirror entry whose home then
lies outside the controller's own stack is discarded and counts as applied (R327). -/
def applyEntries (k : Nat) (shift : Option Int) : List TailEntry → State → State
  | [], s => s
  | e :: es, s =>
    let home := (e.home : Int) + shift.getD 0
    let own := decide ((k * stackBytes : Nat) ≤ home) && decide (home < ((k + 1) * stackBytes : Nat))
    applyEntries k shift es (if shift.isNone || own then writeStackBytes home.toNat e.payload s else s)

/-- Stack memory as a read outside its controller's queue finds it: a unit named in a sealed tail is read after its entry has been applied
(R199 step 3; log entry 52). -/
def readSealed (a n : Nat) (s : State) : (List Byte × List Nat) × State :=
  if heldBySeal s.body a n then
    let sealed := (List.range 12).filter (fun k => let st := getF s.body R.MEM_STG_STATUS.state k; st == 2 || st == 3)
    let r := readStack a n (sealed.foldl (fun t k => applyEntries k none (stk s.body k).tail t) s)
    (r.1, { s with body := { r.2.body with badStack := s.body.badStack } })
  else readStack a n s

/-- A controller has copied its tail and its mirror tail to the home units (R198, R199 step 4): its tail goes through state 4 to state 0 and
it reports. -/
def tailApplied (k : Nat) (s : State) : State :=
  let st := getF s.body R.MEM_STG_STATUS.state k
  if (st = 2 ∨ st = 3) ∧ !(stk s.body k).restarted ∧ !s.body.stopped.contains (.controller k) then
    let t := stk s.body k
    let s := applyEntries k (some (mirrorOffset s.body k)) t.mirrorTail (applyEntries k none t.tail s)
    let s := setTailState k 4 s
    let s := onBody (fun b => setF (updStk b k (fun t => { t with tail := [], mirrorTail := [] })) R.MEM_STG_STATUS.entries k 0) s
    onBody (fun b => setF b R.MEM_COMMIT_STATUS.applied 0 (setBit (getF b R.MEM_COMMIT_STATUS.applied 0) k true)) (setTailState k 0 s)
  else s

/-- Is any tail sealed (R200)? -/
def anySealed (b : Body) : Bool := (List.range 12).any (fun k => 2 ≤ getF b R.MEM_STG_STATUS.state k)

/-- Empty one open tail (R200). -/
def emptyTail (k : Nat) (s : State) : State :=
  let s := onBody (fun b => setF (updStk b k (fun t => { t with tail := [], mirrorTail := [], staged := [], mirrorWait := [] }))
    R.MEM_STG_STATUS.entries k 0) s
  setTailState k 0 s

/-- Firmware writes MEM_COMMIT_CTRL.discard (R200). -/
def commitDiscard (s : State) : State :=
  if anySealed s.body then onBody (fun b => setFlag b R.MEM_COMMIT_STATUS.discard_refused 0 true) s
  else (List.range 12).foldl (fun s k => emptyTail k s) s

/-- Firmware writes MEM_COMMIT_CTRL.retry_apply (R200): every sealed tail is copied again. -/
def commitRetry (s : State) : State :=
  (List.range 12).foldl (fun s k =>
    if 2 ≤ getF s.body R.MEM_STG_STATUS.state k then setTailState k 3 (onBody (fun b => updStk b k (fun t => { t with restarted := false })) s)
    else s) s

/-- A controller restarts (R200): one whose tail is sealed or applying waits for retry_apply. -/
def controllerRestart (k : Nat) (b : Body) : Body :=
  let st := getF b R.MEM_STG_STATUS.state k
  if st = 2 ∨ st = 3 then updStk b k (fun t => { t with restarted := true }) else b

/-- CONTROLLER_RESTART (R200). -/
def execControllerRestart (stack : Nat) (s : State) : Host.Outcome State Fault Refusal := onUnit (isStack stack) (controllerRestart stack) s

/-- STAGED_ENTRY_APPEND (R194, R197, R198). -/
def execStagedEntryAppend (stack : Nat) (s : State) : Host.Outcome State Fault Refusal := onUnitS (isStack stack) (appendStaged stack) s

/-- MIRROR_ENTRY_RECEIVE (R198). -/
def execMirrorEntryReceive (stack home stroke : Nat) (payload : List Byte) (s : State) : Host.Outcome State Fault Refusal :=
  onUnit (isStack stack) (mirrorReceive stack home stroke payload) s

/-- COMMIT_START (R199, R220). -/
def execCommitStart (s : State) : Host.Outcome State Fault Refusal := .next (commitStart s)

/-- TAIL_APPLY_COMPLETE (R196, R199). -/
def execTailApplyComplete (stack : Nat) (s : State) : Host.Outcome State Fault Refusal := onUnitS (isStack stack) (tailApplied stack) s

/-- COMMIT_HOLD (R199, R208). -/
def execCommitHold (v : Bool) (s : State) : Host.Outcome State Fault Refusal :=
  lift (fun b => setFlag b R.MEM_COMMIT_CTRL.hold 0 v) s

/-- COMMIT_DISCARD (R200, R208). -/
def execCommitDiscard (s : State) : Host.Outcome State Fault Refusal := .next (commitDiscard s)

/-- COMMIT_RETRY_APPLY (R200, R208). -/
def execCommitRetryApply (s : State) : Host.Outcome State Fault Refusal := .next (commitRetry s)

end Sys2Proof.Machine
end

