-- ==== Sys2Proof/Machine/StationControl.lean ====
section
/-! DEFINITION. Clock islands, station control, the die map and quiescing (R44-R47, R65-R80, R127, R162, R163). -/

namespace Sys2Proof.Machine

/-- An island of the module (R44). -/
def isIsland : Island → Bool
  | .station st => isStation st
  | .segment d e => isDie d && decide (e < 4)
  | .controller k => isStack k
  | .linkDie n => decide (n < 4)

/-- Lower the lowest effective frequency of a station since the last read (R78). -/
def noteEff (st code : Nat) (b : Body) : Body :=
  setF b R.STN_CLK_STATUS.min_eff_code st (min (getF b R.STN_CLK_STATUS.min_eff_code st) code)

/-- A station whose clock runs has run at the code in force (R78): noted before the code changes or the clock ends. -/
def noteCode (st : Nat) (b : Body) : Body := whenB (clocked b st) (noteEff st (getF b R.STN_CLK_STATUS.current_code st)) b

/-- COXn writes a target code (R46, R78, R79): outside 80-380 it is discarded. Controllers and link dies have no target
register, and the four segments of a die have one. -/
def clkTarget (isl : Island) (code : Nat) (b : Body) : Body :=
  if code < 80 ∨ 380 < code then b
  else match isl with
    | .station st =>
      let b := setF (noteCode st b) R.STN_CLK_TARGET.target_code st code
      setF b R.STN_CLK_STATUS.current_code st code
    | .segment d _ => setF b R.STN_SEG_CLK.target_code d code
    | _ => b

/-- The generator stops its clock (R47). -/
def clockStop (isl : Island) (b : Body) : Body :=
  let b := match isl with
    | .station st => noteCode st b
    | _ => b
  let b := { b with stopped := if b.stopped.contains isl then b.stopped else b.stopped ++ [isl] }
  match isl with
  | .station st => setFlag b R.STN_STATUS.stretching st true
  | _ => b

/-- The island resumes (R47): the cycles lengthened are counted and the lowest frequency is noted (R78). The command also reports stretches and
crossing pauses that never stopped the clock (R45, R48; log entry 65). -/
def clockResume (isl : Island) (cycles effCode : Nat) (b : Body) : Body :=
  let b := { b with stopped := b.stopped.filter (· != isl) }
  match isl with
  | .station st => noteEff st effCode (addSat (setFlag b R.STN_STATUS.stretching st false) R.STN_STRETCH_CYCLES.count st cycles)
  | _ => b

/-- A stop longer than halt_limit (R47, R77). -/
def droopHalt (isl : Island) (b : Body) : Body :=
  match isl with
  | .station st => whenB (b.stopped.contains isl)
      (fun b => report (.stationFault st) (setFlag b R.STN_FAULT.droop_halt st true)) b
  | _ => b

/-- Firmware writes STN_CTRL.run (R75, R127, R159): a change ends what the sequencer waited on (R165). -/
def writeRun (st : Nat) (v : Bool) (b : Body) : Body :=
  let was := flagF b R.STN_CTRL.run st
  let b := setFlag b R.STN_CTRL.run st v
  let b := if v == was then b else clearWaits st b
  if v && !was then
    setF (updStn b st (fun t => { t with opened := [], ended := false, syncDone := false })) R.STN_STATUS.state st 3
  else if !v && was then setF (updStn b st (fun t => { t with opened := [] })) R.STN_STATUS.state st 5
  else b

/-- Firmware writes STN_CTRL.fence (R67, R75): while it is 1 the station shows state 7 (R76; log entry 66). -/
def writeFence (st : Nat) (v : Bool) (b : Body) : Body := setFlag b R.STN_CTRL.fence st v

/-- Firmware writes STN_CTRL.power_gate (R65, R67, R75): setting it while run is 1 is discarded; clearing it starts the
quick self-test. While it is 1 the station shows state 0 (R76; log entry 66). -/
def writePowerGate (st : Nat) (v : Bool) (b : Body) : Body :=
  if v && flagF b R.STN_CTRL.run st then b
  else
    let was := flagF b R.STN_CTRL.power_gate st
    let b := setFlag (if v then noteCode st b else b) R.STN_CTRL.power_gate st v
    if v then setF b R.STN_STATUS.state st 0 else if was then setF b R.STN_STATUS.state st 1 else b

/-- A quick self-test ends (R65, R67, R77). -/
def selfTestDone (st : Nat) (pass : Bool) (b : Body) : Body :=
  if pass then setF (updStn b st (fun t => { t with selfTestFailed := false })) R.STN_STATUS.state st 2
  else
    let b := updStn b st (fun t => { t with selfTestFailed := true })
    report (.selfTest st) (setFlag (setF b R.STN_STATUS.state st 2) R.STN_FAULT.self_test_fail st true)

/-- The SRAM fill completes (R75, R180): zero units with valid check symbols; a station without a clock fills nothing. -/
def sramFilled (st : Nat) (b : Body) : Body :=
  if flagF b R.STN_STATUS.sram_init_busy st ∧ clocked b st then
    setFlag (updStn b st (fun t => { t with sram := [], badSram := [], writeBack := [] })) R.STN_STATUS.sram_init_busy st false
  else b

/-- Firmware writes STN_SEQ_PC (R162). -/
def writeSeqPc (st pc : Nat) (b : Body) : Body := if flagF b R.STN_CTRL.run st then b else setF b R.STN_SEQ_PC.pc st pc

/-- Firmware writes a bundle of the instruction store (R127). -/
def writeIstore (st bundle word : Nat) (b : Body) : Body :=
  if flagF b R.STN_CTRL.run st then b
  else updStn b st (fun t => { t with istore := SMap.put t.istore 0 (bundle % 4096) (BitVec.ofNat 256 word),
                                      badIstore := SMap.erase t.badIstore (bundle % 4096) })

/-- Firmware clears the exception record (R163). -/
def clearExc (st : Nat) (b : Body) : Body :=
  let b := setF b R.STN_EXC_CAUSE.cause st 0
  let b := setF b R.STN_EXC_CAUSE.slot st 0
  let b := setF b R.STN_EXC_CAUSE.precise st 0
  let b := setF b R.STN_EXC_CAUSE.more st 0
  let b := setF b R.STN_EXC_CAUSE.trapped_flags st 0
  let b := setF b R.STN_EXC_CAUSE.valid st 0
  setF (setF b R.STN_EXC_PC.pc st 0) R.STN_EXC_INFO.info st 0

/-- Firmware writes STN_DIE_CTRL.quiesce (R67, R79): once it is 0 the die's drovers issue again. -/
def writeQuiesce (die : Nat) (v : Bool) (b : Body) : Body :=
  let b := setFlag b R.STN_DIE_CTRL.quiesce die v
  if v then b
  else forEach (List.range 104) (fun i b => pump (die * 128 + i) pumpFuel b) (setFlag b R.STN_DIE_STATUS.quiesced die false)

/-- Is a flit of classes 1-3 still at a die (R51, R67)? -/
def drains (die : Nat) (f : Flit) : Bool := f.kind.cls != 0 && f.node == die

/-- Is the die empty of flits of classes 1-3, those on their way to it over its edges among them (R67)? -/
def drained (die : Nat) (b : Body) : Bool :=
  !b.fabric.any (drains die)
    && (List.range 4).all (fun e => (List.range 16).all (fun k =>
        !(isLink ⟨die, e, k⟩ && (notReceived b (farSide ⟨die, e, k⟩)).any (fun f => f.kind.cls != 0))))

/-- Draining completes (R67). -/
def quiesceDone (die : Nat) (b : Body) : Body :=
  whenB (flagF b R.STN_DIE_CTRL.quiesce die && drained die b) (fun b => setFlag b R.STN_DIE_STATUS.quiesced die true) b

/-- The fields of a map register's entry (R80). -/
def mapPhys (i : Nat) : Field :=
  match i with
  | 0 => R.STN_MAP.phys_0
  | 1 => R.STN_MAP.phys_1
  | 2 => R.STN_MAP.phys_2
  | _ => R.STN_MAP.phys_3
/-- The valid field of a map register's entry (R80). -/
def mapValid (i : Nat) : Field :=
  match i with
  | 0 => R.STN_MAP.valid_0
  | 1 => R.STN_MAP.valid_1
  | 2 => R.STN_MAP.valid_2
  | _ => R.STN_MAP.valid_3

/-- Firmware writes STN_MAP_k (R66, R80): discarded and flagged unless the die is quiesced; a physical position above 51
is no encoding of the field and that field keeps its value (R12). -/
def writeMap (die k word : Nat) (b : Body) : Body :=
  if flagF b R.STN_DIE_STATUS.quiesced die then
    forEach (List.range 4) (fun i b =>
      let p := bits word (8 * i) 6
      let b := if p < 52 then setF b (mapPhys i) (die * 12 + k) p else b
      setF b (mapValid i) (die * 12 + k) (bits word (8 * i + 7) 1)) b
  else setFlag b R.STN_DIE_STATUS.map_write_refused die true

/-- The entry of the map registers for a logical station: physical + 1, 0 if not valid. -/
def mapEntry (b : Body) (die l : Nat) : Nat :=
  let ix := die * 12 + l / 4
  if flagF b (mapValid (l % 4)) ix then getF b (mapPhys (l % 4)) ix + 1 else 0

/-- Apply the map registers (R67). -/
def applyMap (die : Nat) (b : Body) : Body :=
  { b with dieMap := (List.range 48).foldl (fun m l => SMap.put m (deliveryPhys l + 1) (die * 64 + l) (mapEntry b die l)) b.dieMap }

/-- Empty the die barrier tree (R67). -/
def emptyBarriers (die : Nat) (b : Body) : Body :=
  forEach (dieStations b die) (fun st b => updStn b st (fun t =>
    { t with arriveGen := SMap.erase t.arriveGen 0, relGen := SMap.erase t.relGen 0 })) b

/-- Firmware writes STN_DIE_CTRL.map_commit (R67, R79). -/
def mapCommit (die : Nat) (b : Body) : Body :=
  if flagF b R.STN_DIE_STATUS.quiesced die then emptyBarriers die (applyMap die b)
  else setFlag b R.STN_DIE_STATUS.map_write_refused die true

/-- STN_CLK_TARGET_WRITE (R46, R78). -/
def execStnClkTargetWrite (isl : Island) (code : Nat) (s : State) : Host.Outcome State Fault Refusal :=
  onUnit (isIsland isl) (clkTarget isl code) s

/-- DROOP_CLOCK_STOP (R47). -/
def execDroopClockStop (isl : Island) (s : State) : Host.Outcome State Fault Refusal := onUnit (isIsland isl) (clockStop isl) s

/-- DROOP_CLOCK_RESUME (R47). -/
def execDroopClockResume (isl : Island) (cycles effCode : Nat) (s : State) : Host.Outcome State Fault Refusal :=
  onUnit (isIsland isl) (clockResume isl cycles effCode) s

/-- DROOP_HALT (R47). -/
def execDroopHalt (isl : Island) (s : State) : Host.Outcome State Fault Refusal := onUnit (isIsland isl) (droopHalt isl) s

/-- STN_RUN (R75, R127). -/
def execStnRun (st : Nat) (v : Bool) (s : State) : Host.Outcome State Fault Refusal := onUnit (isStation st) (writeRun st v) s

/-- STN_FENCE (R67, R75). -/
def execStnFence (st : Nat) (v : Bool) (s : State) : Host.Outcome State Fault Refusal := onUnit (isStation st) (writeFence st v) s

/-- STN_POWER_GATE (R65, R75). -/
def execStnPowerGate (st : Nat) (v : Bool) (s : State) : Host.Outcome State Fault Refusal :=
  onUnit (isStation st) (writePowerGate st v) s

/-- SPARE_SELF_TEST_COMPLETE (R65, R67). -/
def execSpareSelfTestComplete (st : Nat) (pass : Bool) (s : State) : Host.Outcome State Fault Refusal :=
  onUnit (isStation st) (selfTestDone st pass) s

/-- STN_SRAM_INIT (R75). -/
def execStnSramInit (st : Nat) (s : State) : Host.Outcome State Fault Refusal :=
  onUnit (isStation st) (fun b => setFlag b R.STN_STATUS.sram_init_busy st true) s

/-- SRAM_INIT_COMPLETE (R75, R180). -/
def execSramInitComplete (st : Nat) (s : State) : Host.Outcome State Fault Refusal := onUnit (isStation st) (sramFilled st) s

/-- STN_SEQ_PC_WRITE (R162). -/
def execStnSeqPcWrite (st pc : Nat) (s : State) : Host.Outcome State Fault Refusal := onUnit (isStation st) (writeSeqPc st pc) s

/-- ISTORE_WRITE (R127). -/
def execIstoreWrite (st bundle word : Nat) (s : State) : Host.Outcome State Fault Refusal :=
  onUnit (isStation st) (writeIstore st bundle word) s

/-- EXC_CAUSE_CLEAR (R163). -/
def execExcCauseClear (st : Nat) (s : State) : Host.Outcome State Fault Refusal := onUnit (isStation st) (clearExc st) s

/-- DIE_QUIESCE (R67, R79). -/
def execDieQuiesce (die : Nat) (v : Bool) (s : State) : Host.Outcome State Fault Refusal := onUnit (isDie die) (writeQuiesce die v) s

/-- STN_MAP_WRITE (R66, R80). -/
def execStnMapWrite (die k word : Nat) (s : State) : Host.Outcome State Fault Refusal :=
  onUnit (isDie die && decide (k < 12)) (writeMap die k word) s

/-- MAP_COMMIT (R67, R79). -/
def execMapCommit (die : Nat) (s : State) : Host.Outcome State Fault Refusal := onUnit (isDie die) (mapCommit die) s

end Sys2Proof.Machine
end

