-- ==== Sys2Proof/Machine/CoxOps.lean ====
section
/-! DEFINITION. Loops, gain schedule, generators, shedding and clocks of the Cox engines (R367-R400, R404, R407). -/

namespace Sys2Proof.Machine

/-- The highest code that the table of a die allows at a core voltage (R390). -/
def vfLimit (b : Body) (e mv : Nat) : Nat :=
  let es := (List.range 16).filter (fun k => flagF b R.COX_VF.valid (e * 16 + k) && decide (getF b R.COX_VF.core_mv (e * 16 + k) ≤ mv))
  let best := es.foldl (fun acc k => match acc with
    | none => some k
    | some j => if getF b R.COX_VF.core_mv (e * 16 + j) < getF b R.COX_VF.core_mv (e * 16 + k) then some k else acc) none
  match best with
  | some k => getF b R.COX_VF.max_code (e * 16 + k)
  | none => 80

/-- A loop register instance. -/
def lix (e l : Nat) : Nat := e * 16 + l
/-- A generator register instance. -/
def pix (e k : Nat) : Nat := e * 8 + k

/-- A loop. -/
def loop (b : Body) (e l : Nat) : CoxLoop := SMap.get b.cox.loops CoxLoop.reset (lix e l)
/-- Update a loop. -/
def updLoop (e l : Nat) (f : CoxLoop → CoxLoop) (b : Body) : Body :=
  { b with cox := { b.cox with loops := SMap.put b.cox.loops CoxLoop.reset (lix e l) (f (loop b e l)) } }
/-- The limits of a generator in force. -/
def pgLim (b : Body) (e k : Nat) : CoxPg := SMap.get b.cox.pgs CoxPg.reset (pix e k)
/-- Set the limits of a generator in force. -/
def setPgLim (e k : Nat) (p : CoxPg) (b : Body) : Body := { b with cox := { b.cox with pgs := SMap.put b.cox.pgs CoxPg.reset (pix e k) p } }
/-- An engine. -/
def engine (b : Body) (e : Nat) : CoxEngine := SMap.get b.cox.engines CoxEngine.reset e
/-- Update an engine. -/
def updEngine (e : Nat) (f : CoxEngine → CoxEngine) (b : Body) : Body :=
  { b with cox := { b.cox with engines := SMap.put b.cox.engines CoxEngine.reset e (f (engine b e)) } }
/-- Update the power path. -/
def updPath (f : PowerPath → PowerPath) (b : Body) : Body := { b with cox := { b.cox with path := f b.cox.path } }

/-- Does an engine compute (R367, R405, R412)? -/
def engineRuns (b : Body) (e : Nat) : Bool := flagF b R.COX_CTRL.engine_en e && !flagF b R.COX_STATUS.self_check e

/-- The loop's mode. -/
def loopMode (b : Body) (e l : Nat) : Nat := getF b R.COX_LOOP_MODE.mode (lix e l)

/-- The kind of a loop (R413): 0 rail voltage, 1 balance, 2 thermal, 3 input power, 4 bus voltage, 5 port current, 6 pack side. -/
def loopKind (b : Body) (e l : Nat) : Nat := getF b R.COX_LOOP_CFG.kind (lix e l)

/-- Is a slot assigned (R367)? -/
def slotPresent (b : Body) (e l : Nat) : Bool := decide (e < 20 ∧ l < 16) && flagF b R.COX_LOOP_CFG.present (lix e l)

/-- The generator that drives a loop; none for 15 (R413). -/
def loopPg (b : Body) (e l : Nat) : Option Nat :=
  let k := getF b R.COX_LOOP_CFG.pg (lix e l)
  if k < 8 then some k else none

/-- Is a generator in soft-start (R380)? -/
def softStarting (b : Body) (e k : Nat) : Bool := getF b R.COX_PG_CTRL.owner (pix e k) == 1 && !flagF b R.COX_PG_CTRL.done (pix e k)

/-- Is a loop in soft-start? -/
def loopSoft (b : Body) (e l : Nat) : Bool := match loopPg b e l with
  | some k => softStarting b e k
  | none => false

/-- The phases of a loop's rail that the module builds (R347, R356). -/
def railPhases (e l : Nat) : Nat :=
  if e < 16 then (if l < 2 then 12 else if l < 4 then 2 else 0)
  else if e = 17 then 4
  else if e = 18 ∨ e = 19 then (if l = 12 ∨ l = 14 then 2 else 1)
  else 5

/-- The rating of one phase in A (R347); of a port phase a fourth of the port's 80 A (R356; log entry 33). -/
def phaseRating (e l : Nat) : Nat :=
  if e < 16 then (if l < 2 then 60 else 40) else if e = 17 then 20 else 30

/-- The rail slot that a balance slot serves. -/
def railOf (e l : Nat) : Nat := if e < 16 then l / 2 * 2 else if e = 17 then 0 else l

/-- The members of a rail that run: shed and removed phases excluded (R348, R385), removed converter cells excluded (R342). -/
def runningPhases (b : Body) (e l : Nat) : List Nat :=
  if e = 16 then (List.range 5).filter (fun i => !b.cox.path.removedCells.contains i)
  else if (e < 16 ∧ l < 2) ∨ e = 17 then (List.range (railPhases e l)).filter (fun i => bit (getF b R.COX_SHED_STATUS.running e) i)
  else (List.range (railPhases e l)).filter (fun i => !(engine b e).removed.contains (railOf e l * 16 + i))

/-- The present limit of the storage port's current in A by its thermal loop (R372, R401, R402). -/
def portLimit (b : Body) : Option Nat :=
  if (engine b 17).thermalFrozen then some (bfRat 40 1)
  else if loopMode b 17 4 = 2 then some (getF b R.COX_LOOP_OUT.out (lix 17 4)) else none

/-- The input power limit of the working cells in W (R337, R343). -/
def inputLimitW (b : Body) : Nat := min 10500 (2800 * (5 - b.cox.path.removedCells.length))

/-- The largest total cell current that a power allows at the present input voltage, 42 A at most (R337, R394). -/
def cellCurrent (w vin : Nat) : Nat := if bfZ vin ≤ 0 then bfRat 42 1 else bfMin (bfRat 42 1) (bfDiv (bfRat w 1) vin)

/-- The narrowings of a loop's upper clamp (R372, R380, R394). -/
def clampHi (b : Body) (e l inputQ : Nat) : Nat :=
  let hi := getF b R.COX_LOOP_CLAMP_HI.hi (lix e l)
  let ilim := getF b R.COX_SOFT_ILIM.ilim (lix e l)
  let rel := (loop b e l).release
  let hi := if loopSoft b e l then bfMin hi ilim
    else if 0 < rel ∧ bfLt ilim hi then bfOf (bfZ ilim * rel + bfZ hi * (10 - rel)) 10 else hi
  let k := loopKind b e l
  let hi := if k = 0 ∨ e = 17 ∧ (l = 0 ∨ l = 1 ∨ l = 3) then bfMin hi (bfRat (phaseRating e l * (runningPhases b e l).length) 1) else hi
  let hi := if e = 16 ∧ (l = 0 ∨ l = 2) then bfMin hi (cellCurrent (inputLimitW b) inputQ) else hi
  let cap := getF b R.COX_CAP.cap_w 16
  let hi := if e = 16 ∧ l = 0 ∧ cap ≠ 0 then bfMin hi (cellCurrent cap inputQ) else hi
  match portLimit b with
  | some x => if e = 17 ∧ (l = 0 ∨ l = 1 ∨ l = 3) then bfMin hi x else hi
  | none => hi

/-- The narrowings of a loop's lower clamp: soft-start and the port's limits bind both directions. -/
def clampLo (b : Body) (e l : Nat) : Nat :=
  let lo := getF b R.COX_LOOP_CLAMP_LO.lo (lix e l)
  let lo := if loopSoft b e l then bfMax2 lo (bfNeg (getF b R.COX_SOFT_ILIM.ilim (lix e l))) else lo
  if e = 17 ∧ (l = 0 ∨ l = 1 ∨ l = 3) then
    let lo := bfMax2 lo (bfNeg (bfRat (phaseRating e l * (runningPhases b e l).length) 1))
    match portLimit b with
    | some x => bfMax2 lo (bfNeg x)
    | none => lo
  else lo

/-- A band index moves by at most one step, past a threshold by more than the hysteresis (R374); values in units of 2^-150,
the hysteresis in thousandths of the highest threshold. -/
def bandStep (band : Nat) (q : Int) (t0 t1 t2 : Nat) (hyst : Nat) : Nat :=
  let th := fun i => bfZ (if i = 0 then t0 else if i = 1 then t1 else t2)
  let h := bfZ t2 * hyst
  if band < 3 ∧ th band * 1000 + h < q * 1000 then band + 1
  else if 0 < band ∧ q * 1000 < th (band - 1) * 1000 - h then band - 1
  else band

/-- The region in force after this period's update (R374). -/
def regionStep (b : Body) (e l inputQ : Nat) : Nat × Nat :=
  let i := lix e l
  let s := loop b e l
  let load := bandStep s.loadBand (bfZ (bfAbs (getF b R.COX_LOOP_OUT.out i))) (getF b R.COX_BAND_LOAD_0.threshold i)
    (getF b R.COX_BAND_LOAD_1.threshold i) (getF b R.COX_BAND_LOAD_2.threshold i) (getF b R.COX_BAND_HYST.load_hyst i)
  let inp := if loopKind b e l = 2 then 0 else bandStep s.inBand (bfZ inputQ) (getF b R.COX_BAND_IN_0.threshold i)
    (getF b R.COX_BAND_IN_1.threshold i) (getF b R.COX_BAND_IN_2.threshold i) (getF b R.COX_BAND_HYST.in_hyst i)
  (inp, load)

/-- The gains of a region (R374). -/
structure CoxGains where
  kp : Nat
  ki : Nat
  kd : Nat
  df : Nat
  ma : Nat
  mb : Nat
  mc : Nat

/-- Read the gains of a region. -/
def gainsOf (b : Body) (e l r : Nat) : CoxGains :=
  let i := e * 256 + l * 16 + r
  { kp := getF b R.COX_GAIN_KP.kp i, ki := getF b R.COX_GAIN_KI.ki i, kd := getF b R.COX_GAIN_KD.kd i, df := getF b R.COX_GAIN_DF.df i
    ma := getF b R.COX_MODEL_A.a i, mb := getF b R.COX_MODEL_B.b i, mc := getF b R.COX_MODEL_C.c i }

/-- Move toward zero by at most a step; a step of 0 means no limit (R397, R413). -/
def towardZero (x slew : Nat) : Nat :=
  if bfM slew = 0 ∨ bfLe (bfAbs x) slew then bfPack 0 (bfE x) else bfSigned (bfSign x) (bfOf (bfZ (bfAbs x) - bfZ slew) 1)

/-- Move from a value toward another by at most a step (R396). -/
def towardValue (x goal slew : Nat) : Nat :=
  if bfM slew = 0 ∨ decide ((bfZ goal - bfZ x).natAbs ≤ (bfZ slew).natAbs) then goal
  else if bfLt x goal then bfOf (bfZ x + bfZ slew) 1 else bfOf (bfZ x - bfZ slew) 1

/-- A sticky flag of a loop. -/
def loopFlag (f : Field) (e l : Nat) (c : Bool) (b : Body) : Body := if c then setFlag b f (lix e l) true else b

/-- The feedforward term that a loop has when no move runs: COX_LOOP_FF until an edge has moved it (R384). -/
def ffRest (b : Body) (e l : Nat) : Nat := if (loop b e l).ffLen = 0 then getF b R.COX_LOOP_FF.ff (lix e l) else (loop b e l).ffNow

/-- The feedforward term of this period (R384): linear over the ramp, or a step. -/
def ffStep (b : Body) (e l : Nat) : Nat × CoxLoop :=
  let s := loop b e l
  if !flagF b R.COX_LOOP_CFG.ff_en (lix e l) ∨ !flagF b R.COX_CTRL.ff_en e then (0, s)
  else if s.ffLeft = 0 then (ffRest b e l, s)
  else
    let k := s.ffLen - s.ffLeft + 1
    let v := if s.ffLen ≤ 1 then s.ffTo
      else sRat (getF b R.COX_LOOP_EXP.exp_out (lix e l)) (bfZ s.ffFrom * (s.ffLen - k : Nat) + bfZ s.ffTo * k) s.ffLen
    (v, { s with ffNow := v, ffLeft := s.ffLeft - 1 })

/-- An edge of drive or feather starts the feedforward move of a loop (R384, R410). -/
def ffEdge (e l : Nat) (target : Nat) (b : Body) : Body :=
  if loopMode b e l = 2 then
    let n := getF b R.COX_FF_CFG.ramp (lix e l)
    updLoop e l (fun s => { s with ffFrom := ffRest b e l, ffTo := target, ffLeft := max n 1, ffLen := max n 1 }) b
  else b

/-- The reference in force (R372, R376, R394). -/
def loopRef (b : Body) (e l : Nat) : Nat × Bool :=
  let i := lix e l
  match loopPg b e l with
  | none => (getF b R.COX_LOOP_REF_STATIC.ref i, false)
  | some k =>
    let r := sMul (getF b R.COX_LOOP_EXP.exp_err i) (getF b R.COX_LOOP_SCALE.scale i) (getF b R.COX_PG_POS.x (pix e k))
    let cap := getF b R.COX_CAP.cap_w 16
    if e = 16 ∧ l = 0 ∧ cap ≠ 0 ∧ bfLt (bfRat cap 1) r.1 then (bfRat cap 1, r.2) else r

/-- The proportional and derivative terms with given gains (R372). -/
def pdTerms (eo ed : Nat) (g : CoxGains) (err d fbPrev fb : Nat) : (Nat × Bool) × (Nat × Bool) :=
  let p := sMul eo g.kp err
  let m1 := sMul ed g.df d
  let df := sSub ed fbPrev fb
  let m2 := sMul ed g.kd df.1
  let s := sAdd ed m1.1 m2.1
  (p, (s.1, m1.2 || df.2 || m2.2 || s.2))

/-- The members of a loop's competition group that are in auto (R398). -/
def groupMembers (b : Body) (e l : Nat) : List Nat :=
  let g := getF b R.COX_LOOP_CFG.group (lix e l)
  if g = 0 then [] else (List.range 16).filter (fun k => getF b R.COX_LOOP_CFG.group (lix e k) == g && loopMode b e k == 2)

/-- The slot whose latest clamped output is lowest; the lowest slot on a tie (R398). -/
def lowestOf (b : Body) (e : Nat) : List Nat → Option Nat
  | [] => none
  | l :: ls => match lowestOf b e ls with
    | some k => if bfLt (loop b e k).latest (loop b e l).latest then some k else some l
    | none => some l

/-- Account the output delay (R404). -/
def noteDelay (e l delay : Nat) (b : Body) : Body :=
  let i := lix e l
  let b := setF b R.COX_LOOP_DELAY.last i delay
  let b := setF b R.COX_LOOP_DELAY.min i (min (getF b R.COX_LOOP_DELAY.min i) delay)
  let b := setF b R.COX_LOOP_DELAY.max i (max (getF b R.COX_LOOP_DELAY.max i) delay)
  if 550 < delay then logRec 0x24 [BitVec.ofNat 8 e, BitVec.ofNat 8 l, 5] (loopFlag R.COX_LOOP_FLAGS.delay_over e l true b) else b

/-- Put an output on the actuator (R372, R398, R402). -/
def applyOut (e l out : Nat) (b : Body) : Body :=
  let b := setF b R.COX_LOOP_OUT.out (lix e l) out
  updLoop e l (fun s => { s with hist := (out :: s.hist).take 16 }) b

/-- The n-th word of a list, 0 beyond it. -/
def nth (l : List Nat) (n : Nat) : Nat := l.getD n 0

/-- What a member of a loop brings into a period: its reference (with whether its stage saturated), its feedback, what it keeps from the
period before, and the applied value from which its integrator is preset. A loop that is no balance loop has one member. -/
structure CoxMember where
  ref : Nat × Bool
  fb : Nat
  fbPrev : Nat
  d : Nat
  integ : Nat
  residue : Nat
  preset : Option Nat

/-- A member after a period: its output, integrator, derivative term and residue, the sum of its terms without the integrator in units of
2^-150, whether it pushes into a clamp, stands at a clamp, or had its preset cut, and which stages saturated (R371). -/
structure CoxStep where
  out : Nat
  integ : Nat
  d : Nat
  residue : Nat
  terms : Int
  push : Bool
  atHi : Bool
  atLo : Bool
  cut : Bool
  satErr : Bool
  satInt : Bool
  satDer : Bool
  satOut : Bool

/-- One period of a member (R372, R375, R396, R397): `r0` and `r1` are the regions before and after this period's update, `ff` the
feedforward term. What the integrator limits cut of a preset goes to the residue. -/
def memberStep (b : Body) (e l inputQ r0 r1 ff : Nat) (m : CoxMember) : CoxStep :=
  let i := lix e l
  let ei := getF b R.COX_LOOP_EXP.exp_int i
  let ed := getF b R.COX_LOOP_EXP.exp_der i
  let eo := getF b R.COX_LOOP_EXP.exp_out i
  let g := gainsOf b e l r1
  let err := sSub (getF b R.COX_LOOP_EXP.exp_err i) m.ref.1 m.fb
  let old := pdTerms eo ed (gainsOf b e l r0) err.1 m.d m.fbPrev m.fb
  let new := pdTerms eo ed g err.1 m.d m.fbPrev m.fb
  let lo := clampLo b e l
  let hi := clampHi b e l inputQ
  let ilo := getF b R.COX_LOOP_INT_LO.int_lo i
  let ihi := getF b R.COX_LOOP_INT_HI.int_hi i
  let want : Option Int := match m.preset with
    | some applied => some (bfZ applied - bfZ new.1.1 - bfZ new.2.1 - bfZ ff)
    | none => if r0 = r1 then none else some (bfZ m.integ + (bfZ old.1.1 + bfZ old.2.1) - (bfZ new.1.1 + bfZ new.2.1))
  let pre : Nat × Int := match want with
    | none => (m.integ, 0)
    | some z =>
      let w := sRat ei z 1
      let c := bfClamp w ilo ihi
      (c, bfZ w - bfZ c)
  let residue := if pre.2 = 0 then (if m.preset.isSome then 0 else m.residue)
    else sRat eo ((if m.preset.isSome then 0 else bfZ m.residue) + pre.2) 1
  let s1 := sAdd eo new.1.1 pre.1
  let s2 := sAdd eo new.2.1 ff
  let u := sAdd eo s1.1 s2.1
  let ur := sAdd eo u.1 residue
  let ua := bfClamp ur.1 lo hi
  let di := sMul ei g.ki err.1
  let atHi := decide (bfZ ua = bfZ hi)
  let atLo := decide (bfZ ua = bfZ lo)
  let push := (atHi && decide (0 < bfM di.1)) || (atLo && decide (bfM di.1 < 0))
  let acc := sAdd ei pre.1 di.1
  { out := ua, integ := if push then pre.1 else bfClamp acc.1 ilo ihi, d := new.2.1
    residue := towardZero residue (getF b R.COX_LOOP_SLEW.slew i), terms := bfZ new.1.1 + bfZ new.2.1 + bfZ ff, push := push
    atHi := atHi, atLo := atLo, cut := decide (pre.2 ≠ 0), satErr := m.ref.2 || err.2, satInt := di.2 || acc.2, satDer := new.2.2
    satOut := new.1.2 || s1.2 || s2.2 || u.2 || ur.2 }

/-- The model and its filtered residual (R400), in the stage of the feedback (log entry 31); preset on a transfer and a region change. -/
def modelStep (b : Body) (e l r1 : Nat) (preset : Bool) (prev fb : Nat) (x : LoopSample) : Nat × Nat :=
  let ee := getF b R.COX_LOOP_EXP.exp_err (lix e l)
  let g := gainsOf b e l r1
  let fresh := preset || getF b R.COX_REGION.region (lix e l) != r1
  let w := if loopKind b e l = 0 ∨ loopKind b e l = 4 then x.dist else 0
  let ym := if fresh then fb else (sAdd ee (sAdd ee (sMul ee g.ma (loop b e l).yModel).1 (sMul ee g.mb prev).1).1 (sMul ee g.mc w).1).1
  let rs := getF b R.COX_PLAUS_RES.res (lix e l)
  (ym, if fresh then 0 else (sAdd ee rs (sMul ee (bfRat 1 16) (sSub ee (bfAbs (sSub ee fb ym).1) rs).1).1).1)

/-- The registers, counts and sticky flags of a period (R371, R372, R399, R400): `ms` are the steps of its running members, the first of
which the registers show (log entry 32). -/
def notePeriod (e l r1 ref integ res : Nat) (ms : List CoxStep) (b : Body) : Body :=
  let i := lix e l
  let some_ := fun (f : CoxStep → Bool) => ms.any f
  let b := setF b R.COX_LOOP_REF.ref i ref
  let b := setF b R.COX_LOOP_INT.integ i integ
  let b := setF b R.COX_REGION.region i r1
  let b := setF b R.COX_PLAUS_RES.res i res
  let b := setF b R.COX_SUP_STATUS.sat_count i (if some_ (·.push) then min (getF b R.COX_SUP_STATUS.sat_count i + 1) 65535 else 0)
  let b := setF b R.COX_SUP_STATUS.plaus_count i
    (if bfLt (getF b R.COX_PLAUS_THR.thr i) res then min (getF b R.COX_SUP_STATUS.plaus_count i + 1) 65535 else 0)
  let b := loopFlag R.COX_LOOP_FLAGS.sat_err e l (some_ (·.satErr)) b
  let b := loopFlag R.COX_LOOP_FLAGS.sat_int e l (some_ (·.satInt)) b
  let b := loopFlag R.COX_LOOP_FLAGS.sat_der e l (some_ (·.satDer)) b
  let b := loopFlag R.COX_LOOP_FLAGS.sat_out e l (some_ (·.satOut)) b
  let b := loopFlag R.COX_LOOP_FLAGS.clamp_hi e l (some_ (·.atHi)) b
  let b := loopFlag R.COX_LOOP_FLAGS.clamp_lo e l (some_ (·.atLo)) b
  loopFlag R.COX_LOOP_FLAGS.handover_clamp e l ((loop b e l).handover && some_ (·.cut)) b

/-- The members that a rail balances: each running member is driven toward the mean of the running members (R368, R369); a member that
does not run keeps what it has. -/
def balanceMembers (b : Body) (e l inputQ r0 r1 ff : Nat) (preset : Bool) (fbs : List Nat) : List (Nat × CoxStep) :=
  let s := loop b e l
  let run := runningPhases b e l
  let mean := if run.isEmpty then 0
    else sRat (getF b R.COX_LOOP_EXP.exp_err (lix e l)) ((run.map (fun k => bfZ (nth fbs k))).foldl (· + ·) 0) run.length
  run.map (fun k => (k, memberStep b e l inputQ r0 r1 ff
    ⟨(mean, false), nth fbs k, nth s.fbs k, nth s.ds k, nth s.integs k, nth s.residues k, if preset then some (nth s.trims k) else none⟩))

/-- What the members of a balance keep (R368): per-member trims, integrators, derivative terms, residues and feedbacks. -/
def keepMembers (e l : Nat) (fbs : List Nat) (ms : List (Nat × CoxStep)) (b : Body) : Body :=
  let put := fun (old : List Nat) (f : CoxStep → Nat) => (List.range (railPhases e l)).map (fun k => match ms.find? (fun m => m.1 == k) with
    | some m => f m.2
    | none => nth old k)
  updLoop e l (fun t => { t with trims := put t.trims (·.out), integs := put t.integs (·.integ), ds := put t.ds (·.d)
                                 residues := put t.residues (·.residue), fbs := fbs }) b

/-- The core rail of a link die balances its two phases within its own slot, once per period (R369); their currents follow the
rail's own sample. The spec gives this balance no gains of its own: it takes those of the slot (log entry 32). -/
def pairBalance (e l inputQ r0 r1 : Nat) (x : LoopSample) (b : Body) : Body :=
  if 18 ≤ e ∧ railPhases e l = 2 ∧ 2 < x.primary.length then
    keepMembers e l (x.primary.drop 1) (balanceMembers b e l inputQ r0 r1 0 false (x.primary.drop 1)) b
  else b

/-- One period of a loop in auto that is not a balance loop (R372, R374, R375, R384, R396-R400). -/
def autoPeriod (e l fb : Nat) (x : LoopSample) (b : Body) : Body :=
  let i := lix e l
  let s := loop b e l
  let ref := loopRef b e l
  let r0 := getF b R.COX_REGION.region i
  let bands := regionStep b e l x.inputQ
  let r1 := 4 * bands.1 + bands.2
  let ff := ffStep b e l
  let m := memberStep b e l x.inputQ r0 r1 ff.1 ⟨ref, fb, s.fbPrev, s.d, getF b R.COX_LOOP_INT.integ i, s.residue, s.preset⟩
  let y := modelStep b e l r1 s.preset.isSome (getF b R.COX_LOOP_OUT.out i) fb x
  let b := notePeriod e l r1 ref.1 m.integ y.2 [m] (pairBalance e l x.inputQ r0 r1 x b)
  let b := updLoop e l (fun t => { t with ffNow := ff.2.ffNow, ffLeft := ff.2.ffLeft, fbPrev := fb, d := m.d, residue := m.residue
                                          preset := none, handover := false, yModel := y.1, latest := m.out, inBand := bands.1
                                          loadBand := bands.2, release := t.release - 1 }) b
  let ms := groupMembers b e l
  let soft := if loopSoft b e l then 5 else 2
  if ms.isEmpty then setF (applyOut e l m.out b) R.COX_LOOP_MODE.state i soft
  else match lowestOf b e ms with
    | none => b
    | some k =>
      let out := (loop b e k).latest
      let b := applyOut e l out b
      if k = l then setF b R.COX_LOOP_MODE.state i soft
      else
        let t := bfClamp (sRat (getF b R.COX_LOOP_EXP.exp_int i) (bfZ out - m.terms) 1) (getF b R.COX_LOOP_INT_LO.int_lo i)
          (getF b R.COX_LOOP_INT_HI.int_hi i)
        setF (setF b R.COX_LOOP_INT.integ i t) R.COX_LOOP_MODE.state i 3

/-- One period of a balance loop (R368, R372). The registers of the slot show its first running member (log entry 32). -/
def balancePeriod (e l : Nat) (x : LoopSample) (b : Body) : Body :=
  let i := lix e l
  let s := loop b e l
  let r0 := getF b R.COX_REGION.region i
  let bands := regionStep b e l x.inputQ
  let r1 := 4 * bands.1 + bands.2
  let ff := ffStep b e l
  let ms := balanceMembers b e l x.inputQ r0 r1 ff.1 s.preset.isSome x.primary
  let first := (runningPhases b e l).headD 0
  let fb := nth x.primary first
  let y := modelStep b e l r1 s.preset.isSome (getF b R.COX_LOOP_OUT.out i) fb x
  let mean := if ms.isEmpty then 0
    else sRat (getF b R.COX_LOOP_EXP.exp_err i) (((ms.map (·.1)).map (fun k => bfZ (nth x.primary k))).foldl (· + ·) 0) ms.length
  let b := keepMembers e l x.primary ms (setF b R.COX_LOOP_FB.fb i fb)
  let b := notePeriod e l r1 mean (nth (loop b e l).integs first) y.2 (ms.map (·.2)) b
  let b := updLoop e l (fun t => { t with ffNow := ff.2.ffNow, ffLeft := ff.2.ffLeft, preset := none, handover := false, yModel := y.1
                                          inBand := bands.1, loadBand := bands.2 }) b
  setF (applyOut e l (nth (loop b e l).trims first) b) R.COX_LOOP_MODE.state i 2

/-- A milli-unit two's complement word of a BF value. -/
def bfMilli (scale w : Nat) (x : Nat) : Nat := uint w (rneDiv (bfZ x * scale) (2 ^ 150))

/-- The storage port's own readings follow its samples (R395, R452). -/
def notePort (e l fb : Nat) (b : Body) : Body :=
  if e = 17 ∧ l = 1 then setF b R.STP_PACK_I.ma 0 (bfMilli 1000 32 fb)
  else if e = 17 ∧ l = 3 then setF b R.STP_PACK_V.mv 0 (bfMilli 1000 18 fb)
  else if e = 17 ∧ l = 4 then setF b R.STP_TEMP.centi_c 0 (bfMilli 100 16 fb)
  else b

/-- The feedback of this period: the primary sense, or the fallback with, on a rail, the drop across the path (R402). -/
def loopFb (b : Body) (e l : Nat) (x : LoopSample) : Nat :=
  if flagF b R.COX_LOOP_CFG.sense_fallback (lix e l) then
    if loopKind b e l = 0 then
      (sAdd (getF b R.COX_LOOP_EXP.exp_err (lix e l)) x.fallback
        (sMul (getF b R.COX_LOOP_EXP.exp_err (lix e l)) x.dist (getF b R.COX_LOOP_RPATH.rpath (lix e l))).1).1
    else x.fallback
  else nth x.primary 0

/-- Does a loop have a fallback sense (R368, R369)? -/
def hasFallback (b : Body) (e l : Nat) : Bool := loopKind b e l == 0 || loopKind b e l == 4

/-- The loops that share the actuator of a loop (R397). -/
def actuatorLoops (e l : Nat) : List Nat :=
  if e = 16 ∧ (l = 0 ∨ l = 2) then [0, 2] else if e = 17 ∧ (l = 0 ∨ l = 1 ∨ l = 3) then [0, 1, 3] else [l]

/-- The loops that own the actuator of a loop beside it: those of its competition group take no part in a transfer (R397, R398). -/
def actuatorOwners (b : Body) (e l : Nat) : List Nat :=
  (actuatorLoops e l).filter (fun k => k != l && loopMode b e k != 0 && (loop b e k).taking.isNone
    && !(getF b R.COX_LOOP_CFG.group (lix e l) != 0 && getF b R.COX_LOOP_CFG.group (lix e k) == getF b R.COX_LOOP_CFG.group (lix e l)))

/-- A loop is off. -/
def loopOff (e l : Nat) (b : Body) : Body :=
  updLoop e l (fun s => { s with taking := none }) (setF (setF b R.COX_LOOP_MODE.mode (lix e l) 0) R.COX_LOOP_MODE.state (lix e l) 0)

/-- The actuator passes to a loop at its own next period (R397): the former owner is off, and the preset starts from the value it last
applied. -/
def takeActuator (e l : Nat) (b : Body) : Body :=
  match (loop b e l).taking with
  | none => b
  | some k =>
    let owners := actuatorOwners b e l
    let applied := getF b R.COX_LOOP_OUT.out (lix e (owners.headD k))
    updLoop e l (fun s => { s with taking := none, handover := true, preset := some applied }) (forEach owners (loopOff e) b)

/-- A loop computes in its mode. -/
def runMode (e l : Nat) (x : LoopSample) (b : Body) : Body :=
  let i := lix e l
  let fb := loopFb b e l x
  match loopMode b e l with
  | 2 =>
    let b := takeActuator e l b
    match (loop b e l).held with
    | some out =>
      let out := if e = 16 ∧ (l = 0 ∨ l = 2) then bfMin out (cellCurrent (inputLimitW b) x.inputQ) else out
      setF (applyOut e l out (updLoop e l (fun s => { s with heldFor := s.heldFor + 1 }) b)) R.COX_LOOP_MODE.state i 4
    | none => if loopKind b e l = 1 then balancePeriod e l x b else autoPeriod e l fb x (setF b R.COX_LOOP_FB.fb i fb)
  | 1 =>
    let out := bfClamp (towardValue (getF b R.COX_LOOP_OUT.out i) (getF b R.COX_LOOP_MANUAL.manual i) (getF b R.COX_LOOP_SLEW.slew i))
      (clampLo b e l) (clampHi b e l x.inputQ)
    let b := updLoop e l (fun s => { s with fbPrev := fb, latest := out, fbs := x.primary
                                            trims := if loopKind b e l = 1 then List.replicate (railPhases e l) out else s.trims })
      (setF b R.COX_LOOP_FB.fb i fb)
    setF (applyOut e l out b) R.COX_LOOP_MODE.state i 1
  | _ => b

/-- A loop goes on with a sense that has become fresh, by the bumpless rule (R396, R402). -/
def resumeSense (e l : Nat) (fallback : Bool) (b : Body) : Body :=
  let b := updLoop e l (fun s => { s with held := none, heldFor := 0, preset := some (getF b R.COX_LOOP_OUT.out (lix e l)) }) b
  setFlag b R.COX_LOOP_CFG.sense_fallback (lix e l) fallback

/-- Fresh samples return a loop to its primary sense; a fresh fallback takes a loop that holds its output (R402). -/
def noteFresh (e l : Nat) (x : LoopSample) (b : Body) : Body :=
  let b := updLoop e l (fun s => { s with stale := if x.fresh then 0 else s.stale + 1 }) b
  if x.fresh then
    if flagF b R.COX_LOOP_CFG.sense_fallback (lix e l) ∨ (loop b e l).held.isSome then resumeSense e l false b else b
  else if (loop b e l).held.isSome ∧ hasFallback b e l ∧ x.fallbackFresh then
    loopFlag R.COX_LOOP_FLAGS.fallback_sense e l true (resumeSense e l true b)
  else b

/-- The core reference in force of a die in mV (R390). -/
def coreMv (b : Body) (e : Nat) : Nat := (bfZ (getF b R.COX_LOOP_REF.ref (lix e 0)) * 1000 / 2 ^ 150).toNat

/-- A BF value as a clock code, rounded to nearest-even (R388). -/
def codeOf (w : Nat) : Nat := (rneDiv (bfZ w) (2 ^ 150)).toNat

/-- The lowest ceiling in force on a die's clocks (R389, R390). -/
def clockCeiling (b : Body) (e : Nat) : Nat :=
  let t := if loopMode b e 4 = 2 then codeOf (getF b R.COX_LOOP_OUT.out (lix e 4)) else 511
  let bl := if b.cox.path.busLow then getF b R.COX_CLK_CFG.bus_low_code e else 511
  let fz := if (engine b e).thermalFrozen ∨ (loop b e 4).held.isSome then getF b R.COX_CLK_CFG.frozen_code e else 511
  min (min t (getF b R.COX_CLK_CEIL.force e)) (min (min bl fz) (vfLimit b e (coreMv b e)))

/-- Write the applied codes where they change (R388). -/
def applyClocks (e st seg : Nat) (b : Body) : Body :=
  let b := if getF b R.COX_CLK_CEIL.applied e = st then b
    else forEach (dieStations (setF b R.COX_CLK_CEIL.applied e st) e) (fun x b => clkTarget (.station x) st b) (setF b R.COX_CLK_CEIL.applied e st)
  if (engine b e).segCode = seg then b else clkTarget (.segment e 0) seg (updEngine e (fun g => { g with segCode := seg }) b)

/-- The generators' clocks under the ceilings, at a tick (R388). -/
def clockTick (e : Nat) (b : Body) : Body :=
  if 16 ≤ e ∨ !engineRuns b e then b
  else
    let c := clockCeiling b e
    applyClocks e (min (codeOf (getF b R.COX_PG_POS.x (pix e 2))) c) (min (codeOf (getF b R.COX_PG_POS.x (pix e 3))) c) b

/-- Set a generator at rest at a position (R378). -/
def pgPut (e k x : Nat) (b : Body) : Body :=
  setFlag (setF (setF (setF b R.COX_PG_POS.x (pix e k) x) R.COX_PG_VEL.v (pix e k) 0) R.COX_PG_ACC.a (pix e k) 0) R.COX_PG_CTRL.moving (pix e k)
    (decide (bfZ x ≠ bfZ (getF b R.COX_PG_TARGET.target (pix e k))))

/-- Ceilings have changed (R389): a lower one acts at once; where the applied code would rise, the generators are preset to
the applied codes and climb from there. -/
def ceilingsChanged (e : Nat) (b : Body) : Body :=
  if 16 ≤ e ∨ !engineRuns b e then b
  else
    let old := getF b R.COX_CLK_CEIL.applied e
    let c := clockCeiling b e
    if old < min (codeOf (getF b R.COX_PG_POS.x (pix e 2))) c then
      pgPut e 3 (bfRat (engine b e).segCode 1) (pgPut e 2 (bfRat old 1) b)
    else clockTick e b

/-- Is a generator at rest (R378)? -/
def pgRests (b : Body) (e k : Nat) : Bool :=
  bfM (getF b R.COX_PG_VEL.v (pix e k)) == 0 && bfM (getF b R.COX_PG_ACC.a (pix e k)) == 0

/-- Is a lowering of the core generator's target held back by the clock (R390)? -/
def vfHolds (b : Body) (e k : Nat) : Bool :=
  decide (e < 16 ∧ k = 0) && flagF b R.COX_CLK_CFG.vf_order e && pgRests b e k
    && bfLt (getF b R.COX_PG_TARGET.target (pix e k)) (getF b R.COX_PG_POS.x (pix e k))
    && decide (vfLimit b e ((bfZ (getF b R.COX_PG_TARGET.target (pix e k)) * 1000 / 2 ^ 150).toNat) < getF b R.COX_CLK_CEIL.applied e)

/-- The motion of a generator in one tick (R377): position, velocity, acceleration. -/
def pgMove (x v a target vl al jl h : Nat) : Nat × Nat × Nat :=
  let d := bfSub target x
  let ad := bfAbs d
  let two := bfRat 2 1
  let aa := bfMul al al
  let jj := bfMul jl jl
  let vb := if bfLe ad (bfDiv (bfMul aa al) jj) then bfCbrt (bfMul jl (bfMul ad ad))
    else bfMul al (bfSub (bfSqrt (bfAdd (bfDiv aa (bfMul (bfRat 4 1) jj)) (bfDiv (bfMul two ad) al))) (bfDiv al (bfMul two jl)))
  let vd := bfSigned (bfSign d) (bfMin vl vb)
  let ev := bfSub vd v
  let ta := bfSigned (bfSign ev) (bfMin al (bfSqrt (bfMul two (bfMul jl (bfAbs ev)))))
  let j := bfClamp (bfDiv (bfSub ta a) h) (bfNeg jl) jl
  let hh := bfMul h h
  let x1 := bfAdd (bfAdd (bfAdd x (bfMul v h)) (bfDiv (bfMul a hh) two)) (bfDiv (bfMul j (bfMul hh h)) (bfRat 6 1))
  let v1 := bfClamp (bfAdd (bfAdd v (bfMul a h)) (bfDiv (bfMul j hh) two)) (bfNeg vl) vl
  let a1 := bfAdd a (bfMul j h)
  let left := bfSub target x1
  let jh := bfMul jl h
  if bfZ left * bfZ d ≤ 0 ∨ (bfLe (bfAbs left) (bfMul jh hh) ∧ bfLe (bfAbs v1) (bfMul jh h) ∧ bfLe (bfAbs a1) jh) then (target, 0, 0)
  else (x1, v1, a1)

/-- The tick period of a generator in seconds (R379). -/
def pgH (b : Body) (e k : Nat) : Nat := bfRat (getF b R.COX_PG_CTRL.tick_us (pix e k)) 1000000

/-- The effect of a tick on the position (R377, R378, R394). -/
def pgTick (e k : Nat) (b : Body) : Body :=
  let i := pix e k
  let b := if pgRests b e k then
      setPgLim e k ⟨getF b R.COX_PG_VLIM.v i, getF b R.COX_PG_ALIM.a i, getF b R.COX_PG_JLIM.j i⟩ b else b
  let lim := pgLim b e k
  let x := getF b R.COX_PG_POS.x i
  let n := if bfM lim.v = 0 ∨ bfM lim.a = 0 ∨ bfM lim.j = 0 ∨ flagF b R.COX_PG_CTRL.hold i ∨ vfHolds b e k then (x, 0, 0)
    else pgMove x (getF b R.COX_PG_VEL.v i) (getF b R.COX_PG_ACC.a i) (getF b R.COX_PG_TARGET.target i) lim.v lim.a lim.j (pgH b e k)
  let cap := getF b R.COX_CAP.cap_w 16
  let n := if e = 16 ∧ k = 0 ∧ cap ≠ 0 ∧ getF b R.COX_PG_CTRL.owner i = 3 ∧ bfLt (bfRat cap 1) n.1 then (bfRat cap 1, 0, 0) else n
  let b := setF (setF (setF b R.COX_PG_POS.x i n.1) R.COX_PG_VEL.v i n.2.1) R.COX_PG_ACC.a i n.2.2
  let b := setFlag b R.COX_PG_CTRL.moving i (decide (bfM n.2.1 ≠ 0) || decide (bfM n.2.2 ≠ 0) || decide (bfZ n.1 ≠ bfZ (getF b R.COX_PG_TARGET.target i)))
  if k = 2 ∨ k = 3 then clockTick e b else b

/-- A new target (R378, R415): it clears done. -/
def pgTarget (e k target : Nat) (b : Body) : Body :=
  setFlag (setFlag (setF b R.COX_PG_TARGET.target (pix e k) target) R.COX_PG_CTRL.done (pix e k) false) R.COX_PG_CTRL.moving (pix e k)
    (decide (bfZ target ≠ bfZ (getF b R.COX_PG_POS.x (pix e k))))

/-- The owner changes only through free (R379). -/
def pgOwner (e k owner : Nat) (b : Body) : Body :=
  let cur := getF b R.COX_PG_CTRL.owner (pix e k)
  if 5 < owner ∨ cur = owner then b
  else if cur ≠ 0 ∧ owner ≠ 0 then setFlag b R.COX_EVENTS.claim_refused e true
  else setF b R.COX_PG_CTRL.owner (pix e k) owner

/-- Preset a generator (R378). -/
def pgPreset (e k x : Nat) (b : Body) : Body := pgPut e k x (setF b R.COX_PG_PRESET.preset (pix e k) x)

/-- A loop's mode is written (R367, R372, R396-R398): a loop whose actuator another owns takes it at its next period. -/
def loopModeWrite (e l m : Nat) (b : Body) : Body :=
  let i := lix e l
  if !slotPresent b e l ∨ 2 < m then b
  else
    let cur := loopMode b e l
    let b := if m = 1 ∧ cur = 2 then setF b R.COX_LOOP_MANUAL.manual i (getF b R.COX_LOOP_OUT.out i) else b
    let auto := fun (f : CoxLoop → CoxLoop) => updLoop e l (fun s => f { s with ffNow := getF b R.COX_LOOP_FF.ff i, ffLeft := 0, ffLen := 0 }) b
    let b := if m = 2 ∧ cur ≠ 2 then
        match (actuatorOwners b e l).head? with
        | some k => auto (fun s => { s with taking := some k })
        | none =>
          if cur = 1 then auto (fun s => { s with preset := some (getF b R.COX_LOOP_OUT.out i), handover := false })
          else setF (auto (fun s => { s with preset := none, residue := 0, integs := [], residues := [] })) R.COX_LOOP_INT.integ i 0
      else if m ≠ 2 then updLoop e l (fun s => { s with taking := none }) b else b
    setF (setF b R.COX_LOOP_MODE.mode i m) R.COX_LOOP_MODE.state i (if m = 2 ∧ loopSoft b e l then 5 else m)

/-- The running phases of an engine's shedding rail, as its status shows them (R416). -/
def setRunning (e : Nat) (ps : List Nat) (b : Body) : Body :=
  setF (setF b R.COX_SHED_STATUS.running e (ps.foldl (fun m p => setBit m p true) 0)) R.COX_SHED_STATUS.count e ps.length

/-- The engines that shed phases (R385). -/
def shedEngines : List Nat := List.range 16 ++ [17]

/-- Every phase of the shedding rail that is not removed (R383, R385). -/
def allPhases (b : Body) (e : Nat) : List Nat := (List.range (railPhases e 0)).filter (fun p => !(engine b e).removed.contains p)

/-- A shed in progress ends without effect (R386, R387). -/
def abortShed (e : Nat) (b : Body) : Body :=
  if (engine b e).shedPhase.isSome then
    addSat (setFlag (updEngine e (fun g => { g with shedPhase := none }) b) R.COX_SHED_STATUS.shedding e false) R.COX_SHED_COUNT.aborts e 1
  else b

/-- Is shedding inhibited (R386, R416)? -/
def shedInhibited (b : Body) (e : Nat) : Bool :=
  flagF b R.COX_STATUS.inhibit e || b.cox.path.busLow || loopSoft b e 0
    || flagF b R.COX_LOOP_CFG.sense_fallback (lix e 0) || (loop b e 0).held.isSome
    || (match (engine b e).stepAt with
        | some t => decide (b.now < t + 2000 * getF b R.COX_SHED_CFG.holdoff_us e)
        | none => false)

/-- May a shed start (R385, R386, R412, R416)? -/
def shedAllowed (b : Body) (e : Nat) : Bool := flagF b R.COX_CTRL.shed_en e && flagF b R.COX_SHED_CFG.en e && !shedInhibited b e

/-- Every phase of an engine's shedding rail runs (R383, R412); a shed in progress is aborted. -/
def runAllPhases (e : Nat) (b : Body) : Body := if shedEngines.contains e then setRunning e (allPhases b e) (abortShed e b) else b

/-- The catch warning rises at every engine (R383, R410). -/
def coxWarning (b : Body) : Body :=
  forEach (List.range 20) (fun e b =>
    let b := setFlag (setFlag b R.COX_STATUS.warn e true) R.COX_STATUS.inhibit e true
    runAllPhases e (updEngine e (fun g => { g with warnAt := some b.now }) b)) b

/-- Every loop's feedforward takes an edge (R384). -/
def ffEdges (f : Field) (b : Body) : Body :=
  forEach (List.range 320) (fun i b => if flagF b R.COX_LOOP_CFG.present i then ffEdge (i / 16) (i % 16) (getF b f i) b else b) b

/-- Drive rises at every engine (R383, R384). -/
def coxCatch (b : Body) : Body :=
  let b := forEach (List.range 20) (fun e b =>
    let ok := match (engine b e).warnAt with
      | some t => decide (b.now ≤ t + 1000 * getF b R.COX_WARN_CFG.warn_timeout_us e)
      | none => false
    let b := if ok then b else setFlag b R.COX_EVENTS.warn_missing e true
    let b := updEngine e (fun g => { g with warnAt := none, featherAt := none }) b
    setFlag (setFlag (setFlag b R.COX_STATUS.warn e false) R.COX_STATUS.drive e true) R.COX_STATUS.feather e false) b
  ffEdges R.COX_FF_DRIVE.ff_drive b

/-- Drive falls and feather rises at every engine (R383, R384). -/
def coxDriveEnd (b : Body) : Body :=
  let b := forEach (List.range 20) (fun e b =>
    setFlag (setFlag (updEngine e (fun g => { g with featherAt := some b.now }) b) R.COX_STATUS.drive e false) R.COX_STATUS.feather e true) b
  ffEdges R.COX_FF_FEATHER.ff_feather b

/-- The cap is written (R394, R412): values that are neither 0 nor 1 200 to 10 500 W are discarded. -/
def capWrite (w : Nat) (b : Body) : Body :=
  if w ≠ 0 ∧ (w < 1200 ∨ 10500 < w) then b
  else
    let b := setFlag (setFlag (setF b R.COX_CAP.cap_w 16 w) R.COX_CAP.reached 16 false) R.LDG_STATUS.cap_active 0 (w != 0)
    if w ≠ 0 ∧ getF b R.COX_PG_CTRL.owner (pix 16 0) = 3 ∧ bfLt (bfRat w 1) (getF b R.COX_PG_POS.x (pix 16 0)) then pgPut 16 0 (bfRat w 1) b else b

/-- The soft-start of a generator's block begins (R380, R381): limits, preset at the measured voltage, target, loops to
auto. -/
def softStart (e k : Nat) (target v a j : Nat) (b : Body) : Body :=
  let i := pix e k
  let ls := (List.range 16).filter (fun l => loopPg b e l == some k)
  let meas := match ls with
    | l :: _ => bfDiv (getF b R.COX_LOOP_FB.fb (lix e l)) (getF b R.COX_LOOP_SCALE.scale (lix e l))
    | [] => 0
  let b := pgOwner e k 1 b
  let b := setF (setF (setF b R.COX_PG_VLIM.v i v) R.COX_PG_ALIM.a i a) R.COX_PG_JLIM.j i j
  let b := pgTarget e k target (pgPreset e k meas (setFlag b R.COX_PG_CTRL.hold i false))
  forEach ls (fun l b => loopModeWrite e l 2 b) b

end Sys2Proof.Machine
end

