-- ==== Sys2Proof/Machine/LedgerOps.lean ====
section
/-! DEFINITION. The energy ledger's accounts, forecasts, decisions and operating points (R418-R449). Its forecasts are exact
rational arithmetic, cut to whole mJ where the spec's code has integers (log entry 34). -/

namespace Sys2Proof.Machine

/-- Update the ledger. -/
def updLedger (f : Ledger → Ledger) (b : Body) : Body := { b with ledger := f b.ledger }

/-- Cut toward zero, as the conversion to an integer does. -/
def cutQ (q : Rat) : Int := if q < 0 then -(-q).floor else q.floor

/-- Efficiencies (R431). -/
def etaIn (b : Body) : Rat := (getF b R.LDG_CFG3.eta_in 0 : Rat) / 1000
/-- The port's efficiency. -/
def etaPort (b : Body) : Rat := (getF b R.LDG_CFG3.eta_port 0 : Rat) / 1000

/-- The pack side of an input-referred surplus (R431). -/
def packDelta (b : Body) (x : Rat) : Rat := if 0 ≤ x then x * etaIn b * etaPort b else x * etaIn b / etaPort b

/-- The pack side of an energy in whole mJ (R431). -/
def packDeltaMj (b : Body) (x : Int) : Int := cutQ (packDelta b x)

/-- The reserve in mJ (R420). -/
def eRes (b : Body) : Int := getF b R.LDG_RESERVE.reserve_mj 0
/-- The isolation level in mJ. -/
def eStop (b : Body) : Int := getF b R.LDG_CFG2.stop_kj 0 * 1000000
/-- The floor in mJ: the reserve and its margin (R420). -/
def eFloorSet (b : Body) : Int := eRes b + getF b R.LDG_CFG.margin_kj 0 * 1000000
/-- The protected level in mJ: e_stop while the input is absent (R444). -/
def eFloor (b : Body) : Int :=
  if b.cox.path.inputAbsent then eStop b else eFloorSet b
/-- The trim point in mJ; e_floor while a drain steers to it (R420, R449). -/
def eTrim (b : Body) : Int :=
  if b.rack.drain ≠ 0 then eFloor b else (getF b R.LDG_ECAP.ecap_mj 0 * getF b R.LDG_LEVEL.trim_pct 0 / 100 : Nat)
/-- The full level in mJ. -/
def eFull (b : Body) : Int := (getF b R.LDG_ECAP.ecap_mj 0 : Int) - getF b R.LDG_CFG2.full_margin_kj 0 * 1000000

/-- The stored energy follows the pack-side accumulators, in whole mJ (R421). -/
def trackE0 (b : Body) : Body :=
  let d := (getF b R.LDG_ACC_PACK_DIS.uj 0 + 2 ^ 64 - b.ledger.markDis) % 2 ^ 64 / 1000
  let c := (getF b R.LDG_ACC_PACK_CHG.uj 0 + 2 ^ 64 - b.ledger.markChg) % 2 ^ 64 / 1000
  updLedger (fun l => { l with markDis := (l.markDis + d * 1000) % 2 ^ 64, markChg := (l.markChg + c * 1000) % 2 ^ 64 })
    (setF b R.LDG_E0.e0_mj 0 (getF b R.LDG_E0.e0_mj 0 + c - d))

/-- The stored energy that decisions use (R421): 720 J less for each second since a sweep that has gone stale. -/
def e0Used (b : Body) : Int :=
  (getF b R.LDG_E0.e0_mj 0 : Int)
    - if flagF b R.LDG_STATUS.stale_sweep 0 then ((b.now - b.ledger.sweepAt) * 720000 / 1000000000 : Nat) else 0

/-- The motion of PG0 of COX16 in mW, tick by tick until it rests (R377, R433). -/
def fcMove (lim : CoxPg) (target h : Nat) (cap : Option Nat) : Nat → Nat × Nat × Nat → List Int
  | 0, _ => []
  | n + 1, p =>
    let q := pgMove p.1 p.2.1 p.2.2 target lim.v lim.a lim.j h
    let q := match cap with
      | some c => if bfLt c q.1 then (c, 0, 0) else q
      | none => q
    let x : Int := bfZ q.1 * 1000 / (2 ^ 150 : Int)
    if q = p ∨ (bfM q.2.1 = 0 ∧ bfM q.2.2 = 0) then [x] else x :: fcMove lim target h cap n q

/-- The forecast input in mW per tick from now (R433): none while the input is absent. -/
def forecast (b : Body) : List Int :=
  if b.cox.path.inputAbsent then []
  else
    let i := pix 16 0
    let lim : CoxPg := if pgRests b 16 0 then ⟨getF b R.COX_PG_VLIM.v i, getF b R.COX_PG_ALIM.a i, getF b R.COX_PG_JLIM.j i⟩ else pgLim b 16 0
    let cap := getF b R.COX_CAP.cap_w 16
    let capQ := if cap = 0 then none else some (bfRat cap 1)
    let p := (getF b R.COX_PG_POS.x i, getF b R.COX_PG_VEL.v i, getF b R.COX_PG_ACC.a i)
    let start : Int := bfZ p.1 * 1000 / (2 ^ 150 : Int)
    let start := if cap = 0 then start else min start (cap * 1000 : Nat)
    if bfM lim.v = 0 ∨ bfM lim.a = 0 ∨ bfM lim.j = 0 ∨ flagF b R.COX_PG_CTRL.hold i then [start]
    else start :: fcMove lim (getF b R.COX_PG_TARGET.target i) (pgH b 16 0) capQ 4000000 p

/-- The forecast energy in nJ from one instant to another, in µs from now; the last tick goes on. -/
def fcEnergyGo (h : Nat) (t0 t1 : Rat) : Nat → List Int → Rat
  | _, [] => 0
  | a, [x] => x * max 0 (t1 - max t0 a)
  | a, x :: xs => x * max 0 (min t1 (a + h) - max t0 a) + fcEnergyGo h t0 t1 (a + h) xs

/-- The average forecast input over a window, in W. -/
def fcPower (b : Body) (ps : List Int) (t0 t1 : Rat) : Rat :=
  if t1 ≤ t0 then 0 else fcEnergyGo (max 1 (getF b R.COX_PG_CTRL.tick_us (pix 16 0))) t0 t1 0 ps / (t1 - t0) / 1000

/-- PG0 is steady: at rest, or held at the cap ceiling (R433). -/
def pg0Steady (b : Body) : Bool :=
  let cap := getF b R.COX_CAP.cap_w 16
  !flagF b R.COX_PG_CTRL.moving (pix 16 0) || (cap != 0 && bfLe (bfRat cap 1) (getF b R.COX_PG_POS.x (pix 16 0)))

/-- The energy profile of a stroke kind (R245, R429). -/
def profileOf (b : Body) (k : StrokeKind) : Option EnergyProfile := b.flock.plan.bind (fun p => p.energy[k.profile]?)

/-- A stroke's windows and works in µs at a period and point (R431). -/
structure Windows where
  drive : Rat
  feather : Rat
  work : Rat
  feat : Rat
  length : Rat
deriving DecidableEq

/-- Does a point fit a period (R431)? -/
def fits (k : StrokeKind) (p : OpPoint) (t : Nat) : Bool := decide (320 * k.nominalUs ≤ p.code * t)

/-- The windows of a stroke. -/
def windows (k : StrokeKind) (p : OpPoint) (t : Nat) : Windows :=
  let sf := (t : Rat) / k.nominalUs
  let work := (k.driveUs : Rat) * 320 / p.code
  let feat := ((k.nominalUs - k.driveUs : Nat) : Rat)
  if fits k p t then ⟨k.driveUs * sf, feat * sf, work, feat, t⟩ else ⟨work, feat, work, feat, work + feat⟩

/-- The fitting point of lowest code, or the point of highest code where none fits. -/
def slowestFit (e : EnergyProfile) (k : StrokeKind) (t : Nat) : Nat :=
  match e.points.findIdx? (fits k · t) with
  | some i => i
  | none => e.points.length - 1

/-- A point of a profile. -/
def pointAt (e : EnergyProfile) (i : Nat) : OpPoint := e.points.getD i ⟨320, 750, 0, 0, 0⟩

/-- The drive's need in µJ (R431). -/
def needDrive (p : OpPoint) (w : Windows) : Rat := p.pDrive * w.work + p.pWait * (w.drive - w.work)
/-- The feather's need in µJ. -/
def needFeather (e : EnergyProfile) (p : OpPoint) (w : Windows) : Rat := (e.eFeather : Rat) * 1000 + p.pWait * (w.feather - w.feat)

/-- What the pack takes of a window in mJ, from an average input and a need. -/
def windowPack (b : Body) (input len need : Rat) : Int := packDeltaMj b (cutQ ((input * len - need) / 1000))

/-- What the pack takes of a stroke's drive and feather that starts so many µs from now. -/
def strokeParts (b : Body) (ps : List Int) (e : EnergyProfile) (p : OpPoint) (w : Windows) (t0 : Rat) : Int × Int :=
  (windowPack b (fcPower b ps t0 (t0 + w.drive)) w.drive (needDrive p w),
   windowPack b (fcPower b ps (t0 + w.drive) (t0 + w.drive + w.feather)) w.feather (needFeather e p w))

/-- The storage port's load at the bus for a segment of a power against an input (R434). -/
def portLoad (b : Body) (x input : Rat) : Rat := max (x - input) (input - x) * etaIn b

/-- No segment makes the port exceed its limit (R434). -/
def portOk (b : Body) (ps : List Int) (e : EnergyProfile) (p : OpPoint) (w : Windows) (t0 : Rat) : Bool :=
  let lim := (getF b R.LDG_CFG3.port_w 0 * 10 : Nat)
  let d := fcPower b ps t0 (t0 + w.drive)
  let f := fcPower b ps (t0 + w.drive) (t0 + w.drive + w.feather)
  decide (portLoad b p.pDrive d ≤ lim) && (decide (w.drive = w.work) || decide (portLoad b p.pWait d ≤ lim))
    && (decide (w.feat = 0) || decide (portLoad b (e.eFeather * 1000 / w.feat) f ≤ lim))
    && (decide (w.feather = w.feat) || decide (portLoad b p.pWait f ≤ lim))

/-- The least stored energy at the end of any drive within the horizon (R434). -/
def horizonMin (b : Body) (ps : List Int) (e : EnergyProfile) (p : OpPoint) (w : Windows) (e1 : Int) (t0 : Rat) : Int :=
  let hz : Rat := getF b R.LDG_CFG.horizon_ms 0 * 1000
  let n := if w.length ≤ 0 then 2 else max 2 (1 + ((hz - w.drive) / w.length).floor.toNat)
  ((List.range n).foldl (fun (acc : Int × Option Int) (j : Nat) =>
    let parts := strokeParts b ps e p w (t0 + j * w.length)
    let ed := acc.1 + parts.1
    (ed + parts.2, some (match acc.2 with
      | some m => min m ed
      | none => ed))) (e1, none)).2.getD e1

/-- The stroke kind in flight, or of the run that is armed. -/
def kindInFlight (b : Body) : Option StrokeKind :=
  let k := match b.flock.inFlight with
    | some x => x.kind
    | none => b.flock.runKind
  b.flock.plan.bind (fun p => p.kinds[k]?)

/-- The operating point in force (R439). -/
def pointNow (b : Body) (e : EnergyProfile) : OpPoint := pointAt e (getF b R.LDG_STATUS.point 0)

/-- The instant of the next catch in µs from now, and the stored energy at it (R434): the rest of the stroke in flight at its
present point, its need spread evenly over each window (log entry 34). -/
def energyAtCatch (b : Body) (ps : List Int) : Rat × Int :=
  match b.flock.inFlight, kindInFlight b with
  | some cur, some k =>
    match profileOf b k with
    | some e =>
      let p := pointNow b e
      let w := windows k p cur.periodUs
      let el : Rat := ((b.now - b.flock.catchAt : Nat) : Rat) / 1000
      let restD := max 0 (w.drive - el)
      let restF := max 0 (w.length - max el w.drive)
      let nd := if w.drive = 0 then 0 else needDrive p w * restD / w.drive
      let nf := if w.feather = 0 then 0 else needFeather e p w * restF / w.feather
      (restD + restF, e0Used b + windowPack b (fcPower b ps 0 restD) restD nd + windowPack b (fcPower b ps restD (restD + restF)) restF nf)
    | none => (0, e0Used b)
  | _, _ => (0, e0Used b)

/-- The forecast keeps the floor, the port and the trim constraint at a period (R434). -/
def periodOk (b : Body) (ps : List Int) (e : EnergyProfile) (k : StrokeKind) (at_ : Rat × Int) (g : Option Rat) (t : Nat) : Bool :=
  let p := pointAt e (slowestFit e k t)
  let w := windows k p t
  let parts := strokeParts b ps e p w at_.1
  portOk b ps e p w at_.1 && decide (eFloor b ≤ horizonMin b ps e p w at_.2 at_.1)
    && (match g with
        | some g => decide (g ≤ ((parts.1 + parts.2 : Int) : Rat))
        | none => true)

/-- Does trim steering apply (R435)? -/
def trimSteers (b : Body) (ps : List Int) (e : EnergyProfile) (k : StrokeKind) (at_ : Rat × Int) : Bool :=
  let p := pointAt e (slowestFit e k k.nominalUs)
  pg0Steady b && !b.cox.path.inputAbsent
    && decide (horizonMin b ps e p (windows k p k.nominalUs) at_.2 at_.1 < eTrim b - getF b R.LDG_CFG.band_kj 0 * 1000000)

/-- The requested period (R434, R442, R444). -/
def choosePeriod (b : Body) (ps : List Int) (e : EnergyProfile) (k : StrokeKind) (at_ : Rat × Int) : Nat :=
  if flagF b R.LDG_STATUS.forced 0 ∨ b.cox.path.inputAbsent then 2000000
  else
    let tn := k.nominalUs
    let step := max 1 (getF b R.LDG_CFG2.period_step_us 0)
    let g := if trimSteers b ps e k at_ then
        some ((cutQ (((eTrim b - at_.2) * tn : Rat) / (getF b R.LDG_CFG.trim_tau_s 0 * 1000000)) : Int) : Rat) else none
    match (List.range ((2000000 - tn) / step + 1)).find? (fun i => periodOk b ps e k at_ g (tn + i * step)) with
    | some i => tn + i * step
    | none => 2000000

/-- The level at which the stroke at its nominal period leaves the stored energy unchanged (R438). -/
def levelWanted (b : Body) (e : EnergyProfile) (k : StrokeKind) : Nat :=
  let p := pointAt e (slowestFit e k k.nominalUs)
  let w := windows k p k.nominalUs
  let hi := getF b R.LDG_ENVELOPE.level_max_w 0
  let ok := fun (x : Nat) => decide (0 ≤ windowPack b x w.drive (needDrive p w) + windowPack b x w.feather (needFeather e p w))
  match (List.range ((hi - 1200) / 10 + 1)).find? (fun i => ok (1200 + 10 * i)) with
  | some i => 1200 + 10 * i
  | none => hi

/-- The power that the module needs at the lowest point and at 2 s periods (R445), in whole W, rounded up. -/
def floorPower (e : EnergyProfile) (k : StrokeKind) : Nat :=
  let p := pointAt e 0
  let w := windows k p 2000000
  if w.length ≤ 0 then 0 else (((needDrive p w + needFeather e p w) / w.length).ceil).toNat

/-- The HEADROOM fields that follow from the stored energy (R436). -/
def writeHeadroom (decision : Nat) (b : Body) : Body :=
  let b := setF b R.LDG_HEADROOM.headroom_mj 0 (min (max 0 ((getF b R.LDG_E0.e0_mj 0 : Int) - eRes b)).toNat (2 ^ 32 - 1))
  let b := setF b R.LDG_STATUS.decision 0 decision
  let b := setFlag b R.LDG_STATUS.cap_active 0 (getF b R.COX_CAP.cap_w 16 != 0)
  setFlag b R.LDG_STATUS.at_reserve 0 (decide (e0Used b ≤ eFloor b) || flagF b R.LDG_STATUS.forced 0)

/-- The ledger's decision (R432, R434, R438, R446). -/
def ledgerDecide (b : Body) : Body :=
  let b := trackE0 b
  match kindInFlight b with
  | none => writeHeadroom 0 b
  | some k =>
    match profileOf b k with
    | none => writeHeadroom 0 b
    | some e =>
      let ps := forecast b
      let at_ := energyAtCatch b ps
      let t := choosePeriod b ps e k at_
      let surplus := decide (eFull b < at_.2)
      let b := setFlag b R.LDG_STATUS.trim_steering 0 (trimSteers b ps e k at_)
      let b := setFlag b R.LDG_STATUS.surplus 0 surplus
      let b := updLedger (fun l => { l with surplusNext := surplus }) b
      let b := setFlag (setF b R.LDG_REQUEST.period_us 0 t) R.LDG_REQUEST.fresh 0 true
      let b := setF b R.LDG_START_DELAY.start_delay_us 0 0
      let b := setF b R.LDG_LEVEL_WANTED.level_w 0 (levelWanted b e k)
      let b := setF b R.LDG_FLOOR.floor_w 0 (min (floorPower e k) 16383)
      writeHeadroom (if k.nominalUs < t then 1 else 0) b

/-- The measured present load, input-referred, in W (R437): the input power and what the port delivers at the bus. -/
def presentLoad (b : Body) : Rat :=
  (sint 32 (getF b R.COX_TLM_AVG1MS.avg (16 * 64 + 2)) : Rat) / 1000 + (sint 32 (getF b R.STP_BUS_P.mw 0) : Rat) / 1000 / etaIn b

/-- Does the forecast stay between its bounds from now to an instant, when the first catch falls at `c` µs from now (R437)? The
wait is taken in pieces of 100 ms. -/
def stageOk (b : Body) (ps : List Int) (e : EnergyProfile) (k : StrokeKind) (rest c : Rat) : Bool :=
  let p := pointAt e (slowestFit e k k.nominalUs)
  let w := windows k p k.nominalUs
  let until_ := max rest c + getF b R.LDG_CFG.horizon_ms 0 * 1000
  let inside := fun (x : Int) => decide (eFloor b ≤ x ∧ x ≤ eFull b)
  let load := presentLoad b
  let waits := (List.range ((c / 100000).ceil.toNat)).foldl (fun (acc : Int × Bool) (i : Nat) =>
    let t0 : Rat := i * 100000
    let t1 := min c (t0 + 100000)
    let x := acc.1 + windowPack b (fcPower b ps t0 t1) (t1 - t0) (load * (t1 - t0))
    (x, acc.2 && inside x)) (e0Used b, true)
  let n := if w.length ≤ 0 then 0 else ((until_ - c) / w.length).ceil.toNat
  ((List.range n).foldl (fun (acc : Int × Bool) (j : Nat) =>
    let parts := strokeParts b ps e p w (c + j * w.length)
    (acc.1 + parts.1 + parts.2, acc.2 && inside (acc.1 + parts.1) && inside (acc.1 + parts.1 + parts.2))) waits).2

/-- The arm answer (R248, R437): the period of the first stroke, and the smallest multiple of 100 ms that keeps the forecast
between its bounds. -/
def ledgerArm (b : Body) : Body :=
  let b := ledgerDecide b
  match kindInFlight b with
  | none => b
  | some k =>
    match profileOf b k with
    | none => b
    | some e =>
      let ps := forecast b
      let rest : Rat := ((ps.length * getF b R.COX_PG_CTRL.tick_us (pix 16 0) : Nat) : Rat)
      let first : Rat := 1000 + k.leadUs
      match (List.range 6001).find? (fun (i : Nat) => stageOk b ps e k rest (first + i * 100000)) with
      | some i =>
        let b := setFlag (setF b R.LDG_START_DELAY.start_delay_us 0 (i * 100000)) R.LDG_STATUS.stage_limit 0 false
        if i = 0 then b else writeHeadroom 2 b
      | none =>
        let b := setFlag (setF b R.LDG_START_DELAY.start_delay_us 0 600000000) R.LDG_STATUS.stage_limit 0 true
        writeHeadroom 2 (logRec 0x25 ([4, 0, 0, 0, 0, 0, 0, 0] ++ leBytes 8 600000000) b)

/-- HEADROOM as the stroke block forms it from the ledger's registers (R432, R436): a send without a fresh decision repeats the
last values with a period no shorter than the nominal one, and is counted. -/
def ledgerReport (b : Body) : HeadroomBody × Body :=
  let fresh := flagF b R.LDG_REQUEST.fresh 0
  let nominal := ((kindInFlight b).map (·.nominalUs)).getD 0
  let period := getF b R.LDG_REQUEST.period_us 0
  let b := if fresh then setFlag b R.LDG_REQUEST.fresh 0 false else addSat b R.LDG_TELEGRAM.stale 0 1
  ({ periodUs := if fresh then period else max period nominal, startDelayUs := getF b R.LDG_START_DELAY.start_delay_us 0, lateUs := 0
     headroomMj := getF b R.LDG_HEADROOM.headroom_mj 0, decision := getF b R.LDG_STATUS.decision 0
     capActive := flagF b R.LDG_STATUS.cap_active 0, atReserve := flagF b R.LDG_STATUS.at_reserve 0, count := 1, missing := 0
     setter := moduleIndex b }, b)

/-- A firmware set-point generator takes a target of the ledger under given limits (R379, R441). The clock generators belong to
the clock. -/
def pointGenerator (e k owner target v a j : Nat) (b : Body) : Body :=
  let cur := getF b R.COX_PG_CTRL.owner (pix e k)
  if cur ≠ 0 ∧ cur ≠ owner then b
  else
    let b := pgOwner e k owner b
    let b := if pgRests b e k then
        setF (setF (setF b R.COX_PG_VLIM.v (pix e k) v) R.COX_PG_ALIM.a (pix e k) a) R.COX_PG_JLIM.j (pix e k) j else b
    pgTarget e k target b

/-- Every die moves to an operating point (R439, R441). -/
def movePoint (p : Nat × Nat × Nat) (b : Body) : Body :=
  let b := forEach (List.range 16) (fun e b =>
    let b := pointGenerator e 0 2 (bfRat p.2.2 1000) (bfRat 2000 1) (bfRat 40000000 1) (bfRat (10 ^ 12) 1) b
    let v := bfRat 2000000 1
    let a := bfRat (10 ^ 11) 1
    let j := bfRat (10 ^ 16) 1
    pointGenerator e 3 4 (bfRat p.2.1 1) v a j (pointGenerator e 2 4 (bfRat p.2.1 1) v a j b)) b
  setF b R.LDG_STATUS.point 0 p.1

/-- The point of a stroke (R439, R442, R446): the slowest fit, the lowest with clocks forced, the highest allowed while a surplus
is disposed of. -/
def choosePoint (b : Body) (ps : List Int) (e : EnergyProfile) (k : StrokeKind) (t : Nat) (t0 : Rat) : Nat :=
  if flagF b R.LDG_STATUS.forced 0 then 0
  else
    let i := slowestFit e k t
    if b.ledger.surplusNext then
      match ((List.range e.points.length).reverse).find? (fun j => decide (320 < (pointAt e j).code)
          && portOk b ps e (pointAt e j) (windows k (pointAt e j) t) t0) with
      | some j => j
      | none => i
    else i

/-- The feedforward of the coming stroke (R440): core currents, and the expected change in pack current, by the words of R440
(log entry 35). -/
def writeFeedforward (ps : List Int) (e : EnergyProfile) (p : OpPoint) (w : Windows) (t0 : Rat) (b : Body) : Body :=
  let b := forEach (List.range 16) (fun d b =>
    setF (setF b R.COX_FF_DRIVE.ff_drive (lix d 0) (bfRat p.coreA 1)) R.COX_FF_FEATHER.ff_feather (lix d 0) (bfRat e.coreAFeather 1)) b
  let mv : Rat := getF b R.STP_PACK_V.mv 0
  let amps := fun (x : Rat) => if mv = 0 then (0 : Rat) else packDelta b x * 1000 / mv
  let d := amps (p.pDrive - fcPower b ps t0 (t0 + w.drive))
  let fp : Rat := if w.feat = 0 then 0 else e.eFeather * 1000 / w.feat
  let f := amps (fp - fcPower b ps (t0 + w.drive) (t0 + w.drive + w.feather))
  setF (setF b R.COX_FF_DRIVE.ff_drive (lix 17 0) (bfRat d.num d.den)) R.COX_FF_FEATHER.ff_feather (lix 17 0) (bfRat f.num f.den)

/-- Firmware acts on a START (R439, R440): a move to a higher code begins, one to a lower code waits for the catch warning. -/
def ledgerStart (body : StartBody) (b : Body) : Body :=
  if !shepherdActive b then b
  else match b.flock.plan.bind (fun p => p.kinds[body.kind]?) with
  | none => b
  | some k =>
    match profileOf b k with
    | none => b
    | some e =>
      let ps := forecast b
      let t0 : Rat := body.warnDelayUs + body.leadUs
      let i := choosePoint b ps e k body.periodUs t0
      let p := pointAt e i
      let b := writeFeedforward ps e p (windows k p body.periodUs) t0 b
      if codeOf (getF b R.COX_PG_TARGET.target (pix 0 2)) ≤ p.code then
        movePoint (i, p.code, p.coreMv) (updLedger (fun l => { l with next := none }) b)
      else updLedger (fun l => { l with next := some (i, p.code, p.coreMv) }) b

/-- A move to a lower code starts at the catch warning (R439). -/
def ledgerWarning (b : Body) : Body :=
  match b.ledger.next with
  | none => b
  | some p => if !shepherdActive b then b else movePoint p (updLedger (fun l => { l with next := none }) b)

/-- The input energy of the phase that ends at an edge (R451). -/
def phaseEnergy (f : Field) (b : Body) : Body :=
  let acc := getF b R.LDG_ACC_IN.uj 0
  updLedger (fun l => { l with markSeg := acc }) (setF b f 0 ((acc + 2 ^ 64 - b.ledger.markSeg) % 2 ^ 64))

/-- At the catch the feather that ends is latched, and drive begins to be measured. -/
def driveStarts (b : Body) : Body :=
  if b.flock.feather then phaseEnergy R.LDG_ACC_FEATHER.uj b
  else updLedger (fun l => { l with markSeg := getF b R.LDG_ACC_IN.uj 0 }) b

/-- The conditions of the window tolerance (R425, R427). -/
def windowHolds (b : Body) : Bool :=
  power b == 7 && b.ledger.rested && decide (0 < getF b R.LDG_E0.e0_mj 0) && decide (0 < getF b R.LDG_EROOM.eroom_mj 0)
    && !flagF b R.STP_STATUS.chg_limit 0 && !flagF b R.STP_STATUS.dis_limit 0 && !b.cox.path.busLow

/-- The window tolerance is looked at again (R426): an end of it in state run is counted and logged with a cause. -/
def noteWindow (cause : Nat) (b : Body) : Body :=
  let b := updLedger (fun l => { l with rested := power b == 7 && (l.rested || !flagF b R.COX_PG_CTRL.moving (pix 16 0)) }) b
  let holds := windowHolds b
  let lapsed := b.ledger.tolerant && !holds && power b == 7
  let b := updLedger (fun l => { l with tolerant := holds }) b
  if lapsed then raiseVec 22 <| logRec 0x25 ([1, BitVec.ofNat 8 cause, 0, 0, 0, 0, 0, 0] ++ leBytes 8 0) (addSat b R.LDG_STATUS.window_lapses 0 1) else b

/-- A cap is written (R394, R412, R425): the write itself ends the window tolerance for an instant. -/
def placeCap (w : Nat) (b : Body) : Body :=
  let lapse := b.ledger.tolerant && power b == 7 && decide (w = 0 ∨ 1200 ≤ w ∧ w ≤ 10500)
  let b := if lapse then raiseVec 22 (logRec 0x25 ([1, 1, 0, 0, 0, 0, 0, 0] ++ leBytes 8 0) (addSat b R.LDG_STATUS.window_lapses 0 1)) else b
  capWrite w b

/-- Clocks are forced to the lowest point of the kind in flight (R442). -/
def forceClocks (b : Body) : Body :=
  let code := match kindInFlight b with
    | some k => ((profileOf b k).map (fun e => (pointAt e 0).code)).getD 80
    | none => 80
  let b := setFlag (setFlag b R.LDG_STATUS.forced 0 true) R.LDG_STATUS.at_reserve 0 true
  forEach (List.range 16) (fun e b => ceilingsChanged e (setF b R.COX_CLK_CEIL.force e code)) b

/-- The forced ceiling is lifted (R442). -/
def liftClocks (b : Body) : Body :=
  let b := setFlag b R.LDG_STATUS.forced 0 false
  forEach (List.range 16) (fun e b => ceilingsChanged e (setF b R.COX_CLK_CEIL.force e 380)) b

/-- The input is absent or back (R436, R444): while it is absent, clocks are forced. -/
def ledgerAbsent (v : Bool) (b : Body) : Body :=
  let b := setFlag b R.LDG_STATUS.absent 0 v
  if v && shepherdActive b then forceClocks b else b

/-- The contract's limits are written to PG0 of COX16 (R423, R425). -/
def contractLimits (b : Body) : Body :=
  let i := pix 16 0
  setF (setF (setF b R.COX_PG_VLIM.v i (bfRat (getF b R.LDG_LIMITS.v_lim 0) 1)) R.COX_PG_ALIM.a i (bfRat (getF b R.LDG_LIMITS.a_lim 0) 1))
    R.COX_PG_JLIM.j i (bfRat (getF b R.LDG_LIMITS.j_lim 0) 1)

/-- Preset PG0 to the measured input power and let it climb to the level, or to a lower cap (R427), under the contract's
limits. -/
def contractPreset (b : Body) : Body :=
  let p := max 0 (sint 32 (getF b R.COX_TLM_LAST.last (16 * 64 + 2)))
  let b := contractLimits (pgPreset 16 0 (bfRat p 1000) b)
  let level := getF b R.LDG_LEVEL.level_w 0
  let cap := getF b R.COX_CAP.cap_w 16
  pgTarget 16 0 (bfRat (if cap = 0 then level else min level cap) 1) b

end Sys2Proof.Machine
end

