-- ==== Sys2Proof/Machine/Strokes.lean ====
section
/-! DEFINITION. Telegrams, barriers over modules and the course of a stroke at a member and at the seat (R223-R248,
R255, R304, R307). -/

namespace Sys2Proof.Machine

/-- Update the stroke flock's part. -/
def updFlock (f : Flock → Flock) (b : Body) : Body := { b with flock := f b.flock }

/-- The highest telegram format level of this module (R230). -/
def telLevelMax : Nat := 1

/-- Count a telegram from a module that is held lost (R287 step 3; log entry 21 for the link die). -/
def countDropped (b : Body) : Body := addSat b R.KLK_LOSS_LOG.dropped 0 1

/-- The check of a received telegram (R232): whether it is accepted. A port of an isolated module takes nothing in
(R289). -/
def telCheck (ttype : Nat) (h : TelHead) (b : Body) : Bool × Body :=
  if isolated b then (false, b)
  else if flagF b R.KLK_ROUTE.lost h.nbr then (false, countDropped b)
  else if !h.crcOk then (false, addSat b R.TLY_TELEGRAM_ERR.crc 0 1)
  else if telLevelMax < h.level then (false, addSat b R.TLY_TELEGRAM_ERR2.level 0 1)
  else if ttype = 5 then (true, b)
  else
    let key := ttype * 16384 + h.nbr
    let last := SMap.get b.flock.rxAlive none key
    let b := updFlock (fun f => { f with rxAlive := SMap.put f.rxAlive none key (some h.alive) }) b
    match last with
    | none => (true, b)
    | some l => match aliveCheck 8 l h.alive with
      | .inOrder => (true, b)
      | .repeated => (false, addSat b R.TLY_TELEGRAM_ERR.repeats 0 1)
      | .skip => (true, addSat b R.TLY_TELEGRAM_ERR.skip 0 1)
      | .backward => (false, addSat b R.TLY_TELEGRAM_ERR.backward 0 1)

/-- Act on a telegram that passes its check (R232). -/
def telIn (ttype : Nat) (h : TelHead) (f : Body → Body) (b : Body) : Body :=
  let r := telCheck ttype h b
  if r.1 then f r.2 else r.2

/-- The modules of the stroke flock in rank order, a spare that has taken a rank in its place (R215, R320). -/
def strokeMembers (b : Body) : List Nat := b.flock.members.map (rankServer b)

/-- The rank of a module in the stroke flock. -/
def rankIn (b : Body) (m : Nat) : Nat := ((strokeMembers b).findIdx? (· == m)).getD (strokeMembers b).length

/-- Take a module as seat (R239, R242). -/
def setSeat (m : Nat) (b : Body) : Body :=
  setFlag (setF b R.TLY_SEAT.seat 0 m) R.TLY_STROKE_STATUS.seat 0 (decide (m = moduleIndex b))

/-- Is this module the seat (R255)? -/
def isSeat (b : Body) : Bool := flagF b R.TLY_STROKE_STATUS.seat 0

/-- The stroke kind of an index in the loaded plan (R245). -/
def kindOf (b : Body) (k : Nat) : Option StrokeKind :=
  match b.flock.plan with
  | none => none
  | some p => p.kinds[k]?

/-- Forward a START down the tree (R231, R233); the sender stays the module that formed it. -/
def forwardStart (sender stroke : Nat) (body : StartBody) (b : Body) : Body :=
  forEach (treeChildren b (strokeMembers b)) (fun c b =>
    let h := telHead b 1 c b.flock.flockId stroke false
    sendStart c { h.1 with sender := sender } body h.2) b

/-- Schedule the catch warning of a START that has arrived (R244), and let firmware act on it (R439, R440). -/
def schedule (stroke : Nat) (body : StartBody) (d : Nat) (b : Body) : Body :=
  let b := updFlock (fun f => { f with startSeen := some ⟨body, stroke, b.now + body.warnDelayUs * 1000 - d⟩ }) b
  ledgerStart body b

/-- A member's part of a START (R244, R247, R255). A START of the stroke after the next, before the commit of the stroke
in flight, is out of step and is not scheduled (log entry 22). -/
def takeStart (stroke : Nat) (body : StartBody) (d : Nat) (b : Body) : Body :=
  if !b.flock.runOpen then b
  else if !b.flock.commitDone ∧ stroke = strokeNum b + 2 then
    report .outOfStep (raiseVec 21 (setFlag b R.TLY_STROKE_STATUS.out_of_step 0 true))
  else
    let b := if getF b R.TLY_STROKE_STATUS.state 0 = 1 then setF b R.TLY_STROKE_STATUS.state 0 2 else b
    schedule stroke body d b

/-- The report of one child or of this module, where there is one. -/
def reportOf (b : Body) (c : Nat) : Option ChildReport := SMap.get b.flock.children none c

/-- The combination of two reports (R235). -/
def combine (b : Body) (x y : HeadroomBody) : HeadroomBody :=
  { periodUs := max x.periodUs y.periodUs
    startDelayUs := max x.startDelayUs y.startDelayUs
    lateUs := max x.lateUs y.lateUs
    headroomMj := min x.headroomMj y.headroomMj
    decision := max x.decision y.decision
    capActive := x.capActive || y.capActive
    atReserve := x.atReserve || y.atReserve
    count := (x.count + y.count) % 65536
    missing := (x.missing + y.missing) % 65536
    setter := if x.periodUs < y.periodUs ∨ (x.periodUs = y.periodUs ∧ rankIn b y.setter < rankIn b x.setter) then y.setter
      else x.setter }

/-- The children that have not reported for the stroke in combination (R236). -/
def missingChildren (b : Body) : List Nat :=
  (treeChildren b (strokeMembers b)).filter (fun c => match reportOf b c with
    | some r => !r.fresh
    | none => true)

/-- The combined report: this module's own and its children's, the last received values standing in for a child that has
not reported (R235, R236). -/
def combined (b : Body) : Option HeadroomBody :=
  let rs := (treeChildren b (strokeMembers b)).filterMap (fun c => (reportOf b c).map (·.body))
  match b.flock.ownReport.toList ++ rs with
  | [] => none
  | x :: xs =>
    let t := xs.foldl (combine b) x
    some { t with missing := (t.missing + (missingChildren b).length) % 65536 }

/-- The period of the next stroke by the rule of R240. -/
def nextPeriod (b : Body) (k : StrokeKind) : Nat :=
  min 2000000 (max k.nominalUs (getF b R.TLY_COMBINED.period_us 0) + getF b R.TLY_COMBINED_LATE.late_us 0)

/-- The seat sends a START and takes it itself at its send instant (R240, R244). -/
def seatSend (stroke : Nat) (body : StartBody) (b : Body) : Body :=
  takeStart stroke body 0 (forwardStart (moduleIndex b) stroke body b)

/-- The first START of a run, once the seat has the combined start delay (R248 step 3). -/
def firstStart (b : Body) : Body :=
  match kindOf b b.flock.runKind with
  | none => b
  | some k =>
    let last := b.flock.runLeft == some 1 || b.flock.stopAsked
    let body : StartBody :=
      { periodUs := nextPeriod b k, warnDelayUs := max 1000 b.flock.startDelay, leadUs := k.leadUs, kind := b.flock.runKind
        first := true, last := last, replay := false, arm := false, replayClass := 0, inbound := b.flock.inboundNext }
    let b := updFlock (fun f => { f with armed := false, runLeft := f.runLeft.map (· - 1) }) b
    seatSend b.flock.nextStroke body b

/-- The kind of the next stroke: back to the original kind from the stroke of STANDIN on (R325 step 6). -/
def kindFrom (b : Body) (n : Nat) : Nat :=
  match b.flock.seatWait with
  | some (s, _) => if s ≤ n then b.flock.origKind else b.flock.runKind
  | none => b.flock.runKind

/-- The seat's firmware takes the combined HEADROOM of the next stroke and arms its period (R240 steps 1-3). -/
def armPeriod (b : Body) : Body :=
  match b.flock.inFlight, kindOf b (kindFrom b (strokeNum b + 1)) with
  | some _, some k =>
    if shepherdActive b && isSeat b then setFlag (setF b R.TLY_NEXT_PERIOD.period_us 0 (nextPeriod b k)) R.TLY_NEXT_PERIOD.armed 0 true else b
  | _, _ => b

/-- Forward the combination, or fix it at the root, where the seat's firmware arms the next period (R236, R240); the root of an armed run
then sends the first START (R248). -/
def headroomOut (b : Body) : Body :=
  match combined b with
  | none => b
  | some r =>
    let b := updFlock (fun f => { f with sentUp := [1] }) b
    match treeParent b (strokeMembers b) with
    | none =>
      let b := setF b R.TLY_COMBINED.period_us 0 r.periodUs
      let b := setF b R.TLY_COMBINED_LATE.late_us 0 (min r.lateUs 65535)
      let b := setF b R.TLY_COMBINED_LATE.missing 0 r.missing
      let b := updFlock (fun f => { f with startDelay := r.startDelayUs }) b
      if b.flock.armed then firstStart b else armPeriod b
    | some p =>
      let h := telHead b 2 p b.flock.flockId ((strokeNum b + 1) % 2 ^ 48) (!(treeChildren b (strokeMembers b)).isEmpty)
      sendHeadroom p h.1 r h.2

/-- Forward once every live child and this module have reported (R236). -/
def headroomReady (b : Body) : Body :=
  if b.flock.sentUp = [] ∧ b.flock.ownReport.isSome ∧ missingChildren b = [] then headroomOut b else b

/-- A new combination begins: no report of it has arrived (R236). -/
def headroomClear (b : Body) : Body :=
  updFlock (fun f => { f with sentUp := [], ownReport := none
                              children := f.children.map (fun p => (p.1, p.2.map (fun r => { r with fresh := false }))) }) b

/-- A member's part of an arm START (R248): the run opens, modules that have returned take their ranks again (R330), and
the member answers with its start delay. A member whose last commit is still to come keeps waiting for it (R31). -/
def takeArm (stroke : Nat) (body : StartBody) (b : Body) : Body :=
  let b := updFlock (fun f => { f with runOpen := true, vacant := [], nextStroke := stroke, runKind := body.kind, origKind := body.kind, inFlight := none
                                       inboundNext := body.inbound
                                       startSeen := none, warnRaised := false, commitDone := f.commitDone || !(f.runOpen || commitRuns b) }) b
  let b := updLedger (fun l => { l with ballast := 0 }) (setF b R.TLY_STROKE_STATUS.state 0 1)
  let b := headroomClear b
  let r := ledgerReport (if shepherdActive b then ledgerArm b else b)
  let b := updFlock (fun f => { f with ownReport := some r.1 }) r.2
  headroomReady b

/-- The checks of a START before its part (R232, R242, R248, R255, R289): the telegram is good, the module takes part, the sender's
rank is not above the seat's, the kind names a loaded stroke kind. Every START that passes the rank check goes on down the
tree. The answer says whether this module acts on it. -/
def startCheck (h : TelHead) (body : StartBody) (b : Body) : Bool × Body :=
  let r := telCheck 1 h b
  let b := r.2
  if !r.1 then (false, b)
  else if b.flock.barred ∨ !flagF b R.TLY_STROKE_CTRL.enable 0 ∨ !flagF b R.TLY_SEAT.valid 0 ∨ h.flock ≠ b.flock.flockId then (false, b)
  else if rankIn b (getF b R.TLY_SEAT.seat 0) < rankIn b h.sender then (false, addSat b R.TLY_TELEGRAM_ERR2.rank 0 1)
  else
    let b := forwardStart h.sender h.stroke body (setSeat h.sender b)
    if (kindOf b body.kind).isNone then (false, report .badKind (addSat b R.TLY_TELEGRAM_ERR2.bad_kind 0 1))
    else if !b.flock.runOpen ∧ !body.arm then (false, b)
    else (true, b)

/-- Act on a START that passes its checks. -/
def startIn (h : TelHead) (body : StartBody) (act : Body → Body) (b : Body) : Body :=
  let r := startCheck h body b
  if r.1 then act r.2 else r.2

/-- A START of a stroke (R244). -/
def startTel (h : TelHead) (body : StartBody) (b : Body) : Body :=
  let body := { body with arm := false, replay := false }
  startIn h body (fun b => takeStart h.stroke body (getF b R.TLY_SEAT_DELAY.d_ns 0) b) b

/-- An arm START (R248). -/
def armTel (h : TelHead) (body : StartBody) (b : Body) : Body :=
  let body := { body with arm := true, replay := false }
  startIn h body (takeArm h.stroke body) b

/-- A HEADROOM telegram of a child (R235, R236). -/
def headroomTel (h : TelHead) (body : HeadroomBody) (b : Body) : Body :=
  telIn 2 h (fun b =>
    if h.flock ≠ b.flock.flockId ∨ !flagF b R.TLY_SEAT.valid 0 then b
    else headroomReady (updFlock (fun f => { f with children := SMap.put f.children none h.nbr (some ⟨body, true⟩) }) b)) b

/-- A leader's deadline expires (R236): only that of its highest level counts. -/
def deadline (level : Nat) (b : Body) : Body :=
  if level = leaderLevel b (strokeMembers b) ∧ b.flock.sentUp = [] ∧ flagF b R.TLY_SEAT.valid 0 then headroomOut b else b

/-- The stroke block publishes this module's HEADROOM from the ledger's registers (R432, R247). -/
def publish (b : Body) : Body :=
  if b.flock.inFlight.isSome ∧ b.flock.ownReport.isNone ∧ b.flock.runOpen then
    let r := ledgerReport b
    headroomReady (updFlock (fun f => { f with ownReport := some { r.1 with lateUs := b.flock.lateUs } }) r.2)
  else b

/-- Does the seat hold the START of a stroke until every member has acknowledged STANDIN (R325 step 6)? -/
def seatHolds (b : Body) (n : Nat) : Bool :=
  match b.flock.seatWait with
  | some (s, l) => decide (s ≤ n) && !l.isEmpty
  | none => false

/-- Inbound word 15 of a START in a pair kind names the lost module and its stand-in (R321). -/
def pairWord (lost standin : Nat) (inbound : List Nat) : List Nat :=
  (List.range 16).map (fun i => if i = 15 then lost % 16384 + standin % 16384 * 65536 else inbound.getD i 0)

/-- The inbound words of the next START (R227, R321): word 15 by the seat where the flock runs in a pair kind. -/
def inboundFor (b : Body) (kind : Nat) : List Nat :=
  if kind ≠ b.flock.origKind ∧ flagF b R.TLY_STANDIN.valid 0 ∧ getF b R.TLY_STANDIN.kind 0 = 1 then
    pairWord (getF b R.TLY_STANDIN.lost 0) (getF b R.TLY_STANDIN.standin 0) b.flock.inboundNext
  else b.flock.inboundNext

/-- The stroke timer of the seat sends the START of the next stroke (R240, R241, R325). -/
def timerSend (b : Body) : Body :=
  let n := strokeNum b + 1
  match b.flock.inFlight, kindOf b (kindFrom b n) with
  | some cur, some k =>
    if isSeat b ∧ b.flock.runOpen ∧ !cur.last ∧ b.flock.startSeen.isNone then
      if seatHolds b n then updFlock (fun f => { f with timerDue := true }) b
      else
        let off := ((kindOf b cur.kind).map (·.startOff)).getD k.startOff
        let armed := flagF b R.TLY_NEXT_PERIOD.armed 0
        let period := if armed then getF b R.TLY_NEXT_PERIOD.period_us 0 else nextPeriod b k
        let b := if armed then setFlag b R.TLY_NEXT_PERIOD.armed 0 false else addSat b R.TLY_STROKE_STATUS.unarmed_sends 0 1
        let kind := kindFrom b n
        let body : StartBody :=
          { periodUs := period, warnDelayUs := cur.periodUs - off - k.leadUs, leadUs := k.leadUs, kind := kind
            first := false, last := b.flock.runLeft == some 1 || b.flock.stopAsked, replay := false, arm := false, replayClass := 0
            inbound := inboundFor b kind }
        let done := (b.flock.seatWait.map (fun w => decide (w.1 ≤ n))).getD false
        let b := updFlock (fun f => { f with runLeft := f.runLeft.map (· - 1), runKind := kind, timerDue := false
                                             seatWait := if done then none else f.seatWait }) b
        seatSend n body b
    else b
  | _, _ => b

/-- The stroke timer reaches the send instant (R240, R513): on a seat in mode stroke reference the START waits for an edge. -/
def timerExpire (b : Body) : Body :=
  if getF b R.SHP_SYNCAUX.mode 0 = 1 ∧ isSeat b ∧ b.flock.runOpen ∧ b.flock.inFlight.isSome then updHost (fun h => { h with auxWait := true }) b
  else timerSend b

/-- A rising edge on SYNC_AUX (R513). -/
def auxEdge (b : Body) : Body :=
  if getF b R.SHP_SYNCAUX.mode 0 ≠ 1 then b
  else
    let b := setF b R.SHP_SYNCAUX_TS.ns 0 (b.now / 10 * 10)
    if b.host.auxWait then timerSend (updHost (fun h => { h with auxWait := false }) b) else b

/-- No edge came within 40 µs of the send instant (R513). -/
def auxTimeout (b : Body) : Body :=
  if b.host.auxWait then timerSend (addSat (updHost (fun h => { h with auxWait := false }) b) R.SHP_SYNCAUX.missed 0 1) else b

/-- A module that acts as seat in a run goes on with the kind and the inbound words of the last START it received, and without a count
(R537). -/
def actAsSeat (b : Body) : Body :=
  let b := updFlock (fun f => { f with runLeft := none, stopAsked := false }) b
  match (b.flock.startSeen.map (·.body)).orElse (fun _ => b.flock.inFlight) with
  | some x => updFlock (fun f => { f with inboundNext := x.inbound, runKind := x.kind }) b
  | none => b

/-- The seat is gone (R242): the lowest-rank live module after it acts as seat. -/
def seatGone (b : Body) : Body :=
  let old := getF b R.TLY_SEAT.seat 0
  match ((strokeMembers b).filter (· != old)).find? (moduleLive b) with
  | none => b
  | some m => report .seatGone (setSeat m (if m = moduleIndex b then actAsSeat b else b))

/-- No START has arrived in time (R242): a member of a run in progress declares the seat gone. -/
def seatSilence (b : Body) : Body :=
  match b.flock.inFlight with
  | some cur => if b.flock.runOpen ∧ flagF b R.TLY_STROKE_CTRL.enable 0 ∧ !isSeat b ∧ b.flock.startSeen.isNone ∧ !cur.last then
      seatGone b else b
  | none => b

/-- A measurement of the seat delay starts (R243). -/
def measureDelay (b : Body) : Body :=
  if !flagF b R.TLY_SEAT.valid 0 then b
  else match treeParent b (strokeMembers b) with
    | none => setF b R.TLY_SEAT_DELAY.d_ns 0 0
    | some p =>
      let seq := (b.flock.echoSeq + 1) % 256
      let b := updFlock (fun f => { f with echoSeq := seq, strokesSinceEcho := 0 }) b
      let h := telHead b 7 p b.flock.flockId (strokeNum b) false
      sendEcho p h.1 ⟨moduleIndex b, false, seq, b.now, 0, 0⟩ h.2

/-- The child of this module on the tree that leads to a module (R233). -/
def childToward (b : Body) (m : Nat) : Option Nat :=
  let ms := strokeMembers b
  let rank := rankIn b m
  ([groupLeader b ms 2 rank, groupLeader b ms 1 rank, some m].filterMap id).find? (fun x => (treeChildren b ms).contains x)

/-- An ECHO telegram (R243): the seat answers a request, a reply completes the measurement, anything else goes on; `t4` is
the receive time on this module's time base. -/
def echoTel (h : TelHead) (body : EchoBody) (t4 : Nat) (b : Body) : Body :=
  telIn 7 h (fun b =>
    let pass := fun (port : Option Nat) (body : EchoBody) (b : Body) => match port with
      | none => b
      | some p =>
        let g := telHead b 7 p h.flock h.stroke false
        sendEcho p { g.1 with sender := h.sender } body g.2
    if !body.reply then
      if isSeat b then
        let g := telHead b 7 h.nbr h.flock h.stroke false
        sendEcho h.nbr g.1 { body with reply := true, t2 := t4, t3 := b.now } g.2
      else pass (treeParent b (strokeMembers b)) body b
    else if body.originator = moduleIndex b then
      if body.seq = b.flock.echoSeq then
        let d := ((t4 : Int) - body.t1 - ((body.t3 : Int) - body.t2)) / 2
        setF b R.TLY_SEAT_DELAY.d_ns 0 (min d.toNat (2 ^ 20 - 1))
      else b
    else pass (childToward b body.originator) body b) b

/-- The generation to which this module's own stations of a flock have arrived (R223, R225). -/
def ownGen (b : Body) (f : Nat) : Option Nat :=
  match (flockStations b flockDepth f).filterMap (fun st => (barrierChannel b st 2 f).map (fun ch => SMap.get (stn b st).arriveGen 0 ch)) with
  | [] => none
  | g :: gs => some (gs.foldl wrapMin g)

/-- The generation a child last forwarded for a flock, 0 at the catch (R224). -/
def childGen (b : Body) (f c : Nat) : Nat := SMap.get b.flock.arrives 0 (f * 32768 + c) % 65536

/-- The live modules a child covers, by its last ARRIVE (R237). -/
def childCount (b : Body) (f c : Nat) : Nat := SMap.get b.flock.arrives 0 (f * 32768 + c) / 65536

/-- The key of the generation this module last forwarded for a flock. -/
def forwardedKey (f : Nat) : Nat := f * 32768 + 16384

/-- Release a flock's barrier at this module's member stations and down the tree (R225). -/
def releaseDown (f gen stroke : Nat) (b : Body) : Body :=
  let b := forEach (flockStations b flockDepth f) (fun st b => match barrierChannel b st 2 f with
    | some ch => updStn b st (fun t => { t with relGen := SMap.put t.relGen 0 ch gen })
    | none => b) b
  forEach (treeChildren b (flockModules b flockDepth f)) (fun c b =>
    let h := telHead b 4 c f stroke false
    sendRelease c h.1 gen h.2) b

/-- Forward an ARRIVE when every live module of the group has arrived; the root releases (R225). A module without member
stations waits for its children alone. -/
def arriveUp (f : Nat) (b : Body) : Body :=
  let ms := flockModules b flockDepth f
  let cs := treeChildren b ms
  match (ownGen b f).toList ++ cs.map (childGen b f) with
  | [] => b
  | g :: gs =>
    let gen := gs.foldl wrapMin g
    if gen = SMap.get b.flock.arrives 0 (forwardedKey f) then b
    else
      let b := updFlock (fun x => { x with arrives := SMap.put x.arrives 0 (forwardedKey f) gen }) b
      match treeParent b ms with
      | none => releaseDown f gen (strokeNum b) b
      | some p =>
        let h := telHead b 3 p f (strokeNum b) (!cs.isEmpty)
        sendArrive p h.1 gen (1 + (cs.map (childCount b f)).foldl (· + ·) 0) h.2

/-- An ARRIVE of the stroke in flight (R225). -/
def takeArrive (f c gen count : Nat) (b : Body) : Body :=
  arriveUp f (updFlock (fun x => { x with arrives := SMap.put x.arrives 0 (f * 32768 + c) (gen % 65536 + count * 65536) }) b)

/-- An ARRIVE telegram (R224, R225): one of the next stroke is held until this module's catch. -/
def arriveTel (h : TelHead) (gen count : Nat) (b : Body) : Body :=
  telIn 3 h (fun b =>
    if h.stroke = strokeNum b + 1 then updFlock (fun f => { f with heldArrives := f.heldArrives ++ [(h.flock, h.nbr, gen, count)] }) b
    else takeArrive h.flock h.nbr gen count b) b

/-- A RELEASE telegram (R225). -/
def releaseTel (h : TelHead) (gen : Nat) (b : Body) : Body := telIn 4 h (releaseDown h.flock (gen % 65536) h.stroke) b

/-- A TALLY telegram (R237, R238): to a station of this module, or for a flock up the tree from a child and down from the
root. The fabric answers a signal to an invalid entry with cause 0x03 (R72), to the stroke block's endpoint (log entry 58). -/
def tallyTel (h : TelHead) (body : TallyBody) (b : Body) : Body :=
  telIn 5 h (fun b =>
    if !body.toFlock then
      match physOf b (body.target / 64 % 16) (body.target % 64) with
      | some st => sendFlit { Flit.blank .tallySignal with src := lnkEp 0, dst := st, tag := body.tally, len := body.value,
                                                           stroke := h.stroke % 4 } b
      | none => emit (.response "error response to a tally signal" [strokeEp, 3, winBase (body.target / 64 % 16) (body.target % 64)]) b
    else if (treeChildren b (flockModules b flockDepth h.flock)).contains h.nbr then
      flockSignal (lnkEp 0) h.flock body.tally body.value h.stroke b
    else flockDown (lnkEp 0) h.flock body.tally body.value h.stroke b) b

/-- A barrier channel's release generation reaches its stations (R223, R225): of a flock within this module at once, of a
flock over more modules by the tree. -/
def barrierRelease (st ch : Nat) (b : Body) : Body :=
  let multi := match (scope2Flocks b st)[ch - 2]? with
    | some f => if 2 ≤ ch ∧ ch ≤ 6 ∧ 1 < (flockModules b flockDepth f).length then some f else none
    | none => none
  match multi with
  | some f => arriveUp f b
  | none => updStn b st (fun t => { t with relGen := SMap.put t.relGen 0 ch (releaseGen b st ch) })

/-- The catch warning (R31, R244, R247): after the START and after this module's own commit. -/
def catchWarning (b : Body) : Body :=
  match b.flock.startSeen with
  | none => b
  | some w =>
    if b.flock.warnRaised ∨ (!b.flock.commitDone && !b.flock.filling) then b
    else
      let late := ceilDiv (b.now - w.scheduled) 1000
      let b := setF b R.TLY_LATE.last_us 0 (min late 65535)
      let b := setF b R.TLY_LATE.max_us 0 (max (getF b R.TLY_LATE.max_us 0) (min late 65535))
      let b := updFlock (fun f => { f with warnRaised := true, lateUs := late, catchAt := b.now + w.body.leadUs * 1000 }) b
      ledgerWarning (coxWarning b)

/-- A station at the catch (R117, R126, R153, R219, R224, R227). -/
def catchStation (stroke : Nat) (inbound : List Nat) (st : Nat) (b : Body) : Body :=
  let t := stn b st
  let held := t.deferred
  let b := setStn b st { t with s := [], v := [], p := [], tiles := [], loops := [], opened := [], deferred := [], arriveGen := [],
                                relGen := [], ended := false, syncDone := false }
  let b := forEach held (fun p b => addTally st p.1 p.2.toNat b) b
  let b := setF b R.STN_SEQ_PC.pc st t.entry
  let b := setF b R.TLY_STN_STATUS.deferred st 0
  let b := setF b R.TLY_STN_STATUS.tag st (stroke % 4)
  let b := setF b R.STN_ARITH_FLAGS.flags st 0
  let b := setFlag b R.STN_SEQ_STATUS.barrier_wait st false
  let b := if getF b R.STN_STATUS.state st = 4 then setF b R.STN_STATUS.state st 3 else b
  forEach (List.range 16) (fun k b => setF b R.TLY_MBX.word (st * 32 + k) (inbound.getD k 0)) b

/-- The START bodies kept of the last two strokes begun (R306). -/
def keepStart (stroke : Nat) (body : StartBody) (f : Flock) : Flock :=
  match f.lastStart with
  | some (n, x) => if n = stroke then { f with lastStart := some (n, x) }
      else { f with lastStart := some (stroke, body), prevStart := some (n, x) }
  | none => { f with lastStart := some (stroke, body) }

/-- Drive ends and feather begins (R246, R255). -/
def driveEnd (b : Body) : Body :=
  if b.flock.drive then
    let b := updFlock (fun f => { f with drive := false, feather := true }) b
    let b := if getF b R.TLY_STROKE_STATUS.state 0 = 3 then setF b R.TLY_STROKE_STATUS.state 0 4 else b
    coxDriveEnd (phaseEnergy R.LDG_ACC_DRIVE.uj b)
  else b

/-- The stroke block returns to idle (R255, R328): the run is over for this module, which raises vector 21 (R503). -/
def strokeStop (b : Body) : Body :=
  let b := if b.flock.runOpen then raiseVec 21 b else b
  let b := updHost (fun h => { h with auxWait := false }) b
  let b := updFlock (fun f => { f with runOpen := false, armed := false, startSeen := none, warnRaised := false, inFlight := none, timerDue := false
                                       inReplay := false, prepAfter := false, seatWait := none, stopAsked := false, runLeft := none }) b
  setF b R.TLY_STROKE_STATUS.state 0 0

/-- Return the stroke block to idle. -/
def strokeIdle (b : Body) : Body := noteRun b (strokeStop b)

/-- TLY_STROKE_CTRL.enable takes a value (R255, R328). -/
def putEnable (v : Bool) (b : Body) : Body :=
  let b := setFlag b R.TLY_STROKE_CTRL.enable 0 v
  if v then b else strokeStop b

/-- A write of TLY_STROKE_CTRL.enable (R255, R328). -/
def writeEnable (v : Bool) (b : Body) : Body := noteRun b (putEnable v b)

/-- TELEGRAM_START (R228, R232, R244, R247, R248). -/
def execTelegramStart (h : TelHead) (b : StartBody) (s : State) : Host.Outcome State Fault Refusal := lift (startTel h b) s

/-- ARM_START (R248). -/
def execArmStart (h : TelHead) (b : StartBody) (s : State) : Host.Outcome State Fault Refusal := lift (armTel h b) s

/-- TELEGRAM_HEADROOM (R232-R236). -/
def execTelegramHeadroom (h : TelHead) (b : HeadroomBody) (s : State) : Host.Outcome State Fault Refusal := lift (headroomTel h b) s

/-- TELEGRAM_ARRIVE (R224, R225). -/
def execTelegramArrive (h : TelHead) (gen count : Nat) (s : State) : Host.Outcome State Fault Refusal := lift (arriveTel h gen count) s

/-- TELEGRAM_RELEASE (R225). -/
def execTelegramRelease (h : TelHead) (gen : Nat) (s : State) : Host.Outcome State Fault Refusal := lift (releaseTel h gen) s

/-- TELEGRAM_TALLY (R238). -/
def execTelegramTally (h : TelHead) (b : TallyBody) (s : State) : Host.Outcome State Fault Refusal := lift (tallyTel h b) s

/-- TELEGRAM_ECHO (R243). -/
def execTelegramEcho (h : TelHead) (b : EchoBody) (t4 : Nat) (s : State) : Host.Outcome State Fault Refusal := lift (echoTel h b t4) s

/-- HEADROOM_DEADLINE (R236). -/
def execHeadroomDeadline (level : Nat) (s : State) : Host.Outcome State Fault Refusal := lift (deadline level) s

/-- HEADROOM_PUBLISH (R31, R432). -/
def execHeadroomPublish (s : State) : Host.Outcome State Fault Refusal := lift publish s

/-- STROKE_TIMER_SEND (R240, R241). -/
def execStrokeTimerSend (s : State) : Host.Outcome State Fault Refusal := lift timerExpire s

/-- SEAT_SILENCE (R242). -/
def execSeatSilence (s : State) : Host.Outcome State Fault Refusal := lift seatSilence s

/-- SEAT_DELAY_MEASURE (R243). -/
def execSeatDelayMeasure (s : State) : Host.Outcome State Fault Refusal := lift measureDelay s

/-- CATCH_WARNING (R31, R244, R247). -/
def execCatchWarning (s : State) : Host.Outcome State Fault Refusal := lift catchWarning s

/-- DRIVE_END (R246). -/
def execDriveEnd (s : State) : Host.Outcome State Fault Refusal := lift driveEnd s

/-- SYNC_AUX_EDGE (R513). -/
def execSyncAuxEdge (s : State) : Host.Outcome State Fault Refusal := lift auxEdge s

/-- SYNC_AUX_WAIT_TIMEOUT (R513). -/
def execSyncAuxWaitTimeout (s : State) : Host.Outcome State Fault Refusal := lift auxTimeout s

/-- BARRIER_RELEASE (R64, R223, R225). -/
def execBarrierRelease (st ch : Nat) (s : State) : Host.Outcome State Fault Refusal :=
  onUnit (isStation st && decide (ch < 8)) (barrierRelease st ch) s

/-- STROKE_ENABLE_WRITE (R255). -/
def execStrokeEnableWrite (v : Bool) (s : State) : Host.Outcome State Fault Refusal := lift (writeEnable v) s

end Sys2Proof.Machine
end

