-- ==== Sys2Proof/Machine/Korrel.lean ====
section
/-! DEFINITION. Korrel ports, retry and credits, training, loss of a port and of a module, isolation (R256-R297). -/

namespace Sys2Proof.Machine

/-- A port of the module (R256). -/
def isPort (p : Nat) : Bool := decide (p < 18)
/-- A module index (R252). -/
def isModule (m : Nat) : Bool := decide (m < 16384)

/-- The state of a port (R296). -/
def portState (b : Body) (p : Nat) : Nat := getF b R.KLK_PORT_STATUS.state p

/-- Step 10 of start-up completes when no cabled port is still to come up or to fail (R278, R649, R653). -/
def notePorts (b : Body) : Body :=
  let open_ := fun (p : Nat) => flagF b R.KLK_PORT_STATUS.present p && flagF b R.KLK_PORT_CTRL.enable p
    && !flagF b R.KLK_PORT_STATUS.power_refused p && (([0, 1] : List Nat).contains (portState b p))
  if stepIsDone b 6 ∧ !stepIsDone b 10 ∧ !(List.range 18).any open_ then stepDone 10 b else b

/-- Change the state of a port; every link die shows the number of up switch ports (R295, R296). -/
def setPortState (p st : Nat) (b : Body) : Body :=
  let b := setF b R.KLK_PORT_STATUS.state p st
  let n := (switchPorts.filter (portUp b)).length
  notePorts (forEach (List.range 4) (fun d b => setF b R.KLK_DIE_STATUS.switch_up d n) b)

/-- An unsequenced flit of one hop (R265). -/
def hopFlit (p ftype : Nat) (body : List Nat) (b : Body) : Body :=
  putFlit p { ftype := ftype, vc := 0, seq := 0, destModule := 0, srcModule := moduleIndex b, flit := none, body := body } b

/-- Is a stream retried selectively (R275)? -/
def selective (b : Body) (p stream : Nat) : Bool := stream == 1 && getF b R.KLK_PORT_STATUS.level p == 2

/-- The sequence numbers of a stream that are missing: up to the highest kept flit, less the kept ones (R275). -/
def missingSeqs (s : KStream) : List Nat :=
  match s.kept.map (fun k => (k.seq + 4096 - s.expected) % 4096) with
  | [] => [s.expected]
  | ds => ((List.range (ds.foldl max 0)).map (fun i => (s.expected + i) % 4096)).filter (fun q => !(s.kept.map (·.seq)).contains q)

/-- The number of a stream. -/
def streamVc (stream : Nat) : Nat := if stream = 0 then 0 else 1

/-- Ask the far end to send from a number of a stream (R272, R275); the requests that are open are kept in order (R274). -/
def askFor (p stream : Nat) (qs : List Nat) (b : Body) : Body :=
  forEach qs (fun q b =>
    let b := updPort b p (fun pt =>
      let s := pt.stream (streamVc stream)
      pt.setStream (streamVc stream) { s with asked := if s.asked.any (fun x => x.1 == q) then s.asked else s.asked ++ [(q, 0)] })
    hopFlit p 2 [stream, q] (addSat b R.KLK_PORT_ERR.retries p 1)) b

/-- What a stream still lacks: at level 2 each missing flit, else all from the expected number (R272, R275). -/
def lacking (b : Body) (p stream : Nat) : List Nat :=
  let s := (kport b p).stream (streamVc stream)
  if selective b p stream then missingSeqs s else [s.expected]

/-- Ask the far end to send a stream again (R272, R275). -/
def askRetry (p stream : Nat) (b : Body) : Body := askFor p stream (lacking b p stream) b

/-- Ask for what is lacking and has not been asked for yet (R275). -/
def askNew (p stream : Nat) (b : Body) : Body :=
  let s := (kport b p).stream (streamVc stream)
  askFor p stream ((lacking b p stream).filter (fun q => !s.asked.any (fun x => x.1 == q))) b

/-- A bulk request from another module names its station by the logical number, which this module's die map serves (R66, R267; log entry
59): none where the entry is invalid. -/
def inboundDst (b : Body) (f : Flit) : Option Nat := if f.dst < 1024 then physOf b (f.dst / 64) (f.dst % 64) else some f.dst

/-- Is the type of a telegram reserved (R231)? It is the first byte of its flit. -/
def reservedTel (f : Flit) : Bool := !([1, 2, 3, 4, 5, 6, 7] : List Nat).contains ((f.payload.headD none).getD 0).toNat

/-- The ranges of 1 MiB blocks with the block of an address among them (R317). -/
def addBlock (a : Nat) : List (Nat × Nat) → List (Nat × Nat)
  | [] => [(a / 1048576 * 1048576, 1048576)]
  | r :: rs => if r.1 ≤ a ∧ a < r.1 + r.2 then r :: rs
      else if a / 1048576 * 1048576 = r.1 + r.2 then (r.1, r.2 + 1048576) :: rs
      else r :: addBlock a rs

/-- A bulk copy that arrives over VC6 from the partner, or from the stand-in of a fill, is part of the ranges this module holds (R318, R325). -/
def noteHeld (vc m : Nat) (f : Flit) (b : Body) : Body :=
  let from_ := (b.fail.pair.map (·.partner)) == some m || (b.flock.filling && (b.fail.fill.map (·.standin)) == some m)
  if vc = 6 ∧ from_ ∧ !f.isRead ∧ 1024 ≤ f.dst ∧ f.dst < 2048 then { b with fail := { b.fail with held := addBlock f.addr b.fail.held } } else b

/-- A fabric flit that has come from another module (R267): the link die forms it again. Bulk requests and mirrored entries go on to their
endpoint, a drover's data to its destination, acknowledgements and errors to the requester. A telegram or a Shepherd frame is acted on by its
own command (log entry 58); a reserved telegram type is discarded and counted (R232). -/
def deliverFabric (p vc : Nat) (m : Nat) (f : Flit) (b : Body) : Body :=
  let here := some (16 + portDie p)
  let at_ := lnkEp (portDie p)
  let sysOf := fun (a : Nat) => (⟨1, m, a % 2 ^ 48⟩ : SysAddr).pack
  match f.kind with
  | .droverBulk =>
    match inboundDst b f with
    | none => respond { f with origin := some m } 1 (errorFor f 3 f.addr) b
    | some x => sendFlit { f with origin := some m, dst := x, pos := here, via := none } (noteHeld vc m f b)
  | .readResponse =>
    match f.drv with
    | none => b
    | some dr => forwardRead at_ dr f.tag f.piece f.staged f.dest (f.payload.map (fun x => x.getD 0)) b
  | .writeAck => if 1024 ≤ f.dst ∧ f.dst < 2048 then mirrorAck (f.dst - 1024) f.addr b
    else sendFlit { f with origin := none, src := at_, pos := none, via := none } b
  | .errorResponse => if 1024 ≤ f.dst ∧ f.dst < 2048 then mirrorRefused (f.dst - 1024) f.addr b
    else sendFlit { f with origin := none, src := at_, pos := none, via := none, addr := sysOf f.addr } b
  | .strokeStart => b
  | .tallySignal => b
  | .telegram => whenB (reservedTel f) (fun b => addSat b R.TLY_TELEGRAM_ERR2.level 0 1) b
  | _ => b

/-- An accepted flit is passed on and its credit freed (R270, R287 step 3). -/
def acceptKorrel (p : Nat) (k : KFlit) (b : Body) : Body :=
  let b := updPort b p (fun pt => { pt with freed := SMap.upd pt.freed 0 k.vc (fun n => (n + 1) % 65536) })
  if flagF b R.KLK_ROUTE.lost k.srcModule then addSat b R.KLK_LOSS_LOG.dropped (portDie p) 1
  else match k.ftype, k.flit with
    | 1, some f => if k.destModule = moduleIndex b then deliverFabric p k.vc k.srcModule f b else b
    | _, _ => b

/-- Deliver kept flits while the next expected one is among them (R275). -/
def deliverKept (p stream : Nat) : Nat → Body → Body
  | 0, b => b
  | fuel + 1, b =>
    let s := (kport b p).stream (streamVc stream)
    match s.kept.find? (fun k => k.seq == s.expected) with
    | none => b
    | some k =>
      let b := updPort b p (fun pt => pt.setStream (streamVc stream)
        { s with expected := (s.expected + 1) % 4096, kept := s.kept.filter (fun x => x.seq != s.expected)
                 asked := s.asked.filter (fun x => x.1 != s.expected) })
      deliverKept p stream fuel (acceptKorrel p k b)

/-- A sequenced flit with a good CRC (R272, R275). -/
def takeSequenced (p : Nat) (k : KFlit) (b : Body) : Body :=
  let stream := if k.vc = 0 then 0 else 1
  let s := (kport b p).stream k.vc
  if k.seq = s.expected then
    let b := updPort b p (fun pt => pt.setStream k.vc { s with expected := (s.expected + 1) % 4096
                                                               asked := s.asked.filter (fun x => x.1 != k.seq) })
    deliverKept p stream 64 (acceptKorrel p k b)
  else if (s.expected + 4096 - k.seq) % 4096 < 2048 then b
  else if selective b p stream then
    let have_ := (s.kept.map (·.seq)).contains k.seq
    let b := if have_ ∨ 64 ≤ s.kept.length then b
      else updPort b p (fun pt => pt.setStream k.vc { s with kept := s.kept ++ [k], asked := s.asked.filter (fun x => x.1 != k.seq) })
    askNew p stream b
  else askNew p stream b

/-- Free the retry-buffer entries that the acknowledgements cover (R273). -/
def takeAcks (p ack0 ack1 : Nat) (b : Body) : Body :=
  updPort b p (fun pt => { pt with s0 := { pt.s0 with unacked := pt.s0.unacked.filter (fun k => !ackCovers ack0 k.seq) }
                                   s1 := { pt.s1 with unacked := pt.s1.unacked.filter (fun k => !ackCovers ack1 k.seq) } })

/-- Read the credit fields of a flit (R270). -/
def takeCredits (p : Nat) (cs : List Nat) (b : Body) : Body :=
  forEach (List.range 8) (fun v b =>
    let c := cs.getD v 0 % 16
    let more := (c + 16 - SMap.get (kport b p).lastField 0 v) % 16
    let b := updPort b p (fun pt => { pt with lastField := SMap.put pt.lastField 0 v c })
    setF b R.KLK_PORT_CREDIT.held (creditIx p v) (getF b R.KLK_PORT_CREDIT.held (creditIx p v) + more)) b

/-- A flit arrives at a port (R265, R270, R272, R273, R275, R296). -/
def korrelReceive (p : Nat) (r : KRecv) (b : Body) : Body :=
  let b := addSat (addSat b R.KLK_PORT_FEC.corrected p r.fecFixed) R.KLK_PORT_FEC.uncorrectable p r.fecBad
  if !portUp b p then b
  else if !r.crcOk ∨ 7 ≤ r.k.ftype then
    let b := updPort (addSat b R.KLK_PORT_ERR.crc_fail p 1) p (fun pt => { pt with cleanSince := b.now })
    askRetry p 1 (askRetry p 0 b)
  else
    let b := takeCredits p r.credits (takeAcks p r.ack0 r.ack1 b)
    let b := if r.k.ftype = 1 ∨ 4 ≤ r.k.ftype then takeSequenced p r.k b else b
    drainPort p ((kport b p).waiting.length) b

/-- The body of a control flit of this module (R266): ctl, peer_kind, peer_id, peer_port, levels, credits, retry_depth. -/
def ctlBody (b : Body) (p ctl : Nat) (credits : List Nat) : List Nat :=
  [ctl, 0, moduleIndex b, p, getF b R.KLK_DIE_ID.level_min (portDie p), getF b R.KLK_DIE_ID.level_max (portDie p)]
    ++ (List.range 8).map (fun v => credits.getD v 0) ++ [512]

/-- A CREDIT_SYNC of this port (R266, R270). -/
def creditSyncSend (p : Nat) (b : Body) : Body :=
  if portUp b p then hopFlit p 3 (ctlBody b p 4 ((List.range 8).map (fun v => SMap.get (kport b p).freed 0 v))) b else b

/-- A retry request arrives (R270, R273, R275). -/
def retryRequest (p stream seq : Nat) (b : Body) : Body :=
  if !portUp b p then b
  else
    let s := (kport b p).stream (streamVc stream)
    let from_ := s.unacked.dropWhile (fun k => k.seq != seq % 4096)
    let fs := if selective b p stream then from_.take 1 else from_
    creditSyncSend p (forEach fs (putFlit p) b)

/-- The TRAIN_ID of this port (R266, R268, R278). -/
def sendTrainId (p : Nat) (b : Body) : Body :=
  let b := updPort b p (fun pt => { pt with idSent := true })
  hopFlit p 3 (ctlBody b p 1 [32, 96, 96, 256, 256, 160, 96, 32]) b

/-- A port starts to train (R278, R279). -/
def startTraining (p : Nat) (b : Body) : Body :=
  let b := updPort b p (fun pt => { pt with locked := false, idSent := false, idSeen := false, doneSent := false, doneSeen := false
                                            traffic := false })
  let b := setFlag (setF b R.KLK_PORT_STATUS.level p 0) R.KLK_PORT_PEER.valid p false
  setPortState p 1 b

/-- A flit that has lost its port goes to the port its flow now uses; where none is left its request ends with fault
unreachable (R191, R283). -/
def rehash (k : KFlit) (b : Body) : Body :=
  let src := (k.flit.map (·.src)).getD 0
  let dst := (k.flit.map (·.dst)).getD 0
  match (if k.ftype = 4 then switchPorts.find? (portLive b) else choosePort b k.destModule src dst) with
  | some p => portSend p k b
  | none => match k.flit with
    | some f => match f.drv with
      | some dr => transferFault dr f.tag 8 0 (⟨1, k.destModule, f.addr⟩ : SysAddr).pack b
      | none => b
    | none => b

/-- Take a port out of service and give its flits to others (R283, R284); a failed port stays so (R279). -/
def portDown (p st : Nat) (b : Body) : Body :=
  let pt := kport b p
  let left := pt.s0.unacked ++ pt.s1.unacked ++ pt.waiting
  let b := updPort b p (fun pt => { pt with s0 := KStream.reset, s1 := KStream.reset, waiting := [], traffic := false })
  let b := setPortState p (if getF b R.KLK_PORT_STATUS.state p = 6 then 6 else st) (setF b R.KLK_PORT_STATUS.level p 0)
  forEach (left.filter (fun k => k.ftype = 1 ∨ k.ftype = 4 ∨ k.ftype = 5)) rehash b

/-- The address concerned in a transfer that can no longer reach a module (R209): its first flit in flight towards it, else the end of its
descriptor there. -/
def unreachableAddr (b : Body) (f : Nat → Bool) (t : Transfer) : Nat :=
  match t.flying.find? (fun x => f x.moduleIx) with
  | some x => (⟨1, x.moduleIx, x.addr⟩ : SysAddr).pack
  | none => match sysTarget b t.desc.dst t.desc.length true with
    | some (m, _) => if f m then t.desc.dst else t.desc.src
    | none => t.desc.src

/-- End the requests to other modules that satisfy a test with fault unreachable (R191, R287, R289). -/
def endRequests (f : Nat → Bool) (b : Body) : Body :=
  forEach b.drovers (fun e b =>
    match e.2.transfers.find? (fun t => t.modules.any f) with
    | none => b
    | some t => transferFault e.1 t.id 8 0 (unreachableAddr b f t) b) b

/-- The staged writes that wait on a mirror in another module end with fault unreachable when this module isolates itself (R198, R289). -/
def endMirrorWaits (b : Body) : Body :=
  forEach (List.range 12) (fun k b =>
    let ws := (stk b k).mirrorWait
    forEach ws (fun w b => transferFault w.drv w.transfer 8 0 w.home b) (updStk b k (fun t => { t with mirrorWait := [] }))) b

/-- Isolate the module (R289): every port is held, what is on its way to one is dropped, outstanding requests to other modules end, the run is
over and the module takes part in no other before it joins a flock again. -/
def isolateModule (b : Body) : Body :=
  if isolated b then b
  else
    let old := b
    let b := forEach (List.range 4) (fun n b => setFlag b R.KLK_DIE_STATUS.isolated n true) b
    let b := forEach (List.range 18) (fun p b =>
      setPortState p 7 (setF (updPort b p (fun pt => { pt with s0 := KStream.reset, s1 := KStream.reset, waiting := [], traffic := false }))
        R.KLK_PORT_STATUS.level p 0)) b
    let b := { b with korrel := { b.korrel with probes := [], everUp := false }, fabric := b.fabric.filter (fun f => f.via.isNone) }
    let b := updFlock (fun f => { f with barred := true }) b
    report .isolated (noteRun old (strokeStop (endMirrorWaits (endRequests (fun m => m != moduleIndex b) b))))

/-- Send a LOSS to the neighbours on the tree other than the one it came from (R231, R287 step 6, R288). -/
def sendLoss (body : LossBody) (src : Option Nat) (sender : Nat) (b : Body) : Body :=
  if !flagF b R.TLY_SEAT.valid 0 then b
  else
    let ms := strokeMembers b
    let tos := ((treeParent b ms).toList ++ treeChildren b ms).filter (fun n => some n != src)
    forEach tos (fun n b =>
      let h := telHead b 6 n b.flock.flockId (strokeNum b) false
      let g := { h.1 with sender := sender }
      sendTel n 6 (telBytes 6 g body.bytes) (emit (.telLoss n g body) h.2)) b

/-- Record a declaration on every link die (R287 step 7, R295). -/
def logLoss (m reason det : Nat) (fromTel : Bool) (b : Body) : Body :=
  forEach (List.range 4) (fun d b =>
    let b := setF b R.KLK_LOSS_LOG.moduleIx d m
    let b := setF b R.KLK_LOSS_LOG.reason d reason
    let b := setF b R.KLK_LOSS_LOG.detector d det
    let b := setFlag b R.KLK_LOSS_LOG.from_telegram d fromTel
    let b := setF b R.KLK_LOSS_LOG.dropped d 0
    let b := setFlag b R.KLK_LOSS_LOG.valid d true
    addSat b R.KLK_LOSS_LOG.declarations d 1) b

/-- Barriers and combinations that a lost module no longer holds up (R226, R287 step 4). -/
def liveSetShrank (b : Body) : Body :=
  let fs := (b.flock.plan.map (fun p => p.flocks.map (·.id))).getD []
  headroomReady (forEach (fs.filter (fun f => decide (1 < (flockModules b flockDepth f).length))) arriveUp b)

/-- Drop what is queued for a lost module, on its way to a port or at one (R287 step 2, R291): a sequence number stays in use by a flit without units. -/
def dropFlitsTo (m : Nat) (b : Body) : Body :=
  let blank := fun (s : KStream) => { s with unacked := s.unacked.map (fun k => if k.destModule = m then { k with flit := none, body := [] } else k) }
  forEach (List.range 18) (fun p b => updPort b p (fun pt =>
    { pt with s0 := blank pt.s0, s1 := blank pt.s1, waiting := pt.waiting.filter (fun k => k.destModule != m) }))
    { b with fabric := b.fabric.filter (fun f => f.via.map (·.1) != some m) }

/-- Declare a module lost (R285, R287). -/
def declareLost (m reason det : Nat) (fromTel : Option Nat) (sender : Nat) (b : Body) : Body :=
  if flagF b R.KLK_ROUTE.lost m ∨ m = moduleIndex b then b
  else
    let wasSeat := flagF b R.TLY_SEAT.valid 0 && getF b R.TLY_SEAT.seat 0 == m
    let b := setFlag b R.KLK_ROUTE.lost m true
    let b := { b with korrel := { b.korrel with probes := b.korrel.probes.filter (fun p => p.moduleIx != m) } }
    let b := endRequests (· == m) (dropFlitsTo m b)
    let b := if wasSeat then seatGone b else b
    let b := forEach (List.range 12) (fun k b =>
      if flagF b R.MEM_MIR_CFG.enable k ∧ getF b R.MEM_MIR_CFG.partner k = m then mirrorLost k b else b) b
    let b := sendLoss ⟨m, reason, det⟩ fromTel sender b
    liveSetShrank (report (.moduleLost m) (raiseVec 28 <| logLoss m reason det fromTel.isSome b))

/-- A LOSS naming this module (R290). -/
def falseDeclared (b : Body) : Body :=
  let b := forEach (List.range 4) (fun d b => setFlag b R.KLK_DIE_STATUS.false_declared d true) b
  report .falseDeclared (isolateModule (writeEnable false b))

/-- A LOSS telegram (R285, R288, R290). -/
def lossTel (h : TelHead) (body : LossBody) (b : Body) : Body :=
  telIn 6 h (fun b =>
    if body.lost = moduleIndex b then falseDeclared b
    else declareLost body.lost body.reason body.detector (some h.nbr) h.sender b) b

/-- The module at the far end of a direct pair, where both ends have told it (R257, R285). -/
def pairPeer (b : Body) (k : Nat) : Option Nat :=
  ((directPair k).find? (fun p => getF b R.KLK_PORT_PEER.peer_kind p == 0 && (kport b p).upBefore)).map
    (fun p => getF b R.KLK_PORT_PEER.peer_id p)

/-- A probe to a module through the switched set (R285). -/
def sendProbe (m reason : Nat) (b : Body) : Body :=
  if flagF b R.KLK_ROUTE.lost m ∨ (b.korrel.probes.any (fun p => p.moduleIx == m)) then b
  else
    let seq := (b.korrel.probeSeq + 1) % 256
    let b := { b with korrel := { b.korrel with probeSeq := seq, probes := b.korrel.probes ++ [⟨m, seq, reason⟩] } }
    match switchPorts.find? (portLive b) with
    | none => b
    | some p => portSend p { ftype := 4, vc := 0, seq := 0, destModule := m, srcModule := moduleIndex b, flit := none, body := [seq] } b

/-- A direct pair has lost both ports (R285). -/
def pairLost (k : Nat) (b : Body) : Body :=
  if (directPair k).any (portUp b) then b
  else match pairPeer b k with
    | none => b
    | some m => sendProbe m (if (directPair k).any (fun p => getF b R.KLK_PORT_LOSS.cause p == 2) then 1 else 0) b

/-- Do the latest notices of every switch tray to which this module has an up port say that a module is gone (R285)? -/
def noticedLost (b : Body) (m : Nat) : Bool :=
  let trays := ((switchPorts.filter (portUp b)).map trayOf).eraseDups
  !trays.isEmpty && trays.all (fun t => SMap.get b.korrel.notices 0 (t * 16384 + m) == 1)

/-- Declare a module lost where the notices say so (R285). -/
def noticeCheck (m : Nat) (b : Body) : Body := whenB (noticedLost b m) (declareLost m 0 (moduleIndex b) none (moduleIndex b)) b

/-- Every module of which a notice has come is looked at again, after the loss of a switch port (R285). -/
def noticesAll (b : Body) : Body := forEach ((b.korrel.notices.map (fun x => x.1 % 16384)).eraseDups) noticeCheck b

/-- A port is lost (R279, R284, R289). -/
def portLost (p cause : Nat) (b : Body) : Body :=
  if portState b p ≠ 2 ∧ portState b p ≠ 1 then b
  else
    let wasUp := portUp b p
    let b := addSat (setF b R.KLK_PORT_LOSS.cause p cause) R.KLK_PORT_LOSS.count p 1
    let ls := (kport b p).losses.filter (fun t => decide (b.now < t + 60000000000)) ++ [b.now]
    let b := updPort b p (fun pt => { pt with losses := ls, lostAt := b.now })
    let b := report (.port p) (raiseVec 28 <| portDown p (if 16 ≤ ls.length then 6 else 3) b)
    match pairOfPort p with
    | some k => if wasUp then pairLost k b else b
    | none => if wasUp ∧ b.korrel.everUp ∧ !switchPorts.any (portUp b) then isolateModule b else whenB wasUp noticesAll b

/-- The oldest request for retry of a stream has not been met within 2 µs (R274). -/
def retryTimeout (p stream : Nat) (b : Body) : Body :=
  let s := (kport b p).stream (streamVc stream)
  match s.asked with
  | [] => b
  | (q, n) :: rest =>
    if !portUp b p then b
    else if 2 ≤ n then portLost p 2 b
    else askFor p stream [q] (updPort b p (fun pt => pt.setStream (streamVc stream) { s with asked := rest ++ [(q, n + 1)] }))

/-- An idle flit (R270, R276). -/
def idleSend (p : Nat) (b : Body) : Body := if portUp b p then hopFlit p 0 [] b else b

/-- A CREDIT_SYNC arrives (R270). -/
def creditSync (p : Nat) (counts : List Nat) (b : Body) : Body :=
  if !portUp b p then b
  else
    let b := forEach (List.range 8) (fun v b =>
      let c := counts.getD v 0 % 65536
      let out := (SMap.get (kport b p).sent 0 v + 65536 - c) % 65536
      let b := updPort b p (fun pt => { pt with lastField := SMap.put pt.lastField 0 v (c % 16) })
      setF b R.KLK_PORT_CREDIT.held (creditIx p v) (getF b R.KLK_PORT_CREDIT.announced (creditIx p v) - out)) b
    drainPort p ((kport b p).waiting.length) b

/-- A cable is inserted (R263): it is held in reset until its presence is stable. -/
def cableInsert (p : Nat) (b : Body) : Body :=
  setFlag (updPort b p (fun pt => { pt with insertedAt := b.now, released := false })) R.KLK_PORT_STATUS.present p true

/-- A cable is removed (R263, R284); a failed port stays failed (R279). -/
def cableRemove (p : Nat) (b : Body) : Body :=
  if !flagF b R.KLK_PORT_STATUS.present p then b
  else
    let b := portLost p 3 b
    let b := setFlag b R.KLK_PORT_STATUS.present p false
    let b := setF (setFlag b R.KLK_PORT_STATUS.power_refused p false) R.KLK_PORT_STATUS.cable p 0
    let b := updPort b p (fun pt => { pt with released := false, locked := false })
    if portState b p = 7 ∨ portState b p = 6 then b else setPortState p 0 b

/-- Presence has been stable for 100 ms (R263, R278): the cable is released and its identity read. -/
def presenceStable (p cable watts : Nat) (b : Body) : Body :=
  if !flagF b R.KLK_PORT_STATUS.present p then b
  else
    let b := setF (updPort b p (fun pt => { pt with released := true })) R.KLK_PORT_STATUS.cable p cable
    if 15 < watts then notePorts (setFlag b R.KLK_PORT_STATUS.power_refused p true)
    else if portState b p = 0 ∧ flagF b R.KLK_PORT_CTRL.enable p then startTraining p b else b

/-- Lane alignment is reached (R261, R278), or the port reaches it under no permitted lane order and fails training, which is a loss of cause phy
(R279, R653; log entry 68). -/
def laneLock (p polarity : Nat) (reversed ok : Bool) (b : Body) : Body :=
  if portState b p = 1 ∧ ok then
    let b := setFlag (setF b R.KLK_PORT_STATUS.polarity p polarity) R.KLK_PORT_STATUS.reversed p reversed
    sendTrainId p (updPort b p (fun pt => { pt with locked := true }))
  else if portState b p = 1 then portLost p 3 b
  else b

/-- Does the far end keep the cabling rule (R257)? Direct ports are compared with those whose peers are known. -/
def cabledRight (b : Body) (p : Nat) (t : TrainBody) : Bool :=
  match pairOfPort p with
  | none => t.peerKind == 1 && t.peerId == trayOf p
  | some k =>
    t.peerKind == 0 && t.peerId != moduleIndex b
      && (List.range 3).all (fun j => (directPair j).all (fun q =>
        q == p || !flagF b R.KLK_PORT_PEER.valid q
          || (if j = k then getF b R.KLK_PORT_PEER.peer_id q == t.peerId else getF b R.KLK_PORT_PEER.peer_id q != t.peerId)))

/-- A port comes up (R278 step 6, R279). -/
def bringUp (p : Nat) (b : Body) : Body :=
  let again := (kport b p).upBefore
  let b := forEach (List.range 8) (fun v b => setF b R.KLK_PORT_CREDIT.held (creditIx p v) (getF b R.KLK_PORT_CREDIT.announced (creditIx p v))) b
  let b := updPort b p (fun pt => { pt with s0 := KStream.reset, s1 := KStream.reset, sent := [], freed := [], lastField := [], turn := 0
                                            quota := 0, traffic := !again, upBefore := true, cleanSince := b.now })
  let b := if (pairOfPort p).isNone then { b with korrel := { b.korrel with everUp := true } } else b
  let b := setPortState p 2 (setF b R.KLK_PORT_STATUS.level p (kport b p).level)
  drainPort p ((kport b p).waiting.length) b

/-- A TRAIN_ID arrives (R257, R277, R278). -/
def trainId (p : Nat) (t : TrainBody) (b : Body) : Body :=
  if portState b p ≠ 1 ∨ !(kport b p).locked then b
  else
    let ok := cabledRight b p t
    let b := setF b R.KLK_PORT_PEER.peer_id p t.peerId
    let b := setF b R.KLK_PORT_PEER.peer_kind p t.peerKind
    let b := setF b R.KLK_PORT_PEER.peer_port p t.peerPort
    let b := setFlag b R.KLK_PORT_PEER.valid p true
    let b := forEach (List.range 8) (fun v b => setF b R.KLK_PORT_CREDIT.announced (creditIx p v) (t.credits.getD v 0)) b
    let lv := min t.levelHi (getF b R.KLK_DIE_ID.level_max (portDie p))
    if !ok then report (.miscabled p) (setPortState p 4 b)
    else if lv < t.levelLo ∨ lv < getF b R.KLK_DIE_ID.level_min (portDie p) then setPortState p 5 b
    else
      let b := updPort b p (fun pt => { pt with level := lv })
      let b := if (kport b p).idSent then b else sendTrainId p b
      let b := hopFlit p 3 (ctlBody b p 2 []) (updPort b p (fun pt => { pt with idSeen := true, doneSent := true }))
      if (kport b p).doneSeen then bringUp p b else b

/-- A TRAIN_DONE arrives (R278). -/
def trainDone (p : Nat) (b : Body) : Body :=
  if portState b p ≠ 1 then b
  else
    let b := updPort b p (fun pt => { pt with doneSeen := true })
    if (kport b p).idSeen then bringUp p b else b

/-- TRAIN_ID is repeated every 10 µs until the far end's arrives (R278). -/
def trainRepeat (p : Nat) (b : Body) : Body :=
  if portState b p = 1 ∧ (kport b p).locked ∧ !(kport b p).idSeen then sendTrainId p b else b

/-- A lost port trains again after 10 ms (R279). -/
def retrainTimer (p : Nat) (b : Body) : Body :=
  if portState b p = 3 ∧ flagF b R.KLK_PORT_STATUS.present p ∧ flagF b R.KLK_PORT_CTRL.enable p then startTraining p b else b

/-- A port that came up again may carry traffic (R279). -/
def trafficEnable (p : Nat) (b : Body) : Body :=
  if portUp b p then
    let b := updPort b p (fun pt => { pt with traffic := true })
    drainPort p ((kport b p).waiting.length) b
  else b

/-- Firmware writes KLK_PORT_CTRL.retrain (R279, R296): a port held down by enable 0 or by isolation does not train. -/
def portRetrain (p : Nat) (b : Body) : Body :=
  let go := flagF b R.KLK_PORT_STATUS.present p && !flagF b R.KLK_PORT_STATUS.power_refused p && flagF b R.KLK_PORT_CTRL.enable p && !isolated b
  let b := updPort b p (fun pt => { pt with losses := [] })
  let b := if portState b p = 6 then setPortState p 0 b else b
  if go then startTraining p (portDown p 1 b) else b

/-- A probe arrives (R266, R285). -/
def probeIn (p m seq : Nat) (b : Body) : Body :=
  if flagF b R.KLK_ROUTE.lost m then addSat b R.KLK_LOSS_LOG.dropped (portDie p) 1
  else if portLive b p then
    portSend p { ftype := 5, vc := 0, seq := 0, destModule := m, srcModule := moduleIndex b, flit := none, body := [seq] } b
  else b

/-- A probe reply arrives (R285, R291): a late one finds no probe. -/
def probeReply (m seq : Nat) (b : Body) : Body :=
  { b with korrel := { b.korrel with probes := b.korrel.probes.filter (fun p => !(p.moduleIx == m && p.seq == seq)) } }

/-- A probe has had no reply for 4 µs (R285). -/
def probeTimeout (m : Nat) (b : Body) : Body :=
  match b.korrel.probes.find? (fun p => p.moduleIx == m) with
  | none => b
  | some p => declareLost m p.reason (moduleIndex b) none (moduleIndex b) b

/-- A switch tray's notice (R285, R286). -/
def noticeIn (tray m : Nat) (up : Bool) (b : Body) : Body :=
  let b := { b with korrel := { b.korrel with notices := SMap.put b.korrel.notices 0 (tray * 16384 + m) (if up then 2 else 1) } }
  noticeCheck m b

/-- Firmware writes KLK_DIE_CTRL.rejoin of a link die (R289, R295). -/
def rejoin (n : Nat) (b : Body) : Body :=
  if !flagF b R.KLK_DIE_STATUS.isolated n then b
  else
    let b := setFlag b R.KLK_DIE_STATUS.isolated n false
    let b := { b with korrel := { b.korrel with everUp := false } }
    forEach ((List.range 18).filter (fun p => portDie p == n)) (fun p b =>
      if flagF b R.KLK_PORT_STATUS.present p ∧ !flagF b R.KLK_PORT_STATUS.power_refused p ∧ flagF b R.KLK_PORT_CTRL.enable p then startTraining p b
      else setPortState p 0 b) b

/-- Firmware writes a route entry (R280, R297): one copy stands for all. -/
def writeRoute (m kind pair : Nat) (clearLost : Bool) (b : Body) : Body :=
  let b := setF b R.KLK_ROUTE.kind m kind
  let b := if pair % 4 = 3 then b else setF b R.KLK_ROUTE.pair m pair
  if clearLost then setFlag b R.KLK_ROUTE.lost m false else b

/-- KORREL_FLIT_RECEIVE (R265, R267, R270, R272, R275). -/
def execKorrelFlitReceive (p : Nat) (r : KRecv) (s : State) : Host.Outcome State Fault Refusal := onUnit (isPort p) (korrelReceive p r) s

/-- KORREL_RETRY_REQUEST (R270, R273, R275). -/
def execKorrelRetryRequest (p stream seq : Nat) (s : State) : Host.Outcome State Fault Refusal :=
  onUnit (isPort p) (retryRequest p stream seq) s

/-- KORREL_RETRY_TIMEOUT (R274). -/
def execKorrelRetryTimeout (p stream : Nat) (s : State) : Host.Outcome State Fault Refusal := onUnit (isPort p) (retryTimeout p stream) s

/-- KORREL_IDLE_SEND (R270, R276). -/
def execKorrelIdleSend (p : Nat) (s : State) : Host.Outcome State Fault Refusal := onUnit (isPort p) (idleSend p) s

/-- KORREL_CREDIT_SYNC_SEND (R270). -/
def execKorrelCreditSyncSend (p : Nat) (s : State) : Host.Outcome State Fault Refusal := onUnit (isPort p) (creditSyncSend p) s

/-- CREDIT_SYNC (R270). -/
def execCreditSync (p : Nat) (counts : List Nat) (s : State) : Host.Outcome State Fault Refusal := onUnit (isPort p) (creditSync p counts) s

/-- KORREL_PORT_SILENCE (R276, R284). -/
def execKorrelPortSilence (p : Nat) (s : State) : Host.Outcome State Fault Refusal := onUnit (isPort p) (portLost p 1) s

/-- KORREL_LOSS_OF_LOCK (R262, R284). -/
def execKorrelLossOfLock (p : Nat) (s : State) : Host.Outcome State Fault Refusal := onUnit (isPort p) (portLost p 3) s

/-- CAGE_CABLE_INSERT (R263). -/
def execCageCableInsert (p : Nat) (s : State) : Host.Outcome State Fault Refusal := onUnit (isPort p) (cableInsert p) s

/-- CAGE_CABLE_REMOVE (R263, R284). -/
def execCageCableRemove (p : Nat) (s : State) : Host.Outcome State Fault Refusal := onUnit (isPort p) (cableRemove p) s

/-- CAGE_PRESENCE_STABLE (R263, R278). -/
def execCagePresenceStable (p cable watts : Nat) (s : State) : Host.Outcome State Fault Refusal :=
  onUnit (isPort p) (presenceStable p cable watts) s

/-- TRAIN_ID (R257, R278). -/
def execTrainId (p : Nat) (t : TrainBody) (s : State) : Host.Outcome State Fault Refusal := onUnit (isPort p) (trainId p t) s

/-- TRAIN_DONE (R278). -/
def execTrainDone (p : Nat) (s : State) : Host.Outcome State Fault Refusal := onUnit (isPort p) (trainDone p) s

/-- TRAIN_ID_REPEAT (R278). -/
def execTrainIdRepeat (p : Nat) (s : State) : Host.Outcome State Fault Refusal := onUnit (isPort p) (trainRepeat p) s

/-- PORT_RETRAIN_TIMER (R279). -/
def execPortRetrainTimer (p : Nat) (s : State) : Host.Outcome State Fault Refusal := onUnit (isPort p) (retrainTimer p) s

/-- PORT_TRAFFIC_ENABLE (R279). -/
def execPortTrafficEnable (p : Nat) (s : State) : Host.Outcome State Fault Refusal := onUnit (isPort p) (trafficEnable p) s

/-- KLK_PORT_RETRAIN (R279, R296). -/
def execKlkPortRetrain (p : Nat) (s : State) : Host.Outcome State Fault Refusal := onUnit (isPort p) (portRetrain p) s

/-- KORREL_PROBE (R266). -/
def execKorrelProbe (p m seq : Nat) (s : State) : Host.Outcome State Fault Refusal := onUnit (isPort p && isModule m) (probeIn p m seq) s

/-- KORREL_PROBE_REPLY (R285, R291). -/
def execKorrelProbeReply (m seq : Nat) (s : State) : Host.Outcome State Fault Refusal := onUnit (isModule m) (probeReply m seq) s

/-- PROBE_TIMEOUT (R285, R287). -/
def execProbeTimeout (m : Nat) (s : State) : Host.Outcome State Fault Refusal := onUnit (isModule m) (probeTimeout m) s

/-- KORREL_NOTICE (R285, R286). -/
def execKorrelNotice (tray m : Nat) (up : Bool) (s : State) : Host.Outcome State Fault Refusal :=
  onUnit (decide (tray < 6) && isModule m) (noticeIn tray m up) s

/-- TELEGRAM_LOSS (R285, R288, R290). -/
def execTelegramLoss (h : TelHead) (b : LossBody) (s : State) : Host.Outcome State Fault Refusal := lift (lossTel h b) s

/-- KLK_ISOLATE (R289, R295). -/
def execKlkIsolate (s : State) : Host.Outcome State Fault Refusal := lift isolateModule s

/-- KLK_REJOIN (R289, R295). -/
def execKlkRejoin (n : Nat) (s : State) : Host.Outcome State Fault Refusal := onUnit (decide (n < 4)) (rejoin n) s

/-- ROUTE_WRITE (R280, R297). -/
def execRouteWrite (m kind pair : Nat) (clearLost : Bool) (s : State) : Host.Outcome State Fault Refusal :=
  onUnit (isModule m) (writeRoute m kind pair clearLost) s

/-- KORREL_LANE_LOCK (R261, R278). -/
def execKorrelLaneLock (p polarity : Nat) (reversed ok : Bool) (s : State) : Host.Outcome State Fault Refusal :=
  onUnit (isPort p) (laneLock p polarity reversed ok) s

/-- CAGE_INTERRUPT (R263). -/
def execCageInterrupt (p : Nat) (s : State) : Host.Outcome State Fault Refusal := onUnit (isPort p) (report (.cage p)) s

end Sys2Proof.Machine
end

