-- ==== Sys2Proof/Machine/PlanOps.lean ====
section
/-! DEFINITION. The plan image: its layout, its checks and its loading (R99, R213, R214, R245, R249-R252, R429, R430). -/

namespace Sys2Proof.Machine

/-- A section of the directory (R249): type, length, offset. -/
abbrev Sect := Nat × Nat × Nat

/-- The bytes of a slice. -/
def slice (bs : List Byte) (off len : Nat) : List Byte := (bs.drop off).take len

/-- Entries of a fixed size from an offset on. -/
def records (bs : List Byte) (off size n : Nat) : List (List Byte) := (List.range n).map (fun i => slice bs (off + i * size) size)

/-- 16-bit words of a slice. -/
def halfWords (bs : List Byte) (off n : Nat) : List Nat := (List.range n).map (fun i => dfield bs (off + 2 * i) 2)

/-- A section directory of `n` entries at an offset (R249). -/
def directoryAt (bs : List Byte) (off n : Nat) : List Sect :=
  (records bs off 16 n).map (fun e => (dfield e 0 2, dfield e 4 4, dfield e 8 8))

/-- The section of a type: its bytes, none where it is absent. -/
def sectionOf (bs : List Byte) (dir : List Sect) (t : Nat) : Option (List Byte) :=
  (dir.find? (fun s => s.1 == t)).map (fun s => slice bs s.2.2 s.2.1)

/-- An entry of the stroke table (R245). -/
def kindAt (e : List Byte) : StrokeKind :=
  { leadUs := dfield e 2 2, nominalUs := dfield e 4 4, driveUs := dfield e 8 4, headroomOff := dfield e 12 4
    startOff := dfield e 16 4, profile := dfield e 20 4 }

/-- The rules of an entry of the stroke table (R245). -/
def kindOk (e : List Byte) (ix : Nat) : Bool :=
  let k := kindAt e
  dfield e 0 2 == ix && decide (20 ≤ k.leadUs ∧ k.leadUs ≤ 1000 ∧ 500 ≤ k.nominalUs ∧ k.nominalUs ≤ 2000000)
    && decide (1 ≤ k.driveUs ∧ k.driveUs + 1 ≤ k.nominalUs ∧ k.headroomOff + 50 ≤ k.startOff)
    && decide (k.startOff + k.leadUs + 100 ≤ k.nominalUs) && dfield e 24 8 == 0

/-- Does what an entry of a counted section names, an offset and a length, follow the entries within the section (R250)? -/
def sectionFits (sec : List Byte) (unit off len : Nat) : Bool :=
  off % unit == 0 && decide (16 + 16 * dfield sec 0 2 ≤ off ∧ off + len ≤ sec.length)

/-- The flock table (R213); an entry whose member list breaks R250 has no members. -/
def flocksAt (sec : List Byte) : List FlockEntry :=
  (records sec 16 16 (dfield sec 0 2)).map (fun e =>
    { id := dfield e 0 2, kind := dfield e 2 1 % 4, log2w := dfield e 3 1, parent := dfield e 6 2, moduleIx := dfield e 8 2 % 16384
      die := dfield e 10 1
      members := if sectionFits sec 2 (dfield e 12 4) (2 * dfield e 4 2) then halfWords sec (dfield e 12 4) (dfield e 4 2) else [] })

/-- A reduction shape (R99). -/
def shapeAt (e : List Byte) : Nat × List Nat := (dfield e 4 4, halfWords e 8 (dfield e 2 1))

/-- The rules of a reduction shape (R99). -/
def shapeOk (e : List Byte) (ix : Nat) : Bool :=
  let s := shapeAt e
  dfield e 0 2 == ix && decide (1 ≤ dfield e 2 1 ∧ dfield e 2 1 ≤ 8 ∧ 1 ≤ s.1) && dfield e 3 1 == 0
    && s.2.all (fun w => decide (1 ≤ w % 4096) && decide (w < 8192))
    && (s.2.map (· % 4096)).foldl (· * ·) 1 == s.1
    && dfield (e.drop (8 + 2 * dfield e 2 1)) 0 (16 - 2 * dfield e 2 1) == 0 && dfield e 24 8 == 0

/-- The station streams (R250); an entry whose bundles break R250 has none. -/
def streamsAt (sec : List Byte) : List Stream :=
  (records sec 16 16 (dfield sec 0 2)).map (fun e =>
    { die := dfield e 0 1, lst := dfield e 1 1
      bundles := if sectionFits sec 32 (dfield e 8 8) (32 * dfield e 2 2) then (records sec (dfield e 8 8) 32 (dfield e 2 2)).map ofLeBytes
        else [] })

/-- The station parameters (R250). -/
def paramsAt (sec : List Byte) : List StnParam :=
  (records sec 0 32 (sec.length / 32)).map (fun e =>
    { die := dfield e 0 1, lst := dfield e 1 1, trapMask := dfield e 2 1, entry := dfield e 4 2, seed := dfield e 8 8 })

/-- The resident regions (R250). -/
def regionsAt (sec : List Byte) : List Region :=
  (records sec 0 24 (sec.length / 24)).map (fun e =>
    { die := dfield e 0 1, lst := dfield e 1 1, off := dfield e 4 4, length := dfield e 8 4, addr := dfield e 16 8 })

/-- An entry of the energy profile (R429). -/
def profileAt (e : List Byte) : EnergyProfile :=
  { eFeather := dfield e 4 4, coreAFeather := dfield e 8 2
    points := (records e 32 16 (dfield e 2 1)).map (fun p =>
      { code := dfield p 0 2, coreMv := dfield p 2 2, pDrive := dfield p 4 4, pWait := dfield p 8 4, coreA := dfield p 12 2 }) }

/-- The staging layout by stack (R250): base and size in MiB; the stack is byte 0 of an entry. -/
def stagingAt (sec : List Byte) : List (Nat × Nat) :=
  (List.range 12).map (fun k =>
    ((records sec 0 16 12).find? (fun e => dfield e 0 1 == k)).elim (0, 0) (fun e => (dfield e 4 4, dfield e 8 2)))

/-- The staging layout holds one entry per stack (R250). -/
def stagingOk (sec : List Byte) : Bool :=
  sec.length == 192 && (List.range 12).all (fun k => ((records sec 0 16 12).filter (fun e => dfield e 0 1 == k)).length == 1)

/-- A variant (R250, R312): at its offset stands a directory of the three sections, by the form of R249 (log entry 24). -/
def variantAt (sec e : List Byte) : Variant :=
  let off := dfield e 8 8
  let dir := directoryAt sec off 3
  let body := fun t => (sectionOf sec dir t).getD []
  { die := dfield e 0 1, absent := dfield e 1 1, streams := streamsAt (body 4), params := paramsAt (body 5), regions := regionsAt (body 6) }

/-- The plan of an image whose sections keep R250. -/
def planOf (bs : List Byte) (addr length : Nat) : Plan :=
  let dir := directoryAt bs 64 (dfield bs 26 2)
  let body := fun t => (sectionOf bs dir t).getD []
  { planId := dfield bs 16 8, level := dfield bs 4 2, moduleIx := dfield bs 24 2 % 16384
    kinds := (records (body 1) 0 32 ((body 1).length / 32)).map kindAt
    flocks := flocksAt (body 2)
    shapes := (records (body 3) 0 32 ((body 3).length / 32)).map shapeAt
    streams := streamsAt (body 4), params := paramsAt (body 5), regions := regionsAt (body 6)
    staging := stagingAt (body 7)
    energy := (records (body 8) 64 160 (dfield (body 8) 0 4)).map profileAt
    variants := (records (body 9) 0 16 ((body 9).length / 16)).map (variantAt (body 9))
    addr := addr, length := length, crc := dfield bs 32 8 }

/-- Is a slice all zero (R12, R249, R250; log entry 24)? -/
def zeroAt (e : List Byte) (off n : Nat) : Bool := (slice e off n).all (· == 0)

/-- The fields of an entry of the station parameters keep R250. -/
def paramForm (e : List Byte) : Bool :=
  decide (dfield e 2 1 < 128) && zeroAt e 3 1 && decide (dfield e 4 2 < 4096) && zeroAt e 6 2 && zeroAt e 16 16

/-- The entries of a variant's three sections keep their forms (R250, R251). -/
def variantForm (sec e : List Byte) : Bool :=
  let dir := directoryAt sec (dfield e 8 8) 3
  let body := fun t => (sectionOf sec dir t).getD []
  let streams := body 4
  let params := body 5
  let regions := body 6
  slice streams 2 14 == List.replicate 14 0 && decide (16 + 16 * dfield streams 0 2 ≤ streams.length)
    && (records streams 16 16 (dfield streams 0 2)).all (fun x => dfield x 4 4 == 0)
    && params.length % 32 == 0 && (records params 0 32 (params.length / 32)).all paramForm
    && regions.length % 24 == 0 && (records regions 0 24 (regions.length / 24)).all (fun x => dfield x 2 2 == 0 && dfield x 12 4 == 0)

/-- A failed check of an image: status and detail (R251, R523). -/
abbrev PlanFail := Option (Nat × Nat)

/-- OUT_OF_RANGE with the section type and entry index (R523). -/
def planRange (ok : Bool) (sec ix : Nat) : PlanFail := if ok then none else some (0x0A, sec + ix * 65536)

/-- OUT_OF_RANGE at the first entry that breaks a rule. -/
def planEach {α : Type} (sec : Nat) (l : List α) (ok : α → Nat → Bool) : PlanFail :=
  (l.zipIdx.find? (fun p => !ok p.1 p.2)).map (fun p => (0x0A, sec + p.2 * 65536))

/-- The header and the directory keep R249 and R250: the reserved bytes, every entry in its order, no overlap, every type. -/
def sectionChecks (bs : List Byte) : PlanFail :=
  let img := dfield bs 8 8
  let n := dfield bs 26 2
  let dir := directoryAt bs 64 n
  let count := fun t => (dir.filter (fun s => s.1 == t)).length
  [ planRange (zeroAt bs 28 4 && zeroAt bs 40 24 && decide (dfield bs 24 2 < 16384) && decide (64 + 16 * n ≤ img)) 0 0,
    planEach 0 (records bs 64 16 n) (fun e i => dfield e 2 2 == 0 && decide (1 ≤ dfield e 0 2 ∧ dfield e 0 2 ≤ 9)
      && !((dir.take i).any (fun s => s.1 == dfield e 0 2)) && dfield e 8 8 % 64 == 0
      && decide (64 + 16 * n ≤ dfield e 8 8 ∧ dfield e 8 8 + dfield e 4 4 ≤ img)),
    planRange (dir.zipIdx.all (fun p => dir.zipIdx.all (fun q =>
      p.2 == q.2 || decide (p.1.2.2 + p.1.2.1 ≤ q.1.2.2) || decide (q.1.2.2 + q.1.2.1 ≤ p.1.2.2)))) 0 0,
    planRange ([1, 2, 3, 4, 5, 7, 8].all (fun t => count t == 1)) 0 0 ].findSome? id

/-- The entries of a counted section (R250), as raw bytes. -/
def counted (sec : List Byte) : List (List Byte) := records sec 16 16 (dfield sec 0 2)

/-- The header of a counted section (R250): its reserved bytes, and its entries within the section. -/
def countedOk (sec : List Byte) : Bool := zeroAt sec 2 14 && decide (16 + 16 * dfield sec 0 2 ≤ sec.length)

/-- The fields of a flock table entry keep R213, its list R250. -/
def flockForm (sec e : List Byte) : Bool :=
  let kind := dfield e 2 1
  let n := dfield e 4 2
  let parent := dfield e 6 2
  let top := if kind = 0 then 48 else if kind = 1 then 16 else 16384
  (dfield e 0 2 == 17 || decide (32 ≤ dfield e 0 2 ∧ dfield e 0 2 ≤ 16383)) && decide (kind ≤ 3 ∧ 1 ≤ n ∧ n ≤ 16384)
    && decide (23 ≤ dfield e 3 1 ∧ dfield e 3 1 ≤ 47) && (parent == 0xFFFF || decide (32 ≤ parent ∧ parent ≤ 16383))
    && decide (dfield e 8 2 < 16384) && (decide (kind < 2) || dfield e 8 2 == 0)
    && (if kind = 0 then decide (dfield e 10 1 < 16) else dfield e 10 1 == 0) && dfield e 11 1 == 0
    && sectionFits sec 2 (dfield e 12 4) (2 * n) && (halfWords sec (dfield e 12 4) n).all (fun m => decide (m < top))

/-- The first entry that names a station not wanted or named before, or a station that no entry names (R250, R251). -/
def stationEach (sec : Nat) (want : List (Nat × Nat)) (have_ : List (Nat × Nat)) (form : Nat → Bool) : PlanFail :=
  [ planEach sec have_ (fun x i => form i && want.contains x && !(have_.take i).contains x),
    planRange (want.all have_.contains) sec 0 ].findSome? id

/-- The window one member of a flock needs (R214). -/
def memberWindow (p : Plan) (e : FlockEntry) (m : Nat) : Nat :=
  match e.kind with
  | 0 => 2 ^ 23
  | 1 => 2 ^ 29
  | 2 => 2 ^ 33
  | _ => match p.flocks.find? (fun x => x.id == m) with
    | some x => 2 ^ (Nat.log2 (2 * (x.members.length * 2 ^ x.log2w) - 1))
    | none => 2 ^ 48 + 1

/-- The fixed-level domain of a flock's members (R26): kind, module and die of the stations, dies or modules it groups. -/
def flockDomain (p : Plan) : Nat → Nat → Option (Nat × Nat × Nat)
  | 0, _ => none
  | fuel + 1, f =>
    match p.flocks.find? (fun x => x.id == f) with
    | none => none
    | some e =>
      match e.kind with
      | 0 => some (0, e.moduleIx, e.die)
      | 1 => some (1, e.moduleIx, 0)
      | 2 => some (2, 0, 0)
      | _ => match e.members with
        | [] => none
        | m :: ms =>
          let d := flockDomain p fuel m
          if ms.all (fun x => flockDomain p fuel x == d) then d else none

/-- The number of levels above and including a flock within its domain (R27). -/
def chainLength (p : Plan) : Nat → Nat → Nat
  | 0, _ => 0
  | fuel + 1, f =>
    match p.flocks.find? (fun x => x.id == f) with
    | none => 0
    | some e => if e.id = 17 then 0 else 1 + chainLength p fuel e.parent

/-- The software-defined levels above a member code of a kind (R27). -/
def levelsAbove (p : Plan) (kind code md die : Nat) : Nat :=
  match p.flocks.find? (fun e => e.kind == kind && e.id != 17 && e.members.contains code
      && (kind == 2 || e.moduleIx == md) && (kind != 0 || e.die == die)) with
  | some e => chainLength p 9 e.id
  | none => 0

/-- The rules of a flock table entry (R213, R214). -/
def flockOk (p : Plan) (e : FlockEntry) : Bool :=
  let n := e.members.length
  let inRange := fun m => match e.kind with
    | 0 => decide (m < 48)
    | 1 => decide (m < 16)
    | 2 => decide (m < 16384)
    | _ => p.flocks.any (fun x => x.id == m && x.parent == e.id)
  let ofSystem := fun m => p.flocks.any (fun x => x.id == 17 && x.members.contains m)
  (e.id == 17 || decide (32 ≤ e.id ∧ e.id ≤ 16383)) && decide (23 ≤ e.log2w ∧ e.log2w ≤ 47 ∧ 1 ≤ n ∧ n ≤ 16384)
    && (p.flocks.filter (fun x => x.id == e.id)).length == 1
    && e.members.all (fun m => inRange m && decide (memberWindow p e m ≤ 2 ^ e.log2w)
      && (e.id == 17 || (p.flocks.filter (fun x => x.id != 17 && x.kind == e.kind && x.members.contains m
        && (e.kind == 2 || e.kind == 3 || x.moduleIx == e.moduleIx) && (e.kind != 0 || x.die == e.die))).length == 1))
    && e.members.eraseDups.length == n && decide (n * 2 ^ e.log2w ≤ 2 ^ 48)
    && (e.parent == 0xFFFF || (p.flocks.any (fun x => x.id == e.parent && x.kind == 3 && x.members.contains e.id)))
    && (flockDomain p 9 e.id).isSome
    && (e.id != 17 || (e.kind == 2 && decide (n ≤ 10240) && e.parent == 0xFFFF))
    && (match e.kind with
        | 0 => ofSystem e.moduleIx && decide (e.die < 16)
        | 1 => ofSystem e.moduleIx
        | 2 => e.members.all ofSystem
        | _ => true)

/-- No path has more than four software-defined levels (R27). -/
def levelsOk (p : Plan) : Bool :=
  p.flocks.all (fun e => e.id == 17 || e.members.all (fun m => decide ((match e.kind with
    | 0 => levelsAbove p 0 m e.moduleIx e.die + levelsAbove p 1 e.die e.moduleIx 0 + levelsAbove p 2 e.moduleIx 0 0
    | 1 => levelsAbove p 1 m e.moduleIx 0 + levelsAbove p 2 e.moduleIx 0 0
    | 2 => levelsAbove p 2 m 0 0
    | _ => 0) ≤ 4)))

/-- The stations that a plan must hold: those valid in the die map, but for one absent station of a variant (R251). -/
def planStations (b : Body) (absent : Option (Nat × Nat)) (die : Option Nat) : List (Nat × Nat) :=
  (List.range 16).flatMap (fun d => if die = none ∨ die = some d then
    (List.range 48).filterMap (fun l => if (physOf b d l).isSome ∧ some (d, l) ≠ absent then some (d, l) else none) else [])

/-- Exactly one entry for each of these stations, and none for another. -/
def oneEach (want have_ : List (Nat × Nat)) : Bool :=
  want.length == have_.length && want.all (fun x => (have_.filter (· == x)).length == 1)

/-- The rules of a stream: 1 to 4 096 bundles. -/
def streamOk (s : Stream) : Bool := decide (1 ≤ s.bundles.length ∧ s.bundles.length ≤ 4096)

/-- Does a range of stack memory meet a staging region of the image? -/
def meetsStaging (p : Plan) (a len : Nat) : Bool :=
  p.staging.zipIdx.any (fun r =>
    let base := r.2 * stackBytes + r.1.1 * 1048576
    decide (a < base + r.1.2 * 1048576 ∧ base < a + len))

/-- The rules of a resident region (R251), of one of the plan's stations. -/
def regionOk (p : Plan) (want : List (Nat × Nat)) (rs : List Region) (r : Region) (ix : Nat) : Bool :=
  want.contains (r.die, r.lst) && decide (32 ≤ r.length ∧ r.length ≤ 0x600000 ∧ r.off + r.length ≤ 0x600000) && r.off % 32 == 0 && r.length % 32 == 0 && r.addr % 32 == 0
    && decide (r.addr + r.length ≤ 12 * stackBytes) && !meetsStaging p r.addr r.length
    && rs.zipIdx.all (fun q => decide (ix ≤ q.2) || q.1.die != r.die || q.1.lst != r.lst || decide (q.1.off + q.1.length ≤ r.off)
      || decide (r.off + r.length ≤ q.1.off))

/-- Do values rise in this relation? -/
def rising (r : Nat → Nat → Bool) : List Nat → Bool
  | x :: y :: t => r x y && rising r (y :: t)
  | _ => true

/-- The rules of an entry of the energy profile (R429, R430). -/
def profileOk (b : Body) (e : List Byte) (ix : Nat) : Bool :=
  let p := profileAt e
  let n := dfield e 2 1
  dfield e 0 2 == ix && decide (1 ≤ n ∧ n ≤ 8) && dfield e 3 1 == 0 && dfield e 10 22 == 0 && decide (p.coreAFeather ≤ 660)
    && rising (fun x y => decide (x < y)) (p.points.map (·.code)) && rising (fun x y => decide (x ≤ y)) (p.points.map (·.coreMv))
    && (p.points.filter (fun x => x.code == 320)).length == 1
    && p.points.all (fun x => decide (80 ≤ x.code ∧ x.code ≤ 380 ∧ 600 ≤ x.coreMv ∧ x.coreMv ≤ 900 ∧ x.pWait ≤ x.pDrive ∧ x.pDrive ≤ 15000)
      && decide (x.coreA ≤ 660) && (List.range 16).all (fun d => decide (x.code ≤ vfLimit b d x.coreMv)))
    && (records e 32 16 n).all (fun x => dfield x 14 2 == 0) && dfield (e.drop (32 + 16 * n)) 0 (128 - 16 * n) == 0

/-- The checks of a variant (R251, R312). -/
def variantOk (b : Body) (p : Plan) (v : Variant) : Bool :=
  let want := planStations b (some (v.die, v.absent)) (some v.die)
  decide (v.die < 16 ∧ v.absent < 48) && oneEach want (v.streams.map (fun s => (s.die, s.lst)))
    && oneEach want (v.params.map (fun s => (s.die, s.lst))) && v.streams.all streamOk
    && v.regions.zipIdx.all (fun r => regionOk p want v.regions r.1 r.2)

/-- The checks of an image in the order of R251, on the bytes read from stack memory; `clean` is false where the read met an
uncorrectable unit, `me` is the module the image must be for, `level` the flock's plan-format level. -/
def planChecks (bs : List Byte) (length : Nat) (clean : Bool) (me : Option Nat) (level addr : Nat) (b : Body) : PlanFail :=
  let img := dfield bs 8 8
  let p := planOf bs addr length
  let dir := directoryAt bs 64 (dfield bs 26 2)
  let body := fun t => (sectionOf bs dir t).getD []
  let zeroed := bs.take 32 ++ List.replicate 8 0 ++ (bs.drop 40)
  let want := planStations b none none
  let sized := fun t size lo hi => planRange ((body t).length % size == 0 && decide (lo ≤ (body t).length / size ∧ (body t).length / size ≤ hi)) t 0
  [ if getF b R.TLY_STROKE_STATUS.state 0 = 0 then none else some (0x01, 2),
    planRange (dfield bs 0 4 == 0x4C50545A && dfield bs 6 2 == 64 && decide (64 ≤ img ∧ img ≤ length)) 0 0,
    if clean ∧ crc64 (zeroed.take img) = dfield bs 32 8 then none else some (0x04, 0),
    if p.level ≤ 1 ∧ p.level ≤ level then none else some (0x09, 1 + 256),
    planRange (match me with
      | some m => p.moduleIx == m
      | none => true) 0 0,
    sectionChecks bs,
    sized 3 32 1 4096, planEach 3 (records (body 3) 0 32 ((body 3).length / 32)) shapeOk,
    planRange (countedOk (body 2) && decide (1 ≤ p.flocks.length ∧ p.flocks.length ≤ 4096)) 2 0,
    planEach 2 (counted (body 2)) (fun e _ => flockForm (body 2) e), planRange (p.flocks.any (fun e => e.id == 17)) 2 0,
    planEach 2 p.flocks (fun e _ => flockOk p e), planRange (levelsOk p) 2 0,
    sized 1 32 1 256, planEach 1 (records (body 1) 0 32 ((body 1).length / 32)) kindOk,
    planRange (countedOk (body 4)) 4 0,
    stationEach 4 want (p.streams.map (fun s => (s.die, s.lst))) (fun i => (p.streams[i]?.map streamOk).getD false
      && zeroAt ((counted (body 4)).getD i []) 4 4),
    sized 5 32 0 1024,
    stationEach 5 want (p.params.map (fun s => (s.die, s.lst))) (fun i => paramForm (slice (body 5) (32 * i) 32)),
    planRange ((body 6).length % 24 == 0) 6 0,
    planEach 6 p.regions (fun r i => zeroAt (body 6) (24 * i + 2) 2 && zeroAt (body 6) (24 * i + 12) 4 && regionOk p want p.regions r i),
    planRange (stagingOk (body 7)) 7 0,
    planEach 7 (records (body 7) 0 16 12) (fun e _ => zeroAt e 1 3 && zeroAt e 10 6
      && decide (dfield e 8 2 ≤ 256 ∧ dfield e 4 4 + max 1 (dfield e 8 2) ≤ 81920)),
    planRange ((body 9).length % 16 == 0) 9 0,
    planEach 9 p.variants (fun v i => zeroAt (body 9) (16 * i + 2) 6 && variantForm (body 9) (slice (body 9) (16 * i) 16) && variantOk b p v),
    planRange (decide (1 ≤ p.energy.length ∧ p.energy.length ≤ 256) && zeroAt (body 8) 4 60
      && decide (64 + 160 * p.energy.length ≤ (body 8).length)) 8 0,
    planEach 1 p.kinds (fun k _ => decide (k.profile < p.energy.length)),
    planEach 8 (records (body 8) 64 160 (dfield (body 8) 0 4)) (profileOk b)
  ].findSome? id

/-- Load one station from a stream (R127, R252 step 1). -/
def loadStream (die lst : Nat) (bundles : List Nat) (b : Body) : Body :=
  match physOf b die lst with
  | none => b
  | some st => updStn b st (fun t => { t with istore := bundles.zipIdx.foldl (fun m p => SMap.put m 0 p.2 (BitVec.ofNat 256 p.1)) [], badIstore := [] })

/-- Load one station's parameters (R116, R118, R252 steps 1-2). -/
def loadParam (q : StnParam) (b : Body) : Body :=
  match physOf b q.die q.lst with
  | none => b
  | some st =>
    let b := setF b R.STN_SEQ_PC.pc st q.entry
    let b := updStn b st (fun t => { t with entry := q.entry })
    setF (setF b R.STN_ARITH_CTRL.trap_mask st q.trapMask) R.STN_ARITH_SEED.seed st q.seed

/-- Read a plan image out of stack memory (R251): an uncorrectable unit is recorded, but is no fault of R298, since the image belongs to no
plan in use. -/
def readPlanImage (addr len : Nat) (s : State) : (List Byte × List Nat) × State :=
  let r := readStack addr len s
  (r.1, onBody (fun b => { b with reports := s.body.reports }) r.2)

/-- Copy one resident region (R252 step 6). -/
def loadRegion (r : Region) (s : State) : State :=
  match physOf s.body r.die r.lst with
  | none => s
  | some st =>
    let x := readStack r.addr r.length s
    onBody (fun b => (writeSram b st r.off (x.1.1.map some)).2) x.2

/-- Every tally and tally shadow entry becomes 0 and every deferred store empty (R216, R252 step 3), at spares and absent stations too. -/
def clearTallies (b : Body) : Body :=
  { b with stations := (b.stations.map (fun e => (e.1, { e.2 with tallies := [], deferred := [] }))).filter (fun e => e.2 != Station.reset)
           shadow := []
           regs := b.regs.filter (fun e => e.1 % 1024 != R.TLY_STN_STATUS.deferred.idx) }

/-- Set the staging regions of a plan (R252 step 5). -/
def loadStaging (p : Plan) (b : Body) : Body :=
  forEach p.staging.zipIdx (fun r b => setF (setF b R.MEM_STG_BASE.base r.2 (r.2 * stackBytes + r.1.1 * 1048576)) R.MEM_STG_SIZE.size_mib r.2 r.1.2) b

/-- A loaded station waits for its first catch, its entry bundle set (R31, R252; log entry 25). -/
def awaitCatch (d l : Nat) (b : Body) : Body :=
  match physOf b d l with
  | none => b
  | some st =>
    let b := setFlag (setFlag b R.STN_CTRL.power_gate st false) R.STN_CTRL.run st true
    setF (updStn b st (fun t => { t with ended := true, syncDone := false, opened := [] })) R.STN_STATUS.state st 4

/-- All the valid logical stations. -/
def validStations (b : Body) : List (Nat × Nat) := planStations b none none

/-- Load a plan's streams, parameters, tallies and staging (R252 steps 1-5). -/
def loadPlanBody (p : Plan) (b : Body) : Body :=
  let b := forEach p.streams (fun s b => loadStream s.die s.lst s.bundles b) b
  let b := forEach p.params loadParam b
  let b := clearTallies b
  let b := updFlock (fun f => { f with plan := some p }) b
  forEach (validStations b) (fun x b => awaitCatch x.1 x.2 b) (loadStaging p b)

/-- Load a plan (R252); the barrier channels of R222 follow from the plan itself. -/
def loadPlan (p : Plan) (s : State) : State :=
  let s := onBody (fun b => if flagF b R.GBL_MODULE.valid 0 then b
    else setFlag (setF b R.GBL_MODULE.index 0 p.moduleIx) R.GBL_MODULE.valid 0 true) s
  p.regions.foldl (fun s r => loadRegion r s) (onBody (loadPlanBody p) s)

end Sys2Proof.Machine
end

