-- ==== Sys2Proof/Machine/FailOps.lean ====
section
/-! DEFINITION. Failover records, replay, preparation, repair, stand-in and abort (R298-R316, R319-R329, R331-R333). -/

namespace Sys2Proof.Machine

/-- Update the failover state. -/
def updFail (f : Failover → Failover) (b : Body) : Body := { b with fail := f b.fail }

/-- The Shepherd inbox of a module (R171, R498). -/
def inboxAddr : Nat := 0xFF110C0000

/-- Send a Shepherd frame (R498): the alive counter of its stream and the body's fields, as a write flit to the Shepherd inbox of the
destination over VC7. To a lost module only a frame of class 0x0002 leaves (R287 step 1). -/
def sendFrame (dest cls : Nat) (words : List Nat) (b : Body) : Body :=
  let key := cls * 16384 + dest
  let alive := (SMap.get b.host.txFrames 0 key + 1) % 65536
  let b := updHost (fun h => { h with txFrames := SMap.put h.txFrames 0 key alive }) b
  if cls ≠ 2 ∧ flagF b R.KLK_ROUTE.lost dest then b
  else
    let bytes := frameBytes cls (moduleIndex b) dest alive (if cls = 2 then returnBytes words else failBytes words)
    let f : Flit := { Flit.blank .write with src := lnkEp 0, dst := lnkEp 0, addr := inboxAddr, len := 224, origin := some (moduleIndex b)
                                             payload := bytes.map some }
    let b := emit (.shepherdFrame dest cls (alive :: words)) b
    if cls = 2 then (sendVia dest 7 f b).2 else (sendModule dest 7 f b).2

/-- Send a failover message (R305) to another module. -/
def sendFail (dest : Nat) (words : List Nat) (b : Body) : Body := if dest = moduleIndex b then b else sendFrame dest 1 words b

/-- The other members of the stroke flock that are live (R305). -/
def otherMembers (b : Body) : List Nat := (strokeMembers b).filter (fun m => m != moduleIndex b && moduleLive b m)

/-- The seat's module index. -/
def seatIx (b : Body) : Nat := getF b R.TLY_SEAT.seat 0

/-- A time difference in µs, held at 0xFFFF (R332). -/
def spanUs (b : Body) (t : Nat) : Nat := min ((b.now - t) / 1000) 0xFFFF

/-- The bytes of a failover record (R332). -/
def FailRecord.bytes (r : FailRecord) : List Byte :=
  leBytes 8 r.seq ++ leBytes 1 r.cls ++ leBytes 1 r.action
    ++ leBytes 1 (cond r.replayed 1 0 + cond r.paired 2 0 + cond r.within 4 0 + cond r.consequential 8 0) ++ leBytes 1 0
    ++ leBytes 2 r.moduleIx ++ leBytes 1 r.die ++ leBytes 1 r.station ++ leBytes 6 r.stroke ++ leBytes 2 r.decideUs
    ++ leBytes 2 r.rerouteUs ++ leBytes 2 r.catchUs ++ leBytes 4 r.detail

/-- Keep a finished failover record; the logbook and the host receive it (R331, R503, R591). -/
def keepRecord (r : FailRecord) (b : Body) : Body :=
  let r := { r with seq := b.fail.lastSeq + 1 }
  let b := updFail (fun f => { f with lastSeq := r.seq, records := (f.records ++ [r]).drop (f.records.length + 1 - 256) }) b
  raiseVec 20 (logRec 0x40 r.bytes b)

/-- A record of this module about a class and an action; the decision times hold 0xFFFF beside the seat (R332). -/
def blankRecord (b : Body) (cls action : Nat) : FailRecord :=
  { seq := 0, cls := cls, action := action, replayed := false, paired := false, within := true, consequential := false
    moduleIx := moduleIndex b, die := 0xFF, station := 0xFF, stroke := strokeNum b, decideUs := 0xFFFF, rerouteUs := 0xFFFF
    catchUs := 0xFFFF, detail := 0 }

/-- A record whose replayed catch is to come. -/
def openRecord (r : FailRecord) (b : Body) : Body := updFail (fun f => { f with opens := f.opens ++ [({ r with replayed := true }, b.now)] }) b

/-- The records of a replay are complete at the replayed catch (R332). -/
def closeRecords (b : Body) : Body :=
  let rs := b.fail.opens
  let b := updFail (fun f => { f with opens := [] }) b
  forEach rs (fun p b =>
    let us := spanUs b p.2
    let ok := decide (us ≤ 1000) && (p.1.decideUs == 0xFFFF || decide (p.1.decideUs ≤ 250 ∧ p.1.rerouteUs ≤ 500))
    keepRecord { p.1 with catchUs := us, within := ok } b) b

/-- The spares of a die: positions that serve no logical station, not failed and not fenced (R65, R68). -/
def sparesOf (b : Body) (d : Nat) : List Nat :=
  ((List.range 52).map (fun p => d * 64 + p)).filter (fun st =>
    logicalOf b st == 63 && !(stn b st).selfTestFailed && !flagF b R.STN_CTRL.fence st)

/-- The Manhattan distance of two positions of the 4 × 13 mesh (R68). -/
def meshDistance (p q : Nat) : Nat :=
  let p := p % 64
  let q := q % 64
  (max (p / 13) (q / 13) - min (p / 13) (q / 13)) + (max (p % 13) (q % 13) - min (p % 13) (q % 13))

/-- The spare for a failed station (R68): nearest, then lowest number. -/
def chooseSpare (b : Body) (st : Nat) : Option Nat :=
  (sparesOf b (st / 64)).foldl (fun acc p => match acc with
    | none => some p
    | some q => if meshDistance p st < meshDistance q st then some p else some q) none

/-- Write one entry of the die map and put the map in force (R66, R67): a physical station, or none for an absent one. -/
def remap (die l : Nat) (p : Option Nat) (b : Body) : Body :=
  let ix := die * 12 + l / 4
  let b := match p with
    | some st => setFlag (setF b (mapPhys (l % 4)) ix (st % 64)) (mapValid (l % 4)) ix true
    | none => setFlag b (mapValid (l % 4)) ix false
  emptyBarriers die (applyMap die b)

/-- The streams, parameters and regions in force for a die: those of its variant where it runs one (R312). -/
def planFor (b : Body) (p : Plan) (die : Nat) : List Stream × List StnParam × List Region :=
  if b.fail.variants.contains die then
    match p.variants.find? (fun v => v.die == die && (physOf b die v.absent).isNone) with
    | some v => (v.streams, v.params, v.regions)
    | none => (p.streams, p.params, p.regions)
  else (p.streams, p.params, p.regions)

/-- Load one logical station from the plan in force (R311, R312). -/
def loadStation (die l : Nat) (s : State) : State :=
  match s.body.flock.plan with
  | none => s
  | some p =>
    let x := planFor s.body p die
    let s := onBody (fun b =>
      let b := forEach (x.1.filter (fun t => t.die == die && t.lst == l)) (fun t b => loadStream t.die t.lst t.bundles b) b
      forEach (x.2.1.filter (fun t => t.die == die && t.lst == l)) loadParam b) s
    (x.2.2.filter (fun r => r.die == die && r.lst == l)).foldl (fun s r => loadRegion r s) s

/-- Set a station's tallies to its shadow and empty its deferred store (R220, R308 step 4). -/
def restoreTallies (die l : Nat) (b : Body) : Body :=
  match physOf b die l with
  | none => b
  | some st =>
    setF (updStn b st (fun t => { t with tallies := SMap.get b.shadow [] (die * 64 + l), deferred := [] })) R.TLY_STN_STATUS.deferred st 0

/-- The variant of a die for an absent logical station (R312). -/
def variantFor (b : Body) (die l : Nat) : Option Variant :=
  match b.flock.plan with
  | none => none
  | some p => if b.fail.variants.contains die then none
      else p.variants.find? (fun v => v.die == die && v.absent == l && variantOk b p v)

/-- Load what a variant changes on its die (R312 steps 2-3). -/
def loadVariant (p : Plan) (v : Variant) (s : State) : State :=
  let s := onBody (fun b =>
    let b := forEach (v.streams.filter (fun t => !p.streams.contains t)) (fun t b => loadStream t.die t.lst t.bundles b) b
    forEach (v.params.filter (fun t => !p.params.contains t)) loadParam b) s
  (v.regions.filter (fun r => !p.regions.contains r)).foldl (fun s r => loadRegion r s) s

/-- A repair of step 5 (R72, R308, R311, R312, R322), on a die that is quiesced. The spare's quick self-test passes unless a failure of it was
reported (log entry 29). -/
def applyRepair (r : Repair) (s : State) : State :=
  match r with
  | .substitute st l =>
    let die := st / 64
    match chooseSpare s.body st with
    | none => s
    | some sp =>
      let s := onBody (fun b =>
        let b := setF (setFlag b R.STN_CTRL.power_gate sp false) R.STN_STATUS.state sp 2
        pmcSubstitute die l (remap die l (some sp) b)) s
      onBody (restoreTallies die l) (loadStation die l s)
  | .variant die l =>
    match s.body.flock.plan, variantFor s.body die l with
    | some p, some v =>
      loadVariant p v (onBody (fun b => updFail (fun f => { f with variants := f.variants ++ [die] }) (remap die l none b)) s)
    | _, _ => s
  | .absent die l => onBody (remap die l none) s
  | .standin lost by_ => onBody (fun b =>
      noteRun b <| setFlag (setF (setF (setF b R.TLY_STANDIN.lost 0 lost) R.TLY_STANDIN.standin 0 by_) R.TLY_STANDIN.kind 0 1) R.TLY_STANDIN.valid 0 true) s

/-- Apply every repair that waits. -/
def applyRepairs (s : State) : State :=
  onBody (updFail (fun f => { f with repairs := [] })) (s.body.fail.repairs.foldl (fun s r => applyRepair r s) s)

/-- A drover of the abandoned stroke is flushed (R308 step 2): flits already issued complete, nothing of them is signalled (log entry 60). -/
def abandonDrover (dr : Nat) (b : Body) : Body :=
  droverFlush dr (updDrv b dr (fun d => { d with current := none, waiting := none, moving := none, transfers := [] }))

/-- Stop the stations and empty the drovers (R308 step 2); signals still to be sent belong to the abandoned stroke. -/
def stopStations (b : Body) : Body :=
  let b := forEach (liveStations b) (fun st b =>
    let b := updStn (writeRun st false b) st (fun t => { t with releases := [] })
    abandonDrover (st * 2 + 1) (abandonDrover (st * 2) b)) b
  { b with fabric := b.fabric.filter (fun f => !(f.kind == .tallySignal && decide (f.dst < 1024))) }

/-- Clear what the fault left behind and restore the tallies (R299, R308 step 4). -/
def clearFaults (b : Body) : Body :=
  let b := forEach (liveStations b) (fun st b =>
    let b := setF b R.STN_EXC_CAUSE.valid st 0
    let b := setFlag b R.STN_FAULT.remote_error st false
    setFlag (setFlag b R.DRV_FAULT.valid (st * 2) false) R.DRV_FAULT.valid (st * 2 + 1) false) b
  forEach (validStations b) (fun x b => restoreTallies x.1 x.2 b) b

/-- Every active station runs from its park bundle (R302 rule 4, R308 step 6). -/
def parkStations (b : Body) : Body :=
  forEach (liveStations b) (fun st b => writeRun st true (setF b R.STN_SEQ_PC.pc st 0)) b

/-- The dies whose map the repairs that wait will change. -/
def repairDies (b : Body) : List Nat :=
  (b.fail.repairs.filterMap (fun r => match r with
    | .substitute st _ => some (st / 64)
    | .variant die _ => some die
    | .absent die _ => some die
    | .standin _ _ => none)).eraseDups

/-- What follows the repairs: step 6 of R308, in which a module being filled keeps its commits held (R325); parking after an abort (R328);
waiting for the catch of the next run. -/
def afterRepairs (tail : RepairTail) (b : Body) : Body :=
  match tail with
  | .replay keep =>
    match b.flock.startSeen with
    | none => b
    | some w =>
      let b := setFlag (parkStations b) R.MEM_COMMIT_CTRL.hold 0 b.flock.filling
      updFlock (fun f => { f with prepAfter := false, commitDone := false, commitFor := if keep then some (w.stroke - 1) else none }) b
  | .park => parkStations (setFlag b R.MEM_COMMIT_CTRL.hold 0 false)
  | .idle => forEach (validStations b) (fun x b => awaitCatch x.1 x.2 b) b
  | .left => b

/-- Make the repairs once every die they concern is quiesced, then let those dies run again (R67 steps 3-5). -/
def tryRepairs (s : State) : State :=
  match s.body.fail.repairWait with
  | none => s
  | some tail =>
    let dies := repairDies s.body
    if dies.all (fun d => flagF s.body R.STN_DIE_STATUS.quiesced d) then
      let s := applyRepairs (onBody (updFail (fun f => { f with repairWait := none })) s)
      onBody (fun b => afterRepairs tail (forEach dies (fun d b => writeQuiesce d false b) b)) s
    else s

/-- Step 5 of R308 begins: the dies concerned quiesce (R67 step 2), and one without a flit is quiesced at once; the others end it with
QUIESCE_COMPLETE. -/
def startRepairs (tail : RepairTail) (s : State) : State :=
  tryRepairs (onBody (fun b =>
    let b := updFail (fun f => { f with repairWait := some tail }) b
    forEach (repairDies b) (fun d b => quiesceDone d (writeQuiesce d true b)) b) s)

/-- Draining completes (R67); the repairs that waited for it go on. -/
def quiesceComplete (die : Nat) (s : State) : State := tryRepairs (onBody (quiesceDone die) s)

/-- Do faults stand that follow from a fault elsewhere (R299): exceptions 0x0B to 0x0D, remote_error, drover causes 7 and 8? -/
def consequences (b : Body) : Bool :=
  (liveStations b).any (fun st =>
    (getF b R.STN_EXC_CAUSE.valid st == 1 && decide (0x0B ≤ getF b R.STN_EXC_CAUSE.cause st ∧ getF b R.STN_EXC_CAUSE.cause st ≤ 0x0D))
      || flagF b R.STN_FAULT.remote_error st
      || [st * 2, st * 2 + 1].any (fun dr => flagF b R.DRV_FAULT.valid dr && (getF b R.DRV_FAULT.cause dr == 7 || getF b R.DRV_FAULT.cause dr == 8)))

/-- Firmware notes consequential faults in the records of the fault they follow (R299, R332). -/
def noteConsequences (b : Body) : Body :=
  if consequences b then updFail (fun f => { f with opens := f.opens.map (fun p => ({ p.1 with consequential := true }, p.2)) }) b else b

/-- The preparation for a replay of stroke r (R308). -/
def prepare (s : State) : State :=
  match s.body.flock.startSeen with
  | none => s
  | some w =>
    let keep := decide (s.body.flock.good + 2 = w.stroke ∧ s.body.flock.nextStroke < w.stroke)
    let s := onBody (fun b => stopStations (setFlag b R.MEM_COMMIT_CTRL.hold 0 true)) s
    let s := onBody (fun b => clearFaults (noteConsequences b)) (if keep then s else commitDiscard s)
    startRepairs (.replay keep) (onBody (updFlock (fun f => { f with prepAfter := false })) s)

/-- The stand-in that a START in a pair kind names in inbound word 15 (R321). -/
def startStandin (b : Body) (body : StartBody) : List Repair :=
  if body.replayClass = 0x20 then
    let w := body.inbound.getD 15 0
    if flagF b R.TLY_STANDIN.valid 0 ∨ b.fail.repairs.any (fun r => match r with
      | .standin _ _ => true
      | _ => false) then [] else [.standin (bits w 0 14) (bits w 16 14)]
  else []

/-- A replay START arrives, or the seat sends one (R307, R332). -/
def takeReplay (stroke : Nat) (body : StartBody) (d : Nat) (s : State) : State :=
  let s := onBody (fun b =>
    let old := b
    let b := updFail (fun f => { f with repairs := f.repairs ++ startStandin b body }) b
    let b := updFlock (fun f => { f with startSeen := some ⟨body, stroke, b.now + body.warnDelayUs * 1000 - d⟩, warnRaised := false
                                         inReplay := true, commitDone := false, prepAfter := false, timerDue := false
                                         inboundNext := f.inboundNext, runKind := body.kind }) b
    let b := updHost (fun h => { h with auxWait := false }) b
    let b := noteRun old (setF (setFlag b R.TLY_STROKE_STATUS.replay 0 true) R.TLY_STROKE_STATUS.state 0 2)
    let b := ledgerStart body b
    if b.fail.opens.isEmpty then
      openRecord { blankRecord b body.replayClass 0x09 with stroke := stroke, moduleIx := seatIx b } b
    else updFail (fun f => { f with opens := f.opens.map (fun p => ({ p.1 with stroke := stroke }, p.2)) }) b) s
  if commitRuns s.body then onBody (updFlock (fun f => { f with prepAfter := true })) s else prepare s

/-- The original START body of a stroke, as the seat can form it (R306): the one begun, the one scheduled, or one of the
stroke in flight for a stroke not yet started. -/
def originalStart (b : Body) (r : Nat) : Option StartBody :=
  match b.flock.startSeen, b.flock.lastStart, b.flock.prevStart with
  | some w, _, _ => if w.stroke = r then some w.body else
      match b.flock.lastStart with
      | some (n, x) => if n = r then some x else (b.flock.prevStart.filter (fun p => p.1 == r)).map (·.2)
      | none => none
  | none, some (n, x), p => if n = r then some x
      else match p.filter (fun q => q.1 == r) with
        | some q => some q.2
        | none => some { x with inbound := b.flock.inboundNext, first := false
                                last := b.flock.runLeft == some 1 || b.flock.stopAsked }
  | none, none, _ => none

/-- The pair kind of a kind (R317): by the pairing record, or half the stroke table where the seat is not paired
(log entry 26). -/
def pairKind (b : Body) (kind : Nat) : Nat :=
  kind + match b.fail.pair with
    | some p => p.kindBase
    | none => ((b.flock.plan.map (fun p => p.kinds.length)).getD 0) / 2

/-- The lost module and its stand-in while the flock runs stroke r in pair kinds (R306, R322): from the stand-in that a repair is about to
name, or that is in force, until the stroke from which R325 step 6 returns to the original kind. -/
def pairInForce (b : Body) (r : Nat) : Option (Nat × Nat) :=
  if (b.flock.seatWait.map (fun w => decide (w.1 ≤ r))).getD false then none
  else match b.fail.repairs.findSome? (fun x => match x with
      | .standin lost by_ => some (lost, by_)
      | _ => none) with
    | some p => some p
    | none => if flagF b R.TLY_STANDIN.valid 0 ∧ getF b R.TLY_STANDIN.kind 0 = 1 then
        some (getF b R.TLY_STANDIN.lost 0, getF b R.TLY_STANDIN.standin 0) else none

/-- The seat fixes r and sends the replay START (R304, R306, R307); before the first commit of a run, r is the run's first stroke
(log entry 47). -/
def seatReplay (cls : Nat) (pairLoss : Option (Nat × Nat)) (rec_ : FailRecord) (s : State) : State :=
  let b := s.body
  let g := if commitRuns b then b.flock.commitFor.getD b.flock.good else b.flock.good
  let r := max (g + 1) b.flock.nextStroke
  match originalStart b r with
  | none => s
  | some o =>
    let pair := if pairLoss.isSome then pairLoss else pairInForce b r
    let kind := if pair.isSome then pairKind b b.flock.origKind else b.flock.origKind
    let k := kindOf b kind
    let lead := (k.map (·.leadUs)).getD o.leadUs
    let inbound := match pair with
      | some (x, p) => pairWord x p o.inbound
      | none => if o.kind = kind then o.inbound else o.inbound.take 15 ++ (b.flock.inboundNext.drop 15).take 1
    let body : StartBody :=
      { periodUs := if kind = o.kind then o.periodUs else (k.map (·.nominalUs)).getD o.periodUs
        warnDelayUs := max 20 (480 - lead), leadUs := lead, kind := kind, first := false, last := o.last, replay := true, arm := false
        replayClass := cls, inbound := inbound }
    let s := onBody (fun b =>
      let b := if b.fail.opens.isEmpty then openRecord { rec_ with stroke := r, decideUs := 0, rerouteUs := 0 } b else b
      forwardStart (moduleIndex b) r body b) s
    takeReplay r body 0 s

/-- The module leaves the flock (R313, R443, R627): it isolates itself and stops its stations. -/
def leaveFlock (r : FailRecord) (b : Body) : Body :=
  let b := isolateModule b
  let b := forEach (liveStations b) (writeRun · false) b
  let b := writeEnable false b
  let c := consequences b
  let b := updFail (fun f => { f with mustReset := true, opens := [], repairWait := none
                                      repairs := f.repairs.filter (fun x => match x with
                                        | .absent _ _ => true
                                        | _ => false) }) b
  keepRecord { r with action := 0x05, consequential := c } b

/-- A stand-in stops mirroring to a hot spare (R325 step 7): the mirror is off and the weights of VC6 are restored. -/
def endMirroring (b : Body) : Body :=
  if b.fail.mirroring then
    let b := forEach (List.range 12) (fun k b => setFlag b R.MEM_MIR_CFG.enable k false) b
    let b := forEach b.fail.w6.zipIdx (fun x b => setF b R.KLK_VC_WEIGHT.w6 x.2 x.1) b
    updFail (fun f => { f with mirroring := false, w6 := [] }) b
  else b

/-- Abort the run (R328): a commit whose barrier has completed is finished, every other open tail discarded, stations park,
the stroke block returns to idle and the module keeps its membership. -/
def abortRun (r : FailRecord) (s : State) : State :=
  if !joined s.body then s
  else
    let s := if strokeBarrierDone s.body ∧ !s.body.flock.commitDone ∧ !s.body.flock.filling then
        commitStart (onBody (fun b => setFlag b R.MEM_COMMIT_CTRL.hold 0 false) s) else s
    let s := onBody (fun b => stopStations (setFlag b R.MEM_COMMIT_CTRL.hold 0 true)) s
    let c := consequences s.body
    let s := onBody clearFaults (if commitRuns s.body then s else commitDiscard s)
    startRepairs .park (onBody (fun b =>
      let b := if commitRuns b then b else updFlock (fun f => { f with commitDone := true }) b
      let old := b
      let b := putEnable true (putEnable false b)
      let b := updFail (fun f => { f with aborted := true, opens := [], fill := none, switch := none }) (endMirroring b)
      keepRecord { r with action := 0x07, consequential := c } (noteRun old (updFlock (fun f => { f with filling := false }) b))) s)

/-- ABORT reaches a member (R328): the record is that of its own plan fault where it asked for the abort. -/
def takeAbort (stroke cls origin : Nat) (s : State) : State :=
  let r := match s.body.fail.opens.find? (fun p => p.1.cls == cls && origin == moduleIndex s.body) with
    | some p => { p.1 with replayed := false }
    | none => { blankRecord s.body cls 7 with moduleIx := origin }
  abortRun { r with stroke := stroke } s

/-- The seat aborts the run of every member (R328). -/
def seatAbort (cls origin : Nat) (r : FailRecord) (s : State) : State :=
  let s := onBody (fun b => forEach (otherMembers b) (fun m b => sendFail m [2, strokeNum b, cls, origin] b) b) s
  abortRun r s

/-- A stack unit that pairing covers (R314): in a range of this module that its armed partner holds, or in the partner half among the data
received from the partner. -/
def covered (b : Body) (addr : Nat) : Bool :=
  b.fail.pairState == 2 && (b.fail.held.any (fun r => decide (r.1 ≤ addr ∧ addr < r.1 + r.2))
    || (match b.fail.pair with
        | some p => p.ranges.any (fun r => decide (r.1 ≤ addr ∧ addr < r.1 + r.2))
        | none => false))

/-- Does the stand-in of a module's loss stand already, by the replay START that named it (R322)? -/
def standsIn (b : Body) (x : Nat) : Bool :=
  (flagF b R.TLY_STANDIN.valid 0 && getF b R.TLY_STANDIN.lost 0 == x)
    || b.fail.repairs.any (fun r => match r with
      | .standin lost _ => lost == x
      | _ => false)

/-- The partner a lost module is armed with, if it stands in (R319). -/
def standinOf (b : Body) (x : Nat) : Option Nat :=
  match b.fail.notes.find? (fun p => p.1 == x) with
  | some (_, p) => if (p = moduleIndex b ∨ !flagF b R.KLK_ROUTE.lost p) ∧ !flagF b R.TLY_STANDIN.valid 0 then some p else none
  | none => none

/-- The class codes in table order (R298): a lower index is nearer the top. -/
def classRank (cls : Nat) : Nat :=
  ((([0x10, 0x11, 0x12, 0x13, 0x14, 0x15, 0x16, 0x17, 0x18, 0x20, 0x21, 0x22, 0x24, 0x30] : List Nat)).findIdx? (· == cls)).getD 14

/-- What firmware finds in a report: the record it will write, whether the module leaves the flock, the unit it repairs from
the partner, the pair it stands in for. -/
structure Finding where
  record : FailRecord
  leave : Bool
  replay : Bool
  repair : List Repair
  unit : Option Nat
  pairLoss : Option (Nat × Nat)
deriving DecidableEq, Repr

/-- A finding of a class on a die and station. -/
def finding (b : Body) (cls action die station detail : Nat) : Finding :=
  { record := { blankRecord b cls action with die := die, station := station, detail := detail }, leave := action == 5
    replay := action == 1 || action == 2 || action == 3 || action == 4 || action == 6, repair := [], unit := none, pairLoss := none }

/-- A station has failed (R298, R311-R313); `taken` are the repairs already decided. -/
def stationFailed (b : Body) (taken : List Repair) (st detail : Nat) : Option Finding :=
  let die := st / 64
  let l := logicalOf b st
  let spares := (sparesOf b die).length - (taken.filter (fun r => match r with
    | .substitute s _ => s / 64 == die
    | _ => false)).length
  let pending := taken.any (fun r => match r with
    | .variant d _ => d == die
    | .absent d _ => d == die
    | _ => false)
  if l = 63 ∨ taken.any (fun r => match r with
      | .substitute s _ => s == st
      | .variant d k => d == die && k == l
      | .absent d k => d == die && k == l
      | _ => false) then none
  else if 0 < spares then some { finding b 0x10 2 die l detail with repair := [.substitute st l] }
  else if !pending && (variantFor b die l).isSome then some { finding b 0x11 3 die l detail with repair := [.variant die l] }
  else some { finding b 0x12 5 die l detail with repair := [.absent die l] }

/-- The STN_FAULT bits that mean a failed station: 0-5 and 7 (R298). -/
def stationDown (b : Body) (st : Nat) : Bool :=
  [R.STN_FAULT.sram_uncorrectable, R.STN_FAULT.istore_uncorrectable, R.STN_FAULT.sequencer_check, R.STN_FAULT.droop_halt,
   R.STN_FAULT.crossing_error, R.STN_FAULT.tally_store, R.STN_FAULT.self_test_fail].any (fun f => flagF b f st)

/-- Both ports to the tray of a switch port are lost within 10 µs of each other (R298, R315). -/
def trayLost (b : Body) (p : Nat) : Bool :=
  switchPorts.any (fun q => q != p && trayOf q == trayOf p && portState b q != 2 && portState b q != 0
    && decide (max (kport b p).lostAt (kport b q).lostAt - min (kport b p).lostAt (kport b q).lostAt ≤ 10000)) && portState b p != 2

/-- Classify one report (R298, R299). -/
def classify (taken : List Repair) (r : Source) (b : Body) : Option Finding :=
  match r with
  | .stationFault st => if stationDown b st then stationFailed b taken st 0 else none
  | .selfTest st => stationFailed b taken st 0
  | .stationExc st =>
    let c := getF b R.STN_EXC_CAUSE.cause st
    if c = 0x01 ∨ c = 0x0A then stationFailed b taken st c
    else if (0x02 ≤ c ∧ c ≤ 0x09) ∨ c = 0x0E then some (finding b 0x30 7 (st / 64) (logicalOf b st) c)
    else none
  | .drover dr =>
    let c := getF b R.DRV_FAULT.cause dr
    if !flagF b R.DRV_FAULT.valid dr then none
    else if (1 ≤ c ∧ c ≤ 5) ∨ c = 9 ∨ c = 10 then some (finding b 0x30 7 (dr / 128) (logicalOf b (dr / 2)) c)
    else none
  | .stackUnit k a scrub =>
    if covered b a then some { finding b 0x14 (if scrub then 0 else 4) 0xFF 0xFF k with unit := some a }
    else some (finding b 0x14 5 0xFF 0xFF k)
  | .stackLoss k => some (finding b 0x13 5 0xFF 0xFF k)
  | .deferOverflow st => some (finding b 0x17 1 (st / 64) (logicalOf b st) 0)
  | .outOfStep => some (finding b 0x17 1 0xFF 0xFF 0)
  | .edgeModule d e =>
    if !(lanesUp b d e).isEmpty then none
    else match ([0, 3, 12, 15] : List Nat).findIdx? (· == d) with
      | some n => if e = linkEdge d then some (finding b 0x15 1 0xFF 0xFF n) else some (finding b 0x12 5 d 0xFF e)
      | none => some (finding b 0x12 5 d 0xFF e)
  | .port p => if (pairOfPort p).isNone ∧ trayLost b p then some (finding b 0x16 1 0xFF 0xFF p) else none
  | .seatGone => if isSeat b then some (finding b 0x18 1 0xFF 0xFF 0) else none
  | .moduleLost m =>
    if standsIn b m then some { finding b 0x20 6 0xFF 0xFF 0 with record := { blankRecord b 0x20 6 with moduleIx := m, paired := true }, replay := false }
    else match standinOf b m with
    | some p => some { finding b 0x20 6 0xFF 0xFF 0 with
        record := { blankRecord b 0x20 6 with moduleIx := m, paired := true }, repair := [.standin m p], pairLoss := some (m, p) }
    | none => if (strokeMembers b).contains m then
        some { finding b 0x21 7 0xFF 0xFF 0 with record := { blankRecord b 0x21 7 with moduleIx := m } } else none
  | .badKind => some (finding b 0x30 7 0xFF 0xFF 0)
  | .power _ u => if u < 16 then some (finding b 0x12 5 u 0xFF 0) else if u < 28 then some (finding b 0x13 5 0xFF 0xFF (u - 16))
    else some (finding b 0x15 1 0xFF 0xFF (u - 28))
  | _ => none

/-- Classify all reports in order. -/
def findings (b : Body) : List Source → List Repair → List Finding
  | [], _ => []
  | r :: rs, taken =>
    match classify taken r b with
    | none => findings b rs taken
    | some f => f :: findings b rs (taken ++ f.repair)

/-- The finding whose class stands nearest the top of the table (R310; log entry 27). -/
def topFinding : List Finding → Option Finding
  | [] => none
  | f :: fs => match topFinding fs with
    | some g => if classRank g.record.cls < classRank f.record.cls then some g else some f
    | none => some f

/-- The finding that firmware acts on: a module loss before any other, since its replay or abort settles the rest; else the
top one. -/
def mainFinding (fs : List Finding) : Option Finding :=
  match fs.find? (fun f => f.record.cls == 0x21 || f.pairLoss.isSome) with
  | some f => some f
  | none => topFinding fs

/-- The korrel record of a module or a port (R591). -/
def korrelRecord (kind m : Nat) (b : Body) : Body := logRec 0x41 (leBytes 1 kind ++ leBytes 1 0 ++ leBytes 2 m ++ leBytes 4 0) b

/-- The hot spare the seat fills for a lost module (R324): idle, of lowest index in its rack, else of lowest index. -/
def chooseHotSpare (b : Body) (lost : Nat) : Option Nat :=
  let idle := b.flock.spares.filter (fun m => !b.fail.usedSpares.contains m && (m == moduleIndex b || !flagF b R.KLK_ROUTE.lost m))
  let least := fun (l : List Nat) => l.foldl (fun acc m => match acc with
    | none => some m
    | some x => some (min x m)) none
  match least (idle.filter (fun m => Config.rackOf m == Config.rackOf lost)) with
  | some m => some m
  | none => least idle

/-- The park bundle (R128, R153, R302 rule 4): stroke.end with an entry bundle in the C slot, nothing in the others. -/
def parkBundle (entry : Nat) : Nat := (0x3C + entry * 2 ^ 32) * 2 ^ 192

/-- A fill begins at this module (R325 steps 1-2): the hot spare parks its stations, holds its commits, sets the mirror offset
and a staging region at the end of each stack; the stand-in will mirror after its next commit. -/
def beginFill (f : Fill) (b : Body) : Body :=
  let me := moduleIndex b
  let b := updFail (fun x => { x with fill := some f, usedSpares := if x.usedSpares.contains f.spare then x.usedSpares else x.usedSpares ++ [f.spare] }) b
  if f.spare = me then
    let old := b
    let b := forEach (validStations b) (fun x b =>
      loadStream x.1 x.2 [parkBundle 0] b) b
    let b := forEach (validStations b) (fun x b => match physOf b x.1 x.2 with
      | some st => awaitCatch x.1 x.2 (setF (updStn b st (fun t => { t with entry := 0 })) R.STN_SEQ_PC.pc st 0)
      | none => b) b
    let b := updFail (fun x => { x with held := [] }) (setFlag b R.MEM_COMMIT_CTRL.hold 0 true)
    let b := forEach (List.range 12) (fun k b =>
      let b := setF b R.MEM_MIR_OFFSET.offset k (2 ^ 64 - 0xA00000000)
      setF (setF b R.MEM_STG_BASE.base k ((k + 1) * stackBytes - 256 * 1048576)) R.MEM_STG_SIZE.size_mib k 256) b
    let b := setFlag b R.TLY_STROKE_CTRL.enable 0 true
    noteRun old (updFlock (fun x => { x with filling := true, runOpen := true }) b)
  else b

/-- The seat orders a fill (R324), once per lost module. -/
def orderFill (b : Body) : Body :=
  let x := getF b R.TLY_STANDIN.lost 0
  if !flagF b R.TLY_STANDIN.valid 0 ∨ getF b R.TLY_STANDIN.kind 0 ≠ 1 ∨ !isSeat b ∨ b.fail.fill.isSome then b
  else match chooseHotSpare b x with
    | none => b
    | some h =>
      let f : Fill := ⟨x, getF b R.TLY_STANDIN.standin 0, h⟩
      let b := sendFail f.standin [4, f.lost, f.standin, f.spare] (sendFail f.spare [4, f.lost, f.standin, f.spare] b)
      beginFill f b

/-- Does a mirror entry that was refused belong to a fill at this module (R326)? -/
def fillRefused (b : Body) : Bool :=
  b.flock.filling && b.reports.any (fun r => match r with
    | .stagingFull _ => true
    | _ => false)

/-- An entry was refused as staging_full during a fill (R326): the hot spare, whose tails are discarded, starts again at step 1, and the
stand-in mirrors and copies anew after its next commit (log entry 63). -/
def restartFill (b : Body) : Body :=
  match b.fail.fill with
  | none => b
  | some f => if b.flock.filling then beginFill f b else endMirroring b

/-- The hot spare of a fill is lost (R326): a switch to it is off, its stand-in stops mirroring to it, and the seat chooses another. A lost
module acknowledges nothing. -/
def spareLost (m : Nat) (b : Body) : Body :=
  let b := updFlock (fun x => { x with seatWait := x.seatWait.map (fun w => (w.1, w.2.filter (· != m))) }) b
  match b.fail.fill with
  | none => b
  | some f =>
    if f.spare ≠ m then b
    else
      let b := updFlock (fun x => { x with seatWait := none }) (endMirroring b)
      orderFill (updFail (fun x => { x with fill := none, switch := none, usedSpares := if x.usedSpares.contains m then x.usedSpares else x.usedSpares ++ [m] }) b)

/-- What firmware does at once on some reports: it fences a failed station (R67 step 1), restarts a fill (R326), takes a lost link die's ports out of
every route set (R315), notes that its partner is lost (R298). -/
def noteReport (r : Source) (f : Option Finding) (b : Body) : Body :=
  match r, f with
  | .stationFault st, some _ => writeFence st true b
  | .selfTest st, some _ => writeFence st true b
  | .stationExc st, some g => if g.record.cls = 0x30 then b else writeFence st true b
  | .edgeModule _ _, some g => if g.record.cls = 0x15 then
      forEach ((List.range 18).filter (fun p => portDie p == g.record.detail)) (fun p b => portDown p 6 b) b else b
  | .stagingFull _, _ => restartFill b
  | .moduleLost m, _ =>
    let b := spareLost m b
    let mine := (b.fail.pair.map (fun p => decide (p.partner = m))).getD false && b.fail.pairState == 2
    let b := if mine then keepRecord { blankRecord b 0x22 0 with moduleIx := m } (updFail (fun x => { x with pairState := 3 }) b) else b
    updFail (fun x => { x with notes := x.notes.filter (fun p => p.1 != m && p.2 != m) }) b
  | .falseDeclared, _ => korrelRecord 1 0 b
  | .miscabled p, _ => korrelRecord 2 p b
  | .port p, _ => if getF b R.KLK_PORT_STATUS.state p = 6 then korrelRecord 3 p b else b
  | _, _ => b

/-- Firmware notes every report. -/
def noteReports : List Source → List Repair → Body → Body
  | [], _, b => b
  | r :: rs, taken, b =>
    let f := classify taken r b
    noteReports rs (taken ++ (f.map (·.repair)).getD []) (noteReport r f b)

/-- Firmware handles every report that waits (R298-R315): `copy` holds the units it has read from the partner one after another, once the
partner's last good stroke equals its own (R314). With no run open it makes the repairs alone. -/
def faultReport (copy : List Byte) (s : State) : State :=
  if !shepherdActive s.body then s
  else
    let rs := s.body.reports
    let fs := findings s.body rs s.body.fail.repairs
    let s := if fillRefused s.body then commitDiscard s else s
    let s := onBody (fun b => noteReports rs b.fail.repairs { b with reports := [] }) s
    let s := (fs.filterMap (·.unit)).zipIdx.foldl (fun s u => writeStackBytes u.1 ((copy.drop (32 * u.2)).take 32) s) s
    let s := onBody (updFail (fun f => { f with repairs := f.repairs ++ fs.flatMap (·.repair) })) s
    match fs.find? (·.leave) with
    | some f =>
      if joined s.body then startRepairs .left (onBody (leaveFlock f.record) s)
      else startRepairs .idle (onBody (keepRecord { f.record with action := 0 }) s)
    | none =>
      match mainFinding fs with
      | none => s
      | some f =>
        if f.record.cls = 0x30 ∧ joined s.body ∧ !isSeat s.body then
          onBody (fun b => sendFail (seatIx b) [1, strokeNum b, b.flock.good, 0x30, cond b.flock.inReplay 1 0, moduleIndex b]
            (updFail (fun x => { x with opens := x.opens ++ [(f.record, b.now)] }) b)) s
        else if !s.body.flock.runOpen then startRepairs .idle (onBody (keepRecord f.record) s)
        else if f.record.cls = 0x21 then abortRun f.record s
        else if f.record.cls = 0x30 then seatAbort 0x30 (moduleIndex s.body) f.record s
        else if !f.replay then onBody (keepRecord f.record) s
        else if isSeat s.body then seatReplay f.record.cls f.pairLoss f.record s
        else
          let s := onBody (openRecord f.record) s
          if f.record.cls = 0x20 then s
          else onBody (fun b =>
            sendFail (seatIx b) [1, strokeNum b, b.flock.good, f.record.cls, cond b.flock.inReplay 1 0, moduleIndex b] b) s

end Sys2Proof.Machine
end

