-- ==== Sys2Proof/Machine/DrainOps.lean ====
section
/-! DEFINITION. Drain states and the hand-off of a drained module (R626, R627). -/

namespace Sys2Proof.Machine

/-- The drain state changes (R626): vector 27 and sensor 11. -/
def setDrain (n : Nat) (b : Body) : Body :=
  let old := b.rack.drain
  if old = n then b else sensorEvent 11 old n (raiseVec 27 (updRack (fun r => { r with drain := n }) b))

/-- The margin below which a drain discharges no further (R627-R629). -/
def drainGoal (b : Body) : Int := eFloor b + getF b R.LDG_CFG.band_kj 0 * 1000000

/-- The drain ballast of R628 in W. -/
def drainBallast (b : Body) : Nat :=
  if (b.rack.drain = 2 ∨ b.rack.drain = 3) ∧ drainGoal b < (getF b R.LDG_E0.e0_mj 0 : Int) then 2000 else 0

/-- The greatest stored energy in mJ until PG0 rests, with the module idle at 1.1 kW plus the drain ballast (R627). -/
def idlePeak (b : Body) : Int :=
  let h := max 1 (getF b R.COX_PG_CTRL.tick_us (pix 16 0))
  let start : Int × Int := (e0Used b, e0Used b)
  ((forecast b).foldl (fun (acc : Int × Int) p =>
    let need : Int := if drainGoal b < acc.1 then 3100000 else 1100000
    let e := acc.1 + packDeltaMj b ((p - need) * h / 1000000)
    (e, max acc.2 e)) start).2

/-- Would the run, continued for one horizon at its present period, carry the stored energy below the goal (R627)? -/
def horizonLow (b : Body) : Bool :=
  match kindInFlight b, b.flock.inFlight with
  | some k, some cur => match profileOf b k with
    | some e =>
      let ps := forecast b
      let at_ := energyAtCatch b ps
      let p := pointAt e (slowestFit e k cur.periodUs)
      decide (horizonMin b ps e p (windows k p cur.periodUs) at_.2 at_.1 < drainGoal b)
    | none => false
  | _, _ => false

/-- The hand-off at a stroke commit (R627). -/
def drainHandoff (b : Body) : Body :=
  if b.rack.drain = 1 ∧ shepherdActive b ∧ joined b ∧ b.fail.pairState = 2 ∧ !flagF b R.TLY_STANDIN.valid 0
      ∧ (horizonLow b ∨ pgRests b 16 0) ∧ idlePeak b ≤ eFull b then
    let r := blankRecord b 0x20 0x05
    let b := setFlag (putEnable false (isolateModule b)) R.TLY_SEAT.valid 0 false
    let b := updFail (fun f => { f with mustReset := true, opens := [], repairs := [] }) b
    setDrain 2 (updRack (fun x => { x with handedOff := true }) (keepRecord r b))
  else b

end Sys2Proof.Machine
end

