-- ==== Sys2Proof/Machine/Catch.lean ====
section
/-! DEFINITION. The catch and the completion of a stroke commit, with what both mean for replay, filling and the end of a
run (R31, R119, R199, R227, R246, R248, R304, R308, R324, R325). -/

namespace Sys2Proof.Machine

/-- At the replayed catch the records of the replay close and the seat orders a fill (R324, R332). -/
def replayCaught (b : Body) : Body :=
  orderFill (closeRecords b)

/-- The catch (R31 step 3, R246, R255). -/
def doCatch (b : Body) : Body :=
  match b.flock.startSeen with
  | none => b
  | some w =>
    if !b.flock.warnRaised then b
    else
      let old := b
      let b := setF b R.TLY_STROKE_NUM.stroke 0 w.stroke
      let b := setF b R.TLY_PERIOD.period_us 0 w.body.periodUs
      let b := setFlag b R.TLY_STROKE_STATUS.first 0 w.body.first
      let b := setFlag b R.TLY_STROKE_STATUS.last 0 w.body.last
      let b := setFlag b R.TLY_STROKE_STATUS.replay 0 w.body.replay
      let b := setF b R.TLY_STROKE_STATUS.kind 0 w.body.kind
      let b := driveStarts (setF b R.TLY_STROKE_STATUS.state 0 3)
      let b := forEach (liveStations b) (catchStation w.stroke w.body.inbound) b
      let held := b.flock.heldArrives
      let b := updFlock (fun f => keepStart w.stroke w.body
        { f with startSeen := none, warnRaised := false, inFlight := some w.body, strokeInFlight := w.stroke, commitDone := false
                 commitFor := some w.stroke, inReplay := false, arrives := [], heldArrives := [], drive := true, feather := false
                 strokesSinceEcho := f.strokesSinceEcho + 1, catchAt := b.now }) (headroomClear b)
      let b := forEach held (fun x b => takeArrive x.1 x.2.1 x.2.2.1 x.2.2.2 b) b
      let b := updFail (fun f => { f with aborted := false }) b
      let b := if w.body.replay then replayCaught b else b
      coxCatch (noteRun old b)


/-- The outbound words become visible (R227). -/
def publishOutbound (b : Body) : Body :=
  forEach (liveStations b) (fun st b =>
    forEach ((List.range 16).map (· + 16)) (fun w b => setF b R.TLY_MBX.word (st * 32 + w) (SMap.get (stn b st).outbound 0 w).toNat) b) b

/-- The live flags of every active station join its die's flags (R119). -/
def mergeFlags (b : Body) : Body :=
  forEach (liveStations b) (fun st b =>
    setF b R.STN_DIE_ARITH_FLAGS.flags (st / 64) (Nat.lor (getF b R.STN_DIE_ARITH_FLAGS.flags (st / 64)) (getF b R.STN_ARITH_FLAGS.flags st))) b

/-- The stand-in and the filled hot spare arm as a pair (R325 step 8): each sends PAIR_NOTE arming to the other, the stand-in with the ranges of
its own record, the hot spare with those of the lost module, which it has received, in the two halves of R316. -/
def rePair (w : Switch) (b : Body) : Body :=
  let me := moduleIndex b
  let base := (b.fail.pair.map (·.kindBase)).getD (((b.flock.plan.map (fun p => p.kinds.length)).getD 0) / 2)
  let arm := fun (other : Nat) (rs : List (Nat × Nat)) (b : Body) =>
    let b := updFail (fun f => { f with pair := some ⟨other, base, rs⟩, pairState := 1, sentPushed := false, gotPushed := false, held := [] }) b
    sendFail other [3, me, other, 1] (forEach (List.range 12) (fun k b => setF b R.MEM_MIR_OFFSET.offset k 0xA00000000) b)
  match b.fail.fill with
  | none => b
  | some f =>
    if f.spare ≠ w.by_ then b
    else if f.standin = me then arm f.spare ((b.fail.pair.map (·.ranges)).getD []) b
    else if f.spare = me then arm f.standin b.fail.held b
    else b

/-- The stand-in switches to the filled hot spare at the commit before its stroke (R325 steps 7-8). -/
def switchStandin (good : Nat) (s : State) : State :=
  match s.body.fail.switch with
  | none => s
  | some w =>
    if good + 1 ≠ w.stroke then s
    else
      let me := moduleIndex s.body
      let s := onBody (fun b =>
        let old := b
        let b := setF (setF (setF b R.TLY_STANDIN.lost 0 w.lost) R.TLY_STANDIN.standin 0 w.by_) R.TLY_STANDIN.kind 0 w.kind
        let b := noteRun old (setFlag b R.TLY_STANDIN.valid 0 true)
        let b := rePair w (endMirroring b)
        let b := updFail (fun f => { f with switch := none, fill := none }) b
        let b := if w.by_ = me then setF b R.TLY_SEAT.rank 0 ((b.flock.members.findIdx? (· == w.lost)).getD 0) else b
        keepRecord { blankRecord b 0x20 0x08 with moduleIx := w.lost, paired := true } (updFlock (fun f => { f with runKind := f.origKind }) b)) s
      match s.body.fail.standPlan with
      | none => s
      | some p => if w.by_ = me then loadPlan p (onBody (updFail (fun f => { f with standPlan := none })) s) else s

/-- The stand-in enables its mirror to the hot spare between a commit and its next catch (R325 steps 2-3). -/
def enableMirror (b : Body) : Body :=
  match b.fail.fill with
  | none => b
  | some f =>
    if f.standin = moduleIndex b ∧ !b.fail.mirroring then
      let b := forEach (List.range 12) (fun k b => setFlag (setF b R.MEM_MIR_CFG.partner k f.spare) R.MEM_MIR_CFG.enable k true) b
      let w := (List.range 4).map (fun d => getF b R.KLK_VC_WEIGHT.w6 d)
      let b := forEach (List.range 4) (fun d b => setF b R.KLK_VC_WEIGHT.w6 d 15) b
      updFail (fun x => { x with mirroring := true, w6 := w }) b
    else b

/-- The run ends after the commit of its last stroke, or the next stroke is awaited (R248, R255, R503). -/
def afterCommit (b : Body) : Body :=
  let last := (b.flock.inFlight.map (·.last)).getD false && b.flock.commitFor == some b.flock.strokeInFlight
  let b := updFlock (fun f => { f with commitDone := true, good := f.commitFor.getD f.good }) b
  if !b.flock.runOpen then b
  else if last ∧ b.flock.startSeen.isNone then strokeIdle b
  else setF b R.TLY_STROKE_STATUS.state 0 (if b.flock.startSeen.isSome then 2 else 1)

/-- All twelve controllers have reported (R199 step 5). -/
def commitComplete (s : State) : State :=
  if getF s.body R.MEM_COMMIT_STATUS.state 0 ≠ 2 ∨ getF s.body R.MEM_COMMIT_STATUS.applied 0 ≠ 0xFFF then s
  else
    let forStroke := s.body.flock.commitFor
    let s := onBody (fun b =>
      let b := setF b R.MEM_COMMIT_STATUS.state 0 3
      let b := match forStroke with
        | some n => mergeFlags (setF b R.MEM_COMMIT_STROKE.stroke 0 (n % 2 ^ 32))
        | none => b
      pmcSnapshot (publishOutbound b)) s
    if s.body.flock.prepAfter then prepare (onBody (updFlock (fun f => { f with good := f.commitFor.getD f.good })) s)
    else
      let s := onBody (fun b => enableMirror (drainHandoff (afterCommit b))) s
      match forStroke with
      | some n => switchStandin n s
      | none => s

/-- CATCH (R126, R219, R224, R227, R246). -/
def execCatch (s : State) : Host.Outcome State Fault Refusal := lift doCatch s

/-- COMMIT_COMPLETE (R119, R199, R220, R227, R304, R325). -/
def execCommitComplete (s : State) : Host.Outcome State Fault Refusal := .next (commitComplete s)

end Sys2Proof.Machine
end

