-- ==== Sys2Proof/Machine/LogOps.lean ====
section
/-! DEFINITION. The logbook's areas, its writing, reading and clearing (R581-R596). -/

namespace Sys2Proof.Machine

/-- A record as its bytes (R581). -/
def LogRec.bytes (r : LogRec) : List Byte :=
  let fl := cond (privClass r.cls) 1 0 + r.origin % 4 * 2 + r.writer % 2 * 8
  let body := leBytes 2 r.length ++ leBytes 2 r.payload.length ++ leBytes 2 r.cls ++ leBytes 1 fl ++ [0] ++ leBytes 8 r.seq
    ++ leBytes 5 r.opMs ++ leBytes 3 r.cycles ++ pad8 r.payload
  body ++ leBytes 4 (crc32c body) ++ [0xC3, 0xC3, 0x5A, 0x5A]

/-- Insert a record by its number. -/
def insertRec (r : LogRec) : List LogRec → List LogRec
  | [] => [r]
  | x :: xs => if r.seq ≤ x.seq then r :: x :: xs else x :: insertRec r xs

/-- The records held in an area, or in both (area 2), in ascending order (R593). -/
def heldIn (l : Logbook) (area : Nat) : List LogRec :=
  ((l.held.filter (fun h => area == 2 || h.area == area)).map (·.entry)).foldl (fun acc r => insertRec r acc) []

/-- Whole records that fit in a number of bytes. -/
def takeBytes : Nat → List LogRec → List LogRec
  | _, [] => []
  | n, r :: rs => if r.length ≤ n then r :: takeBytes (n - r.length) rs else []

/-- What a read from a cursor answers (R549, R593): the records, where the cursor then stands, end, skipped. -/
structure LogAnswer where
  records : List LogRec
  next : Nat
  atEnd : Bool
  skipped : Bool
deriving DecidableEq, Repr

/-- A read from a cursor (R549, R593). -/
def logAnswer (l : Logbook) (area seq max : Nat) : LogAnswer :=
  let all := heldIn l area
  let rs := takeBytes max (all.filter (fun r => seq ≤ r.seq))
  let next := match rs.getLast? with
    | some r => r.seq + 1
    | none => match all with
      | r :: _ => Nat.max seq r.seq
      | [] => seq
  { records := rs, next := next, atEnd := (all.filter (fun r => next ≤ r.seq)).isEmpty
    skipped := match all with
      | r :: _ => decide (seq ≠ 0 ∧ seq < r.seq)
      | [] => false }

/-- The logbook registers follow what is held (R597). -/
def showLog (b : Body) : Body :=
  let first := heldIn b.logbook 0
  let last := heldIn b.logbook 1
  let b := setF b R.LGB_FIRST_OLDEST.seq 0 ((first.head?.map (·.seq)).getD 0)
  let b := setF b R.LGB_FIRST_NEWEST.seq 0 ((first.getLast?.map (·.seq)).getD 0)
  let b := setF b R.LGB_LAST_OLDEST.seq 0 ((last.head?.map (·.seq)).getD 0)
  let b := setF b R.LGB_LAST_NEWEST.seq 0 ((last.getLast?.map (·.seq)).getD 0)
  setF b R.LGB_FILL.first_kib 0 (min 2048 (b.logbook.firstSector * 64 + ceilDiv b.logbook.firstUsed 1024))

/-- Fill the window from the cursor (R592 step 3), which moves to the oldest record held where it stands below it (R593). -/
def fillWindow (b : Body) : Body :=
  let a := logAnswer b.logbook (getF b R.LGB_CTRL.area 0) (getF b R.LGB_CURSOR.seq 0) 4096
  let b := updLog (fun l => { l with windowSeqs := a.records }) b
  let b := setF b R.LGB_CURSOR.seq 0 (match heldIn b.logbook (getF b R.LGB_CTRL.area 0) with
    | r :: _ => Nat.max (getF b R.LGB_CURSOR.seq 0) r.seq
    | [] => getF b R.LGB_CURSOR.seq 0)
  let b := setF b R.LGB_WIN_STATUS.bytes 0 ((a.records.map LogRec.length).foldl (· + ·) 0)
  let b := setF b R.LGB_WIN_STATUS.count 0 a.records.length
  let b := setFlag (setFlag b R.LGB_WIN_STATUS.atEnd 0 a.atEnd) R.LGB_WIN_STATUS.skipped 0 a.skipped
  raiseVec 25 (setF b R.LGB_WIN_STATUS.state 0 2)

/-- LGB_CTRL.load is written (R592 step 2). -/
def loadWindow (b : Body) : Body := setF b R.LGB_WIN_STATUS.state 0 1

/-- LGB_CTRL.advance is written (R592 step 5): the cursor moves past the window; with follow set and nothing later, the window
stays ready and empty. -/
def advanceWindow (b : Body) : Body :=
  if getF b R.LGB_WIN_STATUS.state 0 ≠ 2 then b
  else
    let b := match b.logbook.windowSeqs.getLast? with
      | some r => setF b R.LGB_CURSOR.seq 0 (r.seq + 1)
      | none => b
    if flagF b R.LGB_CTRL.follow 0 ∧ (logAnswer b.logbook (getF b R.LGB_CTRL.area 0) (getF b R.LGB_CURSOR.seq 0) 4096).records.isEmpty then
      let b := updLog (fun l => { l with windowSeqs := [] }) b
      setFlag (setFlag (setF (setF b R.LGB_WIN_STATUS.bytes 0 0) R.LGB_WIN_STATUS.count 0 0) R.LGB_WIN_STATUS.atEnd 0 true)
        R.LGB_WIN_STATUS.skipped 0 false
    else loadWindow b

/-- The window fills while it loads. -/
def windowReady (b : Body) : Body := if getF b R.LGB_WIN_STATUS.state 0 = 1 ∧ shepherdActive b then fillWindow b else b

/-- A record has been written while an empty window follows (R592). -/
def followWindow (b : Body) : Body :=
  if flagF b R.LGB_CTRL.follow 0 ∧ getF b R.LGB_WIN_STATUS.state 0 = 2 ∧ getF b R.LGB_WIN_STATUS.count 0 = 0 ∧ flagF b R.LGB_WIN_STATUS.atEnd 0
    then loadWindow b else b

/-- Where the next record goes (R586, R587): its area and sector; none while it waits for an erased sector. -/
def writePlace (b : Body) (n : Nat) : Option (Nat × Nat) :=
  let l := b.logbook
  let unerased := fun (a s : Nat) => (l.clearing.map (fun c => c.left.contains (a, s))).getD false
  let firstAt := if l.firstUsed + n ≤ 65536 then l.firstSector else l.firstSector + 1
  if !flagF b R.LGB_STATUS.first_full 0 ∧ firstAt < 32 then
    if unerased 0 firstAt then none else some (0, firstAt)
  else if l.lastUsed + n ≤ 65536 then some (1, l.lastSector)
  else if l.lastErased = 0 ∨ unerased 1 ((l.lastSector + 1) % 480) then none
  else some (1, (l.lastSector + 1) % 480)

/-- A record is written at its place (R586). -/
def placeRec (r : LogRec) (p : Nat × Nat) (b : Body) : Body :=
  let n := r.length
  if p.1 = 0 then
    updLog (fun l => { l with held := l.held ++ [⟨r, 0, p.2⟩], firstUsed := (if p.2 = l.firstSector then l.firstUsed else 0) + n, firstSector := p.2 }) b
  else
    updLog (fun l => { l with held := l.held ++ [⟨r, 1, p.2⟩], lastErased := if p.2 = l.lastSector then l.lastErased else l.lastErased - 1
                              lastUsed := (if p.2 = l.lastSector then l.lastUsed else 0) + n, lastSector := p.2 }) b

/-- From the first record that does not fit the first area on, records go to the last area (R586, R595). -/
def noteFirstFull (p : Nat × Nat) (b : Body) : Body :=
  if p.1 = 0 ∨ flagF b R.LGB_STATUS.first_full 0 then b else raiseVec 25 (setFlag b R.LGB_STATUS.first_full 0 true)

/-- The two Shepherds change parts (R588, R590): the records of the new active Shepherd's own flash are those held, the other's lack or exceed
them; each keeps its own (log entry 70). -/
def swapFlash (b : Body) : Body :=
  showLog (updLog (fun l => { l with held := l.held.filter (fun h => !l.behind.contains h.entry.seq) ++ l.extra
                                     behind := l.extra.map (·.entry.seq)
                                     extra := l.held.filter (fun h => l.behind.contains h.entry.seq) }) b)

/-- Does the standby write the same records (R588)? -/
def standbyWrites (b : Body) : Bool :=
  (getF b R.SHP_STATUS.a_state 0 == 3 || getF b R.SHP_STATUS.b_state 0 == 3) && !flagF b R.LGB_STATUS.mirror_behind 0

/-- The active Shepherd writes the first queued record (R588). -/
def flashWrite (b : Body) : Body :=
  match b.logbook.queue with
  | [] => b
  | r :: rest =>
    if !shepherdActive b then b
    else match writePlace b r.length with
      | none => b
      | some p =>
        let mirrored := standbyWrites b
        let b := placeRec r p (noteFirstFull p b)
        let b := updLog (fun l => { l with queue := rest, behind := if mirrored then l.behind else l.behind ++ [r.seq] }) b
        followWindow (showLog b)

/-- Write queued records until one must wait. -/
def flashWriteAll : Nat → Body → Body
  | 0, b => b
  | n + 1, b => flashWriteAll n (flashWrite b)

/-- The LOST record (R589, R591, R595). -/
def lostRecord (b : Body) : Body :=
  match b.logbook.dropped with
  | none => b
  | some (a, z, k) =>
    if queueBytes b.logbook.queue + recLength 24 ≤ queueSize then
      let b := updLog (fun l => { l with dropped := none }) b
      raiseVec 25 (addSat (logRec 0xFF (leBytes 8 a ++ leBytes 8 z ++ leBytes 8 k) b) R.LGB_STATUS.lost 0 k)
    else b

/-- Records of a sector are no longer held (R587, R594, R595). -/
def eraseSector (area sector : Nat) (b : Body) : Body :=
  let gone := (b.logbook.held.filter (fun h => h.area == area && h.sector == sector)).map (·.entry.seq)
  let hit := area = 1 ∧ gone.contains (getF b R.LGB_CURSOR.seq 0)
  let b := updLog (fun l => { l with held := l.held.filter (fun h => !(h.area == area && h.sector == sector))
                                     extra := l.extra.filter (fun h => !(h.area == area && h.sector == sector)) }) b
  showLog (if hit then raiseVec 25 b else b)

/-- A sector is erased: the next of a clear in progress, or the oldest of the last area to keep two erased sectors ahead
(R587, R594). -/
def sectorErase (b : Body) : Body :=
  if !shepherdActive b then b
  else match b.logbook.clearing with
  | some c =>
    match c.left with
    | [] => b
    | (a, s) :: rest =>
      let b := eraseSector a s b
      let b := updLog (fun l => { l with clearing := if rest.isEmpty then none else some { c with left := rest }
                                         lastErased := if a = 1 then l.lastErased + 1 else l.lastErased }) b
      if rest.isEmpty then raiseVec 25 (setFlag b R.LGB_STATUS.clearing 0 false) else b
  | none =>
    if b.logbook.lastErased < 2 then
      let s := (b.logbook.lastSector + b.logbook.lastErased + 1) % 480
      updLog (fun l => { l with lastErased := l.lastErased + 1 }) (addSat (eraseSector 1 s b) R.LGB_FILL.erased 0 1)
    else b

/-- A clear for the command of a mailbox (R594), of areas by their code of R565: the ceiling moves, the first sector of each area
named is erased, the clear record is written at the start, and the other sectors follow. The payload is that of the clear record
after its calendar time. -/
def beginClear (areas m : Nat) (b : Body) : Body :=
  let as := if areas = 3 then [0, 1] else if areas = 2 then [0] else [1]
  let old := heldIn b.logbook (if areas = 3 then 2 else if areas = 2 then 0 else 1)
  let n := b.logbook.nextSeq
  let b := updLog (fun l => { l with ceiling := l.nextSeq + 4096 }) b
  let b := forEach as (fun a b => eraseSector a 0 b) b
  let payload := leBytes 6 (calendar b) ++ leBytes 2 (cond b.host.calValid 1 0) ++ leBytes 1 areas ++ leBytes 7 0
    ++ leBytes 8 ((old.head?.map (·.seq)).getD 0) ++ leBytes 8 ((old.getLast?.map (·.seq)).getD 0)
  let r : LogRec := { seq := n, cls := 0x105, payload := payload, origin := if m < 16 then 1 else 2, writer := getF b R.SHP_STATUS.active 0
                      opMs := hourMs b, cycles := b.host.cycles }
  let b := if as.contains 0 then setFlag (updLog (fun l => { l with firstSector := 0, firstUsed := 0 }) b) R.LGB_STATUS.first_full 0 false else b
  let b := if as.contains 1 then updLog (fun l => { l with lastSector := 0, lastUsed := 0, lastErased := 0 }) b else b
  let b := placeRec r (as.headD 0, 0) b
  let left := (if as.contains 0 then (List.range 31).map (fun i => (0, i + 1)) else [])
    ++ (if as.contains 1 then (List.range 479).map (fun i => (1, i + 1)) else [])
  let b := updLog (fun l => { l with nextSeq := n + 1, clearing := some ⟨areas, left, m, n⟩ }) b
  showLog (setFlag b R.LGB_STATUS.clearing 0 true)

/-- Presence is lost, or a module reset begins (R589, R596, R655): unwritten records that are not privileged are dropped and named
by a LOST record, a pull record follows where there is one, and what is queued is written; a clear stops. -/
def logLossOfPower (pull : Option (List Byte)) (b : Body) : Body :=
  if !shepherdActive b then b
  else
    let gone := b.logbook.queue.filter (fun r => !privClass r.cls)
    let b := updLog (fun l => gone.foldl (fun l r => dropNumber r.seq l) { l with queue := l.queue.filter (fun r => privClass r.cls), clearing := none }) b
    let b := lostRecord (setFlag b R.LGB_STATUS.clearing 0 false)
    let b := match pull with
      | some p => logRec 0x23 p b
      | none => b
    flashWriteAll b.logbook.queue.length b

end Sys2Proof.Machine
end

