-- ==== Sys2Proof/Machine/PowerOps.lean ====
section
/-! DEFINITION. The actions of the power path: start-up steps, opening the pack, trips and what they stop (R338-R366, R649-R653). -/

namespace Sys2Proof.Machine

/-- A step of start-up fails (R652, R653). -/
def stepFailed (n : Nat) (b : Body) : Body :=
  let b := if getF b R.SHP_STARTUP.failed_step 0 = 0 then setF b R.SHP_STARTUP.failed_step 0 n else b
  setFlag b R.SHP_STARTUP.failed 0 true

/-- Is the module ready (R652)? -/
def isReady (b : Body) : Bool :=
  decide (getF b R.SHP_STARTUP.done 0 % 512 = 511) && power b == 7 && !b.cox.path.startLoss && !flagF b R.SHP_STARTUP.failed 0

/-- The default threshold of a trip, in thousandths of its unit; an offset below the reference by its magnitude (R360). -/
def tripDefault : Nat → Nat
  | 0x01 => 420000
  | 0x02 => 250000
  | 0x03 => 48000
  | 0x06 => 60000
  | 0x07 => 44000
  | 0x08 => 90000
  | 0x09 => 105000
  | 0x0B => 150000
  | 0x0C => 100000
  | 0x0D => 120000
  | 0x0F => 115000
  | 0x10 => 100000
  | _ => 0

/-- A threshold in force, in thousandths of its unit (R360, R361). -/
def tripThreshold (b : Body) (code : Nat) : Nat := SMap.get b.cox.path.thresholds (tripDefault code) code

/-- The record of a trip (R362, R591) and its interrupt; actions are numbered in the order of R359 (log entry 30). Every
action but input_off latches (R362). -/
def tripRecord (code action : Nat) (value : Int) (b : Body) : Body :=
  let b := if action = 1 then b else updPath (fun p => { p with tripped := setBit p.tripped (code - 1) true }) b
  raiseVec 22 (logRec 0x21 ([BitVec.ofNat 8 code, BitVec.ofNat 8 action, 0, 0] ++ leBytes 4 (uint 32 value)) b)

/-- A loop stops and drives nothing. -/
def loopStop (e l : Nat) (b : Body) : Body :=
  setF (setF (setF b R.COX_LOOP_MODE.mode (lix e l) 0) R.COX_LOOP_MODE.state (lix e l) 0) R.COX_LOOP_OUT.out (lix e l) 0

/-- The engine and slots of a stack's rails (R367, R368). -/
def stackSlots (k : Nat) : Nat × List Nat :=
  if k < 5 then (18, [2 * k, 2 * k + 1]) else if k = 11 then (18, [10, 11]) else (19, [2 * (k - 5), 2 * (k - 5) + 1])

/-- The engine and core slots, and the cage slot, of a link die. -/
def linkSlots (n : Nat) : Nat × Nat × Nat := (if n < 2 then 18 else 19, 12 + n % 2 * 2, 13 + n % 2 * 2)

/-- The link die of a corner die, if the die is one (R21, R173). -/
def cornerLink (d : Nat) : Option Nat := ([0, 3, 12, 15] : List Nat).findIdx? (· == d)

/-- The ports of a link die. -/
def linkPorts (n : Nat) : List Nat := (List.range 18).filter (fun p => portDie p == n)

/-- The rails of a stack stop; the stack is lost (R178, R359). -/
def stopStack (k : Nat) (b : Body) : Body :=
  let e := stackSlots k
  noteStacks (setF (forEach e.2 (loopStop e.1) b) R.MEM_STATUS.state k 4)

/-- The core and cage rails of a link die stop and its ports fall silent (R359). -/
def stopLink (n : Nat) (b : Body) : Body :=
  let e := linkSlots n
  forEach (linkPorts n) (fun p => portDown p 6) (loopStop e.1 e.2.2 (loopStop e.1 e.2.1 b))

/-- The stations of a die lose their clock and stop. -/
def stopDie (d : Nat) (b : Body) : Body :=
  forEach (dieStations b d) (fun st b => clockStop (.station st) (writeRun st false b))
    (forEach [0, 1, 2, 3] (fun e => clockStop (.segment d e)) (forEach [0, 1, 2, 3] (loopStop d) b))

/-- A block stops (R359): what its trip stops and the loss that follows. Before the module is ready a lost die or stack leaves it
not ready (R652, R653). -/
def stopBlock (code : Nat) (blk : PowerBlock) (b : Body) : Body :=
  let loss := fun (b : Body) => updPath (fun p => { p with startLoss := p.startLoss || !isReady b }) b
  match blk with
  | .ratio d =>
    let b := stopDie d b
    let b := forEach ((List.range 12).filter (fun k => stackHost k == d)) stopStack b
    let b := match cornerLink d with
      | some n => stopLink n b
      | none => b
    loss (report (.power code d) b)
  | .die d => loss (report (.power code d) (stopDie d b))
  | .stack k => loss (report (.stackLoss k) (stopStack k b))
  | .link n => report (.power code (28 + n)) (stopLink n b)
  | .cage n => forEach (linkPorts n) (fun p => portLost p 3) (loopStop (linkSlots n).1 (linkSlots n).2.2 b)

/-- block_off (R359, R362): several trips that stop one block set a single latch. -/
def blockLatch (code : Nat) (blk : PowerBlock) (b : Body) : Body :=
  if b.cox.path.blocks.contains blk ∨ b.cox.path.moduleStop then b
  else stopBlock code blk (updPath (fun p => { p with blocks := p.blocks ++ [blk] }) b)

/-- block_off by a trip of R360. -/
def blockOff (code : Nat) (blk : PowerBlock) (value : Int) (b : Body) : Body := blockLatch code blk (tripRecord code 4 value b)

/-- The port stops charging or discharging at a hardware limit (R357, R468). -/
def portLimits (b : Body) : Body :=
  let mv := getF b R.STP_PACK_V.mv 0
  let open_ := getF b R.STP_STATUS.state 0 ≠ 2
  let b := setFlag b R.STP_STATUS.chg_limit 0 (!open_ && (decide (121600 ≤ mv) || flagF b R.CMN_LIMITS.chg_stop 0))
  noteWindow 2 (setFlag b R.STP_STATUS.dis_limit 0 (!open_ && (decide (mv ≤ 80000) || flagF b R.CMN_LIMITS.dis_stop 0)))

/-- A break under current is counted (R352, R355). -/
def countBreak (b : Body) : Body :=
  if getF b R.STP_PACK_I.ma 0 ≠ 0 ∧ getF b R.STP_STATUS.state 0 ≠ 0 then addSat b R.STP_BREAKS.breaks 0 1 else b

/-- The pack-side capacitance is discharged to a voltage below 10 V that is not stated (R355; log entry 3). -/
def dischargeCap (b : Body) : Body :=
  let v := drawFree b
  setF v.2 R.STP_PACK_V.mv 0 (min (getF b R.STP_PACK_V.mv 0) (v.1 % 10000))

/-- The contactors stand open and the pack side is discharged (R355 steps 2 and 3). -/
def contactorsOpen (b : Body) : Body :=
  let b := setFlag (setFlag (setFlag b R.STP_CTRL.close 0 false) R.STP_STATUS.aux_pos 0 false) R.STP_STATUS.aux_neg 0 false
  let b := dischargeCap (setF b R.STP_STATUS.state 0 0)
  portLimits (updPath (fun p => { p with recovery := false }) (setF b R.STP_PACK_I.ma 0 0))

/-- The pack opens (R355, R395): the port's current goes to zero under L1, then the contactors open. -/
def openPack (b : Body) : Body :=
  if getF b R.STP_STATUS.state 0 = 0 then setFlag b R.STP_CTRL.close 0 false
  else contactorsOpen (pgTarget 17 1 (bfRat 0 1) (loopModeWrite 17 1 2 (setF b R.STP_PACK_I.ma 0 0)))

/-- Every station stops. -/
def stopAllStations (b : Body) : Body := forEach (liveStations b) (writeRun · false) b

/-- State no_pack is entered (R358, R392): COX16 holds the bus at 54.0 V, the port's reference goes to 0 A. -/
def enterNoPack (b : Body) : Body :=
  let b := if b.cox.path.inputAbsent then b
    else loopModeWrite 16 2 2 (setF (setF b R.COX_LOOP_CFG.pg (lix 16 2) 15) R.COX_LOOP_REF_STATIC.ref (lix 16 2) (bfRat 54 1))
  let b := pgTarget 17 1 (bfRat 0 1) (loopModeWrite 17 1 2 b)
  noteWindow 3 (setPower 11 (stopAllStations b))

/-- A pack fault is recorded (R352); the module runs at most in state no_pack. -/
def packFault (item : Nat) (b : Body) : Body :=
  logRec 0x30 [3, 0, BitVec.ofNat 8 item] (setFlag b R.STP_STATUS.pack_fault 0 true)

/-- The module leaves its flock for want of its pack or power (R313, R359). -/
def powerLeave (b : Body) : Body :=
  if joined b then leaveFlock { blankRecord b 0x12 0x05 with die := 0xFF } b else b

/-- pack_off (R359): the pack opens, the module leaves the flock, state no_pack from the states in which the pack is in use. -/
def packOff (b : Body) : Body :=
  let b := updPath (fun p => { p with packOff := true }) (openPack b)
  let b := powerLeave b
  if 4 ≤ power b ∧ power b ≤ 8 then enterNoPack b else b

/-- pack_off by a trip of R360. -/
def packOffTrip (code : Nat) (value : Int) (b : Body) : Body := packOff (tripRecord code 3 value b)

/-- Every converter cell stops: the input current is zero. -/
def stopCells (b : Body) : Body :=
  updPath (fun p => { p with cellsRun := false }) (setF (setF b R.COX_LOOP_OUT.out (lix 16 0) 0) R.COX_LOOP_OUT.out (lix 16 2) 0)

/-- Every ratio stage and phase stops (R359): the rails, their stations and the link dies' ports. -/
def stopRails (b : Body) : Body :=
  let b := forEach (List.range 16) stopDie b
  let b := forEach [18, 19] (fun e b => forEach (List.range 16) (loopStop e) b) b
  forEach (List.range 18) (fun p b => if portState b p = 1 ∨ portState b p = 2 then portDown p 3 b else b) (stopAllStations b)

/-- module_stop (R359). -/
def moduleStop (b : Body) : Body :=
  if b.cox.path.moduleStop then b
  else
    let b := stopRails (stopCells b)
    noteWindow 3 (setPower 10 (updPath (fun p => { p with moduleStop := true }) b))

/-- module_stop by a trip. -/
def moduleStopTrip (code : Nat) (value : Int) (b : Body) : Body := moduleStop (tripRecord code 5 value b)

/-- The input is absent (R338): the switch opens, the cells stop, L0 is held in manual at 0. From the connection of the pack on the
module runs from storage (R358, R660); before, it stays in its state. A failed pre-charge of a module that is off leaves it
there. -/
def inputOff (b : Body) : Body :=
  let b := updPath (fun p => { p with switch := 0, inputAbsent := true, cellsHalted := false }) (stopCells b)
  let b := setF (loopModeWrite 16 0 1 b) R.COX_LOOP_MANUAL.manual (lix 16 0) 0
  let b := ledgerAbsent true b
  let p := power b
  if p = 6 ∨ p = 7 ∨ (p = 5 ∧ getF b R.STP_STATUS.state 0 = 2) then noteWindow 3 (setPower 8 b)
  else if p = 1 ∧ !b.cox.path.housekeeping then setPower 0 b
  else b

/-- input_off by a trip; a fourth input_oc within 60 s latches (R362). -/
def inputOffTrip (code : Nat) (value : Int) (b : Body) : Body :=
  let b := tripRecord code 1 value b
  let b := if code = 3 then
      let ts := b.cox.path.ocTimes.filter (fun t => decide (b.now < t + 60000000000)) ++ [b.now]
      updPath (fun p => { p with ocTimes := ts, ocLatched := p.ocLatched || decide (4 ≤ ts.length)
                                 tripped := if 4 ≤ ts.length then setBit p.tripped 2 true else p.tripped }) b
    else b
  if power b = 9 then b else inputOff b

/-- The block that a rail slot serves (R359, R369). -/
def slotBlock (e l : Nat) : Option PowerBlock :=
  if e < 16 then (if l < 4 then some (.die e) else none)
  else if e = 18 ∨ e = 19 then
    if l < 12 then
      let i := l / 2
      some (.stack (if e = 19 then i + 5 else if i = 5 then 11 else i))
    else some (if l % 2 = 0 then .link (2 * (e - 18) + (l - 12) / 2) else .cage (2 * (e - 18) + (l - 12) / 2))
  else none

/-- Every block that an engine serves (R405). -/
def engineBlocks (e : Nat) : List PowerBlock :=
  if e < 16 then [.die e] else (List.range 16).filterMap (slotBlock e) |>.eraseDups

/-- The module's own emergency cap (R343): recorded, and it binds unless a lower cap is in force. -/
def selfCap (b : Body) : Body :=
  let cur := getF b R.COX_CAP.cap_w 16
  let b := updPath (fun p => { p with selfCap := true }) b
  if cur ≠ 0 ∧ cur ≤ 8400 then b
  else placeCap 8400 (updPath (fun p => { p with capBy := 3 }) <| logRec 0x103 (leBytes 2 8400 ++ [3, 0] ++ leBytes 2 cur) b)

/-- The balancing policy is written (R485, R546): mode, threshold_mv, hyst_mv, temp_max_c, min_mv. -/
def writeBalance (p : List Nat) (b : Body) : Body :=
  setF (setF (setF (setF (setF b R.CMN_BAL_POLICY.mode 0 (p.getD 0 0)) R.CMN_BAL_POLICY.threshold_mv 0 (p.getD 1 0)) R.CMN_BAL_POLICY.hyst_mv 0 (p.getD 2 0))
    R.CMN_BAL_POLICY.temp_max_c 0 (p.getD 3 0)) R.CMN_BAL_POLICY.min_mv 0 (p.getD 4 0)

/-- Bus-low reaches every engine (R345, R391). -/
def busLow (v : Bool) (b : Body) : Body :=
  let b := updPath (fun p => { p with busLow := v }) b
  let b := forEach (List.range 20) (fun e b => setFlag b R.COX_STATUS.bus_low e v) b
  let b := forEach shedEngines (fun e b => if v then abortShed e b else b) b
  noteWindow 2 (forEach (List.range 16) ceilingsChanged b)

end Sys2Proof.Machine
end

