-- ==== Sys2Proof/Machine/RegOps.lean ====
section
/-! DEFINITION. What a read of a register field shows where the field mirrors other state, and a register as a word (R10-R13). -/

namespace Sys2Proof.Machine

/-- A truth value as a bit. -/
def ofFlag (c : Bool) : Nat := cond c 1 0

/-- The valid nonces of a party: 1 provider, 2 tenant (R562). -/
def validNonces (b : Body) (party : Nat) : List Nonce :=
  b.trust.nonces.filter (fun n => n.party == party && decide (hourMs b < n.issued + 600000))

/-- The flags of a loop (R413). -/
def loopFlags : List Field :=
  [R.COX_LOOP_FLAGS.sat_err, R.COX_LOOP_FLAGS.sat_int, R.COX_LOOP_FLAGS.sat_der, R.COX_LOOP_FLAGS.sat_out, R.COX_LOOP_FLAGS.clamp_hi,
   R.COX_LOOP_FLAGS.clamp_lo, R.COX_LOOP_FLAGS.frozen, R.COX_LOOP_FLAGS.fallback_sense, R.COX_LOOP_FLAGS.sat_time, R.COX_LOOP_FLAGS.plaus,
   R.COX_LOOP_FLAGS.handover_clamp, R.COX_LOOP_FLAGS.softstart_abort, R.COX_LOOP_FLAGS.delay_over, R.COX_LOOP_FLAGS.shed_abort]

/-- The role of a physical station (R65, R74): 0 active, 1 spare, 2 failed in its self-test. -/
def stationRole (b : Body) (st : Nat) : Nat := if (stn b st).selfTestFailed then 2 else if logicalOf b st = 63 then 1 else 0

/-- The state a station shows (R76): 7 while it is fenced, else 0 while it is gated, else that of its sequencer (log entry 66). -/
def stationState (b : Body) (st : Nat) : Nat :=
  if flagF b R.STN_CTRL.fence st then 7 else if flagF b R.STN_CTRL.power_gate st then 0 else getF b R.STN_STATUS.state st

/-- The lowest effective frequency since the last read (R78): that of the clock that runs now among it. -/
def minEffCode (b : Body) (st : Nat) : Nat :=
  let m := getF b R.STN_CLK_STATUS.min_eff_code st
  if clocked b st then min m (getF b R.STN_CLK_STATUS.current_code st) else m

/-- The valid entries of a die's map registers (R66, R79). -/
def activeCount (b : Body) (die : Nat) : Nat := ((List.range 48).filter (fun l => mapEntry b die l != 0)).length

/-- The bits of CHK_RUN that an algorithm uses (R211); the others read 0. -/
def runBits (algo : Nat) : Nat := if algo = 1 then 16 else if algo = 2 then 32 else 64

/-- The fields of the stations, dies and drovers that mirror other state (R74, R76, R78, R79, R165, R203, R206, R211). -/
def stationView (b : Body) (f : Field) (i : Nat) : Option Nat :=
  if f = R.STN_ID.logical then some (logicalOf b i)
  else if f = R.STN_ID.role then some (stationRole b i)
  else if f = R.STN_STATUS.state then some (stationState b i)
  else if f = R.STN_CLK_STATUS.min_eff_code then some (minEffCode b i)
  else if f = R.STN_DIE_STATUS.active_count then some (activeCount b i)
  else if f = R.STN_DIE_STATUS.spares_free then some (sparesOf b i).length
  else if f = R.STN_DIE_STATUS.degraded then some (ofFlag (decide (activeCount b i < 48)))
  else if f = R.STN_SEQ_STATUS.loop_depth then some (stn b i).loops.length
  else if f = R.STN_SEQ_STATUS.matrix_ops then some (min 3 (stn b i).matQ.length)
  else if f = R.STN_SEQ_STATUS.drover0_queue then some (drv b (i * 2)).queue.length
  else if f = R.STN_SEQ_STATUS.drover1_queue then some (drv b (i * 2 + 1)).queue.length
  else if f = R.DRV_STATUS.queue then some (drv b i).queue.length
  else if f = R.CHK_RUN.run then some (getF b R.CHK_RUN.run i % 2 ^ runBits (getF b R.CHK_CTRL.algo i))
  else if f = R.CHK_RESULT.result then
    some (Nat.xor (getF b R.CHK_RUN.run i % 2 ^ runBits (getF b R.CHK_CTRL.algo i)) (crcFinal (getF b R.CHK_CTRL.algo i)))
  else none

/-- The fields of the module that mirror other state (R412, R416, R516, R580, R652). -/
def moduleView (b : Body) (f : Field) (i : Nat) : Option Nat :=
  if f = R.COX_STATUS.running then some (ofFlag (engineRuns b i))
  else if f = R.COX_SHED_STATUS.inhibited then some (ofFlag (shedInhibited b i))
  else if f = R.COX_EVENTS.loop_flags then
    some (((List.range 16).filter (fun l => loopFlags.any (fun g => flagF b g (lix i l)))).foldl (fun a l => a + 2 ^ l) 0)
  else if f = R.GBL_STATUS.run_state then some (runState b)
  else if f = R.GBL_STATUS.joined then some (ofFlag (joined b))
  else if f = R.GBL_STATUS.seat then some (ofFlag (joined b && isSeat b))
  else if f = R.GBL_STATUS.paired then some (ofFlag (b.fail.pairState == 2))
  else if f = R.GBL_STATUS.shepherd then some (getF b R.SHP_STATUS.active 0)
  else if f = R.GBL_STATUS.protected then some (getF b R.SHP_STATUS.protected 0)
  else if f = R.GBL_STATUS.draining then some (ofFlag (b.rack.drain != 0))
  else if f = R.GBL_STATUS.pull_ready then some (ofFlag (b.rack.drain == 3))
  else if f = R.GBL_STATUS.cap_active then some (ofFlag (getF b R.COX_CAP.cap_w 16 != 0))
  else if f = R.GBL_STATUS.degraded then some (ofFlag (!b.fail.variants.isEmpty))
  else if f = R.SHP_TRUST.provider_key then some (ofFlag (!b.trust.provider.isEmpty))
  else if f = R.SHP_TRUST.tenant_key then some (ofFlag (!b.trust.tenant.isEmpty))
  else if f = R.SHP_TRUST.provider_nonces then some (validNonces b 1).length
  else if f = R.SHP_TRUST.tenant_nonces then some (validNonces b 2).length
  else if f = R.SHP_STARTUP.ready then some (ofFlag (isReady b))
  else if f = R.SHP_STARTUP.elapsed_s then some (min 4095 ((b.now - b.cox.path.elapsedFrom) / 1000000000))
  else none

/-- What a read of a field shows. -/
def fieldView (b : Body) (f : Field) (i : Nat) : Nat :=
  match stationView b f i with
  | some v => v
  | none => (moduleView b f i).getD (getF b f i)

/-- The register at an offset of a block, its number there, and whether the offset is that of its upper half (R13). -/
def regAt (blk : Block) (off : Nat) : Option (RegSpec × Nat × Bool) :=
  regTable.findSome? (fun r =>
    if r.block ≠ blk ∨ off < r.off then none
    else
      let d := off - r.off
      let k := if r.stride = 0 then 0 else d / r.stride
      let rest := d - k * r.stride
      if r.count ≤ k then none else if rest = 0 then some (r, k, false) else if r.wide ∧ rest = 4 then some (r, k, true) else none)

/-- A register as a word; reserved bits read 0 (R12). -/
def regWord (b : Body) (reg i : Nat) : Nat :=
  match regSpec reg with
  | none => 0
  | some r => r.fields.foldl (fun a f => if f.acc = .wo then a else a + fieldView b f.field i % 2 ^ f.field.width * 2 ^ f.lo) 0

/-- The 32-bit word at an offset of an instance of a block, read without side effects; 0 where no register lies (R12, R13). -/
def wordAt (b : Body) (blk : Block) (inst off : Nat) : Nat :=
  match regAt blk off with
  | some (r, k, hi) => let w := regWord b r.reg (inst * r.count + k); if hi then w / 2 ^ 32 else w % 2 ^ 32
  | none => 0

end Sys2Proof.Machine
end

