-- ==== Sys2Proof/Machine/MailboxOps.lean ====
section
/-! DEFINITION. Mailboxes and management channels: doorbells, the checks of a request, responses (R505-R510, R520-R524). -/

namespace Sys2Proof.Machine

/-- A mailbox 0-15 or a management channel, 16 for M0 and 17 for M1 (R505). -/
def isMailbox (m : Nat) : Bool := decide (m < 18)

/-- A mailbox. -/
def mbx (b : Body) (m : Nat) : Mailbox := SMap.get b.host.mailboxes Mailbox.reset m

/-- Change a mailbox. -/
def updMbx (m : Nat) (f : Mailbox → Mailbox) (b : Body) : Body :=
  updHost (fun h => { h with mailboxes := SMap.upd h.mailboxes Mailbox.reset m f }) b

/-- Bytes of a request area; a byte not written reads 0 (log entry 43). -/
def reqBytes (b : Body) (m off n : Nat) : List Byte := (List.range n).map (fun i => SMap.get (mbx b m).request 0 (off + i))

/-- A field of a request area. -/
def reqField (b : Body) (m off n : Nat) : Nat := ofLeBytes (reqBytes b m off n)

/-- The kinds of command (R520, R521). -/
inductive CmdKind where
  | read | change | urgent
deriving DecidableEq, Repr

/-- A command of the catalogue (R520): whether the host and management may send it, its kind, the least and largest body. -/
structure CmdSpec where
  opcode : Nat
  host : Bool
  mgmt : Bool
  kind : CmdKind
  lo : Nat
  hi : Nat
deriving DecidableEq, Repr

/-- The catalogue (R520). -/
def catalogue : List CmdSpec :=
  [⟨0x0001, true, true, .read, 0, 0⟩, ⟨0x0002, true, true, .read, 0, 0⟩, ⟨0x0003, true, true, .change, 8, 8⟩,
   ⟨0x0101, true, false, .change, 16, 16⟩, ⟨0x0102, true, false, .change, 16, 4076⟩, ⟨0x0103, true, false, .change, 0, 0⟩,
   ⟨0x0104, true, false, .change, 144, 144⟩, ⟨0x0201, false, true, .change, 156, 156⟩, ⟨0x0202, true, true, .urgent, 156, 156⟩,
   ⟨0x0203, true, true, .read, 0, 0⟩, ⟨0x0301, true, true, .read, 4, 4⟩, ⟨0x0302, true, true, .change, 16, 16⟩]
  ++ [⟨0x0401, true, true, .read, 0, 0⟩, ⟨0x0402, true, true, .change, 8, 8⟩, ⟨0x0501, true, true, .read, 16, 16⟩,
   ⟨0x0502, true, true, .read, 8, 8⟩, ⟨0x0503, true, true, .change, 0, 4076⟩, ⟨0x0601, true, false, .change, 16, 16⟩,
   ⟨0x0701, true, true, .change, 4, 4076⟩, ⟨0x0702, true, true, .change, 4, 4⟩, ⟨0x0801, true, false, .change, 16, 16⟩,
   ⟨0x0802, true, true, .change, 4, 4⟩, ⟨0x0901, true, false, .change, 144, 144⟩, ⟨0x0902, true, true, .read, 16, 16⟩,
   ⟨0x0903, true, true, .change, 8, 8⟩]

/-- The command of an opcode. -/
def cmdOf (op : Nat) : Option CmdSpec := catalogue.find? (fun c => c.opcode == op)

/-- The origin of a mailbox in logbook records (R581): 1 host, 2 management. -/
def originOf (m : Nat) : Nat := if m < 16 then 1 else 2

/-- A response is written and the mailbox is done (R507, R509): its vector is raised unless no_irq; the response of a channel leaves
over MCTP (R621). -/
def answer (m status : Nat) (body : List Byte) (b : Body) : Body :=
  match (mbx b m).taken with
  | none => b
  | some t =>
    let msg := leBytes 2 t.opcode ++ leBytes 2 t.alive ++ leBytes 2 body.length ++ [BitVec.ofNat 8 status, 0] ++ leBytes 8 t.tag ++ body
    let b := updMbx m (fun x => { x with response := msg ++ leBytes 4 (crc32c msg), taken := none }) b
    let b := setF (setF b R.MBX_STATUS.state m 3) R.MBX_TIME.last_us m (min ((b.now - t.at_) / 1000) 0xFFFFFFFF)
    if m < 16 then (if t.noIrq then b else raiseVec m b)
    else emit (.response "MAILBOX_EXCHANGE" ((m - 16) :: 0 :: (msg ++ leBytes 4 (crc32c msg)).map (·.toNat))) b

/-- What a command answers (R507): OK with a body, a status with the request offset of the field that caused it and a detail, or
nothing yet. -/
inductive Reply where
  | ok (body : List Byte)
  | no (status : Nat) (field : Option Nat) (detail : Nat)
  | later
deriving DecidableEq, Repr

/-- A status other than OK (R507): the offset counts from the start of the request. -/
def refuse (m status : Nat) (offset : Option Nat) (detail : Nat) (b : Body) : Body :=
  answer m status (leBytes 4 (offset.getD 0xFFFFFFFF) ++ leBytes 4 detail) b

/-- The record of a command (R522, R591): class 0x10 done with OK, 0x11 refused by a party signature block. -/
def cmdRecord (cls m status : Nat) (b : Body) : Body :=
  match (mbx b m).taken with
  | none => b
  | some t => logFrom (originOf m) cls (leBytes 2 t.opcode ++ leBytes 1 m ++ leBytes 1 status ++ leBytes 4 0 ++ leBytes 8 t.tag) b

/-- Finish a command with its reply (R507, R522, R591). -/
def finish (m : Nat) (r : Reply) (b : Body) : Body :=
  match r with
  | .ok body =>
    let read := ((mbx b m).taken.bind (fun t => cmdOf t.opcode)).all (fun c => decide (c.kind = .read))
    answer m 0 body (if read then b else cmdRecord 0x10 m 0 b)
  | .no st f d => refuse m st f d b
  | .later => b

/-- Is a command that changes state in execution (R510)? -/
def changeBusy (b : Body) : Bool :=
  (List.range 18).any (fun m => ((mbx b m).taken.bind (fun t => cmdOf t.opcode)).any (fun c => decide (c.kind = .change)))

/-- The kind of the request that waits in a mailbox. -/
def waitingKind (b : Body) (m : Nat) : CmdKind := ((cmdOf (reqField b m 0 2)).map (·.kind)).getD .read

/-- The pending request that firmware takes next (R510, R521): an urgent one ahead of the others; otherwise doorbell order, in which a
change waits for the change in execution and holds back no read. -/
def nextTaken (b : Body) : Option Nat :=
  (b.host.doorbells.find? (fun d => decide (waitingKind b d = .urgent))).orElse
    (fun _ => b.host.doorbells.find? (fun d => !(decide (waitingKind b d = .change) && changeBusy b)))

/-- May a pending request be taken now (R509)? -/
def mayTake (b : Body) (m : Nat) : Bool := getF b R.MBX_STATUS.state m == 1 && shepherdActive b && nextTaken b == some m

/-- The reserved fields and encodings at fixed places of a command's body (R508 check 8): the first that is not 0 or not assigned. -/
def reservedAt (op : Nat) (body : List Byte) : Option Nat :=
  let f := fun (off n : Nat) => ofLeBytes ((body.drop off).take n)
  let zero := fun (off n : Nat) => if f off n = 0 then none else some off
  let mask := fun (off n m : Nat) => if (f off n).land m = 0 then none else some off
  let range := fun (off lo hi : Nat) => if lo ≤ f off 1 ∧ f off 1 ≤ hi then none else some off
  let first := fun (l : List (Option Nat)) => (l.filterMap id).head?
  let block := fun (_ : Unit) => [range 8 1 2, zero 9 3]
  match op with
  | 0x0003 => zero 6 2
  | 0x0102 => first [mask 0 2 0xC000, mask 2 2 0xC000, range 4 0 1, mask 5 1 0xFE, zero 12 4]
  | 0x0104 => first ([range 0 1 3, zero 1 1] ++ (if f 0 1 = 1 then [] else [zero 2 2, zero 4 4]) ++ [zero 8 8])
  | 0x0201 => first (zero 3 5 :: block ())
  | 0x0202 => first (zero 2 6 :: block ())
  | 0x0301 => zero 2 2
  | 0x0302 => first (range 2 1 3 :: (if f 2 1 = 1 then [] else [zero 3 1]) ++ (if f 2 1 = 2 then [] else [zero 4 2, zero 6 2, zero 8 4])
      ++ (if f 2 1 = 3 then [] else [zero 12 1]) ++ [zero 13 3])
  | 0x0402 => zero 6 2
  | 0x0501 => first [range 0 0 2, zero 1 7]
  | 0x0502 => zero 4 4
  | 0x0503 => if body.length < 64 then none else first [range 4 1 2, zero 58 6]
  | 0x0601 => first [range 0 0 1, if f 1 1 < 16 ∨ f 1 1 = 0xFF then none else some 1, zero 2 6, zero 14 2]
  | 0x0701 => first [range 4 1 2, zero 58 6]
  | 0x0702 => first [range 0 1 2, zero 1 3]
  | 0x0801 => zero 12 4
  | 0x0802 => first [range 0 0 1, zero 1 3]
  | 0x0901 => first [mask 0 2 0xC000, mask 2 1 0xFE, zero 5 11]
  | 0x0902 => zero 10 6
  | 0x0903 => first [range 0 0 1, zero 1 7]
  | _ => none

/-- Does the length of a body fit its command (R508 check 6, R564)? -/
def lengthFits (c : CmdSpec) (body : List Byte) : Bool :=
  let n := body.length
  let accord := n == 64 + ofLeBytes ((body.drop 56).take 2) + 96 * (if body[4]? = some 1 then 2 else 1)
  decide (c.lo ≤ n ∧ n ≤ c.hi) && (c.opcode != 0x0701 || accord) && (c.opcode != 0x0503 || n == 0 || accord)

/-- Checks 4 to 8 of R508, with the check of R652 between checks 7 and 8. -/
def bodyChecks (b : Body) (m op : Nat) (body : List Byte) (flags : Nat) : Option (Nat × Option Nat × Nat) :=
  match cmdOf op with
  | none => some (0x02, some 0, 0)
  | some c =>
    if flags % 256 / 2 ≠ 0 then some (0x0A, some 6, 0)
    else if flags / 256 ≠ 0 then some (0x0A, some 7, 0)
    else if !lengthFits c body then some (0x03, some 4, 0)
    else if !(if m < 16 then c.host else c.mgmt) then some (0x06, none, 0x05)
    else if (op = 0x0101 ∨ op = 0x0102) ∧ !isReady b then some (0x01, none, 0)
    else (reservedAt op body).map (fun o => (0x0A, some (o + 16), 0))

/-- Check 3 of R508: whether the alive value is accepted, and the registers after it. -/
def aliveStep (m alive : Nat) (b : Body) : Bool × Body :=
  let last := getF b R.MBX_ALIVE.last m
  let accept := fun b => (true, setFlag (setF b R.MBX_ALIVE.last m alive) R.MBX_ALIVE.seen m true)
  if !flagF b R.MBX_ALIVE.seen m then accept b
  else match aliveCheck 16 last alive with
    | .inOrder => accept b
    | .skip => accept (addSat b R.MBX_STATUS.skipped m 1)
    | _ => (false, b)

/-- Firmware takes a request and checks it in order (R508, R509); one that passes waits in state busy for its command. -/
def takeRequest (m : Nat) (b : Body) : Body :=
  if !mayTake b m then b
  else
    let n := reqField b m 4 2
    let t : Taken := { opcode := reqField b m 0 2, alive := reqField b m 2 2, noIrq := bit (reqField b m 6 1) 0, tag := reqField b m 8 8
                       body := reqBytes b m 16 (min n 4076), at_ := b.now }
    let b := updHost (fun h => { h with doorbells := h.doorbells.filter (· != m) }) (setF b R.MBX_STATUS.state m 2)
    let b := updMbx m (fun x => { x with taken := some t }) b
    if 4076 < n ∨ n % 4 ≠ 0 then refuse m 0x03 (some 4) 0 b
    else if crc32c (reqBytes b m 0 (16 + n)) ≠ reqField b m (16 + n) 4 then refuse m 0x04 (some (16 + n)) 0 b
    else
      let last := getF b R.MBX_ALIVE.last m
      let r := aliveStep m t.alive b
      if !r.1 then refuse m 0x05 (some 2) last b
      else match bodyChecks r.2 m t.opcode t.body (reqField b m 6 2) with
        | some e => refuse m e.1 e.2.1 e.2.2 r.2
        | none => r.2

/-- A doorbell (R509, R514): a pending or busy mailbox discards it. -/
def ringDoorbell (m : Nat) (b : Body) : Body :=
  let st := getF b R.MBX_STATUS.state m
  if st = 1 ∨ st = 2 then setFlag b R.MBX_STATUS.overrun m true
  else updHost (fun h => { h with doorbells := h.doorbells ++ [m] })
    (updMbx m (fun x => { x with response := [] }) (setF b R.MBX_STATUS.state m 1))

/-- The body of the request in execution in a mailbox, if it is of a command and of an action. -/
def inExecution (b : Body) (m op : Nat) (sel : List Byte → Bool) : Option (List Byte) :=
  match (mbx b m).taken with
  | some t => if t.opcode = op ∧ sel t.body ∧ shepherdActive b then some t.body else none
  | none => none

/-- Execute a command of a mailbox (R509 step 3): its reply and its effects; nothing where no such command is in execution. -/
def command (m op : Nat) (sel : List Byte → Bool) (f : List Byte → State → Reply × State) (s : State) : State :=
  match inExecution s.body m op sel with
  | none => s
  | some body =>
    let r := f body s
    { r.2 with body := finish m r.1 r.2.body }

/-- A command whose effects lie beside the stacks. -/
def commandB (m op : Nat) (sel : List Byte → Bool) (f : List Byte → Body → Reply × Body) (s : State) : State :=
  command m op sel (fun body s => let r := f body s.body; (r.1, { s with body := r.2 })) s

/-- OUT_OF_RANGE for a field of a body. -/
def badField (off : Nat) : Reply := .no 0x0A (some (16 + off)) 0

/-- The first of a list of checks that fails, or what follows. -/
def checked (cs : List (Bool × Reply)) : Option Reply := (cs.find? (fun c => !c.1)).map (·.2)

/-- Bytes of a body. -/
def bslice (bs : List Byte) (off n : Nat) : List Byte := (bs.drop off).take n

/-- A little-endian field of a body. -/
def bfield (bs : List Byte) (off n : Nat) : Nat := ofLeBytes (bslice bs off n)

/-- Any action. -/
def anyAction : List Byte → Bool := fun _ => true

/-- The action byte of a body. -/
def actionIs (off v : Nat) : List Byte → Bool := fun body => ((body.getD off 0).toNat == v)

end Sys2Proof.Machine
end

