-- ==== Sys2Proof/Machine/Failover.lean ====
section
/-! DEFINITION. The commands of replay, abort, pairing, filling and return (R304-R330). -/

namespace Sys2Proof.Machine

/-- A replay START telegram (R232, R307). -/
def replayTel (h : TelHead) (body : StartBody) (s : State) : State :=
  let body := { body with arm := false, replay := true }
  let r := startCheck h body s.body
  let s := { s with body := r.2 }
  if r.1 then takeReplay h.stroke body (getF s.body R.TLY_SEAT_DELAY.d_ns 0) s else s

/-- REPLAY_REQUEST reaches the seat (R304, R305, R310, R328). -/
def replayRequest (m cls : Nat) (inPrep : Bool) (s : State) : State :=
  if !isSeat s.body ∨ !s.body.flock.runOpen then s
  else if cls = 0x30 then seatAbort 0x30 m { blankRecord s.body 0x30 7 with moduleIx := m } s
  else if s.body.flock.inReplay ∧ !inPrep then s
  else seatReplay cls none { blankRecord s.body cls 0x09 with moduleIx := m } s

/-- Every controller mirrors to the partner and the pair is armed (R318 step 4, R319). -/
def armPair (b : Body) : Body :=
  match b.fail.pair with
  | none => b
  | some p =>
    if b.fail.sentPushed ∧ b.fail.gotPushed ∧ b.fail.pairState = 1 then
      let me := moduleIndex b
      let b := forEach (List.range 12) (fun k b => setFlag (setF b R.MEM_MIR_CFG.partner k p.partner) R.MEM_MIR_CFG.enable k true) b
      let b := updFail (fun f => { f with pairState := 2, notes := f.notes.filter (fun x => x.1 != me) ++ [(me, p.partner)] }) b
      forEach (otherMembers b) (fun m b => sendFail m [3, me, p.partner, 3] b) b
    else b

/-- The module is no longer paired (R318): it says so to its partner and to every member. -/
def unpair (b : Body) : Body :=
  match b.fail.pair with
  | none => b
  | some p =>
    let me := moduleIndex b
    let b := forEach (List.range 12) (fun k b => setFlag b R.MEM_MIR_CFG.enable k false) b
    let b := updFail (fun f => { f with pair := none, pairState := 0, sentPushed := false, gotPushed := false
                                        notes := f.notes.filter (fun x => x.1 != me && x.2 != me) }) b
    forEach (p.partner :: (otherMembers b).filter (· != p.partner)) (fun m b => sendFail m [3, me, p.partner, 0] b) b

/-- PAIR_NOTE arrives (R305, R318, R319). -/
def pairNote (m partner st : Nat) (b : Body) : Body :=
  let mine := partner == moduleIndex b && (b.fail.pair.map (fun p => decide (p.partner = m))).getD false
  match st with
  | 0 =>
    let b := updFail (fun f => { f with notes := f.notes.filter (fun x => x.1 != m && x.2 != m) }) b
    if mine then unpair b else b
  | 2 => if mine then armPair (updFail (fun f => { f with gotPushed := true }) b) else b
  | 3 => updFail (fun f => { f with notes := f.notes.filter (fun x => x.1 != m) ++ [(m, partner)] }) b
  | _ => b

/-- The copy of this module's ranges to the partner is complete (R318 step 3). -/
def rangesCopied (b : Body) : Body :=
  match b.fail.pair with
  | none => b
  | some p =>
    if b.fail.pairState ≠ 1 ∨ b.fail.sentPushed then b
    else
      let b := forEach p.ranges (fun r b => emit (.copy p.partner r.1 (r.1 + 0xA00000000) r.2) b) b
      let b := sendFail p.partner [3, moduleIndex b, p.partner, 2] b
      armPair (updFail (fun f => { f with sentPushed := true }) b)

/-- FILL_ORDER arrives (R324, R325). -/
def fillOrder (f : Fill) (b : Body) : Body := if joined b then beginFill f b else b

/-- Does a list of ranges cover a range, each 1 MiB block of it in one of them? -/
def coversAll (rs : List (Nat × Nat)) (r : Nat × Nat) : Bool := rs.any (fun x => decide (x.1 ≤ r.1 ∧ r.1 + r.2 ≤ x.1 + x.2))

/-- The stand-in has copied ranges of the lost module, at their original addresses, to the hot spare (R325 step 3): all it has received. -/
def fillCopied (ranges : List (Nat × Nat)) (b : Body) : Body :=
  match b.fail.fill with
  | none => b
  | some f =>
    if f.standin ≠ moduleIndex b ∨ !b.fail.mirroring ∨ !b.fail.held.all (fun r => coversAll ranges (r.1 - 0xA00000000, r.2)) then b
    else
      let b := forEach ranges (fun r b => emit (.copy f.spare (r.1 + 0xA00000000) r.1 r.2) b) b
      sendFail f.spare [5, f.lost] b

/-- FILL_COPIED reaches the hot spare (R325 step 4): its commits are no longer held. -/
def fillRelease (lost : Nat) (b : Body) : Body :=
  if b.flock.filling ∧ (b.fail.fill.map (·.lost)) = some lost then setFlag b R.MEM_COMMIT_CTRL.hold 0 false else b

/-- The stand-in load completes (R325 step 5): the image of the lost module is checked as R251 says, with the module check
against it, and kept until the switch; FILL_DONE goes to the seat. -/
def standinLoaded (addr len : Nat) (s : State) : State :=
  match s.body.fail.fill with
  | none => s
  | some f =>
    if !s.body.flock.filling ∨ flagF s.body R.MEM_COMMIT_CTRL.hold 0 then s
    else
      let r := readPlanImage addr len s
      let quiet := setF r.2.body R.TLY_STROKE_STATUS.state 0 0
      match planChecks r.1.1 len r.1.2.isEmpty (some f.lost) r.2.body.flock.planLevel addr quiet with
      | some _ => r.2
      | none => onBody (fun b => sendFail (seatIx b) [6, f.lost]
          (noteRun b <| updFlock (fun x => { x with filling := false }) (updFail (fun x => { x with standPlan := some (planOf r.1.1 addr len) }) b))) r.2

/-- STANDIN arrives at a member (R325 steps 6-7). -/
def takeStandin (st lost by_ kind : Nat) (b : Body) : Body :=
  let b := updFail (fun f => { f with switch := some ⟨st, lost, by_, kind⟩ }) b
  sendFail (seatIx b) [8, st, moduleIndex b] b

/-- FILL_DONE reaches the seat (R325 step 6). -/
def fillDone (lost : Nat) (b : Body) : Body :=
  match b.fail.fill with
  | none => b
  | some f =>
    if !isSeat b ∨ f.lost ≠ lost then b
    else
      let st := strokeNum b + 2
      let ms := (otherMembers b).filter (· != lost)
      let ms := if f.spare = moduleIndex b ∨ ms.contains f.spare then ms else ms ++ [f.spare]
      let b := forEach ms (fun m b => sendFail m [7, st, lost, f.spare, 2] b) b
      let b := updFail (fun x => { x with switch := some ⟨st, lost, f.spare, 2⟩ }) b
      updFlock (fun x => { x with seatWait := some (st, ms) }) b

/-- STANDIN_ACK reaches the seat (R325 step 6): once every member has answered, a START that waited is sent. -/
def standinAck (st m : Nat) (b : Body) : Body :=
  match b.flock.seatWait with
  | none => b
  | some (s, l) =>
    if s ≠ st then b
    else
      let b := updFlock (fun x => { x with seatWait := some (s, l.filter (· != m)) }) b
      if (l.filter (· != m)).isEmpty ∧ b.flock.timerDue then timerSend b else b

/-- The kind of a route-table entry for a listed module (R533 step 2). -/
def routeKind (b : Body) (m : Nat) : Nat × Nat :=
  match (List.range 3).find? (fun k => (directPair k).all (fun p =>
      flagF b R.KLK_PORT_PEER.valid p && getF b R.KLK_PORT_PEER.peer_kind p == 0 && getF b R.KLK_PORT_PEER.peer_id p == m)) with
  | some k => (2, k)
  | none => (1, 0)

/-- RETURN arrives (R330 steps 2-4). -/
def takeReturn (m role flock crc : Nat) (b : Body) : Body :=
  let answer := fun res b => sendFrame m 2 [2, role, flock, crc, moduleIndex b, res] b
  if !joined b then answer 1 b
  else if flock = b.flock.flockId ∧ crc = b.flock.listCrc then
    let lost := flagF b R.KLK_ROUTE.lost m
    let b := if lost then
        let k := routeKind b m
        let b := setF (setF (setFlag b R.KLK_ROUTE.lost m false) R.KLK_ROUTE.kind m k.1) R.KLK_ROUTE.pair m k.2
        let b := updFail (fun f => { f with usedSpares := f.usedSpares.filter (· != m) }) b
        if role = 0 then updFlock (fun f => { f with vacant := if f.vacant.contains m then f.vacant else f.vacant ++ [m] }) b
        else updFlock (fun f => { f with spares := if f.spares.contains m then f.spares else f.spares ++ [m] }) b
      else b
    answer 0 b
  else answer 2 (korrelRecord 4 m b)

/-- RETURN_ACK arrives (R330 steps 1, 4, 5): traffic to a module that accepts the return flows again (log entry 48). -/
def returnAck (m res : Nat) (b : Body) : Body :=
  match b.fail.returning with
  | none => b
  | some r =>
    if !r.left.contains m then b
    else
      let b := updFail (fun f => { f with returning := some { r with left := r.left.filter (· != m) } }) b
      let b := if res = 2 then korrelRecord 4 m b else if res = 0 then setFlag b R.KLK_ROUTE.lost m false else b
      if m = seatIx b ∧ res = 0 then measureDelay b else b

/-- RETURN is repeated (R330 step 1). -/
def returnRepeat (b : Body) : Body :=
  match b.fail.returning with
  | none => b
  | some r => forEach r.left (fun m b => sendFrame m 2 [1, r.role, r.flock, r.crc, moduleIndex b, 0] b) b

/-- No answer within 1 s (R330 step 5). -/
def returnTimeout (b : Body) : Body :=
  match b.fail.returning with
  | none => b
  | some r => forEach r.left (korrelRecord 5) (updFail (fun f => { f with returning := none }) b)

/-- Announce this module to the other modules of its list (R330 step 1, R533 step 9). -/
def announce (role : Nat) (b : Body) : Body :=
  let ms := (b.flock.members ++ b.flock.spares).filter (· != moduleIndex b)
  let b := updFail (fun f => { f with returning := some ⟨role, b.flock.flockId, b.flock.listCrc, ms⟩ }) b
  returnRepeat b

/-- An effect of firmware happens on an active Shepherd only (R488). -/
def byFirmware (f : State → State) (s : State) : State := if shepherdActive s.body then f s else s

/-- REPLAY_START (R307, R308). -/
def execReplayStart (h : TelHead) (b : StartBody) (s : State) : Host.Outcome State Fault Refusal := .next (replayTel h b s)

/-- QUIESCE_COMPLETE (R67, R308). -/
def execQuiesceComplete (die : Nat) (s : State) : Host.Outcome State Fault Refusal := onUnitS (isDie die) (quiesceComplete die) s

/-- FAULT_REPORT (R298-R315). -/
def execFaultReport (copy : List Byte) (s : State) : Host.Outcome State Fault Refusal := .next (faultReport copy s)

/-- REPLAY_REQUEST (R304-R306, R310). -/
def execReplayRequest (m stroke g cls : Nat) (inPrep : Bool) (s : State) : Host.Outcome State Fault Refusal :=
  onUnitS (isModule m && decide (stroke < 2 ^ 48 ∧ g < 2 ^ 48)) (byFirmware (replayRequest m cls inPrep)) s

/-- ABORT (R328). -/
def execAbort (stroke cls origin : Nat) (s : State) : Host.Outcome State Fault Refusal :=
  .next (byFirmware (takeAbort stroke cls origin) s)

/-- PAIR_NOTE (R305, R318, R319). -/
def execPairNote (m partner st : Nat) (s : State) : Host.Outcome State Fault Refusal :=
  onUnitS (isModule m && isModule partner) (byFirmware (onBody (pairNote m partner st))) s

/-- PAIR_RANGE_COPY_COMPLETE (R318). -/
def execPairRangeCopyComplete (s : State) : Host.Outcome State Fault Refusal := .next (byFirmware (onBody rangesCopied) s)

/-- FILL_ORDER (R324, R325). -/
def execFillOrder (lost standin spare : Nat) (s : State) : Host.Outcome State Fault Refusal :=
  .next (byFirmware (onBody (fillOrder ⟨lost, standin, spare⟩)) s)

/-- FILL_COPY_COMPLETE (R325). -/
def execFillCopyComplete (ranges : List (Nat × Nat)) (s : State) : Host.Outcome State Fault Refusal :=
  .next (byFirmware (onBody (fillCopied ranges)) s)

/-- FILL_COPIED (R325). -/
def execFillCopied (lost : Nat) (s : State) : Host.Outcome State Fault Refusal := .next (byFirmware (onBody (fillRelease lost)) s)

/-- STANDIN_LOAD_COMPLETE (R325). -/
def execStandinLoadComplete (addr len : Nat) (s : State) : Host.Outcome State Fault Refusal := .next (byFirmware (standinLoaded addr len) s)

/-- FILL_DONE (R325). -/
def execFillDone (lost : Nat) (s : State) : Host.Outcome State Fault Refusal := .next (byFirmware (onBody (fillDone lost)) s)

/-- STANDIN (R325). -/
def execStandin (stroke lost standin kind : Nat) (s : State) : Host.Outcome State Fault Refusal :=
  .next (byFirmware (onBody (takeStandin stroke lost standin kind)) s)

/-- STANDIN_ACK (R325). -/
def execStandinAck (stroke m : Nat) (s : State) : Host.Outcome State Fault Refusal := .next (byFirmware (onBody (standinAck stroke m)) s)

/-- RETURN (R330). -/
def execReturn (m role flock crc : Nat) (s : State) : Host.Outcome State Fault Refusal :=
  onUnitS (isModule m) (byFirmware (onBody (takeReturn m role flock crc))) s

/-- RETURN_ACK (R330). -/
def execReturnAck (m result : Nat) (s : State) : Host.Outcome State Fault Refusal := .next (byFirmware (onBody (returnAck m result)) s)

/-- RETURN_REPEAT (R330). -/
def execReturnRepeat (s : State) : Host.Outcome State Fault Refusal := .next (byFirmware (onBody returnRepeat) s)

/-- RETURN_TIMEOUT (R330). -/
def execReturnTimeout (s : State) : Host.Outcome State Fault Refusal := .next (byFirmware (onBody returnTimeout) s)

end Sys2Proof.Machine
end

