-- ==== Sys2Proof/Machine/Shepherds.lean ====
section
/-! DEFINITION. The two Shepherds: heartbeats, takeover, restart, handback, frames (R486-R499, R574, R575, R636). -/

namespace Sys2Proof.Machine

/-- Change the trust state. -/
def updTrust (f : Trust → Trust) (b : Body) : Body := { b with trust := f b.trust }

/-- The state of a Shepherd, 0 SH-A or 1 SH-B (R488). -/
def shState (b : Body) (w : Nat) : Nat := getF b (if w = 0 then R.SHP_STATUS.a_state else R.SHP_STATUS.b_state) 0

/-- Set the state of a Shepherd; protected follows (R491). -/
def setShState (w v : Nat) (b : Body) : Body :=
  let b := setF b (if w = 0 then R.SHP_STATUS.a_state else R.SHP_STATUS.b_state) 0 v
  setFlag b R.SHP_STATUS.protected 0 (shState b 0 == 3 || shState b 1 == 3)

/-- A Shepherd beside SHP_STATUS. -/
def shepherd (b : Body) (w : Nat) : Shepherd := if w = 0 then b.host.shA else b.host.shB

/-- Change a Shepherd. -/
def updSh (w : Nat) (f : Shepherd → Shepherd) (b : Body) : Body :=
  updHost (fun h => if w = 0 then { h with shA := f h.shA } else { h with shB := f h.shB }) b

/-- The active Shepherd. -/
def activeSh (b : Body) : Option Nat := if shState b 0 = 4 then some 0 else if shState b 1 = 4 then some 1 else none

/-- A Shepherd of the module. -/
def isShepherd (w : Nat) : Bool := decide (w < 2)

/-- SHP_EVENTS sets a bit, which raises vector 24 (R503). -/
def shpEvent (f : Field) (b : Body) : Body := raiseVec 24 (setFlag b f 0 true)

/-- The record of a Shepherd event (R591). -/
def shpRecord (event cause us : Nat) (b : Body) : Body :=
  logRec 3 ([BitVec.ofNat 8 event, BitVec.ofNat 8 cause] ++ leBytes 2 us) b

/-- The image in a slot. -/
def slotImage (b : Body) (s : Nat) : Option FwImage := if s = 0 then b.trust.slotA else b.trust.slotB

/-- So many ns have passed since an instant that the state holds. -/
def passed (b : Body) (since ns : Nat) : Bool := decide (since + ns ≤ b.now)

/-- Is a trial in progress (R575)? -/
def trialOn (b : Body) : Bool := flagF b R.SHP_FW_SLOTS.trial 0

/-- The slot that the boot record names (R574). -/
def bootSlot (b : Body) : Nat := if trialOn b then getF b R.SHP_FW_SLOTS.trial_slot 0 else b.trust.confirmed

/-- A firmware event (R576): its record and vector 29; events are numbered in the order of R576 (log entry 40). -/
def fwEvent (event slot : Nat) (b : Body) : Body :=
  let build := ((slotImage b slot).map (·.build)).getD 0
  raiseVec 29 (logRec 0x50 ([BitVec.ofNat 8 event, BitVec.ofNat 8 slot] ++ leBytes 2 build) b)

/-- GBL_FW and SHP_FW_SLOTS name the image that the active Shepherd runs (R516, R580). -/
def showFw (w : Nat) (b : Body) : Body :=
  let s := (shepherd b w).slot
  let b := setF b R.SHP_FW_SLOTS.running_slot 0 s
  let b := setFlag b R.SHP_FW_SLOTS.other_valid 0 (slotImage b (1 - s)).isSome
  let b := setF b R.GBL_FW.slot 0 s
  match slotImage b s with
  | some i => setF (setF (setF b R.GBL_FW.build 0 i.build) R.GBL_FW.minor 0 i.minor) R.GBL_FW.major 0 i.major
  | none => b

/-- A frame that the inbox hands to the active Shepherd (R305, R330, R499): the message of its body takes effect. -/
def handOver (fr : List Byte) (s : State) : State :=
  let f := fun (off n : Nat) => dfield fr (16 + off) n
  let m := f 16 2 % 16384
  let n := f 18 2 % 16384
  if dfield fr 0 2 = 2 then
    if f 0 1 = 1 then onBody (takeReturn (f 8 2 % 16384) (f 1 1) (f 2 2 % 16384) (f 4 4)) s
    else if f 0 1 = 2 then onBody (returnAck (f 8 2 % 16384) (f 10 1)) s
    else s
  else match f 0 1 with
    | 1 => replayRequest m (f 14 1) (f 15 1 == 1) s
    | 2 => takeAbort (f 2 6) (f 14 1) m s
    | 3 => onBody (pairNote m n (f 20 1)) s
    | 4 => onBody (fillOrder ⟨m, n, f 20 2 % 16384⟩) s
    | 5 => onBody (fillRelease m) s
    | 6 => onBody (fillDone m) s
    | 7 => onBody (takeStandin (f 2 6) m n (f 20 1)) s
    | 8 => onBody (standinAck (f 2 6) m) s
    | _ => s

/-- The frames of the inbox go to the Shepherd that has become active (R499). -/
def drainInbox (s : State) : State :=
  if shepherdActive s.body then
    s.body.host.inbox.foldl (fun s fr => handOver fr s) (onBody (updHost (fun h => { h with inbox := [] })) s)
  else s

/-- A Shepherd becomes the writer (R487, R488). -/
def makeActive (w : Nat) (b : Body) : Body :=
  let b := if getF b R.SHP_STATUS.active 0 = w then b else swapFlash b
  let b := setF (setShState w 4 b) R.SHP_STATUS.active 0 w
  let b := forEach (List.range 20) (fun e b => setF b R.COX_STATUS.writer e w) b
  showFw w (updHost (fun h => { h with noActiveSince := none }) (setFlag b R.SHP_STATUS.no_shepherd 0 false))

/-- A Shepherd fails: the arbiter holds it in reset (R490, R492); the count of R496 starts again. -/
def holdFailed (w : Nat) (b : Body) : Body :=
  let b := setFlag (setShState w 0 b) R.SHP_STATUS.handback_pending 0 false
  updSh w (fun x => { x with failures := b.now :: x.failures.filter (fun t => decide (b.now < t + 600000000000)), beat := none, unacked := 0, halted := false }) b

/-- The journal entry of the command in execution in a mailbox (R491): 0 taken, 1 applying; a read has none. A command's effects and
its response are one step of the model, with which the entry is done, but for LOGBOOK_CLEAR, whose clear goes on (log entry 44). -/
def journalState (b : Body) (m : Nat) : Option Nat :=
  match (mbx b m).taken.bind (fun t => cmdOf t.opcode) with
  | some c => if c.kind = .read then none else if b.logbook.clearing.map (·.mailbox) = some m then some 1 else some 0
  | none => none

/-- The journal after a takeover (R492): a command whose entry is taken ends in BUSY without effect, one that is applying goes on, and
a read stays to be executed again. -/
def resolveJournal (b : Body) : Body :=
  forEach (List.range 18) (fun m b =>
    if journalState b m = some 0 then shpEvent R.SHP_EVENTS.journal_busy (refuse m 1 none 1 b) else b) b

/-- A takeover (R492): us is the time from the trigger to its step 4. With no standby, no Shepherd is active (R514). -/
def takeover (cause us : Nat) (s : State) : State :=
  match activeSh s.body with
  | none => s
  | some w =>
    let b := holdFailed w s.body
    if shState b (1 - w) ≠ 3 then { s with body := updHost (fun h => { h with noActiveSince := some b.now }) b }
    else
      let b := makeActive (1 - w) b
      let b := setF (setF (setF b R.SHP_LAST_TAKEOVER.op_ms 0 (hourMs b)) R.SHP_LAST_TAKEOVER.cause 0 cause) R.SHP_LAST_TAKEOVER.takeover_us 0 (min us 65535)
      let b := addSat b R.SHP_COUNTS.takeovers 0 1
      let b := updLog (fun l => { l with queue := l.copied.filter (fun r => !(l.held.any (fun h => h.entry.seq == r.seq))) }) b
      let b := shpEvent R.SHP_EVENTS.takeover (shpRecord 1 cause (min us 65535) (resolveJournal b))
      drainInbox { s with body := b }

/-- No heartbeat of the active Shepherd for 75 µs (R489, R492). -/
def heartbeatMissed (us : Nat) (s : State) : State :=
  if (activeSh s.body).any (fun w => passed s.body (shepherd s.body w).lastBeat 75000) then takeover 1 us s else s

/-- A heartbeat (R489, R490): the active Shepherd sends a state record with it. A halted one sends none (R570). -/
def heartbeat (w counter : Nat) (s : State) : State :=
  let b := s.body
  if (shState b w ≠ 3 ∧ shState b w ≠ 4) ∨ (shepherd b w).halted then s
  else
    let b' := updSh w (fun x => { x with beat := some (counter % 65536), lastBeat := b.now }) b
    let b' := if shState b w = 4 ∧ shState b (1 - w) = 3 then updSh (1 - w) (fun x => { x with unacked := x.unacked + 1 }) b' else b'
    let b' := if shState b w = 4 ∧ shState b (1 - w) = 3 ∧ 3 < (shepherd b' (1 - w)).unacked then holdFailed (1 - w) b' else b'
    let good := { s with body := b' }
    match (shepherd b w).beat with
    | none => good
    | some last => match aliveCheck 16 last (counter % 65536) with
      | .inOrder => good
      | .skip => { s with body := addSat b' R.SHP_COUNTS.alive_errors 0 1 }
      | _ => if shState b w = 4 then takeover 1 0 s else { s with body := holdFailed w b }

/-- The standby receives and acknowledges a state record (R490). -/
def stateRecord (b : Body) : Body :=
  match activeSh b with
  | some w => if shState b (1 - w) = 3 then updLog (fun l => { l with copied := l.queue }) (updSh (1 - w) (fun x => { x with unacked := 0 }) b) else b
  | none => b

/-- A Shepherd enters restarting; the arbiter counts it (R494, R519). -/
def startRestart (w : Nat) (b : Body) : Body :=
  let b := addSat (setShState w 5 (updSh w (fun x => { x with halted := false }) b)) R.SHP_COUNTS.restarts 0 1
  shpRecord 3 0 0 (shpEvent (if w = 0 then R.SHP_EVENTS.a_failed else R.SHP_EVENTS.b_failed) b)

/-- The arbiter restarts a failed Shepherd (R494): the third failure within 600 s holds it. -/
def restartShepherd (w : Nat) (b : Body) : Body :=
  if shState b w ≠ 0 ∨ (shepherd b w).failures.isEmpty ∨ b.cox.path.heldReset then b
  else if 3 ≤ (shepherd b w).failures.length then
    shpRecord 4 0 0 (shpEvent (if w = 0 then R.SHP_EVENTS.a_failed else R.SHP_EVENTS.b_failed) (setShState w 6 b))
  else startRestart w b

/-- Does every Shepherd run the trial image, one active and one standby (R575)? -/
def trialSettled (b : Body) : Bool :=
  trialOn b && [0, 1].all (fun w => (shepherd b w).slot == getF b R.SHP_FW_SLOTS.trial_slot 0 && (shState b w == 3 || shState b w == 4))
    && (activeSh b).isSome

/-- The 600 s of a trial start when both Shepherds run its image (R575). -/
def noteTrial (b : Body) : Body :=
  if trialSettled b ∧ b.trust.trialSince.isNone then updTrust (fun t => { t with trialSince := some b.now }) b else b

/-- A Shepherd enters standby; it copies the logbook records it lacks (R494, R588). -/
def enterStandby (w : Nat) (b : Body) : Body :=
  let b := updSh w (fun x => { x with standbySince := b.now, lastBeat := b.now, unacked := 0, beat := none }) (setShState w 3 b)
  if b.logbook.behind.isEmpty then b else setFlag b R.LGB_STATUS.mirror_behind 0 true

/-- SH-A is active and SH-B stands by or is failed: step 1 of start-up is complete (R649). -/
def noteBoot (b : Body) : Body :=
  if stepIsDone b 1 ∨ power b ≠ 2 then b
  else if (shState b 0 = 4 ∧ (shState b 1 = 3 ∨ shState b 1 = 6)) ∨ (shState b 1 = 4 ∧ shState b 0 = 6) then stepDone 1 b else b

/-- A Shepherd passes its self-test (R494, R495, R574, R649). At start-up SH-B waits in standby for SH-A. -/
def selfTestPass (w : Nat) (s : State) : State :=
  let b := s.body
  if shState b w ≠ 2 ∧ shState b w ≠ 5 then s
  else
    let o := shState b (1 - w)
    let first := b.host.noActiveSince.isNone
    let act := fun (v : Nat) (b : Body) =>
      let b := if b.host.noActiveSince.isSome then
          let us := min ((b.now - b.host.noActiveSince.getD b.now) / 1000) 65535
          setF (setF (setF b R.SHP_LAST_TAKEOVER.op_ms 0 (hourMs b)) R.SHP_LAST_TAKEOVER.cause 0 4) R.SHP_LAST_TAKEOVER.takeover_us 0 us
        else b
      makeActive v (updSh v (fun x => { x with beat := none, lastBeat := b.now }) b)
    let b := if o = 4 then enterStandby w b
      else if first ∧ w = 1 ∧ (o = 1 ∨ o = 2) then enterStandby 1 b
      else act w b
    drainInbox { s with body := noteTrial (noteBoot b) }

/-- The boot ROM boots the slot of the boot record, or the other slot if that fails (R574, R576): `failA` and `failB` are the checks of
R573 that the slots fail, 0 for none. -/
def shepherdBoot (w failA failB : Nat) (s : State) : State :=
  let b := s.body
  if shState b w ≠ 1 ∧ shState b w ≠ 5 then s
  else
    let bad := fun (n : Nat) => (if n = 0 then failA else failB) != 0 || (slotImage b n).isNone
    let n := bootSlot b
    let run := fun (n : Nat) (b : Body) =>
      let b := updSh w (fun x => { x with slot := n }) b
      if shState b w = 1 then setShState w 2 b else b
    let fallback := fun (b : Body) =>
      let b := logRec 2 [BitVec.ofNat 8 n, BitVec.ofNat 8 (if n = 0 then failA else failB)] (fwEvent 5 n b)
      updTrust (fun t => { t with trialSince := none, nextTrial := false, deferred := false }) (setFlag b R.SHP_FW_SLOTS.trial 0 false)
    if !bad n then { s with body := run n b }
    else if !bad (1 - n) then { s with body := run (1 - n) (fallback b) }
    else
      let b := shpRecord 4 0 0 (shpEvent (if w = 0 then R.SHP_EVENTS.a_failed else R.SHP_EVENTS.b_failed) (setShState w 6 (fallback b)))
      let o := shState b (1 - w)
      let b := if o = 3 ∧ (activeSh b).isNone then makeActive (1 - w) b
        else if o = 6 ∧ power b = 2 ∧ !stepIsDone b 1 then stepFailed 1 b else b
      drainInbox { s with body := noteBoot b }

/-- No Shepherd has been active for 100 ms (R495): both restart. -/
def noShepherd (b : Body) : Body :=
  if (activeSh b).isSome ∨ !b.host.noActiveSince.any (fun t => passed b t 100000000) ∨ flagF b R.SHP_STATUS.no_shepherd 0 then b
  else
    let b := isolateModule b
    let b := forEach (List.range 16) (fun e b => ceilingsChanged e (setF b R.COX_CLK_CEIL.force e 80)) b
    let b := shpRecord 5 0 0 (shpEvent R.SHP_EVENTS.isolated (setFlag b R.SHP_STATUS.no_shepherd 0 true))
    forEach [0, 1] restartShepherd b

/-- SH-A has been healthy in standby for 10 s (R496). -/
def handbackPending (b : Body) : Body :=
  if shState b 0 = 3 ∧ shState b 1 = 4 ∧ passed b (shepherd b 0).standbySince 10000000000 ∧ (!trialOn b ∨ trialSettled b) then setFlag b R.SHP_STATUS.handback_pending 0 true else b

/-- The instants at which the writer may change (R496): with no stroke, or at a stroke boundary with the writes of R439 and R440 for the
next stroke complete. -/
def maySwitch (b : Body) : Bool :=
  !changeBusy b && (getF b R.TLY_STROKE_STATUS.state 0 == 0 || (!flagF b R.TLY_STROKE_STATUS.replay 0 && b.fail.fill.isNone && b.flock.commitDone
    && b.flock.startSeen.isSome && b.ledger.next.isNone))

/-- The writer returns to SH-A (R497): SH-B sends a final state record. -/
def handbackSwitch (s : State) : State :=
  let b := s.body
  if !flagF b R.SHP_STATUS.handback_pending 0 ∨ shState b 0 ≠ 3 ∨ shState b 1 ≠ 4 ∨ !maySwitch b then s
  else
    let b := setFlag (stateRecord b) R.SHP_STATUS.handback_pending 0 false
    let b := addSat (makeActive 0 (enterStandby 1 b)) R.SHP_COUNTS.handbacks 0 1
    { s with body := noteTrial (shpEvent R.SHP_EVENTS.handback (shpRecord 2 0 0 b)) }

/-- A link die checks a Shepherd frame (R287, R330, R499): a full inbox keeps it at its sender. -/
def frameReceive (fr : List Byte) (s : State) : State :=
  let b := s.body
  let cls := dfield fr 0 2
  let src := dfield fr 4 2 % 16384
  if isolated b ∨ fr.length ≠ 224 ∨ (!shepherdActive b ∧ 64 ≤ b.host.inbox.length) then s
  else if flagF b R.KLK_ROUTE.lost src ∧ cls ≠ 2 then { s with body := countDropped b }
  else if crc32c (fr.take 220) ≠ dfield fr 220 4 ∨ (cls ≠ 1 ∧ cls ≠ 2) ∨ dfield fr 6 2 % 16384 ≠ moduleIndex b then s
  else
    let key := cls * 16384 + src
    let alive := dfield fr 8 2
    let b' := updHost (fun h => { h with rxFrames := SMap.put h.rxFrames none key (some alive) }) b
    let accept := fun (b : Body) =>
      drainInbox { s with body := updHost (fun h => { h with inbox := h.inbox ++ [fr] }) b }
    match SMap.get b.host.rxFrames none key with
    | none => accept b'
    | some last => match aliveCheck 16 last alive with
      | .inOrder => accept b'
      | .skip => accept (addSat b' R.SHP_COUNTS.alive_errors 0 1)
      | _ => { s with body := addSat b' R.SHP_COUNTS.alive_errors 0 1 }

/-- SHEPHERD_HEARTBEAT (R489, R490). -/
def execShepherdHeartbeat (w counter : Nat) (s : State) : Host.Outcome State Fault Refusal := onUnitS (isShepherd w) (heartbeat w counter) s
/-- STATE_RECORD (R490). -/
def execStateRecord (s : State) : Host.Outcome State Fault Refusal := lift stateRecord s
/-- HEARTBEAT_MISSED (R489, R492). -/
def execHeartbeatMissed (us : Nat) (s : State) : Host.Outcome State Fault Refusal := .next (heartbeatMissed us s)
/-- LOCKSTEP_MISMATCH (R492). -/
def execLockstepMismatch (us : Nat) (s : State) : Host.Outcome State Fault Refusal := .next (takeover 2 us s)
/-- TAKEOVER_REQUEST (R492). -/
def execTakeoverRequest (us : Nat) (s : State) : Host.Outcome State Fault Refusal := .next (takeover 3 us s)
/-- SHEPHERD_RESTART (R494). -/
def execShepherdRestart (w : Nat) (s : State) : Host.Outcome State Fault Refusal := onUnit (isShepherd w) (restartShepherd w) s
/-- SHEPHERD_SELF_TEST_PASS (R494, R649). -/
def execShepherdSelfTestPass (w : Nat) (s : State) : Host.Outcome State Fault Refusal := onUnitS (isShepherd w) (selfTestPass w) s
/-- SHEPHERD_BOOT (R574). -/
def execShepherdBoot (w failA failB : Nat) (s : State) : Host.Outcome State Fault Refusal := onUnitS (isShepherd w) (shepherdBoot w failA failB) s
/-- NO_SHEPHERD (R495). -/
def execNoShepherd (s : State) : Host.Outcome State Fault Refusal := lift noShepherd s
/-- HANDBACK_PENDING (R496). -/
def execHandbackPending (s : State) : Host.Outcome State Fault Refusal := lift handbackPending s
/-- HANDBACK_SWITCH (R496, R497). -/
def execHandbackSwitch (s : State) : Host.Outcome State Fault Refusal := .next (handbackSwitch s)
/-- SHEPHERD_FRAME_RECEIVE (R499). -/
def execShepherdFrameReceive (frame : List Byte) (s : State) : Host.Outcome State Fault Refusal := .next (frameReceive frame s)

end Sys2Proof.Machine
end

