-- ==== Sys2Proof/Machine/TrustOps.lean ====
section
/-! DEFINITION. Party keys, nonces, sequence numbers and the party signature block (R525, R526, R560-R563). -/

namespace Sys2Proof.Machine

/-- The key of a party: 1 provider, 2 tenant; empty while it is not provisioned (R560). -/
def partyKey (b : Body) (party : Nat) : List Byte := if party = 1 then b.trust.provider else b.trust.tenant

/-- The last sequence of a party (R563). -/
def lastSeqOf (b : Body) (party : Nat) : Nat := if party = 1 then b.trust.seqP else b.trust.seqT

/-- Is a sequence number accepted for a party (R563)? -/
def seqAccepted (b : Body) (party q : Nat) : Bool := decide (lastSeqOf b party < q ∧ q ≤ lastSeqOf b party + 2 ^ 32)

/-- Is a nonce valid for a party (R562)? -/
def nonceValid (b : Body) (party : Nat) (v : List Byte) : Bool := (validNonces b party).any (fun n => n.value == v)

/-- A nonce and a sequence number are used up (R562, R563). -/
def useUp (parties : List Nat) (noncePar : Nat) (v : List Byte) (q : Nat) (b : Body) : Body :=
  updTrust (fun t => { t with nonces := t.nonces.filter (fun n => !(n.party == noncePar && n.value == v))
                              seqP := if parties.contains 1 then q else t.seqP
                              seqT := if parties.contains 2 then q else t.seqT }) b

/-- The serial number of the module (R516). -/
def serial (b : Body) : Nat := getF b R.GBL_SERIAL.serial 0

/-- The checks of a party signature block in bytes 8 to 155 of a body (R525, R526): the detail of the first that fails. -/
def blockFails (b : Body) (op : Nat) (permitted : List Nat) (body : List Byte) : Option Nat :=
  let signer := bfield body 8 1
  if !permitted.contains signer then some 0x14
  else if (partyKey b signer).isEmpty then some 0x16
  else if bfield body 12 8 ≠ serial b then some 0x13
  else if !nonceValid b signer (bslice body 28 32) then some 0x11
  else if !seqAccepted b signer (bfield body 20 8) then some 0x12
  else if !verifySig (partyKey b signer) (leBytes 2 op ++ body.take 60) (bslice body 60 96) then some 0x10
  else none

/-- A command under a party signature block (R522, R526): a refused block is recorded; one that passes uses up its nonce and its
sequence number whatever follows. -/
def signed (m op : Nat) (permitted : List Nat) (f : Nat → List Byte → Body → Reply × Body) (body : List Byte) (b : Body) : Reply × Body :=
  match blockFails b op permitted body with
  | some d => (.no 0x06 none d, cmdRecord 0x11 m 0x06 b)
  | none =>
    let signer := bfield body 8 1
    f signer body (useUp [signer] signer (bslice body 28 32) (bfield body 20 8) b)

/-- Thirty-two bytes of the random source: free values (R562; log entry 3). -/
def drawBytes : Nat → Body → List Byte × Body
  | 0, b => ([], b)
  | n + 1, b =>
    let v := drawFree b
    let r := drawBytes n v.2
    (BitVec.ofNat 8 v.1 :: r.1, r.2)

/-- A nonce is issued (R562): a ninth ends the party's oldest. -/
def issueNonce (party : Nat) (b : Body) : List Byte × Body :=
  let r := drawBytes 32 b
  let b := r.2
  let mine := validNonces b party
  let keep := mine.drop (mine.length + 1 - 8)
  let others := b.trust.nonces.filter (fun n => n.party != party)
  (r.1, updTrust (fun t => { t with nonces := others ++ keep ++ [⟨party, r.1, hourMs b⟩] }) b)

/-- ACCORD_NONCE (R553). -/
def accordNonce (body : List Byte) (b : Body) : Reply × Body :=
  let party := bfield body 0 1
  let r := issueNonce party b
  (.ok (r.1 ++ leBytes 8 (serial b) ++ leBytes 8 (lastSeqOf b party)), r.2)

/-- A nonce whose 600 000 ms are over is no longer kept (R562). -/
def nonceExpire (b : Body) : Body := updTrust (fun t => { t with nonces := validNonces b 1 ++ validNonces b 2 }) b

end Sys2Proof.Machine
end

