-- ==== Sys2Proof/Machine/FlockCommands.lean ====
section
/-! DEFINITION. The general and flock commands (R527-R537, R251, R252). -/

namespace Sys2Proof.Machine

/-- A firmware version word of IDENTIFY (R527) without its top bit. -/
def versionOf (i : FwImage) : Nat := i.build + i.minor * 2 ^ 16 + i.major * 2 ^ 24

/-- One bit for each number below n that satisfies a test. -/
def bitMask (n : Nat) (f : Nat → Bool) : Nat := ((List.range n).filter f).foldl (fun a k => a + 2 ^ k) 0

/-- IDENTIFY (R527). -/
def identify (b : Body) : List Byte :=
  let s := getF b R.GBL_FW.slot 0
  let other := match slotImage b (1 - s) with
    | some i => versionOf i + 2 ^ 31
    | none => 0
  leBytes 2 (getF b R.GBL_ID.part 0) ++ leBytes 1 (getF b R.GBL_ID.silicon_step 0) ++ leBytes 1 (getF b R.GBL_ID.board_step 0)
    ++ leBytes 8 (serial b) ++ leBytes 4 (regWord b R.GBL_FW 0) ++ leBytes 4 other ++ leBytes 1 (getF b R.GBL_LEVELS.plan_level_max 0)
    ++ leBytes 1 (getF b R.GBL_LEVELS.korrel_level_min 0 + getF b R.GBL_LEVELS.korrel_level_max 0 * 16)
    ++ leBytes 1 (getF b R.GBL_LEVELS.telegram_level_max 0) ++ leBytes 1 (getF b R.GBL_SLOT.slot 0)
    ++ leBytes 2 (getF b R.GBL_MODULE.index 0 + getF b R.GBL_MODULE.valid 0 * 2 ^ 15)
    ++ leBytes 2 (bitMask 16 (fun d => !dieLost b d)) ++ leBytes 2 (bitMask 12 (fun k => getF b R.MEM_STATUS.state k != 4)) ++ leBytes 2 0
    ++ leBytes 4 (bitMask 18 (portUp b)) ++ leBytes 28 0

/-- Input power over the last 1 ms in W (R407, R528). -/
def inputWatts (b : Body) : Nat := ((sint 32 (getF b R.COX_TLM_AVG1MS.avg (16 * 64 + 2))) / 1000).toNat

/-- STATUS (R528). -/
def statusBody (b : Body) : List Byte :=
  let v := fun f => fieldView b f 0
  let sh := v R.SHP_STATUS.active + v R.SHP_STATUS.a_state * 2 + v R.SHP_STATUS.b_state * 16 + v R.SHP_STATUS.protected * 128
  let fl := v R.GBL_STATUS.joined + v R.GBL_STATUS.seat * 2 + v R.GBL_STATUS.paired * 4 + v R.GBL_STATUS.draining * 8 + v R.GBL_STATUS.pull_ready * 16
    + v R.GBL_STATUS.cap_active * 32 + v R.GBL_STATUS.degraded * 64 + v R.LDG_STATUS.forced * 128
  leBytes 1 (power b) ++ leBytes 1 (runState b) ++ leBytes 1 sh ++ leBytes 1 fl ++ leBytes 1 (v R.TLY_STROKE_STATUS.state)
    ++ leBytes 1 (v R.TLY_STROKE_STATUS.kind) ++ leBytes 2 0 ++ leBytes 6 (strokeNum b) ++ leBytes 2 0 ++ leBytes 4 (v R.TLY_PERIOD.period_us)
    ++ leBytes 4 (v R.LDG_HEADROOM.headroom_mj) ++ leBytes 2 (inputWatts b) ++ leBytes 2 (getF b R.COX_CAP.cap_w 16) ++ leBytes 2 (v R.LDG_LEVEL.level_w)
    ++ leBytes 2 0 ++ hourStamp b ++ leBytes 6 (calendar b) ++ leBytes 1 (ofFlag b.host.calValid) ++ leBytes 1 0 ++ leBytes 4 b.cox.path.tripped
    ++ leBytes 4 (regWord b R.CMN_TRIP_STATUS 0) ++ leBytes 8 0

/-- TIME_SET (R529, R583): the calendar field of its record holds the new time. -/
def timeSet (m : Nat) (body : List Byte) (b : Body) : Reply × Body :=
  let utc := bfield body 0 6
  if utc < 1577836800000 then (badField 0, b)
  else
    let was := leBytes 6 (calendar b) ++ leBytes 1 (ofFlag b.host.calValid) ++ leBytes 1 0
    let b := updHost (fun h => { h with calBase := utc, calAt := b.now, calValid := true }) b
    (.ok (was ++ hourStamp b), logFrom (originOf m) 0x104 was b)

/-- Replay preparation or a fill is in progress (R310, R523). -/
def replayOrFill (b : Body) : Bool := b.flock.inReplay || b.flock.prepAfter || b.flock.filling || b.fail.fill.isSome

/-- PLAN_LOAD (R251, R252, R530). -/
def planLoad (body : List Byte) (s : State) : Reply × State :=
  let addr := bfield body 0 8
  let len := bfield body 8 8
  if replayOrFill s.body then (.no 1 none 4, s)
  else if addr % 64 ≠ 0 ∨ 12 * stackBytes ≤ addr then (badField 0, s)
  else if len = 0 ∨ 12 * stackBytes < addr + len then (badField 8, s)
  else if getF s.body R.TLY_STROKE_STATUS.state 0 ≠ 0 then (.no 1 none 2, s)
  else
    let r := readPlanImage addr len s
    let bs := r.1.1
    let s := r.2
    let me := if joined s.body ∨ flagF s.body R.GBL_MODULE.valid 0 then some (moduleIndex s.body) else none
    let level := if joined s.body then s.body.flock.planLevel else 1
    match planChecks bs len r.1.2.isEmpty me level addr s.body with
    | some (st, d) => (.no st none d, s)
    | none =>
      let p := planOf bs addr len
      let s := onBody pmcPlanRelease (loadPlan p s)
      (.ok (leBytes 8 p.planId ++ leBytes 2 p.level ++ leBytes 2 p.kinds.length ++ leBytes 2 p.flocks.length ++ leBytes 2 p.variants.length), s)

/-- The module ranges of FLOCK_JOIN from a number on (R531): base, count. -/
def joinRanges (body : List Byte) (from_ n : Nat) : List (Nat × Nat) :=
  (List.range n).map (fun i => (bfield body (16 + 4 * (from_ + i)) 2, bfield body (18 + 4 * (from_ + i)) 2))

/-- The indices that ranges cover. -/
def rangeIds (rs : List (Nat × Nat)) : List Nat := rs.flatMap (fun r => (List.range r.2).map (· + r.1))

/-- Do two ranges meet? -/
def rangesMeet (x y : Nat × Nat) : Bool := decide (x.1 < y.1 + y.2 ∧ y.1 < x.1 + x.2)

/-- Does any range of a list meet a later one? -/
def anyMeet : List (Nat × Nat) → Bool
  | [] => false
  | x :: xs => xs.any (rangesMeet x) || anyMeet xs

/-- Where a module range lies outside its field's range (R531, R532): the offset of the first such field. -/
def badRange : Nat → List (Nat × Nat) → Option Nat
  | _, [] => none
  | off, x :: xs =>
    if 16384 ≤ x.1 then some off
    else if x.2 = 0 ∨ 10240 < x.2 ∨ 16384 < x.1 + x.2 then some (off + 2)
    else badRange (off + 4) xs

/-- The checks of FLOCK_JOIN in their order (R532), a drain's refusal first (R625). -/
def joinChecks (body : List Byte) (b : Body) : Option Reply :=
  let f := fun off n => bfield body off n
  let r := f 8 2
  let n := f 10 2
  let me := f 0 2
  let rs := joinRanges body 0 r
  let ss := joinRanges body r n
  let lo := f 7 1 % 16
  checked
    [(b.rack.drain == 0, .no 6 none 0), (!b.fail.mustReset, .no 6 none 0x06), (!joined b, .no 1 none 3),
     (power b == 7 && !flagF b R.LDG_STATUS.forced 0, .no 0x0B none 0),
     (decide (body.length = 16 + 4 * (r + n)), .no 3 (some 4) 0),
     (decide (f 2 2 = 17 ∨ (32 ≤ f 2 2 ∧ f 2 2 ≤ 16383)), badField 2), (decide (f 4 1 ≤ 1), badField 4),
     (decide (1 ≤ r ∧ r ≤ 1015), badField 8), (decide (r + n ≤ 1015), badField 10),
     ((badRange 16 (rs ++ ss)).isNone, badField ((badRange 16 (rs ++ ss)).getD 0)),
     (!anyMeet (rs ++ ss), .no 0x0A none 0), (decide ((rs.map (·.2)).sum ≤ 10240), .no 0x0A none 0),
     ((if f 4 1 = 0 then rs else ss).any (fun x => decide (x.1 ≤ me ∧ me < x.1 + x.2)), badField 0),
     (!flagF b R.GBL_MODULE.valid 0 || moduleIndex b == me, badField 0),
     (decide (f 6 1 ≤ 1), .no 9 (some 22) (1 + 256)), (decide (f 7 1 / 16 ≤ 1), .no 9 (some 23) (3 + 256)),
     (decide (getF b R.GBL_LEVELS.korrel_level_min 0 ≤ lo), .no 9 (some 23) (2 + getF b R.GBL_LEVELS.korrel_level_min 0 * 256)),
     (decide (lo ≤ getF b R.GBL_LEVELS.korrel_level_max 0), .no 9 (some 23) (2 + getF b R.GBL_LEVELS.korrel_level_max 0 * 256)),
     (!(bit (f 5 1) 0) || getF b R.GBL_CLAIM_AUX.holder 0 != 2, .no 8 (some 21) 0)]

/-- A field whose reset value is 0 returns to it in every instance. -/
def clearAll (f : Field) (b : Body) : Body := { b with regs := b.regs.filter (fun e => e.1 % 1024 != f.idx) }

/-- The route table of a module list (R533 step 2). -/
def fillRoutes (me : Nat) (ids : List Nat) (b : Body) : Body :=
  let b := clearAll R.KLK_ROUTE.pair (clearAll R.KLK_ROUTE.kind b)
  forEach ids (fun m b =>
    if m = me then setF b R.KLK_ROUTE.kind m 3
    else
      let k := routeKind b m
      setF (setF b R.KLK_ROUTE.kind m k.1) R.KLK_ROUTE.pair m k.2) b

/-- The effects of FLOCK_JOIN in their order (R533). -/
def joinEffects (body : List Byte) (b : Body) : Body :=
  let old := b
  let f := fun off n => bfield body off n
  let members := rangeIds (joinRanges body 0 (f 8 2))
  let spares := rangeIds (joinRanges body (f 8 2) (f 10 2))
  let me := f 0 2
  let b := if isolated b then forEach (List.range 4) rejoin b else b
  let b := if flagF b R.GBL_MODULE.valid 0 then b else setFlag (setF b R.GBL_MODULE.index 0 me) R.GBL_MODULE.valid 0 true
  let b := fillRoutes me (members ++ spares) b
  let b := updFlock (fun x => { x with flockId := f 2 2, members := members, spares := spares, role := f 4 1, planLevel := f 6 1, korLevel := f 7 1 % 16
                                       telLevel := f 7 1 / 16, vacant := [], barred := false, listCrc := crc32c (body.drop 16) }) b
  let b := if bit (f 5 1) 0 then setF (setF b R.GBL_CLAIM_AUX.holder 0 1) R.SHP_SYNCAUX.mode 0 1 else b
  let b := setF b R.TLY_SEAT.rank 0 (if f 4 1 = 0 then (members.findIdx? (· == me)).getD 0 else 0)
  let b := setFlag b R.TLY_SEAT.valid 0 true
  let b := if f 4 1 = 0 then setFlag b R.TLY_STROKE_CTRL.enable 0 true else b
  let b := setSeat (((strokeMembers b).find? (moduleLive b)).getD (members.headD 0)) (noteRun old b)
  let b := measureDelay b
  let b := match b.fail.pair with
    | some p => if b.fail.pairState = 2 then forEach (otherMembers b) (fun m b => sendFail m [3, me, p.partner, 3] b) b else b
    | none => b
  announce (f 4 1) b

/-- FLOCK_JOIN (R531-R533). -/
def flockJoin (body : List Byte) (b : Body) : Reply × Body :=
  match joinChecks body b with
  | some r => (r, b)
  | none =>
    let b := joinEffects body b
    let rank := if bfield body 4 1 = 0 then getF b R.TLY_SEAT.rank 0 else 0xFFFF
    (.ok (leBytes 2 rank ++ leBytes 2 (seatIx b) ++ leBytes 4 0), b)

/-- Every route of kind 1 or 2 becomes one of kind 0 (R534). -/
def dropRoutes (b : Body) : Body :=
  { b with regs := b.regs.filter (fun e => !(e.1 % 1024 == R.KLK_ROUTE.kind.idx && (e.2 == 1 || e.2 == 2))) }

/-- FLOCK_LEAVE (R534). -/
def flockLeave (b : Body) : Reply × Body :=
  let me := moduleIndex b
  match checked
    [(joined b, .no 6 none 0x01), (getF b R.TLY_STROKE_STATUS.state 0 == 0, .no 1 none 2), (!replayOrFill b, .no 1 none 4),
     (b.fail.pairState != 2 && !(flagF b R.TLY_STANDIN.valid 0 && getF b R.TLY_STANDIN.standin 0 == me), .no 8 none 0)] with
  | some r => (r, b)
  | none =>
    let old := b
    let b := setFlag (putEnable false b) R.TLY_SEAT.valid 0 false
    let b := if getF b R.GBL_CLAIM_AUX.holder 0 = 1 then setF (setF b R.GBL_CLAIM_AUX.holder 0 0) R.SHP_SYNCAUX.mode 0 0 else b
    let b := dropRoutes b
    (.ok [], noteRun old (updFail (fun f => { f with returning := none }) b))

/-- The number of the next START that the seat sends (R537). -/
def nextStart (b : Body) : Nat :=
  if b.flock.armed then b.flock.nextStroke
  else match b.flock.startSeen with
    | some w => w.stroke + 1
    | none => if b.flock.inFlight.isSome then b.flock.strokeInFlight + 1 else b.flock.nextStroke

/-- The stroke whose START carried last, if it has been sent. -/
def lastSent (b : Body) : Option Nat :=
  match b.flock.startSeen with
  | some w => if w.body.last then some w.stroke else none
  | none => if (b.flock.inFlight.map (·.last)).getD false then some b.flock.strokeInFlight else none

/-- The checks of STROKE_START (R536, R625). -/
def startChecks (action : Nat) (body : List Byte) (b : Body) : Option Reply :=
  let state := getF b R.TLY_STROKE_STATUS.state 0
  checked
    [(action != 1 || b.rack.drain == 0, .no 6 none 0), (joined b, .no 6 none 0x01), (isSeat b, .no 6 none (0x02 + seatIx b * 65536)),
     (b.flock.plan.isSome, .no 6 none 0x04), (!replayOrFill b, .no 1 none 4), (action != 1 || state == 0, .no 1 none 2),
     (action == 1 || state != 0, .no 6 none 0x03), (action != 1 || (kindOf b (bfield body 2 2)).isSome, badField 2),
     (action != 1 || (power b == 7 && !flagF b R.LDG_STATUS.forced 0), .no 0x0B none 0)]

/-- The inbound words of STROKE_START (R535). -/
def inboundOf (body : List Byte) : List Nat := (List.range 16).map (fun i => bfield body (16 + 8 * i) 8)

/-- STROKE_START action 1 (R248, R537): the run's first stroke follows the stroke number in force (log entry 46). -/
def startRun (body : List Byte) (b : Body) : Reply × Body :=
  match startChecks 1 body b with
  | some r => (r, b)
  | none =>
    let first := strokeNum b + 1
    let count := bfield body 4 4
    let kind := bfield body 2 2
    let arm : StartBody :=
      { periodUs := 0, warnDelayUs := 0, leadUs := ((kindOf b kind).map (·.leadUs)).getD 0, kind := kind, first := false, last := false, replay := false
        arm := true, replayClass := 0, inbound := inboundOf body }
    let b := updFlock (fun x => { x with armed := true, runLeft := if count = 0 then none else some count, stopAsked := false, inboundNext := inboundOf body }) b
    (.ok (leBytes 6 first ++ leBytes 2 0), takeArm first arm (forwardStart (moduleIndex b) first arm b))

/-- STROKE_START action 2 (R537). -/
def stopRun (body : List Byte) (b : Body) : Reply × Body :=
  match startChecks 2 body b with
  | some r => (r, b)
  | none => match lastSent b with
    | some n => (.ok (leBytes 6 n ++ leBytes 2 0), b)
    | none => (.ok (leBytes 6 (nextStart b) ++ leBytes 2 0), updFlock (fun x => { x with stopAsked := true }) b)

/-- STROKE_START action 3 (R537). -/
def setInbound (body : List Byte) (b : Body) : Reply × Body :=
  match startChecks 3 body b with
  | some r => (r, b)
  | none => (.ok (leBytes 6 (nextStart b) ++ leBytes 2 0), updFlock (fun x => { x with inboundNext := inboundOf body }) b)

/-- IDENTIFY (R527). -/
def execIdentify (m : Nat) (s : State) : Host.Outcome State Fault Refusal :=
  onUnitS (isMailbox m) (commandB m 0x0001 anyAction (fun _ b => (.ok (identify b), b))) s
/-- STATUS (R528). -/
def execStatus (m : Nat) (s : State) : Host.Outcome State Fault Refusal :=
  onUnitS (isMailbox m) (commandB m 0x0002 anyAction (fun _ b => (.ok (statusBody b), b))) s
/-- TIME_SET (R529). -/
def execTimeSet (m : Nat) (s : State) : Host.Outcome State Fault Refusal := onUnitS (isMailbox m) (commandB m 0x0003 anyAction (timeSet m)) s
/-- PLAN_LOAD (R251, R252, R530). -/
def execPlanLoad (m : Nat) (s : State) : Host.Outcome State Fault Refusal := onUnitS (isMailbox m) (command m 0x0101 anyAction planLoad) s
/-- FLOCK_JOIN (R531-R533). -/
def execFlockJoin (m : Nat) (s : State) : Host.Outcome State Fault Refusal := onUnitS (isMailbox m) (commandB m 0x0102 anyAction flockJoin) s
/-- FLOCK_LEAVE (R534). -/
def execFlockLeave (m : Nat) (s : State) : Host.Outcome State Fault Refusal := onUnitS (isMailbox m) (commandB m 0x0103 anyAction (fun _ => flockLeave)) s
/-- STROKE_START action 1 (R535-R537). -/
def execStrokeStartRun (m : Nat) (s : State) : Host.Outcome State Fault Refusal := onUnitS (isMailbox m) (commandB m 0x0104 (actionIs 0 1) startRun) s
/-- STROKE_START action 2 (R535-R537). -/
def execStrokeStartStop (m : Nat) (s : State) : Host.Outcome State Fault Refusal := onUnitS (isMailbox m) (commandB m 0x0104 (actionIs 0 2) stopRun) s
/-- STROKE_START action 3 (R535-R537). -/
def execStrokeStartInbound (m : Nat) (s : State) : Host.Outcome State Fault Refusal := onUnitS (isMailbox m) (commandB m 0x0104 (actionIs 0 3) setInbound) s

end Sys2Proof.Machine
end

