-- ==== Sys2Proof/Machine/PowerCommands.lean ====
section
/-! DEFINITION. The commands of power, the Cox engines, storage, the logbook and the counters (R538-R551). -/

namespace Sys2Proof.Machine

/-- Three converter cells carry the input, and the module's own cap is not in being yet (R343). -/
def threeCells (b : Body) : Bool := b.cox.path.removedCells.length == 2 && !b.cox.path.selfCap && !b.cox.path.inputAbsent

/-- CONTRACT_SET after its signature block (R424, R538). -/
def contractSet (m : Nat) (_ : Nat) (body : List Byte) (b : Body) : Reply × Body :=
  let level := bfield body 0 2
  let pct := bfield body 2 1
  let hi := getF b R.LDG_ENVELOPE.level_max_w 0
  let trim : Int := (getF b R.LDG_ECAP.ecap_mj 0 * pct / 100 : Nat)
  if level < 1200 ∨ hi < level then (badField 0, b)
  else if pct < 30 ∨ 80 < pct ∨ trim < eFloorSet b + 2000000 then (badField 2, b)
  else
    let was := getF b R.LDG_LEVEL.level_w 0
    let b := pgTarget 16 0 (bfRat level 1) (setF (setF b R.LDG_LEVEL.level_w 0 level) R.LDG_LEVEL.trim_pct 0 pct)
    let b := logFrom (originOf m) 0x102 (leBytes 2 level ++ leBytes 2 pct ++ leBytes 2 was) b
    let b := if threeCells b ∧ 8400 < level then selfCap b else b
    (.ok (leBytes 2 level ++ leBytes 2 pct ++ leBytes 2 hi ++ leBytes 2 0), b)

/-- The cap that a party's cap makes, with who placed it (R343, R539). -/
def capInForce (b : Body) (signer w : Nat) : Nat × Nat :=
  if b.cox.path.selfCap ∧ (w = 0 ∨ 8400 ≤ w) then (8400, 3) else if w = 0 then (0, 0) else (w, signer)

/-- CAP_EMERGENCY after its signature block (R428, R539). -/
def capEmergency (m : Nat) (signer : Nat) (body : List Byte) (b : Body) : Reply × Body :=
  let w := bfield body 0 2
  let cur := getF b R.COX_CAP.cap_w 16
  if w ≠ 0 ∧ (w < 1200 ∨ 10500 < w) then (badField 0, b)
  else if cur ≠ 0 ∧ (w = 0 ∨ cur < w) ∧ signer ≠ 1 ∧ b.cox.path.capBy ≠ signer then (.no 6 none 0x15, cmdRecord 0x11 m 6 b)
  else
    let b := if threeCells b ∧ 8400 < w then updPath (fun p => { p with selfCap := true }) b else b
    let c := capInForce b signer w
    let b := placeCap c.1 (updPath (fun p => { p with capBy := c.2 }) b)
    (.ok (leBytes 2 c.1 ++ leBytes 1 c.2 ++ leBytes 5 0), logFrom (originOf m) 0x103 (leBytes 2 c.1 ++ leBytes 2 c.2 ++ leBytes 2 cur) b)

/-- LEDGER_READ (R540). -/
def ledgerRead (b : Body) : List Byte :=
  let v := fun f => getF b f 0
  leBytes 8 (v R.LDG_E0.e0_mj) ++ leBytes 8 (v R.LDG_EROOM.eroom_mj) ++ leBytes 8 (v R.LDG_ECAP.ecap_mj) ++ leBytes 4 (v R.LDG_RESERVE.reserve_mj)
    ++ leBytes 2 (v R.LDG_LEVEL.level_w) ++ leBytes 2 (v R.LDG_LEVEL.trim_pct) ++ leBytes 2 (v R.LDG_ENVELOPE.level_max_w)
    ++ leBytes 2 (v R.LDG_LIMITS.v_lim) ++ leBytes 2 (v R.LDG_LIMITS.a_lim) ++ leBytes 2 (v R.LDG_LIMITS.j_lim) ++ leBytes 2 (getF b R.COX_CAP.cap_w 16)
    ++ leBytes 2 (v R.LDG_LEVEL_WANTED.level_w) ++ leBytes 2 (v R.LDG_FLOOR.floor_w) ++ leBytes 2 (inputWatts b) ++ leBytes 4 (regWord b R.LDG_STATUS 0)
    ++ leBytes 4 (v R.LDG_REQUEST.period_us) ++ leBytes 4 (v R.LDG_START_DELAY.start_delay_us) ++ leBytes 4 (v R.LDG_DRIFT.drift_mj)
    ++ leBytes 8 (v R.LDG_ACC_IN.uj) ++ leBytes 8 (v R.LDG_ACC_PACK_DIS.uj) ++ leBytes 8 (v R.LDG_ACC_PACK_CHG.uj)
    ++ leBytes 4 (uint 32 ((2 * bfZ (getF b R.COX_PG_POS.x (pix 16 0)) + 2 ^ 150) / 2 ^ 151)) ++ leBytes 4 0

/-- The words of a run of registers. -/
def wordsAt (b : Body) (blk : Block) (inst off n : Nat) : List Byte := (List.range n).flatMap (fun i => leBytes 4 (wordAt b blk inst (off + 4 * i)))

/-- COX_LOOP_READ (R409, R541). -/
def coxLoopRead (body : List Byte) (b : Body) : Reply × Body :=
  let e := bfield body 0 1
  let l := bfield body 1 1
  if 19 < e then (badField 0, b)
  else if !slotPresent b e l then (badField 1, b)
  else
    let region := getF b R.COX_REGION.region (lix e l)
    let pg := getF b R.COX_LOOP_CFG.pg (lix e l)
    (.ok (wordsAt b .cox e (0x1000 + 0x100 * l) 36 ++ wordsAt b .cox e (0x4000 + 0x200 * l + 0x20 * region) 8
      ++ (if pg < 8 then wordsAt b .cox e (0x8000 + 0x40 * pg) 9 else List.replicate 36 0) ++ leBytes 1 region ++ leBytes 1 pg ++ leBytes 2 0
      ++ hourStamp b), b)

/-- The default supervision of a loop (R401): 1 saturation, 2 plausibility, 3 both. -/
def supDefault (e l : Nat) : Nat := fieldReset R.COX_LOOP_CFG.sup_sel.idx (lix e l)

/-- Has the loop a saturation default (R401)? -/
def satDefault (e l : Nat) : Bool := bit (supDefault e l) 0

/-- Has the loop a plausibility default (R401)? -/
def plausDefault (e l : Nat) : Bool := bit (supDefault e l) 1

/-- Does R398 admit the slot to a competition group? Its partner. -/
def groupPartner (e l : Nat) : Option Nat :=
  if e = 16 ∧ l = 0 then some 2 else if e = 16 ∧ l = 2 then some 0 else if e = 17 ∧ l = 0 then some 1 else if e = 17 ∧ l = 1 then some 0 else none

/-- Does a value lie between a quarter and four times another? -/
def within4 (v d : Int) : Bool := decide (d ≤ 4 * v ∧ v ≤ 4 * d)

/-- The checks that every action of COX_MODE_SET makes (R543), with those of the action in their places. -/
def modeChecks (body : List Byte) (b : Body) (group : Bool) (values : List (Bool × Reply)) : Option Reply :=
  let e := bfield body 0 1
  let l := bfield body 1 1
  checked ([(decide (e ≤ 19), badField 0), (slotPresent b e l, badField 1), (!group || getF b R.TLY_STROKE_STATUS.state 0 == 0, .no 1 none 2),
    (!group || (groupPartner e l).isSome, .no 6 none 0), (!(loopPg b e l).any (fun k => getF b R.COX_PG_CTRL.owner (pix e k) == 1), .no 8 none 0)] ++ values)

/-- What COX_MODE_SET answers (R544). -/
def modeAnswer (body : List Byte) (b : Body) : Reply :=
  let i := lix (bfield body 0 1) (bfield body 1 1)
  .ok (leBytes 1 (getF b R.COX_LOOP_CFG.sup_sel i) ++ leBytes 1 (getF b R.COX_LOOP_CFG.group i) ++ leBytes 2 (getF b R.COX_SUP_CFG.sat_time i)
    ++ leBytes 2 (getF b R.COX_SUP_CFG2.plaus_time i) ++ leBytes 1 (SMap.get b.trust.groups 0 i) ++ leBytes 1 0 ++ leBytes 4 (getF b R.COX_PLAUS_THR.thr i)
    ++ leBytes 4 0)

/-- COX_MODE_SET action 1 (R543, R544). -/
def modeSel (body : List Byte) (b : Body) : Reply × Body :=
  let e := bfield body 0 1
  let l := bfield body 1 1
  let v := bfield body 3 1
  match modeChecks body b false [(decide (1 ≤ v ∧ v ≤ 3), badField 3), (!bit v 0 || satDefault e l, badField 3), (!bit v 1 || plausDefault e l, badField 3)] with
  | some r => (r, b)
  | none => let b := setF b R.COX_LOOP_CFG.sup_sel (lix e l) v; (modeAnswer body b, b)

/-- COX_MODE_SET action 2 (R543, R544); a value for which the loop has no default is not looked at (log entry 46). -/
def modeTimes (body : List Byte) (b : Body) : Reply × Body :=
  let e := bfield body 0 1
  let l := bfield body 1 1
  let i := lix e l
  let dflt := fun (f : Field) => (fieldReset f.idx i : Int)
  match modeChecks body b false
    [(!satDefault e l || within4 (bfield body 4 2) (dflt R.COX_SUP_CFG.sat_time), badField 4),
     (!plausDefault e l || within4 (bfield body 6 2) (dflt R.COX_SUP_CFG2.plaus_time), badField 6),
     (!plausDefault e l || within4 (bfZ (bfield body 8 4)) (bfZ (fieldReset R.COX_PLAUS_THR.thr.idx i)), badField 8)] with
  | some r => (r, b)
  | none =>
    let b := if satDefault e l then setF b R.COX_SUP_CFG.sat_time i (bfield body 4 2) else b
    let b := if plausDefault e l then setF (setF b R.COX_SUP_CFG2.plaus_time i (bfield body 6 2)) R.COX_PLAUS_THR.thr i (bfield body 8 4) else b
    (modeAnswer body b, b)

/-- COX_MODE_SET action 3 (R398, R543, R544): the group is stored for the slot and its partner. -/
def modeGroup (body : List Byte) (b : Body) : Reply × Body :=
  let e := bfield body 0 1
  let l := bfield body 1 1
  let g := bfield body 12 1
  match modeChecks body b true [(decide (g ≤ 4), badField 12)] with
  | some r => (r, b)
  | none =>
    let put := fun (k : Nat) (m : SMap Nat) => SMap.put m 0 (lix e k) g
    let b := updTrust (fun t => { t with groups := put l (((groupPartner e l).map (fun k => put k t.groups)).getD t.groups) }) b
    (modeAnswer body b, b)

/-- STORAGE_STATUS (R545). -/
def storageStatus (b : Body) : List Byte :=
  let v := fun f => getF b f 0
  let fl := v R.CMN_SWEEP_STATUS.valid + v R.CMN_SWEEP_STATUS.stale * 2 + v R.CMN_SWEEP_STATUS.skewed * 4 + v R.CMN_LIMITS.chg_stop * 8
    + v R.CMN_LIMITS.dis_stop * 16 + v R.CMN_LIMITS.stale_inhibit * 32 + v R.STP_STATUS.pack_fault * 64
  leBytes 1 (power b) ++ leBytes 1 (v R.STP_STATUS.state) ++ leBytes 1 (v R.CMN_RING_STATUS.mode) ++ leBytes 1 (v R.CMN_RING_STATUS.break_seg)
    ++ leBytes 2 (v R.CMN_SWEEP_STATUS.sweep) ++ leBytes 1 fl ++ leBytes 1 0 ++ leBytes 4 (v R.STP_PACK_V.mv) ++ leBytes 4 (v R.STP_PACK_I.ma)
    ++ leBytes 4 (regWord b R.CMN_PACK 0) ++ leBytes 2 (v R.STP_INSULATION.kohm) ++ leBytes 1 (v R.STP_BREAKS.breaks) ++ leBytes 1 0
    ++ leBytes 4 (regWord b R.CMN_SWEEP_SKEW 0) ++ leBytes 4 (regWord b R.CMN_TRIP_STATUS 0) ++ leBytes 4 (regWord b R.CMN_BAL_MASK 0)
    ++ leBytes 4 (regWord b R.CMN_BAL_FAULT 0) ++ leBytes 4 (regWord b R.CMN_EXTREMES 0) ++ leBytes 2 (v R.STP_TEMP.centi_c) ++ leBytes 2 0
    ++ (List.range 32).flatMap (fun i => leBytes 4 (regWord b R.CMN_CELL_V i)) ++ (List.range 8).flatMap (fun i => leBytes 4 (regWord b R.CMN_TEMP i))
    ++ (List.range 4).flatMap (fun i => leBytes 4 (regWord b R.CMN_MON i))

/-- BALANCE_POLICY (R546). -/
def balancePolicy (body : List Byte) (b : Body) : Reply × Body :=
  let f := fun off n => bfield body off n
  match checked [(decide (f 0 1 ≤ 1), badField 0), (decide (4 ≤ f 1 1 ∧ f 1 1 ≤ 100), badField 1), (decide (1 ≤ f 2 1 ∧ f 2 1 ≤ 15 ∧ f 2 1 < f 1 1), badField 2),
      (decide (30 ≤ f 3 1 ∧ f 3 1 ≤ 63), badField 3), (decide (2500 ≤ f 4 2 ∧ f 4 2 ≤ 3800), badField 4)] with
  | some r => (r, b)
  | none =>
    let b := writeBalance [f 0 1, f 1 1, f 2 1, f 3 1, f 4 2] b
    (.ok (body.take 6 ++ [0, 0]), updTrust (fun t => { t with balance := some [f 0 1, f 1 1, f 2 1, f 3 1, f 4 2] }) b)

/-- The number of a new cursor of an origin (R547): the first that is not open, or the one used least recently. -/
def newHandle (l : Logbook) (origin : Nat) : Nat :=
  let mine := l.cursors.filter (fun c => c.origin == origin)
  match ([1, 2, 3, 4] : List Nat).find? (fun h => !mine.any (fun c => c.handle == h)) with
  | some h => h
  | none => (mine.foldl (fun (a : Option Cursor) c => match a with
      | some x => if c.used < x.used then some c else some x
      | none => some c) none).elim 1 (·.handle)

/-- LOGBOOK_OPEN_CURSOR (R547, R548). -/
def openCursor (m : Nat) (body : List Byte) (b : Body) : Reply × Body :=
  let area := bfield body 0 1
  let held := heldIn b.logbook area
  let oldest := (held.head?.map (·.seq)).getD 0
  let start := bfield body 8 8
  let o := originOf m
  let h := newHandle b.logbook o
  let c : Cursor := ⟨o, h, area, if start = 0 then oldest else start, b.logbook.uses⟩
  (.ok (leBytes 2 h ++ leBytes 2 0 ++ leBytes 8 oldest ++ leBytes 8 ((held.getLast?.map (·.seq)).getD 0) ++ leBytes 4 0),
   updLog (fun l => { l with uses := l.uses + 1, cursors := l.cursors.filter (fun x => !(x.origin == o && x.handle == h)) ++ [c] }) b)

/-- LOGBOOK_READ (R547, R549). -/
def readCursor (m : Nat) (body : List Byte) (b : Body) : Reply × Body :=
  let h := bfield body 0 2
  let n := bfield body 2 2
  let o := originOf m
  match b.logbook.cursors.find? (fun c => c.origin == o && c.handle == h) with
  | none => (badField 0, b)
  | some c =>
    if n % 8 ≠ 0 ∨ n < 1032 ∨ 4056 < n then (badField 2, b)
    else
      let a := logAnswer b.logbook c.area c.seq n
      let bytes := a.records.flatMap LogRec.bytes
      (.ok (leBytes 8 a.next ++ leBytes 2 bytes.length ++ leBytes 1 a.records.length ++ leBytes 1 (ofFlag a.atEnd + ofFlag a.skipped * 2) ++ leBytes 4 0 ++ bytes),
       updLog (fun l => { l with uses := l.uses + 1
                                 cursors := l.cursors.map (fun x => if x.origin = o ∧ x.handle = h then { x with seq := a.next, used := l.uses } else x) }) b)

/-- COUNTERS_GRANT (R551, R606). -/
def countersSet (v : Bool) (body : List Byte) (b : Body) : Reply × Body :=
  let die := bfield body 1 1
  let mask := bfield body 8 8
  let dies := if die = 0xFF then List.range 16 else [die]
  (.ok [], forEach dies (fun d b => forEach (List.range 48) (fun l b =>
    if bit mask l ∧ (physOf b d l).isSome then setFlag b R.PMC_STN_STATUS.granted (d * 48 + l) v else b) b) b)

/-- CONTRACT_SET (R424, R538). -/
def execContractSet (m : Nat) (s : State) : Host.Outcome State Fault Refusal :=
  onUnitS (isMailbox m) (commandB m 0x0201 anyAction (signed m 0x0201 [1] (contractSet m))) s
/-- CAP_EMERGENCY (R428, R539). -/
def execCapEmergency (m : Nat) (s : State) : Host.Outcome State Fault Refusal :=
  onUnitS (isMailbox m) (commandB m 0x0202 anyAction (signed m 0x0202 [1, 2] (capEmergency m))) s
/-- LEDGER_READ (R540). -/
def execLedgerRead (m : Nat) (s : State) : Host.Outcome State Fault Refusal :=
  onUnitS (isMailbox m) (commandB m 0x0203 anyAction (fun _ b => (.ok (ledgerRead b), b))) s
/-- COX_LOOP_READ (R541). -/
def execCoxLoopRead (m : Nat) (s : State) : Host.Outcome State Fault Refusal := onUnitS (isMailbox m) (commandB m 0x0301 anyAction coxLoopRead) s
/-- COX_MODE_SET action 1 (R542-R544). -/
def execCoxModeSetSupSel (m : Nat) (s : State) : Host.Outcome State Fault Refusal := onUnitS (isMailbox m) (commandB m 0x0302 (actionIs 2 1) modeSel) s
/-- COX_MODE_SET action 2 (R542-R544). -/
def execCoxModeSetSupTimes (m : Nat) (s : State) : Host.Outcome State Fault Refusal := onUnitS (isMailbox m) (commandB m 0x0302 (actionIs 2 2) modeTimes) s
/-- COX_MODE_SET action 3 (R542-R544). -/
def execCoxModeSetGroup (m : Nat) (s : State) : Host.Outcome State Fault Refusal := onUnitS (isMailbox m) (commandB m 0x0302 (actionIs 2 3) modeGroup) s
/-- STORAGE_STATUS (R545). -/
def execStorageStatus (m : Nat) (s : State) : Host.Outcome State Fault Refusal :=
  onUnitS (isMailbox m) (commandB m 0x0401 anyAction (fun _ b => (.ok (storageStatus b), b))) s
/-- BALANCE_POLICY (R546). -/
def execBalancePolicy (m : Nat) (s : State) : Host.Outcome State Fault Refusal := onUnitS (isMailbox m) (commandB m 0x0402 anyAction balancePolicy) s
/-- LOGBOOK_OPEN_CURSOR (R547, R548). -/
def execLogbookOpenCursor (m : Nat) (s : State) : Host.Outcome State Fault Refusal := onUnitS (isMailbox m) (commandB m 0x0501 anyAction (openCursor m)) s
/-- LOGBOOK_READ (R549). -/
def execLogbookRead (m : Nat) (s : State) : Host.Outcome State Fault Refusal := onUnitS (isMailbox m) (commandB m 0x0502 anyAction (readCursor m)) s
/-- COUNTERS_GRANT with action 1 (R551, R606). -/
def execCountersGrant (m : Nat) (s : State) : Host.Outcome State Fault Refusal :=
  onUnitS (isMailbox m) (commandB m 0x0601 (actionIs 0 1) (countersSet true)) s
/-- COUNTERS_GRANT with action 0 (R551, R606). -/
def execCountersRevoke (m : Nat) (s : State) : Host.Outcome State Fault Refusal :=
  onUnitS (isMailbox m) (commandB m 0x0601 (actionIs 0 0) (countersSet false)) s

end Sys2Proof.Machine
end

