-- ==== Sys2Proof/Machine/Accords.lean ====
section
/-! DEFINITION. Accords and single-party requests (R564-R569), LOGBOOK_CLEAR, ACCORD_SUBMIT and the nonces. -/

namespace Sys2Proof.Machine

/-- An item of an accord request (R565): its code, its value, and where its header stands in the body. -/
structure AccItem where
  code : Nat
  value : List Byte
  at_ : Nat
deriving DecidableEq, Repr

/-- The items of a body, up to the first that does not fit: the items, and the offset of the field that does not fit. -/
def readItems (body : List Byte) (limit : Nat) : Nat → Nat → List AccItem × Option Nat
  | 0, off => ([], if off = limit then none else some 56)
  | n + 1, off =>
    if limit < off + 8 then ([], some 56)
    else
      let len := bfield body (off + 2) 2
      if limit < off + 8 + len then ([⟨bfield body off 2, [], off⟩], some (off + 2))
      else
        let r := readItems body limit n (off + 8 + len)
        (⟨bfield body off 2, bslice body (off + 8) len, off⟩ :: r.1, r.2)

/-- The setting range of an item that is one number, from the least to the greatest, whether higher is safer, and the step that its
register holds (R360, R422, R480, R565). -/
structure ItemRange where
  lo : Int
  hi : Int
  higherSafer : Bool
  step : Int
deriving DecidableEq, Repr

/-- The protected settings that are one number (R565). -/
def itemRange : Nat → Option ItemRange
  | 0x0001 => some ⟨1200, 10500, false, 1⟩
  | 0x0002 => some ⟨20, 2000, false, 1⟩
  | 0x0003 => some ⟨10, 1000, false, 1⟩
  | 0x0004 => some ⟨10, 1000, false, 1⟩
  | 0x0005 => some ⟨30, 60, true, 1⟩
  | 0x0101 => some ⟨412000, 430000, false, 1⟩
  | 0x0102 => some ⟨240000, 258000, true, 1⟩
  | 0x0103 => some ⟨44000, 50000, false, 1⟩
  | 0x0106 => some ⟨59000, 61000, false, 1⟩
  | 0x0107 => some ⟨43000, 47000, true, 1⟩
  | 0x0108 => some ⟨82000, 95000, false, 1⟩
  | 0x0109 => some ⟨90000, 110000, false, 1⟩
  | 0x010B => some ⟨135000, 160000, false, 1⟩
  | 0x010C => some ⟨60000, 120000, false, 1⟩
  | 0x010D => some ⟨-150000, -80000, true, 1⟩
  | 0x010F => some ⟨105000, 120000, false, 1⟩
  | 0x0110 => some ⟨100000, 1000000, true, 1⟩
  | 0x0120 => some ⟨3780, 3800, false, 1⟩
  | 0x0121 => some ⟨2300, 2480, true, 1⟩
  | 0x0123 => some ⟨55000, 70000, false, 1000⟩
  | 0x0124 => some ⟨-30000, -15000, true, 1000⟩
  | 0x0125 => some ⟨80000, 200000, false, 1000⟩
  | _ => none

/-- The setting in force, in the unit of its item. -/
def itemNow (b : Body) (code : Nat) : Int :=
  let v := fun f => (getF b f 0 : Int)
  match code with
  | 0x0001 => v R.LDG_ENVELOPE.level_max_w
  | 0x0002 => v R.LDG_LIMITS.v_lim
  | 0x0003 => v R.LDG_LIMITS.a_lim
  | 0x0004 => v R.LDG_LIMITS.j_lim
  | 0x0005 => v R.LDG_RESERVE.reserve_mj / 1000000
  | 0x010D => -(tripThreshold b 0x0D : Int)
  | 0x0120 => v R.CMN_TRIP_CFG0.cell_ov_mv
  | 0x0121 => v R.CMN_TRIP_CFG0.cell_uv_mv
  | 0x0123 => v R.CMN_TRIP_CFG1.cell_ot_c * 1000
  | 0x0124 => sint 8 (getF b R.CMN_TRIP_CFG1.cell_ut_c 0) * 1000
  | 0x0125 => v R.CMN_TRIP_CFG1.spread_mv * 1000
  | 0x0400 => v R.SHP_TRUST.debug_level
  | c => tripThreshold b (c - 0x100)

/-- A value of an item that is one number: i32 for a threshold, u32 otherwise (R565). -/
def itemInt (i : AccItem) : Int := if 0x0100 < i.code ∧ i.code < 0x0200 then sint 32 (ofLeBytes i.value) else ofLeBytes i.value

/-- The length of the value of an item (R565); none for a reserved code. -/
def itemLen (code : Nat) : Option Nat :=
  if (itemRange code).isSome ∨ code = 0x0200 ∨ code = 0x0400 then some 4
  else if code = 0x0301 then some 100 else if code = 0x0302 then some 196 else none

/-- The first faulty field of an item (R565, R566). The second of two rotations names the other party (R569; log entry 49). -/
def itemFault (op form : Nat) (body : List Byte) (items : List AccItem) (i : AccItem) : Option Nat :=
  let key := fun (x : AccItem) => (x.code, if x.code = 0x0302 then bfield x.value 0 1 else 0)
  let twice := items.any (fun x => decide (x.at_ < i.at_) && key x == key i)
  match itemLen i.code with
  | none => some i.at_
  | some n =>
    if twice then some i.at_
    else if op = 0x0503 ∧ (i.code ≠ 0x0200 ∨ items.length ≠ 1) then some i.at_
    else if op = 0x0701 ∧ i.code = 0x0200 then some i.at_
    else if (i.code = 0x0301 ∧ form ≠ 2) ∨ (i.code = 0x0302 ∧ form ≠ 1) then some i.at_
    else if i.value.length ≠ n then some (i.at_ + 2)
    else if bfield body (i.at_ + 4) 4 ≠ 0 then some (i.at_ + 4)
    else if (i.code = 0x0200 ∨ i.code = 0x0400) ∧ 4 ≤ ofLeBytes i.value then some (i.at_ + 8)
    else if (i.code = 0x0301 ∨ i.code = 0x0302) ∧ bfield i.value 1 3 ≠ 0 then some (i.at_ + 9)
    else none

/-- An accord request as read from a body (R564). -/
structure Accord where
  form : Nat
  signer : Nat
  nonceParty : Nat
  seq : Nat
  nonce : List Byte
  items : List AccItem
  signed : List Byte
  sigs : List Byte
deriving DecidableEq, Repr

/-- Read an accord request. -/
def readAccord (op : Nat) (body : List Byte) : Accord × Option Nat :=
  let n := 64 + bfield body 56 2
  let r := readItems body n (bfield body 7 1) 64
  (⟨bfield body 4 1, bfield body 5 1, bfield body 6 1, bfield body 16 8, bslice body 24 32, r.1, leBytes 2 op ++ body.take n, body.drop n⟩, r.2)

/-- The parties that sign. -/
def Accord.signers (a : Accord) : List Nat := if a.form = 1 then [1, 2] else [a.signer]

/-- Step 1 of R567: the first faulty field. -/
def accordFault (op : Nat) (body : List Byte) : Option Nat :=
  let r := readAccord op body
  let a := r.1
  if bfield body 0 4 ≠ 0x44524341 then some 0
  else if a.form ≠ 1 ∧ a.form ≠ 2 then some 4
  else if (a.form = 1 ∧ a.signer ≠ 0) ∨ (a.form = 2 ∧ a.signer ≠ 1 ∧ a.signer ≠ 2) then some 5
  else if (a.nonceParty ≠ 1 ∧ a.nonceParty ≠ 2) ∨ (a.form = 2 ∧ a.nonceParty ≠ a.signer) then some 6
  else if bfield body 7 1 < 1 ∨ 8 < bfield body 7 1 then some 7
  else if bfield body 56 2 < 12 ∨ 3820 < bfield body 56 2 then some 56
  else if bfield body 58 6 ≠ 0 then some 58
  else match (a.items.filterMap (itemFault op a.form body a.items)).head? with
    | some off => some off
    | none => r.2

/-- The key provisioning item of a request. -/
def Accord.provision (a : Accord) : Option AccItem := a.items.find? (fun i => i.code == 0x0301)

/-- The key that a signature of a party is verified with (R567). -/
def Accord.keyOf (a : Accord) (b : Body) (party : Nat) : List Byte :=
  match a.provision with
  | some i => i.value.drop 4
  | none => partyKey b party

/-- May the signer sign (R561, R566)? -/
def signerAllowed (m op : Nat) (a : Accord) (b : Body) : Bool :=
  (op != 0x0503 || a.form == 1)
    && match a.provision with
      | some i => bfield i.value 0 1 == a.signer && (partyKey b a.signer).isEmpty && decide (16 ≤ m) && decide (hourMs b < b.host.opReset + 600000)
      | none => true

/-- Step 2 of R567: the detail of the first check that fails. -/
def accordSigned (m op : Nat) (body : List Byte) (a : Accord) (b : Body) : Option Nat :=
  let any := fun (p : Nat → Bool) => a.signers.any p
  if !signerAllowed m op a b then some 0x14
  else if a.provision.isNone ∧ any (fun p => (partyKey b p).isEmpty) then some 0x16
  else if bfield body 8 8 ≠ serial b then some 0x13
  else if !nonceValid b a.nonceParty a.nonce then some 0x11
  else if any (fun p => !seqAccepted b p a.seq) then some 0x12
  else if any (fun p => !verifySig (a.keyOf b p) a.signed (bslice a.sigs (if a.form = 1 ∧ p = 2 then 96 else 0) 96)) then some 0x10
  else none

/-- May a key take a slot (R561, R569)? A new key of a provisioning item differs from the other party's, one of a rotation from both. -/
def keyFits (b : Body) (i : AccItem) : Bool :=
  let key := bslice i.value 4 96
  let party := bfield i.value 0 1
  (party == 1 || party == 2) && onCurve key && (if i.code = 0x0301 then partyKey b (3 - party) != key else partyKey b 1 != key && partyKey b 2 != key)

/-- The bytes that the proof of a rotation signs (R569). -/
def proofBytes (b : Body) (a : Accord) (i : AccItem) : List Byte :=
  leBytes 8 (serial b) ++ leBytes 8 a.seq ++ leBytes 1 (bfield i.value 0 1) ++ bslice i.value 4 96

/-- Step 4 of R567 for one item: its range, then NEEDS_ACCORD (R566), with the proof of a rotation after its key (log entry 49). -/
def itemCheck (a : Accord) (b : Body) (i : AccItem) : Option Reply :=
  let v := itemInt i
  match itemRange i.code with
  | some r =>
    if v < r.lo ∨ r.hi < v ∨ v % r.step ≠ 0 then some (badField (i.at_ + 8))
    else if a.form = 2 ∧ (if r.higherSafer then decide (v < itemNow b i.code) else decide (itemNow b i.code < v)) then some (.no 7 none 0)
    else none
  | none =>
    if i.code = 0x0400 then
      if 2 < v then some (badField (i.at_ + 8)) else if a.form = 2 ∧ itemNow b i.code < v then some (.no 7 none 0) else none
    else if i.code = 0x0200 then (if v = 0 then some (badField (i.at_ + 8)) else none)
    else if !keyFits b i then some (badField (i.at_ + 8))
    else if i.code = 0x0302 ∧ !verifySig (bslice i.value 4 96) (proofBytes b a i) (bslice i.value 100 96) then some (.no 6 none 0x10)
    else none

/-- The old value of an item, as its record holds it (R568, R591). -/
def itemOld (b : Body) (i : AccItem) : List Byte :=
  let n := i.value.length
  let party := bfield i.value 0 1
  if i.code = 0x0301 ∨ i.code = 0x0302 then
    let bs := leBytes 4 party ++ partyKey b party
    bs ++ List.replicate (n - bs.length) 0
  else if i.code = 0x0200 then leBytes n 0
  else leBytes n (uint 32 (itemNow b i.code))

/-- The debug level changes; a session above it closes (R570, R591). -/
def setDebugLevel (v : Nat) (b : Body) : Body :=
  let old := getF b R.SHP_TRUST.debug_level 0
  let b := setF b R.SHP_TRUST.debug_level 0 v
  let b := if old = v then b else logRec 0x106 [4, BitVec.ofNat 8 v] b
  if v < b.trust.session then logRec 0x106 [3, BitVec.ofNat 8 b.trust.session] (updTrust (fun t => { t with session := 0 }) b) else b

/-- A party's key is set; its nonces end on a rotation (R562, R569). -/
def setPartyKey (party : Nat) (key : List Byte) (rotate : Bool) (b : Body) : Body :=
  updTrust (fun t => { t with provider := if party = 1 then key else t.provider, tenant := if party = 2 then key else t.tenant
                              nonces := if rotate then t.nonces.filter (fun n => n.party != party) else t.nonces }) b

/-- An item takes effect (R423, R568, R569, R570, R594). -/
def itemApply (m : Nat) (b : Body) (i : AccItem) : Body :=
  let v := itemInt i
  let n := v.toNat
  match i.code with
  | 0x0001 =>
    let b := setF b R.LDG_ENVELOPE.level_max_w 0 n
    if n < getF b R.LDG_LEVEL.level_w 0 then pgTarget 16 0 (bfRat n 1) (setF b R.LDG_LEVEL.level_w 0 n) else b
  | 0x0002 => contractLimits (setF b R.LDG_LIMITS.v_lim 0 n)
  | 0x0003 => contractLimits (setF b R.LDG_LIMITS.a_lim 0 n)
  | 0x0004 => contractLimits (setF b R.LDG_LIMITS.j_lim 0 n)
  | 0x0005 => setF b R.LDG_RESERVE.reserve_mj 0 (n * 1000000)
  | 0x0120 => setF b R.CMN_TRIP_CFG0.cell_ov_mv 0 n
  | 0x0121 => setF b R.CMN_TRIP_CFG0.cell_uv_mv 0 n
  | 0x0123 => setF b R.CMN_TRIP_CFG1.cell_ot_c 0 (n / 1000)
  | 0x0124 => setF b R.CMN_TRIP_CFG1.cell_ut_c 0 (uint 8 (v / 1000))
  | 0x0125 => setF b R.CMN_TRIP_CFG1.spread_mv 0 (n / 1000)
  | 0x0200 => beginClear n m b
  | 0x0301 => setPartyKey (bfield i.value 0 1) (bslice i.value 4 96) false b
  | 0x0302 => setPartyKey (bfield i.value 0 1) (bslice i.value 4 96) true b
  | 0x0400 => setDebugLevel n b
  | c => updPath (fun p => { p with thresholds := SMap.put p.thresholds (tripDefault (c - 0x100)) (c - 0x100) v.natAbs }) b

/-- The record of an accepted request (R568, R591). Its signers are written as 1 provider, 2 tenant, 3 both (log entry 49). -/
def accordRecord (m : Nat) (a : Accord) (olds : List (List Byte)) (b : Body) : Body :=
  let signers := if a.form = 1 then 3 else a.signer
  let items := (a.items.zip olds).flatMap (fun p => leBytes 2 p.1.code ++ leBytes 2 0 ++ p.2 ++ p.1.value)
  logFrom (originOf m) 0x100 ([BitVec.ofNat 8 a.form, BitVec.ofNat 8 signers] ++ leBytes 6 0 ++ leBytes 8 a.seq ++ items) b

/-- The record of a refused request that reached step 2 (R568, R591). -/
def accordRefused (m op : Nat) (a : Accord) (r : Reply) (b : Body) : Body :=
  match r with
  | .no st _ d => logFrom (originOf m) 0x101 (leBytes 2 op ++ leBytes 2 st ++ leBytes 4 d ++ leBytes 8 a.seq) b
  | _ => b

/-- Step 5 of R567: a debug level above 0 waits for the module to be out of its flock (R570). -/
def debugBusy (a : Accord) (b : Body) : Bool := joined b && a.items.any (fun i => i.code == 0x0400 && decide (0 < itemInt i))

/-- An accord request is checked and applied (R567, R568). -/
def accordRun (m op : Nat) (body : List Byte) (b : Body) : Reply × Body :=
  match accordFault op body with
  | some off => (badField off, b)
  | none =>
    let a := (readAccord op body).1
    match accordSigned m op body a b with
    | some d => (.no 6 none d, accordRefused m op a (.no 6 none d) b)
    | none =>
      let b := useUp a.signers a.nonceParty a.nonce a.seq b
      match (a.items.filterMap (itemCheck a b)).head? with
      | some r => (r, accordRefused m op a r b)
      | none =>
        if debugBusy a b then (.no 1 none 3, accordRefused m op a (.no 1 none 3) b)
        else
          let olds := a.items.map (itemOld b)
          let b := a.items.foldl (itemApply m) b
          (if op = 0x0503 then .later else .ok (leBytes 8 a.seq), accordRecord m a olds b)

/-- LOGBOOK_CLEAR (R550, R594): its response follows when the last sector is erased, until when it is
in execution. -/
def logbookClear (m : Nat) (body : List Byte) (b : Body) : Reply × Body :=
  if b.logbook.clearing.isSome then (.later, b)
  else if body.isEmpty then (.no 7 none 0, b)
  else if getF b R.TLY_STROKE_STATUS.state 0 ≠ 0 then (.no 1 none 2, b)
  else accordRun m 0x0503 body b

/-- LOGBOOK_CLEAR (R550, R594). -/
def execLogbookClear (m : Nat) (s : State) : Host.Outcome State Fault Refusal :=
  onUnitS (isMailbox m) (commandB m 0x0503 anyAction (logbookClear m)) s
/-- ACCORD_SUBMIT (R552, R567-R569). -/
def execAccordSubmit (m : Nat) (s : State) : Host.Outcome State Fault Refusal :=
  onUnitS (isMailbox m) (commandB m 0x0701 anyAction (accordRun m 0x0701)) s
/-- ACCORD_NONCE (R553, R562). -/
def execAccordNonce (m : Nat) (s : State) : Host.Outcome State Fault Refusal := onUnitS (isMailbox m) (commandB m 0x0702 anyAction accordNonce) s
/-- NONCE_EXPIRE (R562). -/
def execNonceExpire (s : State) : Host.Outcome State Fault Refusal := lift nonceExpire s

end Sys2Proof.Machine
end

