-- ==== Sys2Proof/Machine/Power.lean ====
section
/-! DEFINITION. The commands of the power path (R334-R366, R392). -/

namespace Sys2Proof.Machine

/-- The presence contact closes (R335, R365). -/
def presenceClose (b : Body) : Body := updPath (fun p => { p with presence := true }) b

/-- Pre-charge starts (R335): also at the return of an input whose pre-charge failed before the housekeeping supply rose. -/
def prechargeStart (b : Body) : Body :=
  if power b = 0 ∧ b.cox.path.presence ∧ !b.cox.path.ocLatched then
    setPower 1 (updPath (fun p => { p with switch := 1, pulled := false, inputAbsent := false }) b)
  else b

/-- The rule of R343 for the cells left. -/
def checkCells (b : Body) : Body :=
  let n := 5 - b.cox.path.removedCells.length
  if n = 3 ∧ !b.cox.path.selfCap ∧ (8400 < getF b R.LDG_LEVEL.level_w 0 ∨ 8400 < getF b R.COX_CAP.cap_w 16) then selfCap b
  else if n < 3 then moduleStop b
  else b

/-- The input is back (R338, R392, R427): the cells restart, PG0 starts from the measured input power. -/
def inputBack (b : Body) : Body :=
  let b := ledgerAbsent false (updPath (fun p => { p with inputAbsent := false, cellsRun := !p.moduleStop && decide (3 ≤ power b) }) b)
  let b := if power b = 8 then
      let b := loopModeWrite 16 0 2 (contractPreset b)
      setPower (if stepIsDone b 6 then 7 else 6) b
    else if power b = 11 then
      loopModeWrite 16 2 2 (setF (setF b R.COX_LOOP_CFG.pg (lix 16 2) 15) R.COX_LOOP_REF_STATIC.ref (lix 16 2) (bfRat 54 1))
    else b
  noteWindow 3 (checkCells b)

/-- Pre-charge completes and the switch closes fully (R335). -/
def prechargeComplete (b : Body) : Body :=
  if b.cox.path.switch = 1 then
    let b := updPath (fun p => { p with switch := 2 }) b
    if power b = 1 then setPower 2 (updPath (fun p => { p with inputAbsent := false }) b)
    else if b.cox.path.inputAbsent then inputBack b else b
  else b

/-- Pre-charge fails (R335). -/
def prechargeFail (mv : Int) (b : Body) : Body := if b.cox.path.switch = 1 then inputOffTrip 4 mv b else b

/-- The input has stayed in range for 100 ms (R338, R362): pre-charge repeats. -/
def inputReturn (b : Body) : Body :=
  if b.cox.path.inputAbsent ∧ !b.cox.path.ocLatched ∧ b.cox.path.presence ∧ power b ≠ 9 then
    if power b = 0 then prechargeStart b else updPath (fun p => { p with switch := 1 }) b
  else b

/-- An input trip (R360): its condition against the threshold in force. -/
def inputTrip (code : Nat) (past : Nat → Bool) (value : Int) (b : Body) : Body :=
  if past (tripThreshold b code) ∧ power b ≠ 0 ∧ !b.cox.path.inputAbsent then inputOffTrip code value b else b

/-- A converter cell is removed (R342, R343, R366). -/
def cellRemoved (i : Nat) (value : Int) (b : Body) : Body :=
  if b.cox.path.removedCells.contains i then b
  else
    let b := tripRecord 5 2 value (updPath (fun p => { p with removedCells := p.removedCells ++ [i] }) b)
    if b.cox.path.inputAbsent then b else checkCells b

/-- A trip that acts module_stop (R360); nothing is left to stop in states before bus_start and after the pull. -/
def stopTrip (code : Nat) (past : Nat → Bool) (value : Int) (b : Body) : Body :=
  if past (tripThreshold b code) ∧ 3 ≤ power b ∧ power b ≠ 9 ∧ !b.cox.path.moduleStop then moduleStopTrip code value b else b

/-- A trip that acts pack_off (R360, R366). -/
def packTrip (code : Nat) (past : Bool) (value : Int) (b : Body) : Body :=
  if !past then b else if power b = 9 then tripRecord code 3 value b else packOffTrip code value b

/-- Does a rail run? -/
def railOn (b : Body) (e l : Nat) : Bool := loopMode b e l != 0

/-- A phase is removed (R348, R402, R410). -/
def phaseRemove (e l ph : Nat) (b : Body) : Body :=
  let r := railOf e l
  let key := if (e < 16 ∧ l < 2) ∨ e = 17 then ph else r * 16 + ph
  if (engine b e).removed.contains key then b
  else
    let b := updEngine e (fun g => { g with removed := g.removed ++ [key] }) b
    if (e < 16 ∧ l < 2) ∨ e = 17 then
      let run := (runningPhases b e 0).filter (fun p => p != ph)
      let b := setRunning e run b
      match (engine b e).shedPhase with
      | some s => if s = ph ∨ run.length - 1 < getF b R.COX_SHED_CFG.min_phases e then abortShed e b else b
      | none => b
    else b

/-- How many phases of a rail are removed. -/
def removedCount (b : Body) (e l : Nat) : Nat :=
  let r := railOf e l
  ((List.range (railPhases e l)).filter (fun p => (engine b e).removed.contains (if (e < 16 ∧ l < 2) ∨ e = 17 then p else r * 16 + p))).length

/-- An insulation measurement (R360, R452). -/
def insulation (kohm : Nat) (b : Body) : Body :=
  let b := setF b R.STP_INSULATION.kohm 0 (min kohm 65535)
  let low := kohm * 1000 < tripThreshold b 0x10
  let b := updPath (fun p => { p with lowInsulation := if low then p.lowInsulation + 1 else 0 }) b
  if b.cox.path.lowInsulation = 10 then packTrip 0x10 true (kohm * 1000 : Nat) b else b

/-- A contactor still reports closed 15 ms after release (R355, R360). -/
def contactorWeld (pos neg : Bool) (b : Body) : Body :=
  if (pos ∨ neg) ∧ getF b R.STP_STATUS.state 0 = 0 then
    let b := setFlag (setFlag b R.STP_STATUS.aux_pos 0 pos) R.STP_STATUS.aux_neg 0 neg
    let b := packFault 4 b
    setF (packTrip 0x11 true 0 b) R.STP_STATUS.state 0 4
  else b

/-- The bus crosses the cell-stop thresholds (R344). -/
def busCellStop (mv : Nat) (b : Body) : Body :=
  if 58000 < mv then updPath (fun p => { p with cellsHalted := true }) b
  else if mv < 56500 then updPath (fun p => { p with cellsHalted := false }) b
  else b

/-- The sum of the cell voltages of the latest sweep in mV (R354). -/
def sweepSum (b : Body) : Nat := ((List.range 32).map (fun i => getF b R.CMN_CELL_V.v i)).foldl (· + ·) 0 / 10

/-- The lower and upper readings of a cell in 100 µV (R466). -/
def lowerReading (b : Body) (i : Nat) : Nat := min (getF b R.CMN_CELL_V.v i) (getF b R.CMN_CELL_V.v_raw i)
/-- The upper reading of a cell. -/
def upperReading (b : Body) (i : Nat) : Nat := max (getF b R.CMN_CELL_V.v i) (getF b R.CMN_CELL_V.v_raw i)

/-- The ring item of the pack check (R352, R482). -/
def ringItem (b : Body) : Bool :=
  flagF b R.CMN_RING_STATUS.addr_ok 0 && getF b R.CMN_RING_STATUS.mode 0 == 1 && flagF b R.CMN_SWEEP_STATUS.valid 0

/-- The temperature item (R482). -/
def temperatureItem (b : Body) : Bool :=
  (List.range 8).all (fun j => !flagF b R.CMN_TEMP.fault j
    && decide (sint 16 (getF b R.CMN_TEMP.t j) ≤ getF b R.CMN_TRIP_CFG1.cell_ot_c 0 * 100)
    && decide (sint 8 (getF b R.CMN_TRIP_CFG1.cell_ut_c 0) * 100 ≤ sint 16 (getF b R.CMN_TEMP.t j)))

/-- The first item whose failure records a pack fault (R352): 2 cells, 4 contactors, 5 insulation, 6 service (log entry 30). -/
def faultItem (b : Body) : Option Nat :=
  if !(List.range 32).all (fun i => decide (22000 ≤ lowerReading b i ∧ upperReading b i ≤ 38000)) then some 2
  else if flagF b R.STP_STATUS.aux_pos 0 ∨ flagF b R.STP_STATUS.aux_neg 0 ∨ 10000 < getF b R.STP_PACK_V.mv 0 then some 4
  else if getF b R.STP_INSULATION.kohm 0 < 1000 then some 5
  else if 40 ≤ getF b R.STP_BREAKS.breaks 0 ∨ flagF b R.STP_STATUS.pack_fault 0 then some 6
  else none

/-- The pack check (R352, R353). The other items are judged only on a valid sweep. -/
def packCheck (retry : Bool) (b : Body) : Body :=
  if power b ≠ 4 ∨ !shepherdActive b ∨ b.cox.path.checkTried ≠ retry then b
  else if !ringItem b ∨ !temperatureItem b then
    if retry then noteWindow 3 (setPower 10 (stepFailed 4 (updPath (fun p => { p with checkTried := false, checkFailed := true }) b)))
    else updPath (fun p => { p with checkTried := true }) b
  else
    let b := updPath (fun p => { p with checkTried := false }) b
    match faultItem b with
    | some i => enterNoPack (stepFailed 4 (packFault i b))
    | none =>
      let low := (List.range 32).any (fun i => decide (lowerReading b i < 25000))
      setPower 5 (stepDone 4 (updPath (fun p => { p with recovery := low }) b))

/-- STP_CTRL.close is written 1 (R351, R352, R354): the port boosts its pack side to the sweep sum; a module with a pack fault
never closes its contactors. -/
def stpClose (b : Body) : Body :=
  if shepherdActive b ∧ power b = 5 ∧ getF b R.STP_STATUS.state 0 = 0 ∧ !flagF b R.STP_STATUS.pack_fault 0 ∧ !b.cox.path.packOff then
    let b := setFlag (setFlag (setF b R.STP_STATUS.state 0 1) R.STP_CTRL.close 0 true) R.STP_CTRL.port_en 0 true
    let b := setF b R.COX_SOFT_ILIM.ilim (lix 17 3) (bfRat 6 1)
    loopModeWrite 17 3 2 (pgTarget 17 0 (bfRat (sweepSum b) 1000)
      (pgPreset 17 0 (bfRat (getF b R.STP_PACK_V.mv 0) 1000) (setF (setF (setF (pgOwner 17 0 5 b) R.COX_PG_VLIM.v (pix 17 0) (bfRat 20000 1))
        R.COX_PG_ALIM.a (pix 17 0) (bfRat (10 ^ 7) 1)) R.COX_PG_JLIM.j (pix 17 0) (bfRat (10 ^ 10) 1))))
  else b

/-- Step 3 of R354, or a failure of it (R401 for the pack-side loop). -/
def connectFail (b : Body) : Body :=
  if getF b R.STP_STATUS.state 0 = 1 then enterNoPack (stepFailed 5 (packFault 4 (contactorsOpen b))) else b

/-- Firmware confirms the contactors (R354); a recovery charge then runs at no more than 10 A (R353, R395, R468). -/
def closeConfirm (pos neg : Bool) (mv : Nat) (b : Body) : Body :=
  if getF b R.STP_STATUS.state 0 ≠ 1 ∨ !shepherdActive b then b
  else
    let sum := sweepSum b
    let b := setF (setFlag (setFlag b R.STP_STATUS.aux_pos 0 pos) R.STP_STATUS.aux_neg 0 neg) R.STP_PACK_V.mv 0 mv
    if pos ∧ neg ∧ mv ≤ sum + 2000 ∧ sum ≤ mv + 2000 then
      let b := setF b R.STP_STATUS.state 0 2
      if b.cox.path.recovery then
        portLimits (setFlag (loopModeWrite 17 1 2 (pgTarget 17 1 (bfRat (-10) 1) (pgOwner 17 1 5 b))) R.CMN_LIMITS.dis_stop 0 true)
      else b
    else connectFail b

/-- STP_CTRL.close is written 0 (R355). -/
def stpOpen (b : Body) : Body := openPack b

/-- STP_CTRL.discharge_cap is written (R355 step 3); the capacitance lies behind open contactors. -/
def stpDischarge (b : Body) : Body := if getF b R.STP_STATUS.state 0 = 0 ∨ getF b R.STP_STATUS.state 0 = 3 then dischargeCap b else b

/-- The recovery charge ends (R353). -/
def recoveryDone (b : Body) : Body :=
  if b.cox.path.recovery ∧ getF b R.STP_STATUS.state 0 = 2 ∧ (List.range 32).all (fun i => decide (25000 ≤ lowerReading b i)) then
    pgTarget 17 1 (bfRat 0 1) (updPath (fun p => { p with recovery := false }) b)
  else b

/-- The pull sequence (R364): pull record, clocks and link dies, input, rails, pack. -/
def presenceLost (ma : Int) (b : Body) : Body :=
  let b := updPath (fun p => { p with presence := false }) b
  if power b = 0 ∨ power b = 9 then b
  else
    let old := power b
    let b := setPower 9 (updPath (fun p => { p with pulled := true }) b)
    let b := forEach (liveStations b) (fun st b => clockStop (.station st) b) b
    let b := isolateModule b
    let b := updPath (fun p => { p with switch := 0 }) (stopCells b)
    let b := logLossOfPower (some ([BitVec.ofNat 8 old, 0, 0, 0] ++ leBytes 4 (uint 32 ma))) b
    noteWindow 3 (setDrain 0 (openPack (stopRails b)))

/-- The housekeeping supply stops (R349, R364, R656): every unwritten record is lost, the contactors open, both Shepherds lose
their supply; the power path is off. -/
def housekeepingStop (b : Body) : Body :=
  if power b = 0 then b
  else
    let b := contactorsOpen (countBreak b)
    let b := setPower 0 (updPath (fun p => { p with housekeeping := false, switch := 0, cellsRun := false }) b)
    let b := setF (setF b R.SHP_STATUS.a_state 0 0) R.SHP_STATUS.b_state 0 0
    updLog (fun l => { l with queue := [], dropped := none }) b

/-- The bus soft-start begins (R358, R380, R381, R657). -/
def busStart (b : Body) : Body :=
  if power b ≠ 2 ∨ !shepherdActive b ∨ !stepIsDone b 2 then b
  else if b.cox.path.moduleStop ∨ b.cox.path.checkFailed ∨ 3 ≤ b.cox.path.removedCells.length then setPower 10 (stepFailed 3 b)
  else
    let b := forEach (List.range 20) (fun e b => setFlag b R.COX_CTRL.engine_en e true) b
    let b := updPath (fun p => { p with cellsRun := true }) (setPower 3 b)
    let b := setF b R.COX_SOFT_ILIM.ilim (lix 16 2) (bfRat 40 1)
    let b := setF b R.COX_LOOP_CFG.pg (lix 16 2) 0
    loopModeWrite 16 2 2 (softStart 16 0 (bfRat 54 1) (bfRat 5000 1) (bfRat 1000000 1) (bfRat (10 ^ 9) 1) (pgOwner 16 0 0 b))

/-- Is a rail's block latched off (R657)? -/
def railLatched (b : Body) (e l : Nat) : Bool :=
  let off := fun (k : PowerBlock) => b.cox.path.blocks.contains k
  let ratioOf := fun (n : Nat) => off (.ratio (([0, 3, 12, 15] : List Nat).getD n 0))
  match slotBlock e l with
  | some (.die d) => off (.die d) || off (.ratio d)
  | some (.stack s) => off (.stack s) || off (.ratio (stackHost s))
  | some (.link n) => off (.link n) || ratioOf n
  | some (.cage n) => off (.cage n) || off (.link n) || ratioOf n
  | _ => false

/-- The rail slots that a generator drives. -/
def pgRails (b : Body) (e k : Nat) : List Nat := (List.range 16).filter (fun l => slotPresent b e l && loopPg b e l == some k && loopKind b e l == 0)

/-- The soft-start of a block that drives its rails (R381), with the current limit of its loops; latched rails stay off. -/
def startBlock (e k : Nat) (target v a j ilim : Nat) (b : Body) : Body :=
  let ls := pgRails b e k
  let b := forEach ls (fun l b => setF b R.COX_SOFT_ILIM.ilim (lix e l) ilim) b
  let b := softStart e k target v a j (pgOwner e k 0 b)
  forEach (ls.filter (railLatched b e)) (fun l b => loopStop e l b) b

/-- The next block of an engine (R381, R382): generator and its soft-start. -/
def startNext (e k : Nat) (b : Body) : Body :=
  let v := bfRat 1000 1
  let a := bfRat 4000000 1
  let j := bfRat (2 * 10 ^ 10) 1
  if e < 16 then
    if k = 1 then startBlock e 1 (bfRat 85 100) v a j (bfRat 20 1) b else startBlock e 0 (bfRat 75 100) v a j (bfRat 180 1) b
  else if k < 2 then startBlock e k (bfRat 1 1) v a j (bfRat 8 1) b
  else if k = 2 then startBlock e 2 (bfRat 75 100) v a j (bfRat 15 1) b
  else startBlock e 3 (bfRat 1 1) (bfRat 5000 1) (bfRat 20000000 1) (bfRat (10 ^ 11) 1) (bfRat 8 1) b

/-- The order of an engine's blocks (R382). -/
def startOrder (e : Nat) : List Nat := if e < 16 then [1, 0] else [0, 1, 2, 3]

/-- The block that an engine has not finished; a generator whose every rail is latched off is passed over (R366, R653). -/
def blockLeft (b : Body) (e : Nat) : Option Nat :=
  (startOrder e).find? (fun k => !flagF b R.COX_PG_CTRL.done (pix e k) && !(pgRails b e k).all (railLatched b e))

/-- Start the block an engine has not finished, once. -/
def startLeft (e : Nat) (b : Body) : Body :=
  match blockLeft b e with
  | some k => if getF b R.COX_PG_CTRL.owner (pix e k) = 1 then b else startNext e k b
  | none => b

/-- Every rail is in regulation (R358, R382, R650): soft-start releases its generators and the module runs. -/
def railsDone (b : Body) : Body :=
  let b := forEach (List.range 16) (fun e b => pgOwner e 1 0 (pgOwner e 0 0 b)) b
  let b := forEach [18, 19] (fun e b => forEach [0, 1, 2, 3] (fun k b => pgOwner e k 0 b) b) b
  let b := stepDone 6 b
  let b := forEach (List.range 12) (fun k b => if getF b R.MEM_STATUS.state k = 0 then setF b R.MEM_STATUS.state k 1 else b) b
  let b := notePorts (noteStacks b)
  if power b = 6 then noteWindow 3 (setPower 7 b) else b

/-- The rails' soft-start goes on (R382, R650): COX18 and COX19 first, then every die, then state run. -/
def railsProgress (b : Body) : Body :=
  if !stepIsDone b 5 ∨ stepIsDone b 6 ∨ (power b ≠ 6 ∧ power b ≠ 8) then b
  else
    let b := forEach [18, 19] startLeft b
    if (blockLeft b 18).isSome ∨ (blockLeft b 19).isSome then b
    else
      let b := forEach (List.range 16) startLeft b
      if (List.range 16).all (fun e => (blockLeft b e).isNone) then railsDone b else b

/-- A trip that acts block_off (R360). -/
def blockTrip (code : Nat) (past : Bool) (blk : Option PowerBlock) (value : Int) (b : Body) : Body :=
  match blk with
  | some k => if past ∧ 3 ≤ power b then railsProgress (blockOff code k value b) else b
  | none => b

/-- The trip phase_loss (R348). -/
def phaseLoss (e l : Nat) (value : Int) (b : Body) : Body :=
  blockTrip 0x0E (decide (min 2 (railPhases e l) ≤ removedCount b e l) && decide (0 < railPhases e l)) (slotBlock e l) value b

/-- The hand-over on entry to rails_start (R392, R649 step 5): COX17 takes the bus, PG0 of COX16 becomes the contract's, L0 takes
the input; then COX18 and COX19 start their rails (R650). -/
def railsHandover (b : Body) : Body :=
  if power b ≠ 5 ∨ getF b R.STP_STATUS.state 0 ≠ 2 ∨ b.cox.path.recovery ∨ !shepherdActive b then b
  else
    let b := setPower 6 (stepDone 5 b)
    let b := setF (setF b R.COX_LOOP_CFG.pg (lix 17 0) 15) R.COX_LOOP_REF_STATIC.ref (lix 17 0) (bfRat 54 1)
    let b := loopModeWrite 17 0 2 b
    let b := setF (setF b R.COX_LOOP_CFG.pg (lix 16 2) 15) R.COX_LOOP_REF_STATIC.ref (lix 16 2) (bfRat 54 1)
    let b := pgOwner 16 0 3 (pgOwner 16 0 0 b)
    let b := setF (contractPreset b) R.COX_LOOP_CFG.pg (lix 16 0) 0
    let b := loopModeWrite 16 0 2 b
    railsProgress (forEach ((List.range 16) ++ [18, 19]) (fun e b => forEach (startOrder e) (fun k b =>
      pgOwner e k 0 (setFlag b R.COX_PG_CTRL.done (pix e k) false)) b) b)

/-- The input enters its abnormal range, or leaves it (R334). -/
def inputAbnormal (mv : Nat) (b : Body) : Body :=
  let ab := (260000 ≤ mv ∧ mv < 360000) ∨ (400000 < mv ∧ mv ≤ 410000)
  if ab ∧ !b.cox.path.abnormal then logRec 0x22 (leBytes 4 mv) (updPath (fun p => { p with abnormal := true }) b)
  else if !ab then updPath (fun p => { p with abnormal := false }) b
  else b

/-- PRESENCE_CLOSE (R335). -/
def execPresenceClose (s : State) : Host.Outcome State Fault Refusal := lift presenceClose s
/-- PRECHARGE_START (R335). -/
def execPrechargeStart (s : State) : Host.Outcome State Fault Refusal := lift prechargeStart s
/-- PRECHARGE_COMPLETE (R335, R338). -/
def execPrechargeComplete (s : State) : Host.Outcome State Fault Refusal := lift prechargeComplete s
/-- PRECHARGE_FAIL (R335). -/
def execPrechargeFail (mv : Int) (s : State) : Host.Outcome State Fault Refusal := lift (prechargeFail mv) s
/-- INPUT_RETURN (R338). -/
def execInputReturn (s : State) : Host.Outcome State Fault Refusal := lift inputReturn s
/-- INPUT_OV (R360). -/
def execInputOv (mv : Int) (s : State) : Host.Outcome State Fault Refusal := lift (inputTrip 1 (fun t => decide ((t : Int) < mv)) mv) s
/-- INPUT_UV (R360). -/
def execInputUv (mv : Int) (s : State) : Host.Outcome State Fault Refusal := lift (inputTrip 2 (fun t => decide (mv < (t : Int))) mv) s
/-- INPUT_OC (R360, R362). -/
def execInputOc (ma : Int) (s : State) : Host.Outcome State Fault Refusal := lift (inputTrip 3 (fun t => decide ((t : Int) < ma)) ma) s
/-- CONVERTER_CELL (R342, R343). -/
def execConverterCell (i : Nat) (value : Int) (s : State) : Host.Outcome State Fault Refusal := onUnit (decide (i < 5)) (cellRemoved i value) s
/-- BUS_OV (R360). -/
def execBusOv (mv : Int) (s : State) : Host.Outcome State Fault Refusal := lift (stopTrip 6 (fun t => decide ((t : Int) < mv)) mv) s
/-- BUS_UV (R360). -/
def execBusUv (mv : Int) (s : State) : Host.Outcome State Fault Refusal := lift (stopTrip 7 (fun t => decide (mv < (t : Int))) mv) s
/-- PORT_OC (R360). -/
def execPortOc (ma : Int) (s : State) : Host.Outcome State Fault Refusal :=
  lift (fun b => packTrip 8 (decide ((tripThreshold b 8) < ma.natAbs)) ma b) s
/-- PORT_OT (R360). -/
def execPortOt (mc : Int) (s : State) : Host.Outcome State Fault Refusal :=
  lift (fun b => packTrip 9 (decide ((tripThreshold b 9 : Int) < mc)) mc b) s
/-- RATIO_FAULT (R360). -/
def execRatioFault (die : Nat) (value : Int) (s : State) : Host.Outcome State Fault Refusal :=
  onUnit (isDie die) (blockTrip 0x0A true (some (.ratio die)) value) s
/-- RATIO_OC (R360). -/
def execRatioOc (die : Nat) (ma : Int) (s : State) : Host.Outcome State Fault Refusal :=
  onUnit (isDie die) (fun b => blockTrip 0x0B (decide ((tripThreshold b 0x0B : Int) < ma)) (some (.ratio die)) ma b) s
/-- RAIL_OV (R360): `mv` is the rail's voltage above its reference in force. -/
def execRailOv (e l : Nat) (mv : Int) (s : State) : Host.Outcome State Fault Refusal :=
  onUnit (decide (e < 20 ∧ l < 16)) (fun b => blockTrip 0x0C (railOn b e l && decide ((tripThreshold b 0x0C : Int) < mv * 1000)) (slotBlock e l) (mv * 1000) b) s
/-- RAIL_UV (R360): `mv` is the rail's voltage below its reference in force. -/
def execRailUv (e l : Nat) (mv : Int) (s : State) : Host.Outcome State Fault Refusal :=
  onUnit (decide (e < 20 ∧ l < 16)) (fun b => blockTrip 0x0D (railOn b e l && decide ((tripThreshold b 0x0D : Int) < mv * 1000)) (slotBlock e l) (-mv * 1000) b) s
/-- PHASE_LOSS (R348). -/
def execPhaseLoss (e l : Nat) (value : Int) (s : State) : Host.Outcome State Fault Refusal :=
  onUnit (decide (e < 20 ∧ l < 16)) (phaseLoss e l value) s
/-- DIE_OT (R360). -/
def execDieOt (die : Nat) (mc : Int) (s : State) : Host.Outcome State Fault Refusal :=
  onUnit (isDie die) (fun b => blockTrip 0x0F (decide ((tripThreshold b 0x0F : Int) < mc)) (some (.die die)) mc b) s
/-- PACK_INSULATION (R360): one measurement. -/
def execPackInsulation (kohm : Nat) (s : State) : Host.Outcome State Fault Refusal := lift (insulation kohm) s
/-- CONTACTOR_WELD (R355). -/
def execContactorWeld (pos neg : Bool) (s : State) : Host.Outcome State Fault Refusal := lift (contactorWeld pos neg) s
/-- PHASE_REMOVE (R348). -/
def execPhaseRemove (e l ph : Nat) (s : State) : Host.Outcome State Fault Refusal :=
  onUnit (decide (e < 20 ∧ l < 16 ∧ ph < railPhases e l)) (phaseRemove e l ph) s
/-- BUS_CELL_STOP (R344): the bus at a voltage in mV. -/
def execBusCellStop (mv : Nat) (s : State) : Host.Outcome State Fault Refusal := lift (busCellStop mv) s
/-- BUS_LOW_ASSERT (R345). -/
def execBusLowAssert (s : State) : Host.Outcome State Fault Refusal := lift (busLow true) s
/-- BUS_LOW_RELEASE (R345). -/
def execBusLowRelease (s : State) : Host.Outcome State Fault Refusal := lift (busLow false) s
/-- PACK_CHECK (R352). -/
def execPackCheck (s : State) : Host.Outcome State Fault Refusal := lift (packCheck false) s
/-- PACK_CHECK_RETRY (R352). -/
def execPackCheckRetry (s : State) : Host.Outcome State Fault Refusal := lift (packCheck true) s
/-- STP_CLOSE (R354). -/
def execStpClose (s : State) : Host.Outcome State Fault Refusal := lift stpClose s
/-- CONTACTOR_CLOSE_CONFIRM (R354). -/
def execContactorCloseConfirm (pos neg : Bool) (mv : Nat) (s : State) : Host.Outcome State Fault Refusal := lift (closeConfirm pos neg mv) s
/-- STP_OPEN (R355). -/
def execStpOpen (s : State) : Host.Outcome State Fault Refusal := lift stpOpen s
/-- STP_DISCHARGE_CAP (R355). -/
def execStpDischargeCap (s : State) : Host.Outcome State Fault Refusal := lift stpDischarge s
/-- RECOVERY_CHARGE_COMPLETE (R353). -/
def execRecoveryChargeComplete (s : State) : Host.Outcome State Fault Refusal := lift recoveryDone s
/-- PRESENCE_LOST (R364): `ma` is the input current at the loss. -/
def execPresenceLost (ma : Int) (s : State) : Host.Outcome State Fault Refusal := lift (presenceLost ma) s
/-- HOUSEKEEPING_SUPPLY_STOP (R349). -/
def execHousekeepingSupplyStop (s : State) : Host.Outcome State Fault Refusal := lift housekeepingStop s
/-- BUS_START (R358). -/
def execBusStart (s : State) : Host.Outcome State Fault Refusal := lift busStart s
/-- RAILS_START_HANDOVER (R392). -/
def execRailsStartHandover (s : State) : Host.Outcome State Fault Refusal := lift railsHandover s
/-- INPUT_ABNORMAL (R334). -/
def execInputAbnormal (mv : Nat) (s : State) : Host.Outcome State Fault Refusal := lift (inputAbnormal mv) s

end Sys2Proof.Machine
end

