-- ==== Sys2Proof/Machine/Cells.lean ====
section
/-! DEFINITION. The cell monitors, the ring and the pack trips (chapter 12). -/

namespace Sys2Proof.Machine

/-- A ring frame that passes its CRC (R457). -/
structure RingFrame where
  ftype : Nat
  addr : Nat
  back : Bool
  alive : Nat
  payload : List Nat
deriving DecidableEq, Repr

/-- Read a frame (R457-R459): none if its length or CRC is wrong or its type or address reserved. -/
def ringFrame (bs : List Nat) : Option RingFrame :=
  let n := bs.getD 2 0
  if bs.length ≠ 5 + n ∨ 24 < n then none
  else
    let t := bs.getD 0 0
    let ty := bits t 0 4
    let ad := bits t 4 3
    if crc16 (bs.take (3 + n)) ≠ bs.getD (3 + n) 0 + 256 * bs.getD (4 + n) 0 then none
    else if ty = 0 ∨ 7 ≤ ty ∨ ad = 5 ∨ ad = 6 then none
    else some { ftype := ty, addr := ad, back := bit t 7, alive := bits (bs.getD 1 0) 0 4, payload := (bs.drop 3).take n }

/-- The bytes of a frame (R457). -/
def ringBytes (ftype addr : Nat) (back : Bool) (alive : Nat) (payload : List Nat) : List Nat :=
  let h := [ftype + addr * 16 + cond back 128 0, alive % 16, payload.length] ++ payload
  let c := crc16 h
  h ++ [c % 256, c / 256 % 256]

/-- A monitor. -/
def mon (b : Body) (k : Nat) : Monitor := SMap.get b.cells.monitors (Monitor.reset k) k
/-- Update a monitor. -/
def updMon (k : Nat) (f : Monitor → Monitor) (b : Body) : Body :=
  { b with cells := { b.cells with monitors := SMap.put b.cells.monitors (Monitor.reset k) k (f (mon b k)) } }
/-- Update the ring master. -/
def updRing (f : RingMaster → RingMaster) (b : Body) : Body := { b with cells := { b.cells with ring := f b.cells.ring } }

/-- The master sends a frame from a port (0 F, 1 R). -/
def ringSend (port : Nat) (name : String) (ftype addr : Nat) (back : Bool) (payload : List Nat) (b : Body) : Body :=
  let r := b.cells.ring
  let a := ((if addr = 7 then r.txAll else SMap.get r.txOwn 0 addr) + 1) % 16
  let b := updRing (fun r => if addr = 7 then { r with txAll := a } else { r with txOwn := SMap.put r.txOwn 0 addr a }) b
  emit (.ring port name (ringBytes ftype addr back a payload)) b

/-- One frame that the master sends from both ports at once (R471, R478). -/
def ringSendBoth (name : String) (ftype : Nat) (payload : List Nat) (b : Body) : Body :=
  let a := (b.cells.ring.txAll + 1) % 16
  let bs := ringBytes ftype 7 false a payload
  emit (.ring 1 name bs) (emit (.ring 0 name bs) (updRing (fun r => { r with txAll := a }) b))

/-- A monitor sends a frame to the master toward a side (R458, R459). -/
def monSend (k port : Nat) (name : String) (ftype : Nat) (payload : List Nat) (b : Body) : Body :=
  let a := ((mon b k).tx + 1) % 16
  emit (.ring port name (ringBytes ftype 4 false a payload)) (updMon k (fun m => { m with tx := a }) b)

/-- A monitor receives a frame (R455, R459): one that wakes it is not acted on; a bad, repeated or backward one is discarded. -/
def monIn (k : Nat) (bs : List Nat) (act : RingFrame → Body → Body) (b : Body) : Body :=
  let m := mon b k
  if !m.awake then updMon k (fun m => { m with awake := true, strap := m.pins }) b
  else match ringFrame bs with
  | none => b
  | some f =>
    if f.addr ≠ 7 ∧ f.addr ≠ m.strap then b
    else
      let last := if f.addr = 7 then m.rxAll else m.rxOwn
      let b := updMon k (fun m => if f.addr = 7 then { m with rxAll := some f.alive } else { m with rxOwn := some f.alive }) b
      match last with
      | none => act f b
      | some l => match aliveCheck 4 l f.alive with
        | .inOrder => act f b
        | .skip => act f b
        | _ => b

/-- The master receives a frame of a monitor (R459). -/
def masterIn (k : Nat) (bs : List Nat) (act : RingFrame → Body → Body) (b : Body) : Body :=
  match ringFrame bs with
  | none => addSat b R.CMN_FRAME_ERR.crc 0 1
  | some f =>
    let last := SMap.get b.cells.ring.rx none k
    let b := updRing (fun r => { r with rx := SMap.put r.rx none k (some f.alive) }) b
    match last with
    | none => act f b
    | some l => match aliveCheck 4 l f.alive with
      | .inOrder => act f b
      | .skip => act f (addSat b R.CMN_FRAME_ERR.skip 0 1)
      | .repeated => addSat b R.CMN_FRAME_ERR.repeats 0 1
      | .backward => addSat b R.CMN_FRAME_ERR.backward 0 1

/-- The ring's mode. -/
def ringMode (b : Body) : Nat := getF b R.CMN_RING_STATUS.mode 0

/-- The ring changes mode (R478, R503): a change between ring and split is counted and logged. -/
def setRingMode (m : Nat) (b : Body) : Body :=
  let old := ringMode b
  if old = m then b
  else
    let b := setF b R.CMN_RING_STATUS.mode 0 m
    let b := if (old = 1 ∧ m = 2) ∨ (old = 2 ∧ m = 1) then addSat b R.CMN_FRAME_ERR2.breaks 0 1 else b
    raiseVec 23 (logRec 0x30 [2, BitVec.ofNat 8 m, BitVec.ofNat 8 (getF b R.CMN_RING_STATUS.break_seg 0)] b)

/-- A break is found (R474). -/
def ringBreak (b : Body) : Body := if ringMode b = 3 then b else setRingMode 2 b

/-- The master reads a monitor (R461, R474, R476). -/
def readMonitor (k : Nat) (fromR : Bool) (b : Body) : Body :=
  if 4 ≤ k then updRing (fun r => { r with reading := none }) b
  else ringSend (cond fromR 1 0) "READ" 3 k (ringMode b != 1) [] (updRing (fun r => { r with reading := some (k, fromR) }) b)

/-- A sweep starts (R461, R475, R478). -/
def sweepStart (b : Body) : Body :=
  if !flagF b R.CMN_CTRL.sweep_en 0 ∨ b.cells.ring.sweeping ∨ !b.cox.path.housekeeping then b
  else
    let byte := (getF b R.CMN_SWEEP_STATUS.sweep 0 + 1) % 256
    let b := updRing (fun r => { r with sweeping := true, byte := byte, data := [], fails := 0, second := false }) b
    let b := setF (setF b R.CMN_RING_STATUS.reach_f 0 0) R.CMN_RING_STATUS.reach_r 0 0
    let b := if 2 ≤ ringMode b then ringSendBoth "CONVERT" 2 [byte] b else ringSend 0 "CONVERT" 2 7 false [byte] b
    readMonitor 0 false b

/-- CONVERT is not back at R (R474, R475). -/
def convertTimeout (b : Body) : Body :=
  let r := b.cells.ring
  if !r.sweeping ∨ r.second ∨ 2 ≤ ringMode b then b
  else
    let b := addSat (ringBreak b) R.CMN_FRAME_ERR2.reverse_converts 0 1
    ringSend 1 "CONVERT" 2 7 false [r.byte] (updRing (fun r => { r with second := true }) b)

/-- A monitor takes a CONVERT (R461, R462, R472). -/
def cmConvert (k : Nat) (bs : List Nat) (reverse : Bool) (b : Body) : Body :=
  monIn k bs (fun f b =>
    if f.ftype ≠ 2 ∨ (mon b k).used = f.payload[0]? then b
    else updMon k (fun m => { m with used := f.payload[0]?, viaReverse := reverse, converted := false, inWindow := true, switches := 0
                                     heldMask := none }) b) b

/-- The conversion window begins (R462, R472). -/
def cmWindow (k : Nat) (x : CellSample) (b : Body) : Body :=
  if (mon b k).inWindow then updMon k (fun m => { m with sample := x }) b else b

/-- The window ends, and a held BALANCE applies (R471). -/
def cmWindowEnd (k : Nat) (b : Body) : Body :=
  if (mon b k).inWindow then
    updMon k (fun m => { m with inWindow := false, converted := true, switches := m.heldMask.getD m.switches, heldMask := none }) b
  else b

/-- The DATA payload of a monitor (R460). -/
def cmData (m : Monitor) : List Nat :=
  let x := m.sample
  (List.range 8).flatMap (fun i => [x.v.getD i 0 % 256, x.v.getD i 0 / 256 % 256])
    ++ [x.t0 % 256, x.t0 / 256 % 256, x.t1 % 256, x.t1 / 256 % 256]
    ++ [cond m.converted 1 0 + cond m.viaReverse 2 0 + cond x.ok 4 0 + cond m.alert 8 0 + m.strap % 4 * 16 + cond (x.closed != 0) 64 0,
        m.used.getD 0, x.dieC % 256, x.closed % 256]

/-- A monitor answers a READ (R457, R458). -/
def cmRead (k : Nat) (bs : List Nat) (fromR : Bool) (b : Body) : Body :=
  monIn k bs (fun f b => if f.ftype = 3 then monSend k (cond (fromR == f.back) 1 0) "DATA" 4 (cmData (mon b k)) b else b) b

/-- May a monitor close these switches (R470): its own parity only, no two neighbours? -/
def maskAllowed (byte bits_ : Nat) : Bool :=
  (List.range 8).all (fun i => !bit bits_ i || decide (i % 2 = byte % 2))

/-- A monitor receives a BALANCE (R470, R471). -/
def cmBalance (k : Nat) (bs : List Nat) (b : Body) : Body :=
  monIn k bs (fun f b =>
    let m := mon b k
    let own := f.payload.getD m.strap 0
    if f.ftype ≠ 5 ∨ m.used ≠ f.payload[4]? ∨ !maskAllowed (f.payload.getD 4 0) own then b
    else if m.inWindow then updMon k (fun m => { m with heldMask := some own }) b
    else updMon k (fun m => { m with switches := own }) b) b

/-- A monitor writes its entry into a passing ENUM (R458). -/
def cmEnum (k : Nat) (bs : List Nat) (fromR : Bool) (b : Body) : Body :=
  monIn k bs (fun f b =>
    if f.ftype ≠ 1 then b
    else
      let m := mon b k
      let hop := f.payload.getD 0 0
      let p := (f.payload.set (1 + hop) (m.strap % 4 + 4 + cond m.sample.ok 8 0)).set 0 (hop + 1)
      emit (.ring (cond fromR 0 1) "ENUM" (ringBytes 1 7 f.back f.alive p)) b) b

/-- A monitor sends ALERT in both directions (R458, R481). -/
def cmAlert (k bits_ cell : Nat) (b : Body) : Body :=
  let b := updMon k (fun m => { m with alert := true }) b
  monSend k 1 "ALERT" 6 [bits_, cell, 0, 0] (monSend k 0 "ALERT" 6 [bits_, cell, 0, 0] b)

/-- A pack trip acts (R480, R484): once each; the first is recorded with its cell or sensor. -/
def packTripAct (code item : Nat) (value : Int) (fault : Bool) (b : Body) : Body :=
  let t := getF b R.CMN_TRIP_STATUS.tripped 0
  if bit t (code - 0x20) then b
  else
    let b := setF b R.CMN_TRIP_STATUS.tripped 0 (setBit t (code - 0x20) true)
    let b := if t = 0 then setF b R.CMN_TRIP_STATUS.item 0 item else b
    let b := logRec 0x21 ([BitVec.ofNat 8 code, 3, 0, 0] ++ leBytes 4 (uint 32 value)) b
    let b := raiseVec 23 (logRec 0x30 [1, BitVec.ofNat 8 code, BitVec.ofNat 8 item] b)
    let b := if fault then packFault item b else b
    if power b = 9 ∨ b.cox.path.packOff then b else packOff b

/-- monitor_fault (R480, R481). -/
def monitorFault (item : Nat) (fault : Bool) (b : Body) : Body :=
  if b.cells.ring.evaluating then packTripAct 0x27 item 0 fault b else b

/-- The master receives an ALERT (R481, R485). -/
def alertIn (k : Nat) (bs : List Nat) (b : Body) : Body :=
  masterIn k bs (fun f b =>
    if f.ftype ≠ 6 then b
    else
      let x := f.payload.getD 0 0
      monitorFault (k * 8 + f.payload.getD 1 0 % 8) (bit x 0 || bit x 1) (setFlag b R.CMN_MON.alert k true)) b

/-- A monitor's strap changes while it is awake (R454). -/
def strapChange (k pins : Nat) (b : Body) : Body :=
  let b := updMon k (fun m => { m with pins := pins % 4 }) b
  if (mon b k).awake ∧ (mon b k).strap ≠ pins % 4 then
    monitorFault (k * 8) false (cmAlert k 8 0 (updMon k (fun m => { m with strap := pins % 4 }) b))
  else b

/-- The master receives DATA in answer to its READ (R459, R474, R476). -/
def dataIn (k : Nat) (fromR : Bool) (bs : List Nat) (b : Body) : Body :=
  masterIn k bs (fun f b =>
    if f.ftype ≠ 4 ∨ f.payload.length ≠ 24 ∨ b.cells.ring.reading ≠ some (k, fromR) then b
    else
      let b := updRing (fun r => { r with data := SMap.put r.data [] k f.payload, fails := 0 }) b
      let b := if fromR then setF b R.CMN_RING_STATUS.reach_r 0 (setBit (getF b R.CMN_RING_STATUS.reach_r 0) k true)
        else setF b R.CMN_RING_STATUS.reach_f 0 (setBit (getF b R.CMN_RING_STATUS.reach_f 0) k true)
      let x := f.payload.getD 20 0
      let b := if !bit x 2 ∨ bits x 4 2 ≠ k then monitorFault (k * 8) false b else b
      readMonitor (k + 1) fromR b) b

/-- A READ slot fails (R474, R476). -/
def readTimeout (b : Body) : Body :=
  match b.cells.ring.reading with
  | none => b
  | some (k, fromR) =>
    let b := addSat b R.CMN_FRAME_ERR2.timeout 0 1
    if ringMode b ≤ 1 then
      if b.cells.ring.fails = 0 then readMonitor k false (updRing (fun r => { r with fails := 1 }) b)
      else readMonitor k false (updRing (fun r => { r with fails := 0 }) (ringBreak b))
    else if fromR then readMonitor (k + 1) true b
    else readMonitor k true b

/-- A byte of a DATA payload. -/
def dataByte (b : Body) (k i : Nat) : Nat := (SMap.get b.cells.ring.data [] k).getD i 0
/-- A little-endian word of a DATA payload. -/
def dataWord (b : Body) (k i : Nat) : Nat := dataByte b k i + 256 * dataByte b k (i + 1)

/-- The skew of a monitor's window in µs (R462, R475): 40 for those that used the second CONVERT of a broken sweep. -/
def skewOf (b : Body) (k : Nat) : Nat := if b.cells.ring.second && bit (dataByte b k 20) 1 then 40 else 0

/-- Is the sweep valid (R463)? -/
def sweepValid (b : Body) : Bool :=
  (List.range 4).all (fun k => (SMap.get b.cells.ring.data [] k).length == 24 && bit (dataByte b k 20) 0 && bit (dataByte b k 20) 2
    && decide (bits (dataByte b k 20) 4 2 = k) && dataByte b k 21 == b.cells.ring.byte && decide (skewOf b k ≤ 100))

/-- The compensated voltage in 100 µV (R466), rounded to nearest-even. -/
def compensate (raw : Nat) (ma : Int) (uohm : Nat) : Nat :=
  min 65535 (max 0 ((raw : Int) + rneDiv (ma * uohm) 100000)).toNat

/-- A cell's readings, temperatures, monitor bytes, sums, extremes and skews are written together (R464-R467, R472). -/
def writeReadings (ma : Int) (b : Body) : Body :=
  let b := forEach (List.range 32) (fun i b =>
    let raw := dataWord b (i / 8) (2 * (i % 8))
    setF (setF b R.CMN_CELL_V.v_raw i raw) R.CMN_CELL_V.v i (compensate raw ma (getF b R.CMN_RCELL.r_uohm i))) b
  let b := forEach (List.range 4) (fun k b =>
    let t0 := dataWord b k 16
    let t1 := dataWord b k 18
    let out := fun (t : Nat) => decide (sint 16 t < -4500 ∨ 13000 < sint 16 t)
    let far := decide (2000 < (sint 16 t0 - sint 16 t1).natAbs) && !out t0 && !out t1
    let b := setFlag (setF b R.CMN_TEMP.t (2 * k) t0) R.CMN_TEMP.fault (2 * k) (out t0 || far)
    let b := setFlag (setF b R.CMN_TEMP.t (2 * k + 1) t1) R.CMN_TEMP.fault (2 * k + 1) (out t1 || far)
    let x := dataByte b k 20
    let b := setF (setF b R.CMN_MON.die_c k (dataByte b k 22)) R.CMN_MON.bleed_on k (dataByte b k 23)
    let b := setFlag (setFlag b R.CMN_MON.self_check_ok k (bit x 2)) R.CMN_MON.via_reverse k (bit x 1)
    let b := setF (setFlag b R.CMN_MON.alert k false) R.CMN_MON.strap k (bits x 4 2)
    setF b R.CMN_BAL_FAULT.stuck 0 (Nat.lor (getF b R.CMN_BAL_FAULT.stuck 0) (dataByte b k 23 * 2 ^ (8 * k)))) b
  let v := fun (i : Nat) => getF b R.CMN_CELL_V.v i
  let best := fun (better : Nat → Nat → Bool) => (List.range 32).foldl (fun acc i => if better (v i) (v acc) then i else acc) 0
  let hi := best (fun x y => decide (y < x))
  let lo := best (fun x y => decide (x < y))
  let b := setF (setF (setF b R.CMN_EXTREMES.max_cell 0 hi) R.CMN_EXTREMES.min_cell 0 lo) R.CMN_EXTREMES.spread 0 (v hi - v lo)
  let sum := ((List.range 32).map (fun i => getF b R.CMN_CELL_V.v_raw i)).foldl (· + ·) 0
  let b := setF (setF b R.CMN_PACK.sum_mv 0 (sum / 10)) R.CMN_PACK_I.ma 0 (uint 32 ma)
  let b := setF (setF b R.CMN_SWEEP_SKEW.skew_0 0 (skewOf b 0)) R.CMN_SWEEP_SKEW.skew_1 0 (skewOf b 1)
  let b := setF (setF b R.CMN_SWEEP_SKEW.skew_2 0 (skewOf b 2)) R.CMN_SWEEP_SKEW.skew_3 0 (skewOf b 3)
  let b := setFlag b R.CMN_SWEEP_STATUS.skewed 0 ((List.range 4).any (fun k => skewOf b k != 0))
  updRing (fun r => { r with maxUpper := ((List.range 32).map (upperReading b)).foldl max 0
                             minLower := ((List.range 32).map (lowerReading b)).foldl min 65535 }) b

/-- The stop lines after a valid sweep (R468). -/
def stopLines (b : Body) : Body :=
  let hi := b.cells.ring.maxUpper
  let lo := b.cells.ring.minLower
  let chg := decide (37900 ≤ hi) || (flagF b R.CMN_LIMITS.chg_stop 0 && !flagF b R.CMN_LIMITS.stale_inhibit 0 && decide (37800 < hi))
  let dis := b.cox.path.recovery || decide (lo ≤ 25100)
    || (flagF b R.CMN_LIMITS.dis_stop 0 && !flagF b R.CMN_LIMITS.stale_inhibit 0 && decide (lo < 25200))
  portLimits (setFlag (setFlag (setFlag b R.CMN_LIMITS.chg_stop 0 chg) R.CMN_LIMITS.dis_stop 0 dis) R.CMN_LIMITS.stale_inhibit 0 false)

/-- The first index with a property. -/
def firstIx (n : Nat) (f : Nat → Bool) : Option Nat := (List.range n).find? f

/-- The conditions of the counted pack trips (R480): code, delay in sweeps, the cell or sensor where it holds, the value in
thousandths, whether a pack fault follows. The sum is compared while the contactors are closed (log entry 38). -/
def tripConditions (b : Body) : List (Nat × Nat × Option Nat × Int × Bool) :=
  let ov := getF b R.CMN_TRIP_CFG0.cell_ov_mv 0 * 10
  let uv := getF b R.CMN_TRIP_CFG0.cell_uv_mv 0 * 10
  let ot : Int := getF b R.CMN_TRIP_CFG1.cell_ot_c 0 * 100
  let ut := sint 8 (getF b R.CMN_TRIP_CFG1.cell_ut_c 0) * 100
  let temp := fun (j : Nat) => sint 16 (getF b R.CMN_TEMP.t j)
  let ok := fun (j : Nat) => !flagF b R.CMN_TEMP.fault j
  let at_ := fun (i : Option Nat) (f : Nat → Int) => (i.map f).getD 0
  let a := firstIx 32 (fun i => decide (ov < upperReading b i))
  let c := if b.cox.path.recovery then none else firstIx 32 (fun i => decide (lowerReading b i < uv))
  let d := firstIx 32 (fun i => decide (lowerReading b i < 22000))
  let e := firstIx 8 (fun j => ok j && decide (ot < temp j))
  let f := firstIx 8 (fun j => ok j && decide (temp j < ut))
  let spread := getF b R.CMN_EXTREMES.spread 0
  let g := if getF b R.CMN_TRIP_CFG1.spread_mv 0 * 10 < spread then some (getF b R.CMN_EXTREMES.max_cell 0) else none
  let h := firstIx 8 (fun j => !ok j)
  let sum : Int := getF b R.CMN_PACK.sum_mv 0
  let packMv : Int := getF b R.STP_PACK_V.mv 0
  let k := if getF b R.STP_STATUS.state 0 = 2 ∧ 1000 < (sum - packMv).natAbs then some 0 else none
  [(0x20, 2, a, at_ a (fun i => ((upperReading b i / 10 : Nat) : Int)), false), (0x21, 2, c, at_ c (fun i => ((lowerReading b i / 10 : Nat) : Int)), false),
   (0x22, 1, d, at_ d (fun i => ((lowerReading b i / 10 : Nat) : Int)), true), (0x23, 3, e, at_ e (fun j => temp j * 10), false),
   (0x24, 3, f, at_ f (fun j => temp j * 10), false), (0x25, 1000, g, ((spread / 10 : Nat) : Int), false),
   (0x26, 3, h, at_ h (fun j => temp j * 10), false), (0x27, 3, k, sum - packMv, false)]

/-- Count the conditions of a valid sweep and act (R480, R481). -/
def evalTrips (b : Body) : Body :=
  forEach (tripConditions b) (fun x b =>
    let n := if x.2.2.1.isSome then SMap.get b.cells.ring.counts 0 x.1 + 1 else 0
    let b := updRing (fun r => { r with counts := SMap.put r.counts 0 x.1 (min n x.2.1) }) b
    if x.2.1 ≤ n then packTripAct x.1 (x.2.2.1.getD 0) x.2.2.2.1 x.2.2.2.2 b else b) b

/-- The temperature that stands for a cell's sensor (R467, R469): the other sensor of its monitor where its own is faulted. -/
def cellTemp (b : Body) (i : Nat) : Option Int :=
  let j := i / 4
  let o := if j % 2 = 0 then j + 1 else j - 1
  if !flagF b R.CMN_TEMP.fault j then some (sint 16 (getF b R.CMN_TEMP.t j))
  else if !flagF b R.CMN_TEMP.fault o then some (sint 16 (getF b R.CMN_TEMP.t o))
  else none

/-- Is a reading left out of the mask (R472): a cell whose switch is found closed, or a neighbour of one? -/
def bleedMarked (b : Body) (i : Nat) : Bool :=
  let on := fun (c : Nat) => bit (getF b R.CMN_MON.bleed_on (c / 8)) (c % 8)
  on i || (decide (0 < i) && on (i - 1)) || (decide (i < 31) && on (i + 1))

/-- The balancing mask of a valid sweep (R469, R472). -/
def balanceMask (b : Body) : Nat :=
  if getF b R.CMN_BAL_POLICY.mode 0 ≠ 1 ∨ (power b ≠ 7 ∧ power b ≠ 8 ∧ power b ≠ 11) ∨ b.cox.path.recovery then 0
  else
    let used := (List.range 32).filter (fun i => !bleedMarked b i)
    let vmin := (used.map (fun i => getF b R.CMN_CELL_V.v i)).foldl min 65535
    let old := getF b R.CMN_BAL_MASK.mask 0
    let thr := getF b R.CMN_BAL_POLICY.threshold_mv 0
    let cand := fun (i : Nat) =>
      let lim := if bit old i then thr - getF b R.CMN_BAL_POLICY.hyst_mv 0 else thr
      let v := getF b R.CMN_CELL_V.v i
      decide (getF b R.CMN_BAL_POLICY.min_mv 0 * 10 ≤ v ∧ vmin + lim * 10 < v) && !bit (getF b R.CMN_BAL_FAULT.stuck 0) i
        && (match cellTemp b i with
            | some t => decide (t ≤ getF b R.CMN_BAL_POLICY.temp_max_c 0 * 100)
            | none => false)
    (used.filter (fun i => i % 2 == b.cells.ring.byte % 2 && cand i)).foldl (fun m i => setBit m i true) 0

/-- The mask goes out (R471, R477). -/
def sendBalance (mask : Nat) (b : Body) : Body :=
  let p := [mask % 256, mask / 2 ^ 8 % 256, mask / 2 ^ 16 % 256, mask / 2 ^ 24 % 256, b.cells.ring.byte]
  let b := setF b R.CMN_BAL_MASK.mask 0 mask
  if 2 ≤ ringMode b then ringSendBoth "BALANCE" 5 p b else ringSend 0 "BALANCE" 5 7 false p b

/-- ENUM goes out at F (R458, R482). -/
def sendEnum (b : Body) : Body := ringSend 0 "ENUM" 1 7 false [0, 0, 0, 0, 0] b

/-- Did an ENUM return whole and in order (R478, R482)? -/
def enumGood (bs : List Nat) : Bool :=
  match ringFrame bs with
  | none => false
  | some f => f.ftype == 1 && f.payload.getD 0 0 == 4
      && (List.range 4).all (fun k => let x := f.payload.getD (1 + k) 0
                                      decide (bits x 0 2 = k) && bit x 2 && bit x 3)

/-- An ENUM has gone round, or not (R474, R482): a ring not yet enumerated takes its mode from it. -/
def enumBack (bs : List Nat) (b : Body) : Body :=
  if enumGood bs then
    let b := setFlag b R.CMN_RING_STATUS.addr_ok 0 true
    if ringMode b = 0 then setRingMode 1 b else b
  else if ringMode b ≤ 1 then setRingMode 2 b else b

/-- Where the ring is broken, by the monitors each port reached (R476, R479, R485). -/
def placeBreak (b : Body) : Body :=
  if ringMode b < 2 then b
  else
    let f := getF b R.CMN_RING_STATUS.reach_f 0
    let r := getF b R.CMN_RING_STATUS.reach_r 0
    let n := ((List.range 4).filter (bit f)).length
    if (List.range 4).all (fun k => bit f k || bit r k) then setRingMode 2 (setF b R.CMN_RING_STATUS.break_seg 0 n)
    else setRingMode 3 (setF b R.CMN_RING_STATUS.break_seg 0 7)

/-- The end of a sweep (R461-R469, R480, R484): `ma` is the mean pack current over the voltage window, `dur` the sweep's length in
units of 10 µs. -/
def sweepEnd (ma : Int) (dur : Nat) (b : Body) : Body :=
  if !b.cells.ring.sweeping ∨ b.cells.ring.reading.isSome then b
  else
    let valid := sweepValid b
    let b := placeBreak b
    let b := setF b R.CMN_SWEEP_STATUS.sweep 0 (getF b R.CMN_SWEEP_STATUS.sweep 0 + 1)
    let b := setF (setFlag b R.CMN_SWEEP_STATUS.valid 0 valid) R.CMN_SWEEP_STATUS.duration 0 dur
    let b := updRing (fun r => { r with sweeping := false, sinceProbe := r.sinceProbe + 1 }) b
    let b := if valid then
        let b := setFlag (writeReadings ma b) R.CMN_SWEEP_STATUS.stale 0 false
        let b := updLedger (fun l => { l with sweepAt := b.now }) b
        let b := stopLines b
        let b := updRing (fun r => { r with evaluating := r.evaluating || decide (4 ≤ power b ∧ power b ≠ 9) }) b
        let b := if b.cells.ring.evaluating then evalTrips b else b
        sendBalance (balanceMask b) b
      else sendBalance 0 b
    if b.cells.ring.enumAsked then
      sendEnum (updRing (fun r => { r with enumAsked := false, enumRepeat := true }) b)
    else b

/-- No valid sweep for 500 ms (R480). -/
def ringLost (b : Body) : Body := if b.cells.ring.evaluating then packTripAct 0x28 0 0 false b else b

/-- No valid sweep for 100 ms (R464, R468). -/
def sweepStale (b : Body) : Body :=
  let b := setFlag b R.CMN_SWEEP_STATUS.stale 0 true
  let chg := !flagF b R.CMN_LIMITS.chg_stop 0 && decide (37500 ≤ b.cells.ring.maxUpper)
  let dis := !flagF b R.CMN_LIMITS.dis_stop 0 && decide (b.cells.ring.minLower ≤ 25500)
  let b := if chg then setFlag b R.CMN_LIMITS.chg_stop 0 true else b
  let b := if dis then setFlag b R.CMN_LIMITS.dis_stop 0 true else b
  portLimits (setFlag b R.CMN_LIMITS.stale_inhibit 0 (chg || dis || flagF b R.CMN_LIMITS.stale_inhibit 0))

/-- The probe of a split ring (R478): `ret` is the frame that comes back at R. -/
def enumProbe (ret : List Nat) (b : Body) : Body :=
  if ringMode b < 2 ∨ b.cells.ring.sweeping ∨ b.cells.ring.sinceProbe < 100 then b
  else
    let b := sendEnum (updRing (fun r => { r with sinceProbe := 0 }) b)
    if enumGood ret then setRingMode 1 (setF b R.CMN_RING_STATUS.break_seg 0 7) else b

/-- Does a Shepherd's write reach the ring master (R483)? -/
def ringWriter (who : Requester) (f : Body → Body) (b : Body) : Body :=
  match who with
  | .shepherdA => if getF b R.COX_STATUS.writer 0 = 0 then f b else b
  | .shepherdB => if getF b R.COX_STATUS.writer 0 = 1 then f b else b
  | _ => b

/-- CMN_CTRL.enum is written (R482, R484): firmware has written the cell resistances; ENUM waits for a sweep in progress. -/
def enumWrite (ret : List Nat) (b : Body) : Body :=
  let b := forEach (List.range 32) (fun i b => setF b R.CMN_RCELL.r_uohm i (Config.cellResistance i)) b
  if b.cells.ring.sweeping then updRing (fun r => { r with enumAsked := true }) b
  else enumBack ret (sendEnum (updRing (fun r => { r with enumRepeat := true }) b))

/-- The master repeats ENUM (R482). -/
def enumAgain (ret : List Nat) (b : Body) : Body :=
  if b.cells.ring.enumRepeat ∧ !b.cells.ring.sweeping then enumBack ret (sendEnum (updRing (fun r => { r with enumRepeat := false }) b)) else b

/-- A cell monitor. -/
def isMon (k : Nat) : Bool := decide (k < 4)

/-- SWEEP_START (R461). -/
def execSweepStart (s : State) : Host.Outcome State Fault Refusal := lift sweepStart s
/-- CM_CONVERT (R462). -/
def execCmConvert (k : Nat) (frame : List Nat) (reverse : Bool) (s : State) : Host.Outcome State Fault Refusal :=
  onUnit (isMon k) (cmConvert k frame reverse) s
/-- CM_CONVERSION_WINDOW (R462). -/
def execCmConversionWindow (k : Nat) (x : CellSample) (s : State) : Host.Outcome State Fault Refusal := onUnit (isMon k) (cmWindow k x) s
/-- CM_WINDOW_END (R471). -/
def execCmWindowEnd (k : Nat) (s : State) : Host.Outcome State Fault Refusal := onUnit (isMon k) (cmWindowEnd k) s
/-- CM_READ (R458). -/
def execCmRead (k : Nat) (frame : List Nat) (fromR : Bool) (s : State) : Host.Outcome State Fault Refusal := onUnit (isMon k) (cmRead k frame fromR) s
/-- CM_DATA (R460). -/
def execCmData (k : Nat) (fromR : Bool) (frame : List Nat) (s : State) : Host.Outcome State Fault Refusal := onUnit (isMon k) (dataIn k fromR frame) s
/-- CM_BALANCE (R470, R471). -/
def execCmBalance (k : Nat) (frame : List Nat) (s : State) : Host.Outcome State Fault Refusal := onUnit (isMon k) (cmBalance k frame) s
/-- CM_ENUM (R458). -/
def execCmEnum (k : Nat) (frame : List Nat) (fromR : Bool) (s : State) : Host.Outcome State Fault Refusal := onUnit (isMon k) (cmEnum k frame fromR) s
/-- CM_ALERT (R481). -/
def execCmAlert (k : Nat) (frame : List Nat) (s : State) : Host.Outcome State Fault Refusal := onUnit (isMon k) (alertIn k frame) s
/-- CM_CELL_LIMIT_CROSS (R481). -/
def execCmCellLimitCross (k cell : Nat) (above : Bool) (s : State) : Host.Outcome State Fault Refusal :=
  onUnit (isMon k) (cmAlert k (cond above 1 2) (cell % 8)) s
/-- CM_STRAP_CHANGE (R454). -/
def execCmStrapChange (k pins : Nat) (s : State) : Host.Outcome State Fault Refusal := onUnit (isMon k) (strapChange k pins) s
/-- CM_SLEEP (R455). -/
def execCmSleep (k : Nat) (s : State) : Host.Outcome State Fault Refusal :=
  onUnit (isMon k) (updMon k (fun m => { m with awake := false, switches := 0, heldMask := none })) s
/-- CM_CONVERT_TIMEOUT (R471). -/
def execCmConvertTimeout (k : Nat) (s : State) : Host.Outcome State Fault Refusal := onUnit (isMon k) (updMon k (fun m => { m with switches := 0 })) s
/-- RING_CONVERT_TIMEOUT (R475). -/
def execRingConvertTimeout (s : State) : Host.Outcome State Fault Refusal := lift convertTimeout s
/-- RING_READ_TIMEOUT (R474). -/
def execRingReadTimeout (s : State) : Host.Outcome State Fault Refusal := lift readTimeout s
/-- SWEEP_END (R463). -/
def execSweepEnd (ma : Int) (dur : Nat) (s : State) : Host.Outcome State Fault Refusal := lift (sweepEnd ma dur) s
/-- RING_LOST (R480). -/
def execRingLost (s : State) : Host.Outcome State Fault Refusal := lift ringLost s
/-- SWEEP_STALE (R464). -/
def execSweepStale (s : State) : Host.Outcome State Fault Refusal := lift sweepStale s
/-- RING_ENUM_PROBE (R478). -/
def execRingEnumProbe (ret : List Nat) (s : State) : Host.Outcome State Fault Refusal := lift (enumProbe ret) s
/-- CMN_ENUM (R482, R483). -/
def execCmnEnum (who : Requester) (ret : List Nat) (s : State) : Host.Outcome State Fault Refusal := lift (ringWriter who (enumWrite ret)) s
/-- ENUM_REPEAT (R482). -/
def execEnumRepeat (ret : List Nat) (s : State) : Host.Outcome State Fault Refusal := lift (enumAgain ret) s
/-- MONITOR_RESET (R479). -/
def execMonitorReset (k : Nat) (s : State) : Host.Outcome State Fault Refusal :=
  onUnit (isMon k) (updMon k (fun m => { Monitor.reset k with pins := m.pins, strap := m.pins, awake := true })) s

end Sys2Proof.Machine
end

