-- ==== Sys2Proof/Machine/Cox.lean ====
section
/-! DEFINITION. The commands of the Cox engines (R367-R417). -/

namespace Sys2Proof.Machine

/-- A write to an engine acts only if it comes from the Shepherd that the engine names (R406, R411). -/
def coxWriter (who : Requester) (e : Nat) (f : Body → Body) (b : Body) : Body :=
  let from_ := fun (n : Nat) => if getF b R.COX_STATUS.writer e = n then f b else setFlag b R.COX_EVENTS.write_refused e true
  match who with
  | .shepherdA => from_ 0
  | .shepherdB => from_ 1
  | _ => b

/-- The record of an event of an engine (R401, R591). -/
def coxRecord (e l kind : Nat) (b : Body) : Body := logRec 0x24 [BitVec.ofNat 8 e, BitVec.ofNat 8 l, BitVec.ofNat 8 kind] b

/-- A loop's block stops by supervision (R401). -/
def superviseBlock (e l : Nat) (b : Body) : Body :=
  match slotBlock e l with
  | some k => railsProgress (blockLatch 0 k b)
  | none => b

/-- The 40 A limit of the port or the frozen ceiling of a die applies (R389, R402). -/
def thermalFreeze (e : Nat) (b : Body) : Body :=
  ceilingsChanged e (updLoop e 4 (fun s => { s with good := 0 }) (updEngine e (fun g => { g with thermalFrozen := true }) b))

/-- Soft-start of a loop's generator ends (R403). -/
def softAbort (e l : Nat) (b : Body) : Body :=
  match loopPg b e l with
  | some k => coxRecord e l 4 (loopFlag R.COX_LOOP_FLAGS.softstart_abort e l true (setFlag b R.COX_PG_CTRL.hold (pix e k) true))
  | none => b

/-- The action of R401 for a loop; `sat` marks a saturation event, `soft` a loop in soft-start. -/
def superviseAct (e l : Nat) (sat soft : Bool) (b : Body) : Body :=
  match loopKind b e l with
  | 0 => superviseBlock e l b
  | 2 => thermalFreeze e b
  | 4 => if e = 16 then (if sat ∧ !soft then b else moduleStop b) else if sat then b else moduleStop b
  | 5 => packOff b
  | 6 => connectFail b
  | _ => b

/-- The saturation count at which a loop raises its event: shorter in soft-start for a rail (R399, R401), at 500 kHz. -/
def satLimit (b : Body) (e l : Nat) : Nat :=
  if loopSoft b e l ∧ loopKind b e l = 0 then min 25 (getF b R.COX_SUP_CFG.sat_time (lix e l)) else getF b R.COX_SUP_CFG.sat_time (lix e l)

/-- A sat_time event (R399, R401, R403). -/
def satEvent (e l : Nat) (b : Body) : Body :=
  let i := lix e l
  if getF b R.COX_LOOP_CFG.sup_sel i % 2 = 1 ∧ loopMode b e l = 2 ∧ satLimit b e l ≤ getF b R.COX_SUP_STATUS.sat_count i then
    let soft := loopSoft b e l
    let b := coxRecord e l 1 (loopFlag R.COX_LOOP_FLAGS.sat_time e l true b)
    superviseAct e l true soft (if soft then softAbort e l b else b)
  else b

/-- A plaus event (R400, R401). -/
def plausEvent (e l : Nat) (b : Body) : Body :=
  let i := lix e l
  if 2 ≤ getF b R.COX_LOOP_CFG.sup_sel i ∧ loopMode b e l = 2 ∧ getF b R.COX_SUP_CFG2.plaus_time i ≤ getF b R.COX_SUP_STATUS.plaus_count i then
    superviseAct e l false (loopSoft b e l) (coxRecord e l 2 (loopFlag R.COX_LOOP_FLAGS.plaus e l true b))
  else b

/-- The mean of the outputs a loop last applied (R402). -/
def meanOut (b : Body) (e l : Nat) : Nat :=
  let h := (loop b e l).hist
  if h.isEmpty then getF b R.COX_LOOP_OUT.out (lix e l)
  else sRat (getF b R.COX_LOOP_EXP.exp_out (lix e l)) ((h.map bfZ).foldl (· + ·) 0) h.length

/-- A sample has been frozen for 3 periods (R402, R403); `m` is the member of a balance loop. -/
def frozenSample (e l m : Nat) (fallbackFresh : Bool) (b : Body) : Body :=
  let i := lix e l
  if loopMode b e l ≠ 2 ∨ (loop b e l).stale < 3 then b
  else if loopSoft b e l then
    superviseAct e l false true (softAbort e l (coxRecord e l 3 (loopFlag R.COX_LOOP_FLAGS.frozen e l true b)))
  else match loopKind b e l with
  | 1 => if e = 16 then coxRecord e l 3 (loopFlag R.COX_LOOP_FLAGS.frozen e l true b) else phaseRemove e l m b
  | 2 => thermalFreeze e (loopFlag R.COX_LOOP_FLAGS.frozen e l true b)
  | _ =>
    if hasFallback b e l ∧ fallbackFresh ∧ !flagF b R.COX_LOOP_CFG.sense_fallback i then
      let b := loopFlag R.COX_LOOP_FLAGS.fallback_sense e l true (setFlag b R.COX_LOOP_CFG.sense_fallback i true)
      let b := updLoop e l (fun s => { s with held := none, heldFor := 0, preset := some (getF b R.COX_LOOP_OUT.out i) }) b
      if shedEngines.contains e ∧ l = 0 then abortShed e b else b
    else if (loop b e l).held.isSome ∨ (flagF b R.COX_LOOP_CFG.sense_fallback i ∧ fallbackFresh) then b
    else
      let out := meanOut b e l
      let b := updLoop e l (fun s => { s with held := some out, heldFor := 0 }) (loopFlag R.COX_LOOP_FLAGS.frozen e l true b)
      let b := setF b R.COX_LOOP_MODE.state i 4
      if shedEngines.contains e ∧ l = 0 then abortShed e b else b

/-- No sense has become fresh within frozen_hold (R402). -/
def frozenExpire (e l : Nat) (b : Body) : Body :=
  if (loop b e l).held.isSome ∧ getF b R.COX_SUP_CFG2.frozen_hold (lix e l) ≤ (loop b e l).heldFor then
    superviseAct e l false (loopSoft b e l) (coxRecord e l 3 b)
  else b

/-- The self-check stops an engine (R405). -/
def selfCheckStop (e l : Nat) (b : Body) : Body :=
  let b := coxRecord e l 6 (setFlag b R.COX_STATUS.self_check e true)
  if e = 16 then inputOff b else if e = 17 then moduleStop b
  else railsProgress (forEach (engineBlocks e) (blockLatch 0) b)

/-- A thermal loop whose samples have been fresh and plausible for 1 s (100 periods) lifts its frozen limit (R401, R402). -/
def thermalGood (e l : Nat) (fresh : Bool) (b : Body) : Body :=
  if loopKind b e l ≠ 2 then b
  else
    let ok := fresh && !bfLt (getF b R.COX_PLAUS_THR.thr (lix e l)) (getF b R.COX_PLAUS_RES.res (lix e l))
    let b := updLoop e l (fun s => { s with good := if ok then s.good + 1 else 0 }) b
    if (engine b e).thermalFrozen ∧ 100 ≤ (loop b e l).good then
      ceilingsChanged e (updEngine e (fun g => { g with thermalFrozen := false }) b)
    else b

/-- The input has fallen to the cap (R394, R412, R503). -/
def capReached (e l : Nat) (b : Body) : Body :=
  let cap := getF b R.COX_CAP.cap_w 16
  if e = 16 ∧ l = 0 ∧ cap ≠ 0 ∧ !flagF b R.COX_CAP.reached 16 ∧ bfLe (getF b R.COX_LOOP_FB.fb (lix 16 0)) (bfRat cap 1) then
    raiseVec 22 (setFlag b R.COX_CAP.reached 16 true)
  else b

/-- A period of a loop (R372, R402, R404, R405). -/
def loopPeriod (e l : Nat) (x : LoopSample) (b : Body) : Body :=
  if !engineRuns b e ∨ !slotPresent b e l then b
  else if x.mismatch then
    if (loop b e l).mismatch then selfCheckStop e l b
    else updLoop e l (fun s => { s with mismatch := true }) (setFlag b R.COX_EVENTS.self_check_mismatch e true)
  else
    let b := updLoop e l (fun s => { s with mismatch := false }) b
    let b := noteDelay e l x.delay (runMode e l x (notePort e l (nth x.primary 0) (noteFresh e l x b)))
    let b := thermalGood e l x.fresh (capReached e l b)
    let b := if e = 17 ∧ l ≠ 2 then portLimits b else b
    if loopKind b e l = 2 then ceilingsChanged e b else b

/-- A tick of a generator. -/
def generatorTick (e k : Nat) (b : Body) : Body :=
  if engineRuns b e then (if e = 16 ∧ k = 0 then noteWindow 0 (pgTick e k b) else pgTick e k b) else b

/-- A soft-start is complete (R380, R382, R649, R650, R657). -/
def softDone (e k : Nat) (b : Body) : Body :=
  if !softStarting b e k ∨ flagF b R.COX_PG_CTRL.hold (pix e k) then b
  else
    let b := setFlag b R.COX_PG_CTRL.done (pix e k) true
    let b := forEach ((List.range 16).filter (fun l => loopPg b e l == some k)) (fun l b => updLoop e l (fun s => { s with release := 10 }) b) b
    if e = 16 ∧ k = 0 ∧ power b = 3 then
      let b := stepDone 3 b
      if b.cox.path.packOff ∨ flagF b R.STP_STATUS.pack_fault 0 then enterNoPack b else setPower 4 ((b.trust.balance.map (fun p => writeBalance p b)).getD b)
    else railsProgress b

/-- The catch-warning inhibition lapses for want of a catch (R383). -/
def warnTimeout (e : Nat) (b : Body) : Body :=
  if (engine b e).warnAt.isNone then b
  else
    let b := setFlag (setFlag b R.COX_EVENTS.warn_expired e true) R.COX_STATUS.inhibit e false
    updEngine e (fun g => { g with warnAt := none }) b

/-- The inhibition lapses holdoff_us after feather rises, unless another warning stands (R383). -/
def holdoffExpire (e : Nat) (b : Body) : Body :=
  if (engine b e).featherAt.isNone then b
  else
    let b := updEngine e (fun g => { g with featherAt := none }) b
    if (engine b e).warnAt.isSome then b else setFlag b R.COX_STATUS.inhibit e false

/-- A shed starts (R385, R386): the total current in mA stays below the shed threshold. -/
def shedStart (e ma : Nat) (b : Body) : Body :=
  let run := runningPhases b e 0
  let n := run.length
  if shedAllowed b e ∧ (engine b e).shedPhase.isNone ∧ 2 ≤ n ∧ getF b R.COX_SHED_CFG.min_phases e ≤ n - 1
      ∧ ma * 100 < (n - 1) * phaseRating e 0 * 1000 * getF b R.COX_SHED_THR.shed_pct e then
    setFlag (updEngine e (fun g => { g with shedPhase := run.getLast? }) b) R.COX_SHED_STATUS.shedding e true
  else b

/-- The shed phase stops (R385). -/
def shedComplete (e : Nat) (b : Body) : Body :=
  match (engine b e).shedPhase with
  | none => b
  | some p =>
    let b := setRunning e ((runningPhases b e 0).filter (fun q => q != p)) b
    addSat (setFlag (updEngine e (fun g => { g with shedPhase := none }) b) R.COX_SHED_STATUS.shedding e false) R.COX_SHED_COUNT.sheds e 1

/-- A stopped phase is re-added (R385). -/
def phaseReadd (e ma : Nat) (b : Body) : Body :=
  let run := runningPhases b e 0
  match (allPhases b e).find? (fun p => !run.contains p) with
  | none => b
  | some p =>
    if run.length * phaseRating e 0 * 1000 * getF b R.COX_SHED_THR.add_pct e < ma * 100 then
      setRunning e ((allPhases b e).filter (fun q => q == p || run.contains q)) b
    else b

/-- A step is detected (R386, R387). -/
def stepDetected (e : Nat) (b : Body) : Body :=
  let aborted := (engine b e).shedPhase.isSome
  let b := abortShed e b
  let b := if aborted then updEngine e (fun g => { g with stepAt := some b.now }) b else b
  let b := setRunning e (allPhases b e) (setFlag b R.COX_EVENTS.shed_abort e true)
  loopFlag R.COX_LOOP_FLAGS.shed_abort e 0 true b

/-- The forced ceiling is written (R389, R412). -/
def clkForce (e code : Nat) (b : Body) : Body :=
  if 16 ≤ e ∨ code < 80 ∨ 380 < code then b else ceilingsChanged e (setF b R.COX_CLK_CEIL.force e code)

/-- A telemetry window ends on a channel (R407). -/
def tlmChannel (e window : Nat) (x : TlmWindow) (b : Body) : Body :=
  let i := e * 64 + x.channel
  if 64 ≤ x.channel ∨ !flagF b R.COX_TLM_ID.present i then b
  else if window = 1 then setF b R.COX_TLM_AVG100MS.avg i x.avg
  else if window = 2 then setF b R.COX_TLM_AVG1S.avg i x.avg
  else
    let lower := fun (p q : Nat) => if sint 32 p ≤ sint 32 q then p else q
    let b := setF b R.COX_TLM_AVG1MS.avg i x.avg
    let b := setF b R.COX_TLM_MIN.min i (lower (getF b R.COX_TLM_MIN.min i) x.lo)
    let b := setF b R.COX_TLM_MAX.max i (if sint 32 (getF b R.COX_TLM_MAX.max i) ≤ sint 32 x.hi then x.hi else getF b R.COX_TLM_MAX.max i)
    setF b R.COX_TLM_LAST.last i x.last

/-- The ledger's accumulators advance with each 1 ms window (R451): input energy from the input power, pack-side energy from the
averages of pack voltage and current (log entry 37). -/
def tlmEnergy (e : Nat) (b : Body) : Body :=
  if e = 16 then
    setF b R.LDG_ACC_IN.uj 0 (getF b R.LDG_ACC_IN.uj 0 + (sint 32 (getF b R.COX_TLM_AVG1MS.avg (16 * 64 + 2))).toNat)
  else if e = 17 then
    let uj := sint 32 (getF b R.COX_TLM_AVG1MS.avg (17 * 64 + 1)) * sint 32 (getF b R.COX_TLM_AVG1MS.avg (17 * 64 + 2)) / 10000
    let b := setF b R.STP_BUS_P.mw 0 (getF b R.COX_TLM_LAST.last (17 * 64 + 3))
    let b := if 0 ≤ uj then setF b R.LDG_ACC_PACK_DIS.uj 0 (getF b R.LDG_ACC_PACK_DIS.uj 0 + uj.toNat)
      else setF b R.LDG_ACC_PACK_CHG.uj 0 (getF b R.LDG_ACC_PACK_CHG.uj 0 + (-uj).toNat)
    if shepherdActive b then noteWindow 2 (trackE0 b) else b
  else b

/-- A telemetry window ends (R407). -/
def tlmWindowEnd (e window : Nat) (xs : List TlmWindow) (b : Body) : Body :=
  if !engineRuns b e then b
  else
    let b := forEach xs (tlmChannel e window) b
    if window = 0 then tlmEnergy e b else b

/-- A loop of the engines. -/
def isLoop (e l : Nat) : Bool := decide (e < 20 ∧ l < 16)
/-- A generator. -/
def isPg (e k : Nat) : Bool := decide (e < 20 ∧ k < 8)
/-- An engine that sheds phases. -/
def isShed (e : Nat) : Bool := shedEngines.contains e

/-- LOOP_PERIOD (R372). -/
def execLoopPeriod (e l : Nat) (x : LoopSample) (s : State) : Host.Outcome State Fault Refusal := onUnit (isLoop e l) (loopPeriod e l x) s
/-- SAT_TIME_EVENT (R399). -/
def execSatTimeEvent (e l : Nat) (s : State) : Host.Outcome State Fault Refusal := onUnit (isLoop e l) (satEvent e l) s
/-- PLAUS_EVENT (R400). -/
def execPlausEvent (e l : Nat) (s : State) : Host.Outcome State Fault Refusal := onUnit (isLoop e l) (plausEvent e l) s
/-- FROZEN_SAMPLE (R402). -/
def execFrozenSample (e l m : Nat) (fallbackFresh : Bool) (s : State) : Host.Outcome State Fault Refusal :=
  onUnit (isLoop e l) (frozenSample e l m fallbackFresh) s
/-- FROZEN_HOLD_EXPIRE (R402). -/
def execFrozenHoldExpire (e l : Nat) (s : State) : Host.Outcome State Fault Refusal := onUnit (isLoop e l) (frozenExpire e l) s
/-- PG_TICK (R377). -/
def execPgTick (e k : Nat) (s : State) : Host.Outcome State Fault Refusal := onUnit (isPg e k) (generatorTick e k) s
/-- SOFTSTART_DONE (R380). -/
def execSoftstartDone (e k : Nat) (s : State) : Host.Outcome State Fault Refusal := onUnit (isPg e k) (softDone e k) s
/-- PG_TARGET_WRITE (R378, R406). -/
def execPgTargetWrite (who : Requester) (e k x : Nat) (s : State) : Host.Outcome State Fault Refusal :=
  onUnit (isPg e k) (coxWriter who e (pgTarget e k x)) s
/-- PG_LIMIT_WRITE (R378, R406): the new limits wait until the generator is at rest. -/
def execPgLimitWrite (who : Requester) (e k v a j : Nat) (s : State) : Host.Outcome State Fault Refusal :=
  onUnit (isPg e k) (coxWriter who e (fun b =>
    setF (setF (setF b R.COX_PG_VLIM.v (pix e k) v) R.COX_PG_ALIM.a (pix e k) a) R.COX_PG_JLIM.j (pix e k) j)) s
/-- PG_PRESET (R378, R406): the position becomes that of COX_PG_PRESET. -/
def execPgPreset (who : Requester) (e k : Nat) (s : State) : Host.Outcome State Fault Refusal :=
  onUnit (isPg e k) (coxWriter who e (fun b => pgPut e k (getF b R.COX_PG_PRESET.preset (pix e k)) b)) s
/-- PG_OWNER_WRITE (R379, R406). -/
def execPgOwnerWrite (who : Requester) (e k owner : Nat) (s : State) : Host.Outcome State Fault Refusal :=
  onUnit (isPg e k) (coxWriter who e (pgOwner e k owner)) s
/-- LOOP_MODE_WRITE (R397, R406). -/
def execLoopModeWrite (who : Requester) (e l m : Nat) (s : State) : Host.Outcome State Fault Refusal :=
  onUnit (isLoop e l) (coxWriter who e (loopModeWrite e l m)) s
/-- WARN_TIMEOUT (R383). -/
def execWarnTimeout (e : Nat) (s : State) : Host.Outcome State Fault Refusal := onUnit (decide (e < 20)) (warnTimeout e) s
/-- SHED_HOLDOFF_EXPIRE (R383). -/
def execShedHoldoffExpire (e : Nat) (s : State) : Host.Outcome State Fault Refusal := onUnit (decide (e < 20)) (holdoffExpire e) s
/-- SHED_START (R385). -/
def execShedStart (e ma : Nat) (s : State) : Host.Outcome State Fault Refusal := onUnit (isShed e) (shedStart e ma) s
/-- SHED_COMPLETE (R385). -/
def execShedComplete (e : Nat) (s : State) : Host.Outcome State Fault Refusal := onUnit (isShed e) (shedComplete e) s
/-- PHASE_READD (R385). -/
def execPhaseReadd (e ma : Nat) (s : State) : Host.Outcome State Fault Refusal := onUnit (isShed e) (phaseReadd e ma) s
/-- STEP_DETECTED (R387). -/
def execStepDetected (e : Nat) (s : State) : Host.Outcome State Fault Refusal := onUnit (isShed e) (stepDetected e) s
/-- CLK_FORCE_WRITE (R389, R406). -/
def execClkForceWrite (who : Requester) (e code : Nat) (s : State) : Host.Outcome State Fault Refusal :=
  onUnit (decide (e < 20)) (coxWriter who e (clkForce e code)) s
/-- CAP_WRITE (R394, R406). -/
def execCapWrite (who : Requester) (w : Nat) (s : State) : Host.Outcome State Fault Refusal := lift (coxWriter who 16 (placeCap w)) s
/-- TLM_WINDOW_END (R407): window 0 is 1 ms, 1 is 100 ms, 2 is 1 s. -/
def execTlmWindowEnd (e window : Nat) (xs : List TlmWindow) (s : State) : Host.Outcome State Fault Refusal :=
  onUnit (decide (e < 20 ∧ window < 3)) (tlmWindowEnd e window xs) s

end Sys2Proof.Machine
end

