-- ==== Sys2Proof/Machine/Drain.lean ====
section
/-! DEFINITION. The commands of pairing, failover status and drain (R317, R318, R331, R625-R630). -/

namespace Sys2Proof.Machine

/-- The ranges of a pairing record (R317): base and length. -/
def pairRanges (body : List Byte) : List (Nat × Nat) :=
  (List.range (bfield body 4 1)).map (fun i => (bfield body (16 + 16 * i) 8, bfield body (24 + 16 * i) 8))

/-- Is a range of whole MiB within an own half (R317)? -/
def inOwnHalf (r : Nat × Nat) : Bool :=
  decide (r.1 % 1048576 = 0 ∧ r.2 % 1048576 = 0 ∧ 0 < r.2 ∧ r.1 < 12 * stackBytes ∧ r.1 % stackBytes + r.2 ≤ 0xA00000000)

/-- Does a part of stack memory lie within one of the ranges? -/
def insideAny (rs : List (Nat × Nat)) (addr len : Nat) : Bool := len == 0 || rs.any (fun r => decide (r.1 ≤ addr ∧ addr + len ≤ r.1 + r.2))

/-- The image, the staging regions and the resident sources of a plan lie within the ranges (R318). -/
def planCovered (p : Plan) (rs : List (Nat × Nat)) : Bool :=
  insideAny rs p.addr p.length && p.staging.zipIdx.all (fun r => insideAny rs (r.2 * stackBytes + r.1.1 * 1048576) (r.1.2 * 1048576))
    && p.regions.all (fun r => insideAny rs r.addr r.length)

/-- The checks of PAIR_SET (R310, R317, R318, R625). The largest kind of a run lies below the pair kinds (log entry 26). -/
def pairChecks (body : List Byte) (b : Body) : Option Reply :=
  let enable := bit (bfield body 2 1) 0
  let partner := bfield body 0 2
  let base := bfield body 3 1
  let n := bfield body 4 1
  let rs := pairRanges body
  checked
    [(!enable || b.rack.drain == 0, .no 6 none 0), (!replayOrFill b, .no 1 none 4), (getF b R.TLY_STROKE_STATUS.state 0 == 0, .no 1 none 2),
     (partner != moduleIndex b, badField 0), (!enable || decide (1 ≤ base ∧ base ≤ 128), badField 3), (!enable || decide (1 ≤ n ∧ n ≤ 8), badField 4),
     (!enable || (rs.all inOwnHalf && !anyMeet rs), badField 16),
     (!enable || (body.drop (16 + 16 * n)).all (· == 0), badField (16 + 16 * n)),
     (!enable || (b.flock.plan.map (fun p => planCovered p rs)).getD true, badField 16),
     (!enable || decide (2 * base ≤ (b.flock.plan.map (fun p => p.kinds.length)).getD 0), badField 3),
     ((b.fail.pair.map (fun p => decide (p.partner = partner))).getD true && !(joined b && b.flock.role == 1), .no 8 none 0)]

/-- PAIR_SET with enable 1 (R318): arming starts. -/
def pairSet (body : List Byte) (b : Body) : Reply × Body :=
  match pairChecks body b with
  | some r => (r, b)
  | none =>
    let partner := bfield body 0 2
    let b := updFail (fun f => { f with pair := some ⟨partner, bfield body 3 1, pairRanges body⟩, pairState := 1, held := [], sentPushed := false
                                        gotPushed := false }) b
    let b := forEach (List.range 12) (fun k b => setF b R.MEM_MIR_OFFSET.offset k 0xA00000000) b
    (.ok [], sendFail partner [3, moduleIndex b, partner, 1] b)

/-- PAIR_SET with enable 0 (R318). -/
def pairUnset (body : List Byte) (b : Body) : Reply × Body :=
  match pairChecks body b with
  | some r => (r, b)
  | none => (.ok [], unpair b)

/-- FAILOVER_STATUS (R331, R557): how far a fill is, in percent, is not stated (log entry 3). -/
def failoverStatus (body : List Byte) (b : Body) : Reply × Body :=
  let count := bfield body 8 2
  if count < 1 ∨ 120 < count then (badField 8, b)
  else
    let me := moduleIndex b
    let pair := match b.fail.pair with
      | some p => p.partner + b.fail.pairState * 2 ^ 14
      | none => 0
    let stands := flagF b R.TLY_STANDIN.valid 0 && getF b R.TLY_STANDIN.standin 0 == me
    let fills := b.flock.filling || b.fail.fill.isSome
    let v := if fills then drawFree b else (0, b)
    let b := v.2
    let rs := (b.fail.records.filter (fun r => decide (bfield body 0 8 ≤ r.seq))).take count
    (.ok (leBytes 8 b.fail.lastSeq ++ leBytes 2 pair ++ leBytes 2 (if stands then getF b R.TLY_STANDIN.lost 0 + 2 ^ 15 else 0)
      ++ leBytes 2 (bitMask 16 b.fail.variants.contains) ++ leBytes 2 0
      ++ leBytes 8 (((List.range 16).map (fun d => (sparesOf b d).length * 16 ^ d)).sum) ++ leBytes 1 (runState b)
      ++ leBytes 1 (if fills then v.1 % 101 else 0xFF) ++ leBytes 6 b.flock.good ++ rs.flatMap FailRecord.bytes), b)

/-- What DRAIN_BEGIN answers (R558). -/
def drainAnswer (b : Body) : Reply := .ok [BitVec.ofNat 8 b.rack.drain, BitVec.ofNat 8 (ofFlag (b.rack.drain == 3)), 0, 0, 0, 0, 0, 0]

/-- A drain begins (R625, R626). -/
def drainBegin (b : Body) : Reply × Body :=
  let b := if b.rack.drain = 0 then setDrain 1 b else b
  (drainAnswer b, b)

/-- A drain is cancelled (R630): the ballast of R628 goes with it. -/
def drainCancel (b : Body) : Reply × Body :=
  let b := setDrain 0 (if b.rack.drain = 0 then b else updLedger (fun l => { l with ballast := 0 }) b)
  (drainAnswer b, b)

/-- Does firmware write or try an image, or the logbook clear (R523, R629, R638)? -/
def flashBusy (b : Body) : Bool :=
  (List.range 18).any (fun m => ((mbx b m).taken.map (fun t => t.opcode == 0x0801 || t.opcode == 0x0802)).getD false)
    || trialOn b || b.trust.deferred || b.rack.update != .idle || b.logbook.clearing.isSome

/-- Is the work of the module handed off (R626, R629)? -/
def workGone (b : Body) : Bool := b.rack.handedOff || !joined b

/-- The conditions of R629. -/
def pullReady (b : Body) : Bool :=
  workGone b && (decide ((getF b R.LDG_E0.e0_mj 0 : Int) ≤ drainGoal b) || getF b R.STP_STATUS.state 0 == 0)
    && ((pgRests b 16 0 && getF b R.LDG_LEVEL.level_w 0 == 1200) || power b != 7) && !flashBusy b
    && b.logbook.queue.isEmpty && !flagF b R.LGB_STATUS.mirror_behind 0

/-- The drain state follows its conditions (R626, R629). -/
def drainChange (b : Body) : Body :=
  if !shepherdActive b then b
  else match b.rack.drain with
    | 1 => if workGone b then setDrain 2 (if power b = 10 then openPack b else b) else b
    | 2 => if pullReady b then setDrain 3 b else b
    | 3 => if pullReady b then b else setDrain 2 b
    | _ => b

/-- PAIR_SET with enable 1 (R317, R318). -/
def execPairSet (m : Nat) (s : State) : Host.Outcome State Fault Refusal :=
  onUnitS (isMailbox m) (commandB m 0x0901 (fun body => bit (bfield body 2 1) 0) pairSet) s
/-- PAIR_SET with enable 0 (R318). -/
def execPairSetUnpair (m : Nat) (s : State) : Host.Outcome State Fault Refusal :=
  onUnitS (isMailbox m) (commandB m 0x0901 (fun body => !bit (bfield body 2 1) 0) pairUnset) s
/-- FAILOVER_STATUS (R331, R557). -/
def execFailoverStatus (m : Nat) (s : State) : Host.Outcome State Fault Refusal := onUnitS (isMailbox m) (commandB m 0x0902 anyAction failoverStatus) s
/-- DRAIN_BEGIN with action 1 (R558, R625). -/
def execDrainBegin (m : Nat) (s : State) : Host.Outcome State Fault Refusal :=
  onUnitS (isMailbox m) (commandB m 0x0903 (actionIs 0 1) (fun _ => drainBegin)) s
/-- DRAIN_BEGIN with action 0 (R558, R630). -/
def execDrainCancel (m : Nat) (s : State) : Host.Outcome State Fault Refusal :=
  onUnitS (isMailbox m) (commandB m 0x0903 (actionIs 0 0) (fun _ => drainCancel)) s
/-- DRAIN_STATE_CHANGE (R626, R629). -/
def execDrainStateChange (s : State) : Host.Outcome State Fault Refusal := lift drainChange s

end Sys2Proof.Machine
end

