-- ==== Sys2Proof/Machine/DroverSlots.lean ====
section
/-! DEFINITION. The D slot (R143, R144, R186). -/

namespace Sys2Proof.Machine

/-- The COPY descriptor of a dmov (R186). -/
def dmovDesc (w : Nat) (t : Station) (dir : Nat) : Desc :=
  { kind := 1, dir := dir, staged := bit w 9, last := true, notally := bit w 41, chk := false, frame := false,
    tally := bits w 29 12, length := sreg t (bits w 24 5), src := sreg t (bits w 14 5), dst := sreg t (bits w 19 5),
    count := 0, value := 0, srcStride := 0, dstStride := 0, index := 0, reservedZero := true }

/-- A D slot: the entry goes to the named drover's queue; a full queue holds the bundle (R144, R157 item 4). -/
def dSlot (w st : Nat) (b : Body) (t : Station) (fields : List (Nat × Nat)) (regs : List Nat) (e : DrvEntry) : SlotRes :=
  if !onlyFields w ([(0, 8), (8, 1), (14, 5), (29, 12), (41, 1)] ++ fields) then SlotRes.illegal 2 w
  else
    let k := bits w 8 1
    (SlotRes.ok [.drover k e]).hold
      (sourceHolds t regs [] [] ++ (if 16 ≤ (drv b (st * 2 + k)).queue.length then [Hold.queueFull] else []))

/-- dmov (R143, R144, R186). -/
def dmovSlot (w st : Nat) (b : Body) (t : Station) (dir : Nat) : SlotRes :=
  dSlot w st b t ([(19, 5), (24, 5)] ++ (if dir = 2 then [(9, 1)] else [])) [bits w 14 5, bits w 19 5, bits w 24 5]
    { isList := false, desc := dmovDesc w t dir, listOff := 0, pc := 0 }

/-- dlist (R143, R144, R186). -/
def dlistSlot (w st : Nat) (b : Body) (t : Station) : SlotRes :=
  dSlot w st b t [] [bits w 14 5]
    { isList := true, desc := { dmovDesc w t 0 with kind := 0, length := 0, src := 0, dst := 0 },
      listOff := sreg t (bits w 14 5), pc := 0 }

/-- DMOV_G2S (R144, R186). -/
def execDmovG2s (sl : Slot) (s : State) : Host.Outcome State Fault Refusal :=
  onSlot 2 0x01 (fun b t => dmovSlot sl.w sl.st b t 1) sl s

/-- DMOV_S2G (R144, R186). -/
def execDmovS2g (sl : Slot) (s : State) : Host.Outcome State Fault Refusal :=
  onSlot 2 0x02 (fun b t => dmovSlot sl.w sl.st b t 2) sl s

/-- DMOV_S2S (R144, R186). -/
def execDmovS2s (sl : Slot) (s : State) : Host.Outcome State Fault Refusal :=
  onSlot 2 0x03 (fun b t => dmovSlot sl.w sl.st b t 3) sl s

/-- DLIST (R144, R186). -/
def execDlist (sl : Slot) (s : State) : Host.Outcome State Fault Refusal :=
  onSlot 2 0x04 (fun b t => dlistSlot sl.w sl.st b t) sl s

end Sys2Proof.Machine
end

