-- ==== Sys2Proof/Machine/FwCommands.lean ====
section
/-! DEFINITION. Firmware images, staging, activation and trials (R554, R555, R571-R576, R636). -/

namespace Sys2Proof.Machine

/-- The size of a slot (R571). -/
def slotBytes : Nat := 12582912

/-- Is a stage, an activation, a trial or an update through PLDM in progress (R554, R579, R623)? -/
def fwBusy (b : Body) : Bool := trialOn b || b.trust.deferred || b.rack.update != .idle

/-- The slot that holds neither the running image nor a trial (R573). -/
def stageSlot (b : Body) : Nat := 1 - getF b R.SHP_FW_SLOTS.running_slot 0

/-- A status of an image check (R573): the field offset is 0xFFFF_FFFF. -/
def imageFail (status detail : Nat) : Reply := .no status none detail

/-- Are all bytes of a range 0? -/
def zeroRange (bs : List Byte) (off n : Nat) : Bool := (bslice bs off n).all (· == 0)

/-- Check 1 of R573 on the header, for an image of a named length; a value outside its field's range counts as reserved (log
entry 50). -/
def headerOk (h : List Byte) (length : Nat) : Bool :=
  let n := bfield h 8 4
  bfield h 0 4 == 0x5746565A && bfield h 4 2 == 512 && zeroRange h 6 2 && decide (1024 ≤ n ∧ n ≤ length ∧ n ≤ slotBytes)
    && decide (bfield h 15 1 < 128 ∧ bfield h 18 1 < 4 ∧ bfield h 19 1 < 16) && zeroRange h 20 12 && zeroRange h 184 328

/-- The image of a slot as its header names it. -/
def imageOf (bs : List Byte) : FwImage :=
  { build := bfield bs 12 2, minor := bfield bs 14 1, major := bfield bs 15 1, svn := bfield bs 16 2, key := bfield bs 18 1
    revoke := bfield bs 19 1, digest := bslice bs 32 48 }

/-- Checks 2 to 5 of R573 on a whole image. -/
def imageFails (b : Body) (bs : List Byte) (clean : Bool) : Option Reply :=
  let i := imageOf bs
  let key := bslice bs 512 96
  if !clean ∨ crc64 (bs.take 176 ++ List.replicate 8 0 ++ bs.drop 184) ≠ bfield bs 176 8 then some (imageFail 0x04 0)
  else if bit b.trust.revoked i.key then some (imageFail 0x06 0x14)
  else if sha384 key ≠ Config.fwKeyHash i.key ∨ !verifySig key (bs.take 80) (bslice bs 80 96) ∨ sha384 (bs.drop 512) ≠ i.digest then some (imageFail 0x06 0x10)
  else if i.svn < getF b R.SHP_FW_SLOTS.svn_min 0 then some (imageFail 0x0A 0)
  else none

/-- A verified image is written to the slot of both Shepherds (R554, R573). -/
def writeSlot (i : FwImage) (b : Body) : Body :=
  let s := stageSlot b
  setFlag (updTrust (fun t => if s = 0 then { t with slotA := some i } else { t with slotB := some i }) b) R.SHP_FW_SLOTS.other_valid 0 true

/-- Read an image from stack memory and check it (R573): an uncorrectable unit is recorded and is no fault of R298. -/
def readImage (addr len : Nat) (s : State) : (Option Reply × List Byte) × State :=
  let quiet := fun (x : State) => onBody (fun b => { b with reports := s.body.reports }) x
  let h := readStack addr (min len 512) s
  if !headerOk h.1.1 len then ((some (imageFail 0x0A 0), h.1.1), quiet h.2)
  else
    let r := readStack (addr + 512) (bfield h.1.1 8 4 - 512) h.2
    let bs := h.1.1 ++ r.1.1
    ((imageFails r.2.body bs (h.1.2.isEmpty && r.1.2.isEmpty), bs), quiet r.2)

/-- FW_STAGE (R554, R573): every completion raises vector 29 and is logged (R576). -/
def fwStage (body : List Byte) (s : State) : Reply × State :=
  let addr := bfield body 0 8
  let len := bfield body 8 4
  let slot := stageSlot s.body
  let done := fun (r : Reply) (s : State) => (r, onBody (fwEvent 1 slot) s)
  if fwBusy s.body then done (.no 1 none 5) s
  else if addr % 4096 ≠ 0 ∨ 12 * stackBytes < addr + len then done (badField 0) s
  else if slotBytes < len then done (badField 8) s
  else
    let r := readImage addr len s
    match r.1.1 with
    | some e => done e r.2
    | none =>
      let i := imageOf r.1.2
      done (.ok (leBytes 2 slot ++ leBytes 2 i.build ++ leBytes 1 i.minor ++ leBytes 1 i.major ++ leBytes 10 0)) (onBody (writeSlot i) r.2)

/-- A trial of a slot begins (R575, R576). -/
def beginTrial (slot : Nat) (b : Body) : Body :=
  let b := setF (setF (setFlag b R.SHP_FW_SLOTS.trial 0 true) R.SHP_FW_SLOTS.trial_slot 0 slot) R.SHP_FW_SLOTS.trial_resets 0 0
  fwEvent 2 slot (updTrust (fun t => { t with trialSince := none, deferred := false, returning := false, nextTrial := false }) b)

/-- The standby, if there is one. -/
def standbySh (b : Body) : Option Nat := [0, 1].find? (fun w => shState b w == 3)

/-- The standby restarts onto the staged slot (R636 step 1); with no standby the trial is deferred. -/
def startTrial (b : Body) : Body :=
  let b := setFlag b R.SHP_STATUS.handback_pending 0 false
  match standbySh b with
  | some w => startRestart w (beginTrial (stageSlot b) b)
  | none => updTrust (fun t => { t with deferred := true }) b

/-- The staged slot is activated, at the next power-on reset or now (R575). -/
def activate (now : Bool) (b : Body) : Body := if now then startTrial b else updTrust (fun t => { t with nextTrial := true }) b

/-- FW_ACTIVATE (R555). -/
def fwActivate (now : Bool) (_ : List Byte) (b : Body) : Reply × Body :=
  let slot := stageSlot b
  if fwBusy b then (.no 1 none 5, b)
  else if (slotImage b slot).isNone then (.no 0x0A none 0, b)
  else (.ok (leBytes 1 slot ++ leBytes 1 (ofFlag now) ++ leBytes 6 0), activate now b)

/-- Steps 3 and 4 of R636, and the same way back after a failed trial (R575): the standby that runs the slot of the boot record, for 10 s
in a trial, becomes the writer and the former writer restarts onto that slot. A deferred trial begins. -/
def trialSwitch (s : State) : State :=
  let b := s.body
  if b.trust.deferred then
    match standbySh b, activeSh b with
    | some _, _ => { s with body := startTrial b }
    | none, some w =>
      if joined b then s
      else { s with body := updHost (fun h => { h with noActiveSince := some b.now }) (startRestart w (beginTrial (stageSlot b) b)) }
    | none, none => s
  else match standbySh b, activeSh b with
    | some v, some w =>
      let runs := fun (x : Nat) => (shepherd b x).slot == bootSlot b
      let stood := b.trust.returning || trialOn b && passed b (shepherd b v).standbySince 10000000000
      if stood ∧ runs v ∧ !runs w ∧ maySwitch b then
        let b := updTrust (fun t => { t with returning := false }) (stateRecord b)
        drainInbox { s with body := makeActive v (startRestart w b) }
      else s
    | _, _ => s

/-- The trial is confirmed after 600 s (R575). -/
def trialConfirm (b : Body) : Body :=
  if trialSettled b ∧ b.trust.trialSince.any (fun t => passed b t 600000000000) then
    let slot := getF b R.SHP_FW_SLOTS.trial_slot 0
    let i := slotImage b slot
    let b := setF b R.SHP_FW_SLOTS.svn_min 0 (max (getF b R.SHP_FW_SLOTS.svn_min 0) ((i.map (·.svn)).getD 0))
    let b := updTrust (fun t => { t with confirmed := slot, trialSince := none, revoked := t.revoked.lor ((i.map (·.revoke)).getD 0) }) b
    fwEvent 3 slot (setFlag b R.SHP_FW_SLOTS.trial 0 false)
  else b

/-- The trial ends without confirmation (R575, R576). -/
def endTrial (b : Body) : Body :=
  let slot := getF b R.SHP_FW_SLOTS.trial_slot 0
  fwEvent 4 slot (setFlag (updTrust (fun t => { t with trialSince := none }) b) R.SHP_FW_SLOTS.trial 0 false)

/-- A Shepherd that runs the trial image failed its self-test or restarts (R575): the boot record returns to the confirmed slot; this
Shepherd restarts onto it, and the other follows when it is the writer on the trial image. -/
def trialFail (w : Nat) (b : Body) : Body :=
  let slot := getF b R.SHP_FW_SLOTS.trial_slot 0
  let st := shState b w
  if !trialOn b ∨ (shepherd b w).slot ≠ slot ∨ !([0, 2, 5, 6].contains st) then b
  else
    let o := 1 - w
    let b := endTrial b
    let b := updTrust (fun t => { t with returning := (shepherd b o).slot == slot && shState b o == 4 }) b
    if st = 2 ∨ st = 5 then startRestart w b else b

/-- FW_STAGE (R554, R573). -/
def execFwStage (m : Nat) (s : State) : Host.Outcome State Fault Refusal := onUnitS (isMailbox m) (command m 0x0801 anyAction fwStage) s
/-- FW_ACTIVATE with when 0 (R555, R575). -/
def execFwActivateDeferred (m : Nat) (s : State) : Host.Outcome State Fault Refusal :=
  onUnitS (isMailbox m) (commandB m 0x0802 (actionIs 0 0) (fwActivate false)) s
/-- FW_ACTIVATE with when 1 (R555, R636). -/
def execFwActivateNow (m : Nat) (s : State) : Host.Outcome State Fault Refusal :=
  onUnitS (isMailbox m) (commandB m 0x0802 (actionIs 0 1) (fwActivate true)) s
/-- FW_TRIAL_SWITCH (R636). -/
def execFwTrialSwitch (s : State) : Host.Outcome State Fault Refusal := .next (trialSwitch s)
/-- FW_TRIAL_CONFIRM (R575). -/
def execFwTrialConfirm (s : State) : Host.Outcome State Fault Refusal := lift trialConfirm s
/-- FW_TRIAL_FAIL (R575). -/
def execFwTrialFail (w : Nat) (s : State) : Host.Outcome State Fault Refusal := onUnit (isShepherd w) (trialFail w) s

end Sys2Proof.Machine
end

