-- ==== Sys2Proof/Machine/HostAttach.lean ====
section
/-! DEFINITION. The host attachment: PCIe resets, interrupts, mailboxes, host drovers (R192, R500-R509). -/

namespace Sys2Proof.Machine

/-- A host drover. -/
def isHq (h : Nat) : Bool := decide (h < 4)

/-- Host-facing state returns to reset (R502, R593). -/
def hostReset (b : Body) : Body :=
  let b := setF (setF b R.IRQ_CAUSE.cause 0 0) R.IRQ_MASK.mask 0 0x3FFFFFFF
  let b := updHost (fun h => { h with msix := [], msixPending := 0, fnMask := false, doorbells := h.doorbells.filter (16 ≤ ·) }) b
  let b := forEach (List.range 16) (fun m b =>
    let st := getF b R.MBX_STATUS.state m
    let b := if st = 1 ∨ st = 3 then updMbx m (fun x => { x with response := [] }) (setF b R.MBX_STATUS.state m 0) else b
    setFlag b R.MBX_ALIVE.seen m false) b
  let b := forEach (List.range 4) (fun h b => setF (setF b R.DRV_HQ_HEAD.head h 0) R.DRV_HQ_TAIL.tail h 0) b
  setFlag (setF b R.LGB_WIN_STATUS.state 0 0) R.LGB_CTRL.follow 0 false

/-- The PCIe link trains (R500): without Flit mode it does not reach L0. -/
def linkUp (rate width : Nat) (flit : Bool) (b : Body) : Body :=
  if !b.cox.path.housekeeping ∨ b.cox.path.heldReset then b
  else if flit then
    updHost (fun h => { h with linkUp := true }) (setFlag (setF (setF b R.GBL_PCIE.rate 0 rate) R.GBL_PCIE.width 0 width) R.GBL_PCIE.no_flit 0 false)
  else updHost (fun h => { h with linkUp := false }) (setFlag b R.GBL_PCIE.no_flit 0 true)

/-- The bits of a mask of vectors (R518). -/
def vectorsOf (mask : Nat) : List Nat := (List.range 30).filter (bit mask)

/-- Writing 1 clears cause bits and their pending bits (R504). -/
def causeClear (mask : Nat) (b : Body) : Body :=
  forEach (vectorsOf mask) (fun v b =>
    updHost (fun h => { h with msixPending := setBit h.msixPending v false })
      (setF b R.IRQ_CAUSE.cause 0 (setBit (getF b R.IRQ_CAUSE.cause 0) v false))) b

/-- A write of IRQ_MASK (R504): a bit that becomes unmasked while its cause is 1 sends one message at once. -/
def maskWrite (mask : Nat) (b : Body) : Body :=
  let old := getF b R.IRQ_MASK.mask 0
  let b := setF b R.IRQ_MASK.mask 0 mask
  forEach (vectorsOf old) (fun v b => if !bit mask v ∧ bit (getF b R.IRQ_CAUSE.cause 0) v then sendVector v b else b) b

/-- A write of IRQ_TEST (R518). -/
def irqTest (mask : Nat) (b : Body) : Body := forEach (vectorsOf mask) raiseVec b

/-- Send the pending message of a vector whose entry and function are unmasked (R504). -/
def sendPending (v : Nat) (b : Body) : Body :=
  if bit b.host.msixPending v ∧ !b.host.fnMask ∧ !(msixEntry b v).masked then
    let b := updHost (fun h => { h with msixPending := setBit h.msixPending v false }) b
    if bit (getF b R.IRQ_CAUSE.cause 0) v then emit (.msix v) b else b
  else b

/-- Change an MSI-X entry (R504): unmasking it sends its pending message. -/
def setMsix (v : Nat) (f : MsixEntry → MsixEntry) (b : Body) : Body :=
  sendPending v (updHost (fun h => { h with msix := SMap.upd h.msix MsixEntry.reset v f }) b)

/-- The function's MSI-X mask in configuration space (R504). -/
def setFnMask (v : Bool) (b : Body) : Body := forEach (List.range 64) sendPending (updHost (fun h => { h with fnMask := v }) b)

/-- A write of DRV_HQ_TAIL (R192). -/
def tailWrite (h tail : Nat) (b : Body) : Body :=
  let head := getF b R.DRV_HQ_HEAD.head h
  let d := fun (t : Nat) => (t + 64 - head) % 64
  if d (tail % 64) < d (getF b R.DRV_HQ_TAIL.tail h) then setFlag b R.DRV_HQ_STATUS.tail_refused h true
  else setF b R.DRV_HQ_TAIL.tail h tail

/-- The bytes of a slot of a host drover's ring. -/
def hqSlotBytes (b : Body) (h slot : Nat) : List Byte :=
  (List.range 64).map (fun i => SMap.get (SMap.get b.hostDrovers HostDrover.reset h).ring 0 (slot * 64 + i))

/-- A host drover stops on a fault (R191, R192, R503). -/
def hqFault (h cause : Nat) (b : Body) : Body :=
  let b := setF (setF b R.DRV_HQ_STATUS.cause h cause) R.DRV_HQ_STATUS.slot h (getF b R.DRV_HQ_HEAD.head h)
  raiseVec (16 + h) (setFlag b R.DRV_HQ_STATUS.valid h true)

/-- The end of a host move inside the module (R172, R187, R189, R192): stack memory, or the window of a station that does not run. -/
def hostEnd (b : Body) (a len : Nat) : Option Place :=
  let x := sysAddr a
  if x.space ≠ 0 ∨ x.ix ≠ 0 then none
  else match winAccess x.addr len with
    | some w =>
      match physOf b w.die w.lst with
      | some st => if flagF b R.STN_CTRL.run st then none else some (.station (moduleIndex b) w)
      | none => none
    | none => stackEnd b a len false

/-- The ends of a host move (R187): whether it writes to the module, the place in the module, the address in host memory. -/
def hostEnds (b : Body) (m : Move) : Option (Bool × Place × Nat) :=
  match m.src, m.dst with
  | some sa, some da =>
    let host := fun (a : Nat) => decide ((sysAddr a).space = 3 ∧ (sysAddr a).ix = 0 ∧ (sysAddr a).addr + m.len ≤ 2 ^ 48)
    if host sa then (hostEnd b da m.len).map (fun p => (true, p, (sysAddr sa).addr))
    else if host da then (hostEnd b sa m.len).map (fun p => (false, p, (sysAddr da).addr))
    else none
  | _, _ => none

/-- Does a host drover's access receive an error response (R67, R178, R207): of a fenced station, of a stack that does not serve requests? -/
def hostRefused (b : Body) (p : Place) (len : Nat) : Bool :=
  match p with
  | .station _ w => (physOf b w.die w.lst).any (fun st => flagF b R.STN_CTRL.fence st)
  | .stack _ a => [a / stackBytes, (a + len - 1) / stackBytes].any (fun k => !ctlReady b k || flagF b R.MEM_CTRL.self_refresh k)
  | .host _ => false

/-- Read a place of the module: its bytes, and whether a unit is uncorrectable (R182); a unit named in a sealed tail is read after its entry has
been applied (R199). -/
def readPlace (p : Place) (len : Nat) (s : State) : (List Byte × Bool) × State :=
  match p with
  | .station _ w =>
    match physOf s.body w.die w.lst with
    | some st => let r := readSram s.body st w.off len; ((r.1.1, !r.1.2.isEmpty), { s with body := r.2 })
    | none => (([], true), s)
  | .stack _ a => let r := readSealed a len s; ((r.1.1, !r.1.2.isEmpty), r.2)
  | .host _ => (([], true), s)

/-- Write a place of the module. -/
def writePlaceBytes (p : Place) (bs : List Byte) (s : State) : State :=
  match p with
  | .station _ w =>
    match physOf s.body w.die w.lst with
    | some st => onBody (fun b => (writeSram b st w.off (bs.map some)).2) s
    | none => s
  | .stack _ a => writeStackBytes a bs s
  | .host _ => s

/-- The moves of a host descriptor (R188, R192): `data` is what host memory answers, in order; the bytes fed to the check-value
unit, the fault. -/
def hostMoves : List Move → List Byte → List Byte → State → (Option Nat × List Byte) × State
  | [], _, fed, s => ((none, fed), s)
  | m :: ms, data, fed, s =>
    match hostEnds s.body m with
    | none => ((some 2, fed), s)
    | some (true, p, _) =>
      if hostRefused s.body p m.len then ((some 7, fed), s) else
      let bs := (data ++ List.replicate m.len 0).take m.len
      hostMoves ms (data.drop m.len) (fed ++ bs) (writePlaceBytes p bs s)
    | some (false, p, a) =>
      if hostRefused s.body p m.len then ((some 7, fed), s) else
      let r := readPlace p m.len s
      if r.1.2 then ((some 6, fed), r.2)
      else hostMoves ms data (fed ++ r.1.1) (onBody (emit (.response "HOST_WRITE" (a :: r.1.1.map (·.toNat)))) r.2)

/-- A host drover runs the descriptor at its head (R188, R191, R192, R503). -/
def hostRun (h : Nat) (data : List Byte) (s : State) : State :=
  let b := s.body
  let head := getF b R.DRV_HQ_HEAD.head h
  if head = getF b R.DRV_HQ_TAIL.tail h ∨ flagF b R.DRV_HQ_STATUS.valid h then s
  else
    let d := descOf (hqSlotBytes b h head)
    let ms := movesOf d []
    let first : Option Nat := match fieldFault d true, (ms.take 1).any (fun m => (hostEnds b m).isNone) with
      | some 1, _ => some 1
      | _, true => some 2
      | c, false => c
    match first with
    | some c => { s with body := hqFault h c b }
    | none =>
      let r := hostMoves ms data [] s
      match r.1.1 with
      | some c => onBody (hqFault h c) r.2
      | none => onBody (fun b =>
          let b := if d.chk then chkFeed (2048 + h) r.1.2 b else b
          let b := if d.frame then chkFrameEnd (2048 + h) b else b
          let b := setF b R.DRV_HQ_DONE.done h (getF b R.DRV_HQ_DONE.done h + 1)
          let b := setF b R.DRV_HQ_HEAD.head h ((head + 1) % 64)
          if getF b R.DRV_HQ_HEAD.head h = getF b R.DRV_HQ_TAIL.tail h then raiseVec (16 + h) b else b) r.2

/-- Writing 1 to DRV_HQ_STATUS.valid resumes at the next slot (R210). -/
def hqClear (h : Nat) (b : Body) : Body :=
  if flagF b R.DRV_HQ_STATUS.valid h then
    let b := setFlag (setF (setF b R.DRV_HQ_STATUS.cause h 0) R.DRV_HQ_STATUS.slot h 0) R.DRV_HQ_STATUS.valid h false
    setF b R.DRV_HQ_HEAD.head h (if getF b R.DRV_HQ_HEAD.head h = getF b R.DRV_HQ_TAIL.tail h then getF b R.DRV_HQ_HEAD.head h else (getF b R.DRV_HQ_HEAD.head h + 1) % 64)
  else b

/-- PCIE_FUNCTION_RESET (R502). -/
def execPcieFunctionReset (s : State) : Host.Outcome State Fault Refusal := lift hostReset s
/-- PCIE_CONVENTIONAL_RESET (R502). -/
def execPcieConventionalReset (s : State) : Host.Outcome State Fault Refusal := lift (fun b => hostReset b) s
/-- PCIE_LINK_LOSS (R502). -/
def execPcieLinkLoss (s : State) : Host.Outcome State Fault Refusal :=
  lift (fun b => hostReset (updHost (fun h => { h with linkUp := false }) b)) s
/-- PCIE_LINK_UP (R500). -/
def execPcieLinkUp (rate width : Nat) (flit : Bool) (s : State) : Host.Outcome State Fault Refusal :=
  onUnit (decide (rate < 6) && [1, 2, 4, 8, 16].contains width) (linkUp rate width flit) s
/-- IRQ_CAUSE_CLEAR (R504). -/
def execIrqCauseClear (mask : Nat) (s : State) : Host.Outcome State Fault Refusal := lift (causeClear mask) s
/-- IRQ_MASK_WRITE (R504). -/
def execIrqMaskWrite (mask : Nat) (s : State) : Host.Outcome State Fault Refusal := lift (maskWrite mask) s
/-- IRQ_TEST (R518). -/
def execIrqTest (mask : Nat) (s : State) : Host.Outcome State Fault Refusal := lift (irqTest mask) s
/-- MSIX_UNMASK (R504). -/
def execMsixUnmask (v : Nat) (s : State) : Host.Outcome State Fault Refusal :=
  onUnit (decide (v < 64)) (setMsix v (fun e => { e with masked := false })) s
/-- MBX_DOORBELL (R509, R514). -/
def execMbxDoorbell (m : Nat) (s : State) : Host.Outcome State Fault Refusal := onUnit (decide (m < 16)) (ringDoorbell m) s
/-- MAILBOX_TAKE (R508-R510). -/
def execMailboxTake (m : Nat) (s : State) : Host.Outcome State Fault Refusal := onUnit (isMailbox m) (takeRequest m) s
/-- DRV_HQ_TAIL_WRITE (R192). -/
def execDrvHqTailWrite (h tail : Nat) (s : State) : Host.Outcome State Fault Refusal := onUnit (isHq h) (tailWrite h tail) s
/-- HOST_DESCRIPTOR_RUN (R192). -/
def execHostDescriptorRun (h : Nat) (data : List Byte) (s : State) : Host.Outcome State Fault Refusal := onUnitS (isHq h) (hostRun h data) s
/-- DRV_HQ_FAULT_CLEAR (R210). -/
def execDrvHqFaultClear (h : Nat) (s : State) : Host.Outcome State Fault Refusal := onUnit (isHq h) (hqClear h) s

end Sys2Proof.Machine
end

