-- ==== Sys2Proof/Machine/LedgerCommands.lean ====
section
/-! DEFINITION. The commands of the energy ledger (chapter 11). -/

namespace Sys2Proof.Machine

/-- The temperature the ledger takes for a cell in 0.01 °C (R419, R467): its sensor, the other of its monitor, or the mean of the
other monitors' good sensors; 25 °C where no sensor is good, the reference temperature (log entry 38). -/
def ledgerTemp (b : Body) (i : Nat) : Rat :=
  match cellTemp b i with
  | some t => t
  | none =>
    let ts := ((List.range 8).filter (fun j => !flagF b R.CMN_TEMP.fault j)).map (fun j => sint 16 (getF b R.CMN_TEMP.t j))
    if ts.isEmpty then 2500 else ((ts.foldl (· + ·) 0 : Int) : Rat) / (ts.length : Nat)

/-- The least of a list of rationals. -/
def minQ : List Rat → Rat
  | [] => 0
  | x :: xs => xs.foldl (fun a y => if y < a then y else a) x

/-- Stored energy and room in mJ (R419). -/
def storedEnergy (b : Body) : Nat × Nat :=
  let cells := (List.range 32).map (fun i =>
    ((getF b R.CMN_CELL_V.v i : Rat) / 10000,
     (Config.cellCapacitance i : Rat) / 1000 * (1 + 12 * (ledgerTemp b i / 100 - 25) / 10000)))
  let qdn := minQ (cells.map (fun p => p.2 * (p.1 - 5 / 2)))
  let qup := minQ (cells.map (fun p => p.2 * (19 / 5 - p.1)))
  let part := fun (f : Rat → Rat → Rat) => (cells.map (fun p => 500 * p.2 * f p.1 p.2)).foldl (· + ·) 0
  let e0 := part (fun v c => v * v - (v - qdn / c) * (v - qdn / c))
  let room := part (fun v c => (v + qup / c) * (v + qup / c) - v * v)
  (if cells.any (fun p => decide (p.1 < 5 / 2)) then 0 else e0.floor.toNat, if cells.any (fun p => decide (19 / 5 < p.1)) then 0 else room.floor.toNat)

/-- The surplus beyond the trim point is burned while no run is open (R447): the ballast power, and the clocks and references it
takes, which the spec does not state (log entry 3). A drain that settles raises the need by 2.0 kW instead (R628). -/
def ballast (b : Body) : Body :=
  if b.flock.runOpen ∨ power b ≠ 7 ∨ (if b.rack.drain = 2 ∨ b.rack.drain = 3 then drainBallast b = 0 else (getF b R.LDG_E0.e0_mj 0 : Int) < eTrim b) then updLedger (fun l => { l with ballast := 0 }) b
  else
    let p : Rat := (bfZ (getF b R.COX_PG_POS.x (pix 16 0)) : Rat) / 2 ^ 150
    let want := p + (((getF b R.LDG_E0.e0_mj 0 : Int) - eTrim b : Int) : Rat) / (max 1 (getF b R.LDG_CFG.trim_tau_s 0) * 1000 : Nat) - presentLoad b + b.ledger.ballast
    let w := if b.rack.drain = 2 ∨ b.rack.drain = 3 then drainBallast b else (max 0 (min 2000 want.floor)).toNat
    let b := updLedger (fun l => { l with ballast := w }) b
    if w = 0 then b
    else
      let c := drawFree b
      let m := drawFree c.2
      movePoint (getF b R.LDG_STATUS.point 0, 80 + c.1 % 301, 600 + m.1 % 301) m.2

/-- A valid sweep replaces the stored energy (R421). -/
def sweepUpdate (b : Body) : Body :=
  if !flagF b R.CMN_SWEEP_STATUS.valid 0 ∨ !shepherdActive b then b
  else
    let b := trackE0 b
    let old : Int := getF b R.LDG_E0.e0_mj 0
    let e := storedEnergy b
    let d := (e.1 : Int) - old
    let b := setF (setF (setF b R.LDG_E0.e0_mj 0 e.1) R.LDG_EROOM.eroom_mj 0 e.2) R.LDG_ECAP.ecap_mj 0 (e.1 + e.2)
    let b := setF b R.LDG_DRIFT.drift_mj 0 (uint 32 (sint 32 (getF b R.LDG_DRIFT.drift_mj 0) + d))
    let b := if e.1 + e.2 < 100 * d.natAbs then logRec 0x25 ([2, 0, 0, 0, 0, 0, 0, 0] ++ leBytes 8 (uint 64 d)) b else b
    ballast (noteWindow 2 (setFlag b R.LDG_STATUS.stale_sweep 0 false))

/-- No valid sweep for 100 ms (R421). -/
def staleSweep (b : Body) : Body :=
  if shepherdActive b then setFlag b R.LDG_STATUS.stale_sweep 0 true else b

/-- The ledger's decision for the next stroke (R432, R434). -/
def decision (b : Body) : Body := if shepherdActive b ∧ b.flock.inFlight.isSome then ledgerDecide b else b

/-- The reserve is reached (R442). -/
def reserveReached (b : Body) : Body :=
  if shepherdActive b ∧ e0Used b ≤ eRes b ∧ !flagF b R.LDG_STATUS.forced 0 then forceClocks b else b

/-- The floor is regained (R442, R444). -/
def floorRegained (b : Body) : Body :=
  if shepherdActive b ∧ eFloor b ≤ e0Used b ∧ flagF b R.LDG_STATUS.forced 0 ∧ !b.cox.path.inputAbsent then
    updLedger (fun l => { l with exhausted := false }) (liftClocks b)
  else b

/-- Energy is exhausted (R443): a module that has joined leaves its flock, any other keeps its clocks forced. -/
def energyExhausted (b : Body) : Body :=
  if !shepherdActive b ∨ eStop b < e0Used b ∨ b.ledger.exhausted then b
  else
    let e := getF b R.LDG_E0.e0_mj 0
    let b := logRec 0x25 ([3, 0, 0, 0, 0, 0, 0, 0] ++ leBytes 8 e) (updLedger (fun l => { l with exhausted := true }) b)
    let b := if flagF b R.LDG_STATUS.forced 0 then b else forceClocks b
    if joined b then leaveFlock { blankRecord b 0x24 0x05 with detail := e / 1000 } b else b

/-- LEDGER_DECISION (R432-R438). -/
def execLedgerDecision (s : State) : Host.Outcome State Fault Refusal := lift decision s
/-- LEDGER_SWEEP_UPDATE (R421). -/
def execLedgerSweepUpdate (s : State) : Host.Outcome State Fault Refusal := lift sweepUpdate s
/-- LEDGER_STALE_SWEEP (R421). -/
def execLedgerStaleSweep (s : State) : Host.Outcome State Fault Refusal := lift staleSweep s
/-- RESERVE_REACHED (R442). -/
def execReserveReached (s : State) : Host.Outcome State Fault Refusal := lift reserveReached s
/-- FLOOR_REGAINED (R442). -/
def execFloorRegained (s : State) : Host.Outcome State Fault Refusal := lift floorRegained s
/-- ENERGY_EXHAUSTED (R443). -/
def execEnergyExhausted (s : State) : Host.Outcome State Fault Refusal := lift energyExhausted s

end Sys2Proof.Machine
end

