-- ==== Sys2Proof/Machine/Logbook.lean ====
section
/-! DEFINITION. The commands of the logbook (chapter 16). -/

namespace Sys2Proof.Machine

/-- The reset cause of a power_on record (R591): 2 after a module reset, 1 after a pull sequence, 0 otherwise. -/
def resetCause (b : Body) : Nat :=
  if b.cox.path.afterReset then 2
  else match ((heldIn b.logbook 2).filter (fun r => r.cls == 1 || r.cls == 0x23)).getLast? with
    | some r => if r.cls = 0x23 then 1 else 0
    | none => 0

/-- The running firmware as GBL_FW holds it (R516). -/
def fwWord (b : Body) : Nat :=
  getF b R.GBL_FW.build 0 + getF b R.GBL_FW.minor 0 * 2 ^ 16 + getF b R.GBL_FW.major 0 * 2 ^ 24 + getF b R.GBL_FW.slot 0 * 2 ^ 31

/-- The fields of the envelope and of the pack trips that flash holds (R361, R422, R424, R480). -/
def flashFields : List Field :=
  [R.LDG_RESERVE.reserve_mj, R.LDG_ENVELOPE.level_max_w, R.LDG_LIMITS.v_lim, R.LDG_LIMITS.a_lim, R.LDG_LIMITS.j_lim,
   R.LDG_LEVEL.level_w, R.LDG_LEVEL.trim_pct, R.CMN_TRIP_CFG0.cell_ov_mv, R.CMN_TRIP_CFG0.cell_uv_mv, R.CMN_TRIP_CFG1.cell_ot_c,
   R.CMN_TRIP_CFG1.cell_ut_c, R.CMN_TRIP_CFG1.spread_mv]

/-- Settings that cannot be read keep their delivery values (R653). -/
def deliverySettings (b : Body) : Body :=
  let b := forEach flashFields (fun f b => setF b f 0 (fieldReset f.idx 0)) b
  let b := updPath (fun p => { p with thresholds := [] }) b
  { b with trust := { b.trust with groups := [], balance := none } }

/-- The voltage-frequency tables and the stored competition groups reach the engines in state housekeeping (R544, R661). -/
def loadEngines (b : Body) : Body :=
  let b := forEach (List.range 256) (fun i b =>
    let w := Config.vfEntry i
    setF (setF (setF b R.COX_VF.max_code i (bits w 0 9)) R.COX_VF.core_mv i (bits w 16 11)) R.COX_VF.valid i (bits w 31 1)) b
  forEach b.trust.groups (fun g b => setF b R.COX_LOOP_CFG.group g.1 g.2) b

/-- Step 2 of start-up (R590, R649, R653): `bad` numbers have a bad check value, an incomplete write stands at the write point of
an area, the settings area can be read. -/
def logScan (bad : List Nat) (tornFirst tornLast settingsOk : Bool) (b : Body) : Body :=
  if power b ≠ 2 ∨ !shepherdActive b ∨ !stepIsDone b 1 ∨ stepIsDone b 2 then b
  else
    let lost := (b.logbook.held.filter (fun h => bad.contains h.entry.seq)).length
    let b := updLog (fun l => { l with held := l.held.filter (fun h => !bad.contains h.entry.seq)
                                       firstUsed := if tornFirst then 65536 else l.firstUsed
                                       lastUsed := if tornLast then 65536 else l.lastUsed }) b
    let b := showLog (addSat b R.LGB_STATUS.bad 0 lost)
    let b := logRec 1 (leBytes 4 (fwWord b) ++ leBytes 4 (resetCause b) ++ leBytes 8 b.logbook.gapFirst) b
    let b := if settingsOk then b else stepFailed 2 (deliverySettings b)
    stepDone 2 (loadEngines b)

/-- The returning standby holds every record (R588). -/
def mirrorComplete (b : Body) : Body :=
  setFlag (updLog (fun l => { l with behind := [] }) b) R.LGB_STATUS.mirror_behind 0 false

/-- Firmware saves the operating milliseconds (R583). -/
def hourSave (b : Body) : Body := if shepherdActive b then updHost (fun h => { h with opSaved := hourMs b }) b else b

/-- LOST_RECORD (R589). -/
def execLostRecord (s : State) : Host.Outcome State Fault Refusal := lift (fun b => if shepherdActive b then lostRecord b else b) s
/-- LOGBOOK_FLASH_WRITE (R588). -/
def execLogbookFlashWrite (s : State) : Host.Outcome State Fault Refusal := lift flashWrite s
/-- A sector is erased; the last of a clear completes its LOGBOOK_CLEAR (R550, R594). -/
def eraseStep (b : Body) : Body :=
  match b.logbook.clearing with
  | none => sectorErase b
  | some c =>
    let b := sectorErase b
    if b.logbook.clearing.isNone ∧ inExecution b c.mailbox 0x0503 anyAction ≠ none then finish c.mailbox (.ok (leBytes 8 c.record)) b else b

/-- LOGBOOK_SECTOR_ERASE (R587, R594). -/
def execLogbookSectorErase (s : State) : Host.Outcome State Fault Refusal := lift eraseStep s

/-- LOGBOOK_SCAN (R590). -/
def execLogbookScan (bad : List Nat) (tornFirst tornLast settingsOk : Bool) (s : State) : Host.Outcome State Fault Refusal :=
  lift (logScan bad tornFirst tornLast settingsOk) s
/-- LOGBOOK_MIRROR_COMPLETE (R588). -/
def execLogbookMirrorComplete (s : State) : Host.Outcome State Fault Refusal := lift mirrorComplete s
/-- HOUR_STAMP_SAVE (R583). -/
def execHourStampSave (s : State) : Host.Outcome State Fault Refusal := lift hourSave s
/-- LGB_LOAD (R592). -/
def execLgbLoad (s : State) : Host.Outcome State Fault Refusal := lift loadWindow s
/-- LGB_ADVANCE (R592). -/
def execLgbAdvance (s : State) : Host.Outcome State Fault Refusal := lift advanceWindow s
/-- LGB_WINDOW_READY (R592). -/
def execLgbWindowReady (s : State) : Host.Outcome State Fault Refusal := lift windowReady s

end Sys2Proof.Machine
end

