-- ==== Sys2Proof/Machine/Matrix.lean ====
section
/-! DEFINITION. The M slot and the matrix engine (R128, R132-R137). -/

namespace Sys2Proof.Machine

/-- The bytes of one operand of an mmul (R134, R135): element base and length, scale base and length. -/
structure Operand where
  elem : Nat
  elemLen : Nat
  scale : Nat
  scaleLen : Nat
deriving DecidableEq, Repr

/-- The operand a pointer names (R133-R135). -/
def operandOf (f : NFmt) (ptr nblk : Nat) : Operand :=
  ⟨bits ptr 0 23, nblk * (512 * f.width), bits ptr 32 23, nblk * f.scaleBytes⟩

/-- The exceptions of an operand pointer (R135). -/
def pointerExcs (f : NFmt) (ptr nblk : Nat) : List Exc :=
  let o := operandOf f ptr nblk
  let scaled := o.scaleLen != 0
  (if bits ptr 23 9 ≠ 0 ∨ bits ptr 55 9 ≠ 0 then [⟨0x07, 0, ptr⟩] else [])
    ++ (if 0x600000 < o.elem + o.elemLen then [⟨0x07, 0, o.elem⟩] else [])
    ++ (if scaled && decide (0x600000 < o.scale + o.scaleLen) then [⟨0x07, 0, o.scale⟩] else [])
    ++ (if o.elem % 1024 ≠ 0 then [⟨0x08, 0, o.elem⟩] else [])
    ++ (if scaled && o.scale % 128 != 0 then [⟨0x08, 0, o.scale⟩] else [])

/-- The hold of an M-slot operation (R157 items 1, 3): its pointers and room in the engine. -/
def engineHolds (t : Station) (ss : List Nat) : List Hold :=
  sourceHolds t ss [] [] ++ (if 3 ≤ t.matQ.length then [Hold.engineFull] else [])

/-- mmul (R132-R136). -/
def mmulSlot (w : Nat) (t : Station) : SlotRes :=
  let fa := bits w 8 4
  let fb := bits w 12 4
  let nblk := bits w 34 12
  if bits w 21 3 ≠ 0 ∨ bits w 46 18 ≠ 0 ∨ nblk = 0 then SlotRes.illegal 0 w
  else match NFmt.ofCode fa, NFmt.ofCode fb with
    | some f, some g =>
      let pa := sreg t (bits w 24 5)
      let pb := sreg t (bits w 29 5)
      let es := (if (pairingRate f g).isNone then [⟨0x04, 0, 0⟩] else []) ++ pointerExcs f pa nblk ++ pointerExcs g pb nblk
      let op : MatOp := { isMul := true, fa := fa, fb := fb, acc := bits w 16 4, chainStart := bit w 20, pa := pa, pb := pb,
                          nblk := nblk, pc := 0, seq := 0, saved := [] }
      { effs := [.matrix op], excs := es, holds := engineHolds t [bits w 24 5, bits w 29 5] }
    | _, _ => SlotRes.illegal 0 w

/-- mzero (R132, R136). -/
def mzeroSlot (w : Nat) (t : Station) : SlotRes :=
  if !onlyFields w [(0, 8), (16, 4)] then SlotRes.illegal 0 w
  else (SlotRes.ok [.matrix { isMul := false, fa := 0, fb := 0, acc := bits w 16 4, chainStart := true, pa := 0, pb := 0,
                              nblk := 0, pc := 0, seq := 0, saved := [] }]).hold (engineHolds t [])

/-- Row `r` of panel `p` of an operand, from the bytes read (R134). -/
def operandRow (f : NFmt) (elems scales : List Byte) (p r : Nat) : Row :=
  let n := 4 * f.width
  let eb := (elems.drop (p * 512 * f.width + r * n)).take n
  let sc := match f.scaling with
    | .none => 0
    | .mx => ofLeBytes ((scales.drop (p * 128 + r)).take 1)
    | .q4t => ofLeBytes ((scales.drop (2 * (p * 128 + r))).take 2)
  ⟨f, unpack f.width (ofLeBytes eb) 32, sc⟩

/-- Fold the leaves of one tile element in the order of the blocks (R97, R136). -/
def foldLeaves (start : Bool) : List (Row × Row) → Flagged Nat → Flagged Nat
  | [], acc => acc
  | p :: ps, acc =>
    let x := leaf p.1 p.2
    if start then foldLeaves false ps ⟨x.val, acc.fl ||| x.fl⟩
    else
      let y := f32add acc.val x.val
      foldLeaves false ps ⟨y.val, acc.fl ||| x.fl ||| y.fl⟩

/-- Row `i` of the tile after an mmul, with the flags raised (R136). -/
def mulRow (op : MatOp) (f g : NFmt) (ea sa eb sb : List Byte) (i old : Nat) : Flagged Nat :=
  let cells := (lanes old).zipIdx.map (fun p =>
    foldLeaves op.chainStart ((List.range op.nblk).map (fun b => (operandRow f ea sa b i, operandRow g eb sb b p.2))) ⟨p.1, 0⟩)
  ⟨pack 32 (cells.map (·.val)), cells.foldl (fun a c => a ||| c.fl) 0⟩

/-- Bytes read at an offset, with those that a store of the operation's own bundle has overwritten as they stood before it (R130). -/
def asBefore (op : MatOp) (off : Nat) (bs : List Byte) : List Byte :=
  if op.saved.isEmpty then bs
  else bs.zipIdx.map (fun p => match op.saved.find? (fun x => x.1 == off + p.2) with
    | some x => x.2
    | none => p.1)

/-- Finish a matrix operation: read the operands, write the tile, raise flags and exceptions (R43, R136, R182). -/
def completeOp (st : Nat) (op : MatOp) (b : Body) : Body :=
  if op.isMul then
    match NFmt.ofCode op.fa, NFmt.ofCode op.fb with
    | some f, some g =>
      let oa := operandOf f op.pa op.nblk
      let ob := operandOf g op.pb op.nblk
      let ra := readSram b st oa.elem oa.elemLen
      let rsa := readSram ra.2 st oa.scale oa.scaleLen
      let rb := readSram rsa.2 st ob.elem ob.elemLen
      let rsb := readSram rb.2 st ob.scale ob.scaleLen
      let rows := (List.range 128).map (fun i =>
        mulRow op f g (asBefore op oa.elem ra.1.1) (asBefore op oa.scale rsa.1.1) (asBefore op ob.elem rb.1.1) (asBefore op ob.scale rsb.1.1) i (tileRow (stn b st) op.acc i))
      let b := forEach rows.zipIdx (fun p b => updStn b st (fun t => setRow t op.acc p.2 p.1.val)) rsb.2
      let b := takeExc st op.pc (sramExc 0 (ra.1.2 ++ rsa.1.2 ++ rb.1.2 ++ rsb.1.2)) b
      raiseFlags st op.pc 0 (rows.foldl (fun a r => a ||| r.fl) 0) b
    | _, _ => b
  else forEach (List.range 128) (fun i b => updStn b st (fun t => setRow t op.acc i 0)) b

/-- The next queued operation starts; at most two overlap, the one ahead near its last update (R137). -/
def matrixStart (st : Nat) (b : Body) : Body :=
  whenB (clocked b st && decide ((stn b st).matStarted < min 2 (stn b st).matQ.length))
    (fun b => updStn b st (fun t => { t with matStarted := t.matStarted + 1 })) b

/-- The tile of the operation in front is complete (R136, R137); releases that waited for it may go (R150). -/
def matrixComplete (st : Nat) (b : Body) : Body :=
  if clocked b st && decide (0 < (stn b st).matStarted) then
    match (stn b st).matQ with
    | [] => b
    | op :: rest =>
      let b := updStn b st (fun t => { t with matQ := rest, matStarted := t.matStarted - 1 })
      let b := completeOp st op b
      sendReleases st (updStn b st (fun t => { t with releases := t.releases.map (fun r => { r with matrix := r.matrix.filter (· != op.seq) }) }))
  else b

/-- NOP (R128): an opcode 0x00 slot does nothing; any other bit set is an illegal encoding. -/
def execNop (ix : Nat) (sl : Slot) (s : State) : Host.Outcome State Fault Refusal :=
  if 4 ≤ ix then .refused .wrongSlot
  else onSlot ix 0x00 (fun _ _ => if sl.w = 0 then SlotRes.ok [] else SlotRes.illegal ix sl.w) sl s

/-- MMUL (R132-R136). -/
def execMmul (sl : Slot) (s : State) : Host.Outcome State Fault Refusal := onSlot 0 0x10 (fun _ t => mmulSlot sl.w t) sl s

/-- MZERO (R132, R136). -/
def execMzero (sl : Slot) (s : State) : Host.Outcome State Fault Refusal := onSlot 0 0x20 (fun _ t => mzeroSlot sl.w t) sl s

/-- MATRIX_OP_START (R137). -/
def execMatrixOpStart (st : Nat) (s : State) : Host.Outcome State Fault Refusal :=
  onUnit (isStation st) (matrixStart st) s

/-- MATRIX_OP_COMPLETE (R136, R137). -/
def execMatrixOpComplete (st : Nat) (s : State) : Host.Outcome State Fault Refusal :=
  onUnit (isStation st) (matrixComplete st) s

end Sys2Proof.Machine
end

