-- ==== Sys2Proof/Machine/Pmc.lean ====
section
/-! DEFINITION. The commands of the performance counters (chapter 17). -/

namespace Sys2Proof.Machine

/-- A counter of a page. -/
def isCounter (p k : Nat) : Bool := decide (p < 785) && decide (k < (pageOf p).1.n)

/-- A host write of a counter (R606, R614): a granted page takes none. -/
def counterWrite (p k v : Nat) (b : Body) : Body :=
  if p < 768 ∧ flagF b R.PMC_STN_STATUS.granted p then b
  else let pg := pageOf p; setF b pg.1.count (pg.2 * pg.1.n + k) v

/-- A tick of an interval timer (R609, R610, R612). -/
def intervalTick (d t : Nat) (b : Body) : Body :=
  let i := d * 4 + t
  if getF b R.PMC_TIMER.period_us i = 0 then b
  else if getF b R.PMC_TIMER.owner i = 2 then
    forEach (List.range 48) (fun l b =>
      let p := d * 48 + l
      match physOf b d l with
      | some st =>
        if flagF b R.PMC_STN_CFG.interval_en p ∧ getF b R.PMC_STN_CFG.timer p = t then
          let body := (List.range 8).flatMap (fun k =>
            leBytes 6 (if flagF b R.PMC_S_SEL.interval (p * 8 + k) then getF b R.PMC_S_CNT.count (p * 8 + k) else 0))
          ringWrite d 1 l (pmcRecord 2 l 0 (getF b R.STN_SEQ_PC.pc st) b.now body) b
        else b
      | none => b) b
  else if getF b R.PMC_TIMER.owner i = 1 ∧ flagF b R.PMC_BUF_CFG.trace_en d ∧ 0 < ringSize b d 0 then
    ringWrite d 0 0xFF (pmcRecord 4 0xFF 0 0 b.now (leBytes 6 (strokeNum b) ++ leBytes 2 0 ++ hourStamp b)) b
  else b

/-- A refused claim (R607, R613). -/
def refuseClaim (d : Nat) (b : Body) : Body := pmcVector (setF b R.PMC_BUF_STATUS.refused d 8)

/-- A write of PMC_BUF_CFG (R607, R616): a ring whose units change starts empty (log entry 45). -/
def bufCfgWrite (d word : Nat) (b : Body) : Body :=
  let trace := bits word 0 4
  let sample := bits word 4 4
  if trace.land sample ≠ 0 then refuseClaim d b
  else
    let fresh := fun (ring old new : Nat) (b : Body) => if old = new then b
      else updPmc (fun p => { p with lost := SMap.put p.lost 0 (d * 2 + ring) 0 }) (setF (setF b (ringHead ring) d 0) (ringTail ring) d 0)
    let b := fresh 1 (getF b R.PMC_BUF_CFG.sample_units d) sample (fresh 0 (getF b R.PMC_BUF_CFG.trace_units d) trace b)
    let b := setF (setF b R.PMC_BUF_CFG.trace_units d trace) R.PMC_BUF_CFG.sample_units d sample
    let b := setFlag (setFlag b R.PMC_BUF_CFG.wrap d (bit word 8)) R.PMC_BUF_CFG.trace_en d (bit word 9)
    showClaims d (setF b R.PMC_BUF_CFG.watermark d (bits word 12 4))

/-- A write of an interval timer (R607, R616): reserved values are discarded field by field (R12). -/
def timerWrite (d t word : Nat) (b : Body) : Body :=
  let i := d * 4 + t
  let owner := bits word 20 2
  let old := getF b R.PMC_TIMER.owner i
  if owner ≠ 3 ∧ owner ≠ 0 ∧ old ≠ 0 ∧ owner ≠ old then refuseClaim d b
  else
    let b := if bits word 0 20 ≤ 1000000 then setF b R.PMC_TIMER.period_us i (bits word 0 20) else b
    showClaims d (if owner = 3 then b else setF b R.PMC_TIMER.owner i owner)

/-- A write of PMC_TRIG (R511, R611). -/
def trigWrite (word : Nat) (b : Body) : Body :=
  let src := bits word 0 2
  let holder := getF b R.GBL_CLAIM_AUX.holder 0
  let b := if bit word 31 then setFlag b R.PMC_TRIG.refused 0 false else b
  if src ≠ 0 ∧ holder = 1 then pmcVector (setFlag b R.PMC_TRIG.refused 0 true)
  else
    let b := setF (setF b R.PMC_TRIG.source 0 src) R.PMC_TRIG.die 0 (bits word 2 4)
    let b := if bits word 6 6 < 48 then setF b R.PMC_TRIG.station 0 (bits word 6 6) else b
    let b := setF b R.PMC_TRIG.counter 0 (bits word 12 5)
    if src ≠ 0 then setF (setF b R.GBL_CLAIM_AUX.holder 0 2) R.SHP_SYNCAUX.mode 0 2
    else if holder = 2 then setF (setF b R.GBL_CLAIM_AUX.holder 0 0) R.SHP_SYNCAUX.mode 0 0
    else b

/-- The host advances the tail of a ring (R608, R616): with room again, a lost record names the dropped ones. -/
def ringTailWrite (d ring tail : Nat) (b : Body) : Body :=
  if tail % 64 ≠ 0 ∨ 262144 ≤ tail then b
  else
    let b := setFlag (setF b (ringTail ring) d tail) R.PMC_BUF_STATUS.full d false
    let n := SMap.get b.pmc.lost 0 (d * 2 + ring)
    if n = 0 ∨ ringSize b d ring = 0 ∨ (getF b (ringHead ring) d + 64) % ringSize b d ring = tail then b
    else ringWrite d ring 0xFF (pmcRecord 5 0xFF 0 0 b.now (leBytes 4 n)) (updPmc (fun p => { p with lost := SMap.put p.lost 0 (d * 2 + ring) 0 }) b)

/-- PMC_EVENT_COUNT (R601, R605, R613). -/
def execPmcEventCount (page k occ cycles : Nat) (excess : Bool) (s : State) : Host.Outcome State Fault Refusal :=
  onUnit (isCounter page k) (countEvent page k occ cycles excess) s
/-- PMC_CNT_WRITE (R606, R614). -/
def execPmcCntWrite (page k v : Nat) (s : State) : Host.Outcome State Fault Refusal := onUnit (isCounter page k) (counterWrite page k v) s
/-- PMC_INTERVAL_TICK (R610). -/
def execPmcIntervalTick (die t : Nat) (s : State) : Host.Outcome State Fault Refusal := onUnit (isDie die && decide (t < 4)) (intervalTick die t) s
/-- PMC_BUF_CFG_WRITE (R607). -/
def execPmcBufCfgWrite (die word : Nat) (s : State) : Host.Outcome State Fault Refusal := onUnit (isDie die) (bufCfgWrite die word) s
/-- PMC_TIMER_WRITE (R607). -/
def execPmcTimerWrite (die t word : Nat) (s : State) : Host.Outcome State Fault Refusal :=
  onUnit (isDie die && decide (t < 4)) (timerWrite die t word) s
/-- PMC_TRIG_WRITE (R611). -/
def execPmcTrigWrite (word : Nat) (s : State) : Host.Outcome State Fault Refusal := lift (trigWrite word) s
/-- PMC_RING_TAIL_WRITE (R608). -/
def execPmcRingTailWrite (die ring tail : Nat) (s : State) : Host.Outcome State Fault Refusal :=
  onUnit (isDie die && decide (ring < 2)) (ringTailWrite die ring tail) s

end Sys2Proof.Machine
end

