-- ==== Sys2Proof/Machine/RackCommands.lean ====
section
/-! DEFINITION. The rack's requests: I3C addressing, MCTP control, PLDM base, monitoring and firmware update, and the management channels
(R619-R623). Completion codes and the values that the named standards leave to the device are in log entry 41. -/

namespace Sys2Proof.Machine

/-- The endpoint answers while a Shepherd is active (R495, R514). -/
def rackOn (f : Body → Body) (b : Body) : Body := if shepherdActive b then f b else b

/-- An answer of the endpoint. -/
def rackSay (what : String) (ws : List Nat) (b : Body) : Body := emit (.response what ws) b

/-- MAILBOX_EXCHANGE (R621): the request goes to the channel's request area and rings its doorbell. -/
def mailboxExchange (ch : Nat) (req : List Byte) (b : Body) : Body :=
  let m := 16 + ch
  if 1 < ch then rackSay "MAILBOX_EXCHANGE" [ch, 2] b
  else if getF b R.MBX_STATUS.state m = 1 ∨ getF b R.MBX_STATUS.state m = 2 then rackSay "MAILBOX_EXCHANGE" [ch, 4] b
  else ringDoorbell m (updMbx m (fun x => { x with request := (req.take 4096).zipIdx.foldl (fun q p => SMap.put q 0 p.2 p.1) [] }) b)

/-- Is an endpoint ID assignable? -/
def eidOk (eid : Nat) : Bool := decide (8 ≤ eid ∧ eid < 255)

/-- Set Endpoint ID: set or forced (R620). -/
def setEndpointId (op eid : Nat) (b : Body) : Body :=
  if op < 2 ∧ eidOk eid then rackSay "SET_ENDPOINT_ID" [0, 0, eid, 0] (updRack (fun r => { r with eid := eid }) b)
  else rackSay "SET_ENDPOINT_ID" [2] b

/-- MCTP versions by message type (R620). -/
def mctpVersions (type : Nat) (b : Body) : Body :=
  rackSay "GET_MCTP_VERSION_SUPPORT" (if type = 0 ∨ type = 0xFF then [0, 1, 0xF1, 0xF3, 0xF0, 0] else if type = 1 ∨ type = 5 then [0, 1, 0xF1, 0xF0, 0xF0, 0] else [0x80]) b

/-- Is the I3C target on its bus? -/
def i3cOn (b : Body) : Bool := b.cox.path.housekeeping && !b.cox.path.heldReset

/-- SETDASA: from the static address 0x50 + SLOT (R619). -/
def i3cSetdasa (static new : Nat) (b : Body) : Body :=
  if i3cOn b ∧ static = 0x50 + getF b R.GBL_SLOT.slot 0 ∧ b.rack.i3c.isNone then updRack (fun r => { r with i3c := some new }) b else b

/-- ENTDAA (R619). -/
def i3cEntdaa (new : Nat) (b : Body) : Body :=
  if i3cOn b ∧ b.rack.i3c.isNone then updRack (fun r => { r with i3c := some new }) b else b

/-- SetTID (R622). -/
def setTid (tid : Nat) (b : Body) : Body :=
  if tid = 0 ∨ 0xFF ≤ tid then rackSay "SETTID" [2] b else rackSay "SETTID" [0] (updRack (fun r => { r with tid := tid }) b)

/-- The version of a PLDM type (R622, R623). -/
def pldmVersion (type : Nat) : Option Nat :=
  if type = 0 ∨ type = 5 then some 0xF1F1F000 else if type = 2 then some 0xF1F2F000 else if type = 0x3F then some (Config.rackWord 2 0) else none

/-- The commands of a PLDM type (R621-R623). -/
def pldmCommands (type : Nat) : List Nat :=
  match type with
  | 0 => [1, 2, 3, 4, 5]
  | 2 => [0x04, 0x0A, 0x11, 0x21, 0x50, 0x51]
  | 5 => [0x01, 0x02, 0x10, 0x13, 0x14, 0x15, 0x16, 0x17, 0x18, 0x1A, 0x1B, 0x1C, 0x1D]
  | _ => [1]

/-- GetPLDMVersion. -/
def getPldmVersion (type : Nat) (b : Body) : Body :=
  rackSay "GETPLDMVERSION" (match pldmVersion type with
    | some v => [0, v]
    | none => [0x83]) b

/-- GetPLDMCommands: one bit for each command. -/
def getPldmCommands (type : Nat) (b : Body) : Body :=
  rackSay "GETPLDMCOMMANDS" (if (pldmVersion type).isNone then [0x83]
    else 0 :: (leBytes 32 ((pldmCommands type).foldl (fun a c => a + 2 ^ c) 0)).map (·.toNat)) b

/-- GetPDR: one record per sensor (R622). -/
def getPdr (handle : Nat) (b : Body) : Body :=
  let h := if handle = 0 then 1 else handle
  rackSay "GETPDR" (if h ≤ 11 then [0, if h = 11 then 0 else h + 1, h, if h ≤ 8 then 2 else 4, h, Config.rackWord 4 h] else [0x82]) b

/-- The highest of the 1 ms averages of some channels, in 0.01 °C. -/
def hottest (b : Body) (chs : List Nat) : Int :=
  (chs.map (fun c => sint 32 (getF b R.COX_TLM_AVG1MS.avg c))).foldl (fun (a : Int) v => max a v) (-27315)

/-- A numeric sensor (R407, R408, R451, R622), in its unit; what the unit cuts off is not shown (log entry 41). -/
def numericSensor (b : Body) (id : Nat) : Int :=
  match id with
  | 1 => sint 32 (getF b R.COX_TLM_AVG1MS.avg (16 * 64 + 2)) / 1000
  | 2 => sint 32 (getF b R.COX_TLM_AVG1MS.avg (16 * 64)) / 10000
  | 3 => getF b R.LDG_LEVEL.level_w 0
  | 4 => getF b R.COX_CAP.cap_w 16
  | 5 => getF b R.LDG_E0.e0_mj 0 / 1000
  | 6 => hottest b ((List.range 16).map (fun e => e * 64 + 9)) / 100
  | 7 => hottest b ([18, 19].flatMap (fun e => (List.range 6).map (fun k => e * 64 + 48 + k))) / 100
  | _ => (((List.range 8).filter (fun j => !flagF b R.CMN_TEMP.fault j)).map (fun j => sint 16 (getF b R.CMN_TEMP.t j))).foldl (fun (a : Int) v => max a v) (-27315) / 100

/-- GetSensorReading. -/
def getSensorReading (id : Nat) (b : Body) : Body :=
  rackSay "GETSENSORREADING" (if 1 ≤ id ∧ id ≤ 8 then [0, 0, uint 32 (numericSensor b id)] else [0x80]) b

/-- The code of a state sensor (R331, R358, R626). -/
def stateCode (b : Body) (id : Nat) : Nat := if id = 9 then power b else if id = 10 then runState b else b.rack.drain

/-- GetStateSensorReadings: the code + 1, and the one before. -/
def getStateSensor (id : Nat) (b : Body) : Body :=
  rackSay "GETSTATESENSORREADINGS" (if 9 ≤ id ∧ id ≤ 11 then [0, 1, 0, stateCode b id + 1, (sensor b id).previous + 1] else [0x80]) b

/-- SetEventReceiver (R622): events are sent as they arise, or not at all. -/
def setReceiver (enable eid : Nat) (b : Body) : Body :=
  if enable = 0 then rackSay "SETEVENTRECEIVER" [0] (updRack (fun r => { r with receiver := none, events := 0 }) b)
  else if enable = 1 ∧ eidOk eid then rackSay "SETEVENTRECEIVER" [0] (updRack (fun r => { r with receiver := some eid }) b)
  else rackSay "SETEVENTRECEIVER" [if enable = 1 then 2 else 0x81] b

/-- The event receiver acknowledges a PlatformEventMessage (R622). -/
def eventAck (b : Body) : Body := updRack (fun r => { r with events := r.events - 1 }) b

/-- The 100 ms of a sensor end (R622): a change that waited is sent. -/
def holdoffEnd (id : Nat) (b : Body) : Body :=
  let x := sensor b id
  if !x.holding then b
  else
    let b := updSensor id (fun y => { y with holding := false, waiting := none }) b
    match x.waiting, b.rack.receiver with
    | some code, some eid =>
      emit (.response "PLATFORM_EVENT_MESSAGE" [eid, id, code + 1, x.previous + 1])
        (updRack (fun r => { r with events := r.events + 1 }) (updSensor id (fun y => { y with holding := true }) b))
    | _, _ => b

/-- The component identifier of the Shepherd firmware image (R623). -/
def component : Nat := 0x6180

/-- The firmware device enters a state. -/
def setUpdate (u : UpdateState) (b : Body) : Body := updRack (fun r => { r with updateWas := r.update, update := u }) b

/-- The number of a state of the firmware device. -/
def UpdateState.code : UpdateState → Nat
  | .idle => 0
  | .learn => 1
  | .ready => 2
  | .download => 3
  | .verify => 4
  | .apply => 5
  | .activate => 6

/-- GetFirmwareParameters: the one component, its running and its staged version. -/
def firmwareParameters (b : Body) : Body :=
  let v := fun (s : Nat) => ((slotImage b s).map versionOf).getD 0
  let run := getF b R.SHP_FW_SLOTS.running_slot 0
  rackSay "GETFIRMWAREPARAMETERS" [0, Config.rackWord 6 0, 1, component, v run, v (1 - run)] b

/-- RequestUpdate (R623). -/
def requestUpdate (b : Body) : Body :=
  let staging := (List.range 18).any (fun m => ((mbx b m).taken.map (fun t => t.opcode == 0x0801 || t.opcode == 0x0802)).getD false)
  if b.rack.update ≠ .idle then rackSay "REQUESTUPDATE" [0x81] b
  else if staging ∨ trialOn b ∨ b.trust.deferred then rackSay "REQUESTUPDATE" [0x8E] b
  else rackSay "REQUESTUPDATE" [0, 0, 0] (setUpdate .learn b)

/-- PassComponentTable. -/
def passTable (comp : Nat) (b : Body) : Body :=
  if b.rack.update = .idle then rackSay "PASSCOMPONENTTABLE" [0x80] b
  else if b.rack.update ≠ .learn then rackSay "PASSCOMPONENTTABLE" [0x84] b
  else if comp = component then rackSay "PASSCOMPONENTTABLE" [0, 0, 0] (setUpdate .ready b)
  else rackSay "PASSCOMPONENTTABLE" [0, 1, Config.rackWord 7 0] b

/-- UpdateComponent: the transfer starts, in units of 512 bytes. -/
def updateComponent (comp size : Nat) (b : Body) : Body :=
  if b.rack.update = .idle then rackSay "UPDATECOMPONENT" [0x80] b
  else if b.rack.update ≠ .ready then rackSay "UPDATECOMPONENT" [0x84] b
  else if comp ≠ component ∨ size = 0 ∨ slotBytes < size then rackSay "UPDATECOMPONENT" [0, 1, Config.rackWord 7 1] b
  else
    let b := rackSay "UPDATECOMPONENT" [0, 0, 0] (setUpdate .download b)
    rackSay "REQUEST_FIRMWARE_DATA" [0, 512] (updRack (fun r => { r with size := size, image := [], applied := false }) b)

/-- The whole image has arrived (R573, R623): it is verified and applied, or verification fails and the update waits for a cancel. -/
def verifyImage (b : Body) : Body :=
  let bs := b.rack.image
  let b := rackSay "TRANSFER_COMPLETE" [0] b
  let n := bfield bs 8 4
  let bad := if headerOk bs b.rack.size then imageFails b (bs.take n) true else some (imageFail 0x0A 0)
  match bad with
  | some _ => rackSay "VERIFY_COMPLETE" [1] (setUpdate .verify b)
  | none =>
    let b := rackSay "APPLY_COMPLETE" [0] (rackSay "VERIFY_COMPLETE" [0] (writeSlot (imageOf bs) b))
    updRack (fun r => { r with image := [], applied := true }) (setUpdate .ready (setUpdate .apply (setUpdate .verify b)))

/-- A response to RequestFirmwareData arrives. -/
def firmwareData (data : List Byte) (b : Body) : Body :=
  if b.rack.update ≠ .download then b
  else
    let b := updRack (fun r => { r with image := r.image ++ (data.take 512).take (r.size - r.image.length) }) b
    if b.rack.size ≤ b.rack.image.length then verifyImage b else rackSay "REQUEST_FIRMWARE_DATA" [b.rack.image.length, 512] b

/-- ActivateFirmware: self-contained activation acts as FW_ACTIVATE now, otherwise at the next power-on reset. -/
def activateFirmware (self : Bool) (b : Body) : Body :=
  if b.rack.update = .idle then rackSay "ACTIVATEFIRMWARE" [0x80] b
  else if b.rack.update ≠ .ready then rackSay "ACTIVATEFIRMWARE" [0x84] b
  else if !b.rack.applied then rackSay "ACTIVATEFIRMWARE" [0x85] b
  else
    let b := updRack (fun r => { r with applied := false }) (setUpdate .idle (setUpdate .activate b))
    activate self (rackSay "ACTIVATEFIRMWARE" [0, Config.rackWord 8 0] b)

/-- GetStatus: the state of the firmware device and the one before. -/
def updateStatus (b : Body) : Body :=
  rackSay "GETSTATUS" [0, b.rack.update.code, b.rack.updateWas.code] b

/-- CancelUpdateComponent. -/
def cancelComponent (b : Body) : Body :=
  match b.rack.update with
  | .idle => rackSay "CANCELUPDATECOMPONENT" [0x80] b
  | .learn => rackSay "CANCELUPDATECOMPONENT" [0x84] b
  | .ready => rackSay "CANCELUPDATECOMPONENT" [0x84] b
  | _ => rackSay "CANCELUPDATECOMPONENT" [0] (updRack (fun r => { r with image := [] }) (setUpdate .ready b))

/-- CancelUpdate. -/
def cancelUpdate (b : Body) : Body :=
  if b.rack.update = .idle then rackSay "CANCELUPDATE" [0x80] b
  else rackSay "CANCELUPDATE" [0, 0, 0] (updRack (fun r => { r with image := [], applied := false }) (setUpdate .idle b))

/-- MAILBOX_EXCHANGE (R621). -/
def execMailboxExchange (ch : Nat) (req : List Byte) (s : State) : Host.Outcome State Fault Refusal := lift (rackOn (mailboxExchange ch req)) s
/-- SET_ENDPOINT_ID (R620). -/
def execSetEndpointId (op eid : Nat) (s : State) : Host.Outcome State Fault Refusal := lift (rackOn (setEndpointId op eid)) s
/-- GET_ENDPOINT_ID (R620). -/
def execGetEndpointId (s : State) : Host.Outcome State Fault Refusal :=
  lift (rackOn (fun b => rackSay "GET_ENDPOINT_ID" [0, b.rack.eid, 0, 0] b)) s
/-- GET_ENDPOINT_UUID (R620). -/
def execGetEndpointUuid (s : State) : Host.Outcome State Fault Refusal :=
  lift (rackOn (rackSay "GET_ENDPOINT_UUID" (0 :: Config.endpointUuid.map (·.toNat)))) s
/-- GET_MCTP_VERSION_SUPPORT (R620). -/
def execGetMctpVersionSupport (type : Nat) (s : State) : Host.Outcome State Fault Refusal := lift (rackOn (mctpVersions type)) s
/-- GET_MESSAGE_TYPE_SUPPORT (R620). -/
def execGetMessageTypeSupport (s : State) : Host.Outcome State Fault Refusal := lift (rackOn (rackSay "GET_MESSAGE_TYPE_SUPPORT" [0, 3, 0, 1, 5])) s
/-- SETDASA (R619). -/
def execSetdasa (static new : Nat) (s : State) : Host.Outcome State Fault Refusal := lift (i3cSetdasa static new) s
/-- ENTDAA (R619). -/
def execEntdaa (new : Nat) (s : State) : Host.Outcome State Fault Refusal := lift (i3cEntdaa new) s
/-- GETTID (R622). -/
def execGettid (s : State) : Host.Outcome State Fault Refusal := lift (rackOn (fun b => rackSay "GETTID" [0, b.rack.tid] b)) s
/-- SETTID (R622). -/
def execSettid (tid : Nat) (s : State) : Host.Outcome State Fault Refusal := lift (rackOn (setTid tid)) s
/-- GETPLDMVERSION (R622). -/
def execGetpldmversion (type : Nat) (s : State) : Host.Outcome State Fault Refusal := lift (rackOn (getPldmVersion type)) s
/-- GETPLDMTYPES (R622). -/
def execGetpldmtypes (s : State) : Host.Outcome State Fault Refusal := lift (rackOn (rackSay "GETPLDMTYPES" [0, 0x25, 0, 0, 0, 0, 0, 0, 0x80])) s
/-- GETPLDMCOMMANDS (R622). -/
def execGetpldmcommands (type : Nat) (s : State) : Host.Outcome State Fault Refusal := lift (rackOn (getPldmCommands type)) s
/-- GETPDRREPOSITORYINFO (R622). -/
def execGetpdrrepositoryinfo (s : State) : Host.Outcome State Fault Refusal :=
  lift (rackOn (rackSay "GETPDRREPOSITORYINFO" [0, 0, 11, Config.rackWord 3 0, Config.rackWord 3 1])) s
/-- GETPDR (R622). -/
def execGetpdr (handle : Nat) (s : State) : Host.Outcome State Fault Refusal := lift (rackOn (getPdr handle)) s
/-- GETSENSORREADING (R622). -/
def execGetsensorreading (id : Nat) (s : State) : Host.Outcome State Fault Refusal := lift (rackOn (getSensorReading id)) s
/-- GETSTATESENSORREADINGS (R622). -/
def execGetstatesensorreadings (id : Nat) (s : State) : Host.Outcome State Fault Refusal := lift (rackOn (getStateSensor id)) s
/-- SETEVENTRECEIVER (R622). -/
def execSeteventreceiver (enable eid : Nat) (s : State) : Host.Outcome State Fault Refusal := lift (rackOn (setReceiver enable eid)) s
/-- PLATFORM_EVENT_ACK (R622). -/
def execPlatformEventAck (s : State) : Host.Outcome State Fault Refusal := lift (rackOn eventAck) s
/-- PLDM_EVENT_HOLDOFF (R622). -/
def execPldmEventHoldoff (id : Nat) (s : State) : Host.Outcome State Fault Refusal := lift (rackOn (holdoffEnd id)) s
/-- QUERYDEVICEIDENTIFIERS (R623). -/
def execQuerydeviceidentifiers (s : State) : Host.Outcome State Fault Refusal :=
  lift (rackOn (rackSay "QUERYDEVICEIDENTIFIERS" [0, Config.rackWord 5 0, Config.rackWord 5 1])) s
/-- GETFIRMWAREPARAMETERS (R623). -/
def execGetfirmwareparameters (s : State) : Host.Outcome State Fault Refusal := lift (rackOn firmwareParameters) s
/-- REQUESTUPDATE (R623). -/
def execRequestupdate (s : State) : Host.Outcome State Fault Refusal := lift (rackOn requestUpdate) s
/-- PASSCOMPONENTTABLE (R623). -/
def execPasscomponenttable (comp : Nat) (s : State) : Host.Outcome State Fault Refusal := lift (rackOn (passTable comp)) s
/-- UPDATECOMPONENT (R623). -/
def execUpdatecomponent (comp size : Nat) (s : State) : Host.Outcome State Fault Refusal := lift (rackOn (updateComponent comp size)) s
/-- FIRMWARE_DATA_RECEIVE (R573, R623). -/
def execFirmwareDataReceive (data : List Byte) (s : State) : Host.Outcome State Fault Refusal := lift (rackOn (firmwareData data)) s
/-- ACTIVATEFIRMWARE (R623). -/
def execActivatefirmware (self : Bool) (s : State) : Host.Outcome State Fault Refusal := lift (rackOn (activateFirmware self)) s
/-- GETSTATUS (R623). -/
def execGetstatus (s : State) : Host.Outcome State Fault Refusal := lift (rackOn updateStatus) s
/-- CANCELUPDATECOMPONENT (R623). -/
def execCancelupdatecomponent (s : State) : Host.Outcome State Fault Refusal := lift (rackOn cancelComponent) s
/-- CANCELUPDATE (R623). -/
def execCancelupdate (s : State) : Host.Outcome State Fault Refusal := lift (rackOn cancelUpdate) s

end Sys2Proof.Machine
end

