-- ==== Sys2Proof/Machine/RegAccess.lean ====
section
/-! DEFINITION. Register reads and writes by address, through BAR0, through BAR2 and by firmware in control space (R10-R13, R168-R172,
R501), and BAR2 accesses of the rest of the module address map. -/

namespace Sys2Proof.Machine

/-- What lies at an offset of BAR0 or of control space: a register block with its instance and the offset in it, the instruction store
of a station, a request or response area, the logbook window, the MSI-X table and its pending bits, a host drover's ring, a counter
buffer, offsets that no chapter assigns, or nothing. -/
inductive Spot where
  | reg (blk : Block) (inst off : Nat)
  | istore (st off : Nat)
  | request (m off : Nat)
  | response (m off : Nat)
  | window (off : Nat)
  | msix (off : Nat)
  | pba (off : Nat)
  | ring (h off : Nat)
  | buffer (d off : Nat)
  | blank
  | unmapped
deriving DecidableEq, Repr

/-- BAR0 (R210, R501). -/
def bar0Spot (x : Nat) : Spot :=
  if x < 0x400 then .reg .gbl 0 x
  else if x < 0x600 then .reg .mbx ((x - 0x400) / 0x20) ((x - 0x400) % 0x20)
  else if 0x1000 ≤ x ∧ x < 0x2000 then .reg .shp 0 (x - 0x1000)
  else if 0x10000 ≤ x ∧ x < 0x30000 then
    let m := (x - 0x10000) / 0x2000
    let o := x % 0x2000
    if o < 0x1000 then .request m o else .response m (o - 0x1000)
  else if 0x40000 ≤ x ∧ x < 0x50000 then
    let o := x - 0x40000
    if 0x1000 ≤ o ∧ o < 0x2000 then .window (o - 0x1000) else .reg .lgb 0 o
  else if 0x50000 ≤ x ∧ x < 0x50400 then .reg .irq 0 (x - 0x50000)
  else if 0x58000 ≤ x ∧ x < 0x58400 then .msix (x - 0x58000)
  else if 0x5C000 ≤ x ∧ x < 0x5C008 then .pba (x - 0x5C000)
  else if 0x100000 ≤ x ∧ x < 0x400000 then .reg .pmcs ((x - 0x100000) / 0x1000) (x % 0x1000)
  else if 0x400000 ≤ x ∧ x < 0x410000 then .reg .pmcd ((x - 0x400000) / 0x1000) (x % 0x1000)
  else if 0x410000 ≤ x ∧ x < 0x411000 then .reg .pmcm 0 (x % 0x1000)
  else if 0x1000000 ≤ x ∧ x < 0x1040000 then
    let h := (x - 0x1000000) / 0x10000
    let o := x % 0x10000
    if o < 0x1000 then .ring h o else if 0x8000 ≤ o ∧ o < 0x9000 then .reg .hq h (o - 0x8000)
    else if 0x9000 ≤ o ∧ o < 0x9100 then .reg .chk (2048 + h) (o - 0x9000) else .blank
  else .blank

/-- The region of a die in control space (R171, R209): what it does not assign reads 0. -/
def dieSpot (d y : Nat) : Spot :=
  if y < 0x40000 then (if y / 0x1000 < 52 then .reg .stn (d * 64 + y / 0x1000) (y % 0x1000) else .blank)
  else if y < 0x80000 then
    let p := (y - 0x40000) / 0x1000
    let z := y % 0x1000
    if 52 ≤ p then .blank
    else if z < 0x800 then .reg .drv ((d * 64 + p) * 2 + z / 0x400) (z % 0x400)
    else if z < 0xA00 then .reg .chk ((d * 64 + p) * 2 + (z - 0x800) / 0x100) (z % 0x100) else .blank
  else if y < 0x81000 then .reg .die d (y - 0x80000)
  else if 0x100000 ≤ y ∧ y < 0x100000 + 52 * 0x20000 then .istore (d * 64 + (y - 0x100000) / 0x20000) (y % 0x20000)
  else .blank

/-- The region of a link die in control space (R294). -/
def linkSpot (n z : Nat) : Spot :=
  if z < 0xF000 then .reg .klkd n z
  else if z < 0x10000 then .reg .chk (2060 + n) (z - 0xF000)
  else if z < 0x60000 then
    match ((List.range 18).filter (fun p => portDie p == n))[z / 0x10000 - 1]? with
    | some p => .reg .klkp p (z % 0x10000)
    | none => .blank
  else if 0x80000 ≤ z ∧ z < 0x90000 then .reg .klkr 0 z
  else .blank

/-- The counter pages and buffers in control space (R598, R607). -/
def pmcSpot (z : Nat) : Spot :=
  let d := z / 0x40000
  let pg := z % 0x40000 / 0x1000
  if d < 16 then (if pg = 0 then .reg .pmcd d (z % 0x1000) else if pg ≤ 48 then .reg .pmcs (d * 48 + pg - 1) (z % 0x1000) else .blank)
  else if 0x400000 ≤ z ∧ z < 0x401000 then .reg .pmcm 0 (z % 0x1000)
  else if 0x800000 ≤ z ∧ z < 0xC00000 then .buffer ((z - 0x800000) / 0x40000) (z % 0x40000)
  else .blank

/-- A Shepherd's own address space (R205, R486): its two check-value units; the rest is its processor's. -/
def localSpot (w a : Nat) : Spot :=
  if 0x0400F000 ≤ a ∧ a < 0x0400F200 then .reg .chk (2052 + 2 * w + (a - 0x0400F000) / 0x100) (a % 0x100) else .blank

/-- Control space, by module address (R171, R208, R253, R294, R367, R450, R485, R598). -/
def ctlSpot (a : Nat) : Spot :=
  if a < 0xFF00000000 ∨ 0xFFFFFFFFFF < a then .unmapped
  else
    let x := a - 0xFF00000000
    if x < 0x10000000 then dieSpot (x / 0x1000000) (x % 0x1000000)
    else if x < 0x100C0000 then .reg .mem ((x - 0x10000000) / 0x10000) (x % 0x10000)
    else if x < 0x100D0000 then (if x % 0x10000 < 0x1000 then .reg .cmt 0 (x % 0x10000) else .reg .tly 0 (x % 0x10000 - 0x1000))
    else if 0x11000000 ≤ x ∧ x < 0x11400000 then linkSpot ((x - 0x11000000) / 0x100000) (x % 0x100000)
    else if 0x12000000 ≤ x ∧ x < 0x12140000 then .reg .cox ((x - 0x12000000) / 0x10000) (x % 0x10000)
    else if 0x13000000 ≤ x ∧ x < 0x13100000 then (if x < 0x13080000 then .reg .ldg 0 (x - 0x13000000) else .reg .stp 0 (x - 0x13080000))
    else if 0x13100000 ≤ x ∧ x < 0x13200000 then .reg .cmn 0 (x - 0x13100000)
    else if 0x14000000 ≤ x ∧ x < 0x15000000 then pmcSpot (x - 0x14000000)
    else .unmapped

/-- Does an engine use a register of its block (R408, R411-R417)? -/
def coxUses (b : Body) (r : RegSpec) (i : Nat) : Bool :=
  let e := i / r.count
  if r.block ≠ .cox then true
  else if r.off = 0x30 then e == 16
  else if r.off = 0x20 ∨ r.off = 0x24 ∨ (0x40 ≤ r.off ∧ r.off < 0x80) then decide (e < 16)
  else if 0x1000 ≤ r.off ∧ r.off < 0x4000 then slotPresent b e (i % 16)
  else if 0x4000 ≤ r.off ∧ r.off < 0x8000 then slotPresent b e (i % 256 / 16)
  else if 0x9000 ≤ r.off ∧ r.off < 0xA000 then decide (e < 16) || e == 17
  else if 0xA000 ≤ r.off then flagF b R.COX_TLM_ID.present i
  else true

/-- Clear the RC fields that a read returns (R10): `lo` and `n` are the bits of the register that it reads. -/
def clearRead (r : RegSpec) (i lo n : Nat) (b : Body) : Body :=
  forEach r.fields (fun f b =>
    let a := max lo f.lo - f.lo
    let z := min (lo + n - f.lo) f.field.width
    if f.acc = .rc ∧ a < z then setF b f.field i (setBits (getF b f.field i) a (z - a) (bits (f.rst i) a (z - a))) else b) b

/-- Read a word of a register block (R10-R13): a narrow read has the side effects of a full read of the register; a read of one half
of a 64-bit register clears the bits it returns (log entry 51). -/
def readRegWord (blk : Block) (inst off : Nat) (narrow : Bool) (b : Body) : Nat × Body :=
  match regAt blk off with
  | none => (0, b)
  | some (r, k, hi) =>
    let i := inst * r.count + k
    if !coxUses b r i then (0, b)
    else
      let w := regWord b r.reg i
      (if hi then w / 2 ^ 32 else w % 2 ^ 32,
       if narrow then clearRead r i 0 64 b else clearRead r i (if hi then 32 else 0) 32 b)

/-- A unit of an instruction store (R127, R181): its bytes, or none where it is uncorrectable. -/
def istoreUnit (b : Body) (st u : Nat) : Option (List Byte) :=
  (decodeUnit (leBytes 32 (SMap.get (stn b st).istore 0 u).toNat) (SMap.get (stn b st).badIstore [] u) b.free).bytes

/-- Four bytes at an aligned place, with what reading them changes. -/
def readSpot (sp : Spot) (narrow : Bool) (b : Body) : List Byte × Body :=
  match sp with
  | .reg blk inst off => let r := readRegWord blk inst off narrow b; (leBytes 4 r.1, r.2)
  | .istore st off =>
    if flagF b R.STN_CTRL.run st then (leBytes 4 0xFFFFFFFF, b)
    else (bslice ((istoreUnit b st (off / 32)).getD (List.replicate 32 0xFF)) (off % 32) 4, { b with free := b.free + 4 })
  | .request m off => (reqBytes b m off 4, b)
  | .response m off => (bslice ((mbx b m).response ++ List.replicate 4096 0) off 4, b)
  | .window off => (bslice (b.logbook.windowSeqs.flatMap LogRec.bytes ++ List.replicate 4096 0) off 4, b)
  | .msix off =>
    let e := msixEntry b (off / 16)
    (bslice (leBytes 8 e.addr ++ leBytes 4 e.data ++ leBytes 4 (ofFlag e.masked)) (off % 16) 4, b)
  | .pba off => (bslice (leBytes 8 b.host.msixPending) off 4, b)
  | .ring h off => ((List.range 4).map (fun j => SMap.get (SMap.get b.hostDrovers HostDrover.reset h).ring 0 (off + j)), b)
  | .buffer d off => ((List.range 4).map (fun j => SMap.get b.pmc.buffer 0 (d * 262144 + off + j)), b)
  | _ => ([0, 0, 0, 0], b)

/-- Read `n` bytes, word by word; a word that is read in part is a narrow read. The registers one read covers show their values before any of
them is cleared (R10): `b0` is the state before. -/
def readWords (spot : Nat → Spot) (b0 : Body) (a n : Nat) : Nat → Nat → Body → List Byte × Body
  | 0, _, b => ([], b)
  | k + 1, w, b =>
    let lo := max a w
    let hi := min (a + n) (w + 4)
    let r := readSpot (spot w) (decide (hi - lo < 4)) b
    let v := match spot w with
      | .reg blk inst off => (readSpot (.reg blk inst off) false b0).1
      | _ => r.1
    let rest := readWords spot b0 a n k (w + 4) r.2
    (bslice v (lo - w) (hi - lo) ++ rest.1, rest.2)

/-- Read `n` bytes from an address on. -/
def readAt (spot : Nat → Spot) (a n : Nat) (b : Body) : List Byte × Body :=
  readWords spot b a n ((a + n + 3) / 4 - a / 4) (a - a % 4) b

/-- The classes of events that a counter page has (R602-R604): 0 the code is not listed, 1 an event, 2 an occupancy. -/
def eventClass (blk : Block) (code : Nat) : Nat :=
  let evs := match blk with
    | .pmcs => [0x00, 0x01, 0x02, 0x03, 0x04, 0x05, 0x06, 0x07, 0x08, 0x09, 0x10, 0x11, 0x12, 0x13, 0x14, 0x20, 0x21, 0x22, 0x30, 0x31, 0x32, 0x38, 0x39, 0x3A]
    | .pmcd => [0x00, 0x01, 0x02, 0x03, 0x04, 0x10, 0x11, 0x12]
    | _ => [0x00, 0x01, 0x02, 0x03, 0x04, 0x05, 0x06, 0x07, 0x08, 0x10, 0x11, 0x12, 0x13, 0x14, 0x15, 0x16]
  let top := match blk with
    | .pmcs => 0x44
    | .pmcd => 0x42
    | _ => 0x43
  if evs.contains code then 1 else if 0x40 ≤ code ∧ code ≤ top then 2 else 0

/-- May a field of a counter selection take a value (R601-R604, R615)? `w` is the selection as written. -/
def selLegal (b : Body) (blk : Block) (f : Field) (ev : Field) (mode unit_ : Field) (i v w : Nat) : Bool :=
  let code := if eventClass blk (w % 256) = 0 then getF b ev i else w % 256
  if f = ev then eventClass blk v != 0
  else if f = mode then (v != 2 || eventClass blk code == 2) && (v != 3 || blk != .pmcm)
  else if f = unit_ then
    match blk with
    | .pmcs => false
    | .pmcd => decide (v < 4)
    | _ => if [4, 5, 6, 7, 0x40].contains code then decide (v % 32 < 18) else if [0x13, 0x14, 0x41].contains code then decide (v % 32 < 20) else true
  else true

/-- May a field take a value, beside the range of its map (R12)? `w` is the register as written. -/
def fieldLegal (b : Body) (r : RegSpec) (f : Field) (i v w : Nat) : Bool :=
  if f = R.MEM_STG_BASE.base then v % 1048576 == 0 && v / stackBytes == i
  else if f = R.MEM_STG_SIZE.size_mib then (stk b i).tail.isEmpty && (stk b i).mirrorTail.isEmpty
  else if f = R.COX_CTRL.engine_en then v == 1 || (List.range 16).all (fun l => loopMode b i l == 0)
  else if f = R.COX_LOOP_CFG.pg then decide (v < 8) || v == 15
  else if f = R.COX_LOOP_CFG.group then v == 0 || (i / 16 == 16 && [0, 2].contains (i % 16)) || (i / 16 == 17 && i % 16 < 2)
  else if f = R.COX_SHED_THR.add_pct then decide (w % 256 < v)
  else if f = R.CMN_BAL_POLICY.hyst_mv then decide (v < (let t := bits w 2 8; if 4 ≤ t ∧ t ≤ 100 then t else getF b R.CMN_BAL_POLICY.threshold_mv 0))
  else if f = R.LDG_CFG2.stop_kj then decide (v * 1000000 < getF b R.LDG_RESERVE.reserve_mj 0)
  else if f = R.LGB_CTRL.area ∨ f = R.LGB_CURSOR.seq then getF b R.LGB_WIN_STATUS.state 0 != 1
  else if r.block = .pmcs ∧ r.off = 0 then selLegal b .pmcs f R.PMC_S_SEL.event R.PMC_S_SEL.mode R.PMC_S_SEL.unit i v w
  else if r.block = .pmcd ∧ r.off = 0 then selLegal b .pmcd f R.PMC_D_SEL.event R.PMC_D_SEL.mode R.PMC_D_SEL.unit i v w
  else if r.block = .pmcm ∧ r.off = 0 then selLegal b .pmcm f R.PMC_M_SEL.event R.PMC_M_SEL.mode R.PMC_M_SEL.unit i v w
  else true

/-- What clearing a valid bit clears beside it (R207, R209, R295). -/
def clearRecord (f : Field) (i : Nat) (b : Body) : Body :=
  let zero := fun (fs : List Field) => forEach fs (fun g b => setF b g i 0) b
  if f = R.MEM_ERR_INFO.valid then
    zero [R.MEM_ERR_INFO.pos0, R.MEM_ERR_INFO.pos1, R.MEM_ERR_INFO.kind, R.MEM_ERR_INFO.more, R.MEM_ERR_ADDR.addr]
  else if f = R.DRV_FAULT.valid then zero [R.DRV_FAULT.cause, R.DRV_FAULT.detail, R.DRV_FAULT.pc, R.DRV_FAULT.fromList]
  else if f = R.KLK_LOSS_LOG.valid then
    zero [R.KLK_LOSS_LOG.moduleIx, R.KLK_LOSS_LOG.reason, R.KLK_LOSS_LOG.detector, R.KLK_LOSS_LOG.from_telegram, R.KLK_LOSS_LOG.dropped]
  else b

/-- What the new value of a field does at once: a stack leaves self-refresh (R177), a port is held down or trains (R296; log entry
51), CRC-16 and CRC-32C use the low bits of their value (R211), alive_en set starts the alive check anew (R204), and phases run where shedding is
switched off (R412, R416). -/
def fieldEffect (f : Field) (i v : Nat) (b : Body) : Body :=
  if f = R.MEM_CTRL.self_refresh ∧ v = 0 ∧ getF b R.MEM_STATUS.state i = 3 then setF b R.MEM_STATUS.state i 2
  else if f = R.KLK_PORT_CTRL.enable then
    if v = 0 then (if isolated b then b else portDown i 0 b)
    else if portState b i = 0 ∧ flagF b R.KLK_PORT_STATUS.present i ∧ !flagF b R.KLK_PORT_STATUS.power_refused i ∧ !isolated b then startTraining i b else b
  else if f = R.CHK_RUN.run then
    let algo := getF b R.CHK_CTRL.algo i
    if algo = 1 then setF b f i (v % 65536) else if algo = 2 then setF b f i (v % 2 ^ 32) else b
  else if f = R.CHK_CTRL.alive_en ∧ v = 1 then setFlag b R.CHK_ALIVE_LAST.seen i false
  else if f = R.COX_CTRL.shed_en ∧ v = 0 then runAllPhases i b
  else if f = R.COX_SHED_CFG.en ∧ v = 0 then abortShed i b
  else b

/-- A field that no command of its own writes takes a written value (R10, R12). -/
def writeField (r : RegSpec) (i raw full mask : Nat) (f : FieldSpec) (b : Body) : Body :=
  let v := bits full f.lo f.field.width
  let hit := bits raw f.lo f.field.width
  if f.ownRow ∨ bits mask f.lo f.field.width = 0 then b
  else match f.acc with
    | .rw =>
      if f.legalLo ≤ v ∧ v ≤ f.legalHi ∧ fieldLegal b r f.field i v full then
        if getF b f.field i = v then b else fieldEffect f.field i v (setF b f.field i v)
      else b
    | .w1c =>
      let b := setF b f.field i (getF b f.field i - (getF b f.field i).land hit)
      if hit = 0 then b else clearRecord f.field i b
    | .w1s => setF b f.field i ((getF b f.field i).lor hit)
    | _ => b

/-- Apply an effect where a bit is written as 1, and where a one-bit field changes. -/
def onBit (raw k : Nat) (f : Body → Body) (b : Body) : Body := if bit raw k then f b else b

/-- A one-bit field is written: its effect where it changes. -/
def onChange (f : Field) (i full k : Nat) (g : Bool → Body → Body) (b : Body) : Body :=
  if flagF b f i = bit full k then b else g (bit full k) b

/-- The fields of the stations, dies, stacks, drovers and check-value units whose writes are commands of their own. The fields of one word take
effect from the lowest bit up: run, fence, power_gate, sram_init (R75), quiesce before map_commit (R79), resume before flush (log entry 74). -/
def ownWriteLow (r i raw full : Nat) (b : Body) : Body :=
  if r = R.STN_CTRL then
    onBit raw 3 (fun b => setFlag b R.STN_STATUS.sram_init_busy i true)
      (onChange R.STN_CTRL.power_gate i full 2 (writePowerGate i) (onChange R.STN_CTRL.fence i full 1 (writeFence i) (onChange R.STN_CTRL.run i full 0 (writeRun i) b)))
  else if r = R.STN_DIE_CTRL then onBit raw 1 (mapCommit i) (onChange R.STN_DIE_CTRL.quiesce i full 0 (writeQuiesce i) b)
  else if r = R.STN_MAP then writeMap (i / 12) (i % 12) full b
  else if r = R.STN_SEQ_PC then writeSeqPc i (full % 2 ^ R.STN_SEQ_PC.pc.width) b
  else if r = R.STN_EXC_CAUSE then onBit raw 31 (clearExc i) b
  else if r = R.MEM_COMMIT_CTRL then setFlag b R.MEM_COMMIT_CTRL.hold 0 (bit full 0)
  else if r = R.DRV_CTRL then onBit raw 1 (droverFlush i) (onBit raw 0 (droverResume i) b)
  else if r = R.DRV_HQ_TAIL then tailWrite i (full % 64) b
  else if r = R.DRV_HQ_STATUS then onBit raw 31 (hqClear i) b
  else if r = R.CHK_CTRL then onBit raw 2 (chkInit i) b
  else if r = R.CHK_FEED then chkWriteFeed i (raw % 16) (bit raw 4) b
  else if r = R.TLY_STROKE_CTRL then onChange R.TLY_STROKE_CTRL.enable 0 full 0 writeEnable b
  else if r = R.KLK_DIE_CTRL then onBit raw 1 (rejoin i) (onBit raw 0 isolateModule b)
  else if r = R.KLK_PORT_CTRL then onBit raw 1 (portRetrain i) b
  else if r = R.KLK_ROUTE then writeRoute i (full % 4) (bits full 2 2) (bit raw 4) b
  else b

/-- The fields of the engines, of the power path and of the ring master whose writes are commands of their own. -/
def ownWritePower (r i raw full : Nat) (b : Body) : Body :=
  if r = R.COX_CAP then placeCap (full % 2 ^ 14) b
  else if r = R.COX_CLK_CEIL then clkForce i (bits full 16 9) b
  else if r = R.COX_LOOP_MODE then loopModeWrite (i / 16) (i % 16) (full % 4) b
  else if r = R.COX_PG_TARGET then pgTarget (i / 8) (i % 8) full b
  else if r = R.COX_PG_VLIM then setF b R.COX_PG_VLIM.v i full
  else if r = R.COX_PG_ALIM then setF b R.COX_PG_ALIM.a i full
  else if r = R.COX_PG_JLIM then setF b R.COX_PG_JLIM.j i full
  else if r = R.COX_PG_CTRL then
    onBit raw 3 (fun b => pgPut (i / 8) (i % 8) (getF b R.COX_PG_PRESET.preset i) b) (pgOwner (i / 8) (i % 8) (full % 8) b)
  else if r = R.STP_CTRL then onBit raw 2 stpDischarge (onChange R.STP_CTRL.close 0 full 0 (fun v => if v then stpClose else stpOpen) b)
  else if r = R.CMN_CTRL then onBit raw 8 (enumWrite []) b
  else b

/-- The fields of BAR0 whose writes are commands of their own. -/
def ownWriteHost (r i raw full : Nat) (b : Body) : Body :=
  if r = R.MBX_DOORBELL then onBit raw 0 (ringDoorbell i) b
  else if r = R.IRQ_CAUSE then causeClear raw b
  else if r = R.IRQ_MASK then maskWrite (full % 2 ^ 30) b
  else if r = R.IRQ_TEST then irqTest raw b
  else if r = R.LGB_CTRL then onBit raw 3 advanceWindow (onBit raw 2 loadWindow b)
  else if r = R.PMC_S_CNT then counterWrite (i / 8) (i % 8) (full % 2 ^ 48) b
  else if r = R.PMC_D_CNT then counterWrite (768 + i / 16) (i % 16) (full % 2 ^ 48) b
  else if r = R.PMC_M_CNT then counterWrite 784 i (full % 2 ^ 48) b
  else if r = R.PMC_BUF_CFG then bufCfgWrite i full b
  else if r = R.PMC_TRC_TAIL then ringTailWrite i 0 full b
  else if r = R.PMC_SMP_TAIL then ringTailWrite i 1 full b
  else if r = R.PMC_TIMER then timerWrite (i / 4) (i % 4) full b
  else if r = R.PMC_TRIG then trigWrite full b
  else b

/-- A write of the masked bits of a register (R10-R13). A unit that a drover feeds refuses (R205). A write of PMC_TRIG with refused
clears it in its own command. -/
def writeReg (r : RegSpec) (i raw mask : Nat) (b : Body) : Body :=
  let old := regWord b r.reg i
  let full := old - old.land mask + raw
  if (r.reg = R.CHK_CTRL ∨ r.reg = R.CHK_RUN ∨ r.reg = R.CHK_FEED) ∧ chkBusy b i then setFlag b R.CHK_STATUS.write_refused i true
  else if !coxUses b r i then b
  else
    let b := forEach r.fields (writeField r i raw full mask) b
    if r.fields.any (fun f => f.ownRow && bits mask f.lo f.field.width != 0) then ownWriteHost r.reg i raw full (ownWritePower r.reg i raw full (ownWriteLow r.reg i raw full b))
    else b

/-- Four or eight bytes reach a register block: eight only where they are one 64-bit register. -/
def writeRegAt (blk : Block) (inst off : Nat) (bs : List Byte) (b : Body) : Body :=
  match regAt blk off with
  | none => b
  | some (r, k, hi) =>
    let sh := if hi then 32 else 0
    writeReg r (inst * r.count + k) (ofLeBytes bs * 2 ^ sh) ((2 ^ (8 * bs.length) - 1) * 2 ^ sh) b

/-- A word written to a place of BAR0 that is no register (R504, R509). -/
def writeSpot (sp : Spot) (bs : List Byte) (b : Body) : Body :=
  let put := fun (m : SMap Byte) (off : Nat) => (bs.zipIdx).foldl (fun m p => SMap.put m 0 (off + p.2) p.1) m
  match sp with
  | .request m off =>
    if getF b R.MBX_STATUS.state m = 1 ∨ getF b R.MBX_STATUS.state m = 2 then b
    else updMbx m (fun x => { x with request := put x.request off }) b
  | .msix off =>
    let w := ofLeBytes bs
    setMsix (off / 16) (fun e => match off % 16 with
      | 0 => { e with addr := setBits e.addr 0 32 w }
      | 4 => { e with addr := setBits e.addr 32 32 w }
      | 8 => { e with data := w }
      | _ => { e with masked := bit w 0 }) b
  | .ring h off => { b with hostDrovers := SMap.upd b.hostDrovers HostDrover.reset h (fun d => { d with ring := put d.ring off }) }
  | .istore st off =>
    let old := (SMap.get (stn b st).istore 0 (off / 32)).toNat
    writeIstore st (off / 32) (setBits old (8 * (off % 32)) 32 (ofLeBytes bs)) b
  | _ => b

/-- Is the place the low half of a 64-bit register? -/
def wideAt (sp : Spot) : Bool :=
  match sp with
  | .reg blk _ off => match regAt blk off with
    | some (r, _, hi) => r.wide && !hi
    | none => false
  | _ => false

/-- Write bytes word by word (R13): a word that is written in part is left as it is; both words of a 64-bit register are one write. -/
def writeWords (spot : Nat → Spot) (gate : Spot → (Body → Body) → Body → Body) (a : Nat) (data : List Byte) : Nat → Nat → Body → Body
  | 0, _, b => b
  | k + 1, w, b =>
    if w < a ∨ a + data.length < w + 4 then writeWords spot gate a data k (w + 4) b
    else
      let sp := spot w
      let second := wideAt (spot (w - 4)) && decide (a + 4 ≤ w)
      let n := if wideAt sp ∧ w + 8 ≤ a + data.length then 8 else 4
      let bs := bslice data (w - a) n
      let b := if second then b else match sp with
        | .reg blk inst off => gate sp (writeRegAt blk inst off bs) b
        | _ => gate sp (writeSpot sp bs) b
      writeWords spot gate a data k (w + 4) b

/-- Write bytes from an address on. -/
def writeAt (spot : Nat → Spot) (gate : Spot → (Body → Body) → Body → Body) (a : Nat) (data : List Byte) (b : Body) : Body :=
  writeWords spot gate a data ((a + data.length + 3) / 4 - a / 4) (a - a % 4) b

/-- Does firmware write a register of BAR0's layout (R206, R210): those of the host drovers but DRV_HQ_TAIL, and their check-value units? -/
def firmwareSpot (sp : Spot) : Bool :=
  match sp with
  | .reg .hq _ off => off != 0
  | .reg .chk _ _ => true
  | _ => false

/-- Host writes through BAR0 (R206, R210, R515, R606, R615): the access codes describe them, but where firmware is the writer; a granted page
takes none. -/
def hostGate (sp : Spot) (f : Body → Body) (b : Body) : Body :=
  match sp with
  | .reg .pmcs p _ => if flagF b R.PMC_STN_STATUS.granted p then b else f b
  | _ => if firmwareSpot sp then b else f b

/-- Is a requester the Shepherd that writes (R487)? -/
def isWriter (who : Requester) (b : Body) : Bool :=
  getF b R.SHP_STATUS.active 0 == (if who = .shepherdA ∨ who = .bar0A ∨ who = .localA then 0 else 1)

/-- Writes of a Shepherd in control space (R406, R483, R487): only the writer's take effect. -/
def writerGate (who : Requester) (sp : Spot) (f : Body → Body) (b : Body) : Body :=
  match sp with
  | .reg .cox e _ => coxWriter who e f b
  | .reg .cmn _ _ => ringWriter who f b
  | _ => if isWriter who b then f b else b

/-- Writes of a Shepherd to BAR0's layout (R206, R210, R487; log entry 67). -/
def firmwareGate (who : Requester) (sp : Spot) (f : Body → Body) (b : Body) : Body := if isWriter who b && firmwareSpot sp then f b else b

/-- The error response a Shepherd's own request receives (R67, R72, R168, R182): its cause and the address. -/
def firmwareError (cause addr : Nat) (b : Body) : Body := emit (.response "ERROR_RESPONSE" [cause, addr]) b

/-- The station a Shepherd's access of a window reaches, or the cause of its error response (R67, R72). -/
def firmwareStation (b : Body) (w : WinAddr) : Nat ⊕ Nat :=
  match physOf b w.die w.lst with
  | none => .inr 3
  | some st => if flagF b R.STN_CTRL.fence st then .inr 1 else .inl st

/-- Is stack memory open to a Shepherd's access (R177, R193, R207)? -/
def firmwareStack (b : Body) (a n : Nat) : Bool :=
  decide (a + n ≤ 12 * stackBytes) && ctlReady b (a / stackBytes) && ctlReady b ((a + n - 1) / stackBytes)
    && !flagF b R.MEM_CTRL.self_refresh (a / stackBytes) && !inStaging b a n

/-- MEM_COMMIT_CTRL.discard and retry_apply, which reach the tails (R200, R208). -/
def commitBits (addr : Nat) (data : List Byte) (s : State) : State :=
  match ctlSpot (addr - addr % 4) with
  | .reg .cmt 0 0 =>
    if addr % 4 ≠ 0 ∨ data.length < 4 then s
    else
      let w := ofLeBytes (data.take 4)
      let s := if bit w 1 then commitDiscard s else s
      if bit w 2 then commitRetry s else s
  | _ => s

/-- A write of a Shepherd at a module address (R168, R172): stack memory, station windows and control space. -/
def firmwareWrite (who : Requester) (addr : Nat) (data : List Byte) (s : State) : State :=
  let n := data.length
  if addr < 12 * stackBytes then
    if firmwareStack s.body addr n then (writeStack addr (data.map some) s).2 else onBody (firmwareError 3 addr) s
  else match winAccess addr n with
    | some w =>
      match firmwareStation s.body w with
      | .inr c => onBody (firmwareError c addr) s
      | .inl st => onBody (fun b => (writeSram b st w.off (data.map some)).2) s
    | none =>
      if ctlSpot addr = .unmapped then onBody (firmwareError 3 addr) s
      else
        let s := onBody (writeAt ctlSpot (writerGate who) addr data) s
        if isWriter who s.body then commitBits addr data s else s

/-- REGISTER_WRITE by its requester: BAR2 writes to control space have no effect (R73, R206, R253, R294, R411, R450, R485, R598). -/
def registerWrite (who : Requester) (addr : Nat) (data : List Byte) (s : State) : State :=
  match who with
  | .hostBar0 => onBody (writeAt bar0Spot hostGate addr data) s
  | .hostBar2 => s
  | .bar0A => onBody (writeAt bar0Spot (firmwareGate .bar0A) addr data) s
  | .bar0B => onBody (writeAt bar0Spot (firmwareGate .bar0B) addr data) s
  | .localA => onBody (writeAt (localSpot 0) (fun _ f b => f b) addr data) s
  | .localB => onBody (writeAt (localSpot 1) (fun _ f b => f b) addr data) s
  | w => firmwareWrite w addr data s

/-- A BAR2 access that has no completion with data (R168): it is reported through AER. -/
def unsupported (addr : Nat) (b : Body) : Body := emit (.response "AER_UNSUPPORTED_REQUEST" [addr]) b

/-- The answer of a BAR2 read: 0 data, 1 poisoned data, 2 Unsupported Request. -/
def bar2Answer (status : Nat) (bs : List Byte) (b : Body) : Body := emit (.response "BAR2_READ" (status :: bs.map (·.toNat))) b

/-- An Unsupported Request answers a read. -/
def bar2Unsupported (addr : Nat) (b : Body) : Body := bar2Answer 2 [] (unsupported addr b)

/-- Is a stack open to BAR2 at an address (R177, R193)? -/
def bar2Stack (b : Body) (a n : Nat) : Bool := firmwareStack b a n

/-- BAR2_READ (R127, R168, R169, R172, R182, R193). -/
def bar2Read (addr n : Nat) (s : State) : State :=
  let done := fun (bs : List Byte) (bad : Bool) (s : State) => onBody (bar2Answer (if bad then 1 else 0) bs) s
  let ones := List.replicate n 0xFF
  if addr < 12 * stackBytes then
    if !bar2Stack s.body addr n then onBody (bar2Unsupported addr) s
    else let r := readSealed addr n s; done r.1.1 (!r.1.2.isEmpty) r.2
  else match winAccess addr n with
    | some w =>
      match physOf s.body w.die w.lst with
      | none => onBody (bar2Unsupported addr) s
      | some st =>
        if flagF s.body R.STN_CTRL.run st then done ones false s
        else if flagF s.body R.STN_CTRL.fence st then onBody (bar2Unsupported addr) s
        else let r := readSram s.body st w.off n; done r.1.1 (!r.1.2.isEmpty) { s with body := r.2 }
    | none =>
      match ctlSpot addr with
      | .unmapped => onBody (bar2Unsupported addr) s
      | .istore st off =>
        let bad := !flagF s.body R.STN_CTRL.run st && (unitsOf off n).any (fun u => (istoreUnit s.body st u).isNone)
        let r := readAt ctlSpot addr n s.body
        done r.1 bad { s with body := r.2 }
      | _ => let r := readAt ctlSpot addr n s.body; done r.1 false { s with body := r.2 }

/-- BAR2_WRITE (R168, R169, R172, R185). -/
def bar2Write (addr : Nat) (data : List Byte) (s : State) : State :=
  let n := data.length
  if addr < 12 * stackBytes then
    if !bar2Stack s.body addr n then onBody (unsupported addr) s else (writeStack addr (data.map some) s).2
  else match winAccess addr n with
    | some w =>
      match physOf s.body w.die w.lst with
      | none => onBody (unsupported addr) s
      | some st =>
        if flagF s.body R.STN_CTRL.run st then s
        else if flagF s.body R.STN_CTRL.fence st then onBody (unsupported addr) s
        else onBody (fun b => (writeSram b st w.off (data.map some)).2) s
    | none => if ctlSpot addr = .unmapped then onBody (unsupported addr) s else s

/-- The answer of a register read. -/
def readAnswer (r : List Byte × Body) : Body := emit (.response "REGISTER_READ" (r.1.map (·.toNat))) r.2

/-- A read of a Shepherd at a module address (R67, R72, R168, R172, R182). -/
def firmwareRead (addr n : Nat) (s : State) : State :=
  let done := fun (r : List Byte × List Nat) (s : State) =>
    if r.2.isEmpty then onBody (fun b => readAnswer (r.1, b)) s else onBody (firmwareError 2 (addr / 32 * 32)) s
  if addr < 12 * stackBytes then
    if firmwareStack s.body addr n then let r := readSealed addr n s; done r.1 r.2 else onBody (firmwareError 3 addr) s
  else match winAccess addr n with
    | some w =>
      match firmwareStation s.body w with
      | .inr c => onBody (firmwareError c addr) s
      | .inl st => let r := readSram s.body st w.off n; done r.1 { s with body := r.2 }
    | none =>
      if ctlSpot addr = .unmapped then onBody (firmwareError 3 addr) s else onBody (fun b => readAnswer (readAt ctlSpot addr n b)) s

/-- REGISTER_READ by its requester. -/
def registerRead (who : Requester) (addr n : Nat) (s : State) : State :=
  match who with
  | .hostBar0 => onBody (fun b => readAnswer (readAt bar0Spot addr n b)) s
  | .hostBar2 => bar2Read addr n s
  | .bar0A => onBody (fun b => readAnswer (readAt bar0Spot addr n b)) s
  | .bar0B => onBody (fun b => readAnswer (readAt bar0Spot addr n b)) s
  | .localA => onBody (fun b => readAnswer (readAt (localSpot 0) addr n b)) s
  | .localB => onBody (fun b => readAnswer (readAt (localSpot 1) addr n b)) s
  | _ => firmwareRead addr n s

/-- REGISTER_WRITE (R10-R13). -/
def execRegisterWrite (who : Requester) (addr : Nat) (data : List Byte) (s : State) : Host.Outcome State Fault Refusal :=
  .next (registerWrite who addr data s)
/-- REGISTER_READ (R10-R13). -/
def execRegisterRead (who : Requester) (addr n : Nat) (s : State) : Host.Outcome State Fault Refusal := .next (registerRead who addr n s)
/-- BAR2_READ (R168, R172). -/
def execBar2Read (addr n : Nat) (s : State) : Host.Outcome State Fault Refusal := .next (bar2Read addr n s)
/-- BAR2_WRITE (R168, R172). -/
def execBar2Write (addr : Nat) (data : List Byte) (s : State) : Host.Outcome State Fault Refusal := .next (bar2Write addr data s)

end Sys2Proof.Machine
end

