-- ==== Sys2Proof/Machine/Spdm.lean ====
section
/-! DEFINITION. Attestation by SPDM (R577, R578) and the debug port (R570). The codes of the messages are those of DSP0274 (log entry
41); transport 0 is the DOE mailbox, 1 is MCTP. -/

namespace Sys2Proof.Machine

/-- A transport of SPDM. -/
def isSpdm (t : Nat) : Bool := decide (t < 2)

/-- An SPDM message of the module: its version, its code, two parameters and the rest. -/
def spdmSay (t : Nat) (what : String) (code p1 p2 : Nat) (rest : List Byte) (b : Body) : Body :=
  emit (.response what ([t, if code = 0x04 then 0x10 else 0x12, code, p1, p2] ++ rest.map (·.toNat))) b

/-- An SPDM error. -/
def spdmError (t code : Nat) (b : Body) : Body := spdmSay t "SPDM_ERROR" 0x7F code 0 [] b

/-- How far a requester has come. -/
def spdmAt (b : Body) (t : Nat) : Nat := SMap.get b.rack.spdm 0 t

/-- SPDM goes on from a point reached before; otherwise the request is unexpected. -/
def spdmFrom (t least now : Nat) (f : Body → Body) (b : Body) : Body :=
  if !shepherdActive b then b
  else if spdmAt b t < least then spdmError t 0x04 b
  else f (updRack (fun r => { r with spdm := SMap.put r.spdm 0 t now }) b)

/-- GET_VERSION: 1.2 only. -/
def spdmVersion (t : Nat) (b : Body) : Body :=
  spdmFrom t 0 1 (spdmSay t "SPDM_VERSION" 0x04 0 0 ([0, 1] ++ leBytes 2 0x1200)) b

/-- GET_CAPABILITIES: CERT_CAP, CHAL_CAP, MEAS_CAP with signature. -/
def spdmCapabilities (t : Nat) (b : Body) : Body :=
  spdmFrom t 1 2 (spdmSay t "SPDM_CAPABILITIES" 0x61 0 0
    (leBytes 1 0 ++ leBytes 1 (Config.rackWord 1 0) ++ leBytes 2 0 ++ leBytes 4 0x16 ++ leBytes 4 (Config.rackWord 1 1) ++ leBytes 4 (Config.rackWord 1 2))) b

/-- NEGOTIATE_ALGORITHMS: what the requester offers and the module supports of ECDSA P-384, SHA-384 and DMTF. -/
def spdmAlgorithms (t spec asym hash : Nat) (b : Body) : Body :=
  spdmFrom t 2 3 (spdmSay t "SPDM_ALGORITHMS" 0x63 0 0
    (leBytes 2 36 ++ leBytes 1 (spec.land 1) ++ leBytes 1 0 ++ leBytes 4 4 ++ leBytes 4 (asym.land 0x80) ++ leBytes 4 (hash.land 2) ++ leBytes 16 0)) b

/-- GET_DIGESTS: slot 0. -/
def spdmDigests (t : Nat) (b : Body) : Body :=
  spdmFrom t 3 3 (spdmSay t "SPDM_DIGESTS" 0x01 0 1 (sha384 Config.certificateChain)) b

/-- GET_CERTIFICATE: a portion of the chain of slot 0. -/
def spdmCertificate (t slot off len : Nat) (b : Body) : Body :=
  spdmFrom t 3 3 (fun b =>
    if slot ≠ 0 ∨ Config.certificateChain.length < off then spdmError t 0x01 b
    else
      let part := bslice Config.certificateChain off len
      spdmSay t "SPDM_CERTIFICATE" 0x02 0 0 (leBytes 2 part.length ++ leBytes 2 (Config.certificateChain.length - off - part.length) ++ part) b) b

/-- The items that measurement 6 covers: every protected setting in force (R565, R578). -/
def settingItems (b : Body) : List Byte :=
  (List.range 0x126).flatMap (fun c => if (itemRange c).isSome then leBytes 2 c ++ leBytes 2 4 ++ leBytes 4 0 ++ leBytes 4 (uint 32 (itemNow b c)) else [])

/-- The value of a measurement block, with its type: a digest, or a raw bit stream (R578). -/
def measurement (b : Body) (ix : Nat) : Nat × List Byte :=
  let run := getF b R.SHP_FW_SLOTS.running_slot 0
  let keyHash := fun (k : List Byte) => if k.isEmpty then List.replicate 48 0 else sha384 k
  match ix with
  | 1 => (0, Config.bootRomHash)
  | 2 => (1, ((slotImage b run).map (·.digest)).getD (List.replicate 48 0))
  | 3 => (0x83, leBytes 8 (((slotImage b run).map (·.svn)).getD 0 + getF b R.SHP_FW_SLOTS.svn_min 0 * 2 ^ 16 + run * 2 ^ 32
      + getF b R.SHP_FW_SLOTS.trial 0 * 2 ^ 33 + getF b R.SHP_FW_SLOTS.trial_slot 0 * 2 ^ 34))
  | 4 => (3, keyHash b.trust.provider)
  | 5 => (3, keyHash b.trust.tenant)
  | 6 => (3, sha384 (settingItems b))
  | 7 => (0x83, leBytes 4 (getF b R.SHP_TRUST.debug_level 0))
  | _ => (0x83, match b.flock.plan with
      | some p => leBytes 8 p.planId ++ leBytes 8 p.crc
      | none => leBytes 16 0)

/-- A measurement block as it is sent. -/
def measurementBlock (b : Body) (ix : Nat) : List Byte :=
  let m := measurement b ix
  leBytes 1 ix ++ leBytes 1 1 ++ leBytes 2 (m.2.length + 3) ++ leBytes 1 m.1 ++ leBytes 2 m.2.length ++ m.2

/-- The hash of all measurement blocks, where a challenge asks for it. -/
def measurementSummary (b : Body) (kind : Nat) : List Byte :=
  if kind = 0 then [] else sha384 ((if kind = 1 then [1] else [1, 2, 3, 4, 5, 6, 7, 8]).flatMap (measurementBlock b))

/-- A signature of the device identity key over what is answered; each is its own value (R577). -/
def deviceSign (bs : List Byte) (b : Body) : List Byte × Body :=
  (Config.deviceSignature bs b.free, { b with free := b.free + 1 })

/-- CHALLENGE: the hash of the chain, a random nonce, the summary and a signature. -/
def spdmChallenge (t slot kind : Nat) (nonce : List Byte) (b : Body) : Body :=
  spdmFrom t 3 3 (fun b =>
    if slot ≠ 0 ∨ !([0, 1, 0xFF].contains kind) then spdmError t 0x01 b
    else
      let n := drawBytes 32 b
      let body := sha384 Config.certificateChain ++ n.1 ++ measurementSummary b kind ++ leBytes 2 0
      let s := deviceSign (nonce ++ body) n.2
      spdmSay t "SPDM_CHALLENGE_AUTH" 0x03 0 1 (body ++ s.1) s.2) b

/-- GET_MEASUREMENTS: the number of blocks, one block or all, signed or unsigned. -/
def spdmMeasurements (t op : Nat) (withSig : Bool) (nonce : List Byte) (b : Body) : Body :=
  spdmFrom t 3 3 (fun b =>
    let ixs := if op = 0xFF then [1, 2, 3, 4, 5, 6, 7, 8] else if 1 ≤ op ∧ op ≤ 8 then [op] else []
    if op ≠ 0 ∧ ixs.isEmpty then spdmError t 0x01 b
    else
      let blocks := ixs.flatMap (measurementBlock b)
      let n := drawBytes 32 b
      let body := leBytes 1 ixs.length ++ leBytes 3 blocks.length ++ blocks ++ n.1 ++ leBytes 2 0
      let s := if withSig then deviceSign (nonce ++ body) n.2 else ([], n.2)
      spdmSay t "SPDM_MEASUREMENTS" 0x60 (if op = 0 then 8 else 0) 0 (body ++ s.1) s.2) b

/-- The rights of the debug port (R570): the level of its session, and no more than the level in force. -/
def debugRights (b : Body) : Nat := min b.trust.session (getF b R.SHP_TRUST.debug_level 0)

/-- What the debug port answers. -/
def debugSay (bs : List Byte) (b : Body) : Body := emit (.response "DEBUG_PORT" (bs.map (·.toNat))) b

/-- An access at the debug port (R570, R591): what the rights do not cover is not answered. What a Shepherd's SRAM and flash hold beside
the state of the model is a free value, and a write of it or a step changes nothing that the model holds (log entry 53). -/
def debugPort (a : DebugAccess) (b : Body) : Body :=
  let need := fun (n : Nat) (f : Body → Body) => if n ≤ debugRights b then f b else b
  match a with
  | .openSession l =>
    if 1 ≤ l ∧ l ≤ getF b R.SHP_TRUST.debug_level 0 then logRec 0x106 [2, BitVec.ofNat 8 l] (updTrust (fun t => { t with session := l }) b) else b
  | .closeSession =>
    if b.trust.session = 0 then b
    else logRec 0x106 [3, BitVec.ofNat 8 b.trust.session] (updTrust (fun t => { t with session := 0 }) b)
  | .readShepherd _ keySlot n => need 1 (fun b => if keySlot then b else let r := drawBytes n b; debugSay r.1 r.2)
  | .writeShepherd _ _ => need 2 (debugSay [])
  | .readControl addr n => need 1 (fun b => let r := readAt ctlSpot addr n b; debugSay r.1 r.2)
  | .writeControl addr data => need 2 (fun b => debugSay [] (writeAt ctlSpot (fun _ f => f) addr data b))
  | .halt w => need 2 (fun b => debugSay [] (updSh w (fun x => { x with halted := true }) b))
  | .step _ => need 2 (debugSay [])
  | .resume w => need 2 (fun b => debugSay [] (updSh w (fun x => { x with halted := false }) b))

/-- Does an access name a Shepherd of the module? -/
def debugNames : DebugAccess → Bool
  | .readShepherd w _ _ => isShepherd w
  | .writeShepherd w _ => isShepherd w
  | .halt w => isShepherd w
  | .step w => isShepherd w
  | .resume w => isShepherd w
  | _ => true

/-- SPDM_GET_VERSION (R577). -/
def execSpdmGetVersion (t : Nat) (s : State) : Host.Outcome State Fault Refusal := onUnit (isSpdm t) (spdmVersion t) s
/-- SPDM_GET_CAPABILITIES (R577). -/
def execSpdmGetCapabilities (t : Nat) (s : State) : Host.Outcome State Fault Refusal := onUnit (isSpdm t) (spdmCapabilities t) s
/-- SPDM_NEGOTIATE_ALGORITHMS (R577). -/
def execSpdmNegotiateAlgorithms (t spec asym hash : Nat) (s : State) : Host.Outcome State Fault Refusal :=
  onUnit (isSpdm t) (spdmAlgorithms t spec asym hash) s
/-- SPDM_GET_DIGESTS (R577). -/
def execSpdmGetDigests (t : Nat) (s : State) : Host.Outcome State Fault Refusal := onUnit (isSpdm t) (spdmDigests t) s
/-- SPDM_GET_CERTIFICATE (R577). -/
def execSpdmGetCertificate (t slot off len : Nat) (s : State) : Host.Outcome State Fault Refusal := onUnit (isSpdm t) (spdmCertificate t slot off len) s
/-- SPDM_CHALLENGE (R577). -/
def execSpdmChallenge (t slot kind : Nat) (nonce : List Byte) (s : State) : Host.Outcome State Fault Refusal :=
  onUnit (isSpdm t) (spdmChallenge t slot kind nonce) s
/-- SPDM_GET_MEASUREMENTS (R577, R578). -/
def execSpdmGetMeasurements (t op : Nat) (withSig : Bool) (nonce : List Byte) (s : State) : Host.Outcome State Fault Refusal :=
  onUnit (isSpdm t) (spdmMeasurements t op withSig nonce) s
/-- DEBUG_PORT_ACCESS (R570). -/
def execDebugPortAccess (a : DebugAccess) (s : State) : Host.Outcome State Fault Refusal := onUnit (debugNames a) (debugPort a) s

end Sys2Proof.Machine
end

