-- ==== Sys2Proof/Machine/Startup.lean ====
section
/-! DEFINITION. The resets of the module and the steps of start-up that complete by themselves (R649-R657). -/

namespace Sys2Proof.Machine

/-- The fields that flash or the fuses hold (R11, R352, R516, R580, R586). -/
def storedFields : List Field :=
  flashFields ++ [R.STP_STATUS.pack_fault, R.STP_BREAKS.breaks, R.GBL_FW.build, R.GBL_FW.minor, R.GBL_FW.major, R.GBL_FW.slot,
    R.SHP_FW_SLOTS.running_slot, R.SHP_FW_SLOTS.trial, R.SHP_FW_SLOTS.trial_slot, R.SHP_FW_SLOTS.other_valid, R.SHP_FW_SLOTS.trial_resets,
    R.SHP_FW_SLOTS.svn_min, R.LGB_STATUS.first_full, R.LGB_FILL.first_kib]

/-- The fields that show pins: the slot and its presence contact, the cages (R263, R516). -/
def pinFields : List Field := [R.GBL_SLOT.slot, R.GBL_SLOT.present, R.KLK_PORT_STATUS.present, R.GBL_SERIAL.serial, R.GBL_ID.silicon_step,
  R.GBL_ID.board_step]

/-- The other P fields: a module reset keeps them, a power-on reset gives them their power-on values (R11, R654). -/
def heldFields : List Field :=
  [R.STN_MAP.phys_0, R.STN_MAP.valid_0, R.STN_MAP.phys_1, R.STN_MAP.valid_1, R.STN_MAP.phys_2, R.STN_MAP.valid_2, R.STN_MAP.phys_3,
   R.STN_MAP.valid_3, R.MEM_COMMIT_STROKE.stroke, R.TLY_STROKE_NUM.stroke, R.SHP_TRUST.debug_level]

/-- The field file after a reset: the named fields keep their values, every other field is at its reset value (R11). -/
def keepFields (fs : List Field) (regs : SMap Nat) : SMap Nat := regs.filter (fun e => fs.any (fun f => f.idx == e.1 % 1024))

/-- What flash holds of the trust state beside registers (R571, R575): what waited in a Shepherd is gone. -/
def keepTrust (t : Trust) : Trust := { t with nonces := [], trialSince := none, deferred := false, returning := false }

/-- What flash holds of the logbook (R571, R584): what the queue and the cursors held is gone. -/
def keepLog (l : Logbook) : Logbook :=
  { l with queue := [], cursors := [], uses := 0, clearing := none, windowSeqs := [], copied := [] }

/-- The module's pins and its time base with everything else at reset (R654). -/
def freshBody (fs : List Field) (b : Body) : Body :=
  { Body.reset with
    regs := keepFields fs b.regs
    trust := keepTrust b.trust
    logbook := keepLog b.logbook
    sent := b.sent
    now := b.now
    free := b.free }

/-- The trial at a power-on reset (R575): it is counted, the third fails it; an activated slot goes on trial. -/
def trialAtReset (b : Body) : Body :=
  if trialOn b then
    if 2 ≤ getF b R.SHP_FW_SLOTS.trial_resets 0 then endTrial b
    else setF b R.SHP_FW_SLOTS.trial_resets 0 (getF b R.SHP_FW_SLOTS.trial_resets 0 + 1)
  else if b.trust.nextTrial then beginTrial (stageSlot b) b
  else b

/-- Both Shepherds leave their reset and boot (R488, R649); one held in state failed stays there. -/
def releaseShepherds (b : Body) : Body :=
  let b := forEach [0, 1] (fun w b => if shState b w = 6 then b else setShState w 1 b) b
  if shState b 0 = 6 ∧ shState b 1 = 6 then stepFailed 1 b else b

/-- The monitors after a power-on reset: only their strap pins remain (R453). -/
def pinnedMonitors (m : SMap Monitor) : SMap Monitor :=
  ([0, 1, 2, 3] : List Nat).foldl (fun acc k => SMap.put acc (Monitor.reset k) k { Monitor.reset k with pins := (SMap.get m (Monitor.reset k) k).pins }) []

/-- Power-on reset (R654): the housekeeping supply rises when pre-charge completes. A module reset asserted before takes effect now
(R656). -/
def powerOn (b : Body) : Body :=
  if power b ≠ 2 ∨ b.cox.path.housekeeping then b
  else
    let p := b.cox.path
    let l := b.logbook
    let ms := b.host.opSaved + 1000
    let n := freshBody (storedFields ++ pinFields) b
    let n := { n with
      host := { HostSide.reset with opBase := ms, opSince := b.now, opSaved := ms, opReset := ms, cycles := min (b.host.cycles + 1) (2 ^ 24 - 1) }
      trust := { n.trust with session := 0 }
      cells := { CellSide.reset with monitors := pinnedMonitors b.cells.monitors }
      cox := { CoxSide.reset with path := { PowerPath.reset with
        presence := p.presence, switch := p.switch, housekeeping := true, thresholds := p.thresholds, elapsedFrom := b.now
        heldReset := p.heldReset, afterReset := p.heldReset } } }
    let n := updLog (fun x => { x with nextSeq := l.ceiling + 1, ceiling := l.ceiling + 4096, gapFirst := l.nextSeq, dropped := none }) n
    let n := setFlag (setF n R.GBL_STATUS.power_state 0 2) R.GBL_SLOT.present 0 p.presence
    let n := trialAtReset n
    if p.heldReset then n else releaseShepherds n

/-- Every station position of the module. -/
def allStations : List Nat := (List.range 1024).filter isStation

/-- The whole module is held in reset (R655): every island clock stopped, the link dies isolated, cells, rails and pack stopped, both
Shepherds and the endpoint in reset, the power path in state housekeeping. Latches, the calendar and the hour stamp go on (R654,
R657). -/
def holdReset (b : Body) : Body :=
  let p := b.cox.path
  let failed := [0, 1].filter (fun w => shState b w == 6)
  let n := freshBody (storedFields ++ pinFields ++ heldFields) b
  let n := { n with
    dieMap := b.dieMap
    stopped := allStations.map Island.station
    host := { HostSide.reset with opBase := b.host.opBase, opSince := b.host.opSince, opSaved := b.host.opSaved, opReset := b.host.opReset
                                  cycles := b.host.cycles, calBase := b.host.calBase, calAt := b.host.calAt, calValid := b.host.calValid }
    cells := { b.cells with ring := RingMaster.reset }
    cox := { CoxSide.reset with path := { p with
      cellsRun := false, cellsHalted := false, busLow := false, lowInsulation := 0, checkTried := false, recovery := false, pulled := false
      heldReset := true, startLoss := false, diesLost := [], elapsedFrom := b.now, capBy := if p.selfCap then 3 else 0, afterReset := true } } }
  let n := updLog (fun l => b.logbook.queue.foldl (fun l r => dropNumber r.seq l) l) n
  let n := setF n R.GBL_STATUS.power_state 0 2
  let n := if p.selfCap then setF n R.COX_CAP.cap_w 16 8400 else n
  let n := forEach failed (fun w b => setShState w 6 b) n
  let n := forEach (List.range 4) (fun d b => setFlag b R.KLK_DIE_STATUS.isolated d true) n
  forEach (List.range 18) (fun q b => setF b R.KLK_PORT_STATUS.state q 7) n

/-- A module reset (R655, R656, R660): a firmware trial counts it as a power-on reset; firmware first writes the queue of the logbook. With the input absent the housekeeping supply then
stops; before state housekeeping the reset waits. -/
def moduleReset (s : State) : State :=
  let b := s.body
  let p := power b
  if p = 9 ∨ b.cox.path.heldReset then s
  else if p = 0 ∨ p = 1 then
    if b.cox.path.inputAbsent then s else onBody (updPath (fun x => { x with heldReset := true })) s
  else
    let b := if trialOn b then trialAtReset b else b
    let h := holdReset (logLossOfPower none b)
    let h := if b.cox.path.inputAbsent then housekeepingStop (updPath (fun x => { x with heldReset := false }) h) else h
    { s with mem := [], body := h }

/-- A block that a latch keeps off is lost (R657): its die, stack or link die, or the ports of a cage rail. -/
def latchedLoss (blk : PowerBlock) (b : Body) : Body :=
  match blk with
  | .cage n => forEach (linkPorts n) (fun q b => setPortState q 6 b) b
  | k => stopBlock 0 k b

/-- MOD_RESET_N rises (R655, R657): start-up resumes at its first step, without pre-charge. -/
def moduleResetRelease (b : Body) : Body :=
  if !b.cox.path.heldReset then b
  else
    let b := updPath (fun x => { x with heldReset := false }) b
    if power b ≠ 2 then b
    else
      let b := { b with stopped := [] }
      let b := forEach (List.range 4) (fun d b => setFlag b R.KLK_DIE_STATUS.isolated d false) b
      let b := forEach (List.range 18) (fun q b => setF b R.KLK_PORT_STATUS.state q 0) b
      releaseShepherds (forEach b.cox.path.blocks latchedLoss b)

/-- A compute die is lost during start-up (R652, R653). -/
def loseDie (d : Nat) (b : Body) : Body :=
  if dieLost b d then b
  else report (.power 0 d) (updPath (fun p => { p with diesLost := p.diesLost ++ [d], startLoss := true }) b)

/-- The UCIe modules of an edge by its kind (R54, R81). -/
def edgeModules (kind : Nat) : Nat := if kind = 1 then 0xFFFF else if kind = 3 then 0xF else 0

/-- Step 7 of start-up (R54, R649, R653): the modules that initialised at 32 GT/s after lane repair, by die * 4 + edge. An edge
between dies with none left loses its die, a link die's edge its link die. -/
def edgesDone (up : List Nat) (b : Body) : Body :=
  if !stepIsDone b 6 ∨ stepIsDone b 7 then b
  else
    let b := forEach (List.range 64) (fun e b =>
      let kind := edgeKind (e / 4) (e % 4)
      let m := (up.getD e 0).land (edgeModules kind)
      let b := setF b R.STN_EDGE.module_up e m
      if m ≠ 0 then b
      else if kind = 1 then loseDie (e / 4) b
      else if kind = 3 then
        match cornerLink (e / 4) with
        | some n => forEach (linkPorts n) (fun q b => portDown q 6 b) b
        | none => b
      else b) b
    stepDone 7 b

/-- The die map as delivered (R36), put in force. -/
def deliveryMap (d : Nat) (b : Body) : Body :=
  applyMap d (forEach (List.range 48) (fun l b =>
    setFlag (setF b (mapPhys (l % 4)) (d * 12 + l / 4) (deliveryPhys l)) (mapValid (l % 4)) (d * 12 + l / 4) true) b)

/-- A station has run the self-test of start-up and its SRAM fill (R651). -/
def testStation (failed : List Nat) (st : Nat) (b : Body) : Body :=
  let bad := failed.contains st
  let b := updStn b st (fun t => { t with sram := [], badSram := [], writeBack := [], selfTestFailed := bad })
  if bad then report (.selfTest st) (setFlag b R.STN_FAULT.self_test_fail st true) else b

/-- A logical station whose delivery position failed is given a spare (R68, R651). -/
def giveSpare (d l : Nat) (b : Body) : Body :=
  let st := d * 64 + deliveryPhys l
  if (stn b st).selfTestFailed then
    match chooseSpare b st with
    | some p => remap d l (some p) b
    | none => b
  else b

/-- Step 9 on one die (R65, R651): the active stations stand idle, the spares stay gated. -/
def testDie (failed : List Nat) (d : Nat) (b : Body) : Body :=
  if dieLost b d then b
  else
    let sts := (List.range 52).map (fun p => d * 64 + p)
    let b := forEach sts (testStation failed) (deliveryMap d b)
    if 4 < (sts.filter failed.contains).length then loseDie d b
    else
      let b := forEach (List.range 48) (giveSpare d) b
      forEach (dieStations b d) (fun st b => setF (setFlag b R.STN_CTRL.power_gate st false) R.STN_STATUS.state st 2) b

/-- Step 9 of start-up (R649, R651): `failed` are the stations that fail the self-test. -/
def selfTestsDone (failed : List Nat) (b : Body) : Body :=
  if !stepIsDone b 6 ∨ stepIsDone b 9 ∨ !shepherdActive b then b else stepDone 9 (forEach (List.range 16) (testDie failed) b)

/-- POWER_ON_RESET (R654): the contents of the stacks are lost with the power. -/
def execPowerOnReset (s : State) : Host.Outcome State Fault Refusal :=
  .next { s with mem := if power s.body ≠ 2 ∨ s.body.cox.path.housekeeping then s.mem else [], body := powerOn s.body }
/-- MODULE_RESET (R654, R655). -/
def execModuleReset (s : State) : Host.Outcome State Fault Refusal := .next (moduleReset s)
/-- MODULE_RESET_RELEASE (R655, R657). -/
def execModuleResetRelease (s : State) : Host.Outcome State Fault Refusal := lift moduleResetRelease s
/-- DIE_EDGE_INIT_COMPLETE (R54, R649). -/
def execDieEdgeInitComplete (up : List Nat) (s : State) : Host.Outcome State Fault Refusal := lift (edgesDone up) s
/-- STATION_SELF_TEST_COMPLETE (R651). -/
def execStationSelfTestComplete (failed : List Nat) (s : State) : Host.Outcome State Fault Refusal :=
  onUnit (failed.all isStation) (selfTestsDone failed) s

end Sys2Proof.Machine
end

