-- ==== Sys2Proof/Machine/Vector.lean ====
section
/-! DEFINITION. The V slot: loads and stores, lane arithmetic, predicates, conversions and tile rows (R138-R142). -/

namespace Sys2Proof.Machine

/-- Field vd. -/
def vdOf (w : Nat) : Nat := bits w 8 6
/-- Field va. -/
def vaOf (w : Nat) : Nat := bits w 14 6
/-- Field vb. -/
def vbOf (w : Nat) : Nat := bits w 20 6
/-- Field vc. -/
def vcOf (w : Nat) : Nat := bits w 26 6
/-- Field pred. -/
def predOf (w : Nat) : Nat := bits w 32 3
/-- Field mode. -/
def modeOf (w : Nat) : Nat := bits w 35 3
/-- Field fmt. -/
def fmtOf (w : Nat) : Nat := bits w 39 4
/-- Field sb. -/
def sbOf (w : Nat) : Nat := bits w 43 5
/-- Field si. -/
def siOf (w : Nat) : Nat := bits w 48 5
/-- Field imm. -/
def immOf (w : Nat) : Nat := bits w 53 11

/-- The places of the fields, for the check of unused ones. -/
def fOp : Nat × Nat := (0, 8)
/-- vd as a V register. -/
def fVd : Nat × Nat := (8, 6)
/-- vd as an S register. -/
def fSd : Nat × Nat := (8, 5)
/-- vd as a predicate. -/
def fPd : Nat × Nat := (8, 3)
/-- va as a V register. -/
def fVa : Nat × Nat := (14, 6)
/-- vb as a V register. -/
def fVb : Nat × Nat := (20, 6)
/-- vc as a V register. -/
def fVc : Nat × Nat := (26, 6)
/-- pred. -/
def fPred : Nat × Nat := (32, 3)
/-- mode. -/
def fMode : Nat × Nat := (35, 3)
/-- sb. -/
def fSb : Nat × Nat := (43, 5)
/-- imm. -/
def fImm : Nat × Nat := (53, 11)

/-- The address of a load or store (R140): S[sb] + sext(imm) * 32. -/
def memAddr (w : Nat) (t : Station) : Nat := uint 64 ((sreg t (sbOf w) : Int) + sint 11 (immOf w) * 32)

/-- The exceptions of an access of `len` bytes that must be a multiple of `al` (R140). -/
def accessExcs (a len al : Nat) : List Exc :=
  (if (winAccess a len).isNone then [⟨0x07, 1, a⟩] else []) ++ (if a % al ≠ 0 then [⟨0x08, 1, a⟩] else [])

/-- Do two ranges overlap? -/
def overlap (a n c m : Nat) : Bool := decide (a < c + m) && decide (c < a + n)

/-- Does a store to own SRAM overlap the operands of an earlier mmul that has not read them (R157 item 6)? -/
def rangeBusy (t : Station) (off len : Nat) : Bool :=
  t.matQ.any (fun op => op.isMul && [(op.fa, op.pa), (op.fb, op.pb)].any (fun p => match NFmt.ofCode p.1 with
    | some f => overlap off len (bits p.2 0 23) (op.nblk * (512 * f.width))
        || overlap off len (bits p.2 32 23) (op.nblk * f.scaleBytes)
    | none => false))

/-- The hold of an access: a quiesced die takes no new remote request (R67); a store waits for the operands of an earlier
mmul (R157 item 6). -/
def accessHolds (b : Body) (st : Nat) (t : Station) (a len : Nat) (isStore : Bool) : List Hold :=
  match winOf a with
  | none => []
  | some x =>
    if physOf b x.die x.lst = some st then (if isStore && rangeBusy t x.off len then [Hold.rangeBusy] else [])
    else if flagF b R.STN_DIE_CTRL.quiesce (st / 64) || flagF b R.STN_DIE_CTRL.quiesce x.die then [Hold.quiesced] else []

/-- vld (R139, R140). -/
def vldSlot (w st : Nat) (b : Body) (t : Station) : SlotRes :=
  if !onlyFields w [fOp, fVd, fSb, fImm] then SlotRes.illegal 1 w
  else
    let a := memAddr w t
    { effs := [.load true (vdOf w) a 512], excs := accessExcs a 512 32
      holds := sourceHolds t [sbOf w] [vdOf w] [] ++ accessHolds b st t a 512 false }

/-- sld (R139, R140). -/
def sldSlot (w st : Nat) (b : Body) (t : Station) : SlotRes :=
  if !onlyFields w [fOp, fSd, fSb, fImm] then SlotRes.illegal 1 w
  else
    let a := memAddr w t
    { effs := [.load false (vdOf w) a 8], excs := accessExcs a 8 8
      holds := sourceHolds t [sbOf w, vdOf w] [] [] ++ accessHolds b st t a 8 false }

/-- The bytes a vst writes: those of the selected lanes. -/
def vstBytes (p v : Nat) : List (Option Byte) :=
  (leBytes 512 v).zipIdx.map (fun x => if bit p (x.2 / 4) then some x.1 else none)

/-- vst (R139, R140). -/
def vstSlot (w st : Nat) (b : Body) (t : Station) : SlotRes :=
  if !onlyFields w [fOp, fVa, fPred, fSb, fImm] then SlotRes.illegal 1 w
  else
    let a := memAddr w t
    { effs := [.store a (vstBytes (preg t (predOf w)) (vreg t (vaOf w)))], excs := accessExcs a 512 32
      holds := sourceHolds t [sbOf w] [vaOf w] [] ++ accessHolds b st t a 512 true }

/-- sst (R138, R139, R140). -/
def sstSlot (w st : Nat) (b : Body) (t : Station) : SlotRes :=
  if !onlyFields w [fOp, (14, 5), fSb, fImm] then SlotRes.illegal 1 w
  else
    let a := memAddr w t
    { effs := [.store a ((leBytes 8 (sreg t (vaOf w))).map some)], excs := accessExcs a 8 8
      holds := sourceHolds t [sbOf w, vaOf w] [] [] ++ accessHolds b st t a 8 true }

/-- The lanes that a predicate selects, computed with flags; the others keep the old value and raise no flag (R139). -/
def laneOp (p : Nat) (new : List (Flagged Nat)) (old : List Nat) : Flagged Nat :=
  ⟨pack 32 (selectLanes p (new.map (·.val)) old),
   new.zipIdx.foldl (fun a x => if bit p x.2 then a ||| x.1.fl else a) 0⟩

/-- A lane operation of up to three V sources (R102-R106, R139). -/
def laneSlot (w : Nat) (t : Station) (nsrc : Nat) (f : Nat → Nat → Nat → Flagged Nat) : SlotRes :=
  let fields := [fOp, fVd, fVa, fPred] ++ (if 2 ≤ nsrc then [fVb] else []) ++ (if 3 ≤ nsrc then [fVc] else [])
  if !onlyFields w fields then SlotRes.illegal 1 w
  else
    let a := lanes (vreg t (vaOf w))
    let b := lanes (vreg t (vbOf w))
    let c := lanes (vreg t (vcOf w))
    let r := laneOp (preg t (predOf w)) (((a.zip b).zip c).map (fun x => f x.1.1 x.1.2 x.2)) (lanes (vreg t (vdOf w)))
    (SlotRes.ok [.setV (vdOf w) r.val, .flags r.fl]).hold
      (sourceHolds t [] ([vdOf w, vaOf w] ++ (if 2 ≤ nsrc then [vbOf w] else []) ++ (if 3 ≤ nsrc then [vcOf w] else [])) [])

/-- A lane function without flags. -/
def plain (f : Nat → Nat → Nat) : Nat → Nat → Nat → Flagged Nat := fun a b _ => ⟨f a b, 0⟩

/-- The pairwise tree over lanes by an operation (R98, R105). -/
def treeFuel (f : Nat → Nat → Flagged Nat) : Nat → List Nat → Flagged Nat
  | 0, l => ⟨l.headD 0, 0⟩
  | n + 1, l =>
    if l.length ≤ 1 then ⟨l.headD 0, 0⟩
    else
      let x := treeFuel f n (l.take (pow2Below l.length))
      let y := treeFuel f n (l.drop (pow2Below l.length))
      let r := f x.val y.val
      ⟨r.val, x.fl ||| y.fl ||| r.fl⟩

/-- A lane reduction (R105, R139): unselected lanes are replaced by `fill`, the result goes to every lane. -/
def reduceSlot (w : Nat) (t : Station) (fill : Nat) (f : Nat → Nat → Flagged Nat) : SlotRes :=
  if !onlyFields w [fOp, fVd, fVa, fPred] then SlotRes.illegal 1 w
  else
    let xs := selectLanes (preg t (predOf w)) (lanes (vreg t (vaOf w))) (List.replicate 128 fill)
    let r := treeFuel f 8 xs
    (SlotRes.ok [.setV (vdOf w) (pack 32 (List.replicate 128 r.val)), .flags r.fl]).hold
      (sourceHolds t [] [vdOf w, vaOf w] [])

/-- vcmp.f32 (R104, R139). -/
def vcmpSlot (w : Nat) (t : Station) : SlotRes :=
  if !onlyFields w [fOp, fPd, fVa, fVb, fPred, fMode] ∨ modeOf w = 7 then SlotRes.illegal 1 w
  else
    let p := preg t (predOf w)
    let rs := ((lanes (vreg t (vaOf w))).zip (lanes (vreg t (vbOf w)))).map (fun x => f32cmp (modeOf w) x.1 x.2)
    let old := preg t (vdOf w)
    let v := rs.zipIdx.foldl (fun a x => setBit a x.2 (if bit p x.2 then x.1.1 else bit old x.2)) 0
    let fl := rs.zipIdx.foldl (fun a x => if bit p x.2 then a ||| x.1.2 else a) 0
    (SlotRes.ok [.setP (vdOf w) v, .flags fl]).hold (sourceHolds t [] [vaOf w, vbOf w] [])

/-- vsel (R139). -/
def vselSlot (w : Nat) (t : Station) : SlotRes :=
  if !onlyFields w [fOp, fVd, fVa, fVb, fPred] then SlotRes.illegal 1 w
  else
    let v := pack 32 (selectLanes (preg t (predOf w)) (lanes (vreg t (vaOf w))) (lanes (vreg t (vbOf w))))
    (SlotRes.ok [.setV (vdOf w) v]).hold (sourceHolds t [] [vdOf w, vaOf w, vbOf w] [])

/-- vbcast (R139). -/
def vbcastSlot (w : Nat) (t : Station) : SlotRes :=
  if !onlyFields w [fOp, fVd, fPred, fSb] then SlotRes.illegal 1 w
  else
    let x := sreg t (sbOf w) % 2 ^ 32
    let v := pack 32 (selectLanes (preg t (predOf w)) (List.replicate 128 x) (lanes (vreg t (vdOf w))))
    (SlotRes.ok [.setV (vdOf w) v]).hold (sourceHolds t [sbOf w] [vdOf w] [])

/-- vext (R139). -/
def vextSlot (w : Nat) (t : Station) : SlotRes :=
  if !onlyFields w [fOp, fSd, fVa, (53, 7)] then SlotRes.illegal 1 w
  else (SlotRes.ok [.setS (vdOf w) (bits (vreg t (vaOf w)) (32 * immOf w) 32)]).hold (sourceHolds t [vdOf w] [vaOf w] [])

/-- A predicate operation (R139). -/
def predSlot (w : Nat) (t : Station) (two : Bool) (f : Nat → Nat → Nat) : SlotRes :=
  if !onlyFields w ([fOp, fPd, (14, 3)] ++ (if two then [(20, 3)] else [])) then SlotRes.illegal 1 w
  else SlotRes.ok [.setP (vdOf w) (f (preg t (vaOf w)) (preg t (vbOf w)))]

/-- pset (R139): the selected bits become 0 or 1, the others keep their value. -/
def psetSlot (w : Nat) (t : Station) : SlotRes :=
  if !onlyFields w [fOp, fPd, fPred, (53, 1)] then SlotRes.illegal 1 w
  else
    let p := preg t (predOf w)
    let old := preg t (vdOf w)
    SlotRes.ok [.setP (vdOf w) (if immOf w = 0 then Nat.xor old (Nat.land old p) else Nat.lor old p)]

/-- A rounding mode of a conversion (R107, R138); sr takes its random bits from the element index (R108, R141). -/
def rmode (m rnd : Nat) : Option RMode :=
  match m with
  | 0 => some .rne
  | 1 => some .rtz
  | 2 => some .rup
  | 3 => some .rdn
  | 4 => some (.sr rnd)
  | _ => none

/-- How many groups of a format a V register holds (R141). -/
def groups (f : NFmt) : Nat := if f.width = 16 then 2 else if f.width = 8 then 4 else if f.width = 6 then 5 else 8

/-- A narrowing conversion (R107-R113, R141). -/
def vcvtNarrowSlot (w st : Nat) (b : Body) (t : Station) : SlotRes :=
  match NFmt.ofCode (fmtOf w) with
  | none => SlotRes.illegal 1 w
  | some f =>
    let block := f.scaling != .none
    let m := modeOf w
    let ok := onlyFields w ([fOp, fVd, fVa, fMode, (38, 1), (39, 4), (53, 3)] ++ (if block then [(26, 5)] else [fPred])
      ++ (if m = 4 then [(48, 5)] else []))
    if !ok ∨ 5 ≤ m ∨ groups f ≤ immOf w ∨ (bit w 38 ∧ !f.isFp8) then SlotRes.illegal 1 w
    else
      let src := lanes (vreg t (vaOf w))
      let seed := getF b R.STN_ARITH_SEED.seed st
      let xs := src.zipIdx.map (fun x =>
        (f32dec x.1, (rmode m (srRandom seed (strokeNum b) ((sreg t (siOf w) + x.2) % 2 ^ 64))).getD .rne))
      let p := preg t (predOf w)
      let old := vreg t (vdOf w)
      let n := 128 * f.width
      if block then
        let r := narrow128 f (bit w 38) xs
        (SlotRes.ok [.setV (vdOf w) (setBits old (immOf w * n) n r.val.1), .setS (bits w 26 5) r.val.2, .flags r.fl]).hold
          (sourceHolds t [siOf w, bits w 26 5] [vaOf w, vdOf w] [])
      else
        let rs := xs.map (fun x => convElem f x.2 (bit w 38) x.1)
        let keep := unpack f.width (bits old (immOf w * n) n) 128
        let v := pack f.width (selectLanes p (rs.map (·.val)) keep)
        let fl := rs.zipIdx.foldl (fun a x => if bit p x.2 then a ||| x.1.fl else a) 0
        (SlotRes.ok [.setV (vdOf w) (setBits old (immOf w * n) n v), .flags fl]).hold
          (sourceHolds t [siOf w] [vaOf w, vdOf w] [])

/-- A widening conversion (R114, R142). -/
def vcvtWidenSlot (w : Nat) (t : Station) : SlotRes :=
  match NFmt.ofCode (fmtOf w) with
  | none => SlotRes.illegal 1 w
  | some f =>
    let block := f.scaling != .none
    if !onlyFields w ([fOp, fVd, fVa, (39, 4), (53, 3)] ++ (if block then [fSb] else [fPred])) ∨ groups f ≤ immOf w then
      SlotRes.illegal 1 w
    else
      let n := 128 * f.width
      let codes := unpack f.width (bits (vreg t (vaOf w)) (immOf w * n) n) 128
      let sc := sreg t (sbOf w)
      let scaleOf := fun k => if f.scaling == .q4t then bits sc (16 * k) 16 else bits sc (8 * k) 8
      let rs := codes.zipIdx.map (fun x => widenElem f (scaleOf (x.2 / 32)) (x.2 % 32) x.1)
      let r := laneOp (preg t (predOf w)) rs (lanes (vreg t (vdOf w)))
      (SlotRes.ok [.setV (vdOf w) r.val, .flags r.fl]).hold (sourceHolds t [sbOf w] [vaOf w, vdOf w] [])

/-- vtrd (R139, R157 item 7). -/
def vtrdSlot (w : Nat) (t : Station) : SlotRes :=
  if !onlyFields w [fOp, fVd, (14, 4), fPred, (53, 7)] then SlotRes.illegal 1 w
  else
    let v := pack 32 (selectLanes (preg t (predOf w)) (lanes (tileRow t (vaOf w) (immOf w))) (lanes (vreg t (vdOf w))))
    (SlotRes.ok [.setV (vdOf w) v]).hold (sourceHolds t [] [vdOf w] [vaOf w])

/-- vtwr (R139, R157 item 7). -/
def vtwrSlot (w : Nat) (t : Station) : SlotRes :=
  if !onlyFields w [fOp, (8, 4), fVa, (53, 7)] then SlotRes.illegal 1 w
  else (SlotRes.ok [.setRow (vdOf w) (immOf w) (vreg t (vaOf w))]).hold (sourceHolds t [] [vaOf w] [vdOf w])

/-- VLD (R139, R140). -/
def execVld (sl : Slot) (s : State) : Host.Outcome State Fault Refusal :=
  onSlot 1 0x01 (fun b t => vldSlot sl.w sl.st b t) sl s

/-- VST (R139, R140). -/
def execVst (sl : Slot) (s : State) : Host.Outcome State Fault Refusal :=
  onSlot 1 0x02 (fun b t => vstSlot sl.w sl.st b t) sl s

/-- SLD (R139, R140). -/
def execSld (sl : Slot) (s : State) : Host.Outcome State Fault Refusal :=
  onSlot 1 0x03 (fun b t => sldSlot sl.w sl.st b t) sl s

/-- SST (R139, R140). -/
def execSst (sl : Slot) (s : State) : Host.Outcome State Fault Refusal :=
  onSlot 1 0x04 (fun b t => sstSlot sl.w sl.st b t) sl s

/-- VADD_F32 (R102). -/
def execVaddF32 (sl : Slot) (s : State) : Host.Outcome State Fault Refusal :=
  onSlot 1 0x10 (fun _ t => laneSlot sl.w t 2 (fun a c _ => f32add a c)) sl s

/-- VSUB_F32 (R102). -/
def execVsubF32 (sl : Slot) (s : State) : Host.Outcome State Fault Refusal :=
  onSlot 1 0x11 (fun _ t => laneSlot sl.w t 2 (fun a c _ => f32sub a c)) sl s

/-- VMUL_F32 (R102). -/
def execVmulF32 (sl : Slot) (s : State) : Host.Outcome State Fault Refusal :=
  onSlot 1 0x12 (fun _ t => laneSlot sl.w t 2 (fun a c _ => f32mul a c)) sl s

/-- VFMA_F32 (R102, R103). -/
def execVfmaF32 (sl : Slot) (s : State) : Host.Outcome State Fault Refusal :=
  onSlot 1 0x13 (fun _ t => laneSlot sl.w t 3 (fun a c e => f32fma a c e)) sl s

/-- VMIN_F32 (R104). -/
def execVminF32 (sl : Slot) (s : State) : Host.Outcome State Fault Refusal :=
  onSlot 1 0x14 (fun _ t => laneSlot sl.w t 2 (fun a c _ => f32minmax false a c)) sl s

/-- VMAX_F32 (R104). -/
def execVmaxF32 (sl : Slot) (s : State) : Host.Outcome State Fault Refusal :=
  onSlot 1 0x15 (fun _ t => laneSlot sl.w t 2 (fun a c _ => f32minmax true a c)) sl s

/-- VRCP_F32 (R106). -/
def execVrcpF32 (sl : Slot) (s : State) : Host.Outcome State Fault Refusal :=
  onSlot 1 0x18 (fun _ t => laneSlot sl.w t 1 (fun a _ _ => f32rcp a)) sl s

/-- VSQRT_F32 (R106). -/
def execVsqrtF32 (sl : Slot) (s : State) : Host.Outcome State Fault Refusal :=
  onSlot 1 0x19 (fun _ t => laneSlot sl.w t 1 (fun a _ _ => f32sqrt a)) sl s

/-- VRSQRT_F32 (R106). -/
def execVrsqrtF32 (sl : Slot) (s : State) : Host.Outcome State Fault Refusal :=
  onSlot 1 0x1A (fun _ t => laneSlot sl.w t 1 (fun a _ _ => f32rsqrt a)) sl s

/-- VEXP2_F32 (R106). -/
def execVexp2F32 (sl : Slot) (s : State) : Host.Outcome State Fault Refusal :=
  onSlot 1 0x1B (fun _ t => laneSlot sl.w t 1 (fun a _ _ => f32exp2 a)) sl s

/-- VLOG2_F32 (R106). -/
def execVlog2F32 (sl : Slot) (s : State) : Host.Outcome State Fault Refusal :=
  onSlot 1 0x1C (fun _ t => laneSlot sl.w t 1 (fun a _ _ => f32log2 a)) sl s

/-- VRED_ADD_F32 (R105). -/
def execVredAddF32 (sl : Slot) (s : State) : Host.Outcome State Fault Refusal :=
  onSlot 1 0x1D (fun _ t => reduceSlot sl.w t 0 f32add) sl s

/-- VRED_MAX_F32 (R105, R139). -/
def execVredMaxF32 (sl : Slot) (s : State) : Host.Outcome State Fault Refusal :=
  onSlot 1 0x1E (fun _ t => reduceSlot sl.w t (f32inf true) (f32minmax true)) sl s

/-- VCMP_F32 (R104, R139). -/
def execVcmpF32 (sl : Slot) (s : State) : Host.Outcome State Fault Refusal :=
  onSlot 1 0x20 (fun _ t => vcmpSlot sl.w t) sl s

/-- VSEL (R139). -/
def execVsel (sl : Slot) (s : State) : Host.Outcome State Fault Refusal :=
  onSlot 1 0x21 (fun _ t => vselSlot sl.w t) sl s

/-- VMOV (R139). -/
def execVmov (sl : Slot) (s : State) : Host.Outcome State Fault Refusal :=
  onSlot 1 0x22 (fun _ t => laneSlot sl.w t 1 (plain (fun a _ => a))) sl s

/-- VBCAST (R139). -/
def execVbcast (sl : Slot) (s : State) : Host.Outcome State Fault Refusal :=
  onSlot 1 0x23 (fun _ t => vbcastSlot sl.w t) sl s

/-- VEXT (R139). -/
def execVext (sl : Slot) (s : State) : Host.Outcome State Fault Refusal :=
  onSlot 1 0x24 (fun _ t => vextSlot sl.w t) sl s

/-- VADD_I32 (R139). -/
def execVaddI32 (sl : Slot) (s : State) : Host.Outcome State Fault Refusal :=
  onSlot 1 0x28 (fun _ t => laneSlot sl.w t 2 (plain (fun a c => (a + c) % 2 ^ 32))) sl s

/-- VSUB_I32 (R139). -/
def execVsubI32 (sl : Slot) (s : State) : Host.Outcome State Fault Refusal :=
  onSlot 1 0x29 (fun _ t => laneSlot sl.w t 2 (plain (fun a c => (a + 2 ^ 32 - c) % 2 ^ 32))) sl s

/-- VAND (R139). -/
def execVand (sl : Slot) (s : State) : Host.Outcome State Fault Refusal :=
  onSlot 1 0x2A (fun _ t => laneSlot sl.w t 2 (plain (Nat.land))) sl s

/-- VOR (R139). -/
def execVor (sl : Slot) (s : State) : Host.Outcome State Fault Refusal :=
  onSlot 1 0x2B (fun _ t => laneSlot sl.w t 2 (plain (Nat.lor))) sl s

/-- VXOR (R139). -/
def execVxor (sl : Slot) (s : State) : Host.Outcome State Fault Refusal :=
  onSlot 1 0x2C (fun _ t => laneSlot sl.w t 2 (plain (Nat.xor))) sl s

/-- VSHL (R139). -/
def execVshl (sl : Slot) (s : State) : Host.Outcome State Fault Refusal :=
  onSlot 1 0x2D (fun _ t => laneSlot sl.w t 2 (plain (fun a c => a * 2 ^ (c % 32) % 2 ^ 32))) sl s

/-- VSHR (R139). -/
def execVshr (sl : Slot) (s : State) : Host.Outcome State Fault Refusal :=
  onSlot 1 0x2E (fun _ t => laneSlot sl.w t 2 (plain (fun a c => a / 2 ^ (c % 32)))) sl s

/-- VSRA (R139). -/
def execVsra (sl : Slot) (s : State) : Host.Outcome State Fault Refusal :=
  onSlot 1 0x2F (fun _ t => laneSlot sl.w t 2 (plain (fun a c => uint 32 (sint 32 a / (2 ^ (c % 32) : Nat))))) sl s

/-- PAND (R139). -/
def execPand (sl : Slot) (s : State) : Host.Outcome State Fault Refusal :=
  onSlot 1 0x30 (fun _ t => predSlot sl.w t true (Nat.land)) sl s

/-- POR (R139). -/
def execPor (sl : Slot) (s : State) : Host.Outcome State Fault Refusal :=
  onSlot 1 0x31 (fun _ t => predSlot sl.w t true (Nat.lor)) sl s

/-- PXOR (R139). -/
def execPxor (sl : Slot) (s : State) : Host.Outcome State Fault Refusal :=
  onSlot 1 0x32 (fun _ t => predSlot sl.w t true (Nat.xor)) sl s

/-- PNOT (R139). -/
def execPnot (sl : Slot) (s : State) : Host.Outcome State Fault Refusal :=
  onSlot 1 0x33 (fun _ t => predSlot sl.w t false (fun a _ => 2 ^ 128 - 1 - a)) sl s

/-- PSET (R139). -/
def execPset (sl : Slot) (s : State) : Host.Outcome State Fault Refusal :=
  onSlot 1 0x34 (fun _ t => psetSlot sl.w t) sl s

/-- VCVT_NARROW (R141). -/
def execVcvtNarrow (sl : Slot) (s : State) : Host.Outcome State Fault Refusal :=
  onSlot 1 0x40 (fun b t => vcvtNarrowSlot sl.w sl.st b t) sl s

/-- VCVT_WIDEN (R142). -/
def execVcvtWiden (sl : Slot) (s : State) : Host.Outcome State Fault Refusal :=
  onSlot 1 0x41 (fun _ t => vcvtWidenSlot sl.w t) sl s

/-- VTRD (R139). -/
def execVtrd (sl : Slot) (s : State) : Host.Outcome State Fault Refusal :=
  onSlot 1 0x50 (fun _ t => vtrdSlot sl.w t) sl s

/-- VTWR (R139). -/
def execVtwr (sl : Slot) (s : State) : Host.Outcome State Fault Refusal :=
  onSlot 1 0x51 (fun _ t => vtwrSlot sl.w t) sl s

end Sys2Proof.Machine
end

