-- ==== Sys2Proof/Machine/Dispatch.lean ====
section
/-! DEFINITION. One arm per command: a direct call of its meaning. -/

namespace Sys2Proof.Machine

/-- The effect of a command on everything but the queue. -/
def exec (i : Instr) (s : State) : Host.Outcome State Fault Refusal :=
  match i with
  | .registerWrite who addr data => Sys2Proof.Machine.execRegisterWrite who addr data s
  | .nop ix sl => Sys2Proof.Machine.execNop ix sl s
  | .mmul sl => Sys2Proof.Machine.execMmul sl s
  | .mzero sl => Sys2Proof.Machine.execMzero sl s
  | .matrixOpStart st => Sys2Proof.Machine.execMatrixOpStart st s
  | .matrixOpComplete st => Sys2Proof.Machine.execMatrixOpComplete st s
  | .vld sl => Sys2Proof.Machine.execVld sl s
  | .vst sl => Sys2Proof.Machine.execVst sl s
  | .sld sl => Sys2Proof.Machine.execSld sl s
  | .sst sl => Sys2Proof.Machine.execSst sl s
  | .vaddF32 sl => Sys2Proof.Machine.execVaddF32 sl s
  | .vsubF32 sl => Sys2Proof.Machine.execVsubF32 sl s
  | .vmulF32 sl => Sys2Proof.Machine.execVmulF32 sl s
  | .vfmaF32 sl => Sys2Proof.Machine.execVfmaF32 sl s
  | .vminF32 sl => Sys2Proof.Machine.execVminF32 sl s
  | .vmaxF32 sl => Sys2Proof.Machine.execVmaxF32 sl s
  | .vrcpF32 sl => Sys2Proof.Machine.execVrcpF32 sl s
  | .vsqrtF32 sl => Sys2Proof.Machine.execVsqrtF32 sl s
  | .vrsqrtF32 sl => Sys2Proof.Machine.execVrsqrtF32 sl s
  | .vexp2F32 sl => Sys2Proof.Machine.execVexp2F32 sl s
  | .vlog2F32 sl => Sys2Proof.Machine.execVlog2F32 sl s
  | .vredAddF32 sl => Sys2Proof.Machine.execVredAddF32 sl s
  | .vredMaxF32 sl => Sys2Proof.Machine.execVredMaxF32 sl s
  | .vcmpF32 sl => Sys2Proof.Machine.execVcmpF32 sl s
  | .vsel sl => Sys2Proof.Machine.execVsel sl s
  | .vmov sl => Sys2Proof.Machine.execVmov sl s
  | .vbcast sl => Sys2Proof.Machine.execVbcast sl s
  | .vext sl => Sys2Proof.Machine.execVext sl s
  | .vaddI32 sl => Sys2Proof.Machine.execVaddI32 sl s
  | .vsubI32 sl => Sys2Proof.Machine.execVsubI32 sl s
  | .vand sl => Sys2Proof.Machine.execVand sl s
  | .vor sl => Sys2Proof.Machine.execVor sl s
  | .vxor sl => Sys2Proof.Machine.execVxor sl s
  | .vshl sl => Sys2Proof.Machine.execVshl sl s
  | .vshr sl => Sys2Proof.Machine.execVshr sl s
  | .vsra sl => Sys2Proof.Machine.execVsra sl s
  | .pand sl => Sys2Proof.Machine.execPand sl s
  | .por sl => Sys2Proof.Machine.execPor sl s
  | .pxor sl => Sys2Proof.Machine.execPxor sl s
  | .pnot sl => Sys2Proof.Machine.execPnot sl s
  | .pset sl => Sys2Proof.Machine.execPset sl s
  | .vcvtNarrow sl => Sys2Proof.Machine.execVcvtNarrow sl s
  | .vcvtWiden sl => Sys2Proof.Machine.execVcvtWiden sl s
  | .vtrd sl => Sys2Proof.Machine.execVtrd sl s
  | .vtwr sl => Sys2Proof.Machine.execVtwr sl s
  | .dmovG2s sl => Sys2Proof.Machine.execDmovG2s sl s
  | .dmovS2g sl => Sys2Proof.Machine.execDmovS2g sl s
  | .dmovS2s sl => Sys2Proof.Machine.execDmovS2s sl s
  | .dlist sl => Sys2Proof.Machine.execDlist sl s
  | .addI sl => Sys2Proof.Machine.execAdd sl s
  | .subI sl => Sys2Proof.Machine.execSub sl s
  | .andI sl => Sys2Proof.Machine.execAnd sl s
  | .orI sl => Sys2Proof.Machine.execOr sl s
  | .xorI sl => Sys2Proof.Machine.execXor sl s
  | .shl sl => Sys2Proof.Machine.execShl sl s
  | .shr sl => Sys2Proof.Machine.execShr sl s
  | .sra sl => Sys2Proof.Machine.execSra sl s
  | .mulI sl => Sys2Proof.Machine.execMul sl s
  | .slt sl => Sys2Proof.Machine.execSlt sl s
  | .sltu sl => Sys2Proof.Machine.execSltu sl s
  | .li sl => Sys2Proof.Machine.execLi sl s
  | .lih sl => Sys2Proof.Machine.execLih sl s
  | .beq sl => Sys2Proof.Machine.execBeq sl s
  | .bne sl => Sys2Proof.Machine.execBne sl s
  | .blt sl => Sys2Proof.Machine.execBlt sl s
  | .bge sl => Sys2Proof.Machine.execBge sl s
  | .bltu sl => Sys2Proof.Machine.execBltu sl s
  | .bgeu sl => Sys2Proof.Machine.execBgeu sl s
  | .jmp sl => Sys2Proof.Machine.execJmp sl s
  | .jal sl => Sys2Proof.Machine.execJal sl s
  | .jr sl => Sys2Proof.Machine.execJr sl s
  | .loop sl => Sys2Proof.Machine.execLoop sl s
  | .tallySig sl => Sys2Proof.Machine.execTallySig sl s
  | .tallyWait sl => Sys2Proof.Machine.execTallyWait sl s
  | .tallySet sl => Sys2Proof.Machine.execTallySet sl s
  | .tallyRd sl => Sys2Proof.Machine.execTallyRd sl s
  | .barArrive sl => Sys2Proof.Machine.execBarArrive sl s
  | .barWait sl => Sys2Proof.Machine.execBarWait sl s
  | .barSync sl => Sys2Proof.Machine.execBarSync sl s
  | .strokeEnd sl => Sys2Proof.Machine.execStrokeEnd sl s
  | .sysRd sl => Sys2Proof.Machine.execSysRd sl s
  | .fence sl => Sys2Proof.Machine.execFence sl s
  | .mbxRd sl => Sys2Proof.Machine.execMbxRd sl s
  | .mbxWr sl => Sys2Proof.Machine.execMbxWr sl s
  | .trap sl => Sys2Proof.Machine.execTrap sl s
  | .flitReadRequest src dst => Sys2Proof.Machine.execFlitReadRequest src dst s
  | .flitReadResponse src dst => Sys2Proof.Machine.execFlitReadResponse src dst s
  | .flitWrite src dst => Sys2Proof.Machine.execFlitWrite src dst s
  | .flitWriteAck src dst => Sys2Proof.Machine.execFlitWriteAck src dst s
  | .flitErrorResponse src dst => Sys2Proof.Machine.execFlitErrorResponse src dst s
  | .flitTallySignal src dst => Sys2Proof.Machine.execFlitTallySignal src dst s
  | .flitDroverBulk src dst => Sys2Proof.Machine.execFlitDroverBulk src dst s
  | .ucieFlitReceive lk seq ack crcOk => Sys2Proof.Machine.execUcieFlitReceive lk seq ack crcOk s
  | .ucieRetryRequest lk first => Sys2Proof.Machine.execUcieRetryRequest lk first s
  | .ucieModuleDisable lk => Sys2Proof.Machine.execUcieModuleDisable lk s
  | .stnClkTargetWrite isl code => Sys2Proof.Machine.execStnClkTargetWrite isl code s
  | .droopClockStop isl => Sys2Proof.Machine.execDroopClockStop isl s
  | .droopClockResume isl cycles effCode => Sys2Proof.Machine.execDroopClockResume isl cycles effCode s
  | .droopHalt isl => Sys2Proof.Machine.execDroopHalt isl s
  | .stnRun st v => Sys2Proof.Machine.execStnRun st v s
  | .stnFence st v => Sys2Proof.Machine.execStnFence st v s
  | .stnPowerGate st v => Sys2Proof.Machine.execStnPowerGate st v s
  | .spareSelfTestComplete st pass => Sys2Proof.Machine.execSpareSelfTestComplete st pass s
  | .stnSramInit st => Sys2Proof.Machine.execStnSramInit st s
  | .sramInitComplete st => Sys2Proof.Machine.execSramInitComplete st s
  | .stnSeqPcWrite st pc => Sys2Proof.Machine.execStnSeqPcWrite st pc s
  | .istoreWrite st bundle word => Sys2Proof.Machine.execIstoreWrite st bundle word s
  | .excCauseClear st => Sys2Proof.Machine.execExcCauseClear st s
  | .dieQuiesce die v => Sys2Proof.Machine.execDieQuiesce die v s
  | .quiesceComplete die => Sys2Proof.Machine.execQuiesceComplete die s
  | .stnMapWrite die k word => Sys2Proof.Machine.execStnMapWrite die k word s
  | .mapCommit die => Sys2Proof.Machine.execMapCommit die s
  | .sramCorrectionWriteback st unit => Sys2Proof.Machine.execSramCorrectionWriteback st unit s
  | .sramScrubRead st store unit upset => Sys2Proof.Machine.execSramScrubRead st store unit upset s
  | .stackScrubRead unit upset => Sys2Proof.Machine.execStackScrubRead unit upset s
  | .bar2Read addr len => Sys2Proof.Machine.execBar2Read addr len s
  | .bar2Write addr data => Sys2Proof.Machine.execBar2Write addr data s
  | .stackRequest src dst => Sys2Proof.Machine.execStackRequest src dst s
  | .stackAccessComplete stack pc upset => Sys2Proof.Machine.execStackAccessComplete stack pc upset s
  | .stackRecalibration stack pc => Sys2Proof.Machine.execStackRecalibration stack pc s
  | .stackRefresh stack bank => Sys2Proof.Machine.execStackRefresh stack bank s
  | .selfRefreshEnter stack => Sys2Proof.Machine.execSelfRefreshEnter stack s
  | .stackTrainingComplete stack pcUp pass => Sys2Proof.Machine.execStackTrainingComplete stack pcUp pass s
  | .stackLoss stack pc => Sys2Proof.Machine.execStackLoss stack pc s
  | .droverEntryStart dr => Sys2Proof.Machine.execDroverEntryStart dr s
  | .descCopy dr => Sys2Proof.Machine.execDescCopy dr s
  | .descStrided dr => Sys2Proof.Machine.execDescStrided dr s
  | .descGather dr => Sys2Proof.Machine.execDescGather dr s
  | .descScatter dr => Sys2Proof.Machine.execDescScatter dr s
  | .descSignal dr => Sys2Proof.Machine.execDescSignal dr s
  | .descWait dr => Sys2Proof.Machine.execDescWait dr s
  | .descWaitSatisfied dr => Sys2Proof.Machine.execDescWaitSatisfied dr s
  | .droverTransferVisible dr => Sys2Proof.Machine.execDroverTransferVisible dr s
  | .drvResume dr => Sys2Proof.Machine.execDrvResume dr s
  | .drvFlush dr => Sys2Proof.Machine.execDrvFlush dr s
  | .drvHqTailWrite h tail => Sys2Proof.Machine.execDrvHqTailWrite h tail s
  | .hostDescriptorRun h data => Sys2Proof.Machine.execHostDescriptorRun h data s
  | .drvHqFaultClear h => Sys2Proof.Machine.execDrvHqFaultClear h s
  | .stagedEntryAppend stack => Sys2Proof.Machine.execStagedEntryAppend stack s
  | .mirrorEntryReceive stack home stroke payload => Sys2Proof.Machine.execMirrorEntryReceive stack home stroke payload s
  | .commitStart => Sys2Proof.Machine.execCommitStart s
  | .tailApplyComplete stack => Sys2Proof.Machine.execTailApplyComplete stack s
  | .commitComplete => Sys2Proof.Machine.execCommitComplete s
  | .commitHold v => Sys2Proof.Machine.execCommitHold v s
  | .commitDiscard => Sys2Proof.Machine.execCommitDiscard s
  | .commitRetryApply => Sys2Proof.Machine.execCommitRetryApply s
  | .chkInit unit => Sys2Proof.Machine.execChkInit unit s
  | .chkFeed unit n frameEnd => Sys2Proof.Machine.execChkFeed unit n frameEnd s
  | .telegramStart h b => Sys2Proof.Machine.execTelegramStart h b s
  | .armStart h b => Sys2Proof.Machine.execArmStart h b s
  | .replayStart h b => Sys2Proof.Machine.execReplayStart h b s
  | .telegramHeadroom h b => Sys2Proof.Machine.execTelegramHeadroom h b s
  | .telegramArrive h gen count => Sys2Proof.Machine.execTelegramArrive h gen count s
  | .telegramRelease h gen => Sys2Proof.Machine.execTelegramRelease h gen s
  | .telegramTally h b => Sys2Proof.Machine.execTelegramTally h b s
  | .telegramLoss h b => Sys2Proof.Machine.execTelegramLoss h b s
  | .telegramEcho h b t4 => Sys2Proof.Machine.execTelegramEcho h b t4 s
  | .headroomDeadline level => Sys2Proof.Machine.execHeadroomDeadline level s
  | .headroomPublish => Sys2Proof.Machine.execHeadroomPublish s
  | .strokeTimerSend => Sys2Proof.Machine.execStrokeTimerSend s
  | .seatSilence => Sys2Proof.Machine.execSeatSilence s
  | .seatDelayMeasure => Sys2Proof.Machine.execSeatDelayMeasure s
  | .catchWarning => Sys2Proof.Machine.execCatchWarning s
  | .catch => Sys2Proof.Machine.execCatch s
  | .driveEnd => Sys2Proof.Machine.execDriveEnd s
  | .barrierRelease st ch => Sys2Proof.Machine.execBarrierRelease st ch s
  | .strokeEnableWrite v => Sys2Proof.Machine.execStrokeEnableWrite v s
  | .korrelFlitReceive p r => Sys2Proof.Machine.execKorrelFlitReceive p r s
  | .korrelRetryRequest p stream seq => Sys2Proof.Machine.execKorrelRetryRequest p stream seq s
  | .korrelRetryTimeout p stream => Sys2Proof.Machine.execKorrelRetryTimeout p stream s
  | .korrelIdleSend p => Sys2Proof.Machine.execKorrelIdleSend p s
  | .korrelCreditSyncSend p => Sys2Proof.Machine.execKorrelCreditSyncSend p s
  | .creditSync p counts => Sys2Proof.Machine.execCreditSync p counts s
  | .korrelPortSilence p => Sys2Proof.Machine.execKorrelPortSilence p s
  | .korrelLossOfLock p => Sys2Proof.Machine.execKorrelLossOfLock p s
  | .cageCableInsert p => Sys2Proof.Machine.execCageCableInsert p s
  | .cageCableRemove p => Sys2Proof.Machine.execCageCableRemove p s
  | .cagePresenceStable p cable watts => Sys2Proof.Machine.execCagePresenceStable p cable watts s
  | .trainId p t => Sys2Proof.Machine.execTrainId p t s
  | .trainDone p => Sys2Proof.Machine.execTrainDone p s
  | .trainIdRepeat p => Sys2Proof.Machine.execTrainIdRepeat p s
  | .portRetrainTimer p => Sys2Proof.Machine.execPortRetrainTimer p s
  | .portTrafficEnable p => Sys2Proof.Machine.execPortTrafficEnable p s
  | .klkPortRetrain p => Sys2Proof.Machine.execKlkPortRetrain p s
  | .korrelProbe p m seq => Sys2Proof.Machine.execKorrelProbe p m seq s
  | .korrelProbeReply m seq => Sys2Proof.Machine.execKorrelProbeReply m seq s
  | .probeTimeout m => Sys2Proof.Machine.execProbeTimeout m s
  | .korrelNotice tray m up => Sys2Proof.Machine.execKorrelNotice tray m up s
  | .klkIsolate => Sys2Proof.Machine.execKlkIsolate s
  | .klkRejoin n => Sys2Proof.Machine.execKlkRejoin n s
  | .routeWrite m kind pair clearLost => Sys2Proof.Machine.execRouteWrite m kind pair clearLost s
  | .faultReport copy => Sys2Proof.Machine.execFaultReport copy s
  | .replayRequest m stroke g cls inPrep => Sys2Proof.Machine.execReplayRequest m stroke g cls inPrep s
  | .abortI stroke cls origin => Sys2Proof.Machine.execAbort stroke cls origin s
  | .pairNote m partner st => Sys2Proof.Machine.execPairNote m partner st s
  | .pairRangeCopyComplete => Sys2Proof.Machine.execPairRangeCopyComplete s
  | .fillOrder lost standin spare => Sys2Proof.Machine.execFillOrder lost standin spare s
  | .fillCopyComplete ranges => Sys2Proof.Machine.execFillCopyComplete ranges s
  | .fillCopied lost => Sys2Proof.Machine.execFillCopied lost s
  | .standinLoadComplete addr len => Sys2Proof.Machine.execStandinLoadComplete addr len s
  | .fillDone lost => Sys2Proof.Machine.execFillDone lost s
  | .standin stroke lost standin kind => Sys2Proof.Machine.execStandin stroke lost standin kind s
  | .standinAck stroke m => Sys2Proof.Machine.execStandinAck stroke m s
  | .returnI m role flock crc => Sys2Proof.Machine.execReturn m role flock crc s
  | .returnAck m result => Sys2Proof.Machine.execReturnAck m result s
  | .returnRepeat => Sys2Proof.Machine.execReturnRepeat s
  | .returnTimeout => Sys2Proof.Machine.execReturnTimeout s
  | .presenceClose => Sys2Proof.Machine.execPresenceClose s
  | .prechargeStart => Sys2Proof.Machine.execPrechargeStart s
  | .prechargeComplete => Sys2Proof.Machine.execPrechargeComplete s
  | .prechargeFail mv => Sys2Proof.Machine.execPrechargeFail mv s
  | .inputReturn => Sys2Proof.Machine.execInputReturn s
  | .inputOv mv => Sys2Proof.Machine.execInputOv mv s
  | .inputUv mv => Sys2Proof.Machine.execInputUv mv s
  | .inputOc ma => Sys2Proof.Machine.execInputOc ma s
  | .converterCell cell value => Sys2Proof.Machine.execConverterCell cell value s
  | .busOv mv => Sys2Proof.Machine.execBusOv mv s
  | .busUv mv => Sys2Proof.Machine.execBusUv mv s
  | .portOc ma => Sys2Proof.Machine.execPortOc ma s
  | .portOt mc => Sys2Proof.Machine.execPortOt mc s
  | .ratioFault die value => Sys2Proof.Machine.execRatioFault die value s
  | .ratioOc die ma => Sys2Proof.Machine.execRatioOc die ma s
  | .railOv e l mv => Sys2Proof.Machine.execRailOv e l mv s
  | .railUv e l mv => Sys2Proof.Machine.execRailUv e l mv s
  | .phaseLoss e l value => Sys2Proof.Machine.execPhaseLoss e l value s
  | .dieOt die mc => Sys2Proof.Machine.execDieOt die mc s
  | .packInsulation kohm => Sys2Proof.Machine.execPackInsulation kohm s
  | .contactorWeld pos neg => Sys2Proof.Machine.execContactorWeld pos neg s
  | .phaseRemove e l ph => Sys2Proof.Machine.execPhaseRemove e l ph s
  | .busCellStop mv => Sys2Proof.Machine.execBusCellStop mv s
  | .busLowAssert => Sys2Proof.Machine.execBusLowAssert s
  | .busLowRelease => Sys2Proof.Machine.execBusLowRelease s
  | .packCheck => Sys2Proof.Machine.execPackCheck s
  | .packCheckRetry => Sys2Proof.Machine.execPackCheckRetry s
  | .stpClose => Sys2Proof.Machine.execStpClose s
  | .contactorCloseConfirm pos neg mv => Sys2Proof.Machine.execContactorCloseConfirm pos neg mv s
  | .stpOpen => Sys2Proof.Machine.execStpOpen s
  | .stpDischargeCap => Sys2Proof.Machine.execStpDischargeCap s
  | .recoveryChargeComplete => Sys2Proof.Machine.execRecoveryChargeComplete s
  | .presenceLost ma => Sys2Proof.Machine.execPresenceLost ma s
  | .housekeepingSupplyStop => Sys2Proof.Machine.execHousekeepingSupplyStop s
  | .loopPeriod e l x => Sys2Proof.Machine.execLoopPeriod e l x s
  | .satTimeEvent e l => Sys2Proof.Machine.execSatTimeEvent e l s
  | .plausEvent e l => Sys2Proof.Machine.execPlausEvent e l s
  | .frozenSample e l m fallbackFresh => Sys2Proof.Machine.execFrozenSample e l m fallbackFresh s
  | .frozenHoldExpire e l => Sys2Proof.Machine.execFrozenHoldExpire e l s
  | .pgTick e k => Sys2Proof.Machine.execPgTick e k s
  | .softstartDone e k => Sys2Proof.Machine.execSoftstartDone e k s
  | .pgTargetWrite who e k x => Sys2Proof.Machine.execPgTargetWrite who e k x s
  | .pgLimitWrite who e k v a j => Sys2Proof.Machine.execPgLimitWrite who e k v a j s
  | .pgPreset who e k => Sys2Proof.Machine.execPgPreset who e k s
  | .pgOwnerWrite who e k owner => Sys2Proof.Machine.execPgOwnerWrite who e k owner s
  | .loopModeWrite who e l m => Sys2Proof.Machine.execLoopModeWrite who e l m s
  | .warnTimeout e => Sys2Proof.Machine.execWarnTimeout e s
  | .shedHoldoffExpire e => Sys2Proof.Machine.execShedHoldoffExpire e s
  | .shedStart e ma => Sys2Proof.Machine.execShedStart e ma s
  | .shedComplete e => Sys2Proof.Machine.execShedComplete e s
  | .phaseReadd e ma => Sys2Proof.Machine.execPhaseReadd e ma s
  | .stepDetected e => Sys2Proof.Machine.execStepDetected e s
  | .clkForceWrite who e code => Sys2Proof.Machine.execClkForceWrite who e code s
  | .capWrite who w => Sys2Proof.Machine.execCapWrite who w s
  | .tlmWindowEnd e window xs => Sys2Proof.Machine.execTlmWindowEnd e window xs s
  | .ledgerDecision => Sys2Proof.Machine.execLedgerDecision s
  | .ledgerSweepUpdate => Sys2Proof.Machine.execLedgerSweepUpdate s
  | .ledgerStaleSweep => Sys2Proof.Machine.execLedgerStaleSweep s
  | .reserveReached => Sys2Proof.Machine.execReserveReached s
  | .floorRegained => Sys2Proof.Machine.execFloorRegained s
  | .energyExhausted => Sys2Proof.Machine.execEnergyExhausted s
  | .sweepStart => Sys2Proof.Machine.execSweepStart s
  | .cmConvert k frame reverse => Sys2Proof.Machine.execCmConvert k frame reverse s
  | .cmConversionWindow k x => Sys2Proof.Machine.execCmConversionWindow k x s
  | .cmWindowEnd k => Sys2Proof.Machine.execCmWindowEnd k s
  | .cmRead k frame fromR => Sys2Proof.Machine.execCmRead k frame fromR s
  | .cmData k fromR frame => Sys2Proof.Machine.execCmData k fromR frame s
  | .cmBalance k frame => Sys2Proof.Machine.execCmBalance k frame s
  | .cmEnum k frame fromR => Sys2Proof.Machine.execCmEnum k frame fromR s
  | .cmAlert k frame => Sys2Proof.Machine.execCmAlert k frame s
  | .cmCellLimitCross k cell above => Sys2Proof.Machine.execCmCellLimitCross k cell above s
  | .cmStrapChange k pins => Sys2Proof.Machine.execCmStrapChange k pins s
  | .cmSleep k => Sys2Proof.Machine.execCmSleep k s
  | .cmConvertTimeout k => Sys2Proof.Machine.execCmConvertTimeout k s
  | .ringConvertTimeout => Sys2Proof.Machine.execRingConvertTimeout s
  | .ringReadTimeout => Sys2Proof.Machine.execRingReadTimeout s
  | .sweepEnd ma dur => Sys2Proof.Machine.execSweepEnd ma dur s
  | .ringLost => Sys2Proof.Machine.execRingLost s
  | .sweepStale => Sys2Proof.Machine.execSweepStale s
  | .ringEnumProbe ret => Sys2Proof.Machine.execRingEnumProbe ret s
  | .cmnEnum who ret => Sys2Proof.Machine.execCmnEnum who ret s
  | .shepherdHeartbeat w counter => Sys2Proof.Machine.execShepherdHeartbeat w counter s
  | .stateRecord => Sys2Proof.Machine.execStateRecord s
  | .heartbeatMissed us => Sys2Proof.Machine.execHeartbeatMissed us s
  | .lockstepMismatch us => Sys2Proof.Machine.execLockstepMismatch us s
  | .takeoverRequest us => Sys2Proof.Machine.execTakeoverRequest us s
  | .shepherdRestart w => Sys2Proof.Machine.execShepherdRestart w s
  | .shepherdSelfTestPass w => Sys2Proof.Machine.execShepherdSelfTestPass w s
  | .noShepherd => Sys2Proof.Machine.execNoShepherd s
  | .handbackPending => Sys2Proof.Machine.execHandbackPending s
  | .handbackSwitch => Sys2Proof.Machine.execHandbackSwitch s
  | .shepherdFrameReceive frame => Sys2Proof.Machine.execShepherdFrameReceive frame s
  | .pcieFunctionReset => Sys2Proof.Machine.execPcieFunctionReset s
  | .pcieConventionalReset => Sys2Proof.Machine.execPcieConventionalReset s
  | .pcieLinkLoss => Sys2Proof.Machine.execPcieLinkLoss s
  | .irqCauseClear mask => Sys2Proof.Machine.execIrqCauseClear mask s
  | .irqMaskWrite mask => Sys2Proof.Machine.execIrqMaskWrite mask s
  | .irqTest mask => Sys2Proof.Machine.execIrqTest mask s
  | .msixUnmask v => Sys2Proof.Machine.execMsixUnmask v s
  | .mbxDoorbell m => Sys2Proof.Machine.execMbxDoorbell m s
  | .mailboxTake m => Sys2Proof.Machine.execMailboxTake m s
  | .syncAuxEdge => Sys2Proof.Machine.execSyncAuxEdge s
  | .syncAuxWaitTimeout => Sys2Proof.Machine.execSyncAuxWaitTimeout s
  | .identify m => Sys2Proof.Machine.execIdentify m s
  | .status m => Sys2Proof.Machine.execStatus m s
  | .timeSet m => Sys2Proof.Machine.execTimeSet m s
  | .planLoad m => Sys2Proof.Machine.execPlanLoad m s
  | .flockJoin m => Sys2Proof.Machine.execFlockJoin m s
  | .flockLeave m => Sys2Proof.Machine.execFlockLeave m s
  | .strokeStartRun m => Sys2Proof.Machine.execStrokeStartRun m s
  | .strokeStartStop m => Sys2Proof.Machine.execStrokeStartStop m s
  | .strokeStartInbound m => Sys2Proof.Machine.execStrokeStartInbound m s
  | .contractSet m => Sys2Proof.Machine.execContractSet m s
  | .capEmergency m => Sys2Proof.Machine.execCapEmergency m s
  | .ledgerRead m => Sys2Proof.Machine.execLedgerRead m s
  | .coxLoopRead m => Sys2Proof.Machine.execCoxLoopRead m s
  | .coxModeSetSupSel m => Sys2Proof.Machine.execCoxModeSetSupSel m s
  | .coxModeSetSupTimes m => Sys2Proof.Machine.execCoxModeSetSupTimes m s
  | .coxModeSetGroup m => Sys2Proof.Machine.execCoxModeSetGroup m s
  | .storageStatus m => Sys2Proof.Machine.execStorageStatus m s
  | .balancePolicy m => Sys2Proof.Machine.execBalancePolicy m s
  | .logbookOpenCursor m => Sys2Proof.Machine.execLogbookOpenCursor m s
  | .logbookRead m => Sys2Proof.Machine.execLogbookRead m s
  | .logbookClear m => Sys2Proof.Machine.execLogbookClear m s
  | .countersGrant m => Sys2Proof.Machine.execCountersGrant m s
  | .countersRevoke m => Sys2Proof.Machine.execCountersRevoke m s
  | .accordSubmit m => Sys2Proof.Machine.execAccordSubmit m s
  | .accordNonce m => Sys2Proof.Machine.execAccordNonce m s
  | .nonceExpire => Sys2Proof.Machine.execNonceExpire s
  | .fwStage m => Sys2Proof.Machine.execFwStage m s
  | .fwActivateDeferred m => Sys2Proof.Machine.execFwActivateDeferred m s
  | .fwActivateNow m => Sys2Proof.Machine.execFwActivateNow m s
  | .fwTrialSwitch => Sys2Proof.Machine.execFwTrialSwitch s
  | .fwTrialConfirm => Sys2Proof.Machine.execFwTrialConfirm s
  | .fwTrialFail w => Sys2Proof.Machine.execFwTrialFail w s
  | .shepherdBoot w failA failB => Sys2Proof.Machine.execShepherdBoot w failA failB s
  | .pairSet m => Sys2Proof.Machine.execPairSet m s
  | .pairSetUnpair m => Sys2Proof.Machine.execPairSetUnpair m s
  | .failoverStatus m => Sys2Proof.Machine.execFailoverStatus m s
  | .drainBegin m => Sys2Proof.Machine.execDrainBegin m s
  | .drainCancel m => Sys2Proof.Machine.execDrainCancel m s
  | .drainStateChange => Sys2Proof.Machine.execDrainStateChange s
  | .spdmGetVersion t => Sys2Proof.Machine.execSpdmGetVersion t s
  | .spdmGetCapabilities t => Sys2Proof.Machine.execSpdmGetCapabilities t s
  | .spdmNegotiateAlgorithms t spec asym hash => Sys2Proof.Machine.execSpdmNegotiateAlgorithms t spec asym hash s
  | .spdmGetDigests t => Sys2Proof.Machine.execSpdmGetDigests t s
  | .spdmGetCertificate t slot off len => Sys2Proof.Machine.execSpdmGetCertificate t slot off len s
  | .spdmChallenge t slot kind nonce => Sys2Proof.Machine.execSpdmChallenge t slot kind nonce s
  | .spdmGetMeasurements t op withSig nonce => Sys2Proof.Machine.execSpdmGetMeasurements t op withSig nonce s
  | .debugPortAccess a => Sys2Proof.Machine.execDebugPortAccess a s
  | .lostRecord => Sys2Proof.Machine.execLostRecord s
  | .logbookFlashWrite => Sys2Proof.Machine.execLogbookFlashWrite s
  | .logbookSectorErase => Sys2Proof.Machine.execLogbookSectorErase s
  | .logbookScan bad tornFirst tornLast settingsOk => Sys2Proof.Machine.execLogbookScan bad tornFirst tornLast settingsOk s
  | .logbookMirrorComplete => Sys2Proof.Machine.execLogbookMirrorComplete s
  | .hourStampSave => Sys2Proof.Machine.execHourStampSave s
  | .lgbLoad => Sys2Proof.Machine.execLgbLoad s
  | .lgbAdvance => Sys2Proof.Machine.execLgbAdvance s
  | .lgbWindowReady => Sys2Proof.Machine.execLgbWindowReady s
  | .pmcEventCount page k occ cycles excess => Sys2Proof.Machine.execPmcEventCount page k occ cycles excess s
  | .pmcCntWrite page k v => Sys2Proof.Machine.execPmcCntWrite page k v s
  | .pmcIntervalTick die t => Sys2Proof.Machine.execPmcIntervalTick die t s
  | .pmcBufCfgWrite die word => Sys2Proof.Machine.execPmcBufCfgWrite die word s
  | .pmcTimerWrite die t word => Sys2Proof.Machine.execPmcTimerWrite die t word s
  | .pmcTrigWrite word => Sys2Proof.Machine.execPmcTrigWrite word s
  | .pmcRingTailWrite die ring tail => Sys2Proof.Machine.execPmcRingTailWrite die ring tail s
  | .mailboxExchange ch req => Sys2Proof.Machine.execMailboxExchange ch req s
  | .setEndpointId op eid => Sys2Proof.Machine.execSetEndpointId op eid s
  | .getEndpointId => Sys2Proof.Machine.execGetEndpointId s
  | .getEndpointUuid => Sys2Proof.Machine.execGetEndpointUuid s
  | .getMctpVersionSupport type => Sys2Proof.Machine.execGetMctpVersionSupport type s
  | .getMessageTypeSupport => Sys2Proof.Machine.execGetMessageTypeSupport s
  | .setdasa static new => Sys2Proof.Machine.execSetdasa static new s
  | .entdaa new => Sys2Proof.Machine.execEntdaa new s
  | .gettid => Sys2Proof.Machine.execGettid s
  | .settid tid => Sys2Proof.Machine.execSettid tid s
  | .getpldmversion type => Sys2Proof.Machine.execGetpldmversion type s
  | .getpldmtypes => Sys2Proof.Machine.execGetpldmtypes s
  | .getpldmcommands type => Sys2Proof.Machine.execGetpldmcommands type s
  | .getpdrrepositoryinfo => Sys2Proof.Machine.execGetpdrrepositoryinfo s
  | .getpdr handle => Sys2Proof.Machine.execGetpdr handle s
  | .getsensorreading id => Sys2Proof.Machine.execGetsensorreading id s
  | .getstatesensorreadings id => Sys2Proof.Machine.execGetstatesensorreadings id s
  | .seteventreceiver enable eid => Sys2Proof.Machine.execSeteventreceiver enable eid s
  | .platformEventAck => Sys2Proof.Machine.execPlatformEventAck s
  | .pldmEventHoldoff id => Sys2Proof.Machine.execPldmEventHoldoff id s
  | .querydeviceidentifiers => Sys2Proof.Machine.execQuerydeviceidentifiers s
  | .getfirmwareparameters => Sys2Proof.Machine.execGetfirmwareparameters s
  | .requestupdate => Sys2Proof.Machine.execRequestupdate s
  | .passcomponenttable comp => Sys2Proof.Machine.execPasscomponenttable comp s
  | .updatecomponent comp size => Sys2Proof.Machine.execUpdatecomponent comp size s
  | .firmwareDataReceive data => Sys2Proof.Machine.execFirmwareDataReceive data s
  | .activatefirmware self => Sys2Proof.Machine.execActivatefirmware self s
  | .getstatus => Sys2Proof.Machine.execGetstatus s
  | .cancelupdatecomponent => Sys2Proof.Machine.execCancelupdatecomponent s
  | .cancelupdate => Sys2Proof.Machine.execCancelupdate s
  | .powerOnReset => Sys2Proof.Machine.execPowerOnReset s
  | .moduleReset => Sys2Proof.Machine.execModuleReset s
  | .moduleResetRelease => Sys2Proof.Machine.execModuleResetRelease s
  | .busStart => Sys2Proof.Machine.execBusStart s
  | .railsStartHandover => Sys2Proof.Machine.execRailsStartHandover s
  | .dieEdgeInitComplete up => Sys2Proof.Machine.execDieEdgeInitComplete up s
  | .stationSelfTestComplete failed => Sys2Proof.Machine.execStationSelfTestComplete failed s
  | .registerRead who addr n => Sys2Proof.Machine.execRegisterRead who addr n s
  | .inputAbnormal mv => Sys2Proof.Machine.execInputAbnormal mv s
  | .controllerRestart stack => Sys2Proof.Machine.execControllerRestart stack s
  | .korrelLaneLock p polarity reversed ok => Sys2Proof.Machine.execKorrelLaneLock p polarity reversed ok s
  | .cageInterrupt p => Sys2Proof.Machine.execCageInterrupt p s
  | .pcieLinkUp rate width flit => Sys2Proof.Machine.execPcieLinkUp rate width flit s
  | .enumRepeat ret => Sys2Proof.Machine.execEnumRepeat ret s
  | .monitorReset k => Sys2Proof.Machine.execMonitorReset k s

end Sys2Proof.Machine
end

