-- ==== Sys2Proof/WellFormed.lean ====
section
/-! DEFINITION. Well-formed commands: the units they name exist and their operands fit the fields the spec gives them. Nothing in the
machine depends on it; statements use it as their premise. -/

namespace Sys2Proof

open Sys2Proof.Machine

/-- A slot word of a station that spells an opcode (R128). -/
def Slot.spells (sl : Slot) (op : Nat) : Bool := isStation sl.st && decide (sl.w < 2 ^ 64) && (bits sl.w 0 8 == op)

/-- Is a command well formed? -/
def Instr.wellFormed (i : Instr) : Bool :=
  match i with
  | .registerWrite _ _ _ => true
  | .nop ix sl => decide (ix < 4) && sl.spells 0x00
  | .mmul sl => sl.spells 0x10
  | .mzero sl => sl.spells 0x20
  | .matrixOpStart st => isStation st
  | .matrixOpComplete st => isStation st
  | .vld sl => sl.spells 0x01
  | .vst sl => sl.spells 0x02
  | .sld sl => sl.spells 0x03
  | .sst sl => sl.spells 0x04
  | .vaddF32 sl => sl.spells 0x10
  | .vsubF32 sl => sl.spells 0x11
  | .vmulF32 sl => sl.spells 0x12
  | .vfmaF32 sl => sl.spells 0x13
  | .vminF32 sl => sl.spells 0x14
  | .vmaxF32 sl => sl.spells 0x15
  | .vrcpF32 sl => sl.spells 0x18
  | .vsqrtF32 sl => sl.spells 0x19
  | .vrsqrtF32 sl => sl.spells 0x1A
  | .vexp2F32 sl => sl.spells 0x1B
  | .vlog2F32 sl => sl.spells 0x1C
  | .vredAddF32 sl => sl.spells 0x1D
  | .vredMaxF32 sl => sl.spells 0x1E
  | .vcmpF32 sl => sl.spells 0x20
  | .vsel sl => sl.spells 0x21
  | .vmov sl => sl.spells 0x22
  | .vbcast sl => sl.spells 0x23
  | .vext sl => sl.spells 0x24
  | .vaddI32 sl => sl.spells 0x28
  | .vsubI32 sl => sl.spells 0x29
  | .vand sl => sl.spells 0x2A
  | .vor sl => sl.spells 0x2B
  | .vxor sl => sl.spells 0x2C
  | .vshl sl => sl.spells 0x2D
  | .vshr sl => sl.spells 0x2E
  | .vsra sl => sl.spells 0x2F
  | .pand sl => sl.spells 0x30
  | .por sl => sl.spells 0x31
  | .pxor sl => sl.spells 0x32
  | .pnot sl => sl.spells 0x33
  | .pset sl => sl.spells 0x34
  | .vcvtNarrow sl => sl.spells 0x40
  | .vcvtWiden sl => sl.spells 0x41
  | .vtrd sl => sl.spells 0x50
  | .vtwr sl => sl.spells 0x51
  | .dmovG2s sl => sl.spells 0x01
  | .dmovS2g sl => sl.spells 0x02
  | .dmovS2s sl => sl.spells 0x03
  | .dlist sl => sl.spells 0x04
  | .addI sl => sl.spells 0x01
  | .subI sl => sl.spells 0x02
  | .andI sl => sl.spells 0x03
  | .orI sl => sl.spells 0x04
  | .xorI sl => sl.spells 0x05
  | .shl sl => sl.spells 0x06
  | .shr sl => sl.spells 0x07
  | .sra sl => sl.spells 0x08
  | .mulI sl => sl.spells 0x09
  | .slt sl => sl.spells 0x0A
  | .sltu sl => sl.spells 0x0B
  | .li sl => sl.spells 0x0C
  | .lih sl => sl.spells 0x0D
  | .beq sl => sl.spells 0x20
  | .bne sl => sl.spells 0x21
  | .blt sl => sl.spells 0x22
  | .bge sl => sl.spells 0x23
  | .bltu sl => sl.spells 0x24
  | .bgeu sl => sl.spells 0x25
  | .jmp sl => sl.spells 0x26
  | .jal sl => sl.spells 0x27
  | .jr sl => sl.spells 0x28
  | .loop sl => sl.spells 0x29
  | .tallySig sl => sl.spells 0x30
  | .tallyWait sl => sl.spells 0x31
  | .tallySet sl => sl.spells 0x32
  | .tallyRd sl => sl.spells 0x33
  | .barArrive sl => sl.spells 0x38
  | .barWait sl => sl.spells 0x39
  | .barSync sl => sl.spells 0x3A
  | .strokeEnd sl => sl.spells 0x3C
  | .sysRd sl => sl.spells 0x40
  | .fence sl => sl.spells 0x41
  | .mbxRd sl => sl.spells 0x48
  | .mbxWr sl => sl.spells 0x49
  | .trap sl => sl.spells 0x50
  | .flitReadRequest _ dst => isStation dst
  | .flitReadResponse _ dst => isStation dst
  | .flitWrite _ dst => isStation dst
  | .flitWriteAck _ dst => isStation dst
  | .flitErrorResponse _ dst => isStation dst
  | .flitTallySignal _ dst => isStation dst
  | .flitDroverBulk _ dst => isStation dst
  | .ucieFlitReceive lk seq ack _ => (isLink lk) && decide (seq < 4096) && decide (ack < 4096)
  | .ucieRetryRequest lk first => (isLink lk) && decide (first < 4096)
  | .ucieModuleDisable lk => isLink lk
  | .stnClkTargetWrite isl code => (isIsland isl) && decide (code < 512)
  | .droopClockStop isl => isIsland isl
  | .droopClockResume isl _ _ => isIsland isl
  | .droopHalt isl => isIsland isl
  | .stnRun st _ => isStation st
  | .stnFence st _ => isStation st
  | .stnPowerGate st _ => isStation st
  | .spareSelfTestComplete st _ => isStation st
  | .stnSramInit st => isStation st
  | .sramInitComplete st => isStation st
  | .stnSeqPcWrite st pc => (isStation st) && decide (pc < 4096)
  | .istoreWrite st bundle word => (isStation st) && decide (bundle < 4096) && decide (word < 2 ^ 256)
  | .excCauseClear st => isStation st
  | .dieQuiesce die _ => isDie die
  | .quiesceComplete die => isDie die
  | .stnMapWrite die k word => (isDie die && decide (k < 12)) && decide (word < 2 ^ 32)
  | .mapCommit die => isDie die
  | .sramCorrectionWriteback st _ => isStation st
  | .sramScrubRead st store unit _ => isStation st && decide (unit < (if store then 4096 else 196608))
  | .stackScrubRead unit _ => decide (unit < 12 * stackUnits)
  | .bar2Read _ _ => true
  | .bar2Write _ _ => true
  | .stackRequest _ dst => decide (1024 ≤ dst) && isStack (dst - 1024)
  | .stackAccessComplete stack pc _ => isStack stack && decide (pc < 64)
  | .stackRecalibration stack pc => isStack stack && decide (pc < 64)
  | .stackRefresh stack bank => isStack stack && decide (bank < 2 ^ 16)
  | .selfRefreshEnter stack => isStack stack
  | .stackTrainingComplete stack pcUp _ => (isStack stack) && decide (pcUp < 2 ^ 64)
  | .stackLoss stack pc => isStack stack && decide (pc < 64)
  | .droverEntryStart dr => isDrover dr
  | .descCopy dr => isDrover dr
  | .descStrided dr => isDrover dr
  | .descGather dr => isDrover dr
  | .descScatter dr => isDrover dr
  | .descSignal dr => isDrover dr
  | .descWait dr => isDrover dr
  | .descWaitSatisfied dr => isDrover dr
  | .droverTransferVisible dr => isDrover dr
  | .drvResume dr => isDrover dr
  | .drvFlush dr => isDrover dr
  | .drvHqTailWrite h tail => (isHq h) && decide (tail < 64)
  | .hostDescriptorRun h _ => isHq h
  | .drvHqFaultClear h => isHq h
  | .stagedEntryAppend stack => isStack stack
  | .mirrorEntryReceive stack _ _ _ => isStack stack
  | .commitStart => true
  | .tailApplyComplete stack => isStack stack
  | .commitComplete => true
  | .commitHold _ => true
  | .commitDiscard => true
  | .commitRetryApply => true
  | .chkInit unit => isChk unit
  | .chkFeed unit _ _ => isChk unit
  | .telegramStart _ _ => true
  | .armStart _ _ => true
  | .replayStart _ _ => true
  | .telegramHeadroom _ _ => true
  | .telegramArrive _ _ _ => true
  | .telegramRelease _ _ => true
  | .telegramTally _ _ => true
  | .telegramLoss _ _ => true
  | .telegramEcho _ _ _ => true
  | .headroomDeadline _ => true
  | .headroomPublish => true
  | .strokeTimerSend => true
  | .seatSilence => true
  | .seatDelayMeasure => true
  | .catchWarning => true
  | .catch => true
  | .driveEnd => true
  | .barrierRelease st ch => isStation st && decide (ch < 8)
  | .strokeEnableWrite _ => true
  | .korrelFlitReceive p _ => isPort p
  | .korrelRetryRequest p _ _ => isPort p
  | .korrelRetryTimeout p _ => isPort p
  | .korrelIdleSend p => isPort p
  | .korrelCreditSyncSend p => isPort p
  | .creditSync p _ => isPort p
  | .korrelPortSilence p => isPort p
  | .korrelLossOfLock p => isPort p
  | .cageCableInsert p => isPort p
  | .cageCableRemove p => isPort p
  | .cagePresenceStable p _ _ => isPort p
  | .trainId p _ => isPort p
  | .trainDone p => isPort p
  | .trainIdRepeat p => isPort p
  | .portRetrainTimer p => isPort p
  | .portTrafficEnable p => isPort p
  | .klkPortRetrain p => isPort p
  | .korrelProbe p m _ => isPort p && isModule m
  | .korrelProbeReply m _ => isModule m
  | .probeTimeout m => isModule m
  | .korrelNotice tray m _ => decide (tray < 6) && isModule m
  | .klkIsolate => true
  | .klkRejoin n => decide (n < 4)
  | .routeWrite m _ _ _ => isModule m
  | .faultReport _ => true
  | .replayRequest m stroke g _ _ => isModule m && decide (stroke < 2 ^ 48 ∧ g < 2 ^ 48)
  | .abortI _ _ _ => true
  | .pairNote m partner _ => isModule m && isModule partner
  | .pairRangeCopyComplete => true
  | .fillOrder _ _ _ => true
  | .fillCopyComplete _ => true
  | .fillCopied _ => true
  | .standinLoadComplete _ _ => true
  | .fillDone _ => true
  | .standin _ _ _ _ => true
  | .standinAck _ _ => true
  | .returnI m _ _ _ => isModule m
  | .returnAck _ _ => true
  | .returnRepeat => true
  | .returnTimeout => true
  | .presenceClose => true
  | .prechargeStart => true
  | .prechargeComplete => true
  | .prechargeFail _ => true
  | .inputReturn => true
  | .inputOv _ => true
  | .inputUv _ => true
  | .inputOc _ => true
  | .converterCell cell _ => decide (cell < 5)
  | .busOv _ => true
  | .busUv _ => true
  | .portOc _ => true
  | .portOt _ => true
  | .ratioFault die _ => isDie die
  | .ratioOc die _ => isDie die
  | .railOv e l _ => decide (e < 20 ∧ l < 16)
  | .railUv e l _ => decide (e < 20 ∧ l < 16)
  | .phaseLoss e l _ => decide (e < 20 ∧ l < 16)
  | .dieOt die _ => isDie die
  | .packInsulation _ => true
  | .contactorWeld _ _ => true
  | .phaseRemove e l ph => decide (e < 20 ∧ l < 16 ∧ ph < railPhases e l)
  | .busCellStop _ => true
  | .busLowAssert => true
  | .busLowRelease => true
  | .packCheck => true
  | .packCheckRetry => true
  | .stpClose => true
  | .contactorCloseConfirm _ _ _ => true
  | .stpOpen => true
  | .stpDischargeCap => true
  | .recoveryChargeComplete => true
  | .presenceLost _ => true
  | .housekeepingSupplyStop => true
  | .loopPeriod e l _ => isLoop e l
  | .satTimeEvent e l => isLoop e l
  | .plausEvent e l => isLoop e l
  | .frozenSample e l _ _ => isLoop e l
  | .frozenHoldExpire e l => isLoop e l
  | .pgTick e k => isPg e k
  | .softstartDone e k => isPg e k
  | .pgTargetWrite _ e k x => (isPg e k) && decide (x < 2 ^ 32)
  | .pgLimitWrite _ e k _ _ _ => isPg e k
  | .pgPreset _ e k => isPg e k
  | .pgOwnerWrite _ e k _ => isPg e k
  | .loopModeWrite _ e l _ => isLoop e l
  | .warnTimeout e => decide (e < 20)
  | .shedHoldoffExpire e => decide (e < 20)
  | .shedStart e _ => isShed e
  | .shedComplete e => isShed e
  | .phaseReadd e _ => isShed e
  | .stepDetected e => isShed e
  | .clkForceWrite _ e code => (decide (e < 20)) && decide (code < 512)
  | .capWrite _ w => decide (w < 2 ^ 14)
  | .tlmWindowEnd e window _ => decide (e < 20 ∧ window < 3)
  | .ledgerDecision => true
  | .ledgerSweepUpdate => true
  | .ledgerStaleSweep => true
  | .reserveReached => true
  | .floorRegained => true
  | .energyExhausted => true
  | .sweepStart => true
  | .cmConvert k _ _ => isMon k
  | .cmConversionWindow k _ => isMon k
  | .cmWindowEnd k => isMon k
  | .cmRead k _ _ => isMon k
  | .cmData k _ _ => isMon k
  | .cmBalance k _ => isMon k
  | .cmEnum k _ _ => isMon k
  | .cmAlert k _ => isMon k
  | .cmCellLimitCross k _ _ => isMon k
  | .cmStrapChange k _ => isMon k
  | .cmSleep k => isMon k
  | .cmConvertTimeout k => isMon k
  | .ringConvertTimeout => true
  | .ringReadTimeout => true
  | .sweepEnd _ _ => true
  | .ringLost => true
  | .sweepStale => true
  | .ringEnumProbe _ => true
  | .cmnEnum _ _ => true
  | .shepherdHeartbeat w counter => (isShepherd w) && decide (counter < 65536)
  | .stateRecord => true
  | .heartbeatMissed _ => true
  | .lockstepMismatch _ => true
  | .takeoverRequest _ => true
  | .shepherdRestart w => isShepherd w
  | .shepherdSelfTestPass w => isShepherd w
  | .noShepherd => true
  | .handbackPending => true
  | .handbackSwitch => true
  | .shepherdFrameReceive frame => decide (frame.length = 224)
  | .pcieFunctionReset => true
  | .pcieConventionalReset => true
  | .pcieLinkLoss => true
  | .irqCauseClear mask => decide (mask < 2 ^ 30)
  | .irqMaskWrite mask => decide (mask < 2 ^ 30)
  | .irqTest mask => decide (mask < 2 ^ 30)
  | .msixUnmask v => decide (v < 64)
  | .mbxDoorbell m => decide (m < 16)
  | .mailboxTake m => isMailbox m
  | .syncAuxEdge => true
  | .syncAuxWaitTimeout => true
  | .identify m => isMailbox m
  | .status m => isMailbox m
  | .timeSet m => isMailbox m
  | .planLoad m => isMailbox m
  | .flockJoin m => isMailbox m
  | .flockLeave m => isMailbox m
  | .strokeStartRun m => isMailbox m
  | .strokeStartStop m => isMailbox m
  | .strokeStartInbound m => isMailbox m
  | .contractSet m => isMailbox m
  | .capEmergency m => isMailbox m
  | .ledgerRead m => isMailbox m
  | .coxLoopRead m => isMailbox m
  | .coxModeSetSupSel m => isMailbox m
  | .coxModeSetSupTimes m => isMailbox m
  | .coxModeSetGroup m => isMailbox m
  | .storageStatus m => isMailbox m
  | .balancePolicy m => isMailbox m
  | .logbookOpenCursor m => isMailbox m
  | .logbookRead m => isMailbox m
  | .logbookClear m => isMailbox m
  | .countersGrant m => isMailbox m
  | .countersRevoke m => isMailbox m
  | .accordSubmit m => isMailbox m
  | .accordNonce m => isMailbox m
  | .nonceExpire => true
  | .fwStage m => isMailbox m
  | .fwActivateDeferred m => isMailbox m
  | .fwActivateNow m => isMailbox m
  | .fwTrialSwitch => true
  | .fwTrialConfirm => true
  | .fwTrialFail w => isShepherd w
  | .shepherdBoot w _ _ => isShepherd w
  | .pairSet m => isMailbox m
  | .pairSetUnpair m => isMailbox m
  | .failoverStatus m => isMailbox m
  | .drainBegin m => isMailbox m
  | .drainCancel m => isMailbox m
  | .drainStateChange => true
  | .spdmGetVersion t => isSpdm t
  | .spdmGetCapabilities t => isSpdm t
  | .spdmNegotiateAlgorithms t _ _ _ => isSpdm t
  | .spdmGetDigests t => isSpdm t
  | .spdmGetCertificate t _ _ _ => isSpdm t
  | .spdmChallenge t _ _ _ => isSpdm t
  | .spdmGetMeasurements t _ _ _ => isSpdm t
  | .debugPortAccess a => debugNames a
  | .lostRecord => true
  | .logbookFlashWrite => true
  | .logbookSectorErase => true
  | .logbookScan _ _ _ _ => true
  | .logbookMirrorComplete => true
  | .hourStampSave => true
  | .lgbLoad => true
  | .lgbAdvance => true
  | .lgbWindowReady => true
  | .pmcEventCount page k _ _ _ => isCounter page k
  | .pmcCntWrite page k _ => isCounter page k
  | .pmcIntervalTick die t => isDie die && decide (t < 4)
  | .pmcBufCfgWrite die word => (isDie die) && decide (word < 2 ^ 32)
  | .pmcTimerWrite die t word => (isDie die && decide (t < 4)) && decide (word < 2 ^ 32)
  | .pmcTrigWrite word => decide (word < 2 ^ 32)
  | .pmcRingTailWrite die ring _ => isDie die && decide (ring < 2)
  | .mailboxExchange _ _ => true
  | .setEndpointId _ _ => true
  | .getEndpointId => true
  | .getEndpointUuid => true
  | .getMctpVersionSupport _ => true
  | .getMessageTypeSupport => true
  | .setdasa _ _ => true
  | .entdaa _ => true
  | .gettid => true
  | .settid _ => true
  | .getpldmversion _ => true
  | .getpldmtypes => true
  | .getpldmcommands _ => true
  | .getpdrrepositoryinfo => true
  | .getpdr _ => true
  | .getsensorreading _ => true
  | .getstatesensorreadings _ => true
  | .seteventreceiver _ _ => true
  | .platformEventAck => true
  | .pldmEventHoldoff _ => true
  | .querydeviceidentifiers => true
  | .getfirmwareparameters => true
  | .requestupdate => true
  | .passcomponenttable _ => true
  | .updatecomponent _ _ => true
  | .firmwareDataReceive _ => true
  | .activatefirmware _ => true
  | .getstatus => true
  | .cancelupdatecomponent => true
  | .cancelupdate => true
  | .powerOnReset => true
  | .moduleReset => true
  | .moduleResetRelease => true
  | .busStart => true
  | .railsStartHandover => true
  | .dieEdgeInitComplete up => up.all (fun m => decide (m < 65536))
  | .stationSelfTestComplete failed => failed.all isStation
  | .registerRead _ _ _ => true
  | .inputAbnormal _ => true
  | .controllerRestart stack => isStack stack
  | .korrelLaneLock p _ _ _ => isPort p
  | .cageInterrupt p => isPort p
  | .pcieLinkUp rate width _ => decide (rate < 6) && [1, 2, 4, 8, 16].contains width
  | .enumRepeat _ => true
  | .monitorReset k => isMon k

end Sys2Proof
end

