-- ==== Sys2Proof/Safety.lean ====
section
/-! DEFINITION. What a safe run is, and the words the statements are made of: the invariant, what a command leaves
unchanged, and a bundle of one slot that issues. -/

namespace Sys2Proof.Machine

/-- The invariant of a run: the bytes of the stacks are kept in their one canonical form. -/
def Inv (s : State) : Prop := Memory.wf s.mem = true

/-- The parts of Body, by the names of its fields. -/
inductive Part where
  | regs | stations | dieMap | drovers | fabric | ucie | shadow | stopped | badStack | memStacks | chkFrame
  | hostDrovers | flock | korrel | host | logbook | fail | cox | ledger | cells | trust | pmc | rack | reports | sent
  | now | free
deriving DecidableEq, Repr

/-- Does a part hold in `c` what it holds in `b`? -/
def Part.same (p : Part) (b c : Body) : Prop :=
  match p with
  | .regs => c.regs = b.regs
  | .stations => c.stations = b.stations
  | .dieMap => c.dieMap = b.dieMap
  | .drovers => c.drovers = b.drovers
  | .fabric => c.fabric = b.fabric
  | .ucie => c.ucie = b.ucie
  | .shadow => c.shadow = b.shadow
  | .stopped => c.stopped = b.stopped
  | .badStack => c.badStack = b.badStack
  | .memStacks => c.memStacks = b.memStacks
  | .chkFrame => c.chkFrame = b.chkFrame
  | .hostDrovers => c.hostDrovers = b.hostDrovers
  | .flock => c.flock = b.flock
  | .korrel => c.korrel = b.korrel
  | .host => c.host = b.host
  | .logbook => c.logbook = b.logbook
  | .fail => c.fail = b.fail
  | .cox => c.cox = b.cox
  | .ledger => c.ledger = b.ledger
  | .cells => c.cells = b.cells
  | .trust => c.trust = b.trust
  | .pmc => c.pmc = b.pmc
  | .rack => c.rack = b.rack
  | .reports => c.reports = b.reports
  | .sent => c.sent = b.sent
  | .now => c.now = b.now
  | .free => c.free = b.free

/-- Every part of `c` but those of `ps` is as in `b`. -/
def Only (ps : List Part) (b c : Body) : Prop := ∀ p, p ∈ ps ∨ p.same b c

/-- Every field of every register but the fields `fs` of instance `i` reads in `c` as in `b`. -/
def RegsBut (fs : List Field) (i : Nat) (b c : Body) : Prop :=
  ∀ f j, f.idx < 1024 → j ≠ i ∨ f.idx ∉ fs.map Field.idx → getF c f j = getF b f j

/-- Command `c` takes effect at `s`: it answers a next state with the queue and every byte of the stacks as before, that
differs in no part of Body but `ps` and of which `P` holds. -/
def Runs (c : Instr) (s : State) (ps : List Part) (P : Body → Prop) : Prop :=
  ∃ b, Sys2Proof.Machine.exec c s = .next { s with body := b } ∧ Only ps s.body b ∧ P b

/-- Command `c` takes effect at `s`: it answers a next state with the queue as before, of which `P` holds. -/
def RunsS (c : Instr) (s : State) (P : State → Prop) : Prop :=
  ∃ t, Sys2Proof.Machine.exec c s = .next t ∧ t.pending = s.pending ∧ P t

/-- A slot is a whole bundle that its station can issue: the station exists and runs, no other slot of the bundle was
presented, this one is the last, and the bundle's word is readable (R75, R128, R157 item 9, R161, R182; log entry 4). -/
def alone (sl : Slot) (b : Body) : Bool :=
  isStation sl.st && sl.last && (stn b sl.st).opened.isEmpty && issuing b sl.st
    && (SMap.get (stn b sl.st).badIstore [] (getF b R.STN_SEQ_PC.pc sl.st)).isEmpty

/-- The next pc and the loop stack after a bundle at `pc` that names no target (R149). -/
def nextPc (pc : Nat) (loops : List LoopEntry) : Nat × List LoopEntry :=
  match loops with
  | [] => ((pc + 1) % 4096, [])
  | e :: rest =>
    if e.stop ≠ pc then ((pc + 1) % 4096, e :: rest)
    else if 1 < e.count then (e.start % 4096, { e with count := e.count - 1 } :: rest)
    else ((pc + 1) % 4096, rest)

/-- What STN_SEQ_STATUS shows of a wait (R165). -/
def waitFields : List Field :=
  [R.STN_SEQ_STATUS.fence_wait, R.STN_SEQ_STATUS.tally_wait, R.STN_SEQ_STATUS.wait_tally, R.STN_SEQ_STATUS.barrier_wait]

/-- The fields every issue of a bundle may change: the pc, the state, and what STN_SEQ_STATUS shows of a wait (R151,
R165). -/
def issueFields : List Field := R.STN_SEQ_PC.pc :: R.STN_STATUS.state :: waitFields

/-- The bundle of slot `sl` has issued: its station holds `x` with loop stack `loops`, its pc is `pc`, it runs and waits on
nothing; the queue, every byte of the stacks, every other station and every other part of the module are as before, and
so is every register field but issueFields and `fs` of the station. -/
def IssuedAt (pc : Nat) (loops : List LoopEntry) (fs : List Field) (sl : Slot) (s t : State) (x : Station) : Prop :=
  t.pending = s.pending ∧ t.mem = s.mem ∧ Only [.stations, .regs, .free] s.body t.body
    ∧ stn t.body sl.st = { x with loops := loops } ∧ (∀ y, y ≠ sl.st → stn t.body y = stn s.body y)
    ∧ getF t.body R.STN_SEQ_PC.pc sl.st = pc ∧ getF t.body R.STN_STATUS.state sl.st = 3
    ∧ flagF t.body R.STN_SEQ_STATUS.tally_wait sl.st = false ∧ flagF t.body R.STN_SEQ_STATUS.barrier_wait sl.st = false
    ∧ flagF t.body R.STN_SEQ_STATUS.fence_wait sl.st = false
    ∧ RegsBut (issueFields ++ fs) sl.st s.body t.body

/-- The bundle of slot `sl` has issued and the sequencer goes on in order or round its innermost loop. -/
def Issued (fs : List Field) (sl : Slot) (s t : State) (x : Station) : Prop :=
  let n := nextPc (getF s.body R.STN_SEQ_PC.pc sl.st) (stn s.body sl.st).loops
  IssuedAt n.1 n.2 fs sl s t x

/-- Command `c`, a slot that is a whole bundle, issues and leaves its station holding `x`. -/
def Retires (c : Instr) (sl : Slot) (s : State) (x : Station) : Prop :=
  ∃ t, Sys2Proof.Machine.exec c s = .next t ∧ Issued [] sl s t x

/-- Command `c`, a slot that is a whole bundle, is held: the bundle does not issue, no station changes, no register but
issueFields of the station and nothing else of the module but the count of free values; `P` says what it shows. -/
def Waits (c : Instr) (sl : Slot) (s : State) (P : State → Prop) : Prop :=
  ∃ t, Sys2Proof.Machine.exec c s = .next t ∧ t.pending = s.pending ∧ t.mem = s.mem
    ∧ Only [.stations, .regs, .free] s.body t.body ∧ (∀ y, stn t.body y = stn s.body y)
    ∧ getF t.body R.STN_SEQ_PC.pc sl.st = getF s.body R.STN_SEQ_PC.pc sl.st ∧ RegsBut issueFields sl.st s.body t.body ∧ P t

/-- The fields that record an exception (R163, R164), the waits it ends (R165), and the state. -/
def excFields : List Field :=
  waitFields ++ [R.STN_EXC_CAUSE.cause, R.STN_EXC_CAUSE.slot, R.STN_EXC_CAUSE.precise, R.STN_EXC_CAUSE.more,
   R.STN_EXC_CAUSE.trapped_flags, R.STN_EXC_CAUSE.valid, R.STN_EXC_PC.pc, R.STN_EXC_INFO.info, R.STN_STATUS.state]

/-- Command `c`, a slot that is a whole bundle, raises the one precise exception `e` (R160, R161): the bundle does not
issue, no station's own state changes, the station's state becomes 6, firmware is told, and the exception is recorded
where none is recorded yet. -/
def Excepts (c : Instr) (sl : Slot) (s : State) (e : Exc) : Prop :=
  ∃ t, Sys2Proof.Machine.exec c s = .next t ∧ t.pending = s.pending ∧ t.mem = s.mem
    ∧ Only [.stations, .regs, .free, .reports] s.body t.body ∧ (∀ y, stn t.body y = stn s.body y)
    ∧ t.body.reports = s.body.reports ++ [.stationExc sl.st] ∧ RegsBut excFields sl.st s.body t.body
    ∧ getF t.body R.STN_STATUS.state sl.st = 6
    ∧ (getF s.body R.STN_EXC_CAUSE.valid sl.st ≠ 1 →
        getF t.body R.STN_EXC_CAUSE.valid sl.st = 1 ∧ getF t.body R.STN_EXC_CAUSE.cause sl.st = e.cause
        ∧ getF t.body R.STN_EXC_CAUSE.slot sl.st = e.slot ∧ getF t.body R.STN_EXC_CAUSE.precise sl.st = 1
        ∧ getF t.body R.STN_EXC_CAUSE.more sl.st = 0
        ∧ getF t.body R.STN_EXC_PC.pc sl.st = getF s.body R.STN_SEQ_PC.pc sl.st % 4096
        ∧ getF t.body R.STN_EXC_INFO.info sl.st = e.info % 2 ^ 64)
    ∧ (getF s.body R.STN_EXC_CAUSE.valid sl.st = 1 → getF t.body R.STN_EXC_CAUSE.more sl.st = 1)

/-- Lane `l` of a vector value (R125). -/
def vlane (v l : Nat) : Nat := bits v (32 * l) 32

/-- Command `op` with body `t.body` is in execution in mailbox `m` of the host, to be answered without an interrupt, and a Shepherd
is active (R507, R509). -/
def Asked (m op : Nat) (t : Taken) (b : Body) : Prop :=
  m < 16 ∧ (mbx b m).taken = some t ∧ t.opcode = op ∧ t.noIrq = true ∧ shepherdActive b = true

/-- Mailbox `m` has answered request `t` with a status and a body, and is done (R507, R509). -/
def Answered (m : Nat) (t : Taken) (status : Nat) (body : List Byte) (b : Body) : Prop :=
  let msg := leBytes 2 t.opcode ++ leBytes 2 t.alive ++ leBytes 2 body.length ++ [BitVec.ofNat 8 status, 0] ++ leBytes 8 t.tag ++ body
  (mbx b m).response = msg ++ leBytes 4 (crc32c msg) ∧ (mbx b m).taken = none ∧ getF b R.MBX_STATUS.state m = 3

/-- Mailbox `m` has refused request `t` with a status, the offset of the faulty field (none: 0xFFFFFFFF) and a detail (R507). -/
def Refused (m : Nat) (t : Taken) (status : Nat) (offset : Option Nat) (detail : Nat) (b : Body) : Prop :=
  Answered m t status (leBytes 4 (offset.getD 0xFFFFFFFF) ++ leBytes 4 detail) b

/-- May a command write bytes of the stacks: the accesses of the host and of firmware (R172), the accesses, write-backs and tails of the memory
controllers with the headers of their staging regions (R185, R193 to R200), what prepares a replay and restores from a copy (R308, R314),
host drovers (R192) and the resets (R654)? Firmware reports faults to itself on the way of many of its own commands. -/
def writesStacks (c : Instr) : Bool :=
  match c with
  | .bar2Write _ _ => true
  | .registerWrite _ _ _ => true
  | .stackAccessComplete _ _ _ => true
  | .stackScrubRead _ _ => true
  | .stagedEntryAppend _ => true
  | .tailApplyComplete _ => true
  | .commitStart => true
  | .commitComplete => true
  | .commitDiscard => true
  | .commitRetryApply => true
  | .hostDescriptorRun _ _ => true
  | .faultReport _ => true
  | .abortI _ _ _ => true
  | .replayRequest _ _ _ _ _ => true
  | .replayStart _ _ => true
  | .fwTrialSwitch => true
  | .heartbeatMissed _ => true
  | .lockstepMismatch _ => true
  | .shepherdBoot _ _ _ => true
  | .shepherdFrameReceive _ => true
  | .shepherdHeartbeat _ _ => true
  | .shepherdSelfTestPass _ => true
  | .takeoverRequest _ => true
  | .moduleReset => true
  | .powerOnReset => true
  | _ => false

end Sys2Proof.Machine
end

