-- ==== Sys2Proof/Certificates/Slice0/Obligations.lean ====
section
/-! DEFINITION. The statements for the provers. -/

open Sys2Proof Sys2Proof.Machine

/-- The command at the front of the queue takes effect with the queue's rest. On an empty queue the time base advances by 1 000 ns
and nothing else changes: the model's own choice (log entry 1). -/
def Obligations.StepRunsFront : Prop :=
  (∀ (c : Instr) (rest : List Instr) (s : State),
      Sys2Proof.Machine.step { s with pending := c :: rest } = Sys2Proof.Machine.exec c { s with pending := rest })
    ∧ ∀ s : State, s.pending = [] → ∃ t, Sys2Proof.Machine.step s = .next t ∧ t.pending = [] ∧ t.mem = s.mem
      ∧ Only [.now] s.body t.body ∧ t.body.now = s.body.now + 1000

/-- After power-on reset no command waits, no byte of a stack is listed, and the registers hold the reset values of their
maps: stations gated off, islands at code 320, 48 active stations a die, ports enabled, stacks of 80 GiB, and so on. -/
def Obligations.ResetValues : Prop :=
  State.reset.pending = [] ∧ State.reset.mem = []
    ∧ ∀ i, ∀ p ∈ [(R.STN_CTRL.power_gate, 1), (R.STN_CTRL.run, 0), (R.STN_CTRL.fence, 0), (R.STN_SEQ_PC.pc, 0),
        (R.STN_EXC_CAUSE.valid, 0), (R.STN_ARITH_FLAGS.flags, 0), (R.STN_CLK_TARGET.target_code, 320),
        (R.STN_DIE_STATUS.active_count, 48), (R.MEM_ID.capacity_gib, 80), (R.KLK_PORT_CTRL.enable, 1),
        (R.COX_SHED_CFG.holdoff_us, 200), (R.LDG_RESERVE.reserve_mj, 35000000), (R.CMN_CTRL.period_ms, 10),
        (R.IRQ_MASK.mask, 0x3FFFFFFF), (R.PMC_BUF_CFG.watermark, 8), (R.SHP_STARTUP.done, 0), (R.SHP_STARTUP.ready, 0)],
      getF State.reset.body p.1 i = p.2

/-- The invariant holds after reset. -/
def Obligations.ResetKeepsInvariant : Prop := Inv State.reset

/-- Every step keeps the bytes of the stacks in their canonical form, so that equal memories are equal data, and takes from
the queue the one command it runs, whatever that command is. -/
def Obligations.StepKeepsInvariant : Prop :=
  ∀ s t : State, Inv s → Sys2Proof.Machine.step s = .next t → Inv t ∧ t.pending = s.pending.tail

/-- Every well-formed command takes effect in every state: none ends in a fault or a refusal. -/
def Obligations.WellFormedCompletes : Prop :=
  ∀ c : Instr, c.wellFormed = true → ∀ s : State, ∃ t, Sys2Proof.Machine.exec c s = .next t

/-- A command that names a unit the module has not stops with a fault, and a slot command whose bits spell another command's
opcode with a refusal; neither can reach the hardware. -/
def Obligations.AbsentUnitsStop : Prop :=
  ∀ (s : State),
    (∀ st, isStation st = false → Sys2Proof.Machine.exec (.excCauseClear st) s = .fault .noSuchUnit
      ∧ (∀ w last, Sys2Proof.Machine.exec (.addI ⟨st, w, last⟩) s = .fault .noSuchUnit))
      ∧ (∀ st w last, isStation st = true → bits w 0 8 ≠ 0x01 → bits w 0 8 ∈ assignedOps 3 →
          Sys2Proof.Machine.exec (.addI ⟨st, w, last⟩) s = .refused .wrongSlot)
      ∧ (∀ k m, isStack k = false → Sys2Proof.Machine.exec (.tailApplyComplete k) s = .fault .noSuchUnit
          ∧ (isMailbox m = false → Sys2Proof.Machine.exec (.identify m) s = .fault .noSuchUnit))

/-- Every command but those that write stacks leaves every byte of the stacks as it was. -/
def Obligations.StackFrame : Prop :=
  ∀ (c : Instr) (s t : State), writesStacks c = false → Sys2Proof.Machine.exec c s = .next t →
    t.mem = s.mem ∧ ∀ a, memGet t.mem a = memGet s.mem a

/-- A presented slot that is not the last of its bundle changes nothing but the open bundle of its station: no slot takes
effect before the bundle issues whole (R129; log entry 4). -/
def Obligations.SlotsWaitForTheirBundle : Prop :=
  ∀ (sl : Slot) (s : State), isStation sl.st = true → sl.last = false →
    ∀ r ∈ [(Instr.addI sl, 0x01), (.vaddF32 sl, 0x10), (.mmul sl, 0x10), (.dmovG2s sl, 0x01), (.vst sl, 0x02), (.jmp sl, 0x26),
        (.tallySig sl, 0x30), (.strokeEnd sl, 0x3C), (.trap sl, 0x50), (.sst sl, 0x04)],
      bits sl.w 0 8 = r.2 → Runs r.1 s [.stations, .free] (fun b =>
        (∀ y, y ≠ sl.st → stn b y = stn s.body y) ∧ ∃ os, stn b sl.st = { stn s.body sl.st with opened := os } ∧ os ≠ [])

/-- The scalar registers (R125): a register reads as the last value written, kept in 64 bits; S0 reads 0 and discards
writes; P0 reads all ones and discards writes. -/
def Obligations.StationRegisters : Prop :=
  ∀ (t : Station) (r q v : Nat),
    sreg (setS t r v) q = (if q = r ∧ r ≠ 0 then v % 2 ^ 64 else sreg t q) ∧ sreg t 0 = 0
      ∧ preg (setP t r v) q = (if q = r ∧ r ≠ 0 then v % 2 ^ 128 else preg t q) ∧ preg t 0 = 2 ^ 128 - 1
      ∧ vreg (setV t r v) q = (if q = r then (BitVec.ofNat 4096 v).toNat else vreg t q)
      ∧ tally (setTally t r v) q = (if q = r then v % 2 ^ 32 else tally t q)

/-- The scalar arithmetic of the C slot (R147), on 64-bit words: the result goes to Sd and nothing else of the station
changes. The slot is the whole bundle, its unused bits are zero, and no remote load still writes a register it names. li loads the sign-extended
immediate; lih replaces bits 63:32 of Sd and keeps bits 31:0. -/
def Obligations.ScalarArithmetic : Prop :=
  (∀ (sl : Slot) (s : State), alone sl s.body = true → onlyFields sl.w ([(0, 8), (8, 5), (13, 5)] ++ bFields sl.w) = true →
    let t := stn s.body sl.st
    sourceHolds t [csd sl.w, csa sl.w, csb sl.w] [] [] = [] →
    let a : BitVec 64 := BitVec.ofNat 64 (sreg t (csa sl.w))
    let c : BitVec 64 := if cib sl.w then (BitVec.ofNat 32 (bits sl.w 32 32)).signExtend 64 else BitVec.ofNat 64 (sreg t (csb sl.w))
    let k := c.toNat % 64
    ∀ r ∈ [(Instr.addI sl, 0x01, a + c), (.subI sl, 0x02, a - c), (.andI sl, 0x03, a &&& c), (.orI sl, 0x04, a ||| c),
        (.xorI sl, 0x05, a ^^^ c), (.shl sl, 0x06, a <<< k), (.shr sl, 0x07, a >>> k), (.sra sl, 0x08, a.sshiftRight k),
        (.mulI sl, 0x09, a * c), (.slt sl, 0x0A, if a.slt c then 1 else 0), (.sltu sl, 0x0B, if a.ult c then 1 else 0)],
      bits sl.w 0 8 = r.2.1 → Retires r.1 sl s (setS t (csd sl.w) r.2.2.toNat))
  ∧ (∀ (sl : Slot) (s : State), alone sl s.body = true → onlyFields sl.w [(0, 8), (8, 5), (32, 32)] = true →
    let t := stn s.body sl.st
    let imm : BitVec 32 := BitVec.ofNat 32 (bits sl.w 32 32)
    sourceHolds t [csd sl.w] [] [] = [] →
      (bits sl.w 0 8 = 0x0C → Retires (.li sl) sl s (setS t (csd sl.w) (imm.signExtend 64).toNat))
        ∧ (bits sl.w 0 8 = 0x0D →
            Retires (.lih sl) sl s (setS t (csd sl.w) (imm ++ BitVec.ofNat 32 (sreg t (csd sl.w))).toNat)))

/-- A conditional branch whose target lies in 0 to 4095 (R147, R148): taken, the pc is the target and every loop whose body
does not hold it is popped (R149); not taken, the sequencer goes on in order or round its innermost loop. jmp, jal and jr go to their target; jal writes
pc + 1 to Sd. -/
def Obligations.BranchesAndJumps : Prop :=
  (∀ (sl : Slot) (s : State), alone sl s.body = true → onlyFields sl.w [(0, 8), (13, 5), (18, 5), (32, 32)] = true →
    let t := stn s.body sl.st
    sourceHolds t [csa sl.w, csb sl.w] [] [] = [] →
    let a : BitVec 64 := BitVec.ofNat 64 (sreg t (csa sl.w))
    let c : BitVec 64 := BitVec.ofNat 64 (sreg t (csb sl.w))
    ∀ target : Nat, target < 4096 → (target : Int) = (getF s.body R.STN_SEQ_PC.pc sl.st : Int) + cimm sl.w →
    ∀ r ∈ [(Instr.beq sl, 0x20, a == c), (.bne sl, 0x21, a != c), (.blt sl, 0x22, a.slt c), (.bge sl, 0x23, c.sle a),
        (.bltu sl, 0x24, a.ult c), (.bgeu sl, 0x25, c.ule a)],
      bits sl.w 0 8 = r.2.1 →
        ∃ u, Sys2Proof.Machine.exec r.1 s = .next u ∧
          (if r.2.2 then IssuedAt target (t.loops.filter (fun e => decide (e.start ≤ target ∧ target ≤ e.stop))) [] sl s u t
           else Issued [] sl s u t))
  ∧ (∀ (sl : Slot) (s : State), alone sl s.body = true →
    let t := stn s.body sl.st
    let pc := getF s.body R.STN_SEQ_PC.pc sl.st
    let kept := fun target : Nat => t.loops.filter (fun e => decide (e.start ≤ target ∧ target ≤ e.stop))
    ∀ target : Nat, target < 4096 →
      (bits sl.w 0 8 = 0x26 → onlyFields sl.w [(0, 8), (32, 32)] = true → (target : Int) = (pc : Int) + cimm sl.w →
          ∃ u, Sys2Proof.Machine.exec (.jmp sl) s = .next u ∧ IssuedAt target (kept target) [] sl s u t)
        ∧ (bits sl.w 0 8 = 0x27 → onlyFields sl.w [(0, 8), (8, 5), (32, 32)] = true → (target : Int) = (pc : Int) + cimm sl.w →
            sourceHolds t [csd sl.w] [] [] = [] →
            ∃ u, Sys2Proof.Machine.exec (.jal sl) s = .next u
              ∧ IssuedAt target (kept target) [] sl s u (setS t (csd sl.w) (pc + 1)))
        ∧ (bits sl.w 0 8 = 0x28 → onlyFields sl.w [(0, 8), (13, 5)] = true → target = sreg t (csa sl.w) →
            sourceHolds t [csa sl.w] [] [] = [] →
            ∃ u, Sys2Proof.Machine.exec (.jr sl) s = .next u ∧ IssuedAt target (kept target) [] sl s u t))

/-- loop (R149): with Sa zero the body is skipped; otherwise its entry is pushed, on a stack that is not full; on a full
stack of 4 the bundle does not issue and loop_overflow is taken.
trap takes its exception with the sign-extended immediate as its information (R147, R160, R161, R164), and a branch,
jump or mailbox index outside its range takes branch_range or address_space, and a reserved bit or opcode illegal_encoding: the bundle does not
issue. -/
def Obligations.LoopsAndSlotExceptions : Prop :=
  (∀ (sl : Slot) (s : State), alone sl s.body = true → bits sl.w 0 8 = 0x29 → onlyFields sl.w [(0, 8), (13, 5), (32, 32)] = true →
    let t := stn s.body sl.st
    let pc := getF s.body R.STN_SEQ_PC.pc sl.st
    let a := sreg t (csa sl.w)
    let n := nextPc pc t.loops
    sourceHolds t [csa sl.w] [] [] = [] →
    ∀ len : Nat, 1 ≤ len → len ≤ 4095 → cimm sl.w = (len : Int) →
      (a = 0 → ∃ u, Sys2Proof.Machine.exec (.loop sl) s = .next u ∧ IssuedAt ((pc + len + 1) % 4096) t.loops [] sl s u t)
        ∧ (a ≠ 0 → t.loops.length < 4 →
            ∃ u, Sys2Proof.Machine.exec (.loop sl) s = .next u ∧ IssuedAt n.1 (⟨pc + 1, pc + len, a⟩ :: n.2) [] sl s u t)
        ∧ (a ≠ 0 → 4 ≤ t.loops.length → Excepts (.loop sl) sl s ⟨0x05, 3, 0⟩))
  ∧ (∀ (sl : Slot) (s : State), alone sl s.body = true →
    let t := stn s.body sl.st
    let pc : Int := getF s.body R.STN_SEQ_PC.pc sl.st
    let k := uint 64 ((sreg t (csa sl.w) : Int) + cimm sl.w)
    (bits sl.w 0 8 = 0x50 → onlyFields sl.w [(0, 8), (32, 32)] = true → Excepts (.trap sl) sl s ⟨0x09, 3, uint 64 (cimm sl.w)⟩)
      ∧ (bits sl.w 0 8 = 0x26 → onlyFields sl.w [(0, 8), (32, 32)] = true → pc + cimm sl.w < 0 ∨ 4095 < pc + cimm sl.w →
          Excepts (.jmp sl) sl s ⟨0x06, 3, uint 64 (pc + cimm sl.w)⟩)
      ∧ (bits sl.w 0 8 = 0x20 → onlyFields sl.w [(0, 8), (13, 5), (18, 5), (32, 32)] = true →
          sourceHolds t [csa sl.w, csb sl.w] [] [] = [] → pc + cimm sl.w < 0 ∨ 4095 < pc + cimm sl.w →
          Excepts (.beq sl) sl s ⟨0x06, 3, uint 64 (pc + cimm sl.w)⟩)
      ∧ (bits sl.w 0 8 = 0x48 → onlyFields sl.w [(0, 8), (8, 5), (13, 5), (32, 32)] = true →
          sourceHolds t [csd sl.w, csa sl.w] [] [] = [] → 32 ≤ k → Excepts (.mbxRd sl) sl s ⟨0x07, 3, k⟩)
      ∧ (bits sl.w 0 8 = 0x01 → onlyFields sl.w ([(0, 8), (8, 5), (13, 5)] ++ bFields sl.w) = false →
          Excepts (.addI sl) sl s ⟨0x02, 3, sl.w⟩)
      ∧ (bits sl.w 0 8 ∉ assignedOps 3 → Excepts (.addI sl) sl s ⟨0x02, 3, sl.w⟩)
      ∧ (bits sl.w 0 8 ∉ assignedOps 1 → Excepts (.vst sl) sl s ⟨0x02, 1, sl.w⟩))

/-- The tallies a station names of its own (R147, R150, R151, R217): tally.set makes Tn the value, tally.rd reads it
zero-extended, a satisfied tally.wait issues, an unsatisfied one is held and shows what it waits for (R151, R165), and a
tally.sig that is no release adds its value to the own tally that destination 0 names. -/
def Obligations.OwnTallies : Prop :=
  ∀ (sl : Slot) (s : State), alone sl s.body = true →
    let t := stn s.body sl.st
    let n := ctally sl.w
    let v := if bit sl.w 23 then bits sl.w 44 20 else sreg t (csb sl.w) % 2 ^ 32
    let pc := getF s.body R.STN_SEQ_PC.pc sl.st
    sourceHolds t [csa sl.w, csb sl.w, csd sl.w] [] [] = [] →
      (bits sl.w 0 8 = 0x32 → onlyFields sl.w ((0, 8) :: tvFields sl.w) = true → Retires (.tallySet sl) sl s (setTally t n v))
        ∧ (bits sl.w 0 8 = 0x33 → onlyFields sl.w [(0, 8), (8, 5), (32, 12)] = true →
            Retires (.tallyRd sl) sl s (setS t (csd sl.w) (tally t n)))
        ∧ (bits sl.w 0 8 = 0x31 → onlyFields sl.w ((0, 8) :: tvFields sl.w) = true → tallySatisfied t n v = true →
            Retires (.tallyWait sl) sl s t)
        ∧ (bits sl.w 0 8 = 0x31 → onlyFields sl.w ((0, 8) :: tvFields sl.w) = true → tallySatisfied t n v = false →
            Waits (.tallyWait sl) sl s (fun u => getF u.body R.STN_STATUS.state sl.st = 4
              ∧ flagF u.body R.STN_SEQ_STATUS.tally_wait sl.st = true ∧ getF u.body R.STN_SEQ_STATUS.wait_tally sl.st = n))
        ∧ (bits sl.w 0 8 = 0x30 → onlyFields sl.w ([(0, 8), (13, 5), (24, 1)] ++ tvFields sl.w) = true → bit sl.w 24 = true →
            sreg t (csa sl.w) = 0 → Retires (.tallySig sl) sl s (setTally t n (tally t n + v)))

/-- Barriers, the fence and the end of a stroke (R152, R153, R155, R223): bar.arrive counts the station's arrival on the
channel of its scope; bar.wait issues once the channel is released and is held before; bar.sync arrives and is held, and
issues once it has arrived and the channel is released; fence issues when no earlier operation of the station is left
and is held otherwise; stroke.end then arrives on channel 7, keeps the entry bundle and waits for the catch in state 4. -/
def Obligations.BarriersAndFences : Prop :=
  ∀ (sl : Slot) (s : State), alone sl s.body = true →
    let t := stn s.body sl.st
    let count := fun (x : Station) (ch : Nat) => { x with arriveGen := SMap.put x.arriveGen 0 ch ((SMap.get x.arriveGen 0 ch + 1) % 65536) }
    (∀ ch, onlyFields sl.w ([(0, 8), (8, 3)] ++ (if bits sl.w 8 3 = 2 then [(32, 16)] else [])) = true →
        barrierChannel s.body sl.st (bits sl.w 8 3) (bits sl.w 32 16) = some ch →
        (bits sl.w 0 8 = 0x38 → Retires (.barArrive sl) sl s (count t ch))
          ∧ (bits sl.w 0 8 = 0x39 → barReleased t ch = true → Retires (.barWait sl) sl s t)
          ∧ (bits sl.w 0 8 = 0x39 → barReleased t ch = false →
              Waits (.barWait sl) sl s (fun u => getF u.body R.STN_STATUS.state sl.st = 4
                ∧ flagF u.body R.STN_SEQ_STATUS.barrier_wait sl.st = true))
          ∧ (bits sl.w 0 8 = 0x3A → t.syncDone = true → barReleased t ch = true →
              Retires (.barSync sl) sl s { t with syncDone := false })
          ∧ (bits sl.w 0 8 = 0x3A → t.syncDone = false → ∃ u, Sys2Proof.Machine.exec (.barSync sl) s = .next u
              ∧ stn u.body sl.st = { count t ch with syncDone := true } ∧ getF u.body R.STN_STATUS.state sl.st = 4))
      ∧ (bits sl.w 0 8 = 0x41 → onlyFields sl.w [(0, 8)] = true → fenceMet s.body sl.st t = true → Retires (.fence sl) sl s t)
      ∧ (bits sl.w 0 8 = 0x41 → onlyFields sl.w [(0, 8)] = true → fenceMet s.body sl.st t = false →
          Waits (.fence sl) sl s (fun u => flagF u.body R.STN_SEQ_STATUS.fence_wait sl.st = true))
      ∧ (bits sl.w 0 8 = 0x3C → onlyFields sl.w [(0, 8), (32, 12)] = true → fenceMet s.body sl.st t = true →
          ∃ u, Sys2Proof.Machine.exec (.strokeEnd sl) s = .next u
            ∧ stn u.body sl.st = { count t 7 with ended := true, entry := ctally sl.w, loops := (stn u.body sl.st).loops }
            ∧ getF u.body R.STN_STATUS.state sl.st = 4 ∧ flagF u.body R.STN_SEQ_STATUS.barrier_wait sl.st = true
            ∧ issuing u.body sl.st = false)

/-- sys.rd, the station mailbox and nop (R128, R147, R154, R227): a system value goes to Sd; an inbound word reads as
latched and an outbound word from the working copy; a write to an outbound word changes the working copy, a write to an
inbound word is discarded; a nop changes nothing. -/
def Obligations.SystemAndMailbox : Prop :=
  ∀ (sl : Slot) (s : State), alone sl s.body = true →
    let t := stn s.body sl.st
    let k := uint 64 ((sreg t (csa sl.w) : Int) + cimm sl.w)
    (bits sl.w 0 8 = 0x40 → onlyFields sl.w [(0, 8), (8, 5), (32, 8)] = true → sourceHolds t [csd sl.w] [] [] = [] →
        ∀ id v, (id, v) ∈ [(0, logicalOf s.body sl.st), (1, sl.st / 64), (2, getF s.body R.GBL_MODULE.index 0),
            (3, getF s.body R.TLY_STROKE_NUM.stroke 0), (5, getF s.body R.STN_ARITH_FLAGS.flags sl.st),
            (6, 0xF000000000 + sl.st / 64 * 0x20000000 + logicalOf s.body sl.st * 0x800000)] →
          bits sl.w 32 8 = id → Retires (.sysRd sl) sl s (setS t (csd sl.w) v))
      ∧ (bits sl.w 0 8 = 0x40 → onlyFields sl.w [(0, 8), (8, 5), (32, 8)] = true → sourceHolds t [csd sl.w] [] [] = [] →
          bits sl.w 32 8 = 4 → ∃ v, Retires (.sysRd sl) sl s (setS t (csd sl.w) v))
      ∧ (bits sl.w 0 8 = 0x48 → onlyFields sl.w [(0, 8), (8, 5), (13, 5), (32, 32)] = true →
          sourceHolds t [csd sl.w, csa sl.w] [] [] = [] → k < 32 →
          Retires (.mbxRd sl) sl s (setS t (csd sl.w)
            (if k < 16 then getF s.body R.TLY_MBX.word (sl.st * 32 + k) else (SMap.get t.outbound 0 k).toNat)))
      ∧ (bits sl.w 0 8 = 0x49 → onlyFields sl.w [(0, 8), (13, 5), (18, 5), (32, 32)] = true →
          sourceHolds t [csa sl.w, csb sl.w] [] [] = [] → k < 32 →
          Retires (.mbxWr sl) sl s (if k < 16 then t
            else { t with outbound := SMap.put t.outbound 0 k (BitVec.ofNat 64 (sreg t (csb sl.w))) }))
      ∧ (∀ ix, ix < 4 → sl.w = 0 → Retires (.nop ix sl) sl s t)

/-- The FP32 lane operations (R102 to R104, R106, R139): every lane the predicate selects holds the operation's result, every
other lane of Vd keeps its value; the live flags gain those of the selected lanes and of no other (R115, R139). No selected
lane raises a flag that STN_ARITH_CTRL.trap_mask traps (R116). -/
def Obligations.LaneFloat : Prop :=
  ∀ (sl : Slot) (s : State), alone sl s.body = true →
    let t := stn s.body sl.st
    let p := preg t (predOf sl.w)
    let mask := getF s.body R.STN_ARITH_CTRL.trap_mask sl.st
    ∀ r ∈ ([(Instr.vaddF32 sl, 0x10, 2, fun a b _ => f32add a b), (.vsubF32 sl, 0x11, 2, fun a b _ => f32sub a b),
        (.vmulF32 sl, 0x12, 2, fun a b _ => f32mul a b), (.vfmaF32 sl, 0x13, 3, fun a b c => f32fma a b c),
        (.vminF32 sl, 0x14, 2, fun a b _ => f32minmax false a b), (.vmaxF32 sl, 0x15, 2, fun a b _ => f32minmax true a b),
        (.vrcpF32 sl, 0x18, 1, fun a _ _ => f32rcp a), (.vsqrtF32 sl, 0x19, 1, fun a _ _ => f32sqrt a),
        (.vrsqrtF32 sl, 0x1A, 1, fun a _ _ => f32rsqrt a), (.vexp2F32 sl, 0x1B, 1, fun a _ _ => f32exp2 a),
        (.vlog2F32 sl, 0x1C, 1, fun a _ _ => f32log2 a)]
        : List (Instr × Nat × Nat × (Nat → Nat → Nat → Flagged Nat))),
      let n := r.2.2.1
      let res := fun l => r.2.2.2 (vlane (vreg t (vaOf sl.w)) l) (vlane (vreg t (vbOf sl.w)) l) (vlane (vreg t (vcOf sl.w)) l)
      bits sl.w 0 8 = r.2.1 →
      onlyFields sl.w ([(0, 8), (8, 6), (14, 6), (32, 3)] ++ (if 2 ≤ n then [(20, 6)] else []) ++ (if 3 ≤ n then [(26, 6)] else [])) = true →
      sourceHolds t [] [vdOf sl.w, vaOf sl.w, vbOf sl.w, vcOf sl.w] [] = [] →
      (∀ l < 128, bit p l = true → (res l).fl &&& mask = 0) →
      ∃ u v, Sys2Proof.Machine.exec r.1 s = .next u ∧ Issued [R.STN_ARITH_FLAGS.flags] sl s u (setV t (vdOf sl.w) v)
        ∧ (∀ l < 128, vlane v l = if bit p l then (res l).val % 2 ^ 32 else vlane (vreg t (vdOf sl.w)) l)
        ∧ ∀ k < 7, bit (getF u.body R.STN_ARITH_FLAGS.flags sl.st) k
            = (bit (getF s.body R.STN_ARITH_FLAGS.flags sl.st) k || (List.range 128).any (fun l => bit p l && bit (res l).fl k))

/-- The 32-bit integer lane operations and vmov (R139): lanes wrap, shifts take bits 4:0 of the lane of Vb, unselected lanes
keep their value and no flag is raised. The predicate operations, bit by
bit: pand, por, pxor and pnot; pset gives the selected bits 0 or 1. -/
def Obligations.LaneIntegerAndPredicates : Prop :=
  (∀ (sl : Slot) (s : State), alone sl s.body = true →
    let t := stn s.body sl.st
    let p := preg t (predOf sl.w)
    ∀ r ∈ ([(Instr.vaddI32 sl, 0x28, true, fun a b => a + b), (.vsubI32 sl, 0x29, true, fun a b => a - b),
        (.vand sl, 0x2A, true, fun a b => a &&& b), (.vor sl, 0x2B, true, fun a b => a ||| b),
        (.vxor sl, 0x2C, true, fun a b => a ^^^ b), (.vshl sl, 0x2D, true, fun a b => a <<< (b.toNat % 32)),
        (.vshr sl, 0x2E, true, fun a b => a >>> (b.toNat % 32)), (.vsra sl, 0x2F, true, fun a b => a.sshiftRight (b.toNat % 32)),
        (.vmov sl, 0x22, false, fun a _ => a)]
        : List (Instr × Nat × Bool × (BitVec 32 → BitVec 32 → BitVec 32))),
      let res := fun l => r.2.2.2 (BitVec.ofNat 32 (vlane (vreg t (vaOf sl.w)) l)) (BitVec.ofNat 32 (vlane (vreg t (vbOf sl.w)) l))
      bits sl.w 0 8 = r.2.1 →
      onlyFields sl.w ([(0, 8), (8, 6), (14, 6), (32, 3)] ++ (if r.2.2.1 then [(20, 6)] else [])) = true →
      sourceHolds t [] [vdOf sl.w, vaOf sl.w, vbOf sl.w] [] = [] →
      ∃ u v, Sys2Proof.Machine.exec r.1 s = .next u ∧ Issued [R.STN_ARITH_FLAGS.flags] sl s u (setV t (vdOf sl.w) v)
        ∧ (∀ l < 128, vlane v l = if bit p l then (res l).toNat else vlane (vreg t (vdOf sl.w)) l)
        ∧ getF u.body R.STN_ARITH_FLAGS.flags sl.st = getF s.body R.STN_ARITH_FLAGS.flags sl.st % 128)
  ∧ (∀ (sl : Slot) (s : State), alone sl s.body = true →
    let t := stn s.body sl.st
    let a : BitVec 128 := BitVec.ofNat 128 (preg t (vaOf sl.w))
    let b : BitVec 128 := BitVec.ofNat 128 (preg t (vbOf sl.w))
    let old : BitVec 128 := BitVec.ofNat 128 (preg t (vdOf sl.w))
    let p : BitVec 128 := BitVec.ofNat 128 (preg t (predOf sl.w))
    let two := [(0, 8), (8, 3), (14, 3), (20, 3)]
    ∀ r ∈ [(Instr.pand sl, 0x30, two, a &&& b), (.por sl, 0x31, two, a ||| b), (.pxor sl, 0x32, two, a ^^^ b),
        (.pnot sl, 0x33, [(0, 8), (8, 3), (14, 3)], ~~~a),
        (.pset sl, 0x34, [(0, 8), (8, 3), (32, 3), (53, 1)], if immOf sl.w = 0 then old &&& ~~~p else old ||| p)],
      bits sl.w 0 8 = r.2.1 → onlyFields sl.w r.2.2.1 = true → Retires r.1 sl s (setP t (vdOf sl.w) r.2.2.2.toNat))

/-- Selections, broadcasts, extractions and rows of tiles (R139): vsel writes every lane, vbcast every selected lane, vext
reads one lane zero-extended; vtrd reads the selected lanes of a row of a tile and vtwr writes one row. -/
def Obligations.LaneMoves : Prop :=
  ∀ (sl : Slot) (s : State), alone sl s.body = true →
    let t := stn s.body sl.st
    let p := preg t (predOf sl.w)
    let old := vreg t (vdOf sl.w)
    let a := vreg t (vaOf sl.w)
    let b := vreg t (vbOf sl.w)
    (bits sl.w 0 8 = 0x21 → onlyFields sl.w [(0, 8), (8, 6), (14, 6), (20, 6), (32, 3)] = true →
        sourceHolds t [] [vdOf sl.w, vaOf sl.w, vbOf sl.w] [] = [] →
        ∃ v, Retires (.vsel sl) sl s (setV t (vdOf sl.w) v) ∧ ∀ l < 128, vlane v l = if bit p l then vlane a l else vlane b l)
      ∧ (bits sl.w 0 8 = 0x23 → onlyFields sl.w [(0, 8), (8, 6), (32, 3), (43, 5)] = true →
          sourceHolds t [sbOf sl.w] [vdOf sl.w] [] = [] →
          ∃ v, Retires (.vbcast sl) sl s (setV t (vdOf sl.w) v)
            ∧ ∀ l < 128, vlane v l = if bit p l then sreg t (sbOf sl.w) % 2 ^ 32 else vlane old l)
      ∧ (bits sl.w 0 8 = 0x24 → onlyFields sl.w [(0, 8), (8, 5), (14, 6), (53, 7)] = true →
          sourceHolds t [vdOf sl.w] [vaOf sl.w] [] = [] →
          Retires (.vext sl) sl s (setS t (vdOf sl.w) (vlane a (immOf sl.w))))
      ∧ (bits sl.w 0 8 = 0x50 → onlyFields sl.w [(0, 8), (8, 6), (14, 4), (32, 3), (53, 7)] = true →
          sourceHolds t [] [vdOf sl.w] [vaOf sl.w] = [] →
          ∃ v, Retires (.vtrd sl) sl s (setV t (vdOf sl.w) v)
            ∧ ∀ l < 128, vlane v l = if bit p l then vlane (tileRow t (vaOf sl.w) (immOf sl.w)) l else vlane old l)
      ∧ (bits sl.w 0 8 = 0x51 → onlyFields sl.w [(0, 8), (8, 4), (14, 6), (53, 7)] = true →
          sourceHolds t [] [vaOf sl.w] [vdOf sl.w] = [] →
          Retires (.vtwr sl) sl s (setRow t (vdOf sl.w) (immOf sl.w) a))

/-- vcmp.f32, the reductions and the conversions (R104, R105, R107 to R114, R139, R141, R142): what each writes is the
comparison of every selected lane, the pairwise tree over the lanes in every lane, the 128 narrowed elements in one group
of Vd with every other byte of Vd kept, and the 128 widened elements. No flag raised is trapped (R116). -/
def Obligations.CompareReduceConvert : Prop :=
  ∀ (sl : Slot) (s : State), alone sl s.body = true → getF s.body R.STN_ARITH_CTRL.trap_mask sl.st = 0 →
    let t := stn s.body sl.st
    let p := preg t (predOf sl.w)
    let a := vreg t (vaOf sl.w)
    let fill := fun (x : Nat) => selectLanes p (lanes a) (List.replicate 128 x)
    (bits sl.w 0 8 = 0x20 → onlyFields sl.w [(0, 8), (8, 3), (14, 6), (20, 6), (32, 3), (35, 3)] = true → modeOf sl.w ≠ 7 →
        sourceHolds t [] [vaOf sl.w, vbOf sl.w] [] = [] →
        ∃ u v, Sys2Proof.Machine.exec (.vcmpF32 sl) s = .next u ∧ Issued [R.STN_ARITH_FLAGS.flags] sl s u (setP t (vdOf sl.w) v)
          ∧ ∀ l < 128, bit v l = if bit p l then (f32cmp (modeOf sl.w) (vlane a l) (vlane (vreg t (vbOf sl.w)) l)).1
              else bit (preg t (vdOf sl.w)) l)
      ∧ (∀ r ∈ ([(Instr.vredAddF32 sl, 0x1D, 0, f32add), (.vredMaxF32 sl, 0x1E, 0xFF800000, f32minmax true)]
            : List (Instr × Nat × Nat × (Nat → Nat → Flagged Nat))),
          bits sl.w 0 8 = r.2.1 → onlyFields sl.w [(0, 8), (8, 6), (14, 6), (32, 3)] = true →
          sourceHolds t [] [vdOf sl.w, vaOf sl.w] [] = [] →
          ∃ u v, Sys2Proof.Machine.exec r.1 s = .next u ∧ Issued [R.STN_ARITH_FLAGS.flags] sl s u (setV t (vdOf sl.w) v)
            ∧ ∀ l < 128, vlane v l = (treeFuel r.2.2.2 8 (fill r.2.2.1)).val % 2 ^ 32)
      ∧ (∀ f : NFmt, NFmt.ofCode (fmtOf sl.w) = some f → immOf sl.w < groups f →
          let n := 128 * f.width
          let block := f.scaling != .none
          let old := vreg t (vdOf sl.w)
          let seed := getF s.body R.STN_ARITH_SEED.seed sl.st
          let mode := fun l => (rmode (modeOf sl.w)
            (srRandom seed (getF s.body R.TLY_STROKE_NUM.stroke 0) ((sreg t (siOf sl.w) + l) % 2 ^ 64))).getD .rne
          let sc := sreg t (sbOf sl.w)
          let scale := fun k => if f.scaling == .q4t then bits sc (16 * k) 16 else bits sc (8 * k) 8
          (bits sl.w 0 8 = 0x40 → modeOf sl.w ≤ 4 → (bit sl.w 38 = true → f.isFp8 = true) →
            onlyFields sl.w ([(0, 8), (8, 6), (14, 6), (35, 3), (38, 1), (39, 4), (53, 3)]
              ++ (if block then [(26, 5)] else [(32, 3)]) ++ (if modeOf sl.w = 4 then [(48, 5)] else [])) = true →
            sourceHolds t [siOf sl.w, bits sl.w 26 5] [vaOf sl.w, vdOf sl.w] [] = [] →
            (block = false → ∃ u v, Sys2Proof.Machine.exec (.vcvtNarrow sl) s = .next u
              ∧ Issued [R.STN_ARITH_FLAGS.flags] sl s u (setV t (vdOf sl.w) (setBits old (immOf sl.w * n) n v))
              ∧ ∀ l < 128, bits v (f.width * l) f.width = if bit p l
                  then (convElem f (mode l) (bit sl.w 38) (f32dec (vlane a l))).val % 2 ^ f.width
                  else bits old (immOf sl.w * n + f.width * l) f.width)
            ∧ (block = true →
                let q := (narrow128 f (bit sl.w 38) ((List.range 128).map (fun l => (f32dec (vlane a l), mode l)))).val
                ∃ u, Sys2Proof.Machine.exec (.vcvtNarrow sl) s = .next u ∧ Issued [R.STN_ARITH_FLAGS.flags] sl s u
                  (setS (setV t (vdOf sl.w) (setBits old (immOf sl.w * n) n q.1)) (bits sl.w 26 5) q.2)))
          ∧ (bits sl.w 0 8 = 0x41 →
            onlyFields sl.w ([(0, 8), (8, 6), (14, 6), (39, 4), (53, 3)] ++ (if block then [(43, 5)] else [(32, 3)])) = true →
            sourceHolds t [sbOf sl.w] [vaOf sl.w, vdOf sl.w] [] = [] →
            ∃ u v, Sys2Proof.Machine.exec (.vcvtWiden sl) s = .next u ∧ Issued [R.STN_ARITH_FLAGS.flags] sl s u (setV t (vdOf sl.w) v)
              ∧ ∀ l < 128, vlane v l = if bit p l
                  then (widenElem f (scale (l / 32)) (l % 32) (bits a (immOf sl.w * n + f.width * l) f.width)).val % 2 ^ 32
                  else vlane old l))

/-- Loads and stores in the station's own SRAM window, every unit of it without erroneous symbols (R139, R140): the address is
S[sb] + sext(imm) * 32; a load puts the bytes, byte 0 lowest, in its register; a store changes the bytes it writes (for vst
those of the selected lanes), by the address computed, and no other byte of any SRAM. -/
def Obligations.LoadsAndStores : Prop :=
  ∀ (sl : Slot) (s : State), alone sl s.body = true →
    let t := stn s.body sl.st
    let p := preg t (predOf sl.w)
    let a := uint 64 ((sreg t (sbOf sl.w) : Int) + sint 11 (immOf sl.w) * 32)
    ∀ d l off, 0xF000000000 + d * 0x20000000 + l * 0x800000 + off = a → d < 16 → l < 48 → physOf s.body d l = some sl.st →
      (∀ u, SMap.get t.badSram [] u = []) → t.matQ = [] → t.outst = [] →
      let stored := fun (c : Instr) (len : Nat) (x : Nat → Byte) (sel : Nat → Bool) =>
        ∃ u, Sys2Proof.Machine.exec c s = .next u ∧ u.pending = s.pending ∧ u.mem = s.mem ∧ Only [.stations, .regs, .free] s.body u.body
          ∧ (∀ y, y ≠ sl.st → stn u.body y = stn s.body y)
          ∧ (∀ i, SMap.get (stn u.body sl.st).sram 0 i
              = if off ≤ i ∧ i < off + len ∧ sel (i - off) = true then x (i - off) else SMap.get t.sram 0 i)
          ∧ (stn u.body sl.st).s = t.s ∧ (stn u.body sl.st).v = t.v
      (bits sl.w 0 8 = 0x01 → onlyFields sl.w [(0, 8), (8, 6), (43, 5), (53, 11)] = true → a % 32 = 0 → off + 512 ≤ 0x600000 →
          Retires (.vld sl) sl s (setV t (vdOf sl.w) (ofLeBytes (bytesAt t.sram off 512))))
        ∧ (bits sl.w 0 8 = 0x03 → onlyFields sl.w [(0, 8), (8, 5), (43, 5), (53, 11)] = true → a % 8 = 0 → off + 8 ≤ 0x600000 →
            Retires (.sld sl) sl s (setS t (vdOf sl.w) (ofLeBytes (bytesAt t.sram off 8))))
        ∧ (bits sl.w 0 8 = 0x02 → onlyFields sl.w [(0, 8), (14, 6), (32, 3), (43, 5), (53, 11)] = true → a % 32 = 0 →
            off + 512 ≤ 0x600000 →
            stored (.vst sl) 512 (fun i => BitVec.ofNat 8 (vreg t (vaOf sl.w) / 256 ^ i)) (fun i => bit p (i / 4)))
        ∧ (bits sl.w 0 8 = 0x04 → onlyFields sl.w [(0, 8), (14, 5), (43, 5), (53, 11)] = true → a % 8 = 0 → off + 8 ≤ 0x600000 →
            stored (.sst sl) 8 (fun i => BitVec.ofNat 8 (sreg t (vaOf sl.w) / 256 ^ i)) (fun _ => true))

/-- The D slot (R143, R144): one entry, formed from the register values read at issue, goes to the back of the queue of the
named drover, which has room; the other drovers and every register of the station are as before. -/
def Obligations.DroverIssue : Prop :=
  ∀ (sl : Slot) (s : State), alone sl s.body = true →
    let t := stn s.body sl.st
    let k := sl.st * 2 + bits sl.w 8 1
    let q := drv s.body k
    let pc := getF s.body R.STN_SEQ_PC.pc sl.st
    let rs := sreg t (bits sl.w 14 5)
    let rd := sreg t (bits sl.w 19 5)
    let rl := sreg t (bits sl.w 24 5)
    sourceHolds t [bits sl.w 14 5, bits sl.w 19 5, bits sl.w 24 5] [] [] = [] → q.queue.length < 16 →
      let queued := fun (c : Instr) (isList : Bool) (kind dir : Nat) (src dst len : Nat) (listOff : Nat) =>
        ∃ u e, Sys2Proof.Machine.exec c s = .next u ∧ u.pending = s.pending ∧ u.mem = s.mem
          ∧ Only [.stations, .regs, .free, .drovers] s.body u.body
          ∧ drv u.body k = { q with queue := q.queue ++ [e] } ∧ (∀ y, y ≠ k → drv u.body y = drv s.body y)
          ∧ stn u.body sl.st = { t with loops := (stn u.body sl.st).loops } ∧ (∀ y, y ≠ sl.st → stn u.body y = stn s.body y)
          ∧ e.isList = isList ∧ e.listOff = listOff ∧ e.pc = pc ∧ e.desc.kind = kind ∧ e.desc.dir = dir ∧ e.desc.src = src
          ∧ e.desc.dst = dst ∧ e.desc.length = len ∧ e.desc.tally = bits sl.w 29 12 ∧ e.desc.notally = bit sl.w 41
          ∧ e.desc.staged = bit sl.w 9
      let moves := [(0, 8), (8, 1), (14, 5), (29, 12), (41, 1), (19, 5), (24, 5)]
      (bits sl.w 0 8 = 0x01 → onlyFields sl.w moves = true → queued (.dmovG2s sl) false 1 1 rs rd rl 0)
        ∧ (bits sl.w 0 8 = 0x02 → onlyFields sl.w (moves ++ [(9, 1)]) = true → queued (.dmovS2g sl) false 1 2 rs rd rl 0)
        ∧ (bits sl.w 0 8 = 0x03 → onlyFields sl.w moves = true → queued (.dmovS2s sl) false 1 3 rs rd rl 0)
        ∧ (bits sl.w 0 8 = 0x04 → onlyFields sl.w [(0, 8), (8, 1), (14, 5), (29, 12), (41, 1)] = true →
            queued (.dlist sl) true 0 0 0 0 0 rs)

/-- The M slot and the matrix engine (R132, R135 to R137): mzero and an mmul whose operands are legal enter the engine's
queue at the back; a start counts the next queued operation as begun, at most two at once; the completion of a begun
mzero takes it from the front and clears every row of its tile, and no other row of any tile. -/
def Obligations.MatrixEngine : Prop :=
  (∀ (sl : Slot) (s : State), alone sl s.body = true →
    let t := stn s.body sl.st
    let pc := getF s.body R.STN_SEQ_PC.pc sl.st
    t.matQ.length < 3 →
      (bits sl.w 0 8 = 0x20 → onlyFields sl.w [(0, 8), (16, 4)] = true → Retires (.mzero sl) sl s
          { t with matQ := t.matQ ++ [⟨false, 0, 0, bits sl.w 16 4, true, 0, 0, 0, pc, t.matSeq, []⟩], matSeq := t.matSeq + 1 })
        ∧ (bits sl.w 0 8 = 0x10 → bits sl.w 21 3 = 0 → bits sl.w 46 18 = 0 → bits sl.w 34 12 ≠ 0 →
            ∀ f g : NFmt, NFmt.ofCode (bits sl.w 8 4) = some f → NFmt.ofCode (bits sl.w 12 4) = some g →
            (pairingRate f g).isSome = true →
            let pa := sreg t (bits sl.w 24 5)
            let pb := sreg t (bits sl.w 29 5)
            pointerExcs f pa (bits sl.w 34 12) = [] → pointerExcs g pb (bits sl.w 34 12) = [] →
            sourceHolds t [bits sl.w 24 5, bits sl.w 29 5] [] [] = [] →
            Retires (.mmul sl) sl s { t with
              matQ := t.matQ ++ [⟨true, bits sl.w 8 4, bits sl.w 12 4, bits sl.w 16 4, bit sl.w 20, pa, pb, bits sl.w 34 12, pc, t.matSeq, []⟩]
              matSeq := t.matSeq + 1 }))
  ∧ ∀ (st : Nat) (s : State), isStation st = true → clocked s.body st = true →
      let t := stn s.body st
      (t.matStarted < min 2 t.matQ.length → Runs (.matrixOpStart st) s [.stations] (fun b =>
          stn b st = { t with matStarted := t.matStarted + 1 } ∧ ∀ y, y ≠ st → stn b y = stn s.body y))
      ∧ (∀ op rest, t.matQ = op :: rest → 0 < t.matStarted → op.isMul = false → t.releases = [] →
          Runs (.matrixOpComplete st) s [.stations] (fun b =>
            (stn b st).matQ = rest ∧ (stn b st).matStarted = t.matStarted - 1
              ∧ (∀ a i, tileRow (stn b st) a i = if a * 128 + i < op.acc * 128 ∨ op.acc * 128 + 128 ≤ a * 128 + i then tileRow t a i else 0)
              ∧ (stn b st).s = t.s ∧ (stn b st).v = t.v ∧ (stn b st).sram = t.sram ∧ ∀ y, y ≠ st → stn b y = stn s.body y))
      ∧ (∀ op rest f g, t.matQ = op :: rest → 0 < t.matStarted → op.isMul = true → op.saved = [] → t.releases = [] →
          NFmt.ofCode op.fa = some f → NFmt.ofCode op.fb = some g → (∀ u, SMap.get t.badSram [] u = []) →
          getF s.body R.STN_ARITH_CTRL.trap_mask st = 0 →
          let oa := operandOf f op.pa op.nblk
          let ob := operandOf g op.pb op.nblk
          let row := fun i => mulRow op f g (bytesAt t.sram oa.elem oa.elemLen) (bytesAt t.sram oa.scale oa.scaleLen)
            (bytesAt t.sram ob.elem ob.elemLen) (bytesAt t.sram ob.scale ob.scaleLen) i (tileRow t op.acc i)
          Runs (.matrixOpComplete st) s [.stations, .regs, .free] (fun b =>
            (stn b st).matQ = rest ∧ (stn b st).matStarted = t.matStarted - 1
              ∧ (∀ i, i < 128 → tileRow (stn b st) op.acc i = (BitVec.ofNat 4096 (row i).val).toNat)
              ∧ (∀ a i, a ≠ op.acc → i < 128 → tileRow (stn b st) a i = tileRow t a i)
              ∧ (stn b st).s = t.s ∧ (stn b st).v = t.v ∧ (stn b st).sram = t.sram ∧ ∀ y, y ≠ st → stn b y = stn s.body y))

/-- Station control by firmware (R65, R67, R75, R127, R159, R162): run starts and stops the sequencer (states 3 and 5),
fence refuses requests (state 7), the power gate switches a stopped station off and its clearing starts the quick
self-test (states 0 and 1), a self-test ends in state 2; discarded writes change nothing. -/
def Obligations.StationModes : Prop :=
  ∀ (st : Nat) (s : State), isStation st = true →
    let t := stn s.body st
    let run := flagF s.body R.STN_CTRL.run st
    let gated := flagF s.body R.STN_CTRL.power_gate st
    let state := fun b => getF b R.STN_STATUS.state st
    let shown := fun b => fieldView b R.STN_STATUS.state st
    (run = false → Runs (.stnRun st true) s [.stations, .regs] (fun b => flagF b R.STN_CTRL.run st = true ∧ state b = 3
        ∧ RegsBut (R.STN_CTRL.run :: R.STN_STATUS.state :: waitFields) st s.body b
        ∧ stn b st = { t with opened := [], ended := false, syncDone := false } ∧ ∀ y, y ≠ st → stn b y = stn s.body y))
      ∧ (run = true → Runs (.stnRun st false) s [.stations, .regs] (fun b => flagF b R.STN_CTRL.run st = false ∧ state b = 5
          ∧ RegsBut (R.STN_CTRL.run :: R.STN_STATUS.state :: waitFields) st s.body b
          ∧ stn b st = { t with opened := [] } ∧ ∀ y, y ≠ st → stn b y = stn s.body y))
      ∧ Runs (.stnFence st true) s [.regs] (fun b => flagF b R.STN_CTRL.fence st = true ∧ shown b = 7 ∧ state b = state s.body
          ∧ RegsBut [R.STN_CTRL.fence] st s.body b)
      ∧ Runs (.stnFence st false) s [.regs] (fun b => flagF b R.STN_CTRL.fence st = false
          ∧ shown b = (if gated then 0 else state s.body) ∧ RegsBut [R.STN_CTRL.fence] st s.body b)
      ∧ (run = false → Runs (.stnPowerGate st true) s [.regs] (fun b => flagF b R.STN_CTRL.power_gate st = true ∧ state b = 0
          ∧ clocked b st = false
          ∧ RegsBut [R.STN_CTRL.power_gate, R.STN_STATUS.state, R.STN_CLK_STATUS.min_eff_code] st s.body b))
      ∧ (run = true → Runs (.stnPowerGate st true) s [] (fun b => b = s.body))
      ∧ Runs (.stnPowerGate st false) s [.regs] (fun b => flagF b R.STN_CTRL.power_gate st = false
          ∧ state b = (if gated then 1 else state s.body)
          ∧ RegsBut [R.STN_CTRL.power_gate, R.STN_STATUS.state] st s.body b)
      ∧ Runs (.spareSelfTestComplete st true) s [.stations, .regs] (fun b => state b = 2
          ∧ stn b st = { t with selfTestFailed := false } ∧ RegsBut [R.STN_STATUS.state] st s.body b)
      ∧ Runs (.spareSelfTestComplete st false) s [.stations, .regs, .reports] (fun b => state b = 2
          ∧ flagF b R.STN_FAULT.self_test_fail st = true ∧ stn b st = { t with selfTestFailed := true }
          ∧ b.reports = s.body.reports ++ [.selfTest st] ∧ RegsBut [R.STN_STATUS.state, R.STN_FAULT.self_test_fail] st s.body b)

/-- What firmware loads into a station and clears in it (R75, R127, R162, R163, R180): the SRAM fill leaves every byte 0 and
every unit sound; the pc and the instruction store are written while run is 0 and discarded while it is 1; clearing the
exception record clears all three of its registers. -/
def Obligations.StationLoading : Prop :=
  ∀ (st : Nat) (s : State), isStation st = true →
    let t := stn s.body st
    let run := flagF s.body R.STN_CTRL.run st
    Runs (.stnSramInit st) s [.regs] (fun b => flagF b R.STN_STATUS.sram_init_busy st = true
        ∧ RegsBut [R.STN_STATUS.sram_init_busy] st s.body b)
      ∧ (flagF s.body R.STN_STATUS.sram_init_busy st = true → clocked s.body st = true → Runs (.sramInitComplete st) s [.stations, .regs] (fun b =>
          flagF b R.STN_STATUS.sram_init_busy st = false ∧ (∀ off, SMap.get (stn b st).sram 0 off = 0)
            ∧ (∀ u, SMap.get (stn b st).badSram [] u = []) ∧ (stn b st).s = t.s ∧ (stn b st).tallies = t.tallies
            ∧ (stn b st).istore = t.istore ∧ (∀ y, y ≠ st → stn b y = stn s.body y)
            ∧ RegsBut [R.STN_STATUS.sram_init_busy] st s.body b))
      ∧ (∀ pc, pc < 4096 → Runs (.stnSeqPcWrite st pc) s [.regs] (fun b =>
          getF b R.STN_SEQ_PC.pc st = (if run then getF s.body R.STN_SEQ_PC.pc st else pc) ∧ RegsBut [R.STN_SEQ_PC.pc] st s.body b))
      ∧ (∀ k word, k < 4096 → Runs (.istoreWrite st k word) s [.stations] (fun b =>
          (∀ j, SMap.get (stn b st).istore 0 j = (if run = false ∧ j = k then BitVec.ofNat 256 word else SMap.get t.istore 0 j))
            ∧ (run = false → SMap.get (stn b st).badIstore [] k = []) ∧ (stn b st).sram = t.sram
            ∧ ∀ y, y ≠ st → stn b y = stn s.body y))
      ∧ Runs (.excCauseClear st) s [.regs] (fun b => getF b R.STN_EXC_CAUSE.valid st = 0 ∧ getF b R.STN_EXC_CAUSE.cause st = 0
          ∧ getF b R.STN_EXC_CAUSE.more st = 0 ∧ getF b R.STN_EXC_PC.pc st = 0 ∧ getF b R.STN_EXC_INFO.info st = 0
          ∧ getF b R.STN_STATUS.state st = getF s.body R.STN_STATUS.state st ∧ RegsBut excFields st s.body b)

/-- Quiescing a die and changing its map (R66, R67, R72, R80): the map registers are written only while the die is quiesced,
and otherwise the write is discarded and flagged; a commit on a quiesced die makes each logical station served by the
position its entry names, or absent, and leaves the other dies' maps alone.
The clock islands (R46, R47, R78): a target code of 80 to 380 is taken and any other discarded; a stopped clock stretches
its station, and its resumption counts the cycles lengthened and notes the lowest frequency; a stop that lasts too long is
a fault of the station. -/
def Obligations.DieMapsAndClockIslands : Prop :=
  (∀ (die : Nat) (s : State), isDie die = true →
    let quiesced := flagF s.body R.STN_DIE_STATUS.quiesced die
    Runs (.dieQuiesce die true) s [.regs] (fun b => flagF b R.STN_DIE_CTRL.quiesce die = true ∧ RegsBut [R.STN_DIE_CTRL.quiesce] die s.body b)
      ∧ ((∀ i, i < 104 → (drv s.body (die * 128 + i)).moving = none) → Runs (.dieQuiesce die false) s [.regs] (fun b => flagF b R.STN_DIE_CTRL.quiesce die = false
          ∧ flagF b R.STN_DIE_STATUS.quiesced die = false ∧ RegsBut [R.STN_DIE_CTRL.quiesce, R.STN_DIE_STATUS.quiesced] die s.body b))
      ∧ (flagF s.body R.STN_DIE_CTRL.quiesce die = true → drained die s.body = true → s.body.fail.repairWait = none →
          Runs (.quiesceComplete die) s [.regs] (fun b => flagF b R.STN_DIE_STATUS.quiesced die = true
            ∧ RegsBut [R.STN_DIE_STATUS.quiesced] die s.body b))
      ∧ (∀ k word, k < 12 → quiesced = true → Runs (.stnMapWrite die k word) s [.regs] (fun b => ∀ i, i < 4 →
          getF b (mapPhys i) (die * 12 + k) = (if bits word (8 * i) 6 < 52 then bits word (8 * i) 6 else getF s.body (mapPhys i) (die * 12 + k))
            ∧ flagF b (mapValid i) (die * 12 + k) = bit word (8 * i + 7)))
      ∧ (∀ k word, k < 12 → quiesced = false → Runs (.stnMapWrite die k word) s [.regs] (fun b =>
          flagF b R.STN_DIE_STATUS.map_write_refused die = true ∧ RegsBut [R.STN_DIE_STATUS.map_write_refused] die s.body b))
      ∧ (quiesced = true → Runs (.mapCommit die) s [.dieMap, .stations] (fun b => ∀ l, l < 48 →
          physOf b die l = (if flagF s.body (mapValid (l % 4)) (die * 12 + l / 4)
              then some (die * 64 + getF s.body (mapPhys (l % 4)) (die * 12 + l / 4)) else none)
            ∧ ∀ d, d ≠ die → physOf b d l = physOf s.body d l))
      ∧ (quiesced = false → Runs (.mapCommit die) s [.regs] (fun b => flagF b R.STN_DIE_STATUS.map_write_refused die = true
          ∧ RegsBut [R.STN_DIE_STATUS.map_write_refused] die s.body b)))
  ∧ (∀ (st : Nat) (s : State), isStation st = true →
    let isl := Island.station st
    (∀ code, 80 ≤ code ∧ code ≤ 380 → Runs (.stnClkTargetWrite isl code) s [.regs] (fun b =>
        getF b R.STN_CLK_TARGET.target_code st = code ∧ getF b R.STN_CLK_STATUS.current_code st = code
          ∧ RegsBut [R.STN_CLK_TARGET.target_code, R.STN_CLK_STATUS.current_code, R.STN_CLK_STATUS.min_eff_code] st s.body b))
      ∧ (∀ code, code < 80 ∨ 380 < code → Runs (.stnClkTargetWrite isl code) s [] (fun b => b = s.body))
      ∧ (∀ d e code, isDie d = true → e < 4 → 80 ≤ code ∧ code ≤ 380 → Runs (.stnClkTargetWrite (.segment d e) code) s [.regs] (fun b =>
          getF b R.STN_SEG_CLK.target_code d = code ∧ RegsBut [R.STN_SEG_CLK.target_code] d s.body b))
      ∧ Runs (.droopClockStop isl) s [.stopped, .regs] (fun b => isl ∈ b.stopped ∧ (∀ x, x ∈ s.body.stopped → x ∈ b.stopped)
          ∧ flagF b R.STN_STATUS.stretching st = true ∧ issuing b st = false ∧ clocked b st = false
          ∧ RegsBut [R.STN_STATUS.stretching, R.STN_CLK_STATUS.min_eff_code] st s.body b)
      ∧ (∀ cycles code, Runs (.droopClockResume isl cycles code) s [.stopped, .regs] (fun b => isl ∉ b.stopped
          ∧ (∀ x, x ≠ isl → x ∈ s.body.stopped → x ∈ b.stopped) ∧ flagF b R.STN_STATUS.stretching st = false
          ∧ getF b R.STN_STRETCH_CYCLES.count st = min (getF s.body R.STN_STRETCH_CYCLES.count st + cycles) (2 ^ R.STN_STRETCH_CYCLES.count.width - 1)
          ∧ getF b R.STN_CLK_STATUS.min_eff_code st ≤ code))
      ∧ (isl ∈ s.body.stopped → Runs (.droopHalt isl) s [.regs, .reports] (fun b => flagF b R.STN_FAULT.droop_halt st = true
          ∧ b.reports = s.body.reports ++ [.stationFault st] ∧ RegsBut [R.STN_FAULT.droop_halt] st s.body b)))

/-- Requests served on the panel (R42, R51, R53, R56, R66, R67, R72, R182, R185, R190): the next flit of its class and pair that has arrived at a station
whose logic runs is taken. A read request to a station whose fence is open and whose units are sound is answered with the bytes it asks for; a
write and a drover's write put their bytes at the address they name, change no other byte of the station's SRAM and are acknowledged; a
drover's read sends the bytes on to their destination; a fenced station answers with cause 1, and one that the die map does not name for the
address answers a drover with cause 3. -/
def Obligations.PanelRequests : Prop :=
  ∀ (src dst : Nat) (s : State) (f : Flit) (rest : List Flit) (w : WinAddr), isStation dst = true → clocked s.body dst = true →
    s.body.fabric = f :: rest → f.src = src → f.dst = dst → f.origin = none → atGoal f = true → winOf f.addr = some w →
    (∀ u, SMap.get (stn s.body dst).badSram [] u = []) →
    let t := stn s.body dst
    let fenced := flagF s.body R.STN_CTRL.fence dst
    let answers := fun (b : Body) (g : Flit) => b.fabric = rest ++ [g] ∧ g.src = dst ∧ g.dst = asker f ∧ g.tag = f.tag ∧ g.drv = f.drv
    let fails := fun (b : Body) (c : Nat) => ∃ g, answers b g ∧ g.kind = .errorResponse ∧ g.cause = c ∧ g.addr = f.addr
    let stored := fun b => (∀ i, SMap.get (stn b dst).sram 0 i = (match f.payload[i - w.off]? with
        | some (some x) => if w.off ≤ i then x else SMap.get t.sram 0 i
        | _ => SMap.get t.sram 0 i)) ∧ (stn b dst).s = t.s ∧ ∀ y, y ≠ dst → stn b y = stn s.body y
    (f.kind = .readRequest → fenced = false → Runs (.flitReadRequest src dst) s [.fabric, .free] (fun b => ∃ g, answers b g
        ∧ g.kind = .readResponse ∧ g.payload = (bytesAt t.sram w.off f.len).map some))
      ∧ (f.kind = .write → fenced = false → Runs (.flitWrite src dst) s [.fabric, .free, .stations] (fun b =>
          (∃ g, answers b g ∧ g.kind = .writeAck) ∧ stored b))
      ∧ (f.kind = .droverBulk → fenced = false → f.isRead = false → asker f ≠ dst → mapServes s.body w dst = true →
          Runs (.flitDroverBulk src dst) s [.fabric, .free, .stations] (fun b => (∃ g, answers b g ∧ g.kind = .writeAck) ∧ stored b))
      ∧ (∀ dr v x, f.kind = .droverBulk → fenced = false → f.isRead = true → f.drv = some dr → mapServes s.body w dst = true →
          placeOf s.body f.dest = some (.station (moduleIndex s.body) v) → physOf s.body v.die v.lst = some x →
          Runs (.flitDroverBulk src dst) s [.fabric, .free, .drovers] (fun b => ∃ g, b.fabric = rest ++ [g] ∧ g.kind = .droverBulk
            ∧ g.src = dst ∧ g.dst = x ∧ g.isRead = false ∧ g.addr = winBase v.die v.lst + v.off ∧ g.drv = some dr ∧ g.tag = f.tag
            ∧ g.piece = f.piece ∧ g.payload = (bytesAt t.sram w.off f.len).map some))
      ∧ (f.kind = .readRequest → fenced = true → Runs (.flitReadRequest src dst) s [.fabric] (fun b => fails b 1))
      ∧ (f.kind = .write → fenced = true → Runs (.flitWrite src dst) s [.fabric] (fun b => fails b 1))
      ∧ (f.kind = .droverBulk → fenced = true → asker f ≠ dst → mapServes s.body w dst = true →
          Runs (.flitDroverBulk src dst) s [.fabric] (fun b => fails b 1))
      ∧ (f.kind = .droverBulk → asker f ≠ dst → mapServes s.body w dst = false → Runs (.flitDroverBulk src dst) s [.fabric] (fun b => fails b 3))

/-- Answers and signals that reach a station on the panel (R53, R72, R150, R156, R160, R216, R219): the last flit of a load writes
its register, an acknowledgement completes a store, an error response is an imprecise exception of the station, and a
tally signal is applied, deferred or counted late by its stroke tag. That a fenced station answers the signal of another with cause 1 is the
model's choice (log entry 61). -/
def Obligations.PanelAnswers : Prop :=
  ∀ (src dst : Nat) (s : State) (f : Flit) (rest : List Flit), isStation dst = true → clocked s.body dst = true →
    s.body.fabric = f :: rest → f.src = src → f.dst = dst → f.drv = none → atGoal f = true →
    let t := stn s.body dst
    let own := getF s.body R.TLY_STN_STATUS.tag dst
    let fenced := flagF s.body R.STN_CTRL.fence dst
    (∀ o, f.kind = .readResponse → t.outst = [o] → o.tag = f.tag → o.isLoad = true → o.left = 1 → f.piece = 0 →
        let v := o.buf + ofLeBytes (f.payload.map (fun x => x.getD 0))
        Runs (.flitReadResponse src dst) s [.fabric, .stations] (fun b => b.fabric = rest
          ∧ stn b dst = (if o.toV then setV { t with outst := [] } o.reg v else setS { t with outst := [] } o.reg v)
          ∧ ∀ y, y ≠ dst → stn b y = stn s.body y))
      ∧ (∀ o, f.kind = .writeAck → t.outst = [o] → o.tag = f.tag → o.left = 1 → t.releases = [] →
          Runs (.flitWriteAck src dst) s [.fabric, .stations] (fun b => b.fabric = rest
            ∧ stn b dst = { t with outst := [], releases := [] } ∧ ∀ y, y ≠ dst → stn b y = stn s.body y))
      ∧ (∀ o, f.kind = .errorResponse → f.staged = false → t.outst = [o] → o.tag = f.tag → o.left = 1 → t.releases = [] →
          getF s.body R.STN_EXC_CAUSE.valid dst ≠ 1 → 1 ≤ f.cause ∧ f.cause ≤ 3 →
          Runs (.flitErrorResponse src dst) s [.fabric, .stations, .regs, .reports] (fun b => b.fabric = rest
            ∧ (stn b dst).outst = [] ∧ getF b R.STN_STATUS.state dst = 6 ∧ getF b R.STN_EXC_CAUSE.valid dst = 1
            ∧ getF b R.STN_EXC_CAUSE.cause dst = 0x0A + f.cause ∧ getF b R.STN_EXC_CAUSE.precise dst = 0
            ∧ getF b R.STN_EXC_INFO.info dst = f.addr % 2 ^ 64 ∧ getF b R.STN_EXC_PC.pc dst = o.pc % 4096
            ∧ flagF b R.STN_FAULT.remote_error dst = true))
      ∧ (f.kind = .tallySignal → fenced = false → f.stroke % 4 = own → Runs (.flitTallySignal src dst) s [.fabric, .stations] (fun b =>
          b.fabric = rest ∧ stn b dst = setTally t f.tag (tally t f.tag + f.len) ∧ ∀ y, y ≠ dst → stn b y = stn s.body y))
      ∧ (f.kind = .tallySignal → fenced = false → f.stroke % 4 = (own + 1) % 4 → own < 4 → t.deferred = [] →
          Runs (.flitTallySignal src dst) s [.fabric, .stations, .regs] (fun b => b.fabric = rest
            ∧ stn b dst = { t with deferred := [(f.tag, BitVec.ofNat 32 f.len)] } ∧ getF b R.TLY_STN_STATUS.deferred dst = 1
            ∧ RegsBut [R.TLY_STN_STATUS.deferred] dst s.body b))
      ∧ (f.kind = .tallySignal → fenced = false → f.stroke % 4 = (own + 2) % 4 → own < 4 →
          Runs (.flitTallySignal src dst) s [.fabric, .stations, .regs] (fun b => b.fabric = rest
            ∧ stn b dst = setTally t f.tag (tally t f.tag + f.len)
            ∧ getF b R.TLY_STN_STATUS.late dst = min (getF s.body R.TLY_STN_STATUS.late dst + 1) (2 ^ R.TLY_STN_STATUS.late.width - 1)
            ∧ RegsBut [R.TLY_STN_STATUS.late] dst s.body b))
      ∧ (f.kind = .tallySignal → fenced = true → src < 1024 → f.origin = none → Runs (.flitTallySignal src dst) s [.fabric] (fun b =>
          ∃ g, b.fabric = rest ++ [g] ∧ g.kind = .errorResponse ∧ g.cause = 1 ∧ g.src = dst ∧ g.dst = src))

/-- The UCIe modules of the die edges (R52, R57 to R59): an edge gives the flits that wait for it the next number and keeps them until
acknowledged; a sound flit with the expected number advances it, comes out at this die and frees what it acknowledges; an unsound one is
asked for again and its failures are counted; a retry request makes the sender send again, in order, what it keeps from the number it names;
a module whose retries have failed three times is cleared in both edges it joins and reported, and any other is not. -/
def Obligations.UcieLinks : Prop :=
  ∀ (lk : UcieLink) (s : State), isLink lk = true →
    let far := farSide lk
    let e := edgeReg lk
    let e' := edgeReg far
    let u := link s.body lk
    let u' := link s.body far
    let up := bit (getF s.body R.STN_EDGE.module_up e) lk.lane
    let runs := s.body.stopped.contains (edgeIsland lk.die lk.edge) = false
    (∀ ack f, up = true → runs → s.body.fabric = [] → onWire s.body lk u.expected = some f → f.via = none →
        Runs (.ucieFlitReceive lk u.expected ack true) s [.ucie, .fabric] (fun b =>
          (link b lk).expected = (u.expected + 1) % 4096 ∧ (link b lk).fails = 0
            ∧ (link b lk).unacked = u.unacked.filter (fun x => !ackCovers ack x.1) ∧ b.fabric = [{ f with pos := some lk.die }]))
      ∧ (∀ ack f, up = true → runs → s.body.fabric = [f] → f.node = far.die → f.nextEdge = some far.edge →
          laneOf s.body far.die far.edge f.src f.dst = some lk.lane → mayCross s.body far.die far.edge lk.lane f = true →
          f.kind.cls < 4 → u.expected < 4096 → Runs (.ucieFlitReceive lk ((u.expected + 4095) % 4096) ack true) s [.ucie, .fabric, .sent] (fun b =>
            b.fabric = [] ∧ (link b far).unacked = u'.unacked ++ [(u'.next, f)] ∧ (link b far).next = (u'.next + 1) % 4096
              ∧ (link b lk).expected = u.expected))
      ∧ (∀ seq ack, up = true → runs → s.body.fabric = [] → Runs (.ucieFlitReceive lk seq ack false) s [.ucie, .regs, .sent, .fabric] (fun b =>
          b.sent = .ucieRetry lk.die lk.edge lk.lane u.expected :: s.body.sent ∧ (link b lk).expected = u.expected
            ∧ (link b lk).failing = some u.expected ∧ (link b lk).fails = (if u.failing = some u.expected then u.fails + 1 else 0)
            ∧ getF b R.STN_EDGE.retries e = min (getF s.body R.STN_EDGE.retries e + 1) (2 ^ R.STN_EDGE.retries.width - 1)))
      ∧ (∀ n, n < 4096 → Runs (.ucieRetryRequest lk n) s [.sent] (fun b =>
          b.sent = ((u.unacked.dropWhile (fun x => x.1 != n)).map (fun x =>
            Sent.ucieFlit lk.die lk.edge lk.lane (x.2.bytes x.1 (u.expected + 4095)))).reverse ++ s.body.sent))
      ∧ (u.unacked = [] → u'.unacked = [] → s.body.fabric = [] → 3 ≤ u.fails ∨ 3 ≤ u'.fails →
          Runs (.ucieModuleDisable lk) s [.ucie, .regs, .reports, .fabric] (fun b =>
            bit (getF b R.STN_EDGE.module_up e) lk.lane = false ∧ bit (getF b R.STN_EDGE.module_up e') lk.lane = false
              ∧ .edgeModule (e / 4) (e % 4) ∈ b.reports ∧ .edgeModule (e' / 4) (e' % 4) ∈ b.reports
              ∧ (∀ i k, k < 16 → k ≠ lk.lane → bit (getF b R.STN_EDGE.module_up i) k = bit (getF s.body R.STN_EDGE.module_up i) k)
              ∧ (∀ i, i ≠ e → i ≠ e' → getF b R.STN_EDGE.module_up i = getF s.body R.STN_EDGE.module_up i)))
      ∧ (u.fails < 3 → u'.fails < 3 → Runs (.ucieModuleDisable lk) s [] (fun b => b = s.body))

/-- Requests to a memory controller (R174, R175, R177, R190, R193): a request is queued in its order of arrival, a staged write
waits for its tail, and a controller that is asked into self-refresh, or a staging region, answers cause 3; of the queued requests for a
working pseudo-channel the oldest is served, a read sending the bytes stored on to their destination and a write storing its bytes and no
other and acknowledging; a read of a unit named in a sealed tail waits. -/
def Obligations.StackAccesses : Prop :=
  ∀ (src k : Nat) (s : State) (f : Flit), isStack k = true → f.src = src → f.dst = 1024 + k → f.origin = none →
    s.body.stopped.contains (.controller k) = false →
    let t := stk s.body k
    let pc := pseudoChannel f.addr
    (∀ rest, s.body.fabric = f :: rest → f.kind = .droverBulk → atGoal f = true →
        let sleeps := flagF s.body R.MEM_CTRL.self_refresh k = true ∨ getF s.body R.MEM_STATUS.state k = 3
        (¬ sleeps → inStaging s.body f.addr f.len = false → f.staged = false →
          Runs (.stackRequest src (1024 + k)) s [.fabric, .memStacks] (fun b => b.fabric = rest
            ∧ stk b k = { t with requests := t.requests ++ [f] } ∧ ∀ j, j ≠ k → stk b j = stk s.body j))
          ∧ (¬ sleeps → inStaging s.body f.addr f.len = false → f.staged = true → ∀ dr, f.drv = some dr →
            Runs (.stackRequest src (1024 + k)) s [.fabric, .memStacks] (fun b => b.fabric = rest
              ∧ stk b k = { t with staged := t.staged ++ [⟨f.addr, f.payload.map (fun x => x.getD 0), dr, f.tag, f.piece⟩] }
              ∧ ∀ j, j ≠ k → stk b j = stk s.body j))
          ∧ (sleeps ∨ inStaging s.body f.addr f.len = true → Runs (.stackRequest src (1024 + k)) s [.fabric] (fun b =>
              ∃ g, b.fabric = rest ++ [g] ∧ g.kind = .errorResponse ∧ g.cause = 3 ∧ g.addr = f.addr ∧ g.dst = asker f ∧ g.tag = f.tag)))
      ∧ (getF s.body R.MEM_STATUS.state k = 2 → bit (getF s.body R.MEM_PC_UP.pc_up k) pc = true → t.requests = [f] →
          s.body.badStack = [] →
          (∀ dr w x, f.isRead = true → heldBySeal s.body f.addr f.len = false → f.drv = some dr →
            placeOf s.body f.dest = some (.station (moduleIndex s.body) w) → physOf s.body w.die w.lst = some x →
            RunsS (.stackAccessComplete k pc []) s (fun u => u.mem = s.mem ∧ Only [.memStacks, .fabric, .drovers, .free] s.body u.body
              ∧ (stk u.body k).requests = [] ∧ ∃ g, u.body.fabric = s.body.fabric ++ [g] ∧ g.kind = .droverBulk ∧ g.isRead = false
                ∧ g.src = 1024 + k ∧ g.dst = x ∧ g.addr = winBase w.die w.lst + w.off ∧ g.drv = some dr ∧ g.tag = f.tag ∧ g.piece = f.piece
                ∧ g.payload = (memBytes s.mem f.addr f.len).map some))
            ∧ (f.isRead = false → RunsS (.stackAccessComplete k pc []) s (fun u => (stk u.body k).requests = []
                ∧ (∃ g, u.body.fabric = s.body.fabric ++ [g] ∧ g.kind = .writeAck ∧ g.dst = asker f ∧ g.tag = f.tag ∧ g.piece = f.piece)
                ∧ ∀ a, memGet u.mem a = (match f.payload[a - f.addr]? with
                  | some (some x) => if f.addr ≤ a then x else memGet s.mem a
                  | _ => memGet s.mem a)))
            ∧ (f.isRead = true → heldBySeal s.body f.addr f.len = true → Runs (.stackAccessComplete k pc []) s [] (fun b => b = s.body)))

/-- Errors of stored units (R180 to R185, R207): up to two wrong symbols of a stack unit are corrected for the reader and
recorded, three are an uncorrectable unit whose read faults; a scrub rewrites a corrected unit of a stack at once and one
of station SRAM through its write-back, and leaves an uncorrectable one as it is.
The upkeep of a stack (R177, R178, R649): refresh leaves everything as it is; recalibration runs while no request for
the pseudo-channel is queued; self-refresh is entered once asked and nothing is held; training in which every
pseudo-channel works makes the stack ready, and a failed one, or a pseudo-channel that fails later, loses it. -/
def Obligations.StoredErrorsAndUpkeep : Prop :=
  (∀ (k u p q r : Nat) (s : State), isStack k = true → u * 32 / stackBytes = k → p < q → q < r → r < 36 →
    getF s.body R.MEM_STATUS.state k = 2 → s.body.stopped.contains (.controller k) = false →
    (∀ (f : Flit) (dr x : Nat) (w : WinAddr), (stk s.body k).requests = [f] → f.addr = u * 32 → f.len = 32 → f.isRead = true → f.origin = none →
        f.drv = some dr → placeOf s.body f.dest = some (.station (moduleIndex s.body) w) → physOf s.body w.die w.lst = some x →
        s.body.badStack = [] → heldBySeal s.body f.addr 32 = false →
        bit (getF s.body R.MEM_PC_UP.pc_up k) (pseudoChannel f.addr) = true → flagF s.body R.MEM_ERR_INFO.valid k = false →
        let shown := fun (b : Body) (kind x y : Nat) => flagF b R.MEM_ERR_INFO.valid k = true ∧ getF b R.MEM_ERR_INFO.kind k = kind
          ∧ getF b R.MEM_ERR_INFO.pos0 k = x ∧ getF b R.MEM_ERR_INFO.pos1 k = y ∧ getF b R.MEM_ERR_ADDR.addr k = u * 32 % 2 ^ 48
        RunsS (.stackAccessComplete k (pseudoChannel f.addr) [p]) s (fun t => t.mem = s.mem ∧ shown t.body 0 p p
            ∧ getF t.body R.MEM_ERR_COUNT.corrected k = min (getF s.body R.MEM_ERR_COUNT.corrected k + 1) (2 ^ 24 - 1)
            ∧ SMap.get t.body.badStack [] u = [p])
          ∧ RunsS (.stackAccessComplete k (pseudoChannel f.addr) [p, q]) s (fun t => t.mem = s.mem ∧ shown t.body 0 p q
            ∧ getF t.body R.MEM_ERR_COUNT.corrected k = min (getF s.body R.MEM_ERR_COUNT.corrected k + 1) (2 ^ 24 - 1))
          ∧ RunsS (.stackAccessComplete k (pseudoChannel f.addr) [p, q, r]) s (fun t => t.mem = s.mem
            ∧ flagF t.body R.MEM_ERR_INFO.valid k = true ∧ getF t.body R.MEM_ERR_INFO.kind k = 2
            ∧ getF t.body R.MEM_ERR_COUNT.uncorrectable k = min (getF s.body R.MEM_ERR_COUNT.uncorrectable k + 1) (2 ^ 8 - 1)
            ∧ .stackUnit k (u * 32) false ∈ t.body.reports))
      ∧ (flagF s.body R.MEM_CTRL.scrub_en k = false → ∀ up, Runs (.stackScrubRead u up) s [] (fun b => b = s.body))
      ∧ (flagF s.body R.MEM_CTRL.scrub_en k = true → s.body.badStack = [] →
          Runs (.stackScrubRead u []) s [.regs, .free] (fun b => getF b R.MEM_SCRUB_STATUS.progress k
              = (if u % stackUnits + 1 = stackUnits then 1000 else u % stackUnits * 1000 / stackUnits)
            ∧ RegsBut [R.MEM_SCRUB_STATUS.progress, R.MEM_SCRUB_STATUS.passes] k s.body b)
          ∧ RunsS (.stackScrubRead u [p, q]) s (fun t => (∀ a, memGet t.mem a = memGet s.mem a) ∧ SMap.get t.body.badStack [] u = []
            ∧ getF t.body R.MEM_ERR_COUNT.corrected k = min (getF s.body R.MEM_ERR_COUNT.corrected k + 1) (2 ^ 24 - 1))
          ∧ RunsS (.stackScrubRead u [p, q, r]) s (fun t => t.mem = s.mem ∧ SMap.get t.body.badStack [] u = [p, q, r]
            ∧ .stackUnit k (u * 32) true ∈ t.body.reports))
      ∧ (∀ st v, isStation st = true → clocked s.body st = true → v < 196608 →
          let x := stn s.body st
          (SMap.get x.badSram [] v = [] → Runs (.sramScrubRead st false v [p, q]) s [.stations, .regs, .free] (fun b =>
              SMap.get (stn b st).writeBack [] v = bytesAt x.sram (v * 32) 32 ∧ (stn b st).sram = x.sram
              ∧ getF b R.STN_SRAM_CORR.corrected st = min (getF s.body R.STN_SRAM_CORR.corrected st + 1) (2 ^ R.STN_SRAM_CORR.corrected.width - 1)
              ∧ getF b R.STN_SRAM_CORR.last_bank st = v % 32 ∧ RegsBut [R.STN_SRAM_CORR.corrected, R.STN_SRAM_CORR.last_bank] st s.body b))
            ∧ (SMap.get x.badSram [] v = [] → Runs (.sramScrubRead st false v [p, q, r]) s [.stations, .regs, .free, .reports] (fun b =>
              flagF b R.STN_FAULT.sram_uncorrectable st = true ∧ (stn b st).sram = x.sram
                ∧ b.reports = s.body.reports ++ [.stationFault st] ∧ RegsBut [R.STN_FAULT.sram_uncorrectable] st s.body b))
            ∧ (v < 4096 → SMap.get x.badIstore [] v = [] → Runs (.sramScrubRead st true v [p, q]) s [.stations, .regs, .free] (fun b =>
              SMap.get (stn b st).badIstore [] v = [] ∧ (∀ j, SMap.get (stn b st).istore 0 j = SMap.get x.istore 0 j)
                ∧ getF b R.STN_SRAM_CORR.corrected st = min (getF s.body R.STN_SRAM_CORR.corrected st + 1) (2 ^ R.STN_SRAM_CORR.corrected.width - 1)))
            ∧ (∀ bs, SMap.get x.writeBack [] v = bs → bs.length = 32 → Runs (.sramCorrectionWriteback st v) s [.stations] (fun b =>
              SMap.get (stn b st).badSram [] v = [] ∧ SMap.get (stn b st).writeBack [] v = []
                ∧ (∀ i, SMap.get (stn b st).sram 0 i = (if v * 32 ≤ i ∧ i < v * 32 + 32 then bs.getD (i - v * 32) 0 else SMap.get x.sram 0 i))
                ∧ ∀ y, y ≠ st → stn b y = stn s.body y))))
  ∧ (∀ (k pc : Nat) (s : State), isStack k = true → pc < 64 →
    let t := stk s.body k
    (∀ bank, bank < 65536 → Runs (.stackRefresh k bank) s [] (fun b => b = s.body))
      ∧ ((∀ f ∈ t.requests, pseudoChannel f.addr ≠ pc) → pc ∉ t.recalibrating → Runs (.stackRecalibration k pc) s [.memStacks] (fun b =>
          stk b k = { t with recalibrating := t.recalibrating ++ [pc] } ∧ ∀ j, j ≠ k → stk b j = stk s.body j))
      ∧ (∀ f, f ∈ t.requests → pseudoChannel f.addr = pc → Runs (.stackRecalibration k pc) s [.memStacks] (fun b => ∀ j, stk b j = stk s.body j))
      ∧ (flagF s.body R.MEM_CTRL.self_refresh k = true → t.requests = [] → t.staged = [] → ctlReady s.body k = true →
          Runs (.selfRefreshEnter k) s [.regs] (fun b => getF b R.MEM_STATUS.state k = 3 ∧ RegsBut [R.MEM_STATUS.state] k s.body b))
      ∧ (Runs (.stackTrainingComplete k (2 ^ 64 - 1) true) s [.regs] (fun b => getF b R.MEM_STATUS.state k = 2
          ∧ getF b R.MEM_PC_UP.pc_up k = 2 ^ 64 - 1))
      ∧ (∀ pcUp pass, pcUp < 2 ^ 64 → pass = false ∨ pcUp ≠ 2 ^ 64 - 1 → Runs (.stackTrainingComplete k pcUp pass) s [.regs, .cox, .reports] (fun b =>
          getF b R.MEM_STATUS.state k = 4 ∧ getF b R.MEM_PC_UP.pc_up k = pcUp ∧ b.reports = s.body.reports ++ [.stackLoss k]))
      ∧ Runs (.stackLoss k pc) s [.regs, .reports] (fun b => getF b R.MEM_STATUS.state k = 4 ∧ bit (getF b R.MEM_PC_UP.pc_up k) pc = false
          ∧ (∀ i, i < 64 → i ≠ pc → bit (getF b R.MEM_PC_UP.pc_up k) i = bit (getF s.body R.MEM_PC_UP.pc_up k) i)
          ∧ b.reports = s.body.reports ++ [.stackLoss k] ∧ RegsBut [R.MEM_STATUS.state, R.MEM_PC_UP.pc_up] k s.body b))

/-- Register accesses by address (R10 to R13, R168, R171, R206, R501, R504): a value inside a field's range is written and
any other discarded, only the active Shepherd's writes of control space and no BAR2 write take effect, a read returns the
register's word and clears a read-to-clear field it covers, a write narrower than a word is discarded, and an offset no
table assigns reads 0.
BAR2 accesses of the module address map (R127, R168, R169, R172, R182, R185): stack memory is read and written byte for
byte, by the host and by firmware, where its controller is ready and no staging region lies there; a station's window takes accesses only while its run
is 0, reads all ones otherwise; an address nothing is mapped at is an Unsupported Request. -/
def Obligations.HostAndRegisterAccesses : Prop :=
  (∀ (k v : Nat) (s : State), k < 12 → v < 2 ^ 32 →
    let cfg := 0xFF10000030 + k * 0x10000
    let cnt := 0xFF10000018 + k * 0x10000
    let b0 := s.body
    (getF b0 R.SHP_STATUS.active 0 = 0 → 1 ≤ v ∧ v ≤ 72 → Runs (.registerWrite .shepherdA cfg (leBytes 4 v)) s [.regs] (fun b =>
        getF b R.MEM_SCRUB_CFG.period_h k = v ∧ RegsBut [R.MEM_SCRUB_CFG.period_h] k b0 b))
      ∧ (72 < v % 256 ∨ v % 256 = 0 → Runs (.registerWrite .shepherdA cfg (leBytes 4 v)) s [] (fun b => b = b0))
      ∧ (getF b0 R.SHP_STATUS.active 0 = 0 → Runs (.registerWrite .shepherdB cfg (leBytes 4 v)) s [] (fun b => b = b0))
      ∧ (Runs (.registerWrite .hostBar2 cfg (leBytes 4 v)) s [] (fun b => b = b0))
      ∧ Runs (.registerWrite .shepherdA cfg (leBytes 2 v)) s [] (fun b => b = b0)
      ∧ (∀ c u, getF b0 R.MEM_ERR_COUNT.corrected k = c → getF b0 R.MEM_ERR_COUNT.uncorrectable k = u → c < 2 ^ 24 → u < 2 ^ 8 →
          Runs (.registerRead .shepherdA cnt 4) s [.regs, .sent] (fun b =>
            b.sent = .response "REGISTER_READ" ((leBytes 4 (c + u * 2 ^ 24)).map (·.toNat)) :: b0.sent
              ∧ getF b R.MEM_ERR_COUNT.corrected k = 0 ∧ getF b R.MEM_ERR_COUNT.uncorrectable k = 0
              ∧ RegsBut [R.MEM_ERR_COUNT.corrected, R.MEM_ERR_COUNT.uncorrectable] k b0 b))
      ∧ (getF b0 R.IRQ_CAUSE.cause 0 = 0 → v < 2 ^ 30 → Runs (.registerWrite .hostBar0 0x50008 (leBytes 4 v)) s [.regs] (fun b =>
          getF b R.IRQ_MASK.mask 0 = v ∧ RegsBut [R.IRQ_MASK.mask] 0 b0 b))
      ∧ Runs (.registerRead .hostBar0 0x3FFFC 4) s [.sent] (fun b => b.sent = .response "REGISTER_READ" [0, 0, 0, 0] :: b0.sent)
      ∧ Runs (.registerWrite .hostBar0 0x3FFFC (leBytes 4 v)) s [] (fun b => b = b0)
      ∧ (∀ m off x, m < 16 → off < 1024 → getF b0 R.MBX_STATUS.state m = 0 →
          Runs (.registerWrite .hostBar0 (0x10000 + m * 0x2000 + off * 4) (leBytes 4 x)) s [.host] (fun b =>
            ∀ i, SMap.get (mbx b m).request 0 i = (if off * 4 ≤ i ∧ i < off * 4 + 4 then (leBytes 4 x).getD (i - off * 4) 0
              else SMap.get (mbx b0 m).request 0 i))))
  ∧ (∀ (a n : Nat) (data : List Byte) (s : State), data.length = n → 1 ≤ n →
    (a + n ≤ 12 * stackBytes → bar2Stack s.body a n = true → s.body.badStack = [] →
        (RunsS (.bar2Write a data) s (fun t => Only [.free] s.body t.body
          ∧ ∀ c, memGet t.mem c = (if a ≤ c ∧ c < a + n then data.getD (c - a) 0 else memGet s.mem c)))
        ∧ (heldBySeal s.body a n = false → Runs (.bar2Read a n) s [.sent, .free] (fun b =>
            b.sent = .response "BAR2_READ" (0 :: (memBytes s.mem a n).map (·.toNat)) :: s.body.sent))
        ∧ (heldBySeal s.body a n = false → Runs (.registerRead .hostBar2 a n) s [.sent, .free] (fun b =>
            b.sent = .response "BAR2_READ" (0 :: (memBytes s.mem a n).map (·.toNat)) :: s.body.sent))
        ∧ (∀ who ∈ [Requester.shepherdA, .shepherdB],
            RunsS (.registerWrite who a data) s (fun t => Only [.free] s.body t.body
              ∧ ∀ c, memGet t.mem c = (if a ≤ c ∧ c < a + n then data.getD (c - a) 0 else memGet s.mem c))
            ∧ (heldBySeal s.body a n = false → Runs (.registerRead who a n) s [.sent, .free] (fun b =>
                b.sent = .response "REGISTER_READ" ((memBytes s.mem a n).map (·.toNat)) :: s.body.sent))))
      ∧ (a < 12 * stackBytes → bar2Stack s.body a n = false → ∀ who ∈ [Requester.shepherdA, .shepherdB],
          Runs (.registerWrite who a data) s [.sent] (fun b => b.sent = .response "ERROR_RESPONSE" [3, a] :: s.body.sent)
            ∧ Runs (.registerRead who a n) s [.sent] (fun b => b.sent = .response "ERROR_RESPONSE" [3, a] :: s.body.sent))
      ∧ (a < 12 * stackBytes → bar2Stack s.body a n = false →
          Runs (.bar2Write a data) s [.sent] (fun b => b.sent = .response "AER_UNSUPPORTED_REQUEST" [a] :: s.body.sent)
            ∧ Runs (.bar2Read a n) s [.sent] (fun b =>
              b.sent = .response "BAR2_READ" [2] :: .response "AER_UNSUPPORTED_REQUEST" [a] :: s.body.sent))
      ∧ (0xF200000000 ≤ a ∧ a + n ≤ 0xFF00000000 →
          Runs (.bar2Write a data) s [.sent] (fun b => b.sent = .response "AER_UNSUPPORTED_REQUEST" [a] :: s.body.sent)
            ∧ Runs (.bar2Read a n) s [.sent] (fun b =>
              b.sent = .response "BAR2_READ" [2] :: .response "AER_UNSUPPORTED_REQUEST" [a] :: s.body.sent))
      ∧ (∀ (w : WinAddr) st, 12 * stackBytes ≤ a → winAccess a n = some w → physOf s.body w.die w.lst = some st → isStation st = true →
          let x := stn s.body st
          (flagF s.body R.STN_CTRL.run st = true → Runs (.bar2Write a data) s [] (fun b => b = s.body)
              ∧ Runs (.bar2Read a n) s [.sent] (fun b => b.sent = .response "BAR2_READ" (0 :: List.replicate n 255) :: s.body.sent))
            ∧ (flagF s.body R.STN_CTRL.run st = false → flagF s.body R.STN_CTRL.fence st = false →
                (∀ u, SMap.get x.badSram [] u = []) →
                Runs (.bar2Write a data) s [.stations, .free] (fun b => (∀ i, SMap.get (stn b st).sram 0 i
                    = (if w.off ≤ i ∧ i < w.off + n then data.getD (i - w.off) 0 else SMap.get x.sram 0 i)) ∧ (stn b st).s = x.s
                    ∧ ∀ y, y ≠ st → stn b y = stn s.body y)
                  ∧ Runs (.bar2Read a n) s [.sent, .free] (fun b =>
                    b.sent = .response "BAR2_READ" (0 :: (bytesAt x.sram w.off n).map (·.toNat)) :: s.body.sent))))

/-- The descriptors of a drover's list (R186 to R190): COPY, STRIDED, GATHER and SCATTER make the moves of their loops, a
read of stack memory or of another station asked of its endpoint and own bytes sent on at once, each with its place in the transfer, while
fewer than 64 flits are outstanding and none of the transfer still writes the same bytes; SIGNAL joins the order of signals; WAIT holds the
list until its tally is satisfied. Each then lets the list go on. -/
def Obligations.DroverDescriptors : Prop :=
  ∀ (dr : Nat) (s : State) (e : DrvEntry), isDrover dr = true → (drv s.body dr).current = some e → e.isList = true →
    (drv s.body dr).waiting = none → (drv s.body dr).moving = none → getF s.body R.DRV_STATUS.state dr ≠ 2 → clocked s.body (dr / 2) = true →
    flagF s.body R.STN_DIE_CTRL.quiesce (dr / 128) = false → (drv s.body dr).outstanding ≤ 62 →
    let ix := getF s.body R.DRV_STATUS.list_index dr
    let x := drv s.body dr
    let t := stn s.body (dr / 2)
    (∀ r ∈ x.transfers, r.id < x.nextId) → ix < 4095 → e.listOff + 64 * ix + 64 ≤ 0x600000 → (∀ y u, SMap.get (stn s.body y).badSram [] u = []) →
    ∀ d, descOf (bytesAt t.sram (e.listOff + 64 * ix) 64) = d → descFault s.body (dr / 2) d = none → d.last = false →
    let goesOn := fun (b : Body) => getF b R.DRV_STATUS.list_index dr = ix + 1 ∧ getF b R.DRV_STATUS.state dr = 1
      ∧ (drv b dr).current = some e ∧ (drv b dr).moving = none ∧ ∀ y, y ≠ dr → drv b y = drv s.body y
    let opened := fun (b : Body) (n : Nat) => ∃ r, (drv b dr).transfers = x.transfers ++ [r] ∧ r.id = x.nextId ∧ r.flying.length = n
      ∧ r.count = n ∧ r.tally = d.tally ∧ r.signal = (if d.notally then none else some 1) ∧ r.entry = e
    let clear := fun (m : Move) => moveFault s.body d (dr / 2) m = none
    let asks := fun (g : Flit) (i a : Nat) (w : WinAddr) => g.kind = .droverBulk ∧ g.isRead = true ∧ g.src = dr / 2
      ∧ g.dst = 1024 + a / stackBytes ∧ g.addr = a ∧ g.len = d.length ∧ g.tag = x.nextId ∧ g.piece = i ∧ g.drv = some dr
      ∧ g.dest = winBase w.die w.lst + w.off
    let i0 := ofLeBytes (bytesAt t.sram d.index 4)
    let i1 := ofLeBytes (bytesAt t.sram (d.index + 4) 4)
    let me := moduleIndex s.body
    let two := fun (s0 t0 s1 t1 : Nat) (c : Instr) => ∀ w0 w1, s0 < 2 ^ 48 → t0 < 2 ^ 48 → s1 < 2 ^ 48 → t1 < 2 ^ 48 →
      moveEnds s.body d ⟨some s0, some t0, d.length⟩ = some (.stack me s0, .station me w0) → clear ⟨some s0, some t0, d.length⟩ →
      moveEnds s.body d ⟨some s1, some t1, d.length⟩ = some (.stack me s1, .station me w1) → clear ⟨some s1, some t1, d.length⟩ →
      s0 % stackBytes + d.length ≤ stackBytes → s1 % stackBytes + d.length ≤ stackBytes →
      (Place.station me w0).addr + d.length ≤ (Place.station me w1).addr ∨ (Place.station me w1).addr + d.length ≤ (Place.station me w0).addr →
      Runs c s [.drovers, .fabric, .free, .regs] (fun b => goesOn b ∧ opened b 2 ∧ ∃ g h, b.fabric = s.body.fabric ++ [g, h]
        ∧ asks g 0 s0 w0 ∧ asks h 1 s1 w1)
    (∀ a w, d.kind = 1 → d.length ≤ 224 → moveEnds s.body d ⟨some d.src, some d.dst, d.length⟩ = some (.stack me a, .station me w) →
        clear ⟨some d.src, some d.dst, d.length⟩ → a % stackBytes + d.length ≤ stackBytes →
        Runs (.descCopy dr) s [.drovers, .fabric, .free, .regs] (fun b => goesOn b ∧ opened b 1
          ∧ ∃ g, b.fabric = s.body.fabric ++ [g] ∧ asks g 0 a w))
      ∧ (∀ w a st, d.kind = 1 → d.length ≤ 224 →
          moveEnds s.body d ⟨some d.src, some d.dst, d.length⟩ = some (.station me w, .stack me a) →
          clear ⟨some d.src, some d.dst, d.length⟩ → a % stackBytes + d.length ≤ stackBytes →
          physOf s.body w.die w.lst = some st →
          Runs (.descCopy dr) s [.drovers, .fabric, .free, .regs] (fun b => goesOn b ∧ opened b 1
            ∧ ∃ g, b.fabric = s.body.fabric ++ [g] ∧ g.kind = .droverBulk ∧ g.src = dr / 2 ∧ g.drv = some dr ∧ g.tag = x.nextId
              ∧ g.staged = d.staged ∧ g.piece = 0
              ∧ (st = dr / 2 → g.isRead = false ∧ g.dst = 1024 + a / stackBytes ∧ g.addr = a
                ∧ g.payload = (bytesAt (stn s.body st).sram w.off d.length).map some)
              ∧ (st ≠ dr / 2 → g.isRead = true ∧ g.dst = st ∧ g.addr = winBase w.die w.lst + w.off ∧ g.len = d.length ∧ g.dest = a)))
      ∧ (d.kind = 2 → d.length ≤ 224 → d.count = 2 → d.src < 2 ^ 48 → d.dst < 2 ^ 48 →
          two d.src d.dst (d.src + d.srcStride) (d.dst + d.dstStride) (.descStrided dr))
      ∧ (d.kind = 3 → d.length ≤ 224 → d.count = 2 → d.src < 2 ^ 48 → d.dst < 2 ^ 48 →
          two (d.src + i0 * d.length) d.dst (d.src + i1 * d.length) (d.dst + d.length) (.descGather dr))
      ∧ (d.kind = 4 → d.length ≤ 224 → d.count = 2 → d.src < 2 ^ 48 → d.dst < 2 ^ 48 →
          two d.src (d.dst + i0 * d.length) (d.src + d.length) (d.dst + i1 * d.length) (.descScatter dr))
      ∧ (d.kind = 5 → Runs (.descSignal dr) s [.drovers, .free, .regs] (fun b => goesOn b
          ∧ ∃ r, (drv b dr).transfers = x.transfers ++ [r] ∧ r.flying = [] ∧ r.tally = d.tally ∧ r.signal = some d.value))
      ∧ (d.kind = 6 → tallySatisfied t d.tally d.value = true → Runs (.descWait dr) s [.drovers, .free, .regs] (fun b => goesOn b
          ∧ (drv b dr).transfers = x.transfers ∧ (drv b dr).waiting = none))
      ∧ (d.kind = 6 → tallySatisfied t d.tally d.value = false → Runs (.descWait dr) s [.drovers, .free, .regs] (fun b =>
          (drv b dr).waiting = some (d.tally, d.value) ∧ getF b R.DRV_STATUS.list_index dr = ix ∧ (drv b dr).transfers = x.transfers))

/-- The queue and the completions of a drover (R145, R188, R190, R191, R209): entries start in queue order, those a resume runs again first; a
satisfied WAIT lets its list go on; the oldest transfer, once none of its flits is outstanding, counts its bytes and signals its tally; a fault
found before the first move stops the drover, firmware is told, and no signal is sent; resume lets it go on and flush discards what is queued. -/
def Obligations.DroverQueues : Prop :=
  ∀ (dr : Nat) (s : State), isDrover dr = true → clocked s.body (dr / 2) = true →
    let x := drv s.body dr
    let state := getF s.body R.DRV_STATUS.state dr
    let started := fun (b : Body) => getF b R.DRV_STATUS.state dr = 1 ∧ getF b R.DRV_STATUS.list_index dr = 0
      ∧ RegsBut [R.DRV_STATUS.state, R.DRV_STATUS.list_index] dr s.body b ∧ ∀ y, y ≠ dr → drv b y = drv s.body y
    (∀ e rest, x.replayed = [] → x.queue = e :: rest → x.current = none → state ≠ 2 →
        (e.isList = false ∨ (e.listOff % 64 = 0 ∧ e.listOff + 64 ≤ 0x600000)) →
        Runs (.droverEntryStart dr) s [.drovers, .regs] (fun b => started b
          ∧ drv b dr = { x with queue := rest, current := some e, entryIx := x.entryIx + 1 }))
      ∧ (∀ e rest, x.replayed = e :: rest → x.current = none → state ≠ 2 →
          (e.isList = false ∨ (e.listOff % 64 = 0 ∧ e.listOff + 64 ≤ 0x600000)) →
          Runs (.droverEntryStart dr) s [.drovers, .regs] (fun b => started b
            ∧ drv b dr = { x with replayed := rest, current := some e, entryIx := x.entryIx + 1 }))
      ∧ (∀ e rest, x.replayed = [] → x.queue = e :: rest → x.current = none → state ≠ 2 → e.isList = true → e.listOff % 64 ≠ 0 →
          e.listOff + 64 ≤ 0x600000 →
          RunsS (.droverEntryStart dr) s (fun t => getF t.body R.DRV_STATUS.state dr = 2 ∧ getF t.body R.DRV_FAULT.valid dr = 1
            ∧ getF t.body R.DRV_FAULT.cause dr = 3 ∧ getF t.body R.DRV_FAULT_ADDR.addr dr = e.listOff % 2 ^ 64
            ∧ .drover dr ∈ t.body.reports ∧ t.body.fabric = s.body.fabric))
      ∧ (∀ e w, x.current = some e → x.waiting = some w → state ≠ 2 → e.isList = true → getF s.body R.DRV_STATUS.list_index dr < 4095 →
          (descOf (bytesAt (stn s.body (dr / 2)).sram (e.listOff + 64 * getF s.body R.DRV_STATUS.list_index dr) 64)).last = false →
          tallySatisfied (stn s.body (dr / 2)) w.1 w.2 = true → Runs (.descWaitSatisfied dr) s [.drovers, .regs] (fun b =>
            drv b dr = { x with waiting := none, moving := none }
              ∧ getF b R.DRV_STATUS.list_index dr = getF s.body R.DRV_STATUS.list_index dr + 1))
      ∧ (∀ e w, x.current = some e → x.waiting = some w → tallySatisfied (stn s.body (dr / 2)) w.1 w.2 = false →
          Runs (.descWaitSatisfied dr) s [] (fun b => b = s.body))
      ∧ (∀ r rest, x.transfers = r :: rest → r.flying = [] → x.moving = none → r.chk = false → r.frame = false →
          RunsS (.droverTransferVisible dr) s (fun t => (drv t.body dr).transfers = rest ∧ (drv t.body dr).queue = x.queue
            ∧ getF t.body R.DRV_BYTES.bytes dr = min (getF s.body R.DRV_BYTES.bytes dr + r.bytes) (2 ^ 48 - 1)
            ∧ stn t.body (dr / 2) = (match r.signal with
              | some v => setTally (stn s.body (dr / 2)) r.tally (tally (stn s.body (dr / 2)) r.tally + v)
              | none => stn s.body (dr / 2))))
      ∧ (∀ r rest, x.transfers = r :: rest → r.flying ≠ [] → Runs (.droverTransferVisible dr) s [] (fun b => b = s.body))
      ∧ (∀ e c, x.current = some e → e.isList = false → x.waiting = none → x.moving = none → state ≠ 2 → e.desc.kind = 1 →
          descFault s.body (dr / 2) e.desc = some c →
          RunsS (.descCopy dr) s (fun t => getF t.body R.DRV_STATUS.state dr = 2 ∧ getF t.body R.DRV_FAULT.valid dr = 1
            ∧ getF t.body R.DRV_FAULT.cause dr = c.1 % 16 ∧ getF t.body R.DRV_FAULT.pc dr = e.pc % 4096
            ∧ .drover dr ∈ t.body.reports ∧ t.body.fabric = s.body.fabric ∧ t.body.stations = s.body.stations))
      ∧ (state = 2 → Runs (.drvResume dr) s [.regs] (fun b => getF b R.DRV_STATUS.state dr = (if x.busy then 1 else 0)
            ∧ RegsBut [R.DRV_STATUS.state] dr s.body b))
      ∧ Runs (.drvFlush dr) s [.drovers, .regs] (fun b => drv b dr = { x with queue := [], replayed := [] }
            ∧ getF b R.DRV_STATUS.state dr = (if x.current.isSome || !x.transfers.isEmpty then 1 else 0)
            ∧ RegsBut [R.DRV_STATUS.state] dr s.body b ∧ ∀ y, y ≠ dr → drv b y = drv s.body y)

/-- The check-value units (R202 to R205, R211): init loads the initial value of the algorithm and forgets the last counter,
a feed joins up to eight bytes of the data word in order, a frame end compares its counter with the last by R204, and a
unit that a drover feeds refuses both. -/
def Obligations.CheckUnits : Prop :=
  ∀ (i : Nat) (s : State), isChk i = true →
    let algo := getF s.body R.CHK_CTRL.algo i
    let run := getF s.body R.CHK_RUN.run i
    let word := getF s.body R.CHK_DATA.dataWord i
    let frame := SMap.get s.body.chkFrame [] i
    (chkBusy s.body i = false →
        Runs (.chkInit i) s [.regs, .chkFrame] (fun b => getF b R.CHK_RUN.run i
            = (match algo with | 1 => 0xFFFF | 2 => 0xFFFFFFFF | 3 => 2 ^ 64 - 1 | _ => 0)
          ∧ flagF b R.CHK_ALIVE_LAST.seen i = false ∧ SMap.get b.chkFrame [] i = []
          ∧ RegsBut [R.CHK_RUN.run, R.CHK_ALIVE_LAST.seen] i s.body b)
        ∧ (∀ n, 1 ≤ n ∧ n ≤ 8 → Runs (.chkFeed i n false) s [.regs, .chkFrame] (fun b =>
            getF b R.CHK_RUN.run i = (leBytes n word).foldl (fun r x => crcStep algo r x.toNat) run % 2 ^ 64
              ∧ SMap.get b.chkFrame [] i = frame ++ leBytes n word ∧ RegsBut [R.CHK_RUN.run] i s.body b))
        ∧ (flagF s.body R.CHK_CTRL.alive_en i = false → Runs (.chkFeed i 0 true) s [.regs, .chkFrame] (fun b =>
            getF b R.CHK_STATUS.frames i = min (getF s.body R.CHK_STATUS.frames i + 1) (2 ^ R.CHK_STATUS.frames.width - 1)
              ∧ SMap.get b.chkFrame [] i = [] ∧ RegsBut [R.CHK_STATUS.frames] i s.body b))
        ∧ (flagF s.body R.CHK_CTRL.alive_en i = true → flagF s.body R.CHK_ALIVE_LAST.seen i = true →
            getF s.body R.CHK_CTRL.alive_width i = 1 → getF s.body R.CHK_CTRL.alive_offset i < frame.length →
            let c := (frame.getD (getF s.body R.CHK_CTRL.alive_offset i) 0).toNat
            let step := (c + 256 - getF s.body R.CHK_ALIVE_LAST.last i % 256) % 256
            getF s.body R.CHK_ALIVE_LAST.last i < 256 → Runs (.chkFeed i 0 true) s [.regs, .chkFrame, .free] (fun b =>
              getF b R.CHK_ALIVE_LAST.last i = c
                ∧ flagF b R.CHK_STATUS.repeats i = (step == 0 || flagF s.body R.CHK_STATUS.repeats i)
                ∧ flagF b R.CHK_STATUS.skip i = ((decide (2 ≤ step) && decide (step ≤ 128)) || flagF s.body R.CHK_STATUS.skip i)
                ∧ flagF b R.CHK_STATUS.backward i = (decide (128 < step) || flagF s.body R.CHK_STATUS.backward i))))
      ∧ (chkBusy s.body i = true → Runs (.chkInit i) s [.regs] (fun b => flagF b R.CHK_STATUS.write_refused i = true
            ∧ RegsBut [R.CHK_STATUS.write_refused] i s.body b)
          ∧ ∀ n f, Runs (.chkFeed i n f) s [.regs] (fun b => flagF b R.CHK_STATUS.write_refused i = true
            ∧ RegsBut [R.CHK_STATUS.write_refused] i s.body b))

/-- Staging tails (R193 to R200): a staged write joins its tail in order of arrival, its bytes its place in the staging region, and, without
a mirror, is then acknowledged to its drover; a full tail refuses it; with a mirror it waits on the partner; a forwarded entry joins the mirror
tail, which refuses it when full (log entry 62). An open tail is discarded only while none is sealed, and a restarted controller waits for
retry. No byte outside the staging regions changes. -/
def Obligations.StagingTails : Prop :=
  ∀ (k : Nat) (s : State), isStack k = true → s.body.stopped.contains (.controller k) = false → s.body.badStack = [] →
    let t := stk s.body k
    let room := getF s.body R.MEM_STG_SIZE.size_mib k * 4096 - 1
    let base := getF s.body R.MEM_STG_BASE.base k
    let stroke := getF s.body R.TLY_STROKE_NUM.stroke 0 % 2 ^ 32
    let sealed := fun j => 2 ≤ getF s.body R.MEM_STG_STATUS.state j
    let outside := fun (u : State) => ∀ a, inStaging s.body a 1 = false → memGet u.mem a = memGet s.mem a
    (∀ w rest, t.staged = w :: rest → t.tail.length < room → flagF s.body R.MEM_MIR_CFG.enable k = false →
        getF s.body R.MEM_STG_STATUS.state k = 0 → (drv s.body w.drv).moving = none → w.payload.length ≤ 224 →
        RunsS (.stagedEntryAppend k) s (fun u =>
          let e : TailEntry := ⟨w.home, stroke, w.payload⟩
          stk u.body k = { t with staged := rest, tail := t.tail ++ [e], tailStroke := stroke }
            ∧ getF u.body R.MEM_STG_STATUS.entries k = (t.tail.length + 1) % 2 ^ R.MEM_STG_STATUS.entries.width
            ∧ getF u.body R.MEM_STG_STATUS.state k = 1
            ∧ (∀ i, i < 256 → memGet u.mem (base + 256 * (t.tail.length + 1) + i) = (entryBytes e t.tail.length).getD i 0)
            ∧ (∀ a, a < base ∨ base + 256 * (t.tail.length + 2) ≤ a → memGet u.mem a = memGet s.mem a)
            ∧ drv u.body w.drv = { drv s.body w.drv with transfers := (drv s.body w.drv).transfers.map (fun x =>
                if x.id = w.transfer then { x with flying := x.flying.filter (fun y => y.piece != w.piece) } else x) }))
      ∧ (∀ w rest, t.staged = w :: rest → room ≤ t.tail.length → RunsS (.stagedEntryAppend k) s (fun u => u.mem = s.mem
          ∧ stk u.body k = { t with staged := rest } ∧ flagF u.body R.MEM_STG_STATUS.full k = true ∧ .stagingFull k ∈ u.body.reports))
      ∧ (∀ w rest, t.staged = w :: rest → t.tail.length < room → flagF s.body R.MEM_MIR_CFG.enable k = true →
          RunsS (.stagedEntryAppend k) s (fun u => (stk u.body k).tail.length = t.tail.length + 1
            ∧ (w ∈ (stk u.body k).mirrorWait ∨ flagF u.body R.MEM_MIR_CFG.enable k = false)))
      ∧ (∀ f, s.body.fabric = [f] → f.kind = .droverBulk → f.src = 1024 + k → f.dst = 1024 + k → atGoal f = true →
          flagF s.body R.MEM_CTRL.self_refresh k = false → getF s.body R.MEM_STATUS.state k ≠ 3 → ∀ bs, f.payload = bs.map some →
          (t.mirrorTail.length < room → RunsS (.mirrorEntryReceive k f.addr f.stroke bs) s (fun u => u.mem = s.mem
            ∧ stk u.body k = { t with mirrorTail := t.mirrorTail ++ [⟨f.addr, f.stroke, bs⟩] }))
          ∧ (room ≤ t.mirrorTail.length → RunsS (.mirrorEntryReceive k f.addr f.stroke bs) s (fun u => u.mem = s.mem ∧ stk u.body k = t
            ∧ flagF u.body R.MEM_STG_STATUS.full k = true ∧ .stagingFull k ∈ u.body.reports)))
      ∧ (∀ home n payload, s.body.fabric = [] → Runs (.mirrorEntryReceive k home n payload) s [] (fun b => b = s.body))
      ∧ (∀ v, Runs (.commitHold v) s [.regs] (fun b => flagF b R.MEM_COMMIT_CTRL.hold 0 = v ∧ RegsBut [R.MEM_COMMIT_CTRL.hold] 0 s.body b))
      ∧ ((∃ j, j < 12 ∧ sealed j) → Runs .commitDiscard s [.regs] (fun b => flagF b R.MEM_COMMIT_STATUS.discard_refused 0 = true
          ∧ RegsBut [R.MEM_COMMIT_STATUS.discard_refused] 0 s.body b))
      ∧ ((∀ j, j < 12 → ¬ sealed j) → RunsS .commitDiscard s (fun u => outside u
            ∧ stk u.body k = { t with tail := [], mirrorTail := [], staged := [], mirrorWait := [] }
            ∧ getF u.body R.MEM_STG_STATUS.state k = 0 ∧ getF u.body R.MEM_STG_STATUS.entries k = 0))
      ∧ (RunsS .commitRetryApply s (fun u => outside u
          ∧ (sealed k → getF u.body R.MEM_STG_STATUS.state k = 3 ∧ stk u.body k = { t with restarted := false })
          ∧ (¬ sealed k → stk u.body k = t ∧ getF u.body R.MEM_STG_STATUS.state k = getF s.body R.MEM_STG_STATUS.state k)))
      ∧ Runs (.controllerRestart k) s [.memStacks] (fun b =>
          (getF s.body R.MEM_STG_STATUS.state k = 2 ∨ getF s.body R.MEM_STG_STATUS.state k = 3 → stk b k = { t with restarted := true })
            ∧ ∀ j, j ≠ k → stk b j = stk s.body j)

/-- Stroke commit (R31, R119, R196, R199, R220, R227, R246, R327): it starts once every active station has ended its stroke and hold is
0, sealing every tail and copying the tallies; each controller then copies its entries in tail order to their home units,
mirror entries at the mirror offset within its own stack; and when all twelve have reported, the stroke is complete. That a sealed tail shows
state 3 at once is the model's choice (log entry 64). -/
def Obligations.StrokeCommit : Prop :=
  ∀ (k : Nat) (s : State), isStack k = true → s.body.stopped.contains (.controller k) = false →
    let t := stk s.body k
    let state := getF s.body R.MEM_COMMIT_STATUS.state 0
    let ended := strokeBarrierDone s.body = true ∧ s.body.flock.commitDone = false
    let tailState := getF s.body R.MEM_STG_STATUS.state k
    (¬ ended → Runs .commitStart s [] (fun b => b = s.body))
      ∧ (ended → flagF s.body R.MEM_COMMIT_CTRL.hold 0 = true → Runs .commitStart s [.regs] (fun b =>
          getF b R.MEM_COMMIT_STATUS.state 0 = 4 ∧ RegsBut [R.MEM_COMMIT_STATUS.state] 0 s.body b))
      ∧ (ended → flagF s.body R.MEM_COMMIT_CTRL.hold 0 = false → state = 0 ∨ 3 ≤ state → s.body.badStack = [] →
          RunsS .commitStart s (fun u => getF u.body R.MEM_COMMIT_STATUS.state 0 = 2
            ∧ getF u.body R.MEM_COMMIT_STATUS.applied 0 = 0 ∧ getF u.body R.MEM_STG_STATUS.state k = 3
            ∧ getF u.body R.TLY_STROKE_STATUS.state 0 = (if s.body.flock.runOpen then 5 else getF s.body R.TLY_STROKE_STATUS.state 0)
            ∧ stk u.body k = { t with sealCrc := sealCrcOf t.tail, tailStroke := getF s.body R.TLY_STROKE_NUM.stroke 0 % 2 ^ 32 }
            ∧ (∀ d l st, d < 16 → l < 48 → physOf s.body d l = some st →
                SMap.get u.body.shadow [] (d * 64 + l) = (stn s.body st).tallies)
            ∧ ∀ a, inStaging s.body a 1 = false → memGet u.mem a = memGet s.mem a))
      ∧ (∀ e f, tailState = 2 ∨ tailState = 3 → t.restarted = false → t.tail = [e, f] → t.mirrorTail = [] → s.body.badStack = [] →
          RunsS (.tailApplyComplete k) s (fun u => stk u.body k = { t with tail := [], mirrorTail := [] }
            ∧ getF u.body R.MEM_STG_STATUS.state k = 0 ∧ getF u.body R.MEM_STG_STATUS.entries k = 0
            ∧ bit (getF u.body R.MEM_COMMIT_STATUS.applied 0) k = true ∧ Only [.memStacks, .regs, .free] s.body u.body
            ∧ ∀ a, inStaging s.body a 1 = false → memGet u.mem a =
                (if f.home ≤ a ∧ a < f.home + f.payload.length then f.payload.getD (a - f.home) 0
                else if e.home ≤ a ∧ a < e.home + e.payload.length then e.payload.getD (a - e.home) 0 else memGet s.mem a)))
      ∧ (∀ e o, tailState = 2 ∨ tailState = 3 → t.restarted = false → t.tail = [] → t.mirrorTail = [e] → s.body.badStack = [] →
          getF s.body R.MEM_MIR_OFFSET.offset k = o → o < 2 ^ 63 →
          RunsS (.tailApplyComplete k) s (fun u => stk u.body k = { t with tail := [], mirrorTail := [] }
            ∧ ∀ a, inStaging s.body a 1 = false → memGet u.mem a =
            (if k * stackBytes ≤ e.home + o ∧ e.home + o < (k + 1) * stackBytes ∧ e.home + o ≤ a ∧ a < e.home + o + e.payload.length then
              e.payload.getD (a - (e.home + o)) 0 else memGet s.mem a)))
      ∧ (t.restarted = true → Runs (.tailApplyComplete k) s [] (fun b => b = s.body))
      ∧ (state = 2 → getF s.body R.MEM_COMMIT_STATUS.applied 0 = 0xFFF → s.body.flock.prepAfter = false → s.body.fail.switch = none →
          s.body.fail.fill = none → s.body.rack.drain = 0 →
          ∀ n, s.body.flock.commitFor = some n → RunsS .commitComplete s (fun u =>
            getF u.body R.MEM_COMMIT_STATUS.state 0 = 3 ∧ getF u.body R.MEM_COMMIT_STROKE.stroke 0 = n % 2 ^ 32
              ∧ u.body.flock.commitDone = true ∧ u.body.flock.good = n ∧ u.mem = s.mem))
      ∧ (state ≠ 2 ∨ getF s.body R.MEM_COMMIT_STATUS.applied 0 ≠ 0xFFF → Runs .commitComplete s [] (fun b => b = s.body))

/-- The host drovers (R187, R191, R192, R210, R503): the tail is moved on within the ring, a shrinking queue is refused; a
descriptor's move copies host bytes into stack memory or stack bytes to host memory, counts as done and advances the head;
a faulty one, or one whose access is refused (R67, R178, R207), stops the drover until its fault is cleared. -/
def Obligations.HostDrovers : Prop :=
  ∀ (h : Nat) (s : State), h < 4 →
    let head := getF s.body R.DRV_HQ_HEAD.head h
    let tail := getF s.body R.DRV_HQ_TAIL.tail h
    let dist := fun t => (t + 64 - head) % 64
    let d := descOf (hqSlotBytes s.body h head)
    (∀ t, t < 64 → dist tail ≤ dist t → Runs (.drvHqTailWrite h t) s [.regs] (fun b => getF b R.DRV_HQ_TAIL.tail h = t
        ∧ RegsBut [R.DRV_HQ_TAIL.tail] h s.body b))
      ∧ (∀ t, t < 64 → dist t < dist tail → Runs (.drvHqTailWrite h t) s [.regs] (fun b => flagF b R.DRV_HQ_STATUS.tail_refused h = true
          ∧ RegsBut [R.DRV_HQ_STATUS.tail_refused] h s.body b))
      ∧ (head ≠ tail → flagF s.body R.DRV_HQ_STATUS.valid h = false → fieldFault d true = none → d.kind = 1 → d.chk = false → d.frame = false →
          s.body.badStack = [] → ∀ a x, hostRefused s.body (.stack (moduleIndex s.body) a) d.length = false → (sysAddr x).space = 3 → (sysAddr x).ix = 0 → (sysAddr x).addr + d.length ≤ 2 ^ 48 →
          hostEnd s.body a d.length = some (.stack (moduleIndex s.body) a) →
          let after := fun (b : Body) => getF b R.DRV_HQ_HEAD.head h = (head + 1) % 64
            ∧ getF b R.DRV_HQ_DONE.done h = (getF s.body R.DRV_HQ_DONE.done h + 1) % 2 ^ R.DRV_HQ_DONE.done.width
          (d.src = x → d.dst = a → ∀ data, data.length = d.length → RunsS (.hostDescriptorRun h data) s (fun u => after u.body
              ∧ ∀ c, memGet u.mem c = (if a ≤ c ∧ c < a + d.length then data.getD (c - a) 0 else memGet s.mem c)))
            ∧ (d.src = a → d.dst = x → (sysAddr a).space = 0 → heldBySeal s.body a d.length = false → RunsS (.hostDescriptorRun h []) s (fun u => after u.body
              ∧ u.mem = s.mem ∧ .response "HOST_WRITE" ((sysAddr x).addr :: (memBytes s.mem a d.length).map (·.toNat)) ∈ u.body.sent)))
      ∧ (head ≠ tail → flagF s.body R.DRV_HQ_STATUS.valid h = false → fieldFault d true = some 1 →
          ∀ data, Runs (.hostDescriptorRun h data) s [.regs, .sent, .host] (fun b => flagF b R.DRV_HQ_STATUS.valid h = true
            ∧ getF b R.DRV_HQ_STATUS.cause h = 1 ∧ getF b R.DRV_HQ_STATUS.slot h = head % 64 ∧ getF b R.DRV_HQ_HEAD.head h = head
            ∧ bit (getF b R.IRQ_CAUSE.cause 0) (16 + h) = true))
      ∧ (head ≠ tail → flagF s.body R.DRV_HQ_STATUS.valid h = false → fieldFault d true = none → d.kind = 1 →
          ∀ w p a, hostEnds s.body ⟨some d.src, some d.dst, d.length⟩ = some (w, p, a) → hostRefused s.body p d.length = true →
          ∀ data, Runs (.hostDescriptorRun h data) s [.regs, .sent, .host] (fun b => flagF b R.DRV_HQ_STATUS.valid h = true
            ∧ getF b R.DRV_HQ_STATUS.cause h = 7 ∧ getF b R.DRV_HQ_HEAD.head h = head))
      ∧ (head = tail → ∀ data, Runs (.hostDescriptorRun h data) s [] (fun b => b = s.body))
      ∧ (flagF s.body R.DRV_HQ_STATUS.valid h = true → Runs (.drvHqFaultClear h) s [.regs] (fun b =>
          flagF b R.DRV_HQ_STATUS.valid h = false ∧ getF b R.DRV_HQ_STATUS.cause h = 0
            ∧ getF b R.DRV_HQ_HEAD.head h = (if head = tail then head % 64 else (head + 1) % 64)
            ∧ RegsBut [R.DRV_HQ_STATUS.valid, R.DRV_HQ_STATUS.cause, R.DRV_HQ_STATUS.slot, R.DRV_HQ_HEAD.head] h s.body b))

/-- Telegrams (R224, R225, R232, R235 to R238, R243, R244, R248): a START in order is scheduled by its delay, an arm START opens
the run, a child's HEADROOM is kept for the combination, an ARRIVE of the next stroke is held until the catch, a RELEASE
releases the flock's stations, a TALLY goes to its station's fabric port, an ECHO measures the delay to the seat; a
telegram that fails its check or its alive check is counted and dropped. That the answer to a signal to an invalid entry (R72) goes to the stroke
block is the model's choice (log entry 58). -/
def Obligations.Telegrams : Prop :=
  ∀ (h : TelHead) (s : State),
    let b0 := s.body
    let fl := b0.flock
    let sound := isolated b0 = false ∧ flagF b0 R.KLK_ROUTE.lost h.nbr = false ∧ h.crcOk = true ∧ h.level ≤ 1 ∧ h.alive < 256
    let good := fun (ttype : Nat) => sound ∧ (SMap.get fl.rxAlive none (ttype * 16384 + h.nbr) = none
      ∨ SMap.get fl.rxAlive none (ttype * 16384 + h.nbr) = some ((h.alive + 255) % 256))
    let takesPart := fl.barred = false ∧ flagF b0 R.TLY_STROKE_CTRL.enable 0 = true ∧ flagF b0 R.TLY_SEAT.valid 0 = true ∧ h.flock = fl.flockId
      ∧ rankIn b0 h.sender ≤ rankIn b0 (getF b0 R.TLY_SEAT.seat 0)
    let now := getF b0 R.TLY_STROKE_NUM.stroke 0
    (∀ (x : StartBody) k, good 1 → takesPart → kindOf b0 x.kind = some k → fl.runOpen = true → fl.commitDone = true →
        shepherdActive b0 = false → getF b0 R.TLY_STROKE_STATUS.state 0 = 1 →
        Runs (.telegramStart h x) s [.flock, .regs, .sent, .fabric] (fun b => getF b R.TLY_STROKE_STATUS.state 0 = 2
          ∧ b.flock.startSeen = some ⟨{ x with arm := false, replay := false }, h.stroke,
              b0.now + x.warnDelayUs * 1000 - getF b0 R.TLY_SEAT_DELAY.d_ns 0⟩
          ∧ getF b R.TLY_SEAT.seat 0 = h.sender % 2 ^ 14))
      ∧ (∀ (x : StartBody) k, good 1 → takesPart → kindOf b0 x.kind = some k → RunsS (.armStart h x) s (fun t =>
          t.body.flock.runOpen = true ∧ t.body.flock.vacant = [] ∧ t.body.flock.origKind = x.kind))
      ∧ (∀ x : StartBody, sound → SMap.get fl.rxAlive none (16384 + h.nbr) = some h.alive →
          Runs (.telegramStart h x) s [.flock, .regs] (fun b => b.flock.startSeen = fl.startSeen
            ∧ getF b R.TLY_TELEGRAM_ERR.repeats 0 = min (getF b0 R.TLY_TELEGRAM_ERR.repeats 0 + 1) 255
            ∧ RegsBut [R.TLY_TELEGRAM_ERR.repeats] 0 b0 b))
      ∧ (∀ x : HeadroomBody, isolated b0 = false → flagF b0 R.KLK_ROUTE.lost h.nbr = false → h.crcOk = false →
          Runs (.telegramHeadroom h x) s [.regs] (fun b =>
            getF b R.TLY_TELEGRAM_ERR.crc 0 = min (getF b0 R.TLY_TELEGRAM_ERR.crc 0 + 1) 255 ∧ RegsBut [R.TLY_TELEGRAM_ERR.crc] 0 b0 b))
      ∧ (∀ x : HeadroomBody, good 2 → h.flock = fl.flockId → flagF b0 R.TLY_SEAT.valid 0 = true → fl.ownReport = none →
          Runs (.telegramHeadroom h x) s [.flock] (fun b => SMap.get b.flock.children none h.nbr = some ⟨x, true⟩
            ∧ ∀ c, c ≠ h.nbr → SMap.get b.flock.children none c = SMap.get fl.children none c))
      ∧ (∀ gen count, good 3 → h.stroke = now + 1 → Runs (.telegramArrive h gen count) s [.flock] (fun b =>
          b.flock.heldArrives = fl.heldArrives ++ [(h.flock, h.nbr, gen, count)] ∧ b.flock.arrives = fl.arrives))
      ∧ (∀ gen count, good 3 → h.stroke = now → Runs (.telegramArrive h gen count) s [.flock, .stations, .sent, .fabric] (fun b =>
          (h.nbr < 16384 → childGen b h.flock h.nbr = gen % 65536 ∧ childCount b h.flock h.nbr = count)
            ∧ b.flock.heldArrives = fl.heldArrives))
      ∧ (∀ gen st ch, good 4 → flockStations b0 flockDepth h.flock = [st] → barrierChannel b0 st 2 h.flock = some ch →
          Runs (.telegramRelease h gen) s [.flock, .stations, .sent, .fabric] (fun b =>
            stn b st = { stn b0 st with relGen := SMap.put (stn b0 st).relGen 0 ch (gen % 65536) } ∧ ∀ y, y ≠ st → stn b y = stn b0 y))
      ∧ (∀ (x : TallyBody) st, sound → x.toFlock = false → physOf b0 (x.target / 64 % 16) (x.target % 64) = some st →
          Runs (.telegramTally h x) s [.fabric] (fun b => ∃ g, b.fabric = b0.fabric ++ [g] ∧ g.kind = .tallySignal ∧ g.dst = st
            ∧ g.tag = x.tally ∧ g.len = x.value ∧ g.stroke = h.stroke % 4))
      ∧ (∀ x : TallyBody, sound → x.toFlock = false → physOf b0 (x.target / 64 % 16) (x.target % 64) = none →
          Runs (.telegramTally h x) s [.sent] (fun b => b.sent = .response "error response to a tally signal"
            [strokeEp, 3, winBase (x.target / 64 % 16) (x.target % 64)] :: b0.sent))
      ∧ (∀ (x : EchoBody) t4, good 7 → x.reply = true → x.originator = moduleIndex b0 → x.seq = fl.echoSeq →
          Runs (.telegramEcho h x t4) s [.flock, .regs] (fun b => getF b R.TLY_SEAT_DELAY.d_ns 0
              = min (((t4 : Int) - x.t1 - ((x.t3 : Int) - x.t2)) / 2).toNat (2 ^ 20 - 1) ∧ RegsBut [R.TLY_SEAT_DELAY.d_ns] 0 b0 b))
      ∧ (∀ (x : EchoBody) t4, good 7 → x.reply = false → isSeat b0 = true → Runs (.telegramEcho h x t4) s [.flock, .sent, .fabric] (fun b =>
          ∃ g, b.sent = .telEcho h.nbr g { x with reply := true, t2 := t4, t3 := b0.now } :: b0.sent ∧ g.sender = moduleIndex b0))

/-- The course of a stroke (R31, R126, R223, R236, R240 to R246, R255, R432, R513): the deadline and the module's own report move
the combination up the tree, the seat's timer sends the next START with the period it was armed with, the catch warning
and the catch follow, feather begins at the end of drive, and a member without a START takes the next live module as
seat. -/
def Obligations.Strokes : Prop :=
  ∀ s : State,
    let b0 := s.body
    let fl := b0.flock
    let ms := strokeMembers b0
    let aux := getF b0 R.SHP_SYNCAUX.mode 0
    let me := moduleIndex b0
    (∀ level r p, level = leaderLevel b0 ms → fl.sentUp = [] → flagF b0 R.TLY_SEAT.valid 0 = true → combined b0 = some r →
        treeParent b0 ms = some p → Runs (.headroomDeadline level) s [.flock, .sent, .fabric] (fun b => b.flock.sentUp = [1]
          ∧ ∃ g, b.sent = .telHeadroom p g r :: b0.sent ∧ g.sender = me))
      ∧ (∀ level, level ≠ leaderLevel b0 ms → Runs (.headroomDeadline level) s [] (fun b => b = b0))
      ∧ (∀ cur c, fl.inFlight = some cur → fl.ownReport = none → fl.runOpen = true → c ∈ missingChildren b0 →
          Runs .headroomPublish s [.flock, .regs] (fun b => ∃ r, b.flock.ownReport = some r ∧ r.count = 1 ∧ r.setter = me
            ∧ r.lateUs = fl.lateUs ∧ r.headroomMj = getF b0 R.LDG_HEADROOM.headroom_mj 0
            ∧ (flagF b0 R.LDG_REQUEST.fresh 0 = true → r.periodUs = getF b0 R.LDG_REQUEST.period_us 0)))
      ∧ (∀ cur k, aux ≠ 1 → isSeat b0 = true → fl.runOpen = true → fl.inFlight = some cur → cur.last = false → fl.startSeen = none →
          fl.seatWait = none → kindOf b0 fl.runKind = some k → kindOf b0 cur.kind = some k → flagF b0 R.TLY_NEXT_PERIOD.armed 0 = true →
          shepherdActive b0 = false →
          Runs .strokeTimerSend s [.flock, .regs, .sent, .fabric] (fun b => flagF b R.TLY_NEXT_PERIOD.armed 0 = false
            ∧ ∃ w, b.flock.startSeen = some w ∧ w.stroke = getF b0 R.TLY_STROKE_NUM.stroke 0 + 1 ∧ w.body.kind = fl.runKind
              ∧ w.body.periodUs = getF b0 R.TLY_NEXT_PERIOD.period_us 0 ∧ w.body.leadUs = k.leadUs ∧ w.body.first = false
              ∧ w.body.warnDelayUs = cur.periodUs - k.startOff - k.leadUs ∧ w.scheduled = b0.now + w.body.warnDelayUs * 1000))
      ∧ (∀ cur, aux = 1 → isSeat b0 = true → fl.runOpen = true → fl.inFlight = some cur →
          Runs .strokeTimerSend s [.host] (fun b => b.host = { b0.host with auxWait := true }))
      ∧ (aux = 1 → b0.host.auxWait = false → Runs .syncAuxEdge s [.regs] (fun b =>
          getF b R.SHP_SYNCAUX_TS.ns 0 = b0.now / 10 * 10 % 2 ^ R.SHP_SYNCAUX_TS.ns.width ∧ RegsBut [R.SHP_SYNCAUX_TS.ns] 0 b0 b))
      ∧ (aux ≠ 1 → Runs .syncAuxEdge s [] (fun b => b = b0))
      ∧ (b0.host.auxWait = true → RunsS .syncAuxWaitTimeout s (fun t => t.body.host.auxWait = false
          ∧ getF t.body R.SHP_SYNCAUX.missed 0 = min (getF b0 R.SHP_SYNCAUX.missed 0 + 1) (2 ^ R.SHP_SYNCAUX.missed.width - 1)))
      ∧ (∀ cur m rest, fl.inFlight = some cur → fl.runOpen = true → flagF b0 R.TLY_STROKE_CTRL.enable 0 = true → isSeat b0 = false →
          fl.startSeen = none → cur.last = false → ms = getF b0 R.TLY_SEAT.seat 0 :: m :: rest → m ≠ getF b0 R.TLY_SEAT.seat 0 →
          m < 16384 → moduleLive b0 m = true → Runs .seatSilence s [.regs, .reports, .flock] (fun b => getF b R.TLY_SEAT.seat 0 = m
            ∧ (m ≠ me → b.flock = fl)
            ∧ (m = me → b.flock = { fl with runLeft := none, stopAsked := false, inboundNext := cur.inbound, runKind := cur.kind })
            ∧ flagF b R.TLY_STROKE_STATUS.seat 0 = decide (m = me) ∧ b.reports = b0.reports ++ [.seatGone]))
      ∧ (flagF b0 R.TLY_SEAT.valid 0 = true → treeParent b0 ms = none → Runs .seatDelayMeasure s [.regs] (fun b =>
          getF b R.TLY_SEAT_DELAY.d_ns 0 = 0 ∧ RegsBut [R.TLY_SEAT_DELAY.d_ns] 0 b0 b))
      ∧ (∀ p, flagF b0 R.TLY_SEAT.valid 0 = true → treeParent b0 ms = some p → Runs .seatDelayMeasure s [.flock, .sent, .fabric] (fun b =>
          b.flock.echoSeq = (fl.echoSeq + 1) % 256
            ∧ ∃ g, b.sent = .telEcho p g ⟨me, false, (fl.echoSeq + 1) % 256, b0.now, 0, 0⟩ :: b0.sent))
      ∧ (∀ w, fl.startSeen = some w → fl.warnRaised = false → fl.commitDone = true → RunsS .catchWarning s (fun t =>
          t.body.flock.warnRaised = true ∧ t.body.flock.catchAt = b0.now + w.body.leadUs * 1000
            ∧ t.body.flock.lateUs = (b0.now - w.scheduled + 999) / 1000
            ∧ getF t.body R.TLY_LATE.last_us 0 = min ((b0.now - w.scheduled + 999) / 1000) 65535))
      ∧ (fl.startSeen = none → Runs .catchWarning s [] (fun b => b = b0))
      ∧ (∀ w, fl.startSeen = some w → fl.warnRaised = true → w.body.replay = false → fl.heldArrives = [] → RunsS Instr.catch s (fun t =>
          getF t.body R.TLY_STROKE_NUM.stroke 0 = w.stroke % 2 ^ 48 ∧ getF t.body R.TLY_PERIOD.period_us 0 = w.body.periodUs % 2 ^ 32
            ∧ getF t.body R.TLY_STROKE_STATUS.state 0 = 3 ∧ t.body.flock.inFlight = some w.body ∧ t.body.flock.startSeen = none
            ∧ t.body.flock.commitDone = false ∧ t.body.flock.drive = true ∧ t.mem = s.mem
            ∧ ∀ st, st ∈ liveStations b0 → (stn t.body st).s = [] ∧ (stn t.body st).v = [] ∧ (stn t.body st).p = []
              ∧ (stn t.body st).sram = (stn b0 st).sram ∧ getF t.body R.STN_ARITH_FLAGS.flags st = 0))
      ∧ (fl.drive = true → getF b0 R.TLY_STROKE_STATUS.state 0 = 3 → RunsS .driveEnd s (fun t =>
          t.body.flock.drive = false ∧ t.body.flock.feather = true ∧ getF t.body R.TLY_STROKE_STATUS.state 0 = 4))
      ∧ (∀ st ch, isStation st = true → ch < 2 → Runs (.barrierRelease st ch) s [.stations] (fun b =>
          stn b st = { stn b0 st with relGen := SMap.put (stn b0 st).relGen 0 ch (releaseGen b0 st ch) } ∧ ∀ y, y ≠ st → stn b y = stn b0 y))
      ∧ Runs (.strokeEnableWrite true) s [.regs, .rack, .sent] (fun b => flagF b R.TLY_STROKE_CTRL.enable 0 = true
          ∧ RegsBut [R.TLY_STROKE_CTRL.enable] 0 b0 b)
      ∧ RunsS (.strokeEnableWrite false) s (fun t => flagF t.body R.TLY_STROKE_CTRL.enable 0 = false ∧ t.body.flock.runOpen = false
          ∧ t.body.flock.inFlight = none ∧ getF t.body R.TLY_STROKE_STATUS.state 0 = 0)

/-- Flits on a Korrel port (R66, R265 to R267, R270, R272 to R276, R295): a sound flit in sequence is delivered at its link die, to the station
that the die map names, and its credit freed, a bad one asks both streams for retry, a retry request sends the kept flits again, a request not met is repeated and, after the
third, costs the port; CREDIT_SYNC sets every VC's credit from the counts. -/
def Obligations.KorrelFlits : Prop :=
  ∀ (p : Nat) (s : State), p < 18 → portUp s.body p = true → (kport s.body p).waiting = [] →
    let b0 := s.body
    let k0 := kport b0 p
    let field := fun (b : Body) (f : Field) => getF b f p
    let hop := fun (b : Body) (ftype : Nat) (xs : List Nat) => ∃ k a0 a1 cs, b.sent = .korrel p k a0 a1 cs :: b0.sent
      ∧ k.ftype = ftype ∧ k.body = xs
    (∀ (r : KRecv) (f : Flit) x, r.crcOk = true → r.k.ftype = 1 → r.k.flit = some f → f.kind = .droverBulk → r.k.vc ≠ 0 → r.k.vc ≠ 6 →
        inboundDst b0 f = some x →
        r.k.seq = k0.s1.expected → k0.s1.kept = [] → r.k.destModule = moduleIndex b0 → flagF b0 R.KLK_ROUTE.lost r.k.srcModule = false →
        Runs (.korrelFlitReceive p r) s [.korrel, .regs, .fabric] (fun b => b.fabric = b0.fabric
            ++ [{ f with origin := some r.k.srcModule, dst := x, pos := some (16 + portDie p), via := none }]
          ∧ (kport b p).s1.expected = (k0.s1.expected + 1) % 4096
          ∧ (kport b p).s1.asked = k0.s1.asked.filter (fun q => q.1 != k0.s1.expected)
          ∧ SMap.get (kport b p).freed 0 r.k.vc = (SMap.get k0.freed 0 r.k.vc + 1) % 65536
          ∧ ∀ q, q ≠ p → kport b q = kport b0 q))
      ∧ (∀ r : KRecv, r.crcOk = false ∨ 7 ≤ r.k.ftype → field b0 R.KLK_PORT_STATUS.level ≠ 2 → k0.s0.asked = [] → k0.s1.asked = [] →
          Runs (.korrelFlitReceive p r) s [.korrel, .regs, .sent] (fun b =>
            field b R.KLK_PORT_ERR.crc_fail = min (field b0 R.KLK_PORT_ERR.crc_fail + 1) (2 ^ 16 - 1)
              ∧ field b R.KLK_PORT_ERR.retries = min (min (field b0 R.KLK_PORT_ERR.retries + 1) (2 ^ 16 - 1) + 1) (2 ^ 16 - 1)
              ∧ (kport b p).s0.asked = [(k0.s0.expected, 0)] ∧ (kport b p).s1.asked = [(k0.s1.expected, 0)]
              ∧ (kport b p).s0.expected = k0.s0.expected ∧ (kport b p).s1.expected = k0.s1.expected))
      ∧ (∀ k seq, k0.s1.unacked = [k] → k.seq = seq % 4096 → Runs (.korrelRetryRequest p 1 seq) s [.sent] (fun b =>
          ∃ c a0 a1 cs, b.sent = c :: .korrel p k a0 a1 cs :: b0.sent))
      ∧ (∀ q f, k0.s1.asked = [(q, f)] → f < 2 → Runs (.korrelRetryTimeout p 1) s [.korrel, .regs, .sent] (fun b =>
            (kport b p).s1.asked = [(q, f + 1)] ∧ portUp b p = true ∧ hop b 2 [1, q]))
      ∧ (∀ x f, k0.s1.asked = [(x, f)] → 2 ≤ f → (kport b0 p).losses = [] → b0.korrel.notices = [] → ∀ q, q < 18 → q ≠ p → pairOfPort p = none →
          pairOfPort q = none → portUp b0 q = true → k0.s0.unacked = [] → k0.s1.unacked = [] →
          RunsS (.korrelRetryTimeout p 1) s (fun t => field t.body R.KLK_PORT_STATUS.state = 3 ∧ field t.body R.KLK_PORT_LOSS.cause = 2))
      ∧ Runs (.korrelIdleSend p) s [.sent] (fun b => hop b 0 [])
      ∧ Runs (.korrelCreditSyncSend p) s [.sent] (fun b => hop b 3 ([4, 0, moduleIndex b0, p, getF b0 R.KLK_DIE_ID.level_min (portDie p),
          getF b0 R.KLK_DIE_ID.level_max (portDie p)] ++ (List.range 8).map (fun v => SMap.get k0.freed 0 v) ++ [512]))
      ∧ (∀ counts, Runs (.creditSync p counts) s [.korrel, .regs] (fun b => ∀ v, v < 8 →
          getF b R.KLK_PORT_CREDIT.held (p * 8 + v) = (getF b0 R.KLK_PORT_CREDIT.announced (p * 8 + v)
            - (SMap.get k0.sent 0 v + 65536 - counts.getD v 0 % 65536) % 65536) % 2 ^ 11))

/-- A Korrel port and its cable (R257, R261, R263, R277 to R279, R284, R296): a stable cable starts training, lanes lock, the
identities are exchanged, and the port comes up at the highest level both ends support with the credits announced; a
miscabled port or one without a common level does not; a lost port is counted and trains again later, where it is enabled and the module
not isolated. That training which reaches no permitted lane order is a loss of cause phy is the model's choice (log entry 68). -/
def Obligations.KorrelPorts : Prop :=
  ∀ (p : Nat) (s : State), p < 18 →
    let b0 := s.body
    let k0 := kport b0 p
    let state := portState b0 p
    let die := portDie p
    let present := flagF b0 R.KLK_PORT_STATUS.present p
    let enabled := flagF b0 R.KLK_PORT_CTRL.enable p
    let said := fun (b : Body) (n : Nat) => ∃ k a0 a1 cs, .korrel p k a0 a1 cs ∈ b.sent ∧ k.ftype = 3 ∧ k.body.head? = some n
    let others := fun (b : Body) => ∀ q, q ≠ p → portState b q = portState b0 q
    (Runs (.cageCableInsert p) s [.korrel, .regs] (fun b => flagF b R.KLK_PORT_STATUS.present p = true
        ∧ kport b p = { k0 with insertedAt := b0.now, released := false } ∧ RegsBut [R.KLK_PORT_STATUS.present] p b0 b))
      ∧ (∀ cable watts, present = true → watts ≤ 15 → state = 0 → enabled = true →
          Runs (.cagePresenceStable p cable watts) s [.korrel, .regs] (fun b => portState b p = 1 ∧ others b
            ∧ getF b R.KLK_PORT_STATUS.cable p = cable % 4 ∧ (kport b p).released = true ∧ (kport b p).locked = false))
      ∧ (∀ cable watts, present = true → 15 < watts → Runs (.cagePresenceStable p cable watts) s [.korrel, .regs] (fun b =>
          flagF b R.KLK_PORT_STATUS.power_refused p = true ∧ portState b p = state))
      ∧ (∀ pol rev, pol < 16 → state = 1 → Runs (.korrelLaneLock p pol rev true) s [.korrel, .regs, .sent] (fun b =>
          getF b R.KLK_PORT_STATUS.polarity p = pol ∧ flagF b R.KLK_PORT_STATUS.reversed p = rev ∧ (kport b p).locked = true
            ∧ (kport b p).idSent = true ∧ said b 1 ∧ RegsBut [R.KLK_PORT_STATUS.polarity, R.KLK_PORT_STATUS.reversed] p b0 b))
      ∧ (∀ pol rev ok, state ≠ 1 → Runs (.korrelLaneLock p pol rev ok) s [] (fun b => b = b0))
      ∧ (∀ pol rev, state = 1 → k0.losses = [] → k0.waiting = [] → k0.s0.unacked = [] → k0.s1.unacked = [] →
          Runs (.korrelLaneLock p pol rev false) s [.korrel, .regs, .host, .sent, .reports] (fun b => portState b p = 3 ∧ others b
            ∧ getF b R.KLK_PORT_LOSS.cause p = 3 ∧ .port p ∈ b.reports))
      ∧ (state = 1 → k0.locked = true → ∀ t : TrainBody, t.peerId < 16384 →
          let lv := min t.levelHi (getF b0 R.KLK_DIE_ID.level_max die)
          let both := t.levelLo ≤ lv ∧ getF b0 R.KLK_DIE_ID.level_min die ≤ lv
          (cabledRight b0 p t = true → both → k0.idSent = true → k0.doneSeen = false →
              Runs (.trainId p t) s [.korrel, .regs, .sent] (fun b => (kport b p).level = lv
                ∧ getF b R.KLK_PORT_PEER.peer_id p = t.peerId ∧ flagF b R.KLK_PORT_PEER.valid p = true ∧ (kport b p).idSeen = true
                ∧ portState b p = 1 ∧ said b 2))
            ∧ (cabledRight b0 p t = true → ¬ both → Runs (.trainId p t) s [.regs] (fun b => portState b p = 5 ∧ others b))
            ∧ (cabledRight b0 p t = false → Runs (.trainId p t) s [.regs, .reports] (fun b => portState b p = 4 ∧ others b
              ∧ b.reports = b0.reports ++ [.miscabled p])))
      ∧ (state = 1 → k0.idSeen = true → k0.waiting = [] → Runs (.trainDone p) s [.korrel, .regs] (fun b => portState b p = 2 ∧ others b
          ∧ getF b R.KLK_PORT_STATUS.level p = k0.level % 2 ^ R.KLK_PORT_STATUS.level.width
          ∧ (kport b p).traffic = !k0.upBefore ∧ (kport b p).s0 = KStream.reset ∧ (kport b p).s1 = KStream.reset
          ∧ ∀ v, v < 8 → getF b R.KLK_PORT_CREDIT.held (p * 8 + v) = getF b0 R.KLK_PORT_CREDIT.announced (p * 8 + v) % 2 ^ 11))
      ∧ (state = 1 → k0.locked = true → k0.idSeen = false → Runs (.trainIdRepeat p) s [.korrel, .sent] (fun b => said b 1))
      ∧ (state = 3 → present = true → enabled = true → Runs (.portRetrainTimer p) s [.korrel, .regs] (fun b => portState b p = 1
          ∧ others b ∧ (kport b p).idSeen = false ∧ flagF b R.KLK_PORT_PEER.valid p = false))
      ∧ (state = 2 → k0.waiting = [] → Runs (.portTrafficEnable p) s [.korrel] (fun b => kport b p = { k0 with traffic := true }
          ∧ ∀ q, q ≠ p → kport b q = kport b0 q))
      ∧ (present = true → flagF b0 R.KLK_PORT_STATUS.power_refused p = false → enabled = true → isolated b0 = false →
          k0.s0.unacked = [] → k0.s1.unacked = [] → k0.waiting = [] →
          Runs (.klkPortRetrain p) s [.korrel, .regs] (fun b => portState b p = 1 ∧ others b ∧ (kport b p).losses = []))
      ∧ (enabled = false ∨ isolated b0 = true → Runs (.klkPortRetrain p) s [.korrel, .regs] (fun b =>
          portState b p = (if state = 6 then 0 else state) ∧ others b ∧ (kport b p).losses = []))
      ∧ (∀ q, state = 2 → b0.korrel.notices = [] → pairOfPort p = none → q ∈ switchPorts → q ≠ p → portUp b0 q = true → k0.losses = [] → k0.waiting = [] →
          k0.s0.unacked = [] → k0.s1.unacked = [] →
          ∀ c ∈ [(Instr.korrelPortSilence p, 1), (.korrelLossOfLock p, 3)], Runs c.1 s [.korrel, .regs, .host, .sent, .reports] (fun b =>
            portState b p = 3 ∧ others b ∧ getF b R.KLK_PORT_LOSS.cause p = c.2 ∧ (kport b p).losses = [b0.now]
              ∧ getF b R.KLK_PORT_LOSS.count p = min (getF b0 R.KLK_PORT_LOSS.count p + 1) 255
              ∧ b.reports = b0.reports ++ [.port p] ∧ bit (getF b R.IRQ_CAUSE.cause 0) 28 = true))
      ∧ (present = true → state = 0 → Runs (.cageCableRemove p) s [.korrel, .regs] (fun b => flagF b R.KLK_PORT_STATUS.present p = false
          ∧ portState b p = 0 ∧ others b ∧ (kport b p).released = false))
      ∧ Runs (.cageInterrupt p) s [.reports] (fun b => b.reports = b0.reports ++ [.cage p])

/-- Loss of a module, isolation and routes (R280, R285 to R291, R295, R297): a probe is answered, a reply ends its probe, a
module whose probe times out, that every tray in reach reports down, or that a LOSS names is declared lost; a LOSS naming
this module isolates it; isolation holds every port until rejoin. -/
def Obligations.ModuleLoss : Prop :=
  ∀ (m : Nat) (s : State), m < 16384 →
    let b0 := s.body
    let me := moduleIndex b0
    let lost := fun (b : Body) => flagF b R.KLK_ROUTE.lost m = true ∧ .moduleLost m ∈ b.reports
    (∀ p seq, p < 18 → flagF b0 R.KLK_ROUTE.lost m = true → Runs (.korrelProbe p m seq) s [.regs] (fun b =>
        getF b R.KLK_LOSS_LOG.dropped (portDie p) = min (getF b0 R.KLK_LOSS_LOG.dropped (portDie p) + 1) (2 ^ 16 - 1)
          ∧ RegsBut [R.KLK_LOSS_LOG.dropped] (portDie p) b0 b))
      ∧ (∀ p seq, p < 18 → flagF b0 R.KLK_ROUTE.lost m = false → portLive b0 p = true → (kport b0 p).waiting = [] →
          (kport b0 p).s0.unacked = [] → 0 < getF b0 R.KLK_PORT_CREDIT.held (p * 8) →
          Runs (.korrelProbe p m seq) s [.korrel, .regs, .sent] (fun b => ∃ k a0 a1 cs, b.sent = .korrel p k a0 a1 cs :: b0.sent
            ∧ k.ftype = 5 ∧ k.destModule = m ∧ k.srcModule = me ∧ k.body = [seq] ∧ k.seq = (kport b0 p).s0.next))
      ∧ (∀ seq, Runs (.korrelProbeReply m seq) s [.korrel] (fun b => (∀ q, q ∈ b.korrel.probes → ¬ (q.moduleIx = m ∧ q.seq = seq))
          ∧ (∀ q, q ∈ b0.korrel.probes → ¬ (q.moduleIx = m ∧ q.seq = seq) → q ∈ b.korrel.probes) ∧ b.korrel.ports = b0.korrel.ports))
      ∧ (b0.flock.ownReport = none → m ≠ me → flagF b0 R.KLK_ROUTE.lost m = false →
          (∀ q, q ∈ b0.korrel.probes → q.moduleIx = m → RunsS (.probeTimeout m) s (fun t => lost t.body))
            ∧ (∀ tray q, tray < 6 → q ∈ switchPorts → portUp b0 q = true →
              (∀ r, r ∈ switchPorts → portUp b0 r = true → trayOf r = tray ∨ SMap.get b0.korrel.notices 0 (trayOf r * 16384 + m) = 1) →
              RunsS (.korrelNotice tray m false) s (fun t => lost t.body))
            ∧ (∀ (h : TelHead) (x : LossBody), isolated b0 = false → flagF b0 R.KLK_ROUTE.lost h.nbr = false → h.crcOk = true → h.level ≤ 1 →
              SMap.get b0.flock.rxAlive none (6 * 16384 + h.nbr) = none → x.lost = m → RunsS (.telegramLoss h x) s (fun t => lost t.body)))
      ∧ (∀ tray q, tray < 6 → q ∈ switchPorts → portUp b0 q = true → trayOf q = tray → Runs (.korrelNotice tray m true) s [.korrel] (fun b =>
          SMap.get b.korrel.notices 0 (tray * 16384 + m) = 2 ∧ b.korrel.ports = b0.korrel.ports ∧ b.korrel.probes = b0.korrel.probes))
      ∧ (∀ (h : TelHead) (x : LossBody), isolated b0 = false → flagF b0 R.KLK_ROUTE.lost h.nbr = false → h.crcOk = true → h.level ≤ 1 →
          SMap.get b0.flock.rxAlive none (6 * 16384 + h.nbr) = none → x.lost = me → RunsS (.telegramLoss h x) s (fun t =>
            isolated t.body = true ∧ .falseDeclared ∈ t.body.reports ∧ flagF t.body R.TLY_STROKE_CTRL.enable 0 = false
              ∧ ∀ d, d < 4 → flagF t.body R.KLK_DIE_STATUS.false_declared d = true))
      ∧ (isolated b0 = false → RunsS .klkIsolate s (fun t => (∀ d, d < 4 → flagF t.body R.KLK_DIE_STATUS.isolated d = true)
          ∧ (∀ p, p < 18 → portState t.body p = 7) ∧ .isolated ∈ t.body.reports ∧ t.body.flock.runOpen = false))
      ∧ (isolated b0 = true → Runs .klkIsolate s [] (fun b => b = b0))
      ∧ (∀ n, n < 4 → flagF b0 R.KLK_DIE_STATUS.isolated n = true → Runs (.klkRejoin n) s [.korrel, .regs] (fun b =>
          flagF b R.KLK_DIE_STATUS.isolated n = false ∧ ∀ p, p < 18 → portDie p = n → portState b p =
            (if flagF b0 R.KLK_PORT_STATUS.present p && !flagF b0 R.KLK_PORT_STATUS.power_refused p && flagF b0 R.KLK_PORT_CTRL.enable p
             then 1 else 0)))
      ∧ (∀ kind pair clear, kind < 4 → pair < 3 → Runs (.routeWrite m kind pair clear) s [.regs] (fun b =>
          getF b R.KLK_ROUTE.kind m = kind ∧ getF b R.KLK_ROUTE.pair m = pair
            ∧ flagF b R.KLK_ROUTE.lost m = (flagF b0 R.KLK_ROUTE.lost m && !clear)
            ∧ RegsBut [R.KLK_ROUTE.kind, R.KLK_ROUTE.pair, R.KLK_ROUTE.lost] m b0 b))

/-- Pairing, filling and return, as the active Shepherd carries them out (R305, R314, R318, R319, R324, R325, R330): notes of
pairs are kept and dropped, a pair is armed once both copies are done and then mirrors every stack, a fill follows its
order, copy and release, the seat names the stand-in's stroke and waits for every member, and a module that returns is
answered and carries traffic again. -/
def Obligations.PairingAndReturn : Prop :=
  ∀ (m : Nat) (s : State), m < 16384 → shepherdActive s.body = true →
    let b0 := s.body
    let me := moduleIndex b0
    let notes := b0.fail.notes
    let told := fun (b : Body) (dest cls : Nat) (ws : List Nat) => ∃ a, .shepherdFrame dest cls (a :: ws) ∈ b.sent
    let out : List Part := [.sent, .host, .fabric, .korrel, .regs]
    (∀ q, q < 16384 → Runs (.pairNote m q 3) s [.fail] (fun b =>
        b.fail = { b0.fail with notes := notes.filter (fun x => x.1 != m) ++ [(m, q)] }))
      ∧ (∀ q, q < 16384 → q ≠ me → Runs (.pairNote m q 0) s [.fail] (fun b =>
          b.fail = { b0.fail with notes := notes.filter (fun x => x.1 != m && x.2 != m) }))
      ∧ (∀ r, me < 16384 → b0.fail.pair = some r → r.partner = m → b0.fail.sentPushed = false → Runs (.pairNote m me 2) s [.fail] (fun b =>
          b.fail = { b0.fail with gotPushed := true }))
      ∧ (∀ r, me < 16384 → b0.fail.pair = some r → r.partner = m → b0.fail.sentPushed = true → b0.fail.pairState = 1 →
          Runs (.pairNote m me 2) s (.fail :: out) (fun b => b.fail.pairState = 2 ∧ (me, m) ∈ b.fail.notes
            ∧ ∀ k, k < 12 → flagF b R.MEM_MIR_CFG.enable k = true ∧ getF b R.MEM_MIR_CFG.partner k = m))
      ∧ (∀ r, b0.fail.pair = some r → r.partner = m → m ≠ me → b0.fail.pairState = 1 → b0.fail.sentPushed = false → b0.fail.gotPushed = false →
          flagF b0 R.KLK_ROUTE.lost m = false → Runs .pairRangeCopyComplete s (.fail :: out) (fun b => b.fail = { b0.fail with sentPushed := true }
            ∧ told b m 1 [3, me, m, 2] ∧ ∀ x, x ∈ r.ranges → .copy m x.1 (x.1 + 0xA00000000) x.2 ∈ b.sent))
      ∧ (∀ lost spare, joined b0 = true → spare ≠ me → Runs (.fillOrder lost m spare) s [.fail] (fun b =>
          b.fail.fill = some ⟨lost, m, spare⟩ ∧ spare ∈ b.fail.usedSpares))
      ∧ (∀ lost, joined b0 = true → RunsS (.fillOrder lost m me) s (fun t => t.body.flock.filling = true
          ∧ t.body.flock.runOpen = true ∧ t.body.fail.fill = some ⟨lost, m, me⟩ ∧ flagF t.body R.MEM_COMMIT_CTRL.hold 0 = true))
      ∧ (∀ f rs, b0.fail.fill = some f → f.standin = me → f.spare ≠ me → b0.fail.mirroring = true → flagF b0 R.KLK_ROUTE.lost f.spare = false →
          (∀ r, r ∈ b0.fail.held → coversAll rs (r.1 - 0xA00000000, r.2) = true) → Runs (.fillCopyComplete rs) s out (fun b => told b f.spare 1 [5, f.lost]
            ∧ ∀ x, x ∈ rs → .copy f.spare (x.1 + 0xA00000000) x.1 x.2 ∈ b.sent))
      ∧ (∀ f, b0.fail.fill = some f → b0.flock.filling = true → Runs (.fillCopied f.lost) s [.regs] (fun b =>
          flagF b R.MEM_COMMIT_CTRL.hold 0 = false ∧ RegsBut [R.MEM_COMMIT_CTRL.hold] 0 b0 b))
      ∧ (∀ f addr len, b0.fail.fill = some f → b0.flock.filling = true → flagF b0 R.MEM_COMMIT_CTRL.hold 0 = false →
          let r := readPlanImage addr len s
          planChecks r.1.1 len r.1.2.isEmpty (some f.lost) r.2.body.flock.planLevel addr (setF r.2.body R.TLY_STROKE_STATUS.state 0 0) = none →
          RunsS (.standinLoadComplete addr len) s (fun t => t.body.flock.filling = false ∧ t.mem = s.mem
            ∧ t.body.fail.standPlan = some (planOf r.1.1 addr len)))
      ∧ (∀ f, b0.fail.fill = some f → isSeat b0 = true → Runs (.fillDone f.lost) s (.fail :: .flock :: out) (fun b =>
          let st := getF b0 R.TLY_STROKE_NUM.stroke 0 + 2
          b.fail.switch = some ⟨st, f.lost, f.spare, 2⟩ ∧ ∃ l, b.flock.seatWait = some (st, l)
            ∧ ∀ x, x ∈ otherMembers b0 → x ≠ f.lost → x ∈ l ∧ told b x 1 [7, st, f.lost, f.spare, 2]))
      ∧ (∀ st lost by_ kind, Runs (.standin st lost by_ kind) s (.fail :: out) (fun b =>
          b.fail = { b0.fail with switch := some ⟨st, lost, by_, kind⟩ }
            ∧ (seatIx b0 ≠ me → flagF b0 R.KLK_ROUTE.lost (seatIx b0) = false → told b (seatIx b0) 1 [8, st, me])))
      ∧ (∀ st l, b0.flock.seatWait = some (st, l) → b0.flock.timerDue = false → Runs (.standinAck st m) s [.flock] (fun b =>
          b.flock = { b0.flock with seatWait := some (st, l.filter (· != m)) }))
      ∧ (∀ role, joined b0 = true → Runs (.returnI m role b0.flock.flockId b0.flock.listCrc) s (.fail :: .flock :: out) (fun b =>
          flagF b R.KLK_ROUTE.lost m = false ∧ told b m 2 [2, role, b0.flock.flockId, b0.flock.listCrc, me, 0]))
      ∧ (∀ role fl crc, joined b0 = false → Runs (.returnI m role fl crc) s out (fun b => told b m 2 [2, role, fl, crc, me, 1]))
      ∧ (∀ r, b0.fail.returning = some r → m ∈ r.left → m ≠ seatIx b0 → Runs (.returnAck m 0) s [.fail, .regs] (fun b =>
          flagF b R.KLK_ROUTE.lost m = false ∧ b.fail = { b0.fail with returning := some { r with left := r.left.filter (· != m) } }
            ∧ RegsBut [R.KLK_ROUTE.lost] m b0 b))
      ∧ (∀ r, b0.fail.returning = some r → Runs .returnRepeat s out (fun b =>
          ∀ x, x ∈ r.left → told b x 2 [1, r.role, r.flock, r.crc, me, 0]))
      ∧ (∀ r, b0.fail.returning = some r → Runs .returnTimeout s [.fail, .logbook] (fun b => b.fail = { b0.fail with returning := none }))

/-- Reports of faults, replay and abort (R298, R304 to R310, R313, R314, R328): a report that costs the module a stack makes it
leave its flock, an uncorrectable unit that its pair covers is written again from the partner's copy, a fault of the run
is asked of the seat, which replays from the stroke after the last good one; an abort ends the run. -/
def Obligations.ReplayAndAbort : Prop :=
  ∀ s : State, shepherdActive s.body = true →
    let b0 := s.body
    let fl := b0.flock
    let asked := fun (b : Body) (cls : Nat) => ∃ a, .shepherdFrame (seatIx b0) 1
      [a, 1, getF b0 R.TLY_STROKE_NUM.stroke 0, fl.good, cls, cond fl.inReplay 1 0, moduleIndex b0] ∈ b.sent
    let seatReached := flagF b0 R.KLK_ROUTE.lost (seatIx b0) = false
    (∀ copy, b0.reports = [] → Runs (.faultReport copy) s [] (fun b => b = b0))
      ∧ (∀ copy k, b0.reports = [.stackLoss k] → joined b0 = true → RunsS (.faultReport copy) s (fun t => isolated t.body = true
          ∧ t.body.fail.mustReset = true ∧ flagF t.body R.TLY_STROKE_CTRL.enable 0 = false ∧ t.body.flock.runOpen = false
          ∧ ∃ r, r ∈ t.body.fail.records ∧ r.cls = 0x13 ∧ r.action = 5 ∧ r.seq = b0.fail.lastSeq + 1))
      ∧ (∀ copy, b0.reports = [.outOfStep] → fl.runOpen = true → isSeat b0 = false → seatIx b0 ≠ moduleIndex b0 → seatReached →
          Runs (.faultReport copy) s [.reports, .fail, .sent, .host, .fabric, .korrel, .regs] (fun b => b.reports = [] ∧ asked b 0x17
            ∧ ∃ r, b.fail.opens = b0.fail.opens ++ [(r, b0.now)] ∧ r.cls = 0x17 ∧ r.action = 1 ∧ r.replayed = true))
      ∧ (∀ copy k u, b0.reports = [.stackUnit k (u * 32) false] → covered b0 (u * 32) = true → copy.length = 32 → fl.runOpen = true →
          isSeat b0 = false → seatIx b0 ≠ moduleIndex b0 → seatReached → RunsS (.faultReport copy) s (fun t => asked t.body 0x14
            ∧ SMap.get t.body.badStack [] u = []
            ∧ ∀ a, memGet t.mem a = (if u * 32 ≤ a ∧ a < u * 32 + 32 then copy.getD (a - u * 32) 0 else memGet s.mem a)))
      ∧ (∀ copy p, b0.reports = [.miscabled p] → powered b0 = true → Runs (.faultReport copy) s [.reports, .logbook, .fail] (fun b =>
          b.reports = [] ∧ b.fail = b0.fail ∧ b.logbook.nextSeq = b0.logbook.nextSeq + 1))
      ∧ (∀ (h : TelHead) (x : StartBody) k, isolated b0 = false → flagF b0 R.KLK_ROUTE.lost h.nbr = false → h.crcOk = true → h.level ≤ 1 →
          SMap.get fl.rxAlive none (16384 + h.nbr) = none → flagF b0 R.TLY_STROKE_CTRL.enable 0 = true → flagF b0 R.TLY_SEAT.valid 0 = true →
          h.flock = fl.flockId → rankIn b0 h.sender ≤ rankIn b0 (seatIx b0) → fl.runOpen = true → kindOf b0 x.kind = some k →
          fl.barred = false → x.replayClass ≠ 0x20 → commitRuns b0 = true → RunsS (.replayStart h x) s (fun t => t.mem = s.mem
            ∧ t.body.flock.inReplay = true ∧ t.body.flock.prepAfter = true ∧ t.body.flock.warnRaised = false
            ∧ t.body.flock.startSeen = some ⟨{ x with arm := false, replay := true }, h.stroke,
              b0.now + x.warnDelayUs * 1000 - getF b0 R.TLY_SEAT_DELAY.d_ns 0⟩))
      ∧ (∀ m st g cls o, m < 16384 → st < 2 ^ 48 → g < 2 ^ 48 → cls ≠ 0x30 → isSeat b0 = true → fl.runOpen = true → fl.inReplay = false →
          commitRuns b0 = true →
          let r := max (fl.commitFor.getD fl.good + 1) fl.nextStroke
          originalStart b0 r = some o → RunsS (.replayRequest m st g cls false) s (fun t => t.body.flock.inReplay = true
            ∧ ∃ w, t.body.flock.startSeen = some w ∧ w.stroke = r ∧ w.body.replay = true ∧ w.body.replayClass = cls
              ∧ w.body.kind = (if (pairInForce b0 r).isSome then pairKind b0 fl.origKind else fl.origKind)))
      ∧ (∀ m st g cls, m < 16384 → st < 2 ^ 48 → g < 2 ^ 48 → isSeat b0 = false → Runs (.replayRequest m st g cls false) s [] (fun b => b = b0))
      ∧ (∀ st cls origin, joined b0 = true → b0.fail.repairs = [] → b0.badStack = [] → RunsS (.abortI st cls origin) s (fun t => t.body.fail.aborted = true
          ∧ t.body.flock.runOpen = false ∧ t.body.flock.inFlight = none ∧ getF t.body R.TLY_STROKE_STATUS.state 0 = 0
          ∧ flagF t.body R.TLY_STROKE_CTRL.enable 0 = true ∧ t.body.fail.fill = none
          ∧ ∀ a, inStaging b0 a 1 = false → memGet t.mem a = memGet s.mem a))
      ∧ (∀ st cls origin, joined b0 = false → Runs (.abortI st cls origin) s [] (fun b => b = b0))

/-- The power path (R334, R335, R338, R349, R351 to R355, R358, R364, R392, R649): presence and pre-charge lead to a closed
switch, the bus starts, the pack is checked and connected, the rails start; an input trip opens the switch and a module that
runs goes on from storage until the input is back; the pack opens on command, at a pull and when the supply stops. -/
def Obligations.PowerSequence : Prop :=
  ∀ (s : State),
    let b0 := s.body
    let p := b0.cox.path
    let now := power b0
    let stp := getF b0 R.STP_STATUS.state 0
    let lost := fun (u : State) => u.body.cox.path.switch = 0 ∧ u.body.cox.path.inputAbsent = true ∧ u.body.cox.path.cellsRun = false
      ∧ flagF u.body R.LDG_STATUS.absent 0 = true ∧ bit (getF u.body R.IRQ_CAUSE.cause 0) 22 = true
      ∧ power u.body = (if now = 6 ∨ now = 7 ∨ (now = 5 ∧ stp = 2) then 8 else if now = 1 ∧ p.housekeeping = false then 0 else now)
    let same := fun c => Runs c s [] (fun b => b = b0)
    let path := fun c (q : PowerPath) => Runs c s [.cox] (fun b => b.cox = { b0.cox with path := q })
    let tripped := fun code (past : Nat → Prop) c => now ≠ 0 → now ≠ 9 → p.inputAbsent = false →
      (past (tripThreshold b0 code) → RunsS c s lost) ∧ (¬ past (tripThreshold b0 code) → same c)
    path .presenceClose { p with presence := true }
      ∧ (now = 0 → p.presence = true → p.ocLatched = false → RunsS .prechargeStart s (fun u => power u.body = 1
          ∧ u.body.cox.path = { p with switch := 1, pulled := false, inputAbsent := false }))
      ∧ (now ≠ 0 ∨ p.presence = false ∨ p.ocLatched = true → same .prechargeStart)
      ∧ (p.switch = 1 → now = 1 → RunsS .prechargeComplete s (fun u => power u.body = 2
          ∧ u.body.cox.path = { p with switch := 2, inputAbsent := false }))
      ∧ (p.switch = 1 → now = 8 → p.inputAbsent = true → p.removedCells = [] → p.moduleStop = false →
          RunsS .prechargeComplete s (fun u => power u.body = (if stepIsDone b0 6 then 7 else 6) ∧ u.body.cox.path.inputAbsent = false
            ∧ u.body.cox.path.switch = 2 ∧ u.body.cox.path.cellsRun = true ∧ flagF u.body R.LDG_STATUS.absent 0 = false))
      ∧ (p.switch ≠ 1 → same .prechargeComplete ∧ ∀ mv, same (.prechargeFail mv))
      ∧ (∀ mv, p.switch = 1 → now ≠ 9 → RunsS (.prechargeFail mv) s lost)
      ∧ (∀ v, tripped 1 (fun t => (t : Int) < v) (.inputOv v) ∧ tripped 2 (fun t => v < (t : Int)) (.inputUv v)
          ∧ tripped 3 (fun t => (t : Int) < v) (.inputOc v))
      ∧ (p.inputAbsent = true → p.ocLatched = false → p.presence = true → now ≠ 0 → now ≠ 9 → path .inputReturn { p with switch := 1 })
      ∧ (now = 2 → shepherdActive b0 = true → stepIsDone b0 2 = true → p.moduleStop = false → p.checkFailed = false →
          (p.removedCells.length < 3 → RunsS .busStart s (fun u => power u.body = 3 ∧ u.body.cox.path.cellsRun = true
              ∧ ∀ e, e < 20 → flagF u.body R.COX_CTRL.engine_en e = true))
            ∧ (3 ≤ p.removedCells.length → RunsS .busStart s (fun u => power u.body = 10 ∧ flagF u.body R.SHP_STARTUP.failed 0 = true)))
      ∧ (∀ r ∈ [(Instr.packCheck, false), (.packCheckRetry, true)], now = 4 → shepherdActive b0 = true → p.checkTried = r.2 →
          (ringItem b0 = true → temperatureItem b0 = true → faultItem b0 = none → RunsS r.1 s (fun u => power u.body = 5
              ∧ stepIsDone u.body 4 = true
              ∧ u.body.cox.path.recovery = (List.range 32).any (fun i => decide (lowerReading b0 i < 25000))))
            ∧ (∀ i, ringItem b0 = true → temperatureItem b0 = true → faultItem b0 = some i → RunsS r.1 s (fun u => power u.body = 11
              ∧ flagF u.body R.STP_STATUS.pack_fault 0 = true ∧ flagF u.body R.SHP_STARTUP.failed 0 = true))
            ∧ (ringItem b0 = false ∨ temperatureItem b0 = false → (r.2 = false → path r.1 { p with checkTried := true })
              ∧ (r.2 = true → RunsS r.1 s (fun u => power u.body = 10 ∧ u.body.cox.path.checkFailed = true))))
      ∧ (now = 5 → shepherdActive b0 = true → stp = 0 → flagF b0 R.STP_STATUS.pack_fault 0 = false → p.packOff = false → RunsS .stpClose s (fun u =>
          getF u.body R.STP_STATUS.state 0 = 1 ∧ flagF u.body R.STP_CTRL.close 0 = true ∧ flagF u.body R.STP_CTRL.port_en 0 = true))
      ∧ (now ≠ 5 ∨ flagF b0 R.STP_STATUS.pack_fault 0 = true ∨ shepherdActive b0 = false → same .stpClose)
      ∧ (∀ mv, stp = 1 → shepherdActive b0 = true → mv < 2 ^ 17 →
          (mv ≤ sweepSum b0 + 2000 ∧ sweepSum b0 ≤ mv + 2000 → p.recovery = false → Runs (.contactorCloseConfirm true true mv) s [.regs] (fun b =>
              getF b R.STP_STATUS.state 0 = 2 ∧ getF b R.STP_PACK_V.mv 0 = mv ∧ flagF b R.STP_STATUS.aux_pos 0 = true
                ∧ flagF b R.STP_STATUS.aux_neg 0 = true
                ∧ RegsBut [R.STP_STATUS.state, R.STP_PACK_V.mv, R.STP_STATUS.aux_pos, R.STP_STATUS.aux_neg] 0 b0 b))
            ∧ (sweepSum b0 + 2000 < mv ∨ mv + 2000 < sweepSum b0 → RunsS (.contactorCloseConfirm true true mv) s (fun u =>
              power u.body = 11 ∧ getF u.body R.STP_STATUS.state 0 = 0 ∧ flagF u.body R.STP_STATUS.pack_fault 0 = true)))
      ∧ RunsS .stpOpen s (fun u => getF u.body R.STP_STATUS.state 0 = 0 ∧ flagF u.body R.STP_CTRL.close 0 = false ∧ power u.body = now)
      ∧ (stp = 0 ∨ stp = 3 → Runs .stpDischargeCap s [.regs, .free] (fun b => getF b R.STP_PACK_V.mv 0 < 10000
          ∧ RegsBut [R.STP_PACK_V.mv] 0 b0 b))
      ∧ (p.recovery = true → stp = 2 → (∀ i, i < 32 → 25000 ≤ lowerReading b0 i) → Runs .recoveryChargeComplete s [.cox, .regs] (fun b =>
          b.cox.path = { p with recovery := false } ∧ getF b R.COX_PG_TARGET.target (pix 17 1) = bfRat 0 1))
      ∧ (∀ ma, now ≠ 0 → now ≠ 9 → RunsS (.presenceLost ma) s (fun u => power u.body = 9 ∧ u.body.cox.path.presence = false
          ∧ u.body.cox.path.switch = 0 ∧ u.body.cox.path.cellsRun = false ∧ getF u.body R.STP_STATUS.state 0 = 0))
      ∧ (∀ ma, now = 0 ∨ now = 9 → path (.presenceLost ma) { p with presence := false })
      ∧ (now ≠ 0 → RunsS .housekeepingSupplyStop s (fun u => power u.body = 0 ∧ getF u.body R.STP_STATUS.state 0 = 0
          ∧ getF u.body R.SHP_STATUS.a_state 0 = 0 ∧ getF u.body R.SHP_STATUS.b_state 0 = 0 ∧ u.body.logbook.queue = []))
      ∧ (now = 5 → stp = 2 → p.recovery = false → shepherdActive b0 = true → RunsS .railsStartHandover s (fun u =>
          (power u.body = 6 ∨ power u.body = 7) ∧ stepIsDone u.body 5 = true
            ∧ getF u.body R.COX_LOOP_REF_STATIC.ref (lix 17 0) = bfRat 54 1 ∧ getF u.body R.COX_LOOP_CFG.pg (lix 16 0) = 0))
      ∧ (now ≠ 5 → same .railsStartHandover)
      ∧ (∀ mv, let ab := (260000 ≤ mv ∧ mv < 360000) ∨ (400000 < mv ∧ mv ≤ 410000)
          (ab → p.abnormal = false → Runs (.inputAbnormal mv) s [.cox, .logbook] (fun b => b.cox.path = { p with abnormal := true }))
            ∧ (ab → p.abnormal = true → same (.inputAbnormal mv)) ∧ (¬ ab → path (.inputAbnormal mv) { p with abnormal := false }))

/-- Protection (R342 to R345, R348, R359 to R362): a bus trip stops the module, a trip of the pack opens it and takes the
module to no_pack, a trip of a block stops that block once, each latches its bit and raises vector 22; with a converter cell
removed the module goes on while three are left; bus-low reaches every engine. -/
def Obligations.Protection : Prop :=
  ∀ (s : State) (v : Int),
    let b0 := s.body
    let p := b0.cox.path
    let now := power b0
    let same := fun c => Runs c s [] (fun b => b = b0)
    let path := fun c (q : PowerPath) => Runs c s [.cox] (fun b => b.cox = { b0.cox with path := q })
    let noted := fun code (u : State) => bit u.body.cox.path.tripped (code - 1) = true ∧ bit (getF u.body R.IRQ_CAUSE.cause 0) 22 = true
    let stops := fun code (past : Nat → Prop) c => 3 ≤ now → now ≠ 9 → p.moduleStop = false →
      (past (tripThreshold b0 code) → RunsS c s (fun u => noted code u ∧ power u.body = 10 ∧ u.body.cox.path.moduleStop = true
          ∧ u.body.cox.path.cellsRun = false ∧ ∀ e l, e < 16 → l < 4 → getF u.body R.COX_LOOP_MODE.mode (lix e l) = 0))
        ∧ (¬ past (tripThreshold b0 code) → same c)
    let opens := fun code c st => RunsS c s (fun u => noted code u ∧ u.body.cox.path.packOff = true
      ∧ getF u.body R.STP_STATUS.state 0 = st ∧ power u.body = (if 4 ≤ now ∧ now ≤ 8 then 11 else now))
    let blocks := fun code (past : Prop) (blk : PowerBlock) c => 3 ≤ now → stepIsDone b0 6 = true → p.moduleStop = false →
      (past → p.blocks.contains blk = false → RunsS c s (fun u => noted code u ∧ u.body.cox.path.blocks = p.blocks ++ [blk]
          ∧ power u.body = now))
        ∧ (past → p.blocks.contains blk = true → RunsS c s (fun u => noted code u ∧ u.body.cox.path.blocks = p.blocks))
        ∧ (¬ past → same c)
    stops 6 (fun t => (t : Int) < v) (.busOv v) ∧ stops 7 (fun t => v < (t : Int)) (.busUv v)
      ∧ (now ≠ 9 → (tripThreshold b0 8 < v.natAbs → opens 8 (.portOc v) 0) ∧ ((tripThreshold b0 9 : Int) < v → opens 9 (.portOt v) 0))
      ∧ (v.natAbs ≤ tripThreshold b0 8 → same (.portOc v)) ∧ (v ≤ (tripThreshold b0 9 : Int) → same (.portOt v))
      ∧ (∀ k, now ≠ 9 → k * 1000 < tripThreshold b0 0x10 → p.lowInsulation = 9 → opens 0x10 (.packInsulation k) 0)
      ∧ (∀ k, k * 1000 < tripThreshold b0 0x10 → p.lowInsulation < 9 → Runs (.packInsulation k) s [.regs, .cox] (fun b =>
          getF b R.STP_INSULATION.kohm 0 = min k 65535 ∧ b.cox.path = { p with lowInsulation := p.lowInsulation + 1 }))
      ∧ (∀ pos neg, pos = true ∨ neg = true → getF b0 R.STP_STATUS.state 0 = 0 → now ≠ 9 → opens 0x11 (.contactorWeld pos neg) 4)
      ∧ (∀ d, d < 16 → blocks 0x0A True (.ratio d) (.ratioFault d v)
          ∧ blocks 0x0B ((tripThreshold b0 0x0B : Int) < v) (.ratio d) (.ratioOc d v)
          ∧ blocks 0x0F ((tripThreshold b0 0x0F : Int) < v) (.die d) (.dieOt d v))
      ∧ (∀ e l blk, e < 20 → l < 16 → slotBlock e l = some blk →
          blocks 0x0C (loopMode b0 e l ≠ 0 ∧ (tripThreshold b0 0x0C : Int) < v * 1000) blk (.railOv e l v)
            ∧ blocks 0x0D (loopMode b0 e l ≠ 0 ∧ (tripThreshold b0 0x0D : Int) < v * 1000) blk (.railUv e l v)
            ∧ blocks 0x0E (min 2 (railPhases e l) ≤ removedCount b0 e l ∧ 0 < railPhases e l) blk (.phaseLoss e l v))
      ∧ (∀ i, i < 5 → (p.removedCells.contains i = true → same (.converterCell i v))
          ∧ (p.removedCells.contains i = false → p.inputAbsent = true ∨ p.removedCells.length = 0 → RunsS (.converterCell i v) s (fun u =>
              noted 5 u ∧ u.body.cox.path.removedCells = p.removedCells ++ [i] ∧ power u.body = now))
          ∧ (p.removedCells.contains i = false → p.inputAbsent = false → p.removedCells.length = 1 → p.selfCap = false →
              getF b0 R.COX_CAP.cap_w 16 = 0 → 8400 < getF b0 R.LDG_LEVEL.level_w 0 → RunsS (.converterCell i v) s (fun u =>
              noted 5 u ∧ u.body.cox.path.selfCap = true ∧ getF u.body R.COX_CAP.cap_w 16 = 8400 ∧ power u.body = now))
          ∧ (p.removedCells.contains i = false → p.inputAbsent = false → p.removedCells.length = 2 → p.moduleStop = false →
              RunsS (.converterCell i v) s (fun u => u.body.cox.path.moduleStop = true ∧ power u.body = 10)))
      ∧ (∀ e l ph, e < 20 → l < 16 → ph < railPhases e l →
          let key := if (e < 16 ∧ l < 2) ∨ e = 17 then ph else railOf e l * 16 + ph
          Runs (.phaseRemove e l ph) s [.cox, .regs] (fun b => (engine b e).removed
            = if key ∈ (engine b0 e).removed then (engine b0 e).removed else (engine b0 e).removed ++ [key]))
      ∧ (∀ mv, path (.busCellStop mv) { p with cellsHalted := if 58000 < mv then true else if mv < 56500 then false else p.cellsHalted })
      ∧ (∀ r ∈ [(Instr.busLowAssert, true), (.busLowRelease, false)], RunsS r.1 s (fun u => u.body.cox.path = { p with busLow := r.2 }
          ∧ (∀ e, e < 20 → flagF u.body R.COX_STATUS.bus_low e = r.2) ∧ power u.body = now))
/-- The loops of the Cox engines (R367, R372, R374, R396 to R402, R405, R406): a period in manual moves the output toward the
manual value within the clamps, one in auto adds the proportional, integral, derivative and feedforward terms, clamps their
sum and integrates unless it pushes against a clamp; saturation, an implausible feedback and a frozen sample act as the loop's
kind says; a mode is written by the engine's Shepherd alone. -/
def Obligations.CoxLoops : Prop :=
  ∀ (e l : Nat) (x : LoopSample) (s : State), e < 20 → l < 16 →
    let b0 := s.body
    let i := lix e l
    let q := loop b0 e l
    let fb := nth x.primary 0
    let w := fun n : Nat => n % 2 ^ 32
    let same := fun c => Runs c s [] (fun b => b = b0)
    let steady := engineRuns b0 e = true ∧ slotPresent b0 e l = true ∧ x.mismatch = false ∧ x.fresh = true ∧ x.delay ≤ 550
      ∧ flagF b0 R.COX_LOOP_CFG.sense_fallback i = false ∧ q.held = none ∧ e ≠ 16 ∧ e ≠ 17 ∧ loopKind b0 e l = 0
    let delays := [R.COX_LOOP_DELAY.last, R.COX_LOOP_DELAY.min, R.COX_LOOP_DELAY.max]
    let lo := clampLo b0 e l
    let hi := clampHi b0 e l x.inputQ
    let stopped := fun (k : PowerBlock) (u : State) => k ∈ u.body.cox.path.blocks ∨ u.body.cox.path.moduleStop = true
    (engineRuns b0 e = false ∨ slotPresent b0 e l = false → same (.loopPeriod e l x))
      ∧ (steady → loopMode b0 e l = 0 → Runs (.loopPeriod e l x) s [.cox, .regs] (RegsBut delays i b0))
      ∧ (steady → loopMode b0 e l = 1 → Runs (.loopPeriod e l x) s [.cox, .regs] (fun b =>
          getF b R.COX_LOOP_OUT.out i = w (bfClamp (towardValue (getF b0 R.COX_LOOP_OUT.out i) (getF b0 R.COX_LOOP_MANUAL.manual i)
            (getF b0 R.COX_LOOP_SLEW.slew i)) lo hi)
          ∧ getF b R.COX_LOOP_FB.fb i = w fb ∧ getF b R.COX_LOOP_MODE.state i = 1
          ∧ RegsBut (delays ++ [R.COX_LOOP_OUT.out, R.COX_LOOP_FB.fb, R.COX_LOOP_MODE.state]) i b0 b))
      ∧ (steady → loopMode b0 e l = 2 → q.preset = none → q.taking = none → getF b0 R.COX_LOOP_CFG.group i = 0 →
          let r := getF b0 R.COX_REGION.region i
          4 * (regionStep b0 e l x.inputQ).1 + (regionStep b0 e l x.inputQ).2 = r → r < 16 →
          let ei := getF b0 R.COX_LOOP_EXP.exp_int i
          let eo := getF b0 R.COX_LOOP_EXP.exp_out i
          let g := gainsOf b0 e l r
          let ref := (loopRef b0 e l).1
          let err := (sSub (getF b0 R.COX_LOOP_EXP.exp_err i) ref fb).1
          let pd := pdTerms eo (getF b0 R.COX_LOOP_EXP.exp_der i) g err q.d q.fbPrev fb
          let integ := getF b0 R.COX_LOOP_INT.integ i
          let sum := (sAdd eo (sAdd eo pd.1.1 integ).1 (sAdd eo pd.2.1 (ffStep b0 e l).1).1).1
          let out := bfClamp (sAdd eo sum q.residue).1 lo hi
          let di := (sMul ei g.ki err).1
          let push := (bfZ out = bfZ hi ∧ 0 < bfM di) ∨ (bfZ out = bfZ lo ∧ bfM di < 0)
          Runs (.loopPeriod e l x) s [.cox, .regs] (fun b => getF b R.COX_LOOP_OUT.out i = w out
            ∧ (push → getF b R.COX_LOOP_INT.integ i = w integ)
            ∧ (¬ push → getF b R.COX_LOOP_INT.integ i
                = w (bfClamp (sAdd ei integ di).1 (getF b0 R.COX_LOOP_INT_LO.int_lo i) (getF b0 R.COX_LOOP_INT_HI.int_hi i)))
            ∧ getF b R.COX_LOOP_REF.ref i = w ref ∧ getF b R.COX_LOOP_FB.fb i = w fb
            ∧ getF b R.COX_LOOP_MODE.state i = (if loopSoft b0 e l then 5 else 2) ∧ (loop b e l).d = pd.2.1))
      ∧ (engineRuns b0 e = true → slotPresent b0 e l = true → x.mismatch = true →
          (q.mismatch = false → Runs (.loopPeriod e l x) s [.cox, .regs] (fun b => flagF b R.COX_EVENTS.self_check_mismatch e = true
              ∧ loop b e l = { q with mismatch := true } ∧ RegsBut [R.COX_EVENTS.self_check_mismatch] e b0 b))
            ∧ (q.mismatch = true → RunsS (.loopPeriod e l x) s (fun u => flagF u.body R.COX_STATUS.self_check e = true
              ∧ (e < 16 → stopped (.die e) u) ∧ (e = 16 → u.body.cox.path.inputAbsent = true)
              ∧ (e = 17 → u.body.cox.path.moduleStop = true))))
      ∧ (getF b0 R.COX_LOOP_CFG.sup_sel i % 2 = 1 → loopMode b0 e l = 2 → satLimit b0 e l ≤ getF b0 R.COX_SUP_STATUS.sat_count i →
          RunsS (.satTimeEvent e l) s (fun u => flagF u.body R.COX_LOOP_FLAGS.sat_time i = true
            ∧ (loopKind b0 e l = 0 → ∀ k, slotBlock e l = some k → stopped k u)
            ∧ (loopKind b0 e l = 2 → (engine u.body e).thermalFrozen = true)
            ∧ (loopKind b0 e l = 5 → u.body.cox.path.packOff = true)))
      ∧ (loopMode b0 e l ≠ 2 → same (.satTimeEvent e l) ∧ same (.plausEvent e l) ∧ ∀ m f, same (.frozenSample e l m f))
      ∧ (2 ≤ getF b0 R.COX_LOOP_CFG.sup_sel i → loopMode b0 e l = 2 →
          getF b0 R.COX_SUP_CFG2.plaus_time i ≤ getF b0 R.COX_SUP_STATUS.plaus_count i →
          RunsS (.plausEvent e l) s (fun u => flagF u.body R.COX_LOOP_FLAGS.plaus i = true
            ∧ (loopKind b0 e l = 0 → ∀ k, slotBlock e l = some k → stopped k u)
            ∧ (loopKind b0 e l = 4 → u.body.cox.path.moduleStop = true)
            ∧ (loopKind b0 e l = 5 → u.body.cox.path.packOff = true)))
      ∧ (loopMode b0 e l = 2 → 3 ≤ q.stale → loopSoft b0 e l = false → flagF b0 R.COX_LOOP_CFG.sense_fallback i = false → q.held = none →
          ∀ m, loopKind b0 e l = 0 →
            Runs (.frozenSample e l m true) s [.cox, .regs] (fun b => flagF b R.COX_LOOP_CFG.sense_fallback i = true
                ∧ flagF b R.COX_LOOP_FLAGS.fallback_sense i = true ∧ (loop b e l).held = none)
              ∧ Runs (.frozenSample e l m false) s [.cox, .regs] (fun b => (loop b e l).held = some (meanOut b0 e l)
                ∧ flagF b R.COX_LOOP_FLAGS.frozen i = true ∧ getF b R.COX_LOOP_MODE.state i = 4))
      ∧ (q.held.isSome = true → getF b0 R.COX_SUP_CFG2.frozen_hold i ≤ q.heldFor →
          RunsS (.frozenHoldExpire e l) s (fun u => (loopKind b0 e l = 0 → ∀ k, slotBlock e l = some k → stopped k u)
            ∧ (loopKind b0 e l = 4 → u.body.cox.path.moduleStop = true) ∧ (loopKind b0 e l = 5 → u.body.cox.path.packOff = true)))
      ∧ (q.held = none → same (.frozenHoldExpire e l))
      ∧ (∀ m, getF b0 R.COX_STATUS.writer e = 0 →
          (m ≤ 2 → slotPresent b0 e l = true → e < 16 → Runs (.loopModeWrite .shepherdA e l m) s [.cox, .regs] (fun b =>
              getF b R.COX_LOOP_MODE.mode i = m ∧ (m = 1 → loopMode b0 e l = 2 → getF b R.COX_LOOP_MANUAL.manual i = w (getF b0 R.COX_LOOP_OUT.out i))
                ∧ (m = 2 → loopMode b0 e l = 1 → (loop b e l).preset = some (getF b0 R.COX_LOOP_OUT.out i))
                ∧ RegsBut [R.COX_LOOP_MODE.mode, R.COX_LOOP_MODE.state, R.COX_LOOP_MANUAL.manual, R.COX_LOOP_INT.integ] i b0 b))
            ∧ Runs (.loopModeWrite .shepherdB e l m) s [.regs] (fun b => flagF b R.COX_EVENTS.write_refused e = true
              ∧ RegsBut [R.COX_EVENTS.write_refused] e b0 b)
            ∧ same (.loopModeWrite .hostBar0 e l m))

/-- The generators, shedding, clocks, cap and telemetry of the Cox engines (R377 to R390, R394, R406, R407): a tick moves a
generator within its limits, which wait until it rests; its owner changes only through free; shedding stops the last running
phase below its threshold and a step brings every phase back; a cap and a forced code outside their ranges are discarded. -/
def Obligations.CoxGenerators : Prop :=
  ∀ (e k : Nat) (s : State), e < 20 → k < 8 →
    let b0 := s.body
    let i := pix e k
    let w := fun n : Nat => n % 2 ^ 32
    let same := fun c => Runs c s [] (fun b => b = b0)
    let mine := getF b0 R.COX_STATUS.writer e = 1
    let owner := getF b0 R.COX_PG_CTRL.owner i
    let run := runningPhases b0 e 0
    (∀ r : Nat × Nat × Nat, engineRuns b0 e = true → k ≠ 2 → k ≠ 3 → e = 16 → k ≠ 0 → pgRests b0 e k = true →
        flagF b0 R.COX_PG_CTRL.hold i = false → vfHolds b0 e k = false →
        bfM (getF b0 R.COX_PG_VLIM.v i) ≠ 0 → bfM (getF b0 R.COX_PG_ALIM.a i) ≠ 0 → bfM (getF b0 R.COX_PG_JLIM.j i) ≠ 0 →
        r = pgMove (getF b0 R.COX_PG_POS.x i) (getF b0 R.COX_PG_VEL.v i) (getF b0 R.COX_PG_ACC.a i) (getF b0 R.COX_PG_TARGET.target i)
          (getF b0 R.COX_PG_VLIM.v i) (getF b0 R.COX_PG_ALIM.a i) (getF b0 R.COX_PG_JLIM.j i) (pgH b0 e k) →
        Runs (.pgTick e k) s [.cox, .regs] (fun b => getF b R.COX_PG_POS.x i = w r.1 ∧ getF b R.COX_PG_VEL.v i = w r.2.1
          ∧ getF b R.COX_PG_ACC.a i = w r.2.2
          ∧ pgLim b e k = ⟨getF b0 R.COX_PG_VLIM.v i, getF b0 R.COX_PG_ALIM.a i, getF b0 R.COX_PG_JLIM.j i⟩
          ∧ RegsBut [R.COX_PG_POS.x, R.COX_PG_VEL.v, R.COX_PG_ACC.a, R.COX_PG_CTRL.moving] i b0 b))
      ∧ (engineRuns b0 e = true → e < 16 → k < 2 → flagF b0 R.COX_PG_CTRL.hold i = true → Runs (.pgTick e k) s [.cox, .regs] (fun b =>
          getF b R.COX_PG_POS.x i = w (getF b0 R.COX_PG_POS.x i) ∧ getF b R.COX_PG_VEL.v i = 0 ∧ getF b R.COX_PG_ACC.a i = 0))
      ∧ (engineRuns b0 e = false → same (.pgTick e k))
      ∧ (softStarting b0 e k = true → flagF b0 R.COX_PG_CTRL.hold i = false →
          (e ≠ 16 → stepIsDone b0 6 = true → Runs (.softstartDone e k) s [.cox, .regs] (fun b => flagF b R.COX_PG_CTRL.done i = true
              ∧ RegsBut [R.COX_PG_CTRL.done] i b0 b ∧ ∀ l, l < 16 → loopPg b0 e l = some k → (loop b e l).release = 10))
            ∧ (e = 16 → k = 0 → power b0 = 3 → b0.cox.path.packOff = false → flagF b0 R.STP_STATUS.pack_fault 0 = false →
              RunsS (.softstartDone e k) s (fun u => power u.body = 4 ∧ stepIsDone u.body 3 = true ∧ flagF u.body R.COX_PG_CTRL.done i = true)))
      ∧ (softStarting b0 e k = false → same (.softstartDone e k))
      ∧ (∀ t, mine → Runs (.pgTargetWrite .shepherdB e k t) s [.regs] (fun b => getF b R.COX_PG_TARGET.target i = w t
          ∧ flagF b R.COX_PG_CTRL.done i = false ∧ flagF b R.COX_PG_CTRL.moving i = decide (bfZ t ≠ bfZ (getF b0 R.COX_PG_POS.x i))
          ∧ RegsBut [R.COX_PG_TARGET.target, R.COX_PG_CTRL.done, R.COX_PG_CTRL.moving] i b0 b))
      ∧ (∀ v a j, mine → Runs (.pgLimitWrite .shepherdB e k v a j) s [.regs] (fun b => getF b R.COX_PG_VLIM.v i = w v
          ∧ getF b R.COX_PG_ALIM.a i = w a ∧ getF b R.COX_PG_JLIM.j i = w j
          ∧ RegsBut [R.COX_PG_VLIM.v, R.COX_PG_ALIM.a, R.COX_PG_JLIM.j] i b0 b))
      ∧ (mine → Runs (.pgPreset .shepherdB e k) s [.regs] (fun b => getF b R.COX_PG_POS.x i = w (getF b0 R.COX_PG_PRESET.preset i)
          ∧ getF b R.COX_PG_VEL.v i = 0 ∧ getF b R.COX_PG_ACC.a i = 0
          ∧ RegsBut [R.COX_PG_POS.x, R.COX_PG_VEL.v, R.COX_PG_ACC.a, R.COX_PG_CTRL.moving] i b0 b))
      ∧ (∀ o, mine → o ≤ 5 → o ≠ owner →
          (owner = 0 ∨ o = 0 → Runs (.pgOwnerWrite .shepherdB e k o) s [.regs] (fun b => getF b R.COX_PG_CTRL.owner i = o
              ∧ RegsBut [R.COX_PG_CTRL.owner] i b0 b))
            ∧ (owner ≠ 0 → o ≠ 0 → Runs (.pgOwnerWrite .shepherdB e k o) s [.regs] (fun b => flagF b R.COX_EVENTS.claim_refused e = true
              ∧ RegsBut [R.COX_EVENTS.claim_refused] e b0 b)))
      ∧ (∀ t, ¬ mine → Runs (.pgTargetWrite .shepherdB e k t) s [.regs] (fun b => flagF b R.COX_EVENTS.write_refused e = true
          ∧ RegsBut [R.COX_EVENTS.write_refused] e b0 b))
      ∧ ((engine b0 e).warnAt.isSome = true → Runs (.warnTimeout e) s [.cox, .regs] (fun b => flagF b R.COX_EVENTS.warn_expired e = true
          ∧ flagF b R.COX_STATUS.inhibit e = false ∧ (engine b e).warnAt = none))
      ∧ ((engine b0 e).featherAt.isSome = true → Runs (.shedHoldoffExpire e) s [.cox, .regs] (fun b => (engine b e).featherAt = none
          ∧ flagF b R.COX_STATUS.inhibit e = ((engine b0 e).warnAt.isSome && flagF b0 R.COX_STATUS.inhibit e)))
      ∧ (isShed e = true → (∀ ma,
            let below := shedAllowed b0 e = true ∧ (engine b0 e).shedPhase = none ∧ 2 ≤ run.length
              ∧ getF b0 R.COX_SHED_CFG.min_phases e ≤ run.length - 1
              ∧ ma * 100 < (run.length - 1) * phaseRating e 0 * 1000 * getF b0 R.COX_SHED_THR.shed_pct e;
            (below → Runs (.shedStart e ma) s [.cox, .regs] (fun b => (engine b e).shedPhase = run.getLast?
                ∧ flagF b R.COX_SHED_STATUS.shedding e = true ∧ RegsBut [R.COX_SHED_STATUS.shedding] e b0 b))
              ∧ (¬ below → same (.shedStart e ma)))
          ∧ (∀ p, (engine b0 e).shedPhase = some p → Runs (.shedComplete e) s [.cox, .regs] (fun b => (engine b e).shedPhase = none
              ∧ getF b R.COX_SHED_STATUS.count e = (run.filter (fun q => q != p)).length % 2 ^ R.COX_SHED_STATUS.count.width
              ∧ (∀ q, q < 12 → bit (getF b R.COX_SHED_STATUS.running e) q = (run.contains q && q != p))
              ∧ flagF b R.COX_SHED_STATUS.shedding e = false))
          ∧ (∀ p ma, (allPhases b0 e).find? (fun q => !run.contains q) = some p →
              run.length * phaseRating e 0 * 1000 * getF b0 R.COX_SHED_THR.add_pct e < ma * 100 →
              Runs (.phaseReadd e ma) s [.regs] (fun b => bit (getF b R.COX_SHED_STATUS.running e) p = true
                ∧ RegsBut [R.COX_SHED_STATUS.running, R.COX_SHED_STATUS.count] e b0 b))
          ∧ Runs (.stepDetected e) s [.cox, .regs] (fun b => (engine b e).shedPhase = none ∧ flagF b R.COX_EVENTS.shed_abort e = true
              ∧ getF b R.COX_SHED_STATUS.count e = (allPhases b0 e).length % 2 ^ R.COX_SHED_STATUS.count.width
              ∧ ∀ q, q < 12 → bit (getF b R.COX_SHED_STATUS.running e) q = (allPhases b0 e).contains q))
      ∧ (∀ code, mine → (e < 16 → 80 ≤ code ∧ code ≤ 380 → RunsS (.clkForceWrite .shepherdB e code) s (fun u =>
            getF u.body R.COX_CLK_CEIL.force e = code
              ∧ (engineRuns b0 e = true → getF u.body R.COX_CLK_CEIL.applied e ≤ max code (getF b0 R.COX_CLK_CEIL.applied e))))
          ∧ (code < 80 ∨ 380 < code → same (.clkForceWrite .shepherdB e code)))
      ∧ (∀ c, getF b0 R.COX_STATUS.writer 16 = 1 → (c = 0 ∨ 1200 ≤ c ∧ c ≤ 10500 → RunsS (.capWrite .shepherdB c) s (fun u =>
            getF u.body R.COX_CAP.cap_w 16 = c ∧ flagF u.body R.COX_CAP.reached 16 = false))
          ∧ (c ≠ 0 → c < 1200 ∨ 10500 < c → same (.capWrite .shepherdB c)))
      ∧ (∀ x : TlmWindow, engineRuns b0 e = true → e < 16 → x.channel < 64 → flagF b0 R.COX_TLM_ID.present (e * 64 + x.channel) = true →
          let n := e * 64 + x.channel
          (∀ r ∈ [(1, R.COX_TLM_AVG100MS.avg), (2, R.COX_TLM_AVG1S.avg)], Runs (.tlmWindowEnd e r.1 [x]) s [.regs] (fun b =>
              getF b r.2 n = w x.avg ∧ RegsBut [r.2] n b0 b))
            ∧ Runs (.tlmWindowEnd e 0 [x]) s [.regs] (fun b => getF b R.COX_TLM_AVG1MS.avg n = w x.avg ∧ getF b R.COX_TLM_LAST.last n = w x.last
              ∧ RegsBut [R.COX_TLM_AVG1MS.avg, R.COX_TLM_LAST.last, R.COX_TLM_MIN.min, R.COX_TLM_MAX.max] n b0 b))
/-- The energy ledger (R419 to R421, R432, R434, R436, R438, R442 to R444): a decision requests a period (2 s while clocks are
forced or the input is absent), a level and the headroom; a valid sweep replaces the stored energy; clocks are forced at the
reserve and freed at the floor; with the energy exhausted the module leaves its flock. -/
def Obligations.LedgerCommands : Prop :=
  ∀ (s : State),
    let b0 := s.body
    let b1 := trackE0 b0
    let same := fun c => Runs c s [] (fun b => b = b0)
    let active := shepherdActive b0 = true
    let forced := flagF b0 R.LDG_STATUS.forced 0
    (active → ∀ k e, b0.flock.inFlight.isSome = true → kindInFlight b1 = some k → profileOf b1 k = some e →
        Runs .ledgerDecision s [.regs, .ledger] (fun b =>
          let ps := forecast b1
          let t := choosePeriod b1 ps e k (energyAtCatch b1 ps)
          getF b R.LDG_REQUEST.period_us 0 = t % 2 ^ 31 ∧ (forced = true ∨ b0.cox.path.inputAbsent = true → t = 2000000)
            ∧ flagF b R.LDG_REQUEST.fresh 0 = true ∧ getF b R.LDG_START_DELAY.start_delay_us 0 = 0
            ∧ getF b R.LDG_LEVEL_WANTED.level_w 0 = levelWanted b1 e k % 2 ^ R.LDG_LEVEL_WANTED.level_w.width
            ∧ getF b R.LDG_STATUS.decision 0 = (if k.nominalUs < t then 1 else 0)
            ∧ getF b R.LDG_HEADROOM.headroom_mj 0 = min (max 0 ((getF b1 R.LDG_E0.e0_mj 0 : Int) - eRes b1)).toNat (2 ^ 32 - 1)
            ∧ flagF b R.LDG_STATUS.at_reserve 0 = (decide (e0Used b1 ≤ eFloor b1) || forced)
            ∧ flagF b R.LDG_STATUS.surplus 0 = decide (eFull b1 < (energyAtCatch b1 ps).2)))
      ∧ (b0.flock.inFlight = none → same .ledgerDecision)
      ∧ (active → flagF b0 R.CMN_SWEEP_STATUS.valid 0 = true → RunsS .ledgerSweepUpdate s (fun u =>
          getF u.body R.LDG_E0.e0_mj 0 = (storedEnergy b0).1 % 2 ^ 48 ∧ getF u.body R.LDG_EROOM.eroom_mj 0 = (storedEnergy b0).2 % 2 ^ 48
            ∧ getF u.body R.LDG_ECAP.ecap_mj 0 = ((storedEnergy b0).1 + (storedEnergy b0).2) % 2 ^ 48
            ∧ flagF u.body R.LDG_STATUS.stale_sweep 0 = false))
      ∧ (flagF b0 R.CMN_SWEEP_STATUS.valid 0 = false → same .ledgerSweepUpdate)
      ∧ (active → Runs .ledgerStaleSweep s [.regs] (fun b => flagF b R.LDG_STATUS.stale_sweep 0 = true
          ∧ RegsBut [R.LDG_STATUS.stale_sweep] 0 b0 b))
      ∧ (active → e0Used b0 ≤ eRes b0 → forced = false → Runs .reserveReached s [.regs, .cox] (fun b =>
          flagF b R.LDG_STATUS.forced 0 = true ∧ flagF b R.LDG_STATUS.at_reserve 0 = true
            ∧ (kindInFlight b0 = none → ∀ e, e < 16 → getF b R.COX_CLK_CEIL.force e = 80)
            ∧ ∀ k p, kindInFlight b0 = some k → profileOf b0 k = some p → (pointAt p 0).code < 512 →
                ∀ e, e < 16 → getF b R.COX_CLK_CEIL.force e = (pointAt p 0).code))
      ∧ (eRes b0 < e0Used b0 → same .reserveReached)
      ∧ (active → eFloor b0 ≤ e0Used b0 → forced = true → b0.cox.path.inputAbsent = false → Runs .floorRegained s [.regs, .cox, .ledger] (fun b =>
          flagF b R.LDG_STATUS.forced 0 = false ∧ b.ledger.exhausted = false ∧ ∀ e, e < 16 → getF b R.COX_CLK_CEIL.force e = 380))
      ∧ (e0Used b0 < eFloor b0 ∨ b0.cox.path.inputAbsent = true → same .floorRegained)
      ∧ (active → e0Used b0 ≤ eStop b0 → b0.ledger.exhausted = false → RunsS .energyExhausted s (fun u =>
          flagF u.body R.LDG_STATUS.forced 0 = true ∧ u.body.ledger.exhausted = true ∧ (joined b0 = true → u.body.fail.mustReset = true)))
      ∧ (eStop b0 < e0Used b0 ∨ b0.ledger.exhausted = true → same .energyExhausted)

/-- The cell monitors (R454, R455, R457 to R462, R470, R471, R479, R481): a frame wakes a sleeping monitor and is not acted on, a
bad one is discarded, a sound one in order is acted on: CONVERT opens the window once per sweep, READ is answered, BALANCE
takes effect on its own parity after the window, ENUM is filled in and passed on; a crossed limit alerts both sides. -/
def Obligations.CellMonitors : Prop :=
  ∀ (k : Nat) (bs : List Nat) (dir : Bool) (s : State), k < 4 →
    let b0 := s.body
    let m := mon b0 k
    let becomes := fun c (x : Monitor) => Runs c s [.cells] (fun b => mon b k = x ∧ b.cells.ring = b0.cells.ring
      ∧ ∀ j, j ≠ k → j < 4 → mon b j = mon b0 j)
    let frames := [Instr.cmConvert k bs dir, .cmRead k bs dir, .cmBalance k bs, .cmEnum k bs dir]
    (m.awake = false → ∀ c ∈ frames, becomes c { m with awake := true, strap := m.pins })
      ∧ (m.awake = true → ringFrame bs = none → ∀ c ∈ frames, becomes c m)
      ∧ (∀ f, m.awake = true → ringFrame bs = some f → f.addr = 7 → (∀ l, m.rxAll = some l → aliveCheck 4 l f.alive = .inOrder) →
          let m1 := { m with rxAll := some f.alive }
          (f.ftype = 2 → m.used ≠ f.payload[0]? → becomes (.cmConvert k bs dir) { m1 with
              used := f.payload[0]?, viaReverse := dir, converted := false, inWindow := true, switches := 0, heldMask := none })
            ∧ (f.ftype = 2 → m.used = f.payload[0]? → becomes (.cmConvert k bs dir) m1)
            ∧ (f.ftype = 5 → m.used = f.payload[4]? →
                let own := f.payload.getD m.strap 0
                (maskAllowed (f.payload.getD 4 0) own = true → m.inWindow = true → becomes (.cmBalance k bs) { m1 with heldMask := some own })
                  ∧ (maskAllowed (f.payload.getD 4 0) own = true → m.inWindow = false → becomes (.cmBalance k bs) { m1 with switches := own })
                  ∧ (maskAllowed (f.payload.getD 4 0) own = false → becomes (.cmBalance k bs) m1))
            ∧ (f.ftype = 1 → Runs (.cmEnum k bs dir) s [.cells, .sent] (fun b => mon b k = m1 ∧ b.sent = .ring (cond dir 0 1) "ENUM"
                (ringBytes 1 7 f.back f.alive ((f.payload.set (1 + f.payload.getD 0 0) (m.strap % 4 + 4 + cond m.sample.ok 8 0)).set 0
                  (f.payload.getD 0 0 + 1))) :: b0.sent)))
      ∧ (∀ f l, m.awake = true → ringFrame bs = some f → f.addr = 7 → m.rxAll = some l → aliveCheck 4 l f.alive = .repeated →
          ∀ c ∈ frames, becomes c { m with rxAll := some f.alive })
      ∧ (∀ f, m.awake = true → ringFrame bs = some f → f.ftype = 3 → f.addr = m.strap → f.addr ≠ 7 → m.rxOwn = none →
          Runs (.cmRead k bs dir) s [.cells, .sent] (fun b => mon b k = { m with rxOwn := some f.alive, tx := (m.tx + 1) % 16 }
            ∧ b.sent = .ring (cond (dir == f.back) 1 0) "DATA" (ringBytes 4 4 false ((m.tx + 1) % 16) (cmData m)) :: b0.sent))
      ∧ (∀ x, becomes (.cmConversionWindow k x) (if m.inWindow then { m with sample := x } else m))
      ∧ becomes (.cmWindowEnd k) (if m.inWindow then { m with
          inWindow := false, converted := true, switches := m.heldMask.getD m.switches, heldMask := none } else m)
      ∧ (∀ cell above, let p := [cond above 1 2, cell % 8, 0, 0]
          Runs (.cmCellLimitCross k cell above) s [.cells, .sent] (fun b => (mon b k).alert = true
            ∧ b.sent = .ring 1 "ALERT" (ringBytes 6 4 false (((m.tx + 1) % 16 + 1) % 16) p)
              :: .ring 0 "ALERT" (ringBytes 6 4 false ((m.tx + 1) % 16) p) :: b0.sent))
      ∧ (∀ pins, m.awake = false ∨ m.strap = pins % 4 → becomes (.cmStrapChange k pins) { m with pins := pins % 4 })
      ∧ (∀ pins, m.awake = true → m.strap ≠ pins % 4 → b0.cells.ring.evaluating = false → Runs (.cmStrapChange k pins) s [.cells, .sent] (fun b =>
          (mon b k).strap = pins % 4 ∧ (mon b k).pins = pins % 4 ∧ (mon b k).alert = true))
      ∧ becomes (.cmSleep k) { m with awake := false, switches := 0, heldMask := none }
      ∧ becomes (.cmConvertTimeout k) { m with switches := 0 }
      ∧ becomes (.monitorReset k) { Monitor.reset k with pins := m.pins, strap := m.pins, awake := true }

/-- The ring master (R458, R459, R461 to R468, R474 to R484): a sweep converts and reads the monitors in turn, turning to the
other side of a broken ring; its end writes the readings of a valid sweep, or none; a frame with a wrong CRC is counted;
an alert and a lost ring are trips of the pack; ENUM tells whether the ring is whole. -/
def Obligations.RingCommands : Prop :=
  ∀ (k : Nat) (bs : List Nat) (s : State), k < 4 →
    let b0 := s.body
    let r := b0.cells.ring
    let same := fun c => Runs c s [] (fun b => b = b0)
    let grows := fun (f : Field) (b : Body) => getF b f 0 = min (getF b0 f 0 + 1) (2 ^ f.width - 1)
    let tripped := fun n (u : State) => bit (getF u.body R.CMN_TRIP_STATUS.tripped 0) n = true ∧ u.body.cox.path.packOff = true
      ∧ bit (getF u.body R.IRQ_CAUSE.cause 0) 23 = true
    let opens := fun n => bit (getF b0 R.CMN_TRIP_STATUS.tripped 0) n = false ∧ power b0 ≠ 9
    (flagF b0 R.CMN_CTRL.sweep_en 0 = true → r.sweeping = false → b0.cox.path.housekeeping = true →
        Runs .sweepStart s [.cells, .regs, .sent] (fun b => b.cells.ring.sweeping = true ∧ b.cells.ring.reading = some (0, false)
          ∧ b.cells.ring.byte = (getF b0 R.CMN_SWEEP_STATUS.sweep 0 + 1) % 256 ∧ b.cells.ring.data = []
          ∧ getF b R.CMN_RING_STATUS.reach_f 0 = 0 ∧ getF b R.CMN_RING_STATUS.reach_r 0 = 0 ∧ b.cells.monitors = b0.cells.monitors))
      ∧ (flagF b0 R.CMN_CTRL.sweep_en 0 = false ∨ r.sweeping = true → same .sweepStart)
      ∧ (r.sweeping = true → r.second = false → ringMode b0 ≤ 1 → RunsS .ringConvertTimeout s (fun u =>
          ringMode u.body = 2 ∧ u.body.cells.ring.second = true ∧ grows R.CMN_FRAME_ERR2.reverse_converts u.body))
      ∧ (r.sweeping = false ∨ 2 ≤ ringMode b0 → same .ringConvertTimeout)
      ∧ (r.reading = none → same .ringReadTimeout)
      ∧ (∀ dir, r.reading = some (k, dir) →
          (ringMode b0 ≤ 1 → r.fails = 0 → Runs .ringReadTimeout s [.cells, .regs, .sent] (fun b => b.cells.ring.fails = 1
              ∧ b.cells.ring.reading = some (k, false) ∧ grows R.CMN_FRAME_ERR2.timeout b))
            ∧ (ringMode b0 ≤ 1 → r.fails ≠ 0 → RunsS .ringReadTimeout s (fun u => ringMode u.body = 2
              ∧ u.body.cells.ring.reading = some (k, false)))
            ∧ (2 ≤ ringMode b0 → dir = false → Runs .ringReadTimeout s [.cells, .regs, .sent] (fun b => b.cells.ring.reading = some (k, true)))
            ∧ (2 ≤ ringMode b0 → dir = true → Runs .ringReadTimeout s [.cells, .regs, .sent] (fun b => b.cells.ring.reading
              = if k = 3 then none else some (k + 1, true))))
      ∧ (ringFrame bs = none → ∀ c ∈ [Instr.cmData k false bs, .cmAlert k bs], Runs c s [.regs] (fun b => grows R.CMN_FRAME_ERR.crc b
          ∧ RegsBut [R.CMN_FRAME_ERR.crc] 0 b0 b))
      ∧ (∀ f dir, ringFrame bs = some f → SMap.get r.rx none k = none → f.ftype = 4 → f.payload.length = 24 → r.reading = some (k, dir) →
          bit (f.payload.getD 20 0) 2 = true → bits (f.payload.getD 20 0) 4 2 = k →
          Runs (.cmData k dir bs) s [.cells, .regs, .sent] (fun b => SMap.get b.cells.ring.data [] k = f.payload
            ∧ bit (getF b (if dir then R.CMN_RING_STATUS.reach_r else R.CMN_RING_STATUS.reach_f) 0) k = true
            ∧ b.cells.ring.reading = (if k = 3 then none else some (k + 1, dir)) ∧ SMap.get b.cells.ring.rx none k = some f.alive))
      ∧ (∀ f, ringFrame bs = some f → SMap.get r.rx none k = none → f.ftype = 6 →
          (r.evaluating = false → Runs (.cmAlert k bs) s [.cells, .regs] (fun b => flagF b R.CMN_MON.alert k = true
              ∧ RegsBut [R.CMN_MON.alert] k b0 b))
            ∧ (r.evaluating = true → opens 7 → RunsS (.cmAlert k bs) s (tripped 7)))
      ∧ (r.evaluating = true → opens 8 → RunsS .ringLost s (tripped 8))
      ∧ (r.evaluating = false → same .ringLost)
      ∧ (∀ ma dur, r.sweeping = false ∨ r.reading.isSome = true → same (.sweepEnd ma dur))
      ∧ (∀ ma dur, r.sweeping = true → r.reading = none →
          let ended := fun (v : Bool) (u : State) => u.body.cells.ring.sweeping = false ∧ flagF u.body R.CMN_SWEEP_STATUS.valid 0 = v
            ∧ getF u.body R.CMN_SWEEP_STATUS.sweep 0 = (getF b0 R.CMN_SWEEP_STATUS.sweep 0 + 1) % 65536
            ∧ getF u.body R.CMN_SWEEP_STATUS.duration 0 = dur % 4096
          (sweepValid b0 = true → RunsS (.sweepEnd ma dur) s (fun u => ended true u ∧ flagF u.body R.CMN_SWEEP_STATUS.stale 0 = false
              ∧ ∀ i, i < 32 → getF u.body R.CMN_CELL_V.v_raw i = dataWord b0 (i / 8) (2 * (i % 8)) % 65536
                ∧ getF u.body R.CMN_CELL_V.v i = compensate (dataWord b0 (i / 8) (2 * (i % 8))) ma (getF b0 R.CMN_RCELL.r_uohm i)))
            ∧ (sweepValid b0 = false → RunsS (.sweepEnd ma dur) s (fun u => ended false u ∧ getF u.body R.CMN_BAL_MASK.mask 0 = 0
              ∧ ∀ i, getF u.body R.CMN_CELL_V.v i = getF b0 R.CMN_CELL_V.v i ∧ getF u.body R.CMN_CELL_V.v_raw i = getF b0 R.CMN_CELL_V.v_raw i)))
      ∧ RunsS .sweepStale s (fun u => flagF u.body R.CMN_SWEEP_STATUS.stale 0 = true
          ∧ flagF u.body R.CMN_LIMITS.chg_stop 0 = (flagF b0 R.CMN_LIMITS.chg_stop 0 || decide (37500 ≤ r.maxUpper))
          ∧ flagF u.body R.CMN_LIMITS.dis_stop 0 = (flagF b0 R.CMN_LIMITS.dis_stop 0 || decide (r.minLower ≤ 25500)))
      ∧ (2 ≤ ringMode b0 → r.sweeping = false → 100 ≤ r.sinceProbe → RunsS (.ringEnumProbe bs) s (fun u => u.body.cells.ring.sinceProbe = 0
          ∧ ringMode u.body = if enumGood bs then 1 else ringMode b0))
      ∧ (ringMode b0 < 2 ∨ r.sweeping = true ∨ r.sinceProbe < 100 → same (.ringEnumProbe bs))
      ∧ (getF b0 R.COX_STATUS.writer 0 = 0 →
          (r.sweeping = true → Runs (.cmnEnum .shepherdA bs) s [.cells, .regs] (fun b => b.cells.ring.enumAsked = true
              ∧ ∀ i, i < 32 → getF b R.CMN_RCELL.r_uohm i = Config.cellResistance i % 2 ^ R.CMN_RCELL.r_uohm.width))
            ∧ (r.sweeping = false → ringMode b0 = 0 → RunsS (.cmnEnum .shepherdA bs) s (fun u => u.body.cells.ring.enumRepeat = true
              ∧ ringMode u.body = (if enumGood bs then 1 else 2) ∧ (enumGood bs = true → flagF u.body R.CMN_RING_STATUS.addr_ok 0 = true)))
            ∧ same (.cmnEnum .shepherdB bs) ∧ same (.cmnEnum .hostBar0 bs))
      ∧ (r.enumRepeat = true → r.sweeping = false → ringMode b0 = 1 → RunsS (.enumRepeat bs) s (fun u => u.body.cells.ring.enumRepeat = false
          ∧ ringMode u.body = if enumGood bs then 1 else 2))
      ∧ (r.enumRepeat = false → same (.enumRepeat bs))
/-- The two Shepherds (R487 to R499, R574, R649): a heartbeat in order is noted and one that repeats fails its sender; a takeover
holds the failed Shepherd and makes the standby the writer; a failed Shepherd restarts, until its third failure; a Shepherd
boots the slot of the boot record, stands by or becomes the writer; with none active the module is isolated; the writer
returns to SH-A; a sound frame reaches the active Shepherd. -/
def Obligations.Shepherds : Prop :=
  ∀ (w us : Nat) (fr : List Byte) (s : State), w < 2 →
    let b0 := s.body
    let o := 1 - w
    let st := shState b0 w
    let sh := shepherd b0 w
    let same := fun c => Runs c s [] (fun b => b = b0)
    let writes := fun (n : Nat) (b : Body) => shState b n = 4 ∧ getF b R.SHP_STATUS.active 0 = n
      ∧ ∀ e, e < 20 → getF b R.COX_STATUS.writer e = n
    let grows := fun (f : Field) (b : Body) => getF b f 0 = min (getF b0 f 0 + 1) (2 ^ f.width - 1)
    (∀ c, st = 3 → sh.halted = false →
        ((sh.beat = none ∨ ∃ x, sh.beat = some x ∧ aliveCheck 16 x (c % 65536) = .inOrder) →
            Runs (.shepherdHeartbeat w c) s [.host] (fun b => shepherd b w = { sh with beat := some (c % 65536), lastBeat := b0.now }
              ∧ shepherd b o = shepherd b0 o))
          ∧ (∀ x, sh.beat = some x → aliveCheck 16 x (c % 65536) = .repeated → Runs (.shepherdHeartbeat w c) s [.host, .regs] (fun b =>
              shState b w = 0 ∧ shState b o = shState b0 o)))
      ∧ (∀ c, st ≠ 3 → st ≠ 4 → same (.shepherdHeartbeat w c))
      ∧ (activeSh b0 = some w → shState b0 o = 3 → Runs .stateRecord s [.host, .logbook] (fun b => (shepherd b o).unacked = 0
          ∧ b.logbook = { b0.logbook with copied := b0.logbook.queue }))
      ∧ (activeSh b0 = none → same .stateRecord ∧ same (.heartbeatMissed us) ∧ same (.lockstepMismatch us) ∧ same (.takeoverRequest us))
      ∧ (∀ r ∈ [(Instr.heartbeatMissed us, 1), (.lockstepMismatch us, 2), (.takeoverRequest us, 3)], activeSh b0 = some w →
          (r.2 = 1 → sh.lastBeat + 75000 ≤ b0.now) →
          (shState b0 o = 3 → b0.host.inbox = [] → RunsS r.1 s (fun u => shState u.body w = 0 ∧ writes o u.body
              ∧ getF u.body R.SHP_LAST_TAKEOVER.cause 0 = r.2 ∧ getF u.body R.SHP_LAST_TAKEOVER.takeover_us 0 = min us 65535
              ∧ grows R.SHP_COUNTS.takeovers u.body ∧ flagF u.body R.SHP_EVENTS.takeover 0 = true))
            ∧ (shState b0 o ≠ 3 → Runs r.1 s [.regs, .host] (fun b => shState b w = 0 ∧ shState b o = shState b0 o
              ∧ b.host.noActiveSince = some b0.now)))
      ∧ (st = 0 → sh.failures ≠ [] → b0.cox.path.heldReset = false →
          (sh.failures.length < 3 → Runs (.shepherdRestart w) s [.regs, .host, .logbook, .sent] (fun b => shState b w = 5
              ∧ grows R.SHP_COUNTS.restarts b))
            ∧ (3 ≤ sh.failures.length → Runs (.shepherdRestart w) s [.regs, .host, .logbook, .sent] (fun b => shState b w = 6)))
      ∧ (st ≠ 0 ∨ sh.failures = [] → same (.shepherdRestart w))
      ∧ (st = 2 ∨ st = 5 → b0.host.inbox = [] →
          (shState b0 o = 4 → RunsS (.shepherdSelfTestPass w) s (fun u => shState u.body w = 3 ∧ shState u.body o = 4))
            ∧ (shState b0 o = 0 ∨ shState b0 o = 5 ∨ shState b0 o = 6 → RunsS (.shepherdSelfTestPass w) s (fun u => writes w u.body
              ∧ flagF u.body R.SHP_STATUS.no_shepherd 0 = false)))
      ∧ (st ≠ 2 → st ≠ 5 → same (.shepherdSelfTestPass w))
      ∧ (st = 1 ∨ st = 5 → (slotImage b0 (bootSlot b0)).isSome = true → Runs (.shepherdBoot w 0 0) s [.host, .regs] (fun b =>
          (shepherd b w).slot = bootSlot b0 ∧ shState b w = if st = 1 then 2 else 5))
      ∧ (∀ fa fb, st = 1 ∨ st = 5 → fa ≠ 0 → fb ≠ 0 → b0.host.inbox = [] → RunsS (.shepherdBoot w fa fb) s (fun u => shState u.body w = 6
          ∧ trialOn u.body = false))
      ∧ (∀ fa fb, st ≠ 1 → st ≠ 5 → same (.shepherdBoot w fa fb))
      ∧ (activeSh b0 = some w → b0.now < sh.lastBeat + 75000 → same (.heartbeatMissed us))
      ∧ (∀ t, activeSh b0 = none → b0.host.noActiveSince = some t → t + 100000000 ≤ b0.now → flagF b0 R.SHP_STATUS.no_shepherd 0 = false →
          RunsS .noShepherd s (fun u => isolated u.body = true ∧ flagF u.body R.SHP_STATUS.no_shepherd 0 = true
            ∧ flagF u.body R.SHP_EVENTS.isolated 0 = true ∧ ∀ e, e < 16 → getF u.body R.COX_CLK_CEIL.force e = 80))
      ∧ ((activeSh b0).isSome = true → same .noShepherd)
      ∧ (shState b0 0 = 3 → shState b0 1 = 4 → trialOn b0 = false → (shepherd b0 0).standbySince + 10000000000 ≤ b0.now →
          Runs .handbackPending s [.regs] (fun b =>
          flagF b R.SHP_STATUS.handback_pending 0 = true ∧ RegsBut [R.SHP_STATUS.handback_pending] 0 b0 b))
      ∧ (shState b0 0 ≠ 3 → same .handbackPending ∧ same .handbackSwitch)
      ∧ (b0.now < (shepherd b0 0).standbySince + 10000000000 → same .handbackPending)
      ∧ (flagF b0 R.SHP_STATUS.handback_pending 0 = true → shState b0 0 = 3 → shState b0 1 = 4 → maySwitch b0 = true →
          RunsS .handbackSwitch s (fun u => writes 0 u.body ∧ shState u.body 1 = 3 ∧ flagF u.body R.SHP_STATUS.handback_pending 0 = false
            ∧ grows R.SHP_COUNTS.handbacks u.body))
      ∧ (let src := dfield fr 4 2 % 16384
         let key := dfield fr 0 2 * 16384 + src
         let sound := fr.length = 224 ∧ flagF b0 R.KLK_ROUTE.lost src = false ∧ crc32c (fr.take 220) = dfield fr 220 4
           ∧ (dfield fr 0 2 = 1 ∨ dfield fr 0 2 = 2) ∧ dfield fr 6 2 % 16384 = moduleIndex b0 ∧ SMap.get b0.host.rxFrames none key = none
         let rx := SMap.put b0.host.rxFrames none key (some (dfield fr 8 2))
         (isolated b0 = true ∨ fr.length ≠ 224 → same (.shepherdFrameReceive fr))
           ∧ (flagF b0 R.KLK_ROUTE.lost src = false → crc32c (fr.take 220) ≠ dfield fr 220 4 → same (.shepherdFrameReceive fr))
           ∧ (isolated b0 = false → sound → shepherdActive b0 = false → b0.host.inbox.length < 64 →
               Runs (.shepherdFrameReceive fr) s [.host] (fun b => b.host = { b0.host with rxFrames := rx, inbox := b0.host.inbox ++ [fr] }))
           ∧ (isolated b0 = false → sound → shepherdActive b0 = true → b0.host.inbox = [] →
               Sys2Proof.Machine.exec (.shepherdFrameReceive fr) s
                 = .next (handOver fr { s with body := { b0 with host := { b0.host with rxFrames := rx, inbox := [] } } })))

/-- Firmware, accords, attestation and the debug port (R550, R552 to R555, R562 to R570, R573, R575, R577, R578, R594, R636): a stage
writes a verified image to the free slot, an activation starts a trial through the standby, a trial is confirmed or ends;
an accord is refused at its first faulty field or signature and otherwise applies its items and uses up its nonce; the
module answers SPDM in order; the debug port acts within the level in force. -/
def Obligations.FirmwareAndTrust : Prop :=
  ∀ (m w n : Nat) (t : Taken) (s : State), w < 2 → n < 2 →
    let b0 := s.body
    let same := fun c => Runs c s [] (fun b => b = b0)
    let slot := stageSlot b0
    let a := readAccord 0x0701 t.body
    let c := readAccord 0x0503 t.body
    let used := fun (x : Accord) (b : Body) => b.trust.seqP = (if x.signers.contains 1 then x.seq else b0.trust.seqP)
      ∧ b.trust.seqT = (if x.signers.contains 2 then x.seq else b0.trust.seqT)
      ∧ ∀ y ∈ b.trust.nonces, y ∈ b0.trust.nonces ∧ ¬ (y.party = x.nonceParty ∧ y.value = x.nonce)
    let asks := fun (x : Accord) (i : AccItem) => x.items = [i] ∧ itemCheck x b0 i = none ∧ debugBusy x b0 = false
    let tells := fun what code p1 p2 (rest : List Byte) (b : Body) =>
      b.sent = .response what ([n, if code = 0x04 then 0x10 else 0x12, code, p1, p2] ++ rest.map (·.toNat)) :: b0.sent
    let come := spdmAt b0 n
    let spdm := fun c least next what code p2 (rest : List Byte) =>
      (least ≤ come → Runs c s [.sent, .rack] (fun b => tells what code 0 p2 rest b ∧ spdmAt b n = next))
        ∧ (come < least → Runs c s [.sent] (tells "SPDM_ERROR" 0x7F 4 0 []))
    let rights := debugRights b0
    (Asked m 0x0801 t b0 →
        (fwBusy b0 = true → RunsS (.fwStage m) s (fun u => Refused m t 1 none 5 u.body ∧ u.body.trust = b0.trust))
          ∧ (fwBusy b0 = false → bfield t.body 0 8 % 4096 = 0 → bfield t.body 0 8 + bfield t.body 8 4 ≤ 12 * stackBytes →
              slotBytes < bfield t.body 8 4 → RunsS (.fwStage m) s (fun u => Refused m t 0x0A (some 24) 0 u.body ∧ u.body.trust = b0.trust))
          ∧ (∀ bs, fwBusy b0 = false → bfield t.body 0 8 % 4096 = 0 → bfield t.body 0 8 + bfield t.body 8 4 ≤ 12 * stackBytes →
              bfield t.body 8 4 ≤ slotBytes → (readImage (bfield t.body 0 8) (bfield t.body 8 4) s).1 = (none, bs) →
              RunsS (.fwStage m) s (fun u => slotImage u.body slot = some (imageOf bs) ∧ (mbx u.body m).taken = none
                ∧ flagF u.body R.SHP_FW_SLOTS.other_valid 0 = true ∧ slotImage u.body (1 - slot) = slotImage b0 (1 - slot))))
      ∧ (Asked m 0x0802 t b0 → fwBusy b0 = false →
          ((slotImage b0 slot).isSome = true → (t.body.getD 0 0).toNat = 0 → Runs (.fwActivateDeferred m) s [.host, .regs, .logbook, .trust] (fun b =>
              b.trust = { b0.trust with nextTrial := true } ∧ Answered m t 0 (leBytes 1 slot ++ leBytes 1 0 ++ leBytes 6 0) b))
            ∧ ((slotImage b0 slot).isSome = true → (t.body.getD 0 0).toNat = 1 → standbySh b0 = some w →
              RunsS (.fwActivateNow m) s (fun u => trialOn u.body = true ∧ getF u.body R.SHP_FW_SLOTS.trial_slot 0 = slot
                ∧ shState u.body w = 5 ∧ Answered m t 0 (leBytes 1 slot ++ leBytes 1 1 ++ leBytes 6 0) u.body))
            ∧ (slotImage b0 slot = none → (t.body.getD 0 0).toNat = 1 → Runs (.fwActivateNow m) s [.host, .regs] (Refused m t 0x0A none 0)))
      ∧ (b0.trust.deferred = false → trialOn b0 = true → standbySh b0 = some w → activeSh b0 = some (1 - w) → maySwitch b0 = true →
          (shepherd b0 w).slot = bootSlot b0 → (shepherd b0 (1 - w)).slot ≠ bootSlot b0 → b0.host.inbox = [] →
          (shepherd b0 w).standbySince + 10000000000 ≤ b0.now → RunsS .fwTrialSwitch s (fun u => shState u.body w = 4 ∧ shState u.body (1 - w) = 5 ∧ getF u.body R.SHP_STATUS.active 0 = w))
      ∧ (b0.trust.deferred = false → trialOn b0 = false → b0.trust.returning = false → same .fwTrialSwitch)
      ∧ (∀ t, trialSettled b0 = true → b0.trust.trialSince = some t → t + 600000000000 ≤ b0.now → RunsS .fwTrialConfirm s (fun u => trialOn u.body = false
          ∧ u.body.trust.confirmed = getF b0 R.SHP_FW_SLOTS.trial_slot 0))
      ∧ (trialSettled b0 = false ∨ b0.trust.trialSince = none ∨ (∃ t, b0.trust.trialSince = some t ∧ b0.now < t + 600000000000) →
          same .fwTrialConfirm)
      ∧ (trialOn b0 = true → (shepherd b0 w).slot = getF b0 R.SHP_FW_SLOTS.trial_slot 0 → shState b0 w = 2 ∨ shState b0 w = 5 →
          RunsS (.fwTrialFail w) s (fun u => trialOn u.body = false ∧ shState u.body w = 5 ∧ u.body.trust.trialSince = none))
      ∧ (trialOn b0 = false → same (.fwTrialFail w))
      ∧ (Asked m 0x0701 t b0 →
          (∀ off, accordFault 0x0701 t.body = some off → Runs (.accordSubmit m) s [.host, .regs] (Refused m t 0x0A (some (16 + off)) 0))
            ∧ (∀ d, accordFault 0x0701 t.body = none → accordSigned m 0x0701 t.body a.1 b0 = some d →
              Runs (.accordSubmit m) s [.host, .regs, .logbook] (Refused m t 6 none d))
            ∧ (∀ i, accordFault 0x0701 t.body = none → accordSigned m 0x0701 t.body a.1 b0 = none → asks a.1 i → i.code = 0x0005 →
              Runs (.accordSubmit m) s [.host, .regs, .logbook, .trust] (fun b => Answered m t 0 (leBytes 8 a.1.seq) b ∧ used a.1 b
                ∧ getF b R.LDG_RESERVE.reserve_mj 0 = (itemInt i).toNat * 1000000))
            ∧ (∀ i r, accordFault 0x0701 t.body = none → accordSigned m 0x0701 t.body a.1 b0 = none → a.1.items = [i] → i.code = 0x0005 →
              (r = 0x0A ∧ (itemInt i < 30 ∨ 60 < itemInt i) ∨ r = 7 ∧ 30 ≤ itemInt i ∧ itemInt i ≤ 60 ∧ a.1.form = 2 ∧ itemInt i < itemNow b0 5) →
              Runs (.accordSubmit m) s [.host, .regs, .logbook, .trust] (fun b =>
                Refused m t r (if r = 7 then none else some (16 + (i.at_ + 8))) 0 b ∧ used a.1 b)))
      ∧ (Asked m 0x0503 t b0 → b0.logbook.clearing = none →
          (t.body = [] → Runs (.logbookClear m) s [.host, .regs] (Refused m t 7 none 0))
            ∧ (t.body ≠ [] → getF b0 R.TLY_STROKE_STATUS.state 0 ≠ 0 → Runs (.logbookClear m) s [.host, .regs] (Refused m t 1 none 2))
            ∧ (∀ i, t.body ≠ [] → getF b0 R.TLY_STROKE_STATUS.state 0 = 0 → accordFault 0x0503 t.body = none →
              accordSigned m 0x0503 t.body c.1 b0 = none → asks c.1 i → i.code = 0x0200 →
              RunsS (.logbookClear m) s (fun u => u.body.logbook.clearing.isSome = true ∧ (mbx u.body m).taken = some t ∧ used c.1 u.body)))
      ∧ (Asked m 0x0702 t b0 → let party := bfield t.body 0 1
          Runs (.accordNonce m) s [.host, .regs, .trust, .free, .logbook] (fun b => ∃ v : List Byte, v.length = 32
            ∧ (⟨party, v, hourMs b0⟩ : Nonce) ∈ b.trust.nonces ∧ (b.trust.nonces.filter (fun y => y.party == party)).length ≤ 8
            ∧ Answered m t 0 (v ++ leBytes 8 (serial b0) ++ leBytes 8 (lastSeqOf b0 party)) b))
      ∧ Runs .nonceExpire s [.trust] (fun b => b.trust = { b0.trust with nonces := validNonces b0 1 ++ validNonces b0 2 })
      ∧ (shepherdActive b0 = true →
          spdm (.spdmGetVersion n) 0 1 "SPDM_VERSION" 0x04 0 ([0, 1] ++ leBytes 2 0x1200)
            ∧ spdm (.spdmGetCapabilities n) 1 2 "SPDM_CAPABILITIES" 0x61 0 (leBytes 1 0 ++ leBytes 1 (Config.rackWord 1 0) ++ leBytes 2 0
                ++ leBytes 4 0x16 ++ leBytes 4 (Config.rackWord 1 1) ++ leBytes 4 (Config.rackWord 1 2))
            ∧ (∀ x y z, spdm (.spdmNegotiateAlgorithms n x y z) 2 3 "SPDM_ALGORITHMS" 0x63 0 (leBytes 2 36 ++ leBytes 1 (x.land 1)
                ++ leBytes 1 0 ++ leBytes 4 4 ++ leBytes 4 (y.land 0x80) ++ leBytes 4 (z.land 2) ++ leBytes 16 0))
            ∧ spdm (.spdmGetDigests n) 3 3 "SPDM_DIGESTS" 0x01 1 (sha384 Config.certificateChain)
            ∧ (∀ off len, off ≤ Config.certificateChain.length → let p := bslice Config.certificateChain off len
                spdm (.spdmGetCertificate n 0 off len) 3 3 "SPDM_CERTIFICATE" 0x02 0 (leBytes 2 p.length
                  ++ leBytes 2 (Config.certificateChain.length - off - p.length) ++ p))
            ∧ (∀ x kind nonce, 3 ≤ come → x ≠ 0 → Runs (.spdmChallenge n x kind nonce) s [.sent, .rack] (tells "SPDM_ERROR" 0x7F 1 0 []))
            ∧ (∀ kind nonce, 3 ≤ come → kind = 0 ∨ kind = 1 ∨ kind = 255 → Runs (.spdmChallenge n 0 kind nonce) s [.sent, .rack, .free] (fun b =>
                ∃ (v : List Byte) (k : Nat), v.length = 32
                  ∧ (let x := sha384 Config.certificateChain ++ v ++ measurementSummary b0 kind ++ leBytes 2 0
                     tells "SPDM_CHALLENGE_AUTH" 0x03 0 1 (x ++ Config.deviceSignature (nonce ++ x) k) b)))
            ∧ (∀ ix nonce, 3 ≤ come → 1 ≤ ix → ix ≤ 8 → Runs (.spdmGetMeasurements n ix false nonce) s [.sent, .rack, .free] (fun b =>
                ∃ v : List Byte, v.length = 32 ∧ tells "SPDM_MEASUREMENTS" 0x60 0 0 (leBytes 1 1 ++ leBytes 3 (measurementBlock b0 ix).length
                  ++ measurementBlock b0 ix ++ v ++ leBytes 2 0) b)))
      ∧ (∀ l, 1 ≤ l → l ≤ getF b0 R.SHP_TRUST.debug_level 0 → Runs (.debugPortAccess (.openSession l)) s [.trust, .logbook] (fun b =>
          b.trust = { b0.trust with session := l }))
      ∧ Runs (.debugPortAccess .closeSession) s [.trust, .logbook] (fun b => b.trust = { b0.trust with session := 0 })
      ∧ (2 ≤ rights → Runs (.debugPortAccess (.halt w)) s [.host, .sent] (fun b => (shepherd b w).halted = true)
          ∧ Runs (.debugPortAccess (.resume w)) s [.host, .sent] (fun b => (shepherd b w).halted = false))
      ∧ (rights < 2 → ∀ x data, same (.debugPortAccess (.halt w)) ∧ same (.debugPortAccess (.writeControl x data)))
      ∧ (rights < 1 → ∀ x k, same (.debugPortAccess (.readControl x k)))

/-- The host attachment (R500, R502, R504, R507 to R510, R514, R518, R593): the resets of the link clear what faces the host; a cause
is cleared, masked, tested and its message sent; a doorbell makes its mailbox pending or is discarded; a request is taken
when its turn comes, and refused at its first failed check. -/
def Obligations.HostLink : Prop :=
  ∀ (m v mask : Nat) (s : State), m < 16 → v < 30 → mask < 2 ^ 30 →
    let b0 := s.body
    let same := fun c => Runs c s [] (fun b => b = b0)
    let cause := getF b0 R.IRQ_CAUSE.cause 0
    let st := getF b0 R.MBX_STATUS.state m
    (∀ c ∈ [Instr.pcieFunctionReset, .pcieConventionalReset, .pcieLinkLoss], Runs c s [.regs, .host] (fun b =>
        getF b R.IRQ_CAUSE.cause 0 = 0 ∧ getF b R.IRQ_MASK.mask 0 = 0x3FFFFFFF ∧ b.host.msix = [] ∧ b.host.msixPending = 0 ∧ b.host.fnMask = false
          ∧ getF b R.MBX_STATUS.state m = (if st = 1 ∨ st = 3 then 0 else st) ∧ flagF b R.MBX_ALIVE.seen m = false
          ∧ (∀ h, h < 4 → getF b R.DRV_HQ_HEAD.head h = 0 ∧ getF b R.DRV_HQ_TAIL.tail h = 0)
          ∧ getF b R.LGB_WIN_STATUS.state 0 = 0 ∧ flagF b R.LGB_CTRL.follow 0 = false
          ∧ b.host.linkUp = (b0.host.linkUp && decide (c ≠ .pcieLinkLoss))
          ∧ ∀ g j, g.idx < 1024 → g.idx ∉ [R.IRQ_CAUSE.cause, R.IRQ_MASK.mask, R.MBX_STATUS.state, R.MBX_ALIVE.seen, R.DRV_HQ_HEAD.head,
              R.DRV_HQ_TAIL.tail, R.LGB_WIN_STATUS.state, R.LGB_CTRL.follow].map Field.idx → getF b g j = getF b0 g j))
      ∧ (∀ rate width, rate < 6 → width ∈ [1, 2, 4, 8, 16] → b0.cox.path.housekeeping = true → b0.cox.path.heldReset = false →
          Runs (.pcieLinkUp rate width true) s [.regs, .host] (fun b => b.host = { b0.host with linkUp := true }
              ∧ getF b R.GBL_PCIE.rate 0 = rate ∧ getF b R.GBL_PCIE.width 0 = width ∧ flagF b R.GBL_PCIE.no_flit 0 = false)
            ∧ Runs (.pcieLinkUp rate width false) s [.regs, .host] (fun b => b.host.linkUp = false ∧ flagF b R.GBL_PCIE.no_flit 0 = true))
      ∧ Runs (.irqCauseClear mask) s [.regs, .host] (fun b => bit (getF b R.IRQ_CAUSE.cause 0) v = (bit cause v && !bit mask v)
          ∧ bit b.host.msixPending v = (bit b0.host.msixPending v && !bit mask v) ∧ RegsBut [R.IRQ_CAUSE.cause] 0 b0 b)
      ∧ Runs (.irqMaskWrite mask) s [.regs, .host, .sent] (fun b => getF b R.IRQ_MASK.mask 0 = mask ∧ RegsBut [R.IRQ_MASK.mask] 0 b0 b
          ∧ (bit (getF b0 R.IRQ_MASK.mask 0) v = true → bit mask v = false → bit cause v = true → b0.host.fnMask = false →
              (msixEntry b0 v).masked = false → .msix v ∈ b.sent))
      ∧ Runs (.irqTest mask) s [.regs, .host, .sent] (fun b => bit (getF b R.IRQ_CAUSE.cause 0) v = (bit cause v || bit mask v)
          ∧ RegsBut [R.IRQ_CAUSE.cause] 0 b0 b
          ∧ (bit cause v = false → bit mask v = true → bit (getF b0 R.IRQ_MASK.mask 0) v = false →
              if b0.host.fnMask = true ∨ (msixEntry b0 v).masked = true then bit b.host.msixPending v = true else .msix v ∈ b.sent)
          ∧ (.msix v ∈ b.sent → .msix v ∈ b0.sent ∨ bit cause v = false ∧ bit mask v = true))
      ∧ Runs (.msixUnmask v) s [.host, .sent] (fun b => (msixEntry b v).masked = false
          ∧ (bit b0.host.msixPending v = true → b0.host.fnMask = false → bit b.host.msixPending v = false
              ∧ (bit cause v = true → b.sent = .msix v :: b0.sent) ∧ (bit cause v = false → b.sent = b0.sent)))
      ∧ (st = 1 ∨ st = 2 → Runs (.mbxDoorbell m) s [.regs] (fun b => flagF b R.MBX_STATUS.overrun m = true ∧ RegsBut [R.MBX_STATUS.overrun] m b0 b))
      ∧ (st = 0 ∨ st = 3 → Runs (.mbxDoorbell m) s [.regs, .host] (fun b => getF b R.MBX_STATUS.state m = 1
          ∧ b.host.doorbells = b0.host.doorbells ++ [m] ∧ (mbx b m).response = [] ∧ RegsBut [R.MBX_STATUS.state] m b0 b))
      ∧ (mayTake b0 m = false → same (.mailboxTake m))
      ∧ (mayTake b0 m = true →
          let n := reqField b0 m 4 2
          let t : Taken := { opcode := reqField b0 m 0 2, alive := reqField b0 m 2 2, noIrq := bit (reqField b0 m 6 1) 0, tag := reqField b0 m 8 8
                             body := reqBytes b0 m 16 (min n 4076), at_ := b0.now }
          let whole := n ≤ 4076 ∧ n % 4 = 0
          let sound := crc32c (reqBytes b0 m 0 (16 + n)) = reqField b0 m (16 + n) 4
          (t.noIrq = true → 4076 < n ∨ n % 4 ≠ 0 → Runs (.mailboxTake m) s [.regs, .host] (Refused m t 3 (some 4) 0))
            ∧ (t.noIrq = true → whole → ¬ sound → Runs (.mailboxTake m) s [.regs, .host] (Refused m t 4 (some (16 + n)) 0))
            ∧ (t.noIrq = true → whole → sound → flagF b0 R.MBX_ALIVE.seen m = true →
                aliveCheck 16 (getF b0 R.MBX_ALIVE.last m) t.alive = .repeated →
                Runs (.mailboxTake m) s [.regs, .host] (Refused m t 5 (some 2) (getF b0 R.MBX_ALIVE.last m)))
            ∧ (∀ e, t.noIrq = true → whole → sound → flagF b0 R.MBX_ALIVE.seen m = false →
                bodyChecks b0 m t.opcode t.body (reqField b0 m 6 2) = some e →
                Runs (.mailboxTake m) s [.regs, .host] (Refused m t e.1 e.2.1 e.2.2))
            ∧ (whole → sound → flagF b0 R.MBX_ALIVE.seen m = false → bodyChecks b0 m t.opcode t.body (reqField b0 m 6 2) = none →
                Runs (.mailboxTake m) s [.regs, .host] (fun b => (mbx b m).taken = some t ∧ getF b R.MBX_STATUS.state m = 2
                  ∧ getF b R.MBX_ALIVE.last m = t.alive ∧ flagF b R.MBX_ALIVE.seen m = true
                  ∧ b.host.doorbells = b0.host.doorbells.filter (fun x => x != m)
                  ∧ RegsBut [R.MBX_STATUS.state, R.MBX_ALIVE.last, R.MBX_ALIVE.seen] m b0 b)))

/-- The commands that read (R527, R528, R540, R541, R545, R547 to R549, R557): each answers OK with what it reads and changes nothing
but its mailbox (and, for a cursor, the cursor); an engine or slot that is absent, a handle that is not open and a count out
of range are refused with the offset of the field. -/
def Obligations.ReadingCommands : Prop :=
  ∀ (m : Nat) (t : Taken) (s : State),
    let b0 := s.body
    let f := bfield t.body
    let reads := fun c r => Runs c s [.regs, .host] (fun b => Answered m t 0 r b ∧ RegsBut [R.MBX_STATUS.state, R.MBX_TIME.last_us] m b0 b)
    let refuses := fun c off => Runs c s [.regs, .host] (Refused m t 0x0A (some off) 0)
    (Asked m 0x0001 t b0 → reads (.identify m) (identify b0))
      ∧ (Asked m 0x0002 t b0 → reads (.status m) (statusBody b0))
      ∧ (Asked m 0x0203 t b0 → reads (.ledgerRead m) (ledgerRead b0))
      ∧ (Asked m 0x0401 t b0 → reads (.storageStatus m) (storageStatus b0))
      ∧ (Asked m 0x0301 t b0 → let e := f 0 1
          let l := f 1 1
          (19 < e → refuses (.coxLoopRead m) 16)
            ∧ (e ≤ 19 → slotPresent b0 e l = false → refuses (.coxLoopRead m) 17)
            ∧ (e ≤ 19 → slotPresent b0 e l = true → ∃ r, reads (.coxLoopRead m) r ∧ r.take 144 = wordsAt b0 .cox e (0x1000 + 0x100 * l) 36
              ∧ (r.drop 144).take 32 = wordsAt b0 .cox e (0x4000 + 0x200 * l + 0x20 * getF b0 R.COX_REGION.region (lix e l)) 8))
      ∧ (Asked m 0x0902 t b0 → (f 8 2 < 1 ∨ 120 < f 8 2 → refuses (.failoverStatus m) 24)
          ∧ (1 ≤ f 8 2 → f 8 2 ≤ 120 → b0.flock.filling = false → b0.fail.fill = none → ∃ r, reads (.failoverStatus m) r
            ∧ r.take 8 = leBytes 8 b0.fail.lastSeq ∧ r.drop 32 = ((b0.fail.records.filter (fun x => decide (f 0 8 ≤ x.seq))).take (f 8 2)).flatMap FailRecord.bytes))
      ∧ (Asked m 0x0501 t b0 → let held := heldIn b0.logbook (f 0 1)
          let oldest := (held.head?.map (·.seq)).getD 0
          let h := newHandle b0.logbook 1
          Runs (.logbookOpenCursor m) s [.regs, .host, .logbook] (fun b =>
            (⟨1, h, f 0 1, if f 8 8 = 0 then oldest else f 8 8, b0.logbook.uses⟩ : Cursor) ∈ b.logbook.cursors
              ∧ Answered m t 0 (leBytes 2 h ++ leBytes 2 0 ++ leBytes 8 oldest ++ leBytes 8 ((held.getLast?.map (·.seq)).getD 0) ++ leBytes 4 0) b))
      ∧ (Asked m 0x0502 t b0 → let found := b0.logbook.cursors.find? (fun c => c.origin == 1 && c.handle == f 0 2)
          (found = none → refuses (.logbookRead m) 16)
            ∧ (∀ c, found = some c → f 2 2 % 8 ≠ 0 ∨ f 2 2 < 1032 ∨ 4056 < f 2 2 → refuses (.logbookRead m) 18)
            ∧ (∀ c, found = some c → f 2 2 % 8 = 0 → 1032 ≤ f 2 2 → f 2 2 ≤ 4056 →
              let a := logAnswer b0.logbook c.area c.seq (f 2 2)
              let bytes := a.records.flatMap LogRec.bytes
              Runs (.logbookRead m) s [.regs, .host, .logbook] (fun b =>
                Answered m t 0 (leBytes 8 a.next ++ leBytes 2 bytes.length ++ leBytes 1 a.records.length
                  ++ leBytes 1 (ofFlag a.atEnd + ofFlag a.skipped * 2) ++ leBytes 4 0 ++ bytes) b
                  ∧ ({ c with seq := a.next, used := b0.logbook.uses } : Cursor) ∈ b.logbook.cursors)))

/-- The commands that change state (R251, R252, R317, R318, R424, R428, R523, R526, R529 to R539, R543, R544, R546, R551, R558, R606,
R625, R626, R629, R630): each is refused at its first failed check and then changes nothing; otherwise it has its effect and
answers OK: a clock set, a plan loaded, a flock joined or left, a run started or stopped, a contract and a cap under their
party's signature, a loop's supervision, a balancing policy, counters granted, a pair set, a drain begun or cancelled. -/
def Obligations.ChangingCommands : Prop :=
  ∀ (m : Nat) (t : Taken) (s : State),
    let b0 := s.body
    let f := bfield t.body
    let act := (t.body.getD 0 0).toNat
    let same := fun c => Runs c s [] (fun b => b = b0)
    let does := fun c (r : List Byte) (P : Body → Prop) => RunsS c s (fun u => Answered m t 0 r u.body ∧ P u.body)
    let refuses := fun c (r : Reply) => ∀ st off d, r = .no st off d → Runs c s [.regs, .host] (Refused m t st off d)
    (Asked m 0x0003 t b0 → (f 0 6 < 1577836800000 → refuses (.timeSet m) (badField 0))
        ∧ (1577836800000 ≤ f 0 6 → does (.timeSet m) (leBytes 6 (calendar b0) ++ leBytes 1 (ofFlag b0.host.calValid) ++ leBytes 1 0 ++ hourStamp b0)
          (fun b => b.host.calBase = f 0 6 ∧ b.host.calAt = b0.now ∧ b.host.calValid = true ∧ hourStamp b = hourStamp b0
              ∧ (powered b0 = true → queueBytes b0.logbook.queue + 200 ≤ 262144 → ∃ r x, b.logbook.queue = b0.logbook.queue ++ [r, x]
                ∧ r.cls = 0x104 ∧ r.seq = b0.logbook.nextSeq ∧ r.payload = leBytes 6 (f 0 6) ++ leBytes 2 1
                  ++ (leBytes 6 (calendar b0) ++ leBytes 1 (ofFlag b0.host.calValid) ++ leBytes 1 0)))))
      ∧ (Asked m 0x0101 t b0 → (replayOrFill b0 = true → refuses (.planLoad m) (.no 1 none 4))
        ∧ (replayOrFill b0 = false → f 0 8 % 64 ≠ 0 ∨ 12 * stackBytes ≤ f 0 8 → refuses (.planLoad m) (badField 0))
        ∧ (replayOrFill b0 = false → f 0 8 % 64 = 0 → f 0 8 < 12 * stackBytes → f 8 8 = 0 ∨ 12 * stackBytes < f 0 8 + f 8 8 →
            refuses (.planLoad m) (badField 8))
        ∧ (replayOrFill b0 = false → f 0 8 % 64 = 0 → f 8 8 ≠ 0 → f 0 8 + f 8 8 ≤ 12 * stackBytes → getF b0 R.TLY_STROKE_STATUS.state 0 ≠ 0 →
            refuses (.planLoad m) (.no 1 none 2))
        ∧ (replayOrFill b0 = false → f 0 8 % 64 = 0 → f 8 8 ≠ 0 → f 0 8 + f 8 8 ≤ 12 * stackBytes → getF b0 R.TLY_STROKE_STATUS.state 0 = 0 →
            let r := readPlanImage (f 0 8) (f 8 8) s
            let b := r.2.body
            planChecks r.1.1 (f 8 8) r.1.2.isEmpty (if joined b ∨ flagF b R.GBL_MODULE.valid 0 then some (moduleIndex b) else none)
                (if joined b then b.flock.planLevel else 1) (f 0 8) b = none →
              RunsS (.planLoad m) s (fun u => u.body.flock.plan = some (planOf r.1.1 (f 0 8) (f 8 8)) ∧ (mbx u.body m).taken = none)))
      ∧ (Asked m 0x0102 t b0 → (∀ r, joinChecks t.body b0 = some r → refuses (.flockJoin m) r)
        ∧ (joinChecks t.body b0 = none → RunsS (.flockJoin m) s (fun u => joined u.body = true ∧ u.body.flock.flockId = f 2 2
          ∧ u.body.flock.role = f 4 1 ∧ u.body.flock.members = rangeIds (joinRanges t.body 0 (f 8 2)) ∧ (mbx u.body m).taken = none)))
      ∧ (Asked m 0x0103 t b0 → joined b0 = true → getF b0 R.TLY_STROKE_STATUS.state 0 = 0 → replayOrFill b0 = false →
          (b0.fail.pairState = 2 → refuses (.flockLeave m) (.no 8 none 0))
            ∧ (b0.fail.pairState ≠ 2 → flagF b0 R.TLY_STANDIN.valid 0 = false → does (.flockLeave m) [] (fun b => joined b = false
              ∧ flagF b R.TLY_STROKE_CTRL.enable 0 = false ∧ b.fail.returning = none)))
      ∧ (Asked m 0x0103 t b0 → joined b0 = false → refuses (.flockLeave m) (.no 6 none 1))
      ∧ (Asked m 0x0104 t b0 →
          (∀ r ∈ [(Instr.strokeStartRun m, 1), (.strokeStartStop m, 2), (.strokeStartInbound m, 3)], act = r.2 → ∀ x,
              startChecks r.2 t.body b0 = some x → refuses r.1 x)
            ∧ (act = 1 → startChecks 1 t.body b0 = none → does (.strokeStartRun m) (leBytes 6 (strokeNum b0 + 1) ++ leBytes 2 0) (fun b =>
              b.flock.runOpen = true ∧ b.flock.runKind = f 2 2 ∧ b.flock.stopAsked = false ∧ b.flock.inboundNext = inboundOf t.body))
            ∧ (act = 2 → startChecks 2 t.body b0 = none → lastSent b0 = none → does (.strokeStartStop m) (leBytes 6 (nextStart b0) ++ leBytes 2 0)
              (fun b => b.flock = { b0.flock with stopAsked := true }))
            ∧ (act = 3 → startChecks 3 t.body b0 = none → does (.strokeStartInbound m) (leBytes 6 (nextStart b0) ++ leBytes 2 0)
              (fun b => b.flock = { b0.flock with inboundNext := inboundOf t.body })))
      ∧ (let spent := fun (b : Body) => ∀ y ∈ b.trust.nonces, y ∈ b0.trust.nonces ∧ ¬ (y.party = f 8 1 ∧ y.value = bslice t.body 28 32)
         (∀ r ∈ [(Instr.contractSet m, 0x0201, [1]), (.capEmergency m, 0x0202, [1, 2])], Asked m r.2.1 t b0 → ∀ d,
              blockFails b0 r.2.1 r.2.2 t.body = some d → Runs r.1 s [.regs, .host, .logbook] (Refused m t 6 none d))
           ∧ (Asked m 0x0201 t b0 → blockFails b0 0x0201 [1] t.body = none → 1200 ≤ f 0 2 → f 0 2 ≤ getF b0 R.LDG_ENVELOPE.level_max_w 0 →
               f 0 2 < 2 ^ 14 → 30 ≤ f 2 1 → f 2 1 ≤ 80 →
               eFloorSet b0 + 2000000 ≤ ((getF b0 R.LDG_ECAP.ecap_mj 0 * f 2 1 / 100 : Nat) : Int) → does (.contractSet m)
                 (leBytes 2 (f 0 2) ++ leBytes 2 (f 2 1) ++ leBytes 2 (getF b0 R.LDG_ENVELOPE.level_max_w 0) ++ leBytes 2 0) (fun b =>
                   getF b R.LDG_LEVEL.level_w 0 = f 0 2 ∧ getF b R.LDG_LEVEL.trim_pct 0 = f 2 1
                     ∧ getF b R.COX_PG_TARGET.target (pix 16 0) = bfRat (f 0 2) 1 % 2 ^ 32 ∧ spent b))
           ∧ (Asked m 0x0202 t b0 → blockFails b0 0x0202 [1, 2] t.body = none → f 0 2 = 0 ∨ 1200 ≤ f 0 2 ∧ f 0 2 ≤ 10500 →
               getF b0 R.COX_CAP.cap_w 16 = 0 → let c := capInForce b0 (f 8 1) (f 0 2)
               does (.capEmergency m) (leBytes 2 c.1 ++ leBytes 1 c.2 ++ leBytes 5 0) (fun b => getF b R.COX_CAP.cap_w 16 = c.1
                 ∧ b.cox.path.capBy = c.2 ∧ spent b)))
      ∧ (Asked m 0x0302 t b0 → let i := lix (f 0 1) (f 1 1)
          let open_ := f 0 1 ≤ 19 ∧ slotPresent b0 (f 0 1) (f 1 1) = true
            ∧ (loopPg b0 (f 0 1) (f 1 1)).any (fun k => getF b0 R.COX_PG_CTRL.owner (pix (f 0 1) k) == 1) = false
          (open_ → (t.body.getD 2 0).toNat = 1 → 1 ≤ f 3 1 → f 3 1 ≤ 3 → (bit (f 3 1) 0 = true → satDefault (f 0 1) (f 1 1) = true) →
              (bit (f 3 1) 1 = true → plausDefault (f 0 1) (f 1 1) = true) → RunsS (.coxModeSetSupSel m) s (fun u =>
              getF u.body R.COX_LOOP_CFG.sup_sel i = f 3 1 ∧ ∃ r, modeAnswer t.body u.body = .ok r ∧ Answered m t 0 r u.body))
            ∧ (open_ → (t.body.getD 2 0).toNat = 2 → satDefault (f 0 1) (f 1 1) = true → plausDefault (f 0 1) (f 1 1) = false →
              within4 (f 4 2) (fieldReset R.COX_SUP_CFG.sat_time.idx i : Nat) = true → RunsS (.coxModeSetSupTimes m) s (fun u =>
              getF u.body R.COX_SUP_CFG.sat_time i = f 4 2 ∧ (mbx u.body m).taken = none))
            ∧ (open_ → (t.body.getD 2 0).toNat = 3 → getF b0 R.TLY_STROKE_STATUS.state 0 = 0 → (groupPartner (f 0 1) (f 1 1)).isSome = true →
              f 12 1 ≤ 4 → RunsS (.coxModeSetGroup m) s (fun u => SMap.get u.body.trust.groups 0 i = f 12 1 ∧ (mbx u.body m).taken = none))
            ∧ (19 < f 0 1 → ∀ r ∈ [(Instr.coxModeSetSupSel m, 1), (.coxModeSetSupTimes m, 2), (.coxModeSetGroup m, 3)],
              (t.body.getD 2 0).toNat = r.2 → refuses r.1 (badField 0)))
      ∧ (Asked m 0x0402 t b0 → (1 < f 0 1 → refuses (.balancePolicy m) (badField 0))
        ∧ (f 0 1 ≤ 1 → 4 ≤ f 1 1 → f 1 1 ≤ 100 → 1 ≤ f 2 1 → f 2 1 ≤ 15 → f 2 1 < f 1 1 → 30 ≤ f 3 1 → f 3 1 ≤ 63 → 2500 ≤ f 4 2 → f 4 2 ≤ 3800 →
          does (.balancePolicy m) (t.body.take 6 ++ [0, 0]) (fun b => getF b R.CMN_BAL_POLICY.mode 0 = f 0 1
            ∧ getF b R.CMN_BAL_POLICY.threshold_mv 0 = f 1 1 ∧ getF b R.CMN_BAL_POLICY.hyst_mv 0 = f 2 1
            ∧ getF b R.CMN_BAL_POLICY.temp_max_c 0 = f 3 1 ∧ getF b R.CMN_BAL_POLICY.min_mv 0 = f 4 2)))
      ∧ (Asked m 0x0601 t b0 → ∀ r ∈ [(Instr.countersGrant m, 1, true), (.countersRevoke m, 0, false)], act = r.2.1 →
          ∀ l, f 1 1 < 16 → l < 48 → does r.1 [] (fun b => flagF b R.PMC_STN_STATUS.granted (f 1 1 * 48 + l)
            = if bit (f 8 8) l = true ∧ (physOf b0 (f 1 1) l).isSome = true then r.2.2 else flagF b0 R.PMC_STN_STATUS.granted (f 1 1 * 48 + l)))
      ∧ (Asked m 0x0901 t b0 → (∀ r ∈ [(Instr.pairSet m, true), (.pairSetUnpair m, false)], bit (f 2 1) 0 = r.2 → ∀ x,
            pairChecks t.body b0 = some x → refuses r.1 x)
        ∧ (bit (f 2 1) 0 = true → pairChecks t.body b0 = none → does (.pairSet m) [] (fun b =>
            b.fail.pair = some ⟨f 0 2, f 3 1, pairRanges t.body⟩ ∧ b.fail.pairState = 1
              ∧ ∀ k, k < 12 → getF b R.MEM_MIR_OFFSET.offset k = 0xA00000000))
        ∧ (bit (f 2 1) 0 = false → pairChecks t.body b0 = none → b0.fail.pair.isSome = true → does (.pairSetUnpair m) [] (fun b =>
            b.fail.pair = none ∧ b.fail.pairState = 0 ∧ ∀ k, k < 12 → flagF b R.MEM_MIR_CFG.enable k = false)))
      ∧ (let drained := fun c n => shepherdActive b0 = true → RunsS c s (fun u => u.body.rack.drain = n
            ∧ bit (getF u.body R.IRQ_CAUSE.cause 0) 27 = true)
         (Asked m 0x0903 t b0 → (act = 1 → b0.rack.drain = 0 → does (.drainBegin m) [1, 0, 0, 0, 0, 0, 0, 0] (fun b => b.rack.drain = 1
              ∧ bit (getF b R.IRQ_CAUSE.cause 0) 27 = true))
            ∧ (∀ n, act = 1 → b0.rack.drain = n → n ≠ 0 → n < 4 → does (.drainBegin m) [BitVec.ofNat 8 n, if n = 3 then 1 else 0, 0, 0, 0, 0, 0, 0] (fun b => b.rack.drain = n))
            ∧ (act = 0 → does (.drainCancel m) [0, 0, 0, 0, 0, 0, 0, 0] (fun b => b.rack.drain = 0
              ∧ (b0.rack.drain ≠ 0 → bit (getF b R.IRQ_CAUSE.cause 0) 27 = true))))
          ∧ (b0.rack.drain = 1 → b0.rack.handedOff = true ∨ flagF b0 R.TLY_SEAT.valid 0 = false → drained .drainStateChange 2)
          ∧ (b0.rack.drain = 1 → b0.rack.handedOff = false → flagF b0 R.TLY_SEAT.valid 0 = true → same .drainStateChange)
          ∧ (b0.rack.drain = 2 → pullReady b0 = true → drained .drainStateChange 3)
          ∧ (b0.rack.drain = 2 → pullReady b0 = false → same .drainStateChange)
          ∧ (b0.rack.drain = 3 → pullReady b0 = false → drained .drainStateChange 2)
          ∧ (b0.rack.drain = 3 → pullReady b0 = true → same .drainStateChange)
          ∧ (b0.rack.drain = 0 → same .drainStateChange)
          ∧ (shepherdActive b0 = true → Runs (.getstatesensorreadings 11) s [.sent] (fun b => b.sent
              = .response "GETSTATESENSORREADINGS" [0, 1, 0, b0.rack.drain + 1, (sensor b0 11).previous + 1] :: b0.sent)))

/-- The logbook (R583, R586 to R594): a record goes to the first area while it has room, then for good to the circulating last area,
whose oldest sector is erased to keep two ahead; a LOST record names what was dropped; a clear erases sector by sector and then
completes its command; start-up scans; the window reads from the cursor. -/
def Obligations.LogbookCommands : Prop :=
  ∀ (s : State),
    let b0 := s.body
    let l := b0.logbook
    let on := shepherdActive b0 = true
    let same := fun c => Runs c s [] (fun b => b = b0)
    let firstAt := fun (n : Nat) => if l.firstUsed + n ≤ 65536 then l.firstSector else l.firstSector + 1
    let kept := fun (r : LogRec) => if standbyWrites b0 then l.behind else l.behind ++ [r.seq]
    let cleared := fun (a x : Nat) => l.held.filter (fun h => !(h.area == a && h.sector == x))
    let noted := fun (u : State) => bit (getF u.body R.IRQ_CAUSE.cause 0) 25 = true
    (∀ a z k, on → powered b0 = true → l.dropped = some (a, z, k) → queueBytes l.queue + 56 ≤ 262144 → RunsS .lostRecord s (fun u =>
        u.body.logbook.dropped = none ∧ u.body.logbook.nextSeq = l.nextSeq + 1 ∧ noted u
          ∧ getF u.body R.LGB_STATUS.lost 0 = min (getF b0 R.LGB_STATUS.lost 0 + k) 65535
          ∧ ∃ r, u.body.logbook.queue = l.queue ++ [r] ∧ r.seq = l.nextSeq ∧ r.cls = 0xFF ∧ r.payload = leBytes 8 a ++ leBytes 8 z ++ leBytes 8 k))
      ∧ (¬ on ∨ l.dropped = none → same .lostRecord)
      ∧ (∀ x, l.dropped = some x → 262144 < queueBytes l.queue + 56 → same .lostRecord)
      ∧ (l.queue = [] ∨ ¬ on → same .logbookFlashWrite)
      ∧ (∀ r q, on → l.queue = r :: q → l.clearing = none →
          (flagF b0 R.LGB_STATUS.first_full 0 = false → firstAt r.length < 32 → RunsS .logbookFlashWrite s (fun u =>
            u.body.logbook.held = l.held ++ [⟨r, 0, firstAt r.length⟩] ∧ u.body.logbook.queue = q ∧ u.body.logbook.behind = kept r))
          ∧ (flagF b0 R.LGB_STATUS.first_full 0 = true ∨ 32 ≤ firstAt r.length →
            let spot := if l.lastUsed + r.length ≤ 65536 then l.lastSector else (l.lastSector + 1) % 480
            (l.lastUsed + r.length ≤ 65536 ∨ l.lastErased ≠ 0 → RunsS .logbookFlashWrite s (fun u =>
                u.body.logbook.held = l.held ++ [⟨r, 1, spot⟩] ∧ u.body.logbook.queue = q ∧ u.body.logbook.behind = kept r
                  ∧ flagF u.body R.LGB_STATUS.first_full 0 = true))
              ∧ (65536 < l.lastUsed + r.length → l.lastErased = 0 → same .logbookFlashWrite)))
      ∧ (on → l.clearing = none → 2 ≤ l.lastErased → same .logbookSectorErase)
      ∧ (on → l.clearing = none → l.lastErased < 2 → RunsS .logbookSectorErase s (fun u => u.body.logbook.lastErased = l.lastErased + 1
          ∧ u.body.logbook.held = cleared 1 ((l.lastSector + l.lastErased + 1) % 480) ∧ u.body.logbook.queue = l.queue))
      ∧ (∀ c a x rest, on → l.clearing = some c → c.left = (a, x) :: rest →
          (rest ≠ [] → RunsS .logbookSectorErase s (fun u => u.body.logbook.held = cleared a x
            ∧ u.body.logbook.clearing = some { c with left := rest }))
          ∧ (rest = [] → RunsS .logbookSectorErase s (fun u => u.body.logbook.held = cleared a x ∧ u.body.logbook.clearing = none
            ∧ flagF u.body R.LGB_STATUS.clearing 0 = false
            ∧ ∀ t, Asked c.mailbox 0x0503 t b0 → Answered c.mailbox t 0 (leBytes 8 c.record) u.body)))
      ∧ (∀ bad tf tl,
          (power b0 = 2 → on → stepIsDone b0 1 = true → stepIsDone b0 2 = false → RunsS (.logbookScan bad tf tl true) s (fun u =>
              stepIsDone u.body 2 = true ∧ u.body.logbook.held = l.held.filter (fun h => !bad.contains h.entry.seq)
                ∧ u.body.logbook.firstUsed = (if tf then 65536 else l.firstUsed) ∧ u.body.logbook.lastUsed = (if tl then 65536 else l.lastUsed)
                ∧ (powered b0 = true → queueBytes l.queue + 48 ≤ 262144 →
                    ∃ r, u.body.logbook.queue = l.queue ++ [r] ∧ r.cls = 1 ∧ r.seq = l.nextSeq)))
            ∧ (∀ ok, power b0 ≠ 2 ∨ ¬ on ∨ stepIsDone b0 1 = false ∨ stepIsDone b0 2 = true → same (.logbookScan bad tf tl ok)))
      ∧ Runs .logbookMirrorComplete s [.logbook, .regs] (fun b => b.logbook = { l with behind := [] }
          ∧ flagF b R.LGB_STATUS.mirror_behind 0 = false ∧ RegsBut [R.LGB_STATUS.mirror_behind] 0 b0 b)
      ∧ (on → Runs .hourStampSave s [.host] (fun b => b.host = { b0.host with opSaved := hourMs b0 }))
      ∧ (¬ on → same .hourStampSave)
      ∧ Runs .lgbLoad s [.regs] (fun b => getF b R.LGB_WIN_STATUS.state 0 = 1 ∧ RegsBut [R.LGB_WIN_STATUS.state] 0 b0 b)
      ∧ (getF b0 R.LGB_WIN_STATUS.state 0 ≠ 2 → same .lgbAdvance)
      ∧ (∀ r, getF b0 R.LGB_WIN_STATUS.state 0 = 2 → l.windowSeqs.getLast? = some r →
          let next := (r.seq + 1) % 2 ^ 64
          let later := (logAnswer l (getF b0 R.LGB_CTRL.area 0) next 4096).records
          (flagF b0 R.LGB_CTRL.follow 0 = false ∨ later ≠ [] → Runs .lgbAdvance s [.regs] (fun b => getF b R.LGB_CURSOR.seq 0 = next
              ∧ getF b R.LGB_WIN_STATUS.state 0 = 1 ∧ RegsBut [R.LGB_CURSOR.seq, R.LGB_WIN_STATUS.state] 0 b0 b))
            ∧ (flagF b0 R.LGB_CTRL.follow 0 = true → later = [] → Runs .lgbAdvance s [.regs, .logbook] (fun b =>
              b.logbook = { l with windowSeqs := [] } ∧ getF b R.LGB_CURSOR.seq 0 = next ∧ getF b R.LGB_WIN_STATUS.state 0 = 2
                ∧ getF b R.LGB_WIN_STATUS.count 0 = 0 ∧ flagF b R.LGB_WIN_STATUS.atEnd 0 = true)))
      ∧ (getF b0 R.LGB_WIN_STATUS.state 0 = 1 → on →
          let a := logAnswer l (getF b0 R.LGB_CTRL.area 0) (getF b0 R.LGB_CURSOR.seq 0) 4096
          RunsS .lgbWindowReady s (fun u => u.body.logbook = { l with windowSeqs := a.records } ∧ getF u.body R.LGB_WIN_STATUS.state 0 = 2
            ∧ getF u.body R.LGB_WIN_STATUS.count 0 = a.records.length % 256 ∧ flagF u.body R.LGB_WIN_STATUS.atEnd 0 = a.atEnd
            ∧ flagF u.body R.LGB_WIN_STATUS.skipped 0 = a.skipped ∧ noted u))
      ∧ (getF b0 R.LGB_WIN_STATUS.state 0 ≠ 1 ∨ ¬ on → same .lgbWindowReady)

/-- The performance counters (R601, R606 to R613): a counter counts by its mode and wraps at 2⁴⁸; granted pages take no host write; a
die's buffer and timers have one claimant each; records go to the ring of their claimant; a tail write makes room. -/
def Obligations.PerformanceCounters : Prop :=
  ∀ (p k : Nat) (s : State), isCounter p k = true →
    let b0 := s.body
    let same := fun c => Runs c s [] (fun b => b = b0)
    let pg := (pageOf p).1
    let at_ := (pageOf p).2
    let i := at_ * pg.n + k
    let mode := getF b0 pg.mode i
    (∀ occ cyc ex,
        let counts := getF b0 pg.event i ≠ 0 ∧ (768 ≤ p ∨ (physOf b0 (p / 48) (p % 48)).isSome = true)
          ∧ (mode = 1 ∨ mode = 3 ∨ mode = 2 ∧ getF b0 pg.threshold i < occ)
        let reload := if mode = 3 then getF b0 (if p < 768 then R.PMC_S_RELOAD.reload else R.PMC_D_RELOAD.reload) i % 2 ^ 48 else 0
        (¬ counts → same (.pmcEventCount p k occ cyc ex))
          ∧ (counts → getF b0 pg.count i + 1 < 2 ^ 48 → Runs (.pmcEventCount p k occ cyc ex) s [.regs] (fun b =>
              getF b pg.count i = getF b0 pg.count i + 1 ∧ RegsBut [pg.count] i b0 b))
          ∧ (counts → getF b0 pg.count i + 1 = 2 ^ 48 → RunsS (.pmcEventCount p k occ cyc ex) s (fun u => getF u.body pg.count i = reload
              ∧ bit (getF u.body pg.overflow at_) k = true
              ∧ (flagF b0 pg.irq i = true → bit (getF u.body R.IRQ_CAUSE.cause 0) 26 = true)
              ∧ (triggers b0 p k = true → .pin "SYNC_AUX" 1 ∈ u.body.sent)
              ∧ (triggers b0 p k = false → flagF b0 pg.irq i = false → mode ≠ 3 → u.body.sent = b0.sent))))
      ∧ (∀ v, (p < 768 → flagF b0 R.PMC_STN_STATUS.granted p = true → same (.pmcCntWrite p k v))
          ∧ (768 ≤ p ∨ flagF b0 R.PMC_STN_STATUS.granted p = false → Runs (.pmcCntWrite p k v) s [.regs] (fun b =>
              getF b pg.count i = v % 2 ^ 48 ∧ RegsBut [pg.count] i b0 b)))
      ∧ (∀ d t w, isDie d = true → t < 4 → let n := d * 4 + t
          (getF b0 R.PMC_TIMER.period_us n = 0 → same (.pmcIntervalTick d t))
            ∧ (getF b0 R.PMC_TIMER.period_us n ≠ 0 → getF b0 R.PMC_TIMER.owner n ≠ 2 →
                getF b0 R.PMC_TIMER.owner n ≠ 1 ∨ flagF b0 R.PMC_BUF_CFG.trace_en d = false ∨ ringSize b0 d 0 = 0 → same (.pmcIntervalTick d t))
            ∧ (getF b0 R.PMC_TIMER.period_us n ≠ 0 → getF b0 R.PMC_TIMER.owner n = 1 → flagF b0 R.PMC_BUF_CFG.trace_en d = true →
                ringSize b0 d 0 ≠ 0 → let head := getF b0 R.PMC_TRC_HEAD.head d
                let next := (head + 64) % ringSize b0 d 0
                (next ≠ getF b0 R.PMC_TRC_TAIL.tail d → RunsS (.pmcIntervalTick d t) s (fun u => getF u.body R.PMC_TRC_HEAD.head d = next
                    ∧ u.body.pmc = (ringStore d 0 head (pmcRecord 4 0xFF 0 0 b0.now (leBytes 6 (strokeNum b0) ++ leBytes 2 0 ++ hourStamp b0)) b0).pmc))
                  ∧ (next = getF b0 R.PMC_TRC_TAIL.tail d → flagF b0 R.PMC_BUF_CFG.wrap d = false →
                    Runs (.pmcIntervalTick d t) s [.regs, .pmc] (fun b => b.pmc.buffer = b0.pmc.buffer
                      ∧ getF b R.PMC_DIE_STATUS.dropped d = min (getF b0 R.PMC_DIE_STATUS.dropped d + 1) 65535)))
            ∧ (getF b0 R.PMC_TIMER.period_us n ≠ 0 → getF b0 R.PMC_TIMER.owner n = 2 → ringSize b0 d 1 = 0 → RunsS (.pmcIntervalTick d t) s (fun u =>
                u.body.pmc.buffer = b0.pmc.buffer ∧ ∀ l st, physOf b0 d l = some st → flagF b0 R.PMC_STN_CFG.interval_en (d * 48 + l) = true →
                  getF b0 R.PMC_STN_CFG.timer (d * 48 + l) = t → getF u.body R.PMC_STN_STATUS.dropped (d * 48 + l)
                    = min (getF b0 R.PMC_STN_STATUS.dropped (d * 48 + l) + 1) 65535))
            ∧ (let owner := bits w 20 2
               let taken := owner ≠ 3 ∧ owner ≠ 0 ∧ getF b0 R.PMC_TIMER.owner n ≠ 0 ∧ owner ≠ getF b0 R.PMC_TIMER.owner n
               (taken → RunsS (.pmcTimerWrite d t w) s (fun u => getF u.body R.PMC_BUF_STATUS.refused d = 8
                  ∧ bit (getF u.body R.IRQ_CAUSE.cause 0) 26 = true ∧ ∀ j, getF u.body R.PMC_TIMER.owner j = getF b0 R.PMC_TIMER.owner j
                  ∧ getF u.body R.PMC_TIMER.period_us j = getF b0 R.PMC_TIMER.period_us j))
                ∧ (¬ taken → Runs (.pmcTimerWrite d t w) s [.regs] (fun b =>
                  getF b R.PMC_TIMER.period_us n = (if bits w 0 20 ≤ 1000000 then bits w 0 20 else getF b0 R.PMC_TIMER.period_us n)
                    ∧ getF b R.PMC_TIMER.owner n = if owner = 3 then getF b0 R.PMC_TIMER.owner n else owner))))
      ∧ (∀ d w, isDie d = true → let tr := bits w 0 4
          let sm := bits w 4 4
          (tr.land sm ≠ 0 → RunsS (.pmcBufCfgWrite d w) s (fun u => getF u.body R.PMC_BUF_STATUS.refused d = 8
              ∧ getF u.body R.PMC_BUF_CFG.trace_units d = getF b0 R.PMC_BUF_CFG.trace_units d
              ∧ getF u.body R.PMC_BUF_CFG.sample_units d = getF b0 R.PMC_BUF_CFG.sample_units d))
            ∧ (tr.land sm = 0 → Runs (.pmcBufCfgWrite d w) s [.regs, .pmc] (fun b => getF b R.PMC_BUF_CFG.trace_units d = tr
              ∧ getF b R.PMC_BUF_CFG.sample_units d = sm ∧ flagF b R.PMC_BUF_CFG.wrap d = bit w 8 ∧ flagF b R.PMC_BUF_CFG.trace_en d = bit w 9
              ∧ getF b R.PMC_BUF_CFG.watermark d = bits w 12 4 ∧ b.pmc.buffer = b0.pmc.buffer
              ∧ (getF b0 R.PMC_BUF_CFG.trace_units d ≠ tr → getF b R.PMC_TRC_HEAD.head d = 0 ∧ getF b R.PMC_TRC_TAIL.tail d = 0))))
      ∧ (∀ w, let src := bits w 0 2
          let held := getF b0 R.GBL_CLAIM_AUX.holder 0
          (src ≠ 0 → held = 1 → RunsS (.pmcTrigWrite w) s (fun u => flagF u.body R.PMC_TRIG.refused 0 = true
              ∧ getF u.body R.GBL_CLAIM_AUX.holder 0 = 1 ∧ getF u.body R.PMC_TRIG.source 0 = getF b0 R.PMC_TRIG.source 0))
            ∧ (src ≠ 0 → held ≠ 1 → Runs (.pmcTrigWrite w) s [.regs] (fun b => getF b R.PMC_TRIG.source 0 = src
              ∧ getF b R.PMC_TRIG.counter 0 = bits w 12 5 ∧ getF b R.GBL_CLAIM_AUX.holder 0 = 2 ∧ getF b R.SHP_SYNCAUX.mode 0 = 2))
            ∧ (src = 0 → Runs (.pmcTrigWrite w) s [.regs] (fun b => getF b R.PMC_TRIG.source 0 = 0
              ∧ getF b R.GBL_CLAIM_AUX.holder 0 = if held = 2 then 0 else held)))
      ∧ (∀ d ring tail, isDie d = true → ring < 2 → let n := SMap.get b0.pmc.lost 0 (d * 2 + ring)
          (tail % 64 ≠ 0 ∨ 262144 ≤ tail → same (.pmcRingTailWrite d ring tail))
            ∧ (tail % 64 = 0 → tail < 262144 → n = 0 ∨ ringSize b0 d ring = 0 ∨ (getF b0 (ringHead ring) d + 64) % ringSize b0 d ring = tail →
              Runs (.pmcRingTailWrite d ring tail) s [.regs] (fun b => getF b (ringTail ring) d = tail ∧ flagF b R.PMC_BUF_STATUS.full d = false
                ∧ RegsBut [ringTail ring, R.PMC_BUF_STATUS.full] d b0 b))
            ∧ (tail % 64 = 0 → tail < 262144 → n ≠ 0 → ringSize b0 d ring ≠ 0 → (getF b0 (ringHead ring) d + 64) % ringSize b0 d ring ≠ tail →
              RunsS (.pmcRingTailWrite d ring tail) s (fun u => getF u.body (ringTail ring) d = tail ∧ SMap.get u.body.pmc.lost 0 (d * 2 + ring) = 0
                ∧ u.body.pmc.buffer = (ringStore d ring (getF b0 (ringHead ring) d) (pmcRecord 5 0xFF 0 0 b0.now (leBytes 4 n)) b0).pmc.buffer)))

/-- The requests of the rack (R619 to R623): the endpoint answers while a Shepherd is active, keeps its addresses, reads its sensors,
holds at most one event of a sensor in 100 ms, relays the management channels, and takes a firmware image in the order of its update;
the codes of the standards it names are the model's (log entry 41). -/
def Obligations.RackRequests : Prop :=
  ∀ (s : State),
    let b0 := s.body
    let r0 := b0.rack
    let on := shepherdActive b0 = true
    let told := fun c w ws (r : Rack) => Runs c s [.sent, .rack] (fun b => b.sent = .response w ws :: b0.sent ∧ b.rack = r)
    let same := fun c => Runs c s [] (fun b => b = b0)
    let v := fun n => ((slotImage b0 n).map versionOf).getD 0
    let run := getF b0 R.SHP_FW_SLOTS.running_slot 0
    let enters := fun u => { r0 with updateWas := r0.update, update := u }
    let idle := r0.update = .idle
    (¬ on → ∀ a a' bs fl, ∀ c ∈ [Instr.mailboxExchange a bs, .setEndpointId a a', .getEndpointId, .getEndpointUuid, .getMctpVersionSupport a,
        .getMessageTypeSupport, .gettid, .settid a, .getpldmversion a, .getpldmtypes, .getpldmcommands a, .getpdrrepositoryinfo, .getpdr a,
        .getsensorreading a, .getstatesensorreadings a, .seteventreceiver a a', .platformEventAck, .pldmEventHoldoff a, .querydeviceidentifiers,
        .getfirmwareparameters, .requestupdate, .passcomponenttable a, .updatecomponent a a', .firmwareDataReceive bs, .activatefirmware fl,
        .getstatus, .cancelupdatecomponent, .cancelupdate], same c)
      ∧ (∀ a n, (i3cOn b0 = true → r0.i3c = none →
            Runs (.entdaa n) s [.rack] (fun b => b.rack = { r0 with i3c := some n })
            ∧ (a = 0x50 + getF b0 R.GBL_SLOT.slot 0 → Runs (.setdasa a n) s [.rack] (fun b => b.rack = { r0 with i3c := some n })))
          ∧ (i3cOn b0 = false ∨ r0.i3c.isSome = true → same (.entdaa n) ∧ same (.setdasa a n))
          ∧ (a ≠ 0x50 + getF b0 R.GBL_SLOT.slot 0 → same (.setdasa a n)))
      ∧ (on → (∀ ch req, (1 < ch → told (.mailboxExchange ch req) "MAILBOX_EXCHANGE" [ch, 2] r0)
            ∧ (ch ≤ 1 → getF b0 R.MBX_STATUS.state (16 + ch) = 1 ∨ getF b0 R.MBX_STATUS.state (16 + ch) = 2 →
                told (.mailboxExchange ch req) "MAILBOX_EXCHANGE" [ch, 4] r0)
            ∧ (ch ≤ 1 → getF b0 R.MBX_STATUS.state (16 + ch) = 0 ∨ getF b0 R.MBX_STATUS.state (16 + ch) = 3 →
                Runs (.mailboxExchange ch req) s [.host, .regs] (fun b => getF b R.MBX_STATUS.state (16 + ch) = 1
                  ∧ b.host.doorbells = b0.host.doorbells ++ [16 + ch]
                  ∧ ∀ i, i < 4096 → i < req.length → reqBytes b (16 + ch) i 1 = [req.getD i 0])))
        ∧ (∀ op e, (op < 2 → 8 ≤ e → e < 255 → told (.setEndpointId op e) "SET_ENDPOINT_ID" [0, 0, e, 0] { r0 with eid := e })
            ∧ (2 ≤ op ∨ e < 8 ∨ 255 ≤ e → told (.setEndpointId op e) "SET_ENDPOINT_ID" [2] r0))
        ∧ told .getEndpointId "GET_ENDPOINT_ID" [0, r0.eid, 0, 0] r0
        ∧ told .getEndpointUuid "GET_ENDPOINT_UUID" (0 :: Config.endpointUuid.map (·.toNat)) r0
        ∧ (∀ ty, told (.getMctpVersionSupport ty) "GET_MCTP_VERSION_SUPPORT" (if ty = 0 ∨ ty = 0xFF then [0, 1, 0xF1, 0xF3, 0xF0, 0]
            else if ty = 1 ∨ ty = 5 then [0, 1, 0xF1, 0xF0, 0xF0, 0] else [0x80]) r0)
        ∧ told .getMessageTypeSupport "GET_MESSAGE_TYPE_SUPPORT" [0, 3, 0, 1, 5] r0)
      ∧ (on → told .gettid "GETTID" [0, r0.tid] r0 ∧ told .getpldmtypes "GETPLDMTYPES" [0, 0x25, 0, 0, 0, 0, 0, 0, 0x80] r0
        ∧ (∀ n, (1 ≤ n → n < 255 → told (.settid n) "SETTID" [0] { r0 with tid := n }) ∧ (n = 0 ∨ 255 ≤ n → told (.settid n) "SETTID" [2] r0)
          ∧ (n ∉ [0, 2, 5, 0x3F] → told (.getpldmversion n) "GETPLDMVERSION" [0x83] r0 ∧ told (.getpldmcommands n) "GETPLDMCOMMANDS" [0x83] r0)
          ∧ (∀ w, pldmVersion n = some w → told (.getpldmversion n) "GETPLDMVERSION" [0, w] r0 ∧ told (.getpldmcommands n) "GETPLDMCOMMANDS"
              (0 :: (leBytes 32 ((pldmCommands n).foldl (fun a c => a + 2 ^ c) 0)).map (·.toNat)) r0))
        ∧ told .getpdrrepositoryinfo "GETPDRREPOSITORYINFO" [0, 0, 11, Config.rackWord 3 0, Config.rackWord 3 1] r0
        ∧ told (.getpdr 0) "GETPDR" [0, 2, 1, 2, 1, Config.rackWord 4 1] r0
        ∧ (∀ h, (11 < h → told (.getpdr h) "GETPDR" [0x82] r0) ∧ (h = 11 → told (.getpdr h) "GETPDR" [0, 0, h, 4, h, Config.rackWord 4 h] r0)
          ∧ (1 ≤ h → h < 11 → told (.getpdr h) "GETPDR" [0, h + 1, h, if h ≤ 8 then 2 else 4, h, Config.rackWord 4 h] r0))
        ∧ (∀ id, (1 ≤ id → id ≤ 8 → told (.getsensorreading id) "GETSENSORREADING" [0, 0, uint 32 (numericSensor b0 id)] r0)
          ∧ (id = 0 ∨ 8 < id → told (.getsensorreading id) "GETSENSORREADING" [0x80] r0)
          ∧ (9 ≤ id → id ≤ 11 → told (.getstatesensorreadings id) "GETSTATESENSORREADINGS" [0, 1, 0,
              (if id = 9 then power b0 else if id = 10 then runState b0 else r0.drain) + 1, (sensor b0 id).previous + 1] r0)
          ∧ (id < 9 ∨ 11 < id → told (.getstatesensorreadings id) "GETSTATESENSORREADINGS" [0x80] r0)
          ∧ ((sensor b0 id).holding = false → same (.pldmEventHoldoff id))
          ∧ ((sensor b0 id).holding = true → (∀ c e, (sensor b0 id).waiting = some c → r0.receiver = some e →
              Runs (.pldmEventHoldoff id) s [.sent, .rack] (fun b => b.rack.events = r0.events + 1 ∧ (sensor b id).holding = true
                ∧ (sensor b id).waiting = none
                ∧ b.sent = .response "PLATFORM_EVENT_MESSAGE" [e, id, c + 1, (sensor b0 id).previous + 1] :: b0.sent))
            ∧ ((sensor b0 id).waiting = none ∨ r0.receiver = none → Runs (.pldmEventHoldoff id) s [.rack] (fun b =>
              sensor b id = { sensor b0 id with holding := false, waiting := none }))))
        ∧ (∀ en e, (en = 0 → told (.seteventreceiver en e) "SETEVENTRECEIVER" [0] { r0 with receiver := none, events := 0 })
          ∧ (en = 1 → 8 ≤ e → e < 255 → told (.seteventreceiver en e) "SETEVENTRECEIVER" [0] { r0 with receiver := some e })
          ∧ (en = 1 → e < 8 ∨ 255 ≤ e → told (.seteventreceiver en e) "SETEVENTRECEIVER" [2] r0)
          ∧ (2 ≤ en → told (.seteventreceiver en e) "SETEVENTRECEIVER" [0x81] r0))
        ∧ Runs .platformEventAck s [.rack] (fun b => b.rack = { r0 with events := r0.events - 1 }))
      ∧ (on → told .querydeviceidentifiers "QUERYDEVICEIDENTIFIERS" [0, Config.rackWord 5 0, Config.rackWord 5 1] r0
        ∧ told .getfirmwareparameters "GETFIRMWAREPARAMETERS" [0, Config.rackWord 6 0, 1, 0x6180, v run, v (1 - run)] r0
        ∧ told .getstatus "GETSTATUS" [0, r0.update.code, r0.updateWas.code] r0
        ∧ (let staging := (List.range 18).any (fun m => ((mbx b0 m).taken.map (fun t => t.opcode == 0x0801 || t.opcode == 0x0802)).getD false) = true
             ∨ trialOn b0 = true ∨ b0.trust.deferred = true
           (¬ idle → told .requestupdate "REQUESTUPDATE" [0x81] r0) ∧ (idle → staging → told .requestupdate "REQUESTUPDATE" [0x8E] r0)
             ∧ (∀ m t, ¬ idle → let busy := fun c => RunsS c s (fun u => Refused m t 1 none 5 u.body ∧ u.body.rack = r0 ∧ u.body.trust = b0.trust)
               (Asked m 0x0801 t b0 → busy (.fwStage m))
                 ∧ (Asked m 0x0802 t b0 → (t.body.getD 0 0).toNat = 0 → busy (.fwActivateDeferred m))
                 ∧ (Asked m 0x0802 t b0 → (t.body.getD 0 0).toNat = 1 → busy (.fwActivateNow m)))
             ∧ (idle → ¬ staging → told .requestupdate "REQUESTUPDATE" [0, 0, 0] (enters .learn)))
        ∧ (∀ comp size, (idle → told (.passcomponenttable comp) "PASSCOMPONENTTABLE" [0x80] r0
              ∧ told (.updatecomponent comp size) "UPDATECOMPONENT" [0x80] r0)
          ∧ (¬ idle → r0.update ≠ .learn → told (.passcomponenttable comp) "PASSCOMPONENTTABLE" [0x84] r0)
          ∧ (r0.update = .learn → comp = 0x6180 → told (.passcomponenttable comp) "PASSCOMPONENTTABLE" [0, 0, 0] (enters .ready))
          ∧ (r0.update = .learn → comp ≠ 0x6180 → told (.passcomponenttable comp) "PASSCOMPONENTTABLE" [0, 1, Config.rackWord 7 0] r0)
          ∧ (¬ idle → r0.update ≠ .ready → told (.updatecomponent comp size) "UPDATECOMPONENT" [0x84] r0)
          ∧ (r0.update = .ready → comp ≠ 0x6180 ∨ size = 0 ∨ 12582912 < size →
              told (.updatecomponent comp size) "UPDATECOMPONENT" [0, 1, Config.rackWord 7 1] r0)
          ∧ (r0.update = .ready → comp = 0x6180 → size ≠ 0 → size ≤ 12582912 → Runs (.updatecomponent comp size) s [.sent, .rack] (fun b =>
              b.rack = { enters .download with size := size, image := [], applied := false }
                ∧ b.sent = .response "REQUEST_FIRMWARE_DATA" [0, 512] :: .response "UPDATECOMPONENT" [0, 0, 0] :: b0.sent)))
        ∧ (∀ data, let got := r0.image ++ (data.take 512).take (r0.size - r0.image.length)
          let done := .response "TRANSFER_COMPLETE" [0] :: b0.sent
          let good := headerOk got r0.size = true ∧ imageFails b0 (got.take (bfield got 8 4)) true = none
          (r0.update ≠ .download → same (.firmwareDataReceive data))
            ∧ (r0.update = .download → got.length < r0.size →
              told (.firmwareDataReceive data) "REQUEST_FIRMWARE_DATA" [got.length, 512] { r0 with image := got })
            ∧ (r0.update = .download → r0.size ≤ got.length → ¬ good → Runs (.firmwareDataReceive data) s [.sent, .rack] (fun b =>
              b.rack.update = .verify ∧ b.rack.applied = r0.applied ∧ b.sent = .response "VERIFY_COMPLETE" [1] :: done))
            ∧ (r0.update = .download → r0.size ≤ got.length → good → Runs (.firmwareDataReceive data) s [.sent, .rack, .trust, .regs] (fun b =>
              b.rack.update = .ready ∧ b.rack.applied = true ∧ slotImage b (1 - run) = some (imageOf got)
                ∧ b.sent = .response "APPLY_COMPLETE" [0] :: .response "VERIFY_COMPLETE" [0] :: done)))
        ∧ (∀ self, (idle → told (.activatefirmware self) "ACTIVATEFIRMWARE" [0x80] r0)
          ∧ (¬ idle → r0.update ≠ .ready → told (.activatefirmware self) "ACTIVATEFIRMWARE" [0x84] r0)
          ∧ (r0.update = .ready → r0.applied = false → told (.activatefirmware self) "ACTIVATEFIRMWARE" [0x85] r0))
        ∧ (r0.update = .ready → r0.applied = true →
            Runs (.activatefirmware false) s [.sent, .rack, .trust] (fun b => b.trust = { b0.trust with nextTrial := true } ∧ b.rack.update = .idle
              ∧ b.sent = .response "ACTIVATEFIRMWARE" [0, Config.rackWord 8 0] :: b0.sent)
            ∧ (standbySh b0 = none → Runs (.activatefirmware true) s [.sent, .rack, .trust, .regs] (fun b =>
              b.trust = { b0.trust with deferred := true } ∧ b.rack.update = .idle))
            ∧ (standbySh b0 ≠ none → RunsS (.activatefirmware true) s (fun u => trialOn u.body = true
              ∧ getF u.body R.SHP_FW_SLOTS.trial_slot 0 = (1 - run) % 2 ^ R.SHP_FW_SLOTS.trial_slot.width)))
        ∧ (idle → told .cancelupdate "CANCELUPDATE" [0x80] r0 ∧ told .cancelupdatecomponent "CANCELUPDATECOMPONENT" [0x80] r0)
        ∧ (¬ idle → told .cancelupdate "CANCELUPDATE" [0, 0, 0] { enters .idle with image := [], applied := false })
        ∧ (r0.update = .learn ∨ r0.update = .ready → told .cancelupdatecomponent "CANCELUPDATECOMPONENT" [0x84] r0)
        ∧ (¬ idle → r0.update ≠ .learn → r0.update ≠ .ready →
            told .cancelupdatecomponent "CANCELUPDATECOMPONENT" [0] { enters .ready with image := [] }))

/-- The resets of the module and the steps of start-up that complete by themselves (R651, R653 to R657): a power-on reset resets
everything but what flash holds and boots both Shepherds; a module reset stops the module and holds it; its release resumes at the first
step; the edges and the self-test give each die its modules and its map. -/
def Obligations.ResetsAndStartUp : Prop :=
  ∀ (s : State),
    let b0 := s.body
    let p := b0.cox.path
    let same := fun c => Runs c s [] (fun b => b = b0)
    let fresh := fun (fs : List Field) (u : State) => ∀ f j, f.idx < 1024 → f.idx ∉ fs.map Field.idx → getF u.body f j = fieldReset f.idx j
    let held := fun (fs : List Field) (u : State) => ∀ f j, f ∈ fs → getF u.body f j = getF b0 f j
    let shown := [R.GBL_STATUS.power_state, R.SHP_STATUS.a_state, R.SHP_STATUS.b_state, R.SHP_STATUS.protected, R.SHP_STARTUP.failed,
      R.SHP_STARTUP.failed_step, R.IRQ_CAUSE.cause, R.COX_CAP.cap_w, R.KLK_DIE_STATUS.isolated, R.KLK_PORT_STATUS.state]
    (power b0 ≠ 2 ∨ p.housekeeping = true → same .powerOnReset)
      ∧ (power b0 = 2 → p.housekeeping = false → RunsS .powerOnReset s (fun u => u.mem = [] ∧ u.body.cox.path.housekeeping = true
          ∧ power u.body = 2 ∧ u.body.host.cycles = min (b0.host.cycles + 1) (2 ^ 24 - 1) ∧ u.body.host.opBase = b0.host.opSaved + 1000
          ∧ u.body.host.calValid = false ∧ u.body.stations = [] ∧ u.body.drovers = [] ∧ u.body.cox.path.moduleStop = false
          ∧ fresh (storedFields ++ pinFields ++ shown) u ∧ held flashFields u
          ∧ (p.heldReset = false → getF u.body R.SHP_STATUS.a_state 0 = 1 ∧ getF u.body R.SHP_STATUS.b_state 0 = 1)))
      ∧ (power b0 = 9 ∨ p.heldReset = true → same .moduleReset)
      ∧ (power b0 = 0 ∨ power b0 = 1 → p.heldReset = false → (p.inputAbsent = true → same .moduleReset)
          ∧ (p.inputAbsent = false → Runs .moduleReset s [.cox] (fun b => b.cox = { b0.cox with path := { p with heldReset := true } })))
      ∧ (power b0 ∉ [0, 1, 9] → p.heldReset = false →
          (p.inputAbsent = false → RunsS .moduleReset s (fun u => u.mem = [] ∧ u.body.cox.path.heldReset = true ∧ power u.body = 2
            ∧ u.body.cox.path.moduleStop = p.moduleStop ∧ u.body.host.calValid = b0.host.calValid ∧ u.body.host.calBase = b0.host.calBase
            ∧ u.body.host.cycles = b0.host.cycles ∧ u.body.trust.nonces = [] ∧ u.body.logbook.queue = []
            ∧ u.body.dieMap = b0.dieMap ∧ u.body.drovers = [] ∧ (∀ st, isStation st = true → Island.station st ∈ u.body.stopped)
            ∧ (∀ d, d < 4 → flagF u.body R.KLK_DIE_STATUS.isolated d = true) ∧ (∀ q, q < 18 → getF u.body R.KLK_PORT_STATUS.state q = 7)
            ∧ fresh (storedFields ++ pinFields ++ heldFields ++ shown) u ∧ held (flashFields ++ heldFields ++ pinFields) u))
          ∧ (p.inputAbsent = true → RunsS .moduleReset s (fun u => u.mem = [] ∧ u.body.cox.path.housekeeping = false ∧ power u.body = 0
            ∧ u.body.cox.path.heldReset = false)))
      ∧ (p.heldReset = false → same .moduleResetRelease)
      ∧ (p.heldReset = true → power b0 ≠ 2 → Runs .moduleResetRelease s [.cox] (fun b => b.cox = { b0.cox with path := { p with heldReset := false } }))
      ∧ (p.heldReset = true → RunsS .moduleResetRelease s (fun u => u.mem = s.mem))
      ∧ (p.heldReset = true → power b0 = 2 → p.blocks = [] → RunsS .moduleResetRelease s (fun u => u.body.cox.path.heldReset = false
          ∧ u.body.stopped = [] ∧ (∀ d, d < 4 → flagF u.body R.KLK_DIE_STATUS.isolated d = false)
          ∧ (∀ q, q < 18 → getF u.body R.KLK_PORT_STATUS.state q = 0)
          ∧ getF u.body R.SHP_STATUS.a_state 0 = (if getF b0 R.SHP_STATUS.a_state 0 = 6 then 6 else 1)
          ∧ getF u.body R.SHP_STATUS.b_state 0 = if getF b0 R.SHP_STATUS.b_state 0 = 6 then 6 else 1))
      ∧ (∀ up, (stepIsDone b0 6 = false ∨ stepIsDone b0 7 = true → same (.dieEdgeInitComplete up))
          ∧ (stepIsDone b0 6 = true → stepIsDone b0 7 = false → RunsS (.dieEdgeInitComplete up) s (fun u => stepIsDone u.body 7 = true
            ∧ ∀ e, e < 64 → let m := (up.getD e 0).land (edgeModules (edgeKind (e / 4) (e % 4)))
              getF u.body R.STN_EDGE.module_up e = m ∧ (m = 0 → edgeKind (e / 4) (e % 4) = 1 → dieLost u.body (e / 4) = true))))
      ∧ (∀ failed, failed.all isStation = true →
          (stepIsDone b0 6 = false ∨ stepIsDone b0 9 = true ∨ shepherdActive b0 = false → same (.stationSelfTestComplete failed))
            ∧ (stepIsDone b0 6 = true → stepIsDone b0 9 = false → shepherdActive b0 = true → RunsS (.stationSelfTestComplete failed) s (fun u =>
              stepIsDone u.body 9 = true ∧ ∀ d, d < 16 → dieLost b0 d = false →
                let n := (((List.range 52).map (fun x => d * 64 + x)).filter failed.contains).length
                (∀ x, x < 52 → (stn u.body (d * 64 + x)).sram = [] ∧ (stn u.body (d * 64 + x)).selfTestFailed = failed.contains (d * 64 + x))
                  ∧ (4 < n → dieLost u.body d = true)
                  ∧ (n ≤ 4 → dieLost u.body d = false
                    ∧ (∀ l, l < 48 → failed.contains (d * 64 + deliveryPhys l) = false → physOf u.body d l = some (d * 64 + deliveryPhys l))
                    ∧ (∀ st ∈ dieStations u.body d, flagF u.body R.STN_CTRL.power_gate st = false ∧ getF u.body R.STN_STATUS.state st = 2)))))
end

