-- ==== Sys2Proof/Laws/SMap.lean ====
section
/-! SUPPORT. Sparse maps: a read after a write, and that writing keeps the canonical form. -/

namespace Sys2Proof.Machine

variable {α : Type}

theorem SMap.get_erase_ne (m : SMap α) (d : α) (k j : Nat) (h : j ≠ k) : SMap.get (SMap.erase m k) d j = SMap.get m d j := by
  induction m with
  | nil => rfl
  | cons e t ih =>
    simp only [SMap.erase, List.filter_cons] at *
    by_cases hk : e.1 = k
    · simp [hk, SMap.get, ih, Ne.symm h]
    · simp [hk, SMap.get, ih]

theorem SMap.get_erase_same (m : SMap α) (d : α) (k : Nat) : SMap.get (SMap.erase m k) d k = d := by
  induction m with
  | nil => rfl
  | cons e t ih =>
    simp only [SMap.erase, List.filter_cons] at *
    by_cases hk : e.1 = k
    · simp [hk, ih]
    · simp [hk, SMap.get, ih]

theorem SMap.get_insert_ne (m : SMap α) (d : α) (k j : Nat) (v : α) (h : j ≠ k) :
    SMap.get (SMap.insert m k v) d j = SMap.get m d j := by
  induction m with
  | nil => simp [SMap.insert, SMap.get, Ne.symm h]
  | cons e t ih =>
    by_cases hk : k < e.1
    · simp [SMap.insert, hk, SMap.get, Ne.symm h]
    · simp [SMap.insert, hk, SMap.get, ih]

theorem SMap.get_insert_same (m : SMap α) (d : α) (k : Nat) (v : α) (h : ∀ e ∈ m, e.1 ≠ k) :
    SMap.get (SMap.insert m k v) d k = v := by
  induction m with
  | nil => simp [SMap.insert, SMap.get]
  | cons e t ih =>
    by_cases hk : k < e.1
    · simp [SMap.insert, hk, SMap.get]
    · have h1 : e.1 ≠ k := h e (by simp)
      simp [SMap.insert, hk, SMap.get, h1, ih (fun x hx => h x (by simp [hx]))]

/-- A read after a write to the same key gives the value written. -/
@[simp] theorem SMap.get_put_same [DecidableEq α] (m : SMap α) (d : α) (k : Nat) (v : α) : SMap.get (SMap.put m d k v) d k = v := by
  unfold SMap.put
  split
  · rename_i h; rw [SMap.get_erase_same, h]
  · exact SMap.get_insert_same _ _ _ _ (by intro e he; simp [SMap.erase] at he; exact he.2)

/-- A write leaves every other key alone. -/
theorem SMap.get_put_ne [DecidableEq α] (m : SMap α) (d d' : α) (k j : Nat) (v : α) (h : j ≠ k) :
    SMap.get (SMap.put m d' k v) d j = SMap.get m d j := by
  unfold SMap.put
  split
  · exact SMap.get_erase_ne _ _ _ _ h
  · rw [SMap.get_insert_ne _ _ _ _ _ h, SMap.get_erase_ne _ _ _ _ h]

theorem SMap.wfFrom_mono [DecidableEq α] (d : Nat → α) (m : SMap α) (a b : Nat) (h : a ≤ b) (hw : SMap.wfFrom d b m = true) :
    SMap.wfFrom d a m = true := by
  cases m with
  | nil => rfl
  | cons e t =>
    simp only [SMap.wfFrom, Bool.and_eq_true, decide_eq_true_eq] at *
    exact ⟨⟨by omega, hw.1.2⟩, hw.2⟩

theorem SMap.wfFrom_erase [DecidableEq α] (d : Nat → α) (m : SMap α) (k : Nat) :
    ∀ lo, SMap.wfFrom d lo m = true → SMap.wfFrom d lo (SMap.erase m k) = true := by
  induction m with
  | nil => intro lo h; rfl
  | cons e t ih =>
    intro lo h
    simp only [SMap.wfFrom, Bool.and_eq_true, decide_eq_true_eq] at h
    have ht := ih _ h.2
    simp only [SMap.erase, List.filter_cons] at *
    by_cases hk : e.1 = k
    · simp only [hk, bne_self_eq_false, Bool.false_eq_true, if_false]
      exact SMap.wfFrom_mono d _ _ _ (by omega) (hk ▸ ht)
    · simp only [bne_iff_ne, ne_eq, hk, not_false_eq_true, if_true, SMap.wfFrom, Bool.and_eq_true, decide_eq_true_eq]
      exact ⟨⟨h.1.1, h.1.2⟩, ht⟩

theorem SMap.wfFrom_insert [DecidableEq α] (d : Nat → α) (m : SMap α) (k : Nat) (v : α) (hv : v ≠ d k) :
    ∀ lo, lo ≤ k → (∀ e ∈ m, e.1 ≠ k) → SMap.wfFrom d lo m = true → SMap.wfFrom d lo (SMap.insert m k v) = true := by
  induction m with
  | nil => intro lo hlo _ _; simp [SMap.insert, SMap.wfFrom, hlo, hv]
  | cons e t ih =>
    intro lo hlo hne h
    have h' := h
    simp only [SMap.wfFrom, Bool.and_eq_true, decide_eq_true_eq] at h
    by_cases hk : k < e.1
    · simp only [SMap.insert, hk, if_true, SMap.wfFrom, Bool.and_eq_true, decide_eq_true_eq]
      exact ⟨⟨hlo, hv⟩, ⟨by omega, h.1.2⟩, h.2⟩
    · have : e.1 ≠ k := hne e (by simp)
      simp only [SMap.insert, hk, if_false, SMap.wfFrom, Bool.and_eq_true, decide_eq_true_eq]
      exact ⟨h.1, ih (e.1 + 1) (by omega) (fun x hx => hne x (by simp [hx])) h.2⟩

/-- A write keeps the canonical form. -/
theorem SMap.wf_put [DecidableEq α] (d : Nat → α) (m : SMap α) (k : Nat) (v : α) (h : SMap.wf d m = true) :
    SMap.wf d (SMap.put m (d k) k v) = true := by
  unfold SMap.put
  split
  · exact SMap.wfFrom_erase d m k 0 h
  · rename_i hv
    exact SMap.wfFrom_insert d _ k v hv 0 (Nat.zero_le _) (by intro e he; simp [SMap.erase] at he; exact he.2) (SMap.wfFrom_erase d m k 0 h)

end Sys2Proof.Machine
end

