-- ==== Sys2Proof/Laws/State.lean ====
section
/-! SUPPORT. What each update of the state changes, field by field, and reads of register fields after writes. -/

namespace Sys2Proof.Machine

/-- setF changes nothing but `regs`. -/
@[simp] theorem setF_other (b : Body) (f : Field) (i v : Nat) :
    (setF b f i v).stations = b.stations ∧ (setF b f i v).dieMap = b.dieMap ∧ (setF b f i v).drovers = b.drovers ∧ (setF b f i v).fabric = b.fabric ∧
    (setF b f i v).ucie = b.ucie ∧ (setF b f i v).shadow = b.shadow ∧ (setF b f i v).stopped = b.stopped ∧ (setF b f i v).badStack = b.badStack ∧
    (setF b f i v).memStacks = b.memStacks ∧ (setF b f i v).chkFrame = b.chkFrame ∧ (setF b f i v).hostDrovers = b.hostDrovers ∧
    (setF b f i v).flock = b.flock ∧ (setF b f i v).korrel = b.korrel ∧ (setF b f i v).host = b.host ∧ (setF b f i v).logbook = b.logbook ∧
    (setF b f i v).fail = b.fail ∧ (setF b f i v).cox = b.cox ∧ (setF b f i v).ledger = b.ledger ∧ (setF b f i v).cells = b.cells ∧
    (setF b f i v).trust = b.trust ∧ (setF b f i v).pmc = b.pmc ∧ (setF b f i v).rack = b.rack ∧ (setF b f i v).reports = b.reports ∧
    (setF b f i v).sent = b.sent ∧ (setF b f i v).now = b.now ∧ (setF b f i v).free = b.free :=
  ⟨rfl, rfl, rfl, rfl, rfl, rfl, rfl, rfl, rfl, rfl, rfl, rfl, rfl, rfl, rfl, rfl, rfl, rfl, rfl, rfl, rfl, rfl, rfl, rfl, rfl, rfl⟩

/-- addSat changes nothing but `regs`. -/
@[simp] theorem addSat_other (b : Body) (f : Field) (i n : Nat) :
    (addSat b f i n).stations = b.stations ∧ (addSat b f i n).dieMap = b.dieMap ∧ (addSat b f i n).drovers = b.drovers ∧
    (addSat b f i n).fabric = b.fabric ∧ (addSat b f i n).ucie = b.ucie ∧ (addSat b f i n).shadow = b.shadow ∧ (addSat b f i n).stopped = b.stopped ∧
    (addSat b f i n).badStack = b.badStack ∧ (addSat b f i n).memStacks = b.memStacks ∧ (addSat b f i n).chkFrame = b.chkFrame ∧
    (addSat b f i n).hostDrovers = b.hostDrovers ∧ (addSat b f i n).flock = b.flock ∧ (addSat b f i n).korrel = b.korrel ∧
    (addSat b f i n).host = b.host ∧ (addSat b f i n).logbook = b.logbook ∧ (addSat b f i n).fail = b.fail ∧ (addSat b f i n).cox = b.cox ∧
    (addSat b f i n).ledger = b.ledger ∧ (addSat b f i n).cells = b.cells ∧ (addSat b f i n).trust = b.trust ∧ (addSat b f i n).pmc = b.pmc ∧
    (addSat b f i n).rack = b.rack ∧ (addSat b f i n).reports = b.reports ∧ (addSat b f i n).sent = b.sent ∧ (addSat b f i n).now = b.now ∧
    (addSat b f i n).free = b.free :=
  ⟨rfl, rfl, rfl, rfl, rfl, rfl, rfl, rfl, rfl, rfl, rfl, rfl, rfl, rfl, rfl, rfl, rfl, rfl, rfl, rfl, rfl, rfl, rfl, rfl, rfl, rfl⟩

/-- setFlag changes nothing but `regs`. -/
@[simp] theorem setFlag_other (b : Body) (f : Field) (i : Nat) (v : Bool) :
    (setFlag b f i v).stations = b.stations ∧ (setFlag b f i v).dieMap = b.dieMap ∧ (setFlag b f i v).drovers = b.drovers ∧
    (setFlag b f i v).fabric = b.fabric ∧ (setFlag b f i v).ucie = b.ucie ∧ (setFlag b f i v).shadow = b.shadow ∧
    (setFlag b f i v).stopped = b.stopped ∧ (setFlag b f i v).badStack = b.badStack ∧ (setFlag b f i v).memStacks = b.memStacks ∧
    (setFlag b f i v).chkFrame = b.chkFrame ∧ (setFlag b f i v).hostDrovers = b.hostDrovers ∧ (setFlag b f i v).flock = b.flock ∧
    (setFlag b f i v).korrel = b.korrel ∧ (setFlag b f i v).host = b.host ∧ (setFlag b f i v).logbook = b.logbook ∧ (setFlag b f i v).fail = b.fail ∧
    (setFlag b f i v).cox = b.cox ∧ (setFlag b f i v).ledger = b.ledger ∧ (setFlag b f i v).cells = b.cells ∧ (setFlag b f i v).trust = b.trust ∧
    (setFlag b f i v).pmc = b.pmc ∧ (setFlag b f i v).rack = b.rack ∧ (setFlag b f i v).reports = b.reports ∧ (setFlag b f i v).sent = b.sent ∧
    (setFlag b f i v).now = b.now ∧ (setFlag b f i v).free = b.free :=
  ⟨rfl, rfl, rfl, rfl, rfl, rfl, rfl, rfl, rfl, rfl, rfl, rfl, rfl, rfl, rfl, rfl, rfl, rfl, rfl, rfl, rfl, rfl, rfl, rfl, rfl, rfl⟩

/-- setStn changes nothing but `stations`. -/
@[simp] theorem setStn_other (b : Body) (st : Nat) (t : Station) :
    (setStn b st t).regs = b.regs ∧ (setStn b st t).dieMap = b.dieMap ∧ (setStn b st t).drovers = b.drovers ∧ (setStn b st t).fabric = b.fabric ∧
    (setStn b st t).ucie = b.ucie ∧ (setStn b st t).shadow = b.shadow ∧ (setStn b st t).stopped = b.stopped ∧ (setStn b st t).badStack = b.badStack ∧
    (setStn b st t).memStacks = b.memStacks ∧ (setStn b st t).chkFrame = b.chkFrame ∧ (setStn b st t).hostDrovers = b.hostDrovers ∧
    (setStn b st t).flock = b.flock ∧ (setStn b st t).korrel = b.korrel ∧ (setStn b st t).host = b.host ∧ (setStn b st t).logbook = b.logbook ∧
    (setStn b st t).fail = b.fail ∧ (setStn b st t).cox = b.cox ∧ (setStn b st t).ledger = b.ledger ∧ (setStn b st t).cells = b.cells ∧
    (setStn b st t).trust = b.trust ∧ (setStn b st t).pmc = b.pmc ∧ (setStn b st t).rack = b.rack ∧ (setStn b st t).reports = b.reports ∧
    (setStn b st t).sent = b.sent ∧ (setStn b st t).now = b.now ∧ (setStn b st t).free = b.free :=
  ⟨rfl, rfl, rfl, rfl, rfl, rfl, rfl, rfl, rfl, rfl, rfl, rfl, rfl, rfl, rfl, rfl, rfl, rfl, rfl, rfl, rfl, rfl, rfl, rfl, rfl, rfl⟩

/-- updStn changes nothing but `stations`. -/
@[simp] theorem updStn_other (b : Body) (st : Nat) (f : Station → Station) :
    (updStn b st f).regs = b.regs ∧ (updStn b st f).dieMap = b.dieMap ∧ (updStn b st f).drovers = b.drovers ∧ (updStn b st f).fabric = b.fabric ∧
    (updStn b st f).ucie = b.ucie ∧ (updStn b st f).shadow = b.shadow ∧ (updStn b st f).stopped = b.stopped ∧ (updStn b st f).badStack = b.badStack ∧
    (updStn b st f).memStacks = b.memStacks ∧ (updStn b st f).chkFrame = b.chkFrame ∧ (updStn b st f).hostDrovers = b.hostDrovers ∧
    (updStn b st f).flock = b.flock ∧ (updStn b st f).korrel = b.korrel ∧ (updStn b st f).host = b.host ∧ (updStn b st f).logbook = b.logbook ∧
    (updStn b st f).fail = b.fail ∧ (updStn b st f).cox = b.cox ∧ (updStn b st f).ledger = b.ledger ∧ (updStn b st f).cells = b.cells ∧
    (updStn b st f).trust = b.trust ∧ (updStn b st f).pmc = b.pmc ∧ (updStn b st f).rack = b.rack ∧ (updStn b st f).reports = b.reports ∧
    (updStn b st f).sent = b.sent ∧ (updStn b st f).now = b.now ∧ (updStn b st f).free = b.free :=
  ⟨rfl, rfl, rfl, rfl, rfl, rfl, rfl, rfl, rfl, rfl, rfl, rfl, rfl, rfl, rfl, rfl, rfl, rfl, rfl, rfl, rfl, rfl, rfl, rfl, rfl, rfl⟩

/-- updDrv changes nothing but `drovers`. -/
@[simp] theorem updDrv_other (b : Body) (dr : Nat) (f : Drover → Drover) :
    (updDrv b dr f).regs = b.regs ∧ (updDrv b dr f).stations = b.stations ∧ (updDrv b dr f).dieMap = b.dieMap ∧ (updDrv b dr f).fabric = b.fabric ∧
    (updDrv b dr f).ucie = b.ucie ∧ (updDrv b dr f).shadow = b.shadow ∧ (updDrv b dr f).stopped = b.stopped ∧ (updDrv b dr f).badStack = b.badStack ∧
    (updDrv b dr f).memStacks = b.memStacks ∧ (updDrv b dr f).chkFrame = b.chkFrame ∧ (updDrv b dr f).hostDrovers = b.hostDrovers ∧
    (updDrv b dr f).flock = b.flock ∧ (updDrv b dr f).korrel = b.korrel ∧ (updDrv b dr f).host = b.host ∧ (updDrv b dr f).logbook = b.logbook ∧
    (updDrv b dr f).fail = b.fail ∧ (updDrv b dr f).cox = b.cox ∧ (updDrv b dr f).ledger = b.ledger ∧ (updDrv b dr f).cells = b.cells ∧
    (updDrv b dr f).trust = b.trust ∧ (updDrv b dr f).pmc = b.pmc ∧ (updDrv b dr f).rack = b.rack ∧ (updDrv b dr f).reports = b.reports ∧
    (updDrv b dr f).sent = b.sent ∧ (updDrv b dr f).now = b.now ∧ (updDrv b dr f).free = b.free :=
  ⟨rfl, rfl, rfl, rfl, rfl, rfl, rfl, rfl, rfl, rfl, rfl, rfl, rfl, rfl, rfl, rfl, rfl, rfl, rfl, rfl, rfl, rfl, rfl, rfl, rfl, rfl⟩

/-- updStk changes nothing but `memStacks`. -/
@[simp] theorem updStk_other (b : Body) (k : Nat) (f : Stack → Stack) :
    (updStk b k f).regs = b.regs ∧ (updStk b k f).stations = b.stations ∧ (updStk b k f).dieMap = b.dieMap ∧ (updStk b k f).drovers = b.drovers ∧
    (updStk b k f).fabric = b.fabric ∧ (updStk b k f).ucie = b.ucie ∧ (updStk b k f).shadow = b.shadow ∧ (updStk b k f).stopped = b.stopped ∧
    (updStk b k f).badStack = b.badStack ∧ (updStk b k f).chkFrame = b.chkFrame ∧ (updStk b k f).hostDrovers = b.hostDrovers ∧
    (updStk b k f).flock = b.flock ∧ (updStk b k f).korrel = b.korrel ∧ (updStk b k f).host = b.host ∧ (updStk b k f).logbook = b.logbook ∧
    (updStk b k f).fail = b.fail ∧ (updStk b k f).cox = b.cox ∧ (updStk b k f).ledger = b.ledger ∧ (updStk b k f).cells = b.cells ∧
    (updStk b k f).trust = b.trust ∧ (updStk b k f).pmc = b.pmc ∧ (updStk b k f).rack = b.rack ∧ (updStk b k f).reports = b.reports ∧
    (updStk b k f).sent = b.sent ∧ (updStk b k f).now = b.now ∧ (updStk b k f).free = b.free :=
  ⟨rfl, rfl, rfl, rfl, rfl, rfl, rfl, rfl, rfl, rfl, rfl, rfl, rfl, rfl, rfl, rfl, rfl, rfl, rfl, rfl, rfl, rfl, rfl, rfl, rfl, rfl⟩

/-- report changes nothing but `reports`. -/
@[simp] theorem report_other (r : Source) (b : Body) :
    (report r b).regs = b.regs ∧ (report r b).stations = b.stations ∧ (report r b).dieMap = b.dieMap ∧ (report r b).drovers = b.drovers ∧
    (report r b).fabric = b.fabric ∧ (report r b).ucie = b.ucie ∧ (report r b).shadow = b.shadow ∧ (report r b).stopped = b.stopped ∧
    (report r b).badStack = b.badStack ∧ (report r b).memStacks = b.memStacks ∧ (report r b).chkFrame = b.chkFrame ∧
    (report r b).hostDrovers = b.hostDrovers ∧ (report r b).flock = b.flock ∧ (report r b).korrel = b.korrel ∧ (report r b).host = b.host ∧
    (report r b).logbook = b.logbook ∧ (report r b).fail = b.fail ∧ (report r b).cox = b.cox ∧ (report r b).ledger = b.ledger ∧
    (report r b).cells = b.cells ∧ (report r b).trust = b.trust ∧ (report r b).pmc = b.pmc ∧ (report r b).rack = b.rack ∧
    (report r b).sent = b.sent ∧ (report r b).now = b.now ∧ (report r b).free = b.free :=
  ⟨rfl, rfl, rfl, rfl, rfl, rfl, rfl, rfl, rfl, rfl, rfl, rfl, rfl, rfl, rfl, rfl, rfl, rfl, rfl, rfl, rfl, rfl, rfl, rfl, rfl, rfl⟩

/-- emit changes nothing but `sent`. -/
@[simp] theorem emit_other (m : Sent) (b : Body) :
    (emit m b).regs = b.regs ∧ (emit m b).stations = b.stations ∧ (emit m b).dieMap = b.dieMap ∧ (emit m b).drovers = b.drovers ∧
    (emit m b).fabric = b.fabric ∧ (emit m b).ucie = b.ucie ∧ (emit m b).shadow = b.shadow ∧ (emit m b).stopped = b.stopped ∧
    (emit m b).badStack = b.badStack ∧ (emit m b).memStacks = b.memStacks ∧ (emit m b).chkFrame = b.chkFrame ∧
    (emit m b).hostDrovers = b.hostDrovers ∧ (emit m b).flock = b.flock ∧ (emit m b).korrel = b.korrel ∧ (emit m b).host = b.host ∧
    (emit m b).logbook = b.logbook ∧ (emit m b).fail = b.fail ∧ (emit m b).cox = b.cox ∧ (emit m b).ledger = b.ledger ∧ (emit m b).cells = b.cells ∧
    (emit m b).trust = b.trust ∧ (emit m b).pmc = b.pmc ∧ (emit m b).rack = b.rack ∧ (emit m b).reports = b.reports ∧ (emit m b).now = b.now ∧
    (emit m b).free = b.free :=
  ⟨rfl, rfl, rfl, rfl, rfl, rfl, rfl, rfl, rfl, rfl, rfl, rfl, rfl, rfl, rfl, rfl, rfl, rfl, rfl, rfl, rfl, rfl, rfl, rfl, rfl, rfl⟩

/-- sendFlit changes nothing but `fabric`. -/
@[simp] theorem sendFlit_other (f : Flit) (b : Body) :
    (sendFlit f b).regs = b.regs ∧ (sendFlit f b).stations = b.stations ∧ (sendFlit f b).dieMap = b.dieMap ∧ (sendFlit f b).drovers = b.drovers ∧
    (sendFlit f b).ucie = b.ucie ∧ (sendFlit f b).shadow = b.shadow ∧ (sendFlit f b).stopped = b.stopped ∧ (sendFlit f b).badStack = b.badStack ∧
    (sendFlit f b).memStacks = b.memStacks ∧ (sendFlit f b).chkFrame = b.chkFrame ∧ (sendFlit f b).hostDrovers = b.hostDrovers ∧
    (sendFlit f b).flock = b.flock ∧ (sendFlit f b).korrel = b.korrel ∧ (sendFlit f b).host = b.host ∧ (sendFlit f b).logbook = b.logbook ∧
    (sendFlit f b).fail = b.fail ∧ (sendFlit f b).cox = b.cox ∧ (sendFlit f b).ledger = b.ledger ∧ (sendFlit f b).cells = b.cells ∧
    (sendFlit f b).trust = b.trust ∧ (sendFlit f b).pmc = b.pmc ∧ (sendFlit f b).rack = b.rack ∧ (sendFlit f b).reports = b.reports ∧
    (sendFlit f b).sent = b.sent ∧ (sendFlit f b).now = b.now ∧ (sendFlit f b).free = b.free :=
  ⟨rfl, rfl, rfl, rfl, rfl, rfl, rfl, rfl, rfl, rfl, rfl, rfl, rfl, rfl, rfl, rfl, rfl, rfl, rfl, rfl, rfl, rfl, rfl, rfl, rfl, rfl⟩

/-- updLink changes nothing but `ucie`. -/
@[simp] theorem updLink_other (b : Body) (l : UcieLink) (f : Ucie → Ucie) :
    (updLink b l f).regs = b.regs ∧ (updLink b l f).stations = b.stations ∧ (updLink b l f).dieMap = b.dieMap ∧ (updLink b l f).drovers = b.drovers ∧
    (updLink b l f).fabric = b.fabric ∧ (updLink b l f).shadow = b.shadow ∧ (updLink b l f).stopped = b.stopped ∧
    (updLink b l f).badStack = b.badStack ∧ (updLink b l f).memStacks = b.memStacks ∧ (updLink b l f).chkFrame = b.chkFrame ∧
    (updLink b l f).hostDrovers = b.hostDrovers ∧ (updLink b l f).flock = b.flock ∧ (updLink b l f).korrel = b.korrel ∧
    (updLink b l f).host = b.host ∧ (updLink b l f).logbook = b.logbook ∧ (updLink b l f).fail = b.fail ∧ (updLink b l f).cox = b.cox ∧
    (updLink b l f).ledger = b.ledger ∧ (updLink b l f).cells = b.cells ∧ (updLink b l f).trust = b.trust ∧ (updLink b l f).pmc = b.pmc ∧
    (updLink b l f).rack = b.rack ∧ (updLink b l f).reports = b.reports ∧ (updLink b l f).sent = b.sent ∧ (updLink b l f).now = b.now ∧
    (updLink b l f).free = b.free :=
  ⟨rfl, rfl, rfl, rfl, rfl, rfl, rfl, rfl, rfl, rfl, rfl, rfl, rfl, rfl, rfl, rfl, rfl, rfl, rfl, rfl, rfl, rfl, rfl, rfl, rfl, rfl⟩

/-- A link reads as it was last written. -/
@[simp] theorem link_updLink_same (b : Body) (l : UcieLink) (f : Ucie → Ucie) : link (updLink b l f) l = f (link b l) :=
  SMap.get_put_same _ _ _ _

/-- updHost changes nothing but `host`. -/
@[simp] theorem updHost_other (f : HostSide → HostSide) (b : Body) :
    (updHost f b).regs = b.regs ∧ (updHost f b).stations = b.stations ∧ (updHost f b).dieMap = b.dieMap ∧ (updHost f b).drovers = b.drovers ∧
    (updHost f b).fabric = b.fabric ∧ (updHost f b).ucie = b.ucie ∧ (updHost f b).shadow = b.shadow ∧ (updHost f b).stopped = b.stopped ∧
    (updHost f b).badStack = b.badStack ∧ (updHost f b).memStacks = b.memStacks ∧ (updHost f b).chkFrame = b.chkFrame ∧
    (updHost f b).hostDrovers = b.hostDrovers ∧ (updHost f b).flock = b.flock ∧ (updHost f b).korrel = b.korrel ∧ (updHost f b).logbook = b.logbook ∧
    (updHost f b).fail = b.fail ∧ (updHost f b).cox = b.cox ∧ (updHost f b).ledger = b.ledger ∧ (updHost f b).cells = b.cells ∧
    (updHost f b).trust = b.trust ∧ (updHost f b).pmc = b.pmc ∧ (updHost f b).rack = b.rack ∧ (updHost f b).reports = b.reports ∧
    (updHost f b).sent = b.sent ∧ (updHost f b).now = b.now ∧ (updHost f b).free = b.free :=
  ⟨rfl, rfl, rfl, rfl, rfl, rfl, rfl, rfl, rfl, rfl, rfl, rfl, rfl, rfl, rfl, rfl, rfl, rfl, rfl, rfl, rfl, rfl, rfl, rfl, rfl, rfl⟩

/-- updLog changes nothing but `logbook`. -/
@[simp] theorem updLog_other (f : Logbook → Logbook) (b : Body) :
    (updLog f b).regs = b.regs ∧ (updLog f b).stations = b.stations ∧ (updLog f b).dieMap = b.dieMap ∧ (updLog f b).drovers = b.drovers ∧
    (updLog f b).fabric = b.fabric ∧ (updLog f b).ucie = b.ucie ∧ (updLog f b).shadow = b.shadow ∧ (updLog f b).stopped = b.stopped ∧
    (updLog f b).badStack = b.badStack ∧ (updLog f b).memStacks = b.memStacks ∧ (updLog f b).chkFrame = b.chkFrame ∧
    (updLog f b).hostDrovers = b.hostDrovers ∧ (updLog f b).flock = b.flock ∧ (updLog f b).korrel = b.korrel ∧ (updLog f b).host = b.host ∧
    (updLog f b).fail = b.fail ∧ (updLog f b).cox = b.cox ∧ (updLog f b).ledger = b.ledger ∧ (updLog f b).cells = b.cells ∧
    (updLog f b).trust = b.trust ∧ (updLog f b).pmc = b.pmc ∧ (updLog f b).rack = b.rack ∧ (updLog f b).reports = b.reports ∧
    (updLog f b).sent = b.sent ∧ (updLog f b).now = b.now ∧ (updLog f b).free = b.free :=
  ⟨rfl, rfl, rfl, rfl, rfl, rfl, rfl, rfl, rfl, rfl, rfl, rfl, rfl, rfl, rfl, rfl, rfl, rfl, rfl, rfl, rfl, rfl, rfl, rfl, rfl, rfl⟩

/-- updRack changes nothing but `rack`. -/
@[simp] theorem updRack_other (f : Rack → Rack) (b : Body) :
    (updRack f b).regs = b.regs ∧ (updRack f b).stations = b.stations ∧ (updRack f b).dieMap = b.dieMap ∧ (updRack f b).drovers = b.drovers ∧
    (updRack f b).fabric = b.fabric ∧ (updRack f b).ucie = b.ucie ∧ (updRack f b).shadow = b.shadow ∧ (updRack f b).stopped = b.stopped ∧
    (updRack f b).badStack = b.badStack ∧ (updRack f b).memStacks = b.memStacks ∧ (updRack f b).chkFrame = b.chkFrame ∧
    (updRack f b).hostDrovers = b.hostDrovers ∧ (updRack f b).flock = b.flock ∧ (updRack f b).korrel = b.korrel ∧ (updRack f b).host = b.host ∧
    (updRack f b).logbook = b.logbook ∧ (updRack f b).fail = b.fail ∧ (updRack f b).cox = b.cox ∧ (updRack f b).ledger = b.ledger ∧
    (updRack f b).cells = b.cells ∧ (updRack f b).trust = b.trust ∧ (updRack f b).pmc = b.pmc ∧ (updRack f b).reports = b.reports ∧
    (updRack f b).sent = b.sent ∧ (updRack f b).now = b.now ∧ (updRack f b).free = b.free :=
  ⟨rfl, rfl, rfl, rfl, rfl, rfl, rfl, rfl, rfl, rfl, rfl, rfl, rfl, rfl, rfl, rfl, rfl, rfl, rfl, rfl, rfl, rfl, rfl, rfl, rfl, rfl⟩

/-- updPort changes nothing but `korrel`. -/
@[simp] theorem updPort_other (b : Body) (p : Nat) (f : KorPort → KorPort) :
    (updPort b p f).regs = b.regs ∧ (updPort b p f).stations = b.stations ∧ (updPort b p f).dieMap = b.dieMap ∧ (updPort b p f).drovers = b.drovers ∧
    (updPort b p f).fabric = b.fabric ∧ (updPort b p f).ucie = b.ucie ∧ (updPort b p f).shadow = b.shadow ∧ (updPort b p f).stopped = b.stopped ∧
    (updPort b p f).badStack = b.badStack ∧ (updPort b p f).memStacks = b.memStacks ∧ (updPort b p f).chkFrame = b.chkFrame ∧
    (updPort b p f).hostDrovers = b.hostDrovers ∧ (updPort b p f).flock = b.flock ∧ (updPort b p f).host = b.host ∧
    (updPort b p f).logbook = b.logbook ∧ (updPort b p f).fail = b.fail ∧ (updPort b p f).cox = b.cox ∧ (updPort b p f).ledger = b.ledger ∧
    (updPort b p f).cells = b.cells ∧ (updPort b p f).trust = b.trust ∧ (updPort b p f).pmc = b.pmc ∧ (updPort b p f).rack = b.rack ∧
    (updPort b p f).reports = b.reports ∧ (updPort b p f).sent = b.sent ∧ (updPort b p f).now = b.now ∧ (updPort b p f).free = b.free :=
  ⟨rfl, rfl, rfl, rfl, rfl, rfl, rfl, rfl, rfl, rfl, rfl, rfl, rfl, rfl, rfl, rfl, rfl, rfl, rfl, rfl, rfl, rfl, rfl, rfl, rfl, rfl⟩

/-- updFlock changes nothing but `flock`. -/
@[simp] theorem updFlock_other (f : Flock → Flock) (b : Body) :
    (updFlock f b).regs = b.regs ∧ (updFlock f b).stations = b.stations ∧ (updFlock f b).dieMap = b.dieMap ∧ (updFlock f b).drovers = b.drovers ∧
    (updFlock f b).fabric = b.fabric ∧ (updFlock f b).ucie = b.ucie ∧ (updFlock f b).shadow = b.shadow ∧ (updFlock f b).stopped = b.stopped ∧
    (updFlock f b).badStack = b.badStack ∧ (updFlock f b).memStacks = b.memStacks ∧ (updFlock f b).chkFrame = b.chkFrame ∧
    (updFlock f b).hostDrovers = b.hostDrovers ∧ (updFlock f b).korrel = b.korrel ∧ (updFlock f b).host = b.host ∧
    (updFlock f b).logbook = b.logbook ∧ (updFlock f b).fail = b.fail ∧ (updFlock f b).cox = b.cox ∧ (updFlock f b).ledger = b.ledger ∧
    (updFlock f b).cells = b.cells ∧ (updFlock f b).trust = b.trust ∧ (updFlock f b).pmc = b.pmc ∧ (updFlock f b).rack = b.rack ∧
    (updFlock f b).reports = b.reports ∧ (updFlock f b).sent = b.sent ∧ (updFlock f b).now = b.now ∧ (updFlock f b).free = b.free :=
  ⟨rfl, rfl, rfl, rfl, rfl, rfl, rfl, rfl, rfl, rfl, rfl, rfl, rfl, rfl, rfl, rfl, rfl, rfl, rfl, rfl, rfl, rfl, rfl, rfl, rfl, rfl⟩

/-- updFail changes nothing but `fail`. -/
@[simp] theorem updFail_other (f : Failover → Failover) (b : Body) :
    (updFail f b).regs = b.regs ∧ (updFail f b).stations = b.stations ∧ (updFail f b).dieMap = b.dieMap ∧ (updFail f b).drovers = b.drovers ∧
    (updFail f b).fabric = b.fabric ∧ (updFail f b).ucie = b.ucie ∧ (updFail f b).shadow = b.shadow ∧ (updFail f b).stopped = b.stopped ∧
    (updFail f b).badStack = b.badStack ∧ (updFail f b).memStacks = b.memStacks ∧ (updFail f b).chkFrame = b.chkFrame ∧
    (updFail f b).hostDrovers = b.hostDrovers ∧ (updFail f b).flock = b.flock ∧ (updFail f b).korrel = b.korrel ∧ (updFail f b).host = b.host ∧
    (updFail f b).logbook = b.logbook ∧ (updFail f b).cox = b.cox ∧ (updFail f b).ledger = b.ledger ∧ (updFail f b).cells = b.cells ∧
    (updFail f b).trust = b.trust ∧ (updFail f b).pmc = b.pmc ∧ (updFail f b).rack = b.rack ∧ (updFail f b).reports = b.reports ∧
    (updFail f b).sent = b.sent ∧ (updFail f b).now = b.now ∧ (updFail f b).free = b.free :=
  ⟨rfl, rfl, rfl, rfl, rfl, rfl, rfl, rfl, rfl, rfl, rfl, rfl, rfl, rfl, rfl, rfl, rfl, rfl, rfl, rfl, rfl, rfl, rfl, rfl, rfl, rfl⟩

/-- updPath changes nothing but `cox`. -/
@[simp] theorem updPath_other (f : PowerPath → PowerPath) (b : Body) :
    (updPath f b).regs = b.regs ∧ (updPath f b).stations = b.stations ∧ (updPath f b).dieMap = b.dieMap ∧ (updPath f b).drovers = b.drovers ∧
    (updPath f b).fabric = b.fabric ∧ (updPath f b).ucie = b.ucie ∧ (updPath f b).shadow = b.shadow ∧ (updPath f b).stopped = b.stopped ∧
    (updPath f b).badStack = b.badStack ∧ (updPath f b).memStacks = b.memStacks ∧ (updPath f b).chkFrame = b.chkFrame ∧
    (updPath f b).hostDrovers = b.hostDrovers ∧ (updPath f b).flock = b.flock ∧ (updPath f b).korrel = b.korrel ∧ (updPath f b).host = b.host ∧
    (updPath f b).logbook = b.logbook ∧ (updPath f b).fail = b.fail ∧ (updPath f b).ledger = b.ledger ∧ (updPath f b).cells = b.cells ∧
    (updPath f b).trust = b.trust ∧ (updPath f b).pmc = b.pmc ∧ (updPath f b).rack = b.rack ∧ (updPath f b).reports = b.reports ∧
    (updPath f b).sent = b.sent ∧ (updPath f b).now = b.now ∧ (updPath f b).free = b.free :=
  ⟨rfl, rfl, rfl, rfl, rfl, rfl, rfl, rfl, rfl, rfl, rfl, rfl, rfl, rfl, rfl, rfl, rfl, rfl, rfl, rfl, rfl, rfl, rfl, rfl, rfl, rfl⟩

/-- updLoop changes nothing but `cox`. -/
@[simp] theorem updLoop_other (e l : Nat) (f : CoxLoop → CoxLoop) (b : Body) :
    (updLoop e l f b).regs = b.regs ∧ (updLoop e l f b).stations = b.stations ∧ (updLoop e l f b).dieMap = b.dieMap ∧
    (updLoop e l f b).drovers = b.drovers ∧ (updLoop e l f b).fabric = b.fabric ∧ (updLoop e l f b).ucie = b.ucie ∧
    (updLoop e l f b).shadow = b.shadow ∧ (updLoop e l f b).stopped = b.stopped ∧ (updLoop e l f b).badStack = b.badStack ∧
    (updLoop e l f b).memStacks = b.memStacks ∧ (updLoop e l f b).chkFrame = b.chkFrame ∧ (updLoop e l f b).hostDrovers = b.hostDrovers ∧
    (updLoop e l f b).flock = b.flock ∧ (updLoop e l f b).korrel = b.korrel ∧ (updLoop e l f b).host = b.host ∧
    (updLoop e l f b).logbook = b.logbook ∧ (updLoop e l f b).fail = b.fail ∧ (updLoop e l f b).ledger = b.ledger ∧
    (updLoop e l f b).cells = b.cells ∧ (updLoop e l f b).trust = b.trust ∧ (updLoop e l f b).pmc = b.pmc ∧ (updLoop e l f b).rack = b.rack ∧
    (updLoop e l f b).reports = b.reports ∧ (updLoop e l f b).sent = b.sent ∧ (updLoop e l f b).now = b.now ∧ (updLoop e l f b).free = b.free :=
  ⟨rfl, rfl, rfl, rfl, rfl, rfl, rfl, rfl, rfl, rfl, rfl, rfl, rfl, rfl, rfl, rfl, rfl, rfl, rfl, rfl, rfl, rfl, rfl, rfl, rfl, rfl⟩

/-- updEngine changes nothing but `cox`. -/
@[simp] theorem updEngine_other (e : Nat) (f : CoxEngine → CoxEngine) (b : Body) :
    (updEngine e f b).regs = b.regs ∧ (updEngine e f b).stations = b.stations ∧ (updEngine e f b).dieMap = b.dieMap ∧
    (updEngine e f b).drovers = b.drovers ∧ (updEngine e f b).fabric = b.fabric ∧ (updEngine e f b).ucie = b.ucie ∧
    (updEngine e f b).shadow = b.shadow ∧ (updEngine e f b).stopped = b.stopped ∧ (updEngine e f b).badStack = b.badStack ∧
    (updEngine e f b).memStacks = b.memStacks ∧ (updEngine e f b).chkFrame = b.chkFrame ∧ (updEngine e f b).hostDrovers = b.hostDrovers ∧
    (updEngine e f b).flock = b.flock ∧ (updEngine e f b).korrel = b.korrel ∧ (updEngine e f b).host = b.host ∧
    (updEngine e f b).logbook = b.logbook ∧ (updEngine e f b).fail = b.fail ∧ (updEngine e f b).ledger = b.ledger ∧
    (updEngine e f b).cells = b.cells ∧ (updEngine e f b).trust = b.trust ∧ (updEngine e f b).pmc = b.pmc ∧ (updEngine e f b).rack = b.rack ∧
    (updEngine e f b).reports = b.reports ∧ (updEngine e f b).sent = b.sent ∧ (updEngine e f b).now = b.now ∧ (updEngine e f b).free = b.free :=
  ⟨rfl, rfl, rfl, rfl, rfl, rfl, rfl, rfl, rfl, rfl, rfl, rfl, rfl, rfl, rfl, rfl, rfl, rfl, rfl, rfl, rfl, rfl, rfl, rfl, rfl, rfl⟩

/-- setPgLim changes nothing but `cox`. -/
@[simp] theorem setPgLim_other (e k : Nat) (p : CoxPg) (b : Body) :
    (setPgLim e k p b).regs = b.regs ∧ (setPgLim e k p b).stations = b.stations ∧ (setPgLim e k p b).dieMap = b.dieMap ∧
    (setPgLim e k p b).drovers = b.drovers ∧ (setPgLim e k p b).fabric = b.fabric ∧ (setPgLim e k p b).ucie = b.ucie ∧
    (setPgLim e k p b).shadow = b.shadow ∧ (setPgLim e k p b).stopped = b.stopped ∧ (setPgLim e k p b).badStack = b.badStack ∧
    (setPgLim e k p b).memStacks = b.memStacks ∧ (setPgLim e k p b).chkFrame = b.chkFrame ∧ (setPgLim e k p b).hostDrovers = b.hostDrovers ∧
    (setPgLim e k p b).flock = b.flock ∧ (setPgLim e k p b).korrel = b.korrel ∧ (setPgLim e k p b).host = b.host ∧
    (setPgLim e k p b).logbook = b.logbook ∧ (setPgLim e k p b).fail = b.fail ∧ (setPgLim e k p b).ledger = b.ledger ∧
    (setPgLim e k p b).cells = b.cells ∧ (setPgLim e k p b).trust = b.trust ∧ (setPgLim e k p b).pmc = b.pmc ∧ (setPgLim e k p b).rack = b.rack ∧
    (setPgLim e k p b).reports = b.reports ∧ (setPgLim e k p b).sent = b.sent ∧ (setPgLim e k p b).now = b.now ∧ (setPgLim e k p b).free = b.free :=
  ⟨rfl, rfl, rfl, rfl, rfl, rfl, rfl, rfl, rfl, rfl, rfl, rfl, rfl, rfl, rfl, rfl, rfl, rfl, rfl, rfl, rfl, rfl, rfl, rfl, rfl, rfl⟩

/-- updLedger changes nothing but `ledger`. -/
@[simp] theorem updLedger_other (f : Ledger → Ledger) (b : Body) :
    (updLedger f b).regs = b.regs ∧ (updLedger f b).stations = b.stations ∧ (updLedger f b).dieMap = b.dieMap ∧ (updLedger f b).drovers = b.drovers ∧
    (updLedger f b).fabric = b.fabric ∧ (updLedger f b).ucie = b.ucie ∧ (updLedger f b).shadow = b.shadow ∧ (updLedger f b).stopped = b.stopped ∧
    (updLedger f b).badStack = b.badStack ∧ (updLedger f b).memStacks = b.memStacks ∧ (updLedger f b).chkFrame = b.chkFrame ∧
    (updLedger f b).hostDrovers = b.hostDrovers ∧ (updLedger f b).flock = b.flock ∧ (updLedger f b).korrel = b.korrel ∧
    (updLedger f b).host = b.host ∧ (updLedger f b).logbook = b.logbook ∧ (updLedger f b).fail = b.fail ∧ (updLedger f b).cox = b.cox ∧
    (updLedger f b).cells = b.cells ∧ (updLedger f b).trust = b.trust ∧ (updLedger f b).pmc = b.pmc ∧ (updLedger f b).rack = b.rack ∧
    (updLedger f b).reports = b.reports ∧ (updLedger f b).sent = b.sent ∧ (updLedger f b).now = b.now ∧ (updLedger f b).free = b.free :=
  ⟨rfl, rfl, rfl, rfl, rfl, rfl, rfl, rfl, rfl, rfl, rfl, rfl, rfl, rfl, rfl, rfl, rfl, rfl, rfl, rfl, rfl, rfl, rfl, rfl, rfl, rfl⟩

/-- updMon changes nothing but `cells`. -/
@[simp] theorem updMon_other (k : Nat) (f : Monitor → Monitor) (b : Body) :
    (updMon k f b).regs = b.regs ∧ (updMon k f b).stations = b.stations ∧ (updMon k f b).dieMap = b.dieMap ∧ (updMon k f b).drovers = b.drovers ∧
    (updMon k f b).fabric = b.fabric ∧ (updMon k f b).ucie = b.ucie ∧ (updMon k f b).shadow = b.shadow ∧ (updMon k f b).stopped = b.stopped ∧
    (updMon k f b).badStack = b.badStack ∧ (updMon k f b).memStacks = b.memStacks ∧ (updMon k f b).chkFrame = b.chkFrame ∧
    (updMon k f b).hostDrovers = b.hostDrovers ∧ (updMon k f b).flock = b.flock ∧ (updMon k f b).korrel = b.korrel ∧ (updMon k f b).host = b.host ∧
    (updMon k f b).logbook = b.logbook ∧ (updMon k f b).fail = b.fail ∧ (updMon k f b).cox = b.cox ∧ (updMon k f b).ledger = b.ledger ∧
    (updMon k f b).trust = b.trust ∧ (updMon k f b).pmc = b.pmc ∧ (updMon k f b).rack = b.rack ∧ (updMon k f b).reports = b.reports ∧
    (updMon k f b).sent = b.sent ∧ (updMon k f b).now = b.now ∧ (updMon k f b).free = b.free :=
  ⟨rfl, rfl, rfl, rfl, rfl, rfl, rfl, rfl, rfl, rfl, rfl, rfl, rfl, rfl, rfl, rfl, rfl, rfl, rfl, rfl, rfl, rfl, rfl, rfl, rfl, rfl⟩

/-- updRing changes nothing but `cells`. -/
@[simp] theorem updRing_other (f : RingMaster → RingMaster) (b : Body) :
    (updRing f b).regs = b.regs ∧ (updRing f b).stations = b.stations ∧ (updRing f b).dieMap = b.dieMap ∧ (updRing f b).drovers = b.drovers ∧
    (updRing f b).fabric = b.fabric ∧ (updRing f b).ucie = b.ucie ∧ (updRing f b).shadow = b.shadow ∧ (updRing f b).stopped = b.stopped ∧
    (updRing f b).badStack = b.badStack ∧ (updRing f b).memStacks = b.memStacks ∧ (updRing f b).chkFrame = b.chkFrame ∧
    (updRing f b).hostDrovers = b.hostDrovers ∧ (updRing f b).flock = b.flock ∧ (updRing f b).korrel = b.korrel ∧ (updRing f b).host = b.host ∧
    (updRing f b).logbook = b.logbook ∧ (updRing f b).fail = b.fail ∧ (updRing f b).cox = b.cox ∧ (updRing f b).ledger = b.ledger ∧
    (updRing f b).trust = b.trust ∧ (updRing f b).pmc = b.pmc ∧ (updRing f b).rack = b.rack ∧ (updRing f b).reports = b.reports ∧
    (updRing f b).sent = b.sent ∧ (updRing f b).now = b.now ∧ (updRing f b).free = b.free :=
  ⟨rfl, rfl, rfl, rfl, rfl, rfl, rfl, rfl, rfl, rfl, rfl, rfl, rfl, rfl, rfl, rfl, rfl, rfl, rfl, rfl, rfl, rfl, rfl, rfl, rfl, rfl⟩

/-- updMbx changes nothing but `host`. -/
@[simp] theorem updMbx_other (m : Nat) (f : Mailbox → Mailbox) (b : Body) :
    (updMbx m f b).regs = b.regs ∧ (updMbx m f b).stations = b.stations ∧ (updMbx m f b).dieMap = b.dieMap ∧ (updMbx m f b).drovers = b.drovers ∧
    (updMbx m f b).fabric = b.fabric ∧ (updMbx m f b).ucie = b.ucie ∧ (updMbx m f b).shadow = b.shadow ∧ (updMbx m f b).stopped = b.stopped ∧
    (updMbx m f b).badStack = b.badStack ∧ (updMbx m f b).memStacks = b.memStacks ∧ (updMbx m f b).chkFrame = b.chkFrame ∧
    (updMbx m f b).hostDrovers = b.hostDrovers ∧ (updMbx m f b).flock = b.flock ∧ (updMbx m f b).korrel = b.korrel ∧
    (updMbx m f b).logbook = b.logbook ∧ (updMbx m f b).fail = b.fail ∧ (updMbx m f b).cox = b.cox ∧ (updMbx m f b).ledger = b.ledger ∧
    (updMbx m f b).cells = b.cells ∧ (updMbx m f b).trust = b.trust ∧ (updMbx m f b).pmc = b.pmc ∧ (updMbx m f b).rack = b.rack ∧
    (updMbx m f b).reports = b.reports ∧ (updMbx m f b).sent = b.sent ∧ (updMbx m f b).now = b.now ∧ (updMbx m f b).free = b.free :=
  ⟨rfl, rfl, rfl, rfl, rfl, rfl, rfl, rfl, rfl, rfl, rfl, rfl, rfl, rfl, rfl, rfl, rfl, rfl, rfl, rfl, rfl, rfl, rfl, rfl, rfl, rfl⟩

/-- updTrust changes nothing but `trust`. -/
@[simp] theorem updTrust_other (f : Trust → Trust) (b : Body) :
    (updTrust f b).regs = b.regs ∧ (updTrust f b).stations = b.stations ∧ (updTrust f b).dieMap = b.dieMap ∧ (updTrust f b).drovers = b.drovers ∧
    (updTrust f b).fabric = b.fabric ∧ (updTrust f b).ucie = b.ucie ∧ (updTrust f b).shadow = b.shadow ∧ (updTrust f b).stopped = b.stopped ∧
    (updTrust f b).badStack = b.badStack ∧ (updTrust f b).memStacks = b.memStacks ∧ (updTrust f b).chkFrame = b.chkFrame ∧
    (updTrust f b).hostDrovers = b.hostDrovers ∧ (updTrust f b).flock = b.flock ∧ (updTrust f b).korrel = b.korrel ∧ (updTrust f b).host = b.host ∧
    (updTrust f b).logbook = b.logbook ∧ (updTrust f b).fail = b.fail ∧ (updTrust f b).cox = b.cox ∧ (updTrust f b).ledger = b.ledger ∧
    (updTrust f b).cells = b.cells ∧ (updTrust f b).pmc = b.pmc ∧ (updTrust f b).rack = b.rack ∧ (updTrust f b).reports = b.reports ∧
    (updTrust f b).sent = b.sent ∧ (updTrust f b).now = b.now ∧ (updTrust f b).free = b.free :=
  ⟨rfl, rfl, rfl, rfl, rfl, rfl, rfl, rfl, rfl, rfl, rfl, rfl, rfl, rfl, rfl, rfl, rfl, rfl, rfl, rfl, rfl, rfl, rfl, rfl, rfl, rfl⟩

/-- updPmc changes nothing but `pmc`. -/
@[simp] theorem updPmc_other (f : PmcSide → PmcSide) (b : Body) :
    (updPmc f b).regs = b.regs ∧ (updPmc f b).stations = b.stations ∧ (updPmc f b).dieMap = b.dieMap ∧ (updPmc f b).drovers = b.drovers ∧
    (updPmc f b).fabric = b.fabric ∧ (updPmc f b).ucie = b.ucie ∧ (updPmc f b).shadow = b.shadow ∧ (updPmc f b).stopped = b.stopped ∧
    (updPmc f b).badStack = b.badStack ∧ (updPmc f b).memStacks = b.memStacks ∧ (updPmc f b).chkFrame = b.chkFrame ∧
    (updPmc f b).hostDrovers = b.hostDrovers ∧ (updPmc f b).flock = b.flock ∧ (updPmc f b).korrel = b.korrel ∧ (updPmc f b).host = b.host ∧
    (updPmc f b).logbook = b.logbook ∧ (updPmc f b).fail = b.fail ∧ (updPmc f b).cox = b.cox ∧ (updPmc f b).ledger = b.ledger ∧
    (updPmc f b).cells = b.cells ∧ (updPmc f b).trust = b.trust ∧ (updPmc f b).rack = b.rack ∧ (updPmc f b).reports = b.reports ∧
    (updPmc f b).sent = b.sent ∧ (updPmc f b).now = b.now ∧ (updPmc f b).free = b.free :=
  ⟨rfl, rfl, rfl, rfl, rfl, rfl, rfl, rfl, rfl, rfl, rfl, rfl, rfl, rfl, rfl, rfl, rfl, rfl, rfl, rfl, rfl, rfl, rfl, rfl, rfl, rfl⟩

/-- A field reads as the last value written, kept in its width. -/
@[simp] theorem getF_setF_same (b : Body) (f : Field) (i v : Nat) : getF (setF b f i v) f i = v % 2 ^ f.width :=
  SMap.get_put_same _ _ _ _

/-- A write leaves every other field and every other instance alone. -/
theorem getF_setF_ne (b : Body) (f g : Field) (i j v : Nat) (h : j * 1024 + g.idx ≠ i * 1024 + f.idx) :
    getF (setF b f i v) g j = getF b g j :=
  SMap.get_put_ne _ _ _ _ _ _ h

/-- A write to a field of a smaller number than 1 024 leaves fields of other numbers alone. -/
theorem getF_setF_field (b : Body) (f g : Field) (i j v : Nat) (hf : f.idx < 1024) (hg : g.idx < 1024) (h : g.idx ≠ f.idx) :
    getF (setF b f i v) g j = getF b g j :=
  getF_setF_ne _ _ _ _ _ _ (by omega)

/-- A write leaves the other instances of a field alone. -/
theorem getF_setF_instance (b : Body) (f : Field) (i j v : Nat) (h : j ≠ i) : getF (setF b f i v) f j = getF b f j :=
  getF_setF_ne _ _ _ _ _ _ (by omega)

@[simp] theorem flagF_setFlag_same (b : Body) (f : Field) (i : Nat) (v : Bool) (h : 1 ≤ f.width) : flagF (setFlag b f i v) f i = v := by
  have h2 : 2 ≤ 2 ^ f.width := by
    calc 2 = 2 ^ 1 := rfl
      _ ≤ 2 ^ f.width := Nat.pow_le_pow_right (by omega) h
  have h3 : 1 % 2 ^ f.width = 1 := Nat.mod_eq_of_lt (by omega)
  cases v <;> simp [flagF, setFlag, h3]

/-- A register field depends on the register file alone. -/
theorem getF_congr (b c : Body) (f : Field) (i : Nat) (h : b.regs = c.regs) : getF b f i = getF c f i := by
  unfold getF; rw [h]

@[simp] theorem stn_setStn_same (b : Body) (st : Nat) (t : Station) : stn (setStn b st t) st = t := SMap.get_put_same _ _ _ _

theorem stn_setStn_ne (b : Body) (st x : Nat) (t : Station) (h : x ≠ st) : stn (setStn b st t) x = stn b x := SMap.get_put_ne _ _ _ _ _ _ h

@[simp] theorem stn_updStn_same (b : Body) (st : Nat) (f : Station → Station) : stn (updStn b st f) st = f (stn b st) := stn_setStn_same _ _ _

theorem stn_updStn_ne (b : Body) (st x : Nat) (f : Station → Station) (h : x ≠ st) : stn (updStn b st f) x = stn b x :=
  stn_setStn_ne _ _ _ _ h

@[simp] theorem drv_updDrv_same (b : Body) (dr : Nat) (f : Drover → Drover) : drv (updDrv b dr f) dr = f (drv b dr) := SMap.get_put_same _ _ _ _

theorem drv_updDrv_ne (b : Body) (dr x : Nat) (f : Drover → Drover) (h : x ≠ dr) : drv (updDrv b dr f) x = drv b x := SMap.get_put_ne _ _ _ _ _ _ h

@[simp] theorem stk_updStk_same (b : Body) (k : Nat) (f : Stack → Stack) : stk (updStk b k f) k = f (stk b k) := SMap.get_put_same _ _ _ _

theorem stk_updStk_ne (b : Body) (k x : Nat) (f : Stack → Stack) (h : x ≠ k) : stk (updStk b k f) x = stk b x := SMap.get_put_ne _ _ _ _ _ _ h

@[simp] theorem stn_setF (b : Body) (f : Field) (i v : Nat) (x : Nat) : stn (setF b f i v) x = stn b x := rfl
@[simp] theorem stn_addSat (b : Body) (f : Field) (i n : Nat) (x : Nat) : stn (addSat b f i n) x = stn b x := rfl
@[simp] theorem stn_setFlag (b : Body) (f : Field) (i : Nat) (v : Bool) (x : Nat) : stn (setFlag b f i v) x = stn b x := rfl
@[simp] theorem getF_setStn (b : Body) (st : Nat) (t : Station) (g : Field) (j : Nat) : getF (setStn b st t) g j = getF b g j := rfl
@[simp] theorem getF_updStn (b : Body) (st : Nat) (f : Station → Station) (g : Field) (j : Nat) : getF (updStn b st f) g j = getF b g j := rfl
@[simp] theorem getF_updDrv (b : Body) (dr : Nat) (f : Drover → Drover) (g : Field) (j : Nat) : getF (updDrv b dr f) g j = getF b g j := rfl
@[simp] theorem stn_updDrv (b : Body) (dr : Nat) (f : Drover → Drover) (x : Nat) : stn (updDrv b dr f) x = stn b x := rfl
@[simp] theorem getF_updStk (b : Body) (k : Nat) (f : Stack → Stack) (g : Field) (j : Nat) : getF (updStk b k f) g j = getF b g j := rfl
@[simp] theorem stn_updStk (b : Body) (k : Nat) (f : Stack → Stack) (x : Nat) : stn (updStk b k f) x = stn b x := rfl
@[simp] theorem getF_report (r : Source) (b : Body) (g : Field) (j : Nat) : getF (report r b) g j = getF b g j := rfl
@[simp] theorem stn_report (r : Source) (b : Body) (x : Nat) : stn (report r b) x = stn b x := rfl
@[simp] theorem getF_emit (m : Sent) (b : Body) (g : Field) (j : Nat) : getF (emit m b) g j = getF b g j := rfl
@[simp] theorem stn_emit (m : Sent) (b : Body) (x : Nat) : stn (emit m b) x = stn b x := rfl
@[simp] theorem getF_sendFlit (f : Flit) (b : Body) (g : Field) (j : Nat) : getF (sendFlit f b) g j = getF b g j := rfl
@[simp] theorem stn_sendFlit (f : Flit) (b : Body) (x : Nat) : stn (sendFlit f b) x = stn b x := rfl
@[simp] theorem getF_updHost (f : HostSide → HostSide) (b : Body) (g : Field) (j : Nat) : getF (updHost f b) g j = getF b g j := rfl
@[simp] theorem stn_updHost (f : HostSide → HostSide) (b : Body) (x : Nat) : stn (updHost f b) x = stn b x := rfl
@[simp] theorem getF_updLog (f : Logbook → Logbook) (b : Body) (g : Field) (j : Nat) : getF (updLog f b) g j = getF b g j := rfl
@[simp] theorem stn_updLog (f : Logbook → Logbook) (b : Body) (x : Nat) : stn (updLog f b) x = stn b x := rfl
@[simp] theorem getF_updRack (f : Rack → Rack) (b : Body) (g : Field) (j : Nat) : getF (updRack f b) g j = getF b g j := rfl
@[simp] theorem stn_updRack (f : Rack → Rack) (b : Body) (x : Nat) : stn (updRack f b) x = stn b x := rfl
@[simp] theorem getF_updPort (b : Body) (p : Nat) (f : KorPort → KorPort) (g : Field) (j : Nat) : getF (updPort b p f) g j = getF b g j := rfl
@[simp] theorem stn_updPort (b : Body) (p : Nat) (f : KorPort → KorPort) (x : Nat) : stn (updPort b p f) x = stn b x := rfl
@[simp] theorem getF_updFlock (f : Flock → Flock) (b : Body) (g : Field) (j : Nat) : getF (updFlock f b) g j = getF b g j := rfl
@[simp] theorem stn_updFlock (f : Flock → Flock) (b : Body) (x : Nat) : stn (updFlock f b) x = stn b x := rfl
@[simp] theorem getF_updFail (f : Failover → Failover) (b : Body) (g : Field) (j : Nat) : getF (updFail f b) g j = getF b g j := rfl
@[simp] theorem stn_updFail (f : Failover → Failover) (b : Body) (x : Nat) : stn (updFail f b) x = stn b x := rfl
@[simp] theorem getF_updPath (f : PowerPath → PowerPath) (b : Body) (g : Field) (j : Nat) : getF (updPath f b) g j = getF b g j := rfl
@[simp] theorem stn_updPath (f : PowerPath → PowerPath) (b : Body) (x : Nat) : stn (updPath f b) x = stn b x := rfl
@[simp] theorem getF_updLoop (e l : Nat) (f : CoxLoop → CoxLoop) (b : Body) (g : Field) (j : Nat) : getF (updLoop e l f b) g j = getF b g j := rfl
@[simp] theorem stn_updLoop (e l : Nat) (f : CoxLoop → CoxLoop) (b : Body) (x : Nat) : stn (updLoop e l f b) x = stn b x := rfl
@[simp] theorem getF_updEngine (e : Nat) (f : CoxEngine → CoxEngine) (b : Body) (g : Field) (j : Nat) : getF (updEngine e f b) g j = getF b g j := rfl
@[simp] theorem stn_updEngine (e : Nat) (f : CoxEngine → CoxEngine) (b : Body) (x : Nat) : stn (updEngine e f b) x = stn b x := rfl
@[simp] theorem getF_setPgLim (e k : Nat) (p : CoxPg) (b : Body) (g : Field) (j : Nat) : getF (setPgLim e k p b) g j = getF b g j := rfl
@[simp] theorem stn_setPgLim (e k : Nat) (p : CoxPg) (b : Body) (x : Nat) : stn (setPgLim e k p b) x = stn b x := rfl
@[simp] theorem getF_updLedger (f : Ledger → Ledger) (b : Body) (g : Field) (j : Nat) : getF (updLedger f b) g j = getF b g j := rfl
@[simp] theorem stn_updLedger (f : Ledger → Ledger) (b : Body) (x : Nat) : stn (updLedger f b) x = stn b x := rfl
@[simp] theorem getF_updMon (k : Nat) (f : Monitor → Monitor) (b : Body) (g : Field) (j : Nat) : getF (updMon k f b) g j = getF b g j := rfl
@[simp] theorem stn_updMon (k : Nat) (f : Monitor → Monitor) (b : Body) (x : Nat) : stn (updMon k f b) x = stn b x := rfl
@[simp] theorem getF_updRing (f : RingMaster → RingMaster) (b : Body) (g : Field) (j : Nat) : getF (updRing f b) g j = getF b g j := rfl
@[simp] theorem stn_updRing (f : RingMaster → RingMaster) (b : Body) (x : Nat) : stn (updRing f b) x = stn b x := rfl
@[simp] theorem getF_updMbx (m : Nat) (f : Mailbox → Mailbox) (b : Body) (g : Field) (j : Nat) : getF (updMbx m f b) g j = getF b g j := rfl
@[simp] theorem stn_updMbx (m : Nat) (f : Mailbox → Mailbox) (b : Body) (x : Nat) : stn (updMbx m f b) x = stn b x := rfl
@[simp] theorem getF_updTrust (f : Trust → Trust) (b : Body) (g : Field) (j : Nat) : getF (updTrust f b) g j = getF b g j := rfl
@[simp] theorem stn_updTrust (f : Trust → Trust) (b : Body) (x : Nat) : stn (updTrust f b) x = stn b x := rfl
@[simp] theorem getF_updPmc (f : PmcSide → PmcSide) (b : Body) (g : Field) (j : Nat) : getF (updPmc f b) g j = getF b g j := rfl
@[simp] theorem stn_updPmc (f : PmcSide → PmcSide) (b : Body) (x : Nat) : stn (updPmc f b) x = stn b x := rfl

end Sys2Proof.Machine
end

