-- ==== Sys2Proof/Laws/Frame.lean ====
section
/-! SUPPORT. The frame relations of Safety compose, and what the named updates of the state leave unchanged. -/

namespace Sys2Proof.Machine

theorem Only.refl (ps : List Part) (b : Body) : Only ps b b := fun p => .inr (by cases p <;> rfl)

theorem Only.trans {ps : List Part} {b c d : Body} (h : Only ps b c) (k : Only ps c d) : Only ps b d := by
  intro p
  rcases h p with h | h
  · exact .inl h
  · rcases k p with k | k
    · exact .inl k
    · exact .inr (by cases p <;> exact Eq.trans k h)

theorem Only.mono {ps qs : List Part} {b c : Body} (h : Only ps b c) (hs : ∀ p, p ∈ ps → p ∈ qs) : Only qs b c :=
  fun p => (h p).imp (hs p) id

theorem Only.setF {ps : List Part} {b c : Body} (h : Only ps b c) (f : Field) (i v : Nat) (hp : Part.regs ∈ ps) :
    Only ps b (setF c f i v) := by
  refine h.trans (fun p => ?_)
  cases p <;> first | exact .inl hp | exact .inr rfl

theorem Only.setFlag {ps : List Part} {b c : Body} (h : Only ps b c) (f : Field) (i : Nat) (v : Bool) (hp : Part.regs ∈ ps) :
    Only ps b (setFlag c f i v) := h.setF f i _ hp

theorem Only.addSat {ps : List Part} {b c : Body} (h : Only ps b c) (f : Field) (i n : Nat) (hp : Part.regs ∈ ps) :
    Only ps b (addSat c f i n) := h.setF f i _ hp

theorem Only.setStn {ps : List Part} {b c : Body} (h : Only ps b c) (st : Nat) (t : Station) (hp : Part.stations ∈ ps) :
    Only ps b (setStn c st t) := by
  refine h.trans (fun p => ?_)
  cases p <;> first | exact .inl hp | exact .inr rfl

theorem Only.updStn {ps : List Part} {b c : Body} (h : Only ps b c) (st : Nat) (f : Station → Station) (hp : Part.stations ∈ ps) :
    Only ps b (updStn c st f) := h.setStn st _ hp

theorem RegsBut.refl (fs : List Field) (i : Nat) (b : Body) : RegsBut fs i b b := fun _ _ _ _ => rfl

theorem RegsBut.trans {fs : List Field} {i : Nat} {b c d : Body} (h : RegsBut fs i b c) (k : RegsBut fs i c d) : RegsBut fs i b d :=
  fun f j hf hj => (k f j hf hj).trans (h f j hf hj)

/-- A write to a listed field of the instance. -/
theorem RegsBut.setF {fs : List Field} {i : Nat} {b c : Body} (h : RegsBut fs i b c) (f : Field) (v : Nat) (hf : f.idx < 1024)
    (hm : f.idx ∈ fs.map Field.idx) : RegsBut fs i b (setF c f i v) := by
  intro g j hg hj
  rw [getF_setF_ne c f g i j v]
  · exact h g j hg hj
  · rcases hj with hj | hj
    · omega
    · have : g.idx ≠ f.idx := fun e => hj (e ▸ hm)
      omega

/-- An update of anything but the register file. -/
theorem RegsBut.of_regs {fs : List Field} {i : Nat} {b c d : Body} (h : RegsBut fs i b c) (e : d.regs = c.regs) : RegsBut fs i b d :=
  fun f j hf hj => (getF_congr d c f j e).trans (h f j hf hj)

end Sys2Proof.Machine
end

