-- ==== Sys2Proof/Laws/Issue.lean ====
section
/-! SUPPORT. The issue of a bundle of one slot: what the sequencer does before the slot's effects, and the outcome for the
effects that write one register of the station. -/

namespace Sys2Proof.Machine

/-- The body a bundle of one slot reads and has advanced before its effects apply: `loops` is what the loop stack held. -/
structure Advanced (sl : Slot) (b c : Body) (pc : Nat) (loops : List LoopEntry) : Prop where
  only : Only [.stations, .regs, .free] b c
  station : stn c sl.st = { stn b sl.st with loops := loops }
  others : ∀ y, y ≠ sl.st → stn c y = stn b y
  pc : getF c R.STN_SEQ_PC.pc sl.st = pc
  state : getF c R.STN_STATUS.state sl.st = 3
  tally : flagF c R.STN_SEQ_STATUS.tally_wait sl.st = false
  barrier : flagF c R.STN_SEQ_STATUS.barrier_wait sl.st = false
  fence : flagF c R.STN_SEQ_STATUS.fence_wait sl.st = false
  regs : RegsBut issueFields sl.st b c

theorem alone_iff (sl : Slot) (b : Body) : alone sl b = true ↔
    isStation sl.st = true ∧ sl.last = true ∧ (stn b sl.st).opened = [] ∧ issuing b sl.st = true
      ∧ SMap.get (stn b sl.st).badIstore [] (getF b R.STN_SEQ_PC.pc sl.st) = [] := by
  simp [alone, and_assoc]

/-- Nothing is shown of a wait once a bundle issues. -/
theorem showHold_nil (st : Nat) (b : Body) (h : getF b R.STN_STATUS.state st ≠ 6) :
    getF (showHold st [] b) R.STN_STATUS.state st = 3
      ∧ flagF (showHold st [] b) R.STN_SEQ_STATUS.tally_wait st = false
      ∧ flagF (showHold st [] b) R.STN_SEQ_STATUS.barrier_wait st = false
      ∧ flagF (showHold st [] b) R.STN_SEQ_STATUS.fence_wait st = false
      ∧ getF (showHold st [] b) R.STN_SEQ_PC.pc st = getF b R.STN_SEQ_PC.pc st
      ∧ RegsBut issueFields st b (showHold st [] b)
      ∧ Only [.stations, .regs, .free] b (showHold st [] b)
      ∧ ∀ y, stn (showHold st [] b) y = stn b y := by
  have h2 : getF (setFlag (setF (setFlag (setFlag b R.STN_SEQ_STATUS.fence_wait st false) R.STN_SEQ_STATUS.tally_wait st false)
      R.STN_SEQ_STATUS.wait_tally st 0) R.STN_SEQ_STATUS.barrier_wait st false) R.STN_STATUS.state st ≠ 6 := by
    simp only [setFlag]
    repeat rw [getF_setF_field _ _ _ _ _ _ (by decide) (by decide) (by decide)]
    exact h
  have e : showHold st [] b = setF (setFlag (setF (setFlag (setFlag b R.STN_SEQ_STATUS.fence_wait st false)
      R.STN_SEQ_STATUS.tally_wait st false) R.STN_SEQ_STATUS.wait_tally st 0) R.STN_SEQ_STATUS.barrier_wait st false)
      R.STN_STATUS.state st 3 := by
    exact if_neg h2
  rw [e]
  refine ⟨getF_setF_same _ _ _ _, ?_, ?_, ?_, ?_, ?_, ?_, fun y => rfl⟩
  · simp only [flagF, setFlag]
    repeat first | rw [getF_setF_same] | rw [getF_setF_field _ _ _ _ _ _ (by decide) (by decide) (by decide)]
    rfl
  · simp only [flagF, setFlag]
    repeat first | rw [getF_setF_same] | rw [getF_setF_field _ _ _ _ _ _ (by decide) (by decide) (by decide)]
    rfl
  · simp only [flagF, setFlag]
    repeat first | rw [getF_setF_same] | rw [getF_setF_field _ _ _ _ _ _ (by decide) (by decide) (by decide)]
    rfl
  · simp only [setFlag]
    repeat rw [getF_setF_field _ _ _ _ _ _ (by decide) (by decide) (by decide)]
  · refine RegsBut.setF ?_ _ _ (by decide) (by decide)
    refine RegsBut.setF ?_ _ _ (by decide) (by decide)
    refine RegsBut.setF ?_ _ _ (by decide) (by decide)
    refine RegsBut.setF ?_ _ _ (by decide) (by decide)
    exact RegsBut.setF (RegsBut.refl _ _ _) _ _ (by decide) (by decide)
  · exact (((((Only.refl _ _).setFlag _ _ _ (by decide)).setFlag _ _ _ (by decide)).setF _ _ _ (by decide)).setFlag _ _ _
      (by decide)).setF _ _ _ (by decide)

/-- What setting the pc leaves, over a body `c` that differs from `b` in its stations only. -/
theorem setPc_advanced (st v : Nat) (b c : Body) (hr : c.regs = b.regs) (ho : Only [.stations, .regs, .free] b c) :
    getF (setF c R.STN_SEQ_PC.pc st v) R.STN_SEQ_PC.pc st = v % 4096
      ∧ (∀ f, f.idx < 1024 → f.idx ≠ R.STN_SEQ_PC.pc.idx → getF (setF c R.STN_SEQ_PC.pc st v) f st = getF b f st)
      ∧ RegsBut issueFields st b (setF c R.STN_SEQ_PC.pc st v)
      ∧ Only [.stations, .regs, .free] b (setF c R.STN_SEQ_PC.pc st v) := by
  refine ⟨getF_setF_same _ _ _ _, fun f hf hn => ?_, ?_, ho.setF _ _ _ (by decide)⟩
  · rw [getF_setF_field _ _ _ _ _ _ (by decide) hf hn]
    exact getF_congr _ _ _ _ hr
  · exact ((RegsBut.refl _ _ _).of_regs hr).setF _ _ (by decide) (by decide)

/-- The pc and the loop stack after a bundle that names no target (R149). -/
theorem advancePc_advanced (st pc : Nat) (b : Body) :
    getF (advancePc st pc (stn b st).loops b) R.STN_SEQ_PC.pc st = (nextPc pc (stn b st).loops).1
      ∧ stn (advancePc st pc (stn b st).loops b) st = { stn b st with loops := (nextPc pc (stn b st).loops).2 }
      ∧ (∀ y, y ≠ st → stn (advancePc st pc (stn b st).loops b) y = stn b y)
      ∧ (∀ f, f.idx < 1024 → f.idx ≠ R.STN_SEQ_PC.pc.idx → getF (advancePc st pc (stn b st).loops b) f st = getF b f st)
      ∧ RegsBut issueFields st b (advancePc st pc (stn b st).loops b)
      ∧ Only [.stations, .regs, .free] b (advancePc st pc (stn b st).loops b) := by
  have stay : ∀ ls, (stn b st).loops = ls → stn b st = { stn b st with loops := ls } := fun ls h => by rw [← h]
  generalize hl : (stn b st).loops = loops
  cases loops with
  | nil =>
    obtain ⟨h1, h3, h4, h5⟩ := setPc_advanced st ((pc + 1) % 4096) b b rfl (Only.refl _ _)
    rw [Nat.mod_mod] at h1
    exact ⟨h1, stay _ hl, fun _ _ => rfl, h3, h4, h5⟩
  | cons e rest =>
    unfold advancePc nextPc
    dsimp only
    by_cases he : e.stop = pc
    · have he' : ¬e.stop ≠ pc := fun h => h he
      by_cases hc : 1 < e.count
      · obtain ⟨h1, h3, h4, h5⟩ := setPc_advanced st e.start b
          (updStn b st (fun t => { t with loops := { e with count := e.count - 1 } :: rest })) rfl
          ((Only.refl _ _).updStn _ _ (by decide))
        rw [if_pos he, if_pos hc, if_neg he', if_pos hc]
        exact ⟨h1, by simp, fun y hy => (stn_setF _ _ _ _ _).trans (stn_updStn_ne _ _ _ _ hy), h3, h4, h5⟩
      · obtain ⟨h1, h3, h4, h5⟩ := setPc_advanced st ((pc + 1) % 4096) b (updStn b st (fun t => { t with loops := rest })) rfl
          ((Only.refl _ _).updStn _ _ (by decide))
        rw [Nat.mod_mod] at h1
        rw [if_pos he, if_neg hc, if_neg he', if_neg hc]
        exact ⟨h1, by simp, fun y hy => (stn_setF _ _ _ _ _).trans (stn_updStn_ne _ _ _ _ hy), h3, h4, h5⟩
    · obtain ⟨h1, h3, h4, h5⟩ := setPc_advanced st ((pc + 1) % 4096) b b rfl (Only.refl _ _)
      rw [Nat.mod_mod] at h1
      rw [if_neg he, if_pos he]
      exact ⟨h1, stay _ hl, fun _ _ => rfl, h3, h4, h5⟩

/-- A readable bundle is fetched as it is stored. -/
theorem fetch_readable (st : Nat) (b : Body) (h : SMap.get (stn b st).badIstore [] (getF b R.STN_SEQ_PC.pc st) = []) :
    fetch st b = (true, { b with free := b.free + 4 }) := by
  unfold fetch
  simp only [h, decodeUnit, List.length_nil, if_true]

/-- The effects that name the next bundle. -/
def Eff.steers : Eff → Bool
  | .branch _ => true
  | .skipTo _ => true
  | _ => false

/-- A bundle of one slot overwrites nothing that an operation of its own reads. -/
theorem withSaved_one (b : Body) (st : Nat) (o : OpenSlot) : withSaved b st [o] = [o] := by
  unfold withSaved
  simp only [List.find?_cons, List.find?_nil]
  by_cases h : o.ix = 1
  · simp [h]
  · have h1 : (o.ix == 1) = false := by simp [h]
    simp only [h1]

/-- The effects of a bundle of one slot. -/
theorem applyBundle_one (st : Nat) (o : OpenSlot) (b : Body) (effs : List Eff) (hix : o.ix < 4) (hr : o.res = ⟨effs, [], []⟩) :
    applyBundle st [o] b = forEach effs (applyEff st (getF b R.STN_SEQ_PC.pc st) o.ix)
      (advancePc st (getF b R.STN_SEQ_PC.pc st) (if effs.any Eff.steers then [] else (stn (showHold st [] b) st).loops)
        (showHold st [] b)) := by
  have hst : Eff.steers = fun e => match e with
      | .branch _ => true
      | .skipTo _ => true
      | _ => false := by funext e; cases e <;> rfl
  have hin : inOrder [o] = [o] := by
    unfold inOrder
    rcases (by omega : o.ix = 0 ∨ o.ix = 1 ∨ o.ix = 2 ∨ o.ix = 3) with h | h | h | h <;> simp [List.range_succ, h]
  unfold applyBundle
  simp only [withSaved_one, hin, List.any_cons, List.any_nil, Bool.or_false, hst]
  obtain ⟨ix, w, r⟩ := o
  cases hr
  rfl

/-- A bundle of one slot without exceptions and holds issues. -/
theorem issueBundle_one (st : Nat) (o : OpenSlot) (b c : Body) (effs : List Eff) (hc : c = updStn b st (fun t => { t with opened := [] }))
    (ho : (stn b st).opened = [o]) (hr : o.res = ⟨effs, [], []⟩) (hi : issuing c st = true)
    (hb : SMap.get (stn c st).badIstore [] (getF c R.STN_SEQ_PC.pc st) = []) :
    issueBundle st b = applyBundle st [o] { c with free := c.free + 4 } := by
  unfold issueBundle
  rw [← hc, if_pos hi, fetch_readable _ _ hb, ho]
  simp [hr, bundleExcs, illegalSlots]

/-- The body in which the effects of a bundle of one slot apply, before the pc advances. -/
def readyBody (ix : Nat) (f : Body → Station → SlotRes) (sl : Slot) (b : Body) : Body :=
  let o : OpenSlot := ⟨ix, sl.w, f b (stn b sl.st)⟩
  let c := updStn { b with free := b.free + 1 } sl.st (fun t => { t with opened := t.opened.filter (fun p => p.ix != ix) ++ [o] })
  let c := updStn c sl.st (fun t => { t with opened := [] })
  { c with free := c.free + 4 }

/-- A whole bundle of one slot without exceptions and holds applies the slot's effects. -/
theorem onSlot_alone (ix op : Nat) (f : Body → Station → SlotRes) (sl : Slot) (s : State) (effs : List Eff)
    (ha : alone sl s.body = true) (hop : bits sl.w 0 8 = op)
    (hf : f s.body (stn s.body sl.st) = ⟨effs, [], []⟩) :
    onSlot ix op f sl s = .next { s with
      body := applyBundle sl.st [⟨ix, sl.w, ⟨effs, [], []⟩⟩] (readyBody ix f sl s.body) } := by
  obtain ⟨h1, h2, h3, h4, h5⟩ := (alone_iff _ _).mp ha
  unfold onSlot
  rw [h1, if_neg (by decide), if_pos hop]
  unfold lift presentSlot
  rw [if_pos h2]
  congr 2
  refine (issueBundle_one sl.st ⟨ix, sl.w, f s.body (stn s.body sl.st)⟩ _ _ effs rfl ?_ hf ?_ ?_).trans ?_
  · rw [stn_updStn_same]
    show List.filter _ (stn s.body sl.st).opened ++ _ = _
    rw [h3]; rfl
  · rw [← h4]
    unfold issuing
    rw [stn_updStn_same, stn_updStn_same]
    rfl
  · rw [stn_updStn_same, stn_updStn_same]
    exact h5
  · unfold readyBody; rw [hf]

theorem Advanced.of_ready (ix : Nat) (f : Body → Station → SlotRes) (sl : Slot) (b : Body) (ha : alone sl b = true) :
    Only [.stations, .regs, .free] b (showHold sl.st [] (readyBody ix f sl b))
      ∧ stn (showHold sl.st [] (readyBody ix f sl b)) sl.st = stn b sl.st
      ∧ (∀ y, y ≠ sl.st → stn (showHold sl.st [] (readyBody ix f sl b)) y = stn b y)
      ∧ RegsBut issueFields sl.st b (showHold sl.st [] (readyBody ix f sl b))
      ∧ getF (readyBody ix f sl b) R.STN_SEQ_PC.pc sl.st = getF b R.STN_SEQ_PC.pc sl.st
      ∧ getF (showHold sl.st [] (readyBody ix f sl b)) R.STN_STATUS.state sl.st = 3
      ∧ flagF (showHold sl.st [] (readyBody ix f sl b)) R.STN_SEQ_STATUS.tally_wait sl.st = false
      ∧ flagF (showHold sl.st [] (readyBody ix f sl b)) R.STN_SEQ_STATUS.barrier_wait sl.st = false
      ∧ flagF (showHold sl.st [] (readyBody ix f sl b)) R.STN_SEQ_STATUS.fence_wait sl.st = false := by
  obtain ⟨h1, h2, h3, h4, h5⟩ := (alone_iff _ _).mp ha
  have h6 : getF (readyBody ix f sl b) R.STN_STATUS.state sl.st ≠ 6 := by
    have : getF b R.STN_STATUS.state sl.st ≠ 6 := by
      intro h
      simp [issuing, h] at h4
    exact this
  obtain ⟨a1, a2, a3, a4, a5, a6, a7, a8⟩ := showHold_nil sl.st _ h6
  have o1 : Only [.stations, .regs, .free] b (readyBody ix f sl b) := by
    intro p
    cases p <;> first | exact .inl (by decide) | exact .inr rfl
  refine ⟨o1.trans a7, ?_, fun y hy => ?_, (RegsBut.refl _ _ _ |>.of_regs rfl).trans a6, rfl, a1, a2, a3, a4⟩
  · rw [a8]
    show stn (updStn (updStn { b with free := b.free + 1 } _ _) sl.st (fun t => { t with opened := [] })) sl.st = _
    rw [stn_updStn_same, stn_updStn_same]
    show { stn b sl.st with opened := [] } = stn b sl.st
    rw [← h3]
  · rw [a8]
    show stn (updStn (updStn { b with free := b.free + 1 } sl.st _) sl.st (fun t => { t with opened := [] })) y = _
    rw [stn_updStn_ne _ _ _ _ hy, stn_updStn_ne _ _ _ _ hy]
    rfl

/-- A whole bundle of one slot whose effects name no next bundle: its effects apply after the sequencer has gone on. -/
theorem onSlot_advanced (ix op : Nat) (f : Body → Station → SlotRes) (sl : Slot) (s : State) (effs : List Eff)
    (hix : ix < 4) (ha : alone sl s.body = true) (hop : bits sl.w 0 8 = op)
    (hf : f s.body (stn s.body sl.st) = ⟨effs, [], []⟩) (hs : effs.any Eff.steers = false) :
    ∃ c, onSlot ix op f sl s = .next { s with body := forEach effs (applyEff sl.st (getF s.body R.STN_SEQ_PC.pc sl.st) ix) c }
      ∧ Advanced sl s.body c (nextPc (getF s.body R.STN_SEQ_PC.pc sl.st) (stn s.body sl.st).loops).1
          (nextPc (getF s.body R.STN_SEQ_PC.pc sl.st) (stn s.body sl.st).loops).2 := by
  obtain ⟨r1, r2, r3, r4, r5, r6, r7, r8, r9⟩ := Advanced.of_ready ix f sl s.body ha
  have e := onSlot_alone ix op f sl s effs ha hop hf
  rw [applyBundle_one _ _ _ effs hix rfl, r5, hs, if_neg (by decide)] at e
  refine ⟨_, e, ?_⟩
  obtain ⟨p1, p2, p3, p4, p5, p6⟩ := advancePc_advanced sl.st (getF s.body R.STN_SEQ_PC.pc sl.st) (showHold sl.st [] (readyBody ix f sl s.body))
  rw [r2] at p1 p2
  refine ⟨r1.trans p6, ?_, fun y hy => (p3 y hy).trans (r3 y hy), ?_, ?_, ?_, ?_, ?_, r4.trans p5⟩
  · rw [r2]; exact p2
  · rw [r2]; exact p1
  · exact (p4 _ (by decide) (by decide)).trans r6
  · exact (congrArg (· == 1) (p4 _ (by decide) (by decide))).trans r7
  · exact (congrArg (· == 1) (p4 _ (by decide) (by decide))).trans r8
  · exact (congrArg (· == 1) (p4 _ (by decide) (by decide))).trans r9

/-- A whole bundle of one slot whose effects name the next bundle: the loop stack is as before when they apply. -/
theorem onSlot_steers (ix op : Nat) (f : Body → Station → SlotRes) (sl : Slot) (s : State) (effs : List Eff)
    (hix : ix < 4) (ha : alone sl s.body = true) (hop : bits sl.w 0 8 = op)
    (hf : f s.body (stn s.body sl.st) = ⟨effs, [], []⟩) (hs : effs.any Eff.steers = true) :
    ∃ c, onSlot ix op f sl s = .next { s with body := forEach effs (applyEff sl.st (getF s.body R.STN_SEQ_PC.pc sl.st) ix) c }
      ∧ Advanced sl s.body c ((getF s.body R.STN_SEQ_PC.pc sl.st + 1) % 4096) (stn s.body sl.st).loops := by
  obtain ⟨r1, r2, r3, r4, r5, r6, r7, r8, r9⟩ := Advanced.of_ready ix f sl s.body ha
  have e := onSlot_alone ix op f sl s effs ha hop hf
  rw [applyBundle_one _ _ _ effs hix rfl, r5, hs, if_pos rfl] at e
  refine ⟨_, e, ?_⟩
  obtain ⟨p1, p4, p5, p6⟩ := setPc_advanced sl.st ((getF s.body R.STN_SEQ_PC.pc sl.st + 1) % 4096)
    (showHold sl.st [] (readyBody ix f sl s.body)) (showHold sl.st [] (readyBody ix f sl s.body)) rfl (Only.refl _ _)
  rw [Nat.mod_mod] at p1
  refine ⟨r1.trans p6, r2, r3, p1, ?_, ?_, ?_, ?_, r4.trans p5⟩
  · exact (p4 _ (by decide) (by decide)).trans r6
  · exact (congrArg (· == 1) (p4 _ (by decide) (by decide))).trans r7
  · exact (congrArg (· == 1) (p4 _ (by decide) (by decide))).trans r8
  · exact (congrArg (· == 1) (p4 _ (by decide) (by decide))).trans r9

/-- Updating the station alone after the sequencer has gone on. -/
theorem Advanced.issuedAt {sl : Slot} {s : State} {c : Body} {pc : Nat} {ls : List LoopEntry} (h : Advanced sl s.body c pc ls)
    (g : Station → Station) (hg : ∀ x l, g { x with loops := l } = { g x with loops := l }) :
    IssuedAt pc ls [] sl s { s with body := updStn c sl.st g } (g (stn s.body sl.st)) := by
  refine ⟨rfl, rfl, h.only.updStn _ _ (by decide), ?_, fun y hy => ?_, h.pc, h.state, h.tally, h.barrier, h.fence, ?_⟩
  · rw [stn_updStn_same, h.station, hg]
  · rw [stn_updStn_ne _ _ _ _ hy]; exact h.others y hy
  · rw [List.append_nil]
    exact h.regs.of_regs rfl

/-- Nothing is left to apply. -/
theorem Advanced.issued_nil {sl : Slot} {s : State} {c : Body} {pc : Nat} {ls : List LoopEntry} (h : Advanced sl s.body c pc ls) :
    IssuedAt pc ls [] sl s { s with body := c } (stn s.body sl.st) := by
  refine ⟨rfl, rfl, h.only, h.station, h.others, h.pc, h.state, h.tally, h.barrier, h.fence, ?_⟩
  rw [List.append_nil]
  exact h.regs

/-- A whole bundle of one slot whose one effect updates the station. -/
theorem onSlot_upd (ix op : Nat) (f : Body → Station → SlotRes) (sl : Slot) (s : State) (e : Eff) (g : Station → Station)
    (hix : ix < 4) (ha : alone sl s.body = true) (hop : bits sl.w 0 8 = op)
    (hf : f s.body (stn s.body sl.st) = ⟨[e], [], []⟩) (hs : e.steers = false)
    (he : ∀ pc b, applyEff sl.st pc ix e b = updStn b sl.st g) (hg : ∀ x l, g { x with loops := l } = { g x with loops := l }) :
    ∃ t, onSlot ix op f sl s = .next t ∧ Issued [] sl s t (g (stn s.body sl.st)) := by
  obtain ⟨c, e1, h⟩ := onSlot_advanced ix op f sl s [e] hix ha hop hf (by simp [hs])
  refine ⟨_, e1, ?_⟩
  have e2 : forEach [e] (applyEff sl.st (getF s.body R.STN_SEQ_PC.pc sl.st) ix) c = updStn c sl.st g := he _ _
  rw [e2]
  exact h.issuedAt g hg

end Sys2Proof.Machine
end

