-- ==== Sys2Proof/Laws/Memory.lean ====
section
/-! SUPPORT. Stack memory: reads after writes, and that every memory operation keeps the canonical form and the queue. -/

namespace Sys2Proof.Machine

@[simp] theorem memGet_memPut_same (m : List Host.Cell) (a : Nat) (v : Byte) : memGet (memPut m a v) a = v :=
  SMap.get_put_same _ _ _ _

theorem memGet_memPut_ne (m : List Host.Cell) (a c : Nat) (v : Byte) (h : c ≠ a) : memGet (memPut m a v) c = memGet m c :=
  SMap.get_put_ne _ _ _ _ _ _ h

/-- An unlisted address reads as the value of log entry 8. -/
@[simp] theorem memGet_nil (a : Nat) : memGet [] a = unwritten := rfl

/-- Storing bytes leaves every address outside them alone. -/
theorem memGet_memStore_outside (bs : List (Option Byte)) (c : Nat) :
    ∀ (m : List Host.Cell) (a : Nat), (c < a ∨ a + bs.length ≤ c) → memGet (memStore m a bs) c = memGet m c := by
  induction bs with
  | nil => intro m a _; rfl
  | cons x t ih =>
    intro m a h
    simp only [List.length_cons] at h
    cases x with
    | none => exact ih m (a + 1) (by omega)
    | some v => rw [memStore, ih _ (a + 1) (by omega), memGet_memPut_ne _ _ _ _ (by omega)]

/-- A stored byte is read back; a byte that is not stored keeps its value. -/
theorem memGet_memStore_inside (bs : List (Option Byte)) :
    ∀ (m : List Host.Cell) (a i : Nat), i < bs.length →
      memGet (memStore m a bs) (a + i) = ((bs.getD i none).getD (memGet m (a + i))) := by
  induction bs with
  | nil => intro m a i h; exact absurd h (Nat.not_lt_zero _)
  | cons x t ih =>
    intro m a i h
    cases i with
    | zero =>
      cases x with
      | none => simpa [memStore] using memGet_memStore_outside t a m (a + 1) (by omega)
      | some v => simpa [memStore] using memGet_memStore_outside t a (memPut m a v) (a + 1) (by omega)
    | succ j =>
      have hj : j < t.length := by simpa using h
      have e : a + (j + 1) = (a + 1) + j := by omega
      cases x with
      | none => rw [e, memStore, ih m (a + 1) j hj]; simp
      | some v => rw [e, memStore, ih _ (a + 1) j hj, memGet_memPut_ne _ _ _ _ (by omega)]; simp

theorem Memory.wf_memPut (m : List Host.Cell) (a : Nat) (v : Byte) (h : Memory.wf m = true) : Memory.wf (memPut m a v) = true :=
  SMap.wf_put (fun _ => unwritten) m a v h

theorem Memory.wf_memStore (bs : List (Option Byte)) :
    ∀ (m : List Host.Cell) (a : Nat), Memory.wf m = true → Memory.wf (memStore m a bs) = true := by
  induction bs with
  | nil => intro m a h; exact h
  | cons x t ih =>
    intro m a h
    cases x with
    | none => exact ih m (a + 1) h
    | some v => exact ih _ (a + 1) (Memory.wf_memPut m a v h)

/-- What every operation over the whole state keeps: the queue, and the canonical form of the stacks. -/
structure Keeps (s t : State) : Prop where
  queue : t.pending = s.pending
  canon : Memory.wf s.mem = true → Memory.wf t.mem = true

theorem Keeps.refl (s : State) : Keeps s s := ⟨rfl, id⟩

theorem Keeps.trans {s t u : State} (a : Keeps s t) (b : Keeps t u) : Keeps s u :=
  ⟨b.queue.trans a.queue, fun h => b.canon (a.canon h)⟩

theorem Keeps.body (s : State) (b : Body) : Keeps s { s with body := b } := ⟨rfl, id⟩

theorem Keeps.onBody (f : Body → Body) (s : State) : Keeps s (onBody f s) := ⟨rfl, id⟩

theorem Keeps.foldl {α : Type} (f : State → α → State) (h : ∀ s x, Keeps s (f s x)) :
    ∀ (l : List α) (s : State), Keeps s (l.foldl f s) := by
  intro l
  induction l with
  | nil => intro s; exact Keeps.refl s
  | cons x t ih => intro s; exact (h s x).trans (ih (f s x))

@[simp] theorem readStackUnit_mem (u : Nat) (s : State) : (readStackUnit u s).2.mem = s.mem := rfl
@[simp] theorem readStackUnit_pending (u : Nat) (s : State) : (readStackUnit u s).2.pending = s.pending := rfl

@[simp] theorem readStackUnits_mem (us : List Nat) : ∀ s : State, (readStackUnits us s).2.mem = s.mem := by
  induction us with
  | nil => intro s; rfl
  | cons u t ih => intro s; simp [readStackUnits, ih]

@[simp] theorem readStackUnits_pending (us : List Nat) : ∀ s : State, (readStackUnits us s).2.pending = s.pending := by
  induction us with
  | nil => intro s; rfl
  | cons u t ih => intro s; simp [readStackUnits, ih]

/-- Reading changes no byte of the stacks. -/
@[simp] theorem readStack_mem (a n : Nat) (s : State) : (readStack a n s).2.mem = s.mem := readStackUnits_mem _ s
@[simp] theorem readStack_pending (a n : Nat) (s : State) : (readStack a n s).2.pending = s.pending := readStackUnits_pending _ s

theorem readStack_keeps (a n : Nat) (s : State) : Keeps s (readStack a n s).2 :=
  ⟨by simp, by simp⟩

theorem writeStackUnit_keeps (u : Nat) (data : List (Option Byte)) (s : State) : Keeps s (writeStackUnit u data s).2 := by
  have hr : ∀ r : Option (List Byte) × State, r.2.mem = s.mem → r.2.pending = s.pending →
      Keeps s (match r.1 with
        | none => (false, r.2)
        | some bs => (true, { r.2 with
            mem := memStore (if (SMap.get r.2.body.badStack [] u).length < 4 then r.2.mem else memStore r.2.mem (u * 32) (bs.map some)) (u * 32) data
            body := { r.2.body with badStack := SMap.erase r.2.body.badStack u } })).2 := by
    intro r hm hp
    split
    · exact ⟨hp, fun h => hm ▸ h⟩
    · refine ⟨hp, fun h => Memory.wf_memStore _ _ _ ?_⟩
      split
      · exact hm ▸ h
      · exact Memory.wf_memStore _ _ _ (hm ▸ h)
  unfold writeStackUnit
  split
  · exact Keeps.refl s
  · exact hr _ (by split <;> rfl) (by split <;> rfl)

theorem writeStackUnits_keeps (ps : List (Nat × List (Option Byte))) : ∀ s : State, Keeps s (writeStackUnits ps s).2 := by
  induction ps with
  | nil => intro s; exact Keeps.refl s
  | cons p t ih => intro s; exact (writeStackUnit_keeps p.1 p.2 s).trans (ih _)

theorem writeStack_keeps (a : Nat) (data : List (Option Byte)) (s : State) : Keeps s (writeStack a data s).2 := writeStackUnits_keeps _ s

theorem writeStackBytes_keeps (a : Nat) (bs : List Byte) (s : State) : Keeps s (writeStackBytes a bs s) := writeStack_keeps a _ s

theorem stackAccess_keeps (f : Flit) (s : State) : Keeps s (stackAccess f s) := by
  unfold stackAccess
  dsimp only
  split
  · split
    · exact (readStack_keeps _ _ s).trans (Keeps.onBody _ _)
    · exact (readStack_keeps _ _ s).trans (Keeps.onBody _ _)
  · split
    · exact (writeStack_keeps _ _ s).trans (Keeps.onBody _ _)
    · exact (writeStack_keeps _ _ s).trans (Keeps.onBody _ _)

theorem accessComplete_keeps (k pc : Nat) (upset : List Nat) (s : State) : Keeps s (accessComplete k pc upset s) := by
  unfold accessComplete
  split
  · split
    · exact Keeps.refl s
    · exact (Keeps.body s _).trans (stackAccess_keeps _ _)
  · exact Keeps.refl s

theorem stackScrub_keeps (u : Nat) (upset : List Nat) (s : State) : Keeps s (stackScrub u upset s) := by
  unfold stackScrub
  dsimp only
  split
  · exact Keeps.refl s
  · split
    · exact ⟨rfl, id⟩
    · split
      · exact ⟨rfl, id⟩
      · exact ⟨rfl, fun h => Memory.wf_memStore _ _ _ h⟩

end Sys2Proof.Machine
end

