-- ==== Sys2Proof/Tests/Slice0.lean ====
section
/-! SUPPORT. Small tests: ill-formed commands refused by the well-formedness check, single steps with results written out from the
spec, and for every statement with hypotheses a concrete state and operands that meet them. -/

namespace Sys2Proof.Tests

open Sys2Proof Sys2Proof.Machine

set_option Elab.async false

/-- A word made of fields: offset, width, value. -/
def packFields (fs : List (Nat × Nat × Nat)) : Nat := fs.foldl (fun a f => a + f.2.2 % 2 ^ f.2.1 * 2 ^ f.1) 0

/-- A slot of station 0 that is a whole bundle. -/
def slotOf (fs : List (Nat × Nat × Nat)) : Slot := ⟨0, packFields fs, true⟩

/-- A body with register fields set: field, instance, value. -/
def withFields (fs : List (Field × Nat × Nat)) (b : Body) : Body := fs.foldl (fun b f => setF b f.1 f.2.1 f.2.2) b

/-- The state with body `b`, no command waiting and no byte of a stack listed. -/
def ofBody (b : Body) : State := { State.reset with body := b }

/-- The state after reset with register fields set. -/
def fieldsAt (fs : List (Field × Nat × Nat)) : State := ofBody (withFields fs Body.reset)

/-- Station 0 holds `t` and runs. -/
def running (t : Station) : State :=
  ofBody (setStn (withFields [(R.STN_CTRL.power_gate, 0, 0), (R.STN_CTRL.run, 0, 1), (R.STN_STATUS.state, 0, 3)] Body.reset) 0 t)

/-- The slot is a whole bundle its station can issue, spells `op` and uses no field but `fs`, and none of its registers waits. -/
def canIssue (sl : Slot) (s : State) (op : Nat) (fs : List (Nat × Nat)) (ss vs ts : List Nat) : Bool :=
  alone sl s.body && (bits sl.w 0 8 == op) && onlyFields sl.w fs && (sourceHolds (stn s.body sl.st) ss vs ts).isEmpty

/-- What a command leaves, read by `f`; none where it stops. -/
def after {α : Type} (c : Instr) (s : State) (f : Body → α) : Option α :=
  match Sys2Proof.Machine.exec c s with
  | .next t => some (f t.body)
  | _ => none

/-! Well-formedness: an ill-formed term for each check. -/

theorem test_ill_formed_slots :
    ([.addI ⟨0, 0x02, true⟩, .addI ⟨52, 0x01, true⟩, .addI ⟨1024, 0x01, true⟩, .addI ⟨0, 2 ^ 64 + 1, true⟩, .nop 4 ⟨0, 0, true⟩,
      .nop 0 ⟨0, 1, true⟩, .vld ⟨0, 0x02, true⟩, .mmul ⟨0, 0x20, true⟩, .dlist ⟨0, 0x03, true⟩, .trap ⟨0, 0x49, true⟩,
      .strokeEnd ⟨63, 0x3C, true⟩] : List Instr).all (fun i => !i.wellFormed) = true := by decide

theorem test_ill_formed_stations :
    ([.matrixOpStart 52, .matrixOpComplete 1024, .stnRun 116 true, .stnFence 1023 true, .stnPowerGate 52 true,
      .stnSramInit 53, .sramInitComplete 54, .spareSelfTestComplete 55 true, .excCauseClear 56, .stnSeqPcWrite 0 4096,
      .stnSeqPcWrite 52 0, .istoreWrite 0 4096 0, .istoreWrite 0 0 (2 ^ 256), .barrierRelease 0 8, .sramCorrectionWriteback 52 0,
      .sramScrubRead 0 true 4096 [], .sramScrubRead 0 false 196608 [], .stationSelfTestComplete [52],
      .flitWrite 0 52] : List Instr).all (fun i => !i.wellFormed) = true := by decide

theorem test_ill_formed_dies_and_links :
    ([.dieQuiesce 16 true, .quiesceComplete 16, .mapCommit 16, .stnMapWrite 0 12 0, .stnMapWrite 16 0 0, .stnMapWrite 0 0 (2 ^ 32),
      .ucieFlitReceive ⟨20, 0, 0⟩ 0 0 true, .ucieFlitReceive ⟨0, 1, 0⟩ 4096 0 true, .ucieRetryRequest ⟨0, 1, 0⟩ 4096,
      .ucieModuleDisable ⟨0, 4, 0⟩, .droopHalt (.station 52), .stnClkTargetWrite (.station 0) 512, .ratioFault 16 0, .dieOt 16 0,
      .dieEdgeInitComplete [65536], .pmcBufCfgWrite 16 0, .pmcTimerWrite 0 4 0, .pmcIntervalTick 0 4, .pmcRingTailWrite 0 2 0,
      .pmcTrigWrite (2 ^ 32)] : List Instr).all (fun i => !i.wellFormed) = true := by decide

theorem test_ill_formed_memory :
    ([.stackRequest 0 1023, .stackRequest 0 1036, .stackAccessComplete 0 64 [], .stackAccessComplete 12 0 [], .stackRecalibration 0 64,
      .stackRefresh 0 (2 ^ 16), .selfRefreshEnter 12, .stackTrainingComplete 0 (2 ^ 64) 0, .stackLoss 12 0,
      .stackScrubRead (12 * stackUnits) [], .droverEntryStart 104, .descCopy 105, .drvResume 104, .drvHqTailWrite 4 0,
      .drvHqTailWrite 0 64, .drvHqFaultClear 4, .stagedEntryAppend 12, .tailApplyComplete 12, .chkInit 104,
      .controllerRestart 12] : List Instr).all (fun i => !i.wellFormed) = true := by decide

theorem test_ill_formed_links_and_modules :
    ([.korrelIdleSend 18, .cageCableInsert 18, .trainDone 18, .klkRejoin 4, .korrelProbe 18 0 0, .korrelProbe 0 16384 0,
      .korrelNotice 6 0 true, .korrelNotice 0 16384 true, .probeTimeout 16384, .routeWrite 16384 0 0 true,
      .replayRequest 0 (2 ^ 48) 0 0 0, .pairNote 0 16384 0, .returnI 16384 0 0 0] : List Instr).all (fun i => !i.wellFormed) = true := by decide

theorem test_ill_formed_power_and_control :
    ([.converterCell 5 0, .railOv 20 0 0, .railUv 0 16 0, .phaseRemove 0 0 99, .loopPeriod 20 0 ⟨[], 0, true, true, 0, 0, 0, false⟩,
      .pgTick 20 0, .pgTargetWrite .shepherdA 16 0 (2 ^ 32), .warnTimeout 20, .shedHoldoffExpire 20, .shedStart 20 0, .capWrite .shepherdA (2 ^ 14),
      .clkForceWrite .shepherdA 0 512, .tlmWindowEnd 0 3 [], .cmRead 4 [] true, .cmSleep 4, .monitorReset 4, .shepherdHeartbeat 2 0,
      .shepherdHeartbeat 0 65536, .shepherdFrameReceive [], .fwTrialFail 2] : List Instr).all (fun i => !i.wellFormed) = true := by decide

theorem test_ill_formed_host :
    ([.irqCauseClear (2 ^ 30), .irqMaskWrite (2 ^ 30), .irqTest (2 ^ 30), .msixUnmask 64, .mbxDoorbell 16, .mailboxTake 18, .identify 18,
      .drainBegin 18, .spdmGetVersion 2, .pmcEventCount 0 8 0 0 true, .pcieLinkUp 6 1 true, .pcieLinkUp 0 3 true] : List Instr).all
        (fun i => !i.wellFormed) = true := by decide

theorem test_well_formed :
    ([.addI ⟨0, 0x01, true⟩, .nop 3 ⟨0, 0, true⟩, .stnSeqPcWrite 1011 4095, .pcieLinkUp 5 16 true, .mbxDoorbell 15, .status 17,
      .korrelProbe 17 16383 0, .drvHqTailWrite 3 63, .sramScrubRead 0 false 196607 []] : List Instr).all (fun i => i.wellFormed) = true := by decide

/-! The statements' hypotheses are met: one theorem for each statement that has any. -/

theorem witness_StepRunsFront : State.reset.pending = [] := by decide +kernel

theorem witness_StepKeepsInvariant :
    Memory.wf State.reset.mem = true ∧ (match Sys2Proof.Machine.step { State.reset with pending := [.commitHold true, .drainStateChange] } with
      | .next t => decide (t.pending = [.drainStateChange])
      | _ => false) = true := by decide +kernel

theorem witness_WellFormedCompletes : Instr.wellFormed (.stnSeqPcWrite 1011 4095) = true ∧ Instr.wellFormed (.addI ⟨1011, 1, true⟩) = true := by
  decide +kernel

theorem witness_AbsentUnitsStop : isStation 52 = false ∧ isStation 1024 = false ∧ isStation 1011 = true ∧ bits 0x02 0 8 ≠ 0x01 ∧ bits 0x02 0 8 ∈ assignedOps 3
    ∧ isStack 12 = false ∧ isMailbox 18 = false := by decide +kernel

theorem witness_StackFrame : writesStacks (.commitHold true) = false ∧ after (.commitHold true) State.reset (fun _ => 0) = some 0 := by decide +kernel

theorem witness_SlotsWaitForTheirBundle :
    let sl : Slot := ⟨1011, 0x01, false⟩
    isStation sl.st = true ∧ sl.last = false ∧ bits sl.w 0 8 = 0x01
      ∧ bits 0x3C 0 8 = 0x3C := by decide +kernel

/-- Registers S1 and S2 of a station. -/
def twoRegs (a b : Nat) : Station := { Station.reset with s := [(1, BitVec.ofNat 64 a), (2, BitVec.ofNat 64 b)] }

/-- The fields of a C slot: opcode, sd, sa, sb and the immediate. -/
def cSlotOf (op sd sa sb imm : Nat) : Slot := slotOf [(0, 8, op), (8, 5, sd), (13, 5, sa), (18, 5, sb), (32, 32, imm)]

theorem witness_ScalarArithmetic :
    (let sl := cSlotOf 0x01 31 1 2 0
     canIssue sl (running (twoRegs 7 (2 ^ 64 - 1))) 0x01 ([(0, 8), (8, 5), (13, 5)] ++ bFields sl.w) [csd sl.w, csa sl.w, csb sl.w] [] [] = true)
      ∧ (let sl := slotOf [(0, 8, 0x0B), (8, 5, 0), (13, 5, 31), (23, 1, 1), (32, 32, 2 ^ 32 - 1)]
         canIssue sl (running Station.reset) 0x0B ([(0, 8), (8, 5), (13, 5)] ++ bFields sl.w) [csd sl.w, csa sl.w, csb sl.w] [] [] = true)
      ∧ canIssue (cSlotOf 0x0C 31 0 0 (2 ^ 31)) (running Station.reset) 0x0C [(0, 8), (8, 5), (32, 32)] [31] [] [] = true
      ∧ canIssue (cSlotOf 0x0D 1 0 0 1) (running (twoRegs 5 0)) 0x0D [(0, 8), (8, 5), (32, 32)] [1] [] [] = true := by decide +kernel

theorem witness_BranchesAndJumps :
    let s := running (twoRegs 4095 1)
    (canIssue (cSlotOf 0x22 0 2 1 4095) s 0x22 [(0, 8), (13, 5), (18, 5), (32, 32)] [2, 1] [] [] = true
        ∧ ((4095 : Nat) : Int) = (getF s.body R.STN_SEQ_PC.pc 0 : Int) + cimm (cSlotOf 0x22 0 2 1 4095).w)
      ∧ (canIssue (cSlotOf 0x25 0 2 1 0) s 0x25 [(0, 8), (13, 5), (18, 5), (32, 32)] [2, 1] [] [] = true
        ∧ ((0 : Nat) : Int) = (getF s.body R.STN_SEQ_PC.pc 0 : Int) + cimm (cSlotOf 0x25 0 2 1 0).w)
      ∧ canIssue (cSlotOf 0x26 0 0 0 4095) s 0x26 [(0, 8), (32, 32)] [] [] [] = true
      ∧ canIssue (cSlotOf 0x27 31 0 0 4095) s 0x27 [(0, 8), (8, 5), (32, 32)] [31] [] [] = true
      ∧ (canIssue (cSlotOf 0x28 0 1 0 0) s 0x28 [(0, 8), (13, 5)] [1] [] [] = true ∧ 4095 = sreg (stn s.body 0) 1) := by decide +kernel

theorem witness_LoopsAndSlotExceptions :
    let one : LoopEntry := ⟨1, 2, 3⟩
    let full := running { twoRegs 3 0 with loops := [one, one, one, one] }
    let s := running (twoRegs 3 0)
    (canIssue (cSlotOf 0x29 0 1 0 4095) s 0x29 [(0, 8), (13, 5), (32, 32)] [1] [] [] = true ∧ cimm (cSlotOf 0x29 0 1 0 4095).w = (4095 : Nat)
        ∧ sreg (stn s.body 0) 1 ≠ 0 ∧ (stn s.body 0).loops.length < 4)
      ∧ (canIssue (cSlotOf 0x29 0 0 0 1) s 0x29 [(0, 8), (13, 5), (32, 32)] [0] [] [] = true ∧ sreg (stn s.body 0) 0 = 0)
      ∧ (canIssue (cSlotOf 0x29 0 1 0 1) full 0x29 [(0, 8), (13, 5), (32, 32)] [1] [] [] = true ∧ 4 ≤ (stn full.body 0).loops.length)
      ∧ canIssue (cSlotOf 0x50 0 0 0 (2 ^ 32 - 1)) s 0x50 [(0, 8), (32, 32)] [] [] [] = true
      ∧ (canIssue (cSlotOf 0x26 0 0 0 4096) s 0x26 [(0, 8), (32, 32)] [] [] [] = true ∧ 4095 < 0 + cimm (cSlotOf 0x26 0 0 0 4096).w)
      ∧ (canIssue (cSlotOf 0x20 0 1 2 (2 ^ 32 - 1)) s 0x20 [(0, 8), (13, 5), (18, 5), (32, 32)] [1, 2] [] [] = true
        ∧ 0 + cimm (cSlotOf 0x20 0 1 2 (2 ^ 32 - 1)).w < 0)
      ∧ (canIssue (cSlotOf 0x48 5 0 0 32) s 0x48 [(0, 8), (8, 5), (13, 5), (32, 32)] [5, 0] [] [] = true
        ∧ 32 ≤ uint 64 ((sreg (stn s.body 0) 0 : Int) + cimm (cSlotOf 0x48 5 0 0 32).w))
      ∧ (alone (slotOf [(0, 8, 0xFF)]) s.body = true ∧ bits (slotOf [(0, 8, 0xFF)]).w 0 8 ∉ assignedOps 3
        ∧ bits (slotOf [(0, 8, 0x05)]).w 0 8 ∉ assignedOps 1)
      ∧ (let sl := slotOf [(0, 8, 1), (24, 1, 1)]
         alone sl s.body = true ∧ onlyFields sl.w ([(0, 8), (8, 5), (13, 5)] ++ bFields sl.w) = false) := by decide +kernel

theorem witness_OwnTallies :
    let s := running { twoRegs 5 0 with tallies := [(4095, 7)] }
    let imm := slotOf [(0, 8, 0x32), (23, 1, 1), (32, 12, 4095), (44, 20, 2 ^ 20 - 1)]
    let reg := fun op => slotOf [(0, 8, op), (18, 5, 1), (32, 12, 4095)]
    (canIssue imm s 0x32 ((0, 8) :: tvFields imm.w) [csa imm.w, csb imm.w, csd imm.w] [] [] = true)
      ∧ canIssue (slotOf [(0, 8, 0x33), (8, 5, 31), (32, 12, 4095)]) s 0x33 [(0, 8), (8, 5), (32, 12)] [0, 0, 31] [] [] = true
      ∧ (canIssue (reg 0x31) s 0x31 ((0, 8) :: tvFields (reg 0x31).w) [0, 1, 0] [] [] = true
        ∧ tallySatisfied (stn s.body 0) 4095 (sreg (stn s.body 0) 1 % 2 ^ 32) = true ∧ tallySatisfied (stn s.body 0) 4095 8 = false)
      ∧ (let sl := slotOf [(0, 8, 0x30), (18, 5, 1), (24, 1, 1), (32, 12, 4095)]
         canIssue sl s 0x30 ([(0, 8), (13, 5), (24, 1)] ++ tvFields sl.w) [0, 1, 0] [] [] = true ∧ bit sl.w 24 = true
           ∧ sreg (stn s.body 0) (csa sl.w) = 0) := by decide +kernel

theorem witness_BarriersAndFences :
    let s := running { Station.reset with arriveGen := [(0, 1), (6, 65535)], relGen := [(6, 65535)] }
    let free := running Station.reset
    let busy := running { Station.reset with matQ := [⟨false, 0, 0, 0, true, 0, 0, 0, 0, 0, []⟩] }
    (barrierChannel s.body 0 0 0 = some 0 ∧ barReleased (stn s.body 0) 0 = false ∧ barReleased (stn free.body 0) 0 = true
        ∧ canIssue (slotOf [(0, 8, 0x38), (8, 3, 0)]) s 0x38 [(0, 8), (8, 3)] [] [] [] = true
        ∧ canIssue (slotOf [(0, 8, 0x39), (8, 3, 1)]) s 0x39 [(0, 8), (8, 3)] [] [] [] = true
        ∧ canIssue (slotOf [(0, 8, 0x3A), (8, 3, 1)]) s 0x3A [(0, 8), (8, 3)] [] [] [] = true
        ∧ barrierChannel s.body 0 1 0 = some 1)
      ∧ (canIssue (slotOf [(0, 8, 0x41)]) free 0x41 [(0, 8)] [] [] [] = true ∧ fenceMet free.body 0 (stn free.body 0) = true)
      ∧ (canIssue (slotOf [(0, 8, 0x41)]) busy 0x41 [(0, 8)] [] [] [] = true ∧ fenceMet busy.body 0 (stn busy.body 0) = false)
      ∧ canIssue (slotOf [(0, 8, 0x3C), (32, 12, 4095)]) free 0x3C [(0, 8), (32, 12)] [] [] [] = true := by decide +kernel

theorem witness_SystemAndMailbox :
    let s := running Station.reset
    canIssue (cSlotOf 0x40 31 0 0 6) s 0x40 [(0, 8), (8, 5), (32, 8)] [31] [] [] = true ∧ bits (cSlotOf 0x40 31 0 0 4).w 32 8 = 4
      ∧ (canIssue (cSlotOf 0x48 31 0 0 31) s 0x48 [(0, 8), (8, 5), (13, 5), (32, 32)] [31, 0] [] [] = true
        ∧ uint 64 ((sreg (stn s.body 0) 0 : Int) + cimm (cSlotOf 0x48 31 0 0 31).w) = 31)
      ∧ canIssue (cSlotOf 0x49 0 0 1 15) s 0x49 [(0, 8), (13, 5), (18, 5), (32, 32)] [0, 1] [] [] = true
      ∧ alone ⟨0, 0, true⟩ s.body = true := by decide +kernel

/-- The fields of a V slot: opcode, vd, va, vb, vc, pred. -/
def vSlotOf (op vd va vb vc pred : Nat) : Slot := slotOf [(0, 8, op), (8, 6, vd), (14, 6, va), (20, 6, vb), (26, 6, vc), (32, 3, pred)]

/-- Registers V1 and V2 of a station, lane 0; P1 selects lane 0. -/
def twoLanes (a b : Nat) : Station :=
  { Station.reset with v := [(1, BitVec.ofNat 4096 a), (2, BitVec.ofNat 4096 b)], p := [(1, 1)] }

theorem witness_LaneFloat :
    let s := running (twoLanes 0x3F800000 0x40000000)
    (canIssue (vSlotOf 0x10 63 1 2 0 1) s 0x10 [(0, 8), (8, 6), (14, 6), (32, 3), (20, 6)] [] [63, 1, 2, 0] [] = true
        ∧ (∀ l < 128, bit (preg (stn s.body 0) 1) l = true → (f32add (vlane (vreg (stn s.body 0) 1) l) (vlane (vreg (stn s.body 0) 2) l)).fl &&& 127 = 0))
      ∧ canIssue (vSlotOf 0x13 63 1 2 63 1) s 0x13 [(0, 8), (8, 6), (14, 6), (32, 3), (20, 6), (26, 6)] [] [63, 1, 2, 63] [] = true
      ∧ canIssue (vSlotOf 0x19 0 1 0 0 0) s 0x19 [(0, 8), (8, 6), (14, 6), (32, 3)] [] [0, 1, 0, 0] [] = true
      ∧ getF s.body R.STN_ARITH_CTRL.trap_mask 0 = 0 := by decide +kernel

theorem witness_LaneIntegerAndPredicates :
    let s := running (twoLanes 7 (2 ^ 31))
    canIssue (vSlotOf 0x2F 63 2 1 0 1) s 0x2F [(0, 8), (8, 6), (14, 6), (32, 3), (20, 6)] [] [63, 2, 1] [] = true
      ∧ canIssue (vSlotOf 0x22 63 2 0 0 0) s 0x22 [(0, 8), (8, 6), (14, 6), (32, 3)] [] [63, 2, 0] [] = true
      ∧ canIssue (slotOf [(0, 8, 0x30), (8, 3, 7), (14, 3, 1), (20, 3, 0)]) s 0x30 [(0, 8), (8, 3), (14, 3), (20, 3)] [] [] [] = true
      ∧ canIssue (slotOf [(0, 8, 0x33), (8, 3, 0), (14, 3, 1)]) s 0x33 [(0, 8), (8, 3), (14, 3)] [] [] [] = true
      ∧ canIssue (slotOf [(0, 8, 0x34), (8, 3, 7), (32, 3, 1), (53, 1, 1)]) s 0x34 [(0, 8), (8, 3), (32, 3), (53, 1)] [] [] [] = true := by
  decide +kernel

theorem witness_LaneMoves :
    let s := running (twoLanes 7 9)
    canIssue (vSlotOf 0x21 63 1 2 0 1) s 0x21 [(0, 8), (8, 6), (14, 6), (20, 6), (32, 3)] [] [63, 1, 2] [] = true
      ∧ canIssue (slotOf [(0, 8, 0x23), (8, 6, 63), (32, 3, 1), (43, 5, 31)]) s 0x23 [(0, 8), (8, 6), (32, 3), (43, 5)] [31] [63] [] = true
      ∧ canIssue (slotOf [(0, 8, 0x24), (8, 5, 31), (14, 6, 63), (53, 7, 127)]) s 0x24 [(0, 8), (8, 5), (14, 6), (53, 7)] [31] [63] [] = true
      ∧ canIssue (slotOf [(0, 8, 0x50), (8, 6, 63), (14, 4, 15), (32, 3, 1), (53, 7, 127)]) s 0x50 [(0, 8), (8, 6), (14, 4), (32, 3), (53, 7)]
          [] [63] [15] = true
      ∧ canIssue (slotOf [(0, 8, 0x51), (8, 4, 15), (14, 6, 63), (53, 7, 127)]) s 0x51 [(0, 8), (8, 4), (14, 6), (53, 7)] [] [63] [15] = true := by
  decide +kernel

theorem witness_CompareReduceConvert :
    let s := running (twoLanes 0x3F800000 0x40000000)
    getF s.body R.STN_ARITH_CTRL.trap_mask 0 = 0
      ∧ (let sl := slotOf [(0, 8, 0x20), (8, 3, 7), (14, 6, 1), (20, 6, 2), (32, 3, 1), (35, 3, 5)]
         canIssue sl s 0x20 [(0, 8), (8, 3), (14, 6), (20, 6), (32, 3), (35, 3)] [] [1, 2] [] = true ∧ modeOf sl.w ≠ 7)
      ∧ canIssue (vSlotOf 0x1D 63 1 0 0 1) s 0x1D [(0, 8), (8, 6), (14, 6), (32, 3)] [] [63, 1] [] = true
      ∧ canIssue (vSlotOf 0x1E 63 1 0 0 1) s 0x1E [(0, 8), (8, 6), (14, 6), (32, 3)] [] [63, 1] [] = true
      ∧ (List.range 16).all (fun c => match NFmt.ofCode c with
          | none => true
          | some f =>
            let g := groups f - 1
            let w := slotOf ([(0, 8, 0x41), (8, 6, 63), (14, 6, 1), (39, 4, c), (53, 3, g)] ++ if f.scaling != .none then [(43, 5, 31)] else [(32, 3, 1)])
            let n := slotOf ([(0, 8, 0x40), (8, 6, 63), (14, 6, 1), (39, 4, c), (53, 3, g)] ++ if f.scaling != .none then [(26, 5, 31)] else [(32, 3, 1)])
            decide (immOf w.w < groups f) && decide (modeOf n.w ≤ 4)
              && canIssue w s 0x41 ([(0, 8), (8, 6), (14, 6), (39, 4), (53, 3)] ++ if f.scaling != .none then [(43, 5)] else [(32, 3)])
                [sbOf w.w] [1, 63] []
              && canIssue n s 0x40 ([(0, 8), (8, 6), (14, 6), (35, 3), (38, 1), (39, 4), (53, 3)]
                ++ if f.scaling != .none then [(26, 5)] else [(32, 3)]) [siOf n.w, bits n.w 26 5] [1, 63] []) = true := by decide +kernel

theorem witness_LoadsAndStores :
    let s := running { twoRegs (0xF000000000 + 0x600000 - 512) (0xF000000000 + 0x600000 - 8) with v := [(1, 5)], p := [(1, 1)] }
    let t := stn s.body 0
    (∀ d ∈ [0], physOf s.body d 0 = some 0 ∧ t.badSram = [] ∧ t.matQ = [] ∧ t.outst = [])
      ∧ uint 64 ((sreg t 1 : Int) + sint 11 0 * 32) = 0xF000000000 + 0 * 0x20000000 + 0 * 0x800000 + (0x600000 - 512)
      ∧ uint 64 ((sreg t 2 : Int) + sint 11 0 * 32) = 0xF000000000 + 0 * 0x20000000 + 0 * 0x800000 + (0x600000 - 8)
      ∧ sreg t 1 % 32 = 0 ∧ sreg t 2 % 8 = 0
      ∧ canIssue (slotOf [(0, 8, 0x01), (8, 6, 63), (43, 5, 1)]) s 0x01 [(0, 8), (8, 6), (43, 5), (53, 11)] [1] [] [] = true
      ∧ canIssue (slotOf [(0, 8, 0x02), (14, 6, 1), (32, 3, 1), (43, 5, 1)]) s 0x02 [(0, 8), (14, 6), (32, 3), (43, 5), (53, 11)] [1] [] [] = true
      ∧ canIssue (slotOf [(0, 8, 0x03), (8, 5, 31), (43, 5, 2)]) s 0x03 [(0, 8), (8, 5), (43, 5), (53, 11)] [2] [] [] = true
      ∧ canIssue (slotOf [(0, 8, 0x04), (14, 5, 1), (43, 5, 2)]) s 0x04 [(0, 8), (14, 5), (43, 5), (53, 11)] [2] [] [] = true := by decide +kernel

theorem witness_DroverIssue :
    let s := running (twoRegs 64 4096)
    (drv s.body 1).queue.length < 16
      ∧ canIssue (slotOf [(0, 8, 0x02), (8, 1, 1), (9, 1, 1), (14, 5, 1), (19, 5, 2), (24, 5, 1), (29, 12, 4095), (41, 1, 1)]) s 0x02
          [(0, 8), (8, 1), (14, 5), (29, 12), (41, 1), (19, 5), (24, 5), (9, 1)] [1, 2, 1] [] [] = true
      ∧ canIssue (slotOf [(0, 8, 0x01), (14, 5, 1), (19, 5, 2), (24, 5, 1)]) s 0x01 [(0, 8), (8, 1), (14, 5), (29, 12), (41, 1), (19, 5), (24, 5)]
          [1, 2, 1] [] [] = true
      ∧ canIssue (slotOf [(0, 8, 0x04), (14, 5, 1), (29, 12, 1)]) s 0x04 [(0, 8), (8, 1), (14, 5), (29, 12), (41, 1)] [1, 0, 0] [] [] = true := by
  decide +kernel

theorem witness_MatrixEngine :
    let zero : MatOp := ⟨false, 0, 0, 15, true, 0, 0, 0, 0, 0, []⟩
    let s := running { twoRegs (0xF000000000) (0xF000000000 + 0x100000) with matQ := [zero, zero] }
    let sl := slotOf [(0, 8, 0x10), (8, 4, 0), (12, 4, 0), (16, 4, 15), (20, 1, 1), (24, 5, 1), (29, 5, 2), (34, 12, 1)]
    let begun := running { Station.reset with matQ := [{ zero with isMul := true }, zero], matStarted := 1 }
    (stn s.body 0).matQ.length < 3
      ∧ canIssue (slotOf [(0, 8, 0x20), (16, 4, 15)]) s 0x20 [(0, 8), (16, 4)] [] [] [] = true
      ∧ (alone sl s.body = true ∧ bits sl.w 0 8 = 0x10 ∧ bits sl.w 21 3 = 0 ∧ bits sl.w 46 18 = 0 ∧ bits sl.w 34 12 ≠ 0
        ∧ (match NFmt.ofCode (bits sl.w 8 4), NFmt.ofCode (bits sl.w 12 4) with
          | some f, some g => (pairingRate f g).isSome && (pointerExcs f (sreg (stn s.body 0) 1) 1).isEmpty
              && (pointerExcs g (sreg (stn s.body 0) 2) 1).isEmpty
          | _, _ => false) = true
        ∧ sourceHolds (stn s.body 0) [1, 2] [] [] = [])
      ∧ clocked s.body 0 = true ∧ (stn s.body 0).matStarted < min 2 (stn s.body 0).matQ.length
      ∧ (0 < (stn begun.body 0).matStarted ∧ (stn begun.body 0).releases = [] ∧ getF begun.body R.STN_ARITH_CTRL.trap_mask 0 = 0
        ∧ (NFmt.ofCode 0).isSome = true) := by decide +kernel

theorem witness_StationModes : isStation 1011 = true ∧ flagF State.reset.body R.STN_CTRL.run 0 = false
    ∧ flagF (running Station.reset).body R.STN_CTRL.run 0 = true := by decide +kernel

theorem witness_StationLoading : (let s := fieldsAt [(R.STN_STATUS.sram_init_busy, 1011, 1), (R.STN_CTRL.power_gate, 1011, 0)]
    isStation 1011 = true ∧ flagF s.body R.STN_STATUS.sram_init_busy 1011 = true ∧ clocked s.body 1011 = true) := by decide +kernel
theorem witness_DieMapsAndClockIslands :
    isDie 15 = true
      ∧ flagF (fieldsAt [(R.STN_DIE_CTRL.quiesce, 15, 1)]).body R.STN_DIE_CTRL.quiesce 15 = true
      ∧ drained 15 State.reset.body = true ∧ State.reset.body.fail.repairWait = none
      ∧ (∀ i, i < 104 → (drv State.reset.body (15 * 128 + i)).moving = none) ∧ isDie 15 = true ∧ 3 < 4
      ∧ flagF (fieldsAt [(R.STN_DIE_STATUS.quiesced, 15, 1)]).body R.STN_DIE_STATUS.quiesced 15 = true
      ∧ flagF State.reset.body R.STN_DIE_STATUS.quiesced 15 = false
      ∧ isStation 1011 = true ∧ Island.station 1011 ∈ ({ State.reset.body with stopped := [.station 1011] }).stopped := by decide +kernel

/-- The state with these flits on the panel. -/
def onPanel (fs : List Flit) (b : Body) : State := ofBody { setFlag b R.STN_CTRL.power_gate 0 false with fabric := fs }

theorem witness_PanelRequests :
    let f : Flit := { Flit.blank .write with src := 1, dst := 0, addr := 0xF000000000 + 0x5FFFE0, len := 32, payload := [some 5, none] }
    let s := onPanel [f] Body.reset
    let fenced := onPanel [{ f with kind := .readRequest }] (withFields [(R.STN_CTRL.fence, 0, 1)] Body.reset)
    isStation 0 = true ∧ clocked s.body 0 = true ∧ atGoal f = true ∧ s.body.fabric = f :: [] ∧ f.src = 1 ∧ f.dst = 0 ∧ f.origin = none
      ∧ (winOf f.addr).isSome = true
      ∧ (let g := { f with kind := .droverBulk, drv := some 2, isRead := true, dest := 0xF000000000 + 0x800000 }
         asker g ≠ 0 ∧ mapServes s.body ⟨0, 0, 0⟩ 0 = true ∧ mapServes s.body ⟨0, 1, 0⟩ 0 = false
          ∧ placeOf s.body g.dest = some (.station (moduleIndex s.body) ⟨0, 1, 0⟩) ∧ (physOf s.body 0 1).isSome = true)
      ∧ (stn s.body 0).badSram = [] ∧ flagF s.body R.STN_CTRL.fence 0 = false ∧ f.kind = .write ∧ f.drv = none
      ∧ flagF fenced.body R.STN_CTRL.fence 0 = true ∧ (winOf (0xF000000000 : Nat)).isSome = true := by decide +kernel

theorem witness_PanelAnswers :
    let o : Outstanding := ⟨9, true, false, 31, 0, 0, 1, 4095⟩
    let f : Flit := { Flit.blank .readResponse with src := 1, dst := 0, tag := 9, payload := [some 5] }
    let e : Flit := { Flit.blank .errorResponse with src := 1, dst := 0, tag := 9, cause := 3 }
    let g : Flit := { Flit.blank .tallySignal with src := 1, dst := 0, tag := 4095, len := 7, stroke := 3 }
    let s := onPanel [f] (setStn Body.reset 0 { Station.reset with outst := [o] })
    let t := onPanel [g] (withFields [(R.TLY_STN_STATUS.tag, 0, 3)] Body.reset)
    let u := onPanel [g] (withFields [(R.TLY_STN_STATUS.tag, 0, 2)] Body.reset)
    let v := onPanel [g] (withFields [(R.TLY_STN_STATUS.tag, 0, 1)] Body.reset)
    (stn s.body 0).outst = [o] ∧ o.tag = f.tag ∧ o.isLoad = true ∧ o.left = 1 ∧ f.piece = 0 ∧ f.drv = none ∧ (stn s.body 0).releases = []
      ∧ (1 ≤ e.cause ∧ e.cause ≤ 3 ∧ e.staged = false ∧ getF s.body R.STN_EXC_CAUSE.valid 0 ≠ 1)
      ∧ (clocked s.body 0 = true ∧ atGoal f = true ∧ atGoal e = true ∧ atGoal g = true ∧ flagF t.body R.STN_CTRL.fence 0 = false
        ∧ flagF (setFlag t.body R.STN_CTRL.fence 0 true) R.STN_CTRL.fence 0 = true ∧ 1 < 1024 ∧ g.origin = none)
      ∧ g.stroke % 4 = getF t.body R.TLY_STN_STATUS.tag 0
      ∧ (g.stroke % 4 = (getF u.body R.TLY_STN_STATUS.tag 0 + 1) % 4 ∧ (stn u.body 0).deferred = [])
      ∧ g.stroke % 4 = (getF v.body R.TLY_STN_STATUS.tag 0 + 2) % 4 := by decide +kernel

theorem witness_UcieLinks :
    let lk : UcieLink := ⟨0, 2, 15⟩
    let far := farSide lk
    let f := { Flit.blank .write with src := far.die * 64, dst := 0 }
    let up := fun (m : Nat) (b : Body) => withFields [(R.STN_EDGE.module_up, edgeReg lk, m), (R.STN_EDGE.module_up, edgeReg far, m)] b
    let s := ofBody (up 0x8000 Body.reset)
    let sent := ofBody (updLink s.body far (fun u => { u with unacked := [(0, f)], next := 1 }))
    let waits := ofBody { s.body with fabric := [f] }
    let failed := ofBody (updLink s.body lk (fun u => { u with fails := 3 }))
    isLink lk = true ∧ bit (getF s.body R.STN_EDGE.module_up (edgeReg lk)) lk.lane = true ∧ s.body.stopped.contains (edgeIsland lk.die lk.edge) = false
      ∧ (sent.body.fabric = [] ∧ onWire sent.body lk (link sent.body lk).expected = some f ∧ f.via = none)
      ∧ (waits.body.fabric = [f] ∧ f.node = far.die ∧ f.nextEdge = some far.edge ∧ laneOf waits.body far.die far.edge f.src f.dst = some lk.lane
        ∧ mayCross waits.body far.die far.edge lk.lane f = true ∧ f.kind.cls < 4 ∧ (link waits.body lk).expected < 4096)
      ∧ ((link failed.body lk).unacked = [] ∧ (link failed.body far).unacked = [] ∧ failed.body.fabric = [] ∧ 3 ≤ (link failed.body lk).fails)
      ∧ (link s.body lk).fails < 3 ∧ (link s.body far).fails < 3 := by decide +kernel

theorem witness_StackAccesses :
    let f : Flit := { Flit.blank .droverBulk with src := 0, dst := 1035, addr := 11 * stackBytes, len := 32, isRead := true, drv := some 0
                                                  dest := 0xF000000000, pos := some 4 }
    let w : Flit := { f with isRead := false, payload := [some 5] }
    let s := onPanel [f] Body.reset
    let sleeping := onPanel [f] (withFields [(R.MEM_STATUS.state, 11, 3)] Body.reset)
    let q := ofBody (updStk (withFields [(R.MEM_STATUS.state, 11, 2), (R.MEM_PC_UP.pc_up, 11, 2 ^ 64 - 1)] Body.reset) 11
      (fun t => { t with requests := [f] }))
    isStack 11 = true ∧ f.dst = 1024 + 11 ∧ f.origin = none
      ∧ (flagF s.body R.MEM_CTRL.self_refresh 11 = false ∧ getF s.body R.MEM_STATUS.state 11 ≠ 3 ∧ inStaging s.body f.addr f.len = false)
      ∧ getF sleeping.body R.MEM_STATUS.state 11 = 3
      ∧ (getF q.body R.MEM_STATUS.state 11 = 2 ∧ bit (getF q.body R.MEM_PC_UP.pc_up 11) (pseudoChannel f.addr) = true
        ∧ (stk q.body 11).requests = [f] ∧ q.body.badStack = [] ∧ heldBySeal q.body f.addr f.len = false
        ∧ (match placeOf q.body f.dest with
          | some (.station m x) => m == moduleIndex q.body && (physOf q.body x.die x.lst).isSome
          | _ => false) = true) ∧ w.isRead = false ∧ atGoal f = true ∧ q.body.stopped.contains (.controller 11) = false := by decide +kernel

theorem witness_StoredErrorsAndUpkeep :
    let u := 12 * stackUnits - 1
    let f : Flit := { Flit.blank .droverBulk with dst := 1035, addr := u * 32, len := 32, isRead := true, drv := some 0 }
    let b := withFields [(R.MEM_STATUS.state, 11, 2), (R.MEM_PC_UP.pc_up, 11, 2 ^ 64 - 1), (R.MEM_CTRL.scrub_en, 11, 1)] Body.reset
    let s := ofBody (updStk b 11 (fun t => { t with requests := [f] }))
    let wb := setStn Body.reset 0 { Station.reset with writeBack := [(196607, List.replicate 32 1)] }
    u * 32 / stackBytes = 11 ∧ isStack 11 = true ∧ 0 < 1 ∧ 1 < 35 ∧ 35 < 36
      ∧ ((stk s.body 11).requests = [f] ∧ s.body.badStack = [] ∧ getF s.body R.MEM_STATUS.state 11 = 2 ∧ heldBySeal s.body f.addr 32 = false
        ∧ s.body.stopped.contains (.controller 11) = false
        ∧ (placeOf s.body 0xF000000000 = some (.station (moduleIndex s.body) ⟨0, 0, 0⟩) ∧ (physOf s.body 0 0).isSome = true)
        ∧ bit (getF s.body R.MEM_PC_UP.pc_up 11) (pseudoChannel f.addr) = true ∧ flagF s.body R.MEM_ERR_INFO.valid 11 = false)
      ∧ flagF s.body R.MEM_CTRL.scrub_en 11 = true ∧ flagF (setFlag b R.MEM_CTRL.scrub_en 11 false) R.MEM_CTRL.scrub_en 11 = false
      ∧ (SMap.get (stn wb 0).badSram [] 196607 = [] ∧ (SMap.get (stn wb 0).writeBack [] 196607).length = 32
        ∧ SMap.get (stn wb 0).badIstore [] 4095 = [] ∧ clocked (setFlag wb R.STN_CTRL.power_gate 0 false) 0 = true)
      ∧ (pseudoChannel f.addr < 64 ∧ (∀ g ∈ (stk b 11).requests, pseudoChannel g.addr ≠ 63) ∧ 63 ∉ (stk b 11).recalibrating
        ∧ f ∈ (stk s.body 11).requests)
      ∧ (flagF (setFlag b R.MEM_CTRL.self_refresh 11 true) R.MEM_CTRL.self_refresh 11 = true ∧ (stk b 11).staged = []
        ∧ ctlReady b 11 = true) := by decide +kernel

theorem witness_HostAndRegisterAccesses :
    let ready := ofBody (withFields [(R.MEM_STATUS.state, 11, 2)] Body.reset)
    let top := 12 * stackBytes - 4
    getF State.reset.body R.SHP_STATUS.active 0 = 0 ∧ 1 ≤ 72 ∧ 72 < 73 % 256 ∧ 256 % 256 = 0
      ∧ getF State.reset.body R.IRQ_CAUSE.cause 0 = 0 ∧ getF State.reset.body R.MBX_STATUS.state 15 = 0
      ∧ (top + 4 ≤ 12 * stackBytes ∧ bar2Stack ready.body top 4 = true ∧ ready.body.badStack = []
        ∧ heldBySeal ready.body top 4 = false)
      ∧ (top < 12 * stackBytes ∧ bar2Stack State.reset.body top 4 = false)
      ∧ ((winAccess (0xF000000000 + 0x5FFFFC) 4).isSome = true ∧ 12 * stackBytes ≤ 0xF000000000 + 0x5FFFFC
        ∧ flagF (running Station.reset).body R.STN_CTRL.run 0 = true ∧ flagF State.reset.body R.STN_CTRL.run 0 = false
        ∧ physOf State.reset.body 0 0 = some 0 ∧ flagF State.reset.body R.STN_CTRL.fence 0 = false) := by decide +kernel

/-- A station whose SRAM holds a descriptor at offset 0 and the indices 1 and 0 at offset 64. -/
def listStation (d : List Nat) : Station :=
  { Station.reset with sram := ((d.zipIdx.filter (fun x => x.1 != 0)).map (fun x => (x.2, BitVec.ofNat 8 x.1))) ++ [(64, 1)] }

/-- The bytes of a descriptor: kind and direction, length 32, source, destination, count, value, index 64. -/
def descBytes (b0 tally len src dst count value index : Nat) : List Nat :=
  ([b0, 0] ++ (leBytes 2 tally).map (·.toNat) ++ (leBytes 4 len).map (·.toNat) ++ (leBytes 8 src).map (·.toNat) ++ (leBytes 8 dst).map (·.toNat)
    ++ (leBytes 4 count).map (·.toNat) ++ (leBytes 4 value).map (·.toNat) ++ List.replicate 16 0 ++ (leBytes 4 index).map (·.toNat))

/-- Drover 0 runs the list at offset 0 of a station's SRAM. -/
def listAt (d : List Nat) : State :=
  ofBody (updDrv (setStn (setFlag Body.reset R.STN_CTRL.power_gate 0 false) 0 (listStation d)) 0 (fun x => { x with current := some ⟨true, Desc.blank, 0, 0⟩ }))

theorem witness_DroverDescriptors :
    let win := 0xF000000000
    let copy := listAt (descBytes 0x11 4095 32 64 win 0 0 0)
    let back := listAt (descBytes 0x21 0 32 win 64 0 0 0)
    let ends := fun (s : State) (src dst : Nat) =>
      let d := descOf (bytesAt (stn s.body 0).sram 0 64)
      let m : Move := ⟨some src, some dst, d.length⟩
      (moveEnds s.body d m).isSome && (descFault s.body 0 d).isNone && (moveFault s.body d 0 m).isNone && !d.last && decide (d.length ≤ 224)
    (drv copy.body 0).moving = none ∧ clocked copy.body 0 = true ∧ flagF copy.body R.STN_DIE_CTRL.quiesce 0 = false
      ∧ (drv copy.body 0).outstanding ≤ 62 ∧ (∀ r ∈ (drv copy.body 0).transfers, r.id < (drv copy.body 0).nextId)
      ∧ (Place.station 0 ⟨0, 0, 0⟩).addr + 32 ≤ (Place.station 0 ⟨0, 0, 32⟩).addr
      ∧ (drv copy.body 0).current = some ⟨true, Desc.blank, 0, 0⟩ ∧ (drv copy.body 0).waiting = none ∧ getF copy.body R.DRV_STATUS.state 0 ≠ 2
      ∧ getF copy.body R.DRV_STATUS.list_index 0 < 4095 ∧ (stn copy.body 0).badSram = []
      ∧ ends copy 64 win = true ∧ ends back win 64 = true
      ∧ ends (listAt (descBytes 0x12 0 32 64 win 2 0 0)) 64 win = true
      ∧ ends (listAt (descBytes 0x13 0 32 64 win 2 0 64)) (64 + 1 * 32) win = true
      ∧ ends (listAt (descBytes 0x14 0 32 64 win 2 0 64)) 64 (win + 1 * 32) = true
      ∧ (descFault copy.body 0 (descOf (bytesAt (listStation (descBytes 0x05 4095 0 0 0 0 1 0)).sram 0 64))) = none
      ∧ (descOf (bytesAt (listStation (descBytes 0x05 4095 0 0 0 0 1 0)).sram 0 64)).kind = 5
      ∧ (descFault copy.body 0 (descOf (bytesAt (listStation (descBytes 0x06 0 0 0 0 0 1 0)).sram 0 64))) = none
      ∧ tallySatisfied (stn copy.body 0) 0 1 = false ∧ tallySatisfied (stn copy.body 0) 0 0 = true := by decide +kernel

theorem witness_DroverQueues :
    let e : DrvEntry := ⟨true, Desc.blank, 64, 4095⟩
    let r : Transfer := ⟨0, [], 4095, some 1, false, false, 32, [], 1, e, 0, [], Desc.blank, 0⟩
    let x : Drover := { Drover.reset with queue := [e], transfers := [r] }
    let s := ofBody (updDrv Body.reset 2023 (fun _ => x))
    let w := ofBody (updDrv Body.reset 2023 (fun _ => { x with current := some e, waiting := some (0, 0) }))
    isDrover 2023 = true ∧ clocked (setFlag s.body R.STN_CTRL.power_gate 1011 false) 1011 = true ∧ x.replayed = [] ∧ x.moving = none
      ∧ ({ x with queue := [], replayed := [e] } : Drover).replayed = e :: [] ∧ ({ e with listOff := 65 } : DrvEntry).listOff + 64 ≤ 0x600000
      ∧ (drv s.body 2023).queue = e :: [] ∧ (drv s.body 2023).current = none ∧ getF s.body R.DRV_STATUS.state 2023 ≠ 2
      ∧ e.listOff % 64 = 0 ∧ e.listOff + 64 ≤ 0x600000
      ∧ ({ e with listOff := 65 } : DrvEntry).listOff % 64 ≠ 0
      ∧ (tallySatisfied (stn w.body 1011) 0 0 = true ∧ tallySatisfied (stn w.body 1011) 0 1 = false
        ∧ (descOf (bytesAt (stn w.body 1011).sram 64 64)).last = false)
      ∧ (drv s.body 2023).transfers = r :: [] ∧ r.flying = [] ∧ ({ r with flying := [⟨0, 0, 0, 32⟩] } : Transfer).flying ≠ []
      ∧ (descFault s.body 1011 { Desc.blank with kind := 1 }).isSome = true
      ∧ getF (fieldsAt [(R.DRV_STATUS.state, 2023, 2)]).body R.DRV_STATUS.state 2023 = 2 := by decide +kernel

theorem witness_CheckUnits :
    let s := State.reset
  isChk 2047 = false ∧ isChk 2023 = true ∧ chkBusy s.body 2023 = false
      ∧ (let t := ofBody { withFields [(R.CHK_CTRL.alive_en, 2023, 1), (R.CHK_ALIVE_LAST.seen, 2023, 1), (R.CHK_CTRL.alive_width, 2023, 1),
           (R.CHK_ALIVE_LAST.last, 2023, 255)] Body.reset with chkFrame := [(2023, [0])] }
         flagF t.body R.CHK_CTRL.alive_en 2023 = true ∧ flagF t.body R.CHK_ALIVE_LAST.seen 2023 = true ∧ getF t.body R.CHK_CTRL.alive_width 2023 = 1
           ∧ getF t.body R.CHK_CTRL.alive_offset 2023 < (SMap.get t.body.chkFrame [] 2023).length ∧ getF t.body R.CHK_ALIVE_LAST.last 2023 < 256)
      ∧ flagF State.reset.body R.CHK_CTRL.alive_en 2023 = false
      ∧ chkBusy (updDrv Body.reset 0 (fun x => { x with transfers := [⟨0, [], 0, none, true, false, 32, [], 1, ⟨true, Desc.blank, 0, 0⟩, 0, [], Desc.blank, 0⟩] })) 0 = true := by
  decide +kernel

theorem witness_StagingTails :
    let w : StagedWrite := ⟨64, List.replicate 32 1, 0, 0, 0⟩
    let m : Flit := { Flit.blank .droverBulk with src := 1035, dst := 1035, addr := 64, payload := (List.replicate 32 1).map some }
    let s := ofBody (updStk (withFields [(R.MEM_STG_SIZE.size_mib, 11, 1)] Body.reset) 11 (fun t => { t with staged := [w] }))
    let none_ := ofBody (updStk Body.reset 11 (fun t => { t with staged := [w] }))
    let sealed := fieldsAt [(R.MEM_STG_STATUS.state, 0, 2)]
    isStack 11 = true ∧ s.body.stopped.contains (.controller 11) = false ∧ s.body.badStack = [] ∧ w.payload.length ≤ 224
      ∧ (drv s.body w.drv).moving = none ∧ ({ s.body with fabric := [m] } : Body).fabric = [m] ∧ m.src = 1024 + 11 ∧ atGoal m = true
      ∧ flagF s.body R.MEM_CTRL.self_refresh 11 = false ∧ getF s.body R.MEM_STATUS.state 11 ≠ 3 ∧ s.body.fabric = []
      ∧ (stk s.body 11).mirrorTail.length < getF s.body R.MEM_STG_SIZE.size_mib 11 * 4096 - 1
      ∧ (stk s.body 11).staged = w :: [] ∧ (stk s.body 11).tail.length < getF s.body R.MEM_STG_SIZE.size_mib 11 * 4096 - 1
      ∧ flagF s.body R.MEM_MIR_CFG.enable 11 = false ∧ getF s.body R.MEM_STG_STATUS.state 11 = 0
      ∧ getF none_.body R.MEM_STG_SIZE.size_mib 11 * 4096 - 1 ≤ (stk none_.body 11).tail.length
      ∧ flagF (setFlag s.body R.MEM_MIR_CFG.enable 11 true) R.MEM_MIR_CFG.enable 11 = true
      ∧ 2 ≤ getF sealed.body R.MEM_STG_STATUS.state 0 ∧ ∀ j, j < 12 → getF State.reset.body R.MEM_STG_STATUS.state j < 2 := by decide +kernel

/-- No logical station of any die is served, and the last stroke has committed nothing yet. -/
def emptyDies : Body :=
  let b := { Body.reset with dieMap := (List.range 16).flatMap (fun d => (List.range 48).map (fun l => (d * 64 + l, 0))) }
  { b with flock := { b.flock with commitDone := false, commitFor := some 5 } }

theorem get_of_zeros (m : SMap Nat) (d k : Nat) (h0 : ∀ e ∈ m, e.2 = 0) (hk : ∃ e ∈ m, e.1 = k) : SMap.get m d k = 0 := by
  induction m with
  | nil => simp at hk
  | cons e t ih =>
    unfold SMap.get
    split
    · exact h0 e (by simp)
    · rename_i hne
      obtain ⟨x, hx, hxk⟩ := hk
      rcases List.mem_cons.mp hx with rfl | hx
      · exact absurd hxk hne
      · exact ih (fun y hy => h0 y (List.mem_cons_of_mem e hy)) ⟨x, hx, hxk⟩

theorem emptyDies_none (d l : Nat) (hd : d < 16) : physOf emptyDies d l = none := by
  unfold physOf
  split
  · rename_i hl
    rw [get_of_zeros emptyDies.dieMap _ (d * 64 + l)]
    · intro e he
      simp only [emptyDies, List.mem_flatMap, List.mem_map, List.mem_range] at he
      obtain ⟨_, _, _, _, rfl⟩ := he
      rfl
    · refine ⟨(d * 64 + l, 0), ?_, rfl⟩
      simp only [emptyDies, List.mem_flatMap, List.mem_map, List.mem_range]
      exact ⟨d, hd, l, hl, rfl⟩
  · rfl

theorem emptyDies_ended : strokeBarrierDone emptyDies = true := by
  have h : liveStations emptyDies = [] := by
    unfold liveStations dieStations
    rw [List.flatMap_eq_nil_iff]
    intro d hd
    rw [List.filterMap_eq_nil_iff]
    intro l _
    exact emptyDies_none d l (List.mem_range.mp hd)
  simp [strokeBarrierDone, h]

theorem witness_StrokeCommit :
    let e : TailEntry := ⟨11 * stackBytes, 0, List.replicate 32 1⟩
    let t := updStk (withFields [(R.MEM_STG_STATUS.state, 11, 2), (R.MEM_COMMIT_STATUS.state, 0, 2), (R.MEM_COMMIT_STATUS.applied, 0, 0xFFF)] Body.reset) 11
      (fun t => { t with tail := [e, { e with home := 11 * stackBytes + 32 }] })
    isStack 11 = true ∧ t.stopped.contains (.controller 11) = false ∧ emptyDies.badStack = [] ∧ emptyDies.flock.commitDone = false ∧ flagF emptyDies R.MEM_COMMIT_CTRL.hold 0 = false
      ∧ getF emptyDies R.MEM_COMMIT_STATUS.state 0 = 0
      ∧ getF t R.MEM_STG_STATUS.state 11 = 2 ∧ (stk t 11).restarted = false ∧ (stk t 11).tail.length = 2 ∧ (stk t 11).mirrorTail = [] ∧ t.badStack = []
      ∧ getF t R.MEM_COMMIT_STATUS.state 0 = 2 ∧ getF t R.MEM_COMMIT_STATUS.applied 0 = 0xFFF ∧ t.flock.prepAfter = false ∧ t.fail.switch = none
      ∧ t.fail.fill = none ∧ t.rack.drain = 0 ∧ emptyDies.flock.commitFor = some 5
      ∧ (stk (updStk t 11 (fun x => { x with restarted := true })) 11).restarted = true
      ∧ getF State.reset.body R.MEM_MIR_OFFSET.offset 11 < 2 ^ 63 := by decide +kernel

theorem witness_HostDrovers :
    let d := (descBytes 0x01 0 32 (3 * 2 ^ 62) 64 0 0 0).set 1 1
    let ring := fun (d : List Nat) => ofBody { withFields [(R.DRV_HQ_TAIL.tail, 3, 1)] Body.reset with
      hostDrovers := [(3, ⟨(d.zipIdx.filter (fun x => x.1 != 0)).map (fun x => (x.2, BitVec.ofNat 8 x.1))⟩)] }
    let s := ring d
    let bad := ring ((descBytes 0x0F 0 0 0 0 0 0 0).set 1 1)
    let x := descOf (hqSlotBytes s.body 3 0)
    getF s.body R.DRV_HQ_HEAD.head 3 ≠ getF s.body R.DRV_HQ_TAIL.tail 3 ∧ flagF s.body R.DRV_HQ_STATUS.valid 3 = false
      ∧ fieldFault x true = none ∧ x.kind = 1 ∧ x.chk = false ∧ x.frame = false ∧ s.body.badStack = []
      ∧ (sysAddr x.src).space = 3 ∧ (sysAddr x.src).ix = 0 ∧ (sysAddr x.src).addr + x.length ≤ 2 ^ 48
      ∧ hostEnd s.body x.dst x.length = some (.stack (moduleIndex s.body) x.dst) ∧ (sysAddr x.dst).space = 0
      ∧ hostRefused s.body (.stack (moduleIndex s.body) x.dst) x.length = true ∧ heldBySeal s.body x.dst x.length = false
      ∧ hostEnds s.body ⟨some x.src, some x.dst, x.length⟩ = some (true, .stack (moduleIndex s.body) x.dst, (sysAddr x.src).addr)
      ∧ hostRefused (withFields [(R.MEM_STATUS.state, x.dst / stackBytes, 2)] s.body) (.stack (moduleIndex s.body) x.dst) x.length = false
      ∧ fieldFault (descOf (hqSlotBytes bad.body 3 0)) true = some 1
      ∧ getF State.reset.body R.DRV_HQ_HEAD.head 3 = getF State.reset.body R.DRV_HQ_TAIL.tail 3
      ∧ flagF (fieldsAt [(R.DRV_HQ_STATUS.valid, 3, 1)]).body R.DRV_HQ_STATUS.valid 3 = true := by decide +kernel

/-- A plan of one stroke kind. -/
def onePlan : Plan :=
  { planId := 1, level := 1, moduleIx := 0, kinds := [⟨20, 1000, 800, 400, 300, 0⟩], flocks := [], shapes := [], streams := [], params := []
    regions := [], staging := [], energy := [], variants := [], addr := 0, length := 64, crc := 0 }

/-- A START body of kind 0 and period 1 000 µs. -/
def oneStart : StartBody := ⟨1000, 680, 20, 0, false, false, false, false, 0, []⟩

/-- A flock of modules 0 and 1 with module 0 as seat; this module has index `me`; the run is open, stroke in flight `oneStart`. -/
def flockBody (me : Nat) : Body :=
  let b := withFields [(R.GBL_MODULE.index, 0, me), (R.TLY_SEAT.valid, 0, 1), (R.TLY_STROKE_CTRL.enable, 0, 1),
    (R.TLY_STROKE_STATUS.seat, 0, if me = 0 then 1 else 0), (R.TLY_STROKE_STATUS.state, 0, 1)] Body.reset
  { b with flock := { b.flock with plan := some onePlan, members := [0, 1], runOpen := true, inFlight := some oneStart } }

/-- A telegram of neighbour 1 in the flock, alive counter 255. -/
def headOf (ttype nbr : Nat) : TelHead := { level := 1, sender := nbr, flock := 0, stroke := 1, alive := 255, combined := ttype == 2, crcOk := true, nbr := nbr }

theorem witness_Telegrams :
    let b := flockBody 1
    let h := headOf 1 0
    let heard := fun (t a : Nat) => { b with flock := { b.flock with rxAlive := [(t * 16384 + h.nbr, some a)] } }
    b.flock.barred = false ∧ isolated b = false ∧ flagF b R.KLK_ROUTE.lost h.nbr = false ∧ h.crcOk = true ∧ h.level ≤ 1 ∧ h.alive < 256
      ∧ physOf emptyDies 0 0 = none
      ∧ SMap.get b.flock.rxAlive none (1 * 16384 + h.nbr) = none
      ∧ SMap.get (heard 7 254).flock.rxAlive none (7 * 16384 + h.nbr) = some ((h.alive + 255) % 256)
      ∧ SMap.get (heard 1 255).flock.rxAlive none (16384 + h.nbr) = some h.alive
      ∧ (flagF b R.TLY_STROKE_CTRL.enable 0 = true ∧ flagF b R.TLY_SEAT.valid 0 = true ∧ h.flock = b.flock.flockId
        ∧ rankIn b h.sender ≤ rankIn b (getF b R.TLY_SEAT.seat 0)) ∧ (kindOf b oneStart.kind).isSome = true ∧ b.flock.runOpen = true
      ∧ b.flock.commitDone = true ∧ shepherdActive b = false ∧ getF b R.TLY_STROKE_STATUS.state 0 = 1
      ∧ b.flock.ownReport = none ∧ h.stroke = getF b R.TLY_STROKE_NUM.stroke 0 + 1
      ∧ ({ h with stroke := 0 } : TelHead).stroke = getF b R.TLY_STROKE_NUM.stroke 0
      ∧ physOf b (1011 / 64 % 16) 0 = some (1011 / 64 * 64) ∧ isSeat (flockBody 0) = true ∧ moduleIndex b = 1 := by decide +kernel

theorem witness_TelegramsRelease :
    let e : FlockEntry := ⟨17, 0, 0, 0, 1, 0, [0]⟩
    let b := { flockBody 1 with flock := { (flockBody 1).flock with plan := some { onePlan with flocks := [e] } } }
    flockStations b flockDepth 17 = [0] ∧ (barrierChannel b 0 2 17).isSome = true := by decide +kernel

theorem witness_Strokes :
    let b := flockBody 0
    let r : HeadroomBody := ⟨1000, 0, 0, 0, 0, false, false, 1, 0, 0⟩
    let reported := { flockBody 1 with flock := { (flockBody 1).flock with ownReport := some r } }
    let w : Warning := ⟨oneStart, 1, 0⟩
    let held := { b with flock := { b.flock with startSeen := some w, warnRaised := true } }
    (leaderLevel reported (strokeMembers reported) = 0 ∧ reported.flock.sentUp = [] ∧ (combined reported).isSome = true
        ∧ (treeParent reported (strokeMembers reported)).isSome = true)
      ∧ (b.flock.inFlight = some oneStart ∧ b.flock.ownReport = none ∧ 1 ∈ missingChildren b)
      ∧ (getF b R.SHP_SYNCAUX.mode 0 ≠ 1 ∧ isSeat b = true ∧ oneStart.last = false ∧ b.flock.startSeen = none ∧ b.flock.seatWait = none
        ∧ (kindOf b b.flock.runKind).isSome = true ∧ flagF (setFlag b R.TLY_NEXT_PERIOD.armed 0 true) R.TLY_NEXT_PERIOD.armed 0 = true
        ∧ shepherdActive b = false)
      ∧ (getF (setF b R.SHP_SYNCAUX.mode 0 1) R.SHP_SYNCAUX.mode 0 = 1 ∧ b.host.auxWait = false)
      ∧ (isSeat (flockBody 1) = false ∧ strokeMembers (flockBody 1) = getF (flockBody 1) R.TLY_SEAT.seat 0 :: 1 :: []
        ∧ moduleLive (flockBody 1) 1 = true)
      ∧ treeParent b (strokeMembers b) = none
      ∧ (held.flock.startSeen = some w ∧ held.flock.warnRaised = true ∧ w.body.replay = false ∧ held.flock.heldArrives = []
        ∧ b.flock.warnRaised = false ∧ b.flock.commitDone = true)
      ∧ ({ b.flock with drive := true } : Flock).drive = true ∧ getF (setF b R.TLY_STROKE_STATUS.state 0 3) R.TLY_STROKE_STATUS.state 0 = 3
      ∧ isStation 1011 = true := by decide +kernel
/-- A sound Korrel flit of type `ftype` for module 0 at its port. -/
def kflit (ftype vc : Nat) (f : Option Flit) : KRecv := ⟨⟨ftype, vc, 0, 0, 1, f, []⟩, true, 0, 0, [], 0, 0⟩

/-- Port `p` in state `state` and holding `k`. -/
def portAt (p state : Nat) (k : KorPort) : Body :=
  let b := withFields [(R.KLK_PORT_STATUS.state, p, state), (R.KLK_PORT_STATUS.present, p, 1)] Body.reset
  { b with korrel := { b.korrel with ports := SMap.put b.korrel.ports KorPort.reset p k } }

theorem witness_KorrelFlits :
    let b := portAt 16 2 { KorPort.reset with s1 := { KStream.reset with asked := [(0, 1)], unacked := [⟨1, 6, 4095, 0, 1, none, []⟩] } }
    let c := withFields [(R.KLK_PORT_STATUS.state, 15, 2)] (portAt 16 2 { KorPort.reset with s1 := { KStream.reset with asked := [(0, 2)] } })
    let f := Flit.blank .droverBulk
    let r := kflit 1 5 (some f)
    16 < 18 ∧ portUp b 16 = true ∧ (kport b 16).waiting = []
      ∧ (r.crcOk = true ∧ r.k.ftype = 1 ∧ r.k.flit = some f ∧ f.kind = .droverBulk ∧ r.k.vc ≠ 0 ∧ r.k.vc ≠ 6 ∧ inboundDst b f = some 0 ∧ r.k.seq = (kport b 16).s1.expected
        ∧ (kport b 16).s1.kept = [] ∧ r.k.destModule = moduleIndex b ∧ flagF b R.KLK_ROUTE.lost r.k.srcModule = false)
      ∧ ({ r with crcOk := false } : KRecv).crcOk = false ∧ 7 ≤ (kflit 7 5 none).k.ftype
      ∧ (let d := portAt 16 2 KorPort.reset
         (kport d 16).s0.asked = [] ∧ (kport d 16).s1.asked = [] ∧ portUp d 16 = true ∧ (kport d 16).waiting = [] ∧ getF d R.KLK_PORT_STATUS.level 16 ≠ 2)
      ∧ getF b R.KLK_PORT_STATUS.level 16 ≠ 2
      ∧ ((kport b 16).s1.unacked = [⟨1, 6, 4095, 0, 1, none, []⟩] ∧ 4095 = 8191 % 4096)
      ∧ ((kport b 16).s1.asked = [(0, 1)] ∧ 1 < 2)
      ∧ ((kport c 16).s1.asked = [(0, 2)] ∧ c.korrel.notices = [] ∧ (kport c 16).losses = [] ∧ 15 < 18 ∧ 15 ≠ 16
        ∧ pairOfPort 16 = none ∧ pairOfPort 15 = none ∧ portUp c 15 = true ∧ (kport c 16).s0.unacked = [] ∧ (kport c 16).s1.unacked = []) := by
  decide +kernel

theorem witness_KorrelPorts :
    let off := portAt 16 0 KorPort.reset
    let training := portAt 16 1 { KorPort.reset with locked := true, idSent := true }
    let seen := portAt 16 1 { KorPort.reset with idSeen := true }
    let up := withFields [(R.KLK_PORT_STATUS.state, 15, 2)] (portAt 16 2 KorPort.reset)
    let lost := portAt 16 3 KorPort.reset
    let id : TrainBody := ⟨1, trayOf 16, 0, 1, 2, []⟩
    let lv := min id.levelHi (getF training R.KLK_DIE_ID.level_max 3)
    (flagF off R.KLK_PORT_STATUS.present 16 = true ∧ portState off 16 = 0 ∧ flagF off R.KLK_PORT_CTRL.enable 16 = true ∧ 15 ≤ 15 ∧ 15 < 16)
      ∧ (portState training 16 = 1 ∧ (kport training 16).locked = true ∧ id.peerId < 16384 ∧ cabledRight training 16 id = true ∧ id.levelLo ≤ lv
        ∧ getF training R.KLK_DIE_ID.level_min 3 ≤ lv ∧ (kport training 16).idSent = true ∧ (kport training 16).doneSeen = false
        ∧ (kport training 16).idSeen = false)
      ∧ (¬ (3 ≤ min 9 (getF training R.KLK_DIE_ID.level_max 3)) ∧ cabledRight training 16 { id with peerId := 0 } = false)
      ∧ (portState seen 16 = 1 ∧ (kport seen 16).idSeen = true ∧ (kport seen 16).waiting = [])
      ∧ (portState training 16 = 1 ∧ (kport training 16).losses = [] ∧ (kport training 16).waiting = [] ∧ (kport training 16).s0.unacked = []
        ∧ (kport training 16).s1.unacked = [] ∧ portState off 16 ≠ 1)
      ∧ (flagF off R.KLK_PORT_CTRL.enable 16 = true ∧ isolated off = false ∧ isolated (setFlag off R.KLK_DIE_STATUS.isolated 3 true) = true
        ∧ up.korrel.notices = [])
      ∧ (portState lost 16 = 3 ∧ flagF lost R.KLK_PORT_STATUS.present 16 = true)
      ∧ (portState up 16 = 2 ∧ pairOfPort 16 = none ∧ 15 ∈ switchPorts ∧ portUp up 15 = true ∧ (kport up 16).losses = []
        ∧ flagF up R.KLK_PORT_STATUS.power_refused 16 = false ∧ (kport up 16).s0.unacked = []) := by decide +kernel

theorem witness_ModuleLoss :
    let b := { withFields [(R.KLK_PORT_CREDIT.held, 0, 1)] (portAt 0 2 { KorPort.reset with traffic := true }) with reports := [] }
    let h := headOf 6 1
    let probing := { b with korrel := { b.korrel with probes := [⟨16383, 7, 1⟩] } }
    16383 < 16384 ∧ flagF b R.KLK_ROUTE.lost 16383 = false ∧ flagF (setFlag b R.KLK_ROUTE.lost 16383 true) R.KLK_ROUTE.lost 16383 = true
      ∧ (portLive b 0 = true ∧ (kport b 0).waiting = [] ∧ (kport b 0).s0.unacked = [] ∧ 0 < getF b R.KLK_PORT_CREDIT.held (0 * 8))
      ∧ b.flock.ownReport = none ∧ 16383 ≠ moduleIndex b ∧ (⟨16383, 7, 1⟩ : Probe) ∈ probing.korrel.probes
      ∧ (0 ∈ switchPorts ∧ portUp b 0 = true ∧ trayOf 0 = 0 ∧ ∀ r ∈ switchPorts, portUp b r = true → trayOf r = 0)
      ∧ (isolated b = false ∧ flagF b R.KLK_ROUTE.lost h.nbr = false ∧ h.crcOk = true ∧ h.level ≤ 1
        ∧ SMap.get b.flock.rxAlive none (6 * 16384 + h.nbr) = none)
      ∧ isolated (setFlag b R.KLK_DIE_STATUS.isolated 3 true) = true := by decide +kernel

/-- Shepherd A is active. -/
def withShepherd (b : Body) : Body := setF b R.SHP_STATUS.a_state 0 4

theorem witness_PairingAndReturn :
    let b := withShepherd (flockBody 0)
    let pairs := fun (sent got : Bool) (st : Nat) => { b with fail := { b.fail with pair := some ⟨1, 1, [(0, 0x100000)]⟩, sentPushed := sent, gotPushed := got, pairState := st } }
    let fills := { b with fail := { b.fail with fill := some ⟨1, 0, 5⟩, mirroring := true, held := [(0xA00000000, 0x100000)] }, flock := { b.flock with filling := true } }
    let back := { b with fail := { b.fail with returning := some ⟨0, 0, 0, [1, 2]⟩ } }
    let waits := { b with flock := { b.flock with seatWait := some (2, [1]) } }
    16383 < 16384 ∧ shepherdActive b = true ∧ moduleIndex b = 0
      ∧ ((pairs false false 1).fail.pair = some ⟨1, 1, [(0, 0x100000)]⟩ ∧ (pairs false false 1).fail.sentPushed = false
        ∧ (pairs true false 1).fail.pairState = 1 ∧ flagF b R.KLK_ROUTE.lost 1 = false ∧ flagF b R.KLK_ROUTE.lost 5 = false
        ∧ (∀ r ∈ fills.fail.held, coversAll [(0, 0x100000)] (r.1 - 0xA00000000, r.2) = true)
        ∧ (seatIx (flockBody 1) ≠ moduleIndex (flockBody 1) ∧ flagF (flockBody 1) R.KLK_ROUTE.lost (seatIx (flockBody 1)) = false))
      ∧ joined b = true ∧ joined (withShepherd Body.reset) = false ∧ 5 ≠ moduleIndex b
      ∧ (fills.fail.fill = some ⟨1, 0, 5⟩ ∧ fills.fail.mirroring = true ∧ fills.flock.filling = true ∧ flagF fills R.MEM_COMMIT_CTRL.hold 0 = false
        ∧ isSeat fills = true)
      ∧ (waits.flock.seatWait = some (2, [1]) ∧ waits.flock.timerDue = false)
      ∧ (back.fail.returning = some ⟨0, 0, 0, [1, 2]⟩ ∧ 1 ∈ [1, 2] ∧ 1 ≠ seatIx b) := by decide +kernel

theorem witness_ReplayAndAbort :
    let b := withShepherd (flockBody 1)
    let says_ := fun (r : Source) => { b with reports := [r] }
    let seat := withShepherd (flockBody 0)
    let committing := setF { seat with flock := { seat.flock with commitFor := some 4, nextStroke := 5, lastStart := some (5, oneStart) } } R.MEM_COMMIT_STATUS.state 0 2
    let paired := { b with fail := { b.fail with pairState := 2, held := [(0xA00000000, 0x100000)] }, reports := [.stackUnit 0 (0xA00000000) false] }
    let h := headOf 1 0
    shepherdActive b = true ∧ b.reports = [] ∧ flagF b R.KLK_ROUTE.lost (seatIx b) = false ∧ b.flock.barred = false ∧ b.badStack = []
      ∧ ((says_ (.stackLoss 11)).reports = [.stackLoss 11] ∧ joined b = true)
      ∧ ((says_ .outOfStep).reports = [.outOfStep] ∧ b.flock.runOpen = true ∧ isSeat b = false ∧ seatIx b ≠ moduleIndex b)
      ∧ (0xA00000000 = 0x50000000 * 32 ∧ covered paired (0x50000000 * 32) = true ∧ (List.replicate 32 (1 : Byte)).length = 32)
      ∧ powered (updPath (fun p => { p with housekeeping := true }) (says_ (.miscabled 17))) = true
      ∧ (isolated b = false ∧ flagF b R.KLK_ROUTE.lost h.nbr = false ∧ h.crcOk = true ∧ h.level ≤ 1
        ∧ SMap.get b.flock.rxAlive none (16384 + h.nbr) = none ∧ flagF b R.TLY_STROKE_CTRL.enable 0 = true ∧ h.flock = b.flock.flockId
        ∧ rankIn b h.sender ≤ rankIn b (seatIx b) ∧ (kindOf b oneStart.kind).isSome = true ∧ oneStart.replayClass ≠ 0x20
        ∧ commitRuns (setF b R.MEM_COMMIT_STATUS.state 0 1) = true)
      ∧ (0x17 ≠ 0x30 ∧ isSeat committing = true ∧ committing.flock.runOpen = true ∧ committing.flock.inReplay = false ∧ commitRuns committing = true
        ∧ (originalStart committing (max (committing.flock.commitFor.getD committing.flock.good + 1) committing.flock.nextStroke)).isSome = true)
      ∧ b.fail.repairs = [] ∧ joined (withShepherd Body.reset) = false := by decide +kernel

/-- The power path in state `n` with `p`, an active Shepherd and the start-up steps of `steps` done. -/
def powerBody (n steps : Nat) (fs : List (Field × Nat × Nat)) (p : PowerPath → PowerPath) : Body :=
  updPath p (withFields ([(R.GBL_STATUS.power_state, 0, n), (R.SHP_STATUS.a_state, 0, 4), (R.SHP_STARTUP.done, 0, steps)] ++ fs) Body.reset)

theorem witness_PowerSequence :
    let same := fun (p : PowerPath) => p
    let off := powerBody 0 0 [] (fun p => { p with presence := true })
    let charging := powerBody 1 0 [] (fun p => { p with switch := 1 })
    let onStorage := powerBody 8 63 [] (fun p => { p with switch := 1, inputAbsent := true, presence := true })
    let ready := powerBody 2 2 [] same
    let cells := (List.range 32).map (fun i => (R.CMN_CELL_V.v, i, 30000)) ++ (List.range 32).map (fun i => (R.CMN_CELL_V.v_raw, i, 30000))
    let pack := powerBody 4 0 ([(R.CMN_RING_STATUS.addr_ok, 0, 1), (R.CMN_RING_STATUS.mode, 0, 1), (R.CMN_SWEEP_STATUS.valid, 0, 1),
      (R.STP_INSULATION.kohm, 0, 1000)] ++ cells) same
    let closing := powerBody 5 0 [(R.STP_STATUS.state, 0, 1)] same
    let closed := powerBody 5 0 ([(R.STP_STATUS.state, 0, 2)] ++ cells) (fun p => { p with recovery := true })
    (power off = 0 ∧ off.cox.path.presence = true ∧ off.cox.path.ocLatched = false)
      ∧ (charging.cox.path.switch = 1 ∧ power charging = 1)
      ∧ (onStorage.cox.path.switch = 1 ∧ power onStorage = 8 ∧ onStorage.cox.path.inputAbsent = true ∧ onStorage.cox.path.removedCells = []
        ∧ onStorage.cox.path.moduleStop = false ∧ stepIsDone onStorage 6 = true)
      ∧ (power (powerBody 7 63 [] same) ≠ 0 ∧ power (powerBody 7 63 [] same) ≠ 9 ∧ ((tripThreshold off 1 : Nat) : Int) < 1000000
        ∧ (0 : Int) < (tripThreshold off 2 : Nat) ∧ ¬ ((tripThreshold off 1 : Nat) : Int) < (tripThreshold off 1 : Nat))
      ∧ (power ready = 2 ∧ shepherdActive ready = true ∧ stepIsDone ready 2 = true ∧ ready.cox.path.removedCells.length < 3
        ∧ ready.cox.path.checkFailed = false)
      ∧ (power pack = 4 ∧ pack.cox.path.checkTried = false ∧ ringItem pack = true ∧ temperatureItem pack = true ∧ faultItem pack = none
        ∧ faultItem (setF pack R.STP_INSULATION.kohm 0 999) = some 5 ∧ ringItem ready = false)
      ∧ (power (powerBody 5 0 [] same) = 5 ∧ getF (powerBody 5 0 [] same) R.STP_STATUS.state 0 = 0
        ∧ flagF (powerBody 5 0 [] same) R.STP_STATUS.pack_fault 0 = false)
      ∧ (getF closing R.STP_STATUS.state 0 = 1 ∧ sweepSum closing = 0 ∧ 2000 ≤ sweepSum closing + 2000 ∧ sweepSum closing + 2000 < 2001
        ∧ closing.cox.path.recovery = false)
      ∧ (closed.cox.path.recovery = true ∧ getF closed R.STP_STATUS.state 0 = 2 ∧ ∀ i, i < 32 → 25000 ≤ lowerReading closed i) := by
  decide +kernel

theorem witness_Protection :
    let b := powerBody 7 63 [(R.LDG_LEVEL.level_w, 0, 8401), (R.COX_LOOP_MODE.mode, 0, 1)] (fun p => { p with removedCells := [0], lowInsulation := 9 })
    3 ≤ power b ∧ power b ≠ 9 ∧ power b ≠ 10 ∧ b.cox.path.moduleStop = false ∧ stepIsDone b 6 = true
      ∧ ((tripThreshold b 6 : Nat) : Int) < 100000 ∧ (0 : Int) < (tripThreshold b 7 : Nat) ∧ tripThreshold b 8 < (1000000 : Int).natAbs
      ∧ ((tripThreshold b 9 : Nat) : Int) < 1000000 ∧ 0 * 1000 < tripThreshold b 0x10 ∧ b.cox.path.lowInsulation = 9
      ∧ getF b R.STP_STATUS.state 0 = 0 ∧ b.cox.path.blocks.contains (.ratio 15) = false ∧ slotBlock 15 3 = some (.die 15)
      ∧ (loopMode b 0 0 ≠ 0 ∧ ((tripThreshold b 0x0C : Nat) : Int) < 100000 * 1000 ∧ (0 : Int) * 1000 < (tripThreshold b 0x0D : Nat))
      ∧ (b.cox.path.removedCells.contains 4 = false ∧ b.cox.path.removedCells.contains 0 = true ∧ b.cox.path.inputAbsent = false
        ∧ b.cox.path.removedCells.length = 1 ∧ b.cox.path.selfCap = false ∧ getF b R.COX_CAP.cap_w 16 = 0 ∧ 8400 < getF b R.LDG_LEVEL.level_w 0)
      ∧ 0 < railPhases 0 0 := by decide +kernel
/-- A fresh sample of a loop. -/
def freshSample : LoopSample := ⟨[0], 0, true, true, 0, 0, 550, false⟩

/-- Loop 0 of engine 0 held in `q`, in mode `mode`, with more fields set. -/
def loopAt (e mode : Nat) (fs : List (Field × Nat × Nat)) (q : CoxLoop) : Body :=
  updLoop e 0 (fun _ => q) (withFields ([(R.COX_CTRL.engine_en, e, 1), (R.COX_LOOP_CFG.present, lix e 0, 1), (R.COX_LOOP_MODE.mode, lix e 0, mode)] ++ fs) Body.reset)

theorem witness_CoxLoops :
    let x := freshSample
    let q := CoxLoop.reset
    let b := loopAt 15 1 [] q
    let auto := loopAt 15 2 [(R.COX_LOOP_CFG.sup_sel, lix 15 0, 3), (R.COX_SUP_STATUS.sat_count, lix 15 0, 65535),
      (R.COX_SUP_STATUS.plaus_count, lix 15 0, 65535)] { q with stale := 3, preset := some 0 }
    let run := loopAt 15 2 [(R.COX_PG_CTRL.done, pix 15 0, 1)] q
    let held := loopAt 15 2 [] { q with held := some 0, heldFor := 65535 }
    let steady := fun (b0 : Body) => engineRuns b0 15 = true ∧ slotPresent b0 15 0 = true ∧ x.mismatch = false ∧ x.fresh = true ∧ x.delay ≤ 550
      ∧ flagF b0 R.COX_LOOP_CFG.sense_fallback (lix 15 0) = false ∧ (loop b0 15 0).held = none ∧ 15 ≠ 16 ∧ 15 ≠ 17 ∧ loopKind b0 15 0 = 0
    15 < 20 ∧ 0 < 16 ∧ slotPresent b 15 15 = false ∧ engineRuns Body.reset 19 = false
      ∧ (steady (loopAt 15 0 [] q) ∧ loopMode (loopAt 15 0 [] q) 15 0 = 0) ∧ (steady b ∧ loopMode b 15 0 = 1)
      ∧ (steady run ∧ loopMode run 15 0 = 2 ∧ (loop run 15 0).preset = none ∧ (loop run 15 0).taking = none ∧ getF run R.COX_LOOP_CFG.group (lix 15 0) = 0
        ∧ 4 * (regionStep run 15 0 0).1 + (regionStep run 15 0 0).2 = getF run R.COX_REGION.region (lix 15 0)
        ∧ getF run R.COX_REGION.region (lix 15 0) < 16)
      ∧ ({ x with mismatch := true } : LoopSample).mismatch = true ∧ (loop (loopAt 15 1 [] { q with mismatch := true }) 15 0).mismatch = true
      ∧ (getF auto R.COX_LOOP_CFG.sup_sel (lix 15 0) % 2 = 1 ∧ loopMode auto 15 0 = 2
        ∧ satLimit auto 15 0 ≤ getF auto R.COX_SUP_STATUS.sat_count (lix 15 0) ∧ slotBlock 15 0 = some (.die 15))
      ∧ (2 ≤ getF auto R.COX_LOOP_CFG.sup_sel (lix 15 0)
        ∧ getF auto R.COX_SUP_CFG2.plaus_time (lix 15 0) ≤ getF auto R.COX_SUP_STATUS.plaus_count (lix 15 0))
      ∧ (3 ≤ (loop auto 15 0).stale ∧ loopSoft run 15 0 = false ∧ flagF auto R.COX_LOOP_CFG.sense_fallback (lix 15 0) = false
        ∧ (loop auto 15 0).held = none ∧ loopKind auto 15 0 = 0)
      ∧ ((loop held 15 0).held.isSome = true ∧ getF held R.COX_SUP_CFG2.frozen_hold (lix 15 0) ≤ (loop held 15 0).heldFor)
      ∧ getF b R.COX_STATUS.writer 15 = 0 ∧ (2 ≤ 2 ∧ 15 < 16) := by decide +kernel

theorem witness_CoxGenerators :
    let mine := withFields [(R.COX_STATUS.writer, 0, 1), (R.COX_STATUS.writer, 16, 1), (R.COX_CTRL.engine_en, 0, 1)] Body.reset
    let gen := withFields [(R.COX_CTRL.engine_en, 15, 1), (R.COX_PG_VLIM.v, pix 15 7, 1), (R.COX_PG_ALIM.a, pix 15 7, 1),
      (R.COX_PG_JLIM.j, pix 15 7, 1)] Body.reset
    let held := withFields [(R.COX_CTRL.engine_en, 15, 1), (R.COX_PG_CTRL.hold, pix 15 1, 1)] Body.reset
    let soft := withFields [(R.COX_PG_CTRL.owner, pix 15 0, 1), (R.SHP_STARTUP.done, 0, 63)] Body.reset
    let start := withFields [(R.COX_PG_CTRL.owner, pix 16 0, 1), (R.GBL_STATUS.power_state, 0, 3)] Body.reset
    let warned := updEngine 15 (fun g => { g with warnAt := some 0, featherAt := some 0 }) Body.reset
    let full := withFields [(R.COX_CTRL.shed_en, 0, 1), (R.COX_SHED_CFG.en, 0, 1), (R.COX_SHED_STATUS.running, 0, 4095),
      (R.COX_SHED_THR.shed_pct, 0, 1), (R.COX_PG_CTRL.done, pix 0 0, 1)] Body.reset
    let few := withFields [(R.COX_SHED_STATUS.running, 0, 1)] (updEngine 0 (fun g => { g with shedPhase := some 11 }) Body.reset)
    let w : TlmWindow := ⟨63, 1, 0, 2, 3⟩
    15 < 20 ∧ 7 < 8
      ∧ (engineRuns gen 15 = true ∧ 7 ≠ 2 ∧ 7 ≠ 3 ∧ pgRests gen 15 7 = true ∧ flagF gen R.COX_PG_CTRL.hold (pix 15 7) = false
        ∧ vfHolds gen 15 7 = false ∧ bfM (getF gen R.COX_PG_VLIM.v (pix 15 7)) ≠ 0 ∧ bfM (getF gen R.COX_PG_ALIM.a (pix 15 7)) ≠ 0
        ∧ bfM (getF gen R.COX_PG_JLIM.j (pix 15 7)) ≠ 0)
      ∧ (engineRuns held 15 = true ∧ 1 < 2 ∧ flagF held R.COX_PG_CTRL.hold (pix 15 1) = true) ∧ engineRuns Body.reset 15 = false
      ∧ (softStarting soft 15 0 = true ∧ flagF soft R.COX_PG_CTRL.hold (pix 15 0) = false ∧ stepIsDone soft 6 = true)
      ∧ (softStarting start 16 0 = true ∧ flagF start R.COX_PG_CTRL.hold (pix 16 0) = false ∧ power start = 3 ∧ start.cox.path.packOff = false
        ∧ flagF start R.STP_STATUS.pack_fault 0 = false)
      ∧ softStarting (withFields [(R.COX_PG_CTRL.done, pix 15 0, 1)] soft) 15 0 = false
      ∧ getF mine R.COX_STATUS.writer 0 = 1 ∧ ¬ getF Body.reset R.COX_STATUS.writer 0 = 1
      ∧ (5 ≠ getF mine R.COX_PG_CTRL.owner (pix 0 7) ∧ getF (setF mine R.COX_PG_CTRL.owner (pix 0 7) 0) R.COX_PG_CTRL.owner (pix 0 7) = 0)
      ∧ getF soft R.COX_PG_CTRL.owner (pix 15 0) ≠ 0
      ∧ ((engine warned 15).warnAt.isSome = true ∧ (engine warned 15).featherAt.isSome = true)
      ∧ (isShed 0 = true ∧ shedAllowed full 0 = true ∧ (engine full 0).shedPhase = none ∧ 2 ≤ (runningPhases full 0 0).length
        ∧ getF full R.COX_SHED_CFG.min_phases 0 ≤ (runningPhases full 0 0).length - 1
        ∧ 0 * 100 < ((runningPhases full 0 0).length - 1) * phaseRating 0 0 * 1000 * getF full R.COX_SHED_THR.shed_pct 0)
      ∧ ((engine few 0).shedPhase = some 11 ∧ (allPhases few 0).find? (fun q => !(runningPhases few 0 0).contains q) = some 1
        ∧ (runningPhases few 0 0).length * phaseRating 0 0 * 1000 * getF few R.COX_SHED_THR.add_pct 0 < 1000000 * 100)
      ∧ (80 ≤ 80 ∧ 380 ≤ 380 ∧ 79 < 80 ∧ 380 < 381) ∧ getF mine R.COX_STATUS.writer 16 = 1 ∧ (1200 ≤ 1200 ∧ 1199 < 1200 ∧ 10500 < 10501)
      ∧ (engineRuns mine 0 = true ∧ w.channel < 64 ∧ flagF gen R.COX_TLM_ID.present (15 * 64 + 9) = true) := by decide +kernel

/-- Energy profile 0 of `onePlan`. -/
def oneProfile : EnergyProfile := ⟨0, 0, [⟨320, 750, 0, 0, 0⟩]⟩

theorem witness_LedgerCommands :
    let b := withShepherd { flockBody 1 with flock := { (flockBody 1).flock with plan := some { onePlan with energy := [oneProfile] } } }
    let low := setF b R.LDG_E0.e0_mj 0 0
    let high := setF (setF b R.LDG_E0.e0_mj 0 1000000000) R.LDG_STATUS.forced 0 1
    let idle := withShepherd Body.reset
    shepherdActive b = true
      ∧ (b.flock.inFlight.isSome = true ∧ kindInFlight (trackE0 b) = some ⟨20, 1000, 800, 400, 300, 0⟩
        ∧ profileOf (trackE0 b) ⟨20, 1000, 800, 400, 300, 0⟩ = some oneProfile)
      ∧ idle.flock.inFlight = none ∧ flagF (setF b R.CMN_SWEEP_STATUS.valid 0 1) R.CMN_SWEEP_STATUS.valid 0 = true
      ∧ flagF b R.CMN_SWEEP_STATUS.valid 0 = false
      ∧ (e0Used low ≤ eRes low ∧ flagF low R.LDG_STATUS.forced 0 = false ∧ kindInFlight low = some ⟨20, 1000, 800, 400, 300, 0⟩
        ∧ profileOf low ⟨20, 1000, 800, 400, 300, 0⟩ = some oneProfile ∧ (pointAt oneProfile 0).code < 512 ∧ kindInFlight idle = none)
      ∧ (eFloor high ≤ e0Used high ∧ flagF high R.LDG_STATUS.forced 0 = true ∧ high.cox.path.inputAbsent = false ∧ eRes high < e0Used high
        ∧ eStop high < e0Used high)
      ∧ (e0Used low ≤ eStop low ∧ low.ledger.exhausted = false ∧ joined low = true ∧ e0Used low < eFloor low) := by decide +kernel

/-- Monitor `k` is `m`. -/
def monAt (k : Nat) (m : Monitor) : Body := updMon k (fun _ => m) Body.reset

theorem witness_CellMonitors :
    let m := { Monitor.reset 3 with awake := true, rxAll := some 15, used := some 7 }
    let f := fun (t a alive : Nat) (p : List Nat) => ringFrame (ringBytes t a false alive p)
    let p := [0, 0, 0, 0xAA, 7]
    3 < 4 ∧ (mon Body.reset 3).awake = false ∧ (mon (monAt 3 m) 3) = m ∧ m.awake = true ∧ ringFrame [] = none
      ∧ (f 2 7 0 [8] = some ⟨2, 7, false, 0, [8]⟩ ∧ aliveCheck 4 15 0 = .inOrder ∧ m.used ≠ some 8)
      ∧ (f 2 7 0 [7] = some ⟨2, 7, false, 0, [7]⟩ ∧ m.used = some 7)
      ∧ (f 5 7 0 p = some ⟨5, 7, false, 0, p⟩ ∧ m.used = p[4]? ∧ maskAllowed 7 (p.getD 3 0) = true ∧ maskAllowed 7 0x55 = false
        ∧ ({ m with inWindow := true } : Monitor).inWindow = true ∧ m.inWindow = false)
      ∧ f 1 7 0 [3, 12, 13, 14, 0, 0] = some ⟨1, 7, false, 0, [3, 12, 13, 14, 0, 0]⟩ ∧ aliveCheck 4 15 15 = .repeated
      ∧ (f 3 3 15 [] = some ⟨3, 3, false, 15, []⟩ ∧ 3 = m.strap ∧ 3 ≠ 7 ∧ m.rxOwn = none)
      ∧ m.strap = 7 % 4 ∧ m.strap ≠ 0 % 4 ∧ (monAt 3 m).cells.ring.evaluating = false := by decide +kernel

/-- The ring master is `r`, with register fields set. -/
def ringAt (r : RingMaster) (fs : List (Field × Nat × Nat)) : Body :=
  let b := withFields fs Body.reset
  { b with cells := { b.cells with ring := r } }

/-- The DATA of a sound monitor `k` that used sweep byte `n`. -/
def soundData (k n : Nat) : List Nat := List.replicate 20 0 ++ [5 + 16 * k, n, 0, 0]

theorem witness_RingCommands :
    let r := RingMaster.reset
    let housed := updPath (fun p => { p with housekeeping := true }) (setF Body.reset R.CMN_CTRL.sweep_en 0 1)
    let swept := { r with sweeping := true }
    let full := { swept with byte := 1, data := [(0, soundData 0 1), (1, soundData 1 1), (2, soundData 2 1), (3, soundData 3 1)] }
    let split : List (Field × Nat × Nat) := [(R.CMN_RING_STATUS.mode, 0, 2)]
    let data := ringBytes 4 4 false 15 (soundData 3 0)
    let alert := ringBytes 6 4 false 15 [0, 0, 0, 0]
    let back := ringBytes 1 7 false 0 [4, 12, 13, 14, 15]
    3 < 4 ∧ (flagF housed R.CMN_CTRL.sweep_en 0 = true ∧ housed.cells.ring.sweeping = false ∧ housed.cox.path.housekeeping = true)
      ∧ flagF (setF Body.reset R.CMN_CTRL.sweep_en 0 0) R.CMN_CTRL.sweep_en 0 = false
      ∧ (swept.sweeping = true ∧ swept.second = false ∧ ringMode (ringAt swept []) ≤ 1) ∧ 2 ≤ ringMode (ringAt swept split)
      ∧ r.reading = none ∧ ({ swept with reading := some (3, true) } : RingMaster).reading = some (3, true)
      ∧ swept.fails = 0 ∧ ({ swept with fails := 1 } : RingMaster).fails ≠ 0 ∧ ringFrame [] = none
      ∧ (ringFrame data = some ⟨4, 4, false, 15, soundData 3 0⟩ ∧ SMap.get r.rx none 3 = none ∧ (soundData 3 0).length = 24
        ∧ bit ((soundData 3 0).getD 20 0) 2 = true ∧ bits ((soundData 3 0).getD 20 0) 4 2 = 3)
      ∧ (ringFrame alert = some ⟨6, 4, false, 15, [0, 0, 0, 0]⟩ ∧ r.evaluating = false ∧ ({ r with evaluating := true } : RingMaster).evaluating = true
        ∧ bit (getF Body.reset R.CMN_TRIP_STATUS.tripped 0) 7 = false ∧ bit (getF Body.reset R.CMN_TRIP_STATUS.tripped 0) 8 = false
        ∧ power Body.reset ≠ 9)
      ∧ (swept.reading = none ∧ sweepValid (ringAt full []) = true ∧ sweepValid (ringAt swept []) = false)
      ∧ (2 ≤ ringMode (ringAt { r with sinceProbe := 100 } split) ∧ r.sweeping = false ∧ 99 < 100)
      ∧ (getF Body.reset R.COX_STATUS.writer 0 = 0 ∧ ringMode Body.reset = 0 ∧ enumGood back = true ∧ enumGood [] = false)
      ∧ (({ r with enumRepeat := true } : RingMaster).enumRepeat = true ∧ r.enumRepeat = false
        ∧ ringMode (ringAt r [(R.CMN_RING_STATUS.mode, 0, 1)]) = 1) := by decide +kernel
/-- A Shepherd frame of module 1, of length 224, its CRC written in. -/
def soundFrame : List Byte :=
  let body := leBytes 2 1 ++ leBytes 2 0 ++ leBytes 2 1 ++ leBytes 2 0 ++ leBytes 2 9 ++ List.replicate 210 0
  body ++ leBytes 4 (crc32c body)

/-- The Shepherds in states `a` and `o`, with the Shepherd A as `x`. -/
def shepherds (a o : Nat) (x : Shepherd) : Body :=
  let b := withFields [(R.SHP_STATUS.a_state, 0, a), (R.SHP_STATUS.b_state, 0, o)] Body.reset
  { b with host := { b.host with shA := x } }

theorem witness_Shepherds :
    let x := Shepherd.reset
    let beats := { x with beat := some 65535 }
    let b := shepherds 3 4 beats
    let onlyA := shepherds 4 3 x
    let failed := shepherds 0 4 { x with failures := [0, 0] }
    let back := { setF (shepherds 3 4 x) R.SHP_STATUS.handback_pending 0 1 with now := 10000000000 }
    let late := { onlyA with now := 75000 }
    let alone_ := shepherds 0 0 x
    let mute := { alone_ with host := { alone_.host with noActiveSince := some 0 }, now := 100000000 }
    0 < 2 ∧ (shState b 0 = 3 ∧ (shepherd b 0).halted = false ∧ aliveCheck 16 65535 (65536 % 65536) = .inOrder
        ∧ aliveCheck 16 65535 (65535 % 65536) = .repeated ∧ (shepherd b 0).beat = some 65535)
      ∧ (shState (shepherds 5 4 x) 0 ≠ 3 ∧ shState (shepherds 5 4 x) 0 ≠ 4) ∧ (activeSh late = some 0 ∧ (shepherd late 0).lastBeat + 75000 ≤ late.now ∧ shState late 1 = 3 ∧ late.host.inbox = [])
      ∧ (activeSh onlyA = some 0 ∧ onlyA.now < (shepherd onlyA 0).lastBeat + 75000 ∧ onlyA.now < (shepherd onlyA 0).standbySince + 10000000000)
      ∧ activeSh alone_ = none ∧ (activeSh (shepherds 4 0 x) = some 0 ∧ shState (shepherds 4 0 x) 1 ≠ 3)
      ∧ (shState failed 0 = 0 ∧ (shepherd failed 0).failures ≠ [] ∧ failed.cox.path.heldReset = false ∧ (shepherd failed 0).failures.length < 3)
      ∧ 3 ≤ (shepherd (shepherds 0 4 { x with failures := [0, 0, 0] }) 0).failures.length
      ∧ (shState (shepherds 2 4 x) 0 = 2 ∧ shState (shepherds 2 4 x) 1 = 4 ∧ shState (shepherds 5 6 x) 0 = 5 ∧ shState (shepherds 5 6 x) 1 = 6)
      ∧ (shState (shepherds 1 4 x) 0 = 1 ∧ (slotImage Body.reset (bootSlot Body.reset)).isSome = true)
      ∧ (activeSh mute = none ∧ mute.host.noActiveSince = some 0 ∧ 0 + 100000000 ≤ mute.now ∧ flagF mute R.SHP_STATUS.no_shepherd 0 = false)
      ∧ (shState back 0 = 3 ∧ shState back 1 = 4 ∧ trialOn back = false ∧ (shepherd back 0).standbySince + 10000000000 ≤ back.now ∧ flagF back R.SHP_STATUS.handback_pending 0 = true ∧ maySwitch back = true)
      ∧ isolated (setFlag (setFlag (setFlag (setFlag b R.KLK_DIE_STATUS.isolated 0 true) R.KLK_DIE_STATUS.isolated 1 true)
          R.KLK_DIE_STATUS.isolated 2 true) R.KLK_DIE_STATUS.isolated 3 true) = true := by decide +kernel

theorem witness_ShepherdFrames :
    let b := Body.reset
    let src := dfield soundFrame 4 2 % 16384
    soundFrame.length = 224 ∧ flagF b R.KLK_ROUTE.lost src = false ∧ crc32c (soundFrame.take 220) = dfield soundFrame 220 4
      ∧ dfield soundFrame 0 2 = 1 ∧ dfield soundFrame 6 2 % 16384 = moduleIndex b
      ∧ SMap.get b.host.rxFrames none (dfield soundFrame 0 2 * 16384 + src) = none ∧ isolated b = false ∧ shepherdActive b = false
      ∧ shepherdActive (withShepherd b) = true ∧ b.host.inbox = [] ∧ b.host.inbox.length < 64 ∧ ([] : List Byte).length ≠ 224
      ∧ crc32c ((soundFrame.set 10 1).take 220) ≠ dfield (soundFrame.set 10 1) 220 4 := by decide +kernel

/-- Request `op` with body `x`, in execution and to be answered without an interrupt. -/
def request (op : Nat) (x : List Byte) : Taken := { opcode := op, alive := 65535, noIrq := true, tag := 2 ^ 64 - 1, body := x, at_ := 0 }

/-- `b` with that request in execution in mailbox 15 and Shepherd A active. -/
def asked (op : Nat) (x : List Byte) (b : Body) : Body :=
  updMbx 15 (fun q => { q with taken := some (request op x) }) (withShepherd b)

theorem asked_of (op : Nat) (x : List Byte) (b : Body) (h : shepherdActive (withShepherd b) = true) : Asked 15 op (request op x) (asked op x b) := by
  refine ⟨by decide, ?_, by rfl, by rfl, ?_⟩
  · simp only [asked, mbx, updMbx, updHost, SMap.upd, SMap.get_put_same]
  · simpa only [asked, updMbx, updHost, shepherdActive, getF] using h

theorem witness_Asked (op : Nat) (x : List Byte) : Asked 15 op (request op x) (asked op x Body.reset)
    ∧ Asked 15 op (request op x) (asked op x (flockBody 0)) :=
  ⟨asked_of op x _ (by decide +kernel), asked_of op x _ (by decide +kernel)⟩

theorem witness_Firmware :
    let b := withShepherd Body.reset
    let stage := leBytes 8 0 ++ leBytes 4 (slotBytes + 1) ++ leBytes 4 0
    let img := some { build := 2, minor := 0, major := 1, svn := 0, key := 0, revoke := 0, digest := List.replicate 48 0 }
    let staged := { b with trust := { b.trust with slotB := img } }
    let trial := fun (sa sb : Nat) (x y : Nat) =>
      let b := withFields [(R.SHP_STATUS.a_state, 0, sa), (R.SHP_STATUS.b_state, 0, sb), (R.SHP_FW_SLOTS.trial, 0, 1),
        (R.SHP_FW_SLOTS.trial_slot, 0, 1)] staged
      { b with host := { b.host with shA := { b.host.shA with slot := x }, shB := { b.host.shB with slot := y } }
               trust := { b.trust with trialSince := some 0 }, now := 600000000000 }
    fwBusy (setF b R.SHP_FW_SLOTS.trial 0 1) = true ∧ fwBusy b = false
      ∧ bfield stage 0 8 % 4096 = 0 ∧ bfield stage 0 8 + bfield stage 8 4 ≤ 12 * stackBytes ∧ slotBytes < bfield stage 8 4
      ∧ ((slotImage staged (stageSlot staged)).isSome = true ∧ (([0, 0, 0, 0] : List Byte).getD 0 0).toNat = 0
        ∧ (([1, 0, 0, 0] : List Byte).getD 0 0).toNat = 1 ∧ standbySh (setF staged R.SHP_STATUS.b_state 0 3) = some 1 ∧ slotImage b (stageSlot b) = none)
      ∧ (let t := trial 4 3 0 1
         t.trust.deferred = false ∧ trialOn t = true ∧ standbySh t = some 1 ∧ activeSh t = some (1 - 1) ∧ maySwitch t = true
          ∧ (shepherd t 1).slot = bootSlot t ∧ (shepherd t (1 - 1)).slot ≠ bootSlot t ∧ t.host.inbox = []
          ∧ (shepherd t 1).standbySince + 10000000000 ≤ t.now)
      ∧ (b.trust.deferred = false ∧ trialOn b = false ∧ b.trust.returning = false ∧ trialSettled b = false)
      ∧ (trialSettled (trial 4 3 1 1) = true ∧ (trial 4 3 1 1).trust.trialSince = some 0 ∧ 0 + 600000000000 ≤ (trial 4 3 1 1).now)
      ∧ (let t := trial 4 5 0 1
         trialOn t = true ∧ (shepherd t 1).slot = getF t R.SHP_FW_SLOTS.trial_slot 0 ∧ shState t 1 = 5)
      ∧ spdmAt b 1 = 0 ∧ spdmAt { b with rack := { b.rack with spdm := [(1, 3)] } } 1 = 3 ∧ shepherdActive b = true
      ∧ (1 ≤ 2 ∧ 2 ≤ getF (setF b R.SHP_TRUST.debug_level 0 2) R.SHP_TRUST.debug_level 0)
      ∧ 2 ≤ debugRights (setF { b with trust := { b.trust with session := 2 } } R.SHP_TRUST.debug_level 0 2) ∧ debugRights b < 1 := by decide +kernel

theorem witness_HostLink :
    let b := withShepherd Body.reset
    let housed := updPath (fun p => { p with housekeeping := true }) b
    let caused := fieldsAt [(R.IRQ_CAUSE.cause, 0, 2 ^ 29)]
    let unmasked := { b with host := { b.host with msix := [(29, ⟨0, 0, false⟩)], msixPending := 2 ^ 29 } }
    let head := leBytes 2 0x0001 ++ leBytes 2 0 ++ leBytes 2 0 ++ leBytes 2 1 ++ leBytes 8 7
    let posted := fun (bytes : List Byte) => updMbx 15 (fun q => { q with request := (bytes.zipIdx.filter (fun x => x.1 != 0)).map (fun x => (x.2, x.1)) })
      (setF { b with host := { b.host with doorbells := [15] } } R.MBX_STATUS.state 15 1)
    let sound := posted (head ++ leBytes 4 (crc32c head))
    let long_ := posted (head.set 4 1)
    let unknown := leBytes 2 0x0F0F ++ (head.drop 2)
    let known := fun (b : Body) => let n := reqField b 15 4 2
      (n, crc32c (reqBytes b 15 0 (16 + n)) = reqField b 15 (16 + n) 4)
    15 < 16 ∧ 29 < 30 ∧ 2 ^ 30 - 1 < 2 ^ 30 ∧ (5 < 6 ∧ 16 ∈ [1, 2, 4, 8, 16] ∧ housed.cox.path.housekeeping = true ∧ housed.cox.path.heldReset = false)
      ∧ (bit (getF b R.IRQ_MASK.mask 0) 29 = true ∧ bit 0 29 = false ∧ bit (getF caused.body R.IRQ_CAUSE.cause 0) 29 = true
        ∧ unmasked.host.fnMask = false ∧ (msixEntry unmasked 29).masked = false ∧ bit unmasked.host.msixPending 29 = true)
      ∧ (bit (getF b R.IRQ_CAUSE.cause 0) 29 = false ∧ bit (2 ^ 29) 29 = true
        ∧ bit (getF (setF b R.IRQ_MASK.mask 0 0) R.IRQ_MASK.mask 0) 29 = false ∧ (msixEntry b 29).masked = true)
      ∧ getF (setF b R.MBX_STATUS.state 15 2) R.MBX_STATUS.state 15 = 2 ∧ getF b R.MBX_STATUS.state 15 = 0
      ∧ mayTake b 15 = false ∧ mayTake sound 15 = true ∧ bit (reqField sound 15 6 1) 0 = true
      ∧ (known sound).2 ∧ ¬ (known (posted head)).2 ∧ mayTake long_ 15 = true ∧ reqField long_ 15 4 2 % 4 ≠ 0
      ∧ flagF sound R.MBX_ALIVE.seen 15 = false
      ∧ (flagF (setF sound R.MBX_ALIVE.seen 15 1) R.MBX_ALIVE.seen 15 = true
        ∧ aliveCheck 16 (getF (setF sound R.MBX_ALIVE.seen 15 1) R.MBX_ALIVE.last 15) (reqField sound 15 2 2) = .repeated)
      ∧ bodyChecks sound 15 (reqField sound 15 0 2) [] (reqField sound 15 6 2) = none
      ∧ ((known (posted (unknown ++ leBytes 4 (crc32c unknown)))).2
        ∧ (bodyChecks sound 15 0x0F0F [] (reqField sound 15 6 2)).isSome = true ∧ mayTake (posted (unknown ++ leBytes 4 (crc32c unknown))) 15 = true) := by
  decide +kernel

/-- A logbook record with number `n`. -/
def record_ (n : Nat) : LogRec := ⟨n, 1, leBytes 8 0, 0, 0, 0, 0⟩

theorem witness_ReadingCommands :
    let b := asked 0x0502 (leBytes 2 4 ++ leBytes 2 4056 ++ leBytes 4 0) Body.reset
    let open_ := { b with logbook := { b.logbook with held := [⟨record_ 5, 0, 0⟩], cursors := [⟨1, 4, 2, 0, 0⟩] } }
    let f := bfield (leBytes 2 4 ++ leBytes 2 4056 ++ leBytes 4 0)
    (19 < bfield [20, 0] 0 1 ∧ bfield [19, 11] 0 1 ≤ 19 ∧ slotPresent b 16 15 = false ∧ slotPresent b 15 0 = true)
      ∧ (120 < bfield (leBytes 8 0 ++ leBytes 2 121) 8 2 ∧ bfield (leBytes 8 0 ++ leBytes 2 0) 8 2 < 1 ∧ bfield (leBytes 8 0 ++ leBytes 2 120) 8 2 ≤ 120)
      ∧ (b.flock.filling = false ∧ b.fail.fill = none)
      ∧ open_.logbook.cursors.find? (fun c => c.origin == 1 && c.handle == f 0 2) = some ⟨1, 4, 2, 0, 0⟩
      ∧ b.logbook.cursors.find? (fun c => c.origin == 1 && c.handle == f 0 2) = none
      ∧ (f 2 2 % 8 = 0 ∧ 1032 ≤ f 2 2 ∧ f 2 2 ≤ 4056) ∧ 4056 < bfield (leBytes 2 4 ++ leBytes 2 4064) 2 2 := by decide +kernel

theorem witness_LogbookCommands :
    let b := updPath (fun p => { p with housekeeping := true }) (withShepherd Body.reset)
    let log := fun (f : Logbook → Logbook) => { b with logbook := f b.logbook }
    let lost := log (fun l => { l with dropped := some (3, 4, 2) })
    let r := record_ 1
    let queued := log (fun l => { l with queue := [r] })
    let full := setF (log (fun l => { l with queue := [r], lastUsed := 65536 })) R.LGB_STATUS.first_full 0 1
    let starved := setF (log (fun l => { l with queue := [r], lastUsed := 65536, lastErased := 0 })) R.LGB_STATUS.first_full 0 1
    let c : Clearing := { areas := 1, left := [(0, 31)], mailbox := 15, record := 9 }
    let win := setF (log (fun l => { l with windowSeqs := [r] })) R.LGB_WIN_STATUS.state 0 2
    shepherdActive b = true ∧ ¬ shepherdActive Body.reset = true ∧ powered b = true
      ∧ (lost.logbook.dropped = some (3, 4, 2) ∧ queueBytes lost.logbook.queue + 56 ≤ 262144) ∧ b.logbook.dropped = none
      ∧ (queued.logbook.queue = r :: [] ∧ queued.logbook.clearing = none ∧ flagF queued R.LGB_STATUS.first_full 0 = false
        ∧ (if queued.logbook.firstUsed + r.length ≤ 65536 then queued.logbook.firstSector else queued.logbook.firstSector + 1) < 32)
      ∧ (flagF full R.LGB_STATUS.first_full 0 = true ∧ full.logbook.lastErased ≠ 0 ∧ 65536 < starved.logbook.lastUsed + r.length
        ∧ starved.logbook.lastErased = 0 ∧ starved.logbook.queue = r :: [])
      ∧ 2 ≤ b.logbook.lastErased ∧ starved.logbook.lastErased < 2
      ∧ ((log (fun l => { l with clearing := some c })).logbook.clearing = some c ∧ c.left = (0, 31) :: [])
      ∧ (let p := withFields [(R.GBL_STATUS.power_state, 0, 2), (R.SHP_STARTUP.done, 0, 1)] b
         power p = 2 ∧ shepherdActive p = true ∧ stepIsDone p 1 = true ∧ stepIsDone p 2 = false ∧ powered p = true
          ∧ queueBytes p.logbook.queue + 48 ≤ 262144)
      ∧ power b ≠ 2 ∧ getF b R.LGB_WIN_STATUS.state 0 ≠ 2
      ∧ (getF win R.LGB_WIN_STATUS.state 0 = 2 ∧ win.logbook.windowSeqs.getLast? = some r ∧ flagF win R.LGB_CTRL.follow 0 = false
        ∧ flagF (setF win R.LGB_CTRL.follow 0 1) R.LGB_CTRL.follow 0 = true
        ∧ (logAnswer win.logbook (getF win R.LGB_CTRL.area 0) ((r.seq + 1) % 2 ^ 64) 4096).records = [])
      ∧ getF (setF b R.LGB_WIN_STATUS.state 0 1) R.LGB_WIN_STATUS.state 0 = 1 := by decide +kernel

theorem witness_LogbookQueueFull (s : State) (q : List LogRec) (h : queueBytes q = 262144) (x : Nat × Nat × Nat) :
    let l := { s.body.logbook with queue := q, dropped := some x }
    l.dropped = some x ∧ 262144 < queueBytes l.queue + 56 := ⟨rfl, by simp only [h]; decide⟩

theorem witness_PerformanceCounters :
    let b := Body.reset
    let i := 0 * 1 + 7
    let counting := fun (mode count occ : Nat) => setF (setF (setF (setF b (pageOf 0).1.event i 1) (pageOf 0).1.mode i mode) (pageOf 0).1.count i count)
      (pageOf 0).1.threshold i occ
    let n := 15 * 4 + 3
    let timer := fun (owner tail : Nat) => withFields [(R.PMC_TIMER.period_us, n, 1), (R.PMC_TIMER.owner, n, owner), (R.PMC_BUF_CFG.trace_en, 15, 1),
      (R.PMC_BUF_CFG.trace_units, 15, 1), (R.PMC_TRC_HEAD.head, 15, 0), (R.PMC_TRC_TAIL.tail, 15, tail)] b
    isCounter 0 7 = true
      ∧ (getF (counting 1 0 0) (pageOf 0).1.event i ≠ 0 ∧ (physOf b (0 / 48) (0 % 48)).isSome = true ∧ getF (counting 1 0 0) (pageOf 0).1.mode i = 1
        ∧ getF (counting 1 0 0) (pageOf 0).1.count i + 1 < 2 ^ 48 ∧ getF (counting 3 (2 ^ 48 - 1) 0) (pageOf 0).1.mode i = 3
        ∧ getF (counting 3 (2 ^ 48 - 1) 0) (pageOf 0).1.count i + 1 = 2 ^ 48)
      ∧ (getF (counting 2 0 5) (pageOf 0).1.mode i = 2 ∧ getF (counting 2 0 5) (pageOf 0).1.threshold i < 6 ∧ getF b (pageOf 0).1.event i = 0)
      ∧ (flagF (setF b R.PMC_STN_STATUS.granted 0 1) R.PMC_STN_STATUS.granted 0 = true ∧ flagF b R.PMC_STN_STATUS.granted 767 = false)
      ∧ (isDie 15 = true ∧ 3 < 4 ∧ getF b R.PMC_TIMER.period_us n = 0)
      ∧ (getF (timer 1 0) R.PMC_TIMER.period_us n ≠ 0 ∧ getF (timer 1 0) R.PMC_TIMER.owner n = 1 ∧ flagF (timer 1 0) R.PMC_BUF_CFG.trace_en 15 = true
        ∧ ringSize (timer 1 0) 15 0 ≠ 0 ∧ (0 + 64) % ringSize (timer 1 0) 15 0 ≠ getF (timer 1 0) R.PMC_TRC_TAIL.tail 15)
      ∧ ((0 + 64) % ringSize (timer 1 64) 15 0 = getF (timer 1 64) R.PMC_TRC_TAIL.tail 15 ∧ flagF (timer 1 64) R.PMC_BUF_CFG.wrap 15 = false)
      ∧ (getF (timer 2 0) R.PMC_TIMER.owner n = 2 ∧ ringSize (timer 2 0) 15 1 = 0) ∧ getF (timer 0 0) R.PMC_TIMER.owner n ≠ 2
      ∧ (bits (2 * 2 ^ 20) 20 2 ≠ 3 ∧ bits (2 * 2 ^ 20) 20 2 ≠ 0 ∧ getF (timer 1 0) R.PMC_TIMER.owner n ≠ 0
        ∧ bits (2 * 2 ^ 20) 20 2 ≠ getF (timer 1 0) R.PMC_TIMER.owner n)
      ∧ (Nat.land (bits 0x21 0 4) (bits 0x21 4 4) = 0 ∧ Nat.land (bits 0x11 0 4) (bits 0x11 4 4) ≠ 0)
      ∧ getF b R.PMC_BUF_CFG.trace_units 15 ≠ 1
      ∧ (bits 3 0 2 ≠ 0 ∧ getF (setF b R.GBL_CLAIM_AUX.holder 0 1) R.GBL_CLAIM_AUX.holder 0 = 1 ∧ getF b R.GBL_CLAIM_AUX.holder 0 ≠ 1)
      ∧ (1 < 2 ∧ 262080 % 64 = 0 ∧ 262080 < 262144 ∧ SMap.get b.pmc.lost 0 (15 * 2 + 1) = 0)
      ∧ (let x := { timer 1 0 with pmc := { b.pmc with lost := [(30, 1)] } }
         SMap.get x.pmc.lost 0 (15 * 2 + 0) ≠ 0 ∧ ringSize x 15 0 ≠ 0 ∧ (getF x (ringHead 0) 15 + 64) % ringSize x 15 0 ≠ 128) := by decide +kernel
/-- The key whose private key is 1. -/
def keyOne : List Byte := beBytes 48 p384G.1 ++ beBytes 48 p384G.2

/-- A signature with k = 1: r is the abscissa of the base point. -/
def sigOne (s : Nat) : List Byte := beBytes 48 (p384G.1 % p384N) ++ beBytes 48 s

/-- An accord for serial 1, sequence 1 and a nonce of 32 ones, of one item with a value of four bytes. -/
def accordBody (form signer party code value : Nat) (sigs : List Byte) : List Byte :=
  leBytes 4 0x44524341 ++ leBytes 1 form ++ leBytes 1 signer ++ leBytes 1 party ++ [1] ++ leBytes 8 1 ++ leBytes 8 1 ++ List.replicate 32 1
    ++ leBytes 2 12 ++ leBytes 6 0 ++ leBytes 2 code ++ leBytes 2 4 ++ leBytes 4 0 ++ leBytes 4 value ++ sigs

/-- A party signature block for serial 1, sequence 1 and that nonce behind 8 bytes. -/
def blockBody (first : List Byte) (signer : Nat) (sig : List Byte) : List Byte :=
  first ++ leBytes 1 signer ++ leBytes 3 0 ++ leBytes 8 1 ++ leBytes 8 1 ++ List.replicate 32 1 ++ sig

/-- Both parties hold `keyOne` and may use that nonce; the serial number is 1. -/
def provisioned : Body :=
  let b := withShepherd (setF Body.reset R.GBL_SERIAL.serial 0 1)
  { b with trust := { b.trust with provider := keyOne, tenant := keyOne, nonces := [⟨1, List.replicate 32 1, 1⟩, ⟨2, List.replicate 32 1, 1⟩] } }

/-- SHA-384 of "abc" as FIPS 180-4 gives it. -/
theorem test_sha384 : ofBeBytes (sha384 [0x61, 0x62, 0x63])
    = 0xcb00753f45a35e8bb5a03d699ac65007272c32ab0eded1631a8b605a43ff5bed8086072ba1e7cc2358baeca134c825a7 := by decide +kernel

theorem witness_AccordItem :
    let x := accordBody 2 2 2 5 30 (sigOne 0xacc6b364f73244c6823362f977b4bfd900ed24dd908569a2065586cc2778291c0d18aefeb6464719a213b41084d9ed6e)
    let a := (readAccord 0x0701 x).1
    let i : AccItem := ⟨5, leBytes 4 30, 64⟩
    accordFault 0x0701 x = none ∧ accordSigned 15 0x0701 x a provisioned = none ∧ a.items = [i]
      ∧ itemCheck a (setF provisioned R.LDG_RESERVE.reserve_mj 0 30000000) i = none ∧ debugBusy a provisioned = false
      ∧ (a.form = 2 ∧ itemInt i < itemNow (setF provisioned R.LDG_RESERVE.reserve_mj 0 60000000) 5) := by decide +kernel

theorem witness_AccordOutOfRange :
    let x := accordBody 2 2 2 5 29 (sigOne 0x4a66d47ae35598588a5e733b3059e1dbb01f2e9ce8f689eedac7a4bc8236a10f46cfc853c98d3f91b399e8f5396ce64c)
    let a := (readAccord 0x0701 x).1
    let i : AccItem := ⟨5, leBytes 4 29, 64⟩
    accordFault 0x0701 x = none ∧ accordSigned 15 0x0701 x a provisioned = none ∧ a.items = [i] ∧ itemInt i < 30 := by decide +kernel

theorem witness_AccordRefused :
    let x := accordBody 2 2 2 5 30 (sigOne 1)
    accordFault 0x0701 (accordBody 3 2 2 5 30 []) = some 4 ∧ accordFault 0x0701 x = none
      ∧ accordSigned 15 0x0701 x (readAccord 0x0701 x).1 (withShepherd Body.reset) = some 0x16 := by decide +kernel

theorem witness_LogbookClear :
    let x := accordBody 1 0 1 0x0200 3 (sigOne 0x528a5286f89e64f709d3971fd2079ff668a7225d4e8a8e8bb7ccd630204a93820817de468e02b3ee7e86e7e85daefa44 ++ sigOne 0x528a5286f89e64f709d3971fd2079ff668a7225d4e8a8e8bb7ccd630204a93820817de468e02b3ee7e86e7e85daefa44)
    let c := (readAccord 0x0503 x).1
    let i : AccItem := ⟨0x0200, leBytes 4 3, 64⟩
    x ≠ [] ∧ getF provisioned R.TLY_STROKE_STATUS.state 0 = 0 ∧ accordFault 0x0503 x = none ∧ accordSigned 15 0x0503 x c provisioned = none
      ∧ c.items = [i] ∧ itemCheck c provisioned i = none ∧ debugBusy c provisioned = false
      ∧ provisioned.logbook.clearing = none ∧ getF (flockBody 1) R.TLY_STROKE_STATUS.state 0 ≠ 0 := by decide +kernel

theorem witness_ContractSet :
    let x := blockBody (leBytes 2 1200 ++ leBytes 1 30 ++ leBytes 5 0) 1 (sigOne 0x478043c3fb91520d835a300cc7b2cbce02eed0930df26513719ef2a189a36e68d0bb1f0bc4032990ec3e697564ba879e)
    let b := setF provisioned R.LDG_ECAP.ecap_mj 0 1000000000
    let f := bfield x
    blockFails b 0x0201 [1] x = none ∧ 1200 ≤ f 0 2 ∧ f 0 2 ≤ getF b R.LDG_ENVELOPE.level_max_w 0 ∧ f 0 2 < 2 ^ 14 ∧ 30 ≤ f 2 1 ∧ f 2 1 ≤ 80
      ∧ eFloorSet b + 2000000 ≤ ((getF b R.LDG_ECAP.ecap_mj 0 * f 2 1 / 100 : Nat) : Int)
      ∧ blockFails (withShepherd Body.reset) 0x0201 [1] x = some 0x16 := by decide +kernel

theorem witness_CapEmergency :
    let x := blockBody (leBytes 2 10500 ++ leBytes 6 0) 2 (sigOne 0x4c78510c43617db7647714fd8dac4fbab1c232f6e46912ac6a5c6824a64e67e9e4fe4249d93dec5a097c9b70b68c01c1)
    blockFails provisioned 0x0202 [1, 2] x = none ∧ bfield x 0 2 = 10500 ∧ getF provisioned R.COX_CAP.cap_w 16 = 0
      ∧ blockFails (withShepherd Body.reset) 0x0202 [1, 2] x = some 0x16 := by decide +kernel

/-- A FLOCK_JOIN of module 0 in flock 17 with modules 0 and 1. -/
def joinBody : List Byte := leBytes 2 0 ++ leBytes 2 17 ++ [0, 0, 0, 0x11] ++ leBytes 2 1 ++ leBytes 2 0 ++ leBytes 4 0 ++ leBytes 2 0 ++ leBytes 2 2

theorem witness_ChangingCommands :
    let b := withShepherd Body.reset
    let on := setF b R.GBL_STATUS.power_state 0 7
    let seat := setF (withShepherd (flockBody 0)) R.GBL_STATUS.power_state 0 7
    let rest := setF seat R.TLY_STROKE_STATUS.state 0 0
    let start := fun (n : Byte) => [n, 0, 0, 0, 0, 0, 0, 0] ++ leBytes 8 0 ++ leBytes 128 0
    getF on R.TLY_STROKE_STATUS.state 0 = 0 ∧ getF seat R.TLY_STROKE_STATUS.state 0 ≠ 0 ∧ (bfield (leBytes 6 1577836799999) 0 6 < 1577836800000 ∧ 1577836800000 ≤ bfield (leBytes 6 1577836800000) 0 6)
      ∧ (powered (updPath (fun p => { p with housekeeping := true }) b) = true ∧ queueBytes b.logbook.queue + 200 ≤ 262144)
      ∧ (replayOrFill { b with flock := { b.flock with inReplay := true } } = true ∧ replayOrFill b = false)
      ∧ ((joinChecks joinBody b).isSome = true ∧ joinChecks joinBody on = none)
      ∧ (joined rest = true ∧ getF rest R.TLY_STROKE_STATUS.state 0 = 0 ∧ replayOrFill rest = false ∧ rest.fail.pairState ≠ 2
        ∧ flagF rest R.TLY_STANDIN.valid 0 = false ∧ joined b = false ∧ ({ rest.fail with pairState := 2 } : _).pairState = 2)
      ∧ ((startChecks 1 (start 1) b).isSome = true ∧ startChecks 1 (start 1) rest = none ∧ startChecks 2 (start 2) seat = none
        ∧ lastSent seat = none ∧ startChecks 3 (start 3) seat = none ∧ ((start 3).getD 0 0).toNat = 3)
      ∧ (19 < 20 ∧ slotPresent b 19 0 = true ∧ (loopPg b 19 0).any (fun k => getF b R.COX_PG_CTRL.owner (pix 19 k) == 1) = false
        ∧ satDefault 19 0 = true ∧ bit 1 0 = true ∧ bit 1 1 = false)
      ∧ (slotPresent b 16 0 = true ∧ (loopPg b 16 0).any (fun k => getF b R.COX_PG_CTRL.owner (pix 16 k) == 1) = false
        ∧ (groupPartner 16 0).isSome = true ∧ getF b R.TLY_STROKE_STATUS.state 0 = 0)
      ∧ (bfield (leBytes 6 (1 + 100 * 2 ^ 8 + 15 * 2 ^ 16 + 63 * 2 ^ 24 + 3800 * 2 ^ 32)) 0 1 = 1 ∧ bfield (leBytes 6 (1 + 100 * 2 ^ 8 + 15 * 2 ^ 16 + 63 * 2 ^ 24 + 3800 * 2 ^ 32)) 4 2 = 3800
        ∧ 1 < bfield [2] 0 1)
      ∧ (bfield [1, 15] 1 1 < 16 ∧ ((([1] : List Byte)).getD 0 0).toNat = 1 ∧ (([0] : List Byte).getD 0 0).toNat = 0) := by decide +kernel

theorem witness_SupervisionTimes :
    let b := withShepherd Body.reset
    let d : Int := (fieldReset R.COX_SUP_CFG.sat_time.idx (lix 17 2) : Nat)
    17 ≤ 19 ∧ slotPresent b 17 2 = true ∧ (loopPg b 17 2).any (fun k => getF b R.COX_PG_CTRL.owner (pix 17 k) == 1) = false
      ∧ satDefault 17 2 = true ∧ plausDefault 17 2 = false ∧ within4 (4 * d) d = true := by decide +kernel

theorem witness_PairSet :
    let b := withShepherd Body.reset
    let x := leBytes 2 5 ++ [1, 1, 1] ++ leBytes 11 0 ++ leBytes 8 0 ++ leBytes 8 1048576
    let kinds := { onePlan with kinds := [⟨20, 1000, 800, 400, 300, 0⟩, ⟨20, 1000, 800, 400, 300, 0⟩] }
    let b := { b with flock := { b.flock with plan := some kinds } }
    let un := leBytes 2 5 ++ [0, 0, 0] ++ leBytes 11 0
    let paired := { b with fail := { b.fail with pair := some ⟨5, 1, []⟩ } }
    bit (bfield x 2 1) 0 = true ∧ pairChecks x b = none ∧ (pairChecks x Body.reset).isSome = true
      ∧ (bit (bfield un 2 1) 0 = false ∧ pairChecks un paired = none ∧ paired.fail.pair.isSome = true) := by decide +kernel

theorem witness_Drains :
    let b := withShepherd Body.reset
    let at_ := fun n => { b with rack := { b.rack with drain := n } }
    let ready := setF (setF (at_ 2) R.LDG_E0.e0_mj 0 0) R.LDG_LEVEL.level_w 0 1200
    let busy := setF (at_ 3) R.SHP_FW_SLOTS.trial 0 1
    b.rack.drain = 0 ∧ (at_ 3).rack.drain = 3 ∧ 3 ≠ 0 ∧ 3 < 4
      ∧ ((at_ 1).rack.drain = 1 ∧ flagF (at_ 1) R.TLY_SEAT.valid 0 = false ∧ (at_ 1).rack.handedOff = false
        ∧ flagF (flockBody 0) R.TLY_SEAT.valid 0 = true)
      ∧ (ready.rack.drain = 2 ∧ pullReady ready = true ∧ busy.rack.drain = 3 ∧ pullReady busy = false
        ∧ pullReady { ready with rack := { ready.rack with drain := 3 } } = true ∧ pullReady (setF (at_ 2) R.SHP_FW_SLOTS.trial 0 1) = false) := by
  decide +kernel

theorem witness_RackRequests :
    let b := withShepherd Body.reset
    let housed := updPath (fun p => { p with housekeeping := true }) b
    let rack := fun (f : Rack → Rack) => { b with rack := f b.rack }
    let hold := rack (fun r => { r with receiver := some 8, sensors := [(11, ⟨0, true, some 2⟩)] })
    (i3cOn housed = true ∧ housed.rack.i3c = none ∧ 0x50 + getF housed R.GBL_SLOT.slot 0 ≠ 0 ∧ i3cOn b = false)
      ∧ (1 < 2 ∧ getF b R.MBX_STATUS.state (16 + 1) = 0 ∧ getF (setF b R.MBX_STATUS.state 17 2) R.MBX_STATUS.state (16 + 1) = 2)
      ∧ shepherdActive b = true ∧ ¬ shepherdActive Body.reset = true ∧ (pldmVersion 0).isSome = true ∧ 6 ∉ [0, 2, 5, 0x3F]
      ∧ ((sensor b 11).holding = false ∧ (sensor hold 11).holding = true ∧ (sensor hold 11).waiting = some 2 ∧ hold.rack.receiver = some 8)
      ∧ (sensor (rack (fun r => { r with sensors := [(9, ⟨0, true, none⟩)] })) 9).waiting = none
      ∧ (b.rack.update = .idle ∧ (rack (fun r => { r with update := .learn })).rack.update = .learn
        ∧ trialOn b = false ∧ b.trust.deferred = false ∧ trialOn (setF b R.SHP_FW_SLOTS.trial 0 1) = true)
      ∧ ((rack (fun r => { r with update := .download, size := 1024, image := [] })).rack.image ++ List.take (1024 - 0) (List.take 512 [])).length < 1024
      ∧ (let d := rack (fun r => { r with update := .download, size := 1 })
         d.rack.size ≤ (d.rack.image ++ (List.take 512 [0]).take (d.rack.size - d.rack.image.length)).length ∧ headerOk [0] 1 = false)
      ∧ standbySh b = none ∧ standbySh (setF b R.SHP_STATUS.b_state 0 3) ≠ none := by decide +kernel

theorem witness_ResetsAndStartUp :
    let b := Body.reset
    let at_ := fun (n steps : Nat) (f : PowerPath → PowerPath) =>
      updPath f (withFields [(R.GBL_STATUS.power_state, 0, n), (R.SHP_STARTUP.done, 0, steps)] (withShepherd b))
    let held := at_ 2 0 (fun p => { p with heldReset := true })
    let failed := (List.range 5).map (fun x => 15 * 64 + 47 + x)
    power b ≠ 2 ∧ (power (at_ 2 0 id) = 2 ∧ (at_ 2 0 id).cox.path.housekeeping = false ∧ (at_ 2 0 id).cox.path.heldReset = false)
      ∧ (power (at_ 9 0 id) = 9 ∧ power (at_ 1 0 id) = 1 ∧ power (at_ 10 0 id) ∉ [0, 1, 9] ∧ (at_ 10 0 id).cox.path.inputAbsent = false
        ∧ (at_ 1 0 (fun p => { p with inputAbsent := true })).cox.path.inputAbsent = true)
      ∧ (held.cox.path.heldReset = true ∧ power held = 2 ∧ held.cox.path.blocks = []
        ∧ (at_ 0 0 (fun p => { p with heldReset := true })).cox.path.heldReset = true ∧ power (at_ 0 0 id) ≠ 2)
      ∧ (stepIsDone (at_ 6 63 id) 6 = true ∧ stepIsDone (at_ 6 63 id) 7 = false ∧ stepIsDone b 6 = false ∧ stepIsDone (at_ 6 127 id) 7 = true)
      ∧ (stepIsDone (at_ 6 255 id) 9 = false ∧ shepherdActive (at_ 6 255 id) = true ∧ failed.all isStation = true ∧ dieLost (at_ 6 255 id) 15 = false
        ∧ 4 < (((List.range 52).map (fun x => 15 * 64 + x)).filter failed.contains).length
        ∧ (((List.range 52).map (fun x => 14 * 64 + x)).filter failed.contains).length ≤ 4 ∧ failed.contains (14 * 64 + deliveryPhys 47) = false) := by
  decide +kernel
/-- A plan image of one kind, flock 17 with module 0, one shape, no station and one energy profile: the header, the directory and
the sections 1, 2, 3, 7 and 8 (4 and 5 are empty). -/
def planBytes : List Byte :=
  leBytes 4 0x4C50545A ++ leBytes 2 1 ++ leBytes 2 64 ++ leBytes 8 864 ++ leBytes 8 7 ++ leBytes 2 0 ++ leBytes 2 7 ++ leBytes 4 0
    ++ leBytes 8 0xd208957d6f9f7bc6 ++ List.replicate 24 0
    ++ [(1, 32, 192), (2, 34, 256), (3, 32, 320), (4, 16, 384), (5, 0, 448), (7, 192, 448), (8, 224, 640)].flatMap (fun x =>
        leBytes 4 x.1 ++ leBytes 4 x.2.1 ++ leBytes 8 x.2.2) ++ List.replicate 16 0
    ++ leBytes 2 0 ++ leBytes 2 20 ++ leBytes 4 1000 ++ leBytes 4 400 ++ leBytes 4 0 ++ leBytes 4 300 ++ List.replicate 44 0
    ++ leBytes 2 1 ++ List.replicate 14 0 ++ leBytes 2 17 ++ [2, 33] ++ leBytes 2 1 ++ leBytes 2 0xFFFF ++ leBytes 4 0 ++ leBytes 4 32
    ++ List.replicate 32 0
    ++ leBytes 2 0 ++ [1, 0] ++ leBytes 4 1 ++ leBytes 2 1 ++ List.replicate 118 0
    ++ (List.range 12).flatMap (fun k => BitVec.ofNat 8 k :: List.replicate 15 0)
    ++ leBytes 4 1 ++ List.replicate 60 0 ++ leBytes 2 0 ++ [1, 0] ++ List.replicate 28 0 ++ leBytes 2 320 ++ leBytes 2 750 ++ leBytes 4 1
    ++ leBytes 4 1 ++ List.replicate 116 0

/-- No logical station of any die is served, and every die runs at 320 on 750 mV; the image stands in stack 0. -/
def planState : State :=
  let b := { Body.reset with dieMap := emptyDies.dieMap }
  let vf := (List.range 16).flatMap (fun e => [(R.COX_VF.valid, e * 16, 1), (R.COX_VF.core_mv, e * 16, 750), (R.COX_VF.max_code, e * 16, 320)])
  { State.reset with body := withShepherd (withFields vf b), mem := (planBytes.zipIdx.filter (fun c => c.1 != 0)).map (fun c => (c.2, c.1)) }

/-- CRC-64 whose accumulator is looked at before each byte, so that an evaluation stays shallow. -/
def crcSteps : Nat → List Byte → Nat
  | r, [] => r
  | r, x :: xs => if r < 2 ^ 64 then crcSteps (crcReflByte 0xC96C5795D7870F42 r x.toNat) xs else crcSteps (crcReflByte 0xC96C5795D7870F42 r x.toNat) xs

theorem crcSteps_eq (bs : List Byte) (r : Nat) : crcSteps r bs = bs.foldl (fun r x => crcReflByte 0xC96C5795D7870F42 r x.toNat) r := by
  induction bs generalizing r with
  | nil => rfl
  | cons x xs ih => simp only [crcSteps, ite_self, List.foldl_cons, ih]

theorem crc64_steps (bs : List Byte) : crc64 bs = Nat.xor (crcSteps (2 ^ 64 - 1) bs) (2 ^ 64 - 1) := by rw [crcSteps_eq, crc64]

theorem plan_read : (readStack 0 864 planState).1 = (planBytes, []) := by decide +kernel

theorem plan_crc : crc64 ((planBytes.take 32 ++ List.replicate 8 0 ++ (planBytes.drop 40)).take (dfield planBytes 8 8)) = dfield planBytes 32 8 := by
  rw [crc64_steps]; decide +kernel

theorem witness_PlanLoad :
    let x := leBytes 8 0 ++ leBytes 8 864
    let f := bfield x
    getF planState.body R.TLY_STROKE_STATUS.state 0 = 0 ∧ 12 * stackBytes ≤ bfield (leBytes 8 (12 * stackBytes)) 0 8 ∧ f 0 8 < 12 * stackBytes
      ∧ f 0 8 % 64 = 0 ∧ f 8 8 ≠ 0 ∧ f 0 8 + f 8 8 ≤ 12 * stackBytes ∧ replayOrFill planState.body = false ∧ shepherdActive planState.body = true
      ∧ 12 * stackBytes < bfield (leBytes 8 (12 * stackBytes) ++ leBytes 8 1) 0 8 + bfield (leBytes 8 (12 * stackBytes) ++ leBytes 8 1) 8 8 := by
  decide +kernel

theorem planStations_none (b : Body) (h : ∀ e ∈ b.dieMap, e.2 = 0)
    (hk : ∀ d, d < 16 → ∀ l, l < 48 → ∃ e ∈ b.dieMap, e.1 = d * 64 + l) : planStations b none none = [] := by
  unfold planStations
  rw [List.flatMap_eq_nil_iff]
  intro d hd
  simp only [true_or, if_true, List.filterMap_eq_nil_iff]
  intro l hl
  simp only [List.mem_range] at hd hl
  simp [physOf, hl, get_of_zeros b.dieMap _ _ h (hk d hd l hl)]

theorem plan_body : (readStack 0 864 planState).2.body = { planState.body with free := 135 } := by decide +kernel

theorem plan_stations : planStations { planState.body with free := 135 } none none = [] := by
  have hm : ({ planState.body with free := 135 } : Body).dieMap = emptyDies.dieMap := by decide +kernel
  refine planStations_none _ ?_ ?_ <;> rw [hm]
  · intro e he
    simp only [emptyDies, List.mem_flatMap, List.mem_map, List.mem_range] at he
    obtain ⟨_, _, _, _, rfl⟩ := he
    rfl
  · intro d hd l hl
    refine ⟨(d * 64 + l, 0), ?_, rfl⟩
    simp only [emptyDies, List.mem_flatMap, List.mem_map, List.mem_range]
    exact ⟨d, hd, l, hl, rfl⟩

theorem witness_PlanChecks :
    planChecks (readStack 0 864 planState).1.1 864 (readStack 0 864 planState).1.2.isEmpty none 1 0 (readStack 0 864 planState).2.body = none := by
  rw [plan_read, plan_body]
  simp only [planChecks, plan_crc, plan_stations]
  decide +kernel

/-- A firmware image of 1 024 bytes signed with `keyOne`. -/
def fwBytes : List Byte :=
  leBytes 4 0x5746565A ++ leBytes 2 512 ++ leBytes 2 0 ++ leBytes 4 1024 ++ leBytes 2 2 ++ [0, 1] ++ leBytes 16 0
    ++ beBytes 48 0x198c62b7c7ad871860ce1bebfd8b75931b24f662289e8ea21fed4a9aa68c9ab229d067e90aa35b926c66a569179f995f
    ++ sigOne 0x2c7ddb696e7779566cff3b74383786204d4f451bff65f0e696b7ef2fd7c0694eba1919b22f3c14fbc9e6c9becd3831de
    ++ leBytes 8 0x17239762bc2eee81 ++ List.replicate 328 0 ++ keyOne ++ List.replicate 416 0

theorem fw_crc : crc64 (fwBytes.take 176 ++ List.replicate 8 0 ++ fwBytes.drop 184) = bfield fwBytes 176 8 := by
  rw [crc64_steps]; decide +kernel
theorem fw_digest : sha384 (fwBytes.drop 512) = (imageOf fwBytes).digest := by decide +kernel
theorem fw_sig : verifySig (bslice fwBytes 512 96) (fwBytes.take 80) (bslice fwBytes 80 96) = true := by decide +kernel
theorem fw_rest : bit Body.reset.trust.revoked 0 = false
    ∧ ¬ (imageOf fwBytes).svn < getF Body.reset R.SHP_FW_SLOTS.svn_min 0 ∧ (imageOf fwBytes).key = 0 ∧ headerOk fwBytes 1024 = true
    ∧ bfield fwBytes 8 4 = 1024 ∧ fwBytes.length = 1024 := by decide +kernel

/-- The image passes every check where the module's fuses hold the hash of its key, which is a value of manufacture. -/
theorem witness_FirmwareImage (h : Config.fwKeyHash 0 = sha384 (bslice fwBytes 512 96)) : imageFails Body.reset fwBytes true = none := by
  unfold imageFails
  simp only [fw_crc, fw_digest, fw_sig, fw_rest.1, fw_rest.2.1, fw_rest.2.2.1, h, ne_eq, not_true_eq_false, Bool.not_true, Bool.false_eq_true, or_self,
    if_false]
/-! Single results that the spec works out. -/

/-- The example of chapter 3: scale word 0xF47F of a Q4T block, elements 17 and 3, as FP32. -/
theorem test_q4t_block : (NFmt.ofCode 0xC).map (fun f => ((widenElem f 0xF47F 17 7).val, (widenElem f 0xF47F 3 0xD).val)) = some (0x3F400000, 0xC0400000) := by
  decide +kernel

/-- R370: 1.0, 0.75 and 54.0. -/
theorem test_bf_words : bfRat 1 1 = 0x80400000 ∧ bfZ 0x80400000 = 2 ^ 150 ∧ 4 * bfZ 0x80300000 = 3 * 2 ^ 150 ∧ bfZ 0x86360000 = 54 * 2 ^ 150 := by decide +kernel

/-- The example of R466: 3.7421 V at -75 A and 800 µΩ. -/
theorem test_compensated_voltage : compensate 37421 (-75000) 800 = 36821 := by decide +kernel

/-- The example of chapter 4: mmul.q4t.mx4 A3, S4, S5, 128, new. -/
theorem test_mmul_word : packFields [(0, 8, 0x10), (8, 4, 0xC), (12, 4, 8), (16, 4, 3), (20, 1, 1), (24, 5, 4), (29, 5, 5), (34, 12, 128)] = 0x00000200A4138C10
    ∧ Instr.wellFormed (.mmul ⟨0, 0x00000200A4138C10, true⟩) = true := by decide +kernel

/-- The example of R508: the alive values of mailbox 5. -/
theorem test_alive_values : (aliveCheck 16 0xFFFE 0xFFFF, aliveCheck 16 0xFFFF 0, aliveCheck 16 0 0, aliveCheck 16 2 0x8002, aliveCheck 16 0x8002 3)
    = (.inOrder, .inOrder, .repeated, .skip, .backward) := by decide +kernel

/-- The example of R61: station 5 of DIE0 (position 5) and logical station 40 of DIE2 (position 43): 45 cycles for a read, 23 for a tally signal. -/
theorem test_route_example : (route 5 (2 * 64 + 43)).length = 16 ∧ readCycles 5 (2 * 64 + 43) = 45 ∧ writeCycles 5 (2 * 64 + 43) = 23 := by decide +kernel

/-- R147: an addition wraps at 64 bits. -/
theorem test_add_wraps : after (.addI (cSlotOf 0x01 31 1 2 0)) (running (twoRegs 7 (2 ^ 64 - 1))) (fun b => sreg (stn b 0) 31) = some 6 := by
  decide +kernel

/-- R147: S1 minus S2, not the other way round. -/
theorem test_sub_order : after (.subI (cSlotOf 0x02 31 1 2 0)) (running (twoRegs 7 2)) (fun b => sreg (stn b 0) 31) = some 5 := by decide +kernel

/-- R630: a drain begins in state 1 and DRAIN_CHANGE (27) is raised. -/
theorem test_drain_begins : after (.drainBegin 15) (ofBody (asked 0x0903 [1, 0, 0, 0, 0, 0, 0, 0] Body.reset))
    (fun b => (b.rack.drain, bit (getF b R.IRQ_CAUSE.cause 0) 27)) = some (1, true) := by decide +kernel

end Sys2Proof.Tests
end

/-! SUPPORT. What a held bundle of one slot shows, the legal form of a C slot, and the station's own tallies (O13). -/

namespace Sys2Proof.Machine

/-- The fields that show a wait, where the station has taken no exception (R76, R151, R165). -/
theorem showHold_eq (st : Nat) (hs : List Hold) (b : Body) (h : getF b R.STN_STATUS.state st ≠ 6) :
    showHold st hs b = setF (setFlag (setF (setFlag (setFlag b R.STN_SEQ_STATUS.fence_wait st (hs.contains .fence))
      R.STN_SEQ_STATUS.tally_wait st (waitTally hs).isSome) R.STN_SEQ_STATUS.wait_tally st ((waitTally hs).getD 0))
      R.STN_SEQ_STATUS.barrier_wait st (hs.any Hold.onBarrier)) R.STN_STATUS.state st
      (if (waitTally hs).isSome || hs.any Hold.onBarrier then 4 else 3) := by
  refine if_neg ?_
  simpa (disch := decide) only [setFlag, getF_setF_field] using h

theorem getF_showHold_state (st : Nat) (hs : List Hold) (b : Body) (h : getF b R.STN_STATUS.state st ≠ 6) :
    getF (showHold st hs b) R.STN_STATUS.state st = if (waitTally hs).isSome || hs.any Hold.onBarrier then 4 else 3 := by
  rw [showHold_eq st hs b h, getF_setF_same]
  split <;> rfl

theorem flagF_showHold_tally_wait (st : Nat) (hs : List Hold) (b : Body) (h : getF b R.STN_STATUS.state st ≠ 6) :
    flagF (showHold st hs b) R.STN_SEQ_STATUS.tally_wait st = (waitTally hs).isSome := by
  rw [showHold_eq st hs b h]
  simp (disch := decide) only [flagF, setFlag, getF_setF_field, getF_setF_same]
  cases (waitTally hs).isSome <;> rfl

theorem getF_showHold_wait_tally (st : Nat) (hs : List Hold) (b : Body) (h : getF b R.STN_STATUS.state st ≠ 6) :
    getF (showHold st hs b) R.STN_SEQ_STATUS.wait_tally st = (waitTally hs).getD 0 % 4096 := by
  rw [showHold_eq st hs b h]
  simp (disch := decide) only [setFlag, getF_setF_field, getF_setF_same]
  rfl

/-- Whatever a hold shows, the pc stays and no register but issueFields of the station changes. -/
theorem showHold_frame (st : Nat) (hs : List Hold) (b : Body) (h : getF b R.STN_STATUS.state st ≠ 6) :
    getF (showHold st hs b) R.STN_SEQ_PC.pc st = getF b R.STN_SEQ_PC.pc st
      ∧ RegsBut issueFields st b (showHold st hs b)
      ∧ Only [.stations, .regs, .free] b (showHold st hs b)
      ∧ ∀ y, stn (showHold st hs b) y = stn b y := by
  rw [showHold_eq st hs b h]
  refine ⟨?_, ?_, ?_, fun _ => rfl⟩
  · simp (disch := decide) only [setFlag, getF_setF_field]
  · exact (((((RegsBut.refl _ _ _).setF _ _ (by decide) (by decide)).setF _ _ (by decide) (by decide)).setF _ _ (by decide)
      (by decide)).setF _ _ (by decide) (by decide)).setF _ _ (by decide) (by decide)
  · exact (((((Only.refl _ _).setFlag _ _ _ (by decide)).setFlag _ _ _ (by decide)).setF _ _ _ (by decide)).setFlag _ _ _
      (by decide)).setF _ _ _ (by decide)

/-- A station that issues has no exception to show. -/
theorem state_ne_of_alone {sl : Slot} {b : Body} (ha : alone sl b = true) : getF b R.STN_STATUS.state sl.st ≠ 6 := by
  obtain ⟨_, _, _, hi, _⟩ := (alone_iff _ _).mp ha
  intro h
  simp [issuing, h] at hi

/-- Presenting a whole bundle and fetching it changes no station and no part but the count of free values. -/
theorem readyBody_frame (ix : Nat) (f : Body → Station → SlotRes) (sl : Slot) (b : Body) (ha : alone sl b = true) :
    (readyBody ix f sl b).regs = b.regs ∧ Only [.stations, .regs, .free] b (readyBody ix f sl b)
      ∧ ∀ y, stn (readyBody ix f sl b) y = stn b y := by
  obtain ⟨_, _, hopen, _, _⟩ := (alone_iff _ _).mp ha
  refine ⟨rfl, fun p => ?_, fun y => ?_⟩
  · cases p <;> first | exact .inl (by decide) | exact .inr rfl
  · show stn (updStn (updStn { b with free := b.free + 1 } sl.st _) sl.st (fun t => { t with opened := [] })) y = stn b y
    by_cases hy : y = sl.st
    · subst hy
      rw [stn_updStn_same, stn_updStn_same, ← hopen]
      rfl
    · rw [stn_updStn_ne _ _ _ _ hy, stn_updStn_ne _ _ _ _ hy]
      rfl

/-- A bundle of one slot that waits for more than the arrival of a bar.sync shows why and does nothing else. -/
theorem issueBundle_one_held (st : Nat) (o : OpenSlot) (b c : Body) (effs : List Eff) (hs : List Hold)
    (hc : c = updStn b st (fun t => { t with opened := [] })) (ho : (stn b st).opened = [o]) (hr : o.res = ⟨effs, [], hs⟩)
    (hn : hs ≠ []) (hsync : syncArrival hs = none) (hi : issuing c st = true)
    (hb : SMap.get (stn c st).badIstore [] (getF c R.STN_SEQ_PC.pc st) = []) :
    issueBundle st b = showHold st hs { c with free := c.free + 4 } := by
  unfold issueBundle
  rw [← hc, if_pos hi, fetch_readable _ _ hb, ho]
  simp [hr, hn, hsync]

/-- A whole bundle of one slot that is held shows why and does nothing else. -/
theorem onSlot_held (ix op : Nat) (f : Body → Station → SlotRes) (sl : Slot) (s : State) (effs : List Eff) (hs : List Hold)
    (ha : alone sl s.body = true) (hop : bits sl.w 0 8 = op) (hf : f s.body (stn s.body sl.st) = ⟨effs, [], hs⟩)
    (hn : hs ≠ []) (hsync : syncArrival hs = none) :
    onSlot ix op f sl s = .next { s with body := showHold sl.st hs (readyBody ix f sl s.body) } := by
  obtain ⟨hst, hlast, hopen, hiss, hbad⟩ := (alone_iff _ _).mp ha
  unfold onSlot lift presentSlot
  rw [hst, if_neg (by decide), if_pos hop, if_pos hlast]
  congr 2
  refine issueBundle_one_held sl.st ⟨ix, sl.w, f s.body (stn s.body sl.st)⟩ _ _ effs hs rfl ?_ hf hn hsync ?_ ?_
  · rw [stn_updStn_same]
    show List.filter _ (stn s.body sl.st).opened ++ _ = _
    rw [hopen]; rfl
  · rw [← hiss]
    unfold issuing
    rw [stn_updStn_same, stn_updStn_same]
    rfl
  · rw [stn_updStn_same, stn_updStn_same]
    exact hbad

/-- A command that is a held bundle of one slot waits, and shows what its hold shows. -/
theorem waits_of_held {c : Instr} {ix op : Nat} {f : Body → Station → SlotRes} {sl : Slot} {s : State} {effs : List Eff}
    {hs : List Hold} {P : State → Prop} (hx : Sys2Proof.Machine.exec c s = onSlot ix op f sl s) (ha : alone sl s.body = true)
    (hop : bits sl.w 0 8 = op) (hf : f s.body (stn s.body sl.st) = ⟨effs, [], hs⟩) (hn : hs ≠ []) (hsync : syncArrival hs = none)
    (hP : ∀ b, getF b R.STN_STATUS.state sl.st ≠ 6 → P { s with body := showHold sl.st hs b }) : Waits c sl s P := by
  obtain ⟨rregs, ronly, rstn⟩ := readyBody_frame ix f sl s.body ha
  have h6 : getF (readyBody ix f sl s.body) R.STN_STATUS.state sl.st ≠ 6 := by
    rw [getF_congr _ _ _ _ rregs]
    exact state_ne_of_alone ha
  obtain ⟨hpc, hregs, honly, hstn⟩ := showHold_frame sl.st hs (readyBody ix f sl s.body) h6
  exact ⟨_, hx.trans (onSlot_held ix op f sl s effs hs ha hop hf hn hsync), rfl, rfl, ronly.trans honly,
    fun y => (hstn y).trans (rstn y), hpc, ((RegsBut.refl _ _ _).of_regs rregs).trans hregs, hP _ h6⟩

/-- A whole bundle of one slot that has no effect of its own issues. -/
theorem onSlot_noEffect (ix op : Nat) (f : Body → Station → SlotRes) (sl : Slot) (s : State) (hix : ix < 4)
    (ha : alone sl s.body = true) (hop : bits sl.w 0 8 = op) (hf : f s.body (stn s.body sl.st) = ⟨[], [], []⟩) :
    ∃ t, onSlot ix op f sl s = .next t ∧ Issued [] sl s t (stn s.body sl.st) := by
  obtain ⟨c, hx, hadv⟩ := onSlot_advanced ix op f sl s [] hix ha hop hf rfl
  exact ⟨_, hx, hadv.issued_nil⟩

/-- Scalar registers that are still being written are the only hold of a list of scalar sources. -/
theorem sourceHolds_scalar_eq_nil (t : Station) (ss : List Nat) :
    sourceHolds t ss [] [] = [] ↔ ∀ r ∈ ss, pendingS t r = false := by
  simp [sourceHolds]

theorem sourceHolds_scalar_mono {t : Station} {ss rs : List Nat} (h : sourceHolds t ss [] [] = []) (hsub : rs ⊆ ss) :
    sourceHolds t rs [] [] = [] :=
  (sourceHolds_scalar_eq_nil t rs).mpr fun r hr => (sourceHolds_scalar_eq_nil t ss).mp h r (hsub hr)

/-- A C slot of legal fields whose sources are written does what its operation does. -/
theorem cSlot_legal {w : Nat} {t : Station} {fields : List (Nat × Nat)} {srcs : List Nat} (r : SlotRes)
    (hw : onlyFields w ((0, 8) :: fields) = true) (hsrc : sourceHolds t srcs [] [] = []) : cSlot w t fields srcs r = r := by
  simp [cSlot, hw, hsrc, SlotRes.hold]

/-- The loop stack is no scalar register. -/
theorem setS_loops (x : Station) (l : List LoopEntry) (r v : Nat) :
    setS { x with loops := l } r v = { setS x r v with loops := l } := by
  unfold setS
  split <;> rfl

/-- A signal to destination 0 that is no release is added to the station's own tally at issue (R150, R216). -/
theorem applyEff_tallySig_own (st pc ix n v : Nat) (b : Body) :
    applyEff st pc ix (.tallySig .own n v false) b = updStn b st (fun t => setTally t n (tally t n + v)) := rfl

/-- The value 0 names the issuing station itself (R150). -/
theorem sigDest_zero (b : Body) : sigDest b 0 = some .own := rfl

/-- A slot that takes effect once its holds are gone. -/
theorem SlotRes.ok_hold (effs : List Eff) (hs : List Hold) : (SlotRes.ok effs).hold hs = ⟨effs, [], hs⟩ := rfl

/-- What a legal tally.wait comes to once its source is written: no effect, and a hold until its tally is satisfied (R151). -/
theorem tallyWaitSlot_legal {w : Nat} {t : Station} (hw : onlyFields w ((0, 8) :: tvFields w) = true)
    (hsrc : sourceHolds t [csb w] [] [] = []) :
    tallyWaitSlot w t
      = ⟨[], [], if tallySatisfied t (ctally w) (tallyValue w t) then [] else [.tally (ctally w)]⟩ := by
  unfold tallyWaitSlot
  rw [cSlot_legal _ hw hsrc, SlotRes.ok_hold]

/-- What a legal tally.sig to destination 0 comes to once its sources are written (R150). -/
theorem tallySigSlot_own {w : Nat} {b : Body} {t : Station}
    (hw : onlyFields w ([(0, 8), (13, 5), (24, 1)] ++ tvFields w) = true) (hsrc : sourceHolds t [csa w, csb w] [] [] = [])
    (hdest : sreg t (csa w) = 0) :
    tallySigSlot w b t = ⟨[.tallySig .own (ctally w) (tallyValue w t) (!bit w 24)], [], []⟩ := by
  unfold tallySigSlot
  rw [cSlot_legal (fields := [(13, 5), (24, 1)] ++ tvFields w) _ hw hsrc, hdest, sigDest_zero]
  rfl

section OwnTally

variable {sl : Slot} {s : State} (ha : alone sl s.body = true)
  (hsrc : sourceHolds (stn s.body sl.st) [csa sl.w, csb sl.w, csd sl.w] [] [] = [])
include ha hsrc

theorem tallySet_retires (hop : bits sl.w 0 8 = 0x32) (hw : onlyFields sl.w ((0, 8) :: tvFields sl.w) = true) :
    Retires (.tallySet sl) sl s (setTally (stn s.body sl.st) (ctally sl.w) (tallyValue sl.w (stn s.body sl.st))) :=
  onSlot_upd 3 0x32 _ sl s _ (fun t => setTally t (ctally sl.w) (tallyValue sl.w (stn s.body sl.st))) (by decide) ha hop
    (cSlot_legal _ hw (sourceHolds_scalar_mono hsrc (by simp))) rfl (fun _ _ => rfl) (fun _ _ => rfl)

theorem tallyRd_retires (hop : bits sl.w 0 8 = 0x33) (hw : onlyFields sl.w [(0, 8), (8, 5), (32, 12)] = true) :
    Retires (.tallyRd sl) sl s (setS (stn s.body sl.st) (csd sl.w) (tally (stn s.body sl.st) (ctally sl.w))) :=
  onSlot_upd 3 0x33 _ sl s _ (fun t => setS t (csd sl.w) (tally (stn s.body sl.st) (ctally sl.w))) (by decide) ha hop
    (cSlot_legal _ hw (sourceHolds_scalar_mono hsrc (by simp))) rfl (fun _ _ => rfl) (fun _ _ => setS_loops _ _ _ _)

theorem tallyWait_retires (hop : bits sl.w 0 8 = 0x31) (hw : onlyFields sl.w ((0, 8) :: tvFields sl.w) = true)
    (hsat : tallySatisfied (stn s.body sl.st) (ctally sl.w) (tallyValue sl.w (stn s.body sl.st)) = true) :
    Retires (.tallyWait sl) sl s (stn s.body sl.st) :=
  onSlot_noEffect 3 0x31 _ sl s (by decide) ha hop (by
    rw [tallyWaitSlot_legal hw (sourceHolds_scalar_mono hsrc (by simp)), if_pos hsat])

theorem tallyWait_waits (hop : bits sl.w 0 8 = 0x31) (hw : onlyFields sl.w ((0, 8) :: tvFields sl.w) = true)
    (hsat : tallySatisfied (stn s.body sl.st) (ctally sl.w) (tallyValue sl.w (stn s.body sl.st)) = false) :
    Waits (.tallyWait sl) sl s (fun u => getF u.body R.STN_STATUS.state sl.st = 4
      ∧ flagF u.body R.STN_SEQ_STATUS.tally_wait sl.st = true
      ∧ getF u.body R.STN_SEQ_STATUS.wait_tally sl.st = ctally sl.w) := by
  have hheld : tallyWaitSlot sl.w (stn s.body sl.st) = ⟨[], [], [.tally (ctally sl.w)]⟩ := by
    rw [tallyWaitSlot_legal hw (sourceHolds_scalar_mono hsrc (by simp)), if_neg (by simp [hsat])]
  have hnum : ctally sl.w % 4096 = ctally sl.w := Nat.mod_mod _ _
  refine waits_of_held (f := fun _ t => tallyWaitSlot sl.w t) rfl ha hop hheld (by simp) rfl fun b h6 => ⟨?_, ?_, ?_⟩
  · exact getF_showHold_state _ _ _ h6
  · exact flagF_showHold_tally_wait _ _ _ h6
  · exact (getF_showHold_wait_tally _ _ _ h6).trans hnum

theorem tallySig_own_retires (hop : bits sl.w 0 8 = 0x30)
    (hw : onlyFields sl.w ([(0, 8), (13, 5), (24, 1)] ++ tvFields sl.w) = true) (hnr : bit sl.w 24 = true)
    (hdest : sreg (stn s.body sl.st) (csa sl.w) = 0) :
    Retires (.tallySig sl) sl s (setTally (stn s.body sl.st) (ctally sl.w)
      (tally (stn s.body sl.st) (ctally sl.w) + tallyValue sl.w (stn s.body sl.st))) := by
  have hslot : tallySigSlot sl.w s.body (stn s.body sl.st)
      = ⟨[.tallySig .own (ctally sl.w) (tallyValue sl.w (stn s.body sl.st)) false], [], []⟩ := by
    rw [tallySigSlot_own hw (sourceHolds_scalar_mono hsrc (by simp)) hdest, hnr]
    rfl
  exact onSlot_upd 3 0x30 (fun b t => tallySigSlot sl.w b t) sl s _
    (fun t => setTally t (ctally sl.w) (tally t (ctally sl.w) + tallyValue sl.w (stn s.body sl.st))) (by decide) ha hop hslot rfl
    (fun _ _ => applyEff_tallySig_own _ _ _ _ _ _) (fun _ _ => rfl)

end OwnTally

/-- Settles O13: each tally command is a legal C slot whose sources are written; it updates its station alone, or it has no
effect and is held by the tally it waits on. -/
theorem ownTallies : Obligations.OwnTallies := by
  intro sl s ha t n v pc hsrc
  exact ⟨tallySet_retires ha hsrc, tallyRd_retires ha hsrc, tallyWait_retires ha hsrc, tallyWait_waits ha hsrc,
    tallySig_own_retires ha hsrc⟩

end Sys2Proof.Machine

/-! SUPPORT. What the answer to a mailbox command leaves of the registers, and the cap a party places while three converter
cells carry the input (O56). -/

namespace Sys2Proof.Machine

/-- The register fields that finishing a command may write: the mailbox's state and time, and the causes (R507, R509). -/
def answerFields : List Field := [R.MBX_STATUS.state, R.MBX_TIME.last_us, R.IRQ_CAUSE.cause]

section FinishRegisters

variable {f : Field} {j : Nat} (hf : f.idx < 1024) (hn : f.idx ∉ answerFields.map Field.idx)
include hf hn

theorem getF_setF_answerField {g : Field} (hg : g ∈ answerFields) (b : Body) (i v : Nat) : getF (setF b g i v) f j = getF b f j :=
  getF_setF_field b g f i j v (by revert g; decide) hf fun e => hn (e ▸ List.mem_map_of_mem hg)

theorem getF_raiseVec (v : Nat) (b : Body) : getF (raiseVec v b) f j = getF b f j := by
  have hset := getF_setF_answerField (j := j) hf hn (g := R.IRQ_CAUSE.cause) (by decide) b 0 (setBit (getF b R.IRQ_CAUSE.cause 0) v true)
  unfold raiseVec sendVector
  dsimp only
  split
  · rfl
  · split
    · exact hset
    · split <;> exact hset

theorem getF_answer (m st : Nat) (body : List Byte) (b : Body) : getF (answer m st body b) f j = getF b f j := by
  unfold answer
  split
  · rfl
  · have hstate := fun b => getF_setF_answerField (j := j) hf hn (g := R.MBX_STATUS.state) (by decide) b m 3
    have htime := fun b => getF_setF_answerField (j := j) hf hn (g := R.MBX_TIME.last_us) (by decide) b m
    dsimp only
    split
    · split
      · rw [htime, hstate, getF_updMbx]
      · rw [getF_raiseVec hf hn, htime, hstate, getF_updMbx]
    · rw [getF_emit, htime, hstate, getF_updMbx]

end FinishRegisters

@[simp] theorem logFrom_regs (origin cls : Nat) (payload : List Byte) (b : Body) : (logFrom origin cls payload b).regs = b.regs := by
  unfold logFrom
  split <;> rfl

@[simp] theorem cmdRecord_regs (cls m status : Nat) (b : Body) : (cmdRecord cls m status b).regs = b.regs := by
  unfold cmdRecord
  split
  · rfl
  · exact logFrom_regs _ _ _ _

/-- Finishing a command leaves every register field but its own as the command left it. -/
theorem getF_finish {f : Field} {j : Nat} (hf : f.idx < 1024) (hn : f.idx ∉ answerFields.map Field.idx) (m : Nat) (r : Reply) (b : Body) :
    getF (finish m r b) f j = getF b f j := by
  cases r with
  | ok body =>
    refine (getF_answer hf hn _ _ _ _).trans ?_
    split
    · rfl
    · exact getF_congr _ _ _ _ (cmdRecord_regs _ _ _ _)
  | no st off d => exact getF_answer hf hn _ _ _ _
  | later => rfl

/-- A command asked for with the selected action is in execution (R509). -/
theorem inExecution_of_asked {m op : Nat} {t : Taken} {b : Body} {sel : List Byte → Bool} (h : Asked m op t b) (hsel : sel t.body = true) :
    inExecution b m op sel = some t.body := by
  obtain ⟨-, htaken, hop, -, hsh⟩ := h
  simp [inExecution, htaken, hop, hsel, hsh]

/-- What a command beside the stacks does when it is asked for: its effects, then its answer (R509 step 3). -/
theorem commandB_of_asked {m op : Nat} {t : Taken} {s : State} {sel : List Byte → Bool} (f : List Byte → Body → Reply × Body)
    (h : Asked m op t s.body) (hsel : sel t.body = true) :
    commandB m op sel f s = { s with body := finish m (f t.body s.body).1 (f t.body s.body).2 } := by
  simp only [commandB, command, inExecution_of_asked h hsel]

/-- A block that passes uses up its nonce and hands the command on to its meaning (R526). -/
theorem signed_of_pass {m op : Nat} {permitted : List Nat} {f : Nat → List Byte → Body → Reply × Body} {body : List Byte} {b : Body}
    (h : blockFails b op permitted body = none) :
    signed m op permitted f body b
      = f (bfield body 8 1) body (useUp [bfield body 8 1] (bfield body 8 1) (bslice body 28 32) (bfield body 20 8) b) := by
  simp only [signed, h]

@[simp] theorem getF_useUp (parties : List Nat) (party : Nat) (v : List Byte) (q : Nat) (b : Body) (f : Field) (j : Nat) :
    getF (useUp parties party v q b) f j = getF b f j := rfl

@[simp] theorem threeCells_useUp (parties : List Nat) (party : Nat) (v : List Byte) (q : Nat) (b : Body) :
    threeCells (useUp parties party v q b) = threeCells b := rfl

/-- A cap the input can follow is the one that COX_CAP shows, whatever the generator of the input does on it (R394). -/
theorem getF_capWrite {w : Nat} (hw : w = 0 ∨ 1200 ≤ w ∧ w ≤ 10500) (b : Body) : getF (capWrite w b) R.COX_CAP.cap_w 16 = w := by
  have other : ∀ (b : Body) (g : Field) (i v : Nat), g.idx < 1024 → R.COX_CAP.cap_w.idx ≠ g.idx →
      getF (setF b g i v) R.COX_CAP.cap_w 16 = getF b R.COX_CAP.cap_w 16 :=
    fun b g i v hg hne => getF_setF_field b g _ i 16 v hg (by decide) hne
  have hput : ∀ (b : Body) (x : Nat), getF (pgPut 16 0 x b) R.COX_CAP.cap_w 16 = getF b R.COX_CAP.cap_w 16 := by
    intro b x
    simp only [pgPut, setFlag]
    iterate 4 rw [other _ _ _ _ (by decide) (by decide)]
  have hset : getF (setFlag (setFlag (setF b R.COX_CAP.cap_w 16 w) R.COX_CAP.reached 16 false) R.LDG_STATUS.cap_active 0 (w != 0))
      R.COX_CAP.cap_w 16 = w := by
    simp only [setFlag]
    iterate 2 rw [other _ _ _ _ (by decide) (by decide)]
    exact (getF_setF_same _ _ _ _).trans (Nat.mod_eq_of_lt (show w < 2 ^ 14 by omega))
  unfold capWrite
  rw [if_neg (by omega)]
  dsimp only
  split
  · exact (hput _ _).trans hset
  · exact hset

/-- While three converter cells carry the input and the module has no cap of its own yet, a party's cap above 8 400 W brings the
module's own cap into being, and 8 400 W is the cap in force (R343, R539). -/
theorem getF_capEmergency_threeCells {m signer : Nat} {body : List Byte} {b : Body} (h3 : threeCells b = true)
    (hlo : 8400 < bfield body 0 2) (hhi : bfield body 0 2 ≤ 10500) (hcur : getF b R.COX_CAP.cap_w 16 = 0) :
    getF (capEmergency m signer body b).2 R.COX_CAP.cap_w 16 = 8400 := by
  unfold capEmergency
  dsimp only
  rw [if_neg (by omega), if_neg (by omega), if_pos ⟨h3, hlo⟩]
  have hown : capInForce (updPath (fun p => { p with selfCap := true }) b) signer (bfield body 0 2) = (8400, 3) :=
    if_pos ⟨rfl, .inr (by omega)⟩
  rw [hown]
  exact (getF_congr _ _ _ _ (logFrom_regs _ _ _ _)).trans (getF_capWrite (by omega) _)

/-- The base point of P-384 as a public key: its secret key is 1. -/
def basePointKey : List Byte := beBytes 48 p384G.1 ++ beBytes 48 p384G.2

/-- A CAP_EMERGENCY of 9 000 W signed by the provider with secret key 1 and k = 1, for serial 0, sequence 1 and a nonce of zeros. -/
def cap9000 : Taken :=
  { opcode := 0x0202, alive := 0, noIrq := true, tag := 0, at_ := 0
    body := leBytes 2 9000 ++ leBytes 6 0 ++ leBytes 1 1 ++ leBytes 3 0 ++ leBytes 8 0 ++ leBytes 8 1 ++ List.replicate 32 0 ++ beBytes 48 p384G.1
      ++ beBytes 48 0xd7c2b0da8b75689c3f80b9faeebd9bcaf2cc7fa69e6fc78882c141befa673d070f02290377c04a96fb082a199e22e101 }

/-- The module runs under an active Shepherd with converter cells 0 and 1 removed and no cap, and mailbox 0 executes `cap9000`. -/
def cap9000Body : Body :=
  let b := setF (setF Body.reset R.SHP_STATUS.a_state 0 4) R.GBL_STATUS.power_state 0 7
  updMbx 0 (fun q => { q with taken := some cap9000 }) (updPath (fun p => { p with removedCells := [0, 1] })
    (updTrust (fun t => { t with provider := basePointKey, nonces := [⟨1, List.replicate 32 0, 0⟩] }) b))

theorem cap9000_asked : Asked 0 0x0202 cap9000 cap9000Body := ⟨by decide, by decide +kernel, rfl, rfl, by decide +kernel⟩

theorem cap9000_passes : blockFails cap9000Body 0x0202 [1, 2] cap9000.body = none := by decide +kernel

theorem cap9000_watts : bfield cap9000.body 0 2 = 9000 := by decide +kernel

theorem cap9000_noCap : getF cap9000Body R.COX_CAP.cap_w 16 = 0 := by decide +kernel

theorem cap9000_threeCells : threeCells cap9000Body = true := by decide +kernel

/-- The model answers the request for 9 000 W with a cap of 8 400 W in force. -/
theorem exec_cap9000 : ∃ b, exec (.capEmergency 0) { State.reset with body := cap9000Body } = .next { State.reset with body := b }
    ∧ getF b R.COX_CAP.cap_w 16 = 8400 := by
  refine ⟨_, congrArg Host.Outcome.next (commandB_of_asked _ cap9000_asked rfl), ?_⟩
  rw [getF_finish (by decide) (by decide), signed_of_pass cap9000_passes]
  refine getF_capEmergency_threeCells ?_ (by rw [cap9000_watts]; decide) (by rw [cap9000_watts]; decide) ?_
  · rw [threeCells_useUp, cap9000_threeCells]
  · rw [getF_useUp, cap9000_noCap]

/-- Refutes O56: its clause on CAP_EMERGENCY says that the cap in force is the one `capInForce` gives for the state before the
command. With two converter cells removed and no cap of its own yet, the module places its own cap of 8 400 W on a party's cap above
it (R343, and R539: the lower of the two is in force), so a cap of 9 000 W asked for by the provider leaves 8 400 W and not 9 000 W. -/
theorem not_changingCommands : ¬ Obligations.ChangingCommands := by
  intro h
  obtain ⟨-, -, -, -, -, -, ⟨-, -, hcap⟩, -⟩ := h 0 cap9000 { State.reset with body := cap9000Body }
  obtain ⟨u, hu, -, -, hclaimed, -⟩ := hcap cap9000_asked cap9000_passes (.inr (by rw [cap9000_watts]; decide)) cap9000_noCap
  obtain ⟨b, hb, hplaced⟩ := exec_cap9000
  obtain rfl : u = _ := Host.Outcome.next.inj (hu.symm.trans hb)
  have hforce : capInForce cap9000Body (bfield cap9000.body 8 1) (bfield cap9000.body 0 2) = (9000, 1) := by decide +kernel
  rw [hforce, hplaced] at hclaimed
  exact absurd hclaimed (by decide)

end Sys2Proof.Machine

/-! SUPPORT. The performance counters (O58): what an operation on them may change, the interrupt of the counters, and the rings. -/

namespace Sys2Proof.Machine

/-- Every field of every register but the fields `fs` reads in `c` as in `b`, in every copy of the register. -/
def FieldsBut (fs : List Field) (b c : Body) : Prop := ∀ f j, f.idx < 1024 → f.idx ∉ fs.map Field.idx → getF c f j = getF b f j

/-- Going from `b` to `c` changes no part but `ps` and no register field but `fs`; no message is withdrawn, and the vector of the
counters (R613) stays pending. -/
structure Touches (ps : List Part) (fs : List Field) (b c : Body) : Prop where
  only : Only ps b c
  fields : FieldsBut fs b c
  sent : b.sent ⊆ c.sent
  vector : bit (getF b R.IRQ_CAUSE.cause 0) 26 = true → bit (getF c R.IRQ_CAUSE.cause 0) 26 = true

namespace Touches

variable {ps qs : List Part} {fs gs : List Field} {b c d : Body}

theorem refl (ps : List Part) (fs : List Field) (b : Body) : Touches ps fs b b :=
  ⟨Only.refl ps b, fun _ _ _ _ => rfl, fun _ => id, id⟩

theorem trans (h : Touches ps fs b c) (k : Touches ps fs c d) : Touches ps fs b d :=
  ⟨h.only.trans k.only, fun f j hf hn => (k.fields f j hf hn).trans (h.fields f j hf hn), List.Subset.trans h.sent k.sent, k.vector ∘ h.vector⟩

theorem mono (h : Touches ps fs b c) (hp : ps ⊆ qs) (hf : fs ⊆ gs) : Touches qs gs b c :=
  ⟨h.only.mono fun _ => @hp _, fun f j hi hn => h.fields f j hi fun hm => hn (List.map_subset _ hf hm), h.sent, h.vector⟩

theorem ite {P : Prop} [Decidable P] (h : Touches ps fs b c) (k : Touches ps fs b d) : Touches ps fs b (if P then c else d) := by
  split <;> assumption

theorem setF (h : Touches ps fs b c) {f : Field} (hp : Part.regs ∈ ps) (hm : f ∈ fs) (hf : f.idx < 1024)
    (hc : R.IRQ_CAUSE.cause.idx ≠ f.idx) (i v : Nat) : Touches ps fs b (setF c f i v) where
  only := h.only.setF f i v hp
  fields g j hg hn :=
    (getF_setF_field _ _ _ _ _ _ hf hg fun e => hn (e ▸ List.mem_map_of_mem hm)).trans (h.fields g j hg hn)
  sent := h.sent
  vector hv := by rw [getF_setF_field _ _ _ _ _ _ hf (by decide) hc]; exact h.vector hv

theorem updPmc (h : Touches ps fs b c) (hp : Part.pmc ∈ ps) (g : PmcSide → PmcSide) : Touches ps fs b (updPmc g c) :=
  ⟨h.only.trans fun p => by cases p <;> first | exact .inl hp | exact .inr rfl, h.fields, h.sent, h.vector⟩

theorem emit (h : Touches ps fs b c) (hp : Part.sent ∈ ps) (m : Sent) : Touches ps fs b (emit m c) :=
  ⟨h.only.trans fun p => by cases p <;> first | exact .inl hp | exact .inr rfl, h.fields,
    List.Subset.trans h.sent (List.subset_cons_self _ _), h.vector⟩

theorem getF_eq (h : Touches ps fs b c) {f : Field} (hf : f.idx < 1024) (hn : f.idx ∉ fs.map Field.idx) (j : Nat) :
    getF c f j = getF b f j := h.fields f j hf hn

theorem flagF_eq (h : Touches ps fs b c) {f : Field} (hf : f.idx < 1024) (hn : f.idx ∉ fs.map Field.idx) (j : Nat) :
    flagF c f j = flagF b f j := congrArg (· == 1) (h.fields f j hf hn)

/-- A part that may not change is as before. -/
theorem same (h : Touches ps fs b c) {p : Part} (hp : p ∉ ps) : p.same b c := (h.only p).resolve_left hp

end Touches

theorem bit_eq_testBit (v k : Nat) : bit v k = v.testBit k := by
  rw [Nat.testBit_eq_decide_div_mod_eq]
  rfl

/-- Setting a bit leaves the bits above and below it. -/
theorem setBit_true (v k : Nat) : setBit v k true = 2 ^ k * (2 * (v / 2 ^ k / 2) + 1) + v % 2 ^ k := by
  have hv := Nat.div_add_mod v (2 ^ k)
  have hq := congrArg (2 ^ k * ·) (Nat.div_add_mod (v / 2 ^ k) 2)
  simp only [Nat.mul_add] at hq
  simp only [setBit, cond_true, Nat.mul_add, Nat.mul_one, Nat.mul_comm _ (2 ^ k)]
  omega

/-- A bit that has been set reads 1 in a field wide enough to hold it. -/
theorem bit_setBit_mod {k w : Nat} (v : Nat) (h : k < w) : bit (setBit v k true % 2 ^ w) k = true := by
  have hlow : v % 2 ^ k < 2 ^ k := Nat.mod_lt _ (Nat.two_pow_pos k)
  rw [bit_eq_testBit, Nat.testBit_mod_two_pow, setBit_true, Nat.testBit_two_pow_mul_add _ hlow]
  simp [h]

/-! ## The vector of the counters (R613) -/

/-- The body in which the cause of a vector has just been recorded (R504). -/
def withCause (v : Nat) (b : Body) : Body := setF b R.IRQ_CAUSE.cause 0 (setBit (getF b R.IRQ_CAUSE.cause 0) v true)

/-- A cause that is pending already raises nothing; another is recorded, and its message goes out unless it is masked (R504). -/
theorem raiseVec_cases (v : Nat) (b : Body) : bit (getF b R.IRQ_CAUSE.cause 0) v = true ∧ raiseVec v b = b
    ∨ raiseVec v b = withCause v b ∨ raiseVec v b = sendVector v (withCause v b) := by
  unfold raiseVec withCause
  dsimp only
  split
  next h => exact .inl ⟨h, rfl⟩
  next =>
    split
    · exact .inr (.inl rfl)
    · exact .inr (.inr rfl)

/-- Sending a vector's message, or keeping it pending, leaves the registers. -/
@[simp] theorem getF_sendVector (v : Nat) (b : Body) (f : Field) (j : Nat) : getF (sendVector v b) f j = getF b f j := by
  unfold sendVector
  split <;> rfl

theorem sendVector_only (v : Nat) (b : Body) : Only [.regs, .host, .sent] b (sendVector v b) := by
  intro p
  unfold sendVector
  split <;> cases p <;> simp [Part.same]

theorem sendVector_sent (v : Nat) (b : Body) : b.sent ⊆ (sendVector v b).sent := by
  unfold sendVector
  split
  · exact fun _ => id
  · exact List.subset_cons_self _ _

theorem bit_withCause {v : Nat} (b : Body) (h : v < 30) : bit (getF (withCause v b) R.IRQ_CAUSE.cause 0) v = true := by
  rw [withCause, getF_setF_same]
  exact bit_setBit_mod _ h

theorem pmcVector_pending (b : Body) : bit (getF (pmcVector b) R.IRQ_CAUSE.cause 0) 26 = true := by
  obtain ⟨hold, h⟩ | h | h := raiseVec_cases 26 b <;> rw [pmcVector, h]
  · exact hold
  · exact bit_withCause b (by decide)
  · rw [getF_sendVector]
    exact bit_withCause b (by decide)

theorem withCause_touches (b : Body) : Touches [.regs, .host, .sent] [R.IRQ_CAUSE.cause] b (withCause 26 b) where
  only := (Only.refl _ b).setF _ _ _ (by decide)
  fields f j hf hn := getF_setF_field _ _ _ _ _ _ (by decide) hf fun e => hn (e ▸ List.mem_map_of_mem (List.mem_singleton_self _))
  sent := by simp [withCause]
  vector _ := bit_withCause b (show 26 < 30 by decide)

theorem sendVector_touches (v : Nat) (b : Body) : Touches [.regs, .host, .sent] [R.IRQ_CAUSE.cause] b (sendVector v b) where
  only := sendVector_only v b
  fields f j _ _ := getF_sendVector v b f j
  sent := sendVector_sent v b
  vector h := by rwa [getF_sendVector]

theorem pmcVector_touches (b : Body) : Touches [.regs, .host, .sent] [R.IRQ_CAUSE.cause] b (pmcVector b) := by
  obtain ⟨-, h⟩ | h | h := raiseVec_cases 26 b <;> rw [pmcVector, h]
  · exact .refl _ _ b
  · exact withCause_touches b
  · exact (withCause_touches b).trans (sendVector_touches 26 _)

/-! ## Rings and their records (R607, R608) -/

/-- What writing a record to a ring may change: heads and tails, the counts of dropped records, the state of the buffer, the
vector. -/
def recordFields : List Field :=
  [R.PMC_TRC_HEAD.head, R.PMC_SMP_HEAD.head, R.PMC_TRC_TAIL.tail, R.PMC_SMP_TAIL.tail, R.PMC_STN_STATUS.dropped, R.PMC_DIE_STATUS.dropped,
   R.PMC_BUF_STATUS.full, R.PMC_BUF_STATUS.overwrote, R.IRQ_CAUSE.cause]

theorem ringHead_cases (ring : Nat) : ringHead ring = R.PMC_TRC_HEAD.head ∨ ringHead ring = R.PMC_SMP_HEAD.head := ite_eq_or_eq _ _ _

theorem ringTail_cases (ring : Nat) : ringTail ring = R.PMC_TRC_TAIL.tail ∨ ringTail ring = R.PMC_SMP_TAIL.tail := ite_eq_or_eq _ _ _

theorem ringSize_le (b : Body) (d ring : Nat) : ringSize b d ring ≤ 262144 := by
  have hunits : (ringUnits b d ring).length ≤ (List.range 4).length := List.length_filter_le _ _
  rw [List.length_range] at hunits
  unfold ringSize
  omega

/-- The offset behind a record fits the head register. -/
theorem ring_next_mod {b : Body} {d ring : Nat} (h : ringSize b d ring ≠ 0) (x : Nat) :
    x % ringSize b d ring % 2 ^ 18 = x % ringSize b d ring := by
  have hlt : x % ringSize b d ring < ringSize b d ring := Nat.mod_lt _ (by omega)
  exact Nat.mod_eq_of_lt (by have := ringSize_le b d ring; omega)

/-- The units of a ring depend on the claims of PMC_BUF_CFG alone (R607). -/
theorem ringUnits_eq {ps : List Part} {fs : List Field} {b c : Body} (h : Touches ps fs b c)
    (ht : R.PMC_BUF_CFG.trace_units.idx ∉ fs.map Field.idx) (hs : R.PMC_BUF_CFG.sample_units.idx ∉ fs.map Field.idx) (d ring : Nat) :
    ringUnits c d ring = ringUnits b d ring := by
  unfold ringUnits
  split
  · rw [h.getF_eq (by decide) ht]
  · rw [h.getF_eq (by decide) hs]

theorem ringSize_eq {ps : List Part} {fs : List Field} {b c : Body} (h : Touches ps fs b c)
    (ht : R.PMC_BUF_CFG.trace_units.idx ∉ fs.map Field.idx) (hs : R.PMC_BUF_CFG.sample_units.idx ∉ fs.map Field.idx) (d ring : Nat) :
    ringSize c d ring = ringSize b d ring := by
  unfold ringSize
  rw [ringUnits_eq h ht hs]

/-- The counts of dropped records. -/
def droppedFields : List Field := [R.PMC_STN_STATUS.dropped, R.PMC_DIE_STATUS.dropped]

@[simp] theorem ringUnits_updPmc (f : PmcSide → PmcSide) (b : Body) (d ring : Nat) : ringUnits (updPmc f b) d ring = ringUnits b d ring := rfl

theorem dropRecord_touches (d ring lst : Nat) (b : Body) :
    Touches [.regs, .pmc] droppedFields b (dropRecord d ring lst b) := by
  have hlost := (Touches.refl [.regs, .pmc] droppedFields b).updPmc (by decide)
  unfold dropRecord addSat
  dsimp only
  split
  · exact (hlost _).setF (by decide) (by decide) (by decide) (by decide) _ _
  · exact (hlost _).setF (by decide) (by decide) (by decide) (by decide) _ _

/-- A dropped record leaves the bytes of the buffer. -/
@[simp] theorem dropRecord_buffer (d ring lst : Nat) (b : Body) : (dropRecord d ring lst b).pmc.buffer = b.pmc.buffer := by
  unfold dropRecord
  dsimp only
  split <;> rfl

/-- A saturating count goes up by one and stays at all ones. -/
theorem getF_addSat_same (b : Body) (f : Field) (i n : Nat) : getF (addSat b f i n) f i = min (getF b f i + n) (2 ^ f.width - 1) := by
  have hpos := Nat.two_pow_pos f.width
  exact (getF_setF_same _ _ _ _).trans (Nat.mod_eq_of_lt (by omega))

/-- A record of a station that is dropped is counted there (R608). -/
theorem dropRecord_station {d ring lst : Nat} (b : Body) (h : lst < 48) : getF (dropRecord d ring lst b) R.PMC_STN_STATUS.dropped (d * 48 + lst)
    = min (getF b R.PMC_STN_STATUS.dropped (d * 48 + lst) + 1) 65535 := by
  unfold dropRecord
  dsimp only
  rw [if_pos h]
  exact getF_addSat_same _ _ _ _

/-- A record of no station that is dropped is counted at the die (R608). -/
theorem dropRecord_die {d ring lst : Nat} (b : Body) (h : 48 ≤ lst) : getF (dropRecord d ring lst b) R.PMC_DIE_STATUS.dropped d
    = min (getF b R.PMC_DIE_STATUS.dropped d + 1) 65535 := by
  unfold dropRecord
  dsimp only
  rw [if_neg (by omega)]
  exact getF_addSat_same _ _ _ _

/-- A ring of no size, or a full one that does not wrap, drops the record (R608). -/
theorem ringWrite_full {d ring lst : Nat} {r : List Byte} {b : Body} (h : ringSize b d ring = 0
    ∨ (getF b (ringHead ring) d + 64) % ringSize b d ring = getF b (ringTail ring) d ∧ flagF b R.PMC_BUF_CFG.wrap d = false) :
    ringWrite d ring lst r b = dropRecord d ring lst b :=
  if_pos (h.imp_right fun ⟨hn, hw⟩ => ⟨hn, by rw [hw]; rfl⟩)

/-- The body in which a record has been stored at the head of a ring and the head moved on. -/
def stored (d ring : Nat) (r : List Byte) (b : Body) : Body :=
  setF (ringStore d ring (getF b (ringHead ring) d) r b) (ringHead ring) d ((getF b (ringHead ring) d + 64) % ringSize b d ring)

/-- What a record that has been stored may raise: the watermark's notice, and that the ring is full (R613). -/
theorem notices_touches {P Q : Prop} [Decidable P] [Decidable Q] (d : Nat) (b : Body) :
    Touches [.regs, .host, .sent] [R.PMC_BUF_STATUS.full, R.IRQ_CAUSE.cause] b
      (if Q then pmcVector (setFlag (if P then pmcVector b else b) R.PMC_BUF_STATUS.full d true) else if P then pmcVector b else b) := by
  have hvec : ∀ c, Touches [.regs, .host, .sent] [R.PMC_BUF_STATUS.full, R.IRQ_CAUSE.cause] c (pmcVector c) :=
    fun c => (pmcVector_touches c).mono (fun _ => id) (by simp)
  have hmark := (hvec b).ite (P := P) (.refl _ _ b)
  exact ((hmark.setF (by decide) (by decide) (by decide) (by decide) _ _).trans (hvec _)).ite hmark

/-- A record of a ring that has room is stored; what follows are the notices. -/
theorem ringWrite_room {d ring lst : Nat} {r : List Byte} {b : Body} (hs : ringSize b d ring ≠ 0)
    (hn : (getF b (ringHead ring) d + 64) % ringSize b d ring ≠ getF b (ringTail ring) d) :
    Touches [.regs, .host, .sent] [R.PMC_BUF_STATUS.full, R.IRQ_CAUSE.cause] (stored d ring r b) (ringWrite d ring lst r b) := by
  unfold ringWrite
  dsimp only
  rw [if_neg (not_or.mpr ⟨hs, fun h => hn h.1⟩), if_neg hn]
  exact notices_touches d _

theorem stored_touches (d ring : Nat) (r : List Byte) (b : Body) :
    Touches [.regs, .pmc] [R.PMC_TRC_HEAD.head, R.PMC_SMP_HEAD.head] b (stored d ring r b) := by
  have hbytes := (Touches.refl [.regs, .pmc] [R.PMC_TRC_HEAD.head, R.PMC_SMP_HEAD.head] b).updPmc (by decide)
  unfold stored
  obtain h | h := ringHead_cases ring <;> rw [h] <;> exact (hbytes _).setF (by decide) (by decide) (by decide) (by decide) _ _

theorem ringWrite_touches (d ring lst : Nat) (r : List Byte) (b : Body) :
    Touches [.regs, .host, .sent, .pmc] recordFields b (ringWrite d ring lst r b) := by
  have hstored : Touches [.regs, .host, .sent, .pmc] recordFields b (stored d ring r b) :=
    (stored_touches d ring r b).mono (by decide) (by decide)
  have hnotices : ∀ {P Q : Prop} [Decidable P] [Decidable Q] (c : Body), Touches [.regs, .host, .sent, .pmc] recordFields c
      (if Q then pmcVector (setFlag (if P then pmcVector c else c) R.PMC_BUF_STATUS.full d true) else if P then pmcVector c else c) :=
    fun c => (notices_touches d c).mono (by decide) (by decide)
  unfold ringWrite
  dsimp only
  refine .ite ((dropRecord_touches d ring lst b).mono (by decide) (by decide)) (.trans ?_ (hnotices _))
  refine .ite (.setF ?_ (by decide) (by decide) (by decide) (by decide) _ _) hstored
  obtain h | h := ringTail_cases ring <;> rw [h] <;> exact hstored.setF (by decide) (by decide) (by decide) (by decide) _ _

/-- The bytes of a stored record, and the head behind it. -/
theorem stored_pmc (d ring : Nat) (r : List Byte) (b : Body) :
    (stored d ring r b).pmc = (ringStore d ring (getF b (ringHead ring) d) r b).pmc := rfl

theorem getF_stored_head {d ring : Nat} {b : Body} (r : List Byte) (h : ringSize b d ring ≠ 0) :
    getF (stored d ring r b) (ringHead ring) d = (getF b (ringHead ring) d + 64) % ringSize b d ring := by
  have hwidth : (ringHead ring).width = 18 := by obtain e | e := ringHead_cases ring <;> rw [e] <;> rfl
  rw [stored, getF_setF_same, hwidth, ring_next_mod h]

theorem ringWrite_room_head {d ring lst : Nat} {r : List Byte} {b : Body} (hs : ringSize b d ring ≠ 0)
    (hn : (getF b (ringHead ring) d + 64) % ringSize b d ring ≠ getF b (ringTail ring) d) :
    getF (ringWrite d ring lst r b) (ringHead ring) d = (getF b (ringHead ring) d + 64) % ringSize b d ring := by
  rw [(ringWrite_room hs hn).getF_eq, getF_stored_head r hs] <;> obtain h | h := ringHead_cases ring <;> rw [h] <;> decide

theorem ringWrite_room_tail {d ring lst : Nat} {r : List Byte} {b : Body} (hs : ringSize b d ring ≠ 0)
    (hn : (getF b (ringHead ring) d + 64) % ringSize b d ring ≠ getF b (ringTail ring) d) :
    getF (ringWrite d ring lst r b) (ringTail ring) d = getF b (ringTail ring) d := by
  rw [(ringWrite_room hs hn).getF_eq, (stored_touches d ring r b).getF_eq] <;> obtain h | h := ringTail_cases ring <;> rw [h] <;> decide

theorem ringWrite_room_pmc {d ring lst : Nat} {r : List Byte} {b : Body} (hs : ringSize b d ring ≠ 0)
    (hn : (getF b (ringHead ring) d + 64) % ringSize b d ring ≠ getF b (ringTail ring) d) :
    (ringWrite d ring lst r b).pmc = (ringStore d ring (getF b (ringHead ring) d) r b).pmc :=
  ((ringWrite_room hs hn).same (p := .pmc) (by decide)).trans (stored_pmc d ring r b)

/-! ## Counters (R601, R605, R606) -/

/-- The fields that say whether an overflow is the trace trigger (R611). -/
def triggerFields : List Field := [R.PMC_TRIG.source, R.PMC_TRIG.die, R.PMC_TRIG.station, R.PMC_TRIG.counter, R.SHP_SYNCAUX.mode]

/-- What the proofs use of the fields of a counter page: a counter has 48 bits, every counter has its overflow bit, and counting
writes no field of another purpose. -/
structure PmcPage.Sound (pg : PmcPage) : Prop where
  countIdx : pg.count.idx < 1024
  countWidth : pg.count.width = 48
  overflowIdx : pg.overflow.idx < 1024
  overflowWidth : pg.n ≤ pg.overflow.width
  countApart : pg.count.idx ≠ pg.overflow.idx
  countKept : pg.count.idx ∉ recordFields.map Field.idx
  overflowKept : pg.overflow.idx ∉ recordFields.map Field.idx
  irqIdx : pg.irq.idx < 1024
  irqKept : pg.irq.idx ∉ [pg.count, pg.overflow].map Field.idx
  triggerKept : ∀ f ∈ triggerFields, f.idx ∉ [pg.count, pg.overflow].map Field.idx

theorem pageOf_sound (p : Nat) : (pageOf p).1.Sound := by
  unfold pageOf
  split
  · show stationPage.Sound
    constructor <;> decide
  · split
    · show diePage.Sound
      constructor <;> decide
    · show modulePage.Sound
      constructor <;> decide

/-- Where counter `k` of page `p` stands among the counters of pages of its kind. -/
def counterIx (p k : Nat) : Nat := (pageOf p).2 * (pageOf p).1.n + k

/-- An event, or a counted unit that ends with occupancy `occ`, counts at counter `k` of page `p` (R601). -/
def Counts (p k occ : Nat) (b : Body) : Prop :=
  let mode := getF b (pageOf p).1.mode (counterIx p k)
  getF b (pageOf p).1.event (counterIx p k) ≠ 0 ∧ (768 ≤ p ∨ (physOf b (p / 48) (p % 48)).isSome = true)
    ∧ (mode = 1 ∨ mode = 3 ∨ mode = 2 ∧ getF b (pageOf p).1.threshold (counterIx p k) < occ)

/-- The body in which counter `k` of page `p` has passed its end: it holds `v`, and its overflow bit is set. -/
def wrapped (p k v : Nat) (b : Body) : Body :=
  let c := setF b (pageOf p).1.count (counterIx p k) v
  setF c (pageOf p).1.overflow (pageOf p).2 (setBit (getF c (pageOf p).1.overflow (pageOf p).2) k true)

/-- The notices of an overflow: the vector where the counter asks for it, the pulse where it is the trace trigger (R611, R613). -/
def overflowNotices (p k : Nat) (b : Body) : Body :=
  let b := if flagF b (pageOf p).1.irq (counterIx p k) then pmcVector b else b
  if triggers b p k then emit (.pin "SYNC_AUX" 1) b else b

/-- What counter `k` of page `p` holds once it has passed its end (R605). -/
def reloadOf (p k : Nat) (b : Body) : Nat :=
  if getF b (pageOf p).1.mode (counterIx p k) = 3 then
    getF b (if p < 768 then R.PMC_S_RELOAD.reload else R.PMC_D_RELOAD.reload) (counterIx p k)
  else 0

section Counting

variable {p k occ cyc : Nat} {ex : Bool} {b : Body}

theorem not_bnot_decide_iff {P : Prop} [Decidable P] : ¬ (!decide P) = true ↔ P := by simp

/-- Of the counters a station's alone can be idle: its logical station may be absent (R599). -/
theorem not_idle_iff : ¬ (decide (p < 768) && (physOf b (p / 48) (p % 48)).isNone) = true
    ↔ 768 ≤ p ∨ (physOf b (p / 48) (p % 48)).isSome = true := by
  rw [Bool.and_eq_true, not_and_or, decide_eq_true_eq, Nat.not_lt, Bool.not_eq_true, ← Option.not_isSome, Bool.not_eq_false']

theorem countEvent_of_not_counts (h : ¬ Counts p k occ b) : countEvent p k occ cyc ex b = b := by
  refine if_pos (by_contra fun hg => h ?_)
  obtain ⟨hevent, hmode, hidle⟩ := (not_or.trans (and_congr_right' not_or)).mp hg
  exact ⟨hevent, not_idle_iff.mp hidle, not_bnot_decide_iff.mp hmode⟩

/-- Where an event counts, the counter goes up by one and what follows depends on whether it passes its end (R601, R605). -/
theorem countEvent_of_counts (h : Counts p k occ b) : countEvent p k occ cyc ex b =
    let n := overflowNotices p k (wrapped p k (reloadOf p k b) b)
    if getF b (pageOf p).1.count (counterIx p k) + 1 < 2 ^ 48 then
      setF b (pageOf p).1.count (counterIx p k) (getF b (pageOf p).1.count (counterIx p k) + 1)
    else if getF b (pageOf p).1.mode (counterIx p k) = 3 then overflowRecord p k cyc ex n else n := by
  obtain ⟨hevent, hserved, hmode⟩ := h
  exact (if_neg (not_or.mpr ⟨hevent, not_or.mpr ⟨not_bnot_decide_iff.mpr hmode, not_idle_iff.mpr hserved⟩⟩)).trans rfl

/-- A counter short of its end goes up by one and nothing else changes. -/
theorem countEvent_adds (h : Counts p k occ b) (hlt : getF b (pageOf p).1.count (counterIx p k) + 1 < 2 ^ 48) :
    countEvent p k occ cyc ex b = setF b (pageOf p).1.count (counterIx p k) (getF b (pageOf p).1.count (counterIx p k) + 1) :=
  (countEvent_of_counts h).trans (if_pos hlt)

theorem countEvent_passes_end (h : Counts p k occ b) (heq : getF b (pageOf p).1.count (counterIx p k) + 1 = 2 ^ 48) :
    countEvent p k occ cyc ex b = let n := overflowNotices p k (wrapped p k (reloadOf p k b) b)
      if getF b (pageOf p).1.mode (counterIx p k) = 3 then overflowRecord p k cyc ex n else n :=
  (countEvent_of_counts h).trans (if_neg heq.not_lt)

theorem wrapped_touches (v : Nat) : Touches [.regs] [(pageOf p).1.count, (pageOf p).1.overflow] b (wrapped p k v b) := by
  have hp := pageOf_sound p
  have hc : ∀ f : Field, f.idx ∉ recordFields.map Field.idx → R.IRQ_CAUSE.cause.idx ≠ f.idx := fun f hf e => hf (e ▸ by decide)
  exact ((Touches.refl _ _ b).setF (by decide) (by simp) hp.countIdx (hc _ hp.countKept) _ _).setF (by decide) (by simp) hp.overflowIdx
    (hc _ hp.overflowKept) _ _

theorem getF_wrapped_count (v : Nat) : getF (wrapped p k v b) (pageOf p).1.count (counterIx p k) = v % 2 ^ 48 := by
  have hp := pageOf_sound p
  unfold wrapped
  dsimp only
  rw [getF_setF_field _ _ _ _ _ _ hp.overflowIdx hp.countIdx hp.countApart, getF_setF_same, hp.countWidth]

theorem bit_wrapped_overflow (hk : k < (pageOf p).1.n) (v : Nat) :
    bit (getF (wrapped p k v b) (pageOf p).1.overflow (pageOf p).2) k = true := by
  unfold wrapped
  dsimp only
  rw [getF_setF_same]
  exact bit_setBit_mod _ (hk.trans_le (pageOf_sound p).overflowWidth)

/-- Whether an overflow is the trace trigger depends on PMC_TRIG and the mode of the pin alone (R611). -/
theorem triggers_eq {ps : List Part} {fs : List Field} {c : Body} (h : Touches ps fs b c) (hf : ∀ f ∈ triggerFields, f.idx ∉ fs.map Field.idx) :
    triggers c p k = triggers b p k := by
  have heq : ∀ f ∈ triggerFields, f.idx < 1024 → getF c f 0 = getF b f 0 := fun f hm hi => h.getF_eq hi (hf f hm) 0
  unfold triggers
  rw [heq R.PMC_TRIG.source (by decide) (by decide), heq R.PMC_TRIG.die (by decide) (by decide), heq R.PMC_TRIG.station (by decide) (by decide),
    heq R.PMC_TRIG.counter (by decide) (by decide), heq R.SHP_SYNCAUX.mode (by decide) (by decide)]

theorem overflowNotices_touches : Touches [.regs, .host, .sent] [R.IRQ_CAUSE.cause] b (overflowNotices p k b) := by
  have hvec := (pmcVector_touches b).ite (P := flagF b (pageOf p).1.irq (counterIx p k) = true) (.refl _ _ b)
  exact (hvec.emit (by decide) _).ite hvec

/-- An overflow of a counter with its interrupt raises the vector. -/
theorem overflowNotices_vector (h : flagF b (pageOf p).1.irq (counterIx p k) = true) :
    bit (getF (overflowNotices p k b) R.IRQ_CAUSE.cause 0) 26 = true := by
  unfold overflowNotices
  dsimp only
  rw [if_pos h]
  split
  · exact pmcVector_pending b
  · exact pmcVector_pending b

/-- An overflow that is the trace trigger pulses the pin. -/
theorem overflowNotices_pin (h : triggers b p k = true) : .pin "SYNC_AUX" 1 ∈ (overflowNotices p k b).sent := by
  have hvec := (pmcVector_touches b).ite (P := flagF b (pageOf p).1.irq (counterIx p k) = true) (.refl _ _ b)
  unfold overflowNotices
  dsimp only
  rw [if_pos ((triggers_eq hvec (by decide)).trans h)]
  exact List.mem_cons_self

theorem overflowNotices_quiet (hirq : flagF b (pageOf p).1.irq (counterIx p k) = false) (htrig : triggers b p k = false) :
    overflowNotices p k b = b := by
  simp [overflowNotices, hirq, htrig]

theorem overflowRecord_touches : Touches [.regs, .host, .sent, .pmc] recordFields b (overflowRecord p k cyc ex b) :=
  .ite ((dropRecord_touches _ _ _ b).mono (by decide) (by decide)) (ringWrite_touches _ _ _ _ b)

/-- What a counter holds and shows once it has passed its end, and the notices of it (R601, R605, R611, R613). -/
theorem countEvent_overflow (hk : k < (pageOf p).1.n) (h : Counts p k occ b)
    (heq : getF b (pageOf p).1.count (counterIx p k) + 1 = 2 ^ 48) :
    let c := countEvent p k occ cyc ex b
    getF c (pageOf p).1.count (counterIx p k) = reloadOf p k b % 2 ^ 48 ∧ bit (getF c (pageOf p).1.overflow (pageOf p).2) k = true
      ∧ (flagF b (pageOf p).1.irq (counterIx p k) = true → bit (getF c R.IRQ_CAUSE.cause 0) 26 = true)
      ∧ (triggers b p k = true → .pin "SYNC_AUX" 1 ∈ c.sent)
      ∧ (triggers b p k = false → flagF b (pageOf p).1.irq (counterIx p k) = false → getF b (pageOf p).1.mode (counterIx p k) ≠ 3 →
        c.sent = b.sent) := by
  have hp := pageOf_sound p
  have hwrap : Touches [.regs] _ b (wrapped p k (reloadOf p k b) b) := wrapped_touches _
  have hirq := hwrap.flagF_eq hp.irqIdx hp.irqKept (counterIx p k)
  have htrig := triggers_eq (p := p) (k := k) hwrap hp.triggerKept
  have hrecord : Touches [.regs, .host, .sent, .pmc] recordFields (overflowNotices p k (wrapped p k (reloadOf p k b) b))
      (countEvent p k occ cyc ex b) := by
    rw [countEvent_passes_end h heq]
    exact overflowRecord_touches.ite (.refl _ _ _)
  have hall := (overflowNotices_touches.mono (by decide) (by decide)).trans hrecord
  refine ⟨?_, ?_, fun hi => ?_, fun ht => ?_, fun ht hi hm => ?_⟩
  · rw [hall.getF_eq hp.countIdx hp.countKept, getF_wrapped_count]
  · rw [hall.getF_eq hp.overflowIdx hp.overflowKept, bit_wrapped_overflow hk]
  · exact hrecord.vector (overflowNotices_vector (hirq.trans hi))
  · exact hrecord.sent (overflowNotices_pin (htrig.trans ht))
  · rw [countEvent_passes_end h heq]
    dsimp only
    rw [if_neg hm, overflowNotices_quiet (hirq.trans hi) (htrig.trans ht)]
    exact hwrap.same (p := .sent) (by decide)

theorem reloadOf_mod : reloadOf p k b % 2 ^ 48 = if getF b (pageOf p).1.mode (counterIx p k) = 3 then
    getF b (if p < 768 then R.PMC_S_RELOAD.reload else R.PMC_D_RELOAD.reload) (counterIx p k) % 2 ^ 48 else 0 := by
  unfold reloadOf
  split <;> rfl

end Counting

/-- A write of a counter sets it and nothing else. -/
theorem setF_count_regsBut (p i v : Nat) (b : Body) : RegsBut [(pageOf p).1.count] i b (setF b (pageOf p).1.count i v) :=
  (RegsBut.refl _ _ b).setF _ _ (pageOf_sound p).countIdx (by simp)

theorem getF_setF_count (p i v : Nat) (b : Body) : getF (setF b (pageOf p).1.count i v) (pageOf p).1.count i = v % 2 ^ 48 := by
  rw [getF_setF_same, (pageOf_sound p).countWidth]

/-! ## Claims of buffers and timers (R511, R607) -/

theorem showClaims_touches (d : Nat) (b : Body) : Touches [.regs] [R.GBL_BUF_CLAIM.trace_units, R.GBL_BUF_CLAIM.sample_units,
    R.GBL_BUF_CLAIM.trace_timers, R.GBL_BUF_CLAIM.sample_timers] b (showClaims d b) := by
  unfold showClaims
  dsimp only
  iterate 4 refine .setF ?_ (by decide) (by decide) (by decide) (by decide) _ _
  exact .refl _ _ b

theorem refuseClaim_touches (d : Nat) (b : Body) :
    Touches [.regs, .host, .sent] [R.PMC_BUF_STATUS.refused, R.IRQ_CAUSE.cause] b (refuseClaim d b) :=
  .trans (.setF (.refl _ _ b) (by decide) (by decide) (by decide) (by decide) _ _) ((pmcVector_touches _).mono (by decide) (by decide))

/-- A refusal shows in the status of the buffer. -/
theorem getF_refuseClaim (d : Nat) (b : Body) : getF (refuseClaim d b) R.PMC_BUF_STATUS.refused d = 8 := by
  rw [refuseClaim, (pmcVector_touches _).getF_eq (by decide) (by decide), getF_setF_same]
  rfl

theorem refuseClaim_vector (d : Nat) (b : Body) : bit (getF (refuseClaim d b) R.IRQ_CAUSE.cause 0) 26 = true := pmcVector_pending _

/-- A write of a timer names a claimant while another has it (R607). -/
def TimerTaken (d t w : Nat) (b : Body) : Prop :=
  bits w 20 2 ≠ 3 ∧ bits w 20 2 ≠ 0 ∧ getF b R.PMC_TIMER.owner (d * 4 + t) ≠ 0 ∧ bits w 20 2 ≠ getF b R.PMC_TIMER.owner (d * 4 + t)

section Timer

variable {d t w : Nat} {b : Body}

/-- The timer's period after a write: reserved values are discarded (R12). -/
def withPeriod (i w : Nat) (b : Body) : Body := if bits w 0 20 ≤ 1000000 then setF b R.PMC_TIMER.period_us i (bits w 0 20) else b

/-- The timer's owner after a write that is not refused: the reserved value 3 is discarded (R12). -/
def withOwner (i w : Nat) (b : Body) : Body := if bits w 20 2 = 3 then b else setF b R.PMC_TIMER.owner i (bits w 20 2)

/-- A timer of one claimant is not given to another. -/
theorem timerWrite_taken (h : TimerTaken d t w b) : timerWrite d t w b = refuseClaim d b := if_pos h

theorem timerWrite_free (h : ¬ TimerTaken d t w b) :
    timerWrite d t w b = showClaims d (withOwner (d * 4 + t) w (withPeriod (d * 4 + t) w b)) := if_neg h

theorem bits_lt (v lo n : Nat) : bits v lo n < 2 ^ n := Nat.mod_lt _ (Nat.two_pow_pos n)

theorem withPeriod_touches (i w : Nat) (b : Body) : Touches [.regs] [R.PMC_TIMER.period_us] b (withPeriod i w b) :=
  .ite (.setF (.refl _ _ b) (by decide) (by decide) (by decide) (by decide) _ _) (.refl _ _ b)

theorem withOwner_touches (i w : Nat) (b : Body) : Touches [.regs] [R.PMC_TIMER.owner] b (withOwner i w b) :=
  .ite (.refl _ _ b) (.setF (.refl _ _ b) (by decide) (by decide) (by decide) (by decide) _ _)

theorem getF_withPeriod (i w : Nat) (b : Body) : getF (withPeriod i w b) R.PMC_TIMER.period_us i
    = if bits w 0 20 ≤ 1000000 then bits w 0 20 else getF b R.PMC_TIMER.period_us i := by
  unfold withPeriod
  split
  · exact (getF_setF_same _ _ _ _).trans (Nat.mod_eq_of_lt (bits_lt w 0 20))
  · rfl

theorem getF_withOwner (i w : Nat) (b : Body) : getF (withOwner i w b) R.PMC_TIMER.owner i
    = if bits w 20 2 = 3 then getF b R.PMC_TIMER.owner i else bits w 20 2 := by
  unfold withOwner
  split
  · rfl
  · exact (getF_setF_same _ _ _ _).trans (Nat.mod_eq_of_lt (bits_lt w 20 2))

theorem timerWrite_only (h : ¬ TimerTaken d t w b) : Only [.regs] b (timerWrite d t w b) := by
  rw [timerWrite_free h]
  exact ((withPeriod_touches _ w b).only.trans (withOwner_touches _ w _).only).trans (showClaims_touches d _).only

theorem getF_timerWrite_period (h : ¬ TimerTaken d t w b) : getF (timerWrite d t w b) R.PMC_TIMER.period_us (d * 4 + t)
      = if bits w 0 20 ≤ 1000000 then bits w 0 20 else getF b R.PMC_TIMER.period_us (d * 4 + t) := by
  rw [timerWrite_free h, (showClaims_touches d _).getF_eq (by decide) (by decide), (withOwner_touches _ w _).getF_eq (by decide) (by decide),
    getF_withPeriod]

theorem getF_timerWrite_owner (h : ¬ TimerTaken d t w b) : getF (timerWrite d t w b) R.PMC_TIMER.owner (d * 4 + t)
      = if bits w 20 2 = 3 then getF b R.PMC_TIMER.owner (d * 4 + t) else bits w 20 2 := by
  rw [timerWrite_free h, (showClaims_touches d _).getF_eq (by decide) (by decide), getF_withOwner,
    (withPeriod_touches _ w b).getF_eq (by decide) (by decide)]

end Timer

/-! ## Interval timers (R609, R610) -/

/-- What a tick of sample timer `t` does for logical station `l` of a die (R610). -/
def sampleStation (d t l : Nat) (b : Body) : Body :=
  let p := d * 48 + l
  match physOf b d l with
  | some st =>
    if flagF b R.PMC_STN_CFG.interval_en p ∧ getF b R.PMC_STN_CFG.timer p = t then
      let body := (List.range 8).flatMap (fun k =>
        leBytes 6 (if flagF b R.PMC_S_SEL.interval (p * 8 + k) then getF b R.PMC_S_CNT.count (p * 8 + k) else 0))
      ringWrite d 1 l (pmcRecord 2 l 0 (getF b R.STN_SEQ_PC.pc st) b.now body) b
    else b
  | none => b

section Tick

variable {d t : Nat} {b : Body}

theorem intervalTick_stopped (h : getF b R.PMC_TIMER.period_us (d * 4 + t) = 0) : intervalTick d t b = b := if_pos h

/-- A tick of a sample timer takes a sample of every logical station in turn. -/
theorem intervalTick_sample (hrun : getF b R.PMC_TIMER.period_us (d * 4 + t) ≠ 0) (howner : getF b R.PMC_TIMER.owner (d * 4 + t) = 2) :
    intervalTick d t b = forEach (List.range 48) (sampleStation d t) b :=
  (if_neg hrun).trans (if_pos howner)

/-- A tick of a trace timer writes one record to the trace ring, if the trace is on and has units. -/
theorem intervalTick_trace (hrun : getF b R.PMC_TIMER.period_us (d * 4 + t) ≠ 0) (howner : getF b R.PMC_TIMER.owner (d * 4 + t) = 1)
    (hon : flagF b R.PMC_BUF_CFG.trace_en d = true) (hsize : ringSize b d 0 ≠ 0) : intervalTick d t b
      = ringWrite d 0 0xFF (pmcRecord 4 0xFF 0 0 b.now (leBytes 6 (strokeNum b) ++ leBytes 2 0 ++ hourStamp b)) b :=
  (if_neg hrun).trans ((if_neg (by omega)).trans (if_pos ⟨howner, hon, Nat.pos_of_ne_zero hsize⟩))

/-- A tick of a timer that no one takes records of does nothing. -/
theorem intervalTick_untaken (hrun : getF b R.PMC_TIMER.period_us (d * 4 + t) ≠ 0) (howner : getF b R.PMC_TIMER.owner (d * 4 + t) ≠ 2)
    (h : getF b R.PMC_TIMER.owner (d * 4 + t) ≠ 1 ∨ flagF b R.PMC_BUF_CFG.trace_en d = false ∨ ringSize b d 0 = 0) :
    intervalTick d t b = b := by
  refine (if_neg hrun).trans ((if_neg howner).trans (if_neg fun ⟨hone, hon, hsize⟩ => ?_))
  obtain h | h | h := h
  · exact h hone
  · exact Bool.false_ne_true (h.symm.trans hon)
  · exact hsize.ne' h

theorem lt_of_physOf {l st : Nat} (h : physOf b d l = some st) : l < 48 := by
  by_contra hl
  rw [physOf, if_neg hl] at h
  exact Option.some_ne_none st h.symm

/-- A station of which a tick of timer `t` takes a sample. -/
def Sampled (b : Body) (d t l : Nat) : Prop := (physOf b d l).isSome = true
  ∧ flagF b R.PMC_STN_CFG.interval_en (d * 48 + l) = true ∧ getF b R.PMC_STN_CFG.timer (d * 48 + l) = t

/-- Without a sample ring a station's sample is dropped. -/
theorem sampleStation_dropped {l : Nat} (hsize : ringSize b d 1 = 0) (h : Sampled b d t l) :
    sampleStation d t l b = dropRecord d 1 l b := by
  obtain ⟨hserved, hon, htimer⟩ := h
  obtain ⟨st, hst⟩ := Option.isSome_iff_exists.mp hserved
  unfold sampleStation
  simp only [hst, if_pos (And.intro hon htimer)]
  exact ringWrite_full (.inl hsize)

theorem sampleStation_unsampled {l : Nat} (h : ¬ Sampled b d t l) : sampleStation d t l b = b := by
  unfold sampleStation
  dsimp only
  split
  next st hst => exact if_neg fun ⟨hon, htimer⟩ => h ⟨by rw [hst]; rfl, hon, htimer⟩
  next => rfl

/-- Which stations a timer samples depends on no count of dropped records. -/
theorem sampled_iff {c : Body} (h : Touches [.regs, .pmc] droppedFields b c) (l : Nat) : Sampled c d t l ↔ Sampled b d t l := by
  have hmap : c.dieMap = b.dieMap := h.same (p := .dieMap) (by decide)
  unfold Sampled physOf
  rw [hmap, h.flagF_eq (by decide) (by decide), h.getF_eq (by decide) (by decide)]

theorem sampleStation_touches (hsize : ringSize b d 1 = 0) (l : Nat) : Touches [.regs, .pmc] droppedFields b (sampleStation d t l b) := by
  by_cases h : Sampled b d t l
  · rw [sampleStation_dropped hsize h]
    exact dropRecord_touches d 1 l b
  · rw [sampleStation_unsampled h]
    exact .refl _ _ b

theorem sampleStation_buffer (hsize : ringSize b d 1 = 0) (l : Nat) : (sampleStation d t l b).pmc.buffer = b.pmc.buffer := by
  by_cases h : Sampled b d t l
  · rw [sampleStation_dropped hsize h, dropRecord_buffer]
  · rw [sampleStation_unsampled h]

/-- A dropped record of one station is not counted for another. -/
theorem dropRecord_other {ring l m : Nat} (hl : l < 48) (h : m ≠ l) :
    getF (dropRecord d ring l b) R.PMC_STN_STATUS.dropped (d * 48 + m) = getF b R.PMC_STN_STATUS.dropped (d * 48 + m) := by
  unfold dropRecord addSat
  dsimp only
  rw [if_pos hl, getF_setF_instance _ _ _ _ _ (by omega), getF_updPmc]

theorem sampleStation_other {l m : Nat} (hsize : ringSize b d 1 = 0) (hl : l < 48) (h : m ≠ l) :
    getF (sampleStation d t l b) R.PMC_STN_STATUS.dropped (d * 48 + m) = getF b R.PMC_STN_STATUS.dropped (d * 48 + m) := by
  by_cases hs : Sampled b d t l
  · rw [sampleStation_dropped hsize hs, dropRecord_other hl h]
  · rw [sampleStation_unsampled hs]

theorem forEach_cons {α : Type} (x : α) (xs : List α) (f : α → Body → Body) (b : Body) : forEach (x :: xs) f b = forEach xs f (f x b) := rfl

theorem ringSize_sampleStation (hsize : ringSize b d 1 = 0) (l : Nat) : ringSize (sampleStation d t l b) d 1 = 0 :=
  (ringSize_eq (sampleStation_touches hsize l) (by decide) (by decide) d 1).trans hsize

theorem samples_buffer (ls : List Nat) (hsize : ringSize b d 1 = 0) : (forEach ls (sampleStation d t) b).pmc.buffer = b.pmc.buffer := by
  induction ls generalizing b with
  | nil => rfl
  | cons l ls ih => rw [forEach_cons, ih (ringSize_sampleStation hsize l), sampleStation_buffer hsize]

/-- The samples of other stations leave a station's count of dropped records. -/
theorem samples_other {ls : List Nat} {m : Nat} (hsize : ringSize b d 1 = 0) (hls : ∀ l ∈ ls, l < 48) (hm : m ∉ ls) :
    getF (forEach ls (sampleStation d t) b) R.PMC_STN_STATUS.dropped (d * 48 + m) = getF b R.PMC_STN_STATUS.dropped (d * 48 + m) := by
  induction ls generalizing b with
  | nil => rfl
  | cons l ls ih =>
    obtain ⟨hne, hrest⟩ := List.ne_and_not_mem_of_not_mem_cons hm
    obtain ⟨hl, hbelow⟩ := List.forall_mem_cons.mp hls
    rw [forEach_cons, ih (ringSize_sampleStation hsize l) hbelow hrest, sampleStation_other hsize hl hne]

/-- Without a sample ring, each station sampled counts one dropped record. -/
theorem samples_dropped {ls : List Nat} {m : Nat} (hsize : ringSize b d 1 = 0) (hls : ∀ l ∈ ls, l < 48) (hnd : ls.Nodup) (hm : m ∈ ls)
    (h : Sampled b d t m) : getF (forEach ls (sampleStation d t) b) R.PMC_STN_STATUS.dropped (d * 48 + m)
      = min (getF b R.PMC_STN_STATUS.dropped (d * 48 + m) + 1) 65535 := by
  induction ls generalizing b with
  | nil => exact absurd hm List.not_mem_nil
  | cons l ls ih =>
    obtain ⟨hl, hbelow⟩ := List.forall_mem_cons.mp hls
    obtain ⟨hfresh, hrest⟩ := List.nodup_cons.mp hnd
    have hnext := ringSize_sampleStation (t := t) hsize l
    rw [forEach_cons]
    by_cases hml : m = l
    · subst hml
      rw [samples_other hnext hbelow hfresh, sampleStation_dropped hsize h, dropRecord_station b hl]
    · have hlater : m ∈ ls := List.mem_of_ne_of_mem hml hm
      rw [ih hnext hbelow hrest hlater ((sampled_iff (sampleStation_touches hsize l) m).mpr h), sampleStation_other hsize hl hml]

/-- Without a sample ring a tick of a sample timer counts what it drops, and stores nothing. -/
theorem intervalTick_dropped (hrun : getF b R.PMC_TIMER.period_us (d * 4 + t) ≠ 0) (howner : getF b R.PMC_TIMER.owner (d * 4 + t) = 2)
    (hsize : ringSize b d 1 = 0) : (intervalTick d t b).pmc.buffer = b.pmc.buffer
      ∧ ∀ l st, physOf b d l = some st → flagF b R.PMC_STN_CFG.interval_en (d * 48 + l) = true →
        getF b R.PMC_STN_CFG.timer (d * 48 + l) = t →
        getF (intervalTick d t b) R.PMC_STN_STATUS.dropped (d * 48 + l) = min (getF b R.PMC_STN_STATUS.dropped (d * 48 + l) + 1) 65535 := by
  rw [intervalTick_sample hrun howner]
  refine ⟨samples_buffer _ hsize, fun l st hst hon htimer => ?_⟩
  have hserved : (physOf b d l).isSome = true := by rw [hst]; rfl
  exact samples_dropped hsize (fun _ => List.mem_range.mp) List.nodup_range (List.mem_range.mpr (lt_of_physOf hst)) ⟨hserved, hon, htimer⟩

end Tick

/-! ## The buffer's configuration (R607, R616) -/

/-- A ring starts empty where its units change. -/
def restarted (d ring old new : Nat) (b : Body) : Body :=
  if old = new then b
  else updPmc (fun p => { p with lost := SMap.put p.lost 0 (d * 2 + ring) 0 }) (setF (setF b (ringHead ring) d 0) (ringTail ring) d 0)

/-- The settings of PMC_BUF_CFG after a write. -/
def configured (d w : Nat) (b : Body) : Body :=
  let b := setF (setF b R.PMC_BUF_CFG.trace_units d (bits w 0 4)) R.PMC_BUF_CFG.sample_units d (bits w 4 4)
  let b := setFlag (setFlag b R.PMC_BUF_CFG.wrap d (bit w 8)) R.PMC_BUF_CFG.trace_en d (bit w 9)
  setF b R.PMC_BUF_CFG.watermark d (bits w 12 4)

/-- The body in which the rings whose units change have been emptied. -/
def ringsRestarted (d w : Nat) (b : Body) : Body :=
  restarted d 1 (getF b R.PMC_BUF_CFG.sample_units d) (bits w 4 4) (restarted d 0 (getF b R.PMC_BUF_CFG.trace_units d) (bits w 0 4) b)

section Configuration

variable {d w : Nat} {b : Body}

theorem bufCfgWrite_refused (h : (bits w 0 4).land (bits w 4 4) ≠ 0) : bufCfgWrite d w b = refuseClaim d b := if_pos h

theorem bufCfgWrite_accepted (h : (bits w 0 4).land (bits w 4 4) = 0) : bufCfgWrite d w b
    = showClaims d (configured d w (ringsRestarted d w b)) := if_neg (not_not.mpr h)

theorem ringRegisters_settable {ring : Nat} {f : Field} (hf : f ∈ [ringHead ring, ringTail ring]) :
    f.idx < 1024 ∧ R.IRQ_CAUSE.cause.idx ≠ f.idx ∧ f.width = 18 := by
  simp only [List.mem_cons, List.not_mem_nil, or_false] at hf
  obtain rfl | rfl := hf
  · obtain h | h := ringHead_cases ring <;> rw [h] <;> decide
  · obtain h | h := ringTail_cases ring <;> rw [h] <;> decide

theorem restarted_touches (ring old new : Nat) : Touches [.regs, .pmc] [ringHead ring, ringTail ring] b (restarted d ring old new b) := by
  obtain ⟨hhead, hhcause, -⟩ := ringRegisters_settable (ring := ring) (f := ringHead ring) (by simp)
  obtain ⟨htail, htcause, -⟩ := ringRegisters_settable (ring := ring) (f := ringTail ring) (by simp)
  exact .ite (.refl _ _ b) ((((Touches.refl _ _ b).setF (by decide) (by simp) hhead hhcause _ _).setF (by decide) (by simp) htail htcause _ _).updPmc
    (by decide) _)

@[simp] theorem restarted_buffer (ring old new : Nat) : (restarted d ring old new b).pmc.buffer = b.pmc.buffer := by
  unfold restarted
  split <;> rfl

theorem getF_restarted_trace {old new : Nat} (h : old ≠ new) :
    getF (restarted d 0 old new b) R.PMC_TRC_HEAD.head d = 0 ∧ getF (restarted d 0 old new b) R.PMC_TRC_TAIL.tail d = 0 := by
  unfold restarted
  rw [if_neg h, getF_updPmc, getF_updPmc]
  exact ⟨(getF_setF_field _ _ _ _ _ _ (by decide) (by decide) (by decide)).trans (getF_setF_same _ _ _ _), getF_setF_same _ _ _ _⟩

theorem configured_touches : Touches [.regs] [R.PMC_BUF_CFG.trace_units, R.PMC_BUF_CFG.sample_units, R.PMC_BUF_CFG.wrap, R.PMC_BUF_CFG.trace_en,
    R.PMC_BUF_CFG.watermark] b (configured d w b) := by
  unfold configured setFlag
  dsimp only
  iterate 5 refine .setF ?_ (by decide) (by decide) (by decide) (by decide) _ _
  exact .refl _ _ b

theorem getF_configured : getF (configured d w b) R.PMC_BUF_CFG.trace_units d = bits w 0 4
    ∧ getF (configured d w b) R.PMC_BUF_CFG.sample_units d = bits w 4 4 ∧ flagF (configured d w b) R.PMC_BUF_CFG.wrap d = bit w 8
    ∧ flagF (configured d w b) R.PMC_BUF_CFG.trace_en d = bit w 9 ∧ getF (configured d w b) R.PMC_BUF_CFG.watermark d = bits w 12 4 := by
  have hfit : ∀ lo, bits w lo 4 % 2 ^ 4 = bits w lo 4 := fun lo => Nat.mod_eq_of_lt (bits_lt w lo 4)
  have hflag : ∀ x : Bool, (cond x 1 0 % 2 ^ 1 == 1) = x := by decide
  unfold configured setFlag flagF
  dsimp only
  simp (disch := decide) only [getF_setF_same, getF_setF_field]
  exact ⟨hfit 0, hfit 4, hflag _, hflag _, hfit 12⟩

theorem bufCfgWrite_only (h : (bits w 0 4).land (bits w 4 4) = 0) : Only [.regs, .pmc] b (bufCfgWrite d w b) := by
  rw [bufCfgWrite_accepted h]
  exact ((restarted_touches 0 _ _).only.trans (restarted_touches 1 _ _).only).trans
    ((configured_touches.only.trans (showClaims_touches d _).only).mono (by decide))

theorem bufCfgWrite_buffer (h : (bits w 0 4).land (bits w 4 4) = 0) : (bufCfgWrite d w b).pmc.buffer = b.pmc.buffer := by
  rw [bufCfgWrite_accepted h, (showClaims_touches d _).same (p := .pmc) (by decide), configured_touches.same (p := .pmc) (by decide),
    ringsRestarted, restarted_buffer, restarted_buffer]

theorem getF_bufCfgWrite (h : (bits w 0 4).land (bits w 4 4) = 0) : getF (bufCfgWrite d w b) R.PMC_BUF_CFG.trace_units d = bits w 0 4
    ∧ getF (bufCfgWrite d w b) R.PMC_BUF_CFG.sample_units d = bits w 4 4 ∧ flagF (bufCfgWrite d w b) R.PMC_BUF_CFG.wrap d = bit w 8
    ∧ flagF (bufCfgWrite d w b) R.PMC_BUF_CFG.trace_en d = bit w 9 ∧ getF (bufCfgWrite d w b) R.PMC_BUF_CFG.watermark d = bits w 12 4 := by
  rw [bufCfgWrite_accepted h]
  have hclaims := showClaims_touches d
  rw [(hclaims _).getF_eq (by decide) (by decide), (hclaims _).getF_eq (by decide) (by decide), (hclaims _).flagF_eq (by decide) (by decide),
    (hclaims _).flagF_eq (by decide) (by decide), (hclaims _).getF_eq (by decide) (by decide)]
  exact getF_configured

/-- The trace ring starts empty where its units change. -/
theorem getF_bufCfgWrite_trace (h : (bits w 0 4).land (bits w 4 4) = 0) (hne : getF b R.PMC_BUF_CFG.trace_units d ≠ bits w 0 4) :
    getF (bufCfgWrite d w b) R.PMC_TRC_HEAD.head d = 0 ∧ getF (bufCfgWrite d w b) R.PMC_TRC_TAIL.tail d = 0 := by
  obtain ⟨hhead, htail⟩ := getF_restarted_trace (d := d) (b := b) hne
  rw [bufCfgWrite_accepted h]
  constructor
  · rw [(showClaims_touches d _).getF_eq (by decide) (by decide), configured_touches.getF_eq (by decide) (by decide), ringsRestarted,
      (restarted_touches 1 _ _).getF_eq (by decide) (by decide), hhead]
  · rw [(showClaims_touches d _).getF_eq (by decide) (by decide), configured_touches.getF_eq (by decide) (by decide), ringsRestarted,
      (restarted_touches 1 _ _).getF_eq (by decide) (by decide), htail]

end Configuration

/-! ## The trace trigger (R511, R611) -/

/-- The body in which a write of PMC_TRIG has cleared the refusal, where its bit 31 is 1. -/
def triggerCleared (w : Nat) (b : Body) : Body := if bit w 31 then setFlag b R.PMC_TRIG.refused 0 false else b

/-- The body in which a write of PMC_TRIG has been refused. -/
def triggerRefused (w : Nat) (b : Body) : Body := pmcVector (setFlag (triggerCleared w b) R.PMC_TRIG.refused 0 true)

/-- The body in which a write of PMC_TRIG has set its fields; a station above 47 is discarded (R12). -/
def triggerSet (w : Nat) (b : Body) : Body :=
  let b := setF (setF (triggerCleared w b) R.PMC_TRIG.source 0 (bits w 0 2)) R.PMC_TRIG.die 0 (bits w 2 4)
  let b := if bits w 6 6 < 48 then setF b R.PMC_TRIG.station 0 (bits w 6 6) else b
  setF b R.PMC_TRIG.counter 0 (bits w 12 5)

/-- The body in which the pin SYNC_AUX has holder `h`, and its mode is the holder's. -/
def withHolder (h : Nat) (b : Body) : Body := setF (setF b R.GBL_CLAIM_AUX.holder 0 h) R.SHP_SYNCAUX.mode 0 h

section Trigger

variable {w : Nat} {b : Body}

/-- While another holds the pin, a write that selects a source is refused. -/
theorem trigWrite_refused (hsrc : bits w 0 2 ≠ 0) (hheld : getF b R.GBL_CLAIM_AUX.holder 0 = 1) : trigWrite w b = triggerRefused w b :=
  if_pos ⟨hsrc, hheld⟩

/-- A write that selects a source claims the pin. -/
theorem trigWrite_claims (hsrc : bits w 0 2 ≠ 0) (hheld : getF b R.GBL_CLAIM_AUX.holder 0 ≠ 1) :
    trigWrite w b = withHolder 2 (triggerSet w b) :=
  (if_neg fun h => hheld h.2).trans (if_pos hsrc)

/-- A write of source 0 releases the pin where the trigger holds it. -/
theorem trigWrite_releases (hsrc : bits w 0 2 = 0) : trigWrite w b
    = if getF b R.GBL_CLAIM_AUX.holder 0 = 2 then withHolder 0 (triggerSet w b) else triggerSet w b :=
  (if_neg fun h => h.1 hsrc).trans (if_neg (not_not.mpr hsrc))

theorem triggerCleared_touches : Touches [.regs] [R.PMC_TRIG.refused] b (triggerCleared w b) :=
  .ite (.setF (.refl _ _ b) (by decide) (by decide) (by decide) (by decide) _ _) (.refl _ _ b)

theorem triggerRefused_touches : Touches [.regs, .host, .sent] [R.PMC_TRIG.refused, R.IRQ_CAUSE.cause] b (triggerRefused w b) :=
  .trans (.setF (triggerCleared_touches.mono (by decide) (by decide)) (by decide) (by decide) (by decide) (by decide) _ _)
    ((pmcVector_touches _).mono (by decide) (by decide))

theorem flagF_triggerRefused : flagF (triggerRefused w b) R.PMC_TRIG.refused 0 = true := by
  rw [triggerRefused, (pmcVector_touches _).flagF_eq (by decide) (by decide), flagF_setFlag_same _ _ _ _ (by decide)]

/-- The fields that a write of PMC_TRIG sets. -/
def settingFields : List Field := [R.PMC_TRIG.refused, R.PMC_TRIG.source, R.PMC_TRIG.die, R.PMC_TRIG.station, R.PMC_TRIG.counter]

theorem triggerSet_touches : Touches [.regs] settingFields b (triggerSet w b) := by
  have hset : ∀ {c : Body} (f : Field), f ∈ settingFields → ∀ v, Touches [.regs] settingFields b c →
      Touches [.regs] settingFields b (setF c f 0 v) :=
    fun f hf v h => h.setF (by decide) hf (by revert f; decide) (by revert f; decide) 0 v
  have hfirst := hset R.PMC_TRIG.die (by decide) (bits w 2 4) (hset R.PMC_TRIG.source (by decide) (bits w 0 2)
    ((triggerCleared_touches (w := w)).mono (fun _ => id) (by decide)))
  exact hset _ (by decide) _ (.ite (hset _ (by decide) _ hfirst) hfirst)

theorem getF_triggerSet : getF (triggerSet w b) R.PMC_TRIG.source 0 = bits w 0 2 ∧ getF (triggerSet w b) R.PMC_TRIG.counter 0 = bits w 12 5 := by
  unfold triggerSet
  dsimp only
  constructor
  · have hsource : bits w 0 2 % 2 ^ 2 = bits w 0 2 := Nat.mod_eq_of_lt (bits_lt w 0 2)
    split <;> simp (disch := decide) only [getF_setF_same, getF_setF_field] <;> exact hsource
  · exact (getF_setF_same _ _ _ _).trans (Nat.mod_eq_of_lt (bits_lt w 12 5))

theorem withHolder_touches (h : Nat) (b : Body) : Touches [.regs] [R.GBL_CLAIM_AUX.holder, R.SHP_SYNCAUX.mode] b (withHolder h b) := by
  iterate 2 refine .setF ?_ (by decide) (by decide) (by decide) (by decide) _ _
  exact .refl _ _ b

theorem getF_withHolder {h : Nat} (hh : h < 4) (b : Body) :
    getF (withHolder h b) R.GBL_CLAIM_AUX.holder 0 = h ∧ getF (withHolder h b) R.SHP_SYNCAUX.mode 0 = h := by
  unfold withHolder
  simp (disch := decide) only [getF_setF_same, getF_setF_field]
  exact ⟨Nat.mod_eq_of_lt hh, Nat.mod_eq_of_lt hh⟩

end Trigger

/-! ## The tail of a ring (R608) -/

/-- The body in which the host has moved the tail of a ring. -/
def tailMoved (d ring tail : Nat) (b : Body) : Body := setFlag (setF b (ringTail ring) d tail) R.PMC_BUF_STATUS.full d false

/-- The body in which the host has moved the tail of a ring and the records lost so far are told. -/
def lossTold (d ring tail : Nat) (b : Body) : Body :=
  updPmc (fun p => { p with lost := SMap.put p.lost 0 (d * 2 + ring) 0 }) (tailMoved d ring tail b)

section Tail

variable {d ring tail : Nat} {b : Body}

theorem tailMoved_touches : Touches [.regs] [ringTail ring, R.PMC_BUF_STATUS.full] b (tailMoved d ring tail b) := by
  obtain ⟨htail, hcause, -⟩ := ringRegisters_settable (ring := ring) (f := ringTail ring) (by simp)
  exact .setF (.setF (.refl _ _ b) (by decide) (by simp) htail hcause _ _) (by decide) (by simp) (by decide) (by decide) _ _

theorem tailMoved_regsBut : RegsBut [ringTail ring, R.PMC_BUF_STATUS.full] d b (tailMoved d ring tail b) := by
  obtain ⟨htail, -, -⟩ := ringRegisters_settable (ring := ring) (f := ringTail ring) (by simp)
  exact ((RegsBut.refl _ _ b).setF _ _ htail (by simp)).setF _ _ (by decide) (by simp)

theorem tailMoved_full : flagF (tailMoved d ring tail b) R.PMC_BUF_STATUS.full d = false := flagF_setFlag_same _ _ _ _ (by decide)

theorem getF_tailMoved (h : tail < 262144) : getF (tailMoved d ring tail b) (ringTail ring) d = tail := by
  obtain ⟨htail, -, hwidth⟩ := ringRegisters_settable (ring := ring) (f := ringTail ring) (by simp)
  have hne : (ringTail ring).idx ≠ R.PMC_BUF_STATUS.full.idx := by obtain e | e := ringTail_cases ring <;> rw [e] <;> decide
  rw [tailMoved, setFlag, getF_setF_field _ _ _ _ _ _ (by decide) htail hne, getF_setF_same, hwidth, Nat.mod_eq_of_lt (show tail < 2 ^ 18 from h)]

theorem getF_tailMoved_head : getF (tailMoved d ring tail b) (ringHead ring) d = getF b (ringHead ring) d := by
  refine tailMoved_touches.getF_eq (ringRegisters_settable (ring := ring) (by simp)).1 ?_ d
  unfold ringHead ringTail
  split <;> decide

theorem ringUnits_tailMoved : ringUnits (tailMoved d ring tail b) d ring = ringUnits b d ring := by
  have hn : ∀ f ∈ [R.PMC_BUF_CFG.trace_units, R.PMC_BUF_CFG.sample_units], f.idx ∉ [ringTail ring, R.PMC_BUF_STATUS.full].map Field.idx := by
    obtain e | e := ringTail_cases ring <;> rw [e] <;> decide
  exact ringUnits_eq tailMoved_touches (hn _ (by simp)) (hn _ (by simp)) d ring

theorem ringTailWrite_discarded (h : tail % 64 ≠ 0 ∨ 262144 ≤ tail) : ringTailWrite d ring tail b = b := if_pos h

@[simp] theorem tailMoved_pmc : (tailMoved d ring tail b).pmc = b.pmc := by simp [tailMoved]

@[simp] theorem tailMoved_now : (tailMoved d ring tail b).now = b.now := by simp [tailMoved]

/-- A tail that is taken moves the tail; records lost before are told where the ring has room again. -/
theorem ringTailWrite_taken (halign : tail % 64 = 0) (hlt : tail < 262144) : ringTailWrite d ring tail b =
    if SMap.get b.pmc.lost 0 (d * 2 + ring) = 0 ∨ ringSize b d ring = 0 ∨ (getF b (ringHead ring) d + 64) % ringSize b d ring = tail then
      tailMoved d ring tail b
    else ringWrite d ring 0xFF (pmcRecord 5 0xFF 0 0 b.now (leBytes 4 (SMap.get b.pmc.lost 0 (d * 2 + ring)))) (lossTold d ring tail b) := by
  have hsize : ringSize (tailMoved d ring tail b) d ring = ringSize b d ring := by rw [ringSize, ringUnits_tailMoved, ringSize]
  rw [← hsize, ← getF_tailMoved_head (tail := tail), ← tailMoved_pmc (tail := tail), ← tailMoved_now (tail := tail)]
  exact if_neg (by omega)

theorem ringStore_lost (d ring off : Nat) (r : List Byte) (b : Body) : (ringStore d ring off r b).pmc.lost = b.pmc.lost := rfl

/-- Where the bytes of a record come to lie depends on the units of the ring alone. -/
theorem ringStore_buffer_eq {c : Body} (hunits : ringUnits c d ring = ringUnits b d ring) (hbuffer : c.pmc.buffer = b.pmc.buffer) (off : Nat)
    (r : List Byte) : (ringStore d ring off r c).pmc.buffer = (ringStore d ring off r b).pmc.buffer := by
  simp only [ringStore, updPmc, hunits, hbuffer]

theorem lossTold_pmc : (lossTold d ring tail b).pmc = { b.pmc with lost := SMap.put b.pmc.lost 0 (d * 2 + ring) 0 } := by
  simp [lossTold, updPmc]

/-- A ring with room again is told how many records were lost before, and what has been told is no longer counted. -/
theorem ringTailWrite_tells (halign : tail % 64 = 0) (hlt : tail < 262144) (hlost : SMap.get b.pmc.lost 0 (d * 2 + ring) ≠ 0)
    (hsize : ringSize b d ring ≠ 0) (hroom : (getF b (ringHead ring) d + 64) % ringSize b d ring ≠ tail) :
    let c := ringTailWrite d ring tail b
    getF c (ringTail ring) d = tail ∧ SMap.get c.pmc.lost 0 (d * 2 + ring) = 0
      ∧ c.pmc.buffer = (ringStore d ring (getF b (ringHead ring) d)
          (pmcRecord 5 0xFF 0 0 b.now (leBytes 4 (SMap.get b.pmc.lost 0 (d * 2 + ring)))) b).pmc.buffer := by
  have hunits : ringUnits (lossTold d ring tail b) d ring = ringUnits b d ring :=
    (ringUnits_updPmc _ _ _ _).trans ringUnits_tailMoved
  have hsame : ringSize (lossTold d ring tail b) d ring = ringSize b d ring := by rw [ringSize, hunits, ringSize]
  have hhead : getF (lossTold d ring tail b) (ringHead ring) d = getF b (ringHead ring) d :=
    (getF_updPmc _ _ _ _).trans getF_tailMoved_head
  have htail : getF (lossTold d ring tail b) (ringTail ring) d = tail := (getF_updPmc _ _ _ _).trans (getF_tailMoved hlt)
  have hfull : (getF (lossTold d ring tail b) (ringHead ring) d + 64) % ringSize (lossTold d ring tail b) d ring
      ≠ getF (lossTold d ring tail b) (ringTail ring) d := by rwa [hhead, hsame, htail]
  rw [ringTailWrite_taken halign hlt, if_neg (not_or.mpr ⟨hlost, not_or.mpr ⟨hsize, hroom⟩⟩)]
  have hpmc := fun r => ringWrite_room_pmc (lst := 0xFF) (r := r) (hsame.trans_ne hsize) hfull
  refine ⟨(ringWrite_room_tail (hsame.trans_ne hsize) hfull).trans htail, ?_, ?_⟩
  · rw [hpmc, ringStore_lost, lossTold_pmc, SMap.get_put_same]
  · rw [hpmc, hhead]
    exact ringStore_buffer_eq hunits (by rw [lossTold_pmc]) _ _

end Tail

/-! ## The commands: each is an effect on the body, and its conclusions are those of the effect -/

section Commands

variable {c : Instr} {s : State} {f : Body → Body}

theorem lift_of_onUnit {ok : Bool} (hok : ok = true) : onUnit ok f s = lift f s := if_pos hok

theorem runs_of_lift {ps : List Part} {P : Body → Prop} {b : Body} (hx : exec c s = lift f s) (hb : f s.body = b) (ho : Only ps s.body b)
    (hP : P b) : Runs c s ps P := ⟨b, by rw [hx, ← hb]; rfl, ho, hP⟩

theorem runsS_of_lift {P : State → Prop} {b : Body} (hx : exec c s = lift f s) (hb : f s.body = b) (hP : P { s with body := b }) : RunsS c s P :=
  ⟨{ s with body := b }, by rw [hx, ← hb]; rfl, rfl, hP⟩

/-- A command whose effect is none leaves everything as it was. -/
theorem runs_same (hx : exec c s = lift f s) (hb : f s.body = s.body) : Runs c s [] (fun b => b = s.body) :=
  runs_of_lift hx hb (Only.refl [] s.body) rfl

end Commands

section CounterCommands

variable {p k : Nat} (hc : isCounter p k = true) {occ cyc : Nat} {ex : Bool} {v : Nat} {s : State}
include hc

theorem exec_pmcEventCount : exec (.pmcEventCount p k occ cyc ex) s = lift (countEvent p k occ cyc ex) s := lift_of_onUnit hc

theorem exec_pmcCntWrite : exec (.pmcCntWrite p k v) s = lift (counterWrite p k v) s := lift_of_onUnit hc

theorem lt_of_isCounter : k < (pageOf p).1.n := by
  simp only [isCounter, Bool.and_eq_true, decide_eq_true_eq] at hc
  exact hc.2

theorem pmcEventCount_same (h : ¬ Counts p k occ s.body) : Runs (.pmcEventCount p k occ cyc ex) s [] (fun b => b = s.body) :=
  runs_same (exec_pmcEventCount hc) (countEvent_of_not_counts h)

theorem pmcEventCount_adds (h : Counts p k occ s.body)
    (hlt : getF s.body (pageOf p).1.count (counterIx p k) + 1 < 2 ^ 48) :
    Runs (.pmcEventCount p k occ cyc ex) s [.regs] (fun b =>
      getF b (pageOf p).1.count (counterIx p k) = getF s.body (pageOf p).1.count (counterIx p k) + 1
        ∧ RegsBut [(pageOf p).1.count] (counterIx p k) s.body b) :=
  runs_of_lift (exec_pmcEventCount hc) (countEvent_adds h hlt) ((Only.refl _ _).setF _ _ _ (by decide))
    ⟨(getF_setF_count p _ _ _).trans (Nat.mod_eq_of_lt hlt), setF_count_regsBut p _ _ _⟩

theorem pmcEventCount_overflows (h : Counts p k occ s.body)
    (heq : getF s.body (pageOf p).1.count (counterIx p k) + 1 = 2 ^ 48) :
    RunsS (.pmcEventCount p k occ cyc ex) s (fun u =>
      getF u.body (pageOf p).1.count (counterIx p k) = (if getF s.body (pageOf p).1.mode (counterIx p k) = 3 then
          getF s.body (if p < 768 then R.PMC_S_RELOAD.reload else R.PMC_D_RELOAD.reload) (counterIx p k) % 2 ^ 48 else 0)
        ∧ bit (getF u.body (pageOf p).1.overflow (pageOf p).2) k = true
        ∧ (flagF s.body (pageOf p).1.irq (counterIx p k) = true → bit (getF u.body R.IRQ_CAUSE.cause 0) 26 = true)
        ∧ (triggers s.body p k = true → .pin "SYNC_AUX" 1 ∈ u.body.sent)
        ∧ (triggers s.body p k = false → flagF s.body (pageOf p).1.irq (counterIx p k) = false →
          getF s.body (pageOf p).1.mode (counterIx p k) ≠ 3 → u.body.sent = s.body.sent)) := by
  obtain ⟨hcount, hnotices⟩ := countEvent_overflow (cyc := cyc) (ex := ex) (lt_of_isCounter hc) h heq
  exact runsS_of_lift (exec_pmcEventCount hc) rfl ⟨hcount.trans reloadOf_mod, hnotices⟩

theorem pmcCntWrite_granted (hp : p < 768) (hg : flagF s.body R.PMC_STN_STATUS.granted p = true) :
    Runs (.pmcCntWrite p k v) s [] (fun b => b = s.body) :=
  runs_same (exec_pmcCntWrite hc) (if_pos ⟨hp, hg⟩)

theorem pmcCntWrite_sets (h : 768 ≤ p ∨ flagF s.body R.PMC_STN_STATUS.granted p = false) : Runs (.pmcCntWrite p k v) s [.regs] (fun b =>
    getF b (pageOf p).1.count (counterIx p k) = v % 2 ^ 48 ∧ RegsBut [(pageOf p).1.count] (counterIx p k) s.body b) := by
  have hopen : ¬ (p < 768 ∧ flagF s.body R.PMC_STN_STATUS.granted p = true) := by
    rwa [not_and_or, Nat.not_lt, Bool.not_eq_true]
  exact runs_of_lift (exec_pmcCntWrite hc) (if_neg hopen) ((Only.refl _ _).setF _ _ _ (by decide))
    ⟨getF_setF_count p _ _ _, setF_count_regsBut p _ _ _⟩

end CounterCommands

section TimerCommands

variable {d t : Nat} (hd : isDie d = true) (ht : t < 4) {w : Nat} {s : State}
include hd ht

theorem isTimer_of : (isDie d && decide (t < 4)) = true := by rw [hd, decide_eq_true ht]; rfl

theorem exec_pmcIntervalTick : exec (.pmcIntervalTick d t) s = lift (intervalTick d t) s := lift_of_onUnit (isTimer_of hd ht)

theorem exec_pmcTimerWrite : exec (.pmcTimerWrite d t w) s = lift (timerWrite d t w) s := lift_of_onUnit (isTimer_of hd ht)

theorem pmcIntervalTick_stopped (h0 : getF s.body R.PMC_TIMER.period_us (d * 4 + t) = 0) :
    Runs (.pmcIntervalTick d t) s [] (fun b => b = s.body) :=
  runs_same (exec_pmcIntervalTick hd ht) (intervalTick_stopped h0)

theorem pmcIntervalTick_untaken (h0 : getF s.body R.PMC_TIMER.period_us (d * 4 + t) ≠ 0)
    (h2 : getF s.body R.PMC_TIMER.owner (d * 4 + t) ≠ 2)
    (h : getF s.body R.PMC_TIMER.owner (d * 4 + t) ≠ 1 ∨ flagF s.body R.PMC_BUF_CFG.trace_en d = false ∨ ringSize s.body d 0 = 0) :
    Runs (.pmcIntervalTick d t) s [] (fun b => b = s.body) :=
  runs_same (exec_pmcIntervalTick hd ht) (intervalTick_untaken h0 h2 h)

theorem pmcIntervalTick_traces (h0 : getF s.body R.PMC_TIMER.period_us (d * 4 + t) ≠ 0)
    (h1 : getF s.body R.PMC_TIMER.owner (d * 4 + t) = 1) (hon : flagF s.body R.PMC_BUF_CFG.trace_en d = true) (hsize : ringSize s.body d 0 ≠ 0)
    (hroom : (getF s.body R.PMC_TRC_HEAD.head d + 64) % ringSize s.body d 0 ≠ getF s.body R.PMC_TRC_TAIL.tail d) :
    RunsS (.pmcIntervalTick d t) s (fun u =>
      getF u.body R.PMC_TRC_HEAD.head d = (getF s.body R.PMC_TRC_HEAD.head d + 64) % ringSize s.body d 0
        ∧ u.body.pmc = (ringStore d 0 (getF s.body R.PMC_TRC_HEAD.head d) (pmcRecord 4 0xFF 0 0 s.body.now
            (leBytes 6 (strokeNum s.body) ++ leBytes 2 0 ++ hourStamp s.body)) s.body).pmc) :=
  runsS_of_lift (exec_pmcIntervalTick hd ht) (intervalTick_trace h0 h1 hon hsize)
    ⟨ringWrite_room_head hsize hroom, ringWrite_room_pmc hsize hroom⟩

theorem pmcIntervalTick_drops (h0 : getF s.body R.PMC_TIMER.period_us (d * 4 + t) ≠ 0)
    (h1 : getF s.body R.PMC_TIMER.owner (d * 4 + t) = 1) (hon : flagF s.body R.PMC_BUF_CFG.trace_en d = true) (hsize : ringSize s.body d 0 ≠ 0)
    (hfull : (getF s.body R.PMC_TRC_HEAD.head d + 64) % ringSize s.body d 0 = getF s.body R.PMC_TRC_TAIL.tail d)
    (hwrap : flagF s.body R.PMC_BUF_CFG.wrap d = false) :
    Runs (.pmcIntervalTick d t) s [.regs, .pmc] (fun b => b.pmc.buffer = s.body.pmc.buffer
      ∧ getF b R.PMC_DIE_STATUS.dropped d = min (getF s.body R.PMC_DIE_STATUS.dropped d + 1) 65535) :=
  runs_of_lift (exec_pmcIntervalTick hd ht) ((intervalTick_trace h0 h1 hon hsize).trans (ringWrite_full (.inr ⟨hfull, hwrap⟩)))
    (dropRecord_touches d 0 0xFF _).only ⟨dropRecord_buffer _ _ _ _, dropRecord_die _ (by decide)⟩

theorem pmcIntervalTick_samples_dropped (h0 : getF s.body R.PMC_TIMER.period_us (d * 4 + t) ≠ 0)
    (h2 : getF s.body R.PMC_TIMER.owner (d * 4 + t) = 2) (hsize : ringSize s.body d 1 = 0) :
    RunsS (.pmcIntervalTick d t) s (fun u => u.body.pmc.buffer = s.body.pmc.buffer
      ∧ ∀ l st, physOf s.body d l = some st → flagF s.body R.PMC_STN_CFG.interval_en (d * 48 + l) = true →
          getF s.body R.PMC_STN_CFG.timer (d * 48 + l) = t →
          getF u.body R.PMC_STN_STATUS.dropped (d * 48 + l) = min (getF s.body R.PMC_STN_STATUS.dropped (d * 48 + l) + 1) 65535) :=
  runsS_of_lift (exec_pmcIntervalTick hd ht) rfl (intervalTick_dropped h0 h2 hsize)

theorem pmcTimerWrite_refused (h : TimerTaken d t w s.body) :
    RunsS (.pmcTimerWrite d t w) s (fun u => getF u.body R.PMC_BUF_STATUS.refused d = 8
      ∧ bit (getF u.body R.IRQ_CAUSE.cause 0) 26 = true ∧ ∀ j, getF u.body R.PMC_TIMER.owner j = getF s.body R.PMC_TIMER.owner j
      ∧ getF u.body R.PMC_TIMER.period_us j = getF s.body R.PMC_TIMER.period_us j) :=
  runsS_of_lift (exec_pmcTimerWrite hd ht) (timerWrite_taken h) ⟨getF_refuseClaim d _, refuseClaim_vector d _, fun j =>
    ⟨(refuseClaim_touches d _).getF_eq (by decide) (by decide) j, (refuseClaim_touches d _).getF_eq (by decide) (by decide) j⟩⟩

theorem pmcTimerWrite_sets (h : ¬ TimerTaken d t w s.body) :
    Runs (.pmcTimerWrite d t w) s [.regs] (fun b =>
      getF b R.PMC_TIMER.period_us (d * 4 + t) = (if bits w 0 20 ≤ 1000000 then bits w 0 20 else getF s.body R.PMC_TIMER.period_us (d * 4 + t))
        ∧ getF b R.PMC_TIMER.owner (d * 4 + t) = if bits w 20 2 = 3 then getF s.body R.PMC_TIMER.owner (d * 4 + t) else bits w 20 2) :=
  runs_of_lift (exec_pmcTimerWrite hd ht) rfl (timerWrite_only h) ⟨getF_timerWrite_period h, getF_timerWrite_owner h⟩

end TimerCommands

section BufferCommands

variable {d : Nat} (hd : isDie d = true) {w ring tail : Nat} {s : State}
include hd

theorem exec_pmcBufCfgWrite : exec (.pmcBufCfgWrite d w) s = lift (bufCfgWrite d w) s := lift_of_onUnit hd

theorem pmcBufCfgWrite_refused (h : (bits w 0 4).land (bits w 4 4) ≠ 0) :
    RunsS (.pmcBufCfgWrite d w) s (fun u => getF u.body R.PMC_BUF_STATUS.refused d = 8
      ∧ getF u.body R.PMC_BUF_CFG.trace_units d = getF s.body R.PMC_BUF_CFG.trace_units d
      ∧ getF u.body R.PMC_BUF_CFG.sample_units d = getF s.body R.PMC_BUF_CFG.sample_units d) :=
  runsS_of_lift (exec_pmcBufCfgWrite hd) (bufCfgWrite_refused h) ⟨getF_refuseClaim d _,
    (refuseClaim_touches d _).getF_eq (by decide) (by decide) d, (refuseClaim_touches d _).getF_eq (by decide) (by decide) d⟩

theorem pmcBufCfgWrite_sets (h : (bits w 0 4).land (bits w 4 4) = 0) :
    Runs (.pmcBufCfgWrite d w) s [.regs, .pmc] (fun b => getF b R.PMC_BUF_CFG.trace_units d = bits w 0 4
      ∧ getF b R.PMC_BUF_CFG.sample_units d = bits w 4 4 ∧ flagF b R.PMC_BUF_CFG.wrap d = bit w 8 ∧ flagF b R.PMC_BUF_CFG.trace_en d = bit w 9
      ∧ getF b R.PMC_BUF_CFG.watermark d = bits w 12 4 ∧ b.pmc.buffer = s.body.pmc.buffer
      ∧ (getF s.body R.PMC_BUF_CFG.trace_units d ≠ bits w 0 4 → getF b R.PMC_TRC_HEAD.head d = 0 ∧ getF b R.PMC_TRC_TAIL.tail d = 0)) := by
  obtain ⟨htrace, hsample, hwrap, hon, hmark⟩ := getF_bufCfgWrite (d := d) (b := s.body) h
  exact runs_of_lift (exec_pmcBufCfgWrite hd) rfl (bufCfgWrite_only h)
    ⟨htrace, hsample, hwrap, hon, hmark, bufCfgWrite_buffer h, getF_bufCfgWrite_trace h⟩

theorem exec_pmcRingTailWrite (hr : ring < 2) : exec (.pmcRingTailWrite d ring tail) s = lift (ringTailWrite d ring tail) s :=
  lift_of_onUnit (by rw [hd, decide_eq_true hr]; rfl)

theorem pmcRingTailWrite_discarded (hr : ring < 2) (h : tail % 64 ≠ 0 ∨ 262144 ≤ tail) :
    Runs (.pmcRingTailWrite d ring tail) s [] (fun b => b = s.body) :=
  runs_same (exec_pmcRingTailWrite hd hr) (ringTailWrite_discarded h)

theorem pmcRingTailWrite_moves (hr : ring < 2) (halign : tail % 64 = 0) (hlt : tail < 262144)
    (h : SMap.get s.body.pmc.lost 0 (d * 2 + ring) = 0 ∨ ringSize s.body d ring = 0
      ∨ (getF s.body (ringHead ring) d + 64) % ringSize s.body d ring = tail) :
    Runs (.pmcRingTailWrite d ring tail) s [.regs] (fun b => getF b (ringTail ring) d = tail ∧ flagF b R.PMC_BUF_STATUS.full d = false
      ∧ RegsBut [ringTail ring, R.PMC_BUF_STATUS.full] d s.body b) :=
  runs_of_lift (exec_pmcRingTailWrite hd hr) ((ringTailWrite_taken halign hlt).trans (if_pos h)) tailMoved_touches.only
    ⟨getF_tailMoved hlt, tailMoved_full, tailMoved_regsBut⟩

theorem pmcRingTailWrite_tells (hr : ring < 2) (halign : tail % 64 = 0) (hlt : tail < 262144)
    (hlost : SMap.get s.body.pmc.lost 0 (d * 2 + ring) ≠ 0) (hsize : ringSize s.body d ring ≠ 0)
    (hroom : (getF s.body (ringHead ring) d + 64) % ringSize s.body d ring ≠ tail) :
    RunsS (.pmcRingTailWrite d ring tail) s (fun u => getF u.body (ringTail ring) d = tail ∧ SMap.get u.body.pmc.lost 0 (d * 2 + ring) = 0
      ∧ u.body.pmc.buffer = (ringStore d ring (getF s.body (ringHead ring) d)
          (pmcRecord 5 0xFF 0 0 s.body.now (leBytes 4 (SMap.get s.body.pmc.lost 0 (d * 2 + ring)))) s.body).pmc.buffer) :=
  runsS_of_lift (exec_pmcRingTailWrite hd hr) rfl (ringTailWrite_tells halign hlt hlost hsize hroom)

end BufferCommands

section TriggerCommand

variable {w : Nat} {s : State}

theorem exec_pmcTrigWrite : exec (.pmcTrigWrite w) s = lift (trigWrite w) s := rfl

theorem pmcTrigWrite_refused (hsrc : bits w 0 2 ≠ 0) (hheld : getF s.body R.GBL_CLAIM_AUX.holder 0 = 1) :
    RunsS (.pmcTrigWrite w) s (fun u => flagF u.body R.PMC_TRIG.refused 0 = true
      ∧ getF u.body R.GBL_CLAIM_AUX.holder 0 = 1 ∧ getF u.body R.PMC_TRIG.source 0 = getF s.body R.PMC_TRIG.source 0) :=
  runsS_of_lift exec_pmcTrigWrite (trigWrite_refused hsrc hheld) ⟨flagF_triggerRefused,
    (triggerRefused_touches.getF_eq (by decide) (by decide) 0).trans hheld,
    triggerRefused_touches.getF_eq (by decide) (by decide) 0⟩

theorem pmcTrigWrite_claims (hsrc : bits w 0 2 ≠ 0) (hheld : getF s.body R.GBL_CLAIM_AUX.holder 0 ≠ 1) :
    Runs (.pmcTrigWrite w) s [.regs] (fun b => getF b R.PMC_TRIG.source 0 = bits w 0 2 ∧ getF b R.PMC_TRIG.counter 0 = bits w 12 5
      ∧ getF b R.GBL_CLAIM_AUX.holder 0 = 2 ∧ getF b R.SHP_SYNCAUX.mode 0 = 2) := by
  have hpin := withHolder_touches 2 (triggerSet w s.body)
  obtain ⟨hsource, hcounter⟩ := getF_triggerSet (w := w) (b := s.body)
  exact runs_of_lift exec_pmcTrigWrite (trigWrite_claims hsrc hheld) (triggerSet_touches.only.trans hpin.only)
    ⟨(hpin.getF_eq (by decide) (by decide) 0).trans hsource, (hpin.getF_eq (by decide) (by decide) 0).trans hcounter,
      getF_withHolder (by decide) _⟩

theorem pmcTrigWrite_releases (hsrc : bits w 0 2 = 0) :
    Runs (.pmcTrigWrite w) s [.regs] (fun b => getF b R.PMC_TRIG.source 0 = 0
      ∧ getF b R.GBL_CLAIM_AUX.holder 0 = if getF s.body R.GBL_CLAIM_AUX.holder 0 = 2 then 0 else getF s.body R.GBL_CLAIM_AUX.holder 0) := by
  have hset : Touches [.regs] settingFields s.body (triggerSet w s.body) := triggerSet_touches
  have hsource : getF (triggerSet w s.body) R.PMC_TRIG.source 0 = 0 := getF_triggerSet.1.trans hsrc
  by_cases hheld : getF s.body R.GBL_CLAIM_AUX.holder 0 = 2
  · have hpin := withHolder_touches 0 (triggerSet w s.body)
    refine runs_of_lift exec_pmcTrigWrite ((trigWrite_releases hsrc).trans (if_pos hheld)) (hset.only.trans hpin.only) ⟨?_, ?_⟩
    · exact (hpin.getF_eq (by decide) (by decide) 0).trans hsource
    · exact (getF_withHolder (by decide) _).1.trans (if_pos hheld).symm
  · refine runs_of_lift exec_pmcTrigWrite ((trigWrite_releases hsrc).trans (if_neg hheld)) hset.only ⟨hsource, ?_⟩
    exact (hset.getF_eq (by decide) (by decide) 0).trans (if_neg hheld).symm

end TriggerCommand

/-- Settles O58: a clause for each way in which a command of the counters can go. -/
theorem performanceCounters : Obligations.PerformanceCounters := by
  intro p k s hc b0 same pg at_ i mode
  refine ⟨fun occ cyc ex => ?_, fun v => ?_, fun d t w hd ht => ?_, fun d w hd => ?_, fun w => ?_, fun d ring tail hd hr => ?_⟩
  · exact ⟨pmcEventCount_same hc, pmcEventCount_adds hc, pmcEventCount_overflows hc⟩
  · exact ⟨pmcCntWrite_granted hc, pmcCntWrite_sets hc⟩
  · exact ⟨pmcIntervalTick_stopped hd ht, pmcIntervalTick_untaken hd ht,
      fun h0 h1 hon hsize => ⟨pmcIntervalTick_traces hd ht h0 h1 hon hsize, pmcIntervalTick_drops hd ht h0 h1 hon hsize⟩,
      pmcIntervalTick_samples_dropped hd ht, pmcTimerWrite_refused hd ht, pmcTimerWrite_sets hd ht⟩
  · exact ⟨pmcBufCfgWrite_refused hd, pmcBufCfgWrite_sets hd⟩
  · exact ⟨pmcTrigWrite_refused, pmcTrigWrite_claims, pmcTrigWrite_releases⟩
  · exact ⟨pmcRingTailWrite_discarded hd hr, pmcRingTailWrite_moves hd hr, pmcRingTailWrite_tells hd hr⟩

end Sys2Proof.Machine

/-! SUPPORT. Which operations over the whole state leave the stacks as they are, and that every other keeps their canonical form
(O4, O5, O7). -/

namespace Sys2Proof.Machine

/-- From `s` to `t` the queue and every byte of the stacks stay as they are. -/
structure SameStacks (s t : State) : Prop where
  queue : t.pending = s.pending
  mem : t.mem = s.mem

namespace SameStacks

variable {s t u : State}

theorem refl (s : State) : SameStacks s s := ⟨rfl, rfl⟩

theorem trans (h : SameStacks s t) (k : SameStacks t u) : SameStacks s u := ⟨k.queue.trans h.queue, k.mem.trans h.mem⟩

theorem keeps (h : SameStacks s t) : Keeps s t := ⟨h.queue, fun hw => h.mem ▸ hw⟩

theorem body (h : SameStacks s t) (b : Body) : SameStacks s { t with body := b } := ⟨h.queue, h.mem⟩

theorem onBody (h : SameStacks s t) (f : Body → Body) : SameStacks s (onBody f t) := h.body _

theorem ite {P : Prop} [Decidable P] (h : SameStacks s t) (k : SameStacks s u) : SameStacks s (if P then t else u) := by
  split <;> assumption

theorem foldl {α : Type} (f : State → α → State) (h : ∀ s x, SameStacks s (f s x)) (l : List α) (s : State) : SameStacks s (l.foldl f s) := by
  induction l generalizing s with
  | nil => exact refl s
  | cons x xs ih => exact (h s x).trans (ih _)

end SameStacks

theorem Keeps.ite {P : Prop} [Decidable P] {s t u : State} (h : Keeps s t) (k : Keeps s u) : Keeps s (if P then t else u) := by
  split <;> assumption

theorem Keeps.withBody {s t : State} (h : Keeps s t) (f : Body → Body) : Keeps s (Machine.onBody f t) := ⟨h.queue, h.canon⟩

/-! ## Reading and loading -/

theorem readStack_same (a n : Nat) (s : State) : SameStacks s (readStack a n s).2 := ⟨by simp, by simp⟩

theorem applyEntries_keeps (k : Nat) (shift : Option Int) (es : List TailEntry) (s : State) : Keeps s (applyEntries k shift es s) := by
  induction es generalizing s with
  | nil => exact Keeps.refl s
  | cons e es ih => exact ((writeStackBytes_keeps _ _ s).ite (Keeps.refl s)).trans (ih _)

/-- A read of units named in a sealed tail sees the entries applied, and leaves the stacks as they are (R199). -/
theorem readSealed_same (a n : Nat) (s : State) : SameStacks s (readSealed a n s).2 := by
  unfold readSealed
  split
  · exact ⟨rfl, rfl⟩
  · exact readStack_same a n s

theorem readPlanImage_same (a n : Nat) (s : State) : SameStacks s (readPlanImage a n s).2 := (readStack_same a n s).body _

theorem loadRegion_same (r : Region) (s : State) : SameStacks s (loadRegion r s) := by
  unfold loadRegion
  split
  · exact .refl s
  · exact (readStack_same _ _ s).onBody _

theorem loadRegions_same (rs : List Region) (s : State) : SameStacks s (rs.foldl (fun s r => loadRegion r s) s) :=
  .foldl _ (fun s r => loadRegion_same r s) rs s

theorem loadPlan_same (p : Plan) (s : State) : SameStacks s (loadPlan p s) :=
  (((SameStacks.refl s).onBody _).onBody _).trans (loadRegions_same _ _)

theorem loadStation_same (die l : Nat) (s : State) : SameStacks s (loadStation die l s) := by
  unfold loadStation
  split
  · exact .refl s
  · exact ((SameStacks.refl s).onBody _).trans (loadRegions_same _ _)

theorem loadVariant_same (p : Plan) (v : Variant) (s : State) : SameStacks s (loadVariant p v s) :=
  ((SameStacks.refl s).onBody _).trans (loadRegions_same _ _)

theorem readImage_same (addr len : Nat) (s : State) : SameStacks s (readImage addr len s).2 := by
  have hhead := readStack_same addr (min len 512) s
  unfold readImage
  dsimp only
  split
  · exact hhead.body _
  · exact (hhead.trans (readStack_same _ _ _)).body _

theorem readPlace_same (p : Place) (len : Nat) (s : State) : SameStacks s (readPlace p len s).2 := by
  unfold readPlace
  split
  · split
    · exact (SameStacks.refl s).body _
    · exact .refl s
  · exact readSealed_same _ _ s
  · exact .refl s

/-! ## Repairs (R309 to R316) -/

theorem applyRepair_same (r : Repair) (s : State) : SameStacks s (applyRepair r s) := by
  unfold applyRepair
  split
  · split
    · exact .refl s
    · exact (((SameStacks.refl s).onBody _).trans (loadStation_same _ _ _)).onBody _
  · split
    · exact ((SameStacks.refl s).onBody _).trans (loadVariant_same _ _ _)
    · exact .refl s
  · exact (SameStacks.refl s).onBody _
  · exact (SameStacks.refl s).onBody _

theorem applyRepairs_same (s : State) : SameStacks s (applyRepairs s) :=
  (SameStacks.foldl _ (fun s r => applyRepair_same r s) _ s).onBody _

theorem tryRepairs_same (s : State) : SameStacks s (tryRepairs s) := by
  unfold tryRepairs
  split
  · exact .refl s
  · exact ((((SameStacks.refl s).onBody _).trans (applyRepairs_same _)).onBody _).ite (.refl s)

theorem startRepairs_same (tail : RepairTail) (s : State) : SameStacks s (startRepairs tail s) :=
  ((SameStacks.refl s).onBody _).trans (tryRepairs_same _)

theorem quiesceComplete_same (die : Nat) (s : State) : SameStacks s (quiesceComplete die s) :=
  ((SameStacks.refl s).onBody _).trans (tryRepairs_same _)

/-! ## Commands that firmware runs beside the stacks -/

theorem byFirmware_same {f : State → State} {s : State} (h : SameStacks s (f s)) : SameStacks s (byFirmware f s) := h.ite (.refl s)

theorem byFirmware_keeps {f : State → State} {s : State} (h : Keeps s (f s)) : Keeps s (byFirmware f s) := h.ite (Keeps.refl s)

theorem byFirmware_onBody_same (f : Body → Body) (s : State) : SameStacks s (byFirmware (onBody f) s) :=
  byFirmware_same ((SameStacks.refl s).onBody f)

theorem standinLoaded_same (addr len : Nat) (s : State) : SameStacks s (standinLoaded addr len s) := by
  unfold standinLoaded
  split
  · exact .refl s
  · refine .ite (.refl s) ?_
    dsimp only
    split
    · exact readPlanImage_same addr len s
    · exact (readPlanImage_same addr len s).onBody _

theorem switchStandin_same (good : Nat) (s : State) : SameStacks s (switchStandin good s) := by
  unfold switchStandin
  split
  · exact .refl s
  · refine .ite (.refl s) ?_
    dsimp only
    split
    · exact (SameStacks.refl s).onBody _
    · exact .ite ((((SameStacks.refl s).onBody _).onBody _).trans (loadPlan_same _ _)) ((SameStacks.refl s).onBody _)

theorem handbackSwitch_same (s : State) : SameStacks s (handbackSwitch s) := (SameStacks.refl s).ite ((SameStacks.refl s).body _)

/-! ## Mailbox commands -/

theorem command_same (m op : Nat) (sel : List Byte → Bool) (f : List Byte → State → Reply × State) (s : State)
    (hf : ∀ body s, SameStacks s (f body s).2) : SameStacks s (command m op sel f s) := by
  unfold command
  split
  · exact .refl s
  · exact (hf _ s).body _

theorem commandB_same (m op : Nat) (sel : List Byte → Bool) (f : List Byte → Body → Reply × Body) (s : State) :
    SameStacks s (commandB m op sel f s) := command_same _ _ _ _ _ fun _ s => (SameStacks.refl s).body _

theorem planLoad_same (body : List Byte) (s : State) : SameStacks s (planLoad body s).2 := by
  have himage := readPlanImage_same (bfield body 0 8) (bfield body 8 8) s
  unfold planLoad
  dsimp only
  iterate 4
    split
    · exact .refl s
  split
  · exact himage
  · exact (himage.trans (loadPlan_same _ _)).onBody _

theorem fwStage_same (body : List Byte) (s : State) : SameStacks s (fwStage body s).2 := by
  have himage := readImage_same (bfield body 0 8) (bfield body 8 4) s
  unfold fwStage
  dsimp only
  iterate 3
    split
    · exact (SameStacks.refl s).onBody _
  split
  · exact himage.onBody _
  · exact (himage.onBody _).onBody _

/-! ## Reads by address -/

theorem bar2Read_same (addr n : Nat) (s : State) : SameStacks s (bar2Read addr n s) := by
  have hbody : ∀ f, SameStacks s (onBody f s) := (SameStacks.refl s).onBody
  have hread : ∀ b f, SameStacks s (onBody f { s with body := b }) := fun b => ((SameStacks.refl s).body b).onBody
  unfold bar2Read
  dsimp only
  split
  · exact .ite (hbody _) ((readSealed_same addr n s).onBody _)
  · split
    · split
      · exact hbody _
      · exact .ite (hbody _) (.ite (hbody _) (hread _ _))
    · split
      · exact hbody _
      · exact hread _ _
      · exact hread _ _

theorem firmwareRead_same (addr n : Nat) (s : State) : SameStacks s (firmwareRead addr n s) := by
  have hbody : ∀ f, SameStacks s (onBody f s) := (SameStacks.refl s).onBody
  have hdone : ∀ {t} (c : Bool) f g, SameStacks s t → SameStacks s (if c = true then onBody f t else onBody g t) :=
    fun c f g h => .ite (h.onBody f) (h.onBody g)
  unfold firmwareRead
  dsimp only
  split
  · exact .ite (hdone _ _ _ (readSealed_same addr n s)) (hbody _)
  · split
    · split
      · exact hbody _
      · exact hdone _ _ _ ((SameStacks.refl s).body _)
    · exact .ite (hbody _) (hbody _)

theorem registerRead_same (who : Requester) (addr n : Nat) (s : State) : SameStacks s (registerRead who addr n s) := by
  unfold registerRead
  split
  case h_2 => exact bar2Read_same addr n s
  case h_7 => exact firmwareRead_same addr n s
  all_goals exact (SameStacks.refl s).onBody _

/-! ## The outcome of a command that leaves the stacks -/

section Outcomes

variable {f : Body → Body} {g : State → State} {ok : Bool} {s t : State}

theorem lift_same (h : lift f s = .next t) : SameStacks s t := by
  cases h
  exact (SameStacks.refl s).body _

theorem onUnit_same (h : onUnit ok f s = .next t) : SameStacks s t := by
  unfold onUnit at h
  split at h
  · exact lift_same h
  · cases h

theorem onSlot_same {ix op : Nat} {f : Body → Station → SlotRes} {sl : Slot} (h : onSlot ix op f sl s = .next t) : SameStacks s t := by
  unfold onSlot at h
  split at h
  · cases h
  · split at h
    · exact lift_same h
    · split at h
      · cases h
      · exact lift_same h

theorem onUnitS_eq (h : onUnitS ok g s = .next t) : t = g s := by
  unfold onUnitS at h
  split at h
  · exact (Host.Outcome.next.inj h).symm
  · cases h

theorem onUnitS_same (hg : SameStacks s (g s)) (h : onUnitS ok g s = .next t) : SameStacks s t := onUnitS_eq h ▸ hg

theorem next_same {u : State} (hu : SameStacks s u) (h : (.next u : Host.Outcome State Fault Refusal) = .next t) : SameStacks s t := by
  cases h
  exact hu

theorem execNop_same {ix : Nat} {sl : Slot} (h : execNop ix sl s = .next t) : SameStacks s t := by
  unfold execNop at h
  split at h
  · cases h
  · exact onSlot_same h

end Outcomes

/-- A command that is not one of those that write stacks leaves them as they are. -/
theorem exec_same {c : Instr} {s t : State} (hc : writesStacks c = false) (h : exec c s = .next t) : SameStacks s t := by
  cases c
  case nop => exact execNop_same h
  case commitHold => exact next_same ((SameStacks.refl s).body _) h
  case pcieLinkLoss => exact next_same ((SameStacks.refl s).body _) h
  case quiesceComplete die => exact onUnitS_same (quiesceComplete_same die s) h
  case pairNote => exact onUnitS_same (byFirmware_onBody_same _ s) h
  case returnI => exact onUnitS_same (byFirmware_onBody_same _ s) h
  case planLoad => exact onUnitS_same (command_same _ _ _ _ s planLoad_same) h
  case fwStage => exact onUnitS_same (command_same _ _ _ _ s fwStage_same) h
  case standinLoadComplete addr len => exact next_same (byFirmware_same (standinLoaded_same addr len s)) h
  case handbackSwitch => exact next_same (handbackSwitch_same s) h
  case registerRead who addr n => exact next_same (registerRead_same who addr n s) h
  case bar2Read addr n => exact next_same (bar2Read_same addr n s) h
  all_goals first
    | exact Bool.noConfusion (show true = false from hc)
    | exact onSlot_same h
    | exact lift_same h
    | exact onUnit_same h
    | exact onUnitS_same (commandB_same _ _ _ _ s) h
    | exact next_same (byFirmware_onBody_same _ s) h

/-- Settles O7: a command that does not write stacks only changes what stands beside them. -/
theorem stackFrame : Obligations.StackFrame := by
  intro c s t hc h
  have hmem : t.mem = s.mem := (exec_same hc h).mem
  exact ⟨hmem, fun a => by rw [hmem]⟩

/-! ## Staging tails and the stroke commit (R193 to R200) -/

theorem writeRegion_keeps (k off : Nat) (bs : List Byte) (s : State) : Keeps s (writeRegion k off bs s) :=
  (Keeps.refl s).ite (writeStackBytes_keeps _ _ s)

theorem setTailState_keeps (k st : Nat) (s : State) : Keeps s (setTailState k st s) := (Keeps.body s _).trans (writeRegion_keeps _ _ _ _)

theorem appendStaged_keeps (k : Nat) (s : State) : Keeps s (appendStaged k s) := by
  unfold appendStaged
  refine (Keeps.refl s).ite ?_
  split
  · exact Keeps.refl s
  · dsimp only
    refine .ite ((Keeps.refl s).withBody _ |>.withBody _) (.withBody ?_ _)
    refine .ite (.trans ?_ (setTailState_keeps _ _ _)) ?_ <;>
      exact (((Keeps.refl s).withBody _).trans (writeRegion_keeps _ _ _ _)).withBody _

theorem sealTail_keeps (k : Nat) (s : State) : Keeps s (sealTail k s) :=
  (((Keeps.refl s).withBody _).trans (setTailState_keeps _ _ _)).trans (setTailState_keeps _ _ _)

theorem commitStart_keeps (s : State) : Keeps s (commitStart s) := by
  unfold commitStart
  dsimp only
  refine .ite (Keeps.refl s) (.ite (Keeps.onBody _ s) (.ite (Keeps.refl s) (.withBody ?_ _)))
  exact (Keeps.onBody _ s).trans (Keeps.foldl _ (fun s k => sealTail_keeps k s) _ _)

theorem tailApplied_keeps (k : Nat) (s : State) : Keeps s (tailApplied k s) := by
  unfold tailApplied
  dsimp only
  refine .ite (.withBody ?_ _) (Keeps.refl s)
  have htail := applyEntries_keeps k none (stk s.body k).tail s
  have hmirror := htail.trans (applyEntries_keeps k (some (mirrorOffset s.body k)) (stk s.body k).mirrorTail _)
  exact ((hmirror.trans (setTailState_keeps k 4 _)).withBody _).trans (setTailState_keeps _ _ _)

theorem emptyTail_keeps (k : Nat) (s : State) : Keeps s (emptyTail k s) := (Keeps.onBody _ s).trans (setTailState_keeps _ _ _)

theorem commitDiscard_keeps (s : State) : Keeps s (commitDiscard s) :=
  (Keeps.onBody _ s).ite (Keeps.foldl _ (fun s k => emptyTail_keeps k s) _ s)

theorem commitRetry_keeps (s : State) : Keeps s (commitRetry s) :=
  Keeps.foldl _ (fun s _ => .ite ((Keeps.onBody _ s).trans (setTailState_keeps _ _ _)) (Keeps.refl s)) _ s

/-! ## Replay and abort (R304 to R316) -/

theorem startRepairs_keeps (tail : RepairTail) (s : State) : Keeps s (startRepairs tail s) := (startRepairs_same tail s).keeps

theorem prepare_keeps (s : State) : Keeps s (prepare s) := by
  unfold prepare
  split
  · exact Keeps.refl s
  · refine .trans (.withBody (.withBody ?_ _) _) (startRepairs_keeps _ _)
    exact .ite (Keeps.onBody _ s) ((Keeps.onBody _ s).trans (commitDiscard_keeps _))

theorem takeReplay_keeps (stroke : Nat) (body : StartBody) (d : Nat) (s : State) : Keeps s (takeReplay stroke body d s) :=
  .ite ((Keeps.onBody _ s).withBody _) ((Keeps.onBody _ s).trans (prepare_keeps _))

theorem seatReplay_keeps (cls : Nat) (pairLoss : Option (Nat × Nat)) (r : FailRecord) (s : State) : Keeps s (seatReplay cls pairLoss r s) := by
  unfold seatReplay
  dsimp only
  split
  · exact Keeps.refl s
  · exact (Keeps.onBody _ s).trans (takeReplay_keeps _ _ _ _)

theorem abortRun_keeps (r : FailRecord) (s : State) : Keeps s (abortRun r s) := by
  unfold abortRun
  dsimp only
  refine .ite (Keeps.refl s) (.trans (.withBody (.withBody ?_ _) _) (startRepairs_keeps _ _))
  have hended : Keeps s (if strokeBarrierDone s.body ∧ !s.body.flock.commitDone ∧ !s.body.flock.filling then
      commitStart (onBody (fun b => setFlag b R.MEM_COMMIT_CTRL.hold 0 false) s) else s) :=
    .ite ((Keeps.onBody _ s).trans (commitStart_keeps _)) (Keeps.refl s)
  exact .ite (hended.withBody _) ((hended.withBody _).trans (commitDiscard_keeps _))

theorem takeAbort_keeps (stroke cls origin : Nat) (s : State) : Keeps s (takeAbort stroke cls origin s) := abortRun_keeps _ s

theorem seatAbort_keeps (cls origin : Nat) (r : FailRecord) (s : State) : Keeps s (seatAbort cls origin r s) :=
  (Keeps.onBody _ s).trans (abortRun_keeps r _)

theorem replayTel_keeps (h : TelHead) (body : StartBody) (s : State) : Keeps s (replayTel h body s) :=
  .ite ((Keeps.body s _).trans (takeReplay_keeps _ _ _ _)) (Keeps.body s _)

theorem replayRequest_keeps (m cls : Nat) (inPrep : Bool) (s : State) : Keeps s (replayRequest m cls inPrep s) :=
  .ite (Keeps.refl s) (.ite (seatAbort_keeps _ _ _ s) (.ite (Keeps.refl s) (seatReplay_keeps _ _ _ s)))

theorem commitComplete_keeps (s : State) : Keeps s (commitComplete s) := by
  unfold commitComplete
  dsimp only
  refine .ite (Keeps.refl s) (.ite (((Keeps.onBody _ s).withBody _).trans (prepare_keeps _)) ?_)
  split
  · exact ((Keeps.onBody _ s).withBody _).trans (switchStandin_same _ _).keeps
  · exact (Keeps.onBody _ s).withBody _

/-- The state in which firmware has read its reports and has written again the units that its pair's copy covers (R298, R314). -/
def reportsTaken (copy : List Byte) (s : State) : State :=
  let rs := s.body.reports
  let fs := findings s.body rs s.body.fail.repairs
  let s := if fillRefused s.body then commitDiscard s else s
  let s := onBody (fun b => noteReports rs b.fail.repairs { b with reports := [] }) s
  let s := (fs.filterMap (·.unit)).zipIdx.foldl (fun s u => writeStackBytes u.1 ((copy.drop (32 * u.2)).take 32) s) s
  onBody (updFail (fun f => { f with repairs := f.repairs ++ fs.flatMap (·.repair) })) s

theorem reportsTaken_keeps (copy : List Byte) (s : State) : Keeps s (reportsTaken copy s) := by
  have hdiscarded : Keeps s (if fillRefused s.body then commitDiscard s else s) := .ite (commitDiscard_keeps s) (Keeps.refl s)
  exact ((hdiscarded.withBody _).trans (Keeps.foldl _ (fun s u => writeStackBytes_keeps _ _ s) _ _)).withBody _

theorem faultReport_keeps (copy : List Byte) (s : State) : Keeps s (faultReport copy s) := by
  have htaken := reportsTaken_keeps copy s
  unfold faultReport
  refine .ite (Keeps.refl s) ?_
  dsimp only
  split
  · exact .ite ((htaken.withBody _).trans (startRepairs_keeps _ _)) ((htaken.withBody _).trans (startRepairs_keeps _ _))
  · split
    · exact htaken
    · refine .ite (htaken.withBody _) (.ite ((htaken.withBody _).trans (startRepairs_keeps _ _)) (.ite (htaken.trans (abortRun_keeps _ _))
        (.ite (htaken.trans (seatAbort_keeps _ _ _ _)) (.ite (htaken.withBody _) (.ite (htaken.trans (seatReplay_keeps _ _ _ _)) ?_)))))
      exact .ite (htaken.withBody _) ((htaken.withBody _).withBody _)

/-! ## The Shepherds (R487 to R499) -/

theorem handOver_keeps (fr : List Byte) (s : State) : Keeps s (handOver fr s) := by
  unfold handOver
  dsimp only
  split
  · exact .ite (Keeps.onBody _ s) (.ite (Keeps.onBody _ s) (Keeps.refl s))
  · split
    case h_1 => exact replayRequest_keeps _ _ _ s
    case h_2 => exact takeAbort_keeps _ _ _ s
    case h_9 => exact Keeps.refl s
    all_goals exact Keeps.onBody _ s

theorem drainInbox_keeps (s : State) : Keeps s (drainInbox s) :=
  .ite ((Keeps.onBody _ s).trans (Keeps.foldl _ (fun s fr => handOver_keeps fr s) _ _)) (Keeps.refl s)

/-- What a Shepherd does to the body, and the frames that waited for it. -/
theorem drained_keeps (s : State) (b : Body) : Keeps s (drainInbox { s with body := b }) := (Keeps.body s b).trans (drainInbox_keeps _)

theorem takeover_keeps (cause us : Nat) (s : State) : Keeps s (takeover cause us s) := by
  unfold takeover
  split
  · exact Keeps.refl s
  · exact .ite (Keeps.body s _) (drained_keeps s _)

theorem heartbeatMissed_keeps (us : Nat) (s : State) : Keeps s (heartbeatMissed us s) := .ite (takeover_keeps _ _ s) (Keeps.refl s)

theorem heartbeat_keeps (w counter : Nat) (s : State) : Keeps s (heartbeat w counter s) := by
  unfold heartbeat
  refine .ite (Keeps.refl s) ?_
  dsimp only
  split
  · exact Keeps.body s _
  · split
    · exact Keeps.body s _
    · exact Keeps.body s _
    · exact .ite (takeover_keeps _ _ s) (Keeps.body s _)

theorem selfTestPass_keeps (w : Nat) (s : State) : Keeps s (selfTestPass w s) := .ite (Keeps.refl s) (drained_keeps s _)

theorem shepherdBoot_keeps (w failA failB : Nat) (s : State) : Keeps s (shepherdBoot w failA failB s) :=
  .ite (Keeps.refl s) (.ite (Keeps.body s _) (.ite (Keeps.body s _) (drained_keeps s _)))

theorem frameReceive_keeps (fr : List Byte) (s : State) : Keeps s (frameReceive fr s) := by
  unfold frameReceive
  refine .ite (Keeps.refl s) (.ite (Keeps.body s _) (.ite (Keeps.refl s) ?_))
  dsimp only
  split
  · exact drained_keeps s _
  · split
    · exact drained_keeps s _
    · exact drained_keeps s _
    · exact Keeps.body s _

theorem trialSwitch_keeps (s : State) : Keeps s (trialSwitch s) := by
  unfold trialSwitch
  dsimp only
  split
  · split
    · exact Keeps.body s _
    · exact .ite (Keeps.refl s) (Keeps.body s _)
    · exact Keeps.refl s
  · split
    · exact .ite (drained_keeps s _) (Keeps.refl s)
    · exact Keeps.refl s

/-! ## Host drovers and writes by address (R172, R192) -/

theorem writePlaceBytes_keeps (p : Place) (bs : List Byte) (s : State) : Keeps s (writePlaceBytes p bs s) := by
  unfold writePlaceBytes
  split
  · split
    · exact Keeps.onBody _ s
    · exact Keeps.refl s
  · exact writeStackBytes_keeps _ _ s
  · exact Keeps.refl s

theorem hostMoves_keeps (ms : List Move) (data fed : List Byte) (s : State) : Keeps s (hostMoves ms data fed s).2 := by
  induction ms generalizing data fed s with
  | nil => exact Keeps.refl s
  | cons m ms ih =>
    unfold hostMoves
    split
    · exact Keeps.refl s
    · split
      · exact Keeps.refl s
      · exact (writePlaceBytes_keeps _ _ s).trans (ih _ _ _)
    · split
      · exact Keeps.refl s
      · have hread := (readPlace_same (by assumption) m.len s).keeps
        dsimp only
        split
        · exact hread
        · exact (hread.withBody _).trans (ih _ _ _)

theorem hostRun_keeps (h : Nat) (data : List Byte) (s : State) : Keeps s (hostRun h data s) := by
  unfold hostRun
  refine .ite (Keeps.refl s) ?_
  dsimp only
  split
  · exact Keeps.body s _
  · have hmoved := hostMoves_keeps (movesOf (descOf (hqSlotBytes s.body h (getF s.body R.DRV_HQ_HEAD.head h))) []) data [] s
    split
    · exact hmoved.withBody _
    · exact hmoved.withBody _

theorem commitBits_keeps (addr : Nat) (data : List Byte) (s : State) : Keeps s (commitBits addr data s) := by
  unfold commitBits
  split
  · refine .ite (Keeps.refl s) ?_
    have hdiscarded : Keeps s (if bit (ofLeBytes (data.take 4)) 1 then commitDiscard s else s) := .ite (commitDiscard_keeps s) (Keeps.refl s)
    exact .ite (hdiscarded.trans (commitRetry_keeps _)) hdiscarded
  · exact Keeps.refl s

theorem firmwareWrite_keeps (who : Requester) (addr : Nat) (data : List Byte) (s : State) : Keeps s (firmwareWrite who addr data s) := by
  unfold firmwareWrite
  dsimp only
  split
  · exact .ite (writeStack_keeps _ _ s) (Keeps.onBody _ s)
  · split
    · split
      · exact Keeps.onBody _ s
      · exact Keeps.onBody _ s
    · exact .ite (Keeps.onBody _ s) (.ite ((Keeps.onBody _ s).trans (commitBits_keeps _ _ _)) (Keeps.onBody _ s))

theorem registerWrite_keeps (who : Requester) (addr : Nat) (data : List Byte) (s : State) : Keeps s (registerWrite who addr data s) := by
  unfold registerWrite
  split
  case h_2 => exact Keeps.refl s
  case h_7 => exact firmwareWrite_keeps _ _ _ s
  all_goals exact Keeps.onBody _ s

theorem bar2Write_keeps (addr : Nat) (data : List Byte) (s : State) : Keeps s (bar2Write addr data s) := by
  unfold bar2Write
  dsimp only
  split
  · exact .ite (Keeps.onBody _ s) (writeStack_keeps _ _ s)
  · split
    · split
      · exact Keeps.onBody _ s
      · exact .ite (Keeps.refl s) (.ite (Keeps.onBody _ s) (Keeps.onBody _ s))
    · exact .ite (Keeps.onBody _ s) (Keeps.refl s)

/-! ## Every command -/

/-- Stacks that have lost their supply hold nothing, which is canonical. -/
theorem emptied_keeps (s : State) (b : Body) : Keeps s { s with mem := [], body := b } := ⟨rfl, fun _ => rfl⟩

theorem moduleReset_keeps (s : State) : Keeps s (moduleReset s) :=
  .ite (Keeps.refl s) (.ite (.ite (Keeps.refl s) (Keeps.onBody _ s)) (emptied_keeps s _))

theorem powerOnReset_keeps {s t : State} (h : exec .powerOnReset s = .next t) : Keeps s t := by
  cases h
  refine ⟨rfl, fun hw => ?_⟩
  dsimp only
  split
  · exact hw
  · rfl

theorem onUnitS_keeps {ok : Bool} {g : State → State} {s t : State} (hg : Keeps s (g s)) (h : onUnitS ok g s = .next t) : Keeps s t :=
  onUnitS_eq h ▸ hg

theorem next_keeps {s t u : State} (hu : Keeps s u) (h : (.next u : Host.Outcome State Fault Refusal) = .next t) : Keeps s t := by
  cases h
  exact hu

/-- Every command keeps the queue's rest and the canonical form of the stacks. -/
theorem exec_keeps {c : Instr} {s t : State} (h : exec c s = .next t) : Keeps s t := by
  by_cases hc : writesStacks c = false
  · exact (exec_same hc h).keeps
  · cases c
    case registerWrite who addr data => exact next_keeps (registerWrite_keeps who addr data s) h
    case bar2Write addr data => exact next_keeps (bar2Write_keeps addr data s) h
    case stackScrubRead u upset => exact onUnitS_keeps (stackScrub_keeps u upset s) h
    case stackAccessComplete k pc upset => exact onUnitS_keeps (accessComplete_keeps k pc upset s) h
    case stagedEntryAppend k => exact onUnitS_keeps (appendStaged_keeps k s) h
    case tailApplyComplete k => exact onUnitS_keeps (tailApplied_keeps k s) h
    case commitStart => exact next_keeps (commitStart_keeps s) h
    case commitComplete => exact next_keeps (commitComplete_keeps s) h
    case commitDiscard => exact next_keeps (commitDiscard_keeps s) h
    case commitRetryApply => exact next_keeps (commitRetry_keeps s) h
    case hostDescriptorRun hq data => exact onUnitS_keeps (hostRun_keeps hq data s) h
    case faultReport copy => exact next_keeps (faultReport_keeps copy s) h
    case abortI stroke cls origin => exact next_keeps (byFirmware_keeps (takeAbort_keeps stroke cls origin s)) h
    case replayRequest m stroke g cls inPrep => exact onUnitS_keeps (byFirmware_keeps (replayRequest_keeps m cls inPrep s)) h
    case replayStart hd b => exact next_keeps (replayTel_keeps hd b s) h
    case fwTrialSwitch => exact next_keeps (trialSwitch_keeps s) h
    case heartbeatMissed us => exact next_keeps (heartbeatMissed_keeps us s) h
    case lockstepMismatch us => exact next_keeps (takeover_keeps 2 us s) h
    case takeoverRequest us => exact next_keeps (takeover_keeps 3 us s) h
    case shepherdBoot w failA failB => exact onUnitS_keeps (shepherdBoot_keeps w failA failB s) h
    case shepherdFrameReceive frame => exact next_keeps (frameReceive_keeps frame s) h
    case shepherdHeartbeat w counter => exact onUnitS_keeps (heartbeat_keeps w counter s) h
    case shepherdSelfTestPass w => exact onUnitS_keeps (selfTestPass_keeps w s) h
    case moduleReset => exact next_keeps (moduleReset_keeps s) h
    case powerOnReset => exact powerOnReset_keeps h
    all_goals exact absurd rfl hc

/-- Settles O4: a tick changes the time alone, and every command keeps what follows it in the queue and the canonical form. -/
theorem stepKeepsInvariant : Obligations.StepKeepsInvariant := by
  rintro ⟨pending, mem, b⟩ t hinv h
  cases pending with
  | nil =>
    obtain rfl : tick ⟨[], mem, b⟩ = t := Host.Outcome.next.inj h
    exact ⟨hinv, rfl⟩
  | cons c rest =>
    have hkeeps : Keeps ⟨rest, mem, b⟩ t := exec_keeps (c := c) h
    exact ⟨hkeeps.canon hinv, hkeeps.queue⟩

/-! ## Completion of well-formed commands -/

section Completion

variable {ok x y : Bool} {f : Body → Body} {g : State → State} {s : State}

theorem onUnit_answers (h : ok = true) : ∃ t, onUnit ok f s = .next t := ⟨_, if_pos h⟩

theorem onUnit_answers_of_and (h : (ok && x) = true) : ∃ t, onUnit ok f s = .next t := onUnit_answers (Bool.and_elim_left h)

theorem onUnit_answers_of_and_and (h : (ok && x && y) = true) : ∃ t, onUnit ok f s = .next t :=
  onUnit_answers_of_and (Bool.and_elim_left h)

theorem onUnitS_answers (h : ok = true) : ∃ t, onUnitS ok g s = .next t := ⟨_, if_pos h⟩

theorem onUnitS_answers_of_and (h : (ok && x) = true) : ∃ t, onUnitS ok g s = .next t := onUnitS_answers (Bool.and_elim_left h)

theorem onSlot_answers {ix op : Nat} {f : Body → Station → SlotRes} {sl : Slot} (h : sl.spells op = true) :
    ∃ t, onSlot ix op f sl s = .next t := by
  simp only [Slot.spells, Bool.and_eq_true, beq_iff_eq] at h
  obtain ⟨⟨hst, -⟩, hop⟩ := h
  exact ⟨{ s with body := presentSlot ix f sl s.body }, by simp [onSlot, hst, hop, lift]⟩

theorem execNop_answers {ix : Nat} {sl : Slot} (h : (decide (ix < 4) && sl.spells 0x00) = true) : ∃ t, execNop ix sl s = .next t := by
  obtain ⟨hix, hsl⟩ := Bool.and_eq_true_iff.mp h
  unfold execNop
  rw [if_neg (by simpa using hix)]
  exact onSlot_answers hsl

end Completion

/-- Settles O5: a command of a unit asks for that unit, a slot for its own opcode, and nothing else can stop a command. -/
theorem wellFormedCompletes : Obligations.WellFormedCompletes := by
  intro c h s
  cases c
  case nop => exact execNop_answers h
  all_goals first
    | exact ⟨_, rfl⟩
    | exact onSlot_answers h
    | exact onUnit_answers h
    | exact onUnit_answers_of_and h
    | exact onUnit_answers_of_and_and h
    | exact onUnitS_answers h
    | exact onUnitS_answers_of_and h

end Sys2Proof.Machine

/-! SUPPORT. Scalar words as bit vectors, and the scalar operations, branches and loops of the C slot (O10 to O12). -/

namespace Sys2Proof.Machine

/-! ## Words -/

theorem sint_eq_toInt {n : Nat} (x : BitVec n) : sint n x.toNat = x.toInt := by
  have hlt := x.isLt
  cases n with
  | zero => obtain rfl : x = 0#0 := BitVec.eq_nil x; rfl
  | succ m =>
    have hpow : 2 ^ (m + 1) = 2 * 2 ^ m := by rw [Nat.pow_succ, Nat.mul_comm]
    rw [BitVec.toInt_eq_toNat_cond, sint, Nat.mod_eq_of_lt hlt, Nat.add_sub_cancel]
    split <;> split <;> first | rfl | omega

theorem uint_eq_toNat_ofInt (n : Nat) (i : Int) : uint n i = (BitVec.ofInt n i).toNat := (BitVec.toNat_ofInt i).symm

theorem sreg_lt (t : Station) (r : Nat) : sreg t r < 2 ^ 64 := by
  unfold sreg
  split
  · decide
  · exact BitVec.isLt _

/-- A scalar register as a 64-bit word. -/
theorem sreg_eq_toNat (t : Station) (r : Nat) : sreg t r = (BitVec.ofNat 64 (sreg t r)).toNat :=
  (Nat.mod_eq_of_lt (sreg_lt t r)).symm

/-- The immediate of a C slot is its 32 bits, sign-extended. -/
theorem cimm_eq_toInt (w : Nat) : cimm w = (BitVec.ofNat 32 (bits w 32 32)).toInt := by
  rw [← sint_eq_toInt, BitVec.toNat_ofNat, Nat.mod_eq_of_lt (bits_lt w 32 32), cimm]

theorem uint_cimm (w : Nat) : uint 64 (cimm w) = ((BitVec.ofNat 32 (bits w 32 32)).signExtend 64).toNat := by
  rw [uint_eq_toNat_ofInt, cimm_eq_toInt]
  rfl

/-- Operand b of a scalar operation as a 64-bit word. -/
theorem cOperand_eq_toNat (w : Nat) (t : Station) : cOperand w t
    = (if cib w then (BitVec.ofNat 32 (bits w 32 32)).signExtend 64 else BitVec.ofNat 64 (sreg t (csb w))).toNat := by
  unfold cOperand
  split
  · exact uint_cimm w
  · exact sreg_eq_toNat _ _

/-! ## Scalar operations -/

section ScalarSlot

variable {sl : Slot} {s : State}

/-- A legal C slot that only writes a scalar register retires with that register written. -/
theorem setS_retires {c : Instr} {op d v : Nat} {f : Body → Station → SlotRes} (hx : exec c s = onSlot 3 op f sl s)
    (ha : alone sl s.body = true) (hop : bits sl.w 0 8 = op)
    (hf : f s.body (stn s.body sl.st) = ⟨[.setS d v], [], []⟩) : Retires c sl s (setS (stn s.body sl.st) d v) := by
  obtain ⟨t, ht, hissued⟩ := onSlot_upd 3 op f sl s _ (fun t => setS t d v) (by decide) ha hop hf rfl (fun _ _ => rfl)
    (fun _ _ => setS_loops _ _ _ _)
  exact ⟨t, hx.trans ht, hissued⟩

/-- A scalar operation writes its result, a 64-bit word. -/
theorem alu_retires {c : Instr} {op : Nat} {f : Nat → Nat → Nat} {x : BitVec 64} (hx : exec c s = onSlot 3 op (fun _ t => aluSlot sl.w t f) sl s)
    (ha : alone sl s.body = true) (hop : bits sl.w 0 8 = op)
    (hw : onlyFields sl.w ([(0, 8), (8, 5), (13, 5)] ++ bFields sl.w) = true)
    (hsrc : sourceHolds (stn s.body sl.st) [csd sl.w, csa sl.w, csb sl.w] [] [] = [])
    (hf : f (sreg (stn s.body sl.st) (csa sl.w)) (cOperand sl.w (stn s.body sl.st)) % 2 ^ 64 = x.toNat) :
    Retires c sl s (setS (stn s.body sl.st) (csd sl.w) x.toNat) :=
  setS_retires hx ha hop (hf ▸ cSlot_legal (fields := [(8, 5), (13, 5)] ++ bFields sl.w) _ hw hsrc)

end ScalarSlot

theorem add_mod_toNat {n : Nat} (a c : BitVec n) : (a.toNat + c.toNat) % 2 ^ n = (a + c).toNat := (BitVec.toNat_add a c).symm

theorem sub_mod_toNat {n : Nat} (a c : BitVec n) : (a.toNat + 2 ^ n - c.toNat) % 2 ^ n = (a - c).toNat := by
  have hc := c.isLt
  rw [BitVec.toNat_sub]
  congr 1
  omega

theorem and_mod_toNat {n : Nat} (a c : BitVec n) : a.toNat.land c.toNat % 2 ^ n = (a &&& c).toNat := Nat.mod_eq_of_lt (a &&& c).isLt

theorem or_mod_toNat {n : Nat} (a c : BitVec n) : a.toNat.lor c.toNat % 2 ^ n = (a ||| c).toNat := Nat.mod_eq_of_lt (a ||| c).isLt

theorem xor_mod_toNat {n : Nat} (a c : BitVec n) : a.toNat.xor c.toNat % 2 ^ n = (a ^^^ c).toNat := by
  rw [BitVec.toNat_xor]
  exact Nat.mod_eq_of_lt (Nat.xor_lt_two_pow a.isLt c.isLt)

theorem shl_mod_toNat {n : Nat} (a : BitVec n) (k : Nat) : a.toNat * 2 ^ k % 2 ^ n = (a <<< k).toNat := by
  rw [BitVec.toNat_shiftLeft, Nat.shiftLeft_eq]

theorem shr_mod_toNat {n : Nat} (a : BitVec n) (k : Nat) : a.toNat / 2 ^ k % 2 ^ n = (a >>> k).toNat := by
  rw [BitVec.toNat_ushiftRight, Nat.shiftRight_eq_div_pow]
  exact Nat.mod_eq_of_lt (Nat.lt_of_le_of_lt (Nat.div_le_self _ _) a.isLt)

theorem sra_mod_toNat {n : Nat} (a : BitVec n) (k : Nat) : uint n (sint n a.toNat / (2 ^ k : Nat)) % 2 ^ n = (a.sshiftRight k).toNat := by
  have hval : sint n a.toNat / (2 ^ k : Nat) = (a.sshiftRight k).toInt := by
    rw [sint_eq_toInt, BitVec.toInt_sshiftRight, Int.shiftRight_eq_div_pow]
  rw [hval, uint_eq_toNat_ofInt, BitVec.ofInt_toInt]
  exact Nat.mod_eq_of_lt (BitVec.isLt _)

theorem mul_mod_toNat {n : Nat} (a c : BitVec n) : a.toNat * c.toNat % 2 ^ n = (a * c).toNat := (BitVec.toNat_mul a c).symm

/-- A truth value as a 64-bit word. -/
theorem truth_mod_toNat {P : Prop} [Decidable P] {q : Bool} (h : P ↔ q = true) :
    (if P then 1 else 0) % 2 ^ 64 = (if q then 1 else 0 : BitVec 64).toNat := by
  by_cases hp : P
  · rw [if_pos hp, if_pos (h.mp hp)]; rfl
  · rw [if_neg hp, if_neg (mt h.mpr hp)]; rfl

theorem sint_lt_iff_slt (a c : BitVec 64) : sint 64 a.toNat < sint 64 c.toNat ↔ a.slt c = true := by
  rw [sint_eq_toInt, sint_eq_toInt, BitVec.slt, decide_eq_true_eq]

theorem toNat_lt_iff_ult (a c : BitVec 64) : a.toNat < c.toNat ↔ a.ult c = true := by rw [BitVec.ult, decide_eq_true_eq]

/-- lih replaces the upper half of a word. -/
theorem setBits_high_half (x h : Nat) (hx : x < 2 ^ 64) (hh : h < 2 ^ 32) :
    setBits x 32 32 h = (BitVec.ofNat 32 h ++ BitVec.ofNat 32 x).toNat := by
  rw [BitVec.toNat_append, BitVec.toNat_ofNat, BitVec.toNat_ofNat, Nat.mod_eq_of_lt hh, ← Nat.shiftLeft_add_eq_or_of_lt (Nat.mod_lt _ (by decide)),
    Nat.shiftLeft_eq, setBits, bits]
  omega

/-- Settles O10: each operation is a legal C slot whose one effect writes its 64-bit result. -/
theorem scalarArithmetic : Obligations.ScalarArithmetic := by
  constructor
  · intro sl s ha hw t hsrc a c k r hr hop
    have hreg : sreg t (csa sl.w) = a.toNat := sreg_eq_toNat t (csa sl.w)
    have harg : cOperand sl.w t = c.toNat := cOperand_eq_toNat sl.w t
    have run : ∀ {i op x} (f : Nat → Nat → Nat), exec i s = onSlot 3 op (fun _ t => aluSlot sl.w t f) sl s → bits sl.w 0 8 = op →
        f a.toNat c.toNat % 2 ^ 64 = BitVec.toNat x → Retires i sl s (setS t (csd sl.w) x.toNat) :=
      fun f hx hop hf => alu_retires hx ha hop hw hsrc (by rwa [hreg, harg])
    simp only [List.mem_cons, List.not_mem_nil, or_false] at hr
    rcases hr with rfl | rfl | rfl | rfl | rfl | rfl | rfl | rfl | rfl | rfl | rfl
    · exact run _ rfl hop (add_mod_toNat a c)
    · exact run _ rfl hop (sub_mod_toNat a c)
    · exact run _ rfl hop (and_mod_toNat a c)
    · exact run _ rfl hop (or_mod_toNat a c)
    · exact run _ rfl hop (xor_mod_toNat a c)
    · exact run _ rfl hop (shl_mod_toNat a k)
    · exact run _ rfl hop (shr_mod_toNat a k)
    · exact run _ rfl hop (sra_mod_toNat a k)
    · exact run _ rfl hop (mul_mod_toNat a c)
    · exact run _ rfl hop (truth_mod_toNat (sint_lt_iff_slt a c))
    · exact run _ rfl hop (truth_mod_toNat (toNat_lt_iff_ult a c))
  · intro sl s ha hw t imm hsrc
    refine ⟨fun hop => ?_, fun hop => ?_⟩
    · rw [← uint_cimm]
      exact setS_retires rfl ha hop (cSlot_legal _ hw hsrc)
    · rw [← setBits_high_half _ _ (sreg_lt t _) (bits_lt sl.w 32 32)]
      exact setS_retires rfl ha hop (cSlot_legal _ hw hsrc)

end Sys2Proof.Machine

/-! SUPPORT. Bundles of one slot that name the next bundle, and those that raise a precise exception (O11, O12). -/

namespace Sys2Proof.Machine

/-! ## What may follow an issue -/

section After

variable {pc : Nat} {ls : List LoopEntry} {sl : Slot} {s : State} {c : Body} {x : Station}

/-- A bundle that has issued, whose effect changes the station once more. -/
theorem IssuedAt.updStn (h : IssuedAt pc ls [] sl s { s with body := c } x) (g : Station → Station) {ks : List LoopEntry} {y : Station}
    (hg : g { x with loops := ls } = { y with loops := ks }) : IssuedAt pc ks [] sl s { s with body := updStn c sl.st g } y := by
  obtain ⟨-, -, honly, hstn, hother, hpc, hstate, htally, hbar, hfence, hregs⟩ := h
  refine ⟨rfl, rfl, honly.updStn _ _ (by decide), ?_, fun z hz => ?_, hpc, hstate, htally, hbar, hfence, hregs.of_regs rfl⟩
  · rw [stn_updStn_same, hstn, hg]
  · rw [stn_updStn_ne _ _ _ _ hz]
    exact hother z hz

/-- A bundle that has issued, whose effect names the next bundle. -/
theorem IssuedAt.setPc (h : IssuedAt pc ls [] sl s { s with body := c } x) {target : Nat} (ht : target < 4096) :
    IssuedAt target ls [] sl s { s with body := setF c R.STN_SEQ_PC.pc sl.st target } x := by
  obtain ⟨-, -, honly, hstn, hother, -, hstate, htally, hbar, hfence, hregs⟩ := h
  have hne : ∀ f : Field, f.idx < 1024 → f.idx ≠ R.STN_SEQ_PC.pc.idx →
      getF (setF c R.STN_SEQ_PC.pc sl.st target) f sl.st = getF c f sl.st := fun f hf hn => getF_setF_field _ _ _ _ _ _ (by decide) hf hn
  refine ⟨rfl, rfl, honly.setF _ _ _ (by decide), hstn, hother, ?_, ?_, ?_, ?_, ?_, hregs.setF _ _ (by decide) (by decide)⟩
  · exact (getF_setF_same _ _ _ _).trans (Nat.mod_eq_of_lt ht)
  · exact (hne _ (by decide) (by decide)).trans hstate
  · exact (congrArg (· == 1) (hne _ (by decide) (by decide))).trans htally
  · exact (congrArg (· == 1) (hne _ (by decide) (by decide))).trans hbar
  · exact (congrArg (· == 1) (hne _ (by decide) (by decide))).trans hfence

/-- A taken branch leaves the loops whose body does not hold its target (R149). -/
theorem IssuedAt.branchTo (h : IssuedAt pc ls [] sl s { s with body := c } x) {target : Nat} (ht : target < 4096) :
    IssuedAt target (ls.filter (fun e => decide (e.start ≤ target ∧ target ≤ e.stop))) [] sl s { s with body := branchTo sl.st target c } x := by
  refine (h.updStn _ ?_).setPc ht
  simp only [Bool.decide_and]

end After

/-! ## Branches and jumps (R147 to R149) -/

theorem targetSlot_in_range {target : Nat} (ht : target < 4096) (effs : List Eff) : targetSlot target effs = SlotRes.ok effs :=
  if_neg (by omega)

section Steering

variable {sl : Slot} {s : State} (ha : alone sl s.body = true)
include ha

/-- A C slot that names the next bundle: what its effects make of the station and the pc, from the loops as they stood. -/
theorem onSlot_steered {c : Instr} {op : Nat} {f : Body → Station → SlotRes} {effs : List Eff} {target : Nat} {ks : List LoopEntry} {x : Station}
    (hx : exec c s = onSlot 3 op f sl s) (hop : bits sl.w 0 8 = op) (hf : f s.body (stn s.body sl.st) = ⟨effs, [], []⟩)
    (hs : effs.any Eff.steers = true)
    (hp : ∀ b, IssuedAt ((getF s.body R.STN_SEQ_PC.pc sl.st + 1) % 4096) (stn s.body sl.st).loops [] sl s { s with body := b } (stn s.body sl.st) →
      IssuedAt target ks [] sl s { s with body := forEach effs (applyEff sl.st (getF s.body R.STN_SEQ_PC.pc sl.st) 3) b } x) :
    ∃ u, exec c s = .next u ∧ IssuedAt target ks [] sl s u x := by
  obtain ⟨b, hb, hadv⟩ := onSlot_steers 3 op f sl s effs (by decide) ha hop hf hs
  exact ⟨_, hx.trans hb, hp b hadv.issued_nil⟩

theorem branch_taken {c : Instr} {op : Nat} {f : Body → Station → SlotRes} {target : Nat} (hx : exec c s = onSlot 3 op f sl s)
    (hop : bits sl.w 0 8 = op) (hf : f s.body (stn s.body sl.st) = ⟨[.branch target], [], []⟩) (ht : target < 4096) :
    ∃ u, exec c s = .next u ∧ IssuedAt target ((stn s.body sl.st).loops.filter (fun e => decide (e.start ≤ target ∧ target ≤ e.stop))) [] sl s u
      (stn s.body sl.st) :=
  onSlot_steered ha hx hop hf rfl fun _ h => h.branchTo ht

/-- A conditional branch with a target in range, by its condition. -/
theorem branch_runs {c : Instr} {op : Nat} {cond : Nat → Nat → Bool} {target : Nat} {q : Bool}
    (hx : exec c s = onSlot 3 op (fun b t => branchSlot sl.w sl.st b t cond) sl s) (hop : bits sl.w 0 8 = op)
    (hw : onlyFields sl.w [(0, 8), (13, 5), (18, 5), (32, 32)] = true)
    (hsrc : sourceHolds (stn s.body sl.st) [csa sl.w, csb sl.w] [] [] = []) (ht : target < 4096)
    (htarget : (target : Int) = (getF s.body R.STN_SEQ_PC.pc sl.st : Int) + cimm sl.w)
    (hq : cond (sreg (stn s.body sl.st) (csa sl.w)) (sreg (stn s.body sl.st) (csb sl.w)) = q) :
    ∃ u, exec c s = .next u ∧
      (if q then IssuedAt target ((stn s.body sl.st).loops.filter (fun e => decide (e.start ≤ target ∧ target ≤ e.stop))) [] sl s u
          (stn s.body sl.st)
       else Issued [] sl s u (stn s.body sl.st)) := by
  have hf : branchSlot sl.w sl.st s.body (stn s.body sl.st) cond = ⟨if q then [.branch target] else [], [], []⟩ := by
    unfold branchSlot
    dsimp only
    rw [cSlot_legal _ hw hsrc, hq, ← htarget, Int.toNat_natCast, targetSlot_in_range ht]
    rfl
  cases q with
  | true => exact branch_taken ha hx hop hf ht
  | false =>
    obtain ⟨u, hu, hissued⟩ := onSlot_noEffect 3 op (fun b t => branchSlot sl.w sl.st b t cond) sl s (by decide) ha hop hf
    exact ⟨u, hx.trans hu, hissued⟩

end Steering

theorem toNat_beq_toNat (a c : BitVec 64) : (a.toNat == c.toNat) = (a == c) := by
  rw [Bool.eq_iff_iff, beq_iff_eq, beq_iff_eq, BitVec.toNat_inj]

theorem decide_sint_lt (a c : BitVec 64) : decide (sint 64 a.toNat < sint 64 c.toNat) = a.slt c := by
  rw [Bool.eq_iff_iff, decide_eq_true_eq, sint_lt_iff_slt]

theorem decide_sint_le (a c : BitVec 64) : decide (sint 64 a.toNat ≤ sint 64 c.toNat) = a.sle c := by
  rw [sint_eq_toInt, sint_eq_toInt, BitVec.sle]

/-- Settles O11: a branch or jump names its target, or the sequencer goes on as after any bundle. -/
theorem branchesAndJumps : Obligations.BranchesAndJumps := by
  constructor
  · intro sl s ha hw t hsrc a c target ht htarget r hr hop
    have hra : sreg t (csa sl.w) = a.toNat := sreg_eq_toNat _ _
    have hrc : sreg t (csb sl.w) = c.toNat := sreg_eq_toNat _ _
    have run : ∀ {i op q} (cond : Nat → Nat → Bool), exec i s = onSlot 3 op (fun b t => branchSlot sl.w sl.st b t cond) sl s →
        bits sl.w 0 8 = op → cond a.toNat c.toNat = q → _ :=
      fun {i op q} cond hx hop hq => branch_runs (q := q) ha hx hop hw hsrc ht htarget (by rwa [hra, hrc])
    simp only [List.mem_cons, List.not_mem_nil, or_false] at hr
    rcases hr with rfl | rfl | rfl | rfl | rfl | rfl
    · exact run _ rfl hop (toNat_beq_toNat a c)
    · exact run _ rfl hop (congrArg not (toNat_beq_toNat a c))
    · exact run _ rfl hop (decide_sint_lt a c)
    · exact run _ rfl hop (decide_sint_le c a)
    · exact run _ rfl hop rfl
    · exact run _ rfl hop rfl
  · intro sl s ha t pc kept target ht
    refine ⟨fun hop hw htarget => ?_, fun hop hw htarget hsrc => ?_, fun hop hw htarget hsrc => ?_⟩
    · refine branch_taken ha rfl hop ?_ ht
      dsimp only
      rw [cSlot_legal _ hw rfl, ← htarget, Int.toNat_natCast, targetSlot_in_range ht]
      rfl
    · refine onSlot_steered ha (effs := [.setS (csd sl.w) (pc + 1), .branch target]) rfl hop ?_ rfl fun b h => ?_
      · dsimp only
        rw [cSlot_legal _ hw hsrc, ← htarget, Int.toNat_natCast, targetSlot_in_range ht]
        rfl
      · exact (h.updStn (fun t => setS t (csd sl.w) (pc + 1)) (setS_loops _ _ _ _)).branchTo ht
    · refine branch_taken ha rfl hop ?_ ht
      rw [cSlot_legal _ hw hsrc, ← htarget, targetSlot_in_range ht]
      rfl

/-! ## Precise exceptions (R160 to R164) -/

/-- One exception of a cause that sets no bit of STN_FAULT is recorded, or counted as a further one. -/
theorem takeExc_one (st pc : Nat) (e : Exc) (b : Body) (hno : excFault e.cause = none) : takeExc st pc [e] b
    = report (.stationExc st) (setF (clearWaits st (if getF b R.STN_EXC_CAUSE.valid st = 1 then setF b R.STN_EXC_CAUSE.more st 1
        else recordExc st pc e false b)) R.STN_STATUS.state st 6) := by
  simp [takeExc, firstExc, excFaults, forEach, hno]

/-- What taking one precise exception changes: the fields that record it, and that firmware is told. -/
theorem takeExc_one_frame (st pc : Nat) (e : Exc) (b : Body) (hno : excFault e.cause = none) :
    Only [.stations, .regs, .free, .reports] b (takeExc st pc [e] b) ∧ (∀ y, stn (takeExc st pc [e] b) y = stn b y)
      ∧ (takeExc st pc [e] b).reports = b.reports ++ [.stationExc st] ∧ RegsBut excFields st b (takeExc st pc [e] b) := by
  have hreport : ∀ c, Only [.stations, .regs, .free, .reports] c (report (.stationExc st) c) := fun c p => by
    cases p <;> first | exact .inl (by decide) | exact .inr rfl
  have hregs : ∀ c, RegsBut excFields st c (report (.stationExc st) c) := fun _ _ _ _ _ => rfl
  rw [takeExc_one st pc e b hno]
  split <;> refine ⟨.trans ?_ (hreport _), fun _ => rfl, rfl, .trans ?_ (hregs _)⟩ <;> unfold clearWaits setFlag
  · iterate 6 refine Only.setF ?_ _ _ _ (by decide)
    exact Only.refl _ b
  · iterate 6 refine RegsBut.setF ?_ _ _ (by decide) (by decide)
    exact RegsBut.refl _ _ b
  · unfold recordExc
    iterate 13 refine Only.setF ?_ _ _ _ (by decide)
    exact Only.refl _ b
  · unfold recordExc
    iterate 13 refine RegsBut.setF ?_ _ _ (by decide) (by decide)
    exact RegsBut.refl _ _ b

/-- What the registers show of one precise exception. -/
theorem takeExc_one_shows (st pc : Nat) (e : Exc) (b : Body) (hno : excFault e.cause = none) (hc : e.cause ≤ 9) (hs : e.slot < 4) :
    getF (takeExc st pc [e] b) R.STN_STATUS.state st = 6
      ∧ (getF b R.STN_EXC_CAUSE.valid st ≠ 1 → getF (takeExc st pc [e] b) R.STN_EXC_CAUSE.valid st = 1
        ∧ getF (takeExc st pc [e] b) R.STN_EXC_CAUSE.cause st = e.cause ∧ getF (takeExc st pc [e] b) R.STN_EXC_CAUSE.slot st = e.slot
        ∧ getF (takeExc st pc [e] b) R.STN_EXC_CAUSE.precise st = 1 ∧ getF (takeExc st pc [e] b) R.STN_EXC_CAUSE.more st = 0
        ∧ getF (takeExc st pc [e] b) R.STN_EXC_PC.pc st = pc % 4096 ∧ getF (takeExc st pc [e] b) R.STN_EXC_INFO.info st = e.info % 2 ^ 64)
      ∧ (getF b R.STN_EXC_CAUSE.valid st = 1 → getF (takeExc st pc [e] b) R.STN_EXC_CAUSE.more st = 1) := by
  have hcause : e.cause % 2 ^ 5 = e.cause := Nat.mod_eq_of_lt (by omega)
  have hslot : e.slot % 2 ^ 2 = e.slot := Nat.mod_eq_of_lt (by omega)
  have hne : e.cause ≠ 14 := by omega
  rw [takeExc_one st pc e b hno]
  refine ⟨?_, fun hv => ?_, fun hv => ?_⟩
  · exact (getF_report _ _ _ _).trans (getF_setF_same _ _ _ _)
  · simp (disch := decide) only [if_neg hv, getF_report, clearWaits, setFlag, recordExc, getF_setF_field, getF_setF_same, if_neg hne, if_pos hc]
    exact ⟨rfl, hcause, hslot, rfl, rfl, rfl, rfl⟩
  · simp (disch := decide) only [if_pos hv, getF_report, clearWaits, setFlag, getF_setF_field, getF_setF_same]
    rfl

/-- A bundle of one slot that raises one exception takes it. -/
theorem issueBundle_one_exc (st : Nat) (o : OpenSlot) (b c : Body) (effs : List Eff) (e : Exc)
    (hc : c = updStn b st (fun t => { t with opened := [] })) (ho : (stn b st).opened = [o]) (hr : o.res = ⟨effs, [e], []⟩)
    (hi : issuing c st = true) (hb : SMap.get (stn c st).badIstore [] (getF c R.STN_SEQ_PC.pc st) = []) :
    issueBundle st b = takeExc st (getF c R.STN_SEQ_PC.pc st) [e] { c with free := c.free + 4 } := by
  unfold issueBundle
  rw [← hc, if_pos hi, fetch_readable _ _ hb, ho]
  simp [hr, bundleExcs, illegalSlots]

/-- What presenting a whole bundle of one slot comes to is what issuing it from a readable store comes to. -/
theorem lift_presentSlot {ix : Nat} {f : Body → Station → SlotRes} {sl : Slot} {s : State} {d : Body} (ha : alone sl s.body = true)
    (hissue : ∀ b c, c = updStn b sl.st (fun t => { t with opened := [] }) → (stn b sl.st).opened = [⟨ix, sl.w, f s.body (stn s.body sl.st)⟩] →
      issuing c sl.st = true → SMap.get (stn c sl.st).badIstore [] (getF c R.STN_SEQ_PC.pc sl.st) = [] →
      getF c R.STN_SEQ_PC.pc sl.st = getF s.body R.STN_SEQ_PC.pc sl.st → { c with free := c.free + 4 } = readyBody ix f sl s.body →
      issueBundle sl.st b = d) :
    lift (presentSlot ix f sl) s = .next { s with body := d } := by
  obtain ⟨-, hlast, hopen, hiss, hbad⟩ := (alone_iff _ _).mp ha
  unfold lift presentSlot
  rw [if_pos hlast]
  congr 2
  refine hissue _ _ rfl ?_ ?_ ?_ rfl rfl
  · rw [stn_updStn_same]
    show List.filter _ (stn s.body sl.st).opened ++ _ = _
    rw [hopen]; rfl
  · rw [← hiss]
    unfold issuing
    rw [stn_updStn_same, stn_updStn_same]
    rfl
  · rw [stn_updStn_same, stn_updStn_same]
    exact hbad

/-- A command that presents a whole bundle of one slot with one precise exception raises it. -/
theorem excepts_of_presented {c : Instr} {ix : Nat} {f : Body → Station → SlotRes} {sl : Slot} {s : State} {effs : List Eff} {e : Exc}
    (hx : exec c s = lift (presentSlot ix f sl) s) (ha : alone sl s.body = true)
    (hf : f s.body (stn s.body sl.st) = ⟨effs, [e], []⟩) (hno : excFault e.cause = none) (hcause : e.cause ≤ 9) (hslot : e.slot < 4) :
    Excepts c sl s e := by
  obtain ⟨rregs, ronly, rstn⟩ := readyBody_frame ix f sl s.body ha
  have hexec : exec c s = .next { s with body := takeExc sl.st (getF s.body R.STN_SEQ_PC.pc sl.st) [e] (readyBody ix f sl s.body) } :=
    hx.trans (lift_presentSlot ha fun b c hc ho hi hb hpc hready => by
      rw [issueBundle_one_exc sl.st _ b c effs e hc ho hf hi hb, hpc, hready])
  obtain ⟨honly, hstn, hreports, hregs⟩ := takeExc_one_frame sl.st (getF s.body R.STN_SEQ_PC.pc sl.st) e (readyBody ix f sl s.body) hno
  obtain ⟨hstate, hfirst, hmore⟩ := takeExc_one_shows sl.st (getF s.body R.STN_SEQ_PC.pc sl.st) e (readyBody ix f sl s.body) hno hcause hslot
  have hvalid : getF (readyBody ix f sl s.body) R.STN_EXC_CAUSE.valid sl.st = getF s.body R.STN_EXC_CAUSE.valid sl.st := getF_congr _ _ _ _ rregs
  rw [hvalid] at hfirst hmore
  exact ⟨_, hexec, rfl, rfl, (ronly.mono (by decide)).trans honly, fun y => (hstn y).trans (rstn y), hreports,
    ((RegsBut.refl _ _ _).of_regs rregs).trans hregs, hstate, hfirst, hmore⟩

theorem onSlot_presents {ix op : Nat} {f : Body → Station → SlotRes} {sl : Slot} {s : State} (ha : alone sl s.body = true)
    (hop : bits sl.w 0 8 = op) : onSlot ix op f sl s = lift (presentSlot ix f sl) s := by
  obtain ⟨hst, -⟩ := (alone_iff _ _).mp ha
  simp [onSlot, hst, hop]

/-- A slot of a reserved opcode is an illegal encoding under any command of its slot (R160). -/
theorem onSlot_reserved {ix op : Nat} {f : Body → Station → SlotRes} {sl : Slot} {s : State} (ha : alone sl s.body = true)
    (hop : op ∈ assignedOps ix) (hn : bits sl.w 0 8 ∉ assignedOps ix) :
    onSlot ix op f sl s = lift (presentSlot ix (fun _ _ => SlotRes.illegal ix sl.w) sl) s := by
  obtain ⟨hst, -⟩ := (alone_iff _ _).mp ha
  have hne : bits sl.w 0 8 ≠ op := fun e => hn (e ▸ hop)
  simp [onSlot, hst, hne, hn]

/-- A legal C slot whose sources are written and that raises a precise exception. -/
theorem cSlot_excepts {c : Instr} {op : Nat} {f : Body → Station → SlotRes} {sl : Slot} {s : State} {effs : List Eff} {cause info : Nat}
    (hx : exec c s = onSlot 3 op f sl s) (ha : alone sl s.body = true) (hop : bits sl.w 0 8 = op)
    (hf : f s.body (stn s.body sl.st) = ⟨effs, [⟨cause, 3, info⟩], []⟩) (hno : excFault cause = none) (hcause : cause ≤ 9) :
    Excepts c sl s ⟨cause, 3, info⟩ :=
  excepts_of_presented (hx.trans (onSlot_presents ha hop)) ha hf hno hcause (show 3 < 4 by decide)

/-- A bit that the form does not use makes a C slot an illegal encoding (R160). -/
theorem cSlot_illegal {w : Nat} {t : Station} {fields : List (Nat × Nat)} (srcs : List Nat) (r : SlotRes)
    (hw : onlyFields w ((0, 8) :: fields) = false) : cSlot w t fields srcs r = ⟨[], [⟨0x02, 3, w⟩], []⟩ := if_pos (by rw [hw]; rfl)

theorem targetSlot_out_of_range {target : Int} (ht : target < 0 ∨ 4095 < target) (effs : List Eff) :
    targetSlot target effs = ⟨effs, [⟨0x06, 3, uint 64 target⟩], []⟩ := if_pos ht

/-- A loop whose length is legal, by its count and the depth of the stack (R149). -/
theorem loopSlot_legal {w st len : Nat} {b : Body} {t : Station} (hw : onlyFields w [(0, 8), (13, 5), (32, 32)] = true)
    (hsrc : sourceHolds t [csa w] [] [] = []) (h1 : 1 ≤ len) (h2 : len ≤ 4095) (hlen : cimm w = (len : Int)) :
    loopSlot w st b t = if sreg t (csa w) = 0 then SlotRes.ok [.skipTo ((getF b R.STN_SEQ_PC.pc st + len + 1) % 4096)]
      else if 4 ≤ t.loops.length then SlotRes.exc 0x05 3 0
      else SlotRes.ok [.pushLoop ⟨getF b R.STN_SEQ_PC.pc st + 1, getF b R.STN_SEQ_PC.pc st + len, sreg t (csa w)⟩] := by
  unfold loopSlot
  dsimp only
  rw [hlen, if_neg (by omega), cSlot_legal _ hw hsrc, Int.toNat_natCast]

section Loop

variable {sl : Slot} {s : State} (ha : alone sl s.body = true) (hop : bits sl.w 0 8 = 0x29)
  (hw : onlyFields sl.w [(0, 8), (13, 5), (32, 32)] = true) (hsrc : sourceHolds (stn s.body sl.st) [csa sl.w] [] [] = [])
  {len : Nat} (h1 : 1 ≤ len) (h2 : len ≤ 4095) (hlen : cimm sl.w = (len : Int))
include ha hop hw hsrc h1 h2 hlen

theorem loop_skips (h0 : sreg (stn s.body sl.st) (csa sl.w) = 0) : ∃ u, exec (.loop sl) s = .next u
    ∧ IssuedAt ((getF s.body R.STN_SEQ_PC.pc sl.st + len + 1) % 4096) (stn s.body sl.st).loops [] sl s u (stn s.body sl.st) := by
  have hf := loopSlot_legal (st := sl.st) (b := s.body) hw hsrc h1 h2 hlen
  rw [if_pos h0] at hf
  exact onSlot_steered (f := fun b t => loopSlot sl.w sl.st b t) ha rfl hop hf rfl fun _ h => h.setPc (Nat.mod_lt _ (by decide))

theorem loop_pushes (h0 : sreg (stn s.body sl.st) (csa sl.w) ≠ 0) (hroom : (stn s.body sl.st).loops.length < 4) :
    ∃ u, exec (.loop sl) s = .next u
      ∧ IssuedAt (nextPc (getF s.body R.STN_SEQ_PC.pc sl.st) (stn s.body sl.st).loops).1
          (⟨getF s.body R.STN_SEQ_PC.pc sl.st + 1, getF s.body R.STN_SEQ_PC.pc sl.st + len, sreg (stn s.body sl.st) (csa sl.w)⟩
            :: (nextPc (getF s.body R.STN_SEQ_PC.pc sl.st) (stn s.body sl.st).loops).2) [] sl s u (stn s.body sl.st) := by
  have hf := loopSlot_legal (st := sl.st) (b := s.body) hw hsrc h1 h2 hlen
  rw [if_neg h0, if_neg (by omega)] at hf
  obtain ⟨b, hb, hadv⟩ := onSlot_advanced 3 0x29 (fun b t => loopSlot sl.w sl.st b t) sl s _ (by decide) ha hop hf rfl
  exact ⟨_, hb, hadv.issued_nil.updStn (fun t => { t with loops := _ :: t.loops }) rfl⟩

theorem loop_overflows (h0 : sreg (stn s.body sl.st) (csa sl.w) ≠ 0) (hfull : 4 ≤ (stn s.body sl.st).loops.length) :
    Excepts (.loop sl) sl s ⟨0x05, 3, 0⟩ := by
  have hf := loopSlot_legal (st := sl.st) (b := s.body) hw hsrc h1 h2 hlen
  rw [if_neg h0, if_pos hfull] at hf
  exact cSlot_excepts (f := fun b t => loopSlot sl.w sl.st b t) rfl ha hop hf rfl (by decide)

end Loop

/-- Settles O12: a loop skips, is pushed or overflows; every other clause is a slot with one precise exception. -/
theorem loopsAndSlotExceptions : Obligations.LoopsAndSlotExceptions := by
  constructor
  · intro sl s ha hop hw t pc a n hsrc len h1 h2 hlen
    exact ⟨loop_skips ha hop hw hsrc h1 h2 hlen, loop_pushes ha hop hw hsrc h1 h2 hlen, loop_overflows ha hop hw hsrc h1 h2 hlen⟩
  · intro sl s ha t pc k
    refine ⟨fun hop hw => ?_, fun hop hw hrange => ?_, fun hop hw hsrc hrange => ?_, fun hop hw hsrc hk => ?_, fun hop hw => ?_,
      fun hop => ?_, fun hop => ?_⟩
    · exact cSlot_excepts rfl ha hop (cSlot_legal (fields := [(32, 32)]) _ hw rfl) rfl (by decide)
    · exact cSlot_excepts rfl ha hop ((cSlot_legal (fields := [(32, 32)]) _ hw rfl).trans (targetSlot_out_of_range hrange _)) rfl (by decide)
    · exact cSlot_excepts rfl ha hop ((cSlot_legal (fields := [(13, 5), (18, 5), (32, 32)]) _ hw hsrc).trans
        (targetSlot_out_of_range hrange _)) rfl (by decide)
    · exact cSlot_excepts rfl ha hop ((cSlot_legal (fields := [(8, 5), (13, 5), (32, 32)]) _ hw hsrc).trans (if_pos hk)) rfl (by decide)
    · exact cSlot_excepts rfl ha hop (cSlot_illegal (fields := [(8, 5), (13, 5)] ++ bFields sl.w) _ _ hw) rfl (by decide)
    · exact excepts_of_presented (onSlot_reserved ha (by decide) hop) ha rfl rfl (show 2 ≤ 9 by decide) (show 3 < 4 by decide)
    · exact excepts_of_presented (onSlot_reserved ha (by decide) hop) ha rfl rfl (show 2 ≤ 9 by decide) (show 1 < 4 by decide)

end Sys2Proof.Machine

/-! SUPPORT. Barriers, the fence and the end of a stroke; system values and the station mailbox (O14, O15). -/

namespace Sys2Proof.Machine

/-! ## What a hold shows of barriers and the fence (R76, R151, R165) -/

theorem flagF_showHold_barrier_wait (st : Nat) (hs : List Hold) (b : Body) (h : getF b R.STN_STATUS.state st ≠ 6) :
    flagF (showHold st hs b) R.STN_SEQ_STATUS.barrier_wait st = hs.any Hold.onBarrier := by
  rw [showHold_eq st hs b h]
  simp (disch := decide) only [flagF, setFlag, getF_setF_field, getF_setF_same]
  cases hs.any Hold.onBarrier <;> rfl

theorem flagF_showHold_fence_wait (st : Nat) (hs : List Hold) (b : Body) (h : getF b R.STN_STATUS.state st ≠ 6) :
    flagF (showHold st hs b) R.STN_SEQ_STATUS.fence_wait st = hs.contains .fence := by
  rw [showHold_eq st hs b h]
  simp (disch := decide) only [flagF, setFlag, getF_setF_field, getF_setF_same]
  cases hs.contains .fence <;> rfl

/-- The station after its arrival on a barrier channel (R223). -/
def arrived (x : Station) (ch : Nat) : Station :=
  { x with arriveGen := SMap.put x.arriveGen 0 ch ((SMap.get x.arriveGen 0 ch + 1) % 65536) }

theorem arrive_eq (st ch : Nat) (b : Body) : arrive st ch b = updStn b st (fun t => arrived t ch) := rfl

/-- The body in which a bar.sync has arrived and is held (R152, R223). -/
def syncArrived (st ch : Nat) (b : Body) : Body :=
  updStn (arrive st ch (showHold st [.sync ch] b)) st (fun t => { t with syncDone := true })

/-- A bundle of one slot that waits for the arrival of its bar.sync alone arrives, and is held (R152, R223). -/
theorem issueBundle_one_sync (st : Nat) (o : OpenSlot) (b c : Body) (effs : List Eff) (ch : Nat)
    (hc : c = updStn b st (fun t => { t with opened := [] })) (ho : (stn b st).opened = [o]) (hr : o.res = ⟨effs, [], [.sync ch]⟩)
    (hi : issuing c st = true) (hb : SMap.get (stn c st).badIstore [] (getF c R.STN_SEQ_PC.pc st) = []) :
    issueBundle st b = syncArrived st ch { c with free := c.free + 4 } := by
  unfold issueBundle
  rw [← hc, if_pos hi, fetch_readable _ _ hb, ho]
  simp [hr, syncArrival, syncArrived]

/-- What a legal barrier slot does on the channel it names. -/
theorem barSlot_legal {w st ch : Nat} {b : Body} {t : Station}
    (hw : onlyFields w ([(0, 8), (8, 3)] ++ (if bits w 8 3 = 2 then [(32, 16)] else [])) = true)
    (hch : barrierChannel b st (bits w 8 3) (bits w 32 16) = some ch) (k : Nat → SlotRes) : barSlot w st b t k = k ch := by
  unfold barSlot
  dsimp only
  rw [hch]
  exact cSlot_legal (fields := [(8, 3)] ++ (if bits w 8 3 = 2 then [(32, 16)] else [])) _ hw rfl

section Barrier

variable {sl : Slot} {s : State} {ch : Nat} (ha : alone sl s.body = true)
  (hw : onlyFields sl.w ([(0, 8), (8, 3)] ++ (if bits sl.w 8 3 = 2 then [(32, 16)] else [])) = true)
  (hch : barrierChannel s.body sl.st (bits sl.w 8 3) (bits sl.w 32 16) = some ch)
include ha hw hch

theorem barArrive_retires (hop : bits sl.w 0 8 = 0x38) : Retires (.barArrive sl) sl s (arrived (stn s.body sl.st) ch) :=
  onSlot_upd 3 0x38 _ sl s (.arrive ch) (fun t => arrived t ch) (by decide) ha hop (barSlot_legal hw hch _) rfl (fun _ _ => rfl) (fun _ _ => rfl)

theorem barWait_retires (hop : bits sl.w 0 8 = 0x39) (hrel : barReleased (stn s.body sl.st) ch = true) :
    Retires (.barWait sl) sl s (stn s.body sl.st) := by
  refine onSlot_noEffect 3 0x39 (fun b t => barSlot sl.w sl.st b t _) sl s (by decide) ha hop ?_
  rw [barSlot_legal hw hch, hrel]
  rfl

theorem barWait_waits (hop : bits sl.w 0 8 = 0x39) (hrel : barReleased (stn s.body sl.st) ch = false) :
    Waits (.barWait sl) sl s (fun u => getF u.body R.STN_STATUS.state sl.st = 4
      ∧ flagF u.body R.STN_SEQ_STATUS.barrier_wait sl.st = true) := by
  refine waits_of_held (effs := []) (hs := [.barrier]) rfl ha hop ?_ (by simp) rfl fun b h6 =>
    ⟨getF_showHold_state _ _ _ h6, flagF_showHold_barrier_wait _ _ _ h6⟩
  rw [barSlot_legal hw hch, hrel]
  rfl

theorem barSync_retires (hop : bits sl.w 0 8 = 0x3A) (hdone : (stn s.body sl.st).syncDone = true)
    (hrel : barReleased (stn s.body sl.st) ch = true) : Retires (.barSync sl) sl s { stn s.body sl.st with syncDone := false } := by
  refine onSlot_upd 3 0x3A (fun b t => barSlot sl.w sl.st b t _) sl s .syncEnd (fun t => { t with syncDone := false }) (by decide) ha hop ?_ rfl
    (fun _ _ => rfl) (fun _ _ => rfl)
  rw [barSlot_legal hw hch, hdone, hrel]
  rfl

theorem barSync_arrives (hop : bits sl.w 0 8 = 0x3A) (hdone : (stn s.body sl.st).syncDone = false) :
    ∃ u, exec (.barSync sl) s = .next u ∧ stn u.body sl.st = { arrived (stn s.body sl.st) ch with syncDone := true }
      ∧ getF u.body R.STN_STATUS.state sl.st = 4 := by
  let f := fun (b : Body) (t : Station) => barSlot sl.w sl.st b t
    (fun ch => (SlotRes.ok [.syncEnd]).hold (if !t.syncDone then [.sync ch] else if barReleased t ch then [] else [.barrier]))
  have hf : f s.body (stn s.body sl.st) = ⟨[.syncEnd], [], [.sync ch]⟩ := by
    refine (barSlot_legal hw hch _).trans ?_
    rw [hdone]
    rfl
  obtain ⟨rregs, -, rstn⟩ := readyBody_frame 3 f sl s.body ha
  have h6 : getF (readyBody 3 f sl s.body) R.STN_STATUS.state sl.st ≠ 6 := by
    rw [getF_congr _ _ _ _ rregs]
    exact state_ne_of_alone ha
  have hexec : exec (.barSync sl) s = .next { s with body := syncArrived sl.st ch (readyBody 3 f sl s.body) } :=
    (onSlot_presents (f := f) ha hop).trans (lift_presentSlot ha fun b c hc ho hi hb _ hready => by
      rw [issueBundle_one_sync sl.st _ b c _ ch hc ho hf hi hb, hready])
  obtain ⟨-, -, -, hstn⟩ := showHold_frame sl.st [.sync ch] _ h6
  refine ⟨_, hexec, ?_, ?_⟩
  · rw [syncArrived, stn_updStn_same, arrive_eq, stn_updStn_same, hstn, rstn]
  · rw [syncArrived, getF_updStn, arrive_eq, getF_updStn]
    exact getF_showHold_state _ _ _ h6

end Barrier

section FenceSlot

variable {sl : Slot} {s : State} (ha : alone sl s.body = true)
include ha

theorem fence_retires (hop : bits sl.w 0 8 = 0x41) (hw : onlyFields sl.w [(0, 8)] = true)
    (hmet : fenceMet s.body sl.st (stn s.body sl.st) = true) : Retires (.fence sl) sl s (stn s.body sl.st) := by
  refine onSlot_noEffect 3 0x41 (fun b t => cSlot sl.w t [] [] ((SlotRes.ok []).hold (fenceHold b sl.st t))) sl s (by decide) ha hop ?_
  rw [cSlot_legal _ hw rfl, fenceHold, hmet]
  rfl

theorem fence_waits (hop : bits sl.w 0 8 = 0x41) (hw : onlyFields sl.w [(0, 8)] = true)
    (hmet : fenceMet s.body sl.st (stn s.body sl.st) = false) :
    Waits (.fence sl) sl s (fun u => flagF u.body R.STN_SEQ_STATUS.fence_wait sl.st = true) := by
  refine waits_of_held (effs := []) (hs := [.fence]) rfl ha hop ?_ (by simp) rfl fun b h6 => flagF_showHold_fence_wait _ _ _ h6
  rw [cSlot_legal _ hw rfl, fenceHold, hmet]
  rfl

/-- What the end of a stroke leaves (R153): the arrival on channel 7, the entry bundle, and a station that waits for the catch. -/
theorem strokeEnd_ends (hop : bits sl.w 0 8 = 0x3C) (hw : onlyFields sl.w [(0, 8), (32, 12)] = true)
    (hmet : fenceMet s.body sl.st (stn s.body sl.st) = true) :
    ∃ u, exec (.strokeEnd sl) s = .next u
      ∧ stn u.body sl.st = { arrived (stn s.body sl.st) 7 with ended := true, entry := ctally sl.w, loops := (stn u.body sl.st).loops }
      ∧ getF u.body R.STN_STATUS.state sl.st = 4 ∧ flagF u.body R.STN_SEQ_STATUS.barrier_wait sl.st = true
      ∧ issuing u.body sl.st = false := by
  have hf : cSlot sl.w (stn s.body sl.st) [(32, 12)] [] ((SlotRes.ok [.strokeEnd (ctally sl.w)]).hold (fenceHold s.body sl.st (stn s.body sl.st)))
      = ⟨[.strokeEnd (ctally sl.w)], [], []⟩ := by
    rw [cSlot_legal _ hw rfl, fenceHold, hmet]
    rfl
  obtain ⟨b, hb, hadv⟩ := onSlot_advanced 3 0x3C
    (fun b t => cSlot sl.w t [(32, 12)] [] ((SlotRes.ok [.strokeEnd (ctally sl.w)]).hold (fenceHold b sl.st t))) sl s _ (by decide) ha hop hf rfl
  refine ⟨_, hb, ?_⟩
  have happlied : forEach [.strokeEnd (ctally sl.w)] (applyEff sl.st (getF s.body R.STN_SEQ_PC.pc sl.st) 3) b
      = setF (setFlag (updStn (arrive sl.st 7 b) sl.st (fun t => { t with ended := true, entry := ctally sl.w }))
          R.STN_SEQ_STATUS.barrier_wait sl.st true) R.STN_STATUS.state sl.st 4 := rfl
  rw [happlied]
  have hstn : stn (setF (setFlag (updStn (arrive sl.st 7 b) sl.st (fun t => { t with ended := true, entry := ctally sl.w }))
      R.STN_SEQ_STATUS.barrier_wait sl.st true) R.STN_STATUS.state sl.st 4) sl.st = _ :=
    (stn_setF _ _ _ _ _).trans ((stn_setFlag _ _ _ _ _).trans (stn_updStn_same _ _ _))
  rw [arrive_eq, stn_updStn_same, hadv.station] at hstn
  refine ⟨?_, getF_setF_same _ _ _ _, ?_, ?_⟩
  · rw [arrive_eq, hstn]
    rfl
  · simp (disch := decide) only [flagF, setFlag, getF_setF_field, getF_setF_same]
    rfl
  · unfold issuing
    rw [arrive_eq, hstn]
    simp

end FenceSlot

/-- Settles O14: a barrier slot does on its channel what R152 says; the fence and the stroke's end wait for what is left. -/
theorem barriersAndFences : Obligations.BarriersAndFences := by
  intro sl s ha t count
  exact ⟨fun ch hw hch => ⟨barArrive_retires ha hw hch, barWait_retires ha hw hch, barWait_waits ha hw hch, barSync_retires ha hw hch,
    barSync_arrives ha hw hch⟩, fence_retires ha, fence_waits ha, strokeEnd_ends ha⟩

/-! ## System values and the mailbox (R147, R154, R227) -/

section System

variable {sl : Slot} {s : State} (ha : alone sl s.body = true)
include ha

theorem sysRd_retires {v : Nat} (hop : bits sl.w 0 8 = 0x40) (hw : onlyFields sl.w [(0, 8), (8, 5), (32, 8)] = true)
    (hsrc : sourceHolds (stn s.body sl.st) [csd sl.w] [] [] = []) (hv : sysValue s.body sl.st (bits sl.w 32 8) = some v) :
    Retires (.sysRd sl) sl s (setS (stn s.body sl.st) (csd sl.w) v) := by
  refine setS_retires (f := fun b t => sysRdSlot sl.w sl.st b t) rfl ha hop ?_
  unfold sysRdSlot
  rw [hv]
  exact cSlot_legal _ hw hsrc

theorem mbxRd_retires (hop : bits sl.w 0 8 = 0x48) (hw : onlyFields sl.w [(0, 8), (8, 5), (13, 5), (32, 32)] = true)
    (hsrc : sourceHolds (stn s.body sl.st) [csd sl.w, csa sl.w] [] [] = []) (hk : mbxIndex sl.w (stn s.body sl.st) < 32) :
    Retires (.mbxRd sl) sl s (setS (stn s.body sl.st) (csd sl.w) (if mbxIndex sl.w (stn s.body sl.st) < 16
      then getF s.body R.TLY_MBX.word (sl.st * 32 + mbxIndex sl.w (stn s.body sl.st))
      else (SMap.get (stn s.body sl.st).outbound 0 (mbxIndex sl.w (stn s.body sl.st))).toNat)) :=
  setS_retires (f := fun b t => mbxRdSlot sl.w sl.st b t) rfl ha hop ((cSlot_legal _ hw hsrc).trans (if_neg (by omega)))

theorem mbxWr_retires (hop : bits sl.w 0 8 = 0x49) (hw : onlyFields sl.w [(0, 8), (13, 5), (18, 5), (32, 32)] = true)
    (hsrc : sourceHolds (stn s.body sl.st) [csa sl.w, csb sl.w] [] [] = []) (hk : mbxIndex sl.w (stn s.body sl.st) < 32) :
    Retires (.mbxWr sl) sl s (if mbxIndex sl.w (stn s.body sl.st) < 16 then stn s.body sl.st
      else { stn s.body sl.st with outbound := SMap.put (stn s.body sl.st).outbound 0 (mbxIndex sl.w (stn s.body sl.st))
                                                 (BitVec.ofNat 64 (sreg (stn s.body sl.st) (csb sl.w))) }) := by
  have hslot : mbxWrSlot sl.w (stn s.body sl.st) = SlotRes.ok (if mbxIndex sl.w (stn s.body sl.st) < 16 then []
      else [.mbxWr (mbxIndex sl.w (stn s.body sl.st)) (sreg (stn s.body sl.st) (csb sl.w))]) :=
    (cSlot_legal _ hw hsrc).trans (if_neg (by omega))
  by_cases h16 : mbxIndex sl.w (stn s.body sl.st) < 16
  · rw [if_pos h16] at hslot ⊢
    exact onSlot_noEffect 3 0x49 (fun _ t => mbxWrSlot sl.w t) sl s (by decide) ha hop hslot
  · rw [if_neg h16] at hslot ⊢
    exact onSlot_upd 3 0x49 (fun _ t => mbxWrSlot sl.w t) sl s _
      (fun t => { t with outbound := SMap.put t.outbound 0 (mbxIndex sl.w (stn s.body sl.st)) (BitVec.ofNat 64 (sreg (stn s.body sl.st) (csb sl.w))) })
      (by decide) ha hop hslot rfl (fun _ _ => rfl) (fun _ _ => rfl)

theorem nop_retires {ix : Nat} (hix : ix < 4) (hw : sl.w = 0) : Retires (.nop ix sl) sl s (stn s.body sl.st) := by
  obtain ⟨t, ht, hissued⟩ := onSlot_noEffect ix 0x00 (fun _ _ => if sl.w = 0 then SlotRes.ok [] else SlotRes.illegal ix sl.w) sl s hix ha
    (by rw [hw]; rfl) (if_pos hw)
  exact ⟨t, (if_neg (by omega)).trans ht, hissued⟩

end System

/-- Settles O15: system values and mailbox words are read into Sd, a word is written where it is outbound, a nop has no effect. -/
theorem systemAndMailbox : Obligations.SystemAndMailbox := by
  intro sl s ha t k
  refine ⟨fun hop hw hsrc id v hv hid => ?_, fun hop hw hsrc hid => ⟨_, sysRd_retires ha hop hw hsrc (by rw [hid]; rfl)⟩,
    mbxRd_retires ha, mbxWr_retires ha, fun ix => nop_retires ha⟩
  refine sysRd_retires ha hop hw hsrc ?_
  rw [hid]
  simp only [List.mem_cons, Prod.mk.injEq, List.not_mem_nil, or_false] at hv
  rcases hv with ⟨rfl, rfl⟩ | ⟨rfl, rfl⟩ | ⟨rfl, rfl⟩ | ⟨rfl, rfl⟩ | ⟨rfl, rfl⟩ | ⟨rfl, rfl⟩ <;> rfl

end Sys2Proof.Machine

/-! SUPPORT. Lanes and the flags of the V slot (O16, O17). -/

namespace Sys2Proof.Machine

/-! ## Packed elements -/

theorem unpack_eq_map (w v n : Nat) : unpack w v n = (List.range n).map (fun i => bits v (w * i) w) := by
  induction n generalizing v with
  | zero => rfl
  | succ n ih =>
    rw [unpack, ih, List.range_succ_eq_map, List.map_cons, List.map_map]
    congr 1
    · simp [bits]
    · refine List.map_congr_left fun i _ => ?_
      simp only [Function.comp, bits, Nat.div_div_eq_div_mul, ← Nat.pow_add, Nat.mul_succ, Nat.add_comm]

/-- An element of packed elements reads back, kept in its width. -/
theorem bits_pack (w : Nat) (xs : List Nat) (i : Nat) (h : i < xs.length) : bits (pack w xs) (w * i) w = xs[i] % 2 ^ w := by
  induction xs generalizing i with
  | nil => exact absurd h (Nat.not_lt_zero i)
  | cons x xs ih =>
    cases i with
    | zero => simp [bits, pack]
    | succ i =>
      have hrest := ih i (Nat.lt_of_succ_lt_succ h)
      have hdiv : (x % 2 ^ w + 2 ^ w * pack w xs) / 2 ^ w = pack w xs := by
        rw [Nat.add_mul_div_left _ _ (Nat.two_pow_pos w), Nat.div_eq_of_lt (Nat.mod_lt _ (Nat.two_pow_pos w)), Nat.zero_add]
      rw [List.getElem_cons_succ, ← hrest, pack, bits, bits, Nat.mul_succ, Nat.add_comm (w * i), Nat.pow_add, ← Nat.div_div_eq_div_mul, hdiv]

theorem lanes_eq_map (v : Nat) : lanes v = (List.range 128).map (vlane v) := unpack_eq_map 32 v 128

theorem vlane_pack_map {l : Nat} (f : Nat → Nat) (h : l < 128) : vlane (pack 32 ((List.range 128).map f)) l = f l % 2 ^ 32 := by
  rw [vlane, bits_pack 32 _ l (by simpa using h)]
  simp

theorem vlane_lt (v l : Nat) : vlane v l < 2 ^ 32 := bits_lt _ _ _

theorem zipIdx_map_range {α : Type} (f : Nat → α) (n : Nat) : ((List.range n).map f).zipIdx = (List.range n).map (fun i => (f i, i)) := by
  refine List.ext_getElem (by simp) fun i h1 h2 => ?_
  simp

theorem selectLanes_map (p n : Nat) (f g : Nat → Nat) :
    selectLanes p ((List.range n).map f) ((List.range n).map g) = (List.range n).map (fun l => if bit p l then f l else g l) := by
  rw [selectLanes, List.zip_map', zipIdx_map_range, List.map_map]
  rfl

/-- The flags of the elements that a predicate selects, together. -/
def selectedFlags (p n : Nat) (fl : Nat → Nat) : Nat := (List.range n).foldl (fun a l => if bit p l then a ||| fl l else a) 0

theorem foldl_selected_map {α : Type} (p n : Nat) (f : Nat → α) (fl : α → Nat) :
    ((List.range n).map f).zipIdx.foldl (fun a x => if bit p x.2 then a ||| fl x.1 else a) 0 = selectedFlags p n (fun l => fl (f l)) := by
  rw [zipIdx_map_range, List.foldl_map]
  rfl

theorem bit_or (a c k : Nat) : bit (a ||| c) k = (bit a k || bit c k) := by simp only [bit_eq_testBit, Nat.testBit_or]

theorem bit_mod_two_pow {k n : Nat} (v : Nat) (h : k < n) : bit (v % 2 ^ n) k = bit v k := by
  simp [bit_eq_testBit, Nat.testBit_mod_two_pow, h]

theorem bit_selectedFlags (p n : Nat) (fl : Nat → Nat) (k : Nat) :
    bit (selectedFlags p n fl) k = (List.range n).any (fun l => bit p l && bit (fl l) k) := by
  have hfold : ∀ (ls : List Nat) (a : Nat), bit (ls.foldl (fun a l => if bit p l then a ||| fl l else a) a) k
      = (bit a k || ls.any (fun l => bit p l && bit (fl l) k)) := by
    intro ls
    induction ls with
    | nil => simp
    | cons l ls ih =>
      intro a
      rw [List.foldl_cons, ih, List.any_cons]
      cases bit p l <;> simp [bit_or, Bool.or_assoc]
  rw [selectedFlags, hfold]
  simp [bit]

/-- Flags that no selected element raises are not raised together. -/
theorem selectedFlags_and {p n mask : Nat} {fl : Nat → Nat} (h : ∀ l < n, bit p l = true → fl l &&& mask = 0) :
    selectedFlags p n fl &&& mask = 0 := by
  refine Nat.eq_of_testBit_eq fun k => ?_
  rw [Nat.testBit_and, Nat.zero_testBit, ← bit_eq_testBit, bit_selectedFlags]
  cases hk : mask.testBit k with
  | false => rw [Bool.and_false]
  | true =>
    rw [Bool.and_true, List.any_eq_false]
    intro l hl
    rw [Bool.and_eq_true, not_and, bit_eq_testBit, bit_eq_testBit]
    intro hp hf
    have hz := congrArg (fun x => x.testBit k) (h l (List.mem_range.mp hl) (by rwa [bit_eq_testBit]))
    simp [hf, hk] at hz

theorem laneOp_map (p : Nat) (f : Nat → Flagged Nat) (g : Nat → Nat) : laneOp p ((List.range 128).map f) ((List.range 128).map g)
    = ⟨pack 32 ((List.range 128).map (fun l => if bit p l then (f l).val else g l)), selectedFlags p 128 (fun l => (f l).fl)⟩ := by
  unfold laneOp
  rw [foldl_selected_map p 128 f (·.fl), List.map_map, selectLanes_map]
  rfl

/-! ## Slots that write registers and raise flags -/

theorem sourceHolds_eq_nil (t : Station) (ss vs tiles : List Nat) : sourceHolds t ss vs tiles = [] ↔
    (∀ r ∈ ss, pendingS t r = false) ∧ (∀ r ∈ vs, pendingV t r = false) ∧ ∀ a ∈ tiles, pendingTile t a = false := by
  simp [sourceHolds, and_assoc]

/-- Sources that are written leave no hold for fewer of them. -/
theorem sourceHolds_mono {t : Station} {ss vs tiles ss' vs' tiles' : List Nat} (h : sourceHolds t ss vs tiles = []) (hs : ss' ⊆ ss)
    (hv : vs' ⊆ vs) (ht : tiles' ⊆ tiles) : sourceHolds t ss' vs' tiles' = [] := by
  obtain ⟨h1, h2, h3⟩ := (sourceHolds_eq_nil _ _ _ _).mp h
  exact (sourceHolds_eq_nil _ _ _ _).mpr ⟨fun r hr => h1 r (hs hr), fun r hr => h2 r (hv hr), fun a ha => h3 a (ht ha)⟩

/-- A bundle that has issued and then sets the live flags. -/
theorem IssuedAt.setFlags {pc : Nat} {ls : List LoopEntry} {sl : Slot} {s : State} {c : Body} {x : Station}
    (h : IssuedAt pc ls [] sl s { s with body := c } x) (v : Nat) :
    IssuedAt pc ls [R.STN_ARITH_FLAGS.flags] sl s { s with body := setF c R.STN_ARITH_FLAGS.flags sl.st v } x := by
  obtain ⟨-, -, honly, hstn, hother, hpc, hstate, htally, hbar, hfence, hregs⟩ := h
  have hne : ∀ f : Field, f.idx < 1024 → f.idx ≠ R.STN_ARITH_FLAGS.flags.idx →
      getF (setF c R.STN_ARITH_FLAGS.flags sl.st v) f sl.st = getF c f sl.st := fun f hf hn => getF_setF_field _ _ _ _ _ _ (by decide) hf hn
  have hwider : RegsBut (issueFields ++ [R.STN_ARITH_FLAGS.flags]) sl.st s.body c := fun f j hf hj =>
    hregs f j hf (hj.imp_right fun hn hm => hn (by
      rw [List.append_nil] at hm
      exact List.map_subset _ (List.subset_append_left _ _) hm))
  refine ⟨rfl, rfl, honly.setF _ _ _ (by decide), hstn, hother, ?_, ?_, ?_, ?_, ?_, hwider.setF _ _ (by decide) (by decide)⟩
  · exact (hne _ (by decide) (by decide)).trans hpc
  · exact (hne _ (by decide) (by decide)).trans hstate
  · exact (congrArg (· == 1) (hne _ (by decide) (by decide))).trans htally
  · exact (congrArg (· == 1) (hne _ (by decide) (by decide))).trans hbar
  · exact (congrArg (· == 1) (hne _ (by decide) (by decide))).trans hfence

/-- Effects that only update the station's own registers. -/
def Writes (st : Nat) (es : List Eff) (g : Station → Station) : Prop :=
  (∀ pc b, forEach es (applyEff st pc 1) b = updStn b st g) ∧ es.any Eff.steers = false ∧ ∀ x l, g { x with loops := l } = { g x with loops := l }

theorem writes_setV (st r v : Nat) : Writes st [.setV r v] (fun t => setV t r v) := ⟨fun _ _ => rfl, rfl, fun _ _ => rfl⟩

theorem setP_loops (x : Station) (l : List LoopEntry) (r v : Nat) : setP { x with loops := l } r v = { setP x r v with loops := l } := by
  unfold setP
  split <;> rfl

theorem writes_setP (st r v : Nat) : Writes st [.setP r v] (fun t => setP t r v) := ⟨fun _ _ => rfl, rfl, fun _ _ => setP_loops _ _ _ _⟩

theorem writes_setS (st r v : Nat) : Writes st [.setS r v] (fun t => setS t r v) := ⟨fun _ _ => rfl, rfl, fun _ _ => setS_loops _ _ _ _⟩

theorem writes_setRow (st a i v : Nat) : Writes st [.setRow a i v] (fun t => setRow t a i v) := ⟨fun _ _ => rfl, rfl, fun _ _ => rfl⟩

section VSlot

variable {sl : Slot} {s : State} (ha : alone sl s.body = true) {c : Instr} {op : Nat} {f : Body → Station → SlotRes} {es : List Eff}
  {g : Station → Station} (hx : exec c s = onSlot 1 op f sl s) (hop : bits sl.w 0 8 = op) (hg : Writes sl.st es g)
include ha hx hop hg

/-- A V slot that writes registers and raises no flags. -/
theorem vSlot_retires (hf : f s.body (stn s.body sl.st) = ⟨es, [], []⟩) : Retires c sl s (g (stn s.body sl.st)) := by
  obtain ⟨happly, hsteers, hloops⟩ := hg
  obtain ⟨b, hb, hadv⟩ := onSlot_advanced 1 op f sl s es (by decide) ha hop hf hsteers
  rw [happly] at hb
  exact ⟨_, hx.trans hb, hadv.issuedAt g hloops⟩

/-- A V slot that writes registers and raises flags, none of them trapped (R115, R116). -/
theorem vSlot_flags {fl : Nat} (hf : f s.body (stn s.body sl.st) = ⟨es ++ [.flags fl], [], []⟩)
    (htrap : fl &&& getF s.body R.STN_ARITH_CTRL.trap_mask sl.st = 0) : ∃ u, exec c s = .next u
      ∧ Issued [R.STN_ARITH_FLAGS.flags] sl s u (g (stn s.body sl.st))
      ∧ getF u.body R.STN_ARITH_FLAGS.flags sl.st = (getF s.body R.STN_ARITH_FLAGS.flags sl.st ||| fl) % 2 ^ 7 := by
  obtain ⟨happly, hsteers, hloops⟩ := hg
  obtain ⟨b, hb, hadv⟩ := onSlot_advanced 1 op f sl s _ (by decide) ha hop hf (by rw [List.any_append, hsteers]; rfl)
  have hissued := hadv.issuedAt g hloops
  obtain ⟨-, -, -, -, -, -, -, -, -, -, hregs⟩ := hissued
  have hflags : getF (updStn b sl.st g) R.STN_ARITH_FLAGS.flags sl.st = getF s.body R.STN_ARITH_FLAGS.flags sl.st :=
    hregs _ _ (by decide) (.inr (by decide))
  have hmask : getF (setF (updStn b sl.st g) R.STN_ARITH_FLAGS.flags sl.st (getF s.body R.STN_ARITH_FLAGS.flags sl.st ||| fl))
      R.STN_ARITH_CTRL.trap_mask sl.st = getF s.body R.STN_ARITH_CTRL.trap_mask sl.st :=
    (getF_setF_field _ _ _ _ _ _ (by decide) (by decide) (by decide)).trans (hregs _ _ (by decide) (.inr (by decide)))
  have happlied : ∀ pc, forEach (es ++ [.flags fl]) (applyEff sl.st pc 1) b
      = setF (updStn b sl.st g) R.STN_ARITH_FLAGS.flags sl.st (getF s.body R.STN_ARITH_FLAGS.flags sl.st ||| fl) := by
    intro pc
    have hsplit : forEach (es ++ [.flags fl]) (applyEff sl.st pc 1) b = raiseFlags sl.st pc 1 fl (forEach es (applyEff sl.st pc 1) b) := by
      rw [forEach, List.foldl_append]
      rfl
    rw [hsplit, happly, raiseFlags, hflags]
    rw [hmask, if_pos htrap]
  rw [happlied] at hb
  exact ⟨_, hx.trans hb, (hadv.issuedAt g hloops).setFlags _, getF_setF_same _ _ _ _⟩

end VSlot

/-! ## Lane operations (R102 to R106, R139) -/

/-- What a lane operation of up to three sources makes of lane `l`. -/
def laneRes (w : Nat) (t : Station) (f : Nat → Nat → Nat → Flagged Nat) (l : Nat) : Flagged Nat :=
  f (vlane (vreg t (vaOf w)) l) (vlane (vreg t (vbOf w)) l) (vlane (vreg t (vcOf w)) l)

/-- The lanes that a lane operation leaves in Vd. -/
def laneValue (w : Nat) (t : Station) (f : Nat → Nat → Nat → Flagged Nat) : Nat :=
  pack 32 ((List.range 128).map (fun l => if bit (preg t (predOf w)) l then (laneRes w t f l).val else vlane (vreg t (vdOf w)) l))

theorem laneSlot_legal {w n : Nat} {t : Station} (f : Nat → Nat → Nat → Flagged Nat)
    (hw : onlyFields w ([(0, 8), (8, 6), (14, 6), (32, 3)] ++ (if 2 ≤ n then [(20, 6)] else []) ++ (if 3 ≤ n then [(26, 6)] else [])) = true)
    (hsrc : sourceHolds t [] ([vdOf w, vaOf w] ++ (if 2 ≤ n then [vbOf w] else []) ++ (if 3 ≤ n then [vcOf w] else [])) [] = []) :
    laneSlot w t n f = ⟨[.setV (vdOf w) (laneValue w t f)] ++ [.flags (selectedFlags (preg t (predOf w)) 128 (fun l => (laneRes w t f l).fl))],
      [], []⟩ := by
  have hfields : (!onlyFields w ([fOp, fVd, fVa, fPred] ++ (if 2 ≤ n then [fVb] else []) ++ (if 3 ≤ n then [fVc] else []))) = false :=
    congrArg not hw
  unfold laneSlot
  simp only [hfields, Bool.false_eq_true, if_false, hsrc, lanes_eq_map, List.zip_map', List.map_map, laneOp_map]
  rfl

section Lanes

variable {sl : Slot} {s : State} (ha : alone sl s.body = true) {c : Instr} {op n : Nat} {f : Nat → Nat → Nat → Flagged Nat}
  (hx : exec c s = onSlot 1 op (fun _ t => laneSlot sl.w t n f) sl s) (hop : bits sl.w 0 8 = op)
  (hw : onlyFields sl.w ([(0, 8), (8, 6), (14, 6), (32, 3)] ++ (if 2 ≤ n then [(20, 6)] else []) ++ (if 3 ≤ n then [(26, 6)] else [])) = true)
  (hsrc : sourceHolds (stn s.body sl.st) [] ([vdOf sl.w, vaOf sl.w] ++ (if 2 ≤ n then [vbOf sl.w] else [])
    ++ (if 3 ≤ n then [vcOf sl.w] else [])) [] = [])
  (htrap : ∀ l < 128, bit (preg (stn s.body sl.st) (predOf sl.w)) l = true →
    (laneRes sl.w (stn s.body sl.st) f l).fl &&& getF s.body R.STN_ARITH_CTRL.trap_mask sl.st = 0)
include ha hx hop hw hsrc htrap

/-- A lane operation writes the selected lanes of Vd and raises the flags of the selected lanes. -/
theorem lane_issues : ∃ u v, exec c s = .next u ∧ Issued [R.STN_ARITH_FLAGS.flags] sl s u (setV (stn s.body sl.st) (vdOf sl.w) v)
    ∧ (∀ l < 128, vlane v l = if bit (preg (stn s.body sl.st) (predOf sl.w)) l then (laneRes sl.w (stn s.body sl.st) f l).val % 2 ^ 32
        else vlane (vreg (stn s.body sl.st) (vdOf sl.w)) l)
    ∧ getF u.body R.STN_ARITH_FLAGS.flags sl.st = (getF s.body R.STN_ARITH_FLAGS.flags sl.st
        ||| selectedFlags (preg (stn s.body sl.st) (predOf sl.w)) 128 (fun l => (laneRes sl.w (stn s.body sl.st) f l).fl)) % 2 ^ 7 := by
  obtain ⟨u, hu, hissued, hflags⟩ := vSlot_flags ha hx hop (writes_setV sl.st _ _) (laneSlot_legal f hw hsrc) (selectedFlags_and htrap)
  refine ⟨u, _, hu, hissued, fun l hl => ?_, hflags⟩
  rw [laneValue, vlane_pack_map _ hl]
  split
  · rfl
  · exact Nat.mod_eq_of_lt (vlane_lt _ _)

end Lanes

/-- Settles O16: each operation is a lane operation of one to three sources. -/
theorem laneFloat : Obligations.LaneFloat := by
  intro sl s ha t p mask r hr n res hop hw hsrc htrap
  have hsub : ([vdOf sl.w, vaOf sl.w] ++ (if 2 ≤ n then [vbOf sl.w] else []) ++ (if 3 ≤ n then [vcOf sl.w] else []))
      ⊆ [vdOf sl.w, vaOf sl.w, vbOf sl.w, vcOf sl.w] := by
    split <;> split <;> simp
  have hx : exec r.1 s = onSlot 1 r.2.1 (fun _ t => laneSlot sl.w t n r.2.2.2) sl s := by
    simp only [List.mem_cons, List.not_mem_nil, or_false] at hr
    rcases hr with rfl | rfl | rfl | rfl | rfl | rfl | rfl | rfl | rfl | rfl | rfl <;> rfl
  obtain ⟨u, v, hu, hissued, hlanes, hflags⟩ := lane_issues ha hx hop hw (sourceHolds_mono hsrc (List.Subset.refl _) hsub (List.Subset.refl _)) htrap
  refine ⟨u, v, hu, hissued, hlanes, fun k hk => ?_⟩
  rw [hflags, bit_mod_two_pow _ hk, bit_or, bit_selectedFlags]
  rfl

/-! ## Integer lanes and predicates (R139) -/

theorem selectedFlags_zero (p n : Nat) : selectedFlags p n (fun _ => 0) = 0 := by
  have h : ∀ (ls : List Nat) (a : Nat), ls.foldl (fun a l => if bit p l then a ||| 0 else a) a = a := by
    intro ls
    induction ls with
    | nil => exact fun _ => rfl
    | cons l ls ih => intro a; simp
  exact h _ 0

/-- An integer lane operation, as a function on 32-bit words. -/
theorem plain_lane {w : Nat} {t : Station} {f : Nat → Nat → Nat} {g : BitVec 32 → BitVec 32 → BitVec 32}
    (hfg : ∀ a c : BitVec 32, f a.toNat c.toNat % 2 ^ 32 = (g a c).toNat) (l : Nat) : (laneRes w t (plain f) l).val % 2 ^ 32
      = (g (BitVec.ofNat 32 (vlane (vreg t (vaOf w)) l)) (BitVec.ofNat 32 (vlane (vreg t (vbOf w)) l))).toNat := by
  rw [← hfg, BitVec.toNat_ofNat, BitVec.toNat_ofNat, Nat.mod_eq_of_lt (vlane_lt _ _), Nat.mod_eq_of_lt (vlane_lt _ _)]
  rfl

theorem preg_lt (t : Station) (r : Nat) : preg t r < 2 ^ 128 := by
  unfold preg
  split
  · decide
  · exact BitVec.isLt _

theorem preg_eq_toNat (t : Station) (r : Nat) : preg t r = (BitVec.ofNat 128 (preg t r)).toNat := (Nat.mod_eq_of_lt (preg_lt t r)).symm

/-- Clearing the selected bits of a predicate. -/
theorem xor_land_toNat {n : Nat} (a p : BitVec n) : a.toNat.xor (a.toNat.land p.toNat) = (a &&& ~~~p).toNat := by
  have h : a ^^^ (a &&& p) = a &&& ~~~p := by
    ext i hi
    simp only [BitVec.getElem_xor, BitVec.getElem_and, BitVec.getElem_not]
    cases a[i] <;> cases p[i] <;> rfl
  rw [← h, BitVec.toNat_xor, BitVec.toNat_and]
  rfl

/-- Settles O17: an integer operation is a lane operation without flags; a predicate operation writes one predicate. -/
theorem laneIntegerAndPredicates : Obligations.LaneIntegerAndPredicates := by
  constructor
  · intro sl s ha t p r hr res hop hw hsrc
    have run : ∀ {i : Instr} {op n : Nat} {f : Nat → Nat → Nat} (g : BitVec 32 → BitVec 32 → BitVec 32),
        exec i s = onSlot 1 op (fun _ t => laneSlot sl.w t n (plain f)) sl s → bits sl.w 0 8 = op → n < 3 →
        onlyFields sl.w ([(0, 8), (8, 6), (14, 6), (32, 3)] ++ (if 2 ≤ n then [(20, 6)] else []) ++ (if 3 ≤ n then [(26, 6)] else [])) = true →
        (∀ a c : BitVec 32, f a.toNat c.toNat % 2 ^ 32 = (g a c).toNat) →
        ∃ u v, exec i s = .next u ∧ Issued [R.STN_ARITH_FLAGS.flags] sl s u (setV t (vdOf sl.w) v)
          ∧ (∀ l < 128, vlane v l = if bit p l then (g (BitVec.ofNat 32 (vlane (vreg t (vaOf sl.w)) l))
              (BitVec.ofNat 32 (vlane (vreg t (vbOf sl.w)) l))).toNat else vlane (vreg t (vdOf sl.w)) l)
          ∧ getF u.body R.STN_ARITH_FLAGS.flags sl.st = getF s.body R.STN_ARITH_FLAGS.flags sl.st % 128 := by
      intro i op n f g hx hop hn hfields hfg
      have hsub : ([vdOf sl.w, vaOf sl.w] ++ (if 2 ≤ n then [vbOf sl.w] else []) ++ (if 3 ≤ n then [vcOf sl.w] else []))
          ⊆ [vdOf sl.w, vaOf sl.w, vbOf sl.w] := by
        rw [if_neg (show ¬ 3 ≤ n by omega)]
        split <;> simp
      obtain ⟨u, v, hu, hissued, hlanes, hflags⟩ := lane_issues ha hx hop hfields
        (sourceHolds_mono hsrc (List.Subset.refl _) hsub (List.Subset.refl _)) fun _ _ _ => Nat.zero_and _
      refine ⟨u, v, hu, hissued, fun l hl => ?_, ?_⟩
      · rw [hlanes l hl, plain_lane hfg]
      · rw [hflags]
        show (_ ||| selectedFlags _ 128 (fun _ => 0)) % 2 ^ 7 = _
        rw [selectedFlags_zero, Nat.or_zero]
        rfl
    simp only [List.mem_cons, List.not_mem_nil, or_false] at hr
    rcases hr with rfl | rfl | rfl | rfl | rfl | rfl | rfl | rfl | rfl
    · exact run _ rfl hop (by decide) hw fun a c => (Nat.mod_mod _ _).trans (add_mod_toNat a c)
    · exact run _ rfl hop (by decide) hw fun a c => (Nat.mod_mod _ _).trans (sub_mod_toNat a c)
    · exact run _ rfl hop (by decide) hw and_mod_toNat
    · exact run _ rfl hop (by decide) hw or_mod_toNat
    · exact run _ rfl hop (by decide) hw xor_mod_toNat
    · exact run _ rfl hop (by decide) hw fun a c => (Nat.mod_mod _ _).trans (shl_mod_toNat a _)
    · exact run _ rfl hop (by decide) hw fun a c => shr_mod_toNat a _
    · exact run _ rfl hop (by decide) hw fun a c => sra_mod_toNat a _
    · exact run (fun a _ => a) rfl hop (by decide) hw fun a _ => Nat.mod_eq_of_lt a.isLt
  · intro sl s ha t a b old p two r hr hop hw
    have hpa : preg t (vaOf sl.w) = a.toNat := preg_eq_toNat _ _
    have hpb : preg t (vbOf sl.w) = b.toNat := preg_eq_toNat _ _
    have hpo : preg t (vdOf sl.w) = old.toNat := preg_eq_toNat _ _
    have hpp : preg t (predOf sl.w) = p.toNat := preg_eq_toNat _ _
    have run : ∀ {i : Instr} {op v : Nat} {f : Station → SlotRes} {x : BitVec 128}, exec i s = onSlot 1 op (fun _ t => f t) sl s →
        bits sl.w 0 8 = op → f t = SlotRes.ok [.setP (vdOf sl.w) v] → v = x.toNat → Retires i sl s (setP t (vdOf sl.w) x.toNat) :=
      fun hx hop hf hv => vSlot_retires ha hx hop (writes_setP sl.st _ _) (hv ▸ hf)
    have hlegal : ∀ {fields : List (Nat × Nat)} {x : SlotRes}, onlyFields sl.w fields = true →
        (if !onlyFields sl.w fields then SlotRes.illegal 1 sl.w else x) = x := fun h => if_neg (by rw [h]; decide)
    simp only [List.mem_cons, List.not_mem_nil, or_false] at hr
    rcases hr with rfl | rfl | rfl | rfl | rfl
    · exact run rfl hop (hlegal hw) (by rw [hpa, hpb]; rfl)
    · exact run rfl hop (hlegal hw) (by rw [hpa, hpb]; rfl)
    · exact run rfl hop (hlegal hw) (by rw [hpa, hpb]; rfl)
    · exact run rfl hop (hlegal hw) (by rw [hpa, BitVec.toNat_not])
    · refine run rfl hop (hlegal hw) ?_
      rw [hpo, hpp, xor_land_toNat]
      split <;> rfl

end Sys2Proof.Machine

/-! SUPPORT. Moves between lanes, tiles and scalars, comparisons, reductions and conversions of the V slot (O18, O19). -/

namespace Sys2Proof.Machine

/-! ## Lanes of packed values -/

theorem replicate_eq_map {α : Type} (n : Nat) (x : α) : List.replicate n x = (List.range n).map (fun _ => x) := by
  rw [List.map_const', List.length_range]

/-- A lane of the selection between two lane functions whose values are lanes. -/
theorem vlane_select {p l : Nat} {f g : Nat → Nat} (hl : l < 128) (hf : f l < 2 ^ 32) (hg : g l < 2 ^ 32) :
    vlane (pack 32 (selectLanes p ((List.range 128).map f) ((List.range 128).map g))) l = if bit p l then f l else g l := by
  rw [selectLanes_map, vlane_pack_map _ hl]
  split
  · exact Nat.mod_eq_of_lt hf
  · exact Nat.mod_eq_of_lt hg

/-- A slot whose bits are legal and whose operands are written has its effects. -/
theorem vSlot_legal {ix w : Nat} {fields : List (Nat × Nat)} {es : List Eff} {hs : List Hold} (hw : onlyFields w fields = true) (hsrc : hs = []) :
    (if !onlyFields w fields then SlotRes.illegal ix w else (SlotRes.ok es).hold hs) = ⟨es, [], []⟩ := by
  rw [if_neg (by rw [hw]; decide), hsrc]
  rfl

/-- Settles O18: each slot writes one register, or one row of a tile, and raises no flag. -/
theorem laneMoves : Obligations.LaneMoves := by
  intro sl s ha t p old a b
  refine ⟨fun hop hw hsrc => ?_, fun hop hw hsrc => ?_, fun hop hw hsrc => ?_, fun hop hw hsrc => ?_, fun hop hw hsrc => ?_⟩
  · refine ⟨_, vSlot_retires (f := fun _ t => vselSlot sl.w t) ha rfl hop (writes_setV sl.st _ _) (vSlot_legal hw hsrc), fun l hl => ?_⟩
    rw [lanes_eq_map, lanes_eq_map]
    exact vlane_select hl (vlane_lt _ _) (vlane_lt _ _)
  · refine ⟨_, vSlot_retires (f := fun _ t => vbcastSlot sl.w t) ha rfl hop (writes_setV sl.st _ _) (vSlot_legal hw hsrc), fun l hl => ?_⟩
    rw [replicate_eq_map, lanes_eq_map]
    exact vlane_select hl (Nat.mod_lt _ (by decide)) (vlane_lt _ _)
  · exact vSlot_retires (f := fun _ t => vextSlot sl.w t) ha rfl hop (writes_setS sl.st _ _) (vSlot_legal hw hsrc)
  · refine ⟨_, vSlot_retires (f := fun _ t => vtrdSlot sl.w t) ha rfl hop (writes_setV sl.st _ _) (vSlot_legal hw hsrc), fun l hl => ?_⟩
    rw [lanes_eq_map, lanes_eq_map]
    exact vlane_select hl (vlane_lt _ _) (vlane_lt _ _)
  · exact vSlot_retires (f := fun _ t => vtwrSlot sl.w t) ha rfl hop (writes_setRow sl.st _ _ _) (vSlot_legal hw hsrc)

/-! ## Comparisons and reductions (R104, R105) -/

/-- A value by the bit that `setBit` sets: what lies below it, the bit, and what lies above it. -/
theorem setBit_eq (v k : Nat) (x : Bool) : setBit v k x = 2 ^ k * (2 * (v / 2 ^ k / 2) + x.toNat) + v % 2 ^ k := by
  have hv : v = 2 ^ k * (2 * (v / 2 ^ k / 2) + v / 2 ^ k % 2) + v % 2 ^ k := by rw [Nat.div_add_mod, Nat.div_add_mod]
  have hx : cond x (2 ^ k) 0 = 2 ^ k * x.toNat := by cases x <;> simp
  rw [setBit, hx]
  rw [Nat.mul_add] at hv ⊢
  rw [Nat.mul_comm (v / 2 ^ k % 2)]
  omega

theorem bit_setBit (v k j : Nat) (x : Bool) : bit (setBit v k x) j = if j = k then x else bit v j := by
  have hlow := Nat.mod_lt v (Nat.two_pow_pos k)
  have hv : v = 2 ^ k * (v / 2 ^ k) + v % 2 ^ k := (Nat.div_add_mod v _).symm
  rw [setBit_eq, bit_eq_testBit, bit_eq_testBit, Nat.testBit_two_pow_mul_add _ hlow]
  conv_rhs => rw [hv, Nat.testBit_two_pow_mul_add _ hlow]
  rcases Nat.lt_trichotomy j k with h | rfl | h
  · rw [if_pos h, if_neg (by omega), if_pos h]
  · rw [if_neg (Nat.lt_irrefl j), if_pos rfl, Nat.sub_self, Nat.testBit_zero]
    cases x <;> simp
  · obtain ⟨i, rfl⟩ := Nat.exists_eq_add_of_lt h
    rw [if_neg (by omega), if_neg (by omega), if_neg (by omega), show k + i + 1 - k = i + 1 by omega, Nat.testBit_succ, Nat.testBit_succ]
    congr 1
    have := Bool.toNat_lt x
    omega

/-- The predicate whose bits are given one by one. -/
theorem bit_foldl_setBit (q : Nat → Bool) (n l : Nat) :
    bit ((List.range n).foldl (fun a i => setBit a i (q i)) 0) l = (decide (l < n) && q l) := by
  induction n with
  | zero => simp [bit]
  | succ n ih =>
    rw [List.range_succ, List.foldl_append, List.foldl_cons, List.foldl_nil, bit_setBit, ih]
    split
    · next h => simp [h]
    · next h => congr 1; exact decide_eq_decide.mpr (by omega)

theorem vcmpSlot_legal {w : Nat} {t : Station}
    (hw : onlyFields w [(0, 8), (8, 3), (14, 6), (20, 6), (32, 3), (35, 3)] = true) (hmode : modeOf w ≠ 7)
    (hsrc : sourceHolds t [] [vaOf w, vbOf w] [] = []) :
    let cmp := fun l => f32cmp (modeOf w) (vlane (vreg t (vaOf w)) l) (vlane (vreg t (vbOf w)) l)
    vcmpSlot w t = ⟨[.setP (vdOf w) ((List.range 128).foldl (fun a l => setBit a l
        (if bit (preg t (predOf w)) l then (cmp l).1 else bit (preg t (vdOf w)) l)) 0)]
      ++ [.flags (selectedFlags (preg t (predOf w)) 128 (fun l => (cmp l).2))], [], []⟩ := by
  intro cmp
  have hlegal : ¬ ((!onlyFields w [fOp, fPd, fVa, fVb, fPred, fMode]) = true ∨ modeOf w = 7) :=
    not_or.mpr ⟨by rw [show onlyFields w [fOp, fPd, fVa, fVb, fPred, fMode] = true from hw]; decide, hmode⟩
  unfold vcmpSlot
  rw [if_neg hlegal]
  simp only [hsrc, lanes_eq_map, List.zip_map', List.map_map]
  rw [foldl_selected_map _ _ (_ ∘ _) (fun x : Bool × Nat => x.2), zipIdx_map_range, List.foldl_map]
  rfl

section Flags

variable {sl : Slot} {s : State} (ha : alone sl s.body = true) (hmask : getF s.body R.STN_ARITH_CTRL.trap_mask sl.st = 0) {c : Instr} {op fl : Nat}
  {f : Body → Station → SlotRes} {es : List Eff} {g : Station → Station} (hx : exec c s = onSlot 1 op f sl s) (hop : bits sl.w 0 8 = op)
  (hg : Writes sl.st es g) (hf : f s.body (stn s.body sl.st) = ⟨es ++ [.flags fl], [], []⟩)
include ha hmask hx hop hg hf

/-- A V slot that writes registers and raises flags while none is trapped. -/
theorem vSlot_untrapped : ∃ u, exec c s = .next u ∧ Issued [R.STN_ARITH_FLAGS.flags] sl s u (g (stn s.body sl.st)) := by
  obtain ⟨u, hu, hissued, -⟩ := vSlot_flags ha hx hop hg hf (by rw [hmask, Nat.and_zero])
  exact ⟨u, hu, hissued⟩

end Flags

theorem reduceSlot_legal {w fill : Nat} {t : Station} {f : Nat → Nat → Flagged Nat} (hw : onlyFields w [(0, 8), (8, 6), (14, 6), (32, 3)] = true)
    (hsrc : sourceHolds t [] [vdOf w, vaOf w] [] = []) :
    let r := treeFuel f 8 (selectLanes (preg t (predOf w)) (lanes (vreg t (vaOf w))) (List.replicate 128 fill))
    reduceSlot w t fill f = ⟨[.setV (vdOf w) (pack 32 (List.replicate 128 r.val))] ++ [.flags r.fl], [], []⟩ :=
  vSlot_legal hw hsrc

/-! ## Conversions (R107 to R114, R141, R142) -/

/-- An element of a group of a register. -/
theorem bits_bits {v i n j m : Nat} (h : j + m ≤ n) : bits (bits v i n) j m = bits v (i + j) m := by
  simp only [bits]
  obtain ⟨k, rfl⟩ := Nat.exists_eq_add_of_le h
  rw [Nat.add_assoc, Nat.pow_add, Nat.mod_mul_right_div_self, Nat.pow_add 2 m k, Nat.mod_mul_right_mod, Nat.div_div_eq_div_mul, Nat.pow_add]

/-- How vcvt.narrow rounds lane `l`. -/
def narrowMode (w st : Nat) (b : Body) (t : Station) (l : Nat) : RMode :=
  (rmode (modeOf w) (srRandom (getF b R.STN_ARITH_SEED.seed st) (strokeNum b) ((sreg t (siOf w) + l) % 2 ^ 64))).getD .rne

/-- The lanes of Va as vcvt.narrow reads them. -/
def narrowSources (w st : Nat) (b : Body) (t : Station) : List (FVal × RMode) :=
  (List.range 128).map (fun l => (f32dec (vlane (vreg t (vaOf w)) l), narrowMode w st b t l))

theorem narrowSources_eq (w st : Nat) (b : Body) (t : Station) :
    (lanes (vreg t (vaOf w))).zipIdx.map (fun x => (f32dec x.1,
      (rmode (modeOf w) (srRandom (getF b R.STN_ARITH_SEED.seed st) (strokeNum b) ((sreg t (siOf w) + x.2) % 2 ^ 64))).getD .rne))
      = narrowSources w st b t := by
  rw [lanes_eq_map, zipIdx_map_range, List.map_map]
  rfl

/-- Lane `l` in a format without scaling. -/
def narrowElem (f : NFmt) (w st : Nat) (b : Body) (t : Station) (l : Nat) : Flagged Nat :=
  convElem f (narrowMode w st b t l) (bit w 38) (f32dec (vlane (vreg t (vaOf w)) l))

/-- The group of Vd that vcvt.narrow writes in a format without scaling. -/
def narrowGroup (f : NFmt) (w st : Nat) (b : Body) (t : Station) : Nat :=
  pack f.width ((List.range 128).map (fun l => if bit (preg t (predOf w)) l then (narrowElem f w st b t l).val
    else bits (bits (vreg t (vdOf w)) (immOf w * (128 * f.width)) (128 * f.width)) (f.width * l) f.width))

theorem bits_narrowGroup (f : NFmt) (w st : Nat) (b : Body) (t : Station) {l : Nat} (hl : l < 128) :
    bits (narrowGroup f w st b t) (f.width * l) f.width = if bit (preg t (predOf w)) l then (narrowElem f w st b t l).val % 2 ^ f.width
      else bits (vreg t (vdOf w)) (immOf w * (128 * f.width) + f.width * l) f.width := by
  have hin : f.width * l + f.width ≤ 128 * f.width := by
    rw [← Nat.mul_succ, Nat.mul_comm 128]
    exact Nat.mul_le_mul_left _ hl
  rw [narrowGroup, bits_pack _ _ l (by simpa using hl), List.getElem_map, List.getElem_range]
  split
  · rfl
  · rw [Nat.mod_eq_of_lt (bits_lt _ _ _), bits_bits hin]

theorem not_bang_of_true {x : Bool} (h : x = true) : ¬ (!x) = true := by
  rw [h]
  decide

section Narrow

variable {w st : Nat} {f : NFmt} {b : Body} {t : Station} (hfmt : NFmt.ofCode (fmtOf w) = some f) (himm : immOf w < groups f)
  (hmode : modeOf w ≤ 4) (hsat : bit w 38 = true → f.isFp8 = true)
include himm hmode hsat

theorem narrow_permitted {fields : List (Nat × Nat)} (hw : onlyFields w fields = true) :
    ¬ ((!onlyFields w fields) = true ∨ 5 ≤ modeOf w ∨ groups f ≤ immOf w ∨ (bit w 38 = true ∧ (!f.isFp8) = true)) :=
  not_or.mpr ⟨not_bang_of_true hw, not_or.mpr ⟨by omega, not_or.mpr ⟨by omega, fun h => not_bang_of_true (hsat h.1) h.2⟩⟩⟩

include hfmt

theorem vcvtNarrowSlot_plain (hblock : (f.scaling != .none) = false)
    (hw : onlyFields w ([fOp, fVd, fVa, fMode, (38, 1), (39, 4), (53, 3)]
      ++ (if f.scaling != .none then [(26, 5)] else [fPred]) ++ (if modeOf w = 4 then [(48, 5)] else [])) = true)
    (hsrc : sourceHolds t [siOf w] [vaOf w, vdOf w] [] = []) :
    vcvtNarrowSlot w st b t = ⟨[.setV (vdOf w) (setBits (vreg t (vdOf w)) (immOf w * (128 * f.width)) (128 * f.width) (narrowGroup f w st b t))]
      ++ [.flags (selectedFlags (preg t (predOf w)) 128 (fun l => (narrowElem f w st b t l).fl))], [], []⟩ := by
  unfold vcvtNarrowSlot
  simp only [hfmt]
  rw [if_neg (narrow_permitted himm hmode hsat hw), hblock]
  simp only [Bool.false_eq_true, if_false, hsrc]
  rw [narrowSources_eq, narrowSources, unpack_eq_map, List.map_map, List.map_map, selectLanes_map, List.map_map, foldl_selected_map _ _ (_ ∘ _) (fun x : Flagged Nat => x.fl)]
  rfl

theorem vcvtNarrowSlot_block (hblock : (f.scaling != .none) = true)
    (hw : onlyFields w ([fOp, fVd, fVa, fMode, (38, 1), (39, 4), (53, 3)]
      ++ (if f.scaling != .none then [(26, 5)] else [fPred]) ++ (if modeOf w = 4 then [(48, 5)] else [])) = true)
    (hsrc : sourceHolds t [siOf w, bits w 26 5] [vaOf w, vdOf w] [] = []) :
    let r := narrow128 f (bit w 38) (narrowSources w st b t)
    vcvtNarrowSlot w st b t = ⟨[.setV (vdOf w) (setBits (vreg t (vdOf w)) (immOf w * (128 * f.width)) (128 * f.width) r.val.1),
      .setS (bits w 26 5) r.val.2] ++ [.flags r.fl], [], []⟩ := by
  intro r
  unfold vcvtNarrowSlot
  simp only [hfmt]
  rw [if_neg (narrow_permitted himm hmode hsat hw), hblock]
  simp only [if_true, hsrc]
  rw [narrowSources_eq]
  rfl

end Narrow

/-- Lane `l` that vcvt.widen makes of a group of Va. -/
def widenLane (f : NFmt) (w : Nat) (t : Station) (l : Nat) : Flagged Nat :=
  widenElem f (if f.scaling == .q4t then bits (sreg t (sbOf w)) (16 * (l / 32)) 16 else bits (sreg t (sbOf w)) (8 * (l / 32)) 8) (l % 32)
    (bits (bits (vreg t (vaOf w)) (immOf w * (128 * f.width)) (128 * f.width)) (f.width * l) f.width)

theorem widenLanes_eq (f : NFmt) (w : Nat) (t : Station) :
    (unpack f.width (bits (vreg t (vaOf w)) (immOf w * (128 * f.width)) (128 * f.width)) 128).zipIdx.map (fun x => widenElem f
      (if f.scaling == .q4t then bits (sreg t (sbOf w)) (16 * (x.2 / 32)) 16 else bits (sreg t (sbOf w)) (8 * (x.2 / 32)) 8) (x.2 % 32) x.1)
      = (List.range 128).map (widenLane f w t) := by
  rw [unpack_eq_map, zipIdx_map_range, List.map_map]
  exact List.map_congr_left fun _ _ => rfl

theorem vcvtWidenSlot_legal {w : Nat} {t : Station} {f : NFmt} (hfmt : NFmt.ofCode (fmtOf w) = some f) (himm : immOf w < groups f)
    (hw : onlyFields w ([fOp, fVd, fVa, (39, 4), (53, 3)] ++ (if f.scaling != .none then [fSb] else [fPred])) = true)
    (hsrc : sourceHolds t [sbOf w] [vaOf w, vdOf w] [] = []) :
    vcvtWidenSlot w t = ⟨[.setV (vdOf w) (pack 32 ((List.range 128).map (fun l => if bit (preg t (predOf w)) l then (widenLane f w t l).val
        else vlane (vreg t (vdOf w)) l)))]
      ++ [.flags (selectedFlags (preg t (predOf w)) 128 (fun l => (widenLane f w t l).fl))], [], []⟩ := by
  unfold vcvtWidenSlot
  simp only [hfmt]
  rw [if_neg (not_or.mpr ⟨not_bang_of_true hw, Nat.not_le.mpr himm⟩), hsrc, widenLanes_eq, lanes_eq_map, laneOp_map]
  rfl

/-! ## Registers written one after the other -/

theorem SMap.erase_insert_same {α : Type} (m : SMap α) (k : Nat) (v : α) : SMap.erase (SMap.insert m k v) k = SMap.erase m k := by
  induction m with
  | nil => simp [SMap.insert, SMap.erase]
  | cons e m ih =>
    unfold SMap.insert
    split
    · simp [SMap.erase]
    · simp only [SMap.erase, List.filter_cons] at ih ⊢
      rw [ih]

theorem SMap.erase_erase_same {α : Type} (m : SMap α) (k : Nat) : SMap.erase (SMap.erase m k) k = SMap.erase m k := by
  simp [SMap.erase]

/-- The last value written to a key is what a map keeps of it. -/
theorem SMap.put_put_same {α : Type} [DecidableEq α] (m : SMap α) (d : α) (k : Nat) (v x : α) :
    SMap.put (SMap.put m d k v) d k x = SMap.put m d k x := by
  have herase : SMap.erase (SMap.put m d k v) k = SMap.erase m k := by
    unfold SMap.put
    split
    · exact SMap.erase_erase_same m k
    · rw [SMap.erase_insert_same, SMap.erase_erase_same]
  conv_lhs => rw [SMap.put, herase]
  rfl

theorem updStn_updStn_same (b : Body) (st : Nat) (f g : Station → Station) : updStn (updStn b st f) st g = updStn b st (fun t => g (f t)) := by
  unfold updStn
  rw [stn_setStn_same]
  simp only [setStn, SMap.put_put_same]

/-- A register and then a scalar register written. -/
theorem writes_setV_setS (st r v q x : Nat) : Writes st [.setV r v, .setS q x] (fun t => setS (setV t r v) q x) := by
  refine ⟨fun pc b => ?_, rfl, fun y l => setS_loops (setV y r v) l q x⟩
  exact updStn_updStn_same b st (fun t => setV t r v) (fun t => setS t q x)

/-- Settles O19: each slot writes its registers and raises flags that are not trapped. -/
theorem compareReduceConvert : Obligations.CompareReduceConvert := by
  intro sl s ha hmask t p a fill
  refine ⟨fun hop hw hmode hsrc => ?_, fun r hr hop hw hsrc => ?_, ?_⟩
  · obtain ⟨u, hu, hissued⟩ := vSlot_untrapped (c := .vcmpF32 sl) (f := fun _ t => vcmpSlot sl.w t) ha hmask rfl hop (writes_setP sl.st _ _)
      (vcmpSlot_legal hw hmode hsrc)
    refine ⟨u, _, hu, hissued, fun l hl => ?_⟩
    rw [bit_foldl_setBit]
    simp only [hl, decide_true, Bool.true_and]
    rfl
  · have hx : exec r.1 s = onSlot 1 r.2.1 (fun _ t => reduceSlot sl.w t r.2.2.1 r.2.2.2) sl s := by
      simp only [List.mem_cons, List.not_mem_nil, or_false] at hr
      rcases hr with rfl | rfl <;> rfl
    obtain ⟨u, hu, hissued⟩ := vSlot_untrapped ha hmask hx hop (writes_setV sl.st _ _) (reduceSlot_legal hw hsrc)
    refine ⟨u, _, hu, hissued, fun l hl => ?_⟩
    rw [replicate_eq_map, vlane_pack_map _ hl]
  · intro f hfmt himm n block old seed mode sc scale
    have hin : ∀ {l : Nat}, l < 128 → f.width * l + f.width ≤ 128 * f.width := fun {l} hl => by
      rw [← Nat.mul_succ, Nat.mul_comm 128]
      exact Nat.mul_le_mul_left _ hl
    constructor
    · intro hop hmode hsat hw hsrc
      refine ⟨fun hblock => ?_, fun hblock => ?_⟩
      · obtain ⟨u, hu, hissued⟩ := vSlot_untrapped (c := .vcvtNarrow sl) (f := fun b t => vcvtNarrowSlot sl.w sl.st b t) ha hmask rfl hop
          (writes_setV sl.st _ _) (vcvtNarrowSlot_plain hfmt himm hmode hsat hblock hw
            (sourceHolds_mono hsrc (by simp) (List.Subset.refl _) (List.Subset.refl _)))
        exact ⟨u, _, hu, hissued, fun l hl => bits_narrowGroup f _ _ _ _ hl⟩
      · intro q
        exact vSlot_untrapped (c := .vcvtNarrow sl) (f := fun b t => vcvtNarrowSlot sl.w sl.st b t) ha hmask rfl hop
          (writes_setV_setS sl.st _ _ _ _) (vcvtNarrowSlot_block hfmt himm hmode hsat hblock hw hsrc)
    · intro hop hw hsrc
      obtain ⟨u, hu, hissued⟩ := vSlot_untrapped (c := .vcvtWiden sl) (f := fun _ t => vcvtWidenSlot sl.w t) ha hmask rfl hop
        (writes_setV sl.st _ _) (vcvtWidenSlot_legal hfmt himm hw hsrc)
      refine ⟨u, _, hu, hissued, fun l hl => ?_⟩
      rw [vlane_pack_map _ hl, widenLane, bits_bits (hin hl)]
      split
      · rfl
      · exact Nat.mod_eq_of_lt (vlane_lt _ _)

end Sys2Proof.Machine

/-! SUPPORT. Reads and writes of bytes in units of 32: what sound units of station SRAM and of the stacks give and keep. -/

namespace Sys2Proof.Machine

/-! ## Units and the bytes in them -/

theorem flatMap_blocks {α : Type} (f : Nat → α) (k : Nat) : ∀ n,
    (List.range n).flatMap (fun u => (List.range k).map (fun i => f (k * u + i))) = (List.range (n * k)).map f
  | 0 => by simp
  | n + 1 => by
    rw [List.range_succ, List.flatMap_append, flatMap_blocks f k n, Nat.succ_mul, List.range_add, List.map_append, List.map_map]
    simp [Nat.mul_comm k n, Function.comp_def]

/-- The bytes of the units that an access touches, cut to the access, are its bytes. -/
theorem unitsOf_bytes {α : Type} (g : Nat → α) (off len : Nat) :
    (((unitsOf off len).flatMap (fun u => (List.range 32).map (fun i => g (u * 32 + i)))).drop (off % 32)).take len
      = (List.range len).map (fun i => g (off + i)) := by
  unfold unitsOf
  split
  · next h => subst h; simp
  · next h =>
    rw [List.flatMap_map]
    have hblocks := flatMap_blocks (fun i => g (off / 32 * 32 + i)) 32 ((off + len - 1) / 32 - off / 32 + 1)
    have harg : ∀ u i, off / 32 * 32 + (32 * u + i) = (u + off / 32) * 32 + i := fun u i => by omega
    simp only [harg] at hblocks
    rw [hblocks]
    refine List.ext_getElem (by simp; omega) fun i h1 h2 => ?_
    simp only [List.getElem_take, List.getElem_drop, List.getElem_map, List.getElem_range]
    congr 1
    omega

theorem chunksOf_flatten {α : Type} (k : Nat) : ∀ (n : Nat) (l : List α), l.length ≤ n * k → (chunksOf k n l).flatten = l
  | 0, l, h => by
    have : l = [] := by simpa using h
    simp [chunksOf, this]
  | n + 1, l, h => by
    rw [chunksOf]
    split
    · next he => simp [List.isEmpty_iff.mp he]
    · rw [List.flatten_cons, chunksOf_flatten k n _ (by rw [List.length_drop, Nat.succ_mul] at *; omega), List.take_append_drop]

theorem chunksOf_length {α : Type} {k : Nat} : ∀ {n : Nat} {l c : List α}, l.length = n * k → c ∈ chunksOf k n l → c.length = k
  | 0, _, _, _, hc => absurd hc List.not_mem_nil
  | n + 1, l, c, h, hc => by
    rw [Nat.succ_mul] at h
    rw [chunksOf] at hc
    split at hc
    · exact absurd hc List.not_mem_nil
    · rcases List.mem_cons.mp hc with rfl | hc
      · rw [List.length_take, h]; omega
      · exact chunksOf_length (by rw [List.length_drop, h]; omega) hc

/-- A way to store bytes from an address on: storing them in two parts stores them, and what is not given stays. -/
structure Stores {M : Type} (put : M → Nat → List (Option Byte) → M) : Prop where
  append : ∀ m a xs ys, put m a (xs ++ ys) = put (put m a xs) (a + xs.length) ys
  nones : ∀ m a n, put m a (List.replicate n none) = m

theorem Stores.nil {M : Type} {put : M → Nat → List (Option Byte) → M} (h : Stores put) (m : M) (a : Nat) : put m a [] = m := h.nones m a 0

theorem Stores.chunks {M : Type} {put : M → Nat → List (Option Byte) → M} (h : Stores put) : ∀ (cs : List (List (Option Byte))) (m : M) (n u : Nat),
    (∀ c ∈ cs, c.length = 32) → ((cs.zipIdx n).map (fun p => (u + p.2, p.1))).foldl (fun m p => put m (p.1 * 32) p.2) m
      = put m ((u + n) * 32) cs.flatten
  | [], m, n, u, _ => (h.nil m _).symm
  | c :: cs, m, n, u, hc => by
    rw [List.zipIdx_cons, List.map_cons, List.foldl_cons, h.chunks cs _ (n + 1) u fun x hx => hc x (List.mem_cons_of_mem _ hx),
      List.flatten_cons, h.append, hc c List.mem_cons_self]
    congr 1
    omega

/-- Storing the parts of the units that a write touches stores its bytes. -/
theorem Stores.splitUnits {M : Type} {put : M → Nat → List (Option Byte) → M} (h : Stores put) (m : M) (off : Nat) (data : List (Option Byte)) :
    (splitUnits off data).foldl (fun m p => put m (p.1 * 32) p.2) m = put m off data := by
  unfold Machine.splitUnits
  simp only []
  generalize hfull : List.replicate (off % 32) none ++ data
    ++ List.replicate ((32 - (List.replicate (off % 32) none ++ data).length % 32) % 32) none = full
  have hlen : full.length = full.length / 32 * 32 := by
    rw [← hfull]
    simp only [List.length_append, List.length_replicate]
    omega
  rw [h.chunks _ _ 0 (off / 32) fun c hc => chunksOf_length hlen hc, chunksOf_flatten _ _ _ (Nat.le_of_eq hlen), ← hfull, h.append, h.append,
    h.nones, h.nones, List.length_replicate]
  congr 1
  omega

theorem storeBytes_append (m : SMap Byte) (a : Nat) (xs ys : List (Option Byte)) :
    storeBytes m a (xs ++ ys) = storeBytes (storeBytes m a xs) (a + xs.length) ys := by
  unfold storeBytes
  rw [List.zipIdx_append, List.foldl_append, Nat.zero_add, List.zipIdx_eq_map_add (i := xs.length), List.foldl_map]
  simp only [Nat.add_assoc]

theorem storeBytes_nones (m : SMap Byte) (a n : Nat) : storeBytes m a (List.replicate n none) = m := by
  induction n with
  | zero => rfl
  | succ n ih => rw [List.replicate_succ', storeBytes_append, ih]; rfl

theorem stores_storeBytes : Stores storeBytes := ⟨storeBytes_append, storeBytes_nones⟩

theorem memStore_append (xs ys : List (Option Byte)) : ∀ (m : List Host.Cell) (a : Nat),
    memStore m a (xs ++ ys) = memStore (memStore m a xs) (a + xs.length) ys := by
  induction xs with
  | nil => exact fun _ _ => rfl
  | cons x xs ih =>
    intro m a
    cases x <;> simp only [List.cons_append, memStore, ih, List.length_cons, Nat.add_assoc, Nat.add_comm 1]

theorem stores_memStore : Stores memStore := by
  refine ⟨fun m a xs ys => memStore_append xs ys m a, fun m a n => ?_⟩
  induction n generalizing a with
  | zero => rfl
  | succ n ih => exact ih (a + 1)

/-- What storing bytes in station SRAM leaves at an offset. -/
theorem get_storeBytes (m : SMap Byte) (a : Nat) (data : List (Option Byte)) (i : Nat) :
    SMap.get (storeBytes m a data) 0 i = if a ≤ i then ((data[i - a]?).getD none).getD (SMap.get m 0 i) else SMap.get m 0 i := by
  induction data using List.reverseRecOn with
  | nil => simp [storeBytes]
  | append_singleton xs x ih =>
    rw [storeBytes_append]
    cases x with
    | none =>
      rw [show storeBytes (storeBytes m a xs) (a + xs.length) [none] = storeBytes m a xs from rfl, ih]
      split
      · rcases Nat.lt_trichotomy (i - a) xs.length with h | h | h
        · rw [List.getElem?_append_left h]
        · rw [h]; simp
        · rw [List.getElem?_eq_none (by omega), List.getElem?_eq_none (by simp; omega)]
      · rfl
    | some v =>
      rw [show storeBytes (storeBytes m a xs) (a + xs.length) [some v] = SMap.put (storeBytes m a xs) 0 (a + xs.length) v from rfl]
      by_cases hi : i = a + xs.length
      · subst hi
        rw [SMap.get_put_same, if_pos (by omega), Nat.add_sub_cancel_left]
        simp
      · rw [SMap.get_put_ne _ _ _ _ _ _ hi, ih]
        split
        · rcases Nat.lt_or_ge (i - a) xs.length with h | h
          · rw [List.getElem?_append_left h]
          · rw [List.getElem?_eq_none (by omega), List.getElem?_eq_none (by simp; omega)]
        · rfl

/-! ## Reads and writes of sound station SRAM (R182) -/

theorem readSramUnit_sound {b : Body} {st u : Nat} (h : SMap.get (stn b st).badSram [] u = []) :
    readSramUnit b st u = (some (bytesAt (stn b st).sram (u * 32) 32), { b with free := b.free + 4 }) := by
  unfold readSramUnit
  simp only [h]
  rfl

theorem readSramUnits_sound {st : Nat} : ∀ (us : List Nat) (b : Body), (∀ u, SMap.get (stn b st).badSram [] u = []) →
    ∃ k, readSramUnits st us b = ((us.flatMap (fun u => bytesAt (stn b st).sram (u * 32) 32), []), { b with free := k })
  | [], b, _ => ⟨b.free, rfl⟩
  | u :: us, b, h => by
    obtain ⟨k, hk⟩ := readSramUnits_sound us { b with free := b.free + 4 + 1 } h
    refine ⟨k, ?_⟩
    rw [readSramUnits, readSramUnit_sound (h u)]
    simp only [Option.getD_some, Option.isNone_some, Bool.false_eq_true, if_false, hk]
    rfl

/-- A read of sound station SRAM gives its bytes. -/
theorem readSram_sound {b : Body} {st : Nat} (off len : Nat) (h : ∀ u, SMap.get (stn b st).badSram [] u = []) :
    ∃ k, readSram b st off len = ((bytesAt (stn b st).sram off len, []), { b with free := k }) := by
  obtain ⟨k, hk⟩ := readSramUnits_sound (unitsOf off len) b h
  refine ⟨k, ?_⟩
  rw [readSram, hk]
  simp only [bytesAt, unitsOf_bytes (fun i => SMap.get (stn b st).sram 0 i)]

/-- `c` is `b` with bytes `m` in the SRAM of station `st`, every unit of it sound. -/
structure SramHolds (st : Nat) (m : SMap Byte) (b c : Body) : Prop where
  only : Only [.stations, .free] b c
  others : ∀ y, y ≠ st → stn c y = stn b y
  station : ∃ bad wb, stn c st = { stn b st with sram := m, badSram := bad, writeBack := wb }
  sound : ∀ u, SMap.get (stn c st).badSram [] u = []

namespace SramHolds

variable {st : Nat} {m m' : SMap Byte} {b c d : Body}

theorem sram (h : SramHolds st m b c) : (stn c st).sram = m := by
  obtain ⟨-, -, ⟨bad, wb, hst⟩, -⟩ := h
  rw [hst]

theorem regs (h : SramHolds st m b c) : c.regs = b.regs := (h.only .regs).resolve_left (by decide)

theorem trans (h : SramHolds st m b c) (h' : SramHolds st m' c d) : SramHolds st m' b d := by
  obtain ⟨honly, hother, ⟨bad, wb, hst⟩, -⟩ := h
  obtain ⟨honly', hother', ⟨bad', wb', hst'⟩, hsound⟩ := h'
  exact ⟨honly.trans honly', fun y hy => (hother' y hy).trans (hother y hy), ⟨bad', wb', by rw [hst', hst]⟩, hsound⟩

end SramHolds

theorem SMap.get_erase {α : Type} (m : SMap α) (d : α) (k j : Nat) : SMap.get (SMap.erase m k) d j = if j = k then d else SMap.get m d j := by
  split
  · next h => rw [h]; exact SMap.get_erase_same m d k
  · next h => exact SMap.get_erase_ne m d k j h

theorem eq_nones_of_all {α : Type} {data : List (Option α)} (h : data.all Option.isNone = true) : data = List.replicate data.length none :=
  List.eq_replicate_of_mem fun x hx => Option.isNone_iff_eq_none.mp (List.all_eq_true.mp h x hx)

theorem writeSramUnit_sound {b : Body} {st : Nat} (u : Nat) (data : List (Option Byte)) (h : ∀ u, SMap.get (stn b st).badSram [] u = []) :
    (writeSramUnit b st u data).1 = true ∧ SramHolds st (storeBytes (stn b st).sram (u * 32) data) b (writeSramUnit b st u data).2 := by
  unfold writeSramUnit
  split
  · next hnone =>
    rw [eq_nones_of_all hnone, storeBytes_nones]
    exact ⟨rfl, Only.refl _ _, fun _ _ => rfl, ⟨_, _, rfl⟩, h⟩
  · obtain ⟨bs, k, hread⟩ : ∃ bs k, (if data.all Option.isSome then (some [], b) else readSramUnit b st u) = (some bs, { b with free := k }) := by
      split
      · exact ⟨[], b.free, rfl⟩
      · exact ⟨_, _, readSramUnit_sound (h u)⟩
    have hbad : SMap.get (stn { b with free := k } st).badSram [] u = [] := h u
    simp only [hread, hbad, List.length_nil, Nat.zero_lt_succ, if_true, true_and]
    refine ⟨?_, fun y hy => stn_updStn_ne _ _ _ _ hy, ⟨_, _, stn_updStn_same _ _ _⟩, fun v => ?_⟩
    · exact (show Only [.stations, .free] b { b with free := k } from fun p => by cases p <;> first | exact .inl (by decide) | exact .inr rfl).updStn
        _ _ (by decide)
    · rw [stn_updStn_same, SMap.get_erase]
      split
      · rfl
      · exact h v

theorem writeSramUnits_sound {st : Nat} : ∀ (ps : List (Nat × List (Option Byte))) (b : Body), (∀ u, SMap.get (stn b st).badSram [] u = []) →
    (writeSramUnits st ps b).1 = []
      ∧ SramHolds st (ps.foldl (fun m p => storeBytes m (p.1 * 32) p.2) (stn b st).sram) b (writeSramUnits st ps b).2
  | [], b, h => ⟨rfl, Only.refl _ _, fun _ _ => rfl, ⟨_, _, rfl⟩, h⟩
  | p :: ps, b, h => by
    obtain ⟨hok, hunit⟩ := writeSramUnit_sound p.1 p.2 h
    obtain ⟨hnil, hrest⟩ := writeSramUnits_sound ps _ hunit.sound
    rw [hunit.sram] at hrest
    exact ⟨by rw [writeSramUnits]; simp only [hok, if_true]; exact hnil, hunit.trans hrest⟩

/-- A write to sound station SRAM stores the bytes given. -/
theorem writeSram_sound {b : Body} {st : Nat} (off : Nat) (data : List (Option Byte)) (h : ∀ u, SMap.get (stn b st).badSram [] u = []) :
    (writeSram b st off data).1 = [] ∧ SramHolds st (storeBytes (stn b st).sram off data) b (writeSram b st off data).2 := by
  have hunits := writeSramUnits_sound (splitUnits off data) b h
  rwa [stores_storeBytes.splitUnits] at hunits

/-! ## Reads and writes of stacks without erroneous symbols (R182) -/

theorem readStackUnit_sound {s : State} (u : Nat) (h : s.body.badStack = []) :
    readStackUnit u s = (some (memBytes s.mem (u * 32) 32), { s with body := { s.body with free := s.body.free + 4 } }) := by
  unfold readStackUnit
  rw [h]
  rfl

theorem readStackUnits_sound : ∀ (us : List Nat) (s : State), s.body.badStack = [] →
    ∃ k, readStackUnits us s = ((us.flatMap (fun u => memBytes s.mem (u * 32) 32), []), { s with body := { s.body with free := k } })
  | [], s, _ => ⟨s.body.free, rfl⟩
  | u :: us, s, h => by
    obtain ⟨k, hk⟩ := readStackUnits_sound us { s with body := { s.body with free := s.body.free + 4 + 1 } } h
    refine ⟨k, ?_⟩
    rw [readStackUnits, readStackUnit_sound u h]
    simp only [Option.getD_some, Option.isNone_some, Bool.false_eq_true, if_false, hk]
    rfl

/-- A read of sound stacks gives their bytes. -/
theorem readStack_sound {s : State} (a n : Nat) (h : s.body.badStack = []) :
    ∃ k, readStack a n s = ((memBytes s.mem a n, []), { s with body := { s.body with free := k } }) := by
  obtain ⟨k, hk⟩ := readStackUnits_sound (unitsOf a n) s h
  refine ⟨k, ?_⟩
  rw [readStack, hk]
  simp only [memBytes, unitsOf_bytes (fun i => memGet s.mem i)]

theorem writeStackUnit_sound {s : State} (u : Nat) (data : List (Option Byte)) (h : s.body.badStack = []) :
    ∃ k, writeStackUnit u data s = (true, { s with mem := memStore s.mem (u * 32) data, body := { s.body with free := k } }) := by
  unfold writeStackUnit
  split
  · next hnone =>
    rw [eq_nones_of_all hnone, stores_memStore.nones]
    exact ⟨s.body.free, rfl⟩
  · obtain ⟨bs, k, hread⟩ : ∃ bs k, (if data.all Option.isSome then (some [], s) else readStackUnit u s)
        = (some bs, { s with body := { s.body with free := k } }) := by
      split
      · exact ⟨[], s.body.free, rfl⟩
      · exact ⟨_, _, readStackUnit_sound u h⟩
    refine ⟨k, ?_⟩
    simp only [hread, h]
    rfl

theorem writeStackUnits_sound : ∀ (ps : List (Nat × List (Option Byte))) (s : State), s.body.badStack = [] →
    ∃ k, writeStackUnits ps s = ([], { s with mem := ps.foldl (fun m p => memStore m (p.1 * 32) p.2) s.mem, body := { s.body with free := k } })
  | [], s, _ => ⟨s.body.free, rfl⟩
  | p :: ps, s, h => by
    obtain ⟨j, hj⟩ := writeStackUnit_sound p.1 p.2 h
    obtain ⟨k, hk⟩ := writeStackUnits_sound ps { s with mem := memStore s.mem (p.1 * 32) p.2, body := { s.body with free := j } } h
    refine ⟨k, ?_⟩
    rw [writeStackUnits]
    simp only [hj, hk]
    rfl

/-- A write to sound stacks stores the bytes given. -/
theorem writeStack_sound {s : State} (a : Nat) (data : List (Option Byte)) (h : s.body.badStack = []) :
    ∃ k, writeStack a data s = ([], { s with mem := memStore s.mem a data, body := { s.body with free := k } }) := by
  obtain ⟨k, hk⟩ := writeStackUnits_sound (splitUnits a data) s h
  rw [stores_memStore.splitUnits] at hk
  exact ⟨k, hk⟩

/-- What storing bytes in the stacks leaves at an address. -/
theorem memGet_memStore (m : List Host.Cell) (a : Nat) (data : List (Option Byte)) (c : Nat) :
    memGet (memStore m a data) c = if a ≤ c then ((data[c - a]?).getD none).getD (memGet m c) else memGet m c := by
  split
  · next h =>
    obtain ⟨i, rfl⟩ := Nat.exists_eq_add_of_le h
    rw [Nat.add_sub_cancel_left]
    rcases Nat.lt_or_ge i data.length with hi | hi
    · rw [memGet_memStore_inside data m a i hi, List.getD_eq_getElem?_getD]
    · rw [memGet_memStore_outside data _ m a (.inr (Nat.add_le_add_left hi a)), List.getElem?_eq_none hi]
      rfl
  · next h => exact memGet_memStore_outside data c m a (.inl (Nat.lt_of_not_le h))

end Sys2Proof.Machine

/-! SUPPORT. Loads and stores of the V slot in the station's own window (O20). -/

namespace Sys2Proof.Machine

theorem leBytes_eq_map (n v : Nat) : leBytes n v = (List.range n).map (fun i => BitVec.ofNat 8 (v / 256 ^ i)) := by
  induction n generalizing v with
  | zero => rfl
  | succ n ih =>
    rw [leBytes, ih, List.range_succ_eq_map, List.map_cons, List.map_map]
    congr 1
    · simp
    · refine List.map_congr_left fun i _ => ?_
      simp only [Function.comp, Nat.div_div_eq_div_mul, Nat.pow_succ']

/-- The window address of an offset in the window of a logical station (R139, R168). -/
theorem winOf_window {a d l off : Nat} (ha : 0xF000000000 + d * 0x20000000 + l * 0x800000 + off = a) (hd : d < 16) (hl : l < 48) (hoff : off < 0x600000) :
    winOf a = some ⟨d, l, off⟩ := by
  unfold winOf
  rw [if_pos (by omega)]
  dsimp only
  rw [if_pos (by omega), Option.some_inj, WinAddr.mk.injEq]
  omega

section Own

variable {b : Body} {st a len d l off : Nat} {t : Station} (hwin : winOf a = some ⟨d, l, off⟩) (hphys : physOf b d l = some st)
include hwin

theorem accessExcs_own {al : Nat} (hlen : off + len ≤ 0x600000) (hal : a % al = 0) : accessExcs a len al = [] := by
  have haccess : winAccess a len = some ⟨d, l, off⟩ := by
    unfold winAccess
    rw [hwin]
    exact if_pos hlen
  rw [accessExcs, haccess, hal]
  rfl

include hphys

theorem accessHolds_own (store : Bool) (hq : t.matQ = []) : accessHolds b st t a len store = [] := by
  have hfree : rangeBusy t off len = false := by rw [rangeBusy, hq]; rfl
  unfold accessHolds
  rw [hwin]
  simp only [hphys, if_true, hfree, Bool.and_false, Bool.false_eq_true, if_false]

/-- A load in the station's own window writes its register. -/
theorem applyEff_load_own (pc slot : Nat) (toV : Bool) (reg : Nat) (hsound : ∀ u, SMap.get (stn b st).badSram [] u = []) :
    ∃ k, applyEff st pc slot (.load toV reg a len) b = updStn { b with free := k } st (fun t => if toV then
      setV t reg (ofLeBytes (bytesAt (stn b st).sram off len)) else setS t reg (ofLeBytes (bytesAt (stn b st).sram off len))) := by
  obtain ⟨k, hk⟩ := readSram_sound off len hsound
  refine ⟨k, ?_⟩
  rw [applyEff]
  simp only [hwin, hphys, if_true, hk]
  rfl

/-- A store in the station's own window stores its bytes. -/
theorem applyEff_store_own (pc slot : Nat) (data : List (Option Byte)) (hsound : ∀ u, SMap.get (stn b st).badSram [] u = []) :
    SramHolds st (storeBytes (stn b st).sram off data) b (applyEff st pc slot (.store a data) b) := by
  obtain ⟨hok, hholds⟩ := writeSram_sound off data hsound
  have he : applyEff st pc slot (.store a data) b = (writeSram b st off data).2 := by
    rw [applyEff]
    simp only [hwin, hphys, if_true, hok]
    rfl
  rwa [he]

end Own

theorem Advanced.withFree {sl : Slot} {b c : Body} {pc : Nat} {loops : List LoopEntry} (h : Advanced sl b c pc loops) (k : Nat) :
    Advanced sl b { c with free := k } pc loops :=
  ⟨h.only.trans fun p => by cases p <;> first | exact .inl (by decide) | exact .inr rfl,
    h.station, h.others, h.pc, h.state, h.tally, h.barrier, h.fence, h.regs⟩

theorem Advanced.physOf_eq {sl : Slot} {b c : Body} {pc : Nat} {loops : List LoopEntry} (h : Advanced sl b c pc loops) (d l : Nat) :
    physOf c d l = physOf b d l := by
  have hmap : c.dieMap = b.dieMap := (h.only .dieMap).resolve_left (by decide)
  unfold physOf
  rw [hmap]

section Memory

variable {sl : Slot} {s : State} (ha : alone sl s.body = true) {c : Instr} {op a len d l off : Nat} {f : Body → Station → SlotRes}
  (hx : exec c s = onSlot 1 op f sl s) (hop : bits sl.w 0 8 = op) (hwin : winOf a = some ⟨d, l, off⟩) (hphys : physOf s.body d l = some sl.st)
  (hsound : ∀ u, SMap.get (stn s.body sl.st).badSram [] u = [])
include ha hx hop hwin hphys hsound

theorem load_retires {toV : Bool} {reg : Nat} (hf : f s.body (stn s.body sl.st) = ⟨[.load toV reg a len], [], []⟩) :
    Retires c sl s (if toV then setV (stn s.body sl.st) reg (ofLeBytes (bytesAt (stn s.body sl.st).sram off len))
      else setS (stn s.body sl.st) reg (ofLeBytes (bytesAt (stn s.body sl.st).sram off len))) := by
  obtain ⟨b, hb, hadv⟩ := onSlot_advanced 1 op f sl s _ (by decide) ha hop hf rfl
  have hsound' : ∀ u, SMap.get (stn b sl.st).badSram [] u = [] := by rw [hadv.station]; exact hsound
  obtain ⟨k, hk⟩ := applyEff_load_own (len := len) hwin ((hadv.physOf_eq d l).trans hphys) (getF s.body R.STN_SEQ_PC.pc sl.st) 1 toV reg hsound'
  have hsram : (stn b sl.st).sram = (stn s.body sl.st).sram := by rw [hadv.station]
  rw [hsram] at hk
  refine ⟨_, hx.trans hb, ?_⟩
  rw [show forEach [Eff.load toV reg a len] (applyEff sl.st (getF s.body R.STN_SEQ_PC.pc sl.st) 1) b = _ from hk]
  refine (hadv.withFree k).issuedAt _ fun x l => ?_
  split
  · rfl
  · exact setS_loops _ _ _ _

/-- What a store leaves: the bytes stored, every register of the station, and the other stations. -/
theorem store_issues {data : List (Option Byte)} (hf : f s.body (stn s.body sl.st) = ⟨[.store a data], [], []⟩) :
    ∃ u, exec c s = .next u ∧ u.pending = s.pending ∧ u.mem = s.mem ∧ Only [.stations, .regs, .free] s.body u.body
      ∧ (∀ y, y ≠ sl.st → stn u.body y = stn s.body y)
      ∧ (stn u.body sl.st).sram = storeBytes (stn s.body sl.st).sram off data
      ∧ (stn u.body sl.st).s = (stn s.body sl.st).s ∧ (stn u.body sl.st).v = (stn s.body sl.st).v := by
  obtain ⟨b, hb, hadv⟩ := onSlot_advanced 1 op f sl s _ (by decide) ha hop hf rfl
  have hsound' : ∀ u, SMap.get (stn b sl.st).badSram [] u = [] := by rw [hadv.station]; exact hsound
  obtain ⟨honly, hother, ⟨bad, wb, hst⟩, -⟩ := applyEff_store_own hwin ((hadv.physOf_eq d l).trans hphys) (getF s.body R.STN_SEQ_PC.pc sl.st) 1 data hsound'
  rw [hadv.station] at hst
  refine ⟨_, hx.trans hb, rfl, rfl, hadv.only.trans (honly.mono (by decide)), fun y hy => (hother y hy).trans (hadv.others y hy), ?_, ?_, ?_⟩
  · exact (congrArg Station.sram hst).trans rfl
  · exact (congrArg Station.s hst).trans rfl
  · exact (congrArg Station.v hst).trans rfl

end Memory

/-- Bytes stored under a selection. -/
theorem get_storeBytes_selected (m : SMap Byte) (off len : Nat) (x : Nat → Byte) (sel : Nat → Bool) (i : Nat) :
    SMap.get (storeBytes m off ((List.range len).map (fun i => if sel i then some (x i) else none))) 0 i
      = if off ≤ i ∧ i < off + len ∧ sel (i - off) = true then x (i - off) else SMap.get m 0 i := by
  rw [get_storeBytes]
  split
  · next h =>
    rcases Nat.lt_or_ge (i - off) len with hi | hi
    · rw [List.getElem?_map, List.getElem?_range hi]
      simp only [Option.map_some, Option.getD_some, h, show i < off + len by omega, true_and]
      split <;> rfl
    · rw [List.getElem?_eq_none (by simpa using hi), if_neg (by omega)]
      rfl
  · next h => rw [if_neg (by omega)]

/-- The bytes of a vst are those of the selected lanes. -/
theorem vstBytes_eq_map (p v : Nat) : vstBytes p v
    = (List.range 512).map (fun i => if bit p (i / 4) then some (BitVec.ofNat 8 (v / 256 ^ i)) else none) := by
  rw [vstBytes, leBytes_eq_map, zipIdx_map_range, List.map_map]
  rfl

theorem sourceHolds_idle {t : Station} (hout : t.outst = []) (hq : t.matQ = []) (ss vs tiles : List Nat) : sourceHolds t ss vs tiles = [] :=
  (sourceHolds_eq_nil _ _ _ _).mpr ⟨fun r _ => by rw [pendingS, hout]; rfl, fun r _ => by rw [pendingV, hout]; rfl,
    fun a _ => by rw [pendingTile, hq]; rfl⟩

/-- An access whose bits are legal, with neither exception nor hold. -/
theorem accessSlot_legal {w : Nat} {fields : List (Nat × Nat)} {e : Eff} {xs : List Exc} {hs gs : List Hold} (hw : onlyFields w fields = true)
    (hxs : xs = []) (hhs : hs = []) (hgs : gs = []) :
    (if !onlyFields w fields then SlotRes.illegal 1 w else { effs := [e], excs := xs, holds := hs ++ gs }) = ⟨[e], [], []⟩ := by
  rw [if_neg (not_bang_of_true hw), hxs, hhs, hgs]
  rfl

/-- Settles O20: each access is an effect on the bytes of the station's own sound SRAM. -/
theorem loadsAndStores : Obligations.LoadsAndStores := by
  intro sl s ha t p a d l off hoff hd hl hphys hsound hq hout stored
  have hsrc := sourceHolds_idle hout hq
  have hwin : ∀ {len : Nat}, 0 < len → off + len ≤ 0x600000 → winOf a = some ⟨d, l, off⟩ := fun hpos hlen => winOf_window hoff hd hl (by omega)
  refine ⟨fun hop hw hal hlen => ?_, fun hop hw hal hlen => ?_, fun hop hw hal hlen => ?_, fun hop hw hal hlen => ?_⟩
  · have hx := hwin (by decide) hlen
    exact load_retires (c := .vld sl) (f := fun b t => vldSlot sl.w sl.st b t) ha rfl hop hx hphys hsound
      (accessSlot_legal (e := .load true (vdOf sl.w) a 512) hw (accessExcs_own hx hlen hal) (hsrc _ _ _) (accessHolds_own hx hphys _ hq))
  · have hx := hwin (by decide) hlen
    exact load_retires (c := .sld sl) (f := fun b t => sldSlot sl.w sl.st b t) ha rfl hop hx hphys hsound
      (accessSlot_legal (e := .load false (vdOf sl.w) a 8) hw (accessExcs_own hx hlen hal) (hsrc _ _ _) (accessHolds_own hx hphys _ hq))
  · have hx := hwin (by decide) hlen
    obtain ⟨u, hu, hpend, hmem, honly, hother, hsram, hs, hv⟩ := store_issues (c := .vst sl) (f := fun b t => vstSlot sl.w sl.st b t) ha rfl hop hx
      hphys hsound (accessSlot_legal (e := .store a (vstBytes p (vreg t (vaOf sl.w)))) hw (accessExcs_own hx hlen hal) (hsrc _ _ _)
        (accessHolds_own hx hphys _ hq))
    refine ⟨u, hu, hpend, hmem, honly, hother, fun i => ?_, hs, hv⟩
    rw [hsram, vstBytes_eq_map, get_storeBytes_selected]
  · have hx := hwin (by decide) hlen
    obtain ⟨u, hu, hpend, hmem, honly, hother, hsram, hs, hv⟩ := store_issues (c := .sst sl) (f := fun b t => sstSlot sl.w sl.st b t) ha rfl hop hx
      hphys hsound (accessSlot_legal (e := .store a ((leBytes 8 (sreg t (vaOf sl.w))).map some)) hw (accessExcs_own hx hlen hal) (hsrc _ _ _)
        (accessHolds_own hx hphys _ hq))
    refine ⟨u, hu, hpend, hmem, honly, hother, fun i => ?_, hs, hv⟩
    have hall := get_storeBytes_selected (stn s.body sl.st).sram off 8 (fun i => BitVec.ofNat 8 (sreg t (vaOf sl.w) / 256 ^ i)) (fun _ => true) i
    rw [hsram, leBytes_eq_map, List.map_map]
    exact hall

end Sys2Proof.Machine

/-! SUPPORT. The D slot, the M slot and the queue of the matrix engine (O21, O22). -/

namespace Sys2Proof.Machine

/-! ## The D slot (R143, R144) -/

theorem dSlot_legal {w st : Nat} {b : Body} {t : Station} {fields : List (Nat × Nat)} {rs : List Nat} {e : DrvEntry}
    (hw : onlyFields w ([(0, 8), (8, 1), (14, 5), (29, 12), (41, 1)] ++ fields) = true) (hsrc : sourceHolds t rs [] [] = [])
    (hroom : (drv b (st * 2 + bits w 8 1)).queue.length < 16) : dSlot w st b t fields rs e = ⟨[.drover (bits w 8 1) e], [], []⟩ := by
  unfold dSlot
  rw [if_neg (not_bang_of_true hw), hsrc]
  dsimp only
  rw [if_neg (Nat.not_le.mpr hroom)]
  rfl

section DSlot

variable {sl : Slot} {s : State} (ha : alone sl s.body = true) {c : Instr} {op k : Nat} {f : Body → Station → SlotRes} {e : DrvEntry}
  (hx : exec c s = onSlot 2 op f sl s) (hop : bits sl.w 0 8 = op) (hf : f s.body (stn s.body sl.st) = ⟨[.drover k e], [], []⟩)
include ha hx hop hf

/-- A D slot that issues puts its entry at the back of its drover's queue. -/
theorem dSlot_queues : ∃ u, exec c s = .next u ∧ u.pending = s.pending ∧ u.mem = s.mem ∧ Only [.stations, .regs, .free, .drovers] s.body u.body
    ∧ drv u.body (sl.st * 2 + k) = { drv s.body (sl.st * 2 + k) with
        queue := (drv s.body (sl.st * 2 + k)).queue ++ [{ e with pc := getF s.body R.STN_SEQ_PC.pc sl.st }] }
    ∧ (∀ y, y ≠ sl.st * 2 + k → drv u.body y = drv s.body y)
    ∧ stn u.body sl.st = { stn s.body sl.st with loops := (stn u.body sl.st).loops } ∧ ∀ y, y ≠ sl.st → stn u.body y = stn s.body y := by
  obtain ⟨b, hb, hadv⟩ := onSlot_advanced 2 op f sl s _ (by decide) ha hop hf rfl
  have hdrv : ∀ y, drv b y = drv s.body y := fun y => by
    have hsame : b.drovers = s.body.drovers := (hadv.only .drovers).resolve_left (by decide)
    rw [drv, hsame]
    rfl
  have he : forEach [.drover k e] (applyEff sl.st (getF s.body R.STN_SEQ_PC.pc sl.st) 2) b
      = updDrv b (sl.st * 2 + k) (fun x => { x with queue := x.queue ++ [{ e with pc := getF s.body R.STN_SEQ_PC.pc sl.st }] }) := rfl
  rw [he] at hb
  have honly : Only [.stations, .regs, .free, .drovers] b
      (updDrv b (sl.st * 2 + k) (fun x => { x with queue := x.queue ++ [{ e with pc := getF s.body R.STN_SEQ_PC.pc sl.st }] })) :=
    fun p => by cases p <;> first | exact .inl (by decide) | exact .inr rfl
  refine ⟨_, hx.trans hb, rfl, rfl, (hadv.only.mono (by decide)).trans honly, ?_, fun y hy => ?_, ?_, fun y hy => hadv.others y hy⟩
  · rw [drv_updDrv_same, hdrv]
  · rw [drv_updDrv_ne _ _ _ _ hy, hdrv]
  · rw [stn_updDrv, hadv.station]

end DSlot

/-- Settles O21: each D slot queues the entry it forms. -/
theorem droverIssue : Obligations.DroverIssue := by
  intro sl s ha t k q pc rs rd rl hsrc hroom queued moves
  have hlist := sourceHolds_scalar_mono (rs := [bits sl.w 14 5]) hsrc (by simp)
  refine ⟨fun hop hw => ?_, fun hop hw => ?_, fun hop hw => ?_, fun hop hw => ?_⟩
  · obtain ⟨u, hu, hpend, hmem, honly, hq, hothers, hst, hstns⟩ := dSlot_queues (c := .dmovG2s sl) (f := fun b t => dmovSlot sl.w sl.st b t 1)
      ha rfl hop (dSlot_legal hw hsrc hroom)
    exact ⟨u, _, hu, hpend, hmem, honly, hq, hothers, hst, hstns, rfl, rfl, rfl, rfl, rfl, rfl, rfl, rfl, rfl, rfl, rfl⟩
  · obtain ⟨u, hu, hpend, hmem, honly, hq, hothers, hst, hstns⟩ := dSlot_queues (c := .dmovS2g sl) (f := fun b t => dmovSlot sl.w sl.st b t 2)
      ha rfl hop (dSlot_legal hw hsrc hroom)
    exact ⟨u, _, hu, hpend, hmem, honly, hq, hothers, hst, hstns, rfl, rfl, rfl, rfl, rfl, rfl, rfl, rfl, rfl, rfl, rfl⟩
  · obtain ⟨u, hu, hpend, hmem, honly, hq, hothers, hst, hstns⟩ := dSlot_queues (c := .dmovS2s sl) (f := fun b t => dmovSlot sl.w sl.st b t 3)
      ha rfl hop (dSlot_legal hw hsrc hroom)
    exact ⟨u, _, hu, hpend, hmem, honly, hq, hothers, hst, hstns, rfl, rfl, rfl, rfl, rfl, rfl, rfl, rfl, rfl, rfl, rfl⟩
  · obtain ⟨u, hu, hpend, hmem, honly, hq, hothers, hst, hstns⟩ := dSlot_queues (c := .dlist sl) (f := fun b t => dlistSlot sl.w sl.st b t)
      ha rfl hop (dSlot_legal hw hlist hroom)
    exact ⟨u, _, hu, hpend, hmem, honly, hq, hothers, hst, hstns, rfl, rfl, rfl, rfl, rfl, rfl, rfl, rfl, rfl, rfl, rfl⟩

/-! ## Bodies that differ in one station -/

/-- `c` differs from `b` in no part but `ps` and in no station but `st`, which holds `x` in `c`. -/
structure HoldsAt (ps : List Part) (st : Nat) (x : Station) (b c : Body) : Prop where
  only : Only ps b c
  station : stn c st = x
  others : ∀ y, y ≠ st → stn c y = stn b y

namespace HoldsAt

variable {ps : List Part} {st : Nat} {x : Station} {b c : Body}

theorem refl (ps : List Part) (st : Nat) (b : Body) : HoldsAt ps st (stn b st) b b := ⟨Only.refl _ _, rfl, fun _ _ => rfl⟩

theorem updStn (h : HoldsAt ps st x b c) (hp : Part.stations ∈ ps) (g : Station → Station) : HoldsAt ps st (g x) b (updStn c st g) :=
  ⟨h.only.updStn _ _ hp, by rw [stn_updStn_same, h.station], fun y hy => (stn_updStn_ne _ _ _ _ hy).trans (h.others y hy)⟩

theorem setF (h : HoldsAt ps st x b c) (hp : Part.regs ∈ ps) (f : Field) (i v : Nat) : HoldsAt ps st x b (setF c f i v) :=
  ⟨h.only.setF _ _ _ hp, h.station, h.others⟩

theorem withFree (h : HoldsAt ps st x b c) (hp : Part.free ∈ ps) (k : Nat) : HoldsAt ps st x b { c with free := k } :=
  ⟨h.only.trans fun p => by cases p <;> first | exact .inl hp | exact .inr rfl, h.station, h.others⟩

theorem mono {qs : List Part} (h : HoldsAt ps st x b c) (hs : ps ⊆ qs) : HoldsAt qs st x b c :=
  ⟨h.only.mono fun _ => @hs _, h.station, h.others⟩

theorem forEach {α : Type} (hp : Part.stations ∈ ps) (g : α → Station → Station) : ∀ (l : List α) (x : Station) (c : Body), HoldsAt ps st x b c →
    HoldsAt ps st (l.foldl (fun t a => g a t) x) b (forEach l (fun a b => Machine.updStn b st (g a)) c)
  | [], _, _, h => h
  | a :: l, x, c, h => forEach hp g l (g a x) (Machine.updStn c st (g a)) (h.updStn hp (g a))

end HoldsAt

/-! ## Rows of tiles -/

/-- A station after rows 0 to `n - 1` of tile `a` were written. -/
def setRows (t : Station) (a : Nat) (v : Nat → Nat) (n : Nat) : Station := (List.range n).foldl (fun t i => setRow t a i (v i)) t

theorem setRows_tiles (t : Station) (a : Nat) (v : Nat → Nat) (n : Nat) : ∃ tiles, setRows t a v n = { t with tiles := tiles }
    ∧ ∀ k, SMap.get tiles 0 k = if a * 128 ≤ k ∧ k < a * 128 + n then BitVec.ofNat 4096 (v (k - a * 128)) else SMap.get t.tiles 0 k := by
  induction n with
  | zero => exact ⟨t.tiles, rfl, fun k => (if_neg (by omega)).symm⟩
  | succ n ih =>
    obtain ⟨tiles, ht, hget⟩ := ih
    refine ⟨SMap.put tiles 0 (a * 128 + n) (BitVec.ofNat 4096 (v n)), ?_, fun k => ?_⟩
    · rw [setRows, List.range_succ, List.foldl_append, ← setRows, ht]
      rfl
    · by_cases hk : k = a * 128 + n
      · rw [hk, SMap.get_put_same, if_pos (by omega), Nat.add_sub_cancel_left]
      · rw [SMap.get_put_ne _ _ _ _ _ _ hk, hget]
        by_cases hin : a * 128 ≤ k ∧ k < a * 128 + n
        · rw [if_pos hin, if_pos (by omega)]
        · rw [if_neg hin, if_neg (by omega)]

/-! ## The matrix engine (R132, R135 to R137) -/

section MSlot

variable {sl : Slot} {s : State} (ha : alone sl s.body = true) {c : Instr} {op : Nat} {f : Body → Station → SlotRes} {o : MatOp}
  (hx : exec c s = onSlot 0 op f sl s) (hop : bits sl.w 0 8 = op) (hf : f s.body (stn s.body sl.st) = ⟨[.matrix o], [], []⟩)
include ha hx hop hf

/-- An M slot that issues puts its operation at the back of the engine's queue. -/
theorem mSlot_retires : Retires c sl s { stn s.body sl.st with
    matQ := (stn s.body sl.st).matQ ++ [{ o with seq := (stn s.body sl.st).matSeq, pc := getF s.body R.STN_SEQ_PC.pc sl.st }]
    matSeq := (stn s.body sl.st).matSeq + 1 } := by
  obtain ⟨b, hb, hadv⟩ := onSlot_advanced 0 op f sl s _ (by decide) ha hop hf rfl
  exact ⟨_, hx.trans hb, hadv.issuedAt (fun t => { t with
    matQ := t.matQ ++ [{ o with seq := t.matSeq, pc := getF s.body R.STN_SEQ_PC.pc sl.st }], matSeq := t.matSeq + 1 }) fun _ _ => rfl⟩

end MSlot

theorem engineHolds_room {t : Station} {ss : List Nat} (hsrc : sourceHolds t ss [] [] = []) (hroom : t.matQ.length < 3) : engineHolds t ss = [] := by
  rw [engineHolds, hsrc, if_neg (Nat.not_le.mpr hroom)]
  rfl

theorem mzeroSlot_legal {w : Nat} {t : Station} (hw : onlyFields w [(0, 8), (16, 4)] = true) (hroom : t.matQ.length < 3) :
    mzeroSlot w t = ⟨[.matrix ⟨false, 0, 0, bits w 16 4, true, 0, 0, 0, 0, 0, []⟩], [], []⟩ :=
  vSlot_legal (es := [.matrix ⟨false, 0, 0, bits w 16 4, true, 0, 0, 0, 0, 0, []⟩]) hw (engineHolds_room (ss := []) rfl hroom)

theorem mmulSlot_legal {w : Nat} {t : Station} {f g : NFmt} (hroom : t.matQ.length < 3) (h21 : bits w 21 3 = 0) (h46 : bits w 46 18 = 0)
    (hblk : bits w 34 12 ≠ 0) (hf : NFmt.ofCode (bits w 8 4) = some f) (hg : NFmt.ofCode (bits w 12 4) = some g)
    (hpair : (pairingRate f g).isSome = true) (hpa : pointerExcs f (sreg t (bits w 24 5)) (bits w 34 12) = [])
    (hpb : pointerExcs g (sreg t (bits w 29 5)) (bits w 34 12) = []) (hsrc : sourceHolds t [bits w 24 5, bits w 29 5] [] [] = []) :
    mmulSlot w t = ⟨[.matrix ⟨true, bits w 8 4, bits w 12 4, bits w 16 4, bit w 20, sreg t (bits w 24 5), sreg t (bits w 29 5), bits w 34 12, 0, 0, []⟩],
      [], []⟩ := by
  have hrate : (pairingRate f g).isNone = false := by rw [← Option.not_isSome, hpair]; rfl
  unfold mmulSlot
  rw [if_neg (by rintro (h | h | h); exacts [h h21, h h46, hblk h])]
  simp only [hf, hg, hrate, hpa, hpb, engineHolds_room hsrc hroom, Bool.false_eq_true, if_false, List.append_nil]

/-- Releases are sent only where there are any (R150). -/
theorem sendReleases_none {st : Nat} {b : Body} (h : (stn b st).releases = []) :
    sendReleases st b = updStn b st (fun t => { t with releases := t.releases.filter (fun r => !(r.writes.isEmpty && r.matrix.isEmpty)) }) := by
  unfold sendReleases
  simp only [h]
  rfl

/-- The station once the engine's operation in front is complete and has left tiles `tiles`. -/
def engineDone (t : Station) (rest : List MatOp) (tiles : SMap (BitVec 4096)) : Station :=
  { t with matQ := rest, matStarted := t.matStarted - 1, tiles := tiles, releases := [] }

theorem matrixComplete_of_complete {st : Nat} {b : Body} {op : MatOp} {rest : List MatOp} {ps : List Part} {tiles : SMap (BitVec 4096)}
    (hclk : clocked b st = true) (hq : (stn b st).matQ = op :: rest) (hstart : 0 < (stn b st).matStarted) (hrel : (stn b st).releases = [])
    (hp : Part.stations ∈ ps)
    (hc : HoldsAt ps st { stn b st with matQ := rest, matStarted := (stn b st).matStarted - 1, tiles := tiles } b
      (completeOp st op (updStn b st (fun t => { t with matQ := rest, matStarted := t.matStarted - 1 })))) :
    HoldsAt ps st (engineDone (stn b st) rest tiles) b (matrixComplete st b) := by
  have hmap := hc.updStn hp (fun t => { t with releases := t.releases.map (fun r => { r with matrix := r.matrix.filter (· != op.seq) }) })
  unfold matrixComplete
  rw [hclk, decide_eq_true hstart, Bool.and_self, if_pos rfl, hq]
  dsimp only
  rw [sendReleases_none (by rw [hmap.station, hrel]; rfl)]
  have hdone := hmap.updStn hp (fun t => { t with releases := t.releases.filter (fun r => !(r.writes.isEmpty && r.matrix.isEmpty)) })
  rw [hrel] at hdone
  exact hdone

theorem raiseFlags_untrapped {st pc slot fl : Nat} {b : Body} (h : getF b R.STN_ARITH_CTRL.trap_mask st = 0) :
    raiseFlags st pc slot fl b = setF b R.STN_ARITH_FLAGS.flags st (getF b R.STN_ARITH_FLAGS.flags st ||| fl) := by
  unfold raiseFlags
  dsimp only
  rw [getF_setF_field _ _ _ _ _ _ (by decide) (by decide) (by decide), h, Nat.and_zero, if_pos rfl]

theorem completeOp_mzero {st : Nat} {b : Body} {op : MatOp} (h : op.isMul = false) :
    HoldsAt [.stations] st (setRows (stn b st) op.acc (fun _ => 0) 128) b (completeOp st op b) := by
  unfold completeOp
  rw [if_neg (by rw [h]; decide)]
  exact HoldsAt.forEach (by decide) (fun i t => setRow t op.acc i 0) _ _ _ (HoldsAt.refl _ _ _)

/-- Row `i` of the tile that an mmul writes from the SRAM as it stands. -/
def mmulRow (op : MatOp) (f g : NFmt) (t : Station) (i : Nat) : Flagged Nat :=
  let oa := operandOf f op.pa op.nblk
  let ob := operandOf g op.pb op.nblk
  mulRow op f g (bytesAt t.sram oa.elem oa.elemLen) (bytesAt t.sram oa.scale oa.scaleLen) (bytesAt t.sram ob.elem ob.elemLen)
    (bytesAt t.sram ob.scale ob.scaleLen) i (tileRow t op.acc i)

theorem completeOp_mmul {st : Nat} {b : Body} {op : MatOp} {f g : NFmt} (hmul : op.isMul = true) (hsaved : op.saved = [])
    (hf : NFmt.ofCode op.fa = some f) (hg : NFmt.ofCode op.fb = some g) (hsound : ∀ u, SMap.get (stn b st).badSram [] u = [])
    (htrap : getF b R.STN_ARITH_CTRL.trap_mask st = 0) :
    HoldsAt [.stations, .regs, .free] st (setRows (stn b st) op.acc (fun i => (mmulRow op f g (stn b st) i).val) 128) b (completeOp st op b) := by
  have hbefore : ∀ off bs, asBefore op off bs = bs := fun off bs => by rw [asBefore, hsaved]; rfl
  obtain ⟨k1, h1⟩ := readSram_sound (operandOf f op.pa op.nblk).elem (operandOf f op.pa op.nblk).elemLen hsound
  obtain ⟨k2, h2⟩ := readSram_sound (b := { b with free := k1 }) (operandOf f op.pa op.nblk).scale (operandOf f op.pa op.nblk).scaleLen hsound
  obtain ⟨k3, h3⟩ := readSram_sound (b := { b with free := k2 }) (operandOf g op.pb op.nblk).elem (operandOf g op.pb op.nblk).elemLen hsound
  obtain ⟨k4, h4⟩ := readSram_sound (b := { b with free := k3 }) (operandOf g op.pb op.nblk).scale (operandOf g op.pb op.nblk).scaleLen hsound
  unfold completeOp
  rw [if_pos hmul]
  simp only [hf, hg, h1, h2, h3, h4, hbefore, List.append_nil, zipIdx_map_range]
  have hrows := ((HoldsAt.refl [.stations, .free] st b).withFree (by decide) k4).forEach (by decide)
    (fun (p : Flagged Nat × Nat) t => setRow t op.acc p.2 p.1.val) ((List.range 128).map (fun i => (mmulRow op f g (stn b st) i, i)))
  rw [List.foldl_map] at hrows
  have hmask := (getF_congr _ _ R.STN_ARITH_CTRL.trap_mask st ((hrows.only .regs).resolve_left (by decide))).trans htrap
  have hraised := (hrows.mono (qs := [.stations, .regs, .free]) (by decide)).setF (by decide) R.STN_ARITH_FLAGS.flags st
  show HoldsAt _ st _ b (raiseFlags st op.pc 0 _ (forEach ((List.range 128).map (fun i => (mmulRow op f g (stn b st) i, i)))
    (fun a b => updStn b st fun t => setRow t op.acc a.2 a.1.val) { b with free := k4 }))
  rw [raiseFlags_untrapped hmask]
  exact hraised _

/-- What the completion of a matrix operation leaves of the station and the others. -/
theorem matrixComplete_runs {st : Nat} {s : State} {op : MatOp} {rest : List MatOp} {ps : List Part} {v : Nat → Nat} {P : Body → Prop}
    (hst : isStation st = true) (hclk : clocked s.body st = true) (hq : (stn s.body st).matQ = op :: rest) (hstart : 0 < (stn s.body st).matStarted)
    (hrel : (stn s.body st).releases = []) (hp : Part.stations ∈ ps)
    (hc : ∀ b, b = updStn s.body st (fun t => { t with matQ := rest, matStarted := t.matStarted - 1 }) →
      HoldsAt ps st (setRows (stn b st) op.acc v 128) b (completeOp st op b))
    (hP : ∀ b tiles, (∀ k, SMap.get tiles 0 k = if op.acc * 128 ≤ k ∧ k < op.acc * 128 + 128 then BitVec.ofNat 4096 (v (k - op.acc * 128))
      else SMap.get (stn s.body st).tiles 0 k) → stn b st = engineDone (stn s.body st) rest tiles → (∀ y, y ≠ st → stn b y = stn s.body y) → P b) :
    Runs (.matrixOpComplete st) s ps P := by
  have hfront := (HoldsAt.refl ps st s.body).updStn hp (fun t => { t with matQ := rest, matStarted := t.matStarted - 1 })
  obtain ⟨honly, hstn, hothers⟩ := hc _ rfl
  rw [hfront.station] at hstn
  obtain ⟨tiles, htiles, hget⟩ := setRows_tiles { stn s.body st with matQ := rest, matStarted := (stn s.body st).matStarted - 1 } op.acc v 128
  have hdone := matrixComplete_of_complete hclk hq hstart hrel hp
    ⟨hfront.only.trans honly, hstn.trans htiles, fun y hy => (hothers y hy).trans (hfront.others y hy)⟩
  exact runs_of_lift (lift_of_onUnit hst) rfl hdone.only (hP _ tiles hget hdone.station hdone.others)

/-- Settles O22: an issue appends to the engine's queue, a start counts, and a completion rewrites one tile. -/
theorem matrixEngine : Obligations.MatrixEngine := by
  constructor
  · intro sl s ha t pc hroom
    constructor
    · intro hop hw
      exact mSlot_retires (c := .mzero sl) (f := fun _ t => mzeroSlot sl.w t) ha rfl hop (mzeroSlot_legal hw hroom)
    · intro hop h21 h46 hblk f g hf hg hpair pa pb hpa hpb hsrc
      exact mSlot_retires (c := .mmul sl) (f := fun _ t => mmulSlot sl.w t) ha rfl hop
        (mmulSlot_legal hroom h21 h46 hblk hf hg hpair hpa hpb hsrc)
  · intro st s hst hclk t
    refine ⟨fun hstart => ?_, fun op rest hq hstart hmul hrel => ?_, ?_⟩
    · have hrun := (HoldsAt.refl [.stations] st s.body).updStn (by decide) (fun t => { t with matStarted := t.matStarted + 1 })
      refine runs_of_lift (lift_of_onUnit hst) (if_pos ?_) hrun.only ⟨hrun.station, hrun.others⟩
      rw [hclk, decide_eq_true hstart]
      rfl
    · refine matrixComplete_runs hst hclk hq hstart hrel (by decide) (fun b _ => completeOp_mzero hmul) fun b tiles hget hb hothers => ?_
      rw [hb]
      refine ⟨rfl, rfl, fun a i => ?_, rfl, rfl, rfl, hothers⟩
      have hcell := hget (a * 128 + i)
      show (SMap.get tiles 0 (a * 128 + i)).toNat = _
      rw [hcell]
      split
      · rw [if_neg (by omega)]
        exact BitVec.toNat_zero
      · rw [if_pos (by omega)]
        rfl
    · intro op rest f g hq hstart hmul hsaved hrel hf hg hsound htrap oa ob row
      refine matrixComplete_runs hst hclk hq hstart hrel (by decide) (v := fun i => (row i).val) (fun b hb => ?_) fun b tiles hget hb hothers => ?_
      · have hbst : stn b st = { t with matQ := rest, matStarted := t.matStarted - 1 } := by rw [hb, stn_updStn_same]
        have hrow : ∀ i, mmulRow op f g (stn b st) i = row i := fun i => by rw [hbst]; rfl
        have hdone := completeOp_mmul (b := b) (st := st) hmul hsaved hf hg (by rw [hbst]; exact hsound) (by rw [hb]; exact htrap)
        simp only [hrow] at hdone
        exact hdone
      · rw [hb]
        refine ⟨rfl, rfl, fun i hi => ?_, fun a i ha hi => ?_, rfl, rfl, rfl, hothers⟩
        · show (SMap.get tiles 0 (op.acc * 128 + i)).toNat = _
          rw [hget, if_pos (by omega), Nat.add_sub_cancel_left]
        · show (SMap.get tiles 0 (a * 128 + i)).toNat = _
          rw [hget, if_neg (by omega)]
          rfl

end Sys2Proof.Machine

/-! SUPPORT. Steps, resets, absent units and the registers of a station (O1 to O3, O6, O8, O9). -/

namespace Sys2Proof.Machine

/-- Settles O1: `step` is defined by what is at the front of the queue. -/
theorem stepRunsFront : Obligations.StepRunsFront := by
  refine ⟨fun c rest s => rfl, fun s h => ⟨tick s, ?_, h, rfl, fun p => ?_, rfl⟩⟩
  · rw [step, h]
  · cases p <;> first | exact .inl (by decide) | exact .inr rfl

set_option maxRecDepth 20000 in
/-- Settles O2: no register is written at reset, so each reads the reset value of its field. -/
theorem resetValues : Obligations.ResetValues := by
  refine ⟨rfl, rfl, fun i p hp => ?_⟩
  simp only [List.mem_cons, List.not_mem_nil, or_false] at hp
  rcases hp with rfl | rfl | rfl | rfl | rfl | rfl | rfl | rfl | rfl | rfl | rfl | rfl | rfl | rfl | rfl | rfl | rfl <;> rfl

/-- Settles O3: no byte of a stack is listed at reset. -/
theorem resetKeepsInvariant : Obligations.ResetKeepsInvariant := rfl

/-! ## Absent units (O6) -/

theorem onSlot_absent {ix op : Nat} {f : Body → Station → SlotRes} {sl : Slot} {s : State} (h : isStation sl.st = false) :
    onSlot ix op f sl s = .fault .noSuchUnit := by
  unfold onSlot
  rw [h]
  rfl

theorem onSlot_misnamed {ix op : Nat} {f : Body → Station → SlotRes} {sl : Slot} {s : State} (h : isStation sl.st = true)
    (hop : bits sl.w 0 8 ≠ op) (hother : bits sl.w 0 8 ∈ assignedOps ix) : onSlot ix op f sl s = .refused .wrongSlot := by
  unfold onSlot
  rw [h, if_neg (by decide), if_neg hop, if_pos (List.contains_iff_mem.mpr hother)]

theorem onUnit_absent {ok : Bool} {f : Body → Body} {s : State} (h : ok = false) : onUnit ok f s = .fault .noSuchUnit := by
  rw [onUnit, h]
  rfl

theorem onUnitS_absent {ok : Bool} {f : State → State} {s : State} (h : ok = false) : onUnitS ok f s = .fault .noSuchUnit := by
  rw [onUnitS, h]
  rfl

/-- Settles O6: a command on a unit checks that the module has it, and a slot that its bits name it. -/
theorem absentUnitsStop : Obligations.AbsentUnitsStop := by
  refine fun s => ⟨fun st h => ⟨onUnit_absent h, fun w last => onSlot_absent h⟩, fun st w last h hop hother => onSlot_misnamed h hop hother,
    fun k m h => ⟨onUnitS_absent h, fun hm => onUnitS_absent hm⟩⟩

/-! ## Slots before the last of their bundle (O8) -/

theorem presentSlot_waits {ix : Nat} {f : Body → Station → SlotRes} {sl : Slot} {b : Body} (h : sl.last = false) :
    ∃ os, os ≠ [] ∧ HoldsAt [.stations, .free] sl.st { stn b sl.st with opened := os } b (presentSlot ix f sl b) := by
  unfold presentSlot
  rw [h]
  exact ⟨_, List.concat_ne_nil _ _, ((HoldsAt.refl [.stations, .free] _ b).withFree (by decide) (b.free + 1)).updStn (by decide) fun t => { t with
    opened := t.opened.filter (fun p => p.ix != ix) ++ [⟨ix, sl.w, f b (stn b sl.st)⟩] }⟩

theorem runs_of_waiting {c : Instr} {s : State} {ix op : Nat} {f : Body → Station → SlotRes} {sl : Slot} (hx : exec c s = onSlot ix op f sl s)
    (hst : isStation sl.st = true) (hlast : sl.last = false) (hop : bits sl.w 0 8 = op) : Runs c s [.stations, .free] (fun b =>
      (∀ y, y ≠ sl.st → stn b y = stn s.body y) ∧ ∃ os, stn b sl.st = { stn s.body sl.st with opened := os } ∧ os ≠ []) := by
  obtain ⟨os, hos, honly, hstn, hothers⟩ := presentSlot_waits (ix := ix) (f := f) (b := s.body) hlast
  refine runs_of_lift (f := presentSlot ix f sl) (hx.trans ?_) rfl honly ⟨hothers, os, hstn, hos⟩
  unfold onSlot
  rw [hst, if_neg (by decide), if_pos hop]

/-- Settles O8: a slot that is not the last only joins the open bundle. -/
theorem slotsWaitForTheirBundle : Obligations.SlotsWaitForTheirBundle := by
  intro sl s hst hlast r hr hop
  simp only [List.mem_cons, List.not_mem_nil, or_false] at hr
  rcases hr with rfl | rfl | rfl | rfl | rfl | rfl | rfl | rfl | rfl | rfl <;> exact runs_of_waiting rfl hst hlast hop

/-! ## Registers (O9) -/

theorem SMap.get_put {α : Type} [DecidableEq α] (m : SMap α) (d : α) (k j : Nat) (v : α) :
    SMap.get (SMap.put m d k v) d j = if j = k then v else SMap.get m d j := by
  split
  · next h => rw [h, SMap.get_put_same]
  · next h => exact SMap.get_put_ne _ _ _ _ _ _ h

theorem sreg_setS (t : Station) (r q v : Nat) : sreg (setS t r v) q = if q = r ∧ r ≠ 0 then v % 2 ^ 64 else sreg t q := by
  unfold setS
  by_cases hr : r = 0
  · rw [if_pos hr, if_neg fun h => h.2 hr]
  · rw [if_neg hr]
    simp only [sreg, SMap.get_put]
    by_cases hq : q = r
    · subst hq
      simp [hr]
    · simp [hq]

theorem preg_setP (t : Station) (r q v : Nat) : preg (setP t r v) q = if q = r ∧ r ≠ 0 then v % 2 ^ 128 else preg t q := by
  unfold setP
  by_cases hr : r = 0
  · rw [if_pos hr, if_neg fun h => h.2 hr]
  · rw [if_neg hr]
    simp only [preg, SMap.get_put]
    by_cases hq : q = r
    · subst hq
      simp [hr]
    · simp [hq]

theorem vreg_setV (t : Station) (r q v : Nat) : vreg (setV t r v) q = if q = r then (BitVec.ofNat 4096 v).toNat else vreg t q := by
  rw [vreg, setV, SMap.get_put]
  split <;> rfl

theorem tally_setTally (t : Station) (r q v : Nat) : tally (setTally t r v) q = if q = r then v % 2 ^ 32 else tally t q := by
  rw [tally, setTally, SMap.get_put]
  split
  · exact BitVec.toNat_ofNat _ _
  · rfl

/-- Settles O9: the registers are sparse maps, and registers S0 and P0 are fixed. -/
theorem stationRegisters : Obligations.StationRegisters :=
  fun t r q v => ⟨sreg_setS t r q v, rfl, preg_setP t r q v, rfl, vreg_setV t r q v, tally_setTally t r q v⟩

end Sys2Proof.Machine

/-! SUPPORT. Frame rules as equivalences: an update of a part that may change, or of a field that may change, is no obstacle. Each is a simp
lemma; its side conditions are closed facts, for `simp (disch := decide)`. -/

namespace Sys2Proof.Machine

section Frames

variable {ps : List Part} {fs : List Field} {i : Nat} {b c d : Body}

theorem Part.same.symm {p : Part} (h : p.same b c) : p.same c b := by cases p <;> exact Eq.symm h

/-- An update within the parts that may change is no obstacle to a frame. -/
theorem Only.iff_of (h : Only ps c d) : Only ps b d ↔ Only ps b c :=
  ⟨fun k => k.trans fun p => (h p).imp_right Part.same.symm, fun k => k.trans h⟩

@[simp] theorem only_refl : Only ps b b := Only.refl ps b

@[simp] theorem regsBut_refl : RegsBut fs i b b := RegsBut.refl fs i b

/-! ## Parts -/

@[simp] theorem only_setF (f : Field) (j v : Nat) (h : Part.regs ∈ ps) : Only ps b (setF c f j v) ↔ Only ps b c :=
  Only.iff_of fun p => by cases p <;> first | exact .inl h | exact .inr rfl

@[simp] theorem only_setFlag (f : Field) (j : Nat) (v : Bool) (h : Part.regs ∈ ps) : Only ps b (setFlag c f j v) ↔ Only ps b c :=
  Only.iff_of fun p => by cases p <;> first | exact .inl h | exact .inr rfl

@[simp] theorem only_addSat (f : Field) (j n : Nat) (h : Part.regs ∈ ps) : Only ps b (addSat c f j n) ↔ Only ps b c :=
  Only.iff_of fun p => by cases p <;> first | exact .inl h | exact .inr rfl

@[simp] theorem only_setStn (st : Nat) (t : Station) (h : Part.stations ∈ ps) : Only ps b (setStn c st t) ↔ Only ps b c :=
  Only.iff_of fun p => by cases p <;> first | exact .inl h | exact .inr rfl

@[simp] theorem only_updStn (st : Nat) (f : Station → Station) (h : Part.stations ∈ ps) : Only ps b (updStn c st f) ↔ Only ps b c :=
  Only.iff_of fun p => by cases p <;> first | exact .inl h | exact .inr rfl

@[simp] theorem only_updDrv (dr : Nat) (f : Drover → Drover) (h : Part.drovers ∈ ps) : Only ps b (updDrv c dr f) ↔ Only ps b c :=
  Only.iff_of fun p => by cases p <;> first | exact .inl h | exact .inr rfl

@[simp] theorem only_updStk (k : Nat) (f : Stack → Stack) (h : Part.memStacks ∈ ps) : Only ps b (updStk c k f) ↔ Only ps b c :=
  Only.iff_of fun p => by cases p <;> first | exact .inl h | exact .inr rfl

@[simp] theorem only_report (r : Source) (h : Part.reports ∈ ps) : Only ps b (report r c) ↔ Only ps b c :=
  Only.iff_of fun p => by cases p <;> first | exact .inl h | exact .inr rfl

@[simp] theorem only_emit (m : Sent) (h : Part.sent ∈ ps) : Only ps b (emit m c) ↔ Only ps b c :=
  Only.iff_of fun p => by cases p <;> first | exact .inl h | exact .inr rfl

@[simp] theorem only_sendFlit (f : Flit) (h : Part.fabric ∈ ps) : Only ps b (sendFlit f c) ↔ Only ps b c :=
  Only.iff_of fun p => by cases p <;> first | exact .inl h | exact .inr rfl

@[simp] theorem only_updLink (l : UcieLink) (f : Ucie → Ucie) (h : Part.ucie ∈ ps) : Only ps b (updLink c l f) ↔ Only ps b c :=
  Only.iff_of fun p => by cases p <;> first | exact .inl h | exact .inr rfl

@[simp] theorem only_updPort (p : Nat) (f : KorPort → KorPort) (h : Part.korrel ∈ ps) : Only ps b (updPort c p f) ↔ Only ps b c :=
  Only.iff_of fun p => by cases p <;> first | exact .inl h | exact .inr rfl

@[simp] theorem only_updHost (f : HostSide → HostSide) (h : Part.host ∈ ps) : Only ps b (updHost f c) ↔ Only ps b c :=
  Only.iff_of fun p => by cases p <;> first | exact .inl h | exact .inr rfl

@[simp] theorem only_updMbx (m : Nat) (f : Mailbox → Mailbox) (h : Part.host ∈ ps) : Only ps b (updMbx m f c) ↔ Only ps b c :=
  Only.iff_of fun p => by cases p <;> first | exact .inl h | exact .inr rfl

@[simp] theorem only_updLog (f : Logbook → Logbook) (h : Part.logbook ∈ ps) : Only ps b (updLog f c) ↔ Only ps b c :=
  Only.iff_of fun p => by cases p <;> first | exact .inl h | exact .inr rfl

@[simp] theorem only_updRack (f : Rack → Rack) (h : Part.rack ∈ ps) : Only ps b (updRack f c) ↔ Only ps b c :=
  Only.iff_of fun p => by cases p <;> first | exact .inl h | exact .inr rfl

@[simp] theorem only_updFlock (f : Flock → Flock) (h : Part.flock ∈ ps) : Only ps b (updFlock f c) ↔ Only ps b c :=
  Only.iff_of fun p => by cases p <;> first | exact .inl h | exact .inr rfl

@[simp] theorem only_updFail (f : Failover → Failover) (h : Part.fail ∈ ps) : Only ps b (updFail f c) ↔ Only ps b c :=
  Only.iff_of fun p => by cases p <;> first | exact .inl h | exact .inr rfl

@[simp] theorem only_updPath (f : PowerPath → PowerPath) (h : Part.cox ∈ ps) : Only ps b (updPath f c) ↔ Only ps b c :=
  Only.iff_of fun p => by cases p <;> first | exact .inl h | exact .inr rfl

@[simp] theorem only_updLoop (e l : Nat) (f : CoxLoop → CoxLoop) (h : Part.cox ∈ ps) : Only ps b (updLoop e l f c) ↔ Only ps b c :=
  Only.iff_of fun p => by cases p <;> first | exact .inl h | exact .inr rfl

@[simp] theorem only_updEngine (e : Nat) (f : CoxEngine → CoxEngine) (h : Part.cox ∈ ps) : Only ps b (updEngine e f c) ↔ Only ps b c :=
  Only.iff_of fun p => by cases p <;> first | exact .inl h | exact .inr rfl

@[simp] theorem only_setPgLim (e k : Nat) (x : CoxPg) (h : Part.cox ∈ ps) : Only ps b (setPgLim e k x c) ↔ Only ps b c :=
  Only.iff_of fun p => by cases p <;> first | exact .inl h | exact .inr rfl

@[simp] theorem only_updLedger (f : Ledger → Ledger) (h : Part.ledger ∈ ps) : Only ps b (updLedger f c) ↔ Only ps b c :=
  Only.iff_of fun p => by cases p <;> first | exact .inl h | exact .inr rfl

@[simp] theorem only_updMon (k : Nat) (f : Monitor → Monitor) (h : Part.cells ∈ ps) : Only ps b (updMon k f c) ↔ Only ps b c :=
  Only.iff_of fun p => by cases p <;> first | exact .inl h | exact .inr rfl

@[simp] theorem only_updRing (f : RingMaster → RingMaster) (h : Part.cells ∈ ps) : Only ps b (updRing f c) ↔ Only ps b c :=
  Only.iff_of fun p => by cases p <;> first | exact .inl h | exact .inr rfl

@[simp] theorem only_updTrust (f : Trust → Trust) (h : Part.trust ∈ ps) : Only ps b (updTrust f c) ↔ Only ps b c :=
  Only.iff_of fun p => by cases p <;> first | exact .inl h | exact .inr rfl

@[simp] theorem only_updPmc (f : PmcSide → PmcSide) (h : Part.pmc ∈ ps) : Only ps b (updPmc f c) ↔ Only ps b c :=
  Only.iff_of fun p => by cases p <;> first | exact .inl h | exact .inr rfl

/-! ## Register fields -/

/-- An update of the registers within the fields that may change is no obstacle to a frame. -/
theorem RegsBut.iff_of (h : RegsBut fs i c d) : RegsBut fs i b d ↔ RegsBut fs i b c :=
  ⟨fun k f j hf hj => (h f j hf hj).symm.trans (k f j hf hj), fun k f j hf hj => (h f j hf hj).trans (k f j hf hj)⟩

/-- A write of a field that may change is no obstacle to a frame of registers. -/
@[simp] theorem regsBut_setF (f : Field) (v : Nat) (hf : f.idx < 1024) (hm : f.idx ∈ fs.map Field.idx) :
    RegsBut fs i b (setF c f i v) ↔ RegsBut fs i b c := RegsBut.iff_of ((RegsBut.refl _ _ _).setF f v hf hm)

@[simp] theorem regsBut_setFlag (f : Field) (v : Bool) (hf : f.idx < 1024) (hm : f.idx ∈ fs.map Field.idx) :
    RegsBut fs i b (setFlag c f i v) ↔ RegsBut fs i b c := regsBut_setF f _ hf hm

@[simp] theorem regsBut_addSat (f : Field) (n : Nat) (hf : f.idx < 1024) (hm : f.idx ∈ fs.map Field.idx) :
    RegsBut fs i b (addSat c f i n) ↔ RegsBut fs i b c := regsBut_setF f _ hf hm

@[simp] theorem regsBut_setStn (st : Nat) (t : Station) : RegsBut fs i b (setStn c st t) ↔ RegsBut fs i b c := Iff.rfl

@[simp] theorem regsBut_updStn (st : Nat) (f : Station → Station) : RegsBut fs i b (updStn c st f) ↔ RegsBut fs i b c := Iff.rfl

@[simp] theorem regsBut_updDrv (dr : Nat) (f : Drover → Drover) : RegsBut fs i b (updDrv c dr f) ↔ RegsBut fs i b c := Iff.rfl

@[simp] theorem regsBut_updStk (k : Nat) (f : Stack → Stack) : RegsBut fs i b (updStk c k f) ↔ RegsBut fs i b c := Iff.rfl

@[simp] theorem regsBut_report (r : Source) : RegsBut fs i b (report r c) ↔ RegsBut fs i b c := Iff.rfl

@[simp] theorem regsBut_emit (m : Sent) : RegsBut fs i b (emit m c) ↔ RegsBut fs i b c := Iff.rfl

@[simp] theorem regsBut_sendFlit (f : Flit) : RegsBut fs i b (sendFlit f c) ↔ RegsBut fs i b c := Iff.rfl

@[simp] theorem regsBut_updLink (l : UcieLink) (f : Ucie → Ucie) : RegsBut fs i b (updLink c l f) ↔ RegsBut fs i b c := Iff.rfl

@[simp] theorem regsBut_updPort (p : Nat) (f : KorPort → KorPort) : RegsBut fs i b (updPort c p f) ↔ RegsBut fs i b c := Iff.rfl

@[simp] theorem regsBut_updHost (f : HostSide → HostSide) : RegsBut fs i b (updHost f c) ↔ RegsBut fs i b c := Iff.rfl

@[simp] theorem regsBut_updMbx (m : Nat) (f : Mailbox → Mailbox) : RegsBut fs i b (updMbx m f c) ↔ RegsBut fs i b c := Iff.rfl

@[simp] theorem regsBut_updLog (f : Logbook → Logbook) : RegsBut fs i b (updLog f c) ↔ RegsBut fs i b c := Iff.rfl

@[simp] theorem regsBut_updRack (f : Rack → Rack) : RegsBut fs i b (updRack f c) ↔ RegsBut fs i b c := Iff.rfl

@[simp] theorem regsBut_updFlock (f : Flock → Flock) : RegsBut fs i b (updFlock f c) ↔ RegsBut fs i b c := Iff.rfl

@[simp] theorem regsBut_updFail (f : Failover → Failover) : RegsBut fs i b (updFail f c) ↔ RegsBut fs i b c := Iff.rfl

@[simp] theorem regsBut_updPath (f : PowerPath → PowerPath) : RegsBut fs i b (updPath f c) ↔ RegsBut fs i b c := Iff.rfl

@[simp] theorem regsBut_updLoop (e l : Nat) (f : CoxLoop → CoxLoop) : RegsBut fs i b (updLoop e l f c) ↔ RegsBut fs i b c := Iff.rfl

@[simp] theorem regsBut_updEngine (e : Nat) (f : CoxEngine → CoxEngine) : RegsBut fs i b (updEngine e f c) ↔ RegsBut fs i b c := Iff.rfl

@[simp] theorem regsBut_setPgLim (e k : Nat) (x : CoxPg) : RegsBut fs i b (setPgLim e k x c) ↔ RegsBut fs i b c := Iff.rfl

@[simp] theorem regsBut_updLedger (f : Ledger → Ledger) : RegsBut fs i b (updLedger f c) ↔ RegsBut fs i b c := Iff.rfl

@[simp] theorem regsBut_updMon (k : Nat) (f : Monitor → Monitor) : RegsBut fs i b (updMon k f c) ↔ RegsBut fs i b c := Iff.rfl

@[simp] theorem regsBut_updRing (f : RingMaster → RingMaster) : RegsBut fs i b (updRing f c) ↔ RegsBut fs i b c := Iff.rfl

@[simp] theorem regsBut_updTrust (f : Trust → Trust) : RegsBut fs i b (updTrust f c) ↔ RegsBut fs i b c := Iff.rfl

@[simp] theorem regsBut_updPmc (f : PmcSide → PmcSide) : RegsBut fs i b (updPmc f c) ↔ RegsBut fs i b c := Iff.rfl

/-! ## Reads -/

@[simp] theorem getF_setF_other {f g : Field} (j v : Nat) (hf : f.idx < 1024) (hg : g.idx < 1024) (h : g.idx ≠ f.idx) :
    getF (setF b f i v) g j = getF b g j := getF_setF_field _ _ _ _ _ _ hf hg h

@[simp] theorem getF_setFlag_other {f g : Field} (j : Nat) (v : Bool) (hf : f.idx < 1024) (hg : g.idx < 1024) (h : g.idx ≠ f.idx) :
    getF (setFlag b f i v) g j = getF b g j := getF_setF_field _ _ _ _ _ _ hf hg h

@[simp] theorem getF_addSat_other {f g : Field} (j n : Nat) (hf : f.idx < 1024) (hg : g.idx < 1024) (h : g.idx ≠ f.idx) :
    getF (addSat b f i n) g j = getF b g j := getF_setF_field _ _ _ _ _ _ hf hg h

@[simp] theorem flagF_setF_other {f g : Field} (j v : Nat) (hf : f.idx < 1024) (hg : g.idx < 1024) (h : g.idx ≠ f.idx) :
    flagF (setF b f i v) g j = flagF b g j := congrArg (· == 1) (getF_setF_field _ _ _ _ _ _ hf hg h)

@[simp] theorem flagF_setFlag_other {f g : Field} (j : Nat) (v : Bool) (hf : f.idx < 1024) (hg : g.idx < 1024) (h : g.idx ≠ f.idx) :
    flagF (setFlag b f i v) g j = flagF b g j := congrArg (· == 1) (getF_setF_field _ _ _ _ _ _ hf hg h)

@[simp] theorem flagF_addSat_other {f g : Field} (j n : Nat) (hf : f.idx < 1024) (hg : g.idx < 1024) (h : g.idx ≠ f.idx) :
    flagF (addSat b f i n) g j = flagF b g j := congrArg (· == 1) (getF_setF_field _ _ _ _ _ _ hf hg h)

/-- A value that fits its field reads back. -/
@[simp] theorem getF_setF_fits {f : Field} {v : Nat} (h : v < 2 ^ f.width) : getF (setF b f i v) f i = v :=
  (getF_setF_same _ _ _ _).trans (Nat.mod_eq_of_lt h)

@[simp] theorem flagF_setStn (st : Nat) (t : Station) (g : Field) (j : Nat) : flagF (setStn c st t) g j = flagF c g j := rfl

@[simp] theorem flagF_updStn (st : Nat) (f : Station → Station) (g : Field) (j : Nat) : flagF (updStn c st f) g j = flagF c g j := rfl

@[simp] theorem flagF_updDrv (dr : Nat) (f : Drover → Drover) (g : Field) (j : Nat) : flagF (updDrv c dr f) g j = flagF c g j := rfl

@[simp] theorem flagF_updStk (k : Nat) (f : Stack → Stack) (g : Field) (j : Nat) : flagF (updStk c k f) g j = flagF c g j := rfl

@[simp] theorem flagF_report (r : Source) (g : Field) (j : Nat) : flagF (report r c) g j = flagF c g j := rfl

@[simp] theorem flagF_emit (m : Sent) (g : Field) (j : Nat) : flagF (emit m c) g j = flagF c g j := rfl

@[simp] theorem flagF_sendFlit (f : Flit) (g : Field) (j : Nat) : flagF (sendFlit f c) g j = flagF c g j := rfl

@[simp] theorem flagF_updLink (l : UcieLink) (f : Ucie → Ucie) (g : Field) (j : Nat) : flagF (updLink c l f) g j = flagF c g j := rfl

@[simp] theorem flagF_updPort (p : Nat) (f : KorPort → KorPort) (g : Field) (j : Nat) : flagF (updPort c p f) g j = flagF c g j := rfl

@[simp] theorem flagF_updHost (f : HostSide → HostSide) (g : Field) (j : Nat) : flagF (updHost f c) g j = flagF c g j := rfl

@[simp] theorem flagF_updMbx (m : Nat) (f : Mailbox → Mailbox) (g : Field) (j : Nat) : flagF (updMbx m f c) g j = flagF c g j := rfl

@[simp] theorem flagF_updLog (f : Logbook → Logbook) (g : Field) (j : Nat) : flagF (updLog f c) g j = flagF c g j := rfl

@[simp] theorem flagF_updRack (f : Rack → Rack) (g : Field) (j : Nat) : flagF (updRack f c) g j = flagF c g j := rfl

@[simp] theorem flagF_updFlock (f : Flock → Flock) (g : Field) (j : Nat) : flagF (updFlock f c) g j = flagF c g j := rfl

@[simp] theorem flagF_updFail (f : Failover → Failover) (g : Field) (j : Nat) : flagF (updFail f c) g j = flagF c g j := rfl

@[simp] theorem flagF_updPath (f : PowerPath → PowerPath) (g : Field) (j : Nat) : flagF (updPath f c) g j = flagF c g j := rfl

@[simp] theorem flagF_updLoop (e l : Nat) (f : CoxLoop → CoxLoop) (g : Field) (j : Nat) : flagF (updLoop e l f c) g j = flagF c g j := rfl

@[simp] theorem flagF_updEngine (e : Nat) (f : CoxEngine → CoxEngine) (g : Field) (j : Nat) : flagF (updEngine e f c) g j = flagF c g j := rfl

@[simp] theorem flagF_setPgLim (e k : Nat) (x : CoxPg) (g : Field) (j : Nat) : flagF (setPgLim e k x c) g j = flagF c g j := rfl

@[simp] theorem flagF_updLedger (f : Ledger → Ledger) (g : Field) (j : Nat) : flagF (updLedger f c) g j = flagF c g j := rfl

@[simp] theorem flagF_updMon (k : Nat) (f : Monitor → Monitor) (g : Field) (j : Nat) : flagF (updMon k f c) g j = flagF c g j := rfl

@[simp] theorem flagF_updRing (f : RingMaster → RingMaster) (g : Field) (j : Nat) : flagF (updRing f c) g j = flagF c g j := rfl

@[simp] theorem flagF_updTrust (f : Trust → Trust) (g : Field) (j : Nat) : flagF (updTrust f c) g j = flagF c g j := rfl

@[simp] theorem flagF_updPmc (f : PmcSide → PmcSide) (g : Field) (j : Nat) : flagF (updPmc f c) g j = flagF c g j := rfl

@[simp] theorem getF_updLink (l : UcieLink) (f : Ucie → Ucie) (g : Field) (j : Nat) : getF (updLink c l f) g j = getF c g j := rfl

end Frames

end Sys2Proof.Machine

/-! SUPPORT. Station control and loading by firmware (O23, O24). -/

namespace Sys2Proof.Machine

section Control

variable {st : Nat} {b : Body}

theorem writeRun_starts (h : flagF b R.STN_CTRL.run st = false) : writeRun st true b
    = setF (updStn (clearWaits st (setFlag b R.STN_CTRL.run st true)) st (fun t => { t with opened := [], ended := false, syncDone := false }))
      R.STN_STATUS.state st 3 := by
  simp [writeRun, h]

theorem writeRun_stops (h : flagF b R.STN_CTRL.run st = true) : writeRun st false b
    = setF (updStn (clearWaits st (setFlag b R.STN_CTRL.run st false)) st (fun t => { t with opened := [] })) R.STN_STATUS.state st 5 := by
  simp [writeRun, h]

/-- What a station shows as its state (R76). -/
theorem fieldView_state (b : Body) (st : Nat) : fieldView b R.STN_STATUS.state st = stationState b st := rfl

theorem writePowerGate_off (h : flagF b R.STN_CTRL.run st = false) :
    writePowerGate st true b = setF (setFlag (noteCode st b) R.STN_CTRL.power_gate st true) R.STN_STATUS.state st 0 := by
  simp [writePowerGate, h]

theorem writePowerGate_on : writePowerGate st false b = if flagF b R.STN_CTRL.power_gate st
    then setF (setFlag b R.STN_CTRL.power_gate st false) R.STN_STATUS.state st 1 else setFlag b R.STN_CTRL.power_gate st false := by
  simp [writePowerGate]

/-- Noting the code in force touches the lowest code alone (R78). -/
theorem noteCode_frame (st : Nat) (b : Body) : Only [.regs] b (noteCode st b) ∧ RegsBut [R.STN_CLK_STATUS.min_eff_code] st b (noteCode st b) := by
  unfold noteCode whenB noteEff
  split <;> simp (disch := decide)

theorem noteCode_only (st : Nat) (b : Body) : Only [.regs] b (noteCode st b) := (noteCode_frame st b).1

theorem noteCode_regs {fs : List Field} (st : Nat) (b : Body) (hm : R.STN_CLK_STATUS.min_eff_code.idx ∈ fs.map Field.idx) :
    RegsBut fs st b (noteCode st b) := fun f j hf hj => (noteCode_frame st b).2 f j hf (hj.imp_right fun hn he => hn (by
  rw [List.mem_singleton.mp he]
  exact hm))

end Control

/-- Settles O23: each write of STN_CTRL and each end of a self-test is a short list of register writes. -/
theorem stationModes : Obligations.StationModes := by
  intro st s hst t run gated state shown
  have hunit : ∀ {f : Body → Body}, onUnit (isStation st) f s = lift f s := lift_of_onUnit hst
  refine ⟨fun h => ?_, fun h => ?_, ?_, ?_, fun h => ?_, fun h => ?_, ?_, ?_, ?_⟩
  · refine runs_of_lift hunit (writeRun_starts h) ?_ ⟨?_, getF_setF_fits (by decide), ?_, ?_, fun y hy => ?_⟩
    · simp (disch := decide) [clearWaits]
    · simp (disch := decide) [clearWaits]
    · simp (disch := decide) [clearWaits]
    · simp [clearWaits, t]
    · simp [clearWaits, stn_updStn_ne, hy]
  · refine runs_of_lift hunit (writeRun_stops h) ?_ ⟨?_, getF_setF_fits (by decide), ?_, ?_, fun y hy => ?_⟩
    · simp (disch := decide) [clearWaits]
    · simp (disch := decide) [clearWaits]
    · simp (disch := decide) [clearWaits]
    · simp [clearWaits, t]
    · simp [clearWaits, stn_updStn_ne, hy]
  · refine runs_of_lift (b := setFlag s.body R.STN_CTRL.fence st true) hunit rfl ?_ ⟨?_, ?_, ?_, ?_⟩
    · simp (disch := decide)
    · simp (disch := decide)
    · simp (disch := decide) [shown, fieldView_state, stationState]
    · simp (disch := decide) [state]
    · simp (disch := decide)
  · refine runs_of_lift (b := setFlag s.body R.STN_CTRL.fence st false) hunit rfl ?_ ⟨?_, ?_, ?_⟩
    · simp (disch := decide)
    · simp (disch := decide)
    · simp (disch := decide) [shown, fieldView_state, stationState, gated, state]
    · simp (disch := decide)
  · obtain ⟨honly, hregs⟩ := noteCode_frame st s.body
    refine runs_of_lift hunit (writePowerGate_off h) ?_ ⟨?_, getF_setF_fits (by decide), ?_, ?_⟩
    · simp (disch := decide) [honly]
    · simp (disch := decide)
    · simp (disch := decide) [clocked]
    · simp (disch := decide) [noteCode_regs]
  · refine runs_same hunit ?_
    simp [writePowerGate, show flagF s.body R.STN_CTRL.run st = true from h]
  · refine runs_of_lift hunit writePowerGate_on ?_ ⟨?_, ?_, ?_⟩
    · split <;> simp (disch := decide)
    · split <;> simp (disch := decide)
    · by_cases hg : gated = true
      · rw [if_pos hg, if_pos hg]
        exact getF_setF_fits (by decide)
      · rw [if_neg hg, if_neg hg]
        simp (disch := decide) [state]
    · split <;> simp (disch := decide)
  · refine runs_of_lift (b := setF (updStn s.body st (fun t => { t with selfTestFailed := false })) R.STN_STATUS.state st 2) hunit rfl
      ?_ ⟨getF_setF_fits (by decide), ?_, ?_⟩
    · simp (disch := decide)
    · simp [t]
    · simp (disch := decide)
  · refine runs_of_lift (b := report (.selfTest st) (setFlag (setF (updStn s.body st (fun t => { t with selfTestFailed := true }))
      R.STN_STATUS.state st 2) R.STN_FAULT.self_test_fail st true)) hunit rfl ?_ ⟨?_, ?_, ?_, rfl, ?_⟩
    · simp (disch := decide)
    · simp (disch := decide) [state, -getF_setF_same]
    · simp (disch := decide)
    · simp [t]
    · simp (disch := decide)

/-- A bundle written to the store is read back, and no other changes (R127). -/
theorem get_istore_put (m : SMap (BitVec 256)) (k j word : Nat) : SMap.get (SMap.put m 0 k (BitVec.ofNat 256 word)) 0 j
    = if j = k then BitVec.ofNat 256 word else SMap.get m 0 j := SMap.get_put _ _ _ _ _

/-- Settles O24: each command is a write of the station or of its registers, under the condition of its rule. -/
theorem stationLoading : Obligations.StationLoading := by
  intro st s hst t run
  have hunit : ∀ {f : Body → Body}, onUnit (isStation st) f s = lift f s := lift_of_onUnit hst
  refine ⟨?_, fun hbusy hclk => ?_, fun pc hpc => ?_, fun k word hk => ?_, ?_⟩
  · refine runs_of_lift (b := setFlag s.body R.STN_STATUS.sram_init_busy st true) hunit rfl ?_ ⟨?_, ?_⟩ <;> simp (disch := decide)
  · refine runs_of_lift hunit (if_pos ⟨hbusy, hclk⟩) ?_ ⟨?_, fun off => ?_, fun u => ?_, ?_, ?_, ?_, fun y hy => ?_, ?_⟩
    · simp (disch := decide)
    · simp (disch := decide)
    · simp [SMap.get]
    · simp [SMap.get]
    · simp [t]
    · simp [t]
    · simp [t]
    · simp [stn_updStn_ne, hy]
    · simp (disch := decide)
  · refine runs_of_lift (b := writeSeqPc st pc s.body) hunit rfl ?_ ?_
    · unfold writeSeqPc
      split <;> simp (disch := decide)
    · unfold writeSeqPc
      by_cases hr : flagF s.body R.STN_CTRL.run st = true
      · rw [if_pos hr, if_pos hr]
        exact ⟨rfl, RegsBut.refl _ _ _⟩
      · rw [if_neg hr, if_neg hr]
        exact ⟨getF_setF_fits hpc, by simp (disch := decide)⟩
  · have hmod : k % 4096 = k := Nat.mod_eq_of_lt hk
    refine runs_of_lift (b := writeIstore st k word s.body) hunit rfl ?_ ?_
    · unfold writeIstore
      split <;> simp (disch := decide)
    · unfold writeIstore
      rw [hmod]
      by_cases hr : run = true
      · rw [if_pos hr, hr]
        exact ⟨fun j => by simp [t], fun h => Bool.noConfusion h, rfl, fun _ _ => rfl⟩
      · rw [if_neg hr]
        refine ⟨fun j => ?_, fun _ => ?_, ?_, fun y hy => stn_updStn_ne _ _ _ _ hy⟩
        · simp only [Bool.not_eq_true _ ▸ hr, true_and, stn_updStn_same]
          exact get_istore_put _ _ _ _
        · simp [SMap.get_erase_same]
        · simp [t]
  · refine runs_of_lift (b := clearExc st s.body) hunit rfl ?_ ⟨?_, ?_, ?_, ?_, ?_, ?_, ?_⟩ <;> simp (disch := decide) [clearExc]

end Sys2Proof.Machine

/-! SUPPORT. Quiescing and mapping a die, and the clock islands (O25). -/

namespace Sys2Proof.Machine

/-! ## Commands and their effects -/

theorem next_of_onUnitS {ok : Bool} {f : State → State} {s : State} (h : ok = true) : onUnitS ok f s = .next (f s) := if_pos h

theorem runs_of_next {c : Instr} {s t : State} {b : Body} {ps : List Part} {P : Body → Prop} (hx : exec c s = .next t)
    (ht : t = { s with body := b }) (ho : Only ps s.body b) (hP : P b) : Runs c s ps P := ⟨b, hx.trans (congrArg _ ht), ho, hP⟩

theorem forEach_eq_self {α : Type} {f : α → Body → Body} {b : Body} : ∀ {l : List α}, (∀ x ∈ l, f x b = b) → forEach l f b = b
  | [], _ => rfl
  | x :: l, h => by
    have hx : forEach (x :: l) f b = forEach l f (f x b) := rfl
    rw [hx, h x List.mem_cons_self]
    exact forEach_eq_self fun y hy => h y (List.mem_cons_of_mem _ hy)

theorem forEach_only {α : Type} {ps : List Part} {f : α → Body → Body} (h : ∀ x b, Only ps b (f x b)) : ∀ (l : List α) (b : Body),
    Only ps b (forEach l f b)
  | [], b => Only.refl ps b
  | x :: l, b => (h x b).trans (forEach_only h l (f x b))

/-! ## Quiescing and mapping a die (R66, R67, R72, R80) -/

theorem pump_idle {dr : Nat} {b : Body} (h : (drv b dr).moving = none) (fuel : Nat) : pump dr fuel b = b := by
  cases fuel <;> simp [pump, h]

/-- Entry `i` of a map register written (R66, R80). -/
def writeEntry (ix word i : Nat) (b : Body) : Body :=
  setF (if bits word (8 * i) 6 < 52 then setF b (mapPhys i) ix (bits word (8 * i) 6) else b) (mapValid i) ix (bits word (8 * i + 7) 1)

theorem writeMap_quiesced {die k word : Nat} {b : Body} (h : flagF b R.STN_DIE_STATUS.quiesced die = true) :
    writeMap die k word b = forEach (List.range 4) (writeEntry (die * 12 + k) word) b := if_pos h

/-- The entries of a map register are fields of their own. -/
theorem mapFields_distinct : ∀ i < 4, ∀ j < 4, (mapPhys i).idx < 1024 ∧ (mapValid i).idx < 1024 ∧ (mapPhys i).idx ≠ (mapValid j).idx
    ∧ (i ≠ j → (mapPhys i).idx ≠ (mapPhys j).idx ∧ (mapValid i).idx ≠ (mapValid j).idx) := by decide

theorem mapFields_width : ∀ i < 4, (mapPhys i).width = 6 ∧ (mapValid i).width = 1 := by decide

section Entries

variable {i j : Nat} (hi : i < 4) (ix word : Nat) (b : Body)
include hi

theorem writeEntry_same : getF (writeEntry ix word i b) (mapPhys i) ix = (if bits word (8 * i) 6 < 52 then bits word (8 * i) 6 else getF b (mapPhys i) ix)
    ∧ flagF (writeEntry ix word i b) (mapValid i) ix = bit word (8 * i + 7) := by
  obtain ⟨hp, hv, hpv, -⟩ := mapFields_distinct i hi i hi
  have hwidth := mapFields_width i hi
  unfold writeEntry
  constructor
  · rw [getF_setF_field _ _ _ _ _ _ hv hp hpv]
    split
    · exact getF_setF_fits (by rw [hwidth.1]; exact bits_lt _ _ _)
    · rfl
  · rw [flagF, getF_setF_fits (by rw [hwidth.2]; exact bits_lt _ _ _)]
    simp [bit, bits]

theorem writeEntry_other (hj : j < 4) (hij : j ≠ i) : getF (writeEntry ix word i b) (mapPhys j) ix = getF b (mapPhys j) ix
    ∧ flagF (writeEntry ix word i b) (mapValid j) ix = flagF b (mapValid j) ix := by
  obtain ⟨hp, hv, hpv, -⟩ := mapFields_distinct i hi j hj
  obtain ⟨hp', hv', hpv', hne⟩ := mapFields_distinct j hj i hi
  obtain ⟨hpp, hvv⟩ := hne hij
  unfold writeEntry
  constructor
  · rw [getF_setF_field _ _ _ _ _ _ hv hp' hpv']
    split
    · rw [getF_setF_field _ _ _ _ _ _ hp hp' hpp]
    · rfl
  · rw [flagF, getF_setF_field _ _ _ _ _ _ hv hv' hvv]
    split
    · rw [getF_setF_field _ _ _ _ _ _ hp hv' (Ne.symm hpv)]
      rfl
    · rfl

end Entries

theorem writeMap_entries (ix word : Nat) {i : Nat} (hi : i < 4) (b : Body) : let c := forEach (List.range 4) (writeEntry ix word) b
    getF c (mapPhys i) ix = (if bits word (8 * i) 6 < 52 then bits word (8 * i) 6 else getF b (mapPhys i) ix)
      ∧ flagF c (mapValid i) ix = bit word (8 * i + 7) := by
  have hphys : ∀ k < 4, ∀ c, getF (writeEntry ix word k c) (mapPhys i) ix = (if i = k then
      (if bits word (8 * i) 6 < 52 then bits word (8 * i) 6 else getF c (mapPhys i) ix) else getF c (mapPhys i) ix) := fun k hk c => by
    split
    · next h => subst h; exact (writeEntry_same hi ix word c).1
    · next h => exact (writeEntry_other hk ix word c hi h).1
  have hvalid : ∀ k < 4, ∀ c, flagF (writeEntry ix word k c) (mapValid i) ix = (if i = k then bit word (8 * i + 7)
      else flagF c (mapValid i) ix) := fun k hk c => by
    split
    · next h => subst h; exact (writeEntry_same hi ix word c).2
    · next h => exact (writeEntry_other hk ix word c hi h).2
  show getF (writeEntry ix word 3 (writeEntry ix word 2 (writeEntry ix word 1 (writeEntry ix word 0 b)))) _ _ = _
    ∧ flagF (writeEntry ix word 3 (writeEntry ix word 2 (writeEntry ix word 1 (writeEntry ix word 0 b)))) _ _ = _
  simp only [hphys, hvalid, show 3 < 4 by decide, show 2 < 4 by decide, show 1 < 4 by decide, show 0 < 4 by decide]
  constructor <;> split_ifs <;> first | rfl | omega

theorem writeEntry_only (ix word i : Nat) (b : Body) : Only [.regs] b (writeEntry ix word i b) := by
  unfold writeEntry
  split <;> simp (disch := decide)

/-- The die map after the first `n` entries of a die are applied. -/
theorem get_applied (b : Body) (die : Nat) (n : Nat) (hn : n ≤ 48) (m : SMap Nat) (d l : Nat) (hl : l < 48) :
    SMap.get ((List.range n).foldl (fun m l => SMap.put m (deliveryPhys l + 1) (die * 64 + l) (mapEntry b die l)) m) (deliveryPhys l + 1) (d * 64 + l)
      = if d = die ∧ l < n then mapEntry b die l else SMap.get m (deliveryPhys l + 1) (d * 64 + l) := by
  induction n with
  | zero => simp
  | succ n ih =>
    rw [List.range_succ, List.foldl_append, List.foldl_cons, List.foldl_nil]
    by_cases h : d = die ∧ l = n
    · obtain ⟨rfl, rfl⟩ := h
      rw [SMap.get_put_same, if_pos ⟨rfl, Nat.lt_succ_self _⟩]
    · rw [SMap.get_put_ne _ _ _ _ _ _ (by omega), ih (by omega)]
      by_cases h' : d = die ∧ l < n
      · rw [if_pos h', if_pos (by omega)]
      · rw [if_neg h', if_neg (by omega)]

theorem physOf_applyMap (b : Body) (die d l : Nat) (hl : l < 48) : physOf (applyMap die b) d l = if d = die then
      (if flagF b (mapValid (l % 4)) (die * 12 + l / 4) then some (die * 64 + getF b (mapPhys (l % 4)) (die * 12 + l / 4)) else none)
    else physOf b d l := by
  unfold physOf applyMap
  rw [if_pos hl, if_pos hl, get_applied b die 48 (Nat.le_refl _) _ d l hl]
  by_cases hd : d = die
  · rw [if_pos ⟨hd, hl⟩, if_pos hd, mapEntry]
    split_ifs <;> simp_all
  · rw [if_neg fun h => hd h.1, if_neg hd]

theorem physOf_congr {b c : Body} (h : c.dieMap = b.dieMap) (d l : Nat) : physOf c d l = physOf b d l := by
  unfold physOf
  rw [h]

theorem emptyBarriers_only (die : Nat) (b : Body) : Only [.stations] b (emptyBarriers die b) :=
  forEach_only (fun st b => by simp (disch := decide)) _ _

/-! ## Clock islands (R46, R47, R78) -/

/-- A body in which the clock of an island is stopped. -/
def stopIsland (isl : Island) (b : Body) : Body := { b with stopped := if b.stopped.contains isl then b.stopped else b.stopped ++ [isl] }

/-- A body in which the clock of an island runs. -/
def freeIsland (isl : Island) (b : Body) : Body := { b with stopped := b.stopped.filter (· != isl) }

section Islands

variable {ps : List Part} {fs : List Field} {i : Nat} {b c : Body} {isl : Island} {st : Nat}

@[simp] theorem only_stopIsland (h : Part.stopped ∈ ps) : Only ps b (stopIsland isl c) ↔ Only ps b c :=
  Only.iff_of fun p => by cases p <;> first | exact .inl h | exact .inr rfl

@[simp] theorem only_freeIsland (h : Part.stopped ∈ ps) : Only ps b (freeIsland isl c) ↔ Only ps b c :=
  Only.iff_of fun p => by cases p <;> first | exact .inl h | exact .inr rfl

@[simp] theorem getF_stopIsland (f : Field) (j : Nat) : getF (stopIsland isl b) f j = getF b f j := rfl

@[simp] theorem getF_freeIsland (f : Field) (j : Nat) : getF (freeIsland isl b) f j = getF b f j := rfl

@[simp] theorem regsBut_stopIsland : RegsBut fs i b (stopIsland isl c) ↔ RegsBut fs i b c := Iff.rfl

@[simp] theorem regsBut_freeIsland : RegsBut fs i b (freeIsland isl c) ↔ RegsBut fs i b c := Iff.rfl

theorem clkTarget_outside {code : Nat} (h : code < 80 ∨ 380 < code) : clkTarget isl code b = b := if_pos h

theorem clkTarget_station {code : Nat} (h : 80 ≤ code ∧ code ≤ 380) : clkTarget (.station st) code b
    = setF (setF (noteCode st b) R.STN_CLK_TARGET.target_code st code) R.STN_CLK_STATUS.current_code st code := if_neg (by omega)

theorem clkTarget_segment {code d e : Nat} (h : 80 ≤ code ∧ code ≤ 380) :
    clkTarget (.segment d e) code b = setF b R.STN_SEG_CLK.target_code d code := if_neg (by omega)

theorem clockStop_station : clockStop (.station st) b = setFlag (stopIsland (.station st) (noteCode st b)) R.STN_STATUS.stretching st true := rfl

theorem clockResume_station (cycles code : Nat) : clockResume (.station st) cycles code b
    = noteEff st code (addSat (setFlag (freeIsland (.station st) b) R.STN_STATUS.stretching st false) R.STN_STRETCH_CYCLES.count st cycles) := rfl

theorem mem_stopIsland : isl ∈ (stopIsland isl b).stopped := by
  unfold stopIsland
  by_cases h : isl ∈ b.stopped <;> simp [h]

theorem stopIsland_subset {x : Island} (h : x ∈ b.stopped) : x ∈ (stopIsland isl b).stopped := by
  unfold stopIsland
  by_cases h' : isl ∈ b.stopped <;> simp [h, h']

theorem not_mem_freeIsland : isl ∉ (freeIsland isl b).stopped := by simp [freeIsland]

theorem mem_freeIsland {x : Island} (hx : x ≠ isl) (h : x ∈ b.stopped) : x ∈ (freeIsland isl b).stopped := by simp [freeIsland, hx, h]

/-- A station whose clock is stopped neither issues nor is clocked. -/
theorem stopped_station (h : .station st ∈ b.stopped) : issuing b st = false ∧ clocked b st = false := by
  simp [issuing, clocked, h]

end Islands

/-- The lowest code noted is at most the code met. -/
theorem getF_noteEff_le (st code : Nat) (b : Body) : getF (noteEff st code b) R.STN_CLK_STATUS.min_eff_code st ≤ code :=
  (getF_setF_same _ _ _ _).le.trans ((Nat.mod_le _ _).trans (Nat.min_le_right _ _))

theorem noteCode_stopped (st : Nat) (b : Body) : (noteCode st b).stopped = b.stopped := (noteCode_only st b .stopped).resolve_left (by decide)

section IslandCommands

variable {st : Nat} {s : State} (hst : isStation st = true)
include hst

theorem stnClkTargetWrite_runs {code : Nat} (h : 80 ≤ code ∧ code ≤ 380) : Runs (.stnClkTargetWrite (.station st) code) s [.regs] (fun b =>
    getF b R.STN_CLK_TARGET.target_code st = code ∧ getF b R.STN_CLK_STATUS.current_code st = code
      ∧ RegsBut [R.STN_CLK_TARGET.target_code, R.STN_CLK_STATUS.current_code, R.STN_CLK_STATUS.min_eff_code] st s.body b) := by
  have hfits : code < 2 ^ 9 := by omega
  refine runs_of_lift (lift_of_onUnit hst) (clkTarget_station h) ?_ ⟨?_, getF_setF_fits hfits, ?_⟩
  · simp (disch := decide) [noteCode_only]
  · rw [getF_setF_field _ _ _ _ _ _ (by decide) (by decide) (by decide)]
    exact getF_setF_fits hfits
  · simp (disch := decide) [noteCode_regs]

theorem droopClockStop_runs : Runs (.droopClockStop (.station st)) s [.stopped, .regs] (fun b => .station st ∈ b.stopped
    ∧ (∀ x, x ∈ s.body.stopped → x ∈ b.stopped) ∧ flagF b R.STN_STATUS.stretching st = true ∧ issuing b st = false ∧ clocked b st = false
    ∧ RegsBut [R.STN_STATUS.stretching, R.STN_CLK_STATUS.min_eff_code] st s.body b) := by
  obtain ⟨hissue, hclk⟩ := stopped_station (st := st) (b := setFlag (stopIsland (.station st) (noteCode st s.body)) R.STN_STATUS.stretching st true)
    mem_stopIsland
  refine runs_of_lift (lift_of_onUnit hst) clockStop_station ?_ ⟨mem_stopIsland, fun x hx => ?_, ?_, hissue, hclk, ?_⟩
  · simp (disch := decide) [(noteCode_only st s.body).mono (qs := [.stopped, .regs]) (by decide)]
  · exact stopIsland_subset (by rwa [noteCode_stopped])
  · simp (disch := decide)
  · simp (disch := decide) [noteCode_regs]

theorem droopClockResume_runs (cycles code : Nat) : Runs (.droopClockResume (.station st) cycles code) s [.stopped, .regs] (fun b =>
    .station st ∉ b.stopped ∧ (∀ x, x ≠ .station st → x ∈ s.body.stopped → x ∈ b.stopped) ∧ flagF b R.STN_STATUS.stretching st = false
      ∧ getF b R.STN_STRETCH_CYCLES.count st = min (getF s.body R.STN_STRETCH_CYCLES.count st + cycles) (2 ^ R.STN_STRETCH_CYCLES.count.width - 1)
      ∧ getF b R.STN_CLK_STATUS.min_eff_code st ≤ code) := by
  refine runs_of_lift (lift_of_onUnit hst) (clockResume_station cycles code) ?_ ⟨not_mem_freeIsland, fun x hx hm => mem_freeIsland hx hm, ?_, ?_,
    getF_noteEff_le _ _ _⟩
  · simp (disch := decide) [noteEff]
  · simp (disch := decide) [noteEff]
  · rw [noteEff, getF_setF_field _ _ _ _ _ _ (by decide) (by decide) (by decide), getF_addSat_same]
    simp (disch := decide)

theorem droopHalt_runs (hstop : .station st ∈ s.body.stopped) : Runs (.droopHalt (.station st)) s [.regs, .reports] (fun b =>
    flagF b R.STN_FAULT.droop_halt st = true ∧ b.reports = s.body.reports ++ [.stationFault st]
      ∧ RegsBut [R.STN_FAULT.droop_halt] st s.body b) := by
  refine runs_of_lift (b := report (.stationFault st) (setFlag s.body R.STN_FAULT.droop_halt st true)) (lift_of_onUnit hst) ?_ ?_ ⟨?_, rfl, ?_⟩
  · simp [droopHalt, whenB, hstop]
  · simp (disch := decide)
  · simp (disch := decide)
  · simp (disch := decide)

end IslandCommands

/-- Settles O25: the commands on a die's map and on a clock island, each under the condition of its rule. -/
theorem dieMapsAndClockIslands : Obligations.DieMapsAndClockIslands := by
  constructor
  · intro die s hdie quiesced
    have hunit : ∀ {f : Body → Body}, onUnit (isDie die) f s = lift f s := lift_of_onUnit hdie
    have hentry : ∀ {k : Nat} {f : Body → Body}, k < 12 → onUnit (isDie die && decide (k < 12)) f s = lift f s := fun hk =>
      lift_of_onUnit (by simp [hdie, hk])
    refine ⟨?_, fun hidle => ?_, fun hreq hdrain hwait => ?_, fun k word hk hq => ?_, fun k word hk hq => ?_, fun hq => ?_, fun hq => ?_⟩
    · refine runs_of_lift (b := setFlag s.body R.STN_DIE_CTRL.quiesce die true) hunit rfl ?_ ⟨?_, ?_⟩ <;> simp (disch := decide)
    · refine runs_of_lift (b := setFlag (setFlag s.body R.STN_DIE_CTRL.quiesce die false) R.STN_DIE_STATUS.quiesced die false) hunit
        (forEach_eq_self fun i hi => pump_idle (b := setFlag (setFlag s.body R.STN_DIE_CTRL.quiesce die false) R.STN_DIE_STATUS.quiesced die false)
          (hidle i (List.mem_range.mp hi)) _) ?_ ⟨?_, ?_, ?_⟩ <;> simp (disch := decide)
    · have hdone : quiesceDone die s.body = setFlag s.body R.STN_DIE_STATUS.quiesced die true := by simp [quiesceDone, whenB, hreq, hdrain]
      have hstay : quiesceComplete die s = { s with body := setFlag s.body R.STN_DIE_STATUS.quiesced die true } := by
        rw [quiesceComplete, onBody, hdone, tryRepairs]
        simp only [show (setFlag s.body R.STN_DIE_STATUS.quiesced die true).fail.repairWait = none from hwait]
      refine runs_of_next (next_of_onUnitS hdie) hstay ?_ ⟨?_, ?_⟩ <;> simp (disch := decide)
    · exact runs_of_lift (hentry hk) (writeMap_quiesced hq) (forEach_only (writeEntry_only _ _) _ _) fun i hi => writeMap_entries _ word hi s.body
    · refine runs_of_lift (hentry hk) (if_neg (by rw [show flagF s.body R.STN_DIE_STATUS.quiesced die = false from hq]; decide)) ?_ ⟨?_, ?_⟩
        <;> simp (disch := decide)
    · have honly := emptyBarriers_only die (applyMap die s.body)
      have happlied : Only [.dieMap, .stations] s.body (applyMap die s.body) := fun p => by
        cases p <;> first | exact .inl (by decide) | exact .inr rfl
      refine runs_of_lift hunit (if_pos hq) (happlied.trans (honly.mono (by decide))) fun l hl => ⟨?_, fun d hd => ?_⟩
      · rw [physOf_congr ((honly .dieMap).resolve_left (by decide)), physOf_applyMap _ _ _ _ hl, if_pos rfl]
      · rw [physOf_congr ((honly .dieMap).resolve_left (by decide)), physOf_applyMap _ _ _ _ hl, if_neg hd]
    · refine runs_of_lift hunit (if_neg (by rw [show flagF s.body R.STN_DIE_STATUS.quiesced die = false from hq]; decide)) ?_ ⟨?_, ?_⟩
        <;> simp (disch := decide)
  · intro st s hst isl
    refine ⟨fun code hcode => stnClkTargetWrite_runs hst hcode, fun code hcode => runs_same (lift_of_onUnit hst) (clkTarget_outside hcode),
      fun d e code hd he hcode => ?_, droopClockStop_runs hst, droopClockResume_runs hst, droopHalt_runs hst⟩
    have hfits : code < 2 ^ 9 := by omega
    have hsegment : isIsland (.segment d e) = true := by simp [isIsland, hd, he]
    refine runs_of_lift (lift_of_onUnit hsegment) (clkTarget_segment hcode) ?_ ⟨getF_setF_fits hfits, ?_⟩ <;> simp (disch := decide)

end Sys2Proof.Machine

/-! SUPPORT. Flits that reach a station on the panel (O26, O27). -/

namespace Sys2Proof.Machine

/-! ## Taking a flit off the panel (R51, R53) -/

/-- A body with these flits on the panel. -/
def withFabric (b : Body) (fs : List Flit) : Body := { b with fabric := fs }

/-- A body at another point of the free values. -/
def withFree (b : Body) (k : Nat) : Body := { b with free := k }

section Parts

variable {ps : List Part} {b c : Body} {fs : List Flit} {k : Nat}

@[simp] theorem only_withFabric (h : Part.fabric ∈ ps) : Only ps b (withFabric c fs) ↔ Only ps b c :=
  Only.iff_of fun p => by cases p <;> first | exact .inl h | exact .inr rfl

@[simp] theorem only_withFree (h : Part.free ∈ ps) : Only ps b (withFree c k) ↔ Only ps b c :=
  Only.iff_of fun p => by cases p <;> first | exact .inl h | exact .inr rfl

@[simp] theorem withFabric_fabric : (withFabric b fs).fabric = fs := rfl

@[simp] theorem withFree_fabric : (withFree b k).fabric = b.fabric := rfl

@[simp] theorem sendFlit_fabric (f : Flit) : (sendFlit f b).fabric = b.fabric ++ [f] := rfl

@[simp] theorem stn_withFabric (y : Nat) : stn (withFabric b fs) y = stn b y := rfl

@[simp] theorem stn_withFree (y : Nat) : stn (withFree b k) y = stn b y := rfl

@[simp] theorem getF_withFabric (g : Field) (j : Nat) : getF (withFabric b fs) g j = getF b g j := rfl

@[simp] theorem getF_withFree (g : Field) (j : Nat) : getF (withFree b k) g j = getF b g j := rfl

@[simp] theorem flagF_withFabric (g : Field) (j : Nat) : flagF (withFabric b fs) g j = flagF b g j := rfl

@[simp] theorem flagF_withFree (g : Field) (j : Nat) : flagF (withFree b k) g j = flagF b g j := rfl

end Parts

section Delivery

variable {s : State} {src dst : Nat} {f : Flit} {rest : List Flit} {kind : FlitKind} {g : Flit → Body → Body} (hclk : clocked s.body dst = true)
  (hfab : s.body.fabric = f :: rest) (hsrc : f.src = src) (hdst : f.dst = dst) (hgoal : atGoal f = true)
include hfab hsrc hdst hgoal

theorem takeFlit_front (hkind : f.kind = kind) : takeFlit kind src dst s.body = some (f, withFabric s.body rest) := by
  have hpair : (atGoal f && ofPair f kind src dst) = true := by
    have hvia : f.via.isNone = true := (Bool.and_eq_true_iff.mp hgoal).1
    simp [ofPair, hgoal, hsrc, hdst, hkind, hvia]
  unfold takeFlit
  rw [hfab, List.find?_cons_of_pos (p := fun x => atGoal x && ofPair x kind src dst) hpair]
  simp only [hkind, if_true, eraseFirst, hpair]
  rfl

include hclk

/-- The flit in front of the panel that has arrived at a station whose logic runs is taken. -/
theorem deliverStn_front (hkind : f.kind = kind) : deliverStn kind src dst g s.body = g f (withFabric s.body rest) := by
  unfold deliverStn whenB deliver
  rw [hclk, if_pos rfl, takeFlit_front hfab hsrc hdst hgoal hkind]

end Delivery

/-! ## Requests (R42, R56, R67, R72, R190) -/

/-- A drover's flit of bytes to a station. -/
def bulkTo (src dr tid piece : Nat) (staged : Bool) (v : WinAddr) (x : Nat) (bs : List Byte) : Flit :=
  { Flit.blank .droverBulk with
    src := src, tag := tid, piece := piece, drv := some dr, staged := staged, addr := winBase v.die v.lst + v.off
    payload := bs.map some, len := bs.length, dst := x }

theorem bulkWrite_station {src dr tid piece x : Nat} {staged : Bool} {bs : List Byte} {b : Body} {v : WinAddr} (hx : physOf b v.die v.lst = some x) :
    bulkWrite src dr tid piece staged (.station (moduleIndex b) v) bs b = (none, sendFlit (bulkTo src dr tid piece staged v x bs) b) := by
  have hstation : stationEp b (moduleIndex b) v = some x := (if_pos rfl).trans hx
  unfold bulkWrite
  simp only [hstation, if_true]
  rfl

/-- Bytes that a drover has read go on to a station of this module (R190). -/
theorem forwardRead_station {src dr tid piece dest x : Nat} {staged : Bool} {bs : List Byte} {b : Body} {v : WinAddr}
    (hplace : placeOf b dest = some (.station (moduleIndex b) v)) (hx : physOf b v.die v.lst = some x) :
    forwardRead src dr tid piece staged dest bs b = sendFlit (bulkTo src dr tid piece staged v x bs) (keepPiece dr tid piece bs b) := by
  have hplace' : placeOf (keepPiece dr tid piece bs b) dest = some (.station (moduleIndex (keepPiece dr tid piece bs b)) v) := hplace
  unfold forwardRead
  simp only [hplace', bulkWrite_station (b := keepPiece dr tid piece bs b) hx]

section Requests

variable {b : Body} {f : Flit} {w : WinAddr} (horigin : f.origin = none) (hwin : winOf f.addr = some w)

theorem respond_panel (horigin : f.origin = none) (vc : Nat) (g : Flit) : respond f vc g b = sendFlit g b := by
  unfold respond
  rw [horigin]

include horigin

theorem serveRead_fenced (hf : flagF b R.STN_CTRL.fence f.dst = true) : serveRead f b = sendFlit (errorFor f 1 f.addr) b := by
  unfold serveRead
  rw [if_pos hf, respond_panel horigin]

theorem serveWrite_fenced (hf : flagF b R.STN_CTRL.fence f.dst = true) : serveWrite f b = sendFlit (errorFor f 1 f.addr) b := by
  unfold serveWrite
  rw [if_pos hf, respond_panel horigin]

theorem answerBulk_panel (ha : asker f ≠ f.dst) (g : Flit) : answerBulk f g b = sendFlit g b := by
  unfold answerBulk
  rw [if_neg fun h => ha h.2, respond_panel horigin]

include hwin

theorem acceptBulk_unserved (ha : asker f ≠ f.dst) (hmap : mapServes b w f.dst = false) : acceptBulk f b = sendFlit (errorFor f 3 f.addr) b := by
  have hown : ownSys b f f.addr = f.addr := by rw [ownSys, horigin]; rfl
  unfold acceptBulk
  simp only [hwin, hmap, Bool.not_false, if_true, answerBulk_panel horigin ha, hown]

theorem acceptBulk_fenced (ha : asker f ≠ f.dst) (hmap : mapServes b w f.dst = true) (hf : flagF b R.STN_CTRL.fence f.dst = true) :
    acceptBulk f b = sendFlit (errorFor f 1 f.addr) b := by
  have hother : (f.drv.map (· / 2)) ≠ some f.dst := fun h => ha (by rw [asker, h]; rfl)
  have hown : ownSys b f f.addr = f.addr := by rw [ownSys, horigin]; rfl
  unfold acceptBulk
  simp only [hwin, hmap, Bool.not_true, Bool.false_eq_true, if_false, hf, hother, ne_eq, not_false_eq_true, and_self, if_true,
    answerBulk_panel horigin ha, hown]

variable (hopen : flagF b R.STN_CTRL.fence f.dst = false) (hsound : ∀ u, SMap.get (stn b f.dst).badSram [] u = [])
include hopen hsound

theorem serveRead_sound : ∃ k, serveRead f b = sendFlit { ackFor f with
    kind := .readResponse, payload := (bytesAt (stn b f.dst).sram w.off f.len).map some, addr := f.addr, len := f.len } (withFree b k) := by
  obtain ⟨k, hk⟩ := readSram_sound w.off f.len hsound
  refine ⟨k, ?_⟩
  unfold serveRead
  simp only [hopen, Bool.false_eq_true, if_false, hwin, hk, respond_panel horigin]
  rfl

theorem serveWrite_sound : ∃ c, serveWrite f b = sendFlit (ackFor f) c ∧ SramHolds f.dst (storeBytes (stn b f.dst).sram w.off f.payload) b c := by
  obtain ⟨hok, hholds⟩ := writeSram_sound w.off f.payload hsound
  refine ⟨_, ?_, hholds⟩
  unfold serveWrite
  simp only [hopen, Bool.false_eq_true, if_false, hwin, hok, respond_panel horigin]

variable (hmap : mapServes b w f.dst = true)
include hmap

theorem acceptBulk_write (ha : asker f ≠ f.dst) (hwrite : f.isRead = false) :
    ∃ c, acceptBulk f b = sendFlit (ackFor f) c ∧ SramHolds f.dst (storeBytes (stn b f.dst).sram w.off f.payload) b c := by
  obtain ⟨-, hholds⟩ := writeSram_sound w.off f.payload hsound
  refine ⟨_, ?_, hholds⟩
  unfold acceptBulk
  simp only [hwin, hmap, hopen, hwrite, Bool.not_true, Bool.false_eq_true, if_false, false_and, answerBulk_panel horigin ha]

/-- A drover's read goes on to the station that its destination names. -/
theorem acceptBulk_read {dr x : Nat} {v : WinAddr} (hread : f.isRead = true) (hdrv : f.drv = some dr)
    (hplace : placeOf b f.dest = some (.station (moduleIndex b) v)) (hx : physOf b v.die v.lst = some x) :
    ∃ k, acceptBulk f b = sendFlit (bulkTo f.dst dr f.tag f.piece f.staged v x (bytesAt (stn b f.dst).sram w.off f.len))
      (keepPiece dr f.tag f.piece (bytesAt (stn b f.dst).sram w.off f.len) (withFree b k)) := by
  obtain ⟨k, hk⟩ := readSram_sound w.off f.len hsound
  refine ⟨k, ?_⟩
  unfold acceptBulk
  simp only [hwin, hmap, hopen, hread, Bool.not_true, Bool.false_eq_true, if_false, false_and, if_true, hk]
  unfold returnRead
  simp only [horigin, hdrv]
  exact forwardRead_station hplace hx

end Requests

/-! ## Statements -/

/-- A request served on the panel that is answered by one flit. -/
theorem runs_answered {c : Instr} {s : State} {kind : FlitKind} {src dst : Nat} {g : Flit → Body → Body} {f x : Flit} {rest : List Flit}
    {ps : List Part} {P : Body → Prop} {d : Body} (hx : exec c s = onUnit (isStation dst) (deliverStn kind src dst g) s)
    (hst : isStation dst = true) (hclk : clocked s.body dst = true) (hfab : s.body.fabric = f :: rest) (hsrc : f.src = src) (hdst : f.dst = dst)
    (hgoal : atGoal f = true) (hkind : f.kind = kind) (hg : g f (withFabric s.body rest) = sendFlit x d) (hd : Only ps s.body d)
    (hp : Part.fabric ∈ ps) (hP : P (sendFlit x d)) : Runs c s ps P :=
  runs_of_lift (hx.trans (lift_of_onUnit hst)) ((deliverStn_front hclk hfab hsrc hdst hgoal hkind).trans hg) ((only_sendFlit x hp).mpr hd) hP

/-- Settles O26: each request is taken from the panel and answered by one flit. -/
theorem panelRequests : Obligations.PanelRequests := by
  intro src dst s f rest w hst hclk hfab hsrc hdst horigin hgoal hwin hsound t fenced answers fails stored
  have hsound' : ∀ u, SMap.get (stn (withFabric s.body rest) f.dst).badSram [] u = [] := by rw [hdst]; exact hsound
  have hfence : flagF (withFabric s.body rest) R.STN_CTRL.fence f.dst = fenced := by rw [hdst]; rfl
  have hmapped : ∀ {x : Bool}, mapServes s.body w dst = x → mapServes (withFabric s.body rest) w f.dst = x := fun h => by rw [hdst]; exact h
  have hasker : asker f ≠ dst → asker f ≠ f.dst := fun h => by rwa [hdst]
  have honly : ∀ {ps : List Part}, Part.fabric ∈ ps → Only ps s.body (withFabric s.body rest) := fun h => (only_withFabric h).mpr (Only.refl _ _)
  have hack : ∀ {b : Body}, b.fabric = rest → answers (sendFlit (ackFor f) b) (ackFor f) := fun hb =>
    ⟨by rw [sendFlit_fabric, hb], hdst, rfl, rfl, rfl⟩
  have herror : ∀ c, fails (sendFlit (errorFor f c f.addr) (withFabric s.body rest)) c := fun c =>
    ⟨_, ⟨rfl, hdst, rfl, rfl, rfl⟩, rfl, rfl, rfl⟩
  have hstored : ∀ {b : Body}, SramHolds f.dst (storeBytes (stn (withFabric s.body rest) f.dst).sram w.off f.payload) (withFabric s.body rest) b →
      stored b ∧ b.fabric = rest ∧ Only [.fabric, .free, .stations] s.body b := fun {b} h => by
    obtain ⟨honly', hother, ⟨bad, wb, hb⟩, -⟩ := h
    rw [hdst] at hb hother
    refine ⟨⟨fun i => ?_, ?_, hother⟩, (honly' .fabric).resolve_left (by decide), (honly (by decide)).trans (honly'.mono (by decide))⟩
    · have hi := get_storeBytes t.sram w.off f.payload i
      rw [hb]
      refine hi.trans ?_
      rcases f.payload[i - w.off]? with _ | _ | x
      · exact ite_self _
      · exact ite_self _
      · rfl
    · rw [hb]
      rfl
  refine ⟨fun hk hopen => ?_, fun hk hopen => ?_, fun hk hopen hwrite ha hmap => ?_, fun dr v x hk hopen hread hdrv hmap hplace hx => ?_,
    fun hk hf => ?_, fun hk hf => ?_, fun hk hf ha hmap => ?_, fun hk ha hmap => ?_⟩
  · obtain ⟨k, hserve⟩ := serveRead_sound horigin hwin (hfence.trans hopen) hsound'
    refine runs_answered rfl hst hclk hfab hsrc hdst hgoal hk hserve ((only_withFree (by decide)).mpr (honly (by decide))) (by decide) ⟨_, ⟨rfl, hdst, rfl, rfl, rfl⟩, rfl, ?_⟩
    rw [hdst]
    rfl
  · obtain ⟨c, hserve, hholds⟩ := serveWrite_sound horigin hwin (hfence.trans hopen) hsound'
    obtain ⟨hst', hfab', honly'⟩ := hstored hholds
    exact runs_answered rfl hst hclk hfab hsrc hdst hgoal hk hserve honly' (by decide) ⟨⟨_, hack hfab', rfl⟩, hst'⟩
  · obtain ⟨c, hserve, hholds⟩ := acceptBulk_write horigin hwin (hfence.trans hopen) hsound' (hmapped hmap) (hasker ha) hwrite
    obtain ⟨hst', hfab', honly'⟩ := hstored hholds
    exact runs_answered rfl hst hclk hfab hsrc hdst hgoal hk hserve honly' (by decide) ⟨⟨_, hack hfab', rfl⟩, hst'⟩
  · obtain ⟨k, hserve⟩ := acceptBulk_read horigin hwin (hfence.trans hopen) hsound' (hmapped hmap) hread hdrv hplace hx
    refine runs_answered rfl hst hclk hfab hsrc hdst hgoal hk hserve ?_ (by decide) ⟨_, rfl, rfl, hdst, rfl, rfl, rfl, rfl, rfl, rfl, ?_⟩
    · simp (disch := decide) [keepPiece, updTransfer]
    · rw [hdst]
      rfl
  · exact runs_answered rfl hst hclk hfab hsrc hdst hgoal hk (serveRead_fenced horigin (hfence.trans hf)) (honly (by decide)) (by decide) (herror 1)
  · exact runs_answered rfl hst hclk hfab hsrc hdst hgoal hk (serveWrite_fenced horigin (hfence.trans hf)) (honly (by decide)) (by decide) (herror 1)
  · exact runs_answered rfl hst hclk hfab hsrc hdst hgoal hk (acceptBulk_fenced horigin hwin (hasker ha) (hmapped hmap) (hfence.trans hf))
      (honly (by decide)) (by decide) (herror 1)
  · exact runs_answered rfl hst hclk hfab hsrc hdst hgoal hk (acceptBulk_unserved horigin hwin (hasker ha) (hmapped hmap))
      (honly (by decide)) (by decide) (herror 3)

end Sys2Proof.Machine

/-! SUPPORT. Answers and tally signals that reach a station on the panel (O27). -/

namespace Sys2Proof.Machine

/-! ## The last flit of a load or a store (R150, R156) -/

section Outstanding

variable {b : Body} {f : Flit} {o : Outstanding} (hout : (stn b f.dst).outst = [o]) (htag : o.tag = f.tag)
include hout htag

theorem acceptResponse_last (hload : o.isLoad = true) (hleft : o.left = 1) (hpiece : f.piece = 0) :
    acceptResponse f b = setStn b f.dst (if o.toV
      then setV { stn b f.dst with outst := [] } o.reg (o.buf + ofLeBytes (f.payload.map (fun x => x.getD 0)))
      else setS { stn b f.dst with outst := [] } o.reg (o.buf + ofLeBytes (f.payload.map (fun x => x.getD 0)))) := by
  unfold acceptResponse
  simp [hout, htag, hload, hleft, hpiece]

/-- The last flit of a store completes it; there is no release to let go. -/
theorem finishWrite_last (hleft : o.left = 1) (hrel : (stn b f.dst).releases = []) :
    HoldsAt [.stations] f.dst { stn b f.dst with outst := [], releases := [] } b (finishWrite f.dst f.tag b) := by
  have hset : HoldsAt [.stations] f.dst { stn b f.dst with outst := [], releases := [] } b
      (setStn b f.dst { stn b f.dst with outst := [], releases := [] }) :=
    ⟨(only_setStn _ _ (by decide)).mpr (Only.refl _ _), stn_setStn_same _ _ _, fun y hy => stn_setStn_ne _ _ _ _ hy⟩
  unfold finishWrite
  simp only [hout, List.find?_cons, htag, beq_self_eq_true, hleft, Nat.le_refl, if_true, hrel, List.map_nil]
  simp only [List.filter_cons, htag, bne_self_eq_false, Bool.false_eq_true, if_false, List.filter_nil]
  rw [sendReleases_none (by rw [stn_setStn_same])]
  exact hset.updStn (by decide) fun t => { t with releases := t.releases.filter (fun r => !(r.writes.isEmpty && r.matrix.isEmpty)) }

end Outstanding

/-! ## Error responses (R77, R160) -/

/-- The exception of an error response sets the bit of a remote error and is recorded where none is recorded yet. -/
theorem takeExc_remote {st pc c a slot : Nat} {b : Body} (h1 : 1 ≤ c) (h3 : c ≤ 3) (hv : getF b R.STN_EXC_CAUSE.valid st ≠ 1) :
    takeExc st pc [⟨remoteCause c, slot, a⟩] b = report (.stationExc st) (setF (clearWaits st (recordExc st pc ⟨remoteCause c, slot, a⟩ false
      (report (.stationFault st) (setFlag b R.STN_FAULT.remote_error st true)))) R.STN_STATUS.state st 6) := by
  have hfault : excFault (remoteCause c) = some R.STN_FAULT.remote_error := by
    obtain rfl | rfl | rfl : c = 1 ∨ c = 2 ∨ c = 3 := by omega
    all_goals rfl
  have hv' : getF (report (.stationFault st) (setFlag b R.STN_FAULT.remote_error st true)) R.STN_EXC_CAUSE.valid st ≠ 1 := by
    simpa (disch := decide) using hv
  have hset : excFaults st [⟨remoteCause c, slot, a⟩] b = report (.stationFault st) (setFlag b R.STN_FAULT.remote_error st true) := by
    simp [excFaults, forEach, hfault]
  unfold takeExc
  simp only [firstExc, hset]
  rw [if_neg hv']
  simp

theorem remoteCause_eq {c : Nat} (h1 : 1 ≤ c) (h3 : c ≤ 3) : remoteCause c = 0x0A + c := by
  obtain rfl | rfl | rfl : c = 1 ∨ c = 2 ∨ c = 3 := by omega
  all_goals rfl

/-- What the registers show of the exception of an error response. -/
theorem takeExc_remote_shows {st pc c a : Nat} {b : Body} (h1 : 1 ≤ c) (h3 : c ≤ 3) (hv : getF b R.STN_EXC_CAUSE.valid st ≠ 1) :
    let d := takeExc st pc [⟨remoteCause c, 1, a⟩] b
    Only [.regs, .reports] b d ∧ getF d R.STN_STATUS.state st = 6 ∧ getF d R.STN_EXC_CAUSE.valid st = 1
      ∧ getF d R.STN_EXC_CAUSE.cause st = 0x0A + c ∧ getF d R.STN_EXC_CAUSE.precise st = 0 ∧ getF d R.STN_EXC_INFO.info st = a % 2 ^ 64
      ∧ getF d R.STN_EXC_PC.pc st = pc % 4096 ∧ flagF d R.STN_FAULT.remote_error st = true := by
  have hcause : (0x0A + c) % 2 ^ R.STN_EXC_CAUSE.cause.width = 0x0A + c := Nat.mod_eq_of_lt (show 0x0A + c < 2 ^ 5 by omega)
  have hne : 0x0A + c ≠ 0x0E := by omega
  have hprec : ¬ 0x0A + c ≤ 9 := by omega
  intro d
  rw [show d = _ from takeExc_remote h1 h3 hv, remoteCause_eq h1 h3]
  refine ⟨?_, ?_, ?_, ?_, ?_, ?_, ?_, ?_⟩
  · simp (disch := decide) [clearWaits, recordExc]
  · simp (disch := decide) [-getF_setF_same]
  · simp (disch := decide) [clearWaits, recordExc, -getF_setF_same]
  · simp (disch := decide) only [clearWaits, recordExc, getF_report, getF_setF_other, getF_setFlag_other, getF_setF_same, hcause]
  · simp (disch := decide) only [clearWaits, recordExc, getF_report, getF_setF_other, getF_setFlag_other, getF_setF_same, if_neg hprec]
    rfl
  · simp (disch := decide) only [clearWaits, recordExc, getF_report, getF_setF_other, getF_setFlag_other, getF_setF_same, if_neg hne]
    rfl
  · simp (disch := decide) only [clearWaits, recordExc, getF_report, getF_setF_other, getF_setFlag_other, getF_setF_same]
    rfl
  · simp (disch := decide) [clearWaits, recordExc]

theorem acceptError_access {b : Body} {f : Flit} {o : Outstanding} (hdrv : f.drv = none) (hstaged : f.staged = false) (hout : (stn b f.dst).outst = [o])
    (htag : o.tag = f.tag) : acceptError f b = finishWrite f.dst f.tag (takeExc f.dst o.pc [⟨remoteCause f.cause, 1, f.addr⟩] b) := by
  unfold acceptError
  simp [hdrv, hstaged, hout, htag]

/-! ## Tally signals (R216, R219) -/

section Signals

variable {st n v tag : Nat} {b : Body}

theorem tallyArrive_own (h : tag % 4 = getF b R.TLY_STN_STATUS.tag st) : tallyArrive st n v tag b = addTally st n v b := if_pos h

theorem tallyArrive_next (hown : getF b R.TLY_STN_STATUS.tag st < 4) (h : tag % 4 = (getF b R.TLY_STN_STATUS.tag st + 1) % 4)
    (hdef : (stn b st).deferred = []) : tallyArrive st n v tag b
      = setF (updStn b st (fun t => { t with deferred := [(n, BitVec.ofNat 32 v)] })) R.TLY_STN_STATUS.deferred st 1 := by
  unfold tallyArrive
  dsimp only
  rw [if_neg (by omega), if_pos h, hdef]
  simp [SMap.get, SMap.insert]

theorem tallyArrive_late (hown : getF b R.TLY_STN_STATUS.tag st < 4) (h : tag % 4 = (getF b R.TLY_STN_STATUS.tag st + 2) % 4) :
    tallyArrive st n v tag b = addSat (addTally st n v b) R.TLY_STN_STATUS.late st 1 := by
  unfold tallyArrive
  dsimp only
  rw [if_neg (by omega), if_neg (by omega)]

end Signals

theorem acceptSignal_open {b : Body} {f : Flit} (h : flagF b R.STN_CTRL.fence f.dst = false) :
    acceptSignal f b = tallyArrive f.dst f.tag f.len f.stroke b := if_neg (by rw [h]; decide)

theorem acceptSignal_fenced {b : Body} {f : Flit} (h : flagF b R.STN_CTRL.fence f.dst = true) (hsrc : f.src < 1024) :
    acceptSignal f b = sendFlit { errorFor f 1 f.addr with tag := f.dest, staged := true } b := (if_pos h).trans (if_pos hsrc)

/-- Settles O27: each answer and each signal is taken from the panel and changes its station. -/
theorem panelAnswers : Obligations.PanelAnswers := by
  intro src dst s f rest hst hclk hfab hsrc hdst hdrv hgoal t own fenced
  subst hdst
  have hunit : ∀ {g : Body → Body}, onUnit (isStation f.dst) g s = lift g s := lift_of_onUnit hst
  have hfront : ∀ {kind : FlitKind} {g : Flit → Body → Body}, f.kind = kind → deliverStn kind src f.dst g s.body = g f (withFabric s.body rest) :=
    fun hk => deliverStn_front hclk hfab hsrc rfl hgoal hk
  refine ⟨?_, fun o hk hout htag hleft hrel => ?_,
    fun o hk hstaged hout htag hleft hrel hv hc => ?_, fun hk hopen htag => ?_, fun hk hopen htag hown hdef => ?_,
    fun hk hopen htag hown => ?_, fun hk hf hlt horigin => ?_⟩
  · intro o hk hout htag hload hleft hpiece v
    refine runs_of_lift hunit ((hfront hk).trans (acceptResponse_last hout htag hload hleft hpiece)) ?_ ⟨rfl, stn_setStn_same _ _ _,
      fun y hy => stn_setStn_ne _ _ _ _ hy⟩
    simp (disch := decide)
  · have hack : acceptAck f (withFabric s.body rest) = finishWrite f.dst f.tag (withFabric s.body rest) := by rw [acceptAck, hdrv]
    obtain ⟨honly, hstn, hothers⟩ := finishWrite_last (b := withFabric s.body rest) hout htag hleft hrel
    refine runs_of_lift hunit ((hfront hk).trans hack) (.trans ?_ (honly.mono (by decide))) ⟨(honly .fabric).resolve_left (by decide), hstn, hothers⟩
    simp (disch := decide)
  · obtain ⟨hcause1, hcause3⟩ := hc
    obtain ⟨honly, hstate, hvalid, hcause, hprec, hinfo, hpc, hremote⟩ := takeExc_remote_shows (pc := o.pc) (a := f.addr) (st := f.dst)
      (b := withFabric s.body rest) hcause1 hcause3 hv
    have hsame : ∀ y, stn (takeExc f.dst o.pc [⟨remoteCause f.cause, 1, f.addr⟩] (withFabric s.body rest)) y = stn s.body y := fun y =>
      congrArg (fun m => SMap.get m Station.reset y) ((honly .stations).resolve_left (by decide))
    obtain ⟨honly', hstn, -⟩ := finishWrite_last (f := f) ((congrArg Station.outst (hsame f.dst)).trans hout) htag hleft
      ((congrArg Station.releases (hsame f.dst)).trans hrel)
    have hregs : ∀ (g : Field) (j : Nat), getF (finishWrite f.dst f.tag _) g j = getF (takeExc f.dst o.pc _ (withFabric s.body rest)) g j :=
      fun g j => getF_congr _ _ g j ((honly' .regs).resolve_left (by decide))
    refine runs_of_lift hunit ((hfront hk).trans (acceptError_access hdrv hstaged hout htag))
      (.trans ?_ ((honly.mono (by decide)).trans (honly'.mono (by decide))))
      ⟨((honly' .fabric).resolve_left (by decide)).trans ((honly .fabric).resolve_left (by decide)), by rw [hstn], ?_, ?_, ?_, ?_, ?_, ?_, ?_⟩
    · simp (disch := decide)
    · rw [hregs, hstate]
    · rw [hregs, hvalid]
    · rw [hregs, hcause]
    · rw [hregs, hprec]
    · rw [hregs, hinfo]
    · rw [hregs, hpc]
    · rw [flagF, hregs]
      exact hremote
  · refine runs_of_lift hunit ((hfront hk).trans ((acceptSignal_open (b := withFabric s.body rest) hopen).trans (tallyArrive_own (b := withFabric s.body rest) htag))) ?_ ⟨rfl, stn_updStn_same _ _ _,
      fun y hy => stn_updStn_ne _ _ _ _ hy⟩
    simp (disch := decide) [addTally]
  · refine runs_of_lift hunit ((hfront hk).trans ((acceptSignal_open (b := withFabric s.body rest) hopen).trans (tallyArrive_next (b := withFabric s.body rest) hown htag hdef))) ?_ ⟨rfl, ?_,
      getF_setF_fits (by decide), ?_⟩
    · simp (disch := decide)
    · simp [t]
    · simp (disch := decide)
      exact RegsBut.refl _ _ _
  · refine runs_of_lift hunit ((hfront hk).trans ((acceptSignal_open (b := withFabric s.body rest) hopen).trans (tallyArrive_late (b := withFabric s.body rest) hown htag))) ?_ ⟨rfl, ?_, ?_, ?_⟩
    · simp (disch := decide) [addTally]
    · simp [addTally, t]
    · rw [getF_addSat_same]
      rfl
    · simp (disch := decide) [addTally]
      exact RegsBut.refl _ _ _
  · refine runs_of_lift hunit ((hfront hk).trans (acceptSignal_fenced (b := withFabric s.body rest) hf (hsrc ▸ hlt))) ?_ ⟨_, rfl, rfl, rfl, rfl, ?_⟩
    · simp (disch := decide)
    · rw [errorFor, asker, hdrv]
      exact hsrc

end Sys2Proof.Machine

/-! SUPPORT. The UCIe modules of the die edges (O28). -/

namespace Sys2Proof.Machine

/-! ## The two ends of a module -/

theorem isLink_edge : ∀ d < 20, ∀ e < 4, isLink ⟨d, e, 0⟩ = true → across d e ≠ d ∧ facing d e < 4 := by decide

theorem isLink_bounds {lk : UcieLink} (h : isLink lk = true) : lk.die < 20 ∧ lk.edge < 4 ∧ lk.lane < 16 ∧ isLink ⟨lk.die, lk.edge, 0⟩ = true := by
  unfold isLink at h ⊢
  by_cases hd : lk.die < 16
  · rw [if_pos hd] at h
    obtain ⟨hedge, hlane⟩ := Bool.and_eq_true_iff.mp h
    simp only [hd, if_true]
    split at hlane
    · simp_all
      omega
    · split at hlane
      · simp_all
        omega
      · simp at hlane
  · rw [if_neg hd] at h
    simp only [Bool.and_eq_true, decide_eq_true_eq] at h
    obtain ⟨⟨hdie, hedge⟩, hlane⟩ := h
    simp [hd, hdie, hedge]
    omega

/-- The two ends of a module are two links of the state. -/
theorem ucieKey_farSide {lk : UcieLink} (h : isLink lk = true) : ucieKey (farSide lk) ≠ ucieKey lk := by
  obtain ⟨hdie, hedge, hlane, hfirst⟩ := isLink_bounds h
  obtain ⟨hne, hfacing⟩ := isLink_edge lk.die hdie lk.edge hedge hfirst
  simp only [ucieKey, farSide]
  omega

theorem link_updLink_ne {b : Body} {l m : UcieLink} {f : Ucie → Ucie} (h : ucieKey m ≠ ucieKey l) : link (updLink b l f) m = link b m :=
  SMap.get_put_ne _ _ _ _ _ _ h

@[simp] theorem link_emit (m : Sent) (b : Body) (l : UcieLink) : link (emit m b) l = link b l := rfl

@[simp] theorem link_putUcie (m : UcieLink) (x : Nat × Flit) (b : Body) (l : UcieLink) : link (putUcie m x b) l = link b l := rfl

@[simp] theorem link_withFabric (b : Body) (fs : List Flit) (l : UcieLink) : link (withFabric b fs) l = link b l := rfl

@[simp] theorem link_setF (b : Body) (f : Field) (i v : Nat) (l : UcieLink) : link (setF b f i v) l = link b l := rfl

@[simp] theorem link_addSat (b : Body) (f : Field) (i v : Nat) (l : UcieLink) : link (addSat b f i v) l = link b l := rfl

@[simp] theorem link_sendFlit (f : Flit) (b : Body) (l : UcieLink) : link (sendFlit f b) l = link b l := rfl

@[simp] theorem only_putUcie {ps : List Part} {b c : Body} (m : UcieLink) (x : Nat × Flit) (h : Part.sent ∈ ps) :
    Only ps b (putUcie m x c) ↔ Only ps b c := only_emit _ h

/-! ## What an edge sends (R56, R61) -/

/-- An edge with nothing on its die sends nothing. -/
theorem sendEdge_empty {b : Body} (n edge : Nat) (h : b.fabric = []) : sendEdge n edge b = b :=
  forEach_eq_self fun c _ => by
    simp only [h, sendClass]
    rw [← h]

/-- A module passes over what is not of the class, is not here, or leaves by another edge. -/
theorem sendClass_skips {n edge cls : Nat} {f : Flit} {b : Body} (h : f.kind.cls ≠ cls) : sendClass n edge cls [f] b = ([f], b) := by
  simp [sendClass, h]

/-- A body in which the flit has left by this module. -/
def sentOver (l : UcieLink) (f : Flit) (b : Body) : Body :=
  let x := ((link b l).next, f)
  putUcie l x (updLink b l (fun u => { u with next := (u.next + 1) % 4096, unacked := u.unacked ++ [x] }))

theorem link_sentOver_same (l : UcieLink) (f : Flit) (b : Body) : link (sentOver l f b) l
    = { link b l with next := ((link b l).next + 1) % 4096, unacked := (link b l).unacked ++ [((link b l).next, f)] } := by
  rw [sentOver, link_putUcie, link_updLink_same]

theorem link_sentOver_ne {l m : UcieLink} {f : Flit} {b : Body} (h : ucieKey m ≠ ucieKey l) : link (sentOver l f b) m = link b m := by
  rw [sentOver, link_putUcie, link_updLink_ne h]

theorem sendClass_sends {n edge k : Nat} {f : Flit} {b : Body} (hnode : f.node = n) (hedge : f.nextEdge = some edge)
    (hlane : laneOf b n edge f.src f.dst = some k) (hmay : mayCross b n edge k f = true) :
    sendClass n edge f.kind.cls [f] b = ([], sentOver ⟨n, edge, k⟩ f b) := by
  simp [sendClass, hnode, hedge, hlane, hmay, sentOver]

/-- The turn of one class at an edge. -/
def sendTurn (n edge c : Nat) (b : Body) : Body := withFabric (sendClass n edge c b.fabric b).2 (sendClass n edge c b.fabric b).1

/-- The one flit on the panel leaves, in its class's turn, by the edge its route names. -/
theorem sendEdge_one {n edge k : Nat} {f : Flit} {b : Body} (hfab : b.fabric = [f]) (hnode : f.node = n) (hedge : f.nextEdge = some edge)
    (hlane : laneOf b n edge f.src f.dst = some k) (hmay : mayCross b n edge k f = true) (hcls : f.kind.cls < 4) :
    sendEdge n edge b = withFabric (sentOver ⟨n, edge, k⟩ f b) [] := by
  have hskip : ∀ c, f.kind.cls ≠ c → sendTurn n edge c b = b := fun c hc => by
    simp only [sendTurn, hfab, sendClass_skips hc]
    rw [← hfab]
    rfl
  have hsend : sendTurn n edge f.kind.cls b = withFabric (sentOver ⟨n, edge, k⟩ f b) [] := by
    simp only [sendTurn, hfab, sendClass_sends hnode hedge hlane hmay]
  have hrest : ∀ c, sendTurn n edge c (withFabric (sentOver ⟨n, edge, k⟩ f b) []) = withFabric (sentOver ⟨n, edge, k⟩ f b) [] := fun c => rfl
  change sendTurn n edge 3 (sendTurn n edge 2 (sendTurn n edge 1 (sendTurn n edge 0 b))) = _
  obtain h | h | h | h : f.kind.cls = 0 ∨ f.kind.cls = 1 ∨ f.kind.cls = 2 ∨ f.kind.cls = 3 := by omega
  all_goals
    rw [h] at hskip hsend
    simp [hskip, hsend, hrest]

/-! ## Receiving (R61, R62) -/

section Receive

variable {lk : UcieLink} {b : Body} {seq ack : Nat} (hup : bit (getF b R.STN_EDGE.module_up (edgeReg lk)) lk.lane = true)
  (hruns : b.stopped.contains (edgeIsland lk.die lk.edge) = false)
include hup hruns

/-- What a sound frame acknowledges is freed. -/
def ackLink (lk : UcieLink) (ack : Nat) (b : Body) : Body :=
  updLink b lk (fun u => { u with unacked := u.unacked.filter (fun x => !ackCovers ack x.1) })

theorem ucieReceive_unsound : ucieReceive lk seq ack false b = (let c := sendEdge (farSide lk).die (farSide lk).edge b
    let u := link c lk
    askUcieRetry lk (updLink c lk (fun v => { v with failing := some u.expected, fails := if u.failing = some u.expected then u.fails + 1 else 0 }))) := by
  unfold ucieReceive
  rw [hup, hruns]
  rfl

theorem ucieReceive_expected {f : Flit} (hkey : ucieKey (farSide lk) ≠ ucieKey lk) (hfab : b.fabric = [])
    (hwire : onWire b lk (link b lk).expected = some f) : ucieReceive lk (link b lk).expected ack true b
      = stepFlit lk.die f (updLink (ackLink lk ack b) lk (fun u => { u with expected := (u.expected + 1) % 4096, failing := none, fails := 0 })) := by
  have hsame : onWire (ackLink lk ack b) lk (link b lk).expected = some f := by
    unfold onWire at hwire ⊢
    rw [ackLink, link_updLink_ne hkey, hwire]
  unfold ucieReceive
  simp only [hup, hruns, sendEdge_empty _ _ hfab]
  unfold ackLink at hsame ⊢
  simp [hsame]

theorem ucieReceive_repeated (hseq : seq ≠ (link (sendEdge (farSide lk).die (farSide lk).edge b) lk).expected)
    (hprev : ackCovers (((link (sendEdge (farSide lk).die (farSide lk).edge b) lk).expected + 4095) % 4096) seq = true) :
    ucieReceive lk seq ack true b = ackLink lk ack (sendEdge (farSide lk).die (farSide lk).edge b) := by
  unfold ucieReceive
  simp only [hup, hruns, hseq, hprev]
  rfl

end Receive

/-- A flit that has come off a module stands at its die, for another edge or for its endpoint there. -/
theorem stepFlit_panel {n : Nat} {f : Flit} {b : Body} (h : f.via = none) : stepFlit n f b = sendFlit { f with pos := some n } b := by
  unfold stepFlit leavePort
  rw [h]
  exact ite_self _

/-! ## Sending again, and the loss of a module (R62, R63) -/

theorem forEach_putUcie (lk : UcieLink) : ∀ (xs : List (Nat × Flit)) (b : Body), forEach xs (putUcie lk) b
    = { b with sent := (xs.map (fun x => Sent.ucieFlit lk.die lk.edge lk.lane (x.2.bytes x.1 ((link b lk).expected + 4095)))).reverse ++ b.sent }
  | [], b => rfl
  | x :: xs, b => by
    refine (forEach_putUcie lk xs (putUcie lk x b)).trans ?_
    simp [putUcie, emit, link]

/-- A body in which this edge's own side of the module is down. -/
def moduleDown (l : UcieLink) (b : Body) : Body :=
  setF b R.STN_EDGE.module_up (edgeReg l) (setBit (getF b R.STN_EDGE.module_up (edgeReg l)) l.lane false)

/-- Module bits of the edges after one side of a module is down. -/
theorem bit_moduleDown (l : UcieLink) (b : Body) (i k : Nat) (hk : k < 16) : bit (getF (moduleDown l b) R.STN_EDGE.module_up i) k
    = if i = edgeReg l ∧ k = l.lane then false else bit (getF b R.STN_EDGE.module_up i) k := by
  by_cases hi : i = edgeReg l
  · subst hi
    rw [moduleDown, getF_setF_same, bit_mod_two_pow (n := R.STN_EDGE.module_up.width) _ hk, bit_setBit]
    simp
  · rw [moduleDown, getF_setF_ne _ _ _ _ _ _ (by omega), if_neg (fun h => hi h.1)]

theorem getF_moduleDown_ne {l : UcieLink} {b : Body} {i : Nat} (hi : i ≠ edgeReg l) :
    getF (moduleDown l b) R.STN_EDGE.module_up i = getF b R.STN_EDGE.module_up i :=
  getF_setF_ne _ _ _ _ _ _ (by omega)

/-- A body in which both sides of a module are down and its numbers start anew. -/
def clearedModule (l : UcieLink) (b : Body) : Body :=
  updLink (updLink (moduleDown (farSide l) (moduleDown l b)) l (fun _ => Ucie.reset)) (farSide l) (fun _ => Ucie.reset)

theorem getF_clearedModule (l : UcieLink) (b : Body) (f : Field) (i : Nat) :
    getF (clearedModule l b) f i = getF (moduleDown (farSide l) (moduleDown l b)) f i := rfl

theorem ucieDisable_keeps {l : UcieLink} {b : Body} (h : (link b l).fails < 3) (h' : (link b (farSide l)).fails < 3) : ucieDisable l b = b :=
  if_pos ⟨h, h'⟩

/-- The report of an edge. -/
def edgeReport (e : Nat) : Source := .edgeModule (e / 4) (e % 4)

theorem ucieDisable_clears {l : UcieLink} {b : Body} (h : 3 ≤ (link b l).fails ∨ 3 ≤ (link b (farSide l)).fails)
    (hu : (link b l).unacked = []) (hu' : (link b (farSide l)).unacked = []) (hfab : b.fabric = []) :
    ucieDisable l b = report (edgeReport (edgeReg l)) (if edgeReg l = edgeReg (farSide l) then clearedModule l b
      else report (edgeReport (edgeReg (farSide l))) (clearedModule l b)) := by
  have hback : notReceived b l ++ notReceived b (farSide l) = [] := by simp [notReceived, hu, hu']
  have hb : { b with fabric := [] ++ b.fabric } = b := rfl
  unfold ucieDisable
  rw [if_neg (by omega)]
  simp only [hback, hb]
  rw [sendEdge_empty, sendEdge_empty]
  · rfl
  · exact hfab
  · rw [sendEdge_empty]
    · exact hfab
    · exact hfab

/-! ## The obligation -/

section Commands

variable {lk : UcieLink} {s : State} (hlk : isLink lk = true)
include hlk

theorem ucieDisable_runs (hu : (link s.body lk).unacked = []) (hu' : (link s.body (farSide lk)).unacked = []) (hfab : s.body.fabric = [])
    (h : 3 ≤ (link s.body lk).fails ∨ 3 ≤ (link s.body (farSide lk)).fails) :
    Runs (.ucieModuleDisable lk) s [.ucie, .regs, .reports, .fabric] (fun b =>
      (∀ i k, k < 16 → bit (getF b R.STN_EDGE.module_up i) k
        = if (i = edgeReg lk ∨ i = edgeReg (farSide lk)) ∧ k = lk.lane then false else bit (getF s.body R.STN_EDGE.module_up i) k)
      ∧ (∀ i, i ≠ edgeReg lk → i ≠ edgeReg (farSide lk) → getF b R.STN_EDGE.module_up i = getF s.body R.STN_EDGE.module_up i)
      ∧ edgeReport (edgeReg lk) ∈ b.reports ∧ edgeReport (edgeReg (farSide lk)) ∈ b.reports) := by
  have hbits : ∀ i k, k < 16 → bit (getF (clearedModule lk s.body) R.STN_EDGE.module_up i) k
      = if (i = edgeReg lk ∨ i = edgeReg (farSide lk)) ∧ k = lk.lane then false else bit (getF s.body R.STN_EDGE.module_up i) k := by
    intro i k hk
    rw [getF_clearedModule, bit_moduleDown _ _ _ _ hk, bit_moduleDown _ _ _ _ hk]
    have hlane : (farSide lk).lane = lk.lane := rfl
    rw [hlane]
    grind
  have hothers : ∀ i, i ≠ edgeReg lk → i ≠ edgeReg (farSide lk) →
      getF (clearedModule lk s.body) R.STN_EDGE.module_up i = getF s.body R.STN_EDGE.module_up i := fun i hi hi' => by
    rw [getF_clearedModule, getF_moduleDown_ne hi', getF_moduleDown_ne hi]
  refine runs_of_lift (lift_of_onUnit hlk) (ucieDisable_clears h hu hu' hfab) ?_ ⟨fun i k hk => ?_, fun i hi hi' => ?_, ?_, ?_⟩
  · split <;> simp (disch := decide) [clearedModule, moduleDown]
  · exact Eq.trans (by split <;> rfl) (hbits i k hk)
  · exact Eq.trans (by split <;> rfl) (hothers i hi hi')
  · split <;> simp [report]
  · split <;> simp_all [report]

end Commands

/-- Settles O28: with nothing on the panel an edge sends nothing, and the two ends of a module are two links. -/
theorem ucieLinks : Obligations.UcieLinks := by
  intro lk s hlk far e e' u u' up runs
  have hkey := ucieKey_farSide hlk
  have hbounds := isLink_bounds hlk
  refine ⟨fun ack f hup hruns hfab hwire hvia => ?_, fun ack f hup hruns hfab hnode hedge hlane hmay hcls hexp => ?_,
    fun seq ack hup hruns hfab => ?_, fun n hn => ?_, fun hu hu' hfab h => ?_, fun h h' => ?_⟩
  · refine runs_of_lift (lift_of_onUnit hlk) ((ucieReceive_expected hup hruns hkey hfab hwire).trans (stepFlit_panel hvia)) ?_ ⟨?_, ?_, ?_, ?_⟩
    · simp (disch := decide) [ackLink]
    · simp [ackLink, u]
    · simp [ackLink]
    · simp [ackLink, u]
    · simp [ackLink, sendFlit_fabric, hfab]
  · have hsent : sendEdge far.die far.edge s.body = withFabric (sentOver far f s.body) [] := sendEdge_one hfab hnode hedge hlane hmay hcls
    have hlink : link (sendEdge far.die far.edge s.body) lk = u := by
      rw [hsent]
      exact link_sentOver_ne hkey.symm
    have hrepeat := ucieReceive_repeated (seq := (u.expected + 4095) % 4096) (ack := ack) hup hruns (by rw [hlink]; omega)
      (by rw [hlink]; simp [ackCovers])
    refine runs_of_lift (lift_of_onUnit hlk) (hrepeat.trans (congrArg (ackLink lk ack) hsent)) ?_ ⟨rfl, ?_, ?_, ?_⟩
    · simp (disch := decide) [ackLink, sentOver]
    · rw [ackLink, link_updLink_ne hkey, link_withFabric, link_sentOver_same]
    · rw [ackLink, link_updLink_ne hkey, link_withFabric, link_sentOver_same]
    · rw [ackLink, link_updLink_same, ← hsent, hlink]
  · refine runs_of_lift (lift_of_onUnit hlk) ((ucieReceive_unsound hup hruns).trans (by rw [sendEdge_empty _ _ hfab])) ?_ ⟨?_, ?_, ?_, ?_, ?_⟩
    · simp (disch := decide) [askUcieRetry]
    · simp [askUcieRetry, emit, u]
    · simp [askUcieRetry, u]
    · simp [askUcieRetry, u]
    · simp [askUcieRetry, u]
    · exact getF_addSat_same _ _ _ _
  · refine runs_of_lift (lift_of_onUnit hlk) (forEach_putUcie lk _ _) (fun p => ?_) ?_
    · cases p <;> first | exact .inl (by decide) | exact .inr rfl
    · rw [Nat.mod_eq_of_lt hn]
  · obtain ⟨b, hx, honly, hbits, hothers, hrep, hrep'⟩ := ucieDisable_runs hlk hu hu' hfab h
    refine ⟨b, hx, honly, ?_, ?_, hrep, hrep', fun i k hk hne => ?_, hothers⟩
    · simp [hbits _ _ hbounds.2.2.1, e]
    · simp [hbits _ _ hbounds.2.2.1, e', far]
    · simp [hbits i k hk, hne]
  · exact runs_same (lift_of_onUnit hlk) (ucieDisable_keeps h h')

end Sys2Proof.Machine

/-! SUPPORT. Requests to a memory controller and their service (O29). -/

namespace Sys2Proof.Machine

@[simp] theorem regsBut_withFree {fs : List Field} {i : Nat} {b c : Body} (n : Nat) : RegsBut fs i b (withFree c n) ↔ RegsBut fs i b c := Iff.rfl

@[simp] theorem regsBut_withFabric {fs : List Field} {i : Nat} {b c : Body} (xs : List Flit) : RegsBut fs i b (withFabric c xs) ↔ RegsBut fs i b c :=
  Iff.rfl

theorem pseudoChannel_lt (a : Nat) : pseudoChannel a < 64 :=
  Nat.xor_lt_two_pow (n := 6) (Nat.mod_lt _ (Nat.two_pow_pos 6)) (Nat.mod_lt _ (Nat.two_pow_pos 6))

@[simp] theorem stk_sendFlit (f : Flit) (b : Body) (k : Nat) : stk (sendFlit f b) k = stk b k := rfl

@[simp] theorem stk_withFree (n : Nat) (b : Body) (k : Nat) : stk (withFree b n) k = stk b k := rfl

@[simp] theorem stk_withFabric (fs : List Flit) (b : Body) (k : Nat) : stk (withFabric b fs) k = stk b k := rfl

@[simp] theorem updStk_fabric (b : Body) (k : Nat) (f : Stack → Stack) : (updStk b k f).fabric = b.fabric := rfl

@[simp] theorem only_keepPiece {ps : List Part} {b c : Body} (dr tid piece : Nat) (bs : List Byte) (h : Part.drovers ∈ ps) :
    Only ps b (keepPiece dr tid piece bs c) ↔ Only ps b c := only_updDrv _ _ h

theorem ownSys_panel {f : Flit} (h : f.origin = none) (b : Body) (a : Nat) : ownSys b f a = a := by rw [ownSys, h]; rfl

/-! ## The arrival of a request -/

section Arrival

variable {src k : Nat} {s : State} {f : Flit} {rest : List Flit} (hsrc : f.src = src) (hdst : f.dst = 1024 + k) (horigin : f.origin = none)
  (hruns : s.body.stopped.contains (.controller k) = false) (hfab : s.body.fabric = f :: rest) (hkind : f.kind = .droverBulk) (hgoal : atGoal f = true)
include hsrc hdst hruns hfab hkind hgoal

theorem stackRequest_queues (hawake : ¬ (flagF s.body R.MEM_CTRL.self_refresh k = true ∨ getF s.body R.MEM_STATUS.state k = 3))
    (hmem : inStaging s.body f.addr f.len = false) : stackRequest src (1024 + k) s.body = updStk (withFabric s.body rest) k (fun t =>
      if f.staged then { t with staged := t.staged ++ [⟨f.addr, f.payload.map (fun x => x.getD 0), f.drv.getD 0, f.tag, f.piece⟩] }
      else { t with requests := t.requests ++ [f] }) := by
  have hmem' : inStaging (withFabric s.body rest) f.addr f.len = false := hmem
  unfold stackRequest deliver
  simp only [Nat.add_sub_cancel_left, hruns, takeFlit_front hfab hsrc hdst hgoal hkind, getF_withFabric, flagF_withFabric, hawake, hmem',
    Bool.false_eq_true, if_false]
  split <;> rfl

include horigin

theorem stackRequest_refuses (h : (flagF s.body R.MEM_CTRL.self_refresh k = true ∨ getF s.body R.MEM_STATUS.state k = 3) ∨ inStaging s.body f.addr f.len = true) :
    stackRequest src (1024 + k) s.body = sendFlit (errorFor f 3 f.addr) (withFabric s.body rest) := by
  have hstaging : inStaging (withFabric s.body rest) f.addr f.len = inStaging s.body f.addr f.len := rfl
  unfold stackRequest deliver
  simp only [Nat.add_sub_cancel_left, hruns, takeFlit_front hfab hsrc hdst hgoal hkind, getF_withFabric, flagF_withFabric, hstaging,
    respond_panel horigin, ownSys_panel horigin, Bool.false_eq_true, if_false]
  rcases h with h | h
  · rw [if_pos h]
  · rw [h, if_pos rfl, ite_self]

end Arrival

/-! ## Service -/

/-- A body in which the bytes of a drover's read go on as its own write to a station of this module. -/
def readOn (dr x : Nat) (v : WinAddr) (f : Flit) (bs : List Byte) (b : Body) : Body :=
  sendFlit (bulkTo f.dst dr f.tag f.piece f.staged v x bs) (keepPiece dr f.tag f.piece bs b)

theorem returnRead_on {b : Body} {f : Flit} {dr x : Nat} {v : WinAddr} (bs : List Byte) (horigin : f.origin = none) (hdrv : f.drv = some dr)
    (hplace : placeOf b f.dest = some (.station (moduleIndex b) v)) (hx : physOf b v.die v.lst = some x) :
    returnRead f bs b = readOn dr x v f bs b := by
  unfold returnRead
  simp only [horigin, hdrv]
  exact forwardRead_station hplace hx

/-- No request is served that a sealed tail holds. -/
theorem accessComplete_none {k pc : Nat} {s : State} (h : nextRequest s.body k pc = none) : accessComplete k pc [] s = s := by
  unfold accessComplete
  rw [h]
  exact ite_self _

/-- The one request of a stack is served unless it is a read that a sealed tail holds. -/
theorem nextRequest_one {b : Body} {k : Nat} {f : Flit} (hone : (stk b k).requests = [f]) :
    nextRequest b k (pseudoChannel f.addr) = if f.isRead && heldBySeal b f.addr f.len then none else some f := by
  simp only [nextRequest, hone, pickRequest]
  cases f.isRead <;> cases heldBySeal b f.addr f.len <;> simp

section Service

variable {k : Nat} {s : State} {f : Flit} (hstate : getF s.body R.MEM_STATUS.state k = 2)
  (hruns : s.body.stopped.contains (.controller k) = false) (hup : bit (getF s.body R.MEM_PC_UP.pc_up k) (pseudoChannel f.addr) = true)
  (hone : (stk s.body k).requests = [f])
include hstate hruns hup hone

/-- A body in which the requests of a stack are gone. -/
def withoutRequests (k : Nat) (b : Body) : Body := updStk b k (fun t => { t with requests := [] })

theorem accessComplete_one (upset : List Nat) (h : nextRequest s.body k (pseudoChannel f.addr) = some f) :
    accessComplete k (pseudoChannel f.addr) upset s = stackAccess f { s with body := upsetUnit (f.addr / 32) upset (withoutRequests k s.body) } := by
  have hready : ctlReady s.body k = true := by rw [ctlReady, hstate, hruns]; rfl
  have hgone : updStk s.body k (fun t => { t with requests := eraseFirst (fun x => x == f) t.requests }) = withoutRequests k s.body := by
    simp [updStk, withoutRequests, hone, eraseFirst]
  unfold accessComplete
  simp only [hready, hup, h, hgone]
  rfl

variable (horigin : f.origin = none) (hsound : s.body.badStack = [])
include horigin hsound

/-- The bytes stored go on to the station that the request's destination names (R190). -/
theorem accessComplete_read {dr x : Nat} {v : WinAddr} (hread : f.isRead = true) (hheld : heldBySeal s.body f.addr f.len = false)
    (hdrv : f.drv = some dr) (hplace : placeOf s.body f.dest = some (.station (moduleIndex s.body) v)) (hx : physOf s.body v.die v.lst = some x) :
    ∃ n, accessComplete k (pseudoChannel f.addr) [] s
      = { s with body := readOn dr x v f (memBytes s.mem f.addr f.len) (withFree (withoutRequests k s.body) n) } := by
  obtain ⟨n, hn⟩ := readStack_sound (s := { s with body := withoutRequests k s.body }) f.addr f.len hsound
  have hon := returnRead_on (b := withFree (withoutRequests k s.body) n) (memBytes s.mem f.addr f.len) horigin hdrv hplace hx
  refine ⟨n, ?_⟩
  rw [accessComplete_one hstate hruns hup hone [] (by rw [nextRequest_one hone, hheld, Bool.and_false]; rfl), ← hon]
  unfold stackAccess upsetUnit
  rw [if_pos rfl, if_pos hread, hn]
  rfl

/-- A write stores its bytes and is acknowledged. -/
theorem accessComplete_write (hwrite : f.isRead = false) : ∃ n, accessComplete k (pseudoChannel f.addr) [] s
    = { s with mem := memStore s.mem f.addr f.payload, body := sendFlit (ackFor f) (withFree (withoutRequests k s.body) n) } := by
  obtain ⟨n, hn⟩ := writeStack_sound (s := { s with body := withoutRequests k s.body }) f.addr f.payload hsound
  refine ⟨n, ?_⟩
  rw [accessComplete_one hstate hruns hup hone [] (by rw [nextRequest_one hone, hwrite]; rfl)]
  unfold stackAccess upsetUnit
  rw [if_pos rfl, if_neg (by rw [hwrite]; decide), hn]
  exact congrArg (fun b => { s with mem := memStore s.mem f.addr f.payload, body := b }) (respond_panel horigin _ _)

end Service

/-- Settles O29: a request taken from the panel is queued or answered, and the one request queued is served by the sound stack. -/
theorem stackAccesses : Obligations.StackAccesses := by
  intro src k s f hk hsrc hdst horigin hruns t pc
  have hctl : (decide (1024 ≤ 1024 + k) && isStack (1024 + k - 1024)) = true := by simp [hk]
  have hserved : (isStack k && decide (pc < 64)) = true := by simp [hk, pc, pseudoChannel_lt]
  refine ⟨fun rest hfab hkind hgoal => ?_, fun hstate hup hone hsound => ⟨fun dr w x hread hheld hdrv hplace hx => ?_, fun hwrite => ?_,
    fun hread hheld => ?_⟩⟩
  · intro sleeps
    refine ⟨fun hawake hmem hstaged => ?_, fun hawake hmem hstaged dr hdr => ?_, fun h => ?_⟩
    · refine runs_of_lift (lift_of_onUnit hctl) (stackRequest_queues hsrc hdst hruns hfab hkind hgoal hawake hmem) ?_ ⟨rfl, ?_, fun j hj => ?_⟩
      · simp (disch := decide)
      · simp [hstaged, t]
      · exact stk_updStk_ne _ _ _ _ hj
    · refine runs_of_lift (lift_of_onUnit hctl) (stackRequest_queues hsrc hdst hruns hfab hkind hgoal hawake hmem) ?_ ⟨rfl, ?_, fun j hj => ?_⟩
      · simp (disch := decide)
      · simp [hstaged, hdr, t]
      · exact stk_updStk_ne _ _ _ _ hj
    · refine runs_of_lift (lift_of_onUnit hctl) (stackRequest_refuses hsrc hdst horigin hruns hfab hkind hgoal h) ?_ ⟨_, rfl, rfl, rfl, rfl, rfl, rfl⟩
      simp (disch := decide)
  · obtain ⟨n, hn⟩ := accessComplete_read hstate hruns hup hone horigin hsound hread hheld hdrv hplace hx
    refine ⟨_, (next_of_onUnitS hserved).trans (congrArg _ hn), rfl, rfl, ?_, ?_, _, rfl, rfl, rfl, hdst, rfl, rfl, rfl, rfl, rfl, rfl⟩
    · simp (disch := decide) [readOn, withoutRequests]
    · exact congrArg Stack.requests (stk_updStk_same s.body k fun t => { t with requests := [] })
  · obtain ⟨n, hn⟩ := accessComplete_write hstate hruns hup hone horigin hsound hwrite
    refine ⟨_, (next_of_onUnitS hserved).trans (congrArg _ hn), rfl, ?_, ⟨_, rfl, rfl, rfl, rfl, rfl⟩, fun a => ?_⟩
    · simp [withoutRequests]
    · refine (memGet_memStore _ _ _ _).trans ?_
      rcases f.payload[a - f.addr]? with _ | _ | x
      · exact ite_self _
      · exact ite_self _
      · rfl
  · have hnone : nextRequest s.body k pc = none := by rw [nextRequest_one hone, hread, hheld]; rfl
    exact runs_of_next (next_of_onUnitS hserved) (accessComplete_none hnone) (Only.refl _ _) rfl

end Sys2Proof.Machine

/-! SUPPORT. Errors of stored units, scrubbing and the upkeep of a stack (O30). -/

namespace Sys2Proof.Machine

/-! ## Decoding a unit with wrong symbols (R181) -/

theorem decodeUnit_corrected {stored : List Byte} {bad : List Nat} {fr : Nat} (h : bad ≠ []) (h2 : bad.length ≤ 2) :
    decodeUnit stored bad fr = ⟨some stored, bad⟩ := by
  unfold decodeUnit
  rw [if_neg (fun h0 => h (List.eq_nil_of_length_eq_zero h0)), if_pos h2]

theorem decodeUnit_lost {stored : List Byte} {bad : List Nat} {fr : Nat} (h : bad.length = 3) : decodeUnit stored bad fr = ⟨none, []⟩ := by
  unfold decodeUnit
  simp [h]

/-- Symbols that an upset can hit, each once, are left as they are. -/
def hits (ps : List Nat) : Prop := (ps.filter (· < 36)).eraseDups = ps

theorem eraseDups_of_nodup : ∀ {ps : List Nat}, ps.Nodup → ps.eraseDups = ps
  | [], _ => rfl
  | p :: ps, h => by
    obtain ⟨hp, hps⟩ := List.nodup_cons.mp h
    have hfilter : ps.filter (fun b => !b == p) = ps := List.filter_eq_self.mpr fun q hq => by
      simp only [Bool.not_eq_true', beq_eq_false_iff_ne]
      exact fun e => hp (e ▸ hq)
    rw [List.eraseDups_cons, hfilter, eraseDups_of_nodup hps]

theorem hits_of_nodup {ps : List Nat} (h : ps.Nodup) (hlt : ∀ p ∈ ps, p < 36) : hits ps := by
  rw [hits, List.filter_eq_self.mpr (by simpa using hlt), eraseDups_of_nodup h]

/-- A body in which these symbols of a stack unit are wrong. -/
def withBad (u : Nat) (ps : List Nat) (b : Body) : Body := { b with badStack := SMap.put b.badStack [] u ps }

theorem upsetUnit_sound {u : Nat} {ps : List Nat} {b : Body} (h : b.badStack = []) (hps : hits ps) (hne : ps ≠ []) : upsetUnit u ps b = withBad u ps b := by
  unfold upsetUnit withBad
  rw [if_neg hne, h]
  exact congrArg (fun l => { b with badStack := SMap.put [] [] u l }) hps

@[simp] theorem getF_withBad (u : Nat) (ps : List Nat) (b : Body) (f : Field) (j : Nat) : getF (withBad u ps b) f j = getF b f j := rfl

@[simp] theorem flagF_withBad (u : Nat) (ps : List Nat) (b : Body) (f : Field) (j : Nat) : flagF (withBad u ps b) f j = flagF b f j := rfl

@[simp] theorem get_withBad (u : Nat) (ps : List Nat) (b : Body) : SMap.get (withBad u ps b).badStack [] u = ps := SMap.get_put_same _ _ _ _

/-! ## Recording an error (R184) -/

theorem recordMemErr_only (k addr kind : Nat) (pos : List Nat) (b : Body) : Only [.regs] b (recordMemErr k addr kind pos b) := by
  unfold recordMemErr
  simp only
  split
  · simp (disch := decide)
  · split <;> simp (disch := decide)

theorem getF_recordMemErr_count (k addr kind : Nat) (pos : List Nat) (b : Body) :
    getF (recordMemErr k addr kind pos b) R.MEM_ERR_COUNT.corrected k = getF b R.MEM_ERR_COUNT.corrected k := by
  unfold recordMemErr
  simp only
  split
  · simp (disch := decide)
  · split <;> simp (disch := decide)

/-- A body that shows this error of a stack. -/
def showErr (k addr kind x y : Nat) (b : Body) : Body :=
  setF (setF (setF (setF (setF b R.MEM_ERR_INFO.pos0 k x) R.MEM_ERR_INFO.pos1 k y) R.MEM_ERR_INFO.kind k kind) R.MEM_ERR_INFO.valid k 1)
    R.MEM_ERR_ADDR.addr k addr

theorem recordMemErr_first {k addr kind : Nat} {pos : List Nat} {b : Body} (h : flagF b R.MEM_ERR_INFO.valid k = false) :
    recordMemErr k addr kind pos b = showErr k addr kind (pos.headD 0) (pos.getD 1 (pos.headD 0)) b := by
  unfold recordMemErr
  rw [h]
  rfl

theorem showErr_shows {k addr kind x y : Nat} {b : Body} (hkind : kind < 4) (hx : x < 64) (hy : y < 64) :
    let c := showErr k addr kind x y b
    flagF c R.MEM_ERR_INFO.valid k = true ∧ getF c R.MEM_ERR_INFO.kind k = kind ∧ getF c R.MEM_ERR_INFO.pos0 k = x
      ∧ getF c R.MEM_ERR_INFO.pos1 k = y ∧ getF c R.MEM_ERR_ADDR.addr k = addr % 2 ^ 48 := by
  refine ⟨?_, ?_, ?_, ?_, getF_setF_same _ _ _ _⟩
  · simp (disch := decide) [showErr, flagF]
  · simp (disch := decide) [showErr]
    exact Nat.mod_eq_of_lt hkind
  · simp (disch := decide) [showErr]
    exact Nat.mod_eq_of_lt hx
  · simp (disch := decide) [showErr]
    exact Nat.mod_eq_of_lt hy

/-! ## Reading a unit -/

theorem unitsOf_one (u : Nat) : unitsOf (u * 32) 32 = [u] := by
  have hcount : (u * 32 + 32 - 1) / 32 - u * 32 / 32 + 1 = 1 := by omega
  unfold unitsOf
  rw [if_neg (by decide), hcount, Nat.mul_div_cancel _ (by decide)]
  simp

theorem readStack_one (u : Nat) (s : State) {bs : List Byte} {b : Body} (h : readStackUnit u s = (some bs, { s with body := b })) (hlen : bs.length = 32) :
    readStack (u * 32) 32 s = ((bs, []), { s with body := withFree b (b.free + 1) }) := by
  unfold readStack
  simp only [unitsOf_one, readStackUnits, h]
  simp [hlen]
  rfl

theorem readStack_one_lost (u : Nat) (s : State) {b : Body} (h : readStackUnit u s = (none, { s with body := b })) :
    ∃ bs, readStack (u * 32) 32 s = ((bs, [u]), { s with body := withFree b (b.free + 1) }) := by
  unfold readStack
  simp only [unitsOf_one, readStackUnits, h]
  exact ⟨_, rfl⟩

section Unit

variable {u : Nat} {ps : List Nat} {s : State} (hbad : SMap.get s.body.badStack [] u = ps)
  (hvalid : flagF s.body R.MEM_ERR_INFO.valid (u * 32 / stackBytes) = false)
include hbad hvalid

/-- A body that has corrected a unit for a reader. -/
def correctedRead (u : Nat) (ps : List Nat) (b : Body) : Body :=
  let k := u * 32 / stackBytes
  showErr k (u * 32) 0 (ps.headD 0) (ps.getD 1 (ps.headD 0)) (addSat (withFree b (b.free + 4)) R.MEM_ERR_COUNT.corrected k 1)

theorem readStackUnit_corrected (h : ps ≠ []) (h2 : ps.length ≤ 2) :
    readStackUnit u s = (some (memBytes s.mem (u * 32) 32), { s with body := correctedRead u ps s.body }) := by
  unfold readStackUnit
  simp only [hbad, decodeUnit_corrected h h2, noteDecode, if_neg h]
  have hvalid' := (flagF_addSat_other (i := u * 32 / stackBytes) (b := withFree s.body (s.body.free + 4)) (f := R.MEM_ERR_COUNT.corrected) (u * 32 / stackBytes) 1
    (by decide) (by decide) (by decide)).trans hvalid
  exact congrArg (fun b => (some (memBytes s.mem (u * 32) 32), { s with body := b }))
    (recordMemErr_first hvalid')

/-- A body that has found a unit uncorrectable for a reader. -/
def lostRead (u : Nat) (b : Body) : Body :=
  let k := u * 32 / stackBytes
  report (.stackUnit k (u * 32) false) (showErr k (u * 32) 2 0 0 (addSat (withFree b (b.free + 4)) R.MEM_ERR_COUNT.uncorrectable k 1))

theorem readStackUnit_lost (h : ps.length = 3) : readStackUnit u s = (none, { s with body := lostRead u s.body }) := by
  unfold readStackUnit
  simp only [hbad, decodeUnit_lost h, noteDecode]
  have hvalid' := (flagF_addSat_other (i := u * 32 / stackBytes) (b := withFree s.body (s.body.free + 4)) (f := R.MEM_ERR_COUNT.uncorrectable) (u * 32 / stackBytes) 1
    (by decide) (by decide) (by decide)).trans hvalid
  exact congrArg (fun b => (none, { s with body := report (.stackUnit (u * 32 / stackBytes) (u * 32) false) b }))
    (recordMemErr_first hvalid')

end Unit

theorem placeOf_congr {b c : Body} (h : moduleIndex c = moduleIndex b) (a : Nat) : placeOf c a = placeOf b a := by
  unfold placeOf
  rw [h]

@[simp] theorem moduleIndex_correctedRead (u : Nat) (ps : List Nat) (b : Body) : moduleIndex (correctedRead u ps b) = moduleIndex b := by
  simp (disch := decide) [moduleIndex, correctedRead, showErr]

section Access

variable {u k : Nat} {ps : List Nat} {s : State} {f : Flit} (hstate : getF s.body R.MEM_STATUS.state k = 2)
  (hruns : s.body.stopped.contains (.controller k) = false) (hup : bit (getF s.body R.MEM_PC_UP.pc_up k) (pseudoChannel f.addr) = true)
  (hone : (stk s.body k).requests = [f]) (haddr : f.addr = u * 32) (hlen : f.len = 32) (hsound : s.body.badStack = [])
  (hheld : heldBySeal s.body f.addr 32 = false) (hhits : hits ps) (hne : ps ≠ [])
include hstate hruns hup hone haddr hlen hsound hheld hhits hne

theorem accessComplete_upset : accessComplete k (pseudoChannel f.addr) ps s
    = stackAccess f { s with body := withBad u ps (withoutRequests k s.body) } := by
  have hnext : nextRequest s.body k (pseudoChannel f.addr) = some f := by rw [nextRequest_one hone, hlen, hheld, Bool.and_false]; rfl
  rw [accessComplete_one hstate hruns hup hone ps hnext, haddr, Nat.mul_div_cancel _ (by decide), upsetUnit_sound (b := withoutRequests k s.body) hsound hhits hne]

variable (hk : u * 32 / stackBytes = k) (hread : f.isRead = true) (horigin : f.origin = none) (hvalid : flagF s.body R.MEM_ERR_INFO.valid k = false)
include hk hread horigin hvalid

theorem accessComplete_corrected {dr x : Nat} {v : WinAddr} (hdrv : f.drv = some dr)
    (hplace : placeOf s.body f.dest = some (.station (moduleIndex s.body) v)) (hx : physOf s.body v.die v.lst = some x) (h2 : ps.length ≤ 2) :
    ∃ n, accessComplete k (pseudoChannel f.addr) ps s = { s with
      body := readOn dr x v f (memBytes s.mem (u * 32) 32) (withFree (correctedRead u ps (withBad u ps (withoutRequests k s.body))) n) } := by
  have hunit := readStackUnit_corrected (s := { s with body := withBad u ps (withoutRequests k s.body) }) (u := u) (get_withBad _ _ _)
    (by rw [hk]; exact hvalid) hne h2
  have hbytes := readStack_one u _ hunit (by simp [memBytes])
  have hindex : moduleIndex (withFree (correctedRead u ps (withBad u ps (withoutRequests k s.body)))
      ((correctedRead u ps (withBad u ps (withoutRequests k s.body))).free + 1)) = moduleIndex s.body := moduleIndex_correctedRead _ _ _
  have hplace' := hplace
  rw [← hindex, ← placeOf_congr hindex] at hplace'
  refine ⟨(correctedRead u ps (withBad u ps (withoutRequests k s.body))).free + 1, ?_⟩
  rw [accessComplete_upset hstate hruns hup hone haddr hlen hsound hheld hhits hne]
  unfold stackAccess
  rw [if_pos hread, haddr, hlen, hbytes]
  exact congrArg (fun b => { s with body := b }) (returnRead_on _ horigin hdrv hplace' hx)

theorem accessComplete_lost (h : ps.length = 3) : ∃ n, accessComplete k (pseudoChannel f.addr) ps s
    = { s with body := sendFlit (errorFor f 2 (u * 32)) (withFree (lostRead u (withBad u ps (withoutRequests k s.body))) n) } := by
  have hunit := readStackUnit_lost (s := { s with body := withBad u ps (withoutRequests k s.body) }) (u := u) (get_withBad _ _ _)
    (by rw [hk]; exact hvalid) h
  obtain ⟨bs, hbytes⟩ := readStack_one_lost u _ hunit
  refine ⟨(lostRead u (withBad u ps (withoutRequests k s.body))).free + 1, ?_⟩
  rw [accessComplete_upset hstate hruns hup hone haddr hlen hsound hheld hhits hne]
  unfold stackAccess
  rw [if_pos hread, haddr, hlen, hbytes]
  simp only [onBody, respond_panel horigin, ownSys_panel horigin]

end Access

section Answers

variable {dr x n : Nat} {v : WinAddr} {f : Flit} {bs : List Byte} {b : Body}

@[simp] theorem getF_readOn (g : Field) (j : Nat) : getF (readOn dr x v f bs b) g j = getF b g j := rfl

@[simp] theorem flagF_readOn (g : Field) (j : Nat) : flagF (readOn dr x v f bs b) g j = flagF b g j := rfl

end Answers

/-- What a stack shows of an error (R184). -/
def shownErr (b : Body) (k kind x y addr : Nat) : Prop :=
  flagF b R.MEM_ERR_INFO.valid k = true ∧ getF b R.MEM_ERR_INFO.kind k = kind ∧ getF b R.MEM_ERR_INFO.pos0 k = x
    ∧ getF b R.MEM_ERR_INFO.pos1 k = y ∧ getF b R.MEM_ERR_ADDR.addr k = addr % 2 ^ 48

theorem getF_showErr_other {k addr kind x y : Nat} {b : Body} {g : Field} (hg : g.idx < 77) : getF (showErr k addr kind x y b) g k = getF b g k := by
  have h : ∀ f : Field, 77 ≤ f.idx → k * 1024 + g.idx ≠ k * 1024 + f.idx := fun f hf => by omega
  rw [showErr, getF_setF_ne _ _ _ _ _ _ (h _ (by decide)), getF_setF_ne _ _ _ _ _ _ (h _ (by decide)), getF_setF_ne _ _ _ _ _ _ (h _ (by decide)),
    getF_setF_ne _ _ _ _ _ _ (h _ (by decide)), getF_setF_ne _ _ _ _ _ _ (h _ (by decide))]

theorem lostRead_shows (u : Nat) (b : Body) : let k := u * 32 / stackBytes
    flagF (lostRead u b) R.MEM_ERR_INFO.valid k = true ∧ getF (lostRead u b) R.MEM_ERR_INFO.kind k = 2
      ∧ getF (lostRead u b) R.MEM_ERR_COUNT.uncorrectable k = min (getF b R.MEM_ERR_COUNT.uncorrectable k + 1) (2 ^ 8 - 1) := by
  intro k
  obtain ⟨hv, hkind, -⟩ := showErr_shows (k := k) (addr := u * 32) (kind := 2) (x := 0) (y := 0)
    (b := addSat (withFree b (b.free + 4)) R.MEM_ERR_COUNT.uncorrectable k 1) (by decide) (by decide) (by decide)
  unfold lostRead
  simp only [flagF_report, getF_report]
  exact ⟨hv, hkind, (getF_showErr_other (by decide)).trans (getF_addSat_same _ _ _ _)⟩

theorem lostRead_reports (u : Nat) (b : Body) : .stackUnit (u * 32 / stackBytes) (u * 32) false ∈ (lostRead u b).reports := by
  unfold lostRead
  exact List.mem_append_right _ (List.mem_singleton_self _)

section Accesses

variable {u k dr x : Nat} {ps : List Nat} {s : State} {f : Flit} {w : WinAddr} (hk : isStack k = true) (huk : u * 32 / stackBytes = k)
  (hstate : getF s.body R.MEM_STATUS.state k = 2) (hruns : s.body.stopped.contains (.controller k) = false)
  (hone : (stk s.body k).requests = [f]) (haddr : f.addr = u * 32) (hlen : f.len = 32) (hread : f.isRead = true) (horigin : f.origin = none)
  (hsound : s.body.badStack = []) (hheld : heldBySeal s.body f.addr 32 = false)
  (hup : bit (getF s.body R.MEM_PC_UP.pc_up k) (pseudoChannel f.addr) = true) (hvalid : flagF s.body R.MEM_ERR_INFO.valid k = false) (hhits : hits ps)
include hk huk hstate hruns hone haddr hlen hread horigin hsound hheld hup hvalid hhits

theorem stackAccess_corrected (hdrv : f.drv = some dr) (hplace : placeOf s.body f.dest = some (.station (moduleIndex s.body) w))
    (hx : physOf s.body w.die w.lst = some x) (hne : ps ≠ []) (h2 : ps.length ≤ 2) (hlt : ∀ p ∈ ps, p < 36) :
    RunsS (.stackAccessComplete k (pseudoChannel f.addr) ps) s (fun t => t.mem = s.mem
      ∧ shownErr t.body k 0 (ps.headD 0) (ps.getD 1 (ps.headD 0)) (u * 32)
      ∧ getF t.body R.MEM_ERR_COUNT.corrected k = min (getF s.body R.MEM_ERR_COUNT.corrected k + 1) (2 ^ 24 - 1)
      ∧ SMap.get t.body.badStack [] u = ps) := by
  have hserved : (isStack k && decide (pseudoChannel f.addr < 64)) = true := by simp [hk, pseudoChannel_lt]
  have hhead : ps.headD 0 < 64 := by cases ps <;> simp at hne hlt ⊢; omega
  have hsecond : ps.getD 1 (ps.headD 0) < 64 := by
    rcases ps with _ | ⟨p, _ | ⟨q, qs⟩⟩
    · exact absurd rfl hne
    · exact hhead
    · exact (hlt q (by simp)).trans (by decide)
  subst huk
  obtain ⟨n, hn⟩ := accessComplete_corrected hstate hruns hup hone haddr hlen hsound hheld hhits hne rfl hread horigin hvalid hdrv hplace hx h2
  refine ⟨_, (next_of_onUnitS hserved).trans (congrArg _ hn), rfl, rfl, showErr_shows (by decide) hhead hsecond, ?_, ?_⟩
  · exact (getF_showErr_other (by decide)).trans (getF_addSat_same _ _ _ _)
  · exact get_withBad u ps (withoutRequests (u * 32 / stackBytes) s.body)

theorem stackAccess_lost (h3 : ps.length = 3) : RunsS (.stackAccessComplete k (pseudoChannel f.addr) ps) s (fun t => t.mem = s.mem
    ∧ flagF t.body R.MEM_ERR_INFO.valid k = true ∧ getF t.body R.MEM_ERR_INFO.kind k = 2
    ∧ getF t.body R.MEM_ERR_COUNT.uncorrectable k = min (getF s.body R.MEM_ERR_COUNT.uncorrectable k + 1) (2 ^ 8 - 1)
    ∧ .stackUnit k (u * 32) false ∈ t.body.reports) := by
  have hserved : (isStack k && decide (pseudoChannel f.addr < 64)) = true := by simp [hk, pseudoChannel_lt]
  have hne : ps ≠ [] := fun h => by simp [h] at h3
  subst huk
  obtain ⟨n, hn⟩ := accessComplete_lost hstate hruns hup hone haddr hlen hsound hheld hhits hne rfl hread horigin hvalid h3
  obtain ⟨hv, hkind, hcount⟩ := lostRead_shows u (withBad u ps (withoutRequests (u * 32 / stackBytes) s.body))
  have hreports := lostRead_reports u (withBad u ps (withoutRequests (u * 32 / stackBytes) s.body))
  exact ⟨_, (next_of_onUnitS hserved).trans (congrArg _ hn), rfl, rfl, hv, hkind, hcount, hreports⟩

end Accesses

/-! ## Scrubbing a stack (R183, R185) -/

/-- A body with the progress of a scrub at this unit. -/
def scrubNote (u : Nat) (b : Body) : Body :=
  let k := u * 32 / stackBytes
  let ix := u % stackUnits
  let b := setF b R.MEM_SCRUB_STATUS.progress k (ix * 1000 / stackUnits)
  if ix + 1 = stackUnits then addSat (setF b R.MEM_SCRUB_STATUS.progress k 1000) R.MEM_SCRUB_STATUS.passes k 1 else b

section Note

variable {u : Nat} {b : Body}

theorem scrubNote_only : Only [.regs] b (scrubNote u b) := by
  unfold scrubNote
  simp only
  split <;> simp (disch := decide)

theorem scrubNote_regs : RegsBut [R.MEM_SCRUB_STATUS.progress, R.MEM_SCRUB_STATUS.passes] (u * 32 / stackBytes) b (scrubNote u b) := by
  unfold scrubNote
  simp only
  split <;> simp (disch := decide)

theorem scrubNote_progress : getF (scrubNote u b) R.MEM_SCRUB_STATUS.progress (u * 32 / stackBytes)
    = if u % stackUnits + 1 = stackUnits then 1000 else u % stackUnits * 1000 / stackUnits := by
  have hlt : u % stackUnits * 1000 / stackUnits < 2 ^ R.MEM_SCRUB_STATUS.progress.width := by
    have := Nat.mod_lt u (show stackUnits > 0 by decide)
    simp only [stackUnits, R.MEM_SCRUB_STATUS.progress] at this ⊢
    omega
  unfold scrubNote
  simp only
  split
  · rw [getF_addSat_other _ _ (by decide) (by decide) (by decide), getF_setF_fits (by decide)]
  · exact getF_setF_fits hlt

end Note

section Scrub

variable {u : Nat} {ps : List Nat} {s : State}

theorem stackScrub_off (h : flagF s.body R.MEM_CTRL.scrub_en (u * 32 / stackBytes) = false) : stackScrub u ps s = s := by
  unfold stackScrub
  simp only [h]
  rfl

variable (hon : flagF s.body R.MEM_CTRL.scrub_en (u * 32 / stackBytes) = true) (hready : ctlReady s.body (u * 32 / stackBytes) = true)
  (hsound : s.body.badStack = [])
include hon hready hsound

theorem stackScrub_sound : stackScrub u [] s = { s with body := scrubNote u (withFree s.body (s.body.free + 4)) } := by
  have hnone : upsetUnit u [] s.body = s.body := if_pos rfl
  have hd : ∀ st, decodeUnit st (SMap.get s.body.badStack [] u) s.body.free = ⟨some st, []⟩ := fun st => by rw [hsound]; rfl
  unfold stackScrub
  simp only [hon, hready, hnone, hd]
  rfl

/-- A body in which no symbol of a stack unit is wrong any more. -/
def withoutBad (u : Nat) (b : Body) : Body := { b with badStack := SMap.erase b.badStack u }

theorem stackScrub_corrects (hhits : hits ps) (hne : ps ≠ []) (h2 : ps.length ≤ 2) : stackScrub u ps s
    = { s with
        mem := memStore s.mem (u * 32) ((memBytes s.mem (u * 32) 32).map some)
        body := withoutBad u (scrubNote u (recordMemErr (u * 32 / stackBytes) (u * 32) 1 ps
          (addSat (withFree (withBad u ps s.body) (s.body.free + 4)) R.MEM_ERR_COUNT.corrected (u * 32 / stackBytes) 1))) } := by
  unfold stackScrub
  simp only [hon, hready, upsetUnit_sound hsound hhits hne, get_withBad, decodeUnit_corrected hne h2, noteDecode, if_neg hne]
  rfl

theorem stackScrub_loses (hhits : hits ps) (h3 : ps.length = 3) : stackScrub u ps s
    = { s with
        body := scrubNote u (report (.stackUnit (u * 32 / stackBytes) (u * 32) true) (recordMemErr (u * 32 / stackBytes) (u * 32) 3 []
          (addSat (withFree (withBad u ps s.body) (s.body.free + 4)) R.MEM_ERR_COUNT.uncorrectable (u * 32 / stackBytes) 1))) } := by
  have hne : ps ≠ [] := fun h => by simp [h] at h3
  unfold stackScrub
  simp only [hon, hready, upsetUnit_sound hsound hhits hne, get_withBad, decodeUnit_lost h3, noteDecode]
  rfl

end Scrub

theorem memGet_rewrite (m : List Host.Cell) (a n c : Nat) : memGet (memStore m a ((memBytes m a n).map some)) c = memGet m c := by
  rw [memGet_memStore]
  split
  · next h =>
    rcases Nat.lt_or_ge (c - a) n with hlt | hge
    · simp [memBytes, hlt, Nat.add_sub_cancel' h]
    · simp [memBytes, hge]
  · rfl

theorem scrub_unit {u : Nat} (h : isStack (u * 32 / stackBytes) = true) : decide (u < 12 * stackUnits) = true := by
  have h := of_decide_eq_true h
  refine decide_eq_true ?_
  simp only [stackBytes, stackUnits] at h ⊢
  omega

theorem stackScrub_runs {u p q r : Nat} {s : State} (hpq : p < q) (hqr : q < r) (hr : r < 36) (hk : isStack (u * 32 / stackBytes) = true)
    (hready : ctlReady s.body (u * 32 / stackBytes) = true) (hon : flagF s.body R.MEM_CTRL.scrub_en (u * 32 / stackBytes) = true)
    (hsound : s.body.badStack = []) : let k := u * 32 / stackBytes
    Runs (.stackScrubRead u []) s [.regs, .free] (fun b => getF b R.MEM_SCRUB_STATUS.progress k
        = (if u % stackUnits + 1 = stackUnits then 1000 else u % stackUnits * 1000 / stackUnits)
        ∧ RegsBut [R.MEM_SCRUB_STATUS.progress, R.MEM_SCRUB_STATUS.passes] k s.body b)
      ∧ RunsS (.stackScrubRead u [p, q]) s (fun t => (∀ a, memGet t.mem a = memGet s.mem a) ∧ SMap.get t.body.badStack [] u = []
        ∧ getF t.body R.MEM_ERR_COUNT.corrected k = min (getF s.body R.MEM_ERR_COUNT.corrected k + 1) (2 ^ 24 - 1))
      ∧ RunsS (.stackScrubRead u [p, q, r]) s (fun t => t.mem = s.mem ∧ SMap.get t.body.badStack [] u = [p, q, r]
        ∧ .stackUnit k (u * 32) true ∈ t.body.reports) := by
  have hunit : decide (u < 12 * stackUnits) = true := scrub_unit hk
  have hp2 : hits [p, q] := hits_of_nodup (by simp; omega) (by simp; omega)
  have hp3 : hits [p, q, r] := hits_of_nodup (by simp; omega) (by simp; omega)
  refine ⟨?_, ?_, ?_⟩
  · refine runs_of_next (next_of_onUnitS hunit) (stackScrub_sound hon hready hsound) ?_ ⟨scrubNote_progress, ?_⟩
    · exact ((only_withFree (by decide)).mpr (Only.refl _ _)).trans (scrubNote_only.mono (by decide))
    · exact scrubNote_regs (b := withFree s.body _)
  · refine ⟨_, (next_of_onUnitS hunit).trans (congrArg _ (stackScrub_corrects hon hready hsound hp2 (by simp) (by simp))), rfl,
      fun a => memGet_rewrite _ _ _ _, SMap.get_erase_same _ _ _, ?_⟩
    refine (scrubNote_regs _ _ (by decide) (.inr (by decide))).trans ?_
    rw [getF_recordMemErr_count]
    exact getF_addSat_same _ _ _ _
  · refine ⟨_, (next_of_onUnitS hunit).trans (congrArg _ (stackScrub_loses hon hready hsound hp3 (by simp))), rfl, rfl, ?_, ?_⟩
    · rw [(scrubNote_only .badStack).resolve_left (by decide), report, (recordMemErr_only _ _ _ _ _ .badStack).resolve_left (by decide)]
      exact get_withBad u [p, q, r] s.body
    · rw [(scrubNote_only .reports).resolve_left (by decide)]
      exact List.mem_append_right _ (List.mem_singleton_self _)

/-! ## Scrubbing a station (R182, R183) -/

theorem ofLeBytes_leBytes : ∀ n v : Nat, v < 256 ^ n → ofLeBytes (leBytes n v) = v
  | 0, v, h => by simp at h; simp [leBytes, ofLeBytes, h]
  | n + 1, v, h => by
    rw [pow_succ] at h
    rw [leBytes, ofLeBytes, ofLeBytes_leBytes n (v / 256) (by omega), BitVec.toNat_ofNat]
    omega

section StationScrub

variable {st v : Nat} {ps : List Nat} {b : Body}

/-- A body in which these symbols of a unit of a station's SRAM are wrong. -/
def withBadSram (st v : Nat) (ps : List Nat) (b : Body) : Body := updStn b st (fun t => { t with badSram := SMap.put t.badSram [] v ps })

/-- A body in which these symbols of a bundle's word are wrong. -/
def withBadIstore (st v : Nat) (ps : List Nat) (b : Body) : Body := updStn b st (fun t => { t with badIstore := SMap.put t.badIstore [] v ps })

theorem get_withBadSram : SMap.get (stn (withBadSram st v ps b) st).badSram [] v = ps := by
  rw [withBadSram, stn_updStn_same]
  exact SMap.get_put_same _ _ _ _

theorem get_withBadIstore : SMap.get (stn (withBadIstore st v ps b) st).badIstore [] v = ps := by
  rw [withBadIstore, stn_updStn_same]
  exact SMap.get_put_same _ _ _ _

theorem readSramUnit_corrected (hbad : SMap.get (stn b st).badSram [] v = ps) (hne : ps ≠ []) (h2 : ps.length ≤ 2) :
    (readSramUnit b st v).2 = updStn (setF (addSat (withFree b (b.free + 4)) R.STN_SRAM_CORR.corrected st 1) R.STN_SRAM_CORR.last_bank st (v % 32)) st
      (fun t => { t with writeBack := SMap.put t.writeBack [] v (bytesAt (stn b st).sram (v * 32) 32) }) := by
  unfold readSramUnit
  simp only [hbad, decodeUnit_corrected hne h2, if_neg hne]
  rfl

theorem readSramUnit_lost (hbad : SMap.get (stn b st).badSram [] v = ps) (h3 : ps.length = 3) :
    (readSramUnit b st v).2 = report (.stationFault st) (setFlag (withFree b (b.free + 4)) R.STN_FAULT.sram_uncorrectable st true) := by
  unfold readSramUnit
  simp only [hbad, decodeUnit_lost h3]
  rfl

section Clocked

variable (hclk : clocked b st = true) (hhits : hits ps)
include hclk hhits

theorem stationScrub_sram (h : SMap.get (stn b st).badSram [] v = []) :
    stationScrub st false v ps b = (readSramUnit (withBadSram st v ps b) st v).2 := by
  have hps : (SMap.get (stn b st).badSram [] v ++ ps.filter (· < 36)).eraseDups = ps := by rw [h]; exact hhits
  unfold stationScrub withBadSram updStn
  simp only [hclk, hps]
  rfl

theorem stationScrub_istore (h : SMap.get (stn b st).badIstore [] v = []) (hne : ps ≠ []) (h2 : ps.length ≤ 2) :
    stationScrub st true v ps b = (let c := withBadIstore st v ps b
      addSat (updStn (withFree c (c.free + 4)) st (fun t => { t with
        istore := SMap.put t.istore 0 v (SMap.get (stn c st).istore 0 v), badIstore := SMap.erase t.badIstore v })) R.STN_SRAM_CORR.corrected st 1) := by
  have hps : (SMap.get (stn b st).badIstore [] v ++ ps.filter (· < 36)).eraseDups = ps := by rw [h]; exact hhits
  have hsame : updStn b st (fun t => { t with
      badIstore := SMap.put t.badIstore [] v (SMap.get t.badIstore [] v ++ ps.filter (· < 36)).eraseDups }) = withBadIstore st v ps b := by
    unfold withBadIstore updStn
    simp only [hps]
  have hword : ∀ x : BitVec 256, BitVec.ofNat 256 (ofLeBytes (leBytes 32 x.toNat)) = x := fun x => by
    rw [ofLeBytes_leBytes 32 _ x.isLt]
    simp
  unfold stationScrub
  simp only [hclk, hsame, get_withBadIstore, decodeUnit_corrected hne h2, if_neg hne, hword]
  rfl

end Clocked

theorem writeBackDone_writes {bs : List Byte} (hclk : clocked b st = true) (h : SMap.get (stn b st).writeBack [] v = bs) (hne : bs ≠ []) : writeBackDone st v b
    = updStn b st (fun t => { t with sram := storeBytes t.sram (v * 32) (bs.map some), badSram := SMap.erase t.badSram v
                                     writeBack := SMap.erase t.writeBack v }) := by
  unfold writeBackDone
  simp [h, hne, hclk]

end StationScrub

theorem stationScrub_runs {st v p q r : Nat} {s : State} (hpq : p < q) (hqr : q < r) (hr : r < 36) (hst : isStation st = true)
    (hclk : clocked s.body st = true) (hv : v < 196608) : let x := stn s.body st
    (SMap.get x.badSram [] v = [] → Runs (.sramScrubRead st false v [p, q]) s [.stations, .regs, .free] (fun b =>
        SMap.get (stn b st).writeBack [] v = bytesAt x.sram (v * 32) 32 ∧ (stn b st).sram = x.sram
        ∧ getF b R.STN_SRAM_CORR.corrected st = min (getF s.body R.STN_SRAM_CORR.corrected st + 1) (2 ^ R.STN_SRAM_CORR.corrected.width - 1)
        ∧ getF b R.STN_SRAM_CORR.last_bank st = v % 32 ∧ RegsBut [R.STN_SRAM_CORR.corrected, R.STN_SRAM_CORR.last_bank] st s.body b))
      ∧ (SMap.get x.badSram [] v = [] → Runs (.sramScrubRead st false v [p, q, r]) s [.stations, .regs, .free, .reports] (fun b =>
        flagF b R.STN_FAULT.sram_uncorrectable st = true ∧ (stn b st).sram = x.sram
          ∧ b.reports = s.body.reports ++ [.stationFault st] ∧ RegsBut [R.STN_FAULT.sram_uncorrectable] st s.body b))
      ∧ (v < 4096 → SMap.get x.badIstore [] v = [] → Runs (.sramScrubRead st true v [p, q]) s [.stations, .regs, .free] (fun b =>
        SMap.get (stn b st).badIstore [] v = [] ∧ (∀ j, SMap.get (stn b st).istore 0 j = SMap.get x.istore 0 j)
          ∧ getF b R.STN_SRAM_CORR.corrected st = min (getF s.body R.STN_SRAM_CORR.corrected st + 1) (2 ^ R.STN_SRAM_CORR.corrected.width - 1)))
      ∧ (∀ bs, SMap.get x.writeBack [] v = bs → bs.length = 32 → Runs (.sramCorrectionWriteback st v) s [.stations] (fun b =>
        SMap.get (stn b st).badSram [] v = [] ∧ SMap.get (stn b st).writeBack [] v = []
          ∧ (∀ i, SMap.get (stn b st).sram 0 i = (if v * 32 ≤ i ∧ i < v * 32 + 32 then bs.getD (i - v * 32) 0 else SMap.get x.sram 0 i))
          ∧ ∀ y, y ≠ st → stn b y = stn s.body y)) := by
  intro x
  have hp2 : hits [p, q] := hits_of_nodup (by simp; omega) (by simp; omega)
  have hp3 : hits [p, q, r] := hits_of_nodup (by simp; omega) (by simp; omega)
  have hsram : (isStation st && decide (v < if false = true then 4096 else 196608)) = true := by simp [hst, hv]
  refine ⟨fun h => ?_, fun h => ?_, fun hv' h => ?_, fun bs h hlen => ?_⟩
  · refine runs_of_lift (lift_of_onUnit hsram) ((stationScrub_sram hclk hp2 h).trans (readSramUnit_corrected get_withBadSram (by simp) (by simp))) ?_
      ⟨?_, ?_, ?_, ?_, ?_⟩
    · simp (disch := decide) [withBadSram]
    · simp [withBadSram, x]
    · simp [withBadSram, x]
    · simp (disch := decide) [-getF_setF_same, withBadSram]
      exact getF_addSat_same _ _ _ _
    · exact getF_setF_fits (Nat.mod_lt _ (by decide))
    · simp (disch := decide) [withBadSram]
  · refine runs_of_lift (lift_of_onUnit hsram) ((stationScrub_sram hclk hp3 h).trans (readSramUnit_lost get_withBadSram (by simp))) ?_
      ⟨?_, ?_, rfl, ?_⟩
    · simp (disch := decide) [withBadSram]
    · simp (disch := decide)
    · simp [withBadSram, x]
    · simp (disch := decide) [withBadSram]
  · refine runs_of_lift (lift_of_onUnit (by simp [hst, hv'])) (stationScrub_istore hclk hp2 h (by simp) (by simp)) ?_ ⟨?_, fun j => ?_, ?_⟩
    · simp (disch := decide) [withBadIstore]
    · simp [SMap.get_erase]
    · simp only [SMap.get_put, withBadIstore, stn_addSat, stn_updStn_same, stn_withFree]
      split
      · next h => rw [h]
      · rfl
    · exact getF_addSat_same _ _ _ _
  · have hne : bs ≠ [] := fun h0 => by simp [h0] at hlen
    refine runs_of_lift (lift_of_onUnit hst) (writeBackDone_writes hclk h hne) ?_ ⟨?_, ?_, fun i => ?_, fun y hy => stn_updStn_ne _ _ _ _ hy⟩
    · simp (disch := decide)
    · simp [SMap.get_erase]
    · simp [SMap.get_erase]
    · rw [stn_updStn_same]
      refine (get_storeBytes _ _ _ _).trans ?_
      by_cases hle : v * 32 ≤ i
      · rcases Nat.lt_or_ge (i - v * 32) bs.length with hlt | hge
        · rw [if_pos hle, if_pos ⟨hle, by omega⟩]
          simp [hlt]
        · rw [if_pos hle, if_neg (by omega)]
          simp [hge, x]
      · rw [if_neg hle, if_neg fun h => hle h.1]

/-! ## The upkeep of a stack (R177, R178, R649) -/

section Upkeep

variable {k pc : Nat} {b : Body}

theorem recalibrate_idle (h : ∀ f ∈ (stk b k).requests, pseudoChannel f.addr ≠ pc) (hnew : pc ∉ (stk b k).recalibrating) :
    recalibrate k pc b = updStk b k (fun t => { t with recalibrating := t.recalibrating ++ [pc] }) := by
  have hidle : (stk b k).requests.any (fun f => pseudoChannel f.addr == pc) = false := by simpa using h
  have hcontains : (stk b k).recalibrating.contains pc = false := by simpa using hnew
  unfold recalibrate updStk
  simp only [hidle, hcontains]
  rfl

theorem recalibrate_busy {f : Flit} (hf : f ∈ (stk b k).requests) (hpc : pseudoChannel f.addr = pc) :
    recalibrate k pc b = updStk b k (fun t => t) := by
  have hbusy : (stk b k).requests.any (fun f => pseudoChannel f.addr == pc) = true := by simpa using ⟨f, hf, hpc⟩
  unfold recalibrate updStk
  simp only [hbusy]
  rfl

theorem enterSelfRefresh_enters (hask : flagF b R.MEM_CTRL.self_refresh k = true) (hreq : (stk b k).requests = []) (hstaged : (stk b k).staged = [])
    (hready : ctlReady b k = true) : enterSelfRefresh k b = setF b R.MEM_STATUS.state k 3 := by
  unfold enterSelfRefresh
  rw [hask, hreq, hstaged, hready]
  rfl

theorem noteStacks_only (b : Body) : Only [.regs] b (noteStacks b) := by
  unfold noteStacks stepDone
  split <;> simp (disch := decide)

theorem noteStacks_regs (b : Body) : RegsBut [R.SHP_STARTUP.done] 0 b (noteStacks b) := by
  unfold noteStacks stepDone
  split <;> simp (disch := decide)

theorem getF_noteStacks {b : Body} {g : Field} {j : Nat} (hg : g.idx < 641) : getF (noteStacks b) g j = getF b g j :=
  noteStacks_regs b g j (by omega) (.inr (by simp [R.SHP_STARTUP.done]; omega))

theorem trainingDone_ready (b : Body) : trainingDone k (2 ^ 64 - 1) true b
    = noteStacks (setF (setF b R.MEM_PC_UP.pc_up k (2 ^ 64 - 1)) R.MEM_STATUS.state k 2) := by
  have hup : getF (setF b R.MEM_PC_UP.pc_up k (2 ^ 64 - 1)) R.MEM_PC_UP.pc_up k = 2 ^ 64 - 1 := getF_setF_fits (by decide)
  unfold trainingDone
  simp only [hup]
  rfl

/-- A body that notes a stack lost in start-up, while step 8 is not done. -/
def noteStartLoss (b : Body) : Body :=
  if stepIsDone b 8 then b else { b with cox := { b.cox with path := { b.cox.path with startLoss := true } } }

theorem noteStartLoss_only (b : Body) : Only [.cox] b (noteStartLoss b) := by
  unfold noteStartLoss
  split
  · exact Only.refl _ _
  · intro p
    cases p <;> first | exact .inl (by decide) | exact .inr rfl

theorem getF_noteStartLoss (b : Body) (g : Field) (j : Nat) : getF (noteStartLoss b) g j = getF b g j := by
  unfold noteStartLoss
  split <;> rfl

theorem trainingDone_loses {pcUp : Nat} {pass : Bool} (hup : pcUp < 2 ^ 64) (h : pass = false ∨ pcUp ≠ 2 ^ 64 - 1) (b : Body) :
    trainingDone k pcUp pass b
      = noteStacks (report (.stackLoss k) (setF (noteStartLoss (setF b R.MEM_PC_UP.pc_up k pcUp)) R.MEM_STATUS.state k 4)) := by
  have hread : getF (setF b R.MEM_PC_UP.pc_up k pcUp) R.MEM_PC_UP.pc_up k = pcUp := getF_setF_fits hup
  have hno : (pass && pcUp == 2 ^ 64 - 1) = false := by
    rcases h with h | h
    · rw [h, Bool.false_and]
    · rw [beq_eq_false_iff_ne.mpr h, Bool.and_false]
  unfold trainingDone
  simp only [hread, hno]
  rfl

end Upkeep

section Commands

variable {k pc : Nat} {s : State} (hk : isStack k = true)
include hk

theorem stackTrainingComplete_fails {pcUp : Nat} {pass : Bool} (hup : pcUp < 2 ^ 64) (h : pass = false ∨ pcUp ≠ 2 ^ 64 - 1) :
    Runs (.stackTrainingComplete k pcUp pass) s [.regs, .cox, .reports] (fun b =>
      getF b R.MEM_STATUS.state k = 4 ∧ getF b R.MEM_PC_UP.pc_up k = pcUp ∧ b.reports = s.body.reports ++ [.stackLoss k]) := by
  have honly := noteStartLoss_only (setF s.body R.MEM_PC_UP.pc_up k pcUp)
  refine runs_of_lift (lift_of_onUnit hk) (trainingDone_loses hup h _) ?_ ⟨?_, ?_, ?_⟩
  · refine Only.trans ?_ ((noteStacks_only _).mono (by decide))
    simp (disch := decide)
    refine Only.trans ?_ (honly.mono (by decide))
    simp (disch := decide)
  · rw [getF_noteStacks (by decide), getF_report]
    exact getF_setF_fits (by decide)
  · rw [getF_noteStacks (by decide), getF_report, getF_setF_other _ _ (by decide) (by decide) (by decide), getF_noteStartLoss]
    exact getF_setF_fits hup
  · rw [(noteStacks_only _ .reports).resolve_left (by decide)]
    exact congrArg (· ++ _) ((honly .reports).resolve_left (by decide))

theorem stackLoss_runs (hpc : pc < 64) : Runs (.stackLoss k pc) s [.regs, .reports] (fun b => getF b R.MEM_STATUS.state k = 4
    ∧ bit (getF b R.MEM_PC_UP.pc_up k) pc = false
    ∧ (∀ i, i < 64 → i ≠ pc → bit (getF b R.MEM_PC_UP.pc_up k) i = bit (getF s.body R.MEM_PC_UP.pc_up k) i)
    ∧ b.reports = s.body.reports ++ [.stackLoss k] ∧ RegsBut [R.MEM_STATUS.state, R.MEM_PC_UP.pc_up] k s.body b) := by
  have hup : ∀ i, i < 64 → bit (getF (stackLost k pc s.body) R.MEM_PC_UP.pc_up k) i = if i = pc then false else bit (getF s.body R.MEM_PC_UP.pc_up k) i := by
    intro i hi
    rw [stackLost, getF_report, getF_setF_other _ _ (by decide) (by decide) (by decide), getF_setF_same,
      bit_mod_two_pow (n := R.MEM_PC_UP.pc_up.width) _ hi, bit_setBit]
  refine runs_of_lift (lift_of_onUnit (by simp [hk, hpc])) rfl ?_ ⟨?_, ?_, fun i hi hne => ?_, rfl, ?_⟩
  · simp (disch := decide) [stackLost]
  · rw [stackLost, getF_report]
    exact getF_setF_fits (by decide)
  · rw [hup _ hpc, if_pos rfl]
  · rw [hup _ hi, if_neg hne]
  · simp (disch := decide) [stackLost]

end Commands

/-- Settles O30: errors by the number of wrong symbols, each step of the upkeep by its own lemma. -/
theorem storedErrorsAndUpkeep : Obligations.StoredErrorsAndUpkeep := by
  refine ⟨fun k u p q r s hk huk hpq hqr hr hstate hruns => ?_, fun k pc s hk hpc => ?_⟩
  · have hready : ctlReady s.body k = true := by rw [ctlReady, hstate, hruns]; rfl
    refine ⟨fun f dr x w hone haddr hlen hread horigin hdrv hplace hx hsound hheld hup hvalid => ?_, fun hoff up => ?_, fun hon hsound => ?_,
      fun st v hst hclk hv => stationScrub_runs hpq hqr hr hst hclk hv⟩
    · have hp1 : hits [p] := hits_of_nodup (by simp) (by simp; omega)
      have hp2 : hits [p, q] := hits_of_nodup (by simp; omega) (by simp; omega)
      have hp3 : hits [p, q, r] := hits_of_nodup (by simp; omega) (by simp; omega)
      obtain ⟨t, hx2, hpend, hmem, hshown, hcount, -⟩ := stackAccess_corrected hk huk hstate hruns hone haddr hlen hread horigin hsound hheld hup hvalid hp2
        hdrv hplace hx (by simp) (by simp) (by simp; omega)
      refine ⟨?_, ⟨t, hx2, hpend, hmem, hshown, hcount⟩, ?_⟩
      · exact stackAccess_corrected hk huk hstate hruns hone haddr hlen hread horigin hsound hheld hup hvalid hp1 hdrv hplace hx (by simp) (by simp)
          (by simp; omega)
      · exact stackAccess_lost hk huk hstate hruns hone haddr hlen hread horigin hsound hheld hup hvalid hp3 (by simp)
    · subst huk
      exact runs_of_next (next_of_onUnitS (scrub_unit hk)) (stackScrub_off hoff) (Only.refl _ _) rfl
    · subst huk
      exact stackScrub_runs hpq hqr hr hk hready hon hsound
  · intro t
    refine ⟨fun bank hbank => runs_same (lift_of_onUnit (by simp [hk, hbank])) rfl, fun h hnew => ?_, fun f hf hchan => ?_,
      fun hask hreq hstaged hready => ?_, ?_, fun pcUp pass hup h => stackTrainingComplete_fails hk hup h, stackLoss_runs hk hpc⟩
    · refine runs_of_lift (lift_of_onUnit (by simp [hk, hpc])) (recalibrate_idle h hnew) ?_ ⟨?_, fun j hj => stk_updStk_ne _ _ _ _ hj⟩
      · simp (disch := decide)
      · simp [t]
    · refine runs_of_lift (lift_of_onUnit (by simp [hk, hpc])) (recalibrate_busy hf hchan) ?_ (fun j => ?_)
      · simp (disch := decide)
      · by_cases hj : j = k
        · rw [hj, stk_updStk_same]
        · exact stk_updStk_ne _ _ _ _ hj
    · refine runs_of_lift (lift_of_onUnit hk) (enterSelfRefresh_enters hask hreq hstaged hready) ?_ ⟨getF_setF_fits (by decide), ?_⟩
      · simp (disch := decide)
      · simp (disch := decide)
    · refine runs_of_lift (lift_of_onUnit hk) (trainingDone_ready _) ?_ ⟨?_, ?_⟩
      · refine Only.trans ?_ (noteStacks_only _)
        simp (disch := decide)
      · rw [getF_noteStacks (by decide)]
        exact getF_setF_fits (by decide)
      · rw [getF_noteStacks (by decide), getF_setF_other _ _ (by decide) (by decide) (by decide)]
        exact getF_setF_fits (by decide)

end Sys2Proof.Machine

/-! SUPPORT. Register accesses by address and BAR2 accesses (O31). -/

namespace Sys2Proof.Machine

/-! ## The registers of the statement (R10, R168, R206, R209) -/

def scrubCfg : RegSpec := ⟨R.MEM_SCRUB_CFG, .mem, 48, 1, 0, false, [⟨R.MEM_SCRUB_CFG.period_h, 0, .rw, fun _ => 12, false, 1, 72⟩]⟩

def corrected : FieldSpec := ⟨R.MEM_ERR_COUNT.corrected, 0, .rc, fun _ => 0, false, 0, 16777215⟩

def uncorrectable : FieldSpec := ⟨R.MEM_ERR_COUNT.uncorrectable, 24, .rc, fun _ => 0, false, 0, 255⟩

def errCount : RegSpec := ⟨R.MEM_ERR_COUNT, .mem, 24, 1, 0, false, [corrected, uncorrectable]⟩

def irqMask : RegSpec := ⟨R.IRQ_MASK, .irq, 8, 1, 0, true, [⟨R.IRQ_MASK.mask, 0, .rw, fun _ => 1073741823, true, 0, 1073741823⟩]⟩

theorem regAt_scrubCfg : regAt .mem 48 = some (scrubCfg, 0, false) := rfl

theorem regAt_errCount : regAt .mem 24 = some (errCount, 0, false) := rfl

theorem regAt_irqMask : regAt .irq 8 = some (irqMask, 0, false) := rfl

theorem regSpec_scrubCfg : regSpec R.MEM_SCRUB_CFG = some scrubCfg := rfl

theorem regSpec_errCount : regSpec R.MEM_ERR_COUNT = some errCount := rfl

theorem regSpec_irqMask : regSpec R.IRQ_MASK = some irqMask := rfl

/-! ## Accesses of one word (R13) -/

section Word

variable {spot : Nat → Spot} {gate : Spot → (Body → Body) → Body → Body} {a : Nat} {data : List Byte} (ha : a % 4 = 0)
include ha

theorem writeAt_reg {blk : Block} {inst off : Nat} (hspot : spot a = .reg blk inst off) (hlen : data.length = 4) (b : Body) :
    writeAt spot gate a data b = gate (.reg blk inst off) (writeRegAt blk inst off data) b := by
  have hcount : (a + 4 + 3) / 4 - a / 4 = 1 := by omega
  have hone : ¬ (a + 4 ≤ a) := by omega
  have hwide : ¬ (a + 8 ≤ a + 4) := by omega
  have hall : data.take 4 = data := List.take_of_length_le (by omega)
  unfold writeAt
  rw [hlen, hcount, ha, Nat.sub_zero]
  simp [writeWords, hlen, hone, hwide, hspot, bslice, hall]

theorem writeAt_spot {sp : Spot} (hspot : spot a = sp) (hreg : ∀ blk inst off, sp ≠ .reg blk inst off) (hlen : data.length = 4) (b : Body) :
    writeAt spot gate a data b = gate sp (writeSpot sp data) b := by
  have hcount : (a + 4 + 3) / 4 - a / 4 = 1 := by omega
  have hone : ¬ (a + 4 ≤ a) := by omega
  have hwide : ¬ (a + 8 ≤ a + 4) := by omega
  have hall : data.take 4 = data := List.take_of_length_le (by omega)
  unfold writeAt
  rw [hlen, hcount, ha, Nat.sub_zero]
  cases sp with
  | reg blk inst off => exact absurd rfl (hreg blk inst off)
  | _ => simp [writeWords, hlen, hone, hwide, hspot, bslice, hall]

/-- A write narrower than a word is discarded. -/
theorem writeAt_narrow (hlen : data.length < 4) (b : Body) : writeAt spot gate a data b = b := by
  unfold writeAt
  rw [ha, Nat.sub_zero]
  rcases Nat.eq_zero_or_pos data.length with h | h
  · rw [h, show (a + 0 + 3) / 4 - a / 4 = 0 by omega]
    rfl
  · rw [show (a + data.length + 3) / 4 - a / 4 = 1 by omega]
    simp [writeWords, hlen]

theorem readAt_word (b : Body) : readAt spot a 4 b = (match spot a with
    | .reg blk inst off => ((readSpot (.reg blk inst off) false b).1.take 4, (readSpot (.reg blk inst off) false b).2)
    | sp => ((readSpot sp false b).1.take 4, (readSpot sp false b).2)) := by
  unfold readAt
  rw [ha, Nat.sub_zero, show (a + 4 + 3) / 4 - a / 4 = 1 by omega]
  simp only [readWords, max_self, min_self, Nat.add_sub_cancel_left, Nat.sub_self, bslice, List.append_nil, List.drop_zero]
  cases spot a <;> rfl

end Word

/-! ## What a register takes -/

theorem land_word {v w n : Nat} (hv : v < 2 ^ w) (hw : w ≤ n) : v.land (2 ^ n - 1) = v := by
  have hlt : v < 2 ^ n := hv.trans_le (Nat.pow_le_pow_right (by decide) hw)
  exact (Nat.and_two_pow_sub_one_eq_mod v n).trans (Nat.mod_eq_of_lt hlt)

/-- The low word of a block's register whose first word it is. -/
theorem writeRegAt_low {blk : Block} {inst off v : Nat} {r : RegSpec} (hr : regAt blk off = some (r, 0, false)) (hcount : r.count = 1) (hv : v < 2 ^ 32)
    (b : Body) : writeRegAt blk inst off (leBytes 4 v) b = writeReg r inst v (2 ^ 32 - 1) b := by
  have hbytes : ofLeBytes (leBytes 4 v) = v := ofLeBytes_leBytes 4 v hv
  have hlen : (leBytes 4 v).length = 4 := rfl
  unfold writeRegAt
  rw [hr]
  simp [hbytes, hlen, hcount]

section ScrubCfg

variable {k v : Nat} {b : Body}

theorem regWord_scrubCfg : regWord b R.MEM_SCRUB_CFG k = getF b R.MEM_SCRUB_CFG.period_h k % 2 ^ 8 := by
  unfold regWord
  rw [regSpec_scrubCfg]
  exact (Nat.zero_add _).trans (Nat.mul_one _)

theorem writeReg_scrubCfg (v : Nat) : writeReg scrubCfg k v (2 ^ 32 - 1) b
    = writeField scrubCfg k v v (2 ^ 32 - 1) ⟨R.MEM_SCRUB_CFG.period_h, 0, .rw, fun _ => 12, false, 1, 72⟩ b := by
  have hfull : regWord b R.MEM_SCRUB_CFG k - (regWord b R.MEM_SCRUB_CFG k).land (2 ^ 32 - 1) + v = v := by
    rw [regWord_scrubCfg, land_word (w := 8) (Nat.mod_lt _ (by decide)) (by decide), Nat.sub_self, Nat.zero_add]
  have huses : coxUses b scrubCfg k = true := rfl
  unfold writeReg
  simp only [show scrubCfg.reg = R.MEM_SCRUB_CFG from rfl, hfull, huses]
  rfl

theorem writeReg_scrubCfg_legal (h1 : 1 ≤ v) (h72 : v ≤ 72) :
    writeReg scrubCfg k v (2 ^ 32 - 1) b = if getF b R.MEM_SCRUB_CFG.period_h k = v then b else setF b R.MEM_SCRUB_CFG.period_h k v := by
  have hv : bits v 0 8 = v := by simp [bits]; omega
  rw [writeReg_scrubCfg]
  unfold writeField
  simp only [show R.MEM_SCRUB_CFG.period_h.width = 8 from rfl, hv]
  rw [if_neg (by decide), if_pos ⟨h1, h72, rfl⟩]
  rfl

theorem writeReg_scrubCfg_illegal (h : 72 < v % 256 ∨ v % 256 = 0) : writeReg scrubCfg k v (2 ^ 32 - 1) b = b := by
  have hv : bits v 0 8 = v % 256 := by simp [bits]
  rw [writeReg_scrubCfg]
  unfold writeField
  simp only [show R.MEM_SCRUB_CFG.period_h.width = 8 from rfl, hv]
  rw [if_neg (by decide), if_neg (by omega)]

end ScrubCfg

section IrqMask

variable {v : Nat} {b : Body}

theorem maskWrite_quiet (hcause : getF b R.IRQ_CAUSE.cause 0 = 0) (v : Nat) : maskWrite v b = setF b R.IRQ_MASK.mask 0 v := by
  have hquiet : getF (setF b R.IRQ_MASK.mask 0 v) R.IRQ_CAUSE.cause 0 = 0 := by
    rw [getF_setF_other _ _ (by decide) (by decide) (by decide), hcause]
  unfold maskWrite
  exact forEach_eq_self fun x _ => if_neg fun h => by
    rw [hquiet] at h
    simp [bit] at h

theorem regWord_irqMask : regWord b R.IRQ_MASK 0 = getF b R.IRQ_MASK.mask 0 % 2 ^ 30 := by
  unfold regWord
  rw [regSpec_irqMask]
  exact (Nat.zero_add _).trans (Nat.mul_one _)

theorem writeReg_irqMask (hv : v < 2 ^ 30) (hcause : getF b R.IRQ_CAUSE.cause 0 = 0) :
    writeReg irqMask 0 v (2 ^ 32 - 1) b = setF b R.IRQ_MASK.mask 0 v := by
  have hfull : regWord b R.IRQ_MASK 0 - (regWord b R.IRQ_MASK 0).land (2 ^ 32 - 1) + v = v := by
    rw [regWord_irqMask, land_word (w := 30) (Nat.mod_lt _ (by decide)) (by decide), Nat.sub_self, Nat.zero_add]
  have huses : coxUses b irqMask 0 = true := rfl
  have hmask : maskWrite (v % 2 ^ 30) b = setF b R.IRQ_MASK.mask 0 v := by rw [Nat.mod_eq_of_lt hv, maskWrite_quiet hcause]
  have hfields : forEach irqMask.fields (writeField irqMask 0 v v (2 ^ 32 - 1)) b = b := rfl
  have hany : irqMask.fields.any (fun f => f.ownRow && bits (2 ^ 32 - 1) f.lo f.field.width != 0) = true := by decide
  have hlow : ownWriteLow R.IRQ_MASK 0 v v b = b := rfl
  have hpower : ownWritePower R.IRQ_MASK 0 v v b = b := rfl
  have hhost : ownWriteHost R.IRQ_MASK 0 v v b = maskWrite (v % 2 ^ 30) b := rfl
  unfold writeReg
  simp only [show irqMask.reg = R.IRQ_MASK from rfl, hfull, huses, hfields, hany, hlow, hpower, hhost, hmask]
  rfl

end IrqMask

theorem regWord_two {reg i : Nat} {b : Body} {r : RegSpec} {f g : FieldSpec} (hr : regSpec reg = some r) (hfields : r.fields = [f, g])
    (hf : f.acc ≠ .wo) (hg : g.acc ≠ .wo) : regWord b reg i
      = fieldView b f.field i % 2 ^ f.field.width * 2 ^ f.lo + fieldView b g.field i % 2 ^ g.field.width * 2 ^ g.lo := by
  unfold regWord
  rw [hr]
  simp [hfields, hf, hg]

section ErrCount

variable {k c u : Nat} {b : Body} (hc : getF b R.MEM_ERR_COUNT.corrected k = c) (hu : getF b R.MEM_ERR_COUNT.uncorrectable k = u)
  (hc24 : c < 2 ^ 24) (hu8 : u < 2 ^ 8)
include hc hu hc24 hu8

theorem regWord_errCount : regWord b R.MEM_ERR_COUNT k = c + u * 2 ^ 24 := by
  have hone : fieldView b corrected.field k = c := hc
  have htwo : fieldView b uncorrectable.field k = u := hu
  rw [regWord_two regSpec_errCount (show errCount.fields = [corrected, uncorrectable] from rfl) (by decide) (by decide), hone, htwo,
    show corrected.field.width = 24 from rfl, show corrected.lo = 0 from rfl, show uncorrectable.field.width = 8 from rfl,
    show uncorrectable.lo = 24 from rfl, Nat.mod_eq_of_lt hc24, Nat.mod_eq_of_lt hu8, pow_zero, Nat.mul_one]

theorem clearRead_errCount : clearRead errCount k 0 32 b
    = setF (setF b R.MEM_ERR_COUNT.corrected k 0) R.MEM_ERR_COUNT.uncorrectable k 0 := by
  have hone : setBits c 0 24 0 = 0 := by simp [setBits, bits]; omega
  have htwo : setBits u 0 8 0 = 0 := by simp [setBits, bits]; omega
  have hother : getF (setF b R.MEM_ERR_COUNT.corrected k 0) R.MEM_ERR_COUNT.uncorrectable k = u := by
    rw [getF_setF_other _ _ (by decide) (by decide) (by decide), hu]
  simp only [clearRead, errCount, corrected, uncorrectable, forEach, List.foldl_cons, List.foldl_nil]
  simp [hc, hone, hother, htwo, show R.MEM_ERR_COUNT.corrected.width = 24 from rfl, show R.MEM_ERR_COUNT.uncorrectable.width = 8 from rfl, bits]

theorem readSpot_errCount : readSpot (.reg .mem k 24) false b
    = (leBytes 4 (c + u * 2 ^ 24), setF (setF b R.MEM_ERR_COUNT.corrected k 0) R.MEM_ERR_COUNT.uncorrectable k 0) := by
  have hword := regWord_errCount hc hu hc24 hu8
  have hclear := clearRead_errCount hc hu hc24 hu8
  have huses : coxUses b errCount k = true := rfl
  have hlow : (c + u * 2 ^ 24) % 2 ^ 32 = c + u * 2 ^ 24 := Nat.mod_eq_of_lt (by omega)
  have hread : readRegWord .mem k 24 false b = (c + u * 2 ^ 24, setF (setF b R.MEM_ERR_COUNT.corrected k 0) R.MEM_ERR_COUNT.uncorrectable k 0) := by
    unfold readRegWord
    rw [regAt_errCount]
    simp only [show errCount.count = 1 from rfl, show errCount.reg = R.MEM_ERR_COUNT from rfl, Nat.mul_one, Nat.add_zero, huses, hword, hclear,
      Bool.false_eq_true, if_false, hlow]
    rfl
  exact congrArg (fun r : Nat × Body => (leBytes 4 r.1, r.2)) hread

end ErrCount

/-! ## The places of the statement (R168, R171) -/

theorem ctlSpot_mem {k off : Nat} (hk : k < 12) (hoff : off < 0x10000) : ctlSpot (0xFF10000000 + off + k * 0x10000) = .reg .mem k off := by
  generalize ha : 0xFF10000000 + off + k * 0x10000 = a
  unfold ctlSpot
  rw [if_neg (by omega)]
  rw [if_neg (by omega), if_pos (by omega)]
  rw [show (a - 0xFF00000000 - 0x10000000) / 0x10000 = k by omega, show (a - 0xFF00000000) % 0x10000 = off by omega]

theorem winAccess_none {a n : Nat} (h : 0xF200000000 ≤ a) : winAccess a n = none := by
  have hwin : winOf a = none := if_neg (by omega)
  rw [winAccess, hwin]

theorem not_stack {a : Nat} (h : 0xF000000000 ≤ a) : ¬ a < 12 * stackBytes := by
  simp only [stackBytes]
  omega

/-! ## A Shepherd's access to a memory controller's registers (R487) -/

section Firmware

variable {who : Requester} {k off : Nat} {s : State} (hk : k < 12) (hoff : off < 0x10000)
include hk hoff

theorem firmwareWrite_mem (data : List Byte) : firmwareWrite who (0xFF10000000 + off + k * 0x10000) data s
    = onBody (writeAt ctlSpot (writerGate who) (0xFF10000000 + off + k * 0x10000) data) s := by
  have hrest : 0xFF10000000 + off + k * 0x10000 - (0xFF10000000 + off + k * 0x10000) % 4 = 0xFF10000000 + (off - off % 4) + k * 0x10000 := by omega
  have hcommit : ∀ t, commitBits (0xFF10000000 + off + k * 0x10000) data t = t := fun t => by
    unfold commitBits
    rw [hrest, ctlSpot_mem hk (by omega)]
  have hmapped : ctlSpot (0xFF10000000 + off + k * 0x10000) ≠ .unmapped := by simp [ctlSpot_mem hk hoff]
  unfold firmwareWrite
  simp only [if_neg (not_stack (show 0xF000000000 ≤ 0xFF10000000 + off + k * 0x10000 by omega)),
    winAccess_none (show 0xF200000000 ≤ 0xFF10000000 + off + k * 0x10000 by omega), if_neg hmapped, hcommit, ite_self]

theorem firmwareWrite_mem_word {data : List Byte} (hlen : data.length = 4) (h4 : off % 4 = 0) :
    firmwareWrite who (0xFF10000000 + off + k * 0x10000) data s
      = onBody (fun b => if isWriter who b then writeRegAt .mem k off data b else b) s := by
  rw [firmwareWrite_mem hk hoff]
  exact congrArg (fun b => { s with body := b }) (writeAt_reg (by omega) (ctlSpot_mem hk hoff) hlen s.body)

theorem firmwareRead_mem (n : Nat) : firmwareRead (0xFF10000000 + off + k * 0x10000) n s
    = onBody (fun b => readAnswer (readAt ctlSpot (0xFF10000000 + off + k * 0x10000) n b)) s := by
  have hmapped : ctlSpot (0xFF10000000 + off + k * 0x10000) ≠ .unmapped := by simp [ctlSpot_mem hk hoff]
  unfold firmwareRead
  simp only [if_neg (not_stack (show 0xF000000000 ≤ 0xFF10000000 + off + k * 0x10000 by omega)),
    winAccess_none (show 0xF200000000 ≤ 0xFF10000000 + off + k * 0x10000 by omega), if_neg hmapped]

end Firmware

/-! ## Stack memory and station windows (R168, R172) -/

theorem memGet_write (m : List Host.Cell) (a : Nat) (data : List Byte) (c : Nat) : memGet (memStore m a (data.map some)) c
    = if a ≤ c ∧ c < a + data.length then data.getD (c - a) 0 else memGet m c := by
  rw [memGet_memStore]
  by_cases hle : a ≤ c
  · rcases Nat.lt_or_ge (c - a) data.length with hlt | hge
    · rw [if_pos hle, if_pos ⟨hle, by omega⟩]
      simp [hlt]
    · rw [if_pos hle, if_neg (by omega)]
      simp [hge]
  · rw [if_neg hle, if_neg fun h => hle h.1]

theorem get_write (m : SMap Byte) (a : Nat) (data : List Byte) (c : Nat) : SMap.get (storeBytes m a (data.map some)) 0 c
    = if a ≤ c ∧ c < a + data.length then data.getD (c - a) 0 else SMap.get m 0 c := by
  rw [get_storeBytes]
  by_cases hle : a ≤ c
  · rcases Nat.lt_or_ge (c - a) data.length with hlt | hge
    · rw [if_pos hle, if_pos ⟨hle, by omega⟩]
      simp [hlt]
    · rw [if_pos hle, if_neg (by omega)]
      simp [hge]
  · rw [if_neg hle, if_neg fun h => hle h.1]

theorem readSealed_sound {a n : Nat} {s : State} (hsound : s.body.badStack = []) (hheld : heldBySeal s.body a n = false) : ∃ k, readSealed a n s = ((memBytes s.mem a n, []), { s with body := withFree s.body k }) := by
  obtain ⟨k, hk⟩ := readStack_sound a n hsound
  refine ⟨k, ?_⟩
  unfold readSealed
  rw [hheld]
  exact hk

section Stack

variable {a n : Nat} {data : List Byte} {s : State} (hlow : a < 12 * stackBytes)
include hlow

theorem bar2_closed (hlen : data.length = n) (h : bar2Stack s.body a n = false) : bar2Write a data s = onBody (unsupported a) s
    ∧ bar2Read a n s = onBody (bar2Unsupported a) s := by
  unfold bar2Write bar2Read
  rw [if_pos hlow, if_pos hlow, hlen, h]
  exact ⟨rfl, rfl⟩

theorem firmware_closed (who : Requester) (hlen : data.length = n) (h : firmwareStack s.body a n = false) :
    firmwareWrite who a data s = onBody (firmwareError 3 a) s ∧ firmwareRead a n s = onBody (firmwareError 3 a) s := by
  unfold firmwareWrite firmwareRead
  rw [if_pos hlow, if_pos hlow, hlen, h]
  exact ⟨rfl, rfl⟩

variable (hsound : s.body.badStack = [])
include hsound

section Write

variable (hlen : data.length = n)
include hlen

theorem bar2Write_stack (h : bar2Stack s.body a n = true) : ∃ k, bar2Write a data s
    = { s with mem := memStore s.mem a (data.map some), body := withFree s.body k } := by
  obtain ⟨k, hk⟩ := writeStack_sound a (data.map some) hsound
  refine ⟨k, ?_⟩
  unfold bar2Write
  rw [if_pos hlow, hlen, h, hk]
  rfl

theorem firmwareWrite_stack (who : Requester) (h : firmwareStack s.body a n = true) : ∃ k, firmwareWrite who a data s
    = { s with mem := memStore s.mem a (data.map some), body := withFree s.body k } := by
  obtain ⟨k, hk⟩ := writeStack_sound a (data.map some) hsound
  refine ⟨k, ?_⟩
  unfold firmwareWrite
  rw [if_pos hlow, hlen, h, hk]
  rfl

end Write

variable (hheld : heldBySeal s.body a n = false)
include hheld

theorem bar2Read_stack (h : bar2Stack s.body a n = true) : ∃ k, bar2Read a n s
    = { s with body := bar2Answer 0 (memBytes s.mem a n) (withFree s.body k) } := by
  obtain ⟨k, hk⟩ := readSealed_sound hsound hheld
  refine ⟨k, ?_⟩
  unfold bar2Read
  rw [if_pos hlow, h, hk]
  rfl

theorem firmwareRead_stack (h : firmwareStack s.body a n = true) : ∃ k, firmwareRead a n s
    = { s with body := readAnswer (memBytes s.mem a n, withFree s.body k) } := by
  obtain ⟨k, hk⟩ := readSealed_sound hsound hheld
  refine ⟨k, ?_⟩
  unfold firmwareRead
  rw [if_pos hlow, h, hk]
  rfl

end Stack

section Window

variable {a n st : Nat} {data : List Byte} {s : State} {w : WinAddr} (hhigh : 12 * stackBytes ≤ a)
  (hwin : winAccess a n = some w) (hphys : physOf s.body w.die w.lst = some st)
include hhigh hwin hphys

theorem bar2_running (hlen : data.length = n) (hrun : flagF s.body R.STN_CTRL.run st = true) : bar2Write a data s = s
    ∧ bar2Read a n s = onBody (bar2Answer 0 (List.replicate n 0xFF)) s := by
  unfold bar2Write bar2Read
  simp only [if_neg (Nat.not_lt.mpr hhigh), hlen, hwin, hphys, hrun]
  exact ⟨rfl, rfl⟩

variable (hrun : flagF s.body R.STN_CTRL.run st = false) (hfence : flagF s.body R.STN_CTRL.fence st = false)
include hrun hfence

theorem bar2Write_window (hlen : data.length = n) : bar2Write a data s = onBody (fun b => (writeSram b st w.off (data.map some)).2) s := by
  unfold bar2Write
  simp only [if_neg (Nat.not_lt.mpr hhigh), hlen, hwin, hphys, hrun, hfence]
  rfl

theorem bar2Read_window (hsound : ∀ u, SMap.get (stn s.body st).badSram [] u = []) : ∃ k, bar2Read a n s = { s with body := bar2Answer 0 (bytesAt (stn s.body st).sram w.off n) (withFree s.body k) } := by
  obtain ⟨k, hk⟩ := readSram_sound w.off n hsound
  refine ⟨k, ?_⟩
  unfold bar2Read
  simp only [if_neg (Nat.not_lt.mpr hhigh), hwin, hphys, hrun, hfence, hk]
  rfl

end Window

/-! ## The obligation -/

section Registers

variable {k v : Nat} {s : State}

theorem isWriter_A (h : getF s.body R.SHP_STATUS.active 0 = 0) : isWriter .shepherdA s.body = true ∧ isWriter .shepherdB s.body = false := by
  unfold isWriter
  rw [h]
  exact ⟨rfl, rfl⟩

theorem registerWrite_scrubCfg (hk : k < 12) (hv : v < 2 ^ 32) {who : Requester} (hwho : who = .shepherdA ∨ who = .shepherdB) :
    registerWrite who (0xFF10000030 + k * 0x10000) (leBytes 4 v) s
      = onBody (fun b => if isWriter who b then writeReg scrubCfg k v (2 ^ 32 - 1) b else b) s := by
  have hword := firmwareWrite_mem_word (who := who) (s := s) (data := leBytes 4 v) hk (show 0x30 < 0x10000 by decide) rfl (by decide)
  simp only [writeRegAt_low regAt_scrubCfg rfl hv] at hword
  rcases hwho with rfl | rfl <;> exact hword

theorem registerWrite_scrubCfg_narrow (hk : k < 12) : registerWrite .shepherdA (0xFF10000030 + k * 0x10000) (leBytes 2 v) s = s := by
  have hword := firmwareWrite_mem (who := .shepherdA) (s := s) hk (show 0x30 < 0x10000 by decide) (leBytes 2 v)
  refine hword.trans ?_
  exact congrArg (fun b => { s with body := b }) (writeAt_narrow (a := 0xFF10000000 + 0x30 + k * 0x10000) (by omega) (show (leBytes 2 v).length < 4 by simp [leBytes]) s.body)

theorem registerRead_errCount {c u : Nat} (hk : k < 12) (hc : getF s.body R.MEM_ERR_COUNT.corrected k = c)
    (hu : getF s.body R.MEM_ERR_COUNT.uncorrectable k = u) (hc24 : c < 2 ^ 24) (hu8 : u < 2 ^ 8) :
    registerRead .shepherdA (0xFF10000018 + k * 0x10000) 4 s = onBody (fun b => readAnswer (leBytes 4 (c + u * 2 ^ 24),
      setF (setF b R.MEM_ERR_COUNT.corrected k 0) R.MEM_ERR_COUNT.uncorrectable k 0)) s := by
  have hread := firmwareRead_mem (s := s) hk (show 0x18 < 0x10000 by decide) 4
  refine hread.trans (congrArg (fun b => { s with body := readAnswer b }) ?_)
  rw [readAt_word (by omega), ctlSpot_mem hk (by decide)]
  simp only [readSpot_errCount hc hu hc24 hu8]
  rfl

theorem registerWrite_irqMask (hv : v < 2 ^ 30) (hcause : getF s.body R.IRQ_CAUSE.cause 0 = 0) :
    registerWrite .hostBar0 0x50008 (leBytes 4 v) s = onBody (fun b => setF b R.IRQ_MASK.mask 0 v) s := by
  have hword := writeAt_reg (spot := bar0Spot) (gate := hostGate) (a := 0x50008) (data := leBytes 4 v) (blk := .irq) (inst := 0) (off := 8) (by decide) rfl rfl
    s.body
  have hreg : writeRegAt .irq 0 8 (leBytes 4 v) s.body = setF s.body R.IRQ_MASK.mask 0 v :=
    (writeRegAt_low regAt_irqMask rfl (hv.trans (by decide)) s.body).trans (writeReg_irqMask hv hcause)
  exact congrArg (fun b => { s with body := b }) (hword.trans hreg)

theorem bar0Spot_request {m off : Nat} (hm : m < 16) (hoff : off < 1024) : bar0Spot (0x10000 + m * 0x2000 + off * 4) = .request m (off * 4) := by
  generalize ha : 0x10000 + m * 0x2000 + off * 4 = a
  unfold bar0Spot
  rw [if_neg (by omega), if_neg (by omega), if_neg (by omega), if_pos (by omega)]
  simp only
  rw [if_pos (by omega), show (a - 0x10000) / 0x2000 = m by omega, show a % 0x2000 = off * 4 by omega]

theorem writeSpot_request {m off : Nat} {bs : List Byte} {b : Body} (h : getF b R.MBX_STATUS.state m = 0) : writeSpot (.request m off) bs b
    = updMbx m (fun x => { x with request := (bs.zipIdx).foldl (fun r p => SMap.put r 0 (off + p.2) p.1) x.request }) b :=
  if_neg (by omega)

theorem get_puts (off : Nat) : ∀ (bs : List Byte) (r : SMap Byte) (n i : Nat), SMap.get ((bs.zipIdx n).foldl (fun r p => SMap.put r 0 (off + p.2) p.1) r) 0 i
    = if off + n ≤ i ∧ i < off + n + bs.length then bs.getD (i - (off + n)) 0 else SMap.get r 0 i
  | [], r, n, i => by simp
  | b :: bs, r, n, i => by
    rw [List.zipIdx_cons, List.foldl_cons, get_puts off bs _ (n + 1) i, SMap.get_put]
    by_cases hi : i = off + n
    · subst hi
      simp
    · by_cases hin : off + n ≤ i ∧ i < off + n + (b :: bs).length
      · obtain ⟨j, rfl⟩ : ∃ j, i = off + n + (j + 1) := ⟨i - (off + n) - 1, by omega⟩
        rw [if_pos hin, if_pos (by simp at hin ⊢; omega), show off + n + (j + 1) - (off + (n + 1)) = j by omega, Nat.add_sub_cancel_left]
        rfl
      · rw [if_neg hin, if_neg (by simp at hin ⊢; omega), if_neg hi]

theorem registerWrite_request {m off x : Nat} (hm : m < 16) (hoff : off < 1024) (h : getF s.body R.MBX_STATUS.state m = 0) :
    registerWrite .hostBar0 (0x10000 + m * 0x2000 + off * 4) (leBytes 4 x) s = onBody (updMbx m (fun y => { y with
      request := ((leBytes 4 x).zipIdx).foldl (fun r p => SMap.put r 0 (off * 4 + p.2) p.1) y.request })) s := by
  have hword := writeAt_spot (spot := bar0Spot) (gate := hostGate) (a := 0x10000 + m * 0x2000 + off * 4) (data := leBytes 4 x) (by omega)
    (bar0Spot_request hm hoff) (by simp) rfl s.body
  exact congrArg (fun b => { s with body := b }) (hword.trans (writeSpot_request h))

end Registers

theorem mbx_updMbx_same (m : Nat) (f : Mailbox → Mailbox) (b : Body) : mbx (updMbx m f b) m = f (mbx b m) := SMap.get_put_same _ _ _ _

section Statements

variable {k v : Nat} {s : State} (hk : k < 12) (hv : v < 2 ^ 32)
include hk hv

theorem scrubCfg_runs : (getF s.body R.SHP_STATUS.active 0 = 0 → 1 ≤ v ∧ v ≤ 72 →
      Runs (.registerWrite .shepherdA (0xFF10000030 + k * 0x10000) (leBytes 4 v)) s [.regs] (fun b =>
        getF b R.MEM_SCRUB_CFG.period_h k = v ∧ RegsBut [R.MEM_SCRUB_CFG.period_h] k s.body b))
    ∧ (72 < v % 256 ∨ v % 256 = 0 → Runs (.registerWrite .shepherdA (0xFF10000030 + k * 0x10000) (leBytes 4 v)) s [] (fun b => b = s.body))
    ∧ (getF s.body R.SHP_STATUS.active 0 = 0 → Runs (.registerWrite .shepherdB (0xFF10000030 + k * 0x10000) (leBytes 4 v)) s [] (fun b => b = s.body)) := by
  refine ⟨fun hactive ⟨h1, h72⟩ => ?_, fun hill => ?_, fun hactive => ?_⟩
  · refine runs_of_next rfl ((registerWrite_scrubCfg hk hv (.inl rfl)).trans
      (congrArg (fun b => { s with body := b }) ((if_pos (isWriter_A hactive).1).trans (writeReg_scrubCfg_legal h1 h72)))) ?_ ⟨?_, ?_⟩
    · split <;> simp (disch := decide)
    · split
      · assumption
      · exact getF_setF_fits (h72.trans_lt (by decide))
    · split <;> simp (disch := decide)
  · refine runs_of_next rfl ((registerWrite_scrubCfg hk hv (.inl rfl)).trans
      (congrArg (fun b => { s with body := b }) ?_)) (Only.refl _ _) rfl
    simp only [writeReg_scrubCfg_illegal hill, ite_self]
  · refine runs_of_next rfl ((registerWrite_scrubCfg hk hv (.inr rfl)).trans
      (congrArg (fun b => { s with body := b }) ?_)) (Only.refl _ _) rfl
    exact if_neg (by rw [(isWriter_A hactive).2]; decide)

end Statements

theorem runsS_of_next {c : Instr} {s t t' : State} {P : State → Prop} (hx : exec c s = .next t) (ht : t = t') (hpend : t'.pending = s.pending) (hP : P t') :
    RunsS c s P := ⟨t', hx.trans (congrArg _ ht), hpend, hP⟩

section Bar2

variable {a n : Nat} {data : List Byte} {s : State} (hlen : data.length = n)
include hlen

theorem stack_runs (hlow : a < 12 * stackBytes) (hopen : bar2Stack s.body a n = true) (hsound : s.body.badStack = []) :
    (RunsS (.bar2Write a data) s (fun t => Only [.free] s.body t.body
        ∧ ∀ c, memGet t.mem c = (if a ≤ c ∧ c < a + n then data.getD (c - a) 0 else memGet s.mem c)))
      ∧ (heldBySeal s.body a n = false → Runs (.bar2Read a n) s [.sent, .free] (fun b =>
          b.sent = .response "BAR2_READ" (0 :: (memBytes s.mem a n).map (·.toNat)) :: s.body.sent))
      ∧ (heldBySeal s.body a n = false → Runs (.registerRead .hostBar2 a n) s [.sent, .free] (fun b =>
          b.sent = .response "BAR2_READ" (0 :: (memBytes s.mem a n).map (·.toNat)) :: s.body.sent))
      ∧ (∀ who ∈ [Requester.shepherdA, .shepherdB],
          RunsS (.registerWrite who a data) s (fun t => Only [.free] s.body t.body
            ∧ ∀ c, memGet t.mem c = (if a ≤ c ∧ c < a + n then data.getD (c - a) 0 else memGet s.mem c))
          ∧ (heldBySeal s.body a n = false → Runs (.registerRead who a n) s [.sent, .free] (fun b =>
              b.sent = .response "REGISTER_READ" ((memBytes s.mem a n).map (·.toNat)) :: s.body.sent))) := by
  have hfree : ∀ k, Only [.free] s.body (withFree s.body k) := fun k => (only_withFree (by decide)).mpr (Only.refl _ _)
  have hmem : ∀ c, memGet (memStore s.mem a (data.map some)) c = (if a ≤ c ∧ c < a + n then data.getD (c - a) 0 else memGet s.mem c) := fun c => by
    rw [memGet_write, hlen]
  obtain ⟨k, hk⟩ := bar2Write_stack hlow hsound hlen hopen
  refine ⟨runsS_of_next rfl hk rfl ⟨hfree k, hmem⟩, fun hheld => ?_, fun hheld => ?_, fun who hwho => ⟨?_, fun hheld => ?_⟩⟩
  · obtain ⟨j, hj⟩ := bar2Read_stack hlow hsound hheld hopen
    exact runs_of_next rfl hj (by simp (disch := decide) [bar2Answer]) rfl
  · obtain ⟨j, hj⟩ := bar2Read_stack hlow hsound hheld hopen
    exact runs_of_next rfl hj (by simp (disch := decide) [bar2Answer]) rfl
  · obtain ⟨j, hj⟩ := firmwareWrite_stack hlow hsound hlen who hopen
    have hexec : registerWrite who a data s = firmwareWrite who a data s := by
      simp only [List.mem_cons, List.not_mem_nil, or_false] at hwho
      rcases hwho with rfl | rfl <;> rfl
    exact runsS_of_next rfl (hexec.trans hj) rfl ⟨hfree j, hmem⟩
  · obtain ⟨j, hj⟩ := firmwareRead_stack hlow hsound hheld hopen
    have hexec : registerRead who a n s = firmwareRead a n s := by
      simp only [List.mem_cons, List.not_mem_nil, or_false] at hwho
      rcases hwho with rfl | rfl <;> rfl
    exact runs_of_next rfl (hexec.trans hj) (by simp (disch := decide) [readAnswer]) rfl

theorem closed_runs (hlow : a < 12 * stackBytes) (hclosed : bar2Stack s.body a n = false) (who : Requester) (hwho : who ∈ [Requester.shepherdA, .shepherdB]) :
    Runs (.registerWrite who a data) s [.sent] (fun b => b.sent = .response "ERROR_RESPONSE" [3, a] :: s.body.sent)
      ∧ Runs (.registerRead who a n) s [.sent] (fun b => b.sent = .response "ERROR_RESPONSE" [3, a] :: s.body.sent) := by
  obtain ⟨hw, hr⟩ := firmware_closed hlow who hlen hclosed
  simp only [List.mem_cons, List.not_mem_nil, or_false] at hwho
  have honly : Only [.sent] s.body (firmwareError 3 a s.body) := by simp (disch := decide) [firmwareError]
  rcases hwho with rfl | rfl
  · exact ⟨runs_of_next rfl hw honly rfl, runs_of_next rfl hr honly rfl⟩
  · exact ⟨runs_of_next rfl hw honly rfl, runs_of_next rfl hr honly rfl⟩

omit hlen in
theorem unsupported_runs (h : bar2Write a data s = onBody (unsupported a) s ∧ bar2Read a n s = onBody (bar2Unsupported a) s) :
    Runs (.bar2Write a data) s [.sent] (fun b => b.sent = .response "AER_UNSUPPORTED_REQUEST" [a] :: s.body.sent)
      ∧ Runs (.bar2Read a n) s [.sent] (fun b => b.sent = .response "BAR2_READ" [2] :: .response "AER_UNSUPPORTED_REQUEST" [a] :: s.body.sent) :=
  ⟨runs_of_next rfl h.1 (by simp (disch := decide) [unsupported]) rfl,
    runs_of_next rfl h.2 (by simp (disch := decide) [bar2Unsupported, bar2Answer, unsupported]) rfl⟩

omit hlen in
theorem bar2_nowhere (hlow : 0xF200000000 ≤ a) (hhigh : a < 0xFF00000000) :
    bar2Write a data s = onBody (unsupported a) s ∧ bar2Read a n s = onBody (bar2Unsupported a) s := by
  have hnone : ctlSpot a = .unmapped := if_pos (.inl hhigh)
  unfold bar2Write bar2Read
  simp only [if_neg (not_stack (show 0xF000000000 ≤ a by omega)), winAccess_none hlow, hnone, if_true, and_self]

theorem window_runs {w : WinAddr} {st : Nat} (hhigh : 12 * stackBytes ≤ a) (hwin : winAccess a n = some w) (hphys : physOf s.body w.die w.lst = some st) :
    let x := stn s.body st
    (flagF s.body R.STN_CTRL.run st = true → Runs (.bar2Write a data) s [] (fun b => b = s.body)
        ∧ Runs (.bar2Read a n) s [.sent] (fun b => b.sent = .response "BAR2_READ" (0 :: List.replicate n 255) :: s.body.sent))
      ∧ (flagF s.body R.STN_CTRL.run st = false → flagF s.body R.STN_CTRL.fence st = false →
          (∀ u, SMap.get x.badSram [] u = []) →
          Runs (.bar2Write a data) s [.stations, .free] (fun b => (∀ i, SMap.get (stn b st).sram 0 i
              = (if w.off ≤ i ∧ i < w.off + n then data.getD (i - w.off) 0 else SMap.get x.sram 0 i)) ∧ (stn b st).s = x.s
              ∧ ∀ y, y ≠ st → stn b y = stn s.body y)
            ∧ Runs (.bar2Read a n) s [.sent, .free] (fun b =>
              b.sent = .response "BAR2_READ" (0 :: (bytesAt x.sram w.off n).map (·.toNat)) :: s.body.sent)) := by
  refine ⟨fun hrun => ?_, fun hrun hfence hsound => ⟨?_, ?_⟩⟩
  · obtain ⟨hw, hr⟩ := bar2_running hhigh hwin hphys hlen hrun
    refine ⟨runs_of_next rfl hw (Only.refl _ _) rfl, runs_of_next rfl hr (by simp (disch := decide) [bar2Answer]) ?_⟩
    simp [bar2Answer, emit]
  · obtain ⟨-, honly, hother, ⟨bad, wb, hst⟩, -⟩ := writeSram_sound w.off (data.map some) hsound
    refine runs_of_next rfl (bar2Write_window hhigh hwin hphys hrun hfence hlen) honly ⟨fun i => ?_, ?_, hother⟩
    · rw [hst]
      exact (get_write _ _ _ _).trans (by rw [hlen])
    · rw [hst]
  · obtain ⟨k, hk⟩ := bar2Read_window hhigh hwin hphys hrun hfence hsound
    exact runs_of_next rfl hk (by simp (disch := decide) [bar2Answer]) rfl

end Bar2

/-- Settles O31: each access by the place its address names. -/
theorem hostAndRegisterAccesses : Obligations.HostAndRegisterAccesses := by
  refine ⟨fun k v s hk hv => ?_, fun a n data s hlen hn => ⟨fun hin hopen hsound => ?_, fun hlow hclosed who hwho => closed_runs hlen hlow hclosed who hwho,
    fun hlow hclosed => unsupported_runs (bar2_closed hlow hlen hclosed), fun ⟨hlow, hhigh⟩ => ?_,
    fun w st hhigh hwin hphys hst => window_runs hlen hhigh hwin hphys⟩⟩
  · intro cfg cnt b0
    obtain ⟨hlegal, hillegal, hstandby⟩ := scrubCfg_runs (s := s) hk hv
    refine ⟨hlegal, hillegal, hstandby, runs_of_next rfl rfl (Only.refl _ _) rfl,
      runs_of_next rfl (registerWrite_scrubCfg_narrow hk) (Only.refl _ _) rfl, fun c u hc hu hc24 hu8 => ?_, fun hcause hv30 => ?_, ?_, ?_,
      fun m off x hm hoff hstate => ?_⟩
    · refine runs_of_next rfl (registerRead_errCount hk hc hu hc24 hu8) ?_ ⟨rfl, ?_, ?_, ?_⟩
      · simp (disch := decide) [readAnswer]
      · simp (disch := decide) [readAnswer]
      · simp (disch := decide) [readAnswer]
      · simp (disch := decide) [readAnswer, b0]
    · refine runs_of_next rfl (registerWrite_irqMask hv30 hcause) ?_ ⟨getF_setF_fits hv30, ?_⟩
      · simp (disch := decide)
      · simp (disch := decide) [b0]
    · exact runs_of_next rfl (congrArg (fun r => { s with body := readAnswer r }) (readAt_word (spot := bar0Spot) (a := 0x3FFFC) (by decide) s.body))
        (by simp (disch := decide) [readAnswer, bar0Spot, readSpot]) rfl
    · exact runs_of_next rfl (congrArg (fun b => { s with body := b }) (writeAt_spot (spot := bar0Spot) (gate := hostGate) (a := 0x3FFFC) (sp := .blank)
        (by decide) rfl (by simp) rfl s.body)) (Only.refl _ _) rfl
    · refine runs_of_next rfl (registerWrite_request hm hoff hstate) (by simp (disch := decide) [updMbx]) (fun i => ?_)
      rw [mbx_updMbx_same]
      exact get_puts (off * 4) (leBytes 4 x) _ 0 i
  · have hlow : a < 12 * stackBytes := by omega
    exact stack_runs hlen hlow hopen hsound
  · exact unsupported_runs (bar2_nowhere hlow (by omega))

end Sys2Proof.Machine

/-! SUPPORT. A drover at work on the descriptor of its list (O32). -/

namespace Sys2Proof.Machine

/-! ## A body in which one drover works -/

/-- A body in which drover `dr` holds `y`, the panel holds `fs` and the free values are at `k`. -/
def atWork (dr : Nat) (y : Drover) (fs : List Flit) (k : Nat) (b : Body) : Body := withFree (withFabric (updDrv b dr (fun _ => y)) fs) k

section AtWork

variable {dr k : Nat} {y : Drover} {fs : List Flit} {b : Body}

@[simp] theorem drv_atWork_same : drv (atWork dr y fs k b) dr = y := drv_updDrv_same b dr fun _ => y

theorem drv_atWork_ne {z : Nat} (h : z ≠ dr) : drv (atWork dr y fs k b) z = drv b z := drv_updDrv_ne b dr z (fun _ => y) h

@[simp] theorem updDrv_atWork (f : Drover → Drover) : updDrv (atWork dr y fs k b) dr f = atWork dr (f y) fs k b := by
  unfold updDrv
  rw [drv_atWork_same]
  exact congrArg (fun ds => withFree (withFabric { b with drovers := ds } fs) k) (SMap.put_put_same _ _ _ _ _)

@[simp] theorem sendFlit_atWork (f : Flit) : sendFlit f (atWork dr y fs k b) = atWork dr y (fs ++ [f]) k b := rfl

@[simp] theorem withFree_atWork (j : Nat) : withFree (atWork dr y fs k b) j = atWork dr y fs j b := rfl

@[simp] theorem atWork_fabric : (atWork dr y fs k b).fabric = fs := rfl

@[simp] theorem stn_atWork (st : Nat) : stn (atWork dr y fs k b) st = stn b st := rfl

@[simp] theorem getF_atWork (f : Field) (i : Nat) : getF (atWork dr y fs k b) f i = getF b f i := rfl

@[simp] theorem flagF_atWork (f : Field) (i : Nat) : flagF (atWork dr y fs k b) f i = flagF b f i := rfl

@[simp] theorem moduleIndex_atWork : moduleIndex (atWork dr y fs k b) = moduleIndex b := rfl

@[simp] theorem physOf_atWork (d l : Nat) : physOf (atWork dr y fs k b) d l = physOf b d l := rfl

@[simp] theorem clocked_atWork (st : Nat) : clocked (atWork dr y fs k b) st = clocked b st := rfl

theorem atWork_only {ps : List Part} (hd : Part.drovers ∈ ps) (hf : Part.fabric ∈ ps) (hk : Part.free ∈ ps) : Only ps b (atWork dr y fs k b) := by
  simp [atWork, hd, hf, hk]

theorem resolveFlock_atWork : ∀ (fuel f o : Nat), resolveFlock (atWork dr y fs k b) fuel f o = resolveFlock b fuel f o
  | 0, _, _ => rfl
  | fuel + 1, f, o => by
    unfold resolveFlock
    simp only [resolveFlock_atWork fuel]
    rfl

@[simp] theorem sysTarget_atWork (a len : Nat) (flockOk : Bool) : sysTarget (atWork dr y fs k b) a len flockOk = sysTarget b a len flockOk := by
  unfold sysTarget
  simp only [resolveFlock_atWork]
  rfl

@[simp] theorem stationEnd_atWork (a len : Nat) (any flockOk : Bool) : stationEnd (atWork dr y fs k b) a len any flockOk = stationEnd b a len any flockOk := by
  unfold stationEnd
  rw [sysTarget_atWork]
  rfl

@[simp] theorem stackEnd_atWork (a len : Nat) (any : Bool) : stackEnd (atWork dr y fs k b) a len any = stackEnd b a len any := by
  unfold stackEnd
  rw [sysTarget_atWork]
  rfl

@[simp] theorem moveSrc_atWork (d : Desc) (m : Move) : moveSrc (atWork dr y fs k b) d m = moveSrc b d m := by
  unfold moveSrc
  simp only [stationEnd_atWork, stackEnd_atWork]

@[simp] theorem moveDst_atWork (d : Desc) (m : Move) : moveDst (atWork dr y fs k b) d m = moveDst b d m := by
  unfold moveDst
  simp only [stationEnd_atWork, stackEnd_atWork]

@[simp] theorem moveEnds_atWork (d : Desc) (m : Move) : moveEnds (atWork dr y fs k b) d m = moveEnds b d m := by
  unfold moveEnds
  rw [moveSrc_atWork, moveDst_atWork]

@[simp] theorem moveFault_atWork (d : Desc) (st : Nat) (m : Move) : moveFault (atWork dr y fs k b) d st m = moveFault b d st m := by
  unfold moveFault spaceAddr
  rw [moveEnds_atWork, moveSrc_atWork]
  rfl

@[simp] theorem descFault_atWork (st : Nat) (d : Desc) : descFault (atWork dr y fs k b) st d = descFault b st d := by
  have hfirst : firstMove (atWork dr y fs k b) st d = firstMove b st d := rfl
  unfold descFault spaceAddr
  simp only [hfirst, moveEnds_atWork, moveSrc_atWork]

end AtWork

/-! ## The transfer in progress -/

/-- A drover whose newest transfer is `r`, with moves still to issue. -/
def inFlight (x : Drover) (d : Desc) (r : Transfer) (mv : Moving) : Drover :=
  { x with running := d, nextId := x.nextId + 1, transfers := x.transfers ++ [r], moving := some mv }

/-- A transfer one of whose flits has gone out. -/
def flown (r : Transfer) (i m a n : Nat) : Transfer := { r with flying := r.flying ++ [⟨i, m, a, n⟩], count := r.count + 1 }

section Newest

variable {x : Drover} {d : Desc} {r : Transfer} {mv : Moving} (hids : ∀ t ∈ x.transfers, t.id < x.nextId) (hr : r.id = x.nextId)

theorem outstanding_inFlight : (inFlight x d r mv).outstanding = x.outstanding + r.flying.length := by
  simp [inFlight, Drover.outstanding]

include hids hr

theorem map_newest (f : Transfer → Transfer) : (x.transfers ++ [r]).map (fun t => if t.id = x.nextId then f t else t) = x.transfers ++ [f r] := by
  have hold : x.transfers.map (fun t => if t.id = x.nextId then f t else t) = x.transfers :=
    (List.map_congr_left fun t ht => if_neg (Nat.ne_of_lt (hids t ht))).trans (List.map_id' _)
  rw [List.map_append, hold]
  simp [hr]

theorem updTransfer_newest {dr k : Nat} {fs : List Flit} {b : Body} (f : Transfer → Transfer) :
    updTransfer dr x.nextId f (atWork dr (inFlight x d r mv) fs k b) = atWork dr (inFlight x d (f r) mv) fs k b := by
  rw [updTransfer, updDrv_atWork]
  simp [inFlight, map_newest hids hr]

theorem updTransfer_flown {dr k : Nat} {fs : List Flit} {b : Body} (i m a n : Nat) :
    updTransfer dr x.nextId (fun t => { t with flying := t.flying ++ [⟨i, m, a, n⟩], count := t.count + 1 }) (atWork dr (inFlight x d r mv) fs k b)
      = atWork dr (inFlight x d (flown r i m a n) mv) fs k b := updTransfer_newest hids hr _

theorem writesInto_newest (m a n : Nat) : writesInto (inFlight x d r mv) x.nextId m a n
    = r.flying.any (fun z => z.moduleIx == m && decide (a < z.addr + z.len) && decide (z.addr < a + n)) := by
  have hold : x.transfers.any (fun t => t.id == x.nextId
      && t.flying.any (fun z => z.moduleIx == m && decide (a < z.addr + z.len) && decide (z.addr < a + n))) = false :=
    List.any_eq_false.mpr fun t ht => by simp [Nat.ne_of_lt (hids t ht)]
  unfold writesInto inFlight
  rw [List.any_append, hold]
  simp [hr]

end Newest

theorem updDrv_moving {x : Drover} {d : Desc} {r : Transfer} {mv : Moving} {dr k : Nat} {fs : List Flit} {b : Body} (mv' : Moving) :
    updDrv (atWork dr (inFlight x d r mv) fs k b) dr (fun y => { y with moving := some mv' }) = atWork dr (inFlight x d r mv') fs k b :=
  updDrv_atWork _

/-! ## Issuing the flits of a move (R188 to R190) -/

theorem plus_zero (p : Place) : p.plus 0 = p := by cases p <;> rfl

/-- The request of a drover to a controller or to another station for the bytes of a move. -/
def readAsk (dr tid i : Nat) (staged : Bool) (src dest len ep : Nat) : Flit :=
  { Flit.blank .droverBulk with
    src := dr / 2, addr := src, len := len, tag := tid, piece := i, drv := some dr, isRead := true, staged := staged, dest := dest, dst := ep }

section Pump

variable {dr k : Nat} {fs : List Flit} {b : Body} {x : Drover} {d : Desc} {r : Transfer} {e : DrvEntry} {m : Move} {rest : List Move} {p q : Place} {i : Nat}
  (hids : ∀ t ∈ x.transfers, t.id < x.nextId) (hr : r.id = x.nextId) (hcur : x.current = some e)
include hids hr hcur

/-- A move whose ends are known and whose one flit fits is issued whole. -/
theorem pump_issues (fuel : Nat) (hroom : x.outstanding + r.flying.length < 64) (hquiet : flagF b R.STN_DIE_CTRL.quiesce (dr / 128) = false)
    (hends : moveEnds b d m = some (p, q)) (hclear : moveFault b d (dr / 2) m = none) (hlen : pieceLen d.staged p q m.len = m.len)
    (hapart : r.flying.any (fun z => z.moduleIx == q.moduleOf (moduleIndex b) && decide (q.addr < z.addr + z.len)
      && decide (z.addr < q.addr + m.len)) = false)
    {c : Body} (hissue : issuePiece dr x.nextId i d.staged p q m.len
      (atWork dr (inFlight x d (flown r i (q.moduleOf (moduleIndex b)) q.addr m.len) ⟨x.nextId, rest, 0, i + 1⟩) fs k b) = (none, c)) :
    pump dr (fuel + 1) (atWork dr (inFlight x d r ⟨x.nextId, m :: rest, 0, i⟩) fs k b) = pump dr fuel c := by
  have hnext : issueNext dr e ⟨x.nextId, m :: rest, 0, i⟩ m rest p q (atWork dr (inFlight x d r ⟨x.nextId, m :: rest, 0, i⟩) fs k b) = (c, true) := by
    have hfree : ¬ (64 ≤ (inFlight x d r ⟨x.nextId, m :: rest, 0, i⟩).outstanding ∨ flagF b R.STN_DIE_CTRL.quiesce (dr / 128) = true
        ∨ writesInto (inFlight x d r ⟨x.nextId, m :: rest, 0, i⟩) x.nextId (q.moduleOf (moduleIndex b)) q.addr m.len = true) := by
      rw [outstanding_inFlight, writesInto_newest hids hr, hapart, hquiet]
      simp
      omega
    unfold issueNext
    simp only [drv_atWork_same, plus_zero, Nat.sub_zero, moduleIndex_atWork, flagF_atWork, show (inFlight x d r ⟨x.nextId, m :: rest, 0, i⟩).running = d from rfl,
      hlen, if_neg hfree, updTransfer_flown hids hr, updDrv_moving, Nat.zero_add, Nat.lt_irrefl, if_false, hissue]
  have hstate : (inFlight x d r ⟨x.nextId, m :: rest, 0, i⟩).current = some e := hcur
  rw [pump]
  simp only [drv_atWork_same, hstate, show (inFlight x d r ⟨x.nextId, m :: rest, 0, i⟩).moving = some ⟨x.nextId, m :: rest, 0, i⟩ from rfl,
    show (inFlight x d r ⟨x.nextId, m :: rest, 0, i⟩).running = d from rfl, moveFault_atWork, moveEnds_atWork, hclear, hends, if_true, hnext]

end Pump

section Pieces

variable {dr k tid i n a st : Nat} {fs : List Flit} {b : Body} {y : Drover} {staged : Bool} {q : Place} {w : WinAddr}

/-- Stack bytes are asked of their controller. -/
theorem issuePiece_stack : issuePiece dr tid i staged (.stack (moduleIndex b) a) q n (atWork dr y fs k b)
    = (none, atWork dr y (fs ++ [readAsk dr tid i staged a (q.sys (moduleIndex b)) n (ctlEp (a / stackBytes))]) k b) := by
  unfold issuePiece
  exact if_pos rfl

/-- Stack bytes for a station of this module. -/
theorem issuePiece_fetch : issuePiece dr tid i staged (.stack (moduleIndex b) a) (.station (moduleIndex b) w) n (atWork dr y fs k b)
    = (none, atWork dr y (fs ++ [readAsk dr tid i staged a (winBase w.die w.lst + w.off) n (ctlEp (a / stackBytes))]) k b) := by
  have hsys : (Place.station (moduleIndex b) w).sys (moduleIndex b) = winBase w.die w.lst + w.off := if_pos rfl
  rw [issuePiece_stack, hsys]

/-- Bytes of another station are asked of it. -/
theorem issuePiece_station (hphys : physOf b w.die w.lst = some st) (hst : st ≠ dr / 2) :
    issuePiece dr tid i staged (.station (moduleIndex b) w) q n (atWork dr y fs k b)
      = (none, atWork dr y (fs ++ [readAsk dr tid i staged (winBase w.die w.lst + w.off) (q.sys (moduleIndex b)) n st]) k b) := by
  unfold issuePiece
  simp only [physOf_atWork, hphys, if_pos hst]
  rfl

/-- A transfer that keeps a piece for a check-value unit, where it feeds one. -/
def keptIn (r : Transfer) (i : Nat) (bs : List Byte) : Transfer := if r.chk then { r with pieces := SMap.put r.pieces [] i bs } else r

/-- Own bytes are sent on to a controller at once. -/
theorem issuePiece_own {x : Drover} {d : Desc} {r : Transfer} {mv : Moving} (hids : ∀ t ∈ x.transfers, t.id < x.nextId) (hr : r.id = x.nextId)
    (hphys : physOf b w.die w.lst = some (dr / 2)) (hsound : ∀ u, SMap.get (stn b (dr / 2)).badSram [] u = []) :
    ∃ j, issuePiece dr x.nextId i staged (.station (moduleIndex b) w) (.stack (moduleIndex b) a) n (atWork dr (inFlight x d r mv) fs k b)
      = (none, atWork dr (inFlight x d (keptIn r i (bytesAt (stn b (dr / 2)).sram w.off n)) mv) (fs ++ [{ Flit.blank .droverBulk with
          src := dr / 2, tag := x.nextId, piece := i, drv := some dr, staged := staged, addr := a
          payload := (bytesAt (stn b (dr / 2)).sram w.off n).map some, len := (bytesAt (stn b (dr / 2)).sram w.off n).length
          dst := ctlEp (a / stackBytes) }]) j b) := by
  obtain ⟨j, hj⟩ := readSram_sound (b := atWork dr (inFlight x d r mv) fs k b) (st := dr / 2) w.off n hsound
  have hkeep : ∀ bs, keepPiece dr x.nextId i bs (withFree (atWork dr (inFlight x d r mv) fs k b) j)
      = atWork dr (inFlight x d (keptIn r i bs) mv) fs j b := fun bs =>
    updTransfer_newest (k := j) (b := b) hids hr fun t => keptIn t i bs
  refine ⟨j, ?_⟩
  unfold issuePiece
  simp only [physOf_atWork, hphys, ne_eq, not_true_eq_false, if_false, hj, stn_atWork]
  change ((bulkWrite (dr / 2) dr x.nextId i staged (.stack (moduleIndex b) a) _ (keepPiece dr x.nextId i _ (withFree (atWork dr (inFlight x d r mv) fs k b) j))).1.map _,
    (bulkWrite (dr / 2) dr x.nextId i staged (.stack (moduleIndex b) a) _ (keepPiece dr x.nextId i _ (withFree (atWork dr (inFlight x d r mv) fs k b) j))).2) = _
  rw [hkeep]
  have hsend : ∀ (c : Body) (bs : List Byte), bulkWrite (dr / 2) dr x.nextId i staged (.stack (moduleIndex c) a) bs c = (none, sendFlit { Flit.blank .droverBulk with
      src := dr / 2, tag := x.nextId, piece := i, drv := some dr, staged := staged, addr := a
      payload := bs.map some, len := bs.length, dst := ctlEp (a / stackBytes) } c) := fun c bs => if_pos rfl
  have hown := hsend (atWork dr (inFlight x d (keptIn r i (bytesAt (stn b (dr / 2)).sram w.off n)) mv) fs j b) (bytesAt (stn b (dr / 2)).sram w.off n)
  rw [moduleIndex_atWork] at hown
  rw [hown]
  rfl

end Pieces

/-! ## The descriptor ends and the list goes on -/

/-- A body in which the list of drover `dr` goes on at descriptor `ix`, the drover holding `y`. -/
def listAt (dr : Nat) (y : Drover) (fs : List Flit) (k ix : Nat) (b : Body) : Body :=
  setF (setF (atWork dr y fs k b) R.DRV_STATUS.list_index dr ix) R.DRV_STATUS.state dr 1

section Ends

variable {dr k ix : Nat} {y : Drover} {fs : List Flit} {b : Body} {e : DrvEntry}

theorem showDrover_busy {c : Body} (hrun : getF c R.DRV_STATUS.state dr ≠ 2) (hbusy : (drv c dr).busy = true) : showDrover dr c = setF c R.DRV_STATUS.state dr 1 := by
  unfold showDrover
  rw [if_neg hrun, hbusy]
  rfl

theorem busy_of_current (h : y.current = some e) : y.busy = true := by simp [Drover.busy, h]

theorem descDone_list (hlist : e.isList = true) (hix : getF b R.DRV_STATUS.list_index dr < 4095) : descDone dr e false (atWork dr y fs k b)
    = setF (atWork dr { y with moving := none } fs k b) R.DRV_STATUS.list_index dr (getF b R.DRV_STATUS.list_index dr + 1) := by
  unfold descDone
  rw [updDrv_atWork, if_pos ⟨hlist, rfl⟩]
  exact if_neg (by rw [getF_atWork]; omega)

theorem showDrover_listAt (hrun : getF b R.DRV_STATUS.state dr ≠ 2) (hcur : y.current = some e) :
    showDrover dr (setF (atWork dr y fs k b) R.DRV_STATUS.list_index dr ix) = listAt dr y fs k ix b := by
  refine showDrover_busy ?_ ?_
  · rwa [getF_setF_other _ _ (by decide) (by decide) (by decide), getF_atWork]
  · exact busy_of_current ((congrArg Drover.current (drv_atWork_same (fs := fs) (k := k) (b := b))).trans hcur)

@[simp] theorem drv_setF (c : Body) (f : Field) (i v z : Nat) : drv (setF c f i v) z = drv c z := rfl

theorem listAt_only {ps : List Part} (hd : Part.drovers ∈ ps) (hf : Part.fabric ∈ ps) (hk : Part.free ∈ ps) (hr : Part.regs ∈ ps) :
    Only ps b (listAt dr y fs k ix b) := by
  simp [listAt, hr, atWork_only hd hf hk]

theorem listAt_quiet {ps : List Part} (hd : Part.drovers ∈ ps) (hk : Part.free ∈ ps) (hr : Part.regs ∈ ps) :
    Only ps b (listAt dr y b.fabric k ix b) := by
  have hfab : Only ps b (atWork dr y b.fabric k b) := by
    intro p
    cases p <;> first | exact .inl hd | exact .inl hk | exact .inr rfl
  simp [listAt, hr, hfab]

/-- What the list of a drover shows once the descriptor is done. -/
theorem listAt_shows (hix : ix < 4096) (hcur : y.current = some e) (hmv : y.moving = none) : let c := listAt dr y fs k ix b
    getF c R.DRV_STATUS.list_index dr = ix ∧ getF c R.DRV_STATUS.state dr = 1 ∧ (drv c dr).current = some e ∧ (drv c dr).moving = none
      ∧ ∀ z, z ≠ dr → drv c z = drv b z := by
  refine ⟨?_, getF_setF_fits (by decide), ?_, ?_, fun z hz => ?_⟩
  · rw [listAt, getF_setF_other _ _ (by decide) (by decide) (by decide)]
    exact getF_setF_fits hix
  · simp [listAt, hcur]
  · simp [listAt, hmv]
  · simp [listAt, drv_atWork_ne hz]

@[simp] theorem drv_listAt : drv (listAt dr y fs k ix b) dr = y := by simp [listAt]

@[simp] theorem listAt_fabric : (listAt dr y fs k ix b).fabric = fs := rfl

end Ends

/-! ## The command of a descriptor -/

/-- A transfer as it opens (R190). -/
def newTransfer (x : Drover) (e : DrvEntry) (d : Desc) (signal : Option Nat) (bytes : Nat) (mods : List Nat) (now : Nat) : Transfer :=
  { id := x.nextId, flying := [], tally := d.tally, signal := signal, chk := d.chk, frame := d.frame, bytes := bytes, pieces := []
    count := 0, entry := e, entryIx := x.entryIx, modules := mods, desc := d, since := now }

section Command

variable {dr k : Nat} {b : Body} {e : DrvEntry} {x : Drover} {d : Desc}

theorem ownRead_sound {dr off len : Nat} {b : Body} (h : ∀ u, SMap.get (stn b (dr / 2)).badSram [] u = []) :
    ∃ j, ownRead dr off len b = ((bytesAt (stn b (dr / 2)).sram off len, none), withFree b j) := by
  obtain ⟨j, hj⟩ := readSram_sound off len h
  exact ⟨j, by rw [ownRead, hj]; rfl⟩

theorem descCommand_list {kind : Nat} (hclk : clocked b (dr / 2) = true) (hrun : getF b R.DRV_STATUS.state dr ≠ 2) (hx : drv b dr = x)
    (hwait : x.waiting = none) (hmv : x.moving = none) (hcur : x.current = some e) (hlist : e.isList = true)
    (hin : e.listOff + 64 * getF b R.DRV_STATUS.list_index dr + 64 ≤ 0x600000) (hsound : ∀ u, SMap.get (stn b (dr / 2)).badSram [] u = [])
    (hdesc : descOf (bytesAt (stn b (dr / 2)).sram (e.listOff + 64 * getF b R.DRV_STATUS.list_index dr) 64) = d) (hkind : d.kind = kind) :
    ∃ j, descCommand dr kind b = showDrover dr (runDesc dr e d (e.listOff + 64 * getF b R.DRV_STATUS.list_index dr) (withFree b j)) := by
  obtain ⟨j, hj⟩ := ownRead_sound (dr := dr) (off := e.listOff + 64 * getF b R.DRV_STATUS.list_index dr) (len := 64) hsound
  refine ⟨j, ?_⟩
  have hgo : ¬ ((!clocked b (dr / 2)) = true ∨ getF b R.DRV_STATUS.state dr = 2 ∨ (drv b dr).waiting.isSome = true ∨ (drv b dr).moving.isSome = true) := by
    simp [hclk, hrun, hx, hwait, hmv]
  subst hx
  unfold descCommand
  simp only [if_neg hgo, hcur, hlist, if_neg (Nat.not_lt.mpr hin), hj, hdesc, hkind]
  rfl

/-- The descriptor is noted as the one that runs. -/
theorem runDesc_starts (hx : drv b dr = x) (j : Nat) :
    updDrv (withFree b j) dr (fun y => { y with running := d }) = atWork dr { x with running := d } b.fabric j b := by
  subst hx
  rfl

/-- A drover that runs a SIGNAL: its signal is in the order of signals. -/
def signalling (x : Drover) (e : DrvEntry) (d : Desc) (now : Nat) : Drover :=
  { x with running := d, nextId := x.nextId + 1, transfers := x.transfers ++ [newTransfer x e d (some d.value) 0 [] now] }

variable (hx : drv b dr = x) (hfault : descFault b (dr / 2) d = none)
include hx hfault

theorem runDesc_moves {off j : Nat} (hmoves : d.moves = true) :
    runDesc dr e d off (withFree b j) = runMoving dr e d (atWork dr { x with running := d } b.fabric j b) := by
  unfold runDesc
  simp only [runDesc_starts hx, descFault_atWork, hfault, hmoves, if_true]

theorem runDesc_signal {off j : Nat} (hkind : d.kind = 5) : runDesc dr e d off (withFree b j)
    = descDone dr e d.last (atWork dr (signalling x e d b.now) b.fabric j b) := by
  have hstill : d.moves = false := by simp [Desc.moves, hkind]
  unfold runDesc
  simp only [runDesc_starts hx, descFault_atWork, hfault, hstill, hkind, Bool.false_eq_true, if_false, if_true]
  exact congrArg (descDone dr e d.last) (updDrv_atWork _)

theorem runDesc_wait {off j : Nat} (hkind : d.kind = 6) : runDesc dr e d off (withFree b j)
    = if tallySatisfied (stn b (dr / 2)) d.tally d.value then descDone dr e d.last (atWork dr { x with running := d } b.fabric j b)
      else atWork dr { x with running := d, waiting := some (d.tally, d.value) } b.fabric j b := by
  have hstill : d.moves = false := by simp [Desc.moves, hkind]
  unfold runDesc
  simp only [runDesc_starts hx, descFault_atWork, hfault, hstill, hkind, Bool.false_eq_true, if_false, stn_atWork, updDrv_atWork,
    if_neg (show ¬ (6 = 5) by decide)]

end Command

/-- The length of the indices that a descriptor reads. -/
def indexBytes (d : Desc) : Nat := if d.kind = 3 ∨ d.kind = 4 then 4 * d.count else 0

/-- The indices of a gathered or scattered descriptor. -/
def indicesOf (m : SMap Byte) (d : Desc) : List Nat := unpack 32 (ofLeBytes (bytesAt m d.index (indexBytes d))) (indexBytes d / 4)

theorem runMoving_starts {dr k : Nat} {b : Body} {e : DrvEntry} {x : Drover} {d : Desc} {fs : List Flit} {ms : List Move}
    (hsound : ∀ u, SMap.get (stn b (dr / 2)).badSram [] u = [])
    (hms : movesOf d (indicesOf (stn b (dr / 2)).sram d) = ms) : ∃ j mods, runMoving dr e d (atWork dr { x with running := d } fs k b)
      = pump dr pumpFuel (atWork dr (inFlight x d (newTransfer x e d (if d.notally then none else some 1) (d.length * ms.length) mods b.now)
        ⟨x.nextId, ms, 0, 0⟩) fs j b) := by
  obtain ⟨j, hj⟩ := ownRead_sound (dr := dr) (off := d.index) (len := indexBytes d) (b := atWork dr { x with running := d } fs k b) hsound
  refine ⟨j, descModules (withFree (atWork dr { x with running := d } fs k b) j) d ms, ?_⟩
  subst hms
  unfold runMoving
  simp only [show (if d.kind = 3 ∨ d.kind = 4 then 4 * d.count else 0) = indexBytes d from rfl, hj, drv_atWork_same]
  unfold openTransfer
  rw [withFree_atWork, updDrv_atWork, updDrv_atWork]
  rfl

end Sys2Proof.Machine

/-! SUPPORT. The moves of a descriptor and what they send (O32). -/

namespace Sys2Proof.Machine

/-! ## The moves of a descriptor in the order of its loop (R188) -/

theorem advance_low {a n : Nat} (h : a + n < 2 ^ 48) : advance a n = some (a + n) := by
  have hspace : (sysAddr a).space = 0 := by simp [sysAddr, bits]; omega
  have hix : (sysAddr a).ix = 0 := by simp [sysAddr, bits]; omega
  have haddr : (sysAddr a).addr = a := by simp [sysAddr, bits]; omega
  unfold advance
  simp only [haddr, if_pos h]
  simp [SysAddr.pack, hspace, hix]

theorem movesOf_copy {d : Desc} (h : d.kind = 1) (idx : List Nat) : movesOf d idx = [⟨some d.src, some d.dst, d.length⟩] := by
  unfold movesOf
  simp only [h]

theorem movesOf_strided {d : Desc} (h : d.kind = 2) (hcount : d.count = 2) (hs : d.src + d.srcStride < 2 ^ 48) (ht : d.dst + d.dstStride < 2 ^ 48) (idx : List Nat) :
    movesOf d idx = [⟨some d.src, some d.dst, d.length⟩, ⟨some (d.src + d.srcStride), some (d.dst + d.dstStride), d.length⟩] := by
  unfold movesOf
  rw [h, hcount]
  simp [List.range_succ, advance_low hs, advance_low ht, advance_low (show d.src + 0 < 2 ^ 48 by omega), advance_low (show d.dst + 0 < 2 ^ 48 by omega)]

theorem movesOf_gather {d : Desc} {i0 i1 : Nat} (h : d.kind = 3) (hs0 : d.src + i0 * d.length < 2 ^ 48) (hs1 : d.src + i1 * d.length < 2 ^ 48)
    (ht : d.dst + d.length < 2 ^ 48) : movesOf d [i0, i1]
      = [⟨some (d.src + i0 * d.length), some d.dst, d.length⟩, ⟨some (d.src + i1 * d.length), some (d.dst + d.length), d.length⟩] := by
  unfold movesOf
  rw [h]
  simp [advance_low hs0, advance_low hs1, advance_low ht, advance_low (show d.dst + 0 < 2 ^ 48 by omega)]

theorem movesOf_scatter {d : Desc} {i0 i1 : Nat} (h : d.kind = 4) (ht0 : d.dst + i0 * d.length < 2 ^ 48) (ht1 : d.dst + i1 * d.length < 2 ^ 48)
    (hs : d.src + d.length < 2 ^ 48) : movesOf d [i0, i1]
      = [⟨some d.src, some (d.dst + i0 * d.length), d.length⟩, ⟨some (d.src + d.length), some (d.dst + i1 * d.length), d.length⟩] := by
  unfold movesOf
  rw [h]
  simp [advance_low ht0, advance_low ht1, advance_low hs, advance_low (show d.src + 0 < 2 ^ 48 by omega)]

theorem ofLeBytes_append : ∀ xs ys : List Byte, ofLeBytes (xs ++ ys) = ofLeBytes xs + 256 ^ xs.length * ofLeBytes ys
  | [], ys => by simp [ofLeBytes]
  | x :: xs, ys => by
    simp only [List.cons_append, ofLeBytes, ofLeBytes_append xs ys, List.length_cons, pow_succ]
    ring

theorem ofLeBytes_lt : ∀ xs : List Byte, ofLeBytes xs < 256 ^ xs.length
  | [] => by simp [ofLeBytes]
  | x :: xs => by
    have hx := x.isLt
    have hxs := ofLeBytes_lt xs
    simp only [ofLeBytes, List.length_cons, pow_succ]
    omega

theorem bytesAt_split (m : SMap Byte) (off j k : Nat) : bytesAt m off (j + k) = bytesAt m off j ++ bytesAt m (off + j) k := by
  simp [bytesAt, List.range_add, Nat.add_assoc]

/-- The two indices of a gathered or scattered descriptor are two words of own SRAM. -/
theorem indicesOf_two {m : SMap Byte} {d : Desc} (h : d.kind = 3 ∨ d.kind = 4) (hcount : d.count = 2) :
    indicesOf m d = [ofLeBytes (bytesAt m d.index 4), ofLeBytes (bytesAt m (d.index + 4) 4)] := by
  have h0 := ofLeBytes_lt (bytesAt m d.index 4)
  have h1 := ofLeBytes_lt (bytesAt m (d.index + 4) 4)
  have hlen : ∀ o, (bytesAt m o 4).length = 4 := fun o => by simp [bytesAt]
  rw [hlen] at h0 h1
  have hbytes : indexBytes d = 4 + 4 := by rw [indexBytes, if_pos h, hcount]
  unfold indicesOf
  rw [hbytes, bytesAt_split, ofLeBytes_append, hlen]
  simp only [unpack, show (4 + 4) / 4 = 2 from rfl]
  congr 2 <;> omega

/-! ## One flit for each move (R189, R190) -/

theorem pieceLen_fetch {staged : Bool} {m m' a n : Nat} {w : WinAddr} (hn : n ≤ 224) (hroom : a % stackBytes + n ≤ stackBytes) :
    pieceLen staged (.stack m a) (.station m' w) n = n := by
  unfold pieceLen Place.room
  simp only [ite_self]
  omega

theorem pieceLen_store {staged : Bool} {m m' a n : Nat} {w : WinAddr} (hn : n ≤ 224) (hroom : a % stackBytes + n ≤ stackBytes) :
    pieceLen staged (.station m w) (.stack m' a) n = n := by
  unfold pieceLen Place.room
  simp only
  split <;> omega

/-- A drover that has issued all the flits of its newest transfer. -/
def issuedAll (x : Drover) (d : Desc) (r : Transfer) : Drover :=
  { x with running := d, nextId := x.nextId + 1, transfers := x.transfers ++ [r], moving := none }

/-- A drover ready for descriptor `d` of the list of its entry. -/
structure ListReady (dr : Nat) (b : Body) (e : DrvEntry) (x : Drover) (d : Desc) : Prop where
  unit : isDrover dr = true
  holds : drv b dr = x
  current : x.current = some e
  list : e.isList = true
  waits : x.waiting = none
  still : x.moving = none
  runs : getF b R.DRV_STATUS.state dr ≠ 2
  clock : clocked b (dr / 2) = true
  quiet : flagF b R.STN_DIE_CTRL.quiesce (dr / 128) = false
  room : x.outstanding ≤ 62
  ids : ∀ r ∈ x.transfers, r.id < x.nextId
  more : getF b R.DRV_STATUS.list_index dr < 4095
  inside : e.listOff + 64 * getF b R.DRV_STATUS.list_index dr + 64 ≤ 0x600000
  sound : ∀ y u, SMap.get (stn b y).badSram [] u = []
  desc : descOf (bytesAt (stn b (dr / 2)).sram (e.listOff + 64 * getF b R.DRV_STATUS.list_index dr) 64) = d
  legal : descFault b (dr / 2) d = none
  last : d.last = false

namespace ListReady

variable {dr : Nat} {b : Body} {e : DrvEntry} {x : Drover} {d : Desc} (h : ListReady dr b e x d)
include h

theorem command {kind : Nat} (hkind : d.kind = kind) :
    ∃ j, descCommand dr kind b = showDrover dr (runDesc dr e d (e.listOff + 64 * getF b R.DRV_STATUS.list_index dr) (withFree b j)) :=
  descCommand_list h.clock h.runs h.holds h.waits h.still h.current h.list h.inside (h.sound _) h.desc hkind

theorem moves {kind : Nat} {ms : List Move} (hkind : d.kind = kind) (h1 : 1 ≤ kind) (h4 : kind ≤ 4)
    (hms : movesOf d (indicesOf (stn b (dr / 2)).sram d) = ms) : ∃ j mods, descCommand dr kind b
      = showDrover dr (pump dr pumpFuel (atWork dr (inFlight x d (newTransfer x e d (if d.notally then none else some 1) (d.length * ms.length) mods b.now)
        ⟨x.nextId, ms, 0, 0⟩) b.fabric j b)) := by
  have hmoves : d.moves = true := by simp [Desc.moves, hkind, h1, h4]
  obtain ⟨j, hj⟩ := h.command hkind
  obtain ⟨k, mods, hk⟩ := runMoving_starts (k := j) (fs := b.fabric) (e := e) (x := x) (h.sound (dr / 2)) hms
  exact ⟨k, mods, by rw [hj, runDesc_moves h.holds h.legal hmoves, hk]⟩

/-- With no move left the list goes on. -/
theorem ends (r : Transfer) (fs : List Flit) (j fuel i : Nat) :
    showDrover dr (pump dr (fuel + 1) (atWork dr (inFlight x d r ⟨x.nextId, [], 0, i⟩) fs j b))
      = listAt dr (issuedAll x d r) fs j (getF b R.DRV_STATUS.list_index dr + 1) b := by
  have hcur : (inFlight x d r ⟨x.nextId, [], 0, i⟩).current = some e := h.current
  have hpump : pump dr (fuel + 1) (atWork dr (inFlight x d r ⟨x.nextId, [], 0, i⟩) fs j b)
      = setF (atWork dr (issuedAll x d r) fs j b) R.DRV_STATUS.list_index dr (getF b R.DRV_STATUS.list_index dr + 1) := by
    rw [pump]
    simp only [drv_atWork_same, hcur, show (inFlight x d r ⟨x.nextId, [], 0, i⟩).moving = some ⟨x.nextId, [], 0, i⟩ from rfl,
      show (inFlight x d r ⟨x.nextId, [], 0, i⟩).running = d from rfl, h.last]
    exact descDone_list h.list h.more
  rw [hpump]
  exact showDrover_listAt h.runs (e := e) h.current

/-! ## One move and two moves -/

/-- What a transfer keeps while its flits go out. -/
def SameTransfer (r r' : Transfer) : Prop :=
  r'.id = r.id ∧ r'.tally = r.tally ∧ r'.signal = r.signal ∧ r'.entry = r.entry

theorem one {kind : Nat} {m : Move} {p q : Place} {g : Flit} (hkind : d.kind = kind) (h1 : 1 ≤ kind) (h4 : kind ≤ 4)
    (hms : movesOf d (indicesOf (stn b (dr / 2)).sram d) = [m]) (hends : moveEnds b d m = some (p, q)) (hclear : moveFault b d (dr / 2) m = none)
    (hlen : pieceLen d.staged p q m.len = m.len)
    (hissue : ∀ (r : Transfer) (j : Nat), r.id = x.nextId → ∃ k r', issuePiece dr x.nextId 0 d.staged p q m.len
      (atWork dr (inFlight x d (flown r 0 (q.moduleOf (moduleIndex b)) q.addr m.len) ⟨x.nextId, [], 0, 1⟩) b.fabric j b)
        = (none, atWork dr (inFlight x d r' ⟨x.nextId, [], 0, 1⟩) (b.fabric ++ [g]) k b)
      ∧ SameTransfer r r' ∧ r'.flying.length = r.flying.length + 1 ∧ r'.count = r.count + 1) :
    ∃ k r, descCommand dr kind b = listAt dr (issuedAll x d r) (b.fabric ++ [g]) k (getF b R.DRV_STATUS.list_index dr + 1) b
      ∧ r.id = x.nextId ∧ r.tally = d.tally ∧ r.signal = (if d.notally then none else some 1) ∧ r.entry = e ∧ r.flying.length = 1 ∧ r.count = 1 := by
  obtain ⟨j, mods, hstart⟩ := h.moves hkind h1 h4 hms
  obtain ⟨k, r, hgo, ⟨hid, htally, hsignal, hentry⟩, hflying, hcount⟩ := hissue
    (newTransfer x e d (if d.notally then none else some 1) (d.length * [m].length) mods b.now) j rfl
  refine ⟨k, r, ?_, hid, htally, hsignal, hentry, hflying, hcount⟩
  have hroom : x.outstanding + (newTransfer x e d (if d.notally then none else some 1) (d.length * [m].length) mods b.now).flying.length < 64 := by
    have := h.room
    simp [newTransfer]
    omega
  rw [hstart, pumpFuel, pump_issues h.ids rfl h.current 64 hroom h.quiet hends hclear hlen rfl hgo, h.ends]

theorem two {kind : Nat} {m0 m1 : Move} {a0 a1 : Nat} {w0 w1 : WinAddr} (hkind : d.kind = kind) (h1 : 1 ≤ kind) (h4 : kind ≤ 4)
    (hms : movesOf d (indicesOf (stn b (dr / 2)).sram d) = [m0, m1])
    (hends0 : moveEnds b d m0 = some (.stack (moduleIndex b) a0, .station (moduleIndex b) w0)) (hclear0 : moveFault b d (dr / 2) m0 = none)
    (hends1 : moveEnds b d m1 = some (.stack (moduleIndex b) a1, .station (moduleIndex b) w1)) (hclear1 : moveFault b d (dr / 2) m1 = none)
    (hn0 : m0.len ≤ 224) (hn1 : m1.len ≤ 224) (hroom0 : a0 % stackBytes + m0.len ≤ stackBytes) (hroom1 : a1 % stackBytes + m1.len ≤ stackBytes)
    (hapart : (winBase w0.die w0.lst + w0.off) + m0.len ≤ winBase w1.die w1.lst + w1.off
      ∨ (winBase w1.die w1.lst + w1.off) + m1.len ≤ winBase w0.die w0.lst + w0.off) :
    ∃ k r, descCommand dr kind b = listAt dr (issuedAll x d r) (b.fabric
        ++ [readAsk dr x.nextId 0 d.staged a0 (winBase w0.die w0.lst + w0.off) m0.len (ctlEp (a0 / stackBytes)),
          readAsk dr x.nextId 1 d.staged a1 (winBase w1.die w1.lst + w1.off) m1.len (ctlEp (a1 / stackBytes))])
        k (getF b R.DRV_STATUS.list_index dr + 1) b
      ∧ r.id = x.nextId ∧ r.tally = d.tally ∧ r.signal = (if d.notally then none else some 1) ∧ r.entry = e ∧ r.flying.length = 2 ∧ r.count = 2 := by
  obtain ⟨j, mods, hstart⟩ := h.moves hkind h1 h4 hms
  generalize hr : newTransfer x e d (if d.notally then none else some 1) (d.length * [m0, m1].length) mods b.now = r at hstart
  have hnew : r.id = x.nextId ∧ r.flying = [] ∧ r.tally = d.tally ∧ r.signal = (if d.notally then none else some 1) ∧ r.entry = e ∧ r.count = 0 := by
    subst hr
    exact ⟨rfl, rfl, rfl, rfl, rfl, rfl⟩
  obtain ⟨hid, hflying, htally, hsignal, hentry, hcount⟩ := hnew
  have hquiet0 : r.flying.any (fun z => z.moduleIx == (Place.station (moduleIndex b) w0).moduleOf (moduleIndex b)
      && decide ((Place.station (moduleIndex b) w0).addr < z.addr + z.len) && decide (z.addr < (Place.station (moduleIndex b) w0).addr + m0.len)) = false := by
    rw [hflying]
    rfl
  obtain ⟨r1, hr1⟩ : ∃ z, z = flown r 0 (moduleIndex b) (winBase w0.die w0.lst + w0.off) m0.len := ⟨_, rfl⟩
  have hone : r1.flying = [⟨0, moduleIndex b, winBase w0.die w0.lst + w0.off, m0.len⟩] := by
    rw [hr1, flown, hflying]
    rfl
  have hid1 : r1.id = x.nextId := by rw [hr1]; exact hid
  have hquiet1 : r1.flying.any (fun z => z.moduleIx == (Place.station (moduleIndex b) w1).moduleOf (moduleIndex b)
      && decide ((Place.station (moduleIndex b) w1).addr < z.addr + z.len) && decide (z.addr < (Place.station (moduleIndex b) w1).addr + m1.len)) = false := by
    rcases hapart with hle | hle
    · simp [hone, Place.moduleOf, Place.addr, Nat.not_lt.mpr hle]
    · simp [hone, Place.moduleOf, Place.addr, Nat.not_lt.mpr hle]
  have hroomx := h.room
  have hfirst : pump dr pumpFuel (atWork dr (inFlight x d r ⟨x.nextId, [m0, m1], 0, 0⟩) b.fabric j b)
      = pump dr 64 (atWork dr (inFlight x d r1 ⟨x.nextId, [m1], 0, 1⟩)
        (b.fabric ++ [readAsk dr x.nextId 0 d.staged a0 (winBase w0.die w0.lst + w0.off) m0.len (ctlEp (a0 / stackBytes))]) j b) := by
    rw [hr1]
    exact pump_issues h.ids hid h.current 64 (by rw [hflying]; simp; omega) h.quiet hends0 hclear0 (pieceLen_fetch hn0 hroom0) hquiet0 issuePiece_fetch
  have hsecond : ∀ fs, pump dr 64 (atWork dr (inFlight x d r1 ⟨x.nextId, [m1], 0, 1⟩) fs j b)
      = pump dr 63 (atWork dr (inFlight x d (flown r1 1 (moduleIndex b) (winBase w1.die w1.lst + w1.off) m1.len) ⟨x.nextId, [], 0, 2⟩)
        (fs ++ [readAsk dr x.nextId 1 d.staged a1 (winBase w1.die w1.lst + w1.off) m1.len (ctlEp (a1 / stackBytes))]) j b) := fun fs => by
    exact pump_issues h.ids hid1 h.current 63 (by rw [hone]; simp; omega) h.quiet hends1 hclear1 (pieceLen_fetch hn1 hroom1) hquiet1 issuePiece_fetch
  refine ⟨j, flown r1 1 (moduleIndex b) (winBase w1.die w1.lst + w1.off) m1.len, ?_, hid1, ?_, ?_, ?_, ?_, ?_⟩
  · rw [hstart, hfirst, hsecond, h.ends, List.append_assoc]
    rfl
  · rw [hr1]
    exact htally
  · rw [hr1]
    exact hsignal
  · rw [hr1]
    exact hentry
  · simp [flown, hone]
  · simp [flown, hr1, hcount]

/-! ## A copy by its direction -/

theorem fetches {kind a : Nat} {m : Move} {w : WinAddr} (hkind : d.kind = kind) (h1 : 1 ≤ kind) (h4 : kind ≤ 4)
    (hms : movesOf d (indicesOf (stn b (dr / 2)).sram d) = [m]) (hends : moveEnds b d m = some (.stack (moduleIndex b) a, .station (moduleIndex b) w))
    (hclear : moveFault b d (dr / 2) m = none) (hn : m.len ≤ 224) (hroom : a % stackBytes + m.len ≤ stackBytes) :
    ∃ k r, descCommand dr kind b = listAt dr (issuedAll x d r) (b.fabric
        ++ [readAsk dr x.nextId 0 d.staged a (winBase w.die w.lst + w.off) m.len (ctlEp (a / stackBytes))]) k (getF b R.DRV_STATUS.list_index dr + 1) b
      ∧ r.id = x.nextId ∧ r.tally = d.tally ∧ r.signal = (if d.notally then none else some 1) ∧ r.entry = e ∧ r.flying.length = 1 ∧ r.count = 1 :=
  h.one hkind h1 h4 hms hends hclear (pieceLen_fetch hn hroom) fun r j hid =>
    ⟨j, flown r 0 (moduleIndex b) (winBase w.die w.lst + w.off) m.len, issuePiece_fetch, ⟨rfl, rfl, rfl, rfl⟩, by simp [flown], rfl⟩

theorem stores_other {kind a st : Nat} {m : Move} {w : WinAddr} (hkind : d.kind = kind) (h1 : 1 ≤ kind) (h4 : kind ≤ 4)
    (hms : movesOf d (indicesOf (stn b (dr / 2)).sram d) = [m]) (hends : moveEnds b d m = some (.station (moduleIndex b) w, .stack (moduleIndex b) a))
    (hclear : moveFault b d (dr / 2) m = none) (hn : m.len ≤ 224) (hroom : a % stackBytes + m.len ≤ stackBytes)
    (hphys : physOf b w.die w.lst = some st) (hst : st ≠ dr / 2) :
    ∃ k r, descCommand dr kind b = listAt dr (issuedAll x d r) (b.fabric
        ++ [readAsk dr x.nextId 0 d.staged (winBase w.die w.lst + w.off) a m.len st]) k (getF b R.DRV_STATUS.list_index dr + 1) b
      ∧ r.id = x.nextId ∧ r.tally = d.tally ∧ r.signal = (if d.notally then none else some 1) ∧ r.entry = e ∧ r.flying.length = 1 ∧ r.count = 1 := by
  have hsys : (Place.stack (moduleIndex b) a).sys (moduleIndex b) = a := if_pos rfl
  refine h.one hkind h1 h4 hms hends hclear (pieceLen_store hn hroom) fun r j hid =>
    ⟨j, flown r 0 (moduleIndex b) a m.len, ?_, ⟨rfl, rfl, rfl, rfl⟩, by simp [flown], rfl⟩
  rw [issuePiece_station hphys hst, hsys]
  rfl

/-- The flit with which own bytes go on to a controller. -/
def ownFlit (dr tid : Nat) (staged : Bool) (a : Nat) (bs : List Byte) : Flit :=
  { Flit.blank .droverBulk with
    src := dr / 2, tag := tid, piece := 0, drv := some dr, staged := staged, addr := a, payload := bs.map some, len := bs.length
    dst := ctlEp (a / stackBytes) }

theorem stores_own {kind a : Nat} {m : Move} {w : WinAddr} (hkind : d.kind = kind) (h1 : 1 ≤ kind) (h4 : kind ≤ 4)
    (hms : movesOf d (indicesOf (stn b (dr / 2)).sram d) = [m]) (hends : moveEnds b d m = some (.station (moduleIndex b) w, .stack (moduleIndex b) a))
    (hclear : moveFault b d (dr / 2) m = none) (hn : m.len ≤ 224) (hroom : a % stackBytes + m.len ≤ stackBytes)
    (hphys : physOf b w.die w.lst = some (dr / 2)) :
    ∃ k r, descCommand dr kind b = listAt dr (issuedAll x d r) (b.fabric
        ++ [ownFlit dr x.nextId d.staged a (bytesAt (stn b (dr / 2)).sram w.off m.len)]) k (getF b R.DRV_STATUS.list_index dr + 1) b
      ∧ r.id = x.nextId ∧ r.tally = d.tally ∧ r.signal = (if d.notally then none else some 1) ∧ r.entry = e ∧ r.flying.length = 1 ∧ r.count = 1 := by
  refine h.one hkind h1 h4 hms hends hclear (pieceLen_store hn hroom) fun r j hid => ?_
  have hflown : (flown r 0 (moduleIndex b) a m.len).id = x.nextId := hid
  obtain ⟨k, hk⟩ := issuePiece_own (d := d) (mv := ⟨x.nextId, [], 0, 1⟩) (k := j) (fs := b.fabric) (staged := d.staged) (i := 0) (n := m.len) (a := a)
    h.ids hflown hphys (h.sound _)
  refine ⟨k, _, hk, ?_, ?_, ?_⟩
  · unfold keptIn
    split <;> exact ⟨rfl, rfl, rfl, rfl⟩
  · unfold keptIn
    split <;> simp [flown]
  · unfold keptIn
    split <;> rfl

end ListReady

/-- Settles O32: the descriptor is read, found legal and run by its kind; each move fits one flit. -/
theorem droverDescriptors : Obligations.DroverDescriptors := by
  intro dr s e hdr hcur hlist hwait hmv hrun hclk hquiet hroom ix x t hids hix hin hsound d hdesc hfault hlast goesOn opened clear asks i0 i1 me two
  have h : ListReady dr s.body e x d :=
    ⟨hdr, rfl, hcur, hlist, hwait, hmv, hrun, hclk, hquiet, hroom, hids, hix, hin, hsound, hdesc, hfault, hlast⟩
  have hgoes : ∀ r fs k, goesOn (listAt dr (issuedAll x d r) fs k (ix + 1) s.body) := fun r fs k =>
    listAt_shows (y := issuedAll x d r) (show ix + 1 < 4096 by omega) hcur rfl
  have honly : ∀ r fs k, Only [.drovers, .fabric, .free, .regs] s.body (listAt dr (issuedAll x d r) fs k (ix + 1) s.body) := fun r fs k =>
    listAt_only (by decide) (by decide) (by decide) (by decide)
  have hopened : ∀ r fs k n, r.id = x.nextId → r.tally = d.tally → r.signal = (if d.notally then none else some 1) → r.entry = e → r.flying.length = n →
      r.count = n → opened (listAt dr (issuedAll x d r) fs k (ix + 1) s.body) n := fun r fs k n hid htally hsignal hentry hflying hcount =>
    ⟨r, congrArg Drover.transfers drv_listAt, hid, hflying, hcount, htally, hsignal, hentry⟩
  have htwo : ∀ s0 t0 s1 t1 kind c, exec c s = onUnit (isDrover dr) (descCommand dr kind) s → d.kind = kind → 1 ≤ kind → kind ≤ 4 → d.length ≤ 224 →
      (s0 < 2 ^ 48 → t0 < 2 ^ 48 → s1 < 2 ^ 48 → t1 < 2 ^ 48 →
        movesOf d (indicesOf t.sram d) = [⟨some s0, some t0, d.length⟩, ⟨some s1, some t1, d.length⟩]) → two s0 t0 s1 t1 c := by
    intro s0 t0 s1 t1 kind c hexec hkind h1 h4 hlen hms w0 w1 hs0 ht0 hs1 ht1 hends0 hclear0 hends1 hclear1 hroom0 hroom1 hapart
    obtain ⟨k, r, hgo, hid, htally, hsignal, hentry, hflying, hcount⟩ := h.two hkind h1 h4 (hms hs0 ht0 hs1 ht1) hends0 hclear0 hends1 hclear1 hlen hlen
      hroom0 hroom1 hapart
    exact runs_of_lift (hexec.trans (lift_of_onUnit hdr)) hgo (honly _ _ _) ⟨hgoes _ _ _, hopened _ _ _ _ hid htally hsignal hentry hflying hcount,
      _, _, rfl, ⟨rfl, rfl, rfl, rfl, rfl, rfl, rfl, rfl, rfl, rfl⟩, ⟨rfl, rfl, rfl, rfl, rfl, rfl, rfl, rfl, rfl, rfl⟩⟩
  refine ⟨fun a w hkind hlen hends hclear hroom => ?_, fun w a st hkind hlen hends hclear hroom hphys => ?_, fun hkind hlen hcount hs ht => ?_,
    fun hkind hlen hcount hs ht => ?_, fun hkind hlen hcount hs ht => ?_, fun hkind => ?_, fun hkind hsat => ?_, fun hkind hsat => ?_⟩
  · obtain ⟨k, r, hgo, hid, htally, hsignal, hentry, hflying, hcount⟩ := h.fetches hkind (by decide) (by decide) (movesOf_copy hkind _) hends hclear hlen hroom
    exact runs_of_lift (lift_of_onUnit hdr) hgo (honly _ _ _) ⟨hgoes _ _ _, hopened _ _ _ _ hid htally hsignal hentry hflying hcount,
      _, rfl, rfl, rfl, rfl, rfl, rfl, rfl, rfl, rfl, rfl, rfl⟩
  · by_cases hst : st = dr / 2
    · subst hst
      obtain ⟨k, r, hgo, hid, htally, hsignal, hentry, hflying, hcount⟩ := h.stores_own hkind (by decide) (by decide) (movesOf_copy hkind _) hends hclear hlen
        hroom hphys
      exact runs_of_lift (lift_of_onUnit hdr) hgo (honly _ _ _) ⟨hgoes _ _ _, hopened _ _ _ _ hid htally hsignal hentry hflying hcount,
        _, rfl, rfl, rfl, rfl, rfl, rfl, rfl, fun _ => ⟨rfl, rfl, rfl, rfl⟩, fun hne => absurd rfl hne⟩
    · obtain ⟨k, r, hgo, hid, htally, hsignal, hentry, hflying, hcount⟩ := h.stores_other hkind (by decide) (by decide) (movesOf_copy hkind _) hends hclear hlen
        hroom hphys hst
      exact runs_of_lift (lift_of_onUnit hdr) hgo (honly _ _ _) ⟨hgoes _ _ _, hopened _ _ _ _ hid htally hsignal hentry hflying hcount,
        _, rfl, rfl, rfl, rfl, rfl, rfl, rfl, fun heq => absurd heq hst, fun _ => ⟨rfl, rfl, rfl, rfl, rfl⟩⟩
  · exact htwo _ _ _ _ 2 _ rfl hkind (by decide) (by decide) hlen fun _ _ hs1 ht1 => movesOf_strided hkind hcount hs1 ht1 _
  · refine htwo _ _ _ _ 3 _ rfl hkind (by decide) (by decide) hlen fun hs0 _ hs1 ht1 => ?_
    rw [indicesOf_two (.inl hkind) hcount]
    exact movesOf_gather hkind hs0 hs1 ht1
  · refine htwo _ _ _ _ 4 _ rfl hkind (by decide) (by decide) hlen fun _ ht0 hs1 ht1 => ?_
    rw [indicesOf_two (.inr hkind) hcount]
    exact movesOf_scatter hkind ht0 ht1 hs1
  · obtain ⟨j, hj⟩ := h.command hkind
    have hgo : descCommand dr 5 s.body = listAt dr { signalling x e d s.body.now with moving := none } s.body.fabric j (ix + 1) s.body := by
      rw [hj, runDesc_signal h.holds hfault hkind, hlast, descDone_list hlist hix]
      exact showDrover_listAt (e := e) hrun hcur
    refine runs_of_lift (lift_of_onUnit hdr) hgo (listAt_quiet (by decide) (by decide) (by decide)) ⟨?_, _, congrArg Drover.transfers drv_listAt, rfl, rfl, rfl⟩
    exact listAt_shows (show ix + 1 < 4096 by omega) hcur rfl
  · obtain ⟨j, hj⟩ := h.command hkind
    have hgo : descCommand dr 6 s.body = listAt dr { x with running := d, moving := none } s.body.fabric j (ix + 1) s.body := by
      rw [hj, runDesc_wait h.holds hfault hkind, if_pos hsat, hlast, descDone_list hlist hix]
      exact showDrover_listAt (e := e) hrun hcur
    refine runs_of_lift (lift_of_onUnit hdr) hgo (listAt_quiet (by decide) (by decide) (by decide)) ⟨?_, (congrArg Drover.transfers drv_listAt).trans rfl, ?_⟩
    · exact listAt_shows (show ix + 1 < 4096 by omega) hcur rfl
    · exact (congrArg Drover.waiting drv_listAt).trans hwait
  · obtain ⟨j, hj⟩ := h.command hkind
    have hgo : descCommand dr 6 s.body = setF (atWork dr { x with running := d, waiting := some (d.tally, d.value) } s.body.fabric j s.body)
        R.DRV_STATUS.state dr 1 := by
      rw [hj, runDesc_wait h.holds hfault hkind, if_neg (by rw [hsat]; decide)]
      refine showDrover_busy hrun ?_
      rw [drv_atWork_same]
      exact busy_of_current hcur
    refine runs_of_lift (lift_of_onUnit hdr) hgo ?_ ⟨?_, ?_, ?_⟩
    · intro p
      cases p <;> first | exact .inl (by decide) | exact .inr rfl
    · simp
    · rw [getF_setF_other _ _ (by decide) (by decide) (by decide), getF_atWork]
    · simp

end Sys2Proof.Machine

/-! SUPPORT. The queue and the completions of a drover (O33). -/

namespace Sys2Proof.Machine

theorem traceDesc_touches (dr : Nat) (e : Desc) (cause since pc : Nat) (b : Body) :
    Touches [.regs, .host, .sent, .pmc] recordFields b (traceDesc dr e cause since pc b) :=
  .ite (ringWrite_touches _ _ _ _ _) (.refl _ _ _)

/-! ## A fault of a drover (R191, R209) -/

/-- A body that shows this fault of a drover. -/
def showFault (dr cause detail addr pc : Nat) (fromList : Bool) (b : Body) : Body :=
  let b := setF b R.DRV_FAULT.cause dr cause
  let b := setF b R.DRV_FAULT.detail dr detail
  let b := setF b R.DRV_FAULT.pc dr pc
  let b := setFlag b R.DRV_FAULT.fromList dr fromList
  let b := setF b R.DRV_FAULT.valid dr 1
  let b := setF b R.DRV_FAULT_ADDR.addr dr addr
  report (.drover dr) (setF b R.DRV_STATUS.state dr 2)

section Fault

variable {dr cause detail addr pc : Nat} {fromList : Bool} {b : Body}

theorem showFault_shows : let c := showFault dr cause detail addr pc fromList b
    getF c R.DRV_STATUS.state dr = 2 ∧ getF c R.DRV_FAULT.valid dr = 1 ∧ getF c R.DRV_FAULT.cause dr = cause % 16
      ∧ getF c R.DRV_FAULT.pc dr = pc % 4096 ∧ getF c R.DRV_FAULT_ADDR.addr dr = addr % 2 ^ 64 ∧ .drover dr ∈ c.reports := by
  refine ⟨?_, ?_, ?_, ?_, ?_, List.mem_append_right _ (List.mem_singleton_self _)⟩
  · rw [showFault, getF_report]
    exact getF_setF_fits (by decide)
  all_goals simp (disch := decide) [showFault, -getF_setF_fits, R.DRV_FAULT.valid, R.DRV_FAULT.cause, R.DRV_FAULT.pc, R.DRV_FAULT_ADDR.addr]

theorem drvFault_shows {tid eix : Nat} (h : getF b R.DRV_STATUS.state dr ≠ 2) :
    ∃ c, drvFault dr cause detail addr pc fromList tid eix b = showFault dr cause detail addr pc fromList c
      ∧ c.fabric = b.fabric ∧ c.stations = b.stations := by
  unfold drvFault
  rw [if_neg h]
  refine ⟨_, rfl, ?_, ?_⟩
  · exact (traceDesc_touches _ _ _ _ _ _).same (p := .fabric) (by decide)
  · exact (traceDesc_touches _ _ _ _ _ _).same (p := .stations) (by decide)

end Fault

/-! ## The start of an entry (R190) -/

section Start

variable {dr : Nat} {b : Body} {x : Drover} {e : DrvEntry} (hrun : getF b R.DRV_STATUS.state dr ≠ 2)
include hrun

/-- A drover that has taken its next entry. -/
def taken (x : Drover) (e : DrvEntry) : Drover :=
  { x with replayed := x.replayed.drop 1, queue := if x.replayed.isEmpty then x.queue.drop 1 else x.queue, current := some e, entryIx := x.entryIx + 1 }

theorem getF_taken : getF (setF (updDrv b dr (fun _ => taken x e)) R.DRV_STATUS.list_index dr 0) R.DRV_STATUS.state dr ≠ 2 := by
  rwa [getF_setF_other _ _ (by decide) (by decide) (by decide), getF_updDrv]

variable (hclk : clocked b (dr / 2) = true) (hx : drv b dr = x) (hcur : x.current = none)
include hclk hx hcur

theorem entryStart_takes {rest : List DrvEntry} (hnext : x.replayed ++ x.queue = e :: rest) : entryStart dr b
    = (let c := setF (updDrv b dr (fun _ => taken x e)) R.DRV_STATUS.list_index dr 0
      if e.isList ∧ 0x600000 < e.listOff + 64 then drvFault dr 2 0 e.listOff e.pc true x.nextId (x.entryIx + 1) c
      else if e.isList ∧ e.listOff % 64 ≠ 0 then drvFault dr 3 0 e.listOff e.pc true x.nextId (x.entryIx + 1) c
      else showDrover dr c) := by
  subst hx
  have hgo : ¬ ((!clocked b (dr / 2)) = true ∨ getF b R.DRV_STATUS.state dr = 2 ∨ (drv b dr).current.isSome = true) := by simp [hclk, hrun, hcur]
  unfold entryStart
  simp only [if_neg hgo, hnext]
  rfl

theorem entryStart_starts {rest : List DrvEntry} (hnext : x.replayed ++ x.queue = e :: rest)
    (hgood : e.isList = false ∨ (e.listOff % 64 = 0 ∧ e.listOff + 64 ≤ 0x600000)) : entryStart dr b
      = setF (setF (updDrv b dr (fun _ => taken x e)) R.DRV_STATUS.list_index dr 0) R.DRV_STATUS.state dr 1 := by
  have hno : ∀ P : Prop, (P → ¬ (e.listOff % 64 = 0 ∧ e.listOff + 64 ≤ 0x600000)) → ¬ (e.isList = true ∧ P) := fun P hP ⟨hl, h⟩ => by
    rcases hgood with hg | hg
    · simp [hg] at hl
    · exact hP h hg
  rw [entryStart_takes hrun hclk hx hcur hnext]
  simp only
  rw [if_neg (hno _ fun h => by omega), if_neg (hno _ fun h hg => h hg.1)]
  refine showDrover_busy (getF_taken hrun) ?_
  rw [drv_setF, drv_updDrv_same]
  exact busy_of_current (e := e) rfl

theorem entryStart_misaligned {rest : List DrvEntry} (hnext : x.replayed ++ x.queue = e :: rest) (hlist : e.isList = true) (hmis : e.listOff % 64 ≠ 0)
    (hin : e.listOff + 64 ≤ 0x600000) : ∃ c, entryStart dr b = showFault dr 3 0 e.listOff e.pc true c ∧ c.fabric = b.fabric := by
  obtain ⟨c, hc, hfab, -⟩ := drvFault_shows (cause := 3) (detail := 0) (addr := e.listOff) (pc := e.pc) (fromList := true) (tid := x.nextId)
    (eix := x.entryIx + 1) (getF_taken (e := e) hrun)
  refine ⟨c, ?_, hfab⟩
  rw [entryStart_takes hrun hclk hx hcur hnext, ← hc]
  simp only
  rw [if_neg (fun h => by omega), if_pos ⟨hlist, hmis⟩]

end Start

theorem taken_queued {x : Drover} {e : DrvEntry} {rest : List DrvEntry} (hrep : x.replayed = []) (hqueue : x.queue = e :: rest) :
    taken x e = { x with queue := rest, current := some e, entryIx := x.entryIx + 1 } := by simp [taken, hrep, hqueue]

theorem taken_again {x : Drover} {e : DrvEntry} {rest : List DrvEntry} (hrep : x.replayed = e :: rest) :
    taken x e = { x with replayed := rest, current := some e, entryIx := x.entryIx + 1 } := by simp [taken, hrep]

/-! ## Completion, resume and flush -/

section Completion

variable {dr : Nat} {b : Body} {x : Drover} {r : Transfer} {rest : List Transfer}

theorem updDrv_updDrv_same (f g : Drover → Drover) : updDrv (updDrv b dr f) dr g = updDrv b dr (fun y => g (f y)) := by
  unfold updDrv
  rw [show drv { b with drovers := SMap.put b.drovers Drover.reset dr (f (drv b dr)) } dr = f (drv b dr) from SMap.get_put_same _ _ _ _]
  exact congrArg (fun m => { b with drovers := m }) (SMap.put_put_same _ _ _ _ _)

theorem waitDone_waits {e : DrvEntry} {w : Nat × Nat} (hcur : (drv b dr).current = some e) (hwait : (drv b dr).waiting = some w)
    (h : tallySatisfied (stn b (dr / 2)) w.1 w.2 = false) : waitDone dr b = b := by
  unfold waitDone
  simp only [hcur, hwait, h, Bool.false_eq_true, false_and, and_false, if_false]

theorem waitDone_goes {e : DrvEntry} {w : Nat × Nat} (hclk : clocked b (dr / 2) = true) (hcur : (drv b dr).current = some e)
    (hwait : (drv b dr).waiting = some w) (hrun : getF b R.DRV_STATUS.state dr ≠ 2) (hlist : e.isList = true)
    (hix : getF b R.DRV_STATUS.list_index dr < 4095)
    (hlast : (descOf (bytesAt (stn b (dr / 2)).sram (e.listOff + 64 * getF b R.DRV_STATUS.list_index dr) 64)).last = false)
    (h : tallySatisfied (stn b (dr / 2)) w.1 w.2 = true) : waitDone dr b
      = setF (updDrv b dr (fun y => { y with waiting := none, moving := none })) R.DRV_STATUS.list_index dr (getF b R.DRV_STATUS.list_index dr + 1) := by
  have hmore : ¬ (4096 ≤ getF b R.DRV_STATUS.list_index dr + 1) := by omega
  have hlast' : ∀ f, (descOf (bytesAt (stn (updDrv b dr f) (dr / 2)).sram (e.listOff + 64 * getF (updDrv b dr f) R.DRV_STATUS.list_index dr) 64)).last
      = false := fun f => hlast
  unfold waitDone
  simp only [hcur, hwait, hclk, h, hrun, ne_eq, not_false_eq_true, and_self, if_true, hlast', Bool.false_eq_true, and_false, decide_false]
  unfold descDone
  rw [updDrv_updDrv_same, if_pos ⟨hlist, rfl⟩]
  exact if_neg hmore

/-- A transfer whose flits are all acknowledged is counted and signals. -/
theorem transferVisible_done (hclk : clocked b (dr / 2) = true) (hfirst : (drv b dr).transfers = r :: rest) (hflying : r.flying = [])
    (hmv : (drv b dr).moving = none) (hchk : r.chk = false) (hframe : r.frame = false) : ∃ c, transferVisible dr b = showDrover dr (match r.signal with
        | some v => addTally (dr / 2) r.tally v c
        | none => c)
      ∧ Touches [.regs, .host, .sent, .pmc] recordFields (addSat (updDrv b dr (fun d => { d with transfers := rest })) R.DRV_BYTES.bytes dr r.bytes) c := by
  have hgo : ¬ ((!clocked b (dr / 2)) = true ∨ r.flying ≠ [] ∨ (drv b dr).moving.any (fun m => m.tid == r.id) = true) := by simp [hclk, hflying, hmv]
  refine ⟨if r.desc.kind = 0 then addSat (updDrv b dr (fun d => { d with transfers := rest })) R.DRV_BYTES.bytes dr r.bytes
    else traceDesc dr r.desc 0 r.since r.entry.pc (addSat (updDrv b dr (fun d => { d with transfers := rest })) R.DRV_BYTES.bytes dr r.bytes), ?_,
    .ite (.refl _ _ _) (traceDesc_touches _ _ _ _ _ _)⟩
  unfold transferVisible
  simp only [hfirst, if_neg hgo, hchk, hframe]
  rfl

theorem transferVisible_flying (hfirst : (drv b dr).transfers = r :: rest) (hflying : r.flying ≠ []) : transferVisible dr b = b := by
  unfold transferVisible
  simp only [hfirst]
  exact if_pos (.inr (.inl hflying))

end Completion

theorem descCommand_faulty {dr kind : Nat} {b : Body} {e : DrvEntry} {c : Nat × Nat} (hclk : clocked b (dr / 2) = true)
    (hrun : getF b R.DRV_STATUS.state dr ≠ 2) (hcur : (drv b dr).current = some e) (hlist : e.isList = false) (hwait : (drv b dr).waiting = none)
    (hmv : (drv b dr).moving = none) (hkind : e.desc.kind = kind) (hfault : descFault b (dr / 2) e.desc = some c) :
    ∃ d, descCommand dr kind b = showFault dr c.1 0 (if c.1 = 1 then 0 else c.2) e.pc e.isList d ∧ d.fabric = b.fabric ∧ d.stations = b.stations := by
  have hgo : ¬ ((!clocked b (dr / 2)) = true ∨ getF b R.DRV_STATUS.state dr = 2 ∨ (drv b dr).waiting.isSome = true ∨ (drv b dr).moving.isSome = true) := by
    simp [hclk, hrun, hwait, hmv]
  have hnoted : ∀ f, updDrv b dr f = atWork dr (f (drv b dr)) b.fabric b.free b := fun f => rfl
  obtain ⟨d, hd, hfab, hstn⟩ := drvFault_shows (b := updDrv b dr (fun y => { y with running := e.desc })) (dr := dr) (cause := c.1) (detail := 0)
    (addr := if c.1 = 1 then 0 else c.2) (pc := e.pc) (fromList := e.isList) (tid := (drv b dr).nextId) (eix := (drv b dr).entryIx) hrun
  have hdesc : runDesc dr e e.desc 0 b = showFault dr c.1 0 (if c.1 = 1 then 0 else c.2) e.pc e.isList d := by
    rw [← hd]
    unfold runDesc
    simp only [hnoted, descFault_atWork, hfault, drv_atWork_same]
  refine ⟨d, ?_, hfab, hstn⟩
  obtain ⟨hstate, -⟩ := showFault_shows (dr := dr) (cause := c.1) (detail := 0) (addr := if c.1 = 1 then 0 else c.2) (pc := e.pc) (fromList := e.isList) (b := d)
  unfold descCommand
  simp only [if_neg hgo, hcur, hlist, hkind, if_true, hdesc, Bool.not_false]
  rw [← hlist]
  exact if_pos hstate

theorem drv_showDrover (dr : Nat) (b : Body) (z : Nat) : drv (showDrover dr b) z = drv b z := by
  unfold showDrover
  split <;> rfl

theorem stn_showDrover (dr : Nat) (b : Body) (z : Nat) : stn (showDrover dr b) z = stn b z := by
  unfold showDrover
  split <;> rfl

theorem getF_showDrover {dr : Nat} {b : Body} {f : Field} {z : Nat} (hf : f.idx < 1024) (h : f.idx ≠ R.DRV_STATUS.state.idx) :
    getF (showDrover dr b) f z = getF b f z := by
  unfold showDrover
  split
  · rfl
  · exact getF_setF_other _ _ (by decide) hf h

section Commands

variable {dr : Nat} {s : State} (hdr : isDrover dr = true)
include hdr

theorem entryStart_runs {x y : Drover} {e : DrvEntry} {rest : List DrvEntry} (hclk : clocked s.body (dr / 2) = true) (hx : drv s.body dr = x)
    (hcur : x.current = none) (hrun : getF s.body R.DRV_STATUS.state dr ≠ 2) (hnext : x.replayed ++ x.queue = e :: rest) (hy : taken x e = y)
    (hgood : e.isList = false ∨ (e.listOff % 64 = 0 ∧ e.listOff + 64 ≤ 0x600000)) : Runs (.droverEntryStart dr) s [.drovers, .regs] (fun b =>
      (getF b R.DRV_STATUS.state dr = 1 ∧ getF b R.DRV_STATUS.list_index dr = 0
        ∧ RegsBut [R.DRV_STATUS.state, R.DRV_STATUS.list_index] dr s.body b ∧ ∀ z, z ≠ dr → drv b z = drv s.body z) ∧ drv b dr = y) := by
  refine runs_of_lift (lift_of_onUnit hdr) (entryStart_starts hrun hclk hx hcur hnext hgood) ?_ ⟨⟨getF_setF_fits (by decide), ?_, ?_, fun z hz => ?_⟩, ?_⟩
  · simp (disch := decide)
  · simp (disch := decide)
  · simp (disch := decide)
  · simp [drv_updDrv_ne _ _ _ _ hz]
  · simp [hy]

theorem droverFlush_runs : Runs (.drvFlush dr) s [.drovers, .regs] (fun b => drv b dr = { drv s.body dr with queue := [], replayed := [] }
    ∧ getF b R.DRV_STATUS.state dr = (if (drv s.body dr).current.isSome || !(drv s.body dr).transfers.isEmpty then 1 else 0)
    ∧ RegsBut [R.DRV_STATUS.state] dr s.body b ∧ ∀ y, y ≠ dr → drv b y = drv s.body y) := by
  have hbusy : (drv (updDrv s.body dr (fun d => { d with queue := [], replayed := [] })) dr).busy
      = ((drv s.body dr).current.isSome || !(drv s.body dr).transfers.isEmpty) := by simp [Drover.busy]
  refine runs_of_lift (lift_of_onUnit hdr) rfl ?_ ⟨?_, ?_, ?_, fun y hy => ?_⟩
  · simp (disch := decide) [droverFlush]
  · simp [droverFlush]
  · rw [droverFlush, hbusy]
    exact getF_setF_fits (by split <;> decide)
  · simp (disch := decide) [droverFlush]
  · simp [droverFlush, drv_updDrv_ne _ _ _ _ hy]

theorem transferVisible_runs {r : Transfer} {rest : List Transfer} (hclk : clocked s.body (dr / 2) = true) (hfirst : (drv s.body dr).transfers = r :: rest)
    (hflying : r.flying = []) (hmv : (drv s.body dr).moving = none) (hchk : r.chk = false) (hframe : r.frame = false) :
    RunsS (.droverTransferVisible dr) s (fun t => (drv t.body dr).transfers = rest ∧ (drv t.body dr).queue = (drv s.body dr).queue
      ∧ getF t.body R.DRV_BYTES.bytes dr = min (getF s.body R.DRV_BYTES.bytes dr + r.bytes) (2 ^ 48 - 1)
      ∧ stn t.body (dr / 2) = (match r.signal with
        | some v => setTally (stn s.body (dr / 2)) r.tally (tally (stn s.body (dr / 2)) r.tally + v)
        | none => stn s.body (dr / 2))) := by
  obtain ⟨c, hc, htouch⟩ := transferVisible_done hclk hfirst hflying hmv hchk hframe
  have hdrv : drv c dr = { drv s.body dr with transfers := rest } :=
    (congrArg (fun m => SMap.get m Drover.reset dr) (htouch.same (p := .drovers) (by decide))).trans
      (drv_updDrv_same s.body dr fun d => { d with transfers := rest })
  have hstn : stn c (dr / 2) = stn s.body (dr / 2) := congrArg (fun m => SMap.get m Station.reset (dr / 2)) (htouch.same (p := .stations) (by decide))
  have hbytes : getF c R.DRV_BYTES.bytes dr = min (getF s.body R.DRV_BYTES.bytes dr + r.bytes) (2 ^ 48 - 1) :=
    (htouch.getF_eq (by decide) (by decide) dr).trans (getF_addSat_same _ _ _ _)
  refine runsS_of_lift (lift_of_onUnit hdr) hc ?_
  rcases r.signal with _ | v
  · exact ⟨by rw [drv_showDrover, hdrv], by rw [drv_showDrover, hdrv], by rw [getF_showDrover (by decide) (by decide), hbytes], by rw [stn_showDrover, hstn]⟩
  · have hdrv' : drv (addTally (dr / 2) r.tally v c) dr = { drv s.body dr with transfers := rest } := hdrv
    have hbytes' : getF (addTally (dr / 2) r.tally v c) R.DRV_BYTES.bytes dr = min (getF s.body R.DRV_BYTES.bytes dr + r.bytes) (2 ^ 48 - 1) := hbytes
    refine ⟨by rw [drv_showDrover, hdrv'], by rw [drv_showDrover, hdrv'], by rw [getF_showDrover (by decide) (by decide), hbytes'], ?_⟩
    rw [stn_showDrover, ← hstn]
    exact stn_updStn_same _ _ _

end Commands

/-- Settles O33: the queue moves by what the drover holds; a fault shows its record. -/
theorem droverQueues : Obligations.DroverQueues := by
  intro dr s hdr hclk x state started
  refine ⟨fun e rest hrep hqueue hcur hrun hgood => ?_, fun e rest hrep hcur hrun hgood => ?_, fun e rest hrep hqueue hcur hrun hlist hmis hin => ?_,
    fun e w hcur hwait hrun hlist hix hlast hsat => ?_, fun e w hcur hwait hsat => runs_same (lift_of_onUnit hdr) (waitDone_waits hcur hwait hsat),
    fun r rest hfirst hflying hmv hchk hframe => transferVisible_runs hdr hclk hfirst hflying hmv hchk hframe,
    fun r rest hfirst hflying => runs_same (lift_of_onUnit hdr) (transferVisible_flying hfirst hflying),
    fun e c hcur hlist hwait hmv hrun hkind hfault => ?_, fun hstop => ?_, droverFlush_runs hdr⟩
  · exact entryStart_runs hdr hclk rfl hcur hrun (show x.replayed ++ x.queue = e :: rest by rw [hrep]; exact hqueue) (taken_queued hrep hqueue) hgood
  · exact entryStart_runs (rest := rest ++ x.queue) hdr hclk rfl hcur hrun (show x.replayed ++ x.queue = e :: (rest ++ x.queue) by rw [hrep]; rfl)
      (taken_again hrep) hgood
  · obtain ⟨c, hc, hfab⟩ := entryStart_misaligned hrun hclk rfl hcur (show x.replayed ++ x.queue = e :: rest by rw [hrep]; exact hqueue) hlist hmis hin
    obtain ⟨hst, hvalid, hcause, -, haddr, hrep'⟩ := showFault_shows (dr := dr) (cause := 3) (detail := 0) (addr := e.listOff) (pc := e.pc)
      (fromList := true) (b := c)
    exact runsS_of_lift (lift_of_onUnit hdr) hc ⟨hst, hvalid, hcause, haddr, hrep', hfab⟩
  · refine runs_of_lift (lift_of_onUnit hdr) (waitDone_goes hclk hcur hwait hrun hlist hix hlast hsat) ?_ ⟨?_, ?_⟩
    · simp (disch := decide)
    · simp [x]
    · exact getF_setF_fits (show _ < 4096 by omega)
  · obtain ⟨d, hd, hfab, hstn⟩ := descCommand_faulty hclk hrun hcur hlist hwait hmv hkind hfault
    obtain ⟨hst, hvalid, hcause, hpc, -, hrep⟩ := showFault_shows (dr := dr) (cause := c.1) (detail := 0) (addr := if c.1 = 1 then 0 else c.2) (pc := e.pc)
      (fromList := e.isList) (b := d)
    exact runsS_of_lift (lift_of_onUnit hdr) hd ⟨hst, hvalid, hcause, hpc, hrep, hfab, hstn⟩
  · refine runs_of_lift (lift_of_onUnit hdr) (if_pos hstop) ?_ ⟨getF_setF_fits (by split <;> decide), ?_⟩
    · simp (disch := decide)
    · simp (disch := decide)

end Sys2Proof.Machine

/-! SUPPORT. The check-value units (O34). -/

namespace Sys2Proof.Machine

/-- The body with other bytes of frames in progress. -/
def withFrames (b : Body) (m : SMap (List Byte)) : Body := { b with chkFrame := m }

section Frames

variable {ps : List Part} {fs : List Field} {i : Nat} {b c : Body} (m : SMap (List Byte))

@[simp] theorem only_withFrames (h : Part.chkFrame ∈ ps) : Only ps b (withFrames c m) ↔ Only ps b c :=
  Only.iff_of fun p => by cases p <;> first | exact .inl h | exact .inr rfl

@[simp] theorem regsBut_withFrames : RegsBut fs i b (withFrames c m) ↔ RegsBut fs i b c := Iff.rfl

@[simp] theorem getF_withFrames (f : Field) (j : Nat) : getF (withFrames c m) f j = getF c f j := rfl

@[simp] theorem flagF_withFrames (f : Field) (j : Nat) : flagF (withFrames c m) f j = flagF c f j := rfl

@[simp] theorem chkFrame_withFrames : (withFrames c m).chkFrame = m := rfl

end Frames

section Unit

variable {i : Nat} {b : Body}

theorem crcInit_lt (algo : Nat) : crcInit algo < 2 ^ 64 := by
  unfold crcInit
  split <;> decide

theorem chkInit_free (h : chkBusy b i = false) : chkInit i b = withFrames
    (setFlag (setF b R.CHK_RUN.run i (crcInit (getF b R.CHK_CTRL.algo i))) R.CHK_ALIVE_LAST.seen i false) (SMap.erase b.chkFrame i) := by
  unfold chkInit
  rw [h]
  rfl

theorem chkInit_busy (h : chkBusy b i = true) : chkInit i b = setFlag b R.CHK_STATUS.write_refused i true := if_pos h

theorem chkWriteFeed_busy (n : Nat) (e : Bool) (h : chkBusy b i = true) : chkWriteFeed i n e b = setFlag b R.CHK_STATUS.write_refused i true := if_pos h

/-- Bytes fed, with no end of frame (R203). -/
theorem chkWriteFeed_bytes {n : Nat} (h : chkBusy b i = false) (hn : 1 ≤ n ∧ n ≤ 8) : chkWriteFeed i n false b
    = chkFeed i (leBytes n (getF b R.CHK_DATA.dataWord i)) b := by
  unfold chkWriteFeed
  rw [h, if_pos hn]
  rfl

/-- The end of a frame, with no byte fed (R204). -/
theorem chkWriteFeed_end (h : chkBusy b i = false) : chkWriteFeed i 0 true b = chkFrameEnd i b := by
  unfold chkWriteFeed
  rw [h, if_neg (by decide)]
  rfl

theorem chkFrameEnd_plain (h : flagF b R.CHK_CTRL.alive_en i = false) : chkFrameEnd i b
    = withFrames (addSat b R.CHK_STATUS.frames i 1) (SMap.erase b.chkFrame i) := by
  have h' : flagF (addSat b R.CHK_STATUS.frames i 1) R.CHK_CTRL.alive_en i = false := by
    rwa [flagF_addSat_other _ _ (by decide) (by decide) (by decide)]
  unfold chkFrameEnd
  simp only [h', Bool.false_eq_true, if_false]
  rfl

/-- The 8-bit alive counter of a frame is the byte at its offset (R211). -/
theorem aliveCounter_byte (hw : getF b R.CHK_CTRL.alive_width i = 1)
    (hoff : getF b R.CHK_CTRL.alive_offset i < (SMap.get b.chkFrame [] i).length) :
    aliveCounter b i = ((SMap.get b.chkFrame [] i).getD (getF b R.CHK_CTRL.alive_offset i) 0).toNat := by
  have hin : getF b R.CHK_CTRL.alive_offset i + ceilDiv 8 8 ≤ (SMap.get b.chkFrame [] i).length := hoff
  have htake : ((SMap.get b.chkFrame [] i).drop (getF b R.CHK_CTRL.alive_offset i)).take (ceilDiv 8 8)
      = [(SMap.get b.chkFrame [] i).getD (getF b R.CHK_CTRL.alive_offset i) 0] := by
    rw [List.drop_eq_getElem_cons hoff, List.getD_eq_getElem _ _ hoff]
    rfl
  unfold aliveCounter
  simp only [hw, show aliveWidth 1 = 8 from rfl, if_pos hin, htake, show ¬ (8 = 4) by decide, false_and, if_false]
  show (_ + 256 * 0) % 2 ^ 8 = _
  rw [Nat.mul_zero, Nat.add_zero]
  exact Nat.mod_eq_of_lt (BitVec.isLt _)

/-- The flag that the check of a counter raises (R204). -/
def aliveFlag (i last c : Nat) (b : Body) : Body :=
  match aliveCheck 8 last c with
  | .inOrder => b
  | .repeated => setFlag b R.CHK_STATUS.repeats i true
  | .skip => setFlag b R.CHK_STATUS.skip i true
  | .backward => setFlag b R.CHK_STATUS.backward i true

theorem aliveFlag_frame (i last c : Nat) (b : Body) : Only [.regs] b (aliveFlag i last c b) := by
  unfold aliveFlag
  split <;> simp (disch := decide)

/-- What the check of a counter shows (R204), by how far the counter has moved on. -/
theorem aliveFlag_flags {last c step : Nat} (hstep : (c + 2 ^ 8 - last) % 2 ^ 8 = step) :
    flagF (aliveFlag i last c b) R.CHK_STATUS.repeats i = (step == 0 || flagF b R.CHK_STATUS.repeats i)
      ∧ flagF (aliveFlag i last c b) R.CHK_STATUS.skip i = ((decide (2 ≤ step) && decide (step ≤ 128)) || flagF b R.CHK_STATUS.skip i)
      ∧ flagF (aliveFlag i last c b) R.CHK_STATUS.backward i = (decide (128 < step) || flagF b R.CHK_STATUS.backward i) := by
  have hcheck : aliveCheck 8 last c = if step = 1 then .inOrder else if step = 0 then .repeated else if step ≤ 128 then .skip else .backward := by
    unfold aliveCheck
    rw [hstep]
    rfl
  unfold aliveFlag
  rw [hcheck]
  by_cases h1 : step = 1
  · simp [h1]
  by_cases h0 : step = 0
  · simp (disch := decide) [h0]
  by_cases h2 : step ≤ 128
  · have h3 : 2 ≤ step := by omega
    have h4 : ¬ 128 < step := by omega
    simp (disch := decide) [h1, h0, h2, h3, h4]
  · have h4 : 128 < step := by omega
    simp (disch := decide) [h1, h0, h2, h4]

theorem chkFrameEnd_alive {c : Nat} (hen : flagF b R.CHK_CTRL.alive_en i = true) (hseen : flagF b R.CHK_ALIVE_LAST.seen i = true)
    (hw : getF b R.CHK_CTRL.alive_width i = 1) (hc : aliveCounter (addSat b R.CHK_STATUS.frames i 1) i = c) : chkFrameEnd i b
    = withFrames (setFlag (setF (aliveFlag i (getF b R.CHK_ALIVE_LAST.last i) c
        (withFree (addSat b R.CHK_STATUS.frames i 1) (b.free + 1))) R.CHK_ALIVE_LAST.last i c) R.CHK_ALIVE_LAST.seen i true)
      (SMap.erase b.chkFrame i) := by
  have hen' : flagF (addSat b R.CHK_STATUS.frames i 1) R.CHK_CTRL.alive_en i = true :=
    (flagF_addSat_other _ _ (by decide) (by decide) (by decide)).trans hen
  have hseen' : flagF (withFree (addSat b R.CHK_STATUS.frames i 1) (b.free + 1)) R.CHK_ALIVE_LAST.seen i = true :=
    (flagF_addSat_other _ _ (by decide) (by decide) (by decide)).trans hseen
  have hw' : getF (addSat b R.CHK_STATUS.frames i 1) R.CHK_CTRL.alive_width i = 1 := by
    rwa [getF_addSat_other _ _ (by decide) (by decide) (by decide)]
  have hlast : getF (withFree (addSat b R.CHK_STATUS.frames i 1) (b.free + 1)) R.CHK_ALIVE_LAST.last i = getF b R.CHK_ALIVE_LAST.last i := by
    rw [getF_withFree, getF_addSat_other _ _ (by decide) (by decide) (by decide)]
  have hframes : ∀ d : Body, d.chkFrame = b.chkFrame → { d with chkFrame := SMap.erase d.chkFrame i } = withFrames d (SMap.erase b.chkFrame i) :=
    fun d hd => by rw [hd]; rfl
  unfold chkFrameEnd
  simp only [hen', hw', hc, if_true]
  rw [show ({ addSat b R.CHK_STATUS.frames i 1 with free := (addSat b R.CHK_STATUS.frames i 1).free + 1 } : Body)
      = withFree (addSat b R.CHK_STATUS.frames i 1) (b.free + 1) from rfl, hseen', hlast]
  exact hframes _ (((aliveFlag_frame i (getF b R.CHK_ALIVE_LAST.last i) c _) .chkFrame).resolve_left (by decide))

end Unit

/-- Settles O34: a free unit runs its commands, a busy one refuses them. -/
theorem checkUnits : Obligations.CheckUnits := by
  intro i s hi algo run word frame
  have hunit : ∀ {f : Body → Body}, onUnit (isChk i) f s = lift f s := lift_of_onUnit hi
  refine ⟨fun hfree => ⟨?_, fun n hn => ?_, fun hen => ?_, fun hen hseen hw hoff => ?_⟩, fun hbusy => ⟨?_, fun n e => ?_⟩⟩
  · refine runs_of_lift hunit (chkInit_free hfree) ?_ ⟨?_, ?_, ?_, ?_⟩
    · simp (disch := decide)
    · rw [getF_withFrames, getF_setFlag_other _ _ (by decide) (by decide) (by decide), getF_setF_fits (crcInit_lt _)]
      rfl
    · simp (disch := decide)
    · simp [SMap.get_erase_same]
    · simp (disch := decide)
  · refine runs_of_lift (b := withFrames (setF s.body R.CHK_RUN.run i ((leBytes n word).foldl (fun r x => crcStep algo r x.toNat) run))
      (SMap.put s.body.chkFrame [] i (frame ++ leBytes n word))) hunit (chkWriteFeed_bytes hfree hn) ?_ ⟨?_, ?_, ?_⟩
    · simp (disch := decide)
    · exact getF_setF_same _ _ _ _
    · exact SMap.get_put_same _ _ _ _
    · simp (disch := decide)
  · refine runs_of_lift hunit ((chkWriteFeed_end hfree).trans (chkFrameEnd_plain hen)) ?_ ⟨?_, ?_, ?_⟩
    · simp (disch := decide)
    · exact getF_addSat_same _ _ _ _
    · simp [SMap.get_erase_same]
    · simp (disch := decide)
  · intro c step hlast
    have hc : aliveCounter (addSat s.body R.CHK_STATUS.frames i 1) i = c := by
      have hw' : getF (addSat s.body R.CHK_STATUS.frames i 1) R.CHK_CTRL.alive_width i = 1 := by
        rwa [getF_addSat_other _ _ (by decide) (by decide) (by decide)]
      have hoff' : getF (addSat s.body R.CHK_STATUS.frames i 1) R.CHK_CTRL.alive_offset i = getF s.body R.CHK_CTRL.alive_offset i :=
        getF_addSat_other _ _ (by decide) (by decide) (by decide)
      rw [aliveCounter_byte hw' (by rw [hoff']; exact hoff), hoff']
      rfl
    have hlt : c < 256 := BitVec.isLt _
    have hstep : (c + 2 ^ 8 - getF s.body R.CHK_ALIVE_LAST.last i) % 2 ^ 8 = step := by
      show _ = (c + 256 - getF s.body R.CHK_ALIVE_LAST.last i % 256) % 256
      rw [Nat.mod_eq_of_lt hlast]
      rfl
    obtain ⟨hrep, hskip, hback⟩ := aliveFlag_flags (i := i) (b := withFree (addSat s.body R.CHK_STATUS.frames i 1) (s.body.free + 1)) hstep
    have honly := aliveFlag_frame i (getF s.body R.CHK_ALIVE_LAST.last i) c (withFree (addSat s.body R.CHK_STATUS.frames i 1) (s.body.free + 1))
    have hparts : Only [.regs, .chkFrame, .free] s.body (aliveFlag i (getF s.body R.CHK_ALIVE_LAST.last i) c
        (withFree (addSat s.body R.CHK_STATUS.frames i 1) (s.body.free + 1))) :=
      Only.trans (by simp (disch := decide)) fun p => (honly p).imp_left fun h => by simp_all
    refine runs_of_lift hunit ((chkWriteFeed_end hfree).trans (chkFrameEnd_alive hen hseen hw hc)) ?_ ⟨?_, ?_, ?_, ?_⟩
    · simp (disch := decide) [hparts]
    · rw [getF_withFrames, getF_setFlag_other _ _ (by decide) (by decide) (by decide)]
      exact getF_setF_fits (lt_trans hlt (by decide))
    · simpa (disch := decide) using hrep
    · simpa (disch := decide) using hskip
    · simpa (disch := decide) using hback
  · refine runs_of_lift hunit (chkInit_busy hbusy) ?_ ⟨?_, ?_⟩ <;> simp (disch := decide)
  · refine runs_of_lift hunit (chkWriteFeed_busy n e hbusy) ?_ ⟨?_, ?_⟩ <;> simp (disch := decide)

end Sys2Proof.Machine

/-! SUPPORT. What an operation may change: parts of the body and fields of registers. The frames of the operations that many commands share:
messages to other modules, interrupts, and the work of a drover. -/

namespace Sys2Proof.Machine

/-- Going from `b` to `c` changes no part but `ps` and no register field but `fs`. -/
structure Within (ps : List Part) (fs : List Field) (b c : Body) : Prop where
  only : Only ps b c
  fields : FieldsBut fs b c

theorem Touches.within {ps : List Part} {fs : List Field} {b c : Body} (h : Touches ps fs b c) : Within ps fs b c := ⟨h.only, h.fields⟩

namespace Within

variable {ps qs : List Part} {fs gs : List Field} {b c d : Body}

theorem refl (ps : List Part) (fs : List Field) (b : Body) : Within ps fs b b := ⟨Only.refl ps b, fun _ _ _ _ => rfl⟩

theorem trans (h : Within ps fs b c) (k : Within ps fs c d) : Within ps fs b d :=
  ⟨h.only.trans k.only, fun f j hf hn => (k.fields f j hf hn).trans (h.fields f j hf hn)⟩

theorem mono (h : Within ps fs b c) (hp : ps ⊆ qs) (hf : fs ⊆ gs) : Within qs gs b c :=
  ⟨h.only.mono fun _ => @hp _, fun f j hi hn => h.fields f j hi fun hm => hn (List.map_subset _ hf hm)⟩

theorem ite {P : Prop} [Decidable P] (h : Within ps fs b c) (k : Within ps fs b d) : Within ps fs b (if P then c else d) := by
  split <;> assumption

/-- A part that may not change is as before. -/
theorem same (h : Within ps fs b c) {p : Part} (hp : p ∉ ps) : p.same b c := (h.only p).resolve_left hp

theorem getF_eq (h : Within ps fs b c) {f : Field} (hf : f.idx < 1024) (hn : f.idx ∉ fs.map Field.idx) (j : Nat) : getF c f j = getF b f j :=
  h.fields f j hf hn

theorem flagF_eq (h : Within ps fs b c) {f : Field} (hf : f.idx < 1024) (hn : f.idx ∉ fs.map Field.idx) (j : Nat) : flagF c f j = flagF b f j :=
  congrArg (· == 1) (h.fields f j hf hn)

theorem stk_eq (h : Within ps fs b c) (hp : Part.memStacks ∉ ps) (k : Nat) : stk c k = stk b k :=
  congrArg (fun m => SMap.get m Stack.reset k) (h.same (p := .memStacks) hp)

theorem drv_eq (h : Within ps fs b c) (hp : Part.drovers ∉ ps) (k : Nat) : drv c k = drv b k :=
  congrArg (fun m => SMap.get m Drover.reset k) (h.same (p := .drovers) hp)

theorem stn_eq (h : Within ps fs b c) (hp : Part.stations ∉ ps) (k : Nat) : stn c k = stn b k :=
  congrArg (fun m => SMap.get m Station.reset k) (h.same (p := .stations) hp)

theorem mbx_eq (h : Within ps fs b c) (hp : Part.host ∉ ps) (k : Nat) : mbx c k = mbx b k :=
  congrArg (fun m : HostSide => SMap.get m.mailboxes Mailbox.reset k) (h.same (p := .host) hp)

theorem kport_eq (h : Within ps fs b c) (hp : Part.korrel ∉ ps) (k : Nat) : kport c k = kport b k :=
  congrArg (fun m : Korrel => SMap.get m.ports KorPort.reset k) (h.same (p := .korrel) hp)

/-- A change within what may change is no obstacle to a frame. -/
theorem only_iff (h : Within qs gs c d) (hp : qs ⊆ ps) : Only ps b d ↔ Only ps b c := Only.iff_of (h.only.mono fun _ => @hp _)

theorem fields_iff (h : Within qs gs c d) (hf : gs ⊆ fs) : FieldsBut fs b d ↔ FieldsBut fs b c := by
  have hsame : ∀ (f : Field) (j : Nat), f.idx < 1024 → f.idx ∉ fs.map Field.idx → getF d f j = getF c f j := fun f j hi hn =>
    h.fields f j hi fun hm => hn (List.map_subset _ hf hm)
  exact ⟨fun k f j hi hn => (hsame f j hi hn).symm.trans (k f j hi hn), fun k f j hi hn => (hsame f j hi hn).trans (k f j hi hn)⟩

end Within

section Fields

variable {fs : List Field} {b c : Body}

theorem FieldsBut.iff_setF {f : Field} (hf : f.idx < 1024) (hm : f.idx ∈ fs.map Field.idx) (j v : Nat) :
    FieldsBut fs b (setF c f j v) ↔ FieldsBut fs b c := by
  have hsame : ∀ (g : Field) (i : Nat), g.idx < 1024 → g.idx ∉ fs.map Field.idx → getF (setF c f j v) g i = getF c g i := fun g i hg hn =>
    getF_setF_field _ _ _ _ _ _ hf hg fun e => hn (e ▸ hm)
  exact ⟨fun k g i hg hn => (hsame g i hg hn).symm.trans (k g i hg hn), fun k g i hg hn => (hsame g i hg hn).trans (k g i hg hn)⟩

@[simp] theorem fieldsBut_refl : FieldsBut fs b b := fun _ _ _ _ => rfl

@[simp] theorem fieldsBut_setF {f : Field} (j v : Nat) (hf : f.idx < 1024) (hm : f.idx ∈ fs.map Field.idx) :
    FieldsBut fs b (setF c f j v) ↔ FieldsBut fs b c := FieldsBut.iff_setF hf hm j v

@[simp] theorem fieldsBut_setFlag {f : Field} (j : Nat) (v : Bool) (hf : f.idx < 1024) (hm : f.idx ∈ fs.map Field.idx) :
    FieldsBut fs b (setFlag c f j v) ↔ FieldsBut fs b c := FieldsBut.iff_setF hf hm j _

@[simp] theorem fieldsBut_addSat {f : Field} (j n : Nat) (hf : f.idx < 1024) (hm : f.idx ∈ fs.map Field.idx) :
    FieldsBut fs b (addSat c f j n) ↔ FieldsBut fs b c := FieldsBut.iff_setF hf hm j _

@[simp] theorem fieldsBut_setStn (st : Nat) (t : Station) : FieldsBut fs b (setStn c st t) ↔ FieldsBut fs b c := Iff.rfl

@[simp] theorem fieldsBut_updStn (st : Nat) (f : Station → Station) : FieldsBut fs b (updStn c st f) ↔ FieldsBut fs b c := Iff.rfl

@[simp] theorem fieldsBut_updDrv (dr : Nat) (f : Drover → Drover) : FieldsBut fs b (updDrv c dr f) ↔ FieldsBut fs b c := Iff.rfl

@[simp] theorem fieldsBut_updStk (k : Nat) (f : Stack → Stack) : FieldsBut fs b (updStk c k f) ↔ FieldsBut fs b c := Iff.rfl

@[simp] theorem fieldsBut_report (r : Source) : FieldsBut fs b (report r c) ↔ FieldsBut fs b c := Iff.rfl

@[simp] theorem fieldsBut_emit (m : Sent) : FieldsBut fs b (emit m c) ↔ FieldsBut fs b c := Iff.rfl

@[simp] theorem fieldsBut_sendFlit (f : Flit) : FieldsBut fs b (sendFlit f c) ↔ FieldsBut fs b c := Iff.rfl

@[simp] theorem fieldsBut_updLink (l : UcieLink) (f : Ucie → Ucie) : FieldsBut fs b (updLink c l f) ↔ FieldsBut fs b c := Iff.rfl

@[simp] theorem fieldsBut_updPort (p : Nat) (f : KorPort → KorPort) : FieldsBut fs b (updPort c p f) ↔ FieldsBut fs b c := Iff.rfl

@[simp] theorem fieldsBut_updHost (f : HostSide → HostSide) : FieldsBut fs b (updHost f c) ↔ FieldsBut fs b c := Iff.rfl

@[simp] theorem fieldsBut_updMbx (m : Nat) (f : Mailbox → Mailbox) : FieldsBut fs b (updMbx m f c) ↔ FieldsBut fs b c := Iff.rfl

@[simp] theorem fieldsBut_updLog (f : Logbook → Logbook) : FieldsBut fs b (updLog f c) ↔ FieldsBut fs b c := Iff.rfl

@[simp] theorem fieldsBut_updRack (f : Rack → Rack) : FieldsBut fs b (updRack f c) ↔ FieldsBut fs b c := Iff.rfl

@[simp] theorem fieldsBut_updFlock (f : Flock → Flock) : FieldsBut fs b (updFlock f c) ↔ FieldsBut fs b c := Iff.rfl

@[simp] theorem fieldsBut_updFail (f : Failover → Failover) : FieldsBut fs b (updFail f c) ↔ FieldsBut fs b c := Iff.rfl

@[simp] theorem fieldsBut_updPath (f : PowerPath → PowerPath) : FieldsBut fs b (updPath f c) ↔ FieldsBut fs b c := Iff.rfl

@[simp] theorem fieldsBut_updLoop (e l : Nat) (f : CoxLoop → CoxLoop) : FieldsBut fs b (updLoop e l f c) ↔ FieldsBut fs b c := Iff.rfl

@[simp] theorem fieldsBut_updEngine (e : Nat) (f : CoxEngine → CoxEngine) : FieldsBut fs b (updEngine e f c) ↔ FieldsBut fs b c := Iff.rfl

@[simp] theorem fieldsBut_setPgLim (e k : Nat) (x : CoxPg) : FieldsBut fs b (setPgLim e k x c) ↔ FieldsBut fs b c := Iff.rfl

@[simp] theorem fieldsBut_updLedger (f : Ledger → Ledger) : FieldsBut fs b (updLedger f c) ↔ FieldsBut fs b c := Iff.rfl

@[simp] theorem fieldsBut_updMon (k : Nat) (f : Monitor → Monitor) : FieldsBut fs b (updMon k f c) ↔ FieldsBut fs b c := Iff.rfl

@[simp] theorem fieldsBut_updRing (f : RingMaster → RingMaster) : FieldsBut fs b (updRing f c) ↔ FieldsBut fs b c := Iff.rfl

@[simp] theorem fieldsBut_updTrust (f : Trust → Trust) : FieldsBut fs b (updTrust f c) ↔ FieldsBut fs b c := Iff.rfl

@[simp] theorem fieldsBut_updPmc (f : PmcSide → PmcSide) : FieldsBut fs b (updPmc f c) ↔ FieldsBut fs b c := Iff.rfl

@[simp] theorem fieldsBut_withFree (k : Nat) : FieldsBut fs b (withFree c k) ↔ FieldsBut fs b c := Iff.rfl

@[simp] theorem fieldsBut_withFabric (xs : List Flit) : FieldsBut fs b (withFabric c xs) ↔ FieldsBut fs b c := Iff.rfl

@[simp] theorem fieldsBut_withFrames (m : SMap (List Byte)) : FieldsBut fs b (withFrames c m) ↔ FieldsBut fs b c := Iff.rfl

end Fields

theorem forEach_within {α : Type} {ps : List Part} {fs : List Field} {f : α → Body → Body} (h : ∀ x b, Within ps fs b (f x b)) :
    ∀ (l : List α) (b : Body), Within ps fs b (forEach l f b)
  | [], b => .refl ps fs b
  | x :: l, b => (h x b).trans (forEach_within h l (f x b))

/-! ## Messages to other modules -/

/-- The fields that a flit sent on a Korrel port changes (R270, R295). -/
def sendFields : List Field := [R.KLK_PORT_CREDIT.held, R.KLK_PORT_FLITS.sent]

/-- The parts that a message to another module changes. -/
def sendParts : List Part := [.korrel, .regs, .sent, .fabric]

theorem transmit_within (p : Nat) (k : KFlit) (b : Body) : Within sendParts sendFields b (transmit p k b) := by
  unfold transmit putFlit
  constructor <;> simp (disch := decide)

theorem takeTurn_within (p vc : Nat) (b : Body) : Within sendParts sendFields b (takeTurn b p vc) := by
  unfold takeTurn
  split
  · exact .refl _ _ b
  · constructor <;> simp (disch := decide)

theorem drainPort_within (p : Nat) : ∀ (fuel : Nat) (b : Body), Within sendParts sendFields b (drainPort p fuel b)
  | 0, b => .refl _ _ b
  | fuel + 1, b => by
    unfold drainPort
    split
    · exact .refl _ _ b
    next k hk =>
      have htake : ∀ f, Within sendParts sendFields b (updPort b p f) := fun f => by constructor <;> simp (disch := decide)
      exact (htake _).trans ((transmit_within p k _).trans ((takeTurn_within p k.vc _).trans (drainPort_within p fuel _)))

theorem portSend_within (p : Nat) (k : KFlit) (b : Body) : Within sendParts sendFields b (portSend p k b) :=
  Within.trans (by constructor <;> simp (disch := decide)) (drainPort_within p _ (updPort b p fun pt => { pt with waiting := pt.waiting ++ [k] }))

theorem sendVia_within (m vc : Nat) (f : Flit) (b : Body) : Within sendParts sendFields b (sendVia m vc f b).2 := by
  unfold sendVia
  split
  · exact .refl _ _ b
  · exact .ite (portSend_within _ _ b) (by constructor <;> simp (disch := decide))

theorem sendModule_within (m vc : Nat) (f : Flit) (b : Body) : Within sendParts sendFields b (sendModule m vc f b).2 := by
  unfold sendModule
  split
  · exact .refl _ _ b
  · exact sendVia_within m vc f b

theorem respond_within (req : Flit) (vc : Nat) (f : Flit) (b : Body) : Within sendParts sendFields b (respond req vc f b) := by
  unfold respond
  split
  · constructor <;> simp (disch := decide)
  · exact sendModule_within _ _ _ b

/-! ## The work of a drover -/

/-- The parts that a drover at work changes. -/
def workParts : List Part := [.drovers, .regs, .reports, .host, .sent, .pmc, .korrel, .fabric, .stations, .free]

/-- The fields that a drover at work changes (R209): its own, those of the records it traces, of the ports it sends on and of the station's
SRAM it reads. -/
def workFields : List Field :=
  [R.DRV_FAULT.cause, R.DRV_FAULT.detail, R.DRV_FAULT.pc, R.DRV_FAULT.fromList, R.DRV_FAULT.valid, R.DRV_FAULT.mirror_lost,
   R.DRV_FAULT_ADDR.addr, R.DRV_STATUS.state, R.DRV_STATUS.list_index, R.STN_FAULT.sram_uncorrectable, R.STN_SRAM_CORR.corrected,
   R.STN_SRAM_CORR.last_bank] ++ recordFields ++ sendFields

theorem Within.working {b c : Body} (h : Within sendParts sendFields b c) : Within workParts workFields b c :=
  h.mono (by decide) (by decide)

theorem traceDesc_within (dr : Nat) (e : Desc) (cause since pc : Nat) (b : Body) : Within workParts workFields b (traceDesc dr e cause since pc b) :=
  (traceDesc_touches dr e cause since pc b).within.mono (by decide) (by decide)

theorem drvFault_within (dr cause detail addr pc : Nat) (fromList : Bool) (tid eix : Nat) (b : Body) :
    Within workParts workFields b (drvFault dr cause detail addr pc fromList tid eix b) := by
  have honly : ∀ (c : Body) (e : Desc) (since : Nat), Only workParts b (traceDesc dr e cause since pc c) ↔ Only workParts b c := fun c e since =>
    (traceDesc_within dr e cause since pc c).only_iff fun _ => id
  have hfields : ∀ (c : Body) (e : Desc) (since : Nat), FieldsBut workFields b (traceDesc dr e cause since pc c) ↔ FieldsBut workFields b c :=
    fun c e since => (traceDesc_within dr e cause since pc c).fields_iff fun _ => id
  unfold drvFault
  split
  · exact .refl _ _ b
  · constructor <;> simp (disch := decide) [honly, hfields]

theorem transferFault_within (dr tid cause detail addr : Nat) (b : Body) : Within workParts workFields b (transferFault dr tid cause detail addr b) := by
  unfold transferFault
  split
  · exact .refl _ _ b
  · exact drvFault_within _ _ _ _ _ _ _ _ b

theorem withFree_within (k : Nat) (b : Body) : Within workParts workFields b (withFree b k) := by constructor <;> simp (disch := decide)

theorem readSramUnit_within (st u : Nat) (b : Body) : Within workParts workFields b (readSramUnit b st u).2 := by
  unfold readSramUnit
  simp only []
  rw [show ({ b with free := b.free + 4 } : Body) = withFree b (b.free + 4) from rfl]
  split
  · constructor <;> simp (disch := decide)
  · split
    · exact withFree_within _ b
    · constructor <;> simp (disch := decide)

theorem readSramUnits_within (st : Nat) : ∀ (us : List Nat) (b : Body), Within workParts workFields b (readSramUnits st us b).2
  | [], b => .refl _ _ b
  | u :: us, b => (readSramUnit_within st u b).trans ((withFree_within _ _).trans (readSramUnits_within st us _))

theorem keepPiece_within (dr tid piece : Nat) (bs : List Byte) (b : Body) : Within workParts workFields b (keepPiece dr tid piece bs b) := by
  unfold keepPiece updTransfer
  constructor <;> simp (disch := decide)

theorem sendFlit_within (f : Flit) (b : Body) : Within workParts workFields b (sendFlit f b) := by constructor <;> simp (disch := decide)

theorem bulkWrite_within (src dr tid piece : Nat) (staged : Bool) (dst : Place) (payload : List Byte) (b : Body) :
    Within workParts workFields b (bulkWrite src dr tid piece staged dst payload b).2 := by
  unfold bulkWrite
  simp only []
  split
  · split
    · exact .refl _ _ b
    · split
      · exact sendFlit_within _ b
      · exact (sendModule_within _ _ _ b).working
  · split
    · exact sendFlit_within _ b
    · exact (sendModule_within _ _ _ b).working
  · exact .refl _ _ b

theorem issuePiece_within (dr tid piece : Nat) (staged : Bool) (src dst : Place) (len : Nat) (b : Body) :
    Within workParts workFields b (issuePiece dr tid piece staged src dst len b).2 := by
  unfold issuePiece
  simp only []
  split
  · split
    · exact .refl _ _ b
    · split
      · exact sendFlit_within _ b
      · have hread : ∀ x w, Within workParts workFields b (readSram b x w len).2 := fun x w => readSramUnits_within _ _ b
        split
        · exact hread _ _
        · exact (hread _ _).trans ((keepPiece_within _ _ _ _ _).trans (bulkWrite_within _ _ _ _ _ _ _ _))
  · split
    · exact sendFlit_within _ b
    · exact (sendModule_within _ _ _ b).working
  · exact .refl _ _ b

theorem issueNext_within (dr : Nat) (e : DrvEntry) (mv : Moving) (m : Move) (rest : List Move) (p q : Place) (b : Body) :
    Within workParts workFields b (issueNext dr e mv m rest p q b).1 := by
  have hnoted : ∀ f g, Within workParts workFields b (updDrv (updTransfer dr mv.tid f b) dr g) := fun f g => by
    unfold updTransfer
    constructor <;> simp (disch := decide)
  unfold issueNext
  simp only []
  split
  · exact .refl _ _ b
  · split
    · exact ((hnoted _ _).trans (issuePiece_within _ _ _ _ _ _ _ _)).trans (drvFault_within _ _ _ _ _ _ _ _ _)
    · exact (hnoted _ _).trans (issuePiece_within _ _ _ _ _ _ _ _)

theorem descDone_within (dr : Nat) (e : DrvEntry) (last : Bool) (b : Body) : Within workParts workFields b (descDone dr e last b) := by
  have hended : ∀ f, Within workParts workFields b (updDrv b dr f) := fun f => by constructor <;> simp (disch := decide)
  unfold descDone entryEnd
  simp only []
  split
  · exact .ite ((hended _).trans (drvFault_within _ _ _ _ _ _ _ _ _)) (by constructor <;> simp (disch := decide))
  · constructor <;> simp (disch := decide)

theorem pump_within (dr : Nat) : ∀ (fuel : Nat) (b : Body), Within workParts workFields b (pump dr fuel b)
  | 0, b => .refl _ _ b
  | fuel + 1, b => by
    unfold pump
    simp only []
    split
    · split
      · exact descDone_within _ _ _ b
      · split
        · exact drvFault_within _ _ _ _ _ _ _ _ b
        · exact drvFault_within _ _ _ _ _ _ _ _ b
        · split
          · exact (issueNext_within _ _ _ _ _ _ _ b).trans (pump_within dr fuel _)
          · exact issueNext_within _ _ _ _ _ _ _ b
    · exact .refl _ _ b

theorem droverAck_within (dr tid piece : Nat) (b : Body) : Within workParts workFields b (droverAck dr tid piece b) := by
  have hshow : ∀ c, Within workParts workFields c (showDrover dr c) := fun c => by
    unfold showDrover
    split
    · exact .refl _ _ c
    · constructor <;> simp (disch := decide)
  have hack : ∀ f, Within workParts workFields b (updTransfer dr tid f b) := fun f => by
    unfold updTransfer
    constructor <;> simp (disch := decide)
  exact (hack _).trans ((pump_within dr _ _).trans (hshow _))

end Sys2Proof.Machine

/-! SUPPORT. Staging tails and their mirror (O35): writes of the controllers in their staging regions, and what they leave. -/

namespace Sys2Proof.Machine

@[simp] theorem stk_setF (b : Body) (f : Field) (i v k : Nat) : stk (setF b f i v) k = stk b k := rfl

@[simp] theorem stk_setFlag (b : Body) (f : Field) (i k : Nat) (v : Bool) : stk (setFlag b f i v) k = stk b k := rfl

@[simp] theorem stk_report (r : Source) (b : Body) (k : Nat) : stk (report r b) k = stk b k := rfl

/-! ## Writes in a staging region -/

section Region

variable {s : State} {k : Nat}

/-- A controller's write in its own region stores the bytes there; without a region it stores nothing (R193). -/
theorem writeRegion_sound (hbad : s.body.badStack = []) (off : Nat) (bs : List Byte) : ∃ m n, writeRegion k off bs s
      = { s with mem := m, body := withFree s.body n }
    ∧ m = (if getF s.body R.MEM_STG_SIZE.size_mib k = 0 then s.mem else memStore s.mem (getF s.body R.MEM_STG_BASE.base k + off) (bs.map some)) := by
  unfold writeRegion
  split
  · exact ⟨s.mem, s.body.free, rfl, rfl⟩
  · obtain ⟨n, hn⟩ := writeStack_sound (getF s.body R.MEM_STG_BASE.base k + off) (bs.map some) hbad
    exact ⟨_, n, congrArg Prod.snd hn, rfl⟩

theorem leBytes_length : ∀ n v : Nat, (leBytes n v).length = n
  | 0, _ => rfl
  | n + 1, v => congrArg (· + 1) (leBytes_length n (v / 256))

theorem headerBytes_length (st stroke entries crc : Nat) : (headerBytes st stroke entries crc).length = 256 := by
  simp [headerBytes, leBytes_length]

/-- What a controller's store of bytes leaves at an address. -/
theorem memGet_stored (m : List Host.Cell) (a : Nat) (bs : List Byte) (c : Nat) :
    memGet (memStore m a (bs.map some)) c = if a ≤ c ∧ c < a + bs.length then bs.getD (c - a) 0 else memGet m c := by
  rw [memGet_memStore]
  by_cases hlo : a ≤ c
  · by_cases hhi : c < a + bs.length
    · rw [if_pos hlo, if_pos ⟨hlo, hhi⟩, List.getElem?_map, List.getElem?_eq_getElem (by omega), List.getD_eq_getElem _ _ (by omega)]
      rfl
    · rw [if_pos hlo, if_neg fun h => hhi h.2, List.getElem?_eq_none (by rw [List.length_map]; omega)]
      rfl
  · rw [if_neg hlo, if_neg fun h => hlo h.1]

/-- A tail's new state stands in its register, and its header in its region (R195). -/
theorem setTailState_sound (hbad : s.body.badStack = []) (st : Nat) : ∃ m n, setTailState k st s
      = { s with mem := m, body := withFree (setF s.body R.MEM_STG_STATUS.state k st) n }
    ∧ (∀ a, getF s.body R.MEM_STG_SIZE.size_mib k = 0 ∨ a < getF s.body R.MEM_STG_BASE.base k ∨ getF s.body R.MEM_STG_BASE.base k + 256 ≤ a →
        memGet m a = memGet s.mem a) := by
  obtain ⟨m, n, hw, hm⟩ := writeRegion_sound (s := { s with body := setF s.body R.MEM_STG_STATUS.state k st }) (k := k) hbad 0
    (headerBytes st (stk s.body k).tailStroke (stk s.body k).tail.length (stk s.body k).sealCrc)
  refine ⟨m, n, hw, fun a ha => ?_⟩
  rw [hm, getF_setF_other _ _ (by decide) (by decide) (by decide), getF_setF_other _ _ (by decide) (by decide) (by decide)]
  split
  · rfl
  · rw [memGet_stored, headerBytes_length, if_neg (by omega)]

end Region

/-! ## A step of one controller, and of all twelve in turn -/

/-- The fields that the state of a tail shows in (R207). -/
def tailFields : List Field := [R.MEM_STG_STATUS.state, R.MEM_STG_STATUS.entries]

/-- Controllers have worked on their tails: beside the tails, nothing of the module and no byte outside the staging regions has changed. -/
structure Regional (s u : State) : Prop where
  pending : u.pending = s.pending
  within : Within [.memStacks, .regs, .free] tailFields s.body u.body
  mem : ∀ a, inStaging s.body a 1 = false → memGet u.mem a = memGet s.mem a

/-- Controller `k` holds in `u` what it holds in `s`. -/
structure Apart (k : Nat) (s u : State) : Prop where
  stack : stk u.body k = stk s.body k
  state : getF u.body R.MEM_STG_STATUS.state k = getF s.body R.MEM_STG_STATUS.state k
  entries : getF u.body R.MEM_STG_STATUS.entries k = getF s.body R.MEM_STG_STATUS.entries k

section Regional

variable {s u v : State} {k j : Nat}

theorem Regional.refl (s : State) : Regional s s := ⟨rfl, .refl _ _ _, fun _ _ => rfl⟩

theorem Regional.size (h : Regional s u) (k : Nat) : getF u.body R.MEM_STG_SIZE.size_mib k = getF s.body R.MEM_STG_SIZE.size_mib k :=
  h.within.getF_eq (by decide) (by decide) k

theorem Regional.base (h : Regional s u) (k : Nat) : getF u.body R.MEM_STG_BASE.base k = getF s.body R.MEM_STG_BASE.base k :=
  h.within.getF_eq (by decide) (by decide) k

theorem Regional.inStaging_eq (h : Regional s u) (a n : Nat) : inStaging u.body a n = inStaging s.body a n := by
  unfold inStaging touchesStaging
  simp only [h.size, h.base]

theorem Regional.bad (h : Regional s u) : u.body.badStack = s.body.badStack := h.within.same (p := .badStack) (by decide)

theorem Regional.trans (h : Regional s u) (k : Regional u v) : Regional s v :=
  ⟨k.pending.trans h.pending, h.within.trans k.within, fun a ha => (k.mem a (by rwa [h.inStaging_eq])).trans (h.mem a ha)⟩

theorem Apart.refl (k : Nat) (s : State) : Apart k s s := ⟨rfl, rfl, rfl⟩

theorem Apart.trans (h : Apart k s u) (h' : Apart k u v) : Apart k s v :=
  ⟨h'.stack.trans h.stack, h'.state.trans h.state, h'.entries.trans h.entries⟩

/-- An address outside every staging region lies outside the header of each. -/
theorem outside_header {b : Body} {a k : Nat} (hk : k < 12) (h : inStaging b a 1 = false) :
    getF b R.MEM_STG_SIZE.size_mib k = 0 ∨ a < getF b R.MEM_STG_BASE.base k ∨ getF b R.MEM_STG_BASE.base k + 256 ≤ a := by
  unfold inStaging touchesStaging at h
  have hno := List.any_eq_false.mp h k (List.mem_range.mpr hk)
  simp only [Bool.and_eq_true, decide_eq_true_eq, not_and, not_lt] at hno
  by_contra hin
  simp only [not_or, not_lt, not_le] at hin
  have := hno ⟨by omega, by omega⟩
  omega

/-- What changes only the tail of one controller and what shows it. -/
theorem regional_of_body {b : Body} (h : Within [.memStacks, .regs, .free] tailFields s.body b) : Regional s { s with body := b } := ⟨rfl, h, fun _ _ => rfl⟩

theorem setTailState_regional (hk : k < 12) (hbad : s.body.badStack = []) (st : Nat) : Regional s (setTailState k st s) := by
  obtain ⟨m, n, hs, hm⟩ := setTailState_sound (k := k) hbad st
  rw [hs]
  exact ⟨rfl, by constructor <;> simp (disch := decide), fun a ha => hm a (outside_header hk ha)⟩

theorem setTailState_apart (hbad : s.body.badStack = []) (hj : k ≠ j) (st : Nat) : Apart k s (setTailState j st s) := by
  obtain ⟨m, n, hs, -⟩ := setTailState_sound (k := j) hbad st
  rw [hs]
  exact ⟨rfl, getF_setF_ne _ _ _ _ _ _ (by omega), getF_setF_field _ _ _ _ _ _ (by decide) (by decide) (by decide)⟩

theorem tailStep_shows {st : Nat} (hbad : s.body.badStack = []) (hst : st < 8) : stk (setTailState k st s).body k = stk s.body k
    ∧ getF (setTailState k st s).body R.MEM_STG_STATUS.state k = st
    ∧ getF (setTailState k st s).body R.MEM_STG_STATUS.entries k = getF s.body R.MEM_STG_STATUS.entries k := by
  obtain ⟨m, n, hs, -⟩ := setTailState_sound (k := k) hbad st
  rw [hs]
  exact ⟨rfl, getF_setF_fits hst, getF_setF_other _ _ (by decide) (by decide) (by decide)⟩

/-- The work of all twelve controllers in turn is, for controller `k`, its own work: what the others do before and after leaves it alone. -/
theorem foldl_controllers {f : Nat → State → State} (hreg : ∀ j s, j < 12 → s.body.badStack = [] → Regional s (f j s))
    (hapart : ∀ k j s, k ≠ j → s.body.badStack = [] → Apart k s (f j s)) : ∀ (l : List Nat), (∀ j ∈ l, j < 12) → ∀ s : State, s.body.badStack = [] →
      Regional s (l.foldl (fun s j => f j s) s) ∧ (∀ k ∉ l, Apart k s (l.foldl (fun s j => f j s) s))
      ∧ (l.Nodup → ∀ k ∈ l, ∃ u, Regional s u ∧ Apart k s u ∧ Apart k (f k u) (l.foldl (fun s j => f j s) s))
  | [], _, s, _ => ⟨.refl s, fun k _ => .refl k s, fun _ k hk => absurd hk List.not_mem_nil⟩
  | j :: l, hl, s, hbad => by
    have hj := hreg j s (hl j List.mem_cons_self) hbad
    obtain ⟨hrest, hout, hin⟩ := foldl_controllers hreg hapart l (fun i hi => hl i (List.mem_cons_of_mem _ hi)) (f j s) (hj.bad.trans hbad)
    rw [List.foldl_cons]
    refine ⟨hj.trans hrest, fun k hk => ?_, fun hnodup k hk => ?_⟩
    · exact (hapart k j s (fun e => hk (e ▸ List.mem_cons_self)) hbad).trans (hout k fun h => hk (List.mem_cons_of_mem _ h))
    · obtain ⟨hnot, hnodup'⟩ := List.nodup_cons.mp hnodup
      rcases List.mem_cons.mp hk with rfl | hk
      · exact ⟨s, .refl s, .refl k s, hout k hnot⟩
      · obtain ⟨u, hu, hau, hend⟩ := hin hnodup' k hk
        exact ⟨u, hj.trans hu, (hapart k j s (fun e => hnot (e ▸ hk)) hbad).trans hau, hend⟩

theorem foldl_twelve {f : Nat → State → State} (hreg : ∀ j s, j < 12 → s.body.badStack = [] → Regional s (f j s))
    (hapart : ∀ k j s, k ≠ j → s.body.badStack = [] → Apart k s (f j s)) (hk : k < 12) (hbad : s.body.badStack = []) :
    Regional s ((List.range 12).foldl (fun s j => f j s) s)
      ∧ ∃ u, Regional s u ∧ Apart k s u ∧ Apart k (f k u) ((List.range 12).foldl (fun s j => f j s) s) := by
  obtain ⟨hall, -, hone⟩ := foldl_controllers hreg hapart (List.range 12) (fun j => List.mem_range.mp) s hbad
  exact ⟨hall, hone List.nodup_range k (List.mem_range.mpr hk)⟩

end Regional

/-! ## Appends (R194, R197, R198) -/

theorem entryBytes_length {e : TailEntry} (h : e.payload.length ≤ 224) (seq : Nat) : (entryBytes e seq).length = 256 := by
  simp [entryBytes, leBytes_length]
  omega

/-- The entry of `w` has joined tail `k`: its bytes stand in the region, and the registers and the header show it. -/
structure Joined (k : Nat) (w : StagedWrite) (rest : List StagedWrite) (s u : State) : Prop where
  pending : u.pending = s.pending
  within : Within [.memStacks, .regs, .free] tailFields s.body u.body
  stack : stk u.body k = { stk s.body k with
    staged := rest, tail := (stk s.body k).tail ++ [⟨w.home, strokeNum s.body % 2 ^ 32, w.payload⟩], tailStroke := strokeNum s.body % 2 ^ 32 }
  entries : getF u.body R.MEM_STG_STATUS.entries k = ((stk s.body k).tail.length + 1) % 2 ^ R.MEM_STG_STATUS.entries.width
  inside : w.payload.length ≤ 224 → ∀ i, i < 256 →
    memGet u.mem (getF s.body R.MEM_STG_BASE.base k + 256 * ((stk s.body k).tail.length + 1) + i)
      = (entryBytes ⟨w.home, strokeNum s.body % 2 ^ 32, w.payload⟩ (stk s.body k).tail.length).getD i 0
  beyond : w.payload.length ≤ 224 → ∀ a, a < getF s.body R.MEM_STG_BASE.base k
    ∨ getF s.body R.MEM_STG_BASE.base k + 256 * ((stk s.body k).tail.length + 2) ≤ a → memGet u.mem a = memGet s.mem a

section Append

theorem Joined.setTailState {k : Nat} {w : StagedWrite} {rest : List StagedWrite} {s u : State} (h : Joined k w rest s u) (hbad : s.body.badStack = [])
    (st : Nat) : Joined k w rest s (setTailState k st u) := by
  obtain ⟨hpend, hwithin, hstack, hent, hin, hout⟩ := h
  obtain ⟨m, n, hs, hm⟩ := setTailState_sound (k := k) ((hwithin.same (p := .badStack) (by decide)).trans hbad) st
  rw [hwithin.getF_eq (by decide) (by decide)] at hm
  rw [hwithin.getF_eq (by decide) (by decide)] at hm
  rw [hs]
  refine ⟨hpend, hwithin.trans (by constructor <;> simp (disch := decide)), hstack, (getF_setF_other _ _ (by decide) (by decide) (by decide)).trans hent,
    fun hlen i hi => ?_, fun hlen a ha => ?_⟩
  · exact (hm _ (.inr (.inr (by omega)))).trans (hin hlen i hi)
  · exact (hm _ (by omega)).trans (hout hlen a ha)

variable {s : State} {k : Nat} {w : StagedWrite} {rest : List StagedWrite}

/-- The body whose controller `k` has the writes `rest` left to stage. -/
def withStaged (k : Nat) (rest : List StagedWrite) (b : Body) : Body := updStk b k (fun t => { t with staged := rest })

/-- The entry that a staged write becomes (R194). -/
def stagedEntry (w : StagedWrite) (b : Body) : TailEntry := ⟨w.home, strokeNum b % 2 ^ 32, w.payload⟩

/-- The body in which the entry `e` stands in its tail and the registers show it, before the tail's state. -/
def withEntry (k : Nat) (e : TailEntry) (b : Body) : Body :=
  let c := updStk b k (fun t => { t with tail := t.tail ++ [e], tailStroke := e.stroke })
  setF c R.MEM_STG_STATUS.entries k (stk c k).tail.length

@[simp] theorem stk_withStaged (b : Body) : stk (withStaged k rest b) k = { stk b k with staged := rest } := SMap.get_put_same _ _ _ _

@[simp] theorem stk_withEntry (e : TailEntry) (b : Body) : stk (withEntry k e b) k = { stk b k with tail := (stk b k).tail ++ [e], tailStroke := e.stroke } :=
  SMap.get_put_same _ _ _ _

theorem getF_withEntry (e : TailEntry) (b : Body) : getF (withEntry k e b) R.MEM_STG_STATUS.entries k
    = ((stk b k).tail.length + 1) % 2 ^ R.MEM_STG_STATUS.entries.width := by
  unfold withEntry
  simp only [stk_updStk_same, List.length_append, List.length_singleton]
  exact getF_setF_same _ _ _ _

/-- The state in which the entry of `w` stands in the region and in the tail, before the tail's state is shown. -/
def entered (k : Nat) (w : StagedWrite) (rest : List StagedWrite) (n : Nat) (s : State) : State :=
  { s with
    mem := memStore s.mem (getF s.body R.MEM_STG_BASE.base k + 256 * ((stk s.body k).tail.length + 1))
      ((entryBytes (stagedEntry w s.body) (stk s.body k).tail.length).map some)
    body := withEntry k (stagedEntry w s.body) (withFree (withStaged k rest s.body) n) }

theorem entered_joined (n : Nat) : Joined k w rest s (entered k w rest n s) := by
  have hstored := fun hlen : w.payload.length ≤ 224 => entryBytes_length (e := stagedEntry w s.body) hlen (stk s.body k).tail.length
  refine ⟨rfl, ?_, ?_, ?_, fun hlen i hi => ?_, fun hlen a ha => ?_⟩
  · constructor <;> simp (disch := decide) [entered, withEntry, withStaged]
  · simp [entered, stagedEntry]
  · rw [entered, getF_withEntry, stk_withFree, stk_withStaged]
  · rw [entered, memGet_stored, hstored hlen, if_pos (by omega), Nat.add_sub_cancel_left]
    rfl
  · rw [entered, memGet_stored, hstored hlen, if_neg (by omega)]

section Taken

variable (hrun : s.body.stopped.contains (.controller k) = false) (hst : (stk s.body k).staged = w :: rest)
include hrun hst

theorem appendStaged_takes : appendStaged k s = (let u := onBody (withStaged k rest) s
    if tailCapacity u.body k ≤ (stk u.body k).tail.length then onBody (refuseStaged k w) u
    else
      let e := stagedEntry w u.body
      let v := onBody (withEntry k e) (writeRegion k (256 * ((stk u.body k).tail.length + 1)) (entryBytes e (stk u.body k).tail.length) u)
      onBody (mirrorEntry k w e.stroke) (if getF v.body R.MEM_STG_STATUS.state k = 0 then setTailState k 1 v else v)) := by
  unfold appendStaged
  simp only [hrun, Bool.false_eq_true, if_false, hst]
  rfl

theorem appendStaged_full (hfull : tailCapacity s.body k ≤ (stk s.body k).tail.length) : appendStaged k s
    = onBody (refuseStaged k w) (onBody (withStaged k rest) s) := by
  rw [appendStaged_takes hrun hst]
  refine if_pos ?_
  show tailCapacity s.body k ≤ (stk (withStaged k rest s.body) k).tail.length
  rwa [stk_withStaged]

/-- The entry of a staged write joins its tail: its bytes go to the region, then it stands in the tail. -/
theorem appendStaged_joins (hroom : (stk s.body k).tail.length < tailCapacity s.body k) (hbad : s.body.badStack = []) : ∃ n,
    appendStaged k s = onBody (mirrorEntry k w (strokeNum s.body % 2 ^ 32))
      (if getF s.body R.MEM_STG_STATUS.state k = 0 then setTailState k 1 (entered k w rest n s) else entered k w rest n s) := by
  have hsize : getF s.body R.MEM_STG_SIZE.size_mib k ≠ 0 := fun h => by
    rw [tailCapacity, h] at hroom
    omega
  obtain ⟨m, n, hw, hm⟩ := writeRegion_sound (s := onBody (withStaged k rest) s) (k := k) hbad (256 * ((stk s.body k).tail.length + 1))
    (entryBytes (stagedEntry w s.body) (stk s.body k).tail.length)
  have hstored : m = memStore s.mem (getF s.body R.MEM_STG_BASE.base k + 256 * ((stk s.body k).tail.length + 1))
      ((entryBytes (stagedEntry w s.body) (stk s.body k).tail.length).map some) := hm.trans (if_neg hsize)
  have hlen : (stk (onBody (withStaged k rest) s).body k).tail.length = (stk s.body k).tail.length :=
    (congrArg (fun t : Stack => t.tail.length) (stk_withStaged (k := k) (rest := rest) s.body)).trans rfl
  have hstate : ∀ m n, getF (onBody (withEntry k (stagedEntry w s.body)) { s with mem := m, body := withFree (withStaged k rest s.body) n }).body
      R.MEM_STG_STATUS.state k = getF s.body R.MEM_STG_STATUS.state k := fun m n => getF_setF_other _ _ (by decide) (by decide) (by decide)
  refine ⟨n, ?_⟩
  rw [appendStaged_takes hrun hst]
  simp only [hlen]
  rw [if_neg (show ¬ tailCapacity (onBody (withStaged k rest) s).body k ≤ _ from Nat.not_le.mpr hroom), show stagedEntry w (onBody (withStaged k rest) s).body = stagedEntry w s.body from rfl, hw]
  rw [show onBody (withStaged k rest) s = { s with body := withStaged k rest s.body } from rfl, hstate, entered, ← hstored]
  rfl

/-- A staged write joins its tail and goes on to the mirror. -/
theorem appendStaged_joined (hroom : (stk s.body k).tail.length < tailCapacity s.body k) (hbad : s.body.badStack = []) :
    ∃ u, Joined k w rest s u ∧ appendStaged k s = onBody (mirrorEntry k w (strokeNum s.body % 2 ^ 32)) u
      ∧ (getF s.body R.MEM_STG_STATUS.state k = 0 → getF u.body R.MEM_STG_STATUS.state k = 1) := by
  obtain ⟨n, hn⟩ := appendStaged_joins hrun hst hroom hbad
  refine ⟨_, ?_, hn, fun h => ?_⟩
  · split
    · exact (entered_joined n).setTailState hbad 1
    · exact entered_joined n
  · rw [if_pos h]
    exact (tailStep_shows (s := entered k w rest n s) hbad (by decide)).2.1

end Taken

/-- An entry that has no mirror is acknowledged to its drover. -/
theorem mirrorEntry_acks {b : Body} (h : flagF b R.MEM_MIR_CFG.enable k = false) (n : Nat) :
    mirrorEntry k w n b = droverAck w.drv w.transfer w.piece b := by
  unfold mirrorEntry
  rw [h]
  rfl

theorem reportMirrorLost_within (w : StagedWrite) (b : Body) : Within workParts workFields b (reportMirrorLost w b) :=
  (droverAck_within w.drv w.transfer w.piece b).trans (by constructor <;> simp (disch := decide) [reportMirrorLost])

/-- An entry with a mirror waits on the partner, or the mirror is off. -/
theorem mirrorEntry_waits {b : Body} (h : flagF b R.MEM_MIR_CFG.enable k = true) (n : Nat) :
    (stk (mirrorEntry k w n b) k).tail = (stk b k).tail
      ∧ (w ∈ (stk (mirrorEntry k w n b) k).mirrorWait ∨ flagF (mirrorEntry k w n b) R.MEM_MIR_CFG.enable k = false) := by
  unfold mirrorEntry
  simp only [h, if_true]
  generalize hsend : sendModule _ _ _ b = r
  have hr : stk r.2 k = stk b k := hsend ▸ (sendModule_within _ _ _ b).stk_eq (by decide) k
  split
  · rw [stk_updStk_same, hr]
    exact ⟨rfl, .inl (List.mem_append_right _ (List.mem_singleton_self _))⟩
  · have hlost := fun (ws : List StagedWrite) (c : Body) => forEach_within (fun w b => reportMirrorLost_within w b) ws c
    unfold mirrorLost
    simp only []
    rw [(hlost _ _).stk_eq (by decide), (hlost _ _).flagF_eq (by decide) (by decide)]
    refine ⟨?_, .inr ?_⟩
    · simp [hr]
    · simp (disch := decide)

/-- A drover with no move to issue only notes that the flit is acknowledged (R191). -/
theorem drv_droverAck {dr tid piece : Nat} {b : Body} (h : (drv b dr).moving = none) : drv (droverAck dr tid piece b) dr
    = { drv b dr with transfers := (drv b dr).transfers.map (fun x =>
        if x.id = tid then { x with flying := x.flying.filter (fun y => y.piece != piece) } else x) } := by
  unfold droverAck updTransfer
  rw [drv_showDrover, pump_idle (by simpa using h), drv_updDrv_same]

end Append

/-! ## The mirror tail (R197, R198) -/

section Mirror

variable {k : Nat} {b : Body} {f : Flit} {bs : List Byte}

theorem mirrorReceive_none (h : b.fabric = []) (home n : Nat) (payload : List Byte) : mirrorReceive k home n payload b = b := by
  refine if_pos ?_
  simp [nextMirror, h]

variable (hrun : b.stopped.contains (.controller k) = false) (hone : b.fabric = [f]) (hkind : f.kind = .droverBulk)
  (hsrc : f.src = 1024 + k) (hdst : f.dst = 1024 + k) (hgoal : atGoal f = true) (hpay : f.payload = bs.map some)
  (hself : flagF b R.MEM_CTRL.self_refresh k = false) (hstate : getF b R.MEM_STATUS.state k ≠ 3)
include hrun hone hkind hsrc hdst hgoal hpay hself hstate

theorem mirrorReceive_takes : mirrorReceive k f.addr f.stroke bs b = (let c := withFabric b []
    if tailCapacity b k ≤ (stk b k).mirrorTail.length then
      respond f 1 (errorFor f 3 f.addr) (report (.stagingFull k) (setFlag c R.MEM_STG_STATUS.full k true))
    else respond f 1 { ackFor f with addr := f.addr } (updStk c k (fun t => { t with mirrorTail := t.mirrorTail ++ [⟨f.addr, f.stroke, bs⟩] }))) := by
  have hnext : nextMirror b k f.addr f.stroke bs = true := by
    have hvia : f.via.isNone = true := (Bool.and_eq_true_iff.mp hgoal).1
    simp [nextMirror, hone, hgoal, ofPair, hkind, ctlEp, hsrc, hdst, hvia, hpay]
  have htake : takeFlit .droverBulk (ctlEp k) (ctlEp k) b = some (f, withFabric b []) :=
    takeFlit_front (s := { State.reset with body := b }) hone hsrc hdst hgoal hkind
  have hback : f.payload.map (fun x => x.getD 0) = bs := by simp [hpay]
  have hawake : ¬ (flagF (withFabric b []) R.MEM_CTRL.self_refresh k = true ∨ getF (withFabric b []) R.MEM_STATUS.state k = 3) := by simp [hself, hstate]
  unfold mirrorReceive deliver
  simp only [hrun, hnext, htake, if_neg hawake, hback, Bool.not_true, Bool.or_self, Bool.false_eq_true, if_false]
  rfl

end Mirror

/-! ## Discard and retry (R200) -/

section Twelve

variable {s : State} {k j st : Nat} {g : Stack → Stack}

/-- A controller changes what it holds of its tail, and the tail's state. -/
theorem tailStep_regional (hk : k < 12) (hbad : s.body.badStack = []) {c : Body} (hc : Within [.memStacks, .regs, .free] tailFields s.body c) :
    Regional s (setTailState k st { s with body := c }) :=
  (regional_of_body hc).trans (setTailState_regional hk ((hc.same (p := .badStack) (by decide)).trans hbad) st)

/-- The body in which tail `k` is empty. -/
def emptiedBody (k : Nat) (b : Body) : Body :=
  setF (updStk b k (fun t => { t with tail := [], mirrorTail := [], staged := [], mirrorWait := [] })) R.MEM_STG_STATUS.entries k 0

theorem emptyTail_eq (k : Nat) (s : State) : emptyTail k s = setTailState k 0 { s with body := emptiedBody k s.body } := rfl

theorem emptyTail_regional (hk : k < 12) (hbad : s.body.badStack = []) : Regional s (emptyTail k s) :=
  tailStep_regional hk hbad (by constructor <;> simp (disch := decide))

theorem emptyTail_apart (h : k ≠ j) (hbad : s.body.badStack = []) : Apart k s (emptyTail j s) := by
  rw [emptyTail_eq]
  refine Apart.trans (u := { s with body := emptiedBody j s.body }) ⟨?_, ?_, ?_⟩ (setTailState_apart (s := { s with body := emptiedBody j s.body }) hbad h 0)
  · exact SMap.get_put_ne _ _ _ _ _ _ h
  · exact getF_setF_field _ _ _ _ _ _ (by decide) (by decide) (by decide)
  · exact getF_setF_ne _ _ _ _ _ _ (by omega)

theorem emptyTail_shows (hbad : s.body.badStack = []) : stk (emptyTail k s).body k
      = { stk s.body k with tail := [], mirrorTail := [], staged := [], mirrorWait := [] }
    ∧ getF (emptyTail k s).body R.MEM_STG_STATUS.state k = 0 ∧ getF (emptyTail k s).body R.MEM_STG_STATUS.entries k = 0 := by
  obtain ⟨hstk, hstate, hent⟩ := tailStep_shows (k := k) (st := 0) (s := { s with body := emptiedBody k s.body }) hbad (by decide)
  rw [emptyTail_eq]
  exact ⟨hstk.trans (SMap.get_put_same _ _ _ _), hstate, hent.trans (getF_setF_fits (by decide))⟩

/-- The body whose controller `k` no longer waits for retry. -/
def resumedBody (k : Nat) (b : Body) : Body := updStk b k (fun t => { t with restarted := false })

/-- A sealed tail is copied again (R200). -/
def retryTail (s : State) (k : Nat) : State :=
  if 2 ≤ getF s.body R.MEM_STG_STATUS.state k then setTailState k 3 { s with body := resumedBody k s.body } else s

theorem commitRetry_eq (s : State) : commitRetry s = (List.range 12).foldl retryTail s := rfl

theorem retryTail_regional (hk : k < 12) (hbad : s.body.badStack = []) : Regional s (retryTail s k) := by
  unfold retryTail
  split
  · exact tailStep_regional hk hbad (by constructor <;> simp (disch := decide) [resumedBody])
  · exact .refl s

theorem retryTail_apart (h : k ≠ j) (hbad : s.body.badStack = []) : Apart k s (retryTail s j) := by
  unfold retryTail
  split
  · exact Apart.trans (u := { s with body := resumedBody j s.body }) ⟨stk_updStk_ne _ _ _ _ h, rfl, rfl⟩
      (setTailState_apart (s := { s with body := resumedBody j s.body }) hbad h 3)
  · exact .refl k s

theorem retryTail_shows (hbad : s.body.badStack = []) (h : 2 ≤ getF s.body R.MEM_STG_STATUS.state k) :
    getF (retryTail s k).body R.MEM_STG_STATUS.state k = 3 ∧ stk (retryTail s k).body k = { stk s.body k with restarted := false } := by
  obtain ⟨hstk, hstate, -⟩ := tailStep_shows (k := k) (st := 3) (s := { s with body := resumedBody k s.body }) hbad (by decide)
  rw [retryTail, if_pos h]
  exact ⟨hstate, hstk.trans (SMap.get_put_same _ _ _ _)⟩

end Twelve

section Commands

variable {k : Nat} {s : State} (hk : isStack k = true) (hrun : s.body.stopped.contains (.controller k) = false) (hbad : s.body.badStack = [])
include hk hrun

theorem append_full {w : StagedWrite} {rest : List StagedWrite} (hst : (stk s.body k).staged = w :: rest)
    (hfull : tailCapacity s.body k ≤ (stk s.body k).tail.length) : RunsS (.stagedEntryAppend k) s (fun u => u.mem = s.mem
      ∧ stk u.body k = { stk s.body k with staged := rest } ∧ flagF u.body R.MEM_STG_STATUS.full k = true ∧ .stagingFull k ∈ u.body.reports) := by
  have hfault := transferFault_within w.drv w.transfer 9 0 w.home (setFlag (withStaged k rest s.body) R.MEM_STG_STATUS.full k true)
  refine runsS_of_next (next_of_onUnitS hk) (appendStaged_full hrun hst hfull) rfl ⟨rfl, ?_, ?_, List.mem_append_right _ (List.mem_singleton_self _)⟩
  · exact (hfault.stk_eq (by decide) k).trans (stk_withStaged s.body)
  · exact (hfault.flagF_eq (by decide) (by decide) k).trans (flagF_setFlag_same _ _ _ _ (by decide))

include hbad

theorem append_mirrored {w : StagedWrite} {rest : List StagedWrite} (hst : (stk s.body k).staged = w :: rest)
    (hroom : (stk s.body k).tail.length < tailCapacity s.body k) (hmir : flagF s.body R.MEM_MIR_CFG.enable k = true) :
    RunsS (.stagedEntryAppend k) s (fun u => (stk u.body k).tail.length = (stk s.body k).tail.length + 1
      ∧ (w ∈ (stk u.body k).mirrorWait ∨ flagF u.body R.MEM_MIR_CFG.enable k = false)) := by
  obtain ⟨u, hu, hx, -⟩ := appendStaged_joined hrun hst hroom hbad
  obtain ⟨htail, hwait⟩ := mirrorEntry_waits (w := w) ((hu.within.flagF_eq (by decide) (by decide) k).trans hmir) (strokeNum s.body % 2 ^ 32)
  refine runsS_of_next (next_of_onUnitS hk) hx hu.pending ⟨?_, hwait⟩
  rw [onBody, htail, hu.stack, List.length_append, List.length_singleton]

theorem append_joins {w : StagedWrite} {rest : List StagedWrite} (hst : (stk s.body k).staged = w :: rest)
    (hroom : (stk s.body k).tail.length < tailCapacity s.body k) (hmir : flagF s.body R.MEM_MIR_CFG.enable k = false)
    (hstate : getF s.body R.MEM_STG_STATUS.state k = 0) (hmv : (drv s.body w.drv).moving = none) :
    RunsS (.stagedEntryAppend k) s (fun v => ∃ u, Joined k w rest s u ∧ v.mem = u.mem ∧ stk v.body k = stk u.body k
      ∧ getF v.body R.MEM_STG_STATUS.entries k = getF u.body R.MEM_STG_STATUS.entries k ∧ getF v.body R.MEM_STG_STATUS.state k = 1
      ∧ drv v.body w.drv = { drv s.body w.drv with transfers := (drv s.body w.drv).transfers.map (fun x =>
          if x.id = w.transfer then { x with flying := x.flying.filter (fun y => y.piece != w.piece) } else x) }) := by
  obtain ⟨u, hu, hx, hone⟩ := appendStaged_joined hrun hst hroom hbad
  have hdrv : drv u.body w.drv = drv s.body w.drv := hu.within.drv_eq (by decide) w.drv
  have hack := droverAck_within w.drv w.transfer w.piece u.body
  have hx' : appendStaged k s = { u with body := droverAck w.drv w.transfer w.piece u.body } :=
    hx.trans (congrArg (fun b => { u with body := b }) (mirrorEntry_acks ((hu.within.flagF_eq (by decide) (by decide) k).trans hmir) _))
  refine runsS_of_next (next_of_onUnitS hk) hx' hu.pending ⟨u, hu, rfl, hack.stk_eq (by decide) k, hack.getF_eq (by decide) (by decide) k,
    (hack.getF_eq (by decide) (by decide) k).trans (hone hstate), ?_⟩
  rw [drv_droverAck (by rwa [hdrv]), hdrv]

end Commands

/-- Settles O35: appends by what joins the tail, the module-wide commands by what each controller does in its turn. -/
theorem stagingTails : Obligations.StagingTails := by
  intro k s hk hrun hbad t room base stroke sealed outside
  have hlt : k < 12 := of_decide_eq_true hk
  have happ : exec (.stagedEntryAppend k) s = .next (appendStaged k s) := next_of_onUnitS hk
  refine ⟨fun w rest hst hroom hmir hstate hmv hlen => ?_, fun w rest hst hfull => append_full hk hrun hst hfull,
    fun w rest hst hroom hmir => append_mirrored hk hrun hbad hst hroom hmir,
    fun f hone hkind hsrc hdst hgoal hself hstate bs hpay => ?_,
    fun home n payload hnone => runs_same (lift_of_onUnit hk) (mirrorReceive_none hnone _ _ _), fun v => ?_, fun ⟨j, hj, hsealed⟩ => ?_, fun hopen => ?_, ?_, ?_⟩
  · obtain ⟨v, hx, hpend, u, hu, hmem, hstk, hent, hone, hdrv⟩ := append_joins hk hrun hbad hst hroom hmir hstate hmv
    exact ⟨v, hx, hpend, hstk.trans hu.stack, hent.trans hu.entries, hone, hmem ▸ hu.inside hlen, hmem ▸ hu.beyond hlen, hdrv⟩
  · have htakes := mirrorReceive_takes hrun hone hkind hsrc hdst hgoal hpay hself hstate
    refine ⟨fun hroom => ?_, fun hfull => ?_⟩
    · refine runsS_of_lift (lift_of_onUnit hk) (htakes.trans (if_neg (Nat.not_le.mpr hroom))) ⟨rfl, ?_⟩
      exact ((respond_within _ _ _ _).stk_eq (by decide) k).trans (stk_updStk_same _ _ _)
    · refine runsS_of_lift (lift_of_onUnit hk) (htakes.trans (if_pos hfull)) ⟨rfl, ?_, ?_, ?_⟩
      · exact (respond_within _ _ _ _).stk_eq (by decide) k
      · exact ((respond_within _ _ _ _).flagF_eq (by decide) (by decide) k).trans ((flagF_report _ _ _).trans (flagF_setFlag_same _ _ _ _ (by decide)))
      · have hrep := (respond_within f 1 (errorFor f 3 f.addr) (report (.stagingFull k) (setFlag (withFabric s.body []) R.MEM_STG_STATUS.full k true))).same
          (p := .reports) (by decide)
        exact hrep ▸ List.mem_append_right _ (List.mem_singleton_self _)
  · refine runs_of_lift (f := fun b => setFlag b R.MEM_COMMIT_CTRL.hold 0 v) rfl rfl ?_ ⟨?_, ?_⟩ <;> simp (disch := decide)
  · have hany : anySealed s.body = true := List.any_eq_true.mpr ⟨j, List.mem_range.mpr hj, decide_eq_true hsealed⟩
    refine runs_of_next (t := commitDiscard s) rfl (if_pos hany) ?_ ⟨?_, ?_⟩ <;> simp (disch := decide)
  · have hany : ¬ anySealed s.body = true := fun h => by
      obtain ⟨j, hj, hs⟩ := List.any_eq_true.mp h
      exact hopen j (List.mem_range.mp hj) (of_decide_eq_true hs)
    obtain ⟨hall, u, hu, hau, hend⟩ := foldl_twelve (f := emptyTail) (fun j s hj hb => emptyTail_regional hj hb)
      (fun k j s h hb => emptyTail_apart h hb) hlt hbad
    obtain ⟨hstk, hstate, hent⟩ := emptyTail_shows (k := k) (hu.bad.trans hbad)
    refine runsS_of_next (t := commitDiscard s) rfl (if_neg hany) hall.pending ⟨hall.mem, ?_, hend.state.trans hstate, hend.entries.trans hent⟩
    rw [hend.stack, hstk, hau.stack]
  · obtain ⟨hall, u, hu, hau, hend⟩ := foldl_twelve (f := fun j s => retryTail s j) (fun j s hj hb => retryTail_regional hj hb)
      (fun k j s h hb => retryTail_apart h hb) hlt hbad
    refine runsS_of_next (t := commitRetry s) rfl (commitRetry_eq s) hall.pending ⟨hall.mem, fun hs => ?_, fun hs => ?_⟩
    · obtain ⟨hstate, hstk⟩ := retryTail_shows (hu.bad.trans hbad) (show 2 ≤ getF u.body R.MEM_STG_STATUS.state k by rw [hau.state]; exact hs)
      exact ⟨hend.state.trans hstate, by rw [hend.stack, hstk, hau.stack]⟩
    · have hkeep : retryTail u k = u := if_neg (by rw [hau.state]; exact hs)
      rw [hkeep] at hend
      exact ⟨hend.stack.trans hau.stack, hend.state.trans hau.state⟩
  · refine runs_of_lift (b := controllerRestart k s.body) (lift_of_onUnit hk) rfl ?_ ⟨fun h => ?_, fun j hj => ?_⟩
    · unfold controllerRestart
      simp only []
      split <;> simp (disch := decide)
    · rw [controllerRestart, if_pos h]
      exact stk_updStk_same _ _ _
    · unfold controllerRestart
      simp only []
      split
      · exact stk_updStk_ne _ _ _ _ hj
      · rfl

end Sys2Proof.Machine

/-! SUPPORT. Frames of interrupts, sensor events, the snapshot of the counters and what a commit publishes. -/

namespace Sys2Proof.Machine

/-! ## Interrupts and events of the rack -/

/-- The parts that an interrupt changes. -/
def vecParts : List Part := [.regs, .host, .sent]

theorem sendVector_within (v : Nat) (b : Body) : Within vecParts [R.IRQ_CAUSE.cause] b (sendVector v b) :=
  ⟨sendVector_only v b, fun f j _ _ => getF_sendVector v b f j⟩

theorem raiseVec_within (v : Nat) (b : Body) : Within vecParts [R.IRQ_CAUSE.cause] b (raiseVec v b) := by
  have hcause : Within vecParts [R.IRQ_CAUSE.cause] b (withCause v b) := by
    unfold withCause
    constructor <;> simp (disch := decide) [vecParts]
  obtain ⟨-, h⟩ | h | h := raiseVec_cases v b
  · rw [h]
    exact .refl _ _ b
  · rw [h]
    exact hcause
  · rw [h]
    exact hcause.trans (sendVector_within v _)

theorem sensorEvent_within (id old code : Nat) (b : Body) : Within [.rack, .sent] [] b (sensorEvent id old code b) := by
  unfold sensorEvent
  split
  · exact .refl _ _ b
  · simp only []
    split
    · constructor <;> simp (disch := decide) [updSensor]
    · split <;> constructor <;> simp (disch := decide) [updSensor]

theorem noteRun_within (old b : Body) : Within [.rack, .sent] [] b (noteRun old b) := by
  unfold noteRun
  exact .ite (.refl _ _ b) (sensorEvent_within _ _ _ b)

/-! ## The snapshot of the counters (R608) -/

theorem SMap.get_filter {α : Type} (p : Nat × α → Bool) (d : α) (k : Nat) (hk : ∀ v, p (k, v) = true) : ∀ m : SMap α,
    SMap.get (m.filter p) d k = SMap.get m d k
  | [] => rfl
  | e :: t => by
    by_cases he : e.1 = k
    · have hp : p e = true := by
        rw [← hk e.2, ← he]
      rw [List.filter_cons_of_pos hp]
      simp [SMap.get, he]
    · cases hp : p e
      · rw [List.filter_cons_of_neg (by simp [hp]), SMap.get_filter p d k hk t]
        simp [SMap.get, he]
      · rw [List.filter_cons_of_pos hp]
        simp only [SMap.get, if_neg he]
        exact SMap.get_filter p d k hk t

/-- The fields a snapshot writes (R608). -/
def snapFields : List Field :=
  [R.PMC_S_SNAP.snap, R.PMC_D_SNAP.snap, R.PMC_M_SNAP.snap, R.PMC_S_SNAP_STROKE.stroke, R.PMC_D_SNAP_STROKE.stroke, R.PMC_M_SNAP_STROKE.stroke,
   R.PMC_AGG.sum, R.PMC_AGG.event, R.PMC_MAGG.sum, R.PMC_MAGG.event]

theorem setF_within {ps : List Part} {fs : List Field} {f : Field} (i v : Nat) (b : Body) (hp : Part.regs ∈ ps) (hm : f ∈ fs) (hf : f.idx < 1024) :
    Within ps fs b (setF b f i v) := by
  constructor
  · simp [hp]
  · exact (fieldsBut_setF i v hf (List.mem_map_of_mem hm)).mpr fieldsBut_refl

/-- Old snapshots go. -/
def snapless (b : Body) : Body :=
  { b with regs := b.regs.filter (fun e => !([stationPage, diePage, modulePage] : List PmcPage).any (fun p => e.1 % 1024 == p.snap.idx)) }

theorem snapless_within (b : Body) : Within [.regs] snapFields b (snapless b) := by
  refine ⟨fun p => by cases p <;> first | exact .inl (by decide) | exact .inr rfl, fun f j hf hn => SMap.get_filter _ _ _ (fun v => ?_) b.regs⟩
  have hidx : (j * 1024 + f.idx) % 1024 = f.idx := by omega
  have hne : ∀ g ∈ snapFields, f.idx ≠ g.idx := fun g hg e => hn (e ▸ List.mem_map_of_mem hg)
  have h1 := hne R.PMC_S_SNAP.snap (by decide)
  have h2 := hne R.PMC_D_SNAP.snap (by decide)
  have h3 := hne R.PMC_M_SNAP.snap (by decide)
  simp only [List.any_cons, List.any_nil, hidx, Bool.or_false, Bool.not_or, Bool.and_eq_true, Bool.not_eq_true', beq_eq_false_iff_ne]
  exact ⟨h1, h2, h3⟩

theorem pageOf_stroke (p : Nat) : (pageOf p).1.stroke ∈ snapFields := by
  have hpages : ∀ g ∈ [stationPage, diePage, modulePage], g.stroke ∈ snapFields := by decide
  unfold pageOf
  refine hpages _ ?_
  split
  · exact .head _
  · split
    · exact .tail _ (.head _)
    · exact .tail _ (.tail _ (.head _))

theorem Within.forEach {α : Type} {ps : List Part} {fs : List Field} {b c : Body} {f : α → Body → Body} {l : List α} (hc : Within ps fs b c)
    (h : ∀ x ∈ l, ∀ d, Within ps fs d (f x d)) : Within ps fs b (Machine.forEach l f c) := by
  induction l generalizing c with
  | nil => exact hc
  | cons x l ih => exact ih (hc.trans (h x List.mem_cons_self c)) fun y hy => h y (List.mem_cons_of_mem _ hy)

theorem Within.setF {ps : List Part} {fs : List Field} {b c : Body} (hc : Within ps fs b c) {f : Field} (hp : Part.regs ∈ ps) (hm : f ∈ fs)
    (hf : f.idx < 1024) (i v : Nat) : Within ps fs b (setF c f i v) := hc.trans (setF_within i v c hp hm hf)

theorem pmcSnapshot_within (b : Body) : Within [.regs] snapFields b (pmcSnapshot b) := by
  have hset : ∀ {f : Field} {c d : Body} (i v : Nat), Within [.regs] snapFields c d → f ∈ snapFields → Within [.regs] snapFields c (setF d f i v) :=
    fun {f c d} i v hc hm => hc.setF (by decide) hm ((by decide : ∀ g ∈ snapFields, g.idx < 1024) f hm) i v
  have hpages : ∀ p ∈ [stationPage, diePage, modulePage], p.snap ∈ snapFields := by decide
  have hcounts : ∀ (l : List (Nat × Nat)) (c : Body), Within [.regs] snapFields c (Machine.forEach l (fun e d => Machine.forEach [stationPage, diePage, modulePage]
      (fun p d => if e.1 % 1024 = p.count.idx then setF d p.snap (e.1 / 1024) e.2 else d) d) c) := fun l c =>
    (Within.refl _ _ c).forEach fun e _ d => (Within.refl _ _ d).forEach fun p hp d => .ite (hset _ _ (.refl _ _ d) (hpages p hp)) (.refl _ _ d)
  have hstrokes : ∀ (n : Nat) (c : Body), Within [.regs] snapFields c (Machine.forEach (List.range 785)
      (fun p d => setF d (pageOf p).1.stroke (pageOf p).2 n) c) := fun n c =>
    (Within.refl _ _ c).forEach fun p _ d => hset _ _ (.refl _ _ d) (pageOf_stroke p)
  unfold pmcSnapshot
  simp only []
  refine Within.forEach (Within.forEach (((snapless_within b).trans (hcounts _ _)).trans (hstrokes _ _)) fun d _ c => ?_) fun k _ c => ?_
  · exact (Within.refl _ _ c).forEach fun k _ c => hset _ _ (hset _ _ (.refl _ _ c) (by decide)) (by decide)
  · exact hset _ _ (hset _ _ (.refl _ _ c) (by decide)) (by decide)

theorem publishOutbound_within (b : Body) : Within [.regs] [R.TLY_MBX.word] b (publishOutbound b) :=
  (Within.refl _ _ b).forEach fun _ _ c => (Within.refl _ _ c).forEach fun _ _ d => setF_within _ _ d (by decide) (by decide) (by decide)

theorem mergeFlags_within (b : Body) : Within [.regs] [R.STN_DIE_ARITH_FLAGS.flags] b (mergeFlags b) :=
  (Within.refl _ _ b).forEach fun _ _ c => setF_within _ _ c (by decide) (by decide) (by decide)

/-! ## The end of a run (R503) -/

theorem strokeStop_within (b : Body) : Within [.regs, .host, .sent, .flock] [R.IRQ_CAUSE.cause, R.TLY_STROKE_STATUS.state] b (strokeStop b) := by
  have hvec : Within [.regs, .host, .sent, .flock] [R.IRQ_CAUSE.cause, R.TLY_STROKE_STATUS.state] b (if b.flock.runOpen then raiseVec 21 b else b) :=
    .ite ((raiseVec_within 21 b).mono (by decide) (by decide)) (.refl _ _ b)
  unfold strokeStop
  refine hvec.trans ?_
  constructor <;> simp (disch := decide)

/-- What the end of a run leaves of the stroke block: the last good stroke among it. -/
theorem strokeStop_flock (b : Body) : (strokeStop b).flock = { b.flock with
    runOpen := false, armed := false, startSeen := none, warnRaised := false, inFlight := none, timerDue := false, inReplay := false
    prepAfter := false, seatWait := none, stopAsked := false, runLeft := none } := by
  have hvec : (if b.flock.runOpen then raiseVec 21 b else b).flock = b.flock := by
    split
    · exact (raiseVec_within 21 b).same (p := .flock) (by decide)
    · rfl
  unfold strokeStop
  simp only [updHost, updFlock, Machine.setF, hvec]

end Sys2Proof.Machine

/-! SUPPORT. The commit of a stroke (O36). -/

namespace Sys2Proof.Machine

/-! ## The start: tallies copied, tails sealed (R199, R220) -/

section Start

variable {s : State} {k j : Nat}

/-- The body in which tail `k` is sealed: its entries, stroke and seal are noted. -/
def sealedBody (k : Nat) (b : Body) : Body :=
  setF (updStk b k (fun t => { t with sealCrc := sealCrcOf t.tail, tailStroke := strokeNum b % 2 ^ 32 })) R.MEM_STG_STATUS.entries k (stk b k).tail.length

theorem sealTail_eq (k : Nat) (s : State) : sealTail k s = setTailState k 3 (setTailState k 2 { s with body := sealedBody k s.body }) := by
  have hlen : (stk (updStk s.body k (fun t => { t with sealCrc := sealCrcOf t.tail, tailStroke := strokeNum s.body % 2 ^ 32 })) k).tail.length
      = (stk s.body k).tail.length := by rw [stk_updStk_same]
  unfold sealTail onBody sealedBody
  simp only [hlen]

theorem sealTail_regional (hk : k < 12) (hbad : s.body.badStack = []) : Regional s (sealTail k s) := by
  have hfirst : Regional s (setTailState k 2 { s with body := sealedBody k s.body }) :=
    tailStep_regional hk hbad (by constructor <;> simp (disch := decide) [sealedBody])
  rw [sealTail_eq]
  exact hfirst.trans (setTailState_regional hk (hfirst.bad.trans hbad) 3)

theorem sealTail_apart (h : k ≠ j) (hbad : s.body.badStack = []) : Apart k s (sealTail j s) := by
  have hbody : Apart k s { s with body := sealedBody j s.body } :=
    ⟨SMap.get_put_ne _ _ _ _ _ _ h, getF_setF_field _ _ _ _ _ _ (by decide) (by decide) (by decide), getF_setF_ne _ _ _ _ _ _ (by omega)⟩
  obtain ⟨m, n, hs, -⟩ := setTailState_sound (k := j) (s := { s with body := sealedBody j s.body }) hbad 2
  rw [sealTail_eq]
  refine hbody.trans ((setTailState_apart (s := { s with body := sealedBody j s.body }) hbad h 2).trans (setTailState_apart ?_ h 3))
  rw [hs]
  exact hbad

theorem sealTail_shows (hbad : s.body.badStack = []) : getF (sealTail k s).body R.MEM_STG_STATUS.state k = 3
    ∧ stk (sealTail k s).body k = { stk s.body k with sealCrc := sealCrcOf (stk s.body k).tail, tailStroke := strokeNum s.body % 2 ^ 32 } := by
  obtain ⟨m, n, hs, -⟩ := setTailState_sound (k := k) (s := { s with body := sealedBody k s.body }) hbad 2
  obtain ⟨hstk, -⟩ := tailStep_shows (k := k) (st := 2) (s := { s with body := sealedBody k s.body }) hbad (by decide)
  obtain ⟨hstk', hstate, -⟩ := tailStep_shows (k := k) (st := 3) (s := setTailState k 2 { s with body := sealedBody k s.body }) (by rw [hs]; exact hbad) (by decide)
  rw [sealTail_eq]
  exact ⟨hstate, hstk'.trans (hstk.trans (SMap.get_put_same _ _ _ _))⟩

theorem get_foldl_put {α β : Type} [DecidableEq α] (g : Nat → Option β) (h : β → α) (d : α) {step : SMap α → Nat → SMap α}
    (hsome : ∀ m i z, g i = some z → step m i = SMap.put m d i (h z)) (hnone : ∀ m i, g i = none → step m i = m) {x : Nat} {y : β} (hx : g x = some y) :
    ∀ (l : List Nat) (m : SMap α), x ∈ l ∨ SMap.get m d x = h y → SMap.get (l.foldl step m) d x = h y
  | [], m, hm => hm.resolve_left List.not_mem_nil
  | i :: l, m, hm => by
    rw [List.foldl_cons]
    refine get_foldl_put g h d hsome hnone hx l _ ?_
    by_cases hi : x = i
    · subst hi
      rw [hsome _ _ _ hx]
      exact .inr (SMap.get_put_same _ _ _ _)
    · rcases hm with hm | hm
      · exact .inl ((List.mem_cons.mp hm).resolve_left hi)
      · refine .inr ?_
        cases hg : g i with
        | none => rwa [hnone _ _ hg]
        | some z =>
          rw [hsome _ _ _ hg, SMap.get_put_ne _ _ _ _ _ _ hi]
          exact hm

/-- The tallies of every active station stand in the shadow (R220). -/
theorem copyShadow_tallies {b : Body} {d l st : Nat} (hd : d < 16) (hl : l < 48) (hst : physOf b d l = some st) :
    SMap.get (copyShadow b).shadow [] (d * 64 + l) = (stn b st).tallies := by
  have hdiv : (d * 64 + l) / 64 = d := by omega
  have hmod : (d * 64 + l) % 64 = l := by omega
  have hmem : d * 64 + l ∈ (List.range 16).flatMap (fun d => (List.range 48).map (fun l => d * 64 + l)) :=
    List.mem_flatMap.mpr ⟨d, List.mem_range.mpr hd, List.mem_map.mpr ⟨l, List.mem_range.mpr hl, rfl⟩⟩
  unfold copyShadow
  simp only []
  generalize (List.range 16).flatMap (fun d => (List.range 48).map (fun l => d * 64 + l)) = keys at hmem ⊢
  refine get_foldl_put (fun x => physOf b (x / 64) (x % 64)) (fun st => (stn b st).tallies) [] (fun m i z h => ?_) (fun m i h => ?_)
    (by rw [hdiv, hmod]; exact hst) _ _ (.inl hmem)
  · rw [h]
  · rw [h]

/-- The body of a commit that has begun to seal. -/
def sealing (b : Body) : Body := setF (setF (copyShadow b) R.MEM_COMMIT_STATUS.applied 0 0) R.MEM_COMMIT_STATUS.state 0 1

/-- The body with other tallies in the shadow. -/
def withShadow (b : Body) (m : SMap (SMap (BitVec 32))) : Body := { b with shadow := m }

theorem copyShadow_eq (b : Body) : ∃ m, copyShadow b = withShadow b m := ⟨_, rfl⟩

theorem sealing_within (b : Body) : Within [.regs, .shadow] [R.MEM_COMMIT_STATUS.applied, R.MEM_COMMIT_STATUS.state] b (sealing b) := by
  obtain ⟨m, hm⟩ := copyShadow_eq b
  have hcopy : Within [.regs, .shadow] [R.MEM_COMMIT_STATUS.applied, R.MEM_COMMIT_STATUS.state] b (withShadow b m) :=
    ⟨fun p => by cases p <;> first | exact .inl (by decide) | exact .inr rfl, fun _ _ _ _ => rfl⟩
  rw [sealing, hm]
  exact (hcopy.setF (by decide) (by decide) (by decide) _ _).setF (by decide) (by decide) (by decide) _ _

theorem sealing_shadow (b : Body) : (sealing b).shadow = (copyShadow b).shadow := by
  rw [sealing]
  generalize copyShadow b = c
  rfl

theorem sealing_parts (b : Body) : (sealing b).badStack = b.badStack ∧ (sealing b).flock = b.flock :=
  ⟨(sealing_within b).same (p := .badStack) (by decide), (sealing_within b).same (p := .flock) (by decide)⟩

/-- The body of a commit whose tails are sealed. -/
def applying (b : Body) : Body := whenB b.flock.runOpen (fun b => setF b R.TLY_STROKE_STATUS.state 0 5) (setF b R.MEM_COMMIT_STATUS.state 0 2)

theorem commitStart_seals (hended : strokeBarrierDone s.body = true) (hdone : s.body.flock.commitDone = false)
    (hhold : flagF s.body R.MEM_COMMIT_CTRL.hold 0 = false) (hidle : commitRuns s.body = false) :
    commitStart s = onBody applying ((List.range 12).foldl (fun s k => sealTail k s) { s with body := sealing s.body }) := by
  unfold commitStart
  simp only [hended, hdone, hhold, hidle, Bool.not_true, Bool.false_eq_true, or_self, if_false]
  rfl

end Start

/-! ## The copy (R196, R198, R199) -/

section Apply

variable {s : State} {k : Nat}

/-- An entry copied to its home unit, a mirror entry at the offset and within its own stack only (R327). -/
def storeEntry (k : Nat) (shift : Option Int) (m : List Host.Cell) (e : TailEntry) : List Host.Cell :=
  let home := (e.home : Int) + shift.getD 0
  if shift.isNone || (decide ((k * stackBytes : Nat) ≤ home) && decide (home < ((k + 1) * stackBytes : Nat))) then memStore m home.toNat (e.payload.map some) else m

theorem applyEntries_sound (shift : Option Int) : ∀ (es : List TailEntry) (s : State), s.body.badStack = [] →
    ∃ n, applyEntries k shift es s = { s with mem := es.foldl (storeEntry k shift) s.mem, body := withFree s.body n }
  | [], s, _ => ⟨s.body.free, rfl⟩
  | e :: es, s, hbad => by
    obtain ⟨j, hj⟩ : ∃ j, (if shift.isNone || (decide ((k * stackBytes : Nat) ≤ (e.home : Int) + shift.getD 0)
        && decide ((e.home : Int) + shift.getD 0 < ((k + 1) * stackBytes : Nat))) then writeStackBytes ((e.home : Int) + shift.getD 0).toNat e.payload s else s)
        = { s with mem := storeEntry k shift s.mem e, body := withFree s.body j } := by
      unfold storeEntry
      simp only []
      split
      · obtain ⟨j, hj⟩ := writeStack_sound ((e.home : Int) + shift.getD 0).toNat (e.payload.map some) hbad
        exact ⟨j, congrArg Prod.snd hj⟩
      · exact ⟨s.body.free, rfl⟩
    obtain ⟨n, hn⟩ := applyEntries_sound shift es { s with mem := storeEntry k shift s.mem e, body := withFree s.body j } hbad
    refine ⟨n, ?_⟩
    rw [applyEntries]
    simp only [hj, hn]
    rfl

theorem sint_of_lt {o : Nat} (h : o < 2 ^ 63) : sint 64 o = o := by
  have hmod : o % 2 ^ 64 = o := Nat.mod_eq_of_lt (h.trans (by norm_num))
  unfold sint
  rw [hmod]
  exact if_pos h

theorem storeEntry_home (m : List Host.Cell) (e : TailEntry) : storeEntry k none m e = memStore m e.home (e.payload.map some) := rfl

/-- A mirror entry is copied at the offset where that lies in the controller's own stack (R327). -/
theorem memGet_storeMirror (k o : Nat) (m : List Host.Cell) (e : TailEntry) (a : Nat) : memGet (storeEntry k (some (o : Int)) m e) a
    = if k * stackBytes ≤ e.home + o ∧ e.home + o < (k + 1) * stackBytes ∧ e.home + o ≤ a ∧ a < e.home + o + e.payload.length
      then e.payload.getD (a - (e.home + o)) 0 else memGet m a := by
  have hhome : (e.home : Int) + (some (o : Int)).getD 0 = ((e.home + o : Nat) : Int) := (Nat.cast_add _ _).symm
  unfold storeEntry
  simp only [hhome, Option.isNone_some, Bool.false_or, Int.toNat_natCast, Nat.cast_le, Nat.cast_lt, Bool.and_eq_true, decide_eq_true_eq]
  by_cases hown : k * stackBytes ≤ e.home + o ∧ e.home + o < (k + 1) * stackBytes
  · obtain ⟨hlo, hhi⟩ := hown
    simp only [hlo, hhi, true_and, and_self, if_true, memGet_stored]
  · rw [if_neg hown, if_neg fun h => hown ⟨h.1, h.2.1⟩]

/-- A controller has copied its entries, its tail through state 4 to state 0. -/
def clearedBody (k : Nat) (b : Body) : Body := setF (updStk b k (fun t => { t with tail := [], mirrorTail := [] })) R.MEM_STG_STATUS.entries k 0

def reportedBody (k : Nat) (b : Body) : Body := setF b R.MEM_COMMIT_STATUS.applied 0 (setBit (getF b R.MEM_COMMIT_STATUS.applied 0) k true)

/-- What a controller that has copied its tail and its mirror tail leaves. -/
structure Applied (k : Nat) (m : List Host.Cell) (s u : State) : Prop where
  pending : u.pending = s.pending
  stack : stk u.body k = { stk s.body k with tail := [], mirrorTail := [] }
  state : getF u.body R.MEM_STG_STATUS.state k = 0
  entries : getF u.body R.MEM_STG_STATUS.entries k = 0
  reported : bit (getF u.body R.MEM_COMMIT_STATUS.applied 0) k = true
  only : Only [.memStacks, .regs, .free] s.body u.body
  mem : ∀ a, inStaging s.body a 1 = false → memGet u.mem a = memGet m a

theorem tailApplied_applies (hk : k < 12) (hrun : s.body.stopped.contains (.controller k) = false) (hbad : s.body.badStack = [])
    (hstate : getF s.body R.MEM_STG_STATUS.state k = 2 ∨ getF s.body R.MEM_STG_STATUS.state k = 3) (hgo : (stk s.body k).restarted = false) :
    Applied k ((stk s.body k).mirrorTail.foldl (storeEntry k (some (mirrorOffset s.body k))) ((stk s.body k).tail.foldl (storeEntry k none) s.mem))
      s (tailApplied k s) := by
  obtain ⟨n, hn⟩ := applyEntries_sound (k := k) none (stk s.body k).tail s hbad
  obtain ⟨n', hn'⟩ := applyEntries_sound (k := k) (some (mirrorOffset s.body k)) (stk s.body k).mirrorTail
    { s with mem := (stk s.body k).tail.foldl (storeEntry k none) s.mem, body := withFree s.body n } hbad
  generalize hm : (stk s.body k).mirrorTail.foldl (storeEntry k (some (mirrorOffset s.body k))) ((stk s.body k).tail.foldl (storeEntry k none) s.mem) = m at *
  have happ : tailApplied k s = onBody (reportedBody k) (setTailState k 0 (onBody (clearedBody k) (setTailState k 4
      { s with mem := m, body := withFree s.body n' }))) := by
    have hgo' : (getF s.body R.MEM_STG_STATUS.state k = 2 ∨ getF s.body R.MEM_STG_STATUS.state k = 3) ∧ (!(stk s.body k).restarted) = true
        ∧ (!s.body.stopped.contains (.controller k)) = true := ⟨hstate, by simp [hgo], by simp only [hrun, Bool.not_false]⟩
    unfold tailApplied
    simp only [if_pos hgo', hn, hn']
    rfl
  obtain ⟨m1, n1, h1, hm1⟩ := setTailState_sound (k := k) (s := { s with mem := m, body := withFree s.body n' }) hbad 4
  obtain ⟨m2, n2, h2, hm2⟩ := setTailState_sound (k := k)
    (s := { s with mem := m1, body := clearedBody k (withFree (setF (withFree s.body n') R.MEM_STG_STATUS.state k 4) n1) }) hbad 0
  rw [happ, h1]
  simp only [onBody]
  rw [h2]
  refine ⟨rfl, ?_, ?_, ?_, ?_, ?_, fun a ha => ?_⟩
  · exact SMap.get_put_same _ _ _ _
  · unfold reportedBody
    rw [getF_setF_other _ _ (by decide) (by decide) (by decide), getF_withFree]
    exact getF_setF_fits (by decide)
  · unfold reportedBody
    rw [getF_setF_other _ _ (by decide) (by decide) (by decide), getF_withFree, getF_setF_other _ _ (by decide) (by decide) (by decide)]
    exact getF_setF_fits (by decide)
  · unfold reportedBody
    rw [getF_setF_same]
    exact bit_setBit_mod _ hk
  · simp (disch := decide) [reportedBody, clearedBody]
  · have houter := outside_header hk ha
    have hsame : ∀ f ∈ [R.MEM_STG_SIZE.size_mib, R.MEM_STG_BASE.base], getF (clearedBody k (withFree (setF (withFree s.body n') R.MEM_STG_STATUS.state k 4) n1)) f k
        = getF s.body f k := by
      intro f hf
      fin_cases hf <;> simp (disch := decide) [clearedBody]
    rw [hsame _ (by decide), hsame _ (by decide)] at hm2
    exact (hm2 a houter).trans (hm1 a houter)

end Apply

theorem noteRun_drain (old b : Body) : (noteRun old b).rack.drain = b.rack.drain := by
  unfold noteRun sensorEvent
  split
  · rfl
  · split
    · rfl
    · simp only []
      split
      · rfl
      · split <;> rfl

/-! ## The end (R119, R199, R220, R227) -/

section Complete

variable {b : Body} {n : Nat}

/-- What a commit that is complete shows and publishes. -/
def published (n : Nat) (b : Body) : Body :=
  pmcSnapshot (publishOutbound (mergeFlags (setF (setF b R.MEM_COMMIT_STATUS.state 0 3) R.MEM_COMMIT_STROKE.stroke 0 (n % 2 ^ 32))))

/-- The fields that the end of a commit writes beside its own. -/
def publishFields : List Field := [R.STN_DIE_ARITH_FLAGS.flags, R.TLY_MBX.word] ++ snapFields

theorem published_within : Within [.regs] publishFields (setF (setF b R.MEM_COMMIT_STATUS.state 0 3) R.MEM_COMMIT_STROKE.stroke 0 (n % 2 ^ 32)) (published n b) :=
  ((mergeFlags_within _).mono (by decide) (by decide)).trans
    (((publishOutbound_within _).mono (by decide) (by decide)).trans ((pmcSnapshot_within _).mono (by decide) (by decide)))

theorem published_only : Only [.regs] b (published n b) := Only.trans (by simp (disch := decide)) published_within.only

theorem published_part {p : Part} (hp : p ∉ [Part.regs]) : p.same b (published n b) := (published_only p).resolve_left hp

theorem published_shows : getF (published n b) R.MEM_COMMIT_STATUS.state 0 = 3 ∧ getF (published n b) R.MEM_COMMIT_STROKE.stroke 0 = n % 2 ^ 32 := by
  rw [published_within.getF_eq (by decide) (by decide), published_within.getF_eq (by decide) (by decide)]
  refine ⟨?_, ?_⟩
  · rw [getF_setF_other _ _ (by decide) (by decide) (by decide)]
    exact getF_setF_fits (by decide)
  · exact getF_setF_fits (Nat.mod_lt _ (by decide))

/-- What the stroke block does after a commit (R248, R255, R503). -/
theorem afterCommit_keeps (b : Body) : Within [.regs, .host, .sent, .flock, .rack] [R.IRQ_CAUSE.cause, R.TLY_STROKE_STATUS.state] b (afterCommit b)
    ∧ (afterCommit b).flock.commitDone = true ∧ (afterCommit b).flock.good = b.flock.commitFor.getD b.flock.good
    ∧ (afterCommit b).rack.drain = b.rack.drain := by
  have hdone : Within [.regs, .host, .sent, .flock, .rack] [R.IRQ_CAUSE.cause, R.TLY_STROKE_STATUS.state] b
      (updFlock (fun f => { f with commitDone := true, good := f.commitFor.getD f.good }) b) := by
    constructor <;> simp (disch := decide)
  unfold afterCommit
  simp only []
  generalize hc : updFlock (fun f => { f with commitDone := true, good := f.commitFor.getD f.good }) b = c at hdone
  have hflock : c.flock.commitDone = true ∧ c.flock.good = b.flock.commitFor.getD b.flock.good ∧ c.rack.drain = b.rack.drain := by
    subst hc
    exact ⟨rfl, rfl, rfl⟩
  split
  · exact ⟨hdone, hflock⟩
  · split
    · have hnote := noteRun_within c (strokeStop c)
      have hsame : (strokeIdle c).flock = (strokeStop c).flock := hnote.same (p := .flock) (by decide)
      have hrack : (strokeStop c).rack = c.rack := (strokeStop_within c).same (p := .rack) (by decide)
      refine ⟨hdone.trans (((strokeStop_within c).mono (by decide) (by decide)).trans (hnote.mono (by decide) (by decide))), ?_, ?_, ?_⟩
      · rw [hsame, strokeStop_flock]
        exact hflock.1
      · rw [hsame, strokeStop_flock]
        exact hflock.2.1
      · rw [strokeIdle, noteRun_drain, hrack]
        exact hflock.2.2
    · exact ⟨hdone.trans (setF_within _ _ c (by decide) (by decide) (by decide)), hflock⟩

theorem commitComplete_ends {s : State} (hstate : getF s.body R.MEM_COMMIT_STATUS.state 0 = 2) (hall : getF s.body R.MEM_COMMIT_STATUS.applied 0 = 0xFFF)
    (hprep : s.body.flock.prepAfter = false) (hswitch : s.body.fail.switch = none) (hfill : s.body.fail.fill = none) (hdrain : s.body.rack.drain = 0)
    (hfor : s.body.flock.commitFor = some n) : commitComplete s = { s with body := afterCommit (published n s.body) } := by
  obtain ⟨hwithin, -, -, hkeep⟩ := afterCommit_keeps (published n s.body)
  have hgo : ¬ (getF s.body R.MEM_COMMIT_STATUS.state 0 ≠ 2 ∨ getF s.body R.MEM_COMMIT_STATUS.applied 0 ≠ 0xFFF) := by simp [hstate, hall]
  have hflock : (published n s.body).flock = s.body.flock := published_part (p := .flock) (by decide)
  have hfail : (afterCommit (published n s.body)).fail = s.body.fail :=
    (hwithin.same (p := .fail) (by decide)).trans (published_part (p := .fail) (by decide))
  have hrack : (afterCommit (published n s.body)).rack.drain = 0 := by
    rw [hkeep, show (published n s.body).rack = s.body.rack from published_part (p := .rack) (by decide), hdrain]
  have hhand : drainHandoff (afterCommit (published n s.body)) = afterCommit (published n s.body) := if_neg fun h => by
    rw [hrack] at h
    exact absurd h.1 (by decide)
  have hmirror : enableMirror (afterCommit (published n s.body)) = afterCommit (published n s.body) := by
    unfold enableMirror
    rw [hfail, hfill]
  have hstand : switchStandin n { s with body := afterCommit (published n s.body) } = { s with body := afterCommit (published n s.body) } := by
    unfold switchStandin
    simp only [hfail, hswitch]
  have hpub : (let b := setF s.body R.MEM_COMMIT_STATUS.state 0 3; pmcSnapshot (publishOutbound (mergeFlags (setF b R.MEM_COMMIT_STROKE.stroke 0 (n % 2 ^ 32)))))
      = published n s.body := rfl
  unfold commitComplete
  rw [if_neg hgo]
  simp only [hfor, onBody, hpub, hflock, hprep, Bool.false_eq_true, if_false, hhand, hmirror]
  exact hstand

end Complete

theorem commitStart_runs {k : Nat} {s : State} (hk : k < 12) (hended : strokeBarrierDone s.body = true) (hdone : s.body.flock.commitDone = false)
    (hhold : flagF s.body R.MEM_COMMIT_CTRL.hold 0 = false) (hidle : commitRuns s.body = false) (hbad : s.body.badStack = []) :
    RunsS .commitStart s (fun u => getF u.body R.MEM_COMMIT_STATUS.state 0 = 2
      ∧ getF u.body R.MEM_COMMIT_STATUS.applied 0 = 0 ∧ getF u.body R.MEM_STG_STATUS.state k = 3
      ∧ getF u.body R.TLY_STROKE_STATUS.state 0 = (if s.body.flock.runOpen then 5 else getF s.body R.TLY_STROKE_STATUS.state 0)
      ∧ stk u.body k = { stk s.body k with sealCrc := sealCrcOf (stk s.body k).tail, tailStroke := getF s.body R.TLY_STROKE_NUM.stroke 0 % 2 ^ 32 }
      ∧ (∀ d l st, d < 16 → l < 48 → physOf s.body d l = some st → SMap.get u.body.shadow [] (d * 64 + l) = (stn s.body st).tallies)
      ∧ ∀ a, inStaging s.body a 1 = false → memGet u.mem a = memGet s.mem a) := by
  have hwith := sealing_within s.body
  obtain ⟨hsbad, hsflock⟩ := sealing_parts s.body
  obtain ⟨hall, u, hu, hau, hend⟩ := foldl_twelve (f := sealTail) (s := { s with body := sealing s.body }) (fun j s hj hb => sealTail_regional hj hb)
    (fun k j s h hb => sealTail_apart h hb) hk (hsbad.trans hbad)
  obtain ⟨hst, hstk⟩ := sealTail_shows (k := k) (hu.bad.trans (hsbad.trans hbad))
  generalize hv : (List.range 12).foldl (fun s k => sealTail k s) { s with body := sealing s.body } = v at hall hend
  have hflock : v.body.flock = s.body.flock := (hall.within.same (p := .flock) (by decide)).trans hsflock
  have hshadow : v.body.shadow = (copyShadow s.body).shadow := (hall.within.same (p := .shadow) (by decide)).trans (sealing_shadow s.body)
  have happ : Within [.regs] [R.MEM_COMMIT_STATUS.state, R.TLY_STROKE_STATUS.state] v.body (applying v.body) := by
    unfold applying whenB
    split <;> constructor <;> simp (disch := decide)
  refine runsS_of_next (t := commitStart s) rfl ((commitStart_seals hended hdone hhold hidle).trans (congrArg _ hv)) hall.pending
    ⟨?_, ?_, ?_, ?_, ?_, fun d l st hd hl hphys => ?_, fun a ha => hall.mem a ?_⟩
  · show getF (applying v.body) _ _ = 2
    unfold applying whenB
    split
    · rw [getF_setF_other _ _ (by decide) (by decide) (by decide)]
      exact getF_setF_fits (by decide)
    · exact getF_setF_fits (by decide)
  · refine (happ.getF_eq (by decide) (by decide) 0).trans ((hall.within.getF_eq (by decide) (by decide) 0).trans ?_)
    show getF (sealing s.body) _ _ = 0
    rw [sealing, getF_setF_other _ _ (by decide) (by decide) (by decide)]
    exact getF_setF_fits (by decide)
  · exact (happ.getF_eq (by decide) (by decide) k).trans (hend.state.trans hst)
  · show getF (applying v.body) _ _ = _
    unfold applying whenB
    rw [hflock]
    split
    · exact getF_setF_fits (by decide)
    · rw [getF_setF_other _ _ (by decide) (by decide) (by decide), hall.within.getF_eq (by decide) (by decide)]
      exact hwith.getF_eq (by decide) (by decide) 0
  · refine (happ.stk_eq (by decide) k).trans ?_
    rw [hend.stack, hstk, hau.stack]
    rw [show strokeNum u.body = strokeNum s.body from (hu.within.getF_eq (by decide) (by decide) 0).trans (hwith.getF_eq (by decide) (by decide) 0)]
    rw [show stk ({ s with body := sealing s.body } : State).body k = stk s.body k from hwith.stk_eq (by decide) k]
    rfl
  · rw [show (onBody applying v).body.shadow = (copyShadow s.body).shadow from (happ.same (p := .shadow) (by decide)).trans hshadow]
    exact copyShadow_tallies hd hl hphys
  · have hsize : ∀ j, getF (sealing s.body) R.MEM_STG_SIZE.size_mib j = getF s.body R.MEM_STG_SIZE.size_mib j := fun j => hwith.getF_eq (by decide) (by decide) j
    have hbase : ∀ j, getF (sealing s.body) R.MEM_STG_BASE.base j = getF s.body R.MEM_STG_BASE.base j := fun j => hwith.getF_eq (by decide) (by decide) j
    rw [← ha]
    unfold inStaging touchesStaging
    simp only [hsize, hbase]

theorem mirror_applies {k o : Nat} {s : State} {e : TailEntry} (hlt : k < 12) (hk : isStack k = true)
    (hrun : s.body.stopped.contains (.controller k) = false) (hbad : s.body.badStack = [])
    (hst : getF s.body R.MEM_STG_STATUS.state k = 2 ∨ getF s.body R.MEM_STG_STATUS.state k = 3) (hgo : (stk s.body k).restarted = false)
    (htail : (stk s.body k).tail = []) (hmir : (stk s.body k).mirrorTail = [e]) (ho : getF s.body R.MEM_MIR_OFFSET.offset k = o) (hpos : o < 2 ^ 63) :
    RunsS (.tailApplyComplete k) s (fun u => stk u.body k = { stk s.body k with tail := [], mirrorTail := [] }
      ∧ ∀ a, inStaging s.body a 1 = false → memGet u.mem a =
        (if k * stackBytes ≤ e.home + o ∧ e.home + o < (k + 1) * stackBytes ∧ e.home + o ≤ a ∧ a < e.home + o + e.payload.length then
          e.payload.getD (a - (e.home + o)) 0 else memGet s.mem a)) := by
  obtain ⟨hpend, hstk, -, -, -, -, hmem⟩ := tailApplied_applies hlt hrun hbad hst hgo
  refine runsS_of_next (next_of_onUnitS hk) rfl hpend ⟨hstk, fun a ha => ?_⟩
  have hoff : mirrorOffset s.body k = (o : Int) := by
    rw [mirrorOffset, ho]
    exact sint_of_lt hpos
  rw [hmem a ha, htail, hmir, hoff, List.foldl_nil, List.foldl_cons, List.foldl_nil, memGet_storeMirror]

/-- Settles O36: the start seals every tail in turn, a copy stores the entries in order, the end publishes the stroke. -/
theorem strokeCommit : Obligations.StrokeCommit := by
  intro k s hk hrun t state ended tailState
  have hlt : k < 12 := of_decide_eq_true hk
  refine ⟨fun hno => ?_, fun ⟨hdone, hfirst⟩ hhold => ?_, fun ⟨hdone, hfirst⟩ hhold hidle hbad => ?_, fun e f hst hgo htail hmir hbad => ?_,
    fun e o hst hgo htail hmir hbad ho hpos => ?_, fun hwait => ?_, fun hst hall hprep hswitch hfill hdrain n hfor => ?_, fun hno => ?_⟩
  · have hno' : (!strokeBarrierDone s.body) = true ∨ s.body.flock.commitDone = true := by
      by_contra h
      simp only [not_or, Bool.not_eq_true, Bool.not_eq_false'] at h
      exact hno h
    exact runs_of_next (t := commitStart s) (b := s.body) rfl (if_pos hno') (Only.refl _ _) rfl
  · have hheld : commitStart s = { s with body := setF s.body R.MEM_COMMIT_STATUS.state 0 4 } := by
      unfold commitStart
      simp only [hdone, hfirst, hhold, Bool.not_true, Bool.false_eq_true, or_self, if_false, if_true]
      rfl
    refine runs_of_next (t := commitStart s) rfl hheld ?_ ⟨getF_setF_fits (by decide), ?_⟩ <;> simp (disch := decide)
  · have hruns : commitRuns s.body = false := by
      have hst : getF s.body R.MEM_COMMIT_STATUS.state 0 = state := rfl
      have h1 : state ≠ 1 := by omega
      have h2 : state ≠ 2 := by omega
      simp [commitRuns, hst, h1, h2]
    exact commitStart_runs hlt hdone hfirst hhold hruns hbad
  · obtain ⟨hpend, hstk, hstate, hent, hrep, honly, hmem⟩ := tailApplied_applies hlt hrun hbad hst hgo
    refine runsS_of_next (next_of_onUnitS hk) rfl hpend ⟨hstk, hstate, hent, hrep, honly, fun a ha => ?_⟩
    rw [hmem a ha, show (stk s.body k).tail = [e, f] from htail, show (stk s.body k).mirrorTail = [] from hmir]
    simp only [List.foldl_cons, List.foldl_nil, storeEntry_home, memGet_stored]
  · exact mirror_applies hlt hk hrun hbad hst hgo htail hmir ho hpos
  · have hno : ¬ ((getF s.body R.MEM_STG_STATUS.state k = 2 ∨ getF s.body R.MEM_STG_STATUS.state k = 3) ∧ (!(stk s.body k).restarted) = true
        ∧ (!s.body.stopped.contains (.controller k)) = true) := fun h => by
      have hr : (stk s.body k).restarted = true := hwait
      simp [hr] at h
    exact runs_of_next (t := tailApplied k s) (b := s.body) (next_of_onUnitS hk) (if_neg hno) (Only.refl _ _) rfl
  · obtain ⟨hwithin, hcd, hgood, -⟩ := afterCommit_keeps (published n s.body)
    obtain ⟨hst', hstroke⟩ := published_shows (n := n) (b := s.body)
    have hflock : (published n s.body).flock = s.body.flock := published_part (p := .flock) (by decide)
    have hends := commitComplete_ends hst hall hprep hswitch hfill hdrain hfor
    generalize afterCommit (published n s.body) = c at *
    refine runsS_of_next (t := commitComplete s) rfl hends rfl ⟨?_, ?_, hcd, ?_, rfl⟩
    · exact (hwithin.getF_eq (by decide) (by decide) 0).trans hst'
    · exact (hwithin.getF_eq (by decide) (by decide) 0).trans hstroke
    · rw [hgood, hflock, hfor]
      rfl
  · exact runs_of_next (t := commitComplete s) (b := s.body) rfl (if_pos hno) (Only.refl _ _) rfl

end Sys2Proof.Machine

/-! SUPPORT. The host drovers (O37). -/

namespace Sys2Proof.Machine

/-! ## Vectors (R504) -/

theorem raiseVec_pending {v : Nat} (b : Body) (hv : v < 30) : bit (getF (raiseVec v b) R.IRQ_CAUSE.cause 0) v = true := by
  obtain ⟨hold, h⟩ | h | h := raiseVec_cases v b <;> rw [h]
  · exact hold
  · exact bit_withCause b hv
  · rw [getF_sendVector]
    exact bit_withCause b hv

theorem raiseVec_sent (v : Nat) (b : Body) : b.sent ⊆ (raiseVec v b).sent := by
  obtain ⟨-, h⟩ | h | h := raiseVec_cases v b <;> rw [h]
  · exact fun _ => id
  · exact fun _ => id
  · exact sendVector_sent v (withCause v b)

section HostDrover

variable {h : Nat} {s : State} {b : Body}

/-! ## Faults (R191, R192, R503) -/

theorem hqFault_only (cause : Nat) (b : Body) : Only [.regs, .sent, .host] b (hqFault h cause b) := by
  unfold hqFault
  refine Only.trans ?_ ((raiseVec_within (16 + h) _).only.mono (by decide))
  simp (disch := decide)

theorem hqFault_shows {cause : Nat} (hc : cause < 16) (b : Body) : flagF (hqFault h cause b) R.DRV_HQ_STATUS.valid h = true
    ∧ getF (hqFault h cause b) R.DRV_HQ_STATUS.cause h = cause ∧ getF (hqFault h cause b) R.DRV_HQ_STATUS.slot h = getF b R.DRV_HQ_HEAD.head h % 64
    ∧ getF (hqFault h cause b) R.DRV_HQ_HEAD.head h = getF b R.DRV_HQ_HEAD.head h := by
  unfold hqFault
  simp only []
  have hvec := fun (f : Field) (hf : f.idx < 1024) (hn : f.idx ∉ [R.IRQ_CAUSE.cause].map Field.idx) (c : Body) =>
    (raiseVec_within (16 + h) c).getF_eq hf hn h
  refine ⟨?_, ?_, ?_, ?_⟩
  · rw [(raiseVec_within (16 + h) _).flagF_eq (by decide) (by decide)]
    simp (disch := decide)
  · rw [hvec _ (by decide) (by decide), getF_setFlag_other _ _ (by decide) (by decide) (by decide), getF_setF_other _ _ (by decide) (by decide) (by decide)]
    exact getF_setF_fits hc
  · rw [hvec _ (by decide) (by decide), getF_setFlag_other _ _ (by decide) (by decide) (by decide), getF_setF_same]
    rfl
  · rw [hvec _ (by decide) (by decide)]
    simp (disch := decide)

/-! ## A descriptor (R188, R192) -/

variable (hne : getF s.body R.DRV_HQ_HEAD.head h ≠ getF s.body R.DRV_HQ_TAIL.tail h) (hvalid : flagF s.body R.DRV_HQ_STATUS.valid h = false)
include hne hvalid

theorem hostRun_illegal (hfault : fieldFault (descOf (hqSlotBytes s.body h (getF s.body R.DRV_HQ_HEAD.head h))) true = some 1) (data : List Byte) :
    hostRun h data s = { s with body := hqFault h 1 s.body } := by
  have hgo : ¬ (getF s.body R.DRV_HQ_HEAD.head h = getF s.body R.DRV_HQ_TAIL.tail h ∨ flagF s.body R.DRV_HQ_STATUS.valid h = true) := by simp [hne, hvalid]
  unfold hostRun
  simp only [if_neg hgo, hfault]

variable {d : Desc} (hd : descOf (hqSlotBytes s.body h (getF s.body R.DRV_HQ_HEAD.head h)) = d) (hgood : fieldFault d true = none) (hkind : d.kind = 1)
include hd hgood hkind

/-- A legal COPY runs its one move. -/
theorem hostRun_moves {w : Bool × Place × Nat} (hends : hostEnds s.body ⟨some d.src, some d.dst, d.length⟩ = some w) (data : List Byte) :
    hostRun h data s = (let r := hostMoves [⟨some d.src, some d.dst, d.length⟩] data [] s
      match r.1.1 with
      | some c => onBody (hqFault h c) r.2
      | none => onBody (fun b =>
          let b := if d.chk then chkFeed (2048 + h) r.1.2 b else b
          let b := if d.frame then chkFrameEnd (2048 + h) b else b
          let b := setF b R.DRV_HQ_DONE.done h (getF b R.DRV_HQ_DONE.done h + 1)
          let b := setF b R.DRV_HQ_HEAD.head h ((getF s.body R.DRV_HQ_HEAD.head h + 1) % 64)
          if getF b R.DRV_HQ_HEAD.head h = getF b R.DRV_HQ_TAIL.tail h then raiseVec (16 + h) b else b) r.2) := by
  have hgo : ¬ (getF s.body R.DRV_HQ_HEAD.head h = getF s.body R.DRV_HQ_TAIL.tail h ∨ flagF s.body R.DRV_HQ_STATUS.valid h = true) := by simp [hne, hvalid]
  have hmoves : movesOf d [] = [⟨some d.src, some d.dst, d.length⟩] := by
    unfold movesOf
    rw [hkind]
    rfl
  have hany : (([⟨some d.src, some d.dst, d.length⟩] : List Move).take 1).any (fun m => (hostEnds s.body m).isNone) = false := by simp [hends]
  unfold hostRun
  simp only [if_neg hgo, hd, hmoves, hgood, hany] <;> rfl

omit hne hvalid hd hgood hkind

/-- The body in which a host drover's descriptor is done (R192, R503). -/
def hqAdvanced (h head : Nat) (b : Body) : Body :=
  let c := setF (setF b R.DRV_HQ_DONE.done h (getF b R.DRV_HQ_DONE.done h + 1)) R.DRV_HQ_HEAD.head h ((head + 1) % 64)
  if getF c R.DRV_HQ_HEAD.head h = getF c R.DRV_HQ_TAIL.tail h then raiseVec (16 + h) c else c

theorem hqAdvanced_shows (head : Nat) (b : Body) : getF (hqAdvanced h head b) R.DRV_HQ_HEAD.head h = (head + 1) % 64
    ∧ getF (hqAdvanced h head b) R.DRV_HQ_DONE.done h = (getF b R.DRV_HQ_DONE.done h + 1) % 2 ^ R.DRV_HQ_DONE.done.width
    ∧ b.sent ⊆ (hqAdvanced h head b).sent := by
  unfold hqAdvanced
  simp only []
  generalize hc : setF (setF b R.DRV_HQ_DONE.done h (getF b R.DRV_HQ_DONE.done h + 1)) R.DRV_HQ_HEAD.head h ((head + 1) % 64) = c
  have hhead : getF c R.DRV_HQ_HEAD.head h = (head + 1) % 64 := hc ▸ getF_setF_fits (Nat.mod_lt _ (by decide))
  have hdone : getF c R.DRV_HQ_DONE.done h = (getF b R.DRV_HQ_DONE.done h + 1) % 2 ^ R.DRV_HQ_DONE.done.width := by
    rw [← hc, getF_setF_other _ _ (by decide) (by decide) (by decide)]
    exact getF_setF_same _ _ _ _
  have hsent : c.sent = b.sent := hc ▸ rfl
  rw [← hsent]
  split
  · exact ⟨((raiseVec_within _ c).getF_eq (by decide) (by decide) h).trans hhead, ((raiseVec_within _ c).getF_eq (by decide) (by decide) h).trans hdone,
      raiseVec_sent _ c⟩
  · exact ⟨hhead, hdone, fun _ => id⟩

include hne hvalid hd hgood hkind

theorem hostRun_done {w : Bool × Place × Nat} (hends : hostEnds s.body ⟨some d.src, some d.dst, d.length⟩ = some w) (hchk : d.chk = false)
    (hframe : d.frame = false) {data fed : List Byte} {u : State} (hmoves : hostMoves [⟨some d.src, some d.dst, d.length⟩] data [] s = ((none, fed), u)) :
    hostRun h data s = onBody (hqAdvanced h (getF s.body R.DRV_HQ_HEAD.head h)) u := by
  rw [hostRun_moves hne hvalid hd hgood hkind hends]
  simp only [hmoves, hchk, hframe]
  rfl

theorem hostRun_refused {w : Bool} {p : Place} {a : Nat} (hends : hostEnds s.body ⟨some d.src, some d.dst, d.length⟩ = some (w, p, a))
    (href : hostRefused s.body p d.length = true) (data : List Byte) : hostRun h data s = { s with body := hqFault h 7 s.body } := by
  have hmoves : hostMoves [⟨some d.src, some d.dst, d.length⟩] data [] s = ((some 7, []), s) := by
    cases w <;> simp [hostMoves, hends, href]
  rw [hostRun_moves hne hvalid hd hgood hkind hends]
  simp only [hmoves]
  rfl

end HostDrover

/-! ## Moves between host memory and the stacks -/

section Ends

variable {s : State} {a x n : Nat}

/-- An address in host memory with room for a move (R187). -/
def isHostAddr (x n : Nat) : Bool := decide ((sysAddr x).space = 3 ∧ (sysAddr x).ix = 0 ∧ (sysAddr x).addr + n ≤ 2 ^ 48)

variable {p : Place} (hx : isHostAddr x n = true) (hend : hostEnd s.body a n = some p)
include hx hend

theorem hostEnds_in : hostEnds s.body ⟨some x, some a, n⟩ = some (true, p, (sysAddr x).addr) := by
  unfold isHostAddr at hx
  unfold hostEnds
  simp only [hx, if_true, hend]
  rfl

theorem hostEnds_out (ha : isHostAddr a n = false) : hostEnds s.body ⟨some a, some x, n⟩ = some (false, p, (sysAddr x).addr) := by
  unfold isHostAddr at hx ha
  unfold hostEnds
  simp only [hx, ha, Bool.false_eq_true, if_false, if_true, hend]
  rfl

end Ends

section Moves

variable {s : State} {a c x n : Nat}

theorem hostMoves_in {m : Nat} (hends : hostEnds s.body ⟨some x, some a, n⟩ = some (true, .stack m c, (sysAddr x).addr))
    (hserves : hostRefused s.body (.stack m c) n = false) (hbad : s.body.badStack = []) {data : List Byte} (hlen : data.length = n) :
    ∃ k, hostMoves [⟨some x, some a, n⟩] data [] s = ((none, data), { s with mem := memStore s.mem c (data.map some), body := withFree s.body k }) := by
  obtain ⟨k, hk⟩ := writeStack_sound (s := s) c (data.map some) hbad
  have hdata : (data ++ List.replicate n 0).take n = data := by
    rw [← hlen, List.take_left']
    rfl
  refine ⟨k, ?_⟩
  simp only [hostMoves, hends, hserves, Bool.false_eq_true, if_false, hdata, List.nil_append, writePlaceBytes, writeStackBytes, hk]
  rfl

theorem hostMoves_out {m : Nat} (hends : hostEnds s.body ⟨some a, some x, n⟩ = some (false, .stack m c, (sysAddr x).addr))
    (hserves : hostRefused s.body (.stack m c) n = false) (hheld : heldBySeal s.body c n = false) (hbad : s.body.badStack = []) :
    ∃ k, hostMoves [⟨some a, some x, n⟩] [] [] s = ((none, memBytes s.mem c n),
      { s with body := emit (.response "HOST_WRITE" ((sysAddr x).addr :: (memBytes s.mem c n).map (·.toNat))) (withFree s.body k) }) := by
  obtain ⟨k, hk⟩ := readStack_sound (s := s) c n hbad
  refine ⟨k, ?_⟩
  simp only [hostMoves, hends, hserves, Bool.false_eq_true, if_false, readPlace, readSealed, hheld, hk, List.isEmpty_nil, Bool.not_true, List.nil_append]
  rfl

end Moves

/-- Settles O37: the tail by its distance from the head, a descriptor by its one move, a fault by its record. -/
theorem hostDrovers : Obligations.HostDrovers := by
  intro h s hh head tail dist d
  have hunit : isHq h = true := decide_eq_true hh
  refine ⟨fun t ht hle => ?_, fun t ht hlt => ?_, fun hne hvalid hgood hkind hchk hframe hbad a x hserves hspace hix hroom hend => ?_,
    fun hne hvalid hfault data => ?_, fun hne hvalid hgood hkind w p a hends href data => ?_, fun heq data => ?_, fun hvalid => ?_⟩
  · have hno : ¬ ((t % 64 + 64 - head) % 64 < (tail + 64 - head) % 64) := by
      rw [Nat.mod_eq_of_lt ht]
      exact Nat.not_lt.mpr hle
    refine runs_of_lift (lift_of_onUnit hunit) (if_neg hno) ?_ ⟨getF_setF_fits ht, ?_⟩ <;> simp (disch := decide)
  · have hyes : (t % 64 + 64 - head) % 64 < (tail + 64 - head) % 64 := by
      rw [Nat.mod_eq_of_lt ht]
      exact hlt
    refine runs_of_lift (lift_of_onUnit hunit) (if_pos hyes) ?_ ⟨?_, ?_⟩ <;> simp (disch := decide)
  · have hx : isHostAddr x d.length = true := decide_eq_true ⟨hspace, hix, hroom⟩
    intro after
    refine ⟨fun hsrc hdst data hlen => ?_, fun hsrc hdst hown hheld => ?_⟩
    · have hends := hostEnds_in hx hend
      obtain ⟨k, hk⟩ := hostMoves_in hends hserves hbad hlen
      rw [← hsrc, ← hdst] at hends hk
      have hrun := hostRun_done hne hvalid rfl hgood hkind hends hchk hframe hk
      refine runsS_of_next (next_of_onUnitS hunit) hrun rfl ⟨?_, fun c => ?_⟩
      · obtain ⟨hhead, hdone, -⟩ := hqAdvanced_shows (h := h) head (withFree s.body k)
        exact ⟨hhead, hdone⟩
      · rw [← hdst, ← hlen]
        exact memGet_stored _ _ _ _
    · have ha : isHostAddr a d.length = false := by simp [isHostAddr, hown]
      have hends := hostEnds_out hx hend ha
      obtain ⟨k, hk⟩ := hostMoves_out hends hserves hheld hbad
      rw [← hdst, show some a = some d.src by rw [hsrc]] at hends hk
      have hrun := hostRun_done hne hvalid rfl hgood hkind hends hchk hframe hk
      obtain ⟨hhead, hdone, hsent⟩ := hqAdvanced_shows (h := h) head
        (emit (.response "HOST_WRITE" ((sysAddr d.dst).addr :: (memBytes s.mem a d.length).map (·.toNat))) (withFree s.body k))
      refine runsS_of_next (next_of_onUnitS hunit) hrun rfl ⟨⟨hhead, hdone⟩, rfl, ?_⟩
      rw [← hdst]
      exact hsent (List.mem_cons_self)
  · obtain ⟨hval, hcause, hslot, hhead⟩ := hqFault_shows (h := h) (cause := 1) (by decide) s.body
    refine runs_of_next (t := hostRun h data s) (next_of_onUnitS hunit) (hostRun_illegal hne hvalid hfault data) (hqFault_only 1 s.body)
      ⟨hval, hcause, hslot, hhead, raiseVec_pending _ (by omega)⟩
  · obtain ⟨hval, hcause, -, hhead⟩ := hqFault_shows (h := h) (cause := 7) (by decide) s.body
    exact runs_of_next (t := hostRun h data s) (next_of_onUnitS hunit) (hostRun_refused hne hvalid rfl hgood hkind hends href data) (hqFault_only 7 s.body)
      ⟨hval, hcause, hhead⟩
  · exact runs_of_next (t := hostRun h data s) (b := s.body) (next_of_onUnitS hunit) (if_pos (.inl heq)) (Only.refl _ _) rfl
  · refine runs_of_lift (lift_of_onUnit hunit) (if_pos hvalid) ?_ ⟨?_, ?_, ?_, ?_⟩
    · simp (disch := decide)
    · simp (disch := decide)
    · simp (disch := decide)
    · simp (disch := decide) only [getF_setF_same, getF_setFlag_other, getF_setF_other]
      split
      · rfl
      · exact Nat.mod_mod _ 64
    · simp (disch := decide)

end Sys2Proof.Machine

/-! SUPPORT. Telegrams (O38): what sending one changes, the check of one received, and the ledger's part. -/

namespace Sys2Proof.Machine

/-! ## Telegrams sent -/

/-- The body in which telegrams have been formed and handed to the panel: their alive counters, and what has gone out. -/
def told (m : SMap Nat) (ms : List Sent) (fs : List Flit) (b : Body) : Body := { b with flock := { b.flock with txAlive := m }, sent := ms, fabric := fs }

/-- Going from `b` to `c` forms telegrams and changes nothing else. -/
def Tells (b c : Body) : Prop := ∃ m ms fs, c = told m ms fs b

section Told

variable {m : SMap Nat} {ms : List Sent} {fs : List Flit} {b c d : Body}

@[simp] theorem getF_told (f : Field) (i : Nat) : getF (told m ms fs b) f i = getF b f i := rfl

@[simp] theorem flagF_told (f : Field) (i : Nat) : flagF (told m ms fs b) f i = flagF b f i := rfl

@[simp] theorem stn_told (st : Nat) : stn (told m ms fs b) st = stn b st := rfl

@[simp] theorem told_flock : (told m ms fs b).flock = { b.flock with txAlive := m } := rfl

theorem Tells.refl (b : Body) : Tells b b := ⟨b.flock.txAlive, b.sent, b.fabric, rfl⟩

theorem Tells.trans (h : Tells b c) (k : Tells c d) : Tells b d := by
  obtain ⟨m, ms, fs, rfl⟩ := h
  obtain ⟨m', ms', fs', rfl⟩ := k
  exact ⟨m', ms', fs', rfl⟩

theorem Tells.forEach {α : Type} {f : α → Body → Body} (h : ∀ x b, Tells b (f x b)) : ∀ (l : List α) (b : Body), Tells b (forEach l f b)
  | [], b => .refl b
  | x :: l, b => (h x b).trans (Tells.forEach h l (f x b))

theorem Tells.only {ps : List Part} (h : Tells b c) (hf : Part.flock ∈ ps) (hs : Part.sent ∈ ps) (hx : Part.fabric ∈ ps) : Only ps b c := by
  obtain ⟨m, ms, fs, rfl⟩ := h
  intro p
  cases p <;> first | exact .inl hf | exact .inl hs | exact .inl hx | exact .inr rfl

theorem Tells.stn_eq (h : Tells b c) (st : Nat) : stn c st = stn b st := by
  obtain ⟨m, ms, fs, rfl⟩ := h
  rfl

end Told

theorem nextEdge_of_ne {n goal : Nat} (h : n ≠ goal) : nextEdge n goal ≠ none := by
  unfold nextEdge
  simp only []
  rw [if_neg h]
  split_ifs <;> simp

/-- A telegram's flit starts on DIE5, which no port is on: it travels on the panel. -/
theorem strokeEp_travels {f : Flit} {m vc p : Nat} (hsrc : f.src = strokeEp) (hpos : f.pos = none) (hvia : f.via = some (m, vc, p)) :
    f.nextEdge ≠ none := by
  have hnode : f.node = 5 := by
    unfold Flit.node
    rw [hpos, hsrc]
    rfl
  have hgoal : 16 ≤ f.goal := by
    unfold Flit.goal
    rw [hvia]
    exact Nat.le_add_right _ _
  exact nextEdge_of_ne (by omega)

theorem sendTel_fabric (nbr ttype : Nat) (bytes : List Byte) (b : Body) : ∃ fs, sendTel nbr ttype bytes b = withFabric b fs := by
  unfold sendTel sendModule
  split
  · exact ⟨b.fabric, rfl⟩
  · unfold sendVia
    split
    · exact ⟨b.fabric, rfl⟩
    · simp only []
      split
      next h => exact absurd h (strokeEp_travels rfl rfl rfl)
      next => exact ⟨_, rfl⟩

theorem sendTel_tells (nbr ttype : Nat) (bytes : List Byte) (b : Body) : Tells b (sendTel nbr ttype bytes b) := by
  obtain ⟨fs, h⟩ := sendTel_fabric nbr ttype bytes b
  exact ⟨b.flock.txAlive, b.sent, fs, h⟩

theorem emit_tells (m : Sent) (b : Body) : Tells b (emit m b) := ⟨b.flock.txAlive, m :: b.sent, b.fabric, rfl⟩

theorem telHead_tells (ttype nbr flock stroke : Nat) (combined : Bool) (b : Body) : Tells b (telHead b ttype nbr flock stroke combined).2 := by
  unfold telHead
  simp only []
  split
  · exact .refl b
  · exact ⟨_, b.sent, b.fabric, rfl⟩

theorem forwardStart_tells (sender stroke : Nat) (body : StartBody) (b : Body) : Tells b (forwardStart sender stroke body b) :=
  Tells.forEach (fun _ _ => (telHead_tells _ _ _ _ _ _).trans ((emit_tells _ _).trans (sendTel_tells _ _ _ _))) _ b

/-! ## The check of a telegram (R232) -/

/-- The body that has noted a telegram's alive counter. -/
def heard (ttype : Nat) (h : TelHead) (b : Body) : Body :=
  updFlock (fun f => { f with rxAlive := SMap.put f.rxAlive none (ttype * 16384 + h.nbr) (some h.alive) }) b

section Check

variable {h : TelHead} {b : Body}

/-- A telegram of a live neighbour that passes CRC and level. -/
structure Sound (h : TelHead) (b : Body) : Prop where
  joined : isolated b = false
  live : flagF b R.KLK_ROUTE.lost h.nbr = false
  crc : h.crcOk = true
  level : h.level ≤ 1

theorem telCheck_sound (hs : Sound h b) {ttype : Nat} (ht : ttype ≠ 5) : telCheck ttype h b =
    (match SMap.get b.flock.rxAlive none (ttype * 16384 + h.nbr) with
    | none => (true, heard ttype h b)
    | some l => match aliveCheck 8 l h.alive with
      | .inOrder => (true, heard ttype h b)
      | .repeated => (false, addSat (heard ttype h b) R.TLY_TELEGRAM_ERR.repeats 0 1)
      | .skip => (true, addSat (heard ttype h b) R.TLY_TELEGRAM_ERR.skip 0 1)
      | .backward => (false, addSat (heard ttype h b) R.TLY_TELEGRAM_ERR.backward 0 1)) := by
  obtain ⟨hiso, hlive, hcrc, hlevel⟩ := hs
  have hl : ¬ telLevelMax < h.level := Nat.not_lt.mpr hlevel
  unfold telCheck
  simp only [hiso, hlive, hcrc, if_neg hl, if_neg ht, Bool.not_true, Bool.false_eq_true, if_false]
  rfl

theorem telCheck_five (hs : Sound h b) : telCheck 5 h b = (true, b) := by
  obtain ⟨hiso, hlive, hcrc, hlevel⟩ := hs
  have hl : ¬ telLevelMax < h.level := Nat.not_lt.mpr hlevel
  unfold telCheck
  simp only [hiso, hlive, hcrc, if_neg hl, Bool.not_true, Bool.false_eq_true, if_false, if_true]

theorem telCheck_badCrc (hiso : isolated b = false) (hlive : flagF b R.KLK_ROUTE.lost h.nbr = false) (hcrc : h.crcOk = false) (ttype : Nat) :
    telCheck ttype h b = (false, addSat b R.TLY_TELEGRAM_ERR.crc 0 1) := by
  unfold telCheck
  simp only [hiso, hlive, hcrc, Bool.not_false, Bool.false_eq_true, if_false, if_true]

theorem telCheck_good (hs : Sound h b) (hal : h.alive < 256) {ttype : Nat} (ht : ttype ≠ 5)
    (hlast : SMap.get b.flock.rxAlive none (ttype * 16384 + h.nbr) = none
      ∨ SMap.get b.flock.rxAlive none (ttype * 16384 + h.nbr) = some ((h.alive + 255) % 256)) : telCheck ttype h b = (true, heard ttype h b) := by
  have horder : aliveCheck 8 ((h.alive + 255) % 256) h.alive = .inOrder := if_pos (show (h.alive + 256 - (h.alive + 255) % 256) % 256 = 1 by omega)
  rw [telCheck_sound hs ht]
  rcases hlast with hlast | hlast
  · rw [hlast]
  · rw [hlast]
    simp only [horder]

theorem telCheck_repeated (hs : Sound h b) {ttype : Nat} (ht : ttype ≠ 5) (hlast : SMap.get b.flock.rxAlive none (ttype * 16384 + h.nbr) = some h.alive) :
    telCheck ttype h b = (false, addSat (heard ttype h b) R.TLY_TELEGRAM_ERR.repeats 0 1) := by
  have hrep : aliveCheck 8 h.alive h.alive = .repeated := by
    unfold aliveCheck
    simp
  rw [telCheck_sound hs ht, hlast]
  simp only [hrep]

theorem telIn_good {ttype : Nat} {f : Body → Body} {c : Body} (hc : telCheck ttype h b = (true, c)) : telIn ttype h f b = f c := by
  unfold telIn
  rw [hc]
  rfl

theorem telIn_bad {ttype : Nat} {f : Body → Body} {c : Body} (hc : telCheck ttype h b = (false, c)) : telIn ttype h f b = c := by
  unfold telIn
  rw [hc]
  rfl

end Check

/-! ## The ledger's part of a START (R432 to R441) -/

/-- The parts that the ledger's work on a stroke changes. -/
def ledgerParts : List Part := [.regs, .ledger, .logbook]

section Ledger

variable {b : Body}

theorem pointGenerator_only (e k owner target v a j : Nat) (b : Body) : Only ledgerParts b (pointGenerator e k owner target v a j b) := by
  have hown : Only ledgerParts b (pgOwner e k owner b) := by
    unfold pgOwner
    simp only []
    split_ifs <;> simp (disch := decide)
  unfold pointGenerator
  simp only []
  split
  · exact Only.refl _ b
  · refine hown.trans ?_
    unfold pgTarget
    split_ifs <;> simp (disch := decide)

theorem setF_only (f : Field) (i v : Nat) (b : Body) : Only ledgerParts b (setF b f i v) := (Only.refl _ b).setF _ _ _ (by decide)

theorem movePoint_only (p : Nat × Nat × Nat) (b : Body) : Only ledgerParts b (movePoint p b) :=
  (forEach_only (fun _ c => ((pointGenerator_only _ _ _ _ _ _ _ c).trans (pointGenerator_only _ _ _ _ _ _ _ _)).trans
    (pointGenerator_only _ _ _ _ _ _ _ _)) (List.range 16) b).trans (setF_only _ _ _ _)

theorem writeFeedforward_only (ps : List Int) (e : EnergyProfile) (p : OpPoint) (w : Windows) (t0 : Rat) (b : Body) :
    Only ledgerParts b (writeFeedforward ps e p w t0 b) :=
  (forEach_only (fun _ c => (setF_only _ _ _ c).trans (setF_only _ _ _ _)) (List.range 16) b).trans ((setF_only _ _ _ _).trans (setF_only _ _ _ _))

theorem ledgerStart_only (body : StartBody) (b : Body) : Only ledgerParts b (ledgerStart body b) := by
  have hff : ∀ ps e p w t0 (c : Body), Only ledgerParts b (writeFeedforward ps e p w t0 c) ↔ Only ledgerParts b c := fun ps e p w t0 c =>
    Only.iff_of (writeFeedforward_only ps e p w t0 c)
  have hmove : ∀ p (c : Body), Only ledgerParts b (movePoint p c) ↔ Only ledgerParts b c := fun p c => Only.iff_of (movePoint_only p c)
  unfold ledgerStart
  split
  · exact Only.refl _ b
  · split
    · exact Only.refl _ b
    · split
      · exact Only.refl _ b
      · simp only []
        split <;> simp (disch := decide) [hff, hmove]

theorem writeHeadroom_only (n : Nat) (b : Body) : Only ledgerParts b (writeHeadroom n b) := by
  unfold writeHeadroom
  simp (disch := decide)

theorem ledgerDecide_only (b : Body) : Only ledgerParts b (ledgerDecide b) := by
  have htrack : Only ledgerParts b (trackE0 b) := by
    unfold trackE0
    simp (disch := decide)
  unfold ledgerDecide
  simp only []
  split
  · exact htrack.trans (writeHeadroom_only _ _)
  · split
    · exact htrack.trans (writeHeadroom_only _ _)
    · exact htrack.trans (Only.trans (by simp (disch := decide)) (writeHeadroom_only _ _))

theorem ledgerArm_only (b : Body) : Only ledgerParts b (ledgerArm b) := by
  have hlog : ∀ (c : Body) bs, Only ledgerParts c (logRec 0x25 bs c) := fun c bs => by
    unfold logRec logFrom
    split
    · exact Only.refl _ c
    · simp (disch := decide)
  unfold ledgerArm
  refine (ledgerDecide_only b).trans ?_
  simp only []
  split
  · exact Only.refl _ _
  · split
    · exact Only.refl _ _
    · split
      · split
        · simp (disch := decide)
        · exact Only.trans (by simp (disch := decide)) (writeHeadroom_only _ _)
      · exact Only.trans (by simp (disch := decide)) ((hlog _ _).trans (writeHeadroom_only _ _))

theorem ledgerReport_only (b : Body) : Only ledgerParts b (ledgerReport b).2 := by
  unfold ledgerReport
  simp only []
  split <;> simp (disch := decide)

theorem flock_of_only {c : Body} (h : Only ledgerParts b c) : c.flock = b.flock := (h .flock).resolve_left (by decide)

end Ledger

/-! ## A START taken (R244, R248) -/

/-- A module that takes part in the flock a START is for, whose sender's rank is not above the seat's (R242, R248, R255). -/
structure TakesPart (h : TelHead) (b : Body) : Prop where
  free : b.flock.barred = false
  enabled : flagF b R.TLY_STROKE_CTRL.enable 0 = true
  seated : flagF b R.TLY_SEAT.valid 0 = true
  flock : h.flock = b.flock.flockId
  rank : rankIn b h.sender ≤ rankIn b (getF b R.TLY_SEAT.seat 0)

section Start

variable {h : TelHead} {b : Body} {body : StartBody}

theorem startCheck_passes {k : StrokeKind} (hcheck : telCheck 1 h b = (true, heard 1 h b)) (hpart : TakesPart h b)
    (hkind : kindOf b body.kind = some k) (hrun : b.flock.runOpen = true ∨ body.arm = true) :
    ∃ c, Tells (setSeat h.sender (heard 1 h b)) c ∧ startCheck h body b = (true, c) := by
  obtain ⟨hfree, hen, hseated, hflock, hrank⟩ := hpart
  have hno : ¬ ((heard 1 h b).flock.barred = true ∨ (!flagF (heard 1 h b) R.TLY_STROKE_CTRL.enable 0) = true
      ∨ (!flagF (heard 1 h b) R.TLY_SEAT.valid 0) = true ∨ h.flock ≠ (heard 1 h b).flock.flockId) := by
    have hen' : flagF (heard 1 h b) R.TLY_STROKE_CTRL.enable 0 = true := hen
    have hseated' : flagF (heard 1 h b) R.TLY_SEAT.valid 0 = true := hseated
    have hfree' : (heard 1 h b).flock.barred = false := hfree
    have hflock' : h.flock = (heard 1 h b).flock.flockId := hflock
    simp [hen', hseated', hfree', hflock']
  have hlow : ¬ rankIn (heard 1 h b) (getF (heard 1 h b) R.TLY_SEAT.seat 0) < rankIn (heard 1 h b) h.sender := Nat.not_lt.mpr hrank
  obtain ⟨m, ms, fs, htold⟩ := forwardStart_tells h.sender h.stroke body (setSeat h.sender (heard 1 h b))
  have hkind' : (kindOf (told m ms fs (setSeat h.sender (heard 1 h b))) body.kind).isNone = false := by
    rw [show kindOf (told m ms fs (setSeat h.sender (heard 1 h b))) body.kind = kindOf b body.kind from rfl, hkind]
    rfl
  have hopen : ¬ ((!(told m ms fs (setSeat h.sender (heard 1 h b))).flock.runOpen) = true ∧ (!body.arm) = true) := by
    rw [show (told m ms fs (setSeat h.sender (heard 1 h b))).flock.runOpen = b.flock.runOpen from rfl]
    rcases hrun with hr | hr <;> simp [hr]
  refine ⟨told m ms fs (setSeat h.sender (heard 1 h b)), ⟨m, ms, fs, rfl⟩, ?_⟩
  unfold startCheck
  simp only [hcheck, if_neg hno, if_neg hlow, htold, hkind', if_neg hopen, Bool.not_true, Bool.false_eq_true, if_false]

theorem startIn_passes {act : Body → Body} {k : StrokeKind} (hcheck : telCheck 1 h b = (true, heard 1 h b)) (hpart : TakesPart h b)
    (hkind : kindOf b body.kind = some k) (hrun : b.flock.runOpen = true ∨ body.arm = true) :
    ∃ c, Tells (setSeat h.sender (heard 1 h b)) c ∧ startIn h body act b = act c := by
  obtain ⟨c, htells, hx⟩ := startCheck_passes hcheck hpart hkind hrun
  refine ⟨c, htells, ?_⟩
  unfold startIn
  simp only [hx, if_true]

theorem startIn_refused {act : Body → Body} {c : Body} (hcheck : telCheck 1 h b = (false, c)) : startIn h body act b = c := by
  unfold startIn startCheck
  simp only [hcheck, Bool.not_false, if_true, Bool.false_eq_true, if_false]

/-- The body in which a START is scheduled (R244). -/
def scheduled (stroke : Nat) (body : StartBody) (d : Nat) (b : Body) : Body :=
  updFlock (fun f => { f with startSeen := some ⟨body, stroke, b.now + body.warnDelayUs * 1000 - d⟩ }) b

theorem takeStart_schedules {stroke d : Nat} (hrun : b.flock.runOpen = true) (hcommit : b.flock.commitDone = true)
    (hact : shepherdActive b = false) (hstate : getF b R.TLY_STROKE_STATUS.state 0 = 1) :
    takeStart stroke body d b = scheduled stroke body d (setF b R.TLY_STROKE_STATUS.state 0 2) := by
  have hact' : shepherdActive (scheduled stroke body d (setF b R.TLY_STROKE_STATUS.state 0 2)) = false := by
    simpa (disch := decide) [scheduled, shepherdActive] using hact
  unfold takeStart
  simp only [hrun, hcommit, hstate, Bool.not_true, Bool.false_eq_true, false_and, if_false, if_true]
  exact if_pos (by rw [← scheduled, hact']; rfl)

/-! ## The opening of a run (R248) -/

/-- Going from `b` to `c` keeps the run open and its members as they are. -/
def KeepsRun (b c : Body) : Prop := c.flock.runOpen = b.flock.runOpen ∧ c.flock.vacant = b.flock.vacant ∧ c.flock.origKind = b.flock.origKind

theorem KeepsRun.of_flock {b c : Body} (h : c.flock = b.flock) : KeepsRun b c := by
  unfold KeepsRun
  rw [h]
  exact ⟨rfl, rfl, rfl⟩

theorem KeepsRun.trans {b c d : Body} (h : KeepsRun b c) (k : KeepsRun c d) : KeepsRun b d := ⟨k.1.trans h.1, k.2.1.trans h.2.1, k.2.2.trans h.2.2⟩

theorem Tells.keepsRun {b c : Body} (h : Tells b c) : KeepsRun b c := by
  obtain ⟨m, ms, fs, rfl⟩ := h
  exact ⟨rfl, rfl, rfl⟩

theorem takeStart_keepsRun (stroke : Nat) (body : StartBody) (d : Nat) (b : Body) : KeepsRun b (takeStart stroke body d b) := by
  unfold takeStart
  split
  · exact .of_flock rfl
  · split
    · exact .of_flock ((raiseVec_within 21 (setFlag b R.TLY_STROKE_STATUS.out_of_step 0 true)).same (p := .flock) (by decide))
    · have hstart : ∀ c, KeepsRun c (schedule stroke body d c) := fun c =>
        KeepsRun.trans (c := updFlock (fun f => { f with startSeen := some ⟨body, stroke, c.now + body.warnDelayUs * 1000 - d⟩ }) c) ⟨rfl, rfl, rfl⟩
          (.of_flock (flock_of_only (ledgerStart_only body _)))
      simp only []
      split
      · exact KeepsRun.trans (.of_flock rfl) (hstart _)
      · exact hstart b

theorem firstStart_keepsRun (b : Body) : KeepsRun b (firstStart b) := by
  unfold firstStart
  split
  · exact .of_flock rfl
  · unfold seatSend
    exact KeepsRun.trans (c := updFlock (fun f => { f with armed := false, runLeft := f.runLeft.map (· - 1) }) b) ⟨rfl, rfl, rfl⟩
      ((forwardStart_tells _ _ _ _).keepsRun.trans (takeStart_keepsRun _ _ _ _))

theorem armPeriod_keepsRun (b : Body) : KeepsRun b (armPeriod b) := by
  unfold armPeriod
  split
  · split <;> exact .of_flock rfl
  · exact .of_flock rfl

theorem headroomReady_keepsRun (b : Body) : KeepsRun b (headroomReady b) := by
  unfold headroomReady
  split
  · unfold headroomOut
    split
    · exact .of_flock rfl
    next r hr =>
      have hup : KeepsRun b (updFlock (fun f => { f with sentUp := [1] }) b) := ⟨rfl, rfl, rfl⟩
      refine hup.trans ?_
      simp only []
      split
      · have hroot : ∀ c d : Body, KeepsRun d c → KeepsRun d (if c.flock.armed then firstStart c else armPeriod c) := fun c d h => by
          split
          · exact h.trans (firstStart_keepsRun c)
          · exact h.trans (armPeriod_keepsRun c)
        exact hroot _ _ ⟨rfl, rfl, rfl⟩
      · exact ((telHead_tells _ _ _ _ _ _).trans ((emit_tells _ _).trans (sendTel_tells _ _ _ _))).keepsRun
  · exact .of_flock rfl

theorem takeArm_opens (stroke : Nat) (body : StartBody) (b : Body) : (takeArm stroke body b).flock.runOpen = true
    ∧ (takeArm stroke body b).flock.vacant = [] ∧ (takeArm stroke body b).flock.origKind = body.kind := by
  have harm : ∀ c, KeepsRun c (if shepherdActive c then ledgerArm c else c) := fun c => by
    split
    · exact .of_flock (flock_of_only (ledgerArm_only c))
    · exact .of_flock rfl
  have hrep : ∀ c, KeepsRun c (ledgerReport c).2 := fun c => .of_flock (flock_of_only (ledgerReport_only c))
  have hopened : ∀ c d : Body, KeepsRun c d → (c.flock.runOpen = true ∧ c.flock.vacant = [] ∧ c.flock.origKind = body.kind) →
      d.flock.runOpen = true ∧ d.flock.vacant = [] ∧ d.flock.origKind = body.kind := fun c d h k => ⟨h.1.trans k.1, h.2.1.trans k.2.1, h.2.2.trans k.2.2⟩
  unfold takeArm
  simp only []
  refine hopened _ _ (headroomReady_keepsRun _) (hopened _ _ ⟨rfl, rfl, rfl⟩ (hopened _ _ (hrep _) (hopened _ _ (harm _) ⟨rfl, rfl, rfl⟩)))

end Start

end Sys2Proof.Machine

/-! SUPPORT. What each telegram does (O38). -/

namespace Sys2Proof.Machine

section Clauses

variable {h : TelHead} {s : State}

theorem start_schedules {x : StartBody} {k : StrokeKind} (hcheck : telCheck 1 h s.body = (true, heard 1 h s.body)) (hpart : TakesPart h s.body)
    (hkind : kindOf s.body x.kind = some k) (hrun : s.body.flock.runOpen = true) (hcommit : s.body.flock.commitDone = true)
    (hact : shepherdActive s.body = false) (hstate : getF s.body R.TLY_STROKE_STATUS.state 0 = 1) :
    Runs (.telegramStart h x) s [.flock, .regs, .sent, .fabric] (fun b => getF b R.TLY_STROKE_STATUS.state 0 = 2
      ∧ b.flock.startSeen = some ⟨{ x with arm := false, replay := false }, h.stroke,
          s.body.now + x.warnDelayUs * 1000 - getF s.body R.TLY_SEAT_DELAY.d_ns 0⟩
      ∧ getF b R.TLY_SEAT.seat 0 = h.sender % 2 ^ 14) := by
  obtain ⟨c, ⟨m, ms, fs, rfl⟩, hc⟩ := startIn_passes (act := fun b => takeStart h.stroke { x with arm := false, replay := false }
    (getF b R.TLY_SEAT_DELAY.d_ns 0) b) (body := { x with arm := false, replay := false }) hcheck hpart hkind (.inl hrun)
  have hact' : shepherdActive (told m ms fs (setSeat h.sender (heard 1 h s.body))) = false := by
    simpa (disch := decide) [shepherdActive, setSeat, heard] using hact
  have hstate' : getF (told m ms fs (setSeat h.sender (heard 1 h s.body))) R.TLY_STROKE_STATUS.state 0 = 1 := by
    simpa (disch := decide) [setSeat, heard] using hstate
  have hdelay : getF (told m ms fs (setSeat h.sender (heard 1 h s.body))) R.TLY_SEAT_DELAY.d_ns 0 = getF s.body R.TLY_SEAT_DELAY.d_ns 0 := by
    simp (disch := decide) [setSeat, heard]
  rw [takeStart_schedules (b := told m ms fs (setSeat h.sender (heard 1 h s.body))) hrun hcommit hact' hstate', hdelay] at hc
  refine runs_of_lift (f := startTel h x) rfl hc ?_ ⟨?_, rfl, ?_⟩
  · have htold : Only [.flock, .regs, .sent, .fabric] s.body (told m ms fs (setSeat h.sender (heard 1 h s.body))) :=
      Only.trans (by simp (disch := decide) [setSeat, heard]) (Tells.only ⟨m, ms, fs, rfl⟩ (by decide) (by decide) (by decide))
    simp (disch := decide) [scheduled, htold]
  · show getF (setF (told m ms fs (setSeat h.sender (heard 1 h s.body))) R.TLY_STROKE_STATUS.state 0 2) R.TLY_STROKE_STATUS.state 0 = 2
    exact getF_setF_fits (b := told m ms fs (setSeat h.sender (heard 1 h s.body))) (i := 0) (f := R.TLY_STROKE_STATUS.state) (by decide)
  · have hseat : getF (scheduled h.stroke { x with arm := false, replay := false } (getF s.body R.TLY_SEAT_DELAY.d_ns 0)
        (setF (told m ms fs (setSeat h.sender (heard 1 h s.body))) R.TLY_STROKE_STATUS.state 0 2)) R.TLY_SEAT.seat 0
        = getF (setF (heard 1 h s.body) R.TLY_SEAT.seat 0 h.sender) R.TLY_SEAT.seat 0 := by
      simp (disch := decide) only [scheduled, getF_updFlock, getF_setF_other, getF_told, setSeat, getF_setFlag_other]
    rw [hseat]
    exact getF_setF_same _ _ _ _

theorem arm_opens {x : StartBody} {k : StrokeKind} (hcheck : telCheck 1 h s.body = (true, heard 1 h s.body)) (hpart : TakesPart h s.body)
    (hkind : kindOf s.body x.kind = some k) : RunsS (.armStart h x) s (fun t =>
      t.body.flock.runOpen = true ∧ t.body.flock.vacant = [] ∧ t.body.flock.origKind = x.kind) := by
  obtain ⟨c, -, hc⟩ := startIn_passes (act := takeArm h.stroke { x with arm := true, replay := false })
    (body := { x with arm := true, replay := false }) hcheck hpart hkind (.inr rfl)
  exact runsS_of_lift (f := armTel h x) rfl hc (takeArm_opens _ _ c)

theorem headroom_kept {x : HeadroomBody} (hcheck : telCheck 2 h s.body = (true, heard 2 h s.body)) (hflock : h.flock = s.body.flock.flockId)
    (hseat : flagF s.body R.TLY_SEAT.valid 0 = true) (hown : s.body.flock.ownReport = none) :
    Runs (.telegramHeadroom h x) s [.flock] (fun b => SMap.get b.flock.children none h.nbr = some ⟨x, true⟩
      ∧ ∀ c, c ≠ h.nbr → SMap.get b.flock.children none c = SMap.get s.body.flock.children none c) := by
  have hseat' : flagF (heard 2 h s.body) R.TLY_SEAT.valid 0 = true := hseat
  have hno : ¬ (h.flock ≠ (heard 2 h s.body).flock.flockId ∨ (!flagF (heard 2 h s.body) R.TLY_SEAT.valid 0) = true) := by
    rw [hseat']
    exact fun hor => hor.elim (fun hne => hne hflock) fun hf => absurd hf (by decide)
  have hwait : ∀ g : Flock → Flock, (g (heard 2 h s.body).flock).ownReport = none → headroomReady (updFlock g (heard 2 h s.body)) = updFlock g (heard 2 h s.body) :=
    fun g hg => if_neg fun ⟨_, hsome, _⟩ => by
      rw [show (updFlock g (heard 2 h s.body)).flock.ownReport = none from hg] at hsome
      exact absurd hsome (by decide)
  have hx : headroomTel h x s.body = updFlock (fun f => { f with children := SMap.put f.children none h.nbr (some ⟨x, true⟩) }) (heard 2 h s.body) := by
    unfold headroomTel
    rw [telIn_good hcheck]
    simp only [if_neg hno]
    exact hwait _ hown
  refine runs_of_lift (f := headroomTel h x) rfl hx ?_ ⟨?_, fun c hc => ?_⟩
  · simp (disch := decide) [heard]
  · exact SMap.get_put_same s.body.flock.children none h.nbr (some ⟨x, true⟩)
  · exact SMap.get_put_ne s.body.flock.children none none _ _ (some ⟨x, true⟩) hc

/-! ## Barriers over modules (R224, R225) -/

/-- The body with a release generation of a barrier channel at a station. -/
def releasedAt (st ch gen : Nat) (b : Body) : Body := updStn b st (fun t => { t with relGen := SMap.put t.relGen 0 ch gen })

/-- What a release of a flock's barrier does at one of its stations. -/
def releaseStep (f gen st : Nat) (b : Body) : Body := (barrierChannel b st 2 f).elim b (fun ch => releasedAt st ch gen b)

/-- The telegram of a release to a child. -/
def releaseChild (f gen stroke c : Nat) (b : Body) : Body := sendRelease c (telHead b 4 c f stroke false).1 gen (telHead b 4 c f stroke false).2

theorem releaseDown_eq (f gen stroke : Nat) (b : Body) : releaseDown f gen stroke b =
    forEach (treeChildren (forEach (flockStations b flockDepth f) (releaseStep f gen) b)
        (flockModules (forEach (flockStations b flockDepth f) (releaseStep f gen) b) flockDepth f)) (releaseChild f gen stroke)
      (forEach (flockStations b flockDepth f) (releaseStep f gen) b) := by
  have hstep : releaseStep f gen = fun st b => match barrierChannel b st 2 f with
      | some ch => updStn b st (fun t => { t with relGen := SMap.put t.relGen 0 ch gen })
      | none => b := by
    funext st b
    unfold releaseStep releasedAt
    cases barrierChannel b st 2 f <;> rfl
  rw [hstep]
  rfl

theorem releaseChild_tells (f gen stroke c : Nat) (b : Body) : Tells b (releaseChild f gen stroke c b) :=
  (telHead_tells _ _ _ _ _ b).trans ((emit_tells _ _).trans (sendTel_tells _ _ _ _))

theorem releaseDown_frame (f gen stroke : Nat) (b : Body) : Only [.flock, .stations, .sent, .fabric] b (releaseDown f gen stroke b)
    ∧ (releaseDown f gen stroke b).flock = { b.flock with txAlive := (releaseDown f gen stroke b).flock.txAlive } := by
  have hstep : ∀ (st : Nat) (c : Body), Only [.stations] c (releaseStep f gen st c) := fun st c => by
    unfold releaseStep
    cases barrierChannel c st 2 f with
    | none => exact Only.refl _ c
    | some ch =>
      show Only [.stations] c (releasedAt st ch gen c)
      exact (only_updStn (ps := [.stations]) (b := c) (c := c) st _ (by decide)).mpr (Only.refl _ c)
  have hfirst := forEach_only hstep (flockStations b flockDepth f) b
  rw [releaseDown_eq]
  generalize forEach (flockStations b flockDepth f) (releaseStep f gen) b = c at hfirst
  have hflock : c.flock = b.flock := (hfirst .flock).resolve_left (by decide)
  obtain ⟨m, ms, fs, hd⟩ := Tells.forEach (releaseChild_tells f gen stroke) (treeChildren c (flockModules c flockDepth f)) c
  simp only [hd]
  refine ⟨(hfirst.mono fun p hp => by simp_all).trans (Tells.only ⟨m, ms, fs, rfl⟩ (by decide) (by decide) (by decide)), ?_⟩
  rw [told_flock, hflock]

theorem releaseDown_one {f gen stroke st ch : Nat} {b : Body} (hst : flockStations b flockDepth f = [st]) (hch : barrierChannel b st 2 f = some ch)
    (y : Nat) : stn (releaseDown f gen stroke b) y = stn (releasedAt st ch gen b) y := by
  have hone : forEach [st] (releaseStep f gen) b = releasedAt st ch gen b := by
    show releaseStep f gen st b = _
    rw [releaseStep, hch]
    rfl
  rw [releaseDown_eq, hst]
  simp only [hone]
  exact (Tells.forEach (releaseChild_tells f gen stroke) _ _).stn_eq y

/-- The body that has noted the generation a flock's barrier has reached below this module. -/
def forwarded (f gen : Nat) (b : Body) : Body := updFlock (fun x => { x with arrives := SMap.put x.arrives 0 (forwardedKey f) gen }) b

/-- What an ARRIVE that goes up or releases leaves: the generations of the children as they were. -/
theorem arriveUp_frame (f : Nat) (b : Body) : Only [.flock, .stations, .sent, .fabric] b (arriveUp f b)
    ∧ (arriveUp f b).flock.heldArrives = b.flock.heldArrives ∧ (arriveUp f b).flock.ownReport = b.flock.ownReport
    ∧ ∀ k, k ≠ forwardedKey f → SMap.get (arriveUp f b).flock.arrives 0 k = SMap.get b.flock.arrives 0 k := by
  unfold arriveUp
  simp only []
  split
  · exact ⟨Only.refl _ b, rfl, rfl, fun _ _ => rfl⟩
  · split
    · exact ⟨Only.refl _ b, rfl, rfl, fun _ _ => rfl⟩
    next g gs hgs hne =>
      generalize List.foldl wrapMin g gs = gen
      have honly : Only [.flock, .stations, .sent, .fabric] b (forwarded f gen b) := by
        simp (disch := decide) [forwarded]
      have hheld : (forwarded f gen b).flock.heldArrives = b.flock.heldArrives := rfl
      have hown : (forwarded f gen b).flock.ownReport = b.flock.ownReport := rfl
      have hkeys : ∀ k, k ≠ forwardedKey f → SMap.get (forwarded f gen b).flock.arrives 0 k = SMap.get b.flock.arrives 0 k :=
        fun k hk => SMap.get_put_ne _ _ _ _ _ _ hk
      rw [← forwarded]
      generalize forwarded f gen b = d at honly hheld hown hkeys
      split
      · obtain ⟨hrest, hflock⟩ := releaseDown_frame f gen (strokeNum d) d
        exact ⟨honly.trans hrest, by rw [hflock]; exact hheld, by rw [hflock]; exact hown, fun k hk => by rw [hflock]; exact hkeys k hk⟩
      next p hp =>
        have htell : ∀ n cb, Tells d (sendArrive p (telHead d 3 p f (strokeNum d) cb).1 gen n (telHead d 3 p f (strokeNum d) cb).2) :=
          fun n cb => (telHead_tells 3 p f (strokeNum d) cb d).trans ((emit_tells _ _).trans (sendTel_tells _ _ _ _))
        obtain ⟨m, ms, fs, hd⟩ := htell (1 + ((treeChildren b (flockModules b flockDepth f)).map (childCount d f)).foldl (· + ·) 0)
          (!(treeChildren b (flockModules b flockDepth f)).isEmpty)
        rw [hd]
        exact ⟨honly.trans (Tells.only ⟨m, ms, fs, rfl⟩ (by decide) (by decide) (by decide)), hheld, hown, hkeys⟩

theorem arrive_held {gen count : Nat} (hcheck : telCheck 3 h s.body = (true, heard 3 h s.body)) (hnext : h.stroke = strokeNum s.body + 1) :
    Runs (.telegramArrive h gen count) s [.flock] (fun b => b.flock.heldArrives = s.body.flock.heldArrives ++ [(h.flock, h.nbr, gen, count)]
      ∧ b.flock.arrives = s.body.flock.arrives) := by
  have hx : arriveTel h gen count s.body
      = updFlock (fun f => { f with heldArrives := f.heldArrives ++ [(h.flock, h.nbr, gen, count)] }) (heard 3 h s.body) := by
    unfold arriveTel
    rw [telIn_good hcheck]
    exact if_pos hnext
  refine runs_of_lift (f := arriveTel h gen count) rfl hx ?_ ⟨rfl, rfl⟩
  simp (disch := decide) [heard]

theorem arrive_taken {gen count : Nat} (hcheck : telCheck 3 h s.body = (true, heard 3 h s.body)) (hnow : h.stroke = strokeNum s.body) :
    Runs (.telegramArrive h gen count) s [.flock, .stations, .sent, .fabric] (fun b =>
      (h.nbr < 16384 → childGen b h.flock h.nbr = gen % 65536 ∧ childCount b h.flock h.nbr = count)
        ∧ b.flock.heldArrives = s.body.flock.heldArrives) := by
  have hx : arriveTel h gen count s.body = takeArrive h.flock h.nbr gen count (heard 3 h s.body) := by
    unfold arriveTel
    rw [telIn_good hcheck]
    exact if_neg fun hnext => absurd (hnext.symm.trans hnow) (Nat.succ_ne_self _)
  obtain ⟨honly, hheld, -, hkeys⟩ := arriveUp_frame h.flock
    (updFlock (fun x => { x with arrives := SMap.put x.arrives 0 (h.flock * 32768 + h.nbr) (gen % 65536 + count * 65536) }) (heard 3 h s.body))
  refine runs_of_lift (f := arriveTel h gen count) rfl hx ?_ ⟨fun hnbr => ?_, hheld⟩
  · exact Only.trans (by simp (disch := decide) [heard]) honly
  · have hkey : h.flock * 32768 + h.nbr ≠ forwardedKey h.flock := fun he => by
      unfold forwardedKey at he
      omega
    have hget := (hkeys _ hkey).trans (SMap.get_put_same (heard 3 h s.body).flock.arrives 0 (h.flock * 32768 + h.nbr) (gen % 65536 + count * 65536))
    unfold childGen childCount takeArrive
    rw [hget]
    omega

theorem release_applied {gen st ch : Nat} (hcheck : telCheck 4 h s.body = (true, heard 4 h s.body)) (hst : flockStations s.body flockDepth h.flock = [st])
    (hch : barrierChannel s.body st 2 h.flock = some ch) : Runs (.telegramRelease h gen) s [.flock, .stations, .sent, .fabric] (fun b =>
      stn b st = { stn s.body st with relGen := SMap.put (stn s.body st).relGen 0 ch (gen % 65536) } ∧ ∀ y, y ≠ st → stn b y = stn s.body y) := by
  have hst' : flockStations (heard 4 h s.body) flockDepth h.flock = [st] := hst
  have hch' : barrierChannel (heard 4 h s.body) st 2 h.flock = some ch := hch
  have hx : releaseTel h gen s.body = releaseDown h.flock (gen % 65536) h.stroke (heard 4 h s.body) := telIn_good hcheck
  refine runs_of_lift (f := releaseTel h gen) rfl hx ?_ ⟨?_, fun y hy => ?_⟩
  · exact Only.trans (by simp (disch := decide) [heard]) (releaseDown_frame _ _ _ _).1
  · rw [releaseDown_one hst' hch']
    exact stn_updStn_same _ _ _
  · rw [releaseDown_one hst' hch']
    exact stn_updStn_ne _ _ _ _ hy

theorem start_repeated {x : StartBody} (hs : Sound h s.body) (hlast : SMap.get s.body.flock.rxAlive none (16384 + h.nbr) = some h.alive) :
    Runs (.telegramStart h x) s [.flock, .regs] (fun b => b.flock.startSeen = s.body.flock.startSeen
      ∧ getF b R.TLY_TELEGRAM_ERR.repeats 0 = min (getF s.body R.TLY_TELEGRAM_ERR.repeats 0 + 1) 255
      ∧ RegsBut [R.TLY_TELEGRAM_ERR.repeats] 0 s.body b) := by
  refine runs_of_lift (f := startTel h x) rfl (startIn_refused (telCheck_repeated hs (by decide) hlast)) ?_ ⟨rfl, ?_, ?_⟩
  · simp (disch := decide) [heard]
  · exact getF_addSat_same _ _ _ _
  · simp (disch := decide) [heard]

theorem headroom_badCrc {x : HeadroomBody} (hiso : isolated s.body = false) (hlive : flagF s.body R.KLK_ROUTE.lost h.nbr = false)
    (hcrc : h.crcOk = false) : Runs (.telegramHeadroom h x) s [.regs] (fun b =>
      getF b R.TLY_TELEGRAM_ERR.crc 0 = min (getF s.body R.TLY_TELEGRAM_ERR.crc 0 + 1) 255 ∧ RegsBut [R.TLY_TELEGRAM_ERR.crc] 0 s.body b) := by
  refine runs_of_lift (f := headroomTel h x) rfl (telIn_bad (telCheck_badCrc hiso hlive hcrc 2)) ?_ ⟨getF_addSat_same _ _ _ _, ?_⟩
  · simp (disch := decide)
  · simp (disch := decide)

theorem tally_delivered {x : TallyBody} {st : Nat} (hs : Sound h s.body) (hstation : x.toFlock = false)
    (hphys : physOf s.body (x.target / 64 % 16) (x.target % 64) = some st) : Runs (.telegramTally h x) s [.fabric] (fun b =>
      ∃ g, b.fabric = s.body.fabric ++ [g] ∧ g.kind = .tallySignal ∧ g.dst = st ∧ g.tag = x.tally ∧ g.len = x.value ∧ g.stroke = h.stroke % 4) := by
  have hx : tallyTel h x s.body = withFabric s.body (s.body.fabric ++ [{ Flit.blank .tallySignal with
      src := lnkEp 0, dst := st, tag := x.tally, len := x.value, stroke := h.stroke % 4 }]) := by
    unfold tallyTel
    rw [telIn_good (telCheck_five hs), hstation]
    simp only [Bool.not_false, if_true, hphys]
    rfl
  refine runs_of_lift (f := tallyTel h x) rfl hx ?_ ⟨_, rfl, rfl, rfl, rfl, rfl, rfl⟩
  simp (disch := decide)

theorem tally_answered {x : TallyBody} (hs : Sound h s.body) (hstation : x.toFlock = false)
    (hphys : physOf s.body (x.target / 64 % 16) (x.target % 64) = none) : Runs (.telegramTally h x) s [.sent] (fun b =>
      b.sent = .response "error response to a tally signal" [strokeEp, 3, winBase (x.target / 64 % 16) (x.target % 64)] :: s.body.sent) := by
  have hx : tallyTel h x s.body = emit (.response "error response to a tally signal"
      [strokeEp, 3, winBase (x.target / 64 % 16) (x.target % 64)]) s.body := by
    unfold tallyTel
    rw [telIn_good (telCheck_five hs), hstation]
    simp only [Bool.not_false, if_true, hphys]
  refine runs_of_lift (f := tallyTel h x) rfl hx ?_ rfl
  simp (disch := decide)

theorem echo_measures {x : EchoBody} {t4 : Nat} (hcheck : telCheck 7 h s.body = (true, heard 7 h s.body)) (hreply : x.reply = true)
    (horig : x.originator = moduleIndex s.body) (hseq : x.seq = s.body.flock.echoSeq) : Runs (.telegramEcho h x t4) s [.flock, .regs] (fun b =>
      getF b R.TLY_SEAT_DELAY.d_ns 0 = min (((t4 : Int) - x.t1 - ((x.t3 : Int) - x.t2)) / 2).toNat (2 ^ 20 - 1)
        ∧ RegsBut [R.TLY_SEAT_DELAY.d_ns] 0 s.body b) := by
  have horig' : x.originator = moduleIndex (heard 7 h s.body) := horig
  have hseq' : x.seq = (heard 7 h s.body).flock.echoSeq := hseq
  have hx : echoTel h x t4 s.body = setF (heard 7 h s.body) R.TLY_SEAT_DELAY.d_ns 0
      (min (((t4 : Int) - x.t1 - ((x.t3 : Int) - x.t2)) / 2).toNat (2 ^ 20 - 1)) := by
    unfold echoTel
    rw [telIn_good hcheck, hreply]
    simp only [Bool.not_true, Bool.false_eq_true, if_false, if_pos horig', if_pos hseq']
  have hfits : min (((t4 : Int) - x.t1 - ((x.t3 : Int) - x.t2)) / 2).toNat (2 ^ 20 - 1) < 2 ^ R.TLY_SEAT_DELAY.d_ns.width :=
    Nat.lt_of_le_of_lt (Nat.min_le_right _ _) (by decide)
  refine runs_of_lift (f := echoTel h x t4) rfl hx ?_ ⟨getF_setF_fits hfits, ?_⟩
  · simp (disch := decide) [heard]
  · simp (disch := decide) [heard]

theorem echo_answered {x : EchoBody} {t4 : Nat} (hcheck : telCheck 7 h s.body = (true, heard 7 h s.body)) (hreply : x.reply = false)
    (hseat : isSeat s.body = true) : Runs (.telegramEcho h x t4) s [.flock, .sent, .fabric] (fun b =>
      ∃ g, b.sent = .telEcho h.nbr g { x with reply := true, t2 := t4, t3 := s.body.now } :: s.body.sent ∧ g.sender = moduleIndex s.body) := by
  have hseat' : isSeat (heard 7 h s.body) = true := hseat
  obtain ⟨m, ms, fs, htold⟩ := telHead_tells 7 h.nbr h.flock h.stroke false (heard 7 h s.body)
  obtain ⟨g, hg⟩ : ∃ g, (telHead (heard 7 h s.body) 7 h.nbr h.flock h.stroke false).1 = g := ⟨_, rfl⟩
  have hsender : g.sender = moduleIndex s.body := by
    rw [← hg]
    rfl
  have hsent : (telHead (heard 7 h s.body) 7 h.nbr h.flock h.stroke false).2.sent = s.body.sent := rfl
  have hx : echoTel h x t4 s.body = sendEcho h.nbr g { x with reply := true, t2 := t4, t3 := s.body.now }
      (telHead (heard 7 h s.body) 7 h.nbr h.flock h.stroke false).2 := by
    unfold echoTel
    rw [telIn_good hcheck, hreply, ← hg]
    simp only [Bool.not_false, if_true, hseat']
    rfl
  obtain ⟨fs', hfs⟩ := sendTel_fabric h.nbr 7 (telBytes 7 g { x with reply := true, t2 := t4, t3 := s.body.now }.bytes)
    (emit (.telEcho h.nbr g { x with reply := true, t2 := t4, t3 := s.body.now }) (telHead (heard 7 h s.body) 7 h.nbr h.flock h.stroke false).2)
  refine runs_of_lift (f := echoTel h x t4) rfl (hx.trans hfs) ?_ ⟨g, ?_, hsender⟩
  · rw [htold]
    have htells : Only [.flock, .sent, .fabric] (heard 7 h s.body) (told m ms fs (heard 7 h s.body)) :=
      Tells.only ⟨m, ms, fs, rfl⟩ (by decide) (by decide) (by decide)
    have hall := Only.trans (b := s.body) (by simp (disch := decide) [heard]) htells
    simp (disch := decide) [hall]
  · show _ :: (telHead (heard 7 h s.body) 7 h.nbr h.flock h.stroke false).2.sent = _
    rw [hsent]

end Clauses

/-- Settles O38: each telegram passes the check of R232 or is dropped and counted by it, and one that passes is acted on. -/
theorem telegrams : Obligations.Telegrams := by
  intro h s b0 fl sound good takesPart now
  have hsound : sound → Sound h s.body := fun ⟨hiso, hlive, hcrc, hlevel, _⟩ => ⟨hiso, hlive, hcrc, hlevel⟩
  have hgood : ∀ {ttype}, ttype ≠ 5 → good ttype → telCheck ttype h s.body = (true, heard ttype h s.body) := fun ht ⟨hs, hlast⟩ =>
    telCheck_good (hsound hs) hs.2.2.2.2 ht hlast
  have hpart : takesPart → TakesPart h s.body := fun ⟨hfree, hen, hseated, hflock, hrank⟩ => ⟨hfree, hen, hseated, hflock, hrank⟩
  refine ⟨?start, ?arm, ?again, ?bad, ?headroom, ?held, ?arrive, ?release, ?tally, ?noStation, ?measure, ?echo⟩
  case start => exact fun x k hg ht hkind hrun hcommit hact hstate => start_schedules (hgood (by decide) hg) (hpart ht) hkind hrun hcommit hact hstate
  case arm => exact fun x k hg ht hkind => arm_opens (hgood (by decide) hg) (hpart ht) hkind
  case again => exact fun x hs hlast => start_repeated (hsound hs) hlast
  case bad => exact fun x hiso hlive hcrc => headroom_badCrc hiso hlive hcrc
  case headroom => exact fun x hg hflock hseat hown => headroom_kept (hgood (by decide) hg) hflock hseat hown
  case held => exact fun gen count hg hnext => arrive_held (hgood (by decide) hg) hnext
  case arrive => exact fun gen count hg hnow => arrive_taken (hgood (by decide) hg) hnow
  case release => exact fun gen st ch hg hst hch => release_applied (hgood (by decide) hg) hst hch
  case tally => exact fun x st hs hstation hphys => tally_delivered (hsound hs) hstation hphys
  case noStation => exact fun x hs hstation hphys => tally_answered (hsound hs) hstation hphys
  case measure => exact fun x t4 hg hreply horig hseq => echo_measures (hgood (by decide) hg) hreply horig hseq
  case echo => exact fun x t4 hg hreply hseat => echo_answered (hgood (by decide) hg) hreply hseat

end Sys2Proof.Machine

/-! SUPPORT. Frames of the edges of a stroke at the Cox engines and at the ledger. -/

namespace Sys2Proof.Machine

theorem Within.shepherdActive_eq {ps : List Part} {fs : List Field} {b c : Body} (h : Within ps fs b c)
    (ha : R.SHP_STATUS.a_state.idx ∉ fs.map Field.idx) (hb : R.SHP_STATUS.b_state.idx ∉ fs.map Field.idx) : shepherdActive c = shepherdActive b := by
  unfold shepherdActive
  rw [h.getF_eq (by decide) ha, h.getF_eq (by decide) hb]

/-! ## The edges of a stroke at the engines (R383, R384, R410) -/

/-- The parts that an edge at the engines changes. -/
def edgeParts : List Part := [.regs, .cox]

/-- The fields that an edge at the engines changes. -/
def edgeFields : List Field := [R.COX_STATUS.warn, R.COX_STATUS.inhibit, R.COX_STATUS.drive, R.COX_STATUS.feather, R.COX_EVENTS.warn_missing,
  R.COX_SHED_STATUS.shedding, R.COX_SHED_STATUS.running, R.COX_SHED_STATUS.count, R.COX_SHED_COUNT.aborts]

theorem runAllPhases_within (e : Nat) (b : Body) : Within edgeParts edgeFields b (runAllPhases e b) := by
  have habort : Within edgeParts edgeFields b (abortShed e b) := by
    unfold abortShed
    split <;> constructor <;> simp (disch := decide)
  unfold runAllPhases setRunning
  exact .ite ((habort.setF (by decide) (by decide) (by decide) _ _).setF (by decide) (by decide) (by decide) _ _) (.refl _ _ b)

theorem coxWarning_within (b : Body) : Within edgeParts edgeFields b (coxWarning b) := by
  refine (Within.refl _ _ b).forEach fun e _ c => ?_
  refine Within.trans ?_ (runAllPhases_within e _)
  constructor <;> simp (disch := decide)

theorem ffEdges_within (f : Field) (b : Body) : Within edgeParts edgeFields b (ffEdges f b) := by
  refine (Within.refl _ _ b).forEach fun i _ c => .ite ?_ (.refl _ _ c)
  unfold ffEdge
  refine .ite ?_ (.refl _ _ c)
  constructor <;> simp (disch := decide)

theorem coxCatch_within (b : Body) : Within edgeParts edgeFields b (coxCatch b) := by
  refine Within.trans (Within.forEach (.refl _ _ b) fun e _ c => ?_) (ffEdges_within _ _)
  simp only []
  split
  all_goals split_ifs
  all_goals constructor <;> simp (disch := decide)

theorem coxDriveEnd_within (b : Body) : Within edgeParts edgeFields b (coxDriveEnd b) := by
  refine Within.trans (Within.forEach (.refl _ _ b) fun e _ c => ?_) (ffEdges_within _ _)
  constructor <;> simp (disch := decide)

/-! ## The ledger's part of a stroke -/

/-- The fields that the ledger's work on a START changes (R439 to R441). -/
def pointFields : List Field := [R.COX_PG_CTRL.owner, R.COX_EVENTS.claim_refused, R.COX_PG_VLIM.v, R.COX_PG_ALIM.a, R.COX_PG_JLIM.j,
  R.COX_PG_TARGET.target, R.COX_PG_CTRL.done, R.COX_PG_CTRL.moving, R.COX_FF_DRIVE.ff_drive, R.COX_FF_FEATHER.ff_feather, R.LDG_STATUS.point]

theorem pgOwner_within (e k owner : Nat) (b : Body) : Within [.regs] pointFields b (pgOwner e k owner b) := by
  unfold pgOwner
  simp only []
  split_ifs <;> constructor <;> simp (disch := decide)

theorem pgTarget_within (e k target : Nat) (b : Body) : Within [.regs] pointFields b (pgTarget e k target b) := by
  unfold pgTarget
  constructor <;> simp (disch := decide)

theorem pointGenerator_within (e k owner target v a j : Nat) (b : Body) : Within [.regs] pointFields b (pointGenerator e k owner target v a j b) := by
  unfold pointGenerator
  simp only []
  split
  · exact .refl _ _ b
  · refine ((pgOwner_within e k owner b).trans ?_).trans (pgTarget_within e k target _)
    split <;> constructor <;> simp (disch := decide)

theorem movePoint_within (p : Nat × Nat × Nat) (b : Body) : Within [.regs] pointFields b (movePoint p b) := by
  refine Within.setF (Within.forEach (.refl _ _ b) fun e _ c => ?_) (by decide) (by decide) (by decide) _ _
  exact ((pointGenerator_within _ _ _ _ _ _ _ c).trans (pointGenerator_within _ _ _ _ _ _ _ _)).trans (pointGenerator_within _ _ _ _ _ _ _ _)

theorem writeFeedforward_within (ps : List Int) (e : EnergyProfile) (p : OpPoint) (w : Windows) (t0 : Rat) (b : Body) :
    Within [.regs] pointFields b (writeFeedforward ps e p w t0 b) := by
  refine Within.setF (Within.setF (Within.forEach (.refl _ _ b) fun d _ c => ?_) (by decide) (by decide) (by decide) _ _)
    (by decide) (by decide) (by decide) _ _
  constructor <;> simp (disch := decide)

theorem updLedger_within (f : Ledger → Ledger) (b : Body) : Within [.regs, .ledger] pointFields b (updLedger f b) := by
  constructor <;> simp (disch := decide)

theorem ledgerStart_within (body : StartBody) (b : Body) : Within [.regs, .ledger] pointFields b (ledgerStart body b) := by
  unfold ledgerStart
  split
  · exact .refl _ _ b
  · split
    · exact .refl _ _ b
    · split
      · exact .refl _ _ b
      · simp only []
        have hff : ∀ ps e p w t0, Within [.regs, .ledger] pointFields b (writeFeedforward ps e p w t0 b) := fun ps e p w t0 =>
          (writeFeedforward_within ps e p w t0 b).mono (by decide) (by decide)
        split
        · exact ((hff _ _ _ _ _).trans (updLedger_within _ _)).trans ((movePoint_within _ _).mono (by decide) (by decide))
        · exact (hff _ _ _ _ _).trans (updLedger_within _ _)

theorem ledgerWarning_within (b : Body) : Within [.regs, .ledger] pointFields b (ledgerWarning b) := by
  unfold ledgerWarning
  split
  · exact .refl _ _ b
  · exact .ite (.refl _ _ b) ((updLedger_within _ b).trans ((movePoint_within _ _).mono (by decide) (by decide)))

theorem phaseEnergy_within {f : Field} (hf : f.idx < 1024) (b : Body) : Within [.regs, .ledger] [f] b (phaseEnergy f b) := by
  unfold phaseEnergy
  refine Within.trans (c := setF b f 0 ((getF b R.LDG_ACC_IN.uj 0 + 2 ^ 64 - b.ledger.markSeg) % 2 ^ 64))
    (setF_within 0 _ b (by decide) (List.mem_singleton.mpr rfl) hf) ?_
  constructor <;> simp (disch := decide)

theorem driveStarts_within (b : Body) : Within [.regs, .ledger] [R.LDG_ACC_FEATHER.uj] b (driveStarts b) := by
  unfold driveStarts
  refine .ite (phaseEnergy_within (by decide) b) ?_
  constructor <;> simp (disch := decide)

end Sys2Proof.Machine

/-! SUPPORT. The course of a stroke (O39): the tree, the stroke timer, the seat. -/

namespace Sys2Proof.Machine

section Tree

variable {s : State}

theorem sendHeadroom_shows (p : Nat) (g : TelHead) (r : HeadroomBody) (b : Body) : ∃ fs, sendHeadroom p g r b = withFabric (emit (.telHeadroom p g r) b) fs :=
  sendTel_fabric _ _ _ _

theorem sendEcho_shows (p : Nat) (g : TelHead) (x : EchoBody) (b : Body) : ∃ fs, sendEcho p g x b = withFabric (emit (.telEcho p g x) b) fs :=
  sendTel_fabric _ _ _ _

theorem deadline_forwards {r : HeadroomBody} {p : Nat} (hfirst : s.body.flock.sentUp = []) (hseat : flagF s.body R.TLY_SEAT.valid 0 = true)
    (hr : combined s.body = some r) (hp : treeParent s.body (strokeMembers s.body) = some p) :
    Runs (.headroomDeadline (leaderLevel s.body (strokeMembers s.body))) s [.flock, .sent, .fabric] (fun b => b.flock.sentUp = [1]
      ∧ ∃ g, b.sent = .telHeadroom p g r :: s.body.sent ∧ g.sender = moduleIndex s.body) := by
  have hup : treeParent (updFlock (fun f => { f with sentUp := [1] }) s.body) (strokeMembers (updFlock (fun f => { f with sentUp := [1] }) s.body)) = some p := hp
  have hx : deadline (leaderLevel s.body (strokeMembers s.body)) s.body = headroomOut s.body := if_pos ⟨rfl, hfirst, hseat⟩
  unfold headroomOut at hx
  simp only [hr, hup] at hx
  generalize hflock : (updFlock (fun f => { f with sentUp := [1] }) s.body).flock.flockId = f at hx
  generalize hstroke : (strokeNum (updFlock (fun f => { f with sentUp := [1] }) s.body) + 1) % 2 ^ 48 = n at hx
  generalize hcb : (!(treeChildren (updFlock (fun f => { f with sentUp := [1] }) s.body)
    (strokeMembers (updFlock (fun f => { f with sentUp := [1] }) s.body))).isEmpty) = cb at hx
  obtain ⟨m, ms, fs, htold⟩ := telHead_tells 2 p f n cb (updFlock (fun f => { f with sentUp := [1] }) s.body)
  obtain ⟨g, hg⟩ : ∃ g, (telHead (updFlock (fun f => { f with sentUp := [1] }) s.body) 2 p f n cb).1 = g := ⟨_, rfl⟩
  have hsender : g.sender = moduleIndex s.body := by
    rw [← hg]
    rfl
  have hsent : (telHead (updFlock (fun f => { f with sentUp := [1] }) s.body) 2 p f n cb).2.sent = s.body.sent := rfl
  rw [hg] at hx
  obtain ⟨fs', hfs⟩ := sendHeadroom_shows p g r (telHead (updFlock (fun f => { f with sentUp := [1] }) s.body) 2 p f n cb).2
  refine runs_of_lift (f := deadline (leaderLevel s.body (strokeMembers s.body))) rfl (hx.trans hfs) ?_ ⟨?_, g, ?_, hsender⟩
  · rw [htold]
    have hall : Only [.flock, .sent, .fabric] s.body (told m ms fs (updFlock (fun f => { f with sentUp := [1] }) s.body)) :=
      Only.trans (by simp (disch := decide)) (Tells.only ⟨m, ms, fs, rfl⟩ (by decide) (by decide) (by decide))
    simp (disch := decide) [hall]
  · rw [htold]
    rfl
  · show _ :: (telHead (updFlock (fun f => { f with sentUp := [1] }) s.body) 2 p f n cb).2.sent = _
    rw [hsent]

theorem deadline_ignored {level : Nat} (hlevel : level ≠ leaderLevel s.body (strokeMembers s.body)) : Runs (.headroomDeadline level) s [] (fun b => b = s.body) :=
  runs_same (f := deadline level) rfl (if_neg fun h => hlevel h.1)

/-- Who has reported depends on the tree and on what has arrived alone. -/
theorem missingChildren_congr {b c : Body} (hlive : moduleLive c = moduleLive b) (hme : moduleIndex c = moduleIndex b)
    (hserv : rankServer c = rankServer b) (hmem : c.flock.members = b.flock.members) (hchildren : c.flock.children = b.flock.children) :
    missingChildren c = missingChildren b := by
  unfold missingChildren strokeMembers treeChildren leaderLevel groupLeader rootOf reportOf
  rw [hlive, hme, hserv, hmem, hchildren]

theorem ledgerReport_within (b : Body) : Within [.regs] [R.LDG_REQUEST.fresh, R.LDG_TELEGRAM.stale] b (ledgerReport b).2 := by
  unfold ledgerReport
  simp only []
  split <;> constructor <;> simp (disch := decide)

theorem publish_reports {cur : StartBody} {c : Nat} (hcur : s.body.flock.inFlight = some cur) (hown : s.body.flock.ownReport = none)
    (hrun : s.body.flock.runOpen = true) (hmissing : c ∈ missingChildren s.body) : Runs .headroomPublish s [.flock, .regs] (fun b =>
      ∃ r, b.flock.ownReport = some r ∧ r.count = 1 ∧ r.setter = moduleIndex s.body ∧ r.lateUs = s.body.flock.lateUs
        ∧ r.headroomMj = getF s.body R.LDG_HEADROOM.headroom_mj 0
        ∧ (flagF s.body R.LDG_REQUEST.fresh 0 = true → r.periodUs = getF s.body R.LDG_REQUEST.period_us 0)) := by
  have hrep := ledgerReport_within s.body
  obtain ⟨r, hr⟩ : ∃ r : HeadroomBody, { (ledgerReport s.body).1 with lateUs := s.body.flock.lateUs } = r := ⟨_, rfl⟩
  have hx : publish s.body = headroomReady (updFlock (fun f => { f with ownReport := some r }) (ledgerReport s.body).2) := by
    unfold publish
    rw [if_pos ⟨by rw [hcur]; rfl, by rw [hown]; rfl, hrun⟩, ← hr]
  have hflock : (ledgerReport s.body).2.flock = s.body.flock := hrep.same (p := .flock) (by decide)
  have hlive : moduleLive (updFlock (fun f => { f with ownReport := some r }) (ledgerReport s.body).2) = moduleLive s.body := by
    funext m
    unfold moduleLive moduleIndex
    rw [getF_updFlock, hrep.getF_eq (by decide) (by decide), flagF_updFlock, hrep.flagF_eq (by decide) (by decide)]
    simp only [updFlock, hflock]
  have hserv : rankServer (updFlock (fun f => { f with ownReport := some r }) (ledgerReport s.body).2) = rankServer s.body := by
    funext m
    unfold rankServer
    simp only [getF_updFlock, flagF_updFlock, hrep.flagF_eq (f := R.TLY_STANDIN.valid) (by decide) (by decide),
      hrep.getF_eq (f := R.TLY_STANDIN.kind) (by decide) (by decide), hrep.getF_eq (f := R.TLY_STANDIN.lost) (by decide) (by decide),
      hrep.getF_eq (f := R.TLY_STANDIN.standin) (by decide) (by decide)]
  have hno : missingChildren (updFlock (fun f => { f with ownReport := some r }) (ledgerReport s.body).2) ≠ [] := by
    rw [missingChildren_congr hlive (hrep.getF_eq (f := R.GBL_MODULE.index) (by decide) (by decide) 0) hserv (by
      have h := congrArg Flock.members hflock
      exact h) (by
      have h := congrArg Flock.children hflock
      exact h)]
    exact List.ne_nil_of_mem hmissing
  refine runs_of_lift (f := publish) rfl (hx.trans (if_neg fun h => hno h.2.2)) ?_ ⟨r, rfl, ?_⟩
  · simp (disch := decide) [hrep.only_iff]
  · rw [← hr]
    refine ⟨rfl, hrep.getF_eq (f := R.GBL_MODULE.index) (by decide) (by decide) 0, rfl,
      hrep.getF_eq (f := R.LDG_HEADROOM.headroom_mj) (by decide) (by decide) 0, fun hfresh => ?_⟩
    unfold ledgerReport
    exact if_pos hfresh

end Tree

/-! ## The stroke timer of the seat (R240, R241) -/

section Timer

variable {s : State} {body : StartBody} {b : Body}

theorem takeStart_takes {stroke d : Nat} (hrun : b.flock.runOpen = true) (hnext : stroke ≠ strokeNum b + 2) : takeStart stroke body d b =
    schedule stroke body d (if getF b R.TLY_STROKE_STATUS.state 0 = 1 then setF b R.TLY_STROKE_STATUS.state 0 2 else b) := by
  unfold takeStart
  rw [hrun]
  exact (if_neg (by decide)).trans (if_neg fun h => hnext h.2)

theorem schedule_idle {stroke d : Nat} (hact : shepherdActive b = false) : schedule stroke body d b = scheduled stroke body d b := by
  have hact' : shepherdActive (scheduled stroke body d b) = false := hact
  exact if_pos (by rw [← scheduled, hact']; rfl)

/-- What the stroke timer's send changes. -/
def timerParts : List Part := [.flock, .regs, .sent, .fabric, .ledger]

/-- The fields that the stroke timer's send changes. -/
def timerFields : List Field := R.TLY_NEXT_PERIOD.armed :: R.TLY_STROKE_STATUS.unarmed_sends :: R.TLY_STROKE_STATUS.state :: pointFields

theorem updFlock_within {ps : List Part} (hp : Part.flock ∈ ps) (fs : List Field) (f : Flock → Flock) (b : Body) : Within ps fs b (updFlock f b) := by
  constructor <;> simp [hp]

theorem Tells.within {ps : List Part} {c : Body} (h : Tells b c) (hf : Part.flock ∈ ps) (hs : Part.sent ∈ ps) (hx : Part.fabric ∈ ps) (fs : List Field) :
    Within ps fs b c := by
  refine ⟨h.only hf hs hx, ?_⟩
  obtain ⟨m, ms, gs, rfl⟩ := h
  exact fun _ _ _ _ => rfl

theorem takeStart_within {stroke d : Nat} (hnext : stroke ≠ strokeNum b + 2) : Within timerParts timerFields b (takeStart stroke body d b) := by
  have hsched : ∀ c, Within timerParts timerFields c (schedule stroke body d c) := fun c =>
    (updFlock_within (by decide) _ _ c).trans ((ledgerStart_within body _).mono (by decide) (by decide))
  cases hrun : b.flock.runOpen
  · have hx : takeStart stroke body d b = b := if_pos (by rw [hrun]; rfl)
    rw [hx]
    exact .refl _ _ b
  · rw [takeStart_takes hrun hnext]
    exact Within.trans (.ite (setF_within 0 2 b (by decide) (by decide) (by decide)) (.refl _ _ b)) (hsched _)

theorem seatSend_within {stroke : Nat} (hnext : stroke ≠ strokeNum b + 2) : Within timerParts timerFields b (seatSend stroke body b) := by
  unfold seatSend
  obtain ⟨m, ms, fs, h⟩ := forwardStart_tells (moduleIndex b) stroke body b
  rw [h]
  exact (Tells.within ⟨m, ms, fs, rfl⟩ (by decide) (by decide) (by decide) _).trans (takeStart_within hnext)

theorem timerSend_within (b : Body) : Within timerParts timerFields b (timerSend b) := by
  have harmed : ∀ f : Flock → Flock, Within timerParts timerFields b (updFlock f (if flagF b R.TLY_NEXT_PERIOD.armed 0 then
      setFlag b R.TLY_NEXT_PERIOD.armed 0 false else addSat b R.TLY_STROKE_STATUS.unarmed_sends 0 1)) := fun f => by
    refine Within.trans (.ite ?_ ?_) (updFlock_within (by decide) _ f _)
    · exact setF_within _ _ b (by decide) (by decide) (by decide)
    · exact setF_within _ _ b (by decide) (by decide) (by decide)
  unfold timerSend
  simp only []
  split
  · split
    · split
      · exact updFlock_within (by decide) _ _ b
      · refine (harmed _).trans (seatSend_within fun h => ?_)
        have hsame : ∀ f : Flock → Flock, strokeNum (updFlock f (if flagF b R.TLY_NEXT_PERIOD.armed 0 then
            setFlag b R.TLY_NEXT_PERIOD.armed 0 false else addSat b R.TLY_STROKE_STATUS.unarmed_sends 0 1)) = strokeNum b := fun f =>
          (harmed f).getF_eq (f := R.TLY_STROKE_NUM.stroke) (by decide) (by decide) 0
        rw [hsame] at h
        exact absurd h (by omega)
    · exact .refl _ _ b
  · exact .refl _ _ b

/-- A seat without an active Shepherd takes its own START by scheduling it. -/
theorem seatSend_schedules {stroke : Nat} (hrun : b.flock.runOpen = true) (hnext : stroke ≠ strokeNum b + 2) (hact : shepherdActive b = false) :
    ∃ c, Within [.flock, .regs, .sent, .fabric] [R.TLY_STROKE_STATUS.state] b c ∧ seatSend stroke body b = scheduled stroke body 0 c := by
  obtain ⟨m, ms, fs, htold⟩ := forwardStart_tells (moduleIndex b) stroke body b
  have htells : Within [.flock, .regs, .sent, .fabric] [R.TLY_STROKE_STATUS.state] b (told m ms fs b) :=
    Tells.within ⟨m, ms, fs, rfl⟩ (by decide) (by decide) (by decide) _
  obtain ⟨c, hc⟩ : ∃ c, (if getF (told m ms fs b) R.TLY_STROKE_STATUS.state 0 = 1 then setF (told m ms fs b) R.TLY_STROKE_STATUS.state 0 2
      else told m ms fs b) = c := ⟨_, rfl⟩
  have hwithin : Within [.flock, .regs, .sent, .fabric] [R.TLY_STROKE_STATUS.state] b c := by
    rw [← hc]
    exact htells.trans (.ite (setF_within 0 2 _ (by decide) (by decide) (by decide)) (.refl _ _ _))
  have hact' : shepherdActive c = false := (hwithin.shepherdActive_eq (by decide) (by decide)).trans hact
  refine ⟨c, hwithin, ?_⟩
  unfold seatSend
  rw [htold, takeStart_takes (b := told m ms fs b) hrun hnext, hc]
  exact schedule_idle hact'

theorem timer_sends {cur : StartBody} {k : StrokeKind} (haux : getF s.body R.SHP_SYNCAUX.mode 0 ≠ 1) (hseat : isSeat s.body = true)
    (hrun : s.body.flock.runOpen = true) (hcur : s.body.flock.inFlight = some cur) (hlast : cur.last = false)
    (hseen : s.body.flock.startSeen = none) (hwait : s.body.flock.seatWait = none) (hkind : kindOf s.body s.body.flock.runKind = some k)
    (hcurKind : kindOf s.body cur.kind = some k) (harmed : flagF s.body R.TLY_NEXT_PERIOD.armed 0 = true)
    (hact : shepherdActive s.body = false) : Runs .strokeTimerSend s [.flock, .regs, .sent, .fabric] (fun b =>
      flagF b R.TLY_NEXT_PERIOD.armed 0 = false
        ∧ ∃ w, b.flock.startSeen = some w ∧ w.stroke = strokeNum s.body + 1 ∧ w.body.kind = s.body.flock.runKind
          ∧ w.body.periodUs = getF s.body R.TLY_NEXT_PERIOD.period_us 0 ∧ w.body.leadUs = k.leadUs ∧ w.body.first = false
          ∧ w.body.warnDelayUs = cur.periodUs - k.startOff - k.leadUs ∧ w.scheduled = s.body.now + w.body.warnDelayUs * 1000) := by
  have hfrom : ∀ n, kindFrom s.body n = s.body.flock.runKind := fun n => by
    unfold kindFrom
    rw [hwait]
  have hfrom' : ∀ n, kindFrom (setFlag s.body R.TLY_NEXT_PERIOD.armed 0 false) n = s.body.flock.runKind := hfrom
  have hholds : seatHolds s.body (strokeNum s.body + 1) = false := by
    unfold seatHolds
    rw [hwait]
  have hgo : isSeat s.body = true ∧ s.body.flock.runOpen = true ∧ (!cur.last) = true ∧ s.body.flock.startSeen.isNone = true := by
    rw [hlast, hseen]
    exact ⟨hseat, hrun, rfl, rfl⟩
  have hx : timerExpire s.body = timerSend s.body := if_neg fun h => haux h.1
  unfold timerSend at hx
  simp only [hcur, hfrom, hkind, hgo, hholds, harmed, hcurKind, hfrom', if_true, and_self, Bool.false_eq_true, if_false, Option.map_some, Option.getD_some] at hx
  obtain ⟨x, hxbody⟩ : ∃ x : StartBody, { periodUs := getF s.body R.TLY_NEXT_PERIOD.period_us 0, warnDelayUs := cur.periodUs - k.startOff - k.leadUs, leadUs := k.leadUs, kind := s.body.flock.runKind, first := false, last := s.body.flock.runLeft == some 1 || s.body.flock.stopAsked, replay := false, arm := false, replayClass := 0, inbound := inboundFor (setFlag s.body R.TLY_NEXT_PERIOD.armed 0 false) s.body.flock.runKind } = x := ⟨_, rfl⟩
  obtain ⟨c, hc⟩ : ∃ c, updFlock (fun f => { f with runLeft := f.runLeft.map (· - 1), runKind := s.body.flock.runKind, timerDue := false, seatWait := if (s.body.flock.seatWait.map (fun w => decide (w.1 ≤ strokeNum s.body + 1))).getD false then none else f.seatWait })
      (setFlag s.body R.TLY_NEXT_PERIOD.armed 0 false) = c := ⟨_, rfl⟩
  have hsend : timerExpire s.body = seatSend (strokeNum s.body + 1) x c := by
    rw [← hxbody, ← hc]
    exact hx
  have hcwithin : Within [.flock, .regs] [R.TLY_NEXT_PERIOD.armed] s.body c := by
    rw [← hc]
    constructor <;> simp (disch := decide)
  have hcrun : c.flock.runOpen = true := by
    rw [← hc]
    exact hrun
  have hcnum : strokeNum c = strokeNum s.body := hcwithin.getF_eq (f := R.TLY_STROKE_NUM.stroke) (by decide) (by decide) 0
  have hcact : shepherdActive c = false := (hcwithin.shepherdActive_eq (by decide) (by decide)).trans hact
  obtain ⟨d, hd, hsched⟩ := seatSend_schedules (body := x) (stroke := strokeNum s.body + 1) hcrun (by omega) hcact
  refine runs_of_lift (f := timerExpire) rfl (hsend.trans hsched) ?_ ⟨?_, _, rfl, rfl, ?_, ?_, ?_, ?_, ?_, ?_⟩
  · simp (disch := decide) [scheduled, hd.only_iff, hcwithin.only_iff]
  · show flagF d R.TLY_NEXT_PERIOD.armed 0 = false
    rw [hd.flagF_eq (by decide) (by decide), ← hc]
    exact flagF_setFlag_same s.body R.TLY_NEXT_PERIOD.armed 0 false (by decide)
  · rw [← hxbody]
  · rw [← hxbody]
  · rw [← hxbody]
  · rw [← hxbody]
  · rw [← hxbody]
  · have hnow : d.now = s.body.now := (hd.same (p := .now) (by decide)).trans (hcwithin.same (p := .now) (by decide))
    show d.now + x.warnDelayUs * 1000 - 0 = _
    rw [hnow]
    rfl

end Timer

end Sys2Proof.Machine

/-! SUPPORT. The course of a stroke (O39): the reference edge, the seat, the catch. -/

namespace Sys2Proof.Machine

section Seat

variable {s : State}

theorem timer_awaits {cur : StartBody} (haux : getF s.body R.SHP_SYNCAUX.mode 0 = 1) (hseat : isSeat s.body = true)
    (hrun : s.body.flock.runOpen = true) (hcur : s.body.flock.inFlight = some cur) :
    Runs .strokeTimerSend s [.host] (fun b => b.host = { s.body.host with auxWait := true }) := by
  refine runs_of_lift (f := timerExpire) rfl (if_pos ⟨haux, hseat, hrun, by rw [hcur]; rfl⟩) ?_ rfl
  simp (disch := decide)

theorem auxEdge_stamps (haux : getF s.body R.SHP_SYNCAUX.mode 0 = 1) (hwait : s.body.host.auxWait = false) : Runs .syncAuxEdge s [.regs] (fun b =>
    getF b R.SHP_SYNCAUX_TS.ns 0 = s.body.now / 10 * 10 % 2 ^ R.SHP_SYNCAUX_TS.ns.width ∧ RegsBut [R.SHP_SYNCAUX_TS.ns] 0 s.body b) := by
  have hx : auxEdge s.body = setF s.body R.SHP_SYNCAUX_TS.ns 0 (s.body.now / 10 * 10) := by
    unfold auxEdge
    rw [if_neg fun h => h haux]
    exact if_neg (by rw [show (setF s.body R.SHP_SYNCAUX_TS.ns 0 (s.body.now / 10 * 10)).host.auxWait = false from hwait]; decide)
  refine runs_of_lift (f := auxEdge) rfl hx ?_ ⟨getF_setF_same _ _ _ _, ?_⟩
  · simp (disch := decide)
  · simp (disch := decide)

theorem auxTimeout_sends (hwait : s.body.host.auxWait = true) : RunsS .syncAuxWaitTimeout s (fun t => t.body.host.auxWait = false
    ∧ getF t.body R.SHP_SYNCAUX.missed 0 = min (getF s.body R.SHP_SYNCAUX.missed 0 + 1) (2 ^ R.SHP_SYNCAUX.missed.width - 1)) := by
  have hsend := timerSend_within (addSat (updHost (fun h => { h with auxWait := false }) s.body) R.SHP_SYNCAUX.missed 0 1)
  refine runsS_of_lift (f := auxTimeout) rfl (if_pos hwait) ⟨?_, ?_⟩
  · rw [hsend.same (p := .host) (by decide)]
    rfl
  · rw [hsend.getF_eq (by decide) (by decide)]
    exact getF_addSat_same _ _ _ _

theorem setSeat_seat {m : Nat} (hm : m < 16384) (b : Body) : getF (setSeat m b) R.TLY_SEAT.seat 0 = m := by
  have hfits : m < 2 ^ R.TLY_SEAT.seat.width := hm
  unfold setSeat
  rw [getF_setFlag_other _ _ (by decide) (by decide) (by decide)]
  exact getF_setF_fits hfits

theorem setSeat_flag (m : Nat) (b : Body) : flagF (setSeat m b) R.TLY_STROKE_STATUS.seat 0 = decide (m = moduleIndex b) :=
  flagF_setFlag_same (setF b R.TLY_SEAT.seat 0 m) _ _ _ (by decide)

theorem seatSilence_passes {cur : StartBody} {m : Nat} {rest : List Nat} (hcur : s.body.flock.inFlight = some cur) (hrun : s.body.flock.runOpen = true)
    (hen : flagF s.body R.TLY_STROKE_CTRL.enable 0 = true) (hseat : isSeat s.body = false) (hseen : s.body.flock.startSeen = none)
    (hlast : cur.last = false) (hms : strokeMembers s.body = getF s.body R.TLY_SEAT.seat 0 :: m :: rest) (hm : m ≠ getF s.body R.TLY_SEAT.seat 0)
    (hfits : m < 16384) (hlive : moduleLive s.body m = true) : Runs .seatSilence s [.regs, .reports, .flock] (fun b =>
      getF b R.TLY_SEAT.seat 0 = m ∧ (m ≠ moduleIndex s.body → b.flock = s.body.flock)
        ∧ (m = moduleIndex s.body → b.flock = { s.body.flock with runLeft := none, stopAsked := false, inboundNext := cur.inbound, runKind := cur.kind })
        ∧ flagF b R.TLY_STROKE_STATUS.seat 0 = decide (m = moduleIndex s.body) ∧ b.reports = s.body.reports ++ [.seatGone]) := by
  have hfind : ((strokeMembers s.body).filter (· != getF s.body R.TLY_SEAT.seat 0)).find? (moduleLive s.body) = some m := by
    rw [hms, List.filter_cons_of_neg (by simp), List.filter_cons_of_pos (by simpa using hm), List.find?_cons_of_pos hlive]
  have hact : actAsSeat s.body = updFlock (fun f => { f with runLeft := none, stopAsked := false, inboundNext := cur.inbound, runKind := cur.kind }) s.body := by
    unfold actAsSeat
    simp only [updFlock, hseen, hcur]
    rfl
  have hx : seatSilence s.body = report .seatGone (setSeat m (if m = moduleIndex s.body then actAsSeat s.body else s.body)) := by
    unfold seatSilence seatGone
    simp only [hcur]
    rw [if_pos ⟨hrun, hen, by rw [hseat]; rfl, by rw [hseen]; rfl, by rw [hlast]; rfl⟩, hfind]
  rw [hact] at hx
  by_cases hme : m = moduleIndex s.body
  · rw [if_pos hme] at hx
    refine runs_of_lift (f := seatSilence) rfl hx ?_ ⟨setSeat_seat hfits _, fun h => absurd hme h, fun _ => rfl, setSeat_flag m _, rfl⟩
    simp (disch := decide) [setSeat]
  · rw [if_neg hme] at hx
    refine runs_of_lift (f := seatSilence) rfl hx ?_ ⟨setSeat_seat hfits _, fun _ => rfl, fun h => absurd h hme, setSeat_flag m _, rfl⟩
    simp (disch := decide) [setSeat]

theorem measureDelay_root (hseat : flagF s.body R.TLY_SEAT.valid 0 = true) (hroot : treeParent s.body (strokeMembers s.body) = none) :
    Runs .seatDelayMeasure s [.regs] (fun b => getF b R.TLY_SEAT_DELAY.d_ns 0 = 0 ∧ RegsBut [R.TLY_SEAT_DELAY.d_ns] 0 s.body b) := by
  have hx : measureDelay s.body = setF s.body R.TLY_SEAT_DELAY.d_ns 0 0 := by
    unfold measureDelay
    simp only [hseat, hroot, Bool.not_true, Bool.false_eq_true, if_false]
  refine runs_of_lift (f := measureDelay) rfl hx ?_ ⟨getF_setF_fits (by decide), ?_⟩
  · simp (disch := decide)
  · simp (disch := decide)

theorem measureDelay_asks {p : Nat} (hseat : flagF s.body R.TLY_SEAT.valid 0 = true) (hup : treeParent s.body (strokeMembers s.body) = some p) :
    Runs .seatDelayMeasure s [.flock, .sent, .fabric] (fun b => b.flock.echoSeq = (s.body.flock.echoSeq + 1) % 256
      ∧ ∃ g, b.sent = .telEcho p g ⟨moduleIndex s.body, false, (s.body.flock.echoSeq + 1) % 256, s.body.now, 0, 0⟩ :: s.body.sent) := by
  have hx : measureDelay s.body = measureDelay s.body := rfl
  obtain ⟨c, hc⟩ : ∃ c, updFlock (fun f => { f with echoSeq := (s.body.flock.echoSeq + 1) % 256, strokesSinceEcho := 0 }) s.body = c := ⟨_, rfl⟩
  conv_rhs at hx => unfold measureDelay
  simp only [hseat, hup, Bool.not_true, Bool.false_eq_true, if_false, hc] at hx
  have hcw : Within [.flock] [] s.body c := by
    rw [← hc]
    exact updFlock_within (by decide) _ _ _
  have hseq : c.flock.echoSeq = (s.body.flock.echoSeq + 1) % 256 := by
    rw [← hc]
    rfl
  have hnow : c.now = s.body.now := hcw.same (p := .now) (by decide)
  have hme : moduleIndex c = moduleIndex s.body := hcw.getF_eq (f := R.GBL_MODULE.index) (by decide) (by decide) 0
  rw [hnow, hme] at hx
  have htells := telHead_tells 7 p c.flock.flockId (strokeNum c) false c
  have hsent : (telHead c 7 p c.flock.flockId (strokeNum c) false).2.sent = s.body.sent := hcw.same (p := .sent) (by decide)
  obtain ⟨fs, hfs⟩ := sendEcho_shows p (telHead c 7 p c.flock.flockId (strokeNum c) false).1
    ⟨moduleIndex s.body, false, (s.body.flock.echoSeq + 1) % 256, s.body.now, 0, 0⟩ (telHead c 7 p c.flock.flockId (strokeNum c) false).2
  refine runs_of_lift (f := measureDelay) rfl (hx.trans hfs) ?_ ⟨?_, _, congrArg _ hsent⟩
  · have hall : Only [.flock, .sent, .fabric] s.body (telHead c 7 p c.flock.flockId (strokeNum c) false).2 :=
      (hcw.only.mono fun q hq => by simp_all).trans (htells.only (by decide) (by decide) (by decide))
    simp (disch := decide) [hall]
  · obtain ⟨m, ms, gs, htold⟩ := htells
    rw [htold]
    exact hseq

end Seat

/-! ## The catch (R31, R126, R219, R227, R244) -/

section Catch

variable {s : State}

theorem ceilDiv_thousand (n : Nat) : ceilDiv n 1000 = (n + 999) / 1000 := by
  unfold ceilDiv
  omega

theorem catchWarning_raised {w : Warning} (hseen : s.body.flock.startSeen = some w) (hraised : s.body.flock.warnRaised = false)
    (hcommit : s.body.flock.commitDone = true) : RunsS .catchWarning s (fun t => t.body.flock.warnRaised = true
      ∧ t.body.flock.catchAt = s.body.now + w.body.leadUs * 1000 ∧ t.body.flock.lateUs = (s.body.now - w.scheduled + 999) / 1000
      ∧ getF t.body R.TLY_LATE.last_us 0 = min ((s.body.now - w.scheduled + 999) / 1000) 65535) := by
  obtain ⟨late, hlate⟩ : ∃ n, ceilDiv (s.body.now - w.scheduled) 1000 = n := ⟨_, rfl⟩
  obtain ⟨c, hc⟩ : ∃ c, updFlock (fun f => { f with warnRaised := true, lateUs := late, catchAt := s.body.now + w.body.leadUs * 1000 })
      (setF (setF s.body R.TLY_LATE.last_us 0 (min late 65535)) R.TLY_LATE.max_us 0
        (max (getF (setF s.body R.TLY_LATE.last_us 0 (min late 65535)) R.TLY_LATE.max_us 0) (min late 65535))) = c := ⟨_, rfl⟩
  have hx : catchWarning s.body = ledgerWarning (coxWarning c) := by
    unfold catchWarning
    rw [hseen]
    simp only []
    rw [if_neg (by simp [hraised, hcommit]), hlate, ← hc]
    rfl
  have hframe : Within [.regs, .cox, .ledger] (edgeFields ++ pointFields) c (ledgerWarning (coxWarning c)) :=
    ((coxWarning_within c).mono (by decide) (by decide)).trans ((ledgerWarning_within _).mono (by decide) (by decide))
  have hflock : (ledgerWarning (coxWarning c)).flock = c.flock := hframe.same (p := .flock) (by decide)
  refine runsS_of_lift (f := catchWarning) rfl hx ⟨?_, ?_, ?_, ?_⟩
  · rw [hflock, ← hc]
    rfl
  · rw [hflock, ← hc]
    rfl
  · rw [hflock, ← hc, ← ceilDiv_thousand, hlate]
    rfl
  · rw [hframe.getF_eq (by decide) (by decide), ← hc, ← ceilDiv_thousand, hlate]
    have hfits : min late 65535 < 2 ^ R.TLY_LATE.last_us.width := Nat.lt_of_le_of_lt (Nat.min_le_right _ _) (by decide)
    rw [getF_updFlock, getF_setF_other _ _ (by decide) (by decide) (by decide)]
    exact getF_setF_fits hfits

theorem driveEnd_feathers (hdrive : s.body.flock.drive = true) (hstate : getF s.body R.TLY_STROKE_STATUS.state 0 = 3) :
    RunsS .driveEnd s (fun t => t.body.flock.drive = false ∧ t.body.flock.feather = true ∧ getF t.body R.TLY_STROKE_STATUS.state 0 = 4) := by
  obtain ⟨c, hc⟩ : ∃ c, setF (updFlock (fun f => { f with drive := false, feather := true }) s.body) R.TLY_STROKE_STATUS.state 0 4 = c := ⟨_, rfl⟩
  have hstate' : getF (updFlock (fun f => { f with drive := false, feather := true }) s.body) R.TLY_STROKE_STATUS.state 0 = 3 := hstate
  have hx : driveEnd s.body = coxDriveEnd (phaseEnergy R.LDG_ACC_DRIVE.uj c) := by
    unfold driveEnd
    rw [if_pos hdrive]
    simp only [if_pos hstate', hc]
  have hframe : Within [.regs, .cox, .ledger] (R.LDG_ACC_DRIVE.uj :: edgeFields) c (coxDriveEnd (phaseEnergy R.LDG_ACC_DRIVE.uj c)) :=
    ((phaseEnergy_within (by decide) c).mono (by decide) (by decide)).trans ((coxDriveEnd_within _).mono (by decide) (by decide))
  have hflock : (coxDriveEnd (phaseEnergy R.LDG_ACC_DRIVE.uj c)).flock = c.flock := hframe.same (p := .flock) (by decide)
  refine runsS_of_lift (f := driveEnd) rfl hx ⟨?_, ?_, ?_⟩
  · rw [hflock, ← hc]
    rfl
  · rw [hflock, ← hc]
    rfl
  · rw [hframe.getF_eq (by decide) (by decide), ← hc]
    exact getF_setF_fits (by decide)

theorem barrier_released {st ch : Nat} (hst : isStation st = true) (hch : ch < 2) : Runs (.barrierRelease st ch) s [.stations] (fun b =>
    stn b st = { stn s.body st with relGen := SMap.put (stn s.body st).relGen 0 ch (releaseGen s.body st ch) } ∧ ∀ y, y ≠ st → stn b y = stn s.body y) := by
  have hunit : (isStation st && decide (ch < 8)) = true := by
    rw [hst, decide_eq_true (by omega)]
    rfl
  have hx : barrierRelease st ch s.body = releasedAt st ch (releaseGen s.body st ch) s.body := by
    unfold barrierRelease
    cases (scope2Flocks s.body st)[ch - 2]? with
    | none => rfl
    | some f =>
      simp only []
      rw [if_neg fun h => by omega]
      rfl
  refine runs_of_lift (f := barrierRelease st ch) (lift_of_onUnit hunit) hx ?_ ⟨stn_updStn_same _ _ _, fun y hy => stn_updStn_ne _ _ _ _ hy⟩
  simp (disch := decide) [releasedAt]

theorem enable_set : Runs (.strokeEnableWrite true) s [.regs, .rack, .sent] (fun b => flagF b R.TLY_STROKE_CTRL.enable 0 = true
    ∧ RegsBut [R.TLY_STROKE_CTRL.enable] 0 s.body b) := by
  have hrun := noteRun_within s.body (setFlag s.body R.TLY_STROKE_CTRL.enable 0 true)
  refine runs_of_lift (f := writeEnable true) rfl rfl ?_ ⟨?_, ?_⟩
  · exact Only.trans (by simp (disch := decide)) (hrun.only.mono fun q hq => by simp_all)
  · show flagF (noteRun s.body (setFlag s.body R.TLY_STROKE_CTRL.enable 0 true)) _ _ = _
    rw [hrun.flagF_eq (by decide) (by decide)]
    exact flagF_setFlag_same _ _ _ _ (by decide)
  · have hbase : RegsBut [R.TLY_STROKE_CTRL.enable] 0 s.body (setFlag s.body R.TLY_STROKE_CTRL.enable 0 true) := by simp (disch := decide)
    exact fun f j hf hn => (hrun.fields f j hf List.not_mem_nil).trans (hbase f j hf hn)

theorem enable_cleared : RunsS (.strokeEnableWrite false) s (fun t => flagF t.body R.TLY_STROKE_CTRL.enable 0 = false ∧ t.body.flock.runOpen = false
    ∧ t.body.flock.inFlight = none ∧ getF t.body R.TLY_STROKE_STATUS.state 0 = 0) := by
  have hstop := strokeStop_within (setFlag s.body R.TLY_STROKE_CTRL.enable 0 false)
  have hrun := noteRun_within s.body (strokeStop (setFlag s.body R.TLY_STROKE_CTRL.enable 0 false))
  have hflock : (noteRun s.body (strokeStop (setFlag s.body R.TLY_STROKE_CTRL.enable 0 false))).flock
      = (strokeStop (setFlag s.body R.TLY_STROKE_CTRL.enable 0 false)).flock := hrun.same (p := .flock) (by decide)
  refine runsS_of_lift (f := writeEnable false) rfl (b := noteRun s.body (strokeStop (setFlag s.body R.TLY_STROKE_CTRL.enable 0 false))) rfl ⟨?_, ?_, ?_, ?_⟩
  · rw [hrun.flagF_eq (by decide) (by decide), hstop.flagF_eq (by decide) (by decide)]
    exact flagF_setFlag_same _ _ _ _ (by decide)
  · rw [hflock, strokeStop_flock]
  · rw [hflock, strokeStop_flock]
  · rw [hrun.getF_eq (by decide) (by decide)]
    exact getF_setF_fits (by decide)

/-- The fields that the catch writes at a station. -/
def caughtFields : List Field := [R.STN_SEQ_PC.pc, R.TLY_STN_STATUS.deferred, R.TLY_STN_STATUS.tag, R.STN_ARITH_FLAGS.flags,
  R.STN_SEQ_STATUS.barrier_wait, R.STN_STATUS.state, R.TLY_MBX.word]

/-- A station whose registers the catch has emptied (R126). -/
structure Emptied (st : Nat) (b : Body) : Prop where
  scalars : (stn b st).s = []
  vectors : (stn b st).v = []
  predicates : (stn b st).p = []
  flags : getF b R.STN_ARITH_FLAGS.flags st = 0

/-- Stores of deferred tally signals leave a station's registers and its SRAM as they are. -/
theorem addTallies_keep {st : Nat} : ∀ (l : List (Nat × BitVec 32)) (b : Body),
    (∃ m, stn (forEach l (fun p b => addTally st p.1 p.2.toNat b) b) st = { stn b st with tallies := m })
      ∧ (∀ y, y ≠ st → stn (forEach l (fun p b => addTally st p.1 p.2.toNat b) b) y = stn b y)
      ∧ Within [.stations] [] b (forEach l (fun p b => addTally st p.1 p.2.toNat b) b)
  | [], b => ⟨⟨_, rfl⟩, fun _ _ => rfl, .refl _ _ b⟩
  | p :: l, b => by
    obtain ⟨⟨m, hm⟩, hne, hw⟩ := addTallies_keep (st := st) l (addTally st p.1 p.2.toNat b)
    have hone : stn (addTally st p.1 p.2.toNat b) st = setTally (stn b st) p.1 (tally (stn b st) p.1 + p.2.toNat) := stn_updStn_same _ _ _
    refine ⟨⟨m, hm.trans ?_⟩, fun y hy => (hne y hy).trans (stn_updStn_ne _ _ _ _ hy), Within.trans ?_ hw⟩
    · rw [hone]
      rfl
    · unfold addTally
      constructor <;> simp (disch := decide)

theorem catchStation_caught (stroke : Nat) (inbound : List Nat) (st : Nat) (b : Body) : Within [.stations, .regs] caughtFields b (catchStation stroke inbound st b)
    ∧ (stn (catchStation stroke inbound st b) st).sram = (stn b st).sram ∧ Emptied st (catchStation stroke inbound st b)
    ∧ ∀ y, y ≠ st → stn (catchStation stroke inbound st b) y = stn b y
      ∧ getF (catchStation stroke inbound st b) R.STN_ARITH_FLAGS.flags y = getF b R.STN_ARITH_FLAGS.flags y := by
  unfold catchStation
  simp only []
  obtain ⟨c, hc⟩ : ∃ c, setStn b st { stn b st with s := [], v := [], p := [], tiles := [], loops := [], opened := [], deferred := [], arriveGen := [], relGen := [], ended := false, syncDone := false } = c := ⟨_, rfl⟩
  obtain ⟨⟨m, hm⟩, hne, hw⟩ := addTallies_keep (st := st) (stn b st).deferred c
  rw [hc]
  generalize forEach (stn b st).deferred (fun p b => addTally st p.1 p.2.toNat b) c = d at hm hne hw ⊢
  obtain ⟨e, he⟩ : ∃ e, setF (setF (setF (setF d R.STN_SEQ_PC.pc st (stn b st).entry) R.TLY_STN_STATUS.deferred st 0) R.TLY_STN_STATUS.tag st (stroke % 4))
      R.STN_ARITH_FLAGS.flags st 0 = e := ⟨_, rfl⟩
  have hde : Within [.regs] caughtFields d e := by
    rw [← he]
    constructor <;> simp (disch := decide)
  have htail : Within [.regs] [R.STN_SEQ_STATUS.barrier_wait, R.STN_STATUS.state, R.TLY_MBX.word] e
      (forEach (List.range 16) (fun k b => setF b R.TLY_MBX.word (st * 32 + k) (inbound.getD k 0))
        (if getF (setFlag e R.STN_SEQ_STATUS.barrier_wait st false) R.STN_STATUS.state st = 4 then
          setF (setFlag e R.STN_SEQ_STATUS.barrier_wait st false) R.STN_STATUS.state st 3 else setFlag e R.STN_SEQ_STATUS.barrier_wait st false)) := by
    refine Within.forEach (.ite ?_ ?_) fun k _ c => setF_within _ _ c (by decide) (by decide) (by decide)
    · constructor <;> simp (disch := decide)
    · constructor <;> simp (disch := decide)
  rw [he]
  generalize forEach (List.range 16) (fun k b => setF b R.TLY_MBX.word (st * 32 + k) (inbound.getD k 0)) _ = f at htail ⊢
  have hcd : Within [.stations, .regs] caughtFields b c := by
    rw [← hc]
    constructor <;> simp (disch := decide)
  have hstn : ∀ y, stn f y = stn d y := fun y => (htail.stn_eq (by decide) y).trans (hde.stn_eq (by decide) y)
  have hst : stn f st = { stn c st with tallies := m } := (hstn st).trans hm
  have hcst : stn c st = { stn b st with s := [], v := [], p := [], tiles := [], loops := [], opened := [], deferred := [], arriveGen := [], relGen := [], ended := false, syncDone := false } := by
    rw [← hc]
    exact stn_setStn_same _ _ _
  refine ⟨?_, ?_, ⟨?_, ?_, ?_, ?_⟩, fun y hy => ⟨?_, ?_⟩⟩
  · exact ((hcd.trans (hw.mono (by decide) (by decide))).trans (hde.mono (by decide) (by decide))).trans (htail.mono (by decide) (by decide))
  · rw [hst, hcst]
  · rw [hst, hcst]
  · rw [hst, hcst]
  · rw [hst, hcst]
  · rw [htail.getF_eq (by decide) (by decide), ← he]
    exact getF_setF_fits (by decide)
  · rw [hstn, hne y hy, ← hc]
    exact stn_setStn_ne _ _ _ _ hy
  · rw [htail.getF_eq (by decide) (by decide), ← he, getF_setF_instance _ _ _ _ _ hy, getF_setF_other _ _ (by decide) (by decide) (by decide),
      getF_setF_other _ _ (by decide) (by decide) (by decide), getF_setF_other _ _ (by decide) (by decide) (by decide),
      hw.getF_eq (by decide) (by decide), ← hc]
    rfl

/-- The catch at a list of stations. -/
theorem stations_caught (stroke : Nat) (inbound : List Nat) (st : Nat) : ∀ (l : List Nat) (b : Body),
    Within [.stations, .regs] caughtFields b (forEach l (catchStation stroke inbound) b)
      ∧ (stn (forEach l (catchStation stroke inbound) b) st).sram = (stn b st).sram
      ∧ (st ∈ l ∨ Emptied st b → Emptied st (forEach l (catchStation stroke inbound) b))
  | [], b => ⟨.refl _ _ b, rfl, fun h => h.resolve_left List.not_mem_nil⟩
  | x :: l, b => by
    obtain ⟨hw, hsram, hempty, hother⟩ := catchStation_caught stroke inbound x b
    obtain ⟨ihw, ihsram, ihempty⟩ := stations_caught stroke inbound st l (catchStation stroke inbound x b)
    by_cases hx : st = x
    · subst hx
      exact ⟨hw.trans ihw, ihsram.trans hsram, fun _ => ihempty (.inr hempty)⟩
    · obtain ⟨hstn, hflags⟩ := hother st hx
      refine ⟨hw.trans ihw, ihsram.trans (congrArg Station.sram hstn), fun h => ihempty (h.imp (fun hm => ?_) fun ⟨h1, h2, h3, h4⟩ => ?_)⟩
      · exact (List.mem_cons.mp hm).resolve_left hx
      · exact ⟨hstn ▸ h1, hstn ▸ h2, hstn ▸ h3, hflags.trans h4⟩

theorem keepStart_keeps (n : Nat) (x : StartBody) (f : Flock) : ∃ p q, keepStart n x f = { f with lastStart := p, prevStart := q } := by
  unfold keepStart
  split
  · split
    · exact ⟨_, f.prevStart, rfl⟩
    · exact ⟨_, _, rfl⟩
  · exact ⟨_, f.prevStart, rfl⟩

theorem liveStations_eq {ps : List Part} {fs : List Field} {b c : Body} (h : Within ps fs b c) (hp : Part.dieMap ∉ ps) : liveStations c = liveStations b := by
  have hmap : c.dieMap = b.dieMap := h.same (p := .dieMap) hp
  unfold liveStations dieStations physOf
  rw [hmap]

/-- The fields of the stroke that the catch begins. -/
def strokeFields : List Field := [R.TLY_STROKE_NUM.stroke, R.TLY_PERIOD.period_us, R.TLY_STROKE_STATUS.first, R.TLY_STROKE_STATUS.last,
  R.TLY_STROKE_STATUS.replay, R.TLY_STROKE_STATUS.kind, R.TLY_STROKE_STATUS.state, R.LDG_ACC_FEATHER.uj]

/-- The body in which a stroke begins: its number, its period and its marks, and the energy of its drive. -/
def strokeBegun (w : Warning) (b : Body) : Body :=
  let b := setF b R.TLY_STROKE_NUM.stroke 0 w.stroke
  let b := setF b R.TLY_PERIOD.period_us 0 w.body.periodUs
  let b := setFlag b R.TLY_STROKE_STATUS.first 0 w.body.first
  let b := setFlag b R.TLY_STROKE_STATUS.last 0 w.body.last
  let b := setFlag b R.TLY_STROKE_STATUS.replay 0 w.body.replay
  let b := setF b R.TLY_STROKE_STATUS.kind 0 w.body.kind
  driveStarts (setF b R.TLY_STROKE_STATUS.state 0 3)

/-- The stroke flock's part of the catch. -/
def flockCaught (w : Warning) (b : Body) : Body :=
  updFlock (fun f => keepStart w.stroke w.body
        { f with startSeen := none, warnRaised := false, inFlight := some w.body, strokeInFlight := w.stroke, commitDone := false
                 commitFor := some w.stroke, inReplay := false, arrives := [], heldArrives := [], drive := true, feather := false
                 strokesSinceEcho := f.strokesSinceEcho + 1, catchAt := (headroomClear b).now }) (headroomClear b)

/-- The body after the catch, but for the engines. -/
def catchDone (w : Warning) (b : Body) : Body :=
  updFail (fun f => { f with aborted := false }) (forEach b.flock.heldArrives (fun x b => takeArrive x.1 x.2.1 x.2.2.1 x.2.2.2 b) (flockCaught w b))

theorem doCatch_eq {w : Warning} {b : Body} (hseen : b.flock.startSeen = some w) (hraised : b.flock.warnRaised = true) (hreplay : w.body.replay = false) :
    doCatch b = coxCatch (noteRun b (catchDone w (forEach (liveStations (strokeBegun w b)) (catchStation w.stroke w.body.inbound) (strokeBegun w b)))) := by
  unfold doCatch catchDone flockCaught strokeBegun
  rw [hseen]
  simp only [hraised, hreplay, Bool.not_true, Bool.false_eq_true, if_false]
  rfl

theorem strokeBegun_shows (w : Warning) (b : Body) : Within [.regs, .ledger] strokeFields b (strokeBegun w b)
    ∧ getF (strokeBegun w b) R.TLY_STROKE_NUM.stroke 0 = w.stroke % 2 ^ 48 ∧ getF (strokeBegun w b) R.TLY_PERIOD.period_us 0 = w.body.periodUs % 2 ^ 32
    ∧ getF (strokeBegun w b) R.TLY_STROKE_STATUS.state 0 = 3 := by
  unfold strokeBegun
  simp only []
  have hdrive : ∀ c, Within [.regs, .ledger] [R.LDG_ACC_FEATHER.uj] c (driveStarts c) := driveStarts_within
  refine ⟨Within.trans (c := setF _ R.TLY_STROKE_STATUS.state 0 3) ?_ ((hdrive _).mono (by decide) (by decide)), ?_, ?_, ?_⟩
  · constructor <;> simp (disch := decide)
  · rw [(hdrive _).getF_eq (by decide) (by decide)]
    simp (disch := decide)
    rfl
  · rw [(hdrive _).getF_eq (by decide) (by decide)]
    simp (disch := decide)
    rfl
  · rw [(hdrive _).getF_eq (by decide) (by decide)]
    exact getF_setF_fits (by decide)

theorem flockCaught_shows (w : Warning) (b : Body) : Within [.flock] [] b (flockCaught w b) ∧ (flockCaught w b).flock.inFlight = some w.body
    ∧ (flockCaught w b).flock.startSeen = none ∧ (flockCaught w b).flock.commitDone = false ∧ (flockCaught w b).flock.drive = true := by
  refine ⟨(updFlock_within (by decide) _ _ b).trans (updFlock_within (by decide) _ _ _), ?_⟩
  unfold flockCaught
  simp only [updFlock]
  obtain ⟨p, q, h⟩ := keepStart_keeps w.stroke w.body { (headroomClear b).flock with startSeen := none, warnRaised := false, inFlight := some w.body, strokeInFlight := w.stroke, commitDone := false, commitFor := some w.stroke, inReplay := false, arrives := [], heldArrives := [], drive := true, feather := false, strokesSinceEcho := (headroomClear b).flock.strokesSinceEcho + 1, catchAt := (headroomClear b).now }
  rw [h]
  exact ⟨rfl, rfl, rfl, rfl⟩

theorem catch_begins {w : Warning} (hseen : s.body.flock.startSeen = some w) (hraised : s.body.flock.warnRaised = true)
    (hreplay : w.body.replay = false) (hheld : s.body.flock.heldArrives = []) : RunsS Instr.catch s (fun t =>
      getF t.body R.TLY_STROKE_NUM.stroke 0 = w.stroke % 2 ^ 48 ∧ getF t.body R.TLY_PERIOD.period_us 0 = w.body.periodUs % 2 ^ 32
        ∧ getF t.body R.TLY_STROKE_STATUS.state 0 = 3 ∧ t.body.flock.inFlight = some w.body ∧ t.body.flock.startSeen = none
        ∧ t.body.flock.commitDone = false ∧ t.body.flock.drive = true ∧ t.mem = s.mem
        ∧ ∀ st, st ∈ liveStations s.body → (stn t.body st).s = [] ∧ (stn t.body st).v = [] ∧ (stn t.body st).p = []
          ∧ (stn t.body st).sram = (stn s.body st).sram ∧ getF t.body R.STN_ARITH_FLAGS.flags st = 0) := by
  have hx := doCatch_eq hseen hraised hreplay
  obtain ⟨hbegun, hnum, hperiod, hstate⟩ := strokeBegun_shows w s.body
  rw [liveStations_eq hbegun (by decide)] at hx
  have hcaught := stations_caught w.stroke w.body.inbound
  obtain ⟨e, he⟩ : ∃ e, forEach (liveStations s.body) (catchStation w.stroke w.body.inbound) (strokeBegun w s.body) = e := ⟨_, rfl⟩
  have hew : Within [.stations, .regs] caughtFields (strokeBegun w s.body) e := he ▸ (hcaught 0 _ _).1
  have hnone : e.flock.heldArrives = [] := by
    rw [hew.same (p := .flock) (by decide), hbegun.same (p := .flock) (by decide), hheld]
  obtain ⟨hflock, hcur, hseen', hcommit, hdrive⟩ := flockCaught_shows w e
  have hdone : catchDone w e = updFail (fun f => { f with aborted := false }) (flockCaught w e) := by
    unfold catchDone
    rw [hnone]
    rfl
  obtain ⟨f, hf⟩ : ∃ f, flockCaught w e = f := ⟨_, rfl⟩
  rw [hf] at hdone hflock hcur hseen' hcommit hdrive
  rw [he, hdone] at hx
  have hlast : Within [.regs, .cox, .rack, .sent, .fail] edgeFields f (coxCatch (noteRun s.body (updFail (fun x => { x with aborted := false }) f))) := by
    refine Within.trans (Within.trans ?_ ((noteRun_within _ _).mono (by decide) (by decide))) ((coxCatch_within _).mono (by decide) (by decide))
    constructor <;> simp (disch := decide)
  rw [← hx] at hlast
  have hfield : ∀ {g : Field}, g.idx < 1024 → g.idx ∉ edgeFields.map Field.idx → g.idx ∉ caughtFields.map Field.idx →
      getF (doCatch s.body) g 0 = getF (strokeBegun w s.body) g 0 := fun hi h1 h2 =>
    ((hlast.getF_eq hi h1 0).trans (hflock.getF_eq hi List.not_mem_nil 0)).trans (hew.getF_eq hi h2 0)
  have hfl : (doCatch s.body).flock = f.flock := hlast.same (p := .flock) (by decide)
  have hstn : ∀ st, stn (doCatch s.body) st = stn e st := fun st => (hlast.stn_eq (by decide) st).trans (hflock.stn_eq (by decide) st)
  refine runsS_of_lift (f := doCatch) rfl rfl ⟨?_, ?_, ?_, ?_, ?_, ?_, ?_, rfl, fun st hst => ?_⟩
  · exact (hfield (by decide) (by decide) (by decide)).trans hnum
  · exact (hfield (by decide) (by decide) (by decide)).trans hperiod
  · exact (hfield (by decide) (by decide) (by decide)).trans hstate
  · rw [hfl, hcur]
  · rw [hfl, hseen']
  · rw [hfl, hcommit]
  · rw [hfl, hdrive]
  · obtain ⟨-, hsram, hempty⟩ := hcaught st (liveStations s.body) (strokeBegun w s.body)
    rw [he] at hsram hempty
    obtain ⟨h1, h2, h3, h4⟩ := hempty (.inl hst)
    have hflags : getF (doCatch s.body) R.STN_ARITH_FLAGS.flags st = getF e R.STN_ARITH_FLAGS.flags st :=
      (hlast.getF_eq (by decide) (by decide) st).trans (hflock.getF_eq (by decide) (by decide) st)
    rw [hstn]
    exact ⟨h1, h2, h3, hsram.trans (congrArg Station.sram (hbegun.stn_eq (by decide) st)), hflags.trans h4⟩

end Catch

/-- Settles O39: the tree, the timer and the seat, the warning and the catch, each by its own lemma. -/
theorem strokes : Obligations.Strokes := by
  intro s b0 fl ms aux me
  refine ⟨?deadline, ?late, ?publish, ?send, ?await, ?edge, ?noEdge, ?timeout, ?silence, ?root, ?ask, ?warn, ?noWarn, ?begin, ?feather, ?release, ?enable, ?disable⟩
  case deadline =>
    intro level r p hlevel hfirst hseat hr hp
    subst hlevel
    exact deadline_forwards hfirst hseat hr hp
  case late => exact fun level hlevel => deadline_ignored hlevel
  case publish => exact fun cur c hcur hown hrun hc => publish_reports hcur hown hrun hc
  case send => exact fun cur k haux hseat hrun hcur hlast hseen hwait hkind hck harmed hact =>
    timer_sends haux hseat hrun hcur hlast hseen hwait hkind hck harmed hact
  case await => exact fun cur haux hseat hrun hcur => timer_awaits haux hseat hrun hcur
  case edge => exact fun haux hwait => auxEdge_stamps haux hwait
  case noEdge => exact fun haux => runs_same (f := auxEdge) rfl (if_pos haux)
  case timeout => exact fun hwait => auxTimeout_sends hwait
  case silence => exact fun cur m rest hcur hrun hen hseat hseen hlast hms hm hfits hlive =>
    seatSilence_passes hcur hrun hen hseat hseen hlast hms hm hfits hlive
  case root => exact fun hseat hroot => measureDelay_root hseat hroot
  case ask => exact fun p hseat hup => measureDelay_asks hseat hup
  case warn => exact fun w hseen hraised hcommit => catchWarning_raised hseen hraised hcommit
  case noWarn =>
    intro hseen
    have hx : catchWarning s.body = s.body := by
      unfold catchWarning
      rw [hseen]
    exact runs_same (f := catchWarning) rfl hx
  case begin => exact fun w hseen hraised hreplay hheld => catch_begins hseen hraised hreplay hheld
  case feather => exact fun hdrive hstate => driveEnd_feathers hdrive hstate
  case release => exact fun st ch hst hch => barrier_released hst hch
  case enable => exact enable_set
  case disable => exact enable_cleared


end Sys2Proof.Machine

/-! SUPPORT. Korrel ports (R256 to R297): what each operation on a port changes, and the state of a port. -/

namespace Sys2Proof.Machine

section Ports

variable {b c : Body}

/-! ## The part of a port -/

@[simp] theorem kport_updPort_same (b : Body) (p : Nat) (f : KorPort → KorPort) : kport (updPort b p f) p = f (kport b p) :=
  SMap.get_put_same b.korrel.ports KorPort.reset p (f (kport b p))

theorem kport_updPort_ne (b : Body) (p q : Nat) (f : KorPort → KorPort) (h : q ≠ p) : kport (updPort b p f) q = kport b q :=
  SMap.get_put_ne b.korrel.ports KorPort.reset KorPort.reset p q (f (kport b p)) h

@[simp] theorem kport_setF (f : Field) (i v p : Nat) : kport (setF b f i v) p = kport b p := rfl

@[simp] theorem kport_setFlag (f : Field) (i : Nat) (v : Bool) (p : Nat) : kport (setFlag b f i v) p = kport b p := rfl

@[simp] theorem kport_addSat (f : Field) (i n p : Nat) : kport (addSat b f i n) p = kport b p := rfl

@[simp] theorem kport_emit (m : Sent) (p : Nat) : kport (emit m b) p = kport b p := rfl

@[simp] theorem kport_sendFlit (f : Flit) (p : Nat) : kport (sendFlit f b) p = kport b p := rfl

@[simp] theorem kport_putFlit (p q : Nat) (k : KFlit) : kport (putFlit p k b) q = kport b q := rfl

@[simp] theorem kport_hopFlit (p q ftype : Nat) (xs : List Nat) : kport (hopFlit p ftype xs b) q = kport b q := rfl

@[simp] theorem getF_putFlit (p : Nat) (k : KFlit) (f : Field) (i : Nat) : getF (putFlit p k b) f i = getF b f i := rfl

@[simp] theorem getF_hopFlit (p ftype : Nat) (xs : List Nat) (f : Field) (i : Nat) : getF (hopFlit p ftype xs b) f i = getF b f i := rfl

@[simp] theorem flagF_hopFlit (p ftype : Nat) (xs : List Nat) (f : Field) (i : Nat) : flagF (hopFlit p ftype xs b) f i = flagF b f i := rfl

theorem putFlit_within (p : Nat) (k : KFlit) (b : Body) : Within [.sent] [] b (putFlit p k b) := by
  unfold putFlit
  constructor <;> simp (disch := decide)

theorem hopFlit_within (p ftype : Nat) (xs : List Nat) (b : Body) : Within [.sent] [] b (hopFlit p ftype xs b) := putFlit_within p _ b

theorem updPort_within (p : Nat) (f : KorPort → KorPort) (b : Body) : Within [.korrel] [] b (updPort b p f) := by
  constructor <;> simp (disch := decide)

/-- A flit of one hop is the last message sent. -/
theorem hopFlit_sent (p ftype : Nat) (xs : List Nat) (b : Body) :
    ∃ k a0 a1 cs, (hopFlit p ftype xs b).sent = .korrel p k a0 a1 cs :: b.sent ∧ k.ftype = ftype ∧ k.body = xs :=
  ⟨_, _, _, _, rfl, rfl, rfl⟩

theorem portUp_iff {p : Nat} : portUp b p = true ↔ portState b p = 2 := beq_iff_eq

theorem portUp_congr {p q : Nat} (h : portState c q = portState b p) : portUp c q = portUp b p := congrArg (· == 2) h

theorem Within.portState_eq {ps : List Part} {fs : List Field} (h : Within ps fs b c) (hs : R.KLK_PORT_STATUS.state.idx ∉ fs.map Field.idx) (p : Nat) :
    portState c p = portState b p := h.getF_eq (by decide) hs p

/-! ## The state of a port (R295, R296) -/

/-- The fields that a change of a port's state writes. -/
def portFields : List Field := [R.KLK_PORT_STATUS.state, R.KLK_DIE_STATUS.switch_up, R.SHP_STARTUP.done]

theorem notePorts_within (b : Body) : Within [.regs] [R.SHP_STARTUP.done] b (notePorts b) := by
  unfold notePorts stepDone
  exact .ite (setF_within 0 _ b (by decide) (by decide) (by decide)) (.refl _ _ b)

theorem setPortState_rest (p st : Nat) (b : Body) :
    Within [.regs] [R.KLK_DIE_STATUS.switch_up, R.SHP_STARTUP.done] (setF b R.KLK_PORT_STATUS.state p st) (setPortState p st b) := by
  have hup : ∀ n (l : List Nat) (c : Body), Within [.regs] [R.KLK_DIE_STATUS.switch_up, R.SHP_STARTUP.done] c
      (forEach l (fun d b => setF b R.KLK_DIE_STATUS.switch_up d n) c) := fun n l c =>
    (Within.refl _ _ c).forEach fun d _ e => setF_within d n e (by decide) (by decide) (by decide)
  unfold setPortState
  simp only []
  exact (hup _ _ _).trans ((notePorts_within _).mono (by decide) (by decide))

theorem setPortState_within (p st : Nat) (b : Body) : Within [.regs] portFields b (setPortState p st b) :=
  (setF_within p st b (by decide) (by decide) (by decide)).trans ((setPortState_rest p st b).mono (by decide) (by decide))

theorem portState_setPortState {p st : Nat} (hst : st < 8) (b : Body) : portState (setPortState p st b) p = st := by
  have hfits : st < 2 ^ R.KLK_PORT_STATUS.state.width := hst
  exact ((setPortState_rest p st b).portState_eq (by decide) p).trans (getF_setF_fits hfits)

theorem portState_setPortState_ne {p q : Nat} (st : Nat) (h : q ≠ p) (b : Body) : portState (setPortState p st b) q = portState b q :=
  ((setPortState_rest p st b).portState_eq (by decide) q).trans (getF_setF_instance _ _ _ _ _ h)

/-! ## Retry (R272 to R275) -/

theorem askFor_within (p stream : Nat) (qs : List Nat) (b : Body) : Within [.korrel, .regs, .sent] [R.KLK_PORT_ERR.retries] b (askFor p stream qs b) := by
  refine (Within.refl _ _ b).forEach fun q _ c => Within.trans (Within.trans ((updPort_within p _ c).mono (by decide) (by decide))
    (setF_within p _ _ (by decide) (by decide) (by decide))) ((hopFlit_within p 2 _ _).mono (by decide) (by decide))

/-- A request to send again, kept among those that are open (R274). -/
def asked (stream q : Nat) (pt : KorPort) : KorPort :=
  let s := pt.stream (streamVc stream)
  pt.setStream (streamVc stream) { s with asked := if s.asked.any (fun x => x.1 == q) then s.asked else s.asked ++ [(q, 0)] }

theorem askFor_one (p stream q : Nat) (b : Body) :
    askFor p stream [q] b = hopFlit p 2 [stream, q] (addSat (updPort b p (asked stream q)) R.KLK_PORT_ERR.retries p 1) := rfl

theorem askRetry_all {p stream : Nat} (h : selective b p stream = false) :
    askRetry p stream b = askFor p stream [((kport b p).stream (streamVc stream)).expected] b := by
  unfold askRetry lacking
  rw [h]
  rfl

end Ports

end Sys2Proof.Machine

/-! SUPPORT. Flits on a Korrel port (O40). -/

namespace Sys2Proof.Machine

section Flits

variable {p : Nat} {s : State}

/-- What the credit fields of a flit, or of a CREDIT_SYNC, change: the last fields seen and the credit held (R270). -/
structure Credited (p : Nat) (b c : Body) : Prop where
  within : Within [.korrel, .regs] [R.KLK_PORT_CREDIT.held] b c
  port : ∃ m, kport c p = { kport b p with lastField := m }
  others : ∀ q, q ≠ p → kport c q = kport b q

namespace Credited

variable {b c d : Body}

theorem refl (p : Nat) (b : Body) : Credited p b b := ⟨.refl _ _ b, ⟨_, rfl⟩, fun _ _ => rfl⟩

theorem trans (h : Credited p b c) (k : Credited p c d) : Credited p b d := by
  obtain ⟨m, hm⟩ := h.port
  obtain ⟨n, hn⟩ := k.port
  exact ⟨h.within.trans k.within, ⟨n, by rw [hn, hm]⟩, fun q hq => (k.others q hq).trans (h.others q hq)⟩

theorem forEach {f : Nat → Body → Body} (h : ∀ v c, Credited p c (f v c)) : ∀ (l : List Nat) (b : Body), Credited p b (forEach l f b)
  | [], b => .refl p b
  | v :: l, b => (h v b).trans (Credited.forEach h l (f v b))

theorem write (p i v : Nat) (m : SMap Nat) (b : Body) :
    Credited p b (setF (updPort b p (fun pt => { pt with lastField := m })) R.KLK_PORT_CREDIT.held i v) := by
  refine ⟨?_, ⟨m, ?_⟩, fun q hq => ?_⟩
  · constructor <;> simp (disch := decide)
  · simp
  · simpa using kport_updPort_ne b p q _ hq

end Credited

theorem takeCredits_credited (p : Nat) (cs : List Nat) (b : Body) : Credited p b (takeCredits p cs b) :=
  Credited.forEach (fun _ c => Credited.write p _ _ _ c) _ b

/-! ## A flit in sequence (R267, R272, R275) -/

/-- The body in which the flit's credit is freed and its stream goes on. -/
theorem takeSequenced_delivers {k : KFlit} {f : Flit} {x : Nat} {b : Body} (htype : k.ftype = 1) (hflit : k.flit = some f) (hkind : f.kind = .droverBulk)
    (hvc : k.vc ≠ 0) (hvc6 : k.vc ≠ 6) (hdst : inboundDst b f = some x) (hseq : k.seq = (kport b p).s1.expected) (hkept : (kport b p).s1.kept = [])
    (hdest : k.destModule = moduleIndex b) (hlive : flagF b R.KLK_ROUTE.lost k.srcModule = false) :
    takeSequenced p k b = sendFlit { f with origin := some k.srcModule, dst := x, pos := some (16 + portDie p), via := none }
      (updPort (updPort b p (fun pt => pt.setStream k.vc { (kport b p).s1 with expected := ((kport b p).s1.expected + 1) % 4096, asked := (kport b p).s1.asked.filter (fun q => q.1 != k.seq) }))
        p (fun pt => { pt with freed := SMap.upd pt.freed 0 k.vc (fun n => (n + 1) % 65536) })) := by
  obtain ⟨fuel, hfuel⟩ : ∃ n, (64 : Nat) = n + 1 := ⟨63, rfl⟩
  have hstream : (kport b p).stream k.vc = (kport b p).s1 := if_neg hvc
  obtain ⟨c, hc⟩ : ∃ c, updPort b p (fun pt => pt.setStream k.vc { (kport b p).s1 with expected := ((kport b p).s1.expected + 1) % 4096, asked := (kport b p).s1.asked.filter (fun q => q.1 != k.seq) }) = c := ⟨_, rfl⟩
  obtain ⟨d, hd⟩ : ∃ d, updPort c p (fun pt => { pt with freed := SMap.upd pt.freed 0 k.vc (fun n => (n + 1) % 65536) }) = d := ⟨_, rfl⟩
  have hregs : d.regs = b.regs := by
    rw [← hd, ← hc]
    rfl
  have hdie : d.dieMap = b.dieMap := by
    rw [← hd, ← hc]
    rfl
  have haccept : acceptKorrel p k c = sendFlit { f with origin := some k.srcModule, dst := x, pos := some (16 + portDie p), via := none } d := by
    have hlive' : flagF d R.KLK_ROUTE.lost k.srcModule = false := by
      unfold flagF getF
      rw [hregs]
      exact hlive
    have hdest' : k.destModule = moduleIndex d := by
      unfold moduleIndex getF
      rw [hregs]
      exact hdest
    have hdst' : inboundDst d f = some x := by
      unfold inboundDst physOf
      rw [hdie]
      exact hdst
    unfold acceptKorrel
    simp only [hd, hlive', htype, hflit, Bool.false_eq_true, if_false, if_pos hdest']
    unfold deliverFabric noteHeld
    simp only [hkind, hdst', hvc6, false_and, if_false]
  have hkept' : (kport d p).s1.kept = [] := by
    rw [← hd, ← hc]
    simp [KorPort.setStream, hvc, hkept]
  unfold takeSequenced
  simp only [hstream, if_pos hseq, hc, hd, haccept, if_neg hvc]
  rw [hfuel, deliverKept]
  simp only [kport_sendFlit, KorPort.stream, streamVc, if_neg (show ¬ (1 : Nat) = 0 by decide), hkept', List.find?_nil]

/-- What the FEC of a flit counts, and what its acknowledgements free. -/
theorem flitHead_shows (r : KRecv) (b : Body) : Within [.korrel, .regs] [R.KLK_PORT_FEC.corrected, R.KLK_PORT_FEC.uncorrectable] b
      (takeAcks p r.ack0 r.ack1 (addSat (addSat b R.KLK_PORT_FEC.corrected p r.fecFixed) R.KLK_PORT_FEC.uncorrectable p r.fecBad))
    ∧ (∃ u v, kport (takeAcks p r.ack0 r.ack1 (addSat (addSat b R.KLK_PORT_FEC.corrected p r.fecFixed) R.KLK_PORT_FEC.uncorrectable p r.fecBad)) p
      = { kport b p with s0 := { (kport b p).s0 with unacked := u }, s1 := { (kport b p).s1 with unacked := v } })
    ∧ ∀ q, q ≠ p → kport (takeAcks p r.ack0 r.ack1 (addSat (addSat b R.KLK_PORT_FEC.corrected p r.fecFixed) R.KLK_PORT_FEC.uncorrectable p r.fecBad)) q
      = kport b q := by
  unfold takeAcks
  refine ⟨?_, ?_, fun q hq => ?_⟩
  · constructor <;> simp (disch := decide)
  · rw [kport_updPort_same]
    exact ⟨_, _, rfl⟩
  · exact kport_updPort_ne _ p q _ hq

theorem flit_delivered {r : KRecv} {f : Flit} {x : Nat} (hp : p < 18) (hup : portUp s.body p = true) (hwait : (kport s.body p).waiting = [])
    (hcrc : r.crcOk = true) (htype : r.k.ftype = 1) (hflit : r.k.flit = some f) (hkind : f.kind = .droverBulk) (hvc : r.k.vc ≠ 0) (hvc6 : r.k.vc ≠ 6)
    (hdst : inboundDst s.body f = some x) (hseq : r.k.seq = (kport s.body p).s1.expected) (hkept : (kport s.body p).s1.kept = [])
    (hdest : r.k.destModule = moduleIndex s.body) (hlive : flagF s.body R.KLK_ROUTE.lost r.k.srcModule = false) :
    Runs (.korrelFlitReceive p r) s [.korrel, .regs, .fabric] (fun b => b.fabric = s.body.fabric
        ++ [{ f with origin := some r.k.srcModule, dst := x, pos := some (16 + portDie p), via := none }]
      ∧ (kport b p).s1.expected = ((kport s.body p).s1.expected + 1) % 4096
      ∧ (kport b p).s1.asked = (kport s.body p).s1.asked.filter (fun q => q.1 != (kport s.body p).s1.expected)
      ∧ SMap.get (kport b p).freed 0 r.k.vc = (SMap.get (kport s.body p).freed 0 r.k.vc + 1) % 65536
      ∧ ∀ q, q ≠ p → kport b q = kport s.body q) := by
  obtain ⟨hhead, ⟨u, v, hacks⟩, hheadNe⟩ := flitHead_shows (p := p) r s.body
  obtain ⟨c, hc⟩ : ∃ c, takeAcks p r.ack0 r.ack1 (addSat (addSat s.body R.KLK_PORT_FEC.corrected p r.fecFixed) R.KLK_PORT_FEC.uncorrectable p r.fecBad) = c := ⟨_, rfl⟩
  rw [hc] at hhead hacks hheadNe
  obtain ⟨hcw, ⟨m, hm⟩, hcNe⟩ := takeCredits_credited p r.credits c
  obtain ⟨d, hd⟩ : ∃ d, takeCredits p r.credits c = d := ⟨_, rfl⟩
  rw [hd] at hcw hm hcNe
  rw [hacks] at hm
  have hw : Within [.korrel, .regs] [R.KLK_PORT_FEC.corrected, R.KLK_PORT_FEC.uncorrectable, R.KLK_PORT_CREDIT.held] s.body d :=
    (hhead.mono (by decide) (by decide)).trans (hcw.mono (by decide) (by decide))
  have hs1 : (kport d p).s1 = { (kport s.body p).s1 with unacked := v } := by rw [hm]
  have htake := takeSequenced_delivers (p := p) (b := d) htype hflit hkind hvc hvc6
    (by
      have hmap : d.dieMap = s.body.dieMap := hw.same (p := .dieMap) (by decide)
      unfold inboundDst physOf
      rw [hmap]
      exact hdst) (by rw [hs1]; exact hseq) (by rw [hs1]; exact hkept)
    (hdest.trans (hw.getF_eq (f := R.GBL_MODULE.index) (by decide) (by decide) 0).symm) ((hw.flagF_eq (by decide) (by decide) _).trans hlive)
  have hup' : portUp (addSat (addSat s.body R.KLK_PORT_FEC.corrected p r.fecFixed) R.KLK_PORT_FEC.uncorrectable p r.fecBad) p = true := by
    rw [← hup]
    refine portUp_congr ?_
    unfold portState
    rw [getF_addSat_other _ _ (by decide) (by decide) (by decide), getF_addSat_other _ _ (by decide) (by decide) (by decide)]
  have hx : korrelReceive p r s.body = takeSequenced p r.k d := by
    unfold korrelReceive
    simp only [hup', hcrc, htype, hc, hd, Bool.not_true, Bool.false_eq_true, if_false, false_or, show ¬ (7 ≤ 1) by decide, if_true, true_or]
    rw [htake]
    simp only [kport_sendFlit, kport_updPort_same, KorPort.setStream, if_neg hvc]
    rw [hm, hwait]
    rfl
  rw [htake] at hx
  refine runs_of_lift (f := korrelReceive p r) (lift_of_onUnit (decide_eq_true hp)) hx ?_ ⟨?_, ?_, ?_, ?_, fun q hq => ?_⟩
  · simp (disch := decide) [hw.only_iff]
  · show d.fabric ++ _ = _
    rw [hw.same (p := .fabric) (by decide)]
  · simp [KorPort.setStream, hvc, hs1]
  · simp [KorPort.setStream, hvc, hs1, hseq]
  · simp only [kport_sendFlit, kport_updPort_same, KorPort.setStream, if_neg hvc]
    rw [SMap.upd, hm]
    exact SMap.get_put_same _ _ _ _
  · rw [kport_sendFlit, kport_updPort_ne _ _ _ _ hq, kport_updPort_ne _ _ _ _ hq, hcNe q hq, hheadNe q hq]

theorem flit_bad {r : KRecv} (hp : p < 18) (hup : portUp s.body p = true) (hbad : r.crcOk = false ∨ 7 ≤ r.k.ftype)
    (hlevel : getF s.body R.KLK_PORT_STATUS.level p ≠ 2) (h0 : (kport s.body p).s0.asked = []) (h1 : (kport s.body p).s1.asked = []) :
    Runs (.korrelFlitReceive p r) s [.korrel, .regs, .sent] (fun b =>
      getF b R.KLK_PORT_ERR.crc_fail p = min (getF s.body R.KLK_PORT_ERR.crc_fail p + 1) (2 ^ 16 - 1)
        ∧ getF b R.KLK_PORT_ERR.retries p = min (min (getF s.body R.KLK_PORT_ERR.retries p + 1) (2 ^ 16 - 1) + 1) (2 ^ 16 - 1)
        ∧ (kport b p).s0.asked = [((kport s.body p).s0.expected, 0)] ∧ (kport b p).s1.asked = [((kport s.body p).s1.expected, 0)]
        ∧ (kport b p).s0.expected = (kport s.body p).s0.expected ∧ (kport b p).s1.expected = (kport s.body p).s1.expected) := by
  obtain ⟨c, hc⟩ : ∃ c, updPort (addSat (addSat (addSat s.body R.KLK_PORT_FEC.corrected p r.fecFixed) R.KLK_PORT_FEC.uncorrectable p r.fecBad)
      R.KLK_PORT_ERR.crc_fail p 1) p (fun pt => { pt with cleanSince := s.body.now }) = c := ⟨_, rfl⟩
  have hup' : portUp (addSat (addSat s.body R.KLK_PORT_FEC.corrected p r.fecFixed) R.KLK_PORT_FEC.uncorrectable p r.fecBad) p = true := by
    rw [← hup]
    refine portUp_congr ?_
    unfold portState
    rw [getF_addSat_other _ _ (by decide) (by decide) (by decide), getF_addSat_other _ _ (by decide) (by decide) (by decide)]
  have hcp : kport c p = { kport s.body p with cleanSince := s.body.now } := by
    rw [← hc, kport_updPort_same]
    rfl
  have hclevel : getF c R.KLK_PORT_STATUS.level p = getF s.body R.KLK_PORT_STATUS.level p := by
    rw [← hc]
    simp (disch := decide)
  have hlevels : ∀ (stream q : Nat) (d : Body), getF (askFor p stream [q] d) R.KLK_PORT_STATUS.level p = getF d R.KLK_PORT_STATUS.level p :=
    fun stream q d => (askFor_within p stream [q] d).getF_eq (by decide) (by decide) p
  have hs0 : selective c p 0 = false := rfl
  have hfirst : askRetry p 0 c = askFor p 0 [(kport s.body p).s0.expected] c := by
    rw [askRetry_all hs0, hcp]
    rfl
  have hs1 : selective (askFor p 0 [(kport s.body p).s0.expected] c) p 1 = false := by
    unfold selective
    rw [hlevels, hclevel]
    simpa using hlevel
  have hmid : kport (askFor p 0 [(kport s.body p).s0.expected] c) p
      = { kport s.body p with s0 := { (kport s.body p).s0 with asked := [((kport s.body p).s0.expected, 0)] }, cleanSince := s.body.now } := by
    rw [askFor_one]
    simp [asked, streamVc, KorPort.stream, KorPort.setStream, hcp, h0]
  have hsecond : askRetry p 1 (askRetry p 0 c) = askFor p 1 [(kport s.body p).s1.expected] (askFor p 0 [(kport s.body p).s0.expected] c) := by
    rw [hfirst, askRetry_all hs1, hmid]
    rfl
  have hx : korrelReceive p r s.body = askFor p 1 [(kport s.body p).s1.expected] (askFor p 0 [(kport s.body p).s0.expected] c) := by
    have hbad' : (!r.crcOk) = true ∨ 7 ≤ r.k.ftype := hbad.imp_left fun h => by rw [h]; rfl
    have hnow : (addSat (addSat s.body R.KLK_PORT_FEC.corrected p r.fecFixed) R.KLK_PORT_FEC.uncorrectable p r.fecBad).now = s.body.now := rfl
    unfold korrelReceive
    simp only [hup', Bool.not_true, Bool.false_eq_true, if_false, if_pos hbad']
    rw [← hsecond, ← hc]
    rfl
  have hend : kport (askFor p 1 [(kport s.body p).s1.expected] (askFor p 0 [(kport s.body p).s0.expected] c)) p
      = { kport s.body p with s0 := { (kport s.body p).s0 with asked := [((kport s.body p).s0.expected, 0)] }, s1 := { (kport s.body p).s1 with asked := [((kport s.body p).s1.expected, 0)] }, cleanSince := s.body.now } := by
    rw [askFor_one]
    simp [asked, streamVc, KorPort.stream, KorPort.setStream, hmid, h1]
  refine runs_of_lift (f := korrelReceive p r) (lift_of_onUnit (decide_eq_true hp)) hx ?_ ⟨?_, ?_, ?_, ?_, ?_, ?_⟩
  · have hcw : Only [.korrel, .regs, .sent] s.body c := by
      rw [← hc]
      simp (disch := decide)
    exact (hcw.trans (askFor_within _ _ _ _).only).trans (askFor_within _ _ _ _).only
  · rw [(askFor_within p 1 _ _).getF_eq (by decide) (by decide), (askFor_within p 0 _ _).getF_eq (by decide) (by decide), ← hc, getF_updPort,
      getF_addSat_same, getF_addSat_other _ _ (by decide) (by decide) (by decide), getF_addSat_other _ _ (by decide) (by decide) (by decide)]
    rfl
  · have hretry : ∀ (stream q : Nat) (d : Body), getF (askFor p stream [q] d) R.KLK_PORT_ERR.retries p = min (getF d R.KLK_PORT_ERR.retries p + 1) (2 ^ 16 - 1) :=
      fun stream q d => getF_addSat_same _ _ _ _
    rw [hretry, hretry, ← hc, getF_updPort, getF_addSat_other _ _ (by decide) (by decide) (by decide),
      getF_addSat_other _ _ (by decide) (by decide) (by decide), getF_addSat_other _ _ (by decide) (by decide) (by decide)]
  · rw [hend]
  · rw [hend]
  · rw [hend]
  · rw [hend]

/-! ## Retry requests (R272 to R275) -/

theorem creditSync_sent {b : Body} (hup : portUp b p = true) : ∃ c, (creditSyncSend p b).sent = c :: b.sent ∧ Only [.sent] b (creditSyncSend p b) := by
  have hx : creditSyncSend p b = hopFlit p 3 (ctlBody b p 4 ((List.range 8).map (fun v => SMap.get (kport b p).freed 0 v))) b := if_pos hup
  rw [hx]
  exact ⟨_, rfl, (hopFlit_within _ _ _ _).only⟩

theorem retry_answered {k : KFlit} {seq : Nat} (hp : p < 18) (hup : portUp s.body p = true) (hone : (kport s.body p).s1.unacked = [k])
    (hseq : k.seq = seq % 4096) : Runs (.korrelRetryRequest p 1 seq) s [.sent] (fun b => ∃ c a0 a1 cs, b.sent = c :: .korrel p k a0 a1 cs :: s.body.sent) := by
  have hfrom : ((kport s.body p).stream (streamVc 1)).unacked.dropWhile (fun k => k.seq != seq % 4096) = [k] := by
    rw [show ((kport s.body p).stream (streamVc 1)).unacked = [k] from hone, List.dropWhile_cons_of_neg (by simp [hseq])]
  have hx : retryRequest p 1 seq s.body = creditSyncSend p (putFlit p k s.body) := by
    unfold retryRequest
    simp only [hup, Bool.not_true, Bool.false_eq_true, if_false, hfrom, List.take_succ_cons, List.take_nil, ite_self]
    rfl
  have hup' : portUp (putFlit p k s.body) p = true := hup
  obtain ⟨c, hc, honly⟩ := creditSync_sent hup'
  exact runs_of_lift (f := retryRequest p 1 seq) (lift_of_onUnit (decide_eq_true hp)) hx ((putFlit_within p k s.body).only.trans honly) ⟨c, _, _, _, hc⟩

theorem timeout_asks {q f : Nat} (hp : p < 18) (hup : portUp s.body p = true) (hasked : (kport s.body p).s1.asked = [(q, f)]) (hf : f < 2) :
    Runs (.korrelRetryTimeout p 1) s [.korrel, .regs, .sent] (fun b => (kport b p).s1.asked = [(q, f + 1)] ∧ portUp b p = true
      ∧ ∃ k a0 a1 cs, b.sent = .korrel p k a0 a1 cs :: s.body.sent ∧ k.ftype = 2 ∧ k.body = [1, q]) := by
  obtain ⟨c, hc⟩ : ∃ c, updPort s.body p (fun pt => pt.setStream (streamVc 1) { (kport s.body p).stream (streamVc 1) with asked := [(q, f + 1)] }) = c := ⟨_, rfl⟩
  have hx : retryTimeout p 1 s.body = askFor p 1 [q] c := by
    unfold retryTimeout
    simp only [show ((kport s.body p).stream (streamVc 1)).asked = [(q, f)] from hasked, hup, Bool.not_true, Bool.false_eq_true, if_false,
      if_neg (show ¬ 2 ≤ f by omega), List.nil_append, hc]
  have hcs : (kport c p).s1.asked = [(q, f + 1)] := by
    rw [← hc, kport_updPort_same]
    rfl
  have hask := askFor_within p 1 [q] c
  have hup' : portUp (askFor p 1 [q] c) p = true := by
    rw [← hup]
    refine portUp_congr ((hask.portState_eq (by decide) p).trans ?_)
    rw [← hc]
    rfl
  refine runs_of_lift (f := retryTimeout p 1) (lift_of_onUnit (decide_eq_true hp)) hx ?_ ⟨?_, hup', ?_⟩
  · refine Only.trans ?_ hask.only
    rw [← hc]
    simp (disch := decide)
  · rw [askFor_one]
    simp [asked, streamVc, KorPort.stream, KorPort.setStream, hcs]
  · obtain ⟨k, a0, a1, cs, hsent, htype, hbody⟩ := hopFlit_sent p 2 [1, q] (addSat (updPort c p (asked 1 q)) R.KLK_PORT_ERR.retries p 1)
    refine ⟨k, a0, a1, cs, hsent.trans ?_, htype, hbody⟩
    rw [← hc]
    rfl

/-! ## The loss of a port (R274, R279, R284) -/

theorem mem_switchPorts {q : Nat} (hq : q < 18) (hpair : pairOfPort q = none) : q ∈ switchPorts := by
  have hall : ∀ q < 18, pairOfPort q = none → q ∈ switchPorts := by decide
  exact hall q hq hpair

/-- The body of a port that is lost for a cause, before it is taken out of service. -/
def lossNoted (p cause : Nat) (ls : List Nat) (b : Body) : Body :=
  updPort (addSat (setF b R.KLK_PORT_LOSS.cause p cause) R.KLK_PORT_LOSS.count p 1) p (fun pt => { pt with losses := ls, lostAt := b.now })

/-- The port out of service, without flits to give to others (R283). -/
def portStopped (p st : Nat) (b : Body) : Body :=
  setPortState p (if getF b R.KLK_PORT_STATUS.state p = 6 then 6 else st)
    (setF (updPort b p (fun pt => { pt with s0 := KStream.reset, s1 := KStream.reset, waiting := [], traffic := false })) R.KLK_PORT_STATUS.level p 0)

theorem portDown_stops {st : Nat} {b : Body} (h0 : (kport b p).s0.unacked = []) (h1 : (kport b p).s1.unacked = []) (hw : (kport b p).waiting = []) :
    portDown p st b = portStopped p st b := by
  unfold portDown
  simp only [h0, h1, hw]
  rfl

theorem portStopped_shows {st : Nat} {b : Body} (hst : st < 8) (hfailed : portState b p ≠ 6) :
    Within [.korrel, .regs] (R.KLK_PORT_STATUS.level :: portFields) b (portStopped p st b) ∧ portState (portStopped p st b) p = st
      ∧ (∀ q, q ≠ p → portState (portStopped p st b) q = portState b q)
      ∧ kport (portStopped p st b) p = { kport b p with s0 := KStream.reset, s1 := KStream.reset, waiting := [], traffic := false }
      ∧ (portStopped p st b).korrel.notices = b.korrel.notices := by
  obtain ⟨c, hc⟩ : ∃ c, setF (updPort b p (fun pt => { pt with s0 := KStream.reset, s1 := KStream.reset, waiting := [], traffic := false })) R.KLK_PORT_STATUS.level p 0 = c := ⟨_, rfl⟩
  have hx : portStopped p st b = setPortState p st c := by
    unfold portStopped
    rw [if_neg (show ¬ getF b R.KLK_PORT_STATUS.state p = 6 from hfailed), hc]
  have hw := setPortState_within p st c
  rw [hx]
  refine ⟨Within.trans ?_ (hw.mono (by decide) (by decide)), portState_setPortState hst _, fun q hq => ?_, ?_, ?_⟩
  · rw [← hc]
    constructor <;> simp (disch := decide)
  · rw [portState_setPortState_ne _ hq, ← hc]
    unfold portState
    rw [getF_setF_other _ _ (by decide) (by decide) (by decide)]
    rfl
  · rw [hw.kport_eq (by decide), ← hc, kport_setF, kport_updPort_same]
  · rw [hw.same (p := .korrel) (by decide), ← hc]
    rfl

/-- The body after a first loss of a port with nothing to give to others. -/
def lostOnce (p cause : Nat) (b : Body) : Body := report (.port p) (raiseVec 28 (portStopped p 3 (lossNoted p cause [b.now] b)))

/-- The fields that the loss of a port writes. -/
def lossFields : List Field := R.IRQ_CAUSE.cause :: R.KLK_PORT_LOSS.cause :: R.KLK_PORT_LOSS.count :: R.KLK_PORT_STATUS.level :: portFields

theorem lostOnce_shows {cause : Nat} {b : Body} (hcause : cause < 4) (hstate : portState b p ≠ 6) :
    Within [.korrel, .regs, .host, .sent, .reports] lossFields b (lostOnce p cause b) ∧ portState (lostOnce p cause b) p = 3
      ∧ (∀ q, q ≠ p → portState (lostOnce p cause b) q = portState b q) ∧ getF (lostOnce p cause b) R.KLK_PORT_LOSS.cause p = cause
      ∧ (kport (lostOnce p cause b) p).losses = [b.now]
      ∧ getF (lostOnce p cause b) R.KLK_PORT_LOSS.count p = min (getF b R.KLK_PORT_LOSS.count p + 1) 255
      ∧ (lostOnce p cause b).reports = b.reports ++ [.port p] ∧ bit (getF (lostOnce p cause b) R.IRQ_CAUSE.cause 0) 28 = true
      ∧ (lostOnce p cause b).korrel.notices = b.korrel.notices := by
  obtain ⟨c, hc⟩ : ∃ c, lossNoted p cause [b.now] b = c := ⟨_, rfl⟩
  have hnoted : Within [.korrel, .regs] [R.KLK_PORT_LOSS.cause, R.KLK_PORT_LOSS.count] b c := by
    rw [← hc]
    unfold lossNoted
    constructor <;> simp (disch := decide)
  obtain ⟨hstop, hthree, hothers, hport, hnotices⟩ := portStopped_shows (p := p) (st := 3) (b := c) (by decide)
    (by rw [hnoted.portState_eq (by decide)]; exact hstate)
  have hvec := raiseVec_within 28 (portStopped p 3 c)
  unfold lostOnce
  rw [hc]
  have hfield : ∀ {f : Field}, f.idx < 1024 → f.idx ∉ [R.IRQ_CAUSE.cause].map Field.idx → f.idx ∉ (R.KLK_PORT_STATUS.level :: portFields).map Field.idx →
      getF (report (.port p) (raiseVec 28 (portStopped p 3 c))) f p = getF c f p := fun hi h1 h2 => (hvec.getF_eq hi h1 p).trans (hstop.getF_eq hi h2 p)
  refine ⟨?_, ?_, fun q hq => ?_, ?_, ?_, ?_, ?_, raiseVec_pending _ (by decide), ?_⟩
  · have hreport : ∀ d, Within [.korrel, .regs, .host, .sent, .reports] lossFields d (report (.port p) d) := fun d => by
      constructor <;> simp (disch := decide)
    exact ((hnoted.mono (by decide) (by decide)).trans (hstop.mono (by decide) (by decide))).trans
      ((hvec.mono (by decide) (by decide)).trans (hreport _))
  · exact (hvec.portState_eq (by decide) p).trans hthree
  · exact (hvec.portState_eq (by decide) q).trans ((hothers q hq).trans (hnoted.portState_eq (by decide) q))
  · rw [hfield (by decide) (by decide) (by decide), ← hc]
    unfold lossNoted
    rw [getF_updPort, getF_addSat_other _ _ (by decide) (by decide) (by decide)]
    exact getF_setF_fits hcause
  · show (kport (raiseVec 28 (portStopped p 3 c)) p).losses = _
    rw [hvec.kport_eq (by decide), hport, ← hc]
    simp [lossNoted]
  · rw [hfield (by decide) (by decide) (by decide), ← hc]
    unfold lossNoted
    rw [getF_updPort, getF_addSat_same, getF_setF_other _ _ (by decide) (by decide) (by decide)]
    rfl
  · show (raiseVec 28 (portStopped p 3 c)).reports ++ _ = _
    rw [hvec.same (p := .reports) (by decide), hstop.same (p := .reports) (by decide), hnoted.same (p := .reports) (by decide)]
  · show (raiseVec 28 (portStopped p 3 c)).korrel.notices = _
    rw [hvec.same (p := .korrel) (by decide), hnotices, ← hc]
    rfl

/-- A loss that takes no other part of the module with it: of a port that was not up, or of one of several switch ports (R285). -/
def Lone (p : Nat) (b : Body) : Prop :=
  portUp b p = false ∨ pairOfPort p = none ∧ b.korrel.notices = [] ∧ ∃ q, q ∈ switchPorts ∧ q ≠ p ∧ portUp b q = true

theorem portLost_once {cause : Nat} {b : Body} (hcause : cause < 4) (hstate : portState b p = 2 ∨ portState b p = 1) (hlone : Lone p b)
    (hlosses : (kport b p).losses = []) (h0 : (kport b p).s0.unacked = []) (h1 : (kport b p).s1.unacked = []) (hw : (kport b p).waiting = []) :
    portLost p cause b = lostOnce p cause b := by
  have hgo : ¬ (portState b p ≠ 2 ∧ portState b p ≠ 1) := fun h => hstate.elim h.1 h.2
  obtain ⟨-, -, hothers, -, -, -, -, -, hnotices⟩ := lostOnce_shows (p := p) (b := b) hcause (by omega)
  obtain ⟨c, hc⟩ : ∃ c, lossNoted p cause [b.now] b = c := ⟨_, rfl⟩
  have hport : kport c p = { kport b p with losses := [b.now], lostAt := b.now } := by
    rw [← hc]
    unfold lossNoted
    rw [kport_updPort_same]
    rfl
  have hdown : portDown p 3 c = portStopped p 3 c := portDown_stops (by rw [hport]; exact h0) (by rw [hport]; exact h1) (by rw [hport]; exact hw)
  have hls : (kport (addSat (setF b R.KLK_PORT_LOSS.cause p cause) R.KLK_PORT_LOSS.count p 1) p).losses = [] := hlosses
  have hx : portLost p cause b = (match pairOfPort p with
      | some k => if portUp b p then pairLost k (lostOnce p cause b) else lostOnce p cause b
      | none => if portUp b p ∧ (lostOnce p cause b).korrel.everUp ∧ !switchPorts.any (portUp (lostOnce p cause b)) then
          isolateModule (lostOnce p cause b) else whenB (portUp b p) noticesAll (lostOnce p cause b)) := by
    have hone : lostOnce p cause b = report (.port p) (raiseVec 28 (portStopped p 3 c)) := by
      unfold lostOnce
      rw [hc]
    rw [hone, ← hdown, ← hc]
    unfold portLost
    simp only [if_neg hgo, hls, List.filter_nil, List.nil_append, List.length_singleton, show ¬ (16 ≤ 1) by decide, if_false]
    rfl
  rw [hx]
  rcases hlone with hdead | ⟨hpair, hnone, q, hq, hne, hqup⟩
  · cases pairOfPort p <;> simp [hdead, whenB]
  · have hqup' : portUp (lostOnce p cause b) q = true := (portUp_congr (hothers q hne)).trans hqup
    have hany : switchPorts.any (portUp (lostOnce p cause b)) = true := List.any_eq_true.mpr ⟨q, hq, hqup'⟩
    have hall : noticesAll (lostOnce p cause b) = lostOnce p cause b := by
      unfold noticesAll
      rw [hnotices, hnone]
      rfl
    rw [hpair]
    simp [hany, whenB, hall]

theorem timeout_loses {x f : Nat} (hp : p < 18) (hup : portUp s.body p = true) (hwait : (kport s.body p).waiting = [])
    (hasked : (kport s.body p).s1.asked = [(x, f)]) (hf : 2 ≤ f) (hlosses : (kport s.body p).losses = []) (hnotices : s.body.korrel.notices = [])
    {q : Nat} (hq : q < 18) (hne : q ≠ p) (hpair : pairOfPort p = none) (hqpair : pairOfPort q = none) (hqup : portUp s.body q = true)
    (h0 : (kport s.body p).s0.unacked = []) (h1 : (kport s.body p).s1.unacked = []) : RunsS (.korrelRetryTimeout p 1) s (fun t =>
      getF t.body R.KLK_PORT_STATUS.state p = 3 ∧ getF t.body R.KLK_PORT_LOSS.cause p = 2) := by
  have hstate := portUp_iff.mp hup
  have hx : retryTimeout p 1 s.body = lostOnce p 2 s.body := by
    unfold retryTimeout
    simp only [show ((kport s.body p).stream (streamVc 1)).asked = [(x, f)] from hasked, hup, Bool.not_true, Bool.false_eq_true, if_false, if_pos hf]
    exact portLost_once (by decide) (.inl hstate) (.inr ⟨hpair, hnotices, q, mem_switchPorts hq hqpair, hne, hqup⟩) hlosses h0 h1 hwait
  obtain ⟨-, hthree, -, hcause, -⟩ := lostOnce_shows (p := p) (cause := 2) (b := s.body) (by decide) (by omega)
  exact runsS_of_lift (f := retryTimeout p 1) (lift_of_onUnit (decide_eq_true hp)) hx ⟨hthree, hcause⟩

/-! ## Control flits (R266, R270) -/

theorem idle_sent (hp : p < 18) (hup : portUp s.body p = true) : Runs (.korrelIdleSend p) s [.sent] (fun b =>
    ∃ k a0 a1 cs, b.sent = .korrel p k a0 a1 cs :: s.body.sent ∧ k.ftype = 0 ∧ k.body = []) :=
  runs_of_lift (f := idleSend p) (lift_of_onUnit (decide_eq_true hp)) (if_pos hup) (hopFlit_within p 0 [] s.body).only (hopFlit_sent p 0 [] s.body)

theorem ctlBody_eq (b : Body) (p ctl : Nat) (g : Nat → Nat) : ctlBody b p ctl ((List.range 8).map g)
    = [ctl, 0, moduleIndex b, p, getF b R.KLK_DIE_ID.level_min (portDie p), getF b R.KLK_DIE_ID.level_max (portDie p)] ++ (List.range 8).map g ++ [512] := rfl

theorem creditSync_stated (hp : p < 18) (hup : portUp s.body p = true) : Runs (.korrelCreditSyncSend p) s [.sent] (fun b =>
    ∃ k a0 a1 cs, b.sent = .korrel p k a0 a1 cs :: s.body.sent ∧ k.ftype = 3 ∧ k.body = [4, 0, moduleIndex s.body, p,
      getF s.body R.KLK_DIE_ID.level_min (portDie p), getF s.body R.KLK_DIE_ID.level_max (portDie p)]
        ++ (List.range 8).map (fun v => SMap.get (kport s.body p).freed 0 v) ++ [512]) := by
  refine runs_of_lift (f := creditSyncSend p) (lift_of_onUnit (decide_eq_true hp)) (if_pos hup) (hopFlit_within p 3 _ s.body).only ?_
  rw [ctlBody_eq]
  exact hopFlit_sent p 3 _ s.body

/-- The credit of a VC by a CREDIT_SYNC's count (R270). -/
def creditBy (p : Nat) (counts : List Nat) (b : Body) (v : Nat) : Nat :=
  getF b R.KLK_PORT_CREDIT.announced (p * 8 + v) - (SMap.get (kport b p).sent 0 v + 65536 - counts.getD v 0 % 65536) % 65536

/-- One VC of a CREDIT_SYNC. -/
def syncCredit (p : Nat) (counts : List Nat) (v : Nat) (b : Body) : Body :=
  setF (updPort b p (fun pt => { pt with lastField := SMap.put pt.lastField 0 v (counts.getD v 0 % 65536 % 16) })) R.KLK_PORT_CREDIT.held (creditIx p v)
    (creditBy p counts b v)

theorem syncCredit_credited (p : Nat) (counts : List Nat) (v : Nat) (b : Body) : Credited p b (syncCredit p counts v b) := Credited.write p _ _ _ b

theorem creditBy_credited {b c : Body} (h : Credited p b c) (counts : List Nat) (v : Nat) : creditBy p counts c v = creditBy p counts b v := by
  obtain ⟨m, hm⟩ := h.port
  unfold creditBy
  rw [h.within.getF_eq (by decide) (by decide), hm]

theorem syncCredits_held (counts : List Nat) {v : Nat} (l : List Nat) (b : Body) :
    getF (forEach l (syncCredit p counts) b) R.KLK_PORT_CREDIT.held (p * 8 + v)
      = if v ∈ l then creditBy p counts b v % 2 ^ 11 else getF b R.KLK_PORT_CREDIT.held (p * 8 + v) := by
  induction l generalizing b with
  | nil => rfl
  | cons w l ih =>
    rw [forEach_cons, ih, creditBy_credited (syncCredit_credited p counts w b)]
    by_cases hv : v ∈ l
    · rw [if_pos hv, if_pos (List.mem_cons_of_mem _ hv)]
    · rw [if_neg hv]
      by_cases hw : v = w
      · subst hw
        rw [if_pos List.mem_cons_self]
        exact getF_setF_same _ _ _ _
      · rw [if_neg (by simp [hv, hw])]
        have hix : p * 8 + v ≠ creditIx p w := by
          unfold creditIx
          omega
        exact getF_setF_instance _ _ _ _ _ hix

theorem credit_synced (hp : p < 18) (hup : portUp s.body p = true) (hwait : (kport s.body p).waiting = []) (counts : List Nat) :
    Runs (.creditSync p counts) s [.korrel, .regs] (fun b => ∀ v, v < 8 →
      getF b R.KLK_PORT_CREDIT.held (p * 8 + v) = creditBy p counts s.body v % 2 ^ 11) := by
  obtain ⟨c, hc⟩ : ∃ c, forEach (List.range 8) (syncCredit p counts) s.body = c := ⟨_, rfl⟩
  have hcred : Credited p s.body c := hc ▸ Credited.forEach (fun v d => syncCredit_credited p counts v d) _ _
  have hwait' : (kport c p).waiting = [] := by
    obtain ⟨m, hm⟩ := hcred.port
    rw [hm]
    exact hwait
  have hx : creditSync p counts s.body = c := by
    have hdrain : creditSync p counts s.body = drainPort p ((kport c p).waiting.length) c := by
      unfold creditSync
      simp only [hup, Bool.not_true, Bool.false_eq_true, if_false]
      rw [← hc]
      rfl
    rw [hdrain, hwait']
    rfl
  refine runs_of_lift (f := creditSync p counts) (lift_of_onUnit (decide_eq_true hp)) hx hcred.within.only fun v hv => ?_
  rw [← hc, syncCredits_held, if_pos (List.mem_range.mpr hv)]

end Flits

/-- Settles O40: a sound flit in sequence is delivered, a bad one and its retries are asked for again, and the credits follow the counts. -/
theorem korrelFlits : Obligations.KorrelFlits := by
  intro p s hp hup hwait b0 k0 field hop
  refine ⟨?deliver, ?bad, ?retry, ?again, ?lose, ?idle, ?credit, ?sync⟩
  case deliver => exact fun r f x hcrc htype hflit hkind hvc hvc6 hdst hseq hkept hdest hlive =>
    flit_delivered hp hup hwait hcrc htype hflit hkind hvc hvc6 hdst hseq hkept hdest hlive
  case bad => exact fun r hbad hlevel h0 h1 => flit_bad hp hup hbad hlevel h0 h1
  case retry => exact fun k seq hone hseq => retry_answered hp hup hone hseq
  case again => exact fun q f hasked hf => timeout_asks hp hup hasked hf
  case lose => exact fun x f hasked hf hlosses hnotices q hq hne hpair hqpair hqup h0 h1 =>
    timeout_loses hp hup hwait hasked hf hlosses hnotices hq hne hpair hqpair hqup h0 h1
  case idle => exact idle_sent hp hup
  case credit => exact creditSync_stated hp hup
  case sync => exact fun counts => credit_synced hp hup hwait counts

end Sys2Proof.Machine

/-! SUPPORT. A Korrel port from cable to up, and its loss (O41). -/

namespace Sys2Proof.Machine

theorem Only.widen {ps qs : List Part} {b c : Body} (h : Only ps b c) (hp : ps ⊆ qs) : Only qs b c := h.mono fun _ => @hp _

section Training

variable {p : Nat} {s : State}

/-- A port as training begins (R278). -/
def untrained (pt : KorPort) : KorPort := { pt with locked := false, idSent := false, idSeen := false, doneSent := false, doneSeen := false, traffic := false }

/-- What the start of training shows (R278, R279). -/
theorem startTraining_shows (p : Nat) (b : Body) :
    Within [.korrel, .regs] (R.KLK_PORT_STATUS.level :: R.KLK_PORT_PEER.valid :: portFields) b (startTraining p b)
      ∧ portState (startTraining p b) p = 1 ∧ (∀ q, q ≠ p → portState (startTraining p b) q = portState b q)
      ∧ kport (startTraining p b) p = untrained (kport b p) ∧ flagF (startTraining p b) R.KLK_PORT_PEER.valid p = false := by
  obtain ⟨c, hc⟩ : ∃ c, setFlag (setF (updPort b p untrained) R.KLK_PORT_STATUS.level p 0) R.KLK_PORT_PEER.valid p false = c := ⟨_, rfl⟩
  have hx : startTraining p b = setPortState p 1 c := by
    rw [← hc]
    rfl
  have hw := setPortState_within p 1 c
  have hcw : Within [.korrel, .regs] (R.KLK_PORT_STATUS.level :: R.KLK_PORT_PEER.valid :: portFields) b c := by
    rw [← hc]
    constructor <;> simp (disch := decide)
  rw [hx]
  refine ⟨hcw.trans (hw.mono (by decide) (by decide)), portState_setPortState (by decide) _, fun q hq => ?_, ?_, ?_⟩
  · rw [portState_setPortState_ne _ hq, ← hc]
    unfold portState
    rw [getF_setFlag_other _ _ (by decide) (by decide) (by decide), getF_setF_other _ _ (by decide) (by decide) (by decide)]
    rfl
  · rw [hw.kport_eq (by decide), ← hc]
    simp
  · rw [hw.flagF_eq (by decide) (by decide), ← hc]
    exact flagF_setFlag_same _ _ _ _ (by decide)

theorem cable_inserted (hp : p < 18) : Runs (.cageCableInsert p) s [.korrel, .regs] (fun b => flagF b R.KLK_PORT_STATUS.present p = true
    ∧ kport b p = { kport s.body p with insertedAt := s.body.now, released := false } ∧ RegsBut [R.KLK_PORT_STATUS.present] p s.body b) := by
  refine runs_of_lift (f := cableInsert p) (lift_of_onUnit (decide_eq_true hp)) rfl ?_ ⟨flagF_setFlag_same _ _ _ _ (by decide), ?_, ?_⟩
  · unfold cableInsert
    simp (disch := decide)
  · exact kport_updPort_same s.body p (fun pt => { pt with insertedAt := s.body.now, released := false })
  · unfold cableInsert
    simp (disch := decide)

theorem presence_trains {cable watts : Nat} (hp : p < 18) (hpresent : flagF s.body R.KLK_PORT_STATUS.present p = true) (hwatts : watts ≤ 15)
    (hstate : portState s.body p = 0) (hen : flagF s.body R.KLK_PORT_CTRL.enable p = true) :
    Runs (.cagePresenceStable p cable watts) s [.korrel, .regs] (fun b => portState b p = 1 ∧ (∀ q, q ≠ p → portState b q = portState s.body q)
      ∧ getF b R.KLK_PORT_STATUS.cable p = cable % 4 ∧ (kport b p).released = true ∧ (kport b p).locked = false) := by
  obtain ⟨c, hc⟩ : ∃ c, setF (updPort s.body p (fun pt => { pt with released := true })) R.KLK_PORT_STATUS.cable p cable = c := ⟨_, rfl⟩
  have hcw : Within [.korrel, .regs] [R.KLK_PORT_STATUS.cable] s.body c := by
    rw [← hc]
    constructor <;> simp (disch := decide)
  have hx : presenceStable p cable watts s.body = startTraining p c := by
    unfold presenceStable
    simp only [hpresent, hc, Bool.not_true, Bool.false_eq_true, if_false, if_neg (show ¬ 15 < watts by omega)]
    exact if_pos ⟨(hcw.portState_eq (by decide) p).trans hstate, (hcw.flagF_eq (by decide) (by decide) p).trans hen⟩
  obtain ⟨hw, hone, hothers, hport, -⟩ := startTraining_shows p c
  refine runs_of_lift (f := presenceStable p cable watts) (lift_of_onUnit (decide_eq_true hp)) hx (hcw.only.trans hw.only)
    ⟨hone, fun q hq => (hothers q hq).trans (hcw.portState_eq (by decide) q), ?_, ?_, ?_⟩
  · rw [hw.getF_eq (by decide) (by decide), ← hc]
    exact getF_setF_same _ _ _ _
  · rw [hport, ← hc, kport_setF, kport_updPort_same]
    rfl
  · rw [hport]
    rfl

theorem presence_refused {cable watts : Nat} (hp : p < 18) (hpresent : flagF s.body R.KLK_PORT_STATUS.present p = true) (hwatts : 15 < watts) :
    Runs (.cagePresenceStable p cable watts) s [.korrel, .regs] (fun b => flagF b R.KLK_PORT_STATUS.power_refused p = true
      ∧ portState b p = portState s.body p) := by
  obtain ⟨c, hc⟩ : ∃ c, setFlag (setF (updPort s.body p (fun pt => { pt with released := true })) R.KLK_PORT_STATUS.cable p cable)
      R.KLK_PORT_STATUS.power_refused p true = c := ⟨_, rfl⟩
  have hcw : Within [.korrel, .regs] [R.KLK_PORT_STATUS.cable, R.KLK_PORT_STATUS.power_refused] s.body c := by
    rw [← hc]
    constructor <;> simp (disch := decide)
  have hw := notePorts_within c
  have hx : presenceStable p cable watts s.body = notePorts c := by
    unfold presenceStable
    simp only [hpresent, hc, Bool.not_true, Bool.false_eq_true, if_false, if_pos hwatts]
  refine runs_of_lift (f := presenceStable p cable watts) (lift_of_onUnit (decide_eq_true hp)) hx (hcw.only.trans (hw.only.widen (by decide)))
    ⟨?_, (hw.portState_eq (by decide) p).trans (hcw.portState_eq (by decide) p)⟩
  rw [hw.flagF_eq (by decide) (by decide), ← hc]
  exact flagF_setFlag_same _ _ _ _ (by decide)

/-- A control flit of this port is among what has gone out. -/
def Said (p n : Nat) (b : Body) : Prop := ∃ k a0 a1 cs, .korrel p k a0 a1 cs ∈ b.sent ∧ k.ftype = 3 ∧ k.body.head? = some n

theorem hopFlit_said (p n : Nat) (credits : List Nat) (b c : Body) : Said p n (hopFlit p 3 (ctlBody c p n credits) b) :=
  ⟨_, _, _, _, List.mem_cons_self, rfl, rfl⟩

theorem sendTrainId_shows (p : Nat) (b : Body) : Within [.korrel, .sent] [] b (sendTrainId p b) ∧ Said p 1 (sendTrainId p b)
    ∧ kport (sendTrainId p b) p = { kport b p with idSent := true } := by
  unfold sendTrainId
  refine ⟨((updPort_within p _ b).mono (by decide) (by decide)).trans ((hopFlit_within _ _ _ _).mono (by decide) (by decide)), hopFlit_said _ _ _ _ _, ?_⟩
  rw [kport_hopFlit, kport_updPort_same]

theorem lane_locked {pol : Nat} {rev : Bool} (hp : p < 18) (hpol : pol < 16) (hstate : portState s.body p = 1) :
    Runs (.korrelLaneLock p pol rev true) s [.korrel, .regs, .sent] (fun b => getF b R.KLK_PORT_STATUS.polarity p = pol
      ∧ flagF b R.KLK_PORT_STATUS.reversed p = rev ∧ (kport b p).locked = true ∧ (kport b p).idSent = true ∧ Said p 1 b
      ∧ RegsBut [R.KLK_PORT_STATUS.polarity, R.KLK_PORT_STATUS.reversed] p s.body b) := by
  obtain ⟨c, hc⟩ : ∃ c, updPort (setFlag (setF s.body R.KLK_PORT_STATUS.polarity p pol) R.KLK_PORT_STATUS.reversed p rev) p
      (fun pt => { pt with locked := true }) = c := ⟨_, rfl⟩
  have hx : laneLock p pol rev true s.body = sendTrainId p c := by
    unfold laneLock
    simp only [hstate, hc, and_self, if_true]
  obtain ⟨hw, hsaid, hport⟩ := sendTrainId_shows p c
  have hfits : pol < 2 ^ R.KLK_PORT_STATUS.polarity.width := hpol
  refine runs_of_lift (f := laneLock p pol rev true) (lift_of_onUnit (decide_eq_true hp)) hx ?_ ⟨?_, ?_, ?_, ?_, hsaid, ?_⟩
  · have hcw : Only [.korrel, .regs, .sent] s.body c := by
      rw [← hc]
      simp (disch := decide)
    exact hcw.trans (hw.only.widen (by decide))
  · rw [hw.getF_eq (by decide) (by decide), ← hc, getF_updPort, getF_setFlag_other _ _ (by decide) (by decide) (by decide)]
    exact getF_setF_fits hfits
  · rw [hw.flagF_eq (by decide) (by decide), ← hc, flagF_updPort]
    exact flagF_setFlag_same _ _ _ _ (by decide)
  · rw [hport, ← hc, kport_updPort_same]
  · rw [hport]
  · have hbase : RegsBut [R.KLK_PORT_STATUS.polarity, R.KLK_PORT_STATUS.reversed] p s.body c := by
      rw [← hc]
      simp (disch := decide)
    exact fun f j hf hn => (hw.fields f j hf List.not_mem_nil).trans (hbase f j hf hn)

theorem lane_failed {pol : Nat} {rev : Bool} (hp : p < 18) (hstate : portState s.body p = 1) (hlosses : (kport s.body p).losses = [])
    (hwait : (kport s.body p).waiting = []) (h0 : (kport s.body p).s0.unacked = []) (h1 : (kport s.body p).s1.unacked = []) :
    Runs (.korrelLaneLock p pol rev false) s [.korrel, .regs, .host, .sent, .reports] (fun b => portState b p = 3
      ∧ (∀ q, q ≠ p → portState b q = portState s.body q) ∧ getF b R.KLK_PORT_LOSS.cause p = 3 ∧ .port p ∈ b.reports) := by
  have hdead : portUp s.body p = false := by
    unfold portUp
    rw [show getF s.body R.KLK_PORT_STATUS.state p = 1 from hstate]
    rfl
  have hx : laneLock p pol rev false s.body = lostOnce p 3 s.body := by
    unfold laneLock
    simp only [hstate, Bool.false_eq_true, and_false, if_false, if_true]
    exact portLost_once (by decide) (.inr hstate) (.inl hdead) hlosses h0 h1 hwait
  obtain ⟨hw, hthree, hothers, hcause, -, -, hreports, -⟩ := lostOnce_shows (p := p) (cause := 3) (b := s.body) (by decide) (by omega)
  refine runs_of_lift (f := laneLock p pol rev false) (lift_of_onUnit (decide_eq_true hp)) hx hw.only ⟨hthree, hothers, hcause, ?_⟩
  rw [hreports]
  exact List.mem_append_right _ (List.mem_singleton.mpr rfl)

/-! ## The identities are exchanged (R257, R277, R278) -/

/-- The body that has noted what the far end says of itself (R277, R278). -/
def peerNoted (p : Nat) (t : TrainBody) (b : Body) : Body :=
  let b := setF b R.KLK_PORT_PEER.peer_id p t.peerId
  let b := setF b R.KLK_PORT_PEER.peer_kind p t.peerKind
  let b := setF b R.KLK_PORT_PEER.peer_port p t.peerPort
  let b := setFlag b R.KLK_PORT_PEER.valid p true
  forEach (List.range 8) (fun v b => setF b R.KLK_PORT_CREDIT.announced (creditIx p v) (t.credits.getD v 0)) b

/-- The fields that an identity writes. -/
def peerFields : List Field :=
  [R.KLK_PORT_PEER.peer_id, R.KLK_PORT_PEER.peer_kind, R.KLK_PORT_PEER.peer_port, R.KLK_PORT_PEER.valid, R.KLK_PORT_CREDIT.announced]

theorem peerNoted_shows {t : TrainBody} (hpeer : t.peerId < 16384) (b : Body) : Within [.regs] peerFields b (peerNoted p t b)
    ∧ getF (peerNoted p t b) R.KLK_PORT_PEER.peer_id p = t.peerId ∧ flagF (peerNoted p t b) R.KLK_PORT_PEER.valid p = true := by
  have hannounce : ∀ c, Within [.regs] [R.KLK_PORT_CREDIT.announced] c
      (forEach (List.range 8) (fun v b => setF b R.KLK_PORT_CREDIT.announced (creditIx p v) (t.credits.getD v 0)) c) := fun c =>
    (Within.refl _ _ c).forEach fun v _ d => setF_within _ _ d (by decide) (by decide) (by decide)
  have hfits : t.peerId < 2 ^ R.KLK_PORT_PEER.peer_id.width := hpeer
  unfold peerNoted
  simp only []
  refine ⟨Within.trans (c := setFlag _ R.KLK_PORT_PEER.valid p true) ?_ ((hannounce _).mono (by decide) (by decide)), ?_, ?_⟩
  · constructor <;> simp (disch := decide)
  · rw [(hannounce _).getF_eq (by decide) (by decide), getF_setFlag_other _ _ (by decide) (by decide) (by decide),
      getF_setF_other _ _ (by decide) (by decide) (by decide), getF_setF_other _ _ (by decide) (by decide) (by decide)]
    exact getF_setF_fits hfits
  · rw [(hannounce _).flagF_eq (by decide) (by decide)]
    exact flagF_setFlag_same _ _ _ _ (by decide)

/-- What a module does with the far end's identity while its port trains. -/
theorem trainId_eq {t : TrainBody} {b : Body} (hpeer : t.peerId < 16384) (hstate : portState b p = 1) (hlocked : (kport b p).locked = true) :
    trainId p t b = if cabledRight b p t then
        if min t.levelHi (getF b R.KLK_DIE_ID.level_max (portDie p)) < t.levelLo
            ∨ min t.levelHi (getF b R.KLK_DIE_ID.level_max (portDie p)) < getF b R.KLK_DIE_ID.level_min (portDie p) then setPortState p 5 (peerNoted p t b)
        else
          let c := updPort (peerNoted p t b) p (fun pt => { pt with level := min t.levelHi (getF b R.KLK_DIE_ID.level_max (portDie p)) })
          let c := if (kport c p).idSent then c else sendTrainId p c
          let c := hopFlit p 3 (ctlBody c p 2 []) (updPort c p (fun pt => { pt with idSeen := true, doneSent := true }))
          if (kport c p).doneSeen then bringUp p c else c
      else report (.miscabled p) (setPortState p 4 (peerNoted p t b)) := by
  obtain ⟨hw, -, -⟩ := peerNoted_shows (p := p) hpeer b
  obtain ⟨c, hc⟩ : ∃ c, peerNoted p t b = c := ⟨_, rfl⟩
  rw [hc] at hw
  have hmax : getF c R.KLK_DIE_ID.level_max (portDie p) = getF b R.KLK_DIE_ID.level_max (portDie p) := hw.getF_eq (by decide) (by decide) _
  have hmin : getF c R.KLK_DIE_ID.level_min (portDie p) = getF b R.KLK_DIE_ID.level_min (portDie p) := hw.getF_eq (by decide) (by decide) _
  have hgo : ¬ (portState b p ≠ 1 ∨ (!(kport b p).locked) = true) := by simp [hstate, hlocked]
  rw [hc, ← hmax, ← hmin]
  unfold trainId
  rw [if_neg hgo, ← hc]
  cases cabledRight b p t <;> rfl

theorem train_agrees {t : TrainBody} (hp : p < 18) (hstate : portState s.body p = 1) (hlocked : (kport s.body p).locked = true) (hpeer : t.peerId < 16384)
    (hright : cabledRight s.body p t = true) (hlo : t.levelLo ≤ min t.levelHi (getF s.body R.KLK_DIE_ID.level_max (portDie p)))
    (hhi : getF s.body R.KLK_DIE_ID.level_min (portDie p) ≤ min t.levelHi (getF s.body R.KLK_DIE_ID.level_max (portDie p)))
    (hsent : (kport s.body p).idSent = true) (hdone : (kport s.body p).doneSeen = false) : Runs (.trainId p t) s [.korrel, .regs, .sent] (fun b =>
      (kport b p).level = min t.levelHi (getF s.body R.KLK_DIE_ID.level_max (portDie p)) ∧ getF b R.KLK_PORT_PEER.peer_id p = t.peerId
        ∧ flagF b R.KLK_PORT_PEER.valid p = true ∧ (kport b p).idSeen = true ∧ portState b p = 1 ∧ Said p 2 b) := by
  have hx := trainId_eq (p := p) hpeer hstate hlocked
  obtain ⟨hw, hid, hvalid⟩ := peerNoted_shows (p := p) hpeer s.body
  obtain ⟨c, hc⟩ : ∃ c, peerNoted p t s.body = c := ⟨_, rfl⟩
  rw [hc] at hw hid hvalid hx
  have hport : kport c p = kport s.body p := hw.kport_eq (by decide) p
  generalize min t.levelHi (getF s.body R.KLK_DIE_ID.level_max (portDie p)) = lv at hx hlo hhi ⊢
  rw [if_pos hright, if_neg (by omega)] at hx
  simp only [kport_updPort_same, hport, hsent, kport_hopFlit, hdone, Bool.false_eq_true, if_false, if_true] at hx
  refine runs_of_lift (f := trainId p t) (lift_of_onUnit (decide_eq_true hp)) hx ?_ ⟨?_, hid, hvalid, ?_, ?_, hopFlit_said _ _ _ _ _⟩
  · have hcw : Only [.korrel, .regs, .sent] s.body c := hw.only.widen (by decide)
    exact Only.trans (by simp (disch := decide) [hcw]) ((hopFlit_within _ _ _ _).only.widen (by decide))
  · rw [kport_hopFlit, kport_updPort_same, kport_updPort_same]
  · rw [kport_hopFlit, kport_updPort_same]
  · exact (hw.portState_eq (by decide) p).trans hstate

theorem train_noLevel {t : TrainBody} (hp : p < 18) (hstate : portState s.body p = 1) (hlocked : (kport s.body p).locked = true) (hpeer : t.peerId < 16384)
    (hright : cabledRight s.body p t = true) (hno : ¬ (t.levelLo ≤ min t.levelHi (getF s.body R.KLK_DIE_ID.level_max (portDie p))
      ∧ getF s.body R.KLK_DIE_ID.level_min (portDie p) ≤ min t.levelHi (getF s.body R.KLK_DIE_ID.level_max (portDie p)))) :
    Runs (.trainId p t) s [.regs] (fun b => portState b p = 5 ∧ ∀ q, q ≠ p → portState b q = portState s.body q) := by
  have hx := trainId_eq (p := p) hpeer hstate hlocked
  obtain ⟨hw, -, -⟩ := peerNoted_shows (p := p) hpeer s.body
  rw [if_pos hright, if_pos (by omega)] at hx
  refine runs_of_lift (f := trainId p t) (lift_of_onUnit (decide_eq_true hp)) hx (hw.only.trans (setPortState_within p 5 _).only)
    ⟨portState_setPortState (by decide) _, fun q hq => ?_⟩
  exact (portState_setPortState_ne _ hq _).trans (hw.portState_eq (by decide) q)

theorem train_miscabled {t : TrainBody} (hp : p < 18) (hstate : portState s.body p = 1) (hlocked : (kport s.body p).locked = true) (hpeer : t.peerId < 16384)
    (hwrong : cabledRight s.body p t = false) : Runs (.trainId p t) s [.regs, .reports] (fun b => portState b p = 4
      ∧ (∀ q, q ≠ p → portState b q = portState s.body q) ∧ b.reports = s.body.reports ++ [.miscabled p]) := by
  have hx := trainId_eq (p := p) hpeer hstate hlocked
  obtain ⟨hw, -, -⟩ := peerNoted_shows (p := p) hpeer s.body
  have hset := setPortState_within p 4 (peerNoted p t s.body)
  rw [hwrong] at hx
  refine runs_of_lift (f := trainId p t) (lift_of_onUnit (decide_eq_true hp)) hx ?_ ⟨portState_setPortState (by decide) _, fun q hq => ?_, ?_⟩
  · have hall : Only [.regs, .reports] s.body (setPortState p 4 (peerNoted p t s.body)) := (hw.only.trans hset.only).widen (by decide)
    simp (disch := decide) [hall]
  · exact (portState_setPortState_ne _ hq _).trans (hw.portState_eq (by decide) q)
  · show (setPortState p 4 (peerNoted p t s.body)).reports ++ _ = _
    rw [hset.same (p := .reports) (by decide), hw.same (p := .reports) (by decide)]

/-! ## The port comes up (R278, R279) -/

/-- A port as it comes up. -/
def broughtUp (again : Bool) (now : Nat) (pt : KorPort) : KorPort :=
  { pt with s0 := KStream.reset, s1 := KStream.reset, sent := [], freed := [], lastField := [], turn := 0, quota := 0, traffic := !again, upBefore := true, cleanSince := now }

/-- One VC's credit at the announced value. -/
def announceCredit (p v : Nat) (b : Body) : Body := setF b R.KLK_PORT_CREDIT.held (creditIx p v) (getF b R.KLK_PORT_CREDIT.announced (creditIx p v))

theorem announceCredit_within (p v : Nat) (b : Body) : Within [.regs] [R.KLK_PORT_CREDIT.held] b (announceCredit p v b) :=
  setF_within _ _ b (by decide) (by decide) (by decide)

theorem announceCredits_held {v : Nat} (l : List Nat) (b : Body) : getF (forEach l (announceCredit p) b) R.KLK_PORT_CREDIT.held (p * 8 + v)
    = if v ∈ l then getF b R.KLK_PORT_CREDIT.announced (p * 8 + v) % 2 ^ 11 else getF b R.KLK_PORT_CREDIT.held (p * 8 + v) := by
  induction l generalizing b with
  | nil => rfl
  | cons w l ih =>
    rw [forEach_cons, ih, (announceCredit_within p w b).getF_eq (by decide) (by decide)]
    by_cases hv : v ∈ l
    · rw [if_pos hv, if_pos (List.mem_cons_of_mem _ hv)]
    · rw [if_neg hv]
      by_cases hw : v = w
      · subst hw
        rw [if_pos List.mem_cons_self]
        exact getF_setF_same _ _ _ _
      · rw [if_neg (by simp [hv, hw])]
        have hix : p * 8 + v ≠ creditIx p w := by
          unfold creditIx
          omega
        exact getF_setF_instance _ _ _ _ _ hix

/-- The body of a port that comes up, before its state changes. -/
def upBody (p : Nat) (b : Body) : Body :=
  let c := updPort (forEach (List.range 8) (announceCredit p) b) p (broughtUp (kport b p).upBefore (forEach (List.range 8) (announceCredit p) b).now)
  if (pairOfPort p).isNone then { c with korrel := { c.korrel with everUp := true } } else c

theorem upBody_shows (p : Nat) (b : Body) : Within [.korrel, .regs] [R.KLK_PORT_CREDIT.held] b (upBody p b) ∧ kport (upBody p b) p = broughtUp (kport b p).upBefore (forEach (List.range 8) (announceCredit p) b).now (kport b p)
    ∧ ∀ v, v < 8 → getF (upBody p b) R.KLK_PORT_CREDIT.held (p * 8 + v) = getF b R.KLK_PORT_CREDIT.announced (p * 8 + v) % 2 ^ 11 := by
  have hcredit : Within [.regs] [R.KLK_PORT_CREDIT.held] b (forEach (List.range 8) (announceCredit p) b) :=
    (Within.refl _ _ b).forEach fun v _ c => announceCredit_within p v c
  obtain ⟨c, hc⟩ : ∃ c, updPort (forEach (List.range 8) (announceCredit p) b) p (broughtUp (kport b p).upBefore (forEach (List.range 8) (announceCredit p) b).now) = c := ⟨_, rfl⟩
  have hcw : Within [.korrel, .regs] [R.KLK_PORT_CREDIT.held] b c :=
    hc ▸ (hcredit.mono (by decide) (by decide)).trans ((updPort_within p _ _).mono (by decide) (by decide))
  have hport : kport c p = broughtUp (kport b p).upBefore (forEach (List.range 8) (announceCredit p) b).now (kport b p) := by
    rw [← hc, kport_updPort_same, hcredit.kport_eq (by decide)]
  have hheld : ∀ v, v < 8 → getF c R.KLK_PORT_CREDIT.held (p * 8 + v) = getF b R.KLK_PORT_CREDIT.announced (p * 8 + v) % 2 ^ 11 := fun v hv => by
    rw [← hc, getF_updPort, announceCredits_held, if_pos (List.mem_range.mpr hv)]
  have hever : Within [.korrel, .regs] [R.KLK_PORT_CREDIT.held] c { c with korrel := { c.korrel with everUp := true } } :=
    ⟨fun q => by cases q <;> first | exact .inl (by decide) | exact .inr rfl, fun _ _ _ _ => rfl⟩
  unfold upBody
  simp only [hc]
  split
  · exact ⟨hcw.trans hever, hport, hheld⟩
  · exact ⟨hcw, hport, hheld⟩

theorem bringUp_eq {b : Body} (hwait : (kport b p).waiting = []) :
    bringUp p b = setPortState p 2 (setF (upBody p b) R.KLK_PORT_STATUS.level p (kport b p).level) := by
  obtain ⟨-, hport, -⟩ := upBody_shows p b
  have hsame : (kport (setPortState p 2 (setF (upBody p b) R.KLK_PORT_STATUS.level p (kport (upBody p b) p).level)) p).waiting = [] := by
    rw [(setPortState_within p 2 _).kport_eq (by decide), kport_setF, hport]
    exact hwait
  have hx : bringUp p b = drainPort p ((kport (setPortState p 2 (setF (upBody p b) R.KLK_PORT_STATUS.level p (kport (upBody p b) p).level)) p).waiting.length)
      (setPortState p 2 (setF (upBody p b) R.KLK_PORT_STATUS.level p (kport (upBody p b) p).level)) := rfl
  rw [hx, hsame, hport]
  rfl

theorem train_done (hp : p < 18) (hstate : portState s.body p = 1) (hseen : (kport s.body p).idSeen = true) (hwait : (kport s.body p).waiting = []) :
    Runs (.trainDone p) s [.korrel, .regs] (fun b => portState b p = 2 ∧ (∀ q, q ≠ p → portState b q = portState s.body q)
      ∧ getF b R.KLK_PORT_STATUS.level p = (kport s.body p).level % 2 ^ R.KLK_PORT_STATUS.level.width
      ∧ (kport b p).traffic = !(kport s.body p).upBefore ∧ (kport b p).s0 = KStream.reset ∧ (kport b p).s1 = KStream.reset
      ∧ ∀ v, v < 8 → getF b R.KLK_PORT_CREDIT.held (p * 8 + v) = getF s.body R.KLK_PORT_CREDIT.announced (p * 8 + v) % 2 ^ 11) := by
  obtain ⟨c, hc⟩ : ∃ c, updPort s.body p (fun pt => { pt with doneSeen := true }) = c := ⟨_, rfl⟩
  have hcw : Within [.korrel] [] s.body c := hc ▸ updPort_within p _ _
  have hcport : kport c p = { kport s.body p with doneSeen := true } := by rw [← hc, kport_updPort_same]
  have hx : trainDone p s.body = setPortState p 2 (setF (upBody p c) R.KLK_PORT_STATUS.level p (kport c p).level) := by
    unfold trainDone
    simp only [hstate, ne_eq, not_true_eq_false, if_false, hc]
    rw [if_pos (by rw [hcport]; exact hseen)]
    exact bringUp_eq (by rw [hcport]; exact hwait)
  obtain ⟨huw, hport, hheld⟩ := upBody_shows p c
  have hset := setPortState_within p 2 (setF (upBody p c) R.KLK_PORT_STATUS.level p (kport c p).level)
  have hend : kport (setPortState p 2 (setF (upBody p c) R.KLK_PORT_STATUS.level p (kport c p).level)) p = broughtUp (kport c p).upBefore (forEach (List.range 8) (announceCredit p) c).now (kport c p) := by
    rw [hset.kport_eq (by decide), kport_setF, hport]
  refine runs_of_lift (f := trainDone p) (lift_of_onUnit (decide_eq_true hp)) hx ?_ ⟨portState_setPortState (by decide) _, fun q hq => ?_, ?_, ?_, ?_, ?_,
    fun v hv => ?_⟩
  · have hall : Only [.korrel, .regs] s.body (upBody p c) := (hcw.only.widen (by decide)).trans huw.only
    exact Only.trans (by simp (disch := decide) [hall]) (hset.only.widen (by decide))
  · rw [portState_setPortState_ne _ hq]
    unfold portState
    rw [getF_setF_other _ _ (by decide) (by decide) (by decide)]
    exact (huw.portState_eq (by decide) q).trans (hcw.portState_eq (by decide) q)
  · rw [hset.getF_eq (by decide) (by decide), getF_setF_same, hcport]
  · rw [hend, hcport]
    rfl
  · rw [hend]
    rfl
  · rw [hend]
    rfl
  · rw [hset.getF_eq (by decide) (by decide), getF_setF_other _ _ (by decide) (by decide) (by decide), hheld v hv, hcw.getF_eq (by decide) (by decide)]

theorem train_repeated (hp : p < 18) (hstate : portState s.body p = 1) (hlocked : (kport s.body p).locked = true) (hseen : (kport s.body p).idSeen = false) :
    Runs (.trainIdRepeat p) s [.korrel, .sent] (fun b => Said p 1 b) := by
  have hx : trainRepeat p s.body = sendTrainId p s.body := if_pos ⟨hstate, hlocked, by rw [hseen]; rfl⟩
  obtain ⟨hw, hsaid, -⟩ := sendTrainId_shows p s.body
  exact runs_of_lift (f := trainRepeat p) (lift_of_onUnit (decide_eq_true hp)) hx hw.only hsaid

theorem port_retrains (hp : p < 18) (hstate : portState s.body p = 3) (hpresent : flagF s.body R.KLK_PORT_STATUS.present p = true)
    (hen : flagF s.body R.KLK_PORT_CTRL.enable p = true) : Runs (.portRetrainTimer p) s [.korrel, .regs] (fun b => portState b p = 1
      ∧ (∀ q, q ≠ p → portState b q = portState s.body q) ∧ (kport b p).idSeen = false ∧ flagF b R.KLK_PORT_PEER.valid p = false) := by
  obtain ⟨hw, hone, hothers, hport, hvalid⟩ := startTraining_shows p s.body
  refine runs_of_lift (f := retrainTimer p) (lift_of_onUnit (decide_eq_true hp)) (if_pos ⟨hstate, hpresent, hen⟩) hw.only ⟨hone, hothers, ?_, hvalid⟩
  rw [hport]
  rfl

theorem traffic_enabled (hp : p < 18) (hstate : portState s.body p = 2) (hwait : (kport s.body p).waiting = []) : Runs (.portTrafficEnable p) s [.korrel] (fun b =>
    kport b p = { kport s.body p with traffic := true } ∧ ∀ q, q ≠ p → kport b q = kport s.body q) := by
  have hx : trafficEnable p s.body = updPort s.body p (fun pt => { pt with traffic := true }) := by
    unfold trafficEnable
    rw [if_pos (portUp_iff.mpr hstate)]
    simp only [kport_updPort_same, hwait]
    rfl
  exact runs_of_lift (f := trafficEnable p) (lift_of_onUnit (decide_eq_true hp)) hx (updPort_within p _ _).only
    ⟨kport_updPort_same _ _ _, fun q hq => kport_updPort_ne _ _ _ _ hq⟩

/-! ## KLK_PORT_CTRL.retrain (R279, R296) -/

/-- A port that has failed is down again once firmware retrains it. -/
def unfailed (p : Nat) (b : Body) : Body :=
  let c := updPort b p (fun pt => { pt with losses := [] })
  if portState c p = 6 then setPortState p 0 c else c

theorem unfailed_shows (p : Nat) (b : Body) : Within [.korrel, .regs] portFields b (unfailed p b) ∧ kport (unfailed p b) p = { kport b p with losses := [] }
    ∧ portState (unfailed p b) p = (if portState b p = 6 then 0 else portState b p) ∧ ∀ q, q ≠ p → portState (unfailed p b) q = portState b q := by
  obtain ⟨c, hc⟩ : ∃ c, updPort b p (fun pt => { pt with losses := [] }) = c := ⟨_, rfl⟩
  have hcw : Within [.korrel, .regs] portFields b c := hc ▸ (updPort_within p _ b).mono (by decide) (by decide)
  have hport : kport c p = { kport b p with losses := [] } := by rw [← hc, kport_updPort_same]
  have hstates : ∀ q, portState c q = portState b q := fun q => hc ▸ (updPort_within p _ b).portState_eq (by decide) q
  have hset := setPortState_within p 0 c
  unfold unfailed
  simp only [hc, hstates]
  split
  · exact ⟨hcw.trans (hset.mono (by decide) (by decide)), (hset.kport_eq (by decide) p).trans hport, portState_setPortState (by decide) _,
      fun q hq => (portState_setPortState_ne _ hq _).trans (hstates q)⟩
  · exact ⟨hcw, hport, hstates p, fun q _ => hstates q⟩

theorem retrain_starts (hp : p < 18) (hpresent : flagF s.body R.KLK_PORT_STATUS.present p = true)
    (hpower : flagF s.body R.KLK_PORT_STATUS.power_refused p = false) (hen : flagF s.body R.KLK_PORT_CTRL.enable p = true)
    (hjoined : isolated s.body = false) (h0 : (kport s.body p).s0.unacked = []) (h1 : (kport s.body p).s1.unacked = [])
    (hwait : (kport s.body p).waiting = []) : Runs (.klkPortRetrain p) s [.korrel, .regs] (fun b => portState b p = 1
      ∧ (∀ q, q ≠ p → portState b q = portState s.body q) ∧ (kport b p).losses = []) := by
  obtain ⟨huw, huport, hustate, huothers⟩ := unfailed_shows p s.body
  have hfailed : portState (unfailed p s.body) p ≠ 6 := by
    rw [hustate]
    split <;> omega
  obtain ⟨hdw, -, hdothers, hdport, -⟩ := portStopped_shows (p := p) (st := 1) (b := unfailed p s.body) (by decide) hfailed
  obtain ⟨htw, hone, htothers, htport, -⟩ := startTraining_shows p (portStopped p 1 (unfailed p s.body))
  have hx : portRetrain p s.body = startTraining p (portStopped p 1 (unfailed p s.body)) := by
    rw [← portDown_stops (st := 1) (by rw [huport]; exact h0) (by rw [huport]; exact h1) (by rw [huport]; exact hwait)]
    unfold portRetrain
    simp only [hpresent, hpower, hen, hjoined, Bool.not_false, Bool.and_self, if_true]
    rfl
  refine runs_of_lift (f := portRetrain p) (lift_of_onUnit (decide_eq_true hp)) hx ((huw.only.trans hdw.only).trans htw.only)
    ⟨hone, fun q hq => (htothers q hq).trans ((hdothers q hq).trans (huothers q hq)), ?_⟩
  rw [htport, hdport, huport]
  rfl

theorem retrain_refused (hp : p < 18) (hno : flagF s.body R.KLK_PORT_CTRL.enable p = false ∨ isolated s.body = true) :
    Runs (.klkPortRetrain p) s [.korrel, .regs] (fun b => portState b p = (if portState s.body p = 6 then 0 else portState s.body p)
      ∧ (∀ q, q ≠ p → portState b q = portState s.body q) ∧ (kport b p).losses = []) := by
  obtain ⟨huw, huport, hustate, huothers⟩ := unfailed_shows p s.body
  have hx : portRetrain p s.body = unfailed p s.body := by
    unfold portRetrain
    simp only []
    rw [if_neg (by rcases hno with h | h <;> simp [h])]
    rfl
  refine runs_of_lift (f := portRetrain p) (lift_of_onUnit (decide_eq_true hp)) hx huw.only ⟨hustate, huothers, ?_⟩
  rw [huport]

theorem port_lost {q : Nat} (hp : p < 18) (hstate : portState s.body p = 2) (hnotices : s.body.korrel.notices = []) (hpair : pairOfPort p = none)
    (hq : q ∈ switchPorts) (hne : q ≠ p) (hqup : portUp s.body q = true) (hlosses : (kport s.body p).losses = []) (hwait : (kport s.body p).waiting = [])
    (h0 : (kport s.body p).s0.unacked = []) (h1 : (kport s.body p).s1.unacked = []) :
    ∀ c ∈ [(Instr.korrelPortSilence p, 1), (.korrelLossOfLock p, 3)], Runs c.1 s [.korrel, .regs, .host, .sent, .reports] (fun b =>
      portState b p = 3 ∧ (∀ q, q ≠ p → portState b q = portState s.body q) ∧ getF b R.KLK_PORT_LOSS.cause p = c.2 ∧ (kport b p).losses = [s.body.now]
        ∧ getF b R.KLK_PORT_LOSS.count p = min (getF s.body R.KLK_PORT_LOSS.count p + 1) 255
        ∧ b.reports = s.body.reports ++ [.port p] ∧ bit (getF b R.IRQ_CAUSE.cause 0) 28 = true) := by
  have hone : ∀ {cause}, cause < 4 → portLost p cause s.body = lostOnce p cause s.body := fun hc =>
    portLost_once hc (.inl hstate) (.inr ⟨hpair, hnotices, q, hq, hne, hqup⟩) hlosses h0 h1 hwait
  intro c hc
  rcases List.mem_cons.mp hc with rfl | hc
  · obtain ⟨hw, hthree, hothers, hcause, hls, hcount, hreports, hvec, -⟩ := lostOnce_shows (p := p) (cause := 1) (b := s.body) (by decide) (by omega)
    exact runs_of_lift (f := portLost p 1) (lift_of_onUnit (decide_eq_true hp)) (hone (by decide)) hw.only ⟨hthree, hothers, hcause, hls, hcount, hreports, hvec⟩
  · obtain rfl := List.mem_singleton.mp hc
    obtain ⟨hw, hthree, hothers, hcause, hls, hcount, hreports, hvec, -⟩ := lostOnce_shows (p := p) (cause := 3) (b := s.body) (by decide) (by omega)
    exact runs_of_lift (f := portLost p 3) (lift_of_onUnit (decide_eq_true hp)) (hone (by decide)) hw.only ⟨hthree, hothers, hcause, hls, hcount, hreports, hvec⟩

theorem cable_removed (hp : p < 18) (hpresent : flagF s.body R.KLK_PORT_STATUS.present p = true) (hstate : portState s.body p = 0) :
    Runs (.cageCableRemove p) s [.korrel, .regs] (fun b => flagF b R.KLK_PORT_STATUS.present p = false ∧ portState b p = 0
      ∧ (∀ q, q ≠ p → portState b q = portState s.body q) ∧ (kport b p).released = false) := by
  obtain ⟨c, hc⟩ : ∃ c, updPort (setF (setFlag (setFlag s.body R.KLK_PORT_STATUS.present p false) R.KLK_PORT_STATUS.power_refused p false)
      R.KLK_PORT_STATUS.cable p 0) p (fun pt => { pt with released := false, locked := false }) = c := ⟨_, rfl⟩
  have hcw : Within [.korrel, .regs] [R.KLK_PORT_STATUS.present, R.KLK_PORT_STATUS.power_refused, R.KLK_PORT_STATUS.cable] s.body c := by
    rw [← hc]
    constructor <;> simp (disch := decide)
  have hcs : portState c p = 0 := (hcw.portState_eq (by decide) p).trans hstate
  have hset := setPortState_within p 0 c
  have hx : cableRemove p s.body = setPortState p 0 c := by
    have hno : portLost p 3 s.body = s.body := if_pos ⟨by omega, by omega⟩
    unfold cableRemove
    simp only [hpresent, Bool.not_true, Bool.false_eq_true, if_false, hno, hc]
    exact if_neg (by omega)
  refine runs_of_lift (f := cableRemove p) (lift_of_onUnit (decide_eq_true hp)) hx (hcw.only.trans (hset.only.widen (by decide)))
    ⟨?_, portState_setPortState (by decide) _, fun q hq => (portState_setPortState_ne _ hq _).trans (hcw.portState_eq (by decide) q), ?_⟩
  · rw [hset.flagF_eq (by decide) (by decide), ← hc, flagF_updPort]
    unfold flagF
    rw [getF_setF_other _ _ (by decide) (by decide) (by decide), getF_setFlag_other _ _ (by decide) (by decide) (by decide)]
    exact flagF_setFlag_same s.body R.KLK_PORT_STATUS.present p false (by decide)
  · rw [hset.kport_eq (by decide), ← hc, kport_updPort_same]

end Training

/-- Settles O41: each step of a port from its cable to up, and its loss, by its own lemma. -/
theorem korrelPorts : Obligations.KorrelPorts := by
  intro p s hp b0 k0 state die present enabled said others
  refine ⟨?insert, ?stable, ?power, ?lock, ?noLock, ?failed, ?train, ?done, ?again, ?retrainTimer, ?traffic, ?retrain, ?held, ?lost, ?remove, ?cage⟩
  case insert => exact cable_inserted hp
  case stable => exact fun cable watts hpresent hwatts hstate hen => presence_trains hp hpresent hwatts hstate hen
  case power => exact fun cable watts hpresent hwatts => presence_refused hp hpresent hwatts
  case lock => exact fun pol rev hpol hstate => lane_locked hp hpol hstate
  case noLock =>
    intro pol rev ok hstate
    have hx : laneLock p pol rev ok s.body = s.body := by
      unfold laneLock
      rw [if_neg fun h => hstate h.1, if_neg hstate]
    exact runs_same (f := laneLock p pol rev ok) (lift_of_onUnit (decide_eq_true hp)) hx
  case failed => exact fun pol rev hstate hlosses hwait h0 h1 => lane_failed hp hstate hlosses hwait h0 h1
  case train => exact fun hstate hlocked t hpeer =>
    ⟨fun hright hboth hsent hdone => train_agrees hp hstate hlocked hpeer hright hboth.1 hboth.2 hsent hdone,
      fun hright hno => train_noLevel hp hstate hlocked hpeer hright hno, fun hwrong => train_miscabled hp hstate hlocked hpeer hwrong⟩
  case done => exact fun hstate hseen hwait => train_done hp hstate hseen hwait
  case again => exact fun hstate hlocked hseen => train_repeated hp hstate hlocked hseen
  case retrainTimer => exact fun hstate hpresent hen => port_retrains hp hstate hpresent hen
  case traffic => exact fun hstate hwait => traffic_enabled hp hstate hwait
  case retrain => exact fun hpresent hpower hen hjoined h0 h1 hwait => retrain_starts hp hpresent hpower hen hjoined h0 h1 hwait
  case held => exact fun hno => retrain_refused hp hno
  case lost => exact fun q hstate hnotices hpair hq hne hqup hlosses hwait h0 h1 => port_lost hp hstate hnotices hpair hq hne hqup hlosses hwait h0 h1
  case remove => exact fun hpresent hstate => cable_removed hp hpresent hstate
  case cage =>
    refine runs_of_lift (f := report (.cage p)) (lift_of_onUnit (decide_eq_true hp)) rfl ?_ rfl
    simp (disch := decide)

end Sys2Proof.Machine

/-! SUPPORT. Loss of a module, isolation, rejoin and routes (O42). -/

namespace Sys2Proof.Machine

section Probes

variable {m p : Nat} {s : State}

theorem probe_dropped {seq : Nat} (hp : p < 18) (hm : m < 16384) (hlost : flagF s.body R.KLK_ROUTE.lost m = true) : Runs (.korrelProbe p m seq) s [.regs] (fun b =>
    getF b R.KLK_LOSS_LOG.dropped (portDie p) = min (getF s.body R.KLK_LOSS_LOG.dropped (portDie p) + 1) (2 ^ 16 - 1)
      ∧ RegsBut [R.KLK_LOSS_LOG.dropped] (portDie p) s.body b) := by
  have hunit : (isPort p && isModule m) = true := by
    unfold isPort isModule
    rw [decide_eq_true hp, decide_eq_true hm]
    rfl
  refine runs_of_lift (f := probeIn p m seq) (lift_of_onUnit hunit) (if_pos hlost) ?_ ⟨getF_addSat_same _ _ _ _, ?_⟩
  · simp (disch := decide)
  · simp (disch := decide)

/-- A flit of VC0 handed to a port that may send it goes out at once (R269, R270). -/
theorem portSend_goes {k : KFlit} {b : Body} (hvc : k.vc = 0) (hlive : portLive b p = true) (hwait : (kport b p).waiting = [])
    (hroom : (kport b p).s0.unacked = []) (hcredit : 0 < getF b R.KLK_PORT_CREDIT.held (p * 8)) :
    Only [.korrel, .regs, .sent] b (portSend p k b)
      ∧ ∃ a0 a1 cs, (portSend p k b).sent = .korrel p { k with seq := (kport b p).s0.next } a0 a1 cs :: b.sent := by
  obtain ⟨c, hc⟩ : ∃ c, updPort b p (fun pt => { pt with waiting := pt.waiting ++ [k] }) = c := ⟨_, rfl⟩
  have hport : kport c p = { kport b p with waiting := [k] } := by
    rw [← hc, kport_updPort_same, hwait]
    rfl
  have hmay : maySend c p 0 = true := by
    have hlive' : portLive c p = true := by
      unfold portLive portUp at hlive ⊢
      rw [hport, ← hc]
      exact hlive
    have hcredit' : 0 < getF c R.KLK_PORT_CREDIT.held (creditIx p 0) := by
      rw [← hc]
      exact hcredit
    unfold maySend
    rw [hlive', decide_eq_true hcredit', hport]
    simp [KorPort.stream, hroom, bufferDepth]
  have hnext : nextWaiting c p = some k := by
    unfold nextWaiting serviceOrder
    rw [hport]
    simp only [List.cons_append, List.filter_cons_of_pos hmay, List.findSome?_cons, List.find?_cons, hvc]
    rfl
  obtain ⟨d, hd⟩ : ∃ d, updPort c p (fun pt => { pt with waiting := eraseFirst (fun x => x == k) pt.waiting }) = d := ⟨_, rfl⟩
  have hx : portSend p k b = transmit p k d := by
    unfold portSend
    simp only [hc, hport, List.length_singleton]
    rw [drainPort, hnext]
    simp only [hd, hvc]
    rfl
  have hstream : (kport d p).stream k.vc = (kport b p).s0 := by
    rw [← hd, kport_updPort_same, hport, hvc]
    rfl
  have hsent : d.sent = b.sent := by
    rw [← hd, ← hc]
    rfl
  have hdw : Only [.korrel, .regs, .sent] b d := by
    rw [← hd, ← hc]
    simp (disch := decide)
  rw [hx]
  refine ⟨?_, ?_⟩
  · unfold transmit putFlit
    simp (disch := decide) [hdw]
  · rw [← hsent, ← hstream]
    exact ⟨_, _, _, rfl⟩

theorem probe_answered {seq : Nat} (hp : p < 18) (hm : m < 16384) (hin : flagF s.body R.KLK_ROUTE.lost m = false) (hlive : portLive s.body p = true)
    (hwait : (kport s.body p).waiting = []) (hroom : (kport s.body p).s0.unacked = []) (hcredit : 0 < getF s.body R.KLK_PORT_CREDIT.held (p * 8)) :
    Runs (.korrelProbe p m seq) s [.korrel, .regs, .sent] (fun b => ∃ k a0 a1 cs, b.sent = .korrel p k a0 a1 cs :: s.body.sent
      ∧ k.ftype = 5 ∧ k.destModule = m ∧ k.srcModule = moduleIndex s.body ∧ k.body = [seq] ∧ k.seq = (kport s.body p).s0.next) := by
  have hunit : (isPort p && isModule m) = true := by
    unfold isPort isModule
    rw [decide_eq_true hp, decide_eq_true hm]
    rfl
  obtain ⟨k, hk⟩ : ∃ k : KFlit, { ftype := 5, vc := 0, seq := 0, destModule := m, srcModule := moduleIndex s.body, flit := none, body := [seq] } = k := ⟨_, rfl⟩
  have hx : probeIn p m seq s.body = portSend p k s.body := by
    unfold probeIn
    rw [hin, hlive, hk]
    rfl
  obtain ⟨honly, a0, a1, cs, hsent⟩ := portSend_goes (p := p) (k := k) (by rw [← hk]) hlive hwait hroom hcredit
  refine runs_of_lift (f := probeIn p m seq) (lift_of_onUnit hunit) hx honly ⟨_, a0, a1, cs, hsent, ?_⟩
  rw [← hk]
  exact ⟨rfl, rfl, rfl, rfl, rfl⟩

theorem probe_ended {seq : Nat} (hm : m < 16384) : Runs (.korrelProbeReply m seq) s [.korrel] (fun b =>
    (∀ q, q ∈ b.korrel.probes → ¬ (q.moduleIx = m ∧ q.seq = seq))
      ∧ (∀ q, q ∈ s.body.korrel.probes → ¬ (q.moduleIx = m ∧ q.seq = seq) → q ∈ b.korrel.probes) ∧ b.korrel.ports = s.body.korrel.ports) := by
  refine runs_of_lift (f := probeReply m seq) (lift_of_onUnit (decide_eq_true hm)) rfl ?_ ⟨fun q hq => ?_, fun q hq hne => ?_, rfl⟩
  · exact fun q => by cases q <;> first | exact .inl (by decide) | exact .inr rfl
  · have hno := (List.mem_filter.mp hq).2
    exact fun ⟨hmod, hseq⟩ => by simp [hmod, hseq] at hno
  · refine List.mem_filter.mpr ⟨hq, ?_⟩
    rw [Bool.not_eq_true', Bool.and_eq_false_iff, beq_eq_false_iff_ne, beq_eq_false_iff_ne]
    exact Decidable.not_and_iff_not_or_not.mp hne

end Probes

/-! ## The declaration of a loss (R285 to R288) -/

/-- The fields that a declared loss writes, but for the mark of the module. -/
def declareFields : List Field := workFields ++ [R.TLY_SEAT.seat, R.TLY_STROKE_STATUS.seat, R.MEM_MIR_CFG.enable, R.IRQ_CAUSE.cause,
  R.KLK_LOSS_LOG.moduleIx, R.KLK_LOSS_LOG.reason, R.KLK_LOSS_LOG.detector, R.KLK_LOSS_LOG.from_telegram, R.KLK_LOSS_LOG.dropped, R.KLK_LOSS_LOG.valid,
  R.KLK_LOSS_LOG.declarations]

/-- The parts that a declared loss changes. -/
def declareParts : List Part := .flock :: .memStacks :: workParts

/-- A step of a declared loss: what it may change, and this module's own HEADROOM as it was. -/
structure Declares (b c : Body) : Prop where
  within : Within declareParts declareFields b c
  own : c.flock.ownReport = b.flock.ownReport

namespace Declares

variable {b c d : Body}

theorem refl (b : Body) : Declares b b := ⟨.refl _ _ b, rfl⟩

theorem trans (h : Declares b c) (k : Declares c d) : Declares b d := ⟨h.within.trans k.within, k.own.trans h.own⟩

theorem of_within {ps : List Part} {fs : List Field} (h : Within ps fs b c) (hp : ps ⊆ declareParts) (hf : fs ⊆ declareFields) (hflock : Part.flock ∉ ps) :
    Declares b c := ⟨h.mono hp hf, congrArg Flock.ownReport (h.same (p := .flock) hflock)⟩

theorem of_work (h : Within workParts workFields b c) : Declares b c := of_within h (List.subset_cons_of_subset _ (List.subset_cons_self _ _))
  (List.subset_append_left _ _) (by decide)

theorem of_tells (h : Tells b c) : Declares b c := by
  refine ⟨h.within (by decide) (by decide) (by decide) _, ?_⟩
  obtain ⟨m, ms, fs, rfl⟩ := h
  rfl

theorem forEach {α : Type} {f : α → Body → Body} (h : ∀ x b, Declares b (f x b)) : ∀ (l : List α) (b : Body), Declares b (Machine.forEach l f b)
  | [], b => .refl b
  | x :: l, b => (h x b).trans (Declares.forEach h l (f x b))

theorem ite {P : Prop} [Decidable P] (h : Declares b c) (k : Declares b d) : Declares b (if P then c else d) := by
  split <;> assumption

end Declares

theorem endRequests_declares (f : Nat → Bool) (b : Body) : Declares b (endRequests f b) := by
  refine Declares.forEach (fun e c => ?_) _ b
  split
  · exact .refl c
  · exact .of_work (transferFault_within _ _ _ _ _ c)

theorem dropFlitsTo_declares (m : Nat) (b : Body) : Declares b (dropFlitsTo m b) := by
  refine Declares.trans (c := withFabric b (b.fabric.filter (fun f => f.via.map (·.1) != some m))) ?_ (Declares.forEach (fun p c => ?_) _ _)
  · refine .of_within (ps := [.fabric]) (fs := []) ?_ (by decide) (by decide) (by decide)
    constructor <;> simp (disch := decide)
  · exact .of_within (updPort_within p _ c) (by decide) (by decide) (by decide)

theorem setSeat_declares (m : Nat) (b : Body) : Declares b (setSeat m b) := by
  refine .of_within (ps := [.regs]) (fs := [R.TLY_SEAT.seat, R.TLY_STROKE_STATUS.seat]) ?_ (by decide) (by decide) (by decide)
  unfold setSeat
  constructor <;> simp (disch := decide)

theorem actAsSeat_declares (b : Body) : Declares b (actAsSeat b) := by
  have hstop : Declares b (updFlock (fun f => { f with runLeft := none, stopAsked := false }) b) := ⟨updFlock_within (by decide) _ _ b, rfl⟩
  unfold actAsSeat
  simp only []
  split
  · exact hstop.trans ⟨updFlock_within (by decide) _ _ _, rfl⟩
  · exact hstop

theorem report_declares (r : Source) (b : Body) : Declares b (report r b) := by
  refine .of_within (ps := [.reports]) (fs := []) ?_ (by decide) (by decide) (by decide)
  constructor <;> simp (disch := decide)

theorem seatGone_declares (b : Body) : Declares b (seatGone b) := by
  unfold seatGone
  simp only []
  split
  · exact .refl b
  · exact (Declares.ite (actAsSeat_declares b) (.refl b)).trans ((setSeat_declares _ _).trans (report_declares _ _))

theorem mirrorLost_declares (k : Nat) (b : Body) : Declares b (mirrorLost k b) := by
  have hoff : Declares b (updStk (setFlag b R.MEM_MIR_CFG.enable k false) k (fun t => { t with mirrorWait := [] })) := by
    refine .of_within (ps := [.regs, .memStacks]) (fs := [R.MEM_MIR_CFG.enable]) ?_ (by decide) (by decide) (by decide)
    constructor <;> simp (disch := decide)
  unfold mirrorLost
  exact hoff.trans (Declares.forEach (fun w c => .of_work (reportMirrorLost_within w c)) _ _)

theorem sendLoss_tells (body : LossBody) (src : Option Nat) (sender : Nat) (b : Body) : Tells b (sendLoss body src sender b) := by
  unfold sendLoss
  split
  · exact .refl b
  · exact Tells.forEach (fun n c => (telHead_tells _ _ _ _ _ c).trans ((emit_tells _ _).trans (sendTel_tells _ _ _ _))) _ b

theorem logLoss_declares (m reason det : Nat) (fromTel : Bool) (b : Body) : Declares b (logLoss m reason det fromTel b) := by
  refine Declares.forEach (fun d c => .of_within (ps := [.regs]) (fs := [R.KLK_LOSS_LOG.moduleIx, R.KLK_LOSS_LOG.reason, R.KLK_LOSS_LOG.detector,
    R.KLK_LOSS_LOG.from_telegram, R.KLK_LOSS_LOG.dropped, R.KLK_LOSS_LOG.valid, R.KLK_LOSS_LOG.declarations]) ?_ (by decide) (by decide) (by decide)) _ b
  constructor <;> simp (disch := decide)

theorem raiseVec_declares (v : Nat) (b : Body) : Declares b (raiseVec v b) :=
  .of_within (raiseVec_within v b) (by decide) (by decide) (by decide)

/-- Without a report of this module's own, a smaller live set moves barriers on and nothing else. -/
theorem liveSetShrank_keeps {b : Body} (hown : b.flock.ownReport = none) : Only [.flock, .stations, .sent, .fabric] b (liveSetShrank b) := by
  have hstep : ∀ (l : List Nat) (c : Body), Only [.flock, .stations, .sent, .fabric] c (forEach l arriveUp c)
      ∧ (forEach l arriveUp c).flock.ownReport = c.flock.ownReport := fun l => by
    induction l with
    | nil => exact fun c => ⟨Only.refl _ c, rfl⟩
    | cons f l ih =>
      intro c
      obtain ⟨honly, -, hkept, -⟩ := arriveUp_frame f c
      obtain ⟨ihonly, ihkept⟩ := ih (arriveUp f c)
      exact ⟨honly.trans ihonly, ihkept.trans hkept⟩
  unfold liveSetShrank
  simp only []
  obtain ⟨honly, hkept⟩ := hstep _ b
  unfold headroomReady
  rw [if_neg fun h => by
    rw [hkept, hown] at h
    exact absurd h.2.1 (by decide)]
  exact honly

/-- A module that is declared lost is marked, and firmware is told (R287). -/
theorem declareLost_marks {m reason det : Nat} {src : Option Nat} {sender : Nat} {b : Body} (hin : flagF b R.KLK_ROUTE.lost m = false)
    (hme : m ≠ moduleIndex b) (hown : b.flock.ownReport = none) :
    flagF (declareLost m reason det src sender b) R.KLK_ROUTE.lost m = true ∧ .moduleLost m ∈ (declareLost m reason det src sender b).reports := by
  obtain ⟨c, hc⟩ : ∃ c, ({ setFlag b R.KLK_ROUTE.lost m true with
      korrel := { b.korrel with probes := b.korrel.probes.filter (fun p => p.moduleIx != m) } } : Body) = c := ⟨_, rfl⟩
  have hmark : flagF c R.KLK_ROUTE.lost m = true := hc ▸ flagF_setFlag_same b R.KLK_ROUTE.lost m true (by decide)
  have hcown : c.flock.ownReport = none := hc ▸ hown
  have hmirrors : ∀ (l : List Nat) (d : Body), Declares d (forEach l (fun k b =>
      if flagF b R.MEM_MIR_CFG.enable k ∧ getF b R.MEM_MIR_CFG.partner k = m then mirrorLost k b else b) d) := fun l d =>
    Declares.forEach (fun k e => .ite (mirrorLost_declares k e) (.refl e)) l d
  have hsteps : ∀ (seat : Bool), Declares c (report (.moduleLost m) (raiseVec 28 (logLoss m reason det src.isSome (sendLoss ⟨m, reason, det⟩ src sender
      (forEach (List.range 12) (fun k b => if flagF b R.MEM_MIR_CFG.enable k ∧ getF b R.MEM_MIR_CFG.partner k = m then mirrorLost k b else b)
        (if seat then seatGone (endRequests (· == m) (dropFlitsTo m c)) else endRequests (· == m) (dropFlitsTo m c))))))) := fun seat => by
    have hend : Declares c (endRequests (· == m) (dropFlitsTo m c)) := (dropFlitsTo_declares m c).trans (endRequests_declares _ _)
    exact ((((((Declares.ite (hend.trans (seatGone_declares _)) hend).trans (hmirrors _ _)).trans (.of_tells (sendLoss_tells _ _ _ _))).trans
      (logLoss_declares _ _ _ _ _)).trans (raiseVec_declares _ _)).trans (report_declares _ _))
  have hx : declareLost m reason det src sender b = liveSetShrank (report (.moduleLost m) (raiseVec 28 (logLoss m reason det src.isSome
      (sendLoss ⟨m, reason, det⟩ src sender
      (forEach (List.range 12) (fun k b => if flagF b R.MEM_MIR_CFG.enable k ∧ getF b R.MEM_MIR_CFG.partner k = m then mirrorLost k b else b)
        (if flagF b R.TLY_SEAT.valid 0 && getF b R.TLY_SEAT.seat 0 == m then seatGone (endRequests (· == m) (dropFlitsTo m c))
          else endRequests (· == m) (dropFlitsTo m c))))))) := by
    unfold declareLost
    rw [if_neg (by simp [hin, hme]), ← hc]
    rfl
  obtain ⟨d, hd⟩ : ∃ d, report (.moduleLost m) (raiseVec 28 (logLoss m reason det src.isSome (sendLoss ⟨m, reason, det⟩ src sender
      (forEach (List.range 12) (fun k b => if flagF b R.MEM_MIR_CFG.enable k ∧ getF b R.MEM_MIR_CFG.partner k = m then mirrorLost k b else b)
        (if flagF b R.TLY_SEAT.valid 0 && getF b R.TLY_SEAT.seat 0 == m then seatGone (endRequests (· == m) (dropFlitsTo m c))
          else endRequests (· == m) (dropFlitsTo m c)))))) = d := ⟨_, rfl⟩
  have hdc : Declares c d := hd ▸ hsteps _
  have htold : Source.moduleLost m ∈ d.reports := by
    rw [← hd]
    exact List.mem_append_right _ (List.mem_singleton.mpr rfl)
  rw [hx, hd]
  have hshrank := liveSetShrank_keeps (hdc.own.trans hcown)
  have hregs : (liveSetShrank d).regs = d.regs := (hshrank .regs).resolve_left (by decide)
  have hreports : (liveSetShrank d).reports = d.reports := (hshrank .reports).resolve_left (by decide)
  refine ⟨?_, hreports ▸ htold⟩
  unfold flagF getF
  rw [hregs]
  exact (hdc.within.flagF_eq (f := R.KLK_ROUTE.lost) (by decide) (by decide) m).trans hmark

end Sys2Proof.Machine

/-! SUPPORT. What declares a module lost, isolation, rejoin and routes (O42). -/

namespace Sys2Proof.Machine

section Loss

variable {m : Nat} {s : State}

/-- What a declaration of a loss shows. -/
def Lost (m : Nat) (b : Body) : Prop := flagF b R.KLK_ROUTE.lost m = true ∧ .moduleLost m ∈ b.reports

theorem probe_timedOut {q : Probe} (hm : m < 16384) (hin : flagF s.body R.KLK_ROUTE.lost m = false) (hme : m ≠ moduleIndex s.body)
    (hown : s.body.flock.ownReport = none) (hq : q ∈ s.body.korrel.probes) (hqm : q.moduleIx = m) :
    RunsS (.probeTimeout m) s (fun t => Lost m t.body) := by
  obtain ⟨r, hr⟩ : ∃ r, s.body.korrel.probes.find? (fun p => p.moduleIx == m) = some r :=
    Option.isSome_iff_exists.mp (List.find?_isSome.mpr ⟨q, hq, by simp [hqm]⟩)
  have hx : probeTimeout m s.body = declareLost m r.reason (moduleIndex s.body) none (moduleIndex s.body) s.body := by
    unfold probeTimeout
    rw [hr]
  exact runsS_of_lift (f := probeTimeout m) (lift_of_onUnit (decide_eq_true hm)) hx (declareLost_marks hin hme hown)

/-- The body that has noted a switch tray's notice. -/
def noticed (tray m v : Nat) (b : Body) : Body := { b with korrel := { b.korrel with notices := SMap.put b.korrel.notices 0 (tray * 16384 + m) v } }

theorem noticeIn_eq (tray m : Nat) (up : Bool) (b : Body) : noticeIn tray m up b = noticeCheck m (noticed tray m (if up then 2 else 1) b) := rfl

theorem trayKey_eq {t u m : Nat} : t * 16384 + m = u * 16384 + m ↔ t = u := by omega

theorem notice_of_tray (tray t m v : Nat) (b : Body) : SMap.get (noticed tray m v b).korrel.notices 0 (t * 16384 + m)
    = if t = tray then v else SMap.get b.korrel.notices 0 (t * 16384 + m) := by
  show SMap.get (SMap.put b.korrel.notices 0 (tray * 16384 + m) v) 0 (t * 16384 + m) = _
  rw [SMap.get_put]
  simp only [trayKey_eq]

/-- The trays to which the module has a port that is up. -/
theorem mem_trays {t : Nat} {b : Body} : t ∈ ((switchPorts.filter (portUp b)).map trayOf).eraseDups ↔ ∃ p ∈ switchPorts, portUp b p = true ∧ trayOf p = t := by
  rw [List.mem_eraseDups, List.mem_map]
  simp only [List.mem_filter]
  exact ⟨fun ⟨p, ⟨hp, hup⟩, ht⟩ => ⟨p, hp, hup, ht⟩, fun ⟨p, hp, hup, ht⟩ => ⟨p, ⟨hp, hup⟩, ht⟩⟩

theorem noticedLost_iff {b : Body} : noticedLost b m = true ↔ (∃ q ∈ switchPorts, portUp b q = true)
    ∧ ∀ r ∈ switchPorts, portUp b r = true → SMap.get b.korrel.notices 0 (trayOf r * 16384 + m) = 1 := by
  unfold noticedLost
  simp only [Bool.and_eq_true, Bool.not_eq_true', List.isEmpty_eq_false_iff_exists_mem, List.all_eq_true, beq_iff_eq, mem_trays]
  constructor
  · rintro ⟨⟨t, q, hq, hup, -⟩, hall⟩
    exact ⟨⟨q, hq, hup⟩, fun r hr hrup => hall _ ⟨r, hr, hrup, rfl⟩⟩
  · rintro ⟨⟨q, hq, hup⟩, hall⟩
    refine ⟨⟨_, q, hq, hup, rfl⟩, ?_⟩
    rintro t ⟨r, hr, hrup, rfl⟩
    exact hall r hr hrup

theorem notice_lost {tray q : Nat} (htray : tray < 6) (hm : m < 16384) (hin : flagF s.body R.KLK_ROUTE.lost m = false) (hme : m ≠ moduleIndex s.body)
    (hown : s.body.flock.ownReport = none) (hq : q ∈ switchPorts) (hup : portUp s.body q = true)
    (hall : ∀ r, r ∈ switchPorts → portUp s.body r = true → trayOf r = tray ∨ SMap.get s.body.korrel.notices 0 (trayOf r * 16384 + m) = 1) :
    RunsS (.korrelNotice tray m false) s (fun t => Lost m t.body) := by
  have hunit : (decide (tray < 6) && isModule m) = true := by
    unfold isModule
    rw [decide_eq_true htray, decide_eq_true hm]
    rfl
  have hnoted : noticedLost (noticed tray m 1 s.body) m = true := noticedLost_iff.mpr ⟨⟨q, hq, hup⟩, fun r hr hrup => by
    rw [notice_of_tray]
    split
    · rfl
    next hne => exact (hall r hr hrup).resolve_left hne⟩
  have hx : noticeIn tray m false s.body = declareLost m 0 (moduleIndex s.body) none (moduleIndex s.body) (noticed tray m 1 s.body) := by
    rw [noticeIn_eq]
    exact if_pos hnoted
  exact runsS_of_lift (f := noticeIn tray m false) (lift_of_onUnit hunit) hx (declareLost_marks (b := noticed tray m 1 s.body) hin hme hown)

theorem notice_up {tray q : Nat} (htray : tray < 6) (hm : m < 16384) (hq : q ∈ switchPorts) (hup : portUp s.body q = true) (hqt : trayOf q = tray) :
    Runs (.korrelNotice tray m true) s [.korrel] (fun b => SMap.get b.korrel.notices 0 (tray * 16384 + m) = 2
      ∧ b.korrel.ports = s.body.korrel.ports ∧ b.korrel.probes = s.body.korrel.probes) := by
  have hunit : (decide (tray < 6) && isModule m) = true := by
    unfold isModule
    rw [decide_eq_true htray, decide_eq_true hm]
    rfl
  have htwo : SMap.get (noticed tray m 2 s.body).korrel.notices 0 (tray * 16384 + m) = 2 := by rw [notice_of_tray, if_pos rfl]
  have hnoted : noticedLost (noticed tray m 2 s.body) m ≠ true := fun h => by
    have hone := (noticedLost_iff.mp h).2 q hq hup
    rw [hqt, htwo] at hone
    exact absurd hone (by decide)
  have hx : noticeIn tray m true s.body = noticed tray m 2 s.body := by
    rw [noticeIn_eq]
    exact if_neg hnoted
  refine runs_of_lift (f := noticeIn tray m true) (lift_of_onUnit hunit) hx ?_ ⟨htwo, rfl, rfl⟩
  exact fun q => by cases q <;> first | exact .inl (by decide) | exact .inr rfl

theorem loss_declared {h : TelHead} {x : LossBody} (hs : Sound h s.body) (hlast : SMap.get s.body.flock.rxAlive none (6 * 16384 + h.nbr) = none)
    (hin : flagF s.body R.KLK_ROUTE.lost m = false) (hme : m ≠ moduleIndex s.body) (hown : s.body.flock.ownReport = none) (hxm : x.lost = m) :
    RunsS (.telegramLoss h x) s (fun t => Lost m t.body) := by
  have hcheck : telCheck 6 h s.body = (true, heard 6 h s.body) := by
    rw [telCheck_sound hs (by decide), hlast]
  have hx : lossTel h x s.body = declareLost m x.reason x.detector (some h.nbr) h.sender (heard 6 h s.body) := by
    unfold lossTel
    rw [telIn_good hcheck]
    simp only [hxm]
    exact if_neg hme
  exact runsS_of_lift (f := lossTel h x) rfl hx (declareLost_marks (b := heard 6 h s.body) hin hme hown)

/-! ## Isolation (R289, R290) -/

theorem flagF_forEach_setFlag {f : Field} (hf : 1 ≤ f.width) (v : Bool) (d : Nat) (l : List Nat) (b : Body) :
    flagF (forEach l (fun n b => setFlag b f n v) b) f d = if d ∈ l then v else flagF b f d := by
  induction l generalizing b with
  | nil => rfl
  | cons n l ih =>
    rw [forEach_cons, ih]
    by_cases hd : d ∈ l
    · rw [if_pos hd, if_pos (List.mem_cons_of_mem _ hd)]
    · rw [if_neg hd]
      by_cases hn : d = n
      · subst hn
        rw [if_pos List.mem_cons_self, flagF_setFlag_same _ _ _ _ hf]
      · rw [if_neg (by simp [hd, hn])]
        exact congrArg (· == 1) (getF_setF_instance _ _ _ _ _ hn)

theorem forEach_setFlag_within {f : Field} (hf : f.idx < 1024) (v : Bool) (l : List Nat) (b : Body) :
    Within [.regs] [f] b (forEach l (fun n b => setFlag b f n v) b) :=
  (Within.refl _ _ b).forEach fun n _ c => setF_within n _ c (by decide) (List.mem_singleton.mpr rfl) hf

/-- One port of a module that isolates itself. -/
def holdPort (p : Nat) (b : Body) : Body :=
  setPortState p 7 (setF (updPort b p (fun pt => { pt with s0 := KStream.reset, s1 := KStream.reset, waiting := [], traffic := false })) R.KLK_PORT_STATUS.level p 0)

theorem holdPort_shows (p : Nat) (b : Body) : Within [.korrel, .regs] (R.KLK_PORT_STATUS.level :: portFields) b (holdPort p b)
    ∧ portState (holdPort p b) p = 7 ∧ ∀ q, q ≠ p → portState (holdPort p b) q = portState b q := by
  unfold holdPort
  refine ⟨Within.trans (c := setF _ _ _ _) ?_ ((setPortState_within p 7 _).mono (by decide) (by decide)), portState_setPortState (by decide) _, fun q hq => ?_⟩
  · constructor <;> simp (disch := decide)
  · rw [portState_setPortState_ne _ hq]
    unfold portState
    rw [getF_setF_other _ _ (by decide) (by decide) (by decide)]
    rfl

theorem holdPorts_show (l : List Nat) (b : Body) : Within [.korrel, .regs] (R.KLK_PORT_STATUS.level :: portFields) b (forEach l holdPort b)
    ∧ ∀ q, q ∈ l ∨ portState b q = 7 → portState (forEach l holdPort b) q = 7 := by
  induction l generalizing b with
  | nil => exact ⟨.refl _ _ b, fun q h => h.resolve_left List.not_mem_nil⟩
  | cons p l ih =>
    obtain ⟨hw, hp, hne⟩ := holdPort_shows p b
    obtain ⟨ihw, ihs⟩ := ih (holdPort p b)
    refine ⟨hw.trans ihw, fun q h => ihs q ?_⟩
    by_cases hq : q = p
    · rw [hq]
      exact .inr hp
    · exact h.imp (fun hm => (List.mem_cons.mp hm).resolve_left hq) fun hold => (hne q hq).trans hold

theorem endMirrorWaits_within (b : Body) : Within (.memStacks :: workParts) workFields b (endMirrorWaits b) := by
  refine (Within.refl _ _ b).forEach fun k _ c => ?_
  refine Within.trans (c := updStk c k (fun t => { t with mirrorWait := [] })) ?_ (forEach_within (fun w d => (transferFault_within _ _ _ _ _ d).mono (by decide) (by decide)) _ _)
  constructor <;> simp (disch := decide)

theorem endRequests_within (f : Nat → Bool) (b : Body) : Within workParts workFields b (endRequests f b) := by
  refine forEach_within (fun e c => ?_) _ b
  split
  · exact .refl _ _ c
  · exact transferFault_within _ _ _ _ _ c

/-- The body in which every port is held and nothing is on its way to one. -/
def portsHeld (b : Body) : Body :=
  let c := forEach (List.range 18) holdPort (forEach (List.range 4) (fun n b => setFlag b R.KLK_DIE_STATUS.isolated n true) b)
  updFlock (fun f => { f with barred := true })
    { c with korrel := { c.korrel with probes := [], everUp := false }, fabric := c.fabric.filter (fun f => f.via.isNone) }

/-- The fields that isolation writes before the requests end. -/
def isolationFields : List Field := R.KLK_DIE_STATUS.isolated :: R.KLK_PORT_STATUS.level :: portFields

theorem portsHeld_shows (b : Body) : Within [.korrel, .regs, .flock, .fabric] isolationFields b (portsHeld b)
    ∧ (∀ d, d < 4 → flagF (portsHeld b) R.KLK_DIE_STATUS.isolated d = true) ∧ ∀ p, p < 18 → portState (portsHeld b) p = 7 := by
  have hflags := forEach_setFlag_within (f := R.KLK_DIE_STATUS.isolated) (by decide) true (List.range 4) b
  have hset := fun d => flagF_forEach_setFlag (f := R.KLK_DIE_STATUS.isolated) (by decide) true d (List.range 4) b
  obtain ⟨hports, hstates⟩ := holdPorts_show (List.range 18) (forEach (List.range 4) (fun n b => setFlag b R.KLK_DIE_STATUS.isolated n true) b)
  obtain ⟨c, hc⟩ : ∃ c, forEach (List.range 18) holdPort (forEach (List.range 4) (fun n b => setFlag b R.KLK_DIE_STATUS.isolated n true) b) = c := ⟨_, rfl⟩
  rw [hc] at hports hstates
  have hlast : Within [.korrel, .regs, .flock, .fabric] isolationFields c (portsHeld b) := by
    unfold portsHeld
    simp only [hc]
    exact ⟨fun q => by cases q <;> first | exact .inl (by decide) | exact .inr rfl, fun _ _ _ _ => rfl⟩
  have hregs : (portsHeld b).regs = c.regs := by
    unfold portsHeld
    simp only [hc]
    rfl
  refine ⟨((hflags.mono (by decide) (by decide)).trans (hports.mono (by decide) (by decide))).trans hlast, fun d hd => ?_, fun p hp => ?_⟩
  · have hflag := hports.flagF_eq (f := R.KLK_DIE_STATUS.isolated) (by decide) (by decide) d
    rw [hset, if_pos (List.mem_range.mpr hd)] at hflag
    unfold flagF getF at hflag ⊢
    rw [hregs]
    exact hflag
  · have hstate := hstates p (.inl (List.mem_range.mpr hp))
    unfold portState getF at hstate ⊢
    rw [hregs]
    exact hstate

/-- The fields that isolation writes once the ports are held. -/
def stoppedFields : List Field := R.IRQ_CAUSE.cause :: R.TLY_STROKE_STATUS.state :: workFields

theorem isolateModule_shows {b : Body} (hin : isolated b = false) :
    Within ([.korrel, .flock, .memStacks, .rack] ++ workParts) (isolationFields ++ stoppedFields) b (isolateModule b)
      ∧ (∀ d, d < 4 → flagF (isolateModule b) R.KLK_DIE_STATUS.isolated d = true) ∧ (∀ p, p < 18 → portState (isolateModule b) p = 7)
      ∧ .isolated ∈ (isolateModule b).reports ∧ (isolateModule b).flock.runOpen = false := by
  obtain ⟨hheld, hflags, hstates⟩ := portsHeld_shows b
  obtain ⟨c, hc⟩ : ∃ c, endMirrorWaits (endRequests (fun m => m != moduleIndex (portsHeld b)) (portsHeld b)) = c := ⟨_, rfl⟩
  have hcw : Within ([.korrel, .flock, .memStacks, .rack] ++ workParts) stoppedFields (portsHeld b) c :=
    hc ▸ ((endRequests_within _ _).mono (by decide) (by decide)).trans ((endMirrorWaits_within _).mono (by decide) (by decide))
  have hstop : Within ([.korrel, .flock, .memStacks, .rack] ++ workParts) stoppedFields c (strokeStop c) :=
    (strokeStop_within c).mono (by decide) (by decide)
  have hnote := noteRun_within b (strokeStop c)
  have hreport : Within ([.korrel, .flock, .memStacks, .rack] ++ workParts) stoppedFields (noteRun b (strokeStop c)) (report .isolated (noteRun b (strokeStop c))) := by
    constructor <;> simp (disch := decide)
  have hx : isolateModule b = report .isolated (noteRun b (strokeStop c)) := by
    unfold isolateModule
    rw [hin, ← hc]
    rfl
  have hrest : Within ([.korrel, .flock, .memStacks, .rack] ++ workParts) stoppedFields (portsHeld b) (report .isolated (noteRun b (strokeStop c))) :=
    (hcw.trans hstop).trans ((hnote.mono (by decide) (by decide)).trans hreport)
  rw [hx]
  refine ⟨(hheld.mono (by decide) (List.subset_append_left _ _)).trans (hrest.mono (fun _ => id) (List.subset_append_right _ _)), fun d hd => ?_, fun p hp => ?_,
    List.mem_append_right _ (List.mem_singleton.mpr rfl), ?_⟩
  · exact (hrest.flagF_eq (by decide) (by decide) d).trans (hflags d hd)
  · exact (hrest.portState_eq (by decide) p).trans (hstates p hp)
  · show (noteRun b (strokeStop c)).flock.runOpen = false
    rw [hnote.same (p := .flock) (by decide), strokeStop_flock]

theorem isolated_of_flag {b : Body} (h : flagF b R.KLK_DIE_STATUS.isolated 0 = true) : isolated b = true := by
  unfold isolated
  exact List.any_eq_true.mpr ⟨0, by decide, h⟩

theorem Within.isolated_eq {ps : List Part} {fs : List Field} {b c : Body} (h : Within ps fs b c)
    (hi : R.KLK_DIE_STATUS.isolated.idx ∉ fs.map Field.idx) : isolated c = isolated b := by
  unfold isolated
  rw [show flagF c R.KLK_DIE_STATUS.isolated = flagF b R.KLK_DIE_STATUS.isolated from funext fun n => h.flagF_eq (by decide) hi n]

theorem isolate_takes (hin : isolated s.body = false) : RunsS .klkIsolate s (fun t => (∀ d, d < 4 → flagF t.body R.KLK_DIE_STATUS.isolated d = true)
    ∧ (∀ p, p < 18 → portState t.body p = 7) ∧ .isolated ∈ t.body.reports ∧ t.body.flock.runOpen = false) := by
  obtain ⟨-, hflags, hstates, hreport, hrun⟩ := isolateModule_shows hin
  exact runsS_of_lift (f := isolateModule) rfl rfl ⟨hflags, hstates, hreport, hrun⟩

theorem loss_isolates {h : TelHead} {x : LossBody} (hs : Sound h s.body) (hlast : SMap.get s.body.flock.rxAlive none (6 * 16384 + h.nbr) = none)
    (hme : x.lost = moduleIndex s.body) : RunsS (.telegramLoss h x) s (fun t => isolated t.body = true ∧ .falseDeclared ∈ t.body.reports
      ∧ flagF t.body R.TLY_STROKE_CTRL.enable 0 = false ∧ ∀ d, d < 4 → flagF t.body R.KLK_DIE_STATUS.false_declared d = true) := by
  have hcheck : telCheck 6 h s.body = (true, heard 6 h s.body) := by
    rw [telCheck_sound hs (by decide), hlast]
  obtain ⟨b, hb⟩ : ∃ b, forEach (List.range 4) (fun d b => setFlag b R.KLK_DIE_STATUS.false_declared d true) (heard 6 h s.body) = b := ⟨_, rfl⟩
  have hbw : Within [.regs] [R.KLK_DIE_STATUS.false_declared] (heard 6 h s.body) b := hb ▸ forEach_setFlag_within (by decide) _ _ _
  have hbf : ∀ d, d < 4 → flagF b R.KLK_DIE_STATUS.false_declared d = true := fun d hd => by
    rw [← hb, flagF_forEach_setFlag (by decide), if_pos (List.mem_range.mpr hd)]
  have hx : lossTel h x s.body = report .falseDeclared (isolateModule (writeEnable false b)) := by
    unfold lossTel
    rw [telIn_good hcheck]
    have hme' : x.lost = moduleIndex (heard 6 h s.body) := hme
    simp only [if_pos hme']
    unfold falseDeclared
    simp only [hb]
  obtain ⟨c, hc⟩ : ∃ c, writeEnable false b = c := ⟨_, rfl⟩
  have hcw : Within [.regs, .host, .sent, .flock, .rack] [R.IRQ_CAUSE.cause, R.TLY_STROKE_STATUS.state, R.TLY_STROKE_CTRL.enable] b c := by
    rw [← hc]
    have hput : Within [.regs, .host, .sent, .flock, .rack] [R.IRQ_CAUSE.cause, R.TLY_STROKE_STATUS.state, R.TLY_STROKE_CTRL.enable] b
        (setFlag b R.TLY_STROKE_CTRL.enable 0 false) := setF_within _ _ b (by decide) (by decide) (by decide)
    exact (hput.trans ((strokeStop_within _).mono (by decide) (by decide))).trans ((noteRun_within b _).mono (by decide) (by decide))
  have hen : flagF c R.TLY_STROKE_CTRL.enable 0 = false := by
    rw [← hc]
    show flagF (noteRun b (strokeStop (setFlag b R.TLY_STROKE_CTRL.enable 0 false))) _ 0 = false
    rw [(noteRun_within b _).flagF_eq (by decide) (by decide), (strokeStop_within _).flagF_eq (by decide) (by decide)]
    exact flagF_setFlag_same _ _ _ _ (by decide)
  have hin : isolated c = false := ((hcw.isolated_eq (by decide)).trans (hbw.isolated_eq (by decide))).trans hs.joined
  obtain ⟨hw, hflags, -⟩ := isolateModule_shows hin
  rw [hc] at hx
  refine runsS_of_lift (f := lossTel h x) rfl hx ⟨isolated_of_flag (hflags 0 (by decide)), List.mem_append_right _ (List.mem_singleton.mpr rfl), ?_, fun d hd => ?_⟩
  · exact (hw.flagF_eq (f := R.TLY_STROKE_CTRL.enable) (by decide) (by decide) 0).trans hen
  · exact (hw.flagF_eq (f := R.KLK_DIE_STATUS.false_declared) (by decide) (by decide) d).trans
      ((hcw.flagF_eq (by decide) (by decide) d).trans (hbf d hd))

/-! ## Rejoin (R289, R295) and routes (R280, R297) -/

/-- May a port train (R279)? -/
def mayTrain (b : Body) (p : Nat) : Bool :=
  flagF b R.KLK_PORT_STATUS.present p && !flagF b R.KLK_PORT_STATUS.power_refused p && flagF b R.KLK_PORT_CTRL.enable p

/-- One port of a link die that rejoins. -/
def rejoinPort (p : Nat) (b : Body) : Body :=
  if flagF b R.KLK_PORT_STATUS.present p ∧ !flagF b R.KLK_PORT_STATUS.power_refused p ∧ flagF b R.KLK_PORT_CTRL.enable p then startTraining p b
  else setPortState p 0 b

/-- The fields that a rejoin writes at its ports. -/
def rejoinFields : List Field := R.KLK_PORT_STATUS.level :: R.KLK_PORT_PEER.valid :: portFields

theorem rejoinPort_shows (p : Nat) (b : Body) : Within [.korrel, .regs] rejoinFields b (rejoinPort p b)
    ∧ portState (rejoinPort p b) p = (if mayTrain b p then 1 else 0) ∧ ∀ q, q ≠ p → portState (rejoinPort p b) q = portState b q := by
  have hiff : (flagF b R.KLK_PORT_STATUS.present p ∧ !flagF b R.KLK_PORT_STATUS.power_refused p ∧ flagF b R.KLK_PORT_CTRL.enable p) ↔ mayTrain b p = true := by
    unfold mayTrain
    simp [and_assoc]
  unfold rejoinPort
  simp only [hiff]
  split
  · obtain ⟨hw, hone, hne, -⟩ := startTraining_shows p b
    exact ⟨hw, hone, hne⟩
  · exact ⟨(setPortState_within p 0 b).mono (by decide) (by decide), portState_setPortState (by decide) b, fun q hq => portState_setPortState_ne 0 hq b⟩

theorem mayTrain_of_within {b c : Body} (h : Within [.korrel, .regs] rejoinFields b c) (p : Nat) : mayTrain c p = mayTrain b p := by
  unfold mayTrain
  rw [h.flagF_eq (f := R.KLK_PORT_STATUS.present) (by decide) (by decide), h.flagF_eq (f := R.KLK_PORT_STATUS.power_refused) (by decide) (by decide),
    h.flagF_eq (f := R.KLK_PORT_CTRL.enable) (by decide) (by decide)]

theorem rejoinPorts_show (l : List Nat) (b : Body) : Within [.korrel, .regs] rejoinFields b (forEach l rejoinPort b)
    ∧ ∀ q, q ∈ l ∨ portState b q = (if mayTrain b q then 1 else 0) → portState (forEach l rejoinPort b) q = (if mayTrain b q then 1 else 0) := by
  induction l generalizing b with
  | nil => exact ⟨.refl _ _ b, fun q h => h.resolve_left List.not_mem_nil⟩
  | cons p l ih =>
    obtain ⟨hw, hp, hne⟩ := rejoinPort_shows p b
    obtain ⟨ihw, ihs⟩ := ih (rejoinPort p b)
    refine ⟨hw.trans ihw, fun q h => ?_⟩
    rw [← mayTrain_of_within hw q]
    refine ihs q ?_
    by_cases hq : q = p
    · subst hq
      rw [mayTrain_of_within hw q]
      exact .inr hp
    · refine h.imp (fun hm => (List.mem_cons.mp hm).resolve_left hq) fun hold => ?_
      rw [mayTrain_of_within hw q, hne q hq, hold]

theorem rejoined {n : Nat} (hn : n < 4) (hheld : flagF s.body R.KLK_DIE_STATUS.isolated n = true) : Runs (.klkRejoin n) s [.korrel, .regs] (fun b =>
    flagF b R.KLK_DIE_STATUS.isolated n = false ∧ ∀ p, p < 18 → portDie p = n → portState b p = (if mayTrain s.body p then 1 else 0)) := by
  obtain ⟨c, hc⟩ : ∃ c, ({ setFlag s.body R.KLK_DIE_STATUS.isolated n false with korrel := { s.body.korrel with everUp := false } } : Body) = c := ⟨_, rfl⟩
  have hcw : Within [.korrel, .regs] [R.KLK_DIE_STATUS.isolated] s.body c := by
    rw [← hc]
    refine Within.trans (c := setFlag s.body R.KLK_DIE_STATUS.isolated n false) (setF_within n _ _ (by decide) (by decide) (by decide)) ?_
    exact ⟨fun q => by cases q <;> first | exact .inl (by decide) | exact .inr rfl, fun _ _ _ _ => rfl⟩
  have hflag : flagF c R.KLK_DIE_STATUS.isolated n = false := hc ▸ flagF_setFlag_same s.body R.KLK_DIE_STATUS.isolated n false (by decide)
  have htrain : ∀ p, mayTrain c p = mayTrain s.body p := fun p => by
    unfold mayTrain
    rw [hcw.flagF_eq (f := R.KLK_PORT_STATUS.present) (by decide) (by decide), hcw.flagF_eq (f := R.KLK_PORT_STATUS.power_refused) (by decide) (by decide),
      hcw.flagF_eq (f := R.KLK_PORT_CTRL.enable) (by decide) (by decide)]
  obtain ⟨hw, hstates⟩ := rejoinPorts_show ((List.range 18).filter (fun p => portDie p == n)) c
  have hx : rejoin n s.body = forEach ((List.range 18).filter (fun p => portDie p == n)) rejoinPort c := by
    unfold rejoin
    rw [hheld, ← hc]
    rfl
  refine runs_of_lift (f := rejoin n) (lift_of_onUnit (decide_eq_true hn)) hx (hcw.only.trans hw.only) ⟨?_, fun p hp hd => ?_⟩
  · exact (hw.flagF_eq (by decide) (by decide) n).trans hflag
  · rw [hstates p (.inl (List.mem_filter.mpr ⟨List.mem_range.mpr hp, by simp [hd]⟩)), htrain]

theorem route_written {kind pair : Nat} {clear : Bool} (hm : m < 16384) (hkind : kind < 4) (hpair : pair < 3) : Runs (.routeWrite m kind pair clear) s [.regs]
    (fun b => getF b R.KLK_ROUTE.kind m = kind ∧ getF b R.KLK_ROUTE.pair m = pair ∧ flagF b R.KLK_ROUTE.lost m = (flagF s.body R.KLK_ROUTE.lost m && !clear)
      ∧ RegsBut [R.KLK_ROUTE.kind, R.KLK_ROUTE.pair, R.KLK_ROUTE.lost] m s.body b) := by
  have hkind' : kind < 2 ^ R.KLK_ROUTE.kind.width := hkind
  have hpair' : pair < 2 ^ R.KLK_ROUTE.pair.width := Nat.lt_trans hpair (by decide)
  have hx : writeRoute m kind pair clear s.body = (let b := setF (setF s.body R.KLK_ROUTE.kind m kind) R.KLK_ROUTE.pair m pair
      if clear then setFlag b R.KLK_ROUTE.lost m false else b) := by
    unfold writeRoute
    simp only [if_neg (show ¬ pair % 4 = 3 by omega)]
  cases clear
  · refine runs_of_lift (f := writeRoute m kind pair false) (lift_of_onUnit (decide_eq_true hm)) hx ?_ ⟨?_, getF_setF_fits hpair', ?_, ?_⟩
    · simp (disch := decide)
    · exact (getF_setF_field _ _ _ _ _ _ (by decide) (by decide) (by decide)).trans (getF_setF_fits hkind')
    · simp (disch := decide)
    · simp (disch := decide)
  · refine runs_of_lift (f := writeRoute m kind pair true) (lift_of_onUnit (decide_eq_true hm)) hx ?_ ⟨?_, ?_, ?_, ?_⟩
    · simp (disch := decide)
    · refine (getF_setF_field _ _ _ _ _ _ (by decide) (by decide) (by decide)).trans ?_
      exact (getF_setF_field _ _ _ _ _ _ (by decide) (by decide) (by decide)).trans (getF_setF_fits hkind')
    · exact (getF_setF_field _ _ _ _ _ _ (by decide) (by decide) (by decide)).trans (getF_setF_fits hpair')
    · refine (flagF_setFlag_same _ _ _ _ (by decide)).trans ?_
      simp
    · simp (disch := decide)

end Loss

/-- Settles O42: what declares a module lost, isolates this one and lets it rejoin, each by its own lemma. -/
theorem moduleLoss : Obligations.ModuleLoss := by
  intro m s hm b0 me lost
  have hsound : ∀ {h : TelHead}, isolated s.body = false → flagF s.body R.KLK_ROUTE.lost h.nbr = false → h.crcOk = true → h.level ≤ 1 → Sound h s.body :=
    fun hiso hlive hcrc hlevel => ⟨hiso, hlive, hcrc, hlevel⟩
  refine ⟨?drop, ?answer, ?reply, ?declare, ?up, ?falsely, ?isolate, ?already, ?rejoin, ?route⟩
  case drop => exact fun p seq hp hlost => probe_dropped hp hm hlost
  case answer => exact fun p seq hp hin hlive hwait hroom hcredit => probe_answered hp hm hin hlive hwait hroom hcredit
  case reply => exact fun seq => probe_ended hm
  case declare => exact fun hown hme hin => ⟨fun q hq hqm => probe_timedOut hm hin hme hown hq hqm,
    fun tray q htray hq hup hall => notice_lost htray hm hin hme hown hq hup hall,
    fun h x hiso hlive hcrc hlevel hlast hxm => loss_declared (hsound hiso hlive hcrc hlevel) hlast hin hme hown hxm⟩
  case up => exact fun tray q htray hq hup hqt => notice_up htray hm hq hup hqt
  case falsely => exact fun h x hiso hlive hcrc hlevel hlast hxm => loss_isolates (hsound hiso hlive hcrc hlevel) hlast hxm
  case isolate => exact fun hin => isolate_takes hin
  case already => exact fun hin => runs_same (f := isolateModule) rfl (if_pos hin)
  case rejoin => exact fun n hn hheld => rejoined hn hheld
  case route => exact fun kind pair clear hkind hpair => route_written hm hkind hpair

end Sys2Proof.Machine

/-! SUPPORT. Shepherd frames (R305, R498): what sending one changes, and what has been told. -/

namespace Sys2Proof.Machine

/-- The parts that a frame to another module changes. -/
def frameParts : List Part := [.sent, .host, .fabric, .korrel, .regs]

/-- Going from `b` to `c` sends messages: it changes nothing but what goes out, and withdraws none. -/
structure Sends (b c : Body) : Prop where
  within : Within frameParts sendFields b c
  sent : b.sent ⊆ c.sent

namespace Sends

variable {b c d : Body}

theorem refl (b : Body) : Sends b b := ⟨.refl _ _ b, List.Subset.refl _⟩

theorem trans (h : Sends b c) (k : Sends c d) : Sends b d := ⟨h.within.trans k.within, List.Subset.trans h.sent k.sent⟩

/-- A step that sends and leaves the list of messages as it is. -/
theorem quiet {ps : List Part} (h : Within ps sendFields b c) (hp : ps ⊆ frameParts) (hs : Part.sent ∉ ps) : Sends b c :=
  ⟨h.mono hp (List.Subset.refl _), by rw [h.same (p := .sent) hs]; exact List.Subset.refl _⟩

theorem emit (m : Sent) (b : Body) : Sends b (emit m b) := ⟨by constructor <;> simp (disch := decide), List.subset_cons_self _ _⟩

theorem forEach {α : Type} {f : α → Body → Body} (h : ∀ x b, Sends b (f x b)) : ∀ (l : List α) (b : Body), Sends b (forEach l f b)
  | [], b => .refl b
  | x :: l, b => (h x b).trans (Sends.forEach h l (f x b))

end Sends

theorem transmit_sends (p : Nat) (k : KFlit) (b : Body) : Sends b (transmit p k b) :=
  ⟨(transmit_within p k b).mono (by decide) (List.Subset.refl _), List.subset_cons_self _ _⟩

theorem updPort_sends (p : Nat) (f : KorPort → KorPort) (b : Body) : Sends b (updPort b p f) :=
  .quiet ((updPort_within p f b).mono (qs := [.korrel]) (by decide) (by decide)) (by decide) (by decide)

theorem takeTurn_sends (p vc : Nat) (b : Body) : Sends b (takeTurn b p vc) := by
  unfold takeTurn
  split
  · exact .refl b
  · exact updPort_sends _ _ b

theorem drainPort_sends (p : Nat) : ∀ (fuel : Nat) (b : Body), Sends b (drainPort p fuel b)
  | 0, b => .refl b
  | fuel + 1, b => by
    unfold drainPort
    split
    · exact .refl b
    · exact (updPort_sends _ _ b).trans ((transmit_sends _ _ _).trans ((takeTurn_sends _ _ _).trans (drainPort_sends p fuel _)))

theorem portSend_sends (p : Nat) (k : KFlit) (b : Body) : Sends b (portSend p k b) := (updPort_sends _ _ b).trans (drainPort_sends p _ _)

theorem sendFlit_sends (f : Flit) (b : Body) : Sends b (sendFlit f b) := by
  refine .quiet (ps := [.fabric]) ?_ (by decide) (by decide)
  constructor <;> simp (disch := decide)

theorem sendVia_sends (m vc : Nat) (f : Flit) (b : Body) : Sends b (sendVia m vc f b).2 := by
  unfold sendVia
  split
  · exact .refl b
  · simp only []
    split
    · exact portSend_sends _ _ b
    · exact sendFlit_sends _ b

theorem sendModule_sends (m vc : Nat) (f : Flit) (b : Body) : Sends b (sendModule m vc f b).2 := by
  unfold sendModule
  split
  · exact .refl b
  · exact sendVia_sends m vc f b

theorem updHost_sends (f : HostSide → HostSide) (b : Body) : Sends b (updHost f b) := by
  refine .quiet (ps := [.host]) ?_ (by decide) (by decide)
  constructor <;> simp (disch := decide)

/-- A Shepherd frame with these fields has gone out. -/
def FrameSent (dest cls : Nat) (ws : List Nat) (b : Body) : Prop := ∃ a, .shepherdFrame dest cls (a :: ws) ∈ b.sent

theorem FrameSent.sends {dest cls : Nat} {ws : List Nat} {b c : Body} (h : FrameSent dest cls ws b) (k : Sends b c) : FrameSent dest cls ws c := by
  obtain ⟨a, ha⟩ := h
  exact ⟨a, k.sent ha⟩

/-- A frame of class 2 goes out to any module, one of another class to a module that is not held lost (R287). -/
theorem sendFrame_shows (dest cls : Nat) (ws : List Nat) (b : Body) : Sends b (sendFrame dest cls ws b)
    ∧ (cls = 2 ∨ flagF b R.KLK_ROUTE.lost dest = false → FrameSent dest cls ws (sendFrame dest cls ws b)) := by
  obtain ⟨a, ha⟩ : ∃ a, (SMap.get b.host.txFrames 0 (cls * 16384 + dest) + 1) % 65536 = a := ⟨_, rfl⟩
  obtain ⟨c, hc⟩ : ∃ c, updHost (fun h => { h with txFrames := SMap.put h.txFrames 0 (cls * 16384 + dest) a }) b = c := ⟨_, rfl⟩
  have hbc : Sends b c := hc ▸ updHost_sends _ b
  have hlost : flagF c R.KLK_ROUTE.lost dest = flagF b R.KLK_ROUTE.lost dest := by
    rw [← hc]
    rfl
  have htold : ∀ d, Sends (emit (.shepherdFrame dest cls (a :: ws)) c) d → FrameSent dest cls ws d := fun d hd => ⟨a, hd.sent List.mem_cons_self⟩
  have hall : ∀ d, Sends (emit (.shepherdFrame dest cls (a :: ws)) c) d → Sends b d := fun d hd => hbc.trans ((Sends.emit _ c).trans hd)
  unfold sendFrame
  simp only [ha, hc, hlost]
  by_cases hcls : cls = 2
  · simp only [hcls, ne_eq, not_true_eq_false, false_and, if_false, if_true]
    rw [hcls] at htold hall
    exact ⟨hall _ (sendVia_sends _ _ _ _), fun _ => htold _ (sendVia_sends _ _ _ _)⟩
  · cases hl : flagF b R.KLK_ROUTE.lost dest
    · simp only [Bool.false_eq_true, and_false, if_false, if_neg hcls]
      exact ⟨hall _ (sendModule_sends _ _ _ _), fun _ => htold _ (sendModule_sends _ _ _ _)⟩
    · simp only [ne_eq, hcls, not_false_eq_true, and_self, if_true]
      exact ⟨hbc, fun h => absurd h (by simp)⟩

theorem sendFrame_sends (dest cls : Nat) (ws : List Nat) (b : Body) : Sends b (sendFrame dest cls ws b) := (sendFrame_shows dest cls ws b).1

theorem sendFail_sends (dest : Nat) (ws : List Nat) (b : Body) : Sends b (sendFail dest ws b) := by
  unfold sendFail
  split
  · exact .refl b
  · exact sendFrame_sends dest 1 ws b

theorem sendFail_told {dest : Nat} {ws : List Nat} {b : Body} (hme : dest ≠ moduleIndex b) (hin : flagF b R.KLK_ROUTE.lost dest = false) :
    FrameSent dest 1 ws (sendFail dest ws b) := by
  unfold sendFail
  rw [if_neg hme]
  exact (sendFrame_shows dest 1 ws b).2 (.inr hin)

theorem Sends.moduleIndex_eq {b c : Body} (h : Sends b c) : moduleIndex c = moduleIndex b := h.within.getF_eq (f := R.GBL_MODULE.index) (by decide) (by decide) 0

theorem Sends.lost_eq {b c : Body} (h : Sends b c) (m : Nat) : flagF c R.KLK_ROUTE.lost m = flagF b R.KLK_ROUTE.lost m :=
  h.within.flagF_eq (by decide) (by decide) m

/-- One frame to each of several modules that are not held lost. -/
theorem sendFails_told {ws : Nat → Body → List Nat} (hws : ∀ m b c, Sends b c → ws m c = ws m b) (m : Nat) (l : List Nat) (b : Body)
    (hme : m ≠ moduleIndex b) (hin : flagF b R.KLK_ROUTE.lost m = false) (hm : m ∈ l) :
    FrameSent m 1 (ws m b) (forEach l (fun x b => sendFail x (ws x b) b) b) := by
  induction l generalizing b with
  | nil => cases hm
  | cons x l ih =>
    have hx := sendFail_sends x (ws x b) b
    rw [forEach_cons]
    by_cases hxm : m = x
    · rw [hxm] at hme hin ⊢
      exact (sendFail_told hme hin).sends (Sends.forEach (fun x c => sendFail_sends x (ws x c) c) l _)
    · have h := ih (sendFail x (ws x b) b) (by rw [hx.moduleIndex_eq]; exact hme) ((hx.lost_eq m).trans hin) ((List.mem_cons.mp hm).resolve_left hxm)
      rw [hws m b _ hx] at h
      exact h

/-- One frame of class 2 to each of several modules. -/
theorem sendReturns_told {ws : Body → List Nat} (hws : ∀ b c, Sends b c → ws c = ws b) (m : Nat) (l : List Nat) (b : Body) (hm : m ∈ l) :
    FrameSent m 2 (ws b) (forEach l (fun x b => sendFrame x 2 (ws b) b) b) := by
  induction l generalizing b with
  | nil => cases hm
  | cons x l ih =>
    obtain ⟨hx, htold⟩ := sendFrame_shows x 2 (ws b) b
    rw [forEach_cons]
    by_cases hxm : m = x
    · rw [hxm]
      exact (htold (.inl rfl)).sends (Sends.forEach (fun x c => sendFrame_sends x 2 (ws c) c) l _)
    · have h := ih (sendFrame x 2 (ws b) b) ((List.mem_cons.mp hm).resolve_left hxm)
      rw [hws b _ hx] at h
      exact h

/-! ## Effects of firmware (R488) -/

section Firmware

variable {c : Instr} {s : State}

theorem runs_firmware {f : Body → Body} {b : Body} {ps : List Part} {P : Body → Prop} (hx : exec c s = .next (byFirmware (onBody f) s))
    (hact : shepherdActive s.body = true) (hb : f s.body = b) (ho : Only ps s.body b) (hP : P b) : Runs c s ps P := by
  refine runs_of_next hx ?_ ho hP
  unfold byFirmware
  rw [if_pos hact, ← hb]
  rfl

theorem runsS_firmware {f : Body → Body} {b : Body} {P : State → Prop} (hx : exec c s = .next (byFirmware (onBody f) s))
    (hact : shepherdActive s.body = true) (hb : f s.body = b) (hP : P { s with body := b }) : RunsS c s P := by
  refine runsS_of_next hx ?_ (by rfl) hP
  unfold byFirmware
  rw [if_pos hact, ← hb]
  rfl

end Firmware

end Sys2Proof.Machine

/-! SUPPORT. Pairing, filling and return of a module (O43). -/

namespace Sys2Proof.Machine

/-- The parts that a command changes that also keeps a note of the failover. -/
def failFrameParts : List Part := .fail :: frameParts

theorem Sends.failing {b c : Body} (h : Sends b c) : Only failFrameParts b c := h.within.only.mono fun _ => List.mem_cons_of_mem _

theorem updFail_only (f : Failover → Failover) (b : Body) : Only [.fail] b (updFail f b) :=
  fun q => by cases q <;> first | exact .inl (by decide) | exact .inr rfl

/-! ## Pairing (R305, R318, R319) -/

/-- One controller mirrors to the partner. -/
def mirrorTo (p k : Nat) (b : Body) : Body := setFlag (setF b R.MEM_MIR_CFG.partner k p) R.MEM_MIR_CFG.enable k true

/-- Controller `k` mirrors to module `p`. -/
def Mirrors (p : Nat) (b : Body) (k : Nat) : Prop := flagF b R.MEM_MIR_CFG.enable k = true ∧ getF b R.MEM_MIR_CFG.partner k = p

/-- The fields of the mirror of a controller. -/
def mirrorFields : List Field := [R.MEM_MIR_CFG.partner, R.MEM_MIR_CFG.enable]

theorem mirrorTo_shows {p : Nat} (hp : p < 16384) (k : Nat) (b : Body) : Within [.regs] mirrorFields b (mirrorTo p k b) ∧ Mirrors p (mirrorTo p k b) k
    ∧ ∀ j, j ≠ k → Mirrors p b j → Mirrors p (mirrorTo p k b) j := by
  unfold mirrorTo
  refine ⟨by constructor <;> simp (disch := decide), ⟨flagF_setFlag_same _ _ _ _ (by decide), ?_⟩, fun j hj hm => ?_⟩
  · rw [getF_setFlag_other _ _ (by decide) (by decide) (by decide)]
    exact getF_setF_fits hp
  · have hother : ∀ f : Field, f = R.MEM_MIR_CFG.enable ∨ f = R.MEM_MIR_CFG.partner → getF (mirrorTo p k b) f j = getF b f j := by
      rintro f (rfl | rfl) <;> exact (getF_setF_ne _ _ _ _ _ _ (by simp [R.MEM_MIR_CFG.enable, R.MEM_MIR_CFG.partner]; omega)).trans
        (getF_setF_ne _ _ _ _ _ _ (by simp [R.MEM_MIR_CFG.enable, R.MEM_MIR_CFG.partner]; omega))
    exact ⟨(congrArg (· == 1) (hother _ (.inl rfl))).trans hm.1, (hother _ (.inr rfl)).trans hm.2⟩

theorem mirrorAll_shows {p : Nat} (hp : p < 16384) (l : List Nat) (b : Body) : Within [.regs] mirrorFields b (forEach l (mirrorTo p) b)
    ∧ ∀ k, k ∈ l ∨ Mirrors p b k → Mirrors p (forEach l (mirrorTo p) b) k := by
  induction l generalizing b with
  | nil => exact ⟨.refl _ _ b, fun k h => h.resolve_left List.not_mem_nil⟩
  | cons j l ih =>
    obtain ⟨hw, hj, hne⟩ := mirrorTo_shows hp j b
    obtain ⟨ihw, ihs⟩ := ih (mirrorTo p j b)
    refine ⟨hw.trans ihw, fun k h => ihs k ?_⟩
    by_cases hk : k = j
    · rw [hk]
      exact .inr hj
    · exact h.imp (fun hm => (List.mem_cons.mp hm).resolve_left hk) (hne k hk)

theorem Within.mirrors {ps : List Part} {fs : List Field} {b c : Body} (h : Within ps fs b c) (he : R.MEM_MIR_CFG.enable.idx ∉ fs.map Field.idx)
    (hq : R.MEM_MIR_CFG.partner.idx ∉ fs.map Field.idx) {p k : Nat} (hm : Mirrors p b k) : Mirrors p c k :=
  ⟨(h.flagF_eq (by decide) he k).trans hm.1, (h.getF_eq (by decide) hq k).trans hm.2⟩

/-- A pair that is ready is armed (R318 step 4). -/
theorem armPair_arms {b : Body} {r : PairRec} (hp : r.partner < 16384) (hpair : b.fail.pair = some r) (hsent : b.fail.sentPushed = true)
    (hgot : b.fail.gotPushed = true) (hst : b.fail.pairState = 1) : Only failFrameParts b (armPair b) ∧ (armPair b).fail.pairState = 2
      ∧ (moduleIndex b, r.partner) ∈ (armPair b).fail.notes ∧ ∀ k, k < 12 → Mirrors r.partner (armPair b) k := by
  obtain ⟨hw, hall⟩ := mirrorAll_shows hp (List.range 12) b
  obtain ⟨c, hc⟩ : ∃ c, forEach (List.range 12) (mirrorTo r.partner) b = c := ⟨_, rfl⟩
  obtain ⟨d, hd⟩ : ∃ d, updFail (fun f => { f with pairState := 2, notes := f.notes.filter (fun x => x.1 != moduleIndex b) ++ [(moduleIndex b, r.partner)] }) c = d := ⟨_, rfl⟩
  rw [hc] at hw hall
  have hx : armPair b = forEach (otherMembers d) (fun m b' => sendFail m [3, moduleIndex b, r.partner, 3] b') d := by
    unfold armPair
    rw [hpair]
    simp only [hsent, hgot, hst, and_self, if_true]
    rw [← hd, ← hc]
    rfl
  have hsends : Sends d (armPair b) := by
    rw [hx]
    exact Sends.forEach (fun m c => sendFail_sends m _ c) _ _
  have hfail : (armPair b).fail = d.fail := hsends.within.same (p := .fail) (by decide)
  have hcd : Only failFrameParts b d := by
    rw [← hd]
    exact (hw.only.mono (by decide)).trans ((updFail_only _ c).mono (by decide))
  refine ⟨hcd.trans hsends.failing, ?_, ?_, fun k hk => hsends.within.mirrors (by decide) (by decide) ?_⟩
  · rw [hfail, ← hd]
    rfl
  · rw [hfail, ← hd]
    exact List.mem_append_right _ (List.mem_singleton.mpr rfl)
  · rw [← hd]
    exact hall k (.inl (List.mem_range.mpr hk))

/-- A pair in which one copy is still to be made is not armed. -/
theorem armPair_waits {b : Body} (h : b.fail.sentPushed = false ∨ b.fail.gotPushed = false) : armPair b = b := by
  unfold armPair
  split
  · rfl
  · rw [if_neg]
    rcases h with h | h <;> simp [h]

section Pair

variable {m q : Nat} {s : State}

theorem pairNote_lift (hm : m < 16384) (hq : q < 16384) (st : Nat) :
    ∃ t, exec (.pairNote m q st) s = .next t ∧ t = byFirmware (onBody (pairNote m q st)) s := by
  refine ⟨_, ?_, rfl⟩
  show onUnitS (isModule m && isModule q) _ s = _
  unfold onUnitS isModule
  rw [decide_eq_true hm, decide_eq_true hq]
  rfl

theorem pairNote_exec (hm : m < 16384) (hq : q < 16384) (st : Nat) :
    exec (.pairNote m q st) s = .next (byFirmware (onBody (pairNote m q st)) s) := by
  obtain ⟨t, hx, ht⟩ := pairNote_lift (s := s) hm hq st
  rw [hx, ht]

theorem pair_noted (hact : shepherdActive s.body = true) (hm : m < 16384) (hq : q < 16384) : Runs (.pairNote m q 3) s [.fail] (fun b =>
    b.fail = { s.body.fail with notes := s.body.fail.notes.filter (fun x => x.1 != m) ++ [(m, q)] }) :=
  runs_firmware (pairNote_exec hm hq 3) hact rfl (updFail_only _ _) rfl

theorem pair_dropped (hact : shepherdActive s.body = true) (hm : m < 16384) (hq : q < 16384) (hne : q ≠ moduleIndex s.body) :
    Runs (.pairNote m q 0) s [.fail] (fun b => b.fail = { s.body.fail with notes := s.body.fail.notes.filter (fun x => x.1 != m && x.2 != m) }) := by
  have hx : pairNote m q 0 s.body = updFail (fun f => { f with notes := f.notes.filter (fun x => x.1 != m && x.2 != m) }) s.body := by
    unfold pairNote
    simp [hne]
  exact runs_firmware (pairNote_exec hm hq 0) hact hx (updFail_only _ _) rfl

/-- What the partner's note of its copy does (R318 step 3). -/
theorem pairNote_mine {r : PairRec} {b : Body} (hpair : b.fail.pair = some r) (hr : r.partner = m) :
    pairNote m (moduleIndex b) 2 b = armPair (updFail (fun f => { f with gotPushed := true }) b) := by
  unfold pairNote
  simp [hpair, hr]

theorem pair_waits {r : PairRec} (hact : shepherdActive s.body = true) (hm : m < 16384) (hme : moduleIndex s.body < 16384)
    (hpair : s.body.fail.pair = some r) (hr : r.partner = m) (hsent : s.body.fail.sentPushed = false) :
    Runs (.pairNote m (moduleIndex s.body) 2) s [.fail] (fun b => b.fail = { s.body.fail with gotPushed := true }) :=
  runs_firmware (pairNote_exec hm hme 2) hact ((pairNote_mine hpair hr).trans (armPair_waits (.inl hsent))) (updFail_only _ _) rfl

theorem pair_arms {r : PairRec} (hact : shepherdActive s.body = true) (hm : m < 16384) (hme : moduleIndex s.body < 16384)
    (hpair : s.body.fail.pair = some r) (hr : r.partner = m) (hsent : s.body.fail.sentPushed = true) (hst : s.body.fail.pairState = 1) :
    Runs (.pairNote m (moduleIndex s.body) 2) s failFrameParts (fun b => b.fail.pairState = 2 ∧ (moduleIndex s.body, m) ∈ b.fail.notes
      ∧ ∀ k, k < 12 → Mirrors m b k) := by
  subst hr
  obtain ⟨ho, hstate, hnotes, hall⟩ := armPair_arms (b := updFail (fun f => { f with gotPushed := true }) s.body) hm hpair hsent rfl hst
  exact runs_firmware (pairNote_exec hm hme 2) hact (pairNote_mine hpair rfl) (((updFail_only _ _).mono (by decide)).trans ho) ⟨hstate, hnotes, hall⟩

theorem forEach_emit_shows {α : Type} (f : α → Sent) (l : List α) (b : Body) : Sends b (forEach l (fun x b => emit (f x) b) b)
    ∧ ∀ x, x ∈ l → f x ∈ (forEach l (fun x b => emit (f x) b) b).sent := by
  have hsends : ∀ (l : List α) (b : Body), Sends b (forEach l (fun x b => emit (f x) b) b) := Sends.forEach fun x c => .emit (f x) c
  refine ⟨hsends l b, ?_⟩
  induction l generalizing b with
  | nil => exact fun x hx => absurd hx List.not_mem_nil
  | cons y l ih =>
    intro x hx
    rw [forEach_cons]
    rcases List.mem_cons.mp hx with h | h
    · rw [h]
      exact (hsends l _).sent List.mem_cons_self
    · exact ih _ x h

theorem pair_copied {r : PairRec} (hact : shepherdActive s.body = true) (hpair : s.body.fail.pair = some r) (hr : r.partner = m)
    (hne : m ≠ moduleIndex s.body) (hst : s.body.fail.pairState = 1) (hsent : s.body.fail.sentPushed = false) (hgot : s.body.fail.gotPushed = false)
    (hin : flagF s.body R.KLK_ROUTE.lost m = false) : Runs .pairRangeCopyComplete s failFrameParts (fun b => b.fail = { s.body.fail with sentPushed := true }
      ∧ FrameSent m 1 [3, moduleIndex s.body, m, 2] b ∧ ∀ x, x ∈ r.ranges → .copy m x.1 (x.1 + 0xA00000000) x.2 ∈ b.sent) := by
  obtain ⟨hcopies, hall⟩ := forEach_emit_shows (fun x : Nat × Nat => Sent.copy m x.1 (x.1 + 0xA00000000) x.2) r.ranges s.body
  obtain ⟨c, hc⟩ : ∃ c, forEach r.ranges (fun x b => emit (.copy m x.1 (x.1 + 0xA00000000) x.2) b) s.body = c := ⟨_, rfl⟩
  rw [hc] at hcopies hall
  have hsend := sendFail_sends m [3, moduleIndex c, m, 2] c
  have htold : FrameSent m 1 [3, moduleIndex c, m, 2] (sendFail m [3, moduleIndex c, m, 2] c) :=
    sendFail_told (by rw [hcopies.moduleIndex_eq]; exact hne) ((hcopies.lost_eq m).trans hin)
  have hfail : (sendFail m [3, moduleIndex c, m, 2] c).fail = s.body.fail := (hcopies.trans hsend).within.same (p := .fail) (by decide)
  have hx : rangesCopied s.body = updFail (fun f => { f with sentPushed := true }) (sendFail m [3, moduleIndex c, m, 2] c) := by
    unfold rangesCopied
    rw [hpair]
    simp only [hst, hsent, ne_eq, not_true_eq_false, Bool.false_eq_true, or_self, if_false, hr, hc]
    exact armPair_waits (.inr ((congrArg Failover.gotPushed hfail).trans hgot))
  refine runs_firmware (f := rangesCopied) rfl hact hx ((hcopies.trans hsend).failing.trans ((updFail_only _ _).mono (by decide))) ⟨?_, ?_, fun x hx => hsend.sent (hall x hx)⟩
  · show { (sendFail m [3, moduleIndex c, m, 2] c).fail with sentPushed := true } = _
    rw [hfail]
  · rw [← hcopies.moduleIndex_eq]
    exact htold

end Pair

/-! ## Filling (R324, R325) -/

section Fill

variable {lost m : Nat} {s : State}

theorem fillOrder_joined {f : Fill} {b : Body} (hj : joined b = true) : fillOrder f b = beginFill f b := if_pos hj

/-- The note that a fill begins. -/
def fillNoted (f : Fill) (b : Body) : Body :=
  updFail (fun x => { x with fill := some f, usedSpares := if x.usedSpares.contains f.spare then x.usedSpares else x.usedSpares ++ [f.spare] }) b

theorem spare_noted (f : Fill) (b : Body) : f.spare ∈ (fillNoted f b).fail.usedSpares := by
  show f.spare ∈ (if b.fail.usedSpares.contains f.spare then b.fail.usedSpares else b.fail.usedSpares ++ [f.spare])
  split
  next h => exact List.contains_iff_mem.mp h
  · exact List.mem_append_right _ (List.mem_singleton.mpr rfl)

theorem fill_ordered {spare : Nat} (hact : shepherdActive s.body = true) (hj : joined s.body = true) (hne : spare ≠ moduleIndex s.body) :
    Runs (.fillOrder lost m spare) s [.fail] (fun b => b.fail.fill = some ⟨lost, m, spare⟩ ∧ spare ∈ b.fail.usedSpares) := by
  have hx : fillOrder ⟨lost, m, spare⟩ s.body = fillNoted ⟨lost, m, spare⟩ s.body := (fillOrder_joined hj).trans (if_neg hne)
  exact runs_firmware (f := fillOrder ⟨lost, m, spare⟩) rfl hact hx (updFail_only _ _) ⟨rfl, spare_noted _ _⟩

theorem loadStream_only (d l : Nat) (bs : List Nat) (b : Body) : Only [.stations] b (loadStream d l bs b) := by
  unfold loadStream
  split
  · exact .refl _ b
  · simp (disch := decide)

theorem awaitCatch_only (d l : Nat) (b : Body) : Only [.stations, .regs] b (awaitCatch d l b) := by
  unfold awaitCatch
  split
  · exact .refl _ b
  · simp (disch := decide)

/-- The fields of the mirror offset and the staging region that a hot spare sets. -/
def spareFields : List Field := [R.MEM_MIR_OFFSET.offset, R.MEM_STG_BASE.base, R.MEM_STG_SIZE.size_mib]

/-- A hot spare prepares the region of one controller. -/
def spareRegion (k : Nat) (b : Body) : Body :=
  setF (setF (setF b R.MEM_MIR_OFFSET.offset k (2 ^ 64 - 0xA00000000)) R.MEM_STG_BASE.base k ((k + 1) * stackBytes - 256 * 1048576)) R.MEM_STG_SIZE.size_mib k 256

theorem spareRegion_within (k : Nat) (b : Body) : Within [.regs] spareFields b (spareRegion k b) := by
  unfold spareRegion
  constructor <;> simp (disch := decide)

/-- What the hot spare of a fill does, from the body in which its stations are parked. -/
def spareReady (b : Body) : Body :=
  updFlock (fun x => { x with filling := true, runOpen := true }) (setFlag (forEach (List.range 12) spareRegion
    (updFail (fun x => { x with held := [] }) (setFlag b R.MEM_COMMIT_CTRL.hold 0 true))) R.TLY_STROKE_CTRL.enable 0 true)

theorem beginFill_spare {f : Fill} {b : Body} (hme : f.spare = moduleIndex b) : ∃ c, Only [.stations, .regs] (fillNoted f b) c
    ∧ beginFill f b = noteRun (fillNoted f b) (spareReady c) := by
  unfold beginFill
  simp only []
  rw [if_pos hme]
  refine ⟨_, ?_, rfl⟩
  refine Only.trans (c := forEach _ _ (fillNoted f b)) (forEach_only (fun x c => (loadStream_only _ _ _ c).mono (by decide)) _ _)
    (forEach_only (fun x c => ?_) _ _)
  split
  · refine Only.trans ?_ (awaitCatch_only _ _ _)
    simp (disch := decide)
  · exact .refl _ c

theorem spareReady_shows (c : Body) : (spareReady c).flock.filling = true ∧ (spareReady c).flock.runOpen = true ∧ (spareReady c).fail.fill = c.fail.fill
    ∧ flagF (spareReady c) R.MEM_COMMIT_CTRL.hold 0 = true := by
  obtain ⟨d, hd⟩ : ∃ d, updFail (fun x => { x with held := [] }) (setFlag c R.MEM_COMMIT_CTRL.hold 0 true) = d := ⟨_, rfl⟩
  have hregions : Within [.regs] spareFields d (forEach (List.range 12) spareRegion d) := forEach_within spareRegion_within _ d
  obtain ⟨e, he⟩ : ∃ e, forEach (List.range 12) spareRegion d = e := ⟨_, rfl⟩
  rw [he] at hregions
  have hx : spareReady c = updFlock (fun x => { x with filling := true, runOpen := true }) (setFlag e R.TLY_STROKE_CTRL.enable 0 true) := by
    unfold spareReady
    rw [hd, he]
  rw [hx]
  refine ⟨rfl, rfl, ?_, ?_⟩
  · show e.fail.fill = c.fail.fill
    rw [hregions.same (p := .fail) (by decide), ← hd]
    rfl
  · show flagF (setFlag e R.TLY_STROKE_CTRL.enable 0 true) R.MEM_COMMIT_CTRL.hold 0 = true
    rw [flagF_setFlag_other _ _ (by decide) (by decide) (by decide), hregions.flagF_eq (by decide) (by decide), ← hd]
    exact flagF_setFlag_same c R.MEM_COMMIT_CTRL.hold 0 true (by decide)

theorem fill_begun (hact : shepherdActive s.body = true) (hj : joined s.body = true) : RunsS (.fillOrder lost m (moduleIndex s.body)) s (fun t =>
    t.body.flock.filling = true ∧ t.body.flock.runOpen = true ∧ t.body.fail.fill = some ⟨lost, m, moduleIndex s.body⟩
      ∧ flagF t.body R.MEM_COMMIT_CTRL.hold 0 = true) := by
  obtain ⟨c, hc, hx⟩ := beginFill_spare (f := ⟨lost, m, moduleIndex s.body⟩) (b := s.body) rfl
  obtain ⟨hfilling, hrun, hfill, hhold⟩ := spareReady_shows c
  have hnoted : c.fail.fill = some ⟨lost, m, moduleIndex s.body⟩ := congrArg Failover.fill ((hc .fail).resolve_left (by decide))
  obtain ⟨e, he⟩ : ∃ e, spareReady c = e := ⟨_, rfl⟩
  rw [he] at hx hfilling hrun hfill hhold
  have hnote := noteRun_within (fillNoted ⟨lost, m, moduleIndex s.body⟩ s.body) e
  refine runsS_firmware (f := fillOrder ⟨lost, m, moduleIndex s.body⟩) rfl hact ((fillOrder_joined hj).trans hx) ⟨?_, ?_, ?_, ?_⟩
  · exact (congrArg Flock.filling (hnote.same (p := .flock) (by decide))).trans hfilling
  · exact (congrArg Flock.runOpen (hnote.same (p := .flock) (by decide))).trans hrun
  · exact (congrArg Failover.fill (hnote.same (p := .fail) (by decide))).trans (hfill.trans hnoted)
  · exact (hnote.flagF_eq (by decide) (by decide) 0).trans hhold

theorem fill_copied {f : Fill} {rs : List (Nat × Nat)} (hact : shepherdActive s.body = true) (hfill : s.body.fail.fill = some f)
    (hst : f.standin = moduleIndex s.body) (hne : f.spare ≠ moduleIndex s.body) (hmir : s.body.fail.mirroring = true)
    (hin : flagF s.body R.KLK_ROUTE.lost f.spare = false) (hall : ∀ r, r ∈ s.body.fail.held → coversAll rs (r.1 - 0xA00000000, r.2) = true) :
    Runs (.fillCopyComplete rs) s frameParts (fun b => FrameSent f.spare 1 [5, f.lost] b ∧ ∀ x, x ∈ rs → .copy f.spare (x.1 + 0xA00000000) x.1 x.2 ∈ b.sent) := by
  obtain ⟨hcopies, hmem⟩ := forEach_emit_shows (fun x : Nat × Nat => Sent.copy f.spare (x.1 + 0xA00000000) x.1 x.2) rs s.body
  obtain ⟨c, hc⟩ : ∃ c, forEach rs (fun x b => emit (.copy f.spare (x.1 + 0xA00000000) x.1 x.2) b) s.body = c := ⟨_, rfl⟩
  rw [hc] at hcopies hmem
  have hheld : s.body.fail.held.all (fun r => coversAll rs (r.1 - 0xA00000000, r.2)) = true := List.all_eq_true.mpr hall
  have hx : fillCopied rs s.body = sendFail f.spare [5, f.lost] c := by
    unfold fillCopied
    rw [hfill]
    simp only [hst, hmir, hheld, ne_eq, not_true_eq_false, Bool.not_true, Bool.false_eq_true, or_self, if_false, hc]
  have hsend := sendFail_sends f.spare [5, f.lost] c
  exact runs_firmware (f := fillCopied rs) rfl hact hx (hcopies.trans hsend).within.only
    ⟨sendFail_told (by rw [hcopies.moduleIndex_eq]; exact hne) ((hcopies.lost_eq _).trans hin), fun x h => hsend.sent (hmem x h)⟩

theorem fill_released {f : Fill} (hact : shepherdActive s.body = true) (hfill : s.body.fail.fill = some f) (hfilling : s.body.flock.filling = true) :
    Runs (.fillCopied f.lost) s [.regs] (fun b => flagF b R.MEM_COMMIT_CTRL.hold 0 = false ∧ RegsBut [R.MEM_COMMIT_CTRL.hold] 0 s.body b) := by
  have hx : fillRelease f.lost s.body = setFlag s.body R.MEM_COMMIT_CTRL.hold 0 false := by
    unfold fillRelease
    rw [if_pos ⟨hfilling, by rw [hfill]; rfl⟩]
  exact runs_firmware (f := fillRelease f.lost) rfl hact hx (by simp (disch := decide)) ⟨flagF_setFlag_same _ _ _ _ (by decide), by simp (disch := decide)⟩

theorem standin_loaded {f : Fill} {addr len : Nat} (hact : shepherdActive s.body = true) (hfill : s.body.fail.fill = some f)
    (hfilling : s.body.flock.filling = true) (hhold : flagF s.body R.MEM_COMMIT_CTRL.hold 0 = false)
    (hok : planChecks (readPlanImage addr len s).1.1 len (readPlanImage addr len s).1.2.isEmpty (some f.lost) (readPlanImage addr len s).2.body.flock.planLevel addr
      (setF (readPlanImage addr len s).2.body R.TLY_STROKE_STATUS.state 0 0) = none) :
    RunsS (.standinLoadComplete addr len) s (fun t => t.body.flock.filling = false ∧ t.mem = s.mem
      ∧ t.body.fail.standPlan = some (planOf (readPlanImage addr len s).1.1 addr len)) := by
  obtain ⟨r, hr⟩ : ∃ r, readPlanImage addr len s = r := ⟨_, rfl⟩
  have hsame := readPlanImage_same addr len s
  rw [hr] at hok hsame ⊢
  obtain ⟨c, hc⟩ : ∃ c, updFlock (fun x => { x with filling := false }) (updFail (fun x => { x with standPlan := some (planOf r.1.1 addr len) }) r.2.body) = c := ⟨_, rfl⟩
  have hx : standinLoaded addr len s = { r.2 with body := sendFail (seatIx r.2.body) [6, f.lost] (noteRun r.2.body c) } := by
    unfold standinLoaded
    rw [hfill]
    simp only [hfilling, hhold, hr, hok, Bool.not_true, Bool.false_eq_true, or_self, if_false]
    rw [← hc]
    rfl
  have hnote := noteRun_within r.2.body c
  have hsend := (sendFail_sends (seatIx r.2.body) [6, f.lost] (noteRun r.2.body c)).within
  have hflock : (sendFail (seatIx r.2.body) [6, f.lost] (noteRun r.2.body c)).flock = c.flock := (hsend.same (p := .flock) (by decide)).trans (hnote.same (p := .flock) (by decide))
  have hfail : (sendFail (seatIx r.2.body) [6, f.lost] (noteRun r.2.body c)).fail = c.fail := (hsend.same (p := .fail) (by decide)).trans (hnote.same (p := .fail) (by decide))
  refine runsS_of_next (t := byFirmware (standinLoaded addr len) s) rfl ((if_pos hact).trans hx) hsame.queue ⟨?_, hsame.mem, ?_⟩
  · refine (congrArg Flock.filling hflock).trans ?_
    rw [← hc]
    rfl
  · refine (congrArg Failover.standPlan hfail).trans ?_
    rw [← hc]
    rfl

theorem mem_otherMembers {x : Nat} {b : Body} (hx : x ∈ otherMembers b) : x ≠ moduleIndex b ∧ flagF b R.KLK_ROUTE.lost x = false := by
  have h := (List.mem_filter.mp hx).2
  simp only [moduleLive, Bool.and_eq_true, Bool.or_eq_true, bne_iff_ne, beq_iff_eq, Bool.not_eq_true'] at h
  exact ⟨h.1, (h.2.resolve_left h.1).1⟩

/-- The modules that the seat names the stand-in's stroke to (R325 step 6). -/
def toldOfFill (f : Fill) (b : Body) : List Nat :=
  let ms := (otherMembers b).filter (· != f.lost)
  if f.spare = moduleIndex b ∨ ms.contains f.spare then ms else ms ++ [f.spare]

theorem mem_toldOfFill {f : Fill} {x : Nat} {b : Body} (hx : x ∈ otherMembers b) (hne : x ≠ f.lost) : x ∈ toldOfFill f b := by
  have hm : x ∈ (otherMembers b).filter (· != f.lost) := List.mem_filter.mpr ⟨hx, by simp [hne]⟩
  unfold toldOfFill
  simp only []
  split
  · exact hm
  · exact List.mem_append_left _ hm

theorem fill_done {f : Fill} (hact : shepherdActive s.body = true) (hfill : s.body.fail.fill = some f) (hseat : isSeat s.body = true) :
    Runs (.fillDone f.lost) s (.fail :: .flock :: frameParts) (fun b =>
      b.fail.switch = some ⟨getF s.body R.TLY_STROKE_NUM.stroke 0 + 2, f.lost, f.spare, 2⟩
        ∧ ∃ l, b.flock.seatWait = some (getF s.body R.TLY_STROKE_NUM.stroke 0 + 2, l) ∧ ∀ x, x ∈ otherMembers s.body → x ≠ f.lost →
          x ∈ l ∧ FrameSent x 1 [7, getF s.body R.TLY_STROKE_NUM.stroke 0 + 2, f.lost, f.spare, 2] b) := by
  obtain ⟨st, hst⟩ : ∃ st, getF s.body R.TLY_STROKE_NUM.stroke 0 + 2 = st := ⟨_, rfl⟩
  obtain ⟨l, hl⟩ : ∃ l, toldOfFill f s.body = l := ⟨_, rfl⟩
  obtain ⟨c, hc⟩ : ∃ c, forEach l (fun m b => sendFail m [7, st, f.lost, f.spare, 2] b) s.body = c := ⟨_, rfl⟩
  have hsends : Sends s.body c := hc ▸ Sends.forEach (fun m b => sendFail_sends m _ b) l s.body
  have hx : fillDone f.lost s.body = updFlock (fun x => { x with seatWait := some (st, l) }) (updFail (fun x => { x with switch := some ⟨st, f.lost, f.spare, 2⟩ }) c) := by
    unfold fillDone
    rw [hfill]
    simp only [hseat, Bool.not_true, Bool.false_eq_true, ne_eq, not_true_eq_false, or_self, if_false]
    rw [← hc, ← hl, ← hst]
    rfl
  rw [hst]
  refine runs_firmware (f := fillDone f.lost) rfl hact hx ?_ ⟨rfl, l, rfl, fun x hx hne => ?_⟩
  · have ho := hsends.within.only.mono (qs := .fail :: .flock :: frameParts) fun _ h => List.mem_cons_of_mem _ (List.mem_cons_of_mem _ h)
    refine ho.trans ?_
    exact fun q => by cases q <;> first | exact .inl (by decide) | exact .inr rfl
  · have hm : x ∈ l := hl ▸ mem_toldOfFill hx hne
    obtain ⟨hme, hin⟩ := mem_otherMembers hx
    have htold : FrameSent x 1 [7, st, f.lost, f.spare, 2] c := by
      rw [← hc]
      exact sendFails_told (ws := fun _ _ => [7, st, f.lost, f.spare, 2]) (fun _ _ _ _ => rfl) x l s.body hme hin hm
    exact ⟨hm, htold⟩

theorem standin_taken {st by_ kind : Nat} (hact : shepherdActive s.body = true) : Runs (.standin st lost by_ kind) s failFrameParts (fun b =>
    b.fail = { s.body.fail with switch := some ⟨st, lost, by_, kind⟩ } ∧ (seatIx s.body ≠ moduleIndex s.body →
      flagF s.body R.KLK_ROUTE.lost (seatIx s.body) = false → FrameSent (seatIx s.body) 1 [8, st, moduleIndex s.body] b)) := by
  obtain ⟨c, hc⟩ : ∃ c, updFail (fun f => { f with switch := some ⟨st, lost, by_, kind⟩ }) s.body = c := ⟨_, rfl⟩
  have hseat : seatIx c = seatIx s.body := by
    rw [← hc]
    rfl
  have hme : moduleIndex c = moduleIndex s.body := by
    rw [← hc]
    rfl
  have hlost : ∀ m, flagF c R.KLK_ROUTE.lost m = flagF s.body R.KLK_ROUTE.lost m := fun m => by
    rw [← hc]
    rfl
  have hfail : c.fail = { s.body.fail with switch := some ⟨st, lost, by_, kind⟩ } := by
    rw [← hc]
    rfl
  have hsends := sendFail_sends (seatIx s.body) [8, st, moduleIndex s.body] c
  have hx : takeStandin st lost by_ kind s.body = sendFail (seatIx s.body) [8, st, moduleIndex s.body] c := by
    unfold takeStandin
    simp only [hc, hseat, hme]
  refine runs_firmware (f := takeStandin st lost by_ kind) rfl hact hx ?_ ⟨(hsends.within.same (p := .fail) (by decide)).trans hfail, fun hne hin => ?_⟩
  · rw [← hc] at hsends ⊢
    exact ((updFail_only _ _).mono (by decide)).trans hsends.failing
  · exact sendFail_told (by rw [hme]; exact hne) ((hlost _).trans hin)

theorem standin_acked {st : Nat} {l : List Nat} (hact : shepherdActive s.body = true) (hwait : s.body.flock.seatWait = some (st, l))
    (hdue : s.body.flock.timerDue = false) : Runs (.standinAck st m) s [.flock] (fun b =>
      b.flock = { s.body.flock with seatWait := some (st, l.filter (· != m)) }) := by
  have hx : standinAck st m s.body = updFlock (fun x => { x with seatWait := some (st, l.filter (· != m)) }) s.body := by
    unfold standinAck
    rw [hwait]
    simp only [ne_eq, not_true_eq_false, if_false]
    rw [if_neg (by simp [updFlock, hdue])]
  exact runs_firmware (f := standinAck st m) rfl hact hx (fun q => by cases q <;> first | exact .inl (by decide) | exact .inr rfl) rfl

end Fill

/-! ## Return (R330) -/

section Return

variable {m role : Nat} {s : State}

/-- The body in which a listed module is no longer held lost. -/
def listedAgain (m role : Nat) (b : Body) : Body :=
  let b := setF (setF (setFlag b R.KLK_ROUTE.lost m false) R.KLK_ROUTE.kind m (routeKind b m).1) R.KLK_ROUTE.pair m (routeKind b m).2
  let b := updFail (fun f => { f with usedSpares := f.usedSpares.filter (· != m) }) b
  if role = 0 then updFlock (fun f => { f with vacant := if f.vacant.contains m then f.vacant else f.vacant ++ [m] }) b
  else updFlock (fun f => { f with spares := if f.spares.contains m then f.spares else f.spares ++ [m] }) b

theorem listedAgain_shows (m role : Nat) (b : Body) :
    Within [.fail, .flock, .regs] [R.KLK_ROUTE.lost, R.KLK_ROUTE.kind, R.KLK_ROUTE.pair] b (listedAgain m role b)
      ∧ flagF (listedAgain m role b) R.KLK_ROUTE.lost m = false := by
  obtain ⟨k, hk⟩ : ∃ k, routeKind b m = k := ⟨_, rfl⟩
  have hflag : flagF (setF (setF (setFlag b R.KLK_ROUTE.lost m false) R.KLK_ROUTE.kind m k.1) R.KLK_ROUTE.pair m k.2) R.KLK_ROUTE.lost m = false := by
    rw [flagF_setF_other _ _ (by decide) (by decide) (by decide), flagF_setF_other _ _ (by decide) (by decide) (by decide)]
    exact flagF_setFlag_same b R.KLK_ROUTE.lost m false (by decide)
  unfold listedAgain
  rw [hk]
  simp only []
  split
  · exact ⟨by constructor <;> simp (disch := decide), hflag⟩
  · exact ⟨by constructor <;> simp (disch := decide), hflag⟩

theorem return_exec {flock crc : Nat} (hm : m < 16384) : exec (.returnI m role flock crc) s = .next (byFirmware (onBody (takeReturn m role flock crc)) s) := by
  show onUnitS (isModule m) _ s = _
  unfold onUnitS isModule
  rw [decide_eq_true hm]
  rfl

theorem return_taken (hact : shepherdActive s.body = true) (hm : m < 16384) (hj : joined s.body = true) :
    Runs (.returnI m role s.body.flock.flockId s.body.flock.listCrc) s (.fail :: .flock :: frameParts) (fun b =>
      flagF b R.KLK_ROUTE.lost m = false ∧ FrameSent m 2 [2, role, s.body.flock.flockId, s.body.flock.listCrc, moduleIndex s.body, 0] b) := by
  obtain ⟨c, hx, hc, hlost⟩ : ∃ c, takeReturn m role s.body.flock.flockId s.body.flock.listCrc s.body
        = sendFrame m 2 [2, role, s.body.flock.flockId, s.body.flock.listCrc, moduleIndex c, 0] c
      ∧ Within [.fail, .flock, .regs] [R.KLK_ROUTE.lost, R.KLK_ROUTE.kind, R.KLK_ROUTE.pair] s.body c ∧ flagF c R.KLK_ROUTE.lost m = false := by
    unfold takeReturn
    cases hl : flagF s.body R.KLK_ROUTE.lost m
    · refine ⟨s.body, ?_, .refl _ _ _, hl⟩
      simp only [hj, Bool.not_true, Bool.false_eq_true, if_false, and_self, if_true]
    · refine ⟨listedAgain m role s.body, ?_, listedAgain_shows m role s.body⟩
      simp only [hj, Bool.not_true, Bool.false_eq_true, if_false, and_self, if_true]
      rfl
  obtain ⟨hsends, htold⟩ := sendFrame_shows m 2 [2, role, s.body.flock.flockId, s.body.flock.listCrc, moduleIndex c, 0] c
  have hme : moduleIndex c = moduleIndex s.body := hc.getF_eq (f := R.GBL_MODULE.index) (by decide) (by decide) 0
  rw [hme] at hx hsends htold
  exact runs_firmware (f := takeReturn m role _ _) (return_exec hm) hact hx
    ((hc.only.mono (by decide)).trans (hsends.within.only.mono fun _ h => List.mem_cons_of_mem _ (List.mem_cons_of_mem _ h)))
    ⟨(hsends.lost_eq m).trans hlost, htold (.inl rfl)⟩

theorem return_refused {fl crc : Nat} (hact : shepherdActive s.body = true) (hm : m < 16384) (hj : joined s.body = false) :
    Runs (.returnI m role fl crc) s frameParts (fun b => FrameSent m 2 [2, role, fl, crc, moduleIndex s.body, 1] b) := by
  have hx : takeReturn m role fl crc s.body = sendFrame m 2 [2, role, fl, crc, moduleIndex s.body, 1] s.body := by
    unfold takeReturn
    simp only [hj, Bool.not_false, if_true]
  obtain ⟨hsends, htold⟩ := sendFrame_shows m 2 [2, role, fl, crc, moduleIndex s.body, 1] s.body
  exact runs_firmware (f := takeReturn m role fl crc) (return_exec hm) hact hx hsends.within.only (htold (.inl rfl))

theorem return_acked {r : Return} (hact : shepherdActive s.body = true) (hr : s.body.fail.returning = some r) (hm : m ∈ r.left)
    (hne : m ≠ seatIx s.body) : Runs (.returnAck m 0) s [.fail, .regs] (fun b => flagF b R.KLK_ROUTE.lost m = false
      ∧ b.fail = { s.body.fail with returning := some { r with left := r.left.filter (· != m) } } ∧ RegsBut [R.KLK_ROUTE.lost] m s.body b) := by
  obtain ⟨c, hc⟩ : ∃ c, updFail (fun f => { f with returning := some { r with left := r.left.filter (· != m) } }) s.body = c := ⟨_, rfl⟩
  have hseat : seatIx (setFlag c R.KLK_ROUTE.lost m false) = seatIx s.body := by
    unfold seatIx
    rw [getF_setFlag_other _ _ (by decide) (by decide) (by decide), ← hc]
    rfl
  have hx : returnAck m 0 s.body = setFlag c R.KLK_ROUTE.lost m false := by
    unfold returnAck
    rw [hr]
    simp only [List.contains_iff_mem.mpr hm, Bool.not_true, Bool.false_eq_true, if_false, hc, show ¬ (0 = 2) by decide, if_true, hseat, hne, false_and]
  refine runs_firmware (f := returnAck m 0) rfl hact hx ?_ ⟨flagF_setFlag_same _ _ _ _ (by decide), ?_, ?_⟩
  · rw [← hc]
    simp (disch := decide)
  · rw [← hc]
    rfl
  · rw [← hc]
    simp (disch := decide)

theorem return_repeated {r : Return} (hact : shepherdActive s.body = true) (hr : s.body.fail.returning = some r) :
    Runs .returnRepeat s frameParts (fun b => ∀ x, x ∈ r.left → FrameSent x 2 [1, r.role, r.flock, r.crc, moduleIndex s.body, 0] b) := by
  have hx : returnRepeat s.body = forEach r.left (fun m b => sendFrame m 2 [1, r.role, r.flock, r.crc, moduleIndex b, 0] b) s.body := by
    unfold returnRepeat
    rw [hr]
  exact runs_firmware (f := returnRepeat) rfl hact hx (Sends.forEach (fun m b => sendFrame_sends m 2 _ b) _ _).within.only fun x hxm =>
    sendReturns_told (ws := fun b => [1, r.role, r.flock, r.crc, moduleIndex b, 0]) (fun b c h => by rw [h.moduleIndex_eq]) x r.left s.body hxm

theorem logFrom_within (origin cls : Nat) (payload : List Byte) (b : Body) : Within [.logbook] [] b (logFrom origin cls payload b) := by
  unfold logFrom
  split
  · exact .refl _ _ b
  · constructor <;> simp (disch := decide)

theorem logRec_within (cls : Nat) (payload : List Byte) (b : Body) : Within [.logbook] [] b (logRec cls payload b) := logFrom_within 0 cls payload b

theorem return_timedOut {r : Return} (hact : shepherdActive s.body = true) (hr : s.body.fail.returning = some r) :
    Runs .returnTimeout s [.fail, .logbook] (fun b => b.fail = { s.body.fail with returning := none }) := by
  have hx : returnTimeout s.body = forEach r.left (korrelRecord 5) (updFail (fun f => { f with returning := none }) s.body) := by
    unfold returnTimeout
    rw [hr]
  have hrecords := forEach_within (fun m c => (logRec_within 0x41 _ c : Within [.logbook] [] c (korrelRecord 5 m c))) r.left
    (updFail (fun f => { f with returning := none }) s.body)
  exact runs_firmware (f := returnTimeout) rfl hact hx (((updFail_only _ _).mono (by decide)).trans (hrecords.only.mono (by decide)))
    (hrecords.same (p := .fail) (by decide))

end Return

/-- Settles O43: each clause is a lemma above; the frames that a command sends change nothing but what goes out. -/
theorem pairingAndReturn : Obligations.PairingAndReturn := by
  intro m s hm hact
  refine ⟨?noted, ?dropped, ?waits, ?arms, ?ranges, ?ordered, ?begun, ?copied, ?released, ?loaded, ?done, ?standin, ?acked, ?taken, ?refused,
    ?answered, ?again, ?ended⟩
  case noted => exact fun q hq => pair_noted hact hm hq
  case dropped => exact fun q hq hne => pair_dropped hact hm hq hne
  case waits => exact fun r hme hpair hr hsent => pair_waits hact hm hme hpair hr hsent
  case arms => exact fun r hme hpair hr hsent hst => pair_arms hact hm hme hpair hr hsent hst
  case ranges => exact fun r hpair hr hne hst hsent hgot hin => pair_copied hact hpair hr hne hst hsent hgot hin
  case ordered => exact fun lost spare hj hne => fill_ordered hact hj hne
  case begun => exact fun lost hj => fill_begun hact hj
  case copied => exact fun f rs hfill hst hne hmir hin hall => fill_copied hact hfill hst hne hmir hin hall
  case released => exact fun f hfill hfilling => fill_released hact hfill hfilling
  case loaded => exact fun f addr len hfill hfilling hhold hok => standin_loaded hact hfill hfilling hhold hok
  case done => exact fun f hfill hseat => fill_done hact hfill hseat
  case standin => exact fun st lost by_ kind => standin_taken hact
  case acked => exact fun st l hwait hdue => standin_acked hact hwait hdue
  case taken => exact fun role hj => return_taken hact hm hj
  case refused => exact fun role fl crc hj => return_refused hact hm hj
  case answered => exact fun r hr hleft hne => return_acked hact hr hleft hne
  case again => exact fun r hr => return_repeated hact hr
  case ended => exact fun r hr => return_timedOut hact hr

end Sys2Proof.Machine

/-! SUPPORT. Stations stopped and parked, repairs, and the records of firmware (O44): what each changes. -/

namespace Sys2Proof.Machine

/-! ## Stations -/

/-- The fields that starting and stopping a station writes. -/
def runFields : List Field := [R.STN_CTRL.run, R.STN_SEQ_STATUS.fence_wait, R.STN_SEQ_STATUS.tally_wait, R.STN_SEQ_STATUS.wait_tally,
  R.STN_SEQ_STATUS.barrier_wait, R.STN_STATUS.state]

theorem clearWaits_within (st : Nat) (b : Body) : Within [.regs] runFields b (clearWaits st b) := by
  unfold clearWaits
  constructor <;> simp (disch := decide)

theorem writeRun_within (st : Nat) (v : Bool) (b : Body) : Within [.regs, .stations] runFields b (writeRun st v b) := by
  have hset : Within [.regs, .stations] runFields b (setFlag b R.STN_CTRL.run st v) := by constructor <;> simp (disch := decide)
  have hstate : ∀ (c : Body) (f : Station → Station) (n : Nat), Within [.regs, .stations] runFields c (setF (updStn c st f) R.STN_STATUS.state st n) :=
    fun c f n => by constructor <;> simp (disch := decide)
  have hwait : ∀ p : Bool, Within [.regs, .stations] runFields b (if p then setFlag b R.STN_CTRL.run st v else clearWaits st (setFlag b R.STN_CTRL.run st v)) := by
    intro p
    split
    · exact hset
    · exact hset.trans ((clearWaits_within st _).mono (by decide) (fun _ => id))
  unfold writeRun
  simp only []
  split
  · exact (hwait _).trans (hstate _ _ _)
  · split
    · exact (hwait _).trans (hstate _ _ _)
    · exact hwait _

theorem droverFlush_within (dr : Nat) (b : Body) : Within [.drovers, .regs] [R.DRV_STATUS.state] b (droverFlush dr b) := by
  unfold droverFlush
  constructor <;> simp (disch := decide)

theorem abandonDrover_within (dr : Nat) (b : Body) : Within [.drovers, .regs] [R.DRV_STATUS.state] b (abandonDrover dr b) := by
  refine Within.trans (c := updDrv b dr _) ?_ (droverFlush_within dr _)
  constructor <;> simp (disch := decide)

/-- The parts that stopping, clearing and parking the stations changes. -/
def haltParts : List Part := [.stations, .drovers, .fabric, .regs]

/-- The fields that stopping, clearing and parking the stations writes. -/
def haltFields : List Field := [R.DRV_STATUS.state, R.STN_EXC_CAUSE.valid, R.STN_FAULT.remote_error, R.DRV_FAULT.valid, R.TLY_STN_STATUS.deferred,
  R.STN_SEQ_PC.pc] ++ runFields

theorem stopStations_within (b : Body) : Within haltParts haltFields b (stopStations b) := by
  refine Within.trans (c := forEach (liveStations b) _ b) (forEach_within (fun st c => ?_) _ _) ⟨fun q => by cases q <;> first | exact .inl (by decide) | exact .inr rfl, fun _ _ _ _ => rfl⟩
  refine Within.trans (c := updStn (writeRun st false c) st _) (((writeRun_within st false c).mono (by decide) (by decide)).trans ?_)
    (((abandonDrover_within _ _).mono (by decide) (by decide)).trans ((abandonDrover_within _ _).mono (by decide) (by decide)))
  constructor <;> simp (disch := decide)

theorem restoreTallies_within (d l : Nat) (b : Body) : Within haltParts haltFields b (restoreTallies d l b) := by
  unfold restoreTallies
  split
  · exact .refl _ _ b
  · constructor <;> simp (disch := decide)

theorem clearFaults_within (b : Body) : Within haltParts haltFields b (clearFaults b) := by
  refine Within.trans (c := forEach (liveStations b) _ b) (forEach_within (fun st c => ?_) _ _) (forEach_within (fun x c => restoreTallies_within _ _ c) _ _)
  constructor <;> simp (disch := decide)

theorem parkStations_within (b : Body) : Within haltParts haltFields b (parkStations b) := by
  refine forEach_within (fun st c => Within.trans (c := setF c R.STN_SEQ_PC.pc st 0) ?_ ((writeRun_within st true _).mono (by decide) (by decide))) _ _
  constructor <;> simp (disch := decide)

/-! ## Records (R331, R502) -/

theorem updFail_within (f : Failover → Failover) (b : Body) : Within [.fail] [] b (updFail f b) := ⟨updFail_only f b, fun _ _ _ _ => rfl⟩

/-- A record as firmware keeps it, and its number. -/
def recorded (r : FailRecord) (f : Failover) : Failover :=
  { f with lastSeq := f.lastSeq + 1, records := (f.records ++ [{ r with seq := f.lastSeq + 1 }]).drop (f.records.length + 1 - 256) }

theorem recorded_repairs (r : FailRecord) (f : Failover) : (recorded r f).repairs = f.repairs := by simp only [recorded]

theorem recorded_mem (r : FailRecord) (f : Failover) : { r with seq := f.lastSeq + 1 } ∈ (recorded r f).records := by
  unfold recorded
  simp only []
  rw [List.drop_append_of_le_length (by omega)]
  exact List.mem_append_right _ (List.mem_singleton.mpr rfl)

theorem keepRecord_shows (r : FailRecord) (b : Body) : Within ([.fail, .logbook] ++ vecParts) [R.IRQ_CAUSE.cause] b (keepRecord r b)
    ∧ (keepRecord r b).fail = recorded r b.fail := by
  have hlog : ∀ bs c, Within ([.fail, .logbook] ++ vecParts) [R.IRQ_CAUSE.cause] c (raiseVec 20 (logRec 0x40 bs c)) := fun bs c =>
    ((logRec_within 0x40 bs c).mono (by decide) (by decide)).trans ((raiseVec_within 20 _).mono (by decide) (fun _ => id))
  obtain ⟨c, hc⟩ : ∃ c, updFail (fun f => { f with lastSeq := b.fail.lastSeq + 1, records := (f.records ++ [{ r with seq := b.fail.lastSeq + 1 }]).drop (f.records.length + 1 - 256) }) b = c := ⟨_, rfl⟩
  have hx : keepRecord r b = raiseVec 20 (logRec 0x40 ({ r with seq := b.fail.lastSeq + 1 } : FailRecord).bytes c) := by
    unfold keepRecord
    simp only [hc]
  have hbc : Within ([.fail, .logbook] ++ vecParts) [R.IRQ_CAUSE.cause] b c := hc ▸ (updFail_within _ b).mono (by decide) (by decide)
  rw [hx]
  refine ⟨hbc.trans (hlog _ c), ?_⟩
  refine ((raiseVec_within 20 _).same (p := .fail) (by decide)).trans (((logRec_within 0x40 _ c).same (p := .fail) (by decide)).trans ?_)
  rw [← hc]
  rfl

theorem openRecord_within (r : FailRecord) (b : Body) : Within [.fail] [] b (openRecord r b) := updFail_within _ b

theorem powered_nextSeq {b : Body} (h : powered b = true) (cls : Nat) (bs : List Byte) : (logRec cls bs b).logbook.nextSeq = b.logbook.nextSeq + 1 := by
  unfold logRec logFrom
  simp only [h, Bool.not_true, Bool.false_eq_true, if_false]
  simp only [updLog]
  (repeat' split) <;> rfl

/-! ## Repairs (R308 step 5) -/

/-- The parts that repairs without a spare change. -/
def mendParts : List Part := .dieMap :: .fail :: workParts

/-- The fields that repairs without a spare write, and parking after them. -/
def mendFields : List Field := [R.STN_DIE_CTRL.quiesce, R.STN_DIE_STATUS.quiesced, R.MEM_COMMIT_CTRL.hold, R.STN_MAP.valid_0, R.STN_MAP.valid_1,
  R.STN_MAP.valid_2, R.STN_MAP.valid_3] ++ (haltFields ++ workFields)

/-- Repairs have been made, or wait for a die to drain: what they change. -/
structure Mends (s u : State) : Prop where
  pending : u.pending = s.pending
  mem : u.mem = s.mem
  within : Within mendParts mendFields s.body u.body
  fail : ∃ rs w, u.body.fail = { s.body.fail with repairs := rs, repairWait := w }

section Repair

variable {s u v : State}

theorem Mends.refl (s : State) : Mends s s := ⟨rfl, rfl, .refl _ _ _, s.body.fail.repairs, s.body.fail.repairWait, rfl⟩

theorem Mends.trans (h : Mends s u) (k : Mends u v) : Mends s v := by
  obtain ⟨rs, w, hf⟩ := h.fail
  obtain ⟨rs', w', hf'⟩ := k.fail
  exact ⟨k.pending.trans h.pending, k.mem.trans h.mem, h.within.trans k.within, rs', w', by rw [hf', hf]⟩

/-- A step of the body that leaves the failover alone. -/
theorem mends_of_within {f : Body → Body} (h : Within mendParts mendFields s.body (f s.body)) (hf : (f s.body).fail = s.body.fail) :
    Mends s (onBody f s) := ⟨rfl, rfl, h, s.body.fail.repairs, s.body.fail.repairWait, hf⟩

theorem mends_of_parts {f : Body → Body} {ps : List Part} {fs : List Field} (h : Within ps fs s.body (f s.body)) (hp : ps ⊆ mendParts)
    (hfs : fs ⊆ mendFields) (hf : Part.fail ∉ ps) : Mends s (onBody f s) := mends_of_within (h.mono hp hfs) (h.same hf)

theorem whenB_within {ps : List Part} {fs : List Field} {c : Bool} {f : Body → Body} {b : Body} (h : Within ps fs b (f b)) : Within ps fs b (whenB c f b) := by
  unfold whenB
  split
  · exact h
  · exact .refl _ _ b

theorem quiesceDone_within (d : Nat) (b : Body) : Within [.regs] [R.STN_DIE_STATUS.quiesced] b (quiesceDone d b) :=
  whenB_within (setF_within d _ b (by decide) (List.mem_singleton.mpr rfl) (by decide))

theorem writeQuiesce_within (d : Nat) (v : Bool) (b : Body) : Within workParts ([R.STN_DIE_CTRL.quiesce, R.STN_DIE_STATUS.quiesced] ++ workFields) b (writeQuiesce d v b) := by
  have hset : ∀ (f : Field) (v : Bool) (c : Body), f ∈ [R.STN_DIE_CTRL.quiesce, R.STN_DIE_STATUS.quiesced] →
      Within workParts ([R.STN_DIE_CTRL.quiesce, R.STN_DIE_STATUS.quiesced] ++ workFields) c (setFlag c f d v) := by
    intro f v c hf
    rcases List.mem_pair.mp hf with rfl | rfl <;> constructor <;> simp (disch := decide)
  unfold writeQuiesce
  simp only []
  split
  · exact hset _ _ b (by simp)
  · exact ((hset _ _ b (by simp)).trans (hset _ _ _ (by simp))).trans (forEach_within (fun i c => (pump_within _ _ c).mono (fun _ => id) (List.subset_append_right _ _)) _ _)

theorem applyMap_within (d : Nat) (b : Body) : Within [.dieMap] [] b (applyMap d b) :=
  ⟨fun q => by cases q <;> first | exact .inl (by decide) | exact .inr rfl, fun _ _ _ _ => rfl⟩

theorem emptyBarriers_within (d : Nat) (b : Body) : Within [.stations] [] b (emptyBarriers d b) :=
  forEach_within (fun st c => by constructor <;> simp (disch := decide)) _ _

theorem mapValid_cases (i : Nat) : mapValid i ∈ [R.STN_MAP.valid_0, R.STN_MAP.valid_1, R.STN_MAP.valid_2, R.STN_MAP.valid_3] := by
  unfold mapValid
  split <;> simp

theorem remapNone_within (d l : Nat) (b : Body) : Within [.dieMap, .regs, .stations] [R.STN_MAP.valid_0, R.STN_MAP.valid_1, R.STN_MAP.valid_2, R.STN_MAP.valid_3] b (remap d l none b) := by
  have hmem := mapValid_cases (l % 4)
  have hidx : (mapValid (l % 4)).idx < 1024 := by
    unfold mapValid
    split <;> decide
  exact ((setF_within _ _ b (by decide) hmem hidx).trans ((applyMap_within d _).mono (by decide) (List.nil_subset _))).trans
    ((emptyBarriers_within d _).mono (by decide) (List.nil_subset _))

/-- A repair that only takes a station out of the map. -/
def isAbsent : Repair → Bool
  | .absent _ _ => true
  | _ => false

theorem applyRepair_mends {r : Repair} (h : isAbsent r = true) (s : State) : Mends s (applyRepair r s) := by
  cases r with
  | absent d l => exact mends_of_parts (f := remap d l none) (remapNone_within d l s.body) (by decide) (by decide) (by decide)
  | substitute _ _ => cases h
  | variant _ _ => cases h
  | standin _ _ => cases h

theorem applyAll_mends {l : List Repair} (h : ∀ r ∈ l, isAbsent r = true) (s : State) : Mends s (l.foldl (fun s r => applyRepair r s) s) := by
  induction l generalizing s with
  | nil => exact .refl s
  | cons r l ih => exact (applyRepair_mends (h r List.mem_cons_self) s).trans (ih (fun x hx => h x (List.mem_cons_of_mem _ hx)) _)

/-- What is left to do once the repairs of a module that leaves its flock, or aborts, are made. -/
def isEnd : RepairTail → Bool
  | .park => true
  | .left => true
  | _ => false

theorem afterRepairs_within {t : RepairTail} (h : isEnd t = true) (b : Body) : Within haltParts (R.MEM_COMMIT_CTRL.hold :: haltFields) b (afterRepairs t b) := by
  cases t with
  | park =>
    refine Within.trans (c := setFlag b R.MEM_COMMIT_CTRL.hold 0 false) ?_ ((parkStations_within _).mono (fun _ => id) (List.subset_cons_self _ _))
    constructor <;> simp (disch := decide)
  | left => exact .refl _ _ b
  | replay _ => cases h
  | idle => cases h

theorem noting_mends (g : Failover → List Repair) (w : Failover → Option RepairTail) (s : State) :
    Mends s (onBody (updFail (fun f => { f with repairs := g f, repairWait := w f })) s) :=
  ⟨rfl, rfl, (updFail_within (fun f => { f with repairs := g f, repairWait := w f }) s.body).mono (by decide) (by decide), g s.body.fail, w s.body.fail, rfl⟩

theorem tryRepairs_mends {t : RepairTail} (ht : isEnd t = true) (hw : s.body.fail.repairWait = some t) (h : ∀ r ∈ s.body.fail.repairs, isAbsent r = true) :
    Mends s (tryRepairs s) := by
  unfold tryRepairs
  rw [hw]
  simp only []
  split
  · refine Mends.trans (u := applyRepairs (onBody (updFail (fun f => { f with repairWait := none })) s)) ?_ (mends_of_parts ?_ (ps := workParts) (fs := mendFields) ?_ (fun _ => id) (by decide))
    · unfold applyRepairs
      have hstart := noting_mends Failover.repairs (fun _ => none) s
      have hall := applyAll_mends h (onBody (updFail (fun f => { f with repairWait := none })) s)
      exact (hstart.trans hall).trans (noting_mends (fun _ => []) Failover.repairWait _)
    · exact (forEach_within (fun d c => (writeQuiesce_within d false c).mono (fun _ => id) (by decide)) _ _).trans
        ((afterRepairs_within ht _).mono (by decide) (by decide))
    · decide
  · exact .refl s

theorem startRepairs_mends {t : RepairTail} (ht : isEnd t = true) (h : ∀ r ∈ s.body.fail.repairs, isAbsent r = true) : Mends s (startRepairs t s) := by
  obtain ⟨c, hc⟩ : ∃ c, updFail (fun f => { f with repairWait := some t }) s.body = c := ⟨_, rfl⟩
  have hdies : Within workParts mendFields c (forEach (repairDies c) (fun d b => quiesceDone d (writeQuiesce d true b)) c) :=
    forEach_within (fun d e => ((writeQuiesce_within d true e).mono (fun _ => id) (by decide)).trans ((quiesceDone_within d _).mono (by decide) (by decide))) _ _
  have hfail : (forEach (repairDies c) (fun d b => quiesceDone d (writeQuiesce d true b)) c).fail = c.fail := hdies.same (p := .fail) (by decide)
  have hstart : Mends s { s with body := c } := hc ▸ noting_mends Failover.repairs (fun _ => some t) s
  have hmid : Mends s { s with body := forEach (repairDies c) (fun d b => quiesceDone d (writeQuiesce d true b)) c } :=
    hstart.trans ⟨rfl, rfl, hdies.mono (by decide) (fun _ => id), c.fail.repairs, c.fail.repairWait, hfail⟩
  have hx : startRepairs t s = tryRepairs { s with body := forEach (repairDies c) (fun d b => quiesceDone d (writeQuiesce d true b)) c } := by
    unfold startRepairs onBody
    simp only [hc]
  rw [hx]
  refine hmid.trans (tryRepairs_mends (t := t) ht ?_ fun r hr => h r ?_)
  · show (forEach (repairDies c) (fun d b => quiesceDone d (writeQuiesce d true b)) c).fail.repairWait = some t
    rw [hfail, ← hc]
    rfl
  · have hr' : r ∈ (forEach (repairDies c) (fun d b => quiesceDone d (writeQuiesce d true b)) c).fail.repairs := hr
    rw [hfail, ← hc] at hr'
    exact hr'

end Repair

end Sys2Proof.Machine

/-! SUPPORT. Reports of faults, replay and abort (O44). -/

namespace Sys2Proof.Machine

/-! ## One report (R298, R304, R314) -/

section Report

variable {copy : List Byte} {r : Source} {f : Finding} {s : State}

/-- The body whose reports firmware has taken. -/
def cleared (b : Body) : Body := { b with reports := [] }

theorem repairs_none (s : State) : onBody (updFail (fun f => { f with repairs := f.repairs ++ [] })) s = s := by simp [onBody, updFail]

theorem repairs_same (s : State) : onBody (updFail (fun f => { f with repairs := f.repairs })) s = s := rfl

theorem faultReport_nothing (hact : shepherdActive s.body = true) (hrep : s.body.reports = []) : faultReport copy s = s := by
  have hfull : fillRefused s.body = false := by
    unfold fillRefused
    rw [hrep]
    simp
  have hsame : ({ s.body with reports := [] } : Body) = s.body := by
    rw [← hrep]
  unfold faultReport
  simp only [hact, hrep, hfull, findings, noteReports, onBody, hsame, Bool.not_true, Bool.false_eq_true, if_false, List.filterMap_nil, List.zipIdx_nil,
    List.foldl_nil, List.flatMap_nil, List.find?_nil, mainFinding, topFinding]
  exact repairs_none s

/-- The state in which a report's finding is noted and the unit it names is written again. -/
def handled (f : Finding) (copy : List Byte) (s : State) : State :=
  ([f].filterMap (·.unit)).zipIdx.foldl (fun s u => writeStackBytes u.1 ((copy.drop (32 * u.2)).take 32) s) { s with body := cleared s.body }

theorem handled_plain (h : f.unit = none) : handled f copy s = { s with body := cleared s.body } := by
  simp [handled, h]

theorem fillRefused_one (hrep : s.body.reports = [r]) (hr : ∀ k, r ≠ .stagingFull k) : fillRefused s.body = false := by
  unfold fillRefused
  rw [hrep, List.any_cons, List.any_nil]
  cases r with
  | stagingFull k => exact absurd rfl (hr k)
  | _ => simp

theorem findings_one {taken : List Repair} {b : Body} (h : classify taken r b = some f) : findings b [r] taken = [f] := by
  simp [findings, h]

/-- A report that costs the module its place (R313). -/
theorem faultReport_leaves (hact : shepherdActive s.body = true) (hrep : s.body.reports = [r]) (hr : ∀ k, r ≠ .stagingFull k)
    (hf : classify s.body.fail.repairs r s.body = some f) (hnote : ∀ x b, noteReport r x b = b) (hrepair : f.repair = []) (hleave : f.leave = true)
    (hunit : f.unit = none) (hj : joined s.body = true) :
    faultReport copy s = startRepairs .left (onBody (leaveFlock f.record) { s with body := cleared s.body }) := by
  have hfull := fillRefused_one hrep hr
  have hfs : findings s.body [r] s.body.fail.repairs = [f] := findings_one hf
  unfold faultReport
  simp only [hact, hrep, hfull, hfs, noteReports, hnote, Bool.not_true, Bool.false_eq_true, if_false, List.find?_cons, hleave,
    List.flatMap_cons, List.flatMap_nil, hrepair, List.append_nil, hunit, List.filterMap_cons, List.filterMap_nil, List.zipIdx_nil, List.foldl_nil]
  rw [repairs_same]
  exact if_pos hj

/-- A fault of the run is asked of the seat. -/
def asking (r : FailRecord) (b : Body) : Body :=
  sendFail (seatIx b) [1, strokeNum b, b.flock.good, r.cls, cond b.flock.inReplay 1 0, moduleIndex b] (openRecord r b)

theorem faultReport_asks (hact : shepherdActive s.body = true) (hrep : s.body.reports = [r]) (hr : ∀ k, r ≠ .stagingFull k)
    (hf : classify s.body.fail.repairs r s.body = some f) (hnote : ∀ x b, noteReport r x b = b) (hrepair : f.repair = []) (hleave : f.leave = false)
    (hreplay : f.replay = true) (hpair : f.pairLoss = none) (hcls : f.record.cls = 0x14 ∨ f.record.cls = 0x17)
    (hrun : (handled f copy s).body.flock.runOpen = true) (hseat : isSeat (handled f copy s).body = false) :
    faultReport copy s = onBody (asking f.record) (handled f copy s) := by
  have hfull := fillRefused_one hrep hr
  have hfs : findings s.body [r] s.body.fail.repairs = [f] := findings_one hf
  obtain ⟨h20, h21, h30⟩ : f.record.cls ≠ 0x20 ∧ f.record.cls ≠ 0x21 ∧ f.record.cls ≠ 0x30 := by omega
  have hmain : mainFinding [f] = some f := by
    simp [mainFinding, topFinding, hpair, h21]
  unfold faultReport
  simp only [hact, hrep, hfull, hfs, noteReports, hnote, Bool.not_true, Bool.false_eq_true, if_false, List.find?_cons, List.find?_nil, hleave,
    List.flatMap_cons, List.flatMap_nil, hrepair, List.append_nil, hmain]
  rw [show ([f].filterMap (·.unit)).zipIdx.foldl (fun s u => writeStackBytes u.1 ((copy.drop (32 * u.2)).take 32) s) (onBody (fun b => { b with reports := [] }) s)
    = handled f copy s from rfl, repairs_same]
  simp only [h20, h21, h30, hrun, hseat, hreplay, false_and, Bool.not_true, Bool.false_eq_true, if_false]
  rfl

theorem report_nothing (hact : shepherdActive s.body = true) (hrep : s.body.reports = []) : Runs (.faultReport copy) s [] (fun b => b = s.body) :=
  runs_of_next (t := faultReport copy s) (b := s.body) rfl (faultReport_nothing hact hrep) (Only.refl _ _) rfl

theorem asking_shows {c : FailRecord} {b : Body} (hne : seatIx b ≠ moduleIndex b) (hin : flagF b R.KLK_ROUTE.lost (seatIx b) = false) :
    Within (.fail :: frameParts) sendFields b (asking c b)
      ∧ FrameSent (seatIx b) 1 [1, strokeNum b, b.flock.good, c.cls, cond b.flock.inReplay 1 0, moduleIndex b] (asking c b)
      ∧ (asking c b).fail.opens = b.fail.opens ++ [({ c with replayed := true }, b.now)] := by
  have hopen := openRecord_within c b
  obtain ⟨d, hd⟩ : ∃ d, openRecord c b = d := ⟨_, rfl⟩
  have hopens : d.fail.opens = b.fail.opens ++ [({ c with replayed := true }, b.now)] := by
    rw [← hd]
    rfl
  unfold asking
  rw [hd] at hopen ⊢
  have hsend := sendFail_sends (seatIx b) [1, strokeNum b, b.flock.good, c.cls, cond b.flock.inReplay 1 0, moduleIndex b] d
  refine ⟨(hopen.mono (by decide) (List.nil_subset _)).trans (hsend.within.mono (List.subset_cons_self _ _) (fun _ => id)), sendFail_told ?_ ?_, ?_⟩
  · rw [show moduleIndex d = moduleIndex b from hopen.getF_eq (f := R.GBL_MODULE.index) (by decide) (by decide) 0]
    exact hne
  · rw [hopen.flagF_eq (by decide) (by decide)]
    exact hin
  · rw [hsend.within.same (p := .fail) (by decide)]
    exact hopens

theorem report_outOfStep (hact : shepherdActive s.body = true) (hrep : s.body.reports = [.outOfStep]) (hrun : s.body.flock.runOpen = true)
    (hseat : isSeat s.body = false) (hne : seatIx s.body ≠ moduleIndex s.body) (hin : flagF s.body R.KLK_ROUTE.lost (seatIx s.body) = false) :
    Runs (.faultReport copy) s [.reports, .fail, .sent, .host, .fabric, .korrel, .regs] (fun b => b.reports = []
      ∧ FrameSent (seatIx s.body) 1 [1, strokeNum s.body, s.body.flock.good, 0x17, cond s.body.flock.inReplay 1 0, moduleIndex s.body] b
      ∧ ∃ r, b.fail.opens = s.body.fail.opens ++ [(r, s.body.now)] ∧ r.cls = 0x17 ∧ r.action = 1 ∧ r.replayed = true) := by
  obtain ⟨hw, htold, hopens⟩ := asking_shows (c := (finding s.body 0x17 1 0xFF 0xFF 0).record) (b := cleared s.body) hne hin
  have hreports : (asking (finding s.body 0x17 1 0xFF 0xFF 0).record (cleared s.body)).reports = [] := hw.same (p := .reports) (by decide)
  have hx : faultReport copy s = { s with body := asking (finding s.body 0x17 1 0xFF 0xFF 0).record (cleared s.body) } :=
    (faultReport_asks (f := finding s.body 0x17 1 0xFF 0xFF 0) hact hrep (fun _ => by simp) rfl (fun _ _ => rfl) rfl rfl rfl rfl (.inr rfl) hrun hseat).trans
      (congrArg _ (handled_plain rfl))
  refine runs_of_next (t := faultReport copy s) rfl hx ?_ ⟨hreports, htold, _, hopens, rfl, rfl, rfl⟩
  have hclear : Only [.reports] s.body (cleared s.body) := fun q => by cases q <;> first | exact .inl (by decide) | exact .inr rfl
  exact (hclear.mono (by decide)).trans (hw.only.mono (by decide))

/-- A whole unit written leaves its bytes and no error. -/
theorem writeUnit_whole {u : Nat} {bs : List Byte} (hlen : bs.length = 32) (t : State) : writeStackBytes (u * 32) bs t
    = { t with mem := memStore t.mem (u * 32) (bs.map some), body := { t.body with badStack := SMap.erase t.body.badStack u } } := by
  have hne : bs ≠ [] := by
    rintro rfl
    cases hlen
  have hunits : splitUnits (u * 32) (bs.map some) = [(u, bs.map some)] := by
    simp [splitUnits, hlen, chunksOf, hne, List.take_of_length_le]
  have hsome : (bs.map some).all Option.isSome = true := by simp
  have hnone : (bs.map some).all Option.isNone = false := by
    cases bs with
    | nil => cases hlen
    | cons x xs => rfl
  have hstore : ∀ m, memStore m (u * 32) (([] : List Byte).map some) = m := fun m => rfl
  have hunit : writeStackUnit u (bs.map some) t = (true, { t with mem := memStore t.mem (u * 32) (bs.map some), body := { t.body with badStack := SMap.erase t.body.badStack u } }) := by
    unfold writeStackUnit
    simp only [hsome, hnone, if_true, Bool.false_eq_true, if_false, hstore, ite_self]
  unfold writeStackBytes writeStack
  rw [hunits, writeStackUnits, hunit]
  rfl

theorem report_unit {k u : Nat} (hact : shepherdActive s.body = true) (hrep : s.body.reports = [.stackUnit k (u * 32) false])
    (hcov : covered s.body (u * 32) = true) (hlen : copy.length = 32) (hrun : s.body.flock.runOpen = true)
    (hseat : isSeat s.body = false) (hne : seatIx s.body ≠ moduleIndex s.body) (hin : flagF s.body R.KLK_ROUTE.lost (seatIx s.body) = false) :
    RunsS (.faultReport copy) s (fun t =>
      FrameSent (seatIx s.body) 1 [1, strokeNum s.body, s.body.flock.good, 0x14, cond s.body.flock.inReplay 1 0, moduleIndex s.body] t.body
        ∧ SMap.get t.body.badStack [] u = []
        ∧ ∀ a, memGet t.mem a = (if u * 32 ≤ a ∧ a < u * 32 + 32 then copy.getD (a - u * 32) 0 else memGet s.mem a)) := by
  obtain ⟨f, hf⟩ : ∃ f, ({ finding s.body 0x14 4 0xFF 0xFF k with unit := some (u * 32) } : Finding) = f := ⟨_, rfl⟩
  have hclass : classify s.body.fail.repairs (.stackUnit k (u * 32) false) s.body = some f := by
    rw [← hf]
    exact if_pos hcov
  have hstate : handled f copy s = { s with mem := memStore s.mem (u * 32) (copy.map some), body := { cleared s.body with badStack := SMap.erase s.body.badStack u } } := by
    rw [← hf]
    refine (congrArg (fun bs => writeStackBytes (u * 32) bs { s with body := cleared s.body }) ?_).trans (writeUnit_whole hlen _)
    exact (List.take_of_length_le (by simp [hlen]))
  have hx := faultReport_asks (copy := copy) (f := f) hact hrep (fun _ => by simp) hclass (fun _ _ => rfl) (by rw [← hf]; rfl) (by rw [← hf]; rfl)
    (by rw [← hf]; rfl) (by rw [← hf]; rfl) (.inl (by rw [← hf]; rfl)) (by rw [hstate]; exact hrun) (by rw [hstate]; exact hseat)
  rw [hstate] at hx
  obtain ⟨b, hb⟩ : ∃ b : Body, { cleared s.body with badStack := SMap.erase s.body.badStack u } = b := ⟨_, rfl⟩
  have hme : moduleIndex b = moduleIndex s.body := by
    rw [← hb]
    rfl
  have hseatb : seatIx b = seatIx s.body := by
    rw [← hb]
    rfl
  have hstroke : strokeNum b = strokeNum s.body := by
    rw [← hb]
    rfl
  have hlost : flagF b R.KLK_ROUTE.lost (seatIx s.body) = false := by
    rw [← hb]
    exact hin
  have hflock : b.flock = s.body.flock := by
    rw [← hb]
    rfl
  obtain ⟨hw, htold, -⟩ := asking_shows (c := f.record) (b := b) (by rw [hseatb, hme]; exact hne) (by rw [hseatb]; exact hlost)
  rw [hseatb, hstroke, hflock, hme, show f.record.cls = 0x14 by rw [← hf]; rfl] at htold
  rw [hb] at hx
  refine runsS_of_next (t := faultReport copy s) (t' := { s with mem := memStore s.mem (u * 32) (copy.map some), body := asking f.record b }) rfl hx rfl ⟨htold, ?_, fun a => ?_⟩
  · show SMap.get (asking f.record b).badStack [] u = []
    rw [hw.same (p := .badStack) (by decide), ← hb]
    show SMap.get (SMap.erase s.body.badStack u) [] u = []
    rw [SMap.get_erase]
    simp
  · show memGet (memStore s.mem (u * 32) (copy.map some)) a = _
    rw [memGet_stored, hlen]

theorem report_miscabled {p : Nat} (hact : shepherdActive s.body = true) (hrep : s.body.reports = [.miscabled p]) (hpow : powered s.body = true) :
    Runs (.faultReport copy) s [.reports, .logbook, .fail] (fun b => b.reports = [] ∧ b.fail = s.body.fail ∧ b.logbook.nextSeq = s.body.logbook.nextSeq + 1) := by
  have hfull := fillRefused_one hrep (fun k => by simp)
  have hx : faultReport copy s = { s with body := korrelRecord 2 p (cleared s.body) } := by
    unfold faultReport
    simp only [hact, hrep, hfull, findings, classify, noteReports, noteReport, Bool.not_true, Bool.false_eq_true, if_false, List.filterMap_nil, List.zipIdx_nil,
      List.foldl_nil, List.flatMap_nil, List.find?_nil, mainFinding, topFinding, repairs_none]
    rfl
  have hw : Within [.logbook] [] (cleared s.body) (korrelRecord 2 p (cleared s.body)) := logRec_within _ _ _
  refine runs_of_next (t := faultReport copy s) rfl hx ?_ ⟨hw.same (p := .reports) (by decide), hw.same (p := .fail) (by decide), powered_nextSeq (b := cleared s.body) hpow _ _⟩
  have hclear : Only [.reports] s.body (cleared s.body) := fun q => by cases q <;> first | exact .inl (by decide) | exact .inr rfl
  exact (hclear.mono (by decide)).trans (hw.only.mono (by decide))

/-! ## A module leaves its flock (R313) -/

/-- What a module that leaves its flock shows. -/
structure Left (c : FailRecord) (b d : Body) : Prop where
  isolated : isolated d = true
  mustReset : d.fail.mustReset = true
  disabled : flagF d R.TLY_STROKE_CTRL.enable 0 = false
  closed : d.flock.runOpen = false
  absent : ∀ r ∈ d.fail.repairs, isAbsent r = true
  record : ∃ r, r ∈ d.fail.records ∧ r.cls = c.cls ∧ r.action = 5 ∧ r.seq = b.fail.lastSeq + 1

theorem isolated_isolateModule (b : Body) : isolated (isolateModule b) = true := by
  cases h : isolated b
  · exact isolated_of_flag ((isolateModule_shows h).2.1 0 (by decide))
  · unfold isolateModule
    rw [if_pos h]
    exact h

theorem isolateModule_fail (b : Body) : (isolateModule b).fail = b.fail := by
  cases h : isolated b
  · exact (isolateModule_shows h).1.same (p := .fail) (by decide)
  · unfold isolateModule
    rw [if_pos h]

theorem putEnable_off (b : Body) : putEnable false b = strokeStop (setFlag b R.TLY_STROKE_CTRL.enable 0 false) := rfl

theorem leaveFlock_shows (c : FailRecord) (b : Body) : Left c b (leaveFlock c b) := by
  obtain ⟨d, hd⟩ : ∃ d, isolateModule b = d := ⟨_, rfl⟩
  have hiso : isolated d = true := hd ▸ isolated_isolateModule b
  have hfail : d.fail = b.fail := hd ▸ isolateModule_fail b
  obtain ⟨e, he⟩ : ∃ e, forEach (liveStations d) (writeRun · false) d = e := ⟨_, rfl⟩
  have hde : Within [.regs, .stations] runFields d e := he ▸ forEach_within (fun st c => writeRun_within st false c) _ _
  obtain ⟨g, hg⟩ : ∃ g, strokeStop (setFlag e R.TLY_STROKE_CTRL.enable 0 false) = g := ⟨_, rfl⟩
  have hstop := strokeStop_within (setFlag e R.TLY_STROKE_CTRL.enable 0 false)
  have hgflock := strokeStop_flock (setFlag e R.TLY_STROKE_CTRL.enable 0 false)
  rw [hg] at hstop hgflock
  have hset : Within [.regs] [R.TLY_STROKE_CTRL.enable] e (setFlag e R.TLY_STROKE_CTRL.enable 0 false) := setF_within 0 _ e (by decide) (by decide) (by decide)
  have hgiso : isolated g = true := by
    rw [hstop.isolated_eq (by decide), hset.isolated_eq (by decide), hde.isolated_eq (by decide)]
    exact hiso
  have hgoff : flagF g R.TLY_STROKE_CTRL.enable 0 = false := by
    rw [hstop.flagF_eq (by decide) (by decide)]
    exact flagF_setFlag_same _ _ _ _ (by decide)
  have hgfail : g.fail = b.fail := by
    rw [hstop.same (p := .fail) (by decide)]
    exact (hde.same (p := .fail) (by decide)).trans hfail
  obtain ⟨i, hi⟩ : ∃ i, noteRun e g = i := ⟨_, rfl⟩
  have hnote := noteRun_within e g
  rw [hi] at hnote
  have hien : writeEnable false e = i := by
    unfold writeEnable
    rw [putEnable_off, hg, hi]
  obtain ⟨j, hj⟩ : ∃ j, updFail (fun f => { f with mustReset := true, opens := [], repairWait := none, repairs := f.repairs.filter isAbsent }) i = j := ⟨_, rfl⟩
  have hjfail : j.fail = { b.fail with mustReset := true, opens := [], repairWait := none, repairs := b.fail.repairs.filter isAbsent } := by
    rw [← hgfail, ← (hnote.same (p := .fail) (by decide) : i.fail = g.fail), ← hj]
    rfl
  have hij : Within [.fail] [] i j := hj ▸ updFail_within _ i
  obtain ⟨hkeep, hkfail⟩ := keepRecord_shows { c with action := 0x05, consequential := consequences i } j
  have hx : leaveFlock c b = keepRecord { c with action := 0x05, consequential := consequences i } j := by
    unfold leaveFlock
    simp only [hd, he, hien]
    rw [← hj]
    rfl
  rw [hx]
  refine ⟨?_, ?_, ?_, ?_, fun r hr => ?_, { c with action := 0x05, consequential := consequences i, seq := j.fail.lastSeq + 1 }, ?_, rfl, rfl, ?_⟩
  · rw [hkeep.isolated_eq (by decide), hij.isolated_eq (by decide), hnote.isolated_eq (by decide)]
    exact hgiso
  · rw [hkfail, hjfail]
    rfl
  · rw [hkeep.flagF_eq (by decide) (by decide), hij.flagF_eq (by decide) (by decide), hnote.flagF_eq (by decide) (by decide)]
    exact hgoff
  · rw [hkeep.same (p := .flock) (by decide), hij.same (p := .flock) (by decide), hnote.same (p := .flock) (by decide), hgflock]
  · rw [hkfail, hjfail] at hr
    exact (List.mem_filter.mp hr).2
  · rw [hkfail]
    exact recorded_mem _ _
  · rw [hjfail]

theorem report_stackLoss {k : Nat} (hact : shepherdActive s.body = true) (hrep : s.body.reports = [.stackLoss k]) (hj : joined s.body = true) :
    RunsS (.faultReport copy) s (fun t => isolated t.body = true ∧ t.body.fail.mustReset = true ∧ flagF t.body R.TLY_STROKE_CTRL.enable 0 = false
      ∧ t.body.flock.runOpen = false ∧ ∃ r, r ∈ t.body.fail.records ∧ r.cls = 0x13 ∧ r.action = 5 ∧ r.seq = s.body.fail.lastSeq + 1) := by
  have hx := faultReport_leaves (copy := copy) (f := finding s.body 0x13 5 0xFF 0xFF k) hact hrep (fun _ => by simp) rfl (fun _ _ => rfl) rfl rfl rfl hj
  obtain ⟨c, hc⟩ : ∃ c, (finding s.body 0x13 5 0xFF 0xFF k).record = c := ⟨_, rfl⟩
  have hcls : c.cls = 0x13 := by
    rw [← hc]
    rfl
  rw [hc] at hx
  obtain ⟨hiso, hreset, hoff, hclosed, habsent, r, hr, hrcls, hact', hseq⟩ := leaveFlock_shows c (cleared s.body)
  have hmends := startRepairs_mends (s := onBody (leaveFlock c) { s with body := cleared s.body }) (t := .left) rfl habsent
  obtain ⟨rs, w, hfail⟩ := hmends.fail
  refine runsS_of_next (t := faultReport copy s) rfl hx (hmends.pending.trans rfl) ⟨?_, ?_, ?_, ?_, r, ?_, hrcls.trans hcls, hact', hseq⟩
  · exact (hmends.within.isolated_eq (by decide)).trans hiso
  · exact (congrArg Failover.mustReset hfail).trans hreset
  · exact (hmends.within.flagF_eq (by decide) (by decide) 0).trans hoff
  · exact (congrArg Flock.runOpen (hmends.within.same (p := .flock) (by decide))).trans hclosed
  · have hrecords := congrArg Failover.records hfail
    simp only [] at hrecords
    rw [hrecords]
    exact hr

end Report

/-! ## Replay (R304-R307) -/

section Replay

variable {s : State}

/-- The body in which a replay START is noted (R307). -/
def replayNoted (stroke : Nat) (body : StartBody) (d : Nat) (b : Body) : Body :=
  updFlock (fun f => { f with
    startSeen := some ⟨body, stroke, b.now + body.warnDelayUs * 1000 - d⟩, warnRaised := false, inReplay := true, commitDone := false, prepAfter := false
    timerDue := false, inboundNext := f.inboundNext, runKind := body.kind }) (updFail (fun f => { f with repairs := f.repairs ++ startStandin b body }) b)

/-- The parts and fields that change once a replay START is noted. -/
def replayParts : List Part := [.host, .regs, .rack, .sent, .ledger, .fail]

def replayFields : List Field := [R.TLY_STROKE_STATUS.replay, R.TLY_STROKE_STATUS.state] ++ pointFields

theorem commitRuns_congr {b c : Body} (h : getF c R.MEM_COMMIT_STATUS.state 0 = getF b R.MEM_COMMIT_STATUS.state 0) : commitRuns c = commitRuns b := by
  unfold commitRuns
  rw [h]

/-- The body in which a replay START has been taken. -/
def replayTaken (stroke : Nat) (body : StartBody) (d : Nat) (b : Body) : Body :=
  let c := ledgerStart body (noteRun b (setF (setFlag (updHost (fun h => { h with auxWait := false }) (replayNoted stroke body d b)) R.TLY_STROKE_STATUS.replay 0 true)
    R.TLY_STROKE_STATUS.state 0 2))
  if c.fail.opens.isEmpty then openRecord { blankRecord c body.replayClass 0x09 with stroke := stroke, moduleIx := seatIx c } c
  else updFail (fun f => { f with opens := f.opens.map (fun p => ({ p.1 with stroke := stroke }, p.2)) }) c

theorem takeReplay_eq (stroke : Nat) (body : StartBody) (d : Nat) (s : State) : takeReplay stroke body d s =
    if commitRuns (replayTaken stroke body d s.body) then { s with body := updFlock (fun f => { f with prepAfter := true }) (replayTaken stroke body d s.body) }
    else prepare { s with body := replayTaken stroke body d s.body } := rfl

theorem replayTaken_within (stroke : Nat) (body : StartBody) (d : Nat) (b : Body) : Within replayParts replayFields (replayNoted stroke body d b) (replayTaken stroke body d b) := by
  obtain ⟨c, hc⟩ : ∃ c, replayNoted stroke body d b = c := ⟨_, rfl⟩
  obtain ⟨e, he⟩ : ∃ e, noteRun b (setF (setFlag (updHost (fun h => { h with auxWait := false }) c) R.TLY_STROKE_STATUS.replay 0 true) R.TLY_STROKE_STATUS.state 0 2) = e := ⟨_, rfl⟩
  have hce : Within replayParts replayFields c e := by
    rw [← he]
    refine Within.trans (c := setF _ R.TLY_STROKE_STATUS.state 0 2) ?_ ((noteRun_within _ _).mono (by decide) (by decide))
    constructor <;> simp (disch := decide)
  have hledger : Within replayParts replayFields e (ledgerStart body e) := (ledgerStart_within body e).mono (by decide) (by decide)
  unfold replayTaken
  simp only [hc, he]
  refine (hce.trans hledger).trans ?_
  split
  · exact (openRecord_within _ _).mono (by decide) (by decide)
  · exact (updFail_within _ _).mono (by decide) (by decide)

theorem takeReplay_takes {stroke : Nat} {body : StartBody} {d : Nat} (hc : commitRuns s.body = true) : ∃ c,
    Within replayParts replayFields (replayNoted stroke body d s.body) c
      ∧ takeReplay stroke body d s = { s with body := updFlock (fun f => { f with prepAfter := true }) c } := by
  have hw := replayTaken_within stroke body d s.body
  have hruns : commitRuns (replayTaken stroke body d s.body) = true :=
    (commitRuns_congr ((hw.getF_eq (by decide) (by decide) 0).trans (by rfl : getF (replayNoted stroke body d s.body) R.MEM_COMMIT_STATUS.state 0 = getF s.body R.MEM_COMMIT_STATUS.state 0))).trans hc
  exact ⟨_, hw, (takeReplay_eq stroke body d s).trans (if_pos hruns)⟩

theorem replay_started {h : TelHead} {x : StartBody} {k : StrokeKind} (hs : Sound h s.body) (hlast : SMap.get s.body.flock.rxAlive none (16384 + h.nbr) = none)
    (hpart : TakesPart h s.body) (hrun : s.body.flock.runOpen = true) (hkind : kindOf s.body x.kind = some k) (hcommit : commitRuns s.body = true) :
    RunsS (.replayStart h x) s (fun t => t.mem = s.mem ∧ t.body.flock.inReplay = true ∧ t.body.flock.prepAfter = true ∧ t.body.flock.warnRaised = false
      ∧ t.body.flock.startSeen = some ⟨{ x with arm := false, replay := true }, h.stroke,
        s.body.now + x.warnDelayUs * 1000 - getF s.body R.TLY_SEAT_DELAY.d_ns 0⟩) := by
  have hcheck : telCheck 1 h s.body = (true, heard 1 h s.body) := by
    rw [telCheck_sound hs (by decide), show 1 * 16384 + h.nbr = 16384 + h.nbr by omega, hlast]
  obtain ⟨c, ⟨m, ms, fs, hc⟩, hx⟩ := startCheck_passes (body := { x with arm := false, replay := true }) hcheck hpart hkind (.inl hrun)
  have hkeep : ∀ f : Field, f.idx < 1024 → f.idx ≠ R.TLY_SEAT.seat.idx → f.idx ≠ R.TLY_STROKE_STATUS.seat.idx → getF c f 0 = getF s.body f 0 := by
    intro f hf h1 h2
    rw [hc, getF_told]
    unfold setSeat
    rw [getF_setFlag_other _ _ (by decide) hf h2, getF_setF_other _ _ (by decide) hf h1]
    rfl
  have hruns : commitRuns c = true := (commitRuns_congr (hkeep _ (by decide) (by decide) (by decide))).trans hcommit
  have hnow : c.now = s.body.now := by
    rw [hc]
    rfl
  have hd : getF c R.TLY_SEAT_DELAY.d_ns 0 = getF s.body R.TLY_SEAT_DELAY.d_ns 0 := hkeep _ (by decide) (by decide) (by decide)
  obtain ⟨e, he, hy⟩ := takeReplay_takes (s := { s with body := c }) (stroke := h.stroke) (body := { x with arm := false, replay := true })
    (d := getF s.body R.TLY_SEAT_DELAY.d_ns 0) hruns
  have hz : replayTel h x s = { s with body := updFlock (fun f => { f with prepAfter := true }) e } := by
    unfold replayTel
    simp only [hx, if_true, hd]
    exact hy
  have hflock : e.flock = (replayNoted h.stroke { x with arm := false, replay := true } (getF s.body R.TLY_SEAT_DELAY.d_ns 0) c).flock := he.same (p := .flock) (by decide)
  refine runsS_of_next (t := replayTel h x s) rfl hz rfl ⟨rfl, ?_, rfl, ?_, ?_⟩
  · exact (congrArg Flock.inReplay hflock).trans rfl
  · exact (congrArg Flock.warnRaised hflock).trans rfl
  · refine (congrArg Flock.startSeen hflock).trans ?_
    rw [← hnow]
    rfl

/-- The replay START that the seat sends (R306). -/
def seatBody (kind cls : Nat) (inbound : List Nat) (o : StartBody) (b : Body) : StartBody :=
  { periodUs := if kind = o.kind then o.periodUs else ((kindOf b kind).map (·.nominalUs)).getD o.periodUs
    warnDelayUs := max 20 (480 - ((kindOf b kind).map (·.leadUs)).getD o.leadUs), leadUs := ((kindOf b kind).map (·.leadUs)).getD o.leadUs, kind := kind, first := false
    last := o.last, replay := true, arm := false, replayClass := cls, inbound := inbound }

theorem seatReplay_sends {cls : Nat} {c : FailRecord} {o : StartBody} {r : Nat} (hcommit : commitRuns s.body = true)
    (hr : max (s.body.flock.commitFor.getD s.body.flock.good + 1) s.body.flock.nextStroke = r) (ho : originalStart s.body r = some o) :
    ∃ inbound b, commitRuns b = true ∧ seatReplay cls none c s = takeReplay r
      (seatBody (if (pairInForce s.body r).isSome then pairKind s.body s.body.flock.origKind else s.body.flock.origKind) cls inbound o s.body) 0 { s with body := b } := by
  generalize hx : seatReplay cls none c s = t
  unfold seatReplay at hx
  simp only [hcommit, if_true, hr, ho, Option.isSome_none, Bool.false_eq_true, if_false] at hx
  rw [← hx]
  refine ⟨_, _, ?_, rfl⟩
  obtain ⟨d, hd⟩ : ∃ d, (if s.body.fail.opens.isEmpty then openRecord { c with stroke := r, decideUs := 0, rerouteUs := 0 } s.body else s.body) = d := ⟨_, rfl⟩
  have hregs : d.regs = s.body.regs := by
    rw [← hd]
    split <;> rfl
  have hruns : commitRuns d = true := by
    unfold commitRuns getF at hcommit ⊢
    rw [hregs]
    exact hcommit
  beta_reduce
  rw [hd]
  obtain ⟨m, ms, fs, htold⟩ := forwardStart_tells (moduleIndex d) r _ d
  rw [htold]
  exact hruns

theorem replay_requested {m st g cls r : Nat} {o : StartBody} (hact : shepherdActive s.body = true) (hm : m < 16384) (hst : st < 2 ^ 48) (hg : g < 2 ^ 48)
    (hcls : cls ≠ 0x30) (hseat : isSeat s.body = true) (hrun : s.body.flock.runOpen = true) (hfirst : s.body.flock.inReplay = false)
    (hcommit : commitRuns s.body = true) (hr : max (s.body.flock.commitFor.getD s.body.flock.good + 1) s.body.flock.nextStroke = r)
    (ho : originalStart s.body r = some o) : RunsS (.replayRequest m st g cls false) s (fun t => t.body.flock.inReplay = true
      ∧ ∃ w, t.body.flock.startSeen = some w ∧ w.stroke = r ∧ w.body.replay = true ∧ w.body.replayClass = cls
        ∧ w.body.kind = (if (pairInForce s.body r).isSome then pairKind s.body s.body.flock.origKind else s.body.flock.origKind)) := by
  obtain ⟨inbound, b, hruns, hsend⟩ := seatReplay_sends (cls := cls) (c := { blankRecord s.body cls 0x09 with moduleIx := m }) hcommit hr ho
  obtain ⟨e, he, hy⟩ := takeReplay_takes (s := { s with body := b }) (stroke := r) (d := 0)
    (body := seatBody (if (pairInForce s.body r).isSome then pairKind s.body s.body.flock.origKind else s.body.flock.origKind) cls inbound o s.body) hruns
  have hx : replayRequest m cls false s = { s with body := updFlock (fun f => { f with prepAfter := true }) e } := by
    unfold replayRequest
    simp only [hseat, hrun, hfirst, hcls, Bool.not_true, Bool.false_eq_true, false_and, or_self, if_false]
    exact hsend.trans hy
  have hflock : e.flock = (replayNoted r _ 0 b).flock := he.same (p := .flock) (by decide)
  have hunit : (isModule m && decide (st < 2 ^ 48 ∧ g < 2 ^ 48)) = true := by
    unfold isModule
    rw [decide_eq_true hm, decide_eq_true ⟨hst, hg⟩]
    rfl
  refine runsS_of_next (next_of_onUnitS hunit) ((if_pos hact).trans hx) rfl ⟨?_, _, (congrArg Flock.startSeen hflock).trans rfl, rfl, rfl, rfl, rfl⟩
  exact (congrArg Flock.inReplay hflock).trans rfl

theorem replay_notSeat {m st g cls : Nat} (hact : shepherdActive s.body = true) (hm : m < 16384) (hst : st < 2 ^ 48) (hg : g < 2 ^ 48)
    (hseat : isSeat s.body = false) : Runs (.replayRequest m st g cls false) s [] (fun b => b = s.body) := by
  have hunit : (isModule m && decide (st < 2 ^ 48 ∧ g < 2 ^ 48)) = true := by
    unfold isModule
    rw [decide_eq_true hm, decide_eq_true ⟨hst, hg⟩]
    rfl
  have hx : replayRequest m cls false s = s := if_pos (.inl (by rw [hseat]; rfl))
  exact runs_of_next (b := s.body) (next_of_onUnitS hunit) ((if_pos hact).trans hx) (Only.refl _ _) rfl

end Replay

/-! ## Abort (R328) -/

/-- The parts and fields that change while a run is stopped and its tails emptied. -/
def quellParts : List Part := [.shadow, .memStacks, .free] ++ haltParts

def quellFields : List Field := [R.MEM_COMMIT_STATUS.state, R.MEM_COMMIT_STATUS.applied, R.MEM_COMMIT_STATUS.discard_refused, R.TLY_STROKE_STATUS.state,
  R.MEM_COMMIT_CTRL.hold] ++ (tailFields ++ haltFields)

/-- A run is being stopped: no byte outside the staging regions has changed. -/
structure Quells (s u : State) : Prop where
  pending : u.pending = s.pending
  within : Within quellParts quellFields s.body u.body
  mem : ∀ a, inStaging s.body a 1 = false → memGet u.mem a = memGet s.mem a

section Abort

variable {s u v : State}

theorem Quells.refl (s : State) : Quells s s := ⟨rfl, .refl _ _ _, fun _ _ => rfl⟩

theorem Within.inStaging_eq {ps : List Part} {fs : List Field} {b c : Body} (h : Within ps fs b c) (hs : R.MEM_STG_SIZE.size_mib.idx ∉ fs.map Field.idx)
    (hb : R.MEM_STG_BASE.base.idx ∉ fs.map Field.idx) (a n : Nat) : inStaging c a n = inStaging b a n := by
  unfold inStaging touchesStaging
  simp only [fun k => h.getF_eq (f := R.MEM_STG_SIZE.size_mib) (by decide) hs k, fun k => h.getF_eq (f := R.MEM_STG_BASE.base) (by decide) hb k]

theorem Quells.trans (h : Quells s u) (k : Quells u v) : Quells s v :=
  ⟨k.pending.trans h.pending, h.within.trans k.within, fun a ha => (k.mem a (by rwa [h.within.inStaging_eq (by decide) (by decide)])).trans (h.mem a ha)⟩

theorem Quells.bad (h : Quells s u) : u.body.badStack = s.body.badStack := h.within.same (p := .badStack) (by decide)

theorem Regional.quells (h : Regional s u) : Quells s u := ⟨h.pending, h.within.mono (by decide) (by decide), h.mem⟩

theorem quells_of_within {f : Body → Body} (h : Within quellParts quellFields s.body (f s.body)) : Quells s (onBody f s) := ⟨rfl, h, fun _ _ => rfl⟩

theorem commitStart_quells (hbad : s.body.badStack = []) : Quells s (commitStart s) := by
  cases hended : strokeBarrierDone s.body
  · unfold commitStart
    simp only [hended, Bool.not_false, true_or, if_true]
    exact .refl s
  cases hdone : s.body.flock.commitDone
  case true =>
    unfold commitStart
    simp only [hdone, or_true, if_true]
    exact .refl s
  cases hhold : flagF s.body R.MEM_COMMIT_CTRL.hold 0
  case true =>
    unfold commitStart
    simp only [hended, hdone, hhold, Bool.not_true, Bool.false_eq_true, or_self, if_false, if_true]
    exact quells_of_within (setF_within 0 4 s.body (by decide) (by decide) (by decide))
  cases hruns : commitRuns s.body
  case true =>
    unfold commitStart
    simp only [hended, hdone, hhold, hruns, Bool.not_true, Bool.false_eq_true, or_self, if_false, if_true]
    exact .refl s
  · rw [commitStart_seals hended hdone hhold hruns]
    have hseal : Quells s { s with body := sealing s.body } := quells_of_within ((sealing_within s.body).mono (by decide) (by decide))
    obtain ⟨hall, -⟩ := foldl_controllers (f := sealTail) (fun j s hj hb => sealTail_regional hj hb) (fun k j s h hb => sealTail_apart h hb) (List.range 12)
      (fun j => List.mem_range.mp) { s with body := sealing s.body } (hseal.bad.trans hbad)
    refine hseal.trans (hall.quells.trans (quells_of_within ?_))
    unfold applying whenB
    split <;> constructor <;> simp (disch := decide)

theorem commitDiscard_quells (hbad : s.body.badStack = []) : Quells s (commitDiscard s) := by
  unfold commitDiscard
  split
  · exact quells_of_within (setF_within 0 _ s.body (by decide) (by decide) (by decide))
  · exact (foldl_controllers (f := emptyTail) (fun j s hj hb => emptyTail_regional hj hb) (fun k j s h hb => emptyTail_apart h hb) (List.range 12)
      (fun j => List.mem_range.mp) s hbad).1.quells

/-- A commit whose barrier has completed is finished before the run is stopped. -/
def finished (s : State) : State :=
  if strokeBarrierDone s.body ∧ !s.body.flock.commitDone ∧ !s.body.flock.filling then commitStart (onBody (fun b => setFlag b R.MEM_COMMIT_CTRL.hold 0 false) s) else s

/-- The state in which the stations of an abandoned stroke are stopped. -/
def halted (s : State) : State := onBody (fun b => stopStations (setFlag b R.MEM_COMMIT_CTRL.hold 0 true)) (finished s)

/-- The state in which nothing of the abandoned stroke is left. -/
def quelled (s : State) : State := onBody clearFaults (if commitRuns (halted s).body then halted s else commitDiscard (halted s))

theorem hold_quells (v : Bool) (s : State) : Quells s (onBody (fun b => setFlag b R.MEM_COMMIT_CTRL.hold 0 v) s) :=
  quells_of_within (setF_within 0 _ s.body (by decide) (by decide) (by decide))

theorem halted_quells (hbad : s.body.badStack = []) : Quells s (halted s) := by
  have hfinish : Quells s (finished s) := by
    unfold finished
    split
    · exact (hold_quells false s).trans (commitStart_quells hbad)
    · exact .refl s
  exact hfinish.trans ((hold_quells true _).trans (quells_of_within (f := stopStations) ((stopStations_within _).mono (by decide) (by decide))))

theorem quelled_quells (hbad : s.body.badStack = []) : Quells s (quelled s) := by
  have hhalt := halted_quells hbad
  refine Quells.trans (u := if commitRuns (halted s).body then halted s else commitDiscard (halted s)) ?_
    (quells_of_within (f := clearFaults) ((clearFaults_within _).mono (by decide) (by decide)))
  split
  · exact hhalt
  · exact hhalt.trans (commitDiscard_quells (hhalt.bad.trans hbad))

/-- The stroke block of an aborted run is idle and enabled. -/
def idled (b : Body) : Body := putEnable true (putEnable false (if commitRuns b then b else updFlock (fun f => { f with commitDone := true }) b))

/-- The body in which an aborted run is recorded. -/
def abortedBody (r : FailRecord) (b : Body) : Body :=
  keepRecord r (noteRun (if commitRuns b then b else updFlock (fun f => { f with commitDone := true }) b)
    (updFlock (fun f => { f with filling := false }) (updFail (fun f => { f with aborted := true, opens := [], fill := none, switch := none }) (endMirroring (idled b)))))

theorem abortRun_eq {r : FailRecord} (hj : joined s.body = true) :
    abortRun r s = startRepairs .park (onBody (abortedBody { r with action := 0x07, consequential := consequences (halted s).body }) (quelled s)) := by
  unfold abortRun
  rw [hj]
  rfl

theorem idled_shows (b : Body) : (idled b).flock.runOpen = false ∧ (idled b).flock.inFlight = none ∧ getF (idled b) R.TLY_STROKE_STATUS.state 0 = 0
    ∧ flagF (idled b) R.TLY_STROKE_CTRL.enable 0 = true ∧ (idled b).fail = b.fail := by
  obtain ⟨c, hc⟩ : ∃ c, setFlag (if commitRuns b then b else updFlock (fun f => { f with commitDone := true }) b) R.TLY_STROKE_CTRL.enable 0 false = c := ⟨_, rfl⟩
  have hfail : c.fail = b.fail := by
    rw [← hc]
    split <;> rfl
  have hx : idled b = setFlag (strokeStop c) R.TLY_STROKE_CTRL.enable 0 true := by
    rw [← hc]
    rfl
  have hstop := strokeStop_within c
  have hflock := strokeStop_flock c
  have hstate : getF (strokeStop c) R.TLY_STROKE_STATUS.state 0 = 0 := getF_setF_fits (by decide)
  obtain ⟨d, hd⟩ : ∃ d, strokeStop c = d := ⟨_, rfl⟩
  rw [hd] at hx hstop hflock hstate
  rw [hx]
  refine ⟨?_, ?_, ?_, flagF_setFlag_same _ _ _ _ (by decide), (hstop.same (p := .fail) (by decide)).trans hfail⟩
  · exact congrArg Flock.runOpen hflock
  · exact congrArg Flock.inFlight hflock
  · rw [getF_setFlag_other _ _ (by decide) (by decide) (by decide)]
    exact hstate

theorem endMirroring_shows (b : Body) : Within [.fail, .regs] [R.MEM_MIR_CFG.enable, R.KLK_VC_WEIGHT.w6] b (endMirroring b)
    ∧ (endMirroring b).fail.repairs = b.fail.repairs := by
  unfold endMirroring
  split
  · obtain ⟨c, hc⟩ : ∃ c, forEach (List.range 12) (fun k b => setFlag b R.MEM_MIR_CFG.enable k false) b = c := ⟨_, rfl⟩
    have hbc : Within [.regs] [R.MEM_MIR_CFG.enable, R.KLK_VC_WEIGHT.w6] b c :=
      hc ▸ (forEach_setFlag_within (by decide) false _ b).mono (fun _ => id) (by decide)
    obtain ⟨d, hd⟩ : ∃ d, forEach c.fail.w6.zipIdx (fun x b => setF b R.KLK_VC_WEIGHT.w6 x.2 x.1) c = d := ⟨_, rfl⟩
    have hcd : Within [.regs] [R.MEM_MIR_CFG.enable, R.KLK_VC_WEIGHT.w6] c d :=
      hd ▸ forEach_within (fun x e => setF_within _ _ e (by decide) (by decide) (by decide)) _ _
    simp only [hc, hd]
    refine ⟨((hbc.trans hcd).mono (by decide) (fun _ => id)).trans ((updFail_within _ d).mono (by decide) (List.nil_subset _)), ?_⟩
    have hfail : d.fail = b.fail := (hbc.trans hcd).same (p := .fail) (by decide)
    show d.fail.repairs = b.fail.repairs
    rw [hfail]
  · exact ⟨.refl _ _ b, rfl⟩

/-- What an aborted run leaves (R328). -/
structure Aborted (b : Body) : Prop where
  aborted : b.fail.aborted = true
  closed : b.flock.runOpen = false
  empty : b.flock.inFlight = none
  idle : getF b R.TLY_STROKE_STATUS.state 0 = 0
  enabled : flagF b R.TLY_STROKE_CTRL.enable 0 = true
  noFill : b.fail.fill = none

theorem abortedBody_shows (r : FailRecord) (b : Body) : Aborted (abortedBody r b) ∧ (abortedBody r b).fail.repairs = b.fail.repairs := by
  obtain ⟨hopen, hflight, hstate, hen, hfail⟩ := idled_shows b
  obtain ⟨c, hc⟩ : ∃ c, idled b = c := ⟨_, rfl⟩
  rw [hc] at hopen hflight hstate hen hfail
  obtain ⟨hmir, hrep⟩ := endMirroring_shows c
  obtain ⟨d, hd⟩ : ∃ d, endMirroring c = d := ⟨_, rfl⟩
  rw [hd] at hmir hrep
  obtain ⟨e, he⟩ : ∃ e, updFlock (fun f => { f with filling := false }) (updFail (fun f => { f with aborted := true, opens := [], fill := none, switch := none }) d) = e := ⟨_, rfl⟩
  have hde : Within [.flock, .fail] [] d e := by
    rw [← he]
    exact ⟨fun q => by cases q <;> first | exact .inl (by decide) | exact .inr rfl, fun _ _ _ _ => rfl⟩
  have heflock : e.flock = { c.flock with filling := false } := by
    rw [← he, ← (hmir.same (p := .flock) (by decide) : d.flock = c.flock)]
    rfl
  have hefail : e.fail = { d.fail with aborted := true, opens := [], fill := none, switch := none } := by
    rw [← he]
    rfl
  obtain ⟨g, hg⟩ : ∃ g, noteRun (if commitRuns b then b else updFlock (fun f => { f with commitDone := true }) b) e = g := ⟨_, rfl⟩
  have heg : Within [.rack, .sent] [] e g := hg ▸ noteRun_within _ e
  obtain ⟨hkeep, hkfail⟩ := keepRecord_shows r g
  have hx : abortedBody r b = keepRecord r g := by
    unfold abortedBody
    rw [hc, hd, he, hg]
  have hgfail : g.fail = e.fail := heg.same (p := .fail) (by decide)
  have hflock : (keepRecord r g).flock = { c.flock with filling := false } :=
    (hkeep.same (p := .flock) (by decide)).trans ((heg.same (p := .flock) (by decide)).trans heflock)
  rw [hx]
  refine ⟨⟨?_, ?_, ?_, ?_, ?_, ?_⟩, ?_⟩
  · rw [hkfail, hgfail, hefail]
    rfl
  · rw [hflock]
    exact hopen
  · rw [hflock]
    exact hflight
  · rw [hkeep.getF_eq (by decide) (by decide), heg.getF_eq (by decide) (by decide), hde.getF_eq (by decide) (by decide), hmir.getF_eq (by decide) (by decide)]
    exact hstate
  · rw [hkeep.flagF_eq (by decide) (by decide), heg.flagF_eq (by decide) (by decide), hde.flagF_eq (by decide) (by decide), hmir.flagF_eq (by decide) (by decide)]
    exact hen
  · rw [hkfail, hgfail, hefail]
    rfl
  · rw [hkfail, hgfail, hefail]
    rw [recorded_repairs]
    exact hrep.trans (congrArg Failover.repairs hfail)

theorem abortRun_aborts {r : FailRecord} (hj : joined s.body = true) (hrep : s.body.fail.repairs = []) (hbad : s.body.badStack = []) :
    (abortRun r s).pending = s.pending ∧ Aborted (abortRun r s).body ∧ ∀ a, inStaging s.body a 1 = false → memGet (abortRun r s).mem a = memGet s.mem a := by
  rw [abortRun_eq hj]
  have hquell := quelled_quells hbad
  obtain ⟨u, hu⟩ : ∃ u, quelled s = u := ⟨_, rfl⟩
  obtain ⟨c, hc⟩ : ∃ c : FailRecord, { r with action := 0x07, consequential := consequences (halted s).body } = c := ⟨_, rfl⟩
  rw [hc, hu]
  rw [hu] at hquell
  obtain ⟨hab, hrepairs⟩ := abortedBody_shows c u.body
  have hnone : (abortedBody c u.body).fail.repairs = [] := hrepairs.trans ((congrArg Failover.repairs (hquell.within.same (p := .fail) (by decide))).trans hrep)
  have hmends := startRepairs_mends (s := onBody (abortedBody c) u) (t := .park) rfl (fun x hx => by
    have hx' : x ∈ (abortedBody c u.body).fail.repairs := hx
    rw [hnone] at hx'
    cases hx')
  obtain ⟨rs, w, hfail⟩ := hmends.fail
  have hflock := hmends.within.same (p := .flock) (by decide)
  refine ⟨hmends.pending.trans hquell.pending, ⟨?_, ?_, ?_, ?_, ?_, ?_⟩, fun a ha => ?_⟩
  · exact (congrArg Failover.aborted hfail).trans hab.aborted
  · exact (congrArg Flock.runOpen hflock).trans hab.closed
  · exact (congrArg Flock.inFlight hflock).trans hab.empty
  · exact (hmends.within.getF_eq (by decide) (by decide) 0).trans hab.idle
  · exact (hmends.within.flagF_eq (by decide) (by decide) 0).trans hab.enabled
  · exact (congrArg Failover.fill hfail).trans hab.noFill
  · rw [hmends.mem]
    exact hquell.mem a ha

theorem abort_taken {st cls origin : Nat} (hact : shepherdActive s.body = true) (hj : joined s.body = true) (hrep : s.body.fail.repairs = [])
    (hbad : s.body.badStack = []) : RunsS (.abortI st cls origin) s (fun t => t.body.fail.aborted = true
      ∧ t.body.flock.runOpen = false ∧ t.body.flock.inFlight = none ∧ getF t.body R.TLY_STROKE_STATUS.state 0 = 0
      ∧ flagF t.body R.TLY_STROKE_CTRL.enable 0 = true ∧ t.body.fail.fill = none
      ∧ ∀ a, inStaging s.body a 1 = false → memGet t.mem a = memGet s.mem a) := by
  obtain ⟨r, hr⟩ : ∃ r, takeAbort st cls origin s = abortRun r s := ⟨_, rfl⟩
  obtain ⟨hpend, hab, hmem⟩ := abortRun_aborts (r := r) hj hrep hbad
  exact runsS_of_next (t := byFirmware (takeAbort st cls origin) s) rfl ((if_pos hact).trans hr) hpend
    ⟨hab.aborted, hab.closed, hab.empty, hab.idle, hab.enabled, hab.noFill, hmem⟩

theorem abort_alone {st cls origin : Nat} (hact : shepherdActive s.body = true) (hj : joined s.body = false) :
    Runs (.abortI st cls origin) s [] (fun b => b = s.body) := by
  have hx : takeAbort st cls origin s = s := if_pos (by rw [hj]; rfl)
  exact runs_of_next (t := byFirmware (takeAbort st cls origin) s) (b := s.body) rfl ((if_pos hact).trans hx) (Only.refl _ _) rfl

end Abort

/-- Settles O44: the reports, the replay START and the abort by the lemmas above. -/
theorem replayAndAbort : Obligations.ReplayAndAbort := by
  intro s hact
  refine ⟨?nothing, ?leaves, ?outOfStep, ?unit, ?cable, ?started, ?requested, ?elsewhere, ?aborted, ?alone⟩
  case nothing => exact fun copy hrep => report_nothing hact hrep
  case leaves => exact fun copy k hrep hj => report_stackLoss hact hrep hj
  case outOfStep => exact fun copy hrep hrun hseat hne hin => report_outOfStep hact hrep hrun hseat hne hin
  case unit => exact fun copy k u hrep hcov hlen hrun hseat hne hin => report_unit hact hrep hcov hlen hrun hseat hne hin
  case cable => exact fun copy p hrep hpow => report_miscabled hact hrep hpow
  case started =>
    exact fun h x k hiso hlive hcrc hlevel hlast hen hvalid hflock hrank hrun hkind hbar _ hcommit =>
      replay_started ⟨hiso, hlive, hcrc, hlevel⟩ hlast ⟨hbar, hen, hvalid, hflock, hrank⟩ hrun hkind hcommit
  case requested =>
    exact fun m st g cls o hm hst hg hcls hseat hrun hfirst hcommit ho => replay_requested hact hm hst hg hcls hseat hrun hfirst hcommit rfl ho
  case elsewhere => exact fun m st g cls hm hst hg hseat => replay_notSeat hact hm hst hg hseat
  case aborted => exact fun st cls origin hj hrep hbad => abort_taken hact hj hrep hbad
  case alone => exact fun st cls origin hj => abort_alone hact hj

end Sys2Proof.Machine

/-! SUPPORT. The mailboxes (R507 to R509, R521): what an answer changes, and how a command that is in execution ends. -/

namespace Sys2Proof.Machine

/-- The fields that an answer without an interrupt changes. -/
def replyFields : List Field := [R.MBX_STATUS.state, R.MBX_TIME.last_us]

@[simp] theorem mbx_setF (m : Nat) (b : Body) (f : Field) (i v : Nat) : mbx (setF b f i v) m = mbx b m := by simp [mbx]

/-- An answer that asks for no interrupt writes the response and marks its mailbox done. -/
theorem answer_eq {m : Nat} {t : Taken} {b : Body} (hm : m < 16) (ht : (mbx b m).taken = some t) (hq : t.noIrq = true) (st : Nat)
    (bs : List Byte) : ∃ resp us, answer m st bs b
      = setF (setF (updMbx m (fun x => { x with response := resp, taken := none }) b) R.MBX_STATUS.state m 3) R.MBX_TIME.last_us m us
      ∧ Answered m t st bs (answer m st bs b) := by
  unfold answer
  simp only [ht, if_pos hm, hq, if_true, updMbx]
  refine ⟨_, _, rfl, ?_, ?_, ?_⟩
  · simp [mbx, updHost, SMap.upd]
  · simp [mbx, updHost, SMap.upd]
  · rw [getF_setF_other _ _ (by decide) (by decide) (by decide), getF_setF_fits (by decide)]

theorem answer_shows {m : Nat} {t : Taken} {b : Body} (hm : m < 16) (ht : (mbx b m).taken = some t) (hq : t.noIrq = true) (st : Nat)
    (bs : List Byte) : Answered m t st bs (answer m st bs b) ∧ Only [.regs, .host] b (answer m st bs b)
      ∧ RegsBut replyFields m b (answer m st bs b) := by
  obtain ⟨resp, us, he, ha⟩ := answer_eq hm ht hq st bs
  refine ⟨ha, ?_, ?_⟩
  · rw [he]; simp (disch := decide) [updMbx]
  · rw [he]; simp (disch := decide) [updMbx, replyFields]

theorem isMailbox_of_lt {m : Nat} (h : m < 16) : isMailbox m = true := by
  simp [isMailbox]
  omega

/-- A refusal (R507) is an answer. -/
theorem runs_refused {c : Instr} {m op : Nat} {t : Taken} {s : State} (h : Asked m op t s.body) {sel : List Byte → Bool}
    (hs : sel t.body = true) {f : List Byte → Body → Reply × Body}
    (hx : Sys2Proof.Machine.exec c s = onUnitS (isMailbox m) (commandB m op sel f) s) {st : Nat} {off : Option Nat} {d : Nat}
    (hf : f t.body s.body = (.no st off d, s.body)) : Runs c s [.regs, .host] (Refused m t st off d) := by
  obtain ⟨hm, ht, -, hq, -⟩ := id h
  obtain ⟨ha, ho, -⟩ := answer_shows hm ht hq st (leBytes 4 (off.getD 0xFFFFFFFF) ++ leBytes 4 d)
  refine ⟨_, ?_, ho, ha⟩
  rw [hx, onUnitS, if_pos (isMailbox_of_lt hm), commandB_of_asked f h hs, hf]
  rfl

/-- Finishing a command that reads with OK answers it, without a record (R522). -/
theorem finish_ok_of_read {m : Nat} {t : Taken} {b : Body} (ht : (mbx b m).taken = some t)
    (hk : (cmdOf t.opcode).all (fun c => decide (c.kind = .read)) = true) (r : List Byte) : finish m (.ok r) b = answer m 0 r b := by
  simp [finish, ht, hk]

/-- A command that reads leaves its mailbox answered. -/
theorem runs_read {c : Instr} {m op : Nat} {t : Taken} {s : State} (h : Asked m op t s.body)
    (hk : (cmdOf op).all (fun c => decide (c.kind = .read)) = true) {f : List Byte → Body → Reply × Body}
    (hx : Sys2Proof.Machine.exec c s = onUnitS (isMailbox m) (commandB m op anyAction f) s) {r : List Byte} {b : Body}
    (hf : f t.body s.body = (.ok r, b)) (ht : (mbx b m).taken = some t) {ps : List Part} (ho : Only ps s.body b)
    (hp : Part.regs ∈ ps ∧ Part.host ∈ ps) {P : Body → Prop}
    (hP : ∀ c, Answered m t 0 r c → Only [.regs, .host] b c → RegsBut replyFields m b c → P c) : Runs c s ps P := by
  obtain ⟨hm, -, hop, hq, -⟩ := id h
  obtain ⟨ha, ho', hr⟩ := answer_shows hm ht hq 0 r
  refine ⟨answer m 0 r b, ?_, ?_, hP _ ha ho' hr⟩
  · rw [hx, onUnitS, if_pos (isMailbox_of_lt hm), commandB_of_asked f h rfl, hf]
    simp only [finish_ok_of_read ht (hop ▸ hk)]
  · exact ho.trans (ho'.widen (List.cons_subset.2 ⟨hp.1, List.cons_subset.2 ⟨hp.2, List.nil_subset _⟩⟩))

end Sys2Proof.Machine

/-! The mailbox commands that read (O55). -/

namespace Sys2Proof.Machine

variable {m : Nat} {t : Taken} {s : State}

/-- A command that reads and has no effect of its own answers with what it reads. -/
theorem runs_plainRead {c : Instr} {op : Nat} (h : Asked m op t s.body) (hk : (cmdOf op).all (fun c => decide (c.kind = .read)) = true)
    {f : List Byte → Body → Reply × Body} (hx : Sys2Proof.Machine.exec c s = onUnitS (isMailbox m) (commandB m op anyAction f) s)
    {r : List Byte} (hf : f t.body s.body = (.ok r, s.body)) : Runs c s [.regs, .host] (fun b => Answered m t 0 r b
      ∧ RegsBut [R.MBX_STATUS.state, R.MBX_TIME.last_us] m s.body b) :=
  runs_read h hk hx hf h.2.1 (Only.refl _ _) (by decide) fun _ ha _ hr => ⟨ha, hr⟩

/-! ## COX_LOOP_READ (R541) -/

theorem wordsAt_length (b : Body) (blk : Block) (inst off n : Nat) : (wordsAt b blk inst off n).length = 4 * n := by
  simp [wordsAt, leBytes_length, Nat.mul_comm]

theorem coxLoopRead_absentEngine (h : Asked m 0x0301 t s.body) (he : 19 < bfield t.body 0 1) :
    Runs (.coxLoopRead m) s [.regs, .host] (Refused m t 0x0A (some 16) 0) :=
  runs_refused h (sel := anyAction) rfl (f := coxLoopRead) rfl (if_pos he)

theorem coxLoopRead_absentSlot (h : Asked m 0x0301 t s.body) (he : bfield t.body 0 1 ≤ 19)
    (hl : slotPresent s.body (bfield t.body 0 1) (bfield t.body 1 1) = false) :
    Runs (.coxLoopRead m) s [.regs, .host] (Refused m t 0x0A (some 17) 0) := by
  refine runs_refused h (sel := anyAction) rfl (f := coxLoopRead) rfl ?_
  unfold coxLoopRead
  simp [Nat.not_lt.2 he, hl, badField]

/-- The registers of a loop come first, then its feedback area. -/
theorem coxLoopRead_answers (h : Asked m 0x0301 t s.body) (he : bfield t.body 0 1 ≤ 19)
    (hl : slotPresent s.body (bfield t.body 0 1) (bfield t.body 1 1) = true) :
    ∃ r, Runs (.coxLoopRead m) s [.regs, .host] (fun b => Answered m t 0 r b
        ∧ RegsBut [R.MBX_STATUS.state, R.MBX_TIME.last_us] m s.body b)
      ∧ r.take 144 = wordsAt s.body .cox (bfield t.body 0 1) (0x1000 + 0x100 * bfield t.body 1 1) 36
      ∧ (r.drop 144).take 32 = wordsAt s.body .cox (bfield t.body 0 1)
          (0x4000 + 0x200 * bfield t.body 1 1 + 0x20 * getF s.body R.COX_REGION.region (lix (bfield t.body 0 1) (bfield t.body 1 1))) 8 := by
  have hf : ∃ rest, coxLoopRead t.body s.body = (.ok (wordsAt s.body .cox (bfield t.body 0 1) (0x1000 + 0x100 * bfield t.body 1 1) 36
      ++ (wordsAt s.body .cox (bfield t.body 0 1) (0x4000 + 0x200 * bfield t.body 1 1
        + 0x20 * getF s.body R.COX_REGION.region (lix (bfield t.body 0 1) (bfield t.body 1 1))) 8 ++ rest)), s.body) := by
    unfold coxLoopRead
    simp only [Nat.not_lt.2 he, if_false, hl, Bool.not_true, Bool.false_eq_true, List.append_assoc]
    exact ⟨_, rfl⟩
  obtain ⟨rest, hf⟩ := hf
  have h144 := wordsAt_length s.body .cox (bfield t.body 0 1) (0x1000 + 0x100 * bfield t.body 1 1) 36
  refine ⟨_, runs_plainRead h (by decide) rfl hf, List.take_left' h144, ?_⟩
  rw [List.drop_left' h144]
  exact List.take_left' (wordsAt_length _ _ _ _ _)

/-! ## FAILOVER_STATUS (R557) -/

theorem failoverStatus_badCount (h : Asked m 0x0902 t s.body) (hc : bfield t.body 8 2 < 1 ∨ 120 < bfield t.body 8 2) :
    Runs (.failoverStatus m) s [.regs, .host] (Refused m t 0x0A (some 24) 0) :=
  runs_refused h (sel := anyAction) rfl (f := failoverStatus) rfl (if_pos hc)

/-- The last sequence comes first, and the records asked for after the 32 bytes of state. -/
theorem failoverStatus_answers (h : Asked m 0x0902 t s.body) (h1 : 1 ≤ bfield t.body 8 2) (h120 : bfield t.body 8 2 ≤ 120)
    (hfill : s.body.flock.filling = false) (hno : s.body.fail.fill = none) :
    ∃ r, Runs (.failoverStatus m) s [.regs, .host] (fun b => Answered m t 0 r b
        ∧ RegsBut [R.MBX_STATUS.state, R.MBX_TIME.last_us] m s.body b)
      ∧ r.take 8 = leBytes 8 s.body.fail.lastSeq
      ∧ r.drop 32 = ((s.body.fail.records.filter (fun x => decide (bfield t.body 0 8 ≤ x.seq))).take (bfield t.body 8 2)).flatMap
          FailRecord.bytes := by
  have hf : ∃ state : List Byte, state.length = 32 ∧ state.take 8 = leBytes 8 s.body.fail.lastSeq
      ∧ failoverStatus t.body s.body = (.ok (state
        ++ ((s.body.fail.records.filter (fun x => decide (bfield t.body 0 8 ≤ x.seq))).take (bfield t.body 8 2)).flatMap
          FailRecord.bytes), s.body) := by
    unfold failoverStatus
    have hok : ¬ (bfield t.body 8 2 < 1 ∨ 120 < bfield t.body 8 2) := by omega
    simp only [if_neg hok, hfill, hno, Option.isSome_none, Bool.or_self, Bool.false_eq_true, if_false]
    refine ⟨_, ?_, ?_, rfl⟩
    · simp [leBytes_length]
    · simp only [List.append_assoc]
      exact List.take_left' (leBytes_length _ _)
  obtain ⟨state, hlen, htake, hf⟩ := hf
  refine ⟨_, runs_plainRead h (by decide) rfl hf, ?_, List.drop_left' hlen⟩
  rw [List.take_append_of_le_length (by omega), htake]

/-! ## The cursors of the logbook (R547 to R549) -/

theorem taken_updLog {f : Logbook → Logbook} {b : Body} {k : Nat} (h : (mbx b k).taken = some t) : (mbx (updLog f b) k).taken = some t := h

theorem originOf_host (hm : m < 16) : originOf m = 1 := if_pos hm

theorem logbookOpenCursor_opens (h : Asked m 0x0501 t s.body) :
    Runs (.logbookOpenCursor m) s [.regs, .host, .logbook] (fun b =>
      (⟨1, newHandle s.body.logbook 1, bfield t.body 0 1,
          if bfield t.body 8 8 = 0 then ((heldIn s.body.logbook (bfield t.body 0 1)).head?.map (·.seq)).getD 0 else bfield t.body 8 8,
          s.body.logbook.uses⟩ : Cursor) ∈ b.logbook.cursors
        ∧ Answered m t 0 (leBytes 2 (newHandle s.body.logbook 1) ++ leBytes 2 0
          ++ leBytes 8 (((heldIn s.body.logbook (bfield t.body 0 1)).head?.map (·.seq)).getD 0)
          ++ leBytes 8 (((heldIn s.body.logbook (bfield t.body 0 1)).getLast?.map (·.seq)).getD 0) ++ leBytes 4 0) b) := by
  have ho := originOf_host h.1
  refine runs_read h (by decide) (f := openCursor m) rfl (by unfold openCursor; rw [ho]) (taken_updLog h.2.1)
    (by simp) (by decide) fun c ha hsame _ => ⟨?_, ha⟩
  rw [show c.logbook = _ from (hsame .logbook).resolve_left (by decide)]
  exact List.mem_append_right _ (List.mem_singleton_self _)

theorem logbookRead_closed (h : Asked m 0x0502 t s.body)
    (hf : s.body.logbook.cursors.find? (fun c => c.origin == 1 && c.handle == bfield t.body 0 2) = none) :
    Runs (.logbookRead m) s [.regs, .host] (Refused m t 0x0A (some 16) 0) := by
  refine runs_refused h (sel := anyAction) rfl (f := readCursor m) rfl ?_
  simp only [readCursor, originOf_host h.1, hf, badField]

theorem logbookRead_badCount (h : Asked m 0x0502 t s.body) {c : Cursor}
    (hf : s.body.logbook.cursors.find? (fun c => c.origin == 1 && c.handle == bfield t.body 0 2) = some c)
    (hn : bfield t.body 2 2 % 8 ≠ 0 ∨ bfield t.body 2 2 < 1032 ∨ 4056 < bfield t.body 2 2) :
    Runs (.logbookRead m) s [.regs, .host] (Refused m t 0x0A (some 18) 0) := by
  refine runs_refused h (sel := anyAction) rfl (f := readCursor m) rfl ?_
  simp only [readCursor, originOf_host h.1, hf, if_pos hn, badField]

theorem logbookRead_answers (h : Asked m 0x0502 t s.body) {c : Cursor}
    (hf : s.body.logbook.cursors.find? (fun c => c.origin == 1 && c.handle == bfield t.body 0 2) = some c)
    (h8 : bfield t.body 2 2 % 8 = 0) (hlo : 1032 ≤ bfield t.body 2 2) (hhi : bfield t.body 2 2 ≤ 4056) :
    let a := logAnswer s.body.logbook c.area c.seq (bfield t.body 2 2)
    let bytes := a.records.flatMap LogRec.bytes
    Runs (.logbookRead m) s [.regs, .host, .logbook] (fun b =>
      Answered m t 0 (leBytes 8 a.next ++ leBytes 2 bytes.length ++ leBytes 1 a.records.length
        ++ leBytes 1 (ofFlag a.atEnd + ofFlag a.skipped * 2) ++ leBytes 4 0 ++ bytes) b
        ∧ ({ c with seq := a.next, used := s.body.logbook.uses } : Cursor) ∈ b.logbook.cursors) := by
  intro a bytes
  have hn : ¬ (bfield t.body 2 2 % 8 ≠ 0 ∨ bfield t.body 2 2 < 1032 ∨ 4056 < bfield t.body 2 2) := by omega
  obtain ⟨f, hf', hcursors⟩ : ∃ f, readCursor m t.body s.body = (.ok (leBytes 8 a.next ++ leBytes 2 bytes.length
      ++ leBytes 1 a.records.length ++ leBytes 1 (ofFlag a.atEnd + ofFlag a.skipped * 2) ++ leBytes 4 0 ++ bytes), updLog f s.body)
      ∧ (f s.body.logbook).cursors = s.body.logbook.cursors.map (fun x => if x.origin = 1 ∧ x.handle = bfield t.body 0 2
        then { x with seq := a.next, used := s.body.logbook.uses } else x) := by
    simp only [readCursor, originOf_host h.1, hf, if_neg hn]
    exact ⟨_, rfl, rfl⟩
  refine runs_read h (by decide) rfl hf' (taken_updLog h.2.1) (by simp) (by decide) fun d ha hsame _ => ⟨ha, ?_⟩
  have hc := List.find?_some hf
  simp only [Bool.and_eq_true, beq_iff_eq] at hc
  rw [show d.logbook = f s.body.logbook from (hsame .logbook).resolve_left (by decide), hcursors]
  exact List.mem_map.2 ⟨c, List.mem_of_find?_eq_some hf, if_pos hc⟩

/-- Settles O55: a command that reads answers with what it reads, each check that fails with its own field. -/
theorem readingCommands : Obligations.ReadingCommands := by
  intro m t s b0 f reads refuses
  refine ⟨?identify, ?status, ?ledger, ?storage, ?loop, ?failover, ?openCursor, ?read⟩
  case identify => exact fun h => runs_plainRead h (by decide) rfl rfl
  case status => exact fun h => runs_plainRead h (by decide) rfl rfl
  case ledger => exact fun h => runs_plainRead h (by decide) rfl rfl
  case storage => exact fun h => runs_plainRead h (by decide) rfl rfl
  case loop => exact fun h => ⟨coxLoopRead_absentEngine h, coxLoopRead_absentSlot h, coxLoopRead_answers h⟩
  case failover => exact fun h => ⟨failoverStatus_badCount h, failoverStatus_answers h⟩
  case openCursor => exact logbookOpenCursor_opens
  case read =>
    exact fun h => ⟨logbookRead_closed h, fun c hf => logbookRead_badCount h hf, fun c hf => logbookRead_answers h hf⟩

end Sys2Proof.Machine

/-! SUPPORT. The host link (O54): loops that visit each index once, the vectors of a mask, and the resets of the link. -/

namespace Sys2Proof.Machine

/-! ## Loops -/

/-- A loop keeps what each of its steps keeps. -/
theorem forEach_keeps {α : Type} {P : Body → Prop} {f : α → Body → Body} {l : List α} (h : ∀ x ∈ l, ∀ b, P b → P (f x b)) {b : Body} (hb : P b) :
    P (forEach l f b) := by
  induction l generalizing b with
  | nil => exact hb
  | cons x l ih => exact ih (fun y hy => h y (List.mem_cons_of_mem _ hy)) (h x List.mem_cons_self b hb)

/-- A loop that meets an index once: what holds until its step is turned by it into what the steps after it keep. -/
theorem forEach_visits {α : Type} {P Q : Body → Prop} {f : α → Body → Body} {l : List α} {v : α} (hl : l.Nodup) (hv : v ∈ l)
    (hP : ∀ x, x ≠ v → ∀ b, P b → P (f x b)) (hPQ : ∀ b, P b → Q (f v b)) (hQ : ∀ x, x ≠ v → ∀ b, Q b → Q (f x b)) {b : Body} (hb : P b) :
    Q (forEach l f b) := by
  induction l generalizing b with
  | nil => cases hv
  | cons x l ih =>
    obtain ⟨hx, hl⟩ := List.nodup_cons.1 hl
    rcases List.mem_cons.1 hv with rfl | hmem
    · exact forEach_keeps (fun y hy c => hQ y (fun e => hx (e ▸ hy)) c) (hPQ b hb)
    · exact ih hl hmem (hP x (fun e => hx (e ▸ hmem)) b hb)

/-! ## Vectors (R504, R518) -/

theorem mem_vectorsOf {mask v : Nat} (hv : v < 30) : v ∈ vectorsOf mask ↔ bit mask v = true := by
  simp [vectorsOf, hv]

theorem vectorsOf_nodup (mask : Nat) : (vectorsOf mask).Nodup := List.nodup_range.filter _

/-- The cause bit of a vector after the bit of a vector is set. -/
theorem causeBit_setBit {v : Nat} (hv : v < 30) (b : Body) (x : Nat) (y : Bool) :
    bit (getF (setF b R.IRQ_CAUSE.cause 0 (setBit (getF b R.IRQ_CAUSE.cause 0) x y)) R.IRQ_CAUSE.cause 0) v
      = if v = x then y else bit (getF b R.IRQ_CAUSE.cause 0) v := by
  rw [getF_setF_same, show R.IRQ_CAUSE.cause.width = 30 from rfl, bit_mod_two_pow _ hv, bit_setBit]

theorem msixEntry_setF (b : Body) (f : Field) (i x v : Nat) : msixEntry (setF b f i x) v = msixEntry b v := by simp [msixEntry]

/-- What raising or sending a vector depends on, and leaves as it is. -/
structure MasksAs (b c : Body) : Prop where
  fnMask : c.host.fnMask = b.host.fnMask
  entries : c.host.msix = b.host.msix
  mask : getF c R.IRQ_MASK.mask 0 = getF b R.IRQ_MASK.mask 0

theorem MasksAs.refl (b : Body) : MasksAs b b := ⟨rfl, rfl, rfl⟩

theorem MasksAs.trans {b c d : Body} (h : MasksAs b c) (k : MasksAs c d) : MasksAs b d :=
  ⟨k.fnMask.trans h.fnMask, k.entries.trans h.entries, k.mask.trans h.mask⟩

theorem MasksAs.entry {b c : Body} (h : MasksAs b c) (v : Nat) : msixEntry c v = msixEntry b v :=
  congrArg (fun m => SMap.get m MsixEntry.reset v) h.entries

theorem sendVector_masksAs (v : Nat) (b : Body) : MasksAs b (sendVector v b) := by
  refine ⟨?_, ?_, getF_sendVector _ _ _ _⟩ <;> (unfold sendVector; split <;> rfl)

theorem withCause_masksAs (v : Nat) (b : Body) : MasksAs b (withCause v b) := by
  refine ⟨by simp [withCause], by simp [withCause], ?_⟩
  unfold withCause
  simp (disch := decide)

theorem raiseVec_masksAs (v : Nat) (b : Body) : MasksAs b (raiseVec v b) := by
  obtain ⟨-, h⟩ | h | h := raiseVec_cases v b <;> rw [h]
  · exact .refl b
  · exact withCause_masksAs v b
  · exact (withCause_masksAs v b).trans (sendVector_masksAs v _)

/-- What becomes of a vector's message: it goes out, or stays pending where the function or its entry is masked. -/
def Told (v : Nat) (kept : Prop) (b : Body) : Prop := (kept → bit b.host.msixPending v = true) ∧ (¬ kept → .msix v ∈ b.sent)

/-- It stays so while no message is withdrawn. -/
theorem Told.other {v : Nat} {kept : Prop} {b c : Body} (h : Told v kept b) (hs : b.sent ⊆ c.sent)
    (hp : bit b.host.msixPending v = true → bit c.host.msixPending v = true) : Told v kept c := ⟨hp ∘ h.1, fun k => hs (h.2 k)⟩

theorem sendVector_pending_mono (x v : Nat) (b : Body) (h : bit b.host.msixPending v = true) :
    bit (sendVector x b).host.msixPending v = true := by
  unfold sendVector
  split
  · simp only [updHost, bit_setBit]
    split <;> simp [h]
  · exact h

theorem raiseVec_pending_mono (x v : Nat) (b : Body) (h : bit b.host.msixPending v = true) :
    bit (raiseVec x b).host.msixPending v = true := by
  obtain ⟨-, hr⟩ | hr | hr := raiseVec_cases x b <;> rw [hr]
  · exact h
  · simpa [withCause] using h
  · exact sendVector_pending_mono x v _ (by simpa [withCause] using h)

theorem sendVector_told (v : Nat) (b : Body) : Told v (b.host.fnMask = true ∨ (msixEntry b v).masked = true) (sendVector v b) := by
  unfold sendVector
  split
  next h => exact ⟨fun _ => by simp [updHost, bit_setBit], fun k => absurd h k⟩
  next h => exact ⟨fun k => absurd k h, fun _ => List.mem_cons_self⟩

/-- A vector that was not pending and is not masked in IRQ_MASK is sent. -/
theorem raiseVec_told {v : Nat} {b : Body} (hc : bit (getF b R.IRQ_CAUSE.cause 0) v = false) (hm : bit (getF b R.IRQ_MASK.mask 0) v = false) :
    Told v (b.host.fnMask = true ∨ (msixEntry b v).masked = true) (raiseVec v b) := by
  have hmask := withCause_masksAs v b
  have h : raiseVec v b = sendVector v (withCause v b) := by
    have hm' : bit (getF (withCause v b) R.IRQ_MASK.mask 0) v = false := by rw [hmask.mask]; exact hm
    unfold withCause at hm'
    unfold raiseVec withCause
    simp only [hc, hm', Bool.false_eq_true, if_false]
  have ht := sendVector_told v (withCause v b)
  rw [hmask.fnMask, hmask.entry] at ht
  rw [h]
  exact ht

/-- A message that a step for vector `x` sends is that vector's. -/
theorem sendVector_sends_own {x v : Nat} (b : Body) (h : .msix v ∈ (sendVector x b).sent) : .msix v ∈ b.sent ∨ v = x := by
  unfold sendVector at h
  split at h
  · exact .inl h
  · rcases List.mem_cons.1 h with he | he
    · exact .inr (by injection he)
    · exact .inl he

theorem raiseVec_sends_own {x v : Nat} (b : Body) (h : .msix v ∈ (raiseVec x b).sent) :
    .msix v ∈ b.sent ∨ v = x ∧ bit (getF b R.IRQ_CAUSE.cause 0) v = false := by
  by_cases hc : bit (getF b R.IRQ_CAUSE.cause 0) x = true
  · rw [show raiseVec x b = b from if_pos hc] at h
    exact .inl h
  obtain ⟨hold, -⟩ | hr | hr := raiseVec_cases x b
  · exact absurd hold hc
  · rw [hr] at h
    exact .inl (by simpa [withCause] using h)
  · rw [hr] at h
    rcases sendVector_sends_own _ h with hs | rfl
    · exact .inl (by simpa [withCause] using hs)
    · exact .inr ⟨rfl, by simpa using hc⟩

theorem raiseVec_causeBit {v : Nat} (hv : v < 30) (x : Nat) (b : Body) :
    bit (getF (raiseVec x b) R.IRQ_CAUSE.cause 0) v = (bit (getF b R.IRQ_CAUSE.cause 0) v || v == x) := by
  obtain ⟨hold, h⟩ | h | h := raiseVec_cases x b <;> rw [h]
  · by_cases e : v = x
    · simp [e, hold]
    · simp [e]
  all_goals
    simp only [getF_sendVector, withCause, causeBit_setBit hv]
    by_cases e : v = x <;> simp [e]

/-! ## Resets of the link (R502) -/

/-- The fields that a reset of the link clears. -/
def hostResetFields : List Field := [R.IRQ_CAUSE.cause, R.IRQ_MASK.mask, R.MBX_STATUS.state, R.MBX_ALIVE.seen, R.DRV_HQ_HEAD.head,
  R.DRV_HQ_TAIL.tail, R.LGB_WIN_STATUS.state, R.LGB_CTRL.follow]

/-- A mailbox that is pending or done falls idle, and its alive check starts anew. -/
def resetMailbox (m : Nat) (b : Body) : Body :=
  let st := getF b R.MBX_STATUS.state m
  let b := if st = 1 ∨ st = 3 then updMbx m (fun x => { x with response := [] }) (setF b R.MBX_STATUS.state m 0) else b
  setFlag b R.MBX_ALIVE.seen m false

/-- The ring of a host drover is empty. -/
def resetRing (h : Nat) (b : Body) : Body := setF (setF b R.DRV_HQ_HEAD.head h 0) R.DRV_HQ_TAIL.tail h 0

/-- No cause is pending and no message; every cause is masked. -/
def resetVectors (b : Body) : Body :=
  updHost (fun h => { h with msix := [], msixPending := 0, fnMask := false, doorbells := h.doorbells.filter (16 ≤ ·) })
    (setF (setF b R.IRQ_CAUSE.cause 0 0) R.IRQ_MASK.mask 0 0x3FFFFFFF)

theorem hostReset_eq (b : Body) : hostReset b = setFlag (setF (forEach (List.range 4) resetRing (forEach (List.range 16) resetMailbox
    (resetVectors b))) R.LGB_WIN_STATUS.state 0 0) R.LGB_CTRL.follow 0 false := rfl

theorem resetMailbox_within (m : Nat) (b : Body) : Within [.regs, .host] [R.MBX_STATUS.state, R.MBX_ALIVE.seen] b (resetMailbox m b) := by
  unfold resetMailbox
  simp only []
  split <;> constructor <;> simp (disch := decide)

theorem resetRing_within (h : Nat) (b : Body) : Within [.regs] [R.DRV_HQ_HEAD.head, R.DRV_HQ_TAIL.tail] b (resetRing h b) := by
  unfold resetRing
  constructor <;> simp (disch := decide)

/-- What faces the host besides the mailboxes: its interrupts and the state of the link. -/
structure FacesAs (b c : Body) : Prop where
  link : c.host.linkUp = b.host.linkUp
  msix : c.host.msix = b.host.msix
  pending : c.host.msixPending = b.host.msixPending
  fnMask : c.host.fnMask = b.host.fnMask

theorem FacesAs.refl (b : Body) : FacesAs b b := ⟨rfl, rfl, rfl, rfl⟩

theorem FacesAs.trans {b c d : Body} (h : FacesAs b c) (k : FacesAs c d) : FacesAs b d :=
  ⟨k.link.trans h.link, k.msix.trans h.msix, k.pending.trans h.pending, k.fnMask.trans h.fnMask⟩

theorem resetMailbox_facesAs (m : Nat) (b : Body) : FacesAs b (resetMailbox m b) := by
  unfold resetMailbox
  simp only []
  split <;> constructor <;> simp [updMbx, updHost]

theorem resetMailbox_shows (m : Nat) (b : Body) : getF (resetMailbox m b) R.MBX_STATUS.state m
      = (if getF b R.MBX_STATUS.state m = 1 ∨ getF b R.MBX_STATUS.state m = 3 then 0 else getF b R.MBX_STATUS.state m)
    ∧ flagF (resetMailbox m b) R.MBX_ALIVE.seen m = false := by
  unfold resetMailbox
  simp only []
  refine ⟨?_, flagF_setFlag_same _ _ _ _ (by decide)⟩
  rw [getF_setFlag_other _ _ (by decide) (by decide) (by decide)]
  split <;> simp

theorem resetMailbox_other {x m : Nat} (h : x ≠ m) (b : Body) : getF (resetMailbox x b) R.MBX_STATUS.state m = getF b R.MBX_STATUS.state m
    ∧ flagF (resetMailbox x b) R.MBX_ALIVE.seen m = flagF b R.MBX_ALIVE.seen m := by
  unfold resetMailbox
  simp only []
  constructor
  · rw [getF_setFlag_other _ _ (by decide) (by decide) (by decide)]
    split
    · rw [getF_updMbx, getF_setF_instance _ _ _ _ _ (Ne.symm h)]
    · rfl
  · rw [flagF, flagF, setFlag, getF_setF_instance _ _ _ _ _ (Ne.symm h)]
    split
    · rw [getF_updMbx, getF_setF_other _ _ (by decide) (by decide) (by decide)]
    · rfl

theorem resetRings_shows {h : Nat} (hh : h < 4) (b : Body) : getF (forEach (List.range 4) resetRing b) R.DRV_HQ_HEAD.head h = 0
    ∧ getF (forEach (List.range 4) resetRing b) R.DRV_HQ_TAIL.tail h = 0 := by
  refine forEach_visits (P := fun _ => True) (Q := fun c => getF c R.DRV_HQ_HEAD.head h = 0 ∧ getF c R.DRV_HQ_TAIL.tail h = 0)
    List.nodup_range (List.mem_range.2 hh) (fun _ _ _ _ => trivial) (fun c _ => ?_) (fun x hx c hc => ?_) trivial
  · unfold resetRing
    rw [getF_setF_other _ _ (by decide) (by decide) (by decide), getF_setF_same, getF_setF_same]
    exact ⟨rfl, rfl⟩
  · unfold resetRing
    rw [getF_setF_other _ _ (by decide) (by decide) (by decide), getF_setF_instance _ _ _ _ _ (Ne.symm hx),
      getF_setF_instance _ _ _ _ _ (Ne.symm hx), getF_setF_other _ _ (by decide) (by decide) (by decide)]
    exact hc

theorem resetMailboxes_show {m : Nat} (hm : m < 16) (b : Body) : getF (forEach (List.range 16) resetMailbox b) R.MBX_STATUS.state m
      = (if getF b R.MBX_STATUS.state m = 1 ∨ getF b R.MBX_STATUS.state m = 3 then 0 else getF b R.MBX_STATUS.state m)
    ∧ flagF (forEach (List.range 16) resetMailbox b) R.MBX_ALIVE.seen m = false := by
  refine forEach_visits (P := fun c => getF c R.MBX_STATUS.state m = getF b R.MBX_STATUS.state m)
    (Q := fun c => getF c R.MBX_STATUS.state m = (if getF b R.MBX_STATUS.state m = 1 ∨ getF b R.MBX_STATUS.state m = 3 then 0
      else getF b R.MBX_STATUS.state m) ∧ flagF c R.MBX_ALIVE.seen m = false)
    List.nodup_range (List.mem_range.2 hm) (fun x hx c hc => ?_) (fun c hc => ?_) (fun x hx c hc => ?_) rfl
  · rw [(resetMailbox_other hx c).1, hc]
  · rw [← hc]
    exact resetMailbox_shows m c
  · obtain ⟨h1, h2⟩ := resetMailbox_other hx c
    rw [h1, h2]
    exact hc

/-- What a reset of the link leaves. -/
theorem hostReset_shows {m : Nat} (hm : m < 16) (b : Body) :
    getF (hostReset b) R.IRQ_CAUSE.cause 0 = 0 ∧ getF (hostReset b) R.IRQ_MASK.mask 0 = 0x3FFFFFFF ∧ (hostReset b).host.msix = []
      ∧ (hostReset b).host.msixPending = 0 ∧ (hostReset b).host.fnMask = false
      ∧ getF (hostReset b) R.MBX_STATUS.state m = (if getF b R.MBX_STATUS.state m = 1 ∨ getF b R.MBX_STATUS.state m = 3 then 0
        else getF b R.MBX_STATUS.state m) ∧ flagF (hostReset b) R.MBX_ALIVE.seen m = false
      ∧ (∀ h, h < 4 → getF (hostReset b) R.DRV_HQ_HEAD.head h = 0 ∧ getF (hostReset b) R.DRV_HQ_TAIL.tail h = 0)
      ∧ getF (hostReset b) R.LGB_WIN_STATUS.state 0 = 0 ∧ flagF (hostReset b) R.LGB_CTRL.follow 0 = false
      ∧ (hostReset b).host.linkUp = b.host.linkUp ∧ Within [.regs, .host] hostResetFields b (hostReset b) := by
  rw [hostReset_eq]
  obtain ⟨v, hv⟩ : ∃ v, resetVectors b = v := ⟨_, rfl⟩
  have hvw : Within [.regs, .host] [R.IRQ_CAUSE.cause, R.IRQ_MASK.mask] b v := by
    rw [← hv]
    constructor <;> simp (disch := decide) [resetVectors]
  have hcause : getF v R.IRQ_CAUSE.cause 0 = 0 ∧ getF v R.IRQ_MASK.mask 0 = 0x3FFFFFFF := by
    rw [← hv]
    unfold resetVectors
    rw [getF_updHost, getF_updHost, getF_setF_other _ _ (by decide) (by decide) (by decide), getF_setF_same, getF_setF_same]
    exact ⟨rfl, rfl⟩
  have hvhost : v.host.msix = [] ∧ v.host.msixPending = 0 ∧ v.host.fnMask = false ∧ v.host.linkUp = b.host.linkUp := by
    rw [← hv]
    refine ⟨rfl, rfl, rfl, ?_⟩
    simp [resetVectors, updHost]
  obtain ⟨w, hw⟩ : ∃ w, forEach (List.range 16) resetMailbox v = w := ⟨_, rfl⟩
  have hww : Within [.regs, .host] [R.MBX_STATUS.state, R.MBX_ALIVE.seen] v w := hw ▸ forEach_within resetMailbox_within _ v
  have hwf : FacesAs v w := hw ▸ forEach_keeps (P := FacesAs v) (fun x _ c hc => hc.trans (resetMailbox_facesAs x c)) (.refl v)
  have hwm := resetMailboxes_show hm v
  rw [hw, hvw.getF_eq (by decide) (by decide)] at hwm
  obtain ⟨z, hz⟩ : ∃ z, forEach (List.range 4) resetRing w = z := ⟨_, rfl⟩
  have hzw : Within [.regs] [R.DRV_HQ_HEAD.head, R.DRV_HQ_TAIL.tail] w z := hz ▸ forEach_within resetRing_within _ w
  have hzr : ∀ h, h < 4 → getF z R.DRV_HQ_HEAD.head h = 0 ∧ getF z R.DRV_HQ_TAIL.tail h = 0 := fun h hh => hz ▸ resetRings_shows hh w
  have hzh : z.host = w.host := hzw.same (p := .host) (by decide)
  rw [hv, hw, hz]
  have hlast : ∀ (f : Field) (j : Nat), f.idx < 1024 → f.idx ∉ [R.LGB_WIN_STATUS.state, R.LGB_CTRL.follow].map Field.idx →
      getF (setFlag (setF z R.LGB_WIN_STATUS.state 0 0) R.LGB_CTRL.follow 0 false) f j = getF z f j := fun f j hf hn =>
    ((fieldsBut_refl (fs := [R.LGB_WIN_STATUS.state, R.LGB_CTRL.follow]) |> (fieldsBut_setF 0 0 (by decide) (by decide)).2
      |> (fieldsBut_setFlag 0 false (by decide) (by decide)).2) f j hf hn)
  have hhost : (setFlag (setF z R.LGB_WIN_STATUS.state 0 0) R.LGB_CTRL.follow 0 false).host = w.host := by simp [hzh]
  refine ⟨?_, ?_, ?_, ?_, ?_, ?_, ?_, ?_, ?_, ?_, ?_, ?_⟩
  · rw [hlast _ _ (by decide) (by decide), hzw.getF_eq (by decide) (by decide), hww.getF_eq (by decide) (by decide)]
    exact hcause.1
  · rw [hlast _ _ (by decide) (by decide), hzw.getF_eq (by decide) (by decide), hww.getF_eq (by decide) (by decide)]
    exact hcause.2
  · rw [hhost, hwf.msix, hvhost.1]
  · rw [hhost, hwf.pending, hvhost.2.1]
  · rw [hhost, hwf.fnMask, hvhost.2.2.1]
  · rw [hlast _ _ (by decide) (by decide), hzw.getF_eq (by decide) (by decide)]
    exact hwm.1
  · rw [flagF, hlast _ _ (by decide) (by decide), hzw.getF_eq (by decide) (by decide)]
    exact hwm.2
  · intro h hh
    rw [hlast _ _ (by decide) (by decide), hlast _ _ (by decide) (by decide)]
    exact hzr h hh
  · rw [getF_setFlag_other _ _ (by decide) (by decide) (by decide), getF_setF_same]
    rfl
  · exact flagF_setFlag_same _ _ _ _ (by decide)
  · rw [hhost, hwf.link, hvhost.2.2.2]
  · refine (hvw.mono (List.Subset.refl _) (by decide)).trans ((hww.mono (List.Subset.refl _) (by decide)).trans
      ((hzw.mono (by decide) (by decide)).trans ?_))
    constructor <;> simp (disch := decide)

end Sys2Proof.Machine

/-! The host link (O54). -/

namespace Sys2Proof.Machine

section HostLink

variable {m v mask : Nat} {s : State}

/-! ## Resets and training of the link (R500, R502) -/

/-- What a reset of the link shows to a command. -/
theorem runs_linkReset (hm : m < 16) {c : Instr} {b : Body} (hb : Within [.host] [] s.body b)
    (hx : Sys2Proof.Machine.exec c s = .next { s with body := hostReset b }) :
    Runs c s [.regs, .host] (fun d => getF d R.IRQ_CAUSE.cause 0 = 0 ∧ getF d R.IRQ_MASK.mask 0 = 0x3FFFFFFF ∧ d.host.msix = []
      ∧ d.host.msixPending = 0 ∧ d.host.fnMask = false
      ∧ getF d R.MBX_STATUS.state m = (if getF s.body R.MBX_STATUS.state m = 1 ∨ getF s.body R.MBX_STATUS.state m = 3 then 0
        else getF s.body R.MBX_STATUS.state m) ∧ flagF d R.MBX_ALIVE.seen m = false
      ∧ (∀ h, h < 4 → getF d R.DRV_HQ_HEAD.head h = 0 ∧ getF d R.DRV_HQ_TAIL.tail h = 0)
      ∧ getF d R.LGB_WIN_STATUS.state 0 = 0 ∧ flagF d R.LGB_CTRL.follow 0 = false ∧ d.host.linkUp = b.host.linkUp
      ∧ ∀ g j, g.idx < 1024 → g.idx ∉ hostResetFields.map Field.idx → getF d g j = getF s.body g j) := by
  obtain ⟨hcause, hmask, hmsix, hpend, hfn, hst, hseen, hring, hwin, hfollow, hlink, hw⟩ := hostReset_shows hm b
  rw [hb.getF_eq (by decide) (by decide)] at hst
  exact ⟨_, hx, ((hb.mono (by decide) (by decide)).trans hw).only, hcause, hmask, hmsix, hpend, hfn, hst, hseen, hring, hwin, hfollow, hlink,
    ((hb.mono (by decide) (by decide)).trans hw).fields⟩

theorem withLink_within (x : Bool) (b : Body) : Within [.host] [] b (updHost (fun h => { h with linkUp := x }) b) := by
  constructor <;> simp (disch := decide)

theorem isLink_of {rate width : Nat} (hr : rate < 6) (hw : width ∈ [1, 2, 4, 8, 16]) :
    (decide (rate < 6) && [1, 2, 4, 8, 16].contains width) = true := by
  simpa [hr] using hw

variable {rate width : Nat} (hr : rate < 6) (hw : width ∈ [1, 2, 4, 8, 16]) (hk : s.body.cox.path.housekeeping = true)
  (hh : s.body.cox.path.heldReset = false)
include hr hw hk hh

theorem pcieLinkUp_trains : Runs (.pcieLinkUp rate width true) s [.regs, .host] (fun b => b.host = { s.body.host with linkUp := true }
    ∧ getF b R.GBL_PCIE.rate 0 = rate ∧ getF b R.GBL_PCIE.width 0 = width ∧ flagF b R.GBL_PCIE.no_flit 0 = false) := by
  have hx : linkUp rate width true s.body = updHost (fun h => { h with linkUp := true })
      (setFlag (setF (setF s.body R.GBL_PCIE.rate 0 rate) R.GBL_PCIE.width 0 width) R.GBL_PCIE.no_flit 0 false) := by
    simp [linkUp, hk, hh]
  have hwl : width < 2 ^ R.GBL_PCIE.width.width := by
    have : ∀ w ∈ [1, 2, 4, 8, 16], w < 2 ^ R.GBL_PCIE.width.width := by decide
    exact this width hw
  have hhost : (setFlag (setF (setF s.body R.GBL_PCIE.rate 0 rate) R.GBL_PCIE.width 0 width) R.GBL_PCIE.no_flit 0 false).host = s.body.host := by
    simp
  refine runs_of_lift (f := linkUp rate width true) (lift_of_onUnit (isLink_of hr hw)) hx ?_ ⟨?_, ?_, ?_, ?_⟩
  · simp (disch := decide)
  · exact congrArg (fun h : HostSide => { h with linkUp := true }) hhost
  · rw [getF_updHost, getF_setFlag_other _ _ (by decide) (by decide) (by decide), getF_setF_other _ _ (by decide) (by decide) (by decide)]
    exact getF_setF_fits (hr.trans (by decide))
  · rw [getF_updHost, getF_setFlag_other _ _ (by decide) (by decide) (by decide)]
    exact getF_setF_fits hwl
  · rw [flagF, getF_updHost]
    exact flagF_setFlag_same _ _ _ _ (by decide)

theorem pcieLinkUp_noFlit : Runs (.pcieLinkUp rate width false) s [.regs, .host] (fun b => b.host.linkUp = false
    ∧ flagF b R.GBL_PCIE.no_flit 0 = true) := by
  have hx : linkUp rate width false s.body = updHost (fun h => { h with linkUp := false }) (setFlag s.body R.GBL_PCIE.no_flit 0 true) := by
    simp [linkUp, hk, hh]
  refine runs_of_lift (f := linkUp rate width false) (lift_of_onUnit (isLink_of hr hw)) hx (by simp (disch := decide)) ⟨rfl, ?_⟩
  rw [flagF, getF_updHost]
  exact flagF_setFlag_same _ _ _ _ (by decide)

end HostLink

section Vectors

variable {v mask : Nat} {s : State} (hv : v < 30)
include hv

/-! ## Vectors (R504, R518) -/

/-- The step of `causeClear` for one vector. -/
def clearVector (x : Nat) (b : Body) : Body :=
  updHost (fun h => { h with msixPending := setBit h.msixPending x false })
    (setF b R.IRQ_CAUSE.cause 0 (setBit (getF b R.IRQ_CAUSE.cause 0) x false))

omit hv in
theorem clearVector_within (x : Nat) (b : Body) : Within [.regs, .host] [R.IRQ_CAUSE.cause] b (clearVector x b) := by
  unfold clearVector
  constructor <;> simp (disch := decide)

theorem clearVector_bits (x : Nat) (b : Body) : bit (getF (clearVector x b) R.IRQ_CAUSE.cause 0) v
      = (if v = x then false else bit (getF b R.IRQ_CAUSE.cause 0) v)
    ∧ bit (clearVector x b).host.msixPending v = (if v = x then false else bit b.host.msixPending v) := by
  unfold clearVector
  refine ⟨?_, ?_⟩
  · rw [getF_updHost, causeBit_setBit hv]
  · simp [updHost, bit_setBit]

theorem irqCauseClear_clears : Runs (.irqCauseClear mask) s [.regs, .host] (fun b =>
    bit (getF b R.IRQ_CAUSE.cause 0) v = (bit (getF s.body R.IRQ_CAUSE.cause 0) v && !bit mask v)
      ∧ bit b.host.msixPending v = (bit s.body.host.msixPending v && !bit mask v) ∧ RegsBut [R.IRQ_CAUSE.cause] 0 s.body b) := by
  refine runs_of_lift (f := causeClear mask) rfl rfl (forEach_only (fun x b => (clearVector_within x b).only) _ _)
    ((and_assoc).1 ⟨?_, ?_⟩)
  · by_cases hm : bit mask v = true
    · simp only [hm, Bool.not_true, Bool.and_false]
      refine forEach_visits (P := fun _ => True) (Q := fun c => bit (getF c R.IRQ_CAUSE.cause 0) v = false ∧ bit c.host.msixPending v = false)
        (f := clearVector) (vectorsOf_nodup mask) ((mem_vectorsOf hv).2 hm) (fun _ _ _ _ => trivial) (fun c _ => ?_) (fun x hx c hc => ?_) trivial
      · obtain ⟨h1, h2⟩ := clearVector_bits hv v c
        exact ⟨h1.trans (if_pos rfl), h2.trans (if_pos rfl)⟩
      · obtain ⟨h1, h2⟩ := clearVector_bits hv x c
        exact ⟨(h1.trans (if_neg (Ne.symm hx))).trans hc.1, (h2.trans (if_neg (Ne.symm hx))).trans hc.2⟩
    · simp only [Bool.eq_false_of_not_eq_true hm, Bool.not_false, Bool.and_true]
      refine forEach_keeps (P := fun c => bit (getF c R.IRQ_CAUSE.cause 0) v = bit (getF s.body R.IRQ_CAUSE.cause 0) v
        ∧ bit c.host.msixPending v = bit s.body.host.msixPending v) (f := clearVector) (fun x hx c hc => ?_) ⟨rfl, rfl⟩
      have hne : v ≠ x := fun e => hm ((mem_vectorsOf hv).1 (e ▸ hx))
      obtain ⟨h1, h2⟩ := clearVector_bits hv x c
      exact ⟨(h1.trans (if_neg hne)).trans hc.1, (h2.trans (if_neg hne)).trans hc.2⟩
  · exact forEach_keeps (P := RegsBut [R.IRQ_CAUSE.cause] 0 s.body) (f := clearVector)
      (fun x _ c hc => (hc.setF _ _ (by decide) (by decide)).of_regs rfl) (.refl _ _ _)

/-- The step of `maskWrite` for one vector. -/
def unmaskVector (mask x : Nat) (b : Body) : Body :=
  if !bit mask x ∧ bit (getF b R.IRQ_CAUSE.cause 0) x then sendVector x b else b

omit hv in
theorem unmaskVector_cases (mask x : Nat) (b : Body) : unmaskVector mask x b = b ∨ unmaskVector mask x b = sendVector x b := by
  unfold unmaskVector
  split
  · exact .inr rfl
  · exact .inl rfl

theorem irqMaskWrite_sends (hmask : mask < 2 ^ 30) : Runs (.irqMaskWrite mask) s [.regs, .host, .sent] (fun b =>
    getF b R.IRQ_MASK.mask 0 = mask ∧ RegsBut [R.IRQ_MASK.mask] 0 s.body b
      ∧ (bit (getF s.body R.IRQ_MASK.mask 0) v = true → bit mask v = false → bit (getF s.body R.IRQ_CAUSE.cause 0) v = true →
          s.body.host.fnMask = false → (msixEntry s.body v).masked = false → .msix v ∈ b.sent)) := by
  obtain ⟨c, hc⟩ : ∃ c, setF s.body R.IRQ_MASK.mask 0 mask = c := ⟨_, rfl⟩
  have hx : maskWrite mask s.body = forEach (vectorsOf (getF s.body R.IRQ_MASK.mask 0)) (unmaskVector mask) c := hc ▸ rfl
  have hregs : ∀ x (d : Body), (unmaskVector mask x d).regs = d.regs := fun x d => by
    rcases unmaskVector_cases mask x d with h | h <;> rw [h]
    unfold sendVector
    split <;> rfl
  have hall : (forEach (vectorsOf (getF s.body R.IRQ_MASK.mask 0)) (unmaskVector mask) c).regs = c.regs :=
    forEach_keeps (P := fun d => d.regs = c.regs) (fun x _ d hd => (hregs x d).trans hd) rfl
  refine runs_of_lift (f := maskWrite mask) rfl hx ?_ ⟨?_, ?_, ?_⟩
  · refine (Only.setF (Only.refl _ _) _ _ _ (by decide) : Only [.regs, .host, .sent] s.body (setF s.body R.IRQ_MASK.mask 0 mask)).trans ?_
    rw [hc]
    refine forEach_only (fun x d => ?_) _ _
    rcases unmaskVector_cases mask x d with h | h <;> rw [h]
    · exact Only.refl _ _
    · exact sendVector_only x d
  · rw [getF_congr _ _ _ _ hall, ← hc]
    exact getF_setF_fits hmask
  · have hset : RegsBut [R.IRQ_MASK.mask] 0 s.body c := hc ▸ (RegsBut.refl _ _ _).setF _ _ (by decide) (by decide)
    exact hset.of_regs hall
  · intro hold hnew hcause hfn hent
    refine forEach_visits (P := fun d => bit (getF d R.IRQ_CAUSE.cause 0) v = true ∧ d.host.fnMask = false ∧ (msixEntry d v).masked = false)
      (Q := fun d => .msix v ∈ d.sent) (vectorsOf_nodup _) ((mem_vectorsOf hv).2 hold) (fun x _ d hd => ?_) (fun d hd => ?_) (fun x _ d hd => ?_)
      ?_
    · rcases unmaskVector_cases mask x d with h | h <;> rw [h]
      · exact hd
      · have hm := sendVector_masksAs x d
        rw [getF_sendVector, hm.fnMask, hm.entry]
        exact hd
    · obtain ⟨h1, h2, h3⟩ := hd
      have : unmaskVector mask v d = sendVector v d := if_pos ⟨by simp [hnew], h1⟩
      rw [this]
      exact (sendVector_told v d).2 (by simp [h2, h3])
    · rcases unmaskVector_cases mask x d with h | h <;> rw [h]
      · exact hd
      · exact sendVector_sent x d hd
    · rw [← hc, msixEntry_setF, getF_setF_other _ _ (by decide) (by decide) (by decide)]
      exact ⟨hcause, by simpa using hfn, hent⟩

omit hv in
theorem RegsBut.raiseVec {b c : Body} (h : RegsBut [R.IRQ_CAUSE.cause] 0 b c) (x : Nat) : RegsBut [R.IRQ_CAUSE.cause] 0 b (raiseVec x c) := by
  have hset : RegsBut [R.IRQ_CAUSE.cause] 0 b (withCause x c) := h.setF _ _ (by decide) (by decide)
  obtain ⟨-, he⟩ | he | he := raiseVec_cases x c <;> rw [he]
  · exact h
  · exact hset
  · exact fun f j hf hj => (getF_sendVector _ _ _ _).trans (hset f j hf hj)

theorem irqTest_raises : Runs (.irqTest mask) s [.regs, .host, .sent] (fun b =>
    bit (getF b R.IRQ_CAUSE.cause 0) v = (bit (getF s.body R.IRQ_CAUSE.cause 0) v || bit mask v)
      ∧ RegsBut [R.IRQ_CAUSE.cause] 0 s.body b
      ∧ (bit (getF s.body R.IRQ_CAUSE.cause 0) v = false → bit mask v = true → bit (getF s.body R.IRQ_MASK.mask 0) v = false →
          if s.body.host.fnMask = true ∨ (msixEntry s.body v).masked = true then bit b.host.msixPending v = true else .msix v ∈ b.sent)
      ∧ (.msix v ∈ b.sent → .msix v ∈ s.body.sent ∨ bit (getF s.body R.IRQ_CAUSE.cause 0) v = false ∧ bit mask v = true)) := by
  refine runs_of_lift (f := irqTest mask) rfl rfl (forEach_only (fun x b => (raiseVec_within x b).only.mono (by decide)) _ _) ⟨?_, ?_, ?_, ?_⟩
  · by_cases hm : bit mask v = true
    · rw [hm, Bool.or_true]
      refine forEach_visits (P := fun _ => True) (Q := fun c => bit (getF c R.IRQ_CAUSE.cause 0) v = true) (vectorsOf_nodup mask)
        ((mem_vectorsOf hv).2 hm) (fun _ _ _ _ => trivial) (fun c _ => raiseVec_pending c hv) (fun x _ c hc => ?_) trivial
      rw [raiseVec_causeBit hv, hc, Bool.true_or]
    · rw [Bool.eq_false_of_not_eq_true hm, Bool.or_false]
      refine forEach_keeps (P := fun c => bit (getF c R.IRQ_CAUSE.cause 0) v = bit (getF s.body R.IRQ_CAUSE.cause 0) v) (fun x hx c hc => ?_) rfl
      have hne : v ≠ x := fun e => hm ((mem_vectorsOf hv).1 (e ▸ hx))
      rw [raiseVec_causeBit hv, hc, beq_false_of_ne hne, Bool.or_false]
  · exact forEach_keeps (P := RegsBut [R.IRQ_CAUSE.cause] 0 s.body) (fun x _ c hc => hc.raiseVec x) (.refl _ _ _)
  · intro hcause hm hmask
    have htold : Told v (s.body.host.fnMask = true ∨ (msixEntry s.body v).masked = true) (irqTest mask s.body) := by
      refine forEach_visits (P := fun c => bit (getF c R.IRQ_CAUSE.cause 0) v = false ∧ MasksAs s.body c) (vectorsOf_nodup mask)
        ((mem_vectorsOf hv).2 hm) (fun x hx c hc => ?_) (fun c hc => ?_)
        (fun x _ c hc => hc.other (raiseVec_sent x c) (raiseVec_pending_mono x v c)) ⟨hcause, .refl _⟩
      · refine ⟨?_, hc.2.trans (raiseVec_masksAs x c)⟩
        rw [raiseVec_causeBit hv, hc.1, beq_false_of_ne (Ne.symm hx)]
        rfl
      · have ht := raiseVec_told hc.1 (by rw [hc.2.mask]; exact hmask)
        rwa [hc.2.fnMask, hc.2.entry] at ht
    split
    next hk => exact htold.1 hk
    next hk => exact htold.2 hk
  · intro hin
    by_contra hno
    obtain ⟨hfresh, hor⟩ := not_or.1 hno
    refine absurd hin ?_
    by_cases hm : bit mask v = true
    · have hcause : bit (getF s.body R.IRQ_CAUSE.cause 0) v = true := by
        by_contra hc
        exact hor ⟨Bool.eq_false_of_not_eq_true hc, hm⟩
      refine (forEach_keeps (P := fun c => bit (getF c R.IRQ_CAUSE.cause 0) v = true ∧ .msix v ∉ c.sent) (fun x _ c hc => ⟨?_, fun hs => ?_⟩)
        ⟨hcause, hfresh⟩).2
      · rw [raiseVec_causeBit hv, hc.1, Bool.true_or]
      · rcases raiseVec_sends_own _ hs with hold | ⟨-, hclear⟩
        · exact hc.2 hold
        · exact absurd (hclear.symm.trans hc.1) (by decide)
    · refine forEach_keeps (P := fun c => .msix v ∉ c.sent) (fun x hx c hc hs => ?_) hfresh
      rcases raiseVec_sends_own _ hs with hold | ⟨rfl, -⟩
      · exact hc hold
      · exact hm ((mem_vectorsOf hv).1 hx)

theorem msixUnmask_sends : Runs (.msixUnmask v) s [.host, .sent] (fun b => (msixEntry b v).masked = false
    ∧ (bit s.body.host.msixPending v = true → s.body.host.fnMask = false → bit b.host.msixPending v = false
      ∧ (bit (getF s.body R.IRQ_CAUSE.cause 0) v = true → b.sent = .msix v :: s.body.sent)
      ∧ (bit (getF s.body R.IRQ_CAUSE.cause 0) v = false → b.sent = s.body.sent))) := by
  obtain ⟨c, hc⟩ : ∃ c, updHost (fun h => { h with msix := SMap.upd h.msix MsixEntry.reset v (fun e => { e with masked := false }) }) s.body = c :=
    ⟨_, rfl⟩
  have hent : (msixEntry c v).masked = false := by
    rw [← hc]
    simp [msixEntry, updHost, SMap.upd]
  have hcw : Within [.host] [] s.body c := by
    rw [← hc]
    constructor <;> simp (disch := decide)
  have hpend : c.host.msixPending = s.body.host.msixPending ∧ c.host.fnMask = s.body.host.fnMask := hc ▸ ⟨rfl, rfl⟩
  have hsent : c.sent = s.body.sent := hcw.same (p := .sent) (by decide)
  have hcause := hcw.getF_eq (f := R.IRQ_CAUSE.cause) (by decide) (by decide) 0
  have hx : setMsix v (fun e => { e with masked := false }) s.body = sendPending v c := hc ▸ rfl
  refine runs_of_lift (f := setMsix v (fun e => { e with masked := false })) (lift_of_onUnit (by simp; omega)) hx ?_ ⟨?_, ?_⟩
  · refine (hcw.only.mono (by decide)).trans ?_
    unfold sendPending
    simp only []
    repeat' split
    all_goals simp
  · unfold sendPending
    simp only []
    repeat' split
    all_goals exact hent
  · intro hp hfn
    have hgo : sendPending v c = (if bit (getF s.body R.IRQ_CAUSE.cause 0) v
        then emit (.msix v) (updHost (fun h => { h with msixPending := setBit h.msixPending v false }) c)
        else updHost (fun h => { h with msixPending := setBit h.msixPending v false }) c) := by
      unfold sendPending
      simp [hpend.1, hpend.2, hp, hfn, hent, hcause]
    rw [hgo]
    refine ⟨?_, fun h1 => ?_, fun h0 => ?_⟩
    · split <;> simp [updHost, emit, bit_setBit]
    · rw [if_pos h1, ← hsent]
      rfl
    · rw [h0, ← hsent]
      rfl

end Vectors

section Mailbox

variable {m : Nat} {s : State} {b : Body}

/-! ## Doorbells (R509, R514) -/

theorem mbxDoorbell_overruns (hm : m < 16) (h : getF s.body R.MBX_STATUS.state m = 1 ∨ getF s.body R.MBX_STATUS.state m = 2) :
    Runs (.mbxDoorbell m) s [.regs] (fun b => flagF b R.MBX_STATUS.overrun m = true ∧ RegsBut [R.MBX_STATUS.overrun] m s.body b) := by
  refine runs_of_lift (f := ringDoorbell m) (lift_of_onUnit (decide_eq_true hm)) (if_pos h) (by simp) ⟨?_, ?_⟩
  · exact flagF_setFlag_same _ _ _ _ (by decide)
  · exact (RegsBut.refl _ _ _).setF _ _ (by decide) (by decide)

theorem mbxDoorbell_rings (hm : m < 16) (h : getF s.body R.MBX_STATUS.state m = 0 ∨ getF s.body R.MBX_STATUS.state m = 3) :
    Runs (.mbxDoorbell m) s [.regs, .host] (fun b => getF b R.MBX_STATUS.state m = 1 ∧ b.host.doorbells = s.body.host.doorbells ++ [m]
      ∧ (mbx b m).response = [] ∧ RegsBut [R.MBX_STATUS.state] m s.body b) := by
  have hx : ringDoorbell m s.body = updHost (fun h => { h with doorbells := h.doorbells ++ [m] })
      (updMbx m (fun x => { x with response := [] }) (setF s.body R.MBX_STATUS.state m 1)) := if_neg (by omega)
  refine runs_of_lift (f := ringDoorbell m) (lift_of_onUnit (decide_eq_true hm)) hx (by simp (disch := decide)) ⟨?_, ?_, ?_, ?_⟩
  · rw [getF_updHost, getF_updMbx]
    exact getF_setF_fits (by decide)
  · simp [updHost, updMbx]
  · simp [mbx, updHost, updMbx, SMap.upd]
  · have hset : RegsBut [R.MBX_STATUS.state] m s.body (setF s.body R.MBX_STATUS.state m 1) :=
      (RegsBut.refl _ _ _).setF _ _ (by decide) (by decide)
    exact hset.of_regs (by simp)

/-! ## The taking of a request (R508, R509) -/

/-- The request that waits in a mailbox, as it is taken now. -/
def requestOf (b : Body) (m : Nat) : Taken :=
  { opcode := reqField b m 0 2, alive := reqField b m 2 2, noIrq := bit (reqField b m 6 1) 0, tag := reqField b m 8 8
    body := reqBytes b m 16 (min (reqField b m 4 2) 4076), at_ := b.now }

/-- The request has been taken. -/
def taking (m : Nat) (b : Body) : Body :=
  updMbx m (fun x => { x with taken := some (requestOf b m) })
    (updHost (fun h => { h with doorbells := h.doorbells.filter (· != m) }) (setF b R.MBX_STATUS.state m 2))

theorem taking_within (m : Nat) (b : Body) : Within [.regs, .host] [R.MBX_STATUS.state] b (taking m b) := by
  unfold taking
  constructor <;> simp (disch := decide)

theorem taking_taken (m : Nat) (b : Body) : (mbx (taking m b) m).taken = some (requestOf b m) := by
  simp [taking, mbx, updMbx, updHost, SMap.upd]

theorem reqBytes_taking (m : Nat) (b : Body) (off n : Nat) : reqBytes (taking m b) m off n = reqBytes b m off n := by
  have h : (mbx (taking m b) m).request = (mbx b m).request := by simp [taking, mbx, updMbx, updHost, SMap.upd]
  unfold reqBytes
  rw [h]

theorem reqField_taking (m : Nat) (b : Body) (off n : Nat) : reqField (taking m b) m off n = reqField b m off n :=
  congrArg ofLeBytes (reqBytes_taking m b off n)

theorem bodyChecks_congr {b c : Body} (h : isReady c = isReady b) (m op : Nat) (body : List Byte) (flags : Nat) :
    bodyChecks c m op body flags = bodyChecks b m op body flags := by
  unfold bodyChecks
  rw [h]

theorem Within.isReady_eq {ps : List Part} {fs : List Field} {b c : Body} (h : Within ps fs b c) (hp : Part.cox ∉ ps)
    (hd : R.SHP_STARTUP.done.idx ∉ fs.map Field.idx) (hf : R.SHP_STARTUP.failed.idx ∉ fs.map Field.idx)
    (hs : R.GBL_STATUS.power_state.idx ∉ fs.map Field.idx) : isReady c = isReady b := by
  unfold isReady power
  rw [h.getF_eq (by decide) hd, h.getF_eq (by decide) hs, h.flagF_eq (by decide) hf, show c.cox = b.cox from h.same (p := .cox) hp]

/-- The length of the request fits a frame, and its CRC is right (R508). -/
structure Framed (b : Body) (m : Nat) : Prop where
  short : reqField b m 4 2 ≤ 4076
  whole : reqField b m 4 2 % 4 = 0
  crc : crc32c (reqBytes b m 0 (16 + reqField b m 4 2)) = reqField b m (16 + reqField b m 4 2) 4

section Taking

variable (hmay : mayTake b m = true)
include hmay

theorem takeRequest_badLength (h : 4076 < reqField b m 4 2 ∨ reqField b m 4 2 % 4 ≠ 0) :
    takeRequest m b = refuse m 3 (some 4) 0 (taking m b) := by
  unfold takeRequest
  simp only [hmay, Bool.not_true, Bool.false_eq_true, if_false, if_pos h, taking, requestOf]

theorem takeRequest_badCrc (hshort : reqField b m 4 2 ≤ 4076) (hwhole : reqField b m 4 2 % 4 = 0)
    (hcrc : ¬ crc32c (reqBytes b m 0 (16 + reqField b m 4 2)) = reqField b m (16 + reqField b m 4 2) 4) :
    takeRequest m b = refuse m 4 (some (16 + reqField b m 4 2)) 0 (taking m b) := by
  have hn : ¬ (4076 < reqField b m 4 2 ∨ reqField b m 4 2 % 4 ≠ 0) := by omega
  have hb := reqBytes_taking m b
  have hf := reqField_taking m b
  simp only [taking, requestOf] at hb hf
  unfold takeRequest
  simp only [hmay, Bool.not_true, Bool.false_eq_true, if_false, if_neg hn, hb, hf, if_pos (show _ ≠ _ from hcrc), taking, requestOf]

/-- A framed request goes on to the alive check and the checks of its body. -/
theorem takeRequest_repeated (h : Framed b m) (hr : (aliveStep m (requestOf b m).alive (taking m b)).1 = false) :
    takeRequest m b = refuse m 5 (some 2) (getF (taking m b) R.MBX_ALIVE.last m) (taking m b) := by
  obtain ⟨hshort, hwhole, hcrc⟩ := h
  have hn : ¬ (4076 < reqField b m 4 2 ∨ reqField b m 4 2 % 4 ≠ 0) := by omega
  have hb := reqBytes_taking m b
  have hf := reqField_taking m b
  simp only [taking, requestOf] at hb hf hr
  unfold takeRequest
  simp only [hmay, Bool.not_true, Bool.false_eq_true, if_false, if_neg hn, hb, hf, hcrc, ne_eq, not_true, hr, Bool.not_false, if_true, taking,
    requestOf]

variable (h : Framed b m) {c : Body} (hr : aliveStep m (requestOf b m).alive (taking m b) = (true, c))
include h hr

theorem takeRequest_refused {e : Nat × Option Nat × Nat} (he : bodyChecks c m (requestOf b m).opcode (requestOf b m).body (reqField b m 6 2)
    = some e) : takeRequest m b = refuse m e.1 e.2.1 e.2.2 c := by
  obtain ⟨hshort, hwhole, hcrc⟩ := h
  have hn : ¬ (4076 < reqField b m 4 2 ∨ reqField b m 4 2 % 4 ≠ 0) := by omega
  have hb := reqBytes_taking m b
  have hf := reqField_taking m b
  simp only [taking, requestOf] at hb hf hr he
  unfold takeRequest
  simp only [hmay, Bool.not_true, Bool.false_eq_true, if_false, if_neg hn, hb, hf, hcrc, ne_eq, not_true, hr, he]

theorem takeRequest_accepted (he : bodyChecks c m (requestOf b m).opcode (requestOf b m).body (reqField b m 6 2) = none) :
    takeRequest m b = c := by
  obtain ⟨hshort, hwhole, hcrc⟩ := h
  have hn : ¬ (4076 < reqField b m 4 2 ∨ reqField b m 4 2 % 4 ≠ 0) := by omega
  have hb := reqBytes_taking m b
  have hf := reqField_taking m b
  simp only [taking, requestOf] at hb hf hr he
  unfold takeRequest
  simp only [hmay, Bool.not_true, Bool.false_eq_true, if_false, if_neg hn, hb, hf, hcrc, ne_eq, not_true, hr, he]

end Taking

/-- The alive check accepts a value: the body after it (R508). -/
def accepting (m : Nat) (b : Body) : Body :=
  setFlag (setF (taking m b) R.MBX_ALIVE.last m (requestOf b m).alive) R.MBX_ALIVE.seen m true

theorem accepting_within (m : Nat) (b : Body) : Within [.regs, .host] [R.MBX_STATUS.state, R.MBX_ALIVE.last, R.MBX_ALIVE.seen] b (accepting m b) := by
  refine ((taking_within m b).mono (List.Subset.refl _) (by decide)).trans ?_
  unfold accepting
  constructor <;> simp (disch := decide)

theorem aliveStep_first (h : flagF b R.MBX_ALIVE.seen m = false) : aliveStep m (requestOf b m).alive (taking m b) = (true, accepting m b) := by
  rw [← (taking_within m b).flagF_eq (by decide) (by decide)] at h
  unfold aliveStep
  simp only [h, Bool.not_false, if_true]
  rfl

theorem aliveStep_repeated (hseen : flagF b R.MBX_ALIVE.seen m = true)
    (h : aliveCheck 16 (getF b R.MBX_ALIVE.last m) (requestOf b m).alive = .repeated) :
    (aliveStep m (requestOf b m).alive (taking m b)).1 = false := by
  rw [← (taking_within m b).flagF_eq (by decide) (by decide)] at hseen
  rw [← (taking_within m b).getF_eq (by decide) (by decide)] at h
  unfold aliveStep
  simp only [hseen, Bool.not_true, Bool.false_eq_true, if_false, h]

theorem accepting_taken (m : Nat) (b : Body) : (mbx (accepting m b) m).taken = some (requestOf b m) := by
  have h : mbx (accepting m b) m = mbx (taking m b) m := by simp [accepting, mbx]
  rw [h, taking_taken]

theorem runs_taken_refused (hm : m < 16) (hq : (requestOf s.body m).noIrq = true) {st : Nat} {off : Option Nat} {d : Nat} {c : Body}
    (ht : (mbx c m).taken = some (requestOf s.body m)) (ho : Only [.regs, .host] s.body c) (hx : takeRequest m s.body = refuse m st off d c) :
    Runs (.mailboxTake m) s [.regs, .host] (Refused m (requestOf s.body m) st off d) := by
  obtain ⟨ha, ho', -⟩ := answer_shows hm ht hq st (leBytes 4 (off.getD 0xFFFFFFFF) ++ leBytes 4 d)
  exact runs_of_lift (f := takeRequest m) (lift_of_onUnit (isMailbox_of_lt hm)) hx (ho.trans ho') ha

theorem mailboxTake_takes (hm : m < 16) (hmay : mayTake s.body m = true) (h : Framed s.body m) (hseen : flagF s.body R.MBX_ALIVE.seen m = false)
    (he : bodyChecks s.body m (requestOf s.body m).opcode (requestOf s.body m).body (reqField s.body m 6 2) = none) :
    Runs (.mailboxTake m) s [.regs, .host] (fun b => (mbx b m).taken = some (requestOf s.body m) ∧ getF b R.MBX_STATUS.state m = 2
      ∧ getF b R.MBX_ALIVE.last m = (requestOf s.body m).alive ∧ flagF b R.MBX_ALIVE.seen m = true
      ∧ b.host.doorbells = s.body.host.doorbells.filter (fun x => x != m)
      ∧ RegsBut [R.MBX_STATUS.state, R.MBX_ALIVE.last, R.MBX_ALIVE.seen] m s.body b) := by
  have hw := accepting_within m s.body
  rw [← bodyChecks_congr (hw.isReady_eq (by decide) (by decide) (by decide) (by decide))] at he
  have halive : (requestOf s.body m).alive < 2 ^ 16 := by
    refine (ofLeBytes_lt _).trans_le ?_
    simp [reqBytes]
  refine runs_of_lift (f := takeRequest m) (lift_of_onUnit (isMailbox_of_lt hm)) (takeRequest_accepted hmay h (aliveStep_first hseen) he) hw.only
    ⟨accepting_taken m s.body, ?_, ?_, ?_, ?_, ?_⟩
  · unfold accepting
    rw [getF_setFlag_other _ _ (by decide) (by decide) (by decide), getF_setF_other _ _ (by decide) (by decide) (by decide), taking, getF_updMbx,
      getF_updHost]
    exact getF_setF_fits (by decide)
  · unfold accepting
    rw [getF_setFlag_other _ _ (by decide) (by decide) (by decide)]
    exact getF_setF_fits halive
  · exact flagF_setFlag_same _ _ _ _ (by decide)
  · simp [accepting, taking, updMbx, updHost]
  · have hset : RegsBut [R.MBX_STATUS.state, R.MBX_ALIVE.last, R.MBX_ALIVE.seen] m s.body (taking m s.body) := by
      have h2 : RegsBut [R.MBX_STATUS.state, R.MBX_ALIVE.last, R.MBX_ALIVE.seen] m s.body (setF s.body R.MBX_STATUS.state m 2) :=
        (RegsBut.refl _ _ _).setF _ _ (by decide) (by decide)
      exact h2.of_regs (by simp [taking])
    exact (hset.setF _ _ (by decide) (by decide)).setF _ _ (by decide) (by decide)

end Mailbox

/-- Settles O54: the resets and the training of the link, each use of the vectors, a doorbell, and the taking of a request with each of its
checks. -/
theorem hostLink : Obligations.HostLink := by
  intro m v mask s hm hv hmask b0 same cause st
  refine ⟨?resets, ?train, ?clear, ?mask, ?test, ?unmask, ?overrun, ?ring, ?wait, ?take⟩
  case resets =>
    intro c hc
    simp only [List.mem_cons, List.not_mem_nil, or_false] at hc
    rcases hc with rfl | rfl | rfl
    · have h := runs_linkReset (s := s) hm (Within.refl _ _ s.body) (c := .pcieFunctionReset) rfl
      rwa [← Bool.and_true s.body.host.linkUp] at h
    · have h := runs_linkReset (s := s) hm (Within.refl _ _ s.body) (c := .pcieConventionalReset) rfl
      rwa [← Bool.and_true s.body.host.linkUp] at h
    · have h := runs_linkReset (s := s) hm (withLink_within false s.body) (c := .pcieLinkLoss) rfl
      rwa [show (updHost (fun h => { h with linkUp := false }) s.body).host.linkUp = (s.body.host.linkUp && decide False) by simp [updHost]] at h
  case train => exact fun rate width hr hw hk hh => ⟨pcieLinkUp_trains hr hw hk hh, pcieLinkUp_noFlit hr hw hk hh⟩
  case clear => exact irqCauseClear_clears hv
  case mask => exact irqMaskWrite_sends hv hmask
  case test => exact irqTest_raises hv
  case unmask => exact msixUnmask_sends hv
  case overrun => exact mbxDoorbell_overruns hm
  case ring => exact mbxDoorbell_rings hm
  case wait =>
    intro hno
    refine runs_same (f := takeRequest m) (lift_of_onUnit (isMailbox_of_lt hm)) ?_
    have : mayTake s.body m = false := hno
    simp [takeRequest, this]
  case take =>
    intro hmay n t whole sound
    have htake : Only [.regs, .host] s.body (taking m s.body) := (taking_within m s.body).only
    refine ⟨?length, ?crc, ?alive, ?body, ?ok⟩
    case length => exact fun hq h => runs_taken_refused hm hq (taking_taken m s.body) htake (takeRequest_badLength hmay h)
    case crc => exact fun hq hw hs => runs_taken_refused hm hq (taking_taken m s.body) htake (takeRequest_badCrc hmay hw.1 hw.2 hs)
    case alive =>
      intro hq hw hs hseen hrep
      have hx := takeRequest_repeated hmay ⟨hw.1, hw.2, hs⟩ (aliveStep_repeated hseen hrep)
      rw [(taking_within m s.body).getF_eq (by decide) (by decide)] at hx
      exact runs_taken_refused hm hq (taking_taken m s.body) htake hx
    case body =>
      intro e hq hw hs hseen he
      have hacc := accepting_within m s.body
      have he' := (bodyChecks_congr (hacc.isReady_eq (by decide) (by decide) (by decide) (by decide)) m _ _ _).trans he
      exact runs_taken_refused hm hq (accepting_taken m s.body) hacc.only (takeRequest_refused hmay ⟨hw.1, hw.2, hs⟩ (aliveStep_first hseen) he')
    case ok => exact fun hw hs hseen he => mailboxTake_takes hm hmay ⟨hw.1, hw.2, hs⟩ hseen he

end Sys2Proof.Machine

/-! The logbook (O57). -/

namespace Sys2Proof.Machine

section Logbook

variable {s : State} {b : Body}

/-! ## Records (R581, R588, R589) -/

/-- The queue has room for a record of so many bytes of payload (R589). -/
theorem logFrom_queues {origin cls : Nat} {payload : List Byte} (hp : powered b = true) (hcls : cls < 0x100) (hpad : pad8 payload = payload)
    (hlen : payload.length ≤ 1000) (hroom : queueBytes b.logbook.queue + recLength payload.length ≤ 262144) :
    ∃ r ceil, logFrom origin cls payload b = updLog (fun l => { l with ceiling := ceil, nextSeq := l.nextSeq + 1, queue := l.queue ++ [r] }) b
      ∧ r.seq = b.logbook.nextSeq ∧ r.cls = cls ∧ r.payload = payload := by
  have hpriv : privClass cls = false := by simp [privClass, hcls]
  refine ⟨{ seq := b.logbook.nextSeq, cls := cls, payload := payload, origin := origin, writer := getF b R.SHP_STATUS.active 0, opMs := hourMs b
            cycles := b.host.cycles },
    if b.logbook.nextSeq = b.logbook.ceiling then b.logbook.ceiling + 4096 else b.logbook.ceiling, ?_, rfl, rfl, rfl⟩
  unfold logFrom
  simp only [hp, hpriv, hpad, List.take_of_length_le hlen, Bool.not_true, Bool.false_eq_true, if_false]
  have hfits : ∀ r : LogRec, r.payload = payload → queueBytes b.logbook.queue + r.length ≤ queueSize := fun r hr => by
    rw [LogRec.length, hr]
    exact hroom
  simp only [updLog]
  rw [if_pos (hfits _ rfl)]

theorem pad8_of_dvd {bs : List Byte} (h : bs.length % 8 = 0) : pad8 bs = bs := by
  simp [pad8, h]

theorem lostRecord_writes {a z k : Nat} (hon : shepherdActive s.body = true) (hp : powered s.body = true)
    (hd : s.body.logbook.dropped = some (a, z, k)) (hroom : queueBytes s.body.logbook.queue + 56 ≤ 262144) :
    RunsS .lostRecord s (fun u => u.body.logbook.dropped = none ∧ u.body.logbook.nextSeq = s.body.logbook.nextSeq + 1
      ∧ bit (getF u.body R.IRQ_CAUSE.cause 0) 25 = true
      ∧ getF u.body R.LGB_STATUS.lost 0 = min (getF s.body R.LGB_STATUS.lost 0 + k) 65535
      ∧ ∃ r, u.body.logbook.queue = s.body.logbook.queue ++ [r] ∧ r.seq = s.body.logbook.nextSeq ∧ r.cls = 0xFF
        ∧ r.payload = leBytes 8 a ++ leBytes 8 z ++ leBytes 8 k) := by
  obtain ⟨c, hc⟩ : ∃ c, updLog (fun l => { l with dropped := none }) s.body = c := ⟨_, rfl⟩
  have hlen : (leBytes 8 a ++ leBytes 8 z ++ leBytes 8 k).length = 24 := by simp [leBytes_length]
  obtain ⟨r, ceil, hlog, hseq, hcls, hpay⟩ := logFrom_queues (b := c) (origin := 0) (cls := 0xFF) (by rw [← hc]; exact hp) (by decide)
    (pad8_of_dvd (by rw [hlen])) (by rw [hlen]; decide) (by rw [hlen, ← hc]; exact hroom)
  obtain ⟨d, hd'⟩ : ∃ d, addSat (logFrom 0 0xFF (leBytes 8 a ++ leBytes 8 z ++ leBytes 8 k) c) R.LGB_STATUS.lost 0 k = d := ⟨_, rfl⟩
  have hx : (if shepherdActive s.body then lostRecord s.body else s.body) = raiseVec 25 d := by
    have hroom' : queueBytes s.body.logbook.queue + recLength 24 ≤ queueSize := hroom
    rw [if_pos hon]
    unfold lostRecord
    simp only [hd, if_pos hroom', ← hd', ← hc, logRec]
  have hv := raiseVec_within 25 d
  have hlogbook : (raiseVec 25 d).logbook = { c.logbook with ceiling := ceil, nextSeq := c.logbook.nextSeq + 1, queue := c.logbook.queue ++ [r] } := by
    rw [show (raiseVec 25 d).logbook = d.logbook from hv.same (p := .logbook) (by decide), ← hd', hlog]
    simp [updLog]
  refine runsS_of_lift (f := fun b => if shepherdActive b then lostRecord b else b) rfl hx ⟨?_, ?_, raiseVec_pending d (by decide), ?_, r, ?_, ?_⟩
  · simp only [hlogbook, ← hc]
    rfl
  · simp only [hlogbook, ← hc]
    rfl
  · simp only []
    rw [hv.getF_eq (by decide) (by decide), ← hd', hlog, getF_addSat_same, getF_updLog, ← hc]
    rfl
  · simp only [hlogbook, ← hc]
    rfl
  · exact ⟨by rw [hseq, ← hc]; rfl, hcls, hpay⟩

theorem lostRecord_none (h : ¬ shepherdActive s.body = true ∨ s.body.logbook.dropped = none) : Runs .lostRecord s [] (fun b => b = s.body) := by
  refine runs_same (f := fun b => if shepherdActive b then lostRecord b else b) rfl ?_
  rcases h with h | h
  · exact if_neg h
  · have : lostRecord s.body = s.body := by
      unfold lostRecord
      simp only [h]
    simp only [this, ite_self]

theorem lostRecord_waits {x : Nat × Nat × Nat} (hd : s.body.logbook.dropped = some x) (hfull : 262144 < queueBytes s.body.logbook.queue + 56) :
    Runs .lostRecord s [] (fun b => b = s.body) := by
  have : lostRecord s.body = s.body := by
    obtain ⟨a, z, k⟩ := x
    unfold lostRecord
    simp only [hd]
    exact if_neg (Nat.not_le.2 hfull)
  refine runs_same (f := fun b => if shepherdActive b then lostRecord b else b) rfl ?_
  simp only [this, ite_self]

/-! ## Writing (R586 to R588) -/

/-- The registers that show the logbook (R597) are all that showing it changes. -/
theorem showLog_logbook (b : Body) : (showLog b).logbook = b.logbook := by simp [showLog]

theorem followWindow_logbook (b : Body) : (followWindow b).logbook = b.logbook := by
  unfold followWindow loadWindow
  split <;> simp

/-- The fields that show the logbook. -/
def logFields : List Field := [R.LGB_FIRST_OLDEST.seq, R.LGB_FIRST_NEWEST.seq, R.LGB_LAST_OLDEST.seq, R.LGB_LAST_NEWEST.seq, R.LGB_FILL.first_kib]

theorem showLog_within (b : Body) : Within [.regs] logFields b (showLog b) := by
  unfold showLog
  constructor <;> simp (disch := decide) [logFields]

theorem followWindow_within (b : Body) : Within [.regs] [R.LGB_WIN_STATUS.state] b (followWindow b) := by
  unfold followWindow loadWindow
  split
  · constructor <;> simp (disch := decide)
  · exact .refl _ _ b

theorem flashWrite_idle (h : s.body.logbook.queue = [] ∨ ¬ shepherdActive s.body = true) : Runs .logbookFlashWrite s [] (fun b => b = s.body) := by
  refine runs_same (f := flashWrite) rfl ?_
  unfold flashWrite
  rcases h with h | h
  · simp only [h]
  · simp only [h, Bool.not_false, if_true]
    split <;> rfl

section Write

variable {r : LogRec} {q : List LogRec} (hon : shepherdActive s.body = true) (hq : s.body.logbook.queue = r :: q)
include hon hq

/-- The first record of the queue goes to its place. -/
theorem flashWrite_places {p : Nat × Nat} (hp : writePlace s.body r.length = some p) :
    flashWrite s.body = followWindow (showLog (updLog (fun l => { l with queue := q
                                                                         behind := if standbyWrites s.body then l.behind else l.behind ++ [r.seq] })
      (placeRec r p (noteFirstFull p s.body)))) := by
  unfold flashWrite
  simp only [hq, hon, Bool.not_true, Bool.false_eq_true, if_false, hp]

theorem flashWrite_waits (hp : writePlace s.body r.length = none) : Runs .logbookFlashWrite s [] (fun b => b = s.body) := by
  refine runs_same (f := flashWrite) rfl ?_
  unfold flashWrite
  simp only [hq, hon, Bool.not_true, Bool.false_eq_true, if_false, hp]

end Write

theorem noteFirstFull_logbook (p : Nat × Nat) (b : Body) : (noteFirstFull p b).logbook = b.logbook := by
  unfold noteFirstFull
  split
  · rfl
  · rw [show (raiseVec 25 _).logbook = _ from (raiseVec_within 25 _).same (p := .logbook) (by decide)]
    simp

theorem noteFirstFull_full {p : Nat × Nat} (hp : p.1 ≠ 0) (b : Body) : flagF (noteFirstFull p b) R.LGB_STATUS.first_full 0 = true := by
  unfold noteFirstFull
  split
  next h => exact h.resolve_left hp
  next => rw [(raiseVec_within 25 _).flagF_eq (by decide) (by decide), flagF_setFlag_same _ _ _ _ (by decide)]

theorem placeRec_shows (r : LogRec) (p : Nat × Nat) (hp : p.1 = 0 ∨ p.1 = 1) (b : Body) :
    (placeRec r p b).logbook.held = b.logbook.held ++ [⟨r, p.1, p.2⟩] ∧ (placeRec r p b).logbook.behind = b.logbook.behind
      ∧ (placeRec r p b).regs = b.regs := by
  unfold placeRec
  simp only []
  rcases hp with h | h
  · rw [if_pos h, h]
    exact ⟨rfl, rfl, rfl⟩
  · rw [if_neg (by omega), h]
    exact ⟨rfl, rfl, rfl⟩

/-- A record at its place: what is held, queued and behind, and that the first area is full from the first record of the last on. -/
theorem logbookFlashWrite_writes {r : LogRec} {q : List LogRec} (hon : shepherdActive s.body = true) (hq : s.body.logbook.queue = r :: q)
    {p : Nat × Nat} (hp : writePlace s.body r.length = some p) (h01 : p.1 = 0 ∨ p.1 = 1) : RunsS .logbookFlashWrite s (fun u =>
      u.body.logbook.held = s.body.logbook.held ++ [⟨r, p.1, p.2⟩] ∧ u.body.logbook.queue = q
        ∧ u.body.logbook.behind = (if standbyWrites s.body then s.body.logbook.behind else s.body.logbook.behind ++ [r.seq])
        ∧ (p.1 ≠ 0 → flagF u.body R.LGB_STATUS.first_full 0 = true)) := by
  obtain ⟨c, hc⟩ : ∃ c, updLog (fun l => { l with queue := q, behind := if standbyWrites s.body then l.behind else l.behind ++ [r.seq] })
      (placeRec r p (noteFirstFull p s.body)) = c := ⟨_, rfl⟩
  obtain ⟨hheld, hbehind, hregs⟩ := placeRec_shows r p h01 (noteFirstFull p s.body)
  rw [noteFirstFull_logbook] at hheld hbehind
  have hlog : (followWindow (showLog c)).logbook = c.logbook := (followWindow_logbook _).trans (showLog_logbook c)
  have hx : flashWrite s.body = followWindow (showLog c) := by
    rw [← hc]
    exact flashWrite_places hon hq hp
  refine runsS_of_lift (f := flashWrite) rfl hx ⟨?_, ?_, ?_, fun h1 => ?_⟩ <;> simp only []
  · rw [hlog, ← hc]
    exact hheld
  · rw [hlog, ← hc]
    rfl
  · rw [hlog, ← hc]
    simp only [updLog, hbehind]
  · rw [(followWindow_within _).flagF_eq (by decide) (by decide), (showLog_within c).flagF_eq (by decide) (by decide), ← hc, flagF, getF_updLog,
      getF_congr _ _ _ _ hregs]
    exact noteFirstFull_full h1 s.body

/-! ## Where a record goes (R586, R587) -/

section Place

variable {n : Nat} (hclear : b.logbook.clearing = none)
include hclear

theorem writePlace_first (hfull : flagF b R.LGB_STATUS.first_full 0 = false)
    (hat : (if b.logbook.firstUsed + n ≤ 65536 then b.logbook.firstSector else b.logbook.firstSector + 1) < 32) :
    writePlace b n = some (0, if b.logbook.firstUsed + n ≤ 65536 then b.logbook.firstSector else b.logbook.firstSector + 1) := by
  unfold writePlace
  simp [hclear, hfull, hat]

variable (hfull : flagF b R.LGB_STATUS.first_full 0 = true
  ∨ 32 ≤ if b.logbook.firstUsed + n ≤ 65536 then b.logbook.firstSector else b.logbook.firstSector + 1)
include hfull

theorem writePlace_last (hroom : b.logbook.lastUsed + n ≤ 65536 ∨ b.logbook.lastErased ≠ 0) :
    writePlace b n = some (1, if b.logbook.lastUsed + n ≤ 65536 then b.logbook.lastSector else (b.logbook.lastSector + 1) % 480) := by
  have hno : ¬ ((!flagF b R.LGB_STATUS.first_full 0) = true
      ∧ (if b.logbook.firstUsed + n ≤ 65536 then b.logbook.firstSector else b.logbook.firstSector + 1) < 32) := by
    rintro ⟨h1, h2⟩
    rcases hfull with h | h
    · simp [h] at h1
    · omega
  unfold writePlace
  simp only [if_neg hno, hclear, Option.map_none, Option.getD_none, Bool.false_eq_true, or_false]
  by_cases hr : b.logbook.lastUsed + n ≤ 65536
  · simp only [if_pos hr]
  · simp only [if_neg hr, if_neg (hroom.resolve_left hr)]

omit hclear in
theorem writePlace_waits (hroom : 65536 < b.logbook.lastUsed + n) (he : b.logbook.lastErased = 0) : writePlace b n = none := by
  have hno : ¬ ((!flagF b R.LGB_STATUS.first_full 0) = true
      ∧ (if b.logbook.firstUsed + n ≤ 65536 then b.logbook.firstSector else b.logbook.firstSector + 1) < 32) := by
    rintro ⟨h1, h2⟩
    rcases hfull with h | h
    · simp [h] at h1
    · omega
  unfold writePlace
  simp only [if_neg hno, if_neg (Nat.not_le.2 hroom), he, true_or, if_true]

end Place

/-! ## Erasing (R587, R594) -/

/-- The records of a sector are no longer held. -/
theorem eraseSector_shows (a x : Nat) (b : Body) : (eraseSector a x b).logbook.held = b.logbook.held.filter (fun h => !(h.area == a && h.sector == x))
    ∧ (eraseSector a x b).logbook.queue = b.logbook.queue ∧ (eraseSector a x b).logbook.lastErased = b.logbook.lastErased
    ∧ Within [.regs, .host, .sent, .logbook] (R.IRQ_CAUSE.cause :: logFields) b (eraseSector a x b) := by
  obtain ⟨c, hc⟩ : ∃ c, updLog (fun l => { l with held := l.held.filter (fun h => !(h.area == a && h.sector == x)), extra := l.extra.filter (fun h => !(h.area == a && h.sector == x)) }) b = c :=
    ⟨_, rfl⟩
  have hx : ∃ P : Prop, ∃ _ : Decidable P, eraseSector a x b = showLog (if P then raiseVec 25 c else c) := by
    unfold eraseSector
    simp only [hc]
    exact ⟨_, _, rfl⟩
  obtain ⟨P, dec, hx⟩ := hx
  have hlog : (eraseSector a x b).logbook = c.logbook := by
    rw [hx, showLog_logbook]
    split
    · exact (raiseVec_within 25 c).same (p := .logbook) (by decide)
    · rfl
  have hcw : Within [.logbook] [] b c := by
    rw [← hc]
    constructor <;> simp (disch := decide)
  refine ⟨by rw [hlog, ← hc]; rfl, by rw [hlog, ← hc]; rfl, by rw [hlog, ← hc]; rfl, ?_⟩
  rw [hx]
  refine (hcw.mono (by decide) (by decide)).trans (Within.trans (c := if P then raiseVec 25 c else c) (Within.ite ?_ (.refl _ _ c)) ?_)
  · exact (raiseVec_within 25 c).mono (by decide) (by decide)
  · exact (showLog_within _).mono (by decide) (by decide)

theorem sectorErase_ahead (hon : shepherdActive s.body = true) (hclear : s.body.logbook.clearing = none) (h : 2 ≤ s.body.logbook.lastErased) :
    Runs .logbookSectorErase s [] (fun b => b = s.body) := by
  refine runs_same (f := eraseStep) rfl ?_
  unfold eraseStep sectorErase
  simp [hclear, hon, Nat.not_lt.2 h]

theorem sectorErase_circulates (hon : shepherdActive s.body = true) (hclear : s.body.logbook.clearing = none) (h : s.body.logbook.lastErased < 2) :
    RunsS .logbookSectorErase s (fun u => u.body.logbook.lastErased = s.body.logbook.lastErased + 1
      ∧ u.body.logbook.held = s.body.logbook.held.filter (fun h => !(h.area == 1
          && h.sector == (s.body.logbook.lastSector + s.body.logbook.lastErased + 1) % 480))
      ∧ u.body.logbook.queue = s.body.logbook.queue) := by
  obtain ⟨c, hc⟩ : ∃ c, eraseSector 1 ((s.body.logbook.lastSector + s.body.logbook.lastErased + 1) % 480) s.body = c := ⟨_, rfl⟩
  have hx : eraseStep s.body = updLog (fun l => { l with lastErased := l.lastErased + 1 }) (addSat c R.LGB_FILL.erased 0 1) := by
    unfold eraseStep sectorErase
    simp only [hclear, hon, Bool.not_true, Bool.false_eq_true, if_false, if_pos h, hc]
  obtain ⟨hheld, hqueue, herased, -⟩ := eraseSector_shows 1 ((s.body.logbook.lastSector + s.body.logbook.lastErased + 1) % 480) s.body
  rw [hc] at hheld hqueue herased
  refine runsS_of_lift (f := eraseStep) rfl hx ⟨?_, ?_, ?_⟩ <;> simp only [updLog, addSat_other]
  · rw [herased]
  · exact hheld
  · exact hqueue

/-- Finishing a command with OK answers it, whether or not it leaves a record (R522). -/
theorem finish_answers {m : Nat} {t : Taken} {b : Body} (hm : m < 16) (ht : (mbx b m).taken = some t) (hq : t.noIrq = true) (r : List Byte) :
    Answered m t 0 r (finish m (.ok r) b) := by
  unfold finish
  simp only []
  refine (answer_shows hm ?_ hq 0 r).1
  split
  · exact ht
  · unfold cmdRecord logFrom
    split
    · exact ht
    · split
      · exact ht
      · exact ht

theorem logFrom_held (origin cls : Nat) (payload : List Byte) (b : Body) : (logFrom origin cls payload b).logbook.held = b.logbook.held
    ∧ (logFrom origin cls payload b).logbook.clearing = b.logbook.clearing := by
  unfold logFrom
  split
  · exact ⟨rfl, rfl⟩
  · simp only [updLog]
    repeat' split
    all_goals exact ⟨rfl, rfl⟩

theorem answer_logbook (m st : Nat) (r : List Byte) (b : Body) : (answer m st r b).logbook = b.logbook := by
  unfold answer
  split
  · rfl
  · simp only []
    split
    · split
      · simp
      · rw [show (raiseVec m _).logbook = _ from (raiseVec_within m _).same (p := .logbook) (by decide)]
        simp
    · simp

theorem finish_logbook (m : Nat) (r : List Byte) (b : Body) : (finish m (.ok r) b).logbook.held = b.logbook.held
    ∧ (finish m (.ok r) b).logbook.clearing = b.logbook.clearing := by
  unfold finish
  simp only [answer_logbook]
  split
  · exact ⟨rfl, rfl⟩
  · unfold cmdRecord
    split
    · exact ⟨rfl, rfl⟩
    · exact logFrom_held _ _ _ _

/-- Raising a vector leaves the mailboxes. -/
theorem raiseVec_mbx (v : Nat) (b : Body) (m : Nat) : mbx (raiseVec v b) m = mbx b m := by
  have hc : mbx (withCause v b) m = mbx b m := by simp [mbx, withCause]
  obtain ⟨-, h⟩ | h | h := raiseVec_cases v b <;> rw [h]
  · exact hc
  · rw [← hc]
    unfold sendVector
    split <;> rfl

theorem eraseSector_mbx (a x : Nat) (b : Body) (m : Nat) : mbx (eraseSector a x b) m = mbx b m := by
  have hs : ∀ c : Body, mbx (showLog c) m = mbx c m := fun c => (showLog_within c).mbx_eq (by decide) m
  unfold eraseSector
  simp only [hs]
  split
  · rw [raiseVec_mbx]
    rfl
  · rfl

section Clear

variable {c : Clearing} {a x : Nat} {rest : List (Nat × Nat)} (hon : shepherdActive s.body = true) (hclear : s.body.logbook.clearing = some c)
  (hleft : c.left = (a, x) :: rest)
include hon hclear hleft

/-- A clear goes on with its next sector. -/
theorem sectorErase_clears (hrest : rest ≠ []) : RunsS .logbookSectorErase s (fun u =>
    u.body.logbook.held = s.body.logbook.held.filter (fun h => !(h.area == a && h.sector == x))
      ∧ u.body.logbook.clearing = some { c with left := rest }) := by
  have hne : rest.isEmpty = false := by simpa using hrest
  have hx : eraseStep s.body = updLog (fun l => { l with clearing := some { c with left := rest }
                                                         lastErased := if a = 1 then l.lastErased + 1 else l.lastErased }) (eraseSector a x s.body) := by
    unfold eraseStep sectorErase
    simp only [hclear, hon, Bool.not_true, Bool.false_eq_true, if_false, hleft, hne]
    exact if_neg (fun h => Bool.false_ne_true h.1)
  exact runsS_of_lift (f := eraseStep) rfl hx ⟨(eraseSector_shows a x s.body).1, rfl⟩

/-- The last sector of a clear ends it; its command is answered if it is still in execution. -/
theorem sectorErase_completes (hrest : rest = []) : RunsS .logbookSectorErase s (fun u =>
    u.body.logbook.held = s.body.logbook.held.filter (fun h => !(h.area == a && h.sector == x)) ∧ u.body.logbook.clearing = none
      ∧ flagF u.body R.LGB_STATUS.clearing 0 = false
      ∧ ∀ t, Asked c.mailbox 0x0503 t s.body → Answered c.mailbox t 0 (leBytes 8 c.record) u.body) := by
  obtain ⟨d, hd⟩ : ∃ d, updLog (fun l => { l with clearing := none, lastErased := if a = 1 then l.lastErased + 1 else l.lastErased })
      (eraseSector a x s.body) = d := ⟨_, rfl⟩
  obtain ⟨e, he⟩ : ∃ e, raiseVec 25 (setFlag d R.LGB_STATUS.clearing 0 false) = e := ⟨_, rfl⟩
  have hlog : e.logbook = d.logbook := by
    rw [← he, show (raiseVec 25 (setFlag d R.LGB_STATUS.clearing 0 false)).logbook = _ from (raiseVec_within 25 _).same (p := .logbook) (by decide)]
    simp
  have hnone : e.logbook.clearing = none := by
    rw [hlog, ← hd]
    rfl
  have hheld : e.logbook.held = s.body.logbook.held.filter (fun h => !(h.area == a && h.sector == x)) := by
    rw [hlog, ← hd]
    exact (eraseSector_shows a x s.body).1
  have hflag : flagF e R.LGB_STATUS.clearing 0 = false := by
    rw [← he, (raiseVec_within 25 _).flagF_eq (by decide) (by decide), flagF_setFlag_same _ _ _ _ (by decide)]
  have hx : eraseStep s.body = (if e.logbook.clearing.isNone = true ∧ inExecution e c.mailbox 0x0503 anyAction ≠ none
      then finish c.mailbox (.ok (leBytes 8 c.record)) e else e) := by
    unfold eraseStep sectorErase
    simp only [hclear, hon, Bool.not_true, Bool.false_eq_true, if_false, hleft, hrest, List.isEmpty_nil, if_true, hd, he]
  have hbox : ∀ m, (mbx e m).taken = (mbx s.body m).taken := fun m => by
    have h2 : mbx (setFlag d R.LGB_STATUS.clearing 0 false) m = mbx d m := by simp [mbx]
    rw [← he, raiseVec_mbx, h2, ← hd]
    exact congrArg Mailbox.taken (eraseSector_mbx a x s.body m)
  have hact : shepherdActive e = true := by
    have h2 : Within [.regs, .host, .sent, .logbook] (R.LGB_STATUS.clearing :: R.IRQ_CAUSE.cause :: logFields) s.body e := by
      rw [← he, ← hd]
      refine ((eraseSector_shows a x s.body).2.2.2.mono (by decide) (by decide)).trans (Within.trans ?_ ((raiseVec_within 25 _).mono (by decide) (by decide)))
      constructor <;> simp (disch := decide)
    unfold shepherdActive
    rw [h2.getF_eq (by decide) (by decide), h2.getF_eq (by decide) (by decide)]
    exact hon
  by_cases hin : inExecution e c.mailbox 0x0503 anyAction = none
  · rw [if_neg (fun h => h.2 hin)] at hx
    refine runsS_of_lift (f := eraseStep) rfl hx ⟨hheld, hnone, hflag, fun t ht => ?_⟩
    have hasked : Asked c.mailbox 0x0503 t e := ⟨ht.1, (hbox _).trans ht.2.1, ht.2.2.1, ht.2.2.2.1, hact⟩
    rw [inExecution_of_asked hasked rfl] at hin
    cases hin
  · rw [if_pos ⟨by rw [hnone]; rfl, hin⟩] at hx
    obtain ⟨h1, h2⟩ := finish_logbook c.mailbox (leBytes 8 c.record) e
    refine runsS_of_lift (f := eraseStep) rfl hx ⟨h1.trans hheld, h2.trans hnone, ?_, fun t ht => ?_⟩
    · exact (congrArg (· == 1) (getF_finish (by decide) (by decide) _ _ _)).trans hflag
    · exact finish_answers ht.1 ((hbox _).trans ht.2.1) ht.2.2.2.1 _

end Clear

/-! ## Start-up, mirror and hour stamp (R583, R588, R590) -/

/-- The voltage-frequency tables and the groups are all that loading the engines writes. -/
theorem loadEngines_within (b : Body) : Within [.regs] [R.COX_VF.max_code, R.COX_VF.core_mv, R.COX_VF.valid, R.COX_LOOP_CFG.group] b (loadEngines b) := by
  unfold loadEngines
  refine Within.trans (forEach_within (fun i c => ?_) _ b) (forEach_within (fun g c => ?_) _ _) <;> constructor <;> simp (disch := decide)

theorem logbookScan_skips {bad : List Nat} {tf tl ok : Bool} (h : power s.body ≠ 2 ∨ ¬ shepherdActive s.body = true ∨ stepIsDone s.body 1 = false
    ∨ stepIsDone s.body 2 = true) : Runs (.logbookScan bad tf tl ok) s [] (fun b => b = s.body) := by
  refine runs_same (f := logScan bad tf tl ok) rfl (if_pos ?_)
  simpa using h

theorem logRec_held (cls : Nat) (payload : List Byte) (b : Body) : (logRec cls payload b).logbook.held = b.logbook.held
    ∧ (logRec cls payload b).logbook.firstUsed = b.logbook.firstUsed ∧ (logRec cls payload b).logbook.lastUsed = b.logbook.lastUsed := by
  unfold logRec logFrom
  split
  · exact ⟨rfl, rfl, rfl⟩
  · simp only [updLog]
    repeat' split
    all_goals exact ⟨rfl, rfl, rfl⟩

theorem logbookScan_scans {bad : List Nat} {tf tl : Bool} (hpow : power s.body = 2) (hon : shepherdActive s.body = true)
    (h1 : stepIsDone s.body 1 = true) (h2 : stepIsDone s.body 2 = false) : RunsS (.logbookScan bad tf tl true) s (fun u =>
      stepIsDone u.body 2 = true ∧ u.body.logbook.held = s.body.logbook.held.filter (fun h => !bad.contains h.entry.seq)
        ∧ u.body.logbook.firstUsed = (if tf then 65536 else s.body.logbook.firstUsed)
        ∧ u.body.logbook.lastUsed = (if tl then 65536 else s.body.logbook.lastUsed)
        ∧ (powered s.body = true → queueBytes s.body.logbook.queue + 48 ≤ 262144 →
            ∃ r, u.body.logbook.queue = s.body.logbook.queue ++ [r] ∧ r.cls = 1 ∧ r.seq = s.body.logbook.nextSeq)) := by
  obtain ⟨c, hc⟩ : ∃ c, updLog (fun l => { l with held := l.held.filter (fun h => !bad.contains h.entry.seq), firstUsed := if tf then 65536 else l.firstUsed, lastUsed := if tl then 65536 else l.lastUsed }) s.body = c :=
    ⟨_, rfl⟩
  obtain ⟨n, d, hd⟩ : ∃ n d, showLog (addSat c R.LGB_STATUS.bad 0 n) = d ∧
      logScan bad tf tl true s.body = stepDone 2 (loadEngines (logRec 1 (leBytes 4 (fwWord d) ++ leBytes 4 (resetCause d)
        ++ leBytes 8 d.logbook.gapFirst) d)) := by
    have hgo : ¬ (power s.body ≠ 2 ∨ (!shepherdActive s.body) = true ∨ (!stepIsDone s.body 1) = true ∨ stepIsDone s.body 2 = true) := by
      simp [hpow, hon, h1, h2]
    unfold logScan
    simp only [if_neg hgo, if_true, hc]
    exact ⟨_, _, rfl, rfl⟩
  obtain ⟨hd, hx⟩ := hd
  have hdlog : d.logbook = c.logbook := by
    rw [← hd, showLog_logbook]
    simp
  obtain ⟨e, he⟩ : ∃ e, logRec 1 (leBytes 4 (fwWord d) ++ leBytes 4 (resetCause d) ++ leBytes 8 d.logbook.gapFirst) d = e := ⟨_, rfl⟩
  have hlast : (stepDone 2 (loadEngines e)).logbook = e.logbook := by
    have : (stepDone 2 (loadEngines e)).logbook = (loadEngines e).logbook := by simp [stepDone]
    exact this.trans ((loadEngines_within e).same (p := .logbook) (by decide))
  obtain ⟨hheld, hfirst, hlastUsed⟩ := logRec_held 1 (leBytes 4 (fwWord d) ++ leBytes 4 (resetCause d) ++ leBytes 8 d.logbook.gapFirst) d
  rw [he, hdlog, ← hc] at hheld hfirst hlastUsed
  rw [he] at hx
  refine runsS_of_lift (f := logScan bad tf tl true) rfl hx ⟨?_, ?_, ?_, ?_, fun hp hroom => ?_⟩
  · simp only [stepIsDone, stepDone]
    rw [getF_setF_same]
    exact bit_setBit_mod _ (by decide)
  · exact (congrArg Logbook.held hlast).trans hheld
  · exact (congrArg Logbook.firstUsed hlast).trans hfirst
  · exact (congrArg Logbook.lastUsed hlast).trans hlastUsed
  · have hlen : (leBytes 4 (fwWord d) ++ leBytes 4 (resetCause d) ++ leBytes 8 d.logbook.gapFirst).length = 16 := by simp [leBytes_length]
    have hpd : powered d = true := by
      have hcox : d.cox = s.body.cox := by
        rw [← hd, ← hc, show (showLog _).cox = _ from (showLog_within _).same (p := .cox) (by decide)]
        simp
      unfold powered
      rw [hcox]
      exact hp
    have hq : d.logbook.queue = s.body.logbook.queue ∧ d.logbook.nextSeq = s.body.logbook.nextSeq := by
      rw [hdlog, ← hc]
      exact ⟨rfl, rfl⟩
    obtain ⟨r, ceil, hlog, hseq, hcls, -⟩ := logFrom_queues (b := d) (origin := 0) (cls := 1) hpd (by decide) (pad8_of_dvd (by rw [hlen]))
      (by rw [hlen]; decide) (by rw [hlen, hq.1]; exact hroom)
    refine ⟨r, ?_, hcls, hseq.trans hq.2⟩
    simp only []
    rw [hlast, ← he, logRec, hlog]
    exact congrArg (· ++ [r]) hq.1

theorem mirrorComplete_completes : Runs .logbookMirrorComplete s [.logbook, .regs] (fun b => b.logbook = { s.body.logbook with behind := [] }
    ∧ flagF b R.LGB_STATUS.mirror_behind 0 = false ∧ RegsBut [R.LGB_STATUS.mirror_behind] 0 s.body b) := by
  refine runs_of_lift (f := mirrorComplete) rfl rfl ?_ ⟨?_, ?_, ?_⟩
  · simp [mirrorComplete]
  · simp [mirrorComplete, updLog]
  · exact flagF_setFlag_same _ _ _ _ (by decide)
  · exact RegsBut.setF (c := updLog (fun l => { l with behind := [] }) s.body) (fun _ _ _ _ => rfl) _ _ (by decide) (by decide)

theorem hourStampSave_saves (hon : shepherdActive s.body = true) :
    Runs .hourStampSave s [.host] (fun b => b.host = { s.body.host with opSaved := hourMs s.body }) :=
  runs_of_lift (f := hourSave) rfl (if_pos hon) (by simp) rfl

/-! ## The window (R592, R593) -/

theorem lgbLoad_loads : Runs .lgbLoad s [.regs] (fun b => getF b R.LGB_WIN_STATUS.state 0 = 1 ∧ RegsBut [R.LGB_WIN_STATUS.state] 0 s.body b) :=
  runs_of_lift (f := loadWindow) rfl rfl (by simp [loadWindow]) ⟨getF_setF_fits (by decide), (RegsBut.refl _ _ _).setF _ _ (by decide) (by decide)⟩

section Advance

variable {r : LogRec} (hst : getF s.body R.LGB_WIN_STATUS.state 0 = 2) (hr : s.body.logbook.windowSeqs.getLast? = some r)
include hst hr

/-- The cursor has moved past the window. -/
theorem lgbAdvance_eq : ∃ c, setF s.body R.LGB_CURSOR.seq 0 (r.seq + 1) = c ∧ getF c R.LGB_CURSOR.seq 0 = (r.seq + 1) % 2 ^ 64
    ∧ advanceWindow s.body = (if flagF s.body R.LGB_CTRL.follow 0 = true
        ∧ (logAnswer s.body.logbook (getF s.body R.LGB_CTRL.area 0) ((r.seq + 1) % 2 ^ 64) 4096).records.isEmpty = true
      then setFlag (setFlag (setF (setF (updLog (fun l => { l with windowSeqs := [] }) c) R.LGB_WIN_STATUS.bytes 0 0)
        R.LGB_WIN_STATUS.count 0 0) R.LGB_WIN_STATUS.atEnd 0 true) R.LGB_WIN_STATUS.skipped 0 false else loadWindow c) := by
  obtain ⟨c, hc⟩ : ∃ c, setF s.body R.LGB_CURSOR.seq 0 (r.seq + 1) = c := ⟨_, rfl⟩
  have hcur : getF c R.LGB_CURSOR.seq 0 = (r.seq + 1) % 2 ^ 64 := by
    rw [← hc, getF_setF_same]
    rfl
  have hfollow : flagF c R.LGB_CTRL.follow 0 = flagF s.body R.LGB_CTRL.follow 0 := by
    rw [← hc]
    simp (disch := decide)
  have harea : getF c R.LGB_CTRL.area 0 = getF s.body R.LGB_CTRL.area 0 := by
    rw [← hc, getF_setF_other _ _ (by decide) (by decide) (by decide)]
  have hlog : c.logbook = s.body.logbook := by
    rw [← hc]
    simp
  refine ⟨c, hc, hcur, ?_⟩
  unfold advanceWindow
  simp only [hst, ne_eq, not_true, if_false, hr, hc, hcur, hfollow, harea, hlog]

theorem lgbAdvance_loads (h : flagF s.body R.LGB_CTRL.follow 0 = false
    ∨ (logAnswer s.body.logbook (getF s.body R.LGB_CTRL.area 0) ((r.seq + 1) % 2 ^ 64) 4096).records ≠ []) :
    Runs .lgbAdvance s [.regs] (fun b => getF b R.LGB_CURSOR.seq 0 = (r.seq + 1) % 2 ^ 64 ∧ getF b R.LGB_WIN_STATUS.state 0 = 1
      ∧ RegsBut [R.LGB_CURSOR.seq, R.LGB_WIN_STATUS.state] 0 s.body b) := by
  obtain ⟨c, hc, hcur, hx⟩ := lgbAdvance_eq hst hr
  rw [if_neg (by
    rintro ⟨h1, h2⟩
    rcases h with h | h
    · exact Bool.false_ne_true (h.symm.trans h1)
    · exact h (List.isEmpty_iff.1 h2))] at hx
  refine runs_of_lift (f := advanceWindow) rfl hx ?_ ⟨?_, getF_setF_fits (by decide), ?_⟩
  · rw [← hc]
    simp [loadWindow]
  · rw [loadWindow, getF_setF_other _ _ (by decide) (by decide) (by decide), hcur]
  · rw [← hc]
    exact RegsBut.setF ((RegsBut.refl _ _ _).setF _ _ (by decide) (by decide)) _ _ (by decide) (by decide)

theorem lgbAdvance_follows (hf : flagF s.body R.LGB_CTRL.follow 0 = true)
    (hlater : (logAnswer s.body.logbook (getF s.body R.LGB_CTRL.area 0) ((r.seq + 1) % 2 ^ 64) 4096).records = []) :
    Runs .lgbAdvance s [.regs, .logbook] (fun b => b.logbook = { s.body.logbook with windowSeqs := [] }
      ∧ getF b R.LGB_CURSOR.seq 0 = (r.seq + 1) % 2 ^ 64 ∧ getF b R.LGB_WIN_STATUS.state 0 = 2
      ∧ getF b R.LGB_WIN_STATUS.count 0 = 0 ∧ flagF b R.LGB_WIN_STATUS.atEnd 0 = true) := by
  obtain ⟨c, hc, hcur, hx⟩ := lgbAdvance_eq hst hr
  rw [if_pos ⟨hf, List.isEmpty_iff.2 hlater⟩] at hx
  refine runs_of_lift (f := advanceWindow) rfl hx ?_ ⟨?_, ?_, ?_, ?_, ?_⟩
  · rw [← hc]
    simp
  · rw [← hc]
    simp [updLog]
  · rw [← hcur]
    simp (disch := decide)
  · rw [← hst, ← hc]
    simp (disch := decide)
  · rw [getF_setFlag_other _ _ (by decide) (by decide) (by decide), getF_setFlag_other _ _ (by decide) (by decide) (by decide), getF_setF_same]
    rfl
  · simp (disch := decide)

end Advance

theorem lgbWindowReady_fills (hst : getF s.body R.LGB_WIN_STATUS.state 0 = 1) (hon : shepherdActive s.body = true) :
    RunsS .lgbWindowReady s (fun u => u.body.logbook = { s.body.logbook with windowSeqs := (logAnswer s.body.logbook (getF s.body R.LGB_CTRL.area 0)
          (getF s.body R.LGB_CURSOR.seq 0) 4096).records }
      ∧ getF u.body R.LGB_WIN_STATUS.state 0 = 2
      ∧ getF u.body R.LGB_WIN_STATUS.count 0 = (logAnswer s.body.logbook (getF s.body R.LGB_CTRL.area 0) (getF s.body R.LGB_CURSOR.seq 0)
          4096).records.length % 256
      ∧ flagF u.body R.LGB_WIN_STATUS.atEnd 0 = (logAnswer s.body.logbook (getF s.body R.LGB_CTRL.area 0) (getF s.body R.LGB_CURSOR.seq 0) 4096).atEnd
      ∧ flagF u.body R.LGB_WIN_STATUS.skipped 0 = (logAnswer s.body.logbook (getF s.body R.LGB_CTRL.area 0) (getF s.body R.LGB_CURSOR.seq 0)
          4096).skipped
      ∧ bit (getF u.body R.IRQ_CAUSE.cause 0) 25 = true) := by
  obtain ⟨a, ha⟩ : ∃ a, logAnswer s.body.logbook (getF s.body R.LGB_CTRL.area 0) (getF s.body R.LGB_CURSOR.seq 0) 4096 = a := ⟨_, rfl⟩
  rw [ha]
  obtain ⟨cur, n, hx⟩ : ∃ cur n, windowReady s.body = raiseVec 25 (setF (setFlag (setFlag (setF (setF (setF (updLog (fun l =>
      { l with windowSeqs := a.records }) s.body) R.LGB_CURSOR.seq 0 cur) R.LGB_WIN_STATUS.bytes 0 n) R.LGB_WIN_STATUS.count 0 a.records.length)
      R.LGB_WIN_STATUS.atEnd 0 a.atEnd) R.LGB_WIN_STATUS.skipped 0 a.skipped) R.LGB_WIN_STATUS.state 0 2) := by
    have hgo : getF s.body R.LGB_WIN_STATUS.state 0 = 1 ∧ shepherdActive s.body = true := ⟨hst, hon⟩
    unfold windowReady
    rw [if_pos hgo]
    unfold fillWindow
    simp only [ha]
    exact ⟨_, _, rfl⟩
  have hv := fun (c : Body) => raiseVec_within 25 c
  refine runsS_of_lift (f := windowReady) rfl hx ⟨?_, ?_, ?_, ?_, ?_, raiseVec_pending _ (by decide)⟩ <;> simp only []
  · rw [show (raiseVec 25 _).logbook = _ from (hv _).same (p := .logbook) (by decide)]
    simp [updLog]
  · rw [(hv _).getF_eq (by decide) (by decide)]
    exact getF_setF_fits (by decide)
  · rw [(hv _).getF_eq (by decide) (by decide), getF_setF_other _ _ (by decide) (by decide) (by decide),
      getF_setFlag_other _ _ (by decide) (by decide) (by decide), getF_setFlag_other _ _ (by decide) (by decide) (by decide), getF_setF_same]
    rfl
  · rw [(hv _).flagF_eq (by decide) (by decide)]
    simp (disch := decide)
  · rw [(hv _).flagF_eq (by decide) (by decide)]
    simp (disch := decide)

end Logbook

/-- Settles O57: the records written and dropped, the sectors erased, the scan, and the reading window. -/
theorem logbookCommands : Obligations.LogbookCommands := by
  intro s b0 l on same firstAt kept cleared noted
  refine ⟨?lost, ?lostNone, ?lostWaits, ?idle, ?write, ?ahead, ?circulate, ?clear, ?scan, ?mirror, ?hour, ?hourOff, ?load, ?stay, ?advance,
    ?ready, ?notReady⟩
  case lost => exact fun a z k hon hp hd hroom => lostRecord_writes hon hp hd hroom
  case lostNone => exact lostRecord_none
  case lostWaits => exact fun x hd hfull => lostRecord_waits hd hfull
  case idle => exact flashWrite_idle
  case write =>
    intro r q hon hq hclear
    refine ⟨fun hfull hat => ?_, fun hfull => ⟨fun hroom => ?_, fun hroom he => ?_⟩⟩
    · obtain ⟨u, hu, hp, h1, h2, h3, -⟩ := logbookFlashWrite_writes hon hq (writePlace_first hclear hfull hat) (.inl rfl)
      exact ⟨u, hu, hp, h1, h2, h3⟩
    · obtain ⟨u, hu, hp, h1, h2, h3, h4⟩ := logbookFlashWrite_writes hon hq (writePlace_last hclear hfull hroom) (.inr rfl)
      exact ⟨u, hu, hp, h1, h2, h3, h4 Nat.one_ne_zero⟩
    · exact flashWrite_waits hon hq (writePlace_waits hfull hroom he)
  case ahead => exact sectorErase_ahead
  case circulate => exact sectorErase_circulates
  case clear =>
    exact fun c a x rest hon hclear hleft => ⟨sectorErase_clears hon hclear hleft, sectorErase_completes hon hclear hleft⟩
  case scan => exact fun bad tf tl => ⟨logbookScan_scans, fun ok h => logbookScan_skips h⟩
  case mirror => exact mirrorComplete_completes
  case hour => exact hourStampSave_saves
  case hourOff => exact fun h => runs_same (f := hourSave) rfl (if_neg h)
  case load => exact lgbLoad_loads
  case stay => exact fun h => runs_same (f := advanceWindow) rfl (if_pos h)
  case advance => exact fun r hst hr => ⟨lgbAdvance_loads hst hr, lgbAdvance_follows hst hr⟩
  case ready => exact lgbWindowReady_fills
  case notReady =>
    intro h
    refine runs_same (f := windowReady) rfl (if_neg ?_)
    rintro ⟨h1, h2⟩
    rcases h with h | h
    · exact h h1
    · exact h h2

end Sys2Proof.Machine

/-! The requests of the rack (O59). -/

namespace Sys2Proof.Machine

section Rack

variable {s : State}

/-! ## The endpoint answers while a Shepherd is active -/

/-- With no Shepherd active a request has no effect. -/
theorem runs_rackOff {c : Instr} {f : Body → Body} (hoff : ¬ shepherdActive s.body = true)
    (hx : Sys2Proof.Machine.exec c s = lift (rackOn f) s) : Runs c s [] (fun b => b = s.body) := runs_same hx (if_neg hoff)

variable (hon : shepherdActive s.body = true)
include hon

/-- What a request does while a Shepherd is active. -/
theorem runs_rackOn {c : Instr} {f : Body → Body} {ps : List Part} {P : Body → Prop} {b : Body} (hb : f s.body = b) (ho : Only ps s.body b) (hP : P b)
    (hx : Sys2Proof.Machine.exec c s = lift (rackOn f) s) : Runs c s ps P :=
  runs_of_lift hx ((if_pos hon).trans hb) ho hP

/-- A request that is answered, with the rack side as it is afterwards. -/
theorem runs_told {c : Instr} {f : Body → Body} {w : String} {ws : List Nat}
    (hx : Sys2Proof.Machine.exec c s = lift (rackOn f) s) (r : Rack → Rack)
    (hb : f s.body = rackSay w ws (updRack r s.body)) :
    Runs c s [.sent, .rack] (fun b => b.sent = .response w ws :: s.body.sent ∧ b.rack = r s.body.rack) :=
  runs_rackOn hon hb (by simp [rackSay]) ⟨rfl, rfl⟩ hx

/-- A request that is only answered. -/
theorem runs_said {c : Instr} {f : Body → Body} {w : String} {ws : List Nat}
    (hx : Sys2Proof.Machine.exec c s = lift (rackOn f) s) (hb : f s.body = rackSay w ws s.body) :
    Runs c s [.sent, .rack] (fun b => b.sent = .response w ws :: s.body.sent ∧ b.rack = s.body.rack) :=
  runs_told hon hx id hb

/-! ## Addresses and MCTP (R619 to R621) -/

omit hon in
theorem mailboxes_foldl_put (bs : List Byte) (k : Nat) (q : SMap Byte) {i : Nat} (hi : i < bs.length) :
    SMap.get ((bs.zipIdx k).foldl (fun q p => SMap.put q 0 p.2 p.1) q) 0 (k + i) = bs.getD i 0 := by
  induction bs generalizing k q i with
  | nil => exact absurd hi (Nat.not_lt_zero i)
  | cons x xs ih =>
    rw [List.zipIdx_cons, List.foldl_cons]
    cases i with
    | zero =>
      have hlow : ∀ (ys : List Byte) (j : Nat) (q : SMap Byte), k < j →
          SMap.get ((ys.zipIdx j).foldl (fun q p => SMap.put q 0 p.2 p.1) q) 0 k = SMap.get q 0 k := by
        intro ys
        induction ys with
        | nil => exact fun _ _ _ => rfl
        | cons y ys ihy =>
          intro j q hj
          rw [List.zipIdx_cons, List.foldl_cons, ihy (j + 1) _ (by omega), SMap.get_put_ne _ _ _ _ _ _ (by omega)]
      refine (hlow xs (k + 1) _ (by omega)).trans ?_
      rw [SMap.get_put_same]
      rfl
    | succ i =>
      rw [show k + (i + 1) = k + 1 + i by omega, ih (k + 1) _ (by simpa using hi)]
      rfl

/-- A request on an idle management channel is rung in with its bytes. -/
theorem mailboxExchange_rings {ch : Nat} {req : List Byte} (hch : ch ≤ 1)
    (hst : getF s.body R.MBX_STATUS.state (16 + ch) = 0 ∨ getF s.body R.MBX_STATUS.state (16 + ch) = 3) :
    Runs (.mailboxExchange ch req) s [.host, .regs] (fun b => getF b R.MBX_STATUS.state (16 + ch) = 1
      ∧ b.host.doorbells = s.body.host.doorbells ++ [16 + ch]
      ∧ ∀ i, i < 4096 → i < req.length → reqBytes b (16 + ch) i 1 = [req.getD i 0]) := by
  obtain ⟨c, hc⟩ : ∃ c, updMbx (16 + ch) (fun x => { x with request := (req.take 4096).zipIdx.foldl (fun q p => SMap.put q 0 p.2 p.1) [] }) s.body = c :=
    ⟨_, rfl⟩
  have hcst : getF c R.MBX_STATUS.state (16 + ch) = getF s.body R.MBX_STATUS.state (16 + ch) := by
    rw [← hc, getF_updMbx]
  have hx : mailboxExchange ch req s.body = updHost (fun h => { h with doorbells := h.doorbells ++ [16 + ch] })
      (updMbx (16 + ch) (fun x => { x with response := [] }) (setF c R.MBX_STATUS.state (16 + ch) 1)) := by
    have h1 : ¬ 1 < ch := by omega
    have h2 : ¬ (getF s.body R.MBX_STATUS.state (16 + ch) = 1 ∨ getF s.body R.MBX_STATUS.state (16 + ch) = 2) := by omega
    unfold mailboxExchange
    simp only [if_neg h1, if_neg h2, hc]
    exact if_neg (by rw [hcst]; omega)
  refine runs_rackOn hon hx ?_ ⟨?_, ?_, fun i hi hlen => ?_⟩ rfl
  · rw [← hc]
    simp
  · rw [getF_updHost, getF_updMbx]
    exact getF_setF_fits (by decide)
  · rw [← hc]
    simp [updHost, updMbx]
  · have hreq : (mbx (updHost (fun h => { h with doorbells := h.doorbells ++ [16 + ch] })
        (updMbx (16 + ch) (fun x => { x with response := [] }) (setF c R.MBX_STATUS.state (16 + ch) 1))) (16 + ch)).request
        = (req.take 4096).zipIdx.foldl (fun q p => SMap.put q 0 p.2 p.1) [] := by
      rw [← hc]
      simp [mbx, updHost, updMbx, SMap.upd]
    have hget := mailboxes_foldl_put (req.take 4096) 0 [] (i := i) (by rw [List.length_take]; omega)
    unfold reqBytes
    rw [hreq]
    simp only [List.range_one, List.map_cons, List.map_nil, Nat.add_zero]
    rw [Nat.zero_add] at hget
    rw [hget, List.getD_eq_getElem?_getD, List.getD_eq_getElem?_getD, List.getElem?_take_of_lt hi]

omit hon in
theorem entdaa_takes {n : Nat} (hi : i3cOn s.body = true) (hfree : s.body.rack.i3c = none) :
    Runs (.entdaa n) s [.rack] (fun b => b.rack = { s.body.rack with i3c := some n }) :=
  runs_of_lift (f := i3cEntdaa n) rfl (if_pos ⟨hi, by simp [hfree]⟩) (by simp) rfl

omit hon in
theorem setdasa_takes {a n : Nat} (hi : i3cOn s.body = true) (hfree : s.body.rack.i3c = none) (ha : a = 0x50 + getF s.body R.GBL_SLOT.slot 0) :
    Runs (.setdasa a n) s [.rack] (fun b => b.rack = { s.body.rack with i3c := some n }) :=
  runs_of_lift (f := i3cSetdasa a n) rfl (if_pos ⟨hi, ha, by simp [hfree]⟩) (by simp) rfl

/-! ## Sensors (R622) -/

omit hon in
theorem sensor_updSensor (id : Nat) (f : SensorSide → SensorSide) (b : Body) : sensor (updSensor id f b) id = f (sensor b id) := by
  simp [sensor, updSensor, updRack, SMap.upd]

theorem pldmEventHoldoff_sends {id c e : Nat} (hold : (sensor s.body id).holding = true) (hw : (sensor s.body id).waiting = some c)
    (he : s.body.rack.receiver = some e) : Runs (.pldmEventHoldoff id) s [.sent, .rack] (fun b => b.rack.events = s.body.rack.events + 1
      ∧ (sensor b id).holding = true ∧ (sensor b id).waiting = none
      ∧ b.sent = .response "PLATFORM_EVENT_MESSAGE" [e, id, c + 1, (sensor s.body id).previous + 1] :: s.body.sent) := by
  obtain ⟨d, hd⟩ : ∃ d, updSensor id (fun y => { y with holding := false, waiting := none }) s.body = d := ⟨_, rfl⟩
  have hrec : d.rack.receiver = some e := by
    rw [← hd]
    exact he
  have hx : holdoffEnd id s.body = emit (.response "PLATFORM_EVENT_MESSAGE" [e, id, c + 1, (sensor s.body id).previous + 1])
      (updRack (fun r => { r with events := r.events + 1 }) (updSensor id (fun y => { y with holding := true }) d)) := by
    unfold holdoffEnd
    simp only [hold, Bool.not_true, Bool.false_eq_true, if_false, hd, hw, hrec]
  have hsens : sensor (updSensor id (fun y => { y with holding := true }) d) id = { sensor s.body id with holding := true, waiting := none } := by
    rw [sensor_updSensor, ← hd, sensor_updSensor]
  refine runs_rackOn hon hx ?_ ⟨?_, ?_, ?_, ?_⟩ rfl
  · rw [← hd]
    simp [updSensor]
  · rw [← hd]
    rfl
  · exact (congrArg SensorSide.holding hsens).trans rfl
  · exact (congrArg SensorSide.waiting hsens).trans rfl
  · rw [← hd]
    rfl

theorem pldmEventHoldoff_ends {id : Nat} (hold : (sensor s.body id).holding = true)
    (h : (sensor s.body id).waiting = none ∨ s.body.rack.receiver = none) : Runs (.pldmEventHoldoff id) s [.rack] (fun b =>
      sensor b id = { sensor s.body id with holding := false, waiting := none }) := by
  have hx : holdoffEnd id s.body = updSensor id (fun y => { y with holding := false, waiting := none }) s.body := by
    have hrec : (updSensor id (fun y => { y with holding := false, waiting := none }) s.body).rack.receiver = s.body.rack.receiver := rfl
    unfold holdoffEnd
    simp only [hold, Bool.not_true, Bool.false_eq_true, if_false, hrec]
    rcases h with h | h
    · simp only [h]
    · simp only [h]
      split
      next h1 => cases h1
      next => rfl
  exact runs_rackOn hon hx (by simp [updSensor]) (sensor_updSensor _ _ _) rfl

/-! ## The firmware update (R573, R575, R623) -/

omit hon in
theorem slotImage_congr {b c : Body} (ht : c.trust = b.trust) (n : Nat) : slotImage c n = slotImage b n := by
  unfold slotImage
  rw [ht]

omit hon in
theorem imageFails_congr {b c : Body} (ht : c.trust = b.trust) (hm : getF c R.SHP_FW_SLOTS.svn_min 0 = getF b R.SHP_FW_SLOTS.svn_min 0) (bs : List Byte)
    (clean : Bool) : imageFails c bs clean = imageFails b bs clean := by
  unfold imageFails
  rw [ht, hm]

section Download

variable {data got : List Byte} (hgot : s.body.rack.image ++ (data.take 512).take (s.body.rack.size - s.body.rack.image.length) = got)
  (hst : s.body.rack.update = .download)
include hgot hst

omit hon in
theorem firmwareData_eq : firmwareData data s.body = (if s.body.rack.size ≤ got.length
    then verifyImage (updRack (fun r => { r with image := got }) s.body)
    else rackSay "REQUEST_FIRMWARE_DATA" [got.length, 512] (updRack (fun r => { r with image := got }) s.body)) := by
  unfold firmwareData
  rw [if_neg (by simp [hst]), ← hgot]
  rfl

theorem firmwareData_goesOn (h : got.length < s.body.rack.size) : Runs (.firmwareDataReceive data) s [.sent, .rack] (fun b =>
    b.sent = .response "REQUEST_FIRMWARE_DATA" [got.length, 512] :: s.body.sent ∧ b.rack = { s.body.rack with image := got }) :=
  runs_told hon rfl (fun r => { r with image := got }) ((firmwareData_eq hgot hst).trans (if_neg (Nat.not_le.2 h)))

variable (hall : s.body.rack.size ≤ got.length)
include hall

theorem firmwareData_fails (hbad : ¬ (headerOk got s.body.rack.size = true ∧ imageFails s.body (got.take (bfield got 8 4)) true = none)) :
    Runs (.firmwareDataReceive data) s [.sent, .rack] (fun b => b.rack.update = .verify ∧ b.rack.applied = s.body.rack.applied
      ∧ b.sent = .response "VERIFY_COMPLETE" [1] :: .response "TRANSFER_COMPLETE" [0] :: s.body.sent) := by
  obtain ⟨c, hc⟩ : ∃ c, rackSay "TRANSFER_COMPLETE" [0] (updRack (fun r => { r with image := got }) s.body) = c := ⟨_, rfl⟩
  have hsame : imageFails c (got.take (bfield got 8 4)) true = imageFails s.body (got.take (bfield got 8 4)) true :=
    imageFails_congr (hc ▸ rfl) (hc ▸ rfl) _ _
  have hbad' : ∃ e, (if headerOk got s.body.rack.size then imageFails c (got.take (bfield got 8 4)) true else some (imageFail 0x0A 0)) = some e := by
    rw [hsame]
    split
    next h => exact Option.ne_none_iff_exists'.1 fun hn => hbad ⟨h, hn⟩
    next => exact ⟨_, rfl⟩
  obtain ⟨e, he⟩ := hbad'
  have hx : firmwareData data s.body = rackSay "VERIFY_COMPLETE" [1] (setUpdate .verify c) := by
    rw [firmwareData_eq hgot hst, if_pos hall, ← hc] at *
    unfold verifyImage
    simp only [show (updRack (fun r => { r with image := got }) s.body).rack.image = got from rfl,
      show (rackSay "TRANSFER_COMPLETE" [0] (updRack (fun r => { r with image := got }) s.body)).rack.size = s.body.rack.size from rfl, he]
  refine runs_rackOn hon hx ?_ ⟨rfl, ?_, ?_⟩ rfl
  · rw [← hc]
    simp [rackSay, setUpdate]
  · rw [← hc]
    rfl
  · rw [← hc]
    rfl

theorem firmwareData_applies (hgood : headerOk got s.body.rack.size = true ∧ imageFails s.body (got.take (bfield got 8 4)) true = none) :
    Runs (.firmwareDataReceive data) s [.sent, .rack, .trust, .regs] (fun b => b.rack.update = .ready ∧ b.rack.applied = true
      ∧ slotImage b (1 - getF s.body R.SHP_FW_SLOTS.running_slot 0) = some (imageOf got)
      ∧ b.sent = .response "APPLY_COMPLETE" [0] :: .response "VERIFY_COMPLETE" [0] :: .response "TRANSFER_COMPLETE" [0] :: s.body.sent) := by
  obtain ⟨c, hc⟩ : ∃ c, rackSay "TRANSFER_COMPLETE" [0] (updRack (fun r => { r with image := got }) s.body) = c := ⟨_, rfl⟩
  have hsame : imageFails c (got.take (bfield got 8 4)) true = imageFails s.body (got.take (bfield got 8 4)) true :=
    imageFails_congr (hc ▸ rfl) (hc ▸ rfl) _ _
  have hx : firmwareData data s.body = updRack (fun r => { r with image := [], applied := true }) (setUpdate .ready (setUpdate .apply
      (setUpdate .verify (rackSay "APPLY_COMPLETE" [0] (rackSay "VERIFY_COMPLETE" [0] (writeSlot (imageOf got) c)))))) := by
    rw [firmwareData_eq hgot hst, if_pos hall, ← hc] at *
    unfold verifyImage
    simp only [show (updRack (fun r => { r with image := got }) s.body).rack.image = got from rfl,
      show (rackSay "TRANSFER_COMPLETE" [0] (updRack (fun r => { r with image := got }) s.body)).rack.size = s.body.rack.size from rfl, hgood.1,
      if_true, hsame, hgood.2]
  have hslot : stageSlot c = 1 - getF s.body R.SHP_FW_SLOTS.running_slot 0 := by
    rw [← hc]
    rfl
  have himage : slotImage (writeSlot (imageOf got) c) (stageSlot c) = some (imageOf got) := by
    unfold writeSlot slotImage
    simp only [setFlag_other, updTrust]
    split <;> rfl
  have hsent : (writeSlot (imageOf got) c).sent = c.sent := by simp [writeSlot]
  refine runs_rackOn hon hx ?_ ⟨rfl, rfl, ?_, ?_⟩ rfl
  · rw [← hc]
    simp [rackSay, setUpdate, writeSlot]
  · rw [slotImage_congr (b := writeSlot (imageOf got) c) (by simp [setUpdate, rackSay]), ← hslot, himage]
  · have hrest : c.sent = .response "TRANSFER_COMPLETE" [0] :: s.body.sent := by
      rw [← hc]
      rfl
    rw [← hrest, ← hsent]
    rfl

end Download

omit hon in
/-- What a firmware event changes: a record, and vector 29 (R576). -/
theorem fwEvent_within (event slot : Nat) (b : Body) : Within [.logbook, .regs, .host, .sent] [R.IRQ_CAUSE.cause] b (fwEvent event slot b) :=
  ((logRec_within _ _ b).mono (by decide) (by decide)).trans ((raiseVec_within 29 _).mono (by decide) (by decide))

omit hon in
/-- What a Shepherd's restart changes (R512, R576). -/
theorem startRestart_within (w : Nat) (b : Body) : Within [.logbook, .regs, .host, .sent]
    [R.IRQ_CAUSE.cause, R.SHP_STATUS.a_state, R.SHP_STATUS.b_state, R.SHP_STATUS.protected, R.SHP_COUNTS.restarts, R.SHP_EVENTS.a_failed,
      R.SHP_EVENTS.b_failed] b (startRestart w b) := by
  unfold startRestart shpEvent shpRecord
  refine Within.trans (Within.trans ?_ ((raiseVec_within 24 _).mono (by decide) (by decide))) ((logRec_within _ _ _).mono (by decide) (by decide))
  unfold setShState updSh
  split <;> constructor <;> simp (disch := decide)

omit hon in
theorem beginTrial_shows (slot : Nat) (b : Body) : trialOn (beginTrial slot b) = true
    ∧ getF (beginTrial slot b) R.SHP_FW_SLOTS.trial_slot 0 = slot % 2 ^ R.SHP_FW_SLOTS.trial_slot.width := by
  unfold beginTrial
  simp only [trialOn]
  rw [(fwEvent_within 2 slot _).flagF_eq (by decide) (by decide), (fwEvent_within 2 slot _).getF_eq (by decide) (by decide)]
  constructor
  · simp (disch := decide)
  · rw [getF_updTrust, getF_setF_other _ _ (by decide) (by decide) (by decide), getF_setF_same]

omit hon in
theorem standbySh_eq {ps : List Part} {fs : List Field} {b c : Body} (h : Within ps fs b c) (ha : R.SHP_STATUS.a_state.idx ∉ fs.map Field.idx)
    (hb : R.SHP_STATUS.b_state.idx ∉ fs.map Field.idx) : standbySh c = standbySh b := by
  have hs : ∀ w, shState c w = shState b w := fun w => by
    unfold shState
    split
    · exact h.getF_eq (by decide) ha 0
    · exact h.getF_eq (by decide) hb 0
  unfold standbySh
  simp only [hs]

section Activate

variable (hst : s.body.rack.update = .ready) (happ : s.body.rack.applied = true)
include hst happ

omit hon in
/-- The answer to an activation, with the update back in idle. -/
theorem activateFirmware_eq (self : Bool) : ∃ c, activateFirmware self s.body = activate self c ∧ c.rack.update = .idle
    ∧ c.sent = .response "ACTIVATEFIRMWARE" [0, Config.rackWord 8 0] :: s.body.sent ∧ Within [.sent, .rack] [] s.body c := by
  refine ⟨rackSay "ACTIVATEFIRMWARE" [0, Config.rackWord 8 0] (updRack (fun r => { r with applied := false })
    (setUpdate .idle (setUpdate .activate s.body))), ?_, rfl, rfl, ?_⟩
  · unfold activateFirmware
    simp [hst, happ]
  · unfold rackSay setUpdate
    constructor <;> simp (disch := decide)

theorem activateFirmware_next : Runs (.activatefirmware false) s [.sent, .rack, .trust] (fun b =>
    b.trust = { s.body.trust with nextTrial := true } ∧ b.rack.update = .idle
      ∧ b.sent = .response "ACTIVATEFIRMWARE" [0, Config.rackWord 8 0] :: s.body.sent) := by
  obtain ⟨c, hc, hupd, hsent, hw⟩ := activateFirmware_eq hst happ false
  refine runs_rackOn hon (hc.trans rfl : activateFirmware false s.body = updTrust (fun t => { t with nextTrial := true }) c) ?_ ⟨?_, hupd, hsent⟩ rfl
  · exact (hw.only.mono (by decide)).trans (by simp)
  · exact congrArg (fun t : Trust => { t with nextTrial := true }) (hw.same (p := .trust) (by decide))

theorem activateFirmware_deferred (hno : standbySh s.body = none) : Runs (.activatefirmware true) s [.sent, .rack, .trust, .regs] (fun b =>
    b.trust = { s.body.trust with deferred := true } ∧ b.rack.update = .idle) := by
  obtain ⟨c, hc, hupd, -, hw⟩ := activateFirmware_eq hst happ true
  have hset : Within [.sent, .rack, .regs] [R.SHP_STATUS.handback_pending] s.body (setFlag c R.SHP_STATUS.handback_pending 0 false) := by
    refine (hw.mono (by decide) (by decide)).trans ?_
    constructor <;> simp (disch := decide)
  have hx : activateFirmware true s.body = updTrust (fun t => { t with deferred := true }) (setFlag c R.SHP_STATUS.handback_pending 0 false) := by
    rw [hc]
    unfold activate startTrial
    simp only [if_true, standbySh_eq hset (by decide) (by decide), hno]
  refine runs_rackOn hon hx ?_ ⟨?_, ?_⟩ rfl
  · exact (hset.only.mono (by decide)).trans (by simp)
  · exact congrArg (fun t : Trust => { t with deferred := true }) (hset.same (p := .trust) (by decide))
  · rw [show (updTrust (fun t => { t with deferred := true }) (setFlag c R.SHP_STATUS.handback_pending 0 false)).rack = c.rack by simp]
    exact hupd

theorem activateFirmware_trial (hsome : standbySh s.body ≠ none) : RunsS (.activatefirmware true) s (fun u => trialOn u.body = true
    ∧ getF u.body R.SHP_FW_SLOTS.trial_slot 0 = (1 - getF s.body R.SHP_FW_SLOTS.running_slot 0) % 2 ^ R.SHP_FW_SLOTS.trial_slot.width) := by
  obtain ⟨c, hc, -, -, hw⟩ := activateFirmware_eq hst happ true
  obtain ⟨d, hd⟩ : ∃ d, setFlag c R.SHP_STATUS.handback_pending 0 false = d := ⟨_, rfl⟩
  have hset : Within [.sent, .rack, .regs] [R.SHP_STATUS.handback_pending] s.body d := by
    rw [← hd]
    refine (hw.mono (by decide) (by decide)).trans ?_
    constructor <;> simp (disch := decide)
  obtain ⟨w, hsb⟩ := Option.ne_none_iff_exists'.1 hsome
  have hx : rackOn (activateFirmware true) s.body = startRestart w (beginTrial (stageSlot d) d) := by
    rw [rackOn, if_pos hon, hc]
    unfold activate startTrial
    simp only [if_true, hd, standbySh_eq hset (by decide) (by decide), hsb]
  have hr := startRestart_within w (beginTrial (stageSlot d) d)
  obtain ⟨htrial, hslot⟩ := beginTrial_shows (stageSlot d) d
  refine runsS_of_lift (f := rackOn (activateFirmware true)) rfl hx ⟨?_, ?_⟩
  · exact (hr.flagF_eq (by decide) (by decide) 0).trans htrial
  · refine (hr.getF_eq (by decide) (by decide) 0).trans (hslot.trans ?_)
    rw [stageSlot, hset.getF_eq (by decide) (by decide)]

end Activate

section Busy

variable {m : Nat} {t : Taken} (hbusy : s.body.rack.update ≠ .idle)
include hbusy

omit hon in
theorem fwBusy_of_update : fwBusy s.body = true := by simp [fwBusy, hbusy]

omit hon in
theorem fwActivate_busy {now : Bool} {c : Instr} (h : Asked m 0x0802 t s.body) {sel : List Byte → Bool} (hs : sel t.body = true)
    (hx : Sys2Proof.Machine.exec c s = onUnitS (isMailbox m) (commandB m 0x0802 sel (fwActivate now)) s) :
    RunsS c s (fun u => Refused m t 1 none 5 u.body ∧ u.body.rack = s.body.rack ∧ u.body.trust = s.body.trust) := by
  obtain ⟨b, hb, ho, hr⟩ := runs_refused h hs hx (if_pos (fwBusy_of_update hbusy))
  exact ⟨_, hb, rfl, hr, (ho .rack).resolve_left (by decide), (ho .trust).resolve_left (by decide)⟩

omit hon in
theorem fwStage_busy (h : Asked m 0x0801 t s.body) : RunsS (.fwStage m) s (fun u => Refused m t 1 none 5 u.body ∧ u.body.rack = s.body.rack
    ∧ u.body.trust = s.body.trust) := by
  obtain ⟨hm, ht, -, hq, -⟩ := id h
  obtain ⟨c, hc⟩ : ∃ c, fwEvent 1 (stageSlot s.body) s.body = c := ⟨_, rfl⟩
  have hw : Within [.logbook, .regs, .host, .sent] [R.IRQ_CAUSE.cause] s.body c := hc ▸ fwEvent_within 1 (stageSlot s.body) s.body
  have htc : (mbx c m).taken = some t := by
    rw [← hc, fwEvent, raiseVec_mbx, (logRec_within _ _ s.body).mbx_eq (by decide)]
    exact ht
  have hx : Sys2Proof.Machine.exec (.fwStage m) s = .next { s with body := refuse m 1 none 5 c } := by
    show onUnitS (isMailbox m) (command m 0x0801 anyAction fwStage) s = _
    unfold onUnitS command
    rw [if_pos (isMailbox_of_lt hm), inExecution_of_asked h rfl]
    simp only [fwStage, fwBusy_of_update hbusy, if_true, onBody, hc]
    rfl
  obtain ⟨ha, ho, -⟩ := answer_shows hm htc hq 1 (leBytes 4 ((none : Option Nat).getD 0xFFFFFFFF) ++ leBytes 4 5)
  refine ⟨_, hx, rfl, ha, ?_, ?_⟩
  · exact ((ho .rack).resolve_left (by decide)).trans (hw.same (p := .rack) (by decide))
  · exact ((ho .trust).resolve_left (by decide)).trans (hw.same (p := .trust) (by decide))

end Busy

end Rack

/-- Settles O59: each request of the rack by its answer and what it leaves in the endpoint, and that none has an effect while no Shepherd is
active. -/
theorem rackRequests : Obligations.RackRequests := by
  intro s b0 r0 on told same v run enters idle
  refine ⟨?off, ?i3c, ?mctp, ?monitor, ?update⟩
  case off =>
    intro hoff a a' bs fl c hc
    simp only [List.mem_cons, List.not_mem_nil, or_false] at hc
    rcases hc with rfl | rfl | rfl | rfl | rfl | rfl | rfl | rfl | rfl | rfl | rfl | rfl | rfl | rfl | rfl | rfl | rfl | rfl | rfl | rfl | rfl
      | rfl | rfl | rfl | rfl | rfl | rfl | rfl <;> exact runs_rackOff hoff rfl
  case i3c =>
    intro a n
    refine ⟨fun hi hfree => ⟨entdaa_takes hi hfree, setdasa_takes hi hfree⟩, fun h => ?_, fun ha => ?_⟩
    · have hno : ¬ (i3cOn s.body = true ∧ s.body.rack.i3c.isNone = true) := by
        rintro ⟨h1, h2⟩
        rcases h with h | h
        · exact Bool.false_ne_true (h.symm.trans h1)
        · rw [Option.isNone_iff_eq_none.1 h2] at h
          cases h
      exact ⟨runs_same (f := i3cEntdaa n) rfl (if_neg hno), runs_same (f := i3cSetdasa a n) rfl (if_neg fun h => hno ⟨h.1, h.2.2⟩)⟩
    · exact runs_same (f := i3cSetdasa a n) rfl (if_neg fun h => ha h.2.1)
  case mctp =>
    intro hon
    refine ⟨fun ch req => ⟨fun h => ?_, fun h hst => ?_, mailboxExchange_rings hon⟩, fun op e => ⟨fun h1 h2 h3 => ?_, fun h => ?_⟩, ?_, ?_, fun ty => ?_,
      ?_⟩
    · exact runs_said hon rfl (if_pos h)
    · exact runs_said hon rfl ((if_neg (Nat.not_lt.2 h)).trans (if_pos hst))
    · exact runs_told (f := setEndpointId op e) hon rfl (fun r => { r with eid := e }) (if_pos ⟨h1, decide_eq_true ⟨h2, h3⟩⟩)
    · refine runs_said hon rfl (if_neg ?_)
      rintro ⟨h1, h2⟩
      have := of_decide_eq_true h2
      omega
    · exact runs_said hon rfl rfl
    · exact runs_said hon rfl rfl
    · exact runs_said hon rfl rfl
    · exact runs_said hon rfl rfl
  case monitor =>
    intro hon
    refine ⟨?_, ?_, fun n => ⟨fun h1 h2 => ?_, fun h => ?_, fun h => ?_, fun w h => ?_⟩, ?_, ?_, fun h => ⟨fun h1 => ?_, fun h1 => ?_, fun h1 h2 => ?_⟩,
      fun id => ⟨fun h1 h2 => ?_, fun h => ?_, fun h1 h2 => ?_, fun h => ?_, fun h => ?_, fun h => ⟨fun c e => ?_, ?_⟩⟩,
      fun en e => ⟨fun h => ?_, fun h h1 h2 => ?_, fun h h1 => ?_, fun h => ?_⟩, ?_⟩
    · exact runs_said hon rfl rfl
    · exact runs_said hon rfl rfl
    · exact runs_told (f := setTid n) hon rfl (fun r => { r with tid := n }) (if_neg (by omega))
    · exact runs_said hon rfl (if_pos h)
    · have hnone : pldmVersion n = none := by
        simp only [List.mem_cons, List.not_mem_nil, or_false, not_or] at h
        simp [pldmVersion, h]
      exact ⟨runs_said hon rfl (by simp only [getPldmVersion, hnone]), runs_said hon rfl (by simp only [getPldmCommands, hnone]; rfl)⟩
    · exact ⟨runs_said hon rfl (by simp only [getPldmVersion, h]), runs_said hon rfl (by simp only [getPldmCommands, h]; rfl)⟩
    · exact runs_said hon rfl rfl
    · exact runs_said hon rfl rfl
    · refine runs_said hon rfl ?_
      have h0 : h ≠ 0 := by omega
      simp only [getPdr, if_neg h0, if_neg (Nat.not_le.2 h1)]
    · refine runs_said hon rfl ?_
      subst h1
      rfl
    · refine runs_said hon rfl ?_
      have h0 : h ≠ 0 := by omega
      have h11 : h ≠ 11 := by omega
      simp only [getPdr, if_neg h0, if_neg h11, if_pos (Nat.le_of_lt h2)]
    · exact runs_said hon rfl (congrArg (rackSay _ · s.body) (if_pos ⟨h1, h2⟩))
    · have hno : ¬ (1 ≤ id ∧ id ≤ 8) := by omega
      exact runs_said hon rfl (by simp only [getSensorReading, if_neg hno])
    · exact runs_said hon rfl (congrArg (rackSay _ · s.body) (if_pos ⟨h1, h2⟩))
    · have hno : ¬ (9 ≤ id ∧ id ≤ 11) := by omega
      exact runs_said hon rfl (by simp only [getStateSensor, if_neg hno])
    · refine runs_same (f := rackOn (holdoffEnd id)) rfl ?_
      have h' : (sensor s.body id).holding = false := h
      simp [rackOn, holdoffEnd, h']
    · exact pldmEventHoldoff_sends hon h
    · exact pldmEventHoldoff_ends hon h
    · exact runs_told (f := setReceiver en e) hon rfl (fun r => { r with receiver := none, events := 0 }) (if_pos h)
    · exact runs_told (f := setReceiver en e) hon rfl (fun r => { r with receiver := some e }) ((if_neg (by omega)).trans (if_pos ⟨h, decide_eq_true ⟨h1, h2⟩⟩))
    · refine runs_said hon rfl ?_
      have hno : ¬ (en = 1 ∧ eidOk e = true) := fun h2 => by
        have := of_decide_eq_true h2.2
        omega
      simp only [setReceiver, if_neg (show ¬ en = 0 by omega), if_neg hno, if_pos h]
    · refine runs_said hon rfl ?_
      simp only [setReceiver, if_neg (show ¬ en = 0 by omega), if_neg (show ¬ (en = 1 ∧ eidOk e = true) by omega), if_neg (show ¬ en = 1 by omega)]
    · exact runs_rackOn hon rfl (by simp [eventAck]) rfl rfl
  case update =>
    intro hon
    refine ⟨?_, ?_, ?_, ⟨fun h => ?_, fun h hs => ?_, fun m t h => ⟨fun ha => ?_, fun ha h0 => ?_, fun ha h1 => ?_⟩, fun h hs => ?_⟩,
      fun comp size => ⟨fun h => ⟨?_, ?_⟩, fun h h1 => ?_, fun h h1 => ?_, fun h h1 => ?_, fun h h1 => ?_, fun h h1 => ?_, fun h h1 h2 h3 => ?_⟩,
      fun data => ⟨fun h => ?_, fun h h1 => ?_, fun h h1 h2 => ?_, fun h h1 h2 => ?_⟩, fun self => ⟨fun h => ?_, fun h h1 => ?_, fun h h1 => ?_⟩,
      fun h h1 => ⟨?_, fun h2 => ?_, fun h2 => ?_⟩, fun h => ⟨?_, ?_⟩, fun h => ?_, fun h => ?_, fun h h1 h2 => ?_⟩
    · exact runs_said hon rfl rfl
    · exact runs_said hon rfl rfl
    · exact runs_said hon rfl rfl
    · exact runs_said hon rfl (if_pos h)
    · exact runs_said hon rfl ((if_neg (not_not.2 h)).trans (if_pos hs))
    · exact fwStage_busy h ha
    · exact fwActivate_busy h ha (sel := actionIs 0 0) (beq_iff_eq.2 h0) rfl
    · exact fwActivate_busy h ha (sel := actionIs 0 1) (beq_iff_eq.2 h1) rfl
    · exact runs_told (f := requestUpdate) hon rfl (fun r => { r with updateWas := r.update, update := .learn }) ((if_neg (not_not.2 h)).trans (if_neg hs))
    · exact runs_said hon rfl (if_pos h)
    · exact runs_said hon rfl (if_pos h)
    · exact runs_said hon rfl ((if_neg h).trans (if_pos h1))
    · refine runs_told hon rfl (fun r => { r with updateWas := r.update, update := .ready }) ?_
      have h' : s.body.rack.update = .learn := h
      simp [passTable, h', h1, component, setUpdate]
    · refine runs_said hon rfl ?_
      have h' : s.body.rack.update = .learn := h
      simp [passTable, h', h1, component]
    · exact runs_said hon rfl ((if_neg h).trans (if_pos h1))
    · refine runs_said hon rfl ?_
      have h' : s.body.rack.update = .ready := h
      have h2 : comp ≠ component ∨ size = 0 ∨ slotBytes < size := h1
      simp only [updateComponent, h', reduceCtorEq, if_false, ne_eq, not_true, if_pos h2]
    · have h' : s.body.rack.update = .ready := h
      have h4 : ¬ (comp ≠ component ∨ size = 0 ∨ slotBytes < size) := by
        simp only [component, slotBytes]
        omega
      have hx : updateComponent comp size s.body = rackSay "REQUEST_FIRMWARE_DATA" [0, 512] (updRack (fun r =>
          { r with size := size, image := [], applied := false }) (rackSay "UPDATECOMPONENT" [0, 0, 0] (setUpdate .download s.body))) := by
        simp only [updateComponent, h', reduceCtorEq, if_false, ne_eq, not_true, if_neg h4]
      exact runs_rackOn hon hx (by simp [rackSay, setUpdate]) ⟨rfl, rfl⟩ rfl
    · refine runs_same (f := rackOn (firmwareData data)) rfl ?_
      have : firmwareData data s.body = s.body := if_pos h
      simp only [rackOn, this, ite_self]
    · exact firmwareData_goesOn hon rfl h h1
    · exact firmwareData_fails hon rfl h h1 h2
    · exact firmwareData_applies hon rfl h h1 h2
    · exact runs_said hon rfl (if_pos h)
    · exact runs_said hon rfl ((if_neg h).trans (if_pos h1))
    · refine runs_said hon rfl ?_
      have h' : s.body.rack.update = .ready := h
      have h2 : s.body.rack.applied = false := h1
      simp [activateFirmware, h', h2]
    · exact activateFirmware_next hon h h1
    · exact activateFirmware_deferred hon h h1 h2
    · exact activateFirmware_trial hon h h1 h2
    · exact runs_said hon rfl (if_pos h)
    · refine runs_said hon rfl ?_
      have h' : s.body.rack.update = .idle := h
      simp only [cancelComponent, h']
    · exact runs_told (f := cancelUpdate) hon rfl (fun r => { r with updateWas := r.update, update := .idle, image := [], applied := false }) (if_neg h)
    · refine runs_said hon rfl ?_
      rcases h with h | h
      · have h' : s.body.rack.update = .learn := h
        simp only [cancelComponent, h']
      · have h' : s.body.rack.update = .ready := h
        simp only [cancelComponent, h']
    · refine runs_told hon rfl (fun r => { r with updateWas := r.update, update := .ready, image := [] }) ?_
      unfold cancelComponent
      split
      next h3 => exact absurd h3 h
      next h3 => exact absurd h3 h1
      next h3 => exact absurd h3 h2
      next => rfl

end Sys2Proof.Machine

/-! The cell monitors (O50). -/

namespace Sys2Proof.Machine

section CellMonitor

variable {k : Nat} {s : State} {b c : Body}

/-! ## A monitor and the others -/

theorem mon_updMon_same (k : Nat) (f : Monitor → Monitor) (b : Body) : mon (updMon k f b) k = f (mon b k) := by
  simp [mon, updMon]

theorem mon_updMon_ne {j : Nat} (h : j ≠ k) (f : Monitor → Monitor) (b : Body) : mon (updMon k f b) j = mon b j := by
  simp only [mon, updMon]
  exact SMap.get_put_ne _ _ _ _ _ _ h

/-- Monitor `k` has become `x`; the other monitors and the master are as before. -/
structure Becomes (k : Nat) (x : Monitor) (b c : Body) : Prop where
  only : Only [.cells] b c
  self : mon c k = x
  ring : c.cells.ring = b.cells.ring
  others : ∀ j, j ≠ k → mon c j = mon b j

theorem becomes_updMon {f : Monitor → Monitor} {x : Monitor} (hx : f (mon b k) = x) : Becomes k x b (updMon k f b) :=
  ⟨by simp, (mon_updMon_same k f b).trans hx, rfl, fun _ hj => mon_updMon_ne hj f b⟩

theorem becomes_refl (k : Nat) (b : Body) : Becomes k (mon b k) b b := ⟨Only.refl _ _, rfl, rfl, fun _ _ => rfl⟩

theorem Becomes.updMon {x y : Monitor} (h : Becomes k x b c) {f : Monitor → Monitor} (hy : f x = y) : Becomes k y b (updMon k f c) :=
  ⟨h.only.trans (by simp), (mon_updMon_same k f c).trans ((congrArg f h.self).trans hy), h.ring, fun j hj => (mon_updMon_ne hj f c).trans (h.others j hj)⟩

/-- A command of a monitor by what it makes of it. -/
theorem runs_becomes {i : Instr} {f : Body → Body} {x : Monitor} (hk : k < 4) (hx : Sys2Proof.Machine.exec i s = onUnit (isMon k) f s)
    (h : Becomes k x s.body (f s.body)) : Runs i s [.cells] (fun b => mon b k = x ∧ b.cells.ring = s.body.cells.ring
      ∧ ∀ j, j ≠ k → j < 4 → mon b j = mon s.body j) :=
  runs_of_lift (hx.trans (lift_of_onUnit (decide_eq_true hk))) rfl h.only ⟨h.self, h.ring, fun j hj _ => h.others j hj⟩

/-! ## The receipt of a frame (R455, R457, R459) -/

section Receipt

variable {bs : List Nat} {act : RingFrame → Body → Body}

/-- A frame that wakes a monitor is not acted on. -/
theorem monIn_wakes (h : (mon b k).awake = false) :
    Becomes k { mon b k with awake := true, strap := (mon b k).pins } b (monIn k bs act b) := by
  have hx : monIn k bs act b = updMon k (fun m => { m with awake := true, strap := m.pins }) b := by simp [monIn, h]
  rw [hx]
  exact becomes_updMon rfl

theorem monIn_discards (h : (mon b k).awake = true) (hf : ringFrame bs = none) : Becomes k (mon b k) b (monIn k bs act b) := by
  have hx : monIn k bs act b = b := by
    unfold monIn
    simp only [h, Bool.not_true, Bool.false_eq_true, if_false, hf]
  rw [hx]
  exact becomes_refl k b

variable {f : RingFrame} (h : (mon b k).awake = true) (hf : ringFrame bs = some f)
include h hf

/-- A sound frame to all in order is noted and acted on. -/
theorem monIn_all (haddr : f.addr = 7) (hord : ∀ l, (mon b k).rxAll = some l → aliveCheck 4 l f.alive = .inOrder) :
    monIn k bs act b = act f (updMon k (fun m => { m with rxAll := some f.alive }) b) := by
  unfold monIn
  simp only [h, Bool.not_true, Bool.false_eq_true, if_false, hf, haddr, ne_eq, not_true, false_and, if_true]
  cases hl : (mon b k).rxAll with
  | none => simp only []
  | some l => simp only [hord l hl]

theorem monIn_repeated {l : Nat} (haddr : f.addr = 7) (hl : (mon b k).rxAll = some l) (hrep : aliveCheck 4 l f.alive = .repeated) :
    Becomes k { mon b k with rxAll := some f.alive } b (monIn k bs act b) := by
  have hx : monIn k bs act b = updMon k (fun m => { m with rxAll := some f.alive }) b := by
    unfold monIn
    simp only [h, Bool.not_true, Bool.false_eq_true, if_false, hf, haddr, ne_eq, not_true, false_and, if_true, hl, hrep]
  rw [hx]
  exact becomes_updMon rfl

/-- The first frame to the monitor itself is noted and acted on. -/
theorem monIn_own (haddr : f.addr = (mon b k).strap) (hne : f.addr ≠ 7) (hfirst : (mon b k).rxOwn = none) :
    monIn k bs act b = act f (updMon k (fun m => { m with rxOwn := some f.alive }) b) := by
  have hmine : ¬ (f.addr ≠ 7 ∧ f.addr ≠ (mon b k).strap) := fun hn => hn.2 haddr
  unfold monIn
  simp only [h, Bool.not_true, Bool.false_eq_true, if_false, hf, if_neg hmine, if_neg hne, hfirst]

end Receipt

/-! ## Frames in order (R458, R462, R470, R471) -/

section InOrder

variable {bs : List Nat} {dir : Bool} {f : RingFrame} (hk : k < 4) (h : (mon s.body k).awake = true) (hf : ringFrame bs = some f)
  (haddr : f.addr = 7) (hord : ∀ l, (mon s.body k).rxAll = some l → aliveCheck 4 l f.alive = .inOrder)
include h hf haddr hord

theorem cmConvert_opens (hty : f.ftype = 2) (hnew : (mon s.body k).used ≠ f.payload[0]?) :
    Becomes k { mon s.body k with rxAll := some f.alive, used := f.payload[0]?, viaReverse := dir, converted := false, inWindow := true, switches := 0, heldMask := none }
      s.body (cmConvert k bs dir s.body) := by
  have hm : (mon (updMon k (fun m => { m with rxAll := some f.alive }) s.body) k).used ≠ f.payload[0]? := by
    rw [mon_updMon_same]
    exact hnew
  have hno : ¬ (f.ftype ≠ 2 ∨ (mon (updMon k (fun m => { m with rxAll := some f.alive }) s.body) k).used = f.payload[0]?) := by
    simp [hty, hm]
  unfold cmConvert
  rw [monIn_all h hf haddr hord]
  simp only [if_neg hno]
  exact (becomes_updMon rfl).updMon rfl

theorem cmConvert_again (hold : (mon s.body k).used = f.payload[0]?) :
    Becomes k { mon s.body k with rxAll := some f.alive } s.body (cmConvert k bs dir s.body) := by
  have hm : (mon (updMon k (fun m => { m with rxAll := some f.alive }) s.body) k).used = f.payload[0]? := by
    rw [mon_updMon_same]
    exact hold
  unfold cmConvert
  rw [monIn_all h hf haddr hord]
  simp only [if_pos (show f.ftype ≠ 2 ∨ _ from .inr hm)]
  exact becomes_updMon rfl

section Balance

variable (hty : f.ftype = 5) (hused : (mon s.body k).used = f.payload[4]?)
include hty hused

/-- A BALANCE of the sweep in hand takes effect at once or after the window, if its mask is allowed. -/
theorem cmBalance_eq : ∃ c, Becomes k { mon s.body k with rxAll := some f.alive } s.body c ∧ cmBalance k bs s.body
    = (if maskAllowed (f.payload.getD 4 0) (f.payload.getD (mon s.body k).strap 0) = false then c
      else if (mon s.body k).inWindow = true then updMon k (fun m => { m with heldMask := some (f.payload.getD (mon s.body k).strap 0) }) c
      else updMon k (fun m => { m with switches := f.payload.getD (mon s.body k).strap 0 }) c) := by
  refine ⟨updMon k (fun m => { m with rxAll := some f.alive }) s.body, becomes_updMon rfl, ?_⟩
  unfold cmBalance
  rw [monIn_all h hf haddr hord]
  simp only [mon_updMon_same, hty, hused, ne_eq, not_true, false_or, Bool.not_eq_true']

theorem cmBalance_holds (hok : maskAllowed (f.payload.getD 4 0) (f.payload.getD (mon s.body k).strap 0) = true)
    (hw : (mon s.body k).inWindow = true) : Becomes k { mon s.body k with rxAll := some f.alive, heldMask := some (f.payload.getD (mon s.body k).strap 0) }
      s.body (cmBalance k bs s.body) := by
  obtain ⟨c, hc, hx⟩ := cmBalance_eq h hf haddr hord hty hused
  rw [hx, if_neg (fun hn => Bool.false_ne_true (hn.symm.trans hok)), if_pos hw]
  exact hc.updMon rfl

theorem cmBalance_switches (hok : maskAllowed (f.payload.getD 4 0) (f.payload.getD (mon s.body k).strap 0) = true)
    (hw : (mon s.body k).inWindow = false) : Becomes k { mon s.body k with rxAll := some f.alive, switches := f.payload.getD (mon s.body k).strap 0 }
      s.body (cmBalance k bs s.body) := by
  obtain ⟨c, hc, hx⟩ := cmBalance_eq h hf haddr hord hty hused
  rw [hx, if_neg (fun hn => Bool.false_ne_true (hn.symm.trans hok)), if_neg (fun hn => Bool.false_ne_true (hw.symm.trans hn))]
  exact hc.updMon rfl

theorem cmBalance_refuses (hbad : maskAllowed (f.payload.getD 4 0) (f.payload.getD (mon s.body k).strap 0) = false) :
    Becomes k { mon s.body k with rxAll := some f.alive } s.body (cmBalance k bs s.body) := by
  obtain ⟨c, hc, hx⟩ := cmBalance_eq h hf haddr hord hty hused
  rw [hx, if_pos hbad]
  exact hc

end Balance

include hk in
theorem cmEnum_passes (hty : f.ftype = 1) : Runs (.cmEnum k bs dir) s [.cells, .sent] (fun b => mon b k = { mon s.body k with rxAll := some f.alive }
    ∧ b.sent = .ring (cond dir 0 1) "ENUM" (ringBytes 1 7 f.back f.alive ((f.payload.set (1 + f.payload.getD 0 0)
      ((mon s.body k).strap % 4 + 4 + cond (mon s.body k).sample.ok 8 0)).set 0 (f.payload.getD 0 0 + 1))) :: s.body.sent) := by
  obtain ⟨c, hc⟩ : ∃ c, updMon k (fun m => { m with rxAll := some f.alive }) s.body = c := ⟨_, rfl⟩
  have hm : mon c k = { mon s.body k with rxAll := some f.alive } := hc ▸ mon_updMon_same k _ s.body
  have hx : cmEnum k bs dir s.body = emit (.ring (cond dir 0 1) "ENUM" (ringBytes 1 7 f.back f.alive ((f.payload.set (1 + f.payload.getD 0 0)
      ((mon s.body k).strap % 4 + 4 + cond (mon s.body k).sample.ok 8 0)).set 0 (f.payload.getD 0 0 + 1)))) c := by
    unfold cmEnum
    rw [monIn_all h hf haddr hord, hc]
    simp only [hty, ne_eq, not_true, if_false, hm]
  refine runs_of_lift (f := cmEnum k bs dir) (lift_of_onUnit (decide_eq_true hk)) hx ?_ ⟨hm, ?_⟩
  · rw [← hc]
    simp
  · rw [← hc]
    rfl

end InOrder

theorem cmRead_answers {bs : List Nat} {dir : Bool} {f : RingFrame} (hk : k < 4) (h : (mon s.body k).awake = true) (hf : ringFrame bs = some f)
    (hty : f.ftype = 3) (haddr : f.addr = (mon s.body k).strap) (hne : f.addr ≠ 7) (hfirst : (mon s.body k).rxOwn = none) :
    Runs (.cmRead k bs dir) s [.cells, .sent] (fun b => mon b k = { mon s.body k with rxOwn := some f.alive, tx := ((mon s.body k).tx + 1) % 16 }
      ∧ b.sent = .ring (cond (dir == f.back) 1 0) "DATA" (ringBytes 4 4 false (((mon s.body k).tx + 1) % 16) (cmData (mon s.body k)))
        :: s.body.sent) := by
  obtain ⟨c, hc⟩ : ∃ c, updMon k (fun m => { m with rxOwn := some f.alive }) s.body = c := ⟨_, rfl⟩
  have hm : mon c k = { mon s.body k with rxOwn := some f.alive } := hc ▸ mon_updMon_same k _ s.body
  have hx : cmRead k bs dir s.body = emit (.ring (cond (dir == f.back) 1 0) "DATA" (ringBytes 4 4 false (((mon s.body k).tx + 1) % 16)
      (cmData (mon s.body k)))) (updMon k (fun m => { m with tx := ((mon s.body k).tx + 1) % 16 }) c) := by
    have hdata : cmData { mon s.body k with rxOwn := some f.alive } = cmData (mon s.body k) := rfl
    unfold cmRead
    rw [monIn_own h hf haddr hne hfirst, hc]
    simp only [hty, if_true, monSend, hm, hdata]
  refine runs_of_lift (f := cmRead k bs dir) (lift_of_onUnit (decide_eq_true hk)) hx ?_ ⟨?_, ?_⟩
  · rw [← hc]
    simp
  · have hself : mon (updMon k (fun m => { m with tx := ((mon s.body k).tx + 1) % 16 }) c) k = { mon c k with tx := ((mon s.body k).tx + 1) % 16 } :=
      mon_updMon_same k _ c
    exact hself.trans (by rw [hm])
  · rw [← hc]
    rfl

/-! ## Alerts and straps (R454, R481) -/

/-- An alert goes out on both sides, with the next two alive values. -/
theorem cmAlert_shows (k x cell : Nat) (b : Body) : Only [.cells, .sent] b (cmAlert k x cell b)
    ∧ mon (cmAlert k x cell b) k = { mon b k with alert := true, tx := (((mon b k).tx + 1) % 16 + 1) % 16 }
    ∧ (cmAlert k x cell b).cells.ring = b.cells.ring
    ∧ (cmAlert k x cell b).sent = .ring 1 "ALERT" (ringBytes 6 4 false ((((mon b k).tx + 1) % 16 + 1) % 16) [x, cell, 0, 0])
        :: .ring 0 "ALERT" (ringBytes 6 4 false (((mon b k).tx + 1) % 16) [x, cell, 0, 0]) :: b.sent := by
  have hmon : ∀ (m : Sent) (c : Body), mon (emit m c) k = mon c k := fun _ _ => rfl
  unfold cmAlert monSend
  simp only [hmon, mon_updMon_same]
  exact ⟨by simp, trivial, rfl, rfl⟩

theorem cmStrapChange_asleep {pins : Nat} (h : (mon s.body k).awake = false ∨ (mon s.body k).strap = pins % 4) :
    Becomes k { mon s.body k with pins := pins % 4 } s.body (strapChange k pins s.body) := by
  have hno : ¬ ((mon s.body k).awake = true ∧ (mon s.body k).strap ≠ pins % 4) := by
    rintro ⟨h1, h2⟩
    rcases h with h | h
    · exact Bool.false_ne_true (h.symm.trans h1)
    · exact h2 h
  unfold strapChange
  simp only [mon_updMon_same, if_neg hno]
  exact becomes_updMon rfl

theorem cmStrapChange_alerts {pins : Nat} (hk : k < 4) (h : (mon s.body k).awake = true) (hne : (mon s.body k).strap ≠ pins % 4)
    (hoff : s.body.cells.ring.evaluating = false) : Runs (.cmStrapChange k pins) s [.cells, .sent] (fun b =>
      (mon b k).strap = pins % 4 ∧ (mon b k).pins = pins % 4 ∧ (mon b k).alert = true) := by
  obtain ⟨c, hc⟩ : ∃ c, updMon k (fun m => { m with strap := pins % 4 }) (updMon k (fun m => { m with pins := pins % 4 }) s.body) = c := ⟨_, rfl⟩
  have hb : Becomes k { mon s.body k with pins := pins % 4, strap := pins % 4 } s.body c := hc ▸ (becomes_updMon (k := k) (b := s.body) rfl).updMon rfl
  obtain ⟨ho, hm, hring, -⟩ := cmAlert_shows k 8 0 c
  have hx : strapChange k pins s.body = cmAlert k 8 0 c := by
    have hev : (cmAlert k 8 0 c).cells.ring.evaluating = false := by
      rw [hring, hb.ring]
      exact hoff
    unfold strapChange
    simp only [mon_updMon_same, if_pos (And.intro h hne), hc, monitorFault, hev, Bool.false_eq_true, if_false]
  rw [hb.self] at hm
  exact runs_of_lift (f := strapChange k pins) (lift_of_onUnit (decide_eq_true hk)) hx ((hb.only.mono (by decide)).trans ho)
    ⟨congrArg Monitor.strap hm, congrArg Monitor.pins hm, congrArg Monitor.alert hm⟩

/-- What changes a monitor only in its conversion window. -/
theorem becomes_inWindow {f : Monitor → Monitor} {x : Monitor} (hx : f (mon b k) = x) : Becomes k (if (mon b k).inWindow then x else mon b k) b
    (if (mon b k).inWindow then updMon k f b else b) := by
  split
  · exact becomes_updMon hx
  · exact becomes_refl k b

end CellMonitor

/-- Settles O50: the receipt of a frame by its cases, each kind of frame in order, the conversion window, and what reaches a monitor
besides. -/
theorem cellMonitors : Obligations.CellMonitors := by
  intro k bs dir s hk b0 m becomes frames
  refine ⟨?wake, ?discard, ?order, ?repeated, ?read, ?window, ?windowEnd, ?limit, ?strap, ?strapAlert, ?sleep, ?silence, ?reset⟩
  case wake =>
    intro h c hc
    simp only [frames, List.mem_cons, List.not_mem_nil, or_false] at hc
    rcases hc with rfl | rfl | rfl | rfl <;> exact runs_becomes hk rfl (monIn_wakes h)
  case discard =>
    intro h hf c hc
    simp only [frames, List.mem_cons, List.not_mem_nil, or_false] at hc
    rcases hc with rfl | rfl | rfl | rfl <;> exact runs_becomes hk rfl (monIn_discards h hf)
  case order =>
    intro f h hf haddr hord
    refine ⟨fun hty hnew => ?_, fun _ hold => ?_, fun hty hused => ⟨fun hok hw => ?_, fun hok hw => ?_, fun hbad => ?_⟩, fun hty => ?_⟩
    · exact runs_becomes hk rfl (cmConvert_opens h hf haddr hord hty hnew)
    · exact runs_becomes hk rfl (cmConvert_again h hf haddr hord hold)
    · exact runs_becomes hk rfl (cmBalance_holds h hf haddr hord hty hused hok hw)
    · exact runs_becomes hk rfl (cmBalance_switches h hf haddr hord hty hused hok hw)
    · exact runs_becomes hk rfl (cmBalance_refuses h hf haddr hord hty hused hbad)
    · exact cmEnum_passes hk h hf haddr hord hty
  case repeated =>
    intro f l h hf haddr hl hrep c hc
    simp only [frames, List.mem_cons, List.not_mem_nil, or_false] at hc
    rcases hc with rfl | rfl | rfl | rfl <;> exact runs_becomes hk rfl (monIn_repeated h hf haddr hl hrep)
  case read => exact fun f h hf hty haddr hne hfirst => cmRead_answers hk h hf hty haddr hne hfirst
  case window => exact fun x => runs_becomes hk rfl (becomes_inWindow rfl)
  case windowEnd => exact runs_becomes hk rfl (becomes_inWindow rfl)
  case limit =>
    intro cell above p
    obtain ⟨ho, hm, -, hsent⟩ := cmAlert_shows k (cond above 1 2) (cell % 8) s.body
    exact runs_of_lift (f := cmAlert k (cond above 1 2) (cell % 8)) (lift_of_onUnit (decide_eq_true hk)) rfl ho ⟨congrArg Monitor.alert hm, hsent⟩
  case strap => exact fun pins h => runs_becomes hk rfl (cmStrapChange_asleep h)
  case strapAlert => exact fun pins h hne hoff => cmStrapChange_alerts hk h hne hoff
  case sleep => exact runs_becomes hk rfl (becomes_updMon rfl)
  case silence => exact runs_becomes hk rfl (becomes_updMon rfl)
  case reset => exact runs_becomes hk rfl (becomes_updMon rfl)

end Sys2Proof.Machine

/-! SUPPORT. The power path and the Cox engines (O45 to O49): what each of their actions leaves alone. -/

namespace Sys2Proof.Machine

/-- The fields that the actions of the power path and of the engines change beside those a command sets. -/
def steerFields : List Field :=
  [R.COX_LOOP_MANUAL.manual, R.COX_LOOP_INT.integ, R.COX_LOOP_MODE.mode, R.COX_LOOP_MODE.state, R.COX_LOOP_OUT.out, R.COX_PG_POS.x, R.COX_PG_VEL.v,
   R.COX_PG_ACC.a, R.COX_PG_PRESET.preset, R.COX_PG_CTRL.hold, R.COX_CLK_CEIL.force, R.COX_CLK_CEIL.applied, R.COX_SOFT_ILIM.ilim, R.LDG_STATUS.forced,
   R.LDG_STATUS.at_reserve, R.LDG_STATUS.window_lapses, R.STN_CLK_TARGET.target_code, R.STN_CLK_STATUS.current_code, R.STN_CLK_STATUS.min_eff_code,
   R.STN_SEG_CLK.target_code, R.STN_STATUS.stretching, R.MEM_STATUS.state, R.KLK_PORT_STATUS.level, R.KLK_PORT_STATUS.state, R.KLK_DIE_STATUS.switch_up,
   R.KLK_DIE_STATUS.isolated, R.TLY_STROKE_STATUS.state, R.TLY_STROKE_CTRL.enable, R.SHP_STARTUP.done, R.IRQ_CAUSE.cause, R.LGB_STATUS.lost,
   R.LGB_STATUS.clearing, R.LGB_STATUS.first_full, R.LGB_WIN_STATUS.state, R.STP_STATUS.aux_pos, R.STP_STATUS.aux_neg, R.STP_STATUS.chg_limit,
   R.STP_STATUS.dis_limit, R.STP_PACK_V.mv, R.STP_PACK_I.ma, R.STP_BREAKS.breaks, R.KLK_PORT_LOSS.cause, R.KLK_PORT_LOSS.count,
   R.KLK_ROUTE.lost, R.TLY_COMBINED.period_us, R.TLY_COMBINED_LATE.late_us, R.TLY_COMBINED_LATE.missing, R.TLY_NEXT_PERIOD.period_us,
   R.TLY_NEXT_PERIOD.armed, R.TLY_STROKE_STATUS.out_of_step] ++ pointFields ++ runFields ++ declareFields ++ logFields

/-- Going from `b` to `c`, the power path and the engines act: no other field, nor the power path itself, changes, and neither an interrupt
cause nor a step of start-up is taken back; the cell monitors and the ring master are as before. -/
structure Steers (b c : Body) : Prop where
  fields : FieldsBut steerFields b c
  path : c.cox.path = b.cox.path
  causes : ∀ v, v < 30 → bit (getF b R.IRQ_CAUSE.cause 0) v = true → bit (getF c R.IRQ_CAUSE.cause 0) v = true
  steps : ∀ n, n ≤ 10 → stepIsDone b n = true → stepIsDone c n = true
  cells : c.cells = b.cells

namespace Steers

variable {b c d : Body}

theorem refl (b : Body) : Steers b b := ⟨fun _ _ _ _ => rfl, rfl, fun _ _ => id, fun _ _ => id, rfl⟩

theorem trans (h : Steers b c) (k : Steers c d) : Steers b d :=
  ⟨fun f j hf hn => (k.fields f j hf hn).trans (h.fields f j hf hn), k.path.trans h.path, fun v hv => k.causes v hv ∘ h.causes v hv, fun n hn => k.steps n hn ∘ h.steps n hn,
    k.cells.trans h.cells⟩

theorem of_within {ps : List Part} {fs : List Field} (h : Within ps fs b c) (hp : Part.cox ∉ ps) (hf : fs ⊆ steerFields)
    (hi : R.IRQ_CAUSE.cause.idx ∉ fs.map Field.idx) (hd : R.SHP_STARTUP.done.idx ∉ fs.map Field.idx) (hc : Part.cells ∉ ps := by decide) : Steers b c where
  fields := (h.mono (List.Subset.refl _) hf).fields
  path := congrArg CoxSide.path (h.same (p := .cox) hp)
  causes v _ hv := by rwa [h.getF_eq (by decide) hi]
  steps n _ hn := by
    unfold stepIsDone at hn ⊢
    rwa [h.getF_eq (by decide) hd]
  cells := h.same (p := .cells) hc

theorem ite {P : Prop} [Decidable P] (h : Steers b c) (k : Steers b d) : Steers b (if P then c else d) := by
  split
  · exact h
  · exact k

theorem forEach {α : Type} {f : α → Body → Body} (h : ∀ x b, Steers b (f x b)) : ∀ (l : List α) (b : Body), Steers b (forEach l f b)
  | [], b => .refl b
  | x :: l, b => (h x b).trans (Steers.forEach h l (f x b))

theorem getF_eq (h : Steers b c) {f : Field} (hf : f.idx < 1024) (hn : f.idx ∉ steerFields.map Field.idx) (i : Nat) : getF c f i = getF b f i :=
  h.fields f i hf hn

theorem flagF_eq (h : Steers b c) {f : Field} (hf : f.idx < 1024) (hn : f.idx ∉ steerFields.map Field.idx) (i : Nat) : flagF c f i = flagF b f i :=
  congrArg (· == 1) (h.fields f i hf hn)

theorem power_eq (h : Steers b c) : power c = power b := h.fields R.GBL_STATUS.power_state 0 (by decide) (by decide)

theorem storage_eq (h : Steers b c) : getF c R.STP_STATUS.state 0 = getF b R.STP_STATUS.state 0 := h.fields R.STP_STATUS.state 0 (by decide) (by decide)

end Steers

section Actions

variable {b : Body}

theorem raiseVec_steers (v : Nat) (b : Body) : Steers b (raiseVec v b) := by
  have hw := raiseVec_within v b
  have hkeep : ∀ w, w < 30 → bit (getF b R.IRQ_CAUSE.cause 0) w = true → bit (getF (withCause v b) R.IRQ_CAUSE.cause 0) w = true := by
    intro w hlt hset
    rw [withCause, getF_setF_same, bit_mod_two_pow (n := R.IRQ_CAUSE.cause.width) _ hlt, bit_setBit]
    split
    · rfl
    · exact hset
  refine ⟨(hw.mono (List.Subset.refl _) (by decide)).fields, congrArg CoxSide.path (hw.same (p := .cox) (by decide)), fun w hlt hset => ?_, fun n _ hn => ?_,
    hw.same (p := .cells) (by decide)⟩
  · obtain ⟨-, h⟩ | h | h := raiseVec_cases v b <;> rw [h]
    · exact hset
    · exact hkeep w hlt hset
    · rw [getF_sendVector]
      exact hkeep w hlt hset
  · unfold stepIsDone at hn ⊢
    rwa [hw.getF_eq (by decide) (by decide)]

theorem stepDone_steers (n : Nat) (b : Body) : Steers b (stepDone n b) := by
  have hw : Within [.regs] [R.SHP_STARTUP.done] b (stepDone n b) := setF_within 0 _ b (by decide) (by decide) (by decide)
  refine ⟨(hw.mono (List.Subset.refl _) (by decide)).fields, rfl, fun w _ hset => ?_, fun k hk hset => ?_, rfl⟩
  · rwa [hw.getF_eq (by decide) (by decide)]
  · unfold stepIsDone at hset ⊢
    unfold stepDone
    rw [getF_setF_same, bit_mod_two_pow (n := R.SHP_STARTUP.done.width) _ (by show k - 1 < 10; omega), bit_setBit]
    split
    · rfl
    · exact hset

/-- A step that leaves the registers, the power path and the cells. -/
theorem steers_of_regs {c : Body} (h : c.regs = b.regs) (hp : c.cox.path = b.cox.path) (hc : c.cells = b.cells := by rfl) : Steers b c := by
  have hget : ∀ f i, getF c f i = getF b f i := fun f i => by
    unfold getF
    rw [h]
  refine ⟨fun f j _ _ => hget f j, hp, fun v _ hv => by rwa [hget], fun n _ hn => ?_, hc⟩
  unfold stepIsDone at hn ⊢
  rwa [hget]

theorem setF_steers {f : Field} (hm : f ∈ steerFields) (hlt : f.idx < 1024) (hi : R.IRQ_CAUSE.cause.idx ≠ f.idx) (hd : R.SHP_STARTUP.done.idx ≠ f.idx) (i v : Nat) (b : Body) :
    Steers b (setF b f i v) :=
  .of_within (setF_within (ps := [.regs]) (fs := [f]) i v b (by decide) (by simp) hlt) (by decide) (by simp [hm]) (by simp [hi]) (by simp [hd])

/-- A change of the power path after, as before, the actions. -/
theorem Steers.updPath {c : Body} (h : Steers b c) (f : PowerPath → PowerPath) : Steers (updPath f b) (updPath f c) :=
  ⟨h.fields, congrArg f h.path, h.causes, h.steps, h.cells⟩

theorem getF_setF_eq {f g : Field} (hf : f.idx < 1024) (hg : g.idx < 1024) (i j v : Nat) (b : Body) :
    getF (setF b f i v) g j = if g.idx = f.idx ∧ j = i then v % 2 ^ f.width else getF b g j := by
  split
  next h =>
    obtain ⟨hidx, rfl⟩ := h
    unfold getF setF
    rw [hidx]
    exact SMap.get_put_same _ _ _ _
  next h => exact getF_setF_ne _ _ _ _ _ _ fun hkey => h (by omega)

/-- A field that the actions leave alone is set after them as before. -/
theorem Steers.setF {c : Body} (h : Steers b c) {f : Field} (hf : f.idx < 1024) (hi : R.IRQ_CAUSE.cause.idx ≠ f.idx) (hd : R.SHP_STARTUP.done.idx ≠ f.idx) (i v : Nat) :
    Steers (setF b f i v) (setF c f i v) where
  fields g j hg hn := by
    rw [getF_setF_eq hf hg, getF_setF_eq hf hg, h.fields g j hg hn]
  path := h.path
  causes w hw hset := by
    rw [getF_setF_other _ _ hf (by decide) hi] at hset ⊢
    exact h.causes w hw hset
  steps n hn hset := by
    unfold stepIsDone at hset ⊢
    rw [getF_setF_other _ _ hf (by decide) hd] at hset ⊢
    exact h.steps n hn hset
  cells := h.cells

/-! ### The engines -/

theorem updLoop_steers (e l : Nat) (f : CoxLoop → CoxLoop) (b : Body) : Steers b (updLoop e l f b) := steers_of_regs rfl rfl

theorem updEngine_steers (e : Nat) (f : CoxEngine → CoxEngine) (b : Body) : Steers b (updEngine e f b) := steers_of_regs rfl rfl

theorem updLedger_steers (f : Ledger → Ledger) (b : Body) : Steers b (updLedger f b) := steers_of_regs rfl rfl

theorem loopStop_steers (e l : Nat) (b : Body) : Steers b (loopStop e l b) :=
  ((setF_steers (by decide) (by decide) (by decide) (by decide) _ _ b).trans (setF_steers (by decide) (by decide) (by decide) (by decide) _ _ _)).trans
    (setF_steers (by decide) (by decide) (by decide) (by decide) _ _ _)

theorem pgPut_within (e k x : Nat) (b : Body) : Within [.regs] [R.COX_PG_POS.x, R.COX_PG_VEL.v, R.COX_PG_ACC.a, R.COX_PG_CTRL.moving] b (pgPut e k x b) := by
  unfold pgPut
  constructor <;> simp (disch := decide)

theorem pgPut_steers (e k x : Nat) (b : Body) : Steers b (pgPut e k x b) := .of_within (pgPut_within e k x b) (by decide) (by decide) (by decide) (by decide)

theorem pgPreset_steers (e k x : Nat) (b : Body) : Steers b (pgPreset e k x b) :=
  (setF_steers (by decide) (by decide) (by decide) (by decide) _ _ b).trans (pgPut_steers e k x _)

theorem pgTarget_steers (e k x : Nat) (b : Body) : Steers b (pgTarget e k x b) := .of_within (pgTarget_within e k x b) (by decide) (by decide) (by decide) (by decide)

theorem pgOwner_steers (e k x : Nat) (b : Body) : Steers b (pgOwner e k x b) := .of_within (pgOwner_within e k x b) (by decide) (by decide) (by decide) (by decide)

theorem modes_steers (i m x : Nat) (b : Body) : Steers b (setF (setF b R.COX_LOOP_MODE.mode i m) R.COX_LOOP_MODE.state i x) :=
  (setF_steers (by decide) (by decide) (by decide) (by decide) _ _ b).trans (setF_steers (by decide) (by decide) (by decide) (by decide) _ _ _)

theorem loopModeWrite_steers (e l m : Nat) (b : Body) : Steers b (loopModeWrite e l m b) := by
  unfold loopModeWrite
  simp only []
  split
  · exact .refl b
  · have hmanual : ∀ (P : Prop) [Decidable P], Steers b (if P then setF b R.COX_LOOP_MANUAL.manual (lix e l) (getF b R.COX_LOOP_OUT.out (lix e l)) else b) :=
      fun P _ => .ite (setF_steers (by decide) (by decide) (by decide) (by decide) _ _ b) (.refl b)
    refine Steers.trans ?_ (modes_steers _ _ _ _)
    split
    · split
      · exact (hmanual _).trans (updLoop_steers _ _ _ _)
      · split
        · exact (hmanual _).trans (updLoop_steers _ _ _ _)
        · exact ((hmanual _).trans (updLoop_steers _ _ _ _)).trans (setF_steers (by decide) (by decide) (by decide) (by decide) _ _ _)
    · split
      · exact (hmanual _).trans (updLoop_steers _ _ _ _)
      · exact hmanual _

theorem softStart_steers (e k target v a j : Nat) (b : Body) : Steers b (softStart e k target v a j b) := by
  have hset : ∀ {f : Field}, f ∈ [R.COX_PG_VLIM.v, R.COX_PG_ALIM.a, R.COX_PG_JLIM.j, R.COX_PG_CTRL.hold] → ∀ i x c, Steers c (setF c f i x) := by
    intro f hf
    fin_cases hf <;> exact setF_steers (by decide) (by decide) (by decide) (by decide)
  unfold softStart
  simp only []
  refine Steers.trans (c := pgTarget _ _ _ _) ?_ (Steers.forEach (fun l c => loopModeWrite_steers _ _ _ c) _ _)
  refine Steers.trans (c := setFlag _ R.COX_PG_CTRL.hold _ false) ?_ ((pgPreset_steers _ _ _ _).trans (pgTarget_steers _ _ _ _))
  exact ((((pgOwner_steers e k 1 b).trans (hset (by simp) _ _ _)).trans (hset (by simp) _ _ _)).trans (hset (by simp) _ _ _)).trans (hset (by simp) _ _ _)

theorem whenB_steers {p : Bool} {f : Body → Body} (h : Steers b (f b)) : Steers b (whenB p f b) := by
  unfold whenB
  split
  · exact h
  · exact .refl b

theorem noteCode_steers (st : Nat) (b : Body) : Steers b (noteCode st b) := whenB_steers (setF_steers (by decide) (by decide) (by decide) (by decide) _ _ b)

theorem clkTarget_steers (isl : Island) (code : Nat) (b : Body) : Steers b (clkTarget isl code b) := by
  unfold clkTarget
  split
  · exact .refl b
  · split
    · exact ((noteCode_steers _ b).trans (setF_steers (by decide) (by decide) (by decide) (by decide) _ _ _)).trans
        (setF_steers (by decide) (by decide) (by decide) (by decide) _ _ _)
    · exact setF_steers (by decide) (by decide) (by decide) (by decide) _ _ b
    · exact .refl b

theorem applyClocks_steers (e st seg : Nat) (b : Body) : Steers b (applyClocks e st seg b) := by
  have happlied : Steers b (if getF b R.COX_CLK_CEIL.applied e = st then b
      else forEach (dieStations (setF b R.COX_CLK_CEIL.applied e st) e) (fun x b => clkTarget (.station x) st b) (setF b R.COX_CLK_CEIL.applied e st)) :=
    .ite (.refl b) ((setF_steers (by decide) (by decide) (by decide) (by decide) _ _ b).trans (Steers.forEach (fun x c => clkTarget_steers _ _ c) _ _))
  unfold applyClocks
  exact happlied.trans (.ite (.refl _) ((updEngine_steers _ _ _).trans (clkTarget_steers _ _ _)))

theorem clockTick_steers (e : Nat) (b : Body) : Steers b (clockTick e b) := by
  unfold clockTick
  split
  · exact .refl b
  · exact applyClocks_steers _ _ _ b

theorem ceilingsChanged_steers (e : Nat) (b : Body) : Steers b (ceilingsChanged e b) := by
  unfold ceilingsChanged
  split
  · exact .refl b
  · exact .ite ((pgPut_steers _ _ _ b).trans (pgPut_steers _ _ _ _)) (clockTick_steers e b)

theorem forceClocks_steers (b : Body) : Steers b (forceClocks b) := by
  refine Steers.trans (c := setFlag (setFlag b R.LDG_STATUS.forced 0 true) R.LDG_STATUS.at_reserve 0 true) ?_ (Steers.forEach (fun e c => ?_) _ _)
  · exact (setF_steers (by decide) (by decide) (by decide) (by decide) _ _ b).trans (setF_steers (by decide) (by decide) (by decide) (by decide) _ _ _)
  · exact (setF_steers (by decide) (by decide) (by decide) (by decide) _ _ c).trans (ceilingsChanged_steers e _)

theorem ledgerAbsent_steers (v : Bool) (b : Body) : Steers (setFlag b R.LDG_STATUS.absent 0 v) (ledgerAbsent v b) :=
  .ite (forceClocks_steers _) (.refl _)

theorem contractPreset_steers (b : Body) : Steers b (contractPreset b) := by
  have hset : ∀ {f : Field}, f ∈ [R.COX_PG_VLIM.v, R.COX_PG_ALIM.a, R.COX_PG_JLIM.j] → ∀ i x c, Steers c (setF c f i x) := by
    intro f hf
    fin_cases hf <;> exact setF_steers (by decide) (by decide) (by decide) (by decide)
  unfold contractPreset
  simp only []
  refine Steers.trans (c := contractLimits _) ?_ (pgTarget_steers _ _ _ _)
  unfold contractLimits
  exact (((pgPreset_steers _ _ _ b).trans (hset (by simp) _ _ _)).trans (hset (by simp) _ _ _)).trans (hset (by simp) _ _ _)

/-! ### Records and windows -/

theorem logRec_steers (cls : Nat) (bs : List Byte) (b : Body) : Steers b (logRec cls bs b) := .of_within (logRec_within cls bs b) (by decide) (by decide) (by decide) (by decide)

theorem sensorEvent_steers (id old code : Nat) (b : Body) : Steers b (sensorEvent id old code b) :=
  .of_within (sensorEvent_within id old code b) (by decide) (by decide) (by decide) (by decide)

theorem noteWindow_steers (cause : Nat) (b : Body) : Steers b (noteWindow cause b) := by
  unfold noteWindow
  simp only []
  refine .ite ?_ ((updLedger_steers _ b).trans (updLedger_steers _ _))
  refine Steers.trans (c := logRec _ _ _) ?_ (raiseVec_steers _ _)
  refine Steers.trans (c := addSat _ _ _ _) ?_ (logRec_steers _ _ _)
  exact ((updLedger_steers _ b).trans (updLedger_steers _ _)).trans (setF_steers (by decide) (by decide) (by decide) (by decide) _ _ _)

/-- The body in another power state. -/
def inPower (n : Nat) (b : Body) : Body := setF b R.GBL_STATUS.power_state 0 n

theorem power_inPower {n : Nat} (hn : n < 16) (b : Body) : power (inPower n b) = n := getF_setF_fits hn

theorem setPower_steers {n : Nat} (hn : n < 16) (b : Body) : Steers (inPower n b) (setPower n b) := by
  unfold setPower
  simp only []
  split
  next hold =>
    have hget : ∀ f j, f.idx < 1024 → getF b f j = getF (inPower n b) f j := by
      intro f j hf
      by_cases hkey : j * 1024 + f.idx = 0 * 1024 + R.GBL_STATUS.power_state.idx
      · obtain ⟨i, w⟩ := f
        have hi : i = 493 := by
          have : j * 1024 + i = 493 := hkey
          have : i < 1024 := hf
          omega
        have hj : j = 0 := by
          have : j * 1024 + i = 493 := hkey
          omega
        subst hi hj
        have hp : getF b R.GBL_STATUS.power_state 0 = n := hold
        exact hp.trans (power_inPower hn b).symm
      · exact (getF_setF_ne _ _ _ _ _ _ hkey).symm
    refine ⟨fun f j hf _ => hget f j hf, rfl, fun v _ hv => by rwa [hget _ _ (by decide)], fun k _ hk => ?_, rfl⟩
    unfold stepIsDone at hk ⊢
    rwa [hget _ _ (by decide)]
  · have hhost : Steers (inPower n b) (setF (updHost (fun h => { h with opBase := hourMs b, opSince := b.now }) b) R.GBL_STATUS.power_state 0 n) := steers_of_regs rfl rfl
    exact .ite (((hhost.trans (logRec_steers _ _ _)).trans (raiseVec_steers _ _)).trans (sensorEvent_steers _ _ _ _)) hhost

theorem Steers.inPower {c : Body} (h : Steers b c) (n : Nat) : Steers (inPower n b) (inPower n c) := h.setF (by decide) (by decide) (by decide) 0 n

/-! ### Trips -/

theorem tripRecord_steers (code action : Nat) (v : Int) (b : Body) :
    Steers (if action = 1 then b else updPath (fun p => { p with tripped := setBit p.tripped (code - 1) true }) b) (tripRecord code action v b) :=
  (logRec_steers _ _ _).trans (raiseVec_steers _ _)

theorem tripRecord_pending (code action : Nat) (v : Int) (b : Body) : bit (getF (tripRecord code action v b) R.IRQ_CAUSE.cause 0) 22 = true :=
  raiseVec_pending _ (by decide)

/-- The converter cells have stopped. -/
def cellsOff (p : PowerPath) : PowerPath := { p with cellsRun := false }

theorem stopCells_steers (b : Body) : Steers (updPath cellsOff b) (stopCells b) :=
  ((setF_steers (by decide) (by decide) (by decide) (by decide) _ _ b).trans (setF_steers (by decide) (by decide) (by decide) (by decide) _ _ _)).updPath cellsOff

/-- The power path without its input. -/
def inputLess (p : PowerPath) : PowerPath := { cellsOff p with switch := 0, inputAbsent := true, cellsHalted := false }

/-- The body in which the input is noted absent. -/
def inputGone (b : Body) : Body := setFlag (updPath inputLess b) R.LDG_STATUS.absent 0 true

/-- What the loss of the input leaves of the power state (R338, R358). -/
def stateWithout (b : Body) : Nat :=
  if power b = 6 ∨ power b = 7 ∨ (power b = 5 ∧ getF b R.STP_STATUS.state 0 = 2) then 8 else if power b = 1 ∧ b.cox.path.housekeeping = false then 0 else power b

theorem inputOff_steers (b : Body) : ∃ c, Steers (inputGone b) c ∧ inputOff b = (if power b = 6 ∨ power b = 7 ∨ (power b = 5 ∧ getF b R.STP_STATUS.state 0 = 2)
    then noteWindow 3 (setPower 8 c) else if power b = 1 ∧ (!b.cox.path.housekeeping) = true then setPower 0 c else c) := by
  have hcells : Steers (updPath inputLess b) (updPath (fun p => { p with switch := 0, inputAbsent := true, cellsHalted := false }) (stopCells b)) :=
    (stopCells_steers b).updPath (fun p => { p with switch := 0, inputAbsent := true, cellsHalted := false })
  have hmanual : Steers (updPath inputLess b) (setF (loopModeWrite 16 0 1 (updPath (fun p => { p with switch := 0, inputAbsent := true, cellsHalted := false }) (stopCells b)))
      R.COX_LOOP_MANUAL.manual (lix 16 0) 0) :=
    (hcells.trans (loopModeWrite_steers _ _ _ _)).trans (setF_steers (by decide) (by decide) (by decide) (by decide) _ _ _)
  obtain ⟨d, hd⟩ : ∃ d, setF (loopModeWrite 16 0 1 (updPath (fun p => { p with switch := 0, inputAbsent := true, cellsHalted := false }) (stopCells b)))
      R.COX_LOOP_MANUAL.manual (lix 16 0) 0 = d := ⟨_, rfl⟩
  rw [hd] at hmanual
  have habsent : Steers (inputGone b) (ledgerAbsent true d) := (hmanual.setF (by decide) (by decide) (by decide) 0 _).trans (ledgerAbsent_steers true d)
  obtain ⟨c, hc⟩ : ∃ c, ledgerAbsent true d = c := ⟨_, rfl⟩
  rw [hc] at habsent
  have hpower : power c = power b := habsent.power_eq.trans (getF_setFlag_other _ _ (by decide) (by decide) (by decide))
  have hstp : getF c R.STP_STATUS.state 0 = getF b R.STP_STATUS.state 0 := habsent.storage_eq.trans (getF_setFlag_other _ _ (by decide) (by decide) (by decide))
  have hpath : c.cox.path = inputLess b.cox.path := habsent.path
  have hhouse : c.cox.path.housekeeping = b.cox.path.housekeeping := by
    rw [hpath]
    rfl
  refine ⟨c, habsent, ?_⟩
  unfold inputOff
  simp only [hd, hc, hpower, hstp, hhouse]

/-- What the loss of the input shows. -/
structure InputLost (b c : Body) : Prop where
  path : c.cox.path = inputLess b.cox.path
  absent : flagF c R.LDG_STATUS.absent 0 = true
  power : power c = stateWithout b
  causes : ∀ v, v < 30 → bit (getF b R.IRQ_CAUSE.cause 0) v = true → bit (getF c R.IRQ_CAUSE.cause 0) v = true

theorem inputLost_of {n : Nat} (hn : n < 16) {c : Body} (h : Steers (inPower n (inputGone b)) c) (hstate : stateWithout b = n) : InputLost b c where
  path := h.path
  absent := by
    rw [h.flagF_eq (by decide) (by decide), inPower, flagF_setF_other _ _ (by decide) (by decide) (by decide)]
    exact flagF_setFlag_same _ _ _ _ (by decide)
  power := by rw [h.power_eq, power_inPower hn, hstate]
  causes v hv hset := h.causes v hv (by
    rw [inPower, getF_setF_other _ _ (by decide) (by decide) (by decide), inputGone, getF_setFlag_other _ _ (by decide) (by decide) (by decide)]
    exact hset)

theorem inputOff_shows (b : Body) : InputLost b (inputOff b) := by
  obtain ⟨c, hc, hx⟩ := inputOff_steers b
  rw [hx]
  split
  next h => exact inputLost_of (by decide) (((hc.inPower 8).trans (setPower_steers (by decide) c)).trans (noteWindow_steers _ _)) (if_pos h)
  next h =>
    split
    next h1 =>
      have hoff : power b = 1 ∧ b.cox.path.housekeeping = false := by simpa using h1
      exact inputLost_of (by decide) ((hc.inPower 0).trans (setPower_steers (by decide) c)) ((if_neg h).trans (if_pos hoff))
    next h1 =>
      have hoff : ¬ (power b = 1 ∧ b.cox.path.housekeeping = false) := by simpa using h1
      refine ⟨hc.path, ?_, ?_, fun v hv hset => hc.causes v hv ?_⟩
      · rw [hc.flagF_eq (by decide) (by decide)]
        exact flagF_setFlag_same _ _ _ _ (by decide)
      · rw [hc.power_eq]
        exact (getF_setFlag_other _ _ (by decide) (by decide) (by decide)).trans (((if_neg h).trans (if_neg hoff)).symm)
      · rw [inputGone, getF_setFlag_other _ _ (by decide) (by decide) (by decide)]
        exact hset

end Actions

end Sys2Proof.Machine

/-! The decisions of the energy ledger (O49). -/

namespace Sys2Proof.Machine

section Ledger

variable {b c : Body} {s : State}

/-! ### Stored energy and its levels -/

theorem e0Used_congr (hnow : c.now = b.now) (hat : c.ledger.sweepAt = b.ledger.sweepAt) (he : getF c R.LDG_E0.e0_mj 0 = getF b R.LDG_E0.e0_mj 0)
    (hstale : flagF c R.LDG_STATUS.stale_sweep 0 = flagF b R.LDG_STATUS.stale_sweep 0) : e0Used c = e0Used b := by
  unfold e0Used
  rw [hnow, hat, he, hstale]

theorem Within.eRes_eq {ps : List Part} {fs : List Field} (h : Within ps fs b c) (hf : R.LDG_RESERVE.reserve_mj.idx ∉ fs.map Field.idx) : eRes c = eRes b :=
  congrArg Nat.cast (h.getF_eq (f := R.LDG_RESERVE.reserve_mj) (by decide) hf 0)

theorem Within.eFloor_eq {ps : List Part} {fs : List Field} (h : Within ps fs b c) (hp : Part.cox ∉ ps) (hr : R.LDG_RESERVE.reserve_mj.idx ∉ fs.map Field.idx)
    (hs : R.LDG_CFG2.stop_kj.idx ∉ fs.map Field.idx) (hm : R.LDG_CFG.margin_kj.idx ∉ fs.map Field.idx) : eFloor c = eFloor b := by
  unfold eFloor eStop eFloorSet
  rw [h.eRes_eq hr, h.getF_eq (by decide) hs, h.getF_eq (by decide) hm, show c.cox = b.cox from h.same (p := .cox) hp]

/-- The fields that the tracked stored energy changes. -/
theorem trackE0_within (b : Body) : Within [.regs, .ledger] [R.LDG_E0.e0_mj] b (trackE0 b) := by
  unfold trackE0
  constructor <;> simp (disch := decide)

theorem ledgerTemp_congr (h : ∀ f ∈ [R.CMN_TEMP.fault, R.CMN_TEMP.t], ∀ i, getF c f i = getF b f i) (i : Nat) : ledgerTemp c i = ledgerTemp b i := by
  have hfault : ∀ j, flagF c R.CMN_TEMP.fault j = flagF b R.CMN_TEMP.fault j := fun j => congrArg (· == 1) (h _ (by simp) j)
  have ht : ∀ j, getF c R.CMN_TEMP.t j = getF b R.CMN_TEMP.t j := h _ (by simp)
  have hcell : cellTemp c i = cellTemp b i := by
    unfold cellTemp
    simp only [hfault, ht]
  unfold ledgerTemp
  simp only [hcell, hfault, ht]

theorem storedEnergy_trackE0 (b : Body) : storedEnergy (trackE0 b) = storedEnergy b := by
  have hw := trackE0_within b
  have hv : ∀ i, getF (trackE0 b) R.CMN_CELL_V.v i = getF b R.CMN_CELL_V.v i := hw.getF_eq (by decide) (by decide)
  have ht : ∀ i, ledgerTemp (trackE0 b) i = ledgerTemp b i := ledgerTemp_congr fun f hf i => by
    fin_cases hf <;> exact hw.getF_eq (by decide) (by decide) i
  unfold storedEnergy
  simp only [hv, ht]

/-! ### The decision (R432 to R438) -/

/-- The fields that HEADROOM is formed from. -/
def headroomFields : List Field := [R.LDG_HEADROOM.headroom_mj, R.LDG_STATUS.decision, R.LDG_STATUS.cap_active, R.LDG_STATUS.at_reserve]

theorem writeHeadroom_within (n : Nat) (b : Body) : Within [.regs] headroomFields b (writeHeadroom n b) := by
  unfold writeHeadroom
  constructor <;> simp (disch := decide)

theorem writeHeadroom_shows (n : Nat) (b : Body) :
    getF (writeHeadroom n b) R.LDG_HEADROOM.headroom_mj 0 = min (max 0 ((getF b R.LDG_E0.e0_mj 0 : Int) - eRes b)).toNat (2 ^ 32 - 1)
      ∧ getF (writeHeadroom n b) R.LDG_STATUS.decision 0 = n % 2 ^ R.LDG_STATUS.decision.width
      ∧ flagF (writeHeadroom n b) R.LDG_STATUS.at_reserve 0 = (decide (e0Used b ≤ eFloor b) || flagF b R.LDG_STATUS.forced 0) := by
  obtain ⟨c, hc⟩ : ∃ c, setFlag (setF (setF b R.LDG_HEADROOM.headroom_mj 0 (min (max 0 ((getF b R.LDG_E0.e0_mj 0 : Int) - eRes b)).toNat (2 ^ 32 - 1)))
      R.LDG_STATUS.decision 0 n) R.LDG_STATUS.cap_active 0 (getF (setF (setF b R.LDG_HEADROOM.headroom_mj 0
        (min (max 0 ((getF b R.LDG_E0.e0_mj 0 : Int) - eRes b)).toNat (2 ^ 32 - 1))) R.LDG_STATUS.decision 0 n) R.COX_CAP.cap_w 16 != 0) = c := ⟨_, rfl⟩
  have hw : Within [.regs] headroomFields b c := by
    rw [← hc]
    constructor <;> simp (disch := decide)
  have hx : writeHeadroom n b = setFlag c R.LDG_STATUS.at_reserve 0 (decide (e0Used c ≤ eFloor c) || flagF c R.LDG_STATUS.forced 0) := by
    rw [← hc]
    rfl
  have hused : e0Used c = e0Used b := e0Used_congr (hw.same (p := .now) (by decide)) (congrArg Ledger.sweepAt (hw.same (p := .ledger) (by decide)))
    (hw.getF_eq (by decide) (by decide) 0) (hw.flagF_eq (by decide) (by decide) 0)
  rw [hx]
  refine ⟨?_, ?_, ?_⟩
  · rw [getF_setFlag_other _ _ (by decide) (by decide) (by decide), ← hc, getF_setFlag_other _ _ (by decide) (by decide) (by decide),
      getF_setF_other _ _ (by decide) (by decide) (by decide)]
    exact getF_setF_fits (Nat.lt_of_le_of_lt (Nat.min_le_right _ _) (by decide))
  · rw [getF_setFlag_other _ _ (by decide) (by decide) (by decide), ← hc, getF_setFlag_other _ _ (by decide) (by decide) (by decide), getF_setF_same]
  · rw [flagF_setFlag_same _ _ _ _ (by decide), hused, hw.eFloor_eq (by decide) (by decide) (by decide) (by decide), hw.flagF_eq (by decide) (by decide)]

/-- The body in which the ledger's request for the next stroke stands. -/
def requested (ps : List Int) (e : EnergyProfile) (k : StrokeKind) (b : Body) : Body :=
  let at_ := energyAtCatch b ps
  let surplus := decide (eFull b < at_.2)
  let b1 := updLedger (fun l => { l with surplusNext := surplus }) (setFlag (setFlag b R.LDG_STATUS.trim_steering 0 (trimSteers b ps e k at_)) R.LDG_STATUS.surplus 0 surplus)
  let b2 := setF (setFlag (setF b1 R.LDG_REQUEST.period_us 0 (choosePeriod b ps e k at_)) R.LDG_REQUEST.fresh 0 true) R.LDG_START_DELAY.start_delay_us 0 0
  setF (setF b2 R.LDG_LEVEL_WANTED.level_w 0 (levelWanted b2 e k)) R.LDG_FLOOR.floor_w 0 (min (floorPower e k) 16383)

theorem ledgerDecide_requests {k : StrokeKind} {e : EnergyProfile} (hk : kindInFlight (trackE0 b) = some k) (he : profileOf (trackE0 b) k = some e) :
    ledgerDecide b = writeHeadroom (if k.nominalUs < choosePeriod (trackE0 b) (forecast (trackE0 b)) e k (energyAtCatch (trackE0 b) (forecast (trackE0 b))) then 1 else 0)
      (requested (forecast (trackE0 b)) e k (trackE0 b)) := by
  unfold ledgerDecide
  simp only [hk, he]
  rfl

/-- The fields of the ledger's request. -/
def requestFields : List Field := [R.LDG_STATUS.trim_steering, R.LDG_STATUS.surplus, R.LDG_REQUEST.period_us, R.LDG_REQUEST.fresh, R.LDG_START_DELAY.start_delay_us,
  R.LDG_LEVEL_WANTED.level_w, R.LDG_FLOOR.floor_w]

theorem requested_within (ps : List Int) (e : EnergyProfile) (k : StrokeKind) (b : Body) : Within [.regs, .ledger] requestFields b (requested ps e k b) := by
  unfold requested
  constructor <;> simp (disch := decide)

theorem windowPack_congr (h1 : getF c R.LDG_CFG3.eta_in 0 = getF b R.LDG_CFG3.eta_in 0) (h2 : getF c R.LDG_CFG3.eta_port 0 = getF b R.LDG_CFG3.eta_port 0)
    (x y z : Rat) : windowPack c x y z = windowPack b x y z := by
  unfold windowPack packDeltaMj packDelta etaIn etaPort
  rw [h1, h2]

theorem levelWanted_congr (h1 : getF c R.LDG_CFG3.eta_in 0 = getF b R.LDG_CFG3.eta_in 0) (h2 : getF c R.LDG_CFG3.eta_port 0 = getF b R.LDG_CFG3.eta_port 0)
    (h3 : getF c R.LDG_ENVELOPE.level_max_w 0 = getF b R.LDG_ENVELOPE.level_max_w 0) (e : EnergyProfile) (k : StrokeKind) :
    levelWanted c e k = levelWanted b e k := by
  unfold levelWanted
  simp only [windowPack_congr h1 h2, h3]

theorem requested_shows (ps : List Int) (e : EnergyProfile) (k : StrokeKind) (b : Body) :
    getF (requested ps e k b) R.LDG_REQUEST.period_us 0 = choosePeriod b ps e k (energyAtCatch b ps) % 2 ^ 31
      ∧ flagF (requested ps e k b) R.LDG_REQUEST.fresh 0 = true ∧ getF (requested ps e k b) R.LDG_START_DELAY.start_delay_us 0 = 0
      ∧ getF (requested ps e k b) R.LDG_LEVEL_WANTED.level_w 0 = levelWanted b e k % 2 ^ R.LDG_LEVEL_WANTED.level_w.width
      ∧ flagF (requested ps e k b) R.LDG_STATUS.surplus 0 = decide (eFull b < (energyAtCatch b ps).2) := by
  obtain ⟨b1, hb1⟩ : ∃ b1, updLedger (fun l => { l with surplusNext := decide (eFull b < (energyAtCatch b ps).2) })
      (setFlag (setFlag b R.LDG_STATUS.trim_steering 0 (trimSteers b ps e k (energyAtCatch b ps))) R.LDG_STATUS.surplus 0 (decide (eFull b < (energyAtCatch b ps).2))) = b1 := ⟨_, rfl⟩
  have hw1 : Within [.regs, .ledger] requestFields b b1 := by
    rw [← hb1]
    constructor <;> simp (disch := decide)
  have hsurplus : flagF b1 R.LDG_STATUS.surplus 0 = decide (eFull b < (energyAtCatch b ps).2) := by
    rw [← hb1]
    exact flagF_setFlag_same _ _ _ _ (by decide)
  obtain ⟨b2, hb2⟩ : ∃ b2, setF (setFlag (setF b1 R.LDG_REQUEST.period_us 0 (choosePeriod b ps e k (energyAtCatch b ps))) R.LDG_REQUEST.fresh 0 true)
      R.LDG_START_DELAY.start_delay_us 0 0 = b2 := ⟨_, rfl⟩
  have hw2 : Within [.regs, .ledger] requestFields b b2 := hw1.trans (by
    rw [← hb2]
    constructor <;> simp (disch := decide))
  have hlevel : levelWanted b2 e k = levelWanted b e k :=
    levelWanted_congr (hw2.getF_eq (by decide) (by decide) 0) (hw2.getF_eq (by decide) (by decide) 0) (hw2.getF_eq (by decide) (by decide) 0) e k
  have hx : requested ps e k b = setF (setF b2 R.LDG_LEVEL_WANTED.level_w 0 (levelWanted b2 e k)) R.LDG_FLOOR.floor_w 0 (min (floorPower e k) 16383) := by
    rw [← hb2, ← hb1]
    rfl
  have hlate : ∀ f, f.idx < 1024 → R.LDG_LEVEL_WANTED.level_w.idx ≠ f.idx → R.LDG_FLOOR.floor_w.idx ≠ f.idx → getF (requested ps e k b) f 0 = getF b2 f 0 := by
    intro f hf h1 h2
    rw [hx, getF_setF_other _ _ (by decide) hf (Ne.symm h2), getF_setF_other _ _ (by decide) hf (Ne.symm h1)]
  refine ⟨?_, ?_, ?_, ?_, ?_⟩
  · rw [hlate _ (by decide) (by decide) (by decide), ← hb2, getF_setF_other _ _ (by decide) (by decide) (by decide),
      getF_setFlag_other _ _ (by decide) (by decide) (by decide)]
    exact getF_setF_same _ _ _ _
  · rw [flagF, hlate _ (by decide) (by decide) (by decide), ← hb2, getF_setF_other _ _ (by decide) (by decide) (by decide)]
    exact flagF_setFlag_same _ _ _ _ (by decide)
  · rw [hlate _ (by decide) (by decide) (by decide), ← hb2, getF_setF_same, Nat.zero_mod]
  · rw [hx, getF_setF_other _ _ (by decide) (by decide) (by decide), getF_setF_same, hlevel]
  · rw [flagF, hlate _ (by decide) (by decide) (by decide), ← hb2, getF_setF_other _ _ (by decide) (by decide) (by decide),
      getF_setFlag_other _ _ (by decide) (by decide) (by decide), getF_setF_other _ _ (by decide) (by decide) (by decide)]
    exact hsurplus

theorem choosePeriod_longest (h : flagF b R.LDG_STATUS.forced 0 = true ∨ b.cox.path.inputAbsent = true) (ps : List Int) (e : EnergyProfile) (k : StrokeKind)
    (x : Rat × Int) : choosePeriod b ps e k x = 2000000 := if_pos h

theorem decision_requests {k : StrokeKind} {e : EnergyProfile} (hact : shepherdActive s.body = true) (hrun : s.body.flock.inFlight.isSome = true)
    (hk : kindInFlight (trackE0 s.body) = some k) (he : profileOf (trackE0 s.body) k = some e) :
    Runs .ledgerDecision s [.regs, .ledger] (fun b =>
      let b1 := trackE0 s.body
      let ps := forecast b1
      let t := choosePeriod b1 ps e k (energyAtCatch b1 ps)
      getF b R.LDG_REQUEST.period_us 0 = t % 2 ^ 31 ∧ (flagF s.body R.LDG_STATUS.forced 0 = true ∨ s.body.cox.path.inputAbsent = true → t = 2000000)
        ∧ flagF b R.LDG_REQUEST.fresh 0 = true ∧ getF b R.LDG_START_DELAY.start_delay_us 0 = 0
        ∧ getF b R.LDG_LEVEL_WANTED.level_w 0 = levelWanted b1 e k % 2 ^ R.LDG_LEVEL_WANTED.level_w.width
        ∧ getF b R.LDG_STATUS.decision 0 = (if k.nominalUs < t then 1 else 0)
        ∧ getF b R.LDG_HEADROOM.headroom_mj 0 = min (max 0 ((getF b1 R.LDG_E0.e0_mj 0 : Int) - eRes b1)).toNat (2 ^ 32 - 1)
        ∧ flagF b R.LDG_STATUS.at_reserve 0 = (decide (e0Used b1 ≤ eFloor b1) || flagF s.body R.LDG_STATUS.forced 0)
        ∧ flagF b R.LDG_STATUS.surplus 0 = decide (eFull b1 < (energyAtCatch b1 ps).2)) := by
  have htrack := trackE0_within s.body
  obtain ⟨b1, hb1⟩ : ∃ b1, trackE0 s.body = b1 := ⟨_, rfl⟩
  obtain ⟨t, ht⟩ : ∃ t, choosePeriod b1 (forecast b1) e k (energyAtCatch b1 (forecast b1)) = t := ⟨_, rfl⟩
  obtain ⟨d, hd⟩ : ∃ d, requested (forecast b1) e k b1 = d := ⟨_, rfl⟩
  have hreq := requested_within (forecast b1) e k b1
  obtain ⟨hperiod, hfresh, hdelay, hlevel, hsurplus⟩ := requested_shows (forecast b1) e k b1
  rw [hd] at hreq hperiod hfresh hdelay hlevel hsurplus
  rw [ht] at hperiod
  obtain ⟨n, hn⟩ : ∃ n, (if k.nominalUs < t then 1 else 0) = n := ⟨_, rfl⟩
  have hhead := writeHeadroom_within n d
  obtain ⟨hmj, hdec, hres⟩ := writeHeadroom_shows n d
  rw [hb1] at htrack
  have hx : decision s.body = writeHeadroom n d := by
    rw [← hn, ← ht, ← hd, ← hb1]
    exact (if_pos ⟨hact, hrun⟩).trans (ledgerDecide_requests hk he)
  have hused : e0Used d = e0Used b1 := by
    refine e0Used_congr (hreq.same (p := .now) (by decide)) ?_ (hreq.getF_eq (by decide) (by decide) 0) (hreq.flagF_eq (by decide) (by decide) 0)
    rw [← hd]
    rfl
  refine runs_of_lift (f := decision) rfl hx ?_ ?_
  · exact (htrack.only.mono (by decide)).trans ((hreq.only.mono (by decide)).trans (hhead.only.mono (by decide)))
  · simp only [hb1, ht]
    refine ⟨?_, fun h => ?_, ?_, ?_, ?_, ?_, ?_, ?_, ?_⟩
    · rw [hhead.getF_eq (by decide) (by decide), hperiod]
    · rw [← ht]
      refine choosePeriod_longest ?_ _ _ _ _
      rwa [htrack.flagF_eq (by decide) (by decide), show b1.cox = s.body.cox from htrack.same (p := .cox) (by decide)]
    · rw [hhead.flagF_eq (by decide) (by decide), hfresh]
    · rw [hhead.getF_eq (by decide) (by decide), hdelay]
    · rw [hhead.getF_eq (by decide) (by decide), hlevel]
    · rw [hdec, ← hn]
      split <;> rfl
    · rw [hmj, hreq.getF_eq (by decide) (by decide), hreq.eRes_eq (by decide)]
    · rw [hres, hused, hreq.eFloor_eq (by decide) (by decide) (by decide) (by decide), hreq.flagF_eq (by decide) (by decide), htrack.flagF_eq (by decide) (by decide)]
    · rw [hhead.flagF_eq (by decide) (by decide), hsurplus]

/-! ### Sweeps (R421) -/

theorem ballast_steers (b : Body) : Steers b (ballast b) := by
  have hmove : ∀ p (c : Body), Steers c (movePoint p c) := fun p c => .of_within (movePoint_within p c) (by decide) (by decide) (by decide) (by decide)
  have hdraw : ∀ c : Body, Steers c (drawFree c).2 := fun c => steers_of_regs rfl rfl
  have hburn : ∀ n p, Steers b (movePoint p (drawFree (drawFree (updLedger (fun l => { l with ballast := n }) b)).2).2) := fun n p =>
    (((updLedger_steers _ b).trans (hdraw _)).trans (hdraw _)).trans (hmove _ _)
  unfold ballast
  by_cases hdrain : b.rack.drain = 2 ∨ b.rack.drain = 3
  · simp only [hdrain, if_true]
    exact .ite (updLedger_steers _ b) (.ite (updLedger_steers _ b) (hburn _ _))
  · simp only [hdrain, if_false]
    exact .ite (updLedger_steers _ b) (.ite (updLedger_steers _ b) (hburn _ _))

theorem sweepUpdate_replaces (hact : shepherdActive s.body = true) (hvalid : flagF s.body R.CMN_SWEEP_STATUS.valid 0 = true) : RunsS .ledgerSweepUpdate s (fun u =>
    getF u.body R.LDG_E0.e0_mj 0 = (storedEnergy s.body).1 % 2 ^ 48 ∧ getF u.body R.LDG_EROOM.eroom_mj 0 = (storedEnergy s.body).2 % 2 ^ 48
      ∧ getF u.body R.LDG_ECAP.ecap_mj 0 = ((storedEnergy s.body).1 + (storedEnergy s.body).2) % 2 ^ 48
      ∧ flagF u.body R.LDG_STATUS.stale_sweep 0 = false) := by
  obtain ⟨x, hx⟩ : ∃ x, storedEnergy s.body = x := ⟨_, rfl⟩
  obtain ⟨b1, hb1⟩ : ∃ b1, setF (setF (setF (trackE0 s.body) R.LDG_E0.e0_mj 0 x.1) R.LDG_EROOM.eroom_mj 0 x.2) R.LDG_ECAP.ecap_mj 0 (x.1 + x.2) = b1 := ⟨_, rfl⟩
  obtain ⟨d, hd⟩ : ∃ d : Int, (x.1 : Int) - (getF (trackE0 s.body) R.LDG_E0.e0_mj 0 : Int) = d := ⟨_, rfl⟩
  obtain ⟨b2, hb2⟩ : ∃ b2, setF b1 R.LDG_DRIFT.drift_mj 0 (uint 32 (sint 32 (getF b1 R.LDG_DRIFT.drift_mj 0) + d)) = b2 := ⟨_, rfl⟩
  obtain ⟨b3, hb3⟩ : ∃ b3, (if x.1 + x.2 < 100 * d.natAbs then logRec 0x25 ([2, 0, 0, 0, 0, 0, 0, 0] ++ leBytes 8 (uint 64 d)) b2 else b2) = b3 := ⟨_, rfl⟩
  obtain ⟨b4, hb4⟩ : ∃ b4, setFlag b3 R.LDG_STATUS.stale_sweep 0 false = b4 := ⟨_, rfl⟩
  have h12 : ∀ f, f.idx < 1024 → f.idx ≠ R.LDG_DRIFT.drift_mj.idx → getF b2 f 0 = getF b1 f 0 := fun f hf hne => by
    rw [← hb2, getF_setF_other _ _ (by decide) hf hne]
  have h23 : Steers b2 b3 := hb3 ▸ .ite (logRec_steers _ _ _) (.refl _)
  have h34 : ∀ f, f.idx < 1024 → f.idx ≠ R.LDG_STATUS.stale_sweep.idx → getF b4 f 0 = getF b3 f 0 := fun f hf hne => by
    rw [← hb4, getF_setFlag_other _ _ (by decide) hf hne]
  have hend : Steers b4 (ballast (noteWindow 2 b4)) := (noteWindow_steers 2 b4).trans (ballast_steers _)
  have hrun : sweepUpdate s.body = ballast (noteWindow 2 b4) := by
    have hstored : storedEnergy (trackE0 s.body) = x := (storedEnergy_trackE0 _).trans hx
    unfold sweepUpdate
    rw [if_neg (by simp [hact, hvalid])]
    simp only [hstored, hd, hb1, hb2, hb3, hb4]
  have hkeep : ∀ f, f.idx < 1024 → f.idx ∉ steerFields.map Field.idx → f.idx ≠ R.LDG_STATUS.stale_sweep.idx → f.idx ≠ R.LDG_DRIFT.drift_mj.idx →
      getF (ballast (noteWindow 2 b4)) f 0 = getF b1 f 0 := fun f hf hn h1 h2 => by
    rw [hend.getF_eq hf hn, h34 f hf h1, h23.getF_eq hf hn, h12 f hf h2]
  refine runsS_of_lift (f := sweepUpdate) rfl hrun ⟨?_, ?_, ?_, ?_⟩
  · refine (hkeep _ (by decide) (by decide) (by decide) (by decide)).trans ?_
    rw [← hb1, getF_setF_other _ _ (by decide) (by decide) (by decide), getF_setF_other _ _ (by decide) (by decide) (by decide), getF_setF_same, hx]
    rfl
  · refine (hkeep _ (by decide) (by decide) (by decide) (by decide)).trans ?_
    rw [← hb1, getF_setF_other _ _ (by decide) (by decide) (by decide), getF_setF_same, hx]
    rfl
  · refine (hkeep _ (by decide) (by decide) (by decide) (by decide)).trans ?_
    rw [← hb1, getF_setF_same, hx]
    rfl
  · refine (hend.flagF_eq (by decide) (by decide) 0).trans ?_
    rw [← hb4]
    exact flagF_setFlag_same _ _ _ _ (by decide)

theorem staleSweep_flags (hact : shepherdActive s.body = true) : Runs .ledgerStaleSweep s [.regs] (fun b => flagF b R.LDG_STATUS.stale_sweep 0 = true
    ∧ RegsBut [R.LDG_STATUS.stale_sweep] 0 s.body b) := by
  refine runs_of_lift (f := staleSweep) rfl (if_pos hact) (by simp (disch := decide)) ⟨flagF_setFlag_same _ _ _ _ (by decide), ?_⟩
  simp (disch := decide)

/-! ### The reserve and the floor (R442, R444) -/

/-- The parts and fields that a change of clock ceilings changes. -/
def tickFields : List Field := [R.COX_PG_POS.x, R.COX_PG_VEL.v, R.COX_PG_ACC.a, R.COX_PG_CTRL.moving, R.COX_CLK_CEIL.applied, R.STN_CLK_TARGET.target_code,
  R.STN_CLK_STATUS.current_code, R.STN_CLK_STATUS.min_eff_code, R.STN_SEG_CLK.target_code]

theorem clkTarget_within (isl : Island) (code : Nat) (b : Body) : Within [.regs, .cox] tickFields b (clkTarget isl code b) := by
  have hnote : ∀ st, Within [.regs, .cox] tickFields b (noteCode st b) := fun st => by
    unfold noteCode
    exact whenB_within (setF_within _ _ b (by decide) (by decide) (by decide))
  unfold clkTarget
  split
  · exact .refl _ _ b
  · split
    · exact ((hnote _).setF (by decide) (by decide) (by decide) _ _).setF (by decide) (by decide) (by decide) _ _
    · exact setF_within _ _ b (by decide) (by decide) (by decide)
    · exact .refl _ _ b

theorem engineSet_within (e : Nat) (f : CoxEngine → CoxEngine) (b : Body) : Within [.regs, .cox] tickFields b (updEngine e f b) := by
  constructor <;> simp (disch := decide)

theorem clockTick_within (e : Nat) (b : Body) : Within [.regs, .cox] tickFields b (clockTick e b) := by
  have hset : ∀ c x, Within [.regs, .cox] tickFields c (setF c R.COX_CLK_CEIL.applied e x) := fun c x => setF_within _ _ c (by decide) (by decide) (by decide)
  have hstation : ∀ st c, Within [.regs, .cox] tickFields c (if getF c R.COX_CLK_CEIL.applied e = st then c
      else forEach (dieStations (setF c R.COX_CLK_CEIL.applied e st) e) (fun x b => clkTarget (.station x) st b) (setF c R.COX_CLK_CEIL.applied e st)) := fun st c =>
    .ite (.refl _ _ c) ((hset c st).trans (forEach_within (fun x d => clkTarget_within _ _ d) _ _))
  unfold clockTick
  split
  · exact .refl _ _ b
  · unfold applyClocks
    exact (hstation _ b).trans (.ite (.refl _ _ _) ((engineSet_within _ _ _).trans (clkTarget_within _ _ _)))

theorem ceilingsChanged_within (e : Nat) (b : Body) : Within [.regs, .cox] tickFields b (ceilingsChanged e b) := by
  have hput : ∀ k x c, Within [.regs, .cox] tickFields c (pgPut e k x c) := fun k x c => (pgPut_within e k x c).mono (by decide) (by decide)
  unfold ceilingsChanged
  split
  · exact .refl _ _ b
  · exact .ite ((hput _ _ b).trans (hput _ _ _)) (clockTick_within e b)

/-- The body in which the forced ceiling of the clocks is set anew. -/
def ceilingsAt (code : Nat) (b : Body) : Body := forEach (List.range 16) (fun e b => ceilingsChanged e (setF b R.COX_CLK_CEIL.force e code)) b

theorem ceilingsAt_within (code : Nat) (b : Body) : Within [.regs, .cox] (R.COX_CLK_CEIL.force :: tickFields) b (ceilingsAt code b) :=
  forEach_within (fun e c => (setF_within _ _ c (by decide) (by decide) (by decide)).trans ((ceilingsChanged_within e _).mono (by decide) (by decide))) _ _

theorem ceilingsAt_force {code e : Nat} (hcode : code < 512) (he : e < 16) (b : Body) : getF (ceilingsAt code b) R.COX_CLK_CEIL.force e = code := by
  refine forEach_visits (P := fun _ => True) (Q := fun c => getF c R.COX_CLK_CEIL.force e = code) List.nodup_range (List.mem_range.2 he) (fun _ _ _ _ => trivial)
    (fun c _ => ?_) (fun x hx c hc => ?_) trivial
  · rw [(ceilingsChanged_within e _).getF_eq (by decide) (by decide)]
    exact getF_setF_fits hcode
  · rw [(ceilingsChanged_within x _).getF_eq (by decide) (by decide), getF_setF_instance _ _ _ _ _ (Ne.symm hx)]
    exact hc

/-- The code that clocks are forced to (R442). -/
def forcedCode (b : Body) : Nat :=
  match kindInFlight b with
  | some k => ((profileOf b k).map (fun e => (pointAt e 0).code)).getD 80
  | none => 80

/-- The body in which clocks are noted as forced. -/
def notedForced (b : Body) : Body := setFlag (setFlag b R.LDG_STATUS.forced 0 true) R.LDG_STATUS.at_reserve 0 true

theorem forceClocks_eq (b : Body) : forceClocks b = ceilingsAt (forcedCode b) (notedForced b) := rfl

theorem forceClocks_shows (b : Body) : Within [.regs, .cox] (R.LDG_STATUS.forced :: R.LDG_STATUS.at_reserve :: R.COX_CLK_CEIL.force :: tickFields) b (forceClocks b)
    ∧ flagF (forceClocks b) R.LDG_STATUS.forced 0 = true ∧ flagF (forceClocks b) R.LDG_STATUS.at_reserve 0 = true := by
  have hceil := ceilingsAt_within (forcedCode b) (notedForced b)
  have hnoted : Within [.regs, .cox] (R.LDG_STATUS.forced :: R.LDG_STATUS.at_reserve :: R.COX_CLK_CEIL.force :: tickFields) b (notedForced b) :=
    (setF_within _ _ b (by decide) (by decide) (by decide)).setF (by decide) (by decide) (by decide) _ _
  rw [forceClocks_eq]
  refine ⟨hnoted.trans (hceil.mono (by decide) (by decide)), ?_, ?_⟩
  · rw [hceil.flagF_eq (by decide) (by decide), notedForced, flagF_setFlag_other _ _ (by decide) (by decide) (by decide)]
    exact flagF_setFlag_same _ _ _ _ (by decide)
  · rw [hceil.flagF_eq (by decide) (by decide)]
    exact flagF_setFlag_same _ _ _ _ (by decide)

theorem reserveReached_forces (hact : shepherdActive s.body = true) (hres : e0Used s.body ≤ eRes s.body) (hfree : flagF s.body R.LDG_STATUS.forced 0 = false) :
    Runs .reserveReached s [.regs, .cox] (fun b => flagF b R.LDG_STATUS.forced 0 = true ∧ flagF b R.LDG_STATUS.at_reserve 0 = true
      ∧ (kindInFlight s.body = none → ∀ e, e < 16 → getF b R.COX_CLK_CEIL.force e = 80)
      ∧ ∀ k p, kindInFlight s.body = some k → profileOf s.body k = some p → (pointAt p 0).code < 512 →
          ∀ e, e < 16 → getF b R.COX_CLK_CEIL.force e = (pointAt p 0).code) := by
  obtain ⟨hw, hforced, hat⟩ := forceClocks_shows s.body
  refine runs_of_lift (f := reserveReached) (b := forceClocks s.body) rfl (if_pos ⟨hact, hres, by simp [hfree]⟩) hw.only
    ⟨hforced, hat, fun hk e he => ?_, fun k p hk hp hcode e he => ?_⟩
  · have hc : forcedCode s.body = 80 := by simp [forcedCode, hk]
    rw [forceClocks_eq, hc, ceilingsAt_force (by decide) he]
  · have hc : forcedCode s.body = (pointAt p 0).code := by simp [forcedCode, hk, hp]
    rw [forceClocks_eq, hc, ceilingsAt_force hcode he]

theorem floorRegained_lifts (hact : shepherdActive s.body = true) (hfloor : eFloor s.body ≤ e0Used s.body) (hforced : flagF s.body R.LDG_STATUS.forced 0 = true)
    (hin : s.body.cox.path.inputAbsent = false) : Runs .floorRegained s [.regs, .cox, .ledger] (fun b =>
      flagF b R.LDG_STATUS.forced 0 = false ∧ b.ledger.exhausted = false ∧ ∀ e, e < 16 → getF b R.COX_CLK_CEIL.force e = 380) := by
  obtain ⟨c, hc⟩ : ∃ c, setFlag s.body R.LDG_STATUS.forced 0 false = c := ⟨_, rfl⟩
  have hset : Within [.regs] [R.LDG_STATUS.forced] s.body c := hc ▸ setF_within _ _ _ (by decide) (by decide) (by decide)
  have hceil := ceilingsAt_within 380 c
  have hforce := fun e he => ceilingsAt_force (code := 380) (e := e) (by decide) he c
  have hx : floorRegained s.body = updLedger (fun l => { l with exhausted := false }) (ceilingsAt 380 c) := by
    rw [← hc]
    exact if_pos ⟨hact, hfloor, hforced, by simp [hin]⟩
  obtain ⟨d, hd⟩ : ∃ d, ceilingsAt 380 c = d := ⟨_, rfl⟩
  rw [hd] at hceil hforce hx
  refine runs_of_lift (f := floorRegained) rfl hx ?_ ⟨?_, rfl, hforce⟩
  · exact ((hset.only.mono (by decide)).trans (hceil.only.mono (by decide))).trans (by simp (disch := decide))
  · rw [flagF_updLedger, hceil.flagF_eq (by decide) (by decide), ← hc]
    exact flagF_setFlag_same _ _ _ _ (by decide)

/-! ### Exhausted energy (R443) -/

/-- Leaving the flock leaves the ledger and its registers alone. -/
theorem isolateModule_forced (b : Body) : (isolateModule b).ledger = b.ledger ∧ flagF (isolateModule b) R.LDG_STATUS.forced 0 = flagF b R.LDG_STATUS.forced 0 := by
  cases h : isolated b
  · obtain ⟨hw, -⟩ := isolateModule_shows h
    exact ⟨hw.same (p := .ledger) (by decide), hw.flagF_eq (by decide) (by decide) 0⟩
  · unfold isolateModule
    rw [if_pos h]
    exact ⟨rfl, rfl⟩

theorem leaveFlock_forced (r : FailRecord) (b : Body) : (leaveFlock r b).ledger = b.ledger ∧ flagF (leaveFlock r b) R.LDG_STATUS.forced 0 = flagF b R.LDG_STATUS.forced 0 := by
  obtain ⟨d, hd⟩ : ∃ d, isolateModule b = d := ⟨_, rfl⟩
  obtain ⟨hledger, hforced⟩ := isolateModule_forced b
  rw [hd] at hledger hforced
  have hstop : Within ([.fail, .logbook, .stations, .flock, .rack] ++ vecParts) (R.TLY_STROKE_CTRL.enable :: R.TLY_STROKE_STATUS.state :: R.IRQ_CAUSE.cause :: runFields) d
      (leaveFlock r b) := by
    unfold leaveFlock writeEnable
    simp only [hd]
    refine Within.trans ?_ ((keepRecord_shows _ _).1.mono (by decide) (by decide))
    refine Within.trans ?_ ((updFail_within _ _).mono (by decide) (by decide))
    refine Within.trans ?_ ((noteRun_within _ _).mono (by decide) (by decide))
    refine Within.trans (c := setFlag _ R.TLY_STROKE_CTRL.enable 0 false) ?_ ((strokeStop_within _).mono (by decide) (by decide))
    exact (forEach_within (fun st c => (writeRun_within st false c).mono (by decide) (by decide)) _ _).setF (by decide) (by decide) (by decide) _ _
  exact ⟨(hstop.same (p := .ledger) (by decide)).trans hledger, (hstop.flagF_eq (by decide) (by decide) 0).trans hforced⟩

theorem energyExhausted_forces (hact : shepherdActive s.body = true) (hstop : e0Used s.body ≤ eStop s.body) (hfirst : s.body.ledger.exhausted = false) :
    RunsS .energyExhausted s (fun u => flagF u.body R.LDG_STATUS.forced 0 = true ∧ u.body.ledger.exhausted = true
      ∧ (joined s.body = true → u.body.fail.mustReset = true)) := by
  obtain ⟨c, hc⟩ : ∃ c, logRec 0x25 ([3, 0, 0, 0, 0, 0, 0, 0] ++ leBytes 8 (getF s.body R.LDG_E0.e0_mj 0)) (updLedger (fun l => { l with exhausted := true }) s.body) = c := ⟨_, rfl⟩
  have hlog := logRec_within 0x25 ([3, 0, 0, 0, 0, 0, 0, 0] ++ leBytes 8 (getF s.body R.LDG_E0.e0_mj 0)) (updLedger (fun l => { l with exhausted := true }) s.body)
  rw [hc] at hlog
  have hcledger : c.ledger.exhausted = true := congrArg Ledger.exhausted (hlog.same (p := .ledger) (by decide))
  have hcjoined : joined c = joined s.body := (hlog.flagF_eq (by decide) (by decide) 0).trans rfl
  obtain ⟨d, hd⟩ : ∃ d, (if flagF c R.LDG_STATUS.forced 0 then c else forceClocks c) = d := ⟨_, rfl⟩
  obtain ⟨hdledger, hdforced, hdjoined⟩ : d.ledger.exhausted = true ∧ flagF d R.LDG_STATUS.forced 0 = true ∧ joined d = joined s.body := by
    rw [← hd]
    split
    next h => exact ⟨hcledger, h, hcjoined⟩
    next h =>
      obtain ⟨hw, hforced, -⟩ := forceClocks_shows c
      refine ⟨?_, hforced, (hw.flagF_eq (f := R.TLY_SEAT.valid) (by decide) (by decide) 0).trans hcjoined⟩
      rw [show (forceClocks c).ledger = c.ledger from hw.same (p := .ledger) (by decide)]
      exact hcledger
  have hx : energyExhausted s.body = if joined d then leaveFlock { blankRecord d 0x24 0x05 with detail := getF s.body R.LDG_E0.e0_mj 0 / 1000 } d else d := by
    unfold energyExhausted
    rw [if_neg (by simp [hact, hfirst]; omega)]
    simp only [hc, hd]
  refine runsS_of_lift (f := energyExhausted) rfl hx ?_
  rw [hdjoined]
  cases hj : joined s.body
  · exact ⟨hdforced, hdledger, fun h => by cases h⟩
  · obtain ⟨hledger, hforced⟩ := leaveFlock_forced { blankRecord d 0x24 0x05 with detail := getF s.body R.LDG_E0.e0_mj 0 / 1000 } d
    rw [if_pos rfl, hledger, hforced]
    exact ⟨hdforced, hdledger, fun _ => (leaveFlock_shows _ d).mustReset⟩

end Ledger

/-- Settles O49: the decisions of the energy ledger, its sweeps, and what it does as energy runs out. -/
theorem ledgerCommands : Obligations.LedgerCommands := by
  unfold Obligations.LedgerCommands
  intro s
  refine ⟨?decided, ?noStroke, ?swept, ?noSweep, ?stale, ?reserve, ?noReserve, ?floor, ?noFloor, ?exhausted, ?noExhausted⟩
  case decided => exact fun hact k e hrun hk he => decision_requests hact hrun hk he
  case noStroke => exact fun h => runs_same (f := decision) rfl (if_neg fun hc => by simp [h] at hc)
  case swept => exact sweepUpdate_replaces
  case noSweep => exact fun h => runs_same (f := sweepUpdate) rfl (if_pos (.inl (by simp [h])))
  case stale => exact staleSweep_flags
  case reserve => exact reserveReached_forces
  case noReserve => exact fun h => runs_same (f := reserveReached) rfl (if_neg fun hc => absurd hc.2.1 (not_le.2 h))
  case floor => exact floorRegained_lifts
  case noFloor =>
    refine fun h => runs_same (f := floorRegained) rfl (if_neg fun hc => ?_)
    obtain ⟨-, hfloor, -, hin⟩ := hc
    rcases h with h | h
    · exact absurd hfloor (not_le.2 h)
    · simp [h] at hin
  case exhausted => exact energyExhausted_forces
  case noExhausted => exact fun h => runs_same (f := energyExhausted) rfl (if_pos (.inr h))

end Sys2Proof.Machine

/-! SUPPORT. What stops and opens with the power path (O45 to O47, O51): clocks, ports, stations, the pack. -/

namespace Sys2Proof.Machine

section Stops

variable {b : Body}

/-- What the drovers' faults and the flits on their way change. -/
theorem Steers.of_sends {c : Body} (h : Within sendParts sendFields b c) : Steers b c := .of_within h (by decide) (by decide) (by decide) (by decide)

theorem ringWrite_steers (d ring lst : Nat) (r : List Byte) (b : Body) : Steers b (ringWrite d ring lst r b) := by
  have hdrop : Steers b (dropRecord d ring lst b) := .of_within (dropRecord_touches d ring lst b).within (by decide) (by decide) (by decide) (by decide)
  have hstored : Steers b (stored d ring r b) := .of_within (stored_touches d ring r b).within (by decide) (by decide) (by decide) (by decide)
  have htail : ∀ (c : Body) v, Steers c (setFlag (setF c (ringTail ring) d v) R.PMC_BUF_STATUS.overwrote d true) := fun c v => by
    obtain h | h := ringTail_cases ring <;> rw [h] <;>
      exact (setF_steers (by decide) (by decide) (by decide) (by decide) _ _ c).trans (setF_steers (by decide) (by decide) (by decide) (by decide) _ _ _)
  have hvec : ∀ c : Body, Steers c (pmcVector c) := fun c => raiseVec_steers _ c
  have hnotices : ∀ {P Q : Prop} [Decidable P] [Decidable Q] (c : Body), Steers c
      (if Q then pmcVector (setFlag (if P then pmcVector c else c) R.PMC_BUF_STATUS.full d true) else if P then pmcVector c else c) := fun c =>
    have hmark := Steers.ite (hvec c) (.refl c)
    .ite ((hmark.trans (setF_steers (by decide) (by decide) (by decide) (by decide) _ _ _)).trans (hvec _)) hmark
  unfold ringWrite
  dsimp only
  exact .ite hdrop ((Steers.ite (hstored.trans (htail _ _)) hstored).trans (hnotices _))

theorem report_steers (r : Source) (b : Body) : Steers b (report r b) := steers_of_regs rfl rfl

theorem updPort_steers (p : Nat) (f : KorPort → KorPort) (b : Body) : Steers b (updPort b p f) := steers_of_regs rfl rfl

theorem traceDesc_steers (dr : Nat) (e : Desc) (cause since pc : Nat) (b : Body) : Steers b (traceDesc dr e cause since pc b) := by
  unfold traceDesc
  exact .ite (ringWrite_steers _ _ _ _ b) (.refl b)

theorem drvFault_steers (dr cause detail addr pc : Nat) (fromList : Bool) (tid eix : Nat) (b : Body) : Steers b (drvFault dr cause detail addr pc fromList tid eix b) := by
  have hset : ∀ {f : Field}, f ∈ [R.DRV_FAULT.cause, R.DRV_FAULT.detail, R.DRV_FAULT.pc, R.DRV_FAULT.fromList, R.DRV_FAULT.valid, R.DRV_FAULT_ADDR.addr, R.DRV_STATUS.state] →
      ∀ i x c, Steers c (setF c f i x) := by
    intro f hf
    fin_cases hf <;> exact setF_steers (by decide) (by decide) (by decide) (by decide)
  have hdrv : ∀ f, Steers b (updDrv b dr f) := fun f => steers_of_regs rfl rfl
  unfold drvFault
  split
  · exact .refl b
  · exact (((((((((hdrv _).trans (traceDesc_steers _ _ _ _ _ _)).trans (hset (by simp) _ _ _)).trans (hset (by simp) _ _ _)).trans (hset (by simp) _ _ _)).trans
      (hset (by simp) _ _ _)).trans (hset (by simp) _ _ _)).trans (hset (by simp) _ _ _)).trans (hset (by simp) _ _ _)).trans (report_steers _ _)

theorem transferFault_steers (dr tid cause detail addr : Nat) (b : Body) : Steers b (transferFault dr tid cause detail addr b) := by
  unfold transferFault
  split
  · exact .refl b
  · exact drvFault_steers _ _ _ _ _ _ _ _ b

/-! ### Ports and stations -/

theorem notePorts_steers (b : Body) : Steers b (notePorts b) := by
  unfold notePorts
  exact .ite (stepDone_steers _ b) (.refl b)

theorem noteStacks_steers (b : Body) : Steers b (noteStacks b) := by
  unfold noteStacks
  exact .ite (stepDone_steers _ b) (.refl b)

theorem setPortState_steers (p st : Nat) (b : Body) : Steers b (setPortState p st b) := by
  unfold setPortState
  exact ((setF_steers (by decide) (by decide) (by decide) (by decide) _ _ b).trans
    (Steers.forEach (fun d c => setF_steers (by decide) (by decide) (by decide) (by decide) _ _ c) _ _)).trans (notePorts_steers _)

theorem rehash_steers (k : KFlit) (b : Body) : Steers b (rehash k b) := by
  unfold rehash
  simp only []
  split
  · exact .of_sends (portSend_within _ _ b)
  · split
    · split
      · exact transferFault_steers _ _ _ _ _ b
      · exact .refl b
    · exact .refl b

theorem portDown_steers (p st : Nat) (b : Body) : Steers b (portDown p st b) := by
  have hlevel : ∀ x (c : Body), Steers c (setF c R.KLK_PORT_STATUS.level p x) := fun x c => setF_steers (by decide) (by decide) (by decide) (by decide) p x c
  unfold portDown
  exact (((updPort_steers _ _ b).trans (hlevel _ _)).trans (setPortState_steers _ _ _)).trans (Steers.forEach rehash_steers _ _)

theorem writeRun_steers (st : Nat) (v : Bool) (b : Body) : Steers b (writeRun st v b) := .of_within (writeRun_within st v b) (by decide) (by decide) (by decide) (by decide)

theorem stopAllStations_steers (b : Body) : Steers b (stopAllStations b) := Steers.forEach (fun st c => writeRun_steers st false c) _ b

theorem clockStop_steers (isl : Island) (b : Body) : Steers b (clockStop isl b) := by
  have hstop : ∀ c : Body, Steers c { c with stopped := if c.stopped.contains isl then c.stopped else c.stopped ++ [isl] } := fun c => steers_of_regs rfl rfl
  cases isl with
  | station st => exact ((noteCode_steers st b).trans (hstop _)).trans (setF_steers (by decide) (by decide) (by decide) (by decide) _ _ _)
  | segment d n => exact hstop b
  | _ => exact hstop b

theorem stopDie_steers (d : Nat) (b : Body) : Steers b (stopDie d b) := by
  unfold stopDie
  exact ((Steers.forEach (fun l c => loopStop_steers d l c) _ b).trans (Steers.forEach (fun e c => clockStop_steers _ c) _ _)).trans
    (Steers.forEach (fun st c => (writeRun_steers st false c).trans (clockStop_steers _ _)) _ _)

theorem stopRails_steers (b : Body) : Steers b (stopRails b) := by
  unfold stopRails
  exact (((Steers.forEach stopDie_steers _ b).trans (Steers.forEach (fun e c => Steers.forEach (fun l d => loopStop_steers e l d) _ c) _ _)).trans
    (stopAllStations_steers _)).trans (Steers.forEach (fun p c => .ite (portDown_steers p 3 c) (.refl c)) _ _)

/-! ### The flock is left -/

theorem updFlock_steers (f : Flock → Flock) (b : Body) : Steers b (updFlock f b) := steers_of_regs rfl rfl

theorem updHost_steers (f : HostSide → HostSide) (b : Body) : Steers b (updHost f b) := steers_of_regs rfl rfl

theorem strokeStop_steers (b : Body) : Steers b (strokeStop b) := by
  have hstate : ∀ c : Body, Steers c (setF c R.TLY_STROKE_STATUS.state 0 0) := setF_steers (by decide) (by decide) (by decide) (by decide) 0 0
  unfold strokeStop
  exact (((Steers.ite (raiseVec_steers _ b) (.refl b)).trans (updHost_steers _ _)).trans (updFlock_steers _ _)).trans (hstate _)

theorem noteRun_steers (old b : Body) : Steers b (noteRun old b) := .of_within (noteRun_within old b) (by decide) (by decide) (by decide) (by decide)

theorem endRequests_steers (f : Nat → Bool) (b : Body) : Steers b (endRequests f b) := by
  refine Steers.forEach (fun e c => ?_) _ b
  split
  · exact .refl c
  · exact transferFault_steers _ _ _ _ _ c

theorem endMirrorWaits_steers (b : Body) : Steers b (endMirrorWaits b) := by
  have hstk : ∀ k f (c : Body), Steers c (updStk c k f) := fun k f c => steers_of_regs rfl rfl
  exact Steers.forEach (fun k c => (hstk k _ c).trans (Steers.forEach (fun w d => transferFault_steers _ _ _ _ _ d) _ _)) _ b

theorem holdPort_steers (p : Nat) (b : Body) : Steers b (holdPort p b) := by
  have hlevel : ∀ c : Body, Steers c (setF c R.KLK_PORT_STATUS.level p 0) := setF_steers (by decide) (by decide) (by decide) (by decide) p 0
  exact ((updPort_steers p _ b).trans (hlevel _)).trans (setPortState_steers p 7 _)

theorem portsHeld_steers (b : Body) : Steers b (portsHeld b) := by
  have hflags : ∀ c : Body, Steers c (forEach (List.range 4) (fun n b => setFlag b R.KLK_DIE_STATUS.isolated n true) c) :=
    Steers.forEach (fun n c => setF_steers (by decide) (by decide) (by decide) (by decide) n _ c) _
  have hlast : ∀ c : Body, Steers c (updFlock (fun f => { f with barred := true })
      { c with korrel := { c.korrel with probes := [], everUp := false }, fabric := c.fabric.filter (fun f => f.via.isNone) }) := fun c => steers_of_regs rfl rfl
  exact ((hflags b).trans (Steers.forEach holdPort_steers _ _)).trans (hlast _)

theorem isolateModule_steers (b : Body) : Steers b (isolateModule b) := by
  unfold isolateModule
  split
  · exact .refl b
  · exact (((((portsHeld_steers b).trans (endRequests_steers _ _)).trans (endMirrorWaits_steers _)).trans (strokeStop_steers _)).trans
      (noteRun_steers b _)).trans (report_steers _ _)

theorem updFail_steers (f : Failover → Failover) (b : Body) : Steers b (updFail f b) := steers_of_regs rfl rfl

theorem keepRecord_steers (r : FailRecord) (b : Body) : Steers b (keepRecord r b) := by
  unfold keepRecord
  exact ((updFail_steers _ b).trans (logRec_steers _ _ _)).trans (raiseVec_steers _ _)

theorem disable_steers (b : Body) : Steers b (writeEnable false b) := by
  have hoff : Steers b (setFlag b R.TLY_STROKE_CTRL.enable 0 false) := setF_steers (by decide) (by decide) (by decide) (by decide) 0 _ b
  unfold writeEnable
  exact (hoff.trans (strokeStop_steers _)).trans (noteRun_steers b _)

theorem leaveFlock_steers (r : FailRecord) (b : Body) : Steers b (leaveFlock r b) := by
  unfold leaveFlock
  exact ((((isolateModule_steers b).trans (Steers.forEach (fun st c => writeRun_steers st false c) _ _)).trans (disable_steers _)).trans
    (updFail_steers _ _)).trans (keepRecord_steers _ _)

theorem powerLeave_steers (b : Body) : Steers b (powerLeave b) := by
  unfold powerLeave
  exact .ite (leaveFlock_steers _ b) (.refl b)

/-! ### Opening the pack (R355) -/

theorem portLimits_steers (b : Body) : Steers b (portLimits b) := by
  have hchg : ∀ v (c : Body), Steers c (setFlag c R.STP_STATUS.chg_limit 0 v) := fun v c => setF_steers (by decide) (by decide) (by decide) (by decide) 0 _ c
  have hdis : ∀ v (c : Body), Steers c (setFlag c R.STP_STATUS.dis_limit 0 v) := fun v c => setF_steers (by decide) (by decide) (by decide) (by decide) 0 _ c
  unfold portLimits
  exact ((hchg _ b).trans (hdis _ _)).trans (noteWindow_steers 2 _)

theorem packVolts_steers (n : Nat) (b : Body) : Steers b (setF b R.STP_PACK_V.mv 0 n) := setF_steers (by decide) (by decide) (by decide) (by decide) 0 n b

theorem packAmps_steers (n : Nat) (b : Body) : Steers b (setF b R.STP_PACK_I.ma 0 n) := setF_steers (by decide) (by decide) (by decide) (by decide) 0 n b

theorem drawFree_steers (b : Body) : Steers b (drawFree b).2 := steers_of_regs rfl rfl

theorem dischargeCap_steers (b : Body) : Steers b (dischargeCap b) := (drawFree_steers b).trans (packVolts_steers _ _)

/-- No recovery charge is in progress. -/
def unrecovering (p : PowerPath) : PowerPath := { p with recovery := false }

/-- The body in which the pack is noted open. -/
def opened (b : Body) : Body := updPath unrecovering (setF (setFlag b R.STP_CTRL.close 0 false) R.STP_STATUS.state 0 0)

theorem Steers.opened {c : Body} (h : Steers b c) : Steers (opened b) (opened c) :=
  ((h.setF (f := R.STP_CTRL.close) (by decide) (by decide) (by decide) 0 _).setF (f := R.STP_STATUS.state) (by decide) (by decide) (by decide) 0 0).updPath unrecovering

theorem contactorsOpen_steers (b : Body) : Steers (opened b) (contactorsOpen b) := by
  have haux : ∀ c : Body, Steers c (setFlag (setFlag c R.STP_STATUS.aux_pos 0 false) R.STP_STATUS.aux_neg 0 false) := fun c =>
    (setF_steers (by decide) (by decide) (by decide) (by decide) 0 _ c).trans (setF_steers (by decide) (by decide) (by decide) (by decide) 0 _ _)
  have hstate := (haux (setFlag b R.STP_CTRL.close 0 false)).setF (f := R.STP_STATUS.state) (by decide) (by decide) (by decide) 0 0
  unfold contactorsOpen
  exact (((hstate.trans (dischargeCap_steers _)).trans (packAmps_steers 0 _)).updPath unrecovering).trans (portLimits_steers _)

/-- The body in which an order to open the pack is carried out. -/
def packOpened (b : Body) : Body := if getF b R.STP_STATUS.state 0 = 0 then setFlag b R.STP_CTRL.close 0 false else opened b

theorem openPack_steers (b : Body) : Steers (packOpened b) (openPack b) := by
  have hidle : Steers b (pgTarget 17 1 (bfRat 0 1) (loopModeWrite 17 1 2 (setF b R.STP_PACK_I.ma 0 0))) :=
    ((packAmps_steers 0 b).trans (loopModeWrite_steers _ _ _ _)).trans (pgTarget_steers _ _ _ _)
  unfold packOpened openPack
  split
  · exact .refl _
  · exact hidle.opened.trans (contactorsOpen_steers _)

/-! ### What an action of the power path leaves, beside some fields -/

/-- Going from `b` to `c`, no field but those that the power path's actions and `fs` name changes, and neither an interrupt cause nor a step of
start-up is taken back; the cell monitors and the ring master are as before. -/
structure Acts (fs : List Field) (b c : Body) : Prop where
  fields : FieldsBut (fs ++ steerFields) b c
  causes : ∀ v, v < 30 → bit (getF b R.IRQ_CAUSE.cause 0) v = true → bit (getF c R.IRQ_CAUSE.cause 0) v = true
  steps : ∀ n, n ≤ 10 → stepIsDone b n = true → stepIsDone c n = true
  cells : c.cells = b.cells

theorem Steers.acts {fs : List Field} {c : Body} (h : Steers b c) : Acts fs b c where
  fields f j hf hn := h.fields f j hf fun hm => hn (List.map_subset _ (List.subset_append_right _ _) hm)
  causes := h.causes
  steps := h.steps
  cells := h.cells

namespace Acts

variable {fs : List Field} {c d : Body}

theorem refl (fs : List Field) (b : Body) : Acts fs b b := (Steers.refl b).acts

theorem trans (h : Acts fs b c) (k : Acts fs c d) : Acts fs b d :=
  ⟨fun f j hf hn => (k.fields f j hf hn).trans (h.fields f j hf hn), fun v hv => k.causes v hv ∘ h.causes v hv, fun n hn => k.steps n hn ∘ h.steps n hn,
    k.cells.trans h.cells⟩

theorem steers (h : Acts fs b c) (k : Steers c d) : Acts fs b d := h.trans k.acts

theorem ite {P : Prop} [Decidable P] (h : Acts fs b c) (k : Acts fs b d) : Acts fs b (if P then c else d) := by
  split <;> assumption

theorem setF (h : Acts fs b c) {f : Field} (hm : f ∈ fs) (hlt : f.idx < 1024) (hi : R.IRQ_CAUSE.cause.idx ≠ f.idx) (hd : R.SHP_STARTUP.done.idx ≠ f.idx) (i v : Nat) :
    Acts fs b (setF c f i v) where
  fields g j hg hn := by
    rw [getF_setF_other _ _ hlt hg fun he => hn (he ▸ List.mem_map_of_mem (List.mem_append_left _ hm))]
    exact h.fields g j hg hn
  causes w hw hset := by
    rw [getF_setF_other _ _ hlt (by decide) hi]
    exact h.causes w hw hset
  steps n hn hset := by
    unfold stepIsDone
    rw [getF_setF_other _ _ hlt (by decide) hd]
    exact h.steps n hn hset
  cells := h.cells

theorem updPath (h : Acts fs b c) (f : PowerPath → PowerPath) : Acts fs b (updPath f c) := ⟨h.fields, h.causes, h.steps, h.cells⟩

theorem mono {gs : List Field} (h : Acts fs b c) (hs : fs ⊆ gs) : Acts gs b c :=
  ⟨fun f j hf hn => h.fields f j hf fun hm => hn (by
    rw [List.map_append] at hm ⊢
    exact (List.mem_append.1 hm).elim (fun hm => List.mem_append_left _ (List.map_subset _ hs hm)) (fun hm => List.mem_append_right _ hm)), h.causes, h.steps, h.cells⟩

theorem getF_eq (h : Acts fs b c) {f : Field} (hf : f.idx < 1024) (hn : f.idx ∉ (fs ++ steerFields).map Field.idx) (i : Nat) : getF c f i = getF b f i :=
  h.fields f i hf hn

theorem flagF_eq (h : Acts fs b c) {f : Field} (hf : f.idx < 1024) (hn : f.idx ∉ (fs ++ steerFields).map Field.idx) (i : Nat) : flagF c f i = flagF b f i :=
  congrArg (· == 1) (h.fields f i hf hn)

end Acts

/-- The fields that an order to open the pack sets. -/
def openFields : List Field := [R.STP_CTRL.close, R.STP_STATUS.state]

theorem opened_acts (b : Body) : Acts openFields b (opened b) :=
  (((Acts.refl _ b).setF (by decide) (by decide) (by decide) (by decide) 0 _).setF (by decide) (by decide) (by decide) (by decide) 0 0).updPath unrecovering

theorem packOpened_acts (b : Body) : Acts openFields b (packOpened b) :=
  .ite ((Acts.refl _ b).setF (by decide) (by decide) (by decide) (by decide) 0 _) (opened_acts b)

theorem opened_state (b : Body) : getF (opened b) R.STP_STATUS.state 0 = 0 := by
  show getF (setF (setFlag b R.STP_CTRL.close 0 false) R.STP_STATUS.state 0 0) R.STP_STATUS.state 0 = 0
  exact getF_setF_fits (by decide)

theorem opened_close (b : Body) : flagF (opened b) R.STP_CTRL.close 0 = false := by
  show flagF (setF (setFlag b R.STP_CTRL.close 0 false) R.STP_STATUS.state 0 0) R.STP_CTRL.close 0 = false
  rw [flagF_setF_other _ _ (by decide) (by decide) (by decide)]
  exact flagF_setFlag_same _ _ _ _ (by decide)

theorem packOpened_state (b : Body) : getF (packOpened b) R.STP_STATUS.state 0 = 0 := by
  unfold packOpened
  split
  next h => rw [getF_setFlag_other _ _ (by decide) (by decide) (by decide), h]
  · exact opened_state b

theorem packOpened_close (b : Body) : flagF (packOpened b) R.STP_CTRL.close 0 = false := by
  unfold packOpened
  split
  · exact flagF_setFlag_same _ _ _ _ (by decide)
  · exact opened_close b

theorem packOpened_path (b : Body) : ∃ r, (packOpened b).cox.path = { b.cox.path with recovery := r } := by
  unfold packOpened
  split
  · exact ⟨b.cox.path.recovery, rfl⟩
  · exact ⟨false, rfl⟩

/-! ### State no_pack and pack_off (R358, R359) -/

/-- The fields by which the converter cells hold the bus. -/
def holdFields : List Field := [R.COX_LOOP_CFG.pg, R.COX_LOOP_REF_STATIC.ref]

/-- The body in which the converter cells are given the bus to hold. -/
def busHeld (b : Body) : Body :=
  if b.cox.path.inputAbsent then b else setF (setF b R.COX_LOOP_CFG.pg (lix 16 2) 15) R.COX_LOOP_REF_STATIC.ref (lix 16 2) (bfRat 54 1)

theorem busHeld_acts (b : Body) : Acts holdFields b (busHeld b) :=
  .ite (.refl _ b) (((Acts.refl _ b).setF (by decide) (by decide) (by decide) (by decide) _ _).setF (by decide) (by decide) (by decide) (by decide) _ _)

theorem busHeld_path (b : Body) : (busHeld b).cox.path = b.cox.path := by
  unfold busHeld
  split <;> rfl

theorem enterNoPack_steers (b : Body) : Steers (inPower 11 (busHeld b)) (enterNoPack b) := by
  have hbus : Steers (busHeld b) (if b.cox.path.inputAbsent then b
      else loopModeWrite 16 2 2 (setF (setF b R.COX_LOOP_CFG.pg (lix 16 2) 15) R.COX_LOOP_REF_STATIC.ref (lix 16 2) (bfRat 54 1))) := by
    unfold busHeld
    split
    · exact .refl b
    · exact loopModeWrite_steers _ _ _ _
  have hidle := ((hbus.trans (loopModeWrite_steers 17 1 2 _)).trans (pgTarget_steers 17 1 (bfRat 0 1) _)).trans (stopAllStations_steers _)
  unfold enterNoPack
  exact ((hidle.inPower 11).trans (setPower_steers (by decide) _)).trans (noteWindow_steers 3 _)

/-- What state no_pack shows. -/
theorem enterNoPack_shows (b : Body) : Acts (R.GBL_STATUS.power_state :: holdFields) b (enterNoPack b) ∧ power (enterNoPack b) = 11
    ∧ (enterNoPack b).cox.path = b.cox.path := by
  have hs := enterNoPack_steers b
  refine ⟨Acts.steers ?_ hs, hs.power_eq.trans (power_inPower (by decide) _), hs.path.trans (busHeld_path b)⟩
  exact ((busHeld_acts b).mono (by decide)).setF (by decide) (by decide) (by decide) (by decide) 0 11

/-- The fields that pack_off changes beside those of the actions of the power path. -/
def packFields : List Field := R.GBL_STATUS.power_state :: (openFields ++ holdFields)

/-- What pack_off shows. -/
structure PackOff (b c : Body) : Prop where
  acts : Acts packFields b c
  path : ∃ r, c.cox.path = { b.cox.path with recovery := r, packOff := true }
  state : getF c R.STP_STATUS.state 0 = 0
  power : power c = if 4 ≤ power b ∧ power b ≤ 8 then 11 else power b

theorem packOff_shows (b : Body) : PackOff b (packOff b) := by
  obtain ⟨c, hc⟩ : ∃ c, powerLeave (updPath (fun p => { p with packOff := true }) (openPack b)) = c := ⟨_, rfl⟩
  have hs : Steers (updPath (fun p => { p with packOff := true }) (packOpened b)) c := hc ▸ ((openPack_steers b).updPath _).trans (powerLeave_steers _)
  have hacts : Acts packFields b c := (((packOpened_acts b).mono (by decide)).updPath _).steers hs
  obtain ⟨r, hr⟩ := packOpened_path b
  have hpath : c.cox.path = { b.cox.path with recovery := r, packOff := true } :=
    hs.path.trans (congrArg (fun p : PowerPath => { p with packOff := true }) hr)
  have hstate : getF c R.STP_STATUS.state 0 = 0 := hs.storage_eq.trans (packOpened_state b)
  have hpower : power c = power b := hs.power_eq.trans ((packOpened_acts b).getF_eq (by decide) (by decide) 0)
  have hx : packOff b = if 4 ≤ power c ∧ power c ≤ 8 then enterNoPack c else c := by
    rw [← hc]
    rfl
  rw [hx, hpower]
  split
  next h =>
    obtain ⟨hno, hpow, hpath'⟩ := enterNoPack_shows c
    refine ⟨hacts.trans (hno.mono (by decide)), ⟨r, hpath'.trans hpath⟩, (hno.getF_eq (by decide) (by decide) 0).trans hstate, ?_⟩
    rw [if_pos h]
    exact hpow
  next h =>
    refine ⟨hacts, ⟨r, hpath⟩, hstate, ?_⟩
    rw [if_neg h]
    exact hpower

end Stops

end Sys2Proof.Machine

/-! SUPPORT. The stop of the module and of its blocks (O45 to O47). -/

namespace Sys2Proof.Machine

section ModuleStop

variable {b : Body}

/-! ### Loops that stand still -/

/-- A loop is off. -/
def IsOff (e l : Nat) (b : Body) : Prop := getF b R.COX_LOOP_MODE.mode (lix e l) = 0

theorem IsOff.within {e l : Nat} {c : Body} {ps : List Part} {fs : List Field} (h : IsOff e l b) (hw : Within ps fs b c)
    (hf : R.COX_LOOP_MODE.mode.idx ∉ fs.map Field.idx) : IsOff e l c := (hw.getF_eq (by decide) hf _).trans h

theorem IsOff.updPath {e l : Nat} (h : IsOff e l b) (f : PowerPath → PowerPath) : IsOff e l (updPath f b) := h

theorem loopStop_isOff (e l : Nat) (b : Body) : IsOff e l (loopStop e l b) := by
  unfold IsOff loopStop
  rw [getF_setF_other _ _ (by decide) (by decide) (by decide), getF_setF_other _ _ (by decide) (by decide) (by decide), getF_setF_same, Nat.zero_mod]

theorem IsOff.loopStop {e l : Nat} (h : IsOff e l b) (e' l' : Nat) : IsOff e l (loopStop e' l' b) := by
  by_cases hi : lix e l = lix e' l'
  · have := loopStop_isOff e' l' b
    unfold IsOff at this ⊢
    rwa [hi]
  · unfold IsOff Machine.loopStop
    rw [getF_setF_other _ _ (by decide) (by decide) (by decide), getF_setF_other _ _ (by decide) (by decide) (by decide), getF_setF_instance _ _ _ _ _ hi]
    exact h

theorem clockStop_within (isl : Island) (b : Body) : Within [.regs, .stopped] [R.STN_CLK_STATUS.min_eff_code, R.STN_STATUS.stretching] b (clockStop isl b) := by
  have hnote : ∀ st, Within [.regs, .stopped] [R.STN_CLK_STATUS.min_eff_code, R.STN_STATUS.stretching] b (noteCode st b) := fun st => by
    unfold noteCode
    exact whenB_within (setF_within _ _ b (by decide) (by decide) (by decide))
  have hstop : ∀ c : Body, Within [.regs, .stopped] [R.STN_CLK_STATUS.min_eff_code, R.STN_STATUS.stretching] c (stopIsland isl c) := fun c =>
    ⟨fun q => by cases q <;> first | exact .inl (by decide) | exact .inr rfl, fun _ _ _ _ => rfl⟩
  cases isl with
  | station st => exact ((hnote st).trans (hstop _)).setF (by decide) (by decide) (by decide) _ _
  | _ => exact hstop b

/-- The fields that a port which goes down changes. -/
def downFields : List Field := R.KLK_PORT_STATUS.level :: (portFields ++ workFields)

theorem rehash_within (k : KFlit) (b : Body) : Within workParts downFields b (rehash k b) := by
  unfold rehash
  simp only []
  split
  · exact (portSend_within _ _ b).mono (by decide) (by decide)
  · split
    · split
      · exact (transferFault_within _ _ _ _ _ b).mono (by decide) (by decide)
      · exact .refl _ _ b
    · exact .refl _ _ b

theorem portDown_within (p st : Nat) (b : Body) : Within workParts downFields b (portDown p st b) := by
  have hlevel : ∀ c : Body, Within workParts downFields c (setF c R.KLK_PORT_STATUS.level p 0) := fun c => setF_within _ _ c (by decide) (by decide) (by decide)
  unfold portDown
  exact (((updPort_within p _ b).mono (by decide) (by decide)).trans ((hlevel _).trans ((setPortState_within p _ _).mono (by decide) (by decide)))).trans
    (forEach_within rehash_within _ _)

theorem stopDie_isOff {d l : Nat} (hl : l < 4) (b : Body) : IsOff d l (stopDie d b) := by
  have hloops : IsOff d l (forEach [0, 1, 2, 3] (loopStop d) b) := by
    refine forEach_visits (P := fun _ => True) (Q := IsOff d l) (v := l) (by decide) (by simp; omega) (fun _ _ _ _ => trivial) (fun c _ => loopStop_isOff d l c)
      (fun x _ c hc => hc.loopStop d x) trivial
  unfold stopDie
  refine forEach_keeps (P := IsOff d l) (fun st _ c hc => (hc.within (writeRun_within st false c) (by decide)).within (clockStop_within _ _) (by decide)) ?_
  exact forEach_keeps (P := IsOff d l) (fun e _ c hc => hc.within (clockStop_within _ _) (by decide)) hloops

theorem IsOff.stopDie {e l : Nat} (h : IsOff e l b) (d : Nat) : IsOff e l (stopDie d b) := by
  unfold Machine.stopDie
  refine forEach_keeps (P := IsOff e l) (fun st _ c hc => (hc.within (writeRun_within st false c) (by decide)).within (clockStop_within _ _) (by decide)) ?_
  refine forEach_keeps (P := IsOff e l) (fun x _ c hc => hc.within (clockStop_within _ _) (by decide)) ?_
  exact forEach_keeps (P := IsOff e l) (fun x _ c hc => hc.loopStop d x) h

theorem stopRails_isOff {e l : Nat} (he : e < 16) (hl : l < 4) (b : Body) : IsOff e l (stopRails b) := by
  have hdies : IsOff e l (forEach (List.range 16) stopDie b) :=
    forEach_visits (P := fun _ => True) (Q := IsOff e l) List.nodup_range (List.mem_range.2 he) (fun _ _ _ _ => trivial) (fun c _ => stopDie_isOff hl c)
      (fun d _ c hc => hc.stopDie d) trivial
  unfold stopRails
  refine forEach_keeps (P := IsOff e l) (fun p _ c hc => ?_) ?_
  · split
    · exact hc.within (portDown_within p 3 c) (by decide)
    · exact hc
  · refine forEach_keeps (P := IsOff e l) (fun st _ c hc => hc.within (writeRun_within st false c) (by decide)) ?_
    exact forEach_keeps (P := IsOff e l) (fun x _ c hc => forEach_keeps (P := IsOff e l) (fun k _ d hd => hd.loopStop x k) hc) hdies

/-! ### The power state and the window -/

theorem setPower_within (n : Nat) (b : Body) : Within [.regs, .host, .logbook, .rack, .sent] [R.GBL_STATUS.power_state, R.IRQ_CAUSE.cause] b (setPower n b) := by
  unfold setPower
  simp only []
  split
  · exact .refl _ _ b
  · have hset : Within [.regs, .host, .logbook, .rack, .sent] [R.GBL_STATUS.power_state, R.IRQ_CAUSE.cause] b
        (setF (updHost (fun h => { h with opBase := hourMs b, opSince := b.now }) b) R.GBL_STATUS.power_state 0 n) := by
      constructor <;> simp (disch := decide)
    have hlog : ∀ bs c, Within [.regs, .host, .logbook, .rack, .sent] [R.GBL_STATUS.power_state, R.IRQ_CAUSE.cause] c (logRec 0x20 bs c) := fun bs c =>
      (logRec_within 0x20 bs c).mono (by decide) (by decide)
    have hvec : ∀ c, Within [.regs, .host, .logbook, .rack, .sent] [R.GBL_STATUS.power_state, R.IRQ_CAUSE.cause] c (raiseVec 22 c) := fun c =>
      (raiseVec_within 22 c).mono (by decide) (by decide)
    have hevent : ∀ old c, Within [.regs, .host, .logbook, .rack, .sent] [R.GBL_STATUS.power_state, R.IRQ_CAUSE.cause] c (sensorEvent 9 old n c) := fun old c =>
      (sensorEvent_within 9 old n c).mono (by decide) (by decide)
    exact .ite (((hset.trans (hlog _ _)).trans (hvec _)).trans (hevent _ _)) hset

theorem noteWindow_within (cause : Nat) (b : Body) : Within [.regs, .host, .logbook, .sent, .ledger] [R.LDG_STATUS.window_lapses, R.IRQ_CAUSE.cause] b (noteWindow cause b) := by
  have hledger : ∀ f c, Within [.regs, .host, .logbook, .sent, .ledger] [R.LDG_STATUS.window_lapses, R.IRQ_CAUSE.cause] c (updLedger f c) := fun f c => by
    constructor <;> simp (disch := decide)
  have hcount : ∀ c : Body, Within [.regs, .host, .logbook, .sent, .ledger] [R.LDG_STATUS.window_lapses, R.IRQ_CAUSE.cause] c (addSat c R.LDG_STATUS.window_lapses 0 1) := fun c => by
    constructor <;> simp (disch := decide)
  unfold noteWindow
  simp only []
  exact .ite (((((hledger _ b).trans (hledger _ _)).trans (hcount _)).trans ((logRec_within _ _ _).mono (by decide) (by decide))).trans
    ((raiseVec_within _ _).mono (by decide) (by decide))) ((hledger _ b).trans (hledger _ _))

/-! ### module_stop (R359) -/

/-- The power path of a module that has stopped. -/
def stoppedPath (p : PowerPath) : PowerPath := { p with cellsRun := false, moduleStop := true }

/-- What the stop of the module shows. -/
structure ModuleStopped (b c : Body) : Prop where
  acts : Acts [R.GBL_STATUS.power_state] b c
  path : c.cox.path = stoppedPath b.cox.path
  power : power c = 10
  loops : ∀ e l, e < 16 → l < 4 → IsOff e l c

theorem moduleStop_shows (h : b.cox.path.moduleStop = false) : ModuleStopped b (moduleStop b) := by
  obtain ⟨c, hc⟩ : ∃ c, updPath (fun p => { p with moduleStop := true }) (stopRails (stopCells b)) = c := ⟨_, rfl⟩
  have hrails : Steers (updPath cellsOff b) (stopRails (stopCells b)) := (stopCells_steers b).trans (stopRails_steers _)
  have hs : Steers (updPath stoppedPath b) c := by
    rw [← hc]
    exact hrails.updPath (fun p => { p with moduleStop := true })
  have hoff : ∀ e l, e < 16 → l < 4 → IsOff e l c := fun e l he hl => by
    rw [← hc]
    exact (stopRails_isOff he hl (stopCells b)).updPath _
  have hx : moduleStop b = noteWindow 3 (setPower 10 c) := by
    unfold moduleStop
    simp only [h, Bool.false_eq_true, if_false, hc]
  have hend : Steers (inPower 10 (updPath stoppedPath b)) (noteWindow 3 (setPower 10 c)) :=
    ((hs.inPower 10).trans (setPower_steers (by decide) c)).trans (noteWindow_steers 3 _)
  rw [hx]
  refine ⟨Acts.steers ?_ hend, hend.path, hend.power_eq.trans (power_inPower (by decide) _), fun e l he hl => ?_⟩
  · exact ((Acts.refl _ b).updPath stoppedPath).setF (by decide) (by decide) (by decide) (by decide) 0 10
  · exact ((hoff e l he hl).within (setPower_within 10 c) (by decide)).within (noteWindow_within 3 _) (by decide)

theorem moduleStop_again (h : b.cox.path.moduleStop = true) : moduleStop b = b := if_pos h

end ModuleStop

end Sys2Proof.Machine

/-! The power path from presence to run and back (O45). -/

namespace Sys2Proof.Machine

section PowerSequence

variable {b : Body} {s : State}

/-! ### The input (R334, R335, R338) -/

theorem updPath_only (f : PowerPath → PowerPath) (b : Body) : Only [.cox] b (updPath f b) := fun q => by cases q <;> first | exact .inl (by decide) | exact .inr rfl

/-- The power path in another state, with all else as it was. -/
theorem path_runs {c : Instr} {f : Body → Body} {g : PowerPath → PowerPath} (hx : exec c s = lift f s) (hf : f s.body = updPath g s.body) :
    Runs c s [.cox] (fun b => b.cox = { s.body.cox with path := g s.body.cox.path }) :=
  runs_of_lift hx hf (updPath_only g s.body) rfl

theorem prechargeStart_takes (h0 : power s.body = 0) (hp : s.body.cox.path.presence = true) (hoc : s.body.cox.path.ocLatched = false) :
    RunsS .prechargeStart s (fun u => power u.body = 1 ∧ u.body.cox.path = { s.body.cox.path with switch := 1, pulled := false, inputAbsent := false }) := by
  have hs := setPower_steers (n := 1) (by decide) (updPath (fun p => { p with switch := 1, pulled := false, inputAbsent := false }) s.body)
  exact runsS_of_lift (f := prechargeStart) rfl (if_pos ⟨h0, hp, by simp [hoc]⟩) ⟨hs.power_eq.trans (power_inPower (by decide) _), hs.path⟩

theorem prechargeComplete_starts (hsw : s.body.cox.path.switch = 1) (h1 : power s.body = 1) : RunsS .prechargeComplete s (fun u => power u.body = 2
    ∧ u.body.cox.path = { s.body.cox.path with switch := 2, inputAbsent := false }) := by
  obtain ⟨c, hc⟩ : ∃ c, updPath (fun p => { p with inputAbsent := false }) (updPath (fun p => { p with switch := 2 }) s.body) = c := ⟨_, rfl⟩
  have hx : prechargeComplete s.body = setPower 2 c := by
    rw [← hc]
    exact (if_pos hsw).trans (if_pos h1)
  have hpath : c.cox.path = { s.body.cox.path with switch := 2, inputAbsent := false } := by
    rw [← hc]
    rfl
  have hs := setPower_steers (n := 2) (by decide) c
  exact runsS_of_lift (f := prechargeComplete) rfl hx ⟨hs.power_eq.trans (power_inPower (by decide) _), hs.path.trans hpath⟩

/-- The fields that a write of a loop's mode changes. -/
def modeFields : List Field := [R.COX_LOOP_MODE.mode, R.COX_LOOP_MODE.state, R.COX_LOOP_MANUAL.manual, R.COX_LOOP_INT.integ]

theorem loopModeWrite_within (e l m : Nat) (b : Body) : Within [.cox, .regs] modeFields b (loopModeWrite e l m b) := by
  have hset : ∀ {f : Field}, f ∈ modeFields → ∀ i x (c : Body), Within [.cox, .regs] modeFields c (setF c f i x) := by
    intro f hf
    fin_cases hf <;> exact fun i x c => setF_within i x c (by decide) (by decide) (by decide)
  have hloop : ∀ f (c : Body), Within [.cox, .regs] modeFields c (updLoop e l f c) := fun f c =>
    ⟨fun q => by cases q <;> first | exact .inl (by decide) | exact .inr rfl, fun _ _ _ _ => rfl⟩
  unfold loopModeWrite
  simp only []
  split
  · exact .refl _ _ b
  · have hmanual : ∀ (P : Prop) [Decidable P], Within [.cox, .regs] modeFields b (if P then setF b R.COX_LOOP_MANUAL.manual (lix e l) (getF b R.COX_LOOP_OUT.out (lix e l)) else b) :=
      fun P _ => .ite (hset (by decide) _ _ b) (.refl _ _ b)
    refine Within.trans ?_ ((hset (by decide) _ _ _).trans (hset (by decide) _ _ _))
    split
    · split
      · exact (hmanual _).trans (hloop _ _)
      · split
        · exact (hmanual _).trans (hloop _ _)
        · exact ((hmanual _).trans (hloop _ _)).trans (hset (by decide) _ _ _)
    · split
      · exact (hmanual _).trans (hloop _ _)
      · exact hmanual _

/-- The fields that the contract's start of the input generator changes. -/
def presetFields : List Field := [R.COX_PG_PRESET.preset, R.COX_PG_POS.x, R.COX_PG_VEL.v, R.COX_PG_ACC.a] ++ pointFields

theorem contractPreset_within (b : Body) : Within [.regs] presetFields b (contractPreset b) := by
  have hset : ∀ {f : Field}, f ∈ [R.COX_PG_PRESET.preset, R.COX_PG_VLIM.v, R.COX_PG_ALIM.a, R.COX_PG_JLIM.j] → ∀ i x (c : Body), Within [.regs] presetFields c (setF c f i x) := by
    intro f hf
    fin_cases hf <;> exact fun i x c => setF_within i x c (by decide) (by decide) (by decide)
  have hput : ∀ x (c : Body), Within [.regs] presetFields c (pgPut 16 0 x c) := fun x c => (pgPut_within 16 0 x c).mono (by decide) (by decide)
  have htarget : ∀ x (c : Body), Within [.regs] presetFields c (pgTarget 16 0 x c) := fun x c => (pgTarget_within 16 0 x c).mono (by decide) (by decide)
  unfold contractPreset contractLimits pgPreset
  exact (((((hset (by simp) _ _ b).trans (hput _ _)).trans (hset (by simp) _ _ _)).trans (hset (by simp) _ _ _)).trans (hset (by simp) _ _ _)).trans (htarget _ _)

theorem stepIsDone_within {ps : List Part} {fs : List Field} {c : Body} (h : Within ps fs b c) (hf : R.SHP_STARTUP.done.idx ∉ fs.map Field.idx) (n : Nat) :
    stepIsDone c n = stepIsDone b n := by
  unfold stepIsDone
  rw [h.getF_eq (by decide) hf]

theorem checkCells_whole (h : b.cox.path.removedCells = []) : checkCells b = b := by
  unfold checkCells
  simp [h]

/-- The power path whose input is back. -/
def inputPath (p : PowerPath) (n : Nat) : PowerPath := { p with inputAbsent := false, cellsRun := !p.moduleStop && decide (3 ≤ n) }

theorem inputBack_shows (h8 : power b = 8) (hcells : b.cox.path.removedCells = []) : power (inputBack b) = (if stepIsDone b 6 then 7 else 6)
    ∧ (inputBack b).cox.path = inputPath b.cox.path 8 ∧ flagF (inputBack b) R.LDG_STATUS.absent 0 = false := by
  obtain ⟨c, hc⟩ : ∃ c, setFlag (updPath (fun p => { p with inputAbsent := false, cellsRun := !p.moduleStop && decide (3 ≤ power b) }) b) R.LDG_STATUS.absent 0 false = c := ⟨_, rfl⟩
  have hcp : power c = 8 := by
    rw [← hc]
    exact (getF_setFlag_other _ _ (by decide) (by decide) (by decide)).trans h8
  have hcpath : c.cox.path = inputPath b.cox.path 8 := by
    rw [← hc, ← h8]
    rfl
  have hcstep : stepIsDone c 6 = stepIsDone b 6 := by
    rw [← hc]
    unfold stepIsDone
    rw [getF_setFlag_other _ _ (by decide) (by decide) (by decide)]
    rfl
  have hcabsent : flagF c R.LDG_STATUS.absent 0 = false := by
    rw [← hc]
    exact flagF_setFlag_same _ _ _ _ (by decide)
  have hstep : stepIsDone (loopModeWrite 16 0 2 (contractPreset c)) 6 = stepIsDone b 6 :=
    (stepIsDone_within (loopModeWrite_within 16 0 2 _) (by decide) 6).trans ((stepIsDone_within (contractPreset_within c) (by decide) 6).trans hcstep)
  have hsteer : Steers c (loopModeWrite 16 0 2 (contractPreset c)) := (contractPreset_steers c).trans (loopModeWrite_steers 16 0 2 _)
  obtain ⟨d, hd⟩ : ∃ d, loopModeWrite 16 0 2 (contractPreset c) = d := ⟨_, rfl⟩
  rw [hd] at hstep hsteer
  obtain ⟨n, hn⟩ : ∃ n, (if stepIsDone b 6 then 7 else 6) = n := ⟨_, rfl⟩
  have hlt : n < 16 := by
    rw [← hn]
    split <;> decide
  have hset := setPower_steers hlt d
  obtain ⟨g, hg⟩ : ∃ g, setPower n d = g := ⟨_, rfl⟩
  rw [hg] at hset
  have hgpath : g.cox.path = inputPath b.cox.path 8 := hset.path.trans (hsteer.path.trans hcpath)
  have hx : inputBack b = noteWindow 3 g := by
    have hback : inputBack b = noteWindow 3 (checkCells (setPower (if stepIsDone (loopModeWrite 16 0 2 (contractPreset c)) 6 then 7 else 6) (loopModeWrite 16 0 2 (contractPreset c)))) := by
      have habsent : ledgerAbsent false (updPath (fun p => { p with inputAbsent := false, cellsRun := !p.moduleStop && decide (3 ≤ power b) }) b) = c := hc
      unfold inputBack
      simp only [habsent, hcp, if_true]
    rw [hback, hd, hstep, hn, hg, checkCells_whole]
    rw [hgpath]
    exact hcells
  have hend := noteWindow_steers 3 g
  rw [hx]
  refine ⟨?_, hend.path.trans hgpath, ?_⟩
  · rw [hend.power_eq, hset.power_eq]
    exact (power_inPower hlt d).trans hn.symm
  · rw [hend.flagF_eq (by decide) (by decide), hset.flagF_eq (by decide) (by decide), inPower, flagF_setF_other _ _ (by decide) (by decide) (by decide),
      hsteer.flagF_eq (by decide) (by decide)]
    exact hcabsent

theorem prechargeComplete_returns (hsw : s.body.cox.path.switch = 1) (h8 : power s.body = 8) (hin : s.body.cox.path.inputAbsent = true)
    (hcells : s.body.cox.path.removedCells = []) (hstop : s.body.cox.path.moduleStop = false) : RunsS .prechargeComplete s (fun u =>
      power u.body = (if stepIsDone s.body 6 then 7 else 6) ∧ u.body.cox.path.inputAbsent = false
        ∧ u.body.cox.path.switch = 2 ∧ u.body.cox.path.cellsRun = true ∧ flagF u.body R.LDG_STATUS.absent 0 = false) := by
  obtain ⟨c, hc⟩ : ∃ c, updPath (fun p => { p with switch := 2 }) s.body = c := ⟨_, rfl⟩
  have hpath : c.cox.path = { s.body.cox.path with switch := 2 } := by
    rw [← hc]
    rfl
  have hx : prechargeComplete s.body = inputBack c := by
    have h1 : ¬ power c = 1 := by
      rw [← hc]
      show ¬ power s.body = 1
      omega
    unfold prechargeComplete
    simp only [hsw, if_true, hc]
    rw [if_neg h1, if_pos (by rw [hpath]; exact hin)]
  obtain ⟨hpow, hp, habsent⟩ := inputBack_shows (b := c) (by rw [← hc]; exact h8) (by rw [hpath]; exact hcells)
  refine runsS_of_lift (f := prechargeComplete) rfl hx ⟨?_, ?_, ?_, ?_, habsent⟩
  · rw [hpow, ← hc]
    rfl
  · rw [hp]
    rfl
  · rw [hp, hpath]
    rfl
  · rw [hp, hpath]
    simp [inputPath, hstop]

/-! ### Trips of the input (R360) -/

/-- What the loss of the input by a trip leaves, for a power state `now` and a state `stp` of the port (R338). -/
def InputTripped (now stp : Nat) (house : Bool) (u : State) : Prop :=
  u.body.cox.path.switch = 0 ∧ u.body.cox.path.inputAbsent = true ∧ u.body.cox.path.cellsRun = false
    ∧ flagF u.body R.LDG_STATUS.absent 0 = true ∧ bit (getF u.body R.IRQ_CAUSE.cause 0) 22 = true
    ∧ power u.body = (if now = 6 ∨ now = 7 ∨ (now = 5 ∧ stp = 2) then 8 else if now = 1 ∧ house = false then 0 else now)

/-- What an over-current trip of the input notes in the power path (R362). -/
def ocNoted (b : Body) (p : PowerPath) : PowerPath :=
  let ts := b.cox.path.ocTimes.filter (fun t => decide (b.now < t + 60000000000)) ++ [b.now]
  { p with ocTimes := ts, ocLatched := p.ocLatched || decide (4 ≤ ts.length), tripped := if 4 ≤ ts.length then setBit p.tripped 2 true else p.tripped }

theorem inputOffTrip_eq (code : Nat) (v : Int) (h9 : power b ≠ 9) : ∃ g : PowerPath → PowerPath, (∀ p, (g p).housekeeping = p.housekeeping)
    ∧ inputOffTrip code v b = inputOff (updPath g (tripRecord code 1 v b)) := by
  have htrip : power (tripRecord code 1 v b) ≠ 9 := by
    rw [(show Steers b (tripRecord code 1 v b) from tripRecord_steers code 1 v b).power_eq]
    exact h9
  have hx : ∀ d, (if code = 3 then updPath (ocNoted (tripRecord code 1 v b)) (tripRecord code 1 v b) else tripRecord code 1 v b) = d →
      inputOffTrip code v b = if power d = 9 then d else inputOff d := by
    rintro d rfl
    rfl
  by_cases hoc : code = 3
  · exact ⟨ocNoted (tripRecord code 1 v b), fun _ => rfl, (hx _ (if_pos hoc)).trans (if_neg htrip)⟩
  · exact ⟨id, fun _ => rfl, (hx _ (if_neg hoc)).trans (if_neg htrip)⟩

theorem inputOffTrip_shows (code : Nat) (v : Int) (h9 : power b ≠ 9) (t : State) (ht : t.body = inputOffTrip code v b) :
    InputTripped (power b) (getF b R.STP_STATUS.state 0) b.cox.path.housekeeping t := by
  obtain ⟨g, hhouse, hx⟩ := inputOffTrip_eq code v h9
  have htrip : Steers b (tripRecord code 1 v b) := tripRecord_steers code 1 v b
  have hpend := tripRecord_pending code 1 v b
  obtain ⟨c, hc⟩ : ∃ c, tripRecord code 1 v b = c := ⟨_, rfl⟩
  rw [hc] at htrip hpend hx
  obtain ⟨hpath, habsent, hpow, hcauses⟩ := inputOff_shows (updPath g c)
  unfold InputTripped
  rw [ht, hx, hpath]
  refine ⟨rfl, rfl, rfl, habsent, hcauses 22 (by decide) hpend, hpow.trans ?_⟩
  have h1 : power (updPath g c) = power b := htrip.power_eq
  have h2 : getF (updPath g c) R.STP_STATUS.state 0 = getF b R.STP_STATUS.state 0 := htrip.storage_eq
  have h3 : (updPath g c).cox.path.housekeeping = b.cox.path.housekeeping := (hhouse _).trans (congrArg PowerPath.housekeeping htrip.path)
  unfold stateWithout
  rw [h1, h2, h3]

theorem prechargeFail_trips (mv : Int) (hsw : s.body.cox.path.switch = 1) (h9 : power s.body ≠ 9) : RunsS (.prechargeFail mv) s
    (InputTripped (power s.body) (getF s.body R.STP_STATUS.state 0) s.body.cox.path.housekeeping) :=
  runsS_of_lift (f := prechargeFail mv) rfl (if_pos hsw) (inputOffTrip_shows 4 mv h9 _ rfl)

theorem inputTrip_acts {c : Instr} {code : Nat} {past : Nat → Bool} {P : Nat → Prop} {v : Int} (hx : exec c s = lift (inputTrip code past v) s)
    (hP : ∀ t, past t = true ↔ P t) (h0 : power s.body ≠ 0) (h9 : power s.body ≠ 9) (hin : s.body.cox.path.inputAbsent = false) :
    (P (tripThreshold s.body code) → RunsS c s (InputTripped (power s.body) (getF s.body R.STP_STATUS.state 0) s.body.cox.path.housekeeping))
      ∧ (¬ P (tripThreshold s.body code) → Runs c s [] (fun b => b = s.body)) := by
  refine ⟨fun hp => ?_, fun hp => runs_same hx (if_neg fun h => hp ((hP _).1 h.1))⟩
  exact runsS_of_lift hx (if_pos ⟨(hP _).2 hp, h0, by simp [hin]⟩) (inputOffTrip_shows code v h9 _ rfl)

theorem inputReturn_precharges (hin : s.body.cox.path.inputAbsent = true) (hoc : s.body.cox.path.ocLatched = false) (hp : s.body.cox.path.presence = true)
    (h0 : power s.body ≠ 0) (h9 : power s.body ≠ 9) :
    Runs .inputReturn s [.cox] (fun b => b.cox = { s.body.cox with path := { s.body.cox.path with switch := 1 } }) :=
  path_runs (f := inputReturn) (g := fun p => { p with switch := 1 }) rfl ((if_pos ⟨hin, by simp [hoc], hp, h9⟩).trans (if_neg h0))

/-! ### Steps of start-up -/

theorem stepFailed_shows (n : Nat) (b : Body) : Within [.regs] [R.SHP_STARTUP.failed_step, R.SHP_STARTUP.failed] b (stepFailed n b)
    ∧ flagF (stepFailed n b) R.SHP_STARTUP.failed 0 = true := by
  have hstep : ∀ (P : Prop) [Decidable P], Within [.regs] [R.SHP_STARTUP.failed_step, R.SHP_STARTUP.failed] b (if P then setF b R.SHP_STARTUP.failed_step 0 n else b) :=
    fun P _ => .ite (setF_within _ _ b (by decide) (by decide) (by decide)) (.refl _ _ b)
  unfold stepFailed
  exact ⟨(hstep _).setF (by decide) (by decide) (by decide) _ _, flagF_setFlag_same _ _ _ _ (by decide)⟩

theorem stepIsDone_stepDone {n : Nat} (hn : n ≤ 10) (b : Body) : stepIsDone (stepDone n b) n = true := by
  unfold stepIsDone stepDone
  rw [getF_setF_same, bit_mod_two_pow (n := R.SHP_STARTUP.done.width) _ (by show n - 1 < 10; omega), bit_setBit, if_pos rfl]

theorem packFault_shows (n : Nat) (b : Body) : Within [.regs, .logbook] [R.STP_STATUS.pack_fault] b (packFault n b) ∧ flagF (packFault n b) R.STP_STATUS.pack_fault 0 = true := by
  have hset : Within [.regs, .logbook] [R.STP_STATUS.pack_fault] b (setFlag b R.STP_STATUS.pack_fault 0 true) := setF_within _ _ b (by decide) (by decide) (by decide)
  have hlog := logRec_within 0x30 [3, 0, BitVec.ofNat 8 n] (setFlag b R.STP_STATUS.pack_fault 0 true)
  unfold packFault
  refine ⟨hset.trans (hlog.mono (by decide) (by decide)), (hlog.flagF_eq (by decide) (by decide) 0).trans (flagF_setFlag_same _ _ _ _ (by decide))⟩

theorem Acts.of_within {ps : List Part} {fs gs : List Field} {c : Body} (h : Within ps gs b c) (hf : gs ⊆ fs)
    (hi : R.IRQ_CAUSE.cause.idx ∉ gs.map Field.idx) (hd : R.SHP_STARTUP.done.idx ∉ gs.map Field.idx) (hc : Part.cells ∉ ps := by decide) : Acts fs b c where
  fields := (h.mono (List.Subset.refl _) (fun _ hm => List.mem_append_left _ (hf hm))).fields
  causes v _ hv := by rwa [h.getF_eq (by decide) hi]
  steps n _ hn := by rwa [stepIsDone_within h hd]
  cells := h.same (p := .cells) hc

/-! ### The bus (R358) -/

theorem busStart_fails (h2 : power s.body = 2) (hact : shepherdActive s.body = true) (hstep : stepIsDone s.body 2 = true)
    (hcells : 3 ≤ s.body.cox.path.removedCells.length) : RunsS .busStart s (fun u => power u.body = 10 ∧ flagF u.body R.SHP_STARTUP.failed 0 = true) := by
  have hx : busStart s.body = setPower 10 (stepFailed 3 s.body) := by
    unfold busStart
    rw [if_neg (by simp [h2, hact, hstep]), if_pos (.inr (.inr hcells))]
  have hfailed := (stepFailed_shows 3 s.body).2
  obtain ⟨d, hd⟩ : ∃ d, stepFailed 3 s.body = d := ⟨_, rfl⟩
  rw [hd] at hx hfailed
  have hs := setPower_steers (n := 10) (by decide) d
  have hflag : flagF (setPower 10 d) R.SHP_STARTUP.failed 0 = true := by
    rw [hs.flagF_eq (by decide) (by decide), inPower, flagF_setF_other _ _ (by decide) (by decide) (by decide)]
    exact hfailed
  exact runsS_of_lift (f := busStart) rfl hx ⟨hs.power_eq.trans (power_inPower (by decide) _), hflag⟩

theorem busStart_starts (h2 : power s.body = 2) (hact : shepherdActive s.body = true) (hstep : stepIsDone s.body 2 = true)
    (hstop : s.body.cox.path.moduleStop = false) (hcheck : s.body.cox.path.checkFailed = false) (hcells : s.body.cox.path.removedCells.length < 3) :
    RunsS .busStart s (fun u => power u.body = 3 ∧ u.body.cox.path.cellsRun = true ∧ ∀ e, e < 20 → flagF u.body R.COX_CTRL.engine_en e = true) := by
  obtain ⟨c, hc⟩ : ∃ c, forEach (List.range 20) (fun e b => setFlag b R.COX_CTRL.engine_en e true) s.body = c := ⟨_, rfl⟩
  have hen : ∀ e, e < 20 → flagF c R.COX_CTRL.engine_en e = true := fun e he => by
    rw [← hc, flagF_forEach_setFlag (by decide), if_pos (List.mem_range.2 he)]
  obtain ⟨d, hd⟩ : ∃ d, setF (setF (updPath (fun p => { p with cellsRun := true }) (setPower 3 c)) R.COX_SOFT_ILIM.ilim (lix 16 2) (bfRat 40 1)) R.COX_LOOP_CFG.pg (lix 16 2) 0 = d :=
    ⟨_, rfl⟩
  have hset := setPower_steers (n := 3) (by decide) c
  have hcd : Acts [R.GBL_STATUS.power_state, R.COX_LOOP_CFG.pg] c d := by
    rw [← hd]
    have h1 : Acts [R.GBL_STATUS.power_state, R.COX_LOOP_CFG.pg] c (setPower 3 c) :=
      ((Acts.refl _ c).setF (by decide) (by decide) (by decide) (by decide) 0 3).steers hset
    exact ((h1.updPath _).steers (setF_steers (by decide) (by decide) (by decide) (by decide) _ _ _)).setF (by decide) (by decide) (by decide) (by decide) _ _
  have hdpow : power d = 3 := by
    rw [← hd]
    unfold power
    rw [getF_setF_other _ _ (by decide) (by decide) (by decide), getF_setF_other _ _ (by decide) (by decide) (by decide)]
    exact hset.power_eq.trans (power_inPower (by decide) c)
  have hdrun : d.cox.path.cellsRun = true := by
    rw [← hd]
    rfl
  have hend : Steers d (loopModeWrite 16 2 2 (softStart 16 0 (bfRat 54 1) (bfRat 5000 1) (bfRat 1000000 1) (bfRat (10 ^ 9) 1) (pgOwner 16 0 0 d))) :=
    ((pgOwner_steers 16 0 0 d).trans (softStart_steers _ _ _ _ _ _ _)).trans (loopModeWrite_steers _ _ _ _)
  have hx : busStart s.body = loopModeWrite 16 2 2 (softStart 16 0 (bfRat 54 1) (bfRat 5000 1) (bfRat 1000000 1) (bfRat (10 ^ 9) 1) (pgOwner 16 0 0 d)) := by
    unfold busStart
    rw [if_neg (by simp [h2, hact, hstep]), if_neg (by simp [hstop, hcheck]; omega)]
    simp only [hc, hd]
  refine runsS_of_lift (f := busStart) rfl hx ⟨hend.power_eq.trans hdpow, (congrArg PowerPath.cellsRun hend.path).trans hdrun, fun e he => ?_⟩
  exact (hend.flagF_eq (by decide) (by decide) e).trans ((hcd.flagF_eq (by decide) (by decide) e).trans (hen e he))

/-! ### The pack (R351 to R355) -/

/-- The body in which no retry of the pack's check is due. -/
def untried (b : Body) : Body := updPath (fun p => { p with checkTried := false }) b

variable {c : Instr} {retry : Bool}

theorem packCheck_passes (hx : exec c s = lift (packCheck retry) s) (h4 : power s.body = 4) (hact : shepherdActive s.body = true)
    (htried : s.body.cox.path.checkTried = retry) (hring : ringItem s.body = true) (htemp : temperatureItem s.body = true) (hfault : faultItem s.body = none) :
    RunsS c s (fun u => power u.body = 5 ∧ stepIsDone u.body 4 = true
      ∧ u.body.cox.path.recovery = (List.range 32).any (fun i => decide (lowerReading s.body i < 25000))) := by
  obtain ⟨d, hd⟩ : ∃ d, stepDone 4 (updPath (fun p => { p with recovery := (List.range 32).any (fun i => decide (lowerReading s.body i < 25000)) }) (untried s.body)) = d := ⟨_, rfl⟩
  have hf : packCheck retry s.body = setPower 5 d := by
    unfold packCheck
    rw [if_neg (by simp [h4, hact, htried]), if_neg (by simp [hring, htemp])]
    simp only [show faultItem (updPath (fun p => { p with checkTried := false }) s.body) = none from hfault]
    exact congrArg (setPower 5) hd
  have hs := setPower_steers (n := 5) (by decide) d
  have hdone : stepIsDone (inPower 5 d) 4 = true := by
    unfold stepIsDone
    rw [inPower, getF_setF_other _ _ (by decide) (by decide) (by decide), ← hd]
    exact stepIsDone_stepDone (by decide) _
  have hrec : d.cox.path.recovery = (List.range 32).any (fun i => decide (lowerReading s.body i < 25000)) := by
    rw [← hd]
    rfl
  exact runsS_of_lift hx hf ⟨hs.power_eq.trans (power_inPower (by decide) d), hs.steps 4 (by decide) hdone, (congrArg PowerPath.recovery hs.path).trans hrec⟩

theorem packCheck_finds {i : Nat} (hx : exec c s = lift (packCheck retry) s) (h4 : power s.body = 4) (hact : shepherdActive s.body = true)
    (htried : s.body.cox.path.checkTried = retry) (hring : ringItem s.body = true) (htemp : temperatureItem s.body = true) (hfault : faultItem s.body = some i) :
    RunsS c s (fun u => power u.body = 11 ∧ flagF u.body R.STP_STATUS.pack_fault 0 = true ∧ flagF u.body R.SHP_STARTUP.failed 0 = true) := by
  have hf : packCheck retry s.body = enterNoPack (stepFailed 4 (packFault i (untried s.body))) := by
    unfold packCheck
    rw [if_neg (by simp [h4, hact, htried]), if_neg (by simp [hring, htemp])]
    simp only [show faultItem (updPath (fun p => { p with checkTried := false }) s.body) = some i from hfault]
    rfl
  obtain ⟨-, hfault⟩ := packFault_shows i (untried s.body)
  obtain ⟨d, hd⟩ : ∃ d, packFault i (untried s.body) = d := ⟨_, rfl⟩
  rw [hd] at hf hfault
  obtain ⟨hw, hfailed⟩ := stepFailed_shows 4 d
  obtain ⟨g, hg⟩ : ∃ g, stepFailed 4 d = g := ⟨_, rfl⟩
  rw [hg] at hf hw hfailed
  obtain ⟨hacts, hpow, -⟩ := enterNoPack_shows g
  exact runsS_of_lift hx hf ⟨hpow, (hacts.flagF_eq (by decide) (by decide) 0).trans ((hw.flagF_eq (by decide) (by decide) 0).trans hfault),
    (hacts.flagF_eq (by decide) (by decide) 0).trans hfailed⟩

theorem packCheck_waits (hx : exec c s = lift (packCheck false) s) (h4 : power s.body = 4) (hact : shepherdActive s.body = true)
    (htried : s.body.cox.path.checkTried = false) (hbad : ringItem s.body = false ∨ temperatureItem s.body = false) :
    Runs c s [.cox] (fun b => b.cox = { s.body.cox with path := { s.body.cox.path with checkTried := true } }) := by
  refine path_runs (g := fun p => { p with checkTried := true }) hx ?_
  unfold packCheck
  rw [if_neg (by simp [h4, hact, htried]), if_pos (by simpa using hbad)]
  rfl

theorem packCheck_stops (hx : exec c s = lift (packCheck true) s) (h4 : power s.body = 4) (hact : shepherdActive s.body = true)
    (htried : s.body.cox.path.checkTried = true) (hbad : ringItem s.body = false ∨ temperatureItem s.body = false) :
    RunsS c s (fun u => power u.body = 10 ∧ u.body.cox.path.checkFailed = true) := by
  obtain ⟨d, hd⟩ : ∃ d, updPath (fun p => { p with checkTried := false, checkFailed := true }) s.body = d := ⟨_, rfl⟩
  have hf : packCheck true s.body = noteWindow 3 (setPower 10 (stepFailed 4 d)) := by
    unfold packCheck
    rw [if_neg (by simp [h4, hact, htried]), if_pos (by simpa using hbad), if_pos rfl, hd]
  have hpath : (stepFailed 4 d).cox = d.cox := (stepFailed_shows 4 d).1.same (p := .cox) (by decide)
  have hfail : d.cox.path.checkFailed = true := by
    rw [← hd]
    rfl
  obtain ⟨g, hg⟩ : ∃ g, stepFailed 4 d = g := ⟨_, rfl⟩
  rw [hg] at hf hpath
  have hs := (setPower_steers (n := 10) (by decide) g).trans (noteWindow_steers 3 _)
  have hgpath : g.cox.path.checkFailed = true := by
    rw [hpath]
    exact hfail
  exact runsS_of_lift hx hf ⟨hs.power_eq.trans (power_inPower (by decide) _), (congrArg PowerPath.checkFailed hs.path).trans hgpath⟩

/-- The body in which the storage port is on and its contactors are to close. -/
def closing (b : Body) : Body := setFlag (setFlag (setF b R.STP_STATUS.state 0 1) R.STP_CTRL.close 0 true) R.STP_CTRL.port_en 0 true

theorem closing_shows (b : Body) : getF (closing b) R.STP_STATUS.state 0 = 1 ∧ flagF (closing b) R.STP_CTRL.close 0 = true ∧ flagF (closing b) R.STP_CTRL.port_en 0 = true := by
  unfold closing
  refine ⟨?_, ?_, flagF_setFlag_same _ _ _ _ (by decide)⟩
  · rw [getF_setFlag_other _ _ (by decide) (by decide) (by decide), getF_setFlag_other _ _ (by decide) (by decide) (by decide)]
    exact getF_setF_fits (by decide)
  · rw [flagF_setFlag_other _ _ (by decide) (by decide) (by decide)]
    exact flagF_setFlag_same _ _ _ _ (by decide)

theorem stpClose_closes (h5 : power s.body = 5) (hact : shepherdActive s.body = true) (hstp : getF s.body R.STP_STATUS.state 0 = 0)
    (hfault : flagF s.body R.STP_STATUS.pack_fault 0 = false) (hoff : s.body.cox.path.packOff = false) : RunsS .stpClose s (fun u =>
      getF u.body R.STP_STATUS.state 0 = 1 ∧ flagF u.body R.STP_CTRL.close 0 = true ∧ flagF u.body R.STP_CTRL.port_en 0 = true) := by
  have hset : ∀ {f : Field}, f ∈ [R.COX_SOFT_ILIM.ilim, R.COX_PG_VLIM.v, R.COX_PG_ALIM.a, R.COX_PG_JLIM.j] → ∀ i x c, Steers c (setF c f i x) := by
    intro f hf
    fin_cases hf <;> exact setF_steers (by decide) (by decide) (by decide) (by decide)
  have hsteer : Steers (closing s.body) (stpClose s.body) := by
    unfold stpClose
    rw [if_pos ⟨hact, h5, hstp, by simp [hfault], by simp [hoff]⟩]
    refine Steers.trans (c := setF (closing s.body) R.COX_SOFT_ILIM.ilim (lix 17 3) (bfRat 6 1)) (hset (by simp) _ _ _) ?_
    refine Steers.trans (Steers.trans ?_ (pgTarget_steers 17 0 _ _)) (loopModeWrite_steers 17 3 2 _)
    refine Steers.trans ?_ (pgPreset_steers 17 0 _ _)
    exact (((pgOwner_steers 17 0 5 _).trans (hset (by simp) _ _ _)).trans (hset (by simp) _ _ _)).trans (hset (by simp) _ _ _)
  obtain ⟨hstate, hclose, hen⟩ := closing_shows s.body
  exact runsS_of_lift (f := stpClose) rfl rfl ⟨hsteer.storage_eq.trans hstate, (hsteer.flagF_eq (by decide) (by decide) 0).trans hclose,
    (hsteer.flagF_eq (by decide) (by decide) 0).trans hen⟩

/-- The body in which the contactors' report and the pack's voltage are noted. -/
def confirmed (mv : Nat) (b : Body) : Body := setF (setFlag (setFlag b R.STP_STATUS.aux_pos 0 true) R.STP_STATUS.aux_neg 0 true) R.STP_PACK_V.mv 0 mv

theorem confirmed_steers (mv : Nat) (b : Body) : Steers b (confirmed mv b) :=
  ((setF_steers (by decide) (by decide) (by decide) (by decide) _ _ b).trans (setF_steers (by decide) (by decide) (by decide) (by decide) _ _ _)).trans (packVolts_steers mv _)

theorem closeConfirm_closes {mv : Nat} (hstp : getF s.body R.STP_STATUS.state 0 = 1) (hact : shepherdActive s.body = true) (hmv : mv < 2 ^ 17)
    (hnear : mv ≤ sweepSum s.body + 2000 ∧ sweepSum s.body ≤ mv + 2000) (hrec : s.body.cox.path.recovery = false) :
    Runs (.contactorCloseConfirm true true mv) s [.regs] (fun b => getF b R.STP_STATUS.state 0 = 2 ∧ getF b R.STP_PACK_V.mv 0 = mv
      ∧ flagF b R.STP_STATUS.aux_pos 0 = true ∧ flagF b R.STP_STATUS.aux_neg 0 = true
      ∧ RegsBut [R.STP_STATUS.state, R.STP_PACK_V.mv, R.STP_STATUS.aux_pos, R.STP_STATUS.aux_neg] 0 s.body b) := by
  have hx : closeConfirm true true mv s.body = setF (confirmed mv s.body) R.STP_STATUS.state 0 2 := by
    have hrec' : ∀ n, (setF (confirmed mv s.body) R.STP_STATUS.state 0 n).cox.path.recovery = false := fun n => hrec
    unfold closeConfirm
    rw [if_neg (by simp [hstp, hact])]
    simp only [hnear.1, hnear.2, and_self, if_true]
    exact if_neg (by rw [show (setF (setF (setFlag (setFlag s.body R.STP_STATUS.aux_pos 0 true) R.STP_STATUS.aux_neg 0 true) R.STP_PACK_V.mv 0 mv) R.STP_STATUS.state 0 2).cox.path.recovery
      = false from hrec' 2]; decide)
  refine runs_of_lift (f := closeConfirm true true mv) rfl hx (by unfold confirmed; simp (disch := decide)) ⟨getF_setF_fits (by decide), ?_, ?_, ?_, ?_⟩
  · rw [getF_setF_other _ _ (by decide) (by decide) (by decide)]
    exact getF_setF_fits (Nat.lt_trans hmv (by decide))
  · rw [flagF_setF_other _ _ (by decide) (by decide) (by decide), confirmed, flagF_setF_other _ _ (by decide) (by decide) (by decide),
      flagF_setFlag_other _ _ (by decide) (by decide) (by decide)]
    exact flagF_setFlag_same _ _ _ _ (by decide)
  · rw [flagF_setF_other _ _ (by decide) (by decide) (by decide), confirmed, flagF_setF_other _ _ (by decide) (by decide) (by decide)]
    exact flagF_setFlag_same _ _ _ _ (by decide)
  · unfold confirmed
    simp (disch := decide)

theorem connectFail_shows (h : getF b R.STP_STATUS.state 0 = 1) : power (connectFail b) = 11 ∧ getF (connectFail b) R.STP_STATUS.state 0 = 0
    ∧ flagF (connectFail b) R.STP_STATUS.pack_fault 0 = true := by
  obtain ⟨hacts, hpow, -⟩ := enterNoPack_shows (stepFailed 5 (packFault 4 (contactorsOpen b)))
  obtain ⟨hfail, -⟩ := stepFailed_shows 5 (packFault 4 (contactorsOpen b))
  obtain ⟨hfault, hflag⟩ := packFault_shows 4 (contactorsOpen b)
  have hx : connectFail b = enterNoPack (stepFailed 5 (packFault 4 (contactorsOpen b))) := if_pos h
  rw [hx]
  refine ⟨hpow, ?_, ?_⟩
  · rw [hacts.getF_eq (by decide) (by decide), hfail.getF_eq (by decide) (by decide), hfault.getF_eq (by decide) (by decide), (contactorsOpen_steers b).storage_eq]
    exact opened_state b
  · rw [hacts.flagF_eq (by decide) (by decide), hfail.flagF_eq (by decide) (by decide)]
    exact hflag

theorem closeConfirm_fails {mv : Nat} (hstp : getF s.body R.STP_STATUS.state 0 = 1) (hact : shepherdActive s.body = true)
    (hfar : sweepSum s.body + 2000 < mv ∨ mv + 2000 < sweepSum s.body) : RunsS (.contactorCloseConfirm true true mv) s (fun u =>
      power u.body = 11 ∧ getF u.body R.STP_STATUS.state 0 = 0 ∧ flagF u.body R.STP_STATUS.pack_fault 0 = true) := by
  have hx : closeConfirm true true mv s.body = connectFail (confirmed mv s.body) := by
    unfold closeConfirm
    rw [if_neg (by simp [hstp, hact])]
    exact if_neg (by omega)
  exact runsS_of_lift (f := closeConfirm true true mv) rfl hx (connectFail_shows ((confirmed_steers mv s.body).storage_eq.trans hstp))

theorem stpOpen_opens (s : State) : RunsS .stpOpen s (fun u => getF u.body R.STP_STATUS.state 0 = 0 ∧ flagF u.body R.STP_CTRL.close 0 = false
    ∧ power u.body = power s.body) := by
  have hs := openPack_steers s.body
  refine runsS_of_lift (f := stpOpen) rfl rfl ⟨hs.storage_eq.trans (packOpened_state _), (hs.flagF_eq (by decide) (by decide) 0).trans (packOpened_close _), ?_⟩
  exact hs.power_eq.trans ((packOpened_acts s.body).getF_eq (by decide) (by decide) 0)

theorem stpDischarge_discharges (h : getF s.body R.STP_STATUS.state 0 = 0 ∨ getF s.body R.STP_STATUS.state 0 = 3) :
    Runs .stpDischargeCap s [.regs, .free] (fun b => getF b R.STP_PACK_V.mv 0 < 10000 ∧ RegsBut [R.STP_PACK_V.mv] 0 s.body b) := by
  obtain ⟨n, hn⟩ : ∃ n, min (getF (drawFree s.body).2 R.STP_PACK_V.mv 0) ((drawFree s.body).1 % 10000) = n := ⟨_, rfl⟩
  have hlt : n < 10000 := by omega
  have hx : stpDischarge s.body = setF (withFree s.body (s.body.free + 1)) R.STP_PACK_V.mv 0 n := by
    rw [← hn]
    exact if_pos h
  refine runs_of_lift (f := stpDischarge) rfl hx (by simp (disch := decide)) ⟨?_, ?_⟩
  · rw [getF_setF_fits (Nat.lt_trans hlt (by decide))]
    exact hlt
  · simp (disch := decide)

theorem recoveryDone_ends (hrec : s.body.cox.path.recovery = true) (hstp : getF s.body R.STP_STATUS.state 0 = 2)
    (hall : ∀ i, i < 32 → 25000 ≤ lowerReading s.body i) : Runs .recoveryChargeComplete s [.cox, .regs] (fun b =>
      b.cox.path = { s.body.cox.path with recovery := false } ∧ getF b R.COX_PG_TARGET.target (pix 17 1) = bfRat 0 1) := by
  have hx : recoveryDone s.body = pgTarget 17 1 (bfRat 0 1) (updPath unrecovering s.body) :=
    if_pos ⟨hrec, hstp, by simpa using hall⟩
  have ht := pgTarget_within 17 1 (bfRat 0 1) (updPath unrecovering s.body)
  refine runs_of_lift (f := recoveryDone) rfl hx (((updPath_only unrecovering s.body).mono (by decide)).trans (ht.only.mono (by decide)))
    ⟨congrArg CoxSide.path (ht.same (p := .cox) (by decide)), ?_⟩
  unfold pgTarget
  rw [getF_setFlag_other _ _ (by decide) (by decide) (by decide), getF_setFlag_other _ _ (by decide) (by decide) (by decide)]
  exact getF_setF_fits (by decide)

/-! ### The pull and the end of the supply (R349, R364) -/

theorem updLog_steers (f : Logbook → Logbook) (b : Body) : Steers b (updLog f b) := steers_of_regs rfl rfl

theorem flashWrite_steers (b : Body) : Steers b (flashWrite b) := by
  have hfirst : ∀ p, Steers b (noteFirstFull p b) := fun p => by
    unfold noteFirstFull
    exact .ite (.refl b) ((setF_steers (by decide) (by decide) (by decide) (by decide) _ _ b).trans (raiseVec_steers _ _))
  have hplace : ∀ r p (c : Body), Steers c (placeRec r p c) := fun r p c => .ite (updLog_steers _ c) (updLog_steers _ c)
  have hshow : ∀ c : Body, Steers c (followWindow (showLog c)) := fun c =>
    (Steers.of_within (showLog_within c) (by decide) (by decide) (by decide) (by decide)).trans
      (.of_within (followWindow_within _) (by decide) (by decide) (by decide) (by decide))
  unfold flashWrite
  split
  · exact .refl b
  · split
    · exact .refl b
    · split
      · exact .refl b
      · exact (((hfirst _).trans (hplace _ _ _)).trans (updLog_steers _ _)).trans (hshow _)

theorem flashWriteAll_steers : ∀ (n : Nat) (b : Body), Steers b (flashWriteAll n b)
  | 0, b => .refl b
  | n + 1, b => (flashWrite_steers b).trans (flashWriteAll_steers n _)

theorem lostRecord_steers (b : Body) : Steers b (lostRecord b) := by
  have hcount : ∀ k (c : Body), Steers c (addSat c R.LGB_STATUS.lost 0 k) := fun k c => setF_steers (by decide) (by decide) (by decide) (by decide) _ _ c
  unfold lostRecord
  split
  · exact .refl b
  · split
    · exact (((updLog_steers _ b).trans (logRec_steers _ _ _)).trans (hcount _ _)).trans (raiseVec_steers _ _)
    · exact .refl b

theorem logLossOfPower_steers (pull : Option (List Byte)) (b : Body) : Steers b (logLossOfPower pull b) := by
  have hclear : ∀ c : Body, Steers c (setFlag c R.LGB_STATUS.clearing 0 false) := fun c => setF_steers (by decide) (by decide) (by decide) (by decide) _ _ c
  unfold logLossOfPower
  split
  · exact .refl b
  · refine Steers.trans ?_ (flashWriteAll_steers _ _)
    cases pull with
    | some p => exact (((updLog_steers _ b).trans (hclear _)).trans (lostRecord_steers _)).trans (logRec_steers _ _ _)
    | none => exact ((updLog_steers _ b).trans (hclear _)).trans (lostRecord_steers _)

theorem setDrain_steers (n : Nat) (b : Body) : Steers b (setDrain n b) := by
  have hrack : ∀ f (c : Body), Steers c (updRack f c) := fun f c => steers_of_regs rfl rfl
  unfold setDrain
  exact .ite (.refl b) (((hrack _ b).trans (raiseVec_steers _ _)).trans (sensorEvent_steers _ _ _ _))

/-- The power path of a module that is pulled. -/
def pulledPath (p : PowerPath) : PowerPath := { cellsOff p with presence := false, pulled := true, switch := 0 }

theorem presenceLost_pulls (ma : Int) (h0 : power s.body ≠ 0) (h9 : power s.body ≠ 9) : RunsS (.presenceLost ma) s (fun u => power u.body = 9
    ∧ u.body.cox.path.presence = false ∧ u.body.cox.path.switch = 0 ∧ u.body.cox.path.cellsRun = false ∧ getF u.body R.STP_STATUS.state 0 = 0) := by
  obtain ⟨b0, hb0⟩ : ∃ b0, updPath (fun p => { p with pulled := true }) (updPath (fun p => { p with presence := false }) s.body) = b0 := ⟨_, rfl⟩
  obtain ⟨b1, hb1⟩ : ∃ b1, isolateModule (forEach (liveStations (setPower 9 b0)) (fun st b => clockStop (.station st) b) (setPower 9 b0)) = b1 := ⟨_, rfl⟩
  have h01 : Steers (inPower 9 b0) b1 := by
    rw [← hb1]
    exact ((setPower_steers (by decide) b0).trans (Steers.forEach (fun st c => clockStop_steers _ c) _ _)).trans (isolateModule_steers _)
  obtain ⟨b2, hb2⟩ : ∃ b2, updPath (fun p => { p with switch := 0 }) (stopCells b1) = b2 := ⟨_, rfl⟩
  have h12 : Steers (updPath (fun p => { p with switch := 0 }) (updPath cellsOff b1)) b2 := by
    rw [← hb2]
    exact (stopCells_steers b1).updPath _
  obtain ⟨b3, hb3⟩ : ∃ b3, stopRails (logLossOfPower (some ([BitVec.ofNat 8 (power (updPath (fun p => { p with presence := false }) s.body)), 0, 0, 0]
      ++ leBytes 4 (uint 32 ma))) b2) = b3 := ⟨_, rfl⟩
  have h23 : Steers b2 b3 := by
    rw [← hb3]
    exact (logLossOfPower_steers _ b2).trans (stopRails_steers _)
  have hend : Steers (packOpened b3) (noteWindow 3 (setDrain 0 (openPack b3))) := ((openPack_steers b3).trans (setDrain_steers 0 _)).trans (noteWindow_steers 3 _)
  have hx : presenceLost ma s.body = noteWindow 3 (setDrain 0 (openPack b3)) := by
    unfold presenceLost
    rw [if_neg (by
      rw [show power (updPath (fun p => { p with presence := false }) s.body) = power s.body from rfl]
      omega)]
    simp only [hb0, hb1, hb2, hb3]
  have hpath : b3.cox.path = pulledPath s.body.cox.path := by
    rw [h23.path, h12.path]
    show ({ cellsOff b1.cox.path with switch := 0 } : PowerPath) = _
    rw [h01.path, ← hb0]
    rfl
  have hpow : power b3 = 9 := by
    rw [h23.power_eq, h12.power_eq]
    exact h01.power_eq.trans (power_inPower (by decide) b0)
  obtain ⟨r, hr⟩ := packOpened_path b3
  refine runsS_of_lift (f := presenceLost ma) rfl hx ?_
  have hfinal : (noteWindow 3 (setDrain 0 (openPack b3))).cox.path = { pulledPath s.body.cox.path with recovery := r } := by rw [hend.path, hr, hpath]
  refine ⟨?_, ?_, ?_, ?_, hend.storage_eq.trans (packOpened_state b3)⟩
  · exact hend.power_eq.trans (((packOpened_acts b3).getF_eq (by decide) (by decide) 0).trans hpow)
  · rw [hfinal]
    rfl
  · rw [hfinal]
    rfl
  · rw [hfinal]
    rfl

theorem presenceLost_idle (ma : Int) (h : power s.body = 0 ∨ power s.body = 9) :
    Runs (.presenceLost ma) s [.cox] (fun b => b.cox = { s.body.cox with path := { s.body.cox.path with presence := false } }) :=
  path_runs (f := presenceLost ma) (g := fun p => { p with presence := false }) rfl (if_pos h)

theorem housekeepingStop_stops (h0 : power s.body ≠ 0) : RunsS .housekeepingSupplyStop s (fun u => power u.body = 0 ∧ getF u.body R.STP_STATUS.state 0 = 0
    ∧ getF u.body R.SHP_STATUS.a_state 0 = 0 ∧ getF u.body R.SHP_STATUS.b_state 0 = 0 ∧ u.body.logbook.queue = []) := by
  have hbreak : Steers s.body (countBreak s.body) := by
    unfold countBreak
    exact .ite (setF_steers (by decide) (by decide) (by decide) (by decide) _ _ _) (.refl _)
  obtain ⟨c, hc⟩ : ∃ c, updPath (fun p => { p with housekeeping := false, switch := 0, cellsRun := false }) (contactorsOpen (countBreak s.body)) = c := ⟨_, rfl⟩
  have hstp : getF c R.STP_STATUS.state 0 = 0 := by
    rw [← hc]
    exact (contactorsOpen_steers _).storage_eq.trans (opened_state _)
  have hset := setPower_steers (n := 0) (by decide) c
  obtain ⟨d, hd⟩ : ∃ d, setPower 0 c = d := ⟨_, rfl⟩
  rw [hd] at hset
  have hx : housekeepingStop s.body = updLog (fun l => { l with queue := [], dropped := none }) (setF (setF d R.SHP_STATUS.a_state 0 0) R.SHP_STATUS.b_state 0 0) := by
    unfold housekeepingStop
    rw [if_neg h0]
    simp only [hc, hd]
  obtain ⟨g, hg⟩ : ∃ g, setF (setF d R.SHP_STATUS.a_state 0 0) R.SHP_STATUS.b_state 0 0 = g := ⟨_, rfl⟩
  have hkeep : ∀ f, f.idx < 1024 → f.idx ≠ R.SHP_STATUS.a_state.idx → f.idx ≠ R.SHP_STATUS.b_state.idx → getF g f 0 = getF d f 0 := fun f hf ha hb => by
    rw [← hg, getF_setF_other _ _ (by decide) hf hb, getF_setF_other _ _ (by decide) hf ha]
  have hpow : power g = 0 := (hkeep R.GBL_STATUS.power_state (by decide) (by decide) (by decide)).trans (hset.power_eq.trans (power_inPower (by decide) c))
  have hgstp : getF g R.STP_STATUS.state 0 = 0 := by
    rw [hkeep R.STP_STATUS.state (by decide) (by decide) (by decide), hset.storage_eq, inPower, getF_setF_other _ _ (by decide) (by decide) (by decide)]
    exact hstp
  have ha : getF g R.SHP_STATUS.a_state 0 = 0 := by
    rw [← hg, getF_setF_other _ _ (by decide) (by decide) (by decide)]
    exact getF_setF_fits (by decide)
  have hb : getF g R.SHP_STATUS.b_state 0 = 0 := by
    rw [← hg]
    exact getF_setF_fits (by decide)
  rw [hg] at hx
  exact runsS_of_lift (f := housekeepingStop) rfl hx ⟨hpow, hgstp, ha, hb, rfl⟩

/-! ### The rails (R382, R392) -/

theorem startBlock_steers (e k target v a j ilim : Nat) (b : Body) : Steers b (startBlock e k target v a j ilim b) := by
  have hlim : ∀ l (c : Body), Steers c (setF c R.COX_SOFT_ILIM.ilim (lix e l) ilim) := fun l c => setF_steers (by decide) (by decide) (by decide) (by decide) _ _ c
  unfold startBlock
  exact (((Steers.forEach hlim _ b).trans (pgOwner_steers _ _ _ _)).trans (softStart_steers _ _ _ _ _ _ _)).trans (Steers.forEach (loopStop_steers e) _ _)

theorem startLeft_steers (e : Nat) (b : Body) : Steers b (startLeft e b) := by
  have hnext : ∀ k, Steers b (startNext e k b) := fun k => by
    unfold startNext
    exact .ite (.ite (startBlock_steers _ _ _ _ _ _ _ b) (startBlock_steers _ _ _ _ _ _ _ b))
      (.ite (startBlock_steers _ _ _ _ _ _ _ b) (.ite (startBlock_steers _ _ _ _ _ _ _ b) (startBlock_steers _ _ _ _ _ _ _ b)))
  unfold startLeft
  split
  · exact .ite (.refl b) (hnext _)
  · exact .refl b

/-- The rails that are up leave the power state as it is, or in run. -/
theorem railsDone_cases (b : Body) : Steers b (railsDone b) ∨ Steers (inPower 7 b) (railsDone b) := by
  have hmem : ∀ k (c : Body), Steers c (if getF c R.MEM_STATUS.state k = 0 then setF c R.MEM_STATUS.state k 1 else c) := fun k c =>
    .ite (setF_steers (by decide) (by decide) (by decide) (by decide) _ _ c) (.refl c)
  have hdies : ∀ c : Body, Steers c (forEach (List.range 16) (fun e b => pgOwner e 1 0 (pgOwner e 0 0 b)) c) :=
    Steers.forEach (fun e d => (pgOwner_steers e 0 0 d).trans (pgOwner_steers e 1 0 _)) _
  have hlinks : ∀ c : Body, Steers c (forEach [18, 19] (fun e b => forEach [0, 1, 2, 3] (fun k b => pgOwner e k 0 b) b) c) :=
    Steers.forEach (fun e d => Steers.forEach (fun k g => pgOwner_steers e k 0 g) _ d) _
  have hend : ∀ c : Body, Steers b c → Steers b (if power c = 6 then noteWindow 3 (setPower 7 c) else c)
      ∨ Steers (inPower 7 b) (if power c = 6 then noteWindow 3 (setPower 7 c) else c) := fun c hs => by
    split
    · exact .inr (((hs.inPower 7).trans (setPower_steers (by decide) c)).trans (noteWindow_steers 3 _))
    · exact .inl hs
  unfold railsDone
  exact hend _ ((((((hdies b).trans (hlinks _)).trans (stepDone_steers 6 _)).trans (Steers.forEach hmem _ _)).trans (noteStacks_steers _)).trans (notePorts_steers _))

theorem railsProgress_cases (b : Body) : Steers b (railsProgress b) ∨ Steers (inPower 7 b) (railsProgress b) := by
  have hlink : Steers b (forEach [18, 19] startLeft b) := Steers.forEach startLeft_steers _ b
  have hdies : Steers b (forEach (List.range 16) startLeft (forEach [18, 19] startLeft b)) := hlink.trans (Steers.forEach startLeft_steers _ _)
  obtain ⟨c, hc⟩ : ∃ c, forEach [18, 19] startLeft b = c := ⟨_, rfl⟩
  obtain ⟨d, hd⟩ : ∃ d, forEach (List.range 16) startLeft c = d := ⟨_, rfl⟩
  rw [hc, hd] at hdies
  rw [hc] at hlink
  unfold railsProgress
  split
  · exact .inl (.refl b)
  · simp only [hc, hd]
    split
    · exact .inl hlink
    · split
      · exact (railsDone_cases d).imp hdies.trans (hdies.inPower 7).trans
      · exact .inl hdies

/-- A loop is given a fixed reference of its own. -/
def held (i v : Nat) (b : Body) : Body := setF (setF b R.COX_LOOP_CFG.pg i 15) R.COX_LOOP_REF_STATIC.ref i v

theorem held_acts (i v : Nat) (b : Body) : Acts holdFields b (held i v b) :=
  ((Acts.refl _ b).setF (by decide) (by decide) (by decide) (by decide) _ _).setF (by decide) (by decide) (by decide) (by decide) _ _

theorem held_ref {i v : Nat} (hv : v < 2 ^ 32) (b : Body) : getF (held i v b) R.COX_LOOP_REF_STATIC.ref i = v := getF_setF_fits hv

theorem held_ref_other {i j : Nat} (v : Nat) (h : j ≠ i) (b : Body) : getF (held i v b) R.COX_LOOP_REF_STATIC.ref j = getF b R.COX_LOOP_REF_STATIC.ref j := by
  unfold held
  rw [getF_setF_instance _ _ _ _ _ h, getF_setF_other _ _ (by decide) (by decide) (by decide)]

theorem blocksFree_steers (l : List Nat) (b : Body) : Steers b (forEach l (fun e b => forEach (startOrder e) (fun k b =>
    pgOwner e k 0 (setFlag b R.COX_PG_CTRL.done (pix e k) false)) b) b) :=
  Steers.forEach (fun e c => Steers.forEach (fun k d =>
    (setF_steers (f := R.COX_PG_CTRL.done) (by decide) (by decide) (by decide) (by decide) _ _ d).trans (pgOwner_steers e k 0 _)) _ c) l b

theorem railsHandover_starts (h5 : power s.body = 5) (hstp : getF s.body R.STP_STATUS.state 0 = 2) (hrec : s.body.cox.path.recovery = false)
    (hact : shepherdActive s.body = true) : RunsS .railsStartHandover s (fun u => (power u.body = 6 ∨ power u.body = 7) ∧ stepIsDone u.body 5 = true
      ∧ getF u.body R.COX_LOOP_REF_STATIC.ref (lix 17 0) = bfRat 54 1 ∧ getF u.body R.COX_LOOP_CFG.pg (lix 16 0) = 0) := by
  obtain ⟨b1, hb1⟩ : ∃ b1, setPower 6 (stepDone 5 s.body) = b1 := ⟨_, rfl⟩
  have hset : Steers (inPower 6 (stepDone 5 s.body)) b1 := hb1 ▸ setPower_steers (by decide) _
  have hpow1 : power b1 = 6 := hset.power_eq.trans (power_inPower (by decide) _)
  have hstep1 : stepIsDone b1 5 = true := by
    refine hset.steps 5 (by decide) ?_
    unfold stepIsDone
    rw [inPower, getF_setF_other _ _ (by decide) (by decide) (by decide)]
    exact stepIsDone_stepDone (by decide) _
  obtain ⟨b2, hb2⟩ : ∃ b2, loopModeWrite 17 0 2 (held (lix 17 0) (bfRat 54 1) b1) = b2 := ⟨_, rfl⟩
  have h12 : Steers (held (lix 17 0) (bfRat 54 1) b1) b2 := hb2 ▸ loopModeWrite_steers 17 0 2 _
  obtain ⟨b3, hb3⟩ : ∃ b3, contractPreset (pgOwner 16 0 3 (pgOwner 16 0 0 (held (lix 16 2) (bfRat 54 1) b2))) = b3 := ⟨_, rfl⟩
  have h23 : Steers (held (lix 16 2) (bfRat 54 1) b2) b3 := by
    rw [← hb3]
    exact ((pgOwner_steers 16 0 0 _).trans (pgOwner_steers 16 0 3 _)).trans (contractPreset_steers _)
  obtain ⟨b4, hb4⟩ : ∃ b4, setF b3 R.COX_LOOP_CFG.pg (lix 16 0) 0 = b4 := ⟨_, rfl⟩
  have h34 : Acts holdFields b3 b4 := hb4 ▸ (Acts.refl _ b3).setF (by decide) (by decide) (by decide) (by decide) _ _
  obtain ⟨b5, hb5⟩ : ∃ b5, forEach ((List.range 16) ++ [18, 19]) (fun e b => forEach (startOrder e) (fun k b =>
      pgOwner e k 0 (setFlag b R.COX_PG_CTRL.done (pix e k) false)) b) (loopModeWrite 16 0 2 b4) = b5 := ⟨_, rfl⟩
  have h45 : Steers b4 b5 := hb5 ▸ (loopModeWrite_steers 16 0 2 b4).trans (blocksFree_steers _ _)
  have hacts : Acts holdFields b1 b5 :=
    (((((held_acts _ _ b1).steers h12).trans (held_acts _ _ b2)).steers h23).trans h34).steers h45
  have hpow5 : power b5 = 6 := (hacts.getF_eq (by decide) (by decide) 0).trans hpow1
  have hstep5 : stepIsDone b5 5 = true := hacts.steps 5 (by decide) hstep1
  have hpg : getF b5 R.COX_LOOP_CFG.pg (lix 16 0) = 0 := by
    rw [h45.getF_eq (by decide) (by decide), ← hb4]
    exact getF_setF_fits (by decide)
  have href : getF b5 R.COX_LOOP_REF_STATIC.ref (lix 17 0) = bfRat 54 1 := by
    rw [h45.getF_eq (by decide) (by decide), ← hb4, getF_setF_other _ _ (by decide) (by decide) (by decide), h23.getF_eq (by decide) (by decide),
      held_ref_other _ (by decide), h12.getF_eq (by decide) (by decide), held_ref (by decide)]
  have hx : railsHandover s.body = railsProgress b5 := by
    unfold railsHandover
    rw [if_neg (by simp [h5, hstp, hrec, hact])]
    simp only [hb1]
    rw [← hb5, ← hb4, ← hb3, ← hb2]
    rfl
  have hshow : ∀ d, Steers d (railsProgress b5) → (power d = 6 ∨ power d = 7) → stepIsDone d 5 = true → getF d R.COX_LOOP_REF_STATIC.ref (lix 17 0) = bfRat 54 1 →
      getF d R.COX_LOOP_CFG.pg (lix 16 0) = 0 → RunsS .railsStartHandover s (fun u => (power u.body = 6 ∨ power u.body = 7) ∧ stepIsDone u.body 5 = true
        ∧ getF u.body R.COX_LOOP_REF_STATIC.ref (lix 17 0) = bfRat 54 1 ∧ getF u.body R.COX_LOOP_CFG.pg (lix 16 0) = 0) := fun d hs hp hstep hr hg => by
    refine runsS_of_lift (f := railsHandover) rfl hx ⟨?_, hs.steps 5 (by decide) hstep, (hs.getF_eq (by decide) (by decide) _).trans hr, (hs.getF_eq (by decide) (by decide) _).trans hg⟩
    rw [hs.power_eq]
    exact hp
  rcases railsProgress_cases b5 with h | h
  · exact hshow b5 h (.inl hpow5) hstep5 href hpg
  · refine hshow _ h (.inr (power_inPower (by decide) b5)) ?_ ?_ ?_
    · unfold stepIsDone
      rw [inPower, getF_setF_other _ _ (by decide) (by decide) (by decide)]
      exact hstep5
    · rw [inPower, getF_setF_other _ _ (by decide) (by decide) (by decide)]
      exact href
    · rw [inPower, getF_setF_other _ _ (by decide) (by decide) (by decide)]
      exact hpg

theorem inputAbnormal_enters {mv : Nat} (hab : (260000 ≤ mv ∧ mv < 360000) ∨ (400000 < mv ∧ mv ≤ 410000)) (h : s.body.cox.path.abnormal = false) :
    Runs (.inputAbnormal mv) s [.cox, .logbook] (fun b => b.cox.path = { s.body.cox.path with abnormal := true }) := by
  have hlog := logRec_within 0x22 (leBytes 4 mv) (updPath (fun p => { p with abnormal := true }) s.body)
  have hx : inputAbnormal mv s.body = logRec 0x22 (leBytes 4 mv) (updPath (fun p => { p with abnormal := true }) s.body) := if_pos ⟨hab, by simp [h]⟩
  exact runs_of_lift (f := inputAbnormal mv) rfl hx (((updPath_only _ s.body).mono (by decide)).trans (hlog.only.mono (by decide)))
    (congrArg CoxSide.path (hlog.same (p := .cox) (by decide)))

theorem inputAbnormal_stays {mv : Nat} (hab : (260000 ≤ mv ∧ mv < 360000) ∨ (400000 < mv ∧ mv ≤ 410000)) (h : s.body.cox.path.abnormal = true) :
    Runs (.inputAbnormal mv) s [] (fun b => b = s.body) := by
  refine runs_same (f := inputAbnormal mv) rfl ?_
  unfold inputAbnormal
  rw [if_neg (by simp [h]), if_neg (by simp [hab])]

theorem inputAbnormal_leaves {mv : Nat} (hab : ¬ ((260000 ≤ mv ∧ mv < 360000) ∨ (400000 < mv ∧ mv ≤ 410000))) :
    Runs (.inputAbnormal mv) s [.cox] (fun b => b.cox = { s.body.cox with path := { s.body.cox.path with abnormal := false } }) := by
  refine path_runs (f := inputAbnormal mv) (g := fun p => { p with abnormal := false }) rfl ?_
  unfold inputAbnormal
  rw [if_neg fun h => hab h.1, if_pos (by simp [hab])]

end PowerSequence

/-- Settles O45: the power path from presence to run and back. -/
theorem powerSequence : Obligations.PowerSequence := by
  unfold Obligations.PowerSequence
  intro s
  refine ⟨?presence, ?start, ?noStart, ?complete, ?back, ?noComplete, ?fail, ?trips, ?inputBack, ?bus, ?check, ?close, ?noClose, ?confirm, ?openPack, ?discharge, ?recovered,
    ?pulled, ?pulledIdle, ?supply, ?rails, ?noRails, ?abnormal⟩
  case presence => exact path_runs (f := presenceClose) (g := fun p => { p with presence := true }) rfl rfl
  case start => exact prechargeStart_takes
  case noStart =>
    refine fun h => runs_same (f := prechargeStart) rfl (if_neg fun hc => ?_)
    obtain ⟨h0, hp, hoc⟩ := hc
    rcases h with h | h | h
    · exact h h0
    · simp [h] at hp
    · simp [h] at hoc
  case complete => exact prechargeComplete_starts
  case back => exact prechargeComplete_returns
  case noComplete => exact fun h => ⟨runs_same (f := prechargeComplete) rfl (if_neg h), fun mv => runs_same (f := prechargeFail mv) rfl (if_neg h)⟩
  case fail => exact fun mv hsw h9 => prechargeFail_trips mv hsw h9
  case trips => exact fun v => ⟨inputTrip_acts (code := 1) (past := fun t => decide ((t : Int) < v)) (P := fun t => (t : Int) < v) rfl (fun _ => decide_eq_true_iff),
      inputTrip_acts (code := 2) (past := fun t => decide (v < (t : Int))) (P := fun t => v < (t : Int)) rfl (fun _ => decide_eq_true_iff),
      inputTrip_acts (code := 3) (past := fun t => decide ((t : Int) < v)) (P := fun t => (t : Int) < v) rfl (fun _ => decide_eq_true_iff)⟩
  case inputBack => exact inputReturn_precharges
  case bus => exact fun h2 hact hstep hstop hcheck => ⟨busStart_starts h2 hact hstep hstop hcheck, busStart_fails h2 hact hstep⟩
  case check =>
    intro r hr h4 hact htried
    simp only [List.mem_cons, List.not_mem_nil, or_false] at hr
    rcases hr with rfl | rfl
    · refine ⟨packCheck_passes (c := .packCheck) (retry := false) rfl h4 hact htried, fun i => packCheck_finds (c := .packCheck) (retry := false) rfl h4 hact htried,
        fun hbad => ⟨fun _ => packCheck_waits (c := .packCheck) rfl h4 hact htried hbad, fun h => ?_⟩⟩
      cases h
    · refine ⟨packCheck_passes (c := .packCheckRetry) (retry := true) rfl h4 hact htried, fun i => packCheck_finds (c := .packCheckRetry) (retry := true) rfl h4 hact htried,
        fun hbad => ⟨fun h => ?_, fun _ => packCheck_stops (c := .packCheckRetry) rfl h4 hact htried hbad⟩⟩
      cases h
  case close => exact stpClose_closes
  case noClose =>
    refine fun h => runs_same (f := stpClose) rfl (if_neg fun hc => ?_)
    obtain ⟨hact, h5, -, hfault, -⟩ := hc
    rcases h with h | h | h
    · exact h h5
    · simp [h] at hfault
    · simp [h] at hact
  case confirm => exact fun mv hstp hact hmv => ⟨fun hnear hrec => closeConfirm_closes hstp hact hmv hnear hrec, closeConfirm_fails hstp hact⟩
  case openPack => exact stpOpen_opens s
  case discharge => exact stpDischarge_discharges
  case recovered => exact recoveryDone_ends
  case pulled => exact fun ma => presenceLost_pulls ma
  case pulledIdle => exact fun ma => presenceLost_idle ma
  case supply => exact housekeepingStop_stops
  case rails => exact railsHandover_starts
  case noRails => exact fun h => runs_same (f := railsHandover) rfl (if_pos (.inl h))
  case abnormal => exact fun mv => ⟨inputAbnormal_enters, inputAbnormal_stays, inputAbnormal_leaves⟩

end Sys2Proof.Machine

/-! SUPPORT. The loss of a port and of a block of the module (O46, O47). -/

namespace Sys2Proof.Machine

section Works

variable {b : Body}

/-! ### A drover at work -/

/-- What a drover at work changes, where it raises no interrupt. -/
theorem Steers.of_work {ps : List Part} {fs : List Field} {c : Body} (h : Within ps fs b c) (hp : Part.cox ∉ ps) (hf : fs ⊆ workFields)
    (hi : R.IRQ_CAUSE.cause.idx ∉ fs.map Field.idx) (hd : R.SHP_STARTUP.done.idx ∉ fs.map Field.idx) (hc : Part.cells ∉ ps := by decide) : Steers b c :=
  .of_within h hp (fun _ hm => List.mem_append_left _ (List.mem_append_right _ (List.mem_append_left _ (hf hm)))) hi hd hc

/-- The fields of a station's SRAM that a read of it changes. -/
def sramFields : List Field := [R.STN_FAULT.sram_uncorrectable, R.STN_SRAM_CORR.corrected, R.STN_SRAM_CORR.last_bank]

theorem readSramUnit_touched (st u : Nat) (b : Body) : Within workParts sramFields b (readSramUnit b st u).2 := by
  have hfree : ∀ k, Within workParts sramFields b (withFree b k) := fun k => by constructor <;> simp (disch := decide)
  unfold readSramUnit
  simp only []
  rw [show ({ b with free := b.free + 4 } : Body) = withFree b (b.free + 4) from rfl]
  split
  · constructor <;> simp (disch := decide)
  · split
    · exact hfree _
    · constructor <;> simp (disch := decide)

theorem readSramUnits_steers (st : Nat) : ∀ (us : List Nat) (b : Body), Steers b (readSramUnits st us b).2
  | [], b => .refl b
  | u :: us, b =>
    have hfree : Steers (readSramUnit b st u).2 (withFree (readSramUnit b st u).2 ((readSramUnit b st u).2.free + 1)) := steers_of_regs rfl rfl
    (Steers.of_within (readSramUnit_touched st u b) (by decide) (by decide) (by decide) (by decide)).trans
      (hfree.trans (readSramUnits_steers st us _))

theorem keepPiece_steers (dr tid piece : Nat) (bs : List Byte) (b : Body) : Steers b (keepPiece dr tid piece bs b) := steers_of_regs rfl rfl

theorem updTransfer_steers (dr tid : Nat) (f : Transfer → Transfer) (b : Body) : Steers b (updTransfer dr tid f b) := steers_of_regs rfl rfl

theorem updDrv_steers (dr : Nat) (f : Drover → Drover) (b : Body) : Steers b (updDrv b dr f) := steers_of_regs rfl rfl

theorem sendFlit_steers (f : Flit) (b : Body) : Steers b (sendFlit f b) := steers_of_regs rfl rfl

theorem sendModule_steers (m vc : Nat) (f : Flit) (b : Body) : Steers b (sendModule m vc f b).2 := .of_sends (sendModule_within m vc f b)

theorem bulkWrite_steers (src dr tid piece : Nat) (staged : Bool) (dst : Place) (payload : List Byte) (b : Body) :
    Steers b (bulkWrite src dr tid piece staged dst payload b).2 := by
  unfold bulkWrite
  simp only []
  split
  · split
    · exact .refl b
    · split
      · exact sendFlit_steers _ b
      · exact sendModule_steers _ _ _ b
  · split
    · exact sendFlit_steers _ b
    · exact sendModule_steers _ _ _ b
  · exact .refl b

theorem issuePiece_steers (dr tid piece : Nat) (staged : Bool) (src dst : Place) (len : Nat) (b : Body) :
    Steers b (issuePiece dr tid piece staged src dst len b).2 := by
  unfold issuePiece
  simp only []
  split
  · split
    · exact .refl b
    · split
      · exact sendFlit_steers _ b
      · have hread : ∀ x w, Steers b (readSram b x w len).2 := fun x w => readSramUnits_steers _ _ b
        split
        · exact hread _ _
        · exact (hread _ _).trans ((keepPiece_steers _ _ _ _ _).trans (bulkWrite_steers _ _ _ _ _ _ _ _))
  · split
    · exact sendFlit_steers _ b
    · exact sendModule_steers _ _ _ b
  · exact .refl b

theorem issueNext_steers (dr : Nat) (e : DrvEntry) (mv : Moving) (m : Move) (rest : List Move) (p q : Place) (b : Body) :
    Steers b (issueNext dr e mv m rest p q b).1 := by
  have hnoted : ∀ f g, Steers b (updDrv (updTransfer dr mv.tid f b) dr g) := fun f g => (updTransfer_steers _ _ f b).trans (updDrv_steers dr g _)
  unfold issueNext
  simp only []
  split
  · exact .refl b
  · split
    · exact ((hnoted _ _).trans (issuePiece_steers _ _ _ _ _ _ _ _)).trans (drvFault_steers _ _ _ _ _ _ _ _ _)
    · exact (hnoted _ _).trans (issuePiece_steers _ _ _ _ _ _ _ _)

theorem descDone_steers (dr : Nat) (e : DrvEntry) (last : Bool) (b : Body) : Steers b (descDone dr e last b) := by
  have hindex : ∀ i (c : Body), Steers c (setF c R.DRV_STATUS.list_index dr i) := fun i c => setF_steers (by decide) (by decide) (by decide) (by decide) _ _ c
  unfold descDone entryEnd
  simp only []
  split
  · exact .ite ((updDrv_steers dr _ b).trans (drvFault_steers _ _ _ _ _ _ _ _ _)) ((updDrv_steers dr _ b).trans (hindex _ _))
  · exact (updDrv_steers dr _ b).trans (updDrv_steers dr _ _)

theorem pump_steers (dr : Nat) : ∀ (fuel : Nat) (b : Body), Steers b (pump dr fuel b)
  | 0, b => .refl b
  | fuel + 1, b => by
    unfold pump
    simp only []
    split
    · split
      · exact descDone_steers _ _ _ b
      · split
        · exact drvFault_steers _ _ _ _ _ _ _ _ b
        · exact drvFault_steers _ _ _ _ _ _ _ _ b
        · split
          · exact (issueNext_steers _ _ _ _ _ _ _ b).trans (pump_steers dr fuel _)
          · exact issueNext_steers _ _ _ _ _ _ _ b
    · exact .refl b

theorem droverAck_steers (dr tid piece : Nat) (b : Body) : Steers b (droverAck dr tid piece b) := by
  have hshow : ∀ c, Steers c (showDrover dr c) := fun c => by
    unfold showDrover
    exact .ite (.refl c) (setF_steers (by decide) (by decide) (by decide) (by decide) _ _ c)
  exact (updTransfer_steers dr tid _ b).trans ((pump_steers dr _ _).trans (hshow _))

/-! ### Telegrams and strokes -/

theorem Steers.of_tells {c : Body} (h : Tells b c) : Steers b c := by
  obtain ⟨m, ms, fs, rfl⟩ := h
  exact steers_of_regs rfl rfl

theorem ledgerStart_steers (body : StartBody) (b : Body) : Steers b (ledgerStart body b) :=
  .of_within (ledgerStart_within body b) (by decide) (by decide) (by decide) (by decide)

theorem takeStart_steers (stroke : Nat) (body : StartBody) (d : Nat) (b : Body) : Steers b (takeStart stroke body d b) := by
  have hstep : ∀ c : Body, Steers c (setFlag c R.TLY_STROKE_STATUS.out_of_step 0 true) := fun c => setF_steers (by decide) (by decide) (by decide) (by decide) _ _ c
  have hstate : ∀ c : Body, Steers c (setF c R.TLY_STROKE_STATUS.state 0 2) := fun c => setF_steers (by decide) (by decide) (by decide) (by decide) _ _ c
  have hstart : ∀ c, Steers c (schedule stroke body d c) := fun c => (updFlock_steers _ c).trans (ledgerStart_steers body _)
  unfold takeStart
  split
  · exact .refl b
  · split
    · exact ((hstep b).trans (raiseVec_steers _ _)).trans (report_steers _ _)
    · exact (Steers.ite (hstate b) (.refl b)).trans (hstart _)

theorem firstStart_steers (b : Body) : Steers b (firstStart b) := by
  unfold firstStart
  split
  · exact .refl b
  · unfold seatSend
    exact (updFlock_steers _ b).trans ((Steers.of_tells (forwardStart_tells _ _ _ _)).trans (takeStart_steers _ _ _ _))

theorem armPeriod_steers (b : Body) : Steers b (armPeriod b) := by
  have hperiod : ∀ n (c : Body), Steers c (setF c R.TLY_NEXT_PERIOD.period_us 0 n) := fun n c => setF_steers (by decide) (by decide) (by decide) (by decide) _ _ c
  have harmed : ∀ c : Body, Steers c (setFlag c R.TLY_NEXT_PERIOD.armed 0 true) := fun c => setF_steers (by decide) (by decide) (by decide) (by decide) _ _ c
  unfold armPeriod
  split
  · exact .ite ((hperiod _ b).trans (harmed _)) (.refl b)
  · exact .refl b

theorem headroomReady_steers (b : Body) : Steers b (headroomReady b) := by
  have hset : ∀ {f : Field}, f ∈ [R.TLY_COMBINED.period_us, R.TLY_COMBINED_LATE.late_us, R.TLY_COMBINED_LATE.missing] → ∀ x (c : Body), Steers c (setF c f 0 x) := by
    intro f hf
    fin_cases hf <;> exact fun x c => setF_steers (by decide) (by decide) (by decide) (by decide) 0 x c
  have hroot : ∀ c : Body, Steers c (if c.flock.armed then firstStart c else armPeriod c) := fun c => .ite (firstStart_steers c) (armPeriod_steers c)
  unfold headroomReady
  split
  · unfold headroomOut
    split
    · exact .refl b
    · refine (updFlock_steers (fun f => { f with sentUp := [1] }) b).trans ?_
      simp only []
      split
      · exact ((((hset (by simp) _ _).trans (hset (by simp) _ _)).trans (hset (by simp) _ _)).trans (updFlock_steers _ _)).trans (hroot _)
      · exact .of_tells ((telHead_tells _ _ _ _ _ _).trans ((emit_tells _ _).trans (sendTel_tells _ _ _ _)))
  · exact .refl b

theorem arriveUp_steers (f : Nat) (b : Body) : Steers b (arriveUp f b) := by
  obtain ⟨honly, -⟩ := arriveUp_frame f b
  exact steers_of_regs ((honly .regs).resolve_left (by decide)) (congrArg CoxSide.path ((honly .cox).resolve_left (by decide)))
    ((honly .cells).resolve_left (by decide))

theorem liveSetShrank_steers (b : Body) : Steers b (liveSetShrank b) := (Steers.forEach arriveUp_steers _ b).trans (headroomReady_steers _)

/-! ### The loss of a module (R285 to R288) -/

theorem dropFlitsTo_steers (m : Nat) (b : Body) : Steers b (dropFlitsTo m b) := by
  have hfabric : Steers b { b with fabric := b.fabric.filter (fun f => f.via.map (·.1) != some m) } := steers_of_regs rfl rfl
  exact hfabric.trans (Steers.forEach (fun p c => updPort_steers p _ c) _ _)

theorem seatGone_steers (b : Body) : Steers b (seatGone b) := by
  have hseat : ∀ m (c : Body), Steers c (setSeat m c) := fun m c =>
    (setF_steers (f := R.TLY_SEAT.seat) (by decide) (by decide) (by decide) (by decide) 0 m c).trans
      (setF_steers (f := R.TLY_STROKE_STATUS.seat) (by decide) (by decide) (by decide) (by decide) 0 _ _)
  have hact : Steers b (actAsSeat b) := by
    unfold actAsSeat
    simp only []
    split
    · exact (updFlock_steers _ b).trans (updFlock_steers _ _)
    · exact updFlock_steers _ b
  unfold seatGone
  simp only []
  split
  · exact .refl b
  · exact ((Steers.ite hact (.refl b)).trans (hseat _ _)).trans (report_steers _ _)

theorem mirrorLost_steers (k : Nat) (b : Body) : Steers b (mirrorLost k b) := by
  have hoff : Steers b (setFlag b R.MEM_MIR_CFG.enable k false) := setF_steers (by decide) (by decide) (by decide) (by decide) _ _ b
  have hstk : ∀ f (c : Body), Steers c (updStk c k f) := fun f c => steers_of_regs rfl rfl
  have hflag : ∀ dr (c : Body), Steers c (setFlag c R.DRV_FAULT.mirror_lost dr true) := fun dr c => setF_steers (by decide) (by decide) (by decide) (by decide) _ _ c
  have hreport : ∀ w (c : Body), Steers c (reportMirrorLost w c) := fun w c => ((droverAck_steers _ _ _ c).trans (hflag _ _)).trans (report_steers _ _)
  exact (hoff.trans (hstk _ _)).trans (Steers.forEach hreport _ _)

theorem sendLoss_steers (body : LossBody) (src : Option Nat) (sender : Nat) (b : Body) : Steers b (sendLoss body src sender b) := .of_tells (sendLoss_tells body src sender b)

theorem logLoss_steers (m reason det : Nat) (fromTel : Bool) (b : Body) : Steers b (logLoss m reason det fromTel b) := by
  have hset : ∀ {f : Field}, f ∈ [R.KLK_LOSS_LOG.moduleIx, R.KLK_LOSS_LOG.reason, R.KLK_LOSS_LOG.detector, R.KLK_LOSS_LOG.from_telegram, R.KLK_LOSS_LOG.dropped,
      R.KLK_LOSS_LOG.valid, R.KLK_LOSS_LOG.declarations] → ∀ i x (c : Body), Steers c (setF c f i x) := by
    intro f hf
    fin_cases hf <;> exact fun i x c => setF_steers (by decide) (by decide) (by decide) (by decide) i x c
  exact Steers.forEach (fun d c => ((((((hset (by simp) _ _ c).trans (hset (by simp) _ _ _)).trans (hset (by simp) _ _ _)).trans (hset (by simp) _ _ _)).trans
    (hset (by simp) _ _ _)).trans (hset (by simp) _ _ _)).trans (hset (by simp) _ _ _)) _ b

theorem declareLost_steers (m reason det : Nat) (src : Option Nat) (sender : Nat) (b : Body) : Steers b (declareLost m reason det src sender b) := by
  have hmark : Steers b (setFlag b R.KLK_ROUTE.lost m true) := setF_steers (by decide) (by decide) (by decide) (by decide) _ _ b
  have hprobes : ∀ c : Body, Steers c { c with korrel := { c.korrel with probes := c.korrel.probes.filter (fun p => p.moduleIx != m) } } := fun c => steers_of_regs rfl rfl
  have hmirrors : ∀ c : Body, Steers c (forEach (List.range 12) (fun k b =>
      if flagF b R.MEM_MIR_CFG.enable k ∧ getF b R.MEM_MIR_CFG.partner k = m then mirrorLost k b else b) c) :=
    Steers.forEach (fun k c => .ite (mirrorLost_steers k c) (.refl c)) _
  unfold declareLost
  split
  · exact .refl b
  · refine Steers.trans ?_ (liveSetShrank_steers _)
    refine Steers.trans ?_ (report_steers _ _)
    refine Steers.trans ?_ (raiseVec_steers 28 _)
    refine Steers.trans ?_ (logLoss_steers _ _ _ _ _)
    refine Steers.trans ?_ (sendLoss_steers _ _ _ _)
    refine Steers.trans ?_ (hmirrors _)
    have hend := ((hmark.trans (hprobes _)).trans (dropFlitsTo_steers m _)).trans (endRequests_steers (· == m) _)
    exact .ite (hend.trans (seatGone_steers _)) hend

/-! ### The loss of a port (R284 to R286) -/

theorem sendProbe_steers (m reason : Nat) (b : Body) : Steers b (sendProbe m reason b) := by
  unfold sendProbe
  split
  · exact .refl b
  · refine Steers.trans (c := { b with korrel := { b.korrel with probeSeq := (b.korrel.probeSeq + 1) % 256
                                                                 probes := b.korrel.probes ++ [⟨m, (b.korrel.probeSeq + 1) % 256, reason⟩] } }) (steers_of_regs rfl rfl) ?_
    simp only []
    split
    · exact .refl _
    · exact .of_sends (portSend_within _ _ _)

theorem pairLost_steers (k : Nat) (b : Body) : Steers b (pairLost k b) := by
  unfold pairLost
  split
  · exact .refl b
  · split
    · exact .refl b
    · exact sendProbe_steers _ _ b

theorem noticesAll_steers (b : Body) : Steers b (noticesAll b) := Steers.forEach (fun m c => whenB_steers (declareLost_steers m 0 _ none _ c)) _ b

theorem portLost_steers (p cause : Nat) (b : Body) : Steers b (portLost p cause b) := by
  have hcause : Steers b (setF b R.KLK_PORT_LOSS.cause p cause) := setF_steers (by decide) (by decide) (by decide) (by decide) _ _ b
  have hcount : ∀ c : Body, Steers c (addSat c R.KLK_PORT_LOSS.count p 1) := fun c => setF_steers (by decide) (by decide) (by decide) (by decide) _ _ c
  have hlost : ∀ st f, Steers b (report (.port p) (raiseVec 28 (portDown p st (updPort (addSat (setF b R.KLK_PORT_LOSS.cause p cause) R.KLK_PORT_LOSS.count p 1) p f)))) :=
    fun st f => ((((hcause.trans (hcount _)).trans (updPort_steers p f _)).trans (portDown_steers p st _)).trans (raiseVec_steers 28 _)).trans (report_steers _ _)
  unfold portLost
  split
  · exact .refl b
  · simp only []
    split
    · exact .ite ((hlost _ _).trans (pairLost_steers _ _)) (hlost _ _)
    · exact .ite ((hlost _ _).trans (isolateModule_steers _)) ((hlost _ _).trans (whenB_steers (noticesAll_steers _)))

/-! ### The stop of a block (R359) -/

theorem memLost_steers (k : Nat) (b : Body) : Steers b (setF b R.MEM_STATUS.state k 4) := setF_steers (by decide) (by decide) (by decide) (by decide) k 4 b

theorem stopStack_steers (k : Nat) (b : Body) : Steers b (stopStack k b) := by
  unfold stopStack
  exact ((Steers.forEach (loopStop_steers _) _ b).trans (memLost_steers k _)).trans (noteStacks_steers _)

theorem stopLink_steers (n : Nat) (b : Body) : Steers b (stopLink n b) := by
  unfold stopLink
  exact ((loopStop_steers _ _ b).trans (loopStop_steers _ _ _)).trans (Steers.forEach (fun p c => portDown_steers p 6 c) _ _)

/-- The power path of a module that a lost block leaves ready, or not. -/
def lostAtStart (v : Bool) (p : PowerPath) : PowerPath := { p with startLoss := v }

theorem Steers.lossNoted {c : Body} (h : Steers b c) :
    ∃ v, Steers (Machine.updPath (lostAtStart v) b) (Machine.updPath (fun p => { p with startLoss := p.startLoss || !isReady c }) c) :=
  ⟨b.cox.path.startLoss || !isReady c, h.fields, congrArg (fun p : PowerPath => { p with startLoss := p.startLoss || !isReady c }) h.path, h.causes, h.steps, h.cells⟩

theorem Steers.lossKept {c : Body} (h : Steers b c) : ∃ v, Steers (Machine.updPath (lostAtStart v) b) c :=
  ⟨b.cox.path.startLoss, h.fields, h.path, h.causes, h.steps, h.cells⟩

theorem stopBlock_steers (code : Nat) (blk : PowerBlock) (b : Body) : ∃ v, Steers (updPath (lostAtStart v) b) (stopBlock code blk b) := by
  cases blk with
  | ratio d =>
    have hstacks := (stopDie_steers d b).trans (Steers.forEach stopStack_steers ((List.range 12).filter (fun k => stackHost k == d)) (stopDie d b))
    unfold stopBlock
    simp only []
    split
    · exact ((hstacks.trans (stopLink_steers _ _)).trans (report_steers _ _)).lossNoted
    · exact (hstacks.trans (report_steers _ _)).lossNoted
  | die d => exact ((stopDie_steers d b).trans (report_steers _ _)).lossNoted
  | stack k => exact ((stopStack_steers k b).trans (report_steers _ _)).lossNoted
  | link n => exact ((stopLink_steers n b).trans (report_steers _ _)).lossKept
  | cage n => exact ((loopStop_steers _ _ b).trans (Steers.forEach (fun p c => portLost_steers p 3 c) _ _)).lossKept

/-- What latching a block shows. -/
theorem blockLatch_shows (code : Nat) {blk : PowerBlock} (hnew : b.cox.path.blocks.contains blk = false) (hrun : b.cox.path.moduleStop = false) :
    ∃ v, Steers (updPath (fun p => { p with blocks := p.blocks ++ [blk], startLoss := v }) b) (blockLatch code blk b) := by
  obtain ⟨v, hs⟩ := stopBlock_steers code blk (updPath (fun p => { p with blocks := p.blocks ++ [blk] }) b)
  have hx : blockLatch code blk b = stopBlock code blk (updPath (fun p => { p with blocks := p.blocks ++ [blk] }) b) := if_neg (by rw [hnew, hrun]; decide)
  rw [hx]
  exact ⟨v, hs⟩

theorem blockLatch_again (code : Nat) {blk : PowerBlock} (h : b.cox.path.blocks.contains blk = true) : blockLatch code blk b = b := if_pos (.inl h)

end Works

end Sys2Proof.Machine

/-! Trips of the power path and what they stop (O46). -/

namespace Sys2Proof.Machine

section Protection

variable {b : Body} {s : State} {v : Int}

/-! ### What a trip notes (R362) -/

/-- A trip's bit is latched and its interrupt raised. -/
def Noted (code : Nat) (u : State) : Prop := bit u.body.cox.path.tripped (code - 1) = true ∧ bit (getF u.body R.IRQ_CAUSE.cause 0) 22 = true

/-- The power path in which a trip is latched. -/
def latched (code : Nat) (p : PowerPath) : PowerPath := { p with tripped := setBit p.tripped (code - 1) true }

theorem latched_bit (code : Nat) (p : PowerPath) : bit (latched code p).tripped (code - 1) = true := by
  unfold latched
  rw [bit_setBit, if_pos rfl]

theorem tripRecord_latches (code : Nat) {action : Nat} (ha : action ≠ 1) (v : Int) (b : Body) : Steers (updPath (latched code) b) (tripRecord code action v b) := by
  have h := tripRecord_steers code action v b
  rwa [if_neg ha] at h

/-! ### Trips of the bus (R360) -/

theorem stopTrip_acts {c : Instr} {code : Nat} {past : Nat → Bool} {P : Nat → Prop} (hx : exec c s = lift (stopTrip code past v) s)
    (hP : ∀ t, past t = true ↔ P t) (h3 : 3 ≤ power s.body) (h9 : power s.body ≠ 9) (hrun : s.body.cox.path.moduleStop = false) :
    (P (tripThreshold s.body code) → RunsS c s (fun u => Noted code u ∧ power u.body = 10 ∧ u.body.cox.path.moduleStop = true
        ∧ u.body.cox.path.cellsRun = false ∧ ∀ e l, e < 16 → l < 4 → getF u.body R.COX_LOOP_MODE.mode (lix e l) = 0))
      ∧ (¬ P (tripThreshold s.body code) → Runs c s [] (fun b => b = s.body)) := by
  refine ⟨fun hp => ?_, fun hp => runs_same hx (if_neg fun h => hp ((hP _).1 h.1))⟩
  have htrip := tripRecord_latches code (action := 5) (by decide) v s.body
  have hpend := tripRecord_pending code 5 v s.body
  obtain ⟨d, hd⟩ : ∃ d, tripRecord code 5 v s.body = d := ⟨_, rfl⟩
  rw [hd] at htrip hpend
  have hstop : d.cox.path.moduleStop = false := by
    rw [htrip.path]
    exact hrun
  have hf : stopTrip code past v s.body = moduleStop d := by
    rw [← hd]
    exact if_pos ⟨(hP _).2 hp, h3, h9, by simp [hrun]⟩
  obtain ⟨hacts, hpath, hpow, hoff⟩ := moduleStop_shows hstop
  refine runsS_of_lift hx hf ⟨⟨?_, hacts.causes 22 (by decide) hpend⟩, hpow, ?_, ?_, hoff⟩
  · rw [hpath, htrip.path]
    exact latched_bit code _
  · rw [hpath]
    rfl
  · rw [hpath]
    rfl

/-! ### Trips of the pack (R359, R360) -/

theorem packOffTrip_shows (code : Nat) (v : Int) (b : Body) : bit (packOffTrip code v b).cox.path.tripped (code - 1) = true
    ∧ bit (getF (packOffTrip code v b) R.IRQ_CAUSE.cause 0) 22 = true ∧ (packOffTrip code v b).cox.path.packOff = true
    ∧ getF (packOffTrip code v b) R.STP_STATUS.state 0 = 0 ∧ power (packOffTrip code v b) = if 4 ≤ power b ∧ power b ≤ 8 then 11 else power b := by
  have htrip := tripRecord_latches code (action := 3) (by decide) v b
  have hpend := tripRecord_pending code 3 v b
  obtain ⟨d, hd⟩ : ∃ d, tripRecord code 3 v b = d := ⟨_, rfl⟩
  rw [hd] at htrip hpend
  have hf : packOffTrip code v b = packOff d := congrArg packOff hd
  obtain ⟨hacts, ⟨r, hpath⟩, hstate, hpow⟩ := packOff_shows d
  rw [hf]
  refine ⟨?_, hacts.causes 22 (by decide) hpend, ?_, hstate, ?_⟩
  · rw [hpath, htrip.path]
    exact latched_bit code _
  · rw [hpath]
  · rw [hpow, show power d = power b from htrip.power_eq]

/-- What a trip of the pack leaves, with the port in a state. -/
def PackTripped (code now st : Nat) (u : State) : Prop := Noted code u ∧ u.body.cox.path.packOff = true ∧ getF u.body R.STP_STATUS.state 0 = st
  ∧ power u.body = (if 4 ≤ now ∧ now ≤ 8 then 11 else now)

theorem packTrip_opens {code : Nat} (h9 : power b ≠ 9) (u : State) (hu : u.body = packTrip code true v b) : PackTripped code (power b) 0 u := by
  obtain ⟨hbit, hpend, hoff, hstate, hpow⟩ := packOffTrip_shows code v b
  have hx : packTrip code true v b = packOffTrip code v b := by
    unfold packTrip
    rw [if_neg (by decide), if_neg h9]
  unfold PackTripped Noted
  rw [hu, hx]
  exact ⟨⟨hbit, hpend⟩, hoff, hstate, hpow⟩

/-- A measurement of the insulation resistance is noted. -/
def measured (k : Nat) (low : Nat → Nat) (b : Body) : Body :=
  updPath (fun p => { p with lowInsulation := low p.lowInsulation }) (setF b R.STP_INSULATION.kohm 0 (min k 65535))

theorem insulation_low {k : Nat} (hlow : k * 1000 < tripThreshold b 0x10) : insulation k b = (if b.cox.path.lowInsulation + 1 = 10 then
    packTrip 0x10 true (k * 1000 : Nat) (measured k (· + 1) b) else measured k (· + 1) b) := by
  unfold insulation measured
  have hlow' : k * 1000 < tripThreshold (setF b R.STP_INSULATION.kohm 0 (min k 65535)) 0x10 := hlow
  simp only [hlow', if_true]
  rfl

theorem measured_power (k : Nat) (f : Nat → Nat) (b : Body) : power (measured k f b) = power b :=
  getF_setF_other (f := R.STP_INSULATION.kohm) (g := R.GBL_STATUS.power_state) 0 _ (by decide) (by decide) (by decide)

theorem insulation_trips {k : Nat} (h9 : power s.body ≠ 9) (hlow : k * 1000 < tripThreshold s.body 0x10) (hcount : s.body.cox.path.lowInsulation = 9) :
    RunsS (.packInsulation k) s (PackTripped 0x10 (power s.body) 0) := by
  have hx : insulation k s.body = packTrip 0x10 true (k * 1000 : Nat) (measured k (· + 1) s.body) := (insulation_low hlow).trans (if_pos (by rw [hcount]))
  have hpow := measured_power k (· + 1) s.body
  have hopen := fun u => packTrip_opens (v := (k * 1000 : Nat)) (b := measured k (· + 1) s.body) (code := 0x10) (by rwa [hpow]) u
  rw [hpow] at hopen
  exact runsS_of_lift (f := insulation k) rfl hx (hopen _ rfl)

theorem insulation_counts {k : Nat} (hlow : k * 1000 < tripThreshold s.body 0x10) (hcount : s.body.cox.path.lowInsulation < 9) :
    Runs (.packInsulation k) s [.regs, .cox] (fun b => getF b R.STP_INSULATION.kohm 0 = min k 65535
      ∧ b.cox.path = { s.body.cox.path with lowInsulation := s.body.cox.path.lowInsulation + 1 }) := by
  have hx : insulation k s.body = measured k (· + 1) s.body := (insulation_low hlow).trans (if_neg (by omega))
  have honly : Only [.regs, .cox] s.body (measured k (· + 1) s.body) := by
    intro q
    cases q <;> first | exact .inl (by decide) | exact .inr rfl
  refine runs_of_lift (f := insulation k) rfl hx honly ⟨?_, rfl⟩
  show getF (setF s.body R.STP_INSULATION.kohm 0 (min k 65535)) R.STP_INSULATION.kohm 0 = min k 65535
  exact getF_setF_fits (Nat.lt_of_le_of_lt (Nat.min_le_right _ _) (by decide))

/-- The trip of a contactor that is welded: state 4 stands. -/
theorem contactorWeld_opens {pos neg : Bool} (h : pos = true ∨ neg = true) (h0 : getF s.body R.STP_STATUS.state 0 = 0) (h9 : power s.body ≠ 9) :
    RunsS (.contactorWeld pos neg) s (PackTripped 0x11 (power s.body) 4) := by
  obtain ⟨d, hd⟩ : ∃ d, packFault 4 (setFlag (setFlag s.body R.STP_STATUS.aux_pos 0 pos) R.STP_STATUS.aux_neg 0 neg) = d := ⟨_, rfl⟩
  have hpow : power d = power s.body := by
    have hfault := (packFault_shows 4 (setFlag (setFlag s.body R.STP_STATUS.aux_pos 0 pos) R.STP_STATUS.aux_neg 0 neg)).1
    rw [hd] at hfault
    unfold power
    rw [hfault.getF_eq (by decide) (by decide), getF_setFlag_other _ _ (by decide) (by decide) (by decide), getF_setFlag_other _ _ (by decide) (by decide) (by decide)]
  have hx : contactorWeld pos neg s.body = setF (packTrip 0x11 true 0 d) R.STP_STATUS.state 0 4 := by
    unfold contactorWeld
    rw [if_pos ⟨h, h0⟩, ← hd]
  obtain ⟨c, hc⟩ : ∃ c, packTrip 0x11 true 0 d = c := ⟨_, rfl⟩
  obtain ⟨⟨hbit, hpend⟩, hoff, -, hnow⟩ := packTrip_opens (code := 0x11) (v := 0) (b := d) (by rwa [hpow]) { s with body := c } hc.symm
  rw [hc] at hx
  rw [hpow] at hnow
  refine runsS_of_lift (f := contactorWeld pos neg) rfl hx ⟨⟨hbit, ?_⟩, hoff, getF_setF_fits (by decide), ?_⟩
  · show bit (getF (setF c R.STP_STATUS.state 0 4) R.IRQ_CAUSE.cause 0) 22 = true
    rw [getF_setF_other _ _ (by decide) (by decide) (by decide)]
    exact hpend
  · show getF (setF c R.STP_STATUS.state 0 4) R.GBL_STATUS.power_state 0 = _
    rw [getF_setF_other _ _ (by decide) (by decide) (by decide)]
    exact hnow

/-! ### Trips of blocks (R348, R359, R360) -/

theorem railsProgress_started (h : stepIsDone b 6 = true) : railsProgress b = b := if_pos (.inr (.inl h))

theorem blockTrip_below {code : Nat} (blk : Option PowerBlock) : blockTrip code false blk v b = b := by
  unfold blockTrip
  cases blk with
  | none => rfl
  | some k => exact if_neg (by simp)

/-- A block's trip once the rails have started. -/
theorem blockTrip_latches (code : Nat) (blk : PowerBlock) (h3 : 3 ≤ power b) (h6 : stepIsDone (blockOff code blk v b) 6 = true) :
    blockTrip code true (some blk) v b = blockOff code blk v b := by
  have hx : blockTrip code true (some blk) v b = railsProgress (blockOff code blk v b) := if_pos ⟨rfl, h3⟩
  rw [hx, railsProgress_started h6]

variable {code : Nat} {blk : PowerBlock}

theorem blockTrip_new (h3 : 3 ≤ power b) (h6 : stepIsDone b 6 = true) (hrun : b.cox.path.moduleStop = false) (hnew : b.cox.path.blocks.contains blk = false)
    {u : State} (hu : u.body = blockTrip code true (some blk) v b) : Noted code u ∧ u.body.cox.path.blocks = b.cox.path.blocks ++ [blk] ∧ power u.body = power b := by
  have htrip := tripRecord_latches code (action := 4) (by decide) v b
  have hpend := tripRecord_pending code 4 v b
  obtain ⟨d, hd⟩ : ∃ d, tripRecord code 4 v b = d := ⟨_, rfl⟩
  rw [hd] at htrip hpend
  obtain ⟨x, hs⟩ := blockLatch_shows (b := d) code (blk := blk) (by rw [htrip.path]; exact hnew) (by rw [htrip.path]; exact hrun)
  have hoff : blockOff code blk v b = blockLatch code blk d := congrArg (blockLatch code blk) hd
  have hx := blockTrip_latches (v := v) code blk h3 (by rw [hoff]; exact hs.steps 6 (by decide) (htrip.steps 6 (by decide) h6))
  rw [hu, hx, hoff]
  unfold Noted
  rw [hu, hx, hoff]
  refine ⟨⟨?_, hs.causes 22 (by decide) hpend⟩, ?_, hs.power_eq.trans htrip.power_eq⟩
  · rw [hs.path]
    show bit d.cox.path.tripped (code - 1) = true
    rw [htrip.path]
    exact latched_bit code _
  · rw [hs.path]
    show d.cox.path.blocks ++ [blk] = _
    rw [htrip.path]
    rfl

theorem blockTrip_again (h3 : 3 ≤ power b) (h6 : stepIsDone b 6 = true) (hold : b.cox.path.blocks.contains blk = true)
    {u : State} (hu : u.body = blockTrip code true (some blk) v b) : Noted code u ∧ u.body.cox.path.blocks = b.cox.path.blocks := by
  have htrip := tripRecord_latches code (action := 4) (by decide) v b
  have hpend := tripRecord_pending code 4 v b
  obtain ⟨d, hd⟩ : ∃ d, tripRecord code 4 v b = d := ⟨_, rfl⟩
  rw [hd] at htrip hpend
  have hoff : blockOff code blk v b = d := by
    rw [← hd]
    exact blockLatch_again code (by rw [hd, htrip.path]; exact hold)
  have hx := blockTrip_latches (v := v) code blk h3 (by rw [hoff]; exact htrip.steps 6 (by decide) h6)
  unfold Noted
  rw [hu, hx, hoff, htrip.path]
  exact ⟨⟨latched_bit code _, hpend⟩, rfl⟩

/-- What a trip of a block does once the rails have started. -/
theorem blockTrip_acts {c : Instr} {slot : Option PowerBlock} {past : Body → Bool} {P : Prop} (hx : exec c s = lift (fun b => blockTrip code (past b) slot v b) s)
    (hslot : slot = some blk) (hP : past s.body = true ↔ P) (h3 : 3 ≤ power s.body) (h6 : stepIsDone s.body 6 = true) (hrun : s.body.cox.path.moduleStop = false) :
    (P → s.body.cox.path.blocks.contains blk = false → RunsS c s (fun u => Noted code u ∧ u.body.cox.path.blocks = s.body.cox.path.blocks ++ [blk]
        ∧ power u.body = power s.body))
      ∧ (P → s.body.cox.path.blocks.contains blk = true → RunsS c s (fun u => Noted code u ∧ u.body.cox.path.blocks = s.body.cox.path.blocks))
      ∧ (¬ P → Runs c s [] (fun b => b = s.body)) := by
  subst hslot
  refine ⟨fun hp hnew => ?_, fun hp hold => ?_, fun hp => runs_same hx ?_⟩
  · exact runsS_of_lift hx (congrArg (blockTrip code · (some blk) v s.body) (hP.2 hp)) (blockTrip_new (v := v) h3 h6 hrun hnew rfl)
  · exact runsS_of_lift hx (congrArg (blockTrip code · (some blk) v s.body) (hP.2 hp)) (blockTrip_again (v := v) h3 h6 hold rfl)
  · show blockTrip code (past s.body) (some blk) v s.body = s.body
    rw [Bool.eq_false_iff.2 fun h => hp (hP.1 h)]
    exact blockTrip_below _

/-! ### Converter cells (R342, R343) -/

/-- The fields of a cap as it is written. -/
def capFields : List Field := [R.COX_CAP.cap_w, R.COX_CAP.reached, R.LDG_STATUS.cap_active, R.COX_PG_POS.x, R.COX_PG_VEL.v, R.COX_PG_ACC.a, R.COX_PG_CTRL.moving]

/-- What writing a cap that is in range shows. -/
theorem capWrite_shows {w : Nat} (h1 : 1200 ≤ w) (h2 : w ≤ 10500) (b : Body) : Within [.regs] capFields b (capWrite w b) ∧ getF (capWrite w b) R.COX_CAP.cap_w 16 = w := by
  obtain ⟨c, hc⟩ : ∃ c, setFlag (setFlag (setF b R.COX_CAP.cap_w 16 w) R.COX_CAP.reached 16 false) R.LDG_STATUS.cap_active 0 (w != 0) = c := ⟨_, rfl⟩
  have hx : capWrite w b = if w ≠ 0 ∧ getF c R.COX_PG_CTRL.owner (pix 16 0) = 3 ∧ bfLt (bfRat w 1) (getF c R.COX_PG_POS.x (pix 16 0)) then pgPut 16 0 (bfRat w 1) c else c := by
    rw [← hc]
    exact if_neg (by omega)
  have hw : Within [.regs] capFields b c := by
    rw [← hc]
    constructor <;> simp (disch := decide) [capFields]
  have hcap : getF c R.COX_CAP.cap_w 16 = w := by
    rw [← hc, getF_setFlag_other _ _ (by decide) (by decide) (by decide), getF_setFlag_other _ _ (by decide) (by decide) (by decide),
      getF_setF_fits (Nat.lt_of_le_of_lt h2 (by decide))]
  have hput := pgPut_within 16 0 (bfRat w 1) c
  rw [hx]
  split
  · exact ⟨hw.trans (hput.mono (List.Subset.refl _) (by decide)), (hput.getF_eq (by decide) (by decide) 16).trans hcap⟩
  · exact ⟨hw, hcap⟩

/-- What placing a cap that is in range shows. -/
theorem placeCap_shows {w : Nat} (h1 : 1200 ≤ w) (h2 : w ≤ 10500) (b : Body) : ∃ c, Steers b c ∧ Within [.regs] capFields c (placeCap w b)
    ∧ getF (placeCap w b) R.COX_CAP.cap_w 16 = w := by
  have hcount : Steers b (addSat b R.LDG_STATUS.window_lapses 0 1) := setF_steers (by decide) (by decide) (by decide) (by decide) _ _ b
  have hlapse : ∀ bs, Steers b (raiseVec 22 (logRec 0x25 bs (addSat b R.LDG_STATUS.window_lapses 0 1))) := fun bs => (hcount.trans (logRec_steers _ bs _)).trans (raiseVec_steers _ _)
  unfold placeCap
  simp only []
  exact ⟨_, .ite (hlapse _) (.refl b), capWrite_shows h1 h2 _⟩

/-- The path of a module that caps itself. -/
def selfCapped (p : PowerPath) : PowerPath := { p with selfCap := true, capBy := 3 }

/-- What a module that caps itself shows. -/
theorem selfCap_shows (h0 : getF b R.COX_CAP.cap_w 16 = 0) : ∃ c, Steers (updPath selfCapped b) c ∧ Within [.regs] capFields c (selfCap b)
    ∧ getF (selfCap b) R.COX_CAP.cap_w 16 = 8400 := by
  obtain ⟨bs, hx⟩ : ∃ bs, selfCap b = placeCap 8400 (updPath (fun p => { p with capBy := 3 }) (logRec 0x103 bs (updPath (fun p => { p with selfCap := true }) b))) :=
    ⟨_, if_neg fun h => h.1 h0⟩
  have hlog := (logRec_steers 0x103 bs (updPath (fun p => { p with selfCap := true }) b)).updPath (fun p => { p with capBy := 3 })
  obtain ⟨c, hc, hw, hcap⟩ := placeCap_shows (w := 8400) (by decide) (by decide)
    (updPath (fun p => { p with capBy := 3 }) (logRec 0x103 bs (updPath (fun p => { p with selfCap := true }) b)))
  rw [hx]
  exact ⟨c, hlog.trans hc, hw, hcap⟩

/-- A module with a converter cell less, its trip noted. -/
def cellLess (i : Nat) (v : Int) (b : Body) : Body := tripRecord 5 2 v (updPath (fun p => { p with removedCells := p.removedCells ++ [i] }) b)

/-- The power path with a converter cell less. -/
def lessPath (i : Nat) (p : PowerPath) : PowerPath := latched 5 { p with removedCells := p.removedCells ++ [i] }

theorem cellLess_steers (i : Nat) (v : Int) (b : Body) : Steers (updPath (lessPath i) b) (cellLess i v b) :=
  tripRecord_latches 5 (action := 2) (by decide) v (updPath (fun p => { p with removedCells := p.removedCells ++ [i] }) b)

theorem cellLess_pending (i : Nat) (v : Int) (b : Body) : bit (getF (cellLess i v b) R.IRQ_CAUSE.cause 0) 22 = true := tripRecord_pending 5 2 v _

theorem cellLess_removed (i : Nat) (v : Int) (b : Body) : (cellLess i v b).cox.path.removedCells = b.cox.path.removedCells ++ [i] :=
  congrArg PowerPath.removedCells (cellLess_steers i v b).path

variable {i : Nat} (hi : i < 5)

include hi

theorem converterCell_steps {F : Body} (hnew : s.body.cox.path.removedCells.contains i = false)
    (hF : (if s.body.cox.path.inputAbsent then cellLess i v s.body else checkCells (cellLess i v s.body)) = F) {P : State → Prop} (hP : P { s with body := F }) :
    RunsS (.converterCell i v) s P := by
  have habsent : (cellLess i v s.body).cox.path.inputAbsent = s.body.cox.path.inputAbsent := by
    rw [(cellLess_steers i v s.body).path]
    rfl
  have hx : cellRemoved i v s.body = F := by
    refine (if_neg (ne_true_of_eq_false hnew)).trans ?_
    show (if (cellLess i v s.body).cox.path.inputAbsent then cellLess i v s.body else checkCells (cellLess i v s.body)) = F
    rw [habsent, hF]
  exact runsS_of_lift (f := cellRemoved i v) (lift_of_onUnit (decide_eq_true hi)) hx hP

theorem converterCell_again (hold : s.body.cox.path.removedCells.contains i = true) : Runs (.converterCell i v) s [] (fun b => b = s.body) :=
  runs_same (f := cellRemoved i v) (lift_of_onUnit (decide_eq_true hi)) (if_pos hold)

theorem converterCell_first (hnew : s.body.cox.path.removedCells.contains i = false) (h : s.body.cox.path.inputAbsent = true ∨ s.body.cox.path.removedCells.length = 0) :
    RunsS (.converterCell i v) s (fun u => Noted 5 u ∧ u.body.cox.path.removedCells = s.body.cox.path.removedCells ++ [i] ∧ power u.body = power s.body) := by
  have hs := cellLess_steers i v s.body
  refine converterCell_steps hi hnew (F := cellLess i v s.body) ?_ ⟨⟨?_, cellLess_pending i v _⟩, cellLess_removed i v _, hs.power_eq⟩
  · split
    · rfl
    next hin =>
      have hlen := congrArg List.length (cellLess_removed i v s.body)
      rw [List.length_append, h.resolve_left hin] at hlen
      unfold checkCells
      simp [hlen]
  · rw [hs.path]
    exact latched_bit 5 _

theorem converterCell_caps (hnew : s.body.cox.path.removedCells.contains i = false) (hin : s.body.cox.path.inputAbsent = false)
    (hlen : s.body.cox.path.removedCells.length = 1) (hself : s.body.cox.path.selfCap = false) (hcap : getF s.body R.COX_CAP.cap_w 16 = 0)
    (hlevel : 8400 < getF s.body R.LDG_LEVEL.level_w 0) : RunsS (.converterCell i v) s (fun u =>
      Noted 5 u ∧ u.body.cox.path.selfCap = true ∧ getF u.body R.COX_CAP.cap_w 16 = 8400 ∧ power u.body = power s.body) := by
  have hs := cellLess_steers i v s.body
  have hpend := cellLess_pending i v s.body
  have hcount := congrArg List.length (cellLess_removed i v s.body)
  rw [List.length_append, hlen] at hcount
  obtain ⟨d, hd⟩ : ∃ d, cellLess i v s.body = d := ⟨_, rfl⟩
  have hx : (if s.body.cox.path.inputAbsent then cellLess i v s.body else checkCells (cellLess i v s.body)) = selfCap d := by
    rw [hd] at hs hcount ⊢
    have hself' : d.cox.path.selfCap = false := (congrArg PowerPath.selfCap hs.path).trans hself
    have hlevel' : 8400 < getF d R.LDG_LEVEL.level_w 0 := by rwa [hs.getF_eq (by decide) (by decide)]
    rw [if_neg (by simp [hin])]
    exact if_pos ⟨by rw [hcount]; rfl, by simp [hself'], .inl hlevel'⟩
  rw [hd] at hs hpend
  obtain ⟨c, hc, hw, hset⟩ := selfCap_shows (b := d) ((hs.getF_eq (by decide) (by decide) 16).trans hcap)
  have hpath : (selfCap d).cox.path = selfCapped (lessPath i s.body.cox.path) :=
    (congrArg CoxSide.path (hw.same (p := .cox) (by decide))).trans (hc.path.trans (congrArg selfCapped hs.path))
  refine converterCell_steps hi hnew hx ⟨⟨?_, ?_⟩, congrArg PowerPath.selfCap hpath, hset, ?_⟩
  · show bit (selfCap d).cox.path.tripped (5 - 1) = true
    rw [hpath]
    exact latched_bit 5 _
  · show bit (getF (selfCap d) R.IRQ_CAUSE.cause 0) 22 = true
    rw [hw.getF_eq (by decide) (by decide)]
    exact hc.causes 22 (by decide) hpend
  · exact (hw.getF_eq (f := R.GBL_STATUS.power_state) (by decide) (by decide) 0).trans (hc.power_eq.trans hs.power_eq)

theorem converterCell_stops (hnew : s.body.cox.path.removedCells.contains i = false) (hin : s.body.cox.path.inputAbsent = false)
    (hlen : s.body.cox.path.removedCells.length = 2) (hrun : s.body.cox.path.moduleStop = false) :
    RunsS (.converterCell i v) s (fun u => u.body.cox.path.moduleStop = true ∧ power u.body = 10) := by
  have hs := cellLess_steers i v s.body
  have hcount := congrArg List.length (cellLess_removed i v s.body)
  rw [List.length_append, hlen] at hcount
  obtain ⟨-, hpath, hpow, -⟩ := moduleStop_shows (b := cellLess i v s.body) ((congrArg PowerPath.moduleStop hs.path).trans hrun)
  have hx : (if s.body.cox.path.inputAbsent then cellLess i v s.body else checkCells (cellLess i v s.body)) = moduleStop (cellLess i v s.body) := by
    rw [if_neg (by simp [hin])]
    unfold checkCells
    simp [hcount]
  exact converterCell_steps hi hnew hx ⟨congrArg PowerPath.moduleStop hpath, hpow⟩

omit hi

/-! ### Removed phases (R348) -/

theorem engine_updEngine_same (e : Nat) (f : CoxEngine → CoxEngine) (b : Body) : engine (updEngine e f b) e = f (engine b e) := SMap.get_put_same _ _ _ _

/-- A body that differs from another in parts of the engines and registers and in which an engine misses the phases given. -/
def Misses (e : Nat) (ks : List Nat) (b c : Body) : Prop := Only [.cox, .regs] b c ∧ (engine c e).removed = ks

theorem Misses.setF {e : Nat} {ks : List Nat} {c : Body} (h : Misses e ks b c) (f : Field) (i v : Nat) : Misses e ks b (setF c f i v) :=
  ⟨(only_setF f i v (by decide)).2 h.1, h.2⟩

theorem Misses.abortShed {e : Nat} {ks : List Nat} {c : Body} (h : Misses e ks b c) : Misses e ks b (abortShed e c) := by
  have hshed : Misses e ks b (updEngine e (fun g => { g with shedPhase := none }) c) :=
    ⟨(only_updEngine e _ (by decide)).2 h.1, (congrArg CoxEngine.removed (engine_updEngine_same e _ c)).trans h.2⟩
  unfold Machine.abortShed
  split
  · exact (hshed.setF _ _ _).setF _ _ _
  · exact h

theorem Misses.setRunning {e : Nat} {ks : List Nat} {c : Body} (h : Misses e ks b c) (run : List Nat) : Misses e ks b (setRunning e run c) := (h.setF _ _ _).setF _ _ _

/-- The place of a phase among those removed. -/
def phaseKey (e l ph : Nat) : Nat := if (e < 16 ∧ l < 2) ∨ e = 17 then ph else railOf e l * 16 + ph

theorem phaseRemove_misses (e l ph : Nat) (b : Body) : Misses e (if phaseKey e l ph ∈ (engine b e).removed then (engine b e).removed
    else (engine b e).removed ++ [phaseKey e l ph]) b (phaseRemove e l ph b) := by
  by_cases hold : phaseKey e l ph ∈ (engine b e).removed
  · have hx : phaseRemove e l ph b = b := if_pos (List.contains_iff_mem.2 hold)
    rw [if_pos hold, hx]
    exact ⟨Only.refl _ b, rfl⟩
  · have hnew : Misses e ((engine b e).removed ++ [phaseKey e l ph]) b (updEngine e (fun g => { g with removed := g.removed ++ [phaseKey e l ph] }) b) :=
      ⟨(only_updEngine e _ (by decide)).2 (Only.refl _ b), congrArg CoxEngine.removed (engine_updEngine_same e _ b)⟩
    have hcontains : ¬ (engine b e).removed.contains (phaseKey e l ph) = true := fun h => hold (List.contains_iff_mem.1 h)
    rw [if_neg hold]
    unfold phaseRemove
    simp only []
    rw [show (if (e < 16 ∧ l < 2) ∨ e = 17 then ph else railOf e l * 16 + ph) = phaseKey e l ph from rfl, if_neg hcontains]
    obtain ⟨c, hc⟩ : ∃ c, updEngine e (fun g => { g with removed := g.removed ++ [phaseKey e l ph] }) b = c := ⟨_, rfl⟩
    rw [hc] at hnew ⊢
    split
    · obtain ⟨d, hd⟩ : ∃ d, setRunning e ((runningPhases c e 0).filter (fun p => p != ph)) c = d := ⟨_, rfl⟩
      have hrun : Misses e ((engine b e).removed ++ [phaseKey e l ph]) b d := by
        rw [← hd]
        exact hnew.setRunning _
      rw [hd]
      split
      · split
        · exact hrun.abortShed
        · exact hrun
      · exact hrun
    · exact hnew

theorem phaseRemove_removes {e l ph : Nat} (he : e < 20) (hl : l < 16) (hph : ph < railPhases e l) : Runs (.phaseRemove e l ph) s [.cox, .regs] (fun c =>
    (engine c e).removed = if phaseKey e l ph ∈ (engine s.body e).removed then (engine s.body e).removed else (engine s.body e).removed ++ [phaseKey e l ph]) :=
  runs_of_lift (f := phaseRemove e l ph) (lift_of_onUnit (decide_eq_true ⟨he, hl, hph⟩)) rfl (phaseRemove_misses e l ph s.body).1 (phaseRemove_misses e l ph s.body).2

/-! ### The bus (R344, R345) -/

/-- What ending a phase shedding leaves alone. -/
structure Sheds (b c : Body) : Prop where
  path : c.cox.path = b.cox.path
  flag : ∀ e, flagF c R.COX_STATUS.bus_low e = flagF b R.COX_STATUS.bus_low e
  power : power c = power b

theorem Sheds.refl (b : Body) : Sheds b b := ⟨rfl, fun _ => rfl, rfl⟩

theorem abortShed_sheds (e : Nat) (b : Body) : Sheds b (abortShed e b) := by
  unfold abortShed
  split
  · refine ⟨rfl, fun i => ?_, ?_⟩
    · rw [flagF, flagF, addSat, getF_setF_other _ _ (by decide) (by decide) (by decide), getF_setFlag_other _ _ (by decide) (by decide) (by decide)]
      rfl
    · rw [power, power, addSat, getF_setF_other _ _ (by decide) (by decide) (by decide), getF_setFlag_other _ _ (by decide) (by decide) (by decide)]
      rfl
  · exact .refl b

theorem sheds_forEach {f : Nat → Body → Body} (h : ∀ e b, Sheds b (f e b)) : ∀ (l : List Nat) (b : Body), Sheds b (forEach l f b)
  | [], b => .refl b
  | e :: l, b =>
    have hf := h e b
    have hl := sheds_forEach h l (f e b)
    ⟨hl.path.trans hf.path, fun i => (hl.flag i).trans (hf.flag i), hl.power.trans hf.power⟩

theorem busLow_shows (x : Bool) (b : Body) : (busLow x b).cox.path = { b.cox.path with busLow := x }
    ∧ (∀ e, e < 20 → flagF (busLow x b) R.COX_STATUS.bus_low e = x) ∧ power (busLow x b) = power b := by
  obtain ⟨c, hc⟩ : ∃ c, forEach (List.range 20) (fun e b => setFlag b R.COX_STATUS.bus_low e x) (updPath (fun p => { p with busLow := x }) b) = c := ⟨_, rfl⟩
  have hflags : Within [.regs] [R.COX_STATUS.bus_low] (updPath (fun p => { p with busLow := x }) b) c := by
    rw [← hc]
    exact forEach_setFlag_within (by decide) x _ _
  have hlow : ∀ e, e < 20 → flagF c R.COX_STATUS.bus_low e = x := fun e he => by
    rw [← hc, flagF_forEach_setFlag (by decide), if_pos (List.mem_range.2 he)]
  obtain ⟨d, hd⟩ : ∃ d, forEach shedEngines (fun e b => if x then abortShed e b else b) c = d := ⟨_, rfl⟩
  have hshed : Sheds c d := by
    rw [← hd]
    refine sheds_forEach (fun e c => ?_) _ c
    split
    · exact abortShed_sheds e c
    · exact .refl c
  have hs : Steers d (busLow x b) := by
    have hx : busLow x b = noteWindow 2 (forEach (List.range 16) ceilingsChanged d) := by
      rw [← hd, ← hc]
      rfl
    rw [hx]
    exact (Steers.forEach ceilingsChanged_steers _ d).trans (noteWindow_steers 2 _)
  refine ⟨?_, fun e he => ?_, ?_⟩
  · rw [hs.path, hshed.path, congrArg CoxSide.path (hflags.same (p := .cox) (by decide))]
    rfl
  · rw [hs.flagF_eq (by decide) (by decide), hshed.flag, hlow e he]
  · rw [hs.power_eq, hshed.power, power, hflags.getF_eq (by decide) (by decide)]
    rfl

theorem busLow_reaches {c : Instr} {x : Bool} (hx : exec c s = lift (busLow x) s) : RunsS c s (fun u => u.body.cox.path = { s.body.cox.path with busLow := x }
    ∧ (∀ e, e < 20 → flagF u.body R.COX_STATUS.bus_low e = x) ∧ power u.body = power s.body) := by
  have hshows := busLow_shows x s.body
  obtain ⟨d, hd⟩ : ∃ d, busLow x s.body = d := ⟨_, rfl⟩
  rw [hd] at hshows
  exact runsS_of_lift hx hd hshows

end Protection

/-- Settles O46: a trip is latched and noted, and then stops the module (R360), opens the pack (R359), stops its block once (R359) or takes a converter cell out of
use (R342, R343); what a stop shows comes from `moduleStop_shows`, `packOff_shows` and `blockLatch_shows`. -/
theorem protection : Obligations.Protection := by
  unfold Obligations.Protection
  intro s v
  refine ⟨?overvoltage, ?undervoltage, ?port, ?portCurrent, ?portHeat, ?insulation, ?measure, ?weld, ?dies, ?rails, ?cells, ?phases, ?halted, ?low⟩
  case overvoltage => exact fun h3 h9 hrun => stopTrip_acts (c := .busOv v) (code := 6) (past := fun t => decide ((t : Int) < v)) (P := fun t => (t : Int) < v) rfl (fun t => by simp) h3 h9 hrun
  case undervoltage => exact fun h3 h9 hrun => stopTrip_acts (c := .busUv v) (code := 7) (past := fun t => decide (v < (t : Int))) (P := fun t => v < (t : Int)) rfl (fun t => by simp) h3 h9 hrun
  case port =>
    exact fun h9 => ⟨fun h => runsS_of_lift (f := fun b => packTrip 8 (decide (tripThreshold b 8 < v.natAbs)) v b) rfl
        (congrArg (packTrip 8 · v s.body) (decide_eq_true h)) (packTrip_opens h9 _ rfl),
      fun h => runsS_of_lift (f := fun b => packTrip 9 (decide ((tripThreshold b 9 : Int) < v)) v b) rfl
        (congrArg (packTrip 9 · v s.body) (decide_eq_true h)) (packTrip_opens h9 _ rfl)⟩
  case portCurrent =>
    exact fun h => runs_same (f := fun b => packTrip 8 (decide (tripThreshold b 8 < v.natAbs)) v b) rfl
      (congrArg (packTrip 8 · v s.body) (decide_eq_false (Nat.not_lt.2 h)))
  case portHeat =>
    exact fun h => runs_same (f := fun b => packTrip 9 (decide ((tripThreshold b 9 : Int) < v)) v b) rfl
      (congrArg (packTrip 9 · v s.body) (decide_eq_false (Int.not_lt.2 h)))
  case insulation => exact fun k => insulation_trips
  case measure => exact fun k => insulation_counts
  case weld => exact fun pos neg => contactorWeld_opens
  case dies =>
    intro d hd
    have hunit : isDie d = true := decide_eq_true hd
    refine ⟨fun h3 h6 hrun => ?_, fun h3 h6 hrun => ?_, fun h3 h6 hrun => ?_⟩
    · exact blockTrip_acts (past := fun _ => true) (slot := some (.ratio d)) (v := v) (lift_of_onUnit hunit) rfl (by simp) h3 h6 hrun
    · exact blockTrip_acts (past := fun b => decide ((tripThreshold b 0x0B : Int) < v)) (slot := some (.ratio d)) (v := v) (lift_of_onUnit hunit) rfl (by simp) h3 h6 hrun
    · exact blockTrip_acts (past := fun b => decide ((tripThreshold b 0x0F : Int) < v)) (slot := some (.die d)) (v := v) (lift_of_onUnit hunit) rfl (by simp) h3 h6 hrun
  case rails =>
    intro e l blk he hl hblk
    have hunit : decide (e < 20 ∧ l < 16) = true := decide_eq_true ⟨he, hl⟩
    refine ⟨fun h3 h6 hrun => ?_, fun h3 h6 hrun => ?_, fun h3 h6 hrun => ?_⟩
    · exact blockTrip_acts (past := fun b => railOn b e l && decide ((tripThreshold b 0x0C : Int) < v * 1000)) (v := v * 1000) (lift_of_onUnit hunit) hblk
        (by simp [railOn]) h3 h6 hrun
    · exact blockTrip_acts (past := fun b => railOn b e l && decide ((tripThreshold b 0x0D : Int) < v * 1000)) (v := -v * 1000) (lift_of_onUnit hunit) hblk
        (by simp [railOn]) h3 h6 hrun
    · exact blockTrip_acts (past := fun b => decide (min 2 (railPhases e l) ≤ removedCount b e l) && decide (0 < railPhases e l)) (v := v) (lift_of_onUnit hunit) hblk
        (by simp only [Bool.and_eq_true, decide_eq_true_eq]) h3 h6 hrun
  case cells => exact fun i hi => ⟨converterCell_again hi, converterCell_first hi, converterCell_caps hi, converterCell_stops hi⟩
  case phases => exact fun e l ph he hl hph => phaseRemove_removes he hl hph
  case halted =>
    intro mv
    refine path_runs (f := busCellStop mv) (g := fun p => { p with cellsHalted := if 58000 < mv then true else if mv < 56500 then false else p.cellsHalted }) rfl ?_
    unfold busCellStop
    split_ifs <;> rfl
  case low =>
    intro r hr
    rcases List.mem_pair.1 hr with rfl | rfl
    · exact busLow_reaches (x := true) rfl
    · exact busLow_reaches (x := false) rfl

end Sys2Proof.Machine

/-! The loops of the Cox engines (O47). -/

namespace Sys2Proof.Machine

section Loops

variable {b c : Body} {s : State} {e l : Nat} {x : LoopSample}

/-! ### What a loop computes depends on -/

theorem loop_updLoop_same (e l : Nat) (f : CoxLoop → CoxLoop) (b : Body) : loop (updLoop e l f b) e l = f (loop b e l) := SMap.get_put_same _ _ _ _

/-- Two bodies in which a loop computes alike: they differ in its feedback register and in the counts of its samples. -/
structure SameLoop (e l : Nat) (b c : Body) : Prop where
  fields : FieldsBut [R.COX_LOOP_FB.fb] b c
  path : c.cox.path = b.cox.path
  engines : c.cox.engines = b.cox.engines
  loop : ∃ n m, Machine.loop c e l = { Machine.loop b e l with stale := n, mismatch := m }

namespace SameLoop

theorem getF_eq (h : SameLoop e l b c) {f : Field} (i : Nat) (hf : f.idx < 1024) (hn : f.idx ∉ [R.COX_LOOP_FB.fb].map Field.idx) : getF c f i = getF b f i :=
  h.fields f i hf hn

theorem loopPg_eq (h : SameLoop e l b c) : loopPg c e l = loopPg b e l := by
  unfold loopPg
  rw [h.getF_eq _ (by decide) (by decide)]

theorem loopSoft_eq (h : SameLoop e l b c) : loopSoft c e l = loopSoft b e l := by
  unfold loopSoft softStarting flagF
  rw [h.loopPg_eq]
  simp (disch := decide) only [h.getF_eq]

theorem runningPhases_eq (h : SameLoop e l b c) : runningPhases c e l = runningPhases b e l := by
  unfold runningPhases engine
  simp (disch := decide) only [h.getF_eq, h.path, h.engines]

theorem portLimit_eq (h : SameLoop e l b c) : portLimit c = portLimit b := by
  unfold portLimit engine loopMode
  simp (disch := decide) only [h.getF_eq, h.engines]

theorem clampHi_eq (h : SameLoop e l b c) (q : Nat) : clampHi c e l q = clampHi b e l q := by
  obtain ⟨n, m, hloop⟩ := h.loop
  unfold clampHi inputLimitW loopKind
  rw [h.loopSoft_eq, h.runningPhases_eq, h.portLimit_eq, hloop, h.path, h.getF_eq (f := R.COX_LOOP_CLAMP_HI.hi) _ (by decide) (by decide),
    h.getF_eq (f := R.COX_SOFT_ILIM.ilim) _ (by decide) (by decide), h.getF_eq (f := R.COX_LOOP_CFG.kind) _ (by decide) (by decide),
    h.getF_eq (f := R.COX_CAP.cap_w) _ (by decide) (by decide)]

theorem clampLo_eq (h : SameLoop e l b c) : clampLo c e l = clampLo b e l := by
  unfold clampLo
  rw [h.loopSoft_eq, h.runningPhases_eq, h.portLimit_eq]
  simp (disch := decide) only [h.getF_eq]

theorem regionStep_eq (h : SameLoop e l b c) (q : Nat) : regionStep c e l q = regionStep b e l q := by
  obtain ⟨n, m, hloop⟩ := h.loop
  unfold regionStep loopKind
  rw [hloop]
  simp (disch := decide) only [h.getF_eq]

theorem gainsOf_eq (h : SameLoop e l b c) (r : Nat) : gainsOf c e l r = gainsOf b e l r := by
  unfold gainsOf
  simp (disch := decide) only [h.getF_eq]

theorem loopRef_eq (h : SameLoop e l b c) : loopRef c e l = loopRef b e l := by
  unfold loopRef
  rw [h.loopPg_eq]
  simp (disch := decide) only [h.getF_eq]

theorem ffValue_eq (h : SameLoop e l b c) : (ffStep c e l).1 = (ffStep b e l).1 := by
  obtain ⟨n, m, hloop⟩ := h.loop
  unfold ffStep ffRest flagF
  rw [hloop]
  simp (disch := decide) only [h.getF_eq]
  split_ifs <;> rfl

end SameLoop

/-! ### A period of a loop whose samples are fresh (R372, R402) -/

/-- The loop with its sample of a period noted. -/
def sampled (e l : Nat) (b : Body) : Body := updLoop e l (fun t => { t with stale := 0 }) (updLoop e l (fun t => { t with mismatch := false }) b)

theorem sampled_same (e l : Nat) (b : Body) : SameLoop e l b (sampled e l b) where
  fields _ _ _ _ := rfl
  path := rfl
  engines := rfl
  loop := ⟨0, false, (loop_updLoop_same e l _ _).trans (congrArg (fun t : CoxLoop => { t with stale := 0 }) (loop_updLoop_same e l _ b))⟩

/-- A loop of a rail whose sample is sound and fresh, and that runs on its primary sense. -/
structure Steady (e l : Nat) (x : LoopSample) (b : Body) : Prop where
  runs : engineRuns b e = true
  present : slotPresent b e l = true
  sound : x.mismatch = false
  fresh : x.fresh = true
  prompt : x.delay ≤ 550
  primary : flagF b R.COX_LOOP_CFG.sense_fallback (lix e l) = false
  free : (loop b e l).held = none
  notInput : e ≠ 16
  notPort : e ≠ 17
  rail : loopKind b e l = 0

/-- The delay of a period, noted. -/
def delayed (e l delay : Nat) (b : Body) : Body :=
  let b := setF b R.COX_LOOP_DELAY.last (lix e l) delay
  let b := setF b R.COX_LOOP_DELAY.min (lix e l) (min (getF b R.COX_LOOP_DELAY.min (lix e l)) delay)
  setF b R.COX_LOOP_DELAY.max (lix e l) (max (getF b R.COX_LOOP_DELAY.max (lix e l)) delay)

/-- The fields of a loop's delay. -/
def delayFields : List Field := [R.COX_LOOP_DELAY.last, R.COX_LOOP_DELAY.min, R.COX_LOOP_DELAY.max]

theorem delayed_within (e l delay : Nat) (b : Body) : Within [.cox, .regs] delayFields b (delayed e l delay b) := by
  unfold delayed delayFields
  constructor <;> simp (disch := decide)

theorem Steady.noteFresh (h : Steady e l x b) : noteFresh e l x (updLoop e l (fun t => { t with mismatch := false }) b) = sampled e l b := by
  unfold Machine.noteFresh
  have hsamp : updLoop e l (fun t => { t with stale := if x.fresh then 0 else t.stale + 1 }) (updLoop e l (fun t => { t with mismatch := false }) b) = sampled e l b := by
    rw [h.fresh]
    rfl
  have hheld : (loop (sampled e l b) e l).held = none := by
    obtain ⟨n, m, hloop⟩ := (sampled_same e l b).loop
    rw [hloop]
    exact h.free
  rw [hsamp]
  simp only [h.fresh, if_true]
  refine if_neg ?_
  rw [hheld, show flagF (sampled e l b) R.COX_LOOP_CFG.sense_fallback (lix e l) = false from h.primary]
  decide

theorem Steady.period (h : Steady e l x b) {fs : List Field} (hw : Within [.cox, .regs] fs b (runMode e l x (sampled e l b))) (hf : R.COX_LOOP_CFG.kind.idx ∉ fs.map Field.idx) :
    loopPeriod e l x b = delayed e l x.delay (runMode e l x (sampled e l b)) := by
  obtain ⟨d, hd⟩ : ∃ d, runMode e l x (sampled e l b) = d := ⟨_, rfl⟩
  rw [hd] at hw
  have hport : ∀ fb c, notePort e l fb c = c := fun fb c => by
    unfold notePort
    simp [h.notPort]
  have hdelay : noteDelay e l x.delay d = delayed e l x.delay d := if_neg (Nat.not_lt.2 h.prompt)
  have hkind : loopKind (delayed e l x.delay d) e l = 0 := by
    rw [← h.rail]
    exact ((delayed_within e l x.delay d).getF_eq (by decide) (by decide) _).trans (hw.getF_eq (by decide) hf _)
  unfold loopPeriod
  rw [if_neg (by simp [h.runs, h.present]), if_neg (by simp [h.sound])]
  simp only [h.noteFresh, hport, hd, hdelay]
  have hcap : capReached e l (delayed e l x.delay d) = delayed e l x.delay d := by
    unfold capReached
    simp [h.notInput]
  have hgood : thermalGood e l x.fresh (delayed e l x.delay d) = delayed e l x.delay d := by
    unfold thermalGood
    rw [if_pos (by omega)]
  rw [hcap, hgood, if_neg (c := e = 17 ∧ l ≠ 2) (by simp [h.notPort]), if_neg (by rw [hkind]; decide)]

theorem Steady.feedback (h : Steady e l x b) : loopFb (sampled e l b) e l x = nth x.primary 0 :=
  if_neg (by rw [show flagF (sampled e l b) R.COX_LOOP_CFG.sense_fallback (lix e l) = false from h.primary]; decide)

theorem isLoop_eq (he : e < 20) (hl : l < 16) : isLoop e l = true := decide_eq_true ⟨he, hl⟩

theorem loopPeriod_idle (he : e < 20) (hl : l < 16) (h : engineRuns s.body e = false ∨ slotPresent s.body e l = false) :
    Runs (.loopPeriod e l x) s [] (fun b => b = s.body) :=
  runs_same (f := loopPeriod e l x) (lift_of_onUnit (isLoop_eq he hl)) (if_pos (by simpa using h))

theorem sampled_within (e l : Nat) (b : Body) : Within [.cox, .regs] [] b (sampled e l b) := by
  unfold sampled
  constructor <;> simp (disch := decide)

/-- A period of a loop that is off (R372, R404). -/
theorem loopPeriod_off (he : e < 20) (hl : l < 16) (h : Steady e l x s.body) (hoff : loopMode s.body e l = 0) :
    Runs (.loopPeriod e l x) s [.cox, .regs] (RegsBut delayFields (lix e l) s.body) := by
  have hmode : runMode e l x (sampled e l s.body) = sampled e l s.body := by
    unfold runMode
    simp only [show loopMode (sampled e l s.body) e l = 0 from hoff]
  have hx : loopPeriod e l x s.body = delayed e l x.delay (sampled e l s.body) := by
    rw [h.period (fs := []) (by rw [hmode]; exact sampled_within e l _) (by decide), hmode]
  refine runs_of_lift (lift_of_onUnit (isLoop_eq he hl)) hx ?_ ?_
  · exact (sampled_within e l s.body).only.trans (delayed_within e l x.delay _).only
  · unfold delayed delayFields sampled
    simp (disch := decide)

/-- A loop that has put an output on its actuator by hand. -/
def byHand (e l fb out : Nat) (x : LoopSample) (b : Body) : Body :=
  setF (applyOut e l out (updLoop e l (fun t => { t with fbPrev := fb, latest := out, fbs := x.primary, trims := if loopKind b e l = 1 then List.replicate (railPhases e l) out else t.trims })
    (setF b R.COX_LOOP_FB.fb (lix e l) fb))) R.COX_LOOP_MODE.state (lix e l) 1

/-- The output of a loop in manual (R396). -/
def handOut (b : Body) (e l q : Nat) : Nat :=
  bfClamp (towardValue (getF b R.COX_LOOP_OUT.out (lix e l)) (getF b R.COX_LOOP_MANUAL.manual (lix e l)) (getF b R.COX_LOOP_SLEW.slew (lix e l))) (clampLo b e l) (clampHi b e l q)

theorem Steady.manual (h : Steady e l x b) (hmode : loopMode b e l = 1) :
    runMode e l x (sampled e l b) = byHand e l (nth x.primary 0) (handOut b e l x.inputQ) x (sampled e l b) := by
  have hsame := sampled_same e l b
  have hout : handOut b e l x.inputQ = handOut (sampled e l b) e l x.inputQ := by
    unfold handOut
    rw [hsame.clampLo_eq, hsame.clampHi_eq]
    rfl
  unfold runMode
  rw [h.feedback, hout]
  simp only [show loopMode (sampled e l b) e l = 1 from hmode]
  rfl

/-- A period of a loop in manual (R396). -/
theorem loopPeriod_manual (he : e < 20) (hl : l < 16) (h : Steady e l x s.body) (hmode : loopMode s.body e l = 1) :
    Runs (.loopPeriod e l x) s [.cox, .regs] (fun b => getF b R.COX_LOOP_OUT.out (lix e l) = handOut s.body e l x.inputQ % 2 ^ 32
      ∧ getF b R.COX_LOOP_FB.fb (lix e l) = nth x.primary 0 % 2 ^ 32 ∧ getF b R.COX_LOOP_MODE.state (lix e l) = 1
      ∧ RegsBut (delayFields ++ [R.COX_LOOP_OUT.out, R.COX_LOOP_FB.fb, R.COX_LOOP_MODE.state]) (lix e l) s.body b) := by
  obtain ⟨out, hout⟩ : ∃ out, handOut s.body e l x.inputQ = out := ⟨_, rfl⟩
  have hmanual := h.manual hmode
  rw [hout] at hmanual ⊢
  have hhand : Within [.cox, .regs] [R.COX_LOOP_OUT.out, R.COX_LOOP_FB.fb, R.COX_LOOP_MODE.state] s.body (byHand e l (nth x.primary 0) out x (sampled e l s.body)) := by
    unfold byHand applyOut sampled
    constructor <;> simp (disch := decide)
  have hx : loopPeriod e l x s.body = delayed e l x.delay (byHand e l (nth x.primary 0) out x (sampled e l s.body)) := by
    rw [h.period (by rw [hmanual]; exact hhand) (by decide), hmanual]
  have hdelay := delayed_within e l x.delay (byHand e l (nth x.primary 0) out x (sampled e l s.body))
  refine runs_of_lift (lift_of_onUnit (isLoop_eq he hl)) hx (hhand.only.trans hdelay.only) ⟨?_, ?_, ?_, ?_⟩
  · rw [hdelay.getF_eq (by decide) (by decide), byHand, getF_setF_other _ _ (by decide) (by decide) (by decide)]
    exact getF_setF_same _ _ _ _
  · rw [hdelay.getF_eq (by decide) (by decide), byHand, getF_setF_other _ _ (by decide) (by decide) (by decide)]
    exact (getF_setF_other _ _ (by decide) (by decide) (by decide)).trans (getF_setF_same _ _ _ _)
  · rw [hdelay.getF_eq (by decide) (by decide)]
    exact getF_setF_fits (by decide)
  · unfold delayed delayFields byHand applyOut sampled
    simp (disch := decide)

/-! ### A period in auto (R372) -/

theorem loopFlag_within {f : Field} {fs : List Field} (hf : f.idx < 1024) (hm : f ∈ fs) (e l : Nat) (v : Bool) (b : Body) : Within [.cox, .regs] fs b (loopFlag f e l v b) :=
  .ite (setF_within _ _ b (by decide) hm hf) (.refl _ _ b)

/-- The fields that the supervision of a period writes. -/
def superviseFields : List Field := [R.COX_REGION.region, R.COX_PLAUS_RES.res, R.COX_SUP_STATUS.sat_count, R.COX_SUP_STATUS.plaus_count, R.COX_LOOP_FLAGS.sat_err,
  R.COX_LOOP_FLAGS.sat_int, R.COX_LOOP_FLAGS.sat_der, R.COX_LOOP_FLAGS.sat_out, R.COX_LOOP_FLAGS.clamp_hi, R.COX_LOOP_FLAGS.clamp_lo, R.COX_LOOP_FLAGS.handover_clamp]

theorem notePeriod_supervises (e l r1 ref integ res : Nat) (ms : List CoxStep) (b : Body) :
    Within [.cox, .regs] superviseFields (setF (setF b R.COX_LOOP_REF.ref (lix e l) ref) R.COX_LOOP_INT.integ (lix e l) integ) (notePeriod e l r1 ref integ res ms b) := by
  obtain ⟨c, hc⟩ : ∃ c, setF (setF b R.COX_LOOP_REF.ref (lix e l) ref) R.COX_LOOP_INT.integ (lix e l) integ = c := ⟨_, rfl⟩
  have hset : ∀ {f : Field}, f ∈ superviseFields → ∀ v d, Within [.cox, .regs] superviseFields d (setF d f (lix e l) v) := by
    intro f hf
    fin_cases hf <;> exact fun v d => setF_within _ _ d (by decide) (by decide) (by decide)
  have hflag : ∀ {f : Field}, f ∈ superviseFields → ∀ v d, Within [.cox, .regs] superviseFields d (loopFlag f e l v d) := by
    intro f hf
    fin_cases hf <;> exact fun v d => loopFlag_within (by decide) (by decide) e l v d
  have hcounts : ∀ v w, Within [.cox, .regs] superviseFields c (setF (setF (setF (setF c R.COX_REGION.region (lix e l) r1) R.COX_PLAUS_RES.res (lix e l) res)
      R.COX_SUP_STATUS.sat_count (lix e l) v) R.COX_SUP_STATUS.plaus_count (lix e l) w) := fun v w =>
    (((hset (by decide) r1 c).trans (hset (by decide) res _)).trans (hset (by decide) v _)).trans (hset (by decide) w _)
  unfold notePeriod
  simp only [hc]
  refine Within.trans ?_ (hflag (by decide) _ _)
  refine Within.trans ?_ (hflag (by decide) _ _)
  refine Within.trans ?_ (hflag (by decide) _ _)
  refine Within.trans ?_ (hflag (by decide) _ _)
  refine Within.trans ?_ (hflag (by decide) _ _)
  refine Within.trans ?_ (hflag (by decide) _ _)
  exact Within.trans (hcounts _ _) (hflag (by decide) _ _)

theorem updLoop_within {fs : List Field} (e l : Nat) (f : CoxLoop → CoxLoop) (b : Body) : Within [.cox, .regs] fs b (updLoop e l f b) := by
  constructor <;> simp (disch := decide)

theorem keepMembers_regs (e l : Nat) (fbs : List Nat) (ms : List (Nat × CoxStep)) (b : Body) : Within [.cox, .regs] [] b (keepMembers e l fbs ms b) := by
  unfold keepMembers
  constructor <;> simp (disch := decide)

theorem pairBalance_within (e l q r0 r1 : Nat) (x : LoopSample) (b : Body) : Within [.cox, .regs] [] b (pairBalance e l q r0 r1 x b) := by
  unfold pairBalance
  exact .ite (keepMembers_regs _ _ _ _ b) (.refl _ _ b)

/-- The step of a loop that is no balance loop, in one period. -/
def autoStep (b : Body) (e l fb : Nat) (x : LoopSample) : CoxStep :=
  memberStep b e l x.inputQ (getF b R.COX_REGION.region (lix e l)) (4 * (regionStep b e l x.inputQ).1 + (regionStep b e l x.inputQ).2) (ffStep b e l).1
    ⟨loopRef b e l, fb, (loop b e l).fbPrev, (loop b e l).d, getF b R.COX_LOOP_INT.integ (lix e l), (loop b e l).residue, (loop b e l).preset⟩

/-- The fields of a period in auto. -/
def autoFields : List Field := [R.COX_LOOP_REF.ref, R.COX_LOOP_INT.integ, R.COX_LOOP_OUT.out, R.COX_LOOP_MODE.state] ++ superviseFields

/-- What a period in auto of a loop outside every competition group leaves. -/
structure AutoDone (e l fb : Nat) (x : LoopSample) (b c : Body) : Prop where
  within : Within [.cox, .regs] autoFields b c
  out : getF c R.COX_LOOP_OUT.out (lix e l) = (autoStep b e l fb x).out % 2 ^ 32
  integ : getF c R.COX_LOOP_INT.integ (lix e l) = (autoStep b e l fb x).integ % 2 ^ 32
  ref : getF c R.COX_LOOP_REF.ref (lix e l) = (loopRef b e l).1 % 2 ^ 32
  state : getF c R.COX_LOOP_MODE.state (lix e l) = if loopSoft b e l then 5 else 2
  d : (loop c e l).d = (autoStep b e l fb x).d

theorem loopSoft_within {fs : List Field} (h : Within [.cox, .regs] fs b c) (hp : R.COX_LOOP_CFG.pg.idx ∉ fs.map Field.idx) (ho : R.COX_PG_CTRL.owner.idx ∉ fs.map Field.idx)
    (hd : R.COX_PG_CTRL.done.idx ∉ fs.map Field.idx) : loopSoft c e l = loopSoft b e l := by
  unfold loopSoft softStarting loopPg flagF
  simp only [h.getF_eq (f := R.COX_LOOP_CFG.pg) (by decide) hp, h.getF_eq (f := R.COX_PG_CTRL.owner) (by decide) ho, h.getF_eq (f := R.COX_PG_CTRL.done) (by decide) hd]

/-- A loop with a period in auto noted, before its output is applied. -/
def autoNoted (e l fb : Nat) (x : LoopSample) (b : Body) : Body :=
  let q := loop b e l
  let bands := regionStep b e l x.inputQ
  let ff := (ffStep b e l).2
  let m := autoStep b e l fb x
  let r1 := 4 * bands.1 + bands.2
  let y := modelStep b e l r1 q.preset.isSome (getF b R.COX_LOOP_OUT.out (lix e l)) fb x
  updLoop e l (fun t => { t with ffNow := ff.ffNow, ffLeft := ff.ffLeft, fbPrev := fb, d := m.d, residue := m.residue, preset := none, handover := false, yModel := y.1,
                                 latest := m.out, inBand := bands.1, loadBand := bands.2, release := t.release - 1 })
    (notePeriod e l r1 (loopRef b e l).1 m.integ y.2 [m] (pairBalance e l x.inputQ (getF b R.COX_REGION.region (lix e l)) r1 x b))

/-- A loop with an output on its actuator, in auto. -/
def autoApplied (e l out : Nat) (b : Body) : Body := setF (applyOut e l out b) R.COX_LOOP_MODE.state (lix e l) (if loopSoft b e l then 5 else 2)

theorem autoPeriod_ungrouped (fb : Nat) (h : groupMembers (autoNoted e l fb x b) e l = []) :
    autoPeriod e l fb x b = autoApplied e l (autoStep b e l fb x).out (autoNoted e l fb x b) :=
  if_pos (congrArg List.isEmpty h)

theorem autoNoted_shows (fb : Nat) (b : Body) : ∃ p, Within [.cox, .regs] [] b p
    ∧ Within [.cox, .regs] superviseFields (setF (setF p R.COX_LOOP_REF.ref (lix e l) (loopRef b e l).1) R.COX_LOOP_INT.integ (lix e l) (autoStep b e l fb x).integ)
        (autoNoted e l fb x b) ∧ (loop (autoNoted e l fb x b) e l).d = (autoStep b e l fb x).d := by
  obtain ⟨bands, hb⟩ : ∃ bands, regionStep b e l x.inputQ = bands := ⟨_, rfl⟩
  obtain ⟨m, hm⟩ : ∃ m, autoStep b e l fb x = m := ⟨_, rfl⟩
  obtain ⟨p, hp⟩ : ∃ p, pairBalance e l x.inputQ (getF b R.COX_REGION.region (lix e l)) (4 * bands.1 + bands.2) x b = p := ⟨_, rfl⟩
  have hpair : Within [.cox, .regs] [] b p := hp ▸ pairBalance_within _ _ _ _ _ _ b
  refine ⟨p, hpair, ?_⟩
  unfold autoNoted
  simp only [hb, hm, hp]
  exact ⟨(notePeriod_supervises _ _ _ _ _ _ _ p).trans (updLoop_within e l _ _), congrArg CoxLoop.d (loop_updLoop_same e l _ _)⟩

theorem autoNoted_within (fb : Nat) (b : Body) : Within [.cox, .regs] autoFields b (autoNoted e l fb x b) := by
  obtain ⟨p, hpair, hnote, -⟩ := autoNoted_shows (e := e) (l := l) (x := x) fb b
  refine (hpair.mono (by decide) (by decide)).trans (Within.trans ?_ (hnote.mono (by decide) (by decide)))
  exact ((Within.refl _ _ p).setF (by decide) (by decide) (by decide) _ _).setF (by decide) (by decide) (by decide) _ _

theorem autoPeriod_alone (fb : Nat) (hgroup : getF b R.COX_LOOP_CFG.group (lix e l) = 0) : AutoDone e l fb x b (autoPeriod e l fb x b) := by
  obtain ⟨p, hpair, hnote, hd⟩ := autoNoted_shows (e := e) (l := l) (x := x) fb b
  have hw := autoNoted_within (e := e) (l := l) (x := x) fb b
  have hx := autoPeriod_ungrouped (e := e) (l := l) (x := x) fb (if_pos ((hw.getF_eq (f := R.COX_LOOP_CFG.group) (by decide) (by decide) _).trans hgroup))
  rw [hx]
  obtain ⟨m, hm⟩ : ∃ m, autoStep b e l fb x = m := ⟨_, rfl⟩
  obtain ⟨n, hn⟩ : ∃ n, autoNoted e l fb x b = n := ⟨_, rfl⟩
  rw [hm] at hnote hd
  rw [hn] at hnote hd hw
  have happly : Within [.cox, .regs] [R.COX_LOOP_OUT.out, R.COX_LOOP_MODE.state] n (autoApplied e l m.out n) := by
    unfold autoApplied applyOut
    constructor <;> simp (disch := decide)
  rw [hm, hn]
  refine ⟨hw.trans (happly.mono (by decide) (by decide)), ?_, ?_, ?_, ?_, ?_⟩
  · rw [hm, autoApplied, getF_setF_other _ _ (by decide) (by decide) (by decide)]
    exact getF_setF_same _ _ _ _
  · rw [hm, happly.getF_eq (by decide) (by decide), hnote.getF_eq (by decide) (by decide)]
    exact getF_setF_same _ _ _ _
  · rw [happly.getF_eq (by decide) (by decide), hnote.getF_eq (by decide) (by decide), getF_setF_other _ _ (by decide) (by decide) (by decide)]
    exact getF_setF_same _ _ _ _
  · rw [← loopSoft_within (b := b) hw (by decide) (by decide) (by decide)]
    unfold autoApplied
    split <;> exact getF_setF_fits (by decide)
  · rw [hm, ← hd]
    show (loop (updLoop e l (fun t => { t with hist := (m.out :: t.hist).take 16 }) (setF n R.COX_LOOP_OUT.out (lix e l) m.out)) e l).d = _
    rw [loop_updLoop_same]
    rfl

theorem SameLoop.getF_fun (h : SameLoop e l b c) (f : Field) (hf : f.idx < 1024) (hn : f.idx ∉ [R.COX_LOOP_FB.fb].map Field.idx) : getF c f = getF b f :=
  funext fun i => h.getF_eq i hf hn

theorem SameLoop.memberStep_eq (h : SameLoop e l b c) (q r0 r1 ff : Nat) (m : CoxMember) : memberStep c e l q r0 r1 ff m = memberStep b e l q r0 r1 ff m := by
  unfold memberStep
  rw [h.gainsOf_eq, h.gainsOf_eq, h.clampHi_eq, h.clampLo_eq, h.getF_fun R.COX_LOOP_EXP.exp_int (by decide) (by decide),
    h.getF_fun R.COX_LOOP_EXP.exp_der (by decide) (by decide), h.getF_fun R.COX_LOOP_EXP.exp_out (by decide) (by decide),
    h.getF_fun R.COX_LOOP_EXP.exp_err (by decide) (by decide), h.getF_fun R.COX_LOOP_INT_LO.int_lo (by decide) (by decide),
    h.getF_fun R.COX_LOOP_INT_HI.int_hi (by decide) (by decide), h.getF_fun R.COX_LOOP_SLEW.slew (by decide) (by decide)]

theorem SameLoop.autoStep_eq (h : SameLoop e l b c) (fb : Nat) : autoStep c e l fb x = autoStep b e l fb x := by
  obtain ⟨n, m, hloop⟩ := h.loop
  unfold autoStep
  rw [h.memberStep_eq, h.regionStep_eq, h.ffValue_eq, h.loopRef_eq, hloop, h.getF_eq (f := R.COX_REGION.region) _ (by decide) (by decide),
    h.getF_eq (f := R.COX_LOOP_INT.integ) _ (by decide) (by decide)]

/-- The proportional and derivative terms of a member. -/
def memberTerms (b : Body) (e l r : Nat) (m : CoxMember) : (Nat × Bool) × (Nat × Bool) :=
  pdTerms (getF b R.COX_LOOP_EXP.exp_out (lix e l)) (getF b R.COX_LOOP_EXP.exp_der (lix e l)) (gainsOf b e l r)
    (sSub (getF b R.COX_LOOP_EXP.exp_err (lix e l)) m.ref.1 m.fb).1 m.d m.fbPrev m.fb

/-- The output of a member that is neither preset nor changes its region. -/
def memberOut (b : Body) (e l q r ff : Nat) (m : CoxMember) : Nat :=
  let eo := getF b R.COX_LOOP_EXP.exp_out (lix e l)
  let pd := memberTerms b e l r m
  bfClamp (sAdd eo (sAdd eo (sAdd eo pd.1.1 m.integ).1 (sAdd eo pd.2.1 ff).1).1 m.residue).1 (clampLo b e l) (clampHi b e l q)

/-- What a member adds to its integrator. -/
def memberGrowth (b : Body) (e l r : Nat) (m : CoxMember) : Nat :=
  (sMul (getF b R.COX_LOOP_EXP.exp_int (lix e l)) (gainsOf b e l r).ki (sSub (getF b R.COX_LOOP_EXP.exp_err (lix e l)) m.ref.1 m.fb).1).1

/-- Does a member's integral push into a clamp? -/
def MemberPushes (b : Body) (e l q r ff : Nat) (m : CoxMember) : Prop :=
  (bfZ (memberOut b e l q r ff m) = bfZ (clampHi b e l q) ∧ 0 < bfM (memberGrowth b e l r m))
    ∨ (bfZ (memberOut b e l q r ff m) = bfZ (clampLo b e l) ∧ bfM (memberGrowth b e l r m) < 0)

theorem memberStep_steady (q r ff : Nat) {m : CoxMember} (hm : m.preset = none) : (memberStep b e l q r r ff m).out = memberOut b e l q r ff m
    ∧ (memberStep b e l q r r ff m).d = (memberTerms b e l r m).2.1
    ∧ (MemberPushes b e l q r ff m → (memberStep b e l q r r ff m).integ = m.integ)
    ∧ (¬ MemberPushes b e l q r ff m → (memberStep b e l q r r ff m).integ = bfClamp (sAdd (getF b R.COX_LOOP_EXP.exp_int (lix e l)) m.integ (memberGrowth b e l r m)).1
        (getF b R.COX_LOOP_INT_LO.int_lo (lix e l)) (getF b R.COX_LOOP_INT_HI.int_hi (lix e l))) := by
  obtain ⟨ref, fb, fbPrev, d, integ, residue, preset⟩ := m
  subst hm
  have hout : (memberStep b e l q r r ff ⟨ref, fb, fbPrev, d, integ, residue, none⟩).out = memberOut b e l q r ff ⟨ref, fb, fbPrev, d, integ, residue, none⟩ := by
    unfold memberStep
    simp only [if_true]
    rfl
  obtain ⟨p, hp⟩ : ∃ p, (memberStep b e l q r r ff ⟨ref, fb, fbPrev, d, integ, residue, none⟩).push = p := ⟨_, rfl⟩
  have hpush : p = true ↔ MemberPushes b e l q r ff ⟨ref, fb, fbPrev, d, integ, residue, none⟩ := by
    unfold MemberPushes
    rw [← hp, ← hout]
    unfold memberStep memberGrowth
    simp only [Bool.or_eq_true, Bool.and_eq_true, decide_eq_true_eq]
  have hinteg : (memberStep b e l q r r ff ⟨ref, fb, fbPrev, d, integ, residue, none⟩).integ = if p then integ
      else bfClamp (sAdd (getF b R.COX_LOOP_EXP.exp_int (lix e l)) integ (memberGrowth b e l r ⟨ref, fb, fbPrev, d, integ, residue, none⟩)).1
        (getF b R.COX_LOOP_INT_LO.int_lo (lix e l)) (getF b R.COX_LOOP_INT_HI.int_hi (lix e l)) := by
    rw [← hp]
    unfold memberStep
    simp only [if_true]
    rfl
  refine ⟨hout, rfl, fun h => ?_, fun h => ?_⟩
  · rw [hinteg, if_pos (hpush.2 h)]
  · rw [hinteg, if_neg fun hp => h (hpush.1 hp)]

/-- What a loop that is no balance loop brings into a period. -/
def autoMember (b : Body) (e l fb : Nat) : CoxMember :=
  ⟨loopRef b e l, fb, (loop b e l).fbPrev, (loop b e l).d, getF b R.COX_LOOP_INT.integ (lix e l), (loop b e l).residue, none⟩

theorem Steady.auto (h : Steady e l x b) (hmode : loopMode b e l = 2) (htaking : (loop b e l).taking = none) :
    runMode e l x (sampled e l b) = autoPeriod e l (nth x.primary 0) x (setF (sampled e l b) R.COX_LOOP_FB.fb (lix e l) (nth x.primary 0)) := by
  obtain ⟨n, m, hloop⟩ := (sampled_same e l b).loop
  have htake : takeActuator e l (sampled e l b) = sampled e l b := by
    unfold takeActuator
    rw [hloop, htaking]
  have hheld : (loop (sampled e l b) e l).held = none := by
    rw [hloop]
    exact h.free
  unfold runMode
  rw [h.feedback, show loopMode (sampled e l b) e l = 2 from hmode]
  simp only [htake, hheld]
  exact if_neg (by rw [show loopKind (sampled e l b) e l = 0 from h.rail]; decide)

theorem fedBack_same (e l fb : Nat) (b : Body) : SameLoop e l b (setF (sampled e l b) R.COX_LOOP_FB.fb (lix e l) fb) where
  fields f j hf hn := by
    rw [getF_setF_other _ _ (by decide) hf (fun he => hn (by rw [he]; exact List.mem_singleton.2 rfl))]
    rfl
  path := rfl
  engines := rfl
  loop := (sampled_same e l b).loop

/-- A period of a loop in auto (R372, R396). -/
theorem loopPeriod_auto (he : e < 20) (hl : l < 16) (h : Steady e l x s.body) (hmode : loopMode s.body e l = 2) (hpre : (loop s.body e l).preset = none)
    (htaking : (loop s.body e l).taking = none) (hgroup : getF s.body R.COX_LOOP_CFG.group (lix e l) = 0) {r : Nat} (hr : getF s.body R.COX_REGION.region (lix e l) = r)
    (hstep : 4 * (regionStep s.body e l x.inputQ).1 + (regionStep s.body e l x.inputQ).2 = r) {m : CoxMember} (hm : autoMember s.body e l (nth x.primary 0) = m) :
    Runs (.loopPeriod e l x) s [.cox, .regs] (fun b =>
      getF b R.COX_LOOP_OUT.out (lix e l) = memberOut s.body e l x.inputQ r (ffStep s.body e l).1 m % 2 ^ 32
      ∧ (MemberPushes s.body e l x.inputQ r (ffStep s.body e l).1 m → getF b R.COX_LOOP_INT.integ (lix e l) = m.integ % 2 ^ 32)
      ∧ (¬ MemberPushes s.body e l x.inputQ r (ffStep s.body e l).1 m → getF b R.COX_LOOP_INT.integ (lix e l)
          = bfClamp (sAdd (getF s.body R.COX_LOOP_EXP.exp_int (lix e l)) m.integ (memberGrowth s.body e l r m)).1
            (getF s.body R.COX_LOOP_INT_LO.int_lo (lix e l)) (getF s.body R.COX_LOOP_INT_HI.int_hi (lix e l)) % 2 ^ 32)
      ∧ getF b R.COX_LOOP_REF.ref (lix e l) = m.ref.1 % 2 ^ 32 ∧ getF b R.COX_LOOP_FB.fb (lix e l) = nth x.primary 0 % 2 ^ 32
      ∧ getF b R.COX_LOOP_MODE.state (lix e l) = (if loopSoft s.body e l then 5 else 2) ∧ (loop b e l).d = (memberTerms s.body e l r m).2.1) := by
  obtain ⟨fb, hfb⟩ : ∃ fb, nth x.primary 0 = fb := ⟨_, rfl⟩
  have hrun := h.auto hmode htaking
  have hsame := fedBack_same e l fb s.body
  obtain ⟨b2, hb2⟩ : ∃ b2, setF (sampled e l s.body) R.COX_LOOP_FB.fb (lix e l) fb = b2 := ⟨_, rfl⟩
  rw [hfb, hb2] at hrun
  rw [hfb] at hm ⊢
  rw [hb2] at hsame
  have hfed : Within [.cox, .regs] [R.COX_LOOP_FB.fb] s.body b2 := by
    rw [← hb2]
    exact ((sampled_within e l s.body).mono (by decide) (by decide)).setF (by decide) (by decide) (by decide) _ _
  have hfbset : getF b2 R.COX_LOOP_FB.fb (lix e l) = fb % 2 ^ 32 := by
    rw [← hb2]
    exact getF_setF_same _ _ _ _
  have hdone := autoPeriod_alone (x := x) (e := e) (l := l) (b := b2) fb ((hsame.getF_eq _ (by decide) (by decide)).trans hgroup)
  have hauto : autoStep b2 e l fb x = memberStep s.body e l x.inputQ r r (ffStep s.body e l).1 m := by
    rw [hsame.autoStep_eq, ← hm]
    unfold autoStep autoMember
    rw [hr, hstep, hpre]
  obtain ⟨hout, hd, hpush, hfree⟩ := memberStep_steady (b := s.body) (e := e) (l := l) x.inputQ r (ffStep s.body e l).1 (m := m) (by rw [← hm]; rfl)
  obtain ⟨c, hc⟩ : ∃ c, autoPeriod e l fb x b2 = c := ⟨_, rfl⟩
  rw [hc] at hrun hdone
  obtain ⟨hwithin, hO, hI, hR, hS, hD⟩ := hdone
  rw [hauto] at hO hI hD
  have hall : Within [.cox, .regs] (R.COX_LOOP_FB.fb :: autoFields) s.body c := (hfed.mono (by decide) (by decide)).trans (hwithin.mono (by decide) (by decide))
  have hx : loopPeriod e l x s.body = delayed e l x.delay c := by
    rw [h.period (by rw [hrun]; exact hall) (by decide), hrun]
  have hdelay := delayed_within e l x.delay c
  have hint := hdelay.getF_eq (f := R.COX_LOOP_INT.integ) (by decide) (by decide) (lix e l)
  refine runs_of_lift (lift_of_onUnit (isLoop_eq he hl)) hx (hall.only.trans hdelay.only) ⟨?_, fun hp => ?_, fun hp => ?_, ?_, ?_, ?_, ?_⟩
  · rw [hdelay.getF_eq (by decide) (by decide), hO, hout]
  · rw [hint, hI, hpush hp]
  · rw [hint, hI, hfree hp]
  · rw [hdelay.getF_eq (by decide) (by decide), hR, hsame.loopRef_eq, ← hm]
    rfl
  · rw [hdelay.getF_eq (by decide) (by decide), hwithin.getF_eq (by decide) (by decide), hfbset]
  · rw [hdelay.getF_eq (by decide) (by decide), hS, hsame.loopSoft_eq]
  · rw [← hd, ← hD]
    rfl

/-! ### What supervision stops (R401) -/

/-- A block has stopped, or the module with it. -/
def Stopped (k : PowerBlock) (b : Body) : Prop := k ∈ b.cox.path.blocks ∨ b.cox.path.moduleStop = true

theorem Stopped.of_path {k : PowerBlock} (h : Stopped k b) (hp : c.cox.path = b.cox.path) : Stopped k c := by
  unfold Stopped
  rwa [hp]

theorem blockLatch_cases (code : Nat) (k : PowerBlock) (b : Body) :
    (Stopped k b ∧ blockLatch code k b = b) ∨ ∃ v, Steers (updPath (fun p => { p with blocks := p.blocks ++ [k], startLoss := v }) b) (blockLatch code k b) := by
  by_cases hold : b.cox.path.blocks.contains k = true
  · exact .inl ⟨.inl (List.contains_iff_mem.1 hold), blockLatch_again code hold⟩
  · by_cases hstop : b.cox.path.moduleStop = true
    · exact .inl ⟨.inr hstop, if_pos (.inr hstop)⟩
    · exact .inr (blockLatch_shows code (Bool.eq_false_iff.2 hold) (Bool.eq_false_iff.2 hstop))

theorem blockLatch_stopped (code : Nat) (k : PowerBlock) (b : Body) : Stopped k (blockLatch code k b) := by
  obtain ⟨h, hx⟩ | ⟨v, hs⟩ := blockLatch_cases code k b
  · rwa [hx]
  · refine Stopped.of_path (b := updPath (fun p => { p with blocks := p.blocks ++ [k], startLoss := v }) b) (.inl ?_) hs.path
    exact List.mem_append_right _ (List.mem_singleton.2 rfl)

theorem Stopped.blockLatch {k : PowerBlock} (h : Stopped k b) (code : Nat) (j : PowerBlock) : Stopped k (blockLatch code j b) := by
  obtain ⟨-, hx⟩ | ⟨v, hs⟩ := blockLatch_cases code j b
  · rwa [hx]
  · refine Stopped.of_path (b := updPath (fun p => { p with blocks := p.blocks ++ [j], startLoss := v }) b) ?_ hs.path
    exact h.imp (fun hk => List.mem_append_left _ hk) id

theorem blockLatch_acts (code : Nat) (k : PowerBlock) (b : Body) : Acts [R.GBL_STATUS.power_state] b (blockLatch code k b) := by
  obtain ⟨-, hx⟩ | ⟨v, hs⟩ := blockLatch_cases code k b
  · rw [hx]
    exact .refl _ b
  · exact ((Acts.refl _ b).updPath _).steers hs

theorem railsProgress_acts (b : Body) : Acts [R.GBL_STATUS.power_state] b (railsProgress b) := by
  obtain h | h := railsProgress_cases b
  · exact h.acts
  · exact ((Acts.refl _ b).setF (by decide) (by decide) (by decide) (by decide) 0 7).steers h

theorem Stopped.railsProgress {k : PowerBlock} (h : Stopped k b) : Stopped k (railsProgress b) := by
  obtain hs | hs := railsProgress_cases b
  · exact h.of_path hs.path
  · exact h.of_path hs.path

/-- The fields that an action of supervision writes beside those of the actions of the power path. -/
def actionFields : List Field := R.LDG_STATUS.absent :: R.STP_STATUS.pack_fault :: R.SHP_STARTUP.failed_step :: R.SHP_STARTUP.failed :: packFields

theorem superviseBlock_acts (e l : Nat) (b : Body) : Acts actionFields b (superviseBlock e l b) := by
  unfold superviseBlock
  split
  · exact ((blockLatch_acts 0 _ b).trans (railsProgress_acts _)).mono (by decide)
  · exact .refl _ b

theorem superviseBlock_stops {k : PowerBlock} (h : slotBlock e l = some k) (b : Body) : Stopped k (superviseBlock e l b) := by
  unfold superviseBlock
  rw [h]
  exact (blockLatch_stopped 0 k b).railsProgress

theorem thermalFreeze_steers (e : Nat) (b : Body) : Steers b (thermalFreeze e b) :=
  ((updEngine_steers e _ b).trans (updLoop_steers e 4 _ _)).trans (ceilingsChanged_steers e _)

theorem moduleStop_acts (b : Body) : Acts [R.GBL_STATUS.power_state] b (moduleStop b) ∧ (moduleStop b).cox.path.moduleStop = true := by
  by_cases h : b.cox.path.moduleStop = true
  · rw [moduleStop_again h]
    exact ⟨.refl _ b, h⟩
  · have hs := moduleStop_shows (Bool.eq_false_iff.2 h)
    exact ⟨hs.acts, congrArg PowerPath.moduleStop hs.path⟩

theorem connectFail_acts (b : Body) : Acts actionFields b (connectFail b) := by
  have hopen : Acts actionFields b (contactorsOpen b) := ((opened_acts b).mono (by decide)).steers (contactorsOpen_steers b)
  have hfault : Acts actionFields (contactorsOpen b) (packFault 4 (contactorsOpen b)) := .of_within (packFault_shows 4 _).1 (by decide) (by decide) (by decide)
  have hfail : Acts actionFields (packFault 4 (contactorsOpen b)) (stepFailed 5 (packFault 4 (contactorsOpen b))) := .of_within (stepFailed_shows 5 _).1 (by decide) (by decide) (by decide)
  unfold connectFail
  exact .ite (((hopen.trans hfault).trans hfail).trans ((enterNoPack_shows _).1.mono (by decide))) (.refl _ b)

theorem superviseAct_acts (e l : Nat) (sat soft : Bool) (b : Body) : Acts actionFields b (superviseAct e l sat soft b) := by
  have hstop : Acts actionFields b (moduleStop b) := (moduleStop_acts b).1.mono (by decide)
  unfold superviseAct
  split
  · exact superviseBlock_acts e l b
  · exact (thermalFreeze_steers e b).acts
  · split
    · exact .ite (.refl _ b) hstop
    · exact .ite (.refl _ b) hstop
  · exact (packOff_shows b).acts.mono (by decide)
  · exact connectFail_acts b
  · exact .refl _ b

/-! A body from which supervision acts differs from the one before in the flags and the record of its event. -/

theorem superviseAct_rail (sat soft : Bool) (h : loopKind b e l = 0) {k : PowerBlock} (hk : slotBlock e l = some k) : Stopped k (superviseAct e l sat soft b) := by
  unfold superviseAct
  simp only [h]
  exact superviseBlock_stops hk b

theorem superviseAct_bus (soft : Bool) (h : loopKind b e l = 4) : (superviseAct e l false soft b).cox.path.moduleStop = true := by
  unfold superviseAct
  simp only [h]
  split <;> exact (moduleStop_acts b).2

theorem superviseAct_port (sat soft : Bool) (h : loopKind b e l = 5) : (superviseAct e l sat soft b).cox.path.packOff = true := by
  unfold superviseAct
  simp only [h]
  obtain ⟨r, hr⟩ := (packOff_shows b).path
  rw [hr]

theorem clkTarget_cox (isl : Island) (code : Nat) (b : Body) : (clkTarget isl code b).cox = b.cox := by
  have hnote : ∀ st, (noteCode st b).cox = b.cox := fun st => by
    unfold noteCode whenB
    split
    · rfl
    · rfl
  unfold clkTarget
  split
  · rfl
  · split
    · exact hnote _
    · rfl
    · rfl

theorem pgPut_cox (e k x : Nat) (b : Body) : (pgPut e k x b).cox = b.cox := rfl

/-- A change of clocks leaves an engine's frozen limit as it is. -/
theorem thermalFrozen_ceilingsChanged (e : Nat) (b : Body) : (engine (ceilingsChanged e b) e).thermalFrozen = (engine b e).thermalFrozen := by
  have hcox : ∀ {c d : Body}, d.cox = c.cox → (engine d e).thermalFrozen = (engine c e).thermalFrozen := fun h => by
    unfold engine
    rw [h]
  have hstations : ∀ l st (c : Body), (forEach l (fun x b => clkTarget (.station x) st b) c).cox = c.cox := fun l st c =>
    forEach_keeps (P := fun d => d.cox = c.cox) (fun x _ d hd => (clkTarget_cox _ _ d).trans hd) rfl
  have hseg : ∀ seg (c : Body), (engine (clkTarget (.segment e 0) seg (updEngine e (fun g => { g with segCode := seg }) c)) e).thermalFrozen = (engine c e).thermalFrozen := fun seg c => by
    rw [hcox (clkTarget_cox _ _ _), engine_updEngine_same]
  have happly : ∀ st seg, (engine (applyClocks e st seg b) e).thermalFrozen = (engine b e).thermalFrozen := fun st seg => by
    unfold applyClocks
    obtain ⟨c, hc⟩ : ∃ c, (if getF b R.COX_CLK_CEIL.applied e = st then b
      else forEach (dieStations (setF b R.COX_CLK_CEIL.applied e st) e) (fun x b => clkTarget (.station x) st b) (setF b R.COX_CLK_CEIL.applied e st)) = c := ⟨_, rfl⟩
    have hkeep : (engine c e).thermalFrozen = (engine b e).thermalFrozen := by
      rw [← hc]
      split
      · rfl
      · exact hcox (hstations _ _ _)
    simp only [hc]
    split
    · exact hkeep
    · exact (hseg _ c).trans hkeep
  unfold ceilingsChanged clockTick
  split
  · rfl
  · simp only []
    split
    · exact hcox ((pgPut_cox _ _ _ _).trans (pgPut_cox _ _ _ _))
    · exact happly _ _

theorem superviseAct_heat (sat soft : Bool) (h : loopKind b e l = 2) : (engine (superviseAct e l sat soft b) e).thermalFrozen = true := by
  unfold superviseAct
  simp only [h]
  unfold thermalFreeze
  rw [thermalFrozen_ceilingsChanged]
  exact congrArg CoxEngine.thermalFrozen (engine_updEngine_same e (fun g => { g with thermalFrozen := true }) b)

/-! ### Events of supervision (R399 to R403) -/

theorem coxRecord_within (e l kind : Nat) (b : Body) : Within [.logbook] [] b (coxRecord e l kind b) := logRec_within _ _ b

/-- The fields that an event of a loop writes. -/
def eventFields : List Field := [R.COX_LOOP_FLAGS.sat_time, R.COX_LOOP_FLAGS.plaus, R.COX_LOOP_FLAGS.softstart_abort, R.COX_PG_CTRL.hold]

theorem softAbort_within (e l : Nat) (b : Body) : Within [.logbook, .regs] [R.COX_LOOP_FLAGS.softstart_abort, R.COX_PG_CTRL.hold] b (softAbort e l b) := by
  unfold softAbort
  split
  · refine Within.trans ?_ ((coxRecord_within e l 4 _).mono (by decide) (by decide))
    unfold loopFlag
    constructor <;> simp (disch := decide)
  · exact .refl _ _ b

/-- A loop's event with its flag and record. -/
def eventNoted (f : Field) (e l kind : Nat) (b : Body) : Body := coxRecord e l kind (loopFlag f e l true b)

theorem eventNoted_shows {f : Field} (hf : f.idx < 1024) (hw : 1 ≤ f.width) (e l kind : Nat) (b : Body) : Within [.logbook, .regs] [f] b (eventNoted f e l kind b)
    ∧ flagF (eventNoted f e l kind b) f (lix e l) = true := by
  have hlog := coxRecord_within e l kind (loopFlag f e l true b)
  refine ⟨Within.trans ?_ (hlog.mono (by decide) (List.nil_subset _)), ?_⟩
  · exact setF_within _ _ b (by decide) (List.mem_singleton.2 rfl) hf
  · exact (hlog.flagF_eq hf (List.not_mem_nil) _).trans (flagF_setFlag_same _ _ _ _ hw)

theorem superviseAct_shows (sat soft : Bool) {ps : List Part} {fs : List Field} (hw : Within ps fs b c) (hk : R.COX_LOOP_CFG.kind.idx ∉ fs.map Field.idx) :
    (loopKind b e l = 0 → ∀ k, slotBlock e l = some k → Stopped k (superviseAct e l sat soft c))
      ∧ (loopKind b e l = 2 → (engine (superviseAct e l sat soft c) e).thermalFrozen = true)
      ∧ (loopKind b e l = 4 → sat = false → (superviseAct e l sat soft c).cox.path.moduleStop = true)
      ∧ (loopKind b e l = 5 → (superviseAct e l sat soft c).cox.path.packOff = true) := by
  have hkind : loopKind c e l = loopKind b e l := hw.getF_eq (by decide) hk _
  refine ⟨fun h k hs => superviseAct_rail sat soft (hkind.trans h) hs, fun h => superviseAct_heat sat soft (hkind.trans h), fun h hsat => ?_,
    fun h => superviseAct_port sat soft (hkind.trans h)⟩
  rw [hsat]
  exact superviseAct_bus soft (hkind.trans h)

theorem satEvent_acts (he : e < 20) (hl : l < 16) (hsel : getF s.body R.COX_LOOP_CFG.sup_sel (lix e l) % 2 = 1) (hmode : loopMode s.body e l = 2)
    (hcount : satLimit s.body e l ≤ getF s.body R.COX_SUP_STATUS.sat_count (lix e l)) : RunsS (.satTimeEvent e l) s (fun u => flagF u.body R.COX_LOOP_FLAGS.sat_time (lix e l) = true
      ∧ (loopKind s.body e l = 0 → ∀ k, slotBlock e l = some k → Stopped k u.body) ∧ (loopKind s.body e l = 2 → (engine u.body e).thermalFrozen = true)
      ∧ (loopKind s.body e l = 5 → u.body.cox.path.packOff = true)) := by
  obtain ⟨hw, hflag⟩ := eventNoted_shows (f := R.COX_LOOP_FLAGS.sat_time) (by decide) (by decide) e l 1 s.body
  obtain ⟨d, hd⟩ : ∃ d, (if loopSoft s.body e l then softAbort e l (eventNoted R.COX_LOOP_FLAGS.sat_time e l 1 s.body) else eventNoted R.COX_LOOP_FLAGS.sat_time e l 1 s.body) = d := ⟨_, rfl⟩
  have habort : Within [.logbook, .regs] [R.COX_LOOP_FLAGS.softstart_abort, R.COX_PG_CTRL.hold] (eventNoted R.COX_LOOP_FLAGS.sat_time e l 1 s.body) d := by
    rw [← hd]
    exact .ite (softAbort_within e l _) (.refl _ _ _)
  have hall : Within [.logbook, .regs] eventFields s.body d := (hw.mono (by decide) (by decide)).trans (habort.mono (by decide) (by decide))
  obtain ⟨hrail, hheat, -, hport⟩ := superviseAct_shows (e := e) (l := l) true (loopSoft s.body e l) hall (by decide)
  have hx : satEvent e l s.body = superviseAct e l true (loopSoft s.body e l) d := by
    rw [← hd]
    exact if_pos ⟨hsel, hmode, hcount⟩
  refine runsS_of_lift (lift_of_onUnit (isLoop_eq he hl)) hx ⟨?_, hrail, hheat, hport⟩
  exact ((superviseAct_acts e l true _ d).flagF_eq (by decide) (by decide) _).trans ((habort.flagF_eq (by decide) (by decide) _).trans hflag)

theorem plausEvent_acts (he : e < 20) (hl : l < 16) (hsel : 2 ≤ getF s.body R.COX_LOOP_CFG.sup_sel (lix e l)) (hmode : loopMode s.body e l = 2)
    (hcount : getF s.body R.COX_SUP_CFG2.plaus_time (lix e l) ≤ getF s.body R.COX_SUP_STATUS.plaus_count (lix e l)) :
    RunsS (.plausEvent e l) s (fun u => flagF u.body R.COX_LOOP_FLAGS.plaus (lix e l) = true
      ∧ (loopKind s.body e l = 0 → ∀ k, slotBlock e l = some k → Stopped k u.body) ∧ (loopKind s.body e l = 4 → u.body.cox.path.moduleStop = true)
      ∧ (loopKind s.body e l = 5 → u.body.cox.path.packOff = true)) := by
  obtain ⟨hw, hflag⟩ := eventNoted_shows (f := R.COX_LOOP_FLAGS.plaus) (by decide) (by decide) e l 2 s.body
  obtain ⟨d, hd⟩ : ∃ d, eventNoted R.COX_LOOP_FLAGS.plaus e l 2 s.body = d := ⟨_, rfl⟩
  rw [hd] at hw hflag
  obtain ⟨hrail, -, hbus, hport⟩ := superviseAct_shows (e := e) (l := l) false (loopSoft s.body e l) hw (by decide)
  have hx : plausEvent e l s.body = superviseAct e l false (loopSoft s.body e l) d := by
    rw [← hd]
    exact if_pos ⟨hsel, hmode, hcount⟩
  refine runsS_of_lift (lift_of_onUnit (isLoop_eq he hl)) hx ⟨?_, hrail, fun h => hbus h rfl, hport⟩
  exact ((superviseAct_acts e l false _ d).flagF_eq (by decide) (by decide) _).trans hflag

theorem events_idle (he : e < 20) (hl : l < 16) (hmode : loopMode s.body e l ≠ 2) : Runs (.satTimeEvent e l) s [] (fun b => b = s.body)
    ∧ Runs (.plausEvent e l) s [] (fun b => b = s.body) ∧ ∀ m f, Runs (.frozenSample e l m f) s [] (fun b => b = s.body) :=
  ⟨runs_same (f := satEvent e l) (lift_of_onUnit (isLoop_eq he hl)) (if_neg fun h => hmode h.2.1),
    runs_same (f := plausEvent e l) (lift_of_onUnit (isLoop_eq he hl)) (if_neg fun h => hmode h.2.1),
    fun m f => runs_same (f := frozenSample e l m f) (lift_of_onUnit (isLoop_eq he hl)) (if_pos (.inl hmode))⟩

theorem frozenExpire_acts (he : e < 20) (hl : l < 16) (hheld : (loop s.body e l).held.isSome = true)
    (hcount : getF s.body R.COX_SUP_CFG2.frozen_hold (lix e l) ≤ (loop s.body e l).heldFor) : RunsS (.frozenHoldExpire e l) s (fun u =>
      (loopKind s.body e l = 0 → ∀ k, slotBlock e l = some k → Stopped k u.body) ∧ (loopKind s.body e l = 4 → u.body.cox.path.moduleStop = true)
      ∧ (loopKind s.body e l = 5 → u.body.cox.path.packOff = true)) := by
  obtain ⟨hrail, -, hbus, hport⟩ := superviseAct_shows (e := e) (l := l) false (loopSoft s.body e l) (coxRecord_within e l 3 s.body) (by decide)
  exact runsS_of_lift (f := frozenExpire e l) (lift_of_onUnit (isLoop_eq he hl)) (if_pos ⟨hheld, hcount⟩) ⟨hrail, fun h => hbus h rfl, hport⟩

theorem frozenExpire_idle (he : e < 20) (hl : l < 16) (hheld : (loop s.body e l).held = none) : Runs (.frozenHoldExpire e l) s [] (fun b => b = s.body) :=
  runs_same (f := frozenExpire e l) (lift_of_onUnit (isLoop_eq he hl)) (if_neg (by rw [hheld]; simp))

/-! ### The self-check (R405) -/

theorem inputOff_acts (b : Body) : Acts actionFields b (inputOff b) ∧ (inputOff b).cox.path.inputAbsent = true := by
  obtain ⟨c, hs, hx⟩ := inputOff_steers b
  have hgone : Acts actionFields b c := (((Acts.refl actionFields b).updPath _).setF (by decide) (by decide) (by decide) (by decide) 0 _).steers hs
  have hpower : ∀ n, n < 16 → Acts actionFields b (setPower n c) := fun n hn =>
    (hgone.setF (f := R.GBL_STATUS.power_state) (by decide) (by decide) (by decide) (by decide) 0 n).steers (setPower_steers hn c)
  refine ⟨?_, congrArg PowerPath.inputAbsent (inputOff_shows b).path⟩
  rw [hx]
  exact .ite ((hpower 8 (by decide)).steers (noteWindow_steers 3 _)) (.ite (hpower 0 (by decide)) hgone)

theorem engineBlocks_stopped {e : Nat} (h : e < 16) (b : Body) : Stopped (.die e) (forEach (engineBlocks e) (blockLatch 0) b) := by
  have hb : engineBlocks e = [.die e] := if_pos h
  rw [hb]
  exact blockLatch_stopped 0 _ b

theorem engineBlocks_acts (e : Nat) (b : Body) : Acts actionFields b (forEach (engineBlocks e) (blockLatch 0) b) :=
  forEach_keeps (P := Acts actionFields b) (fun k _ c hc => hc.trans ((blockLatch_acts 0 k c).mono (by decide))) (.refl _ b)

theorem selfCheckStop_shows (e l : Nat) (b : Body) : flagF (selfCheckStop e l b) R.COX_STATUS.self_check e = true ∧ (e < 16 → Stopped (.die e) (selfCheckStop e l b))
    ∧ (e = 16 → (selfCheckStop e l b).cox.path.inputAbsent = true) ∧ (e = 17 → (selfCheckStop e l b).cox.path.moduleStop = true) := by
  obtain ⟨d, hd⟩ : ∃ d, coxRecord e l 6 (setFlag b R.COX_STATUS.self_check e true) = d := ⟨_, rfl⟩
  have hflag : flagF d R.COX_STATUS.self_check e = true := by
    rw [← hd, (coxRecord_within e l 6 _).flagF_eq (by decide) (by decide)]
    exact flagF_setFlag_same _ _ _ _ (by decide)
  have hx : selfCheckStop e l b = if e = 16 then inputOff d else if e = 17 then moduleStop d else railsProgress (forEach (engineBlocks e) (blockLatch 0) d) := by
    rw [← hd]
    rfl
  rw [hx]
  by_cases h16 : e = 16
  · rw [if_pos h16]
    exact ⟨((inputOff_acts d).1.flagF_eq (by decide) (by decide) _).trans hflag, fun h => by omega, fun _ => (inputOff_acts d).2, fun h => by omega⟩
  · rw [if_neg h16]
    by_cases h17 : e = 17
    · rw [if_pos h17]
      exact ⟨((moduleStop_acts d).1.flagF_eq (by decide) (by decide) _).trans hflag, fun h => by omega, fun h => by omega, fun _ => (moduleStop_acts d).2⟩
    · rw [if_neg h17]
      have hacts := (engineBlocks_acts e d).trans ((railsProgress_acts _).mono (by decide))
      exact ⟨(hacts.flagF_eq (by decide) (by decide) _).trans hflag, fun h => (engineBlocks_stopped h d).railsProgress, fun h => by omega, fun h => by omega⟩

theorem loopPeriod_mismatched (he : e < 20) (hl : l < 16) (hruns : engineRuns s.body e = true) (hp : slotPresent s.body e l = true) (hx : x.mismatch = true) :
    ((loop s.body e l).mismatch = false → Runs (.loopPeriod e l x) s [.cox, .regs] (fun b => flagF b R.COX_EVENTS.self_check_mismatch e = true
        ∧ loop b e l = { loop s.body e l with mismatch := true } ∧ RegsBut [R.COX_EVENTS.self_check_mismatch] e s.body b))
      ∧ ((loop s.body e l).mismatch = true → RunsS (.loopPeriod e l x) s (fun u => flagF u.body R.COX_STATUS.self_check e = true ∧ (e < 16 → Stopped (.die e) u.body)
        ∧ (e = 16 → u.body.cox.path.inputAbsent = true) ∧ (e = 17 → u.body.cox.path.moduleStop = true))) := by
  have hstart : ∀ F, (if (loop s.body e l).mismatch then selfCheckStop e l s.body
      else updLoop e l (fun t => { t with mismatch := true }) (setFlag s.body R.COX_EVENTS.self_check_mismatch e true)) = F → loopPeriod e l x s.body = F := by
    rintro F rfl
    unfold loopPeriod
    rw [if_neg (by simp [hruns, hp]), if_pos hx]
  refine ⟨fun h => ?_, fun h => ?_⟩
  · refine runs_of_lift (lift_of_onUnit (isLoop_eq he hl)) (hstart _ (if_neg (by simp [h]))) (by simp) ⟨?_, loop_updLoop_same e l _ _, ?_⟩
    · rw [flagF_updLoop]
      exact flagF_setFlag_same _ _ _ _ (by decide)
    · simp (disch := decide)
  · have hshows := selfCheckStop_shows e l s.body
    obtain ⟨d, hd⟩ : ∃ d, selfCheckStop e l s.body = d := ⟨_, rfl⟩
    rw [hd] at hshows
    exact runsS_of_lift (lift_of_onUnit (isLoop_eq he hl)) (hstart d ((if_pos h).trans hd)) hshows

/-! ### A frozen sample (R402) -/

theorem abortShed_within (e : Nat) (b : Body) : Within [.cox, .regs] [R.COX_SHED_STATUS.shedding, R.COX_SHED_COUNT.aborts] b (abortShed e b) := by
  unfold abortShed
  split
  · constructor <;> simp (disch := decide)
  · exact .refl _ _ b

theorem loop_abortShed (e l : Nat) (b : Body) : loop (abortShed e b) e l = loop b e l := by
  unfold abortShed
  split <;> rfl

/-- What a loop's frozen sample does once its sense is noted. -/
def shedEnded (e l : Nat) (b : Body) : Body := if shedEngines.contains e ∧ l = 0 then abortShed e b else b

theorem shedEnded_shows (e l : Nat) (b : Body) : Within [.cox, .regs] [R.COX_SHED_STATUS.shedding, R.COX_SHED_COUNT.aborts] b (shedEnded e l b)
    ∧ loop (shedEnded e l b) e l = loop b e l := by
  unfold shedEnded
  split
  · exact ⟨abortShed_within e b, loop_abortShed e l b⟩
  · exact ⟨.refl _ _ b, rfl⟩

theorem frozenSample_rail (m : Nat) (f : Bool) (hmode : loopMode b e l = 2) (hstale : 3 ≤ (loop b e l).stale) (hsoft : loopSoft b e l = false)
    (hprimary : flagF b R.COX_LOOP_CFG.sense_fallback (lix e l) = false) (hheld : (loop b e l).held = none) (hkind : loopKind b e l = 0) :
    frozenSample e l m f b = shedEnded e l (if f then
      updLoop e l (fun t => { t with held := none, heldFor := 0, preset := some (getF b R.COX_LOOP_OUT.out (lix e l)) })
        (setFlag (setFlag b R.COX_LOOP_CFG.sense_fallback (lix e l) true) R.COX_LOOP_FLAGS.fallback_sense (lix e l) true)
      else setF (updLoop e l (fun t => { t with held := some (meanOut b e l), heldFor := 0 }) (setFlag b R.COX_LOOP_FLAGS.frozen (lix e l) true)) R.COX_LOOP_MODE.state (lix e l) 4) := by
  have hfall : hasFallback b e l = true := by
    unfold hasFallback
    rw [hkind]
    rfl
  unfold frozenSample
  rw [if_neg (by omega), hsoft]
  simp only [hkind, hfall, hprimary, hheld]
  cases f with
  | true =>
    simp only [if_true, Bool.not_false, and_self]
    rw [show getF (loopFlag R.COX_LOOP_FLAGS.fallback_sense e l true (setFlag b R.COX_LOOP_CFG.sense_fallback (lix e l) true)) R.COX_LOOP_OUT.out (lix e l)
      = getF b R.COX_LOOP_OUT.out (lix e l) from (getF_setFlag_other _ _ (by decide) (by decide) (by decide)).trans (getF_setFlag_other _ _ (by decide) (by decide) (by decide))]
    rfl
  | false =>
    rw [if_neg (by decide), if_neg (by decide)]
    rfl

theorem frozenSample_falls (he : e < 20) (hl : l < 16) (m : Nat) (hmode : loopMode s.body e l = 2) (hstale : 3 ≤ (loop s.body e l).stale) (hsoft : loopSoft s.body e l = false)
    (hprimary : flagF s.body R.COX_LOOP_CFG.sense_fallback (lix e l) = false) (hheld : (loop s.body e l).held = none) (hkind : loopKind s.body e l = 0) :
    Runs (.frozenSample e l m true) s [.cox, .regs] (fun b => flagF b R.COX_LOOP_CFG.sense_fallback (lix e l) = true
      ∧ flagF b R.COX_LOOP_FLAGS.fallback_sense (lix e l) = true ∧ (loop b e l).held = none) := by
  obtain ⟨c, hc⟩ : ∃ c, updLoop e l (fun t => { t with held := none, heldFor := 0, preset := some (getF s.body R.COX_LOOP_OUT.out (lix e l)) })
    (setFlag (setFlag s.body R.COX_LOOP_CFG.sense_fallback (lix e l) true) R.COX_LOOP_FLAGS.fallback_sense (lix e l) true) = c := ⟨_, rfl⟩
  have honly : Only [.cox, .regs] s.body c := by
    rw [← hc]
    simp
  have hx : frozenSample e l m true s.body = shedEnded e l c :=
    (frozenSample_rail m true hmode hstale hsoft hprimary hheld hkind).trans (congrArg (shedEnded e l) ((if_pos rfl).trans hc))
  obtain ⟨hw, hloop⟩ := shedEnded_shows e l c
  refine runs_of_lift (lift_of_onUnit (isLoop_eq he hl)) hx (honly.trans hw.only) ⟨?_, ?_, ?_⟩
  · rw [hw.flagF_eq (by decide) (by decide), ← hc, flagF_updLoop, flagF_setFlag_other _ _ (by decide) (by decide) (by decide)]
    exact flagF_setFlag_same _ _ _ _ (by decide)
  · rw [hw.flagF_eq (by decide) (by decide), ← hc, flagF_updLoop]
    exact flagF_setFlag_same _ _ _ _ (by decide)
  · rw [hloop, ← hc, loop_updLoop_same]

theorem frozenSample_holds (he : e < 20) (hl : l < 16) (m : Nat) (hmode : loopMode s.body e l = 2) (hstale : 3 ≤ (loop s.body e l).stale) (hsoft : loopSoft s.body e l = false)
    (hprimary : flagF s.body R.COX_LOOP_CFG.sense_fallback (lix e l) = false) (hheld : (loop s.body e l).held = none) (hkind : loopKind s.body e l = 0) :
    Runs (.frozenSample e l m false) s [.cox, .regs] (fun b => (loop b e l).held = some (meanOut s.body e l)
      ∧ flagF b R.COX_LOOP_FLAGS.frozen (lix e l) = true ∧ getF b R.COX_LOOP_MODE.state (lix e l) = 4) := by
  obtain ⟨n, hn⟩ : ∃ n, updLoop e l (fun t => { t with held := some (meanOut s.body e l), heldFor := 0 }) (setFlag s.body R.COX_LOOP_FLAGS.frozen (lix e l) true) = n := ⟨_, rfl⟩
  have hhold : (loop (setF n R.COX_LOOP_MODE.state (lix e l) 4) e l).held = some (meanOut s.body e l) := by
    show (loop n e l).held = _
    rw [← hn, loop_updLoop_same]
  obtain ⟨c, hc⟩ : ∃ c, setF n R.COX_LOOP_MODE.state (lix e l) 4 = c := ⟨_, rfl⟩
  have honly : Only [.cox, .regs] s.body c := by
    rw [← hc, ← hn]
    simp
  have hx : frozenSample e l m false s.body = shedEnded e l c :=
    (frozenSample_rail m false hmode hstale hsoft hprimary hheld hkind).trans (congrArg (shedEnded e l) ((if_neg (by decide)).trans (by rw [hn, hc])))
  obtain ⟨hw, hloop⟩ := shedEnded_shows e l c
  refine runs_of_lift (lift_of_onUnit (isLoop_eq he hl)) hx (honly.trans hw.only) ⟨?_, ?_, ?_⟩
  · rw [hloop, ← hc]
    exact hhold
  · rw [hw.flagF_eq (by decide) (by decide), ← hc, flagF_setF_other _ _ (by decide) (by decide) (by decide), ← hn, flagF_updLoop]
    exact flagF_setFlag_same _ _ _ _ (by decide)
  · rw [hw.getF_eq (by decide) (by decide), ← hc]
    exact getF_setF_fits (by decide)

/-! ### The mode of a loop (R367, R396, R406) -/

theorem actuatorOwners_die (he : e < 16) (b : Body) : (actuatorOwners b e l).head? = none := by
  have hx : actuatorLoops e l = [l] := by
    unfold actuatorLoops
    rw [if_neg (by omega), if_neg (by omega)]
  unfold actuatorOwners
  rw [hx]
  simp

/-- What a mode write prepares before the mode changes. -/
structure ModeReady (e l m : Nat) (b c : Body) : Prop where
  regs : RegsBut [R.COX_LOOP_MODE.mode, R.COX_LOOP_MODE.state, R.COX_LOOP_MANUAL.manual, R.COX_LOOP_INT.integ] (lix e l) b c
  manual : m = 1 → loopMode b e l = 2 → getF c R.COX_LOOP_MANUAL.manual (lix e l) = getF b R.COX_LOOP_OUT.out (lix e l) % 2 ^ 32
  preset : m = 2 → loopMode b e l = 1 → (loop c e l).preset = some (getF b R.COX_LOOP_OUT.out (lix e l))

theorem loopModeWrite_ready {m : Nat} (he : e < 16) (hp : slotPresent b e l = true) (hm : m ≤ 2) :
    ∃ c v, loopModeWrite e l m b = setF (setF c R.COX_LOOP_MODE.mode (lix e l) m) R.COX_LOOP_MODE.state (lix e l) v ∧ ModeReady e l m b c := by
  unfold loopModeWrite
  rw [if_neg (by simp [hp]; omega)]
  refine ⟨_, _, rfl, ?_⟩
  simp only [actuatorOwners_die he]
  by_cases h2 : m = 2
  · subst h2
    rw [if_neg (c := 2 = 1 ∧ _) (fun h => absurd h.1 (by decide))]
    by_cases hcur : loopMode b e l = 2
    · rw [if_neg (c := 2 = 2 ∧ loopMode b e l ≠ 2) (fun h => h.2 hcur), if_neg (c := 2 ≠ 2) (by simp)]
      exact ⟨.refl _ _ b, fun h => by omega, fun _ h => by omega⟩
    · rw [if_pos (c := 2 = 2 ∧ _) ⟨rfl, hcur⟩]
      split
      · refine ⟨by simp (disch := decide), fun h => by omega, fun _ _ => ?_⟩
        rw [loop_updLoop_same]
      next h1 => exact ⟨by simp (disch := decide), fun h => by omega, fun _ h => absurd h h1⟩
  · rw [if_neg (c := m = 2 ∧ _) (fun h => h2 h.1), if_pos h2]
    split
    · exact ⟨by simp (disch := decide), fun _ _ => getF_setF_same _ _ _ _, fun h => absurd h h2⟩
    next h => exact ⟨by simp (disch := decide), fun h1 hc => absurd ⟨h1, hc⟩ h, fun h => absurd h h2⟩

theorem loopModeWrite_writes {m : Nat} (he : e < 16) (hl : l < 16) (hw : getF s.body R.COX_STATUS.writer e = 0) (hm : m ≤ 2) (hp : slotPresent s.body e l = true) :
    Runs (.loopModeWrite .shepherdA e l m) s [.cox, .regs] (fun b => getF b R.COX_LOOP_MODE.mode (lix e l) = m
      ∧ (m = 1 → loopMode s.body e l = 2 → getF b R.COX_LOOP_MANUAL.manual (lix e l) = getF s.body R.COX_LOOP_OUT.out (lix e l) % 2 ^ 32)
      ∧ (m = 2 → loopMode s.body e l = 1 → (loop b e l).preset = some (getF s.body R.COX_LOOP_OUT.out (lix e l)))
      ∧ RegsBut [R.COX_LOOP_MODE.mode, R.COX_LOOP_MODE.state, R.COX_LOOP_MANUAL.manual, R.COX_LOOP_INT.integ] (lix e l) s.body b) := by
  obtain ⟨c, v, hx, hready⟩ := loopModeWrite_ready (m := m) he hp hm
  have hf : coxWriter .shepherdA e (loopModeWrite e l m) s.body = setF (setF c R.COX_LOOP_MODE.mode (lix e l) m) R.COX_LOOP_MODE.state (lix e l) v := (if_pos hw).trans hx
  refine runs_of_lift (lift_of_onUnit (isLoop_eq (by omega) hl)) hf (hx ▸ (loopModeWrite_within e l m s.body).only) ⟨?_, fun h1 h2 => ?_, hready.preset, ?_⟩
  · rw [getF_setF_other _ _ (by decide) (by decide) (by decide)]
    exact getF_setF_fits (Nat.lt_of_le_of_lt hm (by decide))
  · rw [getF_setF_other _ _ (by decide) (by decide) (by decide), getF_setF_other _ _ (by decide) (by decide) (by decide)]
    exact hready.manual h1 h2
  · exact (hready.regs.setF _ _ (by decide) (by decide)).setF _ _ (by decide) (by decide)

theorem loopModeWrite_refused (he : e < 20) (hl : l < 16) (m : Nat) (hw : getF s.body R.COX_STATUS.writer e = 0) :
    Runs (.loopModeWrite .shepherdB e l m) s [.regs] (fun b => flagF b R.COX_EVENTS.write_refused e = true ∧ RegsBut [R.COX_EVENTS.write_refused] e s.body b) := by
  have hx : coxWriter .shepherdB e (loopModeWrite e l m) s.body = setFlag s.body R.COX_EVENTS.write_refused e true := if_neg (by rw [hw]; decide)
  exact runs_of_lift (lift_of_onUnit (isLoop_eq he hl)) hx (by simp) ⟨flagF_setFlag_same _ _ _ _ (by decide), by simp (disch := decide)⟩

end Loops

/-- Settles O47: a period is followed through the mode of its loop, with the output and the integrator of R372 taken from the step of its one member; events of
supervision act by the kind of their loop (R401), whatever the flags and records that go with them. -/
theorem coxLoops : Obligations.CoxLoops := by
  unfold Obligations.CoxLoops
  intro e l x s he hl
  have hsteady : ∀ {P : Prop}, (Steady e l x s.body → P) → (engineRuns s.body e = true ∧ slotPresent s.body e l = true ∧ x.mismatch = false ∧ x.fresh = true ∧ x.delay ≤ 550
      ∧ flagF s.body R.COX_LOOP_CFG.sense_fallback (lix e l) = false ∧ (loop s.body e l).held = none ∧ e ≠ 16 ∧ e ≠ 17 ∧ loopKind s.body e l = 0) → P :=
    fun h ⟨h1, h2, h3, h4, h5, h6, h7, h8, h9, h10⟩ => h ⟨h1, h2, h3, h4, h5, h6, h7, h8, h9, h10⟩
  refine ⟨?idle, ?off, ?manual, ?auto, ?mismatched, ?saturated, ?unruled, ?implausible, ?frozen, ?expired, ?free, ?mode⟩
  case idle => exact loopPeriod_idle he hl
  case off => exact hsteady fun h => loopPeriod_off he hl h
  case manual => exact hsteady fun h => loopPeriod_manual he hl h
  case auto =>
    intro hs hmode hpre htaking hgroup r hstep _
    have hrun := loopPeriod_auto he hl (hsteady id hs) hmode hpre htaking hgroup rfl hstep rfl
    unfold MemberPushes memberGrowth memberOut memberTerms autoMember at hrun
    exact hrun
  case mismatched => exact loopPeriod_mismatched he hl
  case saturated => exact satEvent_acts he hl
  case unruled => exact events_idle he hl
  case implausible => exact plausEvent_acts he hl
  case frozen =>
    exact fun hmode hstale hsoft hprimary hheld m hkind =>
      ⟨frozenSample_falls he hl m hmode hstale hsoft hprimary hheld hkind, frozenSample_holds he hl m hmode hstale hsoft hprimary hheld hkind⟩
  case expired => exact frozenExpire_acts he hl
  case free => exact frozenExpire_idle he hl
  case mode =>
    exact fun m hw => ⟨fun hm hp h16 => loopModeWrite_writes h16 hl hw hm hp, loopModeWrite_refused he hl m hw,
      runs_same (lift_of_onUnit (isLoop_eq he hl)) rfl⟩

end Sys2Proof.Machine

/-! The ring master, its sweeps and its trips (O51). -/

namespace Sys2Proof.Machine

section Ring

variable {b : Body} {s : State} {k : Nat} {bs : List Nat}

/-! ### What the ring master sends (R457, R471) -/

/-- The ring master as it was but for the counters of what it sends. -/
def SameMaster (b c : Body) : Prop := ∃ a o, c.cells = { b.cells with ring := { b.cells.ring with txAll := a, txOwn := o } }

theorem ringSend_within (port : Nat) (name : String) (ftype addr : Nat) (back : Bool) (payload : List Nat) (b : Body) :
    Within [.cells, .regs, .sent] [] b (ringSend port name ftype addr back payload b) := by
  unfold ringSend
  constructor <;> simp (disch := decide)

theorem ringSend_master (port : Nat) (name : String) (ftype addr : Nat) (back : Bool) (payload : List Nat) (b : Body) :
    SameMaster b (ringSend port name ftype addr back payload b) := by
  by_cases h : addr = 7
  · exact ⟨((if addr = 7 then b.cells.ring.txAll else SMap.get b.cells.ring.txOwn 0 addr) + 1) % 16, b.cells.ring.txOwn,
      congrArg (fun r => { b.cells with ring := r }) (if_pos h)⟩
  · exact ⟨b.cells.ring.txAll, SMap.put b.cells.ring.txOwn 0 addr (((if addr = 7 then b.cells.ring.txAll else SMap.get b.cells.ring.txOwn 0 addr) + 1) % 16),
      congrArg (fun r => { b.cells with ring := r }) (if_neg h)⟩

theorem ringSendBoth_within (name : String) (ftype : Nat) (payload : List Nat) (b : Body) : Within [.cells, .regs, .sent] [] b (ringSendBoth name ftype payload b) := by
  unfold ringSendBoth
  constructor <;> simp (disch := decide)

theorem ringSendBoth_master (name : String) (ftype : Nat) (payload : List Nat) (b : Body) : SameMaster b (ringSendBoth name ftype payload b) :=
  ⟨(b.cells.ring.txAll + 1) % 16, b.cells.ring.txOwn, rfl⟩

/-! ### The mode of the ring (R478) -/

/-- The fields of a change of the ring's mode. -/
def modeRingFields : List Field := [R.CMN_RING_STATUS.mode, R.CMN_FRAME_ERR2.breaks]

theorem setRingMode_shows {m : Nat} (hm : m < 4) (b : Body) : Acts modeRingFields b (setRingMode m b) ∧ ringMode (setRingMode m b) = m := by
  unfold setRingMode
  simp only []
  split
  next h => exact ⟨.refl _ b, h⟩
  next =>
    have hset : Acts modeRingFields b (setF b R.CMN_RING_STATUS.mode 0 m) := (Acts.refl _ b).setF (by decide) (by decide) (by decide) (by decide) 0 m
    have hmode : ringMode (setF b R.CMN_RING_STATUS.mode 0 m) = m := getF_setF_fits (Nat.lt_of_lt_of_le hm (by decide))
    obtain ⟨c, hc⟩ : ∃ c, (if (ringMode b = 1 ∧ m = 2) ∨ (ringMode b = 2 ∧ m = 1) then addSat (setF b R.CMN_RING_STATUS.mode 0 m) R.CMN_FRAME_ERR2.breaks 0 1
      else setF b R.CMN_RING_STATUS.mode 0 m) = c := ⟨_, rfl⟩
    have hcount : Acts modeRingFields b c ∧ ringMode c = m := by
      rw [← hc]
      split
      · exact ⟨hset.setF (by decide) (by decide) (by decide) (by decide) 0 _, (getF_setF_other _ _ (by decide) (by decide) (by decide)).trans hmode⟩
      · exact ⟨hset, hmode⟩
    rw [hc]
    have hs := (logRec_steers 0x30 [2, BitVec.ofNat 8 m, BitVec.ofNat 8 (getF c R.CMN_RING_STATUS.break_seg 0)] c).trans (raiseVec_steers 23 _)
    exact ⟨hcount.1.steers hs, (hs.getF_eq (by decide) (by decide) 0).trans hcount.2⟩

theorem ringBreak_shows (h : ringMode b ≤ 1) : Acts modeRingFields b (ringBreak b) ∧ ringMode (ringBreak b) = 2 := by
  have hx : ringBreak b = setRingMode 2 b := if_neg (by omega)
  rw [hx]
  exact setRingMode_shows (by decide) b

/-! ### A sweep starts (R461, R475) -/

theorem readMonitor_shows (k : Nat) (fromR : Bool) (b : Body) : Within [.cells, .regs, .sent] [] b (readMonitor k fromR b)
    ∧ ∃ a o, (readMonitor k fromR b).cells
      = { b.cells with ring := { b.cells.ring with reading := if 4 ≤ k then none else some (k, fromR), txAll := a, txOwn := o } } := by
  unfold readMonitor
  split
  next h =>
    refine ⟨?_, b.cells.ring.txAll, b.cells.ring.txOwn, rfl⟩
    constructor <;> simp (disch := decide)
  next h =>
    have hring : Within [.cells, .regs, .sent] [] b (updRing (fun r => { r with reading := some (k, fromR) }) b) := by constructor <;> simp (disch := decide)
    obtain ⟨a, o, hr⟩ := ringSend_master (cond fromR 1 0) "READ" 3 k (ringMode b != 1) [] (updRing (fun r => { r with reading := some (k, fromR) }) b)
    exact ⟨hring.trans (ringSend_within _ _ _ _ _ _ _), a, o, hr⟩

/-- The ring master at the start of a sweep. -/
def startedRing (byte : Nat) (r : RingMaster) : RingMaster := { r with sweeping := true, byte := byte, data := [], fails := 0, second := false }

theorem sweepStart_starts (hen : flagF s.body R.CMN_CTRL.sweep_en 0 = true) (hidle : s.body.cells.ring.sweeping = false) (hhouse : s.body.cox.path.housekeeping = true) :
    Runs .sweepStart s [.cells, .regs, .sent] (fun b => b.cells.ring.sweeping = true ∧ b.cells.ring.reading = some (0, false)
      ∧ b.cells.ring.byte = (getF s.body R.CMN_SWEEP_STATUS.sweep 0 + 1) % 256 ∧ b.cells.ring.data = []
      ∧ getF b R.CMN_RING_STATUS.reach_f 0 = 0 ∧ getF b R.CMN_RING_STATUS.reach_r 0 = 0 ∧ b.cells.monitors = s.body.cells.monitors) := by
  obtain ⟨byte, hbyte⟩ : ∃ byte, (getF s.body R.CMN_SWEEP_STATUS.sweep 0 + 1) % 256 = byte := ⟨_, rfl⟩
  obtain ⟨c, hc⟩ : ∃ c, setF (setF (updRing (startedRing byte) s.body) R.CMN_RING_STATUS.reach_f 0 0) R.CMN_RING_STATUS.reach_r 0 0 = c := ⟨_, rfl⟩
  have honly : Only [.cells, .regs, .sent] s.body c := by
    rw [← hc]
    simp
  have hcells : c.cells = { s.body.cells with ring := startedRing byte s.body.cells.ring } := by
    rw [← hc]
    rfl
  have hreach : getF c R.CMN_RING_STATUS.reach_f 0 = 0 ∧ getF c R.CMN_RING_STATUS.reach_r 0 = 0 := by
    rw [← hc]
    exact ⟨(getF_setF_other _ _ (by decide) (by decide) (by decide)).trans (getF_setF_fits (by decide)), getF_setF_fits (by decide)⟩
  obtain ⟨d, hd⟩ : ∃ d, (if 2 ≤ ringMode c then ringSendBoth "CONVERT" 2 [byte] c else ringSend 0 "CONVERT" 2 7 false [byte] c) = d := ⟨_, rfl⟩
  have hsent : Within [.cells, .regs, .sent] [] c d ∧ SameMaster c d := by
    rw [← hd]
    split
    · exact ⟨ringSendBoth_within _ _ _ c, ringSendBoth_master _ _ _ c⟩
    · exact ⟨ringSend_within _ _ _ _ _ _ c, ringSend_master _ _ _ _ _ _ c⟩
  obtain ⟨hw, a, o, hmaster⟩ := hsent
  have hx : sweepStart s.body = readMonitor 0 false d := by
    unfold sweepStart
    rw [if_neg (by simp [hen, hidle, hhouse]), hbyte]
    rw [← hd, ← hc]
    rfl
  obtain ⟨hread, a', o', hring⟩ := readMonitor_shows 0 false d
  have hall := hw.trans hread
  have hcells' : (readMonitor 0 false d).cells = { s.body.cells with ring := { startedRing byte s.body.cells.ring with reading := some (0, false), txAll := a', txOwn := o' } } := by
    rw [hring, hmaster, hcells]
    rfl
  refine runs_of_lift (f := sweepStart) rfl hx (honly.trans hall.only) ?_
  rw [hcells', hbyte]
  exact ⟨rfl, rfl, rfl, rfl, (hall.getF_eq (by decide) (by decide) 0).trans hreach.1, (hall.getF_eq (by decide) (by decide) 0).trans hreach.2, rfl⟩

theorem sweepStart_idle (h : flagF s.body R.CMN_CTRL.sweep_en 0 = false ∨ s.body.cells.ring.sweeping = true) : Runs .sweepStart s [] (fun b => b = s.body) := by
  refine runs_same (f := sweepStart) rfl (if_pos ?_)
  rcases h with h | h
  · exact .inl (by simp [h])
  · exact .inr (.inl h)

/-! ### A ring that does not answer (R474, R475) -/

theorem convertTimeout_turns (hsweep : s.body.cells.ring.sweeping = true) (hfirst : s.body.cells.ring.second = false) (hmode : ringMode s.body ≤ 1) :
    RunsS .ringConvertTimeout s (fun u => ringMode u.body = 2 ∧ u.body.cells.ring.second = true
      ∧ getF u.body R.CMN_FRAME_ERR2.reverse_converts 0 = min (getF s.body R.CMN_FRAME_ERR2.reverse_converts 0 + 1) (2 ^ R.CMN_FRAME_ERR2.reverse_converts.width - 1)) := by
  obtain ⟨hbreak, hmode2⟩ := ringBreak_shows hmode
  obtain ⟨c, hc⟩ : ∃ c, addSat (ringBreak s.body) R.CMN_FRAME_ERR2.reverse_converts 0 1 = c := ⟨_, rfl⟩
  have hcm : ringMode c = 2 := by
    rw [← hc]
    exact (getF_setF_other _ _ (by decide) (by decide) (by decide)).trans hmode2
  have hcount : getF c R.CMN_FRAME_ERR2.reverse_converts 0 = min (getF s.body R.CMN_FRAME_ERR2.reverse_converts 0 + 1) (2 ^ R.CMN_FRAME_ERR2.reverse_converts.width - 1) := by
    rw [← hc, getF_addSat_same, hbreak.getF_eq (by decide) (by decide)]
  have hx : convertTimeout s.body = ringSend 1 "CONVERT" 2 7 false [s.body.cells.ring.byte] (updRing (fun r => { r with second := true }) c) := by
    rw [← hc]
    exact if_neg (by rw [hsweep, hfirst]; simp; omega)
  have hw := ringSend_within 1 "CONVERT" 2 7 false [s.body.cells.ring.byte] (updRing (fun r => { r with second := true }) c)
  obtain ⟨a, o, hring⟩ := ringSend_master 1 "CONVERT" 2 7 false [s.body.cells.ring.byte] (updRing (fun r => { r with second := true }) c)
  refine runsS_of_lift (f := convertTimeout) rfl hx ⟨(hw.getF_eq (by decide) (by decide) 0).trans hcm, ?_, (hw.getF_eq (by decide) (by decide) 0).trans hcount⟩
  show (ringSend 1 "CONVERT" 2 7 false [s.body.cells.ring.byte] (updRing (fun r => { r with second := true }) c)).cells.ring.second = true
  rw [hring]
  rfl

theorem convertTimeout_idle (h : s.body.cells.ring.sweeping = false ∨ 2 ≤ ringMode s.body) : Runs .ringConvertTimeout s [] (fun b => b = s.body) := by
  refine runs_same (f := convertTimeout) rfl (if_pos ?_)
  rcases h with h | h
  · exact .inl (by simp [h])
  · exact .inr (.inr h)

theorem readTimeout_idle (h : s.body.cells.ring.reading = none) : Runs .ringReadTimeout s [] (fun b => b = s.body) := by
  refine runs_same (f := readTimeout) rfl ?_
  unfold readTimeout
  rw [h]

/-- The body in which a READ slot that failed is counted. -/
def readFailed (b : Body) : Body := addSat b R.CMN_FRAME_ERR2.timeout 0 1

theorem readFailed_mode (b : Body) : ringMode (readFailed b) = ringMode b := getF_setF_other _ _ (by decide) (by decide) (by decide)

theorem readTimeout_eq {dir : Bool} (h : b.cells.ring.reading = some (k, dir)) : readTimeout b = (if ringMode b ≤ 1 then
    if b.cells.ring.fails = 0 then readMonitor k false (updRing (fun r => { r with fails := 1 }) (readFailed b))
    else readMonitor k false (updRing (fun r => { r with fails := 0 }) (ringBreak (readFailed b)))
    else if dir then readMonitor (k + 1) true (readFailed b) else readMonitor k true (readFailed b)) := by
  unfold readTimeout
  rw [h]
  show (if ringMode (readFailed b) ≤ 1 then _ else _) = _
  rw [readFailed_mode]
  rfl

variable {dir : Bool} (hk : k < 4) (hread : s.body.cells.ring.reading = some (k, dir))

include hk hread

theorem readTimeout_again (hmode : ringMode s.body ≤ 1) (hfails : s.body.cells.ring.fails = 0) : Runs .ringReadTimeout s [.cells, .regs, .sent] (fun b =>
    b.cells.ring.fails = 1 ∧ b.cells.ring.reading = some (k, false)
      ∧ getF b R.CMN_FRAME_ERR2.timeout 0 = min (getF s.body R.CMN_FRAME_ERR2.timeout 0 + 1) (2 ^ R.CMN_FRAME_ERR2.timeout.width - 1)) := by
  obtain ⟨c, hc⟩ : ∃ c, updRing (fun r => { r with fails := 1 }) (readFailed s.body) = c := ⟨_, rfl⟩
  have hx : readTimeout s.body = readMonitor k false c := by
    rw [readTimeout_eq hread, if_pos hmode, if_pos hfails, hc]
  obtain ⟨hw, a, o, hring⟩ := readMonitor_shows k false c
  have honly : Only [.cells, .regs, .sent] s.body c := by
    rw [← hc, readFailed]
    simp
  refine runs_of_lift (f := readTimeout) rfl hx (honly.trans hw.only) ?_
  rw [hring, hw.getF_eq (by decide) (by decide), if_neg (by omega), ← hc]
  exact ⟨rfl, rfl, getF_addSat_same _ _ _ _⟩

theorem readTimeout_breaks (hmode : ringMode s.body ≤ 1) (hfails : s.body.cells.ring.fails ≠ 0) : RunsS .ringReadTimeout s (fun u => ringMode u.body = 2
    ∧ u.body.cells.ring.reading = some (k, false)) := by
  obtain ⟨-, hbreak⟩ := ringBreak_shows (b := readFailed s.body) (by rwa [readFailed_mode])
  obtain ⟨c, hc⟩ : ∃ c, ringBreak (readFailed s.body) = c := ⟨_, rfl⟩
  rw [hc] at hbreak
  have hx : readTimeout s.body = readMonitor k false (updRing (fun r => { r with fails := 0 }) c) := by
    rw [readTimeout_eq hread, if_pos hmode, if_neg hfails, hc]
  obtain ⟨hw, a, o, hring⟩ := readMonitor_shows k false (updRing (fun r => { r with fails := 0 }) c)
  refine runsS_of_lift (f := readTimeout) rfl hx ⟨(hw.getF_eq (by decide) (by decide) 0).trans hbreak, ?_⟩
  show (readMonitor k false (updRing (fun r => { r with fails := 0 }) c)).cells.ring.reading = _
  rw [hring, if_neg (by omega)]

omit hk hread in
theorem readTimeout_reads {j : Nat} (hx : readTimeout s.body = readMonitor j true (readFailed s.body)) : Runs .ringReadTimeout s [.cells, .regs, .sent] (fun b =>
    b.cells.ring.reading = if 4 ≤ j then none else some (j, true)) := by
  obtain ⟨hw, a, o, hring⟩ := readMonitor_shows j true (readFailed s.body)
  have honly : Only [.cells, .regs, .sent] s.body (readFailed s.body) := by
    unfold readFailed
    simp
  refine runs_of_lift (f := readTimeout) rfl hx (honly.trans hw.only) ?_
  rw [hring]

theorem readTimeout_other (hmode : 2 ≤ ringMode s.body) (hdir : dir = false) : Runs .ringReadTimeout s [.cells, .regs, .sent] (fun b => b.cells.ring.reading = some (k, true)) := by
  have h := readTimeout_reads (s := s) (j := k) (by rw [readTimeout_eq hread, if_neg (by omega), hdir]; rfl)
  rwa [if_neg (by omega)] at h

theorem readTimeout_next (hmode : 2 ≤ ringMode s.body) (hdir : dir = true) : Runs .ringReadTimeout s [.cells, .regs, .sent] (fun b =>
    b.cells.ring.reading = if k = 3 then none else some (k + 1, true)) := by
  have h := readTimeout_reads (s := s) (j := k + 1) (by rw [readTimeout_eq hread, if_neg (by omega), hdir]; rfl)
  rwa [show (if 4 ≤ k + 1 then none else some (k + 1, true)) = if k = 3 then none else some (k + 1, true) by congr 1; simp; omega] at h

omit hk hread

/-! ### Frames of monitors (R459, R460) -/

theorem masterIn_bad (hbad : ringFrame bs = none) (act : RingFrame → Body → Body) (b : Body) : masterIn k bs act b = addSat b R.CMN_FRAME_ERR.crc 0 1 := by
  unfold masterIn
  rw [hbad]

/-- The counter of a monitor's frames, noted. -/
def heardFrom (k alive : Nat) (b : Body) : Body := updRing (fun r => { r with rx := SMap.put r.rx none k (some alive) }) b

theorem masterIn_first {f : RingFrame} (hf : ringFrame bs = some f) (hnew : SMap.get b.cells.ring.rx none k = none) (act : RingFrame → Body → Body) :
    masterIn k bs act b = act f (heardFrom k f.alive b) := by
  unfold masterIn heardFrom
  rw [hf]
  simp only [hnew]

theorem isMon_eq (hk : k < 4) : isMon k = true := decide_eq_true hk

theorem badFrame_counts (hk : k < 4) (hbad : ringFrame bs = none) : ∀ c ∈ [Instr.cmData k false bs, .cmAlert k bs], Runs c s [.regs] (fun b =>
    getF b R.CMN_FRAME_ERR.crc 0 = min (getF s.body R.CMN_FRAME_ERR.crc 0 + 1) (2 ^ R.CMN_FRAME_ERR.crc.width - 1) ∧ RegsBut [R.CMN_FRAME_ERR.crc] 0 s.body b) := by
  have hshow : ∀ {c : Instr} {f : Body → Body}, exec c s = lift f s → f s.body = addSat s.body R.CMN_FRAME_ERR.crc 0 1 → Runs c s [.regs] (fun b =>
      getF b R.CMN_FRAME_ERR.crc 0 = min (getF s.body R.CMN_FRAME_ERR.crc 0 + 1) (2 ^ R.CMN_FRAME_ERR.crc.width - 1) ∧ RegsBut [R.CMN_FRAME_ERR.crc] 0 s.body b) :=
    fun hx hf => runs_of_lift hx hf (by simp) ⟨getF_addSat_same _ _ _ _, by simp (disch := decide)⟩
  intro c hc
  rcases List.mem_pair.1 hc with rfl | rfl
  · exact hshow (f := dataIn k false bs) (lift_of_onUnit (isMon_eq hk)) (masterIn_bad hbad _ _)
  · exact hshow (f := alertIn k bs) (lift_of_onUnit (isMon_eq hk)) (masterIn_bad hbad _ _)

/-- The register of the monitors that a port reaches. -/
def reachField (dir : Bool) : Field := if dir then R.CMN_RING_STATUS.reach_r else R.CMN_RING_STATUS.reach_f

/-- A monitor's answer, taken. -/
def answered (k : Nat) (dir : Bool) (payload : List Nat) (b : Body) : Body :=
  setF (updRing (fun r => { r with data := SMap.put r.data [] k payload, fails := 0 }) b) (reachField dir) 0 (setBit (getF b (reachField dir) 0) k true)

theorem dataIn_takes {f : RingFrame} {dir : Bool} (hk : k < 4) (hf : ringFrame bs = some f) (hnew : SMap.get s.body.cells.ring.rx none k = none) (htype : f.ftype = 4)
    (hlen : f.payload.length = 24) (hread : s.body.cells.ring.reading = some (k, dir)) (hok : bit (f.payload.getD 20 0) 2 = true) (hplace : bits (f.payload.getD 20 0) 4 2 = k) :
    Runs (.cmData k dir bs) s [.cells, .regs, .sent] (fun b => SMap.get b.cells.ring.data [] k = f.payload
      ∧ bit (getF b (if dir then R.CMN_RING_STATUS.reach_r else R.CMN_RING_STATUS.reach_f) 0) k = true
      ∧ b.cells.ring.reading = (if k = 3 then none else some (k + 1, dir)) ∧ SMap.get b.cells.ring.rx none k = some f.alive) := by
  obtain ⟨c, hc⟩ : ∃ c, answered k dir f.payload (heardFrom k f.alive s.body) = c := ⟨_, rfl⟩
  have hgood : ¬ ((!bit (f.payload.getD 20 0) 2) = true ∨ bits (f.payload.getD 20 0) 4 2 ≠ k) := by
    rw [hok, hplace]
    simp
  have hx : dataIn k dir bs s.body = readMonitor (k + 1) dir c := by
    unfold dataIn
    rw [masterIn_first hf hnew, if_neg (by
      rw [show (heardFrom k f.alive s.body).cells.ring.reading = some (k, dir) from hread]
      simp [htype, hlen])]
    simp only []
    rw [if_neg hgood, ← hc]
    cases dir <;> rfl
  have hwidth : reachField dir ∈ [R.CMN_RING_STATUS.reach_f, R.CMN_RING_STATUS.reach_r] := by
    unfold reachField
    cases dir <;> decide
  have honly : Only [.cells, .regs, .sent] s.body c := by
    rw [← hc]
    unfold answered heardFrom
    simp
  have hbit : bit (getF c (reachField dir) 0) k = true := by
    rw [← hc, answered, getF_setF_same, bit_mod_two_pow (n := (reachField dir).width) _ (by unfold reachField; cases dir <;> exact hk), bit_setBit, if_pos rfl]
  obtain ⟨hw, a, o, hring⟩ := readMonitor_shows (k + 1) dir c
  refine runs_of_lift (lift_of_onUnit (isMon_eq hk)) hx (honly.trans hw.only) ?_
  rw [hring, ← hc]
  have hrx : (answered k dir f.payload (heardFrom k f.alive s.body)).cells.ring.rx = SMap.put s.body.cells.ring.rx none k (some f.alive) := rfl
  refine ⟨SMap.get_put_same _ _ _ _, ?_, ?_, (congrArg (SMap.get · none k) hrx).trans (SMap.get_put_same _ _ _ _)⟩
  · rw [hc]
    have hkeep : getF (readMonitor (k + 1) dir c) (reachField dir) 0 = getF c (reachField dir) 0 := by
      unfold reachField
      cases dir
      · exact hw.getF_eq (by decide) (by decide) 0
      · exact hw.getF_eq (by decide) (by decide) 0
    exact (congrArg (bit · k) hkeep).trans hbit
  · show (if 4 ≤ k + 1 then none else some (k + 1, dir)) = _
    congr 1
    simp
    omega

/-! ### Trips of the pack that the ring finds (R480, R484) -/

/-- The fields of a trip that the ring finds, beside the bit of the trip. -/
def ringTripFields : List Field := [R.CMN_TRIP_STATUS.item, R.STP_STATUS.pack_fault] ++ packFields

theorem packFault_acts (item : Nat) (b : Body) : Acts [R.CMN_TRIP_STATUS.item, R.STP_STATUS.pack_fault] b (packFault item b) := .of_within (packFault_shows item b).1 (by decide) (by decide) (by decide)

/-- The body in which the bit of a trip is latched. -/
def tripLatched (code : Nat) (b : Body) : Body := setF b R.CMN_TRIP_STATUS.tripped 0 (setBit (getF b R.CMN_TRIP_STATUS.tripped 0) (code - 0x20) true)

theorem packTripAct_acts {code : Nat} (item : Nat) (v : Int) (fault : Bool) (hnew : bit (getF b R.CMN_TRIP_STATUS.tripped 0) (code - 0x20) = false) :
    Acts ringTripFields (tripLatched code b) (packTripAct code item v fault b) ∧ bit (getF (packTripAct code item v fault b) R.IRQ_CAUSE.cause 0) 23 = true
      ∧ (power b ≠ 9 → (packTripAct code item v fault b).cox.path.packOff = true) := by
  obtain ⟨c, hc⟩ : ∃ c, (if getF b R.CMN_TRIP_STATUS.tripped 0 = 0 then setF (tripLatched code b) R.CMN_TRIP_STATUS.item 0 item else tripLatched code b) = c := ⟨_, rfl⟩
  have hitem : Acts [R.CMN_TRIP_STATUS.item, R.STP_STATUS.pack_fault] (tripLatched code b) c := by
    rw [← hc]
    exact .ite ((Acts.refl _ _).setF (by decide) (by decide) (by decide) (by decide) 0 _) (.refl _ _)
  obtain ⟨d, hrec⟩ : ∃ d, raiseVec 23 (logRec 0x30 [1, BitVec.ofNat 8 code, BitVec.ofNat 8 item]
    (logRec 0x21 ([BitVec.ofNat 8 code, 3, 0, 0] ++ leBytes 4 (uint 32 v)) c)) = d := ⟨_, rfl⟩
  have hx : packTripAct code item v fault b = (if power (if fault then packFault item d else d) = 9 ∨ (if fault then packFault item d else d).cox.path.packOff
      then (if fault then packFault item d else d) else packOff (if fault then packFault item d else d)) := by
    rw [← hrec, ← hc]
    exact if_neg (by rw [hnew]; decide)
  have hs : Steers c d := hrec ▸ ((logRec_steers _ _ c).trans (logRec_steers _ _ _)).trans (raiseVec_steers 23 _)
  have hpend : bit (getF d R.IRQ_CAUSE.cause 0) 23 = true := hrec ▸ raiseVec_pending _ (by decide)
  obtain ⟨e, he⟩ : ∃ e, (if fault then packFault item d else d) = e := ⟨_, rfl⟩
  have hfault : Acts [R.CMN_TRIP_STATUS.item, R.STP_STATUS.pack_fault] d e := by
    rw [← he]
    exact .ite (packFault_acts item d) (.refl _ d)
  have hall : Acts [R.CMN_TRIP_STATUS.item, R.STP_STATUS.pack_fault] (tripLatched code b) e := (hitem.steers hs).trans hfault
  rw [hx, he]
  obtain ⟨hacts, ⟨r, hpath⟩, -, -⟩ := packOff_shows e
  have hpower : power e = power b := (hall.getF_eq (by decide) (by decide) 0).trans (getF_setF_other _ _ (by decide) (by decide) (by decide))
  split
  next h => exact ⟨hall.mono (by decide), hfault.causes 23 (by decide) hpend, fun h9 => h.resolve_left (by rwa [hpower])⟩
  next => exact ⟨(hall.mono (by decide)).trans (hacts.mono (by decide)), hacts.causes 23 (by decide) (hfault.causes 23 (by decide) hpend), fun _ => by rw [hpath]⟩

/-- A trip that the ring finds has acted. -/
def RingTripped (n : Nat) (b : Body) : Prop := bit (getF b R.CMN_TRIP_STATUS.tripped 0) n = true ∧ b.cox.path.packOff = true ∧ bit (getF b R.IRQ_CAUSE.cause 0) 23 = true

theorem packTripAct_trips {n : Nat} (item : Nat) (v : Int) (fault : Bool) (hn : n < R.CMN_TRIP_STATUS.tripped.width) (hnew : bit (getF b R.CMN_TRIP_STATUS.tripped 0) n = false)
    (h9 : power b ≠ 9) : RingTripped n (packTripAct (0x20 + n) item v fault b) := by
  have hcode : 0x20 + n - 0x20 = n := Nat.add_sub_cancel_left _ _
  obtain ⟨hacts, hpend, hoff⟩ := packTripAct_acts (b := b) (code := 0x20 + n) item v fault (by rwa [hcode])
  refine ⟨?_, hoff h9, hpend⟩
  rw [hacts.getF_eq (by decide) (by decide), tripLatched, getF_setF_same, hcode, bit_mod_two_pow (n := R.CMN_TRIP_STATUS.tripped.width) _ hn, bit_setBit, if_pos rfl]

theorem alertIn_alerts {f : RingFrame} (hk : k < 4) (hf : ringFrame bs = some f) (hnew : SMap.get s.body.cells.ring.rx none k = none) (htype : f.ftype = 6) :
    (s.body.cells.ring.evaluating = false → Runs (.cmAlert k bs) s [.cells, .regs] (fun b => flagF b R.CMN_MON.alert k = true ∧ RegsBut [R.CMN_MON.alert] k s.body b))
      ∧ (s.body.cells.ring.evaluating = true → bit (getF s.body R.CMN_TRIP_STATUS.tripped 0) 7 = false ∧ power s.body ≠ 9 → RunsS (.cmAlert k bs) s (fun u => RingTripped 7 u.body)) := by
  obtain ⟨c, hc⟩ : ∃ c, setFlag (heardFrom k f.alive s.body) R.CMN_MON.alert k true = c := ⟨_, rfl⟩
  have hx : alertIn k bs s.body = monitorFault (k * 8 + f.payload.getD 1 0 % 8) (bit (f.payload.getD 0 0) 0 || bit (f.payload.getD 0 0) 1) c := by
    unfold alertIn
    rw [masterIn_first hf hnew, if_neg (by simp [htype]), hc]
  have hev : c.cells.ring.evaluating = s.body.cells.ring.evaluating := by
    rw [← hc]
    rfl
  refine ⟨fun h => ?_, fun h ho => ?_⟩
  · have hx' : alertIn k bs s.body = c := hx.trans (if_neg (by rw [hev, h]; decide))
    refine runs_of_lift (lift_of_onUnit (isMon_eq hk)) hx' ?_ ⟨?_, ?_⟩
    · rw [← hc, heardFrom]
      simp
    · rw [← hc]
      exact flagF_setFlag_same _ _ _ _ (by decide)
    · rw [← hc, heardFrom]
      simp (disch := decide)
  · have hbit : bit (getF c R.CMN_TRIP_STATUS.tripped 0) 7 = false := by
      rw [← hc, getF_setFlag_other _ _ (by decide) (by decide) (by decide)]
      exact ho.1
    have hpower : power c ≠ 9 := by
      rw [← hc, power, getF_setFlag_other _ _ (by decide) (by decide) (by decide)]
      exact ho.2
    exact runsS_of_lift (lift_of_onUnit (isMon_eq hk)) (hx.trans (if_pos (hev.trans h))) (packTripAct_trips (n := 7) _ _ _ (by decide) hbit hpower)

theorem ringLost_trips (h : s.body.cells.ring.evaluating = true) (ho : bit (getF s.body R.CMN_TRIP_STATUS.tripped 0) 8 = false ∧ power s.body ≠ 9) :
    RunsS .ringLost s (fun u => RingTripped 8 u.body) :=
  runsS_of_lift (f := ringLost) rfl (if_pos h) (packTripAct_trips (n := 8) 0 0 false (by decide) ho.1 ho.2)

theorem ringLost_idle (h : s.body.cells.ring.evaluating = false) : Runs .ringLost s [] (fun b => b = s.body) :=
  runs_same (f := ringLost) rfl (if_neg (by rw [h]; decide))

/-! ### No valid sweep for 100 ms (R464, R468) -/

theorem flagF_raised (f : Field) (i : Nat) (p : Bool) (hw : 1 ≤ f.width) (c : Body) :
    flagF (if (!flagF c f i && p) = true then setFlag c f i true else c) f i = (flagF c f i || p) := by
  split
  next h =>
    rw [Bool.and_eq_true] at h
    rw [flagF_setFlag_same _ _ _ _ hw, h.2, Bool.or_true]
  next h =>
    cases hc : flagF c f i
    · rw [hc] at h
      simpa using h
    · rfl

theorem sweepStale_shows (b : Body) : flagF (sweepStale b) R.CMN_SWEEP_STATUS.stale 0 = true
    ∧ flagF (sweepStale b) R.CMN_LIMITS.chg_stop 0 = (flagF b R.CMN_LIMITS.chg_stop 0 || decide (37500 ≤ b.cells.ring.maxUpper))
    ∧ flagF (sweepStale b) R.CMN_LIMITS.dis_stop 0 = (flagF b R.CMN_LIMITS.dis_stop 0 || decide (b.cells.ring.minLower ≤ 25500)) := by
  obtain ⟨b1, hb1⟩ : ∃ b1, setFlag b R.CMN_SWEEP_STATUS.stale 0 true = b1 := ⟨_, rfl⟩
  obtain ⟨chg, hchg⟩ : ∃ chg, (!flagF b1 R.CMN_LIMITS.chg_stop 0 && decide (37500 ≤ b1.cells.ring.maxUpper)) = chg := ⟨_, rfl⟩
  obtain ⟨dis, hdis⟩ : ∃ dis, (!flagF b1 R.CMN_LIMITS.dis_stop 0 && decide (b1.cells.ring.minLower ≤ 25500)) = dis := ⟨_, rfl⟩
  obtain ⟨b2, hb2⟩ : ∃ b2, (if chg then setFlag b1 R.CMN_LIMITS.chg_stop 0 true else b1) = b2 := ⟨_, rfl⟩
  obtain ⟨b3, hb3⟩ : ∃ b3, (if dis then setFlag b2 R.CMN_LIMITS.dis_stop 0 true else b2) = b3 := ⟨_, rfl⟩
  have hx : sweepStale b = portLimits (setFlag b3 R.CMN_LIMITS.stale_inhibit 0 (chg || dis || flagF b3 R.CMN_LIMITS.stale_inhibit 0)) := by
    rw [← hb3, ← hb2, ← hdis, ← hchg, ← hb1]
    rfl
  have hs := portLimits_steers (setFlag b3 R.CMN_LIMITS.stale_inhibit 0 (chg || dis || flagF b3 R.CMN_LIMITS.stale_inhibit 0))
  have hstale1 : flagF b1 R.CMN_SWEEP_STATUS.stale 0 = true := by
    rw [← hb1]
    exact flagF_setFlag_same _ _ _ _ (by decide)
  have hkeep : ∀ {f : Field}, f ∈ [R.CMN_LIMITS.chg_stop, R.CMN_LIMITS.dis_stop] → flagF b1 f 0 = flagF b f 0 := by
    intro f hf
    rw [← hb1]
    fin_cases hf <;> exact flagF_setFlag_other _ _ (by decide) (by decide) (by decide)
  have hring : b1.cells = b.cells := by
    rw [← hb1]
    rfl
  have hchg2 : flagF b2 R.CMN_LIMITS.chg_stop 0 = (flagF b R.CMN_LIMITS.chg_stop 0 || decide (37500 ≤ b.cells.ring.maxUpper)) := by
    rw [← hb2, ← hchg, flagF_raised _ _ _ (by decide) _, hkeep (by simp), hring]
  have hdis2 : flagF b2 R.CMN_LIMITS.dis_stop 0 = flagF b1 R.CMN_LIMITS.dis_stop 0 := by
    rw [← hb2]
    split
    · exact flagF_setFlag_other _ _ (by decide) (by decide) (by decide)
    · rfl
  have hdis3 : flagF b3 R.CMN_LIMITS.dis_stop 0 = (flagF b R.CMN_LIMITS.dis_stop 0 || decide (b.cells.ring.minLower ≤ 25500)) := by
    rw [← hb3, ← hdis, ← hdis2, flagF_raised _ _ _ (by decide) _, hdis2, hkeep (by simp), hring]
  have hother : ∀ {f : Field}, f ∈ [R.CMN_LIMITS.chg_stop, R.CMN_SWEEP_STATUS.stale] → flagF b3 f 0 = flagF b2 f 0 := by
    intro f hf
    rw [← hb3]
    split
    · fin_cases hf <;> exact flagF_setFlag_other _ _ (by decide) (by decide) (by decide)
    · rfl
  have hstale2 : flagF b2 R.CMN_SWEEP_STATUS.stale 0 = flagF b1 R.CMN_SWEEP_STATUS.stale 0 := by
    rw [← hb2]
    split
    · exact flagF_setFlag_other _ _ (by decide) (by decide) (by decide)
    · rfl
  rw [hx, hs.flagF_eq (by decide) (by decide), hs.flagF_eq (by decide) (by decide), hs.flagF_eq (by decide) (by decide),
    flagF_setFlag_other _ _ (by decide) (by decide) (by decide), flagF_setFlag_other _ _ (by decide) (by decide) (by decide),
    flagF_setFlag_other _ _ (by decide) (by decide) (by decide), hother (by simp), hother (by simp), hstale2, hstale1, hchg2, hdis3]
  exact ⟨rfl, rfl, rfl⟩

/-! ### The end of a sweep (R461 to R469, R480, R484) -/

/-- Going from `b` to `c`, no field but those that the power path's actions and `fs` name changes, and a sweep goes on as before. -/
structure Sweeps (fs : List Field) (b c : Body) : Prop where
  fields : FieldsBut (fs ++ steerFields) b c
  sweeping : c.cells.ring.sweeping = b.cells.ring.sweeping

namespace Sweeps

variable {fs : List Field} {c d : Body}

theorem refl (fs : List Field) (b : Body) : Sweeps fs b b := ⟨fun _ _ _ _ => rfl, rfl⟩

theorem trans (h : Sweeps fs b c) (k : Sweeps fs c d) : Sweeps fs b d :=
  ⟨fun f j hf hn => (k.fields f j hf hn).trans (h.fields f j hf hn), k.sweeping.trans h.sweeping⟩

theorem of_acts (h : Acts fs b c) : Sweeps fs b c := ⟨h.fields, by rw [h.cells]⟩

theorem of_within {ps : List Part} {gs : List Field} (h : Within ps gs b c) (hf : gs ⊆ fs) (hs : c.cells.ring.sweeping = b.cells.ring.sweeping) : Sweeps fs b c :=
  ⟨(h.mono (List.Subset.refl _) (fun _ hm => List.mem_append_left _ (hf hm))).fields, hs⟩

theorem of_sent (h : Within [.cells, .regs, .sent] [] b c) (hm : SameMaster b c) : Sweeps fs b c := by
  obtain ⟨a, o, hm⟩ := hm
  exact of_within h (List.nil_subset _) (by rw [hm])

theorem updRing (h : Sweeps fs b c) {f : RingMaster → RingMaster} (hf : ∀ r, (f r).sweeping = r.sweeping) : Sweeps fs b (updRing f c) :=
  ⟨h.fields, (hf _).trans h.sweeping⟩

theorem setF (h : Sweeps fs b c) {f : Field} (hm : f ∈ fs) (hlt : f.idx < 1024) (i v : Nat) : Sweeps fs b (setF c f i v) :=
  ⟨fun g j hg hn => by
    rw [getF_setF_other _ _ hlt hg fun he => hn (he ▸ List.mem_map_of_mem (List.mem_append_left _ hm))]
    exact h.fields g j hg hn, h.sweeping⟩

theorem ite {P : Prop} [Decidable P] (h : Sweeps fs b c) (k : Sweeps fs b d) : Sweeps fs b (if P then c else d) := by
  split <;> assumption

theorem getF_eq (h : Sweeps fs b c) {f : Field} (hf : f.idx < 1024) (hn : f.idx ∉ (fs ++ steerFields).map Field.idx) (i : Nat) : getF c f i = getF b f i := h.fields f i hf hn

theorem flagF_eq (h : Sweeps fs b c) {f : Field} (hf : f.idx < 1024) (hn : f.idx ∉ (fs ++ steerFields).map Field.idx) (i : Nat) : flagF c f i = flagF b f i :=
  congrArg (· == 1) (h.fields f i hf hn)

theorem mono {gs : List Field} (h : Sweeps fs b c) (hs : fs ⊆ gs) : Sweeps gs b c :=
  ⟨fun f j hf hn => h.fields f j hf fun hm => hn (by
    rw [List.map_append] at hm ⊢
    exact (List.mem_append.1 hm).elim (fun hm => List.mem_append_left _ (List.map_subset _ hs hm)) (fun hm => List.mem_append_right _ hm)), h.sweeping⟩

end Sweeps

/-- The fields that evaluating the trips of a sweep writes. -/
def evalFields : List Field := R.CMN_TRIP_STATUS.tripped :: ringTripFields

theorem packTripAct_sweeps (code item : Nat) (v : Int) (fault : Bool) (b : Body) : Sweeps evalFields b (packTripAct code item v fault b) := by
  by_cases h : bit (getF b R.CMN_TRIP_STATUS.tripped 0) (code - 0x20) = true
  · have hx : packTripAct code item v fault b = b := if_pos h
    rw [hx]
    exact .refl _ b
  · have hlatch : Sweeps evalFields b (tripLatched code b) := (Sweeps.refl _ b).setF (by decide) (by decide) _ _
    exact hlatch.trans (.of_acts ((packTripAct_acts item v fault (Bool.eq_false_iff.2 h)).1.mono (by decide)))

/-- The count of a trip's condition after a sweep. -/
def tripCount (code : Nat) (cond : Option Nat) (b : Body) : Nat := if cond.isSome then SMap.get b.cells.ring.counts 0 code + 1 else 0

/-- One condition of a trip, counted and acted on. -/
def evalTrip (x : Nat × Nat × Option Nat × Int × Bool) (b : Body) : Body :=
  if x.2.1 ≤ tripCount x.1 x.2.2.1 b then packTripAct x.1 (x.2.2.1.getD 0) x.2.2.2.1 x.2.2.2.2
    (updRing (fun r => { r with counts := SMap.put r.counts 0 x.1 (min (tripCount x.1 x.2.2.1 b) x.2.1) }) b)
  else updRing (fun r => { r with counts := SMap.put r.counts 0 x.1 (min (tripCount x.1 x.2.2.1 b) x.2.1) }) b

theorem evalTrip_sweeps (x : Nat × Nat × Option Nat × Int × Bool) (b : Body) : Sweeps evalFields b (evalTrip x b) := by
  have hcount : Sweeps evalFields b (updRing (fun r => { r with counts := SMap.put r.counts 0 x.1 (min (tripCount x.1 x.2.2.1 b) x.2.1) }) b) :=
    (Sweeps.refl _ b).updRing fun _ => rfl
  unfold evalTrip
  split
  · exact hcount.trans (packTripAct_sweeps _ _ _ _ _)
  · exact hcount

theorem evalTrips_sweeps (b : Body) : Sweeps evalFields b (evalTrips b) := by
  have hx : evalTrips b = forEach (tripConditions b) evalTrip b := rfl
  obtain ⟨l, hl⟩ : ∃ l, tripConditions b = l := ⟨_, rfl⟩
  rw [hx, hl]
  exact forEach_keeps (P := Sweeps evalFields b) (fun x _ c hc => hc.trans (evalTrip_sweeps x c)) (.refl _ b)

/-- The fields of the stop lines. -/
def lineFields : List Field := [R.CMN_LIMITS.chg_stop, R.CMN_LIMITS.dis_stop, R.CMN_LIMITS.stale_inhibit]

theorem stopLines_sweeps (b : Body) : Sweeps lineFields b (stopLines b) := by
  have hset : ∀ x y z, Sweeps lineFields b (setFlag (setFlag (setFlag b R.CMN_LIMITS.chg_stop 0 x) R.CMN_LIMITS.dis_stop 0 y) R.CMN_LIMITS.stale_inhibit 0 z) := fun x y z =>
    (((Sweeps.refl _ b).setF (by decide) (by decide) _ _).setF (by decide) (by decide) _ _).setF (by decide) (by decide) _ _
  exact (hset _ _ _).trans (.of_acts (portLimits_steers _).acts)

theorem sendBalance_sweeps (mask : Nat) (b : Body) : Sweeps [] (setF b R.CMN_BAL_MASK.mask 0 mask) (sendBalance mask b) :=
  .ite (.of_sent (ringSendBoth_within _ _ _ _) (ringSendBoth_master _ _ _ _)) (.of_sent (ringSend_within _ _ _ _ _ _ _) (ringSend_master _ _ _ _ _ _ _))

theorem sendEnum_sweeps (fs : List Field) (b : Body) : Sweeps fs b (sendEnum b) := .of_sent (ringSend_within _ _ _ _ _ _ _) (ringSend_master _ _ _ _ _ _ _)

/-- The fields of where the ring is broken. -/
def placeFields : List Field := R.CMN_RING_STATUS.break_seg :: modeRingFields

theorem placeBreak_acts (b : Body) : Acts placeFields b (placeBreak b) := by
  obtain ⟨n, hn⟩ : ∃ n, ((List.range 4).filter (bit (getF b R.CMN_RING_STATUS.reach_f 0))).length = n := ⟨_, rfl⟩
  have hset : ∀ m n, m < 4 → Acts placeFields b (setRingMode m (setF b R.CMN_RING_STATUS.break_seg 0 n)) := fun m n hm =>
    ((Acts.refl _ b).setF (by decide) (by decide) (by decide) (by decide) 0 n).trans ((setRingMode_shows hm _).1.mono (by decide))
  unfold placeBreak
  simp only [hn]
  exact .ite (.refl _ b) (.ite (hset 2 _ (by decide)) (hset 3 _ (by decide)))

/-! The readings of a valid sweep, written in three steps. -/

/-- A cell's voltage, written (R464, R466). -/
def voltageStep (ma : Int) (i : Nat) (b : Body) : Body :=
  setF (setF b R.CMN_CELL_V.v_raw i (dataWord b (i / 8) (2 * (i % 8)))) R.CMN_CELL_V.v i
    (compensate (dataWord b (i / 8) (2 * (i % 8))) ma (getF b R.CMN_RCELL.r_uohm i))

/-- A temperature sensor, written. -/
def temperatureStep (j t : Nat) (fault : Bool) (b : Body) : Body := setFlag (setF b R.CMN_TEMP.t j t) R.CMN_TEMP.fault j fault

/-- A monitor's temperatures and bytes, written (R465, R467, R472). -/
def monitorStep (k : Nat) (b : Body) : Body :=
  let t0 := dataWord b k 16
  let t1 := dataWord b k 18
  let out := fun (t : Nat) => decide (sint 16 t < -4500 ∨ 13000 < sint 16 t)
  let far := decide (2000 < (sint 16 t0 - sint 16 t1).natAbs) && !out t0 && !out t1
  let b := temperatureStep (2 * k + 1) t1 (out t1 || far) (temperatureStep (2 * k) t0 (out t0 || far) b)
  let x := dataByte b k 20
  let b := setF (setF b R.CMN_MON.die_c k (dataByte b k 22)) R.CMN_MON.bleed_on k (dataByte b k 23)
  let b := setFlag (setFlag b R.CMN_MON.self_check_ok k (bit x 2)) R.CMN_MON.via_reverse k (bit x 1)
  let b := setF (setFlag b R.CMN_MON.alert k false) R.CMN_MON.strap k (bits x 4 2)
  setF b R.CMN_BAL_FAULT.stuck 0 (Nat.lor (getF b R.CMN_BAL_FAULT.stuck 0) (dataByte b k 23 * 2 ^ (8 * k)))

/-- The extremes, sums and skews of a sweep, written (R464, R472). -/
def summarise (ma : Int) (b : Body) : Body :=
  let v := fun (i : Nat) => getF b R.CMN_CELL_V.v i
  let best := fun (better : Nat → Nat → Bool) => (List.range 32).foldl (fun acc i => if better (v i) (v acc) then i else acc) 0
  let hi := best (fun x y => decide (y < x))
  let lo := best (fun x y => decide (x < y))
  let b := setF (setF (setF b R.CMN_EXTREMES.max_cell 0 hi) R.CMN_EXTREMES.min_cell 0 lo) R.CMN_EXTREMES.spread 0 (v hi - v lo)
  let sum := ((List.range 32).map (fun i => getF b R.CMN_CELL_V.v_raw i)).foldl (· + ·) 0
  let b := setF (setF b R.CMN_PACK.sum_mv 0 (sum / 10)) R.CMN_PACK_I.ma 0 (uint 32 ma)
  let b := setF (setF b R.CMN_SWEEP_SKEW.skew_0 0 (skewOf b 0)) R.CMN_SWEEP_SKEW.skew_1 0 (skewOf b 1)
  let b := setF (setF b R.CMN_SWEEP_SKEW.skew_2 0 (skewOf b 2)) R.CMN_SWEEP_SKEW.skew_3 0 (skewOf b 3)
  let b := setFlag b R.CMN_SWEEP_STATUS.skewed 0 ((List.range 4).any (fun k => skewOf b k != 0))
  updRing (fun r => { r with maxUpper := ((List.range 32).map (upperReading b)).foldl max 0, minLower := ((List.range 32).map (lowerReading b)).foldl min 65535 }) b

theorem writeReadings_eq (ma : Int) (b : Body) :
    writeReadings ma b = summarise ma (forEach (List.range 4) monitorStep (forEach (List.range 32) (voltageStep ma) b)) := rfl

/-- The fields of a monitor and of the summary. -/
def summaryFields : List Field := [R.CMN_TEMP.t, R.CMN_TEMP.fault, R.CMN_MON.die_c, R.CMN_MON.bleed_on, R.CMN_MON.self_check_ok, R.CMN_MON.via_reverse, R.CMN_MON.alert,
  R.CMN_MON.strap, R.CMN_BAL_FAULT.stuck, R.CMN_EXTREMES.max_cell, R.CMN_EXTREMES.min_cell, R.CMN_EXTREMES.spread, R.CMN_PACK.sum_mv, R.CMN_PACK_I.ma,
  R.CMN_SWEEP_SKEW.skew_0, R.CMN_SWEEP_SKEW.skew_1, R.CMN_SWEEP_SKEW.skew_2, R.CMN_SWEEP_SKEW.skew_3, R.CMN_SWEEP_STATUS.skewed]

theorem setF_summary {f : Field} (hf : f ∈ summaryFields) (i v : Nat) (b : Body) : Sweeps summaryFields b (setF b f i v) := by
  fin_cases hf <;> exact (Sweeps.refl _ b).setF (by decide) (by decide) i v

theorem temperatureStep_sweeps (j t : Nat) (fault : Bool) (b : Body) : Sweeps summaryFields b (temperatureStep j t fault b) :=
  (setF_summary (by decide) j t b).trans (setF_summary (by decide) j _ _)

theorem monitorStep_sweeps (k : Nat) (b : Body) : Sweeps summaryFields b (monitorStep k b) := by
  unfold monitorStep
  refine Sweeps.trans ?_ (setF_summary (by decide) _ _ _)
  refine Sweeps.trans ?_ (setF_summary (by decide) _ _ _)
  refine Sweeps.trans ?_ (setF_summary (by decide) _ _ _)
  refine Sweeps.trans ?_ (setF_summary (by decide) _ _ _)
  refine Sweeps.trans ?_ (setF_summary (by decide) _ _ _)
  refine Sweeps.trans ?_ (setF_summary (by decide) _ _ _)
  refine Sweeps.trans ?_ (setF_summary (by decide) _ _ _)
  exact (temperatureStep_sweeps _ _ _ b).trans (temperatureStep_sweeps _ _ _ _)

theorem summarise_sweeps (ma : Int) (b : Body) : Sweeps summaryFields b (summarise ma b) := by
  unfold summarise
  refine Sweeps.updRing ?_ fun _ => rfl
  refine Sweeps.trans ?_ (setF_summary (by decide) _ _ _)
  refine Sweeps.trans ?_ (setF_summary (by decide) _ _ _)
  refine Sweeps.trans ?_ (setF_summary (by decide) _ _ _)
  refine Sweeps.trans ?_ (setF_summary (by decide) _ _ _)
  refine Sweeps.trans ?_ (setF_summary (by decide) _ _ _)
  refine Sweeps.trans ?_ (setF_summary (by decide) _ _ _)
  refine Sweeps.trans ?_ (setF_summary (by decide) _ _ _)
  refine Sweeps.trans ?_ (setF_summary (by decide) _ _ _)
  exact (setF_summary (by decide) _ _ _).trans (setF_summary (by decide) _ _ _)

/-- The voltages of a sweep are written cell by cell. -/
theorem voltages_written (ma : Int) (b : Body) : Within [.regs] [R.CMN_CELL_V.v_raw, R.CMN_CELL_V.v] b (forEach (List.range 32) (voltageStep ma) b)
    ∧ ∀ i, i < 32 → getF (forEach (List.range 32) (voltageStep ma) b) R.CMN_CELL_V.v_raw i = dataWord b (i / 8) (2 * (i % 8)) % 65536
      ∧ getF (forEach (List.range 32) (voltageStep ma) b) R.CMN_CELL_V.v i = compensate (dataWord b (i / 8) (2 * (i % 8))) ma (getF b R.CMN_RCELL.r_uohm i) := by
  have hstep : ∀ i c, Within [.regs] [R.CMN_CELL_V.v_raw, R.CMN_CELL_V.v] c (voltageStep ma i c) := fun i c =>
    (setF_within _ _ c (by decide) (by decide) (by decide)).trans (setF_within _ _ _ (by decide) (by decide) (by decide))
  refine ⟨forEach_within hstep _ b, fun i hi => ?_⟩
  refine forEach_visits (P := fun c => Within [.regs] [R.CMN_CELL_V.v_raw, R.CMN_CELL_V.v] b c) (Q := fun c => getF c R.CMN_CELL_V.v_raw i = dataWord b (i / 8) (2 * (i % 8)) % 65536
    ∧ getF c R.CMN_CELL_V.v i = compensate (dataWord b (i / 8) (2 * (i % 8))) ma (getF b R.CMN_RCELL.r_uohm i)) List.nodup_range (List.mem_range.2 hi)
    (fun j _ c hc => hc.trans (hstep j c)) (fun c hc => ?_) (fun j hj c hc => ?_) (.refl _ _ b)
  · have hword : dataWord c (i / 8) (2 * (i % 8)) = dataWord b (i / 8) (2 * (i % 8)) := by
      unfold dataWord dataByte
      rw [hc.same (p := .cells) (by decide)]
    have hr : getF c R.CMN_RCELL.r_uohm i = getF b R.CMN_RCELL.r_uohm i := hc.getF_eq (by decide) (by decide) i
    unfold voltageStep
    rw [hword, hr, getF_setF_other _ _ (by decide) (by decide) (by decide), getF_setF_same]
    exact ⟨rfl, getF_setF_fits (Nat.lt_succ_of_le (Nat.min_le_left _ _))⟩
  · unfold voltageStep
    rw [getF_setF_other _ _ (by decide) (by decide) (by decide), getF_setF_instance _ _ _ _ _ (Ne.symm hj), getF_setF_instance _ _ _ _ _ (Ne.symm hj),
      getF_setF_other _ _ (by decide) (by decide) (by decide)]
    exact hc

/-- The body at the end of a sweep, its count and length noted. -/
def sweepNoted (dur : Nat) (b : Body) : Body :=
  let c := placeBreak b
  let c := setF c R.CMN_SWEEP_STATUS.sweep 0 (getF c R.CMN_SWEEP_STATUS.sweep 0 + 1)
  updRing (fun r => { r with sweeping := false, sinceProbe := r.sinceProbe + 1 }) (setF (setFlag c R.CMN_SWEEP_STATUS.valid 0 (sweepValid b)) R.CMN_SWEEP_STATUS.duration 0 dur)

/-- What follows the readings of a valid sweep (R468, R469, R480). -/
def sweepJudged (b : Body) : Body :=
  let b := stopLines (updLedger (fun l => { l with sweepAt := b.now }) b)
  let b := updRing (fun r => { r with evaluating := r.evaluating || decide (4 ≤ power b ∧ power b ≠ 9) }) b
  let b := if b.cells.ring.evaluating then evalTrips b else b
  sendBalance (balanceMask b) b

/-- An ENUM that waited for the end of a sweep (R482). -/
def enumDue (b : Body) : Body := if b.cells.ring.enumAsked then sendEnum (updRing (fun r => { r with enumAsked := false, enumRepeat := true }) b) else b

theorem sweepEnd_eq {ma : Int} {dur : Nat} (hs : b.cells.ring.sweeping = true) (hr : b.cells.ring.reading = none) : sweepEnd ma dur b = enumDue (if sweepValid b
    then sweepJudged (setFlag (writeReadings ma (sweepNoted dur b)) R.CMN_SWEEP_STATUS.stale 0 false) else sendBalance 0 (sweepNoted dur b)) :=
  if_neg (by simp [hs, hr])

/-- What the end of a sweep notes. -/
structure EndNoted (dur : Nat) (b c : Body) : Prop where
  sweeping : c.cells.ring.sweeping = false
  data : c.cells.ring.data = b.cells.ring.data
  valid : flagF c R.CMN_SWEEP_STATUS.valid 0 = sweepValid b
  sweep : getF c R.CMN_SWEEP_STATUS.sweep 0 = (getF b R.CMN_SWEEP_STATUS.sweep 0 + 1) % 65536
  duration : getF c R.CMN_SWEEP_STATUS.duration 0 = dur % 4096
  fields : FieldsBut ([R.CMN_SWEEP_STATUS.sweep, R.CMN_SWEEP_STATUS.valid, R.CMN_SWEEP_STATUS.duration] ++ placeFields ++ steerFields) b c

theorem sweepNoted_notes (dur : Nat) (b : Body) : EndNoted dur b (sweepNoted dur b) := by
  obtain ⟨v, hv⟩ : ∃ v, sweepValid b = v := ⟨_, rfl⟩
  have hplace := placeBreak_acts b
  obtain ⟨c, hc⟩ : ∃ c, placeBreak b = c := ⟨_, rfl⟩
  rw [hc] at hplace
  have hcount : getF c R.CMN_SWEEP_STATUS.sweep 0 = getF b R.CMN_SWEEP_STATUS.sweep 0 := hplace.getF_eq (by decide) (by decide) 0
  obtain ⟨d, hd⟩ : ∃ d, setF (setFlag (setF c R.CMN_SWEEP_STATUS.sweep 0 (getF b R.CMN_SWEEP_STATUS.sweep 0 + 1)) R.CMN_SWEEP_STATUS.valid 0 v) R.CMN_SWEEP_STATUS.duration 0 dur = d := ⟨_, rfl⟩
  have hset : Within [.regs] [R.CMN_SWEEP_STATUS.sweep, R.CMN_SWEEP_STATUS.valid, R.CMN_SWEEP_STATUS.duration] c d := by
    rw [← hd]
    constructor <;> simp (disch := decide)
  have hcells : d.cells = b.cells := (hset.same (p := .cells) (by decide)).trans hplace.cells
  have hx : sweepNoted dur b = updRing (fun r => { r with sweeping := false, sinceProbe := r.sinceProbe + 1 }) d := by
    unfold sweepNoted
    simp only [hc, hv, hcount, hd]
  rw [hx]
  refine ⟨rfl, congrArg (fun r => r.ring.data) hcells, ?_, ?_, ?_, fun f j hf hn => ?_⟩
  · show flagF d R.CMN_SWEEP_STATUS.valid 0 = sweepValid b
    rw [hv, ← hd, flagF_setF_other _ _ (by decide) (by decide) (by decide)]
    exact flagF_setFlag_same _ _ _ _ (by decide)
  · show getF d R.CMN_SWEEP_STATUS.sweep 0 = _
    rw [← hd, getF_setF_other _ _ (by decide) (by decide) (by decide), getF_setFlag_other _ _ (by decide) (by decide) (by decide)]
    exact getF_setF_same _ _ _ _
  · show getF d R.CMN_SWEEP_STATUS.duration 0 = _
    rw [← hd]
    exact getF_setF_same _ _ _ _
  · rw [List.append_assoc, List.map_append, List.mem_append, not_or] at hn
    exact (hset.fields f j hf hn.1).trans (hplace.fields f j hf hn.2)

theorem enumDue_sweeps (b : Body) : Sweeps [] b (enumDue b) := by
  have hring : Sweeps [] b (updRing (fun r => { r with enumAsked := false, enumRepeat := true }) b) := (Sweeps.refl _ b).updRing fun _ => rfl
  unfold enumDue
  exact .ite (hring.trans (sendEnum_sweeps _ _)) (.refl _ b)

/-- The fields of what follows the readings of a valid sweep. -/
def judgeFields : List Field := R.CMN_BAL_MASK.mask :: (lineFields ++ evalFields)

theorem sweepJudged_sweeps (b : Body) : Sweeps judgeFields b (sweepJudged b) := by
  obtain ⟨c, hc⟩ : ∃ c, stopLines (updLedger (fun l => { l with sweepAt := b.now }) b) = c := ⟨_, rfl⟩
  have hlines : Sweeps judgeFields b c := by
    have hledger : Sweeps judgeFields b (updLedger (fun l => { l with sweepAt := b.now }) b) := ⟨fun _ _ _ _ => rfl, rfl⟩
    rw [← hc]
    exact hledger.trans ((stopLines_sweeps _).mono (by decide))
  obtain ⟨d, hd⟩ : ∃ d, updRing (fun r => { r with evaluating := r.evaluating || decide (4 ≤ power c ∧ power c ≠ 9) }) c = d := ⟨_, rfl⟩
  have hring : Sweeps judgeFields b d := by
    rw [← hd]
    exact hlines.updRing fun _ => rfl
  obtain ⟨e, he⟩ : ∃ e, (if d.cells.ring.evaluating then evalTrips d else d) = e := ⟨_, rfl⟩
  have heval : Sweeps judgeFields b e := by
    rw [← he]
    exact hring.trans (.ite ((evalTrips_sweeps d).mono (by decide)) (.refl _ d))
  have hx : sweepJudged b = sendBalance (balanceMask e) e := by
    unfold sweepJudged
    simp only [hc, hd, he]
  rw [hx]
  exact (heval.setF (by decide) (by decide) 0 _).trans ((sendBalance_sweeps _ e).mono (by decide))

/-- What the end of a sweep shows. -/
def SweepEnded (b0 : Body) (dur : Nat) (v : Bool) (u : State) : Prop := u.body.cells.ring.sweeping = false ∧ flagF u.body R.CMN_SWEEP_STATUS.valid 0 = v
  ∧ getF u.body R.CMN_SWEEP_STATUS.sweep 0 = (getF b0 R.CMN_SWEEP_STATUS.sweep 0 + 1) % 65536
  ∧ getF u.body R.CMN_SWEEP_STATUS.duration 0 = dur % 4096

theorem EndNoted.ended {dur : Nat} {c : Body} (h : EndNoted dur b c) {fs : List Field} {u : State} (hs : Sweeps fs c u.body)
    (hv : R.CMN_SWEEP_STATUS.valid.idx ∉ (fs ++ steerFields).map Field.idx) (hn : R.CMN_SWEEP_STATUS.sweep.idx ∉ (fs ++ steerFields).map Field.idx)
    (hd : R.CMN_SWEEP_STATUS.duration.idx ∉ (fs ++ steerFields).map Field.idx) : SweepEnded b dur (sweepValid b) u :=
  ⟨hs.sweeping.trans h.sweeping, (hs.flagF_eq (by decide) hv 0).trans h.valid, (hs.getF_eq (by decide) hn 0).trans h.sweep, (hs.getF_eq (by decide) hd 0).trans h.duration⟩

theorem sweepEnd_valid (ma : Int) (dur : Nat) (hs : s.body.cells.ring.sweeping = true) (hr : s.body.cells.ring.reading = none) (hv : sweepValid s.body = true) :
    RunsS (.sweepEnd ma dur) s (fun u => SweepEnded s.body dur true u ∧ flagF u.body R.CMN_SWEEP_STATUS.stale 0 = false
      ∧ ∀ i, i < 32 → getF u.body R.CMN_CELL_V.v_raw i = dataWord s.body (i / 8) (2 * (i % 8)) % 65536
        ∧ getF u.body R.CMN_CELL_V.v i = compensate (dataWord s.body (i / 8) (2 * (i % 8))) ma (getF s.body R.CMN_RCELL.r_uohm i)) := by
  have hnote := sweepNoted_notes dur s.body
  obtain ⟨n, hn⟩ : ∃ n, sweepNoted dur s.body = n := ⟨_, rfl⟩
  rw [hn] at hnote
  obtain ⟨hvolt, hcells⟩ := voltages_written ma n
  obtain ⟨w, hw⟩ : ∃ w, forEach (List.range 32) (voltageStep ma) n = w := ⟨_, rfl⟩
  rw [hw] at hvolt hcells
  have hread : Sweeps summaryFields w (writeReadings ma n) := by
    rw [writeReadings_eq, hw]
    exact (forEach_keeps (P := Sweeps summaryFields w) (fun k _ c hc => hc.trans (monitorStep_sweeps k c)) (.refl _ w)).trans (summarise_sweeps ma _)
  obtain ⟨r, hrd⟩ : ∃ r, setFlag (writeReadings ma n) R.CMN_SWEEP_STATUS.stale 0 false = r := ⟨_, rfl⟩
  have hstale : flagF r R.CMN_SWEEP_STATUS.stale 0 = false := by
    rw [← hrd]
    exact flagF_setFlag_same _ _ _ _ (by decide)
  have hset : Sweeps (R.CMN_SWEEP_STATUS.stale :: summaryFields) w r := by
    rw [← hrd]
    exact (hread.mono (by decide)).setF (by decide) (by decide) 0 _
  have hend : Sweeps judgeFields r (enumDue (sweepJudged r)) := (sweepJudged_sweeps r).trans ((enumDue_sweeps _).mono (by decide))
  obtain ⟨d, hd⟩ : ∃ d, enumDue (sweepJudged r) = d := ⟨_, rfl⟩
  rw [hd] at hend
  have hx : sweepEnd ma dur s.body = d := by
    rw [sweepEnd_eq hs hr, if_pos hv, hn, hrd, hd]
  have hfrom : Sweeps (R.CMN_CELL_V.v_raw :: R.CMN_CELL_V.v :: R.CMN_SWEEP_STATUS.stale :: (summaryFields ++ judgeFields)) n d :=
    (Sweeps.of_within hvolt (by decide) (congrArg (fun r => r.ring.sweeping) (hvolt.same (p := .cells) (by decide)))).trans ((hset.mono (by decide)).trans (hend.mono (by decide)))
  have hended := hnote.ended (u := { s with body := d }) hfrom (by decide) (by decide) (by decide)
  rw [hv] at hended
  refine runsS_of_lift (f := sweepEnd ma dur) rfl hx ⟨hended, (hend.flagF_eq (by decide) (by decide) 0).trans hstale, fun i hi => ?_⟩
  have hdata : dataWord n (i / 8) (2 * (i % 8)) = dataWord s.body (i / 8) (2 * (i % 8)) := by
    unfold dataWord dataByte
    rw [hnote.data]
  have hrcell : getF n R.CMN_RCELL.r_uohm i = getF s.body R.CMN_RCELL.r_uohm i := hnote.fields _ i (by decide) (by decide)
  have hkeep : ∀ f, f ∈ [R.CMN_CELL_V.v_raw, R.CMN_CELL_V.v] → getF d f i = getF w f i := fun f hf => by
    fin_cases hf <;> exact (hend.getF_eq (by decide) (by decide) i).trans (hset.getF_eq (by decide) (by decide) i)
  obtain ⟨hraw, hcomp⟩ := hcells i hi
  rw [hdata] at hraw hcomp
  rw [hrcell] at hcomp
  exact ⟨(hkeep _ (by decide)).trans hraw, (hkeep _ (by decide)).trans hcomp⟩

theorem sweepEnd_invalid (ma : Int) (dur : Nat) (hs : s.body.cells.ring.sweeping = true) (hr : s.body.cells.ring.reading = none) (hv : sweepValid s.body = false) :
    RunsS (.sweepEnd ma dur) s (fun u => SweepEnded s.body dur false u ∧ getF u.body R.CMN_BAL_MASK.mask 0 = 0
      ∧ ∀ i, getF u.body R.CMN_CELL_V.v i = getF s.body R.CMN_CELL_V.v i ∧ getF u.body R.CMN_CELL_V.v_raw i = getF s.body R.CMN_CELL_V.v_raw i) := by
  have hnote := sweepNoted_notes dur s.body
  obtain ⟨n, hn⟩ : ∃ n, sweepNoted dur s.body = n := ⟨_, rfl⟩
  rw [hn] at hnote
  obtain ⟨d, hd⟩ : ∃ d, enumDue (sendBalance 0 n) = d := ⟨_, rfl⟩
  have hend : Sweeps [] (setF n R.CMN_BAL_MASK.mask 0 0) d := by
    rw [← hd]
    exact (sendBalance_sweeps 0 n).trans (enumDue_sweeps _)
  have hx : sweepEnd ma dur s.body = d := by
    rw [sweepEnd_eq hs hr, if_neg (by rw [hv]; decide), hn, hd]
  have hfrom : Sweeps [R.CMN_BAL_MASK.mask] n d := ((Sweeps.refl _ n).setF (by decide) (by decide) 0 0).trans (hend.mono (by decide))
  have hended := hnote.ended (u := { s with body := d }) hfrom (by decide) (by decide) (by decide)
  rw [hv] at hended
  refine runsS_of_lift (f := sweepEnd ma dur) rfl hx ⟨hended, (hend.getF_eq (by decide) (by decide) 0).trans (getF_setF_fits (by decide)), fun i => ⟨?_, ?_⟩⟩
  · exact (hfrom.getF_eq (by decide) (by decide) i).trans (hnote.fields _ i (by decide) (by decide))
  · exact (hfrom.getF_eq (by decide) (by decide) i).trans (hnote.fields _ i (by decide) (by decide))

theorem sweepEnd_idle (ma : Int) (dur : Nat) (h : s.body.cells.ring.sweeping = false ∨ s.body.cells.ring.reading.isSome = true) :
    Runs (.sweepEnd ma dur) s [] (fun b => b = s.body) := by
  refine runs_same (f := sweepEnd ma dur) rfl (if_pos ?_)
  exact h.imp (fun h => by simp [h]) id

/-! ### ENUM (R478, R482) -/

theorem sendEnum_mode (b : Body) : ringMode (sendEnum b) = ringMode b := (ringSend_within _ _ _ _ _ _ b).getF_eq (by decide) (by decide) 0

theorem enumProbe_probes (hmode : 2 ≤ ringMode s.body) (hidle : s.body.cells.ring.sweeping = false) (hdue : 100 ≤ s.body.cells.ring.sinceProbe) :
    RunsS (.ringEnumProbe bs) s (fun u => u.body.cells.ring.sinceProbe = 0 ∧ ringMode u.body = if enumGood bs then 1 else ringMode s.body) := by
  obtain ⟨c, hc⟩ : ∃ c, sendEnum (updRing (fun r => { r with sinceProbe := 0 }) s.body) = c := ⟨_, rfl⟩
  have hsince : c.cells.ring.sinceProbe = 0 := by
    obtain ⟨a, o, hm⟩ := ringSend_master 0 "ENUM" 1 7 false [0, 0, 0, 0, 0] (updRing (fun r => { r with sinceProbe := 0 }) s.body)
    rw [← hc]
    exact (congrArg (fun r => r.ring.sinceProbe) hm).trans rfl
  have hcm : ringMode c = ringMode s.body := by
    rw [← hc]
    exact sendEnum_mode _
  have hx : enumProbe bs s.body = if enumGood bs then setRingMode 1 (setF c R.CMN_RING_STATUS.break_seg 0 7) else c := by
    rw [← hc]
    exact if_neg (by rw [hidle]; simp; omega)
  refine runsS_of_lift (f := enumProbe bs) rfl hx ?_
  cases enumGood bs with
  | true =>
    obtain ⟨hacts, hm⟩ := setRingMode_shows (m := 1) (by decide) (setF c R.CMN_RING_STATUS.break_seg 0 7)
    exact ⟨(congrArg (fun r => r.ring.sinceProbe) hacts.cells).trans hsince, hm⟩
  | false => exact ⟨hsince, hcm⟩

theorem enumProbe_idle (h : ringMode s.body < 2 ∨ s.body.cells.ring.sweeping = true ∨ s.body.cells.ring.sinceProbe < 100) :
    Runs (.ringEnumProbe bs) s [] (fun b => b = s.body) := runs_same (f := enumProbe bs) rfl (if_pos h)

/-- What the return of an ENUM shows where the ring is not split. -/
theorem enumBack_shows (bs : List Nat) (hmode : ringMode b ≤ 1) : (enumBack bs b).cells = b.cells ∧ ringMode (enumBack bs b) = (if enumGood bs then 1 else 2)
    ∧ (enumGood bs = true → flagF (enumBack bs b) R.CMN_RING_STATUS.addr_ok 0 = true) := by
  unfold enumBack
  cases enumGood bs with
  | true =>
    obtain ⟨c, hc⟩ : ∃ c, setFlag b R.CMN_RING_STATUS.addr_ok 0 true = c := ⟨_, rfl⟩
    have hcells : c.cells = b.cells := by
      rw [← hc]
      rfl
    have hok : flagF c R.CMN_RING_STATUS.addr_ok 0 = true := by
      rw [← hc]
      exact flagF_setFlag_same _ _ _ _ (by decide)
    have hm : ringMode c = ringMode b := by
      rw [← hc]
      exact getF_setFlag_other _ _ (by decide) (by decide) (by decide)
    simp only [if_true, hc, hm]
    obtain ⟨hacts, hone⟩ := setRingMode_shows (m := 1) (by decide) c
    split
    next => exact ⟨hacts.cells.trans hcells, hone, fun _ => (hacts.flagF_eq (by decide) (by decide) 0).trans hok⟩
    next h0 => exact ⟨hcells, hm.trans (by omega), fun _ => hok⟩
  | false =>
    obtain ⟨hacts, htwo⟩ := setRingMode_shows (m := 2) (by decide) b
    simp only [Bool.false_eq_true, if_false, hmode, if_true]
    exact ⟨hacts.cells, htwo, fun h => h.elim⟩

/-- The cell resistances of the configuration, written. -/
def resistances (b : Body) : Body := forEach (List.range 32) (fun i b => setF b R.CMN_RCELL.r_uohm i (Config.cellResistance i)) b

theorem resistances_written (b : Body) : Within [.regs] [R.CMN_RCELL.r_uohm] b (resistances b)
    ∧ ∀ i, i < 32 → getF (resistances b) R.CMN_RCELL.r_uohm i = Config.cellResistance i % 2 ^ R.CMN_RCELL.r_uohm.width := by
  refine ⟨forEach_within (fun i c => setF_within i _ c (by decide) (by decide) (by decide)) _ b, fun i hi => ?_⟩
  refine forEach_visits (P := fun _ => True) (Q := fun c => getF c R.CMN_RCELL.r_uohm i = Config.cellResistance i % 2 ^ R.CMN_RCELL.r_uohm.width) List.nodup_range
    (List.mem_range.2 hi) (fun _ _ _ _ => trivial) (fun c _ => getF_setF_same _ _ _ _) (fun j hj c hc => ?_) trivial
  rw [getF_setF_instance _ _ _ _ _ (Ne.symm hj)]
  exact hc

theorem cmnEnum_waits (hw : getF s.body R.COX_STATUS.writer 0 = 0) (hsweep : s.body.cells.ring.sweeping = true) : Runs (.cmnEnum .shepherdA bs) s [.cells, .regs] (fun b =>
    b.cells.ring.enumAsked = true ∧ ∀ i, i < 32 → getF b R.CMN_RCELL.r_uohm i = Config.cellResistance i % 2 ^ R.CMN_RCELL.r_uohm.width) := by
  obtain ⟨hwithin, hset⟩ := resistances_written s.body
  obtain ⟨c, hc⟩ : ∃ c, resistances s.body = c := ⟨_, rfl⟩
  rw [hc] at hwithin hset
  have hcells : c.cells = s.body.cells := hwithin.same (p := .cells) (by decide)
  have henum : enumWrite bs s.body = updRing (fun r => { r with enumAsked := true }) c := by
    rw [← hc]
    exact if_pos ((congrArg (fun r => r.ring.sweeping) ((resistances_written s.body).1.same (p := .cells) (by decide))).trans hsweep)
  have hx : ringWriter .shepherdA (enumWrite bs) s.body = updRing (fun r => { r with enumAsked := true }) c := (if_pos hw).trans henum
  refine runs_of_lift (f := ringWriter .shepherdA (enumWrite bs)) rfl hx ?_ ⟨rfl, fun i hi => hset i hi⟩
  exact (only_updRing _ (by decide)).2 (hwithin.only.mono (by decide))

theorem cmnEnum_goes (hw : getF s.body R.COX_STATUS.writer 0 = 0) (hidle : s.body.cells.ring.sweeping = false) (hmode : ringMode s.body = 0) :
    RunsS (.cmnEnum .shepherdA bs) s (fun u => u.body.cells.ring.enumRepeat = true ∧ ringMode u.body = (if enumGood bs then 1 else 2)
      ∧ (enumGood bs = true → flagF u.body R.CMN_RING_STATUS.addr_ok 0 = true)) := by
  obtain ⟨hwithin, -⟩ := resistances_written s.body
  obtain ⟨c, hc⟩ : ∃ c, sendEnum (updRing (fun r => { r with enumRepeat := true }) (resistances s.body)) = c := ⟨_, rfl⟩
  have hrep : c.cells.ring.enumRepeat = true := by
    obtain ⟨a, o, hm⟩ := ringSend_master 0 "ENUM" 1 7 false [0, 0, 0, 0, 0] (updRing (fun r => { r with enumRepeat := true }) (resistances s.body))
    rw [← hc]
    exact (congrArg (fun r => r.ring.enumRepeat) hm).trans rfl
  have hcm : ringMode c = 0 := by
    rw [← hc, sendEnum_mode]
    exact (hwithin.getF_eq (f := R.CMN_RING_STATUS.mode) (by decide) (by decide) 0).trans hmode
  have henum : enumWrite bs s.body = enumBack bs c := by
    rw [← hc]
    exact if_neg (by
      rw [show (forEach (List.range 32) (fun i b => setF b R.CMN_RCELL.r_uohm i (Config.cellResistance i)) s.body).cells = s.body.cells from hwithin.same (p := .cells) (by decide), hidle]
      decide)
  have hx : ringWriter .shepherdA (enumWrite bs) s.body = enumBack bs c := (if_pos hw).trans henum
  obtain ⟨hcells, hm, hok⟩ := enumBack_shows bs (b := c) (by omega)
  exact runsS_of_lift (f := ringWriter .shepherdA (enumWrite bs)) rfl hx ⟨(congrArg (fun r => r.ring.enumRepeat) hcells).trans hrep, hm, hok⟩

theorem cmnEnum_refused (hw : getF s.body R.COX_STATUS.writer 0 = 0) : Runs (.cmnEnum .shepherdB bs) s [] (fun b => b = s.body)
    ∧ Runs (.cmnEnum .hostBar0 bs) s [] (fun b => b = s.body) :=
  ⟨runs_same (f := ringWriter .shepherdB (enumWrite bs)) rfl (if_neg (by rw [hw]; decide)), runs_same (f := ringWriter .hostBar0 (enumWrite bs)) rfl rfl⟩

theorem enumAgain_repeats (hrep : s.body.cells.ring.enumRepeat = true) (hidle : s.body.cells.ring.sweeping = false) (hmode : ringMode s.body = 1) :
    RunsS (.enumRepeat bs) s (fun u => u.body.cells.ring.enumRepeat = false ∧ ringMode u.body = if enumGood bs then 1 else 2) := by
  obtain ⟨c, hc⟩ : ∃ c, sendEnum (updRing (fun r => { r with enumRepeat := false }) s.body) = c := ⟨_, rfl⟩
  have hdone : c.cells.ring.enumRepeat = false := by
    obtain ⟨a, o, hm⟩ := ringSend_master 0 "ENUM" 1 7 false [0, 0, 0, 0, 0] (updRing (fun r => { r with enumRepeat := false }) s.body)
    rw [← hc]
    exact (congrArg (fun r => r.ring.enumRepeat) hm).trans rfl
  have hcm : ringMode c = 1 := by
    rw [← hc, sendEnum_mode]
    exact hmode
  have hx : enumAgain bs s.body = enumBack bs c := by
    rw [← hc]
    exact if_pos ⟨hrep, by simp [hidle]⟩
  obtain ⟨hcells, hm, -⟩ := enumBack_shows bs (b := c) (by omega)
  exact runsS_of_lift (f := enumAgain bs) rfl hx ⟨(congrArg (fun r => r.ring.enumRepeat) hcells).trans hdone, hm⟩

theorem enumAgain_idle (h : s.body.cells.ring.enumRepeat = false) : Runs (.enumRepeat bs) s [] (fun b => b = s.body) :=
  runs_same (f := enumAgain bs) rfl (if_neg (by rw [h]; simp))

end Ring

/-- Settles O51: the ring master's frames leave all but their own counters; the end of a sweep is followed through the readings (`voltages_written`), the stop
lines and the trips, none of which touches what the sweep wrote. -/
theorem ringCommands : Obligations.RingCommands := by
  unfold Obligations.RingCommands
  intro k bs s hk
  refine ⟨?start, ?noStart, ?turn, ?noTurn, ?noRead, ?read, ?bad, ?data, ?alert, ?lost, ?notLost, ?noEnd, ?ends, ?stale, ?probe, ?noProbe, ?enum, ?again, ?noAgain⟩
  case start => exact sweepStart_starts
  case noStart => exact sweepStart_idle
  case turn => exact convertTimeout_turns
  case noTurn => exact convertTimeout_idle
  case noRead => exact readTimeout_idle
  case read => exact fun dir hread => ⟨readTimeout_again hk hread, readTimeout_breaks hk hread, readTimeout_other hk hread, readTimeout_next hk hread⟩
  case bad => exact badFrame_counts hk
  case data => exact fun f dir hf hnew htype hlen hread hok hplace => dataIn_takes hk hf hnew htype hlen hread hok hplace
  case alert => exact fun f hf hnew htype => alertIn_alerts hk hf hnew htype
  case lost => exact ringLost_trips
  case notLost => exact ringLost_idle
  case noEnd => exact sweepEnd_idle
  case ends => exact fun ma dur hs hr => ⟨sweepEnd_valid ma dur hs hr, sweepEnd_invalid ma dur hs hr⟩
  case stale =>
    have hshows := sweepStale_shows s.body
    obtain ⟨d, hd⟩ : ∃ d, sweepStale s.body = d := ⟨_, rfl⟩
    rw [hd] at hshows
    exact runsS_of_lift (f := sweepStale) rfl hd hshows
  case probe => exact enumProbe_probes
  case noProbe => exact enumProbe_idle
  case enum => exact fun hw => ⟨cmnEnum_waits hw, cmnEnum_goes hw, cmnEnum_refused hw⟩
  case again => exact enumAgain_repeats
  case noAgain => exact enumAgain_idle

end Sys2Proof.Machine

/-! Heartbeat, takeover, boot and handback of the Shepherds (O52). -/

namespace Sys2Proof.Machine

section Shepherds

variable {b c : Body} {s : State} {w : Nat}

/-! ### What the work of the Shepherds leaves -/

/-- Going from `b` to `c`, no field but those named changes, and the frames that wait for a Shepherd stay. -/
structure Tends (fs : List Field) (b c : Body) : Prop where
  fields : FieldsBut fs b c
  inbox : c.host.inbox = b.host.inbox

namespace Tends

variable {fs gs : List Field} {d : Body}

theorem refl (fs : List Field) (b : Body) : Tends fs b b := ⟨fun _ _ _ _ => rfl, rfl⟩

theorem trans (h : Tends fs b c) (k : Tends fs c d) : Tends fs b d := ⟨fun f j hf hn => (k.fields f j hf hn).trans (h.fields f j hf hn), k.inbox.trans h.inbox⟩

theorem mono (h : Tends fs b c) (hs : fs ⊆ gs) : Tends gs b c := ⟨fun f j hf hn => h.fields f j hf fun hm => hn (List.map_subset _ hs hm), h.inbox⟩

theorem ite {P : Prop} [Decidable P] (h : Tends fs b c) (k : Tends fs b d) : Tends fs b (if P then c else d) := by
  split <;> assumption

theorem of_within {ps : List Part} (h : Within ps gs b c) (hf : gs ⊆ fs) (hp : Part.host ∉ ps) : Tends fs b c :=
  ⟨(h.mono (List.Subset.refl _) hf).fields, congrArg HostSide.inbox (h.same (p := .host) hp)⟩

theorem setF (h : Tends fs b c) {f : Field} (hm : f ∈ fs) (hlt : f.idx < 1024) (i v : Nat) : Tends fs b (setF c f i v) :=
  ⟨fun g j hg hn => by
    rw [getF_setF_other _ _ hlt hg fun he => hn (he ▸ List.mem_map_of_mem hm)]
    exact h.fields g j hg hn, h.inbox⟩

theorem updHost (h : Tends fs b c) {f : HostSide → HostSide} (hf : ∀ x, (f x).inbox = x.inbox) : Tends fs b (updHost f c) := ⟨h.fields, (hf _).trans h.inbox⟩

theorem updSh (h : Tends fs b c) (w : Nat) (f : Shepherd → Shepherd) : Tends fs b (updSh w f c) :=
  h.updHost fun x => by
    split <;> rfl

theorem of_regs (h : Tends fs b c) (hr : d.regs = c.regs) (hi : d.host = c.host) : Tends fs b d :=
  ⟨fun f j hf hn => by
    rw [← h.fields f j hf hn]
    unfold getF
    rw [hr], (congrArg HostSide.inbox hi).trans h.inbox⟩

theorem forEach {α : Type} {f : α → Body → Body} (hf : ∀ x b, Tends fs b (f x b)) (l : List α) (b : Body) : Tends fs b (forEach l f b) :=
  forEach_keeps (P := Tends fs b) (fun x _ c hc => hc.trans (hf x c)) (.refl fs b)

theorem getF_eq (h : Tends fs b c) {f : Field} (hf : f.idx < 1024) (hn : f.idx ∉ fs.map Field.idx) (i : Nat) : getF c f i = getF b f i := h.fields f i hf hn

theorem flagF_eq (h : Tends fs b c) {f : Field} (hf : f.idx < 1024) (hn : f.idx ∉ fs.map Field.idx) (i : Nat) : flagF c f i = flagF b f i :=
  congrArg (· == 1) (h.fields f i hf hn)

end Tends

theorem raiseVec_tends (v : Nat) (b : Body) : Tends [R.IRQ_CAUSE.cause] b (raiseVec v b) := by
  refine ⟨(raiseVec_within v b).fields, ?_⟩
  obtain ⟨-, h⟩ | h | h := raiseVec_cases v b <;> rw [h]
  · rfl
  · unfold sendVector
    split <;> rfl

theorem logRec_tends (cls : Nat) (bs : List Byte) (b : Body) : Tends [] b (logRec cls bs b) := .of_within (logRec_within cls bs b) (List.nil_subset _) (by decide)

theorem shpRecord_tends (event cause us : Nat) (b : Body) : Tends [] b (shpRecord event cause us b) := logRec_tends _ _ b

theorem shpEvent_shows {f : Field} (hlt : f.idx < 1024) (hw : 1 ≤ f.width) (hi : f.idx ≠ R.IRQ_CAUSE.cause.idx) (b : Body) :
    Tends [f, R.IRQ_CAUSE.cause] b (shpEvent f b) ∧ flagF (shpEvent f b) f 0 = true := by
  have hset : Tends [f, R.IRQ_CAUSE.cause] b (setFlag b f 0 true) := (Tends.refl _ b).setF List.mem_cons_self hlt 0 _
  have hvec := raiseVec_tends 24 (setFlag b f 0 true)
  exact ⟨hset.trans (hvec.mono (by simp)), (hvec.flagF_eq hlt (by simpa using hi) 0).trans (flagF_setFlag_same _ _ _ _ hw)⟩

/-! ### The states of the Shepherds (R488) -/

/-- The fields of the Shepherds' states. -/
def stateFields : List Field := [R.SHP_STATUS.a_state, R.SHP_STATUS.b_state, R.SHP_STATUS.protected]

theorem shState_congr {fs : List Field} (h : FieldsBut fs b c) (ha : R.SHP_STATUS.a_state.idx ∉ fs.map Field.idx) (hb : R.SHP_STATUS.b_state.idx ∉ fs.map Field.idx) (w : Nat) :
    shState c w = shState b w := by
  unfold shState
  split
  · exact h _ 0 (by decide) ha
  · exact h _ 0 (by decide) hb

theorem setShState_within (w v : Nat) (b : Body) : Within [.regs] stateFields b (setShState w v b) := by
  unfold setShState
  split <;> constructor <;> simp (disch := decide) [stateFields]

theorem setShState_tends (w v : Nat) (b : Body) : Tends stateFields b (setShState w v b) := .of_within (setShState_within w v b) (List.Subset.refl _) (by decide)

theorem shState_setShState_same {v : Nat} (hv : v < 8) (w : Nat) (b : Body) : shState (setShState w v b) w = v := by
  unfold shState setShState
  split
  · rw [getF_setFlag_other _ _ (by decide) (by decide) (by decide)]
    exact getF_setF_fits hv
  · rw [getF_setFlag_other _ _ (by decide) (by decide) (by decide)]
    exact getF_setF_fits hv

theorem shState_setShState_other {n : Nat} (hw : w < 2) (hn : n < 2) (h : n ≠ w) (v : Nat) (b : Body) : shState (setShState w v b) n = shState b n := by
  have hcase : (w = 0 ∧ n = 1) ∨ (w = 1 ∧ n = 0) := by omega
  unfold shState setShState
  rcases hcase with ⟨rfl, rfl⟩ | ⟨rfl, rfl⟩
  · exact (getF_setFlag_other _ _ (by decide) (by decide) (by decide)).trans (getF_setF_other _ _ (by decide) (by decide) (by decide))
  · exact (getF_setFlag_other _ _ (by decide) (by decide) (by decide)).trans (getF_setF_other _ _ (by decide) (by decide) (by decide))

theorem shState_updSh (w n : Nat) (f : Shepherd → Shepherd) (b : Body) : shState (updSh w f b) n = shState b n := rfl

theorem shepherd_updSh_same (w : Nat) (f : Shepherd → Shepherd) (b : Body) : shepherd (updSh w f b) w = f (shepherd b w) := by
  unfold shepherd updSh updHost
  split <;> rfl

theorem shepherd_updSh_other {n : Nat} (hw : w < 2) (hn : n < 2) (h : n ≠ w) (f : Shepherd → Shepherd) (b : Body) : shepherd (updSh w f b) n = shepherd b n := by
  have hcase : (w = 0 ∧ n = 1) ∨ (w = 1 ∧ n = 0) := by omega
  rcases hcase with ⟨rfl, rfl⟩ | ⟨rfl, rfl⟩ <;> rfl

/-- A Shepherd is the writer of the module. -/
def IsWriter (n : Nat) (b : Body) : Prop := shState b n = 4 ∧ getF b R.SHP_STATUS.active 0 = n ∧ ∀ e, e < 20 → getF b R.COX_STATUS.writer e = n

theorem IsWriter.of_fields {fs : List Field} {n : Nat} (hw : IsWriter n b) (h : FieldsBut fs b c) (ha : R.SHP_STATUS.a_state.idx ∉ fs.map Field.idx)
    (hb : R.SHP_STATUS.b_state.idx ∉ fs.map Field.idx) (hact : R.SHP_STATUS.active.idx ∉ fs.map Field.idx) (hwr : R.COX_STATUS.writer.idx ∉ fs.map Field.idx) : IsWriter n c :=
  ⟨(shState_congr h ha hb n).trans hw.1, (h _ 0 (by decide) hact).trans hw.2.1, fun e he => (h _ e (by decide) hwr).trans (hw.2.2 e he)⟩

/-! ### A Shepherd becomes the writer (R487) -/

/-- The fields of what the image of a Shepherd shows. -/
def shownFields : List Field := [R.SHP_FW_SLOTS.running_slot, R.SHP_FW_SLOTS.other_valid, R.GBL_FW.slot, R.GBL_FW.build, R.GBL_FW.minor, R.GBL_FW.major]

theorem showFw_within (w : Nat) (b : Body) : Within [.regs] shownFields b (showFw w b) := by
  unfold showFw
  simp only []
  split <;> constructor <;> simp (disch := decide) [shownFields]

theorem swapFlash_tends (b : Body) : Tends logFields b (swapFlash b) :=
  ((Tends.refl logFields b).of_regs (d := updLog _ b) rfl rfl).trans (.of_within (showLog_within _) (List.Subset.refl _) (by decide))

/-- The fields that change when a Shepherd becomes the writer. -/
def writerFields : List Field := [R.SHP_STATUS.active, R.COX_STATUS.writer, R.SHP_STATUS.no_shepherd] ++ stateFields ++ shownFields ++ logFields

/-- What a Shepherd that becomes the writer shows. -/
structure MadeActive (n : Nat) (b c : Body) : Prop where
  tends : Tends writerFields b c
  writes : IsWriter n c
  other : shState c (1 - n) = shState b (1 - n)
  present : flagF c R.SHP_STATUS.no_shepherd 0 = false

theorem makeActive_shows {n : Nat} (hn : n < 2) (b : Body) : MadeActive n b (makeActive n b) := by
  obtain ⟨d, hd⟩ : ∃ d, (if getF b R.SHP_STATUS.active 0 = n then b else swapFlash b) = d := ⟨_, rfl⟩
  have hflash : Tends logFields b d := by
    rw [← hd]
    exact .ite (.refl _ b) (swapFlash_tends b)
  obtain ⟨e, he⟩ : ∃ e, setF (setShState n 4 d) R.SHP_STATUS.active 0 n = e := ⟨_, rfl⟩
  have hstate : Within [.regs] (R.SHP_STATUS.active :: stateFields) d e := by
    rw [← he]
    exact ((setShState_within n 4 d).mono (List.Subset.refl _) (by decide)).setF (by decide) (by decide) (by decide) _ _
  have hset : FieldsBut [R.SHP_STATUS.active] (setShState n 4 d) e := by
    rw [← he]
    exact (setF_within (ps := [.regs]) (fs := [R.SHP_STATUS.active]) 0 n _ (by decide) (by decide) (by decide)).fields
  have hact : getF e R.SHP_STATUS.active 0 = n := by
    rw [← he]
    exact getF_setF_fits hn
  obtain ⟨g, hg⟩ : ∃ g, forEach (List.range 20) (fun i b => setF b R.COX_STATUS.writer i n) e = g := ⟨_, rfl⟩
  have hwriters : Within [.regs] [R.COX_STATUS.writer] e g := by
    rw [← hg]
    exact forEach_within (fun i x => setF_within i _ x (by decide) (by decide) (by decide)) _ e
  have hwr : ∀ i, i < 20 → getF g R.COX_STATUS.writer i = n := fun i hi => by
    rw [← hg]
    refine forEach_visits (P := fun _ => True) (Q := fun x => getF x R.COX_STATUS.writer i = n) List.nodup_range (List.mem_range.2 hi) (fun _ _ _ _ => trivial)
      (fun x _ => getF_setF_fits hn) (fun j hj x hx => ?_) trivial
    rw [getF_setF_instance _ _ _ _ _ (Ne.symm hj)]
    exact hx
  obtain ⟨k, hk⟩ : ∃ k, setFlag g R.SHP_STATUS.no_shepherd 0 false = k := ⟨_, rfl⟩
  obtain ⟨h, hh⟩ : ∃ h, updHost (fun x => { x with noActiveSince := none }) k = h := ⟨_, rfl⟩
  have hpres : flagF h R.SHP_STATUS.no_shepherd 0 = false := by
    rw [← hh, flagF_updHost, ← hk]
    exact flagF_setFlag_same _ _ _ _ (by decide)
  have hlast : Tends [R.SHP_STATUS.no_shepherd] g h := by
    have hflag : Tends [R.SHP_STATUS.no_shepherd] g k := by
      rw [← hk]
      exact (Tends.refl _ g).setF (by decide) (by decide) 0 _
    rw [← hh]
    exact hflag.updHost fun _ => rfl
  have hshow := showFw_within n h
  have hx : makeActive n b = showFw n h := by
    unfold makeActive
    simp only [hd, he, hg, hk, hh]
  rw [hx]
  have htail : Tends ([R.COX_STATUS.writer, R.SHP_STATUS.no_shepherd] ++ shownFields) e (showFw n h) :=
    ((Tends.of_within hwriters (by decide) (by decide)).trans (hlast.mono (by decide))).trans (.of_within hshow (by decide) (by decide))
  refine ⟨?_, ⟨?_, ?_, fun i hi => ?_⟩, ?_, ?_⟩
  · exact (hflash.mono (by decide)).trans ((Tends.of_within hstate (by decide) (by decide)).trans (htail.mono (by decide)))
  · rw [shState_congr htail.fields (by decide) (by decide), shState_congr hset (by decide) (by decide)]
    exact shState_setShState_same (by decide) n d
  · rw [htail.getF_eq (by decide) (by decide), hact]
  · rw [hshow.getF_eq (by decide) (by decide), hlast.getF_eq (by decide) (by decide), hwr i hi]
  · rw [shState_congr htail.fields (by decide) (by decide), shState_congr hset (by decide) (by decide), shState_setShState_other hn (by omega) (by omega),
      shState_congr hflash.fields (by decide) (by decide)]
  · rw [hshow.flagF_eq (by decide) (by decide), hpres]

end Shepherds

end Sys2Proof.Machine

/-! A Shepherd that fails, and the takeover by its standby (R489 to R492). -/

namespace Sys2Proof.Machine

section Takeover

variable {b c : Body} {s : State} {w : Nat}

/-! ### The arbiter holds a failed Shepherd (R490, R492) -/

/-- The fields of a Shepherd that fails. -/
def failedFields : List Field := R.SHP_STATUS.handback_pending :: stateFields

theorem holdFailed_tends (w : Nat) (b : Body) : Tends failedFields b (holdFailed w b) := by
  obtain ⟨c, hc⟩ : ∃ c, setShState w 0 b = c := ⟨_, rfl⟩
  have hset : Tends failedFields b c := hc ▸ (setShState_tends w 0 b).mono (by decide)
  unfold holdFailed
  rw [hc]
  exact (hset.setF (f := R.SHP_STATUS.handback_pending) (by decide) (by decide) 0 _).updSh w _

theorem holdFailed_within (w : Nat) (b : Body) : Within [.regs, .host] failedFields b (holdFailed w b) := by
  obtain ⟨c, hc⟩ : ∃ c, setShState w 0 b = c := ⟨_, rfl⟩
  have hset : Within [.regs, .host] failedFields b c := hc ▸ (setShState_within w 0 b).mono (by decide) (by decide)
  unfold holdFailed
  rw [hc]
  refine hset.trans ?_
  unfold updSh
  constructor <;> simp (disch := decide) [failedFields]

theorem shState_holdFailed (w n : Nat) (b : Body) : shState (holdFailed w b) n = shState (setShState w 0 b) n := by
  unfold holdFailed
  rw [shState_updSh]
  exact shState_congr (fs := [R.SHP_STATUS.handback_pending]) ((Tends.refl _ _).setF List.mem_cons_self (by decide) 0 _).fields (by decide) (by decide) n

theorem shState_holdFailed_same (w : Nat) (b : Body) : shState (holdFailed w b) w = 0 :=
  (shState_holdFailed w w b).trans (shState_setShState_same (by decide) w b)

theorem shState_holdFailed_other (hw : w < 2) (b : Body) : shState (holdFailed w b) (1 - w) = shState b (1 - w) :=
  (shState_holdFailed w (1 - w) b).trans (shState_setShState_other hw (by omega) (by omega) 0 b)

/-! ### The journal after a takeover (R492) -/

/-- The fields of the answers that end the journal's entries. -/
def journalFields : List Field := [R.MBX_STATUS.state, R.MBX_TIME.last_us, R.IRQ_CAUSE.cause, R.SHP_EVENTS.journal_busy]

theorem emit_tends {fs : List Field} (h : Tends fs b c) (x : Sent) : Tends fs b (emit x c) := h.of_regs rfl rfl

theorem answer_tends (m st : Nat) (bs : List Byte) (b : Body) : Tends journalFields b (answer m st bs b) := by
  have hbox : ∀ f, Tends journalFields b (updMbx m f b) := fun _ => (Tends.refl _ b).updHost fun _ => rfl
  have hset : ∀ f i v us, Tends journalFields b (setF (setF (updMbx m f b) R.MBX_STATUS.state i v) R.MBX_TIME.last_us i us) := fun f i v us =>
    ((hbox f).setF (by decide) (by decide) i v).setF (by decide) (by decide) i us
  unfold answer
  split
  · exact .refl _ b
  · simp only []
    split
    · exact .ite (hset _ _ _ _) ((hset _ _ _ _).trans ((raiseVec_tends m _).mono (by decide)))
    · exact emit_tends (hset _ _ _ _) _

theorem resolveJournal_tends (b : Body) : Tends journalFields b (resolveJournal b) := by
  refine Tends.forEach (fun m c => ?_) _ b
  refine .ite ?_ (.refl _ c)
  exact (answer_tends m 1 _ c).trans ((shpEvent_shows (f := R.SHP_EVENTS.journal_busy) (by decide) (by decide) (by decide) _).1.mono (by decide))

/-! ### The takeover (R492) -/

theorem updHost_self {f : HostSide → HostSide} (h : f b.host = b.host) : updHost f b = b := by
  unfold updHost
  rw [h]

theorem drainInbox_of_empty (h : s.body.host.inbox = []) : drainInbox s = s := by
  have hself : onBody (updHost (fun h => { h with inbox := [] })) s = s := by
    unfold onBody
    rw [updHost_self (by rw [← h])]
  unfold drainInbox
  rw [h, hself]
  exact ite_self _

/-- What a takeover leaves of the last one, its count and its event (R492, R514). -/
def takenOver (cause us : Nat) (b : Body) : Body :=
  let b := setF (setF (setF b R.SHP_LAST_TAKEOVER.op_ms 0 (hourMs b)) R.SHP_LAST_TAKEOVER.cause 0 cause) R.SHP_LAST_TAKEOVER.takeover_us 0 (min us 65535)
  let b := addSat b R.SHP_COUNTS.takeovers 0 1
  let b := updLog (fun l => { l with queue := l.copied.filter (fun r => !(l.held.any (fun h => h.entry.seq == r.seq))) }) b
  shpEvent R.SHP_EVENTS.takeover (shpRecord 1 cause (min us 65535) (resolveJournal b))

/-- The fields of a takeover beside those of the Shepherds. -/
def takeoverFields : List Field :=
  [R.SHP_LAST_TAKEOVER.op_ms, R.SHP_LAST_TAKEOVER.cause, R.SHP_LAST_TAKEOVER.takeover_us, R.SHP_COUNTS.takeovers, R.SHP_EVENTS.takeover] ++ journalFields

/-- What the registers show of a takeover. -/
structure TookOver (cause us : Nat) (b c : Body) : Prop where
  tends : Tends takeoverFields b c
  cause : getF c R.SHP_LAST_TAKEOVER.cause 0 = cause
  us : getF c R.SHP_LAST_TAKEOVER.takeover_us 0 = min us 65535
  count : getF c R.SHP_COUNTS.takeovers 0 = min (getF b R.SHP_COUNTS.takeovers 0 + 1) (2 ^ R.SHP_COUNTS.takeovers.width - 1)
  event : flagF c R.SHP_EVENTS.takeover 0 = true

theorem takenOver_shows {cause : Nat} (hcause : cause < 256) (us : Nat) (b : Body) : TookOver cause us b (takenOver cause us b) := by
  obtain ⟨d, hd⟩ : ∃ d, setF (setF (setF b R.SHP_LAST_TAKEOVER.op_ms 0 (hourMs b)) R.SHP_LAST_TAKEOVER.cause 0 cause) R.SHP_LAST_TAKEOVER.takeover_us 0 (min us 65535) = d := ⟨_, rfl⟩
  have hset : Tends takeoverFields b d := by
    rw [← hd]
    exact (((Tends.refl _ b).setF (by decide) (by decide) 0 _).setF (by decide) (by decide) 0 _).setF (by decide) (by decide) 0 _
  have hdc : getF d R.SHP_LAST_TAKEOVER.cause 0 = cause := by
    rw [← hd, getF_setF_other _ _ (by decide) (by decide) (by decide)]
    exact getF_setF_fits hcause
  have hdu : getF d R.SHP_LAST_TAKEOVER.takeover_us 0 = min us 65535 := by
    rw [← hd]
    exact getF_setF_fits (by
      have : min us 65535 ≤ 65535 := Nat.min_le_right _ _
      show min us 65535 < 65536
      omega)
  have hdn : getF d R.SHP_COUNTS.takeovers 0 = getF b R.SHP_COUNTS.takeovers 0 := by
    rw [← hd, getF_setF_other _ _ (by decide) (by decide) (by decide), getF_setF_other _ _ (by decide) (by decide) (by decide), getF_setF_other _ _ (by decide) (by decide) (by decide)]
  obtain ⟨e, he⟩ : ∃ e, addSat d R.SHP_COUNTS.takeovers 0 1 = e := ⟨_, rfl⟩
  have hadd : Tends [R.SHP_COUNTS.takeovers] d e := by
    rw [← he]
    exact (Tends.refl _ d).setF List.mem_cons_self (by decide) 0 _
  have hen : getF e R.SHP_COUNTS.takeovers 0 = min (getF d R.SHP_COUNTS.takeovers 0 + 1) (2 ^ R.SHP_COUNTS.takeovers.width - 1) := by
    rw [← he]
    exact getF_addSat_same _ _ _ _
  obtain ⟨g, hg⟩ : ∃ g, shpRecord 1 cause (min us 65535) (resolveJournal
    (updLog (fun l => { l with queue := l.copied.filter (fun r => !(l.held.any (fun h => h.entry.seq == r.seq))) }) e)) = g := ⟨_, rfl⟩
  have hjournal : Tends journalFields e g := by
    rw [← hg]
    exact (((Tends.refl journalFields e).of_regs (d := updLog _ e) rfl rfl).trans (resolveJournal_tends _)).trans ((shpRecord_tends _ _ _ _).mono (List.nil_subset _))
  obtain ⟨hevent, hshown⟩ := shpEvent_shows (f := R.SHP_EVENTS.takeover) (by decide) (by decide) (by decide) g
  have hx : takenOver cause us b = shpEvent R.SHP_EVENTS.takeover g := by
    unfold takenOver
    simp only [hd, he, hg]
  rw [hx]
  have hlate : Tends (R.SHP_EVENTS.takeover :: journalFields) e (shpEvent R.SHP_EVENTS.takeover g) := (hjournal.mono (by decide)).trans (hevent.mono (by decide))
  refine ⟨hset.trans ((hadd.mono (by decide)).trans (hlate.mono (by decide))), ?_, ?_, ?_, hshown⟩
  · rw [hlate.getF_eq (by decide) (by decide), hadd.getF_eq (by decide) (by decide), hdc]
  · rw [hlate.getF_eq (by decide) (by decide), hadd.getF_eq (by decide) (by decide), hdu]
  · rw [hlate.getF_eq (by decide) (by decide), hen, hdn]

theorem takeover_of_none (cause us : Nat) (h : activeSh s.body = none) : takeover cause us s = s := by
  unfold takeover
  rw [h]

theorem takeover_alone (cause us : Nat) (hw : w < 2) (h : activeSh s.body = some w) (ho : shState s.body (1 - w) ≠ 3) :
    takeover cause us s = { s with body := updHost (fun h => { h with noActiveSince := some s.body.now }) (holdFailed w s.body) } := by
  obtain ⟨d, hd⟩ : ∃ d, holdFailed w s.body = d := ⟨_, rfl⟩
  have hod : shState d (1 - w) ≠ 3 := by rwa [← hd, shState_holdFailed_other hw]
  have hnow : d.now = s.body.now := hd ▸ (holdFailed_within w s.body).same (p := .now) (by decide)
  unfold takeover
  rw [h]
  simp only [hd, hnow]
  exact if_pos hod

theorem takeover_standby (cause us : Nat) (hw : w < 2) (h : activeSh s.body = some w) (ho : shState s.body (1 - w) = 3) :
    takeover cause us s = drainInbox { s with body := takenOver cause us (makeActive (1 - w) (holdFailed w s.body)) } := by
  obtain ⟨d, hd⟩ : ∃ d, holdFailed w s.body = d := ⟨_, rfl⟩
  have hod : shState d (1 - w) = 3 := by rwa [← hd, shState_holdFailed_other hw]
  unfold takeover
  rw [h]
  simp only [hd]
  exact if_neg (not_not.2 hod)

theorem takeover_alone_shows {q : Instr} {cause us : Nat} (hw : w < 2) (hq : exec q s = .next (takeover cause us s)) (h : activeSh s.body = some w)
    (ho : shState s.body (1 - w) ≠ 3) :
    Runs q s [.regs, .host] (fun b => shState b w = 0 ∧ shState b (1 - w) = shState s.body (1 - w) ∧ b.host.noActiveSince = some s.body.now) := by
  have hsame := shState_holdFailed_same w s.body
  have hother := shState_holdFailed_other hw s.body
  have honly := (holdFailed_within w s.body).only
  have hx := takeover_alone cause us hw h ho
  generalize holdFailed w s.body = d at hsame hother honly hx
  exact runs_of_next hq hx (honly.trans (by simp (disch := decide))) ⟨hsame, hother, rfl⟩

theorem takeover_standby_shows {q : Instr} {cause us : Nat} (hw : w < 2) (hcause : cause < 256) (hq : exec q s = .next (takeover cause us s))
    (h : activeSh s.body = some w) (ho : shState s.body (1 - w) = 3) (hin : s.body.host.inbox = []) :
    RunsS q s (fun u => shState u.body w = 0 ∧ IsWriter (1 - w) u.body ∧ getF u.body R.SHP_LAST_TAKEOVER.cause 0 = cause
      ∧ getF u.body R.SHP_LAST_TAKEOVER.takeover_us 0 = min us 65535
      ∧ getF u.body R.SHP_COUNTS.takeovers 0 = min (getF s.body R.SHP_COUNTS.takeovers 0 + 1) (2 ^ R.SHP_COUNTS.takeovers.width - 1)
      ∧ flagF u.body R.SHP_EVENTS.takeover 0 = true) := by
  obtain ⟨d, hd⟩ : ∃ d, holdFailed w s.body = d := ⟨_, rfl⟩
  have hheld : Tends failedFields s.body d := hd ▸ holdFailed_tends w s.body
  obtain ⟨e, he⟩ : ∃ e, makeActive (1 - w) d = e := ⟨_, rfl⟩
  have hmade : MadeActive (1 - w) d e := he ▸ makeActive_shows (by omega) d
  obtain ⟨g, hg⟩ : ∃ g, takenOver cause us e = g := ⟨_, rfl⟩
  have htook : TookOver cause us e g := hg ▸ takenOver_shows hcause us e
  have hempty : g.host.inbox = [] := ((htook.tends.inbox.trans hmade.tends.inbox).trans hheld.inbox).trans hin
  have hback : 1 - (1 - w) = w := by omega
  have hother := hmade.other
  rw [hback] at hother
  have hx : takeover cause us s = { s with body := g } := by
    rw [takeover_standby cause us hw h ho, hd, he, hg]
    exact drainInbox_of_empty hempty
  refine runsS_of_next hq hx rfl ⟨?_, ?_, htook.cause, htook.us, ?_, htook.event⟩
  · show shState g w = 0
    rw [shState_congr htook.tends.fields (by decide) (by decide), hother, ← hd]
    exact shState_holdFailed_same w s.body
  · exact hmade.writes.of_fields htook.tends.fields (by decide) (by decide) (by decide) (by decide)
  · show getF g _ 0 = _
    rw [htook.count, hmade.tends.getF_eq (by decide) (by decide), hheld.getF_eq (by decide) (by decide)]

end Takeover

end Sys2Proof.Machine

/-! Heartbeats, restarts, self-test, boot and handback of a Shepherd (R489 to R497, R574, R649). -/

namespace Sys2Proof.Machine

section Course

variable {b c : Body} {s : State} {w : Nat}

/-! ### Heartbeats (R489, R490) -/

theorem heartbeat_ignored (n : Nat) (h : (shState s.body w ≠ 3 ∧ shState s.body w ≠ 4) ∨ (shepherd s.body w).halted = true) : heartbeat w n s = s := if_pos h

theorem heartbeat_noted {n : Nat} (hst : shState s.body w = 3) (hh : (shepherd s.body w).halted = false)
    (hbeat : (shepherd s.body w).beat = none ∨ ∃ x, (shepherd s.body w).beat = some x ∧ aliveCheck 16 x (n % 65536) = .inOrder) :
    heartbeat w n s = { s with body := updSh w (fun x => { x with beat := some (n % 65536), lastBeat := s.body.now }) s.body } := by
  unfold heartbeat
  rw [if_neg (by simp [hst, hh])]
  obtain h | ⟨x, h, hx⟩ := hbeat
  · simp [hst, h]
  · simp [hst, h, hx]

theorem heartbeat_repeated {n x : Nat} (hst : shState s.body w = 3) (hh : (shepherd s.body w).halted = false) (hbeat : (shepherd s.body w).beat = some x)
    (hx : aliveCheck 16 x (n % 65536) = .repeated) : heartbeat w n s = { s with body := holdFailed w s.body } := by
  unfold heartbeat
  rw [if_neg (by simp [hst, hh])]
  simp [hst, hbeat, hx]

theorem heartbeat_noted_shows {n : Nat} (hw : w < 2) (hst : shState s.body w = 3) (hh : (shepherd s.body w).halted = false)
    (hbeat : (shepherd s.body w).beat = none ∨ ∃ x, (shepherd s.body w).beat = some x ∧ aliveCheck 16 x (n % 65536) = .inOrder) :
    Runs (.shepherdHeartbeat w n) s [.host] (fun b => shepherd b w = { shepherd s.body w with beat := some (n % 65536), lastBeat := s.body.now }
      ∧ shepherd b (1 - w) = shepherd s.body (1 - w)) :=
  runs_of_next (next_of_onUnitS (by simpa [isShepherd] using hw)) (heartbeat_noted hst hh hbeat) (by
    unfold updSh
    simp (disch := decide)) ⟨shepherd_updSh_same _ _ _, shepherd_updSh_other hw (by omega) (by omega) _ _⟩

theorem heartbeat_repeated_shows {n x : Nat} (hw : w < 2) (hst : shState s.body w = 3) (hh : (shepherd s.body w).halted = false)
    (hbeat : (shepherd s.body w).beat = some x) (hx : aliveCheck 16 x (n % 65536) = .repeated) :
    Runs (.shepherdHeartbeat w n) s [.host, .regs] (fun b => shState b w = 0 ∧ shState b (1 - w) = shState s.body (1 - w)) :=
  runs_of_next (next_of_onUnitS (by simpa [isShepherd] using hw)) (heartbeat_repeated hst hh hbeat hx) ((holdFailed_within w s.body).only.mono (by decide))
    ⟨shState_holdFailed_same w _, shState_holdFailed_other hw _⟩

theorem stateRecord_none (h : activeSh b = none) : stateRecord b = b := by
  unfold stateRecord
  rw [h]

theorem stateRecord_standby (h : activeSh b = some w) (ho : shState b (1 - w) = 3) :
    stateRecord b = updLog (fun l => { l with copied := l.queue }) (updSh (1 - w) (fun x => { x with unacked := 0 }) b) := by
  unfold stateRecord
  rw [h]
  exact if_pos ho

theorem stateRecord_shows (h : activeSh s.body = some w) (ho : shState s.body (1 - w) = 3) :
    Runs .stateRecord s [.host, .logbook] (fun b => (shepherd b (1 - w)).unacked = 0 ∧ b.logbook = { s.body.logbook with copied := s.body.logbook.queue }) := by
  refine runs_of_lift (f := stateRecord) rfl (stateRecord_standby h ho) ?_ ⟨?_, rfl⟩
  · unfold updSh
    simp (disch := decide)
  · exact congrArg Shepherd.unacked (shepherd_updSh_same (1 - w) (fun x => { x with unacked := 0 }) s.body)

/-! ### Restarts (R494) -/

theorem restartShepherd_again {x : Body} (h : (shepherd x w).failures ≠ []) (hst : shState x w = 0) (hheld : x.cox.path.heldReset = false)
    (hlen : (shepherd x w).failures.length < 3) : restartShepherd w x = startRestart w x := by
  unfold restartShepherd
  rw [if_neg (by simp [h, hst, hheld]), if_neg (by omega)]

theorem failEvent_within (w : Nat) (b : Body) :
    Within [.logbook, .regs, .host, .sent] [R.IRQ_CAUSE.cause, R.SHP_EVENTS.a_failed, R.SHP_EVENTS.b_failed] b
      (shpEvent (if w = 0 then R.SHP_EVENTS.a_failed else R.SHP_EVENTS.b_failed) b) := by
  unfold shpEvent
  refine Within.trans ?_ ((raiseVec_within 24 _).mono (by decide) (by decide))
  split <;> constructor <;> simp (disch := decide)

theorem failNoted_within (w n : Nat) (b : Body) :
    Within [.logbook, .regs, .host, .sent] [R.IRQ_CAUSE.cause, R.SHP_EVENTS.a_failed, R.SHP_EVENTS.b_failed] b
      (shpRecord n 0 0 (shpEvent (if w = 0 then R.SHP_EVENTS.a_failed else R.SHP_EVENTS.b_failed) b)) :=
  (failEvent_within w b).trans ((logRec_within _ _ _).mono (by decide) (by decide))

theorem startRestart_shows (w : Nat) (b : Body) : shState (startRestart w b) w = 5
    ∧ getF (startRestart w b) R.SHP_COUNTS.restarts 0 = min (getF b R.SHP_COUNTS.restarts 0 + 1) (2 ^ R.SHP_COUNTS.restarts.width - 1) := by
  obtain ⟨c, hc⟩ : ∃ c, setShState w 5 (updSh w (fun x => { x with halted := false }) b) = c := ⟨_, rfl⟩
  have hset : Tends stateFields b c := hc ▸ ((Tends.refl _ b).updSh w _).trans (setShState_tends w 5 _)
  have hst : shState c w = 5 := hc ▸ shState_setShState_same (by decide) w _
  obtain ⟨d, hd⟩ : ∃ d, addSat c R.SHP_COUNTS.restarts 0 1 = d := ⟨_, rfl⟩
  have hadd : Tends [R.SHP_COUNTS.restarts] c d := hd ▸ (Tends.refl _ c).setF List.mem_cons_self (by decide) 0 _
  have hcount : getF d R.SHP_COUNTS.restarts 0 = min (getF c R.SHP_COUNTS.restarts 0 + 1) (2 ^ R.SHP_COUNTS.restarts.width - 1) := by
    rw [← hd]
    exact getF_addSat_same _ _ _ _
  have hnoted := failNoted_within w 3 d
  unfold startRestart
  simp only [hc, hd]
  constructor
  · rw [shState_congr hnoted.fields (by decide) (by decide), shState_congr hadd.fields (by decide) (by decide), hst]
  · rw [hnoted.getF_eq (by decide) (by decide), hcount, hset.getF_eq (by decide) (by decide)]

theorem restart_ignored (h : shState s.body w ≠ 0 ∨ (shepherd s.body w).failures = []) : restartShepherd w s.body = s.body :=
  if_pos (h.imp_right fun h => .inl (by rw [h]; rfl))

theorem restart_again_shows (hw : w < 2) (hst : shState s.body w = 0) (h : (shepherd s.body w).failures ≠ []) (hheld : s.body.cox.path.heldReset = false)
    (hlen : (shepherd s.body w).failures.length < 3) :
    Runs (.shepherdRestart w) s [.regs, .host, .logbook, .sent] (fun b => shState b w = 5
      ∧ getF b R.SHP_COUNTS.restarts 0 = min (getF s.body R.SHP_COUNTS.restarts 0 + 1) (2 ^ R.SHP_COUNTS.restarts.width - 1)) :=
  runs_of_lift (f := restartShepherd w) (lift_of_onUnit (by simpa [isShepherd] using hw)) (restartShepherd_again h hst hheld hlen)
    ((startRestart_within w s.body).only.mono (by decide)) (startRestart_shows w s.body)

theorem restart_third_shows (hw : w < 2) (hst : shState s.body w = 0) (h : (shepherd s.body w).failures ≠ []) (hheld : s.body.cox.path.heldReset = false)
    (hlen : 3 ≤ (shepherd s.body w).failures.length) :
    Runs (.shepherdRestart w) s [.regs, .host, .logbook, .sent] (fun b => shState b w = 6) := by
  obtain ⟨c, hc⟩ : ∃ c, setShState w 6 s.body = c := ⟨_, rfl⟩
  have hset : Within [.regs, .host, .logbook, .sent] stateFields s.body c := hc ▸ (setShState_within w 6 s.body).mono (by decide) (List.Subset.refl _)
  have hsix : shState c w = 6 := hc ▸ shState_setShState_same (by decide) w _
  have hnoted := failNoted_within w 4 c
  refine runs_of_lift (f := restartShepherd w) (lift_of_onUnit (by simpa [isShepherd] using hw)) (?_ : _ = shpRecord 4 0 0 (shpEvent _ c))
    (hset.only.trans (hnoted.only.mono (by decide))) ?_
  · unfold restartShepherd
    rw [if_neg (by simp [h, hst, hheld]), if_pos hlen, hc]
  · rw [shState_congr hnoted.fields (by decide) (by decide), hsix]

/-! ### The self-test (R494, R495, R649) -/

theorem noteTrial_tends (b : Body) : Tends [] b (noteTrial b) := .ite ((Tends.refl _ b).of_regs (d := updTrust _ b) rfl rfl) (.refl _ b)

theorem noteBoot_tends (b : Body) : Tends [R.SHP_STARTUP.done] b (noteBoot b) :=
  .ite (.refl _ b) (.ite ((Tends.refl _ b).setF List.mem_cons_self (by decide) 0 _) (.refl _ b))

/-- The fields of a Shepherd that enters standby. -/
def standbyFields : List Field := R.LGB_STATUS.mirror_behind :: stateFields

theorem enterStandby_tends (w : Nat) (b : Body) : Tends standbyFields b (enterStandby w b) := by
  obtain ⟨c, hc⟩ : ∃ c, setShState w 3 b = c := ⟨_, rfl⟩
  have hset : Tends standbyFields b c := hc ▸ (setShState_tends w 3 b).mono (by decide)
  unfold enterStandby
  rw [hc]
  have hsh : ∀ f, Tends standbyFields b (updSh w f c) := hset.updSh w
  exact .ite (hsh _) ((hsh _).setF (by decide) (by decide) 0 _)

theorem shState_enterStandby (w n : Nat) (b : Body) : shState (enterStandby w b) n = shState (setShState w 3 b) n := by
  obtain ⟨c, hc⟩ : ∃ c, setShState w 3 b = c := ⟨_, rfl⟩
  unfold enterStandby
  rw [hc]
  have hsh : ∀ f, Tends [R.LGB_STATUS.mirror_behind] c (updSh w f c) := (Tends.refl _ c).updSh w
  exact shState_congr (Tends.ite (hsh _) ((hsh _).setF List.mem_cons_self (by decide) 0 _)).fields (by decide) (by decide) n

theorem shState_enterStandby_same (w : Nat) (b : Body) : shState (enterStandby w b) w = 3 :=
  (shState_enterStandby w w b).trans (shState_setShState_same (by decide) w b)

theorem shState_enterStandby_other (hw : w < 2) (b : Body) : shState (enterStandby w b) (1 - w) = shState b (1 - w) :=
  (shState_enterStandby w (1 - w) b).trans (shState_setShState_other hw (by omega) (by omega) 3 b)

theorem settled_tends (b : Body) : Tends [R.SHP_STARTUP.done] b (noteTrial (noteBoot b)) :=
  (noteBoot_tends b).trans ((noteTrial_tends _).mono (List.nil_subset _))

theorem selfTestPass_ignored (h2 : shState s.body w ≠ 2) (h5 : shState s.body w ≠ 5) : selfTestPass w s = s := if_pos ⟨h2, h5⟩

theorem selfTestPass_standby_shows (hw : w < 2) (hst : shState s.body w = 2 ∨ shState s.body w = 5) (hin : s.body.host.inbox = []) (ho : shState s.body (1 - w) = 4) :
    RunsS (.shepherdSelfTestPass w) s (fun u => shState u.body w = 3 ∧ shState u.body (1 - w) = 4) := by
  obtain ⟨d, hd⟩ : ∃ d, enterStandby w s.body = d := ⟨_, rfl⟩
  have hstand : Tends standbyFields s.body d := hd ▸ enterStandby_tends w s.body
  have hthree : shState d w = 3 := hd ▸ shState_enterStandby_same w s.body
  have hfour : shState d (1 - w) = 4 := by rw [← hd, shState_enterStandby_other hw, ho]
  have hset := settled_tends d
  have hx : selfTestPass w s = { s with body := noteTrial (noteBoot d) } := by
    unfold selfTestPass
    rw [if_neg (by omega)]
    simp only [if_pos ho, hd]
    exact drainInbox_of_empty (hset.inbox.trans (hstand.inbox.trans hin))
  refine runsS_of_next (next_of_onUnitS (by simpa [isShepherd] using hw)) hx rfl ⟨?_, ?_⟩
  · exact (shState_congr hset.fields (by decide) (by decide) w).trans hthree
  · exact (shState_congr hset.fields (by decide) (by decide) _).trans hfour

theorem selfTestPass_writer_shows (hw : w < 2) (hst : shState s.body w = 2 ∨ shState s.body w = 5) (hin : s.body.host.inbox = [])
    (ho : shState s.body (1 - w) = 0 ∨ shState s.body (1 - w) = 5 ∨ shState s.body (1 - w) = 6) :
    RunsS (.shepherdSelfTestPass w) s (fun u => IsWriter w u.body ∧ flagF u.body R.SHP_STATUS.no_shepherd 0 = false) := by
  obtain ⟨us, hus⟩ : ∃ us, min ((s.body.now - s.body.host.noActiveSince.getD s.body.now) / 1000) 65535 = us := ⟨_, rfl⟩
  obtain ⟨k, hk⟩ : ∃ k, setF (setF (setF s.body R.SHP_LAST_TAKEOVER.op_ms 0 (hourMs s.body)) R.SHP_LAST_TAKEOVER.cause 0 4) R.SHP_LAST_TAKEOVER.takeover_us 0 us = k := ⟨_, rfl⟩
  have hkept : k.host.inbox = [] := by rw [← hk]; exact hin
  obtain ⟨d, hd⟩ : ∃ d, (if s.body.host.noActiveSince.isSome then k else s.body) = d := ⟨_, rfl⟩
  have hdin : d.host.inbox = [] := by
    rw [← hd]
    split
    · exact hkept
    · exact hin
  obtain ⟨e, he⟩ : ∃ e, updSh w (fun x => { x with beat := none, lastBeat := d.now }) d = e := ⟨_, rfl⟩
  have hein : e.host.inbox = [] := by
    rw [← he]
    exact (((Tends.refl [] d).updSh w _).inbox).trans hdin
  obtain ⟨g, hg⟩ : ∃ g, makeActive w e = g := ⟨_, rfl⟩
  have hmade : MadeActive w e g := hg ▸ makeActive_shows hw e
  have hset := settled_tends g
  have hx : selfTestPass w s = { s with body := noteTrial (noteBoot g) } := by
    unfold selfTestPass
    rw [if_neg (by omega)]
    simp only [if_neg (show shState s.body (1 - w) ≠ 4 by omega)]
    rw [if_neg (by omega)]
    simp only [hus, hk, hd, he, hg]
    exact drainInbox_of_empty (hset.inbox.trans (hmade.tends.inbox.trans hein))
  refine runsS_of_next (next_of_onUnitS (by simpa [isShepherd] using hw)) hx rfl ⟨?_, ?_⟩
  · exact hmade.writes.of_fields hset.fields (by decide) (by decide) (by decide) (by decide)
  · exact (hset.flagF_eq (by decide) (by decide) 0).trans hmade.present

end Course

end Sys2Proof.Machine

/-! Boot, handback and frames of the Shepherds (R495 to R499, R574), and the obligation about them (O52). -/

namespace Sys2Proof.Machine

section Boot

variable {b c : Body} {s : State} {w : Nat}

theorem runs_stays {q : Instr} {t : State} (hx : exec q s = .next t) (ht : t = s) : Runs q s [] (fun b => b = s.body) :=
  runs_of_next hx ht (Only.refl [] s.body) rfl

/-! ### The boot ROM (R574, R576) -/

/-- What the boot ROM notes when the slot of the boot record fails: its event, its record and the end of the trial. -/
def bootFallback (n fail : Nat) (b : Body) : Body :=
  let b := logRec 2 [BitVec.ofNat 8 n, BitVec.ofNat 8 fail] (fwEvent 5 n b)
  updTrust (fun t => { t with trialSince := none, nextTrial := false, deferred := false }) (setFlag b R.SHP_FW_SLOTS.trial 0 false)

theorem fwEvent_tends (event slot : Nat) (b : Body) : Tends [R.IRQ_CAUSE.cause] b (fwEvent event slot b) :=
  ((logRec_tends _ _ b).mono (List.nil_subset _)).trans (raiseVec_tends 29 _)

theorem bootFallback_shows (n fail : Nat) (b : Body) : Tends [R.SHP_FW_SLOTS.trial, R.IRQ_CAUSE.cause] b (bootFallback n fail b)
    ∧ trialOn (bootFallback n fail b) = false := by
  obtain ⟨c, hc⟩ : ∃ c, logRec 2 [BitVec.ofNat 8 n, BitVec.ofNat 8 fail] (fwEvent 5 n b) = c := ⟨_, rfl⟩
  have hlog : Tends [R.SHP_FW_SLOTS.trial, R.IRQ_CAUSE.cause] b c :=
    hc ▸ ((fwEvent_tends 5 n b).mono (by decide)).trans ((logRec_tends _ _ _).mono (List.nil_subset _))
  obtain ⟨d, hd⟩ : ∃ d, setFlag c R.SHP_FW_SLOTS.trial 0 false = d := ⟨_, rfl⟩
  have hset : Tends [R.SHP_FW_SLOTS.trial, R.IRQ_CAUSE.cause] b d := hd ▸ hlog.setF List.mem_cons_self (by decide) 0 _
  have hoff : flagF d R.SHP_FW_SLOTS.trial 0 = false := hd ▸ flagF_setFlag_same c _ 0 false (by decide)
  unfold bootFallback
  simp only [hc, hd]
  exact ⟨hset.of_regs rfl rfl, hoff⟩

theorem shepherdBoot_ignored (fa fb : Nat) (h1 : shState s.body w ≠ 1) (h5 : shState s.body w ≠ 5) : shepherdBoot w fa fb s = s := if_pos ⟨h1, h5⟩

theorem shepherdBoot_runs_shows (hw : w < 2) (hst : shState s.body w = 1 ∨ shState s.body w = 5) (himage : (slotImage s.body (bootSlot s.body)).isSome = true) :
    Runs (.shepherdBoot w 0 0) s [.host, .regs] (fun b => (shepherd b w).slot = bootSlot s.body ∧ shState b w = if shState s.body w = 1 then 2 else 5) := by
  obtain ⟨c, hc⟩ : ∃ c, updSh w (fun x => { x with slot := bootSlot s.body }) s.body = c := ⟨_, rfl⟩
  have hslot : shepherd c w = { shepherd s.body w with slot := bootSlot s.body } := hc ▸ shepherd_updSh_same _ _ _
  have hstc : shState c w = shState s.body w := hc ▸ shState_updSh _ _ _ _
  have hsh : Only [.host, .regs] s.body c := by
    rw [← hc]
    unfold updSh
    simp (disch := decide)
  have hset := setShState_within w 2 c
  have hx : shepherdBoot w 0 0 s = { s with body := if shState c w = 1 then setShState w 2 c else c } := by
    have hgood : (slotImage s.body (bootSlot s.body)).isNone = false := by
      cases h : slotImage s.body (bootSlot s.body)
      · rw [h] at himage
        cases himage
      · rfl
    unfold shepherdBoot
    rw [if_neg (by omega)]
    simp only [hc]
    rw [if_pos (by simp [hgood])]
  refine runs_of_next (next_of_onUnitS (by simpa [isShepherd] using hw)) hx ?_ ?_
  · split
    · exact hsh.trans (hset.only.mono (by decide))
    · exact hsh
  · rw [← hstc]
    split
    next h =>
      refine ⟨?_, shState_setShState_same (by decide) w c⟩
      have hhost : (setShState w 2 c).host = c.host := hset.same (p := .host) (by decide)
      unfold shepherd at hslot ⊢
      rw [hhost, hslot]
    next h => exact ⟨congrArg Shepherd.slot hslot, by omega⟩

theorem shepherdBoot_fails_shows {fa fb : Nat} (hw : w < 2) (hst : shState s.body w = 1 ∨ shState s.body w = 5) (hfa : fa ≠ 0) (hfb : fb ≠ 0)
    (hin : s.body.host.inbox = []) : RunsS (.shepherdBoot w fa fb) s (fun u => shState u.body w = 6 ∧ trialOn u.body = false) := by
  obtain ⟨c, hc⟩ : ∃ c, bootFallback (bootSlot s.body) (if bootSlot s.body = 0 then fa else fb) s.body = c := ⟨_, rfl⟩
  obtain ⟨hback, hoff⟩ := bootFallback_shows (bootSlot s.body) (if bootSlot s.body = 0 then fa else fb) s.body
  rw [hc] at hback hoff
  obtain ⟨d, hd⟩ : ∃ d, setShState w 6 c = d := ⟨_, rfl⟩
  have hset : Tends stateFields c d := hd ▸ setShState_tends w 6 c
  have hsix : shState d w = 6 := hd ▸ shState_setShState_same (by decide) w c
  obtain ⟨e, he⟩ : ∃ e, shpRecord 4 0 0 (shpEvent (if w = 0 then R.SHP_EVENTS.a_failed else R.SHP_EVENTS.b_failed) d) = e := ⟨_, rfl⟩
  have hnoted : Tends [R.IRQ_CAUSE.cause, R.SHP_EVENTS.a_failed, R.SHP_EVENTS.b_failed] d e := by
    rw [← he]
    refine Tends.trans ?_ ((shpRecord_tends 4 0 0 _).mono (List.nil_subset _))
    split
    · exact (shpEvent_shows (f := R.SHP_EVENTS.a_failed) (by decide) (by decide) (by decide) d).1.mono (by decide)
    · exact (shpEvent_shows (f := R.SHP_EVENTS.b_failed) (by decide) (by decide) (by decide) d).1.mono (by decide)
  have hesix : shState e w = 6 := (shState_congr hnoted.fields (by decide) (by decide) w).trans hsix
  have heoff : trialOn e = false := by
    unfold trialOn at hoff ⊢
    rw [hnoted.flagF_eq (by decide) (by decide), hset.flagF_eq (by decide) (by decide), hoff]
  have hein : e.host.inbox = [] := hnoted.inbox.trans (hset.inbox.trans (hback.inbox.trans hin))
  obtain ⟨g, hg⟩ : ∃ g, (if shState e (1 - w) = 3 ∧ (activeSh e).isNone then makeActive (1 - w) e
    else if shState e (1 - w) = 6 ∧ power e = 2 ∧ !stepIsDone e 1 then stepFailed 1 e else e) = g := ⟨_, rfl⟩
  have hlast : shState g w = 6 ∧ trialOn g = false ∧ g.host.inbox = [] := by
    rw [← hg]
    split
    · have hmade := makeActive_shows (n := 1 - w) (by omega) e
      have hother := hmade.other
      rw [show 1 - (1 - w) = w by omega] at hother
      refine ⟨hother.trans hesix, ?_, hmade.tends.inbox.trans hein⟩
      unfold trialOn at heoff ⊢
      rw [hmade.tends.flagF_eq (by decide) (by decide), heoff]
    · have hstep : Tends [R.SHP_STARTUP.failed_step, R.SHP_STARTUP.failed] e (stepFailed 1 e) :=
        .of_within (ps := [.regs]) (stepFailed_shows 1 e).1 (List.Subset.refl _) (by decide)
      split
      · refine ⟨(shState_congr hstep.fields (by decide) (by decide) w).trans hesix, ?_, hstep.inbox.trans hein⟩
        unfold trialOn at heoff ⊢
        rw [hstep.flagF_eq (by decide) (by decide), heoff]
      · exact ⟨hesix, heoff, hein⟩
  obtain ⟨hgsix, hgoff, hgin⟩ := hlast
  have hboot := noteBoot_tends g
  have hx : shepherdBoot w fa fb s = { s with body := noteBoot g } := by
    have hbad : ∀ n, ((if n = 0 then fa else fb) != 0) = true := fun n => by
      split <;> simpa
    unfold shepherdBoot
    rw [if_neg (by omega)]
    simp only [hbad, Bool.true_or, Bool.not_true, Bool.false_eq_true, if_false]
    unfold bootFallback at hc
    simp only [] at hc
    rw [hc, hd, he, hg]
    exact drainInbox_of_empty (hboot.inbox.trans hgin)
  refine runsS_of_next (next_of_onUnitS (by simpa [isShepherd] using hw)) hx rfl ⟨?_, ?_⟩
  · exact (shState_congr hboot.fields (by decide) (by decide) w).trans hgsix
  · exact (hboot.flagF_eq (by decide) (by decide) 0).trans hgoff

/-! ### No Shepherd is active (R495) -/

theorem restartShepherd_within (w : Nat) (b : Body) : Within [.logbook, .regs, .host, .sent]
    [R.IRQ_CAUSE.cause, R.SHP_STATUS.a_state, R.SHP_STATUS.b_state, R.SHP_STATUS.protected, R.SHP_COUNTS.restarts, R.SHP_EVENTS.a_failed,
      R.SHP_EVENTS.b_failed] b (restartShepherd w b) :=
  .ite (.refl _ _ b) (.ite (((setShState_within w 6 b).mono (by decide) (by decide)).trans ((failNoted_within w 4 _).mono (by decide) (by decide)))
    (startRestart_within w b))

theorem noShepherd_ignored (h : (activeSh b).isSome = true) : noShepherd b = b := if_pos (.inl h)

theorem noShepherd_shows {t : Nat} (h : activeSh s.body = none) (hsince : s.body.host.noActiveSince = some t) (ht : t + 100000000 ≤ s.body.now)
    (hn : flagF s.body R.SHP_STATUS.no_shepherd 0 = false) :
    RunsS .noShepherd s (fun u => isolated u.body = true ∧ flagF u.body R.SHP_STATUS.no_shepherd 0 = true
      ∧ flagF u.body R.SHP_EVENTS.isolated 0 = true ∧ ∀ e, e < 16 → getF u.body R.COX_CLK_CEIL.force e = 80) := by
  obtain ⟨c, hc⟩ : ∃ c, isolateModule s.body = c := ⟨_, rfl⟩
  have hiso : isolated c = true := hc ▸ isolated_isolateModule s.body
  obtain ⟨d, hd⟩ : ∃ d, ceilingsAt 80 c = d := ⟨_, rfl⟩
  have hceil := ceilingsAt_within 80 c
  have hforce : ∀ e, e < 16 → getF d R.COX_CLK_CEIL.force e = 80 := fun e he => hd ▸ ceilingsAt_force (by decide) he c
  rw [hd] at hceil
  obtain ⟨k, hk⟩ : ∃ k, setFlag d R.SHP_STATUS.no_shepherd 0 true = k := ⟨_, rfl⟩
  have hset : Within [.regs] [R.SHP_STATUS.no_shepherd] d k := hk ▸ setF_within (f := R.SHP_STATUS.no_shepherd) 0 _ d (by decide) (by decide) (by decide)
  have hnone : flagF k R.SHP_STATUS.no_shepherd 0 = true := hk ▸ flagF_setFlag_same d _ 0 true (by decide)
  obtain ⟨e, he⟩ : ∃ e, shpEvent R.SHP_EVENTS.isolated k = e := ⟨_, rfl⟩
  obtain ⟨hevent, hshown⟩ := shpEvent_shows (f := R.SHP_EVENTS.isolated) (by decide) (by decide) (by decide) k
  rw [he] at hevent hshown
  obtain ⟨g, hg⟩ : ∃ g, forEach [0, 1] restartShepherd (shpRecord 5 0 0 e) = g := ⟨_, rfl⟩
  have hrestart : Within [.logbook, .regs, .host, .sent] [R.IRQ_CAUSE.cause, R.SHP_STATUS.a_state, R.SHP_STATUS.b_state, R.SHP_STATUS.protected, R.SHP_COUNTS.restarts,
      R.SHP_EVENTS.a_failed, R.SHP_EVENTS.b_failed] e g := by
    rw [← hg]
    exact ((logRec_within 3 _ e).mono (by decide) (by decide)).trans (forEach_within restartShepherd_within _ _)
  have hnot : ¬((activeSh s.body).isSome = true ∨ (!s.body.host.noActiveSince.any (fun t => passed s.body t 100000000)) = true ∨ flagF s.body R.SHP_STATUS.no_shepherd 0 = true) := by
    have hpassed : passed s.body t 100000000 = true := decide_eq_true ht
    rw [h, hsince, hn, Option.any_some, hpassed]
    simp
  have hx : noShepherd s.body = g := by
    unfold noShepherd
    rw [if_neg hnot, hc]
    unfold ceilingsAt at hd
    simp only [hd, hk, he, hg]
  have hflags : ∀ n, flagF g R.KLK_DIE_STATUS.isolated n = flagF c R.KLK_DIE_STATUS.isolated n := fun n => by
    rw [hrestart.flagF_eq (by decide) (by decide), hevent.flagF_eq (by decide) (by decide), hset.flagF_eq (by decide) (by decide), hceil.flagF_eq (by decide) (by decide)]
  refine runsS_of_lift (f := noShepherd) rfl hx ⟨?_, ?_, ?_, fun i hi => ?_⟩
  · unfold isolated at hiso ⊢
    simpa only [hflags] using hiso
  · exact (hrestart.flagF_eq (by decide) (by decide) 0).trans ((hevent.flagF_eq (by decide) (by decide) 0).trans hnone)
  · exact (hrestart.flagF_eq (by decide) (by decide) 0).trans hshown
  · exact (hrestart.getF_eq (by decide) (by decide) i).trans ((hevent.getF_eq (by decide) (by decide) i).trans ((hset.getF_eq (by decide) (by decide) i).trans (hforce i hi)))

/-! ### Handback (R496, R497) -/

theorem handbackPending_shows (h0 : shState s.body 0 = 3) (h1 : shState s.body 1 = 4) (ht : trialOn s.body = false)
    (hsince : (shepherd s.body 0).standbySince + 10000000000 ≤ s.body.now) :
    Runs .handbackPending s [.regs] (fun b => flagF b R.SHP_STATUS.handback_pending 0 = true ∧ RegsBut [R.SHP_STATUS.handback_pending] 0 s.body b) :=
  runs_of_lift (f := handbackPending) rfl (if_pos ⟨h0, h1, decide_eq_true hsince, .inl (by rw [ht]; rfl)⟩) (by simp (disch := decide))
    ⟨flagF_setFlag_same _ _ _ _ (by decide), by simp (disch := decide)⟩

theorem handbackPending_ignored (h : shState b 0 ≠ 3 ∨ b.now < (shepherd b 0).standbySince + 10000000000) : handbackPending b = b := by
  refine if_neg fun ⟨h0, _, hsince, _⟩ => ?_
  have := of_decide_eq_true hsince
  omega

theorem updLog_tends {fs : List Field} (h : Tends fs b c) (f : Logbook → Logbook) : Tends fs b (updLog f c) := h.of_regs rfl rfl

theorem handbackSwitch_ignored (h : shState s.body 0 ≠ 3) : handbackSwitch s = s := if_pos (.inr (.inl h))

theorem handbackSwitch_shows (hp : flagF s.body R.SHP_STATUS.handback_pending 0 = true) (h0 : shState s.body 0 = 3) (h1 : shState s.body 1 = 4)
    (hmay : maySwitch s.body = true) :
    RunsS .handbackSwitch s (fun u => IsWriter 0 u.body ∧ shState u.body 1 = 3 ∧ flagF u.body R.SHP_STATUS.handback_pending 0 = false
      ∧ getF u.body R.SHP_COUNTS.handbacks 0 = min (getF s.body R.SHP_COUNTS.handbacks 0 + 1) (2 ^ R.SHP_COUNTS.handbacks.width - 1)) := by
  obtain ⟨c, hc⟩ : ∃ c, stateRecord s.body = c := ⟨_, rfl⟩
  have hactive : activeSh s.body = some 1 := by
    unfold activeSh
    rw [if_neg (by omega), if_pos h1]
  have hrecord : Tends [] s.body c := by
    rw [← hc, stateRecord_standby hactive h0]
    have hsh : ∀ f, Tends [] s.body (updSh (1 - 1) f s.body) := (Tends.refl [] s.body).updSh (1 - 1)
    exact updLog_tends (hsh _) _
  obtain ⟨d, hd⟩ : ∃ d, setFlag c R.SHP_STATUS.handback_pending 0 false = d := ⟨_, rfl⟩
  have hset : Tends [R.SHP_STATUS.handback_pending] c d := hd ▸ (Tends.refl _ c).setF List.mem_cons_self (by decide) 0 _
  have hoff : flagF d R.SHP_STATUS.handback_pending 0 = false := hd ▸ flagF_setFlag_same c _ 0 false (by decide)
  obtain ⟨e, he⟩ : ∃ e, enterStandby 1 d = e := ⟨_, rfl⟩
  have hstand : Tends standbyFields d e := he ▸ enterStandby_tends 1 d
  have hthree : shState e 1 = 3 := he ▸ shState_enterStandby_same 1 d
  obtain ⟨g, hg⟩ : ∃ g, makeActive 0 e = g := ⟨_, rfl⟩
  have hmade : MadeActive 0 e g := hg ▸ makeActive_shows (by decide) e
  obtain ⟨k, hk⟩ : ∃ k, addSat g R.SHP_COUNTS.handbacks 0 1 = k := ⟨_, rfl⟩
  have hadd : Tends [R.SHP_COUNTS.handbacks] g k := hk ▸ (Tends.refl _ g).setF List.mem_cons_self (by decide) 0 _
  have hcount : getF k R.SHP_COUNTS.handbacks 0 = min (getF g R.SHP_COUNTS.handbacks 0 + 1) (2 ^ R.SHP_COUNTS.handbacks.width - 1) := by
    rw [← hk]
    exact getF_addSat_same _ _ _ _
  obtain ⟨m, hm⟩ : ∃ m, noteTrial (shpEvent R.SHP_EVENTS.handback (shpRecord 2 0 0 k)) = m := ⟨_, rfl⟩
  have hnoted : Tends [R.SHP_EVENTS.handback, R.IRQ_CAUSE.cause] k m := by
    rw [← hm]
    exact (((shpRecord_tends 2 0 0 k).mono (List.nil_subset _)).trans (shpEvent_shows (f := R.SHP_EVENTS.handback) (by decide) (by decide) (by decide) _).1).trans
      ((noteTrial_tends _).mono (List.nil_subset _))
  have hlate : Tends [R.SHP_COUNTS.handbacks, R.SHP_EVENTS.handback, R.IRQ_CAUSE.cause] g m := (hadd.mono (by decide)).trans (hnoted.mono (by decide))
  have hx : handbackSwitch s = { s with body := m } := by
    unfold handbackSwitch
    simp only []
    rw [if_neg (by simp [hp, h0, h1, hmay]), hc, hd, he, hg, hk, hm]
  refine runsS_of_next rfl hx rfl ⟨?_, ?_, ?_, ?_⟩
  · exact hmade.writes.of_fields hlate.fields (by decide) (by decide) (by decide) (by decide)
  · exact (shState_congr hlate.fields (by decide) (by decide) 1).trans (hmade.other.trans hthree)
  · exact (hlate.flagF_eq (by decide) (by decide) 0).trans ((hmade.tends.flagF_eq (by decide) (by decide) 0).trans ((hstand.flagF_eq (by decide) (by decide) 0).trans hoff))
  · show getF m _ 0 = _
    rw [hnoted.getF_eq (by decide) (by decide), hcount, hmade.tends.getF_eq (by decide) (by decide), hstand.getF_eq (by decide) (by decide),
      hset.getF_eq (by decide) (by decide), hrecord.getF_eq (by decide) (by decide)]

/-! ### Frames (R499) -/

section Frames

variable {fr : List Byte}

theorem frameReceive_ignored (h : isolated s.body = true ∨ fr.length ≠ 224) : frameReceive fr s = s := if_pos (h.imp_right .inl)

theorem frameReceive_unsound (hl : flagF s.body R.KLK_ROUTE.lost (dfield fr 4 2 % 16384) = false) (hc : crc32c (fr.take 220) ≠ dfield fr 220 4) :
    frameReceive fr s = s := by
  unfold frameReceive
  simp only []
  split
  · rfl
  · rw [if_neg (by simp [hl]), if_pos (.inl hc)]

/-- A frame that passes the checks of R499 and is the first of its class from its sender. -/
structure Accepted (fr : List Byte) (b : Body) : Prop where
  length : fr.length = 224
  present : flagF b R.KLK_ROUTE.lost (dfield fr 4 2 % 16384) = false
  crc : crc32c (fr.take 220) = dfield fr 220 4
  cls : dfield fr 0 2 = 1 ∨ dfield fr 0 2 = 2
  here : dfield fr 6 2 % 16384 = moduleIndex b
  first : SMap.get b.host.rxFrames none (dfield fr 0 2 * 16384 + dfield fr 4 2 % 16384) = none

/-- The host side that has noted a frame and put it behind those that wait. -/
def framed (fr : List Byte) (h : HostSide) : HostSide :=
  { h with rxFrames := SMap.put h.rxFrames none (dfield fr 0 2 * 16384 + dfield fr 4 2 % 16384) (some (dfield fr 8 2)), inbox := h.inbox ++ [fr] }

theorem frameReceive_accepts (hok : Accepted fr s.body) (hin : isolated s.body = false) (hroom : shepherdActive s.body = true ∨ s.body.host.inbox.length < 64) :
    frameReceive fr s = drainInbox { s with body := updHost (framed fr) s.body } := by
  obtain ⟨hlen, hpresent, hcrc, hcls, hhere, hfirst⟩ := hok
  have hfull : ¬(isolated s.body = true ∨ fr.length ≠ 224 ∨ ((!shepherdActive s.body) = true ∧ 64 ≤ s.body.host.inbox.length)) := by
    rintro (h | h | ⟨h, h64⟩)
    · rw [hin] at h
      cases h
    · exact h hlen
    · obtain ha | ha := hroom
      · rw [ha] at h
        cases h
      · omega
  unfold frameReceive
  simp only []
  rw [if_neg hfull, if_neg (by simp [hpresent]), if_neg (by
    rintro (h | h | h)
    · exact h hcrc
    · omega
    · exact h hhere), hfirst]
  rfl

theorem frameReceive_waits (hok : Accepted fr s.body) (hin : isolated s.body = false) (ha : shepherdActive s.body = false) (hroom : s.body.host.inbox.length < 64) :
    Runs (.shepherdFrameReceive fr) s [.host] (fun b => b.host = framed fr s.body.host) := by
  refine runs_of_next rfl ?_ (?_ : Only _ _ (updHost (framed fr) s.body)) rfl
  · rw [frameReceive_accepts hok hin (.inr hroom)]
    exact if_neg (Bool.eq_false_iff.1 ha)
  · simp (disch := decide)

theorem frameReceive_hands (hok : Accepted fr s.body) (hin : isolated s.body = false) (ha : shepherdActive s.body = true) (hempty : s.body.host.inbox = []) :
    frameReceive fr s = handOver fr { s with body := updHost (fun h => { framed fr h with inbox := [] }) s.body } := by
  rw [frameReceive_accepts hok hin (.inl ha)]
  have hwait : (framed fr s.body.host).inbox = [fr] := by
    unfold framed
    rw [hempty]
    rfl
  unfold drainInbox
  rw [if_pos (show shepherdActive (updHost (framed fr) s.body) = true from ha)]
  show List.foldl _ _ (framed fr s.body.host).inbox = _
  rw [hwait]
  rfl

end Frames

/-! ### The obligation -/

/-- Settles O52: each step of a Shepherd is followed through the fields it writes (`Tends`), with the writer's fields kept by all that
comes after `makeActive`. -/
theorem shepherds : Obligations.Shepherds := by
  unfold Obligations.Shepherds
  intro w us fr s hw
  have hback : 1 - (1 - w) = w := by omega
  have hunit : isShepherd w = true := by simpa [isShepherd] using hw
  refine ⟨fun n hst hh => ⟨?beat, ?repeated⟩, ?deaf, ?record, ?none, ?takeover, ?restart, ?running, ?pass, ?passed, ?boot, ?bootFails, ?booted, ?early, ?noneActive,
    ?active, ?pending, ?notPending, ?young, ?switch, ?bad, ?crc, ?waits, ?hands⟩
  case beat => exact fun h => heartbeat_noted_shows hw hst hh h
  case repeated => exact fun x hx hr => heartbeat_repeated_shows hw hst hh hx hr
  case deaf => exact fun n h3 h4 => runs_stays (next_of_onUnitS hunit) (heartbeat_ignored n (.inl ⟨h3, h4⟩))
  case record => exact fun h ho => stateRecord_shows h ho
  case none =>
    intro h
    refine ⟨runs_same rfl (stateRecord_none h), runs_stays rfl (if_neg ?_), runs_stays rfl (takeover_of_none 2 us h), runs_stays rfl (takeover_of_none 3 us h)⟩
    rw [h]
    simp
  case takeover =>
    intro r hr h hlate
    have hx : exec r.1 s = .next (takeover r.2 us s) ∧ r.2 < 256 := by
      simp only [List.mem_cons, List.not_mem_nil, or_false] at hr
      obtain rfl | rfl | rfl := hr
      · refine ⟨congrArg Host.Outcome.next (if_pos ?_), show 1 < 256 by decide⟩
        rw [h]
        exact decide_eq_true (hlate rfl)
      · exact ⟨rfl, show 2 < 256 by decide⟩
      · exact ⟨rfl, show 3 < 256 by decide⟩
    exact ⟨fun ho hin => takeover_standby_shows hw hx.2 hx.1 h ho hin, fun ho => takeover_alone_shows hw hx.1 h ho⟩
  case restart => exact fun hst h hheld => ⟨fun hlen => restart_again_shows hw hst h hheld hlen, fun hlen => restart_third_shows hw hst h hheld hlen⟩
  case running => exact fun h => runs_same (lift_of_onUnit hunit) (restart_ignored h)
  case pass => exact fun hst hin => ⟨fun ho => selfTestPass_standby_shows hw hst hin ho, fun ho => selfTestPass_writer_shows hw hst hin ho⟩
  case passed => exact fun h2 h5 => runs_stays (next_of_onUnitS hunit) (selfTestPass_ignored h2 h5)
  case boot => exact fun hst himage => shepherdBoot_runs_shows hw hst himage
  case bootFails => exact fun fa fb hst hfa hfb hin => shepherdBoot_fails_shows hw hst hfa hfb hin
  case booted => exact fun fa fb h1 h5 => runs_stays (next_of_onUnitS hunit) (shepherdBoot_ignored fa fb h1 h5)
  case early =>
    intro h hlate
    refine runs_stays rfl (if_neg ?_)
    rw [h]
    simpa [passed] using hlate
  case noneActive => exact fun t h hsince ht hn => noShepherd_shows h hsince ht hn
  case active => exact fun h => runs_same rfl (noShepherd_ignored h)
  case pending => exact fun h0 h1 ht hsince => handbackPending_shows h0 h1 ht hsince
  case notPending =>
    exact fun h => ⟨runs_same rfl (handbackPending_ignored (.inl h)), runs_stays rfl (handbackSwitch_ignored h)⟩
  case young => exact fun h => runs_same rfl (handbackPending_ignored (.inr h))
  case switch => exact fun hp h0 h1 hmay => handbackSwitch_shows hp h0 h1 hmay
  case bad => exact fun h => runs_stays rfl (frameReceive_ignored h)
  case crc => exact fun hl hc => runs_stays rfl (frameReceive_unsound hl hc)
  case waits => exact fun hin ⟨hlen, hl, hc, hcls, hhere, hfirst⟩ ha hroom => frameReceive_waits ⟨hlen, hl, hc, hcls, hhere, hfirst⟩ hin ha hroom
  case hands => exact fun hin ⟨hlen, hl, hc, hcls, hhere, hfirst⟩ ha hempty => congrArg _ (frameReceive_hands ⟨hlen, hl, hc, hcls, hhere, hfirst⟩ hin ha hempty)

end Boot

end Sys2Proof.Machine

/-! The resets of the module (R654 to R657). -/

namespace Sys2Proof.Machine

section Resets

variable {b c d : Body} {s : State}

/-! ### The field file after a reset (R11) -/

theorem SMap.get_filter_gone {α : Type} (p : Nat × α → Bool) (d : α) (k : Nat) (hk : ∀ v, p (k, v) = false) : ∀ m : SMap α, SMap.get (m.filter p) d k = d
  | [] => rfl
  | e :: t => by
    cases hp : p e
    · rw [List.filter_cons_of_neg (by simp [hp])]
      exact SMap.get_filter_gone p d k hk t
    · rw [List.filter_cons_of_pos hp]
      have hne : e.1 ≠ k := fun h => by
        rw [show e = (k, e.2) from Prod.ext h rfl, hk] at hp
        cases hp
      exact (if_neg hne).trans (SMap.get_filter_gone p d k hk t)

theorem getF_freshBody_kept {fs : List Field} {f : Field} (hlt : f.idx < 1024) (hm : f ∈ fs) (j : Nat) : getF (freshBody fs b) f j = getF b f j := by
  refine SMap.get_filter _ _ _ (fun v => ?_) _
  have hkey : (j * 1024 + f.idx) % 1024 = f.idx := by omega
  exact List.any_eq_true.2 ⟨f, hm, by rw [hkey]; exact beq_self_eq_true _⟩

theorem getF_freshBody_fresh {fs : List Field} {f : Field} (hlt : f.idx < 1024) (hm : f.idx ∉ fs.map Field.idx) (j : Nat) :
    getF (freshBody fs b) f j = fieldReset f.idx j := by
  refine SMap.get_filter_gone _ _ _ (fun v => ?_) _
  have hkey : (j * 1024 + f.idx) % 1024 = f.idx := by omega
  refine List.any_eq_false.2 fun g hg hb => hm ?_
  rw [← hkey, ← beq_iff_eq.1 hb]
  exact List.mem_map_of_mem hg

/-! ### What a reset's records leave -/

/-- What the time base holds beside registers: the hour stamp, the count of power cycles and the calendar (R654). -/
def timeOf (h : HostSide) : HostSide :=
  { HostSide.reset with opBase := h.opBase, opSince := h.opSince, opSaved := h.opSaved, opReset := h.opReset, cycles := h.cycles, calBase := h.calBase, calAt := h.calAt, calValid := h.calValid }

/-- Going from `b` to `c`, no field but those named changes, and the stations, the drovers, the die maps, the power path and the time base stay. -/
structure Stands (fs : List Field) (b c : Body) : Prop where
  fields : FieldsBut fs b c
  time : timeOf c.host = timeOf b.host
  stations : c.stations = b.stations
  drovers : c.drovers = b.drovers
  dieMap : c.dieMap = b.dieMap
  cox : c.cox = b.cox

namespace Stands

variable {fs gs : List Field}

theorem refl (fs : List Field) (b : Body) : Stands fs b b := ⟨fun _ _ _ _ => rfl, rfl, rfl, rfl, rfl, rfl⟩

theorem trans (h : Stands fs b c) (k : Stands fs c d) : Stands fs b d :=
  ⟨fun f j hf hn => (k.fields f j hf hn).trans (h.fields f j hf hn), k.time.trans h.time, k.stations.trans h.stations, k.drovers.trans h.drovers, k.dieMap.trans h.dieMap,
    k.cox.trans h.cox⟩

theorem mono (h : Stands fs b c) (hs : fs ⊆ gs) : Stands gs b c :=
  ⟨fun f j hf hn => h.fields f j hf fun hm => hn (List.map_subset _ hs hm), h.time, h.stations, h.drovers, h.dieMap, h.cox⟩

theorem ite {P : Prop} [Decidable P] (h : Stands fs b c) (k : Stands fs b d) : Stands fs b (if P then c else d) := by
  split <;> assumption

theorem of_within {ps : List Part} (h : Within ps gs b c) (hf : gs ⊆ fs) (hh : Part.host ∉ ps) (hs : Part.stations ∉ ps) (hd : Part.drovers ∉ ps) (hm : Part.dieMap ∉ ps)
    (hc : Part.cox ∉ ps) : Stands fs b c :=
  ⟨(h.mono (List.Subset.refl _) hf).fields, congrArg timeOf (h.same (p := .host) hh), h.same (p := .stations) hs, h.same (p := .drovers) hd, h.same (p := .dieMap) hm,
    h.same (p := .cox) hc⟩

theorem setF (h : Stands fs b c) {f : Field} (hm : f ∈ fs) (hlt : f.idx < 1024) (i v : Nat) : Stands fs b (setF c f i v) :=
  h.trans (.of_within (ps := [.regs]) (fs := fs) (setF_within i v c (by decide) hm hlt) (List.Subset.refl _) (by decide) (by decide) (by decide) (by decide) (by decide))

theorem updLog (h : Stands fs b c) (f : Logbook → Logbook) : Stands fs b (updLog f c) := ⟨h.fields, h.time, h.stations, h.drovers, h.dieMap, h.cox⟩

theorem updTrust (h : Stands fs b c) (f : Trust → Trust) : Stands fs b (updTrust f c) := ⟨h.fields, h.time, h.stations, h.drovers, h.dieMap, h.cox⟩

theorem forEach {α : Type} {f : α → Body → Body} (hf : ∀ x b, Stands fs b (f x b)) (l : List α) (b : Body) : Stands fs b (forEach l f b) :=
  forEach_keeps (P := Stands fs b) (fun x _ c hc => hc.trans (hf x c)) (.refl fs b)

theorem getF_eq (h : Stands fs b c) {f : Field} (hf : f.idx < 1024) (hn : f.idx ∉ fs.map Field.idx) (i : Nat) : getF c f i = getF b f i := h.fields f i hf hn

theorem flagF_eq (h : Stands fs b c) {f : Field} (hf : f.idx < 1024) (hn : f.idx ∉ fs.map Field.idx) (i : Nat) : flagF c f i = flagF b f i :=
  congrArg (· == 1) (h.fields f i hf hn)

end Stands

theorem raiseVec_stands (v : Nat) (b : Body) : Stands [R.IRQ_CAUSE.cause] b (raiseVec v b) := by
  have hset : ∀ n, Stands [R.IRQ_CAUSE.cause] b (setF b R.IRQ_CAUSE.cause 0 n) := fun n => (Stands.refl _ b).setF List.mem_cons_self (by decide) 0 n
  have hsend : ∀ c, Stands [R.IRQ_CAUSE.cause] c (sendVector v c) := fun c => by
    unfold sendVector
    split <;> exact ⟨fun _ _ _ _ => rfl, rfl, rfl, rfl, rfl, rfl⟩
  unfold raiseVec
  exact .ite (.refl _ b) (.ite (hset _) ((hset _).trans (hsend _)))

theorem logRec_stands (cls : Nat) (bs : List Byte) (b : Body) : Stands [] b (logRec cls bs b) :=
  .of_within (logRec_within cls bs b) (List.nil_subset _) (by decide) (by decide) (by decide) (by decide) (by decide)

theorem fwEvent_stands (event slot : Nat) (b : Body) : Stands [R.IRQ_CAUSE.cause] b (fwEvent event slot b) :=
  ((logRec_stands _ _ b).mono (List.nil_subset _)).trans (raiseVec_stands 29 _)

/-- The fields of a trial at a reset (R575). -/
def trialFields : List Field := [R.SHP_FW_SLOTS.trial, R.SHP_FW_SLOTS.trial_slot, R.SHP_FW_SLOTS.trial_resets, R.IRQ_CAUSE.cause]

theorem trialAtReset_stands (b : Body) : Stands trialFields b (trialAtReset b) := by
  have hend : Stands trialFields b (endTrial b) :=
    (((Stands.refl trialFields b).updTrust _).setF (f := R.SHP_FW_SLOTS.trial) (by decide) (by decide) 0 _).trans ((fwEvent_stands _ _ _).mono (by decide))
  have hbegin : Stands trialFields b (beginTrial (stageSlot b) b) :=
    ((((Stands.refl trialFields b).setF (f := R.SHP_FW_SLOTS.trial) (by decide) (by decide) 0 _).setF (f := R.SHP_FW_SLOTS.trial_slot) (by decide) (by decide) 0 _).setF
      (f := R.SHP_FW_SLOTS.trial_resets) (by decide) (by decide) 0 _).updTrust _ |>.trans ((fwEvent_stands _ _ _).mono (by decide))
  exact .ite (.ite hend ((Stands.refl _ b).setF (by decide) (by decide) 0 _)) (.ite hbegin (.refl _ b))

/-! ### The Shepherds boot (R488, R649) -/

/-- The fields of the Shepherds that leave their reset. -/
def releaseFields : List Field := [R.SHP_STARTUP.failed_step, R.SHP_STARTUP.failed] ++ stateFields

/-- A Shepherd that is not held in state failed boots. -/
def bootOne (w : Nat) (b : Body) : Body := if shState b w = 6 then b else setShState w 1 b

theorem bootOne_within (w : Nat) (b : Body) : Within [.regs] stateFields b (bootOne w b) := .ite (.refl _ _ b) (setShState_within w 1 b)

theorem shState_bootOne_same (w : Nat) (b : Body) : shState (bootOne w b) w = if shState b w = 6 then 6 else 1 := by
  unfold bootOne
  split
  · assumption
  · exact shState_setShState_same (by decide) w b

theorem shState_bootOne_other {w : Nat} (hw : w < 2) (b : Body) : shState (bootOne w b) (1 - w) = shState b (1 - w) := by
  unfold bootOne
  split
  · rfl
  · exact shState_setShState_other hw (by omega) (by omega) 1 b

theorem releaseShepherds_shows (b : Body) : Within [.regs] releaseFields b (releaseShepherds b)
    ∧ getF (releaseShepherds b) R.SHP_STATUS.a_state 0 = (if getF b R.SHP_STATUS.a_state 0 = 6 then 6 else 1)
    ∧ getF (releaseShepherds b) R.SHP_STATUS.b_state 0 = (if getF b R.SHP_STATUS.b_state 0 = 6 then 6 else 1) := by
  obtain ⟨c, hc⟩ : ∃ c, bootOne 1 (bootOne 0 b) = c := ⟨_, rfl⟩
  have hboot : Within [.regs] stateFields b c := hc ▸ (bootOne_within 0 b).trans (bootOne_within 1 _)
  have ha : shState c 0 = if shState b 0 = 6 then 6 else 1 := by
    rw [← hc, shState_bootOne_other (w := 1) (by decide)]
    exact shState_bootOne_same 0 b
  have hb : shState c 1 = if shState b 1 = 6 then 6 else 1 := by
    rw [← hc, shState_bootOne_same, shState_bootOne_other (w := 0) (by decide)]
  have hfail := (stepFailed_shows 1 c).1
  have hx : releaseShepherds b = if shState c 0 = 6 ∧ shState c 1 = 6 then stepFailed 1 c else c := by
    rw [← hc]
    rfl
  have hlast : Within [.regs] [R.SHP_STARTUP.failed_step, R.SHP_STARTUP.failed] c (releaseShepherds b) := by
    rw [hx]
    exact .ite hfail (.refl _ _ c)
  exact ⟨(hboot.mono (by decide) (by decide)).trans (hlast.mono (by decide) (by decide)), (hlast.getF_eq (by decide) (by decide) 0).trans ha, (hlast.getF_eq (by decide) (by decide) 0).trans hb⟩

/-! ### Power-on reset (R654) -/

/-- The body in which the housekeeping supply has risen, before a firmware trial is counted. -/
def supplyRisen (b : Body) : Body :=
  let p := b.cox.path
  let l := b.logbook
  let ms := b.host.opSaved + 1000
  let n := freshBody (storedFields ++ pinFields) b
  let n := { n with
    host := { HostSide.reset with opBase := ms, opSince := b.now, opSaved := ms, opReset := ms, cycles := min (b.host.cycles + 1) (2 ^ 24 - 1) }
    trust := { n.trust with session := 0 }
    cells := { CellSide.reset with monitors := pinnedMonitors b.cells.monitors }
    cox := { CoxSide.reset with path := { PowerPath.reset with
      presence := p.presence, switch := p.switch, housekeeping := true, thresholds := p.thresholds, elapsedFrom := b.now
      heldReset := p.heldReset, afterReset := p.heldReset } } }
  let n := updLog (fun x => { x with nextSeq := l.ceiling + 1, ceiling := l.ceiling + 4096, gapFirst := l.nextSeq, dropped := none }) n
  setFlag (setF n R.GBL_STATUS.power_state 0 2) R.GBL_SLOT.present 0 p.presence

theorem powerOn_eq (h2 : power b = 2) (hh : b.cox.path.housekeeping = false) :
    powerOn b = if b.cox.path.heldReset then trialAtReset (supplyRisen b) else releaseShepherds (trialAtReset (supplyRisen b)) :=
  if_neg (by simp [h2, hh])

theorem supplyRisen_regs (b : Body) : (supplyRisen b).regs =
    (setFlag (setF (freshBody (storedFields ++ pinFields) b) R.GBL_STATUS.power_state 0 2) R.GBL_SLOT.present 0 b.cox.path.presence).regs := rfl

theorem supplyRisen_fields (b : Body) : FieldsBut [R.GBL_STATUS.power_state, R.GBL_SLOT.present] (freshBody (storedFields ++ pinFields) b) (supplyRisen b)
    ∧ power (supplyRisen b) = 2 := by
  obtain ⟨c, hc⟩ : ∃ c, freshBody (storedFields ++ pinFields) b = c := ⟨_, rfl⟩
  have hregs : ∀ f j, getF (supplyRisen b) f j = getF (setFlag (setF c R.GBL_STATUS.power_state 0 2) R.GBL_SLOT.present 0 b.cox.path.presence) f j := fun f j => by
    unfold getF
    rw [supplyRisen_regs, hc]
  have hset : Stands [R.GBL_STATUS.power_state, R.GBL_SLOT.present] c (setFlag (setF c R.GBL_STATUS.power_state 0 2) R.GBL_SLOT.present 0 b.cox.path.presence) :=
    ((Stands.refl _ c).setF (by decide) (by decide) 0 2).setF (by decide) (by decide) 0 _
  constructor
  · rw [hc]
    exact fun f j hf hn => (hregs f j).trans (hset.fields f j hf hn)
  · unfold power
    rw [hregs, getF_setFlag_other _ _ (by decide) (by decide) (by decide)]
    exact getF_setF_fits (by decide)

/-- The fields that a reset shows anew (R654, R655). -/
def shownAtReset : List Field := [R.GBL_STATUS.power_state, R.SHP_STATUS.a_state, R.SHP_STATUS.b_state, R.SHP_STATUS.protected, R.SHP_STARTUP.failed,
  R.SHP_STARTUP.failed_step, R.IRQ_CAUSE.cause, R.COX_CAP.cap_w, R.KLK_DIE_STATUS.isolated, R.KLK_PORT_STATUS.state]

set_option maxRecDepth 20000 in
theorem shepherdReset : fieldReset R.SHP_STATUS.a_state.idx 0 = 0 ∧ fieldReset R.SHP_STATUS.b_state.idx 0 = 0 := ⟨by rfl, by rfl⟩

theorem powerOnReset_resets (h2 : power s.body = 2) (hh : s.body.cox.path.housekeeping = false) :
    RunsS .powerOnReset s (fun u => u.mem = [] ∧ u.body.cox.path.housekeeping = true
      ∧ power u.body = 2 ∧ u.body.host.cycles = min (s.body.host.cycles + 1) (2 ^ 24 - 1) ∧ u.body.host.opBase = s.body.host.opSaved + 1000
      ∧ u.body.host.calValid = false ∧ u.body.stations = [] ∧ u.body.drovers = [] ∧ u.body.cox.path.moduleStop = false
      ∧ (∀ f j, f.idx < 1024 → f.idx ∉ (storedFields ++ pinFields ++ shownAtReset).map Field.idx → getF u.body f j = fieldReset f.idx j)
      ∧ (∀ f j, f ∈ flashFields → getF u.body f j = getF s.body f j)
      ∧ (s.body.cox.path.heldReset = false → getF u.body R.SHP_STATUS.a_state 0 = 1 ∧ getF u.body R.SHP_STATUS.b_state 0 = 1)) := by
  obtain ⟨hfresh, hpow⟩ := supplyRisen_fields s.body
  have hn : (supplyRisen s.body).cox.path.housekeeping = true ∧ (supplyRisen s.body).cox.path.moduleStop = false ∧ (supplyRisen s.body).stations = [] ∧ (supplyRisen s.body).drovers = []
      ∧ timeOf (supplyRisen s.body).host = { HostSide.reset with
        opBase := s.body.host.opSaved + 1000, opSince := s.body.now, opSaved := s.body.host.opSaved + 1000, opReset := s.body.host.opSaved + 1000,
        cycles := min (s.body.host.cycles + 1) (2 ^ 24 - 1) } := ⟨rfl, rfl, rfl, rfl, rfl⟩
  have heq := powerOn_eq h2 hh
  obtain ⟨n, hnn⟩ : ∃ n, supplyRisen s.body = n := ⟨_, rfl⟩
  rw [hnn] at hfresh hpow hn heq
  obtain ⟨hhouse, hstop, hstn, hdrv, htime⟩ := hn
  have htrial := trialAtReset_stands n
  obtain ⟨k, hk⟩ : ∃ k, trialAtReset n = k := ⟨_, rfl⟩
  rw [hk] at htrial heq
  obtain ⟨hrel, ha, hb⟩ := releaseShepherds_shows k
  obtain ⟨m, hm⟩ : ∃ m, (if s.body.cox.path.heldReset then k else releaseShepherds k) = m := ⟨_, rfl⟩
  rw [hm] at heq
  have hlast : Stands releaseFields k m := by
    rw [← hm]
    exact .ite (.refl _ k) (.of_within hrel (List.Subset.refl _) (by decide) (by decide) (by decide) (by decide) (by decide))
  have hall : Stands (trialFields ++ releaseFields) n m := (htrial.mono (by decide)).trans (hlast.mono (by decide))
  have hfield : ∀ f j, f.idx < 1024 → f.idx ∉ ([R.GBL_STATUS.power_state, R.GBL_SLOT.present] ++ trialFields ++ releaseFields).map Field.idx →
      getF m f j = getF (freshBody (storedFields ++ pinFields) s.body) f j := fun f j hf hx => by
    rw [hall.getF_eq hf fun h => hx ?_, hfresh f j hf fun h => hx ?_]
    · rw [List.append_assoc, List.map_append]
      exact List.mem_append_left _ h
    · rw [List.append_assoc, List.map_append]
      exact List.mem_append_right _ h
  have htm : timeOf m.host = _ := hall.time.trans htime
  have hx : exec .powerOnReset s = .next { s with mem := [], body := m } := by
    show Host.Outcome.next _ = _
    rw [heq, if_neg (by simp [h2, hh])]
  refine ⟨_, hx, rfl, rfl, ?_, ?_, ?_, ?_, ?_, ?_, ?_, ?_, ?_, ?_, ?_⟩
  · exact (congrArg (fun x : CoxSide => x.path.housekeeping) hall.cox).trans hhouse
  · exact (hall.getF_eq (by decide) (by decide) 0).trans hpow
  · exact congrArg HostSide.cycles htm
  · exact congrArg HostSide.opBase htm
  · exact congrArg HostSide.calValid htm
  · exact hall.stations.trans hstn
  · exact hall.drovers.trans hdrv
  · exact (congrArg (fun x : CoxSide => x.path.moduleStop) hall.cox).trans hstop
  · intro f j hf hx
    refine (hfield f j hf fun h => hx (List.map_subset _ (by decide) h)).trans (getF_freshBody_fresh hf (fun h => hx ?_) j)
    rw [List.map_append]
    exact List.mem_append_left _ h
  · intro f j hf
    have hlt : ∀ f ∈ flashFields, f.idx < 1024 ∧ f.idx ∉ ([R.GBL_STATUS.power_state, R.GBL_SLOT.present] ++ trialFields ++ releaseFields).map Field.idx := by decide
    obtain ⟨hflt, hfn⟩ := hlt f hf
    refine (hfield f j hflt hfn).trans (getF_freshBody_kept hflt ?_ j)
    exact List.mem_append_left _ (List.mem_append_left _ hf)
  · intro hheld
    rw [hheld] at hm
    have hzero : getF k R.SHP_STATUS.a_state 0 = 0 ∧ getF k R.SHP_STATUS.b_state 0 = 0 := by
      constructor
      · rw [htrial.getF_eq (by decide) (by decide), hfresh _ _ (by decide) (by decide), getF_freshBody_fresh (by decide) (by decide)]
        exact shepherdReset.1
      · rw [htrial.getF_eq (by decide) (by decide), hfresh _ _ (by decide) (by decide), getF_freshBody_fresh (by decide) (by decide)]
        exact shepherdReset.2
    rw [hzero.1] at ha
    rw [hzero.2] at hb
    have hmk : m = releaseShepherds k := hm.symm
    exact ⟨(congrArg (fun x => getF x R.SHP_STATUS.a_state 0) hmk).trans ha, (congrArg (fun x => getF x R.SHP_STATUS.b_state 0) hmk).trans hb⟩

end Resets

end Sys2Proof.Machine

/-! Module reset and its release (R655 to R657). -/

namespace Sys2Proof.Machine

section ModuleReset

variable {b c d : Body} {s : State}

/-! ### What firmware writes before the reset (R655) -/

/-- The fields that the logbook shows as firmware writes its queue. -/
def queueFields : List Field := [R.LGB_STATUS.clearing, R.LGB_STATUS.lost, R.LGB_STATUS.first_full, R.LGB_WIN_STATUS.state, R.IRQ_CAUSE.cause] ++ logFields

theorem flashWrite_stands (b : Body) : Stands queueFields b (flashWrite b) := by
  have hfirst : ∀ p, Stands queueFields b (noteFirstFull p b) := fun p =>
    .ite (.refl _ b) (((Stands.refl queueFields b).setF (by decide) (by decide) 0 _).trans ((raiseVec_stands 25 _).mono (by decide)))
  have hplace : ∀ r p (c : Body), Stands queueFields c (placeRec r p c) := fun r p c => .ite ((Stands.refl _ c).updLog _) ((Stands.refl _ c).updLog _)
  have hshow : ∀ c : Body, Stands queueFields c (showLog c) := fun c =>
    .of_within (showLog_within c) (by decide) (by decide) (by decide) (by decide) (by decide) (by decide)
  have hfollow : ∀ c : Body, Stands queueFields c (followWindow c) := fun c =>
    .of_within (followWindow_within c) (by decide) (by decide) (by decide) (by decide) (by decide) (by decide)
  unfold flashWrite
  split
  · exact .refl _ b
  · split
    · exact .refl _ b
    · split
      · exact .refl _ b
      · exact ((((hfirst _).trans (hplace _ _ _)).updLog _).trans (hshow _)).trans (hfollow _)

theorem flashWriteAll_stands : ∀ (n : Nat) (b : Body), Stands queueFields b (flashWriteAll n b)
  | 0, b => .refl _ b
  | n + 1, b => (flashWrite_stands b).trans (flashWriteAll_stands n _)

theorem lostRecord_stands (b : Body) : Stands queueFields b (lostRecord b) := by
  have hrec : ∀ bs f, Stands queueFields b (logRec 0xFF bs (updLog f b)) := fun bs f => ((Stands.refl _ b).updLog f).trans ((logRec_stands _ _ _).mono (List.nil_subset _))
  unfold lostRecord
  split
  · exact .refl _ b
  · split
    · exact ((hrec _ _).setF (f := R.LGB_STATUS.lost) (by decide) (by decide) 0 _).trans ((raiseVec_stands 25 _).mono (by decide))
    · exact .refl _ b

theorem logLossOfPower_stands (b : Body) : Stands queueFields b (logLossOfPower none b) := by
  have hclear : ∀ f, Stands queueFields b (setFlag (updLog f b) R.LGB_STATUS.clearing 0 false) := fun f =>
    ((Stands.refl queueFields b).updLog f).setF (f := R.LGB_STATUS.clearing) (by decide) (by decide) 0 _
  unfold logLossOfPower
  exact .ite (.refl _ b) (((hclear _).trans (lostRecord_stands _)).trans (flashWriteAll_stands _ _))

/-! ### The module held in reset (R655) -/

/-- The body `n`, at reset but for what the resets keep, of a module that was in `b` and is held in reset. -/
def resetFrom (b n : Body) : Body :=
  let p := b.cox.path
  let n := { n with
    dieMap := b.dieMap
    stopped := allStations.map Island.station
    host := timeOf b.host
    cells := { b.cells with ring := RingMaster.reset }
    cox := { CoxSide.reset with path := { p with
      cellsRun := false, cellsHalted := false, busLow := false, lowInsulation := 0, checkTried := false, recovery := false, pulled := false
      heldReset := true, startLoss := false, diesLost := [], elapsedFrom := b.now, capBy := if p.selfCap then 3 else 0, afterReset := true } } }
  updLog (fun l => b.logbook.queue.foldl (fun l r => dropNumber r.seq l) l) n

/-- The body in which the module is reset, before the registers show that it is held. -/
def resetBody (b : Body) : Body := resetFrom b (freshBody (storedFields ++ pinFields ++ heldFields) b)

/-- What the registers show of a module that is held in reset. -/
def showHeld (failed : List Nat) (selfCap : Bool) (n : Body) : Body :=
  let n := setF n R.GBL_STATUS.power_state 0 2
  let n := if selfCap then setF n R.COX_CAP.cap_w 16 8400 else n
  let n := forEach failed (fun w b => setShState w 6 b) n
  let n := forEach (List.range 4) (fun d b => setFlag b R.KLK_DIE_STATUS.isolated d true) n
  forEach (List.range 18) (fun q b => setF b R.KLK_PORT_STATUS.state q 7) n

theorem holdReset_eq (b : Body) : holdReset b = showHeld ([0, 1].filter (fun w => shState b w == 6)) b.cox.path.selfCap (resetBody b) := rfl

/-- What `showHeld` shows. -/
structure HeldShown (n m : Body) : Prop where
  within : Within [.regs] shownAtReset n m
  power : power m = 2
  isolated : ∀ d, d < 4 → flagF m R.KLK_DIE_STATUS.isolated d = true
  ports : ∀ q, q < 18 → getF m R.KLK_PORT_STATUS.state q = 7

theorem forEach_setF_shows {f : Field} (hlt : f.idx < 1024) {v : Nat} (hv : v < 2 ^ f.width) (n : Nat) (b : Body) :
    Within [.regs] [f] b (forEach (List.range n) (fun i b => setF b f i v) b) ∧ ∀ i, i < n → getF (forEach (List.range n) (fun i b => setF b f i v) b) f i = v := by
  refine ⟨forEach_within (fun i c => setF_within i v c (by decide) List.mem_cons_self hlt) _ b, fun i hi => ?_⟩
  refine forEach_visits (P := fun _ => True) (Q := fun c => getF c f i = v) List.nodup_range (List.mem_range.2 hi) (fun _ _ _ _ => trivial) (fun c _ => getF_setF_fits hv)
    (fun j hj c hc => ?_) trivial
  rw [getF_setF_instance _ _ _ _ _ (Ne.symm hj)]
  exact hc

theorem showHeld_shows (failed : List Nat) (selfCap : Bool) (n : Body) : HeldShown n (showHeld failed selfCap n) := by
  obtain ⟨c, hc⟩ : ∃ c, setF n R.GBL_STATUS.power_state 0 2 = c := ⟨_, rfl⟩
  have hset : Within [.regs] shownAtReset n c := hc ▸ setF_within _ _ n (by decide) (by decide) (by decide)
  have hpow : power c = 2 := hc ▸ getF_setF_fits (by decide)
  obtain ⟨e, he⟩ : ∃ e, forEach failed (fun w b => setShState w 6 b) (if selfCap then setF c R.COX_CAP.cap_w 16 8400 else c) = e := ⟨_, rfl⟩
  have hfail : Within [.regs] ([R.COX_CAP.cap_w] ++ stateFields) c e := by
    rw [← he]
    exact (Within.ite (setF_within _ _ c (by decide) (by decide) (by decide)) (.refl _ _ c)).trans
      (forEach_within (fun w x => (setShState_within w 6 x).mono (by decide) (by decide)) _ _)
  obtain ⟨g, hg⟩ : ∃ g, forEach (List.range 4) (fun d b => setFlag b R.KLK_DIE_STATUS.isolated d true) e = g := ⟨_, rfl⟩
  obtain ⟨hiso, hisos⟩ := forEach_setF_shows (f := R.KLK_DIE_STATUS.isolated) (by decide) (v := 1) (by decide) 4 e
  have hisoFlag : ∀ d, d < 4 → flagF g R.KLK_DIE_STATUS.isolated d = true := fun d hd => by
    have := hisos d hd
    rw [← hg]
    exact beq_iff_eq.2 this
  have hisoWithin : Within [.regs] [R.KLK_DIE_STATUS.isolated] e g := hg ▸ hiso
  obtain ⟨hport, hports⟩ := forEach_setF_shows (f := R.KLK_PORT_STATUS.state) (by decide) (v := 7) (by decide) 18 g
  have hx : showHeld failed selfCap n = forEach (List.range 18) (fun q b => setF b R.KLK_PORT_STATUS.state q 7) g := by
    unfold showHeld
    simp only [hc, he, hg]
  rw [hx]
  refine ⟨?_, ?_, fun d hd => ?_, hports⟩
  · exact hset.trans (((hfail.mono (by decide) (by decide)).trans (hisoWithin.mono (by decide) (by decide))).trans (hport.mono (by decide) (by decide)))
  · unfold power at hpow ⊢
    rw [hport.getF_eq (by decide) (by decide), hisoWithin.getF_eq (by decide) (by decide), hfail.getF_eq (by decide) (by decide), hpow]
  · rw [hport.flagF_eq (by decide) (by decide), hisoFlag d hd]

theorem dropNumbers_queue (q : List LogRec) (l : Logbook) : (q.foldl (fun l r => dropNumber r.seq l) l).queue = l.queue := by
  induction q generalizing l with
  | nil => rfl
  | cons r q ih => exact ih (dropNumber r.seq l)

/-- What a module held in reset shows of the body before. -/
structure HeldReset (b m : Body) : Prop where
  held : m.cox.path.heldReset = true
  moduleStop : m.cox.path.moduleStop = b.cox.path.moduleStop
  power : power m = 2
  time : timeOf m.host = timeOf b.host
  nonces : m.trust.nonces = []
  queue : m.logbook.queue = []
  dieMap : m.dieMap = b.dieMap
  drovers : m.drovers = []
  clocks : ∀ st, isStation st = true → Island.station st ∈ m.stopped
  isolated : ∀ d, d < 4 → flagF m R.KLK_DIE_STATUS.isolated d = true
  ports : ∀ q, q < 18 → getF m R.KLK_PORT_STATUS.state q = 7
  fields : FieldsBut shownAtReset (freshBody (storedFields ++ pinFields ++ heldFields) b) m

theorem mem_allStations {st : Nat} (h : isStation st = true) : st ∈ allStations := by
  have hlt : st < 1024 := by
    unfold isStation at h
    simp at h
    omega
  exact List.mem_filter.2 ⟨List.mem_range.2 hlt, h⟩

theorem resetFrom_fields (b n : Body) : FieldsBut [] n (resetFrom b n) := fun _ _ _ _ => rfl

theorem resetFrom_stopped (b n : Body) : (resetFrom b n).stopped = allStations.map Island.station := by
  simp only [resetFrom, updLog]

theorem holdReset_shows (b : Body) : HeldReset b (holdReset b) := by
  have hn : (resetBody b).cox.path.heldReset = true ∧ (resetBody b).cox.path.moduleStop = b.cox.path.moduleStop ∧ (resetBody b).trust.nonces = []
      ∧ (resetBody b).dieMap = b.dieMap ∧ (resetBody b).drovers = [] ∧ timeOf (resetBody b).host = timeOf b.host :=
    ⟨rfl, rfl, rfl, rfl, rfl, rfl⟩
  have hclk : (resetBody b).stopped = allStations.map Island.station := resetFrom_stopped b _
  have hqueue : (resetBody b).logbook.queue = [] := dropNumbers_queue _ _
  have hfresh : FieldsBut [] _ (resetBody b) := resetFrom_fields b _
  have hs := showHeld_shows ([0, 1].filter (fun w => shState b w == 6)) b.cox.path.selfCap (resetBody b)
  rw [← holdReset_eq] at hs
  obtain ⟨n, hnn⟩ : ∃ n, resetBody b = n := ⟨_, rfl⟩
  obtain ⟨m, hm⟩ : ∃ m, holdReset b = m := ⟨_, rfl⟩
  rw [hnn] at hn hclk hqueue hfresh hs
  rw [hm] at hs ⊢
  obtain ⟨hheld, hstop, hnonce, hmap, hdrv, htime⟩ := hn
  obtain ⟨hw, hpow, hiso, hports⟩ := hs
  have hcox : m.cox = n.cox := hw.same (p := .cox) (by decide)
  refine ⟨?_, ?_, hpow, ?_, ?_, ?_, ?_, ?_, fun st hst => ?_, hiso, hports, fun f j hf hx => ?_⟩
  · rw [hcox, hheld]
  · rw [hcox, hstop]
  · exact (congrArg timeOf (hw.same (p := .host) (by decide))).trans htime
  · exact (congrArg Trust.nonces (hw.same (p := .trust) (by decide))).trans hnonce
  · exact (congrArg Logbook.queue (hw.same (p := .logbook) (by decide))).trans hqueue
  · exact (hw.same (p := .dieMap) (by decide)).trans hmap
  · exact (hw.same (p := .drovers) (by decide)).trans hdrv
  · rw [hw.same (p := .stopped) (by decide), hclk]
    exact List.mem_map_of_mem (mem_allStations hst)
  · exact (hw.getF_eq hf hx j).trans (hfresh f j hf List.not_mem_nil)

/-! ### The module reset -/

/-- The body that a module reset finds: a trial is counted and firmware has written its queue. -/
def beforeReset (b : Body) : Body := logLossOfPower none (if trialOn b then trialAtReset b else b)

theorem beforeReset_stands (b : Body) : Stands (trialFields ++ queueFields) b (beforeReset b) :=
  (Stands.ite ((trialAtReset_stands b).mono (by decide)) (.refl _ b)).trans ((logLossOfPower_stands _).mono (by decide))

theorem moduleReset_ignored (h : power s.body = 9 ∨ s.body.cox.path.heldReset = true) : moduleReset s = s := if_pos h

theorem moduleReset_early (h : power s.body = 0 ∨ power s.body = 1) (hheld : s.body.cox.path.heldReset = false) :
    moduleReset s = if s.body.cox.path.inputAbsent then s else onBody (updPath (fun x => { x with heldReset := true })) s := by
  unfold moduleReset
  simp only []
  rw [if_neg (by simp [hheld]; omega), if_pos h]

/-- The body that a module reset leaves (R655, R656): with the input absent the housekeeping supply then stops. -/
def afterReset (b : Body) : Body :=
  if b.cox.path.inputAbsent then housekeepingStop (updPath (fun x => { x with heldReset := false }) (holdReset (beforeReset b))) else holdReset (beforeReset b)

theorem moduleReset_eq (hp : power s.body ∉ [0, 1, 9]) (hheld : s.body.cox.path.heldReset = false) :
    moduleReset s = { s with mem := [], body := afterReset s.body } := by
  have hpow : power s.body ≠ 0 ∧ power s.body ≠ 1 ∧ power s.body ≠ 9 := by simpa using hp
  have hcox : (if trialOn s.body then trialAtReset s.body else s.body).cox = s.body.cox := (Stands.ite (trialAtReset_stands _) (.refl _ _)).cox
  unfold moduleReset afterReset beforeReset
  simp only []
  rw [if_neg (by simp [hheld]; omega), if_neg (by omega), hcox]

theorem moduleReset_early_shows (h : power s.body = 0 ∨ power s.body = 1) (hheld : s.body.cox.path.heldReset = false) (hin : s.body.cox.path.inputAbsent = false) :
    Runs .moduleReset s [.cox] (fun b => b.cox = { s.body.cox with path := { s.body.cox.path with heldReset := true } }) :=
  runs_of_next rfl ((moduleReset_early h hheld).trans (if_neg (by simp [hin]))) (updPath_only _ _) rfl

/-- The fields that a reset keeps (R11, R654). -/
def keptFields : List Field := flashFields ++ heldFields ++ pinFields

theorem keptFields_kept : ∀ f ∈ keptFields, f.idx < 1024 ∧ f ∈ storedFields ++ pinFields ++ heldFields ∧ f.idx ∉ (shownAtReset ++ trialFields ++ queueFields).map Field.idx := by
  decide

theorem moduleReset_held (hp : power s.body ∉ [0, 1, 9]) (hheld : s.body.cox.path.heldReset = false) (hin : s.body.cox.path.inputAbsent = false) :
    RunsS .moduleReset s (fun u => u.mem = [] ∧ u.body.cox.path.heldReset = true ∧ power u.body = 2
      ∧ u.body.cox.path.moduleStop = s.body.cox.path.moduleStop ∧ u.body.host.calValid = s.body.host.calValid ∧ u.body.host.calBase = s.body.host.calBase
      ∧ u.body.host.cycles = s.body.host.cycles ∧ u.body.trust.nonces = [] ∧ u.body.logbook.queue = []
      ∧ u.body.dieMap = s.body.dieMap ∧ u.body.drovers = [] ∧ (∀ st, isStation st = true → Island.station st ∈ u.body.stopped)
      ∧ (∀ d, d < 4 → flagF u.body R.KLK_DIE_STATUS.isolated d = true) ∧ (∀ q, q < 18 → getF u.body R.KLK_PORT_STATUS.state q = 7)
      ∧ (∀ f j, f.idx < 1024 → f.idx ∉ (storedFields ++ pinFields ++ heldFields ++ shownAtReset).map Field.idx → getF u.body f j = fieldReset f.idx j)
      ∧ (∀ f j, f ∈ keptFields → getF u.body f j = getF s.body f j)) := by
  obtain ⟨c, hc⟩ : ∃ c, beforeReset s.body = c := ⟨_, rfl⟩
  have hbefore : Stands (trialFields ++ queueFields) s.body c := hc ▸ beforeReset_stands s.body
  obtain ⟨m, hm⟩ : ∃ m, holdReset c = m := ⟨_, rfl⟩
  obtain ⟨hh, hstop, hpow, htime, hnonce, hqueue, hmap, hdrv, hclk, hiso, hports, hfields⟩ : HeldReset c m := hm ▸ holdReset_shows c
  have hx : moduleReset s = { s with mem := [], body := m } := by
    rw [moduleReset_eq hp hheld, afterReset, if_neg (by simp [hin]), hc, hm]
  have htm := htime.trans hbefore.time
  have hvalid : (timeOf m.host).calValid = (timeOf s.body.host).calValid := congrArg _ htm
  have hbase : (timeOf m.host).calBase = (timeOf s.body.host).calBase := congrArg _ htm
  have hcycles : (timeOf m.host).cycles = (timeOf s.body.host).cycles := congrArg _ htm
  refine runsS_of_next rfl hx rfl ⟨rfl, hh, hpow, ?_, hvalid, hbase, hcycles, hnonce, hqueue, ?_, hdrv, hclk, hiso, hports, ?_, ?_⟩
  · exact hstop.trans (congrArg (fun x : CoxSide => x.path.moduleStop) hbefore.cox)
  · exact hmap.trans hbefore.dieMap
  · intro f j hf hx
    rw [List.map_append, List.mem_append] at hx
    exact (hfields f j hf fun h => hx (.inr h)).trans (getF_freshBody_fresh hf (fun h => hx (.inl h)) j)
  · intro f j hf
    obtain ⟨hlt, hkept, hn⟩ := keptFields_kept f hf
    rw [List.append_assoc, List.map_append, List.mem_append] at hn
    exact (hfields f j hlt fun h => hn (.inl h)).trans ((getF_freshBody_kept hlt hkept j).trans (hbefore.getF_eq hlt (fun h => hn (.inr h)) j))

theorem housekeepingStop_shows (h0 : power b ≠ 0) : power (housekeepingStop b) = 0 ∧ (housekeepingStop b).cox.path.housekeeping = false
    ∧ (housekeepingStop b).cox.path.heldReset = b.cox.path.heldReset := by
  have hbreak : (countBreak b).cox = b.cox := by
    unfold countBreak
    split <;> rfl
  have hopen := (contactorsOpen_steers (countBreak b)).path
  have hopened : (opened (countBreak b)).cox.path.heldReset = (countBreak b).cox.path.heldReset := rfl
  obtain ⟨e, he⟩ : ∃ e, contactorsOpen (countBreak b) = e := ⟨_, rfl⟩
  rw [he] at hopen
  obtain ⟨c, hc⟩ : ∃ c, updPath (fun p => { p with housekeeping := false, switch := 0, cellsRun := false }) e = c := ⟨_, rfl⟩
  have hpath : c.cox.path.housekeeping = false ∧ c.cox.path.heldReset = e.cox.path.heldReset := by
    rw [← hc]
    exact ⟨rfl, rfl⟩
  have hset := setPower_steers (n := 0) (by decide) c
  obtain ⟨d, hd⟩ : ∃ d, setPower 0 c = d := ⟨_, rfl⟩
  rw [hd] at hset
  have hpow : power d = 0 := hset.power_eq.trans (power_inPower (by decide) c)
  have hdp : d.cox.path = c.cox.path := hset.path
  obtain ⟨g, hg⟩ : ∃ g, setF (setF d R.SHP_STATUS.a_state 0 0) R.SHP_STATUS.b_state 0 0 = g := ⟨_, rfl⟩
  have hgw : Within [.regs] stateFields d g := by
    rw [← hg]
    exact (setF_within (f := R.SHP_STATUS.a_state) 0 0 d (by decide) (by decide) (by decide)).setF (by decide) (by decide) (by decide) _ _
  have hx : housekeepingStop b = updLog (fun l => { l with queue := [], dropped := none }) g := by
    unfold housekeepingStop
    rw [if_neg h0]
    simp only [he, hc, hd, hg]
  have hcox : (housekeepingStop b).cox = d.cox := by
    rw [hx]
    exact hgw.same (p := .cox) (by decide)
  refine ⟨?_, ?_, ?_⟩
  · rw [hx]
    unfold power at hpow ⊢
    exact (hgw.getF_eq (by decide) (by decide) 0).trans hpow
  · rw [hcox, hdp, hpath.1]
  · rw [hcox, hdp, hpath.2, hopen, hopened, hbreak]

theorem moduleReset_unpowered (hp : power s.body ∉ [0, 1, 9]) (hheld : s.body.cox.path.heldReset = false) (hin : s.body.cox.path.inputAbsent = true) :
    RunsS .moduleReset s (fun u => u.mem = [] ∧ u.body.cox.path.housekeeping = false ∧ power u.body = 0 ∧ u.body.cox.path.heldReset = false) := by
  have hheldPower := (holdReset_shows (beforeReset s.body)).power
  obtain ⟨k, hk⟩ : ∃ k, holdReset (beforeReset s.body) = k := ⟨_, rfl⟩
  rw [hk] at hheldPower
  obtain ⟨n, hn⟩ : ∃ n, updPath (fun x => { x with heldReset := false }) k = n := ⟨_, rfl⟩
  have hpow : power n = 2 := by
    rw [← hn]
    exact hheldPower
  have hfree : n.cox.path.heldReset = false := by
    rw [← hn]
    rfl
  obtain ⟨h0, hhouse, hh⟩ := housekeepingStop_shows (b := n) (by omega)
  obtain ⟨m, hm⟩ : ∃ m, housekeepingStop n = m := ⟨_, rfl⟩
  rw [hm] at h0 hhouse hh
  have hx : moduleReset s = { s with mem := [], body := m } := by
    rw [moduleReset_eq hp hheld, afterReset, if_pos hin, hk, hn, hm]
  exact runsS_of_next rfl hx rfl ⟨rfl, hhouse, h0, hh.trans hfree⟩

/-! ### The release (R655, R657) -/

theorem moduleResetRelease_ignored (h : b.cox.path.heldReset = false) : moduleResetRelease b = b := if_pos (by simp [h])

theorem moduleResetRelease_early (h : s.body.cox.path.heldReset = true) (hp : power s.body ≠ 2) :
    Runs .moduleResetRelease s [.cox] (fun b => b.cox = { s.body.cox with path := { s.body.cox.path with heldReset := false } }) := by
  refine runs_of_lift (f := moduleResetRelease) rfl ?_ (updPath_only (fun x => { x with heldReset := false }) s.body) rfl
  unfold moduleResetRelease
  rw [if_neg (by simp [h])]
  exact if_pos hp

theorem moduleResetRelease_resumes (h : s.body.cox.path.heldReset = true) (hp : power s.body = 2) (hblocks : s.body.cox.path.blocks = []) :
    RunsS .moduleResetRelease s (fun u => u.body.cox.path.heldReset = false
      ∧ u.body.stopped = [] ∧ (∀ d, d < 4 → flagF u.body R.KLK_DIE_STATUS.isolated d = false)
      ∧ (∀ q, q < 18 → getF u.body R.KLK_PORT_STATUS.state q = 0)
      ∧ getF u.body R.SHP_STATUS.a_state 0 = (if getF s.body R.SHP_STATUS.a_state 0 = 6 then 6 else 1)
      ∧ getF u.body R.SHP_STATUS.b_state 0 = if getF s.body R.SHP_STATUS.b_state 0 = 6 then 6 else 1) := by
  obtain ⟨k, hk⟩ : ∃ k, updPath (fun x => { x with heldReset := false }) s.body = k := ⟨_, rfl⟩
  have hkp : k.cox.path.heldReset = false ∧ k.cox.path.blocks = s.body.cox.path.blocks ∧ k.regs = s.body.regs ∧ power k = power s.body := by
    rw [← hk]
    exact ⟨rfl, rfl, rfl, rfl⟩
  obtain ⟨n, hn⟩ : ∃ n : Body, { k with stopped := [] } = n := ⟨_, rfl⟩
  have hnp : n.cox.path.heldReset = false ∧ n.cox.path.blocks = s.body.cox.path.blocks ∧ n.stopped = [] ∧ n.regs = s.body.regs := by
    rw [← hn]
    exact ⟨hkp.1, hkp.2.1, rfl, hkp.2.2.1⟩
  obtain ⟨hfree, hblk, hclk, hregs⟩ := hnp
  obtain ⟨c, hc⟩ : ∃ c, forEach (List.range 4) (fun d b => setFlag b R.KLK_DIE_STATUS.isolated d false) n = c := ⟨_, rfl⟩
  obtain ⟨hiso, hisos⟩ := forEach_setF_shows (f := R.KLK_DIE_STATUS.isolated) (by decide) (v := 0) (by decide) 4 n
  have hisoWithin : Within [.regs] [R.KLK_DIE_STATUS.isolated] n c := hc ▸ hiso
  have hisoFlag : ∀ d, d < 4 → flagF c R.KLK_DIE_STATUS.isolated d = false := fun d hd => by
    have hzero : getF c R.KLK_DIE_STATUS.isolated d = 0 := by
      rw [← hc]
      exact hisos d hd
    unfold flagF
    rw [hzero]
    rfl
  obtain ⟨e, he⟩ : ∃ e, forEach (List.range 18) (fun q b => setF b R.KLK_PORT_STATUS.state q 0) c = e := ⟨_, rfl⟩
  obtain ⟨hport, hports⟩ := forEach_setF_shows (f := R.KLK_PORT_STATUS.state) (by decide) (v := 0) (by decide) 18 c
  rw [he] at hport hports
  obtain ⟨hrel, ha, hb⟩ := releaseShepherds_shows e
  have hboth : Within [.regs] [R.KLK_DIE_STATUS.isolated, R.KLK_PORT_STATUS.state] n e := (hisoWithin.mono (by decide) (by decide)).trans (hport.mono (by decide) (by decide))
  have hcox : e.cox = n.cox := hboth.same (p := .cox) (by decide)
  have hfield : ∀ f : Field, f.idx < 1024 → f.idx ∉ [R.KLK_DIE_STATUS.isolated, R.KLK_PORT_STATUS.state].map Field.idx → getF e f 0 = getF s.body f 0 := fun f hf hx => by
    rw [hboth.getF_eq hf hx]
    unfold getF
    rw [hregs]
  have hx : moduleResetRelease s.body = releaseShepherds e := by
    unfold moduleResetRelease
    rw [if_neg (by simp [h])]
    simp only [hk]
    rw [if_neg (not_not.2 (hkp.2.2.2.trans hp)), hn, hc, he, hcox, hblk, hblocks]
    rfl
  refine runsS_of_lift (f := moduleResetRelease) rfl hx ⟨?_, ?_, fun d hd => ?_, fun q hq => ?_, ?_, ?_⟩
  · exact (congrArg (fun x : CoxSide => x.path.heldReset) ((hrel.same (p := .cox) (by decide)).trans hcox)).trans hfree
  · exact (hrel.same (p := .stopped) (by decide)).trans ((hboth.same (p := .stopped) (by decide)).trans hclk)
  · exact (hrel.flagF_eq (by decide) (by decide) d).trans ((hport.flagF_eq (by decide) (by decide) d).trans (hisoFlag d hd))
  · exact (hrel.getF_eq (by decide) (by decide) q).trans (hports q hq)
  · exact ha.trans (by rw [hfield _ (by decide) (by decide)])
  · exact hb.trans (by rw [hfield _ (by decide) (by decide)])

end ModuleReset

end Sys2Proof.Machine

/-! The steps of start-up that complete by themselves (R54, R65, R68, R649, R651, R653), and the obligation about resets and start-up (O60). -/

namespace Sys2Proof.Machine

section Startup

variable {b c : Body} {s : State} {d e : Nat}

/-! ### A die that is lost (R652, R653) -/

theorem dieLost_congr (h : c.cox = b.cox) (d : Nat) : dieLost c d = dieLost b d := by
  unfold dieLost
  rw [h]

theorem loseDie_within (d : Nat) (b : Body) : Within [.cox, .reports] [] b (loseDie d b) := by
  unfold loseDie
  split
  · exact .refl _ _ b
  · constructor <;> simp (disch := decide)

theorem dieLost_loseDie_same (d : Nat) (b : Body) : dieLost (loseDie d b) d = true := by
  unfold loseDie
  split
  · assumption
  · simp [dieLost, report, updPath]

theorem dieLost_loseDie_other {x : Nat} (h : x ≠ d) (b : Body) : dieLost (loseDie d b) x = dieLost b x := by
  unfold loseDie
  split
  · rfl
  · simp [dieLost, report, updPath, h]

theorem dieLost_loseDie {x : Nat} (h : dieLost b x = true) : dieLost (loseDie d b) x = true := by
  by_cases hx : x = d
  · rw [hx]
    exact dieLost_loseDie_same d b
  · rw [dieLost_loseDie_other hx, h]

/-! ### The edges (R54, R649) -/

/-- The modules of an edge that initialised. -/
def edgeUp (up : List Nat) (e : Nat) : Nat := (up.getD e 0).land (edgeModules (edgeKind (e / 4) (e % 4)))

/-- What the loss of an edge without modules takes with it. -/
def edgeLost (e : Nat) (b : Body) : Body :=
  if edgeKind (e / 4) (e % 4) = 1 then loseDie (e / 4) b
  else if edgeKind (e / 4) (e % 4) = 3 then (cornerLink (e / 4)).elim b (fun n => forEach (linkPorts n) (fun q b => portDown q 6 b) b)
  else b

/-- An edge is initialised. -/
def edgeStep (up : List Nat) (e : Nat) (b : Body) : Body :=
  let b := setF b R.STN_EDGE.module_up e (edgeUp up e)
  if edgeUp up e ≠ 0 then b else edgeLost e b

theorem edgesDone_eq (up : List Nat) (h6 : stepIsDone b 6 = true) (h7 : stepIsDone b 7 = false) :
    edgesDone up b = stepDone 7 (forEach (List.range 64) (edgeStep up) b) := by
  unfold edgesDone
  rw [if_neg (by simp [h6, h7])]
  refine congrArg (fun f => stepDone 7 (forEach (List.range 64) f b)) (funext fun e => funext fun x => ?_)
  unfold edgeStep edgeLost edgeUp
  cases cornerLink (e / 4) <;> rfl

theorem edgeUp_lt (up : List Nat) (e : Nat) : edgeUp up e < 2 ^ 16 := by
  refine Nat.and_lt_two_pow _ ?_
  unfold edgeModules
  split_ifs <;> decide

theorem portDowns_within (l : List Nat) (b : Body) : Within workParts downFields b (forEach l (fun q b => portDown q 6 b) b) := forEach_within (fun q c => portDown_within q 6 c) l b

theorem edgeLost_shows (e : Nat) (b : Body) : (∀ x, getF (edgeLost e b) R.STN_EDGE.module_up x = getF b R.STN_EDGE.module_up x)
    ∧ (∀ x, dieLost b x = true → dieLost (edgeLost e b) x = true) ∧ (edgeKind (e / 4) (e % 4) = 1 → dieLost (edgeLost e b) (e / 4) = true) := by
  unfold edgeLost
  split
  next hk => exact ⟨(loseDie_within _ b).getF_eq (by decide) (by decide), fun x hx => dieLost_loseDie hx, fun _ => dieLost_loseDie_same _ b⟩
  next hk =>
    refine ⟨?_, ?_, fun h => absurd h hk⟩
    · split
      · cases cornerLink (e / 4) with
        | none => exact fun _ => rfl
        | some n => exact (portDowns_within (linkPorts n) b).getF_eq (by decide) (by decide)
      · exact fun _ => rfl
    · split
      · cases cornerLink (e / 4) with
        | none => exact fun _ h => h
        | some n => exact fun x hx => (dieLost_congr ((portDowns_within (linkPorts n) b).same (p := .cox) (by decide)) x).trans hx
      · exact fun _ h => h

/-- An edge shows its modules, and its die is lost where none is left. -/
def EdgeShown (up : List Nat) (e : Nat) (b : Body) : Prop :=
  getF b R.STN_EDGE.module_up e = edgeUp up e ∧ (edgeUp up e = 0 → edgeKind (e / 4) (e % 4) = 1 → dieLost b (e / 4) = true)

theorem edgeStep_same (up : List Nat) (e : Nat) (b : Body) : EdgeShown up e (edgeStep up e b) := by
  have hset : getF (setF b R.STN_EDGE.module_up e (edgeUp up e)) R.STN_EDGE.module_up e = edgeUp up e := getF_setF_fits (edgeUp_lt up e)
  obtain ⟨hkeep, -, hlost⟩ := edgeLost_shows e (setF b R.STN_EDGE.module_up e (edgeUp up e))
  unfold edgeStep
  simp only []
  split
  next h => exact ⟨hset, fun h0 => absurd h0 h⟩
  next h => exact ⟨(hkeep e).trans hset, fun _ => hlost⟩

theorem edgeStep_other {x : Nat} (up : List Nat) (hx : x ≠ e) (h : EdgeShown up e b) : EdgeShown up e (edgeStep up x b) := by
  obtain ⟨c, hc⟩ : ∃ c, setF b R.STN_EDGE.module_up x (edgeUp up x) = c := ⟨_, rfl⟩
  have hset : EdgeShown up e c := by
    rw [← hc]
    exact ⟨(getF_setF_instance _ _ _ _ _ (Ne.symm hx)).trans h.1, h.2⟩
  obtain ⟨hkeep, hlost, -⟩ := edgeLost_shows x c
  unfold edgeStep
  simp only [hc]
  split
  · exact hset
  · exact ⟨(hkeep e).trans hset.1, fun h0 hk => hlost _ (hset.2 h0 hk)⟩

theorem edgesDone_shows (up : List Nat) (h6 : stepIsDone s.body 6 = true) (h7 : stepIsDone s.body 7 = false) :
    RunsS (.dieEdgeInitComplete up) s (fun u => stepIsDone u.body 7 = true ∧ ∀ e, e < 64 → EdgeShown up e u.body) := by
  obtain ⟨c, hc⟩ : ∃ c, forEach (List.range 64) (edgeStep up) s.body = c := ⟨_, rfl⟩
  have hshown : ∀ e, e < 64 → EdgeShown up e c := fun e he => by
    rw [← hc]
    exact forEach_visits (P := fun _ => True) List.nodup_range (List.mem_range.2 he) (fun _ _ _ _ => trivial) (fun x _ => edgeStep_same up e x)
      (fun x hx y hy => edgeStep_other up hx hy) trivial
  have hx : edgesDone up s.body = stepDone 7 c := by rw [edgesDone_eq up h6 h7, hc]
  refine runsS_of_lift (f := edgesDone up) rfl hx ⟨stepIsDone_stepDone (by decide) c, fun e he => ?_⟩
  exact ⟨(getF_setF_other _ _ (by decide) (by decide) (by decide)).trans (hshown e he).1, (hshown e he).2⟩

/-! ### The entries of a die's map (R66, R80) -/

/-- Entry `l` of the map registers of a die: whether it is valid, and the position it names. -/
def entryOf (b : Body) (d l : Nat) : Bool × Nat := (flagF b (mapValid (l % 4)) (d * 12 + l / 4), getF b (mapPhys (l % 4)) (d * 12 + l / 4))

/-- The body in which entry `l` of a die's map names position `p`. -/
def setEntry (d l p : Nat) (b : Body) : Body := setFlag (setF b (mapPhys (l % 4)) (d * 12 + l / 4) p) (mapValid (l % 4)) (d * 12 + l / 4) true

/-- The fields of the map registers. -/
def entryFields : List Field :=
  [R.STN_MAP.phys_0, R.STN_MAP.valid_0, R.STN_MAP.phys_1, R.STN_MAP.valid_1, R.STN_MAP.phys_2, R.STN_MAP.valid_2, R.STN_MAP.phys_3, R.STN_MAP.valid_3]

theorem mapFields_mem : ∀ i < 4, mapPhys i ∈ entryFields ∧ mapValid i ∈ entryFields := by decide

theorem setEntry_within (d l p : Nat) (b : Body) : Within [.regs] entryFields b (setEntry d l p b) := by
  have hi : l % 4 < 4 := Nat.mod_lt _ (by decide)
  obtain ⟨hp, hv, -⟩ := mapFields_distinct (l % 4) hi (l % 4) hi
  obtain ⟨hpm, hvm⟩ := mapFields_mem (l % 4) hi
  exact (setF_within _ _ b (by decide) hpm hp).setF (by decide) hvm hv _ _

theorem entryOf_setEntry_same {p : Nat} (hp : p < 64) (d l : Nat) (b : Body) : entryOf (setEntry d l p b) d l = (true, p) := by
  have hi : l % 4 < 4 := Nat.mod_lt _ (by decide)
  obtain ⟨hlt, hvlt, hne, -⟩ := mapFields_distinct (l % 4) hi (l % 4) hi
  obtain ⟨hw, hvw⟩ := mapFields_width (l % 4) hi
  unfold entryOf setEntry
  refine Prod.ext (flagF_setFlag_same _ _ _ _ (by omega)) ?_
  show getF _ _ _ = p
  rw [getF_setFlag_other _ _ hvlt hlt hne]
  exact getF_setF_fits (by rw [hw]; exact hp)

theorem entryOf_setEntry_other {l m : Nat} (h : m ≠ l) (d p : Nat) (b : Body) : entryOf (setEntry d l p b) d m = entryOf b d m := by
  have hi : l % 4 < 4 := Nat.mod_lt _ (by decide)
  have hj : m % 4 < 4 := Nat.mod_lt _ (by decide)
  obtain ⟨hp, hv, hpv, hij⟩ := mapFields_distinct (l % 4) hi (m % 4) hj
  obtain ⟨hp', hv', hpv', -⟩ := mapFields_distinct (m % 4) hj (l % 4) hi
  have hkey : ∀ f g : Field, f.idx < 1024 → g.idx < 1024 → (l % 4 ≠ m % 4 → f.idx ≠ g.idx) →
      (d * 12 + m / 4) * 1024 + g.idx ≠ (d * 12 + l / 4) * 1024 + f.idx := fun f g hf hg hne => by
    by_cases hmod : l % 4 = m % 4
    · have hdiv : m / 4 ≠ l / 4 := by omega
      omega
    · have := hne hmod
      omega
  have hcross : ∀ f g : Field, f.idx < 1024 → g.idx < 1024 → f.idx ≠ g.idx → (d * 12 + m / 4) * 1024 + g.idx ≠ (d * 12 + l / 4) * 1024 + f.idx := fun f g hf hg hne =>
    hkey f g hf hg fun _ => hne
  unfold entryOf setEntry setFlag flagF
  rw [getF_setF_ne _ _ _ _ _ _ (hkey _ _ hv hv' fun h => (hij h).2), getF_setF_ne _ _ _ _ _ _ (hcross _ _ hp hv' hpv),
    getF_setF_ne _ _ _ _ _ _ (hcross _ _ hv hp' (Ne.symm hpv')), getF_setF_ne _ _ _ _ _ _ (hkey _ _ hp hp' fun h => (hij h).1)]

theorem entryOf_within {ps : List Part} {fs : List Field} (h : Within ps fs b c) (hn : ∀ f ∈ entryFields, f.idx ∉ fs.map Field.idx) (d l : Nat) : entryOf c d l = entryOf b d l := by
  have hi : l % 4 < 4 := Nat.mod_lt _ (by decide)
  obtain ⟨hp, hv, -⟩ := mapFields_distinct (l % 4) hi (l % 4) hi
  obtain ⟨hpm, hvm⟩ := mapFields_mem (l % 4) hi
  unfold entryOf
  rw [h.flagF_eq hv (hn _ hvm), h.getF_eq hp (hn _ hpm)]

/-- The station that an entry names. -/
def entryStation (d : Nat) (x : Bool × Nat) : Option Nat := if x.1 then some (d * 64 + x.2) else none

theorem physOf_applied {l : Nat} (hl : l < 48) (d : Nat) (b : Body) : physOf (applyMap d b) d l = entryStation d (entryOf b d l) :=
  (physOf_applyMap b d d l hl).trans (if_pos rfl)

theorem physOf_applied_other {x : Nat} (h : x ≠ d) (l : Nat) (b : Body) : physOf (applyMap x b) d l = physOf b d l := by
  by_cases hl : l < 48
  · exact (physOf_applyMap b x d l hl).trans (if_neg (Ne.symm h))
  · unfold physOf
    rw [if_neg hl, if_neg hl]

theorem deliveryPhys_lt {l : Nat} (hl : l < 48) : deliveryPhys l < 52 := by
  unfold deliveryPhys
  split <;> omega

theorem deliveryMap_eq (d : Nat) (b : Body) : deliveryMap d b = applyMap d (forEach (List.range 48) (fun l b => setEntry d l (deliveryPhys l) b) b) := rfl

theorem deliveryEntries (d : Nat) (b : Body) : Within [.regs] entryFields b (forEach (List.range 48) (fun l b => setEntry d l (deliveryPhys l) b) b)
    ∧ ∀ l, l < 48 → entryOf (forEach (List.range 48) (fun l b => setEntry d l (deliveryPhys l) b) b) d l = (true, deliveryPhys l) := by
  refine ⟨forEach_within (fun l c => setEntry_within d l _ c) _ b, fun l hl => ?_⟩
  refine forEach_visits (P := fun _ => True) (Q := fun c => entryOf c d l = (true, deliveryPhys l)) List.nodup_range (List.mem_range.2 hl) (fun _ _ _ _ => trivial)
    (fun c _ => entryOf_setEntry_same (Nat.lt_trans (deliveryPhys_lt hl) (by decide)) d l c) (fun m hm c hc => ?_) trivial
  exact (entryOf_setEntry_other (Ne.symm hm) d _ c).trans hc

theorem remap_some (d l p : Nat) (b : Body) : remap d l (some p) b = emptyBarriers d (applyMap d (setEntry d l (p % 64) b)) := rfl

/-! ### What the test of a die leaves of other dies -/

/-- Going from `b` to `c`, nothing that the test of die `d` shows changes: its stations' memory and self-test, its map, its loss and the states
of its stations. -/
structure Aside (d : Nat) (b c : Body) : Prop where
  stations : ∀ st, st / 64 = d → (stn c st).sram = (stn b st).sram ∧ (stn c st).selfTestFailed = (stn b st).selfTestFailed
  map : ∀ l, physOf c d l = physOf b d l
  lost : dieLost c d = dieLost b d
  states : ∀ st, st / 64 = d → flagF c R.STN_CTRL.power_gate st = flagF b R.STN_CTRL.power_gate st ∧ getF c R.STN_STATUS.state st = getF b R.STN_STATUS.state st

namespace Aside

theorem refl (d : Nat) (b : Body) : Aside d b b := ⟨fun _ _ => ⟨rfl, rfl⟩, fun _ => rfl, rfl, fun _ _ => ⟨rfl, rfl⟩⟩

theorem trans {g : Body} (h : Aside d b c) (k : Aside d c g) : Aside d b g :=
  ⟨fun st hst => ⟨(k.stations st hst).1.trans (h.stations st hst).1, (k.stations st hst).2.trans (h.stations st hst).2⟩, fun l => (k.map l).trans (h.map l), k.lost.trans h.lost,
    fun st hst => ⟨(k.states st hst).1.trans (h.states st hst).1, (k.states st hst).2.trans (h.states st hst).2⟩⟩

theorem of_within {ps : List Part} {fs : List Field} (h : Within ps fs b c) (hs : Part.stations ∉ ps) (hm : Part.dieMap ∉ ps) (hc : Part.cox ∉ ps)
    (hg : R.STN_CTRL.power_gate.idx ∉ fs.map Field.idx) (hst : R.STN_STATUS.state.idx ∉ fs.map Field.idx) : Aside d b c :=
  ⟨fun st _ => by rw [h.stn_eq hs]; exact ⟨rfl, rfl⟩, fun l => physOf_congr (h.same (p := .dieMap) hm) d l, dieLost_congr (h.same (p := .cox) hc) d,
    fun st _ => ⟨h.flagF_eq (by decide) hg st, h.getF_eq (by decide) hst st⟩⟩

theorem forEach {α : Type} {f : α → Body → Body} {l : List α} (hf : ∀ x ∈ l, ∀ b, Aside d b (f x b)) (b : Body) : Aside d b (forEach l f b) :=
  forEach_keeps (P := Aside d b) (fun x hx c hc => hc.trans (hf x hx c)) (.refl d b)

end Aside

theorem applyMap_aside {x : Nat} (h : x ≠ d) (b : Body) : Aside d b (applyMap x b) :=
  ⟨fun _ _ => ⟨rfl, rfl⟩, fun l => physOf_applied_other h l b, rfl, fun _ _ => ⟨rfl, rfl⟩⟩

theorem setEntry_aside (x l p : Nat) (b : Body) : Aside d b (setEntry x l p b) :=
  .of_within (setEntry_within x l p b) (by decide) (by decide) (by decide) (by decide) (by decide)

/-- What the barriers of a die's stations leave of a station. -/
theorem emptyBarriers_stations (x : Nat) (b : Body) (st : Nat) :
    (stn (emptyBarriers x b) st).sram = (stn b st).sram ∧ (stn (emptyBarriers x b) st).selfTestFailed = (stn b st).selfTestFailed := by
  refine forEach_keeps (P := fun c => (stn c st).sram = (stn b st).sram ∧ (stn c st).selfTestFailed = (stn b st).selfTestFailed) (fun y _ c hc => ?_) ⟨rfl, rfl⟩
  by_cases hy : st = y
  · rw [← hy, stn_updStn_same]
    exact hc
  · rw [stn_updStn_ne _ _ _ _ hy]
    exact hc

theorem emptyBarriers_aside (x : Nat) (b : Body) : Aside d b (emptyBarriers x b) := by
  have hw := emptyBarriers_within x b
  exact ⟨fun st _ => emptyBarriers_stations x b st, fun l => physOf_congr (hw.same (p := .dieMap) (by decide)) d l, dieLost_congr (hw.same (p := .cox) (by decide)) d,
    fun st _ => ⟨hw.flagF_eq (by decide) (by decide) st, hw.getF_eq (by decide) (by decide) st⟩⟩

theorem testStation_shows (failed : List Nat) (st : Nat) (b : Body) : Within [.stations, .regs, .reports] [R.STN_FAULT.self_test_fail] b (testStation failed st b)
    ∧ ((stn (testStation failed st b) st).sram = [] ∧ (stn (testStation failed st b) st).selfTestFailed = failed.contains st)
    ∧ ∀ x, x ≠ st → stn (testStation failed st b) x = stn b x := by
  unfold testStation
  simp only []
  split
  all_goals
    refine ⟨?_, ?_, fun x hx => ?_⟩
    · constructor <;> simp (disch := decide)
    · simp
    · simp [stn_updStn_ne _ _ _ _ hx]

theorem testStation_aside {failed : List Nat} {st : Nat} (h : st / 64 ≠ d) (b : Body) : Aside d b (testStation failed st b) := by
  obtain ⟨hw, -, hother⟩ := testStation_shows failed st b
  refine ⟨fun x hx => ?_, fun l => physOf_congr (hw.same (p := .dieMap) (by decide)) d l, dieLost_congr (hw.same (p := .cox) (by decide)) d,
    fun st _ => ⟨hw.flagF_eq (by decide) (by decide) st, hw.getF_eq (by decide) (by decide) st⟩⟩
  rw [hother x fun he => h (he ▸ hx)]
  exact ⟨rfl, rfl⟩

theorem giveSpare_cases (d l : Nat) (b : Body) : giveSpare d l b = b ∨ ((stn b (d * 64 + deliveryPhys l)).selfTestFailed = true ∧ ∃ p, giveSpare d l b = remap d l (some p) b) := by
  unfold giveSpare
  simp only []
  split
  next h =>
    cases chooseSpare b (d * 64 + deliveryPhys l) with
    | none => exact .inl rfl
    | some p => exact .inr ⟨h, p, rfl⟩
  next => exact .inl rfl

theorem giveSpare_aside {x : Nat} (h : x ≠ d) (l : Nat) (b : Body) : Aside d b (giveSpare x l b) := by
  obtain he | ⟨-, p, he⟩ := giveSpare_cases x l b
  · rw [he]
    exact .refl d b
  · rw [he, remap_some]
    exact ((setEntry_aside x l _ b).trans (applyMap_aside h _)).trans (emptyBarriers_aside x _)

/-! ### The test of a die (R65, R651) -/

/-- The positions of a die. -/
def positions (d : Nat) : List Nat := (List.range 52).map (fun p => d * 64 + p)

/-- The stations of a die have run their self-test, and its map names the delivery position of each that passed. -/
structure Tested (failed : List Nat) (d : Nat) (b : Body) : Prop where
  stations : ∀ x, x < 52 → (stn b (d * 64 + x)).sram = [] ∧ (stn b (d * 64 + x)).selfTestFailed = failed.contains (d * 64 + x)
  small : ∀ l, l < 48 → (entryOf b d l).2 < 64
  kept : ∀ l, l < 48 → failed.contains (d * 64 + deliveryPhys l) = false → entryOf b d l = (true, deliveryPhys l)
  mapped : ∀ l, l < 48 → physOf b d l = entryStation d (entryOf b d l)

variable {failed : List Nat}

theorem Tested.spare {l : Nat} (h : Tested failed d b) (hl : l < 48) : Tested failed d (giveSpare d l b) ∧ (giveSpare d l b).cox = b.cox := by
  obtain he | ⟨hbad, p, he⟩ := giveSpare_cases d l b
  · rw [he]
    exact ⟨h, rfl⟩
  obtain ⟨c, hc⟩ : ∃ c, setEntry d l (p % 64) b = c := ⟨_, rfl⟩
  have hset : Within [.regs] entryFields b c := hc ▸ setEntry_within d l _ b
  have hsame : entryOf c d l = (true, p % 64) := hc ▸ entryOf_setEntry_same (Nat.mod_lt _ (by decide)) d l b
  have hother : ∀ m, m ≠ l → entryOf c d m = entryOf b d m := fun m hm => hc ▸ entryOf_setEntry_other hm d _ b
  have hempty := emptyBarriers_within d (applyMap d c)
  have hentry : ∀ m, entryOf (emptyBarriers d (applyMap d c)) d m = entryOf c d m := fun m =>
    (entryOf_within hempty (by decide) d m).trans (entryOf_within (applyMap_within d c) (by decide) d m)
  rw [he, remap_some, hc]
  refine ⟨⟨fun x hx => ?_, fun m hm => ?_, fun m hm hgood => ?_, fun m hm => ?_⟩, ?_⟩
  · obtain ⟨hram, htest⟩ := emptyBarriers_stations d (applyMap d c) (d * 64 + x)
    have hstn : stn (applyMap d c) (d * 64 + x) = stn b (d * 64 + x) := ((applyMap_within d c).stn_eq (by decide) _).trans (hset.stn_eq (by decide) _)
    rw [hram, htest, hstn]
    exact h.stations x hx
  · rw [hentry]
    by_cases hml : m = l
    · rw [hml, hsame]
      exact Nat.mod_lt _ (by decide)
    · rw [hother m hml]
      exact h.small m hm
  · rw [hentry]
    by_cases hml : m = l
    · have htest := (h.stations (deliveryPhys l) (deliveryPhys_lt hl)).2
      rw [hbad, ← hml, hgood] at htest
      cases htest
    · rw [hother m hml]
      exact h.kept m hm hgood
  · rw [hentry, physOf_congr (hempty.same (p := .dieMap) (by decide))]
    exact physOf_applied hm d c
  · exact (hempty.same (p := .cox) (by decide)).trans (((applyMap_within d c).same (p := .cox) (by decide)).trans (hset.same (p := .cox) (by decide)))

theorem Tested.spares (h : Tested failed d b) : Tested failed d (forEach (List.range 48) (giveSpare d) b) ∧ (forEach (List.range 48) (giveSpare d) b).cox = b.cox :=
  forEach_keeps (P := fun c => Tested failed d c ∧ c.cox = b.cox) (fun _ hl _ hc =>
    have hs := hc.1.spare (List.mem_range.1 hl)
    ⟨hs.1, hs.2.trans hc.2⟩) ⟨h, rfl⟩

/-- The body in which the stations of a die have run their self-test. -/
def stationsTested (failed : List Nat) (d : Nat) (b : Body) : Body := forEach (positions d) (testStation failed) (deliveryMap d b)

theorem positions_nodup (d : Nat) : (positions d).Nodup := List.nodup_range.map fun x y h => by
  have : d * 64 + x = d * 64 + y := h
  omega

theorem mem_positions {st : Nat} (h : st ∈ positions d) : st / 64 = d := by
  obtain ⟨x, hx, rfl⟩ := List.mem_map.1 h
  have := List.mem_range.1 hx
  omega

theorem stationsTested_tested (failed : List Nat) (d : Nat) (b : Body) : Tested failed d (stationsTested failed d b) ∧ (stationsTested failed d b).cox = b.cox := by
  obtain ⟨hset, hentry⟩ := deliveryEntries d b
  obtain ⟨c, hc⟩ : ∃ c, forEach (List.range 48) (fun l b => setEntry d l (deliveryPhys l) b) b = c := ⟨_, rfl⟩
  rw [hc] at hset hentry
  have hmap : deliveryMap d b = applyMap d c := by rw [deliveryMap_eq, hc]
  obtain ⟨g, hg⟩ : ∃ g, stationsTested failed d b = g := ⟨_, rfl⟩
  have hrun : g = forEach (positions d) (testStation failed) (applyMap d c) := by
    rw [← hg, ← hmap]
    rfl
  have htests : Within [.stations, .regs, .reports] [R.STN_FAULT.self_test_fail] (applyMap d c) g := by
    rw [hrun]
    exact forEach_within (fun st x => (testStation_shows failed st x).1) _ _
  have hall : ∀ l, entryOf g d l = entryOf c d l := fun l => (entryOf_within htests (by decide) d l).trans (entryOf_within (applyMap_within d c) (by decide) d l)
  rw [hg]
  refine ⟨⟨fun x hx => ?_, fun l hl => ?_, fun l hl _ => ?_, fun l hl => ?_⟩, ?_⟩
  · rw [hrun]
    refine forEach_visits (v := d * 64 + x) (P := fun _ => True)
      (Q := fun y => (stn y (d * 64 + x)).sram = [] ∧ (stn y (d * 64 + x)).selfTestFailed = failed.contains (d * 64 + x)) (positions_nodup d)
      (List.mem_map.2 ⟨x, List.mem_range.2 hx, rfl⟩) (fun _ _ _ _ => trivial) (fun y _ => (testStation_shows failed _ y).2.1) (fun z hz y hy => ?_) trivial
    rw [(testStation_shows failed z y).2.2 _ (Ne.symm hz)]
    exact hy
  · rw [hall, hentry l hl]
    exact Nat.lt_trans (deliveryPhys_lt hl) (by decide)
  · rw [hall, hentry l hl]
  · rw [hall, physOf_congr (htests.same (p := .dieMap) (by decide))]
    exact physOf_applied hl d c
  · exact (htests.same (p := .cox) (by decide)).trans (((applyMap_within d c).same (p := .cox) (by decide)).trans (hset.same (p := .cox) (by decide)))

/-- An active station stands idle (R65). -/
def standIdle (st : Nat) (b : Body) : Body := setF (setFlag b R.STN_CTRL.power_gate st false) R.STN_STATUS.state st 2

theorem standIdle_within (st : Nat) (b : Body) : Within [.regs] [R.STN_CTRL.power_gate, R.STN_STATUS.state] b (standIdle st b) :=
  (setF_within (f := R.STN_CTRL.power_gate) _ _ b (by decide) (by decide) (by decide)).setF (by decide) (by decide) (by decide) _ _

theorem standIdle_same (st : Nat) (b : Body) : flagF (standIdle st b) R.STN_CTRL.power_gate st = false ∧ getF (standIdle st b) R.STN_STATUS.state st = 2 := by
  unfold standIdle
  refine ⟨?_, getF_setF_fits (by decide)⟩
  rw [flagF_setF_other _ _ (by decide) (by decide) (by decide)]
  exact flagF_setFlag_same _ _ _ _ (by decide)

theorem standIdle_other {st x : Nat} (h : x ≠ st) (b : Body) : flagF (standIdle st b) R.STN_CTRL.power_gate x = flagF b R.STN_CTRL.power_gate x
    ∧ getF (standIdle st b) R.STN_STATUS.state x = getF b R.STN_STATUS.state x := by
  unfold standIdle setFlag
  constructor
  · rw [flagF_setF_other _ _ (by decide) (by decide) (by decide)]
    exact congrArg (· == 1) (getF_setF_instance _ _ _ _ _ h)
  · rw [getF_setF_instance _ _ _ _ _ h, getF_setF_other _ _ (by decide) (by decide) (by decide)]

/-- A station is not gated and stands idle. -/
def Idle (st : Nat) (b : Body) : Prop := flagF b R.STN_CTRL.power_gate st = false ∧ getF b R.STN_STATUS.state st = 2

theorem Idle.standIdle {st : Nat} (h : Idle st b) (x : Nat) : Idle st (standIdle x b) := by
  by_cases hx : st = x
  · rw [hx]
    exact standIdle_same x b
  · obtain ⟨hg, hs⟩ := standIdle_other hx b
    exact ⟨hg.trans h.1, hs.trans h.2⟩

theorem forEach_standIdle {st : Nat} (l : List Nat) (b : Body) (h : st ∈ l) : Idle st (forEach l standIdle b) := by
  induction l generalizing b with
  | nil => cases h
  | cons y l ih =>
    obtain rfl | h := List.mem_cons.1 h
    · exact forEach_keeps (P := Idle st) (l := l) (b := Sys2Proof.Machine.standIdle st b) (fun z _ c hc => hc.standIdle z) (standIdle_same st b)
    · exact ih (standIdle y b) h

theorem testDie_eq (hlost : dieLost b d = false) : testDie failed d b =
    if 4 < ((positions d).filter failed.contains).length then loseDie d (stationsTested failed d b)
    else forEach (dieStations (forEach (List.range 48) (giveSpare d) (stationsTested failed d b)) d) standIdle
      (forEach (List.range 48) (giveSpare d) (stationsTested failed d b)) := by
  unfold testDie
  rw [hlost]
  rfl

theorem Tested.of_dieStations {st : Nat} (h : Tested failed d b) (hst : st ∈ dieStations b d) : st / 64 = d := by
  obtain ⟨l, hl, hphys⟩ := List.mem_filterMap.1 hst
  have hlt := List.mem_range.1 hl
  rw [h.mapped l hlt] at hphys
  have hsmall := h.small l hlt
  unfold entryStation at hphys
  split at hphys
  · have := Option.some.inj hphys
    omega
  · cases hphys

theorem stationsTested_aside {x : Nat} (h : x ≠ d) (b : Body) : Aside d b (stationsTested failed x b) := by
  have hset : Aside d b (deliveryMap x b) := (Aside.forEach (fun l _ c => setEntry_aside x l _ c) b).trans (applyMap_aside h _)
  exact hset.trans (.forEach (fun st hst c => testStation_aside (fun he => h ((mem_positions hst).symm.trans he)) c) _)

theorem standIdle_aside {st : Nat} (h : st / 64 ≠ d) (b : Body) : Aside d b (standIdle st b) := by
  have hw := standIdle_within st b
  refine ⟨fun x _ => ?_, fun l => physOf_congr (hw.same (p := .dieMap) (by decide)) d l, dieLost_congr (hw.same (p := .cox) (by decide)) d,
    fun x hx => standIdle_other (show x ≠ st from fun he => h (he ▸ hx)) b⟩
  rw [hw.stn_eq (by decide)]
  exact ⟨rfl, rfl⟩

theorem testDie_aside {x : Nat} (h : x ≠ d) (b : Body) : Aside d b (testDie failed x b) := by
  cases hlost : dieLost b x
  · have htested := (stationsTested_tested failed x b).1.spares.1
    have hset := stationsTested_aside (failed := failed) h b
    rw [testDie_eq hlost]
    obtain ⟨c, hc⟩ : ∃ c, stationsTested failed x b = c := ⟨_, rfl⟩
    rw [hc] at htested hset ⊢
    split
    · have hw := loseDie_within x c
      refine hset.trans ⟨fun st _ => ?_, fun l => physOf_congr (hw.same (p := .dieMap) (by decide)) d l, dieLost_loseDie_other (Ne.symm h) c,
        fun st _ => ⟨hw.flagF_eq (by decide) (by decide) st, hw.getF_eq (by decide) (by decide) st⟩⟩
      rw [hw.stn_eq (by decide)]
      exact ⟨rfl, rfl⟩
    · refine (hset.trans (.forEach (fun l _ y => giveSpare_aside h l y) c)).trans (.forEach (fun st hst y => standIdle_aside (fun he => h ?_) y) _)
      exact (htested.of_dieStations hst).symm.trans he
  · unfold testDie
    rw [if_pos hlost]
    exact .refl d b

/-- What the test of a die shows (R65, R68, R651). -/
structure DieTested (failed : List Nat) (d : Nat) (b : Body) : Prop where
  stations : ∀ x, x < 52 → (stn b (d * 64 + x)).sram = [] ∧ (stn b (d * 64 + x)).selfTestFailed = failed.contains (d * 64 + x)
  lost : 4 < ((positions d).filter failed.contains).length → dieLost b d = true
  present : ((positions d).filter failed.contains).length ≤ 4 → dieLost b d = false
    ∧ (∀ l, l < 48 → failed.contains (d * 64 + deliveryPhys l) = false → physOf b d l = some (d * 64 + deliveryPhys l))
    ∧ (∀ st ∈ dieStations b d, st / 64 = d ∧ flagF b R.STN_CTRL.power_gate st = false ∧ getF b R.STN_STATUS.state st = 2)

theorem dieStations_congr (h : ∀ l, physOf c d l = physOf b d l) : dieStations c d = dieStations b d := congrArg (List.filterMap · (List.range 48)) (funext h)

theorem DieTested.aside (h : DieTested failed d b) (k : Aside d b c) : DieTested failed d c := by
  refine ⟨fun x hx => ?_, fun hn => k.lost.trans (h.lost hn), fun hn => ?_⟩
  · obtain ⟨hram, htest⟩ := k.stations (d * 64 + x) (by omega)
    rw [hram, htest]
    exact h.stations x hx
  · obtain ⟨hpresent, hmap, hidle⟩ := h.present hn
    refine ⟨k.lost.trans hpresent, fun l hl hgood => (k.map l).trans (hmap l hl hgood), fun st hst => ?_⟩
    rw [dieStations_congr k.map] at hst
    obtain ⟨hd, hgate, hstate⟩ := hidle st hst
    obtain ⟨hg, hs⟩ := k.states st hd
    exact ⟨hd, hg.trans hgate, hs.trans hstate⟩

theorem testDie_tests (hlost : dieLost b d = false) : DieTested failed d (testDie failed d b) := by
  obtain ⟨htested, hcox⟩ := stationsTested_tested failed d b
  obtain ⟨hspares, hscox⟩ := htested.spares
  rw [testDie_eq hlost]
  obtain ⟨c, hc⟩ : ∃ c, stationsTested failed d b = c := ⟨_, rfl⟩
  obtain ⟨g, hg⟩ : ∃ g, forEach (List.range 48) (giveSpare d) c = g := ⟨_, rfl⟩
  rw [hc] at htested hcox hspares hscox ⊢
  rw [hg] at hspares hscox ⊢
  split
  next hn =>
    refine ⟨fun x hx => ?_, fun _ => dieLost_loseDie_same d c, fun h => absurd h (by omega)⟩
    rw [(loseDie_within d c).stn_eq (by decide)]
    exact htested.stations x hx
  next hn =>
    have hidle : Within [.regs] [R.STN_CTRL.power_gate, R.STN_STATUS.state] g (forEach (dieStations g d) standIdle g) := forEach_within standIdle_within _ g
    have hmap : ∀ l, physOf (forEach (dieStations g d) standIdle g) d l = physOf g d l := fun l => physOf_congr (hidle.same (p := .dieMap) (by decide)) d l
    refine ⟨fun x hx => ?_, fun h => absurd h hn, fun _ => ⟨?_, fun l hl hgood => ?_, fun st hst => ?_⟩⟩
    · rw [hidle.stn_eq (by decide)]
      exact hspares.stations x hx
    · rw [dieLost_congr ((hidle.same (p := .cox) (by decide)).trans (hscox.trans hcox)), hlost]
    · rw [hmap, hspares.mapped l hl, hspares.kept l hl hgood]
      rfl
    · rw [dieStations_congr hmap] at hst
      exact ⟨hspares.of_dieStations hst, forEach_standIdle _ g hst⟩

theorem selfTestsDone_shows (hok : failed.all isStation = true) (h6 : stepIsDone s.body 6 = true) (h9 : stepIsDone s.body 9 = false) (hon : shepherdActive s.body = true) :
    RunsS (.stationSelfTestComplete failed) s (fun u => stepIsDone u.body 9 = true ∧ ∀ d, d < 16 → dieLost s.body d = false → DieTested failed d u.body) := by
  obtain ⟨c, hc⟩ : ∃ c, forEach (List.range 16) (testDie failed) s.body = c := ⟨_, rfl⟩
  have htests : ∀ d, d < 16 → dieLost s.body d = false → DieTested failed d c := fun d hd hlost => by
    rw [← hc]
    exact forEach_visits (P := fun x => dieLost x d = false) List.nodup_range (List.mem_range.2 hd) (fun x hx y hy => (testDie_aside hx y).lost.trans hy)
      (fun y hy => testDie_tests hy) (fun x hx y hy => hy.aside (testDie_aside hx y)) hlost
  have hx : selfTestsDone failed s.body = stepDone 9 c := by
    rw [← hc]
    exact if_neg (by simp [h6, h9, hon])
  have hstep : Within [.regs] [R.SHP_STARTUP.done] c (stepDone 9 c) := setF_within _ _ c (by decide) (by decide) (by decide)
  exact runsS_of_lift (f := selfTestsDone failed) (lift_of_onUnit hok) hx ⟨stepIsDone_stepDone (by decide) c,
    fun d hd hlost => (htests d hd hlost).aside (.of_within hstep (by decide) (by decide) (by decide) (by decide) (by decide))⟩

/-! ### The obligation -/

/-- Settles O60: a reset keeps the named fields by a filter of the field file, and what comes after it writes few; the tests of the dies do not
touch each other (`Aside`). -/
theorem resetsAndStartUp : Obligations.ResetsAndStartUp := by
  unfold Obligations.ResetsAndStartUp
  intro s
  refine ⟨?noPower, ?powerOn, ?noReset, ?early, ?reset, ?notHeld, ?releaseEarly, ?releaseMem, ?release, ?edges, ?tests⟩
  case noPower =>
    refine fun h => runs_stays (t := s) ?_ rfl
    have hx : powerOn s.body = s.body := if_pos h
    show Host.Outcome.next _ = _
    rw [if_pos h, hx]
  case powerOn => exact fun h2 hh => powerOnReset_resets h2 hh
  case noReset => exact fun h => runs_stays rfl (moduleReset_ignored h)
  case early =>
    refine fun h hheld => ⟨fun hin => runs_stays rfl ((moduleReset_early h hheld).trans (if_pos hin)), fun hin => moduleReset_early_shows h hheld hin⟩
  case reset => exact fun hp hheld => ⟨fun hin => moduleReset_held hp hheld hin, fun hin => moduleReset_unpowered hp hheld hin⟩
  case notHeld => exact fun h => runs_same rfl (moduleResetRelease_ignored h)
  case releaseEarly => exact fun h hp => moduleResetRelease_early h hp
  case releaseMem => exact fun _ => ⟨_, rfl, rfl, rfl⟩
  case release => exact fun h hp hblocks => moduleResetRelease_resumes h hp hblocks
  case edges =>
    refine fun up => ⟨fun h => runs_same rfl (if_pos (by simpa using h)), fun h6 h7 => ?_⟩
    obtain ⟨u, hx, hpend, hdone, hedges⟩ := edgesDone_shows up h6 h7
    exact ⟨u, hx, hpend, hdone, fun e he => hedges e he⟩
  case tests =>
    refine fun failed hok => ⟨fun h => runs_same (lift_of_onUnit hok) (if_pos (by simpa using h)), fun h6 h9 hon => ?_⟩
    obtain ⟨u, hx, hpend, hdone, htests⟩ := selfTestsDone_shows hok h6 h9 hon
    refine ⟨u, hx, hpend, hdone, fun d hd hlost => ?_⟩
    obtain ⟨hstations, hgone, hpresent⟩ := htests d hd hlost
    refine ⟨hstations, hgone, fun hn => ?_⟩
    obtain ⟨hl, hmap, hidle⟩ := hpresent hn
    exact ⟨hl, hmap, fun st hst => (hidle st hst).2⟩

end Startup

end Sys2Proof.Machine

/-! Firmware images, activation and trials (R554, R555, R571 to R576, R636). -/

namespace Sys2Proof.Machine

section Firmware

variable {b c : Body} {s : State} {m w : Nat} {t : Taken}

/-! ### How a command that acts ends (R507, R509, R522) -/

/-- What the answer to a command leaves: the logbook takes its record, and the mailbox's fields show the answer. -/
theorem answer_within (hm : m < 16) (ht : (mbx b m).taken = some t) (hq : t.noIrq = true) (st : Nat) (r : List Byte) : Within [.regs, .host] replyFields b (answer m st r b) := by
  obtain ⟨resp, us, he, -⟩ := answer_eq hm ht hq st r
  rw [he]
  constructor <;> simp (disch := decide) [updMbx, replyFields]

theorem cmdRecord_within (cls st : Nat) (b : Body) : Within [.logbook] [] b (cmdRecord cls m st b) := by
  unfold cmdRecord
  split
  · exact .refl _ _ b
  · exact logFrom_within _ _ _ _

theorem finish_ok_within (hm : m < 16) (ht : (mbx b m).taken = some t) (hq : t.noIrq = true) (r : List Byte) :
    Within [.regs, .host, .logbook] replyFields b (finish m (.ok r) b) := by
  obtain ⟨c, hc⟩ : ∃ c, (if ((mbx b m).taken.bind (fun t => cmdOf t.opcode)).all (fun c => decide (c.kind = .read)) then b else cmdRecord 0x10 m 0 b) = c := ⟨_, rfl⟩
  have hrec : Within [.logbook] [] b c := by
    rw [← hc]
    exact .ite (.refl _ _ b) (cmdRecord_within 0x10 0 b)
  have htc : (mbx c m).taken = some t := by rw [hrec.mbx_eq (by decide), ht]
  unfold finish
  simp only [hc]
  exact (hrec.mono (by decide) (by decide)).trans ((answer_within hm htc hq 0 r).mono (by decide) (by decide))

/-- A command that acts and is answered OK. -/
theorem runsS_acted {q : Instr} {op : Nat} (h : Asked m op t s.body) {sel : List Byte → Bool} (hs : sel t.body = true) {f : List Byte → Body → Reply × Body}
    (hx : exec q s = onUnitS (isMailbox m) (commandB m op sel f) s) {r : List Byte} (hf : f t.body s.body = (.ok r, b)) (ht : (mbx b m).taken = some t) :
    ∃ d, exec q s = .next { s with body := d } ∧ Answered m t 0 r d ∧ Within [.regs, .host, .logbook] replyFields b d := by
  obtain ⟨hm, -, -, hq, -⟩ := id h
  exact ⟨_, by rw [hx, onUnitS, if_pos (isMailbox_of_lt hm), commandB_of_asked f h hs, hf], finish_answers hm ht hq r, finish_ok_within hm ht hq r⟩

/-- A command that is refused after it has acted. -/
theorem runsS_refused {q : Instr} {op : Nat} (h : Asked m op t s.body) {sel : List Byte → Bool} (hs : sel t.body = true) {f : List Byte → Body → Reply × Body}
    (hx : exec q s = onUnitS (isMailbox m) (commandB m op sel f) s) {st : Nat} {off : Option Nat} {detail : Nat} (hf : f t.body s.body = (.no st off detail, b))
    (ht : (mbx b m).taken = some t) :
    ∃ d, exec q s = .next { s with body := d } ∧ Refused m t st off detail d ∧ Within [.regs, .host] replyFields b d := by
  obtain ⟨hm, -, -, hq, -⟩ := id h
  refine ⟨refuse m st off detail b, ?_, (answer_shows hm ht hq _ _).1, answer_within hm ht hq _ _⟩
  rw [hx, onUnitS, if_pos (isMailbox_of_lt hm), commandB_of_asked f h hs, hf]
  rfl

theorem fwEvent_mbx (event slot k : Nat) (b : Body) : mbx (fwEvent event slot b) k = mbx b k := by
  unfold fwEvent
  rw [raiseVec_mbx, (logRec_within _ _ b).mbx_eq (by decide)]

/-! ### Reading an image from stack memory (R573) -/

/-- The fields that record the errors of stack units. -/
def unitErrorFields : List Field := [R.MEM_ERR_COUNT.corrected, R.MEM_ERR_COUNT.uncorrectable, R.MEM_ERR_INFO.pos0, R.MEM_ERR_INFO.pos1, R.MEM_ERR_INFO.kind,
  R.MEM_ERR_INFO.valid, R.MEM_ERR_INFO.more, R.MEM_ERR_ADDR.addr]

/-- The parts that reading stack memory changes. -/
def readParts : List Part := [.regs, .reports, .free]

theorem recordMemErr_within (k addr kind : Nat) (pos : List Nat) (b : Body) : Within readParts unitErrorFields b (recordMemErr k addr kind pos b) := by
  have hset : ∀ {f : Field}, f ∈ unitErrorFields → f.idx < 1024 → ∀ v (c : Body), Within readParts unitErrorFields c (setF c f k v) := fun hm hf v c =>
    setF_within k v c (by decide) hm hf
  have hall : ∀ x y (c : Body), Within readParts unitErrorFields c (showErr k addr kind x y c) := fun x y c =>
    ((((hset (by decide) (by decide) _ c).trans (hset (by decide) (by decide) _ _)).trans (hset (by decide) (by decide) _ _)).trans
      (hset (by decide) (by decide) _ _)).trans (hset (by decide) (by decide) _ _)
  have hmore := hset (f := R.MEM_ERR_INFO.more) (by decide) (by decide) (bif true then 1 else 0) b
  unfold recordMemErr
  exact .ite (hall _ _ b) (.ite (hmore.trans (hall _ _ _)) hmore)

theorem noteDecode_within (u : Nat) (scrub : Bool) (d : Decoded) (b : Body) : Within readParts unitErrorFields b (noteDecode u scrub d b) := by
  have hadd : ∀ {f : Field}, f ∈ unitErrorFields → f.idx < 1024 → ∀ k, Within readParts unitErrorFields b (addSat b f k 1) := fun hm hf k =>
    setF_within k _ b (by decide) hm hf
  have hreport : ∀ r (c : Body), Within readParts unitErrorFields c (report r c) := fun r c => by constructor <;> simp (disch := decide) [readParts]
  unfold noteDecode
  simp only []
  split
  · exact ((hadd (by decide) (by decide) _).trans (recordMemErr_within _ _ _ _ _)).trans (hreport _ _)
  · exact .ite (.refl _ _ b) ((hadd (by decide) (by decide) _).trans (recordMemErr_within _ _ _ _ _))

theorem withFree_reads (n : Nat) (b : Body) : Within readParts unitErrorFields b (withFree b n) :=
  ⟨fun p => by cases p <;> first | exact .inl (by decide) | exact .inr rfl, fun _ _ _ _ => rfl⟩

theorem readStackUnits_within (us : List Nat) (s : State) : Within readParts unitErrorFields s.body (readStackUnits us s).2.body := by
  induction us generalizing s with
  | nil => exact .refl _ _ _
  | cons u us ih =>
    have hone : Within readParts unitErrorFields s.body (readStackUnit u s).2.body := (withFree_reads _ s.body).trans (noteDecode_within u false _ _)
    generalize hr : readStackUnit u s = r at hone
    unfold readStackUnits
    rw [hr]
    exact hone.trans ((withFree_reads (r.2.body.free + 1) r.2.body).trans (ih { r.2 with body := withFree r.2.body (r.2.body.free + 1) }))

theorem readStack_within (a n : Nat) (s : State) : Within readParts unitErrorFields s.body (readStack a n s).2.body := readStackUnits_within (unitsOf a n) s

/-- A body whose reports are set back. -/
def withReports (rs : List Source) (b : Body) : Body := { b with reports := rs }

theorem withReports_within (rs : List Source) (b : Body) : Within readParts unitErrorFields b (withReports rs b) :=
  ⟨fun p => by cases p <;> first | exact .inl (by decide) | exact .inr rfl, fun _ _ _ _ => rfl⟩

theorem readImage_within (a n : Nat) (s : State) : Within readParts unitErrorFields s.body (readImage a n s).2.body := by
  have hfirst := readStack_within a (min n 512) s
  unfold readImage
  simp only []
  split
  · exact hfirst.trans (withReports_within _ _)
  · exact (hfirst.trans (readStack_within _ _ _)).trans (withReports_within _ _)

theorem readImage_pending (a n : Nat) (s : State) : (readImage a n s).2.pending = s.pending := by
  unfold readImage
  simp only []
  split
  · exact readStack_pending _ _ _
  · simp [onBody]

/-! ### The stage (R554) -/

/-- A stage ends: its event, then its answer. -/
theorem fwStage_ends (h : Asked m 0x0801 t s.body) {r : Reply} {u : State} (hf : fwStage t.body s = (r, onBody (fwEvent 1 (stageSlot s.body)) u)) :
    exec (.fwStage m) s = .next { u with body := finish m r (fwEvent 1 (stageSlot s.body) u.body) } := by
  obtain ⟨hm, -, -, -, -⟩ := id h
  show onUnitS (isMailbox m) (command m 0x0801 anyAction fwStage) s = _
  unfold onUnitS command
  rw [if_pos (isMailbox_of_lt hm), inExecution_of_asked h rfl]
  simp only [hf]
  rfl

theorem fwStage_refuses (h : Asked m 0x0801 t s.body) {st : Nat} {off : Option Nat} {detail : Nat}
    (hf : fwStage t.body s = (.no st off detail, onBody (fwEvent 1 (stageSlot s.body)) s)) :
    RunsS (.fwStage m) s (fun u => Refused m t st off detail u.body ∧ u.body.trust = s.body.trust) := by
  obtain ⟨hm, ht, -, hq, -⟩ := id h
  obtain ⟨c, hc⟩ : ∃ c, fwEvent 1 (stageSlot s.body) s.body = c := ⟨_, rfl⟩
  have hw : Within [.logbook, .regs, .host, .sent] [R.IRQ_CAUSE.cause] s.body c := hc ▸ fwEvent_within 1 _ s.body
  have htc : (mbx c m).taken = some t := by rw [← hc, fwEvent_mbx, ht]
  have hx := fwStage_ends h hf
  rw [hc] at hx
  exact ⟨_, hx, rfl, (answer_shows hm htc hq _ _).1,
    ((answer_within hm htc hq st _).same (p := .trust) (by decide)).trans (hw.same (p := .trust) (by decide))⟩

theorem writeSlot_shows (i : FwImage) (b : Body) : Within [.trust, .regs] [R.SHP_FW_SLOTS.other_valid] b (writeSlot i b) ∧ slotImage (writeSlot i b) (stageSlot b) = some i
    ∧ slotImage (writeSlot i b) (1 - stageSlot b) = slotImage b (1 - stageSlot b) ∧ flagF (writeSlot i b) R.SHP_FW_SLOTS.other_valid 0 = true := by
  have hslot : stageSlot b = 0 ∨ stageSlot b = 1 := by
    unfold stageSlot
    omega
  obtain ⟨c, hc⟩ : ∃ c, updTrust (fun t => if stageSlot b = 0 then { t with slotA := some i } else { t with slotB := some i }) b = c := ⟨_, rfl⟩
  have hcw : Within [.trust, .regs] [R.SHP_FW_SLOTS.other_valid] b c := by
    rw [← hc]
    constructor <;> simp (disch := decide)
  have htrust : (writeSlot i b).trust = c.trust := by
    rw [← hc]
    simp [writeSlot]
  have hcut : c.trust = if stageSlot b = 0 then { b.trust with slotA := some i } else { b.trust with slotB := some i } := by
    rw [← hc]
    rfl
  refine ⟨?_, ?_, ?_, ?_⟩
  · unfold writeSlot
    simp only [hc]
    exact hcw.setF (by decide) (by decide) (by decide) _ _
  · unfold slotImage
    rw [htrust, hcut]
    obtain h | h := hslot <;> rw [h] <;> rfl
  · unfold slotImage
    rw [htrust, hcut]
    obtain h | h := hslot <;> rw [h] <;> rfl
  · unfold writeSlot
    exact flagF_setFlag_same _ _ _ _ (by decide)

theorem fwStage_writes {bs : List Byte} (h : Asked m 0x0801 t s.body) (hbusy : fwBusy s.body = false) (ha : bfield t.body 0 8 % 4096 = 0)
    (hfit : bfield t.body 0 8 + bfield t.body 8 4 ≤ 12 * stackBytes) (hlen : bfield t.body 8 4 ≤ slotBytes)
    (hread : (readImage (bfield t.body 0 8) (bfield t.body 8 4) s).1 = (none, bs)) :
    RunsS (.fwStage m) s (fun u => slotImage u.body (stageSlot s.body) = some (imageOf bs) ∧ (mbx u.body m).taken = none
      ∧ flagF u.body R.SHP_FW_SLOTS.other_valid 0 = true ∧ slotImage u.body (1 - stageSlot s.body) = slotImage s.body (1 - stageSlot s.body)) := by
  obtain ⟨hm, ht, -, hq, -⟩ := id h
  have hr := readImage_within (bfield t.body 0 8) (bfield t.body 8 4) s
  have hp := readImage_pending (bfield t.body 0 8) (bfield t.body 8 4) s
  have hx := fun r u => fwStage_ends (r := r) (u := u) h
  unfold fwStage at hx
  simp only [hbusy, Bool.false_eq_true, if_false] at hx
  rw [if_neg (by omega), if_neg (by omega)] at hx
  generalize readImage (bfield t.body 0 8) (bfield t.body 8 4) s = z at hr hp hread hx
  obtain ⟨⟨e, ys⟩, u⟩ := z
  cases hread
  obtain ⟨hslotw, himage, hkeep, hvalid⟩ := writeSlot_shows (imageOf bs) u.body
  have hslot : stageSlot u.body = stageSlot s.body := by
    unfold stageSlot
    rw [hr.getF_eq (by decide) (by decide)]
  obtain ⟨c, hc⟩ : ∃ c, writeSlot (imageOf bs) u.body = c := ⟨_, rfl⟩
  rw [hc] at hslotw himage hkeep hvalid
  rw [hslot] at himage hkeep
  obtain ⟨d, hd⟩ : ∃ d, fwEvent 1 (stageSlot s.body) c = d := ⟨_, rfl⟩
  have hev : Within [.logbook, .regs, .host, .sent] [R.IRQ_CAUSE.cause] c d := hd ▸ fwEvent_within 1 _ c
  have htd : (mbx d m).taken = some t := by
    rw [← hd, fwEvent_mbx, hslotw.mbx_eq (by decide), hr.mbx_eq (by decide), ht]
  have hub : onBody (writeSlot (imageOf bs)) u = { u with body := c } := by
    unfold onBody
    rw [hc]
  have hx' := hx _ { u with body := c } (by rw [← hub])
  simp only [hd] at hx'
  obtain ⟨r, hrr⟩ : ∃ r, leBytes 2 (stageSlot s.body) ++ leBytes 2 (imageOf bs).build ++ leBytes 1 (imageOf bs).minor ++ leBytes 1 (imageOf bs).major ++ leBytes 10 0 = r := ⟨_, rfl⟩
  rw [hrr] at hx'
  have hfin := finish_ok_within hm htd hq r
  obtain ⟨-, htaken, -⟩ := finish_answers hm htd hq r
  obtain ⟨g, hg⟩ : ∃ g, finish m (.ok r) d = g := ⟨_, rfl⟩
  rw [hg] at hx' hfin htaken
  have htrust : g.trust = c.trust := (hfin.same (p := .trust) (by decide)).trans (hev.same (p := .trust) (by decide))
  refine ⟨_, hx', hp, ?_, htaken, ?_, ?_⟩
  · exact (slotImage_congr htrust _).trans himage
  · exact (hfin.flagF_eq (by decide) (by decide) 0).trans ((hev.flagF_eq (by decide) (by decide) 0).trans hvalid)
  · exact (slotImage_congr htrust _).trans (hkeep.trans (slotImage_congr (hr.same (p := .trust) (by decide)) _))

end Firmware

end Sys2Proof.Machine

/-! Activation of an image, and the course of its trial (R555, R575, R636). -/

namespace Sys2Proof.Machine

section Trial

variable {b c : Body} {s : State} {m w : Nat} {t : Taken}

/-! ### What a restart of a Shepherd leaves -/

theorem updSh_mbx (w : Nat) (f : Shepherd → Shepherd) (b : Body) (k : Nat) : mbx (updSh w f b) k = mbx b k := by
  unfold updSh updHost mbx
  split <;> rfl

theorem startRestart_mbx (w k : Nat) (b : Body) : mbx (startRestart w b) k = mbx b k := by
  obtain ⟨c, hc⟩ : ∃ c, setShState w 5 (updSh w (fun x => { x with halted := false }) b) = c := ⟨_, rfl⟩
  have hset : mbx c k = mbx b k := by
    rw [← hc, (setShState_within w 5 _).mbx_eq (by decide), updSh_mbx]
  unfold startRestart shpRecord shpEvent
  simp only [hc]
  rw [(logRec_within _ _ _).mbx_eq (by decide), raiseVec_mbx, setFlag, mbx_setF, addSat, mbx_setF, hset]

theorem startRestart_tends (w : Nat) (b : Body) :
    Tends ([R.SHP_COUNTS.restarts, R.IRQ_CAUSE.cause, R.SHP_EVENTS.a_failed, R.SHP_EVENTS.b_failed] ++ stateFields) b (startRestart w b) := by
  obtain ⟨c, hc⟩ : ∃ c, addSat (setShState w 5 (updSh w (fun x => { x with halted := false }) b)) R.SHP_COUNTS.restarts 0 1 = c := ⟨_, rfl⟩
  have hset : Tends ([R.SHP_COUNTS.restarts, R.IRQ_CAUSE.cause, R.SHP_EVENTS.a_failed, R.SHP_EVENTS.b_failed] ++ stateFields) b c := by
    rw [← hc]
    exact (((Tends.refl _ b).updSh w _).trans ((setShState_tends w 5 _).mono (by decide))).setF (by decide) (by decide) 0 _
  unfold startRestart
  simp only [hc]
  refine hset.trans (Tends.trans ?_ ((shpRecord_tends 3 0 0 _).mono (List.nil_subset _)))
  split
  · exact (shpEvent_shows (f := R.SHP_EVENTS.a_failed) (by decide) (by decide) (by decide) c).1.mono (by decide)
  · exact (shpEvent_shows (f := R.SHP_EVENTS.b_failed) (by decide) (by decide) (by decide) c).1.mono (by decide)

/-! ### Activation (R555) -/

theorem fwActivate_ready (hbusy : fwBusy b = false) (hi : (slotImage b (stageSlot b)).isSome = true) (now : Bool) (bs : List Byte) :
    fwActivate now bs b = (.ok (leBytes 1 (stageSlot b) ++ leBytes 1 (ofFlag now) ++ leBytes 6 0), activate now b) := by
  have hsome : (slotImage b (stageSlot b)).isNone = false := by
    cases h : slotImage b (stageSlot b)
    · rw [h] at hi
      cases hi
    · rfl
  unfold fwActivate
  simp only [hbusy, hsome, Bool.false_eq_true, if_false]

theorem actionIs_of {off v : Nat} {body : List Byte} (h : (body.getD off 0).toNat = v) : actionIs off v body = true := beq_iff_eq.2 h

theorem fwActivate_next (h : Asked m 0x0802 t s.body) (hbusy : fwBusy s.body = false) (hi : (slotImage s.body (stageSlot s.body)).isSome = true)
    (hwhen : (t.body.getD 0 0).toNat = 0) : Runs (.fwActivateDeferred m) s [.host, .regs, .logbook, .trust] (fun b =>
      b.trust = { s.body.trust with nextTrial := true } ∧ Answered m t 0 (leBytes 1 (stageSlot s.body) ++ leBytes 1 0 ++ leBytes 6 0) b) := by
  obtain ⟨-, ht, -⟩ := id h
  obtain ⟨c, hc⟩ : ∃ c, updTrust (fun t => { t with nextTrial := true }) s.body = c := ⟨_, rfl⟩
  have hcut : Within [.trust] [] s.body c ∧ c.trust = { s.body.trust with nextTrial := true } := by
    rw [← hc]
    exact ⟨by constructor <;> simp (disch := decide), rfl⟩
  have hf : fwActivate false t.body s.body = (.ok (leBytes 1 (stageSlot s.body) ++ leBytes 1 0 ++ leBytes 6 0), c) := by
    rw [fwActivate_ready hbusy hi, ← hc]
    rfl
  obtain ⟨d, hx, ha, hw⟩ := runsS_acted (q := .fwActivateDeferred m) h (actionIs_of hwhen) rfl hf (by rw [hcut.1.mbx_eq (by decide), ht])
  exact ⟨d, hx, (hcut.1.only.mono (by decide)).trans (hw.only.mono (by decide)), (hw.same (p := .trust) (by decide)).trans hcut.2, ha⟩

theorem fwActivate_missing (h : Asked m 0x0802 t s.body) (hbusy : fwBusy s.body = false) (hi : slotImage s.body (stageSlot s.body) = none)
    (hwhen : (t.body.getD 0 0).toNat = 1) : Runs (.fwActivateNow m) s [.host, .regs] (Refused m t 0x0A none 0) := by
  obtain ⟨b, hb, ho, hr⟩ := runs_refused (c := .fwActivateNow m) (f := fwActivate true) h (actionIs_of hwhen) rfl (by
    unfold fwActivate
    simp only [hbusy, hi, Option.isNone_none, Bool.false_eq_true, if_false, if_true]
    rfl)
  exact ⟨b, hb, ho.mono (by decide), hr⟩

theorem fwActivate_trial (h : Asked m 0x0802 t s.body) (hbusy : fwBusy s.body = false) (hi : (slotImage s.body (stageSlot s.body)).isSome = true)
    (hwhen : (t.body.getD 0 0).toNat = 1) (hstand : standbySh s.body = some w) :
    RunsS (.fwActivateNow m) s (fun u => trialOn u.body = true ∧ getF u.body R.SHP_FW_SLOTS.trial_slot 0 = stageSlot s.body
      ∧ shState u.body w = 5 ∧ Answered m t 0 (leBytes 1 (stageSlot s.body) ++ leBytes 1 1 ++ leBytes 6 0) u.body) := by
  obtain ⟨-, ht, -⟩ := id h
  obtain ⟨c, hc⟩ : ∃ c, setFlag s.body R.SHP_STATUS.handback_pending 0 false = c := ⟨_, rfl⟩
  have hset : Within [.regs] [R.SHP_STATUS.handback_pending] s.body c := hc ▸ setF_within (f := R.SHP_STATUS.handback_pending) 0 _ s.body (by decide) (by decide) (by decide)
  have hslot : stageSlot c = stageSlot s.body := by
    unfold stageSlot
    rw [hset.getF_eq (by decide) (by decide)]
  obtain ⟨d, hd⟩ : ∃ d, beginTrial (stageSlot s.body) c = d := ⟨_, rfl⟩
  obtain ⟨htrial, hshown⟩ := beginTrial_shows (stageSlot s.body) c
  rw [hd] at htrial hshown
  have hdm : mbx d m = mbx c m := by
    rw [← hd]
    unfold beginTrial
    rw [fwEvent_mbx]
    simp [setFlag, mbx, updTrust]
  obtain ⟨e, he⟩ : ∃ e, startRestart w d = e := ⟨_, rfl⟩
  have hrestart := startRestart_within w d
  have hfive := (startRestart_shows w d).1
  have hem := startRestart_mbx w m d
  rw [he] at hrestart hfive hem
  have hf : fwActivate true t.body s.body = (.ok (leBytes 1 (stageSlot s.body) ++ leBytes 1 1 ++ leBytes 6 0), e) := by
    rw [fwActivate_ready hbusy hi]
    refine congrArg (Prod.mk _) ?_
    unfold activate startTrial
    simp only [if_true, hc, standbySh_eq hset (by decide) (by decide), hstand, hslot, hd, he]
  obtain ⟨g, hx, ha, hw⟩ := runsS_acted (q := .fwActivateNow m) h (actionIs_of hwhen) rfl hf (by rw [hem, hdm, hset.mbx_eq (by decide), ht])
  refine ⟨_, hx, rfl, ?_, ?_, ?_, ha⟩
  · exact (hw.flagF_eq (by decide) (by decide) 0).trans ((hrestart.flagF_eq (by decide) (by decide) 0).trans htrial)
  · refine (hw.getF_eq (by decide) (by decide) 0).trans ((hrestart.getF_eq (by decide) (by decide) 0).trans (hshown.trans (Nat.mod_eq_of_lt ?_)))
    show stageSlot s.body < 2
    unfold stageSlot
    omega
  · exact (shState_congr hw.fields (by decide) (by decide) w).trans hfive

/-! ### The trial (R575, R636) -/

theorem stateRecord_tends (b : Body) : Tends [] b (stateRecord b) := by
  unfold stateRecord
  split
  · have hsh : ∀ v f, Tends [] b (updSh v f b) := (Tends.refl [] b).updSh
    exact .ite (updLog_tends (hsh _ _) _) (.refl _ b)
  · exact .refl _ b

theorem trialSwitch_switches (hw : w < 2) (hdef : s.body.trust.deferred = false) (hon : trialOn s.body = true) (hstand : standbySh s.body = some w)
    (hact : activeSh s.body = some (1 - w)) (hmay : maySwitch s.body = true) (hruns : (shepherd s.body w).slot = bootSlot s.body)
    (hother : (shepherd s.body (1 - w)).slot ≠ bootSlot s.body) (hin : s.body.host.inbox = [])
    (hsince : (shepherd s.body w).standbySince + 10000000000 ≤ s.body.now) :
    RunsS .fwTrialSwitch s (fun u => shState u.body w = 4 ∧ shState u.body (1 - w) = 5 ∧ getF u.body R.SHP_STATUS.active 0 = w) := by
  obtain ⟨c, hc⟩ : ∃ c, updTrust (fun t => { t with returning := false }) (stateRecord s.body) = c := ⟨_, rfl⟩
  have hrecord : c.host.inbox = s.body.host.inbox := by
    rw [← hc]
    exact (stateRecord_tends s.body).inbox
  obtain ⟨d, hd⟩ : ∃ d, startRestart (1 - w) c = d := ⟨_, rfl⟩
  have hrestart := startRestart_tends (1 - w) c
  have hfive := (startRestart_shows (1 - w) c).1
  rw [hd] at hrestart hfive
  obtain ⟨g, hg⟩ : ∃ g, makeActive w d = g := ⟨_, rfl⟩
  have hmade : MadeActive w d g := hg ▸ makeActive_shows hw d
  have hpassed : passed s.body (shepherd s.body w).standbySince 10000000000 = true := decide_eq_true hsince
  have hx : trialSwitch s = { s with body := g } := by
    unfold trialSwitch
    simp only [hdef, hstand, hact, hon, hpassed, hmay, hruns, hc, hd, hg, Bool.false_eq_true, if_false]
    rw [if_pos (by simp [hother])]
    exact drainInbox_of_empty (hmade.tends.inbox.trans (hrestart.inbox.trans (hrecord.trans hin)))
  exact runsS_of_next rfl hx rfl ⟨hmade.writes.1, hmade.other.trans hfive, hmade.writes.2.1⟩

theorem trialSwitch_stays (hdef : s.body.trust.deferred = false) (hon : trialOn s.body = false) (hret : s.body.trust.returning = false) : trialSwitch s = s := by
  unfold trialSwitch
  simp only [hdef, hon, hret, Bool.false_eq_true, if_false]
  split
  · exact if_neg (by simp)
  · rfl

theorem trialConfirm_confirms {i : Nat} (hset : trialSettled s.body = true) (hsince : s.body.trust.trialSince = some i) (hpassed : i + 600000000000 ≤ s.body.now) :
    RunsS .fwTrialConfirm s (fun u => trialOn u.body = false ∧ u.body.trust.confirmed = getF s.body R.SHP_FW_SLOTS.trial_slot 0) := by
  have hlong : passed s.body i 600000000000 = true := decide_eq_true hpassed
  obtain ⟨slot, hslot⟩ : ∃ slot, getF s.body R.SHP_FW_SLOTS.trial_slot 0 = slot := ⟨_, rfl⟩
  obtain ⟨n, hn⟩ : ∃ n, max (getF s.body R.SHP_FW_SLOTS.svn_min 0) (((slotImage s.body slot).map (·.svn)).getD 0) = n := ⟨_, rfl⟩
  obtain ⟨k, hk⟩ : ∃ k, ((slotImage s.body slot).map (·.revoke)).getD 0 = k := ⟨_, rfl⟩
  obtain ⟨c, hc⟩ : ∃ c, updTrust (fun t => { t with confirmed := slot, trialSince := none, revoked := t.revoked.lor k }) (setF s.body R.SHP_FW_SLOTS.svn_min 0 n) = c := ⟨_, rfl⟩
  have hconf : c.trust.confirmed = slot := by rw [← hc]; rfl
  obtain ⟨d, hd⟩ : ∃ d, setFlag c R.SHP_FW_SLOTS.trial 0 false = d := ⟨_, rfl⟩
  have hoff : flagF d R.SHP_FW_SLOTS.trial 0 = false := hd ▸ flagF_setFlag_same c _ 0 false (by decide)
  have hdt : d.trust = c.trust := by
    rw [← hd]
    simp
  have hev := fwEvent_within 3 slot d
  have hx : trialConfirm s.body = fwEvent 3 slot d := by
    unfold trialConfirm
    rw [if_pos ⟨hset, by rw [hsince, Option.any_some, hlong]⟩]
    simp only [hslot, hn, hk, hc, hd]
  refine runsS_of_lift (f := trialConfirm) rfl hx ⟨?_, ?_⟩
  · exact (hev.flagF_eq (by decide) (by decide) 0).trans hoff
  · exact (congrArg Trust.confirmed ((hev.same (p := .trust) (by decide)).trans hdt)).trans (hconf.trans hslot.symm)

theorem trialConfirm_stays (h : trialSettled b = false ∨ b.trust.trialSince = none ∨ ∃ t, b.trust.trialSince = some t ∧ b.now < t + 600000000000) : trialConfirm b = b := by
  refine if_neg fun ⟨hset, hsince⟩ => ?_
  obtain h | h | ⟨i, h, hlt⟩ := h
  · rw [h] at hset
    cases hset
  · rw [h] at hsince
    cases hsince
  · rw [h, Option.any_some] at hsince
    have := of_decide_eq_true hsince
    omega

theorem endTrial_shows (b : Body) : Tends [R.SHP_FW_SLOTS.trial, R.IRQ_CAUSE.cause] b (endTrial b) ∧ trialOn (endTrial b) = false ∧ (endTrial b).trust.trialSince = none := by
  obtain ⟨c, hc⟩ : ∃ c, updTrust (fun t => { t with trialSince := none }) b = c := ⟨_, rfl⟩
  have hcut : Tends [] b c ∧ c.trust.trialSince = none := by
    rw [← hc]
    exact ⟨(Tends.refl [] b).of_regs rfl rfl, rfl⟩
  obtain ⟨slot, hslot⟩ : ∃ slot, getF b R.SHP_FW_SLOTS.trial_slot 0 = slot := ⟨_, rfl⟩
  obtain ⟨d, hd⟩ : ∃ d, setFlag c R.SHP_FW_SLOTS.trial 0 false = d := ⟨_, rfl⟩
  have hset : Tends [R.SHP_FW_SLOTS.trial] c d := hd ▸ (Tends.refl _ c).setF List.mem_cons_self (by decide) 0 _
  have hoff : flagF d R.SHP_FW_SLOTS.trial 0 = false := hd ▸ flagF_setFlag_same c _ 0 false (by decide)
  have hdt : d.trust = c.trust := by
    rw [← hd]
    simp
  have hx : endTrial b = fwEvent 4 slot d := by
    unfold endTrial
    simp only [hslot, hc, hd]
  rw [hx]
  have hev := fwEvent_within 4 slot d
  refine ⟨?_, (hev.flagF_eq (by decide) (by decide) 0).trans hoff, ?_⟩
  · exact (hcut.1.mono (List.nil_subset _)).trans ((hset.mono (by decide)).trans ((fwEvent_tends 4 slot d).mono (by decide)))
  · rw [(hev.same (p := .trust) (by decide)), hdt, hcut.2]

theorem trialFail_ends (hw : w < 2) (hon : trialOn s.body = true) (hslot : (shepherd s.body w).slot = getF s.body R.SHP_FW_SLOTS.trial_slot 0)
    (hst : shState s.body w = 2 ∨ shState s.body w = 5) :
    RunsS (.fwTrialFail w) s (fun u => trialOn u.body = false ∧ shState u.body w = 5 ∧ u.body.trust.trialSince = none) := by
  obtain ⟨c, hc⟩ : ∃ c, endTrial s.body = c := ⟨_, rfl⟩
  obtain ⟨-, hoff, hsince⟩ := endTrial_shows s.body
  rw [hc] at hoff hsince
  obtain ⟨r, hr⟩ : ∃ r, ((shepherd c (1 - w)).slot == getF s.body R.SHP_FW_SLOTS.trial_slot 0 && shState c (1 - w) == 4) = r := ⟨_, rfl⟩
  obtain ⟨d, hd⟩ : ∃ d, updTrust (fun t => { t with returning := r }) c = d := ⟨_, rfl⟩
  have hdp : trialOn d = false ∧ d.trust.trialSince = none := by
    rw [← hd]
    exact ⟨hoff, hsince⟩
  have hrestart := startRestart_within w d
  have hfive := (startRestart_shows w d).1
  have hx : trialFail w s.body = startRestart w d := by
    unfold trialFail
    simp only []
    rw [if_neg (by
      obtain h | h := hst <;> simp [hon, hslot, h]), hc, hr, hd, if_pos hst]
  refine runsS_of_lift (f := trialFail w) (lift_of_onUnit (by simpa [isShepherd] using hw)) hx ⟨?_, hfive, ?_⟩
  · exact (hrestart.flagF_eq (by decide) (by decide) 0).trans hdp.1
  · exact (congrArg Trust.trialSince (hrestart.same (p := .trust) (by decide))).trans hdp.2

theorem trialFail_off (h : trialOn b = false) : trialFail w b = b := if_pos (.inl (by rw [h]; rfl))

end Trial

end Sys2Proof.Machine

/-! Accords and nonces (R552, R553, R562 to R569, R594). -/

namespace Sys2Proof.Machine

section Accords

variable {b c : Body} {s : State} {m : Nat} {t : Taken} {x : Accord} {i : AccItem}

/-! ### A request that is used up (R562, R563) -/

/-- The nonce of a request and the sequence numbers of its signers are used up. -/
def UsedUp (x : Accord) (b c : Body) : Prop :=
  c.trust.seqP = (if x.signers.contains 1 then x.seq else b.trust.seqP)
    ∧ c.trust.seqT = (if x.signers.contains 2 then x.seq else b.trust.seqT)
    ∧ ∀ y ∈ c.trust.nonces, y ∈ b.trust.nonces ∧ ¬ (y.party = x.nonceParty ∧ y.value = x.nonce)

/-- The body in which a request is used up. -/
def usedUp (x : Accord) (b : Body) : Body := useUp x.signers x.nonceParty x.nonce x.seq b

theorem usedUp_within (x : Accord) (b : Body) : Within [.trust] [] b (usedUp x b) := by
  unfold usedUp useUp
  constructor <;> simp (disch := decide)

theorem usedUp_usedUp (x : Accord) (b : Body) : UsedUp x b (usedUp x b) := by
  refine ⟨rfl, rfl, fun y hy => ?_⟩
  obtain ⟨hmem, hne⟩ := List.mem_filter.1 (show y ∈ b.trust.nonces.filter (fun n => !(n.party == x.nonceParty && n.value == x.nonce)) from hy)
  exact ⟨hmem, fun h => by simp [h.1, h.2] at hne⟩

theorem UsedUp.of_trust {d : Body} (h : UsedUp x b c) (ht : d.trust = c.trust) : UsedUp x b d := by
  unfold UsedUp at h ⊢
  rw [ht]
  exact h

/-! ### The course of a request (R567) -/

theorem accordRun_faulty {op off : Nat} {body : List Byte} (h : accordFault op body = some off) : accordRun m op body b = (badField off, b) := by
  unfold accordRun
  rw [h]

theorem accordRun_unsigned {op d : Nat} {body : List Byte} (h : accordFault op body = none) (hs : accordSigned m op body (readAccord op body).1 b = some d) :
    accordRun m op body b = (.no 6 none d, accordRefused m op (readAccord op body).1 (.no 6 none d) b) := by
  unfold accordRun
  rw [h]
  simp only [hs]

section Signed

variable {op : Nat} {body : List Byte} (hfault : accordFault op body = none) (hx : (readAccord op body).1 = x) (hs : accordSigned m op body x b = none) (hi : x.items = [i])
include hfault hx hs hi

theorem accordRun_refused {r : Reply} (hr : itemCheck x (usedUp x b) i = some r) : accordRun m op body b = (r, accordRefused m op x r (usedUp x b)) := by
  unfold accordRun
  rw [hfault]
  simp only [hx, hs, hi]
  unfold usedUp at hr ⊢
  simp only [List.filterMap_cons, hr, List.head?_cons]

theorem accordRun_applies (hr : itemCheck x (usedUp x b) i = none) (hbusy : debugBusy x (usedUp x b) = false) :
    accordRun m op body b = (if op = 0x0503 then .later else .ok (leBytes 8 x.seq), accordRecord m x [itemOld (usedUp x b) i] (itemApply m (usedUp x b) i)) := by
  unfold accordRun
  rw [hfault]
  simp only [hx, hs, hi]
  unfold usedUp at hr hbusy ⊢
  simp only [List.filterMap_cons, hr, List.filterMap_nil, List.head?_nil, hbusy, Bool.false_eq_true, if_false, List.map_cons, List.map_nil, List.foldl_cons, List.foldl_nil]

end Signed

theorem accordRefused_within (op : Nat) (x : Accord) (r : Reply) (b : Body) : Within [.logbook] [] b (accordRefused m op x r b) := by
  unfold accordRefused
  split
  · exact logFrom_within _ _ _ _
  · exact .refl _ _ b

theorem debugBusy_usedUp (x y : Accord) (b : Body) : debugBusy y (usedUp x b) = debugBusy y b := rfl

/-! ### The reserve (R422, R565) -/

theorem itemCheck_reserve (hcode : i.code = 0x0005) (x : Accord) (b : Body) : itemCheck x b i =
    if itemInt i < 30 ∨ 60 < itemInt i then some (badField (i.at_ + 8)) else if x.form = 2 ∧ itemInt i < itemNow b 5 then some (.no 7 none 0) else none := by
  unfold itemCheck
  rw [hcode]
  simp [itemRange]

theorem itemCheck_reserve_usedUp (hcode : i.code = 0x0005) (x y : Accord) (b : Body) : itemCheck y (usedUp x b) i = itemCheck y b i := by
  rw [itemCheck_reserve hcode, itemCheck_reserve hcode]
  rfl

theorem itemApply_reserve (hcode : i.code = 0x0005) (b : Body) : itemApply m b i = setF b R.LDG_RESERVE.reserve_mj 0 ((itemInt i).toNat * 1000000) := by
  unfold itemApply
  simp only [hcode]

/-! ### ACCORD_SUBMIT (R552) -/

section Submit

variable (h : Asked m 0x0701 t s.body)
include h

theorem accordSubmit_faulty {off : Nat} (hf : accordFault 0x0701 t.body = some off) : Runs (.accordSubmit m) s [.host, .regs] (Refused m t 0x0A (some (16 + off)) 0) := by
  obtain ⟨d, hx, hr, hw⟩ := runsS_refused (q := .accordSubmit m) h (sel := anyAction) rfl rfl (accordRun_faulty hf) h.2.1
  exact ⟨d, hx, hw.only.mono (by decide), hr⟩

variable (hfault : accordFault 0x0701 t.body = none) (hxa : (readAccord 0x0701 t.body).1 = x)
include hfault hxa

theorem accordSubmit_unsigned {d : Nat} (hs : accordSigned m 0x0701 t.body x s.body = some d) :
    Runs (.accordSubmit m) s [.host, .regs, .logbook] (Refused m t 6 none d) := by
  have hlog := accordRefused_within (m := m) 0x0701 x (.no 6 none d) s.body
  have hf := accordRun_unsigned (m := m) (b := s.body) hfault (by rw [hxa]; exact hs)
  rw [hxa] at hf
  obtain ⟨e, hx, hr, hw⟩ := runsS_refused (q := .accordSubmit m) h (sel := anyAction) rfl rfl hf (by rw [hlog.mbx_eq (by decide)]; exact h.2.1)
  exact ⟨e, hx, (hlog.only.mono (by decide)).trans (hw.only.mono (by decide)), hr⟩

variable (hs : accordSigned m 0x0701 t.body x s.body = none) (hi : x.items = [i]) (hcode : i.code = 0x0005)
include hs hi hcode

theorem accordSubmit_reserve (hr : itemCheck x s.body i = none) (hbusy : debugBusy x s.body = false) :
    Runs (.accordSubmit m) s [.host, .regs, .logbook, .trust] (fun b => Answered m t 0 (leBytes 8 x.seq) b ∧ UsedUp x s.body b
      ∧ getF b R.LDG_RESERVE.reserve_mj 0 = (itemInt i).toNat * 1000000) := by
  have hrange : ¬(itemInt i < 30 ∨ 60 < itemInt i) := fun hout => by
    rw [itemCheck_reserve hcode, if_pos hout] at hr
    cases hr
  have hf := accordRun_applies hfault hxa hs hi (by rw [itemCheck_reserve_usedUp hcode]; exact hr) (by rw [debugBusy_usedUp]; exact hbusy)
  rw [if_neg (by decide), itemApply_reserve hcode] at hf
  have hused := usedUp_within x s.body
  have hup := usedUp_usedUp x s.body
  obtain ⟨c, hc⟩ : ∃ c, usedUp x s.body = c := ⟨_, rfl⟩
  rw [hc] at hf hused hup
  obtain ⟨d, hd⟩ : ∃ d, setF c R.LDG_RESERVE.reserve_mj 0 ((itemInt i).toNat * 1000000) = d := ⟨_, rfl⟩
  have hset : Within [.regs] [R.LDG_RESERVE.reserve_mj] c d := hd ▸ setF_within 0 _ c (by decide) (by decide) (by decide)
  have hval : getF d R.LDG_RESERVE.reserve_mj 0 = (itemInt i).toNat * 1000000 := by
    rw [← hd]
    refine getF_setF_fits (show (itemInt i).toNat * 1000000 < 2 ^ 32 from ?_)
    omega
  rw [hd] at hf
  obtain ⟨g, hg⟩ : ∃ g, accordRecord m x [itemOld c i] d = g := ⟨_, rfl⟩
  have hrec : Within [.logbook] [] d g := hg ▸ logFrom_within _ _ _ d
  rw [hg] at hf
  obtain ⟨e, hx, ha, hw⟩ := runsS_acted (q := .accordSubmit m) h (sel := anyAction) rfl rfl hf
    (by rw [hrec.mbx_eq (by decide), hset.mbx_eq (by decide), hused.mbx_eq (by decide)]; exact h.2.1)
  refine ⟨e, hx, ?_, ha, hup.of_trust ?_, ?_⟩
  · exact ((hused.only.mono (by decide)).trans (hset.only.mono (by decide))).trans ((hrec.only.mono (by decide)).trans (hw.only.mono (by decide)))
  · exact (hw.same (p := .trust) (by decide)).trans ((hrec.same (p := .trust) (by decide)).trans (hset.same (p := .trust) (by decide)))
  · rw [hw.getF_eq (by decide) (by decide), hrec.getF_eq (by decide) (by decide), hval]

theorem accordSubmit_refusedItem {r : Nat} (hr : (r = 0x0A ∧ (itemInt i < 30 ∨ 60 < itemInt i)) ∨ (r = 7 ∧ 30 ≤ itemInt i ∧ itemInt i ≤ 60 ∧ x.form = 2 ∧ itemInt i < itemNow s.body 5)) :
    Runs (.accordSubmit m) s [.host, .regs, .logbook, .trust] (fun b => Refused m t r (if r = 7 then none else some (16 + (i.at_ + 8))) 0 b ∧ UsedUp x s.body b) := by
  have hcheck : itemCheck x (usedUp x s.body) i = some (.no r (if r = 7 then none else some (16 + (i.at_ + 8))) 0) := by
    rw [itemCheck_reserve_usedUp hcode, itemCheck_reserve hcode]
    obtain ⟨rfl, hout⟩ | ⟨rfl, hlo, hhi, hform, hlow⟩ := hr
    · rw [if_pos hout]
      rfl
    · rw [if_neg (by omega), if_pos ⟨hform, hlow⟩]
      rfl
  obtain ⟨off, hoff⟩ : ∃ off, (if r = 7 then none else some (16 + (i.at_ + 8))) = off := ⟨_, rfl⟩
  rw [hoff] at hcheck ⊢
  have hf := accordRun_refused hfault hxa hs hi hcheck
  have hused := usedUp_within x s.body
  have hup := usedUp_usedUp x s.body
  obtain ⟨c, hc⟩ : ∃ c, usedUp x s.body = c := ⟨_, rfl⟩
  rw [hc] at hf hused hup
  have hlog := accordRefused_within (m := m) 0x0701 x (.no r off 0) c
  obtain ⟨e, hx, ha, hw⟩ := runsS_refused (q := .accordSubmit m) h (sel := anyAction) rfl rfl hf
    (by rw [hlog.mbx_eq (by decide), hused.mbx_eq (by decide)]; exact h.2.1)
  refine ⟨e, hx, ?_, ha, hup.of_trust ((hw.same (p := .trust) (by decide)).trans (hlog.same (p := .trust) (by decide)))⟩
  exact (hused.only.mono (by decide)).trans ((hlog.only.mono (by decide)).trans (hw.only.mono (by decide)))

end Submit

/-! ### LOGBOOK_CLEAR (R550, R594) -/

/-- Going from `b` to `c`, the trust state and the mailboxes stay. -/
structure KeepsTrust (b c : Body) : Prop where
  trust : c.trust = b.trust
  mailboxes : ∀ k, mbx c k = mbx b k

theorem KeepsTrust.trans {d : Body} (h : KeepsTrust b c) (k : KeepsTrust c d) : KeepsTrust b d := ⟨k.trust.trans h.trust, fun j => (k.mailboxes j).trans (h.mailboxes j)⟩

theorem KeepsTrust.updLog (h : KeepsTrust b c) (f : Logbook → Logbook) : KeepsTrust b (updLog f c) := ⟨h.trust, h.mailboxes⟩

theorem KeepsTrust.of_within {ps : List Part} {fs : List Field} (h : Within ps fs b c) (ht : Part.trust ∉ ps) (hh : Part.host ∉ ps) : KeepsTrust b c :=
  ⟨h.same (p := .trust) ht, h.mbx_eq hh⟩

theorem KeepsTrust.ite {P : Prop} [Decidable P] {d : Body} (h : KeepsTrust b c) (k : KeepsTrust b d) : KeepsTrust b (if P then c else d) := by
  split <;> assumption

theorem eraseSector_keepsTrust (a x : Nat) (b : Body) : KeepsTrust b (eraseSector a x b) :=
  ⟨(eraseSector_shows a x b).2.2.2.same (p := .trust) (by decide), eraseSector_mbx a x b⟩

theorem beginClear_shows (areas m : Nat) (b : Body) : KeepsTrust b (beginClear areas m b) ∧ (beginClear areas m b).logbook.clearing.isSome = true := by
  have hrefl : ∀ d : Body, KeepsTrust d d := fun d => ⟨rfl, fun _ => rfl⟩
  have hset : ∀ (f : Field) (v : Bool) (d : Body), KeepsTrust d (setFlag d f 0 v) := fun f v d => ⟨by simp, fun k => mbx_setF _ _ _ _ _⟩
  have hplace : ∀ r p (d : Body), KeepsTrust d (placeRec r p d) := fun r p d => .ite ((hrefl d).updLog _) ((hrefl d).updLog _)
  have herase : ∀ as (d : Body), KeepsTrust d (forEach as (fun a b => eraseSector a 0 b) d) := fun as d =>
    forEach_keeps (P := KeepsTrust d) (fun a _ e he => he.trans (eraseSector_keepsTrust a 0 e)) (hrefl d)
  have hshow : ∀ d : Body, KeepsTrust d (showLog d) := fun d => .of_within (showLog_within d) (by decide) (by decide)
  have hclear : ∀ d : Body, (showLog d).logbook = d.logbook := fun d => (showLog_within d).same (p := .logbook) (by decide)
  constructor
  · unfold beginClear
    exact (((((((hrefl b).updLog _).trans (herase _ _)).trans (.ite (((hrefl _).updLog _).trans (hset _ _ _)) (hrefl _))).trans (.ite ((hrefl _).updLog _) (hrefl _))).trans
      (hplace _ _ _)).updLog _).trans ((hset _ _ _).trans (hshow _))
  · unfold beginClear
    simp only [hclear]
    rfl

theorem itemCheck_clear_usedUp (hcode : i.code = 0x0200) (x y : Accord) (b : Body) : itemCheck y (usedUp x b) i = itemCheck y b i := by
  have heq : ∀ c : Body, itemCheck y c i = if itemInt i = 0 then some (badField (i.at_ + 8)) else none := fun c => by
    unfold itemCheck
    rw [hcode]
    simp [itemRange]
  rw [heq, heq]

section Clear

variable (h : Asked m 0x0503 t s.body) (hfree : s.body.logbook.clearing = none)
include h hfree

theorem logbookClear_empty (hbody : t.body = []) : Runs (.logbookClear m) s [.host, .regs] (Refused m t 7 none 0) := by
  obtain ⟨d, hx, hr, hw⟩ := runsS_refused (q := .logbookClear m) h (sel := anyAction) rfl (f := logbookClear m) rfl (b := s.body) (st := 7) (off := none) (detail := 0)
    (by unfold logbookClear; rw [hfree, hbody]; rfl) h.2.1
  exact ⟨d, hx, hw.only.mono (by decide), hr⟩

theorem logbookClear_runs (hbody : t.body ≠ []) (hst : getF s.body R.TLY_STROKE_STATUS.state 0 ≠ 0) : Runs (.logbookClear m) s [.host, .regs] (Refused m t 1 none 2) := by
  have hf : logbookClear m t.body s.body = (.no 1 none 2, s.body) := by
    unfold logbookClear
    rw [hfree, if_neg (by simp), if_neg (by simpa using hbody), if_pos hst]
  obtain ⟨d, hx, hr, hw⟩ := runsS_refused (q := .logbookClear m) h (sel := anyAction) rfl rfl hf h.2.1
  exact ⟨d, hx, hw.only.mono (by decide), hr⟩

theorem logbookClear_begins (hbody : t.body ≠ []) (hst : getF s.body R.TLY_STROKE_STATUS.state 0 = 0) (hfault : accordFault 0x0503 t.body = none)
    (hxa : (readAccord 0x0503 t.body).1 = x) (hs : accordSigned m 0x0503 t.body x s.body = none) (hi : x.items = [i]) (hcode : i.code = 0x0200)
    (hr : itemCheck x s.body i = none) (hbusy : debugBusy x s.body = false) :
    RunsS (.logbookClear m) s (fun u => u.body.logbook.clearing.isSome = true ∧ (mbx u.body m).taken = some t ∧ UsedUp x s.body u.body) := by
  have hf := accordRun_applies hfault hxa hs hi (by rw [itemCheck_clear_usedUp hcode]; exact hr) (by rw [debugBusy_usedUp]; exact hbusy)
  have hused := usedUp_within x s.body
  have hup := usedUp_usedUp x s.body
  obtain ⟨c, hc⟩ : ∃ c, usedUp x s.body = c := ⟨_, rfl⟩
  rw [hc] at hf hused hup
  have happly : itemApply m c i = beginClear (itemInt i).toNat m c := by
    unfold itemApply
    simp only [hcode]
  rw [if_pos rfl, happly] at hf
  obtain ⟨hkeep, hclear⟩ := beginClear_shows (itemInt i).toNat m c
  obtain ⟨d, hd⟩ : ∃ d, beginClear (itemInt i).toNat m c = d := ⟨_, rfl⟩
  rw [hd] at hf hkeep hclear
  obtain ⟨g, hg⟩ : ∃ g, accordRecord m x [itemOld c i] d = g := ⟨_, rfl⟩
  have hrec : Within [.logbook] [] d g := hg ▸ logFrom_within _ _ _ d
  have hheld : g.logbook.clearing = d.logbook.clearing := hg ▸ (logFrom_held _ _ _ d).2
  rw [hg] at hf
  have hrun : logbookClear m t.body s.body = (.later, g) := by
    unfold logbookClear
    rw [hfree, if_neg (by simp), if_neg (by simpa using hbody), if_neg (not_not.2 hst), hf]
  have hx : exec (.logbookClear m) s = .next { s with body := g } := by
    show onUnitS (isMailbox m) (commandB m 0x0503 anyAction (logbookClear m)) s = _
    rw [onUnitS, if_pos (isMailbox_of_lt h.1), commandB_of_asked _ h rfl, hrun]
    rfl
  refine ⟨_, hx, rfl, ?_, ?_, hup.of_trust ?_⟩
  · rw [hheld, hclear]
  · rw [hrec.mbx_eq (by decide), hkeep.mailboxes, hused.mbx_eq (by decide)]
    exact h.2.1
  · exact (hrec.same (p := .trust) (by decide)).trans hkeep.trust

end Clear

/-! ### Nonces (R553, R562) -/

theorem drawBytes_shows : ∀ (n : Nat) (b : Body), (drawBytes n b).1.length = n ∧ Within [.free] [] b (drawBytes n b).2
  | 0, b => ⟨rfl, .refl _ _ b⟩
  | n + 1, b => by
    have hdraw : Within [.free] [] b (drawFree b).2 := ⟨fun p => by cases p <;> first | exact .inl (by decide) | exact .inr rfl, fun _ _ _ _ => rfl⟩
    obtain ⟨hlen, hrest⟩ := drawBytes_shows n (drawFree b).2
    exact ⟨congrArg (· + 1) hlen, hdraw.trans hrest⟩

/-- The nonces after one of a party is issued: a ninth ends the party's oldest. -/
def noncesWith (party : Nat) (v : List Byte) (b : Body) : List Nonce :=
  b.trust.nonces.filter (fun n => n.party != party) ++ (validNonces b party).drop ((validNonces b party).length + 1 - 8) ++ [⟨party, v, hourMs b⟩]

theorem issueNonce_eq (party : Nat) (b : Body) :
    issueNonce party b = ((drawBytes 32 b).1, updTrust (fun t => { t with nonces := noncesWith party (drawBytes 32 b).1 (drawBytes 32 b).2 }) (drawBytes 32 b).2) := rfl

theorem noncesWith_few (party : Nat) (v : List Byte) (b : Body) : ((noncesWith party v b).filter (fun y => y.party == party)).length ≤ 8 := by
  have hothers : ((b.trust.nonces.filter (fun n => n.party != party)).filter (fun y => y.party == party)) = [] :=
    List.filter_eq_nil_iff.2 fun y hy => by
      have hne := (List.mem_filter.1 hy).2
      simp at hne ⊢
      exact hne
  have hkeep : (((validNonces b party).drop ((validNonces b party).length + 1 - 8)).filter (fun y => y.party == party)).length ≤ 7 := by
    refine (List.length_filter_le _ _).trans ?_
    rw [List.length_drop]
    omega
  have hone : (List.filter (fun y : Nonce => y.party == party) [⟨party, v, hourMs b⟩]).length ≤ 1 := List.length_filter_le _ _
  unfold noncesWith
  rw [List.filter_append, List.filter_append, hothers, List.nil_append, List.length_append]
  omega

theorem issueNonce_shows (party : Nat) (b : Body) : (issueNonce party b).1.length = 32 ∧ Within [.free, .trust] [] b (issueNonce party b).2
    ∧ (⟨party, (issueNonce party b).1, hourMs b⟩ : Nonce) ∈ (issueNonce party b).2.trust.nonces
    ∧ ((issueNonce party b).2.trust.nonces.filter (fun y => y.party == party)).length ≤ 8 := by
  obtain ⟨hlen, hdraw⟩ := drawBytes_shows 32 b
  have hx := issueNonce_eq party b
  obtain ⟨v, hv⟩ : ∃ v, (drawBytes 32 b).1 = v := ⟨_, rfl⟩
  obtain ⟨c, hc⟩ : ∃ c, (drawBytes 32 b).2 = c := ⟨_, rfl⟩
  rw [hv, hc] at hx
  rw [hv] at hlen
  rw [hc] at hdraw
  have hhour : hourMs c = hourMs b := by
    have hhost : c.host = b.host := hdraw.same (p := .host) (by decide)
    have hnow : c.now = b.now := hdraw.same (p := .now) (by decide)
    unfold hourMs
    rw [hdraw.getF_eq (by decide) (by decide), hhost, hnow]
  rw [hx]
  refine ⟨hlen, ?_, ?_, noncesWith_few party v c⟩
  · refine (hdraw.mono (by decide) (List.Subset.refl _)).trans ?_
    constructor <;> simp (disch := decide)
  · rw [← hhour]
    exact List.mem_append_right _ (List.mem_singleton_self _)

theorem accordNonce_issues (h : Asked m 0x0702 t s.body) :
    Runs (.accordNonce m) s [.host, .regs, .trust, .free, .logbook] (fun b => ∃ v : List Byte, v.length = 32
      ∧ (⟨bfield t.body 0 1, v, hourMs s.body⟩ : Nonce) ∈ b.trust.nonces ∧ (b.trust.nonces.filter (fun y => y.party == bfield t.body 0 1)).length ≤ 8
      ∧ Answered m t 0 (v ++ leBytes 8 (serial s.body) ++ leBytes 8 (lastSeqOf s.body (bfield t.body 0 1))) b) := by
  obtain ⟨hlen, hw, hmem, hfew⟩ := issueNonce_shows (bfield t.body 0 1) s.body
  obtain ⟨v, hv⟩ : ∃ v, (issueNonce (bfield t.body 0 1) s.body).1 = v := ⟨_, rfl⟩
  obtain ⟨c, hc⟩ : ∃ c, (issueNonce (bfield t.body 0 1) s.body).2 = c := ⟨_, rfl⟩
  rw [hv] at hlen hmem
  rw [hc] at hw hmem hfew
  have hf : accordNonce t.body s.body = (.ok (v ++ leBytes 8 (serial s.body) ++ leBytes 8 (lastSeqOf s.body (bfield t.body 0 1))), c) := by
    unfold accordNonce
    simp only [hv, hc]
  obtain ⟨e, hx, ha, hfin⟩ := runsS_acted (q := .accordNonce m) h (sel := anyAction) rfl rfl hf (by rw [hw.mbx_eq (by decide)]; exact h.2.1)
  have htrust : e.trust = c.trust := hfin.same (p := .trust) (by decide)
  refine ⟨e, hx, (hw.only.mono (by decide)).trans (hfin.only.mono (by decide)), v, hlen, ?_, ?_, ha⟩
  · rw [htrust]
    exact hmem
  · rw [htrust]
    exact hfew

theorem nonceExpire_expires (s : State) : Runs .nonceExpire s [.trust] (fun b => b.trust = { s.body.trust with nonces := validNonces s.body 1 ++ validNonces s.body 2 }) :=
  runs_of_lift (f := nonceExpire) rfl rfl ((only_updTrust _ (by decide)).2 (Only.refl _ _)) rfl

end Accords

end Sys2Proof.Machine

/-! Attestation and the debug port (R570, R577, R578), and the obligation about firmware and trust (O53). -/

namespace Sys2Proof.Machine

section Spdm

variable {b c : Body} {s : State} {n w : Nat} (hn : n < 2)

/-! ### SPDM goes on in order (R577) -/

/-- An SPDM message as it stands in the messages sent. -/
def spdmMessage (n : Nat) (what : String) (code p1 p2 : Nat) (rest : List Byte) : Sent :=
  .response what ([n, if code = 0x04 then 0x10 else 0x12, code, p1, p2] ++ rest.map (·.toNat))

/-- The body in which a requester has come to a point. -/
def spdmCome (n now : Nat) (b : Body) : Body := updRack (fun r => { r with spdm := SMap.put r.spdm 0 n now }) b

theorem spdmAt_spdmCome (n now : Nat) (b : Body) : spdmAt (spdmCome n now b) n = now := SMap.get_put_same _ _ _ _

theorem spdmFrom_reached {least now : Nat} {f : Body → Body} (hon : shepherdActive b = true) (h : least ≤ spdmAt b n) : spdmFrom n least now f b = f (spdmCome n now b) := by
  unfold spdmFrom
  rw [if_neg (by simp [hon]), if_neg (by omega)]
  rfl

theorem spdmFrom_early {least now : Nat} {f : Body → Body} (hon : shepherdActive b = true) (h : spdmAt b n < least) : spdmFrom n least now f b = spdmError n 0x04 b := by
  unfold spdmFrom
  rw [if_neg (by simp [hon]), if_pos h]

include hn

theorem isSpdm_of_lt : isSpdm n = true := by simpa [isSpdm] using hn

section Answers

variable {q : Instr} {least now : Nat} {f : Body → Body} (hq : exec q s = onUnit (isSpdm n) (spdmFrom n least now f) s) (hon : shepherdActive s.body = true)
include hq hon

theorem spdm_early (h : spdmAt s.body n < least) : Runs q s [.sent] (fun b => b.sent = spdmMessage n "SPDM_ERROR" 0x7F 4 0 [] :: s.body.sent) := by
  refine runs_of_lift (hq.trans (lift_of_onUnit (isSpdm_of_lt hn))) (spdmFrom_early hon h) ?_ rfl
  unfold spdmError spdmSay
  simp (disch := decide)

theorem spdm_says {what : String} {code p1 p2 : Nat} {rest : List Byte} (h : least ≤ spdmAt s.body n)
    (hf : f (spdmCome n now s.body) = spdmSay n what code p1 p2 rest (spdmCome n now s.body)) :
    Runs q s [.sent, .rack] (fun b => b.sent = spdmMessage n what code p1 p2 rest :: s.body.sent ∧ spdmAt b n = now) := by
  refine runs_of_lift (hq.trans (lift_of_onUnit (isSpdm_of_lt hn))) ((spdmFrom_reached hon h).trans hf) ?_ ⟨rfl, spdmAt_spdmCome n now s.body⟩
  unfold spdmSay spdmCome
  simp (disch := decide)

end Answers

/-- An answer of SPDM in order, and an error out of order. -/
theorem spdm_answers {q : Instr} {least now : Nat} {what : String} {code p2 : Nat} {rest : List Byte} (hon : shepherdActive s.body = true) {f : Body → Body}
    (hq : exec q s = onUnit (isSpdm n) (spdmFrom n least now f) s) (hf : f (spdmCome n now s.body) = spdmSay n what code 0 p2 rest (spdmCome n now s.body)) :
    (least ≤ spdmAt s.body n → Runs q s [.sent, .rack] (fun b => b.sent = spdmMessage n what code 0 p2 rest :: s.body.sent ∧ spdmAt b n = now))
      ∧ (spdmAt s.body n < least → Runs q s [.sent] (fun b => b.sent = spdmMessage n "SPDM_ERROR" 0x7F 4 0 [] :: s.body.sent)) :=
  ⟨fun h => spdm_says hn hq hon h hf, fun h => spdm_early hn hq hon h⟩

omit hn in
theorem measurement_spdmCome (now ix : Nat) (b : Body) : measurementBlock (spdmCome n now b) ix = measurementBlock b ix := rfl

omit hn in
theorem measurementSummary_spdmCome (now kind : Nat) (b : Body) : measurementSummary (spdmCome n now b) kind = measurementSummary b kind := rfl

theorem spdmChallenge_slot {x kind : Nat} {nonce : List Byte} (hon : shepherdActive s.body = true) (h : 3 ≤ spdmAt s.body n) (hx : x ≠ 0) :
    Runs (.spdmChallenge n x kind nonce) s [.sent, .rack] (fun b => b.sent = spdmMessage n "SPDM_ERROR" 0x7F 1 0 [] :: s.body.sent) := by
  have hrun : spdmChallenge n x kind nonce s.body = spdmSay n "SPDM_ERROR" 0x7F 1 0 [] (spdmCome n 3 s.body) := by
    unfold spdmChallenge
    rw [spdmFrom_reached hon h]
    exact if_pos (.inl hx)
  refine runs_of_lift (f := spdmChallenge n x kind nonce) (lift_of_onUnit (isSpdm_of_lt hn)) hrun ?_ rfl
  unfold spdmSay spdmCome
  simp (disch := decide)

omit hn in
/-- What a message after the draw of free bytes changes. -/
theorem drawn_says {d : Body} {what : String} {code p1 p2 : Nat} {rest : List Byte} (hd : Within [.free] [] (spdmCome n 3 b) d) :
    Only [.sent, .rack, .free] b (spdmSay n what code p1 p2 rest d) ∧ (spdmSay n what code p1 p2 rest d).sent = spdmMessage n what code p1 p2 rest :: b.sent := by
  have hsent : d.sent = b.sent := hd.same (p := .sent) (by decide)
  have hcome : Only [.sent, .rack, .free] b (spdmCome n 3 b) := by
    unfold spdmCome
    simp (disch := decide)
  refine ⟨(hcome.trans (hd.only.mono (by decide))).trans ?_, ?_⟩
  · unfold spdmSay
    simp (disch := decide)
  · show _ :: d.sent = _
    rw [hsent]
    rfl

theorem spdmChallenge_answers {kind : Nat} {nonce : List Byte} (hon : shepherdActive s.body = true) (h : 3 ≤ spdmAt s.body n) (hk : kind = 0 ∨ kind = 1 ∨ kind = 255) :
    Runs (.spdmChallenge n 0 kind nonce) s [.sent, .rack, .free] (fun b => ∃ (v : List Byte) (k : Nat), v.length = 32
      ∧ b.sent = spdmMessage n "SPDM_CHALLENGE_AUTH" 0x03 0 1 ((sha384 Config.certificateChain ++ v ++ measurementSummary s.body kind ++ leBytes 2 0)
        ++ Config.deviceSignature (nonce ++ (sha384 Config.certificateChain ++ v ++ measurementSummary s.body kind ++ leBytes 2 0)) k) :: s.body.sent) := by
  obtain ⟨hlen, hdraw⟩ := drawBytes_shows 32 (spdmCome n 3 s.body)
  obtain ⟨v, hv⟩ : ∃ v, (drawBytes 32 (spdmCome n 3 s.body)).1 = v := ⟨_, rfl⟩
  obtain ⟨d, hd⟩ : ∃ d, (drawBytes 32 (spdmCome n 3 s.body)).2 = d := ⟨_, rfl⟩
  rw [hv] at hlen
  rw [hd] at hdraw
  obtain ⟨x, hx⟩ : ∃ x, sha384 Config.certificateChain ++ v ++ measurementSummary s.body kind ++ leBytes 2 0 = x := ⟨_, rfl⟩
  have hfree : Within [.free] [] (spdmCome n 3 s.body) (withFree d (d.free + 1)) :=
    hdraw.trans ⟨fun p => by cases p <;> first | exact .inl (by decide) | exact .inr rfl, fun _ _ _ _ => rfl⟩
  have hgood : ¬((0 : Nat) ≠ 0 ∨ (!([0, 1, 0xFF].contains kind)) = true) := by
    obtain rfl | rfl | rfl := hk <;> decide
  have hrun : spdmChallenge n 0 kind nonce s.body = spdmSay n "SPDM_CHALLENGE_AUTH" 0x03 0 1 (x ++ Config.deviceSignature (nonce ++ x) d.free) (withFree d (d.free + 1)) := by
    unfold spdmChallenge
    rw [spdmFrom_reached hon h]
    simp only [if_neg hgood, hv, hd, measurementSummary_spdmCome, hx]
    rfl
  obtain ⟨ho, hsent⟩ := drawn_says (what := "SPDM_CHALLENGE_AUTH") (code := 0x03) (p1 := 0) (p2 := 1) (rest := x ++ Config.deviceSignature (nonce ++ x) d.free) hfree
  refine runs_of_lift (f := spdmChallenge n 0 kind nonce) (lift_of_onUnit (isSpdm_of_lt hn)) hrun ho ⟨v, d.free, hlen, ?_⟩
  rw [hx]
  exact hsent

theorem spdmMeasurements_answers {ix : Nat} {nonce : List Byte} (hon : shepherdActive s.body = true) (h : 3 ≤ spdmAt s.body n) (h1 : 1 ≤ ix) (h8 : ix ≤ 8) :
    Runs (.spdmGetMeasurements n ix false nonce) s [.sent, .rack, .free] (fun b => ∃ v : List Byte, v.length = 32
      ∧ b.sent = spdmMessage n "SPDM_MEASUREMENTS" 0x60 0 0 (leBytes 1 1 ++ leBytes 3 (measurementBlock s.body ix).length ++ measurementBlock s.body ix ++ v ++ leBytes 2 0)
        :: s.body.sent) := by
  obtain ⟨hlen, hdraw⟩ := drawBytes_shows 32 (spdmCome n 3 s.body)
  obtain ⟨v, hv⟩ : ∃ v, (drawBytes 32 (spdmCome n 3 s.body)).1 = v := ⟨_, rfl⟩
  obtain ⟨d, hd⟩ : ∃ d, (drawBytes 32 (spdmCome n 3 s.body)).2 = d := ⟨_, rfl⟩
  rw [hv] at hlen
  rw [hd] at hdraw
  have hixs : (if ix = 0xFF then [1, 2, 3, 4, 5, 6, 7, 8] else if 1 ≤ ix ∧ ix ≤ 8 then [ix] else []) = [ix] := by
    rw [if_neg (by omega), if_pos ⟨h1, h8⟩]
  obtain ⟨x, hx⟩ : ∃ x, leBytes 1 1 ++ leBytes 3 (measurementBlock s.body ix).length ++ measurementBlock s.body ix ++ v ++ leBytes 2 0 = x := ⟨_, rfl⟩
  have hrun : spdmMeasurements n ix false nonce s.body = spdmSay n "SPDM_MEASUREMENTS" 0x60 0 0 x d := by
    unfold spdmMeasurements
    rw [spdmFrom_reached hon h]
    simp only [hixs, List.isEmpty_cons, List.flatMap_cons, List.flatMap_nil, List.append_nil, List.length_cons, List.length_nil, measurement_spdmCome, hv, hd]
    rw [if_neg (by simp), if_neg (show ¬ix = 0 by omega), ← hx]
    simp only [Bool.false_eq_true, if_false, List.append_nil, Nat.zero_add]
  obtain ⟨ho, hsent⟩ := drawn_says (what := "SPDM_MEASUREMENTS") (code := 0x60) (p1 := 0) (p2 := 0) (rest := x) hdraw
  refine runs_of_lift (f := spdmMeasurements n ix false nonce) (lift_of_onUnit (isSpdm_of_lt hn)) hrun ho ⟨v, hlen, ?_⟩
  rw [hx]
  exact hsent

omit hn

/-! ### The debug port (R570) -/

theorem debugOpen {l : Nat} (h1 : 1 ≤ l) (hl : l ≤ getF s.body R.SHP_TRUST.debug_level 0) :
    Runs (.debugPortAccess (.openSession l)) s [.trust, .logbook] (fun b => b.trust = { s.body.trust with session := l }) := by
  obtain ⟨c, hc⟩ : ∃ c, updTrust (fun t => { t with session := l }) s.body = c := ⟨_, rfl⟩
  have hcut : Only [.trust, .logbook] s.body c ∧ c.trust = { s.body.trust with session := l } := by
    rw [← hc]
    exact ⟨by simp (disch := decide), rfl⟩
  have hlog := logRec_within 0x106 [2, BitVec.ofNat 8 l] c
  exact runs_of_lift (f := debugPort (.openSession l)) rfl ((if_pos ⟨h1, hl⟩).trans (by rw [hc])) (hcut.1.trans (hlog.only.mono (by decide)))
    ((hlog.same (p := .trust) (by decide)).trans hcut.2)

theorem debugClose (s : State) : Runs (.debugPortAccess .closeSession) s [.trust, .logbook] (fun b => b.trust = { s.body.trust with session := 0 }) := by
  by_cases h : s.body.trust.session = 0
  · refine runs_of_lift (f := debugPort .closeSession) rfl (if_pos h) (Only.refl _ _) ?_
    rw [← h]
  · obtain ⟨c, hc⟩ : ∃ c, updTrust (fun t => { t with session := 0 }) s.body = c := ⟨_, rfl⟩
    have hcut : Only [.trust, .logbook] s.body c ∧ c.trust = { s.body.trust with session := 0 } := by
      rw [← hc]
      exact ⟨by simp (disch := decide), rfl⟩
    have hlog := logRec_within 0x106 [3, BitVec.ofNat 8 s.body.trust.session] c
    exact runs_of_lift (f := debugPort .closeSession) rfl ((if_neg h).trans (by rw [hc])) (hcut.1.trans (hlog.only.mono (by decide)))
      ((hlog.same (p := .trust) (by decide)).trans hcut.2)

theorem debugSay_updSh (w : Nat) (f : Shepherd → Shepherd) (b : Body) :
    Only [.host, .sent] b (debugSay [] (updSh w f b)) ∧ shepherd (debugSay [] (updSh w f b)) w = f (shepherd b w) := by
  refine ⟨?_, shepherd_updSh_same w f b⟩
  unfold debugSay updSh
  simp (disch := decide)

theorem debugHalts (hw : w < 2) (h : 2 ≤ debugRights s.body) : Runs (.debugPortAccess (.halt w)) s [.host, .sent] (fun b => (shepherd b w).halted = true)
    ∧ Runs (.debugPortAccess (.resume w)) s [.host, .sent] (fun b => (shepherd b w).halted = false) := by
  have hunit : isShepherd w = true := by simpa [isShepherd] using hw
  obtain ⟨ho, hs⟩ := debugSay_updSh w (fun x => { x with halted := true }) s.body
  obtain ⟨ho', hs'⟩ := debugSay_updSh w (fun x => { x with halted := false }) s.body
  exact ⟨runs_of_lift (f := debugPort (.halt w)) (lift_of_onUnit hunit) (if_pos h) ho (congrArg Shepherd.halted hs),
    runs_of_lift (f := debugPort (.resume w)) (lift_of_onUnit hunit) (if_pos h) ho' (congrArg Shepherd.halted hs')⟩

end Spdm

/-! ### The obligation -/

/-- Settles O53: each command of firmware and trust is followed to its answer; what the answer leaves is one lemma (`finish_ok_within`). -/
theorem firmwareAndTrust : Obligations.FirmwareAndTrust := by
  unfold Obligations.FirmwareAndTrust
  intro m w n t s hw hn
  have hunit : isShepherd w = true := by simpa [isShepherd] using hw
  refine ⟨?stage, ?activate, ?switch, ?noSwitch, ?confirm, ?noConfirm, ?fail, ?noFail, ?accord, ?clear, ?nonce, ?expire, ?spdm, ?opens, ?closes, ?halts, ?noHalt, ?noRead⟩
  case stage =>
    refine fun h => ⟨fun hbusy => ?_, fun hbusy ha hfit hlen => ?_, fun bs hbusy ha hfit hlen hread => fwStage_writes h hbusy ha hfit hlen hread⟩
    · exact fwStage_refuses h (if_pos hbusy)
    · refine fwStage_refuses h (off := some 24) ?_
      unfold fwStage
      simp only [hbusy, Bool.false_eq_true, if_false]
      rw [if_neg (by omega), if_pos hlen]
      rfl
  case activate =>
    exact fun h hbusy => ⟨fun hi hwhen => fwActivate_next h hbusy hi hwhen, fun hi hwhen hstand => fwActivate_trial h hbusy hi hwhen hstand,
      fun hi hwhen => fwActivate_missing h hbusy hi hwhen⟩
  case switch => exact fun hdef hon hstand hact hmay hruns hother hin hsince => trialSwitch_switches hw hdef hon hstand hact hmay hruns hother hin hsince
  case noSwitch => exact fun hdef hon hret => runs_stays rfl (trialSwitch_stays hdef hon hret)
  case confirm => exact fun i hset hsince hpassed => trialConfirm_confirms hset hsince hpassed
  case noConfirm => exact fun h => runs_same rfl (trialConfirm_stays h)
  case fail => exact fun hon hslot hst => trialFail_ends hw hon hslot hst
  case noFail => exact fun h => runs_same (lift_of_onUnit hunit) (trialFail_off h)
  case accord =>
    refine fun h => ⟨fun off hf => accordSubmit_faulty h hf, fun d hf hs => accordSubmit_unsigned h hf rfl hs, fun i hf hs hask hcode => ?_,
      fun i r hf hs hi hcode hr => accordSubmit_refusedItem h hf rfl hs hi hcode hr⟩
    obtain ⟨hi, hr, hbusy⟩ := hask
    exact accordSubmit_reserve h hf rfl hs hi hcode hr hbusy
  case clear =>
    refine fun h hfree => ⟨fun hbody => logbookClear_empty h hfree hbody, fun hbody hst => logbookClear_runs h hfree hbody hst, fun i hbody hst hf hs hask hcode => ?_⟩
    obtain ⟨hi, hr, hbusy⟩ := hask
    exact logbookClear_begins h hfree hbody hst hf rfl hs hi hcode hr hbusy
  case nonce => exact fun h => accordNonce_issues h
  case expire => exact nonceExpire_expires s
  case spdm =>
    refine fun hon => ⟨spdm_answers hn hon rfl rfl, spdm_answers hn hon rfl rfl, fun x y z => spdm_answers hn hon rfl rfl, spdm_answers hn hon rfl rfl,
      fun off len hoff => spdm_answers hn hon rfl (if_neg (by omega)), fun x kind nonce h hx => spdmChallenge_slot hn hon h hx,
      fun kind nonce h hk => spdmChallenge_answers hn hon h hk, fun ix nonce h h1 h8 => spdmMeasurements_answers hn hon h h1 h8⟩
  case opens => exact fun l h1 hl => debugOpen h1 hl
  case closes => exact debugClose s
  case halts => exact fun h => debugHalts hw h
  case noHalt => exact fun h x data => ⟨runs_same (f := debugPort (.halt w)) (lift_of_onUnit hunit) (if_neg (by omega)), runs_same (f := debugPort (.writeControl x data)) rfl (if_neg (by omega))⟩
  case noRead => exact fun h x k => runs_same (f := debugPort (.readControl x k)) rfl (if_neg (by omega))

end Sys2Proof.Machine
